-- ==== Sys2Proof/Word.lean ====
section
/-! DEFINITION. The word types of the GC8064: registers are 32 bits wide (00 R5), an Ember data word 24 bits, an
accumulator 56 bits (08 R278), and time is counted in 1/256 ns (02 R52). -/

namespace Sys2Proof

/-- A 32-bit register (R5). -/
abbrev Word := BitVec 32

/-- A byte of memory. -/
abbrev Byte := BitVec 8

/-- A 24-bit Ember data word. -/
abbrev D24 := BitVec 24

/-- A 56-bit Ember accumulator. -/
abbrev A56 := BitVec 56

/-- A 40-bit Ember address. -/
abbrev A40 := BitVec 40

/-- An instant or a length of time, in 1/256 ns. -/
abbrev Time := Nat

end Sys2Proof
end

