-- ==== Sys2Proof/Registers.lean ====
section
/-! DEFINITION. The names of every register the spec gives the GC8064, one constructor each, block by block; `Reg` adds the
instance (port, unit, loop, arm, ...). A field of a register is its register, lowest bit and width, under the name
REGISTER.FIELD of the spec. -/

namespace Sys2Proof

/-- Registers of the island clock and period page (R46-R49, R605). -/
inductive ClkReg where
  /-- Offset 0x000. -/
  | ISL_CLK
  /-- Offset 0x004. -/
  | ISL_STAT
  /-- Offset 0x008. -/
  | PERIOD_CFG
  /-- Offset 0x00C. -/
  | PERIOD_CNT
  /-- Offset 0x010. -/
  | PIN_REL
  /-- Offset 0x014. -/
  | PIN_STAT
  /-- Offset 0x018. -/
  | RST_STAT
  /-- Offset 0x01C. -/
  | RST_HELD
  deriving DecidableEq, Repr

/-- Registers of the time base (R78). -/
inductive TbReg where
  /-- Offset 0x000. -/
  | TB_CTRL
  /-- Offset 0x004. -/
  | TB_STAT
  /-- Offset 0x008. -/
  | TB_NOW_NS
  /-- Offset 0x00C. -/
  | TB_NOW_SEC_LO
  /-- Offset 0x010. -/
  | TB_NOW_SEC_HI
  /-- Offset 0x014. -/
  | TB_RATE
  /-- Offset 0x018. -/
  | TB_RATE_ACT
  /-- Offset 0x01C. -/
  | TB_OFFSET
  /-- Offset 0x020. -/
  | TB_UTC
  deriving DecidableEq, Repr

/-- Registers of the pulse outputs (R78). -/
inductive TpoReg where
  /-- Offset 0x00. -/
  | TPO_CTRL
  /-- Offset 0x04. -/
  | TPO_START_SEC_LO
  /-- Offset 0x08. -/
  | TPO_START_SEC_HI
  /-- Offset 0x0C. -/
  | TPO_START_NS
  /-- Offset 0x10. -/
  | TPO_START_FRAC
  /-- Offset 0x14. -/
  | TPO_PERIOD_NS
  /-- Offset 0x18. -/
  | TPO_PERIOD_FRAC
  /-- Offset 0x1C. -/
  | TPO_WIDTH_NS
  /-- Offset 0x20. -/
  | TPO_COUNT
  /-- Offset 0x24. -/
  | TPO_STAT
  /-- Offset 0x28. -/
  | TPO_FIRED
  /-- Offset 0x2C. -/
  | TPO_WIDTH_FRAC
  deriving DecidableEq, Repr

/-- Registers of the capture inputs (R78). -/
inductive TcapReg where
  /-- Offset 0x00. -/
  | TCAP_CTRL
  /-- Offset 0x04. -/
  | TCAP_HEAD_NS
  /-- Offset 0x08. -/
  | TCAP_HEAD_SEC_LO
  /-- Offset 0x0C. -/
  | TCAP_HEAD_SEC_HI
  /-- Offset 0x10. -/
  | TCAP_HEAD_INFO
  /-- Offset 0x14. -/
  | TCAP_OVF
  deriving DecidableEq, Repr

/-- Registers of the timestamp compensation (R78). -/
inductive TspReg where
  /-- Offset 0x00. -/
  | TSP_INGRESS
  /-- Offset 0x04. -/
  | TSP_EGRESS
  /-- Offset 0x08. -/
  | TSP_ASYM
  deriving DecidableEq, Repr

/-- Registers of the Ethernet ports (R89). -/
inductive EthReg where
  /-- Offset 0x000. -/
  | ETH_CTRL
  /-- Offset 0x004. -/
  | ETH_STAT
  /-- Offset 0x008. -/
  | ETH_MAC_LO
  /-- Offset 0x00C. -/
  | ETH_MAC_HI
  /-- Offset 0x010. -/
  | ETH_IP4
  /-- Offset 0x014 + 4 * k. -/
  | ETH_IP6 (k : Fin 4)
  /-- Offset 0x024. -/
  | ETH_VLAN
  /-- Offset 0x028. -/
  | ETH_RX_BUF
  /-- Offset 0x02C. -/
  | ETH_TX_BUF
  /-- Offset 0x030. -/
  | ETH_RX_HEAD
  /-- Offset 0x034. -/
  | ETH_RX_TAIL
  /-- Offset 0x038. -/
  | ETH_TX_HEAD
  /-- Offset 0x03C. -/
  | ETH_TX_TAIL
  /-- Offset 0x040. -/
  | ETH_RX_FRAMES
  /-- Offset 0x044. -/
  | ETH_TX_FRAMES
  /-- Offset 0x048. -/
  | ETH_RX_ERR
  /-- Offset 0x04C. -/
  | ETH_RX_DROP
  deriving DecidableEq, Repr

/-- Registers of the Ethernet management interface (R88-R90). -/
inductive MdioReg where
  /-- Offset 0x000. -/
  | ETH_MDIO_CMD
  /-- Offset 0x004. -/
  | ETH_MDIO_STAT
  deriving DecidableEq, Repr

/-- Registers of the joint ports (R120). -/
inductive PortReg where
  /-- Offset 0x000. -/
  | PWM_CTRL
  /-- Offset 0x004. -/
  | PWM_STAT
  /-- Offset 0x008. -/
  | PWM_MODE
  /-- Offset 0x00C. -/
  | PWM_DEAD
  /-- Offset 0x010. -/
  | PWM_MINON
  /-- Offset 0x014. -/
  | PWM_REFRESH
  /-- Offset 0x018. -/
  | TRIP_CFG
  /-- Offset 0x01C. -/
  | TRIP_STAT
  /-- Offset 0x020. -/
  | PWM_FLAGS
  /-- Offset 0x024. -/
  | OVR_CNT
  /-- Offset 0x028. -/
  | SHORT_CNT
  /-- Offset 0x02C. -/
  | TRIP_CNT
  /-- Offset 0x030. -/
  | CAL_STAT
  /-- Offset 0x034. -/
  | PWM_LIVE
  /-- Offset 0x100 + 8 * l. -/
  | EW_RISE (pl : Fin 2) (l : Fin 4)
  /-- Offset 0x104 + 8 * l. -/
  | EW_FALL (pl : Fin 2) (l : Fin 4)
  /-- Offset 0x120. -/
  | EW_COMMIT
  /-- Offset 0x140 + 8 * l. -/
  | ACT_RISE (l : Fin 4)
  /-- Offset 0x144 + 8 * l. -/
  | ACT_FALL (l : Fin 4)
  /-- Offset 0x160. -/
  | ACT_PERIOD
  deriving DecidableEq, Repr

/-- Registers of the current-sense filters (R136). -/
inductive SdfReg where
  /-- Offset 0x000. -/
  | SDF_CFG
  /-- Offset 0x004. -/
  | SDF_STAT
  /-- Offset 0x008. -/
  | SDF_GAIN_A
  /-- Offset 0x00C. -/
  | SDF_OFS_A
  /-- Offset 0x010. -/
  | SDF_GAIN_B
  /-- Offset 0x014. -/
  | SDF_OFS_B
  /-- Offset 0x018. -/
  | SDF_SAMPLE_A
  /-- Offset 0x01C. -/
  | SDF_SAMPLE_B
  /-- Offset 0x020. -/
  | SDF_PERIOD
  /-- Offset 0x024. -/
  | SDF_CLIP_CNT
  /-- Offset 0x028. -/
  | SDF_STUCK_CNT
  deriving DecidableEq, Repr

/-- Registers of the modulator clock page (R136). -/
inductive SdcReg where
  /-- Offset 0x000. -/
  | SDC_CTRL
  /-- Offset 0x004 + 4 * g. -/
  | SDC_DLY (g : Fin 9)
  /-- Offset 0x028. -/
  | SDC_STAT
  deriving DecidableEq, Repr

/-- Registers of the feedback units (R162). -/
inductive FbReg where
  /-- Offset 0x000. -/
  | FB_CTRL
  /-- Offset 0x004. -/
  | FB_CFG
  /-- Offset 0x008. -/
  | FB_SER
  /-- Offset 0x00C. -/
  | FB_STAT
  /-- Offset 0x010. -/
  | FB_POS_LO
  /-- Offset 0x014. -/
  | FB_POS_HI
  /-- Offset 0x018. -/
  | FB_PSAMP_LO
  /-- Offset 0x01C. -/
  | FB_PSAMP_HI
  /-- Offset 0x020. -/
  | FB_SPD_LO
  /-- Offset 0x024. -/
  | FB_SPD_HI
  /-- Offset 0x028. -/
  | FB_PSTAT
  /-- Offset 0x02C. -/
  | FB_LLIM_LO
  /-- Offset 0x030. -/
  | FB_LLIM_HI
  /-- Offset 0x034. -/
  | FB_ULIM_LO
  /-- Offset 0x038. -/
  | FB_ULIM_HI
  /-- Offset 0x03C. -/
  | FB_SST
  /-- Offset 0x040. -/
  | FB_ERR_CNT
  /-- Offset 0x044. -/
  | FB_ERR_LIM
  /-- Offset 0x048. -/
  | FB_JUMP
  /-- Offset 0x04C. -/
  | FB_SET_LO
  /-- Offset 0x050. -/
  | FB_SET_HI
  /-- Offset 0x054. -/
  | FB_IDX_LO
  /-- Offset 0x058. -/
  | FB_IDX_HI
  /-- Offset 0x05C. -/
  | FB_ENC
  /-- Offset 0x060. -/
  | CMP_CTRL
  /-- Offset 0x064. -/
  | CMP_POS_LO
  /-- Offset 0x068. -/
  | CMP_POS_HI
  /-- Offset 0x06C. -/
  | CMP_SPACE
  /-- Offset 0x070. -/
  | CMP_NEXT_LO
  /-- Offset 0x074. -/
  | CMP_NEXT_HI
  /-- Offset 0x078. -/
  | CMP_SKIP
  /-- Offset 0x07C. -/
  | CMP_HITS
  /-- Offset 0x080. -/
  | CMP_HIT_NS
  /-- Offset 0x084. -/
  | CMP_HIT_SEC_LO
  /-- Offset 0x088. -/
  | CMP_HIT_SEC_HI
  deriving DecidableEq, Repr

/-- Registers of the loop descriptors (R204). -/
inductive LdReg where
  /-- Offset 0x000. -/
  | LD_CTRL
  /-- Offset 0x004. -/
  | LD_STAT
  /-- Offset 0x008. -/
  | LD_PORT
  /-- Offset 0x00C. -/
  | LD_ADDR
  /-- Offset 0x010. -/
  | LD_SWAP
  /-- Offset 0x014. -/
  | LD_RAMP
  /-- Offset 0x018. -/
  | LD_DIN
  /-- Offset 0x01C. -/
  | LD_DOUT
  /-- Offset 0x020. -/
  | LD_DADJ
  /-- Offset 0x024. -/
  | LD_EANG
  /-- Offset 0x028. -/
  | LD_EOFS
  /-- Offset 0x02C. -/
  | LD_SUP_CFG
  /-- Offset 0x030. -/
  | LD_SUP_WARN
  /-- Offset 0x034. -/
  | LD_SUP_FAULT
  /-- Offset 0x038. -/
  | LD_WCET
  /-- Offset 0x03C. -/
  | LD_ENTRY
  /-- Offset 0x040. -/
  | LD_RUNS
  /-- Offset 0x044. -/
  | LD_OVR
  /-- Offset 0x048. -/
  | LD_BAD_CNT
  /-- Offset 0x04C. -/
  | LD_SUP_CNT
  /-- Offset 0x050. -/
  | LD_CYC_MAX
  /-- Offset 0x054. -/
  | LD_RES_MAX
  /-- Offset 0x080. -/
  | LD_REF_D
  /-- Offset 0x084. -/
  | LD_REF_Q
  /-- Offset 0x088. -/
  | LD_REF_COMMIT
  /-- Offset 0x090. -/
  | LD_SP_POS_LO
  /-- Offset 0x094. -/
  | LD_SP_POS_HI
  /-- Offset 0x098. -/
  | LD_SP_VEL
  /-- Offset 0x09C. -/
  | LD_SP_TFF
  /-- Offset 0x0A0. -/
  | LD_SP_COMMIT
  /-- Offset 0x100 + 0x100 * b + 4 * k. -/
  | LD_BANK (b : Fin 2) (k : Fin 64)
  /-- Offset 0x300 + 4 * k. -/
  | LD_S (k : Fin 8)
  deriving DecidableEq, Repr

/-- Registers of the motion planner (R245). -/
inductive PlnReg where
  /-- Offset 0x000. -/
  | PLN_CFG
  /-- Offset 0x004. -/
  | PLN_STAT
  /-- Offset 0x008. -/
  | PLN_MARGIN
  /-- Offset 0x00C. -/
  | PLN_TICKS
  /-- Offset 0x010. -/
  | PLN_MISS_CNT
  deriving DecidableEq, Repr

/-- Registers of the planned arms (R247). -/
inductive ArmReg where
  /-- Offset 0x000. -/
  | ARM_CTRL
  /-- Offset 0x004. -/
  | ARM_STAT
  /-- Offset 0x008. -/
  | ARM_QDEPTH
  /-- Offset 0x00C. -/
  | ARM_OVR
  /-- Offset 0x010. -/
  | ARM_ACC_SHARE
  /-- Offset 0x014. -/
  | ARM_STOP_RATE
  /-- Offset 0x018. -/
  | ARM_RATE
  /-- Offset 0x01C. -/
  | ARM_LAMBDA
  /-- Offset 0x020. -/
  | ARM_LAMBDA_K
  /-- Offset 0x024. -/
  | ARM_WEIGHT
  /-- Offset 0x028. -/
  | ARM_VNOM
  /-- Offset 0x02C. -/
  | ARM_VSAFE
  /-- Offset 0x030. -/
  | ARM_DONE_ID
  /-- Offset 0x100 + 0x20 * j + 0x00. -/
  | JNT_VMAX_LO (j : Fin 8)
  /-- Offset 0x100 + 0x20 * j + 0x04. -/
  | JNT_VMAX_HI (j : Fin 8)
  /-- Offset 0x100 + 0x20 * j + 0x08. -/
  | JNT_AMAX_LO (j : Fin 8)
  /-- Offset 0x100 + 0x20 * j + 0x0C. -/
  | JNT_AMAX_HI (j : Fin 8)
  /-- Offset 0x100 + 0x20 * j + 0x10. -/
  | JNT_OVS_LO (j : Fin 8)
  /-- Offset 0x100 + 0x20 * j + 0x14. -/
  | JNT_OVS_HI (j : Fin 8)
  /-- Offset 0x100 + 0x20 * j + 0x18. -/
  | JNT_TFF (j : Fin 8)
  deriving DecidableEq, Repr

/-- Registers of the step axes (R249). -/
inductive StpReg where
  /-- Offset 0x000. -/
  | STP_CTRL
  /-- Offset 0x004. -/
  | STP_STAT
  /-- Offset 0x008. -/
  | STP_CFG
  /-- Offset 0x00C. -/
  | STP_TIMING
  /-- Offset 0x010. -/
  | STP_VLIM
  /-- Offset 0x014. -/
  | STP_ACC
  /-- Offset 0x018. -/
  | STP_POS_LO
  /-- Offset 0x01C. -/
  | STP_POS_HI
  /-- Offset 0x020. -/
  | STP_TGT_LO
  /-- Offset 0x024. -/
  | STP_TGT_HI
  /-- Offset 0x028. -/
  | STP_SPD
  /-- Offset 0x02C. -/
  | STP_OVS
  /-- Offset 0x030. -/
  | STP_QDEPTH
  /-- Offset 0x034. -/
  | STP_MV_TGT_LO
  /-- Offset 0x038. -/
  | STP_MV_TGT_HI
  /-- Offset 0x03C. -/
  | STP_MV_V
  /-- Offset 0x040. -/
  | STP_MV_CMD
  /-- Offset 0x044. -/
  | STP_SET_LO
  /-- Offset 0x048. -/
  | STP_SET_HI
  /-- Offset 0x04C. -/
  | STP_QTH_HI
  /-- Offset 0x050. -/
  | STP_QTH_LO
  /-- Offset 0x054. -/
  | STP_IRUN
  /-- Offset 0x058. -/
  | STP_IHOLD
  /-- Offset 0x05C. -/
  | STP_QV
  /-- Offset 0x060. -/
  | STP_KP
  /-- Offset 0x064. -/
  | STP_KI
  /-- Offset 0x068. -/
  | STP_HOLD_DLY
  /-- Offset 0x06C. -/
  | STP_STEPS
  /-- Offset 0x070. -/
  | STP_DONE_ID
  /-- Offset 0x074. -/
  | STP_BAD
  deriving DecidableEq, Repr

/-- Registers of the microstep tables (R249). -/
inductive UstReg where
  /-- Offset 4 * k. -/
  | UST_ENTRY (k : Fin 256)
  deriving DecidableEq, Repr

/-- Registers of the Kiln instances (R275). -/
inductive KnReg where
  /-- Offset 0x000. -/
  | KN_CTRL
  /-- Offset 0x004. -/
  | KN_STAT
  /-- Offset 0x008. -/
  | KN_BUSY
  /-- Offset 0x00C. -/
  | KN_SOLVES
  /-- Offset 0x100 + 0x40 * c + 0x00. -/
  | KC_STAT (c : Fin 16)
  /-- Offset 0x100 + 0x40 * c + 0x04. -/
  | KC_SEQ_POST (c : Fin 16)
  /-- Offset 0x100 + 0x40 * c + 0x08. -/
  | KC_SEQ_PUB (c : Fin 16)
  /-- Offset 0x100 + 0x40 * c + 0x0C. -/
  | KC_SIG_DIM (c : Fin 16)
  /-- Offset 0x100 + 0x40 * c + 0x10. -/
  | KC_SIG_NNZ (c : Fin 16)
  /-- Offset 0x100 + 0x40 * c + 0x14. -/
  | KC_SIG_CRC (c : Fin 16)
  /-- Offset 0x100 + 0x40 * c + 0x18. -/
  | KC_BOUND (c : Fin 16)
  /-- Offset 0x100 + 0x40 * c + 0x1C. -/
  | KC_ITER (c : Fin 16)
  /-- Offset 0x100 + 0x40 * c + 0x20. -/
  | KC_CYC (c : Fin 16)
  /-- Offset 0x100 + 0x40 * c + 0x24. -/
  | KC_PIV (c : Fin 16)
  /-- Offset 0x100 + 0x40 * c + 0x28. -/
  | KC_REUSED (c : Fin 16)
  /-- Offset 0x100 + 0x40 * c + 0x2C. -/
  | KC_COLD (c : Fin 16)
  /-- Offset 0x100 + 0x40 * c + 0x30. -/
  | KC_SUPERSEDED (c : Fin 16)
  deriving DecidableEq, Repr

/-- Registers of the Stack (R360). -/
inductive StkReg where
  /-- Offset 0x000. -/
  | STK_CTRL
  /-- Offset 0x004. -/
  | STK_STAT
  /-- Offset 0x008. -/
  | STK_CFG
  /-- Offset 0x00C. -/
  | STK_SKEW_LIM
  /-- Offset 0x010 + 4 * k. -/
  | STK_DLY_TICK (k : Fin 4)
  /-- Offset 0x020. -/
  | STK_HOT_UP
  /-- Offset 0x024. -/
  | STK_HOT_DN
  /-- Offset 0x028. -/
  | STK_WARM_UP
  /-- Offset 0x02C. -/
  | STK_WARM_DN
  /-- Offset 0x030. -/
  | STK_FAIL_TASK
  /-- Offset 0x034. -/
  | STK_RELEASE
  /-- Offset 0x038. -/
  | STK_CANCEL
  /-- Offset 0x03C. -/
  | STK_DESC_CMD
  /-- Offset 0x040 + 4 * k. -/
  | STK_DESC_STAGE (k : Fin 16)
  /-- Offset 0x080. -/
  | STK_BUF_CMD
  /-- Offset 0x090 + 4 * k. -/
  | STK_BUF_STAGE (k : Fin 4)
  /-- Offset 0x100 + 4 * q. -/
  | STK_QSTAT (q : Fin 64)
  /-- Offset 0x200 + 4 * q. -/
  | STK_QCFG (q : Fin 64)
  /-- Offset 0x300 + 4 * q. -/
  | STK_QWAIT (q : Fin 64)
  /-- Offset 0x400 + 0x10 * t. -/
  | STK_TL_LOAD (t : Fin 16)
  /-- Offset 0x404 + 0x10 * t. -/
  | STK_TL_GAP (t : Fin 16)
  /-- Offset 0x408 + 0x10 * t. -/
  | STK_TL_MEM (t : Fin 16)
  /-- Offset 0x40C + 0x10 * t. -/
  | STK_TL_TASKS (t : Fin 16)
  /-- Offset 0x8000 + 8 * n. -/
  | STK_TS0 (n : Fin 4096)
  /-- Offset 0x8004 + 8 * n. -/
  | STK_TS1 (n : Fin 4096)
  deriving DecidableEq, Repr

/-- Registers of the interrupt controller (R382). -/
inductive IcReg where
  /-- Offset 4 * s. -/
  | IC_SRC_CFG (s : Fin 512)
  /-- Offset 0x800 + 4 * w. -/
  | IC_PEND (w : Fin 16)
  /-- Offset 0x840 + 4 * w. -/
  | IC_LIVE (w : Fin 16)
  /-- Offset 0x880 + 4 * w. -/
  | IC_CLAIMED (w : Fin 16)
  /-- Offset 0x8C0 + 4 * k. -/
  | IC_SW (k : Fin 2)
  /-- Offset 0x8C8 + 4 * k. -/
  | IC_SW_SET (k : Fin 2)
  /-- Offset 0x8D0 + 4 * k. -/
  | IC_SW_CLR (k : Fin 2)
  /-- Offset 0x900 + 4 * g. -/
  | IC_GRP_HOLD (g : Fin 16)
  /-- Offset 0xA00 + 4 * t. -/
  | IC_TGT (t : Fin 64)
  /-- Offset 0xB00 + 4 * t. -/
  | IC_CLAIM (t : Fin 64)
  /-- Offset 0xC00. -/
  | IC_COMPLETE
  /-- Offset 0xC04. -/
  | IC_STAT
  /-- Offset 0xC08. -/
  | IC_SPURIOUS
  /-- Offset 0xC0C. -/
  | IC_REDIRECTS
  deriving DecidableEq, Repr

/-- Registers of the safety island and Signet (R433, R452). -/
inductive SiReg where
  /-- Offset 0x000. -/
  | SI_STAT
  /-- Offset 0x004. -/
  | SI_CYCLE
  /-- Offset 0x008. -/
  | SI_PSET_ID
  /-- Offset 0x00C. -/
  | SI_PSET_GEN
  /-- Offset 0x010. -/
  | SI_LOCK
  /-- Offset 0x014. -/
  | SI_INPUTS
  /-- Offset 0x018. -/
  | SI_OUTPUTS
  /-- Offset 0x01C. -/
  | SI_XC_CNT
  /-- Offset 0x100 + 0x20 * a. -/
  | SI_ARM_STAT (a : Fin 8)
  /-- Offset 0x104 + 0x20 * a. -/
  | SI_VSAFE (a : Fin 8)
  /-- Offset 0x108 + 0x20 * a. -/
  | SI_VMEAS (a : Fin 8)
  /-- Offset 0x10C + 0x20 * a. -/
  | SI_DMIN (a : Fin 8)
  /-- Offset 0x200 + 4 * p. -/
  | SI_VPAIR (p : Fin 64)
  /-- Offset 0x400 + 4 * n. -/
  | SI_JVLIM (n : Fin 64)
  /-- Offset 0x600 + 0x10 * c. -/
  | SG_STAT (c : Fin 64)
  /-- Offset 0x604 + 0x10 * c. -/
  | SG_SEQ (c : Fin 64)
  /-- Offset 0x608 + 0x10 * c. -/
  | SG_ERR (c : Fin 64)
  /-- Offset 0x60C + 0x10 * c. -/
  | SG_AGE (c : Fin 64)
  /-- Offset 0xA00 + 4 * p. -/
  | SG_UNMATCHED (p : Fin 5)
  /-- Offset 0x8000. -/
  | SI_REQ
  /-- Offset 0x8004. -/
  | SI_TOKEN
  /-- Offset 0x8008. -/
  | SI_EVT
  deriving DecidableEq, Repr

/-- Registers of the Chain node (R483). -/
inductive ChReg where
  /-- Offset 0x000. -/
  | CH_CTRL
  /-- Offset 0x004. -/
  | CH_STAT
  /-- Offset 0x008. -/
  | CH_ROLE
  /-- Offset 0x00C. -/
  | CH_CYCLE
  /-- Offset 0x010. -/
  | CH_SCHED_ID
  /-- Offset 0x014. -/
  | CH_OFFSET
  /-- Offset 0x018. -/
  | CH_SYNC_MASK
  /-- Offset 0x01C. -/
  | CH_LINKDLY_A
  /-- Offset 0x020. -/
  | CH_LINKDLY_B
  /-- Offset 0x024. -/
  | CH_NULL_CNT
  /-- Offset 0x028. -/
  | CH_ERR_CNT
  /-- Offset 0x02C. -/
  | CH_DIFF_CNT
  /-- Offset 0x030. -/
  | CH_VIOL_CNT
  /-- Offset 0x034. -/
  | CH_REINT_CNT
  /-- Offset 0x038. -/
  | CH_CS_CNT
  /-- Offset 0x040 + 4 * c. -/
  | CH_V1_DLY (c : Fin 8)
  /-- Offset 0x104 + 4 * s. -/
  | CH_SLOT_STAT (s : Fin 64)
  deriving DecidableEq, Repr

/-- Registers of the Clasps (R483). -/
inductive CpReg where
  /-- Offset 0x000. -/
  | CP_CTRL
  /-- Offset 0x004. -/
  | CP_STAT
  /-- Offset 0x008. -/
  | CP_MAP
  /-- Offset 0x010 + 4 * p. -/
  | CP_VIOL (p : Fin 8)
  /-- Offset 0x030 + 4 * p. -/
  | CP_LINKDLY (p : Fin 8)
  /-- Offset 0x050. -/
  | CP_ARB_CNT
  /-- Offset 0x054. -/
  | CP_MASQ_CNT
  /-- Offset 0x058. -/
  | CP_RESID
  deriving DecidableEq, Repr

/-- Registers of the plane control (R503). -/
inductive PcReg where
  /-- Offset 0x000. -/
  | PC_CTRL
  /-- Offset 0x004. -/
  | PC_STAT
  /-- Offset 0x008. -/
  | PC_CONFIRM
  /-- Offset 0x00C. -/
  | PC_CONF_CNT
  /-- Offset 0x010. -/
  | PC_HEALTH_A
  /-- Offset 0x014. -/
  | PC_HEALTH_B
  /-- Offset 0x018. -/
  | PC_MISM_A
  /-- Offset 0x01C. -/
  | PC_MISM_B
  /-- Offset 0x020. -/
  | PC_MISM_WHERE
  /-- Offset 0x024. -/
  | PC_SWITCH_CNT
  /-- Offset 0x028. -/
  | PC_GAP_CNT
  /-- Offset 0x02C. -/
  | PC_RETRY_LIM
  /-- Offset 0x030. -/
  | PC_LBIST_INT
  /-- Offset 0x034. -/
  | PC_XFER
  /-- Offset 0x038. -/
  | PC_LAST_SW
  deriving DecidableEq, Repr

/-- Registers of the mailbox (R509). -/
inductive HmReg where
  /-- Offset 0x0000. -/
  | DEV_IDENT
  /-- Offset 0x0004. -/
  | HM_ZVER
  /-- Offset 0x0008. -/
  | HM_STAT
  /-- Offset 0x0100. -/
  | HM_DB_POST
  /-- Offset 0x0104. -/
  | HM_DB_FREE
  /-- Offset 0x0108. -/
  | HM_DB_STAT
  /-- Offset 0x010C + 4 * k. -/
  | HM_SLOTS (k : Fin 2)
  /-- Offset 0x0200. -/
  | HM_EVT_HEAD
  /-- Offset 0x0204 + 4 * k. -/
  | HM_EVT_W (k : Fin 4)
  /-- Offset 0x0214. -/
  | HM_EVT_FILL
  /-- Offset 0x0218. -/
  | HM_EVT_LOST
  /-- Offset 0x2000 + 4 * k. -/
  | HM_MSIX_TABLE (k : Fin 128)
  /-- Offset 0x3000 + 4 * k. -/
  | HM_MSIX_PBA (k : Fin 2)
  /-- Configuration space of the endpoint: command; bit 2 bus mastering (R507; log 62). -/
  | HM_PCI_CMD
  /-- Configuration space of the endpoint: MSI-X message control; bit 15 enable, bit 14 function mask (R507; log 62). -/
  | HM_PCI_MSIX
  deriving DecidableEq, Repr

/-- Registers of the Locket (R546). -/
inductive LkReg where
  /-- Offset 0x000. -/
  | LK_CTRL
  /-- Offset 0x004. -/
  | LK_STAT
  /-- Offset 0x008. -/
  | LK_CFG
  /-- Offset 0x00C. -/
  | LK_NEXT_LO
  /-- Offset 0x010. -/
  | LK_NEXT_HI
  /-- Offset 0x014. -/
  | LK_OLDEST_LO
  /-- Offset 0x018. -/
  | LK_OLDEST_HI
  /-- Offset 0x01C. -/
  | LK_UNFLUSHED
  /-- Offset 0x020. -/
  | LK_DROPPED
  /-- Offset 0x024. -/
  | LK_PF_LOST
  /-- Offset 0x028. -/
  | LK_MRAM_BAD
  /-- Offset 0x02C. -/
  | LK_FLUSHES
  /-- Offset 0x030. -/
  | LK_PCYCLE
  /-- Offset 0x034. -/
  | LK_OPTIME_LO
  /-- Offset 0x038. -/
  | LK_OPTIME_HI
  deriving DecidableEq, Repr

/-- Registers of the OTP controller (R580). -/
inductive OtpReg where
  /-- Offset 0x000. -/
  | OTP_STAT
  /-- Offset 0x004. -/
  | OTP_CMD
  /-- Offset 0x008. -/
  | OTP_ADDR
  /-- Offset 0x00C. -/
  | OTP_DATA
  /-- Offset 0x020 + 4 * c. -/
  | OTP_ARB (c : Fin 6)
  /-- Offset 0x040. -/
  | OTP_KEYS
  deriving DecidableEq, Repr

/-- Every register of the device. -/
inductive Reg where
  | clk (r : ClkReg)
  | tb (r : TbReg)
  | tpo (n : Fin 8) (r : TpoReg)
  | tcap (n : Fin 8) (r : TcapReg)
  | tsp (p : Fin 20) (r : TspReg)
  | eth (p : Fin 4) (r : EthReg)
  | mdio (r : MdioReg)
  | port (n : Fin 64) (r : PortReg)
  | sdf (n : Fin 80) (r : SdfReg)
  | sdc (r : SdcReg)
  | fb (n : Fin 64) (r : FbReg)
  | ld (n : Fin 256) (r : LdReg)
  | pln (r : PlnReg)
  | arm (a : Fin 8) (r : ArmReg)
  | stp (i : Fin 16) (r : StpReg)
  | ust (i : Fin 16) (r : UstReg)
  | kn (i : Fin 2) (r : KnReg)
  | stk (r : StkReg)
  | ic (r : IcReg)
  | si (r : SiReg)
  | ch (r : ChReg)
  | cp (x : Fin 2) (r : CpReg)
  | pc (r : PcReg)
  | hm (r : HmReg)
  | lk (r : LkReg)
  | otp (r : OtpReg)
  deriving DecidableEq, Repr

/-- A field of a register: bits [lo + width - 1 : lo]. -/
structure Field where
  reg : Reg
  lo : Nat
  width : Nat
  deriving DecidableEq, Repr

/-- `ISL_CLK` (R46-R49, R605). -/
abbrev ISL_CLK : Reg := .clk .ISL_CLK
/-- `ISL_CLK.EMBER_SEL` [1:0]. -/
abbrev ISL_CLK.EMBER_SEL : Field := ⟨.clk .ISL_CLK, 0, 2⟩
/-- `ISL_CLK.KILN_SEL` [5:4]. -/
abbrev ISL_CLK.KILN_SEL : Field := ⟨.clk .ISL_CLK, 4, 2⟩
/-- `ISL_CLK.REF_10M` [8:8]. -/
abbrev ISL_CLK.REF_10M : Field := ⟨.clk .ISL_CLK, 8, 1⟩
/-- `ISL_STAT` (R46-R49, R605). -/
abbrev ISL_STAT : Reg := .clk .ISL_STAT
/-- `ISL_STAT.PLL_LOCK` [0:0]. -/
abbrev ISL_STAT.PLL_LOCK : Field := ⟨.clk .ISL_STAT, 0, 1⟩
/-- `ISL_STAT.HOLDOVER` [1:1]. -/
abbrev ISL_STAT.HOLDOVER : Field := ⟨.clk .ISL_STAT, 1, 1⟩
/-- `ISL_STAT.SEL_REFUSED` [2:2]. -/
abbrev ISL_STAT.SEL_REFUSED : Field := ⟨.clk .ISL_STAT, 2, 1⟩
/-- `ISL_STAT.REF_LOST` [3:3]. -/
abbrev ISL_STAT.REF_LOST : Field := ⟨.clk .ISL_STAT, 3, 1⟩
/-- `PERIOD_CFG` (R46-R49, R605). -/
abbrev PERIOD_CFG : Reg := .clk .PERIOD_CFG
/-- `PERIOD_CFG.PERIOD_SEL` [0:0]. -/
abbrev PERIOD_CFG.PERIOD_SEL : Field := ⟨.clk .PERIOD_CFG, 0, 1⟩
/-- `PERIOD_CNT` (R46-R49, R605). -/
abbrev PERIOD_CNT : Reg := .clk .PERIOD_CNT
/-- `PERIOD_CNT.COUNT` [31:0]. -/
abbrev PERIOD_CNT.COUNT : Field := ⟨.clk .PERIOD_CNT, 0, 32⟩
/-- `PIN_REL` (R46-R49, R605). -/
abbrev PIN_REL : Reg := .clk .PIN_REL
/-- `PIN_REL.TIME` [0:0]. -/
abbrev PIN_REL.TIME : Field := ⟨.clk .PIN_REL, 0, 1⟩
/-- `PIN_REL.SDCLK` [1:1]. -/
abbrev PIN_REL.SDCLK : Field := ⟨.clk .PIN_REL, 1, 1⟩
/-- `PIN_REL.FBO` [2:2]. -/
abbrev PIN_REL.FBO : Field := ⟨.clk .PIN_REL, 2, 1⟩
/-- `PIN_REL.STEP` [3:3]. -/
abbrev PIN_REL.STEP : Field := ⟨.clk .PIN_REL, 3, 1⟩
/-- `PIN_REL.GATE` [4:4]. -/
abbrev PIN_REL.GATE : Field := ⟨.clk .PIN_REL, 4, 1⟩
/-- `PIN_STAT` (R46-R49, R605). -/
abbrev PIN_STAT : Reg := .clk .PIN_STAT
/-- `PIN_STAT.DRIVEN` [4:0]. -/
abbrev PIN_STAT.DRIVEN : Field := ⟨.clk .PIN_STAT, 0, 5⟩
/-- `PIN_STAT.REL_REFUSED` [5:5]. -/
abbrev PIN_STAT.REL_REFUSED : Field := ⟨.clk .PIN_STAT, 5, 1⟩
/-- `PIN_STAT.PF_HOLD` [6:6]. -/
abbrev PIN_STAT.PF_HOLD : Field := ⟨.clk .PIN_STAT, 6, 1⟩
/-- `RST_STAT` (R46-R49, R605). -/
abbrev RST_STAT : Reg := .clk .RST_STAT
/-- `RST_STAT.CAUSE` [2:0]. -/
abbrev RST_STAT.CAUSE : Field := ⟨.clk .RST_STAT, 0, 3⟩
/-- `RST_STAT.STUCK_IGNORE` [3:3]. -/
abbrev RST_STAT.STUCK_IGNORE : Field := ⟨.clk .RST_STAT, 3, 1⟩
/-- `RST_STAT.KA_VALID` [4:4]. -/
abbrev RST_STAT.KA_VALID : Field := ⟨.clk .RST_STAT, 4, 1⟩
/-- `RST_STAT.PULSE_QUAL` [5:5]. -/
abbrev RST_STAT.PULSE_QUAL : Field := ⟨.clk .RST_STAT, 5, 1⟩
/-- `RST_STAT.MAX_HOLD` [11:6]. -/
abbrev RST_STAT.MAX_HOLD : Field := ⟨.clk .RST_STAT, 6, 6⟩
/-- `RST_STAT.KA_SUPPLY` [12:12]. -/
abbrev RST_STAT.KA_SUPPLY : Field := ⟨.clk .RST_STAT, 12, 1⟩
/-- `RST_HELD` (R46-R49, R605). -/
abbrev RST_HELD : Reg := .clk .RST_HELD
/-- `TB_CTRL` (R78). -/
abbrev TB_CTRL : Reg := .tb .TB_CTRL
/-- `TB_CTRL.SOURCE` [1:0]. -/
abbrev TB_CTRL.SOURCE : Field := ⟨.tb .TB_CTRL, 0, 2⟩
/-- `TB_CTRL.GW_PORTS` [5:2]. -/
abbrev TB_CTRL.GW_PORTS : Field := ⟨.tb .TB_CTRL, 2, 4⟩
/-- `TB_CTRL.MASTER_PORTS` [9:6]. -/
abbrev TB_CTRL.MASTER_PORTS : Field := ⟨.tb .TB_CTRL, 6, 4⟩
/-- `TB_STAT` (R78). -/
abbrev TB_STAT : Reg := .tb .TB_STAT
/-- `TB_STAT.STATE` [2:0]. -/
abbrev TB_STAT.STATE : Field := ⟨.tb .TB_STAT, 0, 3⟩
/-- `TB_STAT.SLEW` [3:3]. -/
abbrev TB_STAT.SLEW : Field := ⟨.tb .TB_STAT, 3, 1⟩
/-- `TB_STAT.RATE_CLAMPED` [4:4]. -/
abbrev TB_STAT.RATE_CLAMPED : Field := ⟨.tb .TB_STAT, 4, 1⟩
/-- `TB_STAT.RATE_REFUSED` [5:5]. -/
abbrev TB_STAT.RATE_REFUSED : Field := ⟨.tb .TB_STAT, 5, 1⟩
/-- `TB_STAT.STEP_REFUSED` [6:6]. -/
abbrev TB_STAT.STEP_REFUSED : Field := ⟨.tb .TB_STAT, 6, 1⟩
/-- `TB_STAT.GW_CONFLICT` [7:7]. -/
abbrev TB_STAT.GW_CONFLICT : Field := ⟨.tb .TB_STAT, 7, 1⟩
/-- `TB_STAT.RESTARTS` [15:8]. -/
abbrev TB_STAT.RESTARTS : Field := ⟨.tb .TB_STAT, 8, 8⟩
/-- `TB_NOW_NS` (R78). -/
abbrev TB_NOW_NS : Reg := .tb .TB_NOW_NS
/-- `TB_NOW_SEC_LO` (R78). -/
abbrev TB_NOW_SEC_LO : Reg := .tb .TB_NOW_SEC_LO
/-- `TB_NOW_SEC_HI` (R78). -/
abbrev TB_NOW_SEC_HI : Reg := .tb .TB_NOW_SEC_HI
/-- `TB_RATE` (R78). -/
abbrev TB_RATE : Reg := .tb .TB_RATE
/-- `TB_RATE_ACT` (R78). -/
abbrev TB_RATE_ACT : Reg := .tb .TB_RATE_ACT
/-- `TB_OFFSET` (R78). -/
abbrev TB_OFFSET : Reg := .tb .TB_OFFSET
/-- `TB_UTC` (R78). -/
abbrev TB_UTC : Reg := .tb .TB_UTC
/-- `TB_UTC.UTC` [15:0]. -/
abbrev TB_UTC.UTC : Field := ⟨.tb .TB_UTC, 0, 16⟩
/-- `TB_UTC.VALID` [16:16]. -/
abbrev TB_UTC.VALID : Field := ⟨.tb .TB_UTC, 16, 1⟩
/-- `TB_UTC.LEAP61` [17:17]. -/
abbrev TB_UTC.LEAP61 : Field := ⟨.tb .TB_UTC, 17, 1⟩
/-- `TB_UTC.LEAP59` [18:18]. -/
abbrev TB_UTC.LEAP59 : Field := ⟨.tb .TB_UTC, 18, 1⟩
/-- `TPO_CTRL` (R78). -/
abbrev TPO_CTRL (n : Fin 8) : Reg := .tpo n .TPO_CTRL
/-- `TPO_CTRL.ARM` [0:0]. -/
abbrev TPO_CTRL.ARM (n : Fin 8) : Field := ⟨.tpo n .TPO_CTRL, 0, 1⟩
/-- `TPO_CTRL.MODE` [1:1]. -/
abbrev TPO_CTRL.MODE (n : Fin 8) : Field := ⟨.tpo n .TPO_CTRL, 1, 1⟩
/-- `TPO_CTRL.POL` [2:2]. -/
abbrev TPO_CTRL.POL (n : Fin 8) : Field := ⟨.tpo n .TPO_CTRL, 2, 1⟩
/-- `TPO_CTRL.GO` [3:3]. -/
abbrev TPO_CTRL.GO (n : Fin 8) : Field := ⟨.tpo n .TPO_CTRL, 3, 1⟩
/-- `TPO_START_SEC_LO` (R78). -/
abbrev TPO_START_SEC_LO (n : Fin 8) : Reg := .tpo n .TPO_START_SEC_LO
/-- `TPO_START_SEC_HI` (R78). -/
abbrev TPO_START_SEC_HI (n : Fin 8) : Reg := .tpo n .TPO_START_SEC_HI
/-- `TPO_START_NS` (R78). -/
abbrev TPO_START_NS (n : Fin 8) : Reg := .tpo n .TPO_START_NS
/-- `TPO_START_FRAC` (R78). -/
abbrev TPO_START_FRAC (n : Fin 8) : Reg := .tpo n .TPO_START_FRAC
/-- `TPO_PERIOD_NS` (R78). -/
abbrev TPO_PERIOD_NS (n : Fin 8) : Reg := .tpo n .TPO_PERIOD_NS
/-- `TPO_PERIOD_FRAC` (R78). -/
abbrev TPO_PERIOD_FRAC (n : Fin 8) : Reg := .tpo n .TPO_PERIOD_FRAC
/-- `TPO_WIDTH_NS` (R78). -/
abbrev TPO_WIDTH_NS (n : Fin 8) : Reg := .tpo n .TPO_WIDTH_NS
/-- `TPO_COUNT` (R78). -/
abbrev TPO_COUNT (n : Fin 8) : Reg := .tpo n .TPO_COUNT
/-- `TPO_STAT` (R78). -/
abbrev TPO_STAT (n : Fin 8) : Reg := .tpo n .TPO_STAT
/-- `TPO_STAT.ACTIVE` [0:0]. -/
abbrev TPO_STAT.ACTIVE (n : Fin 8) : Field := ⟨.tpo n .TPO_STAT, 0, 1⟩
/-- `TPO_STAT.LATE` [1:1]. -/
abbrev TPO_STAT.LATE (n : Fin 8) : Field := ⟨.tpo n .TPO_STAT, 1, 1⟩
/-- `TPO_STAT.STEPPED` [2:2]. -/
abbrev TPO_STAT.STEPPED (n : Fin 8) : Field := ⟨.tpo n .TPO_STAT, 2, 1⟩
/-- `TPO_STAT.BADCFG` [3:3]. -/
abbrev TPO_STAT.BADCFG (n : Fin 8) : Field := ⟨.tpo n .TPO_STAT, 3, 1⟩
/-- `TPO_STAT.DONE` [4:4]. -/
abbrev TPO_STAT.DONE (n : Fin 8) : Field := ⟨.tpo n .TPO_STAT, 4, 1⟩
/-- `TPO_STAT.ARM_REFUSED` [5:5]. -/
abbrev TPO_STAT.ARM_REFUSED (n : Fin 8) : Field := ⟨.tpo n .TPO_STAT, 5, 1⟩
/-- `TPO_FIRED` (R78). -/
abbrev TPO_FIRED (n : Fin 8) : Reg := .tpo n .TPO_FIRED
/-- `TPO_WIDTH_FRAC` (R78). -/
abbrev TPO_WIDTH_FRAC (n : Fin 8) : Reg := .tpo n .TPO_WIDTH_FRAC
/-- `TCAP_CTRL` (R78). -/
abbrev TCAP_CTRL (n : Fin 8) : Reg := .tcap n .TCAP_CTRL
/-- `TCAP_CTRL.EN` [0:0]. -/
abbrev TCAP_CTRL.EN (n : Fin 8) : Field := ⟨.tcap n .TCAP_CTRL, 0, 1⟩
/-- `TCAP_CTRL.EDGE` [2:1]. -/
abbrev TCAP_CTRL.EDGE (n : Fin 8) : Field := ⟨.tcap n .TCAP_CTRL, 1, 2⟩
/-- `TCAP_CTRL.LOCKET` [3:3]. -/
abbrev TCAP_CTRL.LOCKET (n : Fin 8) : Field := ⟨.tcap n .TCAP_CTRL, 3, 1⟩
/-- `TCAP_CTRL.IRQ` [4:4]. -/
abbrev TCAP_CTRL.IRQ (n : Fin 8) : Field := ⟨.tcap n .TCAP_CTRL, 4, 1⟩
/-- `TCAP_HEAD_NS` (R78). -/
abbrev TCAP_HEAD_NS (n : Fin 8) : Reg := .tcap n .TCAP_HEAD_NS
/-- `TCAP_HEAD_SEC_LO` (R78). -/
abbrev TCAP_HEAD_SEC_LO (n : Fin 8) : Reg := .tcap n .TCAP_HEAD_SEC_LO
/-- `TCAP_HEAD_SEC_HI` (R78). -/
abbrev TCAP_HEAD_SEC_HI (n : Fin 8) : Reg := .tcap n .TCAP_HEAD_SEC_HI
/-- `TCAP_HEAD_INFO` (R78). -/
abbrev TCAP_HEAD_INFO (n : Fin 8) : Reg := .tcap n .TCAP_HEAD_INFO
/-- `TCAP_HEAD_INFO.FRAC` [7:0]. -/
abbrev TCAP_HEAD_INFO.FRAC (n : Fin 8) : Field := ⟨.tcap n .TCAP_HEAD_INFO, 0, 8⟩
/-- `TCAP_HEAD_INFO.RISE` [8:8]. -/
abbrev TCAP_HEAD_INFO.RISE (n : Fin 8) : Field := ⟨.tcap n .TCAP_HEAD_INFO, 8, 1⟩
/-- `TCAP_HEAD_INFO.STATE` [11:9]. -/
abbrev TCAP_HEAD_INFO.STATE (n : Fin 8) : Field := ⟨.tcap n .TCAP_HEAD_INFO, 9, 3⟩
/-- `TCAP_HEAD_INFO.VALID` [12:12]. -/
abbrev TCAP_HEAD_INFO.VALID (n : Fin 8) : Field := ⟨.tcap n .TCAP_HEAD_INFO, 12, 1⟩
/-- `TCAP_HEAD_INFO.FILL` [20:16]. -/
abbrev TCAP_HEAD_INFO.FILL (n : Fin 8) : Field := ⟨.tcap n .TCAP_HEAD_INFO, 16, 5⟩
/-- `TCAP_OVF` (R78). -/
abbrev TCAP_OVF (n : Fin 8) : Reg := .tcap n .TCAP_OVF
/-- `TSP_INGRESS` (R78). -/
abbrev TSP_INGRESS (p : Fin 20) : Reg := .tsp p .TSP_INGRESS
/-- `TSP_EGRESS` (R78). -/
abbrev TSP_EGRESS (p : Fin 20) : Reg := .tsp p .TSP_EGRESS
/-- `TSP_ASYM` (R78). -/
abbrev TSP_ASYM (p : Fin 20) : Reg := .tsp p .TSP_ASYM
/-- `ETH_CTRL` (R89). -/
abbrev ETH_CTRL (p : Fin 4) : Reg := .eth p .ETH_CTRL
/-- `ETH_CTRL.EN` [0:0]. -/
abbrev ETH_CTRL.EN (p : Fin 4) : Field := ⟨.eth p .ETH_CTRL, 0, 1⟩
/-- `ETH_CTRL.SPEED` [1:1]. -/
abbrev ETH_CTRL.SPEED (p : Fin 4) : Field := ⟨.eth p .ETH_CTRL, 1, 1⟩
/-- `ETH_CTRL.AN_EN` [2:2]. -/
abbrev ETH_CTRL.AN_EN (p : Fin 4) : Field := ⟨.eth p .ETH_CTRL, 2, 1⟩
/-- `ETH_CTRL.PLANT` [3:3]. -/
abbrev ETH_CTRL.PLANT (p : Fin 4) : Field := ⟨.eth p .ETH_CTRL, 3, 1⟩
/-- `ETH_CTRL.RX_IRQ` [4:4]. -/
abbrev ETH_CTRL.RX_IRQ (p : Fin 4) : Field := ⟨.eth p .ETH_CTRL, 4, 1⟩
/-- `ETH_CTRL.IP6_TX` [5:5]. -/
abbrev ETH_CTRL.IP6_TX (p : Fin 4) : Field := ⟨.eth p .ETH_CTRL, 5, 1⟩
/-- `ETH_STAT` (R89). -/
abbrev ETH_STAT (p : Fin 4) : Reg := .eth p .ETH_STAT
/-- `ETH_STAT.LINK` [0:0]. -/
abbrev ETH_STAT.LINK (p : Fin 4) : Field := ⟨.eth p .ETH_STAT, 0, 1⟩
/-- `ETH_STAT.SPEED_ACT` [1:1]. -/
abbrev ETH_STAT.SPEED_ACT (p : Fin 4) : Field := ⟨.eth p .ETH_STAT, 1, 1⟩
/-- `ETH_STAT.LINK_CHG` [2:2]. -/
abbrev ETH_STAT.LINK_CHG (p : Fin 4) : Field := ⟨.eth p .ETH_STAT, 2, 1⟩
/-- `ETH_STAT.RX_OVF` [3:3]. -/
abbrev ETH_STAT.RX_OVF (p : Fin 4) : Field := ⟨.eth p .ETH_STAT, 3, 1⟩
/-- `ETH_STAT.TX_ERR` [4:4]. -/
abbrev ETH_STAT.TX_ERR (p : Fin 4) : Field := ⟨.eth p .ETH_STAT, 4, 1⟩
/-- `ETH_STAT.CFG_REFUSED` [5:5]. -/
abbrev ETH_STAT.CFG_REFUSED (p : Fin 4) : Field := ⟨.eth p .ETH_STAT, 5, 1⟩
/-- `ETH_MAC_LO` (R89). -/
abbrev ETH_MAC_LO (p : Fin 4) : Reg := .eth p .ETH_MAC_LO
/-- `ETH_MAC_HI` (R89). -/
abbrev ETH_MAC_HI (p : Fin 4) : Reg := .eth p .ETH_MAC_HI
/-- `ETH_IP4` (R89). -/
abbrev ETH_IP4 (p : Fin 4) : Reg := .eth p .ETH_IP4
/-- `ETH_IP6` (R89). -/
abbrev ETH_IP6 (p : Fin 4) (k : Fin 4) : Reg := .eth p (.ETH_IP6 k)
/-- `ETH_VLAN` (R89). -/
abbrev ETH_VLAN (p : Fin 4) : Reg := .eth p .ETH_VLAN
/-- `ETH_VLAN.VID` [11:0]. -/
abbrev ETH_VLAN.VID (p : Fin 4) : Field := ⟨.eth p .ETH_VLAN, 0, 12⟩
/-- `ETH_VLAN.PCP` [14:12]. -/
abbrev ETH_VLAN.PCP (p : Fin 4) : Field := ⟨.eth p .ETH_VLAN, 12, 3⟩
/-- `ETH_VLAN.EN` [15:15]. -/
abbrev ETH_VLAN.EN (p : Fin 4) : Field := ⟨.eth p .ETH_VLAN, 15, 1⟩
/-- `ETH_RX_BUF` (R89). -/
abbrev ETH_RX_BUF (p : Fin 4) : Reg := .eth p .ETH_RX_BUF
/-- `ETH_TX_BUF` (R89). -/
abbrev ETH_TX_BUF (p : Fin 4) : Reg := .eth p .ETH_TX_BUF
/-- `ETH_RX_HEAD` (R89). -/
abbrev ETH_RX_HEAD (p : Fin 4) : Reg := .eth p .ETH_RX_HEAD
/-- `ETH_RX_TAIL` (R89). -/
abbrev ETH_RX_TAIL (p : Fin 4) : Reg := .eth p .ETH_RX_TAIL
/-- `ETH_TX_HEAD` (R89). -/
abbrev ETH_TX_HEAD (p : Fin 4) : Reg := .eth p .ETH_TX_HEAD
/-- `ETH_TX_TAIL` (R89). -/
abbrev ETH_TX_TAIL (p : Fin 4) : Reg := .eth p .ETH_TX_TAIL
/-- `ETH_RX_FRAMES` (R89). -/
abbrev ETH_RX_FRAMES (p : Fin 4) : Reg := .eth p .ETH_RX_FRAMES
/-- `ETH_TX_FRAMES` (R89). -/
abbrev ETH_TX_FRAMES (p : Fin 4) : Reg := .eth p .ETH_TX_FRAMES
/-- `ETH_RX_ERR` (R89). -/
abbrev ETH_RX_ERR (p : Fin 4) : Reg := .eth p .ETH_RX_ERR
/-- `ETH_RX_DROP` (R89). -/
abbrev ETH_RX_DROP (p : Fin 4) : Reg := .eth p .ETH_RX_DROP
/-- `ETH_MDIO_CMD` (R88-R90). -/
abbrev ETH_MDIO_CMD : Reg := .mdio .ETH_MDIO_CMD
/-- `ETH_MDIO_CMD.REG` [4:0]. -/
abbrev ETH_MDIO_CMD.REG : Field := ⟨.mdio .ETH_MDIO_CMD, 0, 5⟩
/-- `ETH_MDIO_CMD.PHYAD` [9:5]. -/
abbrev ETH_MDIO_CMD.PHYAD : Field := ⟨.mdio .ETH_MDIO_CMD, 5, 5⟩
/-- `ETH_MDIO_CMD.OP` [11:10]. -/
abbrev ETH_MDIO_CMD.OP : Field := ⟨.mdio .ETH_MDIO_CMD, 10, 2⟩
/-- `ETH_MDIO_CMD.DATA` [31:16]. -/
abbrev ETH_MDIO_CMD.DATA : Field := ⟨.mdio .ETH_MDIO_CMD, 16, 16⟩
/-- `ETH_MDIO_STAT` (R88-R90). -/
abbrev ETH_MDIO_STAT : Reg := .mdio .ETH_MDIO_STAT
/-- `ETH_MDIO_STAT.BUSY` [0:0]. -/
abbrev ETH_MDIO_STAT.BUSY : Field := ⟨.mdio .ETH_MDIO_STAT, 0, 1⟩
/-- `ETH_MDIO_STAT.REFUSED` [1:1]. -/
abbrev ETH_MDIO_STAT.REFUSED : Field := ⟨.mdio .ETH_MDIO_STAT, 1, 1⟩
/-- `ETH_MDIO_STAT.RDATA` [31:16]. -/
abbrev ETH_MDIO_STAT.RDATA : Field := ⟨.mdio .ETH_MDIO_STAT, 16, 16⟩
/-- `PWM_CTRL` (R120). -/
abbrev PWM_CTRL (n : Fin 64) : Reg := .port n .PWM_CTRL
/-- `PWM_CTRL.ARM` [0:0]. -/
abbrev PWM_CTRL.ARM (n : Fin 64) : Field := ⟨.port n .PWM_CTRL, 0, 1⟩
/-- `PWM_CTRL.RUN` [1:1]. -/
abbrev PWM_CTRL.RUN (n : Fin 64) : Field := ⟨.port n .PWM_CTRL, 1, 1⟩
/-- `PWM_CTRL.FORCE_TRIP` [2:2]. -/
abbrev PWM_CTRL.FORCE_TRIP (n : Fin 64) : Field := ⟨.port n .PWM_CTRL, 2, 1⟩
/-- `PWM_CTRL.CLR_TRIP` [3:3]. -/
abbrev PWM_CTRL.CLR_TRIP (n : Fin 64) : Field := ⟨.port n .PWM_CTRL, 3, 1⟩
/-- `PWM_STAT` (R120). -/
abbrev PWM_STAT (n : Fin 64) : Reg := .port n .PWM_STAT
/-- `PWM_STAT.STATE` [1:0]. -/
abbrev PWM_STAT.STATE (n : Fin 64) : Field := ⟨.port n .PWM_STAT, 0, 2⟩
/-- `PWM_STAT.PLANE` [2:2]. -/
abbrev PWM_STAT.PLANE (n : Fin 64) : Field := ⟨.port n .PWM_STAT, 2, 1⟩
/-- `PWM_MODE` (R120). -/
abbrev PWM_MODE (n : Fin 64) : Reg := .port n .PWM_MODE
/-- `PWM_MODE.EDGE_MODE` [0:0]. -/
abbrev PWM_MODE.EDGE_MODE (n : Fin 64) : Field := ⟨.port n .PWM_MODE, 0, 1⟩
/-- `PWM_MODE.SHORT_MODE` [1:1]. -/
abbrev PWM_MODE.SHORT_MODE (n : Fin 64) : Field := ⟨.port n .PWM_MODE, 1, 1⟩
/-- `PWM_MODE.TOPOLOGY` [3:2]. -/
abbrev PWM_MODE.TOPOLOGY (n : Fin 64) : Field := ⟨.port n .PWM_MODE, 2, 2⟩
/-- `PWM_MODE.H_POL` [7:4]. -/
abbrev PWM_MODE.H_POL (n : Fin 64) : Field := ⟨.port n .PWM_MODE, 4, 4⟩
/-- `PWM_MODE.L_POL` [11:8]. -/
abbrev PWM_MODE.L_POL (n : Fin 64) : Field := ⟨.port n .PWM_MODE, 8, 4⟩
/-- `PWM_MODE.REF_EN` [15:12]. -/
abbrev PWM_MODE.REF_EN (n : Fin 64) : Field := ⟨.port n .PWM_MODE, 12, 4⟩
/-- `PWM_DEAD` (R120). -/
abbrev PWM_DEAD (n : Fin 64) : Reg := .port n .PWM_DEAD
/-- `PWM_DEAD.DT_R` [15:0]. -/
abbrev PWM_DEAD.DT_R (n : Fin 64) : Field := ⟨.port n .PWM_DEAD, 0, 16⟩
/-- `PWM_DEAD.DT_F` [31:16]. -/
abbrev PWM_DEAD.DT_F (n : Fin 64) : Field := ⟨.port n .PWM_DEAD, 16, 16⟩
/-- `PWM_MINON` (R120). -/
abbrev PWM_MINON (n : Fin 64) : Reg := .port n .PWM_MINON
/-- `PWM_MINON.MINON` [15:0]. -/
abbrev PWM_MINON.MINON (n : Fin 64) : Field := ⟨.port n .PWM_MINON, 0, 16⟩
/-- `PWM_REFRESH` (R120). -/
abbrev PWM_REFRESH (n : Fin 64) : Reg := .port n .PWM_REFRESH
/-- `PWM_REFRESH.REF_FRAMES` [7:0]. -/
abbrev PWM_REFRESH.REF_FRAMES (n : Fin 64) : Field := ⟨.port n .PWM_REFRESH, 0, 8⟩
/-- `PWM_REFRESH.REF_W` [31:16]. -/
abbrev PWM_REFRESH.REF_W (n : Fin 64) : Field := ⟨.port n .PWM_REFRESH, 16, 16⟩
/-- `TRIP_CFG` (R120). -/
abbrev TRIP_CFG (n : Fin 64) : Reg := .port n .TRIP_CFG
/-- `TRIP_CFG.FLT` [7:0]. -/
abbrev TRIP_CFG.FLT (n : Fin 64) : Field := ⟨.port n .TRIP_CFG, 0, 8⟩
/-- `TRIP_CFG.POL` [8:8]. -/
abbrev TRIP_CFG.POL (n : Fin 64) : Field := ⟨.port n .TRIP_CFG, 8, 1⟩
/-- `TRIP_CFG.PROP` [9:9]. -/
abbrev TRIP_CFG.PROP (n : Fin 64) : Field := ⟨.port n .TRIP_CFG, 9, 1⟩
/-- `TRIP_CFG.ASC` [11:10]. -/
abbrev TRIP_CFG.ASC (n : Fin 64) : Field := ⟨.port n .TRIP_CFG, 10, 2⟩
/-- `TRIP_CFG.ASC_DELAY` [31:16]. -/
abbrev TRIP_CFG.ASC_DELAY (n : Fin 64) : Field := ⟨.port n .TRIP_CFG, 16, 16⟩
/-- `TRIP_STAT` (R120). -/
abbrev TRIP_STAT (n : Fin 64) : Reg := .port n .TRIP_STAT
/-- `TRIP_STAT.TRIPPED` [0:0]. -/
abbrev TRIP_STAT.TRIPPED (n : Fin 64) : Field := ⟨.port n .TRIP_STAT, 0, 1⟩
/-- `TRIP_STAT.STILL_ACTIVE` [1:1]. -/
abbrev TRIP_STAT.STILL_ACTIVE (n : Fin 64) : Field := ⟨.port n .TRIP_STAT, 1, 1⟩
/-- `TRIP_STAT.CLR_REFUSED` [2:2]. -/
abbrev TRIP_STAT.CLR_REFUSED (n : Fin 64) : Field := ⟨.port n .TRIP_STAT, 2, 1⟩
/-- `TRIP_STAT.PIN_LIVE` [3:3]. -/
abbrev TRIP_STAT.PIN_LIVE (n : Fin 64) : Field := ⟨.port n .TRIP_STAT, 3, 1⟩
/-- `TRIP_STAT.SRC` [7:4]. -/
abbrev TRIP_STAT.SRC (n : Fin 64) : Field := ⟨.port n .TRIP_STAT, 4, 4⟩
/-- `PWM_FLAGS` (R120). -/
abbrev PWM_FLAGS (n : Fin 64) : Reg := .port n .PWM_FLAGS
/-- `PWM_FLAGS.OVERRUN` [0:0]. -/
abbrev PWM_FLAGS.OVERRUN (n : Fin 64) : Field := ⟨.port n .PWM_FLAGS, 0, 1⟩
/-- `PWM_FLAGS.DOUBLE_POST` [1:1]. -/
abbrev PWM_FLAGS.DOUBLE_POST (n : Fin 64) : Field := ⟨.port n .PWM_FLAGS, 1, 1⟩
/-- `PWM_FLAGS.SHORT` [2:2]. -/
abbrev PWM_FLAGS.SHORT (n : Fin 64) : Field := ⟨.port n .PWM_FLAGS, 2, 1⟩
/-- `PWM_FLAGS.CLAMP` [3:3]. -/
abbrev PWM_FLAGS.CLAMP (n : Fin 64) : Field := ⟨.port n .PWM_FLAGS, 3, 1⟩
/-- `PWM_FLAGS.EW_BAD` [4:4]. -/
abbrev PWM_FLAGS.EW_BAD (n : Fin 64) : Field := ⟨.port n .PWM_FLAGS, 4, 1⟩
/-- `PWM_FLAGS.ARM_REFUSED` [5:5]. -/
abbrev PWM_FLAGS.ARM_REFUSED (n : Fin 64) : Field := ⟨.port n .PWM_FLAGS, 5, 1⟩
/-- `PWM_FLAGS.CFG_REFUSED` [6:6]. -/
abbrev PWM_FLAGS.CFG_REFUSED (n : Fin 64) : Field := ⟨.port n .PWM_FLAGS, 6, 1⟩
/-- `PWM_FLAGS.REFRESH` [7:7]. -/
abbrev PWM_FLAGS.REFRESH (n : Fin 64) : Field := ⟨.port n .PWM_FLAGS, 7, 1⟩
/-- `PWM_FLAGS.CAL_FAIL` [8:8]. -/
abbrev PWM_FLAGS.CAL_FAIL (n : Fin 64) : Field := ⟨.port n .PWM_FLAGS, 8, 1⟩
/-- `OVR_CNT` (R120). -/
abbrev OVR_CNT (n : Fin 64) : Reg := .port n .OVR_CNT
/-- `SHORT_CNT` (R120). -/
abbrev SHORT_CNT (n : Fin 64) : Reg := .port n .SHORT_CNT
/-- `TRIP_CNT` (R120). -/
abbrev TRIP_CNT (n : Fin 64) : Reg := .port n .TRIP_CNT
/-- `CAL_STAT` (R120). -/
abbrev CAL_STAT (n : Fin 64) : Reg := .port n .CAL_STAT
/-- `CAL_STAT.VALID` [0:0]. -/
abbrev CAL_STAT.VALID (n : Fin 64) : Field := ⟨.port n .CAL_STAT, 0, 1⟩
/-- `CAL_STAT.MAX_TAP` [15:8]. -/
abbrev CAL_STAT.MAX_TAP (n : Fin 64) : Field := ⟨.port n .CAL_STAT, 8, 8⟩
/-- `CAL_STAT.ROUNDS` [31:16]. -/
abbrev CAL_STAT.ROUNDS (n : Fin 64) : Field := ⟨.port n .CAL_STAT, 16, 16⟩
/-- `PWM_LIVE` (R120). -/
abbrev PWM_LIVE (n : Fin 64) : Reg := .port n .PWM_LIVE
/-- `PWM_LIVE.CMD_HIGH` [3:0]. -/
abbrev PWM_LIVE.CMD_HIGH (n : Fin 64) : Field := ⟨.port n .PWM_LIVE, 0, 4⟩
/-- `PWM_LIVE.GH_ON` [7:4]. -/
abbrev PWM_LIVE.GH_ON (n : Fin 64) : Field := ⟨.port n .PWM_LIVE, 4, 4⟩
/-- `PWM_LIVE.GL_ON` [11:8]. -/
abbrev PWM_LIVE.GL_ON (n : Fin 64) : Field := ⟨.port n .PWM_LIVE, 8, 4⟩
/-- `PWM_LIVE.FLOAT` [15:12]. -/
abbrev PWM_LIVE.FLOAT (n : Fin 64) : Field := ⟨.port n .PWM_LIVE, 12, 4⟩
/-- `EW_RISE` (R120). -/
abbrev EW_RISE (n : Fin 64) (pl : Fin 2) (l : Fin 4) : Reg := .port n (.EW_RISE pl l)
/-- `EW_FALL` (R120). -/
abbrev EW_FALL (n : Fin 64) (pl : Fin 2) (l : Fin 4) : Reg := .port n (.EW_FALL pl l)
/-- `EW_COMMIT` (R120). -/
abbrev EW_COMMIT (n : Fin 64) : Reg := .port n .EW_COMMIT
/-- `ACT_RISE` (R120). -/
abbrev ACT_RISE (n : Fin 64) (l : Fin 4) : Reg := .port n (.ACT_RISE l)
/-- `ACT_FALL` (R120). -/
abbrev ACT_FALL (n : Fin 64) (l : Fin 4) : Reg := .port n (.ACT_FALL l)
/-- `ACT_PERIOD` (R120). -/
abbrev ACT_PERIOD (n : Fin 64) : Reg := .port n .ACT_PERIOD
/-- `ACT_PERIOD.PERIOD` [15:0]. -/
abbrev ACT_PERIOD.PERIOD (n : Fin 64) : Field := ⟨.port n .ACT_PERIOD, 0, 16⟩
/-- `ACT_PERIOD.REPEATED` [16:16]. -/
abbrev ACT_PERIOD.REPEATED (n : Fin 64) : Field := ⟨.port n .ACT_PERIOD, 16, 1⟩
/-- `SDF_CFG` (R136). -/
abbrev SDF_CFG (n : Fin 80) : Reg := .sdf n .SDF_CFG
/-- `SDF_CFG.DEC` [8:0]. -/
abbrev SDF_CFG.DEC (n : Fin 80) : Field := ⟨.sdf n .SDF_CFG, 0, 9⟩
/-- `SDF_CFG.EN_A` [9:9]. -/
abbrev SDF_CFG.EN_A (n : Fin 80) : Field := ⟨.sdf n .SDF_CFG, 9, 1⟩
/-- `SDF_CFG.EN_B` [10:10]. -/
abbrev SDF_CFG.EN_B (n : Fin 80) : Field := ⟨.sdf n .SDF_CFG, 10, 1⟩
/-- `SDF_CFG.STUCK` [23:16]. -/
abbrev SDF_CFG.STUCK (n : Fin 80) : Field := ⟨.sdf n .SDF_CFG, 16, 8⟩
/-- `SDF_STAT` (R136). -/
abbrev SDF_STAT (n : Fin 80) : Reg := .sdf n .SDF_STAT
/-- `SDF_STAT.STUCK_A` [0:0]. -/
abbrev SDF_STAT.STUCK_A (n : Fin 80) : Field := ⟨.sdf n .SDF_STAT, 0, 1⟩
/-- `SDF_STAT.STUCK_B` [1:1]. -/
abbrev SDF_STAT.STUCK_B (n : Fin 80) : Field := ⟨.sdf n .SDF_STAT, 1, 1⟩
/-- `SDF_STAT.CLIP_A` [2:2]. -/
abbrev SDF_STAT.CLIP_A (n : Fin 80) : Field := ⟨.sdf n .SDF_STAT, 2, 1⟩
/-- `SDF_STAT.CLIP_B` [3:3]. -/
abbrev SDF_STAT.CLIP_B (n : Fin 80) : Field := ⟨.sdf n .SDF_STAT, 3, 1⟩
/-- `SDF_STAT.CFG_REFUSED` [4:4]. -/
abbrev SDF_STAT.CFG_REFUSED (n : Fin 80) : Field := ⟨.sdf n .SDF_STAT, 4, 1⟩
/-- `SDF_STAT.DEC_CLAMPED` [5:5]. -/
abbrev SDF_STAT.DEC_CLAMPED (n : Fin 80) : Field := ⟨.sdf n .SDF_STAT, 5, 1⟩
/-- `SDF_GAIN_A` (R136). -/
abbrev SDF_GAIN_A (n : Fin 80) : Reg := .sdf n .SDF_GAIN_A
/-- `SDF_OFS_A` (R136). -/
abbrev SDF_OFS_A (n : Fin 80) : Reg := .sdf n .SDF_OFS_A
/-- `SDF_GAIN_B` (R136). -/
abbrev SDF_GAIN_B (n : Fin 80) : Reg := .sdf n .SDF_GAIN_B
/-- `SDF_OFS_B` (R136). -/
abbrev SDF_OFS_B (n : Fin 80) : Reg := .sdf n .SDF_OFS_B
/-- `SDF_SAMPLE_A` (R136). -/
abbrev SDF_SAMPLE_A (n : Fin 80) : Reg := .sdf n .SDF_SAMPLE_A
/-- `SDF_SAMPLE_B` (R136). -/
abbrev SDF_SAMPLE_B (n : Fin 80) : Reg := .sdf n .SDF_SAMPLE_B
/-- `SDF_PERIOD` (R136). -/
abbrev SDF_PERIOD (n : Fin 80) : Reg := .sdf n .SDF_PERIOD
/-- `SDF_CLIP_CNT` (R136). -/
abbrev SDF_CLIP_CNT (n : Fin 80) : Reg := .sdf n .SDF_CLIP_CNT
/-- `SDF_STUCK_CNT` (R136). -/
abbrev SDF_STUCK_CNT (n : Fin 80) : Reg := .sdf n .SDF_STUCK_CNT
/-- `SDC_CTRL` (R136). -/
abbrev SDC_CTRL : Reg := .sdc .SDC_CTRL
/-- `SDC_CTRL.ARM` [8:0]. -/
abbrev SDC_CTRL.ARM : Field := ⟨.sdc .SDC_CTRL, 0, 9⟩
/-- `SDC_CTRL.FREQ` [16:16]. -/
abbrev SDC_CTRL.FREQ : Field := ⟨.sdc .SDC_CTRL, 16, 1⟩
/-- `SDC_DLY` (R136). -/
abbrev SDC_DLY (g : Fin 9) : Reg := .sdc (.SDC_DLY g)
/-- `SDC_STAT` (R136). -/
abbrev SDC_STAT : Reg := .sdc .SDC_STAT
/-- `SDC_STAT.CFG_REFUSED` [0:0]. -/
abbrev SDC_STAT.CFG_REFUSED : Field := ⟨.sdc .SDC_STAT, 0, 1⟩
/-- `FB_CTRL` (R162). -/
abbrev FB_CTRL (n : Fin 64) : Reg := .fb n .FB_CTRL
/-- `FB_CTRL.EN` [0:0]. -/
abbrev FB_CTRL.EN (n : Fin 64) : Field := ⟨.fb n .FB_CTRL, 0, 1⟩
/-- `FB_CTRL.OUT_EN` [1:1]. -/
abbrev FB_CTRL.OUT_EN (n : Fin 64) : Field := ⟨.fb n .FB_CTRL, 1, 1⟩
/-- `FB_CTRL.ENC_CLR` [2:2]. -/
abbrev FB_CTRL.ENC_CLR (n : Fin 64) : Field := ⟨.fb n .FB_CTRL, 2, 1⟩
/-- `FB_CFG` (R162). -/
abbrev FB_CFG (n : Fin 64) : Reg := .fb n .FB_CFG
/-- `FB_CFG.MODE` [2:0]. -/
abbrev FB_CFG.MODE (n : Fin 64) : Field := ⟨.fb n .FB_CFG, 0, 3⟩
/-- `FB_CFG.DIR_INV` [3:3]. -/
abbrev FB_CFG.DIR_INV (n : Fin 64) : Field := ⟨.fb n .FB_CFG, 3, 1⟩
/-- `FB_CFG.ZEN` [4:4]. -/
abbrev FB_CFG.ZEN (n : Fin 64) : Field := ⟨.fb n .FB_CFG, 4, 1⟩
/-- `FB_CFG.RES` [10:5]. -/
abbrev FB_CFG.RES (n : Fin 64) : Field := ⟨.fb n .FB_CFG, 5, 6⟩
/-- `FB_CFG.SRATE` [12:11]. -/
abbrev FB_CFG.SRATE (n : Fin 64) : Field := ⟨.fb n .FB_CFG, 11, 2⟩
/-- `FB_CFG.FBO_SEL` [15:13]. -/
abbrev FB_CFG.FBO_SEL (n : Fin 64) : Field := ⟨.fb n .FB_CFG, 13, 3⟩
/-- `FB_SER` (R162). -/
abbrev FB_SER (n : Fin 64) : Reg := .fb n .FB_SER
/-- `FB_SER.LINE_DLY` [7:0]. -/
abbrev FB_SER.LINE_DLY (n : Fin 64) : Field := ⟨.fb n .FB_SER, 0, 8⟩
/-- `FB_SER.SSI_CLK` [9:8]. -/
abbrev FB_SER.SSI_CLK (n : Fin 64) : Field := ⟨.fb n .FB_SER, 8, 2⟩
/-- `FB_SER.SSI_BITS` [15:10]. -/
abbrev FB_SER.SSI_BITS (n : Fin 64) : Field := ⟨.fb n .FB_SER, 10, 6⟩
/-- `FB_SER.TURN_BITS` [20:16]. -/
abbrev FB_SER.TURN_BITS (n : Fin 64) : Field := ⟨.fb n .FB_SER, 16, 5⟩
/-- `FB_SER.GRAY` [21:21]. -/
abbrev FB_SER.GRAY (n : Fin 64) : Field := ⟨.fb n .FB_SER, 21, 1⟩
/-- `FB_SER.EBIT` [22:22]. -/
abbrev FB_SER.EBIT (n : Fin 64) : Field := ⟨.fb n .FB_SER, 22, 1⟩
/-- `FB_SER.FIL2_5M` [23:23]. -/
abbrev FB_SER.FIL2_5M (n : Fin 64) : Field := ⟨.fb n .FB_SER, 23, 1⟩
/-- `FB_STAT` (R162). -/
abbrev FB_STAT (n : Fin 64) : Reg := .fb n .FB_STAT
/-- `FB_STAT.DIR` [0:0]. -/
abbrev FB_STAT.DIR (n : Fin 64) : Field := ⟨.fb n .FB_STAT, 0, 1⟩
/-- `FB_STAT.STANDSTILL` [1:1]. -/
abbrev FB_STAT.STANDSTILL (n : Fin 64) : Field := ⟨.fb n .FB_STAT, 1, 1⟩
/-- `FB_STAT.UNCERTAIN` [2:2]. -/
abbrev FB_STAT.UNCERTAIN (n : Fin 64) : Field := ⟨.fb n .FB_STAT, 2, 1⟩
/-- `FB_STAT.AT_LLIM` [3:3]. -/
abbrev FB_STAT.AT_LLIM (n : Fin 64) : Field := ⟨.fb n .FB_STAT, 3, 1⟩
/-- `FB_STAT.AT_ULIM` [4:4]. -/
abbrev FB_STAT.AT_ULIM (n : Fin 64) : Field := ⟨.fb n .FB_STAT, 4, 1⟩
/-- `FB_STAT.VALID` [5:5]. -/
abbrev FB_STAT.VALID (n : Fin 64) : Field := ⟨.fb n .FB_STAT, 5, 1⟩
/-- `FB_STAT.SAT` [8:8]. -/
abbrev FB_STAT.SAT (n : Fin 64) : Field := ⟨.fb n .FB_STAT, 8, 1⟩
/-- `FB_STAT.ERR_FAULT` [9:9]. -/
abbrev FB_STAT.ERR_FAULT (n : Fin 64) : Field := ⟨.fb n .FB_STAT, 9, 1⟩
/-- `FB_STAT.CRC` [10:10]. -/
abbrev FB_STAT.CRC (n : Fin 64) : Field := ⟨.fb n .FB_STAT, 10, 1⟩
/-- `FB_STAT.TIMEOUT` [11:11]. -/
abbrev FB_STAT.TIMEOUT (n : Fin 64) : Field := ⟨.fb n .FB_STAT, 11, 1⟩
/-- `FB_STAT.FRAME` [12:12]. -/
abbrev FB_STAT.FRAME (n : Fin 64) : Field := ⟨.fb n .FB_STAT, 12, 1⟩
/-- `FB_STAT.JUMP` [13:13]. -/
abbrev FB_STAT.JUMP (n : Fin 64) : Field := ⟨.fb n .FB_STAT, 13, 1⟩
/-- `FB_STAT.ENC_ALARM` [14:14]. -/
abbrev FB_STAT.ENC_ALARM (n : Fin 64) : Field := ⟨.fb n .FB_STAT, 14, 1⟩
/-- `FB_STAT.INDEX` [15:15]. -/
abbrev FB_STAT.INDEX (n : Fin 64) : Field := ⟨.fb n .FB_STAT, 15, 1⟩
/-- `FB_STAT.LATE_HIT` [16:16]. -/
abbrev FB_STAT.LATE_HIT (n : Fin 64) : Field := ⟨.fb n .FB_STAT, 16, 1⟩
/-- `FB_STAT.MULTI` [17:17]. -/
abbrev FB_STAT.MULTI (n : Fin 64) : Field := ⟨.fb n .FB_STAT, 17, 1⟩
/-- `FB_STAT.CFG_REFUSED` [18:18]. -/
abbrev FB_STAT.CFG_REFUSED (n : Fin 64) : Field := ⟨.fb n .FB_STAT, 18, 1⟩
/-- `FB_POS_LO` (R162). -/
abbrev FB_POS_LO (n : Fin 64) : Reg := .fb n .FB_POS_LO
/-- `FB_POS_HI` (R162). -/
abbrev FB_POS_HI (n : Fin 64) : Reg := .fb n .FB_POS_HI
/-- `FB_PSAMP_LO` (R162). -/
abbrev FB_PSAMP_LO (n : Fin 64) : Reg := .fb n .FB_PSAMP_LO
/-- `FB_PSAMP_HI` (R162). -/
abbrev FB_PSAMP_HI (n : Fin 64) : Reg := .fb n .FB_PSAMP_HI
/-- `FB_SPD_LO` (R162). -/
abbrev FB_SPD_LO (n : Fin 64) : Reg := .fb n .FB_SPD_LO
/-- `FB_SPD_HI` (R162). -/
abbrev FB_SPD_HI (n : Fin 64) : Reg := .fb n .FB_SPD_HI
/-- `FB_PSTAT` (R162). -/
abbrev FB_PSTAT (n : Fin 64) : Reg := .fb n .FB_PSTAT
/-- `FB_PSTAT.DIR` [0:0]. -/
abbrev FB_PSTAT.DIR (n : Fin 64) : Field := ⟨.fb n .FB_PSTAT, 0, 1⟩
/-- `FB_PSTAT.STANDSTILL` [1:1]. -/
abbrev FB_PSTAT.STANDSTILL (n : Fin 64) : Field := ⟨.fb n .FB_PSTAT, 1, 1⟩
/-- `FB_PSTAT.UNCERTAIN` [2:2]. -/
abbrev FB_PSTAT.UNCERTAIN (n : Fin 64) : Field := ⟨.fb n .FB_PSTAT, 2, 1⟩
/-- `FB_PSTAT.AT_LIM` [3:3]. -/
abbrev FB_PSTAT.AT_LIM (n : Fin 64) : Field := ⟨.fb n .FB_PSTAT, 3, 1⟩
/-- `FB_PSTAT.VALID` [4:4]. -/
abbrev FB_PSTAT.VALID (n : Fin 64) : Field := ⟨.fb n .FB_PSTAT, 4, 1⟩
/-- `FB_PSTAT.STALE` [5:5]. -/
abbrev FB_PSTAT.STALE (n : Fin 64) : Field := ⟨.fb n .FB_PSTAT, 5, 1⟩
/-- `FB_PSTAT.FAULT` [6:6]. -/
abbrev FB_PSTAT.FAULT (n : Fin 64) : Field := ⟨.fb n .FB_PSTAT, 6, 1⟩
/-- `FB_PSTAT.PERIOD` [31:16]. -/
abbrev FB_PSTAT.PERIOD (n : Fin 64) : Field := ⟨.fb n .FB_PSTAT, 16, 16⟩
/-- `FB_LLIM_LO` (R162). -/
abbrev FB_LLIM_LO (n : Fin 64) : Reg := .fb n .FB_LLIM_LO
/-- `FB_LLIM_HI` (R162). -/
abbrev FB_LLIM_HI (n : Fin 64) : Reg := .fb n .FB_LLIM_HI
/-- `FB_ULIM_LO` (R162). -/
abbrev FB_ULIM_LO (n : Fin 64) : Reg := .fb n .FB_ULIM_LO
/-- `FB_ULIM_HI` (R162). -/
abbrev FB_ULIM_HI (n : Fin 64) : Reg := .fb n .FB_ULIM_HI
/-- `FB_SST` (R162). -/
abbrev FB_SST (n : Fin 64) : Reg := .fb n .FB_SST
/-- `FB_ERR_CNT` (R162). -/
abbrev FB_ERR_CNT (n : Fin 64) : Reg := .fb n .FB_ERR_CNT
/-- `FB_ERR_LIM` (R162). -/
abbrev FB_ERR_LIM (n : Fin 64) : Reg := .fb n .FB_ERR_LIM
/-- `FB_JUMP` (R162). -/
abbrev FB_JUMP (n : Fin 64) : Reg := .fb n .FB_JUMP
/-- `FB_SET_LO` (R162). -/
abbrev FB_SET_LO (n : Fin 64) : Reg := .fb n .FB_SET_LO
/-- `FB_SET_HI` (R162). -/
abbrev FB_SET_HI (n : Fin 64) : Reg := .fb n .FB_SET_HI
/-- `FB_IDX_LO` (R162). -/
abbrev FB_IDX_LO (n : Fin 64) : Reg := .fb n .FB_IDX_LO
/-- `FB_IDX_HI` (R162). -/
abbrev FB_IDX_HI (n : Fin 64) : Reg := .fb n .FB_IDX_HI
/-- `FB_ENC` (R162). -/
abbrev FB_ENC (n : Fin 64) : Reg := .fb n .FB_ENC
/-- `CMP_CTRL` (R162). -/
abbrev CMP_CTRL (n : Fin 64) : Reg := .fb n .CMP_CTRL
/-- `CMP_CTRL.EN` [0:0]. -/
abbrev CMP_CTRL.EN (n : Fin 64) : Field := ⟨.fb n .CMP_CTRL, 0, 1⟩
/-- `CMP_CTRL.DIR` [1:1]. -/
abbrev CMP_CTRL.DIR (n : Fin 64) : Field := ⟨.fb n .CMP_CTRL, 1, 1⟩
/-- `CMP_CTRL.IRQ` [2:2]. -/
abbrev CMP_CTRL.IRQ (n : Fin 64) : Field := ⟨.fb n .CMP_CTRL, 2, 1⟩
/-- `CMP_CTRL.LOCKET` [3:3]. -/
abbrev CMP_CTRL.LOCKET (n : Fin 64) : Field := ⟨.fb n .CMP_CTRL, 3, 1⟩
/-- `CMP_CTRL.PW` [15:8]. -/
abbrev CMP_CTRL.PW (n : Fin 64) : Field := ⟨.fb n .CMP_CTRL, 8, 8⟩
/-- `CMP_POS_LO` (R162). -/
abbrev CMP_POS_LO (n : Fin 64) : Reg := .fb n .CMP_POS_LO
/-- `CMP_POS_HI` (R162). -/
abbrev CMP_POS_HI (n : Fin 64) : Reg := .fb n .CMP_POS_HI
/-- `CMP_SPACE` (R162). -/
abbrev CMP_SPACE (n : Fin 64) : Reg := .fb n .CMP_SPACE
/-- `CMP_NEXT_LO` (R162). -/
abbrev CMP_NEXT_LO (n : Fin 64) : Reg := .fb n .CMP_NEXT_LO
/-- `CMP_NEXT_HI` (R162). -/
abbrev CMP_NEXT_HI (n : Fin 64) : Reg := .fb n .CMP_NEXT_HI
/-- `CMP_SKIP` (R162). -/
abbrev CMP_SKIP (n : Fin 64) : Reg := .fb n .CMP_SKIP
/-- `CMP_HITS` (R162). -/
abbrev CMP_HITS (n : Fin 64) : Reg := .fb n .CMP_HITS
/-- `CMP_HIT_NS` (R162). -/
abbrev CMP_HIT_NS (n : Fin 64) : Reg := .fb n .CMP_HIT_NS
/-- `CMP_HIT_SEC_LO` (R162). -/
abbrev CMP_HIT_SEC_LO (n : Fin 64) : Reg := .fb n .CMP_HIT_SEC_LO
/-- `CMP_HIT_SEC_HI` (R162). -/
abbrev CMP_HIT_SEC_HI (n : Fin 64) : Reg := .fb n .CMP_HIT_SEC_HI
/-- `LD_CTRL` (R204). -/
abbrev LD_CTRL (n : Fin 256) : Reg := .ld n .LD_CTRL
/-- `LD_CTRL.EN` [0:0]. -/
abbrev LD_CTRL.EN (n : Fin 256) : Field := ⟨.ld n .LD_CTRL, 0, 1⟩
/-- `LD_CTRL.LAW` [1:1]. -/
abbrev LD_CTRL.LAW (n : Fin 256) : Field := ⟨.ld n .LD_CTRL, 1, 1⟩
/-- `LD_CTRL.OUT` [3:2]. -/
abbrev LD_CTRL.OUT (n : Fin 256) : Field := ⟨.ld n .LD_CTRL, 2, 2⟩
/-- `LD_CTRL.RATE` [6:4]. -/
abbrev LD_CTRL.RATE (n : Fin 256) : Field := ⟨.ld n .LD_CTRL, 4, 3⟩
/-- `LD_CTRL.REL` [12:7]. -/
abbrev LD_CTRL.REL (n : Fin 256) : Field := ⟨.ld n .LD_CTRL, 7, 6⟩
/-- `LD_CTRL.RCOUNT` [15:13]. -/
abbrev LD_CTRL.RCOUNT (n : Fin 256) : Field := ⟨.ld n .LD_CTRL, 13, 3⟩
/-- `LD_CTRL.STRUCT` [16:16]. -/
abbrev LD_CTRL.STRUCT (n : Fin 256) : Field := ⟨.ld n .LD_CTRL, 16, 1⟩
/-- `LD_CTRL.CLR_FAULT` [17:17]. -/
abbrev LD_CTRL.CLR_FAULT (n : Fin 256) : Field := ⟨.ld n .LD_CTRL, 17, 1⟩
/-- `LD_STAT` (R204). -/
abbrev LD_STAT (n : Fin 256) : Reg := .ld n .LD_STAT
/-- `LD_STAT.STATE` [2:0]. -/
abbrev LD_STAT.STATE (n : Fin 256) : Field := ⟨.ld n .LD_STAT, 0, 3⟩
/-- `LD_STAT.BANK` [3:3]. -/
abbrev LD_STAT.BANK (n : Fin 256) : Field := ⟨.ld n .LD_STAT, 3, 1⟩
/-- `LD_STAT.SWAP_PEND` [4:4]. -/
abbrev LD_STAT.SWAP_PEND (n : Fin 256) : Field := ⟨.ld n .LD_STAT, 4, 1⟩
/-- `LD_STAT.CAUSE` [7:5]. -/
abbrev LD_STAT.CAUSE (n : Fin 256) : Field := ⟨.ld n .LD_STAT, 5, 3⟩
/-- `LD_STAT.SUP_WARN` [8:8]. -/
abbrev LD_STAT.SUP_WARN (n : Fin 256) : Field := ⟨.ld n .LD_STAT, 8, 1⟩
/-- `LD_STAT.SUP_FAULT` [9:9]. -/
abbrev LD_STAT.SUP_FAULT (n : Fin 256) : Field := ⟨.ld n .LD_STAT, 9, 1⟩
/-- `LD_STAT.REF_LATE` [10:10]. -/
abbrev LD_STAT.REF_LATE (n : Fin 256) : Field := ⟨.ld n .LD_STAT, 10, 1⟩
/-- `LD_STAT.SP_LATE` [11:11]. -/
abbrev LD_STAT.SP_LATE (n : Fin 256) : Field := ⟨.ld n .LD_STAT, 11, 1⟩
/-- `LD_STAT.WCET_EXCEED` [12:12]. -/
abbrev LD_STAT.WCET_EXCEED (n : Fin 256) : Field := ⟨.ld n .LD_STAT, 12, 1⟩
/-- `LD_STAT.CFG_REFUSED` [13:13]. -/
abbrev LD_STAT.CFG_REFUSED (n : Fin 256) : Field := ⟨.ld n .LD_STAT, 13, 1⟩
/-- `LD_STAT.BANK_REFUSED` [14:14]. -/
abbrev LD_STAT.BANK_REFUSED (n : Fin 256) : Field := ⟨.ld n .LD_STAT, 14, 1⟩
/-- `LD_STAT.SWAP_REFUSED` [15:15]. -/
abbrev LD_STAT.SWAP_REFUSED (n : Fin 256) : Field := ⟨.ld n .LD_STAT, 15, 1⟩
/-- `LD_STAT.CLR_REFUSED` [16:16]. -/
abbrev LD_STAT.CLR_REFUSED (n : Fin 256) : Field := ⟨.ld n .LD_STAT, 16, 1⟩
/-- `LD_PORT` (R204). -/
abbrev LD_PORT (n : Fin 256) : Reg := .ld n .LD_PORT
/-- `LD_PORT.PORT` [5:0]. -/
abbrev LD_PORT.PORT (n : Fin 256) : Field := ⟨.ld n .LD_PORT, 0, 6⟩
/-- `LD_PORT.FB` [13:8]. -/
abbrev LD_PORT.FB (n : Fin 256) : Field := ⟨.ld n .LD_PORT, 8, 6⟩
/-- `LD_ADDR` (R204). -/
abbrev LD_ADDR (n : Fin 256) : Reg := .ld n .LD_ADDR
/-- `LD_SWAP` (R204). -/
abbrev LD_SWAP (n : Fin 256) : Reg := .ld n .LD_SWAP
/-- `LD_SWAP.REQ` [0:0]. -/
abbrev LD_SWAP.REQ (n : Fin 256) : Field := ⟨.ld n .LD_SWAP, 0, 1⟩
/-- `LD_RAMP` (R204). -/
abbrev LD_RAMP (n : Fin 256) : Reg := .ld n .LD_RAMP
/-- `LD_DIN` (R204). -/
abbrev LD_DIN (n : Fin 256) : Reg := .ld n .LD_DIN
/-- `LD_DOUT` (R204). -/
abbrev LD_DOUT (n : Fin 256) : Reg := .ld n .LD_DOUT
/-- `LD_DADJ` (R204). -/
abbrev LD_DADJ (n : Fin 256) : Reg := .ld n .LD_DADJ
/-- `LD_EANG` (R204). -/
abbrev LD_EANG (n : Fin 256) : Reg := .ld n .LD_EANG
/-- `LD_EOFS` (R204). -/
abbrev LD_EOFS (n : Fin 256) : Reg := .ld n .LD_EOFS
/-- `LD_SUP_CFG` (R204). -/
abbrev LD_SUP_CFG (n : Fin 256) : Reg := .ld n .LD_SUP_CFG
/-- `LD_SUP_CFG.N_WARN` [7:0]. -/
abbrev LD_SUP_CFG.N_WARN (n : Fin 256) : Field := ⟨.ld n .LD_SUP_CFG, 0, 8⟩
/-- `LD_SUP_CFG.N_FAULT` [15:8]. -/
abbrev LD_SUP_CFG.N_FAULT (n : Fin 256) : Field := ⟨.ld n .LD_SUP_CFG, 8, 8⟩
/-- `LD_SUP_CFG.BAD_LIM` [23:16]. -/
abbrev LD_SUP_CFG.BAD_LIM (n : Fin 256) : Field := ⟨.ld n .LD_SUP_CFG, 16, 8⟩
/-- `LD_SUP_CFG.REACT` [25:24]. -/
abbrev LD_SUP_CFG.REACT (n : Fin 256) : Field := ⟨.ld n .LD_SUP_CFG, 24, 2⟩
/-- `LD_SUP_WARN` (R204). -/
abbrev LD_SUP_WARN (n : Fin 256) : Reg := .ld n .LD_SUP_WARN
/-- `LD_SUP_FAULT` (R204). -/
abbrev LD_SUP_FAULT (n : Fin 256) : Reg := .ld n .LD_SUP_FAULT
/-- `LD_WCET` (R204). -/
abbrev LD_WCET (n : Fin 256) : Reg := .ld n .LD_WCET
/-- `LD_ENTRY` (R204). -/
abbrev LD_ENTRY (n : Fin 256) : Reg := .ld n .LD_ENTRY
/-- `LD_RUNS` (R204). -/
abbrev LD_RUNS (n : Fin 256) : Reg := .ld n .LD_RUNS
/-- `LD_OVR` (R204). -/
abbrev LD_OVR (n : Fin 256) : Reg := .ld n .LD_OVR
/-- `LD_BAD_CNT` (R204). -/
abbrev LD_BAD_CNT (n : Fin 256) : Reg := .ld n .LD_BAD_CNT
/-- `LD_SUP_CNT` (R204). -/
abbrev LD_SUP_CNT (n : Fin 256) : Reg := .ld n .LD_SUP_CNT
/-- `LD_CYC_MAX` (R204). -/
abbrev LD_CYC_MAX (n : Fin 256) : Reg := .ld n .LD_CYC_MAX
/-- `LD_RES_MAX` (R204). -/
abbrev LD_RES_MAX (n : Fin 256) : Reg := .ld n .LD_RES_MAX
/-- `LD_REF_D` (R204). -/
abbrev LD_REF_D (n : Fin 256) : Reg := .ld n .LD_REF_D
/-- `LD_REF_Q` (R204). -/
abbrev LD_REF_Q (n : Fin 256) : Reg := .ld n .LD_REF_Q
/-- `LD_REF_COMMIT` (R204). -/
abbrev LD_REF_COMMIT (n : Fin 256) : Reg := .ld n .LD_REF_COMMIT
/-- `LD_SP_POS_LO` (R204). -/
abbrev LD_SP_POS_LO (n : Fin 256) : Reg := .ld n .LD_SP_POS_LO
/-- `LD_SP_POS_HI` (R204). -/
abbrev LD_SP_POS_HI (n : Fin 256) : Reg := .ld n .LD_SP_POS_HI
/-- `LD_SP_VEL` (R204). -/
abbrev LD_SP_VEL (n : Fin 256) : Reg := .ld n .LD_SP_VEL
/-- `LD_SP_TFF` (R204). -/
abbrev LD_SP_TFF (n : Fin 256) : Reg := .ld n .LD_SP_TFF
/-- `LD_SP_COMMIT` (R204). -/
abbrev LD_SP_COMMIT (n : Fin 256) : Reg := .ld n .LD_SP_COMMIT
/-- `LD_BANK` (R204). -/
abbrev LD_BANK (n : Fin 256) (b : Fin 2) (k : Fin 64) : Reg := .ld n (.LD_BANK b k)
/-- `LD_S` (R204). -/
abbrev LD_S (n : Fin 256) (k : Fin 8) : Reg := .ld n (.LD_S k)
/-- `PLN_CFG` (R245). -/
abbrev PLN_CFG : Reg := .pln .PLN_CFG
/-- `PLN_CFG.MISS_LIM` [7:0]. -/
abbrev PLN_CFG.MISS_LIM : Field := ⟨.pln .PLN_CFG, 0, 8⟩
/-- `PLN_STAT` (R245). -/
abbrev PLN_STAT : Reg := .pln .PLN_STAT
/-- `PLN_STAT.KILN_REUSED` [0:0]. -/
abbrev PLN_STAT.KILN_REUSED : Field := ⟨.pln .PLN_STAT, 0, 1⟩
/-- `PLN_STAT.KILN_STOP` [1:1]. -/
abbrev PLN_STAT.KILN_STOP : Field := ⟨.pln .PLN_STAT, 1, 1⟩
/-- `PLN_STAT.BUILD_LATE` [2:2]. -/
abbrev PLN_STAT.BUILD_LATE : Field := ⟨.pln .PLN_STAT, 2, 1⟩
/-- `PLN_STAT.MISS_RUN` [15:8]. -/
abbrev PLN_STAT.MISS_RUN : Field := ⟨.pln .PLN_STAT, 8, 8⟩
/-- `PLN_MARGIN` (R245). -/
abbrev PLN_MARGIN : Reg := .pln .PLN_MARGIN
/-- `PLN_TICKS` (R245). -/
abbrev PLN_TICKS : Reg := .pln .PLN_TICKS
/-- `PLN_MISS_CNT` (R245). -/
abbrev PLN_MISS_CNT : Reg := .pln .PLN_MISS_CNT
/-- `ARM_CTRL` (R247). -/
abbrev ARM_CTRL (a : Fin 8) : Reg := .arm a .ARM_CTRL
/-- `ARM_CTRL.EN` [0:0]. -/
abbrev ARM_CTRL.EN (a : Fin 8) : Field := ⟨.arm a .ARM_CTRL, 0, 1⟩
/-- `ARM_CTRL.PAUSE` [1:1]. -/
abbrev ARM_CTRL.PAUSE (a : Fin 8) : Field := ⟨.arm a .ARM_CTRL, 1, 1⟩
/-- `ARM_CTRL.RESUME` [2:2]. -/
abbrev ARM_CTRL.RESUME (a : Fin 8) : Field := ⟨.arm a .ARM_CTRL, 2, 1⟩
/-- `ARM_CTRL.ABORT` [3:3]. -/
abbrev ARM_CTRL.ABORT (a : Fin 8) : Field := ⟨.arm a .ARM_CTRL, 3, 1⟩
/-- `ARM_CTRL.CLR` [4:4]. -/
abbrev ARM_CTRL.CLR (a : Fin 8) : Field := ⟨.arm a .ARM_CTRL, 4, 1⟩
/-- `ARM_CTRL.SYNC` [7:5]. -/
abbrev ARM_CTRL.SYNC (a : Fin 8) : Field := ⟨.arm a .ARM_CTRL, 5, 3⟩
/-- `ARM_CTRL.SYNC_EN` [8:8]. -/
abbrev ARM_CTRL.SYNC_EN (a : Fin 8) : Field := ⟨.arm a .ARM_CTRL, 8, 1⟩
/-- `ARM_STAT` (R247). -/
abbrev ARM_STAT (a : Fin 8) : Reg := .arm a .ARM_STAT
/-- `ARM_STAT.STATE` [2:0]. -/
abbrev ARM_STAT.STATE (a : Fin 8) : Field := ⟨.arm a .ARM_STAT, 0, 3⟩
/-- `ARM_STAT.LIM_CHASE` [3:3]. -/
abbrev ARM_STAT.LIM_CHASE (a : Fin 8) : Field := ⟨.arm a .ARM_STAT, 3, 1⟩
/-- `ARM_STAT.START_LATE` [4:4]. -/
abbrev ARM_STAT.START_LATE (a : Fin 8) : Field := ⟨.arm a .ARM_STAT, 4, 1⟩
/-- `ARM_STAT.Q_FULL` [5:5]. -/
abbrev ARM_STAT.Q_FULL (a : Fin 8) : Field := ⟨.arm a .ARM_STAT, 5, 1⟩
/-- `ARM_STAT.REVERSED` [6:6]. -/
abbrev ARM_STAT.REVERSED (a : Fin 8) : Field := ⟨.arm a .ARM_STAT, 6, 1⟩
/-- `ARM_STAT.CFG_REFUSED` [7:7]. -/
abbrev ARM_STAT.CFG_REFUSED (a : Fin 8) : Field := ⟨.arm a .ARM_STAT, 7, 1⟩
/-- `ARM_STAT.CLR_REFUSED` [8:8]. -/
abbrev ARM_STAT.CLR_REFUSED (a : Fin 8) : Field := ⟨.arm a .ARM_STAT, 8, 1⟩
/-- `ARM_STAT.SAFE_REQ` [9:9]. -/
abbrev ARM_STAT.SAFE_REQ (a : Fin 8) : Field := ⟨.arm a .ARM_STAT, 9, 1⟩
/-- `ARM_STAT.MOVE_ID` [31:16]. -/
abbrev ARM_STAT.MOVE_ID (a : Fin 8) : Field := ⟨.arm a .ARM_STAT, 16, 16⟩
/-- `ARM_QDEPTH` (R247). -/
abbrev ARM_QDEPTH (a : Fin 8) : Reg := .arm a .ARM_QDEPTH
/-- `ARM_OVR` (R247). -/
abbrev ARM_OVR (a : Fin 8) : Reg := .arm a .ARM_OVR
/-- `ARM_ACC_SHARE` (R247). -/
abbrev ARM_ACC_SHARE (a : Fin 8) : Reg := .arm a .ARM_ACC_SHARE
/-- `ARM_STOP_RATE` (R247). -/
abbrev ARM_STOP_RATE (a : Fin 8) : Reg := .arm a .ARM_STOP_RATE
/-- `ARM_RATE` (R247). -/
abbrev ARM_RATE (a : Fin 8) : Reg := .arm a .ARM_RATE
/-- `ARM_LAMBDA` (R247). -/
abbrev ARM_LAMBDA (a : Fin 8) : Reg := .arm a .ARM_LAMBDA
/-- `ARM_LAMBDA_K` (R247). -/
abbrev ARM_LAMBDA_K (a : Fin 8) : Reg := .arm a .ARM_LAMBDA_K
/-- `ARM_WEIGHT` (R247). -/
abbrev ARM_WEIGHT (a : Fin 8) : Reg := .arm a .ARM_WEIGHT
/-- `ARM_VNOM` (R247). -/
abbrev ARM_VNOM (a : Fin 8) : Reg := .arm a .ARM_VNOM
/-- `ARM_VSAFE` (R247). -/
abbrev ARM_VSAFE (a : Fin 8) : Reg := .arm a .ARM_VSAFE
/-- `ARM_DONE_ID` (R247). -/
abbrev ARM_DONE_ID (a : Fin 8) : Reg := .arm a .ARM_DONE_ID
/-- `JNT_VMAX_LO` (R247). -/
abbrev JNT_VMAX_LO (a : Fin 8) (j : Fin 8) : Reg := .arm a (.JNT_VMAX_LO j)
/-- `JNT_VMAX_HI` (R247). -/
abbrev JNT_VMAX_HI (a : Fin 8) (j : Fin 8) : Reg := .arm a (.JNT_VMAX_HI j)
/-- `JNT_AMAX_LO` (R247). -/
abbrev JNT_AMAX_LO (a : Fin 8) (j : Fin 8) : Reg := .arm a (.JNT_AMAX_LO j)
/-- `JNT_AMAX_HI` (R247). -/
abbrev JNT_AMAX_HI (a : Fin 8) (j : Fin 8) : Reg := .arm a (.JNT_AMAX_HI j)
/-- `JNT_OVS_LO` (R247). -/
abbrev JNT_OVS_LO (a : Fin 8) (j : Fin 8) : Reg := .arm a (.JNT_OVS_LO j)
/-- `JNT_OVS_HI` (R247). -/
abbrev JNT_OVS_HI (a : Fin 8) (j : Fin 8) : Reg := .arm a (.JNT_OVS_HI j)
/-- `JNT_TFF` (R247). -/
abbrev JNT_TFF (a : Fin 8) (j : Fin 8) : Reg := .arm a (.JNT_TFF j)
/-- `STP_CTRL` (R249). -/
abbrev STP_CTRL (i : Fin 16) : Reg := .stp i .STP_CTRL
/-- `STP_CTRL.EN` [0:0]. -/
abbrev STP_CTRL.EN (i : Fin 16) : Field := ⟨.stp i .STP_CTRL, 0, 1⟩
/-- `STP_CTRL.PIN_ARM` [1:1]. -/
abbrev STP_CTRL.PIN_ARM (i : Fin 16) : Field := ⟨.stp i .STP_CTRL, 1, 1⟩
/-- `STP_CTRL.STOP` [2:2]. -/
abbrev STP_CTRL.STOP (i : Fin 16) : Field := ⟨.stp i .STP_CTRL, 2, 1⟩
/-- `STP_CTRL.ABORT` [3:3]. -/
abbrev STP_CTRL.ABORT (i : Fin 16) : Field := ⟨.stp i .STP_CTRL, 3, 1⟩
/-- `STP_CTRL.CLR` [4:4]. -/
abbrev STP_CTRL.CLR (i : Fin 16) : Field := ⟨.stp i .STP_CTRL, 4, 1⟩
/-- `STP_STAT` (R249). -/
abbrev STP_STAT (i : Fin 16) : Reg := .stp i .STP_STAT
/-- `STP_STAT.STATE` [2:0]. -/
abbrev STP_STAT.STATE (i : Fin 16) : Field := ⟨.stp i .STP_STAT, 0, 3⟩
/-- `STP_STAT.DIR` [3:3]. -/
abbrev STP_STAT.DIR (i : Fin 16) : Field := ⟨.stp i .STP_STAT, 3, 1⟩
/-- `STP_STAT.STRONG` [4:4]. -/
abbrev STP_STAT.STRONG (i : Fin 16) : Field := ⟨.stp i .STP_STAT, 4, 1⟩
/-- `STP_STAT.HOLDI` [5:5]. -/
abbrev STP_STAT.HOLDI (i : Fin 16) : Field := ⟨.stp i .STP_STAT, 5, 1⟩
/-- `STP_STAT.DECEL_DEFER` [6:6]. -/
abbrev STP_STAT.DECEL_DEFER (i : Fin 16) : Field := ⟨.stp i .STP_STAT, 6, 1⟩
/-- `STP_STAT.REVERSED` [7:7]. -/
abbrev STP_STAT.REVERSED (i : Fin 16) : Field := ⟨.stp i .STP_STAT, 7, 1⟩
/-- `STP_STAT.Q_FULL` [8:8]. -/
abbrev STP_STAT.Q_FULL (i : Fin 16) : Field := ⟨.stp i .STP_STAT, 8, 1⟩
/-- `STP_STAT.CFG_REFUSED` [9:9]. -/
abbrev STP_STAT.CFG_REFUSED (i : Fin 16) : Field := ⟨.stp i .STP_STAT, 9, 1⟩
/-- `STP_STAT.POS_DOUBT` [10:10]. -/
abbrev STP_STAT.POS_DOUBT (i : Fin 16) : Field := ⟨.stp i .STP_STAT, 10, 1⟩
/-- `STP_STAT.SAFE_HALT` [11:11]. -/
abbrev STP_STAT.SAFE_HALT (i : Fin 16) : Field := ⟨.stp i .STP_STAT, 11, 1⟩
/-- `STP_STAT.GRP_WAIT` [12:12]. -/
abbrev STP_STAT.GRP_WAIT (i : Fin 16) : Field := ⟨.stp i .STP_STAT, 12, 1⟩
/-- `STP_STAT.MOVE_ID` [31:16]. -/
abbrev STP_STAT.MOVE_ID (i : Fin 16) : Field := ⟨.stp i .STP_STAT, 16, 16⟩
/-- `STP_CFG` (R249). -/
abbrev STP_CFG (i : Fin 16) : Reg := .stp i .STP_CFG
/-- `STP_CFG.USTEP` [3:0]. -/
abbrev STP_CFG.USTEP (i : Fin 16) : Field := ⟨.stp i .STP_CFG, 0, 4⟩
/-- `STP_CFG.STEP_POL` [4:4]. -/
abbrev STP_CFG.STEP_POL (i : Fin 16) : Field := ⟨.stp i .STP_CFG, 4, 1⟩
/-- `STP_CFG.DIR_INV` [5:5]. -/
abbrev STP_CFG.DIR_INV (i : Fin 16) : Field := ⟨.stp i .STP_CFG, 5, 1⟩
/-- `STP_CFG.OUT` [7:6]. -/
abbrev STP_CFG.OUT (i : Fin 16) : Field := ⟨.stp i .STP_CFG, 6, 2⟩
/-- `STP_CFG.PORT` [13:8]. -/
abbrev STP_CFG.PORT (i : Fin 16) : Field := ⟨.stp i .STP_CFG, 8, 6⟩
/-- `STP_CFG.ARM` [16:14]. -/
abbrev STP_CFG.ARM (i : Fin 16) : Field := ⟨.stp i .STP_CFG, 14, 3⟩
/-- `STP_CFG.JOINT` [19:17]. -/
abbrev STP_CFG.JOINT (i : Fin 16) : Field := ⟨.stp i .STP_CFG, 17, 3⟩
/-- `STP_CFG.GROUP` [22:20]. -/
abbrev STP_CFG.GROUP (i : Fin 16) : Field := ⟨.stp i .STP_CFG, 20, 3⟩
/-- `STP_CFG.GRP_EN` [23:23]. -/
abbrev STP_CFG.GRP_EN (i : Fin 16) : Field := ⟨.stp i .STP_CFG, 23, 1⟩
/-- `STP_CFG.MODE` [25:24]. -/
abbrev STP_CFG.MODE (i : Fin 16) : Field := ⟨.stp i .STP_CFG, 24, 2⟩
/-- `STP_CFG.REL` [31:26]. -/
abbrev STP_CFG.REL (i : Fin 16) : Field := ⟨.stp i .STP_CFG, 26, 6⟩
/-- `STP_TIMING` (R249). -/
abbrev STP_TIMING (i : Fin 16) : Reg := .stp i .STP_TIMING
/-- `STP_TIMING.PW` [15:0]. -/
abbrev STP_TIMING.PW (i : Fin 16) : Field := ⟨.stp i .STP_TIMING, 0, 16⟩
/-- `STP_TIMING.DSETUP` [31:16]. -/
abbrev STP_TIMING.DSETUP (i : Fin 16) : Field := ⟨.stp i .STP_TIMING, 16, 16⟩
/-- `STP_VLIM` (R249). -/
abbrev STP_VLIM (i : Fin 16) : Reg := .stp i .STP_VLIM
/-- `STP_ACC` (R249). -/
abbrev STP_ACC (i : Fin 16) : Reg := .stp i .STP_ACC
/-- `STP_POS_LO` (R249). -/
abbrev STP_POS_LO (i : Fin 16) : Reg := .stp i .STP_POS_LO
/-- `STP_POS_HI` (R249). -/
abbrev STP_POS_HI (i : Fin 16) : Reg := .stp i .STP_POS_HI
/-- `STP_TGT_LO` (R249). -/
abbrev STP_TGT_LO (i : Fin 16) : Reg := .stp i .STP_TGT_LO
/-- `STP_TGT_HI` (R249). -/
abbrev STP_TGT_HI (i : Fin 16) : Reg := .stp i .STP_TGT_HI
/-- `STP_SPD` (R249). -/
abbrev STP_SPD (i : Fin 16) : Reg := .stp i .STP_SPD
/-- `STP_OVS` (R249). -/
abbrev STP_OVS (i : Fin 16) : Reg := .stp i .STP_OVS
/-- `STP_QDEPTH` (R249). -/
abbrev STP_QDEPTH (i : Fin 16) : Reg := .stp i .STP_QDEPTH
/-- `STP_MV_TGT_LO` (R249). -/
abbrev STP_MV_TGT_LO (i : Fin 16) : Reg := .stp i .STP_MV_TGT_LO
/-- `STP_MV_TGT_HI` (R249). -/
abbrev STP_MV_TGT_HI (i : Fin 16) : Reg := .stp i .STP_MV_TGT_HI
/-- `STP_MV_V` (R249). -/
abbrev STP_MV_V (i : Fin 16) : Reg := .stp i .STP_MV_V
/-- `STP_MV_CMD` (R249). -/
abbrev STP_MV_CMD (i : Fin 16) : Reg := .stp i .STP_MV_CMD
/-- `STP_MV_CMD.PUSH` [0:0]. -/
abbrev STP_MV_CMD.PUSH (i : Fin 16) : Field := ⟨.stp i .STP_MV_CMD, 0, 1⟩
/-- `STP_MV_CMD.REL` [1:1]. -/
abbrev STP_MV_CMD.REL (i : Fin 16) : Field := ⟨.stp i .STP_MV_CMD, 1, 1⟩
/-- `STP_MV_CMD.BLEND` [2:2]. -/
abbrev STP_MV_CMD.BLEND (i : Fin 16) : Field := ⟨.stp i .STP_MV_CMD, 2, 1⟩
/-- `STP_MV_CMD.REPLACE` [3:3]. -/
abbrev STP_MV_CMD.REPLACE (i : Fin 16) : Field := ⟨.stp i .STP_MV_CMD, 3, 1⟩
/-- `STP_MV_CMD.GRP` [4:4]. -/
abbrev STP_MV_CMD.GRP (i : Fin 16) : Field := ⟨.stp i .STP_MV_CMD, 4, 1⟩
/-- `STP_MV_CMD.ID` [31:16]. -/
abbrev STP_MV_CMD.ID (i : Fin 16) : Field := ⟨.stp i .STP_MV_CMD, 16, 16⟩
/-- `STP_SET_LO` (R249). -/
abbrev STP_SET_LO (i : Fin 16) : Reg := .stp i .STP_SET_LO
/-- `STP_SET_HI` (R249). -/
abbrev STP_SET_HI (i : Fin 16) : Reg := .stp i .STP_SET_HI
/-- `STP_QTH_HI` (R249). -/
abbrev STP_QTH_HI (i : Fin 16) : Reg := .stp i .STP_QTH_HI
/-- `STP_QTH_LO` (R249). -/
abbrev STP_QTH_LO (i : Fin 16) : Reg := .stp i .STP_QTH_LO
/-- `STP_IRUN` (R249). -/
abbrev STP_IRUN (i : Fin 16) : Reg := .stp i .STP_IRUN
/-- `STP_IHOLD` (R249). -/
abbrev STP_IHOLD (i : Fin 16) : Reg := .stp i .STP_IHOLD
/-- `STP_QV` (R249). -/
abbrev STP_QV (i : Fin 16) : Reg := .stp i .STP_QV
/-- `STP_KP` (R249). -/
abbrev STP_KP (i : Fin 16) : Reg := .stp i .STP_KP
/-- `STP_KI` (R249). -/
abbrev STP_KI (i : Fin 16) : Reg := .stp i .STP_KI
/-- `STP_HOLD_DLY` (R249). -/
abbrev STP_HOLD_DLY (i : Fin 16) : Reg := .stp i .STP_HOLD_DLY
/-- `STP_STEPS` (R249). -/
abbrev STP_STEPS (i : Fin 16) : Reg := .stp i .STP_STEPS
/-- `STP_DONE_ID` (R249). -/
abbrev STP_DONE_ID (i : Fin 16) : Reg := .stp i .STP_DONE_ID
/-- `STP_BAD` (R249). -/
abbrev STP_BAD (i : Fin 16) : Reg := .stp i .STP_BAD
/-- `UST_ENTRY` (R249). -/
abbrev UST_ENTRY (i : Fin 16) (k : Fin 256) : Reg := .ust i (.UST_ENTRY k)
/-- `KN_CTRL` (R275). -/
abbrev KN_CTRL (i : Fin 2) : Reg := .kn i .KN_CTRL
/-- `KN_CTRL.EN` [0:0]. -/
abbrev KN_CTRL.EN (i : Fin 2) : Field := ⟨.kn i .KN_CTRL, 0, 1⟩
/-- `KN_CTRL.FLUSH` [1:1]. -/
abbrev KN_CTRL.FLUSH (i : Fin 2) : Field := ⟨.kn i .KN_CTRL, 1, 1⟩
/-- `KN_STAT` (R275). -/
abbrev KN_STAT (i : Fin 2) : Reg := .kn i .KN_STAT
/-- `KN_STAT.STATE` [1:0]. -/
abbrev KN_STAT.STATE (i : Fin 2) : Field := ⟨.kn i .KN_STAT, 0, 2⟩
/-- `KN_STAT.CTX` [7:4]. -/
abbrev KN_STAT.CTX (i : Fin 2) : Field := ⟨.kn i .KN_STAT, 4, 4⟩
/-- `KN_STAT.PLAN_ACTIVE` [8:8]. -/
abbrev KN_STAT.PLAN_ACTIVE (i : Fin 2) : Field := ⟨.kn i .KN_STAT, 8, 1⟩
/-- `KN_BUSY` (R275). -/
abbrev KN_BUSY (i : Fin 2) : Reg := .kn i .KN_BUSY
/-- `KN_SOLVES` (R275). -/
abbrev KN_SOLVES (i : Fin 2) : Reg := .kn i .KN_SOLVES
/-- `KC_STAT` (R275). -/
abbrev KC_STAT (i : Fin 2) (c : Fin 16) : Reg := .kn i (.KC_STAT c)
/-- `KC_STAT.PHASE` [1:0]. -/
abbrev KC_STAT.PHASE (i : Fin 2) (c : Fin 16) : Field := ⟨.kn i (.KC_STAT c), 0, 2⟩
/-- `KC_STAT.WARM_VALID` [2:2]. -/
abbrev KC_STAT.WARM_VALID (i : Fin 2) (c : Fin 16) : Field := ⟨.kn i (.KC_STAT c), 2, 1⟩
/-- `KC_STAT.STALE` [3:3]. -/
abbrev KC_STAT.STALE (i : Fin 2) (c : Fin 16) : Field := ⟨.kn i (.KC_STAT c), 3, 1⟩
/-- `KC_STAT.REFUSED` [4:4]. -/
abbrev KC_STAT.REFUSED (i : Fin 2) (c : Fin 16) : Field := ⟨.kn i (.KC_STAT c), 4, 1⟩
/-- `KC_STAT.REUSED` [5:5]. -/
abbrev KC_STAT.REUSED (i : Fin 2) (c : Fin 16) : Field := ⟨.kn i (.KC_STAT c), 5, 1⟩
/-- `KC_STAT.WARM_DISCARDED` [6:6]. -/
abbrev KC_STAT.WARM_DISCARDED (i : Fin 2) (c : Fin 16) : Field := ⟨.kn i (.KC_STAT c), 6, 1⟩
/-- `KC_STAT.PIV_ZERO` [7:7]. -/
abbrev KC_STAT.PIV_ZERO (i : Fin 2) (c : Fin 16) : Field := ⟨.kn i (.KC_STAT c), 7, 1⟩
/-- `KC_STAT.PIV_SMALL` [8:8]. -/
abbrev KC_STAT.PIV_SMALL (i : Fin 2) (c : Fin 16) : Field := ⟨.kn i (.KC_STAT c), 8, 1⟩
/-- `KC_STAT.OVF` [9:9]. -/
abbrev KC_STAT.OVF (i : Fin 2) (c : Fin 16) : Field := ⟨.kn i (.KC_STAT c), 9, 1⟩
/-- `KC_STAT.NOT_CONV` [10:10]. -/
abbrev KC_STAT.NOT_CONV (i : Fin 2) (c : Fin 16) : Field := ⟨.kn i (.KC_STAT c), 10, 1⟩
/-- `KC_STAT.DEADLINE` [11:11]. -/
abbrev KC_STAT.DEADLINE (i : Fin 2) (c : Fin 16) : Field := ⟨.kn i (.KC_STAT c), 11, 1⟩
/-- `KC_STAT.BOUND_OVER` [12:12]. -/
abbrev KC_STAT.BOUND_OVER (i : Fin 2) (c : Fin 16) : Field := ⟨.kn i (.KC_STAT c), 12, 1⟩
/-- `KC_SEQ_POST` (R275). -/
abbrev KC_SEQ_POST (i : Fin 2) (c : Fin 16) : Reg := .kn i (.KC_SEQ_POST c)
/-- `KC_SEQ_PUB` (R275). -/
abbrev KC_SEQ_PUB (i : Fin 2) (c : Fin 16) : Reg := .kn i (.KC_SEQ_PUB c)
/-- `KC_SIG_DIM` (R275). -/
abbrev KC_SIG_DIM (i : Fin 2) (c : Fin 16) : Reg := .kn i (.KC_SIG_DIM c)
/-- `KC_SIG_DIM.N` [9:0]. -/
abbrev KC_SIG_DIM.N (i : Fin 2) (c : Fin 16) : Field := ⟨.kn i (.KC_SIG_DIM c), 0, 10⟩
/-- `KC_SIG_DIM.M` [19:10]. -/
abbrev KC_SIG_DIM.M (i : Fin 2) (c : Fin 16) : Field := ⟨.kn i (.KC_SIG_DIM c), 10, 10⟩
/-- `KC_SIG_DIM.KIND` [21:20]. -/
abbrev KC_SIG_DIM.KIND (i : Fin 2) (c : Fin 16) : Field := ⟨.kn i (.KC_SIG_DIM c), 20, 2⟩
/-- `KC_SIG_DIM.PREC` [22:22]. -/
abbrev KC_SIG_DIM.PREC (i : Fin 2) (c : Fin 16) : Field := ⟨.kn i (.KC_SIG_DIM c), 22, 1⟩
/-- `KC_SIG_NNZ` (R275). -/
abbrev KC_SIG_NNZ (i : Fin 2) (c : Fin 16) : Reg := .kn i (.KC_SIG_NNZ c)
/-- `KC_SIG_CRC` (R275). -/
abbrev KC_SIG_CRC (i : Fin 2) (c : Fin 16) : Reg := .kn i (.KC_SIG_CRC c)
/-- `KC_BOUND` (R275). -/
abbrev KC_BOUND (i : Fin 2) (c : Fin 16) : Reg := .kn i (.KC_BOUND c)
/-- `KC_ITER` (R275). -/
abbrev KC_ITER (i : Fin 2) (c : Fin 16) : Reg := .kn i (.KC_ITER c)
/-- `KC_CYC` (R275). -/
abbrev KC_CYC (i : Fin 2) (c : Fin 16) : Reg := .kn i (.KC_CYC c)
/-- `KC_PIV` (R275). -/
abbrev KC_PIV (i : Fin 2) (c : Fin 16) : Reg := .kn i (.KC_PIV c)
/-- `KC_PIV.SMALL` [15:0]. -/
abbrev KC_PIV.SMALL (i : Fin 2) (c : Fin 16) : Field := ⟨.kn i (.KC_PIV c), 0, 16⟩
/-- `KC_PIV.ZERO` [31:16]. -/
abbrev KC_PIV.ZERO (i : Fin 2) (c : Fin 16) : Field := ⟨.kn i (.KC_PIV c), 16, 16⟩
/-- `KC_REUSED` (R275). -/
abbrev KC_REUSED (i : Fin 2) (c : Fin 16) : Reg := .kn i (.KC_REUSED c)
/-- `KC_COLD` (R275). -/
abbrev KC_COLD (i : Fin 2) (c : Fin 16) : Reg := .kn i (.KC_COLD c)
/-- `KC_SUPERSEDED` (R275). -/
abbrev KC_SUPERSEDED (i : Fin 2) (c : Fin 16) : Reg := .kn i (.KC_SUPERSEDED c)
/-- `STK_CTRL` (R360). -/
abbrev STK_CTRL : Reg := .stk .STK_CTRL
/-- `STK_CTRL.EN` [0:0]. -/
abbrev STK_CTRL.EN : Field := ⟨.stk .STK_CTRL, 0, 1⟩
/-- `STK_CTRL.REBAL` [1:1]. -/
abbrev STK_CTRL.REBAL : Field := ⟨.stk .STK_CTRL, 1, 1⟩
/-- `STK_CTRL.FREEZE` [2:2]. -/
abbrev STK_CTRL.FREEZE : Field := ⟨.stk .STK_CTRL, 2, 1⟩
/-- `STK_STAT` (R360). -/
abbrev STK_STAT : Reg := .stk .STK_STAT
/-- `STK_STAT.DESC_BUSY` [0:0]. -/
abbrev STK_STAT.DESC_BUSY : Field := ⟨.stk .STK_STAT, 0, 1⟩
/-- `STK_STAT.BUF_BUSY` [1:1]. -/
abbrev STK_STAT.BUF_BUSY : Field := ⟨.stk .STK_STAT, 1, 1⟩
/-- `STK_STAT.CMD_REFUSED` [2:2]. -/
abbrev STK_STAT.CMD_REFUSED : Field := ⟨.stk .STK_STAT, 2, 1⟩
/-- `STK_STAT.PLACE_FAIL` [3:3]. -/
abbrev STK_STAT.PLACE_FAIL : Field := ⟨.stk .STK_STAT, 3, 1⟩
/-- `STK_STAT.HINT_DROPPED` [4:4]. -/
abbrev STK_STAT.HINT_DROPPED : Field := ⟨.stk .STK_STAT, 4, 1⟩
/-- `STK_STAT.REBAL_FAIL` [5:5]. -/
abbrev STK_STAT.REBAL_FAIL : Field := ⟨.stk .STK_STAT, 5, 1⟩
/-- `STK_STAT.BUDGET` [6:6]. -/
abbrev STK_STAT.BUDGET : Field := ⟨.stk .STK_STAT, 6, 1⟩
/-- `STK_STAT.FAULT` [7:7]. -/
abbrev STK_STAT.FAULT : Field := ⟨.stk .STK_STAT, 7, 1⟩
/-- `STK_STAT.SKEW` [8:8]. -/
abbrev STK_STAT.SKEW : Field := ⟨.stk .STK_STAT, 8, 1⟩
/-- `STK_STAT.REL_OVR` [9:9]. -/
abbrev STK_STAT.REL_OVR : Field := ⟨.stk .STK_STAT, 9, 1⟩
/-- `STK_STAT.CFG_REFUSED` [10:10]. -/
abbrev STK_STAT.CFG_REFUSED : Field := ⟨.stk .STK_STAT, 10, 1⟩
/-- `STK_STAT.PLACE_GEN` [31:16]. -/
abbrev STK_STAT.PLACE_GEN : Field := ⟨.stk .STK_STAT, 16, 16⟩
/-- `STK_CFG` (R360). -/
abbrev STK_CFG : Reg := .stk .STK_CFG
/-- `STK_CFG.MOVES` [3:0]. -/
abbrev STK_CFG.MOVES : Field := ⟨.stk .STK_CFG, 0, 4⟩
/-- `STK_CFG.AUTO_TIER` [4:4]. -/
abbrev STK_CFG.AUTO_TIER : Field := ⟨.stk .STK_CFG, 4, 1⟩
/-- `STK_CFG.AUTO_REBAL` [5:5]. -/
abbrev STK_CFG.AUTO_REBAL : Field := ⟨.stk .STK_CFG, 5, 1⟩
/-- `STK_CFG.MEAS` [31:16]. -/
abbrev STK_CFG.MEAS : Field := ⟨.stk .STK_CFG, 16, 16⟩
/-- `STK_SKEW_LIM` (R360). -/
abbrev STK_SKEW_LIM : Reg := .stk .STK_SKEW_LIM
/-- `STK_DLY_TICK` (R360). -/
abbrev STK_DLY_TICK (k : Fin 4) : Reg := .stk (.STK_DLY_TICK k)
/-- `STK_HOT_UP` (R360). -/
abbrev STK_HOT_UP : Reg := .stk .STK_HOT_UP
/-- `STK_HOT_DN` (R360). -/
abbrev STK_HOT_DN : Reg := .stk .STK_HOT_DN
/-- `STK_WARM_UP` (R360). -/
abbrev STK_WARM_UP : Reg := .stk .STK_WARM_UP
/-- `STK_WARM_DN` (R360). -/
abbrev STK_WARM_DN : Reg := .stk .STK_WARM_DN
/-- `STK_FAIL_TASK` (R360). -/
abbrev STK_FAIL_TASK : Reg := .stk .STK_FAIL_TASK
/-- `STK_FAIL_TASK.TASK` [11:0]. -/
abbrev STK_FAIL_TASK.TASK : Field := ⟨.stk .STK_FAIL_TASK, 0, 12⟩
/-- `STK_FAIL_TASK.REASON` [15:12]. -/
abbrev STK_FAIL_TASK.REASON : Field := ⟨.stk .STK_FAIL_TASK, 12, 4⟩
/-- `STK_RELEASE` (R360). -/
abbrev STK_RELEASE : Reg := .stk .STK_RELEASE
/-- `STK_RELEASE.TASK` [11:0]. -/
abbrev STK_RELEASE.TASK : Field := ⟨.stk .STK_RELEASE, 0, 12⟩
/-- `STK_RELEASE.LIST` [13:12]. -/
abbrev STK_RELEASE.LIST : Field := ⟨.stk .STK_RELEASE, 12, 2⟩
/-- `STK_RELEASE.DELAY` [29:14]. -/
abbrev STK_RELEASE.DELAY : Field := ⟨.stk .STK_RELEASE, 14, 16⟩
/-- `STK_CANCEL` (R360). -/
abbrev STK_CANCEL : Reg := .stk .STK_CANCEL
/-- `STK_DESC_CMD` (R360). -/
abbrev STK_DESC_CMD : Reg := .stk .STK_DESC_CMD
/-- `STK_DESC_CMD.TASK` [11:0]. -/
abbrev STK_DESC_CMD.TASK : Field := ⟨.stk .STK_DESC_CMD, 0, 12⟩
/-- `STK_DESC_CMD.OP` [14:12]. -/
abbrev STK_DESC_CMD.OP : Field := ⟨.stk .STK_DESC_CMD, 12, 3⟩
/-- `STK_DESC_CMD.RES` [19:16]. -/
abbrev STK_DESC_CMD.RES : Field := ⟨.stk .STK_DESC_CMD, 16, 4⟩
/-- `STK_DESC_STAGE` (R360). -/
abbrev STK_DESC_STAGE (k : Fin 16) : Reg := .stk (.STK_DESC_STAGE k)
/-- `STK_BUF_CMD` (R360). -/
abbrev STK_BUF_CMD : Reg := .stk .STK_BUF_CMD
/-- `STK_BUF_CMD.HANDLE` [12:0]. -/
abbrev STK_BUF_CMD.HANDLE : Field := ⟨.stk .STK_BUF_CMD, 0, 13⟩
/-- `STK_BUF_CMD.OP` [15:13]. -/
abbrev STK_BUF_CMD.OP : Field := ⟨.stk .STK_BUF_CMD, 13, 3⟩
/-- `STK_BUF_CMD.RES` [19:16]. -/
abbrev STK_BUF_CMD.RES : Field := ⟨.stk .STK_BUF_CMD, 16, 4⟩
/-- `STK_BUF_STAGE` (R360). -/
abbrev STK_BUF_STAGE (k : Fin 4) : Reg := .stk (.STK_BUF_STAGE k)
/-- `STK_QSTAT` (R360). -/
abbrev STK_QSTAT (q : Fin 64) : Reg := .stk (.STK_QSTAT q)
/-- `STK_QSTAT.DEPTH` [11:0]. -/
abbrev STK_QSTAT.DEPTH (q : Fin 64) : Field := ⟨.stk (.STK_QSTAT q), 0, 12⟩
/-- `STK_QSTAT.PEAK` [27:16]. -/
abbrev STK_QSTAT.PEAK (q : Fin 64) : Field := ⟨.stk (.STK_QSTAT q), 16, 12⟩
/-- `STK_QCFG` (R360). -/
abbrev STK_QCFG (q : Fin 64) : Reg := .stk (.STK_QCFG q)
/-- `STK_QWAIT` (R360). -/
abbrev STK_QWAIT (q : Fin 64) : Reg := .stk (.STK_QWAIT q)
/-- `STK_TL_LOAD` (R360). -/
abbrev STK_TL_LOAD (t : Fin 16) : Reg := .stk (.STK_TL_LOAD t)
/-- `STK_TL_LOAD.TABLE` [15:0]. -/
abbrev STK_TL_LOAD.TABLE (t : Fin 16) : Field := ⟨.stk (.STK_TL_LOAD t), 0, 16⟩
/-- `STK_TL_LOAD.QUEUED` [31:16]. -/
abbrev STK_TL_LOAD.QUEUED (t : Fin 16) : Field := ⟨.stk (.STK_TL_LOAD t), 16, 16⟩
/-- `STK_TL_GAP` (R360). -/
abbrev STK_TL_GAP (t : Fin 16) : Reg := .stk (.STK_TL_GAP t)
/-- `STK_TL_MEM` (R360). -/
abbrev STK_TL_MEM (t : Fin 16) : Reg := .stk (.STK_TL_MEM t)
/-- `STK_TL_MEM.DATA` [15:0]. -/
abbrev STK_TL_MEM.DATA (t : Fin 16) : Field := ⟨.stk (.STK_TL_MEM t), 0, 16⟩
/-- `STK_TL_MEM.PROG` [31:16]. -/
abbrev STK_TL_MEM.PROG (t : Fin 16) : Field := ⟨.stk (.STK_TL_MEM t), 16, 16⟩
/-- `STK_TL_TASKS` (R360). -/
abbrev STK_TL_TASKS (t : Fin 16) : Reg := .stk (.STK_TL_TASKS t)
/-- `STK_TS0` (R360). -/
abbrev STK_TS0 (n : Fin 4096) : Reg := .stk (.STK_TS0 n)
/-- `STK_TS0.TILE` [3:0]. -/
abbrev STK_TS0.TILE (n : Fin 4096) : Field := ⟨.stk (.STK_TS0 n), 0, 4⟩
/-- `STK_TS0.PLACED` [4:4]. -/
abbrev STK_TS0.PLACED (n : Fin 4096) : Field := ⟨.stk (.STK_TS0 n), 4, 1⟩
/-- `STK_TS0.STATE` [7:5]. -/
abbrev STK_TS0.STATE (n : Fin 4096) : Field := ⟨.stk (.STK_TS0 n), 5, 3⟩
/-- `STK_TS0.QUEUE` [13:8]. -/
abbrev STK_TS0.QUEUE (n : Fin 4096) : Field := ⟨.stk (.STK_TS0 n), 8, 6⟩
/-- `STK_TS0.LAST` [15:14]. -/
abbrev STK_TS0.LAST (n : Fin 4096) : Field := ⟨.stk (.STK_TS0 n), 14, 2⟩
/-- `STK_TS0.MISSES` [31:16]. -/
abbrev STK_TS0.MISSES (n : Fin 4096) : Field := ⟨.stk (.STK_TS0 n), 16, 16⟩
/-- `STK_TS1` (R360). -/
abbrev STK_TS1 (n : Fin 4096) : Reg := .stk (.STK_TS1 n)
/-- `IC_SRC_CFG` (R382). -/
abbrev IC_SRC_CFG (s : Fin 512) : Reg := .ic (.IC_SRC_CFG s)
/-- `IC_SRC_CFG.EN` [0:0]. -/
abbrev IC_SRC_CFG.EN (s : Fin 512) : Field := ⟨.ic (.IC_SRC_CFG s), 0, 1⟩
/-- `IC_SRC_CFG.EDGE` [1:1]. -/
abbrev IC_SRC_CFG.EDGE (s : Fin 512) : Field := ⟨.ic (.IC_SRC_CFG s), 1, 1⟩
/-- `IC_SRC_CFG.GROUP` [5:2]. -/
abbrev IC_SRC_CFG.GROUP (s : Fin 512) : Field := ⟨.ic (.IC_SRC_CFG s), 2, 4⟩
/-- `IC_SRC_CFG.FLT` [13:6]. -/
abbrev IC_SRC_CFG.FLT (s : Fin 512) : Field := ⟨.ic (.IC_SRC_CFG s), 6, 8⟩
/-- `IC_SRC_CFG.TKIND` [15:14]. -/
abbrev IC_SRC_CFG.TKIND (s : Fin 512) : Field := ⟨.ic (.IC_SRC_CFG s), 14, 2⟩
/-- `IC_SRC_CFG.TARGET` [27:16]. -/
abbrev IC_SRC_CFG.TARGET (s : Fin 512) : Field := ⟨.ic (.IC_SRC_CFG s), 16, 12⟩
/-- `IC_SRC_CFG.WAKE` [28:28]. -/
abbrev IC_SRC_CFG.WAKE (s : Fin 512) : Field := ⟨.ic (.IC_SRC_CFG s), 28, 1⟩
/-- `IC_PEND` (R382). -/
abbrev IC_PEND (w : Fin 16) : Reg := .ic (.IC_PEND w)
/-- `IC_LIVE` (R382). -/
abbrev IC_LIVE (w : Fin 16) : Reg := .ic (.IC_LIVE w)
/-- `IC_CLAIMED` (R382). -/
abbrev IC_CLAIMED (w : Fin 16) : Reg := .ic (.IC_CLAIMED w)
/-- `IC_SW` (R382). -/
abbrev IC_SW (k : Fin 2) : Reg := .ic (.IC_SW k)
/-- `IC_SW_SET` (R382). -/
abbrev IC_SW_SET (k : Fin 2) : Reg := .ic (.IC_SW_SET k)
/-- `IC_SW_CLR` (R382). -/
abbrev IC_SW_CLR (k : Fin 2) : Reg := .ic (.IC_SW_CLR k)
/-- `IC_GRP_HOLD` (R382). -/
abbrev IC_GRP_HOLD (g : Fin 16) : Reg := .ic (.IC_GRP_HOLD g)
/-- `IC_GRP_HOLD.HOLD` [15:0]. -/
abbrev IC_GRP_HOLD.HOLD (g : Fin 16) : Field := ⟨.ic (.IC_GRP_HOLD g), 0, 16⟩
/-- `IC_GRP_HOLD.RUNNING` [16:16]. -/
abbrev IC_GRP_HOLD.RUNNING (g : Fin 16) : Field := ⟨.ic (.IC_GRP_HOLD g), 16, 1⟩
/-- `IC_TGT` (R382). -/
abbrev IC_TGT (t : Fin 64) : Reg := .ic (.IC_TGT t)
/-- `IC_TGT.REDIR` [15:0]. -/
abbrev IC_TGT.REDIR (t : Fin 64) : Field := ⟨.ic (.IC_TGT t), 0, 16⟩
/-- `IC_TGT.CLAIMED` [16:16]. -/
abbrev IC_TGT.CLAIMED (t : Fin 64) : Field := ⟨.ic (.IC_TGT t), 16, 1⟩
/-- `IC_TGT.ASLEEP` [17:17]. -/
abbrev IC_TGT.ASLEEP (t : Fin 64) : Field := ⟨.ic (.IC_TGT t), 17, 1⟩
/-- `IC_TGT.READY` [18:18]. -/
abbrev IC_TGT.READY (t : Fin 64) : Field := ⟨.ic (.IC_TGT t), 18, 1⟩
/-- `IC_CLAIM` (R382). -/
abbrev IC_CLAIM (t : Fin 64) : Reg := .ic (.IC_CLAIM t)
/-- `IC_CLAIM.SRC` [8:0]. -/
abbrev IC_CLAIM.SRC (t : Fin 64) : Field := ⟨.ic (.IC_CLAIM t), 0, 9⟩
/-- `IC_CLAIM.VALID` [9:9]. -/
abbrev IC_CLAIM.VALID (t : Fin 64) : Field := ⟨.ic (.IC_CLAIM t), 9, 1⟩
/-- `IC_CLAIM.TAKEN` [10:10]. -/
abbrev IC_CLAIM.TAKEN (t : Fin 64) : Field := ⟨.ic (.IC_CLAIM t), 10, 1⟩
/-- `IC_CLAIM.LIVE_AT_TAKE` [11:11]. -/
abbrev IC_CLAIM.LIVE_AT_TAKE (t : Fin 64) : Field := ⟨.ic (.IC_CLAIM t), 11, 1⟩
/-- `IC_CLAIM.REDIRECTED` [12:12]. -/
abbrev IC_CLAIM.REDIRECTED (t : Fin 64) : Field := ⟨.ic (.IC_CLAIM t), 12, 1⟩
/-- `IC_COMPLETE` (R382). -/
abbrev IC_COMPLETE : Reg := .ic .IC_COMPLETE
/-- `IC_COMPLETE.SRC` [8:0]. -/
abbrev IC_COMPLETE.SRC : Field := ⟨.ic .IC_COMPLETE, 0, 9⟩
/-- `IC_COMPLETE.VEC` [20:16]. -/
abbrev IC_COMPLETE.VEC : Field := ⟨.ic .IC_COMPLETE, 16, 5⟩
/-- `IC_STAT` (R382). -/
abbrev IC_STAT : Reg := .ic .IC_STAT
/-- `IC_STAT.COMPL_BAD` [0:0]. -/
abbrev IC_STAT.COMPL_BAD : Field := ⟨.ic .IC_STAT, 0, 1⟩
/-- `IC_STAT.CFG_REFUSED` [1:1]. -/
abbrev IC_STAT.CFG_REFUSED : Field := ⟨.ic .IC_STAT, 1, 1⟩
/-- `IC_SPURIOUS` (R382). -/
abbrev IC_SPURIOUS : Reg := .ic .IC_SPURIOUS
/-- `IC_REDIRECTS` (R382). -/
abbrev IC_REDIRECTS : Reg := .ic .IC_REDIRECTS
/-- `SI_STAT` (R433, R452). -/
abbrev SI_STAT : Reg := .si .SI_STAT
/-- `SI_STAT.ISTATE` [1:0]. -/
abbrev SI_STAT.ISTATE : Field := ⟨.si .SI_STAT, 0, 2⟩
/-- `SI_STAT.STAGED` [2:2]. -/
abbrev SI_STAT.STAGED : Field := ⟨.si .SI_STAT, 2, 1⟩
/-- `SI_CYCLE` (R433, R452). -/
abbrev SI_CYCLE : Reg := .si .SI_CYCLE
/-- `SI_PSET_ID` (R433, R452). -/
abbrev SI_PSET_ID : Reg := .si .SI_PSET_ID
/-- `SI_PSET_GEN` (R433, R452). -/
abbrev SI_PSET_GEN : Reg := .si .SI_PSET_GEN
/-- `SI_LOCK` (R433, R452). -/
abbrev SI_LOCK : Reg := .si .SI_LOCK
/-- `SI_LOCK.LOCKED` [7:0]. -/
abbrev SI_LOCK.LOCKED : Field := ⟨.si .SI_LOCK, 0, 8⟩
/-- `SI_LOCK.NONCE` [31:16]. -/
abbrev SI_LOCK.NONCE : Field := ⟨.si .SI_LOCK, 16, 16⟩
/-- `SI_INPUTS` (R433, R452). -/
abbrev SI_INPUTS : Reg := .si .SI_INPUTS
/-- `SI_INPUTS.DEMAND` [15:0]. -/
abbrev SI_INPUTS.DEMAND : Field := ⟨.si .SI_INPUTS, 0, 16⟩
/-- `SI_INPUTS.FAULT` [31:16]. -/
abbrev SI_INPUTS.FAULT : Field := ⟨.si .SI_INPUTS, 16, 16⟩
/-- `SI_OUTPUTS` (R433, R452). -/
abbrev SI_OUTPUTS : Reg := .si .SI_OUTPUTS
/-- `SI_OUTPUTS.ENERGISED` [11:0]. -/
abbrev SI_OUTPUTS.ENERGISED : Field := ⟨.si .SI_OUTPUTS, 0, 12⟩
/-- `SI_OUTPUTS.FAULTED` [27:16]. -/
abbrev SI_OUTPUTS.FAULTED : Field := ⟨.si .SI_OUTPUTS, 16, 12⟩
/-- `SI_XC_CNT` (R433, R452). -/
abbrev SI_XC_CNT : Reg := .si .SI_XC_CNT
/-- `SI_ARM_STAT` (R433, R452). -/
abbrev SI_ARM_STAT (a : Fin 8) : Reg := .si (.SI_ARM_STAT a)
/-- `SI_ARM_STAT.STATE` [2:0]. -/
abbrev SI_ARM_STAT.STATE (a : Fin 8) : Field := ⟨.si (.SI_ARM_STAT a), 0, 3⟩
/-- `SI_ARM_STAT.STOP_REQ` [3:3]. -/
abbrev SI_ARM_STAT.STOP_REQ (a : Fin 8) : Field := ⟨.si (.SI_ARM_STAT a), 3, 1⟩
/-- `SI_ARM_STAT.DEGRADED` [4:4]. -/
abbrev SI_ARM_STAT.DEGRADED (a : Fin 8) : Field := ⟨.si (.SI_ARM_STAT a), 4, 1⟩
/-- `SI_ARM_STAT.CAUSE_ACTIVE` [5:5]. -/
abbrev SI_ARM_STAT.CAUSE_ACTIVE (a : Fin 8) : Field := ⟨.si (.SI_ARM_STAT a), 5, 1⟩
/-- `SI_ARM_STAT.CAUSE` [10:6]. -/
abbrev SI_ARM_STAT.CAUSE (a : Fin 8) : Field := ⟨.si (.SI_ARM_STAT a), 6, 5⟩
/-- `SI_VSAFE` (R433, R452). -/
abbrev SI_VSAFE (a : Fin 8) : Reg := .si (.SI_VSAFE a)
/-- `SI_VMEAS` (R433, R452). -/
abbrev SI_VMEAS (a : Fin 8) : Reg := .si (.SI_VMEAS a)
/-- `SI_DMIN` (R433, R452). -/
abbrev SI_DMIN (a : Fin 8) : Reg := .si (.SI_DMIN a)
/-- `SI_VPAIR` (R433, R452). -/
abbrev SI_VPAIR (p : Fin 64) : Reg := .si (.SI_VPAIR p)
/-- `SI_JVLIM` (R433, R452). -/
abbrev SI_JVLIM (n : Fin 64) : Reg := .si (.SI_JVLIM n)
/-- `SG_STAT` (R433, R452). -/
abbrev SG_STAT (c : Fin 64) : Reg := .si (.SG_STAT c)
/-- `SG_STAT.STATE` [2:0]. -/
abbrev SG_STAT.STATE (c : Fin 64) : Field := ⟨.si (.SG_STAT c), 0, 3⟩
/-- `SG_STAT.DEMANDING` [3:3]. -/
abbrev SG_STAT.DEMANDING (c : Fin 64) : Field := ⟨.si (.SG_STAT c), 3, 1⟩
/-- `SG_STAT.FAULT` [6:4]. -/
abbrev SG_STAT.FAULT (c : Fin 64) : Field := ⟨.si (.SG_STAT c), 4, 3⟩
/-- `SG_STAT.ERR_HOUR` [15:8]. -/
abbrev SG_STAT.ERR_HOUR (c : Fin 64) : Field := ⟨.si (.SG_STAT c), 8, 8⟩
/-- `SG_SEQ` (R433, R452). -/
abbrev SG_SEQ (c : Fin 64) : Reg := .si (.SG_SEQ c)
/-- `SG_ERR` (R433, R452). -/
abbrev SG_ERR (c : Fin 64) : Reg := .si (.SG_ERR c)
/-- `SG_ERR.CHECK` [7:0]. -/
abbrev SG_ERR.CHECK (c : Fin 64) : Field := ⟨.si (.SG_ERR c), 0, 8⟩
/-- `SG_ERR.LATE` [15:8]. -/
abbrev SG_ERR.LATE (c : Fin 64) : Field := ⟨.si (.SG_ERR c), 8, 8⟩
/-- `SG_ERR.REPEAT` [23:16]. -/
abbrev SG_ERR.REPEAT (c : Fin 64) : Field := ⟨.si (.SG_ERR c), 16, 8⟩
/-- `SG_ERR.LOST` [31:24]. -/
abbrev SG_ERR.LOST (c : Fin 64) : Field := ⟨.si (.SG_ERR c), 24, 8⟩
/-- `SG_AGE` (R433, R452). -/
abbrev SG_AGE (c : Fin 64) : Reg := .si (.SG_AGE c)
/-- `SG_UNMATCHED` (R433, R452). -/
abbrev SG_UNMATCHED (p : Fin 5) : Reg := .si (.SG_UNMATCHED p)
/-- `SI_REQ` (R433, R452). -/
abbrev SI_REQ : Reg := .si .SI_REQ
/-- `SI_REQ.ARMS` [7:0]. -/
abbrev SI_REQ.ARMS : Field := ⟨.si .SI_REQ, 0, 8⟩
/-- `SI_REQ.OP` [10:8]. -/
abbrev SI_REQ.OP : Field := ⟨.si .SI_REQ, 8, 3⟩
/-- `SI_TOKEN` (R433, R452). -/
abbrev SI_TOKEN : Reg := .si .SI_TOKEN
/-- `SI_TOKEN.ARMS` [7:0]. -/
abbrev SI_TOKEN.ARMS : Field := ⟨.si .SI_TOKEN, 0, 8⟩
/-- `SI_TOKEN.ACT` [8:8]. -/
abbrev SI_TOKEN.ACT : Field := ⟨.si .SI_TOKEN, 8, 1⟩
/-- `SI_TOKEN.NONCE` [31:16]. -/
abbrev SI_TOKEN.NONCE : Field := ⟨.si .SI_TOKEN, 16, 16⟩
/-- `SI_EVT` (R433, R452). -/
abbrev SI_EVT : Reg := .si .SI_EVT
/-- `SI_EVT.ARM` [7:0]. -/
abbrev SI_EVT.ARM : Field := ⟨.si .SI_EVT, 0, 8⟩
/-- `SI_EVT.INPUT` [8:8]. -/
abbrev SI_EVT.INPUT : Field := ⟨.si .SI_EVT, 8, 1⟩
/-- `SI_EVT.OUTPUT` [9:9]. -/
abbrev SI_EVT.OUTPUT : Field := ⟨.si .SI_EVT, 9, 1⟩
/-- `SI_EVT.ISLAND` [10:10]. -/
abbrev SI_EVT.ISLAND : Field := ⟨.si .SI_EVT, 10, 1⟩
/-- `SI_EVT.SIGNET` [11:11]. -/
abbrev SI_EVT.SIGNET : Field := ⟨.si .SI_EVT, 11, 1⟩
/-- `SI_EVT.ACK` [12:12]. -/
abbrev SI_EVT.ACK : Field := ⟨.si .SI_EVT, 12, 1⟩
/-- `SI_EVT.PSET` [13:13]. -/
abbrev SI_EVT.PSET : Field := ⟨.si .SI_EVT, 13, 1⟩
/-- `SI_EVT.POSSRC` [14:14]. -/
abbrev SI_EVT.POSSRC : Field := ⟨.si .SI_EVT, 14, 1⟩
/-- `SI_EVT.CLOCK` [15:15]. -/
abbrev SI_EVT.CLOCK : Field := ⟨.si .SI_EVT, 15, 1⟩
/-- `CH_CTRL` (R483). -/
abbrev CH_CTRL : Reg := .ch .CH_CTRL
/-- `CH_CTRL.EN` [0:0]. -/
abbrev CH_CTRL.EN : Field := ⟨.ch .CH_CTRL, 0, 1⟩
/-- `CH_CTRL.CS_EN` [1:1]. -/
abbrev CH_CTRL.CS_EN : Field := ⟨.ch .CH_CTRL, 1, 1⟩
/-- `CH_STAT` (R483). -/
abbrev CH_STAT : Reg := .ch .CH_STAT
/-- `CH_STAT.STATE` [2:0]. -/
abbrev CH_STAT.STATE : Field := ⟨.ch .CH_STAT, 0, 3⟩
/-- `CH_STAT.FB_TX` [3:3]. -/
abbrev CH_STAT.FB_TX : Field := ⟨.ch .CH_STAT, 3, 1⟩
/-- `CH_STAT.WIN_VIOL` [4:4]. -/
abbrev CH_STAT.WIN_VIOL : Field := ⟨.ch .CH_STAT, 4, 1⟩
/-- `CH_STAT.SCHED_MISMATCH` [5:5]. -/
abbrev CH_STAT.SCHED_MISMATCH : Field := ⟨.ch .CH_STAT, 5, 1⟩
/-- `CH_STAT.INT_REFUSED` [6:6]. -/
abbrev CH_STAT.INT_REFUSED : Field := ⟨.ch .CH_STAT, 6, 1⟩
/-- `CH_STAT.CS_CONTENTION` [7:7]. -/
abbrev CH_STAT.CS_CONTENTION : Field := ⟨.ch .CH_STAT, 7, 1⟩
/-- `CH_STAT.ALONE` [8:8]. -/
abbrev CH_STAT.ALONE : Field := ⟨.ch .CH_STAT, 8, 1⟩
/-- `CH_STAT.VIOL_RUN` [10:9]. -/
abbrev CH_STAT.VIOL_RUN : Field := ⟨.ch .CH_STAT, 9, 2⟩
/-- `CH_STAT.LINK_A` [11:11]. -/
abbrev CH_STAT.LINK_A : Field := ⟨.ch .CH_STAT, 11, 1⟩
/-- `CH_STAT.LINK_B` [12:12]. -/
abbrev CH_STAT.LINK_B : Field := ⟨.ch .CH_STAT, 12, 1⟩
/-- `CH_STAT.GW_SEEN` [13:13]. -/
abbrev CH_STAT.GW_SEEN : Field := ⟨.ch .CH_STAT, 13, 1⟩
/-- `CH_STAT.CFG_REFUSED` [14:14]. -/
abbrev CH_STAT.CFG_REFUSED : Field := ⟨.ch .CH_STAT, 14, 1⟩
/-- `CH_STAT.BACKOFF` [15:15]. -/
abbrev CH_STAT.BACKOFF : Field := ⟨.ch .CH_STAT, 15, 1⟩
/-- `CH_ROLE` (R483). -/
abbrev CH_ROLE : Reg := .ch .CH_ROLE
/-- `CH_ROLE.STAR_A` [0:0]. -/
abbrev CH_ROLE.STAR_A : Field := ⟨.ch .CH_ROLE, 0, 1⟩
/-- `CH_ROLE.STAR_B` [1:1]. -/
abbrev CH_ROLE.STAR_B : Field := ⟨.ch .CH_ROLE, 1, 1⟩
/-- `CH_CYCLE` (R483). -/
abbrev CH_CYCLE : Reg := .ch .CH_CYCLE
/-- `CH_SCHED_ID` (R483). -/
abbrev CH_SCHED_ID : Reg := .ch .CH_SCHED_ID
/-- `CH_OFFSET` (R483). -/
abbrev CH_OFFSET : Reg := .ch .CH_OFFSET
/-- `CH_SYNC_MASK` (R483). -/
abbrev CH_SYNC_MASK : Reg := .ch .CH_SYNC_MASK
/-- `CH_SYNC_MASK.USED` [7:0]. -/
abbrev CH_SYNC_MASK.USED : Field := ⟨.ch .CH_SYNC_MASK, 0, 8⟩
/-- `CH_SYNC_MASK.OUTER` [15:8]. -/
abbrev CH_SYNC_MASK.OUTER : Field := ⟨.ch .CH_SYNC_MASK, 8, 8⟩
/-- `CH_LINKDLY_A` (R483). -/
abbrev CH_LINKDLY_A : Reg := .ch .CH_LINKDLY_A
/-- `CH_LINKDLY_B` (R483). -/
abbrev CH_LINKDLY_B : Reg := .ch .CH_LINKDLY_B
/-- `CH_NULL_CNT` (R483). -/
abbrev CH_NULL_CNT : Reg := .ch .CH_NULL_CNT
/-- `CH_ERR_CNT` (R483). -/
abbrev CH_ERR_CNT : Reg := .ch .CH_ERR_CNT
/-- `CH_DIFF_CNT` (R483). -/
abbrev CH_DIFF_CNT : Reg := .ch .CH_DIFF_CNT
/-- `CH_VIOL_CNT` (R483). -/
abbrev CH_VIOL_CNT : Reg := .ch .CH_VIOL_CNT
/-- `CH_REINT_CNT` (R483). -/
abbrev CH_REINT_CNT : Reg := .ch .CH_REINT_CNT
/-- `CH_CS_CNT` (R483). -/
abbrev CH_CS_CNT : Reg := .ch .CH_CS_CNT
/-- `CH_V1_DLY` (R483). -/
abbrev CH_V1_DLY (c : Fin 8) : Reg := .ch (.CH_V1_DLY c)
/-- `CH_SLOT_STAT` (R483). -/
abbrev CH_SLOT_STAT (s : Fin 64) : Reg := .ch (.CH_SLOT_STAT s)
/-- `CH_SLOT_STAT.A` [1:0]. -/
abbrev CH_SLOT_STAT.A (s : Fin 64) : Field := ⟨.ch (.CH_SLOT_STAT s), 0, 2⟩
/-- `CH_SLOT_STAT.B` [3:2]. -/
abbrev CH_SLOT_STAT.B (s : Fin 64) : Field := ⟨.ch (.CH_SLOT_STAT s), 2, 2⟩
/-- `CH_SLOT_STAT.FALLBACK` [4:4]. -/
abbrev CH_SLOT_STAT.FALLBACK (s : Fin 64) : Field := ⟨.ch (.CH_SLOT_STAT s), 4, 1⟩
/-- `CP_CTRL` (R483). -/
abbrev CP_CTRL (x : Fin 2) : Reg := .cp x .CP_CTRL
/-- `CP_CTRL.EN` [0:0]. -/
abbrev CP_CTRL.EN (x : Fin 2) : Field := ⟨.cp x .CP_CTRL, 0, 1⟩
/-- `CP_CTRL.PORT_EN` [7:1]. -/
abbrev CP_CTRL.PORT_EN (x : Fin 2) : Field := ⟨.cp x .CP_CTRL, 1, 7⟩
/-- `CP_STAT` (R483). -/
abbrev CP_STAT (x : Fin 2) : Reg := .cp x .CP_STAT
/-- `CP_STAT.MODE` [0:0]. -/
abbrev CP_STAT.MODE (x : Fin 2) : Field := ⟨.cp x .CP_STAT, 0, 1⟩
/-- `CP_STAT.LINK` [7:1]. -/
abbrev CP_STAT.LINK (x : Fin 2) : Field := ⟨.cp x .CP_STAT, 1, 7⟩
/-- `CP_MAP` (R483). -/
abbrev CP_MAP (x : Fin 2) : Reg := .cp x .CP_MAP
/-- `CP_MAP.OWN` [2:0]. -/
abbrev CP_MAP.OWN (x : Fin 2) : Field := ⟨.cp x .CP_MAP, 0, 3⟩
/-- `CP_MAP.PORTS` [23:3]. -/
abbrev CP_MAP.PORTS (x : Fin 2) : Field := ⟨.cp x .CP_MAP, 3, 21⟩
/-- `CP_VIOL` (R483). -/
abbrev CP_VIOL (x : Fin 2) (p : Fin 8) : Reg := .cp x (.CP_VIOL p)
/-- `CP_LINKDLY` (R483). -/
abbrev CP_LINKDLY (x : Fin 2) (p : Fin 8) : Reg := .cp x (.CP_LINKDLY p)
/-- `CP_ARB_CNT` (R483). -/
abbrev CP_ARB_CNT (x : Fin 2) : Reg := .cp x .CP_ARB_CNT
/-- `CP_MASQ_CNT` (R483). -/
abbrev CP_MASQ_CNT (x : Fin 2) : Reg := .cp x .CP_MASQ_CNT
/-- `CP_RESID` (R483). -/
abbrev CP_RESID (x : Fin 2) : Reg := .cp x .CP_RESID
/-- `PC_CTRL` (R503). -/
abbrev PC_CTRL : Reg := .pc .PC_CTRL
/-- `PC_CTRL.RETURN_A` [0:0]. -/
abbrev PC_CTRL.RETURN_A : Field := ⟨.pc .PC_CTRL, 0, 1⟩
/-- `PC_CTRL.RETURN_B` [1:1]. -/
abbrev PC_CTRL.RETURN_B : Field := ⟨.pc .PC_CTRL, 1, 1⟩
/-- `PC_CTRL.HANDOVER` [2:2]. -/
abbrev PC_CTRL.HANDOVER : Field := ⟨.pc .PC_CTRL, 2, 1⟩
/-- `PC_CTRL.TAKE_DOWN_A` [3:3]. -/
abbrev PC_CTRL.TAKE_DOWN_A : Field := ⟨.pc .PC_CTRL, 3, 1⟩
/-- `PC_CTRL.TAKE_DOWN_B` [4:4]. -/
abbrev PC_CTRL.TAKE_DOWN_B : Field := ⟨.pc .PC_CTRL, 4, 1⟩
/-- `PC_CTRL.AUTO_RETURN` [5:5]. -/
abbrev PC_CTRL.AUTO_RETURN : Field := ⟨.pc .PC_CTRL, 5, 1⟩
/-- `PC_CTRL.EXT_TEST` [6:6]. -/
abbrev PC_CTRL.EXT_TEST : Field := ⟨.pc .PC_CTRL, 6, 1⟩
/-- `PC_STAT` (R503). -/
abbrev PC_STAT : Reg := .pc .PC_STAT
/-- `PC_STAT.STATE_A` [2:0]. -/
abbrev PC_STAT.STATE_A : Field := ⟨.pc .PC_STAT, 0, 3⟩
/-- `PC_STAT.STATE_B` [5:3]. -/
abbrev PC_STAT.STATE_B : Field := ⟨.pc .PC_STAT, 3, 3⟩
/-- `PC_STAT.ACTIVE` [6:6]. -/
abbrev PC_STAT.ACTIVE : Field := ⟨.pc .PC_STAT, 6, 1⟩
/-- `PC_STAT.NO_PLANE` [7:7]. -/
abbrev PC_STAT.NO_PLANE : Field := ⟨.pc .PC_STAT, 7, 1⟩
/-- `PC_STAT.EXT_RUN` [8:8]. -/
abbrev PC_STAT.EXT_RUN : Field := ⟨.pc .PC_STAT, 8, 1⟩
/-- `PC_STAT.UNRESOLVED` [9:9]. -/
abbrev PC_STAT.UNRESOLVED : Field := ⟨.pc .PC_STAT, 9, 1⟩
/-- `PC_STAT.CMD_REFUSED` [10:10]. -/
abbrev PC_STAT.CMD_REFUSED : Field := ⟨.pc .PC_STAT, 10, 1⟩
/-- `PC_STAT.MISM_RUN` [23:16]. -/
abbrev PC_STAT.MISM_RUN : Field := ⟨.pc .PC_STAT, 16, 8⟩
/-- `PC_CONFIRM` (R503). -/
abbrev PC_CONFIRM : Reg := .pc .PC_CONFIRM
/-- `PC_CONF_CNT` (R503). -/
abbrev PC_CONF_CNT : Reg := .pc .PC_CONF_CNT
/-- `PC_HEALTH_A` (R503). -/
abbrev PC_HEALTH_A : Reg := .pc .PC_HEALTH_A
/-- `PC_HEALTH_A.OK` [0:0]. -/
abbrev PC_HEALTH_A.OK : Field := ⟨.pc .PC_HEALTH_A, 0, 1⟩
/-- `PC_HEALTH_A.MBIST` [1:1]. -/
abbrev PC_HEALTH_A.MBIST : Field := ⟨.pc .PC_HEALTH_A, 1, 1⟩
/-- `PC_HEALTH_A.LBIST` [2:2]. -/
abbrev PC_HEALTH_A.LBIST : Field := ⟨.pc .PC_HEALTH_A, 2, 1⟩
/-- `PC_HEALTH_A.ECC_UE` [3:3]. -/
abbrev PC_HEALTH_A.ECC_UE : Field := ⟨.pc .PC_HEALTH_A, 3, 1⟩
/-- `PC_HEALTH_A.TILE_FAULT` [4:4]. -/
abbrev PC_HEALTH_A.TILE_FAULT : Field := ⟨.pc .PC_HEALTH_A, 4, 1⟩
/-- `PC_HEALTH_A.KILN` [5:5]. -/
abbrev PC_HEALTH_A.KILN : Field := ⟨.pc .PC_HEALTH_A, 5, 1⟩
/-- `PC_HEALTH_A.XFER` [6:6]. -/
abbrev PC_HEALTH_A.XFER : Field := ⟨.pc .PC_HEALTH_A, 6, 1⟩
/-- `PC_HEALTH_A.LBIST_STARVED` [7:7]. -/
abbrev PC_HEALTH_A.LBIST_STARVED : Field := ⟨.pc .PC_HEALTH_A, 7, 1⟩
/-- `PC_HEALTH_A.TILE` [15:12]. -/
abbrev PC_HEALTH_A.TILE : Field := ⟨.pc .PC_HEALTH_A, 12, 4⟩
/-- `PC_HEALTH_A.GIVEUPS` [31:16]. -/
abbrev PC_HEALTH_A.GIVEUPS : Field := ⟨.pc .PC_HEALTH_A, 16, 16⟩
/-- `PC_HEALTH_B` (R503). -/
abbrev PC_HEALTH_B : Reg := .pc .PC_HEALTH_B
/-- `PC_HEALTH_B.OK` [0:0]. -/
abbrev PC_HEALTH_B.OK : Field := ⟨.pc .PC_HEALTH_B, 0, 1⟩
/-- `PC_HEALTH_B.MBIST` [1:1]. -/
abbrev PC_HEALTH_B.MBIST : Field := ⟨.pc .PC_HEALTH_B, 1, 1⟩
/-- `PC_HEALTH_B.LBIST` [2:2]. -/
abbrev PC_HEALTH_B.LBIST : Field := ⟨.pc .PC_HEALTH_B, 2, 1⟩
/-- `PC_HEALTH_B.ECC_UE` [3:3]. -/
abbrev PC_HEALTH_B.ECC_UE : Field := ⟨.pc .PC_HEALTH_B, 3, 1⟩
/-- `PC_HEALTH_B.TILE_FAULT` [4:4]. -/
abbrev PC_HEALTH_B.TILE_FAULT : Field := ⟨.pc .PC_HEALTH_B, 4, 1⟩
/-- `PC_HEALTH_B.KILN` [5:5]. -/
abbrev PC_HEALTH_B.KILN : Field := ⟨.pc .PC_HEALTH_B, 5, 1⟩
/-- `PC_HEALTH_B.XFER` [6:6]. -/
abbrev PC_HEALTH_B.XFER : Field := ⟨.pc .PC_HEALTH_B, 6, 1⟩
/-- `PC_HEALTH_B.LBIST_STARVED` [7:7]. -/
abbrev PC_HEALTH_B.LBIST_STARVED : Field := ⟨.pc .PC_HEALTH_B, 7, 1⟩
/-- `PC_HEALTH_B.TILE` [15:12]. -/
abbrev PC_HEALTH_B.TILE : Field := ⟨.pc .PC_HEALTH_B, 12, 4⟩
/-- `PC_HEALTH_B.GIVEUPS` [31:16]. -/
abbrev PC_HEALTH_B.GIVEUPS : Field := ⟨.pc .PC_HEALTH_B, 16, 16⟩
/-- `PC_MISM_A` (R503). -/
abbrev PC_MISM_A : Reg := .pc .PC_MISM_A
/-- `PC_MISM_B` (R503). -/
abbrev PC_MISM_B : Reg := .pc .PC_MISM_B
/-- `PC_MISM_WHERE` (R503). -/
abbrev PC_MISM_WHERE : Reg := .pc .PC_MISM_WHERE
/-- `PC_MISM_WHERE.KIND` [3:0]. -/
abbrev PC_MISM_WHERE.KIND : Field := ⟨.pc .PC_MISM_WHERE, 0, 4⟩
/-- `PC_MISM_WHERE.WHERE` [11:4]. -/
abbrev PC_MISM_WHERE.WHERE : Field := ⟨.pc .PC_MISM_WHERE, 4, 8⟩
/-- `PC_MISM_WHERE.PERIOD` [31:16]. -/
abbrev PC_MISM_WHERE.PERIOD : Field := ⟨.pc .PC_MISM_WHERE, 16, 16⟩
/-- `PC_SWITCH_CNT` (R503). -/
abbrev PC_SWITCH_CNT : Reg := .pc .PC_SWITCH_CNT
/-- `PC_GAP_CNT` (R503). -/
abbrev PC_GAP_CNT : Reg := .pc .PC_GAP_CNT
/-- `PC_RETRY_LIM` (R503). -/
abbrev PC_RETRY_LIM : Reg := .pc .PC_RETRY_LIM
/-- `PC_LBIST_INT` (R503). -/
abbrev PC_LBIST_INT : Reg := .pc .PC_LBIST_INT
/-- `PC_XFER` (R503). -/
abbrev PC_XFER : Reg := .pc .PC_XFER
/-- `PC_LAST_SW` (R503). -/
abbrev PC_LAST_SW : Reg := .pc .PC_LAST_SW
/-- `PC_LAST_SW.PERIOD` [15:0]. -/
abbrev PC_LAST_SW.PERIOD : Field := ⟨.pc .PC_LAST_SW, 0, 16⟩
/-- `PC_LAST_SW.CAUSE` [17:16]. -/
abbrev PC_LAST_SW.CAUSE : Field := ⟨.pc .PC_LAST_SW, 16, 2⟩
/-- `PC_LAST_SW.REPEATED` [18:18]. -/
abbrev PC_LAST_SW.REPEATED : Field := ⟨.pc .PC_LAST_SW, 18, 1⟩
/-- `PC_LAST_SW.UNCONFIRMED` [19:19]. -/
abbrev PC_LAST_SW.UNCONFIRMED : Field := ⟨.pc .PC_LAST_SW, 19, 1⟩
/-- `DEV_IDENT` (R509). -/
abbrev DEV_IDENT : Reg := .hm .DEV_IDENT
/-- `DEV_IDENT.PART` [31:16]. -/
abbrev DEV_IDENT.PART : Field := ⟨.hm .DEV_IDENT, 16, 16⟩
/-- `DEV_IDENT.REV` [15:8]. -/
abbrev DEV_IDENT.REV : Field := ⟨.hm .DEV_IDENT, 8, 8⟩
/-- `DEV_IDENT.STEP` [7:4]. -/
abbrev DEV_IDENT.STEP : Field := ⟨.hm .DEV_IDENT, 4, 4⟩
/-- `HM_ZVER` (R509). -/
abbrev HM_ZVER : Reg := .hm .HM_ZVER
/-- `HM_ZVER.BUILD` [15:0]. -/
abbrev HM_ZVER.BUILD : Field := ⟨.hm .HM_ZVER, 0, 16⟩
/-- `HM_ZVER.MINOR` [23:16]. -/
abbrev HM_ZVER.MINOR : Field := ⟨.hm .HM_ZVER, 16, 8⟩
/-- `HM_ZVER.MAJOR` [31:24]. -/
abbrev HM_ZVER.MAJOR : Field := ⟨.hm .HM_ZVER, 24, 8⟩
/-- `HM_STAT` (R509). -/
abbrev HM_STAT : Reg := .hm .HM_STAT
/-- `HM_STAT.HEARTH_UP` [0:0]. -/
abbrev HM_STAT.HEARTH_UP : Field := ⟨.hm .HM_STAT, 0, 1⟩
/-- `HM_STAT.SEALED` [1:1]. -/
abbrev HM_STAT.SEALED : Field := ⟨.hm .HM_STAT, 1, 1⟩
/-- `HM_STAT.PCIE_EN` [2:2]. -/
abbrev HM_STAT.PCIE_EN : Field := ⟨.hm .HM_STAT, 2, 1⟩
/-- `HM_STAT.QSPI_EN` [3:3]. -/
abbrev HM_STAT.QSPI_EN : Field := ⟨.hm .HM_STAT, 3, 1⟩
/-- `HM_STAT.RESTARTS` [15:8]. -/
abbrev HM_STAT.RESTARTS : Field := ⟨.hm .HM_STAT, 8, 8⟩
/-- `HM_DB_POST` (R509). -/
abbrev HM_DB_POST : Reg := .hm .HM_DB_POST
/-- `HM_DB_FREE` (R509). -/
abbrev HM_DB_FREE : Reg := .hm .HM_DB_FREE
/-- `HM_DB_STAT` (R509). -/
abbrev HM_DB_STAT : Reg := .hm .HM_DB_STAT
/-- `HM_DB_STAT.POST_REFUSED` [0:0]. -/
abbrev HM_DB_STAT.POST_REFUSED : Field := ⟨.hm .HM_DB_STAT, 0, 1⟩
/-- `HM_DB_STAT.FREE_REFUSED` [1:1]. -/
abbrev HM_DB_STAT.FREE_REFUSED : Field := ⟨.hm .HM_DB_STAT, 1, 1⟩
/-- `HM_DB_STAT.WRITE_REFUSED` [2:2]. -/
abbrev HM_DB_STAT.WRITE_REFUSED : Field := ⟨.hm .HM_DB_STAT, 2, 1⟩
/-- `HM_DB_STAT.T_WRITE` [3:3]. -/
abbrev HM_DB_STAT.T_WRITE : Field := ⟨.hm .HM_DB_STAT, 3, 1⟩
/-- `HM_SLOTS` (R509). -/
abbrev HM_SLOTS (k : Fin 2) : Reg := .hm (.HM_SLOTS k)
/-- `HM_EVT_HEAD` (R509). -/
abbrev HM_EVT_HEAD : Reg := .hm .HM_EVT_HEAD
/-- `HM_EVT_W` (R509). -/
abbrev HM_EVT_W (k : Fin 4) : Reg := .hm (.HM_EVT_W k)
/-- `HM_EVT_FILL` (R509). -/
abbrev HM_EVT_FILL : Reg := .hm .HM_EVT_FILL
/-- `HM_EVT_LOST` (R509). -/
abbrev HM_EVT_LOST : Reg := .hm .HM_EVT_LOST
/-- `HM_MSIX_TABLE` (R509). -/
abbrev HM_MSIX_TABLE (k : Fin 128) : Reg := .hm (.HM_MSIX_TABLE k)
/-- `HM_MSIX_PBA` (R509). -/
abbrev HM_MSIX_PBA (k : Fin 2) : Reg := .hm (.HM_MSIX_PBA k)
/-- `HM_PCI_CMD` (R507; log 62). -/
abbrev HM_PCI_CMD : Reg := .hm .HM_PCI_CMD
/-- `HM_PCI_MSIX` (R507; log 62). -/
abbrev HM_PCI_MSIX : Reg := .hm .HM_PCI_MSIX
/-- `LK_CTRL` (R546). -/
abbrev LK_CTRL : Reg := .lk .LK_CTRL
/-- `LK_CTRL.FLUSH` [0:0]. -/
abbrev LK_CTRL.FLUSH : Field := ⟨.lk .LK_CTRL, 0, 1⟩
/-- `LK_STAT` (R546). -/
abbrev LK_STAT : Reg := .lk .LK_STAT
/-- `LK_STAT.FLUSHING` [0:0]. -/
abbrev LK_STAT.FLUSHING : Field := ⟨.lk .LK_STAT, 0, 1⟩
/-- `LK_STAT.FAULT_REC` [1:1]. -/
abbrev LK_STAT.FAULT_REC : Field := ⟨.lk .LK_STAT, 1, 1⟩
/-- `LK_STAT.DROPPED` [2:2]. -/
abbrev LK_STAT.DROPPED : Field := ⟨.lk .LK_STAT, 2, 1⟩
/-- `LK_STAT.MRAM_ERR` [3:3]. -/
abbrev LK_STAT.MRAM_ERR : Field := ⟨.lk .LK_STAT, 3, 1⟩
/-- `LK_STAT.UNCLEAN` [4:4]. -/
abbrev LK_STAT.UNCLEAN : Field := ⟨.lk .LK_STAT, 4, 1⟩
/-- `LK_STAT.PF_DONE` [5:5]. -/
abbrev LK_STAT.PF_DONE : Field := ⟨.lk .LK_STAT, 5, 1⟩
/-- `LK_STAT.CFG_REFUSED` [6:6]. -/
abbrev LK_STAT.CFG_REFUSED : Field := ⟨.lk .LK_STAT, 6, 1⟩
/-- `LK_CFG` (R546). -/
abbrev LK_CFG : Reg := .lk .LK_CFG
/-- `LK_NEXT_LO` (R546). -/
abbrev LK_NEXT_LO : Reg := .lk .LK_NEXT_LO
/-- `LK_NEXT_HI` (R546). -/
abbrev LK_NEXT_HI : Reg := .lk .LK_NEXT_HI
/-- `LK_OLDEST_LO` (R546). -/
abbrev LK_OLDEST_LO : Reg := .lk .LK_OLDEST_LO
/-- `LK_OLDEST_HI` (R546). -/
abbrev LK_OLDEST_HI : Reg := .lk .LK_OLDEST_HI
/-- `LK_UNFLUSHED` (R546). -/
abbrev LK_UNFLUSHED : Reg := .lk .LK_UNFLUSHED
/-- `LK_DROPPED` (R546). -/
abbrev LK_DROPPED : Reg := .lk .LK_DROPPED
/-- `LK_PF_LOST` (R546). -/
abbrev LK_PF_LOST : Reg := .lk .LK_PF_LOST
/-- `LK_MRAM_BAD` (R546). -/
abbrev LK_MRAM_BAD : Reg := .lk .LK_MRAM_BAD
/-- `LK_FLUSHES` (R546). -/
abbrev LK_FLUSHES : Reg := .lk .LK_FLUSHES
/-- `LK_PCYCLE` (R546). -/
abbrev LK_PCYCLE : Reg := .lk .LK_PCYCLE
/-- `LK_OPTIME_LO` (R546). -/
abbrev LK_OPTIME_LO : Reg := .lk .LK_OPTIME_LO
/-- `LK_OPTIME_HI` (R546). -/
abbrev LK_OPTIME_HI : Reg := .lk .LK_OPTIME_HI
/-- `OTP_STAT` (R580). -/
abbrev OTP_STAT : Reg := .otp .OTP_STAT
/-- `OTP_STAT.SEALED` [0:0]. -/
abbrev OTP_STAT.SEALED : Field := ⟨.otp .OTP_STAT, 0, 1⟩
/-- `OTP_STAT.KEYS_LOCKED` [1:1]. -/
abbrev OTP_STAT.KEYS_LOCKED : Field := ⟨.otp .OTP_STAT, 1, 1⟩
/-- `OTP_STAT.SETTINGS_LOCKED` [2:2]. -/
abbrev OTP_STAT.SETTINGS_LOCKED : Field := ⟨.otp .OTP_STAT, 2, 1⟩
/-- `OTP_STAT.COSIGN_REQ` [3:3]. -/
abbrev OTP_STAT.COSIGN_REQ : Field := ⟨.otp .OTP_STAT, 3, 1⟩
/-- `OTP_STAT.GEN_VALID` [7:4]. -/
abbrev OTP_STAT.GEN_VALID : Field := ⟨.otp .OTP_STAT, 4, 4⟩
/-- `OTP_STAT.GEN_BLANK` [11:8]. -/
abbrev OTP_STAT.GEN_BLANK : Field := ⟨.otp .OTP_STAT, 8, 4⟩
/-- `OTP_STAT.GEN_ACTIVE` [13:12]. -/
abbrev OTP_STAT.GEN_ACTIVE : Field := ⟨.otp .OTP_STAT, 12, 2⟩
/-- `OTP_STAT.NO_SETTINGS` [14:14]. -/
abbrev OTP_STAT.NO_SETTINGS : Field := ⟨.otp .OTP_STAT, 14, 1⟩
/-- `OTP_STAT.BUSY` [15:15]. -/
abbrev OTP_STAT.BUSY : Field := ⟨.otp .OTP_STAT, 15, 1⟩
/-- `OTP_STAT.PROG_ERR` [16:16]. -/
abbrev OTP_STAT.PROG_ERR : Field := ⟨.otp .OTP_STAT, 16, 1⟩
/-- `OTP_STAT.CMD_REFUSED` [17:17]. -/
abbrev OTP_STAT.CMD_REFUSED : Field := ⟨.otp .OTP_STAT, 17, 1⟩
/-- `OTP_STAT.SEALED_WRITE` [18:18]. -/
abbrev OTP_STAT.SEALED_WRITE : Field := ⟨.otp .OTP_STAT, 18, 1⟩
/-- `OTP_CMD` (R580). -/
abbrev OTP_CMD : Reg := .otp .OTP_CMD
/-- `OTP_CMD.PROG` [0:0]. -/
abbrev OTP_CMD.PROG : Field := ⟨.otp .OTP_CMD, 0, 1⟩
/-- `OTP_ADDR` (R580). -/
abbrev OTP_ADDR : Reg := .otp .OTP_ADDR
/-- `OTP_DATA` (R580). -/
abbrev OTP_DATA : Reg := .otp .OTP_DATA
/-- `OTP_ARB` (R580). -/
abbrev OTP_ARB (c : Fin 6) : Reg := .otp (.OTP_ARB c)
/-- `OTP_KEYS` (R580). -/
abbrev OTP_KEYS : Reg := .otp .OTP_KEYS

end Sys2Proof
end

