-- ==== Sys2Proof/Syntax.lean ====
section
/-! DEFINITION. The commands of the GC8064: one constructor for each row of the table of operations, with the operands
that the row's rule gives it. -/

namespace Sys2Proof

/-- Who writes a register: Hearth, the host, or a tile of a plane. -/
inductive Agent where
  | hearth | host | planeA | planeB
  deriving DecidableEq, Repr

/-- A PTP message at a port of the time service (R65, R66); times are in 1/256 ns. -/
inductive PtpMsg where
  /-- A one-step Sync with its origin time, or a two-step Sync. -/
  | sync (t1 : Option Int)
  | followUp (t1 : Int)
  | delayReq
  | delayResp (t4 : Int)
  | pdelayReq
  /-- The answer to a peer delay request: when the peer received it and when it answered. -/
  | pdelayResp (t2 t3 : Int)
  /-- The data set of the sender's grandmaster as one number, a better one lower (R65); UTC offset in s, its validity, and the two leap
  flags (R56). -/
  | announce (rank : Nat) (utc : Nat) (valid leap61 leap59 : Bool)
  /-- A management message that reads the port data set, and any other management message (R65). -/
  | getPortData
  | otherManagement
  deriving DecidableEq, Repr

/-- The fields of a PTP header that the time service looks at: domain, sequence number, source port identity (R65). -/
structure PtpHdr where
  domain : Nat
  seq : Nat
  src : BitVec 80
  deriving DecidableEq, Repr

/-- The content of a received Ethernet frame, as far as R84 judges it. -/
inductive EthContent where
  | arp (target : Word)
  | solicit (target : BitVec 128)
  | ptp (h : PtpHdr) (m : PtpMsg)
  /-- A UDP datagram: IPv6 or IPv4, addresses, destination port, whether a fragment, and its payload. -/
  | udp (v6 : Bool) (src dst : BitVec 128) (port : Nat) (fragment : Bool) (payload : List Byte)
  | pause
  | other
  deriving DecidableEq, Repr

/-- A received Ethernet frame: FCS correct, wire length with FCS, VLAN id when tagged, addresses, content, and its bytes
from the destination address on without the FCS. -/
structure EthFrame where
  fcsOk : Bool
  len : Nat
  vid : Option (Fin 4096)
  dst : BitVec 48
  src : BitVec 48
  content : EthContent
  bytes : List Byte
  deriving DecidableEq, Repr

/-- The registers of an Ethernet port that ETH_CTRL_WRITE names (R87). -/
inductive EthCfg where
  | ctrl | macLo | macHi | ip4 | vlan | rxBuf | txBuf
  | ip6 (k : Fin 4)
  deriving DecidableEq, Repr

/-- The 64-bit values of Locket whose LO half latches the HI half (R546). -/
inductive LkIndex where
  | next | oldest | optime
  deriving DecidableEq, Repr

/-- The configuration registers of a joint port that apply only in DISARMED (R117). -/
inductive PortCfg where
  | mode | dead | minon | refresh | tripCfg
  deriving DecidableEq, Repr

/-- The configuration registers of a loop descriptor that R204 names. -/
inductive LdCfg where
  | ctrl | port | addr | ramp | dadj | eang | eofs | supCfg | supWarn | supFault | wcet | entry
  deriving DecidableEq, Repr

/-- What a custom law posts (R200): edge words of legs 0 to 3, a reference, or nothing. -/
inductive LawPost where
  | edges (words : List (Nat × Nat))
  | reference (d q : BitVec 24)
  | nothing
  deriving DecidableEq, Repr

/-- The registers of a step axis that R229 and R240 let change only while it is disabled. -/
inductive StpCfg where
  | cfg | timing
  | table (k : Fin 256)
  deriving DecidableEq, Repr


/-- A second source or immediate of 16 bits in the base word, or of 24 bits in an extension word (R320, R322, R331). -/
inductive EImm where
  | short (v : BitVec 16)
  | long (v : BitVec 24)
  deriving DecidableEq, Repr

/-- The offset of a memory descriptor: IMM5 in units of 4 bytes, or the byte offset of an extension word (R308). -/
inductive EOff where
  | imm5 (v : BitVec 5)
  | ext (v : BitVec 24)
  deriving DecidableEq, Repr

/-- A memory operand of the load and store class (R293, R308): (pn), (pn+imm), (pn)+imm, (pn)+m. -/
inductive EMem where
  | plain (p : Fin 8)
  | offset (p : Fin 8) (o : EOff)
  | postImm (p : Fin 8) (o : EOff)
  | postMod (p : Fin 8)
  deriving DecidableEq, Repr

/-- A short memory descriptor (R309): PN and IMM3 in units of 4 bytes. -/
inductive EShort where
  | plain (p : Fin 4)
  | offset (p : Fin 4) (o : BitVec 3)
  | postImm (p : Fin 4) (o : BitVec 3)
  | postMod (p : Fin 4)
  deriving DecidableEq, Repr

/-- A register of a file that `mov` names (R321). -/
inductive EReg where
  | d (n : Fin 16) | p (n : Fin 8) | b (n : Fin 8) | l (n : Fin 8) | m (n : Fin 8) | ctl (n : Fin 16)
  deriving DecidableEq, Repr

/-- The operand of an MX-16 indirect access (R332): the modes of R308 over an index register, with a word offset or step. -/
inductive MxMem where
  | plain (x : Fin 4)
  | offset (x : Fin 4) (o : BitVec 4)
  | postImm (x : Fin 4) (o : BitVec 4)
  | postMod (x : Fin 4)
  deriving DecidableEq, Repr

/-- The step of an index register in an MX-16 multiply from memory (R332). -/
inductive MxStep where
  | none | up | down | byM
  deriving DecidableEq, Repr

/-- The operations of an MX-16 immediate ALU instruction (R332): codes 0, 2, 7, 8, 9, 11, 12 and 13 of R322. -/
inductive MxImmOp where
  | add | cmp | and_ | or_ | xor_ | asl | asr | lsr
  deriving DecidableEq, Repr

/-- Who reads or writes a register: a tile, Hearth, the host through a fabric port, or the host through Window T, whose reads have no
side effect and whose writes are discarded (16 R510, R528). -/
inductive Who where
  | tile (t : Fin 32) | hearth | host | windowT
  deriving DecidableEq, Repr

/-- What reaches a node lane of the Chain (14 R461, R469, R478): a frame by its bytes from `ADDR` to `FCS` and whether it ended with
/V/ or showed a coding violation; a violation report with the measured start offset in 1/256 ns and the slot; a link-delay request;
or the result of a link-delay measurement in 1/256 ns. -/
inductive ChainRx where
  | frame (bytes : List Byte) (bad : Bool)
  | report (offset : Int) (slot : Nat)
  | delayRequest
  | delayResult (d : Int)
  deriving DecidableEq, Repr

/-- What reaches a port of a Clasp (14 R469, R477, R478): a frame by its bytes, or the answer to a link-delay request with t2 and t3 in
1/256 ns. -/
inductive ClaspRx where
  | frame (bytes : List Byte)
  | answer (t2 t3 : Int)
  deriving DecidableEq, Repr


/-- The fault a plane finds in itself, by its bit of the health report (15 R492, R505). -/
inductive PlaneFault where
  | mbist | lbist | eccUe | tileFault | kiln | xfer
  deriving DecidableEq, Repr

/-- One command. -/
inductive Instr where
  /-- NOP (R314). No operation. t is the tile that issues the instruction: 0 to 15 of Plane A, 16 to 31 of Plane B; so for every instruction below. -/
  | nop (t : Fin 32)
  /-- TEND (R301). Ends the task and starts the next prefetched task. -/
  | tend (t : Fin 32)
  /-- RETI (R297). Returns from an interrupt to ipc and restores sr. -/
  | reti (t : Fin 32)
  /-- RPT_IMM (R294). Repeats the next instruction n + 1 times. -/
  | rptImm (t : Fin 32) (n : Fin 4096)
  /-- RPT_REG (R314). Repeats the next instruction by a count from a data register. -/
  | rptReg (t : Fin 32) (dn : Fin 16)
  /-- EI (R314). Sets sr.IE. -/
  | ei (t : Fin 32)
  /-- DI (R314). Clears sr.IE. -/
  | di (t : Fin 32)
  /-- CLRST (R314). Clears sr.V and sr.S. -/
  | clrst (t : Fin 32)
  /-- SETRND (R314). Sets sr.RND. -/
  | setrnd (t : Fin 32) (k : Fin 4)
  /-- B_CC (R315). Conditional branch with two delay slots. -/
  | bCc (t : Fin 32) (cc : Fin 16) (off : BitVec 16)
  /-- CALL (R315). Call with link into lr. -/
  | call (t : Fin 32) (off : BitVec 16)
  /-- JMP (R315). Branch to an address register. -/
  | jmp (t : Fin 32) (pn : Fin 8)
  /-- CALLR (R315). Call to an address register. -/
  | callr (t : Fin 32) (pn : Fin 8)
  /-- RET (R315). Branch to lr. -/
  | ret (t : Fin 32)
  /-- DBNZ (R315). Decrement a data register and branch when not zero. -/
  | dbnz (t : Fin 32) (dn : Fin 16) (off : BitVec 16)
  /-- MXCALL (R305). Calls into MX mode at the target. -/
  | mxcall (t : Fin 32) (off : BitVec 16)
  /-- LD (R318). Loads a word into a data register. -/
  | ld (t : Fin 32) (dn : Fin 16) (m : EMem)
  /-- ST (R318). Stores a data register. -/
  | st (t : Fin 32) (dn : Fin 16) (m : EMem)
  /-- LDD_A (R318). Loads an accumulator. -/
  | lddA (t : Fin 32) (an : Fin 4) (m : EMem)
  /-- STD_A (R318). Stores an accumulator. -/
  | stdA (t : Fin 32) (an : Fin 4) (m : EMem)
  /-- LDQ (R318). Loads four data registers. -/
  | ldq (t : Fin 32) (g : Fin 4) (m : EMem)
  /-- STQ (R318). Stores four data registers. -/
  | stq (t : Fin 32) (g : Fin 4) (m : EMem)
  /-- LDD_P (R318). Loads an address register. -/
  | lddP (t : Fin 32) (pn : Fin 8) (m : EMem)
  /-- STD_P (R318). Stores an address register. -/
  | stdP (t : Fin 32) (pn : Fin 8) (m : EMem)
  /-- LDD_B (R318). Loads a circular base register. -/
  | lddB (t : Fin 32) (bn : Fin 8) (m : EMem)
  /-- STD_B (R318). Stores a circular base register. -/
  | stdB (t : Fin 32) (bn : Fin 8) (m : EMem)
  /-- LD_L (R318). Loads a circular length register. -/
  | ldL (t : Fin 32) (ln : Fin 8) (m : EMem)
  /-- ST_L (R318). Stores a circular length register. -/
  | stL (t : Fin 32) (ln : Fin 8) (m : EMem)
  /-- LD_M (R318). Loads a modifier register. -/
  | ldM (t : Fin 32) (mn : Fin 8) (m : EMem)
  /-- ST_M (R318). Stores a modifier register. -/
  | stM (t : Fin 32) (mn : Fin 8) (m : EMem)
  /-- LEA (R318). Loads the operand address into an address register. -/
  | lea (t : Fin 32) (pn : Fin 8) (m : EMem)
  /-- LD2 (R319). Loads an X word and a Y word into a register pair. -/
  | ld2 (t : Fin 32) (k : Fin 8) (x : EShort) (y : EShort)
  /-- LDI_D (R320). Loads an immediate into a data register. -/
  | ldiD (t : Fin 32) (dn : Fin 16) (imm : EImm)
  /-- LDI_A (R320). Loads an immediate into an accumulator. -/
  | ldiA (t : Fin 32) (an : Fin 4) (imm : BitVec 24)
  /-- LDI_P (R320). Loads an immediate into an address register. -/
  | ldiP (t : Fin 32) (pn : Fin 8) (imm : BitVec 40)
  /-- LDI_B (R320). Loads an immediate into a base register. -/
  | ldiB (t : Fin 32) (bn : Fin 8) (imm : BitVec 40)
  /-- LDI_L (R320). Loads an immediate into a length register. -/
  | ldiL (t : Fin 32) (ln : Fin 8) (imm : BitVec 18)
  /-- LDI_M (R320). Loads an immediate into a modifier register. -/
  | ldiM (t : Fin 32) (mn : Fin 8) (imm : BitVec 24)
  /-- MOV (R321). Moves and converts between register files. -/
  | mov (t : Fin 32) (rd : EReg) (rs : EReg)
  /-- ADD (R322). Adds two data registers. -/
  | add (t : Fin 32) (sat : Bool) (dd ds dt : Fin 16)
  /-- SUB (R322). Subtracts two data registers. -/
  | sub (t : Fin 32) (sat : Bool) (dd ds dt : Fin 16)
  /-- CMP (R324). Compares two data registers. -/
  | cmp (t : Fin 32) (sat : Bool) (ds dt : Fin 16)
  /-- NEG (R322). Negates a data register. -/
  | neg (t : Fin 32) (sat : Bool) (dd ds : Fin 16)
  /-- ABS (R322). Absolute value of a data register. -/
  | abs (t : Fin 32) (sat : Bool) (dd ds : Fin 16)
  /-- MIN (R322). Signed minimum. -/
  | min (t : Fin 32) (dd ds dt : Fin 16)
  /-- MAX (R322). Signed maximum. -/
  | max (t : Fin 32) (dd ds dt : Fin 16)
  /-- AND (R322). Bitwise and. -/
  | and (t : Fin 32) (dd ds dt : Fin 16)
  /-- OR (R322). Bitwise or. -/
  | or (t : Fin 32) (dd ds dt : Fin 16)
  /-- XOR (R322). Bitwise exclusive or. -/
  | xor (t : Fin 32) (dd ds dt : Fin 16)
  /-- NOT (R322). Bitwise complement. -/
  | not (t : Fin 32) (dd ds : Fin 16)
  /-- ASL (R323). Arithmetic left shift. -/
  | asl (t : Fin 32) (sat : Bool) (dd ds dt : Fin 16)
  /-- ASR (R323). Arithmetic right shift. -/
  | asr (t : Fin 32) (dd ds dt : Fin 16)
  /-- LSR (R323). Logical right shift. -/
  | lsr (t : Fin 32) (dd ds dt : Fin 16)
  /-- ADDC (R322). Add with carry. -/
  | addc (t : Fin 32) (sat : Bool) (dd ds dt : Fin 16)
  /-- SUBC (R322). Subtract with borrow. -/
  | subc (t : Fin 32) (sat : Bool) (dd ds dt : Fin 16)
  /-- ADDI (R322). Adds an immediate. -/
  | addi (t : Fin 32) (sat : Bool) (dd : Fin 16) (imm : EImm)
  /-- CMPI (R324). Compares with an immediate. -/
  | cmpi (t : Fin 32) (sat : Bool) (dd : Fin 16) (imm : EImm)
  /-- ANDI (R322). Bitwise and with an immediate. -/
  | andi (t : Fin 32) (dd : Fin 16) (imm : EImm)
  /-- ORI (R322). Bitwise or with an immediate. -/
  | ori (t : Fin 32) (dd : Fin 16) (imm : EImm)
  /-- XORI (R322). Exclusive or with an immediate. -/
  | xori (t : Fin 32) (dd : Fin 16) (imm : EImm)
  /-- ASLI (R323). Left shift by an immediate count. x: the count stands in an extension word. -/
  | asli (t : Fin 32) (sat : Bool) (dd : Fin 16) (x : Bool) (k : Fin 32)
  /-- ASRI (R323). Arithmetic right shift by an immediate count. -/
  | asri (t : Fin 32) (dd : Fin 16) (x : Bool) (k : Fin 32)
  /-- LSRI (R323). Logical right shift by an immediate count. -/
  | lsri (t : Fin 32) (dd : Fin 16) (x : Bool) (k : Fin 32)
  /-- ADDA (R325). Adds two accumulators. -/
  | adda (t : Fin 32) (sat : Bool) (ad as_ : Fin 4)
  /-- SUBA (R325). Subtracts two accumulators. -/
  | suba (t : Fin 32) (sat : Bool) (ad as_ : Fin 4)
  /-- NEGA (R325). Negates an accumulator. -/
  | nega (t : Fin 32) (sat : Bool) (ad as_ : Fin 4)
  /-- ABSA (R325). Absolute value of an accumulator. -/
  | absa (t : Fin 32) (sat : Bool) (ad as_ : Fin 4)
  /-- CLR (R325). Clears the accumulators of the mask. -/
  | clr (t : Fin 32) (mask : BitVec 4)
  /-- MVA (R325). Moves a data register into an accumulator. -/
  | mva (t : Fin 32) (ad : Fin 4) (dn : Fin 16)
  /-- MVR (R325). Rounds an accumulator into a data register. -/
  | mvr (t : Fin 32) (sat : Bool) (dn : Fin 16) (as_ : Fin 4)
  /-- ASLA (R325). Left shift of an accumulator. -/
  | asla (t : Fin 32) (sat : Bool) (ad as_ : Fin 4) (k : Fin 64)
  /-- ASRA (R325). Arithmetic right shift of an accumulator. -/
  | asra (t : Fin 32) (ad as_ : Fin 4) (k : Fin 64)
  /-- CMPA (R324). Compares two accumulators. -/
  | cmpa (t : Fin 32) (sat : Bool) (ad as_ : Fin 4)
  /-- MOVA (R325). Copies an accumulator. -/
  | mova (t : Fin 32) (ad as_ : Fin 4)
  /-- RNDA (R325). Rounds an accumulator at bit 22. -/
  | rnda (t : Fin 32) (sat : Bool) (ad as_ : Fin 4)
  /-- MPY (R326). Multiplies two data registers into an accumulator. -/
  | mpy (t : Fin 32) (sat : Bool) (ad : Fin 4) (ds dt : Fin 16)
  /-- MAC (R326). Multiply-accumulate of two data registers. -/
  | mac (t : Fin 32) (sat : Bool) (ad : Fin 4) (ds dt : Fin 16)
  /-- MSU (R326). Multiply-subtract of two data registers. -/
  | msu (t : Fin 32) (sat : Bool) (ad : Fin 4) (ds dt : Fin 16)
  /-- MPY_MEM (R326). Multiplies an X word by a Y word. -/
  | mpyMem (t : Fin 32) (sat : Bool) (ad : Fin 4) (y x : EShort)
  /-- MAC_MEM (R326). Multiply-accumulate of memory operands. -/
  | macMem (t : Fin 32) (sat : Bool) (ad : Fin 4) (y x : EShort)
  /-- MSU_MEM (R326). Multiply-subtract of memory operands. -/
  | msuMem (t : Fin 32) (sat : Bool) (ad : Fin 4) (y x : EShort)
  /-- MPYR (R326). Rounded product into a data register. -/
  | mpyr (t : Fin 32) (sat : Bool) (dd ds dt : Fin 16)
  /-- DMAC_MEM (R328). Two-lane multiply-accumulate from memory. -/
  | dmacMem (t : Fin 32) (sat : Bool) (p sw neg1 neg0 : Bool) (y x : EShort)
  /-- DMAC_REG (R328). Two-lane multiply-accumulate from registers. -/
  | dmacReg (t : Fin 32) (sat : Bool) (p sw neg1 neg0 : Bool) (ds dt : Fin 16)
  /-- DMAC_MUL_MEM (R328). Two-lane multiply from memory. -/
  | dmacMulMem (t : Fin 32) (sat : Bool) (p sw neg1 neg0 : Bool) (y x : EShort)
  /-- DMAC_MUL_REG (R328). Two-lane multiply from registers. -/
  | dmacMulReg (t : Fin 32) (sat : Bool) (p sw neg1 neg0 : Bool) (ds dt : Fin 16)
  /-- QMAC_MEM (R329). Four-lane multiply-accumulate from memory. Bit i of neg negates lane i. -/
  | qmacMem (t : Fin 32) (sat : Bool) (neg : BitVec 4) (y x : EShort)
  /-- QMAC_REG (R329). Four-lane multiply-accumulate from registers. -/
  | qmacReg (t : Fin 32) (sat : Bool) (neg : BitVec 4) (g : Fin 4) (dt : Fin 16)
  /-- QMAC_MUL_MEM (R329). Four-lane multiply from memory. -/
  | qmacMulMem (t : Fin 32) (sat : Bool) (neg : BitVec 4) (y x : EShort)
  /-- QMAC_MUL_REG (R329). Four-lane multiply from registers. -/
  | qmacMulReg (t : Fin 32) (sat : Bool) (neg : BitVec 4) (g : Fin 4) (dt : Fin 16)
  /-- ACS (R330). Add-compare-select keeping the larger candidate. -/
  | acs (t : Fin 32) (sat : Bool) (dd ds dt du : Fin 16)
  /-- ACSN (R330). Add-compare-select keeping the smaller candidate. -/
  | acsn (t : Fin 32) (sat : Bool) (dd ds dt du : Fin 16)
  /-- ACS2 (R330). Dual add-compare-select keeping the larger candidates. -/
  | acs2 (t : Fin 32) (sat : Bool) (dd ds dt du : Fin 16)
  /-- ACS2N (R330). Dual add-compare-select keeping the smaller candidates. -/
  | acs2n (t : Fin 32) (sat : Bool) (dd ds dt du : Fin 16)
  /-- PADD (R331). Steps an address register by an immediate with circular correction. -/
  | padd (t : Fin 32) (pn : Fin 8) (imm : EImm)
  /-- PADDM (R331). Steps an address register by its modifier. -/
  | paddm (t : Fin 32) (pn : Fin 8)
  /-- PADDL (R331). Adds an immediate to an address register without correction. -/
  | paddl (t : Fin 32) (pn : Fin 8) (imm : EImm)
  /-- MX_NOP (R332). MX-16 no operation. -/
  | mxNop (t : Fin 32)
  /-- MX_HALT (R305). MX-16 halt ends the task as tend does. -/
  | mxHalt (t : Fin 32)
  /-- MX_RET (R305). MX-16 return, to native mode when lr bit 0 is set. -/
  | mxRet (t : Fin 32)
  /-- MX_RPT_IMM (R332). MX-16 repeat by immediate. -/
  | mxRptImm (t : Fin 32) (n : Fin 256)
  /-- MX_RPT_REG (R332). MX-16 repeat by register. -/
  | mxRptReg (t : Fin 32) (r : Fin 8)
  /-- MX_EI (R332). MX-16 enable interrupts. -/
  | mxEi (t : Fin 32)
  /-- MX_DI (R332). MX-16 disable interrupts. -/
  | mxDi (t : Fin 32)
  /-- MX_CLAMPON (R332). Sets sr.MXCLAMP. -/
  | mxClampon (t : Fin 32)
  /-- MX_CLAMPOFF (R332). Clears sr.MXCLAMP. -/
  | mxClampoff (t : Fin 32)
  /-- MX_CLRS (R332). Clears V and S. -/
  | mxClrs (t : Fin 32)
  /-- MX_BRANCH (R332). MX-16 conditional short branch. -/
  | mxBranch (t : Fin 32) (cc : Fin 16) (off : BitVec 8)
  /-- MX_LONG_BRANCH (R332). MX-16 long branch. -/
  | mxLongBranch (t : Fin 32) (w : BitVec 16)
  /-- MX_CALL (R332). MX-16 long call. -/
  | mxCall (t : Fin 32) (w : BitVec 16)
  /-- MX_LOAD_DIRECT (R332). MX-16 direct load. -/
  | mxLoadDirect (t : Fin 32) (r : Fin 8) (w : BitVec 16)
  /-- MX_STORE_DIRECT (R332). MX-16 direct store. -/
  | mxStoreDirect (t : Fin 32) (r : Fin 8) (w : BitVec 16)
  /-- MX_LOAD_INDIRECT (R332). MX-16 indirect load. -/
  | mxLoadIndirect (t : Fin 32) (r : Fin 8) (m : MxMem)
  /-- MX_STORE_INDIRECT (R332). MX-16 indirect store. -/
  | mxStoreIndirect (t : Fin 32) (r : Fin 8) (m : MxMem)
  /-- MX_ALU_REG (R332). MX-16 register ALU operation. -/
  | mxAluReg (t : Fin 32) (op : Fin 16) (rd rs : Fin 8)
  /-- MX_ALU_IMM (R332). MX-16 immediate ALU operation. -/
  | mxAluImm (t : Fin 32) (op : MxImmOp) (rd : Fin 8) (imm : BitVec 16)
  /-- MX_MPY (R304). MX-16 register multiply. -/
  | mxMpy (t : Fin 32) (ac : Fin 2) (rs rt : Fin 8)
  /-- MX_MAC (R304). MX-16 register multiply-accumulate. -/
  | mxMac (t : Fin 32) (ac : Fin 2) (rs rt : Fin 8)
  /-- MX_MSU (R304). MX-16 register multiply-subtract. -/
  | mxMsu (t : Fin 32) (ac : Fin 2) (rs rt : Fin 8)
  /-- MX_MPYR (R304). MX-16 rounded multiply. -/
  | mxMpyr (t : Fin 32) (rd rs rt : Fin 8)
  /-- MX_MAC_MEM (R332). MX-16 memory multiply-accumulate. x names ix0 or ix1, y names ix2 or ix3. -/
  | mxMacMem (t : Fin 32) (ac : Fin 2) (x y : Fin 2) (sx sy : MxStep)
  /-- MX_MSU_MEM (R332). MX-16 memory multiply-subtract. -/
  | mxMsuMem (t : Fin 32) (ac : Fin 2) (x y : Fin 2) (sx sy : MxStep)
  /-- MX_ACC_CLR (R332). MX-16 accumulator clear. -/
  | mxAccClr (t : Fin 32) (ac : Fin 2)
  /-- MX_ACC_ADD (R332). MX-16 add other accumulator. -/
  | mxAccAdd (t : Fin 32) (ac : Fin 2)
  /-- MX_ACC_SUB (R332). MX-16 subtract other accumulator. -/
  | mxAccSub (t : Fin 32) (ac : Fin 2)
  /-- MX_ACC_NEG (R332). MX-16 accumulator negate. -/
  | mxAccNeg (t : Fin 32) (ac : Fin 2)
  /-- MX_ACC_ABS (R332). MX-16 accumulator absolute value. -/
  | mxAccAbs (t : Fin 32) (ac : Fin 2)
  /-- MX_ACC_SHL (R332). MX-16 accumulator left shift. -/
  | mxAccShl (t : Fin 32) (ac : Fin 2) (k : Fin 32)
  /-- MX_ACC_SHR (R332). MX-16 accumulator right shift. -/
  | mxAccShr (t : Fin 32) (ac : Fin 2) (k : Fin 32)
  /-- MX_ACC_ROUND (R332). MX-16 round accumulator into a register. -/
  | mxAccRound (t : Fin 32) (ac : Fin 2) (r : Fin 8)
  /-- MX_ACC_LOAD (R332). MX-16 register into accumulator. -/
  | mxAccLoad (t : Fin 32) (ac : Fin 2) (r : Fin 8)
  /-- MX_IX_LOAD (R332). MX-16 load index register from the second word. -/
  | mxIxLoad (t : Fin 32) (x : Fin 4) (w : BitVec 16)
  /-- MX_IX_ADD (R332). MX-16 add to index register. -/
  | mxIxAdd (t : Fin 32) (x : Fin 4) (o : BitVec 8)
  /-- MX_IX_TO_R (R332). MX-16 index register to data register. -/
  | mxIxToR (t : Fin 32) (x : Fin 4) (r : Fin 8)
  /-- MX_R_TO_IX (R332). MX-16 data register to index register. -/
  | mxRToIx (t : Fin 32) (x : Fin 4) (r : Fin 8)
  /-- MX_IN (R303). MX-16 input through the mxio window. -/
  | mxIn (t : Fin 32) (r : Fin 8) (k : BitVec 8)
  /-- MX_OUT (R303). MX-16 output through the mxio window. -/
  | mxOut (t : Fin 32) (r : Fin 8) (k : BitVec 8)
  /-- MX_STATUS_READ (R332). MX-16 read status into a register. -/
  | mxStatusRead (t : Fin 32) (r : Fin 8)
  /-- MX_STATUS_WRITE (R332). MX-16 write status from a register. -/
  | mxStatusWrite (t : Fin 32) (r : Fin 8)
  /-- OUTSIDE_LOAD_RETURN (R281). Data of an outside load returns and the frozen tile resumes, or the fabric answers an error. The Ember cycles the tile was frozen, and whether the fabric answers an error of its own. -/
  | outsideLoadReturn (t : Fin 32) (cycles : Nat) (error : Bool)
  /-- OUTSIDE_STORE_DRAIN (R281). An outside store leaves the store queue and crosses into the fabric. The Ember cycles the tile was frozen while its queue was full. -/
  | outsideStoreDrain (t : Fin 32) (cycles : Nat) (error : Bool)
  /-- INTERRUPT_ACCEPT (R295). A tile accepts a delivered interrupt and enters its handler. -/
  | interruptAccept (t : Fin 32)
  /-- ILLEGAL_INSTRUCTION (R307). A tile issues an undefined or reserved encoding (native or MX-16, e.g. erased memory) and takes the illegal-instruction fault of R299. -/
  | illegalInstruction (t : Fin 32)
  /-- REGISTER_WRITE (R7). A write to a register field that has no row of its own sets the value under its access code. `same` holds the w1c bits that the device sets in the very cycle of the write (R8). -/
  | registerWrite (who : Who) (r : Reg) (v : Word) (same : Word)
  /-- READ_CLEAR (R7). A read of an rc field returns its value and then clears it. `before` is the word that the register held before an update which the device makes in the very cycle of the read (R8). -/
  | readClear (who : Who) (r : Reg) (before : Option Word)
  /-- ISL_CLK_WRITE (R24). A write to ISL_CLK sets the Ember and Kiln clocks, or is refused while any port is armed. -/
  | islClkWrite (v : Word)
  /-- PERIOD_SEL_WRITE (R32). A write to PERIOD_CFG.PERIOD_SEL schedules a restart of the period sequencer, or is refused. -/
  | periodSelWrite (long : Bool)
  /-- PERIOD_RESTART (R34). The period sequencer restarts at the pending capture instant, re-basing all periods and discarding committed words. -/
  | periodRestart
  /-- WINDOW_EDGE (R36). At each current-period boundary all sigma-delta windows close and period-boundary actions take place. -/
  | windowEdge
  /-- CUT_OFF_EDGE (R103). At the cut-off edge the port chooses the words for the frame and applies clamping, short-pulse and refresh rules. -/
  | cutOffEdge (n : Fin 64)
  /-- LOAD_EDGE (R38). At the load edge the port moves the chosen edge words into the compares and the frame starts. -/
  | loadEdge (n : Fin 64)
  /-- LEG_EDGE (R93). At a placed RISE or FALL time the leg command changes level. -/
  | legEdge (n : Fin 64) (l : Fin 4)
  /-- DEAD_TIME_EXPIRY (R100). A gate output turns on when its dead time after the other gate's turn-off has passed. -/
  | deadTimeExpiry (n : Fin 64) (l : Fin 4) (high : Bool)
  /-- ACTIVE_SHORT (R111). After ASC_DELAY of a trip the port turns on all low-side or all high-side gates. -/
  | activeShort (n : Fin 64)
  /-- REF_LOSS (R30). With no reference edge for 1 us the main PLL enters holdover. -/
  | refLoss
  /-- PLL_RELOCK (R30). After the reference has been present for 10 ms the PLL leaves holdover and relocks. -/
  | pllRelock
  /-- CLOCK_FAULT (R31). Channel 2 finds the fabric clock off nominal for 8 cycles and forces all gates and safe outputs off. -/
  | clockFault (t : Nat)
  /-- PLL_FIRST_LOCK (R51). The main PLL first locks after reset. -/
  | pllFirstLock
  /-- TIME_BASE_START (R51). The time base starts at 0 on the first grid instant after first lock, and period 0 begins. -/
  | timeBaseStart
  /-- TIME_STEP (R57). The single step of cell time is applied on a grid instant and pulse outputs stop. -/
  | timeStep
  /-- TIME_SET_ACCEPT (R57). The time base accepts a set command when its write has crossed into the fabric island. -/
  | timeSetAccept
  /-- TB_RATE_WRITE (R63). A write to TB_RATE sets the requested correction, clamped, or is refused unless the source is none. -/
  | tbRateWrite (v : Word)
  /-- TB_SOURCE_WRITE (R60). A write of TB_CTRL.SOURCE changes the time source and may move FREE to ACQUIRE. -/
  | tbSourceWrite (src : Fin 4)
  /-- PTP_SOURCE_LOST (R60). An announce-receipt timeout or 3 s without Sync makes the PTP source lost and the service enters HOLDOVER. -/
  | ptpSourceLost
  /-- PTP_SYNC_TX (R65). A master port sends a two-step Sync at its sync interval. -/
  | ptpSyncTx (p : Fin 4)
  /-- TCAP_EDGE (R70). A selected edge on a capture input is timestamped and buffered, or discarded on overflow. The edge falls at device time t. -/
  | tcapEdge (n : Fin 8) (rise : Bool) (t : Nat)
  /-- TCAP_HEAD_READ (R71). A read of TCAP_HEAD_NS returns and removes the oldest entry and latches its other fields. -/
  | tcapHeadRead (n : Fin 8)
  /-- TB_NOW_READ (R78). A read of TB_NOW_NS returns the present nanoseconds and latches the seconds. -/
  | tbNowRead
  /-- TPO_ARM_WRITE (R77). A write of TPO_CTRL.ARM drives or releases the pulse output, or is refused before release. -/
  | tpoArmWrite (n : Fin 8) (on : Bool)
  /-- TPO_GO (R73). Writing TPO_CTRL.GO commits a pulse schedule, checked for range and lateness. -/
  | tpoGo (n : Fin 8)
  /-- TPO_EDGE (R73). A pulse output places a rise or fall edge at its computed time. -/
  | tpoEdge (n : Fin 8)
  /-- ETH_FRAME_RX (R84). A received Ethernet frame is timestamped, judged and sent to one destination. The frame starts at device time t. -/
  | ethFrameRx (p : Fin 4) (f : EthFrame) (t : Nat)
  /-- ETH_TX_ENTRY_SEND (R85). The port sends the next owned transmit entry, or skips it as TX_ERR. -/
  | ethTxEntrySend (p : Fin 4)
  /-- SIGNET_ETH_TX (R86). The port encloses a committed Signet telegram in UDP, IP and Ethernet headers and sends it. -/
  | signetEthTx (c : Fin 64)
  /-- ETH_LINK_CHANGE (R87). The PHY link goes up or down; sending stops or resumes and LINK_CHG is set. The PHY's word gives the link and whether it runs at 100 Mbit/s. -/
  | ethLinkChange (p : Fin 4) (up : Bool) (fast : Bool)
  /-- ETH_CTRL_WRITE (R87). A write to ETH_CTRL or the address registers applies only while disabled; EN is refused without a valid MAC or ring. -/
  | ethCtrlWrite (p : Fin 4) (r : EthCfg) (v : Word)
  /-- MDIO_WRITE (R88). ETH_MDIO_CMD with OP write starts a clause 22 write transaction. -/
  | mdioWrite (phy reg : Fin 32) (data : BitVec 16)
  /-- MDIO_READ (R88). ETH_MDIO_CMD with OP read starts a clause 22 read transaction. -/
  | mdioRead (phy reg : Fin 32)
  /-- MDIO_DONE (R88). A clause 22 transaction completes, BUSY falls and read data appears. The data the PHY gives for a read. -/
  | mdioDone (data : BitVec 16)
  /-- PWM_ARM (R116). Writing PWM_CTRL.ARM = 1 arms the port into PARKED, or is refused. -/
  | pwmArm (n : Fin 64)
  /-- PWM_DISARM (R115). Clearing PWM_CTRL.ARM returns the port to DISARMED with outputs high-impedance. -/
  | pwmDisarm (n : Fin 64)
  /-- PWM_RUN_SET (R115). Setting PWM_CTRL.RUN lets a PARKED port enter RUNNING at a release instant. -/
  | pwmRunSet (n : Fin 64)
  /-- PWM_RUN_CLEAR (R115). Clearing PWM_CTRL.RUN parks a RUNNING port at the next release instant. -/
  | pwmRunClear (n : Fin 64)
  /-- FORCE_TRIP_SET (R110). Writing FORCE_TRIP = 1 makes the software trip source active after its crossing. -/
  | forceTripSet (n : Fin 64)
  /-- FORCE_TRIP_CLEAR (R110). Clearing FORCE_TRIP ends the software trip source after its crossing. -/
  | forceTripClear (n : Fin 64)
  /-- CLR_TRIP (R113). A trip clear request is accepted or refused. -/
  | clrTrip (n : Fin 64)
  /-- PWM_CONFIG_WRITE (R117). A write to PWM_MODE, PWM_DEAD, PWM_MINON, PWM_REFRESH or TRIP_CFG applies only in DISARMED. -/
  | pwmConfigWrite (n : Fin 64) (r : PortCfg) (v : Word)
  /-- EW_COMMIT (R107). A write of EW_COMMIT completes a post, judged by its period number. -/
  | ewCommit (n : Fin 64) (by_ : Agent) (c : BitVec 16)
  /-- TRIP_PIN_ASSERT (R109). The trip filter output becomes active after FLT + 1 active samples. The pin is first sampled active at the port edge t and for that many consecutive samples. -/
  | tripPinAssert (n : Fin 64) (t samples : Nat)
  /-- TRIP_PIN_RELEASE (R109). The trip filter output becomes inactive after FLT + 1 inactive samples. The pin is first sampled inactive at the port edge t and for that many consecutive samples. -/
  | tripPinRelease (n : Fin 64) (t samples : Nat)
  /-- CAL_ROUND_DONE (R99). A calibration round of a delay line completes with 65,536 hits and builds a tap map or fails. The 64 hit counts of the round, 65,536 in all. -/
  | calRoundDone (n : Fin 64) (line : Fin 6) (hist : List Nat)
  /-- CAL_MAP_INSTALL (R99). A new tap map is installed at the next frame start. -/
  | calMapInstall (n : Fin 64) (line : Fin 6)
  /-- SDC_ARM_WRITE (R127). A write of SDC_CTRL.ARM arms or stops a modulator clock output. -/
  | sdcArmWrite (arm : BitVec 9)
  /-- SDC_FREQ_WRITE (R127). A write of SDC_CTRL.FREQ selects the modulator clock, only while no port is armed. slow selects 8 MHz. -/
  | sdcFreqWrite (slow : Bool)
  /-- SDC_DLY_WRITE (R128). A write of SDC_DLY sets the sampling delay, or is refused. -/
  | sdcDlyWrite (g : Fin 9) (v : BitVec 7)
  /-- SAMPLE_DELIVERY (R133). The filters and feedback units deliver samples 160 ns after the window edge. For each input of a filter (false A, true B) the modulator bits of the window, from bit 0 of W back. -/
  | sampleDelivery (bits : List ((Fin 80 × Bool) × List Bool))
  /-- SDF_STUCK_RUN (R135). An input with no transition for STUCK x 16 bits enters a stuck run. t is the clock edge of the bit at which the run reaches its length. -/
  | sdfStuckRun (n : Fin 80) (inB : Bool) (t : Nat)
  /-- SDF_CFG_WRITE (R137). A write to SDF_CFG applies only while its port is DISARMED and DEC is in range. -/
  | sdfCfgWrite (n : Fin 80) (v : Word)
  /-- SDF_GAIN_WRITE (R132). A write of a filter gain or offset is staged for the next window edge. -/
  | sdfGainWrite (n : Fin 80) (inB ofs : Bool) (v : BitVec 24)
  /-- FB_LINE_CHANGE (R141). A synchronised feedback line changes level and is decoded as a count or an error. At the port edge at device time t the three lines are first sampled at these levels (bit i is line i). -/
  | fbLineChange (n : Fin 64) (lines : BitVec 3) (t : Nat)
  /-- FB_READING_START (R145). A serial feedback unit starts a reading every SRATE periods at the window edge. -/
  | fbReadingStart (n : Fin 64)
  /-- SSI_READING_DONE (R146). An SSI frame is complete and is checked and decoded. The level at the first falling edge, the frame's bits (the last one is bit 0), the extra bit. -/
  | ssiReadingDone (n : Fin 64) (idleHigh : Bool) (data : BitVec 48) (extra : Bool)
  /-- FILIGREE_RESPONSE (R148). A Filigree response is received and checked for stop bit, CRC and status. The bits between start and stop in line order from bit 0, the stop bit, the device time of the start bit. -/
  | filigreeResponse (n : Fin 64) (data : BitVec 72) (stop : Bool) (t : Nat)
  /-- FB_READING_TIMEOUT (R145). A reading not complete 1 us before its delivery edge, or a late start bit, is a timeout error. -/
  | fbReadingTimeout (n : Fin 64)
  /-- FB_STANDSTILL_TIMEOUT (R154). No count for FB_SST makes the estimator report standstill. -/
  | fbStandstillTimeout (n : Fin 64)
  /-- FB_ERR_LIMIT (R160). Errors within one planning tick reach FB_ERR_LIM and set ERR_FAULT. -/
  | fbErrLimit (n : Fin 64)
  /-- FB_LIMIT_WRITE (R152). A write of a soft limit HI register sets the limit and may clamp the counter. -/
  | fbLimitWrite (n : Fin 64) (upper : Bool) (hi : BitVec 16)
  /-- FB_SET_WRITE (R152). A write of FB_SET_HI presets the counter, clamped, and re-evaluates the compare. -/
  | fbSetWrite (n : Fin 64) (hi : BitVec 16)
  /-- FB_POS_LO_READ (R162). A read of FB_POS_LO returns the counter and latches FB_POS_HI. -/
  | fbPosLoRead (n : Fin 64)
  /-- CMP_HIT_NS_READ (R162). A read of CMP_HIT_NS latches the hit seconds. -/
  | cmpHitNsRead (n : Fin 64)
  /-- FB_EN_WRITE (R161). A write of FB_CTRL.EN enables or disables the unit, resetting the estimator and references. -/
  | fbEnWrite (n : Fin 64) (on : Bool)
  /-- FB_OUT_EN_WRITE (R159). A write of FB_CTRL.OUT_EN drives or releases FBO, refused before release. -/
  | fbOutEnWrite (n : Fin 64) (on : Bool)
  /-- ENC_CLR (R147). Writing FB_CTRL.ENC_CLR makes the next Filigree request clear alarms. -/
  | encClr (n : Fin 64)
  /-- FB_CFG_WRITE (R161). A write to FB_CFG or FB_SER applies only while disabled and consistent. ser selects FB_SER. -/
  | fbCfgWrite (n : Fin 64) (ser : Bool) (v : Word)
  /-- CMP_ARM_WRITE (R157). A write to CMP_POS_HI while enabled arms the compare, with a late hit if already passed. -/
  | cmpArmWrite (n : Fin 64) (hi : BitVec 16)
  /-- CMP_EN_WRITE (R157). A write of CMP_CTRL.EN arms the compare on 0 to 1, or disarms it. -/
  | cmpEnWrite (n : Fin 64) (on : Bool)
  /-- CMP_PULSE_END (R158). The compare pulse on FBO ends after PW port cycles. -/
  | cmpPulseEnd (n : Fin 64)
  /-- LOOP_ENABLE (R166). Writing LD_CTRL.EN = 1 enables a loop, or is refused. -/
  | loopEnable (n : Fin 256)
  /-- LOOP_DISABLE (R190). Clearing LD_CTRL.EN makes the loop run once more and then become DISABLED. -/
  | loopDisable (n : Fin 256)
  /-- LOOP_CLR_FAULT (R192). A fault clear request is accepted into WAIT or refused. -/
  | loopClrFault (n : Fin 256)
  /-- LD_CONFIG_WRITE (R204). A write to descriptor configuration applies only in DISABLED. -/
  | ldConfigWrite (n : Fin 256) (r : LdCfg) (v : Word)
  /-- CURRENT_LAW_RUN (R174). A standard current law runs on its sample block and posts edge words. -/
  | currentLawRun (n : Fin 64)
  /-- MOTION_LAW_RUN (R178). A standard motion law runs on its sample block and commits a reference. Descriptor 64 + n. -/
  | motionLawRun (n : Fin 64)
  /-- CUSTOM_LAW_RUN (R199). A custom law runs on its sample block and posts as LD_CTRL.OUT declares. What the custom code posts and the Ember cycles from its start to the post. -/
  | customLawRun (n : Fin 256) (post : LawPost) (cycles : Nat)
  /-- LD_REF_COMMIT (R179). A reference commit is recorded for its governing block, or refused. The reference of a loop's run, or a direct one. -/
  | ldRefCommit (n : Fin 64) (src : Option (Fin 256)) (c : BitVec 16)
  /-- LD_SP_COMMIT (R181). A set-point commit is recorded for the loop's next window edge, or discarded. -/
  | ldSpCommit (n : Fin 256) (c : BitVec 16)
  /-- LD_SWAP_REQ (R186). Writing LD_SWAP.REQ requests a bank swap, or is refused while one is pending. -/
  | ldSwapReq (n : Fin 256)
  /-- LD_BANK_WRITE (R185). A coefficient bank write is accepted and copied to both planes' tiles, or refused for the active bank. -/
  | ldBankWrite (n : Fin 256) (b : Fin 2) (k : Fin 64) (v : Word)
  /-- LOOP_SUP_WARN (R195). The residual exceeds LD_SUP_WARN on N_WARN consecutive runs. -/
  | loopSupWarn (n : Fin 256)
  /-- LOOP_SUP_FAULT (R196). The residual exceeds LD_SUP_FAULT on N_FAULT runs, a supervision fault reacts by REACT. -/
  | loopSupFault (n : Fin 256)
  /-- LOOP_BAD_LIMIT (R190). BAD_LIM consecutive invalid or clipped samples lead to FAULT. -/
  | loopBadLimit (n : Fin 256)
  /-- LOOP_FAULT_WORD (R197). The loop table receives a fault word and, for trip, sets FORCE_TRIP. The plane whose tile writes the word: 0 A, 1 B. -/
  | loopFaultWord (n : Fin 256) (plane : Fin 2)
  /-- LAW_WCET_EXCEED (R201). A custom law passes LD_WCET cycles and WCET_EXCEED is set. -/
  | lawWcetExceed (n : Fin 256) (cycles : Nat)
  /-- ARM_CTRL_EN (R207). A write of ARM_CTRL.EN enables an arm for planning, or disables it and flushes its queue. -/
  | armCtrlEn (a : Fin 8) (on : Bool)
  /-- ARM_PAUSE (R225). ARM_CTRL.PAUSE moves a moving arm to PAUSING. -/
  | armPause (a : Fin 8)
  /-- ARM_RESUME (R225). ARM_CTRL.RESUME moves a paused or safe-stopped arm back to MOVING. -/
  | armResume (a : Fin 8)
  /-- ARM_ABORT (R225). ARM_CTRL.ABORT moves the arm to STOPPING. -/
  | armAbort (a : Fin 8)
  /-- ARM_CLR (R225). ARM_CTRL.CLR clears FAULT or is refused. -/
  | armClr (a : Fin 8)
  /-- PLANNING_TICK (R217). At a tick boundary Kiln starts the context 0 problem and held solutions are published. -/
  | planningTick
  /-- PLANNER_RUN (R217). The planner task takes accepted records, builds paths and posts the next problem to Kiln. -/
  | plannerRun
  /-- TIMED_MOVE_START (R216). A timed move starts at START, or late when not possible. -/
  | timedMoveStart (a : Fin 8)
  /-- INTERPOLATOR_RUN (R222). An interpolator computes the speed scale and writes set-points for each joint. -/
  | interpolatorRun (a : Fin 8)
  /-- PLANNER_KILN_STOP (R221). MISS_LIM consecutive reused solutions pause every arm and set KILN_STOP. -/
  | plannerKilnStop
  /-- STP_EN (R229). A write of STP_CTRL.EN enables or disables a step axis, or is refused. -/
  | stpEn (i : Fin 16) (on : Bool)
  /-- STP_PIN_ARM (R250). A write of STP_CTRL.PIN_ARM drives or releases STP and DIR, refused before release. -/
  | stpPinArm (i : Fin 16) (on : Bool)
  /-- STP_STOP (R237). STP_CTRL.STOP decelerates to rest and flushes the queue. -/
  | stpStop (i : Fin 16)
  /-- STP_ABORT (R237). STP_CTRL.ABORT stops at once and flushes the queue. -/
  | stpAbort (i : Fin 16)
  /-- STP_CLR (R237). STP_CTRL.CLR leaves HALTED when no cause is active. -/
  | stpClr (i : Fin 16)
  /-- STEP_MOVE_PUSH (R230). STP_MV_CMD.PUSH queues a move, or is ignored when the queue is full. -/
  | stepMovePush (i : Fin 16) (v : Word)
  /-- STEP_PRESET (R230). A write of STP_SET_HI loads the axis position in IDLE. -/
  | stepPreset (i : Fin 16) (hi : BitVec 16)
  /-- STEP_ACC_WRITE (R233). A write of STP_ACC changes the acceleration for the next step interval. -/
  | stepAccWrite (i : Fin 16) (v : Word)
  /-- STEP_CFG_WRITE (R229). A write to STP_CFG, STP_TIMING or the microstep table applies only while disabled. -/
  | stepCfgWrite (i : Fin 16) (r : StpCfg) (v : Word)
  /-- STEP_DUE (R231). A step pulse is emitted and the next interval is computed. -/
  | stepDue (i : Fin 16)
  /-- STEP_PULSE_END (R238). A step pulse ends after PW port cycles and a pending direction change is made. -/
  | stepPulseEnd (i : Fin 16)
  /-- STEP_DSETUP_EXPIRY (R234). The direction setup time ends and the axis starts from rest. -/
  | stepDsetupExpiry (i : Fin 16)
  /-- STEP_GROUP_START (R236). A group starts when every member holds a GRP move at its queue head. -/
  | stepGroupStart (g : Fin 8)
  /-- STEPPER_DRIVE_RUN (R241). A stepper drive computes coil commands and posts words to both shadow banks. -/
  | stepperDriveRun (i : Fin 16)
  /-- STEP_HOLD_CURRENT (R243). After STP_HOLD_DLY at standstill the drive lowers to hold current. -/
  | stepHoldCurrent (i : Fin 16)
  /-- KILN_REQUEST (R252). A Kiln request is accepted into its context, replacing a queued one, or refused. The task of the request; its descriptor names the context and the buffers. -/
  | kilnRequest (n : Fin 4096)
  /-- KILN_SOLVE_START (R270). An idle instance starts a waiting request whose bound fits before the next tick. -/
  | kilnSolveStart (k : Fin 2)
  /-- KILN_SOLVE_DONE (R271). A solve ends and its valid or reused result is written and published. -/
  | kilnSolveDone (k : Fin 2)
  /-- KILN_DEADLINE (R268). A solve's deadline passes; it is stopped and a shifted previous solution is published. -/
  | kilnDeadline (k : Fin 2) (c : Fin 16)
  /-- KILN_EN_WRITE (R271). A write of KN_CTRL.EN enables Kiln or abandons every request. -/
  | kilnEnWrite (k : Fin 2) (on : Bool)
  /-- KILN_FLUSH (R265). KN_CTRL.FLUSH discards the warm starts of all contexts. -/
  | kilnFlush (k : Fin 2)
  /-- STK_CREATE (R336). STK_DESC_CMD create is accepted or refused. -/
  | stkCreate (n : Fin 4096)
  /-- STK_DELETE (R335). STK_DESC_CMD delete frees a dormant task. -/
  | stkDelete (n : Fin 4096)
  /-- STK_READ_DESC (R362). STK_DESC_CMD read copies a descriptor into the stage. -/
  | stkReadDesc (n : Fin 4096)
  /-- STK_ENABLE (R336). STK_DESC_CMD enable places and enables a task, or fails placement. -/
  | stkEnable (n : Fin 4096)
  /-- STK_DISABLE (R339). STK_DESC_CMD disable makes a task DORMANT. -/
  | stkDisable (n : Fin 4096)
  /-- BUF_CREATE (R337). STK_BUF_CMD create defines a buffer handle. -/
  | bufCreate (h : Fin 8192)
  /-- BUF_DELETE (R337). STK_BUF_CMD delete removes a buffer handle. -/
  | bufDelete (h : Fin 8192)
  /-- BUF_READ (R337). STK_BUF_CMD read copies a buffer descriptor into the stage. -/
  | bufRead (h : Fin 8192)
  /-- STK_RELEASE (R344). A write of STK_RELEASE releases a task at once or onto a delay list, or is held. -/
  | stkRelease (who : Who) (v : Word)
  /-- DELAY_LIST_EXPIRY (R344). At a tick boundary expired delay-list entries move to READY. -/
  | delayListExpiry (k : Fin 4)
  /-- STK_CANCEL (R350). A write of STK_CANCEL withdraws a pending release or sends an invalidation. -/
  | stkCancel (who : Who) (n : Fin 4096)
  /-- SLOT_INVALIDATE (R350). An invalidation reaches the tile and prevents the slotted task from starting, if before its commit point. -/
  | slotInvalidate (n : Fin 4096)
  /-- HELD_RELEASE_ACCEPT (R343). A held release is accepted when its queue falls below its limit. -/
  | heldReleaseAccept
  /-- SLOT_FILL (R342). Stack selects a READY task that fits and fills a free prefetch slot. -/
  | slotFill (t : Fin 16)
  /-- TASK_RELEASE_START (R349). A slotted task starts on an idle tile, or when its sample block is in memory. -/
  | taskReleaseStart (t : Fin 16)
  /-- BUDGET_STOP (R347). A queued task reaching its WCET on a loaded tile is stopped. -/
  | budgetStop (t : Fin 16)
  /-- TASK_DEADLINE_MISS (R348). A queued task passes its deadline, is counted and keeps running. -/
  | taskDeadlineMiss (n : Fin 4096)
  /-- TASK_END_REPORT (R352). The end of a task reaches Stack and releases its group successor. -/
  | taskEndReport (t : Fin 16)
  /-- UNTIMED_RUN_END (R353). Both copies of an untimed task have ended; skew is judged. The Ember cycles between the ends of the two copies. -/
  | untimedRunEnd (n : Fin 4096) (skew : Nat)
  /-- TASK_FAULT_REPORT (R359). Stack records a tile fault reported by both planes, or passes a one-plane fault on. -/
  | taskFaultReport (t : Fin 16)
  /-- TASK_COPY_DONE (R356). The copy of a moving task completes and the task switches at the next boundary. -/
  | taskCopyDone (n : Fin 4096)
  /-- TIER_MEASUREMENT (R357). A measurement interval ends and buffer tiers are re-chosen. The accesses that each buffer named has had in the interval that ends. -/
  | tierMeasurement (acc : List (Fin 8192 × Nat))
  /-- BUFFER_COPY_DONE (R358). A buffer copy completes and its handle switches at the next boundary. -/
  | bufferCopyDone (h : Fin 8192)
  /-- STK_REBALANCE (R355). STK_CTRL.REBAL requests a full rebalance. -/
  | stkRebalance
  /-- IC_FILTER_CHANGE (R367). A source's filtered level changes after FLT + 1 samples. The new level is first sampled at t and stands for samples samples. -/
  | icFilterChange (n : Fin 512) (level : Bool) (t : Time) (samples : Nat)
  /-- IC_DELIVERY (R368). Arbitration delivers the lowest pending source to a ready target and claims it. -/
  | icDelivery (t : Fin 64)
  /-- IC_CLAIM_READ (R369). A read of IC_CLAIM by Hearth or the host takes up the claim. -/
  | icClaimRead (t : Fin 64)
  /-- IC_COMPLETE (R371). A write of IC_COMPLETE completes a claim and re-evaluates the source. -/
  | icComplete (who : Who) (v : Word)
  /-- IC_HOLDOFF_EXPIRY (R374). A group hold-off timer runs out and its sources may be delivered. -/
  | icHoldoffExpiry (g : Fin 16)
  /-- IC_REDIRECT (R377). A redirect timer reaches REDIR and the occurrence is delivered to Hearth. -/
  | icRedirect (n : Fin 512)
  /-- IC_SW_SET (R365). A write of IC_SW_SET sets software sources. -/
  | icSwSet (who : Who) (k : Fin 2) (v : Word)
  /-- IC_SW_CLR (R365). A write of IC_SW_CLR clears software sources. `same` holds the bits that a set in the very cycle of the clear sets. -/
  | icSwClr (who : Who) (k : Fin 2) (v : Word) (same : Word)
  /-- IC_SRC_CFG_WRITE (R383). A write of IC_SRC_CFG applies its fields, refusing EDGE, GROUP and FLT while enabled. -/
  | icSrcCfgWrite (n : Fin 512) (v : Word)
  /-- CMP_IRQ_LEVEL_END (R624). The compare-hit level of source 224 + n ends after FLT + 1 port cycles. -/
  | cmpIrqLevelEnd (n : Fin 64)
  /-- IC_PLANE_FINDING (R378). The standby plane's take-up or completion differs or is 64 cycles late. -/
  | icPlaneFinding (t : Fin 16)
  /-- SEPARATION_CAPTURE (R393). Each channel takes its snapshot at the capture instant and judges Signet watchdogs and resets. -/
  | separationCapture
  /-- CHANNEL_RESULT_POSTED (R395). A channel completes its computation and posts its result. True: channel 1. -/
  | channelResultPosted (one : Bool)
  /-- CHANNEL_RESULT_ARRIVAL (R397). A channel's result arrives at the other channel and is held. The result of that channel arrives at the other. -/
  | channelResultArrival (one : Bool)
  /-- EXCHANGE_WINDOW_END (R397). A channel's exchange window ends and it cross-compares and decides. The window of that channel; the cycles of channel 2 that channel 1 has counted in the separation cycle. -/
  | exchangeWindowEnd (one : Bool) (cycles : Nat)
  /-- SEPARATION_COMMIT (R394). At the commit instant outputs switch, arm states change and values are published. -/
  | separationCommit
  /-- SAFE_INPUT_CHANGE (R414). A safe input line's filter output changes after its filter time. The line of a channel, first sampled at its new level at t, which it holds for that many us. -/
  | safeInputChange (k : Fin 16) (one : Bool) (level : Bool) (t : Nat) (held : Nat)
  /-- SAFE_INPUT_DISCREPANCY (R415). The two lines disagree past the discrepancy time and the input faults. -/
  | safeInputDiscrepancy (k : Fin 16) (t : Nat)
  /-- TEST_PULSE_START (R416). A test-pulse source starts a low pulse. -/
  | testPulseStart (n : Fin 4)
  /-- TEST_PULSE_END (R416). A test pulse ends and its lines are judged. The low stretches of the lines are those that SAFE_INPUT_CHANGE has brought. -/
  | testPulseEnd (n : Fin 4)
  /-- SAFE_OUTPUT_READBACK_FAULT (R419). A readback does not follow its pin within FB_DLY. -/
  | safeOutputReadbackFault (k : Fin 12) (one : Bool)
  /-- OUTPUT_TEST_START (R420). A channel starts an off-pulse test of an energised output. -/
  | outputTestStart (k : Fin 12) (one : Bool)
  /-- OUTPUT_TEST_END (R420). An off-pulse test ends and passes or faults. The instants at which the readback went low and high again. -/
  | outputTestEnd (k : Fin 12) (one : Bool) (low high : Option Nat)
  /-- BRAKE_DELAY_EXPIRY (R423). A brake output is de-energised BRK_DLY after an arm enters STO. -/
  | brakeDelayExpiry (k : Fin 12)
  /-- SI_REQ_STO (R412). SI_REQ OP STO requests STO for the arms. -/
  | siReqSto (arms : BitVec 8)
  /-- SI_REQ_SS1 (R412). SI_REQ OP SS1 requests SS1 for the arms. -/
  | siReqSs1 (arms : BitVec 8)
  /-- SI_REQ_SS2 (R412). SI_REQ OP SS2 requests SS2 for the arms. -/
  | siReqSs2 (arms : BitVec 8)
  /-- SI_REQ_RELEASE (R412). SI_REQ OP release requests release from SOS or STO. -/
  | siReqRelease (arms : BitVec 8)
  /-- SI_TOKEN (R424). A write of SI_TOKEN submits a release token with nonce and ACT. -/
  | siToken (v : Word)
  /-- SACK_CHANGE (R425). A filtered acknowledge line rises or falls. The line takes its new level at t and holds it for that many us. -/
  | sackChange (one : Bool) (level : Bool) (t : Nat) (held : Nat)
  /-- SACK_HOLD_TIMEOUT (R426). An acknowledge line held high over 3 s is ignored until low for 1 s. -/
  | sackHoldTimeout (one : Bool) (t : Nat)
  /-- TOKEN_EXPIRY (R426). A token is discarded 5 s after its capture. -/
  | tokenExpiry (t : Nat)
  /-- PSET_CRC_SWEEP (R391). Each channel recomputes its section CRCs once per second. ok: the recomputed section check values of that channel's working copy match. -/
  | psetCrcSweep (one : Bool) (ok : Bool)
  /-- SIGNET_TELEGRAM_RX (R443). Each channel judges a copied telegram by match, format, check, time and sequence. The instant at which the check of the oldest copied telegram completes. -/
  | signetTelegramRx (t : Nat)
  /-- SIGNET_WATCHDOG_EXPIRY (R445). A connection's watchdog has run out at a capture instant. -/
  | signetWatchdogExpiry (c : Fin 64)
  /-- SIGNET_DEGRADED_EXPIRY (R447). A DEGRADED connection reaches DEG_WIN and enters FAULT. -/
  | signetDegradedExpiry (c : Fin 64)
  /-- CHAIN_EN_WRITE (R473). A write of CH_CTRL.EN starts the node in LISTEN or stops it, or is refused. The word written to CH_CTRL. -/
  | chainEnWrite (v : Word)
  /-- CHAIN_SCHEDULE_WRITE (R459). A write into schedule memory applies only while the node is disabled. -/
  | chainScheduleWrite (o : Nat) (bytes : List Byte)
  /-- CHAIN_CYCLE_START (R457). A Chain cycle starts; steps apply, state checks and layout changes take place. -/
  | chainCycleStart
  /-- CHAIN_BUILD_POINT (R463). A frame's content is taken 4 us before its launch. Slot k + 1. -/
  | chainBuildPoint (k : Fin 64)
  /-- CHAIN_FRAME_LAUNCH (R458). The node sends its frame at the launch instant of its slot. Slot k + 1. -/
  | chainFrameLaunch (k : Fin 64)
  /-- CHAIN_FRAME_RX (R464). A received frame is validated and its streams, telegrams and sync data are taken. Channel B when b; the start at device time t. -/
  | chainFrameRx (b : Bool) (x : ChainRx) (t : Nat)
  /-- CHAIN_RATE_REQUEST (R467). The node requests its rate correction from the median deviation in the settle interval. -/
  | chainRateRequest
  /-- CLASP_LINK_DELAY_REQUEST (R469). The Clasp sends link-delay requests at the start of the settle interval. -/
  | claspLinkDelayRequest (x : Fin 2)
  /-- LINK_DELAY_ANSWER (R469). A node answers a link-delay request 2 us after its ingress. Channel B when b. -/
  | linkDelayAnswer (b : Bool)
  /-- CHAIN_LISTEN_TIMEOUT (R473). LISTEN_NS passes with no valid frame and the node enters COLDSTART. -/
  | chainListenTimeout
  /-- CHAIN_COLDSTART_CLAIM (R475). A cold-starting node sends its claim frame. -/
  | chainColdstartClaim
  /-- CHAIN_BACKOFF_EXPIRY (R476). The cold-start back-off runs out. -/
  | chainBackoffExpiry
  /-- CHAIN_SOURCE_LOST (R470). Eight cycles without a locked gateway frame make the Chain source lost. -/
  | chainSourceLost
  /-- CHAIN_LINK_CHANGE (R465). A node lane link goes down or up. One of the 16 SerDes lanes. -/
  | chainLinkChange (lane : Fin 16) (up : Bool)
  /-- CLASP_FRAME_ARRIVAL (R478). A frame starts at a Clasp port and is forwarded, blocked or cut. -/
  | claspFrameArrival (x : Fin 2) (p : Fin 8) (f : ClaspRx) (t : Nat)
  /-- CLASP_TIE_WINDOW (R477). The 10 ns tie window closes and the lowest port's frame is forwarded. -/
  | claspTieWindow (x : Fin 2)
  /-- CLASP_ARBITRATE_RETURN (R477). The Clasp returns to ARBITRATE after its node's listen timeout. -/
  | claspArbitrateReturn (x : Fin 2)
  /-- PLANE_COMPARISON (R488). The comparison of a period completes and mismatches are counted. -/
  | planeComparison
  /-- PLANE_SELF_FAULT (R493). A plane finds a fault in itself and gives up control. words: the addresses in the tile of an uncorrectable error. The finding reaches plane control at device time t; other: a fault that the other plane finds in the same fabric cycle. -/
  | planeSelfFault (pl : Fin 2) (k : PlaneFault) (tile : Option (Fin 16)) (words : List Nat) (other : Option PlaneFault) (t : Nat)
  /-- PLANE_GIVEUP_AT_PORT (R494). A give-up crosses into a joint port and applies by the table of R494. -/
  | planeGiveupAtPort (n : Fin 64)
  /-- PC_RETURN (R497). PC_CTRL.RETURN moves a plane from DOWN to TEST. -/
  | pcReturn (pl : Fin 2)
  /-- PC_HANDOVER (R498). PC_CTRL.HANDOVER requests a planned handover to the STANDBY plane. -/
  | pcHandover
  /-- PC_TAKE_DOWN (R497). PC_CTRL.TAKE_DOWN moves a non-active plane to DOWN. -/
  | pcTakeDown (pl : Fin 2)
  /-- PC_EXT_TEST (R502). PC_CTRL.EXT_TEST starts an extended test. -/
  | pcExtTest
  /-- PLANE_TEST_DONE (R497). A plane's TEST completes and it passes or fails. The fault found, or none when it passed. -/
  | planeTestDone (pl : Fin 2) (k : Option PlaneFault) (tile : Option (Fin 16))
  /-- TRANSFER_SWEEP_DONE (R500). The sweep of a returning plane completes. -/
  | transferSweepDone (pl : Fin 2)
  /-- TRANSFER_TIMEOUT (R500). A sweep not complete within 10 s is a transfer fault. -/
  | transferTimeout (pl : Fin 2)
  /-- PLANE_CONFIRMED (R497). A SHADOW plane reaches PC_CONFIRM matched periods. -/
  | planeConfirmed
  /-- EXT_TEST_DONE (R502). An extended test completes with a fault or UNRESOLVED. What the test found in Plane A and in Plane B. -/
  | extTestDone (a b : Option PlaneFault)
  /-- LBIST_SLICE (R491). A BIST task runs one slice of logic BIST on a tile. -/
  | lbistSlice (t : Fin 16)
  /-- LBIST_STARVED (R491). A tile misses its logic BIST pass interval. -/
  | lbistStarved (pl : Fin 2) (t : Fin 16)
  /-- MB_COMMAND_WRITE (R514). A host write to a slot's command area, ignored when the slot is not EMPTY. Offset in the slot. -/
  | mbCommandWrite (k : Fin 16) (o : Nat) (bytes : List Byte)
  /-- MB_POST (R514). A write of HM_DB_POST posts slots, refusing non-empty ones. -/
  | mbPost (v : BitVec 16)
  /-- MB_FREE (R512). A write of HM_DB_FREE empties finished slots. -/
  | mbFree (v : BitVec 16)
  /-- MB_TAKE (R515). Zynura takes a posted slot and checks its header. -/
  | mbTake
  /-- MB_DONE (R512). The result is written in full and the slot enters DONE. -/
  | mbDone (k : Fin 16)
  /-- MB_STAT_READ (R513). The first read of MB_STAT in DONE moves the slot to DONE-READ. -/
  | mbStatRead (k : Fin 16)
  /-- HEARTH_RESTART (R517). Hearth restarts and busy slots enter ERROR. -/
  | hearthRestart
  /-- HEARTH_UP (R517). Zynura has restarted and HEARTH_UP reads 1. -/
  | hearthUp
  /-- HM_EVT_HEAD_READ (R520). A read of HM_EVT_HEAD removes the oldest event entry and latches its words. -/
  | hmEvtHeadRead
  /-- WINDOW_T_WRITE (R510). A write to Window T is discarded and sets T_WRITE. -/
  | windowTWrite (o : Nat) (v : Word)
  /-- PCIE_RESET (R508). A link-down, hot reset, FLR or PE_PERST_N resets the PCIe function only. Whether the link is up afterwards. -/
  | pcieReset (up : Bool)
  /-- MOVE_PUSH (R521). Command 0x0301 offers move records to an arm's queue. -/
  | movePush (k : Fin 16)
  /-- ARM_CMD (R521). Command 0x0302 pauses, resumes, aborts or clears an arm. -/
  | armCmd (k : Fin 16)
  /-- ARM_ENABLE (R521). Command 0x0303 sets an arm's EN and synchronisation group. -/
  | armEnable (k : Fin 16)
  /-- ARM_STATUS (R521). Command 0x0304 returns an arm's status. -/
  | armStatus (k : Fin 16)
  /-- ARM_OVERRIDE (R521). Command 0x0305 writes ARM_OVR. -/
  | armOverride (k : Fin 16)
  /-- STEP_MOVE (R521). Command 0x0310 pushes a step-axis move. -/
  | stepMove (k : Fin 16)
  /-- STEP_CMD (R521). Command 0x0311 stops, aborts or clears a step axis. -/
  | stepCmd (k : Fin 16)
  /-- TORQUE_REF (R521). Command 0x0320 writes and commits a direct current reference. -/
  | torqueRef (k : Fin 16)
  /-- SAFE_REQ (R522). Command 0x0401 writes SI_REQ. -/
  | safeReq (k : Fin 16)
  /-- SAFE_TOKEN (R522). Command 0x0402 writes SI_TOKEN. -/
  | safeToken (k : Fin 16)
  /-- SAFE_STATUS (R522). Command 0x0403 returns the safety island status. -/
  | safeStatus (k : Fin 16)
  /-- PSET_STAGE (R522). Command 0x0404 stages a chunk of a safety parameter set, verifying it when complete. -/
  | psetStage (k : Fin 16)
  /-- PSET_INFO (R522). Command 0x0405 returns active and staged set identities. -/
  | psetInfo (k : Fin 16)
  /-- TIME_GET (R523). Command 0x0501 returns the present cell time. -/
  | timeGet (k : Fin 16)
  /-- TIME_SET (R523). Command 0x0502 sets cell time once while UNSET with source none. -/
  | timeSet (k : Fin 16)
  /-- TIME_SOURCE (R523). Command 0x0503 writes TB_CTRL. -/
  | timeSource (k : Fin 16)
  /-- TIME_RESTART (R62). Command 0x0504 restarts the time service for a further step, or is refused. -/
  | timeRestart (k : Fin 16)
  /-- TIME_RATE (R523). Command 0x0505 writes TB_RATE. -/
  | timeRate (k : Fin 16)
  /-- PORT_COMP (R523). Command 0x0506 writes a port's timestamp compensation. -/
  | portComp (k : Fin 16)
  /-- PULSE_SCHED (R523). Command 0x0510 programs, arms and commits a pulse output. -/
  | pulseSched (k : Fin 16)
  /-- CAPTURE_CFG (R523). Command 0x0511 writes TCAP_CTRL. -/
  | captureCfg (k : Fin 16)
  /-- CAPTURE_READ (R523). Command 0x0512 reads and removes capture entries. -/
  | captureRead (k : Fin 16)
  /-- LKT_READ (R524). Command 0x0601 returns Locket records from an index. -/
  | lktRead (k : Fin 16)
  /-- LKT_INFO (R524). Command 0x0602 returns Locket indices and counts. -/
  | lktInfo (k : Fin 16)
  /-- LKT_FLUSH (R524). Command 0x0603 flushes Locket and returns when done. -/
  | lktFlush (k : Fin 16)
  /-- LKT_FILTER (R524). Command 0x0604 sets an event-stream filter. -/
  | lktFilter (k : Fin 16)
  /-- LKT_MARK (R524). Command 0x0605 posts a host-mark record. -/
  | lktMark (k : Fin 16)
  /-- UPD_BEGIN (R525). Command 0x0701 opens an update of a component. -/
  | updBegin (k : Fin 16)
  /-- UPD_DATA (R525). Command 0x0702 writes an image chunk into the LOADED slot. -/
  | updData (k : Fin 16)
  /-- UPD_VERIFY (R568). Command 0x0703 verifies the loaded image. -/
  | updVerify (k : Fin 16)
  /-- UPD_ACTIVATE (R573). Command 0x0704 activates the verified image under its component's condition. -/
  | updActivate (k : Fin 16)
  /-- UPD_STATUS (R525). Command 0x0705 returns the update phase. -/
  | updStatus (k : Fin 16)
  /-- UPD_ABORT (R525). Command 0x0706 abandons an update before activation. -/
  | updAbort (k : Fin 16)
  /-- UPD_PROVING_DONE (R573). The proving run completes and the image is confirmed. -/
  | updProvingDone
  /-- UPD_FAILURE (R573). A proving-run failure or the end of the health window makes the update fall back. The window has ended before the proving run completed, or the run has failed. -/
  | updFailure (window : Bool)
  /-- SAFETY_CHANNEL_RESTART_DONE (R576). An updated safety channel finishes restarting and both load the active set. -/
  | safetyChannelRestartDone
  /-- IDENTITY_CMD (R526). An identity-group command returns DEV_IDENT, HM_ZVER or the Aelilan record. DEV_IDENT and HM_ZVER, or the Aelilan identity record. -/
  | identityCmd (k : Fin 16) (aelilan : Bool)
  /-- ATTESTATION_REPORT (R566). An identity-group request with a nonce returns a signed attestation report. -/
  | attestationReport (k : Fin 16) (nonce : List Byte)
  /-- CONFIG_WRITE_CMD (R526). A configuration-group command writes a register block. -/
  | configWriteCmd (k : Fin 16) (ws : List (Reg × Word))
  /-- CONFIG_READ_CMD (R526). A configuration-group command reads a register block. -/
  | configReadCmd (k : Fin 16) (rs : List Reg)
  /-- SET_INFO (R556). Command 0x0220 returns OTP_STAT. -/
  | setInfo (k : Fin 16)
  /-- SET_READ (R556). Command 0x0221 returns a settings generation. -/
  | setRead (k : Fin 16)
  /-- SET_WRITE (R556). Command 0x0222 programs the next settings generation. A word that fails its read-back, with the bits that took. -/
  | setWrite (k : Fin 16) (bad : Option (Fin 448 × Word))
  /-- KEY_PROGRAM (R559). Command 0x0223 programs a customer key hash. The public key, 64 bytes. -/
  | keyProgram (k : Fin 16) (slot : Fin 4) (key : List Byte)
  /-- KEY_REVOKE (R559). Command 0x0224 revokes a key slot and returns a receipt. -/
  | keyRevoke (k : Fin 16) (vendor : Bool) (slot signer : Fin 4) (sig : List Byte)
  /-- SEAL (R557). Command 0x0225 sets seal bits. -/
  | seal (k : Fin 16)
  /-- PLACEMENT_TASK_CMD (R526). A placement-group command performs a task operation of R335. op as STK_DESC_CMD.OP; d is the descriptor of a create. -/
  | placementTaskCmd (k : Fin 16) (n : Fin 4096) (op : Fin 6) (d : List Word)
  /-- PLACEMENT_BUFFER_CMD (R526). A placement-group command performs a buffer operation of R337. op as STK_BUF_CMD.OP. -/
  | placementBufferCmd (k : Fin 16) (h : Fin 8192) (op : Fin 4) (d : List Word)
  /-- PLACEMENT_REBAL_CMD (R526). A placement-group command requests a rebalance or sets freeze. -/
  | placementRebalCmd (k : Fin 16) (rebal : Bool) (freeze : Bool)
  /-- REG_READ_CMD (R526). A register-access command reads a fabric address, refused once sealed. -/
  | regReadCmd (k : Fin 16) (a : A40)
  /-- REG_WRITE_CMD (R526). A register-access command writes a fabric address, refused once sealed. -/
  | regWriteCmd (k : Fin 16) (a : A40) (v : Word)
  /-- CHAIN_SCHEDULE_CMD (R526). A Chain-group command loads a schedule into schedule memory. -/
  | chainScheduleCmd (k : Fin 16) (o : Nat) (bytes : List Byte)
  /-- CHAIN_CTRL_CMD (R526). A Chain-group command writes CH_CTRL. -/
  | chainCtrlCmd (k : Fin 16) (v : Word)
  /-- CLASP_MAP_CMD (R526). A Chain-group command writes the Clasp map. -/
  | claspMapCmd (k : Fin 16) (x : Fin 2) (v : Word)
  /-- KILN_POST_CMD (R526). A Kiln-group command posts a request as a Stack task. The Stack task of the request. -/
  | kilnPostCmd (k : Fin 16) (n : Fin 4096)
  /-- KILN_RESULT_CMD (R526). A Kiln-group command reads a result under R274. n bytes from offset o of the published result of context c. -/
  | kilnResultCmd (k : Fin 16) (c : Fin 16) (o : Nat) (n : Nat)
  /-- QSPI_READ (R529). A quad-SPI read instruction reads 16-bit words of the HCI-1 space. -/
  | qspiRead (w : BitVec 16) (n : Nat)
  /-- QSPI_WRITE (R529). A quad-SPI write instruction writes 16-bit words of the HCI-1 space. -/
  | qspiWrite (w : BitVec 16) (ws : List (BitVec 16))
  /-- HCI1_POST (R530). Writing 0x0001 to the HCI-1 doorbell posts slot 15. -/
  | hci1Post
  /-- HCI1_FREE (R530). Writing 0x0002 to the HCI-1 doorbell frees slot 15. -/
  | hci1Free
  /-- HCI1_IDENTITY (R531). MX-16 opcode 0x01 returns the identity. -/
  | hci1Identity
  /-- HCI1_ABS_MOVE (R531). MX-16 opcode 0x10 pushes an absolute move. -/
  | hci1AbsMove
  /-- HCI1_REL_MOVE (R531). MX-16 opcode 0x11 pushes a relative move. -/
  | hci1RelMove
  /-- HCI1_STOP (R531). MX-16 opcode 0x12 aborts the arm. -/
  | hci1Stop
  /-- HCI1_STATUS (R531). MX-16 opcode 0x13 returns arm status. -/
  | hci1Status
  /-- HCI1_READ_TIME (R531). MX-16 opcode 0x20 returns the cell time. -/
  | hci1ReadTime
  /-- LOCKET_POST (R534). A block posts a record, which Locket accepts, merges or discards. The block supplies the cell time of its event, in 1/256 ns. -/
  | locketPost (type : Nat) (sev : Fin 4) (addr : Word) (payload : List Byte) (cell : Nat)
  /-- LOCKET_FLUSH (R538). A flush starts copying unflushed records to the MRAM ring. An index given fails its read-back twice. -/
  | locketFlush (bad : Option Nat)
  /-- LOCKET_FLUSH_DONE (R538). A flush completes after writing records and a header copy. -/
  | locketFlushDone
  /-- LOCKET_PERIOD_EXPIRY (R538). LK_CFG.PERIOD passes since the last flush with records unflushed. -/
  | locketPeriodExpiry
  /-- LK_FLUSH_WRITE (R547). LK_CTRL.FLUSH starts a flush. -/
  | lkFlushWrite
  /-- LK_INDEX_LO_READ (R546). A read of LK_NEXT_LO, LK_OLDEST_LO or LK_OPTIME_LO latches the HI half. -/
  | lkIndexLoRead (which : LkIndex)
  /-- PF_FLUSH_DONE (R541). The power-fail flush completes and PF_DONE is set. -/
  | pfFlushDone
  /-- MIRROR_WRITE (R587). Zynura writes the MRAM mirror of the keep-alive values once per second. -/
  | mirrorWrite
  /-- KEEPALIVE_TICK (R586). The keep-alive domain advances the operating time and samples RST_N. The sample of RST_N, and whether VDD_CORE is in range while a supply is not. -/
  | keepaliveTick (high : Bool) (core : Bool)
  /-- BOOT (R560). After a reset the device runs the boot ledger from Kindling to plane TEST. -/
  | boot
  /-- IMAGE_VERIFIED (R570). The hardware verifier completes the check of an image. -/
  | imageVerified
  /-- OTP_PROGRAM (R550). OTP_CMD.PROG programs one OTP word, or is refused. -/
  | otpProgram (who : Who)
  /-- OTP_PROGRAM_DONE (R550). An OTP word is programmed and read back. The bits of the word that the programming has set. -/
  | otpProgramDone (took : Word)
  /-- PIN_REL_TIME (R601). Setting PIN_REL.TIME releases the pulse outputs, or is refused. -/
  | pinRelTime
  /-- PIN_REL_SDCLK (R601). Setting PIN_REL.SDCLK releases the modulator clocks, or is refused. -/
  | pinRelSdclk
  /-- PIN_REL_FBO (R601). Setting PIN_REL.FBO releases the pass-through outputs, or is refused. -/
  | pinRelFbo
  /-- PIN_REL_STEP (R601). Setting PIN_REL.STEP releases the step outputs, or is refused. -/
  | pinRelStep
  /-- PIN_REL_GATE (R601). Setting PIN_REL.GATE releases the gate outputs, or is refused. -/
  | pinRelGate
  /-- POR (R588). Every supply in range for 66 keep-alive cycles ends power-on reset. The end of POR; whether the keep-alive domain kept its content; whether it runs from VDD_KA; whether PFAIL_N is low. -/
  | por (t : Nat) (kaKept vddKa pfail : Bool)
  /-- BROWNOUT (R589). A supply leaves its range and every output goes high-impedance. -/
  | brownout (t : Nat)
  /-- RST_N_LOW (R592). RST_N is recognised low and the device enters reset. -/
  | rstNLow
  /-- RST_N_HIGH (R593). RST_N is recognised high and the device boots, recording the held time. -/
  | rstNHigh
  /-- RESET_STUCK (R594). A low held for MAX_HOLD ends the reset and RST_N is ignored. -/
  | resetStuck
  /-- RST_N_REHONOUR (R594). RST_N high for 3,277 keep-alive cycles is honoured again. -/
  | rstNRehonour
  /-- PFAIL_ASSERT (R597). PFAIL_N asserts; arms are cleared, outputs released and the power-fail flush starts. The filtered assertion is registered. -/
  | pfailAssert (t : Nat)
  /-- PF_RESTART (R599). PFAIL_N high for 10 ms after PF_DONE restarts the device. PFAIL_N has been high for 10 ms after PF_DONE. -/
  | pfRestart (t : Nat)
  /-- SDF_STUCK_RUN_END (R135). A transition on a stuck modulator input ends its run, clearing the live flag STUCK_x and deactivating the filter's interrupt source. t is the clock edge of the bit that differs. -/
  | sdfStuckRunEnd (n : Fin 80) (inB : Bool) (t : Nat)
  /-- PTP_DELAY_REQ_TX (R65). A gateway slave port sends a delay request (or peer delay request) and timestamps its egress as t3. -/
  | ptpDelayReqTx (p : Fin 4) (peer : Bool)
  /-- CORE_SUPPLY_WINDOW_FAULT (R430). The core supply window monitor in channel 2 finds the supply outside its window and the island declares an island fault with cause CLOCK_SUPPLY. -/
  | coreSupplyWindowFault
  deriving DecidableEq, Repr

end Sys2Proof
end

