-- ==== Sys2Proof/Decode.lean ====
section
/-! DEFINITION. The words of an Ember tile's instructions: the base word and the extension word of the native set (09 R306 to
R331) and the words of MX-16 (R332), from the spec's tables of fields; and the commands that the table of operations spells by
bits: none, since no row gives bits (log 3). -/

namespace Sys2Proof

/-- The command that the word w of n bits spells. No row of the table of operations gives bits, so none is spelled (log 3). -/
def decodeTableWord (_nbits _w : Nat) : Option Instr := none

/-- The field of k bits at bit lo of a word (R306). -/
def field (w lo k : Nat) : Nat := w / 2 ^ lo % 2 ^ k

/-- The register or count that the field of k bits at bit lo numbers. -/
def numAt (k : Nat) (w lo : Nat) : Fin (2 ^ k) := ⟨field w lo k, Nat.mod_lt _ (Nat.two_pow_pos k)⟩

/-- The bits of the field of k bits at bit lo. -/
def bitsAt (k : Nat) (w lo : Nat) : BitVec k := BitVec.ofNat k (w / 2 ^ lo)

/-- One bit as a flag. -/
def bitAt (w lo : Nat) : Bool := field w lo 1 == 1

/-- An instruction under a condition on its fields; without it the encoding is illegal (R307). -/
def given {α : Type} (c : Bool) (r : α) : Option α := if c then some r else none

/-- Whether the fields named by their lowest bit and width are all zero: reserved and unused fields (R307, R315, R325). -/
def zeros (w : Nat) (fs : List (Nat × Nat)) : Bool := fs.all (fun f => field w f.1 f.2 == 0)

/-- The memory operand of the load and store class: the descriptor in [9:0] and, with X = 1, the offset in [23:0] of the extension
word (R308). -/
def memOperand (w : Nat) (x : Bool) (e : Nat) : Option EMem :=
  let p : Fin 8 := numAt 3 w 0
  let off : Option EOff :=
    if x then given (zeros w [(5, 5)] && zeros e [(24, 8)]) (.ext (bitsAt 24 e 0)) else some (.imm5 (bitsAt 5 w 5))
  match field w 3 2 with
  | 0 => given (!x && zeros w [(5, 5)]) (.plain p)
  | 1 => off.map (.offset p)
  | 2 => off.map (.postImm p)
  | _ => given (!x && zeros w [(5, 5)]) (.postMod p)

/-- A short descriptor of 7 bits at bit lo (R309). -/
def shortOperand (w lo : Nat) : Option EShort :=
  let p : Fin 4 := numAt 2 w lo
  match field w (lo + 2) 2 with
  | 0 => given (zeros w [(lo + 4, 3)]) (.plain p)
  | 1 => some (.offset p (bitsAt 3 w (lo + 4)))
  | 2 => some (.postImm p (bitsAt 3 w (lo + 4)))
  | _ => given (zeros w [(lo + 4, 3)]) (.postMod p)

/-- The pair of short descriptors in [13:0]: Y in [13:7], X in [6:0] (R309). -/
def twoOperands (w : Nat) (f : EShort → EShort → Instr) : Option Instr :=
  match shortOperand w 7, shortOperand w 0 with
  | some y, some x => some (f y x)
  | _, _ => none

/-- The immediate of the data and address arithmetic classes: [15:0], or [23:0] of the extension word with [15:0] zero (R322,
R331). -/
def immOperand (w : Nat) (x : Bool) (e : Nat) : Option EImm :=
  if x then given (zeros w [(0, 16)] && zeros e [(24, 8)]) (.long (bitsAt 24 e 0)) else some (.short (bitsAt 16 w 0))

/-- A shift count as an immediate: [15:5], or with X = 1 [23:5] of the extension, must be zero (R323; for the extension log 53). -/
def countOperand (w : Nat) (x : Bool) (e : Nat) : Option (Fin 32) :=
  if x then given (zeros w [(0, 16)] && zeros e [(5, 27)]) (numAt 5 e 0) else given (zeros w [(5, 11)]) (numAt 5 w 0)

/-- A register of a file and number of `mov` (R321). -/
def regOperand (file number : Nat) : Option EReg :=
  let n : Fin 16 := ⟨number % 16, Nat.mod_lt _ (by decide)⟩
  let k : Fin 8 := ⟨number % 8, Nat.mod_lt _ (by decide)⟩
  let low := decide (number % 16 < 8)
  match file with
  | 0 => some (.d n)
  | 1 => given low (.p k)
  | 2 => given low (.b k)
  | 3 => given low (.l k)
  | 4 => given low (.m k)
  | 5 => some (.ctl n)
  | _ => none

/-- The control class (R314). -/
def decodeControl (t : Fin 32) (w : Nat) : Option Instr :=
  match field w 20 5 with
  | 0 => given (zeros w [(0, 20)]) (.nop t)
  | 1 => given (zeros w [(0, 20)]) (.tend t)
  | 2 => given (zeros w [(0, 20)]) (.reti t)
  | 3 => given (zeros w [(12, 8)]) (.rptImm t (numAt 12 w 0))
  | 4 => given (zeros w [(0, 16)]) (.rptReg t (numAt 4 w 16))
  | 5 => given (zeros w [(0, 20)]) (.ei t)
  | 6 => given (zeros w [(0, 20)]) (.di t)
  | 7 => given (zeros w [(0, 20)]) (.clrst t)
  | 8 => given (zeros w [(2, 18)]) (.setrnd t (numAt 2 w 0))
  | _ => none

/-- The branch class (R315); a reserved condition is left to the meaning of `b` (R316). -/
def decodeBranch (t : Fin 32) (w : Nat) : Option Instr :=
  match field w 20 5 with
  | 0 => some (.bCc t (numAt 4 w 16) (bitsAt 16 w 0))
  | 1 => given (zeros w [(16, 4)]) (.call t (bitsAt 16 w 0))
  | 2 => given (zeros w [(0, 16), (19, 1)]) (.jmp t (numAt 3 w 16))
  | 3 => given (zeros w [(0, 16), (19, 1)]) (.callr t (numAt 3 w 16))
  | 4 => given (zeros w [(0, 20)]) (.ret t)
  | 5 => some (.dbnz t (numAt 4 w 16) (bitsAt 16 w 0))
  | 6 => given (zeros w [(16, 4)]) (.mxcall t (bitsAt 16 w 0))
  | _ => none

/-- The load and store class: the register field in [19:16], unused bits of it and [15:10] zero (R318). -/
def decodeMemory (t : Fin 32) (w : Nat) (x : Bool) (e : Nat) : Option Instr :=
  let d : Fin 16 := numAt 4 w 16
  let p : Fin 8 := numAt 3 w 16
  let a : Fin 4 := numAt 2 w 16
  let g : Fin 4 := numAt 2 w 18
  let lowA := zeros w [(18, 2)]
  let lowG := zeros w [(16, 2)]
  let lowP := zeros w [(19, 1)]
  match given (zeros w [(10, 6)]) (), memOperand w x e with
  | some _, some m =>
    match field w 20 5 with
    | 0 => some (.ld t d m)
    | 1 => some (.st t d m)
    | 2 => given lowA (.lddA t a m)
    | 3 => given lowA (.stdA t a m)
    | 4 => given lowG (.ldq t g m)
    | 5 => given lowG (.stq t g m)
    | 6 => given lowP (.lddP t p m)
    | 7 => given lowP (.stdP t p m)
    | 8 => given lowP (.lddB t p m)
    | 9 => given lowP (.stdB t p m)
    | 10 => given lowP (.ldL t p m)
    | 11 => given lowP (.stL t p m)
    | 12 => given lowP (.ldM t p m)
    | 13 => given lowP (.stM t p m)
    | 14 => given lowP (.lea t p m)
    | _ => none
  | _, _ => none

/-- The dual-load class (R319). -/
def decodeDual (t : Fin 32) (w : Nat) : Option Instr :=
  if field w 20 5 == 0 && zeros w [(14, 3)] then twoOperands w (fun y x => .ld2 t (numAt 3 w 17) x y) else none

/-- The immediate-load class: the operation and X together (R320). -/
def decodeImmLoad (t : Fin 32) (w : Nat) (x : Bool) (e : Nat) : Option Instr :=
  let p : Fin 8 := numAt 3 w 16
  let wide : BitVec 40 := BitVec.ofNat 40 (field w 0 8 * 2 ^ 32 + field e 0 32)
  match field w 20 5, x with
  | 0, false => some (.ldiD t (numAt 4 w 16) (.short (bitsAt 16 w 0)))
  | 0, true => given (zeros w [(0, 16)] && zeros e [(24, 8)]) (.ldiD t (numAt 4 w 16) (.long (bitsAt 24 e 0)))
  | 1, true => given (zeros w [(0, 16), (18, 2)] && zeros e [(24, 8)]) (.ldiA t (numAt 2 w 16) (bitsAt 24 e 0))
  | 2, true => given (zeros w [(8, 8), (19, 1)]) (.ldiP t p wide)
  | 3, true => given (zeros w [(8, 8), (19, 1)]) (.ldiB t p wide)
  | 4, true => given (zeros w [(0, 16), (19, 1)] && zeros e [(18, 14)]) (.ldiL t p (bitsAt 18 e 0))
  | 5, true => given (zeros w [(0, 16), (19, 1)] && zeros e [(24, 8)]) (.ldiM t p (bitsAt 24 e 0))
  | _, _ => none

/-- The register-move class (R321); a control register that a move may not name is left to the meaning of `mov`. -/
def decodeMove (t : Fin 32) (w : Nat) : Option Instr :=
  if field w 20 5 == 0 && zeros w [(0, 6)] then
    match regOperand (field w 13 3) (field w 16 4), regOperand (field w 6 3) (field w 9 4) with
    | some rd, some rs => some (.mov t rd rs)
    | _, _ => none
  else none

/-- The register form of data arithmetic: dd, ds, dt, and zero where an operation reads or writes no such register (R322; log 53). -/
def decodeData (t : Fin 32) (w : Nat) (sat : Bool) : Option Instr :=
  let dd : Fin 16 := numAt 4 w 16
  let ds : Fin 16 := numAt 4 w 12
  let dt : Fin 16 := numAt 4 w 8
  let low := zeros w [(0, 8)]
  let one := zeros w [(0, 12)]
  match field w 20 5 with
  | 0 => given low (.add t sat dd ds dt)
  | 1 => given low (.sub t sat dd ds dt)
  | 2 => given (low && zeros w [(16, 4)]) (.cmp t sat ds dt)
  | 3 => given one (.neg t sat dd ds)
  | 4 => given one (.abs t sat dd ds)
  | 5 => given low (.min t dd ds dt)
  | 6 => given low (.max t dd ds dt)
  | 7 => given low (.and t dd ds dt)
  | 8 => given low (.or t dd ds dt)
  | 9 => given low (.xor t dd ds dt)
  | 10 => given one (.not t dd ds)
  | 11 => given low (.asl t sat dd ds dt)
  | 12 => given low (.asr t dd ds dt)
  | 13 => given low (.lsr t dd ds dt)
  | 14 => given low (.addc t sat dd ds dt)
  | 15 => given low (.subc t sat dd ds dt)
  | _ => none

/-- The immediate form of data arithmetic: dd is also the first source; only the operations the table marks (R322, R323). -/
def decodeDataImm (t : Fin 32) (w : Nat) (x sat : Bool) (e : Nat) : Option Instr :=
  let dd : Fin 16 := numAt 4 w 16
  match field w 20 5 with
  | 0 => (immOperand w x e).map (.addi t sat dd)
  | 2 => (immOperand w x e).map (.cmpi t sat dd)
  | 7 => (immOperand w x e).map (.andi t dd)
  | 8 => (immOperand w x e).map (.ori t dd)
  | 9 => (immOperand w x e).map (.xori t dd)
  | 11 => (countOperand w x e).map (.asli t sat dd x)
  | 12 => (countOperand w x e).map (.asri t dd x)
  | 13 => (countOperand w x e).map (.lsri t dd x)
  | _ => none

/-- The accumulator class; fields that an operation does not use are zero, and a count of 56 to 63 is left to the meanings (R325). -/
def decodeAcc (t : Fin 32) (w : Nat) (sat : Bool) : Option Instr :=
  let ad : Fin 4 := numAt 2 w 18
  let as_ : Fin 4 := numAt 2 w 16
  let dn : Fin 16 := numAt 4 w 12
  let two := zeros w [(0, 16)]
  let shift := zeros w [(0, 6), (12, 4)]
  match field w 20 5 with
  | 0 => given two (.adda t sat ad as_)
  | 1 => given two (.suba t sat ad as_)
  | 2 => given two (.nega t sat ad as_)
  | 3 => given two (.absa t sat ad as_)
  | 4 => given (zeros w [(0, 2), (6, 14)]) (.clr t (bitsAt 4 w 2))
  | 5 => given (zeros w [(0, 12), (16, 2)]) (.mva t ad dn)
  | 6 => given (zeros w [(0, 12), (18, 2)]) (.mvr t sat dn as_)
  | 7 => given shift (.asla t sat ad as_ (numAt 6 w 6))
  | 8 => given shift (.asra t ad as_ (numAt 6 w 6))
  | 9 => given two (.cmpa t sat ad as_)
  | 10 => given two (.mova t ad as_)
  | 11 => given two (.rnda t sat ad as_)
  | _ => none

/-- The multiply class (R326). -/
def decodeMultiply (t : Fin 32) (w : Nat) (sat : Bool) : Option Instr :=
  let ad : Fin 4 := numAt 2 w 18
  let ds : Fin 16 := numAt 4 w 12
  let dt : Fin 16 := numAt 4 w 8
  let regs := zeros w [(0, 8), (16, 2)]
  let mem := fun (f : EShort → EShort → Instr) => if zeros w [(14, 4)] then twoOperands w f else none
  match field w 20 5 with
  | 0 => given regs (.mpy t sat ad ds dt)
  | 1 => given regs (.mac t sat ad ds dt)
  | 2 => given regs (.msu t sat ad ds dt)
  | 3 => given (zeros w [(0, 8)]) (.mpyr t sat (numAt 4 w 16) ds dt)
  | 4 => mem (.mpyMem t sat ad)
  | 5 => mem (.macMem t sat ad)
  | 6 => mem (.msuMem t sat ad)
  | _ => none

/-- `dmac` (R328); an odd ds is left to the meanings. -/
def decodeDmac (t : Fin 32) (w : Nat) (sat : Bool) : Option Instr :=
  let p := bitAt w 19
  let sw := bitAt w 18
  let n1 := bitAt w 17
  let n0 := bitAt w 16
  let ds : Fin 16 := numAt 4 w 12
  let dt : Fin 16 := numAt 4 w 8
  let mem := fun (f : EShort → EShort → Instr) => if zeros w [(14, 2)] then twoOperands w f else none
  match field w 20 5 with
  | 0 => mem (.dmacMem t sat p sw n1 n0)
  | 1 => given (zeros w [(0, 8)]) (.dmacReg t sat p sw n1 n0 ds dt)
  | 2 => mem (.dmacMulMem t sat p sw n1 n0)
  | 3 => given (zeros w [(0, 8)]) (.dmacMulReg t sat p sw n1 n0 ds dt)
  | _ => none

/-- `qmac` (R329). -/
def decodeQmac (t : Fin 32) (w : Nat) (sat : Bool) : Option Instr :=
  let neg : BitVec 4 := bitsAt 4 w 16
  let g : Fin 4 := numAt 2 w 14
  let dt : Fin 16 := numAt 4 w 8
  let mem := fun (f : EShort → EShort → Instr) => if zeros w [(14, 2)] then twoOperands w f else none
  match field w 20 5 with
  | 0 => mem (.qmacMem t sat neg)
  | 1 => given (zeros w [(0, 8), (12, 2)]) (.qmacReg t sat neg g dt)
  | 2 => mem (.qmacMulMem t sat neg)
  | 3 => given (zeros w [(0, 8), (12, 2)]) (.qmacMulReg t sat neg g dt)
  | _ => none

/-- The add-compare-select class (R330); an odd dd of `acs2` is left to the meanings. -/
def decodeSelect (t : Fin 32) (w : Nat) (sat : Bool) : Option Instr :=
  let dd : Fin 16 := numAt 4 w 16
  let ds : Fin 16 := numAt 4 w 12
  let dt : Fin 16 := numAt 4 w 8
  let du : Fin 16 := numAt 4 w 4
  let low := zeros w [(0, 4)]
  match field w 20 5 with
  | 0 => given low (.acs t sat dd ds dt du)
  | 1 => given low (.acsn t sat dd ds dt du)
  | 2 => given low (.acs2 t sat dd ds dt du)
  | 3 => given low (.acs2n t sat dd ds dt du)
  | _ => none

/-- The address-arithmetic class (R331). -/
def decodeAddress (t : Fin 32) (w : Nat) (x : Bool) (e : Nat) : Option Instr :=
  let p : Fin 8 := numAt 3 w 16
  if zeros w [(19, 1)] then
    match field w 20 5 with
    | 0 => (immOperand w x e).map (.padd t p)
    | 1 => given (!x && zeros w [(0, 16)]) (.paddm t p)
    | 2 => (immOperand w x e).map (.paddl t p)
    | _ => none
  else none

/-- The classes that permit X, and those that permit SAT (R307). -/
def classX (c : Nat) : Bool := c == 2 || c == 4 || c == 9 || c == 16
def classSat (c : Nat) : Bool := c == 8 || c == 9 || c == 10 || c == 12 || c == 13 || c == 14 || c == 15

/-- The instruction that tile t reads from a base word and the word after it, which is the extension word where X is 1; none is the
illegal instruction of R307. -/
def decodeNative (t : Fin 32) (base ext : Word) : Option Instr :=
  let w := base.toNat
  let e := ext.toNat
  let c := field w 27 5
  let x := bitAt w 26
  let sat := bitAt w 25
  if (x && !classX c) || (sat && !classSat c) then none
  else match c with
    | 0 => decodeControl t w
    | 1 => decodeBranch t w
    | 2 => decodeMemory t w x e
    | 3 => decodeDual t w
    | 4 => decodeImmLoad t w x e
    | 5 => decodeMove t w
    | 8 => decodeData t w sat
    | 9 => decodeDataImm t w x sat e
    | 10 => decodeAcc t w sat
    | 12 => decodeMultiply t w sat
    | 13 => decodeDmac t w sat
    | 14 => decodeQmac t w sat
    | 15 => decodeSelect t w sat
    | 16 => decodeAddress t w x e
    | _ => none

/-- The bytes of a native instruction: 8 with an extension word (R306). -/
def nativeSize (base : Word) : Nat := if bitAt base.toNat 26 then 8 else 4

/-- The step of an index register in an MX-16 multiply (R332). -/
def mxStepAt (w lo : Nat) : MxStep :=
  match field w lo 2 with
  | 0 => .none
  | 1 => .up
  | 2 => .down
  | _ => .byM

/-- The operand of an MX-16 indirect access: a mode of R308, and an offset or step that is zero in the modes without one (R332). -/
def mxOperand (w : Nat) : Option MxMem :=
  let x : Fin 4 := numAt 2 w 6
  match field w 4 2 with
  | 0 => given (zeros w [(0, 4)]) (.plain x)
  | 1 => some (.offset x (bitsAt 4 w 0))
  | 2 => some (.postImm x (bitsAt 4 w 0))
  | _ => given (zeros w [(0, 4)]) (.postMod x)

/-- The operations of the MX-16 immediate group by their codes (R332). -/
def mxImmOpAt : Nat → Option MxImmOp
  | 0 => some .add
  | 2 => some .cmp
  | 7 => some .and_
  | 8 => some .or_
  | 9 => some .xor_
  | 11 => some .asl
  | 12 => some .asr
  | 13 => some .lsr
  | _ => none

/-- The MX-16 control group (R332). -/
def decodeMxControl (t : Fin 32) (w : Nat) : Option Instr :=
  let z := zeros w [(0, 8)]
  match field w 8 4 with
  | 0 => given z (.mxNop t)
  | 1 => given z (.mxHalt t)
  | 2 => given z (.mxRet t)
  | 3 => some (.mxRptImm t (numAt 8 w 0))
  | 4 => given (zeros w [(3, 5)]) (.mxRptReg t (numAt 3 w 0))
  | 5 => given z (.mxEi t)
  | 6 => given z (.mxDi t)
  | 7 => given z (.mxClampon t)
  | 8 => given z (.mxClampoff t)
  | 9 => given z (.mxClrs t)
  | _ => none

/-- The MX-16 register multiplies (R332). -/
def decodeMxMultiply (t : Fin 32) (w : Nat) : Option Instr :=
  let ac : Fin 2 := numAt 1 w 9
  let rs : Fin 8 := numAt 3 w 6
  let rt : Fin 8 := numAt 3 w 3
  match field w 10 2 with
  | 0 => given (zeros w [(0, 3)]) (.mxMpy t ac rs rt)
  | 1 => given (zeros w [(0, 3)]) (.mxMac t ac rs rt)
  | 2 => given (zeros w [(0, 3)]) (.mxMsu t ac rs rt)
  | _ => given (zeros w [(9, 1)]) (.mxMpyr t (numAt 3 w 0) rs rt)

/-- The MX-16 accumulator group (R332). -/
def decodeMxAcc (t : Fin 32) (w : Nat) : Option Instr :=
  let ac : Fin 2 := numAt 1 w 7
  let z := zeros w [(0, 7)]
  match field w 8 4 with
  | 0 => given z (.mxAccClr t ac)
  | 1 => given z (.mxAccAdd t ac)
  | 2 => given z (.mxAccSub t ac)
  | 3 => given z (.mxAccNeg t ac)
  | 4 => given z (.mxAccAbs t ac)
  | 5 => given (zeros w [(5, 2)]) (.mxAccShl t ac (numAt 5 w 0))
  | 6 => given (zeros w [(5, 2)]) (.mxAccShr t ac (numAt 5 w 0))
  | 7 => given (zeros w [(3, 4)]) (.mxAccRound t ac (numAt 3 w 0))
  | 8 => given (zeros w [(3, 4)]) (.mxAccLoad t ac (numAt 3 w 0))
  | _ => none

/-- The MX-16 address group (R332). -/
def decodeMxAddress (t : Fin 32) (w : Nat) (second : BitVec 16) : Option Instr :=
  let x : Fin 4 := numAt 2 w 8
  match field w 10 2 with
  | 0 => given (zeros w [(0, 8)]) (.mxIxLoad t x second)
  | 1 => some (.mxIxAdd t x (bitsAt 8 w 0))
  | 2 => given (zeros w [(3, 5)]) (.mxIxToR t x (numAt 3 w 0))
  | _ => given (zeros w [(3, 5)]) (.mxRToIx t x (numAt 3 w 0))

/-- The MX-16 instruction that tile t reads from a word and the word after it; none is the illegal instruction of R332. -/
def decodeMx (t : Fin 32) (first second : BitVec 16) : Option Instr :=
  let w := first.toNat
  let r : Fin 8 := numAt 3 w 8
  let low := zeros w [(0, 8)]
  let high := bitAt w 11
  match field w 12 4 with
  | 0 => decodeMxControl t w
  | 1 => some (.mxBranch t (numAt 4 w 8) (bitsAt 8 w 0))
  | 2 =>
    match field w 8 4 with
    | 0 => given low (.mxLongBranch t second)
    | 1 => given low (.mxCall t second)
    | _ => none
  | 3 => given low (if high then .mxStoreDirect t r second else .mxLoadDirect t r second)
  | 4 => (mxOperand w).map (fun m => if high then .mxStoreIndirect t r m else .mxLoadIndirect t r m)
  | 5 => given (zeros w [(0, 2)]) (.mxAluReg t (numAt 4 w 8) (numAt 3 w 5) (numAt 3 w 2))
  | 6 => if zeros w [(0, 5)] then (mxImmOpAt (field w 8 4)).map (fun op => .mxAluImm t op (numAt 3 w 5) second) else none
  | 7 => decodeMxMultiply t w
  | 8 =>
    let f := if high then Instr.mxMsuMem t else Instr.mxMacMem t
    some (f (numAt 1 w 10) (numAt 1 w 9) (numAt 1 w 8) (mxStepAt w 6) (mxStepAt w 4))
  | 9 => decodeMxAcc t w
  | 10 => decodeMxAddress t w second
  | 11 => some (if high then .mxOut t r (bitsAt 8 w 0) else .mxIn t r (bitsAt 8 w 0))
  | 12 => given low (if high then .mxStatusWrite t r else .mxStatusRead t r)
  | _ => none

/-- A base word of its fields (R306). -/
def nativeWord (c : Nat) (x sat : Bool) (op operands : Nat) : Nat :=
  c * 2 ^ 27 + x.toNat * 2 ^ 26 + sat.toNat * 2 ^ 25 + op * 2 ^ 20 + operands

/-- The descriptor of a memory operand, whether it takes an extension word, and that word (R308). -/
def memBits : EMem → Nat × Bool × Nat
  | .plain p => (p.val, false, 0)
  | .offset p (.imm5 v) => (v.toNat * 2 ^ 5 + 2 ^ 3 + p.val, false, 0)
  | .offset p (.ext v) => (2 ^ 3 + p.val, true, v.toNat)
  | .postImm p (.imm5 v) => (v.toNat * 2 ^ 5 + 2 * 2 ^ 3 + p.val, false, 0)
  | .postImm p (.ext v) => (2 * 2 ^ 3 + p.val, true, v.toNat)
  | .postMod p => (3 * 2 ^ 3 + p.val, false, 0)

/-- A short descriptor (R309). -/
def shortBits : EShort → Nat
  | .plain p => p.val
  | .offset p v => v.toNat * 2 ^ 4 + 2 ^ 2 + p.val
  | .postImm p v => v.toNat * 2 ^ 4 + 2 * 2 ^ 2 + p.val
  | .postMod p => 3 * 2 ^ 2 + p.val

/-- Two short descriptors (R309). -/
def pairBits (y x : EShort) : Nat := shortBits y * 2 ^ 7 + shortBits x

/-- The file and number of a register of `mov` (R321). -/
def regBits : EReg → Nat × Nat
  | .d n => (0, n.val)
  | .p n => (1, n.val)
  | .b n => (2, n.val)
  | .l n => (3, n.val)
  | .m n => (4, n.val)
  | .ctl n => (5, n.val)

/-- A native instruction's words: the tile that issues it, the base word and the word after it, zero where there is none. -/
def words (t : Fin 32) (base : Nat) (ext : Nat := 0) : Option (Fin 32 × Word × Word) := some (t, BitVec.ofNat 32 base, BitVec.ofNat 32 ext)

/-- A load or store: its operation code, register field and memory operand (R318). -/
def memWords (t : Fin 32) (op r : Nat) (m : EMem) : Option (Fin 32 × Word × Word) :=
  words t (nativeWord 2 (memBits m).2.1 false op (r * 2 ^ 16 + (memBits m).1)) (memBits m).2.2

/-- An instruction with an immediate operand (R322, R331). -/
def immWords (t : Fin 32) (c : Nat) (sat : Bool) (op r : Nat) : EImm → Option (Fin 32 × Word × Word)
  | .short v => words t (nativeWord c false sat op (r * 2 ^ 16 + v.toNat))
  | .long v => words t (nativeWord c true sat op (r * 2 ^ 16)) v.toNat

/-- An immediate shift (R323). -/
def countWords (t : Fin 32) (sat : Bool) (op : Nat) (dd : Fin 16) (x : Bool) (k : Fin 32) : Option (Fin 32 × Word × Word) :=
  if x then words t (nativeWord 9 true sat op (dd.val * 2 ^ 16)) k.val
  else words t (nativeWord 9 false sat op (dd.val * 2 ^ 16 + k.val))

/-- Three data registers in their fields (R322). -/
def threeBits (dd ds dt : Fin 16) : Nat := dd.val * 2 ^ 16 + ds.val * 2 ^ 12 + dt.val * 2 ^ 8

/-- An accumulator operation (R325). -/
def accWords (t : Fin 32) (sat : Bool) (op : Nat) (ad as_ : Fin 4) (low : Nat := 0) : Option (Fin 32 × Word × Word) :=
  words t (nativeWord 10 false sat op (ad.val * 2 ^ 18 + as_.val * 2 ^ 16 + low))

/-- The four flags of `dmac` in [19:16] (R328). -/
def dmacBits (p sw neg1 neg0 : Bool) : Nat := p.toNat * 2 ^ 19 + sw.toNat * 2 ^ 18 + neg1.toNat * 2 ^ 17 + neg0.toNat * 2 ^ 16

/-- The words of a native instruction of a tile, from the tables of R306 to R331; none for every other command. -/
def encodeNative : Instr → Option (Fin 32 × Word × Word)
  | .nop t => words t 0
  | .tend t => words t (nativeWord 0 false false 1 0)
  | .reti t => words t (nativeWord 0 false false 2 0)
  | .rptImm t n => words t (nativeWord 0 false false 3 n.val)
  | .rptReg t dn => words t (nativeWord 0 false false 4 (dn.val * 2 ^ 16))
  | .ei t => words t (nativeWord 0 false false 5 0)
  | .di t => words t (nativeWord 0 false false 6 0)
  | .clrst t => words t (nativeWord 0 false false 7 0)
  | .setrnd t k => words t (nativeWord 0 false false 8 k.val)
  | .bCc t cc off => words t (nativeWord 1 false false 0 (cc.val * 2 ^ 16 + off.toNat))
  | .call t off => words t (nativeWord 1 false false 1 off.toNat)
  | .jmp t pn => words t (nativeWord 1 false false 2 (pn.val * 2 ^ 16))
  | .callr t pn => words t (nativeWord 1 false false 3 (pn.val * 2 ^ 16))
  | .ret t => words t (nativeWord 1 false false 4 0)
  | .dbnz t dn off => words t (nativeWord 1 false false 5 (dn.val * 2 ^ 16 + off.toNat))
  | .mxcall t off => words t (nativeWord 1 false false 6 off.toNat)
  | .ld t dn m => memWords t 0 dn.val m
  | .st t dn m => memWords t 1 dn.val m
  | .lddA t an m => memWords t 2 an.val m
  | .stdA t an m => memWords t 3 an.val m
  | .ldq t g m => memWords t 4 (g.val * 4) m
  | .stq t g m => memWords t 5 (g.val * 4) m
  | .lddP t pn m => memWords t 6 pn.val m
  | .stdP t pn m => memWords t 7 pn.val m
  | .lddB t bn m => memWords t 8 bn.val m
  | .stdB t bn m => memWords t 9 bn.val m
  | .ldL t ln m => memWords t 10 ln.val m
  | .stL t ln m => memWords t 11 ln.val m
  | .ldM t mn m => memWords t 12 mn.val m
  | .stM t mn m => memWords t 13 mn.val m
  | .lea t pn m => memWords t 14 pn.val m
  | .ld2 t k x y => words t (nativeWord 3 false false 0 (k.val * 2 ^ 17 + pairBits y x))
  | .ldiD t dn imm => immWords t 4 false 0 dn.val imm
  | .ldiA t an imm => words t (nativeWord 4 true false 1 (an.val * 2 ^ 16)) imm.toNat
  | .ldiP t pn imm => words t (nativeWord 4 true false 2 (pn.val * 2 ^ 16 + imm.toNat / 2 ^ 32)) imm.toNat
  | .ldiB t bn imm => words t (nativeWord 4 true false 3 (bn.val * 2 ^ 16 + imm.toNat / 2 ^ 32)) imm.toNat
  | .ldiL t ln imm => words t (nativeWord 4 true false 4 (ln.val * 2 ^ 16)) imm.toNat
  | .ldiM t mn imm => words t (nativeWord 4 true false 5 (mn.val * 2 ^ 16)) imm.toNat
  | .mov t rd rs => words t (nativeWord 5 false false 0
      ((regBits rd).2 * 2 ^ 16 + (regBits rd).1 * 2 ^ 13 + (regBits rs).2 * 2 ^ 9 + (regBits rs).1 * 2 ^ 6))
  | .add t sat dd ds dt => words t (nativeWord 8 false sat 0 (threeBits dd ds dt))
  | .sub t sat dd ds dt => words t (nativeWord 8 false sat 1 (threeBits dd ds dt))
  | .cmp t sat ds dt => words t (nativeWord 8 false sat 2 (threeBits 0 ds dt))
  | .neg t sat dd ds => words t (nativeWord 8 false sat 3 (threeBits dd ds 0))
  | .abs t sat dd ds => words t (nativeWord 8 false sat 4 (threeBits dd ds 0))
  | .min t dd ds dt => words t (nativeWord 8 false false 5 (threeBits dd ds dt))
  | .max t dd ds dt => words t (nativeWord 8 false false 6 (threeBits dd ds dt))
  | .and t dd ds dt => words t (nativeWord 8 false false 7 (threeBits dd ds dt))
  | .or t dd ds dt => words t (nativeWord 8 false false 8 (threeBits dd ds dt))
  | .xor t dd ds dt => words t (nativeWord 8 false false 9 (threeBits dd ds dt))
  | .not t dd ds => words t (nativeWord 8 false false 10 (threeBits dd ds 0))
  | .asl t sat dd ds dt => words t (nativeWord 8 false sat 11 (threeBits dd ds dt))
  | .asr t dd ds dt => words t (nativeWord 8 false false 12 (threeBits dd ds dt))
  | .lsr t dd ds dt => words t (nativeWord 8 false false 13 (threeBits dd ds dt))
  | .addc t sat dd ds dt => words t (nativeWord 8 false sat 14 (threeBits dd ds dt))
  | .subc t sat dd ds dt => words t (nativeWord 8 false sat 15 (threeBits dd ds dt))
  | .addi t sat dd imm => immWords t 9 sat 0 dd.val imm
  | .cmpi t sat dd imm => immWords t 9 sat 2 dd.val imm
  | .andi t dd imm => immWords t 9 false 7 dd.val imm
  | .ori t dd imm => immWords t 9 false 8 dd.val imm
  | .xori t dd imm => immWords t 9 false 9 dd.val imm
  | .asli t sat dd x k => countWords t sat 11 dd x k
  | .asri t dd x k => countWords t false 12 dd x k
  | .lsri t dd x k => countWords t false 13 dd x k
  | .adda t sat ad as_ => accWords t sat 0 ad as_
  | .suba t sat ad as_ => accWords t sat 1 ad as_
  | .nega t sat ad as_ => accWords t sat 2 ad as_
  | .absa t sat ad as_ => accWords t sat 3 ad as_
  | .clr t mask => accWords t false 4 0 0 (mask.toNat * 2 ^ 2)
  | .mva t ad dn => accWords t false 5 ad 0 (dn.val * 2 ^ 12)
  | .mvr t sat dn as_ => accWords t sat 6 0 as_ (dn.val * 2 ^ 12)
  | .asla t sat ad as_ k => accWords t sat 7 ad as_ (k.val * 2 ^ 6)
  | .asra t ad as_ k => accWords t false 8 ad as_ (k.val * 2 ^ 6)
  | .cmpa t sat ad as_ => accWords t sat 9 ad as_
  | .mova t ad as_ => accWords t false 10 ad as_
  | .rnda t sat ad as_ => accWords t sat 11 ad as_
  | .mpy t sat ad ds dt => words t (nativeWord 12 false sat 0 (ad.val * 2 ^ 18 + threeBits 0 ds dt))
  | .mac t sat ad ds dt => words t (nativeWord 12 false sat 1 (ad.val * 2 ^ 18 + threeBits 0 ds dt))
  | .msu t sat ad ds dt => words t (nativeWord 12 false sat 2 (ad.val * 2 ^ 18 + threeBits 0 ds dt))
  | .mpyr t sat dd ds dt => words t (nativeWord 12 false sat 3 (threeBits dd ds dt))
  | .mpyMem t sat ad y x => words t (nativeWord 12 false sat 4 (ad.val * 2 ^ 18 + pairBits y x))
  | .macMem t sat ad y x => words t (nativeWord 12 false sat 5 (ad.val * 2 ^ 18 + pairBits y x))
  | .msuMem t sat ad y x => words t (nativeWord 12 false sat 6 (ad.val * 2 ^ 18 + pairBits y x))
  | .dmacMem t sat p sw neg1 neg0 y x => words t (nativeWord 13 false sat 0 (dmacBits p sw neg1 neg0 + pairBits y x))
  | .dmacReg t sat p sw neg1 neg0 ds dt => words t (nativeWord 13 false sat 1 (dmacBits p sw neg1 neg0 + threeBits 0 ds dt))
  | .dmacMulMem t sat p sw neg1 neg0 y x => words t (nativeWord 13 false sat 2 (dmacBits p sw neg1 neg0 + pairBits y x))
  | .dmacMulReg t sat p sw neg1 neg0 ds dt => words t (nativeWord 13 false sat 3 (dmacBits p sw neg1 neg0 + threeBits 0 ds dt))
  | .qmacMem t sat neg y x => words t (nativeWord 14 false sat 0 (neg.toNat * 2 ^ 16 + pairBits y x))
  | .qmacReg t sat neg g dt => words t (nativeWord 14 false sat 1 (neg.toNat * 2 ^ 16 + g.val * 2 ^ 14 + dt.val * 2 ^ 8))
  | .qmacMulMem t sat neg y x => words t (nativeWord 14 false sat 2 (neg.toNat * 2 ^ 16 + pairBits y x))
  | .qmacMulReg t sat neg g dt => words t (nativeWord 14 false sat 3 (neg.toNat * 2 ^ 16 + g.val * 2 ^ 14 + dt.val * 2 ^ 8))
  | .acs t sat dd ds dt du => words t (nativeWord 15 false sat 0 (threeBits dd ds dt + du.val * 2 ^ 4))
  | .acsn t sat dd ds dt du => words t (nativeWord 15 false sat 1 (threeBits dd ds dt + du.val * 2 ^ 4))
  | .acs2 t sat dd ds dt du => words t (nativeWord 15 false sat 2 (threeBits dd ds dt + du.val * 2 ^ 4))
  | .acs2n t sat dd ds dt du => words t (nativeWord 15 false sat 3 (threeBits dd ds dt + du.val * 2 ^ 4))
  | .padd t pn imm => immWords t 16 false 0 pn.val imm
  | .paddm t pn => words t (nativeWord 16 false false 1 (pn.val * 2 ^ 16))
  | .paddl t pn imm => immWords t 16 false 2 pn.val imm
  | _ => none

/-- An MX-16 instruction's words: the tile, the word and the word after it, zero where there is none. -/
def mxWords (t : Fin 32) (group operands : Nat) (second : BitVec 16 := 0) : Option (Fin 32 × BitVec 16 × BitVec 16) :=
  some (t, BitVec.ofNat 16 (group * 2 ^ 12 + operands), second)

/-- An indirect operand (R332). -/
def mxMemBits : MxMem → Nat
  | .plain x => x.val * 2 ^ 6
  | .offset x o => x.val * 2 ^ 6 + 2 ^ 4 + o.toNat
  | .postImm x o => x.val * 2 ^ 6 + 2 * 2 ^ 4 + o.toNat
  | .postMod x => x.val * 2 ^ 6 + 3 * 2 ^ 4

/-- A step (R332). -/
def mxStepBits : MxStep → Nat
  | .none => 0
  | .up => 1
  | .down => 2
  | .byM => 3

/-- The code of an immediate operation (R332). -/
def mxImmOpBits : MxImmOp → Nat
  | .add => 0
  | .cmp => 2
  | .and_ => 7
  | .or_ => 8
  | .xor_ => 9
  | .asl => 11
  | .asr => 12
  | .lsr => 13

/-- A multiply of MX-16 registers (R332). -/
def mxMulWords (t : Fin 32) (op : Nat) (ac : Fin 2) (rs rt : Fin 8) (rd : Nat := 0) : Option (Fin 32 × BitVec 16 × BitVec 16) :=
  mxWords t 7 (op * 2 ^ 10 + ac.val * 2 ^ 9 + rs.val * 2 ^ 6 + rt.val * 2 ^ 3 + rd)

/-- A multiply of MX-16 memory operands (R332). -/
def mxMulMemWords (t : Fin 32) (op : Nat) (ac x y : Fin 2) (sx sy : MxStep) : Option (Fin 32 × BitVec 16 × BitVec 16) :=
  mxWords t 8 (op * 2 ^ 11 + ac.val * 2 ^ 10 + x.val * 2 ^ 9 + y.val * 2 ^ 8 + mxStepBits sx * 2 ^ 6 + mxStepBits sy * 2 ^ 4)

/-- An MX-16 accumulator operation (R332). -/
def mxAccWords (t : Fin 32) (op : Nat) (ac : Fin 2) (low : Nat := 0) : Option (Fin 32 × BitVec 16 × BitVec 16) :=
  mxWords t 9 (op * 2 ^ 8 + ac.val * 2 ^ 7 + low)

/-- The words of an MX-16 instruction of a tile, from the table of R332; none for every other command. -/
def encodeMx : Instr → Option (Fin 32 × BitVec 16 × BitVec 16)
  | .mxNop t => mxWords t 0 0
  | .mxHalt t => mxWords t 0 (1 * 2 ^ 8)
  | .mxRet t => mxWords t 0 (2 * 2 ^ 8)
  | .mxRptImm t n => mxWords t 0 (3 * 2 ^ 8 + n.val)
  | .mxRptReg t r => mxWords t 0 (4 * 2 ^ 8 + r.val)
  | .mxEi t => mxWords t 0 (5 * 2 ^ 8)
  | .mxDi t => mxWords t 0 (6 * 2 ^ 8)
  | .mxClampon t => mxWords t 0 (7 * 2 ^ 8)
  | .mxClampoff t => mxWords t 0 (8 * 2 ^ 8)
  | .mxClrs t => mxWords t 0 (9 * 2 ^ 8)
  | .mxBranch t cc off => mxWords t 1 (cc.val * 2 ^ 8 + off.toNat)
  | .mxLongBranch t w => mxWords t 2 0 w
  | .mxCall t w => mxWords t 2 (1 * 2 ^ 8) w
  | .mxLoadDirect t r w => mxWords t 3 (r.val * 2 ^ 8) w
  | .mxStoreDirect t r w => mxWords t 3 (2 ^ 11 + r.val * 2 ^ 8) w
  | .mxLoadIndirect t r m => mxWords t 4 (r.val * 2 ^ 8 + mxMemBits m)
  | .mxStoreIndirect t r m => mxWords t 4 (2 ^ 11 + r.val * 2 ^ 8 + mxMemBits m)
  | .mxAluReg t op rd rs => mxWords t 5 (op.val * 2 ^ 8 + rd.val * 2 ^ 5 + rs.val * 2 ^ 2)
  | .mxAluImm t op rd imm => mxWords t 6 (mxImmOpBits op * 2 ^ 8 + rd.val * 2 ^ 5) imm
  | .mxMpy t ac rs rt => mxMulWords t 0 ac rs rt
  | .mxMac t ac rs rt => mxMulWords t 1 ac rs rt
  | .mxMsu t ac rs rt => mxMulWords t 2 ac rs rt
  | .mxMpyr t rd rs rt => mxMulWords t 3 0 rs rt rd.val
  | .mxMacMem t ac x y sx sy => mxMulMemWords t 0 ac x y sx sy
  | .mxMsuMem t ac x y sx sy => mxMulMemWords t 1 ac x y sx sy
  | .mxAccClr t ac => mxAccWords t 0 ac
  | .mxAccAdd t ac => mxAccWords t 1 ac
  | .mxAccSub t ac => mxAccWords t 2 ac
  | .mxAccNeg t ac => mxAccWords t 3 ac
  | .mxAccAbs t ac => mxAccWords t 4 ac
  | .mxAccShl t ac k => mxAccWords t 5 ac k.val
  | .mxAccShr t ac k => mxAccWords t 6 ac k.val
  | .mxAccRound t ac r => mxAccWords t 7 ac r.val
  | .mxAccLoad t ac r => mxAccWords t 8 ac r.val
  | .mxIxLoad t x w => mxWords t 10 (x.val * 2 ^ 8) w
  | .mxIxAdd t x o => mxWords t 10 (1 * 2 ^ 10 + x.val * 2 ^ 8 + o.toNat)
  | .mxIxToR t x r => mxWords t 10 (2 * 2 ^ 10 + x.val * 2 ^ 8 + r.val)
  | .mxRToIx t x r => mxWords t 10 (3 * 2 ^ 10 + x.val * 2 ^ 8 + r.val)
  | .mxIn t r k => mxWords t 11 (r.val * 2 ^ 8 + k.toNat)
  | .mxOut t r k => mxWords t 11 (2 ^ 11 + r.val * 2 ^ 8 + k.toNat)
  | .mxStatusRead t r => mxWords t 12 (r.val * 2 ^ 8)
  | .mxStatusWrite t r => mxWords t 12 (2 ^ 11 + r.val * 2 ^ 8)
  | _ => none

end Sys2Proof
end

