-- ==== Sys2Proof/Config.lean ====
section
/-! DEFINITION. What the spec leaves open: every constant here is opaque, so no proof can rest on its value. Each is
named in a log entry. A constant whose first argument is a Nat is applied to the counter `State.fresh`, which the step
advances, so that two uses may differ; the others are applied to the operands they depend on. -/

namespace Sys2Proof.Config

/-- The zone context tag that the device puts into the address of an event of an arm (R14 says what it holds, not where
it comes from; log 8). -/
opaque zoneOf : Nat → Nat

/-- Half of an odd number of 1/256 ns in the mean path delay of R66 (log 9). -/
opaque halfOf : Int → Int

/-- The rate request that the servo of the time service makes from a measured offset (R58 gives its limits; log 10). -/
opaque servoRate : Nat → Int → Int

/-- The PTP domain in which the time service takes part (02 R65 gives the numbers it may have and no place that selects one; log 9). -/
opaque ptpDomain : Nat

/-- The rate that the device adds to remove the remainder of a step, from the remainder in 1/256 ns (02 R57 gives its limits; log 10). -/
opaque remainderRate : Nat → Int → Int

/-- The station address, IPv4 and IPv6 address of an Ethernet port in the Zynura store, from the cells of the store (02 R87, 18 R578: the
layout of the store is not given; log 47). -/
opaque storeMac : List (Nat × BitVec 8) → Nat → BitVec 48
/-- See `storeMac`. -/
opaque storeIp4 : List (Nat × BitVec 8) → Nat → BitVec 32
/-- See `storeMac`. -/
opaque storeIp6 : List (Nat × BitVec 8) → Nat → BitVec 128

/-- How far the sine of the control laws lies from the interpolation between exact table entries, over an angle in 2^-32 turn; used
within a bound (R174; log 19). -/
opaque lawSin : Rat → Rat

/-- How far a square root of the control laws lies from the exact one; used within a bound (R174; log 19). -/
opaque lawSqrt : Rat → Rat

/-- How far the square root of 3 and 2 pi lie from the exact numbers in the control laws; used within a bound (R174, R194; log 19). -/
opaque sqrt3 : Rat
/-- See `sqrt3`. -/
opaque twoPi : Rat

/-- Whether a control law takes a value that lies between two of the format it is put into to the upper one (log 19). -/
opaque lawRound : Rat → Bool

/-- The 48 bits of a biquad state whose sum falls outside them (05 R184 does not say; log 19). -/
opaque lawOver : Int → Nat

/-- Whether the step generator takes a quotient that its format does not hold to the upper of its two neighbours: numerator and
denominator (06 R236; log 21). -/
opaque roundDiv : Nat → Nat → Bool

/-- Whether it takes the interval between two steps, from the speeds squared at its ends, to the upper of the two numbers of 2^-32
port cycles that R231 leaves (log 21). -/
opaque stepInterval : Nat → Nat → Bool

/-- Whether the speed shown for a speed squared that is no square is the upper of its two neighbours (06 R249; log 21). -/
opaque stepSpeed : Nat → Bool

/-- The factor kappa of R241 while STP_IRUN is 0 (log 22). -/
opaque holdRatio : Nat → Rat

/-- Whether Kiln takes a value that lies between two binary64 numbers to the upper one in magnitude (07 R257 fixes the rounding of
binary32 only; log 23). -/
opaque kilnRound : Rat → Bool

/-- How far a reduction over terms lies from its exact sum, for binary32 (true) or binary64; used within the bound that holds for every
order (07 R252 says that the order is fixed, not which; log 23). -/
opaque kilnSum : Bool → List Rat → Rat

/-- Whether a partial sum of a reduction saturates in the device's order, where one may in some order (07 R252, R257; log 23). -/
opaque kilnOver : Bool → List Rat → Bool

/-- The centring weight of the corrector direction, from the mean complementarity after the predictor step and before it; used between 0
and 1 (07 R261 names the direction only; log 23). -/
opaque kilnCentre : Rat → Rat → Rat

/-- How many columns of a factorisation of a size an LDLT solve stopped after a number of cycles has judged (07 R266 gives the sum of
all columns; log 23). -/
opaque kilnCols : Nat → Nat → Nat

/-- The address of the planner's own result buffer, in a plane's own view (07 R272: Stack places it; log 23). -/
opaque planResult : Nat

/-- VNOM of an arm between two knots, in mm/s, and the largest closing component of one arm towards another, for a build with a
given key (06 R220: from a kinematic description the spec does not give; log 24). -/
opaque planVnom : Nat → Nat → Nat → Rat
/-- See `planVnom`: key, arm, other arm, knot. -/
opaque planClosing : Nat → Nat → Nat → Nat → Rat

/-- The nominal time that passes from the build of a problem to one of its knots, by key, arm and knot: it hangs on the scales still to be
solved for; used between 0 and the real time (06 R219, R220; log 24). -/
opaque planKnot : Nat → Nat → Nat → Rat

/-- Whether the planner takes a value that lies between two whole numbers to the upper one (06 R208, R215: the rounding is not given; R223: a
tie; log 24). -/
opaque planUp : Rat → Bool

/-- How far the square root in a nominal path that never reaches its peak speed lies below the exact one; used within a bound (06 R212; log
24). -/
opaque planSqrt : Rat → Rat

/-- Where in a tile's data memory an area of a task lies: task, area (0 sample block, 1 state area, 2 and 6 copies of bank 0 and
bank 1, 3 scratch area, 4 top of its stack), where its code image lies in program memory (5), of an interpolator the copy of the results
of context 0 (7): Stack places them, and the spec does not say where (10 R354; log 27). -/
opaque areaOf : Nat → Nat → Nat

/-- The address of the copy of a buffer in a tier: handle and tier, in a tile's own view (10 R338, R357; log 27). -/
opaque bufAddr : Nat → Nat → Nat

/-- The bytes of a code image, and of the images of a loop's law, the planner, an interpolator and the BIST task (10 R354; log 27). -/
opaque imageBytes : Nat → Nat

/-- Byte i of a code image (10 R354; 18 gives where the images come from, not what they hold; log 27). -/
opaque imageCode : Nat → Nat → BitVec 8

/-- Which of the placements with the least largest load, each with the order of its moves, a rebalance takes (10 R355; log 27). -/
opaque rebalance : Nat → Nat

/-- The descriptor of a buffer handle of the system, none when it is not defined (10 R337; log 27). -/
opaque sysBuf : Nat → List (BitVec 32)

/-- The registers of a tile after a slice of its logic BIST, by the key of the slice and the place of the register (15 R491; log 58). -/
opaque lbistReg : Nat → Nat → Nat

/-- The tier of a new buffer, within its bounds (10 R357 does not give it; log 27). -/
opaque firstTier : Nat → Nat

/-- Whether a safety channel (true: channel 1) takes, for a value between two numbers of its format, the upper one (12 R384; log 29). -/
opaque safeUp : Bool → Rat → Bool

/-- Whether the golden-section ratio of 12 R402 is rounded up to the unit of 2^-30 (log 29). -/
opaque goldenUp : Bool

/-- The transform that one joint adds to the chain of channel 1: three rows of four numbers, from its kinematic form and its position; the
spec leaves the form to Relnis (12 R384, R390, R400; log 29). -/
opaque link1 : List (BitVec 8) → Rat → List (List Rat)

/-- The quaternion, in 2^-30 units, and the translation, in 2^-8 mm, that one joint adds to the chain of channel 2 (12 R384, R390, R400; log
29). -/
opaque link2 : List (BitVec 8) → Rat → List Int × List Int

/-- The direction from one point to another where they coincide: one coordinate (12 R403; log 29). -/
opaque noDirection : Bool → Nat → Rat

/-- A coordinate of the velocity of an endpoint in the first cycle after activation (12 R403; log 29). -/
opaque firstVelocity : Nat → Nat → Rat

/-- The position of a joint that has had no valid position yet (12 R388; log 29). -/
opaque noPosition : Nat → Rat

/-- The whole number published for a value that lies between two (12 R433; log 29). -/
opaque safePublish : Rat → Int

/-- Which of several equally strict causes governs (12 R411; log 30). -/
opaque tieCause : Nat → Nat

/-- What is added to a nonce to change it, less 1 (12 R424; log 30). -/
opaque nonceStep : Nat → Nat

/-- The code of a failed condition in a SI_ACK record (17 R545 names no codes; log 30). -/
opaque ackCode : Nat → BitVec 8

/-- By how many units of its format, at most one, a channel's cosine or sine of an angle in 2^-32 turn differs from the rounded value (13 R449;
log 31). -/
opaque yawOff : Bool → Nat → Int

/-- The `ARMS` byte of a telegram sent (13 R449 does not name it; log 31). -/
opaque txArms : Nat → BitVec 8

/-- Whether the Chain takes a rate request, an offset or a mean that lies between two units to the upper one (14 R467, R469; log 33). -/
opaque chainUp : Rat → Bool

/-- The centre (fields 0 to 2) and the radius (3) in mm that a version 1 return telegram gives for a capsule, from its numbers (13 R437, 14
R481: the layout holds a sphere, and the spec does not say which; log 61). -/
opaque txSphere : List Rat → Nat → Nat

/-- Where between 152 ns and 178 ns a residence time lies, in 1/256 ns (14 R468; log 33). -/
opaque residence : Nat → Nat

/-- The GiB of DRAM fitted to a channel, less one, modulo 8 (20 R615 leaves the choice to the board; log 60). -/
opaque dramFitted : Nat → Nat

/-- Whether Hearth goes into its wait state when it has no work left, by the index of the occasion (11 R370; log 62). -/
opaque hearthRests : Nat → Bool

/-- What PC_XFER shows while a sweep runs (15 R500 fixes no order of the sweep's parts; log 34). -/
opaque sweepLeft : Nat → BitVec 32

/-- What a read of the Hearth side of the mailbox returns (00 R17 names the page; no chapter describes it; log 35). -/
opaque mailPage : Nat → BitVec 32

/-- Whether an ECDSA signature (r, s) over a message verifies with the key whose SHA-256 is given (18 R559, R568 name neither where
the key itself comes from; log 37). -/
opaque sigOk : List (BitVec 8) → List (BitVec 8) → List (BitVec 8) → Bool

/-- Byte i of the unit signature over a message (18 R565: the key is inside the signature engine; log 37). -/
opaque unitSign : List (BitVec 8) → Nat → BitVec 8

/-- Whether an opcode of a group whose opcodes the spec does not number is listed, and whether a payload length is its own (16 R526; log
39). -/
opaque opListed : Nat → Bool
/-- See `opListed`. -/
opaque opLength : Nat → Nat → Bool

/-- Which of several codes a command ends with (16 R518, R521; log 39). -/
opaque pickCode : Nat → Nat

/-- The slot number in the message that a key revocation signs (18 R559; log 37). -/
opaque slotNumber : Bool → Nat → List (BitVec 8)

/-- The record index that LKT_MARK returns when the record has been discarded (16 R524, 17 R539; log 39). -/
opaque noIndex : Nat → Nat

/-- Minor version and build that HM_ZVER shows while Kindling serves the recovery interface (18 R561; log 42). -/
opaque recoveryVer : Nat → BitVec 32

end Sys2Proof.Config
end

