-- ==== Sys2Proof/Machine/Bits.lean ====
section
/-! DEFINITION. Bit fields, sign, byte order, saturation and check values: the small arithmetic the chapters share. -/

namespace Sys2Proof

/-- Bits [lo + n - 1 : lo] of a word, as a number. -/
def getBits (w : Word) (lo n : Nat) : Nat := (w.extractLsb' lo n).toNat

/-- A word with bits [lo + n - 1 : lo] replaced by the low n bits of v. -/
def putBits (w : Word) (lo n v : Nat) : Word :=
  (w &&& ~~~(BitVec.ofNat 32 (2 ^ n - 1) <<< lo)) ||| (BitVec.ofNat 32 (v % 2 ^ n) <<< lo)

/-- One more, stopping at the largest 32-bit value. -/
def satInc (w : Word) : Word := if w.toNat = 2 ^ 32 - 1 then w else w + 1

/-- A count increased by n, stopping at 2 ^ bits - 1. -/
def satAdd (bits x n : Nat) : Nat := min (x + n) (2 ^ bits - 1)

/-- The whole square root of a number. -/
def isqrt (n : Nat) : Nat :=
  ((List.range (n.log2 / 2 + 1)).reverse).foldl (fun r i => if (r + 2 ^ i) * (r + 2 ^ i) ≤ n then r + 2 ^ i else r) 0

/-- A number limited to the range lo to hi. -/
def clampInt (lo hi x : Int) : Int := if x < lo then lo else if hi < x then hi else x

/-- The two's complement reading of the low n bits of a number. -/
def signed (n x : Nat) : Int := if x % 2 ^ n < 2 ^ (n - 1) then (x % 2 ^ n : Nat) else (x % 2 ^ n : Nat) - (2 ^ n : Nat)

/-- The low n bits of an integer's two's complement. -/
def unsignedOf (n : Nat) (x : Int) : Nat := (x % (2 ^ n : Nat)).toNat

/-- A 32-bit word holding the low bits of an integer. -/
def wordOf (x : Int) : Word := BitVec.ofInt 32 x

/-- The 48-bit value of a LO/HI register pair (R162), signed. -/
def pair48 (lo hi : Word) : Int := signed 48 (lo.toNat + (hi.toNat % 2 ^ 16) * 2 ^ 32)

/-- The LO register of a 48-bit value. -/
def lo48 (x : Int) : Word := BitVec.ofNat 32 (unsignedOf 48 x % 2 ^ 32)

/-- The HI register of a 48-bit value: bits [47:32] in [15:0], and [31:16] read as the sign (R162). -/
def hi48 (x : Int) : Word := BitVec.ofInt 32 ((signed 48 (unsignedOf 48 x)) / (2 ^ 32 : Nat))

/-- The bytes of a number, lowest first. -/
def leBytes : Nat → Nat → List Byte
  | 0, _ => []
  | n + 1, x => BitVec.ofNat 8 x :: leBytes n (x / 256)

/-- The number whose bytes are given, lowest first. -/
def ofLeBytes : List Byte → Nat
  | [] => 0
  | b :: t => b.toNat + 256 * ofLeBytes t

/-- Division rounded to the nearest whole number, ties towards zero. -/
def roundTiesZero (x : Int) (d : Nat) : Int :=
  if 0 ≤ x then (2 * x + d - 1) / (2 * d) else -((-2 * x + d - 1) / (2 * d))

/-- The first multiple of d at or after x. -/
def ceilTo (d x : Nat) : Nat := (x + d - 1) / d * d

/-- The last multiple of d at or before x. -/
def floorTo (d x : Nat) : Nat := x / d * d

/-- One bit step of a reflected 32-bit check value. -/
def crcBit (poly : BitVec 32) (c : BitVec 32) : BitVec 32 :=
  if c.getLsbD 0 then (c >>> 1) ^^^ poly else c >>> 1

/-- Repeated application. -/
def iter {α : Type} (f : α → α) : Nat → α → α
  | 0, x => x
  | n + 1, x => iter f n (f x)

/-- One byte step of CRC-32C (reflected polynomial 0x82F6_3B78). -/
def crc32cByte (c : BitVec 32) (b : Byte) : BitVec 32 := iter (crcBit 0x82F63B78) 8 (c ^^^ b.setWidth 32)

/-- CRC-32C (Castagnoli) of a byte string. -/
def crc32c (bs : List Byte) : Word := ~~~(bs.foldl crc32cByte (BitVec.allOnes 32))

/-- The entry of a sparse table under a key, or the value an absent entry stands for. -/
def tget {K V : Type} [DecidableEq K] (t : List (K × V)) (k : K) (d : V) : V :=
  match t with
  | [] => d
  | (q, v) :: r => if q = k then v else tget r k d

/-- A sparse table with the entry of one key replaced, or added at the end. -/
def tset {K V : Type} [DecidableEq K] (t : List (K × V)) (k : K) (v : V) : List (K × V) :=
  match t with
  | [] => [(k, v)]
  | (q, w) :: r => if q = k then (q, v) :: r else (q, w) :: tset r k v

/-- The byte at an address of a memory; an address that is not listed reads as 0 (DESIGN CHOICE, log 7). -/
def memRead (m : List (Nat × BitVec 8)) (a : Nat) : Byte :=
  match m with
  | [] => 0
  | (q, b) :: r => if q = a then b else memRead r a

/-- A memory with one byte written, kept in its one form: addresses rising, no zero byte listed. -/
def memWrite (m : List (Nat × BitVec 8)) (a : Nat) (b : Byte) : List (Nat × BitVec 8) :=
  match m with
  | [] => if b = 0 then [] else [(a, b)]
  | (q, c) :: r =>
    if q = a then (if b = 0 then r else (a, b) :: r)
    else if a < q then (if b = 0 then (q, c) :: r else (a, b) :: (q, c) :: r)
    else (q, c) :: memWrite r a b

/-- The bytes from an address on. -/
def memReadN (m : List (Nat × BitVec 8)) (a : Nat) : Nat → List Byte
  | 0 => []
  | n + 1 => memRead m a :: memReadN m (a + 1) n

/-- A memory with a byte string written from an address on. -/
def memWriteN (m : List (Nat × BitVec 8)) (a : Nat) : List Byte → List (Nat × BitVec 8)
  | [] => m
  | b :: t => memWriteN (memWrite m a b) (a + 1) t

/-- The numbers below n, as members of Fin n. -/
def finList (n : Nat) : List (Fin n) := List.finRange n

/-- A list of length n whose entry i is f i, for a plain number i. -/
def buildList {α : Type} (f : Nat → α) (n : Nat) : List α := (List.range n).map f

/-- A list with entry i replaced. -/
def listSet {α : Type} (l : List α) (i : Nat) (x : α) : List α := l.set i x

/-- A power of two. -/
def pow2 (k : Int) : Rat := if 0 ≤ k then (2 ^ k.toNat : Nat) else 1 / (2 ^ (-k).toNat : Nat)

/-- The exponent of the last place of a value that is not 0 in a binary format. -/
def lastPlace (single : Bool) (x : Rat) : Int :=
  let e := (Nat.log2 x.num.natAbs : Int) - (Nat.log2 x.den : Int)
  let e := if |x| < pow2 e then e - 1 else e
  max (e - (if single then 23 else 52)) (if single then -149 else -1074)

end Sys2Proof
end

