-- ==== Sys2Proof/Machine/RegTable.lean ====
section
/-! DEFINITION. What the spec's register tables say of each register: its reset value, its access codes bit by bit
(00 R7), which of its bits have a command of their own in the table of operations, and its fabric address (00 R17). -/

namespace Sys2Proof

/-- The sine of entry k of a quarter of the microstep table cannot be written as a rule of integers: the 256 reset
entries round(2^23 sin(2 pi k / 1024)) of R240 are listed in `Machine/StepTable.lean`; here the other registers. The
fields for which the spec gives no reset value hold 0 (DESIGN CHOICE, log 6). OTP_STAT shows the blank OTP of `State.reset` (log 36), and an MSI-X vector is masked (PRESUMED from the PCIe
layout that 16 R507 names, log 38). -/
def Reg.resetWord : Reg → Word
  | .tcap _ .TCAP_CTRL => 0x2
  | .eth _ .ETH_CTRL => 0x4
  | .port _ .PWM_DEAD => 0x1F401F40
  | .port _ .PWM_MINON => 0x640
  | .port _ .TRIP_CFG => 0x19
  | .sdf _ .SDF_CFG => 0x400D0
  | .sdf _ .SDF_GAIN_A => 0x400000
  | .sdf _ .SDF_GAIN_B => 0x400000
  | .sdc (.SDC_DLY _) => 0x28
  | .fb _ .FB_CFG => 0x280
  | .fb _ .FB_SER => 0x5000
  | .fb _ .FB_STAT => 0x2
  | .fb _ .FB_PSTAT => 0x2
  | .fb _ .FB_LLIM_HI => 0xFFFF8000
  | .fb _ .FB_ULIM_LO => 0xFFFFFFFF
  | .fb _ .FB_ULIM_HI => 0x7FFF
  | .fb _ .FB_SST => 0x2710
  | .fb _ .FB_ERR_LIM => 0x4
  | .fb _ .FB_JUMP => 0xFFFFFFFF
  | .ld _ .LD_RAMP => 0x10
  | .ld _ .LD_SUP_CFG => 0x1031004
  | .ld _ .LD_SUP_WARN => 0xCCCCD
  | .ld _ .LD_SUP_FAULT => 0x266666
  | .pln .PLN_CFG => 0x4
  | .pln .PLN_MARGIN => 0x733333
  | .arm _ .ARM_OVR => 0x7FFFFF
  | .arm _ .ARM_ACC_SHARE => 0x600000
  | .arm _ .ARM_WEIGHT => 0x400000
  | .stp _ .STP_CFG => 0x40000000
  | .stp _ .STP_TIMING => 0x4E200FA
  | .stp _ .STP_VLIM => 0x271000
  | .stp _ .STP_ACC => 0x2710
  | .stp _ .STP_HOLD_DLY => 0x186A0
  | .stk .STK_CFG => 0x200014
  | .stk .STK_SKEW_LIM => 0x400
  | .stk (.STK_DLY_TICK _) => 0x4
  | .stk .STK_HOT_UP => 0x1000
  | .stk .STK_HOT_DN => 0x400
  | .stk .STK_WARM_UP => 0x40
  | .stk .STK_WARM_DN => 0x10
  | .stk (.STK_QCFG _) => 0x40
  | .si .SI_LOCK => 0xFF
  | .si (.SI_ARM_STAT _) => 0x465
  | .pc .PC_CTRL => 0x20
  | .pc .PC_STAT => 0x9
  | .pc .PC_CONFIRM => 0x10000
  | .pc .PC_RETRY_LIM => 0x3
  | .pc .PC_LBIST_INT => 0x3E8
  | .hm .HM_ZVER => 0x3020000
  | .lk .LK_CFG => 0x64
  | .ld n .LD_CTRL => (if 64 ≤ n.val ∧ n.val < 128 then 0x20 else 0) + (if 128 ≤ n.val then 2 else 0) + 16 * 128
  | .ld n .LD_PORT => BitVec.ofNat 32 (n.val % 64 + 256 * (n.val % 64))
  | .ic (.IC_SRC_CFG s) => if 224 ≤ s.val ∧ s.val < 288 then 0x4002 else 0x4000
  | .hm .DEV_IDENT => 0x80644200
  | .otp .OTP_STAT => 0xF00
  | .hm (.HM_MSIX_TABLE k) => if k.val % 4 = 3 then 1 else 0
  | _ => 0

/-- Bits of code rw: a write sets them. -/
def Reg.rwMask : Reg → Word
  | .clk .ISL_CLK => 0x33
  | .clk .PERIOD_CFG => 0x1
  | .tb .TB_CTRL => 0x3FF
  | .tb .TB_RATE => 0xFFFFFFFF
  | .tpo _ .TPO_CTRL => 0x7
  | .tpo _ .TPO_START_SEC_LO => 0xFFFFFFFF
  | .tpo _ .TPO_START_SEC_HI => 0xFFFFFFFF
  | .tpo _ .TPO_START_NS => 0xFFFFFFFF
  | .tpo _ .TPO_START_FRAC => 0xFF
  | .tpo _ .TPO_PERIOD_NS => 0xFFFFFFFF
  | .tpo _ .TPO_PERIOD_FRAC => 0xFF
  | .tpo _ .TPO_WIDTH_NS => 0xFFFFFFFF
  | .tpo _ .TPO_COUNT => 0xFFFFFFFF
  | .tpo _ .TPO_WIDTH_FRAC => 0xFF
  | .tcap _ .TCAP_CTRL => 0x1F
  | .tsp _ .TSP_INGRESS => 0xFFFFFF
  | .tsp _ .TSP_EGRESS => 0xFFFFFF
  | .tsp _ .TSP_ASYM => 0xFFFFFFFF
  | .eth _ .ETH_CTRL => 0x3F
  | .eth _ .ETH_MAC_LO => 0xFFFFFFFF
  | .eth _ .ETH_MAC_HI => 0xFFFF
  | .eth _ .ETH_IP4 => 0xFFFFFFFF
  | .eth _ (.ETH_IP6 _) => 0xFFFFFFFF
  | .eth _ .ETH_VLAN => 0xFFFF
  | .eth _ .ETH_RX_BUF => 0x1FFF
  | .eth _ .ETH_TX_BUF => 0x1FFF
  | .eth _ .ETH_RX_TAIL => 0x3FF
  | .eth _ .ETH_TX_TAIL => 0x3FF
  | .port _ .PWM_CTRL => 0x7
  | .port _ .PWM_MODE => 0xFFFF
  | .port _ .PWM_DEAD => 0xFFFFFFFF
  | .port _ .PWM_MINON => 0xFFFF
  | .port _ .PWM_REFRESH => 0xFFFF00FF
  | .port _ .TRIP_CFG => 0xFFFF0FFF
  | .sdf _ .SDF_CFG => 0xFF07FF
  | .sdf _ .SDF_GAIN_A => 0xFFFFFF
  | .sdf _ .SDF_OFS_A => 0xFFFFFF
  | .sdf _ .SDF_GAIN_B => 0xFFFFFF
  | .sdf _ .SDF_OFS_B => 0xFFFFFF
  | .sdc .SDC_CTRL => 0x101FF
  | .sdc (.SDC_DLY _) => 0x7F
  | .fb _ .FB_CTRL => 0x3
  | .fb _ .FB_CFG => 0xFFFF
  | .fb _ .FB_SER => 0xFFFFFF
  | .fb _ .FB_LLIM_LO => 0xFFFFFFFF
  | .fb _ .FB_LLIM_HI => 0xFFFF
  | .fb _ .FB_ULIM_LO => 0xFFFFFFFF
  | .fb _ .FB_ULIM_HI => 0xFFFF
  | .fb _ .FB_SST => 0xFFFFF
  | .fb _ .FB_ERR_LIM => 0xFFFF
  | .fb _ .FB_JUMP => 0xFFFFFFFF
  | .fb _ .CMP_CTRL => 0xFF0F
  | .fb _ .CMP_POS_LO => 0xFFFFFFFF
  | .fb _ .CMP_POS_HI => 0xFFFF
  | .fb _ .CMP_SPACE => 0xFFFFFFFF
  | .ld _ .LD_CTRL => 0x1FFFF
  | .ld _ .LD_PORT => 0x3F3F
  | .ld _ .LD_ADDR => 0xFFFFFFFF
  | .ld _ .LD_RAMP => 0xFFFF
  | .ld _ .LD_DADJ => 0xFFFFFFFF
  | .ld _ .LD_EANG => 0xFFFFFFFF
  | .ld _ .LD_EOFS => 0xFFFFFFFF
  | .ld _ .LD_SUP_CFG => 0x3FFFFFF
  | .ld _ .LD_SUP_WARN => 0xFFFFFF
  | .ld _ .LD_SUP_FAULT => 0xFFFFFF
  | .ld _ .LD_WCET => 0xFFFF
  | .ld _ .LD_ENTRY => 0xFFFF
  | .ld _ .LD_REF_D => 0xFFFFFF
  | .ld _ .LD_REF_Q => 0xFFFFFF
  | .ld _ .LD_SP_POS_LO => 0xFFFFFFFF
  | .ld _ .LD_SP_POS_HI => 0xFFFF
  | .ld _ .LD_SP_VEL => 0xFFFFFF
  | .ld _ .LD_SP_TFF => 0xFFFFFF
  | .ld _ (.LD_BANK _ _) => 0xFFFFFFFF
  | .pln .PLN_CFG => 0xFF
  | .pln .PLN_MARGIN => 0xFFFFFF
  | .arm _ .ARM_CTRL => 0x1E1
  | .arm _ .ARM_OVR => 0xFFFFFF
  | .arm _ .ARM_ACC_SHARE => 0xFFFFFF
  | .arm _ .ARM_STOP_RATE => 0xFFFFFF
  | .arm _ .ARM_WEIGHT => 0xFFFFFF
  | .arm _ (.JNT_VMAX_LO _) => 0xFFFFFFFF
  | .arm _ (.JNT_VMAX_HI _) => 0xFFFF
  | .arm _ (.JNT_AMAX_LO _) => 0xFFFFFFFF
  | .arm _ (.JNT_AMAX_HI _) => 0xFFFF
  | .arm _ (.JNT_TFF _) => 0x1FFFFFFF
  | .stp _ .STP_CTRL => 0x3
  | .stp _ .STP_CFG => 0xFFFFFFFF
  | .stp _ .STP_TIMING => 0xFFFFFFFF
  | .stp _ .STP_VLIM => 0xFFFFFFFF
  | .stp _ .STP_ACC => 0xFFFFFFFF
  | .stp _ .STP_QTH_HI => 0xFFFFFFFF
  | .stp _ .STP_QTH_LO => 0xFFFFFFFF
  | .stp _ .STP_IRUN => 0xFFFFFF
  | .stp _ .STP_IHOLD => 0xFFFFFF
  | .stp _ .STP_QV => 0xFFFFFF
  | .stp _ .STP_KP => 0x1FFFFFFF
  | .stp _ .STP_KI => 0x1FFFFFFF
  | .stp _ .STP_HOLD_DLY => 0xFFFFF
  | .ust _ (.UST_ENTRY _) => 0xFFFFFF
  | .kn _ .KN_CTRL => 0x1
  | .stk .STK_CTRL => 0x5
  | .stk .STK_CFG => 0xFFFF003F
  | .stk (.STK_DLY_TICK _) => 0x1FF
  | .stk .STK_HOT_UP => 0xFFFFFF
  | .stk .STK_HOT_DN => 0xFFFFFF
  | .stk .STK_WARM_UP => 0xFFFFFF
  | .stk .STK_WARM_DN => 0xFFFFFF
  | .stk .STK_DESC_CMD => 0xFFF
  | .stk (.STK_DESC_STAGE _) => 0xFFFFFFFF
  | .stk .STK_BUF_CMD => 0x1FFF
  | .stk (.STK_BUF_STAGE _) => 0xFFFFFFFF
  | .stk (.STK_QCFG _) => 0xFFF
  | .ic (.IC_SRC_CFG _) => 0x1FFFFFFF
  | .ic (.IC_GRP_HOLD _) => 0xFFFF
  | .ic (.IC_TGT t) => if 17 ≤ t.val ∧ t.val < 32 then 0 else 0xFFFF
  | .ch .CH_CTRL => 0x3
  | .ch (.CH_V1_DLY _) => 0xFFFFFF
  | .cp _ .CP_CTRL => 0xFF
  | .cp _ .CP_MAP => 0xFFFFF8
  | .hm (.HM_MSIX_TABLE _) => 0xFFFFFFFF
  | .hm .HM_PCI_CMD => 0x4
  | .hm .HM_PCI_MSIX => 0xC000
  | .otp .OTP_ADDR => 0x7FF
  | .otp .OTP_DATA => 0xFFFFFFFF
  | _ => 0

/-- Bits of code w1c: a written 1 clears them. -/
def Reg.w1cMask : Reg → Word
  | .clk .ISL_STAT => 0xC
  | .clk .PIN_STAT => 0x20
  | .tb .TB_STAT => 0xF0
  | .tpo _ .TPO_STAT => 0x3E
  | .eth _ .ETH_STAT => 0x3C
  | .mdio .ETH_MDIO_STAT => 0x2
  | .port _ .TRIP_STAT => 0x4
  | .port _ .PWM_FLAGS => 0x1FF
  | .sdf _ .SDF_STAT => 0x1C
  | .sdc .SDC_STAT => 0x1
  | .fb _ .FB_STAT => 0x7FF00
  | .ld _ .LD_STAT => 0x1FF00
  | .pln .PLN_STAT => 0x7
  | .arm _ .ARM_STAT => 0x1F8
  | .stp _ .STP_STAT => 0xBC0
  | .kn _ (.KC_STAT _) => 0x1FF0
  | .stk .STK_STAT => 0x7FC
  | .ic (.IC_SW_CLR _) => 0xFFFFFFFF
  | .ic .IC_STAT => 0x3
  | .si .SI_EVT => 0xFFFF
  | .ch .CH_STAT => 0x40F0
  | .pc .PC_STAT => 0x600
  | .pc .PC_HEALTH_A => 0x80
  | .pc .PC_HEALTH_B => 0x80
  | .hm .HM_DB_STAT => 0xF
  | .lk .LK_STAT => 0x5E
  | .otp .OTP_STAT => 0x70000
  | _ => 0

/-- Bits of code w1s: a written 1 sets them. -/
def Reg.w1sMask : Reg → Word
  | .clk .PIN_REL => 0x1F
  | .ic (.IC_SW_SET _) => 0xFFFFFFFF
  | _ => 0

/-- Bits of code rc: a read clears them. -/
def Reg.rcMask : Reg → Word
  | .tcap _ .TCAP_OVF => 0xFFFFFFFF
  | .eth _ .ETH_RX_ERR => 0xFFFFFFFF
  | .eth _ .ETH_RX_DROP => 0xFFFFFFFF
  | .port _ .OVR_CNT => 0xFFFFFFFF
  | .port _ .SHORT_CNT => 0xFFFFFFFF
  | .port _ .TRIP_CNT => 0xFFFFFFFF
  | .sdf _ .SDF_CLIP_CNT => 0xFFFFFFFF
  | .sdf _ .SDF_STUCK_CNT => 0xFFFFFFFF
  | .fb _ .FB_ERR_CNT => 0xFFFFFFFF
  | .fb _ .CMP_SKIP => 0xFFFFFFFF
  | .ld _ .LD_OVR => 0xFFFFFFFF
  | .ld _ .LD_BAD_CNT => 0xFFFFFFFF
  | .ld _ .LD_SUP_CNT => 0xFFFFFFFF
  | .ld _ .LD_CYC_MAX => 0xFFFFFFFF
  | .ld _ .LD_RES_MAX => 0xFFFFFF
  | .pln .PLN_MISS_CNT => 0xFFFFFFFF
  | .stp _ .STP_BAD => 0xFFFFFFFF
  | .kn _ .KN_BUSY => 0xFFFFFFFF
  | .kn _ (.KC_REUSED _) => 0xFFFFFFFF
  | .kn _ (.KC_COLD _) => 0xFFFFFFFF
  | .kn _ (.KC_SUPERSEDED _) => 0xFFFFFFFF
  | .stk (.STK_QSTAT _) => 0xFFF0000
  | .stk (.STK_QWAIT _) => 0xFFFFFFFF
  | .stk (.STK_TS1 _) => 0xFFFFFFFF
  | .ic .IC_SPURIOUS => 0xFFFFFFFF
  | .ic .IC_REDIRECTS => 0xFFFFFFFF
  | .ch .CH_NULL_CNT => 0xFFFFFFFF
  | .ch .CH_ERR_CNT => 0xFFFFFFFF
  | .ch .CH_DIFF_CNT => 0xFFFFFFFF
  | .ch .CH_VIOL_CNT => 0xFFFFFFFF
  | .ch .CH_REINT_CNT => 0xFFFFFFFF
  | .ch .CH_CS_CNT => 0xFFFFFFFF
  | .cp _ (.CP_VIOL _) => 0xFFFFFFFF
  | .cp _ .CP_ARB_CNT => 0xFFFFFFFF
  | .cp _ .CP_MASQ_CNT => 0xFFFFFFFF
  | .pc .PC_MISM_A => 0xFFFFFFFF
  | .pc .PC_MISM_B => 0xFFFFFFFF
  | .pc .PC_SWITCH_CNT => 0xFFFFFFFF
  | .pc .PC_GAP_CNT => 0xFFFFFFFF
  | .hm .HM_EVT_LOST => 0xFFFFFFFF
  | .lk .LK_DROPPED => 0xFFFFFFFF
  | .lk .LK_MRAM_BAD => 0xFFFFFFFF
  | _ => 0

/-- Bits of code rwl: a write sets them until the device is sealed (R557). -/
def Reg.rwlMask : Reg → Word
  | .stk .STK_SKEW_LIM => 0xFFFF
  | .pc .PC_CTRL => 0x20
  | .pc .PC_CONFIRM => 0xFFFFFF
  | .pc .PC_RETRY_LIM => 0xF
  | .pc .PC_LBIST_INT => 0xFFFF
  | .lk .LK_CFG => 0xFFFF
  | _ => 0

/-- Bits of code wo: a read returns zero for them. -/
def Reg.woMask : Reg → Word
  | .tpo _ .TPO_CTRL => 0x8
  | .mdio .ETH_MDIO_CMD => 0xFFFF0FFF
  | .port _ .PWM_CTRL => 0x8
  | .port _ (.EW_RISE _ _) => 0xFFFFFF
  | .port _ (.EW_FALL _ _) => 0xFFFFFF
  | .port _ .EW_COMMIT => 0xFFFF
  | .fb _ .FB_CTRL => 0x4
  | .fb _ .FB_SET_LO => 0xFFFFFFFF
  | .fb _ .FB_SET_HI => 0xFFFF
  | .ld _ .LD_CTRL => 0x20000
  | .ld _ .LD_SWAP => 0x1
  | .ld _ .LD_REF_COMMIT => 0xFFFF
  | .ld _ .LD_SP_COMMIT => 0xFFFF
  | .arm _ .ARM_CTRL => 0x1E
  | .stp _ .STP_CTRL => 0x1C
  | .stp _ .STP_MV_TGT_LO => 0xFFFFFFFF
  | .stp _ .STP_MV_TGT_HI => 0xFFFF
  | .stp _ .STP_MV_V => 0xFFFFFFFF
  | .stp _ .STP_MV_CMD => 0xFFFF001F
  | .stp _ .STP_SET_LO => 0xFFFFFFFF
  | .stp _ .STP_SET_HI => 0xFFFF
  | .kn _ .KN_CTRL => 0x2
  | .stk .STK_CTRL => 0x2
  | .stk .STK_RELEASE => 0x3FFFFFFF
  | .stk .STK_CANCEL => 0xFFF
  | .stk .STK_DESC_CMD => 0x7000
  | .stk .STK_BUF_CMD => 0xE000
  | .ic .IC_COMPLETE => 0x1F01FF
  | .si .SI_REQ => 0x7FF
  | .si .SI_TOKEN => 0xFFFF01FF
  | .pc .PC_CTRL => 0x5F
  | .hm .HM_DB_POST => 0xFFFF
  | .hm .HM_DB_FREE => 0xFFFF
  | .lk .LK_CTRL => 0x1
  | .otp .OTP_CMD => 0x1
  | _ => 0

/-- Bits whose write has a command of its own in the table of operations; the plain register write leaves them. -/
def Reg.ownRowMask : Reg → Word
  | .clk .ISL_CLK => 0x33
  | .clk .PERIOD_CFG => 0x1
  | .clk .PIN_REL => 0x1F
  | .tb .TB_CTRL => 0x3
  | .tb .TB_RATE => 0xFFFFFFFF
  | .tpo _ .TPO_CTRL => 0x9
  | .eth _ .ETH_CTRL => 0x3F
  | .eth _ .ETH_MAC_LO => 0xFFFFFFFF
  | .eth _ .ETH_MAC_HI => 0xFFFF
  | .eth _ .ETH_IP4 => 0xFFFFFFFF
  | .eth _ (.ETH_IP6 _) => 0xFFFFFFFF
  | .eth _ .ETH_VLAN => 0xFFFF
  | .eth _ .ETH_RX_BUF => 0x1FFF
  | .eth _ .ETH_TX_BUF => 0x1FFF
  | .mdio .ETH_MDIO_CMD => 0xFFFF0FFF
  | .port _ .PWM_CTRL => 0xF
  | .port _ .PWM_MODE => 0xFFFF
  | .port _ .PWM_DEAD => 0xFFFFFFFF
  | .port _ .PWM_MINON => 0xFFFF
  | .port _ .PWM_REFRESH => 0xFFFF00FF
  | .port _ .TRIP_CFG => 0xFFFF0FFF
  | .port _ .EW_COMMIT => 0xFFFF
  | .sdf _ .SDF_CFG => 0xFF07FF
  | .sdf _ .SDF_GAIN_A => 0xFFFFFF
  | .sdf _ .SDF_OFS_A => 0xFFFFFF
  | .sdf _ .SDF_GAIN_B => 0xFFFFFF
  | .sdf _ .SDF_OFS_B => 0xFFFFFF
  | .sdc .SDC_CTRL => 0x101FF
  | .sdc (.SDC_DLY _) => 0x7F
  | .fb _ .FB_CTRL => 0x7
  | .fb _ .FB_CFG => 0xFFFF
  | .fb _ .FB_SER => 0xFFFFFF
  | .fb _ .FB_LLIM_HI => 0xFFFF
  | .fb _ .FB_ULIM_HI => 0xFFFF
  | .fb _ .FB_SET_HI => 0xFFFF
  | .fb _ .CMP_CTRL => 0x1
  | .fb _ .CMP_POS_HI => 0xFFFF
  | .ld _ .LD_CTRL => 0x3FFFF
  | .ld _ .LD_PORT => 0x3F3F
  | .ld _ .LD_ADDR => 0xFFFFFFFF
  | .ld _ .LD_SWAP => 0x1
  | .ld _ .LD_RAMP => 0xFFFF
  | .ld _ .LD_DADJ => 0xFFFFFFFF
  | .ld _ .LD_EANG => 0xFFFFFFFF
  | .ld _ .LD_EOFS => 0xFFFFFFFF
  | .ld _ .LD_SUP_CFG => 0x3FFFFFF
  | .ld _ .LD_SUP_WARN => 0xFFFFFF
  | .ld _ .LD_SUP_FAULT => 0xFFFFFF
  | .ld _ .LD_WCET => 0xFFFF
  | .ld _ .LD_ENTRY => 0xFFFF
  | .ld _ .LD_REF_COMMIT => 0xFFFF
  | .ld _ .LD_SP_COMMIT => 0xFFFF
  | .ld _ (.LD_BANK _ _) => 0xFFFFFFFF
  | .arm _ .ARM_CTRL => 0x1F
  | .stp _ .STP_CTRL => 0x1F
  | .stp _ .STP_CFG => 0xFFFFFFFF
  | .stp _ .STP_TIMING => 0xFFFFFFFF
  | .stp _ .STP_ACC => 0xFFFFFFFF
  | .stp _ .STP_MV_CMD => 0xFFFF001F
  | .stp _ .STP_SET_HI => 0xFFFF
  | .ust _ (.UST_ENTRY _) => 0xFFFFFF
  | .kn _ .KN_CTRL => 0x3
  | .stk .STK_CTRL => 0x2
  | .stk .STK_RELEASE => 0x3FFFFFFF
  | .stk .STK_CANCEL => 0xFFF
  | .stk .STK_DESC_CMD => 0x7FFF
  | .stk .STK_BUF_CMD => 0xFFFF
  | .ic (.IC_SRC_CFG _) => 0x1FFFFFFF
  | .ic (.IC_SW_SET _) => 0xFFFFFFFF
  | .ic (.IC_SW_CLR _) => 0xFFFFFFFF
  | .ic .IC_COMPLETE => 0x1F01FF
  | .si .SI_REQ => 0x7FF
  | .si .SI_TOKEN => 0xFFFF01FF
  | .ch .CH_CTRL => 0x3
  | .pc .PC_CTRL => 0x5F
  | .hm .HM_DB_POST => 0xFFFF
  | .hm .HM_DB_FREE => 0xFFFF
  | .lk .LK_CTRL => 0x1
  | .otp .OTP_CMD => 0x1
  | _ => 0

/-- Bits of named fields of code ro: a write leaves them, as it leaves reserved bits. -/
def Reg.roMask : Reg → Word
  | .clk .ISL_CLK => 0x100
  | .clk .ISL_STAT => 0x3
  | .clk .PERIOD_CNT => 0xFFFFFFFF
  | .clk .PIN_STAT => 0x5F
  | .clk .RST_STAT => 0x1FFF
  | .clk .RST_HELD => 0xFFFFFFFF
  | .tb .TB_STAT => 0xFF0F
  | .tb .TB_NOW_NS => 0xFFFFFFFF
  | .tb .TB_NOW_SEC_LO => 0xFFFFFFFF
  | .tb .TB_NOW_SEC_HI => 0xFFFFFFFF
  | .tb .TB_RATE_ACT => 0xFFFFFFFF
  | .tb .TB_OFFSET => 0xFFFFFFFF
  | .tb .TB_UTC => 0x7FFFF
  | .tpo _ .TPO_STAT => 0x1
  | .tpo _ .TPO_FIRED => 0xFFFFFFFF
  | .tcap _ .TCAP_HEAD_NS => 0xFFFFFFFF
  | .tcap _ .TCAP_HEAD_SEC_LO => 0xFFFFFFFF
  | .tcap _ .TCAP_HEAD_SEC_HI => 0xFFFFFFFF
  | .tcap _ .TCAP_HEAD_INFO => 0x1F1FFF
  | .eth _ .ETH_STAT => 0x3
  | .eth _ .ETH_RX_HEAD => 0x3FF
  | .eth _ .ETH_TX_HEAD => 0x3FF
  | .eth _ .ETH_RX_FRAMES => 0xFFFFFFFF
  | .eth _ .ETH_TX_FRAMES => 0xFFFFFFFF
  | .mdio .ETH_MDIO_STAT => 0xFFFF0001
  | .port _ .PWM_STAT => 0x7
  | .port _ .TRIP_STAT => 0xFB
  | .port _ .CAL_STAT => 0xFFFFFF01
  | .port _ .PWM_LIVE => 0xFFFF
  | .port _ (.ACT_RISE _) => 0xFFFFFF
  | .port _ (.ACT_FALL _) => 0xFFFFFF
  | .port _ .ACT_PERIOD => 0x1FFFF
  | .sdf _ .SDF_STAT => 0x23
  | .sdf _ .SDF_SAMPLE_A => 0xFFFFFFFF
  | .sdf _ .SDF_SAMPLE_B => 0xFFFFFFFF
  | .sdf _ .SDF_PERIOD => 0xFFFF
  | .fb _ .FB_STAT => 0x3F
  | .fb _ .FB_POS_LO => 0xFFFFFFFF
  | .fb _ .FB_POS_HI => 0xFFFFFFFF
  | .fb _ .FB_PSAMP_LO => 0xFFFFFFFF
  | .fb _ .FB_PSAMP_HI => 0xFFFFFFFF
  | .fb _ .FB_SPD_LO => 0xFFFFFFFF
  | .fb _ .FB_SPD_HI => 0xFFFFFFFF
  | .fb _ .FB_PSTAT => 0xFFFF007F
  | .fb _ .FB_IDX_LO => 0xFFFFFFFF
  | .fb _ .FB_IDX_HI => 0xFFFFFFFF
  | .fb _ .FB_ENC => 0xFF
  | .fb _ .CMP_NEXT_LO => 0xFFFFFFFF
  | .fb _ .CMP_NEXT_HI => 0xFFFFFFFF
  | .fb _ .CMP_HITS => 0xFFFFFFFF
  | .fb _ .CMP_HIT_NS => 0xFFFFFFFF
  | .fb _ .CMP_HIT_SEC_LO => 0xFFFFFFFF
  | .fb _ .CMP_HIT_SEC_HI => 0xFFFFFFFF
  | .ld _ .LD_STAT => 0xFF
  | .ld _ .LD_DIN => 0xFFFFFFFF
  | .ld _ .LD_DOUT => 0xFFFFFFFF
  | .ld _ .LD_RUNS => 0xFFFFFFFF
  | .ld _ (.LD_S _) => 0xFFFFFFFF
  | .pln .PLN_STAT => 0xFF00
  | .pln .PLN_TICKS => 0xFFFFFFFF
  | .arm _ .ARM_STAT => 0xFFFF0207
  | .arm _ .ARM_QDEPTH => 0x7F
  | .arm _ .ARM_RATE => 0xFFFFFF
  | .arm _ .ARM_LAMBDA => 0xFFFFFF
  | .arm _ .ARM_LAMBDA_K => 0xFFFFFF
  | .arm _ .ARM_VNOM => 0xFFFFFFFF
  | .arm _ .ARM_VSAFE => 0xFFFFFFFF
  | .arm _ .ARM_DONE_ID => 0xFFFF
  | .arm _ (.JNT_OVS_LO _) => 0xFFFFFFFF
  | .arm _ (.JNT_OVS_HI _) => 0xFFFFFFFF
  | .stp _ .STP_STAT => 0xFFFF143F
  | .stp _ .STP_POS_LO => 0xFFFFFFFF
  | .stp _ .STP_POS_HI => 0xFFFFFFFF
  | .stp _ .STP_TGT_LO => 0xFFFFFFFF
  | .stp _ .STP_TGT_HI => 0xFFFFFFFF
  | .stp _ .STP_SPD => 0xFFFFFFFF
  | .stp _ .STP_OVS => 0xFFFFFFFF
  | .stp _ .STP_QDEPTH => 0x1F
  | .stp _ .STP_STEPS => 0xFFFFFFFF
  | .stp _ .STP_DONE_ID => 0xFFFF
  | .kn _ .KN_STAT => 0x1F3
  | .kn _ .KN_SOLVES => 0xFFFFFFFF
  | .kn _ (.KC_STAT _) => 0xF
  | .kn _ (.KC_SEQ_POST _) => 0xFFFFFFFF
  | .kn _ (.KC_SEQ_PUB _) => 0xFFFFFFFF
  | .kn _ (.KC_SIG_DIM _) => 0x7FFFFF
  | .kn _ (.KC_SIG_NNZ _) => 0x3FFFF
  | .kn _ (.KC_SIG_CRC _) => 0xFFFFFFFF
  | .kn _ (.KC_BOUND _) => 0xFFFFFFFF
  | .kn _ (.KC_ITER _) => 0xFF
  | .kn _ (.KC_CYC _) => 0xFFFFFFFF
  | .kn _ (.KC_PIV _) => 0xFFFFFFFF
  | .stk .STK_STAT => 0xFFFF0003
  | .stk .STK_FAIL_TASK => 0xFFFF
  | .stk .STK_DESC_CMD => 0xF0000
  | .stk .STK_BUF_CMD => 0xF0000
  | .stk (.STK_QSTAT _) => 0xFFF
  | .stk (.STK_TL_LOAD _) => 0xFFFFFFFF
  | .stk (.STK_TL_GAP _) => 0xFFFFFFFF
  | .stk (.STK_TL_MEM _) => 0xFFFFFFFF
  | .stk (.STK_TL_TASKS _) => 0xFFF
  | .stk (.STK_TS0 _) => 0xFFFFFFFF
  | .ic (.IC_PEND _) => 0xFFFFFFFF
  | .ic (.IC_LIVE _) => 0xFFFFFFFF
  | .ic (.IC_CLAIMED _) => 0xFFFFFFFF
  | .ic (.IC_SW _) => 0xFFFFFFFF
  | .ic (.IC_GRP_HOLD _) => 0x10000
  | .ic (.IC_TGT _) => 0x70000
  | .ic (.IC_CLAIM _) => 0x1FFF
  | .si .SI_STAT => 0x7
  | .si .SI_CYCLE => 0xFFFFFFFF
  | .si .SI_PSET_ID => 0xFFFFFFFF
  | .si .SI_PSET_GEN => 0xFFFFFFFF
  | .si .SI_LOCK => 0xFFFF00FF
  | .si .SI_INPUTS => 0xFFFFFFFF
  | .si .SI_OUTPUTS => 0xFFF0FFF
  | .si .SI_XC_CNT => 0xFFFFFFFF
  | .si (.SI_ARM_STAT _) => 0x7FF
  | .si (.SI_VSAFE _) => 0xFFFFFFFF
  | .si (.SI_VMEAS _) => 0xFFFFFFFF
  | .si (.SI_DMIN _) => 0xFFFFFFFF
  | .si (.SI_VPAIR _) => 0xFFFFFFFF
  | .si (.SI_JVLIM _) => 0xFFFFFFFF
  | .si (.SG_STAT _) => 0xFF7F
  | .si (.SG_SEQ _) => 0xFFFFFFFF
  | .si (.SG_ERR _) => 0xFFFFFFFF
  | .si (.SG_AGE _) => 0xFFFFFFFF
  | .si (.SG_UNMATCHED _) => 0xFFFFFFFF
  | .ch .CH_STAT => 0xBF0F
  | .ch .CH_ROLE => 0x3
  | .ch .CH_CYCLE => 0xFFFFFFFF
  | .ch .CH_SCHED_ID => 0xFFFFFFFF
  | .ch .CH_OFFSET => 0xFFFFFFFF
  | .ch .CH_SYNC_MASK => 0xFFFF
  | .ch .CH_LINKDLY_A => 0xFFFFFFFF
  | .ch .CH_LINKDLY_B => 0xFFFFFFFF
  | .ch (.CH_SLOT_STAT _) => 0x1F
  | .cp _ .CP_STAT => 0xFF
  | .cp _ .CP_MAP => 0x7
  | .cp _ (.CP_LINKDLY _) => 0xFFFFFFFF
  | .cp _ .CP_RESID => 0xFFFFFFFF
  | .pc .PC_STAT => 0xFF01FF
  | .pc .PC_CONF_CNT => 0xFFFFFF
  | .pc .PC_HEALTH_A => 0xFFFFF07F
  | .pc .PC_HEALTH_B => 0xFFFFF07F
  | .pc .PC_MISM_WHERE => 0xFFFF0FFF
  | .pc .PC_XFER => 0xFFFFFFF
  | .pc .PC_LAST_SW => 0xFFFFF
  | .hm .DEV_IDENT => 0xFFFFFFF0
  | .hm .HM_ZVER => 0xFFFFFFFF
  | .hm .HM_STAT => 0xFF0F
  | .hm (.HM_SLOTS _) => 0xFFFFFFFF
  | .hm .HM_EVT_HEAD => 0xFFFFFFFF
  | .hm (.HM_EVT_W _) => 0xFFFFFFFF
  | .hm .HM_EVT_FILL => 0x1FF
  | .hm (.HM_MSIX_PBA _) => 0xFFFFFFFF
  | .lk .LK_STAT => 0x21
  | .lk .LK_NEXT_LO => 0xFFFFFFFF
  | .lk .LK_NEXT_HI => 0xFFFFFFFF
  | .lk .LK_OLDEST_LO => 0xFFFFFFFF
  | .lk .LK_OLDEST_HI => 0xFFFFFFFF
  | .lk .LK_UNFLUSHED => 0x7FF
  | .lk .LK_PF_LOST => 0xFFFFFFFF
  | .lk .LK_FLUSHES => 0xFFFFFFFF
  | .lk .LK_PCYCLE => 0xFFFFFFFF
  | .lk .LK_OPTIME_LO => 0xFFFFFFFF
  | .lk .LK_OPTIME_HI => 0xFFFFFFFF
  | .otp .OTP_STAT => 0xFFFF
  | .otp (.OTP_ARB _) => 0xFF
  | .otp .OTP_KEYS => 0xFFFFFFFF
  | _ => 0

/-- The fabric address of a register (R17 and the offset tables of the chapters). The two planes' shadow compares share
one address: the writing plane chooses. -/
def Reg.addr : Reg → Nat
  | .clk .ISL_CLK => 0x3000F000 + 0x000
  | .clk .ISL_STAT => 0x3000F000 + 0x004
  | .clk .PERIOD_CFG => 0x3000F000 + 0x008
  | .clk .PERIOD_CNT => 0x3000F000 + 0x00C
  | .clk .PIN_REL => 0x3000F000 + 0x010
  | .clk .PIN_STAT => 0x3000F000 + 0x014
  | .clk .RST_STAT => 0x3000F000 + 0x018
  | .clk .RST_HELD => 0x3000F000 + 0x01C
  | .tb .TB_CTRL => 0x30000000 + 0x000
  | .tb .TB_STAT => 0x30000000 + 0x004
  | .tb .TB_NOW_NS => 0x30000000 + 0x008
  | .tb .TB_NOW_SEC_LO => 0x30000000 + 0x00C
  | .tb .TB_NOW_SEC_HI => 0x30000000 + 0x010
  | .tb .TB_RATE => 0x30000000 + 0x014
  | .tb .TB_RATE_ACT => 0x30000000 + 0x018
  | .tb .TB_OFFSET => 0x30000000 + 0x01C
  | .tb .TB_UTC => 0x30000000 + 0x020
  | .tpo n .TPO_CTRL => 0x30001000 + 0x40 * n.val + 0x00
  | .tpo n .TPO_START_SEC_LO => 0x30001000 + 0x40 * n.val + 0x04
  | .tpo n .TPO_START_SEC_HI => 0x30001000 + 0x40 * n.val + 0x08
  | .tpo n .TPO_START_NS => 0x30001000 + 0x40 * n.val + 0x0C
  | .tpo n .TPO_START_FRAC => 0x30001000 + 0x40 * n.val + 0x10
  | .tpo n .TPO_PERIOD_NS => 0x30001000 + 0x40 * n.val + 0x14
  | .tpo n .TPO_PERIOD_FRAC => 0x30001000 + 0x40 * n.val + 0x18
  | .tpo n .TPO_WIDTH_NS => 0x30001000 + 0x40 * n.val + 0x1C
  | .tpo n .TPO_COUNT => 0x30001000 + 0x40 * n.val + 0x20
  | .tpo n .TPO_STAT => 0x30001000 + 0x40 * n.val + 0x24
  | .tpo n .TPO_FIRED => 0x30001000 + 0x40 * n.val + 0x28
  | .tpo n .TPO_WIDTH_FRAC => 0x30001000 + 0x40 * n.val + 0x2C
  | .tcap n .TCAP_CTRL => 0x30002000 + 0x20 * n.val + 0x00
  | .tcap n .TCAP_HEAD_NS => 0x30002000 + 0x20 * n.val + 0x04
  | .tcap n .TCAP_HEAD_SEC_LO => 0x30002000 + 0x20 * n.val + 0x08
  | .tcap n .TCAP_HEAD_SEC_HI => 0x30002000 + 0x20 * n.val + 0x0C
  | .tcap n .TCAP_HEAD_INFO => 0x30002000 + 0x20 * n.val + 0x10
  | .tcap n .TCAP_OVF => 0x30002000 + 0x20 * n.val + 0x14
  | .tsp p .TSP_INGRESS => 0x30058000 + 0x20 * p.val + 0x00
  | .tsp p .TSP_EGRESS => 0x30058000 + 0x20 * p.val + 0x04
  | .tsp p .TSP_ASYM => 0x30058000 + 0x20 * p.val + 0x08
  | .eth p .ETH_CTRL => 0x30050000 + 0x400 * p.val + 0x000
  | .eth p .ETH_STAT => 0x30050000 + 0x400 * p.val + 0x004
  | .eth p .ETH_MAC_LO => 0x30050000 + 0x400 * p.val + 0x008
  | .eth p .ETH_MAC_HI => 0x30050000 + 0x400 * p.val + 0x00C
  | .eth p .ETH_IP4 => 0x30050000 + 0x400 * p.val + 0x010
  | .eth p (.ETH_IP6 k) => 0x30050000 + 0x400 * p.val + 0x014 + 4 * k.val
  | .eth p .ETH_VLAN => 0x30050000 + 0x400 * p.val + 0x024
  | .eth p .ETH_RX_BUF => 0x30050000 + 0x400 * p.val + 0x028
  | .eth p .ETH_TX_BUF => 0x30050000 + 0x400 * p.val + 0x02C
  | .eth p .ETH_RX_HEAD => 0x30050000 + 0x400 * p.val + 0x030
  | .eth p .ETH_RX_TAIL => 0x30050000 + 0x400 * p.val + 0x034
  | .eth p .ETH_TX_HEAD => 0x30050000 + 0x400 * p.val + 0x038
  | .eth p .ETH_TX_TAIL => 0x30050000 + 0x400 * p.val + 0x03C
  | .eth p .ETH_RX_FRAMES => 0x30050000 + 0x400 * p.val + 0x040
  | .eth p .ETH_TX_FRAMES => 0x30050000 + 0x400 * p.val + 0x044
  | .eth p .ETH_RX_ERR => 0x30050000 + 0x400 * p.val + 0x048
  | .eth p .ETH_RX_DROP => 0x30050000 + 0x400 * p.val + 0x04C
  | .mdio .ETH_MDIO_CMD => 0x30051000 + 0x000
  | .mdio .ETH_MDIO_STAT => 0x30051000 + 0x004
  | .port n .PWM_CTRL => 0x40000000 + 0x1000 * n.val + 0x000
  | .port n .PWM_STAT => 0x40000000 + 0x1000 * n.val + 0x004
  | .port n .PWM_MODE => 0x40000000 + 0x1000 * n.val + 0x008
  | .port n .PWM_DEAD => 0x40000000 + 0x1000 * n.val + 0x00C
  | .port n .PWM_MINON => 0x40000000 + 0x1000 * n.val + 0x010
  | .port n .PWM_REFRESH => 0x40000000 + 0x1000 * n.val + 0x014
  | .port n .TRIP_CFG => 0x40000000 + 0x1000 * n.val + 0x018
  | .port n .TRIP_STAT => 0x40000000 + 0x1000 * n.val + 0x01C
  | .port n .PWM_FLAGS => 0x40000000 + 0x1000 * n.val + 0x020
  | .port n .OVR_CNT => 0x40000000 + 0x1000 * n.val + 0x024
  | .port n .SHORT_CNT => 0x40000000 + 0x1000 * n.val + 0x028
  | .port n .TRIP_CNT => 0x40000000 + 0x1000 * n.val + 0x02C
  | .port n .CAL_STAT => 0x40000000 + 0x1000 * n.val + 0x030
  | .port n .PWM_LIVE => 0x40000000 + 0x1000 * n.val + 0x034
  | .port n (.EW_RISE _ l) => 0x40000000 + 0x1000 * n.val + 0x100 + 8 * l.val
  | .port n (.EW_FALL _ l) => 0x40000000 + 0x1000 * n.val + 0x104 + 8 * l.val
  | .port n .EW_COMMIT => 0x40000000 + 0x1000 * n.val + 0x120
  | .port n (.ACT_RISE l) => 0x40000000 + 0x1000 * n.val + 0x140 + 8 * l.val
  | .port n (.ACT_FALL l) => 0x40000000 + 0x1000 * n.val + 0x144 + 8 * l.val
  | .port n .ACT_PERIOD => 0x40000000 + 0x1000 * n.val + 0x160
  | .sdf n .SDF_CFG => 0x42000000 + 0x1000 * n.val + 0x000
  | .sdf n .SDF_STAT => 0x42000000 + 0x1000 * n.val + 0x004
  | .sdf n .SDF_GAIN_A => 0x42000000 + 0x1000 * n.val + 0x008
  | .sdf n .SDF_OFS_A => 0x42000000 + 0x1000 * n.val + 0x00C
  | .sdf n .SDF_GAIN_B => 0x42000000 + 0x1000 * n.val + 0x010
  | .sdf n .SDF_OFS_B => 0x42000000 + 0x1000 * n.val + 0x014
  | .sdf n .SDF_SAMPLE_A => 0x42000000 + 0x1000 * n.val + 0x018
  | .sdf n .SDF_SAMPLE_B => 0x42000000 + 0x1000 * n.val + 0x01C
  | .sdf n .SDF_PERIOD => 0x42000000 + 0x1000 * n.val + 0x020
  | .sdf n .SDF_CLIP_CNT => 0x42000000 + 0x1000 * n.val + 0x024
  | .sdf n .SDF_STUCK_CNT => 0x42000000 + 0x1000 * n.val + 0x028
  | .sdc .SDC_CTRL => 0x42100000 + 0x000
  | .sdc (.SDC_DLY g) => 0x42100000 + 0x004 + 4 * g.val
  | .sdc .SDC_STAT => 0x42100000 + 0x028
  | .fb n .FB_CTRL => 0x41000000 + 0x1000 * n.val + 0x000
  | .fb n .FB_CFG => 0x41000000 + 0x1000 * n.val + 0x004
  | .fb n .FB_SER => 0x41000000 + 0x1000 * n.val + 0x008
  | .fb n .FB_STAT => 0x41000000 + 0x1000 * n.val + 0x00C
  | .fb n .FB_POS_LO => 0x41000000 + 0x1000 * n.val + 0x010
  | .fb n .FB_POS_HI => 0x41000000 + 0x1000 * n.val + 0x014
  | .fb n .FB_PSAMP_LO => 0x41000000 + 0x1000 * n.val + 0x018
  | .fb n .FB_PSAMP_HI => 0x41000000 + 0x1000 * n.val + 0x01C
  | .fb n .FB_SPD_LO => 0x41000000 + 0x1000 * n.val + 0x020
  | .fb n .FB_SPD_HI => 0x41000000 + 0x1000 * n.val + 0x024
  | .fb n .FB_PSTAT => 0x41000000 + 0x1000 * n.val + 0x028
  | .fb n .FB_LLIM_LO => 0x41000000 + 0x1000 * n.val + 0x02C
  | .fb n .FB_LLIM_HI => 0x41000000 + 0x1000 * n.val + 0x030
  | .fb n .FB_ULIM_LO => 0x41000000 + 0x1000 * n.val + 0x034
  | .fb n .FB_ULIM_HI => 0x41000000 + 0x1000 * n.val + 0x038
  | .fb n .FB_SST => 0x41000000 + 0x1000 * n.val + 0x03C
  | .fb n .FB_ERR_CNT => 0x41000000 + 0x1000 * n.val + 0x040
  | .fb n .FB_ERR_LIM => 0x41000000 + 0x1000 * n.val + 0x044
  | .fb n .FB_JUMP => 0x41000000 + 0x1000 * n.val + 0x048
  | .fb n .FB_SET_LO => 0x41000000 + 0x1000 * n.val + 0x04C
  | .fb n .FB_SET_HI => 0x41000000 + 0x1000 * n.val + 0x050
  | .fb n .FB_IDX_LO => 0x41000000 + 0x1000 * n.val + 0x054
  | .fb n .FB_IDX_HI => 0x41000000 + 0x1000 * n.val + 0x058
  | .fb n .FB_ENC => 0x41000000 + 0x1000 * n.val + 0x05C
  | .fb n .CMP_CTRL => 0x41000000 + 0x1000 * n.val + 0x060
  | .fb n .CMP_POS_LO => 0x41000000 + 0x1000 * n.val + 0x064
  | .fb n .CMP_POS_HI => 0x41000000 + 0x1000 * n.val + 0x068
  | .fb n .CMP_SPACE => 0x41000000 + 0x1000 * n.val + 0x06C
  | .fb n .CMP_NEXT_LO => 0x41000000 + 0x1000 * n.val + 0x070
  | .fb n .CMP_NEXT_HI => 0x41000000 + 0x1000 * n.val + 0x074
  | .fb n .CMP_SKIP => 0x41000000 + 0x1000 * n.val + 0x078
  | .fb n .CMP_HITS => 0x41000000 + 0x1000 * n.val + 0x07C
  | .fb n .CMP_HIT_NS => 0x41000000 + 0x1000 * n.val + 0x080
  | .fb n .CMP_HIT_SEC_LO => 0x41000000 + 0x1000 * n.val + 0x084
  | .fb n .CMP_HIT_SEC_HI => 0x41000000 + 0x1000 * n.val + 0x088
  | .ld n .LD_CTRL => 0x43000000 + 0x400 * n.val + 0x000
  | .ld n .LD_STAT => 0x43000000 + 0x400 * n.val + 0x004
  | .ld n .LD_PORT => 0x43000000 + 0x400 * n.val + 0x008
  | .ld n .LD_ADDR => 0x43000000 + 0x400 * n.val + 0x00C
  | .ld n .LD_SWAP => 0x43000000 + 0x400 * n.val + 0x010
  | .ld n .LD_RAMP => 0x43000000 + 0x400 * n.val + 0x014
  | .ld n .LD_DIN => 0x43000000 + 0x400 * n.val + 0x018
  | .ld n .LD_DOUT => 0x43000000 + 0x400 * n.val + 0x01C
  | .ld n .LD_DADJ => 0x43000000 + 0x400 * n.val + 0x020
  | .ld n .LD_EANG => 0x43000000 + 0x400 * n.val + 0x024
  | .ld n .LD_EOFS => 0x43000000 + 0x400 * n.val + 0x028
  | .ld n .LD_SUP_CFG => 0x43000000 + 0x400 * n.val + 0x02C
  | .ld n .LD_SUP_WARN => 0x43000000 + 0x400 * n.val + 0x030
  | .ld n .LD_SUP_FAULT => 0x43000000 + 0x400 * n.val + 0x034
  | .ld n .LD_WCET => 0x43000000 + 0x400 * n.val + 0x038
  | .ld n .LD_ENTRY => 0x43000000 + 0x400 * n.val + 0x03C
  | .ld n .LD_RUNS => 0x43000000 + 0x400 * n.val + 0x040
  | .ld n .LD_OVR => 0x43000000 + 0x400 * n.val + 0x044
  | .ld n .LD_BAD_CNT => 0x43000000 + 0x400 * n.val + 0x048
  | .ld n .LD_SUP_CNT => 0x43000000 + 0x400 * n.val + 0x04C
  | .ld n .LD_CYC_MAX => 0x43000000 + 0x400 * n.val + 0x050
  | .ld n .LD_RES_MAX => 0x43000000 + 0x400 * n.val + 0x054
  | .ld n .LD_REF_D => 0x43000000 + 0x400 * n.val + 0x080
  | .ld n .LD_REF_Q => 0x43000000 + 0x400 * n.val + 0x084
  | .ld n .LD_REF_COMMIT => 0x43000000 + 0x400 * n.val + 0x088
  | .ld n .LD_SP_POS_LO => 0x43000000 + 0x400 * n.val + 0x090
  | .ld n .LD_SP_POS_HI => 0x43000000 + 0x400 * n.val + 0x094
  | .ld n .LD_SP_VEL => 0x43000000 + 0x400 * n.val + 0x098
  | .ld n .LD_SP_TFF => 0x43000000 + 0x400 * n.val + 0x09C
  | .ld n .LD_SP_COMMIT => 0x43000000 + 0x400 * n.val + 0x0A0
  | .ld n (.LD_BANK b k) => 0x43000000 + 0x400 * n.val + 0x100 + 0x100 * b.val + 4 * k.val
  | .ld n (.LD_S k) => 0x43000000 + 0x400 * n.val + 0x300 + 4 * k.val
  | .pln .PLN_CFG => 0x44000000 + 0x000
  | .pln .PLN_STAT => 0x44000000 + 0x004
  | .pln .PLN_MARGIN => 0x44000000 + 0x008
  | .pln .PLN_TICKS => 0x44000000 + 0x00C
  | .pln .PLN_MISS_CNT => 0x44000000 + 0x010
  | .arm a .ARM_CTRL => 0x44001000 + 0x200 * a.val + 0x000
  | .arm a .ARM_STAT => 0x44001000 + 0x200 * a.val + 0x004
  | .arm a .ARM_QDEPTH => 0x44001000 + 0x200 * a.val + 0x008
  | .arm a .ARM_OVR => 0x44001000 + 0x200 * a.val + 0x00C
  | .arm a .ARM_ACC_SHARE => 0x44001000 + 0x200 * a.val + 0x010
  | .arm a .ARM_STOP_RATE => 0x44001000 + 0x200 * a.val + 0x014
  | .arm a .ARM_RATE => 0x44001000 + 0x200 * a.val + 0x018
  | .arm a .ARM_LAMBDA => 0x44001000 + 0x200 * a.val + 0x01C
  | .arm a .ARM_LAMBDA_K => 0x44001000 + 0x200 * a.val + 0x020
  | .arm a .ARM_WEIGHT => 0x44001000 + 0x200 * a.val + 0x024
  | .arm a .ARM_VNOM => 0x44001000 + 0x200 * a.val + 0x028
  | .arm a .ARM_VSAFE => 0x44001000 + 0x200 * a.val + 0x02C
  | .arm a .ARM_DONE_ID => 0x44001000 + 0x200 * a.val + 0x030
  | .arm a (.JNT_VMAX_LO j) => 0x44001000 + 0x200 * a.val + 0x100 + 0x20 * j.val + 0x00
  | .arm a (.JNT_VMAX_HI j) => 0x44001000 + 0x200 * a.val + 0x100 + 0x20 * j.val + 0x04
  | .arm a (.JNT_AMAX_LO j) => 0x44001000 + 0x200 * a.val + 0x100 + 0x20 * j.val + 0x08
  | .arm a (.JNT_AMAX_HI j) => 0x44001000 + 0x200 * a.val + 0x100 + 0x20 * j.val + 0x0C
  | .arm a (.JNT_OVS_LO j) => 0x44001000 + 0x200 * a.val + 0x100 + 0x20 * j.val + 0x10
  | .arm a (.JNT_OVS_HI j) => 0x44001000 + 0x200 * a.val + 0x100 + 0x20 * j.val + 0x14
  | .arm a (.JNT_TFF j) => 0x44001000 + 0x200 * a.val + 0x100 + 0x20 * j.val + 0x18
  | .stp i .STP_CTRL => 0x44008000 + 0x100 * i.val + 0x000
  | .stp i .STP_STAT => 0x44008000 + 0x100 * i.val + 0x004
  | .stp i .STP_CFG => 0x44008000 + 0x100 * i.val + 0x008
  | .stp i .STP_TIMING => 0x44008000 + 0x100 * i.val + 0x00C
  | .stp i .STP_VLIM => 0x44008000 + 0x100 * i.val + 0x010
  | .stp i .STP_ACC => 0x44008000 + 0x100 * i.val + 0x014
  | .stp i .STP_POS_LO => 0x44008000 + 0x100 * i.val + 0x018
  | .stp i .STP_POS_HI => 0x44008000 + 0x100 * i.val + 0x01C
  | .stp i .STP_TGT_LO => 0x44008000 + 0x100 * i.val + 0x020
  | .stp i .STP_TGT_HI => 0x44008000 + 0x100 * i.val + 0x024
  | .stp i .STP_SPD => 0x44008000 + 0x100 * i.val + 0x028
  | .stp i .STP_OVS => 0x44008000 + 0x100 * i.val + 0x02C
  | .stp i .STP_QDEPTH => 0x44008000 + 0x100 * i.val + 0x030
  | .stp i .STP_MV_TGT_LO => 0x44008000 + 0x100 * i.val + 0x034
  | .stp i .STP_MV_TGT_HI => 0x44008000 + 0x100 * i.val + 0x038
  | .stp i .STP_MV_V => 0x44008000 + 0x100 * i.val + 0x03C
  | .stp i .STP_MV_CMD => 0x44008000 + 0x100 * i.val + 0x040
  | .stp i .STP_SET_LO => 0x44008000 + 0x100 * i.val + 0x044
  | .stp i .STP_SET_HI => 0x44008000 + 0x100 * i.val + 0x048
  | .stp i .STP_QTH_HI => 0x44008000 + 0x100 * i.val + 0x04C
  | .stp i .STP_QTH_LO => 0x44008000 + 0x100 * i.val + 0x050
  | .stp i .STP_IRUN => 0x44008000 + 0x100 * i.val + 0x054
  | .stp i .STP_IHOLD => 0x44008000 + 0x100 * i.val + 0x058
  | .stp i .STP_QV => 0x44008000 + 0x100 * i.val + 0x05C
  | .stp i .STP_KP => 0x44008000 + 0x100 * i.val + 0x060
  | .stp i .STP_KI => 0x44008000 + 0x100 * i.val + 0x064
  | .stp i .STP_HOLD_DLY => 0x44008000 + 0x100 * i.val + 0x068
  | .stp i .STP_STEPS => 0x44008000 + 0x100 * i.val + 0x06C
  | .stp i .STP_DONE_ID => 0x44008000 + 0x100 * i.val + 0x070
  | .stp i .STP_BAD => 0x44008000 + 0x100 * i.val + 0x074
  | .ust i (.UST_ENTRY k) => 0x4400C000 + 0x400 * i.val + 4 * k.val
  | .kn i .KN_CTRL => 0x30030000 + 0x8000 * i.val + 0x000
  | .kn i .KN_STAT => 0x30030000 + 0x8000 * i.val + 0x004
  | .kn i .KN_BUSY => 0x30030000 + 0x8000 * i.val + 0x008
  | .kn i .KN_SOLVES => 0x30030000 + 0x8000 * i.val + 0x00C
  | .kn i (.KC_STAT c) => 0x30030000 + 0x8000 * i.val + 0x100 + 0x40 * c.val + 0x00
  | .kn i (.KC_SEQ_POST c) => 0x30030000 + 0x8000 * i.val + 0x100 + 0x40 * c.val + 0x04
  | .kn i (.KC_SEQ_PUB c) => 0x30030000 + 0x8000 * i.val + 0x100 + 0x40 * c.val + 0x08
  | .kn i (.KC_SIG_DIM c) => 0x30030000 + 0x8000 * i.val + 0x100 + 0x40 * c.val + 0x0C
  | .kn i (.KC_SIG_NNZ c) => 0x30030000 + 0x8000 * i.val + 0x100 + 0x40 * c.val + 0x10
  | .kn i (.KC_SIG_CRC c) => 0x30030000 + 0x8000 * i.val + 0x100 + 0x40 * c.val + 0x14
  | .kn i (.KC_BOUND c) => 0x30030000 + 0x8000 * i.val + 0x100 + 0x40 * c.val + 0x18
  | .kn i (.KC_ITER c) => 0x30030000 + 0x8000 * i.val + 0x100 + 0x40 * c.val + 0x1C
  | .kn i (.KC_CYC c) => 0x30030000 + 0x8000 * i.val + 0x100 + 0x40 * c.val + 0x20
  | .kn i (.KC_PIV c) => 0x30030000 + 0x8000 * i.val + 0x100 + 0x40 * c.val + 0x24
  | .kn i (.KC_REUSED c) => 0x30030000 + 0x8000 * i.val + 0x100 + 0x40 * c.val + 0x28
  | .kn i (.KC_COLD c) => 0x30030000 + 0x8000 * i.val + 0x100 + 0x40 * c.val + 0x2C
  | .kn i (.KC_SUPERSEDED c) => 0x30030000 + 0x8000 * i.val + 0x100 + 0x40 * c.val + 0x30
  | .stk .STK_CTRL => 0x30020000 + 0x000
  | .stk .STK_STAT => 0x30020000 + 0x004
  | .stk .STK_CFG => 0x30020000 + 0x008
  | .stk .STK_SKEW_LIM => 0x30020000 + 0x00C
  | .stk (.STK_DLY_TICK k) => 0x30020000 + 0x010 + 4 * k.val
  | .stk .STK_HOT_UP => 0x30020000 + 0x020
  | .stk .STK_HOT_DN => 0x30020000 + 0x024
  | .stk .STK_WARM_UP => 0x30020000 + 0x028
  | .stk .STK_WARM_DN => 0x30020000 + 0x02C
  | .stk .STK_FAIL_TASK => 0x30020000 + 0x030
  | .stk .STK_RELEASE => 0x30020000 + 0x034
  | .stk .STK_CANCEL => 0x30020000 + 0x038
  | .stk .STK_DESC_CMD => 0x30020000 + 0x03C
  | .stk (.STK_DESC_STAGE k) => 0x30020000 + 0x040 + 4 * k.val
  | .stk .STK_BUF_CMD => 0x30020000 + 0x080
  | .stk (.STK_BUF_STAGE k) => 0x30020000 + 0x090 + 4 * k.val
  | .stk (.STK_QSTAT q) => 0x30020000 + 0x100 + 4 * q.val
  | .stk (.STK_QCFG q) => 0x30020000 + 0x200 + 4 * q.val
  | .stk (.STK_QWAIT q) => 0x30020000 + 0x300 + 4 * q.val
  | .stk (.STK_TL_LOAD t) => 0x30020000 + 0x400 + 0x10 * t.val
  | .stk (.STK_TL_GAP t) => 0x30020000 + 0x404 + 0x10 * t.val
  | .stk (.STK_TL_MEM t) => 0x30020000 + 0x408 + 0x10 * t.val
  | .stk (.STK_TL_TASKS t) => 0x30020000 + 0x40C + 0x10 * t.val
  | .stk (.STK_TS0 n) => 0x30020000 + 0x8000 + 8 * n.val
  | .stk (.STK_TS1 n) => 0x30020000 + 0x8004 + 8 * n.val
  | .ic (.IC_SRC_CFG s) => 0x30010000 + 4 * s.val
  | .ic (.IC_PEND w) => 0x30010000 + 0x800 + 4 * w.val
  | .ic (.IC_LIVE w) => 0x30010000 + 0x840 + 4 * w.val
  | .ic (.IC_CLAIMED w) => 0x30010000 + 0x880 + 4 * w.val
  | .ic (.IC_SW k) => 0x30010000 + 0x8C0 + 4 * k.val
  | .ic (.IC_SW_SET k) => 0x30010000 + 0x8C8 + 4 * k.val
  | .ic (.IC_SW_CLR k) => 0x30010000 + 0x8D0 + 4 * k.val
  | .ic (.IC_GRP_HOLD g) => 0x30010000 + 0x900 + 4 * g.val
  | .ic (.IC_TGT t) => 0x30010000 + 0xA00 + 4 * t.val
  | .ic (.IC_CLAIM t) => 0x30010000 + 0xB00 + 4 * t.val
  | .ic .IC_COMPLETE => 0x30010000 + 0xC00
  | .ic .IC_STAT => 0x30010000 + 0xC04
  | .ic .IC_SPURIOUS => 0x30010000 + 0xC08
  | .ic .IC_REDIRECTS => 0x30010000 + 0xC0C
  | .si .SI_STAT => 0x30090000 + 0x000
  | .si .SI_CYCLE => 0x30090000 + 0x004
  | .si .SI_PSET_ID => 0x30090000 + 0x008
  | .si .SI_PSET_GEN => 0x30090000 + 0x00C
  | .si .SI_LOCK => 0x30090000 + 0x010
  | .si .SI_INPUTS => 0x30090000 + 0x014
  | .si .SI_OUTPUTS => 0x30090000 + 0x018
  | .si .SI_XC_CNT => 0x30090000 + 0x01C
  | .si (.SI_ARM_STAT a) => 0x30090000 + 0x100 + 0x20 * a.val
  | .si (.SI_VSAFE a) => 0x30090000 + 0x104 + 0x20 * a.val
  | .si (.SI_VMEAS a) => 0x30090000 + 0x108 + 0x20 * a.val
  | .si (.SI_DMIN a) => 0x30090000 + 0x10C + 0x20 * a.val
  | .si (.SI_VPAIR p) => 0x30090000 + 0x200 + 4 * p.val
  | .si (.SI_JVLIM n) => 0x30090000 + 0x400 + 4 * n.val
  | .si (.SG_STAT c) => 0x30090000 + 0x600 + 0x10 * c.val
  | .si (.SG_SEQ c) => 0x30090000 + 0x604 + 0x10 * c.val
  | .si (.SG_ERR c) => 0x30090000 + 0x608 + 0x10 * c.val
  | .si (.SG_AGE c) => 0x30090000 + 0x60C + 0x10 * c.val
  | .si (.SG_UNMATCHED p) => 0x30090000 + 0xA00 + 4 * p.val
  | .si .SI_REQ => 0x30090000 + 0x8000
  | .si .SI_TOKEN => 0x30090000 + 0x8004
  | .si .SI_EVT => 0x30090000 + 0x8008
  | .ch .CH_CTRL => 0x30040000 + 0x000
  | .ch .CH_STAT => 0x30040000 + 0x004
  | .ch .CH_ROLE => 0x30040000 + 0x008
  | .ch .CH_CYCLE => 0x30040000 + 0x00C
  | .ch .CH_SCHED_ID => 0x30040000 + 0x010
  | .ch .CH_OFFSET => 0x30040000 + 0x014
  | .ch .CH_SYNC_MASK => 0x30040000 + 0x018
  | .ch .CH_LINKDLY_A => 0x30040000 + 0x01C
  | .ch .CH_LINKDLY_B => 0x30040000 + 0x020
  | .ch .CH_NULL_CNT => 0x30040000 + 0x024
  | .ch .CH_ERR_CNT => 0x30040000 + 0x028
  | .ch .CH_DIFF_CNT => 0x30040000 + 0x02C
  | .ch .CH_VIOL_CNT => 0x30040000 + 0x030
  | .ch .CH_REINT_CNT => 0x30040000 + 0x034
  | .ch .CH_CS_CNT => 0x30040000 + 0x038
  | .ch (.CH_V1_DLY c) => 0x30040000 + 0x040 + 4 * c.val
  | .ch (.CH_SLOT_STAT s) => 0x30040000 + 0x104 + 4 * s.val
  | .cp x .CP_CTRL => 0x30044000 + 0x1000 * x.val + 0x000
  | .cp x .CP_STAT => 0x30044000 + 0x1000 * x.val + 0x004
  | .cp x .CP_MAP => 0x30044000 + 0x1000 * x.val + 0x008
  | .cp x (.CP_VIOL p) => 0x30044000 + 0x1000 * x.val + 0x010 + 4 * p.val
  | .cp x (.CP_LINKDLY p) => 0x30044000 + 0x1000 * x.val + 0x030 + 4 * p.val
  | .cp x .CP_ARB_CNT => 0x30044000 + 0x1000 * x.val + 0x050
  | .cp x .CP_MASQ_CNT => 0x30044000 + 0x1000 * x.val + 0x054
  | .cp x .CP_RESID => 0x30044000 + 0x1000 * x.val + 0x058
  | .pc .PC_CTRL => 0x30080000 + 0x000
  | .pc .PC_STAT => 0x30080000 + 0x004
  | .pc .PC_CONFIRM => 0x30080000 + 0x008
  | .pc .PC_CONF_CNT => 0x30080000 + 0x00C
  | .pc .PC_HEALTH_A => 0x30080000 + 0x010
  | .pc .PC_HEALTH_B => 0x30080000 + 0x014
  | .pc .PC_MISM_A => 0x30080000 + 0x018
  | .pc .PC_MISM_B => 0x30080000 + 0x01C
  | .pc .PC_MISM_WHERE => 0x30080000 + 0x020
  | .pc .PC_SWITCH_CNT => 0x30080000 + 0x024
  | .pc .PC_GAP_CNT => 0x30080000 + 0x028
  | .pc .PC_RETRY_LIM => 0x30080000 + 0x02C
  | .pc .PC_LBIST_INT => 0x30080000 + 0x030
  | .pc .PC_XFER => 0x30080000 + 0x034
  | .pc .PC_LAST_SW => 0x30080000 + 0x038
  | .hm .DEV_IDENT => 0x300A0000 + 0x0000
  | .hm .HM_ZVER => 0x300A0000 + 0x0004
  | .hm .HM_STAT => 0x300A0000 + 0x0008
  | .hm .HM_DB_POST => 0x300A0000 + 0x0100
  | .hm .HM_DB_FREE => 0x300A0000 + 0x0104
  | .hm .HM_DB_STAT => 0x300A0000 + 0x0108
  | .hm (.HM_SLOTS k) => 0x300A0000 + 0x010C + 4 * k.val
  | .hm .HM_EVT_HEAD => 0x300A0000 + 0x0200
  | .hm (.HM_EVT_W k) => 0x300A0000 + 0x0204 + 4 * k.val
  | .hm .HM_EVT_FILL => 0x300A0000 + 0x0214
  | .hm .HM_EVT_LOST => 0x300A0000 + 0x0218
  | .hm (.HM_MSIX_TABLE k) => 0x300A0000 + 0x2000 + 4 * k.val
  | .hm (.HM_MSIX_PBA k) => 0x300A0000 + 0x3000 + 4 * k.val
  | .hm .HM_PCI_CMD => 0x1000000000004
  | .hm .HM_PCI_MSIX => 0x1000000000008
  | .lk .LK_CTRL => 0x30060000 + 0x000
  | .lk .LK_STAT => 0x30060000 + 0x004
  | .lk .LK_CFG => 0x30060000 + 0x008
  | .lk .LK_NEXT_LO => 0x30060000 + 0x00C
  | .lk .LK_NEXT_HI => 0x30060000 + 0x010
  | .lk .LK_OLDEST_LO => 0x30060000 + 0x014
  | .lk .LK_OLDEST_HI => 0x30060000 + 0x018
  | .lk .LK_UNFLUSHED => 0x30060000 + 0x01C
  | .lk .LK_DROPPED => 0x30060000 + 0x020
  | .lk .LK_PF_LOST => 0x30060000 + 0x024
  | .lk .LK_MRAM_BAD => 0x30060000 + 0x028
  | .lk .LK_FLUSHES => 0x30060000 + 0x02C
  | .lk .LK_PCYCLE => 0x30060000 + 0x030
  | .lk .LK_OPTIME_LO => 0x30060000 + 0x034
  | .lk .LK_OPTIME_HI => 0x30060000 + 0x038
  | .otp .OTP_STAT => 0x30070000 + 0x000
  | .otp .OTP_CMD => 0x30070000 + 0x004
  | .otp .OTP_ADDR => 0x30070000 + 0x008
  | .otp .OTP_DATA => 0x30070000 + 0x00C
  | .otp (.OTP_ARB c) => 0x30070000 + 0x020 + 4 * c.val
  | .otp .OTP_KEYS => 0x30070000 + 0x040

end Sys2Proof
end

