-- ==== Sys2Proof/Machine/State.lean ====
section
/-! DEFINITION. The state of the GC8064: every register, buffer, queue, counter, mode and line the spec gives it, and the
queue of commands that wait. Sparse tables list what differs from the entry's reset value. -/

namespace Sys2Proof.Machine

open Sys2Proof

/-- Why a run stops although the spec gives the command no effect that goes on: none is needed, so the type is empty. -/
inductive Fault where
  deriving DecidableEq, Repr

/-- Why a command has no meaning. -/
inductive Refusal where
  /-- Raised by an arm of `exec` whose command has no meaning yet, with the command's mnemonic; safe: nothing runs. -/
  | notModelled (mnemonic : String)
  deriving DecidableEq, Repr

/-- The period sequencer (01 R32 to R35): whether it runs, the instant of period 0, the period length in force
(true: 62.5 us), the index of the next boundary, a pending restart with its instant, and whether the first adoption of
Chain cycle timing since reset has taken place. -/
structure Seq where
  running : Bool := false
  base : Time := 0
  long : Bool := false
  next : Nat := 0
  restart : Option Time := none
  adopted : Bool := false
  deriving DecidableEq, Repr

/-- The stamps of one PTP exchange of a gateway port (02 R66), in 1/256 ns: a two-step Sync that waits for its Follow_Up (sequence
number, ingress), the t1 and t2 of one Sync that wait for an offset and those of the Sync last completed, the egress t3 of the last delay
request, its sequence number and whether it was a peer request, the mean path delay; and of a master port the stamp of the last delay
request received, the sequence count of its Sync messages and the egress stamp of the last one (02 R65). -/
structure PtpPort where
  rx : Option (Nat × Int) := none
  reqSeq : Nat := 0
  t1 : Option Int := none
  t2 : Option Int := none
  m1 : Option Int := none
  s1 : Option Int := none
  t3 : Option Int := none
  mean : Option Int := none
  peer : Bool := false
  respStamp : Int := 0
  syncSeq : Nat := 0
  syncStamp : Int := 0
  deriving DecidableEq, Repr

/-- The time service (02): the instant at which the time base started, the steps made since (1/256 ns), the one step
that is known and waits for its instant (ns, instant, next state), whether a step has been made since reset or restart,
the remainder that rate steering has to remove (1/256 ns), the requested correction, the count of consecutive offsets
below 100 ns, the validity of the two sources, the presence of the reference, a set command on its way into the fabric
island, the stamps of the gateway ports, and the best foreign master that each gateway port has heard, with the rank of its data set
(R65). -/
structure TimeSvc where
  start : Option Time := none
  ofs : Int := 0
  step : Option (Int × Time × Nat) := none
  stepped : Bool := false
  remainder : Int := 0
  rateReq : Int := 0
  good : Nat := 0
  ptpValid : Bool := false
  chainValid : Bool := false
  refPresent : Bool := true
  clockFault : Bool := false
  setCross : Option (Nat × Nat) := none
  ptp : List (Fin 4 × PtpPort) := []
  foreign : List (Fin 4 × (BitVec 80 × Nat)) := []
  deriving DecidableEq, Repr

/-- One entry of a capture buffer (02 R71). -/
structure CapEntry where
  sec : Nat
  ns : Nat
  frac : Nat
  rise : Bool
  state : Nat
  deriving DecidableEq, Repr

/-- A committed pulse schedule (02 R73): start, period and width in 1/256 ns of cell time, one-shot or periodic with
its count, and the index of the next edge. -/
structure Pulse where
  start : Nat
  period : Nat
  width : Nat
  periodic : Bool
  count : Nat
  k : Nat
  deriving DecidableEq, Repr

/-- A pulse output: the schedule in force, a schedule that follows after the present pulse with the cell time of its commit (02 R73,
R81), and whether a pulse is being driven. -/
structure PulseOut where
  cur : Option Pulse := none
  next : Option (Pulse × Nat) := none
  high : Bool := false
  deriving DecidableEq, Repr

/-- A Locket record (17 R532); the check value is `Rec.crc` of `Machine/Locket.lean`, and `bad` marks a slot whose
write failed twice (R540). -/
structure Rec where
  type : Nat
  tstate : Nat
  sev : Nat
  repSat : Bool := false
  spanSat : Bool := false
  addr : Word
  rep : Nat := 1
  pcycle : Nat
  optime : Nat
  sec : Nat
  ns : Nat
  span : Nat := 0
  payload : List Byte
  bad : Bool := false
  deriving DecidableEq, Repr

/-- A flush in progress (17 R538): its start instant, the first index it copies and the index after the last. -/
structure Flush where
  start : Time
  first : Nat
  until_ : Nat
  deriving DecidableEq, Repr

/-- One filter of the event stream (16 R524, 0x0604). -/
structure EvFilter where
  en : Bool := false
  lo : Nat := 0
  hi : Nat := 0
  addr : Word := 0
  mask : Word := 0
  deriving DecidableEq, Repr

/-- Locket (17): the next record index, the index after the last flushed one, the
records of the volatile buffer and of the MRAM ring by index, the flush in progress, the instant from which the next record may be
accepted, the records discarded since the last RECORDS_LOST record with the instant of the last one, the instant of the last flush, whether power fail has closed the intake, the sequence number
of the ring header last written with what it records, and the mirror of the keep-alive values. -/
structure Locket where
  next : Nat := 0
  flushed : Nat := 0
  buf : List (Nat × Rec) := []
  ring : List (Nat × Rec) := []
  flush : Option Flush := none
  nextAt : Time := 0
  lost : Nat := 0
  lostAt : Time := 0
  lastFlush : Time := 0
  closed : Bool := false
  pfLost : Nat := 0
  headerSeq : Nat := 0
  headerNext : Nat := 0
  headerLost : Nat := 0
  clean : Bool := true
  mirror : Nat × Nat := (0, 0)
  filters : List (Fin 8 × EvFilter) := []
  deriving DecidableEq, Repr

/-- The keep-alive domain (19 R586, R592 to R594): power cycles, operating time in 1/64 ns with the device
instant of the last tick, validity at power-up, the copy of the reset qualification, whether it runs from `VDD_KA` (R606), the
consecutive samples of RST_N, whether RST_N is taken as low, the held-time counter, the held time in ms of the last release, the stuck flag, the ignore timer; the
supplies and reset that act now with the cause of the last reset; power fail (R597 to R599), a deferred reset (R596); and what the
next boot records in Locket: a power-up, and a held or stuck RST_N as record type and value. -/
structure Power where
  pcycle : Nat := 0
  optime : Nat := 0
  tickAt : Time := 0
  kaValid : Bool := true
  pulseQual : Bool := false
  maxHold : Nat := 0
  kaSupply : Bool := false
  rstHigh : Nat := 2
  rstLow : Nat := 0
  rstIsLow : Bool := false
  held : Nat := 0
  heldMs : Nat := 0
  stuck : Bool := false
  highRun : Nat := 0
  supplies : Bool := true
  reset : Bool := false
  cause : Nat := 1
  pfail : Bool := false
  pfDone : Bool := false
  pfHold : Bool := false
  rstDeferred : Bool := false
  powerUp : Bool := true
  record : Option (Nat × Nat) := none
  deriving DecidableEq, Repr

/-- A PTP message that an Ethernet port sent (02 R65): times in 1/256 ns; an Announce with `TB_UTC`; the port data set read, as whether
the port is a slave port and its mean path delay. -/
inductive PtpSent where
  | sync
  | followUp (t1 : Int)
  | announce (utc : Word)
  | delayReq
  | delayResp (t4 : Int)
  | pdelayReq
  | pdelayResp (t2 t3 : Int)
  | portData (slave : Bool) (mean : Option Int)
  deriving DecidableEq, Repr

/-- What an Ethernet port sent (02 R84 to R86): a plant frame's bytes; a Signet telegram with the station and IP addresses it came from and
went to and its UDP port; a PTP message with domain and sequence number; the answer to an ARP request or to a neighbour solicitation, with
the station it went to, the address it names and the station address it gives. -/
inductive EthSent where
  | plant (bytes : List Byte)
  | signet (src dst : BitVec 48) (v6 : Bool) (srcIp ip : BitVec 128) (udp : Nat) (payload : List Byte)
  | ptp (domain seq : Nat) (m : PtpSent)
  | arp (dst : BitVec 48) (ip : Word) (mac : BitVec 48)
  | advert (dst : BitVec 48) (ip : BitVec 128) (mac : BitVec 48)
  deriving DecidableEq, Repr

/-- A management transaction in progress (02 R88): a read or a write, the PHY and the register it addresses, the data of a write, the instant at
which it started. -/
structure MdioOp where
  rd : Bool
  phy : Fin 32
  reg : Fin 32
  data : BitVec 16 := 0
  since : Time
  deriving DecidableEq, Repr

/-- The Ethernet ports beside their registers (02 R83 to R88): the frames that each port sent at its last transmission, each with the tag
inserted after its source address (the model's own output, log 32), the speed in the PHY's word (true: 100 Mbit/s), and the management
transaction in progress. -/
structure Eth where
  sent : List (Fin 4 × List (Option (BitVec 16) × EthSent)) := []
  phyFast : List (Fin 4 × Bool) := []
  mdio : Option MdioOp := none
  deriving DecidableEq, Repr

/-- The level of a leg command (03 R91). -/
inductive Lvl where
  | high | low | float
  deriving DecidableEq, Repr

/-- One half-bridge leg (03 R93, R100, R104): the leg command, the two gates with the instant each last turned off and the
instant a turn-on is due, the placed level changes still to come, and the frames in a row held high throughout. -/
structure Leg where
  cmd : Lvl := .float
  gh : Bool := false
  gl : Bool := false
  ghOff : Time := 0
  glOff : Time := 0
  ghDue : Option Time := none
  glDue : Option Time := none
  sched : List (Time × Lvl) := []
  highRun : Nat := 0
  deriving DecidableEq, Repr

/-- A post (03 R106, R107): its period, the RISE and FALL of the legs 0 to 3, how many posts the plane made for that
period, and the plane. -/
structure Post where
  period : Nat
  words : List (Nat × Nat)
  count : Nat := 1
  plane : Fin 2 := 0
  deriving DecidableEq, Repr

/-- What the port has decided for a leg of the next frame (03 R103, R623): level changes at offsets from the frame start,
and the two compares that ACT_RISE and ACT_FALL show. -/
structure LegPlan where
  changes : List (Nat × Lvl)
  actRise : Nat
  actFall : Nat
  deriving DecidableEq, Repr

/-- The choice made at a cut-off edge: period, words, whether they are repeated, whether a post for the present period is
among them, and the plan of each driven leg. -/
structure Cand where
  period : Nat
  words : Option Post
  repeated : Bool
  legs : List (Fin 4 × LegPlan)
  deriving DecidableEq, Repr

/-- One of the six delay lines of a port (03 R98, R99): the tap map in force and a new map that waits for a frame start,
whether a round has succeeded since reset, the largest tap delay of the last completed round in ps, and the tap through which
the line launched its last transition (R96, R97). -/
structure DelayLine where
  map : List Nat := []
  newMap : Option (List Nat) := none
  ok : Bool := false
  maxTap : Nat := 0
  tap : Nat := 0
  deriving DecidableEq, Repr

/-- The inner state of a joint port (03): its legs, the posts of the two planes, the words last used, the choice of the
cut-off edge, the frame in execution, its plan, whether a clear with RUN = 1 lets the port run without a further post (R114),
whether RUN has been cleared in RUNNING (R115), the level of the trip pin and the output of its filter (R109), the safety-island source, a due active short and an active short that is on, and the
delay lines. -/
structure Port where
  legs : List (Fin 4 × Leg) := []
  posts : List (Fin 2 × Post) := []
  used : Option Post := none
  cand : Option Cand := none
  frame : Time := 0
  plan : List (Fin 4 × LegPlan) := []
  resume : Bool := false
  parkDue : Bool := false
  pinLevel : Bool := true
  pin : Bool := false
  safe : Bool := false
  ascDue : Option Time := none
  ascOn : Bool := false
  lines : List (Fin 6 × DelayLine) := []
  deriving DecidableEq, Repr

/-- One input of a current-sense filter (04 R132, R135): gain and offset in force, the clock edge at which the run in
progress reached its length, and the finished runs a window can still hold, each with the clock edges of the bit at which it reached its
length and of the bit that ended it. -/
structure SdInput where
  gain : Nat := 0x400000
  ofs : Nat := 0
  run : Option Time := none
  lastRuns : List (Time × Time) := []
  deriving DecidableEq, Repr

/-- A current-sense filter: the decimation ratio in use and whether it is new from this window edge on (04 R131), and its two inputs. -/
structure Filter where
  m : Nat := 208
  newM : Bool := false
  a : SdInput := {}
  b : SdInput := {}
  deriving DecidableEq, Repr

/-- The modulator clocks (04 R127, R128): the frequency in force (true 8 MHz), the sampling delays in force, and for each
running output the window edge at which it started or last changed frequency. -/
structure SdClocks where
  slow : Bool := false
  dly : List (Fin 9 × Nat) := []
  start : List (Fin 9 × Option Time) := []
  deriving DecidableEq, Repr

/-- A reading of a serial encoder (04 R145): its start, the period with whose samples it is delivered, the request byte sent, and once
it has ended its outcome: none for an error (R150), else the absolute value and what it does to the counter (R149). -/
structure Reading where
  start : Time
  period : Nat
  cmd : Nat
  out : Option (Option (Nat × Int)) := none
  deriving DecidableEq, Repr

/-- The inner state of a feedback unit (04): line levels as last sampled, counter, soft limits in force, the reference of the
decoder, the arrival at a limit (false lower), the estimator of R154 (`dt` none: speed 0), the last counted motion (true
reverse), the absolute readings of R149 and R155 (last valid reading and its start, whether speed may be measured from it,
the speed held in 2^-8 counts/s, the instant of the last change), the reading in progress or not yet delivered, the period of the first
reading since the unit was enabled (R145), whether the next request clears
alarms, whether the last reading failed, the errors of the planning tick and whether they reached the limit, the compare
of R156 with its position, the seconds of the last hit, the pulses on FBO still to come or to end, the stretches in which the level of R624 is active, and the report for
the present window edge (position, speed in 2^-8 counts/s, FB_PSTAT), and the last raw Filigree 2 response with its stop bit
(12 R386). -/
structure FbUnit where
  lines : BitVec 3 := 0
  pos : Int := 0
  lo : Int := -(2 ^ 47)
  hi : Int := 2 ^ 47 - 1
  hall : Option Nat := none
  atLim : Option Bool := none
  moving : Bool := false
  rev : Bool := false
  dt : Option Nat := none
  unc : Bool := false
  tLast : Time := 0
  lastMotion : Option Bool := none
  idx : Int := 0
  lastA : Option (Nat × Time) := none
  spdOk : Bool := false
  spd : Int := 0
  changed : Time := 0
  reading : Option Reading := none
  origin : Option Nat := none
  encClr : Bool := false
  stale : Bool := false
  errs : Nat := 0
  errHit : Bool := false
  armed : Bool := false
  cmp : Int := 0
  hitSec : Nat := 0
  pulses : List (Time × Time) := []
  levels : List (Time × Time) := []
  report : Int × Int × Nat := (0, 0, 2)
  raw : Option (BitVec 72 × Bool) := none
  deriving DecidableEq, Repr


/-- The inner state of a standard law (05 R174 to R195): the integrators, the states of the two biquad sections, the offsets
recorded at the start of RAMP, the runs of RAMP completed, whether HOLD was entered from RAMP, the position of the previous
run, the last limited voltage vector, the vector and the float flag of the last post and of the frame before it, the measured
currents of the previous run, the speed of the previous run, the load estimate, the references posted (newest first), the
signs of the limiting in the previous run, and the last residual. -/
structure LawState where
  i0 : Rat := 0
  i1 : Rat := 0
  n1 : Rat × Rat := (0, 0)
  n2 : Rat × Rat := (0, 0)
  e0 : Rat := 0
  e1 : Rat := 0
  k : Nat := 0
  wasRamp : Bool := false
  pos : Option Rat := none
  vd : Rat := 0
  vq : Rat := 0
  post : Rat × Rat × Bool := (0, 0, true)
  app : Rat × Rat × Bool := (0, 0, true)
  idq : Option (Rat × Rat) := none
  v : Option Rat := none
  load : Rat := 0
  hist : List Rat := []
  sat0 : Int := 0
  sat1 : Int := 0
  res : Rat := 0
  deriving DecidableEq, Repr

/-- The inner state of a loop descriptor (05): the tile its task is placed on with the first period it may run in, whether
the final run of a disable is due, its law, the consecutive invalid, clipped, warned and faulted runs, a warning and a
fault cause that wait for the loop table with a trip word written, the plane that is not active whose fault word is kept (15 R486), the lateness of the present block, what word 0 of the block takes
from the port at the window edge with the state of the own current loop then (R190), the sample block delivered last (R169), and: for a current loop the governing reference, the references due by period and the loop they come
from, those on time, and a direct one; for a motion loop the set-points delivered last and those committed by period. -/
structure LoopState where
  tile : Option (Fin 16 × Nat) := none
  final : Bool := false
  law : LawState := {}
  bad : Nat := 0
  clip : Nat := 0
  warn : Nat := 0
  fault : Nat := 0
  warnDue : Bool := false
  causeDue : Option Nat := none
  tripWord : Bool := false
  wordOf : Option (Fin 2) := none
  refLate : Bool := false
  spLate : Bool := false
  head : Nat := 0
  partner : Nat := 0
  blk : List Word := []
  ref : Nat × Nat := (0, 0)
  due : List (Nat × Fin 256) := []
  refs : List (Nat × Nat × Nat) := []
  direct : Option (Nat × Nat) := none
  sp : Int × Nat × Nat := (0, 0, 0)
  sps : List (Nat × Int × Nat × Nat) := []
  deriving DecidableEq, Repr


/-- A move of a step axis (06 R230): target in steps (a displacement is made absolute when the move is pushed), speed in
2^-8 steps/s, blend and group flags, its id, and the square of the speed with which it passes into its successor, as computed when the
last move was pushed (06 R235). -/
structure StepMove where
  target : Int
  v : Nat
  blend : Bool := false
  grp : Bool := false
  id : Nat := 0
  ve : Nat := 0
  deriving DecidableEq, Repr

/-- The phase of a ramp (06 R231). -/
inductive StepPhase where
  | rest | accel | cruise | hold | decel
  deriving DecidableEq, Repr

/-- A group move in execution (06 R236): the master axis, the steps of the master and the own steps, the own steps made, and
for the master the speed limit in 2^-8 steps/s. -/
structure GroupRun where
  master : Fin 16
  lm : Nat
  li : Nat
  k : Nat := 0
  v : Nat := 0
  deriving DecidableEq, Repr

/-- The inner state of a step axis (06 R230 to R238): phase, speed squared and deceleration in 2^-16 steps^2/s^2 and
2^-16 steps/s^2, the acceleration of the interval last computed, the move in execution, its pass speed squared, the moves
queued, a replacement that waits for the next interval, the due instant of the next step in 2^-32 port cycles, the end of the
pulse, the level of DIR (true reverse), the end of a running DSETUP, a stop-and-reverse with the position at which it took
effect, whether the axis stops under STOP, the group move, whether it has stepped since it last stood still; and for the drive (R240 to R243) the two coil integrators, the
commands last posted, the signs of their limiting, whether the integrators have been set since strong mode was entered, and the instant of
standstill. -/
structure StepAxis where
  phase : StepPhase := .rest
  v2 : Nat := 0
  d : Nat := 0
  acc : Nat := 0
  cur : Option StepMove := none
  pass : Nat := 0
  queue : List StepMove := []
  repl : Option StepMove := none
  due : Option Nat := none
  pulse : Option Time := none
  dir : Bool := false
  dsetup : Option Time := none
  turn : Option Int := none
  stopping : Bool := false
  group : Option GroupRun := none
  run : Bool := false
  iA : Rat := 0
  iB : Rat := 0
  uA : Rat := 0
  uB : Rat := 0
  satA : Int := 0
  satB : Int := 0
  inStrong : Bool := false
  still : Time := 0
  deriving DecidableEq, Repr

/-- A move record of an arm (06 R210): START as a cell time in 1/256 ns when TIMED, the target of each joint of JMASK as a
position or a displacement. -/
structure Move where
  id : Nat
  kind : Nat
  blend : Bool := false
  start : Option Nat := none
  replace : Bool := false
  jmask : Nat := 0
  vfrac : Nat := 1
  afrac : Nat := 1
  blendUs : Nat := 0
  dwellUs : Nat := 0
  tgt : List Int := []
  deriving DecidableEq, Repr

/-- The shape of a segment of a nominal path in nominal time (06 R212, R215): the trapezoidal profile from 0 to 1 with its
acceleration, acceleration time and peak speed; a deceleration ramp of a length in s, whose displacement is a speed; a dwell; a
move that may not accelerate and never ends. -/
inductive Shape where
  | profile (acc ta peak : Rat)
  | ramp (t : Rat)
  | dwell
  | stay
  deriving DecidableEq, Repr

/-- One segment of a nominal path: the move it comes from, its start in nominal time, its length in s, its shape, and the
displacement of each joint (for a ramp the speed of each joint), and the AFRAC of its move. -/
structure Segment where
  id : Nat
  at_ : Rat
  dur : Rat
  shape : Shape
  disp : List Rat
  afrac : Nat := 0
  deriving DecidableEq, Repr

/-- The inner state of an arm of the planner (06 R207 to R226): records accepted and not yet taken, those that wait for a
planner task, those a planner task has taken with the tick at which they become valid, the moves behind the path, where the
path starts and its segments, nominal time in s, the scale, the knots of the Kiln solution in force and the instant of the
first, the key of the free values of its build, the commands that wait for the next interpolator run (1 pause, 2 resume,
3 abort, 4 clear), the set-points last written, the joints whose motion loops ran at the last run, the window edge of the last run, the
change of the scale per s in it, and the start of a timed move that no run has covered yet. -/
structure ArmState where
  inbox : List Move := []
  ready : List Move := []
  taken : List (Nat × List Move) := []
  queue : List Move := []
  base : List Rat := []
  path : List Segment := []
  tau : Rat := 0
  lam : Rat := 0
  knots : List Rat := []
  knotAt : Time := 0
  key : Nat := 0
  cmds : List Nat := []
  sp : List Rat := []
  ran : List Nat := []
  edge : Time := 0
  slope : Rat := 0
  startAt : Option Time := none
  deriving DecidableEq, Repr


/-- A Kiln problem as read from its block (07 R255): the fields of the header, H or the matrix as its upper triangle by rows,
the vectors c or the right-hand sides, the rows of A as columns with values, and b. For the planner's problem, the arms of
each group and the key of the free values it was built with. -/
structure KProblem where
  addr : Word := 0
  kind : Nat
  prec : Nat := 0
  cold : Bool := false
  n : Nat
  m : Nat := 0
  nnz : Nat := 0
  tau : Nat
  delta : Nat
  itW : Nat := 1
  itC : Nat := 1
  shiftK : Nat := 0
  shiftS : Nat := 0
  deadlineUs : Nat := 0
  tol : Nat
  nrhs : Nat := 0
  seq : Nat
  bytes : Nat
  h : List Rat
  c : List Rat
  rows : List (List (Nat × Rat)) := []
  b : List Rat := []
  groups : List (List Nat) := []
  key : Nat := 0
  deriving DecidableEq, Repr

/-- An accepted Kiln request (07 R252): its problem, the address of its result buffer, its task, its acceptance, its deadline, and whether
its bound exceeded that (R272). -/
structure KRequest where
  prob : KProblem
  res : Nat
  task : Option (Fin 4096) := none
  accepted : Time
  deadline : Time
  boundOver : Bool := false
  deriving DecidableEq, Repr

/-- A running solve (07 R264, R265): its request, whether it is warm, whether a warm start was discarded for it, its start; the Kiln edge
in 1/768 ns at which its deadline has stopped it (R268), and how many of its cycles KN_BUSY counts already (R275). -/
structure KRun where
  req : KRequest
  warm : Bool
  disc : Bool
  start : Time
  stopped : Option Nat := none
  counted : Nat := 0
  deriving DecidableEq, Repr

/-- A structure signature (07 R264). -/
structure KSig where
  kind : Nat
  prec : Nat
  n : Nat
  m : Nat
  nnz : Nat
  crc : Word
  nz : List Nat
  deriving DecidableEq, Repr

/-- What a solve leaves (07 R272): the header fields of its result, the solution, the buffer it goes to, N of its problem; of the planner's, groups and
key. -/
structure KResult where
  seq : Nat
  iter : Nat := 0
  flags : Nat := 0
  cycles : Nat := 0
  small : Nat := 0
  zero : Nat := 0
  x : List Rat
  res : Nat := 0
  n : Nat := 0
  groups : List (List Nat) := []
  key : Nat := 0
  deriving DecidableEq, Repr

/-- A reused solution on its way to the result buffer in place of a request that its deadline met in the queue (07 R268): when it is
written, the result, and the request's task. -/
structure KLate where
  at_ : Time
  result : KResult
  task : Option (Fin 4096)
  deriving DecidableEq, Repr

/-- A solve context of a Kiln instance (07 R251, R271): the queued and the running request, a result held for the next tick, whether a
warm start is held and its x and z, the signature of the last accepted problem, the result published last with the half that shows it and
the instant, the reuse on its way for an expired request, the shift of the last accepted problem and its length, and the fabric and Kiln cycles of its latency bound (R266). -/
structure KContext where
  queued : Option KRequest := none
  running : Option KRun := none
  held : Option KResult := none
  warm : Bool := false
  wx : List Rat := []
  wz : List Rat := []
  sig : Option KSig := none
  pub : Option KResult := none
  half : Bool := false
  pubAt : Option Time := none
  late : Option KLate := none
  shiftK : Nat := 0
  shiftS : Nat := 0
  len : Nat := 0
  fab : Nat := 0
  kil : Nat := 0
  deriving DecidableEq, Repr

/-- A write of an Ember tile on its way through the pipeline (08 R290): a register's new value; `ctl` one of tr, lr, ipc, isr,
ivec and mxio; `sr` the bits of a mask; a flag; V or S set; or an amount that an accumulation adds in X3 (R327). -/
inductive EWrite where
  | d (n : Fin 16) (v : D24)
  | a (n : Fin 4) (v : A56)
  | p (n : Fin 8) (v : A40)
  | b (n : Fin 8) (v : A40)
  | l (n : Fin 8) (v : BitVec 18)
  | m (n : Fin 8) (v : D24)
  | ctl (n : Fin 16) (v : Word)
  | sr (mask v : Word)
  | z (x : Bool)
  | n (x : Bool)
  | c (x : Bool)
  | v
  | s
  | acc (n : Fin 4) (x : Int) (sat : Bool)
  deriving DecidableEq, Repr

/-- Where a load puts its data (09 R318); `mx` is an MX-16 data register. -/
inductive LdDst where
  | d (n : Fin 16) | a (n : Fin 4) | q (g : Fin 4) | p (n : Fin 8) | b (n : Fin 8) | l (n : Fin 8) | m (n : Fin 8) | mx (r : Fin 8)
  deriving DecidableEq, Repr

/-- Multiply, multiply and accumulate, multiply and subtract (09 R326). -/
inductive MulOp where
  | mpy | mac | msu
  deriving DecidableEq, Repr

/-- What a memory access of a tile does with its data: a load, a dual load, a native multiply over lanes (accumulator, word of
the X operand, whether the product is negated), or an MX-16 multiply. -/
inductive MemAct where
  | load (r : LdDst)
  | load2 (k : Fin 8)
  | mul (op : MulOp) (sat : Bool) (lanes : List (Fin 4 × Nat × Bool))
  | mxMul (op : MulOp) (ac : Fin 2)
  deriving DecidableEq, Repr

/-- A memory operand: the words read from tile memory, or an outside access of n words at an address (08 R281). -/
inductive Opnd where
  | words (ws : List Word)
  | outside (addr n : Nat)
  deriving DecidableEq, Repr

/-- An outside store on its way (08 R281): the address and the task of the instruction, the address stored to, the words. -/
structure OutStore where
  pc : Nat
  task : Option (Fin 4096)
  addr : Nat
  words : List Word
  deriving DecidableEq, Repr

/-- What a frozen tile waits for (08 R281): the data of an outside load, with the address of the instruction and the latency of its
writes, or room in its store queue for a store. -/
inductive Wait where
  | load (pc lat : Nat) (act : MemAct) (x y : Opnd)
  | store (q : OutStore)
  deriving DecidableEq, Repr

/-- A branch whose delay slots issue (08 R292): the slots left, the target when it is taken, the mode at the target, whether lr
takes the address after the slots and bit 0 of it (R305), and whether sr takes isr at the target (R297). -/
structure Branch where
  left : Nat
  target : Option Nat := none
  toMx : Bool := false
  link : Option Bool := none
  reti : Bool := false
  deriving DecidableEq, Repr

/-- How the run of a task ended: by tend, a fault with its code and address, or a budget stop (08 R299, R301; 10 R347). -/
inductive EndKind where
  | tend
  | fault (code addr : Nat)
  | budget
  deriving DecidableEq, Repr

/-- The content of a prefetch slot (10 R349): the task, its entry address and mode, the four arguments resolved, the top of its
stack, whether it waits for its sample block, and whether it may start chained. -/
structure Slot where
  task : Fin 4096
  entry : Nat
  mx : Bool
  args : List A40
  top : A40
  waits : Bool := false
  chain : Bool := true
  deriving DecidableEq, Repr

/-- One Ember tile (08 R283, R284): the task it runs, its registers, the writes in the pipeline with the cycle in which each
takes effect, the cycle count, the address of the next instruction, the branch whose slots issue, the issues left of a repeat,
the wait of a freeze, since when a store waits, and an end of the run that waits for it (R299), the outside store queue, a delivered interrupt not yet accepted, ended runs that Stack has not yet been
told of, the prefetch slot, the word addresses of its memory that hold an uncorrectable error (R280), and the cycles of the queued runs
that ended since the last tier measurement (10 R360). -/
structure Tile where
  task : Option (Fin 4096) := none
  d : List (Fin 16 × D24) := []
  a : List (Fin 4 × A56) := []
  p : List (Fin 8 × A40) := []
  b : List (Fin 8 × A40) := []
  l : List (Fin 8 × BitVec 18) := []
  m : List (Fin 8 × D24) := []
  sr : Word := 0x100
  tr : Word := 0
  lr : Word := 0
  ipc : Word := 0
  isr : Word := 0
  isrc : Word := 0
  ivec : Word := 0
  tcyc : Word := 0
  mxio : Word := 0
  pend : List (Nat × EWrite) := []
  cyc : Nat := 0
  pc : Nat := 0x40000
  br : Option Branch := none
  rep : Option Nat := none
  wait : Option Wait := none
  frozen : Time := 0
  ending : Option EndKind := none
  stores : List OutStore := []
  req : Option (Fin 512) := none
  ends : List (Fin 4096 × EndKind) := []
  slot : Option Slot := none
  bad : List Nat := []
  qcyc : Nat := 0
  deriving DecidableEq, Repr

/-- What Stack holds of a task beside its status record (10 R334 to R350): its descriptor as 16 words, the instant of the
release in progress, the period of the last accepted release, its place on a delay list with the tick at which it expires,
whether the last release was an overrun, whether its deadline miss has been counted, whether it goes DORMANT at the end of its
run, the period of its last table run, the tile it is to be placed on or moved to and whether the copy for a move is complete,
whether an invalidation is on its way to its tile, whether each plane has reported the end of its run, code and address of the last
fault reported (08 R299), and the fabric cycle of the last cancel (R341). -/
structure TaskRec where
  desc : List Word := []
  released : Time := 0
  lastRel : Option Nat := none
  delay : Option (Fin 4 × Nat) := none
  overran : Bool := false
  missed : Bool := false
  stopping : Bool := false
  ranAt : Option Nat := none
  want : Option (Fin 16) := none
  copied : Bool := false
  inval : Bool := false
  endA : Bool := false
  endB : Bool := false
  fault : Option (Nat × Nat) := none
  cancelAt : Option Nat := none
  deriving DecidableEq, Repr

/-- What Stack holds of a buffer (10 R337, R357, R358): its descriptor as 4 words, its tier, the tier it is being copied to with
whether the copy is complete, and whether a task that names it has been slotted since the copy began. -/
structure BufRec where
  desc : List Word := []
  tier : Nat := 0
  want : Option Nat := none
  copied : Bool := false
  spoiled : Bool := false
  deriving DecidableEq, Repr

/-- A release held at its source (10 R343): a store of a tile position with its word, an event source, the host with its word, or a
task whose delay has expired. -/
inductive Held where
  | store (t : Fin 16) (v : Word)
  | event (n : Fin 4096)
  | host (v : Word)
  | delayed (n : Fin 4096)
  deriving DecidableEq, Repr

/-- Stack (10): tasks, buffers, the task operation and the buffer operation that wait for the next handover boundary with their
result codes, held releases in order, whether a rebalance has been asked for, whether the procedure of R354 is to run, the
moves of a rebalance still to make, the word of STK_CFG applied at the last handover boundary (R360), and the period in which the measurement interval began (R357). -/
structure StackState where
  tasks : List (Fin 4096 × TaskRec) := []
  bufs : List (Fin 8192 × BufRec) := []
  descOp : Option (Fin 4096 × Nat × Nat) := none
  bufOp : Option (Fin 8192 × Nat × Nat) := none
  held : List Held := []
  rebal : Bool := false
  changed : Bool := false
  moves : List (Fin 4096 × Fin 16) := []
  cfg : Word := 0x00200014
  measAt : Nat := 0
  deriving DecidableEq, Repr

/-- What a tile position of one plane did with its claim: taken up (false) or completed (true), the source, when, and whether it has been
reported already (11 R378). -/
structure IcMark where
  done : Bool := false
  src : Nat := 0
  time : Time := 0
  told : Bool := false
  deriving DecidableEq, Repr

/-- The interrupt controller beside its registers (11): the instants at which running group hold-off timers expire, whether Hearth is
in its wait state and the PCIe link is up (R370; 16 R508), the sources that an event has raised which no flag holds, until their filter has
passed it (14 R482, 15 R488), the MSI-X messages sent, each with its address and data, oldest first (R380), the redirect timers of pending
sources, each with the time it has kept and since when it runs (R377), and what the tiles of each plane did with their claims that the other
plane's have not done yet (R378). -/
structure IcState where
  pulses : List (Fin 512) := []
  holds : List (Fin 16 × Time) := []
  hearthWaits : Bool := false
  linkUp : Bool := false
  msi : List (Nat × Word) := []
  timers : List (Fin 512 × (Nat × Option Time)) := []
  marks : List ((Fin 2 × Fin 16) × List IcMark) := []
  deriving DecidableEq, Repr

/-- A point or a vector of the cell frame, in mm (12 R401). -/
structure V3 where
  x : Rat := 0
  y : Rat := 0
  z : Rat := 0
  deriving DecidableEq, Repr, Inhabited

/-- When a monitoring function is active (12 R390, R408): off, always, or while a safe input is demanded. -/
inductive Activation where
  | off | always | input (k : Fin 16)
  deriving DecidableEq, Repr, Inhabited

/-- The position source of a joint (12 R387): feedback units, `RATIO`, `POS_TOL` in counts; of SINGLE the bits of a turn by which the channels
decode the response, which the set holds, since the island reads no register of the motion side (R386; log 29). -/
inductive PosSource where
  | none
  | single (fb : Fin 64) (res : Nat)
  | dual (pri sec : Fin 64) (ratio : Rat) (tol : Rat)
  deriving DecidableEq, Repr, Inhabited

/-- A joint of an arm with its JOINT entry (12 R390): source, the kinematic forms of the two channels, `POS_BAD`; counts, 2^-8 count/s for
`sls`, count/s^2 for `aMon`. -/
structure SafeJoint where
  src : PosSource := .none
  kin1 : List Byte := []
  kin2 : List Byte := []
  posBad : Nat := 1
  lo : Int := 0
  hi : Int := 0
  slp : Activation := .off
  sls : Nat := 0
  slsAct : Activation := .off
  sdiRev : Bool := false
  sdiTol : Rat := 0
  sdi : Activation := .off
  sosWin : Rat := 0
  sosVtol : Rat := 0
  vstill : Rat := 0
  stopVtol : Rat := 0
  aMon : Nat := 0
  deriving DecidableEq, Repr, Inhabited

/-- An ARM entry (12 R390): joints, `REACT` (true SS1), stop mode
(true time), `T_D` and `STOP_TMAX` in ms, T_r in us, a_s in mm/s^2, `VCAP`, `DEG_V` and `SLS_TCP` in mm/s. -/
structure SafeArmSec where
  joints : List SafeJoint := []
  reactSs1 : Bool := false
  timed : Bool := false
  tD : Nat := 0
  stopTmax : Nat := 0
  tr : Nat := 0
  as_ : Nat := 0
  vcap : Rat := 0
  degV : Rat := 0
  slsTcp : Option Rat := none
  deriving DecidableEq, Repr, Inhabited

/-- A CAPSULE entry (12 R390). -/
structure Capsule where
  arm : Fin 8
  frame : Nat
  p0 : V3
  p1 : V3
  r : Rat
  tool : Bool
  deriving DecidableEq, Repr, Inhabited

/-- The connection record (13 R440). -/
structure SignetRec where
  connId : Nat
  src : Word
  ver : Nat
  continuity : Bool
  arms : BitVec 8
  port : Fin 5
  udp : Nat
  wd : Nat
  maxAge : Nat
  skew : Nat
  seqWin : Nat
  errLim : Nat
  lock : Bool
  degWin : Nat
  txId : Nat
  txCap : Nat
  txPort : Nat
  txUdp : Nat
  txYaw : Nat
  txMove : V3
  deriving DecidableEq, Repr, Inhabited

/-- An OBJECT entry (12 R390): its connection, PERSON or NEIGHBOUR, v_h and C. -/
structure SafeObject where
  conn : SignetRec
  person : Bool
  vh : Rat
  c : Rat
  deriving DecidableEq, Repr, Inhabited

/-- A ZONE entry (12 R390). -/
structure SafeZone where
  lo : V3
  hi : V3
  keepIn : Bool
  caps : List Nat
  act : Activation
  deriving DecidableEq, Repr, Inhabited

/-- A PAIR entry (12 R390): a capsule with an object (true) or with a capsule. -/
structure SafePair where
  cap : Nat
  isObject : Bool
  other : Nat
  zd : Rat
  zr : Rat
  deriving DecidableEq, Repr, Inhabited

/-- The safety function of an input (12 R418). -/
inductive InputFn where
  | none | sto | ss1 | ss2 | activate
  deriving DecidableEq, Repr, Inhabited

/-- An INPUT entry (12 R390): type (true antivalent), filter in 100 us, discrepancy time in ms, test-pulse source of each line. -/
structure SafeInput where
  anti : Bool := false
  filter : Nat := 0
  disc : Nat := 1
  tps1 : Option (Fin 4) := none
  tps2 : Option (Fin 4) := none
  fn : InputFn := .none
  arms : BitVec 8 := 0
  lock : Bool := false
  deriving DecidableEq, Repr, Inhabited

/-- An OUTPUT entry (12 R390): test interval in 0.1 s, test width and `FB_DLY` in us, brake role, arms, `BRK_DLY` in ms. -/
structure SafeOutput where
  testInt : Nat := 1
  testWidth : Nat := 0
  fbDly : Nat := 10
  brake : Bool := false
  arms : BitVec 8 := 0
  brkDly : Nat := 0
  deriving DecidableEq, Repr, Inhabited

/-- A TESTPULSE entry (12 R390): width in us, interval in ms, `TP_DLY` in us. -/
structure TestPulse where
  width : Nat := 50
  interval : Nat := 1
  tpDly : Nat := 0
  deriving DecidableEq, Repr, Inhabited

/-- A safety parameter set as the channels hold it (12 R389, R390). -/
structure PSet where
  id : Word := 0
  gen : Word := 0
  arms : List SafeArmSec := []
  caps : List Capsule := []
  objects : List SafeObject := []
  zones : List SafeZone := []
  pairs : List SafePair := []
  ssmVtol : Rat := 0
  inputs : List SafeInput := []
  outputs : List SafeOutput := []
  pulses : List TestPulse := []
  xcD : Rat := 2
  xcV : Rat := 20
  xcN : Nat := 3
  deriving DecidableEq, Repr, Inhabited

/-- The content of an accepted telegram (13 R446): demand bits, arms, whether it carries geometry, endpoints, radius, speed,
and t_ref in 1/256 ns of cell time. -/
structure SignetContent where
  demand : Nat := 0
  arms : BitVec 8 := 0
  object : Bool := false
  p0 : V3 := {}
  p1 : V3 := {}
  r : Rat := 0
  vspeed : Rat := 0
  tref : Int := 0
  deriving DecidableEq, Repr

/-- A telegram of a connection that a channel has checked since the last capture, judged there (13 R443, R445): one with a check error, one that
is late, or one whose sequence is to be judged, with its ingress stamp, the instant of its check and its sender (02 R86). -/
inductive SignetItem where
  | check (t : Time)
  | late
  | telegram (bytes : List Byte) (tin : Int) (t : Time) (mac : BitVec 48) (v6 : Bool) (ip : BitVec 128)
  deriving DecidableEq, Repr

/-- A connection's state (13 R447): state code, the state in force in the cycle in progress (R394, R448), last fault, whether it expired, s_last, the watchdog's last restart, whether the
first telegram of a recovery has passed, the check errors within 3,600 s, the counts of SG_ERR, faults found since the last
capture, the capture of detection, the content in force, the telegrams that the next capture takes, and the sender of the last accepted
one. -/
structure SignetConn where
  state : Nat := 0
  was : Nat := 0
  fault : Nat := 0
  expired : Bool := false
  last : Nat := 0
  restart : Time := 0
  run : Bool := false
  errs : List Time := []
  check : Nat := 0
  late : Nat := 0
  repeats : Nat := 0
  lost : Nat := 0
  pend : List Nat := []
  det : Time := 0
  age : Nat := 0
  content : Option SignetContent := none
  inbox : List SignetItem := []
  sender : Option (BitVec 48 × (Bool × BitVec 128)) := none
  deriving DecidableEq, Repr

/-- What a channel keeps of a joint from cycle to cycle (12 R388, R403, R408): the position taken and the speed, the cycles since
the last valid position, and the furthest position for SDI. -/
structure JointTrack where
  q : Option Rat := none
  v : Rat := 0
  age : Nat := 0
  ext : Option Rat := none
  deriving DecidableEq, Repr

/-- An event that calls an arm to a state, with its cause code; cause 0 is none (12 R411, R434). -/
structure SafeEvent where
  arm : Fin 8
  goal : Nat
  cause : Nat
  deriving DecidableEq, Repr

/-- The result of a channel for a cycle (12 R395, R399, R410): events, causes active, pair distances, closing and point speeds,
the values to publish, whether a position was invalid, and the capsule of each return connection. -/
structure ChanResult where
  events : List SafeEvent := []
  active : List (Fin 8 × Nat) := []
  dists : List Rat := []
  speeds : List Rat := []
  vsafe : List (Fin 8 × Rat) := []
  vmeas : List (Fin 8 × Rat) := []
  dmin : List (Fin 8 × Rat) := []
  vpair : List (Nat × Rat) := []
  jvlim : List (Nat × Rat) := []
  posBad : Bool := false
  tx : List (Fin 64 × (V3 × V3 × Rat × Rat)) := []
  deriving DecidableEq, Repr

/-- One channel of the island: its joints, the capsule endpoints of the previous cycle, its own result and the other's that has
arrived (12 R397), what its exchange window ended with: whether its own result was there and whether the other's was, the
cycles in a row with a cross-compare difference, and the differences of the cycle in progress. -/
structure SafeChannel where
  tracks : List (Fin 64 × JointTrack) := []
  ends : List (Nat × (V3 × V3)) := []
  result : Option ChanResult := none
  held : Option ChanResult := none
  window : Option (Bool × Bool) := none
  xcRun : Nat := 0
  xcNew : Nat := 0
  deriving DecidableEq, Repr

/-- The snapshot of a cycle (12 R393): its capture instant, the samples of the feedback units with the raw response, the demand of
each input in the two channels, the requests by arms and operation, the reset accepted with its arms and `ACT`, and the
connections. -/
structure SafeSnap where
  at_ : Time
  samples : List (Fin 64 × (Int × Nat × Option (BitVec 72 × Bool))) := []
  inputs : List (Fin 16 × (Bool × Bool)) := []
  reqs : List (BitVec 8 × Nat) := []
  reset : Option (BitVec 8 × Bool) := none
  conns : List (Fin 64 × SignetConn) := []
  deriving DecidableEq, Repr

/-- The safety state of an arm (12 R411): state code, causes active, the governing cause, the instant at which its stop began with
the joint speeds then, and the SOS reference, both as each channel holds them. -/
structure SafeArm where
  state : Nat := 5
  active : List Nat := [17]
  cause : Nat := 17
  since : Time := 0
  v0 : List Rat := []
  v02 : List Rat := []
  qref : List Rat := []
  qref2 : List Rat := []
  deriving DecidableEq, Repr

/-- A safe input (12 R414 to R416): the filtered levels of the two lines, since when they disagree, an input fault with whether both
lines have shown demand since, and the stretches for which each line has been low since the last test pulse began. -/
structure InputState where
  l1 : Bool := false
  l2 : Bool := false
  since : Option Time := none
  fault : Bool := false
  seen : Bool := false
  lows1 : List (Time × Time) := []
  lows2 : List (Time × Time) := []
  deriving DecidableEq, Repr

/-- A safe output (12 R419 to R423): energised since, the pins of the two channels, the start of a test pulse in each channel, the
instants from which their next tests may start, whether the last de-energising discarded a test of channel 2 (12 R421), a fault, and the
instant at which a brake falls. -/
structure OutputState where
  on : Option Time := none
  p1 : Bool := false
  p2 : Bool := false
  t1 : Option Time := none
  t2 : Option Time := none
  n1 : Time := 0
  n2 : Time := 0
  disc2 : Bool := false
  fault : Bool := false
  brk : Option Time := none
  deriving DecidableEq, Repr

/-- An acknowledge line after its filter (12 R425, R426): level, last rise and fall, and whether it is ignored. -/
structure Sack where
  level : Bool := false
  rise : Option Time := none
  fall : Option Time := none
  ignored : Bool := false
  deriving DecidableEq, Repr

/-- A telegram copied to the island that waits for its check (12 R427): port, UDP port, bytes, corrected ingress stamp, and the station
and IP address it came from (02 R86). -/
structure TelegramCopy where
  port : Fin 5
  udp : Nat
  bytes : List Byte
  tin : Int
  mac : BitVec 48 := 0
  v6 : Bool := false
  ip : BitVec 128 := 0
  deriving DecidableEq, Repr

/-- The safety island (12, 13): the active set, the MRAM slot that is active and the one that holds a verified staged set (18
R579), arms, inputs, outputs, test-pulse sources that are low since an instant and the start of the last pulse of each, the capture instant at which their frames begin (12 R417), acknowledge lines, requests and tokens that wait for a capture,
the token captured with its instant, the snapshot of the cycle in progress, the two channels, faults that wait for the commit
(kind as in SI_ISLAND_FAULT), whether the core supply or a clock has failed, whether every output is held de-energised (12 R31, R398), the
connections, the instants of the telegrams accepted from the ports within 250 us and those that wait for their check, the unmatched ones of
each port since the last commit, the sequence numbers and telegrams of the return connections, channels that restart under new firmware, and
the component whose previous firmware the next commit brings back (18 R576). -/
structure Island where
  set : Option PSet := none
  slot : Option (Fin 2) := none
  staged : Option (Fin 2) := none
  arms : List (Fin 8 × SafeArm) := []
  inputs : List (Fin 16 × InputState) := []
  outputs : List (Fin 12 × OutputState) := []
  tpsLow : List (Fin 4 × Time) := []
  tpsLast : List (Fin 4 × Time) := []
  tpsBase : Option Time := none
  sack1 : Sack := {}
  sack2 : Sack := {}
  reqs : List (BitVec 8 × Nat) := []
  tokens : List Word := []
  token : Option (Time × BitVec 8 × Bool) := none
  snap : Option SafeSnap := none
  ch1 : SafeChannel := {}
  ch2 : SafeChannel := {}
  faults : List Nat := []
  dead : Bool := false
  clockBad : Bool := false
  cut : Bool := false
  conns : List (Fin 64 × SignetConn) := []
  copies : List Time := []
  queue : List TelegramCopy := []
  unmatched : List (Fin 5 × Nat) := []
  tx : List (Fin 64 × (Nat × List Byte)) := []
  restarting : Bool := false
  revert : Option (Fin 6) := none
  deriving DecidableEq, Repr

/-- A slot entry of a schedule (14 R459). -/
structure ChainSlot where
  start : Nat
  len8 : Nat
  owner : Nat
  sync : Bool
  cs : Bool
  payA : Nat
  payB : Nat
  payFb : Nat
  sig : Nat
  deriving DecidableEq, Repr

/-- A stream entry of a schedule (14 R459). -/
structure ChainStream where
  id : Nat
  slot : Nat
  onA : Bool
  onB : Bool
  onFb : Bool
  rx : Bool
  len : Nat
  handle : Nat
  offset : Nat
  deriving DecidableEq, Repr

/-- A schedule (14 R459). -/
structure Sched where
  ver : Nat
  cycleNs : Nat
  id : Word
  launch : Nat
  guard : Nat
  prec : Nat
  intWin : Nat
  listen : Nat
  slots : List ChainSlot
  streams : List ChainStream
  deriving DecidableEq, Repr

/-- The Chain node (14) beside its registers: the accepted schedule, the device instant of the present cycle's start and its number,
the instant from which the listen timeout counts, the end of a back-off, whether the claim has been sent, whether the cycle of
adoption is still running and the full cycles seen since, whether this cycle brought a valid sync frame, the cycles in a row in
which a channel was null throughout and in which both were valid, whether the fallback layout is sent, the deviations of this cycle
by sender and channel (1/256 ns), the last `CORR` of a sender, the cycles since a locked gateway frame or since the timing was taken with the
gateway of this cycle, the accumulated rate, the announced step (cycle, ns) and whether a step is to be announced, the cells seen in
this and the previous cycle, what each slot brought on each channel, the streams received with channel and content, the slots whose
telegrams were copied, the payloads built for slots that wait for their launch with their layout and the last frames sent, whether the last
own frame was reported, the end of its slot, the ends of the last own frame and of the last frame received on the lanes, the ingress of a
link-delay request by channel, the answer last sent to one by channel (t2 and t3, 1/256 ns), and the last link-delay results by channel. -/
structure ChainNode where
  sched : Option Sched := none
  start : Option Time := none
  cycle : Nat := 0
  listen : Time := 0
  backoff : Option Time := none
  claimed : Bool := false
  partial_ : Bool := false
  full : Nat := 0
  synced : Bool := false
  nullA : Nat := 0
  nullB : Nat := 0
  bothOk : Nat := 0
  fb : Bool := false
  devs : List ((Nat × Bool) × Int) := []
  corrs : List ((Nat × Bool) × Int) := []
  gwAge : Nat := 0
  gwCell : Option Nat := none
  offset : Rat := 0
  rho : Rat := 0
  frozen : Option Rat := none
  step : Option (Nat × Int) := none
  announce : Bool := false
  seen : Nat := 0
  seenBefore : Nat := 0
  got : List ((Nat × Bool) × Nat) := []
  data : List ((Nat × Nat) × (Bool × List Byte)) := []
  sigDone : List (Nat × List Byte) := []
  built : List (Nat × (Bool × (List Byte × List Byte))) := []
  sent : Option (List Byte × List Byte) := none
  reported : Bool := false
  ownEnd : Option Time := none
  txEnd : Time := 0
  rxEnd : Time := 0
  request : List (Bool × Int) := []
  answer : List (Bool × (Int × Int)) := []
  delays : List (Bool × List Rat) := []
  deriving DecidableEq, Repr

/-- A Clasp (14 R468, R469, R477, R478) beside its registers: the ports whose frame waits for the tie window with its arrival and
bytes, the end of the frame being forwarded in ARBITRATE, the last frame forwarded with whether it ended with /V/ and the ports it
went to, the violation report last sent (port, offset in 1/256 ns, slot), the egress of link-delay requests by port, the result that it
last returned with its port, and the last results by port. -/
structure Clasp where
  tie : List (Fin 8 × (Time × List Byte)) := []
  busy : Time := 0
  forwarded : Option (List Byte × Bool × List (Fin 8)) := none
  report : Option (Fin 8 × Int × Nat) := none
  requests : List (Fin 8 × Int) := []
  result : Option (Fin 8 × Rat) := none
  delays : List (Fin 8 × List Rat) := []
  deriving DecidableEq, Repr

/-- What plane control compares of one period (15 R487): findings reported for it by kind and place, values posted to the loop table
with the plane that posted them, and the running CRC-32C of the outside stores of each tile position and Kiln (16) of each plane. -/
structure PeriodCmp where
  findings : List (Nat × Nat) := []
  posts : List (Fin 2 × List Nat) := []
  sigs : List ((Fin 2 × Fin 17) × Word) := []
  deriving DecidableEq, Repr

/-- What the plane that is not active has posted to one loop descriptor (15 R486): the values written and not committed, and the references
and set-points committed, each with the period whose window edge delivers it. -/
structure PlanePosts where
  d : Word := 0
  q : Word := 0
  lo : Word := 0
  hi : Word := 0
  vel : Word := 0
  tff : Word := 0
  refs : List (Nat × Nat × Nat) := []
  sps : List (Nat × Int × Nat × Nat) := []
  deriving DecidableEq, Repr

/-- Plane control (15): the period in progress, the ended period that waits for its comparison, the running signatures of untimed
runs, whether the planes are in the TEST of a reset and which of them has passed it, the first period compared, whether the last
completed comparison matched, a planned handover that waits with its cause, the give-ups of the planes with their instants, the
start of each sweep and the planes whose sweep is complete, a give-up on its way to the ports with the plane they still act on, the logic BIST
slices of each tile with the instant of its last full pass, outputs that a plane has made and the other not yet, and what
the plane that is not active has posted to the loop table (R486). -/
structure PlaneCtl where
  cur : PeriodCmp := {}
  prev : Option PeriodCmp := none
  runSigs : List ((Fin 2 × Fin 16) × Word) := []
  boot : Bool := true
  passed : List (Fin 2) := []
  since : Nat := 0
  lastOk : Bool := true
  pend : Option (Fin 2 × Nat) := none
  giveups : List (Fin 2 × Time) := []
  sweepAt : List (Fin 2 × Time) := []
  swept : List (Fin 2) := []
  crossing : List (Fin 64) := []
  former : Fin 2 := 0
  crossAt : Time := 0
  lbist : List ((Fin 2 × Fin 16) × (Nat × Time)) := []
  ahead : List (((Fin 2 × Fin 16) × Nat) × List Word) := []
  others : List (Fin 256 × PlanePosts) := []
  deriving DecidableEq, Repr

/-- A mailbox slot (16 R511 to R515): state code, tag, result code, the command area by offset in the slot, the result payload, the
result that waits for the move to DONE, whether a reset of the PCIe function discards it (R508), whether HCI-1 posted it, the held release that it waits for (10 R343),
and whether a finished slot's status has not been read yet (R529). -/
structure MbSlot where
  state : Nat := 0
  tag : Nat := 0
  code : Nat := 0
  cmd : List Host.Cell := []
  res : List Byte := []
  out : Option (Nat × List Byte) := none
  drop : Bool := false
  qspi : Bool := false
  holds : Option Word := none
  unread : Bool := false
  deriving DecidableEq, Repr

/-- The mailbox (16) beside its registers: the slots, the slots POSTED in the order of their posts and BUSY in the order taken,
whether Hearth restarts, word 0 of the event entry latched last, and how much of a safety parameter set has been staged (total
length, next offset). -/
structure Mail where
  slots : List (Fin 16 × MbSlot) := []
  posted : List (Fin 16) := []
  taken : List (Fin 16) := []
  restarting : Bool := false
  evt0 : Word := 0
  staging : Option (Nat × Nat) := none
  deriving DecidableEq, Repr

/-- An update (18 R572 to R577): phase of UPD_STATUS, component 1 to 6, image length, bytes written, whether the hardware verifier
checks the image, for which slot and since when, the stage of an activation (0 none; components 2 and 3: 1 first plane, 2 window, 3 second
plane, 4 both planes, 5 return after a failure; components 5 and 6: 1 waits for a commit, 2 restarts, 3 window, 4 restarts under the
previous firmware), the plane updated first, the ends of the proving run and of the health window in operating time (ns), and
whether the window has seen what fails its proving run (R573). -/
structure Update where
  phase : Nat := 0
  comp : Nat := 0
  len : Nat := 0
  got : Nat := 0
  checking : Option (Fin 16 × Time) := none
  stage : Nat := 0
  plane : Fin 2 := 0
  proveAt : Nat := 0
  windowAt : Nat := 0
  mishap : Bool := false
  deriving DecidableEq, Repr

/-- Boot, OTP and flash (18): the OTP words that are not zero, the word being programmed with the start; the flash by address, and of its directory
the CONFIRMED slot of each component with the role of the other slot (0 EMPTY, 1 LOADED, 2 TRIAL); the slots whose images run, by
plane and component; whether the device has booted, whether Kindling serves the recovery interface or has stopped; the active
settings generation; whether a core supply has left its window since the reset (12 R430); the update. -/
structure BootState where
  otp : List (Nat × Word) := []
  prog : Option (Nat × Word × Time) := none
  flash : List Host.Cell := []
  dir : List (Fin 6 × (Fin 2 × Nat)) := []
  running : List ((Fin 2 × Fin 6) × Fin 2) := []
  booted : Bool := false
  recovery : Bool := false
  stopped : Bool := false
  gen : Option (Fin 4) := none
  coreOut : Bool := false
  upd : Update := {}
  deriving DecidableEq, Repr

/-- The whole device. -/
structure State where
  /-- The commands that wait, first in, first out. -/
  pending : List Instr := []
  /-- Device time since the islands' clocks started, in 1/256 ns; steps of cell time do not move it. -/
  now : Time := 0
  /-- The register file. -/
  regs : List (Reg × Word) := []
  /-- Memory: shared pool, MRAM, DRAM by fabric address; the tiles' own memories above 2^40. -/
  mem : List Host.Cell := []
  /-- The model's own counter of free values (log 4). -/
  fresh : Nat := 0
  /-- The words the last read answered with (the model's own output, log 5). -/
  rdata : List Word := []
  /-- The cell level address of the device, from the settings record. -/
  ident : Word := 0x1FFFD
  seq : Seq := {}
  time : TimeSvc := {}
  caps : List (Fin 8 × List CapEntry) := []
  pulses : List (Fin 8 × PulseOut) := []
  lk : Locket := {}
  /-- The event stream (16 R520), five words an entry, oldest first. -/
  evts : List (List Word) := []
  pwr : Power := {}
  ports : List (Fin 64 × Port) := []
  axes : List (Fin 16 × StepAxis) := []
  sdclk : SdClocks := {}
  filters : List (Fin 80 × Filter) := []
  fbs : List (Fin 64 × FbUnit) := []
  loops : List (Fin 256 × LoopState) := []
  arms : List (Fin 8 × ArmState) := []
  kiln : List ((Fin 2 × Fin 16) × KContext) := []
  plannerRan : Bool := false
  /-- Whether a planner task was called for at the last planning tick, so that its problem is due at the next (06 R217, R246). -/
  planDue : Bool := false
  tiles : List (Fin 32 × Tile) := []
  stk : StackState := {}
  pc : PlaneCtl := {}
  ic : IcState := {}
  /-- The safety island (12, 13). -/
  si : Island := {}
  /-- The Ethernet ports beside their registers (02). -/
  eth : Eth := {}
  /-- The Chain node (14). -/
  chain : ChainNode := {}
  /-- Clasp A and Clasp B (14). -/
  claspA : Clasp := {}
  /-- See `claspA`. -/
  claspB : Clasp := {}
  /-- The mailbox (16). -/
  mb : Mail := {}
  /-- Boot, OTP and flash (18). -/
  boot : BootState := {}
  deriving DecidableEq, Repr

/-- The device right after reset, before it has booted: every register at its reset value (an untouched register of
`regs` reads as its reset value), every queue empty, every block in its reset state. -/
def State.reset : State := {}

end Sys2Proof.Machine
end

