-- ==== Sys2Proof/Machine/Ops.lean ====
section
/-! DEFINITION. The named operations over registers, memory and time that every meaning uses. -/

namespace Sys2Proof.Machine

open Sys2Proof

/-- The value an untouched register holds: its reset value (the microstep tables have theirs from R240). -/
def regReset : Reg → Word
  | .ust _ (.UST_ENTRY k) => StepTable.entry k
  | r => r.resetWord

/-- A register's word. -/
def State.rd (s : State) (r : Reg) : Word := tget s.regs r (regReset r)

/-- A register given a word. -/
def State.wr (s : State) (r : Reg) (v : Word) : State := { s with regs := tset s.regs r v }

/-- A field of a register, as a number. -/
def State.get (s : State) (f : Field) : Nat := getBits (s.rd f.reg) f.lo f.width

/-- A field of a register given the low bits of a number; the register's other bits are kept. -/
def State.put (s : State) (f : Field) (v : Nat) : State := s.wr f.reg (putBits (s.rd f.reg) f.lo f.width v)

/-- Whether a one-bit field is 1. -/
def State.is (s : State) (f : Field) : Bool := s.get f == 1

/-- A one-bit field set or cleared. -/
def State.putB (s : State) (f : Field) (b : Bool) : State := s.put f (if b then 1 else 0)

/-- An event flag set. -/
def State.flag (s : State) (f : Field) : State := s.put f 1

/-- A 32-bit event counter that stops at its largest value. -/
def State.bump (s : State) (r : Reg) : State := s.wr r (satInc (s.rd r))

/-- A 32-bit counter that wraps. -/
def State.count (s : State) (r : Reg) : State := s.wr r (s.rd r + 1)

/-- A field that counts and stops at its largest value. -/
def State.bumpField (s : State) (f : Field) : State := s.put f (satAdd f.width (s.get f) 1)

/-- A 48-bit LO/HI pair of registers given a value. -/
def State.wr48 (s : State) (lo hi : Reg) (x : Int) : State := (s.wr lo (lo48 x)).wr hi (hi48 x)

/-- The value of a 48-bit LO/HI pair of registers. -/
def State.rd48 (s : State) (lo hi : Reg) : Int := pair48 (s.rd lo) (s.rd hi)

/-- The next fresh index for a free value, and the state that has used it. -/
def State.useFresh (s : State) : State := { s with fresh := s.fresh + 1 }

/-- The words a read answers with (the model's own output, log 5). -/
def State.answer (s : State) (ws : List Word) : State := { s with rdata := ws }

/-- One nanosecond, in 1/256 ns. -/
def nsUnits : Nat := 256

/-- One second, in 1/256 ns. -/
def secUnits : Nat := 256000000000

/-- One grid step of 20 ns (R22), in 1/256 ns. -/
def gridUnits : Nat := 5120

/-- One port-island cycle of 4 ns, in 1/256 ns. -/
def portUnits : Nat := 1024

/-- Time moved on to an instant; an instant that has passed changes nothing (log 2). -/
def State.advance (s : State) (t : Time) : State := { s with now := max s.now t }

/-- Cell time now, in 1/256 ns; 0 before the time base has started (R51, R57). -/
def State.cell (s : State) : Nat :=
  match s.time.start with
  | none => 0
  | some t => ((s.now : Int) - t + s.time.ofs).toNat

/-- Cell time at a device instant. -/
def State.cellAt (s : State) (at_ : Time) : Nat :=
  match s.time.start with
  | none => 0
  | some t => ((at_ : Int) - t + s.time.ofs).toNat

/-- The device instant of a cell time. -/
def State.deviceAt (s : State) (c : Nat) : Time :=
  match s.time.start with
  | none => s.now
  | some t => ((c : Int) + t - s.time.ofs).toNat

/-- The seconds, nanoseconds and fraction of a time in 1/256 ns (R52). -/
def secOf (c : Nat) : Nat := c / secUnits
/-- See `secOf`. -/
def nsOf (c : Nat) : Nat := c / nsUnits % 1000000000
/-- See `secOf`. -/
def fracOf (c : Nat) : Nat := c % nsUnits

/-- A time from its seconds, nanoseconds and fraction. -/
def timeOf (sec ns frac : Nat) : Nat := sec * secUnits + ns * nsUnits + frac

/-- The current period (R32) in force, in 1/256 ns. -/
def State.period (s : State) : Time := if s.seq.long then 16000000 else 8000000

/-- The instant of boundary k of the period sequencer (R33). -/
def State.boundary (s : State) (k : Nat) : Time := s.seq.base + k * s.period

/-- Current periods in one separation cycle of 250 us (R35). -/
def State.sepPeriods (s : State) : Nat := if s.seq.long then 4 else 8

/-- Current periods in one planning tick of 1 ms (R35). -/
def State.tickPeriods (s : State) : Nat := if s.seq.long then 16 else 32

/-- The number of the current period in progress. -/
def State.periodNo (s : State) : Nat := s.seq.next - 1

/-- Whether a joint port is armed (R116). -/
def State.armed (s : State) (n : Fin 64) : Bool := s.is (PWM_CTRL.ARM n)

/-- Whether any joint port is armed. -/
def State.anyArmed (s : State) : Bool := (finList 64).any s.armed

/-- A member of Fin (n + 1) from a number, by remainder. -/
def fin (n : Nat) [NeZero n] (x : Nat) : Fin n := Fin.ofNat n x

/-- The arm of a joint port (R15). -/
def armOf (n : Fin 64) : Fin 8 := fin 8 (n.val / 8)

/-- The joint of a joint port within its arm (R15). -/
def jointOf (n : Fin 64) : Fin 8 := fin 8 n.val

/-- The port of a joint of an arm (R15). -/
def portOf (a j : Fin 8) : Fin 64 := fin 64 (a.val * 8 + j.val)

/-- The cell level address of the device. -/
def State.cellAddr (s : State) : Word := s.ident

/-- The level address of an arm: the cell's site, line and cell, a zone tag, the arm, and all ones below (R11). -/
def State.armAddr (s : State) (a : Fin 8) : Word :=
  BitVec.ofNat 32 (getBits s.ident 17 15 * 2 ^ 17 + Config.zoneOf a.val % 16 * 2 ^ 13 + a.val * 2 ^ 10 + 0x3E0 + 0x1B)

/-- The level address of a joint: as `armAddr`, with the joint, and the leg all ones. -/
def State.jointAddr (s : State) (n : Fin 64) : Word :=
  BitVec.ofNat 32 (getBits s.ident 17 15 * 2 ^ 17 + Config.zoneOf (armOf n).val % 16 * 2 ^ 13 + (armOf n).val * 2 ^ 10
    + (jointOf n).val * 2 ^ 7 + 0x60 + 0x1A)

/-- R13: item 0x18, or a level address with a field below its scope that is not all ones, or site 255 in any address but
the whole system's, is rejected. -/
def addrOk (w : Word) : Bool :=
  let item := getBits w 0 5
  if w = 0xFFFFFFFF then true
  else if getBits w 24 8 = 255 then false
  else if item < 0x18 then true
  else if item = 0x18 then false
  else
    let below := if item = 0x19 then 0 else if item = 0x1A then 2 else if item = 0x1B then 5 else if item = 0x1C then 8
      else if item = 0x1D then 12 else if item = 0x1E then 15 else 19
    getBits w 5 below = 2 ^ below - 1

/-- Bytes of memory read. -/
def State.mread (s : State) (a n : Nat) : List Byte := memReadN s.mem a n

/-- Bytes of memory written. -/
def State.mwrite (s : State) (a : Nat) (bs : List Byte) : State := { s with mem := memWriteN s.mem a bs }

/-- A little-endian word of memory. -/
def State.mword (s : State) (a : Nat) : Word := BitVec.ofNat 32 (ofLeBytes (s.mread a 4))

/-- A little-endian word of memory written. -/
def State.mput (s : State) (a : Nat) (w : Word) : State := s.mwrite a (leBytes 4 w.toNat)

/-- The fabric address of an address as a tile of a plane sees it (R18): the own half of the shared pool, the own DRAM channel. -/
def planeAddr (pl : Fin 2) (a : Nat) : Nat :=
  if pl = 0 then a
  else if 0x10000000 ≤ a ∧ a < 0x11000000 then a + 0x1000000
  else if 0x8000000000 ≤ a ∧ a < 0x8200000000 then a + 0x200000000
  else a

/-- The period of an Ember or Kiln clock selection in 1/768 ns: 800, 600 or 400 MHz (01 R24). -/
def clockPeriod (sel : Nat) : Nat := if sel = 0 then 960 else if sel = 1 then 1280 else 1920

/-- A cell time as bytes: seconds (8), nanoseconds (4) (02 R54). -/
def timeBytes (c : Nat) : List Byte := leBytes 8 (secOf c) ++ leBytes 4 (nsOf c)

/-- What fails the proving run of an image of one of some components, while its health window runs (18 R573). -/
def State.mishap (s : State) (comps : List Nat) : State :=
  if s.boot.upd.phase = 4 ∧ s.boot.upd.comp ∈ comps then { s with boot := { s.boot with upd := { s.boot.upd with mishap := true } } } else s

end Sys2Proof.Machine
end

