-- ==== Sys2Proof/Machine/Locket.lean ====
section
/-! DEFINITION. Locket (17): records, merging, the flush, and the commands on Locket. -/

namespace Sys2Proof.Machine

open Sys2Proof

/-- Most records that may be unflushed (R538). -/
def lkLimit : Nat := 1365

/-- The slots of the volatile buffer and of the MRAM ring (R537). -/
def lkBufSlots : Nat := 5461
/-- See `lkBufSlots`. -/
def lkRingSlots : Nat := 21760

/-- The index after the last record copied to the ring: a flush in progress copies one in each 1,000 fabric cycles (R538). -/
def State.flushedTo (s : State) : Nat :=
  match s.lk.flush with
  | none => s.lk.flushed
  | some f => min f.until_ (f.first + (s.now - f.start) / (1000 * nsUnits))

/-- The unflushed records (R538). -/
def State.unflushed (s : State) : Nat := s.lk.next - s.flushedTo

/-- The instant at which Locket accepts a post made now: it accepts one in each fabric cycle, and the others wait (R534). Posts of one command wait
in the order of the command's effects, posts of several commands in the order of the commands (log 59). -/
def State.acceptAt (s : State) : Time := max s.now s.lk.nextAt

/-- The operating time now, in ns: the last keep-alive tick, extended with the time base while that runs (19 R586). -/
def State.optime (s : State) : Nat := s.pwr.optime / 64 + (if s.time.start.isSome then (s.now - s.pwr.tickAt) / nsUnits else 0)

/-- The oldest index held, in the ring or in the buffer (R546). -/
def State.lkOldest (s : State) : Nat :=
  match s.lk.ring, s.lk.buf with
  | (i, _) :: _, _ => i
  | [], (i, _) :: _ => i
  | [], [] => s.lk.next

/-- Whether the record with index i is open: it holds the highest index and its MRAM write has not started (R535,
R536). A flush writes one record each 1,000 fabric cycles, in index order (R538). -/
def State.recOpen (s : State) (i : Nat) : Bool :=
  i + 1 == s.lk.next &&
    match s.lk.flush with
    | none => s.lk.flushed ≤ i
    | some f => f.until_ ≤ i || s.now < f.start + (i - f.first) * (1000 * nsUnits)

/-- The level of an event stream filter's match (R524): the record's type within its bounds and the address equal under
the mask, the zone field matched as written (R14). -/
def EvFilter.passes (f : EvFilter) (r : Rec) : Bool :=
  f.en && f.lo ≤ r.type && r.type ≤ f.hi && (r.addr &&& f.mask) == (f.addr &&& f.mask)

/-- The five words of an event stream entry (R520). -/
def evtWords (r : Rec) : List Word :=
  [BitVec.ofNat 32 (r.type % 2 ^ 16 + 2 ^ 31), r.addr, BitVec.ofNat 32 r.ns,
   BitVec.ofNat 32 (ofLeBytes (r.payload.take 4)), BitVec.ofNat 32 (ofLeBytes (r.payload.drop 4) + r.rep * 2 ^ 16)]

/-- The event stream drives software source 47 while it holds an entry (16 R516). -/
def State.showEvts (s : State) : State := s.putB ⟨IC_SW 1, 15, 1⟩ (!s.evts.isEmpty)

/-- A record offered to the event stream (R520): taken when a filter passes it and fewer than 256 entries wait. -/
def State.offerEvent (s : State) (r : Rec) : State :=
  if (finList 8).any (fun i => (tget s.lk.filters i {}).passes r) then
    if s.evts.length < 256 then ({ s with evts := s.evts ++ [evtWords r] } : State).showEvts else s.bump HM_EVT_LOST
  else s

/-- A new record appended with the next index; a record of severity 2 or 3 sets FAULT_REC (R547). -/
def State.appendRec (s : State) (r : Rec) : State :=
  let s := { s with lk := { s.lk with next := s.lk.next + 1, buf := (s.lk.buf ++ [(s.lk.next, r)]).drop (s.lk.buf.length + 1 - lkBufSlots) } }
  let s := s.offerEvent r
  if 2 ≤ r.sev then s.flag LK_STAT.FAULT_REC else s

/-- A flush trigger (R538): a flush starts with the unflushed records, or one in progress is extended to the records
accepted before the trigger. -/
def State.startFlush (s : State) : State :=
  match s.lk.flush with
  | some f => { s with lk := { s.lk with flush := some { f with until_ := s.lk.next } } }
  | none =>
    { s with lk := { s.lk with flush := some { start := s.now, first := s.lk.flushed, until_ := s.lk.next } } }.put LK_STAT.FLUSHING 1

/-- A record made of a type, a severity, an address, a payload and the cell time of its event (R532, R533): the operating time is that of the
acceptance less the cell time that has passed from the event to it. -/
def State.makeRec (s : State) (type sev : Nat) (addr : Word) (payload : List Byte) (cell : Nat) : Rec :=
  { type := type, tstate := s.get TB_STAT.STATE, sev := sev, addr := addr, pcycle := s.pwr.pcycle,
    optime := s.optime + (s.acceptAt - s.now) / nsUnits + (cell - s.cellAt s.acceptAt) / nsUnits - (s.cellAt s.acceptAt - cell) / nsUnits, sec := secOf cell, ns := nsOf cell,
    payload := payload ++ List.replicate (6 - payload.length) 0 }

/-- A repeat merged into the open record (R535). -/
def Rec.merge (r : Rec) (cell : Nat) : Rec :=
  let span := (cell - timeOf r.sec r.ns 0) / (1000 * nsUnits)
  { r with
    rep := satAdd 16 r.rep 1, repSat := r.repSat || decide (65535 < r.rep + 1)
    span := min span (2 ^ 32 - 1), spanSat := r.spanSat || decide (2 ^ 32 - 1 < span) }

/-- The open record that a post would repeat, if any. -/
def State.openMatch (s : State) (n : Rec) : Option (Nat × Rec) :=
  match s.lk.buf.getLast? with
  | some (i, r) =>
    if s.recOpen i && r.type == n.type && r.addr == n.addr && r.payload == n.payload then some (i, r) else none
  | none => none

/-- RECORDS_LOST: written once the unflushed count has fallen below the limit, which is when the flush has written its next record after the
last loss (R539). -/
def State.reportLost (s : State) : State :=
  if s.lk.lost = 0 ∨ lkLimit ≤ s.unflushed ∨ s.lk.closed then s
  else
    let at_ := match s.lk.flush with
      | some f => f.start + ((s.lk.lostAt - f.start) / (1000 * nsUnits) + 1) * (1000 * nsUnits)
      | none => s.lk.lastFlush
    let r := s.makeRec 0x0003 1 s.cellAddr (leBytes 4 s.lk.lost) (s.cellAt at_)
    { s with lk := { s.lk with lost := 0 } }.appendRec r

/-- A record accepted, merged or discarded (R534, R535, R539); a new record of severity 2 or 3, or the 1,024th that is
unflushed, starts a flush (R538). -/
def State.acceptRec (s : State) (r : Rec) : State :=
  let s := { s with lk := { s.lk with nextAt := s.acceptAt + nsUnits } }.reportLost
  match s.openMatch r with
  | some (i, o) => { s with lk := { s.lk with buf := s.lk.buf.dropLast ++ [(i, o.merge (timeOf r.sec r.ns 0))] } }
  | none =>
    if lkLimit ≤ s.unflushed then
      ({ s with lk := { s.lk with lost := s.lk.lost + 1, lostAt := s.now } }.bump LK_DROPPED).flag LK_STAT.DROPPED
    else
      let s := s.appendRec r
      if 2 ≤ r.sev || s.unflushed == 1024 then s.startFlush else s

/-- A post with the cell time of its event. Power fail closes the intake (R541); a malformed address becomes an
ADDRESS_FAULT record of the cell (R13). -/
def State.postAt (s : State) (type sev : Nat) (addr : Word) (payload : List Byte) (cell : Nat) : State :=
  if s.lk.closed then { s with lk := { s.lk with pfLost := s.lk.pfLost + 1 } }
  else if addrOk addr then s.acceptRec (s.makeRec type sev addr payload cell)
  else s.acceptRec (s.makeRec 0x0004 1 s.cellAddr (leBytes 4 addr.toNat ++ leBytes 2 type) cell)

/-- A post that Locket stamps itself (R533). -/
def State.post (s : State) (type sev : Nat) (addr : Word) (payload : List Byte) : State :=
  s.postAt type sev addr payload (s.cellAt s.acceptAt)

/-- The 44 bytes of a record that its check value covers (R532). -/
def State.recBytes (s : State) (i : Nat) (r : Rec) : List Byte :=
  leBytes 2 r.type
    ++ leBytes 2 (r.tstate % 8 + (if s.recOpen i then 8 else 0) + (if r.repSat then 16 else 0) + (if r.spanSat then 32 else 0)
        + r.sev % 4 * 256)
    ++ leBytes 4 r.addr.toNat ++ leBytes 2 r.rep ++ leBytes 4 r.pcycle ++ leBytes 8 r.optime ++ leBytes 8 r.sec ++ leBytes 4 r.ns
    ++ leBytes 4 r.span ++ r.payload.take 6

/-- A record as it is stored and returned, 48 bytes; a slot marked bad reads back with a wrong check value (R540). -/
def State.recImage (s : State) (i : Nat) (r : Rec) : List Byte :=
  let b := s.recBytes i r
  b ++ leBytes 4 (if r.bad then (~~~(crc32c b)).toNat else (crc32c b).toNat)

/-- LOCKET_POST: a block posts a record (R534). -/
def execLocketPost (type : Nat) (sev : Fin 4) (addr : Word) (payload : List Byte) (cell : Nat) (s : State) : Host.Outcome State Fault Refusal :=
  .next (s.postAt type sev.val addr payload cell)

/-- LOCKET_FLUSH: a flush starts copying the unflushed records in index order (R538). A record whose MRAM write fails
its read-back twice, `bad`, keeps its index and is marked; the flush goes on with the next slot (R540). -/
def execLocketFlush (bad : Option Nat) (s : State) : Host.Outcome State Fault Refusal :=
  let s := s.startFlush
  match bad with
  | none => .next s
  | some i =>
    if s.lk.flushed ≤ i ∧ i < s.lk.next then
      let s := { s with lk := { s.lk with buf := s.lk.buf.map (fun (p : Nat × Rec) => if p.1 = i then (i, { p.2 with bad := true }) else p) } }
      let s := (s.bump LK_MRAM_BAD).flag LK_STAT.MRAM_ERR
      .next (s.post 0x0301 2 s.cellAddr (leBytes 6 i))
    else .next s

/-- The records of the buffer with indices from `first` to before `until_`, copied into the ring (R538); the ring holds the
newest 21,760 (R537). -/
def copyToRing (buf ring : List (Nat × Rec)) (first until_ : Nat) : List (Nat × Rec) :=
  let new := buf.filter (fun (p : Nat × Rec) => first ≤ p.1 && p.1 < until_)
  (ring.filter (fun (p : Nat × Rec) => p.1 < first && until_ ≤ p.1 + lkRingSlots)) ++ new

/-- A flush brought to its end: the records are in the ring, the older header copy is written, and the records lost since
the last such record are reported once there is room again (R538, R539). -/
def State.endFlush (s : State) (f : Flush) : State :=
  let s := { s.reportLost with lk := { s.lk with
    ring := copyToRing s.lk.buf s.lk.ring f.first f.until_, flushed := f.until_, flush := none, lastFlush := s.now
    headerSeq := s.lk.headerSeq + 1, headerNext := f.until_, headerLost := s.lk.pfLost } }
  ((s.put LK_STAT.FLUSHING 0).count LK_FLUSHES).reportLost

/-- LOCKET_FLUSH_DONE: the flush in progress completes, 1,000 cycles per record and 1,500 for the header after its start
(R538, R541). -/
def execLocketFlushDone (s : State) : Host.Outcome State Fault Refusal :=
  match s.lk.flush with
  | none => .next s
  | some f => .next ((s.advance (f.start + ((f.until_ - f.first) * 1000 + 1500) * nsUnits)).endFlush f)

/-- LOCKET_PERIOD_EXPIRY: LK_CFG.PERIOD ms after the last flush, a flush starts when any record is unflushed (R538). -/
def execLocketPeriodExpiry (s : State) : Host.Outcome State Fault Refusal :=
  if s.unflushed = 0 then .next s
  else .next ((s.advance (s.lk.lastFlush + getBits (s.rd LK_CFG) 0 16 * 1000000 * nsUnits)).startFlush)

/-- LK_FLUSH_WRITE: a 1 written to LK_CTRL.FLUSH starts a flush (R538, R547). -/
def execLkFlushWrite (s : State) : Host.Outcome State Fault Refusal := .next s.startFlush

/-- LK_INDEX_LO_READ: a read of the LO half returns it and latches the HI half (R546). -/
def execLkIndexLoRead (which : LkIndex) (s : State) : Host.Outcome State Fault Refusal :=
  let v := match which with
    | .next => s.lk.next
    | .oldest => s.lkOldest
    | .optime => s.optime
  let hi := match which with
    | .next => LK_NEXT_HI
    | .oldest => LK_OLDEST_HI
    | .optime => LK_OPTIME_HI
  .next ((s.wr hi (BitVec.ofNat 32 (v / 2 ^ 32))).answer [BitVec.ofNat 32 v])

end Sys2Proof.Machine
end

