-- ==== Sys2Proof/Machine/SafeSet.lean ====
section
/-! DEFINITION. The safety parameter set (12 R387 to R392, 13 R440, R441): its header, section directory and checks. The
coding of a section's entries is Relnis's and the spec does not give it, so it is opaque (log 29). -/

namespace Sys2Proof.Config

/-- The entries that the sections of a set hold, with the connection records of its OBJECT entries as bytes, from the type and
content of each section; none when a section does not code its entries (log 29). -/
opaque setBody : List (Nat × List (BitVec 8)) → Option (Machine.PSet × List (List (BitVec 8)))

end Sys2Proof.Config

namespace Sys2Proof.Machine

open Sys2Proof

/-- The number in n bytes of a byte string from an offset on, lowest first. -/
def leAt (bs : List Byte) (o n : Nat) : Nat := ofLeBytes ((bs.drop o).take n)

/-- Whether the bytes lo to hi - 1 are zero. -/
def zeroAt (bs : List Byte) (lo hi : Nat) : Bool := leAt bs lo (hi - lo) == 0

/-- The connection record of R440. -/
def SignetRec.ofBytes (b : List Byte) : SignetRec :=
  { connId := leAt b 0 8, src := BitVec.ofNat 32 (leAt b 8 4), ver := leAt b 12 1, continuity := leAt b 13 1 == 1
    arms := BitVec.ofNat 8 (leAt b 14 1), port := fin 5 (leAt b 15 1), udp := leAt b 16 2, wd := leAt b 18 2
    maxAge := leAt b 20 2, skew := leAt b 22 2, seqWin := leAt b 24 2, errLim := leAt b 26 1, lock := leAt b 27 1 == 1
    degWin := leAt b 28 2, txId := leAt b 32 8, txCap := leAt b 40 1, txPort := leAt b 41 1, txUdp := leAt b 42 2
    txYaw := leAt b 44 4
    txMove := ⟨(signed 32 (leAt b 48 4) : Rat) / 256, (signed 32 (leAt b 52 4) : Rat) / 256, (signed 32 (leAt b 56 4) : Rat) / 256⟩ }

/-- Whether a port field and its UDP port fit together (R440). -/
def portUdpOk (port udp : Nat) : Bool := if port ≤ 3 then decide (1 ≤ udp) else port == 4 && udp == 0

/-- The ranges and reserved fields of a connection record, and the rules of R441. -/
def recordOk (b : List Byte) (cell : Word) : Bool :=
  let r := SignetRec.ofBytes b
  b.length == 64 && r.connId != 0 && (r.ver == 1 || r.ver == 2) && decide (leAt b 13 1 ≤ 1) && r.arms != 0
    && portUdpOk (leAt b 15 1) r.udp && decide (3 ≤ r.wd ∧ r.wd ≤ 10000)
    && (if r.ver == 2 then decide (1 ≤ r.maxAge ∧ r.skew ≤ 10000) else r.maxAge == 0 && r.skew == 0)
    && decide (1 ≤ r.seqWin ∧ r.seqWin ≤ 1024 ∧ 1 ≤ r.errLim ∧ r.errLim ≤ 100 ∧ leAt b 27 1 ≤ 1)
    && (if r.continuity then decide (1 ≤ r.degWin ∧ r.degWin ≤ 1000) else r.degWin == 0)
    && zeroAt b 30 32 && zeroAt b 60 64 && decide (r.txCap ≤ 127) && portUdpOk r.txPort r.txUdp
    && r.txId != r.connId && (r.ver != 2 || getBits r.src 24 8 == getBits cell 24 8)

/-- The joints of a set with their arms. -/
def PSet.armJoints (p : PSet) : List (Nat × List SafeJoint) := p.arms.zipIdx.map (fun (q : SafeArmSec × Nat) => (q.2, q.1.joints))

/-- Whether a monitoring function of an arm is on (R387): of a joint, of its tool, of a zone or of a pair. -/
def PSet.monitored (p : PSet) (a : Nat) : Bool :=
  let sec := p.arms.getD a {}
  let mine := fun (k : Nat) => match p.caps[k]? with | some c => c.arm.val == a | none => false
  sec.joints.any (fun j => j.slp != .off || j.slsAct != .off || j.sdi != .off) || sec.slsTcp.isSome
    || p.zones.any (fun z => z.act != .off && z.caps.any mine) || p.pairs.any (fun q => mine q.cap || (!q.isObject && mine q.other))

/-- R387: a joint has source NONE only when every monitoring function of its arm is off. -/
def PSet.sourcesOk (p : PSet) : Bool :=
  p.arms.zipIdx.all (fun (q : SafeArmSec × Nat) => !(q.1.joints.any (fun j => j.src == .none)) || !p.monitored q.2)

/-- The test-pulse sources in use, in order (R417). -/
def PSet.sourcesInUse (p : PSet) : List (Fin 4) :=
  (finList 4).filter (fun n => p.inputs.any (fun i => i.tps1 == some n || i.tps2 == some n))

/-- A test-pulse source's entry. -/
def PSet.pulse (p : PSet) (n : Fin 4) : TestPulse := p.pulses.getD n.val {}

/-- The time a source takes within a frame, in us (R417). -/
def TestPulse.span (t : TestPulse) : Nat := t.width + 2 * t.tpDly

/-- The shortest interval among the sources in use, in ms; 0 with none (R417). -/
def PSet.frame (p : PSet) : Nat :=
  match p.sourcesInUse with
  | [] => 0
  | n :: r => r.foldl (fun m k => min m (p.pulse k).interval) (p.pulse n).interval

/-- The check of the TESTPULSE section (R417). -/
def PSet.pulsesOk (p : PSet) : Bool :=
  let i := p.frame
  p.sourcesInUse.all (fun n => i != 0 && (p.pulse n).interval % i == 0)
    && decide ((p.sourcesInUse.map (fun n => (p.pulse n).span)).sum ≤ i * 1000)

/-- The numbers of entries and the ranges of R390. -/
def PSet.rangesOk (p : PSet) : Bool :=
  decide (p.arms.length = 8 ∧ p.caps.length ≤ 128 ∧ p.objects.length ≤ 64 ∧ p.zones.length ≤ 32 ∧ p.pairs.length ≤ 8192
      ∧ p.inputs.length = 16 ∧ p.outputs.length = 12 ∧ p.pulses.length = 4)
    && p.arms.all (fun a => decide (a.joints.length ≤ 8) && a.joints.all (fun j => decide (1 ≤ j.posBad ∧ j.posBad ≤ 8)))
    && p.inputs.all (fun i => decide (i.filter ≤ 200 ∧ 1 ≤ i.disc ∧ i.disc ≤ 500))
    && p.outputs.all (fun o => decide (1 ≤ o.testInt ∧ o.testInt ≤ 600 ∧ o.testWidth ≤ 300 ∧ 10 ≤ o.fbDly ∧ o.fbDly ≤ 200 ∧ o.brkDly ≤ 500))
    && p.pulses.all (fun t => decide (50 ≤ t.width ∧ t.width ≤ 300 ∧ 1 ≤ t.interval ∧ t.interval ≤ 1000))

/-- The sections that the directory of a set names, when every entry is well-formed and every section's CRC-32C matches (R389, R391). -/
def setSections (bs : List Byte) (n : Nat) : Option (List (Nat × List Byte)) :=
  (List.range n).foldr (fun i (acc : Option (List (Nat × List Byte))) =>
    let e := (bs.drop (128 + 16 * i)).take 16
    let body := (bs.drop (leAt e 4 4)).take (leAt e 8 4)
    if zeroAt e 2 4 && leAt e 4 4 + leAt e 8 4 ≤ bs.length && (crc32c body).toNat == leAt e 12 4 then
      acc.map (fun l => (leAt e 0 2, body) :: l)
    else none) (some [])

/-- The header of R389 as far as it does not depend on the device. -/
def setHeaderOk (bs : List Byte) : Bool :=
  leAt bs 0 4 == 0x47535053 && leAt bs 4 2 == 2 && decide (1 ≤ leAt bs 6 2 ∧ leAt bs 6 2 ≤ 16) && leAt bs 8 4 == bs.length
    && bs.length % 8 == 0 && decide (bs.length ≤ 524288) && leAt bs 32 2 == 0x8064 && leAt bs 34 1 / 8 == 0 && zeroAt bs 35 64

/-- A set as a channel loads it: every check of R391 that it makes itself, for the cell it serves. -/
def PSet.ofBytes (bs : List Byte) (cell : Word) : Option PSet :=
  if setHeaderOk bs && leAt bs 12 4 == cell.toNat then
    match setSections bs (leAt bs 6 2) with
    | none => none
    | some secs =>
      match Config.setBody secs with
      | none => none
      | some (p, recs) =>
        let p := { p with
          id := BitVec.ofNat 32 (leAt bs 16 4), gen := BitVec.ofNat 32 (leAt bs 20 4)
          objects := (p.objects.zip recs).map (fun (q : SafeObject × List Byte) => { q.1 with conn := SignetRec.ofBytes q.2 }) }
        if p.rangesOk && p.sourcesOk && p.pulsesOk && recs.all (fun r => recordOk r cell) then some p else none
  else none

end Sys2Proof.Machine
end

