-- ==== Sys2Proof/Machine/SafeGeo.lean ====
section
/-! DEFINITION. The geometry of the safety island (12 R384, R400 to R407): the arithmetic of the two channels, kinematics, capsules, their
distances, closing speeds and permitted speeds. Every operation of channel 1 gives a binary32 number; channel 2 holds lengths in 2^-8 mm,
quaternions and parameters in 2^-30. Which neighbour a value between two numbers takes is the channel's (log 29). The channel is a Bool, true
for channel 1. -/

namespace Sys2Proof.Machine

open Sys2Proof

/-- A multiple of a unit for a value: exact, or one of its two neighbours, which the channel chooses. -/
def toUnit (ch : Bool) (q x : Rat) : Rat :=
  let n := (x / q).floor
  if (n : Rat) * q = x then x else if Config.safeUp ch x then ((n : Rat) + 1) * q else (n : Rat) * q

/-- A number in binary32: exact or one of its neighbours. -/
def binary32 (ch : Bool) (x : Rat) : Rat := if x = 0 then 0 else toUnit ch (pow2 (lastPlace true x)) x

/-- A length or a speed as a channel holds it (R384). -/
def chanLen (ch : Bool) (x : Rat) : Rat := if ch then binary32 ch x else toUnit ch (1 / 256) x
/-- A parameter or a part of a unit vector as a channel holds it; that channel 2 holds these in 2^-30 is a DESIGN CHOICE (log 29). -/
def chanPar (ch : Bool) (x : Rat) : Rat := if ch then binary32 ch x else toUnit ch (1 / 2 ^ 30) x
/-- What an operation on the way to a result gives: binary32 in channel 1, exact in channel 2, whose widths the spec does not give (log 29). -/
def chanOp (ch : Bool) (x : Rat) : Rat := if ch then binary32 ch x else x

/-- The square root of a length's or a speed's square in a channel. -/
def chanSqrt (ch : Bool) (x : Rat) : Rat :=
  let n := x.num.toNat * x.den
  let r := isqrt (n * 4 ^ 64)
  chanLen ch (((r : Rat) + (if r * r = n * 4 ^ 64 then 0 else 1 / 2)) / ((x.den * 2 ^ 64 : Nat) : Rat))

/-- The sum of two vectors in a channel. -/
def V3.add (ch : Bool) (a b : V3) : V3 := ⟨chanOp ch (a.x + b.x), chanOp ch (a.y + b.y), chanOp ch (a.z + b.z)⟩
/-- The difference of two vectors in a channel. -/
def V3.sub (ch : Bool) (a b : V3) : V3 := ⟨chanOp ch (a.x - b.x), chanOp ch (a.y - b.y), chanOp ch (a.z - b.z)⟩
/-- A vector times a number in a channel. -/
def V3.scale (ch : Bool) (k : Rat) (a : V3) : V3 := ⟨chanOp ch (k * a.x), chanOp ch (k * a.y), chanOp ch (k * a.z)⟩
/-- A sum of products in a channel, in the order given (log 29). -/
def dotOf (ch : Bool) (xs : List (Rat × Rat)) : Rat :=
  match xs.map (fun (q : Rat × Rat) => chanOp ch (q.1 * q.2)) with
  | [] => 0
  | x :: r => r.foldl (fun a y => chanOp ch (a + y)) x
/-- The scalar product in a channel. -/
def V3.dot (ch : Bool) (a b : V3) : Rat := dotOf ch [(a.x, b.x), (a.y, b.y), (a.z, b.z)]
/-- The length of a vector in a channel. -/
def V3.norm (ch : Bool) (a : V3) : Rat := chanSqrt ch (a.dot ch a)
/-- A vector's coordinates. -/
def V3.coords (a : V3) : List Rat := [a.x, a.y, a.z]

/-- A number limited to 0 to 1 (R401). -/
def clamp01 (x : Rat) : Rat := if x < 0 then 0 else if 1 < x then 1 else x

/-- A capsule in the cell frame: endpoints and radius. -/
structure Caps where
  p0 : V3
  p1 : V3
  r : Rat
  deriving DecidableEq, Repr

/-- The point of a capsule's axis at a parameter. -/
def Caps.at (ch : Bool) (c : Caps) (s : Rat) : V3 := c.p0.add ch ((c.p1.sub ch c.p0).scale ch s)

/-- The segment parameters of R401, in binary32. -/
def closestParams (p q : Caps) : Rat × Rat :=
  let r := chanOp true
  let d1 := p.p1.sub true p.p0
  let d2 := q.p1.sub true q.p0
  let w := p.p0.sub true q.p0
  let a := d1.dot true d1
  let e := d2.dot true d2
  let b := d1.dot true d2
  let c := d1.dot true w
  let f := d2.dot true w
  let tiny : Rat := r (1 / 1000000)
  if a < tiny ∧ e < tiny then (0, 0)
  else if a < tiny then (0, clamp01 (r (f / e)))
  else if e < tiny then (clamp01 (r (-c / a)), 0)
  else
    let den := r (r (a * e) - r (b * b))
    let s := if r (r (tiny * a) * e) < den then clamp01 (r (r (r (b * f) - r (c * e)) / den)) else 0
    let t := r (r (r (b * s) + f) / e)
    if t < 0 then (clamp01 (r (-c / a)), 0) else if 1 < t then (clamp01 (r (r (b - c) / a)), 1) else (s, t)

/-- The parameter on a capsule's axis of the point nearest to a point in channel 2 (the clamped projection of R402). -/
def Caps.project (c : Caps) (x : V3) : Rat :=
  let d := c.p1.sub false c.p0
  if d.dot false d = 0 then 0 else chanPar false (clamp01 ((x.sub false c.p0).dot false d / d.dot false d))

/-- A point of the axis of a capsule as channel 2 holds it, in 2^-8 mm. -/
def Caps.point (c : Caps) (s : Rat) : V3 :=
  let x := c.at false s
  ⟨chanLen false x.x, chanLen false x.y, chanLen false x.z⟩

/-- g of R402: the distance from the point of P's axis at s to Q's axis. -/
def goldenG (p q : Caps) (s : Rat) : Rat :=
  let x := p.point s
  (x.sub false (q.point (q.project x))).norm false

/-- The golden section, (sqrt 5 - 1) / 2 = 0.618033988749..., in units of 2^-30 (R402; the unit log 29). -/
def goldenRatio : Rat := (if Config.goldenUp then 663608942 else 663608941) / 2 ^ 30

/-- A bracket of the search of R402: its ends, its two inner points with their values, and the best point seen. -/
structure Bracket where
  lo : Rat
  hi : Rat
  x1 : Rat
  g1 : Rat
  x2 : Rat
  g2 : Rat
  best : Rat
  g : Rat

/-- One evaluation of the search: the bracket shrinks towards the smaller inner value. -/
def Bracket.shrink (p q : Caps) (b : Bracket) : Bracket :=
  let keep := fun (b : Bracket) (x g : Rat) => if g < b.g then { b with best := x, g := g } else b
  if b.g1 ≤ b.g2 then
    let x := chanPar false (b.x2 - goldenRatio * (b.x2 - b.lo))
    let g := goldenG p q x
    keep { b with hi := b.x2, x2 := b.x1, g2 := b.g1, x1 := x, g1 := g } x g
  else
    let x := chanPar false (b.x1 + goldenRatio * (b.hi - b.x1))
    let g := goldenG p q x
    keep { b with lo := b.x1, x1 := b.x2, g1 := b.g2, x2 := x, g2 := g } x g

/-- The search of R402 after its 24 evaluations. -/
def goldenSearch (p q : Caps) : Bracket :=
  let x1 := 1 - goldenRatio
  let x2 := goldenRatio
  let g1 := goldenG p q x1
  let g2 := goldenG p q x2
  let b : Bracket := { lo := 0, hi := 1, x1 := x1, g1 := g1, x2 := x2, g2 := g2, best := if g2 < g1 then x2 else x1, g := if g2 < g1 then g2 else g1 }
  iter (Bracket.shrink p q) 22 b

/-- The distance of two capsules in a channel, with the closest points (R401, R402). -/
def capsDist (ch : Bool) (p q : Caps) : Rat × V3 × V3 :=
  if ch then
    let (s, t) := closestParams p q
    let r := chanOp true
    let x := p.at true s
    let y := q.at true t
    (r (r (r ((x.sub true y).norm true - p.r) - q.r) - 1 / 4), x, y)
  else
    let b := goldenSearch p q
    let x := p.point b.best
    (chanLen false (b.g - (p.p1.sub false p.p0).norm false * (b.hi - b.lo) - 1 / 16 - p.r - q.r), x, q.point (q.project x))

/-- The unit vector from one point to another. -/
def unitTo (ch : Bool) (a b : V3) : V3 :=
  let d := b.sub ch a
  let n := d.norm ch
  if n = 0 then ⟨Config.noDirection ch 0, Config.noDirection ch 1, Config.noDirection ch 2⟩
  else ⟨chanPar ch (d.x / n), chanPar ch (d.y / n), chanPar ch (d.z / n)⟩

/-- The closing speed of a capsule with endpoint velocities v0 and v1 along a direction (R403). -/
def closing (ch : Bool) (v0 v1 u : V3) : Rat := chanLen ch (max 0 (max (v0.dot ch u) (v1.dot ch u)))

/-- The speed bound of a distance: a ( sqrt(t^2 + 2 D / a) - t ), 0 without distance (R404, R406). -/
def speedBound (ch : Bool) (a : Nat) (t d : Rat) : Rat :=
  if d ≤ 0 then 0
  else
    let r := chanOp ch
    let n := r (r (t * t) + r (2 * d / a))
    -- a sqrt(n) is the root of a^2 n: the root is taken where its unit is that of a speed
    if ch then r (a * r (chanSqrt ch n - t)) else chanLen ch (chanSqrt ch (a * a * n) - a * t)

/-- The permitted closing speed of R404. -/
def vmaxOf (ch : Bool) (sec : SafeArmSec) (vh c zd zr d : Rat) : Rat :=
  let r := chanOp ch
  let tr : Rat := r ((sec.tr : Rat) / 1000000)
  speedBound ch sec.as_ (r (tr + r (vh / sec.as_))) (r (r (r (r (d - r (vh * tr)) - c) - zd) - zr))

/-- VPAIR of two arms at a distance (R406). -/
def vpairOf (ch : Bool) (a b : SafeArmSec) (zd zr d : Rat) : Rat :=
  let r := chanOp ch
  speedBound ch (min a.as_ b.as_) (r ((max a.tr b.tr : Nat) / 1000000)) (r (r (d - zd) - r (2 * zr)))

/-- A row of a 3 x 4 homogeneous transform. -/
abbrev Row := List Rat

/-- The product of two transforms of channel 1, whose fourth row is 0 0 0 1 (R384). -/
def mulRows (a b : List Row) : List Row :=
  a.map (fun (r : Row) => (List.range 4).map (fun j =>
    let e := fun (i : Nat) => r.getD i 0
    let f := fun (i : Nat) => (b.getD i []).getD j 0
    let x := dotOf true [(e 0, f 0), (e 1, f 1), (e 2, f 2)]
    if j = 3 then chanOp true (x + e 3) else x))

/-- A point under a transform of channel 1. -/
def rowsPoint (a : List Row) (p : V3) : V3 :=
  let f := fun (i : Nat) => let r := a.getD i []; chanOp true (dotOf true [(r.getD 0 0, p.x), (r.getD 1 0, p.y), (r.getD 2 0, p.z)] + r.getD 3 0)
  ⟨f 0, f 1, f 2⟩

/-- The frame of a joint in channel 1: the chain of the transforms of the joints up to it (R384, R400). -/
def frame1 (js : List (SafeJoint × Rat)) : List Row :=
  js.foldl (fun m (q : SafeJoint × Rat) => mulRows m (Config.link1 q.1.kin1 q.2)) [[1, 0, 0, 0], [0, 1, 0, 0], [0, 0, 1, 0]]

/-- A unit quaternion of channel 2: its scalar and its vector part. -/
structure Quat where
  w : Rat
  v : V3

/-- The vector product. -/
def V3.cross (a b : V3) : V3 := ⟨a.y * b.z - a.z * b.y, a.z * b.x - a.x * b.z, a.x * b.y - a.y * b.x⟩

/-- A vector with every coordinate rounded. -/
def V3.round (f : Rat → Rat) (a : V3) : V3 := ⟨f a.x, f a.y, f a.z⟩

/-- The product of two quaternions, in units of 2^-30 (R384). -/
def Quat.mul (p q : Quat) : Quat :=
  ⟨chanPar false (p.w * q.w - p.v.dot false q.v), (((q.v.scale false p.w).add false (p.v.scale false q.w)).add false (p.v.cross q.v)).round (chanPar false)⟩

/-- A vector turned by a quaternion, in units of 2^-8 mm. -/
def Quat.turn (q : Quat) (x : V3) : V3 :=
  let t := (q.v.cross x).scale false 2
  ((x.add false (t.scale false q.w)).add false (q.v.cross t)).round (chanLen false)

/-- The quaternion and the translation that a joint adds to the chain of channel 2. -/
def linkOf (j : SafeJoint) (x : Rat) : Quat × V3 :=
  let (q, t) := Config.link2 j.kin2 x
  let e := fun (k : Nat) => ((q.getD k 0 : Int) : Rat) / 2 ^ 30
  let f := fun (k : Nat) => ((t.getD k 0 : Int) : Rat) / 256
  (⟨e 0, ⟨e 1, e 2, e 3⟩⟩, ⟨f 0, f 1, f 2⟩)

/-- The frame of a joint in channel 2: the chain of quaternions and translations up to it (R384, R400). -/
def frame2 (js : List (SafeJoint × Rat)) : Quat × V3 :=
  js.foldl (fun (m : Quat × V3) (q : SafeJoint × Rat) =>
    let l := linkOf q.1 q.2
    (m.1.mul l.1, m.2.add false (m.1.turn l.2))) (⟨1, {}⟩, {})

/-- The endpoints of a capsule in the cell frame (R400), from the joints of its arm with their positions. -/
def capsuleEnds (ch : Bool) (js : List (SafeJoint × Rat)) (c : Capsule) : V3 × V3 :=
  let js := js.take (c.frame + 1)
  if ch then
    let m := frame1 js
    (rowsPoint m c.p0, rowsPoint m c.p1)
  else
    let m := frame2 js
    (m.2.add false (m.1.turn c.p0), m.2.add false (m.1.turn c.p1))

/-- The velocity of an endpoint (R403): its displacement since the previous cycle over 250 us. -/
def endVelocity (ch : Bool) (prev : Option V3) (now : V3) (k : Nat) : V3 :=
  match prev with
  | some p => (now.sub ch p).scale ch 4000
  | none => ⟨Config.firstVelocity k 0, Config.firstVelocity k 1, Config.firstVelocity k 2⟩

/-- How far a coordinate lies outside an interval. -/
def outsideBy (lo hi x : Rat) : Rat := if x < lo then lo - x else if hi < x then x - hi else 0

/-- The square of the distance of a point to a zone's box. -/
def boxSquare (z : SafeZone) (p : V3) : Rat :=
  let f := fun (lo hi x : Rat) => outsideBy lo hi x * outsideBy lo hi x
  f z.lo.x z.hi.x p.x + f z.lo.y z.hi.y p.y + f z.lo.z z.hi.z p.z

/-- The parameters of a capsule's axis among which its nearest point to a box lies: the ends, the crossings of the planes of the faces, and
for each choice of a face or none in each direction the point where the squared excess over the chosen planes is least. -/
def boxParams (c : Caps) (z : SafeZone) : List Rat :=
  let d := (c.p1.sub false c.p0).coords
  let rows := (c.p0.coords.zip d).zip (z.lo.coords.zip z.hi.coords)
  let cross := rows.flatMap (fun (q : (Rat × Rat) × (Rat × Rat)) => if q.1.2 = 0 then [] else [(q.2.1 - q.1.1) / q.1.2, (q.2.2 - q.1.1) / q.1.2])
  let choices := rows.foldl (fun (acc : List (Rat × Rat)) (q : (Rat × Rat) × (Rat × Rat)) =>
    acc.flatMap (fun (m : Rat × Rat) => [m, (m.1 + q.1.2 * q.1.2, m.2 + q.1.2 * (q.2.1 - q.1.1)), (m.1 + q.1.2 * q.1.2, m.2 + q.1.2 * (q.2.2 - q.1.1))])) [(0, 0)]
  ([0, 1] ++ cross ++ choices.map (fun (m : Rat × Rat) => if m.1 = 0 then 0 else m.2 / m.1)).map clamp01

/-- The distance of a capsule to a zone's box in a channel (R408): of the nearest point of its axis, less the radius. -/
def zoneDistance (ch : Bool) (c : Caps) (z : SafeZone) : Rat :=
  let sq := (boxParams c z).map (fun s => boxSquare z (c.at false s))
  chanLen ch (chanSqrt ch (sq.foldl min (sq.headD 0)) - c.r)

/-- How far a capsule stays inside the faces of a box: the least distance of an endpoint to a face, less the radius. -/
def faceDistance (c : Caps) (z : SafeZone) : Rat :=
  let inside := fun (p : V3) => min (min (min (p.x - z.lo.x) (z.hi.x - p.x)) (min (p.y - z.lo.y) (z.hi.y - p.y))) (min (p.z - z.lo.z) (z.hi.z - p.z))
  min (inside c.p0) (inside c.p1) - c.r

end Sys2Proof.Machine
end

