-- ==== Sys2Proof/Machine/Signet.lean ====
section
/-! DEFINITION. Signet connections (13): the telegram, its judgement, the connection states, and the content in force. The
two channels judge the same telegrams and the model keeps their connection state once (log 31). -/

namespace Sys2Proof.Machine

open Sys2Proof

/-- One bit step of CRC-24 (R438). -/
def crc24Bit (c : BitVec 24) : BitVec 24 := if c.getLsbD 23 then (c <<< 1) ^^^ 0x864CFB else c <<< 1

/-- One byte step of CRC-24. -/
def crc24Byte (c : BitVec 24) (b : Byte) : BitVec 24 := iter crc24Bit 8 (c ^^^ BitVec.ofNat 24 (b.toNat * 2 ^ 16))

/-- CRC-24 of R438. -/
def crc24 (bs : List Byte) : BitVec 24 := bs.foldl crc24Byte 0xB704CE

/-- The check value of R438 over a connection identity and the bytes before it. -/
def signetCheck (ver id : Nat) (body : List Byte) : Nat :=
  if ver = 2 then (crc32c (leBytes 8 id ++ body)).toNat else (crc24 (leBytes 8 id ++ body)).toNat

/-- The length of a version's telegram (R436, R437). -/
def signetLen (ver : Nat) : Nat := if ver = 2 then 52 else 24

/-- The bytes before the check value. -/
def signetBody (ver : Nat) : Nat := if ver = 2 then 48 else 20

/-- The bits of the sequence number (R443). -/
def seqBits (ver : Nat) : Nat := if ver = 2 then 32 else 16

/-- The sequence number of a telegram. -/
def signetSeq (ver : Nat) (bs : List Byte) : Nat := if ver = 2 then leAt bs 8 4 else leAt bs 8 2

/-- Step 2 of R443: version, reserved fields, address; and the version's length. -/
def signetFormatOk (ver : Nat) (bs : List Byte) : Bool :=
  bs.length == signetLen ver && leAt bs 4 1 == ver && decide (leAt bs 5 1 < 16) && leAt bs 7 1 == 0
    && (ver == 2 || leAt bs 23 1 == 0) && addrOk (BitVec.ofNat 32 (leAt bs 0 4))

/-- Step 3 of R443. -/
def signetCheckOk (r : SignetRec) (bs : List Byte) : Bool :=
  signetCheck r.ver r.connId (bs.take (signetBody r.ver)) == leAt bs (signetBody r.ver) (if r.ver = 2 then 4 else 3)

/-- The age of step 4 of R443, in ns, from the ingress stamp in 1/256 ns. -/
def signetAge (bs : List Byte) (tin : Int) : Int := signed 32 (unsignedOf 32 (tin / 256 - (leAt bs 12 4 : Nat)))

/-- Step 4 of R443. -/
def signetTimeOk (r : SignetRec) (bs : List Byte) (tin : Int) : Bool :=
  r.ver != 2 || (decide (-(r.skew : Int) ≤ signetAge bs tin) && decide (signetAge bs tin ≤ (r.maxAge * 1000 : Nat)))

/-- A signed field of a telegram in mm, from 2^-8 mm or from mm. -/
def mmAt (bs : List Byte) (o n : Nat) (q : Nat) : Rat := (signed (8 * n) (leAt bs o n) : Rat) / q

/-- The content of a telegram (R436, R437, R446). -/
def signetContent (r : SignetRec) (bs : List Byte) (tin : Int) : SignetContent :=
  if r.ver = 2 then
    { demand := leAt bs 5 1 % 8, arms := BitVec.ofNat 8 (leAt bs 6 1), object := leAt bs 5 1 / 8 == 0
      p0 := ⟨mmAt bs 16 4 256, mmAt bs 20 4 256, mmAt bs 24 4 256⟩, p1 := ⟨mmAt bs 28 4 256, mmAt bs 32 4 256, mmAt bs 36 4 256⟩
      r := (leAt bs 40 4 : Rat) / 256, vspeed := (leAt bs 44 4 : Rat) / 256, tref := (tin / 256 - signetAge bs tin) * 256 }
  else
    let c : V3 := ⟨mmAt bs 12 2 1, mmAt bs 14 2 1, mmAt bs 16 2 1⟩
    { demand := leAt bs 5 1 % 8, arms := BitVec.ofNat 8 (leAt bs 6 1), object := leAt bs 5 1 / 8 == 0
      p0 := c, p1 := c, r := (leAt bs 18 2 : Nat), vspeed := (leAt bs 10 2 : Nat), tref := tin }

/-- The check errors of a connection within 3,600 s of an instant (R444). -/
def SignetConn.recent (c : SignetConn) (t : Time) : List Time := c.errs.filter (fun x => t < x + 3600 * secUnits)

/-- A check error (R443, R444): counted, and a connection fault when the limit is passed. -/
def SignetConn.checkError (c : SignetConn) (r : SignetRec) (t : Time) : SignetConn :=
  let errs := c.recent t ++ [t]
  { c with check := satAdd 8 c.check 1, errs := errs, run := false, pend := if r.errLim < errs.length then c.pend ++ [3] else c.pend }

/-- A telegram accepted (R445, R446): sequence, loss, content, watchdog. -/
def SignetConn.accept (c : SignetConn) (r : SignetRec) (bs : List Byte) (tin : Int) (t : Time) (loss : Nat) : SignetConn :=
  { c with last := signetSeq r.ver bs, lost := satAdd 8 c.lost loss, content := some (signetContent r bs tin), restart := t }

/-- A repeat (R443). -/
def SignetConn.repeated (c : SignetConn) : SignetConn := { c with repeats := satAdd 8 c.repeats 1, run := false }

/-- A sequence jump (R443): discarded, and a connection fault. -/
def SignetConn.jump (c : SignetConn) : SignetConn := { c with pend := c.pend ++ [2], run := false }

/-- Step 5 of R443 in the state of the connection (R447): WAIT accepts any sequence number and DEGRADED any later one; in FAULT two telegrams
accepted in succession, the second with d = 1, open the connection. -/
def SignetConn.judgeSeq (c : SignetConn) (r : SignetRec) (bs : List Byte) (tin : Int) (t : Time) : SignetConn :=
  let n := seqBits r.ver
  let d := (signetSeq r.ver bs + 2 ^ n - c.last % 2 ^ n) % 2 ^ n
  let back := d = 0 ∨ 2 ^ (n - 1) ≤ d
  if c.state = 1 then { c.accept r bs tin t 0 with state := 2 }
  else if c.state = 2 ∨ c.state = 4 then
    if back then c.repeated
    else if r.seqWin < d then c.jump
    else if c.state = 2 then c.accept r bs tin t (d - 1)
    else if c.run ∧ d = 1 then { c.accept r bs tin t 0 with state := 2, run := false }
    else { c.accept r bs tin t (d - 1) with run := true }
  else if c.state = 3 then
    if back then c.repeated else { c.accept r bs tin t (d - 1) with state := 2 }
  else c

/-- Steps 2 to 4 of R443 of a matched telegram: what the connection takes at the next capture, and the step that failed as a check error. -/
def signetItem (r : SignetRec) (q : TelegramCopy) (t : Time) : SignetItem × Option Nat :=
  if signetFormatOk r.ver q.bytes = false then (.check t, some 2)
  else if signetCheckOk r q.bytes = false then (.check t, some 3)
  else if signetTimeOk r q.bytes q.tin = false then (.late, none)
  else (.telegram q.bytes q.tin t q.mac q.v6 q.ip, none)

/-- A checked telegram taken by its connection (R443 step 5, R444 to R447); the sender of an accepted one is kept (02 R86). -/
def SignetConn.take (c : SignetConn) (r : SignetRec) (x : SignetItem) : SignetConn :=
  match x with
  | .check t => c.checkError r t
  | .late => { c with late := satAdd 8 c.late 1, run := false }
  | .telegram bs tin t mac v6 ip =>
    let n := c.judgeSeq r bs tin t
    if n.content ≠ c.content ∨ n.restart ≠ c.restart then { n with sender := some (mac, v6, ip) } else n

/-- A connection fault (R447): 1 watchdog, 2 sequence jump, 3 error limit, detected at a capture. -/
def SignetConn.faulted (c : SignetConn) (r : SignetRec) (kind : Nat) (at_ : Time) : SignetConn :=
  if c.state = 2 then
    if r.continuity then { c with state := 3, det := at_, fault := kind, run := false }
    else { c with state := 4, fault := kind, expired := false, run := false }
  else if c.state = 3 ∧ kind = 3 then { c with state := 4, fault := kind, expired := false, run := false }
  else c

/-- The watchdog judged at a capture (R445). -/
def SignetConn.watchdog (c : SignetConn) (r : SignetRec) (at_ : Time) : SignetConn :=
  if c.state = 2 ∧ c.restart + r.wd * 100000 * nsUnits < at_ then c.faulted r 1 at_ else c

/-- A connection at a capture: the state that is in force in the cycle is the one before; the telegrams checked since the last capture are
taken, then the faults they brought, then the watchdog, then the age (R393, R394, R445, R447, R448, R452). -/
def SignetConn.capture (c : SignetConn) (r : SignetRec) (at_ : Time) (cell : Int) : SignetConn :=
  let c := c.inbox.foldl (fun (c : SignetConn) x => c.take r x) { c with was := c.state, inbox := [] }
  let c := (c.pend.foldl (fun (c : SignetConn) k => c.faulted r k at_) { c with pend := [] }).watchdog r at_
  match c.content with
  | some x => { c with age := min ((cell - x.tref) / 256).toNat (2 ^ 32 - 1) }
  | none => c

/-- The continuity window judged at a commit (R447). -/
def SignetConn.expire (c : SignetConn) (r : SignetRec) (at_ : Time) : SignetConn :=
  if c.state = 3 ∧ c.det + r.degWin * 1000000 * nsUnits ≤ at_ then { c with state := 4, fault := 4, expired := true, run := false } else c

/-- The demand of a connection's content: bits and arms (R446). -/
def SignetConn.demand (c : SignetConn) (r : SignetRec) : Nat × BitVec 8 :=
  match c.content with
  | some x => (x.demand, x.arms &&& r.arms)
  | none => (0, 0)

/-- The object of a connection in a cycle with its v_h (R446, R448), by the state in force in the cycle. -/
def SignetConn.object (c : SignetConn) (o : SafeObject) (cell : Int) : Option (Caps × Rat) :=
  match c.content with
  | some x =>
    if x.object then
      let v := if o.person ∨ c.was = 3 then max o.vh x.vspeed else x.vspeed
      some (⟨x.p0, x.p1, x.r + v * ((cell - x.tref : Int) / 256000000000)⟩, v)
    else none
  | none => none

/-- Whether a connection keeps its arms in LOCKOUT, with the cause (R447). -/
def SignetConn.locking (c : SignetConn) : Option Nat := if c.state = 1 ∨ c.state = 4 then some (if c.expired then 4 else 3) else none

/-- A connection of the island. -/
def State.conn (s : State) (c : Fin 64) : SignetConn := tget s.si.conns c {}

/-- A connection given a state. -/
def State.setConn (s : State) (c : Fin 64) (x : SignetConn) : State := { s with si := { s.si with conns := tset s.si.conns c x } }

/-- The active set, or an empty one (R391: NO_SET). -/
def State.pset (s : State) : PSet := s.si.set.getD {}

/-- The OBJECT entry of a connection. -/
def State.object (s : State) (c : Fin 64) : Option SafeObject := s.pset.objects[c.val]?

/-- The connections of the active set. -/
def State.connList (s : State) : List (Fin 64) := (finList 64).filter (fun c => c.val < s.pset.objects.length)

/-- The connection that a telegram matches (R443 step 1). -/
def State.matchConn (s : State) (p : Fin 5) (udp : Nat) (bs : List Byte) : Option (Fin 64) :=
  s.connList.find? (fun c => match s.object c with
    | some o => o.conn.port == p && o.conn.udp == udp && o.conn.src.toNat == leAt bs 0 4
    | none => false)

/-- A telegram copied to the island (R427): at most 32 in any 250 us. -/
def State.signetCopy (s : State) (x : TelegramCopy) : State :=
  let recent := s.si.copies.filter (fun x => s.now < x + 250000 * nsUnits)
  if 32 ≤ recent.length then { s with si := { s.si with copies := recent } }
  else { s with si := { s.si with copies := recent ++ [s.now], queue := s.si.queue ++ [x] } }

/-- SIGNET_TELEGRAM_RX: the oldest copied telegram is checked (R443 steps 1 to 4); a check error writes its record at once, and the next
capture takes the telegram (R393, R445). -/
def execSignetTelegramRx (t : Nat) (s : State) : Host.Outcome State Fault Refusal :=
  match s.si.queue with
  | [] => .next s
  | q :: rest =>
    let s := ({ s with si := { s.si with queue := rest } }).advance t
    match s.matchConn q.port q.udp q.bytes with
    | none => .next { s with si := { s.si with unmatched := tset s.si.unmatched q.port (tget s.si.unmatched q.port 0 + 1) } }
    | some c =>
      match s.object c with
      | none => .next s
      | some o =>
        let (x, err) := signetItem o.conn q t
        let s := s.setConn c { s.conn c with inbox := (s.conn c).inbox ++ [x] }
        match err with
        | some k => .next (s.post 0x0210 1 o.conn.src [BitVec.ofNat 8 c.val, BitVec.ofNat 8 k])
        | none => .next s

/-- A change of a connection applied to its state and to the snapshot of the cycle in progress. -/
def State.rejudge (s : State) (c : Fin 64) (f : SignetRec → SignetConn → SignetConn) : State :=
  match s.object c with
  | none => s
  | some o =>
    let s := s.setConn c (f o.conn (s.conn c))
    match s.si.snap with
    | some n => { s with si := { s.si with snap := some { n with conns := tset n.conns c (f o.conn (tget n.conns c {})) } } }
    | none => s

/-- SIGNET_WATCHDOG_EXPIRY: at the capture of the cycle in progress the watchdog is judged (R445). -/
def execSignetWatchdogExpiry (c : Fin 64) (s : State) : Host.Outcome State Fault Refusal :=
  match s.si.snap with
  | some n => .next (s.rejudge c (fun r x => x.watchdog r n.at_))
  | none => .next s

/-- The instant of the commit of the cycle in progress: 250 us after its capture (R394). -/
def SafeSnap.commitAt (n : SafeSnap) : Time := n.at_ + 250000 * nsUnits

/-- SIGNET_DEGRADED_EXPIRY: at the first commit at or after the capture of detection plus DEG_WIN (R447). -/
def execSignetDegradedExpiry (c : Fin 64) (s : State) : Host.Outcome State Fault Refusal :=
  match s.si.snap with
  | some n => .next (s.rejudge c (fun r x => x.expire r n.commitAt))
  | none => .next s

end Sys2Proof.Machine
end

