-- ==== Sys2Proof/Machine/Sense.lean ====
section
/-! DEFINITION. Modulator clocks and current-sense filters (04 R125 to R137). -/

namespace Sys2Proof.Machine

open Sys2Proof

/-- The state of a filter. -/
def State.filter (s : State) (n : Fin 80) : Filter := tget s.filters n {}

/-- A filter given a state. -/
def State.setFilter (s : State) (n : Fin 80) (f : Filter) : State := { s with filters := tset s.filters n f }

/-- An input of a filter: false A, true B. -/
def Filter.input (f : Filter) (b : Bool) : SdInput := if b then f.b else f.a

/-- A filter with an input replaced. -/
def Filter.setInput (f : Filter) (b : Bool) (i : SdInput) : Filter := if b then { f with b := i } else { f with a := i }

/-- The modulator clock output of a filter (R125). -/
def sdClockOf (n : Fin 80) : Fin 9 := if n.val < 64 then fin 9 (n.val / 8) else if n.val < 72 then fin 9 (n.val - 64) else 8

/-- The modulator clock period, in 1/256 ns: 50 ns or 125 ns (R126). -/
def modPeriod (slow : Bool) : Time := if slow then 32000 else 12800

/-- The largest M of R130 for the present SDC_CTRL.FREQ and PERIOD_CFG.PERIOD_SEL (R131). -/
def State.maxDec (s : State) : Nat := ((if s.is PERIOD_CFG.PERIOD_SEL then 16000000 else 8000000) / modPeriod (s.is SDC_CTRL.FREQ) + 2) / 3

/-- The edge at which a running clock output started or last changed its frequency. -/
def State.clkStart (s : State) (g : Fin 9) : Option Time := tget s.sdclk.start g none

/-- SDC_ARM_WRITE: bits set start their clocks at the next window edge, unless the pin group is not released; bits cleared
make the output high-impedance at once (R127). -/
def execSdcArmWrite (arm : BitVec 9) (s : State) : Host.Outcome State Fault Refusal :=
  let old := s.get SDC_CTRL.ARM
  let keep := old &&& arm.toNat
  let new := arm.toNat - keep
  let s := { s with sdclk := { s.sdclk with start := s.sdclk.start.map (fun (q : Fin 9 × Option Time) => if arm.toNat.testBit q.1.val then q else (q.1, none)) } }
  if s.is PIN_REL.SDCLK ∨ new = 0 then .next (s.put SDC_CTRL.ARM arm.toNat)
  else .next ((s.put SDC_CTRL.ARM keep).flag SDC_STAT.CFG_REFUSED)

/-- SDC_FREQ_WRITE: applied only while no joint port is armed, in force from the next window edge (R127). -/
def execSdcFreqWrite (slow : Bool) (s : State) : Host.Outcome State Fault Refusal :=
  if s.anyArmed then .next (s.flag SDC_STAT.CFG_REFUSED) else .next (s.putB SDC_CTRL.FREQ slow)

/-- SDC_DLY_WRITE: applied only while no joint port is armed and up to 90 ns, in force from the next window edge (R127,
R128). -/
def execSdcDlyWrite (g : Fin 9) (v : BitVec 7) (s : State) : Host.Outcome State Fault Refusal :=
  if s.anyArmed ∨ 90 < v.toNat then .next (s.flag SDC_STAT.CFG_REFUSED) else .next (s.wr (SDC_DLY g) (v.setWidth 32))

/-- What a window edge at instant w applies to the clocks: frequency and delays in force, and the outputs that start or
change frequency there (R127). -/
def State.applyClocks (s : State) (w : Time) : State :=
  let slow := s.is SDC_CTRL.FREQ
  let change := slow != s.sdclk.slow
  let start := (finList 9).map (fun g =>
    let cur := s.clkStart g
    (g, if (s.get SDC_CTRL.ARM).testBit g.val then (if change || cur.isNone then some w else cur) else none))
  { s with sdclk := { slow := slow, dly := (finList 9).map (fun g => (g, (s.rd (SDC_DLY g)).toNat)), start := start } }

/-- What a window edge applies to a filter: the M in use with DEC_CLAMPED (R131), gains and offsets (R132). -/
def State.applyFilter (s : State) (n : Fin 80) : State :=
  let m := min (s.get (SDF_CFG.DEC n)) s.maxDec
  let f := s.filter n
  let f := { f with
    m := m
    newM := decide (m ≠ f.m)
    a := { f.a with gain := (s.rd (SDF_GAIN_A n)).toNat, ofs := (s.rd (SDF_OFS_A n)).toNat }
    b := { f.b with gain := (s.rd (SDF_GAIN_B n)).toNat, ofs := (s.rd (SDF_OFS_B n)).toNat } }
  (s.setFilter n f).putB (SDF_STAT.DEC_CLAMPED n) (decide (m < s.get (SDF_CFG.DEC n)))

/-- SDF_CFG_WRITE: only while the filter's port is DISARMED, or for filters 64 to 79 while no port is armed, and with DEC in
range (R130, R131, R137). -/
def execSdfCfgWrite (n : Fin 80) (v : Word) (s : State) : Host.Outcome State Fault Refusal :=
  let free := if n.val < 64 then s.get (PWM_STAT.STATE (fin 64 n.val)) == 0 else !s.anyArmed
  let dec := getBits v 0 9
  if free && decide (8 ≤ dec ∧ dec ≤ s.maxDec) then
    let v := v &&& 0x00FF07FF
    .next (s.wr (SDF_CFG n) (if n.val < 64 then v else putBits v 10 1 0))
  else .next (s.flag (SDF_STAT.CFG_REFUSED n))

/-- SDF_GAIN_WRITE: a gain or offset that takes effect at the next window edge (R132); input B of filters 64 to 79 is
reserved (R136). -/
def execSdfGainWrite (n : Fin 80) (inB ofs : Bool) (v : BitVec 24) (s : State) : Host.Outcome State Fault Refusal :=
  if inB ∧ 64 ≤ n.val then .next s
  else
    let r := if inB then (if ofs then SDF_OFS_B n else SDF_GAIN_B n) else if ofs then SDF_OFS_A n else SDF_GAIN_A n
    .next (s.wr r (v.setWidth 32))

/-- The weight of bit i of the window of a third-order sinc filter with decimation ratio m (R130): the number of ways to
write i as a sum of three numbers below m. -/
def sincWeight (m i : Nat) : Nat :=
  let tri := fun (k : Nat) => (k + 1) * (k + 2) / 2
  let part := fun (c : Nat) => if c ≤ i then tri (i - c) else 0
  part 0 + 3 * part (2 * m) - 3 * part m - part (3 * m)

/-- The filter sum S of a window's bits. -/
def sincSum (m : Nat) (bits : List Bool) : Nat :=
  (((bits.take (3 * m - 2)).zip (List.range (3 * m - 2))).map (fun (q : Bool × Nat) => if q.1 then sincWeight m q.2 else 0)).sum

/-- Division rounded to the nearest whole number, ties away from zero. -/
def roundAway (x : Int) (d : Nat) : Int := if 0 ≤ x then (2 * x + d) / (2 * d) else -((-2 * x + d) / (2 * d))

/-- A number limited to 24 signed bits. -/
def sat24 (x : Int) : Int := clampInt (-8388608) 8388607 x

/-- The value and the CLIP bit of R132. -/
def normalise (m S : Nat) (gain ofs : Nat) : Int × Bool :=
  let x := sat24 (roundAway ((2 * (S : Int) - (m ^ 3 : Nat)) * 8388608) (m ^ 3))
  let y := roundAway ((x - signed 24 ofs) * gain) 4194304
  (sat24 y, sat24 y ≠ y || S == 0 || S == m ^ 3)

/-- Whether a run of an input that has reached its length by w reaches into the window from instant `first` to w (R135). -/
def SdInput.stuckIn (i : SdInput) (first w : Time) : Bool :=
  (match i.run with | some r => decide (r ≤ w) | none => false) ||
  i.lastRuns.any (fun (q : Time × Time) => decide (q.1 ≤ w ∧ first < q.2))

/-- The sample word of an input for the window that ends at w (R130 to R135), and whether it is clipped and stuck. -/
def State.sampleWord (s : State) (n : Fin 80) (b : Bool) (bits : List Bool) (w : Time) : Word × Bool × Bool :=
  let f := s.filter n
  let i := f.input b
  let first := w - (3 * f.m - 3) * modPeriod s.sdclk.slow
  let en := s.is (if b then SDF_CFG.EN_B n else SDF_CFG.EN_A n)
  let run := match s.clkStart (sdClockOf n) with | some t => decide (t ≤ first) | none => false
  let stuck := en && i.stuckIn first w
  if en && run then
    let (y, clip) := normalise f.m (sincSum f.m bits) i.gain i.ofs
    (BitVec.ofNat 32 (unsignedOf 24 y + (if clip then 2 ^ 24 else 0) + (if stuck then 2 ^ 25 else 0)), clip, stuck)
  else (BitVec.ofNat 32 (2 ^ 26 + (if stuck then 2 ^ 25 else 0)), false, stuck)

/-- One input's sample registered with its flags and counts (R132, R134, R135). -/
def State.deliverInput (s : State) (n : Fin 80) (b : Bool) (bits : List Bool) (w : Time) : State :=
  let (v, clip, stuck) := s.sampleWord n b bits w
  let s := s.wr (if b then SDF_SAMPLE_B n else SDF_SAMPLE_A n) v
  let s := if clip then (s.flag (if b then SDF_STAT.CLIP_B n else SDF_STAT.CLIP_A n)).bump (SDF_CLIP_CNT n) else s
  if stuck then s.bump (SDF_STUCK_CNT n) else s

/-- The samples of all 80 filters for the window that ends at w; an input whose bits are not given has seen zeros. -/
def State.deliverFilters (s : State) (bits : List ((Fin 80 × Bool) × List Bool)) (w : Time) : State :=
  (finList 80).foldl (fun s n =>
    let s := s.deliverInput n false (tget bits (n, false) []) w
    let s := if n.val < 64 then s.deliverInput n true (tget bits (n, true) []) w else s
    s.wr (SDF_PERIOD n) (BitVec.ofNat 32 ((s.rd PERIOD_CNT).toNat % 2 ^ 16))) s

/-- SDF_STUCK_RUN: a run of an enabled input reaches STUCK x 16 bits: the live flag and one record per run (R135). -/
def execSdfStuckRun (n : Fin 80) (inB : Bool) (t : Nat) (s : State) : Host.Outcome State Fault Refusal :=
  let s := s.advance t
  let f := s.filter n
  if s.is (if inB then SDF_CFG.EN_B n else SDF_CFG.EN_A n) ∧ s.get (SDF_CFG.STUCK n) ≠ 0 ∧ (f.input inB).run.isNone ∧ ¬(inB ∧ 64 ≤ n.val) then
    let s := (s.setFilter n (f.setInput inB { f.input inB with run := some t })).flag (if inB then SDF_STAT.STUCK_B n else SDF_STAT.STUCK_A n)
    let addr := if n.val < 64 then s.jointAddr (fin 64 n.val) else s.cellAddr
    .next (s.post 0x0110 1 addr [BitVec.ofNat 8 n.val, if inB then 1 else 0])
  else .next s

/-- SDF_STUCK_RUN_END: a transition ends the run and the live flag (R135). -/
def execSdfStuckRunEnd (n : Fin 80) (inB : Bool) (t : Nat) (s : State) : Host.Outcome State Fault Refusal :=
  let s := s.advance t
  let f := s.filter n
  match (f.input inB).run with
  | some r =>
    .next ((s.setFilter n (f.setInput inB { f.input inB with
        run := none
        lastRuns := (f.input inB).lastRuns.filter (fun (q : Time × Time) => decide (t < q.2 + 2 * s.period)) ++ [(r, t)] })).put
      (if inB then SDF_STAT.STUCK_B n else SDF_STAT.STUCK_A n) 0)
  | none => .next s

end Sys2Proof.Machine
end

