-- ==== Sys2Proof/Machine/Feedback.lean ====
section
/-! DEFINITION. Feedback units (04 R138 to R164). -/

namespace Sys2Proof.Machine

open Sys2Proof

/-- The inner state of a feedback unit. -/
def State.fb (s : State) (n : Fin 64) : FbUnit := tget s.fbs n {}

/-- A feedback unit given an inner state. -/
def State.setFb (s : State) (n : Fin 64) (u : FbUnit) : State := { s with fbs := tset s.fbs n u }

/-- Whether a unit is set to a serial mode. -/
def State.serial (s : State) (n : Fin 64) : Bool := decide (3 ≤ s.get (FB_CFG.MODE n))

/-- FB_STAT's live bits follow the unit (R164). -/
def State.showFb (s : State) (n : Fin 64) : State :=
  let u := s.fb n
  ((((s.putB (FB_STAT.DIR n) u.rev).putB (FB_STAT.STANDSTILL n) (!u.moving)).putB (FB_STAT.UNCERTAIN n) ((s.serial n || u.moving) && u.unc)).putB
    (FB_STAT.AT_LLIM n) (u.pos == u.lo)).putB (FB_STAT.AT_ULIM n) (u.pos == u.hi)

/-- A unit given an inner state, with its live bits following. -/
def State.updFb (s : State) (n : Fin 64) (u : FbUnit) : State := (s.setFb n u).showFb n

/-- An error named by R141, R144, R146, R148 or R149: counted for the unit and for the planning tick (R160). -/
def State.fbError (s : State) (n : Fin 64) : State :=
  let u := s.fb n
  (s.bump (FB_ERR_CNT n)).setFb n { u with errs := u.errs + 1 }

/-- The counter moved to x as the soft limits allow (R151): beyond a limit it stays there, sets SAT and writes one record
for each arrival. -/
def State.moveTo (s : State) (n : Fin 64) (x : Int) : State :=
  let u := s.fb n
  let y := if x < u.lo then u.lo else if u.hi < x then u.hi else x
  if y = x then s.updFb n { u with pos := y, atLim := if u.atLim = some (decide (y = u.hi)) ∧ (y = u.lo ∨ y = u.hi) then u.atLim else none }
  else
    let up := decide (u.hi < x)
    let s := (s.updFb n { u with pos := y, atLim := some up }).flag (FB_STAT.SAT n)
    if u.atLim = some up then s else s.post 0x0111 1 (s.jointAddr n) [if up then 1 else 0]

/-- How often the compare position must advance by the spacing to lie ahead of the counter (R156, R157). -/
def passes (rev : Bool) (c pos : Int) (sp : Nat) : Nat :=
  let past := if rev then c - pos else pos - c
  if past < 0 ∨ sp = 0 then 0 else (past / sp).toNat + 1

/-- Whether a position is at or beyond the compare position in its direction. -/
def beyond (rev : Bool) (c pos : Int) : Bool := if rev then decide (pos ≤ c) else decide (c ≤ pos)

/-- The pulses on FBO with one more: the output register is set 5 port cycles after the edge at t, for pw cycles; a hit that arrives
during a pulse restarts it (R158). -/
def addPulse (l : List (Time × Time)) (t : Time) (pw : Nat) : List (Time × Time) :=
  let q := (t + 5 * portUnits, t + (5 + pw) * portUnits)
  match l.getLast? with
  | some (a, b) => if q.1 ≤ b then l.dropLast ++ [(a, q.2)] else l ++ [q]
  | none => [q]

/-- The stretches in which a level is active with one more, from a to b: a hit during the last one restarts it (R624). -/
def addStretch (l : List (Time × Time)) (a b : Time) : List (Time × Time) :=
  match l.getLast? with
  | some (c, d) => if a < d then l.dropLast ++ [(c, b)] else l ++ [(a, b)]
  | none => [(a, b)]

/-- One hit at a device instant (R156, R158): count, time, pulse, level of R624 from the instant at which the counter shows it, and record; then
the compare advances past the counter or disarms; the positions passed without a hit go to CMP_SKIP. -/
def State.cmpHit (s : State) (n : Fin 64) (t shown : Time) : State × Nat :=
  let u := s.fb n
  let rev := s.is (CMP_CTRL.DIR n)
  let sp := (s.rd (CMP_SPACE n)).toNat
  let c := s.cellAt t
  let k := passes rev u.cmp u.pos sp
  let next := if rev then u.cmp - (k * sp : Nat) else u.cmp + (k * sp : Nat)
  let flt := s.get (IC_SRC_CFG.FLT (fin 512 (224 + n.val)))
  let pw := s.get (CMP_CTRL.PW n)
  let irq := s.is (CMP_CTRL.IRQ n)
  let pulsing := s.get (FB_CFG.FBO_SEL n) = 4 ∧ pw ≠ 0
  let s := (s.count (CMP_HITS n)).wr (CMP_HIT_NS n) (BitVec.ofNat 32 (nsOf c))
  let s := if s.is (CMP_CTRL.LOCKET n) then s.postAt 0x0113 0 (s.jointAddr n) (leBytes 6 (unsignedOf 48 u.cmp)) (floorTo nsUnits c) else s
  let u := { u with
    hitSec := secOf c
    pulses := if pulsing then addPulse u.pulses t pw else u.pulses
    levels := if irq then addStretch u.levels shown (shown + (flt + 1) * portUnits) else u.levels }
  if sp = 0 then (s.setFb n { u with armed := false }, 0)
  else
    let s := (s.setFb n { u with cmp := next }).wr48 (CMP_NEXT_LO n) (CMP_NEXT_HI n) next
    (s.wr (CMP_SKIP n) (BitVec.ofNat 32 (satAdd 32 (s.rd (CMP_SKIP n)).toNat (k - 1))), k - 1)

/-- Motion from an old to the present position: the compare is reached from a value short of it (R156). -/
def State.cmpMotion (s : State) (n : Fin 64) (old : Int) (t shown : Time) : State :=
  let u := s.fb n
  let rev := s.is (CMP_CTRL.DIR n)
  if u.armed && !beyond rev u.cmp old && beyond rev u.cmp u.pos then
    let (s, skip) := s.cmpHit n t shown
    if skip ≠ 0 then s.flag (FB_STAT.MULTI n) else s
  else s

/-- The late-hit rule of R157, at an arming or a preset: no edge and no delivery belongs to such a hit, and its time is the present
device time (DESIGN CHOICE, log 49). -/
def State.cmpLate (s : State) (n : Fin 64) : State :=
  let u := s.fb n
  let rev := s.is (CMP_CTRL.DIR n)
  if u.armed && beyond rev u.cmp u.pos && u.lastMotion == some rev then ((s.cmpHit n s.now s.now).1).flag (FB_STAT.LATE_HIT n) else s

/-- A legal count at port edge t (R141, R151, R154, R156). The counter has moved from the edge's first sample on, so a window edge that
falls into the cycles of the synchroniser and the count sees it: DESIGN CHOICE, log 49 (R153, R158). -/
def State.fbCount (s : State) (n : Fin 64) (rev : Bool) (t : Time) : State :=
  let u := s.fb n
  let old := u.pos
  let u := { u with
    moving := true
    dt := if u.moving && u.rev == rev then some (t - u.tLast) else none
    unc := !(u.moving && u.rev == rev)
    rev := rev
    tLast := t
    lastMotion := some rev }
  ((s.setFb n u).moveTo n (if rev then old - 1 else old + 1)).cmpMotion n old t (t + 4 * portUnits)

/-- An illegal transition: counted, and the estimator restarts as at standstill (R141, R144). -/
def State.fbIllegal (s : State) (n : Fin 64) : State :=
  let s := s.fbError n
  s.updFb n { s.fb n with moving := false }

/-- The place of a state (A in bit 0, B in bit 1) in the forward sequence of R141. -/
def quadIndex (ab : Nat) : Nat := match ab with | 0 => 0 | 1 => 1 | 3 => 2 | _ => 3

/-- The place of a Hall pattern in the forward order of R143; none for the illegal patterns. -/
def hallIndex (p : Nat) : Option Nat :=
  match p with | 1 => some 0 | 3 => some 1 | 2 => some 2 | 6 => some 3 | 4 => some 4 | 5 => some 5 | _ => none

/-- Quadrature decoding of a sample (R141, R142). -/
def State.quadSample (s : State) (n : Fin 64) (old new : BitVec 3) (t : Time) : State :=
  let a := (old.toNat % 4, new.toNat % 4)
  let inv := s.is (FB_CFG.DIR_INV n)
  let s :=
    if a.1 = a.2 then s
    else if a.1 + a.2 = 3 then s.fbIllegal n
    else s.fbCount n ((quadIndex a.2 != (quadIndex a.1 + 1) % 4) != inv) t
  if s.is (FB_CFG.ZEN n) && new.getLsbD 2 && !old.getLsbD 2 then
    let u := s.fb n
    ((s.setFb n { u with idx := u.pos }).wr48 (FB_IDX_LO n) (FB_IDX_HI n) u.pos).flag (FB_STAT.INDEX n)
  else s

/-- Hall decoding of a sample at which a line changed (R143, R144, R161). -/
def State.hallSample (s : State) (n : Fin 64) (new : BitVec 3) (t : Time) : State :=
  let u := s.fb n
  match hallIndex new.toNat with
  | none => s.fbIllegal n
  | some i =>
    let s1 := s.setFb n { u with hall := some new.toNat }
    match u.hall.bind hallIndex with
    | none => s1.put (FB_STAT.VALID n) 1
    | some j =>
      if i = j then s
      else if i = (j + 1) % 6 then s1.fbCount n (s.is (FB_CFG.DIR_INV n)) t
      else if j = (i + 1) % 6 then s1.fbCount n (!s.is (FB_CFG.DIR_INV n)) t
      else s1.fbIllegal n

/-- FB_LINE_CHANGE. -/
def execFbLineChange (n : Fin 64) (lines : BitVec 3) (t : Nat) (s : State) : Host.Outcome State Fault Refusal :=
  let s := s.advance t
  let old := (s.fb n).lines
  let s := s.setFb n { s.fb n with lines := lines }
  if old = lines ∨ s.is (FB_CTRL.EN n) = false then .next s
  else if s.get (FB_CFG.MODE n) = 1 then .next (s.quadSample n old lines t)
  else if s.get (FB_CFG.MODE n) = 2 then .next (s.hallSample n lines t)
  else .next s

/-- Whether a unit is enabled in a serial mode. -/
def State.serialOn (s : State) (n : Fin 64) : Bool := s.is (FB_CTRL.EN n) && s.serial n

/-- Whether a reading starts in the present period: every 1, 2, 4 or 8 periods from the first one on (R145). -/
def State.readingDue (s : State) (n : Fin 64) : Bool :=
  match (s.fb n).origin with
  | none => true
  | some o => (s.periodNo - o) % 2 ^ s.get (FB_CFG.SRATE n) == 0

/-- FB_READING_START: at the first port edge at or after the window edge the unit starts a reading, delivered with the samples of the
period 1, 2, 4 or 8 later, at which the next one starts; the Filigree request is CMD 0x2 once after ENC_CLR, 0x1 otherwise, its upper
half the complement (R145, R147). -/
def execFbReadingStart (n : Fin 64) (s : State) : Host.Outcome State Fault Refusal :=
  let u := s.fb n
  if s.serialOn n ∧ u.reading.isNone ∧ s.readingDue n then
    let t := ceilTo portUnits (s.boundary s.periodNo)
    let fil := 4 ≤ s.get (FB_CFG.MODE n)
    let cmd := if fil ∧ u.encClr then 0xD2 else 0xE1
    .next ((s.advance t).setFb n { u with
      reading := some { start := t, period := s.periodNo + 2 ^ s.get (FB_CFG.SRATE n), cmd := cmd }
      origin := some (u.origin.getD s.periodNo)
      encClr := if fil then false else u.encClr })
  else .next s

/-- The outcome of a unit's reading is known; the sample of its period will show it (R145, R149, R150). -/
def State.readingOut (s : State) (n : Fin 64) (o : Option (Nat × Int)) : State :=
  s.setFb n { s.fb n with reading := (s.fb n).reading.map (fun (r : Reading) => { r with out := some o }) }

/-- A failed reading is counted (R150, R160). -/
def State.readingFailed (s : State) (n : Fin 64) : State := (s.fbError n).readingOut n none

/-- A reading timed out (R145, R148). -/
def State.readingTimeout (s : State) (n : Fin 64) : State := (s.readingFailed n).flag (FB_STAT.TIMEOUT n)

/-- The instant by which a reading must be complete: 1 us before the window edge of its delivery (R145). -/
def State.readingLimit (s : State) (r : Reading) : Time := s.boundary r.period - 1000 * nsUnits

/-- The reading of a unit that has not ended. -/
def FbUnit.open_ (u : FbUnit) : Option Reading := u.reading.filter (fun (r : Reading) => r.out.isNone)

/-- FB_READING_TIMEOUT. -/
def execFbReadingTimeout (n : Fin 64) (s : State) : Host.Outcome State Fault Refusal :=
  match (s.fb n).open_ with
  | none => .next s
  | some _ => .next (s.readingTimeout n)

/-- The first valid reading loads the counter, valid, with speed 0 uncertain (R149). -/
def State.firstReading (s : State) (n : Fin 64) (r : Reading) (a : Nat) (value : Int) : State :=
  let u := s.fb n
  let s := s.setFb n { u with stale := false, lastA := some (a, r.start), spdOk := true, moving := true, unc := true, spd := 0, changed := r.start }
  (s.moveTo n value).put (FB_STAT.VALID n) 1

/-- A further valid reading with difference d (R149, R155, R156). DESIGN CHOICE (log 61): DIR_INV, which exchanges forward and reverse (R163), has no
effect in absolute modes, where the count is the reading; the spec does not say whether it acts there. -/
def State.nextReading (s : State) (n : Fin 64) (r : Reading) (a : Nat) (d : Int) (since : Time) : State :=
  let u := s.fb n
  let old := u.pos
  let u := { u with
    stale := false
    lastA := some (a, r.start)
    spdOk := true
    spd := if u.spdOk then roundAway (d * 65536000000000) (max 1 (r.start - since)) else u.spd
    unc := !u.spdOk
    rev := if d < 0 then true else if 0 < d then false else u.rev
    moving := u.moving || decide (d ≠ 0)
    changed := if d = 0 then u.changed else r.start
    lastMotion := if d < 0 then some true else if 0 < d then some false else u.lastMotion }
  ((s.setFb n u).moveTo n (old + d)).cmpMotion n old (s.boundary r.period) (s.boundary r.period)

/-- The reading that is due with the samples of period k delivered: the counter and the speed follow a valid one; after an error the
counter is kept, the sample STALE, the speed held as uncertain and measured again from the reading after the next valid one (R145, R149,
R150). A reading that has not ended by now has timed out. -/
def State.deliverReading (s : State) (n : Fin 64) (k : Nat) : State :=
  match (s.fb n).reading with
  | none => s
  | some r =>
    if k < r.period then s
    else
      let s := if r.out.isNone then s.readingTimeout n else s
      let s := s.setFb n { s.fb n with reading := none }
      match r.out, (s.fb n).lastA with
      | some (some (a, v)), none => s.firstReading n r a v
      | some (some (a, d)), some (_, since) => s.nextReading n r a d since
      | _, _ => s.updFb n { s.fb n with stale := true, unc := true, spdOk := false }

/-- A valid reading of turns and position (R149): the first one, one differenced, or a jump error. DESIGN CHOICE (log 61): of position bits above
RES, which a Filigree response can hold, the absolute value keeps what lies within its range, while a first load with turn bits keeps them all;
R149 does not speak of them. -/
def State.validReading (s : State) (n : Fin 64) (turnBits turns pos : Nat) : State :=
  let res := s.get (FB_CFG.RES n)
  let range := turnBits + res
  let a := (turns * 2 ^ res + pos) % 2 ^ range
  match (s.fb n).lastA with
  | none => s.readingOut n (some (a, if turnBits = 0 then (a : Int) else signed 16 turns * (2 ^ res : Nat) + (pos : Int)))
  | some (q, _) =>
    let d := signed range ((a + 2 ^ range - q) % 2 ^ range)
    if (s.rd (FB_JUMP n)).toNat < d.natAbs then (s.readingFailed n).flag (FB_STAT.JUMP n) else s.readingOut n (some (a, d))

/-- The clock period of SSI, in 1/256 ns (R146, R163). -/
def State.ssiPeriod (s : State) (n : Fin 64) : Time :=
  match s.get (FB_SER.SSI_CLK n) with
  | 0 => 256000 | 1 => 102400 | 2 => 51200 | _ => 25600

/-- When an SSI reading ends: the further bit is sampled LINE_DLY port cycles after the last of SSI_BITS + 1 falling edges (R146). DESIGN CHOICE
(log 61): R146 does not say whether data bits count from 0 or from 1; counted from 0, bit i is sampled after edge i + 1, so that the further bit
belongs to the last edge. -/
def State.ssiDone (s : State) (n : Fin 64) (r : Reading) : Time :=
  r.start + s.get (FB_SER.SSI_BITS n) * s.ssiPeriod n + s.get (FB_SER.LINE_DLY n) * portUnits

/-- Gray code to binary. -/
def ofGray (n x : Nat) : Nat := (List.range n).foldl (fun acc i => acc ^^^ (x >>> i)) 0

/-- SSI_READING_DONE (R146): the frame is checked, converted and split into turn bits, position bits and the error bit. -/
def execSsiReadingDone (n : Fin 64) (idleHigh : Bool) (data : BitVec 48) (extra : Bool) (s : State) : Host.Outcome State Fault Refusal :=
  match (s.fb n).open_ with
  | none => .next s
  | some r =>
    let s := s.advance (s.ssiDone n r)
    if s.serialOn n = false then .next s
    else if s.readingLimit r < s.ssiDone n r then .next (s.readingTimeout n)
    else
      let ebit := s.get (FB_SER.EBIT n)
      let turnBits := s.get (FB_SER.TURN_BITS n)
      let res := s.get (FB_CFG.RES n)
      let alarm := ebit = 1 ∧ data.getLsbD 0
      let w := data.toNat / 2 ^ ebit % 2 ^ (turnBits + res)
      let w := if s.is (FB_SER.GRAY n) then ofGray (turnBits + res) w else w
      let s := if alarm then s.flag (FB_STAT.ENC_ALARM n) else s
      if idleHigh = false ∨ extra ∨ alarm then .next ((s.readingFailed n).flag (FB_STAT.FRAME n))
      else .next (s.validReading n turnBits (w / 2 ^ res) (w % 2 ^ res))

/-- A check value of width w over the low n bits of x in line order, bit 0 first (R147). -/
def lineCrc (w poly init n x : Nat) : Nat :=
  (List.range n).foldl (fun c i =>
    let top := (c.testBit (w - 1)) != x.testBit i
    let c := c * 2 % 2 ^ w
    if top then c ^^^ poly else c) init

/-- The bit time of a Filigree mode in 1/256 ns (R147). -/
def State.filBit (s : State) (n : Fin 64) : Time :=
  if s.get (FB_CFG.MODE n) = 4 then 102400 else if s.is (FB_SER.FIL2_5M n) then 51200 else 25600

/-- FILIGREE_RESPONSE (R147, R148): the start bit in time, stop bit, check value, status. -/
def execFiligreeResponse (n : Fin 64) (data : BitVec 72) (stop : Bool) (t : Nat) (s : State) : Host.Outcome State Fault Refusal :=
  match (s.fb n).open_ with
  | none => .next (s.advance t)
  | some r =>
    let two := s.get (FB_CFG.MODE n) = 5
    let bit := s.filBit n
    let posBits := if two then 32 else 24
    let body := if two then 56 else 32
    let done := t + (if two then 74 else 42) * bit
    let s := s.advance done
    let x := data.toNat
    let status := if two then x / 2 ^ 48 % 256 else x / 2 ^ 24 % 256
    let crcOk := if two then lineCrc 16 0x1021 0xFFFF 56 x == x / 2 ^ 56 % 2 ^ 16 else lineCrc 8 0x1D 0 32 x == x / 2 ^ 32 % 2 ^ 8
    if s.serialOn n = false ∨ body = 0 then .next s
    else if r.start + 10 * bit + (if two then 3000 else 6000) * nsUnits < t ∨ s.readingLimit r < done then .next (s.readingTimeout n)
    else
      let s := if two then s.setFb n { s.fb n with raw := some (data, stop) } else s
      let s := s.wr (FB_ENC n) (BitVec.ofNat 32 status)
      if stop = false then .next ((s.readingFailed n).flag (FB_STAT.FRAME n))
      else if crcOk = false then .next ((s.readingFailed n).flag (FB_STAT.CRC n))
      else
        let s := if status.testBit 0 || status.testBit 2 then s.flag (FB_STAT.ENC_ALARM n) else s
        if status.testBit 3 then .next (s.readingFailed n)
        else .next (s.validReading n (if two then 16 else 0) (if two then x / 2 ^ 32 % 2 ^ 16 else 0) (x % 2 ^ posBits))

/-- The FB_SST timeout, in 1/256 ns. -/
def State.fbSst (s : State) (n : Fin 64) : Time := (s.rd (FB_SST n)).toNat * 256000

/-- The speed in 2^-8 counts/s that R154 reports at instant w, from the interval of the last two counts: the smaller of the
measured speed and that of a count at w, rounded ties away from zero. -/
def estSpeed (u : FbUnit) (w : Time) : Int :=
  match u.dt with
  | none => 0
  | some d =>
    let v := roundAway 65536000000000 (max 1 (max d (w - u.tLast)))
    if u.rev then -v else v

/-- The report of a unit for the window edge at w (R153 to R155): standstill after FB_SST, position, speed and flags. -/
def State.speedReport (s : State) (n : Fin 64) (w : Time) : State :=
  let u := s.fb n
  let abs := s.serial n
  let still := if abs then decide (s.fbSst n ≤ w - u.changed) else !u.moving || decide (s.fbSst n ≤ w - u.tLast)
  let u := { u with moving := !still }
  let spd := if abs then u.spd else if still then 0 else estSpeed u w
  let unc := if abs then u.unc else !still && u.unc
  let s := s.updFb n u
  let fl := (if u.rev then 1 else 0) + (if still then 2 else 0) + (if unc then 4 else 0)
    + (if u.pos = u.lo ∨ u.pos = u.hi then 8 else 0) + (if s.is (FB_STAT.VALID n) then 16 else 0)
    + (if abs && u.stale then 32 else 0) + (if s.is (FB_STAT.ERR_FAULT n) then 64 else 0)
    + (s.rd PERIOD_CNT).toNat % 2 ^ 16 * 2 ^ 16
  s.setFb n { u with report := (u.pos, spd, fl) }

/-- FB_STANDSTILL_TIMEOUT: at the window edge at which FB_SST has passed with no count, standstill is reported (R154, R155). -/
def execFbStandstillTimeout (n : Fin 64) (s : State) : Host.Outcome State Fault Refusal :=
  .next (if s.is (FB_CTRL.EN n) then s.speedReport n (s.boundary s.periodNo) else s)

/-- The report of an enabled unit delivered (R153). DESIGN CHOICE (log 61): a unit with EN = 0 delivers nothing, and FB_PSAMP, FB_SPD and FB_PSTAT
keep what they last held, VALID included; R153 does not say what it delivers. -/
def State.deliverFb (s : State) (n : Fin 64) : State :=
  if s.is (FB_CTRL.EN n) then
    let (pos, spd, fl) := (s.fb n).report
    ((s.wr48 (FB_PSAMP_LO n) (FB_PSAMP_HI n) pos).wr48 (FB_SPD_LO n) (FB_SPD_HI n) spd).wr (FB_PSTAT n) (BitVec.ofNat 32 fl)
  else s

/-- FB_ERR_LIMIT: the errors within the planning tick reach FB_ERR_LIM (R160). -/
def execFbErrLimit (n : Fin 64) (s : State) : Host.Outcome State Fault Refusal :=
  let u := s.fb n
  let lim := (s.rd (FB_ERR_LIM n)).toNat
  if lim ≠ 0 ∧ lim ≤ u.errs ∧ u.errHit = false then
    let s := (s.setFb n { u with errHit := true }).flag (FB_STAT.ERR_FAULT n)
    .next (s.post 0x0112 2 (s.jointAddr n) (leBytes 4 (s.rd (FB_ERR_CNT n)).toNat))
  else .next s

/-- FB_LIMIT_WRITE: the write of a HI register puts the limit in force, or is refused; a counter outside it is clamped, a new arrival
with its record (R151, R152). -/
def execFbLimitWrite (n : Fin 64) (upper : Bool) (hi : BitVec 16) (s : State) : Host.Outcome State Fault Refusal :=
  let u := s.fb n
  let v := pair48 (s.rd (if upper then FB_ULIM_LO n else FB_LLIM_LO n)) (hi.setWidth 32)
  let u' := if upper then { u with hi := v } else { u with lo := v }
  if u'.hi < u'.lo then .next (s.flag (FB_STAT.CFG_REFUSED n))
  else
    let s := s.wr (if upper then FB_ULIM_HI n else FB_LLIM_HI n) (hi.signExtend 32)
    let clamps := u.pos < u'.lo ∨ u'.hi < u.pos
    .next ((s.setFb n { u' with atLim := if clamps then none else u.atLim }).moveTo n u.pos)

/-- FB_SET_WRITE: the write of FB_SET_HI presets the counter, clamped, and the compare is judged for a late hit (R152). -/
def execFbSetWrite (n : Fin 64) (hi : BitVec 16) (s : State) : Host.Outcome State Fault Refusal :=
  let u := s.fb n
  let s := (s.wr (FB_SET_HI n) (hi.setWidth 32)).setFb n { u with atLim := none }
  .next ((s.moveTo n (pair48 (s.rd (FB_SET_LO n)) (hi.setWidth 32))).cmpLate n)

/-- FB_POS_LO_READ: returns the counter's low word and latches FB_POS_HI (R162). -/
def execFbPosLoRead (n : Fin 64) (s : State) : Host.Outcome State Fault Refusal :=
  let x := (s.fb n).pos
  .next ((s.wr48 (FB_POS_LO n) (FB_POS_HI n) x).answer [lo48 x])

/-- CMP_HIT_NS_READ: returns the nanoseconds of the last hit and latches its seconds (R162). -/
def execCmpHitNsRead (n : Fin 64) (s : State) : Host.Outcome State Fault Refusal :=
  let u := s.fb n
  let s := (s.wr (CMP_HIT_SEC_LO n) (BitVec.ofNat 32 u.hitSec)).wr (CMP_HIT_SEC_HI n) (BitVec.ofNat 32 (u.hitSec / 2 ^ 32))
  .next (s.answer [s.rd (CMP_HIT_NS n)])

/-- FB_EN_WRITE: 1 clears estimator, references and VALID and starts the unit in its mode, or is refused for a serial mode
before release; 0 stops it and clears VALID (R161). DESIGN CHOICE (log 61): the direction of the last counted motion, by which R157 judges a late
hit, outlives EN set anew; the spec does not say whether it belongs to the estimator. -/
def execFbEnWrite (n : Fin 64) (on : Bool) (s : State) : Host.Outcome State Fault Refusal :=
  let u := s.fb n
  let mode := s.get (FB_CFG.MODE n)
  if on = false then .next (((s.put (FB_CTRL.EN n) 0).put (FB_STAT.VALID n) 0).setFb n { u with reading := none, origin := none })
  else if s.is (FB_CTRL.EN n) then .next s
  else if 3 ≤ mode ∧ s.is PIN_REL.FBO = false then .next (s.flag (FB_STAT.CFG_REFUSED n))
  else
    let hall := if mode = 2 ∧ (hallIndex u.lines.toNat).isSome then some u.lines.toNat else none
    let s := (s.put (FB_CTRL.EN n) 1).putB (FB_STAT.VALID n) (decide (mode = 1 ∨ hall.isSome))
    .next (s.updFb n { u with
      hall := hall, moving := false, rev := false, dt := none, unc := false, lastA := none, spdOk := false, spd := 0
      reading := none, origin := none, stale := false, changed := s.now })

/-- FB_OUT_EN_WRITE: drives or releases FBO, refused before release (R159, R601). -/
def execFbOutEnWrite (n : Fin 64) (on : Bool) (s : State) : Host.Outcome State Fault Refusal :=
  if on ∧ s.is PIN_REL.FBO = false ∧ s.is (FB_CTRL.OUT_EN n) = false then .next (s.flag (FB_STAT.CFG_REFUSED n))
  else .next (s.putB (FB_CTRL.OUT_EN n) on)

/-- ENC_CLR: the next Filigree request clears alarms (R147). -/
def execEncClr (n : Fin 64) (s : State) : Host.Outcome State Fault Refusal := .next (s.setFb n { s.fb n with encClr := true })

/-- The consistency of FB_CFG and FB_SER that R161 asks for, with no reserved code. -/
def fbCfgOk (cfg ser : Word) : Bool :=
  let mode := getBits cfg 0 3
  let res := getBits cfg 5 6
  let bits := getBits ser 10 6
  let turns := getBits ser 16 5
  let ebit := getBits ser 22 1
  decide (mode ≤ 5 ∧ getBits cfg 13 3 ≤ 4 ∧ 8 ≤ bits ∧ bits ≤ 48 ∧ turns ≤ 16)
    && (mode != 3 || decide (bits = turns + res + ebit ∧ turns + res ≤ 48))
    && (!(mode == 3 || mode == 5) || decide (8 ≤ res ∧ res ≤ 32)) && (mode != 4 || decide (8 ≤ res ∧ res ≤ 24))

/-- FB_CFG_WRITE: a write of FB_CFG or FB_SER applies only while disabled and consistent (R161). -/
def execFbCfgWrite (n : Fin 64) (ser : Bool) (v : Word) (s : State) : Host.Outcome State Fault Refusal :=
  let cfg := if ser then s.rd (FB_CFG n) else v
  let se := if ser then v else s.rd (FB_SER n)
  if s.is (FB_CTRL.EN n) ∨ fbCfgOk cfg se = false then .next (s.flag (FB_STAT.CFG_REFUSED n))
  else .next (if ser then s.wr (FB_SER n) (v &&& 0x00FFFFFF) else s.wr (FB_CFG n) (v &&& 0x0000FFFF))

/-- The compare armed with {CMP_POS_HI, CMP_POS_LO}, and the late-hit rule (R157). -/
def State.cmpArm (s : State) (n : Fin 64) : State :=
  let c := s.rd48 (CMP_POS_LO n) (CMP_POS_HI n)
  ((s.setFb n { s.fb n with armed := true, cmp := c }).wr48 (CMP_NEXT_LO n) (CMP_NEXT_HI n) c).cmpLate n

/-- CMP_ARM_WRITE: a write of CMP_POS_HI arms while CMP_CTRL.EN is 1, and only stores the position while it is 0 (R157). -/
def execCmpArmWrite (n : Fin 64) (hi : BitVec 16) (s : State) : Host.Outcome State Fault Refusal :=
  let s := s.wr (CMP_POS_HI n) (hi.signExtend 32)
  .next (if s.is (CMP_CTRL.EN n) then s.cmpArm n else s)

/-- CMP_EN_WRITE: setting EN from 0 to 1 arms, 0 disarms (R157). -/
def execCmpEnWrite (n : Fin 64) (on : Bool) (s : State) : Host.Outcome State Fault Refusal :=
  let was := s.is (CMP_CTRL.EN n)
  let s := s.putB (CMP_CTRL.EN n) on
  if on = false then .next (s.setFb n { s.fb n with armed := false }) else if was then .next s else .next (s.cmpArm n)

/-- CMP_PULSE_END: the compare pulse on FBO ends PW port cycles after its start (R158). -/
def execCmpPulseEnd (n : Fin 64) (s : State) : Host.Outcome State Fault Refusal :=
  match (s.fb n).pulses with
  | [] => .next s
  | (_, t) :: l => .next ((s.advance t).setFb n { s.fb n with pulses := l })

/-- CMP_IRQ_LEVEL_END: the level of source 224 + n ends FLT + 1 port cycles after the last hit (R624). -/
def execCmpIrqLevelEnd (n : Fin 64) (s : State) : Host.Outcome State Fault Refusal :=
  match (s.fb n).levels with
  | [] => .next s
  | (_, t) :: rest => .next ((s.advance t).setFb n { s.fb n with levels := rest })

/-- The level of the SSI clock or of the Filigree request of a reading at present: SSI_BITS + 1 falling edges, each followed by half a
period low (DESIGN CHOICE, log 49); start bit 0, CMD from its bit 0, stop bit 1. Both lines idle high (R146, R147). -/
def State.serialLevel (s : State) (n : Fin 64) : Bool :=
  match (s.fb n).reading with
  | none => true
  | some r =>
    if s.get (FB_CFG.MODE n) = 3 then
      let p := s.ssiPeriod n
      !decide (r.start ≤ s.now ∧ s.now < r.start + (s.get (FB_SER.SSI_BITS n) + 1) * p ∧ (s.now - r.start) % p < p / 2)
    else
      let i := (s.now - r.start) / s.filBit n
      if s.now < r.start ∨ 9 ≤ i then true else if i = 0 then false else r.cmd.testBit (i - 1)

/-- The level of FBO, none while it is high-impedance (R146, R147, R158, R159). -/
def State.fbo (s : State) (n : Fin 64) : Option Bool :=
  let u := s.fb n
  let sel := s.get (FB_CFG.FBO_SEL n)
  if !s.is (FB_CTRL.OUT_EN n) || !s.is PIN_REL.FBO then none
  else if s.serial n then (if s.is (FB_CTRL.EN n) then some (s.serialLevel n) else none)
  else if sel = 4 then some (u.pulses.any (fun (q : Time × Time) => decide (q.1 ≤ s.now ∧ s.now < q.2)))
  else if sel = 0 then none
  else some (u.lines.getLsbD (sel - 1))

end Sys2Proof.Machine
end

