-- ==== Sys2Proof/Machine/Law.lean ====
section
/-! DEFINITION. The arithmetic of the standard control laws (05 R174 to R195) over exact rationals; what is irrational, and
the rounding into a format, is free (log 19). -/

namespace Sys2Proof.Machine

open Sys2Proof

/-- A Q1.23 word's value. -/
def ofQ (w : Nat) : Rat := (signed 24 w : Int) / 8388608

/-- A Q2.22 word's value. -/
def ofQ22 (w : Nat) : Rat := (signed 24 w : Int) / 4194304

/-- The largest Q1.23 value. -/
def qMax : Rat := 8388607 / 8388608

/-- A limit field by its magnitude (R206). -/
def magQ (w : Nat) : Rat := if signed 24 w = -8388608 then qMax else |ofQ w|

/-- A scaled coefficient: mantissa Q1.23 times 2^e (R206). -/
def ofScaled (w : Word) : Rat := ofQ (getBits w 0 24) * (2 ^ getBits w 24 5 : Nat)

/-- A value limited to a range. -/
def clampRat (lo hi x : Rat) : Rat := if x < lo then lo else if hi < x then hi else x

/-- A value saturated to the range of Q1.23. -/
def satQ (x : Rat) : Rat := clampRat (-1) qMax x

/-- A whole number for a value: itself when it is whole, else one of its two neighbours, as the device rounds (log 19). -/
def roundFree (x : Rat) : Int := if x.den = 1 then x.num else if Config.lawRound x then x.floor + 1 else x.floor

/-- The Q1.23 word of a value: exact where the format holds it, otherwise rounded as the device does (log 19). -/
def toQ (x : Rat) : Nat := unsignedOf 24 (clampInt (-8388608) 8388607 (roundFree (satQ x * 8388608)))

/-- A free deviation kept within a bound. -/
def within (b x : Rat) : Rat := clampRat (-b) b x

/-- A square root: exact where it is rational, else within 2^-24 of the exact one (R174; log 19). -/
def lawRoot (x : Rat) : Rat :=
  if x ≤ 0 then 0
  else
    let n := isqrt x.num.toNat
    let d := isqrt x.den
    if n * n = x.num.toNat ∧ d * d = x.den then (n : Rat) / (d : Rat)
    else ((isqrt (x.num.toNat * x.den * 2 ^ 80) : Nat) : Rat) / ((x.den * 2 ^ 40 : Nat) : Rat) + within (1 / 2 ^ 25) (Config.lawSqrt x)

/-- 2 pi and the square root of 3, each within 2^-40 of the exact number (R174, R194; log 19). -/
def twoPi : Rat := 6283185307179586476925286766559 / 1000000000000000000000000000000 + within (1 / 2 ^ 41) Config.twoPi
/-- See `twoPi`. -/
def root3 : Rat := 1732050807568877293527446341506 / 1000000000000000000000000000000 + within (1 / 2 ^ 41) Config.sqrt3

/-- Entry i of the sine table: the sine of i / 4,096 turn, as the sum of its series to an error below 2^-64. -/
def sinEntry (i : Nat) : Rat :=
  let x : Rat := (6283185307179586476925286766559 / 1000000000000000000000000000000) * (i : Rat) / 4096
  ((List.range 12).foldl (fun (q : Rat × Rat) k => (q.1 + q.2, -q.2 * x * x / (((2 * k + 2) * (2 * k + 3) : Nat) : Rat))) (0, x)).1

/-- Sine of an angle in 2^-32 turn: linear interpolation in a table of 1,024 entries over a quarter turn, which gives an error below
2^-20 (R174). The entries' own rounding is free within what that bound leaves (log 19). -/
def sinT (a : Rat) : Rat :=
  let r := a - ((a / 4294967296).floor : Rat) * 4294967296
  let q := (r / 1073741824).floor
  let f := r - (q : Rat) * 1073741824
  let u := (if q % 2 = 0 then f else 1073741824 - f) / 1048576
  let i := u.floor.toNat
  let v := sinEntry i + (u - (i : Rat)) * (sinEntry (i + 1) - sinEntry i) + within (1 / 2 ^ 21) (Config.lawSin r)
  if q < 2 then v else -v
/-- Cosine of an angle in 2^-32 turn. -/
def cosT (a : Rat) : Rat := sinT (a + 1073741824)

/-- The sign of a value. -/
def sgnRat (x : Rat) : Int := if 0 < x then 1 else if x < 0 then -1 else 0

/-- One PI of R183: the output and the integrator, from the sign of the limiting in the previous run; a frozen integrator
keeps its value. -/
def piStep (frozen : Bool) (i : Rat) (sat : Int) (kp ki lim e : Rat) : Rat × Rat :=
  let i' := if !frozen && !(sat ≠ 0 && sgnRat e == sat) then clampRat (-lim) lim (i + ki * e) else i
  (kp * e + i', i')

/-- A biquad state: 48 bits, of which 45 lie behind the point as a product of Q2.22 and Q1.23 has them; a sum outside them leaves free
bits (R184; log 19). -/
def to48 (x : Rat) : Rat :=
  let n := roundFree (x * 2 ^ 45)
  let m := if -(2 ^ 47) ≤ n ∧ n < 2 ^ 47 then n else signed 48 (Config.lawOver n)
  (m : Rat) / 2 ^ 45

/-- One biquad section of R184 with coefficients B0, B1, B2, A1, A2: output and states; all five zero bypass it. -/
def biquad (frozen : Bool) (c : List Rat) (s : Rat × Rat) (x : Rat) : Rat × (Rat × Rat) :=
  match c with
  | [b0, b1, b2, a1, a2] =>
    if c.all (· == 0) then (x, s)
    else
      let y := ofQ (toQ (b0 * x + s.1))
      (y, if frozen then s else (to48 (b1 * x - a1 * y + s.2), to48 (b2 * x - a2 * y)))
  | _ => (x, s)

/-- The two notch sections in series. -/
def notches (frozen : Bool) (c1 c2 : List Rat) (l : LawState) (x : Rat) : Rat × LawState :=
  let (y1, s1) := biquad frozen c1 l.n1 x
  let (y2, s2) := biquad frozen c2 l.n2 y1
  (y2, { l with n1 := s1, n2 := s2 })

/-- The blend of R189 in run k of a ramp of N runs. -/
def soft (s e : Rat) (k n : Nat) : Rat := if k < n then s + e * ((n - k : Nat) : Rat) / (n : Rat) else s
/-- See `soft`. -/
def softFf (s : Rat) (k n : Nat) : Rat := if k < n then s * (k : Rat) / (n : Rat) else s

/-- The compares of a duty (R175). DESIGN CHOICE (log 61): with a reserved RISE code the FALL word is written as 0; R175 names no word for it, and the
port does not read it. -/
def dutyWords (len : Nat) (d : Rat) : Nat × Nat :=
  if d ≤ 0 then (0xFFFFFE, 0)
  else if qMax ≤ d then (0xFFFFFF, 0)
  else
    let r := (((len : Rat) * (1 - d) / 2 + 1 / 2).floor).toNat
    (r, len - r)

/-- The words of the three legs for a voltage vector at an output angle, with the DC-link voltage (R174). -/
def duties (len : Nat) (vd vq thOut vdc : Rat) : List (Nat × Nat) :=
  let al := vd * cosT thOut - vq * sinT thOut
  let be := vd * sinT thOut + vq * cosT thOut
  let va := al
  let vb := (-al + root3 * be) / 2
  let vc := (-al - root3 * be) / 2
  let off := -(max va (max vb vc) + min va (min vb vc)) / 2
  [va, vb, vc].map (fun v => dutyWords len (1 / 2 + (v + off) / vdc))

/-- The float words of three legs (R176), with FALL as in `dutyWords`. -/
def floatWords : List (Nat × Nat) := [(0xFFFFFD, 0), (0xFFFFFD, 0), (0xFFFFFD, 0)]

/-- The sign of a limiting: + at the upper bound, - at the lower (R183). -/
def limSign (raw lim : Rat) : Int := if lim < raw then 1 else if raw < lim then -1 else 0

/-- A law's state cleared (R190): integrators, biquads and observer. The bookkeeping of what the frames carry stays. -/
def LawState.cleared (l : LawState) : LawState := { post := l.post, app := l.app, pos := l.pos, vd := l.vd, vq := l.vq, res := l.res }

/-- A law's state after a run whose fault reacts: what was posted is float, or a zero reference, in place of the law's own output (R195,
R196). -/
def LawState.floated (l : LawState) : LawState :=
  { l with post := (0, 0, true), hist := match l.hist with | _ :: t => 0 :: t | [] => [] }

/-- The vectors that governed the window just ended, and the state moved on by one frame (R194): the frame that began in the
previous period carries the previous post when APPLIED, else it repeats. -/
def LawState.applied (l : LawState) (app : Bool) (f : Rat) : (Rat × Rat × Bool) × LawState :=
  let a := if app then l.post else l.app
  (((1 - f) * a.1 + f * l.app.1, (1 - f) * a.2.1 + f * l.app.2.1, a.2.2 || l.app.2.2), { l with app := a })

/-- What one run of a standard law gives: the law's state, the loop state in which it acted and the one that follows, the
edge words or the reference posted, the verdicts on the sample (invalid; whether it counts towards BAD_LIM, as in a run of RAMP, RUN or
HOLD that does not fall to WAIT; clipped; feedback fault), the residual when the run
is compared, and the measured, output and integrator values shown. -/
structure LawRun where
  law : LawState
  next : Nat
  words : List (Nat × Nat) := []
  ref : Rat × Rat := (0, 0)
  invalid : Bool := false
  judged : Bool := false
  clip : Bool := false
  fbFault : Bool := false
  residual : Option Rat := none
  shown : List Rat := []

/-- The coefficients of a bank as words. -/
abbrev Bank := Nat → Word

/-- The coefficients of a notch section that starts at a bank word. -/
def notchCo (b : Bank) (k : Nat) : List Rat := [0, 1, 2, 3, 4].map (fun i => ofQ22 (getBits (b (k + i)) 0 24))

/-- A Q1.23 coefficient's raw bits. -/
def rawQ (b : Bank) (k : Nat) : Nat := getBits (b k) 0 24

/-- The state in which a run acts and whether a law starts a ramp with it (R190): from WAIT once the conditions hold, to WAIT
when they fail, HOLD on an invalid sample and back. Codes as LD_STAT.STATE. -/
def actState (st : Nat) (toWait ready invalid : Bool) (rampN : Nat) (wasRamp : Bool) : Nat :=
  if st = 1 then (if ready && !toWait then (if rampN = 0 then 3 else 2) else 1)
  else if st = 2 ∨ st = 3 ∨ st = 4 then
    if toWait then 1 else if invalid then 4 else if st = 4 then (if wasRamp then 2 else 3) else st
  else st

/-- The inputs of one run of a standard law: the 16 words of its sample block, its bank, its loop state, and what its
descriptor fixes. -/
structure LawIn where
  blk : List Word
  bank : Bank
  st : Nat
  final : Bool
  rampN : Nat
  len : Nat
  eang : Nat := 0
  eofs : Nat := 0
  din : Int := 0
  dout : Nat := 0
  rel : Nat := 16
  velocity : Bool := false
  kPrime : Nat := 1
  partner : Nat := 0

/-- A word of the sample block. -/
def LawIn.w (i : LawIn) (k : Nat) : Word := i.blk.getD k 0

/-- The position of the block, or under STALE the previous position plus speed x period (R193). -/
def LawIn.pos (i : LawIn) (l : LawState) : Rat :=
  let p : Rat := (pair48 (i.w 4) (i.w 5) : Int)
  let spd : Rat := (pair48 (i.w 6) (i.w 7) : Int)
  match (i.w 8).getLsbD 5, l.pos with
  | true, some q => q + spd / 256 * (i.len : Rat) / 256000000000
  | _, _ => p

/-- The speed of the block in 2^-8 counts/s. -/
def LawIn.spd (i : LawIn) : Int := pair48 (i.w 6) (i.w 7)

/-- The standard current law (R170 to R176, R183, R184, R189, R190, R193 to R195). -/
def currentLaw (i : LawIn) (l0 : LawState) : LawRun :=
  let b := i.bank
  let ia := ofQ (getBits (i.w 1) 0 24)
  let ib := ofQ (getBits (i.w 2) 0 24)
  let vdc := ofQ (getBits (i.w 3) 0 24)
  let off := fun (w : Word) => w.getLsbD 25 || w.getLsbD 26
  let w8 := i.w 8
  let badI := off (i.w 1) || off (i.w 2)
  let badV := off (i.w 3) || decide (vdc ≤ 0) || decide (vdc < ofQ (rawQ b 11))
  let invalid := badI || badV || w8.getLsbD 5
  let toWait := !w8.getLsbD 4 || getBits (i.w 0) 20 2 != 2
  let ready := !badI && !badV && !w8.getLsbD 5 && !w8.getLsbD 6
  let active := i.st == 2 || i.st == 3 || i.st == 4
  let act := if i.final then 0 else actState i.st toWait ready invalid i.rampN l0.wasRamp
  let pos := i.pos l0
  let spd : Rat := (i.spd : Int)
  let eang : Rat := (i.eang : Int)
  let th0 := pos * eang + (i.eofs : Rat)
  let th := th0 - ((th0 / 4294967296).floor : Rat) * 4294967296
  let we := spd / 256 * eang
  let thIn := th - we * (i.din : Rat) / 256000000000
  let thOut := th + we * (i.dout : Rat) / 256000000000
  let wl := twoPi * we / 4294967296
  let ibe := (ia + 2 * ib) / root3
  let id_ := ia * cosT thIn + ibe * sinT thIn
  let iq := -ia * sinT thIn + ibe * cosT thIn
  let (va, l) := l0.applied ((i.w 0).getLsbD 16) ((i.rel : Rat) / 64)
  let l := { l with pos := some pos }
  let l := if act = 1 then (if active then { l.cleared with pos := some pos } else l) else if i.st = 1 then { l.cleared with pos := some pos } else l
  let shown := fun (m : LawState) => [id_, iq, m.vd, m.vq, m.i0, m.i1, m.res]
  let base : LawRun := { law := l, next := act, words := floatWords, invalid := invalid, judged := active && !toWait
                         clip := active && ((i.w 1).getLsbD 24 || (i.w 2).getLsbD 24), fbFault := active && w8.getLsbD 6 }
  if act = 4 then
    let l := { l with wasRamp := if i.st = 4 then l.wasRamp else i.st == 2 }
    if badV then { base with law := { l with post := (0, 0, true) }, shown := shown l }
    else { base with law := { l with post := (l.vd, l.vq, false) }, words := duties i.len l.vd l.vq thOut vdc, shown := shown l }
  else if act = 2 ∨ act = 3 then
    let refd := ofQ (getBits (i.w 9) 0 24)
    let refq := ofQ (getBits (i.w 10) 0 24)
    let n := if act = 2 then i.rampN else 0
    let (nq, l) := notches false (notchCo b 12) (notchCo b 17) l refq
    let l := if act = 2 ∧ l.k = 0 then { l with e0 := id_ - refd, e1 := iq - refq } else l
    let ed := soft refd l.e0 l.k n - id_
    let eq := soft nq l.e1 l.k n - iq
    let (pd, i0) := piStep false l.i0 l.sat0 (ofScaled (b 0)) (ofScaled (b 1)) (magQ (rawQ b 4)) ed
    let (pq, i1) := piStep false l.i1 l.sat1 (ofScaled (b 2)) (ofScaled (b 3)) (magQ (rawQ b 5)) eq
    let ld := ofScaled (b 7)
    let lq := ofScaled (b 8)
    let ke := ofScaled (b 9)
    let rs := ofScaled (b 10)
    let vd0 := pd - wl * lq * iq
    let vq0 := pq + wl * ld * id_ + ke * (we / 4294967296)
    let vmax := magQ (rawQ b 6) * vdc / root3
    let vd := clampRat (-vmax) vmax vd0
    let qmax := lawRoot (vmax * vmax - vd * vd)
    let vq := clampRat (-qmax) qmax vq0
    let compared := l.idq.isSome && !(act == 2 && decide (l.k < 2)) && !va.2.2
    let res := match l.idq with
      | some (pid, piq) =>
        let idp := pid + ofScaled (b 22) * (va.1 - rs * pid + wl * lq * piq)
        let iqp := piq + ofScaled (b 23) * (va.2.1 - rs * piq - wl * ld * pid - ke * (we / 4294967296))
        max |id_ - idp| |iq - iqp|
      | none => 0
    let k := if act = 2 then l.k + 1 else l.k
    let l := { l with i0 := i0, i1 := i1, sat0 := limSign vd0 vd, sat1 := limSign vq0 vq, vd := vd, vq := vq
                      post := (vd, vq, false), idq := some (id_, iq), k := k, res := if compared then res else l.res }
    { base with law := l, next := if act = 2 ∧ i.rampN ≤ k then 3 else act, words := duties i.len vd vq thOut vdc
                residual := if compared then some res else none, shown := shown l }
  else { base with law := { l with post := (0, 0, true) }, shown := shown l }

/-- The standard motion law (R177, R178, R183, R184, R189, R190, R193 to R195). -/
def motionLaw (i : LawIn) (l0 : LawState) : LawRun :=
  let b := i.bank
  let w8 := i.w 8
  let stale := w8.getLsbD 5
  let toWait := !w8.getLsbD 4 || !(i.partner == 2 || i.partner == 3 || i.partner == 4)
  let ready := !stale && !w8.getLsbD 6 && (i.partner == 2 || i.partner == 3)
  let active := i.st == 2 || i.st == 3 || i.st == 4
  let act := if i.final then 0 else actState i.st toWait ready stale i.rampN l0.wasRamp
  let pos := i.pos l0
  let v0 : Rat := ((clampInt (-8388608) 8388607 (i.spd / (2 ^ getBits (b 9) 0 6 : Nat)) : Int) : Rat) / 8388608
  let l := { l0 with pos := some pos }
  let l := if act = 1 then (if active then { l.cleared with pos := some pos } else l) else if i.st = 1 then { l.cleared with pos := some pos } else l
  let vp := l.v.map (fun v1 => v1 + ofScaled (b 22) * l.hist.getD i.kPrime 0 - l.load)
  let v := if w8.getLsbD 2 then vp.getD v0 else v0
  let base : LawRun := { law := l, next := act, invalid := stale, judged := active && !toWait, fbFault := active && w8.getLsbD 6
                         shown := [0, v, 0, ofQ (rawQ b 7), l.i0, 0, l.res] }
  if act = 2 ∨ act = 3 ∨ act = 4 then
    let hold := decide (act = 4)
    let l := if hold then { l with wasRamp := if i.st = 4 then l.wasRamp else i.st == 2 } else l
    let n := if act = 2 ∨ (hold ∧ l.wasRamp) then i.rampN else 0
    let spPos : Rat := (pair48 (i.w 11) (i.w 12) : Int)
    let spVel := ofQ (getBits (i.w 13) 0 24)
    let tff := ofQ (getBits (i.w 14) 0 24)
    let l := if act = 2 ∧ l.k = 0 then { l with e0 := if i.velocity then v - spVel else pos - spPos } else l
    let d := soft spPos l.e0 l.k n - pos
    let pe : Rat := ((clampInt (-8388608) 8388607 ((d / ((2 ^ getBits (b 8) 0 6 : Nat) : Rat)).floor) : Int) : Rat) / 8388608
    let vr := if i.velocity then soft spVel l.e0 l.k n else ofScaled (b 0) * pe + ofScaled (b 5) * softFf spVel l.k n
    let (u, i0) := piStep hold l.i0 l.sat0 (ofScaled (b 1)) (ofScaled (b 2)) (magQ (rawQ b 3)) (vr - v)
    let (y, l) := notches hold (notchCo b 12) (notchCo b 17) l u
    let raw := y + ofScaled (b 6) * softFf tff l.k n
    let tl := magQ (rawQ b 4)
    let iqr := clampRat (-tl) tl raw
    let compared := !hold && vp.isSome && !(act == 2 && decide (l.k < 2))
    let res := |v - vp.getD v|
    let k := if act = 2 then l.k + 1 else l.k
    let l := if hold then l else
      { l with i0 := i0, v := some v, load := l.load + ofScaled (b 23) * (vp.getD v - v), k := k, res := if compared then res else l.res }
    let l := { l with sat0 := limSign raw iqr, hist := (iqr :: l.hist).take 16 }
    { base with law := l, next := if act = 2 ∧ i.rampN ≤ k then 3 else act, ref := (ofQ (rawQ b 7), iqr)
                residual := if compared then some res else none
                shown := [if i.velocity then 0 else pe, v, iqr, ofQ (rawQ b 7), l.i0, 0, l.res] }
  else { base with law := { l with hist := (0 :: l.hist).take 16 } }

end Sys2Proof.Machine
end

