-- ==== Sys2Proof/Machine/Flags.lean ====
section
/-! DEFINITION. Results and flags of the Ember tile's arithmetic (08 R287, R288; 09 R312, R322 to R327), over any width: 24-bit
data and 56-bit accumulators natively, 16 and 40 bits in MX mode (08 R304). -/

namespace Sys2Proof.Machine

open Sys2Proof

/-- An exact result in a destination of w bits: wrapped or clamped, and whether it exceeded the format (R288). -/
def narrow (w : Nat) (sat : Bool) (x : Int) : BitVec w × Bool :=
  if (BitVec.ofInt w x).toInt = x then (BitVec.ofInt w x, false)
  else (if sat then (if x < 0 then BitVec.intMin w else BitVec.intMax w) else BitVec.ofInt w x, true)

/-- The outcome of an operation: the value to write (none for a comparison), and the flags it gives; an absent flag keeps its
value (R312). -/
structure Res (w : Nat) where
  val : Option (BitVec w)
  zn : Option (Bool × Bool) := none
  c : Option Bool := none
  ovf : Bool := false
  deriving DecidableEq, Repr

/-- Z and N of a value (R312). -/
def znOf {w : Nat} (x : BitVec w) : Bool × Bool := (decide (x = 0), x.msb)

/-- A value with Z and N, and the carry when there is one. -/
def resOf {w : Nat} (r : BitVec w × Bool) (c : Option Bool) : Res w := { val := some r.1, zn := some (znOf r.1), c := c, ovf := r.2 }

/-- Addition with a carry in; C is the carry out of the unsigned sum (R312). -/
def addRes (w : Nat) (sat : Bool) (x y : BitVec w) (cin : Bool) : Res w :=
  resOf (narrow w sat (x.toInt + y.toInt + cin.toInt)) (some (decide (2 ^ w ≤ x.toNat + y.toNat + cin.toNat)))

/-- Subtraction with a borrow in; C is 1 when no borrow occurs (R312). -/
def subRes (w : Nat) (sat : Bool) (x y : BitVec w) (bin : Bool) : Res w :=
  resOf (narrow w sat (x.toInt - y.toInt - bin.toInt)) (some (decide (y.toNat + bin.toNat ≤ x.toNat)))

/-- Comparison: Z and N of the difference, never V or S (R324). -/
def cmpRes (w : Nat) (sat : Bool) (x y : BitVec w) : Res w :=
  { val := none, zn := some (znOf (narrow w sat (x.toInt - y.toInt)).1), c := some (decide (y.toNat ≤ x.toNat)) }

/-- Negation. -/
def negRes (w : Nat) (sat : Bool) (x : BitVec w) : Res w := resOf (narrow w sat (-x.toInt)) none

/-- Absolute value. -/
def absRes (w : Nat) (sat : Bool) (x : BitVec w) : Res w := resOf (narrow w sat (if x.toInt < 0 then -x.toInt else x.toInt)) none

/-- Signed minimum. -/
def minRes (w : Nat) (x y : BitVec w) : Res w := resOf (if x.toInt ≤ y.toInt then x else y, false) none

/-- Signed maximum. -/
def maxRes (w : Nat) (x y : BitVec w) : Res w := resOf (if x.toInt ≤ y.toInt then y else x, false) none

/-- A logic operation: C is cleared (R312). -/
def logicRes {w : Nat} (r : BitVec w) : Res w := resOf (r, false) (some false)

/-- Left shift: overflow when a bit shifted out or the sign of the result differs from the sign; C is the last bit shifted out
(R312, R323). -/
def aslRes (w : Nat) (sat : Bool) (x : BitVec w) (k : Nat) : Res w :=
  resOf (narrow w sat (x.toInt * (2 ^ k : Nat))) (if k = 0 then none else some (decide (k ≤ w) && x.getLsbD (w - k)))

/-- Arithmetic right shift; a count of w or more gives copies of the sign (R323). -/
def asrRes (w : Nat) (x : BitVec w) (k : Nat) : Res w :=
  resOf (x.sshiftRight k, false) (if k = 0 then none else some (if k ≤ w then x.getLsbD (k - 1) else x.msb))

/-- Logical right shift (R323). -/
def lsrRes (w : Nat) (x : BitVec w) (k : Nat) : Res w :=
  resOf (x >>> k, false) (if k = 0 then none else some (x.getLsbD (k - 1)))

/-- The operation codes of R322 over a width: x is the first source, y the second; a shift takes its count from bits [4:0] of y. -/
def aluRes (w : Nat) (op : Fin 16) (sat : Bool) (x y : BitVec w) (c : Bool) : Res w :=
  let k := y.toNat % 32
  match op with
  | 0 => addRes w sat x y false
  | 1 => subRes w sat x y false
  | 2 => cmpRes w sat x y
  | 3 => negRes w sat x
  | 4 => absRes w sat x
  | 5 => minRes w x y
  | 6 => maxRes w x y
  | 7 => logicRes (x &&& y)
  | 8 => logicRes (x ||| y)
  | 9 => logicRes (x ^^^ y)
  | 10 => logicRes (~~~x)
  | 11 => aslRes w sat x k
  | 12 => asrRes w x k
  | 13 => lsrRes w x k
  | 14 => addRes w sat x y c
  | _ => subRes w sat x y (!c)

/-- An exact number of half-open units 2^k rounded to a whole number of them as sr.RND selects (R285): truncated, to nearest with
ties away from zero, or to nearest with ties to even; the reserved code 0b11 acts as 0b01. -/
def roundBits (rnd k : Nat) (x : Int) : Int :=
  let u : Int := (2 ^ k : Nat)
  let h : Int := u / 2
  if rnd = 0 then x / u
  else if rnd = 2 then
    let q := x / u
    let r := x % u
    if r < h ∨ (r = h ∧ q % 2 = 0) then q else q + 1
  else if 0 ≤ x then (x + h) / u else -((-x + h) / u)

/-- Whether a condition of R316 holds under a status word; codes 13 to 15 are reserved. -/
def condHolds (sr : Word) (cc : Fin 16) : Bool :=
  let z := sr.getLsbD 0
  let n := sr.getLsbD 1
  let c := sr.getLsbD 2
  let v := sr.getLsbD 4
  let x := sr.getLsbD 5
  match cc with
  | 0 => true
  | 1 => z
  | 2 => !z
  | 3 => n
  | 4 => !n
  | 5 => !n && !z
  | 6 => n || z
  | 7 => c
  | 8 => !c
  | 9 => v
  | 10 => !v
  | 11 => x
  | 12 => !x
  | _ => false

/-- The candidate an add-compare-select keeps, and the decision bit; a tie keeps the first (R330). -/
def acsPick (larger : Bool) (c0 c1 : D24) : D24 × Bool :=
  let s := if larger then decide (c0.toInt < c1.toInt) else decide (c1.toInt < c0.toInt)
  (if s then c1 else c0, s)

end Sys2Proof.Machine
end

