-- ==== Sys2Proof/Machine/Operands.lean ====
section
/-! DEFINITION. A tile's registers and the operand forms of its instructions (08 R278 to R293, R303; 09 R308 to R310, R320, R322). -/

namespace Sys2Proof.Machine

open Sys2Proof

/-- The tile a command names. -/
def State.tile (s : State) (t : Fin 32) : Tile := tget s.tiles t {}

/-- A tile given a new inner state. -/
def State.setTile (s : State) (t : Fin 32) (x : Tile) : State := { s with tiles := tset s.tiles t x }

/-- The plane of a tile, and its number within the plane (08 R286). -/
def planeOf (t : Fin 32) : Fin 2 := fin 2 (t.val / 16)
/-- See `planeOf`. -/
def tileNo (t : Fin 32) : Fin 16 := fin 16 t.val
/-- Tile t of a plane. -/
def tileOf (pl : Fin 2) (t : Fin 16) : Fin 32 := fin 32 (pl.val * 16 + t.val)

/-- Registers of a tile as an instruction reads them. -/
def Tile.rd (x : Tile) (n : Fin 16) : D24 := tget x.d n 0
/-- See `Tile.rd`. -/
def Tile.ra (x : Tile) (n : Fin 4) : A56 := tget x.a n 0
/-- See `Tile.rd`. -/
def Tile.rp (x : Tile) (n : Fin 8) : A40 := tget x.p n 0
/-- See `Tile.rd`. -/
def Tile.rb (x : Tile) (n : Fin 8) : A40 := tget x.b n 0
/-- See `Tile.rd`. -/
def Tile.rl (x : Tile) (n : Fin 8) : BitVec 18 := tget x.l n 0
/-- See `Tile.rd`. -/
def Tile.rm (x : Tile) (n : Fin 8) : D24 := tget x.m n 0

/-- Whether the tile is in MX mode (R285). -/
def Tile.mxMode (x : Tile) : Bool := x.sr.getLsbD 7
/-- The carry flag. -/
def Tile.carry (x : Tile) : Bool := x.sr.getLsbD 2
/-- Whether MX-16 results clamp (R304). -/
def Tile.clamps (x : Tile) : Bool := x.sr.getLsbD 10
/-- The rounding that sr.RND selects. -/
def Tile.rnd (x : Tile) : Nat := getBits x.sr 8 2

/-- The control register numbers an instruction may read (R284): 10 to 15 are reserved. -/
def Tile.rctl (x : Tile) (t : Fin 32) (n : Fin 16) : Word :=
  match n with
  | 0 => x.sr
  | 1 => x.tr
  | 2 => x.lr
  | 3 => x.ipc
  | 4 => x.isr
  | 5 => x.isrc
  | 6 => x.ivec
  | 7 => x.tcyc
  | 8 => BitVec.ofNat 32 t.val
  | 9 => x.mxio
  | _ => 0

/-- The one circular correction of R293. -/
def circ (p : Int) (b : A40) (l : BitVec 18) : A40 :=
  if l = 0 then BitVec.ofInt 40 p
  else if (b.toNat + l.toNat : Int) ≤ p then BitVec.ofInt 40 (p - l.toNat)
  else if p < b.toNat then BitVec.ofInt 40 (p + l.toNat)
  else BitVec.ofInt 40 p

/-- The step of R293. -/
def Tile.stepP (x : Tile) (n : Fin 8) (d : Int) : A40 := circ ((x.rp n).toNat + d) (x.rb n) (x.rl n)

/-- The byte offset of a descriptor (R308). -/
def offBytes : EOff → Int
  | .imm5 v => 4 * v.toInt
  | .ext v => v.toInt

/-- The bytes of the instruction that carries an offset: 8 with an extension word. -/
def offSize : EOff → Nat
  | .imm5 _ => 4
  | .ext _ => 8

/-- An address a memory operand uses, whether the words of a wider access are taken round the buffer (R310), the address register and its
update (R293), and its byte offset, whose alignment is judged too (R308). -/
structure Addr where
  at_ : A40
  wraps : Bool
  p : Fin 8
  upd : Option A40 := none
  off : Int := 0
  deriving DecidableEq, Repr

/-- A memory operand's address and update. -/
def Tile.eaddr (x : Tile) : EMem → Addr
  | .plain p => { at_ := x.rp p, wraps := true, p := p }
  | .offset p o => { at_ := BitVec.ofInt 40 ((x.rp p).toNat + (offBytes o)), wraps := false, p := p, off := offBytes o }
  | .postImm p o => { at_ := x.rp p, wraps := true, p := p, upd := some (x.stepP p (offBytes o)), off := offBytes o }
  | .postMod p => { at_ := x.rp p, wraps := true, p := p, upd := some (x.stepP p (x.rm p).toInt) }

/-- The bytes of an instruction with a memory operand. -/
def memSize : EMem → Nat
  | .plain _ => 4
  | .offset _ o => offSize o
  | .postImm _ o => offSize o
  | .postMod _ => 4

/-- A short descriptor's address and update, through p0 to p3 for the X operand and p4 to p7 for the Y operand (R309). -/
def Tile.saddr (x : Tile) (y : Bool) : EShort → Addr :=
  let reg := fun (p : Fin 4) => fin 8 (p.val + if y then 4 else 0)
  fun m => match m with
  | .plain p => { at_ := x.rp (reg p), wraps := true, p := reg p }
  | .offset p o => { at_ := BitVec.ofInt 40 ((x.rp (reg p)).toNat + 4 * o.toInt), wraps := false, p := reg p }
  | .postImm p o => { at_ := x.rp (reg p), wraps := true, p := reg p, upd := some (x.stepP (reg p) (4 * o.toInt)) }
  | .postMod p => { at_ := x.rp (reg p), wraps := true, p := reg p, upd := some (x.stepP (reg p) (x.rm (reg p)).toInt) }

/-- An MX-16 indirect operand's address and update; offsets and steps count words of 4 bytes (R303, R332). -/
def Tile.xaddr (x : Tile) (m : MxMem) : Addr :=
  let reg := fun (p : Fin 4) => fin 8 p.val
  match m with
  | .plain p => { at_ := x.rp (reg p), wraps := true, p := reg p }
  | .offset p o => { at_ := BitVec.ofInt 40 ((x.rp (reg p)).toNat + 4 * o.toInt), wraps := false, p := reg p }
  | .postImm p o => { at_ := x.rp (reg p), wraps := true, p := reg p, upd := some (x.stepP (reg p) (4 * o.toInt)) }
  | .postMod p => { at_ := x.rp (reg p), wraps := true, p := reg p, upd := some (x.stepP (reg p) (x.rm (reg p)).toInt) }

/-- The operand of an MX-16 multiply from memory (R332). -/
def Tile.maddr (x : Tile) (p : Fin 8) (st : MxStep) : Addr :=
  { at_ := x.rp p, wraps := true, p := p
    upd := match st with
      | .none => Option.none
      | .up => some (x.stepP p 4)
      | .down => some (x.stepP p (-4))
      | .byM => some (x.stepP p (x.rm p).toInt) }

/-- The writes an operand makes to its address register, with their latency (R290). -/
def Addr.writes (a : Addr) : List (Nat × EWrite) :=
  match a.upd with
  | none => []
  | some v => [(1, .p a.p v)]

/-- The addresses of the n words of an operand: of a double or a quad each that reaches b + l is reduced by l, once (R310). -/
def Tile.wordAddrs (x : Tile) (a : Addr) (n : Nat) : List Nat :=
  (List.range n).map (fun i =>
    let q := a.at_.toNat + 4 * i
    let lim := (x.rb a.p).toNat + (x.rl a.p).toNat
    if 1 < n ∧ a.wraps ∧ x.rl a.p ≠ 0 ∧ lim ≤ q then q - (x.rl a.p).toNat else q)

/-- Whether an address above the tile view is unmapped for a tile: the other plane's halves of pool and DRAM (R18). -/
def otherHalf (q : Nat) : Bool := decide ((0x11000000 ≤ q ∧ q < 0x12000000) ∨ (0x8200000000 ≤ q ∧ q < 0x8400000000))

/-- The fault of an access to n words (R278, R281, R299), judged on every word of it: 3 alignment, 4 protection, 5 an uncorrectable error,
for a read. An access above the tile view is one fabric access of consecutive words. -/
def Tile.accessFault (x : Tile) (a : Addr) (n : Nat) (read : Bool) : Option Nat :=
  let q := a.at_.toNat
  if q % 4 ≠ 0 ∨ a.off % 4 ≠ 0 then some 3
  else if 0x10000000 ≤ q then (if (List.range n).any (fun i => otherHalf (q + 4 * i)) then some 4 else none)
  else if (x.wordAddrs a n).any (fun q => decide (0x40000 ≤ q)) then some 4
  else if read ∧ (x.wordAddrs a n).any (fun q => decide (q ∈ x.bad)) then some 5
  else none

/-- Where the memory of a tile lies in the model's memory: above every fabric address (R278). -/
def tileBase (t : Fin 32) : Nat := 2 ^ 40 + t.val * 2 ^ 19

/-- A word of a tile's data memory. -/
def State.tword (s : State) (t : Fin 32) (a : Nat) : Word := s.mword (tileBase t + a)

/-- The operand read: its words, or the outside access it makes. -/
def State.opnd (s : State) (t : Fin 32) (a : Addr) (n : Nat) : Opnd :=
  if 0x10000000 ≤ a.at_.toNat then .outside a.at_.toNat n
  else .words (((s.tile t).wordAddrs a n).map (s.tword t))

/-- A second source of 24 bits (R322). -/
def immVal : EImm → D24
  | .short v => v.signExtend 24
  | .long v => v

/-- The bytes of the instruction that carries an immediate. -/
def immSize : EImm → Nat
  | .short _ => 4
  | .long _ => 8

/-- A data register as it is stored: 24 bits sign-extended (R279). -/
def wordOfD (v : D24) : Word := v.signExtend 32
/-- The data register a stored word holds. -/
def dOfWord (w : Word) : D24 := w.setWidth 24
/-- An accumulator as a double (R279). -/
def wordsOfA (v : A56) : List Word := [v.setWidth 32, (v.extractLsb' 32 24).signExtend 32]
/-- An address register as a double (R279). -/
def wordsOfP (v : A40) : List Word := [v.setWidth 32, (v.extractLsb' 32 8).setWidth 32]
/-- The 64 bits of two words, the lower first. -/
def dbl (ws : List Word) : BitVec 64 := (ws.getD 1 0) ++ (ws.getD 0 0)
/-- A length: bits [1:0] are forced to 0 (R283, R318). -/
def lenOf (v : BitVec 18) : BitVec 18 := v &&& 0x3FFFC

/-- Q1.15 data register r of MX mode (R303). -/
def Tile.rx (x : Tile) (r : Fin 8) : BitVec 16 := (x.rd (fin 16 r.val)).extractLsb' 8 16
/-- The write of a Q1.15 data register: bits [7:0] are 0. -/
def wrx (r : Fin 8) (v : BitVec 16) : EWrite := .d (fin 16 r.val) (v ++ (0 : BitVec 8))
/-- The 40-bit view of an MX-16 accumulator (R303). -/
def Tile.rax (x : Tile) (n : Fin 2) : A40 := (x.ra (fin 4 n.val)).extractLsb' 16 40
/-- The write of a 40-bit view: bits [15:0] are 0. -/
def wrax (n : Fin 2) (v : A40) : EWrite := .a (fin 4 n.val) (v ++ (0 : BitVec 16))

/-- What a memory access writes with its words, each write with its latency (R290; R326 to R329; in MX mode R304). -/
def MemAct.writes (x : Tile) (lat1 : Nat) (xs ys : List Word) : MemAct → List (Nat × EWrite)
  | .load (.d n) => [(2, .d n (dOfWord (xs.getD 0 0)))]
  | .load (.a n) => [(2, .a n ((dbl xs).setWidth 56))]
  | .load (.q g) => (List.range 4).map (fun i => (2, .d (fin 16 (4 * g.val + i)) (dOfWord (xs.getD i 0))))
  | .load (.p n) => [(3, .p n ((dbl xs).setWidth 40))]
  | .load (.b n) => [(3, .b n ((dbl xs).setWidth 40))]
  | .load (.l n) => [(3, .l n (lenOf ((xs.getD 0 0).setWidth 18)))]
  | .load (.m n) => [(3, .m n (dOfWord (xs.getD 0 0)))]
  | .load (.mx r) => [(lat1, wrx r ((xs.getD 0 0).extractLsb' 8 16))]
  | .load2 k => [(2, .d (fin 16 (2 * k.val)) (dOfWord (xs.getD 0 0))), (2, .d (fin 16 (2 * k.val + 1)) (dOfWord (ys.getD 0 0)))]
  | .mul op sat lanes => lanes.map (fun (q : Fin 4 × Nat × Bool) =>
      let p := (dOfWord (xs.getD q.2.1 0)).toInt * (dOfWord (ys.getD 0 0)).toInt
      let p := if q.2.2 then -p else p
      match op with
      | .mpy => (3, .a q.1 (BitVec.ofInt 56 p))
      | .mac => (3, .acc q.1 p sat)
      | .msu => (3, .acc q.1 (-p) sat))
  | .mxMul op ac =>
      let p := ((xs.getD 0 0).extractLsb' 8 16).toInt * ((ys.getD 0 0).extractLsb' 8 16).toInt
      let v := (x.rax ac).toInt
      let r := match op with
        | .mpy => (BitVec.ofInt 40 p, false)
        | .mac => narrow 40 x.clamps (v + p)
        | .msu => narrow 40 x.clamps (v - p)
      [(lat1, wrax ac r.1)] ++ (if r.2 then [(lat1, if x.clamps then .s else .v)] else [])

/-- The writes an arithmetic result makes: its value, the flags it gives, and V or S when it exceeded the format (R288, R312). -/
def Res.writes {w : Nat} (r : Res w) (sat : Bool) (lat : Nat) (f : BitVec w → EWrite) : List (Nat × EWrite) :=
  (match r.val with | some v => [(lat, f v)] | none => [])
  ++ (match r.zn with | some (z, n) => [(lat, .z z), (lat, .n n)] | none => [])
  ++ (match r.c with | some c => [(lat, .c c)] | none => [])
  ++ (if r.ovf then [(lat, if sat then .s else .v)] else [])

end Sys2Proof.Machine
end

