-- ==== Sys2Proof/Machine/StepBase.lean ====
section
/-! DEFINITION. The step generator from the start of an interval to rest, and what halts a step axis from outside (06 R230 to R237):
the trips and the safe outputs use the latter. -/

namespace Sys2Proof.Machine

open Sys2Proof

/-- The state of a step axis. -/
def State.axis (s : State) (i : Fin 16) : StepAxis := tget s.axes i {}

/-- A step axis given a state. -/
def State.setAxis (s : State) (i : Fin 16) (a : StepAxis) : State := { s with axes := tset s.axes i a }

/-- The joint port of the joint an axis is assigned to (R250). -/
def State.axisJoint (s : State) (i : Fin 16) : Fin 64 := portOf (fin 8 (s.get (STP_CFG.ARM i))) (fin 8 (s.get (STP_CFG.JOINT i)))

/-- The joint port an axis drives, when STP_CFG.OUT selects a port (R250). -/
def State.axisPort (s : State) (i : Fin 16) : Option (Fin 64) :=
  if (s.get (STP_CFG.OUT i)).testBit 1 then some (fin 64 (s.get (STP_CFG.PORT i))) else none

/-- An axis at rest at instant t with nothing in execution; the queue stays, and so does a running direction setup time, which the next
start still waits for (R234). -/
def StepAxis.atRest (a : StepAxis) (t : Time) : StepAxis :=
  { a with phase := .rest, v2 := 0, cur := none, pass := 0, repl := none, due := none, turn := none, stopping := false, group := none, still := t, run := false }

namespace Stp

/-- A quotient: exact where it is whole, else one of its two neighbours (log 21). -/
def quot (n d : Nat) : Nat := if n % d = 0 then n / d else n / d + (if Config.roundDiv n d then 1 else 0)

/-- An instant in 2^-32 port cycles. -/
def fine (t : Time) : Nat := t * 4194304

/-- The first port edge at or after an instant in 2^-32 port cycles (R231). -/
def edgeOf (x : Nat) : Time := (x + 4294967295) / 4294967296 * portUnits

/-- The position of an axis (R230). -/
def pos (s : State) (i : Fin 16) : Int := s.rd48 (STP_POS_LO i) (STP_POS_HI i)

/-- Twice the acceleration of one axis, in 2^-16 steps/s^2 and per step in 2^-16 steps^2/s^2. -/
def accOf (s : State) (i : Fin 16) : Nat := 131072 * (s.rd (STP_ACC i)).toNat

/-- Twice the acceleration in force: of a group's master the smallest of A x L_m / L over the members (R236). -/
def acc (s : State) (i : Fin 16) : Nat :=
  match (s.axis i).group with
  | none => accOf s i
  | some _ =>
    (finList 16).foldl (fun m j =>
      match (s.axis j).group with
      | some h => if h.master = i then min m (quot (accOf s j * h.lm) h.li) else m
      | none => m) (accOf s i)

/-- The interval between two steps, in 2^-32 port cycles, from the speeds squared at its ends (R231): 2 / (sqrt + sqrt), exact where it is
whole, else one of its two neighbours (log 21); never shorter than 25 port cycles or twice PW; none where both speeds are 0. The roots are
taken to 2^-64, which leaves the lower neighbour certain to one unit. -/
def interval (s : State) (i : Fin 16) (v2 v2n : Nat) : Option Nat :=
  if v2 = 0 ∧ v2n = 0 then none
  else
    let a := isqrt v2
    let b := isqrt v2n
    let n := 549755813888000000000
    let x := if a * a = v2 ∧ b * b = v2n ∧ n % (a + b) = 0 then n / (a + b)
      else n * 2 ^ 64 / (isqrt (v2 * 2 ^ 128) + isqrt (v2n * 2 ^ 128) + 2) + (if Config.stepInterval v2 v2n then 1 else 0)
    some (max x (max 25 (2 * s.get (STP_TIMING.PW i)) * 4294967296))

/-- STP_SPD for a speed squared: 2^-8 steps/s, negative in reverse (R249). -/
def speedWord (v2 : Nat) (rev : Bool) : Word :=
  let v := isqrt v2
  let x : Int := (if v * v = v2 then v else v + (if Config.stepSpeed v2 then 1 else 0) : Nat)
  wordOf (if rev then -x else x)

/-- Whether two moves, from p to q and from q to r, run in the same direction. -/
def sameWay (p q r : Int) : Bool := (decide (p < q) && decide (q < r)) || (decide (q < p) && decide (r < q))

/-- The pass speeds squared of a chain of moves that starts at p, computed backwards with the acceleration given (R235). -/
def withVe (a2 : Nat) (p : Int) : List StepMove → List StepMove
  | [] => []
  | m :: rest =>
    let r := withVe a2 m.target rest
    { m with ve := match r with
        | [] => 0
        | n :: _ =>
          if n.blend && sameWay p m.target n.target && !n.grp then
            min (m.v * m.v) (min (n.v * n.v) (n.ve + a2 * (n.target - m.target).natAbs))
          else 0 } :: r

/-- The pass speed squared with which a move that is taken at p ends: the one computed when the last move was pushed, 0 where the
successor no longer continues in the same direction (R235). -/
def veFrom (m : StepMove) (p : Int) (q : List StepMove) : Nat :=
  match q with
  | [] => 0
  | n :: _ => if sameWay p m.target n.target then m.ve else 0

/-- What an axis shows of its queue, target and move. -/
def shown (s : State) (i : Fin 16) : State :=
  let a := s.axis i
  let s := s.wr (STP_QDEPTH i) (BitVec.ofNat 32 (a.queue.length + (if a.repl.isSome then 1 else 0)))
  let s := s.putB (STP_STAT.DIR i) a.dir
  match a.cur with
  | some m => (s.wr48 (STP_TGT_LO i) (STP_TGT_HI i) m.target).put (STP_STAT.MOVE_ID i) m.id
  | none => s

/-- An axis starts from rest at an instant in 2^-32 port cycles: its first interval (R231). -/
def begin_ (s : State) (i : Fin 16) (t : Nat) : State :=
  let a := s.axis i
  match a.cur with
  | none => s
  | some m =>
    let v := match a.group with | some g => g.v | none => m.v
    let a2 := acc s i
    let v2n := min a2 (v * v)
    shown ((s.setAxis i { a with phase := if v2n = v * v then .cruise else .accel, v2 := v2n, acc := a2, turn := none, dsetup := none
                                 due := (interval s i 0 v2n).map (t + ·) }).put (STP_STAT.STATE i) 1) i

/-- The direction a start from rest needs: a change of DIR once the last pulse has ended, with DSETUP after it, or none; a setup time that
runs already is waited for (R234). -/
def orient (s : State) (i : Fin 16) (t : Nat) : State :=
  let a := s.axis i
  match a.cur with
  | none => s
  | some m =>
    let rev := decide (m.target < pos s i)
    if rev = a.dir then (if a.dsetup.isSome then shown s i else begin_ s i t)
    else if a.pulse.isSome then shown s i
    else
      let d := s.now + s.get (STP_TIMING.DSETUP i) * portUnits
      shown (s.setAxis i { a with dir := rev, dsetup := some d }) i

/-- The end of a move (R230). -/
def finish (s : State) (i : Fin 16) (m : StepMove) : State := s.wr (STP_DONE_ID i) (BitVec.ofNat 32 m.id)

/-- The overshoot, flag and record of a stop-and-reverse whose target took effect at p0 (R234). -/
def reversal (s : State) (i : Fin 16) (p0 : Int) : State :=
  let ovs := clampInt (-2147483648) 2147483647 (pos s i - p0)
  ((s.wr (STP_OVS i) (wordOf ovs)).flag (STP_STAT.REVERSED i)).post 0x0133 0 (s.jointAddr (s.axisJoint i))
    ([BitVec.ofNat 8 i.val, 0] ++ leBytes 4 (wordOf ovs).toNat)

/-- The next move of an axis at rest taken from its queue; moves to where it stands end at once; a group move waits for its
group (R230, R236). -/
def startNext (i : Fin 16) (t : Nat) : List StepMove → State → State
  | [], s => shown (((s.setAxis i { s.axis i with queue := [] }).put (STP_STAT.STATE i) 0).put (STP_STAT.GRP_WAIT i) 0) i
  | m :: rest, s =>
    if m.grp ∧ s.is (STP_CFG.GRP_EN i) then shown ((s.setAxis i { s.axis i with queue := m :: rest }).put (STP_STAT.STATE i) 0 |>.put (STP_STAT.GRP_WAIT i) 1) i
    else if m.target = pos s i then startNext i t rest (finish s i m)
    else
      let a := s.axis i
      let s := s.setAxis i { a with cur := some m, queue := rest, pass := veFrom m (pos s i) rest }
      orient ((s.put (STP_STAT.STATE i) 1).put (STP_STAT.GRP_WAIT i) 0) i t

/-- The axis comes to rest, which completes a stop-and-reverse of a group member, and takes its next move, if any. -/
def toRest (s : State) (i : Fin 16) (t : Nat) : State :=
  let a := s.axis i
  let s := match a.turn with | some p0 => reversal s i p0 | none => s
  startNext i t a.queue ((s.setAxis i (a.atRest s.now)).wr (STP_SPD i) 0)

/-- Present instant in 2^-32 port cycles, at the next port edge. -/
def nowFine (s : State) : Nat := fine (ceilTo portUnits s.now)

end Stp

/-- A change of every axis that takes part in the group move of a master. -/
def State.eachMember (s : State) (master : Fin 16) (f : State → Fin 16 → State) : State :=
  (finList 16).foldl (fun s j =>
    match (s.axis j).group with
    | some h => if h.master = master then f s j else s
    | none => s) s

/-- The group moves of the master stop, when another member or the master itself has stopped (R236): the master decelerates, and every member
reads STOPPING, or when it has stopped at once the other members come to rest with it. -/
def State.stopGroup (s : State) (g : GroupRun) (atOnce : Bool) : State :=
  if atOnce then s.eachMember g.master (fun s j => Stp.toRest s j (Stp.nowFine s))
  else
    let a := s.axis g.master
    match a.group with
    | some _ => (s.setAxis g.master { a with stopping := true }).eachMember g.master (fun s j => s.put (STP_STAT.STATE j) 3)
    | none => s

/-- The master of a group has come to rest: the other members do, one whose last step is placed already after that step (R236). -/
def State.groupRest (s : State) (g : GroupRun) : State :=
  s.eachMember g.master (fun s j =>
    let a := s.axis j
    if a.due.isSome then s.setAxis j { a with stopping := true } else Stp.toRest s j (Stp.nowFine s))

/-- An axis stops at once, keeps its queue, a replacement that waits at its head, and enters HALTED with SAFE_HALT; an axis that drives
a port sets POS_DOUBT (R237). -/
def State.safeHalt (s : State) (i : Fin 16) : State :=
  if s.is (STP_CTRL.EN i) then
    let a := s.axis i
    let s := s.setAxis i { a.atRest s.now with queue := a.repl.toList ++ a.queue }
    let s := match a.group with | some g => s.stopGroup g (decide (g.master = i)) | none => s
    let s := Stp.shown ((((s.put (STP_STAT.STATE i) 4).flag (STP_STAT.SAFE_HALT i)).put (STP_STAT.GRP_WAIT i) 0).wr (STP_SPD i) 0) i
    if (s.axisPort i).isSome then s.flag (STP_STAT.POS_DOUBT i) else s
  else s

/-- Every enabled axis that drives a port halts when the port trips (R237). -/
def State.haltPort (s : State) (n : Fin 64) : State :=
  (finList 16).foldl (fun s i => if s.axisPort i = some n then s.safeHalt i else s) s

/-- Every enabled axis assigned to a joint of an arm halts when the arm's STO group is de-energised (R237). -/
def State.haltArm (s : State) (a : Fin 8) : State :=
  (finList 16).foldl (fun s i => if armOf (s.axisJoint i) = a then s.safeHalt i else s) s

end Sys2Proof.Machine
end

