-- ==== Sys2Proof/Machine/Otp.lean ====
section
/-! DEFINITION. The OTP controller: words, key status, seal bits, counters, settings generations, and programming (18 R548 to R553,
R571, R580, R581). -/

namespace Sys2Proof.Machine

open Sys2Proof

/-- A change of the boot state. -/
def State.updBoot (s : State) (f : BootState → BootState) : State := { s with boot := f s.boot }

/-- A word of the OTP (R548). -/
def State.otpWord (s : State) (a : Nat) : Word := tget s.boot.otp a 0

/-- The bytes of n OTP words. -/
def State.otpBytes (s : State) (a n : Nat) : List Byte := (List.range n).flatMap (fun i => leBytes 4 (s.otpWord (a + i)).toNat)

/-- Bits that at least two of three words hold (R549). -/
def majority (a b c : Word) : Word := (a &&& b) ||| (a &&& c) ||| (b &&& c)

/-- The key status, laid out as attestation bytes 292 to 295 (R549, R566; log 36). -/
def State.keyStatus (s : State) : Word := majority (s.otpWord 0x70) (s.otpWord 0x71) (s.otpWord 0x72) &&& 0xFFF

/-- The seal bits (R549, R557; log 36). -/
def State.seals (s : State) : Word := majority (s.otpWord 0x8C) (s.otpWord 0x8D) (s.otpWord 0x8E) &&& 0xF

/-- The contiguous 1 bits of a word from bit 0. -/
def onesFrom (w : Word) : Nat → Nat
  | 0 => 0
  | n + 1 => if w.getLsbD (32 - (n + 1)) then 1 + onesFrom w n else 0

/-- The contiguous 1 bits of a thermometer of several words. -/
def thermometer : List Word → Nat
  | [] => 0
  | w :: t => let k := onesFrom w 32; if k = 32 then 32 + thermometer t else k

/-- The anti-rollback counter of a component (R571). -/
def State.rollback (s : State) (c : Fin 6) : Nat := thermometer ((List.range 4).map (fun i => s.otpWord (0x74 + 4 * c.val + i)))

/-- The first word of a settings generation, and its 448 words (R548, R551). -/
def genAddr (g : Fin 4) : Nat := 0x100 + g.val * 0x1C0
/-- See `genAddr`. -/
def State.genWords (s : State) (g : Fin 4) : List Word := (List.range 448).map (fun i => s.otpWord (genAddr g + i))

/-- A generation is Blank: every word reads zero (R552). -/
def State.genBlank (s : State) (g : Fin 4) : Bool := (s.genWords g).all (· == 0)

/-- A generation is Valid: MAGIC, GEN, FMT, CRC and COMMIT match (R552). -/
def genOk (g : Nat) (ws : List Word) : Bool :=
  ws.getD 0 0 == 0x54544553 && getBits (ws.getD 1 0) 0 8 == g && getBits (ws.getD 1 0) 8 8 == 1 &&
    ws.getD 446 0 == crc32c ((ws.take 446).flatMap (fun w => leBytes 4 w.toNat)) && ws.getD 447 0 == 0x3C5AA5C3

/-- See `genOk`. -/
def State.genValid (s : State) (g : Fin 4) : Bool := genOk g.val (s.genWords g)

/-- What OTP_STAT, OTP_ARB, OTP_KEYS and HM_STAT show of the OTP (R580, R581); the active generation is shown from the boot that takes it. -/
def State.showOtp (s : State) : State :=
  let bits := fun (f : Fin 4 → Bool) => ((finList 4).map (fun g => if f g then 2 ^ g.val else 0)).sum
  let w := s.seals
  let s := (((s.putB OTP_STAT.SEALED (w.getLsbD 0)).putB OTP_STAT.KEYS_LOCKED (w.getLsbD 1)).putB OTP_STAT.SETTINGS_LOCKED (w.getLsbD 2)).putB OTP_STAT.COSIGN_REQ (w.getLsbD 3)
  let s := (s.put OTP_STAT.GEN_VALID (bits s.genValid)).put OTP_STAT.GEN_BLANK (bits s.genBlank)
  let s := (finList 6).foldl (fun s c => s.wr (OTP_ARB c) (BitVec.ofNat 32 (s.rollback c))) s
  (s.wr OTP_KEYS s.keyStatus).putB HM_STAT.SEALED (w.getLsbD 0)

/-- One word programmed: bits go from 0 to 1 only, `took` says which of them do, and the read-back sets PROG_ERR when one has not
(R548, R550, R581). -/
def State.otpBurn (s : State) (a : Nat) (v took : Word) : State :=
  let old := s.otpWord a
  let new := old ||| (v &&& took)
  let s := (s.updBoot (fun b => { b with otp := tset b.otp a new })).showOtp
  if new = old ||| v then s else s.flag OTP_STAT.PROG_ERR

/-- Whether the controller refuses to program (R550). -/
def State.otpRefuses (s : State) : Bool := s.pwr.pfail || !s.pwr.supplies || s.boot.coreOut

/-- OTP_PROGRAM: a write of OTP_CMD.PROG starts to program OTP_DATA at OTP_ADDR, or is refused; one word at a time (R550, R580). -/
def State.otpProgram (s : State) (who : Who) : State :=
  if who ≠ .hearth ∨ s.otpRefuses ∨ s.is OTP_STAT.BUSY then s.flag OTP_STAT.CMD_REFUSED
  else (s.put OTP_STAT.BUSY 1).updBoot (fun b => { b with prog := some (getBits (s.rd OTP_ADDR) 0 11, s.rd OTP_DATA, s.now) })

/-- OTP_PROGRAM. -/
def execOtpProgram (who : Who) (s : State) : Host.Outcome State Fault Refusal := .next (s.otpProgram who)

/-- OTP_PROGRAM_DONE: 20 us after the start the word is programmed and read back (R550). -/
def execOtpProgramDone (took : Word) (s : State) : Host.Outcome State Fault Refusal :=
  match s.boot.prog with
  | none => .next s
  | some (a, v, t) =>
    .next ((((s.advance (t + 20000 * nsUnits)).updBoot (fun b => { b with prog := none })).put OTP_STAT.BUSY 0).otpBurn a v took)

/-- A little-endian field of a list of words, by byte offset. -/
def wordsField (ws : List Word) (o n : Nat) : Nat := ofLeBytes ((List.range n).map (fun i => BitVec.ofNat 8 ((ws.getD ((o + i) / 4) 0).toNat / 2 ^ (8 * ((o + i) % 4)))))

/-- A field of the active generation (R551, R552); 0 when there is none. -/
def State.setting (s : State) (o n : Nat) : Nat := match s.boot.gen with
  | none => 0
  | some g => wordsField (s.genWords g) o n

end Sys2Proof.Machine
end

