-- ==== Sys2Proof/Machine/UpdateBase.lean ====
section
/-! DEFINITION. Flash slots, manifests, the checks of an image, and the phases of an update (18 R562, R563, R567 to R573, R577). -/

namespace Sys2Proof.Machine

open Sys2Proof

/-- A change of the update. -/
def State.updUpd (s : State) (f : Update → Update) : State := s.updBoot (fun b => { b with upd := f b.upd })

/-- Where a slot of a component lies in the flash (R562). -/
def flashSlot (c : Fin 6) (k : Fin 2) : Nat := 0x100000 + (2 * c.val + k.val) * 0x400000

/-- The CONFIRMED slot of a component and the role of the other one: 0 EMPTY, 1 LOADED, 2 TRIAL (R562). -/
def State.dir (s : State) (c : Fin 6) : Fin 2 × Nat := tget s.boot.dir c (0, 0)
/-- See `State.dir`. -/
def State.setDir (s : State) (c : Fin 6) (d : Fin 2 × Nat) : State := s.updBoot (fun b => { b with dir := tset b.dir c d })
/-- The slot that is not CONFIRMED. -/
def State.otherSlot (s : State) (c : Fin 6) : Fin 2 := 1 - (s.dir c).1

/-- Bytes of a slot: the manifest, then the image (R562). -/
def State.slotBytes (s : State) (c : Fin 6) (k : Fin 2) (o n : Nat) : List Byte := memReadN s.boot.flash (flashSlot c k + o) n
/-- A field of a manifest (R567). -/
def State.mf (s : State) (c : Fin 6) (k : Fin 2) (o n : Nat) : Nat := ofLeBytes (s.slotBytes c k o n)
/-- The image of a slot. -/
def State.image (s : State) (c : Fin 6) (k : Fin 2) : List Byte := s.slotBytes c k 256 (min (s.mf c k 20 4) 0x200000)
/-- The version of an image. -/
def State.version (s : State) (c : Fin 6) (k : Fin 2) : Nat := s.mf c k 8 4

/-- The slot whose image runs in a plane (components 2 and 3) or in the device. -/
def State.runs (s : State) (pl : Fin 2) (c : Fin 6) : Option (Fin 2) :=
  (s.boot.running.find? (fun (q : (Fin 2 × Fin 6) × Fin 2) => decide (q.1 = (pl, c)))).map (fun (q : (Fin 2 × Fin 6) × Fin 2) => q.2)
/-- An image takes over. -/
def State.setRuns (s : State) (pl : Fin 2) (c : Fin 6) (k : Fin 2) : State := s.updBoot (fun b => { b with running := tset b.running (pl, c) k })

/-- An image takes over in both planes, or in a part that no plane holds. -/
def State.setRunsAll (s : State) (c : Fin 6) (k : Fin 2) : State := (s.setRuns 0 c k).setRuns 1 c k

/-- The health window and the proving run of an image, in s; 0 stands for the default (R567). -/
def State.healthS (s : State) (c : Fin 6) (k : Fin 2) : Nat := let h := s.mf c k 120 2; if h = 0 then 60 else h
/-- See `State.healthS`. -/
def State.proveS (s : State) (c : Fin 6) (k : Fin 2) : Nat := let p := s.mf c k 122 2; if p = 0 then 10 else p

/-- Whether a key slot is programmed and not revoked; vendor slots 0 and 1 (R548, R559, R566). -/
def State.keyOk (s : State) (vendor : Bool) (k : Nat) : Bool :=
  let w := s.keyStatus
  if vendor then decide (k < 2) && w.getLsbD k && !w.getLsbD (2 + k) else decide (k < 4) && w.getLsbD (4 + k) && !w.getLsbD (8 + k)

/-- The hash of a key slot (R548). -/
def State.keyHash (s : State) (vendor : Bool) (k : Nat) : List Byte := s.otpBytes ((if vendor then 0x40 else 0x50) + 8 * k) 8

/-- Whether a signature over a message verifies with a key slot (R568); ECDSA with a key of that hash is free (log 37). -/
def State.sigOk (s : State) (vendor : Bool) (k : Nat) (msg sig : List Byte) : Bool :=
  s.keyOk vendor k && Config.sigOk (s.keyHash vendor k) msg sig

/-- The fields that R568 checks first. -/
def State.manifestOk (s : State) (c : Fin 6) (k : Fin 2) : Bool :=
  let f := s.mf c k
  let len := f 20 4
  decide (f 0 4 = 0x464E414D ∧ f 4 2 = 1 ∧ f 7 1 < 4 ∧ f 19 1 = 0 ∧ 1 ≤ len ∧ len ≤ 0x200000) &&
    decide (f 120 2 = 0 ∨ (10 ≤ f 120 2 ∧ f 120 2 ≤ 600)) && decide (f 122 2 = 0 ∨ f 122 2 + 5 ≤ s.healthS c k)

/-- The image of a slot is compatible with every other component that runs (R569). -/
def State.compatible (s : State) (pl : Fin 2) (c : Fin 6) (k : Fin 2) : Bool :=
  (finList 6).all (fun d =>
    match (if d = c then none else s.runs pl d) with
    | none => true
    | some j =>
      let x := s.version c k
      let y := s.version d j
      decide (s.mf c k (72 + 8 * d.val) 4 ≤ y ∧ y ≤ s.mf c k (76 + 8 * d.val) 4 ∧ s.mf d j (72 + 8 * c.val) 4 ≤ x ∧ x ≤ s.mf d j (76 + 8 * c.val) 4))

/-- The result code of the checks of R568 on a slot, 0 when it is accepted: the first that fails. -/
def State.imageCode (s : State) (pl : Fin 2) (c : Fin 6) (k : Fin 2) : Nat :=
  let f := s.mf c k
  let cosigned := f 7 1 / 2 % 2 = 1
  if !s.manifestOk c k then 0x0008
  else if !s.sigOk true (f 17 1) (s.slotBytes c k 0 128) (s.slotBytes c k 128 64) then 0x000C
  else if cosigned ∧ s.sigOk false (f 18 1) (s.slotBytes c k 0 192) (s.slotBytes c k 192 64) = false then 0x000C
  else if s.is OTP_STAT.COSIGN_REQ ∧ ¬cosigned then 0x000C
  else if s.slotBytes c k 24 32 ≠ sha256 (s.image c k) then 0x000C
  else if f 12 2 ≠ 0x8064 ∨ f 14 1 ≠ 0x42 ∨ (f 15 1).testBit (s.get DEV_IDENT.STEP) = false ∨ (f 7 1 % 2 = 1 ∧ s.slotBytes c k 56 16 ≠ s.otpBytes 2 4) then 0x000E
  else if f 16 1 < s.rollback c then 0x000D
  else if !s.compatible pl c k then 0x000E
  else 0

/-- The component of the update, as an index. -/
def State.updComp (s : State) : Fin 6 := fin 6 (s.boot.upd.comp - 1)

/-- A change of phase writes an UPDATE record (R577): component, phase, image version. -/
def State.setPhase (s : State) (ph : Nat) (k : Fin 2) : State :=
  let s := s.updUpd (fun u => { u with phase := ph })
  s.post 0x0300 0 s.cellAddr ([BitVec.ofNat 8 s.boot.upd.comp, BitVec.ofNat 8 ph] ++ leBytes 4 (s.version s.updComp k))

/-- The slot of the image that the update has loaded: the one that is not CONFIRMED until it is confirmed. -/
def State.newSlot (s : State) : Fin 2 := s.otherSlot s.updComp

/-- The health window starts: the new image governs (R573); its run and window end in operating time (R572). -/
def State.startWindow (s : State) : State :=
  let c := s.updComp
  let k := s.newSlot
  (s.updUpd (fun u => { u with mishap := false, proveAt := s.optime + s.proveS c k * 1000000000, windowAt := s.optime + s.healthS c k * 1000000000 })).setPhase 4 k

/-- Whether the update is of an image that a plane holds: components 2 and 3. -/
def State.updatesPlanes (s : State) : Bool := s.boot.upd.comp == 2 || s.boot.upd.comp == 3

/-- A port is armed: the window of an image both planes were loaded with starts (R574). -/
def State.updArmed (s : State) : State :=
  if s.boot.upd.stage = 4 ∧ s.boot.upd.phase = 3 ∧ s.updatesPlanes then s.startWindow else s

/-- Whether the planes run the same images (R574). -/
def State.sameImages (s : State) : Bool := s.runs 0 1 == s.runs 1 1 && s.runs 0 2 == s.runs 1 2

end Sys2Proof.Machine
end

