-- ==== Sys2Proof/Machine/Port.lean ====
section
/-! DEFINITION. The gate-drive ports (03). -/

namespace Sys2Proof.Machine

open Sys2Proof

/-- The inner state of a port. -/
def State.port (s : State) (n : Fin 64) : Port := tget s.ports n {}

/-- A port given an inner state. -/
def State.setPort (s : State) (n : Fin 64) (p : Port) : State := { s with ports := tset s.ports n p }

/-- A leg of a port. -/
def Port.leg (p : Port) (l : Fin 4) : Leg := tget p.legs l {}

/-- A port with a leg replaced. -/
def Port.setLeg (p : Port) (l : Fin 4) (g : Leg) : Port := { p with legs := tset p.legs l g }

/-- The four legs. -/
def legList : List (Fin 4) := [0, 1, 2, 3]

/-- The legs a port drives: 0 to 2, two-phase 0 to 3, donor 1 and 2 (R119). -/
def State.drivenLegs (s : State) (n : Fin 64) : List (Fin 4) :=
  if s.get (PWM_MODE.TOPOLOGY n) = 1 then [0, 1, 2, 3] else if s.get (PWM_MODE.TOPOLOGY n) = 2 then [1, 2] else [0, 1, 2]

/-- The bits of one line of PWM_LIVE. -/
def liveBits (f : Fin 4 → Bool) : Nat := (if f 0 then 1 else 0) + (if f 1 then 2 else 0) + (if f 2 then 4 else 0) + (if f 3 then 8 else 0)

/-- PWM_LIVE shows the leg commands and gates (R124). FLOAT shows the float command of a RUNNING port only: DESIGN CHOICE, log 48
(a port that does not run has no leg command, and a leg that a RUNNING port does not drive has the command float). -/
def State.showLive (s : State) (n : Fin 64) : State :=
  let p := s.port n
  (((s.put (PWM_LIVE.CMD_HIGH n) (liveBits (fun l => (p.leg l).cmd == .high))).put (PWM_LIVE.GH_ON n) (liveBits (fun l => (p.leg l).gh))).put
    (PWM_LIVE.GL_ON n) (liveBits (fun l => (p.leg l).gl))).put (PWM_LIVE.FLOAT n) (liveBits (fun l => (p.leg l).cmd == .float && s.get (PWM_STAT.STATE n) == 2))

/-- A port given an inner state, with PWM_LIVE following. -/
def State.updPort (s : State) (n : Fin 64) (p : Port) : State := (s.setPort n p).showLive n

/-- A leg with both gates off, nothing pending and the command float: an off interval, which restarts the refresh count (R104). -/
def Leg.off (g : Leg) (t : Time) : Leg :=
  { g with cmd := .float, gh := false, gl := false, ghOff := if g.gh then t else g.ghOff, glOff := if g.gl then t else g.glOff
           ghDue := none, glDue := none, sched := [], highRun := 0 }

/-- Every leg of a port off. -/
def Port.off (p : Port) (t : Time) : Port := { p with legs := p.legs.map (fun (q : Fin 4 × Leg) => (q.1, q.2.off t)), ascOn := false }

/-- The dead times of R100, in 1/256 ns: before a high-side and before a low-side turn-on. -/
def State.deadR (s : State) (n : Fin 64) : Time := s.get (PWM_DEAD.DT_R n) * 32
/-- See `State.deadR`. -/
def State.deadF (s : State) (n : Fin 64) : Time := s.get (PWM_DEAD.DT_F n) * 32

/-- The short-pulse thresholds of R102: of a high and of a low pulse. -/
def State.thrHigh (s : State) (n : Fin 64) : Time := s.deadR n + s.get (PWM_MINON.MINON n) * 32
/-- See `State.thrHigh`. -/
def State.thrLow (s : State) (n : Fin 64) : Time := s.deadF n + s.get (PWM_MINON.MINON n) * 32

/-- The release fraction F of a port in 1/64 of the period (R37, R170): that of the enabled step axis or of the enabled loop, standard or
custom, that posts edge words to it (LD_PORT.PORT), also in its final run; of the current loop of the port's number where there is none. -/
def State.relFrac (s : State) (n : Fin 64) : Nat :=
  match (finList 16).find? (fun i => s.is (STP_CTRL.EN i) && s.axisPort i == some n) with
  | some i => s.get (STP_CFG.REL i)
  | none =>
    match (finList 256).find? (fun d => (s.is (LD_CTRL.EN d) || s.get (LD_STAT.STATE d) != 0) && s.get (LD_PORT.PORT d) == n.val
        && (if s.get (LD_CTRL.LAW d) = 0 then decide (d.val < 64) else s.get (LD_CTRL.OUT d) == 0)) with
    | some d => s.get (LD_CTRL.REL d)
    | none => s.get (LD_CTRL.REL (fin 256 n.val))

/-- The release instant of the present period at a port (R37). -/
def State.release (s : State) (n : Fin 64) : Time := s.boundary s.periodNo + s.relFrac n * (s.period / 64)

/-- The load edge: the last port-island edge at or before the release instant (R38). -/
def State.loadEdge (s : State) (n : Fin 64) : Time := floorTo portUnits (s.release n)

/-- The cut-off edge, one port cycle before the load edge (R38). -/
def State.cutOff (s : State) (n : Fin 64) : Time := s.loadEdge n - portUnits

/-- The active plane (R42): 0 A, 1 B. -/
def State.activePlane (s : State) : Fin 2 := if s.is PC_STAT.ACTIVE then 1 else 0

/-- The planes whose tiles run tasks: SHADOW, STANDBY and ACTIVE (R497). -/
def State.runPlanes (s : State) : List (Fin 2) :=
  (if 3 ≤ s.get PC_STAT.STATE_A ∧ s.get PC_STAT.STATE_A ≤ 5 then [0] else []) ++
  (if 3 ≤ s.get PC_STAT.STATE_B ∧ s.get PC_STAT.STATE_B ≤ 5 then [1] else [])

/-- The plane whose posts a port takes: the active plane's, or the former one's until a give-up has crossed in (15 R493, R494). -/
def State.portPlane (s : State) (n : Fin 64) : Fin 2 := if n ∈ s.pc.crossing then s.pc.former else s.activePlane

/-- The health report register of a plane. -/
def healthReg (pl : Fin 2) : Reg := if pl = 0 then PC_HEALTH_A else PC_HEALTH_B

/-- A finding reported to the comparison of the present period (15 R487). -/
def State.finding (s : State) (kind place : Nat) : State :=
  { s with pc := { s.pc with cur := { s.pc.cur with findings := s.pc.cur.findings ++ [(kind, place)] } } }

/-- Whether the other plane is in TRANSFER, so that what this one stores is mirrored into it (15 R500). -/
def State.mirrored (s : State) (pl : Fin 2) : Bool := (if pl = 0 then s.get PC_STAT.STATE_B else s.get PC_STAT.STATE_A) == 2

/-- The outside stores of a tile position or Kiln (16) of a plane folded into its signature of the period: the address in five bytes
and the data (15 R487). -/
def State.foldSig (s : State) (pl : Fin 2) (pos : Fin 17) (a : Nat) (bs : List Byte) : State :=
  let c := (leBytes 5 a ++ bs).foldl crc32cByte (tget s.pc.cur.sigs (pl, pos) (BitVec.allOnes 32))
  { s with pc := { s.pc with cur := { s.pc.cur with sigs := tset s.pc.cur.sigs (pl, pos) c } } }

/-- The trip sources active now, as TRIP_STAT.SRC bits (R108, R123): the pin's filter output, FORCE_TRIP, a pin trip of
another driven port of the arm with PROP, the safety island. -/
def State.tripSources (s : State) (n : Fin 64) : Nat :=
  let prop := (finList 64).any (fun m => m ≠ n && armOf m == armOf n && (s.port m).pin && s.is (TRIP_CFG.PROP m) && s.get (PWM_STAT.STATE m) ≠ 0)
  (if (s.port n).pin then 1 else 0) + (if s.is (PWM_CTRL.FORCE_TRIP n) then 2 else 0) + (if prop then 4 else 0)
    + (if (s.port n).safe then 8 else 0)

/-- TRIP_STAT.STILL_ACTIVE follows the sources (R113). -/
def State.showStill (s : State) (n : Fin 64) : State := s.putB (TRIP_STAT.STILL_ACTIVE n) (decide (s.tripSources n ≠ 0))

/-- STILL_ACTIVE of every port of an arm follows the sources: a port that is no longer driven propagates nothing (R108). -/
def State.showStillArm (s : State) (a : Fin 8) : State := (finList 64).foldl (fun s m => if armOf m = a then s.showStill m else s) s

/-- The delay of an active short after a trip (R111). -/
def State.ascDelay (s : State) (n : Fin 64) : Time := max (s.get (TRIP_CFG.ASC_DELAY n) * 32) (max (s.deadR n) (s.deadF n))

/-- The first trip of a driven port (R108, R111, R112): every gate off, nothing pending, the latch and its sources, the
count, the record with the period number, the active short as a second stage, and the halt of an axis that drives the
port (R237). Words chosen at the cut-off edge are kept as the latest committed ones, without a frame (R118). -/
def State.trip (s : State) (n : Fin 64) (src : Nat) : State :=
  let p := s.port n
  let asc := s.get (TRIP_CFG.ASC n)
  let due := if (asc = 1 ∨ asc = 2) ∧ src < 8 then some (s.now + s.ascDelay n) else none
  let s := (s.put (PWM_STAT.STATE n) 3).setPort n { p.off s.now with
    cand := p.cand.map (fun (c : Cand) => { c with legs := [] }), resume := false, parkDue := false, ascDue := due }
  let s := (((s.put (TRIP_STAT.TRIPPED n) 1).put (TRIP_STAT.SRC n) src).bump (TRIP_CNT n)).showLive n
  let s := s.post 0x0100 2 (s.jointAddr n) ([BitVec.ofNat 8 src] ++ leBytes 2 (s.rd PERIOD_CNT).toNat)
  s.haltPort n

/-- The trip sources of a port judged (R108, R112, R115): a driven port trips, one whose latch is set adds the sources to SRC, also
when it has been disarmed, and a safety source ends an active short and one that waits. Neither comes back when that source ends while
the port stays TRIPPED: DESIGN CHOICE, log 48 (R111). -/
def State.judgeTrip (s : State) (n : Fin 64) : State :=
  let src := s.tripSources n
  let s := s.showStill n
  if src = 0 then s
  else if s.is (TRIP_STAT.TRIPPED n) then
    let s := s.put (TRIP_STAT.SRC n) (s.get (TRIP_STAT.SRC n) ||| src)
    if 8 ≤ src then s.updPort n { (s.port n).off s.now with ascDue := none } else s
  else if s.get (PWM_STAT.STATE n) = 0 then s
  else s.trip n src

/-- The trip sources of every port of an arm judged: a pin trip with PROP reaches the arm's other ports (R108). -/
def State.judgeArm (s : State) (a : Fin 8) : State :=
  (finList 64).foldl (fun s m => if armOf m = a then s.judgeTrip m else s) s

/-- PIN_LIVE: the synchronised pin level, active as POL says (R123). -/
def State.showPin (s : State) (n : Fin 64) : State := s.putB (TRIP_STAT.PIN_LIVE n) ((s.port n).pinLevel == s.is (TRIP_CFG.POL n))

/-- The trip pin at a level, active or inactive under POL. -/
def State.setPin (s : State) (n : Fin 64) (active : Bool) : State :=
  (s.setPort n { s.port n with pinLevel := active == s.is (TRIP_CFG.POL n) }).showPin n

/-- A pulse too short for the filter: PIN_LIVE has followed it through the synchroniser and the pin is back at its former level (R109). -/
def State.shortPulse (s : State) (t samples : Nat) : State := s.advance (t + (2 + samples) * portUnits)

/-- TRIP_PIN_ASSERT: the pin is first sampled active at the port edge t. Two cycles of the synchroniser and FLT further samples make the
filter output active, and one cycle later the gates are off; with PROP the arm's other ports follow two cycles after (R109, R110). Fewer
than FLT + 1 samples leave the output as it was. -/
def execTripPinAssert (n : Fin 64) (t samples : Nat) (s : State) : Host.Outcome State Fault Refusal :=
  let flt := s.get (TRIP_CFG.FLT n)
  if samples ≤ flt then .next (s.shortPulse t samples)
  else
    let s := (s.setPin n true).advance (t + (flt + 3) * portUnits)
    let s := (s.setPort n { s.port n with pin := true }).judgeTrip n
    .next ((if s.is (TRIP_CFG.PROP n) ∧ s.get (PWM_STAT.STATE n) ≠ 0 then s.advance (t + (flt + 5) * portUnits) else s).judgeArm (armOf n))

/-- TRIP_PIN_RELEASE: the pin is first sampled inactive at the port edge t, and the filter output is inactive two cycles and FLT further
samples later (R109). -/
def execTripPinRelease (n : Fin 64) (t samples : Nat) (s : State) : Host.Outcome State Fault Refusal :=
  let flt := s.get (TRIP_CFG.FLT n)
  if samples ≤ flt then .next (s.shortPulse t samples)
  else
    let s := (s.setPin n false).advance (t + (flt + 2) * portUnits)
    .next ((s.setPort n { s.port n with pin := false }).judgeArm (armOf n))

/-- FORCE_TRIP becomes 1: the software source is active (R110). -/
def State.forceTrip (s : State) (n : Fin 64) : State := (s.put (PWM_CTRL.FORCE_TRIP n) 1).judgeTrip n

/-- FORCE_TRIP_SET. -/
def execForceTripSet (n : Fin 64) (s : State) : Host.Outcome State Fault Refusal := .next (s.forceTrip n)

/-- FORCE_TRIP_CLEAR: the software source ends (R110). -/
def execForceTripClear (n : Fin 64) (s : State) : Host.Outcome State Fault Refusal :=
  .next ((s.put (PWM_CTRL.FORCE_TRIP n) 0).showStill n)

/-- CLR_TRIP: refused, with a record, while any source is active; else the latch and its sources are cleared, an active short
ends, and a tripped port is PARKED, to run from the next release instant when RUN is 1 (R113 to R115). -/
def execClrTrip (n : Fin 64) (s : State) : Host.Outcome State Fault Refusal :=
  if s.tripSources n ≠ 0 then
    let s := (s.flag (TRIP_STAT.CLR_REFUSED n)).showStill n
    .next (s.post 0x0101 1 (s.jointAddr n) [BitVec.ofNat 8 (s.get (TRIP_STAT.SRC n))])
  else
    let s := ((s.put (TRIP_STAT.TRIPPED n) 0).put (TRIP_STAT.SRC n) 0).showStill n
    if s.get (PWM_STAT.STATE n) = 3 then
      let s := s.put (PWM_STAT.STATE n) 1
      .next (s.updPort n { (s.port n).off s.now with ascDue := none, resume := s.is (PWM_CTRL.RUN n) })
    else .next s

/-- ACTIVE_SHORT: ASC_DELAY after a trip, every low-side or every high-side gate of the driven legs turns on, unless a
safety-island source is active (R111). -/
def execActiveShort (n : Fin 64) (s : State) : Host.Outcome State Fault Refusal :=
  match (s.port n).ascDue with
  | none => .next s
  | some t =>
    let s := s.advance t
    let p := { s.port n with ascDue := none }
    if s.get (PWM_STAT.STATE n) = 3 ∧ p.safe = false then
      let low := s.get (TRIP_CFG.ASC n) = 1
      let p := (s.drivenLegs n).foldl (fun p l => p.setLeg l { p.leg l with gl := decide low, gh := !decide low }) p
      .next (s.updPort n { p with ascOn := true })
    else .next (s.setPort n p)

/-- Whether the topology of a port allows it to be armed (R119). -/
def State.topologyOk (s : State) (n : Fin 64) : Bool :=
  match s.get (PWM_MODE.TOPOLOGY n) with
  | 0 => true
  | 1 => n.val % 8 ≠ 7 && s.get (PWM_MODE.TOPOLOGY (fin 64 (n.val + 1))) == 2
  | 2 => n.val ≠ 0 && s.get (PWM_MODE.TOPOLOGY (fin 64 (n.val + 63))) == 1
  | _ => false

/-- The arming conditions of R116, and no restart of the period sequencer pending (R34). -/
def State.canArm (s : State) (n : Fin 64) : Bool :=
  s.is ISL_STAT.PLL_LOCK && s.is PIN_REL.GATE && !s.is (TRIP_STAT.TRIPPED n) && s.tripSources n == 0
    && (s.is (PWM_MODE.EDGE_MODE n) || s.is (CAL_STAT.VALID n)) && s.topologyOk n && s.seq.restart.isNone

/-- The effect of ARM written to 1 (R115): PARKED with every gate driven off, or refused. -/
def State.armPort (s : State) (n : Fin 64) : State :=
  if s.get (PWM_STAT.STATE n) ≠ 0 then s
  else if s.canArm n then
    (((s.put (PWM_CTRL.ARM n) 1).put (PWM_STAT.STATE n) 1).updPort n { (s.port n).off s.now with cand := none, resume := false, parkDue := false }).updArmed
  else s.flag (PWM_FLAGS.ARM_REFUSED n)

/-- PWM_ARM. -/
def execPwmArm (n : Fin 64) (s : State) : Host.Outcome State Fault Refusal := .next (s.armPort n)

/-- The effect of ARM cleared (R115): DISARMED at once, outputs high-impedance. -/
def State.disarmPort (s : State) (n : Fin 64) : State :=
  (((s.put (PWM_CTRL.ARM n) 0).put (PWM_STAT.STATE n) 0).updPort n
    { (s.port n).off s.now with cand := none, resume := false, parkDue := false, ascDue := none }).showStillArm (armOf n)

/-- PWM_DISARM. -/
def execPwmDisarm (n : Fin 64) (s : State) : Host.Outcome State Fault Refusal := .next (s.disarmPort n)

/-- PWM_RUN_SET: a PARKED port may enter RUNNING at a release instant (R115). -/
def execPwmRunSet (n : Fin 64) (s : State) : Host.Outcome State Fault Refusal := .next (s.put (PWM_CTRL.RUN n) 1)

/-- PWM_RUN_CLEAR: a RUNNING port parks at the next release instant, whatever RUN is by then (R115). -/
def execPwmRunClear (n : Fin 64) (s : State) : Host.Outcome State Fault Refusal :=
  .next ((s.put (PWM_CTRL.RUN n) 0).setPort n
    { s.port n with resume := false, parkDue := (s.port n).parkDue || s.get (PWM_STAT.STATE n) == 2 })

/-- The register a configuration write names (R117). -/
def portCfgReg (n : Fin 64) : PortCfg → Reg
  | .mode => PWM_MODE n
  | .dead => PWM_DEAD n
  | .minon => PWM_MINON n
  | .refresh => PWM_REFRESH n
  | .tripCfg => TRIP_CFG n

/-- The value a register takes from a plain write: its rw, rwl and wo bits from the value, the others kept (R6, R7). -/
def State.setWritable (s : State) (r : Reg) (v : Word) : State :=
  let m := r.rwMask ||| r.rwlMask ||| r.woMask
  s.wr r ((s.rd r &&& ~~~m) ||| (v &&& m))

/-- PWM_CONFIG_WRITE: applied only in DISARMED, else ignored with CFG_REFUSED (R117). PIN_LIVE follows a new POL. -/
def execPwmConfigWrite (n : Fin 64) (r : PortCfg) (v : Word) (s : State) : Host.Outcome State Fault Refusal :=
  if s.get (PWM_STAT.STATE n) = 0 then .next (((s.setWritable (portCfgReg n r) v).showPin n).judgeArm (armOf n)) else .next (s.flag (PWM_FLAGS.CFG_REFUSED n))

/-- The planes a write of a shadow register reaches: a tile writes its own plane's bank, every other master both (R106). -/
def agentPlanes : Agent → List (Fin 2)
  | .planeA => [0]
  | .planeB => [1]
  | _ => [0, 1]

/-- The words of a plane's shadow bank. -/
def State.shadow (s : State) (n : Fin 64) (pl : Fin 2) : List (Nat × Nat) :=
  legList.map (fun l => (getBits (s.rd (EW_RISE n pl l)) 0 24, getBits (s.rd (EW_FALL n pl l)) 0 24))

/-- One plane's post for period p completed with the words of its shadow bank (R39, R106). -/
def State.takePost (s : State) (n : Fin 64) (pl : Fin 2) (words : List (Nat × Nat)) : State :=
  let p := s.port n
  let k := s.periodNo
  let c := match p.posts.find? (fun q => q.1 == pl) with
    | some (_, q) => if q.period = k then q.count + 1 else 1
    | none => 1
  s.setPort n { p with posts := tset p.posts pl { period := k, words := words, count := c, plane := pl } }

/-- A commit judged by its period number (R107): for the present period it completes the post when it has crossed by the
cut-off edge; an older number is late and discarded (R40); any other is discarded and sets EW_BAD. -/
def State.commitEw (s : State) (n : Fin 64) (planes : List (Fin 2)) (c : Nat) : State :=
  let d := ((s.rd PERIOD_CNT).toNat % 2 ^ 16 + 2 ^ 16 - c % 2 ^ 16) % 2 ^ 16
  if d = 0 then
    if s.now ≤ s.cutOff n then planes.foldl (fun t pl => t.takePost n pl (s.shadow n pl)) s else s
  else if d < 32768 then s
  else s.flag (PWM_FLAGS.EW_BAD n)

/-- EW_COMMIT. -/
def execEwCommit (n : Fin 64) (by_ : Agent) (c : BitVec 16) (s : State) : Host.Outcome State Fault Refusal :=
  .next (s.commitEw n (agentPlanes by_) c.toNat)

/-- Half of the larger short-pulse threshold, rounded up to a whole multiple of 125 ps (R95). -/
def State.edgeMargin (s : State) (n : Fin 64) : Nat := ceilTo 32 ((max (s.thrHigh n) (s.thrLow n) + 1) / 2)

/-- A compare clamped to the edge window from h to len - h (R95). -/
def clampEdge (h len x : Nat) : Nat := if x < h then h else if len - h < x then len - h else x

/-- The level a leg command has at a frame's start, once the edges placed before it have been executed (R38, R93). DESIGN CHOICE (log 61): the
placed time of an edge counts as its time, so an edge whose compare lies before the next release and whose rounded place, possible with H = 0
only, falls at or after it is dropped from the frame; R93 does not say to which frame it belongs. -/
def Leg.endLevel (g : Leg) (frame : Time) : Lvl :=
  match (g.sched.filter (fun (e : Time × Lvl) => e.1 < frame)).getLast? with
  | some (_, l) => l
  | none => g.cmd

/-- The reserved code that stands for a level (R94). -/
def Lvl.code : Lvl → Nat
  | .high => 0xFFFFFF
  | .low => 0xFFFFFE
  | .float => 0xFFFFFD

/-- The rise and the fall in the order in which they act (R93). -/
def edgeOrder (start : Lvl) (rise fall : Nat) : (Nat × Lvl) × (Nat × Lvl) :=
  if rise < fall then ((rise, .high), (fall, .low))
  else if fall < rise then ((fall, .low), (rise, .high))
  else if start = .high then ((fall, .low), (rise, .high)) else ((rise, .high), (fall, .low))

/-- What the port decides for one leg from its two words (R93 to R95, R102): the plan, and whether a compare was clamped and
a pulse was short. `start` is the level at the frame start, `first` marks the first frame of RUNNING (R114). -/
def planLeg (len h thrHi thrLo : Nat) (stretch : Bool) (start : Lvl) (rise fall : Nat) : LegPlan × Bool × Bool :=
  if rise = 0xFFFFFF then ({ changes := [(0, .high)], actRise := rise, actFall := 0 }, false, false)
  else if rise = 0xFFFFFE then ({ changes := [(0, .low)], actRise := rise, actFall := 0 }, false, false)
  else if rise = 0xFFFFFD then ({ changes := [(0, .float)], actRise := rise, actFall := 0 }, false, false)
  else
    let r := clampEdge h len rise
    let f := clampEdge h len fall
    let cl := decide (r ≠ rise ∨ f ≠ fall)
    let (e1, e2) := edgeOrder start r f
    if e1.2 = start then ({ changes := [e2], actRise := r, actFall := f }, cl, false)
    else
      let thr := if e1.2 = .high then thrHi else thrLo
      if thr ≤ e2.1 - e1.1 then ({ changes := [e1, e2], actRise := r, actFall := f }, cl, false)
      else if stretch then
        let last := if len - h < e1.1 + thr then len - h else e1.1 + thr
        let first := if len - h < e1.1 + thr then len - h - thr else e1.1
        let (r', f') := if e1.2 = .high then (first, last) else (last, first)
        ({ changes := [(first, e1.2), (last, e2.2)], actRise := r', actFall := f' }, cl, true)
      else ({ changes := [], actRise := start.code, actFall := 0 }, cl, true)

/-- Whether a plan holds the leg command high throughout the frame. -/
def LegPlan.allHigh (p : LegPlan) (start : Lvl) : Bool := (start == .high && p.changes.isEmpty) || p.changes == [(0, .high)]

/-- The width of a refresh notch (R105), and whether it was adjusted. -/
def State.notch (s : State) (n : Fin 64) : Nat × Bool :=
  let w := s.get (PWM_REFRESH.REF_W n) * 32
  let q := s.period / 4
  let v := if q < s.thrLow n then s.thrLow n else if q < w then q else max w (s.thrLow n)
  (v, decide (v ≠ w))

/-- The level with which a leg starts its frame: its level at the end of the previous one, or in the first frame of RUNNING
low when RISE ≤ FALL and high otherwise (R93, R114). -/
def startLevel (first : Bool) (g : Leg) (frame : Time) (w : Nat × Nat) : Lvl :=
  if first then (if w.1 ≤ w.2 then .low else .high) else g.endLevel frame

/-- One leg of the next frame decided, with its flags and its refresh count (R102 to R105). -/
def State.evalLeg (s : State) (n : Fin 64) (first : Bool) (words : List (Nat × Nat)) (l : Fin 4) (acc : State × List (Fin 4 × LegPlan)) :
    State × List (Fin 4 × LegPlan) :=
  let t := acc.1
  let w := words.getD l.val (0xFFFFFD, 0)
  let g := (t.port n).leg l
  let start := startLevel first g (s.release n) w
  let (p, cl, sh) := planLeg s.period (s.edgeMargin n) (s.thrHigh n) (s.thrLow n) (s.is (PWM_MODE.SHORT_MODE n)) start w.1 w.2
  let t := if cl then t.flag (PWM_FLAGS.CLAMP n) else t
  let t := if sh then (t.flag (PWM_FLAGS.SHORT n)).bump (SHORT_CNT n) else t
  let refFrames := s.get (PWM_REFRESH.REF_FRAMES n)
  let p := if first && p.changes.head?.map Prod.fst ≠ some 0 then { p with changes := (0, start) :: p.changes } else p
  if p.allHigh start && (s.get (PWM_MODE.REF_EN n)).testBit l.val && refFrames ≠ 0 then
    if refFrames ≤ g.highRun then
      let (v, adj) := s.notch n
      let t := (if adj then t.flag (PWM_FLAGS.CLAMP n) else t).flag (PWM_FLAGS.REFRESH n)
      (t.setPort n ((t.port n).setLeg l { g with highRun := 0 }), acc.2 ++ [(l, { changes := [(0, .low), (v, .high)], actRise := v, actFall := 0 })])
    else (t.setPort n ((t.port n).setLeg l { g with highRun := g.highRun + 1 }), acc.2 ++ [(l, p)])
  else (t.setPort n ((t.port n).setLeg l { g with highRun := 0 }), acc.2 ++ [(l, p)])

/-- Every driven leg of the next frame decided. -/
def State.evalFrame (s : State) (n : Fin 64) (first : Bool) (words : List (Nat × Nat)) : State × List (Fin 4 × LegPlan) :=
  (s.drivenLegs n).foldl (fun acc l => s.evalLeg n first words l acc) (s, [])

/-- Whether the next release instant begins the first frame of RUNNING (R114, R115). -/
def State.startsRunning (s : State) (n : Fin 64) (fresh : Bool) : Bool :=
  s.get (PWM_STAT.STATE n) == 1 && s.is (PWM_CTRL.RUN n) && (fresh || (s.port n).resume)

/-- The frame of the words a port is about to use decided and kept for the load edge. -/
def State.choose (s : State) (n : Fin 64) (w : Option Post) (fresh : Bool) : State :=
  let first := s.startsRunning n fresh
  let run := first || (s.get (PWM_STAT.STATE n) == 2 && !(s.port n).parkDue)
  match w with
  | none => s.setPort n { s.port n with cand := some { period := s.periodNo, words := none, repeated := true, legs := [] } }
  | some q =>
    if run then
      let (s, plans) := s.evalFrame n first q.words
      s.setPort n { s.port n with cand := some { period := s.periodNo, words := some q, repeated := !fresh, legs := plans } }
    else s.setPort n { s.port n with cand := some { period := s.periodNo, words := some q, repeated := !fresh, legs := [] } }

/-- A plane's post for the present period, as the comparison sees it. -/
def State.postOf (s : State) (n : Fin 64) (pl : Fin 2) : Option (List (Nat × Nat)) :=
  match (s.port n).posts.find? (fun (q : Fin 2 × Post) => q.1 == pl) with
  | some (_, q) => if q.period = s.periodNo then some q.words else none
  | none => none

/-- The posts of both planes compared at the cut-off edge of an armed port (15 R487). -/
def State.comparePosts (s : State) (n : Fin 64) : State :=
  let differ := if s.sameImages then s.postOf n 0 != s.postOf n 1 else (s.postOf n (1 - s.activePlane)).isNone
  if s.armed n && s.runPlanes.length == 2 && differ then s.finding 1 n.val else s

/-- CUT_OFF_EDGE (R38 to R40, R103): the port takes the active plane's last post for the period, or keeps the previous words,
which in RUNNING is an overrun; then it clamps, judges short pulses and inserts refresh notches. DOUBLE_POST is judged here: a second
post that completes after this edge is late and does not set it (DESIGN CHOICE, log 48). -/
def execCutOffEdge (n : Fin 64) (s : State) : Host.Outcome State Fault Refusal :=
  if s.seq.running = false then .next s
  else
    let s := (s.advance (s.cutOff n)).comparePosts n
    let k := s.periodNo
    match (s.port n).posts.find? (fun q => q.1 == s.portPlane n) with
    | some (_, q) =>
      if q.period = k then
        let s := if 1 < q.count then s.flag (PWM_FLAGS.DOUBLE_POST n) else s
        .next (s.choose n (some q) true)
      else
        let s := if s.get (PWM_STAT.STATE n) = 2 then ((s.flag (PWM_FLAGS.OVERRUN n)).bump (OVR_CNT n)).mishap [2, 3] else s
        .next (s.choose n (s.port n).used false)
    | none =>
      let s := if s.get (PWM_STAT.STATE n) = 2 then ((s.flag (PWM_FLAGS.OVERRUN n)).bump (OVR_CNT n)).mishap [2, 3] else s
      .next (s.choose n (s.port n).used false)

/-- The placement step (R96): 62.5 ps raw, 125 ps calibrated. -/
def State.placeStep (s : State) (n : Fin 64) : Nat := if s.is (PWM_MODE.EDGE_MODE n) then 16 else 32

/-- The placed time of an edge: rounded to the placement grid with ties upwards, never before the release instant (R96). -/
def placeEdge (step frame off : Nat) : Time :=
  let t := (frame + off + step / 2) / step * step
  if t < frame then ceilTo step frame else t

/-- The placed changes of a plan. -/
def LegPlan.placed (p : LegPlan) (step frame : Nat) : List (Time × Lvl) := p.changes.map (fun (c : Nat × Lvl) => (placeEdge step frame c.1, c.2))

/-- The frame of a choice loaded (R38): edges before the release instant keep the previous words, the new edges follow, and
the ACT registers show them. -/
def State.loadFrame (s : State) (n : Fin 64) (c : Cand) (frame : Time) : State :=
  let step := s.placeStep n
  let p := c.legs.foldl (fun (p : Port) (q : Fin 4 × LegPlan) =>
    let g := p.leg q.1
    p.setLeg q.1 { g with sched := g.sched.filter (fun (e : Time × Lvl) => e.1 < frame) ++ q.2.placed step frame }) (s.port n)
  let s := s.setPort n { p with frame := frame, plan := c.legs }
  c.legs.foldl (fun s (q : Fin 4 × LegPlan) => (s.wr (ACT_RISE n q.1) (BitVec.ofNat 32 q.2.actRise)).wr (ACT_FALL n q.1) (BitVec.ofNat 32 q.2.actFall)) s

/-- Legs that go off at a release instant (R115): the frame ends with both gates off. -/
def Port.parkAt (p : Port) (t : Time) : Port :=
  { p with legs := p.legs.map (fun (q : Fin 4 × Leg) => (q.1, { q.2 with sched := q.2.sched.filter (fun (e : Time × Lvl) => e.1 < t) ++ [(t, .float)], highRun := 0 })), frame := t }

/-- LOAD_EDGE (R38, R42, R114, R115): the chosen words go into the compares and the frame starts at the release instant; a
PARKED port may enter RUNNING and a RUNNING port whose RUN has been cleared parks. PLANE shows the plane that posted the words (R121). -/
def execLoadEdge (n : Fin 64) (s : State) : Host.Outcome State Fault Refusal :=
  match (s.port n).cand with
  | none => .next s
  | some c =>
    let frame := s.release n
    let s := s.advance (s.loadEdge n)
    let st := s.get (PWM_STAT.STATE n)
    let s := s.setPort n { s.port n with cand := none, used := c.words }
    let s := match c.words with
      | some w => (s.put (PWM_STAT.PLANE n) w.plane.val).put (ACT_PERIOD.PERIOD n) w.period
      | none => s
    let s := s.putB (ACT_PERIOD.REPEATED n) c.repeated
    if st = 2 then
      if (s.port n).parkDue then .next ((s.put (PWM_STAT.STATE n) 1).setPort n { (s.port n).parkAt frame with parkDue := false })
      else .next (s.loadFrame n c frame)
    else
      match s.startsRunning n (!c.repeated), c.words with
      | true, some w =>
        let (s, legs) := if c.legs.isEmpty then s.evalFrame n true w.words else (s, c.legs)
        let s := (s.put (PWM_STAT.STATE n) 2).setPort n { s.port n with resume := false }
        .next (s.loadFrame n { c with legs := legs } frame)
      | _, _ => .next s

/-- A leg command changed at an instant (R91, R93, R100): the gate to go off does so at once; the gate to go on does so at
the later of this instant and the other gate's turn-off plus the dead time. -/
def Leg.change (g : Leg) (lv : Lvl) (t dr df : Time) : Leg :=
  if g.cmd = lv then g
  else
    match lv with
    | .float => { g with cmd := .float, gh := false, gl := false, ghOff := if g.gh then t else g.ghOff, glOff := if g.gl then t else g.glOff, ghDue := none, glDue := none }
    | .high =>
      let off := if g.gl then t else g.glOff
      let due := off + dr
      if due ≤ t ∨ off = 0 then { g with cmd := .high, gl := false, glOff := off, glDue := none, gh := true, ghDue := none }
      else { g with cmd := .high, gl := false, glOff := off, glDue := none, ghDue := some due }
    | .low =>
      let off := if g.gh then t else g.ghOff
      let due := off + df
      if due ≤ t ∨ off = 0 then { g with cmd := .low, gh := false, ghOff := off, ghDue := none, gl := true, glDue := none }
      else { g with cmd := .low, gh := false, ghOff := off, ghDue := none, glDue := some due }

/-- The port and the delay line of a gate: lines 2l and 2l + 1 of the port, for a borrowed leg 3 those of leg 0 of the next port (R99,
R119). -/
def gateLine (n : Fin 64) (l : Fin 4) (high : Bool) : Fin 64 × Fin 6 :=
  let k := if high then 0 else 1
  if l = 3 then (fin 64 (n.val + 1), fin 6 k) else (n, fin 6 (2 * l.val + k))

/-- The tap through which a line launches a transition placed at t: in raw mode the position within the port cycle divided by
62.5 ps, in calibrated mode the entry of the tap map for the 125 ps step (R96, R97, R99). -/
def State.tapOf (s : State) (n : Fin 64) (ln : Fin 64 × Fin 6) (t : Time) : Nat :=
  if s.is (PWM_MODE.EDGE_MODE n) then t % portUnits / 16 else (tget (s.port ln.1).lines ln.2 {}).map.getD (t % portUnits / 32) 0

/-- A gate of a leg has changed at t: its line has launched the transition. -/
def State.launchTap (s : State) (n : Fin 64) (l : Fin 4) (high : Bool) (t : Time) : State :=
  let ln := gateLine n l high
  let p := s.port ln.1
  s.setPort ln.1 { p with lines := tset p.lines ln.2 { tget p.lines ln.2 {} with tap := s.tapOf n ln t } }

/-- A leg of a port replaced at t by what its command makes of it: the lines of the gates that change launch (R96). -/
def State.moveLeg (s : State) (n : Fin 64) (l : Fin 4) (t : Time) (g : Leg) : State :=
  let old := (s.port n).leg l
  let s := if old.gh = g.gh then s else s.launchTap n l true t
  let s := if old.gl = g.gl then s else s.launchTap n l false t
  s.updPort n ((s.port n).setLeg l g)

/-- The level of a gate ball, none while it is high-impedance: on is high, or low where H_POL or L_POL makes the output active low (R122).
The ball of leg 0 of a donor belongs to leg 3 of the port before it (R119). -/
def State.gateBall (s : State) (n : Fin 64) (l : Fin 3) (high : Bool) : Option Bool :=
  let (m, k) : Fin 64 × Fin 4 := if l = 0 ∧ s.get (PWM_MODE.TOPOLOGY n) = 2 then (fin 64 (n.val + 63), 3) else (n, fin 4 l.val)
  let g := (s.port m).leg k
  if s.get (PWM_STAT.STATE m) = 0 ∨ s.is PIN_REL.GATE = false then none
  else if high then some (g.gh != (s.get (PWM_MODE.H_POL m)).testBit k.val) else some (g.gl != (s.get (PWM_MODE.L_POL m)).testBit k.val)

/-- LEG_EDGE: the next placed edge of a leg is executed (R93, R96). -/
def execLegEdge (n : Fin 64) (l : Fin 4) (s : State) : Host.Outcome State Fault Refusal :=
  let g := (s.port n).leg l
  match g.sched with
  | [] => .next s
  | (t, lv) :: r =>
    let s := s.advance t
    .next (s.moveLeg n l t ({ g with sched := r }.change lv t (s.deadR n) (s.deadF n)))

/-- DEAD_TIME_EXPIRY: a pending turn-on takes place (R100). -/
def execDeadTimeExpiry (n : Fin 64) (l : Fin 4) (high : Bool) (s : State) : Host.Outcome State Fault Refusal :=
  let g := (s.port n).leg l
  match (if high then g.ghDue else g.glDue) with
  | none => .next s
  | some t =>
    let s := s.advance t
    .next (s.moveLeg n l t (if high then { g with gh := true, ghDue := none } else { g with gl := true, glDue := none }))

/-- The launch-to-tap delays D[0..63] of a round, in ps / 65,536 (R99). -/
def launchDelays (hist : List Nat) : List Nat := (hist.foldl (fun (a : List Nat × Nat) h => (a.1 ++ [a.2], a.2 + 4000 * h)) ([], 0)).1

/-- The distance of two numbers. -/
def dist (a b : Nat) : Nat := (a - b) + (b - a)

/-- The tap of least distance to a target, the lower one on a tie (R99). -/
def nearestTap (ds : List Nat) (target : Nat) : Nat :=
  ((ds.foldl (fun (a : Nat × Nat × Option Nat) d =>
    match a.2.2 with
    | none => (a.1 + 1, a.1, some (dist d target))
    | some b => if dist d target < b then (a.1 + 1, a.1, some (dist d target)) else (a.1 + 1, a.2.1, some b)) (0, 0, none)).2).1

/-- The tap map of a round: the tap for each of the 32 steps of 125 ps (R99). -/
def tapMap (hist : List Nat) : List Nat := (List.range 32).map (fun s => nearestTap (launchDelays hist) (125 * 65536 * s))

/-- CAL_STAT.MAX_TAP: the largest tap delay over the last completed rounds of the six lines, saturating at 255 (R124). -/
def State.showMaxTap (s : State) (n : Fin 64) : State :=
  s.put (CAL_STAT.MAX_TAP n) (min 255 ((finList 6).foldl (fun m i => max m (tget (s.port n).lines i {}).maxTap) 0))

/-- CAL_ROUND_DONE: a round of a delay line ends; with a tap over 100 ps the previous map is kept, CAL_FAIL set and a record
written, else the new map waits for the next frame start (R98, R99). -/
def execCalRoundDone (n : Fin 64) (line : Fin 6) (hist : List Nat) (s : State) : Host.Outcome State Fault Refusal :=
  let worst := hist.foldl max 0
  let ps := 4000 * worst / 65536
  let p := s.port n
  let dl := { tget p.lines line {} with maxTap := ps }
  let s := s.put (CAL_STAT.ROUNDS n) (s.get (CAL_STAT.ROUNDS n) + 1)
  if 100 * 65536 < 4000 * worst then
    let s := (s.setPort n { p with lines := tset p.lines line dl }).showMaxTap n
    let s := s.flag (PWM_FLAGS.CAL_FAIL n)
    .next (s.post 0x0102 1 (s.jointAddr n) [BitVec.ofNat 8 (min 255 ps), BitVec.ofNat 8 line.val])
  else .next ((s.setPort n { p with lines := tset p.lines line { dl with newMap := some (tapMap hist) } }).showMaxTap n)

/-- CAL_MAP_INSTALL: at the next frame start the new map is installed and the line is good; VALID reads 1 once every line of
the port is (R99). -/
def execCalMapInstall (n : Fin 64) (line : Fin 6) (s : State) : Host.Outcome State Fault Refusal :=
  let p := s.port n
  let dl := tget p.lines line {}
  match dl.newMap with
  | none => .next s
  | some m =>
    let p := { p with lines := tset p.lines line { dl with map := m, newMap := none, ok := true } }
    let s := s.setPort n p
    .next (s.putB (CAL_STAT.VALID n) ((finList 6).all (fun i => (tget p.lines i {}).ok)))

end Sys2Proof.Machine
end

