-- ==== Sys2Proof/Machine/Loop.lean ====
section
/-! DEFINITION. The loop table and the runs of the laws (05 R165 to R206). -/

namespace Sys2Proof.Machine

open Sys2Proof

/-- The inner state of a loop descriptor. -/
def State.loop (s : State) (n : Fin 256) : LoopState := tget s.loops n {}

/-- A loop descriptor given an inner state. -/
def State.setLoop (s : State) (n : Fin 256) (l : LoopState) : State := { s with loops := tset s.loops n l }

/-- Descriptor n as that of a current loop, or of a motion loop. -/
def curLoop (n : Fin 64) : Fin 256 := fin 256 n.val
/-- See `curLoop`. -/
def motLoop (n : Fin 64) : Fin 256 := fin 256 (64 + n.val)

/-- A loop with a standard law. -/
def State.standard (s : State) (n : Fin 256) : Bool := s.get (LD_CTRL.LAW n) == 0

/-- The joint port of a loop. -/
def State.loopPort (s : State) (n : Fin 256) : Fin 64 := fin 64 (s.get (LD_PORT.PORT n))

/-- The feedback unit of a loop. -/
def State.loopFb (s : State) (n : Fin 256) : Fin 64 := fin 64 (s.get (LD_PORT.FB n))

/-- Current periods between two runs of a loop (R177, R205). -/
def State.loopEvery (s : State) (n : Fin 256) : Nat := 2 ^ s.get (LD_CTRL.RATE n)

/-- K of R179. -/
def State.loopK (s : State) (n : Fin 256) : Nat := s.get (LD_CTRL.RCOUNT n) + 1

/-- Whether a loop posts edge words, or references (R168, R200). -/
def State.postsEdges (s : State) (n : Fin 256) : Bool :=
  if s.standard n then decide (n.val < 64) else s.get (LD_CTRL.OUT n) == 0
/-- See `State.postsEdges`. -/
def State.postsRefs (s : State) (n : Fin 256) : Bool :=
  if s.standard n then decide (64 ≤ n.val ∧ n.val < 128) else s.get (LD_CTRL.OUT n) == 1

/-- Whether another enabled loop posts to the same port in the same way (R168), or an enabled step
axis drives it (R229). -/
def State.postClash (s : State) (n : Fin 256) : Bool :=
  (finList 256).any (fun m => m ≠ n && s.is (LD_CTRL.EN m) && s.loopPort m == s.loopPort n &&
    ((s.postsEdges n && s.postsEdges m) || (s.postsRefs n && s.postsRefs m))) ||
  (s.postsEdges n && (finList 16).any (fun i => s.is (STP_CTRL.EN i) && s.axisPort i == some (s.loopPort n)))

/-- Whether the configuration of a loop may be enabled (R168, R177, R179, R190, R196, R205). -/
def State.loopCfgOk (s : State) (n : Fin 256) : Bool :=
  let rate := s.get (LD_CTRL.RATE n)
  let rateOk := if n.val < 64 then rate == 0
    else if s.standard n then (if s.seq.long then rate == 1 || rate == 2 else rate == 2 || rate == 3) else decide (rate ≤ 5)
  rateOk && decide (4 ≤ s.get (LD_CTRL.REL n) ∧ s.get (LD_CTRL.REL n) ≤ 60)
    && (s.standard n || s.get (LD_CTRL.OUT n) != 3) && s.get (LD_SUP_CFG.REACT n) != 3
    && (!s.postsRefs n || decide (s.loopK n ≤ s.loopEvery n)) && !s.postClash n

/-- LD_DIN (R131, R173): the centroid of the filter's window, the age of a reading in absolute modes and LD_DADJ. -/
def State.loopDin (s : State) (n : Fin 256) : State :=
  let m := (s.filter (fin 80 (s.loopPort n).val)).m
  let fb := s.loopFb n
  let age := if 3 ≤ s.get (FB_CFG.MODE fb) then 2 ^ s.get (FB_CFG.SRATE fb) * s.period else 0
  let din : Int := ((3 * m - 3) * modPeriod s.sdclk.slow / 2 + age : Nat) + signed 32 (s.rd (LD_DADJ n)).toNat
  s.wr (LD_DIN n) (wordOf din)

/-- LD_DIN and LD_DOUT, which is (F + 1/2) x period, as EN is set (R173). -/
def State.loopDelays (s : State) (n : Fin 256) : State :=
  (s.loopDin n).wr (LD_DOUT n) (BitVec.ofNat 32 ((s.get (LD_CTRL.REL n) + 32) * s.period / 64))

/-- LOOP_ENABLE: EN reads 1 and the loop waits for Stack to place its task, or the write is refused (R166, R168, R190). -/
def execLoopEnable (n : Fin 256) (s : State) : Host.Outcome State Fault Refusal :=
  if s.is (LD_CTRL.EN n) then .next s
  else if s.get (LD_STAT.STATE n) ≠ 0 ∨ s.loopCfgOk n = false then .next (s.flag (LD_STAT.CFG_REFUSED n))
  else .next ((s.put (LD_CTRL.EN n) 1).loopDelays n)

/-- LOOP_DISABLE: EN cleared; a loop that is placed runs once more (R190). -/
def execLoopDisable (n : Fin 256) (s : State) : Host.Outcome State Fault Refusal :=
  let s := s.put (LD_CTRL.EN n) 0
  .next (s.setLoop n { s.loop n with final := decide (s.get (LD_STAT.STATE n) ≠ 0) })

/-- OFF or STUCK of a sample word (R134). -/
def sampleOff (w : Word) : Bool := w.getLsbD 25 || w.getLsbD 26

/-- Whether the present block of a standard loop has no invalid sample and no FAULT (R192, R193); a loop that has had no block yet has no
invalid sample. -/
def State.blockClean (s : State) (n : Fin 256) : Bool :=
  let w := fun (k : Nat) => (s.loop n).blk.getD k 0
  let vdc := signed 24 (getBits (w 3) 0 24)
  (s.loop n).blk.isEmpty ||
    (!(w 8).getLsbD 5 && !(w 8).getLsbD 6 &&
      (decide (64 ≤ n.val) || (!sampleOff (w 1) && !sampleOff (w 2) && !sampleOff (w 3) && decide (0 < vdc)
        && decide (signed 24 (getBits (s.rd (LD_BANK n (fin 2 (s.get (LD_STAT.BANK n))) 11)) 0 24) ≤ vdc))))

/-- LOOP_CLR_FAULT: accepted when the present block has no invalid sample and no FAULT, and then a loop in FAULT goes to WAIT; else
refused, in whatever state (R190, R192). The rules for samples do not apply to custom laws (R201). -/
def execLoopClrFault (n : Fin 256) (s : State) : Host.Outcome State Fault Refusal :=
  let l := s.loop n
  if s.standard n = false then .next s
  else if s.blockClean n = false then .next (s.flag (LD_STAT.CLR_REFUSED n))
  else if s.get (LD_STAT.STATE n) = 5 then
    .next ((s.put (LD_STAT.STATE n) 1).setLoop n { l with law := l.law.cleared, bad := 0, clip := 0, warn := 0, fault := 0, causeDue := none, tripWord := false, wordOf := none })
  else .next s

/-- The register a configuration write names. -/
def ldCfgReg (n : Fin 256) : LdCfg → Reg
  | .ctrl => LD_CTRL n | .port => LD_PORT n | .addr => LD_ADDR n | .ramp => LD_RAMP n | .dadj => LD_DADJ n | .eang => LD_EANG n
  | .eofs => LD_EOFS n | .supCfg => LD_SUP_CFG n | .supWarn => LD_SUP_WARN n | .supFault => LD_SUP_FAULT n | .wcet => LD_WCET n
  | .entry => LD_ENTRY n

/-- The bits of a descriptor register that a configuration write may change (R204, R205): of LD_CTRL all but EN and
CLR_FAULT, and LAW of the custom descriptors; LD_ADDR of those alone. -/
def ldCfgMask (n : Fin 256) : LdCfg → Word
  | .ctrl => if n.val < 128 then 0x1FFFE else 0x1FFFC
  | .addr => if n.val < 128 then 0 else 0xFFFFFFFF
  | r => (ldCfgReg n r).rwMask

/-- LD_CONFIG_WRITE: applied in DISABLED; elsewhere a write that would change something is ignored and sets CFG_REFUSED
(R204). -/
def execLdConfigWrite (n : Fin 256) (r : LdCfg) (v : Word) (s : State) : Host.Outcome State Fault Refusal :=
  let old := s.rd (ldCfgReg n r)
  let m := ldCfgMask n r
  let new := (old &&& ~~~m) ||| (v &&& m)
  if s.get (LD_STAT.STATE n) = 0 then .next (s.wr (ldCfgReg n r) new)
  else if new = old then .next s
  else .next (s.flag (LD_STAT.CFG_REFUSED n))

/-- The place address of a loop: the joint level address of its port, or what firmware has written for a custom loop (R165). -/
def State.loopAddr (s : State) (n : Fin 256) : Word := if n.val < 128 then s.jointAddr (fin 64 n.val) else s.rd (LD_ADDR n)

/-- The period number of a loop's present block. -/
def State.blockPeriod (s : State) (n : Fin 256) : Nat := getBits ((s.loop n).blk.getD 0 0) 0 16

/-- Edge words written by the tiles of both planes into their shadow banks and committed with a period number (R106, R170); legs that
are not given keep their words. -/
def State.postEdges (s : State) (n : Fin 64) (c : Nat) (words : List (Nat × Nat)) : State :=
  s.runPlanes.foldl (fun s pl =>
    let s := (legList.zip words).foldl (fun s (q : Fin 4 × (Nat × Nat)) =>
      (s.wr (EW_RISE n pl q.1) (BitVec.ofNat 32 q.2.1)).wr (EW_FALL n pl q.1) (BitVec.ofNat 32 q.2.2)) s
    s.commitEw n [pl] c) s

/-- What word 0 of a block takes from the port at the window edge of period k (R169, R171): APPLIED when the loop posts edge words and the
port's present frame carries those committed for period k - 1, and the port's state. -/
def State.blockHead (s : State) (n : Fin 256) (k : Nat) : Nat :=
  let p := s.loopPort n
  let applied := s.postsEdges n && decide (s.get (ACT_PERIOD.PERIOD p) = (k + 65535) % 65536) && !s.is (ACT_PERIOD.REPEATED p)
  (if applied then 2 ^ 16 else 0) + s.get (PWM_STAT.STATE p) * 2 ^ 20

/-- The sample block of a loop (R169), from the samples delivered for the present period and what the window edge has selected. DESIGN CHOICE
(log 61): the block of a custom loop 128 to 255 has zero references in words 9 and 10 and in words 11 to 14 its set-points, which are zero since
none is ever delivered to it; R169 speaks of current and motion loops only. -/
def State.sampleBlock (s : State) (n : Fin 256) : List Word :=
  let l := s.loop n
  let p := s.loopPort n
  let fb := s.loopFb n
  let cur := decide (n.val < 64)
  let w0 := (s.rd PERIOD_CNT).toNat % 2 ^ 16 + l.head + (if l.refLate then 2 ^ 17 else 0) + s.get (LD_STAT.BANK n) * 2 ^ 18
    + (if l.spLate then 2 ^ 19 else 0)
  let sx := fun (q : Nat) => wordOf (signed 24 q)
  let p80 : Fin 80 := fin 80 p.val
  let dc : Fin 80 := fin 80 (64 + p.val / 8)
  [BitVec.ofNat 32 w0, s.rd (SDF_SAMPLE_A p80), s.rd (SDF_SAMPLE_B p80), s.rd (SDF_SAMPLE_A dc),
   s.rd (FB_PSAMP_LO fb), s.rd (FB_PSAMP_HI fb), s.rd (FB_SPD_LO fb), s.rd (FB_SPD_HI fb), s.rd (FB_PSTAT fb),
   if cur then sx l.ref.1 else 0, if cur then sx l.ref.2 else 0,
   if cur then 0 else lo48 l.sp.1, if cur then 0 else hi48 l.sp.1,
   if cur then 0 else sx l.sp.2.1, if cur then 0 else sx l.sp.2.2, 0]

/-- Words put into an area of a loop's data in the memory of its tile, in both planes, from word k on (R169, R187). Areas: 0 sample block,
2 and 6 the copies of bank 0 and bank 1. -/
def State.toTile (s : State) (n : Fin 256) (area k : Nat) (ws : List Word) : State :=
  match (s.loop n).tile with
  | none => s
  | some (t, _) => s.runPlanes.foldl (fun s pl =>
      ws.zipIdx.foldl (fun s (q : Word × Nat) => s.mput (tileBase (tileOf pl t) + Config.areaOf n.val area + 4 * (k + q.2)) q.1) s) s

/-- The area of a bank's copy. -/
def bankArea (b : Fin 2) : Nat := if b = 0 then 2 else 6

/-- Both banks of a loop that has just been placed copied into its tile's memory (R187). -/
def State.banksToTile (s : State) (n : Fin 256) : State :=
  [(0 : Fin 2), 1].foldl (fun s b => s.toTile n (bankArea b) 0 (buildList (fun k => s.rd (LD_BANK n b (fin 64 k))) 64)) s

/-- What a law sees in one run. -/
def State.lawIn (s : State) (n : Fin 256) : LawIn :=
  let b : Fin 2 := fin 2 (s.get (LD_STAT.BANK n))
  { blk := (s.loop n).blk, bank := fun k => s.rd (LD_BANK n b (fin 64 k)), st := s.get (LD_STAT.STATE n), final := (s.loop n).final
    rampN := s.get ⟨LD_RAMP n, 0, 16⟩, len := s.period * s.loopEvery n, eang := (s.rd (LD_EANG n)).toNat, eofs := (s.rd (LD_EOFS n)).toNat
    din := signed 32 (s.rd (LD_DIN n)).toNat, dout := (s.rd (LD_DOUT n)).toNat, rel := s.get (LD_CTRL.REL n)
    velocity := s.is (LD_CTRL.STRUCT n), kPrime := (s.loopK n + s.loopEvery n - 1) / s.loopEvery n
    partner := (s.loop n).partner }

/-- The values a law shows in LD_S_M0 to LD_S_RES, and the period number (R204). -/
def State.showLaw (s : State) (n : Fin 256) (vals : List Rat) : State :=
  let s := ((finList 7).zip vals).foldl (fun s (q : Fin 7 × Rat) => s.wr (LD_S n (fin 8 q.1.val)) (BitVec.ofNat 32 (toQ q.2))) s
  s.wr (LD_S n 7) (BitVec.ofNat 32 (s.blockPeriod n))

/-- A residual as LD_RES_MAX holds it. -/
def resWord (r : Rat) : Nat := min 0xFFFFFF (toQ r)

/-- What the loop table counts of a run, with the warning and the fault that become due (R190, R193, R195, R196). A run that is
not compared clears both residual counts. -/
def LoopState.supervise (l : LoopState) (r : LawRun) (warn fault : Rat) (nWarn nFault badLim : Nat) : LoopState × Nat :=
  let bad := if r.invalid && r.judged then l.bad + 1 else 0
  let clip := if r.clip then l.clip + 1 else 0
  let w := match r.residual with | some x => if warn < x then l.warn + 1 else 0 | none => 0
  let f := match r.residual with | some x => if fault < x then l.fault + 1 else 0 | none => 0
  let cause := if r.fbFault then 3 else if badLim ≠ 0 ∧ bad = badLim then 2 else if badLim ≠ 0 ∧ clip = badLim then 4
    else if nFault ≠ 0 ∧ f = nFault then 1 else 0
  ({ l with
      bad := bad, clip := clip, warn := w, fault := f, warnDue := l.warnDue || (nWarn != 0 && w == nWarn)
      causeDue := if cause = 0 then l.causeDue else some cause }, cause)

/-- What every run of a standard law leaves in the loop table: counts, due warning and fault, state, shown values (R190, R195,
R204). The law posts float or zero from this run on when a fault reacts (R196); answers whether it does. -/
def State.lawDone (s : State) (n : Fin 256) (r : LawRun) (cycles : Nat) : State × Bool :=
  let l := { s.loop n with law := r.law }
  let (l, cause) := l.supervise r (ofQ (s.rd (LD_SUP_WARN n)).toNat) (ofQ (s.rd (LD_SUP_FAULT n)).toNat) (s.get (LD_SUP_CFG.N_WARN n))
    (s.get (LD_SUP_CFG.N_FAULT n)) (s.get (LD_SUP_CFG.BAD_LIM n))
  let react := s.get (LD_SUP_CFG.REACT n)
  let reacts := decide (cause ≠ 0 ∧ react ≠ 0)
  let l := { l with tripWord := l.tripWord || (decide (cause ≠ 0) && react == 2) }
  let l := if reacts then { l with law := l.law.floated } else l
  let l := if l.final then { l with final := false, tile := none } else l
  let s := ((s.setLoop n l).put (LD_STAT.STATE n) r.next).showLaw n r.shown
  let s := (s.count (LD_RUNS n)).wr (LD_CYC_MAX n) (BitVec.ofNat 32 (max (s.rd (LD_CYC_MAX n)).toNat cycles))
  let s := if r.invalid then s.bump (LD_BAD_CNT n) else s
  let s := match r.residual with
    | some x => s.wr (LD_RES_MAX n) (BitVec.ofNat 32 (max (s.rd (LD_RES_MAX n)).toNat (resWord x)))
    | none => s
  (s, reacts)

/-- Whether a loop's task is placed, so that it runs. -/
def State.placed (s : State) (n : Fin 256) : Bool := (s.loop n).tile.isSome

/-- CURRENT_LAW_RUN (R170 to R176, R190, R193 to R195). -/
def execCurrentLawRun (n : Fin 64) (s : State) : Host.Outcome State Fault Refusal :=
  let d := curLoop n
  if s.placed d && s.standard d then
    let i := s.lawIn d
    let r := currentLaw i (s.loop d).law
    let (s, reacts) := s.lawDone d r 410
    .next (s.postEdges (s.loopPort d) (getBits (i.w 0) 0 16) (if reacts then floatWords else r.words))
  else .next s

/-- Whether a motion loop of a port, whatever law it has, or another loop that posts references to the port's current loop is enabled, or not yet
disabled (R182). -/
def State.refOwner (s : State) (n : Fin 64) : Bool :=
  (finList 256).any (fun m => (decide (64 ≤ m.val ∧ m.val < 128) || s.postsRefs m) && s.loopPort m == n && (s.is (LD_CTRL.EN m) || s.get (LD_STAT.STATE m) != 0))

/-- How far a 16-bit period number lies behind the present period; none when it lies ahead (R180). -/
def State.behind (s : State) (c : Nat) : Option Nat :=
  let d := (s.periodNo + 65536 - c % 65536) % 65536
  if d < 32768 then some d else none

/-- A reference commit of the values in LD_REF_D and LD_REF_Q (R179, R180, R182). Of a loop's run begun at period B it is on
time up to the window edge of B + K; a direct one governs from the next run of the current loop. -/
def State.refCommit (s : State) (n : Fin 64) (src : Option (Fin 256)) (c : Nat) : State :=
  let d := curLoop n
  let l := s.loop d
  let v := ((s.rd (LD_REF_D d)).toNat, (s.rd (LD_REF_Q d)).toNat)
  match src, s.behind c with
  | _, none => s.flag (LD_STAT.CFG_REFUSED d)
  | none, some _ => if s.refOwner n then s.flag (LD_STAT.CFG_REFUSED d) else s.setLoop d { l with direct := some v }
  | some m, some b =>
    let due := s.periodNo - b + s.loopK m
    if due ≤ s.periodNo then s else s.setLoop d { l with refs := tset l.refs due v }

/-- LD_REF_COMMIT. -/
def execLdRefCommit (n : Fin 64) (src : Option (Fin 256)) (c : BitVec 16) (s : State) : Host.Outcome State Fault Refusal :=
  .next (s.refCommit n src c.toNat)

/-- A change of what the loop table keeps of the plane that is not active, while both run (15 R486). -/
def State.updOther (s : State) (n : Fin 256) (f : PlanePosts → PlanePosts) : State :=
  if s.runPlanes.length = 2 then { s with pc := { s.pc with others := tset s.pc.others n (f (tget s.pc.others n {})) } } else s

/-- A reference committed by that plane for a run of a loop begun at period c, kept when it is on time (15 R486; R180). -/
def State.otherRef (s : State) (n : Fin 256) (m : Fin 256) (c : Nat) : State :=
  match s.behind c with
  | none => s
  | some b =>
    let due := s.periodNo - b + s.loopK m
    if due ≤ s.periodNo then s else s.updOther n (fun x => { x with refs := tset x.refs due (x.d.toNat, x.q.toNat) })

/-- The loop tasks of the planes that run write a reference and its commit (R179; 15 R486). -/
def State.postRef (s : State) (m : Fin 256) (d q : Nat) : State :=
  let n := s.loopPort m
  if s.runPlanes.isEmpty then s
  else
    let c := curLoop n
    let s := (s.updOther c (fun x => { x with d := BitVec.ofNat 32 d, q := BitVec.ofNat 32 q })).otherRef c m (s.blockPeriod m)
    ((s.wr (LD_REF_D c) (BitVec.ofNat 32 d)).wr (LD_REF_Q c) (BitVec.ofNat 32 q)).refCommit n (some m) (s.blockPeriod m)

/-- MOTION_LAW_RUN (R177 to R179, R190, R193 to R195). -/
def execMotionLawRun (n : Fin 64) (s : State) : Host.Outcome State Fault Refusal :=
  let d := motLoop n
  if s.placed d && s.standard d then
    let i := s.lawIn d
    let r := motionLaw i (s.loop d).law
    let (s, reacts) := s.lawDone d r 282
    .next (if reacts then s.postRef d 0 0 else s.postRef d (toQ r.ref.1) (toQ r.ref.2))
  else .next s

/-- CUSTOM_LAW_RUN: the run of a custom law posts as LD_CTRL.OUT declares (R199 to R201); its code is run by the Ember commands. -/
def execCustomLawRun (n : Fin 256) (post : LawPost) (cycles : Nat) (s : State) : Host.Outcome State Fault Refusal :=
  if s.placed n && !s.standard n then
    let l := s.loop n
    let s := s.setLoop n (if l.final then { l with final := false, tile := none } else l)
    let s := s.put (LD_STAT.STATE n) (if l.final then 0 else 3)
    let s := (s.count (LD_RUNS n)).wr (LD_CYC_MAX n) (BitVec.ofNat 32 (max (s.rd (LD_CYC_MAX n)).toNat cycles))
    match post with
    | .edges w => .next (if s.postsEdges n then s.postEdges (s.loopPort n) (s.blockPeriod n) w else s)
    | .reference d q => .next (if s.postsRefs n then s.postRef n d.toNat q.toNat else s)
    | .nothing => .next s
  else .next s

/-- The next start of a loop's motion period (R181). -/
def State.nextStart (s : State) (n : Fin 256) : Nat := (s.periodNo / s.loopEvery n + 1) * s.loopEvery n

/-- LD_SP_COMMIT: recorded for the loop's next window edge; for the edge just passed it is late and discarded; any other period
is refused; the other descriptors take no set-points (R181). -/
def execLdSpCommit (n : Fin 256) (c : BitVec 16) (s : State) : Host.Outcome State Fault Refusal :=
  let l := s.loop n
  let k := s.nextStart n
  if n.val < 64 ∨ 128 ≤ n.val then .next s
  else if c.toNat = k % 65536 then
    .next (s.setLoop n { l with sps := tset l.sps k (s.rd48 (LD_SP_POS_LO n) (LD_SP_POS_HI n), (s.rd (LD_SP_VEL n)).toNat, (s.rd (LD_SP_TFF n)).toNat) })
  else if c.toNat = (k - s.loopEvery n) % 65536 then .next s
  else .next (s.flag (LD_STAT.CFG_REFUSED n))

/-- LD_SWAP_REQ: requests a bank swap, or is refused while one is pending (R186). -/
def execLdSwapReq (n : Fin 256) (s : State) : Host.Outcome State Fault Refusal :=
  .next (if s.is (LD_STAT.SWAP_PEND n) then s.flag (LD_STAT.SWAP_REFUSED n) else s.put (LD_STAT.SWAP_PEND n) 1)

/-- The kinds of coefficient word (R206). -/
inductive Coef where
  | scaled | frac | shift | unused
  deriving DecidableEq, Repr

/-- The kind of bank word k of a standard loop (R206). -/
def coefKind (current : Bool) (k : Nat) : Coef :=
  if 24 ≤ k then .unused
  else if 12 ≤ k ∧ k ≤ 21 then .frac
  else if current then (if k = 4 ∨ k = 5 ∨ k = 6 ∨ k = 11 then .frac else .scaled)
  else if k = 3 ∨ k = 4 ∨ k = 7 then .frac else if k = 8 ∨ k = 9 then .shift else if k = 10 ∨ k = 11 then .unused else .scaled

/-- An accepted bank write: stored, and copied into the memory of the loop's tile in both planes (R187). -/
def State.bankPut (s : State) (n : Fin 256) (b : Fin 2) (k : Fin 64) (v : Word) : State :=
  (s.wr (LD_BANK n b k) v).toTile n (bankArea b) k.val [v]

/-- LD_BANK_WRITE: a scaled coefficient with an exponent above 23 is ignored with CFG_REFUSED, a write to the active bank outside DISABLED
with BANK_REFUSED, and one that is both with both (R185, R206); every other write is accepted. -/
def execLdBankWrite (n : Fin 256) (b : Fin 2) (k : Fin 64) (v : Word) (s : State) : Host.Outcome State Fault Refusal :=
  let kind := coefKind (decide (n.val < 64)) k.val
  let std := s.standard n
  let bad := std && kind == .scaled && decide (23 < getBits v 24 5)
  let held := decide (s.get (LD_STAT.STATE n) ≠ 0 ∧ s.get (LD_STAT.BANK n) = b.val)
  let t := if bad then s.flag (LD_STAT.CFG_REFUSED n) else s
  if held then .next (t.flag (LD_STAT.BANK_REFUSED n))
  else if bad then .next t
  else if std then
    match kind with
    | .scaled => .next (s.bankPut n b k (v &&& 0x1FFFFFFF))
    | .frac => .next (s.bankPut n b k (v &&& 0x00FFFFFF))
    | .shift => .next (s.bankPut n b k (v &&& 0x3F))
    | .unused => .next s
  else .next (s.bankPut n b k v)

/-- LOOP_SUP_WARN: the residual has exceeded LD_SUP_WARN on N_WARN consecutive runs (R195). -/
def execLoopSupWarn (n : Fin 256) (s : State) : Host.Outcome State Fault Refusal :=
  .next (if (s.loop n).warnDue then (s.setLoop n { s.loop n with warnDue := false }).flag (LD_STAT.SUP_WARN n) else s)

/-- A fault declared (R196): flag, cause, count and record. -/
def State.declareFault (s : State) (n : Fin 256) (cause : Nat) : State :=
  let s := ((s.flag (LD_STAT.SUP_FAULT n)).put (LD_STAT.CAUSE n) cause).bump (LD_SUP_CNT n)
  s.post 0x0120 2 (s.loopAddr n) [BitVec.ofNat 8 (if 64 ≤ n.val then n.val - 64 else n.val), BitVec.ofNat 8 cause,
    BitVec.ofNat 8 (s.get (LD_SUP_CFG.REACT n)), if 64 ≤ n.val ∧ n.val < 128 then 1 else 0]

/-- The reaction to a fault (R196): REACT report keeps the state; otherwise FAULT, and the current loop of a motion loop
enters FAULT with cause PARTNER. A loop whose final run has left it in DISABLED stays there (R190). -/
def State.reactFault (s : State) (n : Fin 256) (cause : Nat) : State :=
  let s := s.declareFault n cause
  if s.get (LD_SUP_CFG.REACT n) = 0 ∨ s.get (LD_STAT.STATE n) = 0 then s
  else
    let s := s.put (LD_STAT.STATE n) 5
    let p := curLoop (s.loopPort n)
    if 64 ≤ n.val ∧ s.standard p ∧ s.get (LD_STAT.STATE p) ≠ 0 ∧ s.get (LD_STAT.STATE p) ≠ 5 then (s.declareFault p 5).put (LD_STAT.STATE p) 5 else s

/-- The fault that a run left due is declared when its cause is among those named (R190, R193, R196). -/
def State.dueFault (s : State) (n : Fin 256) (causes : List Nat) : State :=
  match (s.loop n).causeDue with
  | none => s
  | some c => if c ∈ causes then (s.setLoop n { s.loop n with causeDue := none }).reactFault n c else s

/-- LOOP_SUP_FAULT: a supervision fault with cause RESIDUAL, or FEEDBACK at once (R193, R195, R196). -/
def execLoopSupFault (n : Fin 256) (s : State) : Host.Outcome State Fault Refusal := .next (s.dueFault n [1, 3])

/-- LOOP_BAD_LIMIT: BAD_LIM consecutive invalid or clipped samples (R190, R193, R196). -/
def execLoopBadLimit (n : Fin 256) (s : State) : Host.Outcome State Fault Refusal := .next (s.dueFault n [2, 4])

/-- A value posted to the loop table by a plane, for the comparison of the period (15 R487). -/
def State.posted (s : State) (pl : Fin 2) (x : List Nat) : State :=
  { s with pc := { s.pc with cur := { s.pc.cur with posts := s.pc.cur.posts ++ [(pl, x)] } } }

/-- The loop table acts on a fault word: FORCE_TRIP of the port is set (R197). -/
def State.actOnWord (s : State) (n : Fin 256) : State :=
  (s.setLoop n { s.loop n with tripWord := false, wordOf := none }).forceTrip (s.loopPort n)

/-- LOOP_FAULT_WORD: the loop table acts on the fault word of the active plane alone; that of the other plane is kept (R197; 15 R486). -/
def execLoopFaultWord (n : Fin 256) (plane : Fin 2) (s : State) : Host.Outcome State Fault Refusal :=
  let s := s.posted plane [n.val, 0]
  if (s.loop n).tripWord = false then .next s
  else if plane = s.activePlane then .next (s.actOnWord n)
  else .next (s.setLoop n { s.loop n with wordOf := some plane })

/-- The loop table acts on plane p from now on (15 R486): references and set-points of the former plane that are committed and not
delivered are discarded, as are its uncommitted values, for those of plane p, and a fault word of plane p is acted on. -/
def State.loopTableOf (s : State) (p : Fin 2) : State :=
  let k := s.periodNo
  let ns := (s.loops.map (fun (q : Fin 256 × LoopState) => q.1) ++ s.pc.others.map (fun (q : Fin 256 × PlanePosts) => q.1)).dedup
  ns.foldl (fun s n =>
    let l := s.loop n
    let x := tget s.pc.others n {}
    let known := s.pc.others.any (fun (q : Fin 256 × PlanePosts) => q.1 == n)
    let y : PlanePosts := { d := s.rd (LD_REF_D n), q := s.rd (LD_REF_Q n), lo := s.rd (LD_SP_POS_LO n), hi := s.rd (LD_SP_POS_HI n)
                            vel := s.rd (LD_SP_VEL n), tff := s.rd (LD_SP_TFF n), refs := l.refs, sps := l.sps }
    let s := { s with pc := { s.pc with others := tset s.pc.others n y } }
    let s := if known then (((((s.wr (LD_REF_D n) x.d).wr (LD_REF_Q n) x.q).wr (LD_SP_POS_LO n) x.lo).wr (LD_SP_POS_HI n) x.hi).wr (LD_SP_VEL n) x.vel).wr (LD_SP_TFF n) x.tff
      else s
    let s := s.setLoop n { l with refs := x.refs.filter (fun (q : Nat × Nat × Nat) => decide (k < q.1))
                                  sps := x.sps.filter (fun (q : Nat × Int × Nat × Nat) => decide (k < q.1)) }
    if l.tripWord ∧ l.wordOf = some p then s.actOnWord n else s) s

/-- LAW_WCET_EXCEED: a custom law passes LD_WCET cycles (R201). -/
def execLawWcetExceed (n : Fin 256) (cycles : Nat) (s : State) : Host.Outcome State Fault Refusal :=
  if s.standard n = false ∧ (s.rd (LD_WCET n)).toNat < cycles then
    .next (((s.flag (LD_STAT.WCET_EXCEED n)).mishap [2, 3]).post 0x0121 1 (s.loopAddr n) ([BitVec.ofNat 8 n.val, 0] ++ leBytes 2 cycles))
  else .next s

/-- What a window edge k does to the reference of a current loop (R179, R180, R182): a direct reference governs; of a run whose
reference is due, the one on time governs, else the loop keeps the previous one with REF_LATE. -/
def State.selectRef (s : State) (n : Fin 64) (k : Nat) : State :=
  let d := curLoop n
  let l := s.loop d
  let l := match l.direct with | some v => { l with ref := v, direct := none } | none => l
  let late := { l with due := l.due.filter (fun (q : Nat × Fin 256) => k < q.1), refs := l.refs.filter (fun (q : Nat × (Nat × Nat)) => k < q.1) }
  match l.due.find? (fun (q : Nat × Fin 256) => q.1 == k), l.refs.find? (fun (q : Nat × (Nat × Nat)) => q.1 == k) with
  | none, _ => s.setLoop d { late with refLate := false }
  | some _, some (_, v) => s.setLoop d { late with ref := v, refLate := false }
  | some (_, m), none => ((s.setLoop d { late with refLate := true }).flag (LD_STAT.REF_LATE m)).bump (LD_OVR m) |>.mishap [2, 3]

/-- The set-points a window edge k delivers to a motion loop (R181): those committed for it, else the previous ones with the
position advanced and limited, late. -/
def State.deliverSp (s : State) (n : Fin 256) (k : Nat) : State :=
  let l := s.loop n
  let rest := { l with sps := l.sps.filter (fun (q : Nat × (Int × Nat × Nat)) => k < q.1) }
  match l.sps.find? (fun (q : Nat × (Int × Nat × Nat)) => q.1 == k) with
  | some (_, v) => s.setLoop n { rest with sp := v, spLate := false }
  | none =>
    let (pos, vel, tff) := l.sp
    let sh := getBits (s.rd (LD_BANK n (fin 2 (s.get (LD_STAT.BANK n))) 9)) 0 6
    let adv := roundAway (signed 24 vel * (2 ^ sh * (s.period * s.loopEvery n) : Nat)) 65536000000000
    let u := s.fb (s.loopFb n)
    let s := s.setLoop n { rest with sp := (clampInt u.lo u.hi (pos + adv), vel, tff), spLate := true }
    ((s.flag (LD_STAT.SP_LATE n)).bump (LD_OVR n)).mishap [2, 3]

/-- A pending bank swap taken at a window edge at which the loop runs (R186). -/
def State.swapBank (s : State) (n : Fin 256) : State :=
  if s.is (LD_STAT.SWAP_PEND n) then (s.put (LD_STAT.SWAP_PEND n) 0).put (LD_STAT.BANK n) (1 - s.get (LD_STAT.BANK n)) else s

/-- Whether a loop runs in period k (R177). -/
def State.loopRunsAt (s : State) (n : Fin 256) (k : Nat) : Bool :=
  match (s.loop n).tile with
  | some (_, first) => decide (first ≤ k) && decide (k % s.loopEvery n = 0)
  | none => false

/-- What a window edge k does for a loop (R131, R169, R179, R181, R186, R190): LD_DIN for a new M, swap, set-points, what the block takes from
the port, the state of the own current loop, and the period at which the reference of the run that begins is due. -/
def State.loopEdge (s : State) (n : Fin 256) (k : Nat) : State :=
  let s := if s.is (LD_CTRL.EN n) && (s.filter (fin 80 (s.loopPort n).val)).newM then s.loopDin n else s
  if s.loopRunsAt n k then
    let s := s.swapBank n
    let s := if 64 ≤ n.val ∧ n.val < 128 then s.deliverSp n k else s
    let s := s.setLoop n { s.loop n with head := s.blockHead n k, partner := s.get (LD_STAT.STATE (curLoop (s.loopPort n))) }
    if s.postsRefs n then
      let d := curLoop (s.loopPort n)
      s.setLoop d { s.loop d with due := (s.loop d).due ++ [(k + s.loopK n, n)] }
    else s
  else s

/-- The sample block of every loop that runs in the present period delivered to its tile (R169). -/
def State.deliverBlocks (s : State) : State :=
  (finList 256).foldl (fun s n =>
    if s.loopRunsAt n s.periodNo then
      let b := s.sampleBlock n
      (s.setLoop n { s.loop n with blk := b }).toTile n 0 0 b
    else s) s

/-- SAMPLE_DELIVERY: 40 port cycles after the port edge at or after the window edge, the filters and the feedback units deliver, and the
loop table passes the samples on in the sample blocks of the loops that run (R133, R153; 05 R169). -/
def execSampleDelivery (bits : List ((Fin 80 × Bool) × List Bool)) (s : State) : Host.Outcome State Fault Refusal :=
  let w := s.boundary s.periodNo
  let s := (s.advance (ceilTo portUnits w + 40 * portUnits)).deliverFilters bits w
  .next ((finList 64).foldl State.deliverFb s).deliverBlocks

/-- The loop table at window edge k. -/
def State.loopTableEdge (s : State) (k : Nat) : State :=
  (finList 256).foldl (fun s n => s.loopEdge n k) ((finList 64).foldl (fun s n => s.selectRef n k) s)

/-- A restart of the period sequencer discards references and set-points that are committed and not yet used, and the loops' periods count
from the new period 0 (R34, R35). -/
def State.loopsRestart (s : State) : State :=
  { s with loops := s.loops.map (fun (q : Fin 256 × LoopState) => (q.1, { q.2 with
      tile := q.2.tile.map (fun (t : Fin 16 × Nat) => (t.1, t.2 - s.seq.next)), due := [], refs := [], direct := none, sps := [], refLate := false }))
           pc := { s.pc with others := s.pc.others.map (fun (q : Fin 256 × PlanePosts) => (q.1, { q.2 with refs := [], sps := [] })) } }

end Sys2Proof.Machine
end

