-- ==== Sys2Proof/Machine/IcBase.lean ====
section
/-! DEFINITION. Sources, targets, pending bits, claims and redirect timers of the interrupt controller (11 R364 to R378). -/

namespace Sys2Proof.Machine

open Sys2Proof

/-- The bit of a source in a register of 32 sources. -/
def srcBit (f : Fin 16 → Reg) (n : Fin 512) : Field := ⟨f (fin 16 (n.val / 32)), n.val % 32, 1⟩

/-- A source raised by an event that leaves no flag: its level stands until its filter has passed it (14 R482, 15 R488; DESIGN CHOICE, log
47). -/
def State.raise (s : State) (n : Nat) : State :=
  let k : Fin 512 := fin 512 n
  if k ∈ s.ic.pulses then s else { s with ic := { s.ic with pulses := s.ic.pulses ++ [k] } }

/-- Whether a source is pending, its filtered level, whether it is claimed (R366, R367, R368). -/
def icPend (n : Fin 512) : Field := srcBit (fun w => IC_PEND w) n
/-- See `icPend`. -/
def icLive (n : Fin 512) : Field := srcBit (fun w => IC_LIVE w) n
/-- See `icPend`. -/
def icClaimed (n : Fin 512) : Field := srcBit (fun w => IC_CLAIMED w) n

/-- A source is pending while its filtered level is active and it is not claimed, when it is a level source; the reserved
sources never are (R364, R366). An edge source keeps its pending bit. -/
def State.icRefresh (s : State) (n : Fin 512) : State :=
  if 430 ≤ n.val ∧ n.val < 448 then s.put (icPend n) 0
  else if s.is (IC_SRC_CFG.EDGE n) then s
  else s.putB (icPend n) (s.is (icLive n) && !s.is (icClaimed n))

/-- The source that a target has claimed. -/
def State.icSource (s : State) (t : Fin 64) : Fin 512 := fin 512 (s.get (IC_CLAIM.SRC t))

/-- The target a source names: a tile pair by the tile of its task, Hearth, a host vector, or none (R382, R383). -/
def State.icTarget (s : State) (n : Fin 512) : Option (Fin 64) :=
  let t := s.get (IC_SRC_CFG.TARGET n)
  match s.get (IC_SRC_CFG.TKIND n) with
  | 0 => none
  | 1 => some 16
  | 2 => some (fin 64 (32 + t % 32))
  | _ => some (fin 64 (s.get (STK_TS0.TILE (fin 4096 t))))

/-- Whether the mask bit of a host vector is set in the MSI-X table (16 R507). -/
def State.vectorMasked (s : State) (v : Nat) : Bool := (s.rd (HM_MSIX_TABLE (fin 128 (4 * v + 3)))).getLsbD 0

/-- Whether a host vector can be sent its message: link up, bus mastering enabled, MSI-X enabled, function and vector unmasked (R370). -/
def State.vectorReady (s : State) (v : Nat) : Bool :=
  s.ic.linkUp && (s.rd HM_PCI_CMD).getLsbD 2 && (s.rd HM_PCI_MSIX).getLsbD 15 && !(s.rd HM_PCI_MSIX).getLsbD 14 && !s.vectorMasked v

/-- Whether a source's target is asleep, which one that holds a claim is not, and whether it is ready apart from a claim it holds (R370). -/
def State.icAsleep (s : State) (n : Fin 512) : Bool :=
  match s.icTarget n with
  | none => false
  | some t => !s.is (IC_CLAIM.VALID t) && match s.get (IC_SRC_CFG.TKIND n) with
    | 1 => s.ic.hearthWaits
    | 2 => !s.vectorReady (s.get (IC_SRC_CFG.TARGET n) % 32)
    | _ => s.get (STK_TS0.STATE (fin 4096 (s.get (IC_SRC_CFG.TARGET n)))) != 6
/-- See `State.icAsleep`. -/
def State.icReady (s : State) (n : Fin 512) : Bool :=
  match s.get (IC_SRC_CFG.TKIND n) with
  | 0 => false
  | 1 => !s.ic.hearthWaits && s.is HM_STAT.HEARTH_UP
  | 2 => s.vectorReady (s.get (IC_SRC_CFG.TARGET n) % 32)
  | _ =>
    let m : Fin 4096 := fin 4096 (s.get (IC_SRC_CFG.TARGET n))
    let x := s.tile (tileOf s.activePlane (fin 16 (s.get (STK_TS0.TILE m))))
    x.task == some m && x.sr.getLsbD 6

/-- Whether a group's hold-off timer runs (R374). -/
def State.heldOff (s : State) (n : Fin 512) : Bool := s.is (IC_GRP_HOLD.RUNNING (fin 16 (s.get (IC_SRC_CFG.GROUP n))))

/-- Whether a source waits for delivery: pending, enabled, not claimed, not held off (R368). -/
def State.icWaits (s : State) (n : Fin 512) : Bool :=
  s.is (icPend n) && s.is (IC_SRC_CFG.EN n) && !s.is (icClaimed n) && !s.heldOff n

/-- The target whose REDIR limits the redirect timer of a source, while that runs: the source waits and its target is asleep or busy (R377). -/
def State.redirects (s : State) (n : Fin 512) : Option (Fin 64) :=
  match s.icTarget n with
  | some t => if t ≠ 16 ∧ s.icWaits n ∧ (s.icAsleep n ∨ s.is (IC_CLAIM.VALID t)) then some t else none
  | none => none

/-- The pending sources. -/
def State.icPendings (s : State) : List (Fin 512) :=
  (finList 16).flatMap (fun w =>
    let v := s.rd (IC_PEND w)
    if v = 0 then [] else (finList 32).filterMap (fun b => if v.getLsbD b.val then some (fin 512 (32 * w.val + b.val)) else none))

/-- The redirect timer of a source, which has kept a time and runs since an instant or pauses, as it is from now on (R377). -/
def State.icTimer (s : State) (n : Fin 512) : Nat × Option Time :=
  let q := tget s.ic.timers n (0, none)
  if (s.redirects n).isSome then (q.1, some (q.2.getD s.now))
  else (q.1 + (q.2.map (fun (t : Time) => s.now - t)).getD 0, none)

/-- The redirect timers follow what the sources wait for; that of a source no longer pending is back at zero (R377). -/
def State.icTimers (s : State) : State :=
  { s with ic := { s.ic with timers := s.icPendings.map (fun (n : Fin 512) => (n, s.icTimer n)) } }

/-- What a tile did with its claim, kept until the other plane's tile of its position has done the same within 64 fabric cycles (R378). -/
def State.noteIc (s : State) (t : Fin 32) (done : Bool) (src : Nat) : State :=
  if s.runPlanes.length = 2 then
    let mine := (planeOf t, tileNo t)
    let theirs := (1 - planeOf t, tileNo t)
    match tget s.ic.marks theirs [] with
    | m :: rest =>
      if m.done = done ∧ m.src = src ∧ (m.told ∨ s.now ≤ m.time + 64 * nsUnits) then
        { s with ic := { s.ic with marks := tset s.ic.marks theirs rest } }
      else { s with ic := { s.ic with marks := tset s.ic.marks mine (tget s.ic.marks mine [] ++ [⟨done, src, s.now, false⟩]) } }
    | [] => { s with ic := { s.ic with marks := tset s.ic.marks mine (tget s.ic.marks mine [] ++ [⟨done, src, s.now, false⟩]) } }
  else s

/-- Nothing is compared any more: one plane alone runs, or control has changed (R378). -/
def State.icUnmark (s : State) : State := { s with ic := { s.ic with marks := [] } }

/-- A target's claim completed: the source is evaluated again (R372). -/
def State.icFree (s : State) (t : Fin 64) : State :=
  let n := s.icSource t
  ((((s.wr (IC_CLAIM t) 0).put (IC_TGT.CLAIMED t) 0).put (icClaimed n) 0).icRefresh n).icTimers

/-- A target's claim taken up: the filtered level is recorded, and a level source that is inactive counts as spurious (R369). -/
def State.icTakeUp (s : State) (t : Fin 64) : State :=
  let n := s.icSource t
  let live := s.is (icLive n)
  let s := (s.put (IC_CLAIM.TAKEN t) 1).putB (IC_CLAIM.LIVE_AT_TAKE t) live
  if live || s.is (IC_SRC_CFG.EDGE n) then s else s.bump IC_SPURIOUS

end Sys2Proof.Machine
end

