-- ==== Sys2Proof/Machine/Tile.lean ====
section
/-! DEFINITION. How an Ember tile issues an instruction: the gate before it, the pipeline's writes, repeats, delay slots, memory
accesses and faults (08 R281, R289 to R301). -/

namespace Sys2Proof.Machine

open Sys2Proof

/-- The bits of sr that a write reaches (R285): MX and the reserved bits keep their values. -/
def srMask : Word := 0x777

/-- A control register given a value: tr, lr, ipc, isr, ivec and mxio can be written (R284, R321). -/
def Tile.putCtl (x : Tile) (n : Fin 16) (v : Word) : Tile :=
  if n = 1 then { x with tr := v }
  else if n = 2 then { x with lr := v }
  else if n = 3 then { x with ipc := v }
  else if n = 4 then { x with isr := v }
  else if n = 6 then { x with ivec := v &&& 0xFFFFFFFC }
  else if n = 9 then { x with mxio := v }
  else x

/-- Bits of sr replaced under a mask. -/
def Tile.putSr (x : Tile) (mask v : Word) : Tile := { x with sr := (x.sr &&& ~~~mask) ||| (v &&& mask) }

/-- One bit of sr given a value. -/
def Tile.srBit (x : Tile) (k : Nat) (b : Bool) : Tile := { x with sr := putBits x.sr k 1 (if b then 1 else 0) }

/-- A write taking effect. An accumulation reads its accumulator now (R327). -/
def Tile.put (x : Tile) : EWrite → Tile
  | .d n v => { x with d := tset x.d n v }
  | .a n v => { x with a := tset x.a n v }
  | .p n v => { x with p := tset x.p n v }
  | .b n v => { x with b := tset x.b n v }
  | .l n v => { x with l := tset x.l n v }
  | .m n v => { x with m := tset x.m n v }
  | .ctl n v => x.putCtl n v
  | .sr k v => x.putSr k v
  | .z b => x.srBit 0 b
  | .n b => x.srBit 1 b
  | .c b => x.srBit 2 b
  | .v => x.srBit 4 true
  | .s => x.srBit 5 true
  | .acc n k sat =>
    let r := narrow 56 sat ((x.ra n).toInt + k)
    let x := { x with a := tset x.a n r.1 }
    if r.2 then x.srBit (if sat then 5 else 4) true else x

/-- Whether a write is a write to sr as a whole: of the writes of one cycle it is stored first (R313). -/
def EWrite.isSr : EWrite → Bool
  | .sr _ _ => true
  | _ => false

/-- The writes due by a cycle take effect, in issue order (R291, R313). -/
def Tile.apply (x : Tile) (c : Nat) : Tile :=
  let due := x.pend.filter (fun (q : Nat × EWrite) => q.1 ≤ c)
  let ws := (due.filter (fun (q : Nat × EWrite) => q.2.isSr)) ++ (due.filter (fun (q : Nat × EWrite) => !q.2.isSr))
  ws.foldl (fun x (q : Nat × EWrite) => x.put q.2) { x with pend := x.pend.filter (fun (q : Nat × EWrite) => c < q.1) }

/-- One Ember cycle of the pipeline. -/
def Tile.tick (x : Tile) : Tile := { x with cyc := x.cyc + 1, tcyc := x.tcyc + 1 }.apply (x.cyc + 1)

/-- The issued instructions complete their stages (R296, R299). -/
def Tile.flush (x : Tile) : Tile := { ((x.apply (x.cyc + 1)).apply (x.cyc + 2)).apply (x.cyc + 3) with pend := [] }

/-- Writes put into the pipeline, each with its latency. -/
def Tile.queue (x : Tile) (ws : List (Nat × EWrite)) : Tile :=
  { x with pend := x.pend ++ ws.map (fun (q : Nat × EWrite) => (x.cyc + q.1, q.2)) }

/-- The same on the state. -/
def State.queue (s : State) (t : Fin 32) (ws : List (Nat × EWrite)) : State := s.setTile t ((s.tile t).queue ws)

/-- A delivery to the tile that has not been accepted is returned; the controller acts on the active plane's (R373, R378). -/
def State.returnDelivery (s : State) (t : Fin 32) : State :=
  match (s.tile t).req with
  | none => s
  | some _ =>
    let s := s.setTile t { s.tile t with req := none }
    if planeOf t = s.activePlane then s.icFree (fin 64 (tileNo t).val) else s

/-- Whether a task is time-triggered by number: loop tasks and interpolators; a BIST task is when the tile's table holds another
task (R345, R491). -/
def State.loopOrInterp (n : Fin 4096) : Bool := decide (n.val < 256) || decide (257 ≤ n.val ∧ n.val < 265)
/-- See `State.loopOrInterp`. -/
def State.onTable (s : State) (t : Fin 16) : Bool :=
  s.regs.any (fun (q : Reg × Word) => match q.1 with
    | .stk (.STK_TS0 n) => State.loopOrInterp n && getBits q.2 0 5 == t.val + 16
    | _ => false)
/-- See `State.loopOrInterp`. -/
def State.timeTriggered (s : State) (n : Fin 4096) : Bool :=
  State.loopOrInterp n || (decide (265 ≤ n.val ∧ n.val < 281) && s.onTable (fin 16 (n.val - 265)))

/-- The bytes of the instruction that stands in program memory at an address, by bit X of a native one (09 R306) and by the group of an
MX-16 one (09 R332). -/
def State.instrBytes (s : State) (t : Fin 32) (mx : Bool) (a : Nat) : Nat :=
  if mx then
    let w := (s.tword t (a / 4 * 4)).toNat / 2 ^ (8 * (a % 4)) % 65536
    let g := w / 4096
    if g = 2 ∨ g = 3 ∨ g = 6 ∨ (g = 10 ∧ w / 1024 % 4 = 0) then 4 else 2
  else if (s.tword t a).getLsbD 26 then 8 else 4

/-- The address behind some instructions from an address on. -/
def State.afterSlots (s : State) (t : Fin 32) (mx : Bool) : Nat → Nat → Nat
  | 0, a => a
  | n + 1, a => s.afterSlots t mx n (a + s.instrBytes t mx a)

/-- A call that has issued writes lr, also when a fault ends the task in its delay slots (R299; 09 R315). -/
def State.linked (s : State) (t : Fin 32) (x : Tile) : Tile :=
  match x.br with
  | some b => match b.link with
    | some one => { x with lr := BitVec.ofNat 32 (s.afterSlots t x.mxMode b.left x.pc + one.toNat) }
    | none => x
  | none => x

/-- The run of the present task ends: the issued instructions complete, and Stack is to be told (R299, R301). An access that has issued and
for which the tile is frozen completes first: the end waits for it, the first of several. Stack itself makes a budget stop and is not told
of it (10 R347). The cycles of a queued run are counted at its end (10 R360; log 54). -/
def State.endRun (s : State) (t : Fin 32) (k : EndKind) : State :=
  let x := s.linked t (s.tile t).flush
  match x.task, (s.tile t).wait with
  | none, _ => s
  | some _, some _ => s.setTile t { s.tile t with ending := some ((s.tile t).ending.getD k) }
  | some n, none =>
    (s.setTile t { x with task := none, br := none, rep := none, wait := none, ends := if k = .budget then x.ends else x.ends ++ [(n, k)]
                          qcyc := if s.timeTriggered n then x.qcyc else x.qcyc + x.tcyc.toNat }).returnDelivery t

/-- A fault of R299 at an address. -/
def State.tileFault (s : State) (t : Fin 32) (code addr : Nat) : State := s.endRun t (.fault code addr)

/-- The fault of a fetch address (R282, R299, R317): outside program memory, or not aligned. -/
def targetFault (mx : Bool) (a : Nat) : Option Nat :=
  if a < 0x40000 ∨ 0x50000 ≤ a then some 4
  else if a % (if mx then 2 else 4) ≠ 0 then some 3
  else none

/-- The fault of the fetch of an instruction of a size (R282, R299): of its address, of an end outside program memory, of an uncorrectable
error in one of its words. -/
def Tile.fetchFault (x : Tile) (size : Nat) : Option Nat :=
  match targetFault x.mxMode x.pc with
  | some c => some c
  | none =>
    if 0x50000 < x.pc + size then some 4
    else if (List.range size).any (fun i => decide ((x.pc + i) / 4 * 4 ∈ x.bad)) then some 5
    else none

/-- The gate before an instruction issues: the tile runs a task and is not frozen; its fetch has no fault; the instruction belongs to the
mode the tile is in (R305); one that may not stand in a delay slot nor follow rpt does not (R292). -/
def State.gate (s : State) (t : Fin 32) (mx forb : Bool) (size : Nat) (k : State → State) : State :=
  let x := s.tile t
  match x.task, x.wait with
  | some _, none =>
    match x.fetchFault size with
    | some c => s.tileFault t c x.pc
    | none =>
      if x.mxMode ≠ mx then s.tileFault t 1 x.pc
      else if forb && (x.br.isSome || x.rep.isSome) then s.tileFault t 2 x.pc
      else k s
  | _, _ => s

/-- The delay slots of a branch have issued: lr is linked, and the target or the following instruction is next (R292, R297,
R305, R315). -/
def State.land (s : State) (t : Fin 32) (b : Branch) (after : Nat) : State :=
  let x := { s.tile t with br := none, pc := after }
  let x := match b.link with
    | some one => { x with lr := BitVec.ofNat 32 (after + one.toNat) }
    | none => x
  match b.target with
  | none => s.setTile t x
  | some a =>
    let x := if b.reti then { x with sr := x.isr &&& 0x7F7 } else x.srBit 7 b.toMx
    let s := s.setTile t { x with pc := a }
    match targetFault x.mxMode a with
    | some c => s.tileFault t c a
    | none => s

/-- The next instruction after one of a size, when br was the branch in whose slots it stood. -/
def State.advanceTile (s : State) (t : Fin 32) (size : Nat) (br : Option Branch) : State :=
  let x := s.tile t
  match br with
  | none => s.setTile t { x with pc := x.pc + size }
  | some b =>
    if b.left ≤ 1 then s.land t b (x.pc + size)
    else s.setTile t { x with pc := x.pc + size, br := some { b with left := b.left - 1 } }

/-- The pipeline of a tile moved on by some cycles. -/
def State.ticks (s : State) (t : Fin 32) (n : Nat) : State := s.setTile t (iter Tile.tick n (s.tile t))

/-- The n + 1 issues of an instruction (R294); a freeze suspends them with the rest left, a fault ends them. -/
def State.runN (t : Fin 32) (size cycles : Nat) (br : Option Branch) (f : State → State) : Nat → State → State
  | 0, s =>
    let s := f (s.setTile t { s.tile t with rep := none })
    if (s.tile t).task.isNone then s
    else
      let s := s.advanceTile t size br
      if (s.tile t).wait.isSome then s else s.ticks t cycles
  | n + 1, s =>
    let s := f (s.setTile t { s.tile t with rep := some (n + 1) })
    if (s.tile t).task.isNone || (s.tile t).wait.isSome then s
    else (s.ticks t cycles).runN t size cycles br f n
termination_by structural n => n

/-- An instruction of a size in bytes and a count of cycles issues, with the effect f. -/
def State.issue (s : State) (t : Fin 32) (mx forb : Bool) (size cycles : Nat) (f : State → State) : State :=
  s.gate t mx forb size (fun s => State.runN t size cycles (s.tile t).br f (((s.tile t).rep.getD 1) - 1) s)

/-- A native instruction of one base word that writes registers through the pipeline. -/
def State.native (s : State) (t : Fin 32) (size : Nat) (ws : Tile → List (Nat × EWrite)) : State :=
  s.issue t false false size 1 (fun s => s.queue t (ws (s.tile t)))

/-- A native instruction forbidden by R292 in a delay slot and after rpt. -/
def State.nativeCtl (s : State) (t : Fin 32) (f : Tile → Tile) : State :=
  s.issue t false true 4 1 (fun s => s.setTile t (f (s.tile t)))

/-- An operand field the instruction set reserves: the illegal-instruction fault (R307). -/
def State.illegalIf (bad : Bool) (t : Fin 32) (f : State → State) (s : State) : State :=
  if bad then s.tileFault t 1 (s.tile t).pc else f s

/-- A read of memory operands: faults first, then the freeze of an outside access, or the writes with the words (R281, R299). -/
def State.access (s : State) (t : Fin 32) (lat : Nat) (act : MemAct) (x : Addr) (nx : Nat) (y : Option (Addr × Nat)) : State :=
  let tl := s.tile t
  let fx := tl.accessFault x nx true
  let fy := match y with | some (a, n) => tl.accessFault a n true | none => none
  match fx, fy with
  | some c, _ => s.tileFault t c tl.pc
  | none, some c => s.tileFault t c tl.pc
  | none, none =>
    let ox := s.opnd t x nx
    let oy := match y with | some (a, n) => s.opnd t a n | none => .words []
    let upd := x.writes ++ (match y with | some (a, _) => a.writes | none => [])
    let s := s.queue t upd
    match ox, oy with
    | .words xs, .words ys => s.queue t (act.writes tl lat xs ys)
    | _, _ => s.setTile t { s.tile t with wait := some (.load tl.pc lat act ox oy) }

/-- A store of words: into tile memory at once, or posted to the outside store queue, freezing the tile while that holds eight
entries (R280, R281). A store clears an uncorrectable error of the words it writes. -/
def State.storeWords (s : State) (t : Fin 32) (a : Addr) (ws : List Word) : State :=
  let tl := s.tile t
  match tl.accessFault a ws.length false with
  | some c => s.tileFault t c tl.pc
  | none =>
    let s := s.queue t a.writes
    let tl := s.tile t
    if 0x10000000 ≤ a.at_.toNat then
      let q : OutStore := { pc := tl.pc, task := tl.task, addr := a.at_.toNat, words := ws }
      if tl.stores.length < 8 then s.setTile t { tl with stores := tl.stores ++ [q] }
      else s.setTile t { tl with wait := some (.store q), frozen := s.now }
    else
      let qs := tl.wordAddrs a ws.length
      let s := s.setTile t { tl with bad := tl.bad.filter (fun q => decide (q ∉ qs)) }
      let put := fun (s : State) (i : Fin 32) => (qs.zip ws).foldl (fun s (q : Nat × Word) => s.mput (tileBase i + q.1) q.2) s
      let s := put s t
      let u := tileOf (1 - planeOf t) (tileNo t)
      if s.mirrored (planeOf t) then put (s.setTile u { s.tile u with bad := (s.tile u).bad.filter (fun q => decide (q ∉ qs)) }) u else s

/-- A frozen tile resumes: the frozen cycles add to its count, and the instruction takes its cycle (R281); an end of the run that waited
for it follows (R299). -/
def State.resume (s : State) (t : Fin 32) (cycles : Nat) : State :=
  let s := (s.setTile t { s.tile t with wait := none, tcyc := (s.tile t).tcyc + BitVec.ofNat 32 cycles }).ticks t 1
  match (s.tile t).ending with
  | some k => (s.setTile t { s.tile t with ending := none }).endRun t k
  | none => s

/-- A frozen tile's store takes the place that has become free, and the tile resumes (R281). -/
def State.takeStore (s : State) (t : Fin 32) (cycles : Nat) : State :=
  match (s.tile t).wait with
  | some (.store q) => (s.setTile t { s.tile t with stores := (s.tile t).stores ++ [q] }).resume t cycles
  | _ => s

end Sys2Proof.Machine
end

