-- ==== Sys2Proof/Machine/StackBase.lean ====
section
/-! DEFINITION. The task and buffer stores of Stack and the start of a slotted task (10 R333 to R339, R349; 08 R300). -/

namespace Sys2Proof.Machine

open Sys2Proof

/-- Stack's record of a task. -/
def State.taskRec (s : State) (n : Fin 4096) : TaskRec := tget s.stk.tasks n {}
/-- See `State.taskRec`. -/
def State.setTask (s : State) (n : Fin 4096) (r : TaskRec) : State := { s with stk := { s.stk with tasks := tset s.stk.tasks n r } }
/-- Stack's record of a buffer. The handles 0 to 1,023 belong to the system; which of them are defined, and with what descriptors, is the
device's (R337; log 27). They are hot. -/
def State.bufRec (s : State) (h : Fin 8192) : BufRec := tget s.stk.bufs h (if h.val < 1024 then { desc := Config.sysBuf h.val } else {})
/-- See `State.bufRec`. -/
def State.setBuf (s : State) (h : Fin 8192) (r : BufRec) : State := { s with stk := { s.stk with bufs := tset s.stk.bufs h r } }

/-- A bit field of a descriptor: word, lowest bit, width. -/
def descGet (d : List Word) (w lo n : Nat) : Nat := getBits (d.getD w 0) lo n

/-- The fields of a task descriptor (R334). -/
def TaskRec.kind (r : TaskRec) : Nat := descGet r.desc 1 0 8
/-- See `TaskRec.kind`. -/
def TaskRec.cls (r : TaskRec) : Nat := descGet r.desc 1 8 8
/-- See `TaskRec.kind`. -/
def TaskRec.queue (r : TaskRec) : Nat := descGet r.desc 1 16 8
/-- See `TaskRec.kind`. -/
def TaskRec.flags (r : TaskRec) : Nat := descGet r.desc 1 24 8
/-- See `TaskRec.kind`. -/
def TaskRec.period (r : TaskRec) : Nat := descGet r.desc 2 0 16
/-- See `TaskRec.kind`. -/
def TaskRec.phase (r : TaskRec) : Nat := descGet r.desc 2 16 16
/-- See `TaskRec.kind`. -/
def TaskRec.deadlineNs (r : TaskRec) : Nat := descGet r.desc 3 0 32
/-- See `TaskRec.kind`. -/
def TaskRec.wcet (r : TaskRec) : Nat := descGet r.desc 4 0 32
/-- See `TaskRec.kind`. -/
def TaskRec.group (r : TaskRec) : Nat := descGet r.desc 5 0 8
/-- See `TaskRec.kind`. -/
def TaskRec.rank (r : TaskRec) : Nat := descGet r.desc 5 8 8
/-- See `TaskRec.kind`. -/
def TaskRec.affinity (r : TaskRec) : Nat := descGet r.desc 5 16 16
/-- See `TaskRec.kind`. -/
def TaskRec.image (r : TaskRec) : Nat := descGet r.desc 6 0 8
/-- See `TaskRec.kind`. -/
def TaskRec.entry (r : TaskRec) : Nat := descGet r.desc 6 16 16
/-- See `TaskRec.kind`. -/
def TaskRec.dataBytes (r : TaskRec) : Nat := descGet r.desc 7 0 32
/-- See `TaskRec.kind`. -/
def TaskRec.arg (r : TaskRec) (k : Nat) : Word := r.desc.getD (8 + k) 0
/-- See `TaskRec.kind`. -/
def TaskRec.event (r : TaskRec) : Nat := descGet r.desc 12 0 16
/-- See `TaskRec.kind`. -/
def TaskRec.withT (r : TaskRec) : Nat := descGet r.desc 12 16 16
/-- See `TaskRec.kind`. -/
def TaskRec.apart (r : TaskRec) : Nat := descGet r.desc 13 0 16
/-- See `TaskRec.kind`. -/
def TaskRec.grpEn (r : TaskRec) : Bool := r.flags / 2 % 2 == 1

/-- The fields of a buffer descriptor (R337). -/
def BufRec.size (r : BufRec) : Nat := descGet r.desc 0 0 32
/-- See `BufRec.size`. -/
def BufRec.hottest (r : BufRec) : Nat := descGet r.desc 1 0 2
/-- See `BufRec.size`. -/
def BufRec.coldest (r : BufRec) : Nat := descGet r.desc 1 2 2
/-- See `BufRec.size`. -/
def BufRec.replica (r : BufRec) : Bool := descGet r.desc 1 8 1 == 1
/-- See `BufRec.size`. -/
def BufRec.writer (r : BufRec) : Nat := descGet r.desc 1 16 16
/-- Whether a handle is defined. -/
def BufRec.defined (r : BufRec) : Bool := !r.desc.isEmpty

/-- The buffer handle an argument names, if any (R338). -/
def argHandle (w : Word) : Option (Fin 8192) := if w.getLsbD 31 then some (fin 8192 (getBits w 0 13)) else none

/-- The buffers a task names. -/
def TaskRec.handles (r : TaskRec) : List (Fin 8192) := (List.range 4).filterMap (fun k => argHandle (r.arg k))

/-- The state of a task (R339). -/
def State.taskState (s : State) (n : Fin 4096) : Nat := s.get (STK_TS0.STATE n)

/-- A task whose descriptor names a cold buffer, or one whose COLDEST is 2, is untimed (R353). -/
def State.untimed (s : State) (n : Fin 4096) : Bool :=
  (s.taskRec n).handles.any (fun h => (s.bufRec h).tier == 2 || (s.bufRec h).coldest == 2)

/-- An argument register's value: a literal zero-extended, or the address of the buffer's present copy (R338). -/
def State.resolve (s : State) (w : Word) : A40 :=
  match argHandle w with
  | some h => BitVec.ofNat 40 (Config.bufAddr h.val (s.bufRec h).tier)
  | none => w.setWidth 40

/-- The register image of a task (R300, R338; 05 R199 for a loop). -/
def State.slotOf (s : State) (n : Fin 4096) (waits : Bool) : Slot :=
  let r := s.taskRec n
  let area := fun (k : Nat) => BitVec.ofNat 40 (Config.areaOf n.val k)
  let top : A40 := area 4 &&& ~~~7
  let image := 0x40000 + Config.areaOf n.val 5
  if n.val < 256 then
    { task := n, entry := image + (s.rd (LD_ENTRY (fin 256 n.val))).toNat, mx := false, args := [area 0, area 1, area 2, area 3], top := top, waits := waits }
  else
    { task := n, entry := image + r.entry, mx := r.flags % 2 == 1, args := (List.range 4).map (fun k => s.resolve (r.arg k)), top := top, waits := waits }

/-- The argument registers of a slotted task as it starts: p2 of a loop holds the address of the active bank's copy (05 R199). -/
def State.slotArgs (s : State) (q : Slot) : List A40 :=
  if q.task.val < 256 then q.args.set 2 (BitVec.ofNat 40 (Config.areaOf q.task.val (bankArea (fin 2 (s.get (LD_STAT.BANK (fin 256 q.task.val)))))))
  else q.args

/-- The wait from release to first instruction recorded: the task's MAXWAIT, and of a queued task STK_QWAIT, in ns; a task of a tile
table is released at the window edge of its period (R339, R360, R363). -/
def State.recordWait (s : State) (n : Fin 4096) : State :=
  let from_ := if s.timeTriggered n then s.boundary s.periodNo else (s.taskRec n).released
  let w := min (2 ^ 32 - 1) ((s.now - from_) / nsUnits)
  let q : Fin 64 := fin 64 (s.get (STK_TS0.QUEUE n))
  let timed := s.timeTriggered n
  let s := s.wr (STK_TS1 n) (BitVec.ofNat 32 (max w (s.rd (STK_TS1 n)).toNat))
  if timed then s
  else s.wr (STK_QWAIT q) (BitVec.ofNat 32 (max w (s.rd (STK_QWAIT q)).toNat))

/-- The slotted task of a tile starts: the registers hold its image, every other register what the previous task left (R300,
R349); for the active plane its status becomes RUNNING. -/
def State.startSlot (s : State) (t : Fin 32) : State :=
  match (s.tile t).slot with
  | none => s
  | some q =>
    let x := (s.tile t).flush
    let p := ((finList 4).zip (s.slotArgs q)).foldl (fun p (i : Fin 4 × A40) => tset p (fin 8 i.1.val) i.2) x.p
    let x := { x with task := some q.task, p := tset p 7 q.top, l := [], sr := if q.mx then 0x180 else 0x100, tcyc := 0
                      pc := q.entry, br := none, rep := none, wait := none, slot := none }
    let s := s.setTile t x
    if planeOf t = s.activePlane then
      (((s.put (STK_TS0.STATE q.task) 6).setTask q.task { s.taskRec q.task with ranAt := some s.periodNo, copied := false, inval := false, endA := false, endB := false }).recordWait q.task).icTimers
    else s

/-- A queue's depth changed by one (R360); PEAK follows. -/
def State.queueUp (s : State) (q : Fin 64) : State :=
  let d := s.get (STK_QSTAT.DEPTH q) + 1
  (s.put (STK_QSTAT.DEPTH q) d).put (STK_QSTAT.PEAK q) (max d (s.get (STK_QSTAT.PEAK q)))
/-- See `State.queueUp`. -/
def State.queueDown (s : State) (q : Fin 64) : State := s.put (STK_QSTAT.DEPTH q) (s.get (STK_QSTAT.DEPTH q) - 1)

/-- The queue of a task. -/
def State.taskQueue (s : State) (n : Fin 4096) : Fin 64 := fin 64 (s.get (STK_TS0.QUEUE n))

/-- The placement has changed, which a rebalance may follow (R355, R361). -/
def State.placeChanged (s : State) : State := { s with stk := { s.stk with changed := true } }

/-- The end of a task's run, or of a release withdrawn: its next state and LAST (R339). -/
def State.toRest (s : State) (n : Fin 4096) (last : Nat) : State :=
  let r := s.taskRec n
  let dormant := r.stopping || (decide (512 ≤ n.val) && (r.cls == 2 || last == 3))
  let s := s.setTask n { r with stopping := false, delay := none, endA := false, endB := false, inval := false }
  let s := (s.put (STK_TS0.LAST n) last).put (STK_TS0.STATE n) (if dormant then 1 else 2)
  (if dormant then (s.put (STK_TS0.PLACED n) 0).placeChanged else s).icTimers

/-- Tasks with the tile each is on. -/
abbrev Placed := List (Fin 4096 × Fin 16)

/-- The present placement, without the BIST tasks, which always stand on their own tile. -/
def State.placement (s : State) : Placed :=
  (s.regs.filterMap (fun (q : Reg × Word) => match q.1 with
    | .stk (.STK_TS0 n) => if q.2.getLsbD 4 && !(decide (265 ≤ n.val) && decide (n.val < 281)) then some (n, fin 16 (getBits q.2 0 4)) else none
    | _ => none))

/-- Where the copy of a buffer lies for a tile of a plane. -/
def bufHome (h : Fin 8192) (tier : Nat) (pl : Fin 2) (t : Fin 16) : Nat :=
  if tier = 0 then tileBase (tileOf pl t) + Config.bufAddr h.val 0 else planeAddr pl (Config.bufAddr h.val tier)

/-- The tiles of the tasks that name a buffer. -/
def State.bufTiles (s : State) (h : Fin 8192) : List (Fin 16) :=
  ((s.placement.filter (fun (q : Fin 4096 × Fin 16) => decide (h ∈ (s.taskRec q.1).handles))).map (fun (q : Fin 4096 × Fin 16) => q.2)).dedup

/-- The address of a Kiln buffer for an instance: a literal as its plane sees it, or the home of the buffer's copy, of a hot one in the
first tile whose task names it (R338; 07 R252). -/
def State.kilnHome (s : State) (k : Fin 2) (w : Word) : Nat :=
  match argHandle w with
  | some h => bufHome h (s.bufRec h).tier k ((s.bufTiles h).headD 0)
  | none => planeAddr k w.toNat

/-- A Kiln request leaves queue 1 when it is handed to Kiln (R342; 07 R252, R270). -/
def State.kilnHanded (s : State) (n : Fin 4096) : State := (s.queueDown (s.taskQueue n)).put (STK_TS0.STATE n) 6

/-- The run of a request's task ends, with a completion status, when the active plane's instance is done with it. -/
def State.kilnDone (s : State) (k : Fin 2) (task : Option (Fin 4096)) (last : Nat) : State :=
  match task with
  | some n => if k = s.activePlane ∧ s.taskState n = 6 then s.toRest n last else s
  | none => s

end Sys2Proof.Machine
end

