-- ==== Sys2Proof/Machine/Kiln.lean ====
section
/-! DEFINITION. The Kiln solver (07). Numbers are exact rationals that binary32 or binary64 holds; the rounding of binary64 and the order
of a reduction are the device's (log 23). -/

namespace Sys2Proof.Machine

open Sys2Proof

/-- A context of an instance. -/
def State.kctx (s : State) (k : Fin 2) (c : Fin 16) : KContext := tget s.kiln (k, c) {}

/-- A context given a state. -/
def State.setKctx (s : State) (k : Fin 2) (c : Fin 16) (x : KContext) : State := { s with kiln := tset s.kiln (k, c) x }

/-- The largest finite value of binary32 (true) or binary64. -/
def fMax (single : Bool) : Rat := if single then ((2 ^ 24 - 1) * 2 ^ 104 : Nat) else ((2 ^ 53 - 1) * 2 ^ 971 : Nat)

/-- The value of a finite binary64 word; none for an infinity or a NaN (R256). -/
def f64Val (w : Nat) : Option Rat :=
  let e := w / 2 ^ 52 % 2048
  let f := w % 2 ^ 52
  if e = 2047 then none
  else
    let m := if e = 0 then f else 2 ^ 52 + f
    let e := max e 1
    let v : Rat := if 1075 ≤ e then (m * 2 ^ (e - 1075) : Nat) else (m : Rat) / (2 ^ (1075 - e) : Nat)
    some (if w / 2 ^ 63 % 2 = 1 then -v else v)

/-- A lane result (R257): exact where its format holds it, else rounded, to nearest with ties to even for binary32 and to one of its two
neighbours for binary64 (log 23); one beyond the largest finite value is replaced by it and sets OVF. -/
def fRound (single : Bool) (x : Rat) : Rat × Bool :=
  if fMax single < x then (fMax single, true)
  else if x < -fMax single then (-fMax single, true)
  else if x = 0 then (0, false)
  else
    let q := pow2 (lastPlace single x)
    let y := |x| / q
    let n := y.floor
    let f := y - (n : Rat)
    let up := if f = 0 then false else if single then decide (1 / 2 < f ∨ (f = 1 / 2 ∧ n % 2 = 1)) else Config.kilnRound x
    let v := ((if up then n + 1 else n : Int) : Rat) * q
    (if x < 0 then -v else v, false)

/-- A quotient of the divide unit; one by 0 exceeds every finite value. -/
def kDiv (single : Bool) (x y : Rat) : Rat × Bool :=
  if y = 0 then (if x < 0 then -fMax single else fMax single, true) else fRound single (x / y)

/-- A square root of the divide unit: of a negative operand 0, and OVF (R257). No solve of this chapter takes one. -/
def kSqrt (single : Bool) (x : Rat) : Rat × Bool :=
  if x < 0 then (0, true)
  else fRound single (((isqrt (x.num.toNat * x.den * 2 ^ 4096) : Nat) : Rat) / ((x.den * 2 ^ 2048 : Nat) : Rat))

/-- A reduction over terms: exact where no order of its steps can round, else the rounded sum within the bound that holds for every
order; where a term or a partial sum of some order exceeds the largest finite value, the device's order decides whether one saturates, and
OVF is set when it does or the sum itself exceeds (R252, R257; log 23). -/
def kSum (single : Bool) (ts : List Rat) : Rat × Bool :=
  let e := ts.foldl (· + ·) 0
  let b := ts.foldl (fun a x => a + |x|) 0
  let d := ts.foldl (fun a x => max a x.den) 1
  let p := if single then 24 else 53
  if b * (d : Rat) < (2 ^ p : Nat) ∧ d < 2 ^ 149 then (e, false)
  else if fMax single < b ∧ (fMax single < |e| ∨ Config.kilnOver single ts) then ((fRound single (Config.kilnSum single ts)).1, true)
  else fRound single (e + within (b * ((ts.length + 2 : Nat) : Rat) / (2 ^ (p - 2) : Nat)) (Config.kilnSum single ts))

/-- The binary64 word of a value that the format holds; of any other the word of 0 is never asked for by Kiln. -/
def f64Bits (x : Rat) : Nat :=
  let num := x.num.natAbs
  let s := if x < 0 then 2 ^ 63 else 0
  if num = 0 then 0
  else
    -- the value is num / den = m * 2^(e - 1075) with 2^52 <= m < 2^53, or e = 1
    let t := (Nat.log2 num : Int) - (Nat.log2 x.den : Int) - 52
    let t := if t < -1074 then -1074 else t
    let m := if 0 ≤ t then num / 2 ^ t.toNat / x.den else num * 2 ^ (-t).toNat / x.den
    s + (if m < 2 ^ 52 then m else (t + 1075).toNat * 2 ^ 52 + (m - 2 ^ 52))

/-- A symmetric matrix, or a vector, as a list of rows or entries; a missing entry is 0. -/
abbrev Mat := List (List Rat)

/-- An entry of a matrix. -/
def Mat.at_ (a : Mat) (i j : Nat) : Rat := (a.getD i []).getD j 0

/-- The full matrix of an upper triangle by rows. -/
def ofUpper (n : Nat) (h : List Rat) : Mat :=
  let idx := fun i j => i * n - i * (i - 1) / 2 + (j - i)
  buildList (fun i => buildList (fun j => h.getD (if i ≤ j then idx i j else idx j i) 0) n) n

/-- The state of a factorisation (R259): the matrix with the factor below its diagonal, the reciprocals of the pivots, the counts
of small and zero pivots, and OVF. -/
structure Factor where
  a : Mat
  recip : List Rat := []
  small : Nat := 0
  zero : Nat := 0
  ovf : Bool := false

/-- The pivot rule of R260 for a QP (true) or an LDLT: the pivot used and whether it was small, or zero. -/
def pivot (qp : Bool) (d tau delta s : Rat) : Rat × Bool × Bool :=
  if d = 0 then (delta * s, false, true)
  else if qp then (if d < tau * s then (max d 0 + delta * s, true, false) else (d, false, false))
  else if |d| < tau * s then ((if 0 < d then d + delta * s else d - delta * s), true, false) else (d, false, false)

/-- One column of the right-looking factorisation (R259, R260). -/
def factorCol (single qp : Bool) (n : Nat) (tau delta s : Rat) (f : Factor) (k : Nat) : Factor :=
  let (d, sm, ze) := pivot qp (f.a.at_ k k) tau delta s
  let (d, o0) := fRound single d
  let (r, o1) := kDiv single 1 d
  let col := buildList (fun i => if k < i then fRound single (f.a.at_ i k * r) else (0, false)) n
  let upd := buildList (fun i => buildList (fun j =>
    if k < i ∧ k < j then fRound single (f.a.at_ i j - (col.getD i (0, false)).1 * f.a.at_ k j)
    else if k < i ∧ j = k then col.getD i (0, false)
    else (f.a.at_ i j, false)) n) n
  { a := upd.map (fun (row : List (Rat × Bool)) => row.map Prod.fst), recip := f.recip ++ [r], small := f.small + (if sm then 1 else 0)
    zero := f.zero + (if ze then 1 else 0), ovf := f.ovf || o0 || o1 || upd.any (fun (row : List (Rat × Bool)) => row.any Prod.snd) }

/-- The first columns of the LDLT factorisation of a matrix in the precision of PREC, whose inputs are rounded to it (R257, R259, R260). -/
def factorise (single qp : Bool) (n tau delta cols : Nat) (a : Mat) : Factor :=
  let a := a.map (fun (row : List Rat) => row.map (fRound single))
  let m : Mat := a.map (fun (row : List (Rat × Bool)) => row.map Prod.fst)
  let big := (List.range n).foldl (fun x i => max x |m.at_ i i|) 0
  let s := if big = 0 then 1 else big
  (List.range cols).foldl (factorCol single qp n (1 / (2 ^ tau : Nat)) (1 / (2 ^ delta : Nat)) s)
    { a := m, ovf := a.any (fun (row : List (Rat × Bool)) => row.any Prod.snd) }

/-- One rounded fused multiply-subtract of an accumulator. -/
def fms (single : Bool) (acc : Rat × Bool) (x y : Rat) : Rat × Bool :=
  let (v, o) := fRound single (acc.1 - x * y)
  (v, acc.2 || o)

/-- One right-hand side solved by the forward sweep, the diagonal scaling and the backward sweep, each in order of the columns (R259). -/
def triSolve (single : Bool) (n : Nat) (f : Factor) (b : List Rat) : List Rat × Bool :=
  let b := b.map (fRound single)
  let (y, o1) := (List.range n).foldl (fun (acc : List Rat × Bool) i =>
    let (v, o) := (List.range i).foldl (fun (q : Rat × Bool) j => fms single q (f.a.at_ i j) (acc.1.getD j 0)) (b.getD i (0, false))
    (acc.1 ++ [v], acc.2 || o)) ([], false)
  let z := buildList (fun i => fRound single (y.getD i 0 * f.recip.getD i 0)) n
  let (x, o2) := (List.range n).foldl (fun (acc : List Rat × Bool) t =>
    let i := n - 1 - t
    let (v, o) := (List.range (n - 1 - i)).foldl (fun (q : Rat × Bool) u =>
      let j := i + 1 + u
      fms single q (f.a.at_ j i) (acc.1.getD u 0)) ((z.getD i (0, false)).1, false)
    (v :: acc.1, acc.2 || o)) ([], false)
  (x, o1 || o2 || z.any Prod.snd)

/-- The shift of R269. -/
def shiftVec (kk ss n : Nat) (x : List Rat) : List Rat :=
  if kk = 0 ∨ ss = 0 then x
  else buildList (fun v =>
    let b := v / kk * kk
    if b + kk ≤ n then
      let p := (v - b) * 256 + ss
      let i := p / 256
      let f : Rat := (p % 256 : Nat) / 256
      if kk - 1 ≤ i then x.getD (b + kk - 1) 0 else (kSum false [(1 - f) * x.getD (b + i) 0, f * x.getD (b + i + 1) 0]).1
    else x.getD v 0) n

/-- The iterate of a QP solve (R261): x, slacks and duals, with the pivot counts and OVF so far. -/
structure KPoint where
  x : List Rat
  s : List Rat
  z : List Rat
  small : Nat := 0
  zero : Nat := 0
  ovf : Bool := false

/-- The terms of a row of A times a vector, and of a column of A times a vector. -/
def rowTerms (r : List (Nat × Rat)) (v : List Rat) : List Rat := r.map (fun (q : Nat × Rat) => q.2 * v.getD q.1 0)
/-- See `rowTerms`. -/
def colTerms (rows : List (List (Nat × Rat))) (j : Nat) (w : List Rat) : List Rat :=
  ((rows.zip w).map (fun (q : List (Nat × Rat) × Rat) => (q.1.filter (fun (e : Nat × Rat) => e.1 == j)).map (fun (e : Nat × Rat) => e.2 * q.2))).flatten

/-- The entry of a row of A in a column. -/
def rowAt (r : List (Nat × Rat)) (j : Nat) : Rat := match r.find? (fun (q : Nat × Rat) => q.1 == j) with | some q => q.2 | none => 0

/-- The start of a QP solve (R262): cold, or warm from the context's last x and z, shifted, with the floors of 2^-20. -/
def qpStart (p : KProblem) (warm : Bool) (wx wz : List Rat) : KPoint :=
  let low : Rat := 1 / 1048576
  let x := if warm then shiftVec p.shiftK p.shiftS p.n wx else List.replicate p.n 0
  let z := if warm then (shiftVec p.shiftK p.shiftS p.m wz).map (max low) else List.replicate p.m 1
  let r := (p.rows.zip p.b).map (fun (q : List (Nat × Rat) × Rat) => kSum false (q.2 :: (rowTerms q.1 x).map (fun v => -v)))
  { x := x, s := r.map (fun (q : Rat × Bool) => max q.1 (if warm then low else 1)), z := z, ovf := r.any Prod.snd }

/-- The residuals of R261: A x + s - b, and H x + c + A^T z. -/
def qpResid (p : KProblem) (h : Mat) (k : KPoint) : List (Rat × Bool) × List (Rat × Bool) :=
  (buildList (fun i => kSum false ([k.s.getD i 0, -p.b.getD i 0] ++ rowTerms (p.rows.getD i []) k.x)) p.m,
   buildList (fun j => kSum false ([p.c.getD j 0] ++ buildList (fun i => h.at_ j i * k.x.getD i 0) p.n ++ colTerms p.rows j k.z)) p.n)

/-- The reduced matrix H + A^T diag(z/s) A of an iterate, and whether it saturated (R261 step 1). -/
def qpReduced (p : KProblem) (h : Mat) (w : List Rat) : Mat × Bool :=
  let aw := (p.rows.zip w).map (fun (q : List (Nat × Rat) × Rat) => (q.1, buildList (fun i => fRound false (rowAt q.1 i * q.2)) p.n))
  let k := buildList (fun i => buildList (fun j =>
    let (v, o) := kSum false (h.at_ i j :: (aw.map (fun (q : List (Nat × Rat) × List (Rat × Bool)) =>
      (q.2.getD i (0, false)).1 * rowAt q.1 j)).filter (fun v => decide (v ≠ 0)))
    (v, o || aw.any (fun (q : List (Nat × Rat) × List (Rat × Bool)) => (q.2.getD i (0, false)).2))) p.n) p.n
  (k.map (fun (row : List (Rat × Bool)) => row.map Prod.fst), k.any (fun (row : List (Rat × Bool)) => row.any Prod.snd))

/-- The direction of the Newton system of R261's optimality conditions for a target of the products s z: steps of x, s and z, and whether
one saturated. -/
def qpDirection (p : KProblem) (f : Factor) (k : KPoint) (w rp rd rc : List Rat) : List Rat × List Rat × List Rat × Bool :=
  let t := buildList (fun i =>
    let (q, o) := kDiv false (rc.getD i 0) (k.s.getD i 0)
    let (v, o') := kSum false [w.getD i 0 * rp.getD i 0, -q]
    (v, o || o')) p.m
  let rhs := buildList (fun j => kSum false (-rd.getD j 0 :: (colTerms p.rows j (t.map Prod.fst)).map (fun v => -v))) p.n
  let (dx, o) := triSolve (p.prec == 1) p.n f (rhs.map Prod.fst)
  let ds := buildList (fun i => kSum false (-rp.getD i 0 :: (rowTerms (p.rows.getD i []) dx).map (fun v => -v))) p.m
  let dz := buildList (fun i =>
    let (v, o') := kSum false [-rc.getD i 0, -(k.z.getD i 0 * (ds.getD i (0, false)).1)]
    let (q, o'') := kDiv false v (k.s.getD i 0)
    (q, o' || o'')) p.m
  (dx, ds.map Prod.fst, dz.map Prod.fst, o || t.any Prod.snd || rhs.any Prod.snd || ds.any Prod.snd || dz.any Prod.snd)

/-- The largest step that is at most a share of the distance to the boundary of s and z, and at most the whole direction, rounded down,
and whether a quotient saturated (R257, R261 step 4; log 23). -/
def qpStep (share : Rat) (k : KPoint) (ds dz : List Rat) : Rat × Bool :=
  let near := fun (a : Rat × Bool) (q : Rat × Rat) => if q.2 < 0 then (min a.1 (share * (q.1 / -q.2)), a.2 || (kDiv false q.1 (-q.2)).2) else a
  let a := (k.z.zip dz).foldl near ((k.s.zip ds).foldl near (1, false))
  (if a.1 ≤ 0 then 0 else let q := pow2 (lastPlace false a.1); ((a.1 / q).floor : Rat) * q, a.2)

/-- The largest magnitude of a vector. -/
def normInf (v : List Rat) : Rat := v.foldl (fun a x => max a |x|) 0

/-- One iteration of R261, and whether the solve has converged after it. -/
def qpIter (p : KProblem) (h : Mat) (k : KPoint) : KPoint × Bool :=
  let w := (k.z.zip k.s).map (fun (q : Rat × Rat) => kDiv false q.1 q.2)
  let wv := w.map Prod.fst
  let (red, o1) := qpReduced p h wv
  let f := factorise (p.prec == 1) true p.n p.tau p.delta p.n red
  let (rp, rd) := qpResid p h k
  let sz := fun (a b : List Rat) => (a.zip b).map (fun (q : Rat × Rat) => q.1 * q.2)
  let rc := (sz k.s k.z).map (fRound false)
  let dir := fun (c : List Rat) => qpDirection p f k wv (rp.map Prod.fst) (rd.map Prod.fst) c
  let (_, dsa, dza, o2) := dir (rc.map Prod.fst)
  let move := fun (a : Rat) (v d : List Rat) => (v.zip d).map (fun (q : Rat × Rat) => kSum false [q.1, a * q.2])
  let (aff, oa) := qpStep 1 k dsa dza
  let mean := fun (s z : List Rat) => let q := kSum false (sz s z); let r := kDiv false q.1 p.m; (r.1, q.2 || r.2)
  let mu := mean k.s k.z
  let muAff := mean ((move aff k.s dsa).map Prod.fst) ((move aff k.z dza).map Prod.fst)
  let sigma := (fRound false (clampRat 0 1 (Config.kilnCentre muAff.1 mu.1))).1
  let centre := (fRound false (sigma * mu.1)).1
  let rc2 := ((sz k.s k.z).zip (sz dsa dza)).map (fun (q : Rat × Rat) => kSum false [q.1, q.2, -centre])
  let (dx, ds, dz, o3) := dir (rc2.map Prod.fst)
  let (a, os) := qpStep (99 / 100) k ds dz
  let x := move a k.x dx
  let s := move a k.s ds
  let z := move a k.z dz
  let ovf := k.ovf || w.any Prod.snd || o1 || f.ovf || rp.any Prod.snd || rd.any Prod.snd || rc.any Prod.snd || o2 || mu.2 || muAff.2
    || rc2.any Prod.snd || o3 || oa || os || x.any Prod.snd || s.any Prod.snd || z.any Prod.snd
  let k' : KPoint := { x := x.map Prod.fst, s := s.map Prod.fst, z := z.map Prod.fst, small := k.small + f.small, zero := k.zero + f.zero, ovf := ovf }
  let (rp', rd') := qpResid p h k'
  let mu' := mean k'.s k'.z
  let eps : Rat := 1 / (2 ^ p.tol : Nat)
  let far := fun (v : List Rat) => eps * (fRound false (1 + normInf v)).1
  ({ k' with ovf := ovf || rp'.any Prod.snd || rd'.any Prod.snd || mu'.2 },
   decide (normInf (rp'.map Prod.fst) ≤ far p.b) && decide (normInf (rd'.map Prod.fst) ≤ far p.c) && decide (mu'.1 ≤ eps))

/-- Iterations until the first converged one or a limit: the iterate, the iterations executed, whether it converged (R262, R266). -/
def qpLoop (p : KProblem) (h : Mat) : Nat → Nat → KPoint → KPoint × Nat × Bool
  | 0, it, k => (k, it, false)
  | n + 1, it, k =>
    let (k, c) := qpIter p h k
    if c then (k, it + 1, true) else qpLoop p h n (it + 1) k

/-- What a solve has computed (R259 to R263): solution and duals, iterations, pivot counts, OVF, NOT_CONV. -/
structure KOut where
  x : List Rat
  z : List Rat := []
  it : Nat := 0
  small : Nat := 0
  zero : Nat := 0
  ovf : Bool := false
  notConv : Bool := false

/-- An LDLT solve, of which only some columns may have been judged, and a QP solve with a limit of iterations. -/
def solveLdlt (p : KProblem) (cols : Nat) : KOut :=
  let f := factorise (p.prec == 1) false p.n p.tau p.delta cols (ofUpper p.n p.h)
  let sols := buildList (fun j => triSolve (p.prec == 1) p.n f ((p.c.drop (j * p.n)).take p.n)) p.nrhs
  { x := (sols.map Prod.fst).flatten, small := f.small, zero := f.zero, ovf := f.ovf || (decide (p.n ≤ cols) && sols.any Prod.snd) }
/-- See `solveLdlt`. -/
def solveQp (p : KProblem) (warm : Bool) (wx wz : List Rat) (lim : Nat) : KOut :=
  let (k, it, c) := qpLoop p (ofUpper p.n p.h) lim 0 (qpStart p warm wx wz)
  { x := k.x, z := k.z, it := it, small := k.small, zero := k.zero, ovf := k.ovf, notConv := !c }

/-- Division rounded up. -/
def divUp (n d : Nat) : Nat := (n + d - 1) / d

/-- The cycle counts of R266. -/
def kLanes (p : KProblem) : Nat := if p.prec = 1 then 64 else 16
/-- See `kLanes`. -/
def kFactor (p : KProblem) : Nat := p.n * (if p.prec = 1 then 13 else 18) + divUp ((p.n - 1) * p.n * (p.n + 4)) (6 * kLanes p)
/-- See `kLanes`. -/
def kSolve (p : KProblem) : Nat := 8 * p.n + divUp (p.n * (p.n - 1)) (kLanes p) + divUp p.n (kLanes p)
/-- See `kLanes`. -/
def kQ (p : KProblem) : Nat := (p.rows.map (fun (r : List (Nat × Rat)) => r.length * (r.length + 1) / 2)).sum
/-- See `kLanes`. -/
def kInit (p : KProblem) (warm : Bool) : Nat := if warm then divUp (p.n + 2 * p.m) 16 + 12 else divUp (2 * p.nnz + 2 * p.m) 16 + 12
/-- See `kLanes`. -/
def kIter (p : KProblem) : Nat :=
  divUp (p.n * p.n + 2 * p.nnz + 2 * p.m) 16 + 16 + (divUp (kQ p + p.n * (p.n + 1) / 2) (kLanes p) + 8) + kFactor p
    + 2 * (kSolve p + divUp (2 * p.nnz + 2 * p.m) 16) + (divUp (3 * p.m + p.n) 16 + 24) + 12
/-- The Kiln cycles of a solve with a number of iterations. -/
def kCycles (p : KProblem) (warm : Bool) (iters : Nat) : Nat :=
  if p.kind = 1 then kFactor p + p.nrhs * kSolve p else kInit p warm + iters * kIter p

/-- The bytes of a result half (R272). -/
def kResBytes (p : KProblem) : Nat := 64 + 8 * (if p.kind = 1 then p.nrhs * p.n else p.n)

/-- The fabric cycles and the Kiln cycles of a request's latency bound, with the iteration limit of a start (R266). -/
def kFab (p : KProblem) : Nat := divUp p.bytes 64 + 15 + 4 + 11 + divUp (kResBytes p) 64
/-- See `kFab`. -/
def kKil (p : KProblem) (warm : Bool) : Nat := 4 + 2 + kCycles p warm (if warm then p.itW else p.itC) + 8

/-- The latency bound of R266 in ns, rounded up, at the present Kiln clock: every alignment wait at its largest; 0 before any request. -/
def State.kBoundOf (s : State) (fab kil : Nat) : Nat :=
  if kil = 0 then 0
  else
    let t := clockPeriod (s.get ISL_CLK.KILN_SEL)
    let g := Nat.gcd 768 t
    divUp (fab * 768 + kil * t + (t - g) + (768 - g)) 768

/-- When a result of some values that Kiln has ready at an instant in 1/768 ns is written (R266, R267). -/
def kOut (u len : Nat) : Time := (ceilTo 768 u + (15 + divUp (64 + 8 * len) 64) * 768) / 3

/-- When a reuse is written whose shift begins at an instant in 1/768 ns: N variables are shifted in N/16 + 8 Kiln cycles (R268). -/
def State.kReuseAt (s : State) (u n len : Nat) : Time := kOut (u + (divUp n 16 + 8) * clockPeriod (s.get ISL_CLK.KILN_SEL)) len

/-- When a solve's Kiln cycles begin, in 1/768 ns, behind block read, alignment, crossing and signature compare; when a number of them and
the result assembly have passed; and when the result is written (R266, R267). -/
def State.kFrom (s : State) (r : KRun) : Nat :=
  let t := clockPeriod (s.get ISL_CLK.KILN_SEL)
  ceilTo t (3 * (ceilTo nsUnits r.start + (divUp r.req.prob.bytes 64 + 15) * nsUnits)) + 6 * t
/-- See `State.kFrom`. -/
def State.kTill (s : State) (r : KRun) (cycles : Nat) : Nat := s.kFrom r + (cycles + 8) * clockPeriod (s.get ISL_CLK.KILN_SEL)
/-- See `State.kFrom`. -/
def State.kWritten (s : State) (r : KRun) (cycles : Nat) : Time :=
  kOut (s.kTill r cycles) (if r.req.prob.kind = 1 then r.req.prob.nrhs * r.req.prob.n else r.req.prob.n)

/-- The structure signature of a problem (R264). -/
def KProblem.sig (p : KProblem) : KSig :=
  let rl := (p.rows.map (fun (r : List (Nat × Rat)) => leBytes 2 r.length)).flatten
  let ci := (p.rows.map (fun (r : List (Nat × Rat)) => (r.map (fun (q : Nat × Rat) => leBytes 2 q.1)).flatten)).flatten
  { kind := p.kind, prec := p.prec, n := p.n, m := p.m, nnz := p.nnz, crc := crc32c (rl ++ ci)
    nz := (List.range p.h.length).filter (fun i => p.h.getD i 0 ≠ 0) }

/-- Whether a request of a context would start warm now (R265). -/
def KContext.warmFor (x : KContext) (p : KProblem) : Bool := x.warm && !p.cold && x.sig == some p.sig

/-- The Kiln cycles of the bound of the last accepted request: while it waits, those of the start it would take now (R266). -/
def KContext.kilOf (x : KContext) : Nat := match x.queued with | some r => kKil r.prob (x.warmFor r.prob) | none => x.kil

/-- A context without its waiting request, whose bound stays. -/
def KContext.unqueue (x : KContext) : KContext := { x with queued := none, kil := x.kilOf }

/-- KC_BOUND: the bound of the last accepted request at the present clock (R266, R277). -/
def State.kcBound (s : State) (k : Fin 2) (c : Fin 16) : Nat := s.kBoundOf (s.kctx k c).fab (s.kctx k c).kilOf

/-- Values of a run of words, none where one is an infinity or a NaN. -/
def readF64 (s : State) (a : Nat) (n : Nat) : Option (List Rat) :=
  (List.range n).foldr (fun i acc => match acc, f64Val (ofLeBytes (s.mread (a + 8 * i) 8)) with
    | some l, some v => some (v :: l)
    | _, _ => none) (some [])

/-- The rows of A from row lengths, column indices and values. -/
def splitRows : List Nat → List (Nat × Rat) → List (List (Nat × Rat))
  | [], _ => []
  | n :: t, l => l.take n :: splitRows t (l.drop n)

/-- Whether column indices rise within a row and lie below n (R256). -/
def rowOk (n : Nat) (r : List (Nat × Rat)) : Bool :=
  r.all (fun (q : Nat × Rat) => decide (q.1 < n)) && (r.zip (r.drop 1)).all (fun (q : (Nat × Rat) × (Nat × Rat)) => decide (q.1.1 < q.2.1))

/-- The problem block of a Kiln request, read and checked by R255 and R256; none where the request is refused for it. A block that names
another context than the descriptor is refused (log 52). -/
def readProblem (s : State) (a : Nat) (ctx : Fin 16) : Option KProblem :=
  let by_ := fun (o n : Nat) => ofLeBytes (s.mread (a + o) n)
  let kind := by_ 4 1
  let n := by_ 8 2
  let m := by_ 10 2
  let nnz := by_ 12 4
  let nrhs := by_ 29 1
  let rl := (List.range m).map (fun i => by_ (by_ 44 4 + 2 * i) 2)
  let ci := (List.range nnz).map (fun i => by_ (by_ 48 4 + 2 * i) 2)
  let ok := BitVec.ofNat 32 (by_ 60 4) == crc32c (s.mread a 60) && decide (by_ 7 1 < 2 ∧ by_ 30 2 = 0) && (kind == 1 || kind == 2)
    && decide (by_ 5 1 < 2) && decide (1 ≤ n ∧ n ≤ (if kind = 1 then 512 else 256))
    && (if kind = 1 then decide (m = 0 ∧ nnz = 0 ∧ 1 ≤ nrhs ∧ nrhs ≤ 8) else decide (1 ≤ m ∧ m ≤ 512 ∧ nrhs = 0))
    && decide (rl.sum = nnz) && decide (4 ≤ by_ 16 1 ∧ by_ 16 1 ≤ 52 ∧ 4 ≤ by_ 17 1 ∧ by_ 17 1 ≤ 60 ∧ 8 ≤ by_ 28 1 ∧ by_ 28 1 ≤ 48)
    && decide (1 ≤ by_ 18 1 ∧ 1 ≤ by_ 19 1) && by_ 6 1 == ctx.val && ctx.val ≠ 0
  match ok, readF64 s (a + by_ 36 4) (n * (n + 1) / 2), readF64 s (a + by_ 40 4) (if kind = 1 then nrhs * n else n),
      readF64 s (a + by_ 52 4) nnz, readF64 s (a + by_ 56 4) m with
  | true, some h, some c, some av, some b =>
    let rows := splitRows rl (ci.zip av)
    if rows.all (rowOk n) then
      some { addr := BitVec.ofNat 32 (by_ 0 4), kind := kind, prec := by_ 5 1, cold := by_ 7 1 == 1, n := n, m := m, nnz := nnz, tau := by_ 16 1
             delta := by_ 17 1, itW := by_ 18 1, itC := by_ 19 1, shiftK := by_ 20 2, shiftS := by_ 22 2, deadlineUs := by_ 24 4
             tol := by_ 28 1, nrhs := nrhs, seq := by_ 32 4
             bytes := 64 + 4 * n * (n + 1) + 8 * c.length + 2 * m + 2 * nnz + 8 * nnz + 8 * m, h := h, c := c, rows := rows, b := b }
    else none
  | _, _, _, _, _ => none

/-- KC_STAT.PHASE of a context (R271). -/
def State.showPhase (s : State) (k : Fin 2) (c : Fin 16) : State :=
  let x := s.kctx k c
  let s := s.put (KC_STAT.PHASE k c) (if x.running.isSome then 2 else if x.held.isSome then 3 else if x.queued.isSome then 1 else 0)
  s.putB (KC_STAT.WARM_VALID k c) x.warm

/-- The header of a result half (R272), whose publication time is 0 before it is published. -/
def resultHead (r : KResult) (tag pubCell : Nat) : List Byte :=
  leBytes 4 r.seq ++ leBytes 1 tag ++ leBytes 1 (min r.iter 255) ++ leBytes 2 r.flags ++ leBytes 4 r.cycles ++ leBytes 2 (min r.small 65535)
    ++ leBytes 2 (min r.zero 65535) ++ timeBytes pubCell ++ leBytes 36 0

/-- A result half (R272): header and solution. -/
def resultBytes (r : KResult) (tag pubCell : Nat) : List Byte :=
  resultHead r tag pubCell ++ (r.x.map (fun v => leBytes 8 (f64Bits v))).flatten

/-- Where a half of a result buffer lies behind its start. -/
def halfOfs (len : Nat) (h : Bool) : Nat := if h then 64 + 8 * len else 0

/-- A write of an instance into its plane's memory: mirrored into a plane that is being filled, and part of the plane's signature (15 R487,
R500). The two instances write their own plane's copy of one place, so the signature of both takes plane A's address. -/
def State.kWrite (s : State) (k : Fin 2) (base base' o : Nat) (bs : List Byte) : State :=
  let s := s.mwrite (base + o) bs
  let s := if s.mirrored k then s.mwrite (base' + o) bs else s
  s.foldSig k 16 ((if k = 0 then base else base') + o) bs

/-- The places of the results of a context in an instance's plane: the request's buffer, and for context 0 the copy in the tile of every
placed interpolator (R272). -/
def State.resHomes (s : State) (k : Fin 2) (c : Fin 16) (res : Nat) : List Nat :=
  res :: (if c = 0 then (finList 8).filterMap (fun a =>
    let n : Fin 4096 := fin 4096 (257 + a.val)
    if s.is (STK_TS0.PLACED n) then some (tileBase (tileOf k (fin 16 (s.get (STK_TS0.TILE n)))) + Config.areaOf n.val 7) else none)
    else [])

/-- A place of one plane as the other plane has it. -/
def otherPlane (k : Fin 2) (a : Nat) : Nat :=
  let own := fun (base : Nat) (size : Nat) => if k = 0 then decide (base ≤ a ∧ a < base + size) else decide (base + size ≤ a ∧ a < base + 2 * size)
  let size := if own 0x10000000 0x1000000 then 0x1000000 else if own 0x8000000000 0x200000000 then 0x200000000 else if 2 ^ 40 ≤ a then 2 ^ 23 else 0
  if k = 0 then a + size else a - size

/-- Bytes written at every place of a context's results. -/
def State.kWriteAll (s : State) (k : Fin 2) (c : Fin 16) (res o : Nat) (bs : List Byte) : State :=
  (s.resHomes k c res).foldl (fun s a => s.kWrite k a (otherPlane k a) o bs) s

/-- A result published (R271 to R273): the unpublished half made visible, fresh, or stale where a newer request has been accepted in the
meantime; the half is written now, or has been and takes its tag and time of publication. -/
def State.publish (s : State) (k : Fin 2) (c : Fin 16) (r : KResult) (written : Bool := false) : State :=
  let x := s.kctx k c
  let h := !x.half
  let newer := decide (c ≠ 0) && x.queued.isSome
  let s := s.kWriteAll k c r.res (halfOfs r.x.length h) ((if written then resultHead else resultBytes) r (if newer then 2 else 1) s.cell)
  let s := s.setKctx k c { x with pub := some r, half := h, pubAt := some s.now }
  let s := (s.wr (KC_SEQ_PUB k c) (BitVec.ofNat 32 r.seq)).putB (KC_STAT.STALE k c) newer
  if r.flags.testBit 0 then (s.flag (KC_STAT.REUSED k c)).bump (KC_REUSED k c) else s.put (KC_STAT.REUSED k c) 0

/-- The values of a problem's solution (R272). -/
def KProblem.len (p : KProblem) : Nat := if p.kind = 1 then p.nrhs * p.n else p.n

/-- The parts of a list, of a length each. -/
def chunks (n : Nat) (x : List Rat) : List (List Rat) := buildList (fun i => (x.drop (i * n)).take n) (if n = 0 then 0 else divUp x.length n)

/-- The solution that takes the place of an invalid or a missing one (R268, R269): the last published, each of its vectors shifted,
REUSED; the zero vector of a length with NO_PREV when none was published. It goes to the buffer given. -/
def KContext.reuse (x : KContext) (len seq flags iter cycles res : Nat) : KResult :=
  match x.pub with
  | some p => { p with seq := seq, flags := flags ||| 1, iter := iter, cycles := cycles, res := res
                       x := ((chunks p.n p.x).map (shiftVec x.shiftK x.shiftS p.n)).flatten }
  | none => { seq := seq, flags := flags ||| 3, iter := iter, cycles := cycles, res := res, n := len, x := List.replicate len 0 }

/-- A finished result of context 0 is written into the unpublished half, TAG NONE, and waits for the next tick; another is published at once
(R271, R272). -/
def State.deliver (s : State) (k : Fin 2) (c : Fin 16) (r : KResult) : State :=
  if c = 0 then
    let x := s.kctx k c
    ((s.kWriteAll k c r.res (halfOfs r.x.length !x.half) (resultBytes r 0 0)).setKctx k c { x with held := some r }).showPhase k c
  else (s.publish k c r).showPhase k c

/-- A request accepted by an instance (R253, R256, R271, R273), with its bound; or refused, which ends its task (log 52). -/
def State.kAccept (s : State) (k : Fin 2) (c : Fin 16) (p : Option KProblem) (res : Nat) (task : Option (Fin 4096)) : State :=
  match p with
  | none => (s.flag (KC_STAT.REFUSED k c)).kilnDone k task 1
  | some p =>
    let x := s.kctx k c
    let bound := s.kBoundOf (kFab p) (kKil p (x.warmFor p))
    if 1000000 < bound then (s.flag (KC_STAT.REFUSED k c)).kilnDone k task 1
    else
      let limit := if c = 0 then 900 else p.deadlineUs
      let bo := decide (limit * 1000 < bound)
      let s := match x.queued with | some q => (s.bump (KC_SUPERSEDED k c)).kilnDone k q.task 1 | none => s
      let r : KRequest := { prob := p, res := res, task := task, accepted := s.now, deadline := s.now + limit * 256000, boundOver := bo }
      let s := s.setKctx k c { x with queued := some r, len := p.len, fab := kFab p, kil := kKil p (x.warmFor p) }
      let s := (s.wr (KC_SEQ_POST k c) (BitVec.ofNat 32 p.seq)).putB (KC_STAT.BOUND_OVER k c) bo
      let s := if c ≠ 0 then
          match x.pub with
          | some q => (s.kWriteAll k c q.res (halfOfs q.x.length x.half + 4) (leBytes 1 2)).put (KC_STAT.STALE k c) 1
          | none => s.put (KC_STAT.STALE k c) 1
        else s
      s.showPhase k c

/-- The instances that take requests. -/
def State.kilnOn (s : State) : List (Fin 2) := [0, 1].filter (fun k => s.is (KN_CTRL.EN k))

/-- KILN_REQUEST: Stack takes a ready Kiln request from queue 1 and delivers it to both instances, each of which reads the problem of its
own plane; context and buffers are those that the descriptor names (R252, R255, R256; 10 R334, R342). Nothing happens while the active
plane's instance takes no requests. -/
def execKilnRequest (n : Fin 4096) (s : State) : Host.Outcome State Fault Refusal :=
  let r := s.taskRec n
  if r.kind ≠ 4 ∨ s.taskState n ≠ 4 ∨ s.is (KN_CTRL.EN s.activePlane) = false then .next s
  else
    let c : Fin 16 := fin 16 (r.arg 0).toNat
    .next (s.kilnOn.foldl (fun t k => t.kAccept k c (readProblem s (s.kilnHome k (r.arg 1)) c) (s.kilnHome k (r.arg 2)) (some n)) (s.kilnHanded n))

/-- A queued request starts (R264, R265): signatures compared, the warm start kept or discarded, the bound that of the start it takes; the
event flags describe the solve that starts, REUSED the result published last (R277). -/
def State.kStart (s : State) (k : Fin 2) (c : Fin 16) : State :=
  let x := s.kctx k c
  match x.queued with
  | none => s
  | some r =>
    let p := r.prob
    let sg := p.sig
    let differs := match x.sig with | some q => q != sg | none => false
    let warm := x.warmFor p
    let s := s.wr (KC_STAT k c) (s.rd (KC_STAT k c) &&& ~~~0xFD0#32)
    let s := if differs then (s.flag (KC_STAT.WARM_DISCARDED k c)).bump (KC_COLD k c) else s
    let s := s.setKctx k c { x with queued := none, running := some { req := r, warm := warm, disc := differs, start := s.now }, warm := warm
                                    sig := some sg, shiftK := p.shiftK, shiftS := p.shiftS, kil := kKil p warm }
    let s := (((s.put (KC_SIG_DIM.N k c) p.n).put (KC_SIG_DIM.M k c) p.m).put (KC_SIG_DIM.KIND k c) p.kind).put (KC_SIG_DIM.PREC k c) p.prec
    let s := (s.wr (KC_SIG_NNZ k c) (BitVec.ofNat 32 p.nnz)).wr (KC_SIG_CRC k c) sg.crc
    ((s.put (KN_STAT.CTX k) c.val).count (KN_SOLVES k)).showPhase k c

/-- The context an instance solves. -/
def State.kRunning (s : State) (k : Fin 2) : Option (Fin 16) := (finList 16).find? (fun c => (s.kctx k c).running.isSome)

/-- Whether an instance runs a solve. -/
def State.kBusy (s : State) (k : Fin 2) : Bool := (s.kRunning k).isSome

/-- KN_STAT.PLAN_ACTIVE: any arm enabled for planning (R270). -/
def State.planActive (s : State) : Bool := (finList 8).any (fun a => s.is (ARM_CTRL.EN a))

/-- The next tick boundary after now (01 R35). -/
def State.nextTick (s : State) : Time := s.boundary ((s.periodNo / s.tickPeriods + 1) * s.tickPeriods)

/-- KILN_SOLVE_START: an idle instance starts the waiting request with the lowest context number; with PLAN_ACTIVE only when its
bound ends before the next tick boundary, and until then the others wait behind it (R270). Context 0 starts at tick boundaries. -/
def execKilnSolveStart (k : Fin 2) (s : State) : Host.Outcome State Fault Refusal :=
  if s.is (KN_CTRL.EN k) = false ∨ s.kBusy k then .next s
  else
    let waits := fun (c : Fin 16) => c ≠ 0 && (match (s.kctx k c).queued with | some r => decide (s.now < r.deadline) | none => false)
    match (finList 16).find? waits with
    | some c => .next (if s.planActive ∧ s.nextTick ≤ s.now + s.kcBound k c * nsUnits then s else s.kStart k c)
    | none => .next s

/-- What a running solve computes in all. -/
def KContext.out (x : KContext) (r : KRun) : KOut :=
  let p := r.req.prob
  if p.kind = 1 then solveLdlt p p.n else solveQp p r.warm x.wx x.wz (if r.warm then p.itW else p.itC)

/-- What it has computed in a number of its Kiln cycles: whole iterations, or some columns (R268; log 23). -/
def KContext.outBy (x : KContext) (r : KRun) (cycles : Nat) : KOut :=
  let p := r.req.prob
  if p.kind = 1 then solveLdlt p (if kFactor p ≤ cycles then p.n else min p.n (Config.kilnCols cycles p.n))
  else { solveQp p r.warm x.wx x.wz (min (if r.warm then p.itW else p.itC) ((cycles - kInit p r.warm) / kIter p)) with notConv := false }

/-- The Kiln cycles of a whole solve. -/
def KOut.cycles (o : KOut) (r : KRun) : Nat := kCycles r.req.prob r.warm o.it

/-- The Kiln cycles that a running solve has spent by now (R268, R275). -/
def State.kSpent (s : State) (k : Fin 2) (c : Fin 16) (r : KRun) : Nat :=
  let t := clockPeriod (s.get ISL_CLK.KILN_SEL)
  match r.stopped with
  | some u => (u - s.kFrom r) / t
  | none => min ((3 * s.now - s.kFrom r) / t) (((s.kctx k c).out r).cycles r)

/-- KN_BUSY with the cycles that the running solve has spent by now (R275). -/
def State.busyUp (s : State) (k : Fin 2) : State :=
  match s.kRunning k with
  | none => s
  | some c =>
    match (s.kctx k c).running with
    | none => s
    | some r =>
      let n := s.kSpent k c r
      (s.wr (KN_BUSY k) (BitVec.ofNat 32 (satAdd 32 (s.rd (KN_BUSY k)).toNat (n - r.counted)))).setKctx k c
        { s.kctx k c with running := some { r with counted := max n r.counted } }

/-- KN_STAT.STATE (R276): 1 while the block is read, 2 until the result is assembled, 3 while it is written (log 52). -/
def State.knState (s : State) (k : Fin 2) : Nat :=
  match s.kRunning k with
  | none => 0
  | some c =>
    match (s.kctx k c).running with
    | none => 0
    | some r =>
      if s.now < ceilTo nsUnits r.start + (divUp r.req.prob.bytes 64 + 15) * nsUnits then 1
      else if r.stopped.isNone ∧ 3 * s.now < s.kTill r (((s.kctx k c).out r).cycles r) then 2 else 3

/-- KN_STAT as it reads (R276). -/
def State.knStat (s : State) (k : Fin 2) : Word :=
  putBits (putBits (s.rd (KN_STAT k)) 0 2 (s.knState k)) 8 1 (if s.planActive then 1 else 0)

/-- The FLAGS of a result (R272). -/
def resFlags (cold disc small zero ovf notConv deadline bound : Bool) : Nat :=
  (if cold then 4 else 0) + (if disc then 8 else 0) + (if small then 16 else 0) + (if zero then 32 else 0) + (if ovf then 64 else 0)
    + (if notConv then 128 else 0) + (if deadline then 256 else 0) + (if bound then 512 else 0)

/-- Whether an outcome is a valid solution of a solve that was not stopped (R263). -/
def KOut.valid (o : KOut) (r : KRun) : Bool := !o.ovf && !o.notConv && r.stopped.isNone

/-- What a running solve has computed when it ends: all of it, or what it had executed when its deadline stopped it (R268). -/
def State.kFinal (s : State) (k : Fin 2) (c : Fin 16) (r : KRun) : KOut :=
  if r.stopped.isSome then (s.kctx k c).outBy r (s.kSpent k c r) else (s.kctx k c).out r

/-- The solution that takes the place of a request's (R268). -/
def KContext.reuseFor (x : KContext) (q : KRequest) (flags iter cycles : Nat) : KResult :=
  { x.reuse q.prob.len q.prob.seq flags iter cycles q.res with groups := q.prob.groups, key := q.prob.key }

/-- The end of a running solve: a valid solution is kept as warm start and delivered, an invalid one (OVF, NOT_CONV or stopped)
discards the warm start and the reuse is delivered (R262, R263, R268, R271, R277). -/
def State.kEnd (s : State) (k : Fin 2) (c : Fin 16) : State :=
  let x := s.kctx k c
  match x.running with
  | none => s
  | some r =>
    let p := r.req.prob
    let o := s.kFinal k c r
    let cyc := if r.stopped.isSome then s.kSpent k c r else o.cycles r
    let valid := o.valid r
    let fl := resFlags (!r.warm) r.disc (o.small ≠ 0) (o.zero ≠ 0) o.ovf o.notConv r.stopped.isSome r.req.boundOver
    let s := (s.wr (KC_ITER k c) (BitVec.ofNat 32 (min o.it 255))).wr (KC_CYC k c) (BitVec.ofNat 32 cyc)
    let s := (s.put (KC_PIV.SMALL k c) (min o.small 65535)).put (KC_PIV.ZERO k c) (min o.zero 65535)
    let s := s.wr (KN_BUSY k) (BitVec.ofNat 32 (satAdd 32 (s.rd (KN_BUSY k)).toNat (cyc - r.counted)))
    let s := if o.zero ≠ 0 then s.flag (KC_STAT.PIV_ZERO k c) else s
    let s := if o.small ≠ 0 then s.flag (KC_STAT.PIV_SMALL k c) else s
    let s := if o.ovf then s.flag (KC_STAT.OVF k c) else s
    let s := if o.notConv then s.flag (KC_STAT.NOT_CONV k c) else s
    let s := s.setKctx k c { x with running := none, warm := valid, wx := if valid then o.x else x.wx, wz := if valid then o.z else x.wz }
    let res : KResult := { seq := p.seq, iter := o.it, flags := fl, cycles := cyc, small := o.small, zero := o.zero, x := o.x, res := r.req.res
                           n := p.n, groups := p.groups, key := p.key }
    (s.deliver k c (if valid then res
      else { x.reuseFor r.req fl o.it cyc with small := o.small, zero := o.zero })).kilnDone k r.req.task 0

/-- Whether a running solve ends in Kiln at or before its deadline. -/
def State.kInTime (s : State) (k : Fin 2) (c : Fin 16) (r : KRun) : Bool :=
  r.stopped.isNone && decide (s.kTill r (((s.kctx k c).out r).cycles r) ≤ 3 * r.req.deadline)

/-- The values and N of the reuse that a context holds for a problem. -/
def KContext.reuseLen (x : KContext) (p : KProblem) : Nat × Nat := match x.pub with | some q => (q.x.length, q.n) | none => (p.len, p.n)

/-- When the result of a running solve is written: the end of the ledger of R267; a reuse its shift later, counted from the end of an
invalid solve or from the edge at which the deadline stopped it; none while the deadline will stop it (R268; log 23). -/
def State.kDoneAt (s : State) (k : Fin 2) (c : Fin 16) (r : KRun) : Option Time :=
  let o := s.kFinal k c r
  let (len, n) := (s.kctx k c).reuseLen r.req.prob
  match r.stopped with
  | some u => some (s.kReuseAt u n len)
  | none =>
    if s.kInTime k c r then some (if o.valid r then s.kWritten r (o.cycles r) else s.kReuseAt (s.kTill r (o.cycles r)) n len) else none

/-- The context of an instance whose reuse for an expired request is written first. -/
def State.kLate (s : State) (k : Fin 2) : Option (Fin 16 × KLate) :=
  (finList 16).foldl (fun (a : Option (Fin 16 × KLate)) c =>
    match (s.kctx k c).late, a with
    | some l, some q => if l.at_ < q.2.at_ then some (c, l) else a
    | some l, none => some (c, l)
    | none, _ => a) none

/-- The reuse for an expired request is written and published (R268, R271). -/
def State.kLateDone (s : State) (k : Fin 2) (c : Fin 16) (l : KLate) : State :=
  let s := s.advance l.at_
  ((s.setKctx k c { s.kctx k c with late := none }).deliver k c l.result).kilnDone k l.task 0

/-- KILN_SOLVE_DONE: the next result of an instance is written, that of the running solve or the reuse for an expired request (R267,
R268, R271, R272); a solve that its deadline is still to stop does not end so. -/
def execKilnSolveDone (k : Fin 2) (s : State) : Host.Outcome State Fault Refusal :=
  let run := match s.kRunning k with
    | none => none
    | some c => match (s.kctx k c).running with | some r => (s.kDoneAt k c r).map (fun t => (c, t)) | none => none
  match run, s.kLate k with
  | some (c, t), some (d, l) => .next (if l.at_ < t then s.kLateDone k d l else (s.advance t).kEnd k c)
  | some (c, t), none => .next ((s.advance t).kEnd k c)
  | none, some (d, l) => .next (s.kLateDone k d l)
  | none, none => .next s

/-- A queued request whose deadline has passed is not started; the reuse takes its place, its shift and write later (R268, R270, R271). -/
def State.kExpire (s : State) (k : Fin 2) (c : Fin 16) (r : KRequest) : State :=
  let s := s.advance r.deadline
  let x := s.kctx k c
  let (len, n) := x.reuseLen r.prob
  let at_ := s.kReuseAt (ceilTo (clockPeriod (s.get ISL_CLK.KILN_SEL)) (3 * s.now)) n len
  let s := (s.setKctx k c { x.unqueue with warm := false
                                           late := some { at_ := at_, result := x.reuseFor r (if r.boundOver then 768 else 256) 0 0, task := r.task } })
  (s.flag (KC_STAT.DEADLINE k c)).showPhase k c

/-- A running solve stopped at the first Kiln edge from its deadline on (R268). -/
def State.kStop (s : State) (k : Fin 2) (c : Fin 16) (r : KRun) : State :=
  let s := s.advance r.req.deadline
  let u := ceilTo (clockPeriod (s.get ISL_CLK.KILN_SEL)) (3 * s.now)
  (s.setKctx k c { s.kctx k c with running := some { r with stopped := some u } }).flag (KC_STAT.DEADLINE k c)

/-- KILN_DEADLINE: the first deadline of a context passes: a running solve that has not finished is stopped, a queued request is not started
(R268, R271). A queued request of context 0 has no deadline before it starts. -/
def execKilnDeadline (k : Fin 2) (c : Fin 16) (s : State) : Host.Outcome State Fault Refusal :=
  let x := s.kctx k c
  let queued := if c = 0 then none else x.queued
  match x.running, queued with
  | some r, q =>
    let first := match q with | some q => decide (q.deadline < r.req.deadline) | none => false
    let past := r.stopped.isSome || s.kInTime k c r
    match q with
    | some q => .next (if first || past then s.kExpire k c q else s.kStop k c r)
    | none => .next (if past then s else s.kStop k c r)
  | none, some q => .next (s.kExpire k c q)
  | none, none => .next s

/-- KILN_EN_WRITE: 0 abandons queued and running requests with no publication; the cycles of a running one are counted (R271, R275,
R276). -/
def execKilnEnWrite (k : Fin 2) (on : Bool) (s : State) : Host.Outcome State Fault Refusal :=
  let s := (if on then s else s.busyUp k).putB (KN_CTRL.EN k) on
  if on then .next s
  else .next ((finList 16).foldl (fun s c =>
    let x := s.kctx k c
    let s := (s.setKctx k c { x.unqueue with running := none, held := none, late := none }).showPhase k c
    ((s.kilnDone k (x.queued.bind KRequest.task) 1).kilnDone k (x.late.bind KLate.task) 1).kilnDone k (x.running.bind (fun r => r.req.task)) 1) s)

/-- KILN_FLUSH: the warm starts of all contexts discarded (R265). -/
def execKilnFlush (k : Fin 2) (s : State) : Host.Outcome State Fault Refusal :=
  .next ((finList 16).foldl (fun s c => (s.setKctx k c { s.kctx k c with warm := false }).showPhase k c) s)

/-- The planner's result buffer in an instance's plane (R272; log 23). -/
def planRes (k : Fin 2) : Nat := planeAddr k Config.planResult

/-- What tick boundary j does for context 0 (R254, R268, R270, R271): a held result is published, or the reuse when the tick that
ended had no solve; then the queued problem whose SEQ is j starts, an earlier one is discarded. -/
def State.kilnTick (s : State) (k : Fin 2) (j : Nat) : State :=
  if s.is (KN_CTRL.EN k) = false then s
  else
    let x := s.kctx k 0
    let s := match x.held with
      | some r => (s.setKctx k 0 { x with held := none }).publish k 0 r true
      | none => if x.running.isNone then s.publish k 0 (x.reuse x.len ((j + 2 ^ 32 - 1) % 2 ^ 32) 0 0 0 (planRes k)) else s
    let x := s.kctx k 0
    match x.queued with
    | none => s.showPhase k 0
    | some r =>
      if r.prob.seq = j % 2 ^ 32 ∧ s.kBusy k = false then
        (s.setKctx k 0 { x with queued := some { r with deadline := s.now + 900 * 256000 } }).kStart k 0
      else if (j + 2 ^ 32 - r.prob.seq) % 2 ^ 32 < 2 ^ 31 then (s.setKctx k 0 x.unqueue).showPhase k 0
      else s.showPhase k 0

end Sys2Proof.Machine
end

