-- ==== Sys2Proof/Machine/StepAxis.lean ====
section
/-! DEFINITION. Step axes and the stepper drives on joint ports (06 R229 to R244, R249, R250). -/

namespace Sys2Proof.Machine.Stp

open Sys2Proof Sys2Proof.Machine

/-- The turning point of a stop-and-reverse (R234): overshoot, flag, record, then the direction change towards the target. -/
def turned (s : State) (i : Fin 16) (p0 : Int) (t : Nat) : State :=
  let a := s.axis i
  let s := (reversal s i p0).wr (STP_SPD i) 0
  let s := s.setAxis i { a with phase := .rest, v2 := 0, due := none, turn := none, still := s.now, run := false }
  match a.cur with
  | some m => if m.target = pos s i then toRest (finish s i m) i t else orient s i t
  | none => toRest s i t

/-- A change of A while in DECEL (R233): the smaller A keeps d and is deferred with a record, the larger one leads to HOLD. -/
def accChange (s : State) (i : Fin 16) (a2 : Nat) : State :=
  let a := s.axis i
  if a.phase = .decel ∧ a2 ≠ a.acc then
    if a2 < 2 * a.d then
      ((s.setAxis i { a with acc := a2 }).flag (STP_STAT.DECEL_DEFER i)).post 0x0132 0 (s.jointAddr (s.axisJoint i)) [BitVec.ofNat 8 i.val]
    else if 2 * a.d < a2 then s.setAxis i { a with acc := a2, phase := .hold }
    else s.setAxis i { a with acc := a2 }
  else s.setAxis i { a with acc := a2 }

/-- Phase, deceleration and the speed squared at the end of the next interval (R231). -/
def nextSpeed (a : StepAxis) (r a2 vm2 : Nat) : StepAxis × Nat :=
  let a := if (a.phase = .accel ∨ a.phase = .cruise ∨ a.phase = .hold) ∧ 0 < r ∧ a.pass + a2 * r ≤ a.v2 then
      { a with phase := .decel, d := (a.v2 - a.pass + 2 * r - 1) / (2 * r) } else a
  match a.phase with
  | .accel =>
    let n := if a.v2 ≤ vm2 then min (a.v2 + a2) vm2 else max (a.v2 - a2) vm2
    ({ a with phase := if n = vm2 then .cruise else .accel }, n)
  | .decel => (a, if r = 1 then a.pass else a.v2 - 2 * a.d)
  | _ => (a, a.v2)

/-- The steps of the other members that fall within the master's interval after its step n (R236): step k at the master position
k x L_m / L. A member's speed is the master's by the ratio of their steps. -/
def placeMembers (s : State) (i : Fin 16) (n t iv : Nat) : State :=
  let v2 := (s.axis i).v2
  (finList 16).foldl (fun s j =>
    let a := s.axis j
    match a.group with
    | some h =>
      if h.master = i ∧ j ≠ i ∧ h.k < h.li then
        let num := (h.k + 1) * h.lm
        let a := { a with v2 := quot (v2 * (h.li * h.li)) (h.lm * h.lm) }
        let s := s.setAxis j a
        if n * h.li ≤ num ∧ num < (n + 1) * h.li then s.setAxis j { a with due := some (t + quot ((num - n * h.li) * iv) h.li) } else s
      else s
    | none => s) s

/-- Whether a target lies behind a running axis at p (R234): opposite to its direction, or nearer than it can stop. -/
def liesBehind (a : StepAxis) (a2 : Nat) (p : Int) (m : StepMove) : Bool :=
  !(if a.dir then decide (m.target < p) else decide (p < m.target)) || decide (a2 * ((m.target - p).natAbs + 2) < a.v2)

/-- The next interval of an axis that has just stepped, or has just started a move while running (R231 to R236). -/
def next (s : State) (i : Fin 16) (t : Nat) : State :=
  let a := s.axis i
  let a2 := acc s i
  let p := pos s i
  let (s, a) := match a.repl with
    | none => (s, a)
    | some m =>
      let behind := liesBehind a a2 p m
      let a := { a with cur := some m, repl := none, pass := veFrom m p a.queue, phase := .accel, turn := if behind then some p else none }
      ((s.setAxis i a).put (STP_STAT.STATE i) (if behind then 2 else 1), a)
  match a.cur with
  | none => s
  | some m =>
    if a.stopping ∨ a.turn.isSome then
      if a.v2 = 0 then (match a.turn, a.group with | some p0, none => turned s i p0 t | _, _ => toRest s i t)
      else
        let v2n := a.v2 - a2
        shown (s.setAxis i { a with v2 := v2n, acc := a2, due := (interval s i a.v2 v2n).map (t + ·) }) i
    else if a.v2 = 0 then begin_ s i t
    else
      let s := accChange (s.setAxis i a) i a2
      let v := match a.group with | some g => g.v | none => m.v
      let (b, v2n) := nextSpeed (s.axis i) (m.target - p).natAbs a2 (v * v)
      shown (s.setAxis i { b with v2 := v2n, due := (interval s i a.v2 v2n).map (t + ·) }) i

/-- A move of an axis ends at its target: a blended successor goes on at the pass speed, else the axis comes to rest; a successor that
lies behind is a stop-and-reverse whose turning point is the target itself (R231, R234, R235). -/
def arrived (s : State) (i : Fin 16) (m : StepMove) (t : Nat) : State :=
  let s := finish s i m
  let a := s.axis i
  let p := pos s i
  if a.repl.isSome then next s i t
  else match a.queue with
    | q :: rest =>
      if 0 < a.pass then next (s.setAxis i { a with cur := some q, queue := rest, phase := .accel, pass := veFrom q p rest }) i t
      else
        let back := q.target ≠ p ∧ decide (q.target < p) ≠ a.dir ∧ ¬(q.grp ∧ s.is (STP_CFG.GRP_EN i))
        toRest (if back then reversal s i p else s) i t
    | [] => toRest s i t

/-- STEP_DUE: the step at its port edge (R231, R238): pulse, position, count, then the next interval. -/
def due (s : State) (i : Fin 16) (x : Nat) : State :=
  let s := s.advance (edgeOf x)
  let a := s.axis i
  let p := pos s i + (if a.dir then -1 else 1)
  let s := ((s.wr48 (STP_POS_LO i) (STP_POS_HI i) p).count (STP_STEPS i)).wr (STP_SPD i) (speedWord a.v2 a.dir)
  let a := { a with due := none, run := true, pulse := some (edgeOf x + s.get (STP_TIMING.PW i) * portUnits) }
  match a.cur, a.group with
  | none, _ => s.setAxis i a
  | some m, some g =>
    let s := s.setAxis i { a with group := some { g with k := g.k + 1 } }
    if g.master = i then
      let s := if p = m.target ∧ a.stopping = false then s else next s i x
      let iv := match (s.axis i).due with | some y => y - x | none => 0
      let s := placeMembers s i (g.k + 1) x iv
      if p = m.target ∧ a.stopping = false then arrived s i m x
      else if (s.axis i).group.isNone then s.groupRest g
      else s
    else if g.k + 1 = g.li then toRest (finish s i m) i x
    else if a.stopping then toRest s i x
    else s
  | some m, none =>
    let s := s.setAxis i a
    if p = m.target ∧ a.turn.isNone ∧ a.stopping = false then arrived s i m x else next s i x

/-- The causes that keep an axis HALTED: the STO group of its joint's arm, or the driven port tripped (R237). -/
def haltCause (s : State) (i : Fin 16) : Bool :=
  (s.port (s.axisJoint i)).safe || (match s.axisPort i with | some n => s.get (PWM_STAT.STATE n) == 3 || s.is (TRIP_STAT.TRIPPED n) | none => false)

/-- Whether the configuration of an axis may be enabled (R229, R250), and no restart of the periods is pending (R34). -/
def cfgOk (s : State) (i : Fin 16) : Bool :=
  let j := s.axisJoint i
  let port := match s.axisPort i with
    | some n => s.get (PWM_MODE.TOPOLOGY n) == 1 && !s.is (LD_CTRL.EN (curLoop n)) && s.get (LD_STAT.STATE (curLoop n)) == 0
    | none => true
  s.seq.restart.isNone && !(finList 16).any (fun k => k ≠ i && s.is (STP_CTRL.EN k) && s.axisJoint k == j) && !s.is (LD_CTRL.EN (motLoop j)) && port
    && decide (s.get (STP_CFG.USTEP i) ≤ 8) && s.get (STP_CFG.MODE i) != 3
    && decide (4 ≤ s.get (STP_CFG.REL i) ∧ s.get (STP_CFG.REL i) ≤ 60)

end Sys2Proof.Machine.Stp

namespace Sys2Proof.Machine

open Sys2Proof Sys2Proof.Machine.Stp

/-- STP_EN: enables an axis, or refuses; while a cause of R237 is active the axis enters HALTED at once; 0 stops it at once, its group with it, and empties its queue (R229, log 22). Neither value leaves
HALTED, which only CLR does (R237). -/
def execStpEn (i : Fin 16) (on : Bool) (s : State) : Host.Outcome State Fault Refusal :=
  let a := s.axis i
  let halted : Bool := s.get (STP_STAT.STATE i) == 4
  if on then
    if s.is (STP_CTRL.EN i) then .next s
    else if cfgOk s i then
      let s := s.put (STP_CTRL.EN i) 1
      .next (if haltCause s i then s.safeHalt i else if halted then s else startNext i (nowFine s) a.queue s)
    else .next (s.flag (STP_STAT.CFG_REFUSED i))
  else
    let s := s.setAxis i { a.atRest s.now with queue := [] }
    let s := match a.group with | some g => s.stopGroup g (decide (g.master = i)) | none => s
    .next (shown (((s.put (STP_CTRL.EN i) 0).put (STP_STAT.STATE i) (if halted then 4 else 0)).wr (STP_SPD i) 0 |>.put (STP_STAT.GRP_WAIT i) 0) i)

/-- STP_PIN_ARM: drives or releases STP and DIR, refused before release (R250, R601). -/
def execStpPinArm (i : Fin 16) (on : Bool) (s : State) : Host.Outcome State Fault Refusal :=
  if on ∧ s.is PIN_REL.STEP = false ∧ s.is (STP_CTRL.PIN_ARM i) = false then .next (s.flag (STP_STAT.CFG_REFUSED i))
  else .next (s.putB (STP_CTRL.PIN_ARM i) on)

/-- STP_STOP: decelerates at A to rest and flushes the queue (R237); a group stops with its member (R236). -/
def execStpStop (i : Fin 16) (s : State) : Host.Outcome State Fault Refusal :=
  let a := { s.axis i with queue := [], repl := none }
  let s := s.put (STP_STAT.GRP_WAIT i) 0
  if a.cur.isNone then .next (shown (s.setAxis i a) i)
  else match a.group with
    | some g => .next (shown ((s.setAxis i a).stopGroup g false) i)
    | none =>
      if a.due.isNone then .next (toRest (s.setAxis i a) i (nowFine s))
      else .next (shown ((s.setAxis i { a with stopping := true, turn := none }).put (STP_STAT.STATE i) 3) i)

/-- STP_ABORT: stops at once and flushes the queue (R237). -/
def execStpAbort (i : Fin 16) (s : State) : Host.Outcome State Fault Refusal :=
  let a := s.axis i
  let halted := s.get (STP_STAT.STATE i) = 4
  let s := (s.setAxis i { a.atRest s.now with queue := [] }).put (STP_STAT.GRP_WAIT i) 0
  let s := match a.group with | some g => s.stopGroup g (decide (g.master = i)) | none => s
  .next (shown ((s.wr (STP_SPD i) 0).put (STP_STAT.STATE i) (if halted then 4 else 0)) i)

/-- STP_CLR: leaves HALTED, and clears POS_DOUBT, only while no cause is active; the queue of an enabled axis then runs on (R237,
R250). -/
def execStpClr (i : Fin 16) (s : State) : Host.Outcome State Fault Refusal :=
  if s.get (STP_STAT.STATE i) = 4 ∧ haltCause s i = false then
    let s := (s.put (STP_STAT.STATE i) 0).put (STP_STAT.POS_DOUBT i) 0
    .next (if s.is (STP_CTRL.EN i) then startNext i (nowFine s) (s.axis i).queue s else s)
  else .next s

/-- The target behind which a move is pushed: of the last move queued, of the replacement, of the move in execution, or the
position. -/
def State.lastTarget (s : State) (i : Fin 16) : Int :=
  let a := s.axis i
  match a.queue.getLast?, a.repl, a.cur with
  | some m, _, _ => m.target
  | none, some m, _ => m.target
  | none, none, some m => m.target
  | none, none, none => Stp.pos s i

/-- STEP_MOVE_PUSH: a write of STP_MV_CMD with PUSH queues the staged move (R230, R234 to R236, R249); a replacement flushes the
queue and takes effect at the next interval, which for an axis that waits to start is its start; of a group member it stops the group,
and as a group move of an axis that moves alone it stops the axis, which then waits for its group at rest (log 22); a full queue ignores the push. -/
def execStepMovePush (i : Fin 16) (v : Word) (s : State) : Host.Outcome State Fault Refusal :=
  let a := s.axis i
  let replace := v.getLsbD 3
  if v.getLsbD 0 = false then .next s
  else if ¬ replace ∧ 16 ≤ a.queue.length then .next (s.flag (STP_STAT.Q_FULL i))
  else
    let x := s.rd48 (STP_MV_TGT_LO i) (STP_MV_TGT_HI i)
    let from_ := if replace then Stp.pos s i else s.lastTarget i
    let m : StepMove := { target := if v.getLsbD 1 then from_ + x else x, v := min (s.rd (STP_MV_V i)).toNat (s.rd (STP_VLIM i)).toNat
                          blend := v.getLsbD 2, grp := v.getLsbD 4, id := getBits v 16 16 }
    let p := Stp.pos s i
    let a2 := accOf s i
    let idle := s.is (STP_CTRL.EN i) && s.get (STP_STAT.STATE i) == 0 && a.cur.isNone
    let q1 := withVe a2 p (if replace then [m] else a.queue ++ [m])
    if idle then .next (if haltCause s i then (s.setAxis i { a with queue := q1 }).safeHalt i else startNext i (nowFine s) q1 s)
    else if replace then
      match a.group, a.due with
      | some g, _ =>
        let turn := if liesBehind a a2 p m then some p else none
        .next (shown ((s.setAxis i { a with queue := [m], turn := turn }).stopGroup g false) i)
      | none, some _ =>
        if m.grp ∧ s.is (STP_CFG.GRP_EN i) then
          .next (shown ((s.setAxis i { a with queue := [m], repl := none, stopping := true, turn := none }).put (STP_STAT.STATE i) 3) i)
        else .next (shown (s.setAxis i { a with queue := [], repl := some m, stopping := false }) i)
      | none, none =>
        if a.cur.isSome then .next (startNext i (nowFine s) [m] (s.setAxis i { a with cur := none, pass := 0, queue := [] }))
        else .next (shown ((s.setAxis i { a with queue := [m] }).put (STP_STAT.GRP_WAIT i) 0) i)
    else
      let q := a.queue ++ [m]
      match a.repl, a.cur with
      | some c, _ =>
        let l := withVe a2 p (c :: q)
        .next (shown (s.setAxis i { a with repl := l.head?, queue := l.tail }) i)
      | none, some c =>
        let l := withVe a2 p (c :: q)
        let ve := if a.group.isSome then 0 else veFrom (l.headD c) p l.tail
        .next (shown (s.setAxis i { a with queue := l.tail, pass := ve,
                                           phase := if a.phase = .decel ∧ a.pass < ve then (if a.v2 < ve then .accel else .hold) else a.phase }) i)
      | none, none => .next (shown (s.setAxis i { a with queue := withVe a2 p q }) i)

/-- STEP_PRESET: a write of STP_SET_HI loads the position, in IDLE only (R230). -/
def execStepPreset (i : Fin 16) (hi : BitVec 16) (s : State) : Host.Outcome State Fault Refusal :=
  let s := s.wr (STP_SET_HI i) (hi.setWidth 32)
  if s.get (STP_STAT.STATE i) = 0 then .next (s.wr48 (STP_POS_LO i) (STP_POS_HI i) (pair48 (s.rd (STP_SET_LO i)) (hi.setWidth 32))) else .next s

/-- STEP_ACC_WRITE: the acceleration of the next interval computed (R232, R233). -/
def execStepAccWrite (i : Fin 16) (v : Word) (s : State) : Host.Outcome State Fault Refusal := .next (s.wr (STP_ACC i) v)

/-- STEP_CFG_WRITE: applied only while EN = 0 (R229, R240); PW below 2 is refused (log 22). -/
def execStepCfgWrite (i : Fin 16) (r : StpCfg) (v : Word) (s : State) : Host.Outcome State Fault Refusal :=
  if s.is (STP_CTRL.EN i) then .next (s.flag (STP_STAT.CFG_REFUSED i))
  else match r with
    | .cfg => .next (s.wr (STP_CFG i) v)
    | .timing => .next (if getBits v 0 16 < 2 then s.flag (STP_STAT.CFG_REFUSED i) else s.wr (STP_TIMING i) v)
    | .table k => .next (s.wr (UST_ENTRY i k) (v &&& 0x00FFFFFF))

/-- STEP_DUE. -/
def execStepDue (i : Fin 16) (s : State) : Host.Outcome State Fault Refusal :=
  match (s.axis i).due with
  | none => .next s
  | some x => .next (Stp.due s i x)

/-- STEP_PULSE_END: the pulse ends PW port cycles after its start, and a direction change that waits is made (R234, R238). -/
def execStepPulseEnd (i : Fin 16) (s : State) : Host.Outcome State Fault Refusal :=
  match (s.axis i).pulse with
  | none => .next s
  | some t =>
    let s := s.advance t
    let a := { s.axis i with pulse := none }
    let s := s.setAxis i a
    .next (if a.cur.isSome ∧ a.due.isNone then orient s i (fine t) else s)

/-- STEP_DSETUP_EXPIRY: the direction setup time ends and the axis starts from rest, if it has a move (R234). -/
def execStepDsetupExpiry (i : Fin 16) (s : State) : Host.Outcome State Fault Refusal :=
  match (s.axis i).dsetup with
  | none => .next s
  | some t =>
    let s := s.advance t
    .next (orient (s.setAxis i { s.axis i with dsetup := none }) i (fine t))

/-- The enabled axes of an interpolation group (R236). -/
def State.groupMembers (s : State) (g : Fin 8) : List (Fin 16) :=
  (finList 16).filter (fun i => s.is (STP_CTRL.EN i) && s.is (STP_CFG.GRP_EN i) && s.get (STP_CFG.GROUP i) == g.val)

/-- STEP_GROUP_START: the group starts when every member, in IDLE, holds a GRP move at the head of its queue (R236). The member with
the longest move is the master. A member that has to turn while its last pulse still lasts holds the start back: the command then does
nothing, and comes again after the pulse (R234; log 22). -/
def execStepGroupStart (g : Fin 8) (s : State) : Host.Outcome State Fault Refusal :=
  let ms := s.groupMembers g
  let heads := ms.filterMap (fun i => match (s.axis i).queue, (s.axis i).cur with
    | m :: _, none => if m.grp ∧ s.get (STP_STAT.STATE i) = 0 then some (i, m, (m.target - Stp.pos s i).natAbs) else none
    | _, _ => none)
  let turns := fun (q : Fin 16 × StepMove × Nat) => decide (q.2.2 ≠ 0) && (decide (q.2.1.target < Stp.pos s q.1) != (s.axis q.1).dir)
  if ms.isEmpty ∨ heads.length ≠ ms.length ∨ heads.any (fun q => turns q && (s.axis q.1).pulse.isSome) then .next s
  else
    let longest := heads.foldl (fun (b : Fin 16 × Nat) (q : Fin 16 × StepMove × Nat) => if b.2 < q.2.2 then (q.1, q.2.2) else b) (ms.headD 0, 0)
    let (mst, lm) := longest
    if lm = 0 then
      .next (heads.foldl (fun s (q : Fin 16 × StepMove × Nat) =>
        startNext q.1 (nowFine s) ((s.axis q.1).queue.drop 1) ((finish s q.1 q.2.1).put (STP_STAT.GRP_WAIT q.1) 0)) s)
    else
      let v := heads.foldl (fun b (q : Fin 16 × StepMove × Nat) => if q.2.2 = 0 then b else min b (quot (q.2.1.v * lm) q.2.2)) (2 ^ 32)
      let s := heads.foldl (fun s (q : Fin 16 × StepMove × Nat) =>
        let a := s.axis q.1
        let s := s.put (STP_STAT.GRP_WAIT q.1) 0
        if q.2.2 = 0 then startNext q.1 (nowFine s) (a.queue.drop 1) (finish s q.1 q.2.1)
        else
          let rev := decide (q.2.1.target < Stp.pos s q.1)
          let a := { a with cur := some q.2.1, queue := a.queue.drop 1, group := some { master := mst, lm := lm, li := q.2.2, v := v }, dir := rev
                            dsetup := if rev ≠ a.dir then some (s.now + s.get (STP_TIMING.DSETUP q.1) * portUnits) else a.dsetup }
          shown ((s.setAxis q.1 a).put (STP_STAT.STATE q.1) 1) q.1) s
      let start := heads.foldl (fun b (q : Fin 16 × StepMove × Nat) => match (s.axis q.1).dsetup with | some t => max b t | none => b) s.now
      let s := heads.foldl (fun s (q : Fin 16 × StepMove × Nat) => s.setAxis q.1 { s.axis q.1 with dsetup := none }) s
      let t := fine (ceilTo portUnits start)
      let s := begin_ s mst t
      let iv := match (s.axis mst).due with | some y => y - t | none => 0
      .next (placeMembers s mst 0 t iv)

/-- A drive's voltage, current and mode inputs: the value of a sample word and whether OFF or STUCK marks it (R134). -/
def sampleOk (w : Word) : Bool := !(w.getLsbD 25 || w.getLsbD 26)

/-- The coil values of a microstep index (R240). -/
def State.coils (s : State) (i : Fin 16) (m : Nat) : Int × Int :=
  let k := m % 256
  let t := fun (x : Nat) => if x = 256 then (8388608 : Int) else (s.rd (UST_ENTRY i (fin 256 x))).toNat
  match m / 256 % 4 with
  | 0 => (t (256 - k), t k)
  | 1 => (-(t k), t (256 - k))
  | 2 => (-(t (256 - k)), -(t k))
  | _ => (t k, -(t (256 - k)))

/-- One coil's command in strong mode: the PI of R183 on the current error, entered without a step (R241, R242). -/
def chopper (entering : Bool) (u0 i : Rat) (sat : Int) (kp ki e : Rat) : Rat × Rat × Int :=
  let i := if entering then u0 - kp * e else i
  let (u, i') := piStep false i sat kp ki 1 e
  let v := clampRat (-1) 1 u
  (v, i', limSign u v)

/-- Whether a step of an axis is due before an instant: the one placed, or of a group member the one that its master will place on its way there
(R236, R243). -/
def dueWithin (i : Fin 16) (t : Time) : Nat → State → Bool
  | 0, _ => false
  | n + 1, s =>
    match (s.axis i).due, (s.axis i).group with
    | some x, _ => decide (edgeOf x < t)
    | none, some g =>
      match (s.axis g.master).due with
      | some x => if edgeOf x < t then dueWithin i t n (Stp.due s g.master x) else false
      | none => false
    | none, none => false

/-- STEPPER_DRIVE_RUN (R239 to R243): microstep index of the centre of the frame, coil commands, duties, both shadow banks. -/
def execStepperDriveRun (i : Fin 16) (s : State) : Host.Outcome State Fault Refusal :=
  match s.axisPort i with
  | none => .next s
  | some n =>
    if s.is (STP_CTRL.EN i) = false then .next s
    else
      let a := s.axis i
      let spd := signed 32 (s.rd (STP_SPD i)).toNat
      let rel := s.get (STP_CFG.REL i)
      let num : Int := (Stp.pos s i * 4194304000000000 + spd * ((rel + 32) * s.period : Nat)) * 256
      let m := ((num / (4194304000000000 * 2 ^ s.get (STP_CFG.USTEP i) : Nat)) % 1024).toNat
      let c := s.coils i m
      let cA : Rat := (c.1 : Rat) / 8388608
      let cB : Rat := (c.2 : Rat) / 8388608
      let frameEnd := s.release n + s.period
      let first := dueWithin i frameEnd 1300 s
      let s := if first then s.put (STP_STAT.HOLDI i) 0 else s
      let unsignedQ := fun (r : Reg) => ((s.rd r).toNat % 2 ^ 24 : Rat) / 8388608
      let irun := unsignedQ (STP_IRUN i)
      let kappa := if s.is (STP_STAT.HOLDI i) then (if irun = 0 then Config.holdRatio (s.rd (STP_IHOLD i)).toNat else unsignedQ (STP_IHOLD i) / irun) else 1
      let mode := s.get (STP_CFG.MODE i)
      let was := s.is (STP_STAT.STRONG i)
      let strong := if mode = 1 then false else if mode = 2 then true
        else if (s.rd (STP_QTH_HI i)).toNat ≤ spd.natAbs then true else if spd.natAbs ≤ (s.rd (STP_QTH_LO i)).toNat then false else was
      let s := s.putB (STP_STAT.STRONG i) strong
      let p80 : Fin 80 := fin 80 n.val
      let wa := s.rd (SDF_SAMPLE_A p80)
      let wb := s.rd (SDF_SAMPLE_B p80)
      let wv := s.rd (SDF_SAMPLE_A (fin 80 (64 + n.val / 8)))
      let vdc := ofQ (getBits wv 0 24)
      let good := if strong then sampleOk wa && sampleOk wb else sampleOk wv && decide (0 < vdc)
      if good = false then
        let s := (s.bump (STP_BAD i)).setAxis i { a with inStrong := a.inStrong && strong }
        let w := [(0xFFFFFD, 0), (0xFFFFFD, 0), (0xFFFFFD, 0), (0xFFFFFD, 0)]
        .next ([0, 1].foldl (fun s (pl : Fin 2) =>
          ((legList.zip w).foldl (fun s (q : Fin 4 × (Nat × Nat)) => (s.wr (EW_RISE n pl q.1) (BitVec.ofNat 32 q.2.1)).wr (EW_FALL n pl q.1) 0) s).commitEw n [pl]
            (s.rd PERIOD_CNT).toNat) s)
      else
        let kp := ofScaled (s.rd (STP_KP i))
        let ki := ofScaled (s.rd (STP_KI i))
        let quiet := fun (c : Rat) => let x := unsignedQ (STP_QV i) * kappa * c / vdc; clampRat (-1) 1 x
        let xa := if strong then chopper (!a.inStrong) a.uA a.iA a.satA kp ki (irun * kappa * cA - ofQ (getBits wa 0 24)) else (quiet cA, a.iA, 0)
        let xb := if strong then chopper (!a.inStrong) a.uB a.iB a.satB kp ki (irun * kappa * cB - ofQ (getBits wb 0 24)) else (quiet cB, a.iB, 0)
        let s := s.setAxis i { a with iA := xa.2.1, iB := xb.2.1, uA := xa.1, uB := xb.1, satA := xa.2.2, satB := xb.2.2, inStrong := strong }
        let w := [(1 + xa.1) / 2, (1 - xa.1) / 2, (1 + xb.1) / 2, (1 - xb.1) / 2].map (dutyWords s.period)
        .next ([0, 1].foldl (fun s (pl : Fin 2) =>
          ((legList.zip w).foldl (fun s (q : Fin 4 × (Nat × Nat)) =>
            (s.wr (EW_RISE n pl q.1) (BitVec.ofNat 32 q.2.1)).wr (EW_FALL n pl q.1) (BitVec.ofNat 32 q.2.2)) s).commitEw n [pl] (s.rd PERIOD_CNT).toNat) s)

/-- STEP_HOLD_CURRENT: STP_HOLD_DLY after standstill the drive lowers to hold current (R243). -/
def execStepHoldCurrent (i : Fin 16) (s : State) : Host.Outcome State Fault Refusal :=
  let a := s.axis i
  if s.is (STP_CTRL.EN i) ∧ a.run = false then
    .next ((s.advance (a.still + (s.rd (STP_HOLD_DLY i)).toNat * 256000)).put (STP_STAT.HOLDI i) 1)
  else .next s

/-- The level of STP<i>, none while it is high-impedance: high in a pulse, or low with STEP_POL; the level between pulses where OUT does
not select the pins (R250, R601; log 22). -/
def State.stpBall (s : State) (i : Fin 16) : Option Bool :=
  if s.is (STP_CTRL.PIN_ARM i) ∧ s.is PIN_REL.STEP then
    some (((s.get (STP_CFG.OUT i)).testBit 0 && (s.axis i).pulse.isSome) != s.is (STP_CFG.STEP_POL i))
  else none

/-- The level of DIR<i>, none while it is high-impedance: high in reverse, or low with DIR_INV; forward where OUT does not select the pins
(R250, R601; log 22). -/
def State.dirBall (s : State) (i : Fin 16) : Option Bool :=
  if s.is (STP_CTRL.PIN_ARM i) ∧ s.is PIN_REL.STEP then
    some (((s.get (STP_CFG.OUT i)).testBit 0 && (s.axis i).dir) != s.is (STP_CFG.DIR_INV i))
  else none

end Sys2Proof.Machine
end

