-- ==== Sys2Proof/Machine/Planner.lean ====
section
/-! DEFINITION. The motion planner (06 R207 to R226, R245 to R248): nominal paths over exact rationals in nominal time. -/

namespace Sys2Proof.Machine

open Sys2Proof

/-- The state of an arm of the planner. -/
def State.arm (s : State) (a : Fin 8) : ArmState := tget s.arms a {}

/-- An arm given a state. -/
def State.setArm (s : State) (a : Fin 8) (x : ArmState) : State := { s with arms := tset s.arms a x }

/-- The joints of an arm. -/
def jointList : List (Fin 8) := [0, 1, 2, 3, 4, 5, 6, 7]

/-- The joints that take part: those whose motion loop is enabled (R207). -/
def State.joints (s : State) (a : Fin 8) : List (Fin 8) := jointList.filter (fun j => s.is (LD_CTRL.EN (motLoop (portOf a j))))

/-- JNT_VMAX in count/s and JNT_AMAX in count/s^2 (R208). -/
def State.vmax (s : State) (a j : Fin 8) : Rat := (unsignedOf 48 (s.rd48 (JNT_VMAX_LO a j) (JNT_VMAX_HI a j)) : Nat) / 256
/-- See `State.vmax`. -/
def State.amax (s : State) (a j : Fin 8) : Rat := (unsignedOf 48 (s.rd48 (JNT_AMAX_LO a j) (JNT_AMAX_HI a j)) : Nat)

/-- The smallest of a list of values; none for the empty list. -/
def minOf : List Rat → Option Rat
  | [] => none
  | x :: t => match minOf t with | some y => some (min x y) | none => some x

/-- ARM_ACC_SHARE, PLN_MARGIN and ARM_OVR as values; ARM_OVR 0x7F_FFFF stands for 1 (R245, R247). -/
def State.accShare (s : State) (a : Fin 8) : Rat := ofQ (s.rd (ARM_ACC_SHARE a)).toNat
/-- See `State.accShare`. -/
def State.margin (s : State) : Rat := ((s.rd PLN_MARGIN).toNat % 2 ^ 24 : Nat) / 8388608
/-- See `State.accShare`. -/
def State.override (s : State) (a : Fin 8) : Rat := let v := getBits (s.rd (ARM_OVR a)) 0 24; if v = 0x7FFFFF then 1 else ofQ v

/-- The scaling rate of an arm, per second, over its joints (R207, R208). -/
def State.armRate (s : State) (a : Fin 8) : Rat :=
  (minOf (((s.joints a).filter (fun j => decide (s.vmax a j ≠ 0 ∧ s.amax a j ≠ 0))).map (fun j => (1 - s.accShare a) * s.amax a j / s.vmax a j))).getD 0

/-- A value as a whole number: a whole value is itself, another is one of its two neighbours (log 24). -/
def planInt (x : Rat) : Int := if x.den = 1 then x.num else x.floor + (if Config.planUp x then 1 else 0)

/-- A value rounded to the nearest whole number; at a tie to one of the two nearest (R223, log 24). -/
def planNearest (x : Rat) : Int := if x.den = 2 then x.floor + (if Config.planUp x then 1 else 0) else (x + 1 / 2).floor

/-- ARM_RATE: the scaling rate as it reads (R208). -/
def State.rateWord (s : State) (a : Fin 8) : Word := BitVec.ofNat 32 (min 0xFFFFFF (planInt (s.armRate a * 65536)).toNat)

/-- ARM_STAT as it reads: SAFE_REQ is the stop request that the safety island publishes now (R248). -/
def State.armStat (s : State) (a : Fin 8) : Word := putBits (s.rd (ARM_STAT a)) 9 1 (s.get (SI_ARM_STAT.STOP_REQ a))

/-- The profile of a segment at a nominal time since its start: share, speed and acceleration (R212, R215). -/
def Shape.at_ (sh : Shape) (t : Rat) : Rat × Rat × Rat :=
  if t < 0 then (match sh with | .ramp _ => (0, 0, 0) | _ => (0, 0, 0))
  else match sh with
    | .dwell | .stay => (0, 0, 0)
    | .ramp tr => if t < tr then (t - t * t / (2 * tr), 1 - t / tr, -1 / tr) else (tr / 2, 0, 0)
    | .profile acc ta peak =>
      let dur := ta + 1 / peak
      if t < ta then (acc * t * t / 2, acc * t, acc)
      else if t < dur - ta then (acc * ta * ta / 2 + peak * (t - ta), peak, 0)
      else if t < dur then (1 - acc * (dur - t) * (dur - t) / 2, acc * (dur - t), -acc)
      else (1, 0, 0)

/-- Position, speed and acceleration of a joint on the path at a nominal time, at scale 1: the sum of the displacements (R212,
R213). -/
def ArmState.eval (x : ArmState) (j : Fin 8) (tau : Rat) : Rat × Rat × Rat :=
  x.path.foldl (fun (q : Rat × Rat × Rat) (g : Segment) =>
    let d := g.disp.getD j.val 0
    let (p, v, a) := g.shape.at_ (tau - g.at_)
    (q.1 + d * p, q.2.1 + d * v, q.2.2 + d * a)) (x.base.getD j.val 0, 0, 0)

/-- Whether a segment has not ended at a nominal time: one that may not accelerate never ends (R212). -/
def Segment.lasts (g : Segment) (tau : Rat) : Bool := g.shape == .stay || decide (tau < g.at_ + g.dur)

/-- Whether the path has not ended. -/
def ArmState.going (x : ArmState) : Bool := x.path.any (fun g => g.lasts x.tau)

/-- Whether the path ends in a segment that never ends. -/
def ArmState.stays (x : ArmState) : Bool := x.path.any (fun g => g.shape == .stay)

/-- Where the path ends in nominal time, and where each joint stands then. -/
def ArmState.endTau (x : ArmState) : Rat := x.path.foldl (fun m (g : Segment) => max m (g.at_ + g.dur)) 0
/-- See `ArmState.endTau`. -/
def ArmState.endPos (x : ArmState) (j : Fin 8) : Rat := (x.eval j (x.endTau + 1)).1

/-- A square root of a nominal path: exact where it is rational, else at most 2^-40 below the exact one (R212; log 24). -/
def planRoot (x : Rat) : Rat :=
  let n := isqrt x.num.toNat
  let d := isqrt x.den
  if n * n = x.num.toNat ∧ d * d = x.den then (n : Rat) / (d : Rat)
  else ((isqrt (x.num.toNat * x.den * 2 ^ 128) : Nat) : Rat) / ((x.den * 2 ^ 64 : Nat) : Rat) - |within (1 / 2 ^ 41) (Config.planSqrt x)|

/-- The segment of a joint move from given positions (R212); a move with no displacement takes no time. With ARM_ACC_SHARE at 0 or below
the profile may not accelerate: the arm stays where it is and the move never ends (R208, R212; DEDUCED, log 61). -/
def State.segmentOf (s : State) (a : Fin 8) (m : Move) (from_ : List Rat) (at_ : Rat) : Segment :=
  let mine := fun (j : Fin 8) => m.jmask.testBit j.val
  let disp := jointList.map (fun j => if mine j ∧ m.kind ≠ 2 then
    (let t : Rat := (m.tgt.getD j.val 0 : Int); if m.kind = 0 then t - from_.getD j.val 0 else t) else 0)
  let move := jointList.filter (fun j => decide (disp.getD j.val 0 ≠ 0))
  if m.kind = 2 then { id := m.id, at_ := at_, dur := (m.dwellUs : Rat) / 1000000, shape := .dwell, disp := [] }
  else
    match minOf (move.map (fun j => (m.vfrac : Rat) / 65536 * s.vmax a j / |disp.getD j.val 0|)),
        minOf (move.map (fun j => (m.afrac : Rat) / 65536 * s.accShare a * s.amax a j / |disp.getD j.val 0|)) with
    | some sd, some sdd =>
      if sdd ≤ 0 then { id := m.id, at_ := at_, dur := 0, shape := .stay, disp := disp, afrac := m.afrac } else
      let ta := if sdd ≤ sd * sd then planRoot (1 / sdd) else sd / sdd
      let peak := sdd * ta
      { id := m.id, at_ := at_, dur := ta + 1 / peak, shape := .profile sdd ta peak, disp := disp, afrac := m.afrac }
    | _, _ => { id := m.id, at_ := at_, dur := 0, shape := .dwell, disp := [] }

/-- The deceleration and acceleration time of a segment. -/
def Segment.ta (g : Segment) : Rat := match g.shape with | .profile _ ta _ => ta | .ramp t => t | .dwell | .stay => 0

/-- Whether a joint moves in opposite directions in two segments (R213, R214). -/
def opposes (g h : Segment) : Bool := jointList.any (fun j => decide (g.disp.getD j.val 0 * h.disp.getD j.val 0 < 0))

/-- A move appended to the path (R212 to R214): blended into its predecessor, which must be a joint move still to end, or after
it. `full` asks for the whole ramp of the predecessor (R215). -/
def State.appendMove (s : State) (a : Fin 8) (m : Move) (full : Bool) : State :=
  let x := s.arm a
  let from_ := jointList.map x.endPos
  let g := s.segmentOf a m from_ 0
  let at_ := match x.path.getLast? with
    | some p =>
      let joint := match p.shape with | .dwell => false | _ => true
      if (m.blend || full) && joint && m.kind ≠ 2 && !opposes p g && decide (x.tau < p.at_ + p.dur) then
        let want := if full then p.ta else (m.blendUs : Rat) / 1000000
        max x.tau (p.at_ + p.dur - min want (min p.ta g.ta))
      else max x.tau x.endTau
    | none => max x.tau x.endTau
  s.setArm a { x with path := x.path ++ [{ g with at_ := at_ }] }

/-- The moves behind the path appended to it up to the next timed one (R216). -/
def State.extendPath (s : State) (a : Fin 8) : Nat → State
  | 0 => s
  | n + 1 =>
    match (s.arm a).queue with
    | m :: rest =>
      if m.start.isSome ∨ (s.arm a).stays then s else ((s.setArm a { s.arm a with queue := rest }).appendMove a m false).extendPath a n
    | [] => s

/-- The move in execution: of the segments that have begun and not ended, the last. -/
def ArmState.present (x : ArmState) : Option Segment :=
  (x.path.filter (fun (g : Segment) => decide (g.at_ ≤ x.tau) && g.lasts x.tau)).getLast?

/-- The replacement of R215 at the instant it takes effect: the queue flushed, the present move ended by a ramp at its own acceleration
along the present line, then the new move, blended when no joint reverses. A timed one then waits at rest for its START (R216). -/
def State.replaceMove (s : State) (a : Fin 8) (m : Move) : State :=
  let x := s.arm a
  let now := jointList.map (fun j => x.eval j x.tau)
  let v := now.map (fun (q : Rat × Rat × Rat) => q.2.1)
  let (id, afrac) := match x.present with | some g => (g.id, g.afrac) | none => (m.id, m.afrac)
  let accOf := fun (j : Fin 8) => (afrac : Rat) / 65536 * s.accShare a * s.amax a j
  let tr := jointList.foldl (fun t j => if v.getD j.val 0 = 0 ∨ accOf j = 0 then t else max t (|v.getD j.val 0| / accOf j)) 0
  let ramp : Segment := { id := id, at_ := x.tau, dur := tr, shape := .ramp tr, disp := v, afrac := afrac }
  let s := s.setArm a { x with base := now.map Prod.fst, path := if tr = 0 then [] else [ramp], queue := [] }
  let s := jointList.foldl (fun s j => s.wr48 (JNT_OVS_LO a j) (JNT_OVS_HI a j) (planInt |v.getD j.val 0 * tr / 2|)) s
  let rev := opposes ramp (s.segmentOf a m (jointList.map (s.arm a).endPos) 0)
  let s := if m.start.isSome then s.setArm a { s.arm a with queue := [m] } else s.appendMove a { m with blend := false } (!rev)
  if rev then (s.flag (ARM_STAT.REVERSED a)).post 0x0130 0 (s.armAddr a) (leBytes 2 m.id) else s

/-- The records a planner task took become part of the path at their tick (R215, R217). -/
def State.install (s : State) (a : Fin 8) (ms : List Move) : State :=
  let s := ms.foldl (fun s m => if m.replace then s.replaceMove a m else s.setArm a { s.arm a with queue := (s.arm a).queue ++ [m] }) s
  s.extendPath a 64

/-- ARM_QDEPTH: the records that wait, and the moves of the path that have not begun. -/
def State.armDepth (s : State) (a : Fin 8) : Nat :=
  let x := s.arm a
  x.inbox.length + x.ready.length + (x.taken.map (fun (q : Nat × List Move) => q.2.length)).sum + x.queue.length
    + (x.path.filter (fun (g : Segment) => decide (x.tau < g.at_))).length

/-- ARM_QDEPTH shown. -/
def State.showDepth (s : State) (a : Fin 8) : State := s.wr (ARM_QDEPTH a) (BitVec.ofNat 32 (s.armDepth a))

/-- The queue of an arm flushed, its path restarted at the present set-points (R225). -/
def State.flushArm (s : State) (a : Fin 8) : State :=
  let x := s.arm a
  (s.setArm a { x with inbox := [], ready := [], taken := [], queue := [], path := [], base := x.sp, tau := 0, startAt := none }).showDepth a

/-- ARM_CTRL_EN: an arm enabled for planning from its last delivered positions, or refused, also where STP_CFG assigns a step axis that is
not enabled to one of its joints (log 51); 0 flushes its queue (R207, R225). -/
def execArmCtrlEn (a : Fin 8) (on : Bool) (s : State) : Host.Outcome State Fault Refusal :=
  if on then
    if s.is (ARM_CTRL.EN a) then .next s
    else
      let js := s.joints a
      let clash := (finList 16).any (fun i => js.any (fun j => s.axisJoint i == portOf a j))
      if js.isEmpty ∨ clash then .next (s.flag (ARM_STAT.CFG_REFUSED a))
      else
        let pos := fun (j : Fin 8) => let fb := s.loopFb (motLoop (portOf a j)); s.rd48 (FB_PSAMP_LO fb) (FB_PSAMP_HI fb)
        let q : List Rat := jointList.map (fun j => (pos j : Rat))
        let s := ((s.put (ARM_CTRL.EN a) 1).put (ARM_STAT.STATE a) 0).setArm a { (s.arm a) with inbox := [], ready := [], taken := [], queue := [], path := [], base := q, sp := q, tau := 0, cmds := [], ran := [], startAt := none }
        let s := js.foldl (fun s j =>
          let d := motLoop (portOf a j)
          let s := (s.wr48 (LD_SP_POS_LO d) (LD_SP_POS_HI d) (pos j)).wr (LD_SP_VEL d) 0
          let s := s.updOther d (fun x => { x with lo := lo48 (pos j), hi := hi48 (pos j), vel := 0, tff := 0 })
          (s.wr (LD_SP_TFF d) 0).setLoop d { s.loop d with sp := (pos j, 0, 0) }) s
        .next (s.showDepth a)
  else .next (((s.put (ARM_CTRL.EN a) 0).put (ARM_STAT.STATE a) 0).flushArm a)

/-- A command that acts in the next interpolator run (R225). -/
def State.armCmd (s : State) (a : Fin 8) (c : Nat) : State := s.setArm a { s.arm a with cmds := (s.arm a).cmds ++ [c] }

/-- ARM_PAUSE. -/
def execArmPause (a : Fin 8) (s : State) : Host.Outcome State Fault Refusal := .next (s.armCmd a 1)

/-- ARM_RESUME. -/
def execArmResume (a : Fin 8) (s : State) : Host.Outcome State Fault Refusal := .next (s.armCmd a 2)

/-- ARM_ABORT. -/
def execArmAbort (a : Fin 8) (s : State) : Host.Outcome State Fault Refusal := .next (s.armCmd a 3)

/-- ARM_CLR. -/
def execArmClr (a : Fin 8) (s : State) : Host.Outcome State Fault Refusal := .next (s.armCmd a 4)

/-- The verdict on a move record (R211): 0 accepted; 1 queue full; 2 a fraction of 0, a reserved field not zero or a malformed START (02 R53); 3 a joint whose
motion loop is not enabled; 4 a joint without limits; 5 a target outside the soft limits; 6 EN = 0. -/
def State.judgeMove (s : State) (a : Fin 8) (m : Move) (reserved : Bool) : Nat :=
  let mine := jointList.filter (fun j => m.jmask.testBit j.val)
  if s.is (ARM_CTRL.EN a) = false then 6
  else if 64 ≤ s.armDepth a then 1
  else if m.vfrac = 0 ∨ m.afrac = 0 ∨ reserved ∨ 2 < m.kind then 2
  else if mine.any (fun j => !s.is (LD_CTRL.EN (motLoop (portOf a j)))) then 3
  else if mine.any (fun j => decide (s.vmax a j = 0 ∨ s.amax a j = 0)) then 4
  else if m.kind = 0 ∧ mine.any (fun j => let u := s.fb (s.loopFb (motLoop (portOf a j))); decide (m.tgt.getD j.val 0 < u.lo ∨ u.hi < m.tgt.getD j.val 0)) then 5
  else 0

/-- A move record offered to an arm's queue (R211): the state and the verdict. -/
def State.offerMove (s : State) (a : Fin 8) (m : Move) (reserved : Bool) : State × Nat :=
  let v := s.judgeMove a m reserved
  if v = 0 then ((s.setArm a { s.arm a with inbox := (s.arm a).inbox ++ [m] }).showDepth a, 0)
  else if v = 1 then (s.flag (ARM_STAT.Q_FULL a), 1)
  else (s, v)

/-- The arms that take part in planning. -/
def State.armsOn (s : State) : List (Fin 8) := (finList 8).filter (fun a => s.is (ARM_CTRL.EN a))

/-- The synchronisation groups of the enabled arms, in the order of their lowest arms (R219). -/
def State.groups (s : State) : List (List (Fin 8)) :=
  let same := fun (a b : Fin 8) => a == b || (s.is (ARM_CTRL.SYNC_EN a) && s.is (ARM_CTRL.SYNC_EN b) && s.get (ARM_CTRL.SYNC a) == s.get (ARM_CTRL.SYNC b))
  (s.armsOn.filter (fun a => !s.armsOn.any (fun b => decide (b.val < a.val) && same a b))).map (fun a => s.armsOn.filter (same a))

/-- A published limit of the safety island in 2^-8 units; none where it publishes no limit (R220). -/
def limitOf (w : Word) : Option Rat := if w.toNat = 2 ^ 32 - 1 then none else some ((w.toNat : Rat) / 256)

/-- The upper bound of an arm's scale from a nominal speed and its published limits (R219, R222). -/
def State.scaleBound (s : State) (a : Fin 8) (vnom : Rat) (qd : Fin 8 → Rat) : Rat :=
  let m := s.margin
  let safe := match limitOf (s.rd (SI_VSAFE a)) with | some v => if vnom = 0 then [] else [m * v / vnom] | none => []
  let js := (s.joints a).filterMap (fun j => if qd j = 0 then none else some (m * ((s.rd (SI_JVLIM (portOf a j))).toNat / 256 : Rat) / |qd j|))
  (minOf ([1, s.override a] ++ safe ++ js)).getD 1

/-- An arm with every record that planner tasks have taken on its path, as the planner has rewritten it (R217). -/
def State.plannedArm (s : State) (a : Fin 8) : ArmState := (s.install a ((s.arm a).taken.map Prod.snd).flatten).arm a

/-- A value of the planner's problem as its block holds it (07 R255): a binary64 number. -/
def f64 (x : Rat) : Rat := (fRound false x).1

/-- The whole-cell problem of the next tick (R219): one variable per group and knot; the nominal speeds are those of the planned path
(R220); its values are binary64. -/
def State.buildProblem (s : State) (key seq : Nat) : KProblem :=
  let gs := s.groups
  let n := 8 * gs.length
  let gi := (List.range gs.length).zip gs
  let rate := fun (g : List (Fin 8)) => (minOf (g.map s.armRate)).getD 0 / 500
  let w := fun (g : List (Fin 8)) => (g.map (fun a => ofQ22 (s.rd (ARM_WEIGHT a)).toNat)).sum
  let knotTau := fun (a : Fin 8) (h : Nat) => (s.arm a).tau + clampRat 0 (((2 + 2 * h : Nat) : Rat) / 1000) (Config.planKnot key a.val h)
  let u := fun (g : List (Fin 8)) h => (minOf (g.map (fun a =>
    s.scaleBound a (Config.planVnom key a.val h) (fun j => ((s.plannedArm a).eval j (knotTau a h)).2.1)))).getD 1
  let bounds := (gi.map (fun (q : Nat × List (Fin 8)) => (buildList (fun h => [([(8 * q.1 + h, (1 : Rat))], u q.2 h), ([(8 * q.1 + h, -1)], 0)]) 8).flatten)).flatten
  let anchor := (gi.map (fun (q : Nat × List (Fin 8)) =>
    let l := (s.arm (q.2.headD 0)).lam
    [([(8 * q.1, (1 : Rat))], l + rate q.2), ([(8 * q.1, -1)], rate q.2 - l)])).flatten
  let rates := (gi.map (fun (q : Nat × List (Fin 8)) => (buildList (fun h =>
    [([(8 * q.1 + h, (-1 : Rat)), (8 * q.1 + h + 1, 1)], rate q.2), ([(8 * q.1 + h, 1), (8 * q.1 + h + 1, -1)], rate q.2)]) 7).flatten)).flatten
  let groupOf := fun (a : Fin 8) => ((gi.find? (fun (q : Nat × List (Fin 8)) => q.2.contains a)).map Prod.fst).getD 0
  let pairs := (s.armsOn.map (fun a => (s.armsOn.map (fun b =>
    if a.val < b.val then
      match limitOf (s.rd (SI_VPAIR (portOf a b))) with
      | some v => buildList (fun h =>
          let ca := Config.planClosing key a.val b.val h
          let cb := Config.planClosing key b.val a.val h
          let ga := 8 * groupOf a + h
          let gb := 8 * groupOf b + h
          (if ga = gb then [(ga, ca + cb)] else if ga < gb then [(ga, ca), (gb, cb)] else [(gb, cb), (ga, ca)], s.margin * v)) 8
      | none => []
    else [])).flatten)).flatten
  let rows := bounds ++ anchor ++ rates ++ pairs
  let nnz := (rows.map (fun (r : List (Nat × Rat) × Rat) => r.1.length)).sum
  { addr := s.cellAddr, kind := 2, n := n, m := rows.length, nnz := nnz, tau := 36, delta := 40, itW := 25, itC := 40, shiftK := 8, shiftS := 128
    tol := 24, seq := seq, bytes := 64 + 4 * n * (n + 1) + 8 * n + 10 * nnz + 10 * rows.length
    h := (buildList (fun i => buildList (fun j => if j = 0 then f64 (2 * w (gs.getD (i / 8) [])) else 0) (n - i)) n).flatten
    c := buildList (fun i => f64 (-2 * w (gs.getD (i / 8) []))) n
    rows := rows.map (fun (r : List (Nat × Rat) × Rat) => r.1.map (fun (q : Nat × Rat) => (q.1, f64 q.2))), b := rows.map (fun (r : List (Nat × Rat) × Rat) => f64 r.2), groups := gs.map (fun (g : List (Fin 8)) => g.map Fin.val), key := key }

/-- PLANNER_RUN: the planner task takes the records accepted before the tick that is running, which become valid two ticks on, and
posts the problem of the next tick to both instances (R217, R219). -/
def execPlannerRun (s : State) : Host.Outcome State Fault Refusal :=
  let j := (s.rd PLN_TICKS).toNat
  let key := s.fresh
  let s := s.armsOn.foldl (fun s a =>
    let x := s.arm a
    s.setArm a { x with ready := [], taken := if x.ready.isEmpty then x.taken else x.taken ++ [((j + 2) % 2 ^ 32, x.ready)] }) s
  let s := { s.useFresh with plannerRan := true }
  if s.armsOn.isEmpty then .next s
  else
    let p := s.buildProblem key j
    .next (s.kilnOn.foldl (fun t k => t.kAccept k 0 (some p) (planRes k) none) s)

/-- The solution of context 0 that the active plane's instance has published at this instant, if any. -/
def State.published (s : State) : Option KResult :=
  let x := s.kctx s.activePlane 0
  if x.pubAt = some s.now then x.pub else none

/-- The knots of a solution just published handed to the arms of its groups, with the key of its build (R219, R221). -/
def State.takeKnots (s : State) : State :=
  match s.published with
  | none => s
  | some r =>
    (((List.range r.groups.length).zip r.groups).foldl (fun s (q : Nat × List Nat) =>
      q.2.foldl (fun s a => let i := fin 8 a; s.setArm i { s.arm i with knots := (r.x.drop (8 * q.1)).take 8, knotAt := s.now, key := r.key }) s) s)

/-- A reused solution just published counted, a fresh one ends the run (R221, R246). -/
def State.countReuse (s : State) : State :=
  match s.published with
  | none => s
  | some r =>
    if r.flags.testBit 0 then ((s.bump PLN_MISS_CNT).flag PLN_STAT.KILN_REUSED).bumpField PLN_STAT.MISS_RUN
    else s.put PLN_STAT.MISS_RUN 0

/-- PLANNING_TICK: context 0 is published and the next problem starts, paths built two ticks ago become valid, records accepted
before this boundary are ready for the planner task, and the feedback units count errors anew (R160, R217, R246, R254). -/
def execPlanningTick (s : State) : Host.Outcome State Fault Refusal :=
  let s := s.advance (s.boundary (s.periodNo / s.tickPeriods * s.tickPeriods))
  let j := (s.rd PLN_TICKS).toNat
  let plan := !s.armsOn.isEmpty
  let s := if plan && s.planDue && !s.plannerRan then s.flag PLN_STAT.BUILD_LATE else s
  let s := { (s.count PLN_TICKS) with plannerRan := false, planDue := plan }
  let s := (s.kilnTick 0 j).kilnTick 1 j
  let s := if plan then s.takeKnots.countReuse else s
  let s := s.armsOn.foldl (fun s a =>
    let x := s.arm a
    let due := (x.taken.filter (fun (q : Nat × List Move) => decide (q.1 = (j + 1) % 2 ^ 32))).map Prod.snd
    let s := s.setArm a { x with taken := x.taken.filter (fun (q : Nat × List Move) => decide (q.1 ≠ (j + 1) % 2 ^ 32)), ready := x.ready ++ x.inbox, inbox := [] }
    (s.install a due.flatten).showDepth a) s
  .next { s with fbs := s.fbs.map (fun (q : Fin 64 × FbUnit) => (q.1, { q.2 with errs := 0, errHit := false })) }

/-- PLANNER_KILN_STOP: MISS_LIM consecutive reused solutions pause every arm (R221). -/
def execPlannerKilnStop (s : State) : Host.Outcome State Fault Refusal :=
  let lim := s.get PLN_CFG.MISS_LIM
  if lim ≠ 0 ∧ lim ≤ s.get PLN_STAT.MISS_RUN then .next ((s.armsOn.foldl (fun s a => s.armCmd a 1) s).flag PLN_STAT.KILN_STOP) else .next s

/-- TIMED_MOVE_START: the timed move at the head of the queue starts from rest at START, or as soon as its predecessor has ended,
late: nominal time is 0 at that instant, also within a motion period, of which what the last run has already covered has passed (R216). -/
def execTimedMoveStart (a : Fin 8) (s : State) : Host.Outcome State Fault Refusal :=
  let x := s.arm a
  match x.queue with
  | m :: rest =>
    match m.start with
    | none => .next s
    | some st =>
      if x.going then .next s
      else
        let s := s.advance (s.deviceAt st)
        let late := s.cell - st
        let ran : Rat := ((x.edge - s.now : Nat) : Rat) / 256000000000
        let s := (s.setArm a { x with queue := rest, base := jointList.map x.endPos, path := [], tau := 0 }).appendMove a { m with blend := false } false
        let s := s.setArm a { s.arm a with tau := x.lam * ran - x.slope * ran * ran / 2, startAt := if x.edge < s.now then some s.now else none }
        let s := (s.extendPath a 64).showDepth a
        if 0 < late then
          .next ((s.flag (ARM_STAT.START_LATE a)).post 0x0131 1 (s.armAddr a) (leBytes 2 m.id ++ leBytes 4 (min (late / 256000) (2 ^ 32 - 1))))
        else .next s
  | [] => .next s

/-- The scale of the Kiln solution at an instant, linear between knots 2 ms apart (R222). -/
def ArmState.scaleAt (x : ArmState) (t : Time) : Rat :=
  match x.knots.getLast? with
  | none => 0
  | some last =>
    let d := t - x.knotAt
    let i := d / 512000000
    let f : Rat := (d % 512000000 : Nat) / 512000000
    if x.knots.length ≤ i + 1 then last else (1 - f) * x.knots.getD i 0 + f * x.knots.getD (i + 1) 0

/-- Whether a motion loop is in RAMP, RUN or HOLD. -/
def State.loopRuns (s : State) (n : Fin 256) : Bool := let t := s.get (LD_STAT.STATE n); t == 2 || t == 3 || t == 4

/-- One command of an arm (R225): pause, resume, abort, clear. -/
def State.applyArmCmd (s : State) (a : Fin 8) (c : Nat) : State :=
  let st := s.get (ARM_STAT.STATE a)
  let req := s.is (SI_ARM_STAT.STOP_REQ a)
  let go := fun (n : Nat) => s.put (ARM_STAT.STATE a) n
  match c with
  | 1 => if st = 1 then go 2 else s
  | 2 => if st = 2 ∨ st = 3 ∨ (st = 4 ∧ req = false) then go 1 else s
  | 3 => if st ≠ 6 then go 5 else s
  | _ =>
    if st ≠ 6 then s
    else if (s.joints a).all (fun j => s.get (LD_STAT.STATE (motLoop (portOf a j))) == 3) then (s.put (ARM_STAT.STATE a) 0).flushArm a
    else s.flag (ARM_STAT.CLR_REFUSED a)

/-- The events of R225 judged at the start of an interpolator run: loop faults, stop requests, commands, the start of a move. -/
def State.armEvents (s : State) (a : Fin 8) : State :=
  let x := s.arm a
  let runs := (s.joints a).filter (fun j => s.loopRuns (motLoop (portOf a j)))
  let lost := x.ran.any (fun j => !(runs.map Fin.val).contains j)
  let s := s.setArm a { x with cmds := [], ran := runs.map Fin.val }
  let s := x.cmds.foldl (fun s c => s.applyArmCmd a c) s
  let st := s.get (ARM_STAT.STATE a)
  let s := if lost ∧ st ≠ 6 then (s.put (ARM_STAT.STATE a) 6).flushArm a
    else if s.is (SI_ARM_STAT.STOP_REQ a) ∧ (st = 0 ∨ st = 1 ∨ st = 2 ∨ st = 3) then s.put (ARM_STAT.STATE a) 4
    else s
  let x := s.arm a
  if s.get (ARM_STAT.STATE a) = 0 ∧ x.going then s.put (ARM_STAT.STATE a) 1 else s

/-- The set-points of one joint (R223): registers, and the commit for the window edge that begins period k. -/
def State.writeSp (s : State) (a j : Fin 8) (q qd qdd : Rat) (k : Nat) : State :=
  let d := motLoop (portOf a j)
  let u := s.fb (s.loopFb d)
  let sh := getBits (s.rd (LD_BANK d (fin 2 (s.get (LD_STAT.BANK d))) 9)) 0 6
  let pos := clampInt u.lo u.hi (planNearest q)
  let vel := unsignedOf 24 (clampInt (-8388608) 8388607 (planNearest (qd * 256 / (2 ^ sh : Nat))))
  let tff := unsignedOf 24 (clampInt (-8388608) 8388607 (planNearest (qdd * ofScaled (s.rd (JNT_TFF a j)))))
  let s := ((s.wr48 (LD_SP_POS_LO d) (LD_SP_POS_HI d) pos).wr (LD_SP_VEL d) (BitVec.ofNat 32 vel)).wr (LD_SP_TFF d) (BitVec.ofNat 32 tff)
  let w := fun (n : Nat) => BitVec.ofNat 32 n
  let s := s.updOther d (fun x => { x with lo := lo48 pos, hi := hi48 pos, vel := w vel, tff := w tff, sps := tset x.sps k (pos, vel, tff) })
  s.setLoop d { s.loop d with sps := tset (s.loop d).sps k (pos, vel, tff) }

/-- Whether a segment is the ramp that ends a replaced move. -/
def Segment.isRamp (g : Segment) : Bool := match g.shape with | .ramp _ => true | _ => false

/-- After a run: finished segments join the base of the path, DONE_ID and MOVE_ID follow, and the states that end by it (R225). A replaced
move does not complete. -/
def State.armSettle (s : State) (a : Fin 8) : State :=
  let x := s.arm a
  let done := x.path.filter (fun (g : Segment) => !g.lasts x.tau)
  let s := match (done.filter (fun (g : Segment) => !g.isRamp)).getLast? with | some g => s.wr (ARM_DONE_ID a) (BitVec.ofNat 32 (g.id % 65536)) | none => s
  let s := match (x.path.filter (fun (g : Segment) => decide (g.at_ ≤ x.tau))).getLast? with | some g => s.put (ARM_STAT.MOVE_ID a) g.id | none => s
  let x := if done.length = x.path.length ∧ ¬ x.path.isEmpty then { x with base := jointList.map x.endPos, path := [] } else x
  let s := (s.setArm a x).showDepth a
  let st := s.get (ARM_STAT.STATE a)
  if st = 1 ∧ x.path.isEmpty ∧ x.queue.isEmpty then s.put (ARM_STAT.STATE a) 0
  else if st = 2 ∧ x.lam = 0 then s.put (ARM_STAT.STATE a) 3
  else if st = 5 ∧ x.lam = 0 then (s.put (ARM_STAT.STATE a) 0).flushArm a
  else s

/-- The scale, its target and the bounds of one run (R209, R222): the rate is ARM_STOP_RATE, and Lambda where that is 0, in SAFE_STOP
and in STOPPING (R225, R226). -/
def State.armScale (s : State) (a : Fin 8) (t : Time) (T : Rat) : Rat × Bool :=
  let x := s.arm a
  let st := s.get (ARM_STAT.STATE a)
  let vnom := Config.planVnom x.key a.val (min 7 ((t - x.knotAt) / 512000000))
  let fast := s.scaleBound a vnom (fun j => (x.eval j x.tau).2.1)
  let target := if st = 2 ∨ st = 3 ∨ st = 4 ∨ st = 5 then 0 else min (x.scaleAt t) fast
  let stop := ((s.rd (ARM_STOP_RATE a)).toNat : Rat) / 65536
  let rate := if (st = 4 ∨ st = 5) ∧ stop ≠ 0 then stop else s.armRate a
  (clampRat 0 1 (clampRat (x.lam - rate * T) (x.lam + rate * T) target), decide (target < x.lam - rate * T))

/-- Nominal time at the window edge t of a motion period of T s in which the scale goes from the last one to lam (R222), from the start of a
timed move on where one has begun in it (R216). -/
def ArmState.nominal (x : ArmState) (t : Time) (T lam : Rat) : Rat :=
  match x.startAt with
  | none => x.tau + (x.lam + lam) / 2 * T
  | some st =>
    let left : Rat := ((t - st : Nat) : Rat) / 256000000000
    let at_ := lam - (lam - x.lam) / T * left
    x.tau + (at_ + lam) / 2 * left

/-- INTERPOLATOR_RUN: arm events, scale, nominal time, set-points and their commits for the next motion period (R209, R222, R223,
R225, R226). An arm none of whose motion loops is enabled any more has no motion period and no set-points: events and commands act, its
scale stays. -/
def execInterpolatorRun (a : Fin 8) (s : State) : Host.Outcome State Fault Refusal :=
  if s.is (ARM_CTRL.EN a) = false then .next s
  else
    let s := s.armEvents a
    match s.joints a with
    | [] => .next (s.armSettle a)
    | j0 :: _ =>
      let x := s.arm a
      let d0 := motLoop (portOf a j0)
      let k := s.nextStart d0
      let t := s.boundary k
      let T : Rat := (s.period * s.loopEvery d0 : Nat) / (256000000000 : Rat)
      let (lam, chase) := s.armScale a t T
      let frozen := decide (s.get (ARM_STAT.STATE a) = 6)
      let tau := if frozen then x.tau else x.nominal t T lam
      let lamDot := (lam - x.lam) / T
      let pts := jointList.map (fun j =>
        let (q, v, c) := x.eval j tau
        if frozen then (x.sp.getD j.val 0, 0, 0) else (q, v * lam, c * lam * lam + v * lamDot))
      let s := if chase then s.flag (ARM_STAT.LIM_CHASE a) else s
      let s := s.setArm a { x with tau := tau, lam := lam, sp := pts.map Prod.fst, edge := t, slope := lamDot, startAt := none }
      let s := (s.joints a).foldl (fun s j => let p := pts.getD j.val (0, 0, 0); s.writeSp a j p.1 p.2.1 p.2.2 k) s
      let s := (s.wr (ARM_LAMBDA a) (BitVec.ofNat 32 (toQ lam))).wr (ARM_LAMBDA_K a) (BitVec.ofNat 32 (toQ (x.scaleAt t)))
      let vnom := Config.planVnom x.key a.val (min 7 ((t - x.knotAt) / 512000000))
      let s := (s.wr (ARM_VNOM a) (BitVec.ofNat 32 (planInt (vnom * 256)).toNat)).wr (ARM_VSAFE a) (s.rd (SI_VSAFE a))
      .next (s.armSettle a)

end Sys2Proof.Machine
end

