-- ==== Sys2Proof/Machine/Placement.lean ====
section
/-! DEFINITION. Tile tables, the ledgers they are checked by, and the placement procedure of Stack (10 R345, R346, R354 to R356; the
ledgers of 01 R27, R43, R44). Times are in 1/768 ns from period 0, a grid instant. -/

namespace Sys2Proof.Machine

open Sys2Proof

/-- The alignment wait of R27. -/
def waitTo (t p : Nat) : Nat := (p - t % p) % p

/-- The Ember period and the current period, in 1/768 ns. -/
def State.emberP (s : State) : Nat := clockPeriod (s.get ISL_CLK.EMBER_SEL)
/-- See `State.emberP`. -/
def State.periodU (s : State) : Nat := 3 * s.period

/-- The instant at which the first task of a table run of period k issues its first instruction: steps 1 to 8 of the master
ledger (R43, R44). -/
def State.runStart (s : State) (k : Nat) : Nat :=
  let w := k * s.periodU
  let t := w + waitTo w 3072 + 175 * 768
  t + waitTo t s.emberP + 10 * s.emberP

/-- The loop of a loop task, and the arm of an interpolator. -/
def loopOfTask (n : Fin 4096) : Fin 256 := fin 256 n.val
/-- See `loopOfTask`. -/
def armOfTask (n : Fin 4096) : Fin 8 := fin 8 (n.val - 257)

/-- The Ember cycles of a time-triggered task: 410 and 282 for the standard laws (05 R202), LD_WCET for a custom one, 240 for an
interpolator (06 R224), 4,000 for a BIST slice (15 R491). -/
def State.tblCycles (s : State) (n : Fin 4096) : Nat :=
  if n.val < 256 then
    (if s.standard (loopOfTask n) then (if n.val < 64 then 410 else 282) else (s.rd (LD_WCET (loopOfTask n))).toNat)
  else if n.val < 265 then 240 else 4000

/-- Current periods between two runs of a time-triggered task; an interpolator follows the motion loops of its arm. -/
def State.tblEvery (s : State) (n : Fin 4096) : Nat :=
  if n.val < 256 then s.loopEvery (loopOfTask n)
  else if n.val < 265 then
    ((s.joints (armOfTask n)).map (fun j => s.loopEvery (motLoop (portOf (armOfTask n) j)))).foldl min (8000000 * 16 / s.period)
  else 8

/-- The deadline of a time-triggered task after the window edge of its run (R345): the cut-off edge of a loop that posts edge words,
the window edge of R180 for one that posts references, that of R181 for an interpolator, the end of the period for BIST; the
end of its own period for a custom loop that posts nothing. -/
def State.tblDeadline (s : State) (n : Fin 4096) : Nat :=
  if n.val < 256 then
    let d := loopOfTask n
    if s.postsEdges d then s.periodU * s.get (LD_CTRL.REL d) / 64
    else if s.postsRefs d then s.periodU * s.loopK d
    else s.periodU * s.loopEvery d
  else if n.val < 265 then s.periodU * s.tblEvery n
  else s.periodU

/-- An entry put into a list in order. -/
def insertBy {α : Type} (le : α → α → Bool) (x : α) : List α → List α
  | [] => [x]
  | y :: l => if le x y then x :: y :: l else y :: insertBy le x l

/-- A list in order. -/
def sortBy {α : Type} (le : α → α → Bool) (l : List α) : List α := l.foldl (fun r x => insertBy le x r) []

/-- The order of R345: deadline, then task number. -/
def State.tblLe (s : State) (a b : Fin 4096) : Bool :=
  decide (s.tblDeadline a < s.tblDeadline b) || (s.tblDeadline a == s.tblDeadline b && decide (a.val ≤ b.val))

/-- The table of a tile: its loop tasks and interpolators, and its BIST task when there is any other (R345, R491). -/
def State.tableOf (s : State) (pl : Placed) (t : Fin 16) : List (Fin 4096) :=
  let l := (pl.filter (fun (q : Fin 4096 × Fin 16) => q.2 == t && State.loopOrInterp q.1)).map (fun (q : Fin 4096 × Fin 16) => q.1)
  if l.isEmpty then [] else sortBy s.tblLe (fin 4096 (265 + t.val) :: l)

/-- The tasks of a table due in period k. -/
def State.dueIn (s : State) (tbl : List (Fin 4096)) (k : Nat) : List (Fin 4096) := tbl.filter (fun n => k % s.tblEvery n == 0)

/-- The end of the table run of period k. -/
def State.runEnd (s : State) (tbl : List (Fin 4096)) (k : Nat) : Nat :=
  s.runStart k + (((s.dueIn tbl k).map s.tblCycles).foldl (· + ·) 0) * s.emberP

/-- Whether a task that ends at an instant of a run of period k meets its edge: step 15 margin of a loop that posts edge words, the
window edges of R180 and R181 for the others (R43, R354). -/
def State.meets (s : State) (n : Fin 4096) (k e : Nat) : Bool :=
  let w := k * s.periodU
  let fab := e + waitTo e 768 + 15 * 768
  if n.val < 256 ∧ s.postsEdges (loopOfTask n) then
    let port := fab + waitTo fab 3072 + 4 * 3072
    decide (port + 3072 ≤ (w + s.tblDeadline n) / 3072 * 3072)
  else if 265 ≤ n.val ∨ (n.val < 256 ∧ !s.postsRefs (loopOfTask n)) then true
  else decide (fab ≤ w + s.tblDeadline n)

/-- Whether every task of a run of period k meets its edge. -/
def State.runMeets (s : State) (k : Nat) : Nat → List (Fin 4096) → Bool
  | _, [] => true
  | t, n :: l => let e := t + s.tblCycles n * s.emberP; s.meets n k e && s.runMeets k e l

/-- `ledger_ok` of R354 for a table, over the 32-period hyperperiod. -/
def State.ledgerOk (s : State) (tbl : List (Fin 4096)) : Bool :=
  (List.range 32).all (fun k => s.runMeets k (s.runStart k) (s.dueIn tbl k) &&
    ((s.dueIn tbl k).isEmpty ||
      (List.range 32).all (fun d => (s.dueIn tbl (k + 1 + d)).isEmpty || decide (s.runEnd tbl k ≤ s.runStart (k + 1 + d)))))

/-- The image of a task: a user task's own, and one each for the laws, the planner, the interpolators and BIST. -/
def State.imageKey (s : State) (n : Fin 4096) : Nat :=
  if n.val < 256 then 256 else if n.val = 256 then 257 else if n.val < 265 then 258 else if n.val < 512 then 259 else (s.taskRec n).image

/-- `mem_ok` of R354: bytes of program and of data memory that the tasks on a tile take. -/
def State.progBytes (s : State) (ns : List (Fin 4096)) : Nat := (((ns.map s.imageKey).dedup).map Config.imageBytes).foldl (· + ·) 0
/-- See `State.progBytes`. -/
def State.dataBytes (s : State) (ns : List (Fin 4096)) : Nat :=
  let hot := ((ns.flatMap (fun n => (s.taskRec n).handles)).dedup).filter (fun h => (s.bufRec h).tier == 0)
  ((hot.map (fun h => (s.bufRec h).size)).foldl (· + ·) 0) + ((ns.map (fun n => (s.taskRec n).dataBytes)).foldl (· + ·) 0)
    + 2048 * (ns.filter (fun n => decide (n.val < 256))).length
/-- See `State.progBytes`. -/
def State.memOk (s : State) (ns : List (Fin 4096)) : Bool := decide (s.progBytes ns ≤ 0x10000) && decide (s.dataBytes ns ≤ 0x40000)

/-- The tasks on a tile, its BIST task among them. -/
def onTile (pl : Placed) (t : Fin 16) : List (Fin 4096) := fin 4096 (265 + t.val) :: (pl.filter (fun (q : Fin 4096 × Fin 16) => q.2 == t)).map (fun (q : Fin 4096 × Fin 16) => q.1)

/-- Cycles of a table over the hyperperiod. -/
def State.tblLoad (s : State) (tbl : List (Fin 4096)) : Nat :=
  ((List.range 32).map (fun k => ((s.dueIn tbl k).map s.tblCycles).foldl (· + ·) 0)).foldl (· + ·) 0

/-- The longest interval of the hyperperiod in which R346 admits a start, in 1/768 ns; none when the table is empty. -/
def State.largestGap (s : State) (tbl : List (Fin 4096)) : Option Nat :=
  if tbl.isEmpty then none
  else
    let runs := (List.range 64).filter (fun k => !(s.dueIn tbl k).isEmpty)
    some ((runs.zip (runs.drop 1)).foldl (fun g (q : Nat × Nat) => max g (s.runStart q.2 - s.runEnd tbl q.1)) 0)

/-- `cand` of R354: the tiles AFFINITY permits in the order of load and number; only tiles with an empty table for the planner and
untimed tasks. -/
def State.cand (s : State) (pl : Placed) (n : Fin 4096) : List (Fin 16) :=
  let aff := if 512 ≤ n.val then (s.taskRec n).affinity else 0
  let ok := fun (t : Fin 16) => (aff == 0 || aff / 2 ^ t.val % 2 == 1) && (!(n.val == 256 || s.untimed n) || (s.tableOf pl t).isEmpty)
  let load := fun (t : Fin 16) => s.tblLoad (s.tableOf pl t)
  sortBy (fun a b => decide (load a < load b) || (load a == load b && decide (a.val ≤ b.val))) ((finList 16).filter ok)

/-- Whether a task fits a tile beside those placed. -/
def State.fits (s : State) (pl : Placed) (n : Fin 4096) (t : Fin 16) : Bool :=
  let pl' := (n, t) :: pl
  s.memOk (onTile pl' t) &&
    (if State.loopOrInterp n then s.ledgerOk (s.tableOf pl' t)
     else match s.largestGap (s.tableOf pl t) with
       | some g => decide ((s.taskRec n).wcet * s.emberP ≤ g)
       | none => true)

/-- The tile for a task, and whether its hints were dropped; none when no tile fits (R354). -/
def State.chooseTile (s : State) (pl : Placed) (n : Fin 4096) : Option (Fin 16 × Bool) :=
  let c := s.cand pl n
  let r := s.taskRec n
  let tileOf := fun (h : Nat) => if h / 32768 = 1 then tget (pl.map (fun (q : Fin 4096 × Fin 16) => (q.1.val, some q.2))) (h % 4096) none else none
  let hinted := n.val ≥ 512 && (r.withT / 32768 == 1 || r.apart / 32768 == 1)
  let c1 := match tileOf r.withT with | some t => if t ∈ c then t :: c.filter (fun u => u != t) else c | none => c
  let c1 := match tileOf r.apart with | some t => c1.filter (fun u => u != t) | none => c1
  match (if hinted then c1 else c).find? (s.fits pl n) with
  | some t => some (t, false)
  | none => if hinted then (c.find? (s.fits pl n)).map (fun t => (t, true)) else none

/-- The order in which new tasks are placed: the time-triggered in R345 order, then the queued by WCET descending and number. -/
def State.placeOrder (s : State) (ns : List (Fin 4096)) : List (Fin 4096) :=
  let w := fun (n : Fin 4096) => (s.taskRec n).wcet
  sortBy s.tblLe (ns.filter State.loopOrInterp) ++
    sortBy (fun a b => decide (w b < w a) || (w a == w b && decide (a.val ≤ b.val))) (ns.filter (fun n => !State.loopOrInterp n))

/-- Tasks placed in order on top of a placement: the placement, the tasks that did not fit, whether hints were dropped. -/
def State.placeAll (s : State) : List (Fin 4096) → Placed → Placed × List (Fin 4096) × Bool
  | [], pl => (pl, [], false)
  | n :: l, pl =>
    match s.chooseTile pl n with
    | some (t, h) => let r := s.placeAll l ((n, t) :: pl); (r.1, r.2.1, h || r.2.2)
    | none => let r := s.placeAll l pl; (r.1, n :: r.2.1, r.2.2)

/-- The registers that show a tile's table, gap, memory and tasks (R360). -/
def State.showTiles (s : State) : State :=
  let pl := s.placement
  (finList 16).foldl (fun s t =>
    let tbl := s.tableOf pl t
    let ns := onTile pl t
    let s := s.put (STK_TL_LOAD.TABLE t) (s.tblLoad tbl / 256)
    let s := s.wr (STK_TL_GAP t) (match s.largestGap tbl with | some g => BitVec.ofNat 32 (g / 768) | none => BitVec.ofNat 32 (2 ^ 32 - 1))
    let s := s.put (STK_TL_MEM.DATA t) ((0x40000 - s.dataBytes ns) / 64)
    let s := s.put (STK_TL_MEM.PROG t) ((0x10000 - s.progBytes ns) / 4)
    s.wr (STK_TL_TASKS t) (BitVec.ofNat 32 (ns.filter (fun n => s.is (STK_TS0.PLACED n))).length)) s

end Sys2Proof.Machine
end

