-- ==== Sys2Proof/Machine/Stack.lean ====
section
/-! DEFINITION. Stack: task and buffer operations, releases and queues, prefetch slots, ends of runs, placement at the handover
boundary (10 R333 to R363). -/

namespace Sys2Proof.Machine

open Sys2Proof

/-- The address in a record about a task: its place address. -/
def State.taskAddr (s : State) (n : Fin 4096) : Word :=
  if n.val < 256 then s.loopAddr (loopOfTask n) else if 512 ≤ n.val then (s.taskRec n).desc.getD 0 0 else s.cellAddr

/-- A record about a task, with its number. -/
def State.taskRecord (s : State) (n : Fin 4096) (type sev : Nat) (more : List Byte) : State :=
  s.post type sev (s.taskAddr n) (leBytes 2 n.val ++ more)

/-- A miss counted (R341, R348, R363). -/
def State.miss (s : State) (n : Fin 4096) : State := s.bumpField (STK_TS0.MISSES n)

/-- A release discarded as an overrun: the record once per run of consecutive overruns (R340, R341). -/
def State.overrun (s : State) (n : Fin 4096) : State :=
  let r := s.taskRec n
  let s := (s.miss n).flag STK_STAT.REL_OVR
  if r.overran then s else (s.setTask n { r with overran := true }).taskRecord n 0x0140 1 []

/-- A release taken into its queue; the answer says whether it is held instead because the queue is at its limit (R343). -/
def State.releaseNow (s : State) (n : Fin 4096) : State × Bool :=
  let q := s.taskQueue n
  if s.get ⟨STK_QCFG q, 0, 12⟩ ≤ s.get (STK_QSTAT.DEPTH q) then (s, true)
  else
    let r := { s.taskRec n with released := s.now, lastRel := some s.periodNo, delay := none, overran := false, missed := false }
    (((s.setTask n r).put (STK_TS0.STATE n) 4).queueUp q, false)

/-- The length of a tick of a delay list, and the number of the tick in progress (R344). -/
def State.dlyTick (s : State) (k : Fin 4) : Nat := getBits (s.rd (STK_DLY_TICK k)) 0 9 * 64000
/-- See `State.dlyTick`. -/
def State.dlyNow (s : State) (k : Fin 4) : Nat := (s.now - s.seq.base) / max 1 (s.dlyTick k)

/-- A release of a task (R340, R341, R344); the answer says whether it is held. One in the fabric cycle of a cancel of the task is discarded
and not counted: of the commands of one cycle the cancel is given first (R341; log 54). -/
def State.releaseTask (s : State) (n : Fin 4096) (delay : Option (Fin 4 × Nat)) : State × Bool :=
  let st := s.taskState n
  let r := s.taskRec n
  let early := r.cls == 1 && decide (512 ≤ n.val) && match r.lastRel with | some p => decide (s.periodNo < p + r.period) | none => false
  if s.is STK_CTRL.EN = false ∨ r.cancelAt = some (s.now / nsUnits) then (s, false)
  else if 3 ≤ st ∧ st ≤ 6 then (s.overrun n, false)
  else if st ≠ 2 then (s, false)
  else if early then (s.overrun n, false)
  else match delay with
    | none => s.releaseNow n
    | some (_, 0) => s.releaseNow n
    | some (k, d) =>
      let len := max 1 (s.dlyTick k)
      let due := (s.now - s.seq.base + len - 1) / len + d
      ((s.setTask n { r with delay := some (k, due), lastRel := some s.periodNo, overran := false, missed := false }).put (STK_TS0.STATE n) 3, false)

/-- A release that cannot be held: discarded and counted when its queue is at its limit (R343). -/
def State.releaseOrDrop (s : State) (n : Fin 4096) : State :=
  match s.releaseTask n none with
  | (t, false) => t
  | (t, true) => t.overrun n

/-- Whether only the end of another member of its ordering group releases a task: a member of a rank above 0 (R352). -/
def TaskRec.follows (r : TaskRec) : Bool := r.grpEn && decide (0 < r.rank)

/-- Whether a write of STK_RELEASE may release a task: sporadic and one-shot ones that no ordering group releases (R340, R352). -/
def State.releasable (s : State) (n : Fin 4096) : Bool :=
  let r := s.taskRec n
  decide (512 ≤ n.val) && (r.cls == 1 || r.cls == 2) && !r.follows

/-- A held release joins the list once. -/
def State.hold (s : State) (h : Held) : State :=
  if h ∈ s.stk.held then s else { s with stk := { s.stk with held := s.stk.held ++ [h] } }

/-- A write of STK_RELEASE; the answer says whether it is held at its source. A tile's write acts for the active plane alone (R340,
R343, R344; 15 R485). -/
def State.stkRelease (s : State) (who : Who) (v : Word) : State × Bool :=
  let n : Fin 4096 := fin 4096 (getBits v 0 12)
  let delay := some (fin 4 (getBits v 12 2), getBits v 14 16)
  let acts := match who with | .tile t => planeOf t == s.activePlane | .hearth => true | .host => true | .windowT => false
  if acts && s.releasable n then
    match s.releaseTask n delay with
    | (t, false) => (t, false)
    | (t, true) => (t.hold (match who with | .tile i => .store (tileNo i) v | .hearth => .host v | .host | .windowT => .host v), true)
  else (s, false)

/-- STK_RELEASE. -/
def execStkRelease (who : Who) (v : Word) (s : State) : Host.Outcome State Fault Refusal := .next (s.stkRelease who v).1

/-- A rising edge of an interrupt source passed to Stack: the sporadic tasks whose EVENT names it are released, or their release is
held (R340, R343; 11 R379). -/
def State.eventRelease (s : State) (src : Fin 512) : State :=
  let ns := (s.stk.tasks.filter (fun (q : Fin 4096 × TaskRec) => q.2.cls == 1 && q.2.event == 32768 + src.val && !q.2.follows)).map (fun (q : Fin 4096 × TaskRec) => q.1)
  ns.foldl (fun s n => match s.releaseTask n none with
    | (t, false) => t
    | (t, true) => t.hold (.event n)) s

/-- Whether a pending source with WAKE names a task whose tile holds no claim, so that Stack is to release it (11 R376). -/
def State.wakeWaits (s : State) (n : Fin 4096) : Bool :=
  s.icPendings.any (fun k => s.is (IC_SRC_CFG.WAKE k) && s.get (IC_SRC_CFG.TKIND k) == 3 && s.get (IC_SRC_CFG.TARGET k) == n.val && s.icAsleep k)

/-- A sporadic or one-shot task that is not RUNNING is released by a source with WAKE that is pending for it, unless only its group
releases it (R352; 11 R376). -/
def State.wakeOf (s : State) (n : Fin 4096) : State :=
  if s.taskState n = 2 ∧ s.releasable n ∧ s.wakeWaits n then
    match s.releaseTask n none with
    | (t, false) => t
    | (t, true) => t.hold (.event n)
  else s

/-- After a cancel: a release asked for in its cycle is discarded, and the source that is still pending wakes the task in the next (R341; 11
R376). -/
def State.wakeNext (s : State) (n : Fin 4096) : State :=
  if s.taskState n = 2 ∧ s.releasable n ∧ s.wakeWaits n then (s.advance ((s.now / nsUnits + 1) * nsUnits)).wakeOf n else s

/-- DELAY_LIST_EXPIRY: at the tick boundary at which the first entry of the list expires, every expired entry moves to READY in order
of expiry and number, or is held and has left the list (R339, R343, R344). -/
def execDelayListExpiry (k : Fin 4) (s : State) : Host.Outcome State Fault Refusal :=
  let es := s.stk.tasks.filterMap (fun (q : Fin 4096 × TaskRec) => match q.2.delay with
    | some (j, d) => if j = k ∧ s.taskState q.1 = 3 ∧ Held.delayed q.1 ∉ s.stk.held then some (d, q.1) else none
    | none => none)
  let es := sortBy (fun (a b : Nat × Fin 4096) => decide (a.1 < b.1) || (a.1 == b.1 && decide (a.2.val ≤ b.2.val))) es
  match es with
  | [] => .next s
  | (d, _) :: _ =>
    let s := s.advance (s.seq.base + d * max 1 (s.dlyTick k))
    .next ((es.filter (fun (e : Nat × Fin 4096) => e.1 ≤ s.dlyNow k)).foldl (fun s (e : Nat × Fin 4096) =>
      match s.releaseNow e.2 with
      | (t, false) => t
      | (t, true) => t.hold (.delayed e.2)) s)

/-- The slot of a tile pair emptied when it holds a task. -/
def State.dropSlot (s : State) (n : Fin 4096) : State :=
  (finList 32).foldl (fun s t => match (s.tile t).slot with
    | some q => if q.task = n then s.setTile t { s.tile t with slot := none } else s
    | none => s) s

/-- A release that is held at its source as the expiry of a task's delay is withdrawn with it (R343, R350). -/
def State.unhold (s : State) (n : Fin 4096) : State := { s with stk := { s.stk with held := s.stk.held.erase (.delayed n) } }

/-- STK_CANCEL: a delayed or ready release is removed; of a slotted task an invalidation is sent; loop tasks and interpolators
are not cancelled (R350). -/
def State.stkCancel (s : State) (who : Who) (n : Fin 4096) : State :=
  let acts := match who with | .tile t => planeOf t == s.activePlane | .hearth => true | .host => true | .windowT => false
  let st := s.taskState n
  if !acts || State.loopOrInterp n then s
  else
    let s := s.setTask n { s.taskRec n with cancelAt := some (s.now / nsUnits) }
    if st = 3 then ((s.unhold n).toRest n 1).wakeNext n
    else if st = 4 then ((s.queueDown (s.taskQueue n)).toRest n 1).wakeNext n
    else if st = 5 then s.setTask n { s.taskRec n with inval := true }
    else s

/-- STK_CANCEL. -/
def execStkCancel (who : Who) (n : Fin 4096) (s : State) : Host.Outcome State Fault Refusal := .next (s.stkCancel who n)

/-- SLOT_INVALIDATE: the invalidation reaches the tile at or before the commit point, and the slotted task never starts; a task that
has started runs on (R350). -/
def execSlotInvalidate (n : Fin 4096) (s : State) : Host.Outcome State Fault Refusal :=
  if (s.taskRec n).inval && s.taskState n == 5 then .next (((s.dropSlot n).toRest n 1).wakeNext n) else .next s

/-- A store of STK_RELEASE that was held leaves the queue of a tile; a tile frozen for room takes its store, with the Ember cycles it has been
frozen (R343; 08 R281). -/
def State.heldStoreOut (s : State) (v : Word) (i : Fin 32) : State :=
  let x := s.tile i
  match x.stores with
  | q :: rest =>
    if q.addr = (STK_RELEASE).addr ∧ q.words = [v] then
      (s.setTile i { x with stores := rest }).takeStore i ((3 * (s.now - x.frozen) + s.emberP - 1) / s.emberP)
    else s
  | [] => s

/-- Whether a held release can be accepted now, and the state that has accepted it. -/
def State.tryHeld (s : State) (h : Held) : Option State :=
  let try_ := fun (n : Fin 4096) (delay : Option (Fin 4 × Nat)) => match s.releaseTask n delay with | (t, false) => some t | (_, true) => none
  let ofWord := fun (v : Word) => try_ (fin 4096 (getBits v 0 12)) (some (fin 4 (getBits v 12 2), getBits v 14 16))
  match h with
  | .event n => try_ n none
  | .host v => ofWord v
  | .store t v => (ofWord v).map (fun s => [tileOf 0 t, tileOf 1 t].foldl (fun s i => s.heldStoreOut v i) s)
  | .delayed n => if s.taskState n ≠ 3 then some s else match s.releaseNow n with | (t, false) => some t | (_, true) => none

/-- HELD_RELEASE_ACCEPT: the first held release whose queue is below its limit (R343). -/
def execHeldReleaseAccept (s : State) : Host.Outcome State Fault Refusal :=
  match s.stk.held.find? (fun h => (s.tryHeld h).isSome) with
  | none => .next s
  | some h =>
    let s := { s with stk := { s.stk with held := s.stk.held.erase h } }
    .next ((s.tryHeld h).getD s)

/-- The absolute deadline of a queued task (R334, R342); of the planner its tick, of a BIST run its period. -/
def State.absDeadline (s : State) (n : Fin 4096) : Nat :=
  let r := s.taskRec n
  r.released + (if 512 ≤ n.val then r.deadlineNs * nsUnits else if n.val = 256 then s.tickPeriods * s.period else s.period)

/-- The declared cycles of a task. -/
def State.declared (s : State) (n : Fin 4096) : Nat := if 512 ≤ n.val then (s.taskRec n).wcet else s.tblCycles n

/-- The instant at which a task slotted now on a tile would issue its first instruction, in 1/768 ns: chained after the running
task, or by the ledger of R351 on an idle tile (R346). -/
def State.firstIssue (s : State) (t : Fin 16) : Nat :=
  let x := s.tile (tileOf s.activePlane t)
  let now := 3 * (s.now - s.seq.base)
  match x.task with
  | some n => now + (s.declared n - x.tcyc.toNat) * s.emberP
  | none => let a := now + 21 * 768; a + waitTo a s.emberP + 10 * s.emberP

/-- The tasks of a table that run in period k: a loop runs from the first window edge after the boundary that placed it (05 R166). -/
def State.dueRun (s : State) (tbl : List (Fin 4096)) (k : Nat) : List (Fin 4096) :=
  (s.dueIn tbl k).filter (fun n => decide (256 ≤ n.val) || s.loopRunsAt (loopOfTask n) k)

/-- Whether a queued task fits a tile now (R346): the table run of the period has begun its last task, and the task ends before the
next time-triggered one issues. -/
def State.fitsNow (s : State) (t : Fin 16) (n : Fin 4096) : Bool :=
  let tbl := s.tableOf s.placement t
  let k := s.periodNo
  let next := ((List.range 64).map (fun d => k + 1 + d)).find? (fun j => !(s.dueRun tbl j).isEmpty)
  tbl.isEmpty ||
    ((s.dueRun tbl k).all (fun m => (s.taskRec m).ranAt == some k) &&
      match next with
      | some j => decide (s.firstIssue t + s.declared n * s.emberP ≤ s.runStart j)
      | none => true)

/-- The table task due next on a tile, with whether it waits for its sample block (R345). -/
def State.nextTable (s : State) (t : Fin 16) : Option (Fin 4096 × Bool) :=
  let due := s.dueRun (s.tableOf s.placement t) s.periodNo
  let left := due.filter (fun m => (s.taskRec m).ranAt != some s.periodNo && s.taskState m == 2)
  match left with
  | n :: _ => some (n, left.length == due.length)
  | [] => none

/-- The READY tasks placed on a tile that fit, in the order of selection (R342). -/
def State.readyOn (s : State) (t : Fin 16) : List (Fin 4096) :=
  let ns := s.regs.filterMap (fun (q : Reg × Word) => match q.1 with
    | .stk (.STK_TS0 n) => if getBits q.2 5 3 = 4 ∧ getBits q.2 0 5 = t.val + 16 ∧ s.taskQueue n ≠ 1 then some n else none
    | _ => none)
  let key := fun (n : Fin 4096) => ((s.taskQueue n).val, s.absDeadline n, n.val)
  sortBy (fun a b =>
    let x := key a
    let y := key b
    decide (x.1 < y.1) || (x.1 == y.1 && (decide (x.2.1 < y.2.1) || (x.2.1 == y.2.1 && decide (x.2.2 ≤ y.2.2))))) (ns.filter (s.fitsNow t))

/-- A task put into the prefetch slot of a tile of both planes (R349, R353). -/
def State.fillSlot (s : State) (t : Fin 16) (n : Fin 4096) (waits : Bool) : State :=
  let q := s.slotOf n waits
  let s := { s with stk := { s.stk with bufs := s.stk.bufs.map (fun (e : Fin 8192 × BufRec) =>
    if e.2.want.isSome ∧ e.1 ∈ (s.taskRec n).handles then (e.1, { e.2 with spoiled := true }) else e) } }
  (s.runPlanes.foldl (fun s pl => s.setTile (tileOf pl t) { s.tile (tileOf pl t) with slot := some q }) s).put (STK_TS0.STATE n) 5

/-- SLOT_FILL: a free slot takes the table task due next, or a READY task by queue, deadline and number (R342, R345, R346). -/
def execSlotFill (t : Fin 16) (s : State) : Host.Outcome State Fault Refusal :=
  if s.is STK_CTRL.EN = false ∨ s.runPlanes.any (fun pl => (s.tile (tileOf pl t)).slot.isSome) then .next s
  else match s.nextTable t with
    | some (n, w) => .next (s.fillSlot t n w)
    | none => match s.readyOn t with
      | n :: _ => .next ((s.queueDown (s.taskQueue n)).fillSlot t n false)
      | [] => .next s

/-- TASK_RELEASE_START: the slotted task starts on an idle tile, one that waits for its sample block at the instant of step 8 (R349,
R351; 01 R43). -/
def execTaskReleaseStart (t : Fin 16) (s : State) : Host.Outcome State Fault Refusal :=
  let idle := s.runPlanes.all (fun pl => (s.tile (tileOf pl t)).task.isNone)
  let waits := s.runPlanes.any (fun pl => match (s.tile (tileOf pl t)).slot with | some q => q.waits | none => false)
  if idle then
    let s := if waits then s.advance (s.seq.base + (s.runStart s.periodNo + 2) / 3) else s
    .next (s.runPlanes.foldl (fun s pl => s.startSlot (tileOf pl t)) s)
  else .next s

/-- BUDGET_STOP: a queued task on a tile with a table has run for WCET cycles (R347). -/
def execBudgetStop (t : Fin 16) (s : State) : Host.Outcome State Fault Refusal :=
  let x := s.tile (tileOf s.activePlane t)
  match x.task with
  | none => .next s
  | some n =>
    if 512 ≤ n.val ∧ !(s.tableOf s.placement t).isEmpty ∧ (s.taskRec n).wcet ≤ x.tcyc.toNat then
      let s := s.runPlanes.foldl (fun s pl =>
        let i := tileOf pl t
        if (s.tile i).task = some n then s.endRun i .budget else s) s
      .next ((((s.flag STK_STAT.BUDGET).taskRecord n 0x0141 1 []).toRest n 2).wakeOf n)
    else .next s

/-- TASK_DEADLINE_MISS: a queued task passes its deadline, is counted once for its release and keeps running (R348). -/
def execTaskDeadlineMiss (n : Fin 4096) (s : State) : Host.Outcome State Fault Refusal :=
  let r := s.taskRec n
  let st := s.taskState n
  if 512 ≤ n.val ∧ 4 ≤ st ∧ st ≤ 6 ∧ r.missed = false then
    .next ((((s.advance (s.absDeadline n)).setTask n { r with missed := true }).miss n).taskRecord n 0x0142 1 [])
  else .next s

/-- A byte string copied from one place of memory to another. -/
def State.copyMem (s : State) (src dst n : Nat) : State := s.mwrite dst (s.mread src n)

/-- A copy that Stack makes for both planes: it delivers what the active plane holds to each that runs (15 R485). -/
def State.copyBoth (s : State) (src dst : Fin 2 → Nat) (n : Nat) : State :=
  let bs := s.mread (src s.activePlane) n
  s.runPlanes.foldl (fun s pl => s.mwrite (dst pl) bs) s

/-- At the end of the writer of a hot replica its copy is copied to every reader's tile (R357). -/
def State.replicate (s : State) (n : Fin 4096) : State :=
  let t : Fin 16 := fin 16 (s.get (STK_TS0.TILE n))
  (s.stk.bufs.filter (fun (q : Fin 8192 × BufRec) => q.2.replica && q.2.writer == n.val && q.2.tier == 0)).foldl (fun s (q : Fin 8192 × BufRec) =>
    (s.bufTiles q.1).foldl (fun s u => if u = t then s
      else s.copyBoth (fun pl => bufHome q.1 0 pl t) (fun pl => bufHome q.1 0 pl u) q.2.size) s) s

/-- A run has ended by tend for Stack: replicas, the next state, the group's next rank (R352, R357). -/
def State.finishRun (s : State) (n : Fin 4096) : State :=
  let r := s.taskRec n
  let s := ((s.replicate n).toRest n 0).wakeOf n
  if r.grpEn then
    match s.stk.tasks.find? (fun (q : Fin 4096 × TaskRec) => q.2.grpEn && q.2.group == r.group && q.2.rank == r.rank + 1) with
    | some (m, _) => s.releaseOrDrop m
    | none => s
  else s

/-- Whether a plane has reported the end of a task's run. -/
def TaskRec.endOf (r : TaskRec) (pl : Fin 2) : Bool := if pl = 0 then r.endA else r.endB
/-- See `TaskRec.endOf`. -/
def TaskRec.setEnd (r : TaskRec) (pl : Fin 2) : TaskRec := if pl = 0 then { r with endA := true } else { r with endB := true }

/-- The first end a tile has to report. -/
def State.headEnd (s : State) (i : Fin 32) : Option (Fin 4096 × EndKind) := (s.tile i).ends.head?

/-- The first end of a tile taken off its list. -/
def State.popEnd (s : State) (i : Fin 32) : State := s.setTile i { s.tile i with ends := (s.tile i).ends.drop 1 }

/-- TASK_END_REPORT: ends by tend reach Stack; the active plane's counts, an untimed run waits for both copies (R352, R353, R485). -/
def execTaskEndReport (t : Fin 16) (s : State) : Host.Outcome State Fault Refusal :=
  .next (s.runPlanes.foldl (fun s pl =>
    match s.headEnd (tileOf pl t) with
    | some (n, .tend) =>
      let s := (s.popEnd (tileOf pl t)).setTask n ((s.taskRec n).setEnd pl)
      if pl = s.activePlane ∧ s.untimed n = false ∧ s.taskState n = 6 then s.finishRun n else s
    | _ => s) s)

/-- The signatures that both planes' copies of an untimed run leave are judged when the run is counted as ended (15 R487). -/
def State.judgeRun (s : State) (t : Fin 16) : State :=
  let sig := fun (pl : Fin 2) => tget s.pc.runSigs (pl, t) (BitVec.allOnes 32)
  let s' := { s with pc := { s.pc with runSigs := s.pc.runSigs.filter (fun (q : (Fin 2 × Fin 16) × Word) => decide (q.1.2 ≠ t)) } }
  if s.runPlanes.length = 2 ∧ sig 0 ≠ sig 1 then s'.finding 5 t.val else s'

/-- UNTIMED_RUN_END: both copies of an untimed task have ended, some Ember cycles apart (R353). -/
def execUntimedRunEnd (n : Fin 4096) (skew : Nat) (s : State) : Host.Outcome State Fault Refusal :=
  if s.untimed n ∧ s.taskState n = 6 ∧ s.runPlanes.all (fun pl => (s.taskRec n).endOf pl) then
    let s := if getBits (s.rd STK_SKEW_LIM) 0 16 < skew then (s.flag STK_STAT.SKEW).finding 6 (s.get (STK_TS0.TILE n)) else s
    .next ((s.judgeRun (fin 16 (s.get (STK_TS0.TILE n)))).finishRun n)
  else .next s

/-- TASK_COPY_DONE: the copy of a moving task completes; the task switches at the next handover boundary unless it runs once more
(R356). -/
def execTaskCopyDone (n : Fin 4096) (s : State) : Host.Outcome State Fault Refusal :=
  let r := s.taskRec n
  if r.want.isSome ∧ s.taskState n ≠ 5 ∧ s.taskState n ≠ 6 then .next (s.setTask n { r with copied := true }) else .next s

/-- The tasks that name a buffer. -/
def State.bufUsers (s : State) (h : Fin 8192) : List (Fin 4096) :=
  (s.stk.tasks.filter (fun (q : Fin 4096 × TaskRec) => decide (h ∈ q.2.handles))).map (fun (q : Fin 4096 × TaskRec) => q.1)

/-- BUFFER_COPY_DONE: the copy counts unless a task that names the buffer has been slotted since it began, or runs; then it is discarded and
made again (R358). -/
def execBufferCopyDone (h : Fin 8192) (s : State) : Host.Outcome State Fault Refusal :=
  let b := s.bufRec h
  if b.want.isNone then .next s
  else
    let good := !b.spoiled && (s.bufUsers h).all (fun n => s.taskState n != 5 && s.taskState n != 6)
    .next (s.setBuf h { b with copied := good, spoiled := (s.bufUsers h).any (fun n => s.taskState n == 5 || s.taskState n == 6) })

/-- The tier a buffer is to move to for its accesses in an interval (R357). -/
def State.tierFor (s : State) (h : Fin 8192) (acc : Nat) : Nat :=
  let b := s.bufRec h
  let up := fun (r : Reg) => decide (getBits (s.rd r) 0 24 * b.size ≤ acc * 1024)
  let down := fun (r : Reg) => decide (acc * 1024 < getBits (s.rd r) 0 24 * b.size)
  let roomy := (s.bufTiles h).all (fun t => decide (s.dataBytes (onTile s.placement t) + b.size ≤ 0x40000))
  if b.tier = 2 ∧ up STK_WARM_UP ∧ b.hottest ≤ 1 then 1
  else if b.tier = 1 ∧ up STK_HOT_UP ∧ b.hottest = 0 ∧ ((s.bufTiles h).length ≤ 1 ∨ b.replica) ∧ roomy then 0
  else if b.tier = 1 ∧ down STK_WARM_DN ∧ 2 ≤ b.coldest then 2
  else if b.tier = 0 ∧ down STK_HOT_DN ∧ 1 ≤ b.coldest then 1
  else b.tier

/-- The configuration in force, applied at the last handover boundary (R360, R361): MOVES, AUTO_TIER, AUTO_REBAL. -/
def State.stkMoves (s : State) : Nat := getBits s.stk.cfg 0 4
/-- See `State.stkMoves`. -/
def State.autoTier (s : State) : Bool := s.stk.cfg.getLsbD 4 && !s.is STK_CTRL.FREEZE
/-- See `State.stkMoves`. -/
def State.autoRebal (s : State) : Bool := s.stk.cfg.getLsbD 5 && !s.is STK_CTRL.FREEZE

/-- The cycles of queued runs in the interval that ends are shown and counted anew (R360). -/
def State.showQueued (s : State) : State :=
  (finList 16).foldl (fun s t =>
    let n := (s.tile (tileOf s.activePlane t)).qcyc
    let s := s.put (STK_TL_LOAD.QUEUED t) (min 0xFFFF (n / 256))
    [0, 1].foldl (fun s pl => s.setTile (tileOf pl t) { s.tile (tileOf pl t) with qcyc := 0 }) s) s

/-- TIER_MEASUREMENT: an interval of MEAS current periods ends: the queued cycles are shown; with AUTO_TIER and no FREEZE, the buffers named
get the tier of their access rate in it (R355, R357, R360; log 27). -/
def execTierMeasurement (acc : List (Fin 8192 × Nat)) (s : State) : Host.Outcome State Fault Refusal :=
  let k := s.stk.measAt + getBits s.stk.cfg 16 16
  let s := s.advance (s.boundary k)
  let s := ({ s with stk := { s.stk with measAt := max k s.periodNo } }).showQueued
  if s.autoTier then
    .next (acc.foldl (fun s (q : Fin 8192 × Nat) =>
      let b := s.bufRec q.1
      let t := s.tierFor q.1 q.2
      if b.defined && decide (1024 ≤ q.1.val) && t != b.tier then s.setBuf q.1 { b with want := some t, copied := false, spoiled := false } else s) s)
  else .next s

/-- STK_REBALANCE: a full rebalance is asked for; it is applied from the next handover boundary (R354, R355). -/
def execStkRebalance (s : State) : Host.Outcome State Fault Refusal := .next { s with stk := { s.stk with rebal := true } }

/-- The bits of a 64-byte descriptor that are reserved: FLAGS [7:2], byte 25, EVENT [14:9], WITH [14:12], APART [14:12], bytes 54
to 59, and [30:13] of an argument that is a handle (R334, R338). -/
def descReserved (d : List Word) : Bool :=
  descGet d 1 26 6 != 0 || descGet d 6 8 8 != 0 || descGet d 12 9 6 != 0 || descGet d 12 28 3 != 0 || descGet d 13 12 3 != 0 ||
    descGet d 13 16 16 != 0 || descGet d 14 0 32 != 0 ||
    (List.range 4).any (fun k => (d.getD (8 + k) 0).getLsbD 31 && getBits (d.getD (8 + k) 0) 13 18 != 0)

/-- Whether the fields of a descriptor lie in their ranges (R334, R336). -/
def TaskRec.inRange (r : TaskRec) : Bool :=
  let common := decide (r.cls ≤ 2) && (if r.cls = 0 then decide (1 ≤ r.period ∧ r.period ≤ 32768 ∧ r.phase < r.period) else r.phase == 0)
    && (r.cls != 2 || r.period == 0) && decide (1000 ≤ r.deadlineNs ∧ r.deadlineNs ≤ 1000000000)
  if r.kind = 4 then common && r.queue == 1
  else common && decide (16 ≤ r.queue ∧ r.queue ≤ 63) && decide (1 ≤ r.wcet ∧ r.wcet < 2 ^ 31) && r.entry % 4 == 0 && r.dataBytes % 8 == 0

/-- The CRC-32C of the words of a stage but the last. -/
def stageCrc (d : List Word) : Word := crc32c ((d.dropLast).flatMap (fun w => leBytes 4 w.toNat))

/-- The result code of a create operation; 0 accepts it (R336, R362). -/
def State.createResult (s : State) (n : Fin 4096) (d : List Word) : Nat :=
  let r : TaskRec := { desc := d }
  if n.val < 512 then 1
  else if s.taskState n ≠ 0 then 5
  else if stageCrc d ≠ d.getD 15 0 then 2
  else if r.kind ≠ 3 ∧ r.kind ≠ 4 then 1
  else if descReserved d then 3
  else if !r.inRange then 4
  else if r.handles.any (fun h => !(s.bufRec h).defined) then 8
  else 0

/-- A task operation written to STK_DESC_CMD: ignored while one is pending; refused with its code, or accepted until the next
handover boundary (R335, R336, R362). -/
def State.descCmd (s : State) (n : Fin 4096) (op res : Nat) (f : State → State) : State :=
  if s.is STK_STAT.DESC_BUSY then s.flag STK_STAT.CMD_REFUSED
  else
    let s := s.put STK_DESC_CMD.TASK n.val
    if res ≠ 0 then s.put STK_DESC_CMD.RES res
    else
      let s := (f (s.put STK_DESC_CMD.RES 15)).put STK_STAT.DESC_BUSY 1
      { s with stk := { s.stk with descOp := some (n, op, 0) } }

/-- STK_CREATE: an accepted create makes the task DORMANT (R336, R339). -/
def execStkCreate (n : Fin 4096) (s : State) : Host.Outcome State Fault Refusal :=
  let d := buildList (fun k => s.rd (STK_DESC_STAGE (fin 16 k))) 16
  .next (s.descCmd n 1 (s.createResult n d) (fun s => (s.setTask n { desc := d }).put (STK_TS0.STATE n) 1))

/-- STK_DELETE: of a DORMANT task (R335, R339). -/
def execStkDelete (n : Fin 4096) (s : State) : Host.Outcome State Fault Refusal :=
  .next (s.descCmd n 2 (if n.val < 512 then 1 else if s.taskState n ≠ 1 then 5 else 0) id)

/-- STK_READ_DESC: copies a descriptor into the stage (R335, R362). -/
def execStkReadDesc (n : Fin 4096) (s : State) : Host.Outcome State Fault Refusal :=
  .next (s.descCmd n 3 (if n.val < 512 then 1 else if s.taskState n = 0 then 5 else 0) id)

/-- STK_ENABLE: of a DORMANT task (R336, R339). -/
def execStkEnable (n : Fin 4096) (s : State) : Host.Outcome State Fault Refusal :=
  .next (s.descCmd n 4 (if n.val < 512 then 1 else if s.taskState n ≠ 1 then 5 else 0) id)

/-- STK_DISABLE: of a task that is neither FREE nor DORMANT (R339). -/
def execStkDisable (n : Fin 4096) (s : State) : Host.Outcome State Fault Refusal :=
  .next (s.descCmd n 5 (if n.val < 512 then 1 else if s.taskState n < 2 then 5 else 0) id)

/-- The result code of a buffer create operation (R336, R337). -/
def State.bufResult (s : State) (h : Fin 8192) (d : List Word) : Nat :=
  let b : BufRec := { desc := d }
  if h.val < 1024 then 1
  else if (s.bufRec h).defined then 5
  else if stageCrc d ≠ d.getD 3 0 then 2
  else if descGet d 1 4 4 ≠ 0 ∨ descGet d 1 9 7 ≠ 0 ∨ descGet d 2 0 32 ≠ 0 then 3
  else if b.size % 64 ≠ 0 ∨ b.size < 64 ∨ 2 ^ 30 < b.size ∨ 2 < b.hottest ∨ 2 < b.coldest ∨ b.coldest < b.hottest ∨ (if b.replica then 4095 < b.writer else b.writer ≠ 0xFFFF) then 4
  else 0

/-- A buffer operation written to STK_BUF_CMD, as `State.descCmd` (R337). -/
def State.bufCmd (s : State) (h : Fin 8192) (op res : Nat) : State :=
  if s.is STK_STAT.BUF_BUSY then s.flag STK_STAT.CMD_REFUSED
  else
    let s := s.put STK_BUF_CMD.HANDLE h.val
    if res ≠ 0 then s.put STK_BUF_CMD.RES res
    else
      let s := (s.put STK_BUF_CMD.RES 15).put STK_STAT.BUF_BUSY 1
      { s with stk := { s.stk with bufOp := some (h, op, 0) } }

/-- BUF_CREATE: defines a handle; its first tier lies within its bounds (log 27). -/
def execBufCreate (h : Fin 8192) (s : State) : Host.Outcome State Fault Refusal :=
  let d := buildList (fun k => s.rd (STK_BUF_STAGE (fin 4 k))) 4
  let res := s.bufResult h d
  let s' := s.bufCmd h 1 res
  let b : BufRec := { desc := d }
  .next (if res = 0 ∧ s.is STK_STAT.BUF_BUSY = false then s'.setBuf h { b with tier := min (max b.hottest (Config.firstTier h.val)) b.coldest } else s')

/-- BUF_DELETE: removes a handle. -/
def execBufDelete (h : Fin 8192) (s : State) : Host.Outcome State Fault Refusal :=
  .next (s.bufCmd h 2 (if h.val < 1024 then 1 else if (s.bufRec h).defined then 0 else 8))

/-- BUF_READ: copies a buffer descriptor into the stage. -/
def execBufRead (h : Fin 8192) (s : State) : Host.Outcome State Fault Refusal :=
  .next (s.bufCmd h 3 (if (s.bufRec h).defined then 0 else 8))

/-- The pending buffer operation completes (R335, R337). -/
def State.bufOpDone (s : State) : State :=
  match s.stk.bufOp with
  | none => s
  | some (h, op, _) =>
    let s := if op = 2 then s.setBuf h {} else if op = 3 then
        (finList 4).foldl (fun s k => s.wr (STK_BUF_STAGE k) ((s.bufRec h).desc.getD k.val 0)) s
      else s
    { (s.put STK_BUF_CMD.RES 0).put STK_STAT.BUF_BUSY 0 with stk := { s.stk with bufOp := none } }

/-- The task operation ends with a result code. -/
def State.descOpEnd (s : State) (res : Nat) : State :=
  { (s.put STK_DESC_CMD.RES res).put STK_STAT.DESC_BUSY 0 with stk := { s.stk with descOp := none } }

/-- A disable completes (R339). -/
def State.disableTask (s : State) (n : Fin 4096) : State :=
  let st := s.taskState n
  if st = 6 then s.setTask n { s.taskRec n with stopping := true }
  else
    let s := if st = 4 then s.queueDown (s.taskQueue n) else s
    let s := ((if s.is (STK_TS0.PLACED n) then s.placeChanged else s).dropSlot n).unhold n
    let s := s.setTask n { s.taskRec n with delay := none, want := none }
    (s.put (STK_TS0.STATE n) 1).put (STK_TS0.PLACED n) 0

/-- The pending task operation at a handover boundary, but for an enable that is to be placed (R335, R339). -/
def State.descOpDone (s : State) : State :=
  match s.stk.descOp with
  | none => s
  | some (n, op, _) =>
    if op = 1 then s.descOpEnd 0
    else if op = 2 then ((s.setTask n {}).wr (STK_TS0 n) 0).descOpEnd 0
    else if op = 3 then ((finList 16).foldl (fun s k => s.wr (STK_DESC_STAGE k) ((s.taskRec n).desc.getD k.val 0)) s).descOpEnd 0
    else if op = 5 then (s.disableTask n).descOpEnd 0
    else if (s.taskRec n).kind = 4 then ((s.put (STK_TS0.STATE n) 2).put (STK_TS0.QUEUE n) 1).descOpEnd 0
    else s

/-- A task's code image written into the program memory of a tile of the planes that run (08 R282; 10 R354, R356). -/
def State.imageTo (s : State) (n : Fin 4096) (t : Fin 16) : State :=
  let o := Config.areaOf n.val 5
  let bs := ((List.range (Config.imageBytes (s.imageKey n))).map (Config.imageCode (s.imageKey n))).take (0x10000 - o)
  s.runPlanes.foldl (fun s pl =>
    let u := tileOf pl t
    (s.mwrite (tileBase u + 0x40000 + o) bs).setTile u { s.tile u with bad := (s.tile u).bad.filter (fun a => decide ¬(0x40000 + o ≤ a ∧ a < 0x40000 + o + bs.length)) }) s

/-- A reader newly on a tile gets its copy of each hot replica it names, from the writer's tile, or from another that has one (R357). -/
def State.replicasTo (s : State) (n : Fin 4096) (t : Fin 16) : State :=
  ((s.taskRec n).handles.filter (fun h => (s.bufRec h).replica && (s.bufRec h).tier == 0)).foldl (fun s h =>
    let w : Fin 4096 := fin 4096 (s.bufRec h).writer
    let ts := (if s.is (STK_TS0.PLACED w) then [fin 16 (s.get (STK_TS0.TILE w))] else []) ++ s.bufTiles h
    match ts with
    | [] => s
    | u :: _ => if u = t ∨ t ∈ ts then s else s.copyBoth (fun pl => bufHome h 0 pl u) (fun pl => bufHome h 0 pl t) (s.bufRec h).size) s

/-- A task placed on a tile: its status, and for a loop the state of its descriptor (R166, R190, R354). -/
def State.placeTask (s : State) (n : Fin 4096) (t : Fin 16) (k : Nat) : State :=
  let q := if n.val = 256 then 0 else if 512 ≤ n.val then (s.taskRec n).queue else 0
  let s := s.replicasTo n t
  let s := (((s.put (STK_TS0.TILE n) t.val).put (STK_TS0.PLACED n) 1).put (STK_TS0.STATE n) 2).put (STK_TS0.QUEUE n) q
  let s := (s.setTask n { s.taskRec n with want := none, copied := false }).imageTo n t
  if n.val < 256 then
    let d := loopOfTask n
    let s := s.setLoop d { s.loop d with tile := some (t, k + 1), blk := [] }
    (s.put (LD_STAT.STATE d) (if s.standard d then 1 else 3)).banksToTile d
  else s

/-- A task that cannot be placed (R190, R336): a loop is reported as an invalid configuration; an enable ends with its code. -/
def State.placeFail (s : State) (n : Fin 4096) : State :=
  let reason := if (finList 16).any (fun t => s.memOk (n :: onTile s.placement t)) then 6 else 7
  let s := ((s.flag STK_STAT.PLACE_FAIL).put STK_FAIL_TASK.TASK n.val).put STK_FAIL_TASK.REASON reason
  let s := s.setTask n { s.taskRec n with want := none }
  if n.val < 256 then (s.put (LD_CTRL.EN (loopOfTask n)) 0).flag (LD_STAT.CFG_REFUSED (loopOfTask n))
  else match s.stk.descOp with
    | some (m, 4, _) => if m = n then s.descOpEnd reason else s
    | _ => s

/-- The tasks that wait to be placed: enabled loops, the interpolators of enabled arms, the planner while any arm is enabled, and the
task of an enable (R333, R354). -/
def State.toPlace (s : State) : List (Fin 4096) :=
  ((finList 256).filter (fun d => s.is (LD_CTRL.EN d) && s.get (LD_STAT.STATE d) == 0 && (s.loop d).tile.isNone && decide (s.taskState (fin 4096 d.val) < 2))).map (fun d => fin 4096 d.val)
  ++ (if (finList 8).any (fun a => s.is (ARM_CTRL.EN a)) && decide (s.taskState 256 < 2) then [256] else [])
  ++ ((finList 8).filter (fun a => s.is (ARM_CTRL.EN a) && decide (s.taskState (fin 4096 (257 + a.val)) < 2))).map (fun a => fin 4096 (257 + a.val))
  ++ (match s.stk.descOp with | some (n, 4, _) => [n] | _ => [])

/-- Whether the cause of a task is gone: a loop no longer enabled, interpolator and planner of arms no longer enabled (R333). -/
def State.causeGone (s : State) (n : Fin 4096) : Bool :=
  if n.val < 256 then (s.loop (loopOfTask n)).tile.isNone && !s.is (LD_CTRL.EN (loopOfTask n))
  else if n.val = 256 then !(finList 8).any (fun a => s.is (ARM_CTRL.EN a))
  else decide (n.val < 265) && !s.is (ARM_CTRL.EN (armOfTask n))

/-- The system tasks whose cause is gone are disabled and deleted, one that runs at the end of its run (R333, R339). -/
def State.retire (s : State) : State :=
  let known := s.regs.filterMap (fun (q : Reg × Word) => match q.1 with
    | .stk (.STK_TS0 n) => if getBits q.2 5 3 ≠ 0 ∧ s.causeGone n then some n else none
    | _ => none)
  known.foldl (fun s n =>
    let st := s.taskState n
    if st = 6 then s.setTask n { s.taskRec n with stopping := true }
    else
      let s := if st = 4 then s.queueDown (s.taskQueue n) else s
      let s := if s.is (STK_TS0.PLACED n) then s.placeChanged else s
      (((s.dropSlot n).unhold n).wr (STK_TS0 n) 0).setTask n {}) s

/-- A moved task switches to its new tile at a handover boundary when its copy is complete: its image, state area, bank copies and hot
buffers; one that is slotted or runs there has its run on the old tile, and its copy is repeated (R356). -/
def State.switchMoves (s : State) : State :=
  s.stk.tasks.foldl (fun s (q : Fin 4096 × TaskRec) =>
    match q.2.want, q.2.copied with
    | some u, true =>
      let n := q.1
      if s.taskState n = 5 ∨ s.taskState n = 6 then s.setTask n { s.taskRec n with copied := false } else
      let t : Fin 16 := fin 16 (s.get (STK_TS0.TILE n))
      let areas := if n.val < 256 then [(0, 64), (1, 2048), (2, 256), (6, 256)]
        else if 257 ≤ n.val ∧ n.val < 265 then [(7, 2 * (64 + 8 * 64))] else [(3, (s.taskRec n).dataBytes)]
      let hot := (s.taskRec n).handles.filter (fun h => (s.bufRec h).tier == 0)
      let s := s.runPlanes.foldl (fun s pl => areas.foldl (fun s (a : Nat × Nat) =>
          s.copyMem (tileBase (tileOf pl t) + Config.areaOf n.val a.1) (tileBase (tileOf pl u) + Config.areaOf n.val a.1) a.2) s) s
      let s := hot.foldl (fun s h => s.copyBoth (fun pl => bufHome h 0 pl t) (fun pl => bufHome h 0 pl u) (s.bufRec h).size) s
      let s := ((s.put (STK_TS0.TILE n) u.val).setTask n { s.taskRec n with want := none, copied := false }).imageTo n u
      if n.val < 256 then
        let d := loopOfTask n
        s.setLoop d { s.loop d with tile := (s.loop d).tile.map (fun (p : Fin 16 × Nat) => (u, p.2)) }
      else s
    | _, _ => s) s

/-- The argument registers of the tasks slotted with a buffer resolved anew (R338, R358). -/
def State.reslot (s : State) (h : Fin 8192) : State :=
  (finList 32).foldl (fun s t => match (s.tile t).slot with
    | some q => if h ∈ (s.taskRec q.task).handles then s.setTile t { s.tile t with slot := some { q with args := (s.slotOf q.task q.waits).args } } else s
    | none => s) s

/-- A buffer whose copy is complete takes its new tier at a handover boundary, also in the registers of tasks that are slotted; while a task
that names it runs, it waits for a later boundary (R358). -/
def State.switchBufs (s : State) : State :=
  s.stk.bufs.foldl (fun s (q : Fin 8192 × BufRec) =>
    match q.2.want, q.2.copied with
    | some w, true =>
      if (s.bufUsers q.1).any (fun n => s.taskState n == 6) then s
      else
        let ts := match s.bufTiles q.1 with | [] => [0] | l => l
        let t0 : Fin 16 := ts.headD 0
        let s := ts.foldl (fun s u => s.copyBoth (fun pl => bufHome q.1 q.2.tier pl t0) (fun pl => bufHome q.1 w pl u) q.2.size) s
        (s.setBuf q.1 { q.2 with tier := w, want := none, copied := false, spoiled := false }).reslot q.1
    | _, _ => s) s

/-- A placement has been applied (R361). -/
def State.bumpGen (s : State) : State := s.put STK_STAT.PLACE_GEN (s.get STK_STAT.PLACE_GEN + 1)

/-- A placement with a task moved. -/
def moved (pl : Placed) (n : Fin 4096) (t : Fin 16) : Placed := (n, t) :: pl.filter (fun (q : Fin 4096 × Fin 16) => q.1 != n)

/-- Whether a task may stand on its tile beside the others of a placement (R354). -/
def State.stands (s : State) (pl : Placed) (n : Fin 4096) (t : Fin 16) : Bool :=
  let rest := pl.filter (fun (q : Fin 4096 × Fin 16) => q.1 != n)
  decide (t ∈ s.cand rest n) && s.fits rest n t

/-- An order of some moves in which every intermediate placement passes the checks, if there is one (R355). -/
def State.orderOf (s : State) : Nat → List (Fin 4096 × Fin 16) → Placed → Option (List (Fin 4096 × Fin 16))
  | _, [], _ => some []
  | 0, _, _ => none
  | k + 1, ms, pl =>
    ms.findSome? (fun (q : Fin 4096 × Fin 16) =>
      if s.stands pl q.1 q.2 then
        (s.orderOf k (ms.filter (fun (m : Fin 4096 × Fin 16) => m.1 != q.1)) (moved pl q.1 q.2)).map (fun l => q :: l)
      else none)
termination_by structural k => k

/-- The largest table load of a tile under a placement. -/
def State.largestLoad (s : State) (pl : Placed) : Nat := ((finList 16).map (fun t => s.tblLoad (s.tableOf pl t))).foldl max 0

/-- The placements of all placed tasks that pass the checks. -/
def State.fullPlacements (s : State) : List Placed :=
  let all := s.placement.foldr (fun (q : Fin 4096 × Fin 16) ps => ps.flatMap (fun pl => (finList 16).map (fun t => (q.1, t) :: pl))) [[]]
  all.filter (fun pl => pl.all (fun (q : Fin 4096 × Fin 16) => s.stands pl q.1 q.2))

/-- The sequences of moves that lead to a full placement with the least largest table load by placements that all pass the checks (R355). -/
def State.rebalances (s : State) : List (List (Fin 4096 × Fin 16)) :=
  let now := s.placement
  let ps := s.fullPlacements
  let least := minOf (ps.map (fun pl => ((s.largestLoad pl : Nat) : Rat)))
  (ps.filter (fun pl => some ((s.largestLoad pl : Nat) : Rat) = least)).filterMap (fun pl =>
    let ms := pl.filter (fun (q : Fin 4096 × Fin 16) => q ∉ now)
    s.orderOf ms.length ms now)

/-- A rebalance at a handover boundary, asked for or automatic (R355): its moves, or REBAL_FAIL when no order of moves exists. -/
def State.rebalance (s : State) : State :=
  if s.stk.rebal || (s.autoRebal && s.stk.changed) then
    let s := { s with stk := { s.stk with rebal := false } }
    match s.rebalances with
    | [] => s.flag STK_STAT.REBAL_FAIL
    | l =>
      let ms := l.getD (Config.rebalance s.fresh % l.length) []
      let s := { s.useFresh with stk := { s.stk with moves := ms } }
      if ms.isEmpty then s else s.bumpGen
  else s

/-- The next moves of a rebalance begin, at most MOVES at a boundary, when none is under way and Stack is not told to keep its placement
(R355). -/
def State.startMoves (s : State) : State :=
  if s.is STK_CTRL.FREEZE ∨ s.stk.tasks.any (fun (q : Fin 4096 × TaskRec) => q.2.want.isSome) then s
  else
    let m := s.stkMoves
    let s' := (s.stk.moves.take m).foldl (fun s (q : Fin 4096 × Fin 16) => s.setTask q.1 { s.taskRec q.1 with want := some q.2, copied := false }) s
    { s' with stk := { s'.stk with moves := s.stk.moves.drop m } }

/-- The enable of a task that has been placed completes. -/
def State.closeEnable (s : State) (n : Fin 4096) : State :=
  match s.stk.descOp with
  | some (m, 4, _) => if m = n then (s.descOpEnd 0).wakeOf n else s
  | _ => s


/-- The hot buffers that leave for the warm tier because a time-triggered task needs the space: those on a tile that no time-triggered task
names and whose COLDEST allows it (R357). -/
def State.spareHot (s : State) : List (Fin 8192) :=
  (s.stk.bufs.filter (fun (q : Fin 8192 × BufRec) => q.2.defined && q.2.tier == 0 && decide (1 ≤ q.2.coldest) && !(s.bufTiles q.1).isEmpty
    && (s.bufUsers q.1).all (fun n => !s.timeTriggered n))).map (fun (q : Fin 8192 × BufRec) => q.1)

/-- Whether a time-triggered task lacks memory on every tile that may take it. -/
def State.lacksMemory (s : State) (n : Fin 4096) : Bool :=
  State.loopOrInterp n && (s.cand s.placement n).all (fun t => !s.memOk (n :: onTile s.placement t))

/-- Tasks that do not fit: a time-triggered one that lacks memory waits while hot buffers are moved to make room, with AUTO_TIER and no
FREEZE (R357; log 54); the others fail. -/
def State.failOrWait (s : State) (bad : List (Fin 4096)) : State :=
  let hot := s.spareHot
  let wait := fun (n : Fin 4096) => s.autoTier && !hot.isEmpty && s.lacksMemory n
  let s' := if bad.any wait then hot.foldl (fun s h =>
      let b := s.bufRec h
      if b.want = some 1 then s else s.setBuf h { b with want := some 1, copied := false }) s
    else s
  (bad.filter (fun n => !wait n)).foldl (fun s n => s.placeFail n) s'

/-- The placement of new tasks at boundary k (R354): on top of the present placement; else by a full placement that moves at most
MOVES placed tasks, which wait for those moves; else PLACE_FAIL. -/
def State.placeNew (s : State) (k : Nat) : State :=
  let ns := s.placeOrder (s.toPlace.filter (fun n => (s.taskRec n).want.isNone))
  let ready := (s.toPlace.filter (fun n => (s.taskRec n).want.isSome))
  let moving := s.stk.tasks.any (fun (q : Fin 4096 × TaskRec) => q.2.want.isSome && s.is (STK_TS0.PLACED q.1))
  let s := if moving then s else ready.foldl (fun s n => match (s.taskRec n).want with
    | some t => (s.placeTask n t k).closeEnable n
    | none => s) s
  match ns with
  | [] => s
  | _ =>
    let pl := s.placement
    let (got, bad, hint) := s.placeAll ns pl
    let apply := fun (s : State) (l : Placed) => l.foldl (fun s (q : Fin 4096 × Fin 16) => if q.1 ∈ ns ∧ q.1 ∉ bad then (s.placeTask q.1 q.2 k).closeEnable q.1 else s) s
    let s' := if bad.length = ns.length then s else (apply s got).bumpGen.placeChanged
    let s' := if hint then s'.flag STK_STAT.HINT_DROPPED else s'
    match bad with
    | [] => s'
    | _ =>
      let old := s'.placement
      let (full, bad2, hint2) := s'.placeAll (s'.placeOrder (bad ++ old.map (fun (q : Fin 4096 × Fin 16) => q.1))) []
      let moves := full.filter (fun (q : Fin 4096 × Fin 16) => q.1 ∉ bad ∧ q ∉ old)
      if bad2.isEmpty ∧ moves.length ≤ s.stkMoves ∧ s.is STK_CTRL.FREEZE = false then
        let s' := if hint2 then s'.flag STK_STAT.HINT_DROPPED else s'
        (full.foldl (fun s (q : Fin 4096 × Fin 16) =>
          if q.1 ∈ bad ∨ q ∈ moves then s.setTask q.1 { s.taskRec q.1 with want := some q.2, copied := false } else s) s').bumpGen.placeChanged
      else s'.failOrWait bad

/-- The BIST task of every tile exists on that tile, with its image, once Stack runs (R333; 08 R282; 15 R491). -/
def State.bistTasks (s : State) : State :=
  if s.is STK_CTRL.EN then
    (finList 16).foldl (fun s t =>
      let n : Fin 4096 := fin 4096 (265 + t.val)
      if s.taskState n = 0 then ((((s.put (STK_TS0.TILE n) t.val).put (STK_TS0.PLACED n) 1).put (STK_TS0.STATE n) 2).put (STK_TS0.QUEUE n) 2).imageTo n t else s) s
  else s

/-- The tasks of the tile tables that are due in period k while still SLOTTED or RUNNING: that release is discarded (R341, R345). -/
def State.tableOverruns (s : State) (k : Nat) : State :=
  let pl := s.placement
  (finList 16).foldl (fun s t => (s.dueRun (s.tableOf pl t) k).foldl (fun s n =>
    if s.taskState n = 5 ∨ s.taskState n = 6 then (s.overrun n).setTask n { (s.overrun n).taskRec n with ranAt := some k } else s) s) s

/-- The releases of window edge k: periodic tasks by PERIOD and PHASE, the planner at a tick boundary, the BIST tasks of tiles with an
empty table each eighth period (R340; 15 R491). -/
def State.periodicReleases (s : State) (k : Nat) : State :=
  let due := (s.stk.tasks.filter (fun (q : Fin 4096 × TaskRec) => decide (512 ≤ q.1.val) && q.2.cls == 0 && !q.2.follows && k % max 1 q.2.period == q.2.phase)).map (fun (q : Fin 4096 × TaskRec) => q.1)
  let due := due ++ (if k % s.tickPeriods = 0 then [256] else [])
    ++ (if k % 8 = 0 then ((finList 16).filter (fun t => !s.onTable t)).map (fun t => fin 4096 (265 + t.val)) else [])
  due.foldl (fun s n => s.releaseOrDrop n) s

/-- Stack at handover boundary k: moves and buffers switch, pending operations complete, tasks are placed, a rebalance goes on, and
the releases of the window edge are made (R335, R339, R340, R354 to R358). -/
def State.stackEdge (s : State) (k : Nat) : State :=
  let s := { s with stk := { s.stk with cfg := s.rd STK_CFG } }
  let s := s.switchMoves.switchBufs.bufOpDone.descOpDone.retire.bistTasks
  let s := ((s.placeNew k).rebalance).startMoves
  let s := { s with stk := { s.stk with changed := false } }
  ((s.showTiles.tableOverruns k).periodicReleases k).icTimers

/-- A restart of the period sequencer re-bases the delay-list ticks: every entry keeps the ticks it has left (01 R34). The last release of
a sporadic task, from which its minimum interval counts, is forgotten: DESIGN CHOICE, log 47. -/
def State.stackRestart (s : State) : State :=
  { s with stk := { s.stk with measAt := 0, tasks := s.stk.tasks.map (fun (q : Fin 4096 × TaskRec) =>
      (q.1, { q.2 with delay := q.2.delay.map (fun (d : Fin 4 × Nat) => (d.1, d.2 - s.dlyNow d.1)), ranAt := none, lastRel := none })) } }

end Sys2Proof.Machine
end

