-- ==== Sys2Proof/Machine/Clock.lean ====
section
/-! DEFINITION. Islands, lock and the current-period selection (01), and the start of the time base (02 R51). -/

namespace Sys2Proof.Machine

open Sys2Proof

/-- ISL_CLK_WRITE: the Ember and Kiln clocks are set while no joint port is armed; otherwise, or with the reserved value
in either field, the write is ignored as a whole (R24). -/
def execIslClkWrite (v : Word) (s : State) : Host.Outcome State Fault Refusal :=
  let e := getBits v 0 2
  let k := getBits v 4 2
  if s.anyArmed ∨ e = 3 ∨ k = 3 then .next (s.flag ISL_STAT.SEL_REFUSED)
  else .next ((s.put ISL_CLK.EMBER_SEL e).put ISL_CLK.KILN_SEL k)

/-- One separation cycle of 250 us (R35), in 1/256 ns. -/
def sepUnits : Nat := 64000000

/-- The next capture instant of the separation cycle after now (R34, R393). -/
def State.nextCapture (s : State) : Time := s.seq.base + ((s.now - s.seq.base) / sepUnits + 1) * sepUnits

/-- PERIOD_SEL_WRITE: refused while a port is armed; else the field is set, and a restart is scheduled at the next capture
instant when none is pending and the length differs from the one in force (R32, R34). Before the sequencer has started
there is no restart: it starts with the length selected (log 12). -/
def execPeriodSelWrite (long : Bool) (s : State) : Host.Outcome State Fault Refusal :=
  if s.anyArmed then .next (s.flag ISL_STAT.SEL_REFUSED)
  else
    let t := s.putB PERIOD_CFG.PERIOD_SEL long
    if s.seq.running ∧ s.seq.restart = none ∧ long ≠ s.seq.long then
      .next { t with seq := { t.seq with restart := some s.nextCapture } }
    else .next t

/-- While Hearth restarts the state of the time service does not change and the rate correction is held (R59). -/
def State.timeHeld (s : State) : Bool := s.mb.restarting

/-- The time service leaves ACQUIRE or LOCKED for HOLDOVER, with the rate correction held; a node whose source is Chain freezes the
accumulated part of its correction, however it has entered HOLDOVER (R60, R61). -/
def State.toHoldover (s : State) : State :=
  if (s.get TB_STAT.STATE = 1 ∨ s.get TB_STAT.STATE = 2) ∧ s.timeHeld = false then
    { s.put TB_STAT.STATE 3 with
      time := { s.time with rateReq := (s.rd TB_RATE_ACT).toInt, good := 0 }
      chain := if s.get TB_CTRL.SOURCE = 1 then { s.chain with frozen := some s.chain.rho } else s.chain }
  else s

/-- REF_LOSS: holdover, REF_LOST and a record; PLL_LOCK stays 1 (R30). The time service enters HOLDOVER (R60). -/
def execRefLoss (s : State) : Host.Outcome State Fault Refusal :=
  let s := (s.flag ISL_STAT.HOLDOVER).flag ISL_STAT.REF_LOST
  let s := { s with time := { s.time with refPresent := false } }
  .next ((s.post 0x0010 2 s.cellAddr [1]).toHoldover)

/-- Whether the source selected in TB_CTRL is valid now (R60). -/
def State.sourceValid (s : State) : Bool :=
  (s.get TB_CTRL.SOURCE == 1 && s.time.chainValid) || (s.get TB_CTRL.SOURCE == 2 && s.time.ptpValid)

/-- HOLDOVER ends when the source is valid and the reference present; FREE ends when a source is selected and valid; both
lead to ACQUIRE with rate steering only (R60). -/
def State.reacquire (s : State) : State :=
  if (s.get TB_STAT.STATE = 3 ∧ s.time.refPresent ∨ s.get TB_STAT.STATE = 4) ∧ s.sourceValid ∧ s.timeHeld = false then
    { s.put TB_STAT.STATE 1 with time := { s.time with good := 0 }, chain := { s.chain with frozen := none } }
  else s

/-- Hearth is up again: the time service takes the state that the events during the restart call for (R59, R60; log 47). -/
def State.timeResume (s : State) : State :=
  if s.time.refPresent = false ∨ (s.get TB_CTRL.SOURCE ≠ 0 ∧ s.sourceValid = false) then s.toHoldover else s.reacquire

/-- PLL_RELOCK: the reference has been present for 10 ms; holdover ends and only the rate is steered (R30). -/
def execPllRelock (s : State) : Host.Outcome State Fault Refusal :=
  let s := s.put ISL_STAT.HOLDOVER 0
  .next { s with time := { s.time with refPresent := true } }.reacquire

/-- PLL_FIRST_LOCK: the main PLL first reports lock after reset (R47, R51); after a clock fault PLL_LOCK reads 0 until a
reset (R31). -/
def execPllFirstLock (s : State) : Host.Outcome State Fault Refusal :=
  if s.time.clockFault then .next s else .next (s.flag ISL_STAT.PLL_LOCK)

/-- TIME_BASE_START: on the first grid instant after first lock the time base starts at 0 s, 0 ns (R51), and period 0
begins there with the length selected (R34). -/
def execTimeBaseStart (s : State) : Host.Outcome State Fault Refusal :=
  if s.time.start = none ∧ s.is ISL_STAT.PLL_LOCK then
    let s := s.advance (ceilTo gridUnits s.now)
    .next { s.wr PERIOD_CNT 0 with
      time := { s.time with start := some s.now, ofs := 0 }
      seq := { s.seq with running := true, base := s.now, next := 0, long := s.is PERIOD_CFG.PERIOD_SEL } }
  else .next s

end Sys2Proof.Machine
end

