-- ==== Sys2Proof/Machine/Time.lean ====
section
/-! DEFINITION. Cell time: the one step, rate steering, the time source, PTP, capture inputs and pulse outputs (02). -/

namespace Sys2Proof.Machine

open Sys2Proof

/-- The largest rate correction, in units of TB_RATE (R58). -/
def rateLimit : Int := 137438953

/-- The largest change of the correction at one boundary (R58). -/
def rateStepLimit : Int := 274877

/-- TB_STAT.SLEW reads 1 while a change is in progress (R58). -/
def State.showSlew (s : State) : State := s.putB TB_STAT.SLEW (decide (s.time.rateReq ≠ (s.rd TB_RATE_ACT).toInt))

/-- A rate request: clamped to the limit, with RATE_CLAMPED when it was beyond it (R58, R63). -/
def State.requestRate (s : State) (x : Int) : State :=
  let c := clampInt (-rateLimit) rateLimit x
  let s := if c = x then s else s.flag TB_STAT.RATE_CLAMPED
  { s with time := { s.time with rateReq := c } }.showSlew

/-- Whether the applied correction is held: while Hearth restarts (R59), and while the main PLL is in holdover on its last control word
(01 R30), but for a Chain node in HOLDOVER, which goes on steering within 5 ppm (R61). -/
def State.rateHeld (s : State) : Bool :=
  s.timeHeld || (s.is ISL_STAT.HOLDOVER && !(s.get TB_CTRL.SOURCE == 1 && s.get TB_STAT.STATE == 3))

/-- Whether the remainder of a step that the host set is still to be removed by rate steering (R57). -/
def State.remainderDue (s : State) : Bool := s.get TB_CTRL.SOURCE == 0 && s.get TB_STAT.STATE == 4 && s.time.remainder != 0

/-- The applied correction moved towards a target by at most the limit of R58. -/
def State.slewTo (s : State) (x : Int) : State :=
  let act := (s.rd TB_RATE_ACT).toInt
  s.wr TB_RATE_ACT (wordOf (act + clampInt (-rateStepLimit) rateStepLimit (x - act)))

/-- The step of the applied correction at a current-period boundary (R58). What it exceeds the request by takes away, over the period that
begins, from the remainder of a step that the host set; the rate chosen for it is free (R57; log 10). -/
def State.rateStep (s : State) : State :=
  if s.rateHeld then s.showSlew
  else if s.remainderDue then
    let s := (s.slewTo (clampInt (-rateLimit) rateLimit (s.time.rateReq + Config.remainderRate s.fresh s.time.remainder))).useFresh
    let done := ((s.rd TB_RATE_ACT).toInt - s.time.rateReq) * s.period / (2 ^ 38 : Nat)
    { s with time := { s.time with remainder := s.time.remainder - done } }.showSlew
  else (s.slewTo s.time.rateReq).showSlew

/-- The single step becomes known (R57): rounded to whole grid steps, ties towards zero, the remainder left to rate
steering, to be applied at the first grid instant at or after `at_`. -/
def State.stepKnown (s : State) (x : Int) (at_ : Time) (next : Nat) : State :=
  let r := roundTiesZero x gridUnits
  { s with time := { s.time with step := some (r * gridUnits, ceilTo gridUnits at_, next), remainder := x - r * gridUnits } }

/-- A pulse output with a pending edge stops at a step: idle level, ACTIVE cleared, STEPPED set (R76). -/
def State.stopPulse (s : State) (n : Fin 8) : State :=
  match (tget s.pulses n {}).cur with
  | none => s
  | some _ => (({ s with pulses := tset s.pulses n {} }).put (TPO_STAT.ACTIVE n) 0).flag (TPO_STAT.STEPPED n)

/-- TIME_STEP: the known step is applied at its grid instant, recorded, the pulse outputs stop, and the time service leaves
UNSET (R57, R60, R62, R76); a step that the gateway announces waits for its Chain cycle (14 R472). DESIGN CHOICE (log 61): a step that is known
when Hearth restarts is applied at its grid instant all the same, and STATE changes with it; R59 says that the state does not change then and
nothing of a step already pending. -/
def execTimeStep (s : State) : Host.Outcome State Fault Refusal :=
  match s.time.step with
  | none => .next s
  | some (d, at_, nx) =>
    if s.chain.announce then .next s else
    let s := s.advance at_
    let s := { s with time := { s.time with ofs := s.time.ofs + d, step := none, stepped := true, good := 0 } }
    let s := (finList 8).foldl State.stopPulse s
    let s := s.put TB_STAT.STATE nx
    .next (s.post 0x0011 0 s.cellAddr (leBytes 6 (unsignedOf 48 (d / 256))))

/-- TIME_SET_ACCEPT: the set command's write has crossed into the fabric island; its step is the payload time less cell
time now (R57). Only while UNSET, with source none and no step known, does the time base accept it (R60); otherwise it
sets STEP_REFUSED. -/
def execTimeSetAccept (s : State) : Host.Outcome State Fault Refusal :=
  match s.time.setCross with
  | none => .next s
  | some (sec, ns) =>
    let s := { s with time := { s.time with setCross := none } }
    if s.get TB_STAT.STATE = 0 ∧ s.time.step = none ∧ s.get TB_CTRL.SOURCE = 0 then
      .next (s.stepKnown (timeOf sec ns 0 - s.cell) s.now 4)
    else .next (s.flag TB_STAT.STEP_REFUSED)

/-- The effect of a write of TB_RATE (R63). -/
def State.writeRate (s : State) (v : Word) : State :=
  if s.get TB_CTRL.SOURCE = 0 then (s.wr TB_RATE (wordOf (clampInt (-rateLimit) rateLimit v.toInt))).requestRate v.toInt
  else s.flag TB_STAT.RATE_REFUSED

/-- TB_RATE_WRITE: effective only while the source is none; clamped beyond the limit (R63). -/
def execTbRateWrite (v : Word) (s : State) : Host.Outcome State Fault Refusal := .next (s.writeRate v)

/-- The effect of a write of TB_CTRL.SOURCE: the reserved value is ignored (R79); FREE moves to ACQUIRE when the new source
is valid (R60). -/
def State.writeSource (s : State) (src : Nat) : State :=
  if src % 4 = 3 then s else (s.put TB_CTRL.SOURCE src).reacquire

/-- TB_SOURCE_WRITE. -/
def execTbSourceWrite (src : Fin 4) (s : State) : Host.Outcome State Fault Refusal := .next (s.writeSource src.val)

/-- A measured offset to the source (R57, R60): the first gives the single step, which takes the offset away, unless a step announced to the
Chain waits (R62); 16 in a row below 100 ns lead from ACQUIRE to LOCKED; the rate request follows from the servo, which the spec leaves
open. TB_OFFSET shows the low 32 bits of an offset that it does not hold (DESIGN CHOICE, log 47). While Hearth restarts the state does not
change (R59). -/
def State.offsetMeasured (s : State) (o : Int) : State :=
  let s := s.wr TB_OFFSET (wordOf o)
  if s.timeHeld then s
  else if s.get TB_STAT.STATE = 0 then
    if s.time.step = none ∧ s.time.stepped = false ∧ s.chain.step = none then s.stepKnown (-o) s.now 1 else s
  else if s.get TB_STAT.STATE = 1 then
    let g := if o.natAbs < 100 * nsUnits then s.time.good + 1 else 0
    let s := { s with time := { s.time with good := g } }
    if 16 ≤ g then s.put TB_STAT.STATE 2 else s
  else s.reacquire

/-- The rate request of the PTP servo after a measured offset (log 10). -/
def State.servo (s : State) (o : Int) : State :=
  if s.get TB_STAT.STATE = 1 ∨ s.get TB_STAT.STATE = 2 then (s.requestRate (Config.servoRate s.fresh o)).useFresh else s

/-- The raw stamp of a port: cell time at the fabric edge that registers the first symbol (R67). -/
def State.rawStamp (s : State) : Int := (ceilTo nsUnits s.cell : Nat)

/-- The corrected ingress stamp of timestamp port q (R66). -/
def State.ingress (s : State) (q : Fin 20) : Int := s.rawStamp - getBits (s.rd (TSP_INGRESS q)) 0 24

/-- The corrected egress stamp of timestamp port q (R66). -/
def State.egress (s : State) (q : Fin 20) : Int := s.rawStamp + getBits (s.rd (TSP_EGRESS q)) 0 24

/-- Half of a sum of 1/256 ns; for an odd sum the spec does not say which way (log 9). -/
def half (x : Int) : Int := if x % 2 = 0 then x / 2 else Config.halfOf x

/-- The timestamp port of Ethernet port p. -/
def ethStampPort (p : Fin 4) : Fin 20 := fin 20 p.val

/-- Whether Ethernet port p acts as gateway slave port; a port set in both fields does (R79). -/
def State.gwPort (s : State) (p : Fin 4) : Bool := (s.get TB_CTRL.GW_PORTS).testBit p.val

/-- Whether Ethernet port p serves cell time as master (R79). -/
def State.masterPort (s : State) (p : Fin 4) : Bool := (s.get TB_CTRL.MASTER_PORTS).testBit p.val && !s.gwPort p

/-- Whether Ethernet port p can send: enabled with its link up (R87). -/
def State.ethSends (s : State) (p : Fin 4) : Bool := s.is (ETH_CTRL.EN p) && s.is (ETH_STAT.LINK p)

/-- The tag that a port inserts on transmit while ETH_VLAN.EN = 1: PCP and VID (R83). -/
def State.ethTag (s : State) (p : Fin 4) : Option (BitVec 16) :=
  if s.is (ETH_VLAN.EN p) then some (BitVec.ofNat 16 (s.get (ETH_VLAN.PCP p) * 2 ^ 13 + s.get (ETH_VLAN.VID p))) else none

/-- Frames sent on a port, one after the other. -/
def State.ethSendAll (s : State) (p : Fin 4) (xs : List EthSent) : State :=
  xs.foldl (fun s _ => s.count (ETH_TX_FRAMES p)) { s with eth := { s.eth with sent := tset s.eth.sent p (xs.map (fun x => (s.ethTag p, x))) } }

/-- The offset of R66 when the Sync stamps and the mean path delay are known. -/
def State.ptpOffset (s : State) (p : Fin 4) : State :=
  let q := tget s.time.ptp p {}
  match q.t1, q.t2, q.mean with
  | some t1, some t2, some m =>
    let o := (t2 - t1) - m - (s.rd (TSP_ASYM (ethStampPort p))).toInt
    let s := { s with time := { s.time with ptpValid := true, ptp := tset s.time.ptp p { q with t1 := none, t2 := none } } }
    if s.get TB_CTRL.SOURCE = 2 then (s.offsetMeasured o).servo o else s
  | _, _, _ => s

/-- The foreign master that the best master clock algorithm selects over the enabled gateway ports: the best data set, the lowest port on a
tie (R65; log 9). -/
def State.ptpParent (s : State) : Option (Fin 4 × (BitVec 80 × Nat)) :=
  (finList 4).foldl (fun m p =>
    match if s.gwPort p then s.time.foreign.find? (fun (q : Fin 4 × (BitVec 80 × Nat)) => q.1 = p) else none, m with
    | some q, some b => if q.2.2 < b.2.2 then some q else m
    | some q, none => some q
    | none, _ => m) none

/-- Whether a message at a port comes from the selected master (R65). -/
def State.fromParent (s : State) (p : Fin 4) (h : PtpHdr) : Bool :=
  match s.ptpParent with
  | some (q, id, _) => q == p && id == h.src
  | none => false

/-- The stamps of a PTP port replaced. -/
def State.setPtp (s : State) (p : Fin 4) (q : PtpPort) : State := { s with time := { s.time with ptp := tset s.time.ptp p q } }

/-- A Sync whose t1 and t2 are both known (R66). -/
def State.syncDone (s : State) (p : Fin 4) (t1 t2 : Int) : State :=
  (s.setPtp p { tget s.time.ptp p {} with rx := none, t1 := some t1, t2 := some t2, m1 := some t1, s1 := some t2 }).ptpOffset p

/-- An Announce at a gateway port: the port remembers the best foreign master it has heard; the selected one sets TB_UTC (R56, R65). -/
def State.ptpAnnounce (s : State) (p : Fin 4) (h : PtpHdr) (rank : Nat) (utc : Nat) (valid l61 l59 : Bool) : State :=
  let keep := match s.time.foreign.find? (fun (q : Fin 4 × (BitVec 80 × Nat)) => q.1 = p) with
    | some (_, id, r) => id != h.src && decide (r ≤ rank)
    | none => false
  let s := if keep then s else { s with time := { s.time with foreign := tset s.time.foreign p (h.src, rank) } }
  if s.fromParent p h then (((s.put TB_UTC.UTC utc).putB TB_UTC.VALID valid).putB TB_UTC.LEAP61 l61).putB TB_UTC.LEAP59 l59 else s

/-- A PTP message of the own domain at a gateway or master port with its corrected ingress stamp (R65, R66). Sync, Follow_Up and answers to a
delay request count from the selected master alone, and t1, t2 are those of one Sync; a master port answers delay requests, and both kinds
of port answer peer delay requests and reads of the port data set. -/
def State.ptpRx (s : State) (p : Fin 4) (h : PtpHdr) (m : PtpMsg) (stamp : Int) : State :=
  let q := tget s.time.ptp p {}
  let answer := fun (s : State) (x : PtpSent) => s.ethSendAll p [.ptp h.domain h.seq x]
  if h.domain ≠ Config.ptpDomain then s
  else match m with
  | .sync t1 =>
    if s.fromParent p h = false then s
    else match t1 with
      | some t1 => s.syncDone p t1 stamp
      | none => s.setPtp p { q with rx := some (h.seq, stamp) }
  | .followUp t1 =>
    match s.fromParent p h, q.rx with
    | true, some (n, t2) => if n = h.seq then s.syncDone p t1 t2 else s
    | _, _ => s
  | .delayReq => if s.masterPort p then answer (s.setPtp p { q with respStamp := stamp }) (.delayResp stamp) else s
  | .delayResp t4 =>
    match s.fromParent p h && !q.peer && h.seq == q.reqSeq, q.m1, q.s1, q.t3 with
    | true, some t1, some t2, some t3 => (s.setPtp p { q with mean := some (half ((t2 - t1) + (t4 - t3))), t3 := none }).ptpOffset p
    | _, _, _, _ => s
  | .pdelayReq => answer s (.pdelayResp stamp (s.egress (ethStampPort p)))
  | .pdelayResp t2 t3 =>
    match q.peer && h.seq == q.reqSeq, q.t3 with
    | true, some t1 => (s.setPtp p { q with mean := some (half ((t2 - t1) + (stamp - t3))), t3 := none }).ptpOffset p
    | _, _ => s
  | .announce rank utc valid l61 l59 => if s.gwPort p then s.ptpAnnounce p h rank utc valid l61 l59 else s
  | .getPortData => answer s (.portData (s.gwPort p) q.mean)
  | .otherManagement => s

/-- PTP_SOURCE_LOST: an announce-receipt timeout or 3 s without a valid Sync (R60); the selected master is given up (R65). -/
def execPtpSourceLost (s : State) : Host.Outcome State Fault Refusal :=
  let lost := fun (q : Fin 4 × (BitVec 80 × Nat)) => some q == s.ptpParent
  let s := { s with time := { s.time with ptpValid := false, foreign := s.time.foreign.filter (fun q => !lost q) } }
  if s.get TB_CTRL.SOURCE = 2 then .next s.toHoldover else .next s

/-- PTP_SYNC_TX: a master port sends a Sync and its Follow_Up with the Sync's corrected egress stamp, and with them the Announce that tells
of its clock (R65, R66; log 9). -/
def execPtpSyncTx (p : Fin 4) (s : State) : Host.Outcome State Fault Refusal :=
  if s.masterPort p ∧ s.ethSends p then
    let q := tget s.time.ptp p {}
    let t1 := s.egress (ethStampPort p)
    let t := s.setPtp p { q with syncSeq := q.syncSeq + 1, syncStamp := t1 }
    let x := fun (m : PtpSent) => EthSent.ptp Config.ptpDomain (q.syncSeq % 2 ^ 16) m
    .next (t.ethSendAll p [x (.announce (s.rd TB_UTC)), x .sync, x (.followUp t1)])
  else .next s

/-- PTP_DELAY_REQ_TX: a gateway slave port sends a delay request, or a peer delay request, and stamps its egress (R65,
R66). -/
def execPtpDelayReqTx (p : Fin 4) (peer : Bool) (s : State) : Host.Outcome State Fault Refusal :=
  if s.gwPort p ∧ s.ethSends p then
    let q := tget s.time.ptp p {}
    let n := (q.reqSeq + 1) % 2 ^ 16
    let t := s.setPtp p { q with t3 := some (s.egress (ethStampPort p)), peer := peer, reqSeq := n }
    .next (t.ethSendAll p [.ptp Config.ptpDomain n (if peer then .pdelayReq else .delayReq)])
  else .next s

/-- Whether TCAP_CTRL.EDGE selects an edge (R82). -/
def State.capSelects (s : State) (n : Fin 8) (rise : Bool) : Bool :=
  (s.get (TCAP_CTRL.EDGE n)).testBit (if rise then 0 else 1)

/-- TCAP_EDGE: a selected edge of an enabled input is stamped in multiples of 62.5 ps and buffered, or discarded and counted
when 16 entries wait (R70, R71); with LOCKET set each edge is recorded (R72). DESIGN CHOICE (log 47): an edge between two marks takes the
lower one; R70 gives no rounding. -/
def execTcapEdge (n : Fin 8) (rise : Bool) (t : Nat) (s : State) : Host.Outcome State Fault Refusal :=
  let s := s.advance t
  if s.is (TCAP_CTRL.EN n) ∧ s.capSelects n rise then
    let c := floorTo 16 (s.cellAt t)
    let e : CapEntry := { sec := secOf c, ns := nsOf c, frac := fracOf c, rise := rise, state := s.get TB_STAT.STATE }
    let buf := tget s.caps n []
    let s := if 16 ≤ buf.length then s.bump (TCAP_OVF n) else { s with caps := tset s.caps n (buf ++ [e]) }
    if s.is (TCAP_CTRL.LOCKET n) then
      .next (s.postAt 0x0014 0 s.cellAddr [BitVec.ofNat 8 n.val, BitVec.ofNat 8 e.frac, if rise then 1 else 0] c)
    else .next s
  else .next s

/-- The effect of a read of TCAP_HEAD_NS (R71). -/
def State.capRead (s : State) (n : Fin 8) : State :=
  match tget s.caps n [] with
  | [] => (s.wr (TCAP_HEAD_INFO n) 0).answer [0]
  | e :: r =>
    let s := { s with caps := tset s.caps n r }
    let s := (s.wr (TCAP_HEAD_SEC_LO n) (BitVec.ofNat 32 e.sec)).wr (TCAP_HEAD_SEC_HI n) (BitVec.ofNat 32 (e.sec / 2 ^ 32))
    let s := s.wr (TCAP_HEAD_NS n) (BitVec.ofNat 32 e.ns)
    let s := s.wr (TCAP_HEAD_INFO n)
      (BitVec.ofNat 32 (e.frac + (if e.rise then 2 ^ 8 else 0) + e.state * 2 ^ 9 + 2 ^ 12 + r.length * 2 ^ 16))
    s.answer [BitVec.ofNat 32 e.ns]

/-- TCAP_HEAD_READ: the oldest entry is returned and removed and its other fields latched; an empty buffer returns 0 with
VALID = 0 (R71). -/
def execTcapHeadRead (n : Fin 8) (s : State) : Host.Outcome State Fault Refusal := .next (s.capRead n)

/-- TB_NOW_READ: the present nanoseconds are returned and the seconds latched (R78). -/
def execTbNowRead (s : State) : Host.Outcome State Fault Refusal :=
  let c := s.cell
  .next ((((s.wr TB_NOW_NS (BitVec.ofNat 32 (nsOf c))).wr TB_NOW_SEC_LO (BitVec.ofNat 32 (secOf c))).wr TB_NOW_SEC_HI
    (BitVec.ofNat 32 (secOf c / 2 ^ 32))).answer [BitVec.ofNat 32 (nsOf c)])

/-- The effect of a write of TPO_CTRL.ARM (R77, R601): 1 needs the TIME group released; 0 makes the pin high-impedance and
stops the train (log 14). -/
def State.tpoArm (s : State) (n : Fin 8) (on : Bool) : State :=
  if on then
    if s.is PIN_REL.TIME then s.put (TPO_CTRL.ARM n) 1 else s.flag (TPO_STAT.ARM_REFUSED n)
  else ({ s with pulses := tset s.pulses n {} }.put (TPO_CTRL.ARM n) 0).put (TPO_STAT.ACTIVE n) 0

/-- TPO_ARM_WRITE. -/
def execTpoArmWrite (n : Fin 8) (on : Bool) (s : State) : Host.Outcome State Fault Refusal := .next (s.tpoArm n on)

/-- The nearest multiple of 125 ps, ties upwards (R73). -/
def round125 (x : Nat) : Nat := (x + 16) / 32 * 32

/-- The placed rise and fall of edge k (R73). -/
def Pulse.rise (p : Pulse) (k : Nat) : Nat := round125 (p.start + k * p.period)
/-- See `Pulse.rise`. -/
def Pulse.fall (p : Pulse) (k : Nat) : Nat := round125 (p.start + k * p.period + p.width)

/-- The first edge of a train whose rise is at or after an instant (R75). -/
def Pulse.firstFrom (p : Pulse) (c : Nat) : Nat :=
  let q := (c - p.start) / p.period
  if c ≤ p.rise q then q else if c ≤ p.rise (q + 1) then q + 1 else q + 2

/-- The number of pulses of a train; none without end (R73, R78). -/
def Pulse.total (p : Pulse) : Option Nat := if p.periodic then (if p.count = 0 then none else some p.count) else some 1

/-- A schedule committed at cell time c takes over (R75): committed less than 1 us before its start it is late; a late one-shot does not
fire, and a late train starts with its first edge at least 1 us after the commit. DESIGN CHOICE (log 47): edges that a late train skips
count as pulses of TPO_COUNT, and a counted train whose edges have all passed goes idle with LATE and without DONE; a schedule that waited
for the end of a pulse is judged late also by that end. -/
def State.tpoCommit (s : State) (n : Fin 8) (p : Pulse) (c : Nat) : State :=
  let s := s.wr (TPO_FIRED n) 0
  let lim := max (c + 1000 * nsUnits) s.cell
  let start (p : Pulse) (s : State) : State := { s with pulses := tset s.pulses n { cur := some p } }.put (TPO_STAT.ACTIVE n) 1
  let idle (s : State) : State := { s with pulses := tset s.pulses n {} }.put (TPO_STAT.ACTIVE n) 0
  if lim ≤ p.start then start p s
  else if p.periodic then
    let k := p.firstFrom lim
    let s := s.flag (TPO_STAT.LATE n)
    if p.count ≠ 0 ∧ p.count ≤ k then idle s else start { p with k := k } s
  else ((idle s).flag (TPO_STAT.LATE n)).post 0x0015 1 s.cellAddr [BitVec.ofNat 8 n.val]

/-- The schedule programmed in the registers of an output (R73, R78). -/
def State.tpoProgram (s : State) (n : Fin 8) : Pulse :=
  { start := timeOf ((s.rd (TPO_START_SEC_LO n)).toNat + (s.rd (TPO_START_SEC_HI n)).toNat * 2 ^ 32) (s.rd (TPO_START_NS n)).toNat
      (getBits (s.rd (TPO_START_FRAC n)) 0 8)
    period := (s.rd (TPO_PERIOD_NS n)).toNat * 256 + getBits (s.rd (TPO_PERIOD_FRAC n)) 0 8
    width := (s.rd (TPO_WIDTH_NS n)).toNat * 256 + getBits (s.rd (TPO_WIDTH_FRAC n)) 0 8
    periodic := s.is (TPO_CTRL.MODE n), count := (s.rd (TPO_COUNT n)).toNat, k := 0 }

/-- The effect of GO (R73, R74, R81): ignored while not armed; BADCFG out of range; else committed now, to take over after the present pulse
when one is being driven. -/
def State.tpoGo (s : State) (n : Fin 8) : State :=
  let p := s.tpoProgram n
  if s.is (TPO_CTRL.ARM n) then
    if 1000 * nsUnits ≤ p.period ∧ 8 * nsUnits ≤ p.width ∧ p.width + 8 * nsUnits ≤ p.period then
      let o := tget s.pulses n {}
      if o.high then { s with pulses := tset s.pulses n { o with next := some (p, s.cell) } } else s.tpoCommit n p s.cell
    else s.flag (TPO_STAT.BADCFG n)
  else s

/-- TPO_GO. -/
def execTpoGo (n : Fin 8) (s : State) : Host.Outcome State Fault Refusal := .next (s.tpoGo n)

/-- TPO_EDGE: the next edge is placed at its computed time (R73); a fall counts the pulse, ends a finished train with DONE
(R81), and lets a schedule committed meanwhile take over. -/
def execTpoEdge (n : Fin 8) (s : State) : Host.Outcome State Fault Refusal :=
  let o := tget s.pulses n {}
  match o.cur with
  | none => .next s
  | some p =>
    if o.high then
      let s := s.advance (s.deviceAt (p.fall p.k))
      let s := s.count (TPO_FIRED n)
      match o.next with
      | some (q, c) => .next ({ s with pulses := tset s.pulses n {} }.tpoCommit n q c)
      | none =>
        if p.total = some (p.k + 1) then
          .next (({ s with pulses := tset s.pulses n {} }.put (TPO_STAT.ACTIVE n) 0).flag (TPO_STAT.DONE n))
        else .next { s with pulses := tset s.pulses n { cur := some { p with k := p.k + 1 } } }
    else
      let s := s.advance (s.deviceAt (p.rise p.k))
      .next { s with pulses := tset s.pulses n { o with high := true } }

/-- The level of the ball TPULSE n, none while it is high-impedance: from ARM = 1 the idle level of POL, the other level in a pulse (R77, R81). The
ball of a group that is not released is high-impedance (19 R601). -/
def State.tpulseBall (s : State) (n : Fin 8) : Option Bool :=
  if s.is (TPO_CTRL.ARM n) ∧ s.is PIN_REL.TIME then some (s.is (TPO_CTRL.POL n) != (tget s.pulses n {}).high) else none

end Sys2Proof.Machine
end

