-- ==== Sys2Proof/Machine/Eth.lean ====
section
/-! DEFINITION. The Ethernet ports (02 R83 to R90). -/

namespace Sys2Proof.Machine

open Sys2Proof

/-- A number from bytes, first byte most significant. -/
def ofBytesBe (bs : List Byte) : Nat := bs.foldl (fun a b => a * 256 + b.toNat) 0

/-- The station address of a port, first byte on the wire most significant (R89). -/
def State.ethMac (s : State) (p : Fin 4) : BitVec 48 :=
  BitVec.ofNat 48 (ofBytesBe (leBytes 4 (s.rd (ETH_MAC_LO p)).toNat ++ leBytes 2 (s.rd (ETH_MAC_HI p)).toNat))

/-- The IPv6 address of a port (R89). -/
def State.ethIp6 (s : State) (p : Fin 4) : BitVec 128 :=
  BitVec.ofNat 128 ((List.range 4).foldl (fun a k => a * 2 ^ 32 + (s.rd (ETH_IP6 p (fin 4 k))).toNat) 0)

/-- The group bit of a station address: bit 0 of its first byte. -/
def groupBit (m : BitVec 48) : Bool := m.getLsbD 40

/-- The addresses of step 1 of R84 beside the port's own. -/
def ethGroups : List (BitVec 48) :=
  [0xFFFFFFFFFFFF, 0x011B19000000, 0x0180C200000E, 0x01005E000181, 0x01005E00006B, 0x333300000181, 0x33330000006B]

/-- Whether a destination is accepted at step 1 of R84. -/
def State.ethTakes (s : State) (p : Fin 4) (m : BitVec 48) : Bool :=
  m == s.ethMac p || ethGroups.contains m
    || (s.ethIp6 p != 0 && (m == 0x333300000001 || m == BitVec.ofNat 48 (0x3333FF000000 + (s.ethIp6 p).toNat % 2 ^ 24)))

/-- Step 1 of R84. -/
def State.ethFrameOk (s : State) (p : Fin 4) (f : EthFrame) : Bool :=
  f.fcsOk && decide (64 ≤ f.len ∧ f.len ≤ 1522)
    && (match f.vid with | some v => !s.is (ETH_VLAN.EN p) || v.val == s.get (ETH_VLAN.VID p) | none => true) && s.ethTakes p f.dst

/-- The places of a buffer's copies: plane and address (R337, R357). -/
def State.bufHomes (s : State) (h : Fin 8192) : List (Fin 2 × Nat) :=
  let tier := (s.bufRec h).tier
  (finList 2).flatMap (fun pl => if tier = 0 then (s.bufTiles h).map (fun t => (pl, bufHome h 0 pl t)) else [(pl, bufHome h tier pl 0)])

/-- Bytes written into every copy of a buffer. -/
def State.bufWrite (s : State) (h : Fin 8192) (o : Nat) (bs : List Byte) : State :=
  (s.bufHomes h).foldl (fun s (q : Fin 2 × Nat) => s.mwrite (q.2 + o) bs) s

/-- Bytes read from the active plane's copy of a buffer (15 R485). -/
def State.bufRead (s : State) (h : Fin 8192) (o n : Nat) : List Byte :=
  match (s.bufHomes h).find? (fun (q : Fin 2 × Nat) => q.1 = s.activePlane) with
  | some (_, a) => s.mread (a + o) n
  | none => List.replicate n 0

/-- The handle of a ring. -/
def State.ringHandle (s : State) (r : Reg) : Fin 8192 := fin 8192 (getBits (s.rd r) 0 13)

/-- The entries of a ring (R85). -/
def State.ringSize (s : State) (r : Reg) : Nat := (s.bufRec (s.ringHandle r)).size / 2048

/-- Whether a ring's buffer serves (R85). -/
def State.ringOk (s : State) (r : Reg) : Bool :=
  let b := s.bufRec (s.ringHandle r)
  b.defined && decide (2 ≤ s.ringSize r ∧ s.ringSize r ≤ 1024 ∧ b.coldest ≤ 1)

/-- The first word of a ring's entry. -/
def State.entryWord (s : State) (r : Reg) (k : Nat) : Nat := ofLeBytes (s.bufRead (s.ringHandle r) (2048 * k) 4)

/-- A frame put into the receive ring (R85). -/
def State.ringRx (s : State) (p : Fin 4) (f : EthFrame) (stamp : Int) : State :=
  let r := ETH_RX_BUF p
  let k := getBits (s.rd (ETH_RX_HEAD p)) 0 10
  if (s.entryWord r k).testBit 31 then (s.flag (ETH_STAT.RX_OVF p)).bump (ETH_RX_DROP p)
  else
    let head := f.bytes.length % 2 ^ 14 + (if f.vid.isSome then 2 ^ 30 else 0) + 2 ^ 31
    let c := stamp.toNat
    let time := timeBytes c ++ leBytes 1 (fracOf c) ++ leBytes 3 (s.get TB_STAT.STATE)
    let s := s.bufWrite (s.ringHandle r) (2048 * k) (leBytes 4 head ++ time ++ f.bytes.take 2028)
    s.wr (ETH_RX_HEAD p) (BitVec.ofNat 32 ((k + 1) % max 1 (s.ringSize r)))

/-- A frame that goes to step 5 of R84. -/
def State.plantRx (s : State) (p : Fin 4) (f : EthFrame) (stamp : Int) : State :=
  if s.is (ETH_CTRL.PLANT p) then s.ringRx p f stamp else s.bump (ETH_RX_DROP p)

/-- Whether a Signet connection uses a UDP port of a port, with the length of its version (R84 step 4, 13 R439). -/
def State.signetUdp (s : State) (p : Fin 4) (udp : Nat) : List SignetRec :=
  s.connList.filterMap (fun c => match s.object c with
    | some o => if o.conn.port.val = p.val ∧ o.conn.udp = udp then some o.conn else none
    | none => none)

/-- The connections whose version sets the length of a datagram (13 R439): those of its sender; all of the UDP port where no connection names
the sender. -/
def State.signetFor (_ : State) (recs : List SignetRec) (payload : List Byte) : List SignetRec :=
  let mine := recs.filter (fun r => r.src.toNat == leAt payload 0 4)
  if mine.isEmpty then recs else mine

/-- The frame judged in the order of R84 after step 1. -/
def State.ethDeliver (s : State) (p : Fin 4) (f : EthFrame) (stamp : Int) : State :=
  match f.content with
  | .arp target => if target = s.rd (ETH_IP4 p) ∧ target ≠ 0 then s.ethSendAll p [.arp f.src target (s.ethMac p)] else s.plantRx p f stamp
  | .solicit target => if target = s.ethIp6 p ∧ target ≠ 0 then s.ethSendAll p [.advert f.src target (s.ethMac p)] else s.plantRx p f stamp
  | .ptp h m => if s.gwPort p ∨ s.masterPort p then s.ptpRx p h m stamp else s.plantRx p f stamp
  | .udp v6 src dst port fragment payload =>
    let mine := if v6 then dst == s.ethIp6 p else dst == (s.rd (ETH_IP4 p)).setWidth 128
    match s.signetUdp p port with
    | [] => s.plantRx p f stamp
    | recs =>
      if mine = false ∨ fragment then s.plantRx p f stamp
      else if (s.signetFor recs payload).any (fun r => payload.length == signetLen r.ver) then
        s.signetCopy { port := fin 5 p.val, udp := port, bytes := payload, tin := stamp, mac := f.src, v6 := v6, ip := src }
      else s
  | .pause => s
  | .other => s.plantRx p f stamp

/-- ETH_FRAME_RX (R84). -/
def execEthFrameRx (p : Fin 4) (f : EthFrame) (t : Nat) (s : State) : Host.Outcome State Fault Refusal :=
  let s := s.advance t
  if s.is (ETH_CTRL.EN p) ∧ s.is (ETH_STAT.LINK p) then
    if s.ethFrameOk p f then .next ((s.count (ETH_RX_FRAMES p)).ethDeliver p f (s.ingress (ethStampPort p)))
    else .next (s.bump (ETH_RX_ERR p))
  else .next s

/-- Whether a telegram posted for a return connection of a port waits to be sent (R86). -/
def State.signetWaits (s : State) (p : Fin 4) : Bool :=
  (finList 64).any (fun c => match s.object c with
    | some o => o.conn.txId != 0 && o.conn.txPort == p.val && !(tget s.si.tx c (0, [])).2.isEmpty
    | none => false)

/-- ETH_TX_ENTRY_SEND: the entry at TX_HEAD is sent, padded to 60 bytes, or skipped with TX_ERR when its length is out of range; its
OWN is cleared and the head moves on (R85, R87). A Signet telegram that is posted goes out first. DESIGN CHOICE (log 61): a ring whose TX_TAIL
equals TX_HEAD is empty, also where the entry there has OWN = 1; R85 does not say how a full ring is told from an empty one. -/
def execEthTxEntrySend (p : Fin 4) (s : State) : Host.Outcome State Fault Refusal :=
  let r := ETH_TX_BUF p
  let k := getBits (s.rd (ETH_TX_HEAD p)) 0 10
  let w := s.entryWord r k
  if s.ethSends p ∧ k ≠ getBits (s.rd (ETH_TX_TAIL p)) 0 10 ∧ w.testBit 31 ∧ s.signetWaits p = false then
    let n := w % 2 ^ 14
    let bytes := s.bufRead (s.ringHandle r) (2048 * k + 20) n
    let t := (s.bufWrite (s.ringHandle r) (2048 * k) (leBytes 4 (w - 2 ^ 31))).wr (ETH_TX_HEAD p) (BitVec.ofNat 32 ((k + 1) % max 1 (s.ringSize r)))
    if n < 14 ∨ 1518 < n then .next (t.flag (ETH_STAT.TX_ERR p))
    else .next (t.ethSendAll p [.plant (bytes ++ List.replicate (60 - n) 0)])
  else .next s

/-- SIGNET_ETH_TX: the posted telegram of a return connection goes, from the port's own addresses, to the addresses from which the connection last accepted one, or to
the broadcast address before (R86). -/
def execSignetEthTx (c : Fin 64) (s : State) : Host.Outcome State Fault Refusal :=
  match s.object c with
  | none => .next s
  | some o =>
    let (seq, tel) := tget s.si.tx c (0, [])
    let p : Fin 4 := fin 4 o.conn.txPort
    if o.conn.txId ≠ 0 ∧ o.conn.txPort ≤ 3 ∧ tel ≠ [] ∧ s.ethSends p then
      let s := { s with si := { s.si with tx := tset s.si.tx c (seq, []) } }
      let send := fun (dst : BitVec 48) (v6 : Bool) (ip : BitVec 128) =>
        s.ethSendAll p [.signet (s.ethMac p) dst v6 (if v6 then s.ethIp6 p else (s.rd (ETH_IP4 p)).setWidth 128) ip o.conn.txUdp tel]
      match (s.conn c).sender, decide (o.conn.port.val = o.conn.txPort) with
      | some (mac, v6, ip), true => .next (send mac v6 ip)
      | _, _ =>
        if s.is (ETH_CTRL.IP6_TX p) ∨ s.rd (ETH_IP4 p) = 0 then
          .next (send 0x333300000001 true 0xFF020000000000000000000000000001)
        else .next (send 0xFFFFFFFFFFFF false 0xFFFFFFFF)
    else .next s

/-- The speed in use: the PHY's while AN_EN = 1, else SPEED (R83). -/
def State.showSpeed (s : State) (p : Fin 4) : State :=
  s.putB (ETH_STAT.SPEED_ACT p) (if s.is (ETH_CTRL.AN_EN p) then tget s.eth.phyFast p false else s.is (ETH_CTRL.SPEED p))

/-- ETH_LINK_CHANGE: LINK follows the PHY's word, the speed in use too (R83, R87). -/
def execEthLinkChange (p : Fin 4) (up fast : Bool) (s : State) : Host.Outcome State Fault Refusal :=
  let s := { s with eth := { s.eth with phyFast := if up then tset s.eth.phyFast p fast else s.eth.phyFast } }
  .next (((s.putB (ETH_STAT.LINK p) up).flag (ETH_STAT.LINK_CHG p)).showSpeed p)

/-- The register of an Ethernet port that a write names. -/
def ethReg (p : Fin 4) : EthCfg → Reg
  | .ctrl => ETH_CTRL p
  | .macLo => ETH_MAC_LO p
  | .macHi => ETH_MAC_HI p
  | .ip4 => ETH_IP4 p
  | .vlan => ETH_VLAN p
  | .rxBuf => ETH_RX_BUF p
  | .txBuf => ETH_TX_BUF p
  | .ip6 k => ETH_IP6 p k

/-- A write of ETH_CTRL (R85, R87): EN, PLANT and RX_IRQ at any time, the others while EN = 0; EN = 1 needs a station address and two
rings that serve. DESIGN CHOICE (log 47): while EN = 1 a write sets CFG_REFUSED when it would change one of the other fields, since every
write of EN, PLANT or RX_IRQ carries them. -/
def State.ethCtrl (s : State) (p : Fin 4) (v : Word) : State :=
  let on := s.is (ETH_CTRL.EN p)
  let others := [ETH_CTRL.SPEED p, ETH_CTRL.AN_EN p, ETH_CTRL.IP6_TX p]
  let bit := fun (f : Field) => getBits v f.lo f.width
  let s := (s.put (ETH_CTRL.PLANT p) (bit (ETH_CTRL.PLANT p))).put (ETH_CTRL.RX_IRQ p) (bit (ETH_CTRL.RX_IRQ p))
  let s :=
    if on then (if others.any (fun f => bit f != s.get f) then s.flag (ETH_STAT.CFG_REFUSED p) else s)
    else (others.foldl (fun s f => s.put f (bit f)) s).showSpeed p
  if bit (ETH_CTRL.EN p) = 0 then s.put (ETH_CTRL.EN p) 0
  else if on then s
  else if s.ethMac p ≠ 0 ∧ groupBit (s.ethMac p) = false ∧ s.ringOk (ETH_RX_BUF p) ∧ s.ringOk (ETH_TX_BUF p) then s.put (ETH_CTRL.EN p) 1
  else s.flag (ETH_STAT.CFG_REFUSED p)

/-- The effect of a write of an Ethernet register that R87 names. -/
def State.ethWrite (s : State) (p : Fin 4) (r : EthCfg) (v : Word) : State :=
  match r with
  | .ctrl => s.ethCtrl p v
  | .macLo | .macHi | .ip4 | .vlan | .rxBuf | .txBuf | .ip6 _ =>
    if s.is (ETH_CTRL.EN p) then s.flag (ETH_STAT.CFG_REFUSED p) else s.setWritable (ethReg p r) v

/-- ETH_CTRL_WRITE. -/
def execEthCtrlWrite (p : Fin 4) (r : EthCfg) (v : Word) (s : State) : Host.Outcome State Fault Refusal := .next (s.ethWrite p r v)

/-- A clause 22 transaction started (R88): a further one while BUSY is refused. -/
def State.mdioStart (s : State) (rd : Bool) (phy reg : Fin 32) (data : BitVec 16) : State :=
  if s.is ETH_MDIO_STAT.BUSY then s.flag ETH_MDIO_STAT.REFUSED
  else { s with eth := { s.eth with mdio := some { rd := rd, phy := phy, reg := reg, data := data, since := s.now } } }.put ETH_MDIO_STAT.BUSY 1

/-- A write of ETH_MDIO_CMD (R88): any write while BUSY is refused, OP 0b00 and 0b11 are ignored. -/
def State.mdioWrite (s : State) (v : Word) : State :=
  let phy : Fin 32 := fin 32 (getBits v 5 5)
  let reg : Fin 32 := fin 32 (getBits v 0 5)
  if s.is ETH_MDIO_STAT.BUSY then s.flag ETH_MDIO_STAT.REFUSED
  else match getBits v 10 2 with
    | 1 => s.mdioStart false phy reg (BitVec.ofNat 16 (getBits v 16 16))
    | 2 => s.mdioStart true phy reg 0
    | _ => s

/-- MDIO_WRITE (R88): the transaction with its address and data is held while it runs; what the PHY does with them is outside the device. -/
def execMdioWrite (phy reg : Fin 32) (data : BitVec 16) (s : State) : Host.Outcome State Fault Refusal := .next (s.mdioStart false phy reg data)

/-- MDIO_READ (R88). -/
def execMdioRead (phy reg : Fin 32) (s : State) : Host.Outcome State Fault Refusal := .next (s.mdioStart true phy reg 0)

/-- MDIO_DONE: 25.6 us after its start the transaction ends, and a read leaves its data in RDATA (R88). -/
def execMdioDone (data : BitVec 16) (s : State) : Host.Outcome State Fault Refusal :=
  match s.eth.mdio with
  | none => .next s
  | some x =>
    let s := { s.advance (x.since + 25600 * nsUnits) with eth := { s.eth with mdio := none } }.put ETH_MDIO_STAT.BUSY 0
    .next (if x.rd then s.put ETH_MDIO_STAT.RDATA data.toNat else s)

end Sys2Proof.Machine
end

