-- ==== Sys2Proof/Machine/SafeIo.lean ====
section
/-! DEFINITION. The safe inputs, outputs, test-pulse sources, acknowledge lines, requests and tokens of the safety island (12
R412 to R426). -/

namespace Sys2Proof.Machine

open Sys2Proof

/-- An arm of the island. -/
def State.sarm (s : State) (a : Fin 8) : SafeArm := tget s.si.arms a {}
/-- An arm given a state. -/
def State.setSarm (s : State) (a : Fin 8) (x : SafeArm) : State := { s with si := { s.si with arms := tset s.si.arms a x } }
/-- An INPUT entry; one that the set leaves out has no function and is in no fault (log 30). -/
def State.inCfg (s : State) (k : Fin 16) : SafeInput := s.pset.inputs.getD k.val {}
/-- A safe input. -/
def State.sin (s : State) (k : Fin 16) : InputState := tget s.si.inputs k {}
/-- A safe input given a state. -/
def State.setSin (s : State) (k : Fin 16) (x : InputState) : State := { s with si := { s.si with inputs := tset s.si.inputs k x } }
/-- An OUTPUT entry. -/
def State.outCfg (s : State) (k : Fin 12) : SafeOutput := s.pset.outputs.getD k.val {}
/-- A safe output. -/
def State.sout (s : State) (k : Fin 12) : OutputState := tget s.si.outputs k {}
/-- A safe output given a state. -/
def State.setSout (s : State) (k : Fin 12) (x : OutputState) : State := { s with si := { s.si with outputs := tset s.si.outputs k x } }
/-- A record of the cell. -/
def State.siRecord (s : State) (type : Nat) (payload : List Byte) : State := s.post type 3 s.cellAddr payload

/-- Whether a line of an input shows demand in its channel (R414). -/
def lineDemand (anti one level : Bool) : Bool := if anti && !one then level else !level

/-- The demands of the two lines of an input. -/
def State.lineDemands (s : State) (k : Fin 16) : Bool × Bool :=
  let c := s.inCfg k
  (lineDemand c.anti true (s.sin k).l1, lineDemand c.anti false (s.sin k).l2)

/-- Whether an input is used by the set: it has a function or an entry. -/
def State.inUsed (s : State) (k : Fin 16) : Bool := decide (k.val < s.pset.inputs.length)

/-- An input after a change of its lines (R414, R415, R418): since when the lines disagree; and the end of an input fault once both
lines have shown demand together and then both none. -/
def State.judgeInput (s : State) (k : Fin 16) : State :=
  let x := s.sin k
  let (d1, d2) := s.lineDemands k
  let since := if d1 = d2 then none else some (x.since.getD s.now)
  let seen := x.fault && (x.seen || (d1 && d2))
  let done := seen && !d1 && !d2
  s.setSin k { x with since := since, seen := seen && !done, fault := x.fault && !done }

/-- Every input judged anew when a set comes into force: lines that disagree by their type do so from now on (R391, R415). -/
def State.timeInputs (s : State) : State :=
  (finList 16).foldl (fun s k => (s.setSin k { s.sin k with since := none }).judgeInput k) s

/-- The filter time of an input: 100 us units (R390, R414). -/
def SafeInput.filterTime (c : SafeInput) : Time := c.filter * 100000 * nsUnits

/-- The test-pulse source of a line of an input. -/
def SafeInput.source (c : SafeInput) (one : Bool) : Option (Fin 4) := if one then c.tps1 else c.tps2

/-- The stretches for which a line has been low since the last test pulse began. -/
def InputState.lows (x : InputState) (one : Bool) : List (Time × Time) := if one then x.lows1 else x.lows2

/-- A line seen low from a to b. -/
def InputState.low (x : InputState) (one : Bool) (a b : Time) : InputState :=
  if one then { x with lows1 := x.lows1 ++ [(a, b)] } else { x with lows2 := x.lows2 ++ [(a, b)] }

/-- From when on the filter of a line counts a low that begins at t: a low that begins within TP_DLY of the start of a pulse of the line's own
source is expected, and ignored until TP_DLY after the pulse's end (R416). -/
def State.lowFrom (s : State) (k : Fin 16) (one : Bool) (t : Time) : Time :=
  match (s.inCfg k).source one with
  | none => t
  | some n =>
    match s.si.tpsLast.find? (fun (q : Fin 4 × Time) => q.1 == n) with
    | none => t
    | some (_, u) =>
      let d := (s.pset.pulse n).tpDly * 1000 * nsUnits
      let e := u + (s.pset.pulse n).width * 1000 * nsUnits + d
      if u ≤ t ∧ t ≤ u + d then max t e else t

/-- SAFE_INPUT_CHANGE: a line is first sampled at a new level at t; once it has held that level for the filter time of its entry the filter
output takes it, and a shorter change leaves it as it was (R414). An expected low of a test pulse is ignored; every low is kept for the
judgement of the pulses (R416). -/
def execSafeInputChange (k : Fin 16) (one level : Bool) (t held : Nat) (s : State) : Host.Outcome State Fault Refusal :=
  let f := (s.inCfg k).filterTime
  let z := t + held * 1000 * nsUnits
  let from_ := if level then t else s.lowFrom k one t
  let s := if level then s else s.setSin k ((s.sin k).low one t z)
  if z < from_ + f then .next (s.advance z)
  else
    let s := s.advance (from_ + f)
    let x := s.sin k
    .next ((s.setSin k (if one then { x with l1 := level } else { x with l2 := level })).judgeInput k)

/-- An input fault (R415, R416, R418): the input is demanded, flagged and recorded; kind 0 discrepancy, 1 test pulse. -/
def State.inputFault (s : State) (k : Fin 16) (kind : Nat) : State :=
  let x := s.sin k
  if x.fault then s
  else ((s.setSin k { x with fault := true, seen := false }).flag SI_EVT.INPUT).siRecord 0x0202 [BitVec.ofNat 8 k.val, BitVec.ofNat 8 kind]

/-- SAFE_INPUT_DISCREPANCY: the lines have disagreed for longer than the discrepancy time (R415). -/
def execSafeInputDiscrepancy (k : Fin 16) (t : Nat) (s : State) : Host.Outcome State Fault Refusal :=
  match (s.sin k).since with
  | some u => if s.inUsed k ∧ u + (s.inCfg k).disc * 1000000 * nsUnits < t then .next ((s.advance t).inputFault k 0) else .next s
  | none => .next s

/-- The offset of a source within the frame, in us: the spans of the lower-numbered sources in use (R417). -/
def PSet.pulseOffset (p : PSet) (n : Fin 4) : Nat := ((p.sourcesInUse.filter (fun k => decide (k.val < n.val))).map (fun k => (p.pulse k).span)).sum

/-- The first pulse of a source at or after an instant, when the frames began at an instant b: it pulses at its offset in every
(interval / I)-th frame, and so once per interval (R417). -/
def PSet.pulseAt (p : PSet) (n : Fin 4) (b t : Time) : Time :=
  let first := b + p.pulseOffset n * 1000 * nsUnits
  let every := (p.pulse n).interval * 1000000 * nsUnits
  first + (t - first + every - 1) / every * every

/-- TEST_PULSE_START: a source in use goes low at its next instant of the frames (R416, R417). -/
def execTestPulseStart (n : Fin 4) (s : State) : Host.Outcome State Fault Refusal :=
  match s.si.tpsBase with
  | some b =>
    if n ∈ s.pset.sourcesInUse ∧ s.si.tpsLow.all (fun (q : Fin 4 × Time) => q.1 != n) then
      let t := s.pset.pulseAt n b s.now
      let s := s.advance t
      let s := { s with si := { s.si with tpsLow := s.si.tpsLow ++ [(n, t)], tpsLast := tset s.si.tpsLast n t } }
      let since := fun (l : List (Time × Time)) => l.filter (fun (q : Time × Time) => t < q.2)
      .next ((finList 16).foldl (fun s k =>
        let x := s.sin k
        if x.lows1.isEmpty ∧ x.lows2.isEmpty then s else s.setSin k { x with lows1 := since x.lows1, lows2 := since x.lows2 }) s)
    else .next s
  | none => .next s

/-- Whether a line shows a test-pulse fault by a pulse of source n from u to e, with TP_DLY d (R416): it missed the pulse of its own source, or
was low during that of another. A line without a source has none, and one that its filter shows low is not judged, since a demanded line is
low all the time: DESIGN CHOICE, log 56. -/
def State.lineFails (s : State) (k : Fin 16) (one : Bool) (n : Fin 4) (u e d : Time) : Bool :=
  let x := s.sin k
  match (s.inCfg k).source one with
  | none => false
  | some m =>
    (if one then x.l1 else x.l2) &&
      if m = n then !(x.lows one).any (fun (q : Time × Time) => decide (u ≤ q.1 ∧ q.1 ≤ u + d ∧ e ≤ q.2 ∧ q.2 ≤ e + d))
      else (x.lows one).any (fun (q : Time × Time) => decide (q.1 < e ∧ u < q.2))

/-- TEST_PULSE_END: after its width the source goes high; an input with a line that missed the pulse of its own source or showed a low
during that of another has a test-pulse fault, known TP_DLY later (R416). -/
def execTestPulseEnd (n : Fin 4) (s : State) : Host.Outcome State Fault Refusal :=
  match s.si.tpsLow.find? (fun (q : Fin 4 × Time) => q.1 == n) with
  | some (_, u) =>
    let e := u + (s.pset.pulse n).width * 1000 * nsUnits
    let d := (s.pset.pulse n).tpDly * 1000 * nsUnits
    let s := s.advance e
    let s := { s with si := { s.si with tpsLow := s.si.tpsLow.filter (fun (q : Fin 4 × Time) => q.1 != n) } }
    let bad := (finList 16).filter (fun k => s.inUsed k && (s.lineFails k true n u e d || s.lineFails k false n u e d))
    .next (if bad.isEmpty then s else bad.foldl (fun s k => s.inputFault k 1) (s.advance (e + d)))
  | none => .next s

/-- A safe output fault (R419, R420): flagged, recorded, and taken to the arms at the next commit. -/
def State.outputFault (s : State) (k : Fin 12) (one : Bool) : State :=
  let x := s.sout k
  if x.fault then s
  else ((s.setSout k { x with fault := true }).flag SI_EVT.OUTPUT).siRecord 0x0203 [BitVec.ofNat 8 k.val, if one then 1 else 2]

/-- SAFE_OUTPUT_READBACK_FAULT. -/
def execSafeOutputReadbackFault (k : Fin 12) (one : Bool) (s : State) : Host.Outcome State Fault Refusal := .next (s.outputFault k one)

/-- A test pulse started or ended in a channel, with its pin. -/
def OutputState.test (x : OutputState) (one : Bool) (t : Option Time) : OutputState :=
  if one then { x with t1 := t, p1 := t.isNone } else { x with t2 := t, p2 := t.isNone }

/-- The instant from which a channel's next test may start. -/
def OutputState.next (x : OutputState) (one : Bool) (t : Time) : OutputState := if one then { x with n1 := t } else { x with n2 := t }

/-- The test interval of an output. -/
def SafeOutput.interval (c : SafeOutput) : Time := c.testInt * 100000000 * nsUnits

/-- OUTPUT_TEST_START (R420): a channel's next test falls due; not while the output is de-energised, the other channel's pin is low, or
within FB_DLY of energising. A test that may not start is left out until the next interval. -/
def execOutputTestStart (k : Fin 12) (one : Bool) (s : State) : Host.Outcome State Fault Refusal :=
  let x := s.sout k
  let c := s.outCfg k
  match x.on with
  | none => .next s
  | some u =>
    if (if one then x.t1 else x.t2).isSome then .next s
    else
      let s := s.advance (if one then x.n1 else x.n2)
      let y := x.next one (s.now + c.interval)
      if (if one then x.p2 else x.p1) = false ∨ s.now < u + c.fbDly * 1000 * nsUnits then .next (s.setSout k y)
      else .next (s.setSout k (y.test one (some s.now)))

/-- Whether the readback followed a test pulse from u to e within FB_DLY d of either edge, by the instants at which it went low and high (R420). -/
def testPasses (u e d : Time) (low high : Option Nat) : Bool :=
  match low, high with
  | some a, some b => decide (u ≤ a ∧ a ≤ u + d ∧ e ≤ b ∧ b ≤ e + d)
  | _, _ => false

/-- OUTPUT_TEST_END (R420, R421): after the test width the pin goes high again, and a readback that did not go low within FB_DLY of the start and
high within FB_DLY of the end is a fault, known FB_DLY after the end; a test that a commit discarded has no result. -/
def execOutputTestEnd (k : Fin 12) (one : Bool) (low high : Option Nat) (s : State) : Host.Outcome State Fault Refusal :=
  let x := s.sout k
  match (if one then x.t1 else x.t2) with
  | some u =>
    let e := u + (s.outCfg k).testWidth * 1000 * nsUnits
    let d := (s.outCfg k).fbDly * 1000 * nsUnits
    let s := (s.advance e).setSout k (x.test one none)
    .next (if testPasses u e d low high then s else (s.advance (e + d)).outputFault k one)
  | none => .next s

/-- An output energised at the present commit (R420, R421): channel 1 tests one interval later and channel 2 half an interval after it,
but after a discarded test of channel 2 that one's next falls one interval later, and channel 1's half an interval before it. -/
def State.outOn (s : State) (k : Fin 12) : State :=
  let x := s.sout k
  match x.on with
  | some _ => s.setSout k { x with brk := none }
  | none =>
    let i := (s.outCfg k).interval
    let n := if x.disc2 then s.now + i / 2 else s.now + i
    s.setSout k { x with on := some s.now, p1 := true, p2 := true, t1 := none, t2 := none, n1 := n, n2 := n + i / 2, disc2 := false, brk := none }

/-- An output de-energised: both pins low, and a test in progress discarded (R421). -/
def State.outOff (s : State) (k : Fin 12) : State :=
  let x := s.sout k
  s.setSout k { x with on := none, p1 := false, p2 := false, t1 := none, t2 := none, disc2 := x.disc2 || x.t2.isSome, brk := none }

/-- SI_OUTPUTS follows the outputs (R433). -/
def State.showOutputs (s : State) : State :=
  let bit := fun (f : OutputState → Bool) => ((finList 12).map (fun k => if f (s.sout k) then 2 ^ k.val else 0)).sum
  (s.put SI_OUTPUTS.ENERGISED (bit (fun x => x.on.isSome))).put SI_OUTPUTS.FAULTED (bit (fun x => x.fault))

/-- BRAKE_DELAY_EXPIRY: a brake output is de-energised BRK_DLY after any of its arms entered STO or LOCKOUT (R423). -/
def execBrakeDelayExpiry (k : Fin 12) (s : State) : Host.Outcome State Fault Refusal :=
  match (s.sout k).brk with
  | some t => .next ((s.advance t).outOff k).showOutputs
  | none => .next s

/-- A host request that waits for a capture (R412). -/
def State.siRequest (s : State) (arms : BitVec 8) (op : Nat) : State := { s with si := { s.si with reqs := s.si.reqs ++ [(arms, op)] } }

/-- SI_REQ with OP STO (R412). -/
def execSiReqSto (arms : BitVec 8) (s : State) : Host.Outcome State Fault Refusal := .next (s.siRequest arms 1)
/-- SI_REQ with OP SS1 (R412). -/
def execSiReqSs1 (arms : BitVec 8) (s : State) : Host.Outcome State Fault Refusal := .next (s.siRequest arms 2)
/-- SI_REQ with OP SS2 (R412). -/
def execSiReqSs2 (arms : BitVec 8) (s : State) : Host.Outcome State Fault Refusal := .next (s.siRequest arms 3)
/-- SI_REQ with OP release (R412). -/
def execSiReqRelease (arms : BitVec 8) (s : State) : Host.Outcome State Fault Refusal := .next (s.siRequest arms 4)

/-- A token that waits for a capture (R424). -/
def State.siToken (s : State) (v : Word) : State := { s with si := { s.si with tokens := s.si.tokens ++ [v] } }

/-- SI_TOKEN. -/
def execSiToken (v : Word) (s : State) : Host.Outcome State Fault Refusal := .next (s.siToken v)

/-- An acknowledge line after a change (R425, R426): an ignored line counts again once it has been low for 1 s. -/
def Sack.change (x : Sack) (level : Bool) (t : Time) : Sack :=
  if level then
    let ign := x.ignored && (match x.fall with | some f => decide (t < f + secUnits) | none => false)
    { level := true, rise := if ign then none else some t, fall := none, ignored := ign }
  else { x with level := false, fall := some t }

/-- An acknowledge line given a state. -/
def State.setSack (s : State) (one : Bool) (x : Sack) : State :=
  if one then { s with si := { s.si with sack1 := x } } else { s with si := { s.si with sack2 := x } }

/-- The acknowledge line of a channel. -/
def State.sack (s : State) (one : Bool) : Sack := if one then s.si.sack1 else s.si.sack2

/-- SACK_CHANGE: a line that holds a new level for 1 ms takes it after its fixed filter; a shorter change leaves it as it was (R425). -/
def execSackChange (one level : Bool) (t held : Nat) (s : State) : Host.Outcome State Fault Refusal :=
  let u := t + 1000000 * nsUnits
  if held < 1000 then .next (s.advance (t + held * 1000 * nsUnits))
  else .next ((s.advance u).setSack one ((s.sack one).change level u))

/-- SACK_HOLD_TIMEOUT: a line held high for longer than 3 s is ignored until it has been low for 1 s; the press itself, which is too long, is
judged and refused at its end (R425, R426). -/
def execSackHoldTimeout (one : Bool) (t : Nat) (s : State) : Host.Outcome State Fault Refusal :=
  let x := s.sack one
  match x.level, x.rise with
  | true, some r => if r + 3 * secUnits < t then .next ((s.advance t).setSack one { x with ignored := true }) else .next s
  | _, _ => .next s

/-- TOKEN_EXPIRY: 5 s after its capture the token is discarded (R426). -/
def execTokenExpiry (t : Nat) (s : State) : Host.Outcome State Fault Refusal :=
  match s.si.token with
  | some (u, _, _) => if u + 5 * secUnits ≤ t then .next { s.advance t with si := { s.si with token := none } } else .next s
  | none => .next s

/-- A reset or token refused (R424, R426): flagged and recorded with the condition that failed. -/
def State.ackRefused (s : State) (cond : Nat) : State :=
  (s.flag SI_EVT.ACK).siRecord 0x0204 [0, 0, Config.ackCode cond]

/-- The difference of two instants. -/
def apart (a b : Time) : Time := (a - b) + (b - a)

/-- The conditions of R425 for two presses given as rise and fall, and the captured token; the first that fails: 1 the time held,
2 the edges, 3 the token. -/
def resetFails (p q : Time × Time) (token : Option (Time × BitVec 8 × Bool)) : Option Nat :=
  let held := fun (x : Time × Time) => decide (x.1 + secUnits / 4 ≤ x.2 ∧ x.2 ≤ x.1 + 3 * secUnits)
  if !(held p && held q) then some 1
  else if secUnits / 10 < apart p.1 q.1 ∨ secUnits / 10 < apart p.2 q.2 then some 2
  else
    match token with
    | some (t, _, _) => if t < min p.1 q.1 ∧ max p.2 q.2 ≤ t + 5 * secUnits then none else some 3
    | none => some 3

/-- The end of a judgement (R424 to R426): a reset accepted uses up the token, a refused one is flagged. -/
def State.judgeEnd (s : State) (fails : Option Nat) (token : Option (Time × BitVec 8 × Bool)) : State × Option (BitVec 8 × Bool) :=
  match fails, token with
  | none, some (_, arms, act) =>
    let s := ({ s with si := { s.si with token := none } }.flag SI_EVT.ACK).siRecord 0x0204 [1, arms, 0]
    (s, some (arms, act))
  | e, _ => (s.ackRefused (e.getD 3), none)

/-- The judgement once both lines have risen and fallen: `State.judgeReset`. -/
def State.judgeLines (s : State) (one two : Time × Time) : State × Option (BitVec 8 × Bool) :=
  let s := (s.setSack true { s.si.sack1 with rise := none }).setSack false { s.si.sack2 with rise := none }
  s.judgeEnd (resetFails one two s.si.token) s.si.token

/-- Whether a line has been pressed and released alone: the other one is not pressed, and has not been within 100 ms of its rise (R425). -/
def State.pressedAlone (s : State) (x y : Sack) : Bool :=
  match x.rise, x.fall with
  | some r, some _ => y.rise.isNone && decide (r + secUnits / 10 < s.now)
  | _, _ => false

/-- The presses judged at a capture (R425, R426): both lines have risen and fallen, or one alone has. A reset accepted uses up the token; a press
of one line alone fails the condition on the edges. -/
def State.judgeReset (s : State) : State × Option (BitVec 8 × Bool) :=
  match s.si.sack1.rise, s.si.sack1.fall, s.si.sack2.rise, s.si.sack2.fall with
  | some r1, some f1, some r2, some f2 => s.judgeLines (r1, f1) (r2, f2)
  | _, _, _, _ =>
    if s.pressedAlone s.si.sack1 s.si.sack2 then ((s.setSack true { s.si.sack1 with rise := none }).ackRefused 2, none)
    else if s.pressedAlone s.si.sack2 s.si.sack1 then ((s.setSack false { s.si.sack2 with rise := none }).ackRefused 2, none)
    else (s, none)

/-- The tokens captured (R424): the nonce must be the present one. -/
def State.captureTokens (s : State) : State :=
  s.si.tokens.foldl (fun s w =>
    if getBits w 16 16 = s.get SI_LOCK.NONCE then
      { s with si := { s.si with token := some (s.now, BitVec.ofNat 8 (getBits w 0 8), w.getLsbD 8) } }
    else s.ackRefused 4) { s with si := { s.si with tokens := [] } }

/-- An island fault that waits for the commit, with its kind as SI_ISLAND_FAULT codes it. -/
def State.islandFault (s : State) (kind : Nat) : State := { s with si := { s.si with faults := s.si.faults ++ [kind] } }.mishap [5, 6]

/-- PSET_CRC_SWEEP: a mismatch is an island fault (R391). -/
def execPsetCrcSweep (_one ok : Bool) (s : State) : Host.Outcome State Fault Refusal :=
  .next (if ok ∨ s.si.set.isNone then s else s.islandFault 2)

/-- CORE_SUPPLY_WINDOW_FAULT (R430, R434): until a reset the supply counts as outside its range (18 R550; log 60). -/
def execCoreSupplyWindowFault (s : State) : Host.Outcome State Fault Refusal :=
  .next (({ s with boot := { s.boot with coreOut := true } } : State).islandFault 4)

end Sys2Proof.Machine
end

