-- ==== Sys2Proof/Machine/SafeCycle.lean ====
section
/-! DEFINITION. The separation cycle (12 R384 to R411, R424, 13 R449): capture, the results of the two channels, their exchange
and the commit. The channel is a Bool, true for channel 1. -/

namespace Sys2Proof.Machine

open Sys2Proof

/-- A channel of the island. -/
def State.chan (s : State) (one : Bool) : SafeChannel := if one then s.si.ch1 else s.si.ch2

/-- A channel given a state. -/
def State.setChan (s : State) (one : Bool) (c : SafeChannel) : State :=
  if one then { s with si := { s.si with ch1 := c } } else { s with si := { s.si with ch2 := c } }

/-- The feedback units that the set reads. -/
def PSet.units (p : PSet) : List (Fin 64) :=
  p.arms.flatMap (fun a => a.joints.flatMap (fun j => match j.src with
    | .none => []
    | .single f _ => [f]
    | .dual f g _ _ => [f, g]))

/-- The sample of a feedback unit for the safety copy (R386, R393). -/
def State.safeSample (s : State) (n : Fin 64) : Int × Nat × Option (BitVec 72 × Bool) :=
  let u := s.fb n
  (u.report.1, u.report.2.2, u.raw)

/-- SEPARATION_CAPTURE (R393): at the window edge of the first period of a separation cycle both channels take the snapshot; presses
and tokens are judged (R424, R425) and the watchdogs (13 R445). -/
def execSeparationCapture (s : State) : Host.Outcome State Fault Refusal :=
  if s.get SI_STAT.ISTATE = 0 ∨ s.si.snap.isSome ∨ s.periodNo % s.sepPeriods ≠ 0 then .next s
  else
    let w := s.boundary s.periodNo
    let s := s.advance w
    let (s, reset) := s.judgeReset
    let s := s.captureTokens
    let conns := s.connList.map (fun c => (c, match s.object c with
      | some o => (s.conn c).capture o.conn w (s.cellAt w)
      | none => s.conn c))
    let ins := (finList 16).map (fun k =>
      let (d1, d2) := s.lineDemands k
      let f := (s.sin k).fault
      (k, (s.inUsed k && (d1 || f), s.inUsed k && (d2 || f))))
    let snap : SafeSnap := { at_ := w, samples := s.pset.units.map (fun n => (n, s.safeSample n)), inputs := ins, reqs := s.si.reqs, reset := reset, conns := conns }
    let base := s.si.tpsBase.or (if s.si.set.isSome then some w else none)
    .next { s with si := { s.si with snap := some snap, conns := conns, reqs := [], tpsBase := base } }

/-- Whether a sample may be used (R388): VALID and not STALE. -/
def safeSampleOk (x : Int × Nat × Option (BitVec 72 × Bool)) : Bool := x.2.1.testBit 4 && !x.2.1.testBit 5

/-- A raw Filigree 2 response decoded by a channel (R387): stop bit, CRC-16, status bit 3; turns and position in counts. -/
def decodeRaw (res : Nat) (raw : Option (BitVec 72 × Bool)) : Option Rat :=
  match raw with
  | some (d, stop) =>
    let x := d.toNat
    if stop && lineCrc 16 0x1021 0xFFFF 56 x == x / 2 ^ 56 && !(x / 2 ^ 48).testBit 3 then
      some ((signed 16 (x / 2 ^ 32 % 2 ^ 16) * (2 ^ res : Nat) + (x % 2 ^ 32 : Nat) : Int) : Rat)
    else none
  | none => none

/-- The position of a joint that a channel reads in a cycle; none when it is invalid (R387, R388). -/
def SafeSnap.readJoint (n : SafeSnap) (one : Bool) (j : SafeJoint) : Option Rat :=
  let get := fun (f : Fin 64) => tget n.samples f (0, 0, none)
  match j.src with
  | .none => none
  | .single f res => if safeSampleOk (get f) then decodeRaw res (get f).2.2 else none
  | .dual f g ratio tol =>
    let p1 : Rat := (get f).1
    let p2 : Rat := ratio * (get g).1
    if safeSampleOk (get (if one then f else g)) ∧ |p1 - p2| ≤ tol then some (if one then p1 else p2) else none

/-- A joint's track in a cycle (R388): the position read, or the last one advanced by the last valid speed. -/
def JointTrack.step (x : JointTrack) (n : Fin 64) (read : Option Rat) : JointTrack :=
  match read, x.q with
  | some p, some o => { x with q := some p, v := (p - o) * 4000, age := 0 }
  | some p, none => { x with q := some p, v := Config.firstVelocity n.val 3, age := 0 }
  | none, some o => { x with q := some (o + x.v / 4000), age := x.age + 1 }
  | none, none => { x with q := some (Config.noPosition n.val), age := x.age + 1 }

/-- The joints of the active set: port number, ARM entry, joint. -/
def PSet.joints (p : PSet) : List (Fin 64 × SafeArmSec × SafeJoint) :=
  p.arms.zipIdx.flatMap (fun (q : SafeArmSec × Nat) => q.1.joints.zipIdx.map (fun (j : SafeJoint × Nat) => (portOf (fin 8 q.2) (fin 8 j.2), q.1, j.1)))

/-- An ARM entry of the active set. -/
def State.armSec (s : State) (a : Fin 8) : SafeArmSec := s.pset.arms.getD a.val {}

/-- What a channel knows of the cycle: its channel, the tracks, the capsules with their velocities, and the demand of an input. -/
structure Cycle where
  one : Bool
  snap : SafeSnap
  tracks : List (Fin 64 × JointTrack)
  caps : List (Nat × (Capsule × (Caps × (V3 × V3))))

/-- The track of a joint in the cycle. -/
def Cycle.track (c : Cycle) (a : Fin 8) (j : Nat) : JointTrack := tget c.tracks (portOf a (fin 8 j)) {}

/-- The capsules of an arm. -/
def Cycle.armCaps (c : Cycle) (a : Fin 8) : List (Capsule × (Caps × (V3 × V3))) :=
  (c.caps.filter (fun (q : Nat × (Capsule × (Caps × (V3 × V3)))) => q.2.1.arm = a)).map (fun (q : Nat × (Capsule × (Caps × (V3 × V3)))) => q.2)

/-- The largest endpoint speed of a capsule (R403). -/
def capSpeed (one : Bool) (x : Capsule × (Caps × (V3 × V3))) : Rat :=
  max (x.2.2.1.norm one) (x.2.2.2.norm one)

/-- The largest endpoint speed of the capsules of an arm. -/
def Cycle.armSpeed (c : Cycle) (a : Fin 8) : Rat := ((c.armCaps a).map (capSpeed c.one)).foldl max 0

/-- Whether a function is active in the cycle (R408). -/
def Cycle.active (c : Cycle) (x : Activation) : Bool :=
  match x with
  | .off => false
  | .always => true
  | .input k => let d := tget c.snap.inputs k (false, false); if c.one then d.1 else d.2

/-- The capsules of a cycle in the cell frame, inflated where a position is invalid (R388, R400, R403). -/
def State.cycleOf (s : State) (one : Bool) (n : SafeSnap) : Cycle :=
  let ch := s.chan one
  let tracks := s.pset.joints.map (fun (q : Fin 64 × SafeArmSec × SafeJoint) =>
    (q.1, if q.2.2.src = .none then ({} : JointTrack) else (tget ch.tracks q.1 {}).step q.1 (n.readJoint one q.2.2)))
  let caps := s.pset.caps.zipIdx.map (fun (q : Capsule × Nat) =>
    let sec := s.armSec q.1.arm
    let ts := (List.range sec.joints.length).map (fun j => tget tracks (portOf q.1.arm (fin 8 j)) {})
    let (e0, e1) := capsuleEnds one (sec.joints.zip (ts.map (fun t => t.q.getD 0))) q.1
    let age : Rat := ((ts.map JointTrack.age).foldl max 0 : Nat) / 4000
    let prev := (ch.ends.find? (fun (p : Nat × (V3 × V3)) => p.1 == q.2)).map (fun (p : Nat × (V3 × V3)) => p.2)
    (q.2, (q.1, (⟨e0, e1, chanLen one (q.1.r + sec.vcap * age)⟩, (endVelocity one (prev.map (fun (p : V3 × V3) => p.1)) e0 q.2, endVelocity one (prev.map (fun (p : V3 × V3) => p.2)) e1 q.2)))))
  { one := one, snap := n, tracks := tracks, caps := caps }

/-- A judged pair (R404 to R406): the arms, the distance, the closing speed of each capsule, the permitted speed of their sum, the cause code, and the index of
SI_VPAIR for a pair of arms. -/
structure Judged where
  arms : List (Fin 8)
  d : Rat
  vs : List Rat
  lim : Rat
  cause : Nat
  pair : Option Nat

/-- A PAIR entry judged in a cycle. -/
def State.judgePair (s : State) (c : Cycle) (q : SafePair) : Option Judged :=
  let get := fun (k : Nat) => (c.caps.find? (fun (x : Nat × (Capsule × (Caps × (V3 × V3)))) => x.1 == k)).map (fun (x : Nat × (Capsule × (Caps × (V3 × V3)))) => x.2)
  match get q.cap with
  | none => none
  | some (k, p, v0, v1) =>
    if q.isObject then
      match s.pset.objects[q.other]? with
      | none => none
      | some o =>
        match (tget c.snap.conns (fin 64 q.other) {}).object o (s.cellAt c.snap.at_) with
        | none => none
        | some (x, vh) =>
          let (d, e, f) := capsDist c.one p x
          some ⟨[k.arm], d, [closing c.one v0 v1 (unitTo c.one e f)], vmaxOf c.one (s.armSec k.arm) vh o.c q.zd q.zr d, 5, none⟩
    else
      match get q.other with
      | none => none
      | some (l, r, w0, w1) =>
        let (d, e, f) := capsDist c.one p r
        let vs := [closing c.one v0 v1 (unitTo c.one e f), closing c.one w0 w1 (unitTo c.one f e)]
        let i := min k.arm.val l.arm.val * 8 + max k.arm.val l.arm.val
        some ⟨[k.arm, l.arm], d, vs, vpairOf c.one (s.armSec k.arm) (s.armSec l.arm) q.zd q.zr d, 6, some i⟩

/-- Whether a connection that is DEGRADED in the cycle governs an arm (13 R448). -/
def State.slowed (s : State) (n : SafeSnap) (a : Fin 8) : Bool :=
  s.connList.any (fun c => match s.object c with
    | some o => (tget n.conns c {}).was == 3 && o.conn.arms.getLsbD a.val
    | none => false)

/-- Whether a connection that is DEGRADED from the commit on governs an arm (13 R448). -/
def State.degraded (s : State) (n : SafeSnap) (a : Fin 8) : Bool :=
  s.connList.any (fun c => match s.object c with
    | some o => (tget n.conns c {}).state == 3 && o.conn.arms.getLsbD a.val
    | none => false)

/-- The furthest position in the permitted direction since activation (R408), after the present one. -/
def sdiFurthest (j : SafeJoint) (on : Bool) (t : JointTrack) : Option Rat :=
  if on then
    match t.ext, t.q with
    | some e, some q => some (if j.sdiRev then min e q else max e q)
    | none, q => q
    | e, none => e
  else none

/-- The causes of the joint functions that a joint breaches (R408): SLS, SLP, SDI. -/
def jointBreaches (c : Cycle) (sec : SafeArmSec) (j : SafeJoint) (t : JointTrack) : List Nat :=
  let q := t.q.getD 0
  let stop := q + t.v * (sec.tr : Rat) / 1000000 + t.v * |t.v| / (2 * j.aMon)
  let sls := c.active j.slsAct && decide ((j.sls : Rat) / 256 + j.stopVtol < |t.v|)
  let slp := c.active j.slp && (decide (stop < j.lo) || decide (j.hi < stop))
  let sdi := match sdiFurthest j (c.active j.sdi) t with
    | some e => decide (j.sdiTol < (if j.sdiRev then q - e else e - q))
    | none => false
  (if sls then [7] else []) ++ (if slp then [8] else []) ++ (if sdi then [10] else [])

/-- The causes of the monitoring functions that an arm breaches (R408, 13 R448), the pairs apart. -/
def State.armBreaches (s : State) (c : Cycle) (a : Fin 8) : List Nat :=
  let sec := s.armSec a
  let js := (sec.joints.zipIdx.filter (fun (q : SafeJoint × Nat) => q.1.src != .none)).flatMap (fun (q : SafeJoint × Nat) => jointBreaches c sec q.1 (c.track a q.2))
  let tool := match sec.slsTcp with
    | some m => (c.armCaps a).any (fun x => x.1.tool && decide (m + s.pset.ssmVtol < capSpeed c.one x))
    | none => false
  let zone := s.pset.zones.any (fun z => c.active z.act && z.caps.any (fun k =>
    match c.caps.find? (fun (x : Nat × (Capsule × (Caps × (V3 × V3)))) => x.1 == k) with
    | some (_, x) =>
      let v := capSpeed c.one x
      let stop := v * (sec.tr : Rat) / 1000000 + v * v / (2 * sec.as_)
      x.1.arm == a && (if z.keepIn then decide (faceDistance x.2.1 z < stop) else decide (zoneDistance c.one x.2.1 z < stop))
    | none => false))
  let deg := s.slowed c.snap a && decide (sec.degV + s.pset.ssmVtol < c.armSpeed a)
  js ++ (if tool || deg then [7] else []) ++ (if zone then [9] else [])

/-- The joints of an arm that are monitored, with their tracks. -/
def State.armTracks (s : State) (c : Cycle) (a : Fin 8) : List (Nat × (SafeJoint × JointTrack)) :=
  ((s.armSec a).joints.zipIdx.filter (fun (q : SafeJoint × Nat) => q.1.src != .none)).map (fun (q : SafeJoint × Nat) => (q.2, (q.1, c.track a q.2)))

/-- The ramp of R408 broken: t is the time since the stop began, in 1/256 ns. -/
def State.rampBroken (s : State) (c : Cycle) (a : Fin 8) : Bool :=
  let x := s.sarm a
  let t : Rat := ((c.snap.at_ - x.since : Nat) : Rat) / secUnits
  (s.armTracks c a).any (fun (q : Nat × (SafeJoint × JointTrack)) =>
    decide (max (|(if c.one then x.v0 else x.v02).getD q.1 0| - q.2.1.aMon * max 0 (t - (s.armSec a).tD / 1000)) 0 + q.2.1.stopVtol < |q.2.2.v|))

/-- Every joint at standstill (R411). -/
def State.still (s : State) (c : Cycle) (a : Fin 8) : Bool :=
  (s.armTracks c a).all (fun (q : Nat × (SafeJoint × JointTrack)) => decide (|q.2.2.v| ≤ q.2.1.vstill))

/-- STOP_TMAX has passed at the commit of the cycle (R409, R411). -/
def State.stopOver (s : State) (n : SafeSnap) (a : Fin 8) : Bool :=
  decide ((s.sarm a).since + (s.armSec a).stopTmax * 1000000 * nsUnits ≤ n.commitAt)

/-- The events of the stop functions in the states SS1, SS2 and SOS (R408, R409, R411). -/
def State.stopEvents (s : State) (c : Cycle) (a : Fin 8) : List SafeEvent :=
  let sec := s.armSec a
  let st := (s.sarm a).state
  if st = 1 then
    (if !sec.timed && s.rampBroken c a then [⟨a, 4, 11⟩] else [])
      ++ (if s.stopOver c.snap a || (!sec.timed && s.still c a) then [⟨a, 4, 0⟩] else [])
  else if st = 2 then
    (if s.rampBroken c a then [⟨a, 4, 11⟩] else [])
      ++ (if s.still c a then [⟨a, 3, 0⟩] else if s.stopOver c.snap a then [⟨a, 4, 11⟩] else [])
  else if st = 3 then
    if (s.armTracks c a).any (fun (q : Nat × (SafeJoint × JointTrack)) =>
        decide (q.2.1.sosWin < |q.2.2.q.getD 0 - (if c.one then (s.sarm a).qref else (s.sarm a).qref2).getD q.1 0|) || decide (q.2.1.sosVtol < |q.2.2.v|)) then [⟨a, 4, 12⟩]
    else []
  else []

/-- The arms of a mask. -/
def armsOf (m : BitVec 8) : List (Fin 8) := (finList 8).filter (fun a => m.getLsbD a.val)

/-- The events of the safe inputs in a channel (R411, R418). -/
def State.inputEvents (s : State) (c : Cycle) : List SafeEvent :=
  (finList 16).flatMap (fun k =>
    let i := s.inCfg k
    let d := tget c.snap.inputs k (false, false)
    if (if c.one then d.1 else d.2) then
      (armsOf i.arms).flatMap (fun a =>
        (match i.fn with
          | .sto => [⟨a, 4, 2⟩]
          | .ss1 => [⟨a, 1, 2⟩]
          | .ss2 => [⟨a, 2, 2⟩]
          | _ => []) ++ (if i.lock then [⟨a, 5, 2⟩] else []))
    else [])

/-- The demands of the connections (13 R446). -/
def State.signetEvents (s : State) (n : SafeSnap) : List SafeEvent :=
  s.connList.flatMap (fun c => match s.object c with
    | some o =>
      let (d, arms) := (tget n.conns c {}).demand o.conn
      (armsOf arms).flatMap (fun a =>
        (if d.testBit 0 then [⟨a, 4, 3⟩] else []) ++ (if d.testBit 1 then [⟨a, 1, 3⟩] else []) ++ (if d.testBit 2 then [⟨a, 2, 3⟩] else [])
          ++ (if o.conn.lock && d != 0 then [⟨a, 5, 3⟩] else []))
    | none => [])

/-- The host requests of a snapshot (R412): the goal states of STO, SS1 and SS2. -/
def hostEvents (n : SafeSnap) : List SafeEvent :=
  n.reqs.flatMap (fun (q : BitVec 8 × Nat) =>
    if q.2 = 1 ∨ q.2 = 2 ∨ q.2 = 3 then (armsOf q.1).map (fun a => ⟨a, if q.2 = 1 then 4 else if q.2 = 2 then 1 else 2, 1⟩) else [])

/-- The state that a breach calls for (R408, R409, R411). -/
def State.breachGoal (s : State) (a : Fin 8) : Nat := if (s.sarm a).state = 1 ∨ !(s.armSec a).reactSs1 then 4 else 1

/-- Whether an arm has STO only: one with a joint that is not monitored (R387); one without joints too: DESIGN CHOICE, log 56. -/
def SafeArmSec.stoOnly (a : SafeArmSec) : Bool := a.joints.isEmpty || a.joints.any (fun j => j.src == .none)

/-- An event as it reaches an arm: of one that has STO only a stop is STO (R387). -/
def State.asSto (s : State) (e : SafeEvent) : SafeEvent :=
  if (e.goal = 1 ∨ e.goal = 2) ∧ (s.armSec e.arm).stoOnly then { e with goal := 4 } else e

/-- The speed limit of a joint (R407), whether its functions are active or not: SLS, and what the distance to the SLP limit ahead allows. -/
def jointLimit (one : Bool) (j : SafeJoint) (t : JointTrack) : List Rat :=
  let q := t.q.getD 0
  let ahead : Rat := if 0 < t.v then j.hi - q else if t.v < 0 then q - j.lo else min (j.hi - q) (q - j.lo)
  (if j.slsAct != .off then [(j.sls : Rat) / 256] else []) ++ (if j.slp != .off then [chanSqrt one (2 * j.aMon * max 0 ahead)] else [])

/-- The sine of (pi / 2) x for x in 0 to 1, by its series, to within 2^-40. -/
def sinQuarter (x : Rat) : Rat :=
  let y := x * (1570796326794896619231321691640 / 10 ^ 30)
  let step := fun (q : (Rat × Rat) × Nat) => let k := 2 * q.2; ((q.1.1 + q.1.2, -q.1.2 * y * y / ((k + 2) * (k + 3))), q.2 + 1)
  (iter step 12 ((0, y), 0)).1.1

/-- The sine of an angle in 2^-32 turn in a channel: exact at the quarter turns, elsewhere within one unit of the rounded value (13 R449; log 31). -/
def yawSine (one : Bool) (y : Nat) : Rat :=
  let y := y % 2 ^ 32
  let half := y % 2 ^ 31
  let x : Rat := (if half ≤ 2 ^ 30 then half else 2 ^ 31 - half : Nat) / 2 ^ 30
  let v := if x = 0 then 0 else if x = 1 then 1
    else chanPar one (max 0 (min 1 (chanPar one (sinQuarter x) + clampInt (-1) 1 (Config.yawOff one y) * (if one then pow2 (lastPlace true (sinQuarter x)) else 1 / 2 ^ 30))))
  if y < 2 ^ 31 then v else -v

/-- A point of the own cell frame in a neighbour's frame: turned by TX_YAW about the vertical axis and moved by TX_MOVE (13 R440, R449). -/
def yawMove (one : Bool) (r : SignetRec) (p : V3) : V3 :=
  let cs := yawSine one (r.txYaw + 2 ^ 30)
  let sn := yawSine one r.txYaw
  let f := chanOp one
  ⟨chanLen one (f (f (cs * p.x) - f (sn * p.y)) + r.txMove.x), chanLen one (f (f (sn * p.x) + f (cs * p.y)) + r.txMove.y), chanLen one (p.z + r.txMove.z)⟩

/-- The result of a channel for the cycle (R395 step 6, R408). -/
def State.channelResult (s : State) (c : Cycle) : ChanResult :=
  let arms := (finList 8).filter (fun a => a.val < s.pset.arms.length)
  let judged := s.pset.pairs.filterMap (s.judgePair c)
  let monitored := fun (a : Fin 8) => decide ((s.sarm a).state ≤ 3)
  let breaches := arms.flatMap (fun a =>
    if monitored a then
      (s.armBreaches c a ++ (judged.filter (fun j => j.arms.contains a && decide (j.lim + s.pset.ssmVtol < j.vs.foldl (· + ·) 0))).map Judged.cause).map
        (fun k => (⟨a, s.breachGoal a, k⟩ : SafeEvent))
    else [])
  let position := arms.flatMap (fun a =>
    if (s.armTracks c a).any (fun (q : Nat × (SafeJoint × JointTrack)) => decide (q.2.1.posBad ≤ q.2.2.age)) then [(⟨a, 4, 13⟩ : SafeEvent)] else [])
  let held := breaches ++ position ++ arms.flatMap (s.stopEvents c) ++ s.inputEvents c ++ s.signetEvents c.snap
  let objects := s.connList.filterMap (fun k => match s.object k with
    | some o =>
      match c.caps.find? (fun (x : Nat × (Capsule × (Caps × (V3 × V3)))) => x.1 == o.conn.txCap) with
      | some (_, x) =>
        if o.conn.txId = 0 then none
        else some (k, (yawMove c.one o.conn x.2.1.p0, yawMove c.one o.conn x.2.1.p1, x.2.1.r, capSpeed c.one x))
      | none => none
    | none => none)
  { events := (held ++ hostEvents c.snap).map s.asSto
    active := (held.filter (fun e => e.cause != 0)).map (fun e => (e.arm, e.cause))
    dists := judged.map Judged.d
    speeds := judged.flatMap Judged.vs ++ arms.map (c.armSpeed)
    vsafe := judged.flatMap (fun j => if j.pair.isNone then j.arms.map (fun a => (a, j.lim)) else [])
    vmeas := arms.map (fun a => (a, c.armSpeed a))
    dmin := judged.flatMap (fun j => j.arms.map (fun a => (a, j.d)))
    vpair := judged.filterMap (fun j => j.pair.map (fun i => (i, j.lim)))
    jvlim := s.pset.joints.flatMap (fun (q : Fin 64 × SafeArmSec × SafeJoint) =>
      if q.2.2.src = .none then [] else (jointLimit c.one q.2.2 (tget c.tracks q.1 {})).map (fun v => (q.1.val, v)))
    posBad := c.tracks.any (fun (q : Fin 64 × JointTrack) => q.2.age != 0)
    tx := objects }

/-- The latest start of a channel's exchange window in a cycle (R395, R396), after which a result is no longer in time (R398). -/
def SafeSnap.windowAt (n : SafeSnap) (one : Bool) : Time := n.at_ + (if one then 200000 else 194026) * nsUnits

/-- CHANNEL_RESULT_POSTED: the channel computes its result from the snapshot (R395, R396 step 5, R408); one that comes after the start of the
channel's exchange window is not completed in time and is none (R398); a channel that restarts under new firmware posts none (18 R576). -/
def execChannelResultPosted (one : Bool) (s : State) : Host.Outcome State Fault Refusal :=
  match s.si.snap with
  | none => .next s
  | some n =>
    if s.si.restarting then .next s
    else
      let c := s.cycleOf one n
      let r := s.channelResult c
      let tracks := s.pset.joints.map (fun (q : Fin 64 × SafeArmSec × SafeJoint) =>
        let t := tget c.tracks q.1 {}
        (q.1, { t with ext := sdiFurthest q.2.2 (c.active q.2.2.sdi) t }))
      let ends := c.caps.map (fun (x : Nat × (Capsule × (Caps × (V3 × V3)))) => (x.1, (x.2.2.1.p0, x.2.2.1.p1)))
      let late := n.windowAt one < s.now ∨ (s.chan one).window.isSome
      .next (s.setChan one { s.chan one with tracks := tracks, ends := ends, result := if late then none else some r })

/-- CHANNEL_RESULT_ARRIVAL: the result of a channel arrives at the other and is held (R397). -/
def execChannelResultArrival (one : Bool) (s : State) : Host.Outcome State Fault Refusal :=
  match (s.chan one).result with
  | some r => .next (s.setChan (!one) { s.chan (!one) with held := some r })
  | none => .next s

/-- The strictness of a state code (R411). -/
def rank (st : Nat) : Nat := if st = 0 then 0 else if st = 2 then 1 else if st = 3 then 2 else if st = 1 then 3 else st

/-- The state to which an event takes an arm (R411). -/
def goalFrom (st goal : Nat) : Nat :=
  if goal = 5 then 5
  else if goal = 4 then (if rank st < 4 then 4 else st)
  else if goal = 1 then (if st = 3 then 4 else if rank st < 3 then 1 else st)
  else if goal = 3 then (if st = 2 then 3 else st)
  else if st = 0 then 2 else st

/-- The strictest state that events call an arm to (R411). -/
def strictest (st : Nat) (es : List SafeEvent) : Nat :=
  es.foldl (fun m e => let g := goalFrom st e.goal; if rank m < rank g then g else m) st

/-- The events of an arm. -/
def eventsOf (a : Fin 8) (es : List SafeEvent) : List SafeEvent := es.filter (fun e => e.arm = a)

/-- Whether channel 2 accepts the telegram of a return connection that channel 1 composes: its geometry and speed agree within tolerance (13
R450). -/
def State.txAgrees (s : State) (x y : V3 × V3 × Rat × Rat) : Bool :=
  let near := fun (tol : Rat) (x y : Rat) => decide (|x - y| ≤ tol)
  ((x.1.coords ++ x.2.1.coords ++ [x.2.2.1]).zip (y.1.coords ++ y.2.1.coords ++ [y.2.2.1])).all (fun (z : Rat × Rat) => near s.pset.xcD z.1 z.2)
    && near s.pset.xcV x.2.2.2 y.2.2.2

/-- The capsule that a channel's result holds for a return connection. -/
def ChanResult.txOf (r : ChanResult) (c : Fin 64) : Option (V3 × V3 × Rat × Rat) :=
  (r.tx.find? (fun (q : Fin 64 × (V3 × V3 × Rat × Rat)) => q.1 = c)).map (fun (q : Fin 64 × (V3 × V3 × Rat × Rat)) => q.2)

/-- Whether the telegram of a return connection is withheld (13 R450). -/
def State.withheld (s : State) (r q : ChanResult) (c : Fin 64) : Bool :=
  match r.txOf c, q.txOf c with
  | some x, some y => !s.txAgrees x y
  | _, _ => false

/-- The quantities of two results that differ beyond tolerance (R410), telegrams withheld among them (13 R450). -/
def State.differences (s : State) (r q : ChanResult) : Nat :=
  let count := fun (tol : Rat) (xs ys : List Rat) => ((xs.zip ys).filter (fun (p : Rat × Rat) => tol < |p.1 - p.2|)).length + (xs.length - ys.length) + (ys.length - xs.length)
  count s.pset.xcD r.dists q.dists + count s.pset.xcV r.speeds q.speeds
    + ((finList 8).filter (fun a => let st := (s.sarm a).state; strictest st (eventsOf a r.events) ≠ strictest st (eventsOf a q.events))).length
    + (s.connList.filter (s.withheld r q)).length

/-- The end of a channel's exchange window (R385, R397, R398, R410): what has arrived is taken; a missing own result is an island fault, a
missing result of the other a channel discrepancy; differences on XC_N consecutive cycles are one. They are shown from the commit on (R394). -/
def State.endWindow (s : State) (one : Bool) : State :=
  let c := s.chan one
  if s.si.snap.isNone ∨ c.window.isSome ∨ s.si.restarting then s
  else
    let s := s.setChan one { c with window := some (c.result.isSome, c.held.isSome) }
    match c.result, c.held with
    | some r, some q =>
      let d := s.differences r q
      let run := if d = 0 then 0 else c.xcRun + 1
      let s := s.setChan one { s.chan one with xcRun := run, xcNew := d }
      if d ≠ 0 ∧ s.pset.xcN ≤ run then s.islandFault 0 else s
    | some _, none => s.islandFault 0
    | none, _ => s.islandFault 1

/-- EXCHANGE_WINDOW_END. Channel 1 has counted the cycles of channel 2 in the separation cycle: more than 5 % from 25,000 they are a clock fault
(R430). -/
def execExchangeWindowEnd (one : Bool) (cycles : Nat) (s : State) : Host.Outcome State Fault Refusal :=
  let t := s.endWindow one
  .next (if one ∧ (s.chan one).window.isNone ∧ (t.chan one).window.isSome ∧ (cycles < 23750 ∨ 26250 < cycles) then t.islandFault 3 else t)

/-- A value for the read window in units of 1/q: exact, or the opaque choice between its neighbours (R433, log 29). -/
def inUnits (q : Nat) (x : Rat) : Word :=
  let y := x * q
  let k := if y.den = 1 then y.num else Config.safePublish y
  BitVec.ofNat 32 (min k.toNat (2 ^ 32 - 1))

/-- The least of the values listed under a key, published; with none all ones. -/
def publishLeast {K : Type} [DecidableEq K] (q : Nat) (l : List (K × Rat)) (k : K) : Word :=
  match (l.filter (fun (p : K × Rat) => p.1 = k)).map (fun (p : K × Rat) => p.2) with
  | [] => 0xFFFFFFFF
  | x :: r => inUnits q (r.foldl min x)

/-- The largest of the values listed under a key. -/
def greatest {K : Type} [DecidableEq K] (l : List (K × Rat)) (k : K) : Rat :=
  ((l.filter (fun (p : K × Rat) => p.1 = k)).map (fun (p : K × Rat) => p.2)).foldl max 0

/-- A change of the STO group of an arm (R108, R237, R413, R422): the trip source of its ports, and the halt of its axes. -/
def State.stoGroup (s : State) (a : Fin 8) (on : Bool) : State :=
  let s := (finList 64).foldl (fun s n => if armOf n = a then s.setPort n { s.port n with safe := !on } else s) s
  let s := s.judgeArm a
  if on then s else s.haltArm a

/-- The arms that an output follows: output k < 8 is the STO group of arm k (R419). -/
def State.outArms (s : State) (k : Fin 12) : List (Fin 8) := if k.val < 8 then [fin 8 k.val] else armsOf (s.outCfg k).arms

/-- An output at a commit (R419, R422, R423), after the arm states have changed. A fault of the output, a missing result or clock fault, no set
and a restart of a channel de-energise it at once (R31, R391, R398, R419; 18 R576); every other fault does so through the arms. -/
def State.commitOutput (s : State) (k : Fin 12) : State :=
  let st := (s.outArms k).map (fun a => (s.sarm a).state)
  let x := s.sout k
  let s :=
    if x.fault ∨ s.si.cut ∨ s.si.set.isNone ∨ s.si.restarting then s.outOff k
    else if k.val < 8 then (if st.all (fun q => rank q < 4) then s.outOn k else s.outOff k)
    else if (s.outCfg k).brake then
      if st.all (fun q => q = 0 ∨ q = 2 ∨ q = 3) then s.outOn k
      else if st.any (fun q => 4 ≤ q) ∧ x.on.isSome ∧ x.brk.isNone then
        if (s.outCfg k).brkDly = 0 then s.outOff k else s.setSout k { x with brk := some (s.now + (s.outCfg k).brkDly * 1000000 * nsUnits) }
      else s
    else if st.all (fun q => q = 0) then s.outOn k else s.outOff k
  if k.val < 8 ∧ x.on.isSome ≠ (s.sout k).on.isSome then s.stoGroup (fin 8 k.val) (s.sout k).on.isSome else s

/-- The nonce changes (R424); the new one is open (log 30). -/
def State.newNonce (s : State) : State :=
  (s.put SI_LOCK.NONCE (s.get SI_LOCK.NONCE + 1 + Config.nonceStep s.fresh % 65535)).useFresh

/-- The cause that governs among those of the events that call for the strictest state (R411); which of several is open (log 30). -/
def State.governing (s : State) (a : Fin 8) (st to_ : Nat) (es : List SafeEvent) : Nat :=
  let cs := ((es.filter (fun e => goalFrom st e.goal = to_ ∧ e.cause ≠ 0)).map SafeEvent.cause).dedup
  match cs with
  | [] => (s.sarm a).cause
  | [c] => c
  | c :: r => (c :: r).getD (Config.tieCause s.fresh % (c :: r).length) c

/-- Causes recorded, one record each (R411): those that become active and those that end. -/
def State.recordCauses (s : State) (a : Fin 8) (now : List Nat) : State :=
  let old := (s.sarm a).active
  let s := (now.filter (fun c => !old.contains c)).foldl (fun s c => s.post 0x0201 3 (s.armAddr a) [BitVec.ofNat 8 c, 1]) s
  (old.filter (fun c => !now.contains c)).foldl (fun s c => s.post 0x0201 3 (s.armAddr a) [BitVec.ofNat 8 c, 0]) s

/-- An arm moved to a state at a commit (R408, R411): the record, the flag, the start of a stop with the speeds then, the SOS
reference, in each channel from its own tracks. -/
def State.moveArm (s : State) (a : Fin 8) (to_ cause : Nat) : State :=
  let x := s.sarm a
  if x.state = to_ then s
  else
    let tr := fun (ch : SafeChannel) => (List.range (s.armSec a).joints.length).map (fun j => tget ch.tracks (portOf a (fin 8 j)) {})
    let stop := (to_ = 1 ∨ to_ = 2) ∧ x.state ≠ 1 ∧ x.state ≠ 2
    let s := s.setSarm a { x with
      state := to_, cause := cause, since := if stop then s.now else x.since
      v0 := if stop then (tr s.si.ch1).map JointTrack.v else x.v0
      v02 := if stop then (tr s.si.ch2).map JointTrack.v else x.v02
      qref := if to_ = 3 then (tr s.si.ch1).map (fun t => t.q.getD 0) else x.qref
      qref2 := if to_ = 3 then (tr s.si.ch2).map (fun t => t.q.getD 0) else x.qref2 }
    (s.post 0x0200 3 (s.armAddr a) [BitVec.ofNat 8 x.state, BitVec.ofNat 8 to_, BitVec.ofNat 8 cause]).put SI_EVT.ARM (s.get SI_EVT.ARM ||| 2 ^ a.val)

/-- Whether the reset accepted at a capture masks an arm (R425). -/
def SafeSnap.resets (n : SafeSnap) (a : Fin 8) : Bool :=
  match n.reset with
  | some (m, _) => m.getLsbD a.val
  | none => false

/-- One arm at a commit (R385, R411, R412, R425): the strictest event governs; then a deliberate reset, then a release. -/
def State.commitArm (s : State) (a : Fin 8) (es : List SafeEvent) (active : List Nat) (n : SafeSnap) : State :=
  let x := s.sarm a
  let to_ := strictest x.state es
  let s := if es.any (fun e => 5 ≤ e.cause && e.cause ≤ 13) then s.put SI_EVT.ARM (s.get SI_EVT.ARM ||| 2 ^ a.val) else s
  let s := if es.any (fun e => e.cause = 1) then s.post 0x0201 3 (s.armAddr a) [1, 1] else s
  let s := s.recordCauses a active
  let s := s.setSarm a { s.sarm a with active := active }
  let locking := es.any (fun e => e.goal = 5)
  let stopped := n.reqs.any (fun (q : BitVec 8 × Nat) => (q.2 = 1 ∨ q.2 = 2 ∨ q.2 = 3) ∧ q.1.getLsbD a.val)
  let released := n.reqs.any (fun (q : BitVec 8 × Nat) => q.2 = 4 ∧ q.1.getLsbD a.val)
  if to_ ≠ x.state then (s.moveArm a to_ (s.governing a x.state to_ es)).useFresh
  else if x.state = 5 ∧ locking = false ∧ n.resets a then s.moveArm a 4 x.cause
  else if released ∧ stopped = false ∧ (x.state = 3 ∨ x.state = 4) then
    if active = [] then s.moveArm a 0 0 else s.put SI_EVT.ARM (s.get SI_EVT.ARM ||| 2 ^ a.val)
  else s

/-- SI_ARM_STAT and SI_LOCK of an arm (R413, R434, 13 R448). -/
def State.showArm (s : State) (n : SafeSnap) (a : Fin 8) : State :=
  let x := s.sarm a
  ((((s.put (SI_ARM_STAT.STATE a) x.state).putB (SI_ARM_STAT.STOP_REQ a) (decide (x.state = 1 ∨ x.state = 2))).putB (SI_ARM_STAT.DEGRADED a)
    (s.degraded n a)).putB (SI_ARM_STAT.CAUSE_ACTIVE a) (!x.active.isEmpty)).put (SI_ARM_STAT.CAUSE a) x.cause

/-- The published limits (R399, R407): the more restrictive of the two channels' values. -/
def State.publishAll (s : State) (n : SafeSnap) (rs : List ChanResult) : State :=
  let run := fun (a : Fin 8) => decide ((s.sarm a).state = 0)
  let s := (finList 8).foldl (fun s a =>
    let deg := if s.degraded n a then [(a, (s.armSec a).degV)] else []
    let vs := if run a then publishLeast 256 (rs.flatMap ChanResult.vsafe ++ deg) a else 0
    ((s.wr (SI_VSAFE a) vs).wr (SI_VMEAS a) (inUnits 256 (greatest (rs.flatMap ChanResult.vmeas) a))).wr (SI_DMIN a)
      (publishLeast 16 (rs.flatMap ChanResult.dmin) a)) s
  let s := (finList 64).foldl (fun s p =>
    if p.val / 8 < p.val % 8 then
      s.wr (SI_VPAIR p) (if (rs.flatMap ChanResult.vpair).any (fun (q : Nat × Rat) => q.1 = p.val) then
          (if run (fin 8 (p.val / 8)) && run (fin 8 p.val) then publishLeast 256 (rs.flatMap ChanResult.vpair) p.val else 0)
        else 0xFFFFFFFF)
    else s) s
  (finList 64).foldl (fun s p => s.wr (SI_JVLIM p) (if run (armOf p) then publishLeast 256 (rs.flatMap ChanResult.jvlim) p.val else 0)) s

/-- A connection shown and its change recorded (13 R447, R452, R453). -/
def State.showConn (s : State) (n : SafeSnap) (c : Fin 64) : State :=
  match s.object c with
  | none => s
  | some o =>
    let x := tget n.conns c {}
    let old := s.get (SG_STAT.STATE c)
    let errs := min (x.recent n.commitAt).length 255
    let s := (((s.put (SG_STAT.STATE c) x.state).putB (SG_STAT.DEMANDING c) (decide ((x.demand o.conn).1 ≠ 0))).put (SG_STAT.FAULT c) x.fault).put
      (SG_STAT.ERR_HOUR c) errs
    let s := (s.wr (SG_SEQ c) (BitVec.ofNat 32 x.last)).wr (SG_ERR c) (BitVec.ofNat 32 (x.check + x.late * 2 ^ 8 + x.repeats * 2 ^ 16 + x.lost * 2 ^ 24))
    let s := s.wr (SG_AGE c) (BitVec.ofNat 32 x.age)
    if old = x.state then s
    else (s.flag SI_EVT.SIGNET).post 0x0211 3 o.conn.src [BitVec.ofNat 8 c.val, BitVec.ofNat 8 x.state, BitVec.ofNat 8 x.fault]

/-- The fields of a point of a telegram in 2^-8 mm. -/
def pointBytes (p : V3) : List Byte := p.coords.flatMap (fun x => leBytes 4 (unsignedOf 32 (let y := x * 256; if y.den = 1 then y.num else Config.safePublish y)))

/-- Whether the telegrams of a connection go out on a version 1 cluster (14 R481). -/
def State.txV1 (s : State) (r : SignetRec) : Bool := r.txPort == 4 && (match s.chain.sched with | some c => c.ver == 1 | none => false)

/-- A version 2 telegram of a return connection before its check value (13 R436, R449): address, demand, sequence, T32, capsule, speed. -/
def txBody2 (addr : Word) (demand : Nat) (arms : Byte) (seq t32 : Nat) (p0 p1 : V3) (r v : Rat) : List Byte :=
  leBytes 4 addr.toNat ++ [2, BitVec.ofNat 8 demand, arms, 0] ++ leBytes 4 seq ++ leBytes 4 (t32 % 2 ^ 32) ++ pointBytes p0 ++ pointBytes p1
    ++ leBytes 4 (inUnits 256 r).toNat ++ leBytes 4 (inUnits 256 v).toNat

/-- The centre and the radius of a version 1 telegram in mm: of a sphere that whole mm hold its own, else a sphere for the capsule whose choice
the spec does not give (13 R437; log 61). -/
def sphereOf (p0 p1 : V3) (r : Rat) : List Byte :=
  let xs := p0.coords ++ [r]
  let own := p0 = p1 ∧ xs.all (fun x => x.den == 1)
  (xs.zipIdx.map (fun (q : Rat × Nat) =>
    leBytes 2 (if own then unsignedOf 16 q.1.num else Config.txSphere (p0.coords ++ p1.coords ++ [r]) q.2 % 2 ^ 16))).flatten

/-- A version 1 telegram of a return connection before its check value (13 R437; 14 R481). -/
def txBody1 (addr : Word) (demand : Nat) (arms : Byte) (seq : Nat) (p0 p1 : V3) (r v : Rat) : List Byte :=
  leBytes 4 addr.toNat ++ [1, BitVec.ofNat 8 demand, arms, 0] ++ leBytes 2 (seq % 2 ^ 16) ++ leBytes 2 (min (inUnits 1 v).toNat (2 ^ 16 - 1))
    ++ sphereOf p0 p1 r

/-- The telegram of a return connection (13 R449, R450): one that channel 2 does not accept is withheld. On a version 1 cluster it is a version 1
telegram (14 R481). -/
def State.returnTelegram (s : State) (n : SafeSnap) (c : Fin 64) (r1 r2 : ChanResult) : State :=
  match s.object c, r1.txOf c with
  | some o, some (p0, p1, r, v) =>
    if (r2.txOf c).isNone then s
    else
      let seq := (tget s.si.tx c (0, [])).1 + 1
      match s.pset.caps[o.conn.txCap]? with
      | some k =>
        if s.withheld r1 r2 c then { s with si := { s.si with tx := tset s.si.tx c (seq, []) } }
        else
          let pairs := (r1.vsafe ++ r2.vsafe).any (fun (q : Fin 8 × Rat) => q.1 = k.arm)
          let lim : Rat := if pairs then (s.rd (SI_VSAFE k.arm)).toNat / 256 else (s.armSec k.arm).slsTcp.getD 0
          let demand := if 4 ≤ (s.sarm k.arm).state then 1 else 0
          let addr := s.jointAddr (portOf k.arm (fin 8 k.frame)) &&& 0xFFFFFFE0
          let v := max v lim + s.pset.ssmVtol
          let tel := if s.txV1 o.conn then
              let body := txBody1 addr demand (Config.txArms seq) seq p0 p1 r v
              body ++ leBytes 3 (signetCheck 1 o.conn.txId body) ++ [0]
            else
              let body := txBody2 addr demand (Config.txArms seq) seq (s.cellAt n.at_ / 256) p0 p1 r v
              body ++ leBytes 4 (signetCheck 2 o.conn.txId body)
          { s with si := { s.si with tx := tset s.si.tx c (seq, tel) } }
      | none => s
  | _, _ => s

/-- The bytes of a parameter set slot in MRAM (18 R578). -/
def slotAddr (k : Fin 2) : Nat := 0x0020000000 + (if k = 0 then 0x100000 else 0x180000)

/-- The set stored in a slot, as both channels load and check it (R391). -/
def State.loadSet (s : State) (k : Fin 2) : Option PSet :=
  PSet.ofBytes (s.mread (slotAddr k) (ofLeBytes (s.mread (slotAddr k + 8) 4))) s.cellAddr

/-- A connection of the former set becomes CLOSED (13 R447); its registers, which count since activation, return to 0 (13 R452). -/
def State.closeConn (s : State) (c : Fin 64) : State :=
  match s.object c with
  | none => s
  | some o =>
    let old := s.get (SG_STAT.STATE c)
    let s := (((s.wr (SG_STAT c) 0).wr (SG_SEQ c) 0).wr (SG_ERR c) 0).wr (SG_AGE c) 0
    if old = 0 then s else (s.flag SI_EVT.SIGNET).post 0x0211 3 o.conn.src [BitVec.ofNat 8 c.val, 0, 0]

/-- A connection of the set made active passes from CLOSED to WAIT (13 R447). -/
def State.openConn (s : State) (c : Fin 64) : State :=
  match s.object c with
  | none => s
  | some o => ((s.put (SG_STAT.STATE c) 1).flag SI_EVT.SIGNET).post 0x0211 3 o.conn.src [BitVec.ofNat 8 c.val, 1, 0]

/-- A set made active: the connections of the former one become CLOSED and its own start in WAIT (13 R447), the return sequences at 1 (R449), what
the channels kept is dropped, and the inputs are judged by it (R415). -/
def State.useSet (s : State) (p : Option PSet) (k : Option (Fin 2)) : State :=
  let p' := p.getD {}
  let s := s.connList.foldl State.closeConn s
  let s := { s with si := { s.si with
    set := p, slot := k, tx := [], ch1 := {}, ch2 := {}, tpsLow := [], tpsLast := [], tpsBase := none
    conns := (finList 64).filterMap (fun (c : Fin 64) => if c.val < p'.objects.length then some (c, { ({} : SignetConn) with state := 1 }) else none) } }
  let s := (s.connList.foldl State.openConn s).timeInputs
  ((s.wr SI_PSET_ID p'.id).wr SI_PSET_GEN p'.gen).put SI_STAT.ISTATE (if s.si.dead then 3 else if p.isSome then 2 else 1)

/-- The activation of the staged set at a commit (R392, 18 R579): while every arm is in STO or LOCKOUT. -/
def State.activate (s : State) : State :=
  match s.si.staged with
  | none => s
  | some k =>
    if (finList 8).all (fun a => 4 ≤ (s.sarm a).state) then
      match s.loadSet k with
      | none => (s.flag SI_EVT.PSET).siRecord 0x0205 ([1, 0] ++ leBytes 4 (s.mword (slotAddr k + 20)).toNat)
      | some p =>
        let s := s.useSet (some p) (some k)
        let s := { s with si := { s.si with staged := none } }.put SI_STAT.STAGED 0
        let s := (finList 8).foldl (fun s a => (s.setSarm a { s.sarm a with active := [] }).moveArm a 4 18) s
        let s := (finList 8).foldl (fun s a => s.setSarm a { s.sarm a with cause := 18 }) s
        (s.flag SI_EVT.PSET).siRecord 0x0205 ([2, 0] ++ leBytes 4 p.gen.toNat)
    else s

/-- The faults that reach a commit (R391, R398, R410, R430): recorded; all but a discrepancy put the island in FAULT. -/
def State.commitFaults (s : State) : State :=
  s.si.faults.foldl (fun s k =>
    let s := (s.flag (if 3 ≤ k then SI_EVT.CLOCK else SI_EVT.ISLAND)).siRecord 0x0206 [BitVec.ofNat 8 k]
    if k = 0 then s
    else { s with si := { s.si with dead := true, clockBad := s.si.clockBad || decide (3 ≤ k), cut := s.si.cut || k == 1 || k == 3 } }.put SI_STAT.ISTATE 3) s

/-- The events that reach every arm alike (R411; 18 R576): a discrepancy or island fault or the failure of an update, clock or supply, no set. -/
def State.islandCauses (s : State) : List Nat :=
  (if s.si.faults.contains 0 || s.si.revert.isSome || (s.si.dead && !s.si.clockBad) then [15] else []) ++ (if s.si.clockBad then [16] else []) ++ (if s.si.set.isNone then [17] else [])

/-- The locking causes of an arm from its outputs and connections (R419, 13 R447). -/
def State.armLocks (s : State) (n : SafeSnap) (a : Fin 8) : List Nat :=
  (if (finList 12).any (fun k => (s.sout k).fault && (s.outArms k).contains a) then [14] else [])
    ++ (s.connList.filterMap (fun c => match s.object c with
      | some o => if o.conn.arms.getLsbD a.val then (tget n.conns c {}).locking else none
      | none => none)).dedup

/-- An accepted reset clears the latched faults of the de-energised outputs of its arms (log 30). -/
def State.clearOutputs (s : State) (m : BitVec 8) : State :=
  (finList 12).foldl (fun s k =>
    if (s.sout k).on.isNone ∧ (s.outArms k).any (fun a => m.getLsbD a.val) then s.setSout k { s.sout k with fault := false } else s) s

/-- Every arm is in SOS, STO or LOCKOUT (18 R573). -/
def State.armsStill (s : State) : Bool := (finList 8).all (fun a => decide (3 ≤ (s.sarm a).state))

/-- An update of Bezel-1 or of channel 2 takes effect at a commit: arms in SOS enter STO with cause HOST, the channel restarts under the new
firmware, and the health window starts; after a failure, which has locked every arm, it restarts under the previous one (18 R573, R576). -/
def State.updCommit (s : State) : State :=
  let u := s.boot.upd
  match s.si.revert with
  | some c =>
    ({ s with si := { s.si with revert := none, restarting := true } }.setRunsAll c (s.dir c).1).updUpd (fun u => if u.comp = c.val + 1 then { u with stage := 4 } else u)
  | none =>
  if (u.comp = 5 ∨ u.comp = 6) ∧ u.phase = 3 ∧ u.stage = 1 ∧ s.armsStill then
    let s := (finList 8).foldl (fun s a => if (s.sarm a).state = 3 then s.moveArm a 4 1 else s) s
    let s := { s with si := { s.si with restarting := true } }.setRunsAll s.updComp s.newSlot
    (s.updUpd (fun u => { u with stage := 2 })).startWindow
  else s

/-- The snapshot with its connections as they are at the commit. -/
def State.snapAtCommit (s : State) (n : SafeSnap) : SafeSnap :=
  { n with conns := n.conns.map (fun (q : Fin 64 × SignetConn) => (q.1, match s.object q.1 with | some o => q.2.expire o.conn n.commitAt | none => q.2)) }

/-- The first part of the commit: connections that have expired, faults of the cycle, outputs cleared by a reset. -/
def State.commitBegin (s : State) (n : SafeSnap) : State :=
  let s := s.connList.foldl (fun s c => match s.object c with | some o => s.setConn c ((s.conn c).expire o.conn n.commitAt) | none => s) s
  let s := s.connList.foldl (fun s c => s.showConn n c) s
  let s := s.commitFaults
  match n.reset with | some (m, _) => s.clearOutputs m | none => s

/-- The commit of the arms from the results of the channels, then what a reset accepted changes; the nonce changes when an arm is locked out or
a reset is accepted (R424). -/
def State.commitArms (s0 : State) (n : SafeSnap) (rs : List ChanResult) : State :=
  let s := s0
  let s := (finList 8).foldl (fun s a =>
    let locks := s.islandCauses ++ s.armLocks n a
    let es := eventsOf a (rs.flatMap ChanResult.events) ++ locks.map (fun c => (⟨a, 5, c⟩ : SafeEvent))
    let act := (((rs.flatMap ChanResult.active).filter (fun (q : Fin 8 × Nat) => q.1 = a)).map (fun (q : Fin 8 × Nat) => q.2) ++ locks).dedup
    s.commitArm a es act n) s
  let s : State := match n.reset with | some (_, true) => s.activate | _ => s
  let locked := (finList 8).any (fun a => decide ((s.sarm a).state = 5) && decide ((s0.sarm a).state ≠ 5))
  let s := if n.reset.isSome || locked then s.newNonce else s
  { s with si := { s.si with faults := [] } }.updCommit

/-- What the commit shows and returns: the arm registers, the published words, the outputs, the return telegrams. -/
def State.commitShow (s : State) (n : SafeSnap) (rs : List ChanResult) : State :=
  let s := (finList 8).foldl (fun s a => s.showArm n a) s
  let s := s.publishAll n rs
  let s := (finList 12).foldl State.commitOutput s
  let s := s.showOutputs
  match s.si.ch1.result, s.si.ch2.result with
  | some r1, some r2 => s.connList.foldl (fun (s : State) c => s.returnTelegram n c r1 r2) s
  | _, _ => s

/-- The end of the commit: the input and lock registers, the counts of the cycle (R394, 13 R452), and the channels ready for the next one. -/
def State.commitEnd (s : State) (n : SafeSnap) (rs : List ChanResult) : State :=
  let bits := fun (f : Fin 16 → Bool) => ((finList 16).map (fun k => if f k then 2 ^ k.val else 0)).sum
  let s := (s.put SI_INPUTS.DEMAND (bits (fun k => let d := tget n.inputs k (false, false); d.1 || d.2))).put SI_INPUTS.FAULT (bits (fun k => (s.sin k).fault))
  let s := if rs.any ChanResult.posBad then s.flag SI_EVT.POSSRC else s
  let s := s.put SI_LOCK.LOCKED ((finList 8).map (fun a => if (s.sarm a).state = 5 then 2 ^ a.val else 0)).sum
  let s := s.wr SI_XC_CNT (s.rd SI_XC_CNT + BitVec.ofNat 32 s.si.ch1.xcNew)
  let s := s.si.unmatched.foldl (fun s (q : Fin 5 × Nat) => s.wr (SG_UNMATCHED q.1) (s.rd (SG_UNMATCHED q.1) + BitVec.ofNat 32 q.2)) s
  let close := fun (c : SafeChannel) => { c with result := none, held := none, window := none, xcNew := 0 }
  { s with si := { s.si with snap := none, unmatched := [], ch1 := close s.si.ch1, ch2 := close s.si.ch2 } }.count SI_CYCLE

/-- SEPARATION_COMMIT (R394, R399, R407, R411, R422 to R425): the decisions of the cycle take effect. An exchange window that has not been
seen to end has ended before. -/
def execSeparationCommit (s : State) : Host.Outcome State Fault Refusal :=
  match s.si.snap with
  | none => .next s
  | some n0 =>
    let s := (((s.endWindow true).endWindow false)).advance n0.commitAt
    let n := s.snapAtCommit n0
    let s := s.commitBegin n
    let rs := s.si.ch1.result.toList ++ s.si.ch2.result.toList
    .next (((s.commitArms n rs).commitShow n rs).commitEnd n rs)

/-- The reaction of the safety island to a clock fault (R31, 12 R429): at once, by channel 2, every gate is forced to its trip state
and every safe output de-energised. -/
def State.safeClockFault (s : State) : State :=
  let s := { s with si := { s.si with clockBad := true, cut := true, faults := s.si.faults ++ [3] } }.mishap [5, 6]
  let s := (finList 12).foldl (fun s k => s.outOff k) s
  (finList 8).foldl (fun s a => s.stoGroup a false) s.showOutputs

end Sys2Proof.Machine
end

