-- ==== Sys2Proof/Machine/Chain.lean ====
section
/-! DEFINITION. The Chain node (14 R457 to R476, R480 to R484). Times of the cycle are device instants, which steps of cell time do not
move (R472). A channel is a Bool, true for B. -/

namespace Sys2Proof.Machine

open Sys2Proof

/-- The schedule memory in the fabric (R459). -/
def schedAddr : Nat := 0x0030048000

/-- A slot entry from its 16 bytes. -/
def ChainSlot.ofBytes (b : List Byte) : ChainSlot :=
  { start := leAt b 0 4, len8 := leAt b 4 2, owner := leAt b 6 1, sync := (leAt b 7 1).testBit 0, cs := (leAt b 7 1).testBit 1
    payA := leAt b 8 2, payB := leAt b 10 2, payFb := leAt b 12 2, sig := leAt b 14 2 }

/-- A stream entry from its 16 bytes. -/
def ChainStream.ofBytes (b : List Byte) : ChainStream :=
  let f := leAt b 3 1
  { id := leAt b 0 2, slot := leAt b 2 1, onA := f.testBit 0, onB := f.testBit 1, onFb := f.testBit 2, rx := f.testBit 3
    len := leAt b 4 2, handle := leAt b 8 4, offset := leAt b 12 4 }

/-- A schedule from the bytes of the schedule memory. -/
def Sched.ofBytes (b : List Byte) : Sched :=
  let ns := leAt b 5 1
  { ver := leAt b 4 1, cycleNs := leAt b 8 4, id := BitVec.ofNat 32 (leAt b 12 4), launch := leAt b 16 2, guard := leAt b 18 2
    prec := leAt b 20 2, intWin := leAt b 22 2, listen := leAt b 24 4
    slots := buildList (fun k => ChainSlot.ofBytes ((b.drop (32 + 16 * k)).take 16)) ns
    streams := buildList (fun k => ChainStream.ofBytes ((b.drop (32 + 16 * ns + 16 * k)).take 16)) (leAt b 6 2) }

/-- The bytes of a schedule of a version beside its payload: header, sync section when it has one, check value (R461, R481). -/
def frameOverhead (ver : Nat) (sync : Bool) : Nat := if ver = 1 then 14 else 28 + if sync then 32 else 0

/-- The time of a byte on the lane, in ns: 8 at 1.25 GBd; 80 at 125 MBd (R454, R481). -/
def byteNs (ver : Nat) : Nat := if ver = 1 then 80 else 8

/-- The ranges of a schedule (R459, R481). -/
def Sched.rangesOk (c : Sched) : Bool :=
  (c.ver == 1 || c.ver == 2) && decide (1 ≤ c.slots.length ∧ c.slots.length ≤ 64 ∧ c.streams.length ≤ 1024)
    && [125000, 250000, 500000, 1000000].contains c.cycleNs && decide (64 ≤ c.launch ∧ c.launch ≤ 2048) && c.launch % 8 == 0
    && decide (16 ≤ c.guard ∧ c.guard + 32 ≤ c.launch) && c.guard % 8 == 0 && decide (4 ≤ c.prec ∧ c.prec ≤ 256 ∧ 1 ≤ c.intWin ∧ c.intWin ≤ 1000)
    && decide (2 * c.cycleNs ≤ c.listen ∧ c.listen ≤ 16 * c.cycleNs)
    && c.slots.all (fun q => q.start % 8 == 0 && decide (q.owner ≤ 7 ∧ q.payA ≤ 2048 ∧ q.payB ≤ 2048 ∧ q.payFb ≤ min q.payA q.payB)
        && q.payA % 4 == 0 && q.payB % 4 == 0 && q.sig % 56 == 0
        && decide (2 * c.launch + (frameOverhead c.ver q.sync + max q.payA q.payB) * byteNs c.ver ≤ q.len8 * 8)
        && (c.ver != 1 || decide (max q.payA q.payB ≤ 512)))
    && c.streams.all (fun q => decide (q.id ≤ 4095 ∧ 1 ≤ q.slot ∧ q.slot ≤ 64) && q.len % 4 == 0)

/-- No slot overlaps the next, in table order, and the settle interval is at least 8 us (R458, R460). -/
def slotsOk (cycleNs : Nat) : List ChainSlot → Bool
  | [] => true
  | [q] => decide (q.start + q.len8 * 8 + 8000 ≤ cycleNs)
  | q :: r :: l => decide (q.start + q.len8 * 8 ≤ r.start) && slotsOk cycleNs (r :: l)

/-- The number of the own cell. -/
def State.ownCell (s : State) : Nat := getBits s.ident 17 3

/-- Slot k of a schedule with its entry, numbered from 1 (R459). -/
def Sched.slot (c : Sched) (k : Nat) : Option ChainSlot := if k = 0 then none else c.slots[k - 1]?

/-- The streams of a slot that its owner sends in a layout: channel B, fallback (R459, R463). -/
def Sched.txStreams (c : Sched) (k : Nat) (b fb : Bool) : List ChainStream :=
  c.streams.filter (fun q => q.slot == k && !q.rx && (if fb then q.onFb else if b then q.onB else q.onA))

/-- The own slots hold their stream and Signet bytes, container headers included (R460). -/
def Sched.fits (c : Sched) (own : Nat) : Bool :=
  c.slots.zipIdx.all (fun (p : ChainSlot × Nat) =>
    p.1.owner != own || [(false, false, p.1.payA), (true, false, p.1.payB), (false, true, p.1.payFb)].all (fun (l : Bool × Bool × Nat) =>
      decide (p.1.sig + ((c.txStreams (p.2 + 1) l.1 l.2.1).map (fun q => 4 + q.len)).sum ≤ l.2.2)))

/-- The bytes of the schedule memory that the header names. -/
def State.schedBytes (s : State) : List Byte :=
  s.mread schedAddr (32 + 16 * (ofLeBytes (s.mread (schedAddr + 5) 1) + ofLeBytes (s.mread (schedAddr + 6) 2)))

/-- The reserved fields of the entries of a schedule are zero (R459). -/
def schedReserved (b : List Byte) : Bool :=
  let ns := leAt b 5 1
  (List.range ns).all (fun k => decide (leAt b (32 + 16 * k + 7) 1 < 4))
    && (List.range (leAt b 6 2)).all (fun k =>
      let o := 32 + 16 * ns + 16 * k
      decide (leAt b (o + 3) 1 < 16) && leAt b (o + 6) 2 == 0 && decide (leAt b (o + 8) 4 < 8192))

/-- Whether the node may be enabled with the schedule in memory (R460, R481). -/
def State.schedOk (s : State) : Bool :=
  let b := s.schedBytes
  let c := Sched.ofBytes b
  leAt b 0 4 == 0x4E494843 && (crc32c (b.take 12 ++ b.drop 16)).toNat == leAt b 12 4 && zeroAt b 28 32 && schedReserved b && c.rangesOk
    && slotsOk c.cycleNs c.slots && c.fits s.ownCell && (c.cycleNs * nsUnits) % s.period == 0
    && (c.ver != 1 || (!s.is CH_ROLE.STAR_A && !s.is CH_ROLE.STAR_B))

/-- VIOL_RUN as it stands: it is back at 0 once the slot of the last own frame has ended without a report (R478). -/
def State.violRun (s : State) : Nat :=
  match s.chain.ownEnd with
  | some t => if t ≤ s.now ∧ s.chain.reported = false then 0 else s.get CH_STAT.VIOL_RUN
  | none => s.get CH_STAT.VIOL_RUN

/-- The node changes state (R473): shown, raised as source 412 (R482) and recorded. -/
def State.chainState (s : State) (st : Nat) : State :=
  let old := s.get CH_STAT.STATE
  if old = st then s
  else (((if old = 4 then s.mishap [4] else s).put CH_STAT.STATE st).raise 412).post 0x0170 0 s.cellAddr [BitVec.ofNat 8 old, BitVec.ofNat 8 st, BitVec.ofNat 8 s.violRun]

/-- The time service's Chain source is lost: the node leaves ACTIVE, or has seen no locked gateway for 8 cycles (R470). -/
def State.chainLost (s : State) : State :=
  let s := { s with time := { s.time with chainValid := false } }
  if s.get TB_CTRL.SOURCE = 1 then (s.raise 415).toHoldover else s

/-- The node enters LISTEN (R473): the listen timeout starts. -/
def State.toListen (s : State) : State :=
  let s := if s.get CH_STAT.STATE = 4 then s.chainLost else s
  { s with chain := { s.chain with listen := s.now, claimed := false, full := 0, partial_ := false } }.chainState 1

/-- The Clasps that the device hosts take a mode (R477): true for WINDOW. -/
def State.claspModes (s : State) (window : Bool) : State :=
  (finList 2).foldl (fun (s : State) x => if s.is (if x = 0 then CH_ROLE.STAR_A else CH_ROLE.STAR_B) then s.putB (CP_STAT.MODE x) window else s) s

/-- The node is OFF (R473). DESIGN CHOICE (log 57): it gives up its cycle timing with a step announced for one of its cycles, and the
Clasps that the device hosts, which have no windows without it, return to ARBITRATE; R477 names only the return after LISTEN. -/
def State.chainOff (s : State) : State :=
  let s := if s.get CH_STAT.STATE = 4 then s.chainLost else s
  (({ s with chain := { s.chain with start := none, claimed := false, backoff := none, built := [], step := none, announce := false } }.claspModes false).put CH_STAT.BACKOFF 0).chainState 0

/-- A write of CH_CTRL (R459, R460, R473, R483). -/
def State.chainCtrl (s : State) (v : Word) : State :=
  let s := s.putB CH_CTRL.CS_EN (v.getLsbD 1)
  let on := v.getLsbD 0
  if on = s.is CH_CTRL.EN then s
  else if on = false then (s.put CH_CTRL.EN 0).chainOff
  else if s.schedOk then
    let c := Sched.ofBytes s.schedBytes
    ({ s with chain := { s.chain with sched := some c } }.put CH_CTRL.EN 1 |>.wr CH_SCHED_ID c.id).toListen
  else s.flag CH_STAT.CFG_REFUSED

/-- CHAIN_EN_WRITE. -/
def execChainEnWrite (v : Word) (s : State) : Host.Outcome State Fault Refusal := .next (s.chainCtrl v)

/-- A write into the schedule memory applies only while EN = 0 (R459). -/
def State.schedWrite (s : State) (o : Nat) (bs : List Byte) : State :=
  if s.is CH_CTRL.EN then s.flag CH_STAT.CFG_REFUSED else s.mwrite (schedAddr + o) (bs.take (0x8000 - o))

/-- CHAIN_SCHEDULE_WRITE. -/
def execChainScheduleWrite (o : Nat) (bytes : List Byte) (s : State) : Host.Outcome State Fault Refusal := .next (s.schedWrite o bytes)

/-- The reflected CRC-32 of a frame (R461). -/
def crc32 (bs : List Byte) : Nat := (~~~(bs.foldl (fun c b => iter (crcBit 0xEDB88320) 8 (c ^^^ b.setWidth 32)) (BitVec.allOnes 32) : BitVec 32)).toNat

/-- CRC-16 of a byte string, most significant bit first (R481). -/
def crc16 (bs : List Byte) : Nat :=
  (bs.foldl (fun (c : BitVec 16) b => iter (fun (x : BitVec 16) => if x.getLsbD 15 then (x <<< 1) ^^^ 0x1021 else x <<< 1) 8
    (c ^^^ BitVec.ofNat 16 (b.toNat * 256))) 0xFFFF).toNat

/-- A frame as it is read: header, sync section and payload (R461, R481). -/
structure Frame where
  addr : Word
  fb : Bool
  sync : Bool
  cs : Bool
  slot : Nat
  cycle : Nat
  sched : Option Word
  gw : Bool
  tstate : Nat
  corr : Int
  ct : Option Nat
  stepCyc : Nat
  step : Int
  payload : List Byte
  deriving DecidableEq, Repr

/-- A valid cell level address (00 R11, R13; R461). -/
def cellLevel (w : Word) : Bool := addrOk w && getBits w 0 5 == 0x1D

/-- A frame whose check values match and whose length fits (R464), with a valid cell level address (00 R13) and, in its sync section, less than 10^9 ns
(02 R53); none otherwise. -/
def Frame.ofBytes (ver : Nat) (b : List Byte) : Option Frame :=
  let v := leAt b 4 1
  let n := leAt b 6 2
  if ver = 1 then
    if b.length = 14 + n ∧ n ≤ 512 ∧ v % 16 = 1 ∧ v.testBit 5 = false ∧ crc16 (b.take 10) = leAt b 10 2 ∧ crc16 (b.take (12 + n)) = leAt b (12 + n) 2 ∧ cellLevel (BitVec.ofNat 32 (leAt b 0 4)) then
      some { addr := BitVec.ofNat 32 (leAt b 0 4), fb := false, sync := v.testBit 6, cs := v.testBit 7, slot := leAt b 5 1, cycle := leAt b 8 2
             sched := none, gw := false, tstate := 0, corr := 0, ct := none, stepCyc := 0, step := 0, payload := (b.drop 12).take n }
    else none
  else
    let sync := v.testBit 6
    let h := if sync then 56 else 24
    if b.length = h + n + 4 ∧ v % 16 = 2 ∧ (crc32c (b.take 20)).toNat = leAt b 20 4 ∧ crc32 (b.take (h + n)) = leAt b (h + n) 4 ∧ cellLevel (BitVec.ofNat 32 (leAt b 0 4))
        ∧ (sync = false ∨ leAt b 40 4 ≤ 999999999) then
      let st := leAt b 16 4
      some { addr := BitVec.ofNat 32 (leAt b 0 4), fb := v.testBit 5, sync := sync, cs := v.testBit 7, slot := leAt b 5 1, cycle := leAt b 8 4
             sched := some (BitVec.ofNat 32 (leAt b 12 4)), gw := st.testBit 8, tstate := st / 2 ^ 9 % 8
             corr := if sync then signed 64 (leAt b 24 8) else 0
             ct := if sync then some (timeOf (leAt b 32 8) (leAt b 40 4) 0) else none
             stepCyc := if sync then leAt b 44 4 else 0, step := if sync then signed 64 (leAt b 48 8) else 0
             payload := (b.drop h).take n }
    else none

/-- The cell that an address names. -/
def cellOf (w : Word) : Nat := getBits w 17 3

/-- The containers of a payload: stream, type, content; none with a reserved type or an end that does not fit (R462). -/
def containers : Nat → List Byte → Option (List (Nat × Nat × List Byte))
  | 0, b => if b.isEmpty then some [] else none
  | f + 1, b =>
    if b.isEmpty then some []
    else
      let h := leAt b 0 4
      let n := h / 2 ^ 12 % 2 ^ 12
      let t := h / 2 ^ 24 % 16
      let room := (n + 3) / 4 * 4
      if b.length < 4 + room ∨ 4 < t ∨ h / 2 ^ 28 ≠ 0 then none
      else (containers f (b.drop (4 + room))).map (fun l => (h % 2 ^ 12, t, (b.drop 4).take n) :: l)

/-- The containers of a frame of a version; a version 1 frame holds types 0 to 2 only (R462, R481). -/
def Frame.contents (f : Frame) (ver : Nat) : Option (List (Nat × Nat × List Byte)) :=
  match containers f.payload.length f.payload with
  | some l => if ver = 1 ∧ l.any (fun (c : Nat × Nat × List Byte) => 2 < c.2.1) then none else some l
  | none => none

/-- The modulus of the cycle number of a version (R461, R481). -/
def cycleMod (ver : Nat) : Nat := if ver = 1 then 2 ^ 16 else 2 ^ 32

/-- The timestamp port of a node lane: lane 0 for channel A, lane 8 for B (R454, R66). -/
def lanePort (b : Bool) : Fin 20 := if b then 12 else 4

/-- Whether the device hosts the star of a channel: its own node is then port 0 of that Clasp and has no lane there (R454). -/
def State.hosts (s : State) (b : Bool) : Bool := s.is (if b then CH_ROLE.STAR_B else CH_ROLE.STAR_A)

/-- The ingress delay of the node on a channel, in 1/256 ns; none where it has no lane (R454, R66). -/
def State.laneIngress (s : State) (b : Bool) : Nat := if s.hosts b then 0 else getBits (s.rd (TSP_INGRESS (lanePort b))) 0 24

/-- The corrected ingress of a frame that starts at a device instant, as a device instant in 1/256 ns (R66, R67). -/
def State.chainIngress (s : State) (b : Bool) (t : Time) : Int := (ceilTo nsUnits t : Nat) - (s.laneIngress b : Nat)

/-- Whether the link of a node lane of the device is down (R465); a channel whose star it hosts has no node lane. -/
def State.laneDown (s : State) (b : Bool) : Bool := !s.hosts b && !s.is (if b then CH_STAT.LINK_B else CH_STAT.LINK_A)

/-- The delay that a frame of a cell has on its way, in 1/256 ns: `CORR` and the link delay of the channel, or the fixed delay of
version 1 (R467, R481); a frame without sync section has the `CORR` that the cell last sent (log 33). -/
def State.pathDelay (s : State) (c : Sched) (f : Frame) (b : Bool) : Int :=
  if c.ver = 1 then (getBits (s.rd (CH_V1_DLY (fin 8 (cellOf f.addr)))) 0 24 : Nat)
  else
    let corr := if f.sync then f.corr else tget s.chain.corrs (cellOf f.addr, b) 0
    corr + ((s.rd (if b then CH_LINKDLY_B else CH_LINKDLY_A)).toNat : Int)

/-- The start of the cycle that a frame implies, as a device instant. -/
def State.impliedStart (s : State) (c : Sched) (q : ChainSlot) (f : Frame) (b : Bool) (t : Time) : Int :=
  s.chainIngress b t - ((q.start + c.launch) * nsUnits : Nat) - s.pathDelay c f b

/-- Whether a frame fits the schedule: `SCHED`, slot and owner (R464). -/
def Sched.owns (c : Sched) (f : Frame) : Option ChainSlot :=
  match c.slot f.slot with
  | some q => if q.owner = cellOf f.addr ∧ (c.ver = 1 ∨ f.sched = some c.id) then some q else none
  | none => none

/-- The node records what a slot brought on a channel: 0 valid, 1 null, 2 invalid, 3 blocked (R483). -/
def State.slotStat (s : State) (k : Nat) (b : Bool) (x : Nat) : State :=
  let i := fin 64 (k + 63)
  s.put (if b then CH_SLOT_STAT.B i else CH_SLOT_STAT.A i) x

/-- The nearest grid instant. -/
def nearestGrid (t : Int) : Time := ((t + gridUnits / 2) / gridUnits * gridUnits).toNat

/-- The first period boundary at or after an instant. -/
def State.boundaryFrom (s : State) (t : Time) : Time := s.seq.base + (t - s.seq.base + s.period - 1) / s.period * s.period

/-- The start of the settle interval: the end of the last slot, from the cycle start (R458). -/
def Sched.settle (c : Sched) : Nat := (c.slots.map (fun q => q.start + q.len8 * 8)).foldl max 0

/-- The period boundary nearest to an instant. -/
def State.nearestBoundary (s : State) (t : Int) : Time :=
  (s.seq.base + ((t - s.seq.base + s.period / 2) / s.period * s.period).toNat)

/-- The conditions of R34 for the restart at the first adoption. -/
def State.restartAllowed (s : State) : Bool :=
  !s.anyArmed && (finList 16).all (fun i => !s.is (STP_CTRL.EN i)) && (finList 8).all (fun a => 4 ≤ (s.sarm a).state)

/-- The Clasps that the device hosts pass to WINDOW as the own node takes cycle timing (R477). -/
def State.toWindow (s : State) : State := s.claspModes true

/-- The single step of a node in UNSET whose source is Chain: from a valid sync frame, cell time at the start of the cycle by the sender
less the node's own (02 R57, R62). -/
def State.syncStep (s : State) (f : Frame) (own : Time) : State :=
  match f.ct with
  | some x => if s.get TB_STAT.STATE = 0 ∧ s.get TB_CTRL.SOURCE = 1 ∧ s.time.step = none ∧ s.time.stepped = false ∧ s.chain.step = none ∧ s.timeHeld = false then
      s.stepKnown ((x : Int) - s.cellAt own) s.now 1 else s
  | none => s

/-- A valid frame of another node with GW = 1, with or without sync section: the gateway is seen, and the lower cell number keeps the role (R64,
R470). -/
def State.seeGateway (s : State) (f : Frame) : State :=
  if f.gw = false then s else
  let s := if f.tstate = 2 then
      ({ s with chain := { s.chain with gwAge := 0 }, time := { s.time with chainValid := true } }.put CH_STAT.GW_SEEN 1).reacquire else s
  if s.get TB_CTRL.SOURCE = 2 ∧ cellOf f.addr < s.ownCell then
    ((s.flag TB_STAT.GW_CONFLICT).put TB_CTRL.SOURCE 1).post 0x0013 1 s.cellAddr [BitVec.ofNat 8 (cellOf f.addr)]
  else s

/-- The step that a gateway announces in a frame, if any (R472). -/
def Frame.announced (f : Frame) : Option (Nat × Int) := if f.gw ∧ f.sync ∧ f.step ≠ 0 then some (f.stepCyc, f.step) else none

/-- The node adopts cycle timing from a frame (R457, R473): INTEGRATE; the first adoption after reset schedules the restart of the
period sequencer at the grid instant nearest to the next cycle start (R34); a time service in UNSET whose source is Chain takes its
single step; a step that the gateway announces in the frame is kept for its cycle (R472). DESIGN CHOICE (log 47): a restart that a PERIOD_SEL write has scheduled and that is still pending takes the instant of the
adoption. -/
def State.adopt (s : State) (c : Sched) (f : Frame) (st : Int) : State :=
  let cyc := c.cycleNs * nsUnits
  let first := s.seq.adopted = false
  let next := if first then nearestGrid (st + cyc) else s.nearestBoundary (st + cyc)
  let start := next - cyc
  let s := if first then { s with seq := { s.seq with adopted := true, restart := some next } } else s
  let s := { s with chain := { s.chain with start := some start, cycle := f.cycle, full := 0, partial_ := true, synced := false, gwAge := 0 } }.wr CH_CYCLE
    (BitVec.ofNat 32 f.cycle)
  let s := (s.syncStep f start).seeGateway f
  let s := { s with chain := { s.chain with step := f.announced.or s.chain.step } }
  s.toWindow.chainState 3

/-- Whether the offset of a frame lies within INT_WIN_US (R473): of the cycle start, and of the cell time once it is set. -/
def State.inWindow (s : State) (c : Sched) (f : Frame) (st : Int) : Bool :=
  let win := c.intWin * 1000 * nsUnits
  let cyc : Int := (c.cycleNs * nsUnits : Nat)
  let timing := match s.chain.start with
    | none => true
    | some own => let d := (st - own) % cyc; decide (d ≤ win ∨ cyc - win ≤ d)
  let time := match f.ct with
    | some x => s.get TB_STAT.STATE == 0 || decide (((x : Int) - s.cellAt st.toNat).natAbs ≤ win)
    | none => true
  timing && time

/-- A frame that a listening node may integrate on (R473). -/
def State.listenTo (s : State) (c : Sched) (f : Frame) (st : Int) : State :=
  let s := { s with chain := { s.chain with listen := s.now } }
  if f.sync || f.cs then
    if s.inWindow c f st && (s.seq.adopted || s.restartAllowed) then s.adopt c f st else s.flag CH_STAT.INT_REFUSED
  else s

/-- Contention of a cold-starting node (R476): it sends nothing further and backs off. -/
def State.contention (s : State) (c : Sched) : State :=
  let k := ((c.slots.zipIdx.find? (fun (p : ChainSlot × Nat) => p.1.owner == s.ownCell && p.1.cs)).map (fun (p : ChainSlot × Nat) => p.2 + 1)).getD 0
  let s := { s with chain := { s.chain with backoff := some (s.now + k * c.listen * nsUnits) } }
  ((s.flag CH_STAT.CS_CONTENTION).put CH_STAT.BACKOFF 1).toListen

/-- Whether a frame whose check values match is contention for a cold-starting node (R476); a slot that the schedule does not have has no
expected arrival. DEDUCED (log 57): before its claim the node has no cycle of its own that a frame could agree with. -/
def State.contends (s : State) (c : Sched) (f : Frame) (b : Bool) (t : Time) : Bool :=
  cellOf f.addr != s.ownCell && (f.cs || !s.chain.claimed || f.cycle != s.chain.cycle % cycleMod c.ver
    || (c.ver == 1 && decide (t < s.chain.txEnd)) || (match s.chain.start, c.slot f.slot with
    | some own, some q => decide (c.guard * nsUnits < (s.impliedStart c q f b t - own).natAbs)
    | _, _ => false))

/-- The slot of the schedule in which an instant lies, by the node's own cycle (R458). -/
def State.slotAt (s : State) (c : Sched) (t : Time) : Option (ChainSlot × Nat) :=
  match s.chain.start with
  | some own => c.slots.zipIdx.find? (fun (q : ChainSlot × Nat) => decide (own + q.1.start * nsUnits ≤ t) && decide (t < own + (q.1.start + q.1.len8 * 8) * nsUnits))
  | none => none

/-- An invalid frame of a slot on a channel (R464, R483): counted, and shown unless the slot has brought a valid one. -/
def State.invalidFrame (s : State) (k : Nat) (b : Bool) : State :=
  let s := s.bump CH_ERR_CNT
  if tget s.chain.got (k, b) 1 = 0 then s else { s with chain := { s.chain with got := tset s.chain.got (k, b) 2 } }.slotStat k b 2

/-- An invalid frame whose own slot number does not count: it belongs to the slot in which it arrives, if any. -/
def State.invalidAt (s : State) (c : Sched) (b : Bool) (t : Time) : State :=
  match s.slotAt c t with
  | some (_, i) => s.invalidFrame (i + 1) b
  | none => s.bump CH_ERR_CNT

/-- The sync section of a valid frame taken (R467, R472). -/
def State.takeSync (s : State) (f : Frame) (b : Bool) (dev : Int) : State :=
  let key := (cellOf f.addr, b)
  let n := s.chain
  { s with chain := { n with
    synced := true
    devs := tset n.devs key dev
    corrs := tset n.corrs key f.corr
    gwCell := if f.gw ∧ f.tstate = 2 then some (cellOf f.addr) else n.gwCell
    step := f.announced.or n.step } }

/-- A stream received (R464, R466): written to its buffer; when both channels carry it and differ, channel A's is taken. -/
def State.takeStream (s : State) (q : ChainStream) (b : Bool) (x : List Byte) : State :=
  let key := (q.slot, q.id)
  let put := fun (s : State) => ({ s with chain := { s.chain with data := tset s.chain.data key (b, x) } }).bufWrite (fin 8192 q.handle) q.offset (x.take q.len)
  match s.chain.data.find? (fun (p : (Nat × Nat) × (Bool × List Byte)) => p.1 = key) with
  | none => put s
  | some (_, (_, y)) => if y = x then s else (let s := s.bump CH_DIFF_CNT; if b then s else put s)

/-- The containers of a valid frame taken (R464): streams; each Signet telegram once per slot, from the first valid channel. -/
def State.takeContents (s : State) (c : Sched) (k : Nat) (b : Bool) (l : List (Nat × Nat × List Byte)) (stamp : Int) : State :=
  let s := l.foldl (fun s (x : Nat × Nat × List Byte) =>
    if x.2.1 = 2 then
      match c.streams.find? (fun q => q.slot == k && q.rx && q.id == x.1) with
      | some q => s.takeStream q b x.2.2
      | none => s
    else s) s
  l.foldl (fun s (x : Nat × Nat × List Byte) =>
    if x.2.1 ≠ 1 ∨ s.chain.sigDone.contains (k, x.2.2) then s
    else { s with chain := { s.chain with sigDone := s.chain.sigDone ++ [(k, x.2.2)] } }.signetCopy { port := 4, udp := 0, bytes := x.2.2, tin := stamp }) s

/-- A frame that a node with cycle timing judges (R464). -/
def State.chainFrame (s : State) (c : Sched) (f : Frame) (b : Bool) (t : Time) : State :=
  match c.owns f, s.chain.start with
  | some q, some own =>
    let dev := s.impliedStart c q f b t - own
    match f.contents c.ver with
    | some l =>
      if f.cycle = s.chain.cycle % cycleMod c.ver ∧ dev.natAbs ≤ c.guard * nsUnits then
        let s := (s.slotStat f.slot b 0).putB (CH_SLOT_STAT.FALLBACK (fin 64 (f.slot + 63))) f.fb
        let s := { s with chain := { s.chain with got := tset s.chain.got (f.slot, b) 0, seen := s.chain.seen ||| 2 ^ cellOf f.addr, listen := s.now } }
        let s := if cellOf f.addr ≠ s.ownCell then s.seeGateway f else s
        let s := if f.sync ∧ cellOf f.addr ≠ s.ownCell then (s.takeSync f b dev).syncStep f own else s
        s.takeContents c f.slot b l (s.cellAt (ceilTo nsUnits t) - (s.laneIngress b : Nat))
      else s.invalidFrame f.slot b
    | none => s.invalidFrame f.slot b
  | _, _ => s.invalidAt c b t

/-- A violation report received (R473, R478): the third in a row ends ACTIVE. -/
def State.chainReport (s : State) : State :=
  let n := s.violRun + 1
  let s := if s.get CH_STAT.STATE = 4 then s.mishap [4] else s
  let s := ((s.flag CH_STAT.WIN_VIOL).put CH_STAT.VIOL_RUN (min n 3)).bump CH_VIOL_CNT
  let s := { s with chain := { s.chain with reported := true } }
  if 3 ≤ n ∧ s.get CH_STAT.STATE = 4 then s.toListen.bump CH_REINT_CNT else s

/-- A result of the link-delay measurement joined to the last 16, one more than 4 ns from their mean left out (R469). -/
def joinDelay (l : List Rat) (d : Rat) : List Rat :=
  let mean := l.sum / l.length
  if l ≠ [] ∧ (1024 : Rat) < |d - mean| then l else (l ++ [d]).drop (l.length + 1 - 16)

/-- The whole number of units for a value of the Chain: itself, or one of its two neighbours (log 33). -/
def chainInt (x : Rat) : Int := if x.den = 1 then x.num else x.floor + (if Config.chainUp x then 1 else 0)

/-- The mean of link-delay results, in 1/256 ns. -/
def delayMean (l : List Rat) : Word := wordOf (chainInt (l.sum / l.length))

/-- The lane is taken by a frame of another node until its last byte. -/
def State.onLane (s : State) (c : Sched) (bytes : List Byte) (t : Time) : State :=
  { s with chain := { s.chain with rxEnd := max s.chain.rxEnd (t + (bytes.length + 3) * byteNs c.ver * nsUnits) } }

/-- CHAIN_FRAME_RX (R464, R469, R473, R476, R478). -/
def execChainFrameRx (b : Bool) (x : ChainRx) (t : Nat) (s : State) : Host.Outcome State Fault Refusal :=
  let s := s.advance t
  match s.chain.sched with
  | none => .next s
  | some c =>
    let st := s.get CH_STAT.STATE
    if st = 0 then .next s
    else
      match x with
      | .delayRequest => .next { s with chain := { s.chain with request := tset s.chain.request b (s.chainIngress b t) } }
      | .delayResult d =>
        let l := joinDelay (tget s.chain.delays b []) d
        .next ({ s with chain := { s.chain with delays := tset s.chain.delays b l } }.wr (if b then CH_LINKDLY_B else CH_LINKDLY_A) (delayMean l))
      | .report _ _ => if st = 2 then .next (s.chainReport.contention c) else .next s.chainReport
      | .frame bytes bad =>
        match (if bad then none else Frame.ofBytes c.ver bytes) with
        | none =>
          let s := s.onLane c bytes t
          let s := if st = 1 then s.bump CH_ERR_CNT else s.invalidAt c b t
          if st = 2 ∧ c.ver = 1 ∧ t < s.chain.txEnd then .next (s.contention c) else .next s
        | some f =>
          let s := if c.ver = 2 ∧ f.sched ≠ some c.id then s.flag CH_STAT.SCHED_MISMATCH else s
          let other := cellOf f.addr ≠ s.ownCell
          let s := if other then s.onLane c bytes t else s
          if st = 2 then
            if s.contends c f b t then
              let s := s.contention c
              match c.owns f with
              | some q => .next (if f.contents c.ver = none then s else s.listenTo c f (s.impliedStart c q f b t))
              | none => .next s
            else .next (s.chainFrame c f b t)
          else if st = 1 then
            match c.owns f with
            | some q =>
              .next (if f.contents c.ver = none then s.bump CH_ERR_CNT else if other then s.listenTo c f (s.impliedStart c q f b t) else s)
            | none => .next (s.bump CH_ERR_CNT)
          else .next (s.chainFrame c f b t)

/-- A step of cell time that the gateway announced (R62, R472), in ns: it moves cell time, not the physical cycle starts. -/
def State.chainStep (s : State) (d : Int) : State :=
  let s := { s with time := { s.time with ofs := s.time.ofs + d * nsUnits, stepped := true, good := 0 } }
  let s := (finList 8).foldl State.stopPulse s
  let s := if s.get TB_STAT.STATE = 0 then s.put TB_STAT.STATE 1 else s
  s.post 0x0011 0 s.cellAddr (leBytes 6 (unsignedOf 48 d))

/-- The slots of the other cells. -/
def Sched.others (c : Sched) (own : Nat) : List Nat := (c.slots.zipIdx.filter (fun (p : ChainSlot × Nat) => p.1.owner != own)).map (fun (p : ChainSlot × Nat) => p.2 + 1)

/-- The slots of the cycle that ends judged (R464, R465): null frames, the channels' runs, the layout. A node in LISTEN has no cycle to judge them
by (log 57). -/
def State.closeCycle (s : State) (c : Sched) : State :=
  let slots := if s.get CH_STAT.STATE = 1 then [] else c.others s.ownCell
  let n := s.chain
  let miss := fun (b : Bool) => slots.filter (fun k => !(n.got.any (fun (q : (Nat × Bool) × Nat) => q.1 = (k, b) && q.2 == 0)))
  let s := [false, true].foldl (fun (s : State) b => (miss b).foldl (fun (s : State) k =>
    let s := s.bump CH_NULL_CNT
    if n.got.any (fun (q : (Nat × Bool) × Nat) => q.1 = (k, b)) then s else s.slotStat k b 1) s) s
  let null := fun (b : Bool) (r : Nat) => if slots ≠ [] ∧ (miss b).length = slots.length then r + 1 else 0
  let any := fun (b : Bool) => decide ((miss b).length < slots.length)
  let na := null false n.nullA
  let nb := null true n.nullB
  let both := if any false ∧ any true then n.bothOk + 1 else 0
  let fb := if 2 ≤ na ∨ 2 ≤ nb then true else if 2 ≤ both then false else n.fb
  let s := s.putB CH_STAT.ALONE (decide (s.get CH_STAT.STATE = 4 ∧ n.seen % 256 &&& (255 - 2 ^ s.ownCell) = 0))
  let age := n.gwAge + 1
  { s with chain := { s.chain with
      nullA := na, nullB := nb, bothOk := both, fb := fb, seenBefore := n.seen, seen := 0, got := [], data := [], sigDone := [], devs := [],
      gwCell := none, gwAge := age, synced := false } }.putB CH_STAT.GW_SEEN (s.is CH_STAT.GW_SEEN && decide (age ≤ 8))

/-- The state checks at a cycle start (R473, R475), with what the cycle that ended brought. -/
def State.cycleChecks (s : State) (c : Sched) (synced : Bool) : State :=
  let st := s.get CH_STAT.STATE
  let n := s.chain
  if st = 2 ∧ n.claimed ∧ n.cycle = 3 then { s with chain := { n with claimed := false } }.chainState 4
  else if st = 3 then
    if n.partial_ then { s with chain := { n with partial_ := false } }
    else if synced = false then s.toListen
    else
      let s := { s with chain := { n with full := n.full + 1 } }
      if 2 ≤ n.full + 1 ∧ |n.offset| ≤ c.prec * nsUnits then s.chainState 4 else s
  else s

/-- CHAIN_CYCLE_START: the next cycle begins (R457, R465, R472, R473, R475). -/
def execChainCycleStart (s : State) : Host.Outcome State Fault Refusal :=
  match s.chain.sched, s.chain.start with
  | some c, some own =>
    if s.get CH_STAT.STATE = 0 then .next s
    else
      let start := own + c.cycleNs * nsUnits
      let s := s.advance start
      let synced := s.chain.synced
      let s := s.closeCycle c
      let cyc := (s.chain.cycle + 1) % cycleMod c.ver
      let s := { s with chain := { s.chain with start := some start, cycle := cyc } }.wr CH_CYCLE (BitVec.ofNat 32 cyc)
      let s := s.cycleChecks c synced
      let s := match s.chain.step with
        | some (k, d) => if k = cyc then { s with chain := { s.chain with step := none } }.chainStep d else s
        | none => s
      let s := match s.chain.announce, s.time.step with
        | true, some (d, _, _) => { s with chain := { s.chain with announce := false, step := some ((cyc + 2) % cycleMod c.ver, d / nsUnits) }, time := { s.time with step := none } }
        | _, _ => s
      .next s
  | _, _ => .next s

/-- A container with its header and padding (R462). -/
def container (stream type : Nat) (x : List Byte) : List Byte :=
  leBytes 4 (stream % 2 ^ 12 + x.length % 2 ^ 12 * 2 ^ 12 + type * 2 ^ 24) ++ x ++ List.replicate ((4 - x.length % 4) % 4) 0

/-- The posted telegrams that go out on the Chain (R463): those of the cluster's version (R481), the island having posted that one. -/
def State.chainTelegrams (s : State) (ver : Nat) : List (Fin 64 × List Byte) :=
  s.connList.filterMap (fun c => match s.object c with
    | some o =>
      let x := (tget s.si.tx c (0, [])).2
      if o.conn.txId ≠ 0 ∧ o.conn.txPort = 4 ∧ x ≠ [] ∧ leAt x 4 1 = ver then some (c, x) else none
    | none => none)

/-- The telegrams that fit into the Signet bytes of a slot with their container headers, in order (R459, R463). -/
def fitting (room : Nat) : List (Fin 64 × List Byte) → List (Fin 64 × List Byte)
  | [] => []
  | x :: l => if 4 + x.2.length ≤ room then x :: fitting (room - (4 + x.2.length)) l else fitting room l

/-- Containers filled with padding to the length of a payload (R462). -/
def padTo (room : Nat) (body : List Byte) : List Byte :=
  if room ≤ body.length then body else body ++ container 0 0 (List.replicate (room - body.length - 4) 0)

/-- The payload of an own slot on a channel (R462, R463): telegrams within SIG_BYTES, streams, padding. -/
def State.chainPayload (s : State) (c : Sched) (k : Nat) (q : ChainSlot) (b fb : Bool) : List Byte :=
  let room := if fb then q.payFb else if b then q.payB else q.payA
  let sig := (fitting q.sig (s.chainTelegrams c.ver)).flatMap (fun (x : Fin 64 × List Byte) => container 0 1 x.2)
  let data := (c.txStreams k b fb).flatMap (fun st => container st.id 2 (s.bufRead (fin 8192 st.handle) st.offset st.len))
  padTo room (sig ++ data)

/-- The instant 4 us before the launch of a slot (R463): of this cycle, or of the next one for a slot launched within 4 us of its cycle's start. -/
def buildPoint (c : Sched) (q : ChainSlot) (start : Time) : Time :=
  let o := q.start + c.launch
  if 4000 ≤ o then start + (o - 4000) * nsUnits else start + (c.cycleNs + o - 4000) * nsUnits

/-- CHAIN_BUILD_POINT: 4 us before the launch the content of a slot's frames is taken (R463, R465); FB_TX shows the layout. -/
def execChainBuildPoint (k : Fin 64) (s : State) : Host.Outcome State Fault Refusal :=
  match s.chain.sched with
  | none => .next s
  | some c =>
    match c.slot (k.val + 1) with
    | none => .next s
    | some q =>
      if q.owner ≠ s.ownCell ∨ (s.get CH_STAT.STATE ≠ 4 ∧ s.get CH_STAT.STATE ≠ 2) then .next s
      else
        let s := match s.chain.start with
          | some start => s.advance (buildPoint c q start)
          | none => s
        let fb := s.chain.fb || s.laneDown false || s.laneDown true
        let a := s.chainPayload c (k.val + 1) q false fb
        let b := s.chainPayload c (k.val + 1) q true fb
        let sent := (fitting q.sig (s.chainTelegrams c.ver)).map (fun (x : Fin 64 × List Byte) => x.1)
        let s := sent.foldl (fun (s : State) x => { s with si := { s.si with tx := tset s.si.tx x ((tget s.si.tx x (0, [])).1, []) } }) s
        .next ({ s with chain := { s.chain with fb := fb, built := tset s.chain.built (k.val + 1) (fb, (a, b)) } }.putB CH_STAT.FB_TX fb)

/-- The bytes of an own frame on a channel (R461, R481). -/
def State.chainBytes (s : State) (c : Sched) (k : Nat) (fb sync cs b : Bool) (start : Time) (payload : List Byte) : List Byte :=
  let flag := fun (x : Bool) (v : Nat) => if x then v else 0
  if c.ver = 1 then
    let h := leBytes 4 s.ident.toNat ++ [BitVec.ofNat 8 (1 + flag b 16 + flag sync 64 + flag cs 128), BitVec.ofNat 8 k] ++ leBytes 2 payload.length
      ++ leBytes 2 s.chain.cycle
    let f := h ++ leBytes 2 (crc16 h) ++ payload
    f ++ leBytes 2 (crc16 f)
  else
    let gw := decide (s.get TB_CTRL.SOURCE = 2)
    let h := leBytes 4 s.ident.toNat ++ [BitVec.ofNat 8 (2 + flag b 16 + flag fb 32 + flag sync 64 + flag cs 128), BitVec.ofNat 8 k]
      ++ leBytes 2 payload.length ++ leBytes 4 s.chain.cycle ++ leBytes 4 c.id.toNat
      ++ leBytes 4 (s.chain.seenBefore % 256 + flag gw (2 ^ 8) + s.get TB_STAT.STATE * 2 ^ 9)
    let (sc, sd) := if gw then s.chain.step.getD (0, 0) else (0, 0)
    let y := if sync then leBytes 8 0 ++ timeBytes (s.cellAt start) ++ leBytes 4 sc ++ leBytes 8 (unsignedOf 64 sd) else []
    let f := h ++ leBytes 4 (crc32c h).toNat ++ y ++ payload
    f ++ leBytes 4 (crc32 f)

/-- A frame launched on both channels (R458, R461); one without content holds padding only (R463). A version 1 node that finds a foreign frame
on the lane while it transmits from COLDSTART contends (R476). -/
def State.launch (s : State) (c : Sched) (k : Nat) (q : ChainSlot) (start : Time) (cs : Bool) : State :=
  let s := s.advance (start + (q.start + c.launch) * nsUnits)
  let pad := fun (fb : Bool) => (padTo (if fb then q.payFb else q.payA) [], padTo (if fb then q.payFb else q.payB) [])
  let (fb, a, b) := match s.chain.built.find? (fun (x : Nat × (Bool × (List Byte × List Byte))) => x.1 = k) with
    | some (_, x) => x
    | none => let fb := s.is CH_STAT.FB_TX; (fb, pad fb)
  let sync := q.sync || cs
  let fa := s.chainBytes c k fb sync cs false start a
  let s := s.put CH_STAT.VIOL_RUN s.violRun
  let s := { s with chain := { s.chain with
    sent := some (fa, s.chainBytes c k fb sync cs true start b), built := s.chain.built.filter (fun (x : Nat × (Bool × (List Byte × List Byte))) => x.1 ≠ k), reported := false
    ownEnd := some (start + (q.start + q.len8 * 8) * nsUnits), txEnd := s.now + (fa.length + 3) * byteNs c.ver * nsUnits } }
  if cs ∧ c.ver = 1 ∧ s.now < s.chain.rxEnd then s.contention c else s

/-- CHAIN_FRAME_LAUNCH: a node sends only in ACTIVE, and in COLDSTART in the cycles after its claim (R458, R474, R475). -/
def execChainFrameLaunch (k : Fin 64) (s : State) : Host.Outcome State Fault Refusal :=
  match s.chain.sched, s.chain.start with
  | some c, some start =>
    match c.slot (k.val + 1) with
    | some q =>
      let st := s.get CH_STAT.STATE
      if q.owner = s.ownCell ∧ (st = 4 ∨ (st = 2 ∧ s.chain.claimed ∧ s.chain.cycle ≠ 0)) then .next (s.launch c (k.val + 1) q start (decide (st = 2)))
      else .next s
    | none => .next s
  | _, _ => .next s

/-- A list sorted. -/
def sortRat (l : List Rat) : List Rat := l.mergeSort (fun a b => decide (a ≤ b))

/-- The deviation of each sender: the mean of its channels (R467). -/
def State.senderDevs (s : State) : List (Nat × Rat) :=
  (((s.chain.devs.map (fun (q : (Nat × Bool) × Int) => q.1.1)).dedup)).map (fun j =>
    let l := (s.chain.devs.filter (fun (q : (Nat × Bool) × Int) => q.1.1 = j)).map (fun (q : (Nat × Bool) × Int) => (q.2 : Rat))
    (j, l.sum / l.length))

/-- The offset o of R467 with the senders whose deviation lies at the middle; a node in HOLDOVER takes the median (R470). -/
def State.chainOffset (s : State) : Rat × List Rat :=
  let ds := s.senderDevs
  let gw := if s.get TB_CTRL.SOURCE = 1 ∧ s.get TB_STAT.STATE = 3 then none else s.chain.gwCell
  match gw.bind (fun g => ds.find? (fun (q : Nat × Rat) => q.1 = g)) with
  | some (_, o) => (o, [o])
  | none =>
    let v := sortRat (ds.map (fun (q : Nat × Rat) => q.2) ++ [0])
    let n := v.length
    if n % 2 = 1 then let m := v.getD ((n - 1) / 2) 0; (m, [m])
    else let a := v.getD (n / 2 - 1) 0; let b := v.getD (n / 2) 0; ((a + b) / 2, [a, b])

/-- Units of TB_RATE in a rate of 1 (02 R58, R78). -/
def rateUnits : Rat := 2 ^ 38

/-- CHAIN_RATE_REQUEST: at the first period boundary from the start of the settle interval on the node requests its rate correction from the offset (R467); in HOLDOVER within 5 ppm of
the frozen part (R61, R470). The time gateway only reports the offset. -/
def execChainRateRequest (s : State) : Host.Outcome State Fault Refusal :=
  match s.chain.sched with
  | none => .next s
  | some c =>
    if s.get CH_STAT.STATE ≠ 3 ∧ s.get CH_STAT.STATE ≠ 4 then .next s
    else
      let s := match s.chain.start with
        | some own => s.advance (s.boundaryFrom (own + c.settle * nsUnits))
        | none => s
      let (o, mid) := s.chainOffset
      let ds := s.senderDevs
      let used := (ds.map (fun (q : Nat × Rat) => 2 ^ q.1)).sum
      let off := (ds.map (fun (q : Nat × Rat) => if mid.contains q.2 then 0 else 2 ^ q.1)).sum
      let s := { s with chain := { s.chain with offset := o } }.wr CH_OFFSET (wordOf (chainInt o))
      let s := s.wr CH_SYNC_MASK (BitVec.ofNat 32 (used + off * 2 ^ 8))
      if s.get TB_CTRL.SOURCE ≠ 1 then .next s
      else
        let ns := o / nsUnits
        match (if s.get TB_STAT.STATE = 3 then some (s.chain.frozen.getD s.chain.rho) else none) with
        | some r =>
          let x := r - ns / (2 * c.cycleNs)
          let lim : Rat := 5 / 1000000
          .next (s.requestRate (chainInt (max (r - lim) (min (r + lim) x) * rateUnits)))
        | none =>
          let r := s.chain.rho - ns / (16 * c.cycleNs)
          let s := { s with chain := { s.chain with rho := r } }
          let s := if s.get TB_STAT.STATE = 0 then s.wr TB_OFFSET (wordOf (chainInt o)) else s.offsetMeasured (chainInt o)
          .next (s.requestRate (chainInt ((r - ns / (2 * c.cycleNs)) * rateUnits)))

/-- LINK_DELAY_ANSWER: 2 us after the ingress of a request the node answers with t2 and its own egress t3, both corrected (R469; 02 R66). -/
def execLinkDelayAnswer (b : Bool) (s : State) : Host.Outcome State Fault Refusal :=
  match s.chain.request.find? (fun (q : Bool × Int) => q.1 = b) with
  | none => .next s
  | some (_, t2) =>
    let s := s.advance (t2 + (getBits (s.rd (TSP_INGRESS (lanePort b))) 0 24 : Nat) + 2000 * nsUnits).toNat
    let t3 := ceilTo nsUnits s.now + getBits (s.rd (TSP_EGRESS (lanePort b))) 0 24
    .next { s with chain := { s.chain with
      request := s.chain.request.filter (fun (q : Bool × Int) => q.1 ≠ b), answer := tset s.chain.answer b (t2, (t3 : Int)) } }

/-- CHAIN_LISTEN_TIMEOUT: LISTEN_NS with no valid frame, CS_EN = 1 and no back-off lead to COLDSTART (R473). -/
def execChainListenTimeout (s : State) : Host.Outcome State Fault Refusal :=
  match s.chain.sched with
  | none => .next s
  | some c =>
    if s.get CH_STAT.STATE = 1 ∧ s.is CH_CTRL.CS_EN ∧ s.chain.backoff = none then
      .next (({ s.advance (s.chain.listen + c.listen * nsUnits) with chain := { s.chain with claimed := false } }.bump CH_CS_CNT).chainState 2)
    else .next s

/-- CHAIN_COLDSTART_CLAIM: the claim goes out at the first instant at which cycle 0 starts on an own period boundary (R475). -/
def execChainColdstartClaim (s : State) : Host.Outcome State Fault Refusal :=
  match s.chain.sched with
  | none => .next s
  | some c =>
    match c.slots.zipIdx.find? (fun (p : ChainSlot × Nat) => p.1.owner == s.ownCell && p.1.cs) with
    | none => .next s
    | some (q, i) =>
      if s.get CH_STAT.STATE = 2 ∧ s.chain.claimed = false ∧ s.seq.running then
        let lead := (q.start + c.launch) * nsUnits
        let start := s.seq.base + (s.now + s.period - 1 - lead - s.seq.base) / s.period * s.period
        let s := { s with chain := { s.chain with start := some start, cycle := 0, claimed := true, gwAge := 0 } }.wr CH_CYCLE 0
        .next (s.toWindow.launch c (i + 1) q start true)
      else .next s

/-- CHAIN_BACKOFF_EXPIRY (R476). -/
def execChainBackoffExpiry (s : State) : Host.Outcome State Fault Refusal :=
  match s.chain.backoff with
  | some t => .next ({ s.advance t with chain := { s.chain with backoff := none } }.put CH_STAT.BACKOFF 0)
  | none => .next s

/-- CHAIN_SOURCE_LOST: no locked gateway frame for 8 consecutive cycles (R470): the cycle in which the last one came is not one of them. -/
def execChainSourceLost (s : State) : Host.Outcome State Fault Refusal := .next (if 8 < s.chain.gwAge then s.chainLost else s)

/-- CHAIN_LINK_CHANGE: the link of a lane goes down or up (R454, R465): lanes 0 and 8 are node lanes, lanes 1 to 7 and 9 to 15 ports of the Clasp
that the device hosts on their channel (R483); the lanes that its roles do not use have no link. -/
def execChainLinkChange (lane : Fin 16) (up : Bool) (s : State) : Host.Outcome State Fault Refusal :=
  let b := decide (8 ≤ lane.val)
  let p := lane.val % 8
  let x : Fin 2 := if b then 1 else 0
  .next (if p = 0 then (if s.hosts b then s else s.putB (if b then CH_STAT.LINK_B else CH_STAT.LINK_A) up)
    else if s.hosts b then s.putB ⟨.cp x .CP_STAT, p, 1⟩ up else s)

end Sys2Proof.Machine
end

