-- ==== Sys2Proof/Machine/Clasp.lean ====
section
/-! DEFINITION. The Clasp star (14 R454, R468, R469, R477 to R479, R483): Clasp A is 0 and Clasp B is 1. -/

namespace Sys2Proof.Machine

open Sys2Proof

/-- A Clasp beside its registers. -/
def State.clasp (s : State) (x : Fin 2) : Clasp := if x = 0 then s.claspA else s.claspB

/-- A Clasp given a state. -/
def State.setClasp (s : State) (x : Fin 2) (c : Clasp) : State := if x = 0 then { s with claspA := c } else { s with claspB := c }

/-- Whether the device hosts a Clasp and it is enabled (R454, R483). -/
def State.claspOn (s : State) (x : Fin 2) : Bool := s.is (if x = 0 then CH_ROLE.STAR_A else CH_ROLE.STAR_B) && s.is (CP_CTRL.EN x)

/-- Whether a port of a Clasp is enabled; port 0 is the own node (R454). -/
def State.portOn (s : State) (x : Fin 2) (p : Fin 8) : Bool := p = 0 || (s.get (CP_CTRL.PORT_EN x)).testBit (p.val - 1)

/-- The corrected ingress of a frame at a port, as a device instant in 1/256 ns; the own node has no lane (R66, R454). -/
def State.claspIngress (s : State) (x : Fin 2) (p : Fin 8) (t : Time) : Int :=
  (ceilTo nsUnits t : Nat) - (if p = 0 then 0 else getBits (s.rd (TSP_INGRESS (fin 20 (4 + 8 * x.val + p.val)))) 0 24 : Nat)

/-- The cell at a port (R483); port 0 is the own cell. -/
def State.claspCell (s : State) (x : Fin 2) (p : Fin 8) : Nat := if p = 0 then s.ownCell else getBits (s.rd (CP_MAP x)) (3 * p.val) 3

/-- A frame with the ingress delay and the residence time added to `CORR` and a new FCS (R468); a frame without sync section is
forwarded as it is. The second part says that the received FCS was wrong. -/
def correctFrame (bs : List Byte) (add : Int) : List Byte × Bool :=
  let n := bs.length - 4
  if (leAt bs 4 1).testBit 6 && decide (60 ≤ bs.length) then
    let f := bs.take 24 ++ leBytes 8 (unsignedOf 64 (signed 64 (leAt bs 24 8) + add)) ++ (bs.take n).drop 32
    (f ++ leBytes 4 (crc32 f), crc32 (bs.take n) != leAt bs n 4)
  else (bs, false)

/-- The time that a frame occupies the lane, in 1/256 ns: /S/, its bytes, /T/ and /R/ (R454, R461). -/
def laneTime (bs : List Byte) : Time := (bs.length + 3) * 8 * nsUnits

/-- A frame forwarded to every other enabled port (R468, R477, R478); `cut` ends it with /V/. -/
def State.forward (s : State) (x : Fin 2) (p : Fin 8) (bs : List Byte) (cut : Bool) : State :=
  let res := 152 * nsUnits + Config.residence s.fresh % (26 * nsUnits + 1)
  let s := s.useFresh
  let dly : Int := if p = 0 then 0 else ((s.rd (CP_LINKDLY x p)).toNat : Int)
  let (f, bad) := correctFrame bs (dly + res)
  let to_ := (finList 8).filter (fun q => q ≠ p && s.portOn x q)
  (s.setClasp x { s.clasp x with forwarded := some (f, cut || bad, to_) }).wr (.cp x .CP_RESID) (BitVec.ofNat 32 res)

/-- A violation report to a port, with a new count that raises source 413 or 414 (R478, R482). -/
def State.violation (s : State) (x : Fin 2) (p : Fin 8) (off : Int) (slot : Nat) : State :=
  (s.setClasp x { s.clasp x with report := some (p, off, slot) }).bump (CP_VIOL x p) |>.raise (413 + x.val)

/-- The own node sees the slot as blocked by the Clasp (R483), unless a valid frame has come in it. -/
def State.blockSlot (s : State) (x : Fin 2) (k : Nat) : State :=
  if tget s.chain.got (k, decide (x = 1)) 1 = 0 then s
  else { s with chain := { s.chain with got := tset s.chain.got (k, decide (x = 1)) 3 } }.slotStat k (decide (x = 1)) 3

/-- A frame at a port in WINDOW (R478, R479). -/
def State.windowFrame (s : State) (x : Fin 2) (p : Fin 8) (bs : List Byte) (t : Time) : State :=
  match s.chain.sched, s.chain.start with
  | some c, some start =>
    let rel := t - start
    match s.slotAt c t with
    | none => s.violation x p (t - start : Int) 0
    | some (q, i) =>
      let dly : Int := if p = 0 then 0 else ((s.rd (CP_LINKDLY x p)).toNat : Int)
      let off := s.claspIngress x p t - (start + ((q.start + c.launch) * nsUnits : Nat) + dly)
      if c.guard * nsUnits < off.natAbs then (s.violation x p off (i + 1)).blockSlot x (i + 1)
      else if s.claspCell x p ≠ q.owner then s
      else
        let masq := cellOf (BitVec.ofNat 32 (leAt bs 0 4)) ≠ q.owner
        let long := (q.start + q.len8 * 8) * nsUnits < rel + laneTime bs
        let s := if masq then s.bump (.cp x .CP_MASQ_CNT) else s
        s.forward x p bs (masq || long)
  | _, _ => s

/-- CLASP_FRAME_ARRIVAL: in ARBITRATE the first frame opens the tie window and a frame during another is blocked (R477); in WINDOW the
slot decides (R478, R479); an answer to a link-delay request gives a result (R469). -/
def execClaspFrameArrival (x : Fin 2) (p : Fin 8) (f : ClaspRx) (t : Nat) (s : State) : Host.Outcome State Fault Refusal :=
  let s := s.advance t
  if s.claspOn x = false ∨ s.portOn x p = false then .next s
  else
    let k := s.clasp x
    match f with
    | .answer t2 t3 =>
      match k.requests.find? (fun (q : Fin 8 × Int) => q.1 = p) with
      | none => .next s
      | some (_, t1) =>
        let d : Rat := ((s.claspIngress x p t - t1) - (t3 - t2) : Int) / 2
        let l := joinDelay (tget k.delays p []) d
        .next ((s.setClasp x { k with requests := k.requests.filter (fun (q : Fin 8 × Int) => q.1 ≠ p), delays := tset k.delays p l, result := some (p, d) }).wr (CP_LINKDLY x p) (delayMean l))
    | .frame bs =>
      if s.is (CP_STAT.MODE x) then .next (s.windowFrame x p bs t)
      else if t < k.busy then .next (s.bump (.cp x .CP_ARB_CNT))
      else
        match k.tie with
        | [] => .next (s.setClasp x { k with tie := [(p, t, bs)] })
        | (_, t0, _) :: _ =>
          if t ≤ t0 + 10 * nsUnits then .next (s.setClasp x { k with tie := k.tie ++ [(p, t, bs)] }) else .next (s.bump (.cp x .CP_ARB_CNT))

/-- The candidate with the lowest port. -/
def lowestPort (l : List (Fin 8 × (Time × List Byte))) : Option (Fin 8 × (Time × List Byte)) :=
  l.foldl (fun m q => match m with | none => some q | some r => if q.1 < r.1 then some q else some r) none

/-- CLASP_TIE_WINDOW: 10 ns after the first /S/ the lowest port's frame is forwarded and the others are blocked (R477). -/
def execClaspTieWindow (x : Fin 2) (s : State) : Host.Outcome State Fault Refusal :=
  let k := s.clasp x
  match lowestPort k.tie, k.tie with
  | some (p, t, bs), (_, t0, _) :: _ =>
    let s := s.advance (t0 + 10 * nsUnits)
    let s := s.setClasp x { k with tie := [], busy := t + laneTime bs }
    let s := (k.tie.drop 1).foldl (fun (s : State) _ => s.bump (.cp x .CP_ARB_CNT)) s
    .next (s.forward x p bs false)
  | _, _ => .next s

/-- CLASP_ARBITRATE_RETURN: the own node has returned to LISTEN and the listen timeout has passed without a valid frame (R477), also where it has
gone on to COLDSTART at that instant and has not claimed yet. -/
def execClaspArbitrateReturn (x : Fin 2) (s : State) : Host.Outcome State Fault Refusal :=
  match s.chain.sched with
  | some c =>
    if (s.get CH_STAT.STATE = 1 ∨ (s.get CH_STAT.STATE = 2 ∧ s.chain.claimed = false)) ∧ s.is (CP_STAT.MODE x) then
      .next ((s.advance (s.chain.listen + c.listen * nsUnits)).put (CP_STAT.MODE x) 0)
    else .next s
  | none => .next s

/-- CLASP_LINK_DELAY_REQUEST: at the start of the settle interval, channel A in even cycles and B in odd ones, a request leaves on every
enabled port (R469). -/
def execClaspLinkDelayRequest (x : Fin 2) (s : State) : Host.Outcome State Fault Refusal :=
  if s.claspOn x ∧ s.is (CP_STAT.MODE x) ∧ s.chain.cycle % 2 = x.val then
    let s := match s.chain.sched, s.chain.start with
      | some c, some start => s.advance (start + c.settle * nsUnits)
      | _, _ => s
    let ps := (finList 8).filter (fun p => p ≠ 0 && s.portOn x p)
    let t1 := fun (p : Fin 8) => ((ceilTo nsUnits s.now + getBits (s.rd (TSP_EGRESS (fin 20 (4 + 8 * x.val + p.val)))) 0 24 : Nat) : Int)
    .next (s.setClasp x { s.clasp x with requests := ps.map (fun p => (p, t1 p)) })
  else .next s

/-- The effect of a write of CP_MAP: applied only while EN = 0; the own cell is read-only (R483). -/
def State.claspMap (s : State) (x : Fin 2) (v : Word) : State :=
  if s.is (CP_CTRL.EN x) then s else s.put (CP_MAP.PORTS x) (getBits v 3 21)

end Sys2Proof.Machine
end

