-- ==== Sys2Proof/Machine/Ic.lean ====
section
/-! DEFINITION. The interrupt controller: filtering, delivery, claims, hold-off, redirection, software sources (11 R364 to R383). -/

namespace Sys2Proof.Machine

open Sys2Proof

/-- Whether an event has raised a source that no flag holds. -/
def State.pulsed (s : State) (n : Fin 512) : Bool := s.ic.pulses.contains n

/-- Whether the offset of the Chain exceeds the precision bound of the schedule (14 R482). -/
def State.offPrecision (s : State) : Bool := match s.chain.sched with
  | some c => decide ((c.prec * nsUnits : Nat) < |s.chain.offset|)
  | none => false

/-- The level a block presents for a source, where the state of the model shows it (R364; 02 R72, R87; 14 R482; 15 R497). -/
def State.srcLevel (s : State) (n : Fin 512) : Option Bool :=
  let k := n.val
  if k < 64 then some (s.is (TRIP_STAT.TRIPPED (fin 64 k)))
  else if k < 80 then some ((s.rd SI_EVT).getLsbD (k - 64))
  else if k < 144 then
    let p : Fin 64 := fin 64 (k - 80)
    some ([curLoop p, motLoop p].any (fun d => s.is (LD_STAT.SUP_WARN d) || s.is (LD_STAT.SUP_FAULT d)))
  else if k < 160 then some ((finList 8).any (fun i => s.is (LD_STAT.WCET_EXCEED (fin 256 (128 + 8 * (k - 144) + i.val)))))
  else if k < 224 then some (s.is (FB_STAT.ERR_FAULT (fin 64 (k - 160))))
  else if k < 288 then some ((s.fb (fin 64 (k - 224))).levels.any (fun (q : Time × Time) => decide (q.1 ≤ s.now ∧ s.now < q.2)))
  else if k < 368 then some (s.is (SDF_STAT.STUCK_A (fin 80 (k - 288))) || s.is (SDF_STAT.STUCK_B (fin 80 (k - 288))))
  else if k < 376 then some (s.is (TCAP_CTRL.IRQ (fin 8 (k - 368))) && !(tget s.caps (fin 8 (k - 368)) []).isEmpty)
  else if k < 384 then
    let o : Fin 8 := fin 8 (k - 376)
    some (s.is (TPO_STAT.LATE o) || s.is (TPO_STAT.STEPPED o) || s.is (TPO_STAT.BADCFG o) || s.is (TPO_STAT.DONE o))
  else if k = 408 then some (s.is PLN_STAT.KILN_REUSED || s.is PLN_STAT.KILN_STOP || s.is PLN_STAT.BUILD_LATE)
  else if k = 412 then some (s.is CH_STAT.WIN_VIOL || s.pulsed n)
  else if k = 413 ∨ k = 414 ∨ k = 421 ∨ k = 422 then some (s.pulsed n)
  else if k = 415 then some (s.offPrecision || s.pulsed n)
  else if 416 ≤ k ∧ k < 420 then
    let p : Fin 4 := fin 4 (k - 416)
    some (s.is (ETH_STAT.LINK_CHG p) || s.is (ETH_STAT.RX_OVF p) || s.is (ETH_STAT.TX_ERR p)
      || (s.is (ETH_CTRL.RX_IRQ p) && (s.entryWord (ETH_RX_BUF p) (getBits (s.rd (ETH_RX_TAIL p)) 0 10)).testBit 31))
  else if k = 420 then some (s.is TB_STAT.RATE_CLAMPED || s.is TB_STAT.RATE_REFUSED || s.is TB_STAT.STEP_REFUSED || s.is TB_STAT.GW_CONFLICT)
  else if k = 423 then some ([healthReg 0, healthReg 1].any (fun r => getBits (s.rd r) 1 7 != 0))
  else if k = 424 then some (s.is PC_STAT.NO_PLANE || s.is PC_STAT.UNRESOLVED)
  else if k = 411 then some (s.is STK_STAT.BUDGET || s.is STK_STAT.FAULT)
  else if k = 425 then some (s.is LK_STAT.FAULT_REC)
  else if k = 426 then some (s.is LK_STAT.DROPPED)
  else if k = 427 then some (s.is LK_STAT.MRAM_ERR)
  else if k = 428 then some (s.is LK_STAT.UNCLEAN)
  else if k = 429 then some (s.is ISL_STAT.SEL_REFUSED || s.is ISL_STAT.REF_LOST)
  else if 448 ≤ k then some ((s.rd (IC_SW (fin 2 ((k - 448) / 32)))).getLsbD ((k - 448) % 32))
  else none

/-- The sleeping target of a pending source with WAKE is woken: Hearth leaves its wait state, Stack releases the task (R376). -/
def State.icWake (s : State) (n : Fin 512) : State :=
  if s.is (icPend n) && s.is (IC_SRC_CFG.WAKE n) && s.icAsleep n then
    match s.get (IC_SRC_CFG.TKIND n) with
    | 1 => { s with ic := { s.ic with hearthWaits := false } }
    | 3 => s.wakeOf (fin 4096 (s.get (IC_SRC_CFG.TARGET n)))
    | _ => s
  else s

/-- Every pending source wakes its target, where that sleeps, and the redirect timers follow (R376, R377). -/
def State.icWakeAll (s : State) : State := (s.icPendings.foldl (fun s n => s.icWake n) s).icTimers

/-- Hearth has no work left: whether it goes into its wait state is a free value, and a pending source with WAKE wakes it (R370, R376). -/
def State.hearthRest (s : State) : State :=
  ({ s.useFresh with ic := { s.ic with hearthWaits := Config.hearthRests s.fresh } }).icWakeAll

/-- IC_FILTER_CHANGE: a source's level is first sampled at t, on the 4 ns grid; once it has stood for FLT + 1 samples the filtered level takes
it one fabric cycle later, and fewer samples leave that as it was. A rising edge makes an edge source pending and goes to Stack (R366, R367,
R379). A source whose level no flag of the device shows has that of the operand (R364; log 28). -/
def execIcFilterChange (n : Fin 512) (level : Bool) (t : Time) (samples : Nat) (s : State) : Host.Outcome State Fault Refusal :=
  let flt := s.get (IC_SRC_CFG.FLT n)
  if samples ≤ flt then .next (s.advance (t + samples * portUnits))
  else
  let new := ((s.advance t).srcLevel n).getD level
  let s := s.advance (t + flt * portUnits + nsUnits)
  let s := if new then { s with ic := { s.ic with pulses := s.ic.pulses.filter (· ≠ n) } } else s
  if (430 ≤ n.val ∧ n.val < 448) ∨ new = s.is (icLive n) then .next s
  else
    let s := s.putB (icLive n) new
    let s := if new && s.is (IC_SRC_CFG.EDGE n) then s.put (icPend n) 1 else s.icRefresh n
    .next (((if new then s.eventRelease n else s).icWake n).icTimers)

/-- A source delivered to a target: the claim, the source's bits, the group's hold-off (R368, R374). -/
def State.icClaim (s : State) (t : Fin 64) (n : Fin 512) (redirected : Bool) : State :=
  let s := s.wr (IC_CLAIM t) (BitVec.ofNat 32 (n.val + 2 ^ 9 + if redirected then 2 ^ 12 else 0))
  let s := ((s.put (IC_TGT.CLAIMED t) 1).put (icClaimed n) 1).put (icPend n) 0
  let g : Fin 16 := fin 16 (s.get (IC_SRC_CFG.GROUP n))
  let h := s.get (IC_GRP_HOLD.HOLD g)
  (if h = 0 then s
  else { s.put (IC_GRP_HOLD.RUNNING g) 1 with ic := { s.ic with holds := tset s.ic.holds g (s.now + h * 1000 * nsUnits) } }).icTimers

/-- The MSI-X message write of vector v: its address and data from the table (R380; 16 R507). -/
def State.msiSend (s : State) (v : Nat) : State :=
  let w := fun (k : Nat) => (s.rd (HM_MSIX_TABLE (fin 128 (4 * v + k)))).toNat
  { s with ic := { s.ic with msi := s.ic.msi ++ [(w 0 + w 1 * 2 ^ 32, BitVec.ofNat 32 (w 2))] } }

/-- IC_DELIVERY: a target that is ready and holds no claim gets the waiting source with the lowest number; the delivery takes 2 fabric
cycles, and goes to the tile of both planes (R368, R370, R378). -/
def execIcDelivery (t : Fin 64) (s : State) : Host.Outcome State Fault Refusal :=
  if s.is (IC_CLAIM.VALID t) then .next s
  else match (finList 512).find? (fun n => s.icTarget n == some t && s.icWaits n && s.icReady n) with
    | none => .next s
    | some n =>
      let s := (s.advance (s.now + 2 * nsUnits)).icClaim t n false
      .next (if t.val < 16 then
        s.runPlanes.foldl (fun s pl => let i := tileOf pl (fin 16 t.val); s.setTile i { s.tile i with req := some n }) s
      else if 32 ≤ t.val then s.msiSend (t.val - 32)
      else s)

/-- IC_CLAIM_READ: the first read after a delivery by Hearth or the host takes up the claim (R369). -/
def execIcClaimRead (t : Fin 64) (s : State) : Host.Outcome State Fault Refusal :=
  let w := fun (s : State) => s.answer [s.rd (IC_CLAIM t)]
  if (t.val = 16 ∨ 32 ≤ t.val) ∧ s.is (IC_CLAIM.VALID t) ∧ s.is (IC_CLAIM.TAKEN t) = false then .next (w (s.icTakeUp t)) else .next (w s)

/-- A tile's completion noted for the comparison of the planes (R378). -/
def State.noteWrite (s : State) (who : Who) (v : Word) : State := match who with | .tile i => s.noteIc i true (getBits v 0 9) | .hearth | .host | .windowT => s

/-- A write of IC_COMPLETE; a tile's acts for the active plane alone (R371, R378). -/
def State.icComplete (s : State) (who : Who) (v : Word) : State :=
  let t : Fin 64 := match who with | .tile i => fin 64 (tileNo i).val | .hearth => 16 | .host | .windowT => fin 64 (32 + getBits v 16 5)
  let acts := match who with | .tile i => planeOf i == s.activePlane | .hearth => true | .host => true | .windowT => false
  if !acts then s
  else if s.is (IC_CLAIM.VALID t) ∧ s.get (IC_CLAIM.SRC t) = getBits v 0 9 then
    let s := (s.icFree t).icWakeAll
    if t = 16 then s.hearthRest else s
  else s.flag IC_STAT.COMPL_BAD

/-- IC_COMPLETE, of a tile noted for the comparison of the planes (R371, R378). -/
def execIcComplete (who : Who) (v : Word) (s : State) : Host.Outcome State Fault Refusal :=
  .next ((s.noteWrite who v).icComplete who v)

/-- IC_HOLDOFF_EXPIRY: a group's hold-off timer runs out (R374). -/
def execIcHoldoffExpiry (g : Fin 16) (s : State) : Host.Outcome State Fault Refusal :=
  if s.is (IC_GRP_HOLD.RUNNING g) then
    let s := s.advance (tget s.ic.holds g 0)
    .next ({ s.put (IC_GRP_HOLD.RUNNING g) 0 with ic := { s.ic with holds := s.ic.holds.filter (fun (q : Fin 16 × Time) => q.1 != g) } }).icTimers
  else .next s

/-- When the redirect timer of a source that runs reaches REDIR of its target; never with REDIR 0 (R377). -/
def State.redirectAt (s : State) (n : Fin 512) : Option (Fin 64 × Time) :=
  match s.redirects n with
  | none => none
  | some t =>
    let us := s.get (IC_TGT.REDIR t)
    let q := s.icTimer n
    if us = 0 then none else some (t, q.2.getD s.now + (us * 1000 * nsUnits - q.1))

/-- IC_REDIRECT: the timer of the source reaches REDIR; the occurrence is delivered to Hearth, once that is free and up (R377). -/
def execIcRedirect (n : Fin 512) (s : State) : Host.Outcome State Fault Refusal :=
  match s.redirectAt n with
  | none => .next s
  | some (t, due) =>
    let s := s.advance due
    if s.is (IC_CLAIM.VALID 16) ∨ s.is HM_STAT.HEARTH_UP = false then .next s
    else .next (((s.icClaim 16 n true).bump IC_REDIRECTS).post 0x0150 1 s.cellAddr (leBytes 2 n.val ++ [BitVec.ofNat 8 t.val]))

/-- Whether a writer's output acts: of the tiles only those of the active plane (15 R485). -/
def State.acts (s : State) (who : Who) : Bool := match who with | .tile i => planeOf i == s.activePlane | .hearth => true | .host => true | .windowT => false

/-- IC_SW_SET (R365). -/
def execIcSwSet (who : Who) (k : Fin 2) (v : Word) (s : State) : Host.Outcome State Fault Refusal :=
  .next (if s.acts who then s.wr (IC_SW k) (s.rd (IC_SW k) ||| v) else s)

/-- IC_SW_CLR (R365): a bit that a set in the same cycle has set stays set. -/
def execIcSwClr (who : Who) (k : Fin 2) (v same : Word) (s : State) : Host.Outcome State Fault Refusal :=
  .next (if s.acts who then s.wr (IC_SW k) (s.rd (IC_SW k) &&& ~~~(v &&& ~~~same)) else s)

/-- Whether a configuration asks to wake a task that cannot be released (R376). -/
def State.wakeRefused (s : State) (v : Word) : Bool :=
  let m : Fin 4096 := fin 4096 (getBits v 16 12)
  let r := s.taskRec m
  v.getLsbD 0 && v.getLsbD 28 && getBits v 14 2 == 3 && !(decide (512 ≤ m.val) && (r.cls == 1 || r.cls == 2))

/-- A write of IC_SRC_CFG: EDGE, GROUP and FLT apply only while EN was 0, the other fields always; EN with WAKE is refused for a task
that is neither sporadic nor one-shot (R375, R376, R383). -/
def State.icSrcCfg (s : State) (n : Fin 512) (v : Word) : State :=
  let old := s.rd (IC_SRC_CFG n)
  let v := v &&& 0x1FFFFFFF
  let locked : Word := 0x3FFE
  if s.wakeRefused v then s.flag IC_STAT.CFG_REFUSED
  else
    let keep := old.getLsbD 0 && ((old ^^^ v) &&& locked != 0)
    let new := if keep then (v &&& ~~~locked) ||| (old &&& locked) else v
    let s := if keep then s.flag IC_STAT.CFG_REFUSED else s
    let s := s.wr (IC_SRC_CFG n) new
    let s := if new.getLsbD 1 ∧ old.getLsbD 1 = false then s.put (icPend n) 0 else s
    ((s.icRefresh n).icWake n).icTimers

/-- IC_SRC_CFG_WRITE. -/
def execIcSrcCfgWrite (n : Fin 512) (v : Word) (s : State) : Host.Outcome State Fault Refusal := .next (s.icSrcCfg n v)

/-- The first take-up or completion of a tile position that a plane's tile made and the other's did not, and that has not been reported. -/
def State.icAlone (s : State) (pl : Fin 2) (t : Fin 16) : Option IcMark := (tget s.ic.marks (pl, t) []).find? (fun (m : IcMark) => !m.told)

/-- The same one reported: it stays in the list until the other plane's tile has done it too, or it leaves the list. -/
def State.icTell (s : State) (pl : Fin 2) (t : Fin 16) (stays : Bool) : State :=
  let l := tget s.ic.marks (pl, t) []
  let rest := l.dropWhile (fun (m : IcMark) => m.told)
  let one := if stays then (rest.take 1).map (fun (m : IcMark) => { m with told := true }) else []
  { s with ic := { s.ic with marks := tset s.ic.marks (pl, t) (l.takeWhile (fun (m : IcMark) => m.told) ++ one ++ rest.drop 1) } }

/-- IC_PLANE_FINDING: the tiles of the two planes at a position took up or completed different things, or one did within 64 fabric cycles
what the other did not; where neither is the case the event does nothing (R378). -/
def execIcPlaneFinding (t : Fin 16) (s : State) : Host.Outcome State Fault Refusal :=
  match s.icAlone 0 t, s.icAlone 1 t with
  | none, none => .next s
  | some _, some _ => .next (((s.icTell 0 t false).icTell 1 t false).finding 7 t.val)
  | some m, none => .next (((s.advance (m.time + 64 * nsUnits)).icTell 0 t true).finding 7 t.val)
  | none, some m => .next (((s.advance (m.time + 64 * nsUnits)).icTell 1 t true).finding 7 t.val)

end Sys2Proof.Machine
end

