-- ==== Sys2Proof/Machine/Mail.lean ====
section
/-! DEFINITION. The mailbox hardware: slots, doorbells, the event stream, a restart of Hearth and a reset of the PCIe function (16 R506 to
R520). -/

namespace Sys2Proof.Machine

open Sys2Proof

/-- A mailbox slot. -/
def State.slot (s : State) (k : Fin 16) : MbSlot := tget s.mb.slots k {}

/-- A change of the mailbox's inner state. -/
def State.updMail (s : State) (f : Mail → Mail) : State := { s with mb := f s.mb }

/-- A mailbox slot replaced. -/
def State.setSlot (s : State) (k : Fin 16) (x : MbSlot) : State := s.updMail (fun m => { m with slots := tset m.slots k x })

/-- The bit of IC_SW that a slot drives: software source 48 + s (R516). -/
def slotSource (k : Fin 16) : Field := ⟨IC_SW 1, 16 + k.val, 1⟩

/-- MB_STAT (R511). -/
def MbSlot.stat (x : MbSlot) : Word := BitVec.ofNat 32 (if x.state = 0 then 0 else x.state * 2 ^ 28 + x.tag % 2 ^ 12 * 2 ^ 16 + x.code)

/-- A field of the command header (R518). -/
def MbSlot.hdr (x : MbSlot) (o n : Nat) : Nat := ofLeBytes (memReadN x.cmd (0x10 + o) n)
/-- Bytes of the command payload (R511). -/
def MbSlot.payload (x : MbSlot) (o n : Nat) : List Byte := memReadN x.cmd (0x30 + o) n
/-- A little-endian field of the command payload. -/
def MbSlot.arg (x : MbSlot) (o n : Nat) : Nat := ofLeBytes (x.payload o n)
/-- A word of the command payload. -/
def MbSlot.word (x : MbSlot) (o : Nat) : Word := BitVec.ofNat 32 (x.arg o 4)

/-- A byte of a slot as the host reads it; the result shows from DONE (R511, R513). -/
def MbSlot.byte (x : MbSlot) (o : Nat) : Byte :=
  let shown := x.state == 3 || x.state == 4
  if o < 4 then BitVec.ofNat 8 (x.stat.toNat / 2 ^ (8 * o))
  else if o < 8 then (if shown then BitVec.ofNat 8 (x.res.length / 2 ^ (8 * (o - 4))) else 0)
  else if o < 0x10 then 0
  else if o < 0x800 then memRead x.cmd o
  else if shown then x.res.getD (o - 0x800) 0 else 0

/-- Slot 15 belongs to HCI-1 while the quad-SPI port is enabled (R506). -/
def State.hciOwns (s : State) (k : Fin 16) : Bool := decide (k = 15) && s.is HM_STAT.QSPI_EN

/-- A write to the command area: taken while the slot is EMPTY, else ignored with WRITE_REFUSED (R511, R514). -/
def State.slotWrite (s : State) (k : Fin 16) (o : Nat) (bs : List Byte) : State :=
  let x := s.slot k
  let cells := bs.zipIdx.filter (fun (q : Byte × Nat) => decide (0x10 ≤ o + q.2 ∧ o + q.2 < 0x800))
  if cells.isEmpty then s
  else if x.state ≠ 0 then s.flag HM_DB_STAT.WRITE_REFUSED
  else s.setSlot k { x with cmd := cells.foldl (fun m (q : Byte × Nat) => memWrite m (o + q.2) q.1) x.cmd }

/-- MB_COMMAND_WRITE. -/
def execMbCommandWrite (k : Fin 16) (o : Nat) (bytes : List Byte) (s : State) : Host.Outcome State Fault Refusal := .next (s.slotWrite k o bytes)

/-- A slot posted through a host port: refused when it is not EMPTY, or owned by the other port (R512, R514). -/
def State.postSlot (s : State) (k : Fin 16) (qspi : Bool) : State :=
  let x := s.slot k
  if x.state ≠ 0 ∨ s.hciOwns k ≠ qspi then s.flag HM_DB_STAT.POST_REFUSED
  else (s.setSlot k { x with state := 1, tag := if qspi then 0 else x.hdr 2 2 % 2 ^ 12, code := 0, qspi := qspi, out := none, drop := false }).updMail
    (fun m => { m with posted := m.posted ++ [k] })

/-- MB_POST: a write of HM_DB_POST posts the slots named, lowest first (R514, R515). -/
def execMbPost (v : BitVec 16) (s : State) : Host.Outcome State Fault Refusal :=
  .next (((finList 16).filter (fun k => v.getLsbD k.val)).foldl (fun s k => s.postSlot k false) s)

/-- A slot emptied; the command area keeps what the host wrote, and its source is cleared (R511, R512, R516). -/
def State.emptySlot (s : State) (k : Fin 16) : State := (s.setSlot k { cmd := (s.slot k).cmd }).put (slotSource k) 0

/-- A slot freed: a finished one becomes EMPTY, a POSTED or BUSY one is kept with FREE_REFUSED (R512). -/
def State.freeSlot (s : State) (k : Fin 16) (qspi : Bool) : State :=
  let x := s.slot k
  if s.hciOwns k ≠ qspi ∨ x.state = 1 ∨ x.state = 2 then s.flag HM_DB_STAT.FREE_REFUSED
  else if x.state = 0 then s
  else s.emptySlot k

/-- MB_FREE: a write of HM_DB_FREE. -/
def execMbFree (v : BitVec 16) (s : State) : Host.Outcome State Fault Refusal :=
  .next (((finList 16).filter (fun k => v.getLsbD k.val)).foldl (fun s k => s.freeSlot k false) s)

/-- A slot leaves BUSY or POSTED with a state and a code; a dropped one becomes EMPTY (R508); NOTIFY sets its source (R516). -/
def State.endSlot (s : State) (k : Fin 16) (st code : Nat) (res : List Byte) : State :=
  let x := s.slot k
  let s := s.updMail (fun m => { m with taken := m.taken.filter (· ≠ k), posted := m.posted.filter (· ≠ k) })
  if x.drop then s.emptySlot k
  else
    let s := s.setSlot k { x with state := st, code := code, res := res, out := none, unread := true }
    if !x.qspi && x.hdr 11 1 % 2 = 1 then s.put (slotSource k) 1 else s

/-- MB_STAT_READ: the read returns MB_STAT, the first in DONE moves the slot to DONE-READ, and it clears the slot's source (R513, R516). -/
def State.statRead (s : State) (k : Fin 16) : State :=
  let x := s.slot k
  let s := s.answer [x.stat]
  if x.state = 3 then (s.setSlot k { x with state := 4, unread := false }).put (slotSource k) 0
  else if x.state = 15 ∧ x.unread then (s.setSlot k { x with unread := false }).put (slotSource k) 0
  else s

/-- MB_STAT_READ. -/
def execMbStatRead (k : Fin 16) (s : State) : Host.Outcome State Fault Refusal := .next (s.statRead k)

/-- HEARTH_RESTART: every slot in BUSY enters ERROR with 0x000F, POSTED ones wait; HEARTH_UP reads 0 and RESTARTS counts (R512, R517). -/
def State.hearthRestart (s : State) : State :=
  let s := s.mb.taken.foldl (fun s k => s.endSlot k 15 0x000F []) s
  ((s.updMail (fun m => { m with restarting := true, staging := none })).put HM_STAT.HEARTH_UP 0).bumpField HM_STAT.RESTARTS

/-- HEARTH_UP: Zynura has restarted (R517), the state of the time service follows again (02 R59), and Hearth may go into its wait state (11 R370). -/
def execHearthUp (s : State) : Host.Outcome State Fault Refusal :=
  .next (if s.mb.restarting ∧ s.boot.recovery = false ∧ s.boot.stopped = false then
    ((s.updMail (fun m => { m with restarting := false })).put HM_STAT.HEARTH_UP 1).timeResume.hearthRest else s)

/-- A destructive read of the event stream: the oldest entry, or zeros when it is empty (R520). -/
def State.eventRead (s : State) : State :=
  let e := s.evts.headD []
  let s := ({ s with evts := s.evts.drop 1 } : State).showEvts
  let s := (finList 4).foldl (fun s k => s.wr (HM_EVT_W k) (e.getD (k.val + 1) 0)) s
  (s.updMail (fun m => { m with evt0 := e.getD 0 0 })).answer [e.getD 0 0]

/-- HM_EVT_HEAD_READ. -/
def execHmEvtHeadRead (s : State) : Host.Outcome State Fault Refusal := .next s.eventRead

/-- WINDOW_T_WRITE: discarded, with T_WRITE set (R510). -/
def execWindowTWrite (_o : Nat) (_v : Word) (s : State) : Host.Outcome State Fault Refusal := .next (s.flag HM_DB_STAT.T_WRITE)

/-- PCIE_RESET: the MSI-X table and configuration space return to their reset values; the slots posted through PCIe run to completion
and are then EMPTY (R508). -/
def execPcieReset (up : Bool) (s : State) : Host.Outcome State Fault Refusal :=
  let s := (finList 128).foldl (fun s k => s.wr (HM_MSIX_TABLE k) (HM_MSIX_TABLE k).resetWord) s
  let s := { s with ic := { s.ic with linkUp := up } }
  let s := ((s.wr HM_PCI_CMD 0).wr HM_PCI_MSIX 0).icTimers
  .next ((finList 16).foldl (fun s k =>
    let x := s.slot k
    if x.qspi then s
    else if x.state = 1 ∨ x.state = 2 then s.setSlot k { x with drop := true }
    else if x.state = 0 then s
    else s.emptySlot k) s)

/-- While the port is enabled HQ_IRQ_N is driven low while slot 15 waits for its first status read, or the event stream holds an entry (R529). -/
def State.hqIrq (s : State) : Bool := s.is HM_STAT.QSPI_EN && ((s.slot 15).unread || !s.evts.isEmpty)

/-- The state of eight slots, 4 bits each (R509). -/
def State.slotStates (s : State) (h : Fin 2) : Word :=
  BitVec.ofNat 32 (((finList 8).map (fun i => (s.slot (fin 16 (8 * h.val + i.val))).state * 2 ^ (4 * i.val))).sum)

end Sys2Proof.Machine
end

