-- ==== Sys2Proof/Machine/Pins.lean ====
section
/-! DEFINITION. Pin groups and their release (19 R601, R605, R606). -/

namespace Sys2Proof.Machine

open Sys2Proof

/-- The conditions of a release bit (R601): while NO_SETTINGS every bit is refused. -/
def State.canRelease (s : State) (k : Fin 5) : Bool :=
  let lock := s.is ISL_STAT.PLL_LOCK
  !s.is OTP_STAT.NO_SETTINGS && lock && (decide (k.val < 3) || (s.get SI_STAT.ISTATE != 0 && (k.val == 3 || (!s.is PC_STAT.NO_PLANE && (s.get PC_STAT.STATE_A == 5 || s.get PC_STAT.STATE_B == 5)))))

/-- A release bit set, or refused (R601). -/
def State.releasePins (s : State) (k : Fin 5) : State :=
  if s.canRelease k then s.put ⟨PIN_REL, k.val, 1⟩ 1 else s.flag PIN_STAT.REL_REFUSED

/-- PIN_REL_TIME. -/
def execPinRelTime (s : State) : Host.Outcome State Fault Refusal := .next (s.releasePins 0)
/-- PIN_REL_SDCLK. -/
def execPinRelSdclk (s : State) : Host.Outcome State Fault Refusal := .next (s.releasePins 1)
/-- PIN_REL_FBO. -/
def execPinRelFbo (s : State) : Host.Outcome State Fault Refusal := .next (s.releasePins 2)
/-- PIN_REL_STEP. -/
def execPinRelStep (s : State) : Host.Outcome State Fault Refusal := .next (s.releasePins 3)
/-- PIN_REL_GATE. -/
def execPinRelGate (s : State) : Host.Outcome State Fault Refusal := .next (s.releasePins 4)

/-- PIN_STAT.DRIVEN: the groups of which a block has armed a ball (R606): pulse outputs, modulator clocks, pass-through outputs (by
OUT_EN, in serial modes by EN), step outputs, gates. -/
def State.drivenGroups (s : State) : Nat :=
  let b := fun (k : Nat) (x : Bool) => if x then 2 ^ k else 0
  b 0 ((finList 8).any (fun n => s.is (TPO_CTRL.ARM n))) + b 1 (s.get SDC_CTRL.ARM != 0) +
    b 2 ((finList 64).any (fun n => s.is (FB_CTRL.OUT_EN n) || (s.is (FB_CTRL.EN n) && decide (3 ≤ s.get (FB_CFG.MODE n))))) +
    b 3 ((finList 16).any (fun i => s.is (STP_CTRL.PIN_ARM i))) + b 4 s.anyArmed

end Sys2Proof.Machine
end

