-- ==== Sys2Proof/Machine/Plane.lean ====
section
/-! DEFINITION. Plane control (15): states, the comparison, tests, the transfer, and the commands of PC_CTRL. -/

namespace Sys2Proof.Machine

open Sys2Proof

/-- The state field of a plane, and its state (R497): 0 DOWN, 1 TEST, 2 TRANSFER, 3 SHADOW, 4 STANDBY, 5 ACTIVE. -/
def planeField (pl : Fin 2) : Field := if pl = 0 then PC_STAT.STATE_A else PC_STAT.STATE_B
/-- See `planeField`. -/
def State.planeState (s : State) (pl : Fin 2) : Nat := s.get (planeField pl)

/-- A change of plane control's inner state. -/
def State.updPc (s : State) (f : PlaneCtl → PlaneCtl) : State := { s with pc := f s.pc }

/-- The bit of a fault in the health report (R505). -/
def planeFaultBit : PlaneFault → Nat
  | .mbist => 1 | .lbist => 2 | .eccUe => 3 | .tileFault => 4 | .kiln => 5 | .xfer => 6

/-- OK of the health report: SHADOW, STANDBY or ACTIVE with no fault bit set (R505). -/
def State.showOk (s : State) (pl : Fin 2) : State :=
  let w := s.rd (healthReg pl)
  s.wr (healthReg pl) (putBits w 0 1 (if 3 ≤ s.planeState pl ∧ s.planeState pl ≤ 5 ∧ getBits w 1 6 = 0 then 1 else 0))

/-- A plane given a state (R497); a change raises source 421 (R505). -/
def State.setPlane (s : State) (pl : Fin 2) (st : Nat) : State :=
  (if s.planeState pl = st then s else (s.put (planeField pl) st).raise 421).showOk pl

/-- A fault found: its bit, and the tile of a tile-related fault (R492, R505). -/
def State.setHealth (s : State) (pl : Fin 2) (k : PlaneFault) (tile : Option (Fin 16)) : State :=
  let w := putBits (s.rd (healthReg pl)) (planeFaultBit k) 1 1
  let w := match tile with | some t => putBits w 12 4 t.val | none => w
  (s.wr (healthReg pl) w).showOk pl

/-- The tiles of a plane stop: they run nothing and post nothing more (R493). -/
def State.stopTiles (s : State) (pl : Fin 2) : State :=
  (finList 16).foldl (fun s t =>
    let i := tileOf pl t
    s.setTile i { s.tile i with task := none, br := none, rep := none, wait := none, ending := none, stores := [], req := none, ends := [], slot := none, pend := [] }) s

/-- A plane goes to DOWN; a planned handover to it is cancelled (R496, R497). -/
def State.planeDown (s : State) (pl : Fin 2) : State :=
  ((s.stopTiles pl).setPlane pl 0).icUnmark.updPc (fun c => { c with pend := c.pend.filter (fun (q : Fin 2 × Nat) => decide (q.1 ≠ pl)) })

/-- A plane enters TEST: its fault bits are cleared (R497, R505). -/
def State.planeTest (s : State) (pl : Fin 2) : State :=
  (s.wr (healthReg pl) (putBits (s.rd (healthReg pl)) 1 6 0)).setPlane pl 1

/-- The logic BIST intervals of a plane's tiles start anew (R491). -/
def State.lbistStart (s : State) (pl : Fin 2) : State :=
  s.updPc (fun c => { c with lbist := (finList 16).foldl (fun l t => tset l (pl, t) (0, s.now)) c.lbist })

/-- No plane is left to take control (R495): the armed ports are tripped as the decision reaches them, 11 ns later (R493 step 3). -/
def State.noPlane (s : State) : State :=
  let s := (s.put PC_STAT.NO_PLANE 1).advance (s.now + 11 * nsUnits)
  let s := ((finList 64).filter s.armed).foldl (fun s n => s.forceTrip n) s
  s.post 0x0162 2 s.cellAddr []

/-- The end of the TEST after reset, once no plane is still in it (R497): Plane A active and Plane B in shadow, or the one that
passed active; no transfer. When neither has passed no plane is left to take control (R495; log 58). -/
def State.bootPlanes (s : State) : State :=
  let waits := fun (pl : Fin 2) => s.planeState pl = 1 ∧ pl ∉ s.pc.passed
  if s.pc.boot = false ∨ waits 0 ∨ waits 1 then s
  else
    let ps := [(0 : Fin 2), 1].filter (fun pl => decide (s.planeState pl = 1))
    let s := s.updPc (fun c => { c with boot := false, passed := [], since := s.seq.next })
    match ps with
    | [] => s.noPlane
    | [p] => ((s.setPlane p 5).lbistStart p).put PC_STAT.ACTIVE p.val
    | p :: q :: _ => (((((s.setPlane p 5).lbistStart p).put PC_STAT.ACTIVE p.val).setPlane q 3).lbistStart q).wr PC_CONF_CNT 0

/-- PLANE_TEST_DONE: a plane's TEST passes or fails (R497). A returning plane that passed enters TRANSFER and its sweep starts
(R500). -/
def execPlaneTestDone (pl : Fin 2) (k : Option PlaneFault) (tile : Option (Fin 16)) (s : State) : Host.Outcome State Fault Refusal :=
  if s.planeState pl ≠ 1 then .next s
  else
    match k with
    | some f => .next (((s.setHealth pl f tile).planeDown pl).bootPlanes)
    | none =>
      if s.pc.boot then .next ((s.updPc (fun c => { c with passed := pl :: c.passed })).bootPlanes)
      else .next ((s.setPlane pl 2).updPc (fun c => { c with sweepAt := tset c.sweepAt pl s.now, swept := c.swept.filter (fun q => decide (q ≠ pl)) }))

/-- PC_RETURN: a plane in DOWN enters TEST; in any other state the command is refused (R497). -/
def execPcReturn (pl : Fin 2) (s : State) : Host.Outcome State Fault Refusal :=
  .next (if s.planeState pl = 0 then s.planeTest pl else s.flag PC_STAT.CMD_REFUSED)

/-- PC_HANDOVER: a planned handover to the plane in STANDBY is requested, or refused (R497, R498). -/
def execPcHandover (s : State) : Host.Outcome State Fault Refusal :=
  let o := 1 - s.activePlane
  .next (if s.planeState s.activePlane = 5 ∧ s.planeState o = 4 then s.updPc (fun c => { c with pend := some (o, 2) })
  else s.flag PC_STAT.CMD_REFUSED)

/-- PC_TAKE_DOWN: a plane in STANDBY, SHADOW or TRANSFER goes to DOWN; it is refused for the active plane (R497). -/
def execPcTakeDown (pl : Fin 2) (s : State) : Host.Outcome State Fault Refusal :=
  .next (if 2 ≤ s.planeState pl ∧ s.planeState pl ≤ 4 then s.planeDown pl else s.flag PC_STAT.CMD_REFUSED)

/-- An extended test starts, unless one runs (R502). -/
def State.extTest (s : State) : State := s.put PC_STAT.EXT_RUN 1

/-- PC_EXT_TEST. -/
def execPcExtTest (s : State) : Host.Outcome State Fault Refusal := .next s.extTest

/-- The first difference of a period: findings, posts to the loop table, signatures of the tiles and Kilns (R487, R503). -/
def PeriodCmp.diff (c : PeriodCmp) : Option (Nat × Nat) :=
  let lone := c.posts.find? (fun (q : Fin 2 × List Nat) => decide (c.posts.count (1 - q.1, q.2) ≠ c.posts.count q))
  let sig := fun (pl : Fin 2) (i : Fin 17) => tget c.sigs (pl, i) (BitVec.allOnes 32)
  match c.findings, lone, (finList 17).find? (fun i => decide (sig 0 i ≠ sig 1 i)) with
  | f :: _, _, _ => some f
  | [], some q, _ => some (2, q.2.headD 0)
  | [], none, some i => some (if i.val = 16 then (4, 0) else (3, i.val))
  | [], none, none => none

/-- PLANE_COMPARISON (R488, R489, R497, R502): at W + 24 ns the comparison of the period that ended completes; mismatched periods are
counted by both comparators, the first after a matched one is recorded, and the third in a row starts an extended test. While the planes
hold different images no values are judged, only whether the posts were there (18 R574). -/
def execPlaneComparison (s : State) : Host.Outcome State Fault Refusal :=
  match s.pc.prev with
  | none => .next s
  | some c =>
    let k := s.periodNo - 1
    let s := (s.advance (s.boundary s.periodNo + 24 * nsUnits)).updPc (fun c => { c with prev := none })
    if s.runPlanes.length ≠ 2 ∨ k < s.pc.since then .next s
    else
      let shadow := s.planeState 0 = 3 ∨ s.planeState 1 = 3
      match (if s.sameImages then c.diff else c.findings.find? (fun (f : Nat × Nat) => decide (f.1 = 1))) with
      | none =>
        let s := (s.put PC_STAT.MISM_RUN 0).updPc (fun c => { c with lastOk := true })
        .next (if shadow then s.wr PC_CONF_CNT (BitVec.ofNat 32 (satAdd 24 (s.rd PC_CONF_CNT).toNat 1)) else s)
      | some (kind, place) =>
        let s := (s.bump PC_MISM_A).bump PC_MISM_B
        let s := if s.pc.lastOk then
            let s := ((s.put PC_MISM_WHERE.KIND kind).put PC_MISM_WHERE.WHERE place).put PC_MISM_WHERE.PERIOD k
            (s.raise 422).post 0x0160 1 s.cellAddr (leBytes 4 (s.rd PC_MISM_WHERE).toNat)
          else s
        let s := (s.bumpField PC_STAT.MISM_RUN).updPc (fun c => { c with lastOk := false })
        let s := if shadow then (s.wr PC_CONF_CNT 0).updPc (fun c => { c with pend := c.pend.filter (fun (q : Fin 2 × Nat) => decide (q.2 ≠ 1)) }) else s
        .next (if 3 ≤ s.get PC_STAT.MISM_RUN ∧ s.is PC_STAT.EXT_RUN = false then s.extTest else s)

/-- PLANE_CONFIRMED: a plane in SHADOW has been matched for PC_CONFIRM periods; Plane A takes control back by planned handover, any
other becomes STANDBY (R497). During an update of its image Plane B too takes control, first as the updated plane, or at the end with the
roles exchanged (18 R574). -/
def execPlaneConfirmed (s : State) : Host.Outcome State Fault Refusal :=
  if (s.rd PC_CONF_CNT).toNat < (s.rd PC_CONFIRM).toNat then .next s
  else if s.planeState 0 = 3 then
    .next (if s.planeState 1 = 5 then s.updPc (fun c => { c with pend := some (0, 1) }) else s.setPlane 0 4)
  else if s.planeState 1 = 3 then
    let s := s.setPlane 1 4
    let u := s.boot.upd
    .next (if s.updatesPlanes ∧ u.stage = 1 ∧ u.plane = 1 then s.updPc (fun c => { c with pend := some (1, 2) })
      else if s.updatesPlanes ∧ u.stage = 3 ∧ u.plane = 0 then s.updPc (fun c => { c with pend := some (1, 1) })
      else s)
  else .next s

/-- A part of memory made equal to another of the same length. -/
def copyRange (m : List Host.Cell) (src dst n : Nat) : List Host.Cell :=
  (m.filter (fun (q : Host.Cell) => decide (src ≤ q.1 ∧ q.1 < src + n))).foldl (fun m (q : Host.Cell) => memWrite m (dst + (q.1 - src)) q.2)
    (m.filter (fun (q : Host.Cell) => decide ¬(dst ≤ q.1 ∧ q.1 < dst + n)))

/-- The memories and Kiln contexts of a plane made equal to those of the active one (R500): tile memories, pool half, DRAM channel. DESIGN CHOICE
(log 58): in NO_PLANE there is no active plane whose state it could receive, and the plane keeps its own. -/
def State.copyPlane (s : State) (dst : Fin 2) : State :=
  let src := 1 - dst
  if s.planeState src ≠ 5 then s else
  let go := fun (m : List Host.Cell) (a n : Nat) => copyRange m (planeAddr src a) (planeAddr dst a) n
  let m := copyRange s.mem (tileBase (tileOf src 0)) (tileBase (tileOf dst 0)) (2 ^ 23)
  let s := { s with mem := go (go m 0x10000000 0x1000000) 0x8000000000 0x200000000 }
  let s := (finList 16).foldl (fun s t => s.setTile (tileOf dst t) { s.tile (tileOf dst t) with bad := [] }) s
  (finList 16).foldl (fun s c => (s.setKctx dst c (s.kctx src c)).showPhase dst c) s

/-- TRANSFER_SWEEP_DONE: every location has been copied once; mirroring keeps them equal (R500). -/
def execTransferSweepDone (pl : Fin 2) (s : State) : Host.Outcome State Fault Refusal :=
  if s.planeState pl = 2 then .next (((s.copyPlane pl).wr PC_XFER 0).updPc (fun c => { c with swept := pl :: c.swept.filter (fun q => decide (q ≠ pl)) })) else .next s

/-- A tile's registers after a slice of its logic BIST, which restores none (R491; 08 R300): free values. -/
def Tile.bisted (x : Tile) (f : Nat) : Tile :=
  let w := fun (n i : Nat) => BitVec.ofNat n (Config.lbistReg f i)
  { x with d := buildList (fun i => (fin 16 i, w 24 i)) 16, a := buildList (fun i => (fin 4 i, w 56 (16 + i))) 4
           p := buildList (fun i => (fin 8 i, w 40 (20 + i))) 8, b := buildList (fun i => (fin 8 i, w 40 (28 + i))) 8
           l := buildList (fun i => (fin 8 i, lenOf (w 18 (36 + i)))) 8, m := buildList (fun i => (fin 8 i, w 24 (44 + i))) 8
           tr := w 32 52, lr := w 32 53, ipc := w 32 54, isr := w 32 55, ivec := w 32 56 &&& 0xFFFFFFFC, mxio := w 32 57 }

/-- LBIST_SLICE: the BIST task of a tile has run one slice in the planes that run; 256 slices are a full pass; no register
is restored (R491). -/
def execLbistSlice (t : Fin 16) (s : State) : Host.Outcome State Fault Refusal :=
  .next (s.runPlanes.foldl (fun s pl =>
    let i := tileOf pl t
    (s.useFresh.setTile i ((s.tile i).bisted s.fresh)).updPc (fun c =>
      let (n, at_) := tget c.lbist (pl, t) (0, 0)
      { c with lbist := tset c.lbist (pl, t) (if n + 1 = 256 then (0, s.now) else (n + 1, at_)) })) s)

/-- LBIST_STARVED: a tile of a running plane has not completed a full pass within PC_LBIST_INT ms: a warning in the health report
(R491). -/
def execLbistStarved (pl : Fin 2) (t : Fin 16) (s : State) : Host.Outcome State Fault Refusal :=
  if pl ∈ s.runPlanes then
    let at_ := (tget s.pc.lbist (pl, t) (0, 0)).2 + (s.rd PC_LBIST_INT).toNat * 1000000 * nsUnits
    .next ((s.advance at_).wr (healthReg pl) (putBits (s.rd (healthReg pl)) 7 1 1))
  else .next s

end Sys2Proof.Machine
end

