-- ==== Sys2Proof/Machine/RegAt.lean ====
section
/-! DEFINITION. The register at a fabric address (00 R17 with the offset tables of the chapters). The plane names the shadow compares
that a writer of that plane reaches (03 R106). An address inside a block that no table names has no register (log 35). -/

namespace Sys2Proof

/-- The element of an array of n registers at a stride, from an offset relative to its first. -/
def arrAt (n stride lo o : Nat) (f : Nat → Option Reg) : Option Reg :=
  if lo ≤ o ∧ o < lo + n * stride ∧ (o - lo) % stride = 0 then f ((o - lo) / stride) else none

/-- The register listed at an offset. -/
def pick (o : Nat) (l : List (Nat × Reg)) : Option Reg := (l.find? (fun (q : Nat × Reg) => q.1 == o)).map (fun (q : Nat × Reg) => q.2)

/-- The first that answers. -/
def firstOf : List (Option Reg) → Option Reg
  | [] => none
  | some r :: _ => some r
  | none :: t => firstOf t

/-- See `regAt`: the island clock and period page. -/
def clkAt (o : Nat) : Option Reg :=
  pick o [(0x0, .clk .ISL_CLK), (0x4, .clk .ISL_STAT), (0x8, .clk .PERIOD_CFG), (0xC, .clk .PERIOD_CNT), (0x10, .clk .PIN_REL),
      (0x14, .clk .PIN_STAT), (0x18, .clk .RST_STAT), (0x1C, .clk .RST_HELD)]

/-- See `regAt`: the time base. -/
def tbAt (o : Nat) : Option Reg :=
  pick o [(0x0, .tb .TB_CTRL), (0x4, .tb .TB_STAT), (0x8, .tb .TB_NOW_NS), (0xC, .tb .TB_NOW_SEC_LO), (0x10, .tb .TB_NOW_SEC_HI),
      (0x14, .tb .TB_RATE), (0x18, .tb .TB_RATE_ACT), (0x1C, .tb .TB_OFFSET), (0x20, .tb .TB_UTC)]

/-- See `regAt`: the pulse outputs. -/
def tpoAt (n : Fin 8) (o : Nat) : Option Reg :=
  pick o [(0x0, .tpo n .TPO_CTRL), (0x4, .tpo n .TPO_START_SEC_LO), (0x8, .tpo n .TPO_START_SEC_HI), (0xC, .tpo n .TPO_START_NS),
      (0x10, .tpo n .TPO_START_FRAC), (0x14, .tpo n .TPO_PERIOD_NS), (0x18, .tpo n .TPO_PERIOD_FRAC), (0x1C, .tpo n .TPO_WIDTH_NS),
      (0x20, .tpo n .TPO_COUNT), (0x24, .tpo n .TPO_STAT), (0x28, .tpo n .TPO_FIRED), (0x2C, .tpo n .TPO_WIDTH_FRAC)]

/-- See `regAt`: the capture inputs. -/
def tcapAt (n : Fin 8) (o : Nat) : Option Reg :=
  pick o [(0x0, .tcap n .TCAP_CTRL), (0x4, .tcap n .TCAP_HEAD_NS), (0x8, .tcap n .TCAP_HEAD_SEC_LO), (0xC, .tcap n .TCAP_HEAD_SEC_HI),
      (0x10, .tcap n .TCAP_HEAD_INFO), (0x14, .tcap n .TCAP_OVF)]

/-- See `regAt`: the timestamp compensation. -/
def tspAt (p : Fin 20) (o : Nat) : Option Reg :=
  pick o [(0x0, .tsp p .TSP_INGRESS), (0x4, .tsp p .TSP_EGRESS), (0x8, .tsp p .TSP_ASYM)]

/-- See `regAt`: the Ethernet ports. -/
def ethAt (p : Fin 4) (o : Nat) : Option Reg :=
  firstOf [pick o [(0x0, .eth p .ETH_CTRL), (0x4, .eth p .ETH_STAT), (0x8, .eth p .ETH_MAC_LO), (0xC, .eth p .ETH_MAC_HI),
      (0x10, .eth p .ETH_IP4), (0x24, .eth p .ETH_VLAN), (0x28, .eth p .ETH_RX_BUF), (0x2C, .eth p .ETH_TX_BUF), (0x30, .eth p .ETH_RX_HEAD),
      (0x34, .eth p .ETH_RX_TAIL), (0x38, .eth p .ETH_TX_HEAD), (0x3C, .eth p .ETH_TX_TAIL), (0x40, .eth p .ETH_RX_FRAMES),
      (0x44, .eth p .ETH_TX_FRAMES), (0x48, .eth p .ETH_RX_ERR), (0x4C, .eth p .ETH_RX_DROP)]
    , arrAt 4 0x4 0x14 o (fun e => some (.eth p (.ETH_IP6 (Fin.ofNat 4 e))))]

/-- See `regAt`: the Ethernet management interface. -/
def mdioAt (o : Nat) : Option Reg :=
  pick o [(0x0, .mdio .ETH_MDIO_CMD), (0x4, .mdio .ETH_MDIO_STAT)]

/-- See `regAt`: the joint ports. -/
def portAt (n : Fin 64) (pl : Fin 2) (o : Nat) : Option Reg :=
  firstOf [pick o [(0x0, .port n .PWM_CTRL), (0x4, .port n .PWM_STAT), (0x8, .port n .PWM_MODE), (0xC, .port n .PWM_DEAD),
      (0x10, .port n .PWM_MINON), (0x14, .port n .PWM_REFRESH), (0x18, .port n .TRIP_CFG), (0x1C, .port n .TRIP_STAT), (0x20, .port n .PWM_FLAGS),
      (0x24, .port n .OVR_CNT), (0x28, .port n .SHORT_CNT), (0x2C, .port n .TRIP_CNT), (0x30, .port n .CAL_STAT), (0x34, .port n .PWM_LIVE),
      (0x120, .port n .EW_COMMIT), (0x160, .port n .ACT_PERIOD)]
    , arrAt 4 0x8 0x100 o (fun e => some (.port n (.EW_RISE pl (Fin.ofNat 4 e))))
    , arrAt 4 0x8 0x104 o (fun e => some (.port n (.EW_FALL pl (Fin.ofNat 4 e))))
    , arrAt 4 0x8 0x140 o (fun e => some (.port n (.ACT_RISE (Fin.ofNat 4 e))))
    , arrAt 4 0x8 0x144 o (fun e => some (.port n (.ACT_FALL (Fin.ofNat 4 e))))]

/-- See `regAt`: the current-sense filters. -/
def sdfAt (n : Fin 80) (o : Nat) : Option Reg :=
  pick o [(0x0, .sdf n .SDF_CFG), (0x4, .sdf n .SDF_STAT), (0x8, .sdf n .SDF_GAIN_A), (0xC, .sdf n .SDF_OFS_A), (0x10, .sdf n .SDF_GAIN_B),
      (0x14, .sdf n .SDF_OFS_B), (0x18, .sdf n .SDF_SAMPLE_A), (0x1C, .sdf n .SDF_SAMPLE_B), (0x20, .sdf n .SDF_PERIOD),
      (0x24, .sdf n .SDF_CLIP_CNT), (0x28, .sdf n .SDF_STUCK_CNT)]

/-- See `regAt`: the modulator clock page. -/
def sdcAt (o : Nat) : Option Reg :=
  firstOf [pick o [(0x0, .sdc .SDC_CTRL), (0x28, .sdc .SDC_STAT)]
    , arrAt 9 0x4 0x4 o (fun e => some (.sdc (.SDC_DLY (Fin.ofNat 9 e))))]

/-- See `regAt`: the feedback units. -/
def fbAt (n : Fin 64) (o : Nat) : Option Reg :=
  pick o [(0x0, .fb n .FB_CTRL), (0x4, .fb n .FB_CFG), (0x8, .fb n .FB_SER), (0xC, .fb n .FB_STAT), (0x10, .fb n .FB_POS_LO),
      (0x14, .fb n .FB_POS_HI), (0x18, .fb n .FB_PSAMP_LO), (0x1C, .fb n .FB_PSAMP_HI), (0x20, .fb n .FB_SPD_LO), (0x24, .fb n .FB_SPD_HI),
      (0x28, .fb n .FB_PSTAT), (0x2C, .fb n .FB_LLIM_LO), (0x30, .fb n .FB_LLIM_HI), (0x34, .fb n .FB_ULIM_LO), (0x38, .fb n .FB_ULIM_HI),
      (0x3C, .fb n .FB_SST), (0x40, .fb n .FB_ERR_CNT), (0x44, .fb n .FB_ERR_LIM), (0x48, .fb n .FB_JUMP), (0x4C, .fb n .FB_SET_LO),
      (0x50, .fb n .FB_SET_HI), (0x54, .fb n .FB_IDX_LO), (0x58, .fb n .FB_IDX_HI), (0x5C, .fb n .FB_ENC), (0x60, .fb n .CMP_CTRL),
      (0x64, .fb n .CMP_POS_LO), (0x68, .fb n .CMP_POS_HI), (0x6C, .fb n .CMP_SPACE), (0x70, .fb n .CMP_NEXT_LO), (0x74, .fb n .CMP_NEXT_HI),
      (0x78, .fb n .CMP_SKIP), (0x7C, .fb n .CMP_HITS), (0x80, .fb n .CMP_HIT_NS), (0x84, .fb n .CMP_HIT_SEC_LO), (0x88, .fb n .CMP_HIT_SEC_HI)]

/-- See `regAt`: the loop descriptors. -/
def ldAt (n : Fin 256) (o : Nat) : Option Reg :=
  firstOf [pick o [(0x0, .ld n .LD_CTRL), (0x4, .ld n .LD_STAT), (0x8, .ld n .LD_PORT), (0xC, .ld n .LD_ADDR), (0x10, .ld n .LD_SWAP),
      (0x14, .ld n .LD_RAMP), (0x18, .ld n .LD_DIN), (0x1C, .ld n .LD_DOUT), (0x20, .ld n .LD_DADJ), (0x24, .ld n .LD_EANG),
      (0x28, .ld n .LD_EOFS), (0x2C, .ld n .LD_SUP_CFG), (0x30, .ld n .LD_SUP_WARN), (0x34, .ld n .LD_SUP_FAULT), (0x38, .ld n .LD_WCET),
      (0x3C, .ld n .LD_ENTRY), (0x40, .ld n .LD_RUNS), (0x44, .ld n .LD_OVR), (0x48, .ld n .LD_BAD_CNT), (0x4C, .ld n .LD_SUP_CNT),
      (0x50, .ld n .LD_CYC_MAX), (0x54, .ld n .LD_RES_MAX), (0x80, .ld n .LD_REF_D), (0x84, .ld n .LD_REF_Q), (0x88, .ld n .LD_REF_COMMIT),
      (0x90, .ld n .LD_SP_POS_LO), (0x94, .ld n .LD_SP_POS_HI), (0x98, .ld n .LD_SP_VEL), (0x9C, .ld n .LD_SP_TFF), (0xA0, .ld n .LD_SP_COMMIT)]
    , arrAt 128 0x4 0x100 o (fun e => some (.ld n (.LD_BANK (Fin.ofNat 2 (e / 64)) (Fin.ofNat 64 e))))
    , arrAt 8 0x4 0x300 o (fun e => some (.ld n (.LD_S (Fin.ofNat 8 e))))]

/-- See `regAt`: the motion planner. -/
def plnAt (o : Nat) : Option Reg :=
  pick o [(0x0, .pln .PLN_CFG), (0x4, .pln .PLN_STAT), (0x8, .pln .PLN_MARGIN), (0xC, .pln .PLN_TICKS), (0x10, .pln .PLN_MISS_CNT)]

/-- See `regAt`: the planned arms. -/
def armAt (a : Fin 8) (o : Nat) : Option Reg :=
  firstOf [pick o [(0x0, .arm a .ARM_CTRL), (0x4, .arm a .ARM_STAT), (0x8, .arm a .ARM_QDEPTH), (0xC, .arm a .ARM_OVR),
      (0x10, .arm a .ARM_ACC_SHARE), (0x14, .arm a .ARM_STOP_RATE), (0x18, .arm a .ARM_RATE), (0x1C, .arm a .ARM_LAMBDA),
      (0x20, .arm a .ARM_LAMBDA_K), (0x24, .arm a .ARM_WEIGHT), (0x28, .arm a .ARM_VNOM), (0x2C, .arm a .ARM_VSAFE), (0x30, .arm a .ARM_DONE_ID)]
    , arrAt 8 0x20 0x100 o (fun e => some (.arm a (.JNT_VMAX_LO (Fin.ofNat 8 e))))
    , arrAt 8 0x20 0x104 o (fun e => some (.arm a (.JNT_VMAX_HI (Fin.ofNat 8 e))))
    , arrAt 8 0x20 0x108 o (fun e => some (.arm a (.JNT_AMAX_LO (Fin.ofNat 8 e))))
    , arrAt 8 0x20 0x10C o (fun e => some (.arm a (.JNT_AMAX_HI (Fin.ofNat 8 e))))
    , arrAt 8 0x20 0x110 o (fun e => some (.arm a (.JNT_OVS_LO (Fin.ofNat 8 e))))
    , arrAt 8 0x20 0x114 o (fun e => some (.arm a (.JNT_OVS_HI (Fin.ofNat 8 e))))
    , arrAt 8 0x20 0x118 o (fun e => some (.arm a (.JNT_TFF (Fin.ofNat 8 e))))]

/-- See `regAt`: the step axes. -/
def stpAt (i : Fin 16) (o : Nat) : Option Reg :=
  pick o [(0x0, .stp i .STP_CTRL), (0x4, .stp i .STP_STAT), (0x8, .stp i .STP_CFG), (0xC, .stp i .STP_TIMING), (0x10, .stp i .STP_VLIM),
      (0x14, .stp i .STP_ACC), (0x18, .stp i .STP_POS_LO), (0x1C, .stp i .STP_POS_HI), (0x20, .stp i .STP_TGT_LO), (0x24, .stp i .STP_TGT_HI),
      (0x28, .stp i .STP_SPD), (0x2C, .stp i .STP_OVS), (0x30, .stp i .STP_QDEPTH), (0x34, .stp i .STP_MV_TGT_LO), (0x38, .stp i .STP_MV_TGT_HI),
      (0x3C, .stp i .STP_MV_V), (0x40, .stp i .STP_MV_CMD), (0x44, .stp i .STP_SET_LO), (0x48, .stp i .STP_SET_HI), (0x4C, .stp i .STP_QTH_HI),
      (0x50, .stp i .STP_QTH_LO), (0x54, .stp i .STP_IRUN), (0x58, .stp i .STP_IHOLD), (0x5C, .stp i .STP_QV), (0x60, .stp i .STP_KP),
      (0x64, .stp i .STP_KI), (0x68, .stp i .STP_HOLD_DLY), (0x6C, .stp i .STP_STEPS), (0x70, .stp i .STP_DONE_ID), (0x74, .stp i .STP_BAD)]

/-- See `regAt`: the microstep tables. -/
def ustAt (i : Fin 16) (o : Nat) : Option Reg :=
  arrAt 256 0x4 0x0 o (fun e => some (.ust i (.UST_ENTRY (Fin.ofNat 256 e))))

/-- See `regAt`: the Kiln instances. -/
def knAt (i : Fin 2) (o : Nat) : Option Reg :=
  firstOf [pick o [(0x0, .kn i .KN_CTRL), (0x4, .kn i .KN_STAT), (0x8, .kn i .KN_BUSY), (0xC, .kn i .KN_SOLVES)]
    , arrAt 16 0x40 0x100 o (fun e => some (.kn i (.KC_STAT (Fin.ofNat 16 e))))
    , arrAt 16 0x40 0x104 o (fun e => some (.kn i (.KC_SEQ_POST (Fin.ofNat 16 e))))
    , arrAt 16 0x40 0x108 o (fun e => some (.kn i (.KC_SEQ_PUB (Fin.ofNat 16 e))))
    , arrAt 16 0x40 0x10C o (fun e => some (.kn i (.KC_SIG_DIM (Fin.ofNat 16 e))))
    , arrAt 16 0x40 0x110 o (fun e => some (.kn i (.KC_SIG_NNZ (Fin.ofNat 16 e))))
    , arrAt 16 0x40 0x114 o (fun e => some (.kn i (.KC_SIG_CRC (Fin.ofNat 16 e))))
    , arrAt 16 0x40 0x118 o (fun e => some (.kn i (.KC_BOUND (Fin.ofNat 16 e))))
    , arrAt 16 0x40 0x11C o (fun e => some (.kn i (.KC_ITER (Fin.ofNat 16 e))))
    , arrAt 16 0x40 0x120 o (fun e => some (.kn i (.KC_CYC (Fin.ofNat 16 e))))
    , arrAt 16 0x40 0x124 o (fun e => some (.kn i (.KC_PIV (Fin.ofNat 16 e))))
    , arrAt 16 0x40 0x128 o (fun e => some (.kn i (.KC_REUSED (Fin.ofNat 16 e))))
    , arrAt 16 0x40 0x12C o (fun e => some (.kn i (.KC_COLD (Fin.ofNat 16 e))))
    , arrAt 16 0x40 0x130 o (fun e => some (.kn i (.KC_SUPERSEDED (Fin.ofNat 16 e))))]

/-- See `regAt`: the Stack. -/
def stkAt (o : Nat) : Option Reg :=
  firstOf [pick o [(0x0, .stk .STK_CTRL), (0x4, .stk .STK_STAT), (0x8, .stk .STK_CFG), (0xC, .stk .STK_SKEW_LIM), (0x20, .stk .STK_HOT_UP),
      (0x24, .stk .STK_HOT_DN), (0x28, .stk .STK_WARM_UP), (0x2C, .stk .STK_WARM_DN), (0x30, .stk .STK_FAIL_TASK), (0x34, .stk .STK_RELEASE),
      (0x38, .stk .STK_CANCEL), (0x3C, .stk .STK_DESC_CMD), (0x80, .stk .STK_BUF_CMD)]
    , arrAt 4 0x4 0x10 o (fun e => some (.stk (.STK_DLY_TICK (Fin.ofNat 4 e))))
    , arrAt 16 0x4 0x40 o (fun e => some (.stk (.STK_DESC_STAGE (Fin.ofNat 16 e))))
    , arrAt 4 0x4 0x90 o (fun e => some (.stk (.STK_BUF_STAGE (Fin.ofNat 4 e))))
    , arrAt 64 0x4 0x100 o (fun e => some (.stk (.STK_QSTAT (Fin.ofNat 64 e))))
    , arrAt 64 0x4 0x200 o (fun e => some (.stk (.STK_QCFG (Fin.ofNat 64 e))))
    , arrAt 64 0x4 0x300 o (fun e => some (.stk (.STK_QWAIT (Fin.ofNat 64 e))))
    , arrAt 16 0x10 0x400 o (fun e => some (.stk (.STK_TL_LOAD (Fin.ofNat 16 e))))
    , arrAt 16 0x10 0x404 o (fun e => some (.stk (.STK_TL_GAP (Fin.ofNat 16 e))))
    , arrAt 16 0x10 0x408 o (fun e => some (.stk (.STK_TL_MEM (Fin.ofNat 16 e))))
    , arrAt 16 0x10 0x40C o (fun e => some (.stk (.STK_TL_TASKS (Fin.ofNat 16 e))))
    , arrAt 4096 0x8 0x8000 o (fun e => some (.stk (.STK_TS0 (Fin.ofNat 4096 e))))
    , arrAt 4096 0x8 0x8004 o (fun e => some (.stk (.STK_TS1 (Fin.ofNat 4096 e))))]

/-- See `regAt`: the interrupt controller. -/
def icAt (o : Nat) : Option Reg :=
  firstOf [pick o [(0xC00, .ic .IC_COMPLETE), (0xC04, .ic .IC_STAT), (0xC08, .ic .IC_SPURIOUS), (0xC0C, .ic .IC_REDIRECTS)]
    , arrAt 512 0x4 0x0 o (fun e => some (.ic (.IC_SRC_CFG (Fin.ofNat 512 e))))
    , arrAt 16 0x4 0x800 o (fun e => some (.ic (.IC_PEND (Fin.ofNat 16 e))))
    , arrAt 16 0x4 0x840 o (fun e => some (.ic (.IC_LIVE (Fin.ofNat 16 e))))
    , arrAt 16 0x4 0x880 o (fun e => some (.ic (.IC_CLAIMED (Fin.ofNat 16 e))))
    , arrAt 2 0x4 0x8C0 o (fun e => some (.ic (.IC_SW (Fin.ofNat 2 e))))
    , arrAt 2 0x4 0x8C8 o (fun e => some (.ic (.IC_SW_SET (Fin.ofNat 2 e))))
    , arrAt 2 0x4 0x8D0 o (fun e => some (.ic (.IC_SW_CLR (Fin.ofNat 2 e))))
    , arrAt 16 0x4 0x900 o (fun e => some (.ic (.IC_GRP_HOLD (Fin.ofNat 16 e))))
    , arrAt 64 0x4 0xA00 o (fun e => if 17 ≤ e ∧ e < 32 then none else some (.ic (.IC_TGT (Fin.ofNat 64 e))))
    , arrAt 64 0x4 0xB00 o (fun e => if 17 ≤ e ∧ e < 32 then none else some (.ic (.IC_CLAIM (Fin.ofNat 64 e))))]

/-- See `regAt`: the safety island and Signet. -/
def siAt (o : Nat) : Option Reg :=
  firstOf [pick o [(0x0, .si .SI_STAT), (0x4, .si .SI_CYCLE), (0x8, .si .SI_PSET_ID), (0xC, .si .SI_PSET_GEN), (0x10, .si .SI_LOCK),
      (0x14, .si .SI_INPUTS), (0x18, .si .SI_OUTPUTS), (0x1C, .si .SI_XC_CNT), (0x8000, .si .SI_REQ), (0x8004, .si .SI_TOKEN),
      (0x8008, .si .SI_EVT)]
    , arrAt 8 0x20 0x100 o (fun e => some (.si (.SI_ARM_STAT (Fin.ofNat 8 e))))
    , arrAt 8 0x20 0x104 o (fun e => some (.si (.SI_VSAFE (Fin.ofNat 8 e))))
    , arrAt 8 0x20 0x108 o (fun e => some (.si (.SI_VMEAS (Fin.ofNat 8 e))))
    , arrAt 8 0x20 0x10C o (fun e => some (.si (.SI_DMIN (Fin.ofNat 8 e))))
    , arrAt 64 0x4 0x200 o (fun e => some (.si (.SI_VPAIR (Fin.ofNat 64 e))))
    , arrAt 64 0x4 0x400 o (fun e => some (.si (.SI_JVLIM (Fin.ofNat 64 e))))
    , arrAt 64 0x10 0x600 o (fun e => some (.si (.SG_STAT (Fin.ofNat 64 e))))
    , arrAt 64 0x10 0x604 o (fun e => some (.si (.SG_SEQ (Fin.ofNat 64 e))))
    , arrAt 64 0x10 0x608 o (fun e => some (.si (.SG_ERR (Fin.ofNat 64 e))))
    , arrAt 64 0x10 0x60C o (fun e => some (.si (.SG_AGE (Fin.ofNat 64 e))))
    , arrAt 5 0x4 0xA00 o (fun e => some (.si (.SG_UNMATCHED (Fin.ofNat 5 e))))]

/-- See `regAt`: the Chain node. -/
def chAt (o : Nat) : Option Reg :=
  firstOf [pick o [(0x0, .ch .CH_CTRL), (0x4, .ch .CH_STAT), (0x8, .ch .CH_ROLE), (0xC, .ch .CH_CYCLE), (0x10, .ch .CH_SCHED_ID),
      (0x14, .ch .CH_OFFSET), (0x18, .ch .CH_SYNC_MASK), (0x1C, .ch .CH_LINKDLY_A), (0x20, .ch .CH_LINKDLY_B), (0x24, .ch .CH_NULL_CNT),
      (0x28, .ch .CH_ERR_CNT), (0x2C, .ch .CH_DIFF_CNT), (0x30, .ch .CH_VIOL_CNT), (0x34, .ch .CH_REINT_CNT), (0x38, .ch .CH_CS_CNT)]
    , arrAt 8 0x4 0x40 o (fun e => some (.ch (.CH_V1_DLY (Fin.ofNat 8 e))))
    , arrAt 64 0x4 0x104 o (fun e => some (.ch (.CH_SLOT_STAT (Fin.ofNat 64 e))))]

/-- See `regAt`: the Clasps. -/
def cpAt (x : Fin 2) (o : Nat) : Option Reg :=
  firstOf [pick o [(0x0, .cp x .CP_CTRL), (0x4, .cp x .CP_STAT), (0x8, .cp x .CP_MAP), (0x50, .cp x .CP_ARB_CNT), (0x54, .cp x .CP_MASQ_CNT),
      (0x58, .cp x .CP_RESID)]
    , arrAt 8 0x4 0x10 o (fun e => some (.cp x (.CP_VIOL (Fin.ofNat 8 e))))
    , arrAt 8 0x4 0x30 o (fun e => some (.cp x (.CP_LINKDLY (Fin.ofNat 8 e))))]

/-- See `regAt`: the plane control. -/
def pcAt (o : Nat) : Option Reg :=
  pick o [(0x0, .pc .PC_CTRL), (0x4, .pc .PC_STAT), (0x8, .pc .PC_CONFIRM), (0xC, .pc .PC_CONF_CNT), (0x10, .pc .PC_HEALTH_A),
      (0x14, .pc .PC_HEALTH_B), (0x18, .pc .PC_MISM_A), (0x1C, .pc .PC_MISM_B), (0x20, .pc .PC_MISM_WHERE), (0x24, .pc .PC_SWITCH_CNT),
      (0x28, .pc .PC_GAP_CNT), (0x2C, .pc .PC_RETRY_LIM), (0x30, .pc .PC_LBIST_INT), (0x34, .pc .PC_XFER), (0x38, .pc .PC_LAST_SW)]

/-- See `regAt`: the Locket. -/
def lkAt (o : Nat) : Option Reg :=
  pick o [(0x0, .lk .LK_CTRL), (0x4, .lk .LK_STAT), (0x8, .lk .LK_CFG), (0xC, .lk .LK_NEXT_LO), (0x10, .lk .LK_NEXT_HI),
      (0x14, .lk .LK_OLDEST_LO), (0x18, .lk .LK_OLDEST_HI), (0x1C, .lk .LK_UNFLUSHED), (0x20, .lk .LK_DROPPED), (0x24, .lk .LK_PF_LOST),
      (0x28, .lk .LK_MRAM_BAD), (0x2C, .lk .LK_FLUSHES), (0x30, .lk .LK_PCYCLE), (0x34, .lk .LK_OPTIME_LO), (0x38, .lk .LK_OPTIME_HI)]

/-- See `regAt`: the OTP controller. -/
def otpAt (o : Nat) : Option Reg :=
  firstOf [pick o [(0x0, .otp .OTP_STAT), (0x4, .otp .OTP_CMD), (0x8, .otp .OTP_ADDR), (0xC, .otp .OTP_DATA), (0x40, .otp .OTP_KEYS)]
    , arrAt 6 0x4 0x20 o (fun e => some (.otp (.OTP_ARB (Fin.ofNat 6 e))))]

/-- The register at a fabric address as a writer of plane `pl` reaches it. -/
def regAt (pl : Fin 2) (a : Nat) : Option Reg :=
  if 0x3000F000 ≤ a ∧ a < 0x30010000 then clkAt (a - 0x3000F000) else
  if 0x30000000 ≤ a ∧ a < 0x30001000 then tbAt (a - 0x30000000) else
  if 0x30001000 ≤ a ∧ a < 0x30001200 then tpoAt (Fin.ofNat 8 ((a - 0x30001000) / 0x40)) ((a - 0x30001000) % 0x40) else
  if 0x30002000 ≤ a ∧ a < 0x30002100 then tcapAt (Fin.ofNat 8 ((a - 0x30002000) / 0x20)) ((a - 0x30002000) % 0x20) else
  if 0x30058000 ≤ a ∧ a < 0x30058280 then tspAt (Fin.ofNat 20 ((a - 0x30058000) / 0x20)) ((a - 0x30058000) % 0x20) else
  if 0x30050000 ≤ a ∧ a < 0x30051000 then ethAt (Fin.ofNat 4 ((a - 0x30050000) / 0x400)) ((a - 0x30050000) % 0x400) else
  if 0x30051000 ≤ a ∧ a < 0x30052000 then mdioAt (a - 0x30051000) else
  if 0x40000000 ≤ a ∧ a < 0x40040000 then portAt (Fin.ofNat 64 ((a - 0x40000000) / 0x1000)) pl ((a - 0x40000000) % 0x1000) else
  if 0x42000000 ≤ a ∧ a < 0x42050000 then sdfAt (Fin.ofNat 80 ((a - 0x42000000) / 0x1000)) ((a - 0x42000000) % 0x1000) else
  if 0x42100000 ≤ a ∧ a < 0x42101000 then sdcAt (a - 0x42100000) else
  if 0x41000000 ≤ a ∧ a < 0x41040000 then fbAt (Fin.ofNat 64 ((a - 0x41000000) / 0x1000)) ((a - 0x41000000) % 0x1000) else
  if 0x43000000 ≤ a ∧ a < 0x43040000 then ldAt (Fin.ofNat 256 ((a - 0x43000000) / 0x400)) ((a - 0x43000000) % 0x400) else
  if 0x44000000 ≤ a ∧ a < 0x44001000 then plnAt (a - 0x44000000) else
  if 0x44001000 ≤ a ∧ a < 0x44002000 then armAt (Fin.ofNat 8 ((a - 0x44001000) / 0x200)) ((a - 0x44001000) % 0x200) else
  if 0x44008000 ≤ a ∧ a < 0x44009000 then stpAt (Fin.ofNat 16 ((a - 0x44008000) / 0x100)) ((a - 0x44008000) % 0x100) else
  if 0x4400C000 ≤ a ∧ a < 0x44010000 then ustAt (Fin.ofNat 16 ((a - 0x4400C000) / 0x400)) ((a - 0x4400C000) % 0x400) else
  if 0x30030000 ≤ a ∧ a < 0x30040000 then knAt (Fin.ofNat 2 ((a - 0x30030000) / 0x8000)) ((a - 0x30030000) % 0x8000) else
  if 0x30020000 ≤ a ∧ a < 0x30030000 then stkAt (a - 0x30020000) else
  if 0x30010000 ≤ a ∧ a < 0x30020000 then icAt (a - 0x30010000) else
  if 0x30090000 ≤ a ∧ a < 0x300A0000 then siAt (a - 0x30090000) else
  if 0x30040000 ≤ a ∧ a < 0x30044000 then chAt (a - 0x30040000) else
  if 0x30044000 ≤ a ∧ a < 0x30046000 then cpAt (Fin.ofNat 2 ((a - 0x30044000) / 0x1000)) ((a - 0x30044000) % 0x1000) else
  if 0x30080000 ≤ a ∧ a < 0x30090000 then pcAt (a - 0x30080000) else
  if 0x30060000 ≤ a ∧ a < 0x30070000 then lkAt (a - 0x30060000) else
  if 0x30070000 ≤ a ∧ a < 0x30080000 then otpAt (a - 0x30070000) else
  none

end Sys2Proof
end

