-- ==== Sys2Proof/Machine/Bus.lean ====
section
/-! DEFINITION. The fabric: what a write or a read of a register does, and access by address (00 R7, R8, R17, R18; 18 R558). A write
reaches each field by the meaning its own row has. -/

namespace Sys2Proof.Machine

open Sys2Proof

/-- The state a meaning leaves. -/
def State.via (s : State) (f : State → Host.Outcome State Fault Refusal) : State :=
  match f s with
  | .next t => t
  | _ => s

/-- Whether a bit of a word is 1 where a field lies. -/
def bitAt (v : Word) (f : Field) : Bool := v.getLsbD f.lo

/-- A one-bit rw field whose change has a meaning of its own. -/
def State.onChange (s : State) (f : Field) (v : Word) (g : Bool → State → Host.Outcome State Fault Refusal) : State :=
  if bitAt v f = s.is f then s else s.via (g (bitAt v f))

/-- A command bit: a written 1 acts. -/
def State.onOne (s : State) (f : Field) (v : Word) (g : State → Host.Outcome State Fault Refusal) : State := if bitAt v f then s.via g else s

/-- Whether a write meets an rwl field that the seal has closed (R7, R558). -/
def State.sealedWrite (s : State) (r : Reg) : Bool := s.is OTP_STAT.SEALED && r.rwlMask != 0

/-- The rw registers that hold bits [47:32] of a 48-bit value: [31:16] reads as the sign and is ignored on write (04 R162, 05 R204,
06 R247). -/
def isHi48 : Reg → Bool
  | .fb _ .FB_LLIM_HI | .fb _ .FB_ULIM_HI | .fb _ .CMP_POS_HI | .ld _ .LD_SP_POS_HI | .arm _ (.JNT_VMAX_HI _) | .arm _ (.JNT_AMAX_HI _) => true
  | _ => false

/-- A register after a plain write under the access codes of its fields (R7); the fields with a row of their own are left. -/
def plainWord (r : Reg) (isSealed : Bool) (old v : Word) : Word :=
  let m := (r.rwMask ||| r.woMask ||| (if isSealed then 0 else r.rwlMask)) &&& ~~~r.ownRowMask
  let w := (old &&& ~~~m) ||| (v &&& m)
  if isHi48 r then (w.setWidth 16).signExtend 32 else (w &&& ~~~(v &&& r.w1cMask)) ||| (v &&& r.w1sMask &&& ~~~r.ownRowMask)

/-- A plain write: a sealed field keeps its value, and a write that did not come from a mailbox command sets SEALED_WRITE (R558). -/
def State.plainWrite (s : State) (who : Who) (r : Reg) (v : Word) : State :=
  let t := s.wr r (plainWord r (s.is OTP_STAT.SEALED) (s.rd r) v)
  if s.sealedWrite r ∧ who ≠ .host then t.flag OTP_STAT.SEALED_WRITE else t

/-- Who writes, as the shadow registers of a joint port tell it apart (03 R106). -/
def agentOf : Who → Agent
  | .tile t => if planeOf t = 0 then .planeA else .planeB
  | .hearth => .hearth
  | .host | .windowT => .host

/-- The loop whose task a writing tile runs, when it posts references to the current loop of port n (05 R179). -/
def State.refSource (s : State) (who : Who) (n : Fin 64) : Option (Fin 256) :=
  match who with
  | .tile t => match (s.tile t).task with
    | some m => if m.val < 256 ∧ s.postsRefs (fin 256 m.val) ∧ s.loopPort (fin 256 m.val) = n then some (fin 256 m.val) else none
    | none => none
  | _ => none

/-- A write of PWM_CTRL (03 R108, R113 to R116). -/
def State.pwmCtrl (s : State) (n : Fin 64) (v : Word) : State :=
  let s := s.onChange (PWM_CTRL.FORCE_TRIP n) v (fun b => if b then execForceTripSet n else execForceTripClear n)
  let s := s.onChange (PWM_CTRL.RUN n) v (fun b => if b then execPwmRunSet n else execPwmRunClear n)
  let s := s.onChange (PWM_CTRL.ARM n) v (fun b => if b then execPwmArm n else execPwmDisarm n)
  s.onOne (PWM_CTRL.CLR_TRIP n) v (execClrTrip n)

/-- A write of LD_CTRL (05 R190, R192, R204). -/
def State.ldCtrl (s : State) (n : Fin 256) (v : Word) : State :=
  let s := s.via (execLdConfigWrite n .ctrl v)
  let s := s.onChange (LD_CTRL.EN n) v (fun b => if b then execLoopEnable n else execLoopDisable n)
  s.onOne (LD_CTRL.CLR_FAULT n) v (execLoopClrFault n)

/-- A write of STP_CTRL (06 R229 to R237). -/
def State.stpCtrl (s : State) (i : Fin 16) (v : Word) : State :=
  let s := s.onChange (STP_CTRL.EN i) v (execStpEn i)
  let s := s.onChange (STP_CTRL.PIN_ARM i) v (execStpPinArm i)
  ((s.onOne (STP_CTRL.STOP i) v (execStpStop i)).onOne (STP_CTRL.ABORT i) v (execStpAbort i)).onOne (STP_CTRL.CLR i) v (execStpClr i)

/-- A write of ARM_CTRL (06 R207, R226). -/
def State.armCtrl (s : State) (who : Who) (a : Fin 8) (v : Word) : State :=
  let s := (s.plainWrite who (ARM_CTRL a) v).onChange (ARM_CTRL.EN a) v (execArmCtrlEn a)
  let s := (s.onOne (ARM_CTRL.PAUSE a) v (execArmPause a)).onOne (ARM_CTRL.RESUME a) v (execArmResume a)
  (s.onOne (ARM_CTRL.ABORT a) v (execArmAbort a)).onOne (ARM_CTRL.CLR a) v (execArmClr a)

/-- A write of PC_CTRL (15 R497, R502, R504). -/
def State.pcCtrl (s : State) (who : Who) (v : Word) : State :=
  let s := s.plainWrite who PC_CTRL v
  let s := (s.onOne PC_CTRL.RETURN_A v (execPcReturn 0)).onOne PC_CTRL.RETURN_B v (execPcReturn 1)
  let s := (s.onOne PC_CTRL.HANDOVER v execPcHandover).onOne PC_CTRL.TAKE_DOWN_A v (execPcTakeDown 0)
  (s.onOne PC_CTRL.TAKE_DOWN_B v (execPcTakeDown 1)).onOne PC_CTRL.EXT_TEST v execPcExtTest

/-- A write of STK_DESC_CMD (10 R362): another OP than the five is ignored, and refused too while an operation is pending (10 R335). -/
def State.descWrite (s : State) (v : Word) : State :=
  let n : Fin 4096 := fin 4096 (getBits v 0 12)
  match getBits v 12 3 with
  | 1 => s.via (execStkCreate n)
  | 2 => s.via (execStkDelete n)
  | 3 => s.via (execStkReadDesc n)
  | 4 => s.via (execStkEnable n)
  | 5 => s.via (execStkDisable n)
  | _ => if s.is STK_STAT.DESC_BUSY then s.flag STK_STAT.CMD_REFUSED else s.put STK_DESC_CMD.TASK n.val

/-- A write of STK_BUF_CMD, as `State.descWrite` (10 R337, R360). -/
def State.bufWriteCmd (s : State) (v : Word) : State :=
  let h : Fin 8192 := fin 8192 (getBits v 0 13)
  match getBits v 13 3 with
  | 1 => s.via (execBufCreate h)
  | 2 => s.via (execBufDelete h)
  | 3 => s.via (execBufRead h)
  | _ => if s.is STK_STAT.BUF_BUSY then s.flag STK_STAT.CMD_REFUSED else s.put STK_BUF_CMD.HANDLE h.val

/-- A write of SI_REQ (12 R412): other codes are ignored. -/
def State.siReqWrite (s : State) (v : Word) : State :=
  let arms := BitVec.ofNat 8 (getBits v 0 8)
  match getBits v 8 3 with
  | 1 => s.via (execSiReqSto arms)
  | 2 => s.via (execSiReqSs1 arms)
  | 3 => s.via (execSiReqSs2 arms)
  | 4 => s.via (execSiReqRelease arms)
  | _ => s

/-- A write of a page register of the clocks, periods, pins and the time service (01, 02, 19). -/
def State.timeWrite (s : State) (who : Who) (r : Reg) (v : Word) : State :=
  match r with
  | .clk .ISL_CLK => s.via (execIslClkWrite v)
  | .clk .PERIOD_CFG => s.via (execPeriodSelWrite (v.getLsbD 0))
  | .clk .PIN_REL => ((finList 5).filter (fun k => v.getLsbD k.val)).foldl (fun s k => s.releasePins k) s
  | .tb .TB_CTRL => (s.plainWrite who r v).writeSource (getBits v 0 2)
  | .tb .TB_RATE => s.writeRate v
  | .tpo n .TPO_CTRL =>
    let s := (s.plainWrite who r v).onChange (TPO_CTRL.ARM n) v (execTpoArmWrite n)
    s.onOne (TPO_CTRL.GO n) v (execTpoGo n)
  | .tpo n .TPO_START_NS => if 999999999 < v.toNat then s.flag (TPO_STAT.BADCFG n) else s.plainWrite who r v
  | .eth p .ETH_CTRL => s.ethWrite p .ctrl v
  | .eth p .ETH_MAC_LO => s.ethWrite p .macLo v
  | .eth p .ETH_MAC_HI => s.ethWrite p .macHi v
  | .eth p .ETH_IP4 => s.ethWrite p .ip4 v
  | .eth p (.ETH_IP6 k) => s.ethWrite p (.ip6 k) v
  | .eth p .ETH_VLAN => s.ethWrite p .vlan v
  | .eth p .ETH_RX_BUF => s.ethWrite p .rxBuf v
  | .eth p .ETH_TX_BUF => s.ethWrite p .txBuf v
  | .mdio .ETH_MDIO_CMD => s.mdioWrite v
  | _ => s.plainWrite who r v

/-- A write of a register of the joint ports, filters and feedback units (03, 04). DESIGN CHOICE (log 61): a write of SDC_CTRL that leaves FREQ as
it is counts as no write of FREQ, since every write of the ARM bits carries the field; R127 does not say whether it is refused while a port is
armed. -/
def State.portWrite (s : State) (who : Who) (r : Reg) (v : Word) : State :=
  match r with
  | .port n .PWM_CTRL => s.pwmCtrl n v
  | .port n .PWM_MODE => s.via (execPwmConfigWrite n .mode v)
  | .port n .PWM_DEAD => s.via (execPwmConfigWrite n .dead v)
  | .port n .PWM_MINON => s.via (execPwmConfigWrite n .minon v)
  | .port n .PWM_REFRESH => s.via (execPwmConfigWrite n .refresh v)
  | .port n .TRIP_CFG => s.via (execPwmConfigWrite n .tripCfg v)
  | .port n (.EW_RISE _ l) => (agentPlanes (agentOf who)).foldl (fun s pl => s.plainWrite who (EW_RISE n pl l) v) s
  | .port n (.EW_FALL _ l) => (agentPlanes (agentOf who)).foldl (fun s pl => s.plainWrite who (EW_FALL n pl l) v) s
  | .port n .EW_COMMIT => s.via (execEwCommit n (agentOf who) (v.setWidth 16))
  | .sdf n .SDF_CFG => s.via (execSdfCfgWrite n v)
  | .sdf n .SDF_GAIN_A => s.via (execSdfGainWrite n false false (v.setWidth 24))
  | .sdf n .SDF_OFS_A => s.via (execSdfGainWrite n false true (v.setWidth 24))
  | .sdf n .SDF_GAIN_B => s.via (execSdfGainWrite n true false (v.setWidth 24))
  | .sdf n .SDF_OFS_B => s.via (execSdfGainWrite n true true (v.setWidth 24))
  | .sdc .SDC_CTRL => (s.via (execSdcArmWrite (v.setWidth 9))).onChange SDC_CTRL.FREQ v execSdcFreqWrite
  | .sdc (.SDC_DLY g) => s.via (execSdcDlyWrite g (v.setWidth 7))
  | .fb n .FB_CTRL =>
    let s := s.onChange (FB_CTRL.EN n) v (execFbEnWrite n)
    (s.onChange (FB_CTRL.OUT_EN n) v (execFbOutEnWrite n)).onOne (FB_CTRL.ENC_CLR n) v (execEncClr n)
  | .fb n .FB_CFG => s.via (execFbCfgWrite n false v)
  | .fb n .FB_SER => s.via (execFbCfgWrite n true v)
  | .fb n .FB_LLIM_HI => s.via (execFbLimitWrite n false (v.setWidth 16))
  | .fb n .FB_ULIM_HI => s.via (execFbLimitWrite n true (v.setWidth 16))
  | .fb n .FB_SET_HI => s.via (execFbSetWrite n (v.setWidth 16))
  | .fb n .CMP_POS_HI => s.via (execCmpArmWrite n (v.setWidth 16))
  | .fb n .CMP_CTRL => (s.plainWrite who r v).onChange (CMP_CTRL.EN n) v (execCmpEnWrite n)
  | _ => s.plainWrite who r v

/-- A write of a register of the loop descriptors (05): references written outside the motion loop's own run are refused while a
loop that posts them is enabled (R182). -/
def State.loopWrite (s : State) (who : Who) (n : Fin 256) (r : Reg) (v : Word) : State :=
  let p : Fin 64 := fin 64 n.val
  let refs := fun (s : State) => if n.val < 64 ∧ (s.refSource who p).isNone ∧ s.refOwner p then s.flag (LD_STAT.CFG_REFUSED n) else s.plainWrite who r v
  match r with
  | .ld _ .LD_CTRL => s.ldCtrl n v
  | .ld _ .LD_PORT => s.via (execLdConfigWrite n .port v)
  | .ld _ .LD_ADDR => s.via (execLdConfigWrite n .addr v)
  | .ld _ .LD_RAMP => s.via (execLdConfigWrite n .ramp v)
  | .ld _ .LD_DADJ => s.via (execLdConfigWrite n .dadj v)
  | .ld _ .LD_EANG => s.via (execLdConfigWrite n .eang v)
  | .ld _ .LD_EOFS => s.via (execLdConfigWrite n .eofs v)
  | .ld _ .LD_SUP_CFG => s.via (execLdConfigWrite n .supCfg v)
  | .ld _ .LD_SUP_WARN => s.via (execLdConfigWrite n .supWarn v)
  | .ld _ .LD_SUP_FAULT => s.via (execLdConfigWrite n .supFault v)
  | .ld _ .LD_WCET => s.via (execLdConfigWrite n .wcet v)
  | .ld _ .LD_ENTRY => s.via (execLdConfigWrite n .entry v)
  | .ld _ .LD_SWAP => if v.getLsbD 0 then s.via (execLdSwapReq n) else s
  | .ld _ (.LD_BANK b k) => s.via (execLdBankWrite n b k v)
  | .ld _ .LD_REF_D => refs s
  | .ld _ .LD_REF_Q => refs s
  | .ld _ .LD_REF_COMMIT => if n.val < 64 then s.via (execLdRefCommit p (s.refSource who p) (v.setWidth 16)) else s
  | .ld _ .LD_SP_COMMIT => s.via (execLdSpCommit n (v.setWidth 16))
  | _ => s.plainWrite who r v

/-- A write of a register of the planner, the step axes and the Kilns (06, 07). -/
def State.motionWrite (s : State) (who : Who) (r : Reg) (v : Word) : State :=
  match r with
  | .arm a .ARM_CTRL => s.armCtrl who a v
  | .arm a .ARM_ACC_SHARE => if s.is (ARM_CTRL.EN a) then s.flag (ARM_STAT.CFG_REFUSED a) else s.plainWrite who r v
  | .arm a (.JNT_TFF _) => if 23 < getBits v 24 5 then s.flag (ARM_STAT.CFG_REFUSED a) else s.plainWrite who r v
  | .stp i .STP_KP | .stp i .STP_KI => if 23 < getBits v 24 5 then s.flag (STP_STAT.CFG_REFUSED i) else s.plainWrite who r v
  | .stp i .STP_CTRL => s.stpCtrl i v
  | .stp i .STP_CFG => s.via (execStepCfgWrite i .cfg v)
  | .stp i .STP_TIMING => s.via (execStepCfgWrite i .timing v)
  | .stp i .STP_ACC => s.via (execStepAccWrite i v)
  | .stp i .STP_MV_CMD => s.via (execStepMovePush i v)
  | .stp i .STP_SET_HI => s.via (execStepPreset i (v.setWidth 16))
  | .stp i .STP_QTH_HI => if v.toNat ≤ (s.rd (STP_QTH_LO i)).toNat then s.flag (STP_STAT.CFG_REFUSED i) else s.plainWrite who r v
  | .stp i .STP_QTH_LO => if (s.rd (STP_QTH_HI i)).toNat ≤ v.toNat then s.flag (STP_STAT.CFG_REFUSED i) else s.plainWrite who r v
  | .ust i (.UST_ENTRY k) => s.via (execStepCfgWrite i (.table k) v)
  | .kn k .KN_CTRL => (s.onChange (KN_CTRL.EN k) v (execKilnEnWrite k)).onOne (KN_CTRL.FLUSH k) v (execKilnFlush k)
  | _ => s.plainWrite who r v

/-- A write of a register of Stack (10). -/
def State.stkRegWrite (s : State) (who : Who) (r : StkReg) (v : Word) : State :=
  let plain := s.plainWrite who (.stk r) v
  let pair := fun (up dn : Nat) => if up ≤ dn then s.flag STK_STAT.CFG_REFUSED else plain
  let field := getBits v 0 24
  match r with
  | .STK_CTRL =>
    let s' := plain.onOne STK_CTRL.REBAL v execStkRebalance
    if s.is STK_CTRL.EN = false ∧ s'.is STK_CTRL.EN then s'.icWakeAll else s'
  | .STK_CFG => if getBits v 16 16 = 0 then s.flag STK_STAT.CFG_REFUSED else plain
  | .STK_DLY_TICK k =>
    if getBits v 0 9 = 0 ∨ 400 < getBits v 0 9 ∨ s.stk.tasks.any (fun (q : Fin 4096 × TaskRec) => match q.2.delay with | some (j, _) => j == k | none => false) then
      s.flag STK_STAT.CFG_REFUSED
    else plain
  | .STK_HOT_UP => pair field (getBits (s.rd STK_HOT_DN) 0 24)
  | .STK_HOT_DN => pair (getBits (s.rd STK_HOT_UP) 0 24) field
  | .STK_WARM_UP => pair field (getBits (s.rd STK_WARM_DN) 0 24)
  | .STK_WARM_DN => pair (getBits (s.rd STK_WARM_UP) 0 24) field
  | .STK_RELEASE => (s.stkRelease who v).1
  | .STK_CANCEL => s.stkCancel who (fin 4096 (getBits v 0 12))
  | .STK_DESC_CMD => s.descWrite v
  | .STK_BUF_CMD => s.bufWriteCmd v
  | _ => plain

/-- A write of a register of the interrupt controller (11). -/
def State.icRegWrite (s : State) (who : Who) (r : IcReg) (v : Word) : State :=
  match r with
  | .IC_SRC_CFG n => s.icSrcCfg n v
  | .IC_SW_SET k => s.via (execIcSwSet who k v)
  | .IC_SW_CLR k => s.via (execIcSwClr who k v 0)
  | .IC_COMPLETE => s.icComplete who v
  | _ => s.plainWrite who (.ic r) v

/-- A write of a register of Stack and of the interrupt controller (10, 11). -/
def State.stackWrite (s : State) (who : Who) (r : Reg) (v : Word) : State :=
  match r with
  | .stk x => s.stkRegWrite who x v
  | .ic x => s.icRegWrite who x v
  | _ => s.plainWrite who r v

/-- A write of a register of plane control, the island, the Chain, Locket, OTP and the mailbox (12, 14 to 18). -/
def State.systemWrite (s : State) (who : Who) (r : Reg) (v : Word) : State :=
  match r with
  | .si .SI_REQ => s.siReqWrite v
  | .si .SI_TOKEN => s.siToken v
  | .ch .CH_CTRL => s.chainCtrl v
  | .cp x .CP_MAP => s.claspMap x v
  | .pc .PC_CTRL => s.pcCtrl who v
  | .pc .PC_CONFIRM => if s.is OTP_STAT.SEALED = false ∧ getBits v 0 24 < 1024 then s else s.plainWrite who r v
  | .pc .PC_LBIST_INT => if s.is OTP_STAT.SEALED = false ∧ (getBits v 0 16 < 200 ∨ 60000 < getBits v 0 16) then s else s.plainWrite who r v
  | .lk .LK_CTRL => if v.getLsbD 0 then s.startFlush else s
  | .lk .LK_CFG =>
    if s.is OTP_STAT.SEALED = false ∧ (getBits v 0 16 = 0 ∨ 60000 < getBits v 0 16) then s.flag LK_STAT.CFG_REFUSED else s.plainWrite who r v
  | .otp .OTP_CMD => if v.getLsbD 0 then s.otpProgram who else s
  | .hm .HM_PCI_CMD | .hm .HM_PCI_MSIX => if who = .host then (s.plainWrite who r v).icTimers else s
  | .hm (.HM_MSIX_TABLE _) => (s.plainWrite who r v).icTimers
  | .hm .HM_DB_POST => s.via (execMbPost (v.setWidth 16))
  | .hm .HM_DB_FREE => s.via (execMbFree (v.setWidth 16))
  | _ => s.plainWrite who r v

/-- Whether a write takes effect: of the tiles', outside the shadow compares of their own plane, only the active plane's do (15 R485);
none made through Window T does (16 R510). -/
def State.writes (s : State) (who : Who) (r : Reg) : Bool :=
  s.acts who || (who != .windowT && (match r with | .port _ (.EW_RISE _ _) => true | .port _ (.EW_FALL _ _) => true | .port _ .EW_COMMIT => true | _ => false))

/-- A write of a register from the fabric or a host port. -/
def State.busWrite (s : State) (who : Who) (r : Reg) (v : Word) : State :=
  let s := if r = IC_COMPLETE then s.noteWrite who v else s
  if s.writes who r then
    match r with
    | .clk _ | .tb _ | .tpo _ _ | .tcap _ _ | .tsp _ _ | .eth _ _ | .mdio _ => s.timeWrite who r v
    | .port _ _ | .sdf _ _ | .sdc _ | .fb _ _ => s.portWrite who r v
    | .ld n _ => s.loopWrite who n r v
    | .pln _ | .arm _ _ | .stp _ _ | .ust _ _ | .kn _ _ => s.motionWrite who r v
    | .stk _ | .ic _ => s.stackWrite who r v
    | .si _ | .ch _ | .cp _ _ | .pc _ | .lk _ | .otp _ | .hm _ => s.systemWrite who r v
  else s

/-- The w1c bits of a register that the device sets in the cycle in which software clears them end set (R8). -/
def State.keepSet (s : State) (r : Reg) (w : Word) : State := if w = 0 then s else s.wr r (s.rd r ||| w)

/-- REGISTER_WRITE: a write under the access codes (R7); a field with a row of its own takes its write by the meaning of that row. Bits
that stand in the register and in `same` were set in this cycle and stay set (R8). A write through Window T is discarded and sets T_WRITE
(16 R510). -/
def execRegisterWrite (who : Who) (r : Reg) (v same : Word) (s : State) : Host.Outcome State Fault Refusal :=
  if who = .windowT then .next (s.flag HM_DB_STAT.T_WRITE)
  else match r with
    | .ic (.IC_SW_CLR k) => execIcSwClr who k v same s
    | _ => .next ((s.busWrite who r v).keepSet r (s.rd r &&& same &&& r.w1cMask))

/-- The bits of IC_TGT that show a target asleep, for every source that names it, and ready (11 R370, R383). -/
def State.icTgtWord (s : State) (t : Fin 64) : Word :=
  let w := s.rd (IC_TGT t)
  let tile := s.tile (tileOf s.activePlane (fin 16 t.val))
  let named := (finList 512).filter (fun n => s.icTarget n == some t)
  let asleep := !named.isEmpty && named.all (fun n => s.icAsleep n)
  let ready := !w.getLsbD 16 && (if t.val < 16 then tile.task.isSome && tile.sr.getLsbD 6
    else if t = 16 then !s.ic.hearthWaits && s.is HM_STAT.HEARTH_UP else decide (32 ≤ t.val) && s.vectorReady (t.val - 32))
  putBits (putBits w 17 1 (if asleep then 1 else 0)) 18 1 (if ready then 1 else 0)

/-- The MSI-X pending bits: vectors that a pending source names (11 R380). -/
def State.pba (s : State) : Word :=
  BitVec.ofNat 32 (((finList 32).map (fun v =>
    if (finList 512).any (fun n => s.get (IC_SRC_CFG.TKIND n) == 2 && s.get (IC_SRC_CFG.TARGET n) % 32 == v.val && s.is (icPend n)) then 2 ^ v.val else 0)).sum)

/-- RST_STAT: the cause of the last reset and what the keep-alive domain shows (19 R606; log 42). -/
def State.rstStat (s : State) : Word :=
  let b := fun (x : Bool) (k : Nat) => if x then 2 ^ k else 0
  let p := s.pwr
  BitVec.ofNat 32 (p.cause % 8 + b p.stuck 3 + b p.kaValid 4 + b p.pulseQual 5 + p.maxHold % 64 * 64 + b p.kaSupply 12)

/-- The word a read returns, without its effects: what registers that show a live value show, zero for wo bits (R7). -/
def State.peek (s : State) (r : Reg) : Word :=
  match r with
  | .clk .PIN_STAT => putBits (s.rd r) 0 5 s.drivenGroups
  | .tb .TB_NOW_NS => BitVec.ofNat 32 (nsOf s.cell)
  | .fb n .FB_POS_LO => lo48 (s.fb n).pos
  | .ld n .LD_ADDR => s.loopAddr n
  | .arm a .ARM_RATE => s.rateWord a
  | .arm a .ARM_STAT => s.armStat a
  | .ch .CH_STAT => putBits (s.rd r) 9 2 s.violRun
  | .cp _ .CP_MAP => putBits (s.rd r) 0 3 s.ownCell
  | .kn k .KN_STAT => s.knStat k
  | .kn k .KN_BUSY => (s.busyUp k).rd r
  | .kn k (.KC_BOUND c) => BitVec.ofNat 32 (s.kcBound k c)
  | .ic (.IC_TGT t) => s.icTgtWord t
  | .pc .PC_XFER => if s.planeState 0 = 2 ∨ s.planeState 1 = 2 then (if (finList 2).all (fun p => s.planeState p ≠ 2 || s.pc.swept.contains p) then 0 else Config.sweepLeft s.fresh &&& 0x0FFFFFFF) else 0
  | .hm (.HM_SLOTS h) => s.slotStates h
  | .hm .HM_EVT_FILL => BitVec.ofNat 32 s.evts.length
  | .hm (.HM_MSIX_PBA k) => if k = 0 then s.pba else 0
  | .lk .LK_NEXT_LO => BitVec.ofNat 32 s.lk.next
  | .lk .LK_OLDEST_LO => BitVec.ofNat 32 s.lkOldest
  | .lk .LK_OPTIME_LO => BitVec.ofNat 32 s.optime
  | .lk .LK_UNFLUSHED => BitVec.ofNat 32 s.unflushed
  | .lk .LK_PCYCLE => BitVec.ofNat 32 s.pwr.pcycle
  | .clk .RST_STAT => s.rstStat
  | .clk .RST_HELD => BitVec.ofNat 32 s.pwr.heldMs
  | .ic (.IC_SW_SET k) => s.rd (IC_SW k)
  | .ic (.IC_SW_CLR k) => s.rd (IC_SW k)
  | _ => s.rd r &&& ~~~r.woMask

/-- A read of a register with its effects: rc fields clear, latches take the other half, destructive reads remove (R7, R8, R162). -/
def State.busRead (s : State) (who : Who) (r : Reg) : State :=
  let plain := fun (s : State) =>
    let w := s.peek r
    let s := match r with | .pc .PC_XFER => s.useFresh | .kn k .KN_BUSY => s.busyUp k | _ => s
    ((if r.rcMask = 0 then s else s.wr r (s.rd r &&& ~~~r.rcMask))).answer [w]
  if s.acts who then
    match r with
    | .tb .TB_NOW_NS => s.via execTbNowRead
    | .tcap n .TCAP_HEAD_NS => s.via (execTcapHeadRead n)
    | .fb n .FB_POS_LO => s.via (execFbPosLoRead n)
    | .fb n .CMP_HIT_NS => s.via (execCmpHitNsRead n)
    | .ic (.IC_CLAIM t) => if (who = .hearth ∧ t = 16) ∨ (who = .host ∧ 32 ≤ t.val) then s.via (execIcClaimRead t) else plain s
    | .lk .LK_NEXT_LO => s.via (execLkIndexLoRead .next)
    | .lk .LK_OLDEST_LO => s.via (execLkIndexLoRead .oldest)
    | .lk .LK_OPTIME_LO => s.via (execLkIndexLoRead .optime)
    | .hm .HM_EVT_HEAD => s.eventRead
    | _ => plain s
  else s.answer [s.peek r]

/-- A byte of the Locket ring in MRAM: behind the header area of 4 KiB, records lie by index in 48-byte slots (17 R537). -/
def State.ringByte (s : State) (a : Nat) : Option Byte :=
  let o := a - 0x1000
  let k := if a < 0x1000 then lkRingSlots else o / 48
  if k < lkRingSlots then
    match s.lk.ring.find? (fun (q : Nat × Rec) => q.1 % lkRingSlots == k) with
    | some (i, r) => (s.recImage i r)[o % 48]?
    | none => none
  else none

/-- A word of memory as the fabric reads it. -/
def State.fabricWord (s : State) (a : Nat) : Word :=
  if 0x20000000 ≤ a ∧ a < 0x20100000 then
    BitVec.ofNat 32 (ofLeBytes ((List.range 4).map (fun i => (s.ringByte (a + i - 0x20000000)).getD (memRead s.mem (a + i)))))
  else s.mword a

/-- The fabric address that an offset of Window T shows (16 R528); none for an unmapped offset. -/
def windowAddr (o : Nat) : Option Nat :=
  let at_ := fun (lo size base : Nat) => if lo ≤ o ∧ o < lo + size then some (base + (o - lo)) else none
  if 0x060B00 ≤ o ∧ o < 0x060C00 then none
  else if 0x060C00 ≤ o ∧ (o < 0x060C08 ∨ 0x060C10 ≤ o) ∧ o < 0x061000 then none
  else
    (at_ 0x000000 0x10000 0x30000000).or <| (at_ 0x010000 0x10000 0x30020000).or <| (at_ 0x020000 0x1000 0x30080000).or <|
    (at_ 0x030000 0x8000 0x30090000).or <| (at_ 0x040000 0x10000 0x30030000).or <| (at_ 0x050000 0x10000 0x30040000).or <|
    (at_ 0x060000 0x1000 0x30010000).or <| (at_ 0x070000 0x10000 0x30050000).or <| (at_ 0x100000 0x40000 0x40000000).or <|
    (at_ 0x140000 0x40000 0x41000000).or <| (at_ 0x180000 0x50000 0x42000000).or <| (at_ 0x1D0000 0x1000 0x42100000).or <|
    (at_ 0x200000 0x40000 0x43000000).or (at_ 0x240000 0x10000 0x44000000)

/-- A byte of the Locket volatile buffer: 5,461 slots of 48 bytes by index, the last 16 bytes unused (17 R537). -/
def State.bufByte (s : State) (o : Nat) : Byte :=
  match s.lk.buf.find? (fun (q : Nat × Rec) => q.1 % lkBufSlots == o / 48) with
  | some (i, r) => if o / 48 < lkBufSlots then (s.recImage i r).getD (o % 48) 0 else 0
  | none => 0

/-- Registers whose read removes or takes something up, which Window T does not map (16 R528). -/
def destructive : Reg → Bool
  | .ic (.IC_CLAIM _) | .hm _ => true
  | _ => false

/-- The word at an offset of Window T, without side effect: a register's word, schedule memory, the Locket ring and the volatile buffer;
zero where nothing is mapped (16 R528). -/
def State.windowWord (s : State) (o : Nat) : Word :=
  if 0x800000 ≤ o ∧ o < 0x900000 then s.fabricWord (0x20000000 + (o - 0x800000))
  else if 0x900000 ≤ o ∧ o < 0x940000 then BitVec.ofNat 32 (ofLeBytes ((List.range 4).map (fun i => s.bufByte (o - 0x900000 + i))))
  else match windowAddr o with
    | none => 0
    | some a =>
      if 0x30048000 ≤ a ∧ a < 0x30050000 then s.mword a
      else match regAt s.activePlane a with
        | some r => if destructive r then 0 else s.peek r
        | none => 0

/-- Whether Window T maps a register. -/
def inWindowT (r : Reg) : Bool :=
  !destructive r && [(0x30000000, 0x10000), (0x30020000, 0x10000), (0x30080000, 0x1000), (0x30090000, 0x8000), (0x30030000, 0x10000),
    (0x30040000, 0x10000), (0x30010000, 0xB00), (0x30010C08, 8), (0x30050000, 0x10000), (0x40000000, 0x40000), (0x41000000, 0x40000),
    (0x42000000, 0x50000), (0x42100000, 0x1000), (0x43000000, 0x40000), (0x44000000, 0x10000)].any
    (fun (q : Nat × Nat) => decide (q.1 ≤ r.addr ∧ r.addr < q.1 + q.2))

/-- A read of a register by any reader: through Window T it has no effect on the device (16 R528). -/
def State.viewRead (s : State) (who : Who) (r : Reg) : State :=
  if who = .windowT then s.answer [if inWindowT r then s.peek r else 0] else s.busRead who r

/-- Whether the rc field of a register is a largest value seen; the others count. -/
def isMaxReg : Reg → Bool
  | .ld _ .LD_CYC_MAX | .ld _ .LD_RES_MAX | .stk (.STK_QSTAT _) | .stk (.STK_QWAIT _) | .stk (.STK_TS1 _) => true
  | _ => false

/-- An rc field read in the cycle in which the device has updated it from `before`: the read returns `before`, and the update is kept: a
count keeps what it was raised by, which is 1 where it stood at its largest value, a largest value the new value (R8). The accesses of tiles and
of mailbox commands have no such word: of an access and an update in one cycle R8 prescribes what the access and then the update leave, so their
commands are put before that of the update (log 61). -/
def State.readSame (s : State) (r : Reg) (before : Word) : State :=
  let w := s.rd r
  let m := r.rcMask
  let kept := if isMaxReg r then w &&& m else if before &&& m = m then 1 else ((w &&& m) - (before &&& m)) &&& m
  (s.wr r ((w &&& ~~~m) ||| kept)).answer [(s.peek r &&& ~~~m) ||| (before &&& m)]

/-- READ_CLEAR: a read returns the register, then its rc fields clear (R7); a register whose read does more does it. A read through Window T
returns the word of a register that the window maps, else zero, and has no effect (16 R528). -/
def execReadClear (who : Who) (r : Reg) (before : Option Word) (s : State) : Host.Outcome State Fault Refusal :=
  .next (match before with
    | some w => if s.acts who ∧ r.rcMask ≠ 0 then s.readSame r w else s.viewRead who r
    | none => s.viewRead who r)

/-- The visible bytes of a DRAM channel: inline ECC keeps an eighth of the fitted capacity, 1 to 8 GiB (20 R615). -/
def dramVisible (ch : Nat) : Nat := (1 + Config.dramFitted ch % 8) * 2 ^ 30 * 7 / 8

/-- Whether an address lies in memory that the fabric reaches (R17): pool, MRAM, the visible part of each DRAM channel (20 R615), schedule
memory. -/
def memAddr (a : Nat) : Bool :=
  (decide (0x10000000 ≤ a) && decide (a < 0x12000000)) || (decide (0x20000000 ≤ a) && decide (a < 0x20400000)) ||
    (decide (0x30048000 ≤ a) && decide (a < 0x30050000)) || (decide (0x8000000000 ≤ a) && decide (a < 0x8000000000 + dramVisible 0)) ||
    (decide (0x8200000000 ≤ a) && decide (a < 0x8200000000 + dramVisible 1))

/-- The plane whose shadow compares a master addresses. -/
def whoPlane : Who → Fin 2
  | .tile t => planeOf t
  | _ => 0

/-- The place in the fabric of an address as a master has it: a tile's address is its own view (R18). -/
def whoAddr (who : Who) (a : Nat) : Nat := match who with | .tile t => planeAddr (planeOf t) a | _ => a

/-- A word read at a fabric address: the state that has answered, or none for the fabric's error (R17). A tile's address is its own
view (R18). DESIGN CHOICE (log 46): an address that is not a multiple of 4 is answered with the fabric's error, which a register-access
command of the host reports as 0x0008; R17 says nothing of such an access. -/
def State.fabricRead (s : State) (who : Who) (a : Nat) : Option State :=
  if a % 4 ≠ 0 then none
  else if memAddr (whoAddr who a) then some (s.answer [s.fabricWord (whoAddr who a)])
  else if 0x30072000 ≤ a ∧ a < 0x30074000 then some (s.answer [s.otpWord ((a - 0x30072000) / 4)])
  else if 0x300A0000 ≤ a ∧ a < 0x300B0000 then some ((s.answer [Config.mailPage s.fresh]).useFresh)
  else match regAt (whoPlane who) a with
    | some r => some (s.busRead who r)
    | none => none

/-- A word written at a fabric address, or none for the fabric's error, also for an address that is not a multiple of 4 (DESIGN CHOICE, log
46); schedule memory takes writes only while the node is
disabled (14 R459). -/
def State.fabricWrite (s : State) (who : Who) (a : Nat) (v : Word) : Option State :=
  if a % 4 ≠ 0 then none
  else if 0x30048000 ≤ a ∧ a < 0x30050000 then some (if s.acts who then s.schedWrite (a - 0x30048000) (leBytes 4 v.toNat) else s)
  else if memAddr (whoAddr who a) then
    match who with
    | .tile t =>
      if 0x20000000 ≤ a ∧ a < 0x20400000 then some (if s.acts who then s.mput a v else s)
      else some (s.mput (planeAddr (planeOf t) a) v)
    | _ => some (s.mput a v)
  else if (0x30072000 ≤ a ∧ a < 0x30074000) ∨ (0x300A0000 ≤ a ∧ a < 0x300B0000) then some s
  else match regAt (whoPlane who) a with
    | some r => some (s.busWrite who r v)
    | none => none

end Sys2Proof.Machine
end

