-- ==== Sys2Proof/Machine/Mailbox.lean ====
section
/-! DEFINITION. Zynura's side of the mailbox: how a slot is taken and ended, and what every command does with registers (16 R512 to R519). -/

namespace Sys2Proof.Machine

open Sys2Proof

/-- Whether a payload length is an opcode's; none when the opcode is not listed (R518, R521 to R526; 18 R556, R557). -/
def opcodeLength (op count : Nat) : Option (Nat → Bool) :=
  let eq := fun (n : Nat) => some (fun (p : Nat) => p == n)
  match op with
  | 0x0301 => eq (4 + 104 * count)
  | 0x0302 | 0x0303 | 0x0305 => eq 4
  | 0x0304 => eq 0
  | 0x0310 => eq 20
  | 0x0311 => eq 2
  | 0x0320 => eq 8
  | 0x0401 | 0x0402 => eq 4
  | 0x0403 | 0x0405 => eq 0
  | 0x0404 => some (fun p => decide (8 ≤ p))
  | 0x0501 | 0x0504 => eq 0
  | 0x0502 => eq 12
  | 0x0503 | 0x0505 => eq 4
  | 0x0506 => eq 16
  | 0x0510 => eq 36
  | 0x0511 => eq 8
  | 0x0512 => eq 2
  | 0x0601 => eq 9
  | 0x0602 | 0x0603 => eq 0
  | 0x0604 => eq 16
  | 0x0605 => eq 6
  | 0x0701 => eq 8
  | 0x0702 => some (fun p => decide (4 ≤ p))
  | 0x0703 | 0x0704 | 0x0705 | 0x0706 => eq 0
  | 0x0220 => eq 0
  | 0x0221 => eq 1
  | 0x0222 => eq 1792
  | 0x0225 => eq 8
  | 0x0101 => eq 0
  | _ =>
    let g := op / 256
    if (g = 1 ∨ g = 2 ∨ (8 ≤ g ∧ g ≤ 11)) ∧ Config.opListed op then some (Config.opLength op)
    else none

/-- The level item that the address of an opcode must carry, where its table gives one (R521 to R525; 18 R556). -/
def opcodeLevel (op : Nat) : Option Nat :=
  match op with
  | 0x0310 | 0x0311 | 0x0320 => some 0x1A
  | 0x0220 | 0x0221 | 0x0222 => some 0x1D
  | _ =>
    let g := op / 256
    if g = 3 then some 0x1B else if 4 ≤ g ∧ g ≤ 7 then some 0x1D else none

/-- The opcode of a slot (R518). -/
def MbSlot.op (x : MbSlot) : Nat := x.hdr 0 2
/-- The place address of a command. -/
def MbSlot.addr (x : MbSlot) : Word := BitVec.ofNat 32 (x.hdr 4 4)
/-- The length of its payload. -/
def MbSlot.plen (x : MbSlot) : Nat := x.hdr 8 2

/-- The arm, joint and joint port that a command's address names; the zone is ignored (R14). -/
def MbSlot.armNo (x : MbSlot) : Fin 8 := fin 8 (getBits x.addr 10 3)
/-- See `MbSlot.armNo`. -/
def MbSlot.portNo (x : MbSlot) : Fin 64 := portOf x.armNo (fin 8 (getBits x.addr 7 3))

/-- The failure codes of a command header: one for each check of R518 that fails. -/
def MbSlot.headerCodes (x : MbSlot) : List Nat :=
  let len := opcodeLength x.op (x.arg 0 4)
  (if x.hdr 2 2 < 4096 ∧ x.hdr 10 1 = 2 ∧ x.hdr 11 1 < 2 ∧ x.hdr 16 12 = 0 then [] else [0x0001])
    ++ (if (crc32c (memReadN x.cmd 0x10 28 ++ x.payload 0 (min x.plen 2000))).toNat = x.hdr 28 4 then [] else [0x0002])
    ++ (if len.isNone then [0x0003] else [])
    ++ (if decide (x.plen ≤ 2000) && (match len with | some f => f x.plen | none => true) then [] else [0x0004])

/-- Whether the address of a command is in order and of the opcode's level (R13, R518, R519). -/
def MbSlot.addressOk (x : MbSlot) : Bool :=
  addrOk x.addr && (match opcodeLevel x.op with | some i => getBits x.addr 0 5 == i | none => true)

/-- The opcodes that the recovery interface serves: the identity group, and an update of component 1 (18 R561). -/
def MbSlot.inRecovery (x : MbSlot) : Bool :=
  x.op / 256 == 1 || (x.op == 0x0701 && x.arg 0 1 == 1) || x.op == 0x0702 || x.op == 0x0703 || x.op == 0x0704

/-- A 16-bit CRC, polynomial 0x1021, initial value 0xFFFF (R531; log 40). -/
def mxCrc (bs : List Byte) : Nat :=
  (bs.foldl (fun (c : BitVec 16) (b : Byte) =>
    iter (fun (c : BitVec 16) => if c.getLsbD 15 then (c <<< 1) ^^^ 0x1021 else c <<< 1) 8 (c ^^^ (b.setWidth 16 <<< 8))) 0xFFFF).toNat

/-- The MX-16 opcode of a slot of HCI-1, its length in words, and bytes of its payload (R531). -/
def MbSlot.mxOp (x : MbSlot) : Nat := x.hdr 0 1
/-- See `MbSlot.mxOp`. -/
def MbSlot.mxLen (x : MbSlot) : Nat := x.hdr 2 2
/-- See `MbSlot.mxOp`. -/
def MbSlot.mxArg (x : MbSlot) (o n : Nat) : Nat := x.hdr (4 + o) n

/-- The payload words that an MX-16 opcode has; none when it is not listed (R531). -/
def mxLength (op : Nat) : Option Nat := if op = 0x10 ∨ op = 0x11 then some 4 else if op = 0x01 ∨ op = 0x12 ∨ op = 0x13 ∨ op = 0x20 then some 0 else none

/-- The failure codes of an MX-16 frame: a wrong check value, or a length that is not the opcode's (R519, R531; log 40). -/
def MbSlot.frameCodes (x : MbSlot) : List Nat :=
  let n := x.mxLen
  (if n ≤ 1000 ∧ mxCrc (memReadN x.cmd 0x10 (4 + 2 * n)) = x.hdr (4 + 2 * n) 2 then [] else [0x0002])
    ++ (match mxLength x.mxOp with | some m => if n = m then [] else [0x0004] | none => [])

/-- The opcode group whose order a slot's command keeps; an MX-16 command counts by the action it maps to (R515, R531). -/
def MbSlot.group (x : MbSlot) : Nat :=
  if x.qspi then (if x.mxOp = 0x20 then 5 else if x.mxOp = 0x01 then 1 else if (mxLength x.mxOp).isSome then 3 else 0x100) else x.op / 256

/-- A slot taken: its header fails and it enters ERROR, or it is BUSY; an address error, and an opcode that the port does not offer,
already have their result (R512, R518, R519). -/
def State.takeSlot (s : State) (k : Fin 16) : State :=
  let x := s.slot k
  match (if x.qspi then x.frameCodes else x.headerCodes) with
  | [] =>
    let off := if x.qspi then (mxLength x.mxOp).isNone else s.boot.recovery && !x.inRecovery
    let out := if !x.qspi && !x.addressOk then some (0x0005, []) else if off then some (0x000B, []) else none
    (s.setSlot k { x with state := 2, out := out }).updMail (fun m => { m with posted := m.posted.filter (· ≠ k), taken := m.taken ++ [k] })
  | [c] => s.endSlot k 15 c []
  | cs => (s.endSlot k 15 (cs.getD (Config.pickCode s.fresh % cs.length) 1) []).useFresh

/-- Whether Hearth serves the mailbox: Zynura is up, or Kindling serves the recovery interface (R517; 18 R561). -/
def State.serves (s : State) : Bool := s.is HM_STAT.HEARTH_UP || s.boot.recovery

/-- MB_TAKE: while Hearth is up Zynura takes the slot posted first, and is not in its wait state (R515, R517; 11 R370). -/
def execMbTake (s : State) : Host.Outcome State Fault Refusal :=
  match s.mb.posted with
  | [] => .next s
  | k :: _ => .next (if s.serves then { s with ic := { s.ic with hearthWaits := false } }.takeSlot k else s)

/-- Whether a slot's command is the first of its group among those taken (R515). -/
def State.firstOfGroup (s : State) (k : Fin 16) : Bool :=
  (s.mb.taken.find? (fun j => (s.slot j).group == (s.slot k).group)) == some k

/-- Whether a command still waits although its result is known: a flush in progress (R524), a release held (R343, R515). -/
def State.resultWaits (s : State) (k : Fin 16) : Bool :=
  let x := s.slot k
  (x.op == 0x0603 && s.lk.flush.isSome) || (match x.holds with | some v => s.stk.held.contains (.host v) | none => false)

/-- MB_DONE: the result is written in full and the slot enters DONE, or EMPTY when a reset of its port has dropped it (R508, R512,
R515, R516). -/
def execMbDone (k : Fin 16) (s : State) : Host.Outcome State Fault Refusal :=
  let x := s.slot k
  match x.out with
  | some (c, r) => .next (if x.state = 2 ∧ s.firstOfGroup k ∧ s.resultWaits k = false then s.endSlot k 3 c r else s)
  | none => .next s

/-- Whether Zynura runs a slot's command now: the slot is BUSY, has no result, carries an opcode of the row, and is first of its group. -/
def State.runsNow (s : State) (k : Fin 16) (op : Nat → Bool) : Bool :=
  let x := s.slot k
  x.state == 2 && x.out.isNone && !x.qspi && op x.op && s.firstOfGroup k && s.serves

/-- The result of a slot's command, which MB_DONE shows (R513). -/
def State.setOut (s : State) (k : Fin 16) (c : Nat) (r : List Byte) : State := s.setSlot k { s.slot k with out := some (c, r), holds := none }

/-- The release of the host that a command has left held (10 R343), the last that Stack holds. -/
def State.heldBy (s t : State) : Option Word :=
  if t.stk.held = s.stk.held then none
  else (t.stk.held.filterMap (fun h => match h with | .host v => some v | _ => none)).getLast?

/-- The state that a slot's command has left, with its result: MB_DONE shows it once a release that the command has left held is taken (10 R343;
R515). -/
def State.cmdEnd (s t : State) (k : Fin 16) (c : Nat) (r : List Byte) : State :=
  let t' := t.setOut k c r
  t'.setSlot k { t'.slot k with holds := s.heldBy t }

/-- A command: what it does with the state and its payload, with the result code and the result. -/
def State.runCmd (s : State) (k : Fin 16) (op : Nat → Bool) (f : State → MbSlot → State × Nat × List Byte) : State :=
  if s.runsNow k op then
    match f s (s.slot k) with
    | (t, c, r) => s.cmdEnd t k c (if c = 0 then r else [])
  else s

/-- The flags by which a block reports that it refused a write (03 to 19). -/
def refusalFlags : Reg → List Field
  | .clk _ => [ISL_STAT.SEL_REFUSED, PIN_STAT.REL_REFUSED]
  | .tb _ => [TB_STAT.RATE_REFUSED, TB_STAT.STEP_REFUSED]
  | .tpo n _ => [TPO_STAT.ARM_REFUSED n, TPO_STAT.BADCFG n]
  | .eth p _ => [ETH_STAT.CFG_REFUSED p]
  | .mdio _ => [ETH_MDIO_STAT.REFUSED]
  | .port n _ => [PWM_FLAGS.ARM_REFUSED n, PWM_FLAGS.CFG_REFUSED n, TRIP_STAT.CLR_REFUSED n]
  | .sdf n _ => [SDF_STAT.CFG_REFUSED n]
  | .sdc _ => [SDC_STAT.CFG_REFUSED]
  | .fb n _ => [FB_STAT.CFG_REFUSED n]
  | .ld n _ => [LD_STAT.CFG_REFUSED n, LD_STAT.BANK_REFUSED n, LD_STAT.SWAP_REFUSED n, LD_STAT.CLR_REFUSED n]
  | .arm a _ => [ARM_STAT.CFG_REFUSED a, ARM_STAT.CLR_REFUSED a]
  | .stp i _ => [STP_STAT.CFG_REFUSED i, STP_STAT.Q_FULL i]
  | .ust i _ => [STP_STAT.CFG_REFUSED i]
  | .stk _ => [STK_STAT.CMD_REFUSED, STK_STAT.CFG_REFUSED]
  | .ic _ => [IC_STAT.CFG_REFUSED]
  | .ch _ => [CH_STAT.CFG_REFUSED]
  | .pc _ => [PC_STAT.CMD_REFUSED]
  | .lk _ => [LK_STAT.CFG_REFUSED]
  | .otp _ => [OTP_STAT.CMD_REFUSED]
  | .tcap _ _ | .tsp _ _ | .pln _ | .kn _ _ | .si _ | .cp _ _ | .hm _ => []

/-- A change together with whether it raised one of some flags; a flag that was set before stays set. -/
def State.watch (s : State) (fs : List Field) (f : State → State) : State × Bool :=
  let old := fs.filter s.is
  let t := f (fs.foldl (fun (s : State) x => s.put x 0) s)
  (old.foldl (fun (s : State) x => s.put x 1) t, fs.any t.is)

/-- Whether a written word has a 1 in a reserved bit; the upper half of a 48-bit value may repeat its sign (R162). -/
def reservedSet (r : Reg) (v : Word) : Bool :=
  let m := r.rwMask ||| r.w1cMask ||| r.w1sMask ||| r.rcMask ||| r.rwlMask ||| r.woMask ||| r.roMask
  let bad := v &&& ~~~m
  bad != 0 && !(m == 0xFFFF && bad == 0xFFFF0000 && v.getLsbD 15)

/-- A register write carried by a command, with its result code (18 R558): a sealed field 0x0006, a refusal by the block the code given;
the device ignores what is written to reserved bits (00 R6). The OTP controller sees Hearth write (18 R550). DESIGN CHOICE (log 61): a command
that ends with 0x0006 writes nothing at all, so that the unsealed command bits of PC_CTRL in the same word do not act, while a tile's store of
that word lets them act; R558 says only how the command ends. -/
def State.rawWriteAs (s : State) (r : Reg) (v : Word) (code : Nat) : State × Nat :=
  if s.sealedWrite r then (s, 0x0006)
  else
    match s.watch (refusalFlags r) (fun s => s.busWrite (if r = OTP_CMD then .hearth else .host) r v) with
    | (t, true) => (t, code)
    | (t, false) => (t, 0)

/-- A field of a command that goes to a register: a reserved bit of it that is 1 ends the command with 0x0008 (R519). -/
def State.cmdWriteAs (s : State) (r : Reg) (v : Word) (code : Nat) : State × Nat :=
  if reservedSet r v then (s, 0x0008) else s.rawWriteAs r v code

/-- A register written whole by a command that names it: REG_WRITE and the register blocks of group 0x02 (R526; log 39). -/
def State.rawWrite (s : State) (r : Reg) (v : Word) : State × Nat :=
  s.useFresh.rawWriteAs r v (if Config.pickCode s.fresh % 2 = 0 then 0x0007 else 0x0008)

/-- Several such writes, up to the first that does not end with 0. -/
def State.rawWrites (s : State) : List (Reg × Word) → State × Nat
  | [] => (s, 0)
  | (r, v) :: t => match s.rawWrite r v with
    | (u, 0) => u.rawWrites t
    | (u, c) => (u, c)

/-- A register write whose refusal is returned as 0x0007 or 0x0008 (R521; log 39). -/
def State.cmdWrite (s : State) (r : Reg) (v : Word) : State × Nat :=
  s.useFresh.cmdWriteAs r v (if Config.pickCode s.fresh % 2 = 0 then 0x0007 else 0x0008)

/-- Several register writes, up to the first that does not end with 0. -/
def State.cmdWrites (s : State) : List (Reg × Word) → State × Nat
  | [] => (s, 0)
  | (r, v) :: t => match s.cmdWrite r v with
    | (u, 0) => u.cmdWrites t
    | (u, c) => (u, c)

/-- Register reads by Zynura; what the model shows as the last answer is kept. -/
def State.cmdReads (s : State) (rs : List Reg) : State × List Byte :=
  let (t, bs) := rs.foldl (fun (q : State × List Byte) r =>
    let u := q.1.busRead .host r
    (u, q.2 ++ leBytes 4 (u.rdata.headD 0).toNat)) (s, [])
  (t.answer s.rdata, bs)

/-- A command that ends with a code and no result. -/
def plain (q : State × Nat) : State × Nat × List Byte := (q.1, q.2, [])

end Sys2Proof.Machine
end

