-- ==== Sys2Proof/Machine/CmdMotion.lean ====
section
/-! DEFINITION. The motion and the safety group of the mailbox commands (16 R521, R522). -/

namespace Sys2Proof.Machine

open Sys2Proof

/-- A move record (06 R210), with whether it is malformed: a reserved field is not zero, or START of a TIMED move is a malformed timestamp
(02 R53). -/
def moveOfBytes (b : List Byte) : Move × Bool :=
  let f := fun (o n : Nat) => ofLeBytes ((b.drop o).take n)
  let fl := f 7 1
  ({ id := f 4 2, kind := f 6 1, blend := fl.testBit 0, start := if fl.testBit 1 then some (timeOf (f 24 8) (f 32 4) 0) else none
     replace := fl.testBit 2, jmask := f 8 1, vfrac := f 10 2, afrac := f 12 2, blendUs := f 16 4, dwellUs := f 20 4
     tgt := jointList.map (fun j => signed 48 (f (40 + 8 * j.val) 6)) },
   decide (8 ≤ fl ∨ (fl.testBit 1 ∧ 999999999 < f 32 4) ∨ f 9 1 ≠ 0 ∨ f 14 2 ≠ 0 ∨ f 36 4 ≠ 0) || jointList.any (fun j => f (46 + 8 * j.val) 2 != 0))

/-- The result code of a verdict on a move record (R519; log 39). -/
def moveCode (v : Nat) : Nat := if v = 0 then 0 else if v = 1 then 0x000A else if v = 2 ∨ v = 5 then 0x0008 else 0x0007

/-- Records offered in order until one is refused (R521): the state, the number accepted, the code of the refusal. -/
def State.offerMoves (s : State) (a : Fin 8) (addr : Nat) : List (List Byte) → Nat → State × Nat × Nat
  | [], n => (s, n, 0)
  | b :: t, n =>
    let (m, reserved) := moveOfBytes b
    if ofLeBytes (b.take 4) ≠ addr then (s, n, 0x0005)
    else match s.offerMove a m reserved with
      | (u, 0) => u.offerMoves a addr t (n + 1)
      | (u, v) => (u, n, moveCode v)

/-- MOVE_PUSH (0x0301): the records accepted, and the code of the first refusal, after which none is offered (R521; 06 R211). -/
def execMovePush (k : Fin 16) (s : State) : Host.Outcome State Fault Refusal :=
  .next (s.runCmd k (· == 0x0301) (fun s x =>
    let n := x.arg 0 4
    if n = 0 ∨ 16 < n then (s, 0x0008, [])
    else
      let (t, acc, code) := s.offerMoves x.armNo x.addr.toNat ((List.range n).map (fun i => x.payload (4 + 104 * i) 104)) 0
      (t, 0, leBytes 4 acc ++ leBytes 2 code)))

/-- ARM_CMD (0x0302): 1 pauses, 2 resumes, 3 aborts, 4 clears (R521; 06 R225). -/
def execArmCmd (k : Fin 16) (s : State) : Host.Outcome State Fault Refusal :=
  .next (s.runCmd k (· == 0x0302) (fun s x =>
    let c := x.arg 0 4
    if c = 0 ∨ 4 < c then (s, 0x0008, [])
    else plain (s.cmdWriteAs (ARM_CTRL x.armNo) (BitVec.ofNat 32 (2 ^ c) ||| (s.rd (ARM_CTRL x.armNo) &&& 0x1E1)) 0x0007)))

/-- ARM_ENABLE (0x0303): EN, SYNC and SYNC_EN of the arm (R521; 06 R207, R221). -/
def execArmEnable (k : Fin 16) (s : State) : Host.Outcome State Fault Refusal :=
  .next (s.runCmd k (· == 0x0303) (fun s x =>
    let v := x.arg 0 4
    if 32 ≤ v then (s, 0x0008, [])
    else plain (s.cmdWriteAs (ARM_CTRL x.armNo) (BitVec.ofNat 32 (v % 2 + v / 2 % 8 * 32 + v / 16 * 256)) 0x0007)))

/-- The four words of an arm's status (R521). -/
def State.armStatus (s : State) (a : Fin 8) : State × Nat × List Byte :=
  let (t, bs) := s.cmdReads [ARM_STAT a, ARM_QDEPTH a, ARM_LAMBDA a, ARM_DONE_ID a]
  (t, 0, bs)

/-- ARM_STATUS (0x0304). -/
def execArmStatus (k : Fin 16) (s : State) : Host.Outcome State Fault Refusal :=
  .next (s.runCmd k (· == 0x0304) (fun s x => s.armStatus x.armNo))

/-- ARM_OVERRIDE (0x0305) writes ARM_OVR (R521). -/
def execArmOverride (k : Fin 16) (s : State) : Host.Outcome State Fault Refusal :=
  .next (s.runCmd k (· == 0x0305) (fun s x => plain (s.cmdWrite (ARM_OVR x.armNo) (x.word 0))))

/-- The axis that a step command names, when the address is that of its joint (R521; log 39). -/
def State.stepAxisOf (s : State) (x : MbSlot) : Option (Fin 16) :=
  let i : Fin 16 := fin 16 (x.arg 0 1)
  if x.arg 0 1 < 16 ∧ s.axisJoint i = x.portNo then some i else none

/-- STEP_MOVE (0x0310): target, speed and STP_MV_CMD with PUSH set; the status is returned (R521; 06 R230). -/
def execStepMove (k : Fin 16) (s : State) : Host.Outcome State Fault Refusal :=
  .next (s.runCmd k (· == 0x0310) (fun s x =>
    match s.stepAxisOf x with
    | none => (s, if x.arg 0 1 < 16 then 0x0005 else 0x0008, [])
    | some i =>
      let tgt := signed 48 (x.arg 4 6)
      if x.arg 1 3 ≠ 0 ∨ x.arg 4 8 ≠ unsignedOf 64 tgt then (s, 0x0008, [])
      else
        match s.cmdWrites [(STP_MV_TGT_LO i, lo48 tgt), (STP_MV_TGT_HI i, hi48 tgt), (STP_MV_V i, x.word 12)] with
        | (t, 0) =>
          match t.cmdWriteAs (STP_MV_CMD i) (x.word 16 ||| 1) 0x000A with
          | (t, 0) => let (u, bs) := t.cmdReads [STP_STAT i]; (u, 0, bs)
          | (t, c) => (t, c, [])
        | (t, c) => (t, c, [])))

/-- STEP_CMD (0x0311): STOP, ABORT and CLR of an axis (R521). -/
def execStepCmd (k : Fin 16) (s : State) : Host.Outcome State Fault Refusal :=
  .next (s.runCmd k (· == 0x0311) (fun s x =>
    match s.stepAxisOf x with
    | none => (s, if x.arg 0 1 < 16 then 0x0005 else 0x0008, [])
    | some i =>
      if 8 ≤ x.arg 1 1 then (s, 0x0008, [])
      else plain (s.cmdWriteAs (STP_CTRL i) (BitVec.ofNat 32 (x.arg 1 1 * 4) ||| (s.rd (STP_CTRL i) &&& 3)) 0x0007)))

/-- TORQUE_REF (0x0320): the references of the joint's current loop, committed with the present PERIOD_CNT (R521; 05 R182). -/
def execTorqueRef (k : Fin 16) (s : State) : Host.Outcome State Fault Refusal :=
  .next (s.runCmd k (· == 0x0320) (fun s x =>
    let d := curLoop x.portNo
    if 2 ^ 24 ≤ x.arg 0 4 ∨ 2 ^ 24 ≤ x.arg 4 4 then (s, 0x0008, [])
    else
      let per := (s.rd PERIOD_CNT).toNat % 2 ^ 16
      match s.watch [LD_STAT.CFG_REFUSED d] (fun s =>
          [(LD_REF_D d, x.word 0), (LD_REF_Q d, x.word 4), (LD_REF_COMMIT d, BitVec.ofNat 32 per)].foldl
            (fun (s : State) (q : Reg × Word) => s.busWrite .host q.1 q.2) s) with
      | (t, true) => (t, 0x0007, [])
      | (t, false) => (t, 0, leBytes 4 per)))

/-- SAFE_REQ (0x0401): SI_REQ is written; whether the island acts shows at its commit (R522; 12 R412). -/
def execSafeReq (k : Fin 16) (s : State) : Host.Outcome State Fault Refusal :=
  .next (s.runCmd k (· == 0x0401) (fun s x => plain (s.cmdWrite SI_REQ (x.word 0))))

/-- SAFE_TOKEN (0x0402): SI_TOKEN is written (R522; 12 R424). -/
def execSafeToken (k : Fin 16) (s : State) : Host.Outcome State Fault Refusal :=
  .next (s.runCmd k (· == 0x0402) (fun s x => plain (s.cmdWrite SI_TOKEN (x.word 0))))

/-- SAFE_STATUS (0x0403) (R522). -/
def execSafeStatus (k : Fin 16) (s : State) : Host.Outcome State Fault Refusal :=
  .next (s.runCmd k (· == 0x0403) (fun s _ =>
    let (t, bs) := s.cmdReads ([SI_STAT, SI_LOCK, SI_INPUTS, SI_OUTPUTS] ++ (finList 8).map (fun a => SI_ARM_STAT a))
    (t, 0, bs)))

/-- The slot of a parameter set that is not active (18 R579). -/
def State.stageSlot (s : State) : Fin 2 := if s.si.slot = some 0 then 1 else 0

/-- The bytes of the set in a slot, of a given length. -/
def State.setBytes (s : State) (k : Fin 2) (n : Nat) : List Byte := s.mread (slotAddr k) n

/-- The signature of a set, by the key slot it names; a customer slot while COSIGN_REQ (12 R389, R391). -/
def State.setSigned (s : State) (bs : List Byte) : Bool :=
  let key := leAt bs 34 1
  let customer := key.testBit 2
  s.sigOk (!customer) (key % 4) (bs.take 64 ++ bs.drop 128) ((bs.drop 64).take 64) && (customer || !s.is OTP_STAT.COSIGN_REQ)

/-- The verification of a staged set (R522; 12 R391, R392): the code and the state, which records what came of it (17 R545). -/
def State.verifySet (s : State) (k : Fin 2) (n : Nat) : State × Nat :=
  let bs := s.setBytes k n
  let gen := leAt bs 20 4
  let code := if s.setSigned bs = false then 0x000C
    else if (match s.si.set with | some p => decide (gen ≤ p.gen.toNat) | none => false) then 0x0007
    else if (PSet.ofBytes bs s.cellAddr).isNone then 0x0008
    else 0
  let s := if code = 0 then { s with si := { s.si with staged := some k } }.put SI_STAT.STAGED 1 else s
  ((s.flag SI_EVT.PSET).siRecord 0x0205 ([if code = 0 then 0 else 1, 0] ++ leBytes 4 gen), code)

/-- PSET_STAGE (0x0404): a chunk of a set is written into the slot that is not active; chunks come in order without a gap, and the one
that completes the length starts the verification (R522; 18 R579). -/
def execPsetStage (k : Fin 16) (s : State) : Host.Outcome State Fault Refusal :=
  .next (s.runCmd k (· == 0x0404) (fun s x =>
    let o := x.arg 0 4
    let total := x.arg 4 4
    let n := x.plen - 8
    let inOrder := o = 0 ∨ s.mb.staging = some (total, o)
    if ¬inOrder ∨ 524288 < total ∨ total < o + n then (s, 0x0008, [])
    else
      let j := s.stageSlot
      let s := if o = 0 then { s with si := { s.si with staged := none } }.put SI_STAT.STAGED 0 else s
      let s := s.mwrite (slotAddr j + o) (x.payload 8 n)
      if o + n < total then (s.updMail (fun m => { m with staging := some (total, o + n) }), 0, leBytes 8 0)
      else
        let (t, c) := (s.updMail (fun m => { m with staging := none })).verifySet j total
        (t, c, t.mread (slotAddr j + 16) 8)))

/-- PSET_INFO (0x0405): identities of the active and of the staged set, zero when there is none (R522). -/
def execPsetInfo (k : Fin 16) (s : State) : Host.Outcome State Fault Refusal :=
  .next (s.runCmd k (· == 0x0405) (fun s _ =>
    let staged := match s.si.staged with | some j => s.mread (slotAddr j + 16) 8 | none => leBytes 8 0
    (s, 0, leBytes 4 (s.rd SI_PSET_ID).toNat ++ leBytes 4 (s.rd SI_PSET_GEN).toNat ++ staged)))

end Sys2Proof.Machine
end

