-- ==== Sys2Proof/Machine/Ember.lean ====
section
/-! DEFINITION. The native instructions of an Ember tile (08; 09 R306 to R331). Every meaning issues the instruction on the tile
the command names, at the tile's present address (log 25): in the mode, slot and repeat it stands in, through the pipeline. -/

namespace Sys2Proof.Machine

open Sys2Proof

/-- A branch at the present instruction: two delay slots (R292, R315). -/
def Tile.branch (x : Tile) (slots : Nat) (target : Option Nat) (toMx : Bool) (link : Option Bool) : Tile :=
  { x with br := some { left := slots, target := target, toMx := toMx, link := link } }

/-- A branch target: the branch's own address and an offset in units (R315). -/
def Tile.rel (x : Tile) (off : BitVec 16) (unit : Int) : Nat := ((x.pc : Int) + unit * off.toInt).toNat % 2 ^ 40

/-- Words of the four data registers of a quad group. -/
def Tile.quad (x : Tile) (g : Fin 4) : List Word := (List.range 4).map (fun i => wordOfD (x.rd (fin 16 (4 * g.val + i))))

/-- A three-operand data operation through the pipeline (R322). -/
def State.dataOp (s : State) (t : Fin 32) (size : Nat) (sat : Bool) (dd : Fin 16) (f : Tile → Res 24) : State :=
  s.native t size (fun x => (f x).writes sat 1 (.d dd))

/-- An accumulator operation through the pipeline (R325). -/
def State.accOp (s : State) (t : Fin 32) (sat : Bool) (ad : Fin 4) (f : Tile → Res 56) : State :=
  s.native t 4 (fun x => (f x).writes sat 1 (.a ad))

/-- A multiply of register words (R326 to R329). -/
def State.mulRegs (s : State) (t : Fin 32) (op : MulOp) (sat : Bool) (lanes : List (Fin 4 × Nat × Bool)) (xs : Tile → List Word) (y : Fin 16) : State :=
  s.native t 4 (fun x => (MemAct.mul op sat lanes).writes x 1 (xs x) [wordOfD (x.rd y)])

/-- A multiply of memory operands: the X operand of some words, the Y word (R309, R326 to R329). -/
def State.mulMem (s : State) (t : Fin 32) (op : MulOp) (sat : Bool) (lanes : List (Fin 4 × Nat × Bool)) (y x : EShort) (nx : Nat) : State :=
  s.issue t false false 4 1 (fun s => s.access t 1 (.mul op sat lanes) ((s.tile t).saddr false x) nx (some ((s.tile t).saddr true y, 1)))

/-- The lanes of `dmac` (R328). -/
def dmacLanes (p sw neg1 neg0 : Bool) : List (Fin 4 × Nat × Bool) :=
  [(fin 4 (2 * p.toNat), sw.toNat, neg0), (fin 4 (2 * p.toNat + 1), 1 - sw.toNat, neg1)]

/-- The lanes of `qmac` (R329). -/
def qmacLanes (neg : BitVec 4) : List (Fin 4 × Nat × Bool) := (finList 4).map (fun i => (i, i.val, neg.getLsbD i.val))

/-- V or S for results that left their format (R288). -/
def ovfWrites (lat : Nat) (sat ovf : Bool) : List (Nat × EWrite) := if ovf then [(lat, if sat then .s else .v)] else []

/-- One selection of R330: candidates ds + du and dt - du. -/
def acsWrites (x : Tile) (larger sat : Bool) (dd ds dt du : Fin 16) : List (Nat × EWrite) :=
  let c0 := narrow 24 sat ((x.rd ds).toInt + (x.rd du).toInt)
  let c1 := narrow 24 sat ((x.rd dt).toInt - (x.rd du).toInt)
  let k := acsPick larger c0.1 c1.1
  [(3, .d dd k.1), (3, .ctl 1 ((x.tr <<< 1) ||| BitVec.ofNat 32 k.2.toNat))] ++ ovfWrites 3 sat (c0.2 || c1.2)

/-- The two selections of R330. -/
def acs2Writes (x : Tile) (larger sat : Bool) (dd ds dt du : Fin 16) : List (Nat × EWrite) :=
  let c0 := narrow 24 sat ((x.rd ds).toInt + (x.rd du).toInt)
  let c1 := narrow 24 sat ((x.rd dt).toInt - (x.rd du).toInt)
  let e0 := narrow 24 sat ((x.rd ds).toInt - (x.rd du).toInt)
  let e1 := narrow 24 sat ((x.rd dt).toInt + (x.rd du).toInt)
  let k := acsPick larger c0.1 c1.1
  let m := acsPick larger e0.1 e1.1
  [(3, .d dd k.1), (3, .d (dd + 1) m.1), (3, .ctl 1 ((x.tr <<< 2) ||| BitVec.ofNat 32 (2 * k.2.toNat + m.2.toNat)))]
    ++ ovfWrites 3 sat (c0.2 || c1.2 || e0.2 || e1.2)

/-- A register `mov` names, as 40 bits: data registers and modifiers sign-extended, lengths and control registers zero-extended
(R321). -/
def Tile.readReg (x : Tile) (t : Fin 32) : EReg → BitVec 40
  | .d n => (x.rd n).signExtend 40
  | .p n => x.rp n
  | .b n => x.rb n
  | .l n => (x.rl n).setWidth 40
  | .m n => (x.rm n).signExtend 40
  | .ctl n => (x.rctl t n).setWidth 40

/-- The write of 40 bits into a register `mov` names, with its latency (R290, R321). -/
def regWrite (v : BitVec 40) : EReg → Nat × EWrite
  | .d n => (1, .d n (v.setWidth 24))
  | .p n => (3, .p n v)
  | .b n => (3, .b n v)
  | .l n => (3, .l n (lenOf (v.setWidth 18)))
  | .m n => (3, .m n (v.setWidth 24))
  | .ctl n => if n = 0 then (1, .sr srMask (v.setWidth 32)) else (3, .ctl n (v.setWidth 32))

/-- Whether a move names a control register it may not: isrc, tcyc and tid as a destination, 10 to 15 (R284, R321). -/
def movIllegal (rd rs : EReg) : Bool :=
  (match rs with | .ctl n => decide (10 ≤ n.val) | _ => false) ||
  (match rd with | .ctl n => decide (n.val = 5 ∨ n.val = 7 ∨ n.val = 8 ∨ 10 ≤ n.val) | _ => false)

/-- Whether a move is one to sr (R292). -/
def movToSr (rd : EReg) : Bool := match rd with | .ctl n => n == 0 | _ => false

/-- The end of a task at tend or the MX-16 halt: Stack is told, and a valid slot starts chained, but never behind an untimed task
(R301, R305, R349, R353). -/
def State.taskEnd (s : State) (t : Fin 32) : State :=
  let timed := match (s.tile t).task with | some n => !s.untimed n | none => false
  let s := (s.ticks t 1).endRun t .tend
  match (s.tile t).slot with
  | some q => if timed && q.chain && !q.waits then s.startSlot t else s
  | none => s

/-- `nop` (R314). -/
def execNop (t : Fin 32) (s : State) : Host.Outcome State Fault Refusal :=
  .next (s.native t 4 (fun _ => []))

/-- `tend` ends the task; it has no delay slots (R301, R349). -/
def execTend (t : Fin 32) (s : State) : Host.Outcome State Fault Refusal :=
  .next (s.gate t false true 4 (fun s => s.taskEnd t))

/-- `reti`: two delay slots under the handler's sr, then the instruction at ipc with sr taken from isr (R297, R305). -/
def execReti (t : Fin 32) (s : State) : Host.Outcome State Fault Refusal :=
  .next (s.nativeCtl t (fun x => { x with br := some { left := 2, target := some x.ipc.toNat, reti := true } }))

/-- `rpt #n`: the next instruction issues n + 1 times (R294). -/
def execRptImm (t : Fin 32) (n : Fin 4096) (s : State) : Host.Outcome State Fault Refusal :=
  .next (s.nativeCtl t (fun x => { x with rep := some (n.val + 1) }))

/-- `rpt dn`: the count is [11:0] of dn as read in RD (R294, R314). -/
def execRptReg (t : Fin 32) (dn : Fin 16) (s : State) : Host.Outcome State Fault Refusal :=
  .next (s.nativeCtl t (fun x => { x with rep := some (getBits ((x.rd dn).setWidth 32) 0 12 + 1) }))

/-- `ei`: a move to sr at latency 1 (R314). -/
def execEi (t : Fin 32) (s : State) : Host.Outcome State Fault Refusal :=
  .next (s.nativeCtl t (fun x => x.queue [(1, .sr 0x40 0x40)]))

/-- `di`: a move to sr at latency 1 (R314). -/
def execDi (t : Fin 32) (s : State) : Host.Outcome State Fault Refusal :=
  .next (s.nativeCtl t (fun x => x.queue [(1, .sr 0x40 0)]))

/-- `clrst` clears V and S (R314). -/
def execClrst (t : Fin 32) (s : State) : Host.Outcome State Fault Refusal :=
  .next (s.nativeCtl t (fun x => x.queue [(1, .sr 0x30 0)]))

/-- `setrnd #k` (R314). -/
def execSetrnd (t : Fin 32) (k : Fin 4) (s : State) : Host.Outcome State Fault Refusal :=
  .next (s.nativeCtl t (fun x => x.queue [(1, .sr 0x300 (BitVec.ofNat 32 (256 * k.val)))]))

/-- `b cc`: taken when the condition holds; the codes 13 to 15 are reserved (R315, R316). -/
def execBCc (t : Fin 32) (cc : Fin 16) (off : BitVec 16) (s : State) : Host.Outcome State Fault Refusal :=
  .next (s.issue t false true 4 1 (State.illegalIf (decide (13 ≤ cc.val)) t (fun s =>
    let x := s.tile t
    s.setTile t (x.branch 2 (if condHolds x.sr cc then some (x.rel off 4) else none) false none))))

/-- `call`: lr takes the address after the second delay slot (R315). -/
def execCall (t : Fin 32) (off : BitVec 16) (s : State) : Host.Outcome State Fault Refusal :=
  .next (s.nativeCtl t (fun x => x.branch 2 (some (x.rel off 4)) false (some false)))

/-- `jmp pn` (R315). -/
def execJmp (t : Fin 32) (pn : Fin 8) (s : State) : Host.Outcome State Fault Refusal :=
  .next (s.nativeCtl t (fun x => x.branch 2 (some (x.rp pn).toNat) false none))

/-- `callr pn` (R315). -/
def execCallr (t : Fin 32) (pn : Fin 8) (s : State) : Host.Outcome State Fault Refusal :=
  .next (s.nativeCtl t (fun x => x.branch 2 (some (x.rp pn).toNat) false (some false)))

/-- `ret` (R315). -/
def execRet (t : Fin 32) (s : State) : Host.Outcome State Fault Refusal :=
  .next (s.nativeCtl t (fun x => x.branch 2 (some x.lr.toNat) false none))

/-- `dbnz`: dn less 1 at latency 1, no flags; taken when the new value is not 0 (R315). -/
def execDbnz (t : Fin 32) (dn : Fin 16) (off : BitVec 16) (s : State) : Host.Outcome State Fault Refusal :=
  .next (s.nativeCtl t (fun x =>
    let v := x.rd dn - 1
    (x.queue [(1, .d dn v)]).branch 2 (if v = 0 then none else some (x.rel off 4)) false none))

/-- `mxcall`: two native delay slots, lr takes the return address plus 1, and the target runs in MX mode (R305, R315). -/
def execMxcall (t : Fin 32) (off : BitVec 16) (s : State) : Host.Outcome State Fault Refusal :=
  .next (s.nativeCtl t (fun x => x.branch 2 (some (x.rel off 2)) true (some true)))

/-- `ld dn` (R279, R281, R318). -/
def execLd (t : Fin 32) (dn : Fin 16) (m : EMem) (s : State) : Host.Outcome State Fault Refusal :=
  .next (s.issue t false false (memSize m) 1 (fun s => s.access t 1 (.load (.d dn)) ((s.tile t).eaddr m) 1 none))

/-- `st dn` (R279, R281, R311, R318). -/
def execSt (t : Fin 32) (dn : Fin 16) (m : EMem) (s : State) : Host.Outcome State Fault Refusal :=
  .next (s.issue t false false (memSize m) 1 (fun s =>
    let x := s.tile t
    s.storeWords t (x.eaddr m) ([wordOfD (x.rd dn)])))

/-- `ldd an` (R279, R281, R318). -/
def execLddA (t : Fin 32) (an : Fin 4) (m : EMem) (s : State) : Host.Outcome State Fault Refusal :=
  .next (s.issue t false false (memSize m) 1 (fun s => s.access t 1 (.load (.a an)) ((s.tile t).eaddr m) 2 none))

/-- `std an` (R279, R281, R311, R318). -/
def execStdA (t : Fin 32) (an : Fin 4) (m : EMem) (s : State) : Host.Outcome State Fault Refusal :=
  .next (s.issue t false false (memSize m) 1 (fun s =>
    let x := s.tile t
    s.storeWords t (x.eaddr m) (wordsOfA (x.ra an))))

/-- `ldq` (R279, R281, R318). -/
def execLdq (t : Fin 32) (g : Fin 4) (m : EMem) (s : State) : Host.Outcome State Fault Refusal :=
  .next (s.issue t false false (memSize m) 1 (fun s => s.access t 1 (.load (.q g)) ((s.tile t).eaddr m) 4 none))

/-- `stq` (R279, R281, R311, R318). -/
def execStq (t : Fin 32) (g : Fin 4) (m : EMem) (s : State) : Host.Outcome State Fault Refusal :=
  .next (s.issue t false false (memSize m) 1 (fun s =>
    let x := s.tile t
    s.storeWords t (x.eaddr m) (x.quad g)))

/-- `ldd pn` (R279, R281, R318). -/
def execLddP (t : Fin 32) (pn : Fin 8) (m : EMem) (s : State) : Host.Outcome State Fault Refusal :=
  .next (s.issue t false false (memSize m) 1 (fun s => s.access t 1 (.load (.p pn)) ((s.tile t).eaddr m) 2 none))

/-- `std pn` (R279, R281, R311, R318). -/
def execStdP (t : Fin 32) (pn : Fin 8) (m : EMem) (s : State) : Host.Outcome State Fault Refusal :=
  .next (s.issue t false false (memSize m) 1 (fun s =>
    let x := s.tile t
    s.storeWords t (x.eaddr m) (wordsOfP (x.rp pn))))

/-- `ldd bn` (R279, R281, R318). -/
def execLddB (t : Fin 32) (bn : Fin 8) (m : EMem) (s : State) : Host.Outcome State Fault Refusal :=
  .next (s.issue t false false (memSize m) 1 (fun s => s.access t 1 (.load (.b bn)) ((s.tile t).eaddr m) 2 none))

/-- `std bn` (R279, R281, R311, R318). -/
def execStdB (t : Fin 32) (bn : Fin 8) (m : EMem) (s : State) : Host.Outcome State Fault Refusal :=
  .next (s.issue t false false (memSize m) 1 (fun s =>
    let x := s.tile t
    s.storeWords t (x.eaddr m) (wordsOfP (x.rb bn))))

/-- `ld ln` (R279, R281, R318). -/
def execLdL (t : Fin 32) (ln : Fin 8) (m : EMem) (s : State) : Host.Outcome State Fault Refusal :=
  .next (s.issue t false false (memSize m) 1 (fun s => s.access t 1 (.load (.l ln)) ((s.tile t).eaddr m) 1 none))

/-- `st ln`, zero-extended (R279, R281, R311, R318). -/
def execStL (t : Fin 32) (ln : Fin 8) (m : EMem) (s : State) : Host.Outcome State Fault Refusal :=
  .next (s.issue t false false (memSize m) 1 (fun s =>
    let x := s.tile t
    s.storeWords t (x.eaddr m) ([(x.rl ln).setWidth 32])))

/-- `ld mn` (R279, R281, R318). -/
def execLdM (t : Fin 32) (mn : Fin 8) (m : EMem) (s : State) : Host.Outcome State Fault Refusal :=
  .next (s.issue t false false (memSize m) 1 (fun s => s.access t 1 (.load (.m mn)) ((s.tile t).eaddr m) 1 none))

/-- `st mn`, sign-extended (R279, R281, R311, R318). -/
def execStM (t : Fin 32) (mn : Fin 8) (m : EMem) (s : State) : Host.Outcome State Fault Refusal :=
  .next (s.issue t false false (memSize m) 1 (fun s =>
    let x := s.tile t
    s.storeWords t (x.eaddr m) ([wordOfD (x.rm mn)])))

/-- `lea`: the operand address at latency 3, with no access; the post-modify still applies (R318). -/
def execLea (t : Fin 32) (pn : Fin 8) (m : EMem) (s : State) : Host.Outcome State Fault Refusal :=
  .next (s.native t (memSize m) (fun x => (x.eaddr m).writes ++ [(3, .p pn (x.eaddr m).at_)]))

/-- `ld2`: the X word into d2k and the Y word into d2k+1 (R319). -/
def execLd2 (t : Fin 32) (k : Fin 8) (x : EShort) (y : EShort) (s : State) : Host.Outcome State Fault Refusal :=
  .next (s.issue t false false 4 1 (fun s => s.access t 1 (.load2 k) ((s.tile t).saddr false x) 1 (some ((s.tile t).saddr true y, 1))))

/-- `ldi dn` (R320). -/
def execLdiD (t : Fin 32) (dn : Fin 16) (imm : EImm) (s : State) : Host.Outcome State Fault Refusal :=
  .next (s.native t (immSize imm) (fun _ => [(1, .d dn (immVal imm))]))

/-- `ldi an`: a Q1.23 placed as by `mva` (R320). -/
def execLdiA (t : Fin 32) (an : Fin 4) (imm : BitVec 24) (s : State) : Host.Outcome State Fault Refusal :=
  .next (s.native t 8 (fun _ => [(1, .a an (BitVec.ofInt 56 (imm.toInt * 2 ^ 23)))]))

/-- `ldi pn` (R320). -/
def execLdiP (t : Fin 32) (pn : Fin 8) (imm : BitVec 40) (s : State) : Host.Outcome State Fault Refusal :=
  .next (s.native t 8 (fun _ => [(3, .p pn imm)]))

/-- `ldi bn` (R320). -/
def execLdiB (t : Fin 32) (bn : Fin 8) (imm : BitVec 40) (s : State) : Host.Outcome State Fault Refusal :=
  .next (s.native t 8 (fun _ => [(3, .b bn imm)]))

/-- `ldi ln`: [1:0] forced 0 (R320). -/
def execLdiL (t : Fin 32) (ln : Fin 8) (imm : BitVec 18) (s : State) : Host.Outcome State Fault Refusal :=
  .next (s.native t 8 (fun _ => [(3, .l ln (lenOf imm))]))

/-- `ldi mn` (R320). -/
def execLdiM (t : Fin 32) (mn : Fin 8) (imm : BitVec 24) (s : State) : Host.Outcome State Fault Refusal :=
  .next (s.native t 8 (fun _ => [(3, .m mn imm)]))

/-- `mov`: converts as R321 gives; a control register it may not name is an illegal instruction. -/
def execMov (t : Fin 32) (rd : EReg) (rs : EReg) (s : State) : Host.Outcome State Fault Refusal :=
  .next (s.issue t false (movToSr rd) 4 1 (State.illegalIf (movIllegal rd rs) t (fun s => s.queue t [regWrite ((s.tile t).readReg t rs) rd])))

/-- `add` (R322). -/
def execAdd (t : Fin 32) (sat : Bool) (dd ds dt : Fin 16) (s : State) : Host.Outcome State Fault Refusal :=
  .next (s.dataOp t 4 sat dd (fun x => aluRes 24 0 sat (x.rd ds) (x.rd dt) x.carry))

/-- `sub` (R322). -/
def execSub (t : Fin 32) (sat : Bool) (dd ds dt : Fin 16) (s : State) : Host.Outcome State Fault Refusal :=
  .next (s.dataOp t 4 sat dd (fun x => aluRes 24 1 sat (x.rd ds) (x.rd dt) x.carry))

/-- `cmp`: nothing written, never V or S (R324). -/
def execCmp (t : Fin 32) (sat : Bool) (ds dt : Fin 16) (s : State) : Host.Outcome State Fault Refusal :=
  .next (s.dataOp t 4 sat 0 (fun x => aluRes 24 2 sat (x.rd ds) (x.rd dt) x.carry))

/-- `neg` (R322). -/
def execNeg (t : Fin 32) (sat : Bool) (dd ds : Fin 16) (s : State) : Host.Outcome State Fault Refusal :=
  .next (s.dataOp t 4 sat dd (fun x => aluRes 24 3 sat (x.rd ds) (0) x.carry))

/-- `abs` (R322). -/
def execAbs (t : Fin 32) (sat : Bool) (dd ds : Fin 16) (s : State) : Host.Outcome State Fault Refusal :=
  .next (s.dataOp t 4 sat dd (fun x => aluRes 24 4 sat (x.rd ds) (0) x.carry))

/-- `min` (R322). -/
def execMin (t : Fin 32) (dd ds dt : Fin 16) (s : State) : Host.Outcome State Fault Refusal :=
  .next (s.dataOp t 4 false dd (fun x => aluRes 24 5 false (x.rd ds) (x.rd dt) x.carry))

/-- `max` (R322). -/
def execMax (t : Fin 32) (dd ds dt : Fin 16) (s : State) : Host.Outcome State Fault Refusal :=
  .next (s.dataOp t 4 false dd (fun x => aluRes 24 6 false (x.rd ds) (x.rd dt) x.carry))

/-- `and` (R322). -/
def execAnd (t : Fin 32) (dd ds dt : Fin 16) (s : State) : Host.Outcome State Fault Refusal :=
  .next (s.dataOp t 4 false dd (fun x => aluRes 24 7 false (x.rd ds) (x.rd dt) x.carry))

/-- `or` (R322). -/
def execOr (t : Fin 32) (dd ds dt : Fin 16) (s : State) : Host.Outcome State Fault Refusal :=
  .next (s.dataOp t 4 false dd (fun x => aluRes 24 8 false (x.rd ds) (x.rd dt) x.carry))

/-- `xor` (R322). -/
def execXor (t : Fin 32) (dd ds dt : Fin 16) (s : State) : Host.Outcome State Fault Refusal :=
  .next (s.dataOp t 4 false dd (fun x => aluRes 24 9 false (x.rd ds) (x.rd dt) x.carry))

/-- `not` (R322). -/
def execNot (t : Fin 32) (dd ds : Fin 16) (s : State) : Host.Outcome State Fault Refusal :=
  .next (s.dataOp t 4 false dd (fun x => aluRes 24 10 false (x.rd ds) (0) x.carry))

/-- `asl` (R323). -/
def execAsl (t : Fin 32) (sat : Bool) (dd ds dt : Fin 16) (s : State) : Host.Outcome State Fault Refusal :=
  .next (s.dataOp t 4 sat dd (fun x => aluRes 24 11 sat (x.rd ds) (x.rd dt) x.carry))

/-- `asr` (R323). -/
def execAsr (t : Fin 32) (dd ds dt : Fin 16) (s : State) : Host.Outcome State Fault Refusal :=
  .next (s.dataOp t 4 false dd (fun x => aluRes 24 12 false (x.rd ds) (x.rd dt) x.carry))

/-- `lsr` (R323). -/
def execLsr (t : Fin 32) (dd ds dt : Fin 16) (s : State) : Host.Outcome State Fault Refusal :=
  .next (s.dataOp t 4 false dd (fun x => aluRes 24 13 false (x.rd ds) (x.rd dt) x.carry))

/-- `addc` (R322). -/
def execAddc (t : Fin 32) (sat : Bool) (dd ds dt : Fin 16) (s : State) : Host.Outcome State Fault Refusal :=
  .next (s.dataOp t 4 sat dd (fun x => aluRes 24 14 sat (x.rd ds) (x.rd dt) x.carry))

/-- `subc` (R322). -/
def execSubc (t : Fin 32) (sat : Bool) (dd ds dt : Fin 16) (s : State) : Host.Outcome State Fault Refusal :=
  .next (s.dataOp t 4 sat dd (fun x => aluRes 24 15 sat (x.rd ds) (x.rd dt) x.carry))

/-- `addi`: dd is also the first source (R322). -/
def execAddi (t : Fin 32) (sat : Bool) (dd : Fin 16) (imm : EImm) (s : State) : Host.Outcome State Fault Refusal :=
  .next (s.dataOp t (immSize imm) sat dd (fun x => aluRes 24 0 sat (x.rd dd) (immVal imm) x.carry))

/-- `cmpi`: dd is also the first source (R322). -/
def execCmpi (t : Fin 32) (sat : Bool) (dd : Fin 16) (imm : EImm) (s : State) : Host.Outcome State Fault Refusal :=
  .next (s.dataOp t (immSize imm) sat dd (fun x => aluRes 24 2 sat (x.rd dd) (immVal imm) x.carry))

/-- `andi`: dd is also the first source (R322). -/
def execAndi (t : Fin 32) (dd : Fin 16) (imm : EImm) (s : State) : Host.Outcome State Fault Refusal :=
  .next (s.dataOp t (immSize imm) false dd (fun x => aluRes 24 7 false (x.rd dd) (immVal imm) x.carry))

/-- `ori`: dd is also the first source (R322). -/
def execOri (t : Fin 32) (dd : Fin 16) (imm : EImm) (s : State) : Host.Outcome State Fault Refusal :=
  .next (s.dataOp t (immSize imm) false dd (fun x => aluRes 24 8 false (x.rd dd) (immVal imm) x.carry))

/-- `xori`: dd is also the first source (R322). -/
def execXori (t : Fin 32) (dd : Fin 16) (imm : EImm) (s : State) : Host.Outcome State Fault Refusal :=
  .next (s.dataOp t (immSize imm) false dd (fun x => aluRes 24 9 false (x.rd dd) (immVal imm) x.carry))

/-- `asli` (R322, R323). -/
def execAsli (t : Fin 32) (sat : Bool) (dd : Fin 16) (x : Bool) (k : Fin 32) (s : State) : Host.Outcome State Fault Refusal :=
  .next (s.dataOp t (if x then 8 else 4) sat dd (fun x => aluRes 24 11 sat (x.rd dd) (BitVec.ofNat 24 k.val) x.carry))

/-- `asri` (R322, R323). -/
def execAsri (t : Fin 32) (dd : Fin 16) (x : Bool) (k : Fin 32) (s : State) : Host.Outcome State Fault Refusal :=
  .next (s.dataOp t (if x then 8 else 4) false dd (fun x => aluRes 24 12 false (x.rd dd) (BitVec.ofNat 24 k.val) x.carry))

/-- `lsri` (R322, R323). -/
def execLsri (t : Fin 32) (dd : Fin 16) (x : Bool) (k : Fin 32) (s : State) : Host.Outcome State Fault Refusal :=
  .next (s.dataOp t (if x then 8 else 4) false dd (fun x => aluRes 24 13 false (x.rd dd) (BitVec.ofNat 24 k.val) x.carry))

/-- `adda` (R325). -/
def execAdda (t : Fin 32) (sat : Bool) (ad as_ : Fin 4) (s : State) : Host.Outcome State Fault Refusal :=
  .next (s.accOp t sat ad (fun x => addRes 56 sat (x.ra ad) (x.ra as_) false))

/-- `suba` (R325). -/
def execSuba (t : Fin 32) (sat : Bool) (ad as_ : Fin 4) (s : State) : Host.Outcome State Fault Refusal :=
  .next (s.accOp t sat ad (fun x => subRes 56 sat (x.ra ad) (x.ra as_) false))

/-- `nega` (R325). -/
def execNega (t : Fin 32) (sat : Bool) (ad as_ : Fin 4) (s : State) : Host.Outcome State Fault Refusal :=
  .next (s.accOp t sat ad (fun x => negRes 56 sat (x.ra as_)))

/-- `absa` (R325). -/
def execAbsa (t : Fin 32) (sat : Bool) (ad as_ : Fin 4) (s : State) : Host.Outcome State Fault Refusal :=
  .next (s.accOp t sat ad (fun x => absRes 56 sat (x.ra as_)))

/-- `clr`: each accumulator of the mask (R325). -/
def execClr (t : Fin 32) (mask : BitVec 4) (s : State) : Host.Outcome State Fault Refusal :=
  .next (s.native t 4 (fun _ => ((finList 4).filter (fun i => mask.getLsbD i.val)).map (fun i => (1, .a i 0))))

/-- `mva` (R325). -/
def execMva (t : Fin 32) (ad : Fin 4) (dn : Fin 16) (s : State) : Host.Outcome State Fault Refusal :=
  .next (s.native t 4 (fun x => [(1, .a ad (BitVec.ofInt 56 ((x.rd dn).toInt * 2 ^ 23)))]))

/-- `mvr`: rounded at bit 22 by sr.RND (R287, R325). -/
def execMvr (t : Fin 32) (sat : Bool) (dn : Fin 16) (as_ : Fin 4) (s : State) : Host.Outcome State Fault Refusal :=
  .next (s.dataOp t 4 sat dn (fun x => resOf (narrow 24 sat (roundBits x.rnd 23 (x.ra as_).toInt)) none))

/-- `asla`; a count of 56 to 63 is illegal (R325). -/
def execAsla (t : Fin 32) (sat : Bool) (ad as_ : Fin 4) (k : Fin 64) (s : State) : Host.Outcome State Fault Refusal :=
  .next (s.issue t false false 4 1 (State.illegalIf (decide (56 ≤ k.val)) t (fun s =>
    s.queue t ((aslRes 56 sat ((s.tile t).ra as_) k.val).writes sat 1 (.a ad)))))

/-- `asra`; a count of 56 to 63 is illegal (R325). -/
def execAsra (t : Fin 32) (ad as_ : Fin 4) (k : Fin 64) (s : State) : Host.Outcome State Fault Refusal :=
  .next (s.issue t false false 4 1 (State.illegalIf (decide (56 ≤ k.val)) t (fun s =>
    s.queue t ((asrRes 56 ((s.tile t).ra as_) k.val).writes false 1 (.a ad)))))

/-- `cmpa` (R324, R325). -/
def execCmpa (t : Fin 32) (sat : Bool) (ad as_ : Fin 4) (s : State) : Host.Outcome State Fault Refusal :=
  .next (s.accOp t sat ad (fun x => cmpRes 56 sat (x.ra ad) (x.ra as_)))

/-- `mova` (R325). -/
def execMova (t : Fin 32) (ad as_ : Fin 4) (s : State) : Host.Outcome State Fault Refusal :=
  .next (s.native t 4 (fun x => [(1, .a ad (x.ra as_))]))

/-- `rnda`: rounded at bit 22, [22:0] cleared (R325). -/
def execRnda (t : Fin 32) (sat : Bool) (ad as_ : Fin 4) (s : State) : Host.Outcome State Fault Refusal :=
  .next (s.accOp t sat ad (fun x => resOf (narrow 56 sat (roundBits x.rnd 23 (x.ra as_).toInt * 2 ^ 23)) none))

/-- `mpy` of registers (R326, R327). -/
def execMpy (t : Fin 32) (sat : Bool) (ad : Fin 4) (ds dt : Fin 16) (s : State) : Host.Outcome State Fault Refusal :=
  .next (s.mulRegs t .mpy sat [(ad, 0, false)] (fun x => [wordOfD (x.rd ds)]) dt)

/-- `mac` of registers (R326, R327). -/
def execMac (t : Fin 32) (sat : Bool) (ad : Fin 4) (ds dt : Fin 16) (s : State) : Host.Outcome State Fault Refusal :=
  .next (s.mulRegs t .mac sat [(ad, 0, false)] (fun x => [wordOfD (x.rd ds)]) dt)

/-- `msu` of registers (R326, R327). -/
def execMsu (t : Fin 32) (sat : Bool) (ad : Fin 4) (ds dt : Fin 16) (s : State) : Host.Outcome State Fault Refusal :=
  .next (s.mulRegs t .msu sat [(ad, 0, false)] (fun x => [wordOfD (x.rd ds)]) dt)

/-- `mpy` of memory operands (R326). -/
def execMpyMem (t : Fin 32) (sat : Bool) (ad : Fin 4) (y x : EShort) (s : State) : Host.Outcome State Fault Refusal :=
  .next (s.mulMem t .mpy sat [(ad, 0, false)] y x 1)

/-- `mac` of memory operands (R326). -/
def execMacMem (t : Fin 32) (sat : Bool) (ad : Fin 4) (y x : EShort) (s : State) : Host.Outcome State Fault Refusal :=
  .next (s.mulMem t .mac sat [(ad, 0, false)] y x 1)

/-- `msu` of memory operands (R326). -/
def execMsuMem (t : Fin 32) (sat : Bool) (ad : Fin 4) (y x : EShort) (s : State) : Host.Outcome State Fault Refusal :=
  .next (s.mulMem t .msu sat [(ad, 0, false)] y x 1)

/-- `mpyr`: the product rounded as by `mvr`, at latency 3 (R326). -/
def execMpyr (t : Fin 32) (sat : Bool) (dd ds dt : Fin 16) (s : State) : Host.Outcome State Fault Refusal :=
  .next (s.native t 4 (fun x =>
    let r := narrow 24 sat (roundBits x.rnd 23 ((x.rd ds).toInt * (x.rd dt).toInt))
    [(3, .d dd r.1)] ++ ovfWrites 3 sat r.2))

/-- `dmac` accumulating from memory (R328). -/
def execDmacMem (t : Fin 32) (sat : Bool) (p sw neg1 neg0 : Bool) (y x : EShort) (s : State) : Host.Outcome State Fault Refusal :=
  .next (s.mulMem t .mac sat (dmacLanes p sw neg1 neg0) y x 2)

/-- `dmac` accumulating from registers; an odd ds is illegal (R328). -/
def execDmacReg (t : Fin 32) (sat : Bool) (p sw neg1 neg0 : Bool) (ds dt : Fin 16) (s : State) : Host.Outcome State Fault Refusal :=
  .next (s.issue t false false 4 1 (State.illegalIf (decide (ds.val % 2 = 1)) t (fun s =>
    let x := s.tile t
    s.queue t ((MemAct.mul .mac sat (dmacLanes p sw neg1 neg0)).writes x 1 [wordOfD (x.rd ds), wordOfD (x.rd (ds + 1))] [wordOfD (x.rd dt)]))))

/-- `dmac` multiplying from memory (R328). -/
def execDmacMulMem (t : Fin 32) (sat : Bool) (p sw neg1 neg0 : Bool) (y x : EShort) (s : State) : Host.Outcome State Fault Refusal :=
  .next (s.mulMem t .mpy sat (dmacLanes p sw neg1 neg0) y x 2)

/-- `dmac` multiplying from registers; an odd ds is illegal (R328). -/
def execDmacMulReg (t : Fin 32) (sat : Bool) (p sw neg1 neg0 : Bool) (ds dt : Fin 16) (s : State) : Host.Outcome State Fault Refusal :=
  .next (s.issue t false false 4 1 (State.illegalIf (decide (ds.val % 2 = 1)) t (fun s =>
    let x := s.tile t
    s.queue t ((MemAct.mul .mpy sat (dmacLanes p sw neg1 neg0)).writes x 1 [wordOfD (x.rd ds), wordOfD (x.rd (ds + 1))] [wordOfD (x.rd dt)]))))

/-- `qmac` accumulating from memory (R329). -/
def execQmacMem (t : Fin 32) (sat : Bool) (neg : BitVec 4) (y x : EShort) (s : State) : Host.Outcome State Fault Refusal :=
  .next (s.mulMem t .mac sat (qmacLanes neg) y x 4)

/-- `qmac` accumulating from registers (R329). -/
def execQmacReg (t : Fin 32) (sat : Bool) (neg : BitVec 4) (g : Fin 4) (dt : Fin 16) (s : State) : Host.Outcome State Fault Refusal :=
  .next (s.mulRegs t .mac sat (qmacLanes neg) (fun x => x.quad g) dt)

/-- `qmac` multiplying from memory (R329). -/
def execQmacMulMem (t : Fin 32) (sat : Bool) (neg : BitVec 4) (y x : EShort) (s : State) : Host.Outcome State Fault Refusal :=
  .next (s.mulMem t .mpy sat (qmacLanes neg) y x 4)

/-- `qmac` multiplying from registers (R329). -/
def execQmacMulReg (t : Fin 32) (sat : Bool) (neg : BitVec 4) (g : Fin 4) (dt : Fin 16) (s : State) : Host.Outcome State Fault Refusal :=
  .next (s.mulRegs t .mpy sat (qmacLanes neg) (fun x => x.quad g) dt)

/-- `acs` (R330). -/
def execAcs (t : Fin 32) (sat : Bool) (dd ds dt du : Fin 16) (s : State) : Host.Outcome State Fault Refusal :=
  .next (s.native t 4 (fun x => acsWrites x true sat dd ds dt du))

/-- `acsn` (R330). -/
def execAcsn (t : Fin 32) (sat : Bool) (dd ds dt du : Fin 16) (s : State) : Host.Outcome State Fault Refusal :=
  .next (s.native t 4 (fun x => acsWrites x false sat dd ds dt du))

/-- `acs2`; an odd dd is illegal (R330). -/
def execAcs2 (t : Fin 32) (sat : Bool) (dd ds dt du : Fin 16) (s : State) : Host.Outcome State Fault Refusal :=
  .next (s.issue t false false 4 1 (State.illegalIf (decide (dd.val % 2 = 1)) t (fun s => s.queue t (acs2Writes (s.tile t) true sat dd ds dt du))))

/-- `acs2n`; an odd dd is illegal (R330). -/
def execAcs2n (t : Fin 32) (sat : Bool) (dd ds dt du : Fin 16) (s : State) : Host.Outcome State Fault Refusal :=
  .next (s.issue t false false 4 1 (State.illegalIf (decide (dd.val % 2 = 1)) t (fun s => s.queue t (acs2Writes (s.tile t) false sat dd ds dt du))))

/-- `padd`: a step with circular correction (R293, R331). -/
def execPadd (t : Fin 32) (pn : Fin 8) (imm : EImm) (s : State) : Host.Outcome State Fault Refusal :=
  .next (s.native t (immSize imm) (fun x => [(1, .p pn (x.stepP pn (immVal imm).toInt))]))

/-- `paddm`: a step by the modifier (R331). -/
def execPaddm (t : Fin 32) (pn : Fin 8) (s : State) : Host.Outcome State Fault Refusal :=
  .next (s.native t 4 (fun x => [(1, .p pn (x.stepP pn (x.rm pn).toInt))]))

/-- `paddl`: no circular correction (R331). -/
def execPaddl (t : Fin 32) (pn : Fin 8) (imm : EImm) (s : State) : Host.Outcome State Fault Refusal :=
  .next (s.native t (immSize imm) (fun x => [(1, .p pn (BitVec.ofInt 40 ((x.rp pn).toNat + (immVal imm).toInt)))]))

/-- INTERRUPT_ACCEPT: a delivered interrupt is accepted when sr.IE is 1 and the tile is in no delay slot, no repeat and no freeze;
ipc and isr are saved, IE and MX cleared, isrc latched, and the handler's first instruction issues 9 cycles on (R295, R296,
R305); for the active plane the claim is taken up (11 R369, R378). -/
def execInterruptAccept (t : Fin 32) (s : State) : Host.Outcome State Fault Refusal :=
  let x := s.tile t
  match x.req, x.task with
  | some n, some _ =>
    if x.sr.getLsbD 6 && x.br.isNone && x.rep.isNone && x.wait.isNone then
      let x := x.flush
      let x := { x with ipc := BitVec.ofNat 32 x.pc, isr := x.sr, sr := x.sr &&& 0xFFFFFF3F, isrc := BitVec.ofNat 32 n.val
                        pc := x.ivec.toNat, tcyc := x.tcyc + 9, cyc := x.cyc + 9, req := none }
      let s := s.setTile t x
      let s := s.noteIc t false n.val
      .next (if planeOf t = s.activePlane then s.icTakeUp (fin 64 (tileNo t).val) else s)
    else .next s
  | _, _ => .next s

/-- ILLEGAL_INSTRUCTION: a tile issues an undefined or reserved encoding, in either mode; a fault of its fetch comes before (R299, R307,
R332). -/
def execIllegalInstruction (t : Fin 32) (s : State) : Host.Outcome State Fault Refusal :=
  let x := s.tile t
  match x.task, x.wait with
  | some _, none => .next (s.tileFault t ((x.fetchFault (if x.mxMode then 2 else 4)).getD 1) x.pc)
  | _, _ => .next s

end Sys2Proof.Machine
end

