-- ==== Sys2Proof/Machine/Outside.lean ====
section
/-! DEFINITION. Outside accesses of the tiles (08 R281, R299; 15 R486, R487, R500). -/

namespace Sys2Proof.Machine

open Sys2Proof

/-- The words of an operand: those of tile memory, or the words read outside one by one; none for the fabric's error. -/
def State.outsideWords (s : State) (t : Fin 32) : Opnd → Option (State × List Word)
  | .words ws => some (s, ws)
  | .outside a n => (List.range n).foldl (fun (r : Option (State × List Word)) i =>
      match r with
      | none => none
      | some (s, ws) => (s.fabricRead (.tile t) (a + 4 * i)).map (fun s => (s, ws ++ [s.rdata.headD 0]))) (some (s, []))

/-- OUTSIDE_LOAD_RETURN: the data of the load a tile waits for returns, once its earlier outside stores have left; an error of the
fabric is fault 6 (R281, R299). -/
def execOutsideLoadReturn (t : Fin 32) (cycles : Nat) (error : Bool) (s : State) : Host.Outcome State Fault Refusal :=
  match (s.tile t).wait with
  | some (.load pc lat act x y) =>
    if (s.tile t).stores.isEmpty then
      let got := if error then none else match s.outsideWords t x with
        | none => none
        | some (s, xs) => (s.outsideWords t y).map (fun (q : State × List Word) => (q.1, xs, q.2))
      match got with
      | none => .next ((s.resume t cycles).tileFault t 6 pc)
      | some (s, xs, ys) => .next ((s.queue t (act.writes (s.tile t) lat xs ys)).resume t cycles)
    else .next s
  | _ => .next s

/-- A store folded into the signature of the period, or into that of the run of an untimed task (15 R487). -/
def State.signStore (s : State) (t : Fin 32) (q : OutStore) : State :=
  let bs := q.words.flatMap (fun w => leBytes 4 w.toNat)
  let pl := planeOf t
  let p := tileNo t
  if (match q.task with | some n => s.untimed n | none => false) then
    s.updPc (fun c => { c with runSigs := tset c.runSigs (pl, p) ((leBytes 5 q.addr ++ bs).foldl crc32cByte (tget c.runSigs (pl, p) (BitVec.allOnes 32))) })
  else s.foldSig pl (fin 17 p.val) q.addr bs

/-- The registers of a loop descriptor that take references and set-points (05 R179, R181). -/
def loopPost : LdReg → Bool
  | .LD_REF_D | .LD_REF_Q | .LD_REF_COMMIT | .LD_SP_POS_LO | .LD_SP_POS_HI | .LD_SP_VEL | .LD_SP_TFF | .LD_SP_COMMIT => true
  | _ => false

/-- What the plane that is not active posts to the loop table is kept beside the other's (15 R486). -/
def State.noteLoop (s : State) (t : Fin 32) (q : OutStore) : State :=
  if planeOf t = s.activePlane then s
  else q.words.zipIdx.foldl (fun s (w : Word × Nat) =>
    let v := w.1
    match regAt 0 (q.addr + 4 * w.2) with
    | some (.ld n .LD_REF_D) => s.updOther n (fun x => { x with d := v &&& 0xFFFFFF })
    | some (.ld n .LD_REF_Q) => s.updOther n (fun x => { x with q := v &&& 0xFFFFFF })
    | some (.ld n .LD_SP_POS_LO) => s.updOther n (fun x => { x with lo := v })
    | some (.ld n .LD_SP_POS_HI) => s.updOther n (fun x => { x with hi := v &&& 0xFFFF })
    | some (.ld n .LD_SP_VEL) => s.updOther n (fun x => { x with vel := v &&& 0xFFFFFF })
    | some (.ld n .LD_SP_TFF) => s.updOther n (fun x => { x with tff := v &&& 0xFFFFFF })
    | some (.ld n .LD_REF_COMMIT) => match s.refSource (.tile t) (fin 64 n.val) with
        | some m => s.otherRef n m (v.toNat % 65536)
        | none => s
    | some (.ld n .LD_SP_COMMIT) =>
      let k := s.nextStart n
      if v.toNat % 65536 = k % 65536 then
        s.updOther n (fun x => { x with sps := tset x.sps k (pair48 x.lo x.hi, x.vel.toNat, x.tff.toNat) })
      else s
    | _ => s) s

/-- Whether an address is one that two planes post an output to, other than the shadow compares, which the ports keep, and the references and
set-points, which the loop table keeps (15 R485, R486). -/
def outputAddr (a : Nat) : Bool :=
  !memAddr a && match regAt 0 a with
    | some (.port _ (.EW_RISE _ _)) => false
    | some (.port _ (.EW_FALL _ _)) => false
    | some (.port _ .EW_COMMIT) => false
    | some (.ld _ r) => !loopPost r
    | some _ => true
    | none => false

/-- Of the outputs of a tile position the latest one that only one of two running planes has made is kept (15 R486). -/
def State.noteOutput (s : State) (t : Fin 32) (q : OutStore) : State :=
  if s.runPlanes.length = 2 ∧ outputAddr q.addr then
    let pl := planeOf t
    let p := tileNo t
    s.updPc (fun c =>
      if c.ahead.any (fun (e : ((Fin 2 × Fin 16) × Nat) × List Word) => decide (e.1 = ((1 - pl, p), q.addr))) then
        { c with ahead := c.ahead.filter (fun (e : ((Fin 2 × Fin 16) × Nat) × List Word) => decide (e.1 ≠ ((1 - pl, p), q.addr))) }
      else { c with ahead := tset c.ahead ((pl, p), q.addr) q.words })
  else s

/-- What a tile posts to the loop table, by its commit: compared between the planes (15 R487). -/
def State.notePost (s : State) (t : Fin 32) (q : OutStore) : State :=
  match regAt 0 q.addr with
  | some (.ld n .LD_REF_COMMIT) =>
    s.posted (planeOf t) [n.val, 0, (q.words.headD 0).toNat % 65536]
  | some (.ld n .LD_REF_D) => s.posted (planeOf t) [n.val, 1, (q.words.headD 0).toNat % 2 ^ 24]
  | some (.ld n .LD_REF_Q) => s.posted (planeOf t) [n.val, 2, (q.words.headD 0).toNat % 2 ^ 24]
  | some (.ld n .LD_SP_POS_LO) => s.posted (planeOf t) [n.val, 3, (q.words.headD 0).toNat]
  | some (.ld n .LD_SP_POS_HI) => s.posted (planeOf t) [n.val, 4, (q.words.headD 0).toNat % 65536]
  | some (.ld n .LD_SP_VEL) => s.posted (planeOf t) [n.val, 5, (q.words.headD 0).toNat]
  | some (.ld n .LD_SP_TFF) => s.posted (planeOf t) [n.val, 6, (q.words.headD 0).toNat]
  | some (.ld n .LD_SP_COMMIT) => s.posted (planeOf t) [n.val, 7, (q.words.headD 0).toNat % 65536]
  | _ => s

/-- A store written word by word; none for the fabric's error. Memory of a plane is mirrored into one in TRANSFER (15 R500). -/
def State.storeOut (s : State) (t : Fin 32) (a : Nat) (ws : List Word) : Option State :=
  ws.zipIdx.foldl (fun (r : Option State) (q : Word × Nat) =>
    match r with
    | none => none
    | some s =>
      let b := a + 4 * q.2
      (s.fabricWrite (.tile t) b q.1).map (fun s =>
        if s.mirrored (planeOf t) ∧ ((0x10000000 ≤ b ∧ b < 0x11000000) ∨ (0x8000000000 ≤ b ∧ b < 0x8200000000)) then s.mput (planeAddr (1 - planeOf t) b) q.1
        else s)) (some s)

/-- The front store of a tile goes out: signed, written, then taken; one that fails is a fault of kind 6 as well. -/
def State.drainStore (s : State) (t : Fin 32) (q : OutStore) (rest : List OutStore) (cycles : Nat) (error : Bool) : State :=
  let s := (s.setTile t { s.tile t with stores := rest }).signStore t q
  let s := ((s.noteOutput t q).notePost t q).noteLoop t q
  match (if error then none else s.storeOut t q.addr q.words) with
  | some s => s.takeStore t cycles
  | none => (s.tileFault t 6 q.pc).takeStore t cycles

/-- OUTSIDE_STORE_DRAIN: the oldest store leaves the queue and crosses into the fabric. A release that Stack holds stays in the queue
(10 R343). An error of the fabric is fault 6 of the task that runs (R281, R299; log 35). -/
def execOutsideStoreDrain (t : Fin 32) (cycles : Nat) (error : Bool) (s : State) : Host.Outcome State Fault Refusal :=
  match (s.tile t).stores with
  | [] => .next s
  | q :: rest =>
    let v := q.words.headD 0
    let release := decide (q.addr = (STK_RELEASE).addr)
    if release ∧ s.stk.held.any (fun h => h == .store (tileNo t) v) then .next s
    else if release ∧ s.acts (.tile t) ∧ (s.stkRelease (.tile t) v).2 then .next (s.stkRelease (.tile t) v).1
    else
      .next (s.drainStore t q rest cycles error)

end Sys2Proof.Machine
end

