-- ==== Sys2Proof/Machine/PlaneSwitch.lean ====
section
/-! DEFINITION. Giving up control, planned handover, and what the blocks outside the planes do at a change of the active plane (15 R486, R493
to R498, R502; 18 R573 to R575). -/

namespace Sys2Proof.Machine

open Sys2Proof

/-- The blocks act on the new plane's outputs that they have not acted on yet (R486): the last store of each tile position to each
register, ends of runs, accepted interrupts. -/
def State.actOnPending (s : State) (p : Fin 2) : State :=
  let mine := s.pc.ahead.filter (fun (e : ((Fin 2 × Fin 16) × Nat) × List Word) => decide (e.1.1.1 = p))
  let s := s.updPc (fun c => { c with ahead := [] })
  let s := mine.foldl (fun s (e : ((Fin 2 × Fin 16) × Nat) × List Word) => (s.storeOut (tileOf p e.1.1.2) e.1.2 e.2).getD s) s
  let ended := s.stk.tasks.filter (fun (q : Fin 4096 × TaskRec) => q.2.endOf p && decide (s.taskState q.1 = 6) && !s.untimed q.1)
  let s := ended.foldl (fun s (q : Fin 4096 × TaskRec) => s.finishRun q.1) s
  (finList 16).foldl (fun s t =>
    let c : Fin 64 := fin 64 t.val
    if s.is (IC_CLAIM.VALID c) ∧ s.is (IC_CLAIM.TAKEN c) = false ∧ (s.tile (tileOf p t)).req.isNone ∧ (s.tile (tileOf p t)).isrc.toNat = s.get (IC_CLAIM.SRC c) then
      s.icTakeUp c
    else s) s

/-- The change of the active plane (R497, R498, R503): cause 0 give-up, 1 revert, 2 command. -/
def State.switchTo (s : State) (p : Fin 2) (cause : Nat) (unconf : Bool) : State :=
  let s := (s.setPlane p 5).put PC_STAT.ACTIVE p.val
  let s := s.bump PC_SWITCH_CNT
  let s := ((s.put PC_LAST_SW.PERIOD (s.periodNo % 65536)).put PC_LAST_SW.CAUSE cause).put PC_LAST_SW.REPEATED 0
  let s := s.putB PC_LAST_SW.UNCONFIRMED unconf
  ((s.updPc (fun c => { c with pend := none })).loopTableOf p).actOnPending p |>.icUnmark

/-- A plane is taken down and loaded with the image of a slot, and returns through TEST (18 R574, R575). -/
def State.reloadPlane (s : State) (p : Fin 2) (k : Fin 2) : State := ((s.planeDown p).setRuns p s.updComp k).planeTest p

/-- The update of an Ember or Kiln image goes on at a planned handover to plane p (18 R573 to R575): the first plane takes control and
the window starts; the second takes it back and the update is confirmed; after a failure the failed plane is reloaded. -/
def State.updSwitched (s : State) (p : Fin 2) : State :=
  let u := s.boot.upd
  if !s.updatesPlanes then s
  else if u.stage = 1 ∧ p = u.plane then (s.updUpd (fun u => { u with stage := 2 })).startWindow
  else if u.stage = 3 ∧ p ≠ u.plane then (s.updUpd (fun u => { u with stage := 0 })).setPhase 5 (s.dir s.updComp).1
  else if u.stage = 5 ∧ p ≠ u.plane then
    let c := s.updComp
    let k := s.newSlot
    ((s.reloadPlane u.plane (s.dir c).1).setDir c ((s.dir c).1, 0)).updUpd (fun u => { u with stage := 0 }) |>.setPhase 6 k
  else s

/-- The update fails while a plane holds the new image: control returns at the next boundary at which the other plane is in STANDBY (18
R575). -/
def State.updReturn (s : State) : State :=
  if s.updatesPlanes ∧ s.boot.upd.stage = 2 then s.updUpd (fun u => { u with stage := 5 }) else s

/-- The update ends before the new image has governed: its plane gave up, and is loaded with the previous image again (log 41). -/
def State.updDropped (s : State) : State :=
  let c := s.updComp
  let k := s.newSlot
  (((s.setRuns s.boot.upd.plane c (s.dir c).1).setDir c ((s.dir c).1, 0)).updUpd (fun u => { u with stage := 0 })).setPhase 6 k

/-- A planned handover decided at a window edge (R498): the last completed comparison matched, and the plane is in STANDBY or has met its
confirmation. Of a failed update the plane with the previous image takes control (18 R575). -/
def State.plannedHandover (s : State) : State :=
  let pend := match s.pc.pend with
    | some q => some q
    | none => if s.updatesPlanes ∧ s.boot.upd.stage = 5 ∧ s.planeState (1 - s.boot.upd.plane) = 4 then some (1 - s.boot.upd.plane, 2) else none
  match pend with
  | none => s
  | some (p, cause) =>
    let ready := s.planeState p = 4 ∨ (s.planeState p = 3 ∧ (s.rd PC_CONFIRM).toNat ≤ (s.rd PC_CONF_CNT).toNat)
    if s.pc.lastOk ∧ ready ∧ s.planeState (1 - p) = 5 then
      let s := (s.setPlane (1 - p) 4).switchTo p cause false
      (s.updPc (fun c => { c with crossing := [] })).updSwitched p
    else s

/-- A plane gives up (R493, R497): the cause is recorded, its state is DOWN. -/
def State.planeGivesUp (s : State) (p : Fin 2) : State :=
  let w := s.rd (healthReg p)
  let s := s.wr (healthReg p) (putBits w 16 16 (satAdd 16 (getBits w 16 16) 1))
  let s := s.post 0x0161 2 s.cellAddr [BitVec.ofNat 8 p.val, BitVec.ofNat 8 (getBits w 0 8), BitVec.ofNat 8 (getBits w 12 4)]
  let s := (s.planeDown p).updPc (fun c => { c with giveups := (p, s.now) :: c.giveups })
  if s.updatesPlanes ∧ p = s.boot.upd.plane then (if s.boot.upd.stage = 1 then s.updDropped else s.updReturn) else s

/-- The give-ups of a plane before the present one that lie within 24 h (R497; log 34). -/
def State.recentGiveups (s : State) (p : Fin 2) : Nat :=
  s.pc.giveups.countP (fun (q : Fin 2 × Time) => decide (q.1 = p ∧ s.now < q.2 + 86400 * secUnits)) - 1

/-- Planes give up in one fabric cycle (R493 to R497): control moves to the other plane when it is in STANDBY or SHADOW, and the ports apply
it as it crosses; else NO_PLANE. A plane that gave up returns to TEST by itself within its limit. -/
def State.giveUps (s : State) (ps : List (Fin 2)) : State :=
  let s := s.advance (s.now + 2 * nsUnits)
  let downs := ps.filter (fun p => decide (2 ≤ s.planeState p ∧ s.planeState p ≤ 5))
  let old := s.activePlane
  let had := decide (s.planeState old = 5)
  let s := downs.foldl (fun s p => s.planeGivesUp p) s
  let s :=
    if had && decide (old ∈ downs) then
      let o := 1 - old
      let st := s.planeState o
      if st = 3 ∨ st = 4 then
        let s := s.updPc (fun c => { c with crossing := finList 64, former := old, crossAt := ceilTo portUnits (s.now + 11 * nsUnits) + 4 * portUnits })
        (s.switchTo o 0 (decide (st = 3))).updSwitched o
      else s.noPlane
    else s
  downs.foldl (fun s p => if s.is PC_CTRL.AUTO_RETURN ∧ s.recentGiveups p < s.get ⟨PC_RETRY_LIM, 0, 4⟩ then s.planeTest p else s) s

/-- TASK_FAULT_REPORT: a fault reported by every running plane is recorded; one that only one of two planes reports is that plane's
finding, which makes it give up control, and its run counts as ended there (10 R359; R492, R493). Of an untimed task, whose copies do not run
in step, the report waits until both copies have ended (10 R353). -/
def execTaskFaultReport (t : Fin 16) (s : State) : Host.Outcome State Fault Refusal :=
  let bad := s.runPlanes.filterMap (fun pl => match s.headEnd (tileOf pl t) with
    | some (n, .fault c a) => some (pl, n, c, a)
    | _ => none)
  match bad with
  | [] => .next s
  | (pl, n, c, _) :: _ =>
    let both := decide (bad.length = s.runPlanes.length)
    if !both && s.untimed n && !(s.taskRec n).endOf (1 - pl) then .next s
    else
      let s := bad.foldl (fun s (q : Fin 2 × Fin 4096 × Nat × Nat) =>
        ((s.popEnd (tileOf q.1 t)).setTask q.2.1 { s.taskRec q.2.1 with fault := some q.2.2 }).mishap [2, 3]) s
      if both then
        .next ((((s.flag STK_STAT.FAULT).taskRecord n 0x0143 2 [BitVec.ofNat 8 c, BitVec.ofNat 8 t.val]).toRest n 3).wakeOf n)
      else .next (((s.setTask n ((s.taskRec n).setEnd pl)).setHealth pl .tileFault (some t)).giveUps [pl])

/-- An uncorrectable error found on an access in a tile of a plane (08 R280): the words are in error until they are written, and the task that
runs there takes memory fault 5 at its present instruction, which Stack records (08 R299; 10 R359). -/
def State.eccError (s : State) (u : Fin 32) (words : List Nat) : State :=
  let x := s.tile u
  let s := s.setTile u { x with bad := x.bad ++ words.map (fun a => a / 4 * 4) }
  match x.task with
  | some n => (s.tileFault u 5 x.pc).setTask n { s.taskRec n with fault := some (5, x.pc) }
  | none => s

/-- PLANE_SELF_FAULT: a plane finds a fault in itself, and the other may find one in the same fabric cycle (R492, R493, R495 to R497). In
TEST it is a failed test. A tile whose task meets an uncorrectable error ends it (08 R280). -/
def execPlaneSelfFault (pl : Fin 2) (k : PlaneFault) (tile : Option (Fin 16)) (words : List Nat) (other : Option PlaneFault) (t : Nat) (s : State) :
    Host.Outcome State Fault Refusal :=
  let s := s.advance t
  let s := match k, tile with
    | .eccUe, some i => s.eccError (tileOf pl i) words
    | _, _ => s
  let found := (pl, k, tile) :: (match other with | some f => [(1 - pl, f, none)] | none => [])
  let found := found.filter (fun (q : Fin 2 × PlaneFault × Option (Fin 16)) => decide (s.planeState q.1 ≠ 0))
  let tests := found.filter (fun (q : Fin 2 × PlaneFault × Option (Fin 16)) => decide (s.planeState q.1 = 1))
  let runs := found.filter (fun (q : Fin 2 × PlaneFault × Option (Fin 16)) => decide (s.planeState q.1 ≠ 1))
  let s := found.foldl (fun s (q : Fin 2 × PlaneFault × Option (Fin 16)) => s.setHealth q.1 q.2.1 q.2.2) s
  let s := tests.foldl (fun s (q : Fin 2 × PlaneFault × Option (Fin 16)) => (s.planeDown q.1).bootPlanes) s
  .next (if runs.isEmpty then s else s.giveUps (runs.map (fun (q : Fin 2 × PlaneFault × Option (Fin 16)) => q.1)))

/-- PLANE_GIVEUP_AT_PORT: the give-up has crossed into the port island and a port applies it (R494): before its cut-off edge it takes the
new plane's post, between the edges it repeats the words it runs, which is the gap, and words loaded stand. -/
def execPlaneGiveupAtPort (n : Fin 64) (s : State) : Host.Outcome State Fault Refusal :=
  if n ∈ s.pc.crossing then
    let old := s.pc.former
    let s := (s.advance s.pc.crossAt).updPc (fun c => { c with crossing := c.crossing.filter (fun m => decide (m ≠ n)) })
    let p := s.port n
    let p := { p with posts := p.posts.filter (fun (q : Fin 2 × Post) => decide (q.1 ≠ old)) }
    match p.cand with
    | none => .next (s.setPort n p)
    | some c =>
      let s := s.setPort n { p with cand := some { c with words := p.used, repeated := true, legs := if s.get (PWM_STAT.STATE n) = 2 then p.plan else [] } }
      .next (if s.get (PWM_STAT.STATE n) = 2 ∧ c.repeated = false then (s.bump PC_GAP_CNT).put PC_LAST_SW.REPEATED 1 else s)
  else .next s

/-- TRANSFER_TIMEOUT: a sweep that has not completed within 10 s is a transfer fault (R500). -/
def execTransferTimeout (pl : Fin 2) (s : State) : Host.Outcome State Fault Refusal :=
  if s.planeState pl = 2 ∧ pl ∉ s.pc.swept then
    .next (((s.advance (tget s.pc.sweepAt pl 0 + 10 * secUnits)).setHealth pl .xfer none).giveUps [pl])
  else .next s

/-- EXT_TEST_DONE: the extended test ends; a plane with a fault gives up, else the mismatches stay unresolved (R502). -/
def execExtTestDone (a b : Option PlaneFault) (s : State) : Host.Outcome State Fault Refusal :=
  if s.is PC_STAT.EXT_RUN then
    let s := s.put PC_STAT.EXT_RUN 0
    match a, b with
    | none, none => .next (((s.flag PC_STAT.UNRESOLVED).post 0x0163 1 s.cellAddr []).put PC_STAT.MISM_RUN 0)
    | some f, none => execPlaneSelfFault 0 f none [] none s.now s
    | none, some f => execPlaneSelfFault 1 f none [] none s.now s
    | some f, some g => execPlaneSelfFault 0 f none [] (some g) s.now s
  else .next s

/-- The join of a returning plane whose sweep is complete at handover boundary k (R500): it enters SHADOW; its tiles start at the next
task start, and runs in progress complete on the active plane alone. In NO_PLANE it becomes active at once, which ends NO_PLANE (R495). -/
def State.transferJoin (s : State) (k : Nat) (pl : Fin 2) : State :=
  if s.planeState pl = 2 ∧ pl ∈ s.pc.swept then
    let s := s.copyPlane pl
    let s := (finList 16).foldl (fun s t => s.setTile (tileOf pl t) { s.tile (tileOf pl t) with slot := (s.tile (tileOf (1 - pl) t)).slot }) s
    let s := (finList 16).foldl (fun s t => match (s.tile (tileOf (1 - pl) t)).task with
      | some n => s.setTask n ((s.taskRec n).setEnd pl)
      | none => s) s
    let s := (((s.setPlane pl 3).lbistStart pl).wr PC_CONF_CNT 0).updPc (fun c => { c with swept := c.swept.filter (fun q => decide (q ≠ pl)), since := k, others := [] })
    if s.is PC_STAT.NO_PLANE then (s.put PC_STAT.NO_PLANE 0).switchTo pl 0 true else s
  else s

end Sys2Proof.Machine
end

