-- ==== Sys2Proof/Machine/Update.lean ====
section
/-! DEFINITION. Updating a component: the update group of the mailbox commands, verification, activation, confirmation and fallback
(16 R525; 18 R568 to R577). -/

namespace Sys2Proof.Machine

open Sys2Proof

/-- Whether an update is open: loading to confirming (R525, R577). -/
def State.updOpen (s : State) : Bool := decide (1 ≤ s.boot.upd.phase ∧ s.boot.upd.phase ≤ 4)

/-- The bytes that UPD_DATA brings: the manifest and the image (R562; log 41). -/
def State.updTotal (s : State) : Nat := 256 + s.boot.upd.len

/-- UPD_BEGIN (0x0701): one update is open at a time (16 R525; R562). -/
def execUpdBegin (k : Fin 16) (s : State) : Host.Outcome State Fault Refusal :=
  .next (s.runCmd k (· == 0x0701) (fun s x =>
    let c := x.arg 0 1
    let n := x.arg 4 4
    if c = 0 ∨ 6 < c ∨ x.arg 1 3 ≠ 0 ∨ n = 0 ∨ 0x200000 < n then (s, 0x0008, [])
    else if s.updOpen then (s, 0x0009, [])
    else
      let s := s.updUpd (fun _ => { comp := c, len := n })
      let s := s.setDir s.updComp ((s.dir s.updComp).1, 1)
      (s.setPhase 1 s.newSlot, 0, [])))

/-- UPD_DATA (0x0702): a chunk of manifest and image, in ascending order without a gap (16 R525). -/
def execUpdData (k : Fin 16) (s : State) : Host.Outcome State Fault Refusal :=
  .next (s.runCmd k (· == 0x0702) (fun s x =>
    let o := x.arg 0 4
    let n := x.plen - 4
    let u := s.boot.upd
    if u.phase ≠ 1 ∨ u.checking.isSome then (s, 0x0007, [])
    else if o ≠ u.got ∨ s.updTotal < o + n then (s, 0x0008, [])
    else
      let a := flashSlot s.updComp s.newSlot + o
      ((s.updBoot (fun b => { b with flash := memWriteN b.flash a (x.payload 4 n) })).updUpd (fun u => { u with got := o + n }), 0, [])))

/-- UPD_VERIFY (0x0703): once the image is complete, the hardware verifier checks it; the slot waits for IMAGE_VERIFIED (16 R525; R570). -/
def execUpdVerify (k : Fin 16) (s : State) : Host.Outcome State Fault Refusal :=
  let u := s.boot.upd
  if s.runsNow k (· == 0x0703) then
    if (u.phase = 1 ∨ u.phase = 2) ∧ u.got = s.updTotal then
      .next (if u.checking.isSome then s else s.updUpd (fun u => { u with checking := some (k, s.now) }))
    else .next (s.setOut k 0x0007 [])
  else .next s

/-- The fabric cycles of a check: 4 bytes hashed each cycle, 200,000 cycles a signature (R570). -/
def State.verifyCycles (s : State) (c : Fin 6) (k : Fin 2) : Nat :=
  (s.mf c k 20 4 + 3) / 4 + 200000 * (1 + s.mf c k 7 1 / 2 % 2)

/-- The code of a check of the update's image: the length that UPD_BEGIN gave is the manifest's, and the checks of R568. -/
def State.updCode (s : State) : Nat :=
  if s.mf s.updComp s.newSlot 20 4 ≠ s.boot.upd.len then 0x0008 else s.imageCode s.activePlane s.updComp s.newSlot

/-- IMAGE_VERIFIED: the check ends; an accepted image is verified, and UPD_VERIFY has its result (R568, R570; 16 R525). -/
def execImageVerified (s : State) : Host.Outcome State Fault Refusal :=
  match s.boot.upd.checking with
  | none => .next s
  | some (k, t) =>
    let c := s.updComp
    let j := s.newSlot
    let s := (s.advance (t + s.verifyCycles c j * nsUnits)).updUpd (fun u => { u with checking := none })
    if (s.slot k).state ≠ 2 then .next s
    else if s.updCode = 0 then .next ((s.setPhase 2 j).setOut k 0 (s.slotBytes c j 8 4 ++ leBytes 4 (s.mf c j 7 1)))
    else .next (s.setOut k s.updCode [])

/-- HM_ZVER shows the version of the Hearth firmware that runs (16 R509; R567; log 41). -/
def State.showZver (s : State) (k : Fin 2) : State := s.wr HM_ZVER (BitVec.ofNat 32 (s.version 0 k))

/-- The tile and Kiln state of the new image has the layout of the running one's (R567, R573). -/
def State.sameFormat (s : State) : Bool :=
  let c := s.updComp
  match s.runs s.activePlane c with
  | some k => s.mf c k 124 4 == s.mf c s.newSlot 124 4
  | none => false

/-- Whether the activation condition of the component holds (R573). -/
def State.mayActivate (s : State) : Bool :=
  let ok := fun (pl : Fin 2) => getBits (s.rd (healthReg pl)) 0 1 == 1
  match s.boot.upd.comp with
  | 2 | 3 => ok 0 && ok 1 && (s.sameFormat || !s.anyArmed)
  | 5 | 6 => s.armsStill && s.get SI_STAT.ISTATE == 2
  | _ => true

/-- Both planes are loaded with an image together, through TEST (R574). -/
def State.reloadBoth (s : State) (k : Fin 2) : State :=
  ((s.reloadPlane 0 k).reloadPlane 1 k).updPc (fun c => { c with boot := true, passed := [] })

/-- What an activation of components 2 to 6 starts (R573, R574, R576). -/
def State.startActivation (s : State) : State :=
  let c := s.updComp
  let k := s.newSlot
  let s := (s.setDir c ((s.dir c).1, 2)).setPhase 3 k
  match s.boot.upd.comp with
  | 2 | 3 =>
    if s.sameFormat then
      let p := 1 - s.activePlane
      (s.updUpd (fun u => { u with stage := 1, plane := p })).reloadPlane p k
    else (s.updUpd (fun u => { u with stage := 4 })).reloadBoth k
  | 4 => ((if s.is CH_CTRL.EN then s.toListen else s).setRunsAll c k).startWindow
  | _ => s.updUpd (fun u => { u with stage := 1 })

/-- UPD_ACTIVATE (0x0704): DONE when the activation has started, 0x0007 when its condition is not met. For Hearth the slot is DONE before
Hearth restarts into the new image; a recovery interface boots anew (16 R525; R561, R563, R573). -/
def execUpdActivate (k : Fin 16) (s : State) : Host.Outcome State Fault Refusal :=
  if s.runsNow k (· == 0x0704) then
    if s.boot.upd.phase ≠ 2 ∨ s.mayActivate = false then .next (s.setOut k 0x0007 [])
    else if s.boot.upd.comp = 1 then
      let j := s.newSlot
      let t := (((s.endSlot k 3 0 []).setDir 0 ((s.dir 0).1, 2)).setPhase 3 j).hearthRestart
      if s.boot.recovery then .next ((t.updUpd (fun u => { u with stage := 1 })).updBoot (fun b => { b with booted := false }))
      else .next (((t.setRunsAll 0 j).showZver j).startWindow)
    else .next (s.startActivation.setOut k 0 [])
  else .next s

/-- The milliseconds left in the health window (16 R525). -/
def State.windowLeft (s : State) : Nat := if s.boot.upd.phase = 4 then (s.boot.upd.windowAt - s.optime) / 1000000 else 0

/-- UPD_STATUS (0x0705) (16 R525). -/
def execUpdStatus (k : Fin 16) (s : State) : Host.Outcome State Fault Refusal :=
  .next (s.runCmd k (· == 0x0705) (fun s _ =>
    (s, 0, leBytes 1 s.boot.upd.phase ++ leBytes 1 s.boot.upd.comp ++ leBytes 2 0 ++ leBytes 4 s.windowLeft)))

/-- UPD_ABORT (0x0706): an update that has not been activated is abandoned; refused from phase 3 on, and when none is open (16 R525; log
41). -/
def execUpdAbort (k : Fin 16) (s : State) : Host.Outcome State Fault Refusal :=
  .next (s.runCmd k (· == 0x0706) (fun s _ =>
    if s.boot.upd.phase = 1 ∨ s.boot.upd.phase = 2 then
      let j := s.newSlot
      let s := (s.setDir s.updComp ((s.dir s.updComp).1, 0)).updUpd (fun u => { u with checking := none })
      (s.setPhase 0 j, 0, [])
    else (s, 0x0007, [])))

/-- The operating time brought to an instant of it, in ns. -/
def State.advanceOp (s : State) (t : Nat) : State := s.advance (s.now + (t - s.optime) * nsUnits)

/-- A word with its low n bits 1. -/
def onesBelow (n : Nat) : Word := BitVec.ofNat 32 (2 ^ min n 32 - 1)

/-- Ones programmed up to a component's ROLLBACK (R571). -/
def State.burnRollback (s : State) (c : Fin 6) (n : Nat) : State :=
  (List.range 4).foldl (fun s i => s.otpBurn (0x74 + 4 * c.val + i) (onesBelow (n - 32 * i)) 0xFFFFFFFF) s

/-- Whether the new image is in its health window: it governs, and its run has neither completed nor failed. -/
def State.proving (s : State) : Bool :=
  let u := s.boot.upd
  u.phase == 4 && (if s.updatesPlanes then u.stage == 2 || u.stage == 4 else true)

/-- The update has fallen back: the previous image stays CONFIRMED, phase 6 (R573, R577). -/
def State.fallenBack (s : State) : State :=
  let c := s.updComp
  let k := s.newSlot
  ((s.setDir c ((s.dir c).1, 0)).updUpd (fun u => { u with stage := 0 })).setPhase 6 k

/-- The slot that a boot loads of a component: the CONFIRMED one, or, when its image is not usable, the other one unless it is a TRIAL
(R561, R563, R568; log 42). -/
def State.bootSlot (s : State) (c : Fin 6) : Option (Fin 2) :=
  let k := (s.dir c).1
  if s.imageCode 0 c k = 0 then some k
  else if (s.dir c).2 ≠ 2 ∧ s.imageCode 0 c (1 - k) = 0 then some (1 - k)
  else none

/-- No image of Hearth can be loaded, or there are no settings: Kindling serves the recovery interface, or stops (R552, R561). HM_ZVER then
reads major version 0; its other digits are open (log 42). -/
def State.recover (s : State) : State :=
  if s.boot.gen.isNone ∨ (s.setting 8 4).testBit 3 then
    ((s.updBoot (fun b => { b with recovery := true })).wr HM_ZVER (Config.recoveryVer s.fresh &&& 0x00FFFFFF)).useFresh
  else s.updBoot (fun b => { b with stopped := true })

/-- Hearth restarts into what Kindling loads of component 1 (R563, R573). -/
def State.restartHearth (s : State) : State :=
  match s.bootSlot 0 with
  | some k => ((s.setRunsAll 0 k).showZver k).hearthRestart
  | none => s.hearthRestart.recover

/-- An update that fails inside its window falls back as its component does (R573, R575, R576; log 41); that of a safety channel takes every arm
to LOCKOUT at the next commit (12 R411). -/
def State.updFails (s : State) : State :=
  let c := s.updComp
  let old := (s.dir c).1
  match s.boot.upd.comp with
  | 1 => s.fallenBack.restartHearth
  | 2 | 3 => if s.boot.upd.stage = 2 then s.updReturn else s.fallenBack
  | 4 => (if s.is CH_CTRL.EN then s.toListen else s).fallenBack.setRunsAll c old
  | _ =>
    { s.fallenBack with si := { s.si with revert := some c } }

/-- UPD_FAILURE: the proving run fails, or the window ends first (R573). -/
def execUpdFailure (window : Bool) (s : State) : Host.Outcome State Fault Refusal :=
  .next (if s.proving then (if window then s.advanceOp s.boot.upd.windowAt else s).updFails else s)

/-- UPD_PROVING_DONE: the run has completed without a failure inside the window: the image is confirmed, its counter advanced; of
components 2 and 3 the other plane is loaded next (R571, R573, R574, R577). A failure seen in the window is taken first. -/
def execUpdProvingDone (s : State) : Host.Outcome State Fault Refusal :=
  if s.proving = false then .next s
  else if s.boot.upd.mishap then .next s.updFails
  else
    let c := s.updComp
    let k := s.newSlot
    let s := s.advanceOp s.boot.upd.proveAt
    let s := (s.burnRollback c (s.mf c k 16 1)).setDir c (k, 0)
    if s.updatesPlanes ∧ s.boot.upd.stage = 2 then
      let o := 1 - s.boot.upd.plane
      .next (((s.updUpd (fun u => { u with stage := 3 })).setPhase 4 k).reloadPlane o k)
    else .next ((s.updUpd (fun u => { u with stage := 0 })).setPhase 5 k)

/-- HEARTH_RESTART: a restart of Hearth is a failure of an image of Hearth that is in its window (16 R517; R573). -/
def execHearthRestart (s : State) : Host.Outcome State Fault Refusal :=
  .next (if s.boot.upd.comp = 1 ∧ s.proving then s.updFails else s.hearthRestart)

/-- SAFETY_CHANNEL_RESTART_DONE: both channels check and load the active set; connections keep their state, and arms stay where they are
(R576; 12 R391). -/
def execSafetyChannelRestartDone (s : State) : Host.Outcome State Fault Refusal :=
  if s.si.restarting then
    let set := s.si.slot.bind s.loadSet
    let s := { s with si := { s.si with restarting := false, set := set, ch1 := {}, ch2 := {}, snap := none } }
    let s := s.timeInputs.put SI_STAT.ISTATE (if s.si.dead then 3 else if set.isSome then 2 else 1)
    .next (s.updUpd (fun u => if u.comp = 5 ∨ u.comp = 6 then { u with stage := if u.stage = 2 then 3 else 0 } else u))
  else .next s

end Sys2Proof.Machine
end

