-- ==== Sys2Proof/Machine/Power.lean ====
section
/-! DEFINITION. Power, resets, the qualification of RST_N, power fail, and the clock fault (19 R586 to R599; 01 R31). -/

namespace Sys2Proof.Machine

open Sys2Proof

/-- A change of the keep-alive domain and the supplies. -/
def State.updPwr (s : State) (f : Power → Power) : State := { s with pwr := f s.pwr }

/-- One keep-alive cycle: 30,517.578125 ns, in 1/256 ns and in 1/64 ns (R586). -/
def tickUnits : Nat := 7812500
/-- See `tickUnits`. -/
def tickTime : Nat := 1953125

/-- The samples of RST_N after one more (R592 to R594). The held-time counter starts at the first low sample and runs until a high is
recognised; the ignore timer counts high samples in a row. -/
def Power.sample (p : Power) (high core : Bool) : Power :=
  let q := { p with tickAt := p.tickAt + tickUnits, optime := if p.supplies ∨ core then p.optime + tickTime else p.optime }
  if high then
    { q with rstHigh := p.rstHigh + 1, rstLow := 0, highRun := p.highRun + 1, held := p.held + 1 }
  else { q with rstLow := p.rstLow + 1, rstHigh := 0, highRun := 0, held := if p.rstIsLow ∨ 0 < p.rstLow then p.held + 1 else 0 }

/-- KEEPALIVE_TICK: the operating time advances while VDD_CORE is in range, and RST_N is sampled (R586, R592). -/
def execKeepaliveTick (high core : Bool) (s : State) : Host.Outcome State Fault Refusal :=
  .next ((s.advance (s.pwr.tickAt + tickUnits)).updPwr (fun p => p.sample high core))

/-- What a reset keeps (R591): commands and time of the model, MRAM, OTP, flash, keep-alive content, Locket's ring, and the levels that
the surroundings drive. Every other part is in its reset state. Locket's next index is the one of the ring header (17 R543). -/
def State.kept (s : State) : State :=
  { State.reset with
    pending := s.pending, now := s.now, fresh := s.fresh, rdata := s.rdata, pwr := s.pwr
    mem := s.mem.filter (fun (q : Host.Cell) => decide (0x20000000 ≤ q.1 ∧ q.1 < 0x20400000))
    lk := { ring := s.lk.ring, next := s.lk.headerNext, flushed := s.lk.headerNext, headerSeq := s.lk.headerSeq, headerNext := s.lk.headerNext
            headerLost := s.lk.headerLost, clean := s.lk.clean, mirror := s.lk.mirror }
    boot := { otp := s.boot.otp, flash := s.boot.flash, dir := s.boot.dir, upd := { s.boot.upd with checking := none } }
    time := { refPresent := s.time.refPresent }
    ports := s.ports.map (fun (q : Fin 64 × Port) => (q.1, { pinLevel := q.2.pinLevel }))
    fbs := s.fbs.map (fun (q : Fin 64 × FbUnit) => (q.1, { lines := q.2.lines }))
    si := { slot := s.si.slot, staged := s.si.staged
            inputs := s.si.inputs.map (fun (q : Fin 16 × InputState) => (q.1, { l1 := q.2.l1, l2 := q.2.l2 }))
            sack1 := { level := s.si.sack1.level }, sack2 := { level := s.si.sack2.level } } }

/-- A reset is asserted with a cause (R588, R589, R591). -/
def State.enterReset (s : State) (cause : Nat) : State :=
  (s.kept.updPwr (fun p => { p with reset := true, cause := cause, pfDone := false, pfHold := false, rstDeferred := false })).showOtp

/-- Whether RST_N holds the device in reset (R593, R594). -/
def Power.pinHolds (p : Power) : Bool := p.rstIsLow && !p.stuck

/-- The reset ends, unless PFAIL_N holds it (R590) or a supply is out of range. -/
def State.endReset (s : State) : State := s.updPwr (fun p => if p.supplies ∧ p.pfail = false then { p with reset := false } else p)

/-- The power-cycle count advances and stops at its largest value (R586, R588). -/
def Power.countCycle (p : Power) : Power := { p with pcycle := satAdd 32 p.pcycle 1 }

/-- POR: every supply has been in range for 66 keep-alive cycles; the reset ends unless PFAIL_N is low (R590) or RST_N is low, from which
instant its held time counts (R588, R595). A brownout was counted when it asserted; a domain that has lost its content is in held mode (R586, R593). -/
def execPor (t : Nat) (kaKept vddKa pfail : Bool) (s : State) : Host.Outcome State Fault Refusal :=
  if s.pwr.supplies then .next s
  else
    let s := (s.advance t).updPwr (fun p =>
      let p := if p.cause = 2 then p else { p.countCycle with cause := 1 }
      { p with supplies := true, pfail := pfail, powerUp := true, kaSupply := vddKa, kaValid := kaKept
               pulseQual := kaKept && p.pulseQual, stuck := kaKept && p.stuck, held := 0 })
    .next (if s.pwr.pinHolds then s.updPwr (fun p => { p with cause := 3 }) else s.endReset)

/-- BROWNOUT: a supply leaves its range: every output is high-impedance and every block in reset, without a flush (R588, R589, R600); out
of power-fail hold the next power-up is a POR (R599). -/
def execBrownout (t : Nat) (s : State) : Host.Outcome State Fault Refusal :=
  if s.pwr.supplies = false then .next s
  else
    let hold := s.pwr.pfHold
    let s := (s.advance t).updPwr (fun p => { (if hold then p else p.countCycle) with supplies := false })
    let s := if hold then s else { s with lk := { s.lk with clean := false } }
    .next (s.enterReset (if hold then 1 else 2))

/-- RST_N_LOW: RST_N is taken as low after two low samples (R592): the device is in reset (R588, R593), unless the input is ignored (R594);
during a power-fail flush the reset is deferred (R596), and it does not end power-fail hold (R599). -/
def execRstNLow (s : State) : Host.Outcome State Fault Refusal :=
  if s.pwr.rstLow < 2 ∨ s.pwr.rstIsLow then .next s
  else
    let s := s.updPwr (fun p => { p with rstIsLow := true })
    if s.pwr.stuck ∨ s.pwr.reset ∨ s.pwr.pfHold then .next s
    else if s.pwr.pfail then .next (s.updPwr (fun p => { p with rstDeferred := true }))
    else .next (s.enterReset 3)

/-- A held time in keep-alive cycles in ms, rounded to nearest and saturating (R593). -/
def heldMs (n : Nat) : Nat := min ((n * tickTime + 32000000) / 64000000) (2 ^ 32 - 1)

/-- RST_N_HIGH: RST_N is taken as high after two high samples (R592); a release within the mode's limit ends the reset, and the boot
records the held time (R593). -/
def execRstNHigh (s : State) : Host.Outcome State Fault Refusal :=
  let p := s.pwr
  if p.rstHigh < 2 ∨ p.rstIsLow = false then .next s
  else
    let s := s.updPwr (fun p => { p with rstIsLow := false })
    if p.stuck = false ∧ (p.reset ∧ p.cause = 3 ∨ p.rstDeferred) then
      let ms := heldMs (p.held + 1 - p.rstHigh)
      let s := s.updPwr (fun p => { p with heldMs := ms, record := some (0x0006, ms) })
      .next (if p.reset then s.endReset else s)
    else .next s

/-- RESET_STUCK: a low that reaches MAX_HOLD in pulse-qualified mode ends the reset, and RST_N is ignored (R594). -/
def execResetStuck (s : State) : Host.Outcome State Fault Refusal :=
  let p := s.pwr
  if p.reset ∧ p.cause = 3 ∧ p.pinHolds ∧ p.pulseQual ∧ p.maxHold * 32768 ≤ p.held then
    .next ((s.updPwr (fun p => { p with stuck := true, highRun := 0, record := some (0x0007, p.maxHold) })).endReset)
  else .next s

/-- RST_N_REHONOUR: RST_N is honoured again once it has been high for 3,277 keep-alive cycles in a row (R594). -/
def execRstNRehonour (s : State) : Host.Outcome State Fault Refusal :=
  .next (if s.pwr.stuck ∧ 3277 ≤ s.pwr.highRun then s.updPwr (fun p => { p with stuck := false }) else s)

/-- Every block clears its arm bits, and every output ball is high-impedance (R597, R598): gates, step outputs, pass-through and request
outputs, modulator clocks, pulse outputs, safe outputs and test-pulse sources. -/
def State.disarmAll (s : State) : State :=
  let s := (finList 64).foldl State.disarmPort s
  let s := (finList 16).foldl (fun s i => s.put (STP_CTRL.PIN_ARM i) 0) s
  let s := (finList 64).foldl (fun s n =>
    let s := s.put (FB_CTRL.OUT_EN n) 0
    if s.serialOn n then ((s.put (FB_CTRL.EN n) 0).put (FB_STAT.VALID n) 0).setFb n { s.fb n with reading := none } else s) s
  let s := { s.put SDC_CTRL.ARM 0 with sdclk := { s.sdclk with start := [] } }
  let s := (finList 8).foldl (fun s n => s.tpoArm n false) s
  let s := ((finList 12).foldl State.outOff s).showOutputs
  { s with si := { s.si with tpsLow := (finList 4).map (fun n => (n, s.now)) } }

/-- PFAIL_ASSERT: arm bits are cleared and outputs released, the Chain node goes to OFF, and Locket closes its intake, writes a POWER_FAIL
record whatever the buffer holds, and flushes (R597; 17 R541). In a reset PFAIL_N only holds it (R590). -/
def execPfailAssert (t : Nat) (s : State) : Host.Outcome State Fault Refusal :=
  if s.pwr.pfail ∨ s.pwr.supplies = false then .next s
  else
    let s := (s.advance t).updPwr (fun p => { p with pfail := true })
    if s.pwr.reset then .next s
    else
      let s := s.disarmAll.chainOff
      let s := s.appendRec (s.makeRec 0x0002 1 s.cellAddr (leBytes 2 s.unflushed) s.cell)
      let s := s.startFlush
      .next { s with lk := { s.lk with closed := true } }

/-- The mirror takes the power-cycle count and the operating time (R587). -/
def State.writeMirror (s : State) : State := { s with lk := { s.lk with mirror := (s.pwr.pcycle, s.optime) } }

/-- PF_FLUSH_DONE: every unflushed record, the header, and 1,000 cycles later the mirror are written; PF_DONE is set and the device is in
power-fail hold with Hearth, tiles, Kiln, the period sequencer and both safety channels halted (17 R541; R599); a deferred reset takes effect (R596). -/
def execPfFlushDone (s : State) : Host.Outcome State Fault Refusal :=
  if s.pwr.pfail = false ∨ s.pwr.pfHold ∨ s.pwr.reset then .next s
  else
    let s := match s.lk.flush with
      | some f => (s.advance (f.start + ((f.until_ - f.first) * 1000 + 1500) * nsUnits)).endFlush f
      | none => s
    let s := (s.advance (s.lk.lastFlush + 1000 * nsUnits)).writeMirror
    let s := { s.put LK_STAT.PF_DONE 1 with lk := { s.lk with clean := true } }
    let s := ((s.stopTiles 0).stopTiles 1).put HM_STAT.HEARTH_UP 0
    let s := (s.busyUp 0).busyUp 1
    let s := { s with kiln := s.kiln.map (fun (q : (Fin 2 × Fin 16) × KContext) => (q.1, { q.2.unqueue with running := none, late := none })) }
    let s := { s with seq := { s.seq with running := false }, si := { s.si with snap := none } }
    let s := s.updPwr (fun p => { p with pfDone := true, pfHold := true })
    .next (if s.pwr.rstDeferred then s.enterReset 3 else s)

/-- MIRROR_WRITE: Zynura writes the mirror once per second (R587). -/
def execMirrorWrite (s : State) : Host.Outcome State Fault Refusal :=
  .next (if s.is HM_STAT.HEARTH_UP ∧ s.pwr.pfail = false then s.writeMirror else s)

/-- PF_RESTART: PFAIL_N has been high for 10 ms after PF_DONE: the device performs a restart and boots (R588, R599). A reset that only
PFAIL_N held ends when it rises (R590). -/
def execPfRestart (t : Nat) (s : State) : Host.Outcome State Fault Refusal :=
  if s.pwr.pfHold then
    let s := ((s.advance t).updPwr (fun p => { p.countCycle with pfail := false, powerUp := true, kaValid := true })).enterReset 4
    .next (if s.pwr.pinHolds then s.updPwr (fun p => { p with cause := 3 }) else s.endReset)
  else if s.pwr.reset ∧ s.pwr.pfail then
    let s := (s.advance t).updPwr (fun p => { p with pfail := false })
    .next (if s.pwr.pinHolds then s else s.endReset)
  else .next s

/-- CLOCK_FAULT: channel 2 finds the fabric clock off nominal: every gate output goes to its trip state, every safe output is
de-energised, and PLL_LOCK reads 0 until a reset (01 R31). -/
def execClockFault (t : Nat) (s : State) : Host.Outcome State Fault Refusal :=
  let s := (s.advance t).put ISL_STAT.PLL_LOCK 0
  .next ({ s with time := { s.time with clockFault := true } } : State).safeClockFault

end Sys2Proof.Machine
end

