-- ==== Sys2Proof/Machine/Boot.lean ====
section
/-! DEFINITION. Boot: settings, Locket's start, images, safety parameter set, calibration, interrupt routing (18 R552, R554, R560 to R563;
17 R543; 16 R516; 12 R391). -/

namespace Sys2Proof.Machine

open Sys2Proof

/-- Step 1 and the settings of step 2 (R551, R552, R560): the active generation is the highest valid one; its fields are shown where they
take effect, and the keep-alive domain takes its copy (19 R586). -/
def State.bootSettings (s : State) : State :=
  let gen := (finList 4).reverse.find? s.genValid
  let s := s.showOtp.updBoot (fun b => { b with gen := gen, running := [], recovery := false, stopped := false })
  match gen with
  | none => ((s.put OTP_STAT.NO_SETTINGS 1).put HM_STAT.PCIE_EN 1).put HM_STAT.QSPI_EN 1
  | some g =>
    let bit := fun (o k : Nat) => (s.setting o 4).testBit k
    let q := s.setting 0x0C 4
    let t := { s.put OTP_STAT.GEN_ACTIVE g.val with ident := BitVec.ofNat 32 (s.setting 0x14 4) }
    let t := t.updPwr (fun p => { p with pulseQual := q.testBit 0, maxHold := q / 2 % 64 })
    let t := ((t.putB ISL_CLK.REF_10M (bit 8 2)).putB CH_ROLE.STAR_A (bit 0x10 0)).putB CH_ROLE.STAR_B (bit 0x10 1)
    ((t.put TB_CTRL.SOURCE (s.setting 0x10 4 / 4 % 4)).putB HM_STAT.PCIE_EN (bit 0x18 0)).putB HM_STAT.QSPI_EN (bit 0x18 1)

/-- Locket at power-up (17 R543): the mirror replaces keep-alive values that are invalid, in which case this power cycle is counted on it
(log 42); a POWER_UP record, and UNCLEAN after a power-down without a completed flush. A held or stuck RST_N is recorded (19 R593,
R594). -/
def State.bootLocket (s : State) : State :=
  let s :=
    if s.pwr.powerUp then
      let lost := !s.pwr.kaValid
      let s := if lost then s.updPwr (fun p => { p with pcycle := satAdd 32 s.lk.mirror.1 1, optime := s.lk.mirror.2 * 64 }) else s
      let s := s.wr LK_PF_LOST (BitVec.ofNat 32 s.lk.headerLost)
      let s := s.post 0x0001 0 s.cellAddr (leBytes 4 s.lk.headerLost ++ [BitVec.ofNat 8 ((if s.lk.clean then 0 else 1) + (if lost then 2 else 0))])
      if s.lk.clean then s else s.flag LK_STAT.UNCLEAN
    else s
  let s := match s.pwr.record with
    | some (0x0007, n) => s.post 0x0007 2 s.cellAddr (leBytes 2 n)
    | some (_, n) => s.post 0x0006 0 s.cellAddr (leBytes 4 n)
    | none => s
  s.updPwr (fun p => { p with powerUp := false, record := none })

/-- An update that a reset has met (R563, R574): one whose TRIAL image exists fails; one that was to load the other plane is complete. -/
def State.bootUpdate (s : State) : State :=
  if s.boot.upd.comp = 0 then s
  else if (s.dir s.updComp).2 = 2 then s.fallenBack
  else if s.boot.upd.phase = 4 then (s.updUpd (fun u => { u with stage := 0 })).setPhase 5 (s.dir s.updComp).1
  else s

/-- The image of Hearth runs: Zynura is up (R560 step 6). -/
def State.startHearth (s : State) (k : Fin 2) : State :=
  (((s.setRunsAll 0 k).showZver k).updMail (fun m => { m with restarting := false })).put HM_STAT.HEARTH_UP 1

/-- User calibration (R551, R554): gain and offset of the filters in mask A, encoder offsets of the ports in mask B, else the defaults. -/
def State.bootCalibration (s : State) : State :=
  let maskA := s.setting 0x640 10
  let maskB := s.setting 0x64A 8
  let s := (finList 80).foldl (fun t f =>
    if maskA.testBit f.val then
      let v := fun (o : Nat) => s.setting (0x180 + 12 * f.val + o) 3
      let w := fun (o : Nat) => BitVec.ofNat 32 (v o)
      let b := decide (f.val < 64)
      let x := t.filter f
      let t := (t.wr (SDF_GAIN_A f) (w 0)).wr (SDF_OFS_A f) (w 3)
      let t := if b then (t.wr (SDF_GAIN_B f) (w 6)).wr (SDF_OFS_B f) (w 9) else t
      t.setFilter f { x with
        a := { x.a with gain := v 0, ofs := v 3 }
        b := if b then { x.b with gain := v 6, ofs := v 9 } else x.b }
    else t) s
  (finList 64).foldl (fun t n => if maskB.testBit n.val then t.wr (LD_EOFS (fin 256 n.val)) (BitVec.ofNat 32 (s.setting (0x540 + 4 * n.val) 4)) else t) s

/-- The safety parameter set of the slot that the pointer names, loaded by both channels when its signature verifies and they accept it, or
refused, which SI_EVT.PSET shows (12 R434); the
safety channels drive their pins from then on, every STO group de-energised (12 R391, R413; R579; 19 R602). -/
def State.bootSafety (s : State) : State :=
  let set := s.si.slot.bind (fun k =>
    if s.setSigned (s.setBytes k (ofLeBytes (s.mread (slotAddr k + 8) 4))) then s.loadSet k else none)
  let refused := s.si.slot.isSome ∧ set.isNone
  let gen := leBytes 4 (s.mword ((s.si.slot.map slotAddr).getD 0 + 20)).toNat
  let s := (s.useSet set s.si.slot).putB SI_STAT.STAGED s.si.staged.isSome
  let s := if refused then (s.flag SI_EVT.PSET).siRecord 0x0205 ([1, 0] ++ gen) else s
  (finList 8).foldl (fun s a => s.stoGroup a false) s

/-- A source routed to a host vector (16 R516; 11 R382). -/
def State.routeHost (s : State) (src : Fin 512) (v : Nat) : State :=
  ((s.put (IC_SRC_CFG.TKIND src) 2).put (IC_SRC_CFG.TARGET src) v).put (IC_SRC_CFG.EN src) 1

/-- Zynura routes the mailbox's sources (16 R516). -/
def State.bootRoutes (s : State) : State :=
  ((finList 16).foldl (fun s k => s.routeHost (fin 512 (496 + k.val)) k.val) s).routeHost 495 16

/-- Zynura writes the station and IP addresses of the Ethernet ports from its store in MRAM (02 R87; R578). -/
def State.bootEth (s : State) : State :=
  let store := s.mem.filter (fun (q : Nat × Byte) => decide (0x20201000 ≤ q.1 ∧ q.1 < 0x20400000))
  (finList 4).foldl (fun s p =>
    let m := Config.storeMac store p.val
    let x := (Config.storeIp6 store p.val).toNat
    let s := ((s.wr (ETH_MAC_LO p) (BitVec.ofNat 32 (ofLeBytes (leBytes 6 m.toNat).reverse % 2 ^ 32))).wr (ETH_MAC_HI p)
      (BitVec.ofNat 32 (ofLeBytes (leBytes 6 m.toNat).reverse / 2 ^ 32))).wr (ETH_IP4 p) (Config.storeIp4 store p.val)
    (finList 4).foldl (fun s k => s.wr (ETH_IP6 p k) (BitVec.ofNat 32 (x / 2 ^ (32 * (3 - k.val))))) s) s

/-- Steps 7 to 9 (R560): components 2 to 6, the safety parameter set and the user calibration, Stack and the routes of the mailbox; the
planes are in TEST since the reset (15 R497). -/
def State.bootRest (s : State) : State :=
  let s := [(1 : Fin 6), 2, 3, 4, 5].foldl (fun s c => match s.bootSlot c with | some k => s.setRunsAll c k | none => s) s
  s.bootCalibration.bootSafety.bootRoutes.bootEth.put STK_CTRL.EN 1

/-- BOOT (R560, R561, R563): the ledger from Kindling to the planes in TEST. Without settings, or without an image of Hearth, it ends in the
recovery interface or stops. An image of Hearth that the recovery interface has activated is loaded on this boot, and its health window
starts (R573). -/
def execBoot (s : State) : Host.Outcome State Fault Refusal :=
  if s.boot.booted ∨ s.pwr.reset ∨ s.pwr.supplies = false ∨ s.pwr.pfail then .next s
  else
    let s := (s.bootSettings.bootLocket).updBoot (fun b => { b with booted := true })
    if s.boot.gen.isNone then .next s.recover
    else if s.boot.upd.comp = 1 ∧ s.boot.upd.stage = 1 ∧ (s.dir 0).2 = 2 ∧ s.imageCode 0 0 s.newSlot = 0 then
      .next (((s.updUpd (fun u => { u with stage := 0 })).startHearth s.newSlot).startWindow).bootRest
    else
      let s := s.bootUpdate
      match s.bootSlot 0 with
      | none => .next s.recover
      | some k => .next (s.startHearth k).bootRest

end Sys2Proof.Machine
end

