-- ==== Sys2Proof/Machine/CmdSystem.lean ====
section
/-! DEFINITION. Identity, configuration, settings, keys, placement, register access, Chain and Kiln groups of the mailbox commands (16 R526;
18 R551 to R559, R564 to R566). -/

namespace Sys2Proof.Machine

open Sys2Proof

/-- An opcode of a group. -/
def inGroup (g : Nat) (op : Nat) : Bool := op / 256 == g

/-- Whether an opcode of the configuration group is a register block command: not one of the settings, key and seal commands (R526;
18 R556, R557, R559). -/
def configOp (op : Nat) : Bool := op / 256 == 2 && !(decide (0x0220 ≤ op) && decide (op ≤ 0x0225))

/-- The registers of the configuration group: ports, feedback, filters, loops, planner, step axes, interrupt sources (R526), and the
sealed policy registers, whose refusal R558 describes (log 39). -/
def configReg : Reg → Bool
  | .port _ _ | .fb _ _ | .sdf _ _ | .sdc _ | .ld _ _ | .pln _ | .arm _ _ | .stp _ _ | .ust _ _ => true
  | .ic (.IC_SRC_CFG _) => true
  | .pc .PC_CTRL | .pc .PC_CONFIRM | .pc .PC_RETRY_LIM | .pc .PC_LBIST_INT | .stk .STK_SKEW_LIM | .lk .LK_CFG => true
  | _ => false

/-- The result of an identity request: the device, or the Aelilan record (R526; 18 R564). -/
def State.identity (s : State) (aelilan : Bool) : List Byte :=
  if aelilan then s.otpBytes 0 64 else leBytes 4 (s.rd DEV_IDENT).toNat ++ leBytes 4 (s.rd HM_ZVER).toNat

/-- IDENTITY_CMD (R526). -/
def execIdentityCmd (k : Fin 16) (aelilan : Bool) (s : State) : Host.Outcome State Fault Refusal :=
  .next (s.runCmd k (inGroup 1) (fun s _ => (s, 0, s.identity aelilan)))

/-- The slot whose image of a component runs, in the active plane for the images that planes hold. -/
def State.runningSlot (s : State) (c : Fin 6) : Option (Fin 2) := s.runs s.activePlane c

/-- The unit signature, r then s (18 R565; log 37). -/
def unitSignature (msg : List Byte) : List Byte := (List.range 64).map (Config.unitSign msg)

/-- The first 320 bytes of an attestation report (18 R566). -/
def State.attestation (s : State) (nonce : List Byte) : List Byte :=
  let field := fun (c : Fin 6) (o n : Nat) => match s.runningSlot c with | some k => s.slotBytes c k o n | none => leBytes n 0
  leBytes 4 0x54414C41 ++ leBytes 2 1 ++ leBytes 2 384 ++ nonce ++ s.otpBytes 2 4 ++ leBytes 4 (s.rd DEV_IDENT).toNat
    ++ (finList 6).flatMap (fun c => field c 8 4) ++ (finList 6).flatMap (fun c => field c 24 32)
    ++ leBytes 4 (s.rd SI_PSET_ID).toNat ++ leBytes 4 (s.rd SI_PSET_GEN).toNat
    ++ leBytes 1 (match s.boot.gen with | some g => g.val | none => 0) ++ leBytes 1 s.seals.toNat
    ++ (finList 6).flatMap (fun c => leBytes 1 (s.rollback c)) ++ leBytes 4 s.keyStatus.toNat ++ timeBytes s.cell ++ leBytes 4 s.pwr.pcycle ++ leBytes 8 0

/-- ATTESTATION_REPORT: 384 bytes over a nonce of 32 bytes (18 R566). -/
def execAttestationReport (k : Fin 16) (nonce : List Byte) (s : State) : Host.Outcome State Fault Refusal :=
  .next (s.runCmd k (inGroup 1) (fun s _ =>
    if nonce.length ≠ 32 then (s, 0x0008, [])
    else let r := s.attestation nonce; (s, 0, r ++ unitSignature r)))

/-- CONFIG_WRITE_CMD: registers are written in order, as their own rules have it, up to the first refusal (R521, R526; 18 R558). -/
def execConfigWriteCmd (k : Fin 16) (ws : List (Reg × Word)) (s : State) : Host.Outcome State Fault Refusal :=
  .next (s.runCmd k configOp (fun s _ =>
    if ws.all (fun (q : Reg × Word) => configReg q.1) then plain (s.rawWrites ws) else (s, 0x0008, [])))

/-- CONFIG_READ_CMD: registers are read in order (R526). -/
def execConfigReadCmd (k : Fin 16) (rs : List Reg) (s : State) : Host.Outcome State Fault Refusal :=
  .next (s.runCmd k configOp (fun s _ =>
    if rs.all configReg ∧ rs.length ≤ 512 then let (t, bs) := s.cmdReads rs; (t, 0, bs) else (s, 0x0008, [])))

/-- SET_INFO (0x0220): OTP_STAT (18 R556). -/
def execSetInfo (k : Fin 16) (s : State) : Host.Outcome State Fault Refusal :=
  .next (s.runCmd k (· == 0x0220) (fun s _ => let (t, bs) := s.cmdReads [OTP_STAT]; (t, 0, bs)))

/-- The bytes of a settings generation as stored. -/
def State.genBytes (s : State) (g : Fin 4) : List Byte := (s.genWords g).flatMap (fun w => leBytes 4 w.toNat)

/-- SET_READ (0x0221): a generation as stored; 0xFF names the active one (18 R556). -/
def execSetRead (k : Fin 16) (s : State) : Host.Outcome State Fault Refusal :=
  .next (s.runCmd k (· == 0x0221) (fun s x =>
    let g := x.arg 0 1
    if g < 4 then (s, 0, s.genBytes (fin 4 g))
    else match s.boot.gen with
      | some a => if g = 0xFF then (s, 0, s.genBytes a) else (s, 0x0008, [])
      | none => (s, 0x0008, [])))

/-- The generation that the next settings record takes: the lowest blank one above the highest that is not blank (18 R553). -/
def State.nextGen (s : State) : Option (Fin 4) :=
  match (finList 4).reverse.find? (fun g => !s.genBlank g) with
  | none => some 0
  | some g => if h : g.val + 1 < 4 then some ⟨g.val + 1, h⟩ else none

/-- The fields of a settings record lie in their ranges, its reserved fields are zero (18 R551). -/
def settingsOk (ws : List Word) : Bool :=
  let f := wordsField ws
  let zero := fun (lo hi : Nat) => (List.range (hi - lo)).all (fun i => f (lo + i) 1 == 0)
  let hold := f 0xC 4 / 2 % 64
  decide (f 8 4 < 16 ∧ 1 ≤ hold ∧ hold ≤ 60 ∧ f 0xC 4 < 128 ∧ f 0x10 4 < 16 ∧ f 0x10 4 / 4 ≠ 3 ∧ f 0x18 4 < 32)
    && addrOk (BitVec.ofNat 32 (f 0x14 4)) && f 0x14 4 % 32 == 0x1D
    && zero 6 8 && zero 0x20 0x40 && zero 0x74 0x80 && zero 0x652 0x6F8
    && (List.range 64).all (fun n => f (0x83 + 4 * n) 1 == 0)
    && (List.range 16).all (fun i => f (0x180 + 12 * (64 + i) + 6) 6 == 0)

/-- A settings record programmed: every word from the first on, COMMIT last; one word may fail its read-back (18 R550, R553, R581). -/
def State.programGen (s : State) (g : Fin 4) (ws : List Word) (bad : Option (Fin 448 × Word)) : State :=
  ws.zipIdx.foldl (fun (s : State) (q : Word × Nat) =>
    s.otpBurn (genAddr g + q.2) q.1 (match bad with | some (i, took) => if i.val = q.2 then took else 0xFFFFFFFF | none => 0xFFFFFFFF)) s

/-- SET_WRITE (0x0222): the next generation is programmed and read back (18 R552, R553, R556, R581). -/
def execSetWrite (k : Fin 16) (bad : Option (Fin 448 × Word)) (s : State) : Host.Outcome State Fault Refusal :=
  .next (s.runCmd k (· == 0x0222) (fun s x =>
    let ws := (List.range 448).map (fun i => x.word (4 * i))
    match (if s.is OTP_STAT.SETTINGS_LOCKED then none else s.nextGen) with
    | none => (s, 0x0007, [])
    | some g =>
      if genOk g.val ws = false ∨ settingsOk ws = false then (s, 0x0008, [])
      else if s.otpRefuses ∨ s.is OTP_STAT.BUSY then (s, 0x0009, [])
      else
        let t := s.programGen g ws bad
        let diff := match s.boot.gen with | some a => (t.genWords a).drop 16 |>.take 80 |> (· != ((ws.drop 16).take 80)) | none => false
        if t.genWords g = ws then (t, 0, leBytes 1 g.val ++ leBytes 1 (if diff then 1 else 0)) else (t, 0x0008, [])))

/-- Words programmed in whole, from an address on. -/
def State.burnAll (s : State) (a : Nat) (ws : List Word) : State :=
  ws.zipIdx.foldl (fun (s : State) (q : Word × Nat) => s.otpBurn (a + q.2) q.1 0xFFFFFFFF) s

/-- A status bit programmed in its three copies (18 R549). -/
def State.burnBits (s : State) (a : Nat) (w : Word) : State := s.burnAll a [w, w, w]

/-- KEY_PROGRAM (0x0223): the hash of a customer public key is programmed into a blank slot (18 R549, R559). -/
def execKeyProgram (k : Fin 16) (slot : Fin 4) (key : List Byte) (s : State) : Host.Outcome State Fault Refusal :=
  .next (s.runCmd k (· == 0x0223) (fun s _ =>
    if key.length ≠ 64 then (s, 0x0008, [])
    else if s.is OTP_STAT.KEYS_LOCKED ∨ s.keyStatus.getLsbD (4 + slot.val) ∨ (s.keyHash false slot.val).any (· != 0) then (s, 0x0007, [])
    else if s.otpRefuses ∨ s.is OTP_STAT.BUSY then (s, 0x0009, [])
    else
      let h := sha256 key
      let ws := (List.range 8).map (fun i => BitVec.ofNat 32 (ofLeBytes ((h.drop (4 * i)).take 4)))
      ((s.burnAll (0x50 + 8 * slot.val) ws).burnBits 0x70 (BitVec.ofNat 32 (2 ^ (4 + slot.val))), 0, [])))

/-- The revoked bit of a key slot in the key status (18 R566). -/
def revokedBit (vendor : Bool) (slot : Fin 4) : Nat := if vendor then 2 + slot.val else 8 + slot.val

/-- KEY_REVOKE (0x0224): signed with the key of a different slot of the same kind; the last unrevoked vendor slot stays; the receipt holds the
key status after it and the unit signature (18 R559). -/
def execKeyRevoke (k : Fin 16) (vendor : Bool) (slot signer : Fin 4) (sig : List Byte) (s : State) : Host.Outcome State Fault Refusal :=
  .next (s.runCmd k (· == 0x0224) (fun s _ =>
    let msg := Config.slotNumber vendor slot.val ++ s.otpBytes 2 4
    let last := vendor && s.keyStatus.getLsbD (revokedBit true (if slot = 0 then 1 else 0))
    if vendor ∧ 2 ≤ slot.val then (s, 0x0008, [])
    else if last then (s, 0x0007, [])
    else if signer = slot ∨ s.sigOk vendor signer.val msg sig = false then (s, 0x000C, [])
    else if s.otpRefuses ∨ s.is OTP_STAT.BUSY then (s, 0x0009, [])
    else
      let t := s.burnBits 0x70 (BitVec.ofNat 32 (2 ^ revokedBit vendor slot))
      let st := leBytes 4 t.keyStatus.toNat
      (t, 0, st ++ unitSignature (msg ++ st))))

/-- SEAL (0x0225): seal bits are set, with the confirming word (18 R549, R557). -/
def execSeal (k : Fin 16) (s : State) : Host.Outcome State Fault Refusal :=
  .next (s.runCmd k (· == 0x0225) (fun s x =>
    if x.arg 4 4 ≠ 0x5EA10C4D ∨ 16 ≤ x.arg 0 4 then (s, 0x0008, [])
    else if s.otpRefuses ∨ s.is OTP_STAT.BUSY then (s, 0x0009, [])
    else (s.burnBits 0x8C (x.word 0), 0, [])))

/-- The result code of a command for a result code of Stack (R519; 10 R362; log 39). -/
def stackCode (res : Nat) : Nat := if res = 0 ∨ res = 15 then 0 else if 5 ≤ res ∧ res ≤ 7 then 0x0007 else 0x0008

/-- PLACEMENT_TASK_CMD: Zynura stages the descriptor and writes the operation; an accepted one completes at the next boundary; a read
returns the descriptor (R526; 10 R335, R336). -/
def execPlacementTaskCmd (k : Fin 16) (n : Fin 4096) (op : Fin 6) (d : List Word) (s : State) : Host.Outcome State Fault Refusal :=
  .next (s.runCmd k (inGroup 8) (fun s _ =>
    if op = 0 then (s, 0x0008, [])
    else if s.is STK_STAT.DESC_BUSY then (s.flag STK_STAT.CMD_REFUSED, 0x0007, [])
    else
      let s := if op = 1 then (finList 16).foldl (fun s j => s.wr (STK_DESC_STAGE j) (d.getD j.val 0)) s else s
      let t := s.busWrite .host STK_DESC_CMD (BitVec.ofNat 32 (n.val + op.val * 2 ^ 12))
      (t, stackCode (t.get STK_DESC_CMD.RES), if op = 3 then (t.taskRec n).desc.flatMap (fun w => leBytes 4 w.toNat) else [])))

/-- PLACEMENT_BUFFER_CMD: as for tasks (R526; 10 R337). -/
def execPlacementBufferCmd (k : Fin 16) (h : Fin 8192) (op : Fin 4) (d : List Word) (s : State) : Host.Outcome State Fault Refusal :=
  .next (s.runCmd k (inGroup 8) (fun s _ =>
    if op = 0 then (s, 0x0008, [])
    else if s.is STK_STAT.BUF_BUSY then (s.flag STK_STAT.CMD_REFUSED, 0x0007, [])
    else
      let s := if op = 1 then (finList 4).foldl (fun s j => s.wr (STK_BUF_STAGE j) (d.getD j.val 0)) s else s
      let t := s.busWrite .host STK_BUF_CMD (BitVec.ofNat 32 (h.val + op.val * 2 ^ 13))
      (t, stackCode (t.get STK_BUF_CMD.RES), if op = 3 then (t.bufRec h).desc.flatMap (fun w => leBytes 4 w.toNat) else [])))

/-- PLACEMENT_REBAL_CMD: a rebalance requested, and the freeze of automatic moves (R526; 10 R355, R361). -/
def execPlacementRebalCmd (k : Fin 16) (rebal freeze : Bool) (s : State) : Host.Outcome State Fault Refusal :=
  .next (s.runCmd k (inGroup 8) (fun s _ =>
    plain (s.cmdWrite STK_CTRL (BitVec.ofNat 32 ((s.rd STK_CTRL).toNat % 2 + (if rebal then 2 else 0) + (if freeze then 4 else 0))))))

/-- The response to a read through the fabric. -/
def State.readResponse (s : State) (o : Option State) : State × Nat × List Byte :=
  match o with
  | some t => (t.answer s.rdata, 0, leBytes 4 (t.rdata.headD 0).toNat)
  | none => (s, 0x0008, [])

/-- The response to a write: of a register, else through the fabric. -/
def State.writeResponse (s : State) (r : Option Reg) (v : Word) (o : Option State) : State × Nat × List Byte :=
  match r, o with
  | some r, _ => plain (s.rawWrite r v)
  | none, some t => (t, 0, [])
  | none, none => (s, 0x0008, [])

/-- REG_READ_CMD: a fabric read by address, refused once the device is sealed (R526; 18 R557); an address the fabric answers with an error
ends with 0x0008 (log 39). -/
def execRegReadCmd (k : Fin 16) (a : A40) (s : State) : Host.Outcome State Fault Refusal :=
  .next (s.runCmd k (inGroup 9) (fun s _ =>
    if s.is OTP_STAT.SEALED then (s, 0x0006, [])
    else s.readResponse (s.fabricRead .host a.toNat)))

/-- REG_WRITE_CMD: a fabric write by address (R526; 18 R557). -/
def execRegWriteCmd (k : Fin 16) (a : A40) (v : Word) (s : State) : Host.Outcome State Fault Refusal :=
  .next (s.runCmd k (inGroup 9) (fun s _ =>
    if s.is OTP_STAT.SEALED then (s, 0x0006, [])
    else s.writeResponse (if a.toNat % 4 = 0 then regAt 0 a.toNat else none) v (s.fabricWrite .host a.toNat v)))

/-- CHAIN_SCHEDULE_CMD: schedule memory is loaded, refused while the node is enabled (R526; 14 R459). -/
def execChainScheduleCmd (k : Fin 16) (o : Nat) (bytes : List Byte) (s : State) : Host.Outcome State Fault Refusal :=
  .next (s.runCmd k (inGroup 10) (fun s _ =>
    if 0x8000 < o + bytes.length then (s, 0x0008, [])
    else match s.watch [CH_STAT.CFG_REFUSED] (fun s => s.schedWrite o bytes) with
      | (t, true) => (t, 0x0007, [])
      | (t, false) => (t, 0, [])))

/-- CHAIN_CTRL_CMD: CH_CTRL is written (R526; 14 R483). -/
def execChainCtrlCmd (k : Fin 16) (v : Word) (s : State) : Host.Outcome State Fault Refusal :=
  .next (s.runCmd k (inGroup 10) (fun s _ => plain (s.cmdWrite CH_CTRL v)))

/-- CLASP_MAP_CMD: the map of a Clasp is written (R526; 14 R483); refused while the Clasp is enabled. -/
def execClaspMapCmd (k : Fin 16) (x : Fin 2) (v : Word) (s : State) : Host.Outcome State Fault Refusal :=
  .next (s.runCmd k (inGroup 10) (fun s _ =>
    if s.is (CP_CTRL.EN x) then (s, 0x0007, []) else plain (s.cmdWrite (CP_MAP x) v)))

/-- KILN_POST_CMD: the task of a Kiln request is released; a held release keeps the slot BUSY (R515, R526; 07 R252, 10 R343). -/
def execKilnPostCmd (k : Fin 16) (n : Fin 4096) (s : State) : Host.Outcome State Fault Refusal :=
  .next (s.runCmd k (inGroup 11) (fun s _ =>
    if (s.taskRec n).kind ≠ 4 then (s, 0x0008, [])
    else if s.releasable n = false ∨ s.is STK_CTRL.EN = false then (s, 0x0007, [])
    else ((s.stkRelease .host (BitVec.ofNat 32 n.val)).1, 0, [])))

/-- KILN_RESULT_CMD: bytes of the visible result of a context, read whole under one publication (R526; 07 R272 to R274). -/
def execKilnResultCmd (k : Fin 16) (c : Fin 16) (o n : Nat) (s : State) : Host.Outcome State Fault Refusal :=
  .next (s.runCmd k (inGroup 11) (fun s _ =>
    let x := s.kctx s.activePlane c
    match x.pub with
    | none => if n ≤ 2048 ∧ o + n ≤ 64 + 8 * x.len then (s, 0, leBytes n 0) else (s, 0x0008, [])
    | some r =>
      let len := r.x.length
      if n ≤ 2048 ∧ o + n ≤ 64 + 8 * len then (s, 0, s.mread (r.res + halfOfs len x.half + o) n) else (s, 0x0008, [])))

end Sys2Proof.Machine
end

