-- ==== Sys2Proof/Machine/CmdTime.lean ====
section
/-! DEFINITION. The time and the Locket group of the mailbox commands (16 R523, R524). -/

namespace Sys2Proof.Machine

open Sys2Proof

/-- The 16 bytes of a timestamp: cell time, fraction, state, and bit 0 of byte 14 (02 R54; R523). -/
def stampBytes (sec ns frac st : Nat) (rise : Bool) : List Byte :=
  leBytes 8 sec ++ leBytes 4 ns ++ leBytes 1 frac ++ leBytes 1 st ++ leBytes 2 (if rise then 1 else 0)

/-- Cell time now as a timestamp, fraction 0 (02 R54, R55). -/
def State.nowStamp (s : State) : List Byte := stampBytes (secOf s.cell) (nsOf s.cell) 0 (s.get TB_STAT.STATE) false

/-- The result of TIME_GET (R523). -/
def State.timeGet (s : State) : State × Nat × List Byte :=
  let (t, bs) := s.cmdReads [TB_STAT]
  (t, 0, s.nowStamp ++ bs)

/-- TIME_GET (0x0501). -/
def execTimeGet (k : Fin 16) (s : State) : Host.Outcome State Fault Refusal :=
  .next (s.runCmd k (· == 0x0501) (fun s _ => s.timeGet))

/-- TIME_SET (0x0502): refused unless UNSET with source none; with STEP_REFUSED (02 R80); else the write is on its way to the time base, whose acceptance is
TIME_SET_ACCEPT (R523; 02 R57, R60). -/
def execTimeSet (k : Fin 16) (s : State) : Host.Outcome State Fault Refusal :=
  .next (s.runCmd k (· == 0x0502) (fun s x =>
    if 1000000000 ≤ x.arg 8 4 then (s, 0x0008, [])
    else if s.get TB_STAT.STATE = 0 ∧ s.get TB_CTRL.SOURCE = 0 then
      ({ s with time := { s.time with setCross := some (x.arg 0 8, x.arg 8 4) } }, 0, [])
    else (s.flag TB_STAT.STEP_REFUSED, 0x0010, [])))

/-- TIME_SOURCE (0x0503): TB_CTRL is written (R523). -/
def execTimeSource (k : Fin 16) (s : State) : Host.Outcome State Fault Refusal :=
  .next (s.runCmd k (· == 0x0503) (fun s x => plain (s.cmdWrite TB_CTRL (x.word 0))))

/-- Whether a Signet connection of the node is open (02 R62; 13 R447). -/
def State.signetOpen (s : State) : Bool := s.si.conns.any (fun (q : Fin 64 × SignetConn) => q.2.state == 2)

/-- TIME_RESTART (0x0504): accepted when the state is not UNSET and no Signet connection is open: the state is UNSET, the counter keeps
running, the restart is counted and recorded, and the gateway will announce its step to the Chain; else STEP_REFUSED (02 R60, R62). -/
def execTimeRestart (k : Fin 16) (s : State) : Host.Outcome State Fault Refusal :=
  .next (s.runCmd k (· == 0x0504) (fun s _ =>
    if s.get TB_STAT.STATE = 0 ∨ s.signetOpen then (s.flag TB_STAT.STEP_REFUSED, 0x0010, [])
    else
      let s := { s with time := { s.time with stepped := false, step := none, good := 0 } }
      let s := (s.put TB_STAT.STATE 0).bumpField TB_STAT.RESTARTS
      let s := { s with chain := { s.chain with announce := decide (s.get TB_CTRL.SOURCE = 2 ∧ s.get CH_STAT.STATE = 4) } }
      (s.post 0x0012 0 s.cellAddr [BitVec.ofNat 8 (s.get TB_STAT.RESTARTS)], 0, [])))

/-- TIME_RATE (0x0505): TB_RATE is written; refused while the source is not none (R523; 02 R63). -/
def execTimeRate (k : Fin 16) (s : State) : Host.Outcome State Fault Refusal :=
  .next (s.runCmd k (· == 0x0505) (fun s x => plain (s.cmdWriteAs TB_RATE (x.word 0) 0x0010)))

/-- PORT_COMP (0x0506): the compensation of a port (R523; 02 R66). -/
def execPortComp (k : Fin 16) (s : State) : Host.Outcome State Fault Refusal :=
  .next (s.runCmd k (· == 0x0506) (fun s x =>
    let p : Fin 20 := fin 20 (x.arg 0 1)
    if 20 ≤ x.arg 0 1 ∨ x.arg 1 3 ≠ 0 then (s, 0x0008, [])
    else plain (s.cmdWrites [(TSP_INGRESS p, x.word 4), (TSP_EGRESS p, x.word 8), (TSP_ASYM p, x.word 12)])))

/-- PULSE_SCHED (0x0510): an output is programmed, armed when it is not, and committed (R523; 02 R73 to R77). -/
def execPulseSched (k : Fin 16) (s : State) : Host.Outcome State Fault Refusal :=
  .next (s.runCmd k (· == 0x0510) (fun s x =>
    let n : Fin 8 := fin 8 (x.arg 0 1)
    let m := x.arg 1 1
    if 8 ≤ x.arg 0 1 ∨ 4 ≤ m ∨ x.arg 2 2 ≠ 0 ∨ x.arg 18 2 ≠ 0 ∨ x.arg 25 3 ≠ 0 then (s, 0x0008, [])
    else
      match s.cmdWrites [(TPO_START_SEC_LO n, x.word 4), (TPO_START_SEC_HI n, x.word 8), (TPO_START_NS n, x.word 12),
          (TPO_START_FRAC n, BitVec.ofNat 32 (x.arg 16 1)), (TPO_PERIOD_NS n, x.word 20), (TPO_PERIOD_FRAC n, BitVec.ofNat 32 (x.arg 24 1)),
          (TPO_WIDTH_NS n, x.word 28), (TPO_WIDTH_FRAC n, BitVec.ofNat 32 (x.arg 17 1)), (TPO_COUNT n, x.word 32)] with
      | (t, 0) =>
        match t.watch [TPO_STAT.ARM_REFUSED n] (fun s => s.busWrite .host (TPO_CTRL n) (BitVec.ofNat 32 (1 + m * 2))) with
        | (t, true) => (t, 0x0007, [])
        | (t, false) =>
          match t.watch [TPO_STAT.BADCFG n] (fun s => s.busWrite .host (TPO_CTRL n) (BitVec.ofNat 32 (1 + m * 2 + 8))) with
          | (t, true) => (t, 0x0008, [])
          | (t, false) => let (u, bs) := t.cmdReads [TPO_STAT n]; (u, 0, bs)
      | (t, _) => (t, 0x0008, [])))

/-- CAPTURE_CFG (0x0511): TCAP_CTRL is written (R523). -/
def execCaptureCfg (k : Fin 16) (s : State) : Host.Outcome State Fault Refusal :=
  .next (s.runCmd k (· == 0x0511) (fun s x =>
    if 8 ≤ x.arg 0 1 ∨ x.arg 1 3 ≠ 0 then (s, 0x0008, [])
    else plain (s.cmdWrite (TCAP_CTRL (fin 8 (x.arg 0 1))) (x.word 4))))

/-- CAPTURE_READ (0x0512): the oldest entries of an input are removed and returned (R523; 02 R71). -/
def execCaptureRead (k : Fin 16) (s : State) : Host.Outcome State Fault Refusal :=
  .next (s.runCmd k (· == 0x0512) (fun s x =>
    let n : Fin 8 := fin 8 (x.arg 0 1)
    let m := x.arg 1 1
    if 8 ≤ x.arg 0 1 ∨ m = 0 ∨ 16 < m then (s, 0x0008, [])
    else
      let es := (tget s.caps n []).take m
      ({ s with caps := tset s.caps n ((tget s.caps n []).drop m) }, 0,
        leBytes 4 es.length ++ es.flatMap (fun e => stampBytes e.sec e.ns e.frac e.state e.rise))))

/-- The record with an index, from the buffer or from the ring (17 R544). -/
def State.recordAt (s : State) (i : Nat) : Option Rec :=
  match s.lk.buf.find? (fun (q : Nat × Rec) => q.1 == i) with
  | some q => some q.2
  | none => (s.lk.ring.find? (fun (q : Nat × Rec) => q.1 == i)).map (fun (q : Nat × Rec) => q.2)

/-- LKT_READ (0x0601): records from an index on, at least the oldest held; the index after them is returned (R524; 17 R544). -/
def execLktRead (k : Fin 16) (s : State) : Host.Outcome State Fault Refusal :=
  .next (s.runCmd k (· == 0x0601) (fun s x =>
    let m := x.arg 8 1
    if m = 0 ∨ 42 < m then (s, 0x0008, [])
    else
      let i := max (x.arg 0 8) s.lkOldest
      let n := min m (s.lk.next - i)
      (s, 0, leBytes 8 (i + n) ++ leBytes 4 n ++ leBytes 4 0 ++
        (List.range n).flatMap (fun j => match s.recordAt (i + j) with | some r => s.recImage (i + j) r | none => leBytes 48 0))))

/-- LKT_INFO (0x0602): oldest and next index, unflushed bytes, power-cycle count (R524). -/
def execLktInfo (k : Fin 16) (s : State) : Host.Outcome State Fault Refusal :=
  .next (s.runCmd k (· == 0x0602) (fun s _ =>
    (s, 0, leBytes 8 s.lkOldest ++ leBytes 8 s.lk.next ++ leBytes 4 (48 * s.unflushed) ++ leBytes 4 s.pwr.pcycle)))

/-- LKT_FLUSH (0x0603): a flush starts; the slot waits until it completes (R524; 17 R538). -/
def execLktFlush (k : Fin 16) (s : State) : Host.Outcome State Fault Refusal :=
  .next (s.runCmd k (· == 0x0603) (fun s _ => (s.startFlush, 0, [])))

/-- LKT_FILTER (0x0604): a filter of the event stream is set (R524). -/
def execLktFilter (k : Fin 16) (s : State) : Host.Outcome State Fault Refusal :=
  .next (s.runCmd k (· == 0x0604) (fun s x =>
    if 8 ≤ x.arg 0 1 ∨ 2 ≤ x.arg 1 1 ∨ x.arg 2 2 ≠ 0 then (s, 0x0008, [])
    else
      let f : EvFilter := { en := x.arg 1 1 == 1, lo := x.arg 4 2, hi := x.arg 6 2, addr := x.word 8, mask := x.word 12 }
      ({ s with lk := { s.lk with filters := tset s.lk.filters (fin 8 (x.arg 0 1)) f } }, 0, [])))

/-- LKT_MARK (0x0605): a host-mark record is posted; its index is returned, also when it merges (R524; 17 R535, R545; log 39). -/
def execLktMark (k : Fin 16) (s : State) : Host.Outcome State Fault Refusal :=
  .next (s.runCmd k (· == 0x0605) (fun s x =>
    let t := s.post 0x0005 0 s.cellAddr (x.payload 0 6)
    let lost := s.lk.closed || (t.lk.lost != 0 && (t.lk.lost != s.lk.lost || t.lk.next != s.lk.next))
    if lost then (t.useFresh, 0, leBytes 8 (Config.noIndex t.fresh)) else (t, 0, leBytes 8 (t.lk.next - 1))))

end Sys2Proof.Machine
end

