-- ==== Sys2Proof/Machine/Hci.lean ====
section
/-! DEFINITION. HCI-1: the quad-SPI port and the MX-16 commands (16 R529 to R531). -/

namespace Sys2Proof.Machine

open Sys2Proof

/-- HCI1_POST: slot 15 is posted (R514, R530). -/
def execHci1Post (s : State) : Host.Outcome State Fault Refusal := .next (s.postSlot 15 true)

/-- HCI1_FREE: slot 15 is freed (R512, R530). -/
def execHci1Free (s : State) : Host.Outcome State Fault Refusal := .next (s.freeSlot 15 true)

/-- The upper or the lower half of a word. -/
def half16 (w : Word) (lower : Bool) : Word := BitVec.ofNat 32 (if lower then w.toNat % 65536 else w.toNat / 65536)

/-- One word of the address space of HCI-1 read, with the effects of the read (R513, R520, R530). -/
def State.hqWord (s : State) (w : Nat) : State × Word :=
  if w < 4 then (s, half16 (if w < 2 then s.rd DEV_IDENT else s.rd HM_ZVER) (w % 2 == 1))
  else if w = 0x20 then let t := s.eventRead; (t, half16 t.mb.evt0 false)
  else if w = 0x21 then (s, half16 s.mb.evt0 true)
  else if 0x22 ≤ w ∧ w < 0x2A then (s, half16 (s.rd (HM_EVT_W (fin 4 ((w - 0x22) / 2)))) (w % 2 == 1))
  else if 0x800 ≤ w ∧ w < 0x1000 then
    let x := s.slot 15
    let o := 2 * (w - 0x800)
    (if w = 0x801 then s.statRead 15 else s, BitVec.ofNat 32 ((x.byte o).toNat + 256 * (x.byte (o + 1)).toNat))
  else (s, 0)

/-- Words read one after the other. -/
def State.hqWords (s : State) : List Nat → State × List Word
  | [] => (s, [])
  | w :: t =>
    let (u, x) := s.hqWord w
    let (v, l) := u.hqWords t
    (v, x :: l)

/-- QSPI_READ: the words from an address on, while the port is enabled (R529, R530). -/
def execQspiRead (w : BitVec 16) (n : Nat) (s : State) : Host.Outcome State Fault Refusal :=
  if s.is HM_STAT.QSPI_EN then
    let (t, l) := s.hqWords ((List.range n).map (fun i => (w.toNat + i) % 65536))
    .next (t.answer l)
  else .next s

/-- One word written: the doorbell, or the command area of slot 15 (R514, R530). -/
def State.hqWrite (s : State) (w : Nat) (v : BitVec 16) : State :=
  if w = 0x10 then (if v = 1 then s.postSlot 15 true else if v = 2 then s.freeSlot 15 true else s)
  else if 0x800 ≤ w ∧ w < 0x1000 then s.slotWrite 15 (2 * (w - 0x800)) (leBytes 2 v.toNat)
  else s

/-- QSPI_WRITE: words written from an address on, while the port is enabled (R529, R530). -/
def execQspiWrite (w : BitVec 16) (ws : List (BitVec 16)) (s : State) : Host.Outcome State Fault Refusal :=
  .next (if s.is HM_STAT.QSPI_EN then ws.zipIdx.foldl (fun (s : State) (q : BitVec 16 × Nat) => s.hqWrite ((w.toNat + q.2) % 65536) q.1) s else s)

/-- The arm that HCI-1 addresses: the settings record's, as joint 0 (R531; 18 R551). -/
def State.hciArm (s : State) : Fin 8 := fin 8 (s.setting 0x18 4 / 4)

/-- An MX-16 command in slot 15: what it does, with the result code and the result (R515, R531). -/
def State.runMx (s : State) (op : Nat) (f : State → MbSlot → State × Nat × List Byte) : State :=
  let x := s.slot 15
  if x.state == 2 && x.out.isNone && x.qspi && x.mxOp == op && s.firstOfGroup 15 && s.serves then
    match f s x with
    | (t, c, r) => t.setOut 15 c (if c = 0 then r else [])
  else s

/-- HCI1_IDENTITY (0x01): as 0x0101 (R531). -/
def execHci1Identity (s : State) : Host.Outcome State Fault Refusal := .next (s.runMx 0x01 (fun s _ => (s, 0, s.identity false)))

/-- One record for joint 0 of the arm, of a type, with target, VFRAC and AFRAC of the frame (R531; 06 R210). -/
def State.mxMove (s : State) (x : MbSlot) (kind : Nat) : State × Nat × List Byte :=
  let m : Move := { id := 0, kind := kind, jmask := 1, vfrac := x.mxArg 4 2, afrac := x.mxArg 6 2, tgt := [signed 32 (x.mxArg 0 4)] }
  let (t, v) := s.offerMove s.hciArm m false
  (t, 0, leBytes 4 (if v = 0 then 1 else 0) ++ leBytes 2 (moveCode v))

/-- HCI1_ABS_MOVE (0x10). -/
def execHci1AbsMove (s : State) : Host.Outcome State Fault Refusal := .next (s.runMx 0x10 (fun s x => s.mxMove x 0))
/-- HCI1_REL_MOVE (0x11). -/
def execHci1RelMove (s : State) : Host.Outcome State Fault Refusal := .next (s.runMx 0x11 (fun s x => s.mxMove x 1))

/-- HCI1_STOP (0x12): as ARM_CMD with ABORT (R531). -/
def execHci1Stop (s : State) : Host.Outcome State Fault Refusal :=
  .next (s.runMx 0x12 (fun s _ => (s.via (execArmAbort s.hciArm), 0, [])))

/-- HCI1_STATUS (0x13): as ARM_STATUS (R531). -/
def execHci1Status (s : State) : Host.Outcome State Fault Refusal := .next (s.runMx 0x13 (fun s _ => s.armStatus s.hciArm))

/-- HCI1_READ_TIME (0x20): as TIME_GET (R531). -/
def execHci1ReadTime (s : State) : Host.Outcome State Fault Refusal := .next (s.runMx 0x20 (fun s _ => s.timeGet))

end Sys2Proof.Machine
end

