-- ==== Sys2Proof/Machine/Mx.lean ====
section
/-! DEFINITION. The MX-16 compatibility mode of an Ember tile (08 R303 to R305, 09 R332). -/

namespace Sys2Proof.Machine

open Sys2Proof

/-- An MX-16 instruction of some bytes and cycles that writes registers; its results are readable by the next (R304). -/
def State.mx (s : State) (t : Fin 32) (size cycles : Nat) (ws : Tile → List (Nat × EWrite)) : State :=
  s.issue t true false size cycles (fun s => s.queue t (ws (s.tile t)))

/-- An MX-16 instruction that may not stand in a delay slot nor follow a repeat (R292, log 26). -/
def State.mxCtl (s : State) (t : Fin 32) (size cycles : Nat) (f : Tile → Tile) : State :=
  s.issue t true true size cycles (fun s => s.setTile t (f (s.tile t)))

/-- An arithmetic result of 16 bits in a data register, under sr.MXCLAMP (R304, R332). -/
def Res.mx (r : Res 16) (x : Tile) (lat : Nat) (rd : Fin 8) : List (Nat × EWrite) := r.writes x.clamps lat (wrx rd)

/-- An arithmetic result of 40 bits in an accumulator, under sr.MXCLAMP (R304, R332). -/
def Res.mxa (r : Res 40) (x : Tile) (ac : Fin 2) : List (Nat × EWrite) := r.writes x.clamps 1 (wrax ac)

/-- The operation code of R322 that an immediate ALU instruction names (R332). -/
def mxImmCode : MxImmOp → Fin 16
  | .add => 0 | .cmp => 2 | .and_ => 7 | .or_ => 8 | .xor_ => 9 | .asl => 11 | .asr => 12 | .lsr => 13

/-- The words of an MX-16 register as multiplier operands. -/
def Tile.mxWord (x : Tile) (r : Fin 8) : List Word := [wordOfD (x.rd (fin 16 r.val))]

/-- The data of a store of an MX-16 register: bits [7:0] are ignored (R303). -/
def Tile.mxStored (x : Tile) (r : Fin 8) : List Word := [wordOfD ((x.rx r) ++ (0 : BitVec 8))]

/-- The operand at a fixed byte address. -/
def fixedAddr (a : Nat) : Addr := { at_ := BitVec.ofNat 40 a, wraps := false, p := 0 }

/-- The address of I/O port k: `mxio` holds address bits [39:8] (R284, R303). -/
def Tile.ioAddr (x : Tile) (k : BitVec 8) : Addr := fixedAddr (256 * x.mxio.toNat + 4 * k.toNat)

/-- MX-16 `nop` (R332). -/
def execMxNop (t : Fin 32) (s : State) : Host.Outcome State Fault Refusal :=
  .next (s.mx t 2 1 (fun _ => []))

/-- MX-16 `halt` ends the task as `tend` does (R305). -/
def execMxHalt (t : Fin 32) (s : State) : Host.Outcome State Fault Refusal :=
  .next (s.gate t true true 2 (fun s => s.taskEnd t))

/-- MX-16 `ret`: one delay slot in MX mode; with bit 0 of lr set, native mode at lr with bit 0 cleared (R305). -/
def execMxRet (t : Fin 32) (s : State) : Host.Outcome State Fault Refusal :=
  .next (s.mxCtl t 2 1 (fun x => x.branch 1 (some ((x.lr &&& 0xFFFFFFFE).toNat)) (!x.lr.getLsbD 0) none))

/-- MX-16 `rpt #n` (R304, R332). -/
def execMxRptImm (t : Fin 32) (n : Fin 256) (s : State) : Host.Outcome State Fault Refusal :=
  .next (s.mxCtl t 2 1 (fun x => { x with rep := some (n.val + 1) }))

/-- MX-16 `rpt r`, counting to 255 (R304, R332). -/
def execMxRptReg (t : Fin 32) (r : Fin 8) (s : State) : Host.Outcome State Fault Refusal :=
  .next (s.mxCtl t 2 1 (fun x => { x with rep := some ((x.rx r).toNat % 256 + 1) }))

/-- MX-16 `ei` (R332). -/
def execMxEi (t : Fin 32) (s : State) : Host.Outcome State Fault Refusal :=
  .next (s.mxCtl t 2 1 (fun x => x.queue [(1, .sr 0x40 0x40)]))

/-- MX-16 `di` (R332). -/
def execMxDi (t : Fin 32) (s : State) : Host.Outcome State Fault Refusal :=
  .next (s.mxCtl t 2 1 (fun x => x.queue [(1, .sr 0x40 0)]))

/-- `clampon` (R332). -/
def execMxClampon (t : Fin 32) (s : State) : Host.Outcome State Fault Refusal :=
  .next (s.mxCtl t 2 1 (fun x => x.queue [(1, .sr 0x400 0x400)]))

/-- `clampoff` (R332). -/
def execMxClampoff (t : Fin 32) (s : State) : Host.Outcome State Fault Refusal :=
  .next (s.mxCtl t 2 1 (fun x => x.queue [(1, .sr 0x400 0)]))

/-- `clrs` clears V and S (R332). -/
def execMxClrs (t : Fin 32) (s : State) : Host.Outcome State Fault Refusal :=
  .next (s.mxCtl t 2 1 (fun x => x.queue [(1, .sr 0x30 0)]))

/-- MX-16 branch: a word offset from the branch, one delay slot (R316, R332). -/
def execMxBranch (t : Fin 32) (cc : Fin 16) (off : BitVec 8) (s : State) : Host.Outcome State Fault Refusal :=
  .next (s.issue t true true 2 1 (State.illegalIf (decide (13 ≤ cc.val)) t (fun s =>
    let x := s.tile t
    s.setTile t (x.branch 1 (if condHolds x.sr cc then some (x.rel (off.signExtend 16) 2) else none) true none))))

/-- MX-16 long branch to a program word address (R303, R332). -/
def execMxLongBranch (t : Fin 32) (w : BitVec 16) (s : State) : Host.Outcome State Fault Refusal :=
  .next (s.mxCtl t 4 2 (fun x => x.branch 1 (some (0x40000 + 2 * w.toNat)) true none))

/-- MX-16 call: lr takes the byte address after its delay slot (R332). -/
def execMxCall (t : Fin 32) (w : BitVec 16) (s : State) : Host.Outcome State Fault Refusal :=
  .next (s.mxCtl t 4 2 (fun x => x.branch 1 (some (0x40000 + 2 * w.toNat)) true (some false)))

/-- MX-16 direct load from data word address w (R303, R332). -/
def execMxLoadDirect (t : Fin 32) (r : Fin 8) (w : BitVec 16) (s : State) : Host.Outcome State Fault Refusal :=
  .next (s.issue t true false 4 2 (fun s => s.access t 2 (.load (.mx r)) (fixedAddr (4 * w.toNat)) 1 none))

/-- MX-16 direct store (R303, R332). -/
def execMxStoreDirect (t : Fin 32) (r : Fin 8) (w : BitVec 16) (s : State) : Host.Outcome State Fault Refusal :=
  .next (s.issue t true false 4 2 (fun s => s.storeWords t (fixedAddr (4 * w.toNat)) ((s.tile t).mxStored r)))

/-- MX-16 indirect load (R332). -/
def execMxLoadIndirect (t : Fin 32) (r : Fin 8) (m : MxMem) (s : State) : Host.Outcome State Fault Refusal :=
  .next (s.issue t true false 2 1 (fun s => s.access t 1 (.load (.mx r)) ((s.tile t).xaddr m) 1 none))

/-- MX-16 indirect store (R332). -/
def execMxStoreIndirect (t : Fin 32) (r : Fin 8) (m : MxMem) (s : State) : Host.Outcome State Fault Refusal :=
  .next (s.issue t true false 2 1 (fun s => s.storeWords t ((s.tile t).xaddr m) ((s.tile t).mxStored r)))

/-- MX-16 ALU operation on registers; rd is also the first source (R332). -/
def execMxAluReg (t : Fin 32) (op : Fin 16) (rd rs : Fin 8) (s : State) : Host.Outcome State Fault Refusal :=
  .next (s.mx t 2 1 (fun x => (aluRes 16 op x.clamps (x.rx rd) (x.rx rs) x.carry).mx x 1 rd))

/-- MX-16 ALU operation with an immediate (R332). -/
def execMxAluImm (t : Fin 32) (op : MxImmOp) (rd : Fin 8) (imm : BitVec 16) (s : State) : Host.Outcome State Fault Refusal :=
  .next (s.mx t 4 2 (fun x => (aluRes 16 (mxImmCode op) x.clamps (x.rx rd) imm x.carry).mx x 2 rd))

/-- MX-16 `mpy` (R304, R332). -/
def execMxMpy (t : Fin 32) (ac : Fin 2) (rs rt : Fin 8) (s : State) : Host.Outcome State Fault Refusal :=
  .next (s.mx t 2 1 (fun x => (MemAct.mxMul .mpy ac).writes x 1 (x.mxWord rs) (x.mxWord rt)))

/-- MX-16 `mac` (R304, R332). -/
def execMxMac (t : Fin 32) (ac : Fin 2) (rs rt : Fin 8) (s : State) : Host.Outcome State Fault Refusal :=
  .next (s.mx t 2 1 (fun x => (MemAct.mxMul .mac ac).writes x 1 (x.mxWord rs) (x.mxWord rt)))

/-- MX-16 `msu` (R304, R332). -/
def execMxMsu (t : Fin 32) (ac : Fin 2) (rs rt : Fin 8) (s : State) : Host.Outcome State Fault Refusal :=
  .next (s.mx t 2 1 (fun x => (MemAct.mxMul .msu ac).writes x 1 (x.mxWord rs) (x.mxWord rt)))

/-- MX-16 `mpyr`: the product rounded to Q1.15 as sr.RND selects (R304, R332). -/
def execMxMpyr (t : Fin 32) (rd rs rt : Fin 8) (s : State) : Host.Outcome State Fault Refusal :=
  .next (s.mx t 2 1 (fun x =>
    let r := narrow 16 x.clamps (roundBits x.rnd 15 ((x.rx rs).toInt * (x.rx rt).toInt))
    [(1, wrx rd r.1)] ++ ovfWrites 1 x.clamps r.2))

/-- MX-16 `mac` from memory (R332). -/
def execMxMacMem (t : Fin 32) (ac : Fin 2) (x y : Fin 2) (sx sy : MxStep) (s : State) : Host.Outcome State Fault Refusal :=
  .next (s.issue t true false 2 1 (fun s =>
    let tl := s.tile t
    s.access t 1 (.mxMul .mac ac) (tl.maddr (fin 8 x.val) sx) 1 (some (tl.maddr (fin 8 (2 + y.val)) sy, 1))))

/-- MX-16 `msu` from memory (R332). -/
def execMxMsuMem (t : Fin 32) (ac : Fin 2) (x y : Fin 2) (sx sy : MxStep) (s : State) : Host.Outcome State Fault Refusal :=
  .next (s.issue t true false 2 1 (fun s =>
    let tl := s.tile t
    s.access t 1 (.mxMul .msu ac) (tl.maddr (fin 8 x.val) sx) 1 (some (tl.maddr (fin 8 (2 + y.val)) sy, 1))))

/-- MX-16 accumulator clear (R332). -/
def execMxAccClr (t : Fin 32) (ac : Fin 2) (s : State) : Host.Outcome State Fault Refusal :=
  .next (s.mx t 2 1 (fun _ => [(1, wrax ac 0)]))

/-- MX-16 add of the other accumulator (R332). -/
def execMxAccAdd (t : Fin 32) (ac : Fin 2) (s : State) : Host.Outcome State Fault Refusal :=
  .next (s.mx t 2 1 (fun x => (addRes 40 x.clamps (x.rax ac) (x.rax (1 - ac)) false).mxa x ac))

/-- MX-16 subtraction of the other accumulator (R332). -/
def execMxAccSub (t : Fin 32) (ac : Fin 2) (s : State) : Host.Outcome State Fault Refusal :=
  .next (s.mx t 2 1 (fun x => (subRes 40 x.clamps (x.rax ac) (x.rax (1 - ac)) false).mxa x ac))

/-- MX-16 accumulator negation (R332). -/
def execMxAccNeg (t : Fin 32) (ac : Fin 2) (s : State) : Host.Outcome State Fault Refusal :=
  .next (s.mx t 2 1 (fun x => (negRes 40 x.clamps (x.rax ac)).mxa x ac))

/-- MX-16 accumulator absolute value (R332). -/
def execMxAccAbs (t : Fin 32) (ac : Fin 2) (s : State) : Host.Outcome State Fault Refusal :=
  .next (s.mx t 2 1 (fun x => (absRes 40 x.clamps (x.rax ac)).mxa x ac))

/-- MX-16 accumulator left shift (R332). -/
def execMxAccShl (t : Fin 32) (ac : Fin 2) (k : Fin 32) (s : State) : Host.Outcome State Fault Refusal :=
  .next (s.mx t 2 1 (fun x => (aslRes 40 x.clamps (x.rax ac) k.val).mxa x ac))

/-- MX-16 accumulator right shift (R332). -/
def execMxAccShr (t : Fin 32) (ac : Fin 2) (k : Fin 32) (s : State) : Host.Outcome State Fault Refusal :=
  .next (s.mx t 2 1 (fun x => (asrRes 40 (x.rax ac) k.val).mxa x ac))

/-- MX-16 round of an accumulator into a register (R332): the view holds Q1.15 in bits [30:15]. -/
def execMxAccRound (t : Fin 32) (ac : Fin 2) (r : Fin 8) (s : State) : Host.Outcome State Fault Refusal :=
  .next (s.mx t 2 1 (fun x => (resOf (narrow 16 x.clamps (roundBits x.rnd 15 (x.rax ac).toInt)) none).mx x 1 r))

/-- MX-16 register into accumulator (R332). -/
def execMxAccLoad (t : Fin 32) (ac : Fin 2) (r : Fin 8) (s : State) : Host.Outcome State Fault Refusal :=
  .next (s.mx t 2 1 (fun x => [(1, wrax ac (BitVec.ofInt 40 ((x.rx r).toInt * 2 ^ 15)))]))

/-- MX-16 load of an index register: data word address w is byte address 4w (R303, R332). -/
def execMxIxLoad (t : Fin 32) (x : Fin 4) (w : BitVec 16) (s : State) : Host.Outcome State Fault Refusal :=
  .next (s.mx t 4 2 (fun _ => [(2, .p (fin 8 x.val) (BitVec.ofNat 40 (4 * w.toNat)))]))

/-- MX-16 add to an index register, a step of R293 (R332). -/
def execMxIxAdd (t : Fin 32) (x : Fin 4) (o : BitVec 8) (s : State) : Host.Outcome State Fault Refusal :=
  .next (s.mx t 2 1 (fun tl => [(1, .p (fin 8 x.val) (tl.stepP (fin 8 x.val) (4 * o.toInt)))]))

/-- MX-16 index register to data register (R303, R332). -/
def execMxIxToR (t : Fin 32) (x : Fin 4) (r : Fin 8) (s : State) : Host.Outcome State Fault Refusal :=
  .next (s.mx t 2 1 (fun tl => [(1, wrx r ((tl.rp (fin 8 x.val)).extractLsb' 2 16))]))

/-- MX-16 data register to index register (R303, R332). -/
def execMxRToIx (t : Fin 32) (x : Fin 4) (r : Fin 8) (s : State) : Host.Outcome State Fault Refusal :=
  .next (s.mx t 2 1 (fun tl => [(1, .p (fin 8 x.val) (BitVec.ofNat 40 (4 * (tl.rx r).toNat)))]))

/-- MX-16 `in` from port k through the mxio window (R303, R332). -/
def execMxIn (t : Fin 32) (r : Fin 8) (k : BitVec 8) (s : State) : Host.Outcome State Fault Refusal :=
  .next (s.issue t true false 2 1 (fun s => s.access t 1 (.load (.mx r)) ((s.tile t).ioAddr k) 1 none))

/-- MX-16 `out` to port k (R303, R332). -/
def execMxOut (t : Fin 32) (r : Fin 8) (k : BitVec 8) (s : State) : Host.Outcome State Fault Refusal :=
  .next (s.issue t true false 2 1 (fun s => s.storeWords t ((s.tile t).ioAddr k) ((s.tile t).mxStored r)))

/-- MX-16 read of the status (R303, R332). -/
def execMxStatusRead (t : Fin 32) (r : Fin 8) (s : State) : Host.Outcome State Fault Refusal :=
  .next (s.mx t 2 1 (fun x => [(1, wrx r (x.sr.setWidth 16))]))

/-- MX-16 write of the status, a write to sr (R313, R332). -/
def execMxStatusWrite (t : Fin 32) (r : Fin 8) (s : State) : Host.Outcome State Fault Refusal :=
  .next (s.mxCtl t 2 1 (fun x => x.queue [(1, .sr srMask ((x.rx r).setWidth 32))]))

end Sys2Proof.Machine
end

