-- ==== Sys2Proof/Machine/Window.lean ====
section
/-! DEFINITION. The window edge and the restart of the period sequencer (01 R32 to R36). -/

namespace Sys2Proof.Machine

open Sys2Proof

/-- The period that ended waits for its comparison, and a new one begins (15 R487, R488). -/
def State.nextPeriod (s : State) : State := s.updPc (fun c => { c with cur := {}, prev := some c.cur })

/-- What the current-sense filters and feedback units do at the window edge w (04 R127, R131, R132, R154). -/
def State.senseEdge (s : State) (w : Time) : State :=
  let s := (finList 80).foldl State.applyFilter (s.applyClocks w)
  (finList 64).foldl (fun s n => if s.is (FB_CTRL.EN n) then (s.deliverReading n s.periodNo).speedReport n w else s) s

/-- Whether a restart comes before the next boundary, or at it (R34). -/
def Seq.restartDue (q : Seq) (w : Time) : Bool := match q.restart with
  | some r => decide (r ≤ w)
  | none => false

/-- WINDOW_EDGE: the next boundary, where period k begins (R33 to R36): rate steering takes a step (02 R58), plane control ends the period,
hands over and lets a plane join (15 R498, R500), the windows close, Stack places and releases (10 R335, R340, R354), and the loop table
selects references and set-points (05 R180, R181, R186). -/
def execWindowEdge (s : State) : Host.Outcome State Fault Refusal :=
  let k := s.seq.next
  let w := s.boundary k
  if s.seq.running = false ∨ s.seq.restartDue w then .next s
  else
    let s := s.advance w
    let s := ({ s with seq := { s.seq with next := k + 1 } }.wr PERIOD_CNT (BitVec.ofNat 32 k)).rateStep
    let s := ((s.nextPeriod.plannedHandover).transferJoin k 0).transferJoin k 1
    .next ((s.senseEdge w).stackEdge k |>.loopTableEdge k)

/-- The words of a port that are committed and not yet used are discarded (R34). -/
def Port.restart (p : Port) : Port := { p with posts := [], cand := none }

/-- The queued context 0 problems of Kiln are discarded (R34). -/
def State.kilnRestart (s : State) : State :=
  [(0 : Fin 2), 1].foldl (fun s k => (s.setKctx k 0 (s.kctx k 0).unqueue).showPhase k 0) s

/-- A Chain cycle begins at a restart of the period sequencer (R34, R35): the one in progress ends there. -/
def ChainNode.rebase (n : ChainNode) (r : Time) : ChainNode :=
  match n.start, n.sched with
  | some own, some c => if own < r then { n with start := some (r - c.cycleNs * nsUnits) } else n
  | _, _ => n

/-- PERIOD_RESTART: period 0 begins again at the restart instant, with the period length selected; words, references, set-points and
context 0 problems are discarded, the Chain cycles and the delay-list ticks re-based. A restart that does not fall on a capture instant ends the separation
cycle without a commit (R34). -/
def execPeriodRestart (s : State) : Host.Outcome State Fault Refusal :=
  match s.seq.restart with
  | none => .next s
  | some r =>
    let early := (r - s.seq.base) % sepUnits ≠ 0
    let n := s.seq.next
    let s := (s.advance r).stackRestart.loopsRestart.kilnRestart
    let drop := fun (c : SafeChannel) => { c with result := none, held := none, window := none }
    let s := if early then { s with si := { s.si with snap := none, ch1 := drop s.si.ch1, ch2 := drop s.si.ch2 } } else s
    let s := { s with
      chain := s.chain.rebase r
      planDue := false
      ports := s.ports.map (fun (q : Fin 64 × Port) => (q.1, q.2.restart))
      fbs := s.fbs.map (fun (q : Fin 64 × FbUnit) => (q.1, { q.2 with
        origin := none, reading := q.2.reading.map (fun (x : Reading) => { x with period := x.period - n }) })) }
    let s := s.updPc (fun c => { c with cur := {}, prev := none, since := 0 })
    .next ({ s with seq := { s.seq with base := r, next := 0, long := s.is PERIOD_CFG.PERIOD_SEL, restart := none } }.wr PERIOD_CNT 0)

end Sys2Proof.Machine
end

