-- ==== Sys2Proof/Machine/Dispatch.lean ====
section
/-! DEFINITION. What each command does: one arm for each constructor of Instr. -/

namespace Sys2Proof.Machine

def exec (cmd : Instr) (s : State) : Host.Outcome State Fault Refusal :=
  match cmd with
  | .nop t => Sys2Proof.Machine.execNop t s
  | .tend t => Sys2Proof.Machine.execTend t s
  | .reti t => Sys2Proof.Machine.execReti t s
  | .rptImm t n => Sys2Proof.Machine.execRptImm t n s
  | .rptReg t dn => Sys2Proof.Machine.execRptReg t dn s
  | .ei t => Sys2Proof.Machine.execEi t s
  | .di t => Sys2Proof.Machine.execDi t s
  | .clrst t => Sys2Proof.Machine.execClrst t s
  | .setrnd t k => Sys2Proof.Machine.execSetrnd t k s
  | .bCc t cc off => Sys2Proof.Machine.execBCc t cc off s
  | .call t off => Sys2Proof.Machine.execCall t off s
  | .jmp t pn => Sys2Proof.Machine.execJmp t pn s
  | .callr t pn => Sys2Proof.Machine.execCallr t pn s
  | .ret t => Sys2Proof.Machine.execRet t s
  | .dbnz t dn off => Sys2Proof.Machine.execDbnz t dn off s
  | .mxcall t off => Sys2Proof.Machine.execMxcall t off s
  | .ld t dn m => Sys2Proof.Machine.execLd t dn m s
  | .st t dn m => Sys2Proof.Machine.execSt t dn m s
  | .lddA t an m => Sys2Proof.Machine.execLddA t an m s
  | .stdA t an m => Sys2Proof.Machine.execStdA t an m s
  | .ldq t g m => Sys2Proof.Machine.execLdq t g m s
  | .stq t g m => Sys2Proof.Machine.execStq t g m s
  | .lddP t pn m => Sys2Proof.Machine.execLddP t pn m s
  | .stdP t pn m => Sys2Proof.Machine.execStdP t pn m s
  | .lddB t bn m => Sys2Proof.Machine.execLddB t bn m s
  | .stdB t bn m => Sys2Proof.Machine.execStdB t bn m s
  | .ldL t ln m => Sys2Proof.Machine.execLdL t ln m s
  | .stL t ln m => Sys2Proof.Machine.execStL t ln m s
  | .ldM t mn m => Sys2Proof.Machine.execLdM t mn m s
  | .stM t mn m => Sys2Proof.Machine.execStM t mn m s
  | .lea t pn m => Sys2Proof.Machine.execLea t pn m s
  | .ld2 t k x y => Sys2Proof.Machine.execLd2 t k x y s
  | .ldiD t dn imm => Sys2Proof.Machine.execLdiD t dn imm s
  | .ldiA t an imm => Sys2Proof.Machine.execLdiA t an imm s
  | .ldiP t pn imm => Sys2Proof.Machine.execLdiP t pn imm s
  | .ldiB t bn imm => Sys2Proof.Machine.execLdiB t bn imm s
  | .ldiL t ln imm => Sys2Proof.Machine.execLdiL t ln imm s
  | .ldiM t mn imm => Sys2Proof.Machine.execLdiM t mn imm s
  | .mov t rd rs => Sys2Proof.Machine.execMov t rd rs s
  | .add t sat dd ds dt => Sys2Proof.Machine.execAdd t sat dd ds dt s
  | .sub t sat dd ds dt => Sys2Proof.Machine.execSub t sat dd ds dt s
  | .cmp t sat ds dt => Sys2Proof.Machine.execCmp t sat ds dt s
  | .neg t sat dd ds => Sys2Proof.Machine.execNeg t sat dd ds s
  | .abs t sat dd ds => Sys2Proof.Machine.execAbs t sat dd ds s
  | .min t dd ds dt => Sys2Proof.Machine.execMin t dd ds dt s
  | .max t dd ds dt => Sys2Proof.Machine.execMax t dd ds dt s
  | .and t dd ds dt => Sys2Proof.Machine.execAnd t dd ds dt s
  | .or t dd ds dt => Sys2Proof.Machine.execOr t dd ds dt s
  | .xor t dd ds dt => Sys2Proof.Machine.execXor t dd ds dt s
  | .not t dd ds => Sys2Proof.Machine.execNot t dd ds s
  | .asl t sat dd ds dt => Sys2Proof.Machine.execAsl t sat dd ds dt s
  | .asr t dd ds dt => Sys2Proof.Machine.execAsr t dd ds dt s
  | .lsr t dd ds dt => Sys2Proof.Machine.execLsr t dd ds dt s
  | .addc t sat dd ds dt => Sys2Proof.Machine.execAddc t sat dd ds dt s
  | .subc t sat dd ds dt => Sys2Proof.Machine.execSubc t sat dd ds dt s
  | .addi t sat dd imm => Sys2Proof.Machine.execAddi t sat dd imm s
  | .cmpi t sat dd imm => Sys2Proof.Machine.execCmpi t sat dd imm s
  | .andi t dd imm => Sys2Proof.Machine.execAndi t dd imm s
  | .ori t dd imm => Sys2Proof.Machine.execOri t dd imm s
  | .xori t dd imm => Sys2Proof.Machine.execXori t dd imm s
  | .asli t sat dd x k => Sys2Proof.Machine.execAsli t sat dd x k s
  | .asri t dd x k => Sys2Proof.Machine.execAsri t dd x k s
  | .lsri t dd x k => Sys2Proof.Machine.execLsri t dd x k s
  | .adda t sat ad as_ => Sys2Proof.Machine.execAdda t sat ad as_ s
  | .suba t sat ad as_ => Sys2Proof.Machine.execSuba t sat ad as_ s
  | .nega t sat ad as_ => Sys2Proof.Machine.execNega t sat ad as_ s
  | .absa t sat ad as_ => Sys2Proof.Machine.execAbsa t sat ad as_ s
  | .clr t mask => Sys2Proof.Machine.execClr t mask s
  | .mva t ad dn => Sys2Proof.Machine.execMva t ad dn s
  | .mvr t sat dn as_ => Sys2Proof.Machine.execMvr t sat dn as_ s
  | .asla t sat ad as_ k => Sys2Proof.Machine.execAsla t sat ad as_ k s
  | .asra t ad as_ k => Sys2Proof.Machine.execAsra t ad as_ k s
  | .cmpa t sat ad as_ => Sys2Proof.Machine.execCmpa t sat ad as_ s
  | .mova t ad as_ => Sys2Proof.Machine.execMova t ad as_ s
  | .rnda t sat ad as_ => Sys2Proof.Machine.execRnda t sat ad as_ s
  | .mpy t sat ad ds dt => Sys2Proof.Machine.execMpy t sat ad ds dt s
  | .mac t sat ad ds dt => Sys2Proof.Machine.execMac t sat ad ds dt s
  | .msu t sat ad ds dt => Sys2Proof.Machine.execMsu t sat ad ds dt s
  | .mpyMem t sat ad y x => Sys2Proof.Machine.execMpyMem t sat ad y x s
  | .macMem t sat ad y x => Sys2Proof.Machine.execMacMem t sat ad y x s
  | .msuMem t sat ad y x => Sys2Proof.Machine.execMsuMem t sat ad y x s
  | .mpyr t sat dd ds dt => Sys2Proof.Machine.execMpyr t sat dd ds dt s
  | .dmacMem t sat p sw neg1 neg0 y x => Sys2Proof.Machine.execDmacMem t sat p sw neg1 neg0 y x s
  | .dmacReg t sat p sw neg1 neg0 ds dt => Sys2Proof.Machine.execDmacReg t sat p sw neg1 neg0 ds dt s
  | .dmacMulMem t sat p sw neg1 neg0 y x => Sys2Proof.Machine.execDmacMulMem t sat p sw neg1 neg0 y x s
  | .dmacMulReg t sat p sw neg1 neg0 ds dt => Sys2Proof.Machine.execDmacMulReg t sat p sw neg1 neg0 ds dt s
  | .qmacMem t sat neg y x => Sys2Proof.Machine.execQmacMem t sat neg y x s
  | .qmacReg t sat neg g dt => Sys2Proof.Machine.execQmacReg t sat neg g dt s
  | .qmacMulMem t sat neg y x => Sys2Proof.Machine.execQmacMulMem t sat neg y x s
  | .qmacMulReg t sat neg g dt => Sys2Proof.Machine.execQmacMulReg t sat neg g dt s
  | .acs t sat dd ds dt du => Sys2Proof.Machine.execAcs t sat dd ds dt du s
  | .acsn t sat dd ds dt du => Sys2Proof.Machine.execAcsn t sat dd ds dt du s
  | .acs2 t sat dd ds dt du => Sys2Proof.Machine.execAcs2 t sat dd ds dt du s
  | .acs2n t sat dd ds dt du => Sys2Proof.Machine.execAcs2n t sat dd ds dt du s
  | .padd t pn imm => Sys2Proof.Machine.execPadd t pn imm s
  | .paddm t pn => Sys2Proof.Machine.execPaddm t pn s
  | .paddl t pn imm => Sys2Proof.Machine.execPaddl t pn imm s
  | .mxNop t => Sys2Proof.Machine.execMxNop t s
  | .mxHalt t => Sys2Proof.Machine.execMxHalt t s
  | .mxRet t => Sys2Proof.Machine.execMxRet t s
  | .mxRptImm t n => Sys2Proof.Machine.execMxRptImm t n s
  | .mxRptReg t r => Sys2Proof.Machine.execMxRptReg t r s
  | .mxEi t => Sys2Proof.Machine.execMxEi t s
  | .mxDi t => Sys2Proof.Machine.execMxDi t s
  | .mxClampon t => Sys2Proof.Machine.execMxClampon t s
  | .mxClampoff t => Sys2Proof.Machine.execMxClampoff t s
  | .mxClrs t => Sys2Proof.Machine.execMxClrs t s
  | .mxBranch t cc off => Sys2Proof.Machine.execMxBranch t cc off s
  | .mxLongBranch t w => Sys2Proof.Machine.execMxLongBranch t w s
  | .mxCall t w => Sys2Proof.Machine.execMxCall t w s
  | .mxLoadDirect t r w => Sys2Proof.Machine.execMxLoadDirect t r w s
  | .mxStoreDirect t r w => Sys2Proof.Machine.execMxStoreDirect t r w s
  | .mxLoadIndirect t r m => Sys2Proof.Machine.execMxLoadIndirect t r m s
  | .mxStoreIndirect t r m => Sys2Proof.Machine.execMxStoreIndirect t r m s
  | .mxAluReg t op rd rs => Sys2Proof.Machine.execMxAluReg t op rd rs s
  | .mxAluImm t op rd imm => Sys2Proof.Machine.execMxAluImm t op rd imm s
  | .mxMpy t ac rs rt => Sys2Proof.Machine.execMxMpy t ac rs rt s
  | .mxMac t ac rs rt => Sys2Proof.Machine.execMxMac t ac rs rt s
  | .mxMsu t ac rs rt => Sys2Proof.Machine.execMxMsu t ac rs rt s
  | .mxMpyr t rd rs rt => Sys2Proof.Machine.execMxMpyr t rd rs rt s
  | .mxMacMem t ac x y sx sy => Sys2Proof.Machine.execMxMacMem t ac x y sx sy s
  | .mxMsuMem t ac x y sx sy => Sys2Proof.Machine.execMxMsuMem t ac x y sx sy s
  | .mxAccClr t ac => Sys2Proof.Machine.execMxAccClr t ac s
  | .mxAccAdd t ac => Sys2Proof.Machine.execMxAccAdd t ac s
  | .mxAccSub t ac => Sys2Proof.Machine.execMxAccSub t ac s
  | .mxAccNeg t ac => Sys2Proof.Machine.execMxAccNeg t ac s
  | .mxAccAbs t ac => Sys2Proof.Machine.execMxAccAbs t ac s
  | .mxAccShl t ac k => Sys2Proof.Machine.execMxAccShl t ac k s
  | .mxAccShr t ac k => Sys2Proof.Machine.execMxAccShr t ac k s
  | .mxAccRound t ac r => Sys2Proof.Machine.execMxAccRound t ac r s
  | .mxAccLoad t ac r => Sys2Proof.Machine.execMxAccLoad t ac r s
  | .mxIxLoad t x w => Sys2Proof.Machine.execMxIxLoad t x w s
  | .mxIxAdd t x o => Sys2Proof.Machine.execMxIxAdd t x o s
  | .mxIxToR t x r => Sys2Proof.Machine.execMxIxToR t x r s
  | .mxRToIx t x r => Sys2Proof.Machine.execMxRToIx t x r s
  | .mxIn t r k => Sys2Proof.Machine.execMxIn t r k s
  | .mxOut t r k => Sys2Proof.Machine.execMxOut t r k s
  | .mxStatusRead t r => Sys2Proof.Machine.execMxStatusRead t r s
  | .mxStatusWrite t r => Sys2Proof.Machine.execMxStatusWrite t r s
  | .outsideLoadReturn t cycles error => Sys2Proof.Machine.execOutsideLoadReturn t cycles error s
  | .outsideStoreDrain t cycles error => Sys2Proof.Machine.execOutsideStoreDrain t cycles error s
  | .interruptAccept t => Sys2Proof.Machine.execInterruptAccept t s
  | .illegalInstruction t => Sys2Proof.Machine.execIllegalInstruction t s
  | .registerWrite who r v same => Sys2Proof.Machine.execRegisterWrite who r v same s
  | .readClear who r before => Sys2Proof.Machine.execReadClear who r before s
  | .islClkWrite v => Sys2Proof.Machine.execIslClkWrite v s
  | .periodSelWrite long => Sys2Proof.Machine.execPeriodSelWrite long s
  | .periodRestart => Sys2Proof.Machine.execPeriodRestart s
  | .windowEdge => Sys2Proof.Machine.execWindowEdge s
  | .cutOffEdge n => Sys2Proof.Machine.execCutOffEdge n s
  | .loadEdge n => Sys2Proof.Machine.execLoadEdge n s
  | .legEdge n l => Sys2Proof.Machine.execLegEdge n l s
  | .deadTimeExpiry n l high => Sys2Proof.Machine.execDeadTimeExpiry n l high s
  | .activeShort n => Sys2Proof.Machine.execActiveShort n s
  | .refLoss => Sys2Proof.Machine.execRefLoss s
  | .pllRelock => Sys2Proof.Machine.execPllRelock s
  | .clockFault t => Sys2Proof.Machine.execClockFault t s
  | .pllFirstLock => Sys2Proof.Machine.execPllFirstLock s
  | .timeBaseStart => Sys2Proof.Machine.execTimeBaseStart s
  | .timeStep => Sys2Proof.Machine.execTimeStep s
  | .timeSetAccept => Sys2Proof.Machine.execTimeSetAccept s
  | .tbRateWrite v => Sys2Proof.Machine.execTbRateWrite v s
  | .tbSourceWrite src => Sys2Proof.Machine.execTbSourceWrite src s
  | .ptpSourceLost => Sys2Proof.Machine.execPtpSourceLost s
  | .ptpSyncTx p => Sys2Proof.Machine.execPtpSyncTx p s
  | .tcapEdge n rise t => Sys2Proof.Machine.execTcapEdge n rise t s
  | .tcapHeadRead n => Sys2Proof.Machine.execTcapHeadRead n s
  | .tbNowRead => Sys2Proof.Machine.execTbNowRead s
  | .tpoArmWrite n on => Sys2Proof.Machine.execTpoArmWrite n on s
  | .tpoGo n => Sys2Proof.Machine.execTpoGo n s
  | .tpoEdge n => Sys2Proof.Machine.execTpoEdge n s
  | .ethFrameRx p f t => Sys2Proof.Machine.execEthFrameRx p f t s
  | .ethTxEntrySend p => Sys2Proof.Machine.execEthTxEntrySend p s
  | .signetEthTx c => Sys2Proof.Machine.execSignetEthTx c s
  | .ethLinkChange p up fast => Sys2Proof.Machine.execEthLinkChange p up fast s
  | .ethCtrlWrite p r v => Sys2Proof.Machine.execEthCtrlWrite p r v s
  | .mdioWrite phy reg data => Sys2Proof.Machine.execMdioWrite phy reg data s
  | .mdioRead phy reg => Sys2Proof.Machine.execMdioRead phy reg s
  | .mdioDone data => Sys2Proof.Machine.execMdioDone data s
  | .pwmArm n => Sys2Proof.Machine.execPwmArm n s
  | .pwmDisarm n => Sys2Proof.Machine.execPwmDisarm n s
  | .pwmRunSet n => Sys2Proof.Machine.execPwmRunSet n s
  | .pwmRunClear n => Sys2Proof.Machine.execPwmRunClear n s
  | .forceTripSet n => Sys2Proof.Machine.execForceTripSet n s
  | .forceTripClear n => Sys2Proof.Machine.execForceTripClear n s
  | .clrTrip n => Sys2Proof.Machine.execClrTrip n s
  | .pwmConfigWrite n r v => Sys2Proof.Machine.execPwmConfigWrite n r v s
  | .ewCommit n by_ c => Sys2Proof.Machine.execEwCommit n by_ c s
  | .tripPinAssert n t samples => Sys2Proof.Machine.execTripPinAssert n t samples s
  | .tripPinRelease n t samples => Sys2Proof.Machine.execTripPinRelease n t samples s
  | .calRoundDone n line hist => Sys2Proof.Machine.execCalRoundDone n line hist s
  | .calMapInstall n line => Sys2Proof.Machine.execCalMapInstall n line s
  | .sdcArmWrite arm => Sys2Proof.Machine.execSdcArmWrite arm s
  | .sdcFreqWrite slow => Sys2Proof.Machine.execSdcFreqWrite slow s
  | .sdcDlyWrite g v => Sys2Proof.Machine.execSdcDlyWrite g v s
  | .sampleDelivery bits => Sys2Proof.Machine.execSampleDelivery bits s
  | .sdfStuckRun n inB t => Sys2Proof.Machine.execSdfStuckRun n inB t s
  | .sdfCfgWrite n v => Sys2Proof.Machine.execSdfCfgWrite n v s
  | .sdfGainWrite n inB ofs v => Sys2Proof.Machine.execSdfGainWrite n inB ofs v s
  | .fbLineChange n lines t => Sys2Proof.Machine.execFbLineChange n lines t s
  | .fbReadingStart n => Sys2Proof.Machine.execFbReadingStart n s
  | .ssiReadingDone n idleHigh data extra => Sys2Proof.Machine.execSsiReadingDone n idleHigh data extra s
  | .filigreeResponse n data stop t => Sys2Proof.Machine.execFiligreeResponse n data stop t s
  | .fbReadingTimeout n => Sys2Proof.Machine.execFbReadingTimeout n s
  | .fbStandstillTimeout n => Sys2Proof.Machine.execFbStandstillTimeout n s
  | .fbErrLimit n => Sys2Proof.Machine.execFbErrLimit n s
  | .fbLimitWrite n upper hi => Sys2Proof.Machine.execFbLimitWrite n upper hi s
  | .fbSetWrite n hi => Sys2Proof.Machine.execFbSetWrite n hi s
  | .fbPosLoRead n => Sys2Proof.Machine.execFbPosLoRead n s
  | .cmpHitNsRead n => Sys2Proof.Machine.execCmpHitNsRead n s
  | .fbEnWrite n on => Sys2Proof.Machine.execFbEnWrite n on s
  | .fbOutEnWrite n on => Sys2Proof.Machine.execFbOutEnWrite n on s
  | .encClr n => Sys2Proof.Machine.execEncClr n s
  | .fbCfgWrite n ser v => Sys2Proof.Machine.execFbCfgWrite n ser v s
  | .cmpArmWrite n hi => Sys2Proof.Machine.execCmpArmWrite n hi s
  | .cmpEnWrite n on => Sys2Proof.Machine.execCmpEnWrite n on s
  | .cmpPulseEnd n => Sys2Proof.Machine.execCmpPulseEnd n s
  | .loopEnable n => Sys2Proof.Machine.execLoopEnable n s
  | .loopDisable n => Sys2Proof.Machine.execLoopDisable n s
  | .loopClrFault n => Sys2Proof.Machine.execLoopClrFault n s
  | .ldConfigWrite n r v => Sys2Proof.Machine.execLdConfigWrite n r v s
  | .currentLawRun n => Sys2Proof.Machine.execCurrentLawRun n s
  | .motionLawRun n => Sys2Proof.Machine.execMotionLawRun n s
  | .customLawRun n post cycles => Sys2Proof.Machine.execCustomLawRun n post cycles s
  | .ldRefCommit n src c => Sys2Proof.Machine.execLdRefCommit n src c s
  | .ldSpCommit n c => Sys2Proof.Machine.execLdSpCommit n c s
  | .ldSwapReq n => Sys2Proof.Machine.execLdSwapReq n s
  | .ldBankWrite n b k v => Sys2Proof.Machine.execLdBankWrite n b k v s
  | .loopSupWarn n => Sys2Proof.Machine.execLoopSupWarn n s
  | .loopSupFault n => Sys2Proof.Machine.execLoopSupFault n s
  | .loopBadLimit n => Sys2Proof.Machine.execLoopBadLimit n s
  | .loopFaultWord n plane => Sys2Proof.Machine.execLoopFaultWord n plane s
  | .lawWcetExceed n cycles => Sys2Proof.Machine.execLawWcetExceed n cycles s
  | .armCtrlEn a on => Sys2Proof.Machine.execArmCtrlEn a on s
  | .armPause a => Sys2Proof.Machine.execArmPause a s
  | .armResume a => Sys2Proof.Machine.execArmResume a s
  | .armAbort a => Sys2Proof.Machine.execArmAbort a s
  | .armClr a => Sys2Proof.Machine.execArmClr a s
  | .planningTick => Sys2Proof.Machine.execPlanningTick s
  | .plannerRun => Sys2Proof.Machine.execPlannerRun s
  | .timedMoveStart a => Sys2Proof.Machine.execTimedMoveStart a s
  | .interpolatorRun a => Sys2Proof.Machine.execInterpolatorRun a s
  | .plannerKilnStop => Sys2Proof.Machine.execPlannerKilnStop s
  | .stpEn i on => Sys2Proof.Machine.execStpEn i on s
  | .stpPinArm i on => Sys2Proof.Machine.execStpPinArm i on s
  | .stpStop i => Sys2Proof.Machine.execStpStop i s
  | .stpAbort i => Sys2Proof.Machine.execStpAbort i s
  | .stpClr i => Sys2Proof.Machine.execStpClr i s
  | .stepMovePush i v => Sys2Proof.Machine.execStepMovePush i v s
  | .stepPreset i hi => Sys2Proof.Machine.execStepPreset i hi s
  | .stepAccWrite i v => Sys2Proof.Machine.execStepAccWrite i v s
  | .stepCfgWrite i r v => Sys2Proof.Machine.execStepCfgWrite i r v s
  | .stepDue i => Sys2Proof.Machine.execStepDue i s
  | .stepPulseEnd i => Sys2Proof.Machine.execStepPulseEnd i s
  | .stepDsetupExpiry i => Sys2Proof.Machine.execStepDsetupExpiry i s
  | .stepGroupStart g => Sys2Proof.Machine.execStepGroupStart g s
  | .stepperDriveRun i => Sys2Proof.Machine.execStepperDriveRun i s
  | .stepHoldCurrent i => Sys2Proof.Machine.execStepHoldCurrent i s
  | .kilnRequest n => Sys2Proof.Machine.execKilnRequest n s
  | .kilnSolveStart k => Sys2Proof.Machine.execKilnSolveStart k s
  | .kilnSolveDone k => Sys2Proof.Machine.execKilnSolveDone k s
  | .kilnDeadline k c => Sys2Proof.Machine.execKilnDeadline k c s
  | .kilnEnWrite k on => Sys2Proof.Machine.execKilnEnWrite k on s
  | .kilnFlush k => Sys2Proof.Machine.execKilnFlush k s
  | .stkCreate n => Sys2Proof.Machine.execStkCreate n s
  | .stkDelete n => Sys2Proof.Machine.execStkDelete n s
  | .stkReadDesc n => Sys2Proof.Machine.execStkReadDesc n s
  | .stkEnable n => Sys2Proof.Machine.execStkEnable n s
  | .stkDisable n => Sys2Proof.Machine.execStkDisable n s
  | .bufCreate h => Sys2Proof.Machine.execBufCreate h s
  | .bufDelete h => Sys2Proof.Machine.execBufDelete h s
  | .bufRead h => Sys2Proof.Machine.execBufRead h s
  | .stkRelease who v => Sys2Proof.Machine.execStkRelease who v s
  | .delayListExpiry k => Sys2Proof.Machine.execDelayListExpiry k s
  | .stkCancel who n => Sys2Proof.Machine.execStkCancel who n s
  | .slotInvalidate n => Sys2Proof.Machine.execSlotInvalidate n s
  | .heldReleaseAccept => Sys2Proof.Machine.execHeldReleaseAccept s
  | .slotFill t => Sys2Proof.Machine.execSlotFill t s
  | .taskReleaseStart t => Sys2Proof.Machine.execTaskReleaseStart t s
  | .budgetStop t => Sys2Proof.Machine.execBudgetStop t s
  | .taskDeadlineMiss n => Sys2Proof.Machine.execTaskDeadlineMiss n s
  | .taskEndReport t => Sys2Proof.Machine.execTaskEndReport t s
  | .untimedRunEnd n skew => Sys2Proof.Machine.execUntimedRunEnd n skew s
  | .taskFaultReport t => Sys2Proof.Machine.execTaskFaultReport t s
  | .taskCopyDone n => Sys2Proof.Machine.execTaskCopyDone n s
  | .tierMeasurement acc => Sys2Proof.Machine.execTierMeasurement acc s
  | .bufferCopyDone h => Sys2Proof.Machine.execBufferCopyDone h s
  | .stkRebalance => Sys2Proof.Machine.execStkRebalance s
  | .icFilterChange n level t samples => Sys2Proof.Machine.execIcFilterChange n level t samples s
  | .icDelivery t => Sys2Proof.Machine.execIcDelivery t s
  | .icClaimRead t => Sys2Proof.Machine.execIcClaimRead t s
  | .icComplete who v => Sys2Proof.Machine.execIcComplete who v s
  | .icHoldoffExpiry g => Sys2Proof.Machine.execIcHoldoffExpiry g s
  | .icRedirect n => Sys2Proof.Machine.execIcRedirect n s
  | .icSwSet who k v => Sys2Proof.Machine.execIcSwSet who k v s
  | .icSwClr who k v same => Sys2Proof.Machine.execIcSwClr who k v same s
  | .icSrcCfgWrite n v => Sys2Proof.Machine.execIcSrcCfgWrite n v s
  | .cmpIrqLevelEnd n => Sys2Proof.Machine.execCmpIrqLevelEnd n s
  | .icPlaneFinding t => Sys2Proof.Machine.execIcPlaneFinding t s
  | .separationCapture => Sys2Proof.Machine.execSeparationCapture s
  | .channelResultPosted one => Sys2Proof.Machine.execChannelResultPosted one s
  | .channelResultArrival one => Sys2Proof.Machine.execChannelResultArrival one s
  | .exchangeWindowEnd one cycles => Sys2Proof.Machine.execExchangeWindowEnd one cycles s
  | .separationCommit => Sys2Proof.Machine.execSeparationCommit s
  | .safeInputChange k one level t held => Sys2Proof.Machine.execSafeInputChange k one level t held s
  | .safeInputDiscrepancy k t => Sys2Proof.Machine.execSafeInputDiscrepancy k t s
  | .testPulseStart n => Sys2Proof.Machine.execTestPulseStart n s
  | .testPulseEnd n => Sys2Proof.Machine.execTestPulseEnd n s
  | .safeOutputReadbackFault k one => Sys2Proof.Machine.execSafeOutputReadbackFault k one s
  | .outputTestStart k one => Sys2Proof.Machine.execOutputTestStart k one s
  | .outputTestEnd k one low high => Sys2Proof.Machine.execOutputTestEnd k one low high s
  | .brakeDelayExpiry k => Sys2Proof.Machine.execBrakeDelayExpiry k s
  | .siReqSto arms => Sys2Proof.Machine.execSiReqSto arms s
  | .siReqSs1 arms => Sys2Proof.Machine.execSiReqSs1 arms s
  | .siReqSs2 arms => Sys2Proof.Machine.execSiReqSs2 arms s
  | .siReqRelease arms => Sys2Proof.Machine.execSiReqRelease arms s
  | .siToken v => Sys2Proof.Machine.execSiToken v s
  | .sackChange one level t held => Sys2Proof.Machine.execSackChange one level t held s
  | .sackHoldTimeout one t => Sys2Proof.Machine.execSackHoldTimeout one t s
  | .tokenExpiry t => Sys2Proof.Machine.execTokenExpiry t s
  | .psetCrcSweep one ok => Sys2Proof.Machine.execPsetCrcSweep one ok s
  | .signetTelegramRx t => Sys2Proof.Machine.execSignetTelegramRx t s
  | .signetWatchdogExpiry c => Sys2Proof.Machine.execSignetWatchdogExpiry c s
  | .signetDegradedExpiry c => Sys2Proof.Machine.execSignetDegradedExpiry c s
  | .chainEnWrite v => Sys2Proof.Machine.execChainEnWrite v s
  | .chainScheduleWrite o bytes => Sys2Proof.Machine.execChainScheduleWrite o bytes s
  | .chainCycleStart => Sys2Proof.Machine.execChainCycleStart s
  | .chainBuildPoint k => Sys2Proof.Machine.execChainBuildPoint k s
  | .chainFrameLaunch k => Sys2Proof.Machine.execChainFrameLaunch k s
  | .chainFrameRx b x t => Sys2Proof.Machine.execChainFrameRx b x t s
  | .chainRateRequest => Sys2Proof.Machine.execChainRateRequest s
  | .claspLinkDelayRequest x => Sys2Proof.Machine.execClaspLinkDelayRequest x s
  | .linkDelayAnswer b => Sys2Proof.Machine.execLinkDelayAnswer b s
  | .chainListenTimeout => Sys2Proof.Machine.execChainListenTimeout s
  | .chainColdstartClaim => Sys2Proof.Machine.execChainColdstartClaim s
  | .chainBackoffExpiry => Sys2Proof.Machine.execChainBackoffExpiry s
  | .chainSourceLost => Sys2Proof.Machine.execChainSourceLost s
  | .chainLinkChange lane up => Sys2Proof.Machine.execChainLinkChange lane up s
  | .claspFrameArrival x p f t => Sys2Proof.Machine.execClaspFrameArrival x p f t s
  | .claspTieWindow x => Sys2Proof.Machine.execClaspTieWindow x s
  | .claspArbitrateReturn x => Sys2Proof.Machine.execClaspArbitrateReturn x s
  | .planeComparison => Sys2Proof.Machine.execPlaneComparison s
  | .planeSelfFault pl k tile words other t => Sys2Proof.Machine.execPlaneSelfFault pl k tile words other t s
  | .planeGiveupAtPort n => Sys2Proof.Machine.execPlaneGiveupAtPort n s
  | .pcReturn pl => Sys2Proof.Machine.execPcReturn pl s
  | .pcHandover => Sys2Proof.Machine.execPcHandover s
  | .pcTakeDown pl => Sys2Proof.Machine.execPcTakeDown pl s
  | .pcExtTest => Sys2Proof.Machine.execPcExtTest s
  | .planeTestDone pl k tile => Sys2Proof.Machine.execPlaneTestDone pl k tile s
  | .transferSweepDone pl => Sys2Proof.Machine.execTransferSweepDone pl s
  | .transferTimeout pl => Sys2Proof.Machine.execTransferTimeout pl s
  | .planeConfirmed => Sys2Proof.Machine.execPlaneConfirmed s
  | .extTestDone a b => Sys2Proof.Machine.execExtTestDone a b s
  | .lbistSlice t => Sys2Proof.Machine.execLbistSlice t s
  | .lbistStarved pl t => Sys2Proof.Machine.execLbistStarved pl t s
  | .mbCommandWrite k o bytes => Sys2Proof.Machine.execMbCommandWrite k o bytes s
  | .mbPost v => Sys2Proof.Machine.execMbPost v s
  | .mbFree v => Sys2Proof.Machine.execMbFree v s
  | .mbTake => Sys2Proof.Machine.execMbTake s
  | .mbDone k => Sys2Proof.Machine.execMbDone k s
  | .mbStatRead k => Sys2Proof.Machine.execMbStatRead k s
  | .hearthRestart => Sys2Proof.Machine.execHearthRestart s
  | .hearthUp => Sys2Proof.Machine.execHearthUp s
  | .hmEvtHeadRead => Sys2Proof.Machine.execHmEvtHeadRead s
  | .windowTWrite o v => Sys2Proof.Machine.execWindowTWrite o v s
  | .pcieReset up => Sys2Proof.Machine.execPcieReset up s
  | .movePush k => Sys2Proof.Machine.execMovePush k s
  | .armCmd k => Sys2Proof.Machine.execArmCmd k s
  | .armEnable k => Sys2Proof.Machine.execArmEnable k s
  | .armStatus k => Sys2Proof.Machine.execArmStatus k s
  | .armOverride k => Sys2Proof.Machine.execArmOverride k s
  | .stepMove k => Sys2Proof.Machine.execStepMove k s
  | .stepCmd k => Sys2Proof.Machine.execStepCmd k s
  | .torqueRef k => Sys2Proof.Machine.execTorqueRef k s
  | .safeReq k => Sys2Proof.Machine.execSafeReq k s
  | .safeToken k => Sys2Proof.Machine.execSafeToken k s
  | .safeStatus k => Sys2Proof.Machine.execSafeStatus k s
  | .psetStage k => Sys2Proof.Machine.execPsetStage k s
  | .psetInfo k => Sys2Proof.Machine.execPsetInfo k s
  | .timeGet k => Sys2Proof.Machine.execTimeGet k s
  | .timeSet k => Sys2Proof.Machine.execTimeSet k s
  | .timeSource k => Sys2Proof.Machine.execTimeSource k s
  | .timeRestart k => Sys2Proof.Machine.execTimeRestart k s
  | .timeRate k => Sys2Proof.Machine.execTimeRate k s
  | .portComp k => Sys2Proof.Machine.execPortComp k s
  | .pulseSched k => Sys2Proof.Machine.execPulseSched k s
  | .captureCfg k => Sys2Proof.Machine.execCaptureCfg k s
  | .captureRead k => Sys2Proof.Machine.execCaptureRead k s
  | .lktRead k => Sys2Proof.Machine.execLktRead k s
  | .lktInfo k => Sys2Proof.Machine.execLktInfo k s
  | .lktFlush k => Sys2Proof.Machine.execLktFlush k s
  | .lktFilter k => Sys2Proof.Machine.execLktFilter k s
  | .lktMark k => Sys2Proof.Machine.execLktMark k s
  | .updBegin k => Sys2Proof.Machine.execUpdBegin k s
  | .updData k => Sys2Proof.Machine.execUpdData k s
  | .updVerify k => Sys2Proof.Machine.execUpdVerify k s
  | .updActivate k => Sys2Proof.Machine.execUpdActivate k s
  | .updStatus k => Sys2Proof.Machine.execUpdStatus k s
  | .updAbort k => Sys2Proof.Machine.execUpdAbort k s
  | .updProvingDone => Sys2Proof.Machine.execUpdProvingDone s
  | .updFailure window => Sys2Proof.Machine.execUpdFailure window s
  | .safetyChannelRestartDone => Sys2Proof.Machine.execSafetyChannelRestartDone s
  | .identityCmd k aelilan => Sys2Proof.Machine.execIdentityCmd k aelilan s
  | .attestationReport k nonce => Sys2Proof.Machine.execAttestationReport k nonce s
  | .configWriteCmd k ws => Sys2Proof.Machine.execConfigWriteCmd k ws s
  | .configReadCmd k rs => Sys2Proof.Machine.execConfigReadCmd k rs s
  | .setInfo k => Sys2Proof.Machine.execSetInfo k s
  | .setRead k => Sys2Proof.Machine.execSetRead k s
  | .setWrite k bad => Sys2Proof.Machine.execSetWrite k bad s
  | .keyProgram k slot key => Sys2Proof.Machine.execKeyProgram k slot key s
  | .keyRevoke k vendor slot signer sig => Sys2Proof.Machine.execKeyRevoke k vendor slot signer sig s
  | .seal k => Sys2Proof.Machine.execSeal k s
  | .placementTaskCmd k n op d => Sys2Proof.Machine.execPlacementTaskCmd k n op d s
  | .placementBufferCmd k h op d => Sys2Proof.Machine.execPlacementBufferCmd k h op d s
  | .placementRebalCmd k rebal freeze => Sys2Proof.Machine.execPlacementRebalCmd k rebal freeze s
  | .regReadCmd k a => Sys2Proof.Machine.execRegReadCmd k a s
  | .regWriteCmd k a v => Sys2Proof.Machine.execRegWriteCmd k a v s
  | .chainScheduleCmd k o bytes => Sys2Proof.Machine.execChainScheduleCmd k o bytes s
  | .chainCtrlCmd k v => Sys2Proof.Machine.execChainCtrlCmd k v s
  | .claspMapCmd k x v => Sys2Proof.Machine.execClaspMapCmd k x v s
  | .kilnPostCmd k n => Sys2Proof.Machine.execKilnPostCmd k n s
  | .kilnResultCmd k c o n => Sys2Proof.Machine.execKilnResultCmd k c o n s
  | .qspiRead w n => Sys2Proof.Machine.execQspiRead w n s
  | .qspiWrite w ws => Sys2Proof.Machine.execQspiWrite w ws s
  | .hci1Post => Sys2Proof.Machine.execHci1Post s
  | .hci1Free => Sys2Proof.Machine.execHci1Free s
  | .hci1Identity => Sys2Proof.Machine.execHci1Identity s
  | .hci1AbsMove => Sys2Proof.Machine.execHci1AbsMove s
  | .hci1RelMove => Sys2Proof.Machine.execHci1RelMove s
  | .hci1Stop => Sys2Proof.Machine.execHci1Stop s
  | .hci1Status => Sys2Proof.Machine.execHci1Status s
  | .hci1ReadTime => Sys2Proof.Machine.execHci1ReadTime s
  | .locketPost type sev addr payload cell => Sys2Proof.Machine.execLocketPost type sev addr payload cell s
  | .locketFlush bad => Sys2Proof.Machine.execLocketFlush bad s
  | .locketFlushDone => Sys2Proof.Machine.execLocketFlushDone s
  | .locketPeriodExpiry => Sys2Proof.Machine.execLocketPeriodExpiry s
  | .lkFlushWrite => Sys2Proof.Machine.execLkFlushWrite s
  | .lkIndexLoRead which => Sys2Proof.Machine.execLkIndexLoRead which s
  | .pfFlushDone => Sys2Proof.Machine.execPfFlushDone s
  | .mirrorWrite => Sys2Proof.Machine.execMirrorWrite s
  | .keepaliveTick high core => Sys2Proof.Machine.execKeepaliveTick high core s
  | .boot => Sys2Proof.Machine.execBoot s
  | .imageVerified => Sys2Proof.Machine.execImageVerified s
  | .otpProgram who => Sys2Proof.Machine.execOtpProgram who s
  | .otpProgramDone took => Sys2Proof.Machine.execOtpProgramDone took s
  | .pinRelTime => Sys2Proof.Machine.execPinRelTime s
  | .pinRelSdclk => Sys2Proof.Machine.execPinRelSdclk s
  | .pinRelFbo => Sys2Proof.Machine.execPinRelFbo s
  | .pinRelStep => Sys2Proof.Machine.execPinRelStep s
  | .pinRelGate => Sys2Proof.Machine.execPinRelGate s
  | .por t kaKept vddKa pfail => Sys2Proof.Machine.execPor t kaKept vddKa pfail s
  | .brownout t => Sys2Proof.Machine.execBrownout t s
  | .rstNLow => Sys2Proof.Machine.execRstNLow s
  | .rstNHigh => Sys2Proof.Machine.execRstNHigh s
  | .resetStuck => Sys2Proof.Machine.execResetStuck s
  | .rstNRehonour => Sys2Proof.Machine.execRstNRehonour s
  | .pfailAssert t => Sys2Proof.Machine.execPfailAssert t s
  | .pfRestart t => Sys2Proof.Machine.execPfRestart t s
  | .sdfStuckRunEnd n inB t => Sys2Proof.Machine.execSdfStuckRunEnd n inB t s
  | .ptpDelayReqTx p peer => Sys2Proof.Machine.execPtpDelayReqTx p peer s
  | .coreSupplyWindowFault => Sys2Proof.Machine.execCoreSupplyWindowFault s

end Sys2Proof.Machine
end

