-- ==== Sys2Proof/Machine/Step.lean ====
section
/-! DEFINITION. One step: the command at the front of the queue, and the idle step (log 43). -/

namespace Sys2Proof.Machine

open Sys2Proof

/-- A state with its queue replaced. -/
def State.withPending (s : State) (q : List Instr) : State := { s with pending := q }

/-- One step: the command that waits longest takes effect on the state with the rest of the queue; with no command waiting the device
idles for one fabric cycle of 1 ns (log 43). -/
def step (s : State) : Host.Outcome State Fault Refusal :=
  match s.pending with
  | [] => .next (s.advance (s.now + nsUnits))
  | c :: q => exec c (s.withPending q)

/-- The state with the command that a word of the table of operations spells at the front of its queue; s where the word spells none (log
44). -/
def State.withFetchWord (s : State) (nbits w : Nat) : State :=
  match decodeTableWord nbits w with
  | some c => s.withPending (c :: s.pending)
  | none => s

end Sys2Proof.Machine
end

