-- ==== Sys2Proof/Safety.lean ====
section
/-! DEFINITION. What claims mean by a state in order: memory in its one form, gates and safe outputs off, an outcome that goes
on, and the parts of the state that a command may change. -/

namespace Sys2Proof

/-- The groups of registers. -/
inductive RegGroup where
  /-- Clocks and the period sequencer (01). -/
  | clk
  /-- The time base (02). -/
  | tb
  /-- Timed outputs (02). -/
  | tpo
  /-- Timed captures (02). -/
  | tcap
  /-- Time-stamp corrections (02). -/
  | tsp
  /-- Ethernet (02). -/
  | eth
  /-- MDIO (02). -/
  | mdio
  /-- Joint ports (03). -/
  | port
  /-- Filters (04). -/
  | sdf
  /-- Modulator clocks (04). -/
  | sdc
  /-- Feedback units (04). -/
  | fb
  /-- Loops (05). -/
  | ld
  /-- The planner (06). -/
  | pln
  /-- Arms (06). -/
  | arm
  /-- Step axes (06). -/
  | stp
  /-- Microstep tables (06). -/
  | ust
  /-- Kilns (07). -/
  | kn
  /-- Stack (10). -/
  | stk
  /-- The interrupt controller (11). -/
  | ic
  /-- The safety island (12). -/
  | si
  /-- The Chain (14). -/
  | ch
  /-- Clasp (14). -/
  | cp
  /-- Plane control (15). -/
  | pc
  /-- The mailbox and events (16). -/
  | hm
  /-- Locket (17). -/
  | lk
  /-- OTP (18). -/
  | otp
  deriving DecidableEq, Repr

/-- The group of a register. -/
def Reg.group : Reg → RegGroup
  | .clk _ => .clk
  | .tb _ => .tb
  | .tpo _ _ => .tpo
  | .tcap _ _ => .tcap
  | .tsp _ _ => .tsp
  | .eth _ _ => .eth
  | .mdio _ => .mdio
  | .port _ _ => .port
  | .sdf _ _ => .sdf
  | .sdc _ => .sdc
  | .fb _ _ => .fb
  | .ld _ _ => .ld
  | .pln _ => .pln
  | .arm _ _ => .arm
  | .stp _ _ => .stp
  | .ust _ _ => .ust
  | .kn _ _ => .kn
  | .stk _ => .stk
  | .ic _ => .ic
  | .si _ => .si
  | .ch _ => .ch
  | .cp _ _ => .cp
  | .pc _ => .pc
  | .hm _ => .hm
  | .lk _ => .lk
  | .otp _ => .otp

end Sys2Proof

namespace Sys2Proof.Machine

open Sys2Proof

/-- Memory in its one form: addresses strictly rising, and no byte listed that an unlisted address reads as (log 7). -/
abbrev Memory.wf (m : List Host.Cell) : Prop := m.Pairwise (fun x y => x.1 < y.1) ∧ ∀ q ∈ m, q.2 ≠ 0

/-- The memories of a state are in their one form: the fabric's with those of the tiles, and the flash. -/
abbrev State.memoryWf (s : State) : Prop := Memory.wf s.mem ∧ Memory.wf s.boot.flash

/-- Both gates of every leg of a joint port are off (03 R93, R115). -/
def State.gatesOff (s : State) (n : Fin 64) : Prop :=
  ∀ l, (tget (s.port n).legs l {}).gh = false ∧ (tget (s.port n).legs l {}).gl = false

/-- Every safe output is de-energised in both channels (12 R419). -/
def State.outputsOff (s : State) : Prop := ∀ k, (s.sout k).on = none ∧ (s.sout k).p1 = false ∧ (s.sout k).p2 = false

/-- An outcome is a next state with a property; a fault or a refusal is not. -/
def answers (o : Host.Outcome State Fault Refusal) (p : State → Prop) : Prop :=
  match o with
  | .next t => p t
  | _ => False

/-- The parts of the state: a group of registers, or one field of `State` beside the queue and the register file. -/
inductive Part where
  | reg (g : RegGroup)
  | now
  | mem
  | fresh
  | rdata
  | ident
  | seq
  | time
  | caps
  | pulses
  | lk
  | evts
  | pwr
  | ports
  | axes
  | sdclk
  | filters
  | fbs
  | loops
  | arms
  | kiln
  | plannerRan
  | planDue
  | tiles
  | stk
  | pc
  | ic
  | si
  | eth
  | chain
  | claspA
  | claspB
  | mb
  | boot
  deriving DecidableEq, Repr

/-- Two states are the same in a part. -/
def Part.same : Part → State → State → Prop
  | .reg g, s, t => ∀ r, r.group = g → s.rd r = t.rd r
  | .now, s, t => s.now = t.now
  | .mem, s, t => s.mem = t.mem
  | .fresh, s, t => s.fresh = t.fresh
  | .rdata, s, t => s.rdata = t.rdata
  | .ident, s, t => s.ident = t.ident
  | .seq, s, t => s.seq = t.seq
  | .time, s, t => s.time = t.time
  | .caps, s, t => s.caps = t.caps
  | .pulses, s, t => s.pulses = t.pulses
  | .lk, s, t => s.lk = t.lk
  | .evts, s, t => s.evts = t.evts
  | .pwr, s, t => s.pwr = t.pwr
  | .ports, s, t => s.ports = t.ports
  | .axes, s, t => s.axes = t.axes
  | .sdclk, s, t => s.sdclk = t.sdclk
  | .filters, s, t => s.filters = t.filters
  | .fbs, s, t => s.fbs = t.fbs
  | .loops, s, t => s.loops = t.loops
  | .arms, s, t => s.arms = t.arms
  | .kiln, s, t => s.kiln = t.kiln
  | .plannerRan, s, t => s.plannerRan = t.plannerRan
  | .planDue, s, t => s.planDue = t.planDue
  | .tiles, s, t => s.tiles = t.tiles
  | .stk, s, t => s.stk = t.stk
  | .pc, s, t => s.pc = t.pc
  | .ic, s, t => s.ic = t.ic
  | .si, s, t => s.si = t.si
  | .eth, s, t => s.eth = t.eth
  | .chain, s, t => s.chain = t.chain
  | .claspA, s, t => s.claspA = t.claspA
  | .claspB, s, t => s.claspB = t.claspB
  | .mb, s, t => s.mb = t.mb
  | .boot, s, t => s.boot = t.boot

/-- The state t is s but in the parts listed. -/
def State.sameBut (l : List Part) (s t : State) : Prop := ∀ p, p ∉ l → p.same s t

/-- Every group of registers. -/
def regParts : List Part := [.reg .clk, .reg .tb, .reg .tpo, .reg .tcap, .reg .tsp, .reg .eth, .reg .mdio, .reg .port, .reg .sdf, .reg .sdc, .reg .fb, .reg .ld, .reg .pln, .reg .arm, .reg .stp, .reg .ust, .reg .kn, .reg .stk, .reg .ic, .reg .si, .reg .ch, .reg .cp, .reg .pc, .reg .hm, .reg .lk, .reg .otp]

/-- What a record, its event and its interrupt change (17 R526, 16 R520, 11 R376). -/
def postParts : List Part := [.lk, .evts, .reg .lk, .reg .hm, .reg .ic]

/-- Tile t can issue an instruction of some bytes in a mode (08 R280, R282, R285, R292): it runs a task and is not frozen, its fetch makes
no fault (an aligned address, within program memory, without an uncorrectable word), and it stands in no delay slot and under no repeat. -/
def State.canIssue (s : State) (t : Fin 32) (mx : Bool) (size : Nat) : Prop :=
  (s.tile t).task.isSome = true ∧ (s.tile t).wait = none ∧ (s.tile t).mxMode = mx ∧ (s.tile t).fetchFault size = none
    ∧ (s.tile t).br = none ∧ (s.tile t).rep = none

/-- An instruction of some bytes and cycles has issued on tile t with an effect f on it: the program counter stands behind it, the
pipeline has moved on by its cycles, and nothing else has changed. -/
def State.issued (s u : State) (t : Fin 32) (size cycles : Nat) (f : Tile → Tile) : Prop :=
  u.tile t = iter Tile.tick cycles { f (s.tile t) with pc := (s.tile t).pc + size } ∧ (∀ i, i ≠ t → u.tile i = s.tile i) ∧ s.sameBut [.tiles] u

/-- The words of n at an operand's address can be accessed in tile t's own memory: no fault of R299, and below the tile view's end. -/
def State.reaches (s : State) (t : Fin 32) (a : Addr) (n : Nat) (read : Bool) : Prop :=
  (s.tile t).accessFault a n read = none ∧ a.at_.toNat < 0x10000000

/-- The words of an operand in tile t's own memory. -/
def State.operand (s : State) (t : Fin 32) (a : Addr) (n : Nat) : List Word := ((s.tile t).wordAddrs a n).map (s.tword t)

/-- The tiles whose memory a store of tile t reaches: its own, and while the other plane takes a transfer the tile of the same number
there (15 R500). -/
def State.storeTiles (s : State) (t : Fin 32) : List (Fin 32) :=
  if s.mirrored (planeOf t) then [t, tileOf (1 - planeOf t) (tileNo t)] else [t]

/-- A store instruction has issued on tile t: each word stands at its address where no two overlap, every byte outside the stored words
is as before, and of the tile only the address register's update, the errors cleared by the store, the program counter and the
pipeline have moved; of the other tile that the store reaches only the errors cleared. -/
def State.issuedStore (s u : State) (t : Fin 32) (size cycles : Nat) (a : Addr) (ws : List Word) : Prop :=
  let qs := (s.tile t).wordAddrs a ws.length
  u.tile t = iter Tile.tick cycles { (s.tile t).queue a.writes with bad := (s.tile t).bad.filter (fun q => decide (q ∉ qs)), pc := (s.tile t).pc + size }
  ∧ (∀ i, i ≠ t → u.tile i = if i ∈ s.storeTiles t then { s.tile i with bad := (s.tile i).bad.filter (fun q => decide (q ∉ qs)) } else s.tile i)
  ∧ (Memory.wf s.mem → qs.Pairwise (fun p q => p + 4 ≤ q ∨ q + 4 ≤ p) → ∀ i ∈ s.storeTiles t, ∀ p ∈ qs.zip ws, u.tword i p.1 = p.2)
  ∧ (∀ b, (∀ i ∈ s.storeTiles t, ∀ q ∈ qs, b < tileBase i + q ∨ tileBase i + q + 4 ≤ b) → memRead u.mem b = memRead s.mem b)
  ∧ s.sameBut [.tiles, .mem] u

end Sys2Proof.Machine
end

