-- ==== Sys2Proof/Touches.lean ====
section
/-! DEFINITION. The parts of the state that each command may change, for the statement of their frames. -/

namespace Sys2Proof.Machine

open Sys2Proof

/-- What an instruction of a tile changes: the tile, and the request line and the claim of the interrupt controller when its run ends (11 R370). -/
def tileParts : List Part :=
  [Part.reg RegGroup.ic, Part.tiles, Part.ic]

/-- What a store instruction of a tile changes: memory too. -/
def tileStoreParts : List Part :=
  [Part.reg RegGroup.ic, Part.mem, Part.tiles, Part.ic]

/-- What a write of a register may change, by address or by a mailbox command: the register, what its meaning acts on, and the free values that it takes. -/
def writeParts : List Part :=
  regParts ++ [Part.now, Part.mem, Part.fresh, Part.seq, Part.time, Part.pulses, Part.lk, Part.evts, Part.ports, Part.axes,
  Part.sdclk, Part.fbs, Part.loops, Part.arms, Part.kiln, Part.tiles, Part.stk, Part.pc, Part.ic, Part.si, Part.eth, Part.chain,
  Part.mb, Part.boot]

/-- What a read may change: rc registers, capture buffers, event queues, and the slot of its command. -/
def readParts : List Part :=
  regParts ++ [Part.fresh, Part.rdata, Part.caps, Part.evts, Part.kiln, Part.mb]

/-- What a reset changes: everything but the queue. -/
def resetParts : List Part :=
  regParts ++ [Part.now, Part.mem, Part.fresh, Part.rdata, Part.ident, Part.seq, Part.time, Part.caps, Part.pulses, Part.lk,
  Part.evts, Part.pwr, Part.ports, Part.axes, Part.sdclk, Part.filters, Part.fbs, Part.loops, Part.arms, Part.kiln,
  Part.plannerRan, Part.planDue, Part.tiles, Part.stk, Part.pc, Part.ic, Part.si, Part.eth, Part.chain, Part.claspA, Part.claspB,
  Part.mb, Part.boot]

/-- The parts a command may change, beside the queue, which no command changes (log 43). -/
def touches : Instr → List Part
  | .nop _ => tileParts
  | .tend _ => [Part.reg RegGroup.stk, Part.reg RegGroup.ic, Part.tiles, Part.stk, Part.ic]
  | .reti _ => tileParts
  | .rptImm _ _ => tileParts
  | .rptReg _ _ => tileParts
  | .ei _ => tileParts
  | .di _ => tileParts
  | .clrst _ => tileParts
  | .setrnd _ _ => tileParts
  | .bCc _ _ _ => tileParts
  | .call _ _ => tileParts
  | .jmp _ _ => tileParts
  | .callr _ _ => tileParts
  | .ret _ => tileParts
  | .dbnz _ _ _ => tileParts
  | .mxcall _ _ => tileParts
  | .ld _ _ _ => tileParts
  | .st _ _ _ => tileStoreParts
  | .lddA _ _ _ => tileParts
  | .stdA _ _ _ => tileStoreParts
  | .ldq _ _ _ => tileParts
  | .stq _ _ _ => tileStoreParts
  | .lddP _ _ _ => tileParts
  | .stdP _ _ _ => tileStoreParts
  | .lddB _ _ _ => tileParts
  | .stdB _ _ _ => tileStoreParts
  | .ldL _ _ _ => tileParts
  | .stL _ _ _ => tileStoreParts
  | .ldM _ _ _ => tileParts
  | .stM _ _ _ => tileStoreParts
  | .lea _ _ _ => tileParts
  | .ld2 _ _ _ _ => tileParts
  | .ldiD _ _ _ => tileParts
  | .ldiA _ _ _ => tileParts
  | .ldiP _ _ _ => tileParts
  | .ldiB _ _ _ => tileParts
  | .ldiL _ _ _ => tileParts
  | .ldiM _ _ _ => tileParts
  | .mov _ _ _ => tileParts
  | .add _ _ _ _ _ => tileParts
  | .sub _ _ _ _ _ => tileParts
  | .cmp _ _ _ _ => tileParts
  | .neg _ _ _ _ => tileParts
  | .abs _ _ _ _ => tileParts
  | .min _ _ _ _ => tileParts
  | .max _ _ _ _ => tileParts
  | .and _ _ _ _ => tileParts
  | .or _ _ _ _ => tileParts
  | .xor _ _ _ _ => tileParts
  | .not _ _ _ => tileParts
  | .asl _ _ _ _ _ => tileParts
  | .asr _ _ _ _ => tileParts
  | .lsr _ _ _ _ => tileParts
  | .addc _ _ _ _ _ => tileParts
  | .subc _ _ _ _ _ => tileParts
  | .addi _ _ _ _ => tileParts
  | .cmpi _ _ _ _ => tileParts
  | .andi _ _ _ => tileParts
  | .ori _ _ _ => tileParts
  | .xori _ _ _ => tileParts
  | .asli _ _ _ _ _ => tileParts
  | .asri _ _ _ _ => tileParts
  | .lsri _ _ _ _ => tileParts
  | .adda _ _ _ _ => tileParts
  | .suba _ _ _ _ => tileParts
  | .nega _ _ _ _ => tileParts
  | .absa _ _ _ _ => tileParts
  | .clr _ _ => tileParts
  | .mva _ _ _ => tileParts
  | .mvr _ _ _ _ => tileParts
  | .asla _ _ _ _ _ => tileParts
  | .asra _ _ _ _ => tileParts
  | .cmpa _ _ _ _ => tileParts
  | .mova _ _ _ => tileParts
  | .rnda _ _ _ _ => tileParts
  | .mpy _ _ _ _ _ => tileParts
  | .mac _ _ _ _ _ => tileParts
  | .msu _ _ _ _ _ => tileParts
  | .mpyMem _ _ _ _ _ => tileParts
  | .macMem _ _ _ _ _ => tileParts
  | .msuMem _ _ _ _ _ => tileParts
  | .mpyr _ _ _ _ _ => tileParts
  | .dmacMem _ _ _ _ _ _ _ _ => tileParts
  | .dmacReg _ _ _ _ _ _ _ _ => tileParts
  | .dmacMulMem _ _ _ _ _ _ _ _ => tileParts
  | .dmacMulReg _ _ _ _ _ _ _ _ => tileParts
  | .qmacMem _ _ _ _ _ => tileParts
  | .qmacReg _ _ _ _ _ => tileParts
  | .qmacMulMem _ _ _ _ _ => tileParts
  | .qmacMulReg _ _ _ _ _ => tileParts
  | .acs _ _ _ _ _ _ => tileParts
  | .acsn _ _ _ _ _ _ => tileParts
  | .acs2 _ _ _ _ _ _ => tileParts
  | .acs2n _ _ _ _ _ _ => tileParts
  | .padd _ _ _ => tileParts
  | .paddm _ _ => tileParts
  | .paddl _ _ _ => tileParts
  | .mxNop _ => tileParts
  | .mxHalt _ => [Part.reg RegGroup.stk, Part.reg RegGroup.ic, Part.tiles, Part.stk, Part.ic]
  | .mxRet _ => tileParts
  | .mxRptImm _ _ => tileParts
  | .mxRptReg _ _ => tileParts
  | .mxEi _ => tileParts
  | .mxDi _ => tileParts
  | .mxClampon _ => tileParts
  | .mxClampoff _ => tileParts
  | .mxClrs _ => tileParts
  | .mxBranch _ _ _ => tileParts
  | .mxLongBranch _ _ => tileParts
  | .mxCall _ _ => tileParts
  | .mxLoadDirect _ _ _ => tileParts
  | .mxStoreDirect _ _ _ => tileStoreParts
  | .mxLoadIndirect _ _ _ => tileParts
  | .mxStoreIndirect _ _ _ => tileStoreParts
  | .mxAluReg _ _ _ _ => tileParts
  | .mxAluImm _ _ _ _ => tileParts
  | .mxMpy _ _ _ _ => tileParts
  | .mxMac _ _ _ _ => tileParts
  | .mxMsu _ _ _ _ => tileParts
  | .mxMpyr _ _ _ _ => tileParts
  | .mxMacMem _ _ _ _ _ _ => tileParts
  | .mxMsuMem _ _ _ _ _ _ => tileParts
  | .mxAccClr _ _ => tileParts
  | .mxAccAdd _ _ => tileParts
  | .mxAccSub _ _ => tileParts
  | .mxAccNeg _ _ => tileParts
  | .mxAccAbs _ _ => tileParts
  | .mxAccShl _ _ _ => tileParts
  | .mxAccShr _ _ _ => tileParts
  | .mxAccRound _ _ _ => tileParts
  | .mxAccLoad _ _ _ => tileParts
  | .mxIxLoad _ _ _ => tileParts
  | .mxIxAdd _ _ _ => tileParts
  | .mxIxToR _ _ _ => tileParts
  | .mxRToIx _ _ _ => tileParts
  | .mxIn _ _ _ => tileParts
  | .mxOut _ _ _ => tileStoreParts
  | .mxStatusRead _ _ => tileParts
  | .mxStatusWrite _ _ => tileParts
  | .outsideLoadReturn _ _ _ => regParts ++ [Part.fresh, Part.rdata, Part.caps, Part.evts, Part.kiln, Part.tiles, Part.ic, Part.mb]
  | .outsideStoreDrain _ _ _ => writeParts
  | .interruptAccept _ => tileParts
  | .illegalInstruction _ => tileParts
  | .registerWrite _ _ _ _ => writeParts
  | .readClear _ _ _ => readParts
  | .islClkWrite _ => [Part.reg RegGroup.clk]
  | .periodSelWrite _ => [Part.reg RegGroup.clk, Part.seq]
  | .periodRestart => [Part.reg RegGroup.clk, Part.reg RegGroup.kn, Part.now, Part.seq, Part.ports, Part.fbs, Part.loops,
      Part.kiln, Part.planDue, Part.stk, Part.pc, Part.si, Part.chain]
  | .windowEdge => regParts ++ [Part.now, Part.mem, Part.fresh, Part.seq, Part.time, Part.pulses, Part.lk, Part.evts, Part.ports,
      Part.axes, Part.sdclk, Part.filters, Part.fbs, Part.loops, Part.arms, Part.kiln, Part.tiles, Part.stk, Part.pc, Part.ic,
      Part.si, Part.eth, Part.chain, Part.mb, Part.boot]
  | .cutOffEdge _ => [Part.reg RegGroup.port, Part.now, Part.ports, Part.pc, Part.boot]
  | .loadEdge _ => [Part.reg RegGroup.port, Part.now, Part.ports]
  | .legEdge _ _ => [Part.reg RegGroup.port, Part.now, Part.ports]
  | .deadTimeExpiry _ _ _ => [Part.reg RegGroup.port, Part.now, Part.ports]
  | .activeShort _ => [Part.reg RegGroup.port, Part.now, Part.ports]
  | .refLoss => postParts ++ [Part.reg RegGroup.clk, Part.reg RegGroup.tb, Part.time, Part.chain]
  | .pllRelock => [Part.reg RegGroup.clk, Part.reg RegGroup.tb, Part.time, Part.chain]
  | .clockFault _ => postParts ++ [Part.reg RegGroup.clk, Part.reg RegGroup.port, Part.reg RegGroup.stp, Part.reg RegGroup.si,
      Part.now, Part.time, Part.ports, Part.axes, Part.si, Part.boot]
  | .pllFirstLock => [Part.reg RegGroup.clk]
  | .timeBaseStart => [Part.reg RegGroup.clk, Part.now, Part.seq, Part.time]
  | .timeStep => postParts ++ [Part.reg RegGroup.tb, Part.reg RegGroup.tpo, Part.now, Part.time, Part.pulses]
  | .timeSetAccept => [Part.reg RegGroup.tb, Part.time]
  | .tbRateWrite _ => [Part.reg RegGroup.tb, Part.time]
  | .tbSourceWrite _ => [Part.reg RegGroup.tb, Part.time, Part.chain]
  | .ptpSourceLost => [Part.reg RegGroup.tb, Part.time, Part.chain]
  | .ptpSyncTx _ => [Part.reg RegGroup.eth, Part.time, Part.eth]
  | .tcapEdge _ _ _ => postParts ++ [Part.reg RegGroup.tcap, Part.now, Part.caps]
  | .tcapHeadRead _ => [Part.reg RegGroup.tcap, Part.rdata, Part.caps]
  | .tbNowRead => [Part.reg RegGroup.tb, Part.rdata]
  | .tpoArmWrite _ _ => [Part.reg RegGroup.tpo, Part.pulses]
  | .tpoGo _ => postParts ++ [Part.reg RegGroup.tpo, Part.pulses]
  | .tpoEdge _ => postParts ++ [Part.reg RegGroup.tpo, Part.now, Part.pulses]
  | .ethFrameRx _ _ _ => [Part.reg RegGroup.tb, Part.reg RegGroup.eth, Part.now, Part.mem, Part.fresh, Part.time, Part.si,
      Part.eth, Part.chain]
  | .ethTxEntrySend _ => [Part.reg RegGroup.eth, Part.mem, Part.eth]
  | .signetEthTx _ => [Part.reg RegGroup.eth, Part.si, Part.eth]
  | .ethLinkChange _ _ _ => [Part.reg RegGroup.eth, Part.eth]
  | .ethCtrlWrite _ _ _ => [Part.reg RegGroup.eth]
  | .mdioWrite _ _ _ => [Part.reg RegGroup.mdio, Part.eth]
  | .mdioRead _ _ => [Part.reg RegGroup.mdio, Part.eth]
  | .mdioDone _ => [Part.reg RegGroup.mdio, Part.now, Part.eth]
  | .pwmArm _ => postParts ++ [Part.reg RegGroup.port, Part.ports, Part.boot]
  | .pwmDisarm _ => [Part.reg RegGroup.port, Part.ports]
  | .pwmRunSet _ => [Part.reg RegGroup.port]
  | .pwmRunClear _ => [Part.reg RegGroup.port, Part.ports]
  | .forceTripSet _ => postParts ++ [Part.reg RegGroup.port, Part.reg RegGroup.stp, Part.ports, Part.axes]
  | .forceTripClear _ => [Part.reg RegGroup.port]
  | .clrTrip _ => postParts ++ [Part.reg RegGroup.port, Part.ports]
  | .pwmConfigWrite _ _ _ => postParts ++ [Part.reg RegGroup.port, Part.reg RegGroup.stp, Part.ports, Part.axes]
  | .ewCommit _ _ _ => [Part.reg RegGroup.port, Part.ports]
  | .tripPinAssert _ _ _ => postParts ++ [Part.reg RegGroup.port, Part.reg RegGroup.stp, Part.now, Part.ports, Part.axes]
  | .tripPinRelease _ _ _ => postParts ++ [Part.reg RegGroup.port, Part.reg RegGroup.stp, Part.now, Part.ports, Part.axes]
  | .calRoundDone _ _ _ => postParts ++ [Part.reg RegGroup.port, Part.ports]
  | .calMapInstall _ _ => [Part.reg RegGroup.port, Part.ports]
  | .sdcArmWrite _ => [Part.reg RegGroup.sdc, Part.sdclk]
  | .sdcFreqWrite _ => [Part.reg RegGroup.sdc]
  | .sdcDlyWrite _ _ => [Part.reg RegGroup.sdc]
  | .sampleDelivery _ => [Part.reg RegGroup.sdf, Part.reg RegGroup.fb, Part.now, Part.mem, Part.loops]
  | .sdfStuckRun _ _ _ => postParts ++ [Part.reg RegGroup.sdf, Part.now, Part.filters]
  | .sdfCfgWrite _ _ => [Part.reg RegGroup.sdf]
  | .sdfGainWrite _ _ _ _ => [Part.reg RegGroup.sdf]
  | .fbLineChange _ _ _ => postParts ++ [Part.reg RegGroup.fb, Part.now, Part.fbs]
  | .fbReadingStart _ => [Part.now, Part.fbs]
  | .ssiReadingDone _ _ _ _ => [Part.reg RegGroup.fb, Part.now, Part.fbs]
  | .filigreeResponse _ _ _ _ => [Part.reg RegGroup.fb, Part.now, Part.fbs]
  | .fbReadingTimeout _ => [Part.reg RegGroup.fb, Part.fbs]
  | .fbStandstillTimeout _ => [Part.reg RegGroup.fb, Part.fbs]
  | .fbErrLimit _ => postParts ++ [Part.reg RegGroup.fb, Part.fbs]
  | .fbLimitWrite _ _ _ => postParts ++ [Part.reg RegGroup.fb, Part.fbs]
  | .fbSetWrite _ _ => postParts ++ [Part.reg RegGroup.fb, Part.fbs]
  | .fbPosLoRead _ => [Part.reg RegGroup.fb, Part.rdata]
  | .cmpHitNsRead _ => [Part.reg RegGroup.fb, Part.rdata]
  | .fbEnWrite _ _ => [Part.reg RegGroup.fb, Part.fbs]
  | .fbOutEnWrite _ _ => [Part.reg RegGroup.fb]
  | .encClr _ => [Part.fbs]
  | .fbCfgWrite _ _ _ => [Part.reg RegGroup.fb]
  | .cmpArmWrite _ _ => postParts ++ [Part.reg RegGroup.fb, Part.fbs]
  | .cmpEnWrite _ _ => postParts ++ [Part.reg RegGroup.fb, Part.fbs]
  | .cmpPulseEnd _ => [Part.now, Part.fbs]
  | .loopEnable _ => [Part.reg RegGroup.ld]
  | .loopDisable _ => [Part.reg RegGroup.ld, Part.loops]
  | .loopClrFault _ => [Part.reg RegGroup.ld, Part.loops]
  | .ldConfigWrite _ _ _ => [Part.reg RegGroup.ld]
  | .currentLawRun _ => [Part.reg RegGroup.port, Part.reg RegGroup.ld, Part.ports, Part.loops]
  | .motionLawRun _ => [Part.reg RegGroup.ld, Part.loops, Part.pc]
  | .customLawRun _ _ _ => [Part.reg RegGroup.port, Part.reg RegGroup.ld, Part.ports, Part.loops, Part.pc]
  | .ldRefCommit _ _ _ => [Part.reg RegGroup.ld, Part.loops]
  | .ldSpCommit _ _ => [Part.reg RegGroup.ld, Part.loops]
  | .ldSwapReq _ => [Part.reg RegGroup.ld]
  | .ldBankWrite _ _ _ _ => [Part.reg RegGroup.ld, Part.mem]
  | .loopSupWarn _ => [Part.reg RegGroup.ld, Part.loops]
  | .loopSupFault _ => postParts ++ [Part.reg RegGroup.ld, Part.loops]
  | .loopBadLimit _ => postParts ++ [Part.reg RegGroup.ld, Part.loops]
  | .loopFaultWord _ _ => postParts ++ [Part.reg RegGroup.port, Part.reg RegGroup.stp, Part.ports, Part.axes, Part.loops, Part.pc]
  | .lawWcetExceed _ _ => postParts ++ [Part.reg RegGroup.ld, Part.boot]
  | .armCtrlEn _ _ => [Part.reg RegGroup.ld, Part.reg RegGroup.arm, Part.loops, Part.arms, Part.pc]
  | .armPause _ => [Part.arms]
  | .armResume _ => [Part.arms]
  | .armAbort _ => [Part.arms]
  | .armClr _ => [Part.arms]
  | .planningTick => postParts ++ [Part.reg RegGroup.pln, Part.reg RegGroup.arm, Part.reg RegGroup.kn, Part.now, Part.mem,
      Part.fbs, Part.arms, Part.kiln, Part.plannerRan, Part.planDue, Part.pc]
  | .plannerRun => postParts ++ [Part.reg RegGroup.arm, Part.reg RegGroup.kn, Part.reg RegGroup.stk, Part.mem, Part.fresh,
      Part.arms, Part.kiln, Part.plannerRan, Part.stk, Part.pc, Part.ic]
  | .timedMoveStart _ => postParts ++ [Part.reg RegGroup.arm, Part.now, Part.arms]
  | .interpolatorRun _ => [Part.reg RegGroup.ld, Part.reg RegGroup.arm, Part.loops, Part.arms, Part.pc]
  | .plannerKilnStop => [Part.reg RegGroup.pln, Part.arms]
  | .stpEn _ _ => postParts ++ [Part.reg RegGroup.stp, Part.axes]
  | .stpPinArm _ _ => [Part.reg RegGroup.stp]
  | .stpStop _ => postParts ++ [Part.reg RegGroup.stp, Part.axes]
  | .stpAbort _ => postParts ++ [Part.reg RegGroup.stp, Part.axes]
  | .stpClr _ => [Part.reg RegGroup.stp, Part.axes]
  | .stepMovePush _ _ => postParts ++ [Part.reg RegGroup.stp, Part.axes]
  | .stepPreset _ _ => [Part.reg RegGroup.stp]
  | .stepAccWrite _ _ => [Part.reg RegGroup.stp]
  | .stepCfgWrite _ _ _ => [Part.reg RegGroup.stp, Part.reg RegGroup.ust]
  | .stepDue _ => postParts ++ [Part.reg RegGroup.stp, Part.now, Part.axes]
  | .stepPulseEnd _ => [Part.reg RegGroup.stp, Part.now, Part.axes]
  | .stepDsetupExpiry _ => [Part.reg RegGroup.stp, Part.now, Part.axes]
  | .stepGroupStart _ => [Part.reg RegGroup.stp, Part.axes]
  | .stepperDriveRun _ => postParts ++ [Part.reg RegGroup.port, Part.reg RegGroup.stp, Part.now, Part.ports, Part.axes]
  | .stepHoldCurrent _ => [Part.reg RegGroup.stp, Part.now]
  | .kilnRequest _ => [Part.reg RegGroup.kn, Part.reg RegGroup.stk, Part.mem, Part.kiln, Part.stk, Part.pc, Part.ic]
  | .kilnSolveStart _ => [Part.reg RegGroup.kn, Part.kiln]
  | .kilnSolveDone _ => [Part.reg RegGroup.kn, Part.reg RegGroup.stk, Part.now, Part.mem, Part.kiln, Part.stk, Part.pc, Part.ic]
  | .kilnDeadline _ _ => [Part.reg RegGroup.kn, Part.now, Part.kiln]
  | .kilnEnWrite _ _ => [Part.reg RegGroup.kn, Part.reg RegGroup.stk, Part.kiln, Part.stk, Part.ic]
  | .kilnFlush _ => [Part.reg RegGroup.kn, Part.kiln]
  | .stkCreate _ => [Part.reg RegGroup.stk, Part.stk]
  | .stkDelete _ => [Part.reg RegGroup.stk, Part.stk]
  | .stkReadDesc _ => [Part.reg RegGroup.stk, Part.stk]
  | .stkEnable _ => [Part.reg RegGroup.stk, Part.stk]
  | .stkDisable _ => [Part.reg RegGroup.stk, Part.stk]
  | .bufCreate _ => [Part.reg RegGroup.stk, Part.stk]
  | .bufDelete _ => [Part.reg RegGroup.stk, Part.stk]
  | .bufRead _ => [Part.reg RegGroup.stk, Part.stk]
  | .stkRelease _ _ => postParts ++ [Part.reg RegGroup.stk, Part.stk]
  | .delayListExpiry _ => [Part.reg RegGroup.stk, Part.now, Part.stk]
  | .stkCancel _ _ => postParts ++ [Part.reg RegGroup.stk, Part.now, Part.stk, Part.ic]
  | .slotInvalidate _ => postParts ++ [Part.reg RegGroup.stk, Part.now, Part.tiles, Part.stk, Part.ic]
  | .heldReleaseAccept => postParts ++ [Part.reg RegGroup.stk, Part.tiles, Part.stk, Part.ic]
  | .slotFill _ => [Part.reg RegGroup.stk, Part.tiles, Part.stk]
  | .taskReleaseStart _ => [Part.reg RegGroup.stk, Part.now, Part.tiles, Part.stk, Part.ic]
  | .budgetStop _ => postParts ++ [Part.reg RegGroup.stk, Part.tiles, Part.stk, Part.ic]
  | .taskDeadlineMiss _ => postParts ++ [Part.reg RegGroup.stk, Part.now, Part.stk]
  | .taskEndReport _ => postParts ++ [Part.reg RegGroup.stk, Part.mem, Part.tiles, Part.stk, Part.ic]
  | .untimedRunEnd _ _ => postParts ++ [Part.reg RegGroup.stk, Part.mem, Part.stk, Part.pc, Part.ic]
  | .taskFaultReport _ => writeParts
  | .taskCopyDone _ => [Part.stk]
  | .tierMeasurement _ => [Part.reg RegGroup.stk, Part.now, Part.tiles, Part.stk]
  | .bufferCopyDone _ => [Part.stk]
  | .stkRebalance => [Part.stk]
  | .icFilterChange _ _ _ _ => postParts ++ [Part.reg RegGroup.stk, Part.now, Part.stk, Part.ic]
  | .icDelivery _ => [Part.reg RegGroup.ic, Part.now, Part.tiles, Part.ic]
  | .icClaimRead _ => [Part.reg RegGroup.ic, Part.rdata]
  | .icComplete _ _ => postParts ++ [Part.reg RegGroup.stk, Part.fresh, Part.stk, Part.ic]
  | .icHoldoffExpiry _ => [Part.reg RegGroup.ic, Part.now, Part.ic]
  | .icRedirect _ => postParts ++ [Part.now, Part.ic]
  | .icSwSet _ _ _ => [Part.reg RegGroup.ic]
  | .icSwClr _ _ _ _ => [Part.reg RegGroup.ic]
  | .icSrcCfgWrite _ _ => postParts ++ [Part.reg RegGroup.stk, Part.stk, Part.ic]
  | .cmpIrqLevelEnd _ => [Part.now, Part.fbs]
  | .icPlaneFinding _ => [Part.now, Part.pc, Part.ic]
  | .separationCapture => postParts ++ [Part.reg RegGroup.si, Part.now, Part.si]
  | .channelResultPosted _ => [Part.si]
  | .channelResultArrival _ => [Part.si]
  | .exchangeWindowEnd _ _ => [Part.si, Part.boot]
  | .separationCommit => postParts ++ [Part.reg RegGroup.port, Part.reg RegGroup.stp, Part.reg RegGroup.si, Part.now, Part.fresh,
      Part.ports, Part.axes, Part.si, Part.boot]
  | .safeInputChange _ _ _ _ _ => [Part.now, Part.si]
  | .safeInputDiscrepancy _ _ => postParts ++ [Part.reg RegGroup.si, Part.now, Part.si]
  | .testPulseStart _ => [Part.now, Part.si]
  | .testPulseEnd _ => postParts ++ [Part.reg RegGroup.si, Part.now, Part.si]
  | .safeOutputReadbackFault _ _ => postParts ++ [Part.reg RegGroup.si, Part.si]
  | .outputTestStart _ _ => [Part.now, Part.si]
  | .outputTestEnd _ _ _ _ => postParts ++ [Part.reg RegGroup.si, Part.now, Part.si]
  | .brakeDelayExpiry _ => [Part.reg RegGroup.si, Part.now, Part.si]
  | .siReqSto _ => [Part.si]
  | .siReqSs1 _ => [Part.si]
  | .siReqSs2 _ => [Part.si]
  | .siReqRelease _ => [Part.si]
  | .siToken _ => [Part.si]
  | .sackChange _ _ _ _ => [Part.now, Part.si]
  | .sackHoldTimeout _ _ => [Part.now, Part.si]
  | .tokenExpiry _ => [Part.now, Part.si]
  | .psetCrcSweep _ _ => [Part.si, Part.boot]
  | .signetTelegramRx _ => postParts ++ [Part.now, Part.si]
  | .signetWatchdogExpiry _ => [Part.si]
  | .signetDegradedExpiry _ => [Part.si]
  | .chainEnWrite _ => postParts ++ [Part.reg RegGroup.tb, Part.reg RegGroup.ch, Part.reg RegGroup.cp, Part.time, Part.ic,
      Part.chain, Part.boot]
  | .chainScheduleWrite _ _ => [Part.reg RegGroup.ch, Part.mem]
  | .chainCycleStart => postParts ++ [Part.reg RegGroup.tb, Part.reg RegGroup.tpo, Part.reg RegGroup.ch, Part.now, Part.time,
      Part.pulses, Part.ic, Part.chain, Part.boot]
  | .chainBuildPoint _ => [Part.reg RegGroup.ch, Part.now, Part.si, Part.chain]
  | .chainFrameLaunch _ => postParts ++ [Part.reg RegGroup.tb, Part.reg RegGroup.ch, Part.now, Part.time, Part.ic, Part.chain,
      Part.boot]
  | .chainFrameRx _ _ _ => postParts ++ [Part.reg RegGroup.tb, Part.reg RegGroup.ch, Part.reg RegGroup.cp, Part.now, Part.mem,
      Part.seq, Part.time, Part.ic, Part.si, Part.chain, Part.boot]
  | .chainRateRequest => [Part.reg RegGroup.tb, Part.reg RegGroup.ch, Part.now, Part.time, Part.chain]
  | .claspLinkDelayRequest _ => [Part.now, Part.claspA, Part.claspB]
  | .linkDelayAnswer _ => [Part.now, Part.chain]
  | .chainListenTimeout => postParts ++ [Part.reg RegGroup.ch, Part.now, Part.ic, Part.chain, Part.boot]
  | .chainColdstartClaim => postParts ++ [Part.reg RegGroup.tb, Part.reg RegGroup.ch, Part.reg RegGroup.cp, Part.now, Part.time,
      Part.ic, Part.chain, Part.boot]
  | .chainBackoffExpiry => [Part.reg RegGroup.ch, Part.now, Part.chain]
  | .chainSourceLost => [Part.reg RegGroup.tb, Part.time, Part.ic, Part.chain]
  | .chainLinkChange _ _ => [Part.reg RegGroup.ch, Part.reg RegGroup.cp]
  | .claspFrameArrival _ _ _ _ => [Part.reg RegGroup.ch, Part.reg RegGroup.cp, Part.now, Part.fresh, Part.ic, Part.chain,
      Part.claspA, Part.claspB]
  | .claspTieWindow _ => [Part.reg RegGroup.cp, Part.now, Part.fresh, Part.claspA, Part.claspB]
  | .claspArbitrateReturn _ => [Part.reg RegGroup.cp, Part.now]
  | .planeComparison => postParts ++ [Part.reg RegGroup.pc, Part.now, Part.pc, Part.ic]
  | .planeSelfFault _ _ _ _ _ _ => writeParts
  | .planeGiveupAtPort _ => [Part.reg RegGroup.pc, Part.now, Part.ports, Part.pc]
  | .pcReturn _ => [Part.reg RegGroup.pc, Part.ic]
  | .pcHandover => [Part.reg RegGroup.pc, Part.pc]
  | .pcTakeDown _ => [Part.reg RegGroup.pc, Part.tiles, Part.pc, Part.ic]
  | .pcExtTest => [Part.reg RegGroup.pc]
  | .planeTestDone _ _ _ => postParts ++ [Part.reg RegGroup.port, Part.reg RegGroup.stp, Part.reg RegGroup.pc, Part.now,
      Part.ports, Part.axes, Part.tiles, Part.pc, Part.ic]
  | .transferSweepDone _ => [Part.reg RegGroup.kn, Part.reg RegGroup.pc, Part.mem, Part.kiln, Part.tiles, Part.pc]
  | .transferTimeout _ => writeParts
  | .planeConfirmed => [Part.reg RegGroup.pc, Part.pc, Part.ic]
  | .extTestDone _ _ => writeParts
  | .lbistSlice _ => [Part.fresh, Part.tiles, Part.pc]
  | .lbistStarved _ _ => [Part.reg RegGroup.pc, Part.now]
  | .mbCommandWrite _ _ _ => [Part.reg RegGroup.hm, Part.mb]
  | .mbPost _ => [Part.reg RegGroup.hm, Part.mb]
  | .mbFree _ => [Part.reg RegGroup.ic, Part.reg RegGroup.hm, Part.mb]
  | .mbTake => [Part.reg RegGroup.ic, Part.fresh, Part.ic, Part.mb]
  | .mbDone _ => [Part.reg RegGroup.ic, Part.mb]
  | .mbStatRead _ => [Part.reg RegGroup.ic, Part.rdata, Part.mb]
  | .hearthRestart => postParts ++ [Part.reg RegGroup.tb, Part.reg RegGroup.ch, Part.fresh, Part.time, Part.ic, Part.si,
      Part.chain, Part.mb, Part.boot]
  | .hearthUp => postParts ++ [Part.reg RegGroup.tb, Part.reg RegGroup.stk, Part.fresh, Part.time, Part.stk, Part.ic, Part.chain,
      Part.mb]
  | .hmEvtHeadRead => [Part.reg RegGroup.ic, Part.reg RegGroup.hm, Part.rdata, Part.evts, Part.mb]
  | .windowTWrite _ _ => [Part.reg RegGroup.hm]
  | .pcieReset _ => [Part.reg RegGroup.ic, Part.reg RegGroup.hm, Part.ic, Part.mb]
  | .movePush _ => [Part.reg RegGroup.arm, Part.arms, Part.mb]
  | .armCmd _ => writeParts
  | .armEnable _ => writeParts
  | .armStatus _ => readParts
  | .armOverride _ => writeParts
  | .stepMove _ => regParts ++ [Part.now, Part.mem, Part.fresh, Part.rdata, Part.seq, Part.time, Part.caps, Part.pulses, Part.lk,
      Part.evts, Part.ports, Part.axes, Part.sdclk, Part.fbs, Part.loops, Part.arms, Part.kiln, Part.tiles, Part.stk, Part.pc,
      Part.ic, Part.si, Part.eth, Part.chain, Part.mb, Part.boot]
  | .stepCmd _ => writeParts
  | .torqueRef _ => writeParts
  | .safeReq _ => writeParts
  | .safeToken _ => writeParts
  | .safeStatus _ => readParts
  | .psetStage _ => postParts ++ [Part.reg RegGroup.si, Part.mem, Part.si, Part.mb]
  | .psetInfo _ => [Part.mb]
  | .timeGet _ => readParts
  | .timeSet _ => [Part.reg RegGroup.tb, Part.time, Part.mb]
  | .timeSource _ => writeParts
  | .timeRestart _ => postParts ++ [Part.reg RegGroup.tb, Part.time, Part.chain, Part.mb]
  | .timeRate _ => writeParts
  | .portComp _ => writeParts
  | .pulseSched _ => regParts ++ [Part.now, Part.mem, Part.fresh, Part.rdata, Part.seq, Part.time, Part.caps, Part.pulses,
      Part.lk, Part.evts, Part.ports, Part.axes, Part.sdclk, Part.fbs, Part.loops, Part.arms, Part.kiln, Part.tiles, Part.stk,
      Part.pc, Part.ic, Part.si, Part.eth, Part.chain, Part.mb, Part.boot]
  | .captureCfg _ => writeParts
  | .captureRead _ => [Part.caps, Part.mb]
  | .lktRead _ => [Part.mb]
  | .lktInfo _ => [Part.mb]
  | .lktFlush _ => [Part.reg RegGroup.lk, Part.lk, Part.mb]
  | .lktFilter _ => [Part.lk, Part.mb]
  | .lktMark _ => postParts ++ [Part.fresh, Part.mb]
  | .updBegin _ => postParts ++ [Part.mb, Part.boot]
  | .updData _ => [Part.mb, Part.boot]
  | .updVerify _ => [Part.mb, Part.boot]
  | .updActivate _ => postParts ++ [Part.reg RegGroup.tb, Part.reg RegGroup.ch, Part.reg RegGroup.pc, Part.time, Part.tiles,
      Part.pc, Part.ic, Part.chain, Part.mb, Part.boot]
  | .updStatus _ => [Part.mb]
  | .updAbort _ => postParts ++ [Part.mb, Part.boot]
  | .updProvingDone => postParts ++ [Part.reg RegGroup.tb, Part.reg RegGroup.ch, Part.reg RegGroup.pc, Part.reg RegGroup.otp,
      Part.now, Part.fresh, Part.time, Part.tiles, Part.pc, Part.ic, Part.si, Part.chain, Part.mb, Part.boot]
  | .updFailure _ => postParts ++ [Part.reg RegGroup.tb, Part.reg RegGroup.ch, Part.now, Part.fresh, Part.time, Part.ic, Part.si,
      Part.chain, Part.mb, Part.boot]
  | .safetyChannelRestartDone => [Part.reg RegGroup.si, Part.si, Part.boot]
  | .identityCmd _ _ => [Part.mb]
  | .attestationReport _ _ => [Part.mb]
  | .configWriteCmd _ _ => writeParts
  | .configReadCmd _ _ => readParts
  | .setInfo _ => readParts
  | .setRead _ => [Part.mb]
  | .setWrite _ _ => [Part.reg RegGroup.hm, Part.reg RegGroup.otp, Part.mb, Part.boot]
  | .keyProgram _ _ _ => [Part.reg RegGroup.hm, Part.reg RegGroup.otp, Part.mb, Part.boot]
  | .keyRevoke _ _ _ _ _ => [Part.reg RegGroup.hm, Part.reg RegGroup.otp, Part.mb, Part.boot]
  | .seal _ => [Part.reg RegGroup.hm, Part.reg RegGroup.otp, Part.mb, Part.boot]
  | .placementTaskCmd _ _ _ _ => writeParts
  | .placementBufferCmd _ _ _ _ => writeParts
  | .placementRebalCmd _ _ _ => writeParts
  | .regReadCmd _ _ => readParts
  | .regWriteCmd _ _ _ => writeParts
  | .chainScheduleCmd _ _ _ => regParts ++ [Part.mem, Part.mb]
  | .chainCtrlCmd _ _ => writeParts
  | .claspMapCmd _ _ _ => writeParts
  | .kilnPostCmd _ _ => postParts ++ [Part.reg RegGroup.stk, Part.stk, Part.mb]
  | .kilnResultCmd _ _ _ _ => [Part.mb]
  | .qspiRead _ _ => [Part.reg RegGroup.ic, Part.reg RegGroup.hm, Part.rdata, Part.evts, Part.mb]
  | .qspiWrite _ _ => [Part.reg RegGroup.ic, Part.reg RegGroup.hm, Part.mb]
  | .hci1Post => [Part.reg RegGroup.hm, Part.mb]
  | .hci1Free => [Part.reg RegGroup.ic, Part.reg RegGroup.hm, Part.mb]
  | .hci1Identity => [Part.mb]
  | .hci1AbsMove => [Part.reg RegGroup.arm, Part.arms, Part.mb]
  | .hci1RelMove => [Part.reg RegGroup.arm, Part.arms, Part.mb]
  | .hci1Stop => [Part.arms, Part.mb]
  | .hci1Status => readParts
  | .hci1ReadTime => readParts
  | .locketPost _ _ _ _ _ => postParts
  | .locketFlush _ => postParts
  | .locketFlushDone => postParts ++ [Part.now]
  | .locketPeriodExpiry => [Part.reg RegGroup.lk, Part.now, Part.lk]
  | .lkFlushWrite => [Part.reg RegGroup.lk, Part.lk]
  | .lkIndexLoRead _ => [Part.reg RegGroup.lk, Part.rdata]
  | .pfFlushDone => resetParts
  | .mirrorWrite => [Part.lk]
  | .keepaliveTick _ _ => [Part.now, Part.pwr]
  | .boot => postParts ++ [Part.reg RegGroup.clk, Part.reg RegGroup.tb, Part.reg RegGroup.eth, Part.reg RegGroup.port,
      Part.reg RegGroup.sdf, Part.reg RegGroup.ld, Part.reg RegGroup.stp, Part.reg RegGroup.stk, Part.reg RegGroup.si,
      Part.reg RegGroup.ch, Part.reg RegGroup.otp, Part.fresh, Part.ident, Part.pwr, Part.ports, Part.axes, Part.filters, Part.si,
      Part.mb, Part.boot]
  | .imageVerified => postParts ++ [Part.now, Part.mb, Part.boot]
  | .otpProgram _ => [Part.reg RegGroup.otp, Part.boot]
  | .otpProgramDone _ => [Part.reg RegGroup.hm, Part.reg RegGroup.otp, Part.now, Part.boot]
  | .pinRelTime => [Part.reg RegGroup.clk]
  | .pinRelSdclk => [Part.reg RegGroup.clk]
  | .pinRelFbo => [Part.reg RegGroup.clk]
  | .pinRelStep => [Part.reg RegGroup.clk]
  | .pinRelGate => [Part.reg RegGroup.clk]
  | .por _ _ _ _ => [Part.now, Part.pwr]
  | .brownout _ => resetParts
  | .rstNLow => resetParts
  | .rstNHigh => [Part.pwr]
  | .resetStuck => [Part.pwr]
  | .rstNRehonour => [Part.pwr]
  | .pfailAssert _ => postParts ++ [Part.reg RegGroup.tb, Part.reg RegGroup.tpo, Part.reg RegGroup.port, Part.reg RegGroup.sdc,
      Part.reg RegGroup.fb, Part.reg RegGroup.stp, Part.reg RegGroup.si, Part.reg RegGroup.ch, Part.reg RegGroup.cp, Part.now,
      Part.time, Part.pulses, Part.pwr, Part.ports, Part.sdclk, Part.fbs, Part.ic, Part.si, Part.chain, Part.boot]
  | .pfRestart _ => resetParts
  | .sdfStuckRunEnd _ _ _ => [Part.reg RegGroup.sdf, Part.now, Part.filters]
  | .ptpDelayReqTx _ _ => [Part.reg RegGroup.eth, Part.time, Part.eth]
  | .coreSupplyWindowFault => [Part.si, Part.boot]

end Sys2Proof.Machine
end

