-- ==== Sys2Proof/Certificates/Slice0/Obligations.lean ====
section
/-! DEFINITION. The statements for the provers: what holds of every command and step, then what each command does, family by family. -/

open Sys2Proof Sys2Proof.Machine

/-- For every command c, queue q and state s, step of s with c in front of q waiting is exec of c on s with q waiting. With an empty queue, step answers the state with device time moved on by 1 ns and nothing else changed. What an empty queue does is the model's choice, log entry 43. (Drawn from R21.) (00_scope.md, 01_islands_and_the_servo_period.md, spec/opcode_table.json) -/
def Obligations.StepRunsFront : Prop :=
  (∀ (c : Instr) (q : List Instr) (s : State), step (s.withPending (c :: q)) = exec c (s.withPending q))
  ∧ (∀ s : State, s.pending = [] → step s = .next { s with now := max s.now (s.now + 256) })

/-- At State.reset the queue is empty, every register reads its reset value (for the microstep tables the sine entries), no byte is listed in memory or flash, device time is 0, the OTP is blank, no tile runs a task and no joint port has a gate on. The value of a register that the spec gives no reset value for is the model's choice (log entries named in NOTES.md). State.reset has its memory and its flash in the canonical form: addresses strictly rising and no listed byte equal to what an unlisted address reads as. The form is the model's (log 7). (01_islands_and_the_servo_period.md, 02_cell_time.md, 03_gate_drive_ports.md, 04_feedback_and_current_sensing.md, 05_control_engine.md, 06_motion_and_steps.md, 07_kiln_solver.md, 10_stack_scheduling_and_placement.md, 11_interrupt_controller.md, 12_safety_functions.md, 14_chain_bus.md, 18_boot_otp_and_updates.md) -/
def Obligations.ResetState : Prop :=
  (State.reset.pending = [] ∧ (∀ r, State.reset.rd r = regReset r) ∧ State.reset.mem = [] ∧ State.reset.boot.flash = [] ∧ State.reset.now = 0
  ∧ (∀ a, State.reset.otpWord a = 0) ∧ (∀ t, (State.reset.tile t).task = none) ∧ (∀ n, State.reset.gatesOff n) ∧ State.reset.outputsOff)
  ∧ (State.reset.memoryWf)

/-- For every state whose memory and flash are in the canonical form (addresses strictly rising, no listed byte equal to what an unlisted address reads as), the next state of a step, whatever command waits in front, has them in that form. The form is the model's (log 7). (00_scope.md, 18_boot_otp_and_updates.md) -/
def Obligations.StepKeepsMemoryCanonical : Prop :=
  ∀ s t : State, s.memoryWf → step s = .next t → t.memoryWf

/-- For every state, in the next state of a step every OTP bit that was 1 is 1 still, whatever command waits in front. (Drawn from R548.) (18_boot_otp_and_updates.md) -/
def Obligations.StepKeepsOtpBits : Prop :=
  ∀ (s t : State), step s = .next t → ∀ (a : Nat) (i : Nat), (s.otpWord a).getLsbD i = true → (t.otpWord a).getLsbD i = true

/-- For every state, the queue of the next state of a step is the queue without its front command (an empty queue stays empty): no command adds, drops or reorders a waiting one. The queue is the model's (log 43). (00_scope.md, spec/opcode_table.json) -/
def Obligations.StepTakesFront : Prop :=
  ∀ s t : State, step s = .next t → t.pending = s.pending.drop 1

/-- For every state, device time in the next state of a step is at or after what it was, and so is the count of free values used, so that no free value is drawn twice. Device time is the model's clock behind the cell time of R51 (log 2); the count is the model's own field (log 4). (Drawn from R51.) (00_scope.md, 02_cell_time.md) -/
def Obligations.TimeAndFreeValuesGoForward : Prop :=
  (∀ s t : State, step s = .next t → s.now ≤ t.now)
  ∧ (∀ s t : State, step s = .next t → s.fresh ≤ t.fresh)

/-- ISL_CLK_WRITE with no joint port armed and neither code 0b11 stores both codes. PERIOD_SEL_WRITE with no joint port armed stores the bit; where the sequencer runs, no restart is pending and the length differs from the one in force, a restart is pending at the next capture instant of the separation cycle. REF_LOSS sets HOLDOVER and REF_LOST, marks the reference absent, writes record 0x0010 and takes the time service out of ACQUIRE or LOCKED (toHoldover). PLL_RELOCK clears HOLDOVER, marks the reference present and lets the time service reacquire. CLOCK_FAULT moves device time to its instant, clears PLL_LOCK, keeps the fault and acts on the safety island (safeClockFault). PLL_FIRST_LOCK without a clock fault before it only sets PLL_LOCK. TIME_BASE_START, before the start and with PLL_LOCK 1, moves device time to the grid instant at or after it, where the time base starts and period 0 begins with PERIOD_CNT 0. WINDOW_EDGE, while the sequencer runs and no restart is due at the boundary of the next period: device time moves to that boundary, PERIOD_CNT shows the period, the next one is counted, and then, in this order, the rate step, the comparison of the new period, a planned handover, the joins of both planes, the window edge of the filters and feedback units, the boundary of Stack and that of the loop table take place. PERIOD_RESTART with a restart pending at r: device time moves to r, PERIOD_CNT reads 0, period 0 has begun at r, no restart is pending, and the length in force is the one PERIOD_SEL selects. (Drawn from R24, R30, R31, R32, R34, R47, R51, R60, R33, R36, R49.) (01_islands_and_the_servo_period.md, 02_cell_time.md) -/
def Obligations.ClockAndPeriodCommandsComplete : Prop :=
  (∀ (v : Word) (s : State), s.anyArmed = false → getBits v 0 2 ≠ 3 → getBits v 4 2 ≠ 3 → exec (.islClkWrite v) s = .next ((s.put ISL_CLK.EMBER_SEL (getBits v 0 2)).put ISL_CLK.KILN_SEL (getBits v 4 2)))
  ∧ (∀ (long : Bool) (s : State), s.anyArmed = false → ∃ t, exec (.periodSelWrite long) s = .next t ∧ t.is PERIOD_CFG.PERIOD_SEL = long ∧ ((s.seq.running = true → s.seq.restart = none → long ≠ s.seq.long → t.seq.restart = some s.nextCapture)))
  ∧ (∀ (s : State), exec (.refLoss) s = .next ((({ (s.flag ISL_STAT.HOLDOVER).flag ISL_STAT.REF_LOST with time := { s.time with refPresent := false } } : State).post 0x0010 2 s.cellAddr [1]).toHoldover))
  ∧ (∀ (s : State), exec (.pllRelock) s = .next (({ s.put ISL_STAT.HOLDOVER 0 with time := { s.time with refPresent := true } } : State).reacquire))
  ∧ (∀ (at_ : Nat) (s : State), exec (.clockFault at_) s = .next (({ (s.advance at_).put ISL_STAT.PLL_LOCK 0 with time := { s.time with clockFault := true } } : State).safeClockFault))
  ∧ (∀ (s : State), s.time.clockFault = false → exec (.pllFirstLock) s = .next (s.flag ISL_STAT.PLL_LOCK))
  ∧ (∀ (s : State), s.time.start = none → s.is ISL_STAT.PLL_LOCK = true → ∃ t, exec (.timeBaseStart) s = .next t ∧ t.now = max s.now (ceilTo gridUnits s.now) ∧ t.time.start = some t.now ∧ t.time.ofs = 0 ∧ t.rd PERIOD_CNT = 0 ∧ t.seq.running = true ∧ t.seq.base = t.now ∧ t.seq.next = 0)
  ∧ (∀ (s : State), s.seq.running = true → s.seq.restartDue (s.boundary s.seq.next) = false → exec (.windowEdge) s = .next ((((((({ s.advance (s.boundary s.seq.next) with seq := { s.seq with next := s.seq.next + 1 } } : State).wr PERIOD_CNT (BitVec.ofNat 32 s.seq.next)).rateStep.nextPeriod.plannedHandover).transferJoin s.seq.next 0).transferJoin s.seq.next 1).senseEdge (s.boundary s.seq.next)).stackEdge s.seq.next |>.loopTableEdge s.seq.next))
  ∧ (∀ (r : Time) (s : State), s.seq.restart = some r → ∃ t, exec (.periodRestart) s = .next t ∧ t.now = max s.now r ∧ t.rd PERIOD_CNT = 0 ∧ t.seq.base = r ∧ t.seq.next = 0 ∧ t.seq.restart = none ∧ t.seq.long = s.is PERIOD_CFG.PERIOD_SEL)

/-- No command stops the block: exec never answers a fault or a refusal. For every command c and state s, exec answers a next state that has the same queue as s and is the same as s in every part that touches c does not list. A part is a group of registers (RegGroup: clock, time base, joint ports, loops and so on) or one field of State beside the queue and the register file (device time, memory, tiles and so on); in a group of registers, being the same means that every register of the group reads the same. The list of each command is the definition touches. (00_scope.md, spec/opcode_table.json) -/
def Obligations.CommandsChangeOnlyTheirParts : Prop :=
  (∀ (c : Instr) (s : State), ∃ t, exec c s = .next t ∧ s.sameBut (touches c) t ∧ t.pending = s.pending)
  ∧ (∀ (c : Instr) (s : State), ∃ t, exec c s = .next t)

/-- For every word v and state: with no joint port armed and neither field of v equal to 0b11, ISL_CLK_WRITE leaves ISL_CLK.EMBER_SEL and ISL_CLK.KILN_SEL at the fields of v and everything else as it was. With a joint port armed, or 0b11 in either field, it leaves the state as it was but for ISL_STAT.SEL_REFUSED, which is set, whether or not v would change a selection. (R24) -/
def Obligations.ClockSelectRule : Prop :=
  (∀ (v : Word) (s : State), s.anyArmed = false → getBits v 0 2 ≠ 3 → getBits v 4 2 ≠ 3 → exec (.islClkWrite v) s = .next ((s.put ISL_CLK.EMBER_SEL (getBits v 0 2)).put ISL_CLK.KILN_SEL (getBits v 4 2)))
  ∧ (∀ (v : Word) (s : State), (s.anyArmed = true ∨ getBits v 0 2 = 3 ∨ getBits v 4 2 = 3) → exec (.islClkWrite v) s = .next (s.flag ISL_STAT.SEL_REFUSED))

/-- REGISTER_WRITE by a master whose accesses act: of TSP_INGRESS it replaces bits 23 to 0 (rw) and keeps the reserved bits above; of PERIOD_CNT (ro) it changes nothing of the word; of ISL_STAT it clears the w1c bits (3 and 2) that are written 1 and keeps the others. By a master whose writes of the register do not act, as a tile of the plane that is not active, it leaves the state as it was. Through Window T it only sets HM_DB_STAT.T_WRITE. READ_CLEAR of OVR_CNT (rc) by a master whose accesses act answers the word and leaves it 0; of TSP_ASYM (rw) it answers the word and leaves the rest of the state as it was; through Window T it answers the word of a register that Window T maps, and 0 of any other, and leaves the rest of the state as it was. (Drawn from R6, R7, R485, R510, R528.) (00_scope.md, 15_plane_redundancy.md, 16_hearth_host_interface.md) -/
def Obligations.RegisterAccessComplete : Prop :=
  (∀ (who : Who) (p : Fin 20) (v : Word) (s : State), s.acts who = true → ∃ t, exec (.registerWrite who (TSP_INGRESS p) v 0) s = .next t ∧ t.rd (TSP_INGRESS p) = (s.rd (TSP_INGRESS p) &&& 0xFF000000) ||| (v &&& 0x00FFFFFF))
  ∧ (∀ (who : Who) (v : Word) (s : State), s.acts who = true → ∃ t, exec (.registerWrite who PERIOD_CNT v 0) s = .next t ∧ t.rd PERIOD_CNT = s.rd PERIOD_CNT)
  ∧ (∀ (who : Who) (v : Word) (s : State), s.acts who = true → ∃ t, exec (.registerWrite who ISL_STAT v 0) s = .next t ∧ t.rd ISL_STAT = s.rd ISL_STAT &&& ~~~(v &&& 0xC))
  ∧ (∀ (who : Who) (r : Reg) (v : Word) (s : State), who ≠ .windowT → s.writes who r = false → (∀ k, r ≠ .ic (.IC_SW_CLR k)) → exec (.registerWrite who r v 0) s = .next (s))
  ∧ (∀ (r : Reg) (v same : Word) (s : State), exec (.registerWrite .windowT r v same) s = .next (s.flag HM_DB_STAT.T_WRITE))
  ∧ (∀ (who : Who) (n : Fin 64) (s : State), s.acts who = true → ∃ t, exec (.readClear who (OVR_CNT n) none) s = .next t ∧ t.rdata = [s.rd (OVR_CNT n)] ∧ t.rd (OVR_CNT n) = 0)
  ∧ (∀ (who : Who) (p : Fin 20) (s : State), who ≠ .windowT → exec (.readClear who (TSP_ASYM p) none) s = .next (s.answer [s.rd (TSP_ASYM p)]))
  ∧ (∀ (r : Reg) (s : State), exec (.readClear .windowT r none) s = .next (s.answer [if inWindowT r then s.peek r else 0]))

/-- For every register r: a write that any master but Window T makes in the same cycle in which the device has set the bits `same` of r leaves every w1c bit of r that stood in `same` and was set, set, whatever the write carries. A read of a register with rc bits by a master whose accesses act, made in the same cycle in which the device has updated r from the word `before`, answers `before` in the rc bits and the present word in the others, and afterwards the rc bits hold the update: what was added to `before` (1 when `before` was saturated already), or in a register that keeps a maximum the present word. (IC_SW_CLR, whose bits are those of IC_SW, has its own rule R365.) (R8) -/
def Obligations.SameCycleRule : Prop :=
  (∀ (who : Who) (r : Reg) (v same : Word) (s : State), who ≠ .windowT → (∀ k, r ≠ .ic (.IC_SW_CLR k)) → ∃ t, exec (.registerWrite who r v same) s = .next t ∧ t.rd r &&& (s.rd r &&& same &&& r.w1cMask) = s.rd r &&& same &&& r.w1cMask)
  ∧ (∀ (who : Who) (r : Reg) (before : Word) (s : State), s.acts who = true → r.rcMask ≠ 0 → ∃ t, exec (.readClear who r (some before)) s = .next t ∧ t.rdata = [(s.peek r &&& ~~~r.rcMask) ||| (before &&& r.rcMask)] ∧ (t.rd r &&& r.rcMask = (if isMaxReg r then s.rd r &&& r.rcMask else if before &&& r.rcMask = r.rcMask then 1 else ((s.rd r &&& r.rcMask) - (before &&& r.rcMask)) &&& r.rcMask)))

/-- TIME_STEP with a step of d pending for the instant at_ (d is kept in 1/256 ns) and no announcement of it over Chain: device time moves to at_, the offset of cell time moves by d, no step is pending, every pulse output with a schedule stops (stopPulse), TB_STAT.STATE shows the state kept with the step, and record 0x0011 carries the step in whole ns. TIME_SET_ACCEPT of a time that has crossed, in UNSET with no step pending and source none: a step of that time less the present cell time, rounded to a multiple of 20 ns with ties towards zero, is pending for the next grid instant, and no time is crossing. TB_RATE_WRITE with source none stores the value clamped to the limit and requests it. TB_SOURCE_WRITE of a code but 3 stores it and lets the service reacquire. PTP_SOURCE_LOST with source PTP goes to holdover, without the foreign master that was the parent. PTP_SYNC_TX of a master port that can send: announce, sync and follow-up with the egress time of the sync are sent with one sequence number, the next one is counted, and ETH_TX_FRAMES rises by 3. PTP_DELAY_REQ_TX of a gateway port that can send keeps the egress time as t3 and the kind, and sends the request with the next sequence number. TB_NOW_READ answers the nanoseconds of the cell time and latches its seconds. (Drawn from R54, R57, R58, R60, R65, R66, R76, R78.) (02_cell_time.md) -/
def Obligations.TimeServiceComplete : Prop :=
  (∀ (d : Int) (at_ nx : Nat) (s : State), s.time.step = some (d, at_, nx) → s.chain.announce = false → exec (.timeStep) s = .next ((((finList 8).foldl State.stopPulse { s.advance at_ with time := { s.time with ofs := s.time.ofs + d, step := none, stepped := true, good := 0 } }).put TB_STAT.STATE nx).post 0x0011 0 (((finList 8).foldl State.stopPulse { s.advance at_ with time := { s.time with ofs := s.time.ofs + d, step := none, stepped := true, good := 0 } }).put TB_STAT.STATE nx).cellAddr (leBytes 6 (unsignedOf 48 (d / 256)))))
  ∧ (∀ (sec ns : Nat) (s : State), s.time.setCross = some (sec, ns) → s.get TB_STAT.STATE = 0 → s.time.step = none → s.get TB_CTRL.SOURCE = 0 → ∃ t, exec (.timeSetAccept) s = .next t ∧ t.time.setCross = none ∧ t.time.step = some (roundTiesZero ((timeOf sec ns 0 : Int) - s.cell) gridUnits * gridUnits, ceilTo gridUnits s.now, 4))
  ∧ (∀ (v : Word) (s : State), s.get TB_CTRL.SOURCE = 0 → exec (.tbRateWrite v) s = .next ((s.wr TB_RATE (wordOf (clampInt (-rateLimit) rateLimit v.toInt))).requestRate v.toInt))
  ∧ (∀ (src : Fin 4) (s : State), src ≠ 3 → exec (.tbSourceWrite src) s = .next ((s.put TB_CTRL.SOURCE src.val).reacquire))
  ∧ (∀ (s : State), s.get TB_CTRL.SOURCE = 2 → exec (.ptpSourceLost) s = .next (({ s with time := { s.time with ptpValid := false, foreign := s.time.foreign.filter (fun (q : Fin 4 × (BitVec 80 × Nat)) => !(some q == s.ptpParent)) } } : State).toHoldover))
  ∧ (∀ (p : Fin 4) (s : State), s.masterPort p = true → s.ethSends p = true → ∃ t, exec (.ptpSyncTx p) s = .next t ∧ (tget t.time.ptp p {}).syncSeq = (tget s.time.ptp p {}).syncSeq + 1 ∧ (tget t.time.ptp p {}).syncStamp = s.egress (ethStampPort p) ∧ tget t.eth.sent p [] = [.announce (s.rd TB_UTC), .sync, .followUp (s.egress (ethStampPort p))].map (fun m => (s.ethTag p, EthSent.ptp Config.ptpDomain ((tget s.time.ptp p {}).syncSeq % 2 ^ 16) m)) ∧ t.rd (ETH_TX_FRAMES p) = s.rd (ETH_TX_FRAMES p) + 3)
  ∧ (∀ (p : Fin 4) (peer : Bool) (s : State), s.gwPort p = true → s.ethSends p = true → ∃ t, exec (.ptpDelayReqTx p peer) s = .next t ∧ (tget t.time.ptp p {}).t3 = some (s.egress (ethStampPort p)) ∧ (tget t.time.ptp p {}).peer = peer ∧ tget t.eth.sent p [] = [(s.ethTag p, EthSent.ptp Config.ptpDomain (((tget s.time.ptp p {}).reqSeq + 1) % 2 ^ 16) (if peer then .pdelayReq else .delayReq))])
  ∧ (∀ (s : State), ∃ t, exec (.tbNowRead) s = .next t ∧ t.rdata = [BitVec.ofNat 32 (nsOf s.cell)] ∧ t.rd TB_NOW_NS = BitVec.ofNat 32 (nsOf s.cell) ∧ t.rd TB_NOW_SEC_LO = BitVec.ofNat 32 (secOf s.cell) ∧ t.rd TB_NOW_SEC_HI = BitVec.ofNat 32 (secOf s.cell / 2 ^ 32))

/-- For every word v and state. With source none and v within ±137,438,953: TB_RATE reads v, the requested rate is v, and RATE_CLAMPED is as it was. With source none and v beyond the limit: TB_RATE reads the limit on the side of v, the requested rate is that limit, and RATE_CLAMPED is set. With any other source, the state is as it was but for RATE_REFUSED, which is set. (R63) -/
def Obligations.RateWriteRule : Prop :=
  (∀ (v : Word) (s : State), s.get TB_CTRL.SOURCE = 0 → -137438953 ≤ v.toInt → v.toInt ≤ 137438953 → ∃ t, exec (.tbRateWrite v) s = .next t ∧ t.rd TB_RATE = v ∧ t.time.rateReq = v.toInt ∧ t.is TB_STAT.RATE_CLAMPED = s.is TB_STAT.RATE_CLAMPED)
  ∧ (∀ (v : Word) (s : State), s.get TB_CTRL.SOURCE = 0 → (v.toInt < -137438953 ∨ 137438953 < v.toInt) → ∃ t, exec (.tbRateWrite v) s = .next t ∧ (t.rd TB_RATE).toInt = (if v.toInt < 0 then -137438953 else 137438953) ∧ t.time.rateReq = (if v.toInt < 0 then -137438953 else 137438953) ∧ t.is TB_STAT.RATE_CLAMPED = true)
  ∧ (∀ (v : Word) (s : State), s.get TB_CTRL.SOURCE ≠ 0 → exec (.tbRateWrite v) s = .next (s.flag TB_STAT.RATE_REFUSED))

/-- TCAP_EDGE at an instant of an enabled input that selects the edge, with LOCKET 0: device time moves to the instant; with fewer than 16 entries in its buffer the edge is added behind them with its cell time rounded down to 1/16 ns (the rounding is the model's, see NOTES.md), its direction and the state of the time service; with 16 the buffer stays and TCAP_OVF counts one up to its greatest value (bump). TCAP_HEAD_READ with a stored entry removes the oldest, answers its nanoseconds and latches them and its seconds. TPO_ARM_WRITE of 1 with the time pins released sets ARM alone; of 0 it ends the schedule and clears ARM and ACTIVE. TPO_GO of an armed output that is not in a pulse, with a period of at least 1,000 ns and a width from 8 ns to the period less 8 ns, commits the programmed schedule at the present cell time (tpoCommit). TPO_EDGE of a low output with a schedule moves device time to the rise of its present pulse and the output is high. TPO_EDGE of a high output on the last pulse of its schedule, with none waiting, ends the schedule: DONE is set, ACTIVE cleared and TPO_FIRED counts one. (Drawn from R52, R70, R71, R73, R74, R75, R77, R81, R82.) (02_cell_time.md) -/
def Obligations.PulsesAndCapturesComplete : Prop :=
  (∀ (n : Fin 8) (rise : Bool) (at_ : Nat) (s : State), s.is (TCAP_CTRL.EN n) = true → s.capSelects n rise = true → (tget s.caps n []).length < 16 → s.is (TCAP_CTRL.LOCKET n) = false → ∃ t, exec (.tcapEdge n rise at_) s = .next t ∧ t.now = max s.now at_ ∧ tget t.caps n [] = tget s.caps n [] ++ [{ sec := secOf (floorTo 16 ((s.advance at_).cellAt at_)), ns := nsOf (floorTo 16 ((s.advance at_).cellAt at_)), frac := fracOf (floorTo 16 ((s.advance at_).cellAt at_)), rise := rise, state := s.get TB_STAT.STATE }])
  ∧ (∀ (n : Fin 8) (rise : Bool) (at_ : Nat) (s : State), s.is (TCAP_CTRL.EN n) = true → s.capSelects n rise = true → 16 ≤ (tget s.caps n []).length → s.is (TCAP_CTRL.LOCKET n) = false → exec (.tcapEdge n rise at_) s = .next ((s.advance at_).bump (TCAP_OVF n)))
  ∧ (∀ (n : Fin 8) (e : CapEntry) (r : List CapEntry) (s : State), tget s.caps n [] = e :: r → ∃ t, exec (.tcapHeadRead n) s = .next t ∧ tget t.caps n [] = r ∧ t.rdata = [BitVec.ofNat 32 e.ns] ∧ t.rd (TCAP_HEAD_NS n) = BitVec.ofNat 32 e.ns ∧ t.rd (TCAP_HEAD_SEC_LO n) = BitVec.ofNat 32 e.sec ∧ t.rd (TCAP_HEAD_SEC_HI n) = BitVec.ofNat 32 (e.sec / 2 ^ 32))
  ∧ (∀ (n : Fin 8) (s : State), s.is PIN_REL.TIME = true → exec (.tpoArmWrite n true) s = .next (s.put (TPO_CTRL.ARM n) 1))
  ∧ (∀ (n : Fin 8) (s : State), ∃ t, exec (.tpoArmWrite n false) s = .next t ∧ tget t.pulses n {} = {} ∧ t.is (TPO_CTRL.ARM n) = false ∧ t.is (TPO_STAT.ACTIVE n) = false)
  ∧ (∀ (n : Fin 8) (s : State), s.is (TPO_CTRL.ARM n) = true → 1000 * nsUnits ≤ (s.tpoProgram n).period → 8 * nsUnits ≤ (s.tpoProgram n).width → (s.tpoProgram n).width + 8 * nsUnits ≤ (s.tpoProgram n).period → (tget s.pulses n {}).high = false → exec (.tpoGo n) s = .next (s.tpoCommit n (s.tpoProgram n) s.cell))
  ∧ (∀ (n : Fin 8) (p : Pulse) (s : State), (tget s.pulses n {}).cur = some p → (tget s.pulses n {}).high = false → ∃ t, exec (.tpoEdge n) s = .next t ∧ (tget t.pulses n {}).high = true ∧ (tget t.pulses n {}).cur = some p ∧ t.now = max s.now (s.deviceAt (p.rise p.k)))
  ∧ (∀ (n : Fin 8) (p : Pulse) (s : State), (tget s.pulses n {}).cur = some p → (tget s.pulses n {}).high = true → (tget s.pulses n {}).next = none → p.total = some (p.k + 1) → ∃ t, exec (.tpoEdge n) s = .next t ∧ tget t.pulses n {} = {} ∧ t.is (TPO_STAT.DONE n) = true ∧ t.is (TPO_STAT.ACTIVE n) = false ∧ t.rd (TPO_FIRED n) = s.rd (TPO_FIRED n) + 1)

/-- For every pulse output that is armed: TPO_GO with the programmed period (nanoseconds and 1/256 ns) below 1,000 ns, the width below 8 ns, or the width above the period less 8 ns, leaves the state as it was but for TPO_STAT.BADCFG, which is set. With all three in range and the output not in a pulse, the schedule is committed at the present cell time (tpoCommit). The upper end of the period is the largest value its registers hold. (R74) -/
def Obligations.PulseRangeRule : Prop :=
  (∀ (n : Fin 8) (s : State), s.is (TPO_CTRL.ARM n) = true → (s.tpoProgram n).period < 1000 * 256 ∨ (s.tpoProgram n).width < 8 * 256 ∨ (s.tpoProgram n).period < (s.tpoProgram n).width + 8 * 256 → exec (.tpoGo n) s = .next (s.flag (TPO_STAT.BADCFG n)))
  ∧ (∀ (n : Fin 8) (s : State), s.is (TPO_CTRL.ARM n) = true → 1000 * 256 ≤ (s.tpoProgram n).period → 8 * 256 ≤ (s.tpoProgram n).width → (s.tpoProgram n).width + 8 * 256 ≤ (s.tpoProgram n).period → (tget s.pulses n {}).high = false → exec (.tpoGo n) s = .next (s.tpoCommit n (s.tpoProgram n) s.cell))
  ∧ (∀ (n : Fin 8) (s : State), (s.tpoProgram n).period = (s.rd (TPO_PERIOD_NS n)).toNat * 256 + getBits (s.rd (TPO_PERIOD_FRAC n)) 0 8 ∧ (s.tpoProgram n).width = (s.rd (TPO_WIDTH_NS n)).toNat * 256 + getBits (s.rd (TPO_WIDTH_FRAC n)) 0 8)

/-- ETH_FRAME_RX on an enabled port with its link up: a frame that is in order (ethFrameOk) is counted and delivered with its receive time corrected by TSP_INGRESS; any other is counted in ETH_RX_ERR. ETH_TX_ENTRY_SEND on a port that can send, with an owned entry of 14 to 1,518 bytes at the head and no Signet telegram waiting for the port: its bytes, padded to 60, are what the port sends, with the VLAN tag while ETH_VLAN.EN is 1, ETH_TX_FRAMES counts one and the head moves on. SIGNET_ETH_TX of a posted telegram of an object whose TX_PORT can send, with no address learnt for it and IP6_TX 1: the telegram goes to the all-nodes addresses with the port's own addresses and TX_UDP, and none is posted. ETH_LINK_CHANGE shows the link and sets LINK_CHG. ETH_CTRL_WRITE of ETH_MAC_LO while EN is 0 stores it. MDIO_WRITE and MDIO_READ with BUSY 0 start a transaction with the PHY, the register and the data to write, and set BUSY; MDIO_DONE of a read ends it 25.6 us after its start (64 bit times of 400 ns), clears BUSY and shows the data. (Drawn from R66, R83, R84, R85, R86, R87, R88, R90.) (02_cell_time.md) -/
def Obligations.EthernetCommandsComplete : Prop :=
  (∀ (p : Fin 4) (f : EthFrame) (at_ : Nat) (s : State), (s.advance at_).is (ETH_CTRL.EN p) = true → (s.advance at_).is (ETH_STAT.LINK p) = true → (s.advance at_).ethFrameOk p f = true → exec (.ethFrameRx p f at_) s = .next (((s.advance at_).count (ETH_RX_FRAMES p)).ethDeliver p f ((s.advance at_).ingress (ethStampPort p))))
  ∧ (∀ (p : Fin 4) (f : EthFrame) (at_ : Nat) (s : State), (s.advance at_).is (ETH_CTRL.EN p) = true → (s.advance at_).is (ETH_STAT.LINK p) = true → (s.advance at_).ethFrameOk p f = false → exec (.ethFrameRx p f at_) s = .next ((s.advance at_).bump (ETH_RX_ERR p)))
  ∧ (∀ (p : Fin 4) (k w n : Nat) (s : State), k = getBits (s.rd (ETH_TX_HEAD p)) 0 10 → w = s.entryWord (ETH_TX_BUF p) k → n = w % 2 ^ 14 → s.ethSends p = true → k ≠ getBits (s.rd (ETH_TX_TAIL p)) 0 10 → w.testBit 31 = true → s.signetWaits p = false → 14 ≤ n → n ≤ 1518 → ∃ t, exec (.ethTxEntrySend p) s = .next t ∧ tget t.eth.sent p [] = [(s.ethTag p, EthSent.plant (s.bufRead (s.ringHandle (ETH_TX_BUF p)) (2048 * k + 20) n ++ List.replicate (60 - n) 0))] ∧ t.rd (ETH_TX_FRAMES p) = s.rd (ETH_TX_FRAMES p) + 1 ∧ t.rd (ETH_TX_HEAD p) = BitVec.ofNat 32 ((k + 1) % max 1 (s.ringSize (ETH_TX_BUF p))))
  ∧ (∀ (c : Fin 64) (o : SafeObject) (n : Nat) (tel : List Byte) (p : Fin 4) (s : State), s.object c = some o → tget s.si.tx c (0, []) = (n, tel) → o.conn.txId ≠ 0 → o.conn.txPort = p.val → tel ≠ [] → s.ethSends p = true → (s.conn c).sender = none → s.is (ETH_CTRL.IP6_TX p) = true → ∃ t, exec (.signetEthTx c) s = .next t ∧ tget t.eth.sent p [] = [(s.ethTag p, EthSent.signet (s.ethMac p) 0x333300000001 true (s.ethIp6 p) 0xFF020000000000000000000000000001 o.conn.txUdp tel)] ∧ tget t.si.tx c (0, []) = (n, []))
  ∧ (∀ (p : Fin 4) (up fast : Bool) (s : State), ∃ t, exec (.ethLinkChange p up fast) s = .next t ∧ t.is (ETH_STAT.LINK p) = up ∧ t.is (ETH_STAT.LINK_CHG p) = true)
  ∧ (∀ (p : Fin 4) (v : Word) (s : State), s.is (ETH_CTRL.EN p) = false → ∃ t, exec (.ethCtrlWrite p .macLo v) s = .next t ∧ t.rd (ETH_MAC_LO p) = v)
  ∧ (∀ (phy reg : Fin 32) (data : BitVec 16) (s : State), s.is ETH_MDIO_STAT.BUSY = false → ∃ t, exec (.mdioWrite phy reg data) s = .next t ∧ t.eth.mdio = some { rd := false, phy := phy, reg := reg, data := data, since := s.now } ∧ t.is ETH_MDIO_STAT.BUSY = true)
  ∧ (∀ (phy reg : Fin 32) (s : State), s.is ETH_MDIO_STAT.BUSY = false → ∃ t, exec (.mdioRead phy reg) s = .next t ∧ t.eth.mdio = some { rd := true, phy := phy, reg := reg, data := 0, since := s.now } ∧ t.is ETH_MDIO_STAT.BUSY = true)
  ∧ (∀ (data : BitVec 16) (x : MdioOp) (s : State), s.eth.mdio = some x → x.rd = true → ∃ t, exec (.mdioDone data) s = .next t ∧ t.now = max s.now (x.since + 25600 * nsUnits) ∧ t.eth.mdio = none ∧ t.is ETH_MDIO_STAT.BUSY = false ∧ t.get ETH_MDIO_STAT.RDATA = data.toNat)

/-- PWM_ARM of a DISARMED port that meets the conditions (canArm), with no proving run of a plane waiting for an armed port, leaves it PARKED with ARM 1 and every gate off; when it meets them not, the state is as it was but for ARM_REFUSED, set. PWM_DISARM leaves DISARMED with ARM 0 and every gate off. PWM_RUN_SET sets RUN alone. PWM_RUN_CLEAR clears RUN, no resume stands, and a port in RUNNING parks at its next release instant. FORCE_TRIP_SET of a PARKED or RUNNING port without a latched trip: FORCE_TRIP 1, TRIPPED, bit 1 of SRC set, every gate off. FORCE_TRIP_CLEAR clears FORCE_TRIP and shows whether a source is left. CLR_TRIP with no source active in TRIPPED: TRIPPED and SRC 0, PARKED, every gate off, and the port resumes when RUN is 1; with a source active: STILL_ACTIVE is shown, CLR_REFUSED set and record 0x0101 written, nothing else. TRIP_PIN_ASSERT with more active samples than FLT: the filter output is active and PIN_LIVE 1, and a PARKED or RUNNING port without a latched trip is TRIPPED with bit 0 of SRC set and every gate off; with no more than FLT only device time moves on. TRIP_PIN_RELEASE with more samples than FLT: the filter output is inactive and PIN_LIVE 0. (Drawn from R108, R109, R111, R112, R113, R114, R115, R116, R123.) (03_gate_drive_ports.md) -/
def Obligations.PortStatesComplete : Prop :=
  (∀ (n : Fin 64) (s : State), s.get (PWM_STAT.STATE n) = 0 → s.canArm n = true → (¬ (s.boot.upd.stage = 4 ∧ s.boot.upd.phase = 3 ∧ s.updatesPlanes = true)) → ∃ t, exec (.pwmArm n) s = .next t ∧ t.get (PWM_STAT.STATE n) = 1 ∧ t.is (PWM_CTRL.ARM n) = true ∧ t.gatesOff n ∧ (∀ m, m ≠ n → t.port m = s.port m))
  ∧ (∀ (n : Fin 64) (s : State), s.get (PWM_STAT.STATE n) = 0 → s.canArm n = false → exec (.pwmArm n) s = .next (s.flag (PWM_FLAGS.ARM_REFUSED n)))
  ∧ (∀ (n : Fin 64) (s : State), ∃ t, exec (.pwmDisarm n) s = .next t ∧ t.get (PWM_STAT.STATE n) = 0 ∧ t.is (PWM_CTRL.ARM n) = false ∧ t.gatesOff n ∧ (∀ m, m ≠ n → t.port m = s.port m))
  ∧ (∀ (n : Fin 64) (s : State), exec (.pwmRunSet n) s = .next (s.put (PWM_CTRL.RUN n) 1))
  ∧ (∀ (n : Fin 64) (s : State), ∃ t, exec (.pwmRunClear n) s = .next t ∧ t.is (PWM_CTRL.RUN n) = false ∧ (t.port n).resume = false ∧ ((s.get (PWM_STAT.STATE n) = 2 → (t.port n).parkDue = true)))
  ∧ (∀ (n : Fin 64) (s : State), (s.get (PWM_STAT.STATE n) = 1 ∨ s.get (PWM_STAT.STATE n) = 2) → s.is (TRIP_STAT.TRIPPED n) = false → ∃ t, exec (.forceTripSet n) s = .next t ∧ t.is (PWM_CTRL.FORCE_TRIP n) = true ∧ t.get (PWM_STAT.STATE n) = 3 ∧ t.is (TRIP_STAT.TRIPPED n) = true ∧ (t.get (TRIP_STAT.SRC n)).testBit 1 = true ∧ t.gatesOff n)
  ∧ (∀ (n : Fin 64) (s : State), exec (.forceTripClear n) s = .next ((s.put (PWM_CTRL.FORCE_TRIP n) 0).showStill n))
  ∧ (∀ (n : Fin 64) (s : State), s.tripSources n = 0 → s.get (PWM_STAT.STATE n) = 3 → ∃ t, exec (.clrTrip n) s = .next t ∧ t.is (TRIP_STAT.TRIPPED n) = false ∧ t.get (TRIP_STAT.SRC n) = 0 ∧ t.get (PWM_STAT.STATE n) = 1 ∧ t.gatesOff n ∧ (t.port n).resume = s.is (PWM_CTRL.RUN n))
  ∧ (∀ (n : Fin 64) (s : State), s.tripSources n ≠ 0 → exec (.clrTrip n) s = .next (((s.flag (TRIP_STAT.CLR_REFUSED n)).showStill n).post 0x0101 1 (((s.flag (TRIP_STAT.CLR_REFUSED n)).showStill n).jointAddr n) [BitVec.ofNat 8 (((s.flag (TRIP_STAT.CLR_REFUSED n)).showStill n).get (TRIP_STAT.SRC n))]))
  ∧ (∀ (n : Fin 64) (at_ samples : Nat) (s : State), s.get (TRIP_CFG.FLT n) < samples → ∃ t, exec (.tripPinAssert n at_ samples) s = .next t ∧ (t.port n).pin = true ∧ t.is (TRIP_STAT.PIN_LIVE n) = true)
  ∧ (∀ (n : Fin 64) (at_ samples : Nat) (s : State), s.get (TRIP_CFG.FLT n) < samples → (s.get (PWM_STAT.STATE n) = 1 ∨ s.get (PWM_STAT.STATE n) = 2) → s.is (TRIP_STAT.TRIPPED n) = false → ∃ t, exec (.tripPinAssert n at_ samples) s = .next t ∧ t.get (PWM_STAT.STATE n) = 3 ∧ t.is (TRIP_STAT.TRIPPED n) = true ∧ (t.get (TRIP_STAT.SRC n)).testBit 0 = true ∧ t.gatesOff n)
  ∧ (∀ (n : Fin 64) (at_ samples : Nat) (s : State), samples ≤ s.get (TRIP_CFG.FLT n) → exec (.tripPinAssert n at_ samples) s = .next (s.advance (at_ + (2 + samples) * portUnits)))
  ∧ (∀ (n : Fin 64) (at_ samples : Nat) (s : State), s.get (TRIP_CFG.FLT n) < samples → ∃ t, exec (.tripPinRelease n at_ samples) s = .next t ∧ t.now = max s.now (at_ + (s.get (TRIP_CFG.FLT n) + 2) * portUnits) ∧ (t.port n).pin = false ∧ t.is (TRIP_STAT.PIN_LIVE n) = false)

/-- For every joint port, each of the five configuration registers and every word: in DISARMED, the fields of the register that software can write take the value of the word, and the pin level and the trip sources of the arm are judged with it; in every other state, the state is as it was but for PWM_FLAGS.CFG_REFUSED, which is set. (R117) -/
def Obligations.PortConfigWriteRule : Prop :=
  (∀ (n : Fin 64) (r : PortCfg) (v : Word) (s : State), s.get (PWM_STAT.STATE n) = 0 → exec (.pwmConfigWrite n r v) s = .next (((s.setWritable (portCfgReg n r) v).showPin n).judgeArm (armOf n)))
  ∧ (∀ (n : Fin 64) (r : PortCfg) (v : Word) (s : State), s.get (PWM_STAT.STATE n) ≠ 0 → exec (.pwmConfigWrite n r v) s = .next (s.flag (PWM_FLAGS.CFG_REFUSED n)))
  ∧ (∀ n : Fin 64, portCfgReg n .mode = PWM_MODE n ∧ portCfgReg n .dead = PWM_DEAD n ∧ portCfgReg n .minon = PWM_MINON n ∧ portCfgReg n .refresh = PWM_REFRESH n ∧ portCfgReg n .tripCfg = TRIP_CFG n)

/-- EW_COMMIT for the present period at or before the cut-off edge makes the shadow words the last post of the planes of its writer; for an earlier period (less than 32,768 back) it changes nothing; for any other number it sets EW_BAD alone. CUT_OFF_EDGE with the sequencer running, at the edge and after the comparison of the posts: the governing plane's post of the present period is chosen when it is the first of the period; with no post of that plane in RUNNING, OVERRUN is set, OVR_CNT counts, an image on trial is marked, and the words in use are repeated. LOAD_EDGE with a choice: device time is at or after the load edge, the choice becomes the words in use, ACT_PERIOD.REPEATED tells whether it repeats, and a PARKED port with RUN 1 whose choice is a fresh post with a planned frame is RUNNING with that frame from the release instant. LEG_EDGE takes the first scheduled edge of the leg at its time: the leg changes (change) and keeps the other edges; no other port changes. DEAD_TIME_EXPIRY of a pending high-side gate turns it on; no other port changes. ACTIVE_SHORT that is due in TRIPPED without a safety source: every driven leg has its low-side gate on when ASC is 1, else its high-side gate, and the other off. CAL_ROUND_DONE with no tap above 100 ps counts in ROUNDS and keeps the new map beside the present one; CAL_MAP_INSTALL puts it in its place and shows in VALID whether every line has succeeded. (Drawn from R38, R39, R40, R42, R93, R99, R100, R107, R111, R114.) (01_islands_and_the_servo_period.md, 03_gate_drive_ports.md) -/
def Obligations.PortFramesComplete : Prop :=
  (∀ (n : Fin 64) (by_ : Agent) (c : BitVec 16) (s : State), c.toNat = (s.rd PERIOD_CNT).toNat % 2 ^ 16 → s.now ≤ s.cutOff n → exec (.ewCommit n by_ c) s = .next ((agentPlanes by_).foldl (fun (t : State) pl => t.takePost n pl (s.shadow n pl)) s))
  ∧ (∀ (n : Fin 64) (by_ : Agent) (c : BitVec 16) (s : State), 0 < ((s.rd PERIOD_CNT).toNat % 2 ^ 16 + 2 ^ 16 - c.toNat) % 2 ^ 16 → ((s.rd PERIOD_CNT).toNat % 2 ^ 16 + 2 ^ 16 - c.toNat) % 2 ^ 16 < 32768 → exec (.ewCommit n by_ c) s = .next (s))
  ∧ (∀ (n : Fin 64) (by_ : Agent) (c : BitVec 16) (s : State), 32768 ≤ ((s.rd PERIOD_CNT).toNat % 2 ^ 16 + 2 ^ 16 - c.toNat) % 2 ^ 16 → exec (.ewCommit n by_ c) s = .next (s.flag (PWM_FLAGS.EW_BAD n)))
  ∧ (∀ (n : Fin 64) (q : Fin 2 × Post) (s : State), s.seq.running = true → (((s.advance (s.cutOff n)).comparePosts n).port n).posts.find? (fun q => q.1 == ((s.advance (s.cutOff n)).comparePosts n).portPlane n) = some q → q.2.period = ((s.advance (s.cutOff n)).comparePosts n).periodNo → q.2.count ≤ 1 → exec (.cutOffEdge n) s = .next (((s.advance (s.cutOff n)).comparePosts n).choose n (some q.2) true))
  ∧ (∀ (n : Fin 64) (s : State), s.seq.running = true → (((s.advance (s.cutOff n)).comparePosts n).port n).posts.find? (fun q => q.1 == ((s.advance (s.cutOff n)).comparePosts n).portPlane n) = none → ((s.advance (s.cutOff n)).comparePosts n).get (PWM_STAT.STATE n) = 2 → exec (.cutOffEdge n) s = .next (((((((s.advance (s.cutOff n)).comparePosts n).flag (PWM_FLAGS.OVERRUN n)).bump (OVR_CNT n)).mishap [2, 3]).choose n (((((((s.advance (s.cutOff n)).comparePosts n).flag (PWM_FLAGS.OVERRUN n)).bump (OVR_CNT n)).mishap [2, 3]).port n).used) false)))
  ∧ (∀ (n : Fin 64) (c : Cand) (s : State), (s.port n).cand = some c → ∃ t, exec (.loadEdge n) s = .next t ∧ t.now = max s.now (s.loadEdge n) ∧ (t.port n).cand = none ∧ (t.port n).used = c.words ∧ t.is (ACT_PERIOD.REPEATED n) = c.repeated)
  ∧ (∀ (n : Fin 64) (c : Cand) (w : Post) (s : State), (s.port n).cand = some c → c.words = some w → s.get (PWM_STAT.STATE n) = 1 → s.is (PWM_CTRL.RUN n) = true → c.repeated = false → c.legs ≠ [] → ∃ t, exec (.loadEdge n) s = .next t ∧ t.get (PWM_STAT.STATE n) = 2 ∧ (t.port n).frame = s.release n ∧ (t.port n).plan = c.legs)
  ∧ (∀ (n : Fin 64) (l : Fin 4) (at_ : Time) (lv : Lvl) (r : List (Time × Lvl)) (s : State), ((s.port n).leg l).sched = (at_, lv) :: r → ∃ t, exec (.legEdge n l) s = .next t ∧ t.now = max s.now at_ ∧ (t.port n).leg l = { (s.port n).leg l with sched := r }.change lv at_ (s.deadR n) (s.deadF n) ∧ (∀ m, m ≠ n → t.port m = s.port m))
  ∧ (∀ (n : Fin 64) (l : Fin 4) (at_ : Time) (s : State), ((s.port n).leg l).ghDue = some at_ → ∃ t, exec (.deadTimeExpiry n l true) s = .next t ∧ t.now = max s.now at_ ∧ (t.port n).leg l = { (s.port n).leg l with gh := true, ghDue := none } ∧ (∀ m, m ≠ n → t.port m = s.port m))
  ∧ (∀ (n : Fin 64) (at_ : Time) (s : State), (s.port n).ascDue = some at_ → s.get (PWM_STAT.STATE n) = 3 → (s.port n).safe = false → ∃ t, exec (.activeShort n) s = .next t ∧ t.now = max s.now at_ ∧ (t.port n).ascOn = true ∧ (t.port n).ascDue = none ∧ (∀ l ∈ s.drivenLegs n, ((t.port n).leg l).gl = decide (s.get (TRIP_CFG.ASC n) = 1) ∧ ((t.port n).leg l).gh = !decide (s.get (TRIP_CFG.ASC n) = 1)))
  ∧ (∀ (n : Fin 64) (line : Fin 6) (hist : List Nat) (s : State), 4000 * hist.foldl max 0 ≤ 100 * 65536 → ∃ t, exec (.calRoundDone n line hist) s = .next t ∧ t.get (CAL_STAT.ROUNDS n) = (s.get (CAL_STAT.ROUNDS n) + 1) % 2 ^ 16 ∧ (tget (t.port n).lines line {}).newMap = some (tapMap hist) ∧ (tget (t.port n).lines line {}).map = (tget (s.port n).lines line {}).map)
  ∧ (∀ (n : Fin 64) (line : Fin 6) (m : List Nat) (s : State), (tget (s.port n).lines line {}).newMap = some m → ∃ t, exec (.calMapInstall n line) s = .next t ∧ (tget (t.port n).lines line {}).map = m ∧ (tget (t.port n).lines line {}).newMap = none ∧ t.is (CAL_STAT.VALID n) = (finList 6).all (fun i => (tget (t.port n).lines i {}).ok))

/-- SDC_ARM_WRITE with the clock pins released stores the bits, and a clock whose bit is 0 has no start; with the pins held and a bit set that was 0, only the bits that were set and are written stay, and CFG_REFUSED is set. SDC_FREQ_WRITE with no joint port armed stores FREQ alone, else it sets CFG_REFUSED alone. SDC_DLY_WRITE of at most 90 with no joint port armed stores the delay alone; of more, or with a port armed, it sets CFG_REFUSED alone. SAMPLE_DELIVERY, 40 port cycles after the port edge at or after the window edge: the samples of the filters are delivered, then those of the feedback units in their order, then the sample blocks of the loops that run. SDF_STUCK_RUN of input A of an enabled filter whose STUCK is not 0, with no run open, opens the run at its instant, and sets STUCK_A, at that instant. SDF_STUCK_RUN_END of an open run ends it, clears its live flag and keeps it among the ended runs. SDF_CFG_WRITE of filters 0 to 63 with a decimation from 8 to the greatest and a port in DISARMED stores the register alone; with a decimation outside, it sets CFG_REFUSED alone. SDF_GAIN_WRITE stores the gain or the offset of an input alone; input B stands for filters 0 to 63 only. (Drawn from R127, R128, R131, R132, R133, R135, R137.) (04_feedback_and_current_sensing.md) -/
def Obligations.CurrentSensingComplete : Prop :=
  (∀ (arm : BitVec 9) (s : State), s.is PIN_REL.SDCLK = true → ∃ t, exec (.sdcArmWrite arm) s = .next t ∧ t.get SDC_CTRL.ARM = arm.toNat ∧ (∀ g : Fin 9, arm.toNat.testBit g.val = false → tget t.sdclk.start g none = none) ∧ s.sameBut [.reg .sdc, .sdclk] t)
  ∧ (∀ (arm : BitVec 9) (s : State), s.is PIN_REL.SDCLK = false → s.get SDC_CTRL.ARM &&& arm.toNat ≠ arm.toNat → ∃ t, exec (.sdcArmWrite arm) s = .next t ∧ t.get SDC_CTRL.ARM = s.get SDC_CTRL.ARM &&& arm.toNat ∧ t.is SDC_STAT.CFG_REFUSED = true)
  ∧ (∀ (slow : Bool) (s : State), s.anyArmed = false → exec (.sdcFreqWrite slow) s = .next (s.putB SDC_CTRL.FREQ slow))
  ∧ (∀ (slow : Bool) (s : State), s.anyArmed = true → exec (.sdcFreqWrite slow) s = .next (s.flag SDC_STAT.CFG_REFUSED))
  ∧ (∀ (g : Fin 9) (v : BitVec 7) (s : State), s.anyArmed = false → v.toNat ≤ 90 → exec (.sdcDlyWrite g v) s = .next (s.wr (SDC_DLY g) (v.setWidth 32)))
  ∧ (∀ (g : Fin 9) (v : BitVec 7) (s : State), (s.anyArmed = true ∨ 90 < v.toNat) → exec (.sdcDlyWrite g v) s = .next (s.flag SDC_STAT.CFG_REFUSED))
  ∧ (∀ (bits : List ((Fin 80 × Bool) × List Bool)) (s : State), exec (.sampleDelivery bits) s = .next ((finList 64).foldl State.deliverFb ((s.advance (ceilTo portUnits (s.boundary s.periodNo) + 40 * portUnits)).deliverFilters bits (s.boundary s.periodNo)) |>.deliverBlocks))
  ∧ (∀ (n : Fin 80) (at_ : Nat) (s : State), s.is (SDF_CFG.EN_A n) = true → s.get (SDF_CFG.STUCK n) ≠ 0 → ((s.filter n).input false).run = none → ∃ t, exec (.sdfStuckRun n false at_) s = .next t ∧ t.now = max s.now at_ ∧ ((t.filter n).input false).run = some at_ ∧ t.is (SDF_STAT.STUCK_A n) = true)
  ∧ (∀ (n : Fin 80) (inB : Bool) (at_ : Nat) (r : Time) (s : State), ((s.filter n).input inB).run = some r → ∃ t, exec (.sdfStuckRunEnd n inB at_) s = .next t ∧ t.now = max s.now at_ ∧ ((t.filter n).input inB).run = none ∧ ((t.filter n).input inB).lastRuns = ((s.filter n).input inB).lastRuns.filter (fun (q : Time × Time) => decide (at_ < q.2 + 2 * s.period)) ++ [(r, at_)] ∧ t.get (if inB then SDF_STAT.STUCK_B n else SDF_STAT.STUCK_A n) = 0)
  ∧ (∀ (n : Fin 80) (v : Word) (s : State), n.val < 64 → s.get (PWM_STAT.STATE (fin 64 n.val)) = 0 → 8 ≤ getBits v 0 9 → getBits v 0 9 ≤ s.maxDec → exec (.sdfCfgWrite n v) s = .next (s.wr (SDF_CFG n) (v &&& 0x00FF07FF)))
  ∧ (∀ (n : Fin 80) (v : Word) (s : State), (getBits v 0 9 < 8 ∨ s.maxDec < getBits v 0 9) → exec (.sdfCfgWrite n v) s = .next (s.flag (SDF_STAT.CFG_REFUSED n)))
  ∧ (∀ (n : Fin 80) (ofs : Bool) (v : BitVec 24) (s : State), exec (.sdfGainWrite n false ofs v) s = .next (s.wr (if ofs then SDF_OFS_A n else SDF_GAIN_A n) (v.setWidth 32)))
  ∧ (∀ (n : Fin 80) (ofs : Bool) (v : BitVec 24) (s : State), n.val < 64 → exec (.sdfGainWrite n true ofs v) s = .next (s.wr (if ofs then SDF_OFS_B n else SDF_GAIN_B n) (v.setWidth 32)))

/-- FB_LINE_CHANGE to new levels of an enabled unit, at its instant: in quadrature mode the change is counted (quadSample), in Hall mode the pattern (hallSample), with the new levels kept; of a disabled unit only the levels are kept. FB_READING_START of an enabled serial unit with no reading and a reading due opens one at the port edge at or after the window edge, due SRATE periods on, with command 0xD2 when an ENC_CLR waits in a Filigree mode, else 0xE1; no other unit changes. SSI_READING_DONE of an open reading in time: with idle high, extra bit 0 and no error bit, the turn and position bits make a valid reading; with the line low at the first falling edge it fails with FRAME set. A frame that ends after the limit fails with TIMEOUT set. FILIGREE_RESPONSE in Filigree 1, in time, with stop bit 1, a right check value and bits 0, 2 and 3 of the status 0: FB_ENC holds the status and the low 24 bits make a valid reading. FB_READING_TIMEOUT of an open reading fails it with TIMEOUT set. FB_STANDSTILL_TIMEOUT of an enabled unit makes its speed report. FB_ERR_LIMIT with a limit that is not 0, reached, and not hit before: ERR_FAULT is set and the limit is hit once; only the feedback parts and those of a posted record change. (Drawn from R141, R143, R145, R146, R147, R148, R149, R150, R154, R160.) (04_feedback_and_current_sensing.md) -/
def Obligations.FeedbackReadingsComplete : Prop :=
  (∀ (n : Fin 64) (lines : BitVec 3) (at_ : Nat) (s : State), (s.fb n).lines ≠ lines → s.is (FB_CTRL.EN n) = true → s.get (FB_CFG.MODE n) = 1 → exec (.fbLineChange n lines at_) s = .next (((s.advance at_).setFb n { (s.advance at_).fb n with lines := lines }).quadSample n (s.fb n).lines lines at_))
  ∧ (∀ (n : Fin 64) (lines : BitVec 3) (at_ : Nat) (s : State), (s.fb n).lines ≠ lines → s.is (FB_CTRL.EN n) = true → s.get (FB_CFG.MODE n) = 2 → exec (.fbLineChange n lines at_) s = .next (((s.advance at_).setFb n { (s.advance at_).fb n with lines := lines }).hallSample n lines at_))
  ∧ (∀ (n : Fin 64) (lines : BitVec 3) (at_ : Nat) (s : State), s.is (FB_CTRL.EN n) = false → exec (.fbLineChange n lines at_) s = .next ((s.advance at_).setFb n { (s.advance at_).fb n with lines := lines }))
  ∧ (∀ (n : Fin 64) (s : State), s.serialOn n = true → (s.fb n).reading = none → s.readingDue n = true → ∃ t, exec (.fbReadingStart n) s = .next t ∧ t.now = max s.now (ceilTo portUnits (s.boundary s.periodNo)) ∧ ((t.fb n).reading = some { start := ceilTo portUnits (s.boundary s.periodNo), period := s.periodNo + 2 ^ s.get (FB_CFG.SRATE n), cmd := if 4 ≤ s.get (FB_CFG.MODE n) ∧ (s.fb n).encClr = true then 0xD2 else 0xE1 }) ∧ (∀ m, m ≠ n → t.fb m = s.fb m) ∧ s.sameBut [.now, .fbs] t)
  ∧ (∀ (n : Fin 64) (data : BitVec 48) (r : Reading) (s : State), (s.fb n).open_ = some r → s.serialOn n = true → s.ssiDone n r ≤ s.readingLimit r → s.get (FB_SER.EBIT n) = 0 → s.is (FB_SER.GRAY n) = false → exec (.ssiReadingDone n true data false) s = .next ((s.advance (s.ssiDone n r)).validReading n (s.get (FB_SER.TURN_BITS n)) (data.toNat % 2 ^ (s.get (FB_SER.TURN_BITS n) + s.get (FB_CFG.RES n)) / 2 ^ s.get (FB_CFG.RES n)) (data.toNat % 2 ^ (s.get (FB_SER.TURN_BITS n) + s.get (FB_CFG.RES n)) % 2 ^ s.get (FB_CFG.RES n))))
  ∧ (∀ (n : Fin 64) (data : BitVec 48) (extra : Bool) (r : Reading) (s : State), (s.fb n).open_ = some r → s.serialOn n = true → s.ssiDone n r ≤ s.readingLimit r → s.get (FB_SER.EBIT n) = 0 → exec (.ssiReadingDone n false data extra) s = .next (((s.advance (s.ssiDone n r)).readingFailed n).flag (FB_STAT.FRAME n)))
  ∧ (∀ (n : Fin 64) (idle : Bool) (data : BitVec 48) (extra : Bool) (r : Reading) (s : State), (s.fb n).open_ = some r → s.serialOn n = true → s.readingLimit r < s.ssiDone n r → exec (.ssiReadingDone n idle data extra) s = .next ((s.advance (s.ssiDone n r)).readingTimeout n))
  ∧ (∀ (n : Fin 64) (data : BitVec 72) (at_ st : Nat) (r : Reading) (s : State), (s.fb n).open_ = some r → s.serialOn n = true → s.get (FB_CFG.MODE n) = 4 → at_ ≤ r.start + 10 * s.filBit n + 6000 * nsUnits → at_ + 42 * s.filBit n ≤ s.readingLimit r → lineCrc 8 0x1D 0 32 data.toNat = data.toNat / 2 ^ 32 % 2 ^ 8 → st = data.toNat / 2 ^ 24 % 256 → st.testBit 0 = false → st.testBit 2 = false → st.testBit 3 = false → exec (.filigreeResponse n data true at_) s = .next (((s.advance (at_ + 42 * s.filBit n)).wr (FB_ENC n) (BitVec.ofNat 32 st)).validReading n 0 0 (data.toNat % 2 ^ 24)))
  ∧ (∀ (n : Fin 64) (r : Reading) (s : State), (s.fb n).open_ = some r → exec (.fbReadingTimeout n) s = .next (s.readingTimeout n))
  ∧ (∀ (n : Fin 64) (s : State), s.is (FB_CTRL.EN n) = true → exec (.fbStandstillTimeout n) s = .next (s.speedReport n (s.boundary s.periodNo)))
  ∧ (∀ (n : Fin 64) (s : State), (s.rd (FB_ERR_LIM n)).toNat ≠ 0 → (s.rd (FB_ERR_LIM n)).toNat ≤ (s.fb n).errs → (s.fb n).errHit = false → ∃ t, exec (.fbErrLimit n) s = .next t ∧ t.is (FB_STAT.ERR_FAULT n) = true ∧ (t.fb n).errHit = true ∧ s.sameBut (.reg .fb :: .fbs :: postParts) t)

/-- FB_EN_WRITE of 1 of a disabled unit, in an incremental mode or with the FBO pins released: EN 1, no reading, no last reading, the position kept, the last change now; in a serial mode with the pins held it sets CFG_REFUSED alone. Of 0: EN and VALID 0, no reading and no origin; no other unit changes. FB_OUT_EN_WRITE with the pins released, or of 0, stores the bit alone. ENC_CLR is kept for the next request. FB_CFG_WRITE of a disabled unit with a legal pair (fbCfgOk) stores FB_CFG or FB_SER; of an enabled unit it sets CFG_REFUSED alone. FB_LIMIT_WRITE of an upper limit at or above the lower one: the limit and the register take the value and the position is clamped between both; of a lower limit above the upper one it sets CFG_REFUSED alone. FB_SET_WRITE stores the word, moves the position to the pair (clamped by moveTo, with no limit held before) and judges a late hit. FB_POS_LO_READ answers the low word of the position and latches both. CMP_HIT_NS_READ answers the nanoseconds of the hit and latches its seconds. CMP_ARM_WRITE stores the sign-extended word and, with EN 1, arms. CMP_EN_WRITE from 0 to 1 arms; of 0 it disarms. CMP_PULSE_END ends the first pulse and CMP_IRQ_LEVEL_END the first stretch of the level, at its instant, nothing else. (Drawn from R147, R152, R156, R157, R158, R159, R161, R162, R163, R624.) (04_feedback_and_current_sensing.md, 11_interrupt_controller.md) -/
def Obligations.FeedbackCommandsComplete : Prop :=
  (∀ (n : Fin 64) (s : State), s.is (FB_CTRL.EN n) = false → (s.get (FB_CFG.MODE n) < 3 ∨ s.is PIN_REL.FBO = true) → ∃ t, exec (.fbEnWrite n true) s = .next t ∧ t.is (FB_CTRL.EN n) = true ∧ (t.fb n).reading = none ∧ (t.fb n).lastA = none ∧ (t.fb n).pos = (s.fb n).pos ∧ (t.fb n).changed = s.now)
  ∧ (∀ (n : Fin 64) (s : State), s.is (FB_CTRL.EN n) = false → 3 ≤ s.get (FB_CFG.MODE n) → s.is PIN_REL.FBO = false → exec (.fbEnWrite n true) s = .next (s.flag (FB_STAT.CFG_REFUSED n)))
  ∧ (∀ (n : Fin 64) (s : State), ∃ t, exec (.fbEnWrite n false) s = .next t ∧ t.is (FB_CTRL.EN n) = false ∧ t.is (FB_STAT.VALID n) = false ∧ t.fb n = { s.fb n with reading := none, origin := none } ∧ (∀ m, m ≠ n → t.fb m = s.fb m) ∧ s.sameBut [.reg .fb, .fbs] t)
  ∧ (∀ (n : Fin 64) (on : Bool) (s : State), (s.is PIN_REL.FBO = true ∨ on = false) → exec (.fbOutEnWrite n on) s = .next (s.putB (FB_CTRL.OUT_EN n) on))
  ∧ (∀ (n : Fin 64) (s : State), exec (.encClr n) s = .next (s.setFb n { s.fb n with encClr := true }))
  ∧ (∀ (n : Fin 64) (v : Word) (s : State), s.is (FB_CTRL.EN n) = false → fbCfgOk v (s.rd (FB_SER n)) = true → exec (.fbCfgWrite n false v) s = .next (s.wr (FB_CFG n) (v &&& 0x0000FFFF)))
  ∧ (∀ (n : Fin 64) (v : Word) (s : State), s.is (FB_CTRL.EN n) = false → fbCfgOk (s.rd (FB_CFG n)) v = true → exec (.fbCfgWrite n true v) s = .next (s.wr (FB_SER n) (v &&& 0x00FFFFFF)))
  ∧ (∀ (n : Fin 64) (ser : Bool) (v : Word) (s : State), s.is (FB_CTRL.EN n) = true → exec (.fbCfgWrite n ser v) s = .next (s.flag (FB_STAT.CFG_REFUSED n)))
  ∧ (∀ (n : Fin 64) (hi : BitVec 16) (v : Int) (s : State), v = pair48 (s.rd (FB_ULIM_LO n)) (hi.setWidth 32) → (s.fb n).lo ≤ v → ∃ t, exec (.fbLimitWrite n true hi) s = .next t ∧ (t.fb n).hi = v ∧ (t.fb n).lo = (s.fb n).lo ∧ (t.fb n).pos = max (s.fb n).lo (min v (s.fb n).pos) ∧ t.rd (FB_ULIM_HI n) = hi.signExtend 32)
  ∧ (∀ (n : Fin 64) (hi : BitVec 16) (s : State), (s.fb n).hi < pair48 (s.rd (FB_LLIM_LO n)) (hi.setWidth 32) → exec (.fbLimitWrite n false hi) s = .next (s.flag (FB_STAT.CFG_REFUSED n)))
  ∧ (∀ (n : Fin 64) (hi : BitVec 16) (s : State), exec (.fbSetWrite n hi) s = .next ((((s.wr (FB_SET_HI n) (hi.setWidth 32)).setFb n { s.fb n with atLim := none }).moveTo n (pair48 (s.rd (FB_SET_LO n)) (hi.setWidth 32))).cmpLate n))
  ∧ (∀ (n : Fin 64) (s : State), ∃ t, exec (.fbPosLoRead n) s = .next t ∧ t.rdata = [lo48 (s.fb n).pos] ∧ t.rd (FB_POS_LO n) = lo48 (s.fb n).pos ∧ t.rd (FB_POS_HI n) = hi48 (s.fb n).pos ∧ s.sameBut [.reg .fb, .rdata] t)
  ∧ (∀ (n : Fin 64) (s : State), ∃ t, exec (.cmpHitNsRead n) s = .next t ∧ t.rdata = [s.rd (CMP_HIT_NS n)] ∧ t.rd (CMP_HIT_SEC_LO n) = BitVec.ofNat 32 (s.fb n).hitSec ∧ t.rd (CMP_HIT_SEC_HI n) = BitVec.ofNat 32 ((s.fb n).hitSec / 2 ^ 32) ∧ s.sameBut [.reg .fb, .rdata] t)
  ∧ (∀ (n : Fin 64) (hi : BitVec 16) (s : State), s.is (CMP_CTRL.EN n) = true → exec (.cmpArmWrite n hi) s = .next ((s.wr (CMP_POS_HI n) (hi.signExtend 32)).cmpArm n))
  ∧ (∀ (n : Fin 64) (hi : BitVec 16) (s : State), s.is (CMP_CTRL.EN n) = false → exec (.cmpArmWrite n hi) s = .next (s.wr (CMP_POS_HI n) (hi.signExtend 32)))
  ∧ (∀ (n : Fin 64) (s : State), s.is (CMP_CTRL.EN n) = false → exec (.cmpEnWrite n true) s = .next ((s.putB (CMP_CTRL.EN n) true).cmpArm n))
  ∧ (∀ (n : Fin 64) (s : State), exec (.cmpEnWrite n false) s = .next ((s.putB (CMP_CTRL.EN n) false).setFb n { s.fb n with armed := false }))
  ∧ (∀ (n : Fin 64) (a at_ : Time) (l : List (Time × Time)) (s : State), (s.fb n).pulses = (a, at_) :: l → exec (.cmpPulseEnd n) s = .next ((s.advance at_).setFb n { s.fb n with pulses := l }))
  ∧ (∀ (n : Fin 64) (a b : Time) (rest : List (Time × Time)) (s : State), (s.fb n).levels = (a, b) :: rest → exec (.cmpIrqLevelEnd n) s = .next ((s.advance b).setFb n { s.fb n with levels := rest }))

/-- LOOP_ENABLE of a DISABLED loop with EN 0 and a valid setup (loopCfgOk) sets EN and computes LD_DIN and LD_DOUT (loopDelays), nothing else; with EN 0 and an invalid setup it sets CFG_REFUSED alone. LOOP_DISABLE clears EN, and a loop that is not DISABLED has its final run before it. LOOP_CLR_FAULT of a standard loop in FAULT whose present block is clean (blockClean): WAIT, its law state cleared, its counts 0, no cause due and no trip word; of a standard loop whose block is not clean it sets CLR_REFUSED alone. LD_CONFIG_WRITE in DISABLED writes the bits of the register's mask and nothing else; in any other state a write that would change them sets CFG_REFUSED alone, and one that would not changes nothing. LD_BANK_WRITE of a loop with a custom law, in DISABLED or into the bank that is not active, stores the word in the bank and in its copy in the tile (bankPut); of a scaled coefficient with an exponent above 23 to such a bank of a standard loop it sets CFG_REFUSED alone. LD_SWAP_REQ with no swap pending sets SWAP_PEND alone; with one pending it sets SWAP_REFUSED alone. (Drawn from R166, R168, R173, R186, R190, R192, R204, R206.) (05_control_engine.md) -/
def Obligations.LoopCommandsComplete : Prop :=
  (∀ (n : Fin 256) (s : State), s.is (LD_CTRL.EN n) = false → s.get (LD_STAT.STATE n) = 0 → s.loopCfgOk n = true → exec (.loopEnable n) s = .next ((s.put (LD_CTRL.EN n) 1).loopDelays n))
  ∧ (∀ (n : Fin 256) (s : State), s.is (LD_CTRL.EN n) = false → s.loopCfgOk n = false → exec (.loopEnable n) s = .next (s.flag (LD_STAT.CFG_REFUSED n)))
  ∧ (∀ (n : Fin 256) (s : State), exec (.loopDisable n) s = .next ((s.put (LD_CTRL.EN n) 0).setLoop n { s.loop n with final := decide (s.get (LD_STAT.STATE n) ≠ 0) }))
  ∧ (∀ (n : Fin 256) (s : State), s.standard n = true → s.get (LD_STAT.STATE n) = 5 → s.blockClean n = true → ∃ t, exec (.loopClrFault n) s = .next t ∧ t.get (LD_STAT.STATE n) = 1 ∧ (t.loop n).law = (s.loop n).law.cleared ∧ (t.loop n).bad = 0 ∧ (t.loop n).clip = 0 ∧ (t.loop n).warn = 0 ∧ (t.loop n).fault = 0 ∧ (t.loop n).causeDue = none ∧ (t.loop n).tripWord = false ∧ s.sameBut [.reg .ld, .loops] t)
  ∧ (∀ (n : Fin 256) (s : State), s.standard n = true → s.blockClean n = false → exec (.loopClrFault n) s = .next (s.flag (LD_STAT.CLR_REFUSED n)))
  ∧ (∀ (n : Fin 256) (r : LdCfg) (v : Word) (s : State), s.get (LD_STAT.STATE n) = 0 → exec (.ldConfigWrite n r v) s = .next (s.wr (ldCfgReg n r) ((s.rd (ldCfgReg n r) &&& ~~~ldCfgMask n r) ||| (v &&& ldCfgMask n r))))
  ∧ (∀ (n : Fin 256) (r : LdCfg) (v : Word) (s : State), s.get (LD_STAT.STATE n) ≠ 0 → (s.rd (ldCfgReg n r) &&& ~~~ldCfgMask n r) ||| (v &&& ldCfgMask n r) ≠ s.rd (ldCfgReg n r) → exec (.ldConfigWrite n r v) s = .next (s.flag (LD_STAT.CFG_REFUSED n)))
  ∧ (∀ (n : Fin 256) (r : LdCfg) (v : Word) (s : State), s.get (LD_STAT.STATE n) ≠ 0 → (s.rd (ldCfgReg n r) &&& ~~~ldCfgMask n r) ||| (v &&& ldCfgMask n r) = s.rd (ldCfgReg n r) → exec (.ldConfigWrite n r v) s = .next (s))
  ∧ (∀ (n : Fin 256) (b : Fin 2) (k : Fin 64) (v : Word) (s : State), (s.get (LD_STAT.STATE n) = 0 ∨ s.get (LD_STAT.BANK n) ≠ b.val) → s.standard n = false → exec (.ldBankWrite n b k v) s = .next (s.bankPut n b k v))
  ∧ (∀ (n : Fin 256) (b : Fin 2) (k : Fin 64) (v : Word) (s : State), (s.get (LD_STAT.STATE n) = 0 ∨ s.get (LD_STAT.BANK n) ≠ b.val) → s.standard n = true → coefKind (decide (n.val < 64)) k.val = .scaled → 23 < getBits v 24 5 → exec (.ldBankWrite n b k v) s = .next (s.flag (LD_STAT.CFG_REFUSED n)))
  ∧ (∀ (n : Fin 256) (s : State), s.is (LD_STAT.SWAP_PEND n) = false → exec (.ldSwapReq n) s = .next (s.put (LD_STAT.SWAP_PEND n) 1))
  ∧ (∀ (n : Fin 256) (s : State), s.is (LD_STAT.SWAP_PEND n) = true → exec (.ldSwapReq n) s = .next (s.flag (LD_STAT.SWAP_REFUSED n)))

/-- For every loop, bank, coefficient and word. While the loop is DISABLED, or for the bank that LD_STAT.BANK does not show, a word of a scaled coefficient of a standard loop with an exponent of at most 23, and any word of a custom loop, is stored in the bank (a scaled one without its reserved bits 31 to 29). In any other state, a write to the bank that LD_STAT.BANK shows sets BANK_REFUSED, and the bank's word stays. (R185) -/
def Obligations.BankWriteRule : Prop :=
  (∀ (n : Fin 256) (b : Fin 2) (k : Fin 64) (v : Word) (s : State), (s.get (LD_STAT.STATE n) = 0 ∨ s.get (LD_STAT.BANK n) ≠ b.val) → s.standard n = true → coefKind (decide (n.val < 64)) k.val = .scaled → getBits v 24 5 ≤ 23 → ∃ t, exec (.ldBankWrite n b k v) s = .next t ∧ t.rd (LD_BANK n b k) = v &&& 0x1FFFFFFF)
  ∧ (∀ (n : Fin 256) (b : Fin 2) (k : Fin 64) (v : Word) (s : State), (s.get (LD_STAT.STATE n) = 0 ∨ s.get (LD_STAT.BANK n) ≠ b.val) → s.standard n = false → ∃ t, exec (.ldBankWrite n b k v) s = .next t ∧ t.rd (LD_BANK n b k) = v)
  ∧ (∀ (n : Fin 256) (b : Fin 2) (k : Fin 64) (v : Word) (s : State), s.get (LD_STAT.STATE n) ≠ 0 → s.get (LD_STAT.BANK n) = b.val → ∃ t, exec (.ldBankWrite n b k v) s = .next t ∧ t.is (LD_STAT.BANK_REFUSED n) = true ∧ t.rd (LD_BANK n b k) = s.rd (LD_BANK n b k))

/-- CURRENT_LAW_RUN of a placed standard current loop: the law (currentLaw) runs on its block, its results are kept (lawDone, 410 cycles), and its edge words, or float words when supervision reacts, are posted for the block's period to the loop's port. MOTION_LAW_RUN of a placed standard motion loop: likewise with motionLaw and 282 cycles, and its reference, or 0 when supervision reacts, is posted. CUSTOM_LAW_RUN, with no post, of a placed custom loop: LD_RUNS counts one and LD_CYC_MAX keeps the larger count of cycles; the loop is in RUN, or on its final run DISABLED and no longer placed. LD_REF_COMMIT by motion loop m for a period not ahead, whose block (K periods on) has not begun, keeps LD_REF_D and LD_REF_Q for that block; a direct one without an owner keeps them as the direct reference; one whose period is ahead sets CFG_REFUSED alone. LD_SP_COMMIT of a motion loop for its next start keeps the written set-points for it. LOOP_SUP_WARN that is due sets SUP_WARN once. LOOP_SUP_FAULT with cause 1 or 3 due, and LOOP_BAD_LIMIT with cause 2 or 4 due, react to it once (reactFault). LOOP_FAULT_WORD of the active plane with a trip word counts in the plane's posts, takes the word and trips the port by software. LAW_WCET_EXCEED of a custom loop with more cycles than LD_WCET sets WCET_EXCEED, marks an image on trial and posts record 0x0121. (Drawn from R174, R178, R179, R181, R182, R190, R195, R196, R197, R201.) (05_control_engine.md) -/
def Obligations.LawRunsComplete : Prop :=
  (∀ (n : Fin 64) (r : LawRun) (s : State), s.placed (curLoop n) = true → s.standard (curLoop n) = true → r = currentLaw (s.lawIn (curLoop n)) (s.loop (curLoop n)).law → exec (.currentLawRun n) s = .next ((s.lawDone (curLoop n) r 410).1.postEdges ((s.lawDone (curLoop n) r 410).1.loopPort (curLoop n)) (getBits ((s.lawIn (curLoop n)).w 0) 0 16) (if (s.lawDone (curLoop n) r 410).2 = true then floatWords else r.words)))
  ∧ (∀ (n : Fin 64) (r : LawRun) (s : State), s.placed (motLoop n) = true → s.standard (motLoop n) = true → r = motionLaw (s.lawIn (motLoop n)) (s.loop (motLoop n)).law → exec (.motionLawRun n) s = .next (if (s.lawDone (motLoop n) r 282).2 = true then (s.lawDone (motLoop n) r 282).1.postRef (motLoop n) 0 0 else (s.lawDone (motLoop n) r 282).1.postRef (motLoop n) (toQ r.ref.1) (toQ r.ref.2)))
  ∧ (∀ (n : Fin 256) (cycles : Nat) (s : State), s.placed n = true → s.standard n = false → (s.loop n).final = false → cycles < 2 ^ 32 → ∃ t, exec (.customLawRun n .nothing cycles) s = .next t ∧ t.get (LD_STAT.STATE n) = 3 ∧ t.rd (LD_RUNS n) = s.rd (LD_RUNS n) + 1 ∧ (t.rd (LD_CYC_MAX n)).toNat = max (s.rd (LD_CYC_MAX n)).toNat cycles)
  ∧ (∀ (n : Fin 256) (cycles : Nat) (s : State), s.placed n = true → s.standard n = false → (s.loop n).final = true → ∃ t, exec (.customLawRun n .nothing cycles) s = .next t ∧ t.get (LD_STAT.STATE n) = 0 ∧ (t.loop n).final = false ∧ (t.loop n).tile = none ∧ t.rd (LD_RUNS n) = s.rd (LD_RUNS n) + 1)
  ∧ (∀ (n : Fin 64) (m : Fin 256) (c : BitVec 16) (b : Nat) (s : State), s.behind c.toNat = some b → s.periodNo < s.periodNo - b + s.loopK m → exec (.ldRefCommit n (some m) c) s = .next (s.setLoop (curLoop n) { s.loop (curLoop n) with refs := tset (s.loop (curLoop n)).refs (s.periodNo - b + s.loopK m) ((s.rd (LD_REF_D (curLoop n))).toNat, (s.rd (LD_REF_Q (curLoop n))).toNat) }))
  ∧ (∀ (n : Fin 64) (c : BitVec 16) (b : Nat) (s : State), s.behind c.toNat = some b → s.refOwner n = false → exec (.ldRefCommit n none c) s = .next (s.setLoop (curLoop n) { s.loop (curLoop n) with direct := some ((s.rd (LD_REF_D (curLoop n))).toNat, (s.rd (LD_REF_Q (curLoop n))).toNat) }))
  ∧ (∀ (n : Fin 64) (src : Option (Fin 256)) (c : BitVec 16) (s : State), s.behind c.toNat = none → exec (.ldRefCommit n src c) s = .next (s.flag (LD_STAT.CFG_REFUSED (curLoop n))))
  ∧ (∀ (n : Fin 256) (c : BitVec 16) (s : State), 64 ≤ n.val → n.val < 128 → c.toNat = s.nextStart n % 65536 → exec (.ldSpCommit n c) s = .next (s.setLoop n { s.loop n with sps := tset (s.loop n).sps (s.nextStart n) (s.rd48 (LD_SP_POS_LO n) (LD_SP_POS_HI n), (s.rd (LD_SP_VEL n)).toNat, (s.rd (LD_SP_TFF n)).toNat) }))
  ∧ (∀ (n : Fin 256) (s : State), (s.loop n).warnDue = true → exec (.loopSupWarn n) s = .next ((s.setLoop n { s.loop n with warnDue := false }).flag (LD_STAT.SUP_WARN n)))
  ∧ (∀ (n : Fin 256) (c : Nat) (s : State), (s.loop n).causeDue = some c → (c = 1 ∨ c = 3) → exec (.loopSupFault n) s = .next ((s.setLoop n { s.loop n with causeDue := none }).reactFault n c))
  ∧ (∀ (n : Fin 256) (c : Nat) (s : State), (s.loop n).causeDue = some c → (c = 2 ∨ c = 4) → exec (.loopBadLimit n) s = .next ((s.setLoop n { s.loop n with causeDue := none }).reactFault n c))
  ∧ (∀ (n : Fin 256) (s : State), (s.loop n).tripWord = true → exec (.loopFaultWord n s.activePlane) s = .next (((s.posted s.activePlane [n.val, 0]).setLoop n { s.loop n with tripWord := false, wordOf := none }).forceTrip (s.loopPort n)))
  ∧ (∀ (n : Fin 256) (cycles : Nat) (s : State), s.standard n = false → (s.rd (LD_WCET n)).toNat < cycles → exec (.lawWcetExceed n cycles) s = .next (((s.flag (LD_STAT.WCET_EXCEED n)).mishap [2, 3]).post 0x0121 1 (((s.flag (LD_STAT.WCET_EXCEED n)).mishap [2, 3]).loopAddr n) ([BitVec.ofNat 8 n.val, 0] ++ leBytes 2 cycles)))

/-- ARM_CTRL_EN of 1 of an arm with EN 0, an enabled motion loop and no step axis assigned to one of its joints: EN 1, IDLE, nothing queued, nominal time 0, and each joint's set-point is its last delivered position; with no enabled motion loop it sets CFG_REFUSED alone. Of 0: EN 0, IDLE, the arm flushed (flushArm), nothing else. ARM_PAUSE, ARM_RESUME, ARM_ABORT and ARM_CLR wait, in their order, for the next interpolator run, and change nothing else. PLANNING_TICK: device time is at or after the tick's boundary, PLN_TICKS counts one, no planner run stands for the new tick, and the error counts of every feedback unit start again. PLANNER_RUN: a run stands for the tick, no enabled arm has a record ready, and the records that were ready come into force at the tick after next (modulo 2^32). TIMED_MOVE_START of a queued timed move whose predecessors have ended: device time is at or after its START, the path starts afresh from where the arm ended, and START_LATE is set when the cell time is past START. INTERPOLATOR_RUN of an enabled arm with joints: the speed scale lies in 0 to 1, ARM_VSAFE shows SI_VSAFE, and no command waits. PLANNER_KILN_STOP with MISS_LIM not 0 and reached sends a pause to every enabled arm and sets KILN_STOP, nothing else. (Drawn from R207, R208, R209, R216, R217, R221, R222, R225, R247.) (06_motion_and_steps.md) -/
def Obligations.ArmPlanningComplete : Prop :=
  (∀ (a : Fin 8) (s : State), s.is (ARM_CTRL.EN a) = false → s.joints a ≠ [] → (finList 16).any (fun i => (s.joints a).any (fun j => s.axisJoint i == portOf a j)) = false → ∃ t, exec (.armCtrlEn a true) s = .next t ∧ t.is (ARM_CTRL.EN a) = true ∧ t.get (ARM_STAT.STATE a) = 0 ∧ (t.arm a).queue = [] ∧ (t.arm a).path = [] ∧ (t.arm a).tau = 0 ∧ (∀ j : Fin 8, (t.arm a).sp.getD j.val 0 = ((s.rd48 (FB_PSAMP_LO (s.loopFb (motLoop (portOf a j)))) (FB_PSAMP_HI (s.loopFb (motLoop (portOf a j)))) : Int) : Rat)))
  ∧ (∀ (a : Fin 8) (s : State), s.is (ARM_CTRL.EN a) = false → s.joints a = [] → exec (.armCtrlEn a true) s = .next (s.flag (ARM_STAT.CFG_REFUSED a)))
  ∧ (∀ (a : Fin 8) (s : State), exec (.armCtrlEn a false) s = .next (((s.put (ARM_CTRL.EN a) 0).put (ARM_STAT.STATE a) 0).flushArm a))
  ∧ (∀ (a : Fin 8) (s : State), exec (.armPause a) s = .next (s.setArm a { s.arm a with cmds := (s.arm a).cmds ++ [1] }))
  ∧ (∀ (a : Fin 8) (s : State), exec (.armResume a) s = .next (s.setArm a { s.arm a with cmds := (s.arm a).cmds ++ [2] }))
  ∧ (∀ (a : Fin 8) (s : State), exec (.armAbort a) s = .next (s.setArm a { s.arm a with cmds := (s.arm a).cmds ++ [3] }))
  ∧ (∀ (a : Fin 8) (s : State), exec (.armClr a) s = .next (s.setArm a { s.arm a with cmds := (s.arm a).cmds ++ [4] }))
  ∧ (∀ (s : State), ∃ t, exec (.planningTick) s = .next t ∧ t.rd PLN_TICKS = s.rd PLN_TICKS + 1 ∧ t.plannerRan = false ∧ t.now = max s.now (s.boundary (s.periodNo / s.tickPeriods * s.tickPeriods)) ∧ (∀ q ∈ t.fbs, q.2.errs = 0 ∧ q.2.errHit = false))
  ∧ (∀ (s : State), ∃ t, exec (.plannerRun) s = .next t ∧ t.plannerRan = true ∧ (∀ a ∈ s.armsOn, (t.arm a).ready = [] ∧ ((s.arm a).ready ≠ [] → (((s.rd PLN_TICKS).toNat + 2) % 2 ^ 32, (s.arm a).ready) ∈ (t.arm a).taken)))
  ∧ (∀ (a : Fin 8) (m : Move) (r : List Move) (st : Nat) (s : State), (s.arm a).queue = m :: r → m.start = some st → (s.arm a).going = false → ∃ t, exec (.timedMoveStart a) s = .next t ∧ t.now = max s.now (s.deviceAt st) ∧ (t.arm a).path ≠ [] ∧ (t.arm a).base = jointList.map (s.arm a).endPos ∧ ((st < (s.advance (s.deviceAt st)).cell → t.is (ARM_STAT.START_LATE a) = true)))
  ∧ (∀ (a : Fin 8) (s : State), s.joints a ≠ [] → s.is (ARM_CTRL.EN a) = true → ∃ t, exec (.interpolatorRun a) s = .next t ∧ 0 ≤ (t.arm a).lam ∧ (t.arm a).lam ≤ 1 ∧ t.rd (ARM_VSAFE a) = s.rd (SI_VSAFE a) ∧ (t.arm a).cmds = [])
  ∧ (∀ (s : State), s.get PLN_CFG.MISS_LIM ≠ 0 → s.get PLN_CFG.MISS_LIM ≤ s.get PLN_STAT.MISS_RUN → exec (.plannerKilnStop) s = .next ((s.armsOn.foldl (fun (u : State) a => u.armCmd a 1) s).flag PLN_STAT.KILN_STOP))

/-- STP_EN of 1 of a disabled axis that is not HALTED, with a legal setup and no halt cause once EN is 1, sets EN and starts its queue (startNext); of 0: EN 0, at rest with the queue empty, IDLE (HALTED stays). STP_PIN_ARM with the pins released, or of 0, stores the bit alone. STP_STOP of an axis between two steps, in no group: stopping in DECEL with the queue empty and its next step due as before. STP_ABORT of an axis in no group: at rest, queue empty, IDLE (HALTED stays). STP_CLR of an enabled axis in HALTED without a cause: HALTED and POS_DOUBT end and its queue starts. STEP_MOVE_PUSH of a plain move to a moving axis with fewer than 16 queued and no replacement: the queue is as before with the move at its end (but for the passing speeds, which are judged again), the present move and step stay; with 16 queued Q_FULL is set alone. STEP_PRESET in IDLE loads the position from the pair; else only the word is stored. STEP_ACC_WRITE stores STP_ACC. STEP_CFG_WRITE of a disabled axis stores STP_CFG, STP_TIMING with PW of 2 or more, or a microstep entry of 24 bits; of an enabled one sets CFG_REFUSED, nothing else. STEP_DUE makes the step (Stp.due). STEP_PULSE_END with a step due ends the pulse at its instant alone. STEP_DSETUP_EXPIRY ends the wait and goes on (orient). STEP_GROUP_START of a group of one waiting member starts it. STEPPER_DRIVE_RUN in quiet mode with a good bus sample: STRONG 0, STP_BAD stays. STEP_HOLD_CURRENT of an enabled axis at rest sets HOLDI at the end of the delay. (Drawn from R229, R230, R231, R232, R234, R236, R237, R238, R240, R242, R243, R250.) (06_motion_and_steps.md) -/
def Obligations.StepAxesComplete : Prop :=
  (∀ (i : Fin 16) (s : State), s.is (STP_CTRL.EN i) = false → s.get (STP_STAT.STATE i) ≠ 4 → Stp.cfgOk s i = true → Stp.haltCause (s.put (STP_CTRL.EN i) 1) i = false → exec (.stpEn i true) s = .next (Stp.startNext i (Stp.nowFine s) (s.axis i).queue (s.put (STP_CTRL.EN i) 1)))
  ∧ (∀ (i : Fin 16) (s : State), ∃ t, exec (.stpEn i false) s = .next t ∧ t.is (STP_CTRL.EN i) = false ∧ (t.get (STP_STAT.STATE i) = if s.get (STP_STAT.STATE i) = 4 then 4 else 0) ∧ t.rd (STP_SPD i) = 0 ∧ (t.axis i).queue = [] ∧ (t.axis i).cur = none ∧ (t.axis i).due = none ∧ (t.axis i).v2 = 0)
  ∧ (∀ (i : Fin 16) (on : Bool) (s : State), (s.is PIN_REL.STEP = true ∨ on = false) → exec (.stpPinArm i on) s = .next (s.putB (STP_CTRL.PIN_ARM i) on))
  ∧ (∀ (i : Fin 16) (x : Nat) (s : State), (s.axis i).cur.isSome = true → (s.axis i).group = none → (s.axis i).due = some x → ∃ t, exec (.stpStop i) s = .next t ∧ (t.axis i).stopping = true ∧ (t.axis i).queue = [] ∧ (t.axis i).due = some x ∧ t.get (STP_STAT.STATE i) = 3)
  ∧ (∀ (i : Fin 16) (s : State), (s.axis i).group = none → ∃ t, exec (.stpAbort i) s = .next t ∧ (t.axis i).queue = [] ∧ (t.axis i).cur = none ∧ (t.axis i).due = none ∧ t.rd (STP_SPD i) = 0 ∧ (t.get (STP_STAT.STATE i) = if s.get (STP_STAT.STATE i) = 4 then 4 else 0))
  ∧ (∀ (i : Fin 16) (s : State), s.get (STP_STAT.STATE i) = 4 → Stp.haltCause s i = false → s.is (STP_CTRL.EN i) = true → exec (.stpClr i) s = .next (Stp.startNext i (Stp.nowFine s) (s.axis i).queue ((s.put (STP_STAT.STATE i) 0).put (STP_STAT.POS_DOUBT i) 0)))
  ∧ (∀ (i : Fin 16) (v : Word) (s : State), v.getLsbD 0 = true → v.getLsbD 3 = false → (s.axis i).queue.length < 16 → (s.axis i).cur.isSome = true → (s.axis i).repl = none → ∃ t, exec (.stepMovePush i v) s = .next t ∧ (t.axis i).queue.map (fun m => (m.target, m.v, m.blend, m.grp, m.id)) = (s.axis i).queue.map (fun m => (m.target, m.v, m.blend, m.grp, m.id)) ++ [(if v.getLsbD 1 then s.lastTarget i + s.rd48 (STP_MV_TGT_LO i) (STP_MV_TGT_HI i) else s.rd48 (STP_MV_TGT_LO i) (STP_MV_TGT_HI i), min (s.rd (STP_MV_V i)).toNat (s.rd (STP_VLIM i)).toNat, v.getLsbD 2, v.getLsbD 4, getBits v 16 16)] ∧ (t.axis i).cur = (s.axis i).cur ∧ (t.axis i).due = (s.axis i).due)
  ∧ (∀ (i : Fin 16) (v : Word) (s : State), v.getLsbD 0 = true → v.getLsbD 3 = false → 16 ≤ (s.axis i).queue.length → exec (.stepMovePush i v) s = .next (s.flag (STP_STAT.Q_FULL i)))
  ∧ (∀ (i : Fin 16) (hi : BitVec 16) (s : State), s.get (STP_STAT.STATE i) = 0 → exec (.stepPreset i hi) s = .next ((s.wr (STP_SET_HI i) (hi.setWidth 32)).wr48 (STP_POS_LO i) (STP_POS_HI i) (pair48 (s.rd (STP_SET_LO i)) (hi.setWidth 32))))
  ∧ (∀ (i : Fin 16) (hi : BitVec 16) (s : State), s.get (STP_STAT.STATE i) ≠ 0 → exec (.stepPreset i hi) s = .next (s.wr (STP_SET_HI i) (hi.setWidth 32)))
  ∧ (∀ (i : Fin 16) (v : Word) (s : State), exec (.stepAccWrite i v) s = .next (s.wr (STP_ACC i) v))
  ∧ (∀ (i : Fin 16) (v : Word) (s : State), s.is (STP_CTRL.EN i) = false → exec (.stepCfgWrite i .cfg v) s = .next (s.wr (STP_CFG i) v))
  ∧ (∀ (i : Fin 16) (v : Word) (s : State), s.is (STP_CTRL.EN i) = false → 2 ≤ getBits v 0 16 → exec (.stepCfgWrite i .timing v) s = .next (s.wr (STP_TIMING i) v))
  ∧ (∀ (i : Fin 16) (k : Fin 256) (v : Word) (s : State), s.is (STP_CTRL.EN i) = false → exec (.stepCfgWrite i (.table k) v) s = .next (s.wr (UST_ENTRY i k) (v &&& 0x00FFFFFF)))
  ∧ (∀ (i : Fin 16) (r : StpCfg) (v : Word) (s : State), s.is (STP_CTRL.EN i) = true → exec (.stepCfgWrite i r v) s = .next (s.flag (STP_STAT.CFG_REFUSED i)))
  ∧ (∀ (i : Fin 16) (x : Nat) (s : State), (s.axis i).due = some x → exec (.stepDue i) s = .next (Stp.due s i x))
  ∧ (∀ (i : Fin 16) (at_ : Time) (s : State), (s.axis i).pulse = some at_ → (s.axis i).due.isSome = true → ∃ t, exec (.stepPulseEnd i) s = .next t ∧ t.now = max s.now at_ ∧ t.axis i = { s.axis i with pulse := none } ∧ s.sameBut [.now, .axes] t)
  ∧ (∀ (i : Fin 16) (at_ : Time) (s : State), (s.axis i).dsetup = some at_ → exec (.stepDsetupExpiry i) s = .next (Stp.orient ((s.advance at_).setAxis i { s.axis i with dsetup := none }) i (Stp.fine at_)))
  ∧ (∀ (g : Fin 8) (i : Fin 16) (m : StepMove) (r : List StepMove) (s : State), s.groupMembers g = [i] → (s.axis i).queue = m :: r → (s.axis i).cur = none → (s.axis i).pulse = none → s.get (STP_STAT.STATE i) = 0 → m.grp = true → m.target ≠ Stp.pos s i → ∃ t, exec (.stepGroupStart g) s = .next t ∧ (t.axis i).cur = some m ∧ (t.axis i).queue = r ∧ t.get (STP_STAT.STATE i) = 1 ∧ t.is (STP_STAT.GRP_WAIT i) = false)
  ∧ (∀ (i : Fin 16) (n : Fin 64) (s : State), s.axisPort i = some n → s.is (STP_CTRL.EN i) = true → s.get (STP_CFG.MODE i) = 1 → (sampleOk (s.rd (SDF_SAMPLE_A (fin 80 (64 + n.val / 8)))) && decide (0 < ofQ (getBits (s.rd (SDF_SAMPLE_A (fin 80 (64 + n.val / 8)))) 0 24))) = true → ∃ t, exec (.stepperDriveRun i) s = .next t ∧ t.is (STP_STAT.STRONG i) = false ∧ t.rd (STP_BAD i) = s.rd (STP_BAD i))
  ∧ (∀ (i : Fin 16) (s : State), s.is (STP_CTRL.EN i) = true → (s.axis i).run = false → exec (.stepHoldCurrent i) s = .next ((s.advance ((s.axis i).still + (s.rd (STP_HOLD_DLY i)).toNat * 256000)).put (STP_STAT.HOLDI i) 1))

/-- KILN_REQUEST of a task that is a Kiln request and is SLOTTED, with the active plane's Kiln enabled: the task is handed over (kilnHanded), and every enabled Kiln, in order, takes the problem at its own plane's home of the task's second argument for the context in the first, with the result buffer of the third (kAccept). KILN_SOLVE_START of an enabled idle Kiln with no arm enabled, or with the bound ending before the next tick, whose lowest context but 0 with a queued request is c, before that request's deadline: c is the context being solved, its request runs and is queued no more, and KN_SOLVES counts one. KILN_SOLVE_DONE of a solve that ends in time or was stopped (kDoneAt), with no late reuse waiting: at the instant its result is written nothing runs in the context, and the result with the request's SEQ is held (context 0) or published (others); with nothing running, the first reuse for an expired request is written (kLateDone). KILN_DEADLINE of a solve that does not end in time, with no request queued or in context 0: at the first Kiln edge from the deadline on it is stopped, and DEADLINE is set; of a queued request in a context but 0 with nothing running: the request is dropped at its deadline, DEADLINE set, the warm start discarded, and the reuse with its SEQ waits to be written. KILN_EN_WRITE of 1 sets EN alone; of 0 it clears EN, and no context of the Kiln has a request queued or running or a result held or waiting. KILN_FLUSH discards the warm start of every context of the Kiln and leaves the contexts' other content and the other Kiln's contexts. (Drawn from R251, R252, R253, R263, R265, R268, R270, R271, R275.) (07_kiln_solver.md) -/
def Obligations.KilnCommandsComplete : Prop :=
  (∀ (n : Fin 4096) (s : State), (s.taskRec n).kind = 4 → s.taskState n = 4 → s.is (KN_CTRL.EN s.activePlane) = true → exec (.kilnRequest n) s = .next (s.kilnOn.foldl (fun (t : State) k => t.kAccept k (fin 16 ((s.taskRec n).arg 0).toNat) (readProblem s (s.kilnHome k ((s.taskRec n).arg 1)) (fin 16 ((s.taskRec n).arg 0).toNat)) (s.kilnHome k ((s.taskRec n).arg 2)) (some n)) (s.kilnHanded n)))
  ∧ (∀ (k : Fin 2) (c : Fin 16) (r : KRequest) (s : State), s.is (KN_CTRL.EN k) = true → s.kBusy k = false → (s.planActive = false ∨ s.now + s.kcBound k c * nsUnits < s.nextTick) → c ≠ 0 → (∀ d : Fin 16, d < c → d ≠ 0 → (s.kctx k d).queued = none) → (s.kctx k c).queued = some r → s.now < r.deadline → ∃ t, exec (.kilnSolveStart k) s = .next t ∧ t.get (KN_STAT.CTX k) = c.val ∧ (t.kctx k c).queued = none ∧ ((t.kctx k c).running.map KRun.req) = some r ∧ t.rd (KN_SOLVES k) = s.rd (KN_SOLVES k) + 1)
  ∧ (∀ (k : Fin 2) (c : Fin 16) (r : KRun) (at_ : Time) (s : State), s.kRunning k = some c → (s.kctx k c).running = some r → s.kDoneAt k c r = some at_ → s.kLate k = none → ∃ t, exec (.kilnSolveDone k) s = .next t ∧ t.now = max s.now at_ ∧ (t.kctx k c).running = none ∧ ((c = 0 → (t.kctx k c).held.map KResult.seq = some r.req.prob.seq)) ∧ ((c ≠ 0 → (t.kctx k c).pub.map KResult.seq = some r.req.prob.seq)))
  ∧ (∀ (k : Fin 2) (c : Fin 16) (l : KLate) (s : State), s.kRunning k = none → s.kLate k = some (c, l) → exec (.kilnSolveDone k) s = .next (s.kLateDone k c l))
  ∧ (∀ (k : Fin 2) (c : Fin 16) (r : KRun) (s : State), (s.kctx k c).running = some r → (s.kctx k c).queued = none ∨ c = 0 → r.stopped = none → s.kInTime k c r = false → ∃ t, exec (.kilnDeadline k c) s = .next t ∧ t.now = max s.now r.req.deadline ∧ (t.kctx k c).running = some { r with stopped := some (ceilTo (clockPeriod (s.get ISL_CLK.KILN_SEL)) (3 * max s.now r.req.deadline)) } ∧ t.is (KC_STAT.DEADLINE k c) = true)
  ∧ (∀ (k : Fin 2) (c : Fin 16) (r : KRequest) (s : State), c ≠ 0 → (s.kctx k c).running = none → (s.kctx k c).queued = some r → ∃ t, exec (.kilnDeadline k c) s = .next t ∧ t.now = max s.now r.deadline ∧ (t.kctx k c).queued = none ∧ (t.kctx k c).warm = false ∧ (t.kctx k c).late.map (fun l => l.result.seq) = some r.prob.seq ∧ t.is (KC_STAT.DEADLINE k c) = true)
  ∧ (∀ (k : Fin 2) (s : State), exec (.kilnEnWrite k true) s = .next (s.putB (KN_CTRL.EN k) true))
  ∧ (∀ (k : Fin 2) (s : State), ∃ t, exec (.kilnEnWrite k false) s = .next t ∧ t.is (KN_CTRL.EN k) = false ∧ (∀ c, (t.kctx k c).queued = none ∧ (t.kctx k c).running = none ∧ (t.kctx k c).held = none ∧ (t.kctx k c).late = none))
  ∧ (∀ (k : Fin 2) (s : State), ∃ t, exec (.kilnFlush k) s = .next t ∧ (∀ c, t.kctx k c = { s.kctx k c with warm := false }) ∧ (∀ c, t.kctx (1 - k) c = s.kctx (1 - k) c))

/-- For a tile i. TEND in native mode, or HALT in MX mode, that the tile can issue (canIssue), with no prefetched task: the task ends, its end is reported, no other tile changes. INTERRUPT_ACCEPT of a request for source n, with a task, sr bit 6 (IE) 1, outside delay slots and repeats and with no outside access open: the results under way land first (flush); then IPC holds the pc, ISR the sr, bits 6 and 7 (IE and MX) of sr are 0, ISRC is n, the pc is IVEC, the request is taken, and no other tile changes. ILLEGAL_INSTRUCTION with a task and no outside access open: the task ends with the fault of its fetch where the fetch makes one (a misaligned or outside address, an uncorrectable word), else with fault 1, at the pc. OUTSIDE_LOAD_RETURN of a frozen load with no store queued: without an error the words of both operands land (queue) and the tile goes on after the frozen cycles; with an error the tile goes on and the task ends with fault 6 at the load. OUTSIDE_STORE_DRAIN of the oldest queued store, but to STK_RELEASE, makes it leave the queue and cross (drainStore). (Drawn from R281, R295, R296, R299, R301, R305, R307.) (08_ember_programming_model.md, 09_ember_instruction_reference.md) -/
def Obligations.TaskEndsAndTileEventsComplete : Prop :=
  (∀ (i : Fin 32) (n : Fin 4096) (s : State), s.canIssue i false 4 → (s.tile i).task = some n → (s.tile i).slot = none → ∃ t, exec (.tend i) s = .next t ∧ (t.tile i).task = none ∧ (t.tile i).ends = (s.tile i).ends ++ [(n, .tend)] ∧ (∀ j, j ≠ i → t.tile j = s.tile j))
  ∧ (∀ (i : Fin 32) (n : Fin 4096) (s : State), s.canIssue i true 2 → (s.tile i).task = some n → (s.tile i).slot = none → ∃ t, exec (.mxHalt i) s = .next t ∧ (t.tile i).task = none ∧ (t.tile i).ends = (s.tile i).ends ++ [(n, .tend)] ∧ (∀ j, j ≠ i → t.tile j = s.tile j))
  ∧ (∀ (i : Fin 32) (n : Fin 512) (s : State), (s.tile i).req = some n → (s.tile i).task.isSome = true → (s.tile i).sr.getLsbD 6 = true → (s.tile i).br = none → (s.tile i).rep = none → (s.tile i).wait = none → ∃ t, exec (.interruptAccept i) s = .next t ∧ (t.tile i).ipc = BitVec.ofNat 32 (s.tile i).flush.pc ∧ (t.tile i).isr = (s.tile i).flush.sr ∧ (t.tile i).sr = (s.tile i).flush.sr &&& 0xFFFFFF3F ∧ (t.tile i).isrc = BitVec.ofNat 32 n.val ∧ (t.tile i).pc = (s.tile i).flush.ivec.toNat ∧ (t.tile i).req = none ∧ (∀ j, j ≠ i → t.tile j = s.tile j))
  ∧ (∀ (i : Fin 32) (n : Fin 4096) (s : State), (s.tile i).task = some n → (s.tile i).wait = none → ∃ t, exec (.illegalInstruction i) s = .next t ∧ (t.tile i).task = none ∧ (t.tile i).ends = (s.tile i).flush.ends ++ [(n, .fault (((s.tile i).fetchFault (if (s.tile i).mxMode then 2 else 4)).getD 1) (s.tile i).pc)])
  ∧ (∀ (i : Fin 32) (cycles pc lat : Nat) (act : MemAct) (x y : Opnd) (u v : State) (xs ys : List Word) (s : State), (s.tile i).wait = some (.load pc lat act x y) → (s.tile i).stores = [] → s.outsideWords i x = some (u, xs) → u.outsideWords i y = some (v, ys) → exec (.outsideLoadReturn i cycles false) s = .next ((v.queue i (act.writes (v.tile i) lat xs ys)).resume i cycles))
  ∧ (∀ (i : Fin 32) (cycles pc lat : Nat) (act : MemAct) (x y : Opnd) (s : State), (s.tile i).wait = some (.load pc lat act x y) → (s.tile i).stores = [] → exec (.outsideLoadReturn i cycles true) s = .next ((s.resume i cycles).tileFault i 6 pc))
  ∧ (∀ (i : Fin 32) (cycles : Nat) (error : Bool) (q : OutStore) (r : List OutStore) (s : State), (s.tile i).stores = q :: r → q.addr ≠ (STK_RELEASE).addr → exec (.outsideStoreDrain i cycles error) s = .next (s.drainStore i q r cycles error))

/-- For every tile t and operands, in every state in which t can issue the instruction in native mode (canIssue: it runs a task, is not frozen, its fetch makes no fault, no delay slot or repeat is open): the next state has on t the writes named below in the pipeline with their latency in cycles, the program counter behind the instruction and the pipeline moved on by its cycles, and nothing else changed. nop: none. lea: the operand's pointer update and pn = its effective address, 3. ldi to dn: the immediate, 1; to an: the immediate times 2^23, 1; to pn, bn, ln, mn: the immediate (ln by lenOf), 3. mov of a legal pair: rd = rs (regWrite). clr: 0 into every accumulator of the mask, 1. mva: an = dn times 2^23, 1. mova: aD = aS, 1. padd, paddm: pn stepped by the immediate, by mn, in its circular buffer (stepP), 1. paddl: pn plus the immediate, 1. reti: a return to IPC two slots ahead. rpt: the next instruction n + 1 times, n the immediate or the low 12 bits of dn. ei, di: bit 6 of sr 1, 0. clrst: bits 5 and 4 of sr 0. setrnd: bits 9 and 8 of sr. b with condition 0 to 12: to the pc plus the offset times 4 (rel) two slots ahead when the condition holds in sr, else none taken. call, callr: to the offset, to pn, with the link; jmp, ret: to pn, to LR. dbnz: dn less 1, and the branch unless that is 0. mxcall: to the offset times 2 in MX mode, with a link that returns to native mode. (Drawn from R283, R290, R293, R314, R318, R320, R321, R325, R331, R285, R292, R294, R297, R305, R315, R316, R317.) (08_ember_programming_model.md, 09_ember_instruction_reference.md) -/
def Obligations.EmberMovesAndControlComplete : Prop :=
  (∀ (t : Fin 32) (s : State), s.canIssue t false 4 → ∃ u, exec (.nop t) s = .next u ∧ s.issued u t 4 1 (fun x => x.queue []))
  ∧ (∀ (t : Fin 32) (pn : Fin 8) (m : EMem) (s : State), s.canIssue t false (memSize m) → ∃ u, exec (.lea t pn m) s = .next u ∧ s.issued u t (memSize m) 1 (fun x => x.queue ((x.eaddr m).writes ++ [(3, .p pn (x.eaddr m).at_)])))
  ∧ (∀ (t : Fin 32) (dn : Fin 16) (imm : EImm) (s : State), s.canIssue t false (immSize imm) → ∃ u, exec (.ldiD t dn imm) s = .next u ∧ s.issued u t (immSize imm) 1 (fun x => x.queue ([(1, .d dn (immVal imm))])))
  ∧ (∀ (t : Fin 32) (an : Fin 4) (imm : BitVec 24) (s : State), s.canIssue t false 8 → ∃ u, exec (.ldiA t an imm) s = .next u ∧ s.issued u t 8 1 (fun x => x.queue ([(1, .a an (BitVec.ofInt 56 (imm.toInt * 2 ^ 23)))])))
  ∧ (∀ (t : Fin 32) (pn : Fin 8) (imm : BitVec 40) (s : State), s.canIssue t false 8 → ∃ u, exec (.ldiP t pn imm) s = .next u ∧ s.issued u t 8 1 (fun x => x.queue ([(3, .p pn imm)])))
  ∧ (∀ (t : Fin 32) (bn : Fin 8) (imm : BitVec 40) (s : State), s.canIssue t false 8 → ∃ u, exec (.ldiB t bn imm) s = .next u ∧ s.issued u t 8 1 (fun x => x.queue ([(3, .b bn imm)])))
  ∧ (∀ (t : Fin 32) (ln : Fin 8) (imm : BitVec 18) (s : State), s.canIssue t false 8 → ∃ u, exec (.ldiL t ln imm) s = .next u ∧ s.issued u t 8 1 (fun x => x.queue ([(3, .l ln (lenOf imm))])))
  ∧ (∀ (t : Fin 32) (mn : Fin 8) (imm : BitVec 24) (s : State), s.canIssue t false 8 → ∃ u, exec (.ldiM t mn imm) s = .next u ∧ s.issued u t 8 1 (fun x => x.queue ([(3, .m mn imm)])))
  ∧ (∀ (t : Fin 32) (rd : EReg) (rs : EReg) (s : State), s.canIssue t false 4 → movIllegal rd rs = false → ∃ u, exec (.mov t rd rs) s = .next u ∧ s.issued u t 4 1 (fun x => x.queue [regWrite (x.readReg t rs) rd]))
  ∧ (∀ (t : Fin 32) (mask : BitVec 4) (s : State), s.canIssue t false 4 → ∃ u, exec (.clr t mask) s = .next u ∧ s.issued u t 4 1 (fun x => x.queue (((finList 4).filter (fun i => mask.getLsbD i.val)).map (fun i => (1, .a i 0)))))
  ∧ (∀ (t : Fin 32) (ad : Fin 4) (dn : Fin 16) (s : State), s.canIssue t false 4 → ∃ u, exec (.mva t ad dn) s = .next u ∧ s.issued u t 4 1 (fun x => x.queue ([(1, .a ad (BitVec.ofInt 56 ((x.rd dn).toInt * 2 ^ 23)))])))
  ∧ (∀ (t : Fin 32) (ad as_ : Fin 4) (s : State), s.canIssue t false 4 → ∃ u, exec (.mova t ad as_) s = .next u ∧ s.issued u t 4 1 (fun x => x.queue ([(1, .a ad (x.ra as_))])))
  ∧ (∀ (t : Fin 32) (pn : Fin 8) (imm : EImm) (s : State), s.canIssue t false (immSize imm) → ∃ u, exec (.padd t pn imm) s = .next u ∧ s.issued u t (immSize imm) 1 (fun x => x.queue ([(1, .p pn (x.stepP pn (immVal imm).toInt))])))
  ∧ (∀ (t : Fin 32) (pn : Fin 8) (s : State), s.canIssue t false 4 → ∃ u, exec (.paddm t pn) s = .next u ∧ s.issued u t 4 1 (fun x => x.queue ([(1, .p pn (x.stepP pn (x.rm pn).toInt))])))
  ∧ (∀ (t : Fin 32) (pn : Fin 8) (imm : EImm) (s : State), s.canIssue t false (immSize imm) → ∃ u, exec (.paddl t pn imm) s = .next u ∧ s.issued u t (immSize imm) 1 (fun x => x.queue ([(1, .p pn (BitVec.ofInt 40 ((x.rp pn).toNat + (immVal imm).toInt)))])))
  ∧ (∀ (t : Fin 32) (s : State), s.canIssue t false 4 → ∃ u, exec (.reti t) s = .next u ∧ s.issued u t 4 1 (fun x => { x with br := some { left := 2, target := some x.ipc.toNat, reti := true } }))
  ∧ (∀ (t : Fin 32) (n : Fin 4096) (s : State), s.canIssue t false 4 → ∃ u, exec (.rptImm t n) s = .next u ∧ s.issued u t 4 1 (fun x => { x with rep := some (n.val + 1) }))
  ∧ (∀ (t : Fin 32) (dn : Fin 16) (s : State), s.canIssue t false 4 → ∃ u, exec (.rptReg t dn) s = .next u ∧ s.issued u t 4 1 (fun x => { x with rep := some (getBits ((x.rd dn).setWidth 32) 0 12 + 1) }))
  ∧ (∀ (t : Fin 32) (s : State), s.canIssue t false 4 → ∃ u, exec (.ei t) s = .next u ∧ s.issued u t 4 1 (fun x => x.queue [(1, .sr 0x40 0x40)]))
  ∧ (∀ (t : Fin 32) (s : State), s.canIssue t false 4 → ∃ u, exec (.di t) s = .next u ∧ s.issued u t 4 1 (fun x => x.queue [(1, .sr 0x40 0)]))
  ∧ (∀ (t : Fin 32) (s : State), s.canIssue t false 4 → ∃ u, exec (.clrst t) s = .next u ∧ s.issued u t 4 1 (fun x => x.queue [(1, .sr 0x30 0)]))
  ∧ (∀ (t : Fin 32) (k : Fin 4) (s : State), s.canIssue t false 4 → ∃ u, exec (.setrnd t k) s = .next u ∧ s.issued u t 4 1 (fun x => x.queue [(1, .sr 0x300 (BitVec.ofNat 32 (256 * k.val)))]))
  ∧ (∀ (t : Fin 32) (cc : Fin 16) (off : BitVec 16) (s : State), s.canIssue t false 4 → ¬(13 ≤ cc.val) → ∃ u, exec (.bCc t cc off) s = .next u ∧ s.issued u t 4 1 (fun x => x.branch 2 (if condHolds x.sr cc then some (x.rel off 4) else none) false none))
  ∧ (∀ (t : Fin 32) (off : BitVec 16) (s : State), s.canIssue t false 4 → ∃ u, exec (.call t off) s = .next u ∧ s.issued u t 4 1 (fun x => x.branch 2 (some (x.rel off 4)) false (some false)))
  ∧ (∀ (t : Fin 32) (pn : Fin 8) (s : State), s.canIssue t false 4 → ∃ u, exec (.jmp t pn) s = .next u ∧ s.issued u t 4 1 (fun x => x.branch 2 (some (x.rp pn).toNat) false none))
  ∧ (∀ (t : Fin 32) (pn : Fin 8) (s : State), s.canIssue t false 4 → ∃ u, exec (.callr t pn) s = .next u ∧ s.issued u t 4 1 (fun x => x.branch 2 (some (x.rp pn).toNat) false (some false)))
  ∧ (∀ (t : Fin 32) (s : State), s.canIssue t false 4 → ∃ u, exec (.ret t) s = .next u ∧ s.issued u t 4 1 (fun x => x.branch 2 (some x.lr.toNat) false none))
  ∧ (∀ (t : Fin 32) (dn : Fin 16) (off : BitVec 16) (s : State), s.canIssue t false 4 → ∃ u, exec (.dbnz t dn off) s = .next u ∧ s.issued u t 4 1 (fun x => let v := x.rd dn - 1; (x.queue [(1, .d dn v)]).branch 2 (if v = 0 then none else some (x.rel off 4)) false none))
  ∧ (∀ (t : Fin 32) (off : BitVec 16) (s : State), s.canIssue t false 4 → ∃ u, exec (.mxcall t off) s = .next u ∧ s.issued u t 4 1 (fun x => x.branch 2 (some (x.rel off 2)) true (some true)))

/-- For every tile t and operands, in every state in which t can issue the instruction in native mode (canIssue: it runs a task, is not frozen, its fetch makes no fault, no delay slot or repeat is open): the next state has on t the writes named below in the pipeline with their latency in cycles, the program counter behind the instruction and the pipeline moved on by its cycles, and nothing else changed. On registers: each queues the result and the flags of its operation on the 24-bit registers ds and dt (aluRes 24, with the operation's code of R322, the saturation bit where the instruction has one, and the carry), into dd with latency 1; cmp writes flags alone. The operations are, by code: add 0, sub 1, cmp 2, neg 3, abs 4, min 5, max 6, and 7, or 8, xor 9, not 10, asl 11, asr 12, lsr 13, addc 14, subc 15. addi, cmpi, andi, ori, xori: the result and flags of the operation on dd and the immediate (aluRes 24). asli, asri, lsri: of the shift of dd by the count; the long form takes 8 bytes. mvr: an rounded at bit 23 under sr's mode and narrowed to 24 bits. acs, acsn: the writes of the add-compare-select (acsWrites, the larger or the smaller sum); acs2, acs2n with an even dd: those of the pair (acs2Writes). (Drawn from R288, R312, R313, R322, R323, R324, R287, R325, R330.) (08_ember_programming_model.md, 09_ember_instruction_reference.md) -/
def Obligations.EmberAluComplete : Prop :=
  (∀ (t : Fin 32) (sat : Bool) (dd ds dt : Fin 16) (s : State), s.canIssue t false 4 → ∃ u, exec (.add t sat dd ds dt) s = .next u ∧ s.issued u t 4 1 (fun x => x.queue ((aluRes 24 0 sat (x.rd ds) (x.rd dt) x.carry).writes sat 1 (.d dd))))
  ∧ (∀ (t : Fin 32) (sat : Bool) (dd ds dt : Fin 16) (s : State), s.canIssue t false 4 → ∃ u, exec (.sub t sat dd ds dt) s = .next u ∧ s.issued u t 4 1 (fun x => x.queue ((aluRes 24 1 sat (x.rd ds) (x.rd dt) x.carry).writes sat 1 (.d dd))))
  ∧ (∀ (t : Fin 32) (sat : Bool) (ds dt : Fin 16) (s : State), s.canIssue t false 4 → ∃ u, exec (.cmp t sat ds dt) s = .next u ∧ s.issued u t 4 1 (fun x => x.queue ((aluRes 24 2 sat (x.rd ds) (x.rd dt) x.carry).writes sat 1 (.d 0))))
  ∧ (∀ (t : Fin 32) (sat : Bool) (dd ds : Fin 16) (s : State), s.canIssue t false 4 → ∃ u, exec (.neg t sat dd ds) s = .next u ∧ s.issued u t 4 1 (fun x => x.queue ((aluRes 24 3 sat (x.rd ds) (0) x.carry).writes sat 1 (.d dd))))
  ∧ (∀ (t : Fin 32) (sat : Bool) (dd ds : Fin 16) (s : State), s.canIssue t false 4 → ∃ u, exec (.abs t sat dd ds) s = .next u ∧ s.issued u t 4 1 (fun x => x.queue ((aluRes 24 4 sat (x.rd ds) (0) x.carry).writes sat 1 (.d dd))))
  ∧ (∀ (t : Fin 32) (dd ds dt : Fin 16) (s : State), s.canIssue t false 4 → ∃ u, exec (.min t dd ds dt) s = .next u ∧ s.issued u t 4 1 (fun x => x.queue ((aluRes 24 5 false (x.rd ds) (x.rd dt) x.carry).writes false 1 (.d dd))))
  ∧ (∀ (t : Fin 32) (dd ds dt : Fin 16) (s : State), s.canIssue t false 4 → ∃ u, exec (.max t dd ds dt) s = .next u ∧ s.issued u t 4 1 (fun x => x.queue ((aluRes 24 6 false (x.rd ds) (x.rd dt) x.carry).writes false 1 (.d dd))))
  ∧ (∀ (t : Fin 32) (dd ds dt : Fin 16) (s : State), s.canIssue t false 4 → ∃ u, exec (.and t dd ds dt) s = .next u ∧ s.issued u t 4 1 (fun x => x.queue ((aluRes 24 7 false (x.rd ds) (x.rd dt) x.carry).writes false 1 (.d dd))))
  ∧ (∀ (t : Fin 32) (dd ds dt : Fin 16) (s : State), s.canIssue t false 4 → ∃ u, exec (.or t dd ds dt) s = .next u ∧ s.issued u t 4 1 (fun x => x.queue ((aluRes 24 8 false (x.rd ds) (x.rd dt) x.carry).writes false 1 (.d dd))))
  ∧ (∀ (t : Fin 32) (dd ds dt : Fin 16) (s : State), s.canIssue t false 4 → ∃ u, exec (.xor t dd ds dt) s = .next u ∧ s.issued u t 4 1 (fun x => x.queue ((aluRes 24 9 false (x.rd ds) (x.rd dt) x.carry).writes false 1 (.d dd))))
  ∧ (∀ (t : Fin 32) (dd ds : Fin 16) (s : State), s.canIssue t false 4 → ∃ u, exec (.not t dd ds) s = .next u ∧ s.issued u t 4 1 (fun x => x.queue ((aluRes 24 10 false (x.rd ds) (0) x.carry).writes false 1 (.d dd))))
  ∧ (∀ (t : Fin 32) (sat : Bool) (dd ds dt : Fin 16) (s : State), s.canIssue t false 4 → ∃ u, exec (.asl t sat dd ds dt) s = .next u ∧ s.issued u t 4 1 (fun x => x.queue ((aluRes 24 11 sat (x.rd ds) (x.rd dt) x.carry).writes sat 1 (.d dd))))
  ∧ (∀ (t : Fin 32) (dd ds dt : Fin 16) (s : State), s.canIssue t false 4 → ∃ u, exec (.asr t dd ds dt) s = .next u ∧ s.issued u t 4 1 (fun x => x.queue ((aluRes 24 12 false (x.rd ds) (x.rd dt) x.carry).writes false 1 (.d dd))))
  ∧ (∀ (t : Fin 32) (dd ds dt : Fin 16) (s : State), s.canIssue t false 4 → ∃ u, exec (.lsr t dd ds dt) s = .next u ∧ s.issued u t 4 1 (fun x => x.queue ((aluRes 24 13 false (x.rd ds) (x.rd dt) x.carry).writes false 1 (.d dd))))
  ∧ (∀ (t : Fin 32) (sat : Bool) (dd ds dt : Fin 16) (s : State), s.canIssue t false 4 → ∃ u, exec (.addc t sat dd ds dt) s = .next u ∧ s.issued u t 4 1 (fun x => x.queue ((aluRes 24 14 sat (x.rd ds) (x.rd dt) x.carry).writes sat 1 (.d dd))))
  ∧ (∀ (t : Fin 32) (sat : Bool) (dd ds dt : Fin 16) (s : State), s.canIssue t false 4 → ∃ u, exec (.subc t sat dd ds dt) s = .next u ∧ s.issued u t 4 1 (fun x => x.queue ((aluRes 24 15 sat (x.rd ds) (x.rd dt) x.carry).writes sat 1 (.d dd))))
  ∧ (∀ (t : Fin 32) (sat : Bool) (dd : Fin 16) (imm : EImm) (s : State), s.canIssue t false (immSize imm) → ∃ u, exec (.addi t sat dd imm) s = .next u ∧ s.issued u t (immSize imm) 1 (fun x => x.queue ((aluRes 24 0 sat (x.rd dd) (immVal imm) x.carry).writes sat 1 (.d dd))))
  ∧ (∀ (t : Fin 32) (sat : Bool) (dd : Fin 16) (imm : EImm) (s : State), s.canIssue t false (immSize imm) → ∃ u, exec (.cmpi t sat dd imm) s = .next u ∧ s.issued u t (immSize imm) 1 (fun x => x.queue ((aluRes 24 2 sat (x.rd dd) (immVal imm) x.carry).writes sat 1 (.d dd))))
  ∧ (∀ (t : Fin 32) (dd : Fin 16) (imm : EImm) (s : State), s.canIssue t false (immSize imm) → ∃ u, exec (.andi t dd imm) s = .next u ∧ s.issued u t (immSize imm) 1 (fun x => x.queue ((aluRes 24 7 false (x.rd dd) (immVal imm) x.carry).writes false 1 (.d dd))))
  ∧ (∀ (t : Fin 32) (dd : Fin 16) (imm : EImm) (s : State), s.canIssue t false (immSize imm) → ∃ u, exec (.ori t dd imm) s = .next u ∧ s.issued u t (immSize imm) 1 (fun x => x.queue ((aluRes 24 8 false (x.rd dd) (immVal imm) x.carry).writes false 1 (.d dd))))
  ∧ (∀ (t : Fin 32) (dd : Fin 16) (imm : EImm) (s : State), s.canIssue t false (immSize imm) → ∃ u, exec (.xori t dd imm) s = .next u ∧ s.issued u t (immSize imm) 1 (fun x => x.queue ((aluRes 24 9 false (x.rd dd) (immVal imm) x.carry).writes false 1 (.d dd))))
  ∧ (∀ (t : Fin 32) (sat : Bool) (dd : Fin 16) (xo : Bool) (k : Fin 32) (s : State), s.canIssue t false (if xo then 8 else 4) → ∃ u, exec (.asli t sat dd xo k) s = .next u ∧ s.issued u t (if xo then 8 else 4) 1 (fun x => x.queue ((aluRes 24 11 sat (x.rd dd) (BitVec.ofNat 24 k.val) x.carry).writes sat 1 (.d dd))))
  ∧ (∀ (t : Fin 32) (dd : Fin 16) (xo : Bool) (k : Fin 32) (s : State), s.canIssue t false (if xo then 8 else 4) → ∃ u, exec (.asri t dd xo k) s = .next u ∧ s.issued u t (if xo then 8 else 4) 1 (fun x => x.queue ((aluRes 24 12 false (x.rd dd) (BitVec.ofNat 24 k.val) x.carry).writes false 1 (.d dd))))
  ∧ (∀ (t : Fin 32) (dd : Fin 16) (xo : Bool) (k : Fin 32) (s : State), s.canIssue t false (if xo then 8 else 4) → ∃ u, exec (.lsri t dd xo k) s = .next u ∧ s.issued u t (if xo then 8 else 4) 1 (fun x => x.queue ((aluRes 24 13 false (x.rd dd) (BitVec.ofNat 24 k.val) x.carry).writes false 1 (.d dd))))
  ∧ (∀ (t : Fin 32) (sat : Bool) (dn : Fin 16) (as_ : Fin 4) (s : State), s.canIssue t false 4 → ∃ u, exec (.mvr t sat dn as_) s = .next u ∧ s.issued u t 4 1 (fun x => x.queue ((resOf (narrow 24 sat (roundBits x.rnd 23 (x.ra as_).toInt)) none).writes sat 1 (.d dn))))
  ∧ (∀ (t : Fin 32) (sat : Bool) (dd ds dt du : Fin 16) (s : State), s.canIssue t false 4 → ∃ u, exec (.acs t sat dd ds dt du) s = .next u ∧ s.issued u t 4 1 (fun x => x.queue (acsWrites x true sat dd ds dt du)))
  ∧ (∀ (t : Fin 32) (sat : Bool) (dd ds dt du : Fin 16) (s : State), s.canIssue t false 4 → ∃ u, exec (.acsn t sat dd ds dt du) s = .next u ∧ s.issued u t 4 1 (fun x => x.queue (acsWrites x false sat dd ds dt du)))
  ∧ (∀ (t : Fin 32) (sat : Bool) (dd ds dt du : Fin 16) (s : State), s.canIssue t false 4 → ¬(dd.val % 2 = 1) → ∃ u, exec (.acs2 t sat dd ds dt du) s = .next u ∧ s.issued u t 4 1 (fun x => x.queue (acs2Writes x true sat dd ds dt du)))
  ∧ (∀ (t : Fin 32) (sat : Bool) (dd ds dt du : Fin 16) (s : State), s.canIssue t false 4 → ¬(dd.val % 2 = 1) → ∃ u, exec (.acs2n t sat dd ds dt du) s = .next u ∧ s.issued u t 4 1 (fun x => x.queue (acs2Writes x false sat dd ds dt du)))

/-- For every tile t and operands, in every state in which t can issue the instruction in native mode (canIssue: it runs a task, is not frozen, its fetch makes no fault, no delay slot or repeat is open): the next state has on t the writes named below in the pipeline with their latency in cycles, the program counter behind the instruction and the pipeline moved on by its cycles, and nothing else changed. adda, suba: the 56-bit sum and difference of aD and aS into aD. nega, absa: the negative and the magnitude of aS. asla, asra with a count below 56: aS shifted. cmpa: the flags of aD less aS. rnda: aS rounded at bit 23 under sr's mode. Each with the saturation bit where the instruction has one, latency 1. mpy, mac, msu: the product of ds and dt alone, added to, taken from the accumulator aD (MemAct.mul on one lane). mpyr: the product rounded at bit 23 and narrowed to 24 bits into dd, latency 3. dmac with an even ds: the lanes of its form (dmacLanes) on ds, ds + 1 and dt, added or, in the multiplying form, alone. qmac: its four lanes (qmacLanes) on the quad g and dt, likewise. (Drawn from R287, R288, R312, R325, R326, R327, R328, R329.) (08_ember_programming_model.md, 09_ember_instruction_reference.md) -/
def Obligations.EmberAccumulatorAndMultiplyComplete : Prop :=
  (∀ (t : Fin 32) (sat : Bool) (ad as_ : Fin 4) (s : State), s.canIssue t false 4 → ∃ u, exec (.adda t sat ad as_) s = .next u ∧ s.issued u t 4 1 (fun x => x.queue ((addRes 56 sat (x.ra ad) (x.ra as_) false).writes sat 1 (.a ad))))
  ∧ (∀ (t : Fin 32) (sat : Bool) (ad as_ : Fin 4) (s : State), s.canIssue t false 4 → ∃ u, exec (.suba t sat ad as_) s = .next u ∧ s.issued u t 4 1 (fun x => x.queue ((subRes 56 sat (x.ra ad) (x.ra as_) false).writes sat 1 (.a ad))))
  ∧ (∀ (t : Fin 32) (sat : Bool) (ad as_ : Fin 4) (s : State), s.canIssue t false 4 → ∃ u, exec (.nega t sat ad as_) s = .next u ∧ s.issued u t 4 1 (fun x => x.queue ((negRes 56 sat (x.ra as_)).writes sat 1 (.a ad))))
  ∧ (∀ (t : Fin 32) (sat : Bool) (ad as_ : Fin 4) (s : State), s.canIssue t false 4 → ∃ u, exec (.absa t sat ad as_) s = .next u ∧ s.issued u t 4 1 (fun x => x.queue ((absRes 56 sat (x.ra as_)).writes sat 1 (.a ad))))
  ∧ (∀ (t : Fin 32) (sat : Bool) (ad as_ : Fin 4) (k : Fin 64) (s : State), s.canIssue t false 4 → ¬(56 ≤ k.val) → ∃ u, exec (.asla t sat ad as_ k) s = .next u ∧ s.issued u t 4 1 (fun x => x.queue ((aslRes 56 sat (x.ra as_) k.val).writes sat 1 (.a ad))))
  ∧ (∀ (t : Fin 32) (ad as_ : Fin 4) (k : Fin 64) (s : State), s.canIssue t false 4 → ¬(56 ≤ k.val) → ∃ u, exec (.asra t ad as_ k) s = .next u ∧ s.issued u t 4 1 (fun x => x.queue ((asrRes 56 (x.ra as_) k.val).writes false 1 (.a ad))))
  ∧ (∀ (t : Fin 32) (sat : Bool) (ad as_ : Fin 4) (s : State), s.canIssue t false 4 → ∃ u, exec (.cmpa t sat ad as_) s = .next u ∧ s.issued u t 4 1 (fun x => x.queue ((cmpRes 56 sat (x.ra ad) (x.ra as_)).writes sat 1 (.a ad))))
  ∧ (∀ (t : Fin 32) (sat : Bool) (ad as_ : Fin 4) (s : State), s.canIssue t false 4 → ∃ u, exec (.rnda t sat ad as_) s = .next u ∧ s.issued u t 4 1 (fun x => x.queue ((resOf (narrow 56 sat (roundBits x.rnd 23 (x.ra as_).toInt * 2 ^ 23)) none).writes sat 1 (.a ad))))
  ∧ (∀ (t : Fin 32) (sat : Bool) (ad : Fin 4) (ds dt : Fin 16) (s : State), s.canIssue t false 4 → ∃ u, exec (.mpy t sat ad ds dt) s = .next u ∧ s.issued u t 4 1 (fun x => x.queue ((MemAct.mul .mpy sat [(ad, 0, false)]).writes x 1 ([wordOfD (x.rd ds)]) [wordOfD (x.rd dt)])))
  ∧ (∀ (t : Fin 32) (sat : Bool) (ad : Fin 4) (ds dt : Fin 16) (s : State), s.canIssue t false 4 → ∃ u, exec (.mac t sat ad ds dt) s = .next u ∧ s.issued u t 4 1 (fun x => x.queue ((MemAct.mul .mac sat [(ad, 0, false)]).writes x 1 ([wordOfD (x.rd ds)]) [wordOfD (x.rd dt)])))
  ∧ (∀ (t : Fin 32) (sat : Bool) (ad : Fin 4) (ds dt : Fin 16) (s : State), s.canIssue t false 4 → ∃ u, exec (.msu t sat ad ds dt) s = .next u ∧ s.issued u t 4 1 (fun x => x.queue ((MemAct.mul .msu sat [(ad, 0, false)]).writes x 1 ([wordOfD (x.rd ds)]) [wordOfD (x.rd dt)])))
  ∧ (∀ (t : Fin 32) (sat : Bool) (dd ds dt : Fin 16) (s : State), s.canIssue t false 4 → ∃ u, exec (.mpyr t sat dd ds dt) s = .next u ∧ s.issued u t 4 1 (fun x => x.queue (let r := narrow 24 sat (roundBits x.rnd 23 ((x.rd ds).toInt * (x.rd dt).toInt)); [(3, .d dd r.1)] ++ ovfWrites 3 sat r.2)))
  ∧ (∀ (t : Fin 32) (sat : Bool) (p sw neg1 neg0 : Bool) (ds dt : Fin 16) (s : State), s.canIssue t false 4 → ¬(ds.val % 2 = 1) → ∃ u, exec (.dmacReg t sat p sw neg1 neg0 ds dt) s = .next u ∧ s.issued u t 4 1 (fun x => x.queue ((MemAct.mul .mac sat (dmacLanes p sw neg1 neg0)).writes x 1 [wordOfD (x.rd ds), wordOfD (x.rd (ds + 1))] [wordOfD (x.rd dt)])))
  ∧ (∀ (t : Fin 32) (sat : Bool) (p sw neg1 neg0 : Bool) (ds dt : Fin 16) (s : State), s.canIssue t false 4 → ¬(ds.val % 2 = 1) → ∃ u, exec (.dmacMulReg t sat p sw neg1 neg0 ds dt) s = .next u ∧ s.issued u t 4 1 (fun x => x.queue ((MemAct.mul .mpy sat (dmacLanes p sw neg1 neg0)).writes x 1 [wordOfD (x.rd ds), wordOfD (x.rd (ds + 1))] [wordOfD (x.rd dt)])))
  ∧ (∀ (t : Fin 32) (sat : Bool) (neg : BitVec 4) (g : Fin 4) (dt : Fin 16) (s : State), s.canIssue t false 4 → ∃ u, exec (.qmacReg t sat neg g dt) s = .next u ∧ s.issued u t 4 1 (fun x => x.queue ((MemAct.mul .mac sat (qmacLanes neg)).writes x 1 (x.quad g) [wordOfD (x.rd dt)])))
  ∧ (∀ (t : Fin 32) (sat : Bool) (neg : BitVec 4) (g : Fin 4) (dt : Fin 16) (s : State), s.canIssue t false 4 → ∃ u, exec (.qmacMulReg t sat neg g dt) s = .next u ∧ s.issued u t 4 1 (fun x => x.queue ((MemAct.mul .mpy sat (qmacLanes neg)).writes x 1 (x.quad g) [wordOfD (x.rd dt)])))

/-- For every tile t and operands, in every state in which t can issue the instruction in native mode (canIssue: it runs a task, is not frozen, its fetch makes no fault, no delay slot or repeat is open) and the operands lie in the tile's own memory without a fault (reaches): the next state has on t the writes named below in the pipeline with their latency in cycles, the program counter behind the instruction and the pipeline moved on by its cycles, and nothing else changed. The pointer updates of the X and the Y operand, and then: mpy, mac, msu: the product of the two words alone, added to, taken from the accumulator. dmac: its lanes on the two X words and the Y word; qmac: on the four X words and the Y word; added or, in the multiplying form, alone (MemAct.mul). The pointer update of each operand, and then: ld, ldl, ldm: the word at the address into dn, ln, mn. ldd: the two words into an, pn, bn. ldq: the four words into the quad g. ld2: the X word and the Y word into the registers of pair k (MemAct.load, load2). (Drawn from R309, R310, R326, R327, R328, R329, R279, R290, R293, R308, R318, R319.) (08_ember_programming_model.md, 09_ember_instruction_reference.md) -/
def Obligations.EmberMemoryReadsComplete : Prop :=
  (∀ (t : Fin 32) (sat : Bool) (ad : Fin 4) (y xo : EShort) (s : State), s.canIssue t false 4 → s.reaches t ((s.tile t).saddr false xo) 1 true → s.reaches t ((s.tile t).saddr true y) 1 true → ∃ u, exec (.mpyMem t sat ad y xo) s = .next u ∧ s.issued u t 4 1 (fun x => (x.queue (((s.tile t).saddr false xo).writes ++ ((s.tile t).saddr true y).writes)).queue ((MemAct.mul .mpy sat [(ad, 0, false)]).writes x 1 (s.operand t ((s.tile t).saddr false xo) 1) (s.operand t ((s.tile t).saddr true y) 1))))
  ∧ (∀ (t : Fin 32) (sat : Bool) (ad : Fin 4) (y xo : EShort) (s : State), s.canIssue t false 4 → s.reaches t ((s.tile t).saddr false xo) 1 true → s.reaches t ((s.tile t).saddr true y) 1 true → ∃ u, exec (.macMem t sat ad y xo) s = .next u ∧ s.issued u t 4 1 (fun x => (x.queue (((s.tile t).saddr false xo).writes ++ ((s.tile t).saddr true y).writes)).queue ((MemAct.mul .mac sat [(ad, 0, false)]).writes x 1 (s.operand t ((s.tile t).saddr false xo) 1) (s.operand t ((s.tile t).saddr true y) 1))))
  ∧ (∀ (t : Fin 32) (sat : Bool) (ad : Fin 4) (y xo : EShort) (s : State), s.canIssue t false 4 → s.reaches t ((s.tile t).saddr false xo) 1 true → s.reaches t ((s.tile t).saddr true y) 1 true → ∃ u, exec (.msuMem t sat ad y xo) s = .next u ∧ s.issued u t 4 1 (fun x => (x.queue (((s.tile t).saddr false xo).writes ++ ((s.tile t).saddr true y).writes)).queue ((MemAct.mul .msu sat [(ad, 0, false)]).writes x 1 (s.operand t ((s.tile t).saddr false xo) 1) (s.operand t ((s.tile t).saddr true y) 1))))
  ∧ (∀ (t : Fin 32) (sat : Bool) (p sw neg1 neg0 : Bool) (y xo : EShort) (s : State), s.canIssue t false 4 → s.reaches t ((s.tile t).saddr false xo) 2 true → s.reaches t ((s.tile t).saddr true y) 1 true → ∃ u, exec (.dmacMem t sat p sw neg1 neg0 y xo) s = .next u ∧ s.issued u t 4 1 (fun x => (x.queue (((s.tile t).saddr false xo).writes ++ ((s.tile t).saddr true y).writes)).queue ((MemAct.mul .mac sat (dmacLanes p sw neg1 neg0)).writes x 1 (s.operand t ((s.tile t).saddr false xo) 2) (s.operand t ((s.tile t).saddr true y) 1))))
  ∧ (∀ (t : Fin 32) (sat : Bool) (p sw neg1 neg0 : Bool) (y xo : EShort) (s : State), s.canIssue t false 4 → s.reaches t ((s.tile t).saddr false xo) 2 true → s.reaches t ((s.tile t).saddr true y) 1 true → ∃ u, exec (.dmacMulMem t sat p sw neg1 neg0 y xo) s = .next u ∧ s.issued u t 4 1 (fun x => (x.queue (((s.tile t).saddr false xo).writes ++ ((s.tile t).saddr true y).writes)).queue ((MemAct.mul .mpy sat (dmacLanes p sw neg1 neg0)).writes x 1 (s.operand t ((s.tile t).saddr false xo) 2) (s.operand t ((s.tile t).saddr true y) 1))))
  ∧ (∀ (t : Fin 32) (sat : Bool) (neg : BitVec 4) (y xo : EShort) (s : State), s.canIssue t false 4 → s.reaches t ((s.tile t).saddr false xo) 4 true → s.reaches t ((s.tile t).saddr true y) 1 true → ∃ u, exec (.qmacMem t sat neg y xo) s = .next u ∧ s.issued u t 4 1 (fun x => (x.queue (((s.tile t).saddr false xo).writes ++ ((s.tile t).saddr true y).writes)).queue ((MemAct.mul .mac sat (qmacLanes neg)).writes x 1 (s.operand t ((s.tile t).saddr false xo) 4) (s.operand t ((s.tile t).saddr true y) 1))))
  ∧ (∀ (t : Fin 32) (sat : Bool) (neg : BitVec 4) (y xo : EShort) (s : State), s.canIssue t false 4 → s.reaches t ((s.tile t).saddr false xo) 4 true → s.reaches t ((s.tile t).saddr true y) 1 true → ∃ u, exec (.qmacMulMem t sat neg y xo) s = .next u ∧ s.issued u t 4 1 (fun x => (x.queue (((s.tile t).saddr false xo).writes ++ ((s.tile t).saddr true y).writes)).queue ((MemAct.mul .mpy sat (qmacLanes neg)).writes x 1 (s.operand t ((s.tile t).saddr false xo) 4) (s.operand t ((s.tile t).saddr true y) 1))))
  ∧ (∀ (t : Fin 32) (dn : Fin 16) (m : EMem) (s : State), s.canIssue t false (memSize m) → s.reaches t ((s.tile t).eaddr m) 1 true → ∃ u, exec (.ld t dn m) s = .next u ∧ s.issued u t (memSize m) 1 (fun x => (x.queue (((s.tile t).eaddr m).writes)).queue ((MemAct.load (.d dn)).writes x 1 (s.operand t ((s.tile t).eaddr m) 1) [])))
  ∧ (∀ (t : Fin 32) (an : Fin 4) (m : EMem) (s : State), s.canIssue t false (memSize m) → s.reaches t ((s.tile t).eaddr m) 2 true → ∃ u, exec (.lddA t an m) s = .next u ∧ s.issued u t (memSize m) 1 (fun x => (x.queue (((s.tile t).eaddr m).writes)).queue ((MemAct.load (.a an)).writes x 1 (s.operand t ((s.tile t).eaddr m) 2) [])))
  ∧ (∀ (t : Fin 32) (g : Fin 4) (m : EMem) (s : State), s.canIssue t false (memSize m) → s.reaches t ((s.tile t).eaddr m) 4 true → ∃ u, exec (.ldq t g m) s = .next u ∧ s.issued u t (memSize m) 1 (fun x => (x.queue (((s.tile t).eaddr m).writes)).queue ((MemAct.load (.q g)).writes x 1 (s.operand t ((s.tile t).eaddr m) 4) [])))
  ∧ (∀ (t : Fin 32) (pn : Fin 8) (m : EMem) (s : State), s.canIssue t false (memSize m) → s.reaches t ((s.tile t).eaddr m) 2 true → ∃ u, exec (.lddP t pn m) s = .next u ∧ s.issued u t (memSize m) 1 (fun x => (x.queue (((s.tile t).eaddr m).writes)).queue ((MemAct.load (.p pn)).writes x 1 (s.operand t ((s.tile t).eaddr m) 2) [])))
  ∧ (∀ (t : Fin 32) (bn : Fin 8) (m : EMem) (s : State), s.canIssue t false (memSize m) → s.reaches t ((s.tile t).eaddr m) 2 true → ∃ u, exec (.lddB t bn m) s = .next u ∧ s.issued u t (memSize m) 1 (fun x => (x.queue (((s.tile t).eaddr m).writes)).queue ((MemAct.load (.b bn)).writes x 1 (s.operand t ((s.tile t).eaddr m) 2) [])))
  ∧ (∀ (t : Fin 32) (ln : Fin 8) (m : EMem) (s : State), s.canIssue t false (memSize m) → s.reaches t ((s.tile t).eaddr m) 1 true → ∃ u, exec (.ldL t ln m) s = .next u ∧ s.issued u t (memSize m) 1 (fun x => (x.queue (((s.tile t).eaddr m).writes)).queue ((MemAct.load (.l ln)).writes x 1 (s.operand t ((s.tile t).eaddr m) 1) [])))
  ∧ (∀ (t : Fin 32) (mn : Fin 8) (m : EMem) (s : State), s.canIssue t false (memSize m) → s.reaches t ((s.tile t).eaddr m) 1 true → ∃ u, exec (.ldM t mn m) s = .next u ∧ s.issued u t (memSize m) 1 (fun x => (x.queue (((s.tile t).eaddr m).writes)).queue ((MemAct.load (.m mn)).writes x 1 (s.operand t ((s.tile t).eaddr m) 1) [])))
  ∧ (∀ (t : Fin 32) (k : Fin 8) (xo : EShort) (y : EShort) (s : State), s.canIssue t false 4 → s.reaches t ((s.tile t).saddr false xo) 1 true → s.reaches t ((s.tile t).saddr true y) 1 true → ∃ u, exec (.ld2 t k xo y) s = .next u ∧ s.issued u t 4 1 (fun x => (x.queue (((s.tile t).saddr false xo).writes ++ ((s.tile t).saddr true y).writes)).queue ((MemAct.load2 k).writes x 1 (s.operand t ((s.tile t).saddr false xo) 1) (s.operand t ((s.tile t).saddr true y) 1))))

/-- For every tile t and operands, in every state in which t can issue the instruction in native mode (canIssue: it runs a task, is not frozen, its fetch makes no fault, no delay slot or repeat is open) and the words stored lie in the tile's own memory without a fault (reaches), the next state is as issuedStore says: in a memory in its one form and where no two of the words overlap, each word stands at its address (that of the operand, wordAddrs) in the tile and, while the other plane takes a transfer, in the tile of the same number there; every byte outside the stored words reads as before; of the tile only the pointer update, the errors cleared by the store, the program counter and the pipeline have changed, of the other tile only the errors cleared. The words: st: dn sign-extended; std: the two words of an, pn, bn; stq: the four of the quad g; stl: ln zero-extended; stm: mn sign-extended. (Drawn from R279, R308, R310, R311, R318.) (08_ember_programming_model.md, 09_ember_instruction_reference.md) -/
def Obligations.EmberStoresComplete : Prop :=
  (∀ (t : Fin 32) (dn : Fin 16) (m : EMem) (s : State), s.canIssue t false (memSize m) → s.reaches t ((s.tile t).eaddr m) (List.length ([wordOfD ((s.tile t).rd dn)])) false → ∃ u, exec (.st t dn m) s = .next u ∧ s.issuedStore u t (memSize m) 1 ((s.tile t).eaddr m) ([wordOfD ((s.tile t).rd dn)]))
  ∧ (∀ (t : Fin 32) (an : Fin 4) (m : EMem) (s : State), s.canIssue t false (memSize m) → s.reaches t ((s.tile t).eaddr m) (List.length (wordsOfA ((s.tile t).ra an))) false → ∃ u, exec (.stdA t an m) s = .next u ∧ s.issuedStore u t (memSize m) 1 ((s.tile t).eaddr m) (wordsOfA ((s.tile t).ra an)))
  ∧ (∀ (t : Fin 32) (g : Fin 4) (m : EMem) (s : State), s.canIssue t false (memSize m) → s.reaches t ((s.tile t).eaddr m) (List.length ((s.tile t).quad g)) false → ∃ u, exec (.stq t g m) s = .next u ∧ s.issuedStore u t (memSize m) 1 ((s.tile t).eaddr m) ((s.tile t).quad g))
  ∧ (∀ (t : Fin 32) (pn : Fin 8) (m : EMem) (s : State), s.canIssue t false (memSize m) → s.reaches t ((s.tile t).eaddr m) (List.length (wordsOfP ((s.tile t).rp pn))) false → ∃ u, exec (.stdP t pn m) s = .next u ∧ s.issuedStore u t (memSize m) 1 ((s.tile t).eaddr m) (wordsOfP ((s.tile t).rp pn)))
  ∧ (∀ (t : Fin 32) (bn : Fin 8) (m : EMem) (s : State), s.canIssue t false (memSize m) → s.reaches t ((s.tile t).eaddr m) (List.length (wordsOfP ((s.tile t).rb bn))) false → ∃ u, exec (.stdB t bn m) s = .next u ∧ s.issuedStore u t (memSize m) 1 ((s.tile t).eaddr m) (wordsOfP ((s.tile t).rb bn)))
  ∧ (∀ (t : Fin 32) (ln : Fin 8) (m : EMem) (s : State), s.canIssue t false (memSize m) → s.reaches t ((s.tile t).eaddr m) (List.length ([((s.tile t).rl ln).setWidth 32])) false → ∃ u, exec (.stL t ln m) s = .next u ∧ s.issuedStore u t (memSize m) 1 ((s.tile t).eaddr m) ([((s.tile t).rl ln).setWidth 32]))
  ∧ (∀ (t : Fin 32) (mn : Fin 8) (m : EMem) (s : State), s.canIssue t false (memSize m) → s.reaches t ((s.tile t).eaddr m) (List.length ([wordOfD ((s.tile t).rm mn)])) false → ∃ u, exec (.stM t mn m) s = .next u ∧ s.issuedStore u t (memSize m) 1 ((s.tile t).eaddr m) ([wordOfD ((s.tile t).rm mn)]))

/-- For every tile t and operands, in every state in which t can issue the instruction in MX-16 mode (canIssue: it runs a task, is not frozen, its fetch makes no fault, no delay slot or repeat is open): the next state has on t the writes named below in the pipeline with their latency in cycles, the program counter behind the instruction and the pipeline moved on by its cycles (by the two cycles of a two-word instruction), and nothing else changed. nop: none. ret: to LR one slot ahead, with its bit 0 cleared, in native mode when that bit is 1. rpt: the next instruction n + 1 times, n the immediate or the low 8 bits of the register. ei, di: bit 6 of sr; clampon, clampoff: bit 10; clrs: bits 5 and 4 to 0. Branch with condition 0 to 12: to the pc plus the offset times 2 one slot ahead when it holds. Long branch, call: to program address 2w, the call with the link. Status write: the writable bits of sr from the register. (Drawn from R285, R292, R294, R303, R304, R305, R332.) (08_ember_programming_model.md, 09_ember_instruction_reference.md) -/
def Obligations.MxControlComplete : Prop :=
  (∀ (t : Fin 32) (s : State), s.canIssue t true 2 → ∃ u, exec (.mxNop t) s = .next u ∧ s.issued u t 2 1 (fun x => x.queue ([])))
  ∧ (∀ (t : Fin 32) (s : State), s.canIssue t true 2 → ∃ u, exec (.mxRet t) s = .next u ∧ s.issued u t 2 1 (fun x => x.branch 1 (some ((x.lr &&& 0xFFFFFFFE).toNat)) (!x.lr.getLsbD 0) none))
  ∧ (∀ (t : Fin 32) (n : Fin 256) (s : State), s.canIssue t true 2 → ∃ u, exec (.mxRptImm t n) s = .next u ∧ s.issued u t 2 1 (fun x => { x with rep := some (n.val + 1) }))
  ∧ (∀ (t : Fin 32) (r : Fin 8) (s : State), s.canIssue t true 2 → ∃ u, exec (.mxRptReg t r) s = .next u ∧ s.issued u t 2 1 (fun x => { x with rep := some ((x.rx r).toNat % 256 + 1) }))
  ∧ (∀ (t : Fin 32) (s : State), s.canIssue t true 2 → ∃ u, exec (.mxEi t) s = .next u ∧ s.issued u t 2 1 (fun x => x.queue [(1, .sr 0x40 0x40)]))
  ∧ (∀ (t : Fin 32) (s : State), s.canIssue t true 2 → ∃ u, exec (.mxDi t) s = .next u ∧ s.issued u t 2 1 (fun x => x.queue [(1, .sr 0x40 0)]))
  ∧ (∀ (t : Fin 32) (s : State), s.canIssue t true 2 → ∃ u, exec (.mxClampon t) s = .next u ∧ s.issued u t 2 1 (fun x => x.queue [(1, .sr 0x400 0x400)]))
  ∧ (∀ (t : Fin 32) (s : State), s.canIssue t true 2 → ∃ u, exec (.mxClampoff t) s = .next u ∧ s.issued u t 2 1 (fun x => x.queue [(1, .sr 0x400 0)]))
  ∧ (∀ (t : Fin 32) (s : State), s.canIssue t true 2 → ∃ u, exec (.mxClrs t) s = .next u ∧ s.issued u t 2 1 (fun x => x.queue [(1, .sr 0x30 0)]))
  ∧ (∀ (t : Fin 32) (cc : Fin 16) (off : BitVec 8) (s : State), s.canIssue t true 2 → ¬(13 ≤ cc.val) → ∃ u, exec (.mxBranch t cc off) s = .next u ∧ s.issued u t 2 1 (fun x => x.branch 1 (if condHolds x.sr cc then some (x.rel (off.signExtend 16) 2) else none) true none))
  ∧ (∀ (t : Fin 32) (w : BitVec 16) (s : State), s.canIssue t true 4 → ∃ u, exec (.mxLongBranch t w) s = .next u ∧ s.issued u t 4 2 (fun x => x.branch 1 (some (0x40000 + 2 * w.toNat)) true none))
  ∧ (∀ (t : Fin 32) (w : BitVec 16) (s : State), s.canIssue t true 4 → ∃ u, exec (.mxCall t w) s = .next u ∧ s.issued u t 4 2 (fun x => x.branch 1 (some (0x40000 + 2 * w.toNat)) true (some false)))
  ∧ (∀ (t : Fin 32) (r : Fin 8) (s : State), s.canIssue t true 2 → ∃ u, exec (.mxStatusWrite t r) s = .next u ∧ s.issued u t 2 1 (fun x => x.queue [(1, .sr srMask ((x.rx r).setWidth 32))]))

/-- For every tile t and operands, in every state in which t can issue the instruction in MX-16 mode (canIssue: it runs a task, is not frozen, its fetch makes no fault, no delay slot or repeat is open): the next state has on t the writes named below in the pipeline with their latency in cycles, the program counter behind the instruction and the pipeline moved on by its cycles (by the two cycles of a two-word instruction), and nothing else changed. Data operations: the result and flags of the operation on the 16-bit registers, or on rd and the immediate (aluRes 16, clamping under sr). mpy, mac, msu: the product of rs and rt alone, added to, taken from the accumulator (MemAct.mxMul). mpyr: the product rounded at bit 15 and narrowed to 16 bits. Status read: the low 16 bits of sr. Index load: the pointer = 4w; add: stepped by 4 times the offset (stepP); to r: bits 17 to 2 of the pointer; from r: the pointer = 4 times r. On the 40-bit accumulators: clear; the sum and difference with the other accumulator; the negative and the magnitude; shifts by the count; the value rounded at bit 15 into r; and r times 2^15. Each clamps under sr where its operation can (addRes, subRes, negRes, absRes, aslRes, asrRes, narrow). (Drawn from R303, R304, R332.) (08_ember_programming_model.md, 09_ember_instruction_reference.md) -/
def Obligations.MxAluComplete : Prop :=
  (∀ (t : Fin 32) (op : Fin 16) (rd rs : Fin 8) (s : State), s.canIssue t true 2 → ∃ u, exec (.mxAluReg t op rd rs) s = .next u ∧ s.issued u t 2 1 (fun x => x.queue ((aluRes 16 op x.clamps (x.rx rd) (x.rx rs) x.carry).mx x 1 rd)))
  ∧ (∀ (t : Fin 32) (op : MxImmOp) (rd : Fin 8) (imm : BitVec 16) (s : State), s.canIssue t true 4 → ∃ u, exec (.mxAluImm t op rd imm) s = .next u ∧ s.issued u t 4 2 (fun x => x.queue ((aluRes 16 (mxImmCode op) x.clamps (x.rx rd) imm x.carry).mx x 2 rd)))
  ∧ (∀ (t : Fin 32) (ac : Fin 2) (rs rt : Fin 8) (s : State), s.canIssue t true 2 → ∃ u, exec (.mxMpy t ac rs rt) s = .next u ∧ s.issued u t 2 1 (fun x => x.queue ((MemAct.mxMul .mpy ac).writes x 1 (x.mxWord rs) (x.mxWord rt))))
  ∧ (∀ (t : Fin 32) (ac : Fin 2) (rs rt : Fin 8) (s : State), s.canIssue t true 2 → ∃ u, exec (.mxMac t ac rs rt) s = .next u ∧ s.issued u t 2 1 (fun x => x.queue ((MemAct.mxMul .mac ac).writes x 1 (x.mxWord rs) (x.mxWord rt))))
  ∧ (∀ (t : Fin 32) (ac : Fin 2) (rs rt : Fin 8) (s : State), s.canIssue t true 2 → ∃ u, exec (.mxMsu t ac rs rt) s = .next u ∧ s.issued u t 2 1 (fun x => x.queue ((MemAct.mxMul .msu ac).writes x 1 (x.mxWord rs) (x.mxWord rt))))
  ∧ (∀ (t : Fin 32) (rd rs rt : Fin 8) (s : State), s.canIssue t true 2 → ∃ u, exec (.mxMpyr t rd rs rt) s = .next u ∧ s.issued u t 2 1 (fun x => x.queue (let r := narrow 16 x.clamps (roundBits x.rnd 15 ((x.rx rs).toInt * (x.rx rt).toInt)); [(1, wrx rd r.1)] ++ ovfWrites 1 x.clamps r.2)))
  ∧ (∀ (t : Fin 32) (r : Fin 8) (s : State), s.canIssue t true 2 → ∃ u, exec (.mxStatusRead t r) s = .next u ∧ s.issued u t 2 1 (fun x => x.queue ([(1, wrx r (x.sr.setWidth 16))])))
  ∧ (∀ (t : Fin 32) (xo : Fin 4) (w : BitVec 16) (s : State), s.canIssue t true 4 → ∃ u, exec (.mxIxLoad t xo w) s = .next u ∧ s.issued u t 4 2 (fun x => x.queue ([(2, .p (fin 8 xo.val) (BitVec.ofNat 40 (4 * w.toNat)))])))
  ∧ (∀ (t : Fin 32) (xo : Fin 4) (o : BitVec 8) (s : State), s.canIssue t true 2 → ∃ u, exec (.mxIxAdd t xo o) s = .next u ∧ s.issued u t 2 1 (fun tl => tl.queue ([(1, .p (fin 8 xo.val) (tl.stepP (fin 8 xo.val) (4 * o.toInt)))])))
  ∧ (∀ (t : Fin 32) (xo : Fin 4) (r : Fin 8) (s : State), s.canIssue t true 2 → ∃ u, exec (.mxIxToR t xo r) s = .next u ∧ s.issued u t 2 1 (fun tl => tl.queue ([(1, wrx r ((tl.rp (fin 8 xo.val)).extractLsb' 2 16))])))
  ∧ (∀ (t : Fin 32) (xo : Fin 4) (r : Fin 8) (s : State), s.canIssue t true 2 → ∃ u, exec (.mxRToIx t xo r) s = .next u ∧ s.issued u t 2 1 (fun tl => tl.queue ([(1, .p (fin 8 xo.val) (BitVec.ofNat 40 (4 * (tl.rx r).toNat)))])))
  ∧ (∀ (t : Fin 32) (ac : Fin 2) (s : State), s.canIssue t true 2 → ∃ u, exec (.mxAccClr t ac) s = .next u ∧ s.issued u t 2 1 (fun x => x.queue ([(1, wrax ac 0)])))
  ∧ (∀ (t : Fin 32) (ac : Fin 2) (s : State), s.canIssue t true 2 → ∃ u, exec (.mxAccAdd t ac) s = .next u ∧ s.issued u t 2 1 (fun x => x.queue ((addRes 40 x.clamps (x.rax ac) (x.rax (1 - ac)) false).mxa x ac)))
  ∧ (∀ (t : Fin 32) (ac : Fin 2) (s : State), s.canIssue t true 2 → ∃ u, exec (.mxAccSub t ac) s = .next u ∧ s.issued u t 2 1 (fun x => x.queue ((subRes 40 x.clamps (x.rax ac) (x.rax (1 - ac)) false).mxa x ac)))
  ∧ (∀ (t : Fin 32) (ac : Fin 2) (s : State), s.canIssue t true 2 → ∃ u, exec (.mxAccNeg t ac) s = .next u ∧ s.issued u t 2 1 (fun x => x.queue ((negRes 40 x.clamps (x.rax ac)).mxa x ac)))
  ∧ (∀ (t : Fin 32) (ac : Fin 2) (s : State), s.canIssue t true 2 → ∃ u, exec (.mxAccAbs t ac) s = .next u ∧ s.issued u t 2 1 (fun x => x.queue ((absRes 40 x.clamps (x.rax ac)).mxa x ac)))
  ∧ (∀ (t : Fin 32) (ac : Fin 2) (k : Fin 32) (s : State), s.canIssue t true 2 → ∃ u, exec (.mxAccShl t ac k) s = .next u ∧ s.issued u t 2 1 (fun x => x.queue ((aslRes 40 x.clamps (x.rax ac) k.val).mxa x ac)))
  ∧ (∀ (t : Fin 32) (ac : Fin 2) (k : Fin 32) (s : State), s.canIssue t true 2 → ∃ u, exec (.mxAccShr t ac k) s = .next u ∧ s.issued u t 2 1 (fun x => x.queue ((asrRes 40 (x.rax ac) k.val).mxa x ac)))
  ∧ (∀ (t : Fin 32) (ac : Fin 2) (r : Fin 8) (s : State), s.canIssue t true 2 → ∃ u, exec (.mxAccRound t ac r) s = .next u ∧ s.issued u t 2 1 (fun x => x.queue ((resOf (narrow 16 x.clamps (roundBits x.rnd 15 (x.rax ac).toInt)) none).mx x 1 r)))
  ∧ (∀ (t : Fin 32) (ac : Fin 2) (r : Fin 8) (s : State), s.canIssue t true 2 → ∃ u, exec (.mxAccLoad t ac r) s = .next u ∧ s.issued u t 2 1 (fun x => x.queue ([(1, wrax ac (BitVec.ofInt 40 ((x.rx r).toInt * 2 ^ 15)))])))

/-- For every tile t and operands, in every state in which t can issue the instruction in MX-16 mode (canIssue: it runs a task, is not frozen, its fetch makes no fault, no delay slot or repeat is open) and the operands lie in the tile's own memory without a fault (reaches): the next state has on t the writes named below in the pipeline with their latency in cycles, the program counter behind the instruction and the pipeline moved on by its cycles (by the two cycles of a two-word instruction), and nothing else changed. Load direct, indirect, and in: the word at address 4w, at the index operand, at the I/O address, into r, with the index update. mac and msu: the product of the X and the Y word added to or taken from the accumulator, with both updates. Store direct, indirect, and out: the register's word (mxStored) stands at that address where no two words overlap, every byte outside the stored words reads as before; of the tile only the index update, the errors cleared by the store, the program counter and the pipeline change, of the other tile the store reaches only the errors cleared (issuedStore). (Drawn from R303, R304, R332.) (08_ember_programming_model.md, 09_ember_instruction_reference.md) -/
def Obligations.MxMemoryComplete : Prop :=
  (∀ (t : Fin 32) (r : Fin 8) (w : BitVec 16) (s : State), s.canIssue t true 4 → s.reaches t (fixedAddr (4 * w.toNat)) 1 true → ∃ u, exec (.mxLoadDirect t r w) s = .next u ∧ s.issued u t 4 2 (fun x => (x.queue ((fixedAddr (4 * w.toNat)).writes)).queue ((MemAct.load (.mx r)).writes x 2 (s.operand t (fixedAddr (4 * w.toNat)) 1) [])))
  ∧ (∀ (t : Fin 32) (r : Fin 8) (w : BitVec 16) (s : State), s.canIssue t true 4 → s.reaches t (fixedAddr (4 * w.toNat)) (List.length ((s.tile t).mxStored r)) false → ∃ u, exec (.mxStoreDirect t r w) s = .next u ∧ s.issuedStore u t 4 2 (fixedAddr (4 * w.toNat)) ((s.tile t).mxStored r))
  ∧ (∀ (t : Fin 32) (r : Fin 8) (m : MxMem) (s : State), s.canIssue t true 2 → s.reaches t ((s.tile t).xaddr m) 1 true → ∃ u, exec (.mxLoadIndirect t r m) s = .next u ∧ s.issued u t 2 1 (fun x => (x.queue (((s.tile t).xaddr m).writes)).queue ((MemAct.load (.mx r)).writes x 1 (s.operand t ((s.tile t).xaddr m) 1) [])))
  ∧ (∀ (t : Fin 32) (r : Fin 8) (m : MxMem) (s : State), s.canIssue t true 2 → s.reaches t ((s.tile t).xaddr m) (List.length ((s.tile t).mxStored r)) false → ∃ u, exec (.mxStoreIndirect t r m) s = .next u ∧ s.issuedStore u t 2 1 ((s.tile t).xaddr m) ((s.tile t).mxStored r))
  ∧ (∀ (t : Fin 32) (ac : Fin 2) (xo y : Fin 2) (sx sy : MxStep) (s : State), s.canIssue t true 2 → s.reaches t ((s.tile t).maddr (fin 8 xo.val) sx) 1 true → s.reaches t ((s.tile t).maddr (fin 8 (2 + y.val)) sy) 1 true → ∃ u, exec (.mxMacMem t ac xo y sx sy) s = .next u ∧ s.issued u t 2 1 (fun x => (x.queue (((s.tile t).maddr (fin 8 xo.val) sx).writes ++ ((s.tile t).maddr (fin 8 (2 + y.val)) sy).writes)).queue ((MemAct.mxMul .mac ac).writes x 1 (s.operand t ((s.tile t).maddr (fin 8 xo.val) sx) 1) (s.operand t ((s.tile t).maddr (fin 8 (2 + y.val)) sy) 1))))
  ∧ (∀ (t : Fin 32) (ac : Fin 2) (xo y : Fin 2) (sx sy : MxStep) (s : State), s.canIssue t true 2 → s.reaches t ((s.tile t).maddr (fin 8 xo.val) sx) 1 true → s.reaches t ((s.tile t).maddr (fin 8 (2 + y.val)) sy) 1 true → ∃ u, exec (.mxMsuMem t ac xo y sx sy) s = .next u ∧ s.issued u t 2 1 (fun x => (x.queue (((s.tile t).maddr (fin 8 xo.val) sx).writes ++ ((s.tile t).maddr (fin 8 (2 + y.val)) sy).writes)).queue ((MemAct.mxMul .msu ac).writes x 1 (s.operand t ((s.tile t).maddr (fin 8 xo.val) sx) 1) (s.operand t ((s.tile t).maddr (fin 8 (2 + y.val)) sy) 1))))
  ∧ (∀ (t : Fin 32) (r : Fin 8) (k : BitVec 8) (s : State), s.canIssue t true 2 → s.reaches t ((s.tile t).ioAddr k) 1 true → ∃ u, exec (.mxIn t r k) s = .next u ∧ s.issued u t 2 1 (fun x => (x.queue (((s.tile t).ioAddr k).writes)).queue ((MemAct.load (.mx r)).writes x 1 (s.operand t ((s.tile t).ioAddr k) 1) [])))
  ∧ (∀ (t : Fin 32) (r : Fin 8) (k : BitVec 8) (s : State), s.canIssue t true 2 → s.reaches t ((s.tile t).ioAddr k) (List.length ((s.tile t).mxStored r)) false → ∃ u, exec (.mxOut t r k) s = .next u ∧ s.issuedStore u t 2 1 ((s.tile t).ioAddr k) ((s.tile t).mxStored r))

/-- For every tile i that runs a task, is not frozen, is in native mode and whose fetch makes no fault. nop in the first of two delay slots, with no repeat: the pc stands behind it and one slot is left. nop with a repeat of n and no branch: the pipeline moves on by n cycles, the pc stands behind the nop once, and no repeat is left. ei in a delay slot, or under a repeat, with no fault of its fetch: the task ends with fault 2 at the pc. (Drawn from R292, R294, R314.) (08_ember_programming_model.md, 09_ember_instruction_reference.md) -/
def Obligations.DelaySlotsAndRepeats : Prop :=
  (∀ (i : Fin 32) (b : Branch) (s : State), (s.tile i).task.isSome = true → (s.tile i).wait = none → (s.tile i).mxMode = false → (s.tile i).fetchFault 4 = none → (s.tile i).rep = none → (s.tile i).br = some b → b.left = 2 → ∃ t, exec (.nop i) s = .next t ∧ t.tile i = (({ s.tile i with pc := (s.tile i).pc + 4, br := some { b with left := 1 } } : Tile)).tick)
  ∧ (∀ (i : Fin 32) (n : Nat) (s : State), (s.tile i).task.isSome = true → (s.tile i).wait = none → (s.tile i).mxMode = false → (s.tile i).fetchFault 4 = none → (s.tile i).br = none → (s.tile i).rep = some n → 1 ≤ n → ∃ t, exec (.nop i) s = .next t ∧ t.tile i = iter Tile.tick n { s.tile i with pc := (s.tile i).pc + 4, rep := none })
  ∧ (∀ (i : Fin 32) (s : State), (s.tile i).task.isSome = true → (s.tile i).wait = none → (s.tile i).mxMode = false → (s.tile i).fetchFault 4 = none → (s.tile i).br.isSome = true ∨ (s.tile i).rep.isSome = true → exec (.ei i) s = .next (s.tileFault i 2 (s.tile i).pc))

/-- For every instruction of a tile: where encodeNative gives words, decodeNative of those words for the same tile is the instruction; the same for encodeMx and decodeMx. And for every tile and words: what decodeNative reads has words again, those of the same tile, the base word the same but for a SAT bit that its operation ignores (R307), the extension word the same where X is 1; what decodeMx reads has words again, the first the same but for bits 3 to 0 of the multiplies from memory, which the table gives no field, and the second the same or unused (0). (Drawn from R306, R307, R308, R309, R321, R332.) (09_ember_instruction_reference.md) -/
def Obligations.InstructionWordsRoundTrip : Prop :=
  (∀ (i : Instr) (t : Fin 32) (b e : Word), encodeNative i = some (t, b, e) → decodeNative t b e = some i)
  ∧ (∀ (i : Instr) (t : Fin 32) (f g : BitVec 16), encodeMx i = some (t, f, g) → decodeMx t f g = some i)
  ∧ (∀ (i : Instr) (t : Fin 32) (b e : Word), decodeNative t b e = some i → ∃ b2 e2, encodeNative i = some (t, b2, e2) ∧ (b2 = b ∨ b2 = b &&& 0xFDFFFFFF) ∧ (b.getLsbD 26 = true → e2 = e))
  ∧ (∀ (i : Instr) (t : Fin 32) (f g : BitVec 16), decodeMx t f g = some i → ∃ f2 g2, encodeMx i = some (t, f2, g2) ∧ (f2 = f ∨ (f.toNat / 4096 = 8 ∧ f2 = f &&& 0xFFF0)) ∧ (g2 = g ∨ g2 = 0))

/-- For every tile and words. A native word that decodes has a class and an operation of the tables, X set only in the classes that permit it (2, 4, 9, 16) and SAT set only in those that permit it (8, 9, 10, 12 to 15); the word 0 is nop and 0xFFFFFFFF decodes to nothing. An MX-16 word that decodes lies in a group from 0 to 12, and 0xFFFF decodes to nothing. (That a reserved field that is not zero decodes to nothing either is in InstructionWordsRoundTrip, and the fault in TaskEndsAndTileEventsComplete.) (Drawn from R307, R332.) (09_ember_instruction_reference.md) -/
def Obligations.ReservedWordsRefused : Prop :=
  (∀ (i : Instr) (t : Fin 32) (b e : Word), decodeNative t b e = some i →
    (b.getLsbD 26 = true → b.toNat / 2 ^ 27 ∈ [2, 4, 9, 16]) ∧ (b.getLsbD 25 = true → b.toNat / 2 ^ 27 ∈ [8, 9, 10, 12, 13, 14, 15])
    ∧ (b.toNat / 2 ^ 27 = 9 ∧ b.toNat / 2 ^ 20 % 32 ∈ [0, 2, 7, 8, 9, 11, 12, 13]
      ∨ ∃ q ∈ [(0, 9), (1, 7), (2, 15), (3, 1), (4, 6), (5, 1), (8, 16), (10, 12), (12, 7), (13, 4), (14, 4), (15, 4), (16, 3)], b.toNat / 2 ^ 27 = q.1 ∧ b.toNat / 2 ^ 20 % 32 < q.2))
  ∧ (∀ (t : Fin 32) (e : Word), decodeNative t 0 e = some (.nop t) ∧ decodeNative t 0xFFFFFFFF e = none)
  ∧ (∀ (i : Instr) (t : Fin 32) (f g : BitVec 16), decodeMx t f g = some i → f.toNat / 2 ^ 12 ≤ 12)
  ∧ (∀ (t : Fin 32) (g : BitVec 16), decodeMx t 0xFFFF g = none)

/-- With DESC_BUSY 0, a descriptor operation is taken: it waits for the next handover boundary with the task's number, STK_DESC_CMD shows the task and RES 15, DESC_BUSY is 1. So for create when createResult of the staged descriptor is 0 (the task then has that descriptor and is DORMANT); and for a task 512 to 4,095: delete and enable when DORMANT, read when not FREE, disable in states 2 to 6. Otherwise nothing is taken, RES shows createResult's code for create, code 1 for the other four of a task below 512, code 5 of a task in another state. With DESC_BUSY 1 each only sets CMD_REFUSED. Likewise with BUF_BUSY 0: buffer create when bufResult of the stage is 0 (the handle then has that descriptor), delete of a defined handle from 1,024 up, read of a defined handle; otherwise RES shows bufResult's code, 1 for a delete below 1,024, 8 for an undefined handle; with BUF_BUSY 1 each only sets CMD_REFUSED. STK_RELEASE by Hearth or the host of a task that may be released so (releasable): the release is carried out (releaseTask) unless its queue is full, else held at its source; with Stack enabled, no delay, no cancel in this cycle, the task WAITING (a sporadic one for its period since its last release) and room in its queue, it is READY, released now; of another task nothing changes. STK_CANCEL by the host of any task but loop tasks and interpolators notes the fabric cycle; a DELAYED or READY task's release is removed, the task is at rest with last result 1, and a source that still wakes it does so in the next cycle (wakeNext); a SLOTTED task is marked for invalidation; nothing else follows in other states; of a loop task or interpolator nothing changes. A rebalance request is noted. (Drawn from R335, R336, R337, R339, R343, R344, R350, R355, R362.) (10_stack_scheduling_and_placement.md) -/
def Obligations.StackCommandsComplete : Prop :=
  (∀ (n : Fin 4096) (s : State), s.is STK_STAT.DESC_BUSY = false → s.createResult n (buildList (fun k => s.rd (STK_DESC_STAGE (fin 16 k))) 16) = 0 → ∃ t, exec (.stkCreate n) s = .next t ∧ (t.taskRec n).desc = (buildList (fun k => s.rd (STK_DESC_STAGE (fin 16 k))) 16) ∧ t.taskState n = 1 ∧ t.stk.descOp = some (n, 1, 0) ∧ t.get STK_DESC_CMD.TASK = n.val ∧ t.get STK_DESC_CMD.RES = 15 ∧ t.is STK_STAT.DESC_BUSY = true)
  ∧ (∀ (n : Fin 4096) (s : State), s.is STK_STAT.DESC_BUSY = false → s.createResult n (buildList (fun k => s.rd (STK_DESC_STAGE (fin 16 k))) 16) ≠ 0 → ∃ t, exec (.stkCreate n) s = .next t ∧ t.get STK_DESC_CMD.TASK = n.val ∧ t.get STK_DESC_CMD.RES = s.createResult n (buildList (fun k => s.rd (STK_DESC_STAGE (fin 16 k))) 16) ∧ t.stk = s.stk)
  ∧ (∀ (n : Fin 4096) (s : State), s.is STK_STAT.DESC_BUSY = true → exec (.stkCreate n) s = .next (s.flag STK_STAT.CMD_REFUSED))
  ∧ (∀ (n : Fin 4096) (s : State), s.is STK_STAT.DESC_BUSY = false → 512 ≤ n.val → s.taskState n = 1 → ∃ t, exec (.stkDelete n) s = .next t ∧ t.stk.descOp = some (n, 2, 0) ∧ t.get STK_DESC_CMD.TASK = n.val ∧ t.get STK_DESC_CMD.RES = 15 ∧ t.is STK_STAT.DESC_BUSY = true)
  ∧ (∀ (n : Fin 4096) (s : State), s.is STK_STAT.DESC_BUSY = false → n.val < 512 → ∃ t, exec (.stkDelete n) s = .next t ∧ t.get STK_DESC_CMD.TASK = n.val ∧ t.get STK_DESC_CMD.RES = 1 ∧ t.stk = s.stk)
  ∧ (∀ (n : Fin 4096) (s : State), s.is STK_STAT.DESC_BUSY = false → 512 ≤ n.val → s.taskState n ≠ 1 → ∃ t, exec (.stkDelete n) s = .next t ∧ t.get STK_DESC_CMD.TASK = n.val ∧ t.get STK_DESC_CMD.RES = 5 ∧ t.stk = s.stk)
  ∧ (∀ (n : Fin 4096) (s : State), s.is STK_STAT.DESC_BUSY = true → exec (.stkDelete n) s = .next (s.flag STK_STAT.CMD_REFUSED))
  ∧ (∀ (n : Fin 4096) (s : State), s.is STK_STAT.DESC_BUSY = false → 512 ≤ n.val → s.taskState n ≠ 0 → ∃ t, exec (.stkReadDesc n) s = .next t ∧ t.stk.descOp = some (n, 3, 0) ∧ t.get STK_DESC_CMD.TASK = n.val ∧ t.get STK_DESC_CMD.RES = 15 ∧ t.is STK_STAT.DESC_BUSY = true)
  ∧ (∀ (n : Fin 4096) (s : State), s.is STK_STAT.DESC_BUSY = false → n.val < 512 → ∃ t, exec (.stkReadDesc n) s = .next t ∧ t.get STK_DESC_CMD.TASK = n.val ∧ t.get STK_DESC_CMD.RES = 1 ∧ t.stk = s.stk)
  ∧ (∀ (n : Fin 4096) (s : State), s.is STK_STAT.DESC_BUSY = false → 512 ≤ n.val → s.taskState n = 0 → ∃ t, exec (.stkReadDesc n) s = .next t ∧ t.get STK_DESC_CMD.TASK = n.val ∧ t.get STK_DESC_CMD.RES = 5 ∧ t.stk = s.stk)
  ∧ (∀ (n : Fin 4096) (s : State), s.is STK_STAT.DESC_BUSY = true → exec (.stkReadDesc n) s = .next (s.flag STK_STAT.CMD_REFUSED))
  ∧ (∀ (n : Fin 4096) (s : State), s.is STK_STAT.DESC_BUSY = false → 512 ≤ n.val → s.taskState n = 1 → ∃ t, exec (.stkEnable n) s = .next t ∧ t.stk.descOp = some (n, 4, 0) ∧ t.get STK_DESC_CMD.TASK = n.val ∧ t.get STK_DESC_CMD.RES = 15 ∧ t.is STK_STAT.DESC_BUSY = true)
  ∧ (∀ (n : Fin 4096) (s : State), s.is STK_STAT.DESC_BUSY = false → n.val < 512 → ∃ t, exec (.stkEnable n) s = .next t ∧ t.get STK_DESC_CMD.TASK = n.val ∧ t.get STK_DESC_CMD.RES = 1 ∧ t.stk = s.stk)
  ∧ (∀ (n : Fin 4096) (s : State), s.is STK_STAT.DESC_BUSY = false → 512 ≤ n.val → s.taskState n ≠ 1 → ∃ t, exec (.stkEnable n) s = .next t ∧ t.get STK_DESC_CMD.TASK = n.val ∧ t.get STK_DESC_CMD.RES = 5 ∧ t.stk = s.stk)
  ∧ (∀ (n : Fin 4096) (s : State), s.is STK_STAT.DESC_BUSY = true → exec (.stkEnable n) s = .next (s.flag STK_STAT.CMD_REFUSED))
  ∧ (∀ (n : Fin 4096) (s : State), s.is STK_STAT.DESC_BUSY = false → 512 ≤ n.val → 2 ≤ s.taskState n → ∃ t, exec (.stkDisable n) s = .next t ∧ t.stk.descOp = some (n, 5, 0) ∧ t.get STK_DESC_CMD.TASK = n.val ∧ t.get STK_DESC_CMD.RES = 15 ∧ t.is STK_STAT.DESC_BUSY = true)
  ∧ (∀ (n : Fin 4096) (s : State), s.is STK_STAT.DESC_BUSY = false → n.val < 512 → ∃ t, exec (.stkDisable n) s = .next t ∧ t.get STK_DESC_CMD.TASK = n.val ∧ t.get STK_DESC_CMD.RES = 1 ∧ t.stk = s.stk)
  ∧ (∀ (n : Fin 4096) (s : State), s.is STK_STAT.DESC_BUSY = false → 512 ≤ n.val → s.taskState n < 2 → ∃ t, exec (.stkDisable n) s = .next t ∧ t.get STK_DESC_CMD.TASK = n.val ∧ t.get STK_DESC_CMD.RES = 5 ∧ t.stk = s.stk)
  ∧ (∀ (n : Fin 4096) (s : State), s.is STK_STAT.DESC_BUSY = true → exec (.stkDisable n) s = .next (s.flag STK_STAT.CMD_REFUSED))
  ∧ (∀ (h : Fin 8192) (s : State), s.is STK_STAT.BUF_BUSY = false → s.bufResult h (buildList (fun k => s.rd (STK_BUF_STAGE (fin 4 k))) 4) = 0 → ∃ t, exec (.bufCreate h) s = .next t ∧ (t.bufRec h).desc = (buildList (fun k => s.rd (STK_BUF_STAGE (fin 4 k))) 4) ∧ t.stk.bufOp = some (h, 1, 0) ∧ t.get STK_BUF_CMD.HANDLE = h.val ∧ t.get STK_BUF_CMD.RES = 15 ∧ t.is STK_STAT.BUF_BUSY = true)
  ∧ (∀ (h : Fin 8192) (s : State), s.is STK_STAT.BUF_BUSY = false → s.bufResult h (buildList (fun k => s.rd (STK_BUF_STAGE (fin 4 k))) 4) ≠ 0 → ∃ t, exec (.bufCreate h) s = .next t ∧ t.get STK_BUF_CMD.HANDLE = h.val ∧ t.get STK_BUF_CMD.RES = s.bufResult h (buildList (fun k => s.rd (STK_BUF_STAGE (fin 4 k))) 4) ∧ t.stk = s.stk)
  ∧ (∀ (h : Fin 8192) (s : State), s.is STK_STAT.BUF_BUSY = true → exec (.bufCreate h) s = .next (s.flag STK_STAT.CMD_REFUSED))
  ∧ (∀ (h : Fin 8192) (s : State), s.is STK_STAT.BUF_BUSY = false → 1024 ≤ h.val → (s.bufRec h).defined = true → ∃ t, exec (.bufDelete h) s = .next t ∧ t.stk.bufOp = some (h, 2, 0) ∧ t.get STK_BUF_CMD.HANDLE = h.val ∧ t.get STK_BUF_CMD.RES = 15 ∧ t.is STK_STAT.BUF_BUSY = true)
  ∧ (∀ (h : Fin 8192) (s : State), s.is STK_STAT.BUF_BUSY = false → h.val < 1024 → ∃ t, exec (.bufDelete h) s = .next t ∧ t.get STK_BUF_CMD.HANDLE = h.val ∧ t.get STK_BUF_CMD.RES = 1 ∧ t.stk = s.stk)
  ∧ (∀ (h : Fin 8192) (s : State), s.is STK_STAT.BUF_BUSY = false → 1024 ≤ h.val → (s.bufRec h).defined = false → ∃ t, exec (.bufDelete h) s = .next t ∧ t.get STK_BUF_CMD.HANDLE = h.val ∧ t.get STK_BUF_CMD.RES = 8 ∧ t.stk = s.stk)
  ∧ (∀ (h : Fin 8192) (s : State), s.is STK_STAT.BUF_BUSY = true → exec (.bufDelete h) s = .next (s.flag STK_STAT.CMD_REFUSED))
  ∧ (∀ (h : Fin 8192) (s : State), s.is STK_STAT.BUF_BUSY = false → (s.bufRec h).defined = true → ∃ t, exec (.bufRead h) s = .next t ∧ t.stk.bufOp = some (h, 3, 0) ∧ t.get STK_BUF_CMD.HANDLE = h.val ∧ t.get STK_BUF_CMD.RES = 15 ∧ t.is STK_STAT.BUF_BUSY = true)
  ∧ (∀ (h : Fin 8192) (s : State), s.is STK_STAT.BUF_BUSY = false → (s.bufRec h).defined = false → ∃ t, exec (.bufRead h) s = .next t ∧ t.get STK_BUF_CMD.HANDLE = h.val ∧ t.get STK_BUF_CMD.RES = 8 ∧ t.stk = s.stk)
  ∧ (∀ (h : Fin 8192) (s : State), s.is STK_STAT.BUF_BUSY = true → exec (.bufRead h) s = .next (s.flag STK_STAT.CMD_REFUSED))
  ∧ (∀ (who : Who) (v : Word) (s : State), (who = .hearth ∨ who = .host) → s.releasable (fin 4096 (getBits v 0 12)) = true → (s.releaseTask (fin 4096 (getBits v 0 12)) (some (fin 4 (getBits v 12 2), getBits v 14 16))).2 = false → exec (.stkRelease who v) s = .next ((s.releaseTask (fin 4096 (getBits v 0 12)) (some (fin 4 (getBits v 12 2), getBits v 14 16))).1))
  ∧ (∀ (who : Who) (v : Word) (s : State), (who = .hearth ∨ who = .host) → s.releasable (fin 4096 (getBits v 0 12)) = true → (s.releaseTask (fin 4096 (getBits v 0 12)) (some (fin 4 (getBits v 12 2), getBits v 14 16))).2 = true → exec (.stkRelease who v) s = .next ((s.releaseTask (fin 4096 (getBits v 0 12)) (some (fin 4 (getBits v 12 2), getBits v 14 16))).1.hold (.host v)))
  ∧ (∀ (who : Who) (v : Word) (n : Fin 4096) (s : State), (who = .hearth ∨ who = .host) → n = fin 4096 (getBits v 0 12) → getBits v 14 16 = 0 → s.releasable n = true → s.is STK_CTRL.EN = true → (s.taskRec n).cancelAt ≠ some (s.now / nsUnits) → s.taskState n = 2 → (s.taskRec n).cls = 1 → ∀ p, (s.taskRec n).lastRel = some p → p + (s.taskRec n).period ≤ s.periodNo → s.get (STK_QSTAT.DEPTH (s.taskQueue n)) < s.get ⟨STK_QCFG (s.taskQueue n), 0, 12⟩ → ∃ t, exec (.stkRelease who v) s = .next t ∧ t.taskState n = 4 ∧ (t.taskRec n).released = s.now)
  ∧ (∀ (who : Who) (v : Word) (s : State), s.releasable (fin 4096 (getBits v 0 12)) = false → exec (.stkRelease who v) s = .next (s))
  ∧ (∀ (n : Fin 4096) (s : State), State.loopOrInterp n = false → s.taskState n = 3 → exec (.stkCancel .host n) s = .next ((((s.setTask n { s.taskRec n with cancelAt := some (s.now / nsUnits) }).unhold n).toRest n 1).wakeNext n))
  ∧ (∀ (n : Fin 4096) (s : State), State.loopOrInterp n = false → s.taskState n = 4 → exec (.stkCancel .host n) s = .next ((((s.setTask n { s.taskRec n with cancelAt := some (s.now / nsUnits) }).queueDown (s.taskQueue n)).toRest n 1).wakeNext n))
  ∧ (∀ (n : Fin 4096) (s : State), State.loopOrInterp n = false → s.taskState n = 5 → ∃ t, exec (.stkCancel .host n) s = .next t ∧ (t.taskRec n) = { s.taskRec n with cancelAt := some (s.now / nsUnits), inval := true } ∧ t.regs = s.regs)
  ∧ (∀ (n : Fin 4096) (s : State), State.loopOrInterp n = false → (s.taskState n ≠ 3 ∧ s.taskState n ≠ 4 ∧ s.taskState n ≠ 5) → exec (.stkCancel .host n) s = .next ((s.setTask n { s.taskRec n with cancelAt := some (s.now / nsUnits) })))
  ∧ (∀ (n : Fin 4096) (s : State), State.loopOrInterp n = true → exec (.stkCancel .host n) s = .next (s))
  ∧ (∀ (s : State), exec (.stkRebalance) s = .next ({ s with stk := { s.stk with rebal := true } }))

/-- DELAY_LIST_EXPIRY with one DELAYED task on the list, not held, and room in its queue: at its tick it is READY, off the list, released then. SLOT_INVALIDATE of a SLOTTED task so marked: its slots are empty, it is at rest with last result 1, and a source that still wakes it does so (wakeNext). HELD_RELEASE_ACCEPT: the first held release that can be taken is held no more and carried out (tryHeld). SLOT_FILL, Stack enabled, no running plane's slot on the tile full: the next task of the tile's table, else the first of the queues that fits, is SLOTTED in every running plane's slot there. TASK_RELEASE_START with one plane running, an idle tile and a slot that waits for no block: the slot's task starts at its entry, tcyc 0, and the slot is empty. BUDGET_STOP, the active plane running alone, of a queued task at its WCET on a tile with a table, with no access open and no interrupt source set to wake it: BUDGET is 1, the last result 2, the tile runs it no more. TASK_DEADLINE_MISS of a task in states 4 to 6 not yet counted: at its deadline it is marked and keeps its state. TASK_END_REPORT of an untimed task on the active plane alone: the report is taken and the plane's end noted. UNTIMED_RUN_END with all ends noted and the skew within its limit: the runs are compared and the run finishes. TASK_FAULT_REPORT of the active plane, running alone: FAULT is 1, the last result 3, the report is taken. TASK_COPY_DONE and BUFFER_COPY_DONE of a pending move, no task of it in use (nor, of a buffer, since its copy began): the copy is marked complete. TIER_MEASUREMENT, at the end of its interval: of a defined buffer from 1,024 up, with automatic tiers (stk.cfg bit 4) and FREEZE 0: when tierFor chooses another tier it is wanted, the tier and other buffers staying; else only the interval and the loads shown change. (Drawn from R339, R341, R342, R343, R344, R347, R348, R349, R350, R352, R353, R356, R357, R358, R359.) (10_stack_scheduling_and_placement.md) -/
def Obligations.StackEventsComplete : Prop :=
  (∀ (k : Fin 4) (n : Fin 4096) (r : TaskRec) (d : Nat) (s : State), s.stk.tasks = [(n, r)] → r.delay = some (k, d) → s.taskState n = 3 → Held.delayed n ∉ s.stk.held → s.get (STK_QSTAT.DEPTH (s.taskQueue n)) < s.get ⟨STK_QCFG (s.taskQueue n), 0, 12⟩ → s.seq.base = 0 → 0 < s.dlyTick k → ∃ t, exec (.delayListExpiry k) s = .next t ∧ t.now = max s.now (d * s.dlyTick k) ∧ t.taskState n = 4 ∧ (t.taskRec n).delay = none ∧ (t.taskRec n).released = t.now)
  ∧ (∀ (n : Fin 4096) (s : State), (s.taskRec n).inval = true → s.taskState n = 5 → exec (.slotInvalidate n) s = .next (((s.dropSlot n).toRest n 1).wakeNext n))
  ∧ (∀ (h : Held) (s : State), s.stk.held.find? (fun x => (s.tryHeld x).isSome) = some h → exec (.heldReleaseAccept) s = .next ((({ s with stk := { s.stk with held := s.stk.held.erase h } } : State).tryHeld h).getD { s with stk := { s.stk with held := s.stk.held.erase h } }))
  ∧ (∀ (i : Fin 16) (n : Fin 4096) (w : Bool) (s : State), s.is STK_CTRL.EN = true → s.runPlanes.any (fun pl => (s.tile (tileOf pl i)).slot.isSome) = false → s.nextTable i = some (n, w) → ∃ t, exec (.slotFill i) s = .next t ∧ t.taskState n = 5 ∧ (∀ pl ∈ s.runPlanes, ((t.tile (tileOf pl i)).slot.map Slot.task) = some n))
  ∧ (∀ (i : Fin 16) (n : Fin 4096) (r : List (Fin 4096)) (s : State), s.is STK_CTRL.EN = true → s.runPlanes.any (fun pl => (s.tile (tileOf pl i)).slot.isSome) = false → s.nextTable i = none → s.readyOn i = n :: r → ∃ t, exec (.slotFill i) s = .next t ∧ t.taskState n = 5 ∧ (∀ pl ∈ s.runPlanes, ((t.tile (tileOf pl i)).slot.map Slot.task) = some n))
  ∧ (∀ (i : Fin 16) (pl : Fin 2) (q : Slot) (s : State), s.runPlanes = [pl] → (s.tile (tileOf pl i)).task = none → (s.tile (tileOf pl i)).slot = some q → q.waits = false → ∃ t, exec (.taskReleaseStart i) s = .next t ∧ (t.tile (tileOf pl i)).task = some q.task ∧ (t.tile (tileOf pl i)).pc = q.entry ∧ (t.tile (tileOf pl i)).slot = none ∧ (t.tile (tileOf pl i)).tcyc = 0 ∧ ((t.tile (tileOf pl i)).sr = if q.mx then 0x180 else 0x100))
  ∧ (∀ (i : Fin 16) (n : Fin 4096) (s : State), (s.tile (tileOf s.activePlane i)).task = some n → (s.tile (tileOf s.activePlane i)).wait = none → 512 ≤ n.val → s.tableOf s.placement i ≠ [] → (s.taskRec n).wcet ≤ (s.tile (tileOf s.activePlane i)).tcyc.toNat → s.runPlanes = [s.activePlane] → (∀ k, (s.is (IC_SRC_CFG.WAKE k) && s.get (IC_SRC_CFG.TKIND k) == 3 && s.get (IC_SRC_CFG.TARGET k) == n.val) = false) → ∃ t, exec (.budgetStop i) s = .next t ∧ t.is STK_STAT.BUDGET = true ∧ t.get (STK_TS0.LAST n) = 2 ∧ (t.tile (tileOf s.activePlane i)).task ≠ some n)
  ∧ (∀ (n : Fin 4096) (s : State), 512 ≤ n.val → (4 ≤ s.taskState n ∧ s.taskState n ≤ 6) → (s.taskRec n).missed = false → ∃ t, exec (.taskDeadlineMiss n) s = .next t ∧ t.now = max s.now (s.absDeadline n) ∧ (t.taskRec n).missed = true ∧ t.taskState n = s.taskState n)
  ∧ (∀ (i : Fin 16) (n : Fin 4096) (s : State), s.runPlanes = [s.activePlane] → s.headEnd (tileOf s.activePlane i) = some (n, .tend) → s.untimed n = true → ∃ t, exec (.taskEndReport i) s = .next t ∧ (t.tile (tileOf s.activePlane i)).ends = (s.tile (tileOf s.activePlane i)).ends.drop 1 ∧ (t.taskRec n).endOf s.activePlane = true)
  ∧ (∀ (n : Fin 4096) (skew : Nat) (s : State), s.untimed n = true → s.taskState n = 6 → s.runPlanes.all (fun pl => (s.taskRec n).endOf pl) = true → skew ≤ getBits (s.rd STK_SKEW_LIM) 0 16 → exec (.untimedRunEnd n skew) s = .next ((s.judgeRun (fin 16 (s.get (STK_TS0.TILE n)))).finishRun n))
  ∧ (∀ (i : Fin 16) (n : Fin 4096) (c at_ : Nat) (s : State), s.runPlanes = [s.activePlane] → s.headEnd (tileOf s.activePlane i) = some (n, .fault c at_) → ∃ t, exec (.taskFaultReport i) s = .next t ∧ t.is STK_STAT.FAULT = true ∧ t.get (STK_TS0.LAST n) = 3 ∧ (t.tile (tileOf s.activePlane i)).ends = (s.tile (tileOf s.activePlane i)).ends.drop 1 ∧ (t.taskRec n).fault = some (c, at_))
  ∧ (∀ (n : Fin 4096) (s : State), (s.taskRec n).want.isSome = true → (s.taskState n ≠ 5 ∧ s.taskState n ≠ 6) → exec (.taskCopyDone n) s = .next (s.setTask n { s.taskRec n with copied := true }))
  ∧ (∀ (h : Fin 8192) (s : State), (s.bufRec h).want.isSome = true → (s.bufRec h).spoiled = false → (s.bufUsers h).all (fun n => s.taskState n != 5 && s.taskState n != 6) = true → exec (.bufferCopyDone h) s = .next (s.setBuf h { s.bufRec h with copied := true }))
  ∧ (∀ (h : Fin 8192) (acc : Nat) (s : State), s.stk.cfg.getLsbD 4 = true → s.is STK_CTRL.FREEZE = false → (s.bufRec h).defined = true → 1024 ≤ h.val → s.tierFor h acc ≠ (s.bufRec h).tier → ∃ t, exec (.tierMeasurement [(h, acc)]) s = .next t ∧ t.now = max s.now (s.boundary (s.stk.measAt + getBits s.stk.cfg 16 16)) ∧ (t.bufRec h).want = some (s.tierFor h acc) ∧ (t.bufRec h).tier = (s.bufRec h).tier ∧ (∀ g, g ≠ h → t.bufRec g = s.bufRec g))
  ∧ (∀ (acc : List (Fin 8192 × Nat)) (k : Nat) (s : State), k = s.stk.measAt + getBits s.stk.cfg 16 16 → (s.stk.cfg.getLsbD 4 = false ∨ s.is STK_CTRL.FREEZE = true) → exec (.tierMeasurement acc) s = .next (({ s.advance (s.boundary k) with stk := { s.stk with measAt := max k (s.advance (s.boundary k)).periodNo } } : State).showQueued))

/-- IC_FILTER_CHANGE of a level held for at most FLT samples from t0 only moves time to the last of them. Held longer, of a source whose level the block does not derive and that is not reserved, a new level shows in IC_LIVE one fabric cycle after sample FLT + 1; rising, it makes an edge source pending and, not claimed, a level source; falling, it ends a level source's pending state. IC_DELIVERY to target i with no claim, n the lowest source that names i, waits (pending, enabled, unclaimed, not held off) and is ready: IC_CLAIM holds n with VALID alone, n is claimed and not pending, 2 ns pass, and for a tile pair the running planes' tiles have the request. IC_CLAIM_READ by Hearth or a host vector of a claim not taken up takes it up and answers it; else it answers the word. IC_COMPLETE of the number that the writer's target has claimed frees the claim and wakes what pending sources wake (icWakeAll), Hearth's then being free to wait (hearthRest); of another number, or with no claim, it sets COMPL_BAD; a tile's is noted for the comparison of the planes, and one of the other plane only noted. IC_HOLDOFF_EXPIRY of a running timer: at its end it does not run. IC_REDIRECT of a source whose timer runs out (redirectAt), Hearth up and without a claim: at that instant Hearth has the claim with VALID and REDIRECTED, IC_REDIRECTS counts one. IC_SRC_CFG_WRITE with EN and WAKE for a task that may not be woken only sets CFG_REFUSED; else with EN 0, or with no change of EDGE, GROUP and FLT, the register holds the word (bits 28:0); else these three stay, the rest is applied and CFG_REFUSED is set. IC_PLANE_FINDING notes finding 7 of the tile: where both planes hold an act the other has not, and where one does, 64 cycles after it; those acts are told. IC_SW_SET and IC_SW_CLR by a master whose accesses do not act (a tile of the other plane, Window T) change nothing. (Drawn from R365, R366, R367, R368, R369, R371, R372, R374, R376, R377, R378, R383.) (11_interrupt_controller.md) -/
def Obligations.InterruptControllerComplete : Prop :=
  (∀ (n : Fin 512) (level : Bool) (t0 : Time) (samples : Nat) (s : State), samples ≤ s.get (IC_SRC_CFG.FLT n) → exec (.icFilterChange n level t0 samples) s = .next (s.advance (t0 + samples * portUnits)))
  ∧ (∀ (n : Fin 512) (t0 : Time) (samples : Nat) (s : State), s.get (IC_SRC_CFG.FLT n) < samples → (n.val < 430 ∨ 448 ≤ n.val) → s.srcLevel n = none → s.is (icLive n) = false → ∃ t, exec (.icFilterChange n true t0 samples) s = .next t ∧ t.is (icLive n) = true ∧ ((s.is (IC_SRC_CFG.EDGE n) = true ∨ s.is (icClaimed n) = false → t.is (icPend n) = true)) ∧ t.now = max s.now (t0 + s.get (IC_SRC_CFG.FLT n) * portUnits + nsUnits))
  ∧ (∀ (n : Fin 512) (t0 : Time) (samples : Nat) (s : State), s.get (IC_SRC_CFG.FLT n) < samples → (n.val < 430 ∨ 448 ≤ n.val) → s.srcLevel n = none → s.is (icLive n) = true → ∃ t, exec (.icFilterChange n false t0 samples) s = .next t ∧ t.is (icLive n) = false ∧ ((s.is (IC_SRC_CFG.EDGE n) = false → t.is (icPend n) = false)) ∧ t.now = max s.now (t0 + s.get (IC_SRC_CFG.FLT n) * portUnits + nsUnits))
  ∧ (∀ (i : Fin 64) (n : Fin 512) (s : State), s.is (IC_CLAIM.VALID i) = false → (finList 512).find? (fun m => s.icTarget m == some i && s.icWaits m && s.icReady m) = some n → ∃ t, exec (.icDelivery i) s = .next t ∧ t.rd (IC_CLAIM i) = BitVec.ofNat 32 (n.val + 512) ∧ t.is (icClaimed n) = true ∧ t.is (icPend n) = false ∧ t.now = s.now + 2 * nsUnits)
  ∧ (∀ (k : Fin 16) (i : Fin 64) (n : Fin 512) (s : State), i.val = k.val → s.is (IC_CLAIM.VALID i) = false → (finList 512).find? (fun m => s.icTarget m == some i && s.icWaits m && s.icReady m) = some n → ∃ t, exec (.icDelivery i) s = .next t ∧ (∀ pl ∈ s.runPlanes, (t.tile (tileOf pl k)).req = some n))
  ∧ (∀ (i : Fin 64) (s : State), (i.val = 16 ∨ 32 ≤ i.val) → s.is (IC_CLAIM.VALID i) = true → s.is (IC_CLAIM.TAKEN i) = false → exec (.icClaimRead i) s = .next ((s.icTakeUp i).answer [(s.icTakeUp i).rd (IC_CLAIM i)]))
  ∧ (∀ (i : Fin 64) (s : State), (i.val ≠ 16 ∧ i.val < 32) ∨ s.is (IC_CLAIM.VALID i) = false ∨ s.is (IC_CLAIM.TAKEN i) = true → exec (.icClaimRead i) s = .next (s.answer [s.rd (IC_CLAIM i)]))
  ∧ (∀ (who : Who) (v : Word) (i : Fin 64) (s : State), (who = .hearth ∧ i = 16) ∨ (who = .host ∧ i.val = 32 + getBits v 16 5) ∨ (∃ k : Fin 32, who = .tile k ∧ planeOf k = s.activePlane ∧ i.val = (tileNo k).val) → s.is (IC_CLAIM.VALID i) = true → s.get (IC_CLAIM.SRC i) = getBits v 0 9 → exec (.icComplete who v) s = .next ((if i = 16 then State.hearthRest else id) ((s.noteWrite who v).icFree i).icWakeAll))
  ∧ (∀ (who : Who) (v : Word) (i : Fin 64) (s : State), (who = .hearth ∧ i = 16) ∨ (who = .host ∧ i.val = 32 + getBits v 16 5) ∨ (∃ k : Fin 32, who = .tile k ∧ planeOf k = s.activePlane ∧ i.val = (tileNo k).val) → (s.is (IC_CLAIM.VALID i) = false ∨ s.get (IC_CLAIM.SRC i) ≠ getBits v 0 9) → exec (.icComplete who v) s = .next ((s.noteWrite who v).flag IC_STAT.COMPL_BAD))
  ∧ (∀ (k : Fin 32) (v : Word) (s : State), planeOf k ≠ s.activePlane → exec (.icComplete (.tile k) v) s = .next (s.noteIc k true (getBits v 0 9)))
  ∧ (∀ (g : Fin 16) (s : State), s.is (IC_GRP_HOLD.RUNNING g) = true → ∃ t, exec (.icHoldoffExpiry g) s = .next t ∧ t.now = max s.now (tget s.ic.holds g 0) ∧ t.is (IC_GRP_HOLD.RUNNING g) = false ∧ (∀ q ∈ t.ic.holds, q.1 ≠ g))
  ∧ (∀ (n : Fin 512) (i : Fin 64) (due : Time) (s : State), s.redirectAt n = some (i, due) → s.is (IC_CLAIM.VALID 16) = false → s.is HM_STAT.HEARTH_UP = true → ∃ t, exec (.icRedirect n) s = .next t ∧ t.now = max s.now due ∧ t.rd (IC_CLAIM 16) = BitVec.ofNat 32 (n.val + 512 + 4096) ∧ t.is (icClaimed n) = true ∧ t.is (icPend n) = false ∧ t.rd IC_REDIRECTS = satInc (s.rd IC_REDIRECTS))
  ∧ (∀ (n : Fin 512) (v : Word) (s : State), s.wakeRefused (v &&& 0x1FFFFFFF) = true → exec (.icSrcCfgWrite n v) s = .next (s.flag IC_STAT.CFG_REFUSED))
  ∧ (∀ (n : Fin 512) (v : Word) (s : State), s.wakeRefused (v &&& 0x1FFFFFFF) = false → (s.is (IC_SRC_CFG.EN n) = false ∨ (s.rd (IC_SRC_CFG n) ^^^ v) &&& 0x3FFE = 0) → ∃ t, exec (.icSrcCfgWrite n v) s = .next t ∧ t.rd (IC_SRC_CFG n) = v &&& 0x1FFFFFFF)
  ∧ (∀ (n : Fin 512) (v : Word) (s : State), s.wakeRefused (v &&& 0x1FFFFFFF) = false → s.is (IC_SRC_CFG.EN n) = true → (s.rd (IC_SRC_CFG n) ^^^ v) &&& 0x3FFE ≠ 0 → ∃ t, exec (.icSrcCfgWrite n v) s = .next t ∧ t.rd (IC_SRC_CFG n) = (v &&& 0x1FFFC001) ||| (s.rd (IC_SRC_CFG n) &&& 0x3FFE) ∧ t.is IC_STAT.CFG_REFUSED = true)
  ∧ (∀ (i : Fin 16) (m w : IcMark) (s : State), s.icAlone 0 i = some m → s.icAlone 1 i = some w → exec (.icPlaneFinding i) s = .next (((s.icTell 0 i false).icTell 1 i false).finding 7 i.val))
  ∧ (∀ (i : Fin 16) (pl : Fin 2) (m : IcMark) (s : State), s.icAlone pl i = some m → s.icAlone (1 - pl) i = none → exec (.icPlaneFinding i) s = .next (((s.advance (m.time + 64 * nsUnits)).icTell pl i true).finding 7 i.val))
  ∧ (∀ (who : Who) (k : Fin 2) (v : Word) (s : State), s.acts who = false → exec (.icSwSet who k v) s = .next (s))
  ∧ (∀ (who : Who) (k : Fin 2) (v same : Word) (s : State), s.acts who = false → exec (.icSwClr who k v same) s = .next (s))

/-- The level of source 448 + 32 k + j is bit j of IC_SW[k]. After IC_SW_SET of word v by a master whose accesses act (a tile of the active plane, Hearth or the host), each bit of IC_SW[k] is 1 exactly if it was 1 or v has it; after IC_SW_CLR of v, exactly if it was 1 and v has it not or the word `same` has it, where `same` holds the bits set by a write of IC_SW_SET in the same fabric cycle. (R365) -/
def Obligations.SoftwareSourceRule : Prop :=
  (∀ (s : State) (k : Fin 2) (j : Fin 32), s.srcLevel (fin 512 (448 + 32 * k.val + j.val)) = some ((s.rd (IC_SW k)).getLsbD j.val))
  ∧ (∀ (who : Who) (k : Fin 2) (v : Word) (s : State), s.acts who = true → ∃ t, exec (.icSwSet who k v) s = .next t ∧ (∀ j : Fin 32, (t.rd (IC_SW k)).getLsbD j.val = ((s.rd (IC_SW k)).getLsbD j.val || v.getLsbD j.val)))
  ∧ (∀ (who : Who) (k : Fin 2) (v same : Word) (s : State), s.acts who = true → ∃ t, exec (.icSwClr who k v same) s = .next t ∧ (∀ j : Fin 32, (t.rd (IC_SW k)).getLsbD j.val = ((s.rd (IC_SW k)).getLsbD j.val && (!v.getLsbD j.val || same.getLsbD j.val))))

/-- SEPARATION_CAPTURE, with the island running, no snapshot open and the first current period of a separation cycle: time moves to the window edge, the snapshot is of that instant and holds the requests so far, no request or token waits, and every connection is as its capture leaves it (capture). CHANNEL_RESULT_POSTED with a snapshot, no restart: the channel's result is its computation of the snapshot (channelResult), or none after its window has ended (windowAt); only the island changes, not the other channel. CHANNEL_RESULT_ARRIVAL of a posted result: the other channel holds it. EXCHANGE_WINDOW_END with a snapshot, the channel's window not ended yet, no restart and, for channel 1, a cycle count of 25,000 within 5 %: it notes what has come; no difference ends the run of differing cycles; differences lengthen it by one, their number is kept for the commit, and at the set's limit are an island fault 0; the other's result missing is an island fault 0, the own missing a 1. Another count for channel 1 adds an island fault 3. SEPARATION_COMMIT with a snapshot: open windows end, time moves to 250 us after the capture, and the commit follows (commitBegin, commitArms, commitShow, commitEnd). PSET_CRC_SWEEP that fails with a set in force is an island fault 2, else it changes nothing. CORE_SUPPLY_WINDOW_FAULT is an island fault 4. SIGNET_TELEGRAM_RX takes the first waiting copy. When it matches no connection, one more waits for SG_UNMATCHED of its port, no register changes, and nothing else follows but time. When it matches connection c, what its checks make of it (signetItem) joins its inbox, and the other connections stay. SIGNET_WATCHDOG_EXPIRY and SIGNET_DEGRADED_EXPIRY of a connection of the set in force, with a snapshot open: the connection and its copy in the snapshot are as the watchdog judges them at the capture, or the degraded time at the commit. (Drawn from R391, R393, R394, R395, R396, R397, R398, R430, R412, R436, R443, R445, R447.) (12_safety_functions.md, 13_signet_telegrams.md) -/
def Obligations.SafetyAndSignetCyclesComplete : Prop :=
  (∀ (s : State), s.get SI_STAT.ISTATE ≠ 0 → s.si.snap = none → s.periodNo % s.sepPeriods = 0 → ∃ t, exec (.separationCapture) s = .next t ∧ t.now = max s.now (s.boundary s.periodNo) ∧ t.si.reqs = [] ∧ t.si.tokens = [] ∧ (∃ n, t.si.snap = some n ∧ n.at_ = s.boundary s.periodNo ∧ n.reqs = s.si.reqs) ∧ (∀ (c : Fin 64) (o : SafeObject), c ∈ s.connList → s.object c = some o → t.conn c = (s.conn c).capture o.conn (s.boundary s.periodNo) ((s.advance (s.boundary s.periodNo)).cellAt (s.boundary s.periodNo))))
  ∧ (∀ (one : Bool) (n : SafeSnap) (s : State), s.si.snap = some n → s.si.restarting = false → ∃ t, exec (.channelResultPosted one) s = .next t ∧ ((t.chan one).result = (if n.windowAt one < s.now ∨ (s.chan one).window.isSome = true then none else some (s.channelResult (s.cycleOf one n)))) ∧ t.chan (!one) = s.chan (!one) ∧ s.sameBut [.si] t)
  ∧ (∀ (one : Bool) (r : ChanResult) (s : State), (s.chan one).result = some r → ∃ t, exec (.channelResultArrival one) s = .next t ∧ (t.chan (!one)).held = some r ∧ t.chan one = s.chan one ∧ s.sameBut [.si] t)
  ∧ (∀ (one : Bool) (cycles : Nat) (r q : ChanResult) (s : State), s.si.snap.isSome = true → (s.chan one).window = none → s.si.restarting = false → (one = false ∨ (23750 ≤ cycles ∧ cycles ≤ 26250)) → (s.chan one).result = some r → (s.chan one).held = some q → s.differences r q = 0 → ∃ t, exec (.exchangeWindowEnd one cycles) s = .next t ∧ (t.chan one).window = some (true, true) ∧ (t.chan one).xcRun = 0 ∧ (t.chan one).xcNew = 0 ∧ t.si.faults = s.si.faults)
  ∧ (∀ (one : Bool) (cycles : Nat) (r q : ChanResult) (s : State), s.si.snap.isSome = true → (s.chan one).window = none → s.si.restarting = false → (one = false ∨ (23750 ≤ cycles ∧ cycles ≤ 26250)) → (s.chan one).result = some r → (s.chan one).held = some q → s.differences r q ≠ 0 → ∃ t, exec (.exchangeWindowEnd one cycles) s = .next t ∧ (t.chan one).window = some (true, true) ∧ (t.chan one).xcRun = (s.chan one).xcRun + 1 ∧ (t.chan one).xcNew = s.differences r q ∧ t.si.faults = (if s.pset.xcN ≤ (s.chan one).xcRun + 1 then s.si.faults ++ [0] else s.si.faults))
  ∧ (∀ (one : Bool) (cycles : Nat) (r : ChanResult) (s : State), s.si.snap.isSome = true → (s.chan one).window = none → s.si.restarting = false → (one = false ∨ (23750 ≤ cycles ∧ cycles ≤ 26250)) → (s.chan one).result = some r → (s.chan one).held = none → ∃ t, exec (.exchangeWindowEnd one cycles) s = .next t ∧ (t.chan one).window = some (true, false) ∧ t.si.faults = s.si.faults ++ [0])
  ∧ (∀ (one : Bool) (cycles : Nat) (s : State), s.si.snap.isSome = true → (s.chan one).window = none → s.si.restarting = false → (one = false ∨ (23750 ≤ cycles ∧ cycles ≤ 26250)) → (s.chan one).result = none → ∃ t, exec (.exchangeWindowEnd one cycles) s = .next t ∧ (t.chan one).window = some (false, (s.chan one).held.isSome) ∧ t.si.faults = s.si.faults ++ [1])
  ∧ (∀ (cycles : Nat) (r q : ChanResult) (s : State), s.si.snap.isSome = true → s.si.ch1.window = none → s.si.restarting = false → s.si.ch1.result = some r → s.si.ch1.held = some q → s.differences r q = 0 → (cycles < 23750 ∨ 26250 < cycles) → ∃ t, exec (.exchangeWindowEnd true cycles) s = .next t ∧ t.si.ch1.window = some (true, true) ∧ t.si.faults = s.si.faults ++ [3])
  ∧ (∀ (n : SafeSnap) (u v : State) (s : State), s.si.snap = some n → u = ((s.endWindow true).endWindow false).advance n.commitAt → v = u.commitBegin (u.snapAtCommit n) → exec (.separationCommit) s = .next (((v.commitArms (u.snapAtCommit n) (v.si.ch1.result.toList ++ v.si.ch2.result.toList)).commitShow (u.snapAtCommit n) (v.si.ch1.result.toList ++ v.si.ch2.result.toList)).commitEnd (u.snapAtCommit n) (v.si.ch1.result.toList ++ v.si.ch2.result.toList)))
  ∧ (∀ (one : Bool) (s : State), s.si.set.isSome = true → ∃ t, exec (.psetCrcSweep one false) s = .next t ∧ t.si.faults = s.si.faults ++ [2] ∧ s.sameBut [.si, .boot] t)
  ∧ (∀ (one ok : Bool) (s : State), (ok = true ∨ s.si.set = none) → exec (.psetCrcSweep one ok) s = .next (s))
  ∧ (∀ (s : State), ∃ t, exec (.coreSupplyWindowFault) s = .next t ∧ t.si.faults = s.si.faults ++ [4] ∧ t.boot.coreOut = true ∧ s.sameBut [.si, .boot] t)
  ∧ (∀ (at_ : Nat) (q : TelegramCopy) (r : List TelegramCopy) (s : State), s.si.queue = q :: r → s.matchConn q.port q.udp q.bytes = none → ∃ t, exec (.signetTelegramRx at_) s = .next t ∧ t = { s.advance at_ with si := { s.si with queue := r, unmatched := tset s.si.unmatched q.port (tget s.si.unmatched q.port 0 + 1) } })
  ∧ (∀ (at_ : Nat) (q : TelegramCopy) (r : List TelegramCopy) (c : Fin 64) (o : SafeObject) (s : State), s.si.queue = q :: r → s.matchConn q.port q.udp q.bytes = some c → s.object c = some o → ∃ t, exec (.signetTelegramRx at_) s = .next t ∧ t.now = max s.now at_ ∧ t.si.queue = r ∧ t.conn c = { s.conn c with inbox := (s.conn c).inbox ++ [(signetItem o.conn q at_).1] } ∧ (∀ d, d ≠ c → t.conn d = s.conn d))
  ∧ (∀ (c : Fin 64) (n : SafeSnap) (o : SafeObject) (s : State), s.si.snap = some n → s.object c = some o → ∃ t, exec (.signetWatchdogExpiry c) s = .next t ∧ t.conn c = (s.conn c).watchdog o.conn n.at_ ∧ (∃ m, t.si.snap = some m ∧ tget m.conns c {} = (tget n.conns c {}).watchdog o.conn n.at_))
  ∧ (∀ (c : Fin 64) (n : SafeSnap) (o : SafeObject) (s : State), s.si.snap = some n → s.object c = some o → ∃ t, exec (.signetDegradedExpiry c) s = .next t ∧ t.conn c = (s.conn c).expire o.conn n.commitAt ∧ (∃ m, t.si.snap = some m ∧ tget m.conns c {} = (tget n.conns c {}).expire o.conn n.commitAt))

/-- SAFE_INPUT_CHANGE held below the filter time only moves time, and a low is noted for the test pulses; held for it, the line has its level at its end, the input's other line, the other inputs and all but the island and time stay; the time of a low counts from where a test pulse does not account for it (lowFrom). SAFE_INPUT_DISCREPANCY of a used input without a fault whose lines have disagreed for longer than its discrepancy time: it has a fault, and SI_EVT.INPUT is 1. TEST_PULSE_START of a source in use that is high, once the frames have begun: it is low from its next pulse instant (pulseAt). TEST_PULSE_END: a width later it is high; with no line failing (lineFails) no input changes; an input in use of which a line fails has a fault, TP_DLY later. SAFE_OUTPUT_READBACK_FAULT: the output has a fault and SI_EVT.OUTPUT is 1; with a fault already nothing changes. OUTPUT_TEST_START of an energised output with no test of the channel under way, at the channel's due instant or now if later: the channel's next test is due an interval later; the test starts, its own pin low, unless the other channel's pin is low or FB_DLY has not passed since it was energised. OUTPUT_TEST_END, a width after the start: the test is over and its pin high; where the readback fell or rose too late (testPasses), the output has a fault, FB_DLY later. BRAKE_DELAY_EXPIRY: at its instant the output is off with both pins low. SI_REQ_STO, SS1, SS2 and RELEASE wait for the capture with codes 1 to 4, and SI_TOKEN's word too. SACK_CHANGE held below 1 ms only moves time; held for 1 ms the line changes then. SACK_HOLD_TIMEOUT of a line high for more than 3 s: it is marked as ignored. TOKEN_EXPIRY 5 s or more after the token's capture discards it. (Drawn from R412, R414, R415, R416, R418, R419, R420, R421, R423, R424, R425, R426.) (12_safety_functions.md) -/
def Obligations.SafetyCommandsComplete : Prop :=
  (∀ (k : Fin 16) (one : Bool) (t0 held : Nat) (s : State), (t0 + held * 1000 * nsUnits) < t0 + (s.inCfg k).filterTime → exec (.safeInputChange k one true t0 held) s = .next (s.advance (t0 + held * 1000 * nsUnits)))
  ∧ (∀ (k : Fin 16) (one : Bool) (t0 held : Nat) (s : State), (t0 + held * 1000 * nsUnits) < s.lowFrom k one t0 + (s.inCfg k).filterTime → exec (.safeInputChange k one false t0 held) s = .next ((s.setSin k ((s.sin k).low one t0 (t0 + held * 1000 * nsUnits))).advance (t0 + held * 1000 * nsUnits)))
  ∧ (∀ (k : Fin 16) (one level : Bool) (t0 held : Nat) (s : State), ((if level then t0 else s.lowFrom k one t0) + (s.inCfg k).filterTime) ≤ (t0 + held * 1000 * nsUnits) → ∃ t, exec (.safeInputChange k one level t0 held) s = .next t ∧ t.now = max s.now ((if level then t0 else s.lowFrom k one t0) + (s.inCfg k).filterTime) ∧ (t.sin k).l1 = (if one then level else (s.sin k).l1) ∧ (t.sin k).l2 = (if one then (s.sin k).l2 else level) ∧ (∀ j, j ≠ k → t.sin j = s.sin j) ∧ s.sameBut [.now, .si] t)
  ∧ (∀ (k : Fin 16) (at_ u : Nat) (s : State), (s.sin k).since = some u → s.inUsed k = true → u + (s.inCfg k).disc * 1000000 * nsUnits < at_ → (s.sin k).fault = false → ∃ t, exec (.safeInputDiscrepancy k at_) s = .next t ∧ t.now = max s.now at_ ∧ (t.sin k).fault = true ∧ (t.sin k).seen = false ∧ t.is SI_EVT.INPUT = true)
  ∧ (∀ (n : Fin 4) (b : Time) (s : State), s.si.tpsBase = some b → n ∈ s.pset.sourcesInUse → s.si.tpsLow.all (fun (q : Fin 4 × Time) => q.1 != n) = true → ∃ t, exec (.testPulseStart n) s = .next t ∧ t.now = max s.now (s.pset.pulseAt n b s.now) ∧ t.si.tpsLow = s.si.tpsLow ++ [(n, s.pset.pulseAt n b s.now)] ∧ s.sameBut [.now, .si] t)
  ∧ (∀ (n : Fin 4) (u : Time) (s : State), s.si.tpsLow.find? (fun (q : Fin 4 × Time) => q.1 == n) = some (n, u) → (∀ (k : Fin 16) (one : Bool), s.inUsed k = true → s.lineFails k one n u (u + (s.pset.pulse n).width * 1000 * nsUnits) ((s.pset.pulse n).tpDly * 1000 * nsUnits) = false) → ∃ t, exec (.testPulseEnd n) s = .next t ∧ t.now = max s.now (u + (s.pset.pulse n).width * 1000 * nsUnits) ∧ (∀ q ∈ t.si.tpsLow, q.1 ≠ n) ∧ (∀ k, t.sin k = s.sin k) ∧ s.sameBut [.now, .si] t)
  ∧ (∀ (n : Fin 4) (u : Time) (k : Fin 16) (one : Bool) (s : State), s.si.tpsLow.find? (fun (q : Fin 4 × Time) => q.1 == n) = some (n, u) → s.inUsed k = true → s.lineFails k one n u (u + (s.pset.pulse n).width * 1000 * nsUnits) ((s.pset.pulse n).tpDly * 1000 * nsUnits) = true → ∃ t, exec (.testPulseEnd n) s = .next t ∧ t.now = max s.now ((u + (s.pset.pulse n).width * 1000 * nsUnits) + ((s.pset.pulse n).tpDly * 1000 * nsUnits)) ∧ (∀ q ∈ t.si.tpsLow, q.1 ≠ n) ∧ (t.sin k).fault = true)
  ∧ (∀ (k : Fin 12) (one : Bool) (s : State), (s.sout k).fault = false → ∃ t, exec (.safeOutputReadbackFault k one) s = .next t ∧ (t.sout k).fault = true ∧ t.is SI_EVT.OUTPUT = true ∧ (∀ j, j ≠ k → t.sout j = s.sout j))
  ∧ (∀ (k : Fin 12) (one : Bool) (s : State), (s.sout k).fault = true → exec (.safeOutputReadbackFault k one) s = .next (s))
  ∧ (∀ (k : Fin 12) (one : Bool) (u : Nat) (s : State), (s.sout k).on = some u → (if one then (s.sout k).t1 else (s.sout k).t2) = none → (if one then (s.sout k).p2 else (s.sout k).p1) = true → u + (s.outCfg k).fbDly * 1000 * nsUnits ≤ (max s.now (if one then (s.sout k).n1 else (s.sout k).n2)) → ∃ t, exec (.outputTestStart k one) s = .next t ∧ t.now = (max s.now (if one then (s.sout k).n1 else (s.sout k).n2)) ∧ t.sout k = ((s.sout k).next one (t.now + (s.outCfg k).interval)).test one (some t.now) ∧ (∀ j, j ≠ k → t.sout j = s.sout j))
  ∧ (∀ (k : Fin 12) (one : Bool) (u : Nat) (s : State), (s.sout k).on = some u → (if one then (s.sout k).t1 else (s.sout k).t2) = none → (if one then (s.sout k).p2 else (s.sout k).p1) = false ∨ (max s.now (if one then (s.sout k).n1 else (s.sout k).n2)) < u + (s.outCfg k).fbDly * 1000 * nsUnits → ∃ t, exec (.outputTestStart k one) s = .next t ∧ t.now = (max s.now (if one then (s.sout k).n1 else (s.sout k).n2)) ∧ t.sout k = (s.sout k).next one (t.now + (s.outCfg k).interval) ∧ (∀ j, j ≠ k → t.sout j = s.sout j))
  ∧ (∀ (k : Fin 12) (one : Bool) (low high : Option Nat) (u : Nat) (s : State), (if one then (s.sout k).t1 else (s.sout k).t2) = some u → testPasses u (u + (s.outCfg k).testWidth * 1000 * nsUnits) ((s.outCfg k).fbDly * 1000 * nsUnits) low high = true → ∃ t, exec (.outputTestEnd k one low high) s = .next t ∧ t.now = max s.now (u + (s.outCfg k).testWidth * 1000 * nsUnits) ∧ t.sout k = (s.sout k).test one none)
  ∧ (∀ (k : Fin 12) (one : Bool) (low high : Option Nat) (u : Nat) (s : State), (if one then (s.sout k).t1 else (s.sout k).t2) = some u → testPasses u (u + (s.outCfg k).testWidth * 1000 * nsUnits) ((s.outCfg k).fbDly * 1000 * nsUnits) low high = false → ∃ t, exec (.outputTestEnd k one low high) s = .next t ∧ t.now = max s.now ((u + (s.outCfg k).testWidth * 1000 * nsUnits) + ((s.outCfg k).fbDly * 1000 * nsUnits)) ∧ t.sout k = { (s.sout k).test one none with fault := true })
  ∧ (∀ (k : Fin 12) (at_ : Time) (s : State), (s.sout k).brk = some at_ → ∃ t, exec (.brakeDelayExpiry k) s = .next t ∧ t.now = max s.now at_ ∧ (t.sout k).on = none ∧ (t.sout k).p1 = false ∧ (t.sout k).p2 = false ∧ (t.sout k).brk = none)
  ∧ (∀ (arms : BitVec 8) (s : State), exec (.siReqSto arms) s = .next ({ s with si := { s.si with reqs := s.si.reqs ++ [(arms, 1)] } }))
  ∧ (∀ (arms : BitVec 8) (s : State), exec (.siReqSs1 arms) s = .next ({ s with si := { s.si with reqs := s.si.reqs ++ [(arms, 2)] } }))
  ∧ (∀ (arms : BitVec 8) (s : State), exec (.siReqSs2 arms) s = .next ({ s with si := { s.si with reqs := s.si.reqs ++ [(arms, 3)] } }))
  ∧ (∀ (arms : BitVec 8) (s : State), exec (.siReqRelease arms) s = .next ({ s with si := { s.si with reqs := s.si.reqs ++ [(arms, 4)] } }))
  ∧ (∀ (v : Word) (s : State), exec (.siToken v) s = .next ({ s with si := { s.si with tokens := s.si.tokens ++ [v] } }))
  ∧ (∀ (one level : Bool) (t0 held : Nat) (s : State), held < 1000 → exec (.sackChange one level t0 held) s = .next (s.advance (t0 + held * 1000 * nsUnits)))
  ∧ (∀ (one level : Bool) (t0 held : Nat) (s : State), 1000 ≤ held → ∃ t, exec (.sackChange one level t0 held) s = .next t ∧ t.now = max s.now (t0 + 1000000 * nsUnits) ∧ t.sack one = (s.sack one).change level (t0 + 1000000 * nsUnits) ∧ t.sack (!one) = s.sack (!one) ∧ s.sameBut [.now, .si] t)
  ∧ (∀ (one : Bool) (at_ r : Nat) (s : State), (s.sack one).level = true → (s.sack one).rise = some r → r + 3 * secUnits < at_ → ∃ t, exec (.sackHoldTimeout one at_) s = .next t ∧ t.now = max s.now at_ ∧ t.sack one = { s.sack one with ignored := true })
  ∧ (∀ (at_ u : Nat) (arms : BitVec 8) (b : Bool) (s : State), s.si.token = some (u, arms, b) → u + 5 * secUnits ≤ at_ → ∃ t, exec (.tokenExpiry at_) s = .next t ∧ t = { s.advance at_ with si := { s.si with token := none } })

/-- CHAIN_EN_WRITE: CS_EN follows bit 1. EN 0 to 1 with a valid schedule in memory: it is in force, CH_SCHED_ID shows it, the state is LISTEN (1); with an invalid one CFG_REFUSED is set besides; EN 1 to 0: the node is switched off (chainOff); EN unchanged: nothing else. CHAIN_SCHEDULE_WRITE with EN 0 writes the bytes within the 32 KiB; with EN 1 it only sets CFG_REFUSED. CHAIN_LISTEN_TIMEOUT of a node in LISTEN with CS_EN and no back-off: when the timeout has passed the state is COLDSTART (2). CHAIN_COLDSTART_CLAIM in COLDSTART without a claim, the periods running: the claim is sent in cycle 0, and each Clasp the node hosts is in window mode. CHAIN_BACKOFF_EXPIRY: at its end none runs. CHAIN_SOURCE_LOST after more than 8 cycles without a locked gateway frame: the source is lost (chainLost), before that nothing. CHAIN_LINK_CHANGE of lane 0 or 8 (port 0 of channel A or B) of a channel whose Clasp the node does not host: LINK_A or LINK_B is the new state; of another port of a hosted Clasp its bit of CP_STAT; otherwise nothing. CHAIN_RATE_REQUEST in INTEGRATE or ACTIVE: the offset is the cluster's (chainOffset), CH_OFFSET shows it in the register's unit, and with Chain the time source and no HOLDOVER the accumulated rate falls by offset / (16 cycle lengths), in other cases it stays. (Drawn from R459, R465, R467, R469, R470, R473, R475, R476.) (14_chain_bus.md) -/
def Obligations.ChainControlComplete : Prop :=
  (∀ (v : Word) (s : State), v.getLsbD 0 = true → s.is CH_CTRL.EN = false → (s.putB CH_CTRL.CS_EN (v.getLsbD 1)).schedOk = true → ∃ t, exec (.chainEnWrite v) s = .next t ∧ t.is CH_CTRL.EN = true ∧ t.is CH_CTRL.CS_EN = v.getLsbD 1 ∧ t.chain.sched = some (Sched.ofBytes s.schedBytes) ∧ t.rd CH_SCHED_ID = (Sched.ofBytes s.schedBytes).id ∧ t.get CH_STAT.STATE = 1)
  ∧ (∀ (v : Word) (s : State), v.getLsbD 0 = true → s.is CH_CTRL.EN = false → (s.putB CH_CTRL.CS_EN (v.getLsbD 1)).schedOk = false → exec (.chainEnWrite v) s = .next ((s.putB CH_CTRL.CS_EN (v.getLsbD 1)).flag CH_STAT.CFG_REFUSED))
  ∧ (∀ (v : Word) (s : State), v.getLsbD 0 = false → s.is CH_CTRL.EN = true → exec (.chainEnWrite v) s = .next (((s.putB CH_CTRL.CS_EN (v.getLsbD 1)).put CH_CTRL.EN 0).chainOff))
  ∧ (∀ (v : Word) (s : State), v.getLsbD 0 = s.is CH_CTRL.EN → exec (.chainEnWrite v) s = .next (s.putB CH_CTRL.CS_EN (v.getLsbD 1)))
  ∧ (∀ (o : Nat) (bs : List Byte) (s : State), s.is CH_CTRL.EN = false → exec (.chainScheduleWrite o bs) s = .next (s.mwrite (schedAddr + o) (bs.take (0x8000 - o))))
  ∧ (∀ (o : Nat) (bs : List Byte) (s : State), s.is CH_CTRL.EN = true → exec (.chainScheduleWrite o bs) s = .next (s.flag CH_STAT.CFG_REFUSED))
  ∧ (∀ (c : Sched) (s : State), s.chain.sched = some c → s.get CH_STAT.STATE = 1 → s.is CH_CTRL.CS_EN = true → s.chain.backoff = none → ∃ t, exec (.chainListenTimeout) s = .next t ∧ t.now = max s.now (s.chain.listen + c.listen * nsUnits) ∧ t.get CH_STAT.STATE = 2 ∧ t.chain.claimed = false)
  ∧ (∀ (c : Sched) (q : ChainSlot) (k : Nat) (s : State), s.chain.sched = some c → c.slots.zipIdx.find? (fun p => p.1.owner == s.ownCell && p.1.cs) = some (q, k) → s.get CH_STAT.STATE = 2 → s.chain.claimed = false → s.seq.running = true → ∃ t, exec (.chainColdstartClaim) s = .next t ∧ t.chain.claimed = true ∧ t.chain.cycle = 0 ∧ t.rd CH_CYCLE = 0 ∧ t.chain.sent.isSome = true ∧ ((s.hosts false = true → t.is (CP_STAT.MODE 0) = true)) ∧ ((s.hosts true = true → t.is (CP_STAT.MODE 1) = true)))
  ∧ (∀ (at_ : Time) (s : State), s.chain.backoff = some at_ → ∃ t, exec (.chainBackoffExpiry) s = .next t ∧ t.now = max s.now at_ ∧ t.chain.backoff = none ∧ t.get CH_STAT.BACKOFF = 0)
  ∧ (∀ (s : State), 8 < s.chain.gwAge → exec (.chainSourceLost) s = .next (s.chainLost))
  ∧ (∀ (s : State), s.chain.gwAge ≤ 8 → exec (.chainSourceLost) s = .next (s))
  ∧ (∀ (lane : Fin 16) (b up : Bool) (s : State), lane.val = (if b then 8 else 0) → s.hosts b = false → exec (.chainLinkChange lane up) s = .next (s.putB (if b then CH_STAT.LINK_B else CH_STAT.LINK_A) up))
  ∧ (∀ (lane : Fin 16) (b up : Bool) (s : State), lane.val = (if b then 8 else 0) → s.hosts b = true → exec (.chainLinkChange lane up) s = .next (s))
  ∧ (∀ (lane : Fin 16) (x : Fin 2) (up : Bool) (s : State), lane.val / 8 = x.val → lane.val % 8 ≠ 0 → s.hosts (decide (8 ≤ lane.val)) = true → exec (.chainLinkChange lane up) s = .next (s.putB ⟨.cp x .CP_STAT, lane.val % 8, 1⟩ up))
  ∧ (∀ (lane : Fin 16) (up : Bool) (s : State), lane.val % 8 ≠ 0 → s.hosts (decide (8 ≤ lane.val)) = false → exec (.chainLinkChange lane up) s = .next (s))
  ∧ (∀ (c : Sched) (s : State), s.chain.sched = some c → (s.get CH_STAT.STATE = 3 ∨ s.get CH_STAT.STATE = 4) → ∃ t, exec (.chainRateRequest) s = .next t ∧ t.chain.offset = s.chainOffset.1 ∧ t.rd CH_OFFSET = wordOf (chainInt s.chainOffset.1) ∧ t.chain.rho = (if s.get TB_CTRL.SOURCE = 1 ∧ s.get TB_STAT.STATE ≠ 3 then s.chain.rho - s.chainOffset.1 / nsUnits / (16 * c.cycleNs) else s.chain.rho))

/-- CHAIN_CYCLE_START of a node in ACTIVE, no step due or announced: one cycle length after the last start, that is the start, CH_CYCLE counts on modulo its range, nothing is received yet. CHAIN_BUILD_POINT of an own slot in ACTIVE, 4 us before its launch (buildPoint): both lanes' content, kept for the slot with its layout, is that of chainPayload; the fallback layout is taken when the node's choice or a lane without link asks for it, and FB_TX shows it. CHAIN_FRAME_LAUNCH of an own slot in ACTIVE: at its launch instant frames go out and the content built for it is used up. CHAIN_FRAME_RX in ACTIVE: a violation report sets WIN_VIOL and makes VIOL_RUN one more than the run that stands then (violRun), and the node stays ACTIVE, but the third of a run leads to LISTEN; a frame with a coding error or that no frame layout fits occupies the lane and counts as invalid for the slot it lies in (invalidAt); any other frame of this schedule, which occupies the lane unless it is the node's own, is judged and taken by chainFrame; a link-delay request is noted with its ingress; a delay result joins the lane's results and the lane's CH_LINKDLY shows their mean. LINK_DELAY_ANSWER of a noted request: 2 us after it reached the pin the answer goes out with t2 and t3, t3 the egress in whole ns plus TSP_EGRESS, and the request is gone. (Drawn from R457, R458, R463, R464, R465, R469, R473, R478.) (14_chain_bus.md) -/
def Obligations.ChainCyclesComplete : Prop :=
  (∀ (c : Sched) (own : Time) (s : State), s.chain.sched = some c → s.chain.start = some own → s.get CH_STAT.STATE = 4 → s.chain.step = none → s.chain.announce = false → ∃ t, exec (.chainCycleStart) s = .next t ∧ t.now = max s.now (own + c.cycleNs * nsUnits) ∧ t.chain.start = some (own + c.cycleNs * nsUnits) ∧ t.chain.cycle = (s.chain.cycle + 1) % cycleMod c.ver ∧ t.rd CH_CYCLE = BitVec.ofNat 32 t.chain.cycle ∧ t.chain.got = [])
  ∧ (∀ (k : Fin 64) (c : Sched) (q : ChainSlot) (own : Time) (s : State), s.chain.sched = some c → s.chain.start = some own → c.slot (k.val + 1) = some q → q.owner = s.ownCell → s.get CH_STAT.STATE = 4 → ∃ t, exec (.chainBuildPoint k) s = .next t ∧ t.now = max s.now (buildPoint c q own) ∧ t.chain.built.find? (fun x => x.1 = k.val + 1) = some (k.val + 1, (t.chain.fb, ((s.advance (buildPoint c q own)).chainPayload c (k.val + 1) q false t.chain.fb, (s.advance (buildPoint c q own)).chainPayload c (k.val + 1) q true t.chain.fb))) ∧ t.chain.fb = (s.chain.fb || s.laneDown false || s.laneDown true) ∧ t.is CH_STAT.FB_TX = t.chain.fb)
  ∧ (∀ (k : Fin 64) (c : Sched) (q : ChainSlot) (own : Time) (s : State), s.chain.sched = some c → s.chain.start = some own → c.slot (k.val + 1) = some q → q.owner = s.ownCell → s.get CH_STAT.STATE = 4 → ∃ t, exec (.chainFrameLaunch k) s = .next t ∧ t.now = max s.now (own + (q.start + c.launch) * nsUnits) ∧ t.chain.sent.isSome = true ∧ t.chain.built = s.chain.built.filter (fun x => x.1 ≠ k.val + 1))
  ∧ (∀ (b : Bool) (dev : Int) (k at_ : Nat) (c : Sched) (s : State), s.chain.sched = some c → s.get CH_STAT.STATE = 4 → (s.advance at_).violRun < 2 → ∃ t, exec (.chainFrameRx b (.report dev k) at_) s = .next t ∧ t.is CH_STAT.WIN_VIOL = true ∧ t.get CH_STAT.VIOL_RUN = (s.advance at_).violRun + 1 ∧ t.get CH_STAT.STATE = 4)
  ∧ (∀ (b : Bool) (dev : Int) (k at_ : Nat) (c : Sched) (s : State), s.chain.sched = some c → s.get CH_STAT.STATE = 4 → 2 ≤ (s.advance at_).violRun → ∃ t, exec (.chainFrameRx b (.report dev k) at_) s = .next t ∧ t.is CH_STAT.WIN_VIOL = true ∧ t.get CH_STAT.VIOL_RUN = 3 ∧ t.get CH_STAT.STATE = 1)
  ∧ (∀ (b bad : Bool) (at_ : Nat) (c : Sched) (bs : List Byte) (s : State), s.chain.sched = some c → s.get CH_STAT.STATE = 4 → (bad = true ∨ Frame.ofBytes c.ver bs = none) → exec (.chainFrameRx b (.frame bs bad) at_) s = .next (((s.advance at_).onLane c bs at_).invalidAt c b at_))
  ∧ (∀ (b : Bool) (at_ : Nat) (c : Sched) (bs : List Byte) (f : Frame) (s : State), s.chain.sched = some c → s.get CH_STAT.STATE = 4 → Frame.ofBytes c.ver bs = some f → (c.ver = 1 ∨ f.sched = some c.id) → exec (.chainFrameRx b (.frame bs false) at_) s = .next ((if cellOf f.addr ≠ s.ownCell then (s.advance at_).onLane c bs at_ else s.advance at_).chainFrame c f b at_))
  ∧ (∀ (b : Bool) (at_ : Nat) (c : Sched) (s : State), s.chain.sched = some c → s.get CH_STAT.STATE = 4 → ∃ t, exec (.chainFrameRx b .delayRequest at_) s = .next t ∧ t.now = max s.now at_ ∧ tget t.chain.request b 0 = s.chainIngress b at_)
  ∧ (∀ (b : Bool) (d : Int) (at_ : Nat) (c : Sched) (s : State), s.chain.sched = some c → s.get CH_STAT.STATE = 4 → ∃ t, exec (.chainFrameRx b (.delayResult d) at_) s = .next t ∧ t.now = max s.now at_ ∧ tget t.chain.delays b [] = joinDelay (tget s.chain.delays b []) d ∧ t.rd (if b then CH_LINKDLY_B else CH_LINKDLY_A) = delayMean (tget t.chain.delays b []))
  ∧ (∀ (b : Bool) (t2 : Int) (s : State), s.chain.request.find? (fun q => q.1 = b) = some (b, t2) → ∃ t, exec (.linkDelayAnswer b) s = .next t ∧ t.now = max s.now (t2 + (getBits (s.rd (TSP_INGRESS (lanePort b))) 0 24 : Nat) + 2000 * nsUnits).toNat ∧ (∀ q ∈ t.chain.request, q.1 ≠ b) ∧ tget t.chain.answer b (0, 0) = (t2, ((ceilTo nsUnits t.now + getBits (s.rd (TSP_EGRESS (lanePort b))) 0 24 : Nat) : Int)))

/-- CLASP_LINK_DELAY_REQUEST of a Clasp that is on, in window mode and in its turn of cycles: a request is under way on every port but 0 that is on, and the other Clasp stays. CLASP_FRAME_ARRIVAL at a port that is on: an answer to the port's request gives a delay of half the round trip less the answerer's stay, which joins the port's results, is the result returned, and whose mean CP_LINKDLY shows; in window mode a frame is judged by the window (windowFrame); in arbitrated mode a frame on a Clasp that is busy only counts in CP_ARB_CNT, a first frame opens the tie window, one within 10 ns of it joins, a later one only counts. At a Clasp or port that is off only time moves. CLASP_TIE_WINDOW, 10 ns after the first frame: the frame of the lowest port is forwarded and keeps the Clasp busy for its time on the lane, and each further one counts in CP_ARB_CNT. CLASP_ARBITRATE_RETURN in window mode of a node in LISTEN, or in COLDSTART before a claim: at the end of the listen timeout the mode is ARBITRATE. (Drawn from R469, R477, R478.) (14_chain_bus.md) -/
def Obligations.ClaspCommandsComplete : Prop :=
  (∀ (x : Fin 2) (s : State), s.claspOn x = true → s.is (CP_STAT.MODE x) = true → s.chain.cycle % 2 = x.val → ∃ t, exec (.claspLinkDelayRequest x) s = .next t ∧ ((t.clasp x).requests.map Prod.fst = (finList 8).filter (fun p => p ≠ 0 && s.portOn x p)) ∧ t.clasp (1 - x) = s.clasp (1 - x))
  ∧ (∀ (x : Fin 2) (p : Fin 8) (t1 t2 t3 : Int) (at_ : Nat) (s : State), s.claspOn x = true → s.portOn x p = true → (s.clasp x).requests.find? (fun q => q.1 = p) = some (p, t1) → ∃ t, exec (.claspFrameArrival x p (.answer t2 t3) at_) s = .next t ∧ t.now = max s.now at_ ∧ tget (t.clasp x).delays p [] = joinDelay (tget (s.clasp x).delays p []) ((((s.claspIngress x p at_ - t1) - (t3 - t2) : Int) : Rat) / 2) ∧ (t.clasp x).result = some (p, ((((s.claspIngress x p at_ - t1) - (t3 - t2) : Int) : Rat) / 2)) ∧ t.rd (CP_LINKDLY x p) = delayMean (tget (t.clasp x).delays p []) ∧ (∀ q ∈ (t.clasp x).requests, q.1 ≠ p))
  ∧ (∀ (x : Fin 2) (p : Fin 8) (bs : List Byte) (at_ : Nat) (s : State), s.claspOn x = true → s.portOn x p = true → s.is (CP_STAT.MODE x) = true → exec (.claspFrameArrival x p (.frame bs) at_) s = .next ((s.advance at_).windowFrame x p bs at_))
  ∧ (∀ (x : Fin 2) (p : Fin 8) (bs : List Byte) (at_ : Nat) (s : State), s.claspOn x = true → s.portOn x p = true → s.is (CP_STAT.MODE x) = false → at_ < (s.clasp x).busy → exec (.claspFrameArrival x p (.frame bs) at_) s = .next ((s.advance at_).bump (.cp x .CP_ARB_CNT)))
  ∧ (∀ (x : Fin 2) (p : Fin 8) (bs : List Byte) (at_ : Nat) (s : State), s.claspOn x = true → s.portOn x p = true → s.is (CP_STAT.MODE x) = false → (s.clasp x).busy ≤ at_ → (s.clasp x).tie = [] → exec (.claspFrameArrival x p (.frame bs) at_) s = .next ((s.advance at_).setClasp x { s.clasp x with tie := [(p, at_, bs)] }))
  ∧ (∀ (x : Fin 2) (p q : Fin 8) (bs cs : List Byte) (at_ t0 : Nat) (r : List (Fin 8 × Time × List Byte)) (s : State), s.claspOn x = true → s.portOn x p = true → s.is (CP_STAT.MODE x) = false → (s.clasp x).busy ≤ at_ → (s.clasp x).tie = (q, t0, cs) :: r → at_ ≤ t0 + 10 * nsUnits → exec (.claspFrameArrival x p (.frame bs) at_) s = .next ((s.advance at_).setClasp x { s.clasp x with tie := (s.clasp x).tie ++ [(p, at_, bs)] }))
  ∧ (∀ (x : Fin 2) (p q : Fin 8) (bs cs : List Byte) (at_ t0 : Nat) (r : List (Fin 8 × Time × List Byte)) (s : State), s.claspOn x = true → s.portOn x p = true → s.is (CP_STAT.MODE x) = false → (s.clasp x).busy ≤ at_ → (s.clasp x).tie = (q, t0, cs) :: r → t0 + 10 * nsUnits < at_ → exec (.claspFrameArrival x p (.frame bs) at_) s = .next ((s.advance at_).bump (.cp x .CP_ARB_CNT)))
  ∧ (∀ (x : Fin 2) (p : Fin 8) (f : ClaspRx) (at_ : Nat) (s : State), (s.claspOn x = false ∨ s.portOn x p = false) → exec (.claspFrameArrival x p f at_) s = .next (s.advance at_))
  ∧ (∀ (x : Fin 2) (p q : Fin 8) (bs cs : List Byte) (t0 at_ : Time) (r : List (Fin 8 × Time × List Byte)) (s : State), lowestPort (s.clasp x).tie = some (p, at_, bs) → (s.clasp x).tie = (q, t0, cs) :: r → exec (.claspTieWindow x) s = .next ((r.foldl (fun (u : State) _ => u.bump (.cp x .CP_ARB_CNT)) ((s.advance (t0 + 10 * nsUnits)).setClasp x { s.clasp x with tie := [], busy := at_ + laneTime bs })).forward x p bs false))
  ∧ (∀ (x : Fin 2) (c : Sched) (s : State), s.chain.sched = some c → (s.get CH_STAT.STATE = 1 ∨ s.get CH_STAT.STATE = 2 ∧ s.chain.claimed = false) → s.is (CP_STAT.MODE x) = true → exec (.claspArbitrateReturn x) s = .next ((s.advance (s.chain.listen + c.listen * nsUnits)).put (CP_STAT.MODE x) 0))

/-- PLANE_COMPARISON of an ended period with both planes running the same images, 24 ns after the window edge: without difference MISM_RUN is 0 and PC_CONF_CNT counts one while a plane is in SHADOW; with one PC_MISM_A and PC_MISM_B count one. PLANE_SELF_FAULT: a plane in states 2 to 5 shows the cause and gives up, and words of a tile with an uncorrectable error are bad, its task ending with fault 5 (eccError); both, if the other finds one too; in TEST the cause shows and the plane is DOWN; in DOWN only time moves. PLANE_GIVEUP_AT_PORT of a crossing port: it has crossed and the former plane's posts are gone. PC_RETURN of a plane DOWN starts its test, PC_TAKE_DOWN of one in states 2 to 4 takes it down, PC_HANDOVER with the other plane STANDBY waits for the boundary; in any other state each only sets CMD_REFUSED. PC_EXT_TEST sets EXT_RUN. PLANE_TEST_DONE in TEST: failed, the cause shows and the plane is DOWN; passed, not after a reset, it is in TRANSFER, its sweep from now; passed after a reset, that is noted (bootPlanes). TRANSFER_SWEEP_DONE: the plane's memory and Kilns are those of the other (copyPlane), PC_XFER is 0. TRANSFER_TIMEOUT of an unfinished sweep: 10 s after its start it is a transfer fault and the plane gives up. PLANE_CONFIRMED with PC_CONFIRM reached: a SHADOW plane A is STANDBY unless B is ACTIVE, then its handover waits; a SHADOW plane B without A in SHADOW is STANDBY. EXT_TEST_DONE of a running test without a find: EXT_RUN 0, UNRESOLVED 1, MISM_RUN 0; with finds each plane found has a self-found fault. LBIST_SLICE counts a slice of the tile in each running plane, the 256th completing a pass now; the other tiles, and all but the tiles, the planes and the count of free values, stay. LBIST_STARVED of a running plane sets LBIST_STARVED (bit 7 of its health report). (Drawn from R488, R491, R493, R494, R497, R498, R500, R502.) (15_plane_redundancy.md) -/
def Obligations.PlaneCommandsComplete : Prop :=
  (∀ (c : PeriodCmp) (s : State), s.pc.prev = some c → s.runPlanes.length = 2 → s.pc.since ≤ s.periodNo - 1 → s.sameImages = true → c.diff = none → ∃ t, exec (.planeComparison) s = .next t ∧ t.now = max s.now (s.boundary s.periodNo + 24 * nsUnits) ∧ t.get PC_STAT.MISM_RUN = 0 ∧ t.rd PC_MISM_A = s.rd PC_MISM_A ∧ t.rd PC_MISM_B = s.rd PC_MISM_B ∧ (t.rd PC_CONF_CNT = (if s.planeState 0 = 3 ∨ s.planeState 1 = 3 then BitVec.ofNat 32 (satAdd 24 (s.rd PC_CONF_CNT).toNat 1) else s.rd PC_CONF_CNT)))
  ∧ (∀ (c : PeriodCmp) (d : Nat × Nat) (s : State), s.pc.prev = some c → s.runPlanes.length = 2 → s.pc.since ≤ s.periodNo - 1 → s.sameImages = true → c.diff = some d → ∃ t, exec (.planeComparison) s = .next t ∧ t.now = max s.now (s.boundary s.periodNo + 24 * nsUnits) ∧ t.rd PC_MISM_A = satInc (s.rd PC_MISM_A) ∧ t.rd PC_MISM_B = satInc (s.rd PC_MISM_B))
  ∧ (∀ (pl : Fin 2) (k : PlaneFault) (tile : Option (Fin 16)) (at_ : Nat) (s : State), 2 ≤ s.planeState pl → (k ≠ .eccUe ∨ tile = none) → exec (.planeSelfFault pl k tile [] none at_) s = .next (((s.advance at_).setHealth pl k tile).giveUps [pl]))
  ∧ (∀ (pl : Fin 2) (i : Fin 16) (words : List Nat) (at_ : Nat) (s : State), 2 ≤ s.planeState pl → exec (.planeSelfFault pl .eccUe (some i) words none at_) s = .next ((((s.advance at_).eccError (tileOf pl i) words).setHealth pl .eccUe (some i)).giveUps [pl]))
  ∧ (∀ (pl : Fin 2) (k f : PlaneFault) (tile : Option (Fin 16)) (at_ : Nat) (s : State), 2 ≤ s.planeState pl → 2 ≤ s.planeState (1 - pl) → (k ≠ .eccUe ∨ tile = none) → exec (.planeSelfFault pl k tile [] (some f) at_) s = .next (((((s.advance at_).setHealth pl k tile).setHealth (1 - pl) f none)).giveUps [pl, 1 - pl]))
  ∧ (∀ (pl : Fin 2) (k : PlaneFault) (tile : Option (Fin 16)) (at_ : Nat) (s : State), s.planeState pl = 1 → (k ≠ .eccUe ∨ tile = none) → exec (.planeSelfFault pl k tile [] none at_) s = .next ((((s.advance at_).setHealth pl k tile).planeDown pl).bootPlanes))
  ∧ (∀ (pl : Fin 2) (k : PlaneFault) (tile : Option (Fin 16)) (at_ : Nat) (s : State), s.planeState pl = 0 → (k ≠ .eccUe ∨ tile = none) → exec (.planeSelfFault pl k tile [] none at_) s = .next (s.advance at_))
  ∧ (∀ (n : Fin 64) (s : State), n ∈ s.pc.crossing → ∃ t, exec (.planeGiveupAtPort n) s = .next t ∧ t.now = max s.now s.pc.crossAt ∧ n ∉ t.pc.crossing ∧ (∀ q ∈ (t.port n).posts, q.1 ≠ s.pc.former))
  ∧ (∀ (pl : Fin 2) (s : State), s.planeState pl = 0 → exec (.pcReturn pl) s = .next (s.planeTest pl))
  ∧ (∀ (pl : Fin 2) (s : State), s.planeState pl ≠ 0 → exec (.pcReturn pl) s = .next (s.flag PC_STAT.CMD_REFUSED))
  ∧ (∀ (s : State), s.planeState s.activePlane = 5 → s.planeState (1 - s.activePlane) = 4 → ∃ t, exec (.pcHandover) s = .next t ∧ t.pc.pend = some (1 - s.activePlane, 2) ∧ s.sameBut [.pc] t)
  ∧ (∀ (s : State), (s.planeState s.activePlane ≠ 5 ∨ s.planeState (1 - s.activePlane) ≠ 4) → exec (.pcHandover) s = .next (s.flag PC_STAT.CMD_REFUSED))
  ∧ (∀ (pl : Fin 2) (s : State), 2 ≤ s.planeState pl → s.planeState pl ≤ 4 → exec (.pcTakeDown pl) s = .next (s.planeDown pl))
  ∧ (∀ (pl : Fin 2) (s : State), (s.planeState pl < 2 ∨ 4 < s.planeState pl) → exec (.pcTakeDown pl) s = .next (s.flag PC_STAT.CMD_REFUSED))
  ∧ (∀ (s : State), ∃ t, exec (.pcExtTest) s = .next t ∧ t.is PC_STAT.EXT_RUN = true ∧ s.sameBut [.reg .pc] t)
  ∧ (∀ (pl : Fin 2) (k : PlaneFault) (tile : Option (Fin 16)) (s : State), s.planeState pl = 1 → exec (.planeTestDone pl (some k) tile) s = .next (((s.setHealth pl k tile).planeDown pl).bootPlanes))
  ∧ (∀ (pl : Fin 2) (tile : Option (Fin 16)) (s : State), s.planeState pl = 1 → s.pc.boot = false → ∃ t, exec (.planeTestDone pl none tile) s = .next t ∧ t.planeState pl = 2 ∧ tget t.pc.sweepAt pl 0 = s.now ∧ pl ∉ t.pc.swept)
  ∧ (∀ (pl : Fin 2) (tile : Option (Fin 16)) (s : State), s.planeState pl = 1 → s.pc.boot = true → ∃ t, exec (.planeTestDone pl none tile) s = .next t ∧ t = ({ s with pc := { s.pc with passed := pl :: s.pc.passed } } : State).bootPlanes)
  ∧ (∀ (pl : Fin 2) (s : State), s.planeState pl = 2 → ∃ t, exec (.transferSweepDone pl) s = .next t ∧ t.mem = (s.copyPlane pl).mem ∧ t.kiln = (s.copyPlane pl).kiln ∧ t.rd PC_XFER = 0 ∧ pl ∈ t.pc.swept)
  ∧ (∀ (pl : Fin 2) (s : State), s.planeState pl = 2 → pl ∉ s.pc.swept → exec (.transferTimeout pl) s = .next (((s.advance (tget s.pc.sweepAt pl 0 + 10 * secUnits)).setHealth pl .xfer none).giveUps [pl]))
  ∧ (∀ (s : State), (s.rd PC_CONFIRM).toNat ≤ (s.rd PC_CONF_CNT).toNat → s.planeState 0 = 3 → s.planeState 1 ≠ 5 → ∃ t, exec (.planeConfirmed) s = .next t ∧ t.planeState 0 = 4)
  ∧ (∀ (s : State), (s.rd PC_CONFIRM).toNat ≤ (s.rd PC_CONF_CNT).toNat → s.planeState 0 = 3 → s.planeState 1 = 5 → ∃ t, exec (.planeConfirmed) s = .next t ∧ t.pc.pend = some (0, 1) ∧ s.sameBut [.pc] t)
  ∧ (∀ (s : State), (s.rd PC_CONFIRM).toNat ≤ (s.rd PC_CONF_CNT).toNat → s.planeState 0 ≠ 3 → s.planeState 1 = 3 → ∃ t, exec (.planeConfirmed) s = .next t ∧ t.planeState 1 = 4)
  ∧ (∀ (s : State), s.is PC_STAT.EXT_RUN = true → ∃ t, exec (.extTestDone none none) s = .next t ∧ t.is PC_STAT.EXT_RUN = false ∧ t.is PC_STAT.UNRESOLVED = true ∧ t.get PC_STAT.MISM_RUN = 0 ∧ t.planeState 0 = s.planeState 0 ∧ t.planeState 1 = s.planeState 1)
  ∧ (∀ (f : PlaneFault) (u : State) (s : State), s.is PC_STAT.EXT_RUN = true → u = s.put PC_STAT.EXT_RUN 0 → 2 ≤ u.planeState 0 → exec (.extTestDone (some f) none) s = .next (((u.advance u.now).setHealth 0 f none).giveUps [0]))
  ∧ (∀ (i : Fin 16) (s : State), ∃ t, exec (.lbistSlice i) s = .next t ∧ (∀ pl ∈ s.runPlanes, tget t.pc.lbist (pl, i) (0, 0) = if (tget s.pc.lbist (pl, i) (0, 0)).1 + 1 = 256 then (0, s.now) else ((tget s.pc.lbist (pl, i) (0, 0)).1 + 1, (tget s.pc.lbist (pl, i) (0, 0)).2)) ∧ (∀ j, tileNo j ≠ i → t.tile j = s.tile j) ∧ s.sameBut [.pc, .tiles, .fresh] t)
  ∧ (∀ (pl : Fin 2) (i : Fin 16) (s : State), pl ∈ s.runPlanes → ∃ t, exec (.lbistStarved pl i) s = .next t ∧ t.now = max s.now ((tget s.pc.lbist (pl, i) (0, 0)).2 + (s.rd PC_LBIST_INT).toNat * 1000000 * nsUnits) ∧ (t.rd (healthReg pl)).getLsbD 7 = true ∧ s.sameBut [.now, .reg .pc] t)

/-- MB_COMMAND_WRITE of a byte in the command area (offsets 0x10 to 0x7FF) of an EMPTY slot stores it there. MB_POST of one EMPTY slot not owned by HCI-1: it is POSTED with its header's tag, last in the order of posts. MB_FREE of one finished slot (DONE, DONE-READ, ERROR) not owned by HCI-1: it is EMPTY, its command area stays, its source is clear; of a slot POSTED or BUSY it only sets FREE_REFUSED. MB_TAKE while Hearth serves, of the first posted slot posted over PCIe: with a good header and address, not in recovery, it is BUSY and last in the order taken; with one header fault it is ERROR with that code. MB_DONE of a BUSY slot with a result, first of its group and waiting for nothing: it is DONE with the result; a slot to be discarded is EMPTY. MB_STAT_READ of a DONE slot answers the status word, moves it to DONE-READ and clears its source; of an EMPTY, POSTED or BUSY slot it only answers. HEARTH_RESTART, but during a proving run of Hearth's own update: HEARTH_UP is 0 and every BUSY slot not to be discarded is ERROR with 0x000F; during that run the update falls back and Hearth restarts. HEARTH_UP of a restarting Hearth, not in recovery or stopped, sets HEARTH_UP. HM_EVT_HEAD_READ takes the oldest entry: answers word 0 and latches words 1 to 4. WINDOW_T_WRITE only sets T_WRITE. PCIE_RESET: the MSI-X table has its reset words, link state as given, the PCI command and MSI-X control words 0 (registers that log 62 adds); of slots posted over PCIe, finished ones are EMPTY and POSTED or BUSY ones are to be discarded. (Drawn from R508, R510, R512, R513, R515, R516, R517, R518, R520.) (16_hearth_host_interface.md) -/
def Obligations.MailboxCommandsComplete : Prop :=
  (∀ (k : Fin 16) (b : Byte) (o : Nat) (s : State), (s.slot k).state = 0 → 0x10 ≤ o → o < 0x800 → ∃ t, exec (.mbCommandWrite k o [b]) s = .next t ∧ t.slot k = { s.slot k with cmd := memWrite (s.slot k).cmd o b } ∧ (∀ j, j ≠ k → t.slot j = s.slot j) ∧ s.sameBut [.mb] t)
  ∧ (∀ (k : Fin 16) (s : State), (s.slot k).state = 0 → s.hciOwns k = false → ∃ t, exec (.mbPost (BitVec.ofNat 16 (2 ^ k.val))) s = .next t ∧ (t.slot k).state = 1 ∧ (t.slot k).tag = (s.slot k).hdr 2 2 % 2 ^ 12 ∧ t.mb.posted = s.mb.posted ++ [k] ∧ (∀ j, j ≠ k → t.slot j = s.slot j))
  ∧ (∀ (k : Fin 16) (s : State), s.hciOwns k = false → 3 ≤ (s.slot k).state → ∃ t, exec (.mbFree (BitVec.ofNat 16 (2 ^ k.val))) s = .next t ∧ (t.slot k).state = 0 ∧ (t.slot k).cmd = (s.slot k).cmd ∧ t.get (slotSource k) = 0 ∧ (∀ j, j ≠ k → t.slot j = s.slot j))
  ∧ (∀ (k : Fin 16) (s : State), (s.slot k).state = 1 ∨ (s.slot k).state = 2 → ∃ t, exec (.mbFree (BitVec.ofNat 16 (2 ^ k.val))) s = .next t ∧ t = s.flag HM_DB_STAT.FREE_REFUSED)
  ∧ (∀ (k : Fin 16) (r : List (Fin 16)) (s : State), s.mb.posted = k :: r → s.serves = true → (s.slot k).qspi = false → (s.slot k).headerCodes = [] → (s.slot k).addressOk = true → s.boot.recovery = false → ∃ t, exec (.mbTake) s = .next t ∧ (t.slot k).state = 2 ∧ (t.slot k).out = none ∧ t.mb.taken = s.mb.taken ++ [k] ∧ t.mb.posted = r.filter (· ≠ k))
  ∧ (∀ (k : Fin 16) (r : List (Fin 16)) (c : Nat) (s : State), s.mb.posted = k :: r → s.serves = true → (s.slot k).qspi = false → (s.slot k).headerCodes = [c] → (s.slot k).drop = false → ∃ t, exec (.mbTake) s = .next t ∧ (t.slot k).state = 15 ∧ (t.slot k).code = c ∧ t.mb.posted = r.filter (· ≠ k))
  ∧ (∀ (k : Fin 16) (c : Nat) (r : List Byte) (s : State), (s.slot k).out = some (c, r) → (s.slot k).state = 2 → s.firstOfGroup k = true → s.resultWaits k = false → (s.slot k).drop = false → ∃ t, exec (.mbDone k) s = .next t ∧ (t.slot k).state = 3 ∧ (t.slot k).code = c ∧ (t.slot k).res = r ∧ (t.slot k).unread = true ∧ k ∉ t.mb.taken)
  ∧ (∀ (k : Fin 16) (c : Nat) (r : List Byte) (s : State), (s.slot k).out = some (c, r) → (s.slot k).state = 2 → s.firstOfGroup k = true → s.resultWaits k = false → (s.slot k).drop = true → ∃ t, exec (.mbDone k) s = .next t ∧ (t.slot k).state = 0 ∧ (t.slot k).res = [] ∧ k ∉ t.mb.taken)
  ∧ (∀ (k : Fin 16) (s : State), (s.slot k).state = 3 → ∃ t, exec (.mbStatRead k) s = .next t ∧ t.rdata = [(s.slot k).stat] ∧ (t.slot k).state = 4 ∧ (t.slot k).unread = false ∧ t.get (slotSource k) = 0)
  ∧ (∀ (k : Fin 16) (s : State), (s.slot k).state < 3 → exec (.mbStatRead k) s = .next (s.answer [(s.slot k).stat]))
  ∧ (∀ (s : State), (s.boot.upd.comp ≠ 1 ∨ s.proving = false) → ∃ t, exec (.hearthRestart) s = .next t ∧ t.mb.restarting = true ∧ t.is HM_STAT.HEARTH_UP = false ∧ t.mb.staging = none ∧ (∀ k ∈ s.mb.taken, (s.slot k).drop = false → (t.slot k).state = 15 ∧ (t.slot k).code = 0x000F))
  ∧ (∀ (s : State), s.boot.upd.comp = 1 → s.proving = true → exec (.hearthRestart) s = .next (s.fallenBack.restartHearth))
  ∧ (∀ (s : State), s.mb.restarting = true → s.boot.recovery = false → s.boot.stopped = false → ∃ t, exec (.hearthUp) s = .next t ∧ t.mb.restarting = false ∧ t.is HM_STAT.HEARTH_UP = true)
  ∧ (∀ (e : List Word) (r : List (List Word)) (s : State), s.evts = e :: r → ∃ t, exec (.hmEvtHeadRead) s = .next t ∧ t.evts = r ∧ t.rdata = [e.getD 0 0] ∧ (∀ k : Fin 4, t.rd (HM_EVT_W k) = e.getD (k.val + 1) 0))
  ∧ (∀ (o : Nat) (v : Word) (s : State), exec (.windowTWrite o v) s = .next (s.flag HM_DB_STAT.T_WRITE))
  ∧ (∀ (up : Bool) (s : State), ∃ t, exec (.pcieReset up) s = .next t ∧ t.ic.linkUp = up ∧ t.rd HM_PCI_CMD = 0 ∧ t.rd HM_PCI_MSIX = 0 ∧ (∀ k : Fin 128, t.rd (HM_MSIX_TABLE k) = (HM_MSIX_TABLE k).resetWord) ∧ (∀ k, (s.slot k).qspi = false → 3 ≤ (s.slot k).state → (t.slot k).state = 0) ∧ (∀ k, (s.slot k).qspi = false → (s.slot k).state = 1 ∨ (s.slot k).state = 2 → (t.slot k).drop = true ∧ (t.slot k).state = (s.slot k).state) ∧ (∀ k, (s.slot k).qspi = true → t.slot k = s.slot k))

/-- A host write that reaches the command area (offsets 0x10 to 0x7FF) of a slot that is not EMPTY leaves all as it was but WRITE_REFUSED, which is 1. After a post of any set of slots, each named slot that was not EMPTY, and slot 15 while HCI-1 owns it, is unchanged and POST_REFUSED is 1; every other named slot is POSTED, and the newly posted slots stand behind the former ones in ascending order. (R514) -/
def Obligations.SlotRefusalRule : Prop :=
  (∀ (k : Fin 16) (o : Nat) (bs : List Byte) (s : State), (s.slot k).state ≠ 0 → (∃ j < bs.length, 0x10 ≤ o + j ∧ o + j < 0x800) → exec (.mbCommandWrite k o bs) s = .next (s.flag HM_DB_STAT.WRITE_REFUSED))
  ∧ (∀ (v : BitVec 16) (s : State), ∃ t, exec (.mbPost v) s = .next t ∧ (∀ k : Fin 16, v.getLsbD k.val = true → (s.slot k).state ≠ 0 ∨ s.hciOwns k = true → t.slot k = s.slot k ∧ t.is HM_DB_STAT.POST_REFUSED = true) ∧ (∀ k : Fin 16, v.getLsbD k.val = true → (s.slot k).state = 0 → s.hciOwns k = false → (t.slot k).state = 1) ∧ t.mb.posted = s.mb.posted ++ (finList 16).filter (fun k => v.getLsbD k.val && (s.slot k).state == 0 && !s.hciOwns k))

/-- For a slot that runs such a command now (runsNow); its result is kept for MB_DONE (cmdEnd). Move push of 1 to 16 records offers them in order (offerMoves) and answers count and code. Arm commands 1 to 4 write ARM_CTRL with their bit; arm enable writes EN and the group of a value below 32; arm override, safe request and token write their register: the result code is that of the write. Arm status, time and safety status answer the registers read. A step move of a named axis on the address's joint, padding zero and target a signed 48-bit number, writes target and speed, pushes the move and answers STP_STAT; a step command below 8 writes STP_CTRL. A torque reference of two 24-bit values writes and commits them and answers the period, or code 7 when the loop refuses. A chunk of a parameter set in order after the first is written at its place: not the last, staging goes on behind it; the last, the set is verified and its identity answered. Set info answers the active identities and those staged or zero. A count, command, value or reserved byte out of its range gives code 8, and a step axis not on the address's joint code 5; nothing else then changes. (Drawn from R515, R518, R521, R522.) (16_hearth_host_interface.md) -/
def Obligations.MotionCommandsComplete : Prop :=
  (∀ (k : Fin 16) (acc c : Nat) (u : State) (s : State), s.runsNow k (fun o => o == 0x0301) = true → (1 ≤ (s.slot k).arg 0 4 ∧ (s.slot k).arg 0 4 ≤ 16) → s.offerMoves (s.slot k).armNo (s.slot k).addr.toNat ((List.range ((s.slot k).arg 0 4)).map (fun i => (s.slot k).payload (4 + 104 * i) 104)) 0 = (u, acc, c) → exec (.movePush k) s = .next (s.cmdEnd u k 0 (leBytes 4 acc ++ leBytes 2 c)))
  ∧ (∀ (k : Fin 16) (s : State), s.runsNow k (fun o => o == 0x0301) = true → (s.slot k).arg 0 4 = 0 ∨ 16 < (s.slot k).arg 0 4 → exec (.movePush k) s = .next (s.cmdEnd s k 0x0008 []))
  ∧ (∀ (k : Fin 16) (u : State) (c : Nat) (s : State), s.runsNow k (fun o => o == 0x0302) = true → (1 ≤ (s.slot k).arg 0 4 ∧ (s.slot k).arg 0 4 ≤ 4) → s.cmdWriteAs (ARM_CTRL (s.slot k).armNo) (BitVec.ofNat 32 (2 ^ ((s.slot k).arg 0 4)) ||| (s.rd (ARM_CTRL (s.slot k).armNo) &&& 0x1E1)) 0x0007 = (u, c) → exec (.armCmd k) s = .next (s.cmdEnd u k c []))
  ∧ (∀ (k : Fin 16) (s : State), s.runsNow k (fun o => o == 0x0302) = true → (s.slot k).arg 0 4 = 0 ∨ 4 < (s.slot k).arg 0 4 → exec (.armCmd k) s = .next (s.cmdEnd s k 0x0008 []))
  ∧ (∀ (k : Fin 16) (u : State) (c : Nat) (s : State), s.runsNow k (fun o => o == 0x0303) = true → (s.slot k).arg 0 4 < 32 → s.cmdWriteAs (ARM_CTRL (s.slot k).armNo) (BitVec.ofNat 32 ((s.slot k).arg 0 4 % 2 + (s.slot k).arg 0 4 / 2 % 8 * 32 + (s.slot k).arg 0 4 / 16 * 256)) 0x0007 = (u, c) → exec (.armEnable k) s = .next (s.cmdEnd u k c []))
  ∧ (∀ (k : Fin 16) (s : State), s.runsNow k (fun o => o == 0x0303) = true → 32 ≤ (s.slot k).arg 0 4 → exec (.armEnable k) s = .next (s.cmdEnd s k 0x0008 []))
  ∧ (∀ (k : Fin 16) (u : State) (c : Nat) (bs : List Byte) (s : State), s.runsNow k (fun o => o == 0x0304) = true → s.armStatus (s.slot k).armNo = (u, c, bs) → exec (.armStatus k) s = .next (s.cmdEnd u k c (if c = 0 then bs else [])))
  ∧ (∀ (k : Fin 16) (u : State) (c : Nat) (s : State), s.runsNow k (fun o => o == 0x0305) = true → s.cmdWrite (ARM_OVR (s.slot k).armNo) ((s.slot k).word 0) = (u, c) → exec (.armOverride k) s = .next (s.cmdEnd u k c []))
  ∧ (∀ (k : Fin 16) (i : Fin 16) (u v w : State) (bs : List Byte) (s : State), s.runsNow k (fun o => o == 0x0310) = true → s.stepAxisOf (s.slot k) = some i → (s.slot k).arg 1 3 = 0 → (s.slot k).arg 4 8 = unsignedOf 64 (signed 48 ((s.slot k).arg 4 6)) → s.cmdWrites [(STP_MV_TGT_LO i, lo48 (signed 48 ((s.slot k).arg 4 6))), (STP_MV_TGT_HI i, hi48 (signed 48 ((s.slot k).arg 4 6))), (STP_MV_V i, (s.slot k).word 12)] = (u, 0) → u.cmdWriteAs (STP_MV_CMD i) ((s.slot k).word 16 ||| 1) 0x000A = (v, 0) → v.cmdReads [STP_STAT i] = (w, bs) → exec (.stepMove k) s = .next (s.cmdEnd w k 0 bs))
  ∧ (∀ (k : Fin 16) (s : State), s.runsNow k (fun o => o == 0x0310) = true → s.stepAxisOf (s.slot k) = none → (s.slot k).arg 0 1 < 16 → exec (.stepMove k) s = .next (s.cmdEnd s k 0x0005 []))
  ∧ (∀ (k : Fin 16) (s : State), s.runsNow k (fun o => o == 0x0310) = true → 16 ≤ (s.slot k).arg 0 1 → exec (.stepMove k) s = .next (s.cmdEnd s k 0x0008 []))
  ∧ (∀ (k : Fin 16) (i : Fin 16) (s : State), s.runsNow k (fun o => o == 0x0310) = true → s.stepAxisOf (s.slot k) = some i → (s.slot k).arg 1 3 ≠ 0 ∨ (s.slot k).arg 4 8 ≠ unsignedOf 64 (signed 48 ((s.slot k).arg 4 6)) → exec (.stepMove k) s = .next (s.cmdEnd s k 0x0008 []))
  ∧ (∀ (k : Fin 16) (i : Fin 16) (u : State) (c : Nat) (s : State), s.runsNow k (fun o => o == 0x0311) = true → s.stepAxisOf (s.slot k) = some i → (s.slot k).arg 1 1 < 8 → s.cmdWriteAs (STP_CTRL i) (BitVec.ofNat 32 ((s.slot k).arg 1 1 * 4) ||| (s.rd (STP_CTRL i) &&& 3)) 0x0007 = (u, c) → exec (.stepCmd k) s = .next (s.cmdEnd u k c []))
  ∧ (∀ (k : Fin 16) (s : State), s.runsNow k (fun o => o == 0x0311) = true → s.stepAxisOf (s.slot k) = none → (s.slot k).arg 0 1 < 16 → exec (.stepCmd k) s = .next (s.cmdEnd s k 0x0005 []))
  ∧ (∀ (k : Fin 16) (s : State), s.runsNow k (fun o => o == 0x0311) = true → 16 ≤ (s.slot k).arg 0 1 → exec (.stepCmd k) s = .next (s.cmdEnd s k 0x0008 []))
  ∧ (∀ (k : Fin 16) (i : Fin 16) (s : State), s.runsNow k (fun o => o == 0x0311) = true → s.stepAxisOf (s.slot k) = some i → 8 ≤ (s.slot k).arg 1 1 → exec (.stepCmd k) s = .next (s.cmdEnd s k 0x0008 []))
  ∧ (∀ (k : Fin 16) (d : Fin 256) (u : State) (refused : Bool) (s : State), s.runsNow k (fun o => o == 0x0320) = true → d = curLoop (s.slot k).portNo → (s.slot k).arg 0 4 < 2 ^ 24 ∧ (s.slot k).arg 4 4 < 2 ^ 24 → s.watch [LD_STAT.CFG_REFUSED d] (fun v => ((v.busWrite .host (LD_REF_D d) ((s.slot k).word 0)).busWrite .host (LD_REF_Q d) ((s.slot k).word 4)).busWrite .host (LD_REF_COMMIT d) (BitVec.ofNat 32 ((s.rd PERIOD_CNT).toNat % 2 ^ 16))) = (u, refused) → exec (.torqueRef k) s = .next (s.cmdEnd u k (if refused then 0x0007 else 0) (if refused then [] else leBytes 4 ((s.rd PERIOD_CNT).toNat % 2 ^ 16))))
  ∧ (∀ (k : Fin 16) (s : State), s.runsNow k (fun o => o == 0x0320) = true → (2 ^ 24 ≤ (s.slot k).arg 0 4 ∨ 2 ^ 24 ≤ (s.slot k).arg 4 4) → exec (.torqueRef k) s = .next (s.cmdEnd s k 0x0008 []))
  ∧ (∀ (k : Fin 16) (u : State) (c : Nat) (s : State), s.runsNow k (fun o => o == 0x0401) = true → s.cmdWrite SI_REQ ((s.slot k).word 0) = (u, c) → exec (.safeReq k) s = .next (s.cmdEnd u k c []))
  ∧ (∀ (k : Fin 16) (u : State) (c : Nat) (s : State), s.runsNow k (fun o => o == 0x0402) = true → s.cmdWrite SI_TOKEN ((s.slot k).word 0) = (u, c) → exec (.safeToken k) s = .next (s.cmdEnd u k c []))
  ∧ (∀ (k : Fin 16) (u : State) (bs : List Byte) (s : State), s.runsNow k (fun o => o == 0x0403) = true → s.cmdReads ([SI_STAT, SI_LOCK, SI_INPUTS, SI_OUTPUTS] ++ (finList 8).map (fun a => SI_ARM_STAT a)) = (u, bs) → exec (.safeStatus k) s = .next (s.cmdEnd u k 0 bs))
  ∧ (∀ (k : Fin 16) (o total n : Nat) (s : State), s.runsNow k (fun o => o == 0x0404) = true → o = (s.slot k).arg 0 4 → total = (s.slot k).arg 4 4 → n = (s.slot k).plen - 8 → s.mb.staging = some (total, o) → 0 < o → total ≤ 524288 → o + n < total → ∃ t, exec (.psetStage k) s = .next t ∧ t.mb.staging = some (total, o + n) ∧ t.mem = (s.mwrite (slotAddr s.stageSlot + o) ((s.slot k).payload 8 n)).mem ∧ (t.slot k).out = some (0, leBytes 8 0))
  ∧ (∀ (k : Fin 16) (o total n c : Nat) (u : State) (s : State), s.runsNow k (fun o => o == 0x0404) = true → o = (s.slot k).arg 0 4 → total = (s.slot k).arg 4 4 → n = (s.slot k).plen - 8 → s.mb.staging = some (total, o) → 0 < o → total ≤ 524288 → o + n = total → ((s.mwrite (slotAddr s.stageSlot + (s.slot k).arg 0 4) ((s.slot k).payload 8 ((s.slot k).plen - 8))).updMail (fun m => { m with staging := none })).verifySet s.stageSlot ((s.slot k).arg 4 4) = (u, c) → exec (.psetStage k) s = .next (s.cmdEnd u k c (if c = 0 then u.mread (slotAddr s.stageSlot + 16) 8 else [])))
  ∧ (∀ (k : Fin 16) (s : State), s.runsNow k (fun o => o == 0x0404) = true → ((s.slot k).arg 0 4 ≠ 0 ∧ s.mb.staging ≠ some ((s.slot k).arg 4 4, (s.slot k).arg 0 4)) ∨ 524288 < (s.slot k).arg 4 4 ∨ (s.slot k).arg 4 4 < (s.slot k).arg 0 4 + ((s.slot k).plen - 8) → exec (.psetStage k) s = .next (s.cmdEnd s k 0x0008 []))
  ∧ (∀ (k : Fin 16) (bs : List Byte) (s : State), s.runsNow k (fun o => o == 0x0405) = true → bs = (match s.si.staged with | some j => s.mread (slotAddr j + 16) 8 | none => leBytes 8 0) → exec (.psetInfo k) s = .next (s.cmdEnd s k 0 (leBytes 4 (s.rd SI_PSET_ID).toNat ++ leBytes 4 (s.rd SI_PSET_GEN).toNat ++ bs)))

/-- For a slot that runs such a command now (runsNow); its result is kept for MB_DONE (cmdEnd). Time get answers the stamp and status read (timeGet). Time set with ns below 1,000,000,000: in FREE_RUN with no source the time goes to the crossing; else code 0x0010 and STEP_REFUSED. Time source, rate, port compensation of a port below 20 and capture setup of an input below 8 write their registers and have the code of the write. Time restart, not in FREE_RUN and with no Signet connection OPEN: the service is in FREE_RUN, may step once more, and cell time stays; else code 0x0010 and STEP_REFUSED. A pulse schedule of an output below 8, mode below 4, reserved bytes zero, when no write is refused: its registers are written, the output armed and started, and TPO_STAT answered. Capture read of 1 to 16 entries takes up to so many of the oldest away and answers their number and stamps. A value, port, output or reserved byte out of its range gives code 8 and changes nothing else. (Drawn from R515, R518, R523, R62.) (02_cell_time.md, 16_hearth_host_interface.md) -/
def Obligations.TimeCommandsComplete : Prop :=
  (∀ (k : Fin 16) (u : State) (c : Nat) (bs : List Byte) (s : State), s.runsNow k (fun o => o == 0x0501) = true → s.timeGet = (u, c, bs) → exec (.timeGet k) s = .next (s.cmdEnd u k c (if c = 0 then bs else [])))
  ∧ (∀ (k : Fin 16) (s : State), s.runsNow k (fun o => o == 0x0502) = true → (s.slot k).arg 8 4 < 1000000000 → s.get TB_STAT.STATE = 0 → s.get TB_CTRL.SOURCE = 0 → exec (.timeSet k) s = .next (s.cmdEnd ({ s with time := { s.time with setCross := some ((s.slot k).arg 0 8, (s.slot k).arg 8 4) } } : State) k 0 []))
  ∧ (∀ (k : Fin 16) (s : State), s.runsNow k (fun o => o == 0x0502) = true → (s.slot k).arg 8 4 < 1000000000 → (s.get TB_STAT.STATE ≠ 0 ∨ s.get TB_CTRL.SOURCE ≠ 0) → exec (.timeSet k) s = .next (s.cmdEnd (s.flag TB_STAT.STEP_REFUSED) k 0x0010 []))
  ∧ (∀ (k : Fin 16) (s : State), s.runsNow k (fun o => o == 0x0502) = true → 1000000000 ≤ (s.slot k).arg 8 4 → exec (.timeSet k) s = .next (s.cmdEnd s k 0x0008 []))
  ∧ (∀ (k : Fin 16) (u : State) (c : Nat) (s : State), s.runsNow k (fun o => o == 0x0503) = true → s.cmdWrite TB_CTRL ((s.slot k).word 0) = (u, c) → exec (.timeSource k) s = .next (s.cmdEnd u k c []))
  ∧ (∀ (k : Fin 16) (s : State), s.runsNow k (fun o => o == 0x0504) = true → s.get TB_STAT.STATE ≠ 0 → s.signetOpen = false → ∃ t, exec (.timeRestart k) s = .next t ∧ t.get TB_STAT.STATE = 0 ∧ t.time.stepped = false ∧ t.time.step = none ∧ t.time.ofs = s.time.ofs ∧ (t.slot k).out = some (0, []))
  ∧ (∀ (k : Fin 16) (s : State), s.runsNow k (fun o => o == 0x0504) = true → (s.get TB_STAT.STATE = 0 ∨ s.signetOpen = true) → exec (.timeRestart k) s = .next (s.cmdEnd (s.flag TB_STAT.STEP_REFUSED) k 0x0010 []))
  ∧ (∀ (k : Fin 16) (u : State) (c : Nat) (s : State), s.runsNow k (fun o => o == 0x0505) = true → s.cmdWriteAs TB_RATE ((s.slot k).word 0) 0x0010 = (u, c) → exec (.timeRate k) s = .next (s.cmdEnd u k c []))
  ∧ (∀ (k : Fin 16) (p : Fin 20) (u : State) (c : Nat) (s : State), s.runsNow k (fun o => o == 0x0506) = true → p.val = (s.slot k).arg 0 1 → (s.slot k).arg 1 3 = 0 → s.cmdWrites [(TSP_INGRESS p, (s.slot k).word 4), (TSP_EGRESS p, (s.slot k).word 8), (TSP_ASYM p, (s.slot k).word 12)] = (u, c) → exec (.portComp k) s = .next (s.cmdEnd u k c []))
  ∧ (∀ (k : Fin 16) (s : State), s.runsNow k (fun o => o == 0x0506) = true → (20 ≤ (s.slot k).arg 0 1 ∨ (s.slot k).arg 1 3 ≠ 0) → exec (.portComp k) s = .next (s.cmdEnd s k 0x0008 []))
  ∧ (∀ (k : Fin 16) (n : Fin 8) (m : Nat) (u v w x : State) (bs : List Byte) (s : State), s.runsNow k (fun o => o == 0x0510) = true → n.val = (s.slot k).arg 0 1 → m = (s.slot k).arg 1 1 → m < 4 → (s.slot k).arg 2 2 = 0 ∧ (s.slot k).arg 18 2 = 0 ∧ (s.slot k).arg 25 3 = 0 → s.cmdWrites [(TPO_START_SEC_LO n, (s.slot k).word 4), (TPO_START_SEC_HI n, (s.slot k).word 8), (TPO_START_NS n, (s.slot k).word 12), (TPO_START_FRAC n, BitVec.ofNat 32 ((s.slot k).arg 16 1)), (TPO_PERIOD_NS n, (s.slot k).word 20), (TPO_PERIOD_FRAC n, BitVec.ofNat 32 ((s.slot k).arg 24 1)), (TPO_WIDTH_NS n, (s.slot k).word 28), (TPO_WIDTH_FRAC n, BitVec.ofNat 32 ((s.slot k).arg 17 1)), (TPO_COUNT n, (s.slot k).word 32)] = (u, 0) → u.watch [TPO_STAT.ARM_REFUSED n] (fun y => y.busWrite .host (TPO_CTRL n) (BitVec.ofNat 32 (1 + m * 2))) = (v, false) → v.watch [TPO_STAT.BADCFG n] (fun y => y.busWrite .host (TPO_CTRL n) (BitVec.ofNat 32 (1 + m * 2 + 8))) = (w, false) → w.cmdReads [TPO_STAT n] = (x, bs) → exec (.pulseSched k) s = .next (s.cmdEnd x k 0 bs))
  ∧ (∀ (k : Fin 16) (s : State), s.runsNow k (fun o => o == 0x0510) = true → (8 ≤ (s.slot k).arg 0 1 ∨ 4 ≤ (s.slot k).arg 1 1 ∨ (s.slot k).arg 2 2 ≠ 0 ∨ (s.slot k).arg 18 2 ≠ 0 ∨ (s.slot k).arg 25 3 ≠ 0) → exec (.pulseSched k) s = .next (s.cmdEnd s k 0x0008 []))
  ∧ (∀ (k : Fin 16) (n : Fin 8) (u : State) (c : Nat) (s : State), s.runsNow k (fun o => o == 0x0511) = true → n.val = (s.slot k).arg 0 1 → (s.slot k).arg 1 3 = 0 → s.cmdWrite (TCAP_CTRL n) ((s.slot k).word 4) = (u, c) → exec (.captureCfg k) s = .next (s.cmdEnd u k c []))
  ∧ (∀ (k : Fin 16) (s : State), s.runsNow k (fun o => o == 0x0511) = true → (8 ≤ (s.slot k).arg 0 1 ∨ (s.slot k).arg 1 3 ≠ 0) → exec (.captureCfg k) s = .next (s.cmdEnd s k 0x0008 []))
  ∧ (∀ (k : Fin 16) (n : Fin 8) (m : Nat) (s : State), s.runsNow k (fun o => o == 0x0512) = true → n.val = (s.slot k).arg 0 1 → m = (s.slot k).arg 1 1 → (1 ≤ m ∧ m ≤ 16) → ∃ t, exec (.captureRead k) s = .next t ∧ tget t.caps n [] = (tget s.caps n []).drop m ∧ (t.slot k).out = some (0, leBytes 4 ((tget s.caps n []).take m).length ++ ((tget s.caps n []).take m).flatMap (fun e => stampBytes e.sec e.ns e.frac e.state e.rise)) ∧ s.sameBut [.caps, .mb] t)
  ∧ (∀ (k : Fin 16) (s : State), s.runsNow k (fun o => o == 0x0512) = true → (8 ≤ (s.slot k).arg 0 1 ∨ (s.slot k).arg 1 1 = 0 ∨ 16 < (s.slot k).arg 1 1) → exec (.captureRead k) s = .next (s.cmdEnd s k 0x0008 []))

/-- For a slot that runs such a command now (runsNow); its result is kept for MB_DONE (cmdEnd). LKT_READ of 1 to 42 records answers those from the index asked for, or the oldest kept if later, that exist; LKT_INFO the indexes, the unflushed bytes and the power cycle; LKT_FLUSH starts a flush (startFlush); LKT_FILTER of a filter below 8 with an enable below 2 and reserved bytes zero sets it; LKT_MARK posts the mark record and answers its index, or a free value when the record is lost. A number, filter, enable or reserved byte out of its range gives code 8 and changes nothing else. LOCKET_POST with the intake closed only counts the loss; open and with a valid address it is accepted (acceptRec). LOCKET_FLUSH with none under way starts one from the first unflushed record to the newest; a bad cell of a record in that range counts in LK_MRAM_BAD and sets MRAM_ERR. LOCKET_FLUSH_DONE with no record lost: 1.5 us and 1 us a record after its start none runs, its records are flushed, the header counts on and LK_FLUSHES counts one. LOCKET_PERIOD_EXPIRY with records unflushed and no flush under way starts one when the period has passed. LK_CTRL.FLUSH starts a flush. LK_INDEX_LO_READ of the next, oldest or time index answers its low word and latches the high one. PF_FLUSH_DONE in power fail, not done before and outside reset, no deferred reset: PF_DONE and the clean mark are set, no flush runs and Hearth is down. MIRROR_WRITE while Hearth is up and power holds mirrors the power cycle and operating time. (Drawn from R515, R518, R524, R534, R538, R541, R546, R547, R587.) (16_hearth_host_interface.md, 17_locket_event_recorder.md, 19_power_reset_and_pin_states.md) -/
def Obligations.LocketCommandsComplete : Prop :=
  (∀ (k : Fin 16) (m i n : Nat) (s : State), s.runsNow k (fun o => o == 0x0601) = true → m = (s.slot k).arg 8 1 → (1 ≤ m ∧ m ≤ 42) → i = max ((s.slot k).arg 0 8) s.lkOldest → n = min m (s.lk.next - i) → ∃ t, exec (.lktRead k) s = .next t ∧ (t.slot k).out = some (0, leBytes 8 (i + n) ++ leBytes 4 n ++ leBytes 4 0 ++ (List.range n).flatMap (fun j => match s.recordAt (i + j) with | some r => s.recImage (i + j) r | none => leBytes 48 0)) ∧ s.sameBut [.mb] t)
  ∧ (∀ (k : Fin 16) (s : State), s.runsNow k (fun o => o == 0x0601) = true → (s.slot k).arg 8 1 = 0 ∨ 42 < (s.slot k).arg 8 1 → exec (.lktRead k) s = .next (s.cmdEnd s k 0x0008 []))
  ∧ (∀ (k : Fin 16) (s : State), s.runsNow k (fun o => o == 0x0602) = true → exec (.lktInfo k) s = .next (s.cmdEnd s k 0 (leBytes 8 s.lkOldest ++ leBytes 8 s.lk.next ++ leBytes 4 (48 * s.unflushed) ++ leBytes 4 s.pwr.pcycle)))
  ∧ (∀ (k : Fin 16) (s : State), s.runsNow k (fun o => o == 0x0603) = true → exec (.lktFlush k) s = .next (s.cmdEnd s.startFlush k 0 []))
  ∧ (∀ (k : Fin 16) (n : Fin 8) (s : State), s.runsNow k (fun o => o == 0x0604) = true → n.val = (s.slot k).arg 0 1 → (s.slot k).arg 1 1 < 2 → (s.slot k).arg 2 2 = 0 → ∃ t, exec (.lktFilter k) s = .next t ∧ tget t.lk.filters n {} = { en := (s.slot k).arg 1 1 == 1, lo := (s.slot k).arg 4 2, hi := (s.slot k).arg 6 2, addr := (s.slot k).word 8, mask := (s.slot k).word 12 } ∧ (t.slot k).out = some (0, []) ∧ s.sameBut [.lk, .mb] t)
  ∧ (∀ (k : Fin 16) (s : State), s.runsNow k (fun o => o == 0x0604) = true → (8 ≤ (s.slot k).arg 0 1 ∨ 2 ≤ (s.slot k).arg 1 1 ∨ (s.slot k).arg 2 2 ≠ 0) → exec (.lktFilter k) s = .next (s.cmdEnd s k 0x0008 []))
  ∧ (∀ (k : Fin 16) (u : State) (s : State), s.runsNow k (fun o => o == 0x0605) = true → u = s.post 0x0005 0 s.cellAddr ((s.slot k).payload 0 6) → s.lk.closed = false → (u.lk.lost = 0 ∨ (u.lk.lost = s.lk.lost ∧ u.lk.next = s.lk.next)) → exec (.lktMark k) s = .next (s.cmdEnd u k 0 (leBytes 8 (u.lk.next - 1))))
  ∧ (∀ (k : Fin 16) (u : State) (s : State), s.runsNow k (fun o => o == 0x0605) = true → u = s.post 0x0005 0 s.cellAddr ((s.slot k).payload 0 6) → (s.lk.closed = true ∨ (u.lk.lost ≠ 0 ∧ (u.lk.lost ≠ s.lk.lost ∨ u.lk.next ≠ s.lk.next))) → exec (.lktMark k) s = .next (s.cmdEnd u.useFresh k 0 (leBytes 8 (Config.noIndex u.fresh))))
  ∧ (∀ (ty : Nat) (sev : Fin 4) (a : Word) (p : List Byte) (c : Nat) (s : State), s.lk.closed = true → exec (.locketPost ty sev a p c) s = .next ({ s with lk := { s.lk with pfLost := s.lk.pfLost + 1 } }))
  ∧ (∀ (ty : Nat) (sev : Fin 4) (a : Word) (p : List Byte) (c : Nat) (s : State), s.lk.closed = false → addrOk a = true → exec (.locketPost ty sev a p c) s = .next (s.acceptRec (s.makeRec ty sev.val a p c)))
  ∧ (∀ (s : State), s.lk.flush = none → ∃ t, exec (.locketFlush none) s = .next t ∧ t.lk.flush = some { start := s.now, first := s.lk.flushed, until_ := s.lk.next } ∧ t.is LK_STAT.FLUSHING = true ∧ s.sameBut [.lk, .reg .lk] t)
  ∧ (∀ (i : Nat) (s : State), s.lk.flush = none → (s.lk.flushed ≤ i ∧ i < s.lk.next) → ∃ t, exec (.locketFlush (some i)) s = .next t ∧ t.rd LK_MRAM_BAD = satInc (s.rd LK_MRAM_BAD) ∧ t.is LK_STAT.MRAM_ERR = true)
  ∧ (∀ (f : Flush) (s : State), s.lk.flush = some f → s.lk.lost = 0 → ∃ t, exec (.locketFlushDone) s = .next t ∧ t.now = max s.now (f.start + ((f.until_ - f.first) * 1000 + 1500) * nsUnits) ∧ t.lk.flush = none ∧ t.lk.flushed = f.until_ ∧ t.lk.headerSeq = s.lk.headerSeq + 1 ∧ t.is LK_STAT.FLUSHING = false ∧ t.rd LK_FLUSHES = s.rd LK_FLUSHES + 1)
  ∧ (∀ (s : State), s.unflushed ≠ 0 → s.lk.flush = none → ∃ t, exec (.locketPeriodExpiry) s = .next t ∧ t.now = max s.now (s.lk.lastFlush + getBits (s.rd LK_CFG) 0 16 * 1000000 * nsUnits) ∧ t.lk.flush = some { start := t.now, first := s.lk.flushed, until_ := s.lk.next })
  ∧ (∀ (s : State), exec (.lkFlushWrite) s = .next (s.startFlush))
  ∧ (∀ (s : State), ∃ t, exec (.lkIndexLoRead .next) s = .next t ∧ t.rdata = [BitVec.ofNat 32 s.lk.next] ∧ t.rd LK_NEXT_HI = BitVec.ofNat 32 (s.lk.next / 2 ^ 32) ∧ s.sameBut [.rdata, .reg .lk] t)
  ∧ (∀ (s : State), ∃ t, exec (.lkIndexLoRead .oldest) s = .next t ∧ t.rdata = [BitVec.ofNat 32 s.lkOldest] ∧ t.rd LK_OLDEST_HI = BitVec.ofNat 32 (s.lkOldest / 2 ^ 32) ∧ s.sameBut [.rdata, .reg .lk] t)
  ∧ (∀ (s : State), ∃ t, exec (.lkIndexLoRead .optime) s = .next t ∧ t.rdata = [BitVec.ofNat 32 s.optime] ∧ t.rd LK_OPTIME_HI = BitVec.ofNat 32 (s.optime / 2 ^ 32) ∧ s.sameBut [.rdata, .reg .lk] t)
  ∧ (∀ (s : State), s.pwr.pfail = true → s.pwr.pfHold = false → s.pwr.reset = false → s.pwr.rstDeferred = false → ∃ t, exec (.pfFlushDone) s = .next t ∧ t.is LK_STAT.PF_DONE = true ∧ t.lk.flush = none ∧ t.lk.clean = true ∧ t.is HM_STAT.HEARTH_UP = false)
  ∧ (∀ (s : State), s.is HM_STAT.HEARTH_UP = true → s.pwr.pfail = false → exec (.mirrorWrite) s = .next ({ s with lk := { s.lk with mirror := (s.pwr.pcycle, s.optime) } }))

/-- For a slot that runs such a command now (runsNow); its result is kept for MB_DONE (cmdEnd). Identity answers the identity words or the Aelilan record; an attestation with a nonce of 32 bytes the report and the unit's signature, with another code 8. Configuration writes and reads (up to 512 words) of listed registers only have the code of the writes and the words read; with another register code 8. Set info answers OTP_STAT; set read of generation 0 to 3 its bytes. Set write, settings not locked, a generation g free, valid words, the OTP at rest: when g then reads the words the answer is g and whether the words from 0x40 to 0x180 differ from the active ones; when not, code 8. A key of 64 bytes for an unlocked blank slot j not yet marked: its hash and its mark are burnt. Key revocation not of the last vendor slot: a signer equal to the slot or whose signature is not accepted (sigOk) gives code 0x000C; else, the OTP at rest, the slot's bit is burnt and the new status answered with the unit's signature. Seal with its key word and bits below 16 burns them; with another key or bits code 8. While the OTP refuses or is busy, set write, key program and seal of good operands give code 9. Register read and write while sealed give code 6; else they have the response of the fabric access. (Drawn from R515, R518, R526, R556, R557, R559, R566.) (16_hearth_host_interface.md, 18_boot_otp_and_updates.md) -/
def Obligations.SystemCommandsComplete : Prop :=
  (∀ (k : Fin 16) (b : Bool) (s : State), s.runsNow k (inGroup 1) = true → exec (.identityCmd k b) s = .next (s.cmdEnd s k 0 (s.identity b)))
  ∧ (∀ (k : Fin 16) (nonce : List Byte) (s : State), s.runsNow k (inGroup 1) = true → nonce.length = 32 → exec (.attestationReport k nonce) s = .next (s.cmdEnd s k 0 (s.attestation nonce ++ unitSignature (s.attestation nonce))))
  ∧ (∀ (k : Fin 16) (nonce : List Byte) (s : State), s.runsNow k (inGroup 1) = true → nonce.length ≠ 32 → exec (.attestationReport k nonce) s = .next (s.cmdEnd s k 0x0008 []))
  ∧ (∀ (k : Fin 16) (ws : List (Reg × Word)) (u : State) (c : Nat) (s : State), s.runsNow k configOp = true → ws.all (fun q => configReg q.1) = true → s.rawWrites ws = (u, c) → exec (.configWriteCmd k ws) s = .next (s.cmdEnd u k c []))
  ∧ (∀ (k : Fin 16) (ws : List (Reg × Word)) (s : State), s.runsNow k configOp = true → ws.all (fun q => configReg q.1) = false → exec (.configWriteCmd k ws) s = .next (s.cmdEnd s k 0x0008 []))
  ∧ (∀ (k : Fin 16) (rs : List Reg) (u : State) (bs : List Byte) (s : State), s.runsNow k configOp = true → rs.all configReg = true → rs.length ≤ 512 → s.cmdReads rs = (u, bs) → exec (.configReadCmd k rs) s = .next (s.cmdEnd u k 0 bs))
  ∧ (∀ (k : Fin 16) (rs : List Reg) (s : State), s.runsNow k configOp = true → (rs.all configReg = false ∨ 512 < rs.length) → exec (.configReadCmd k rs) s = .next (s.cmdEnd s k 0x0008 []))
  ∧ (∀ (k : Fin 16) (u : State) (bs : List Byte) (s : State), s.runsNow k (fun o => o == 0x0220) = true → s.cmdReads [OTP_STAT] = (u, bs) → exec (.setInfo k) s = .next (s.cmdEnd u k 0 bs))
  ∧ (∀ (k : Fin 16) (g : Fin 4) (s : State), s.runsNow k (fun o => o == 0x0221) = true → (s.slot k).arg 0 1 = g.val → exec (.setRead k) s = .next (s.cmdEnd s k 0 (s.genBytes g)))
  ∧ (∀ (k : Fin 16) (bad : Option (Fin 448 × Word)) (g : Fin 4) (ws : List Word) (u : State) (s : State), s.runsNow k (fun o => o == 0x0222) = true → ws = (List.range 448).map (fun i => (s.slot k).word (4 * i)) → s.is OTP_STAT.SETTINGS_LOCKED = false → s.nextGen = some g → genOk g.val ws = true → settingsOk ws = true → s.otpRefuses = false → s.is OTP_STAT.BUSY = false → u = s.programGen g ws bad → exec (.setWrite k bad) s = .next (if u.genWords g = ws then s.cmdEnd u k 0 (leBytes 1 g.val ++ leBytes 1 (if (match s.boot.gen with | some a => ((u.genWords a).drop 16).take 80 != (ws.drop 16).take 80 | none => false) then 1 else 0)) else s.cmdEnd u k 0x0008 []))
  ∧ (∀ (k : Fin 16) (bad : Option (Fin 448 × Word)) (s : State), s.runsNow k (fun o => o == 0x0222) = true → (s.is OTP_STAT.SETTINGS_LOCKED = true ∨ s.nextGen = none) → exec (.setWrite k bad) s = .next (s.cmdEnd s k 0x0007 []))
  ∧ (∀ (k : Fin 16) (j : Fin 4) (key : List Byte) (s : State), s.runsNow k (fun o => o == 0x0223) = true → key.length = 64 → s.is OTP_STAT.KEYS_LOCKED = false → s.keyStatus.getLsbD (4 + j.val) = false → (s.keyHash false j.val).any (· != 0) = false → s.otpRefuses = false → s.is OTP_STAT.BUSY = false → exec (.keyProgram k j key) s = .next (s.cmdEnd ((s.burnAll (0x50 + 8 * j.val) ((List.range 8).map (fun i => BitVec.ofNat 32 (ofLeBytes (((sha256 key).drop (4 * i)).take 4))))).burnBits 0x70 (BitVec.ofNat 32 (2 ^ (4 + j.val)))) k 0 []))
  ∧ (∀ (k : Fin 16) (j : Fin 4) (key : List Byte) (s : State), s.runsNow k (fun o => o == 0x0223) = true → key.length = 64 → s.is OTP_STAT.KEYS_LOCKED = false → s.keyStatus.getLsbD (4 + j.val) = false → (s.keyHash false j.val).any (· != 0) = false → (s.otpRefuses = true ∨ s.is OTP_STAT.BUSY = true) → exec (.keyProgram k j key) s = .next (s.cmdEnd s k 0x0009 []))
  ∧ (∀ (k : Fin 16) (j : Fin 4) (key : List Byte) (s : State), s.runsNow k (fun o => o == 0x0223) = true → key.length = 64 → (s.is OTP_STAT.KEYS_LOCKED = true ∨ s.keyStatus.getLsbD (4 + j.val) = true ∨ (s.keyHash false j.val).any (· != 0) = true) → exec (.keyProgram k j key) s = .next (s.cmdEnd s k 0x0007 []))
  ∧ (∀ (k : Fin 16) (j : Fin 4) (key : List Byte) (s : State), s.runsNow k (fun o => o == 0x0223) = true → key.length ≠ 64 → exec (.keyProgram k j key) s = .next (s.cmdEnd s k 0x0008 []))
  ∧ (∀ (k : Fin 16) (vendor : Bool) (j signer : Fin 4) (sig : List Byte) (u : State) (s : State), s.runsNow k (fun o => o == 0x0224) = true → (vendor = false ∨ j.val < 2) → (vendor && s.keyStatus.getLsbD (revokedBit true (if j = 0 then 1 else 0))) = false → signer ≠ j → s.otpRefuses = false → s.is OTP_STAT.BUSY = false → u = s.burnBits 0x70 (BitVec.ofNat 32 (2 ^ revokedBit vendor j)) → exec (.keyRevoke k vendor j signer sig) s = .next (if s.sigOk vendor signer.val (Config.slotNumber vendor j.val ++ s.otpBytes 2 4) sig then s.cmdEnd u k 0 (leBytes 4 u.keyStatus.toNat ++ unitSignature ((Config.slotNumber vendor j.val ++ s.otpBytes 2 4) ++ leBytes 4 u.keyStatus.toNat)) else s.cmdEnd s k 0x000C []))
  ∧ (∀ (k : Fin 16) (vendor : Bool) (j : Fin 4) (sig : List Byte) (s : State), s.runsNow k (fun o => o == 0x0224) = true → (vendor = false ∨ j.val < 2) → (vendor && s.keyStatus.getLsbD (revokedBit true (if j = 0 then 1 else 0))) = false → exec (.keyRevoke k vendor j j sig) s = .next (s.cmdEnd s k 0x000C []))
  ∧ (∀ (k : Fin 16) (s : State), s.runsNow k (fun o => o == 0x0225) = true → (s.slot k).arg 4 4 = 0x5EA10C4D → (s.slot k).arg 0 4 < 16 → s.otpRefuses = false → s.is OTP_STAT.BUSY = false → exec (.seal k) s = .next (s.cmdEnd (s.burnBits 0x8C ((s.slot k).word 0)) k 0 []))
  ∧ (∀ (k : Fin 16) (s : State), s.runsNow k (fun o => o == 0x0225) = true → (s.slot k).arg 4 4 = 0x5EA10C4D → (s.slot k).arg 0 4 < 16 → (s.otpRefuses = true ∨ s.is OTP_STAT.BUSY = true) → exec (.seal k) s = .next (s.cmdEnd s k 0x0009 []))
  ∧ (∀ (k : Fin 16) (s : State), s.runsNow k (fun o => o == 0x0225) = true → (s.slot k).arg 4 4 ≠ 0x5EA10C4D ∨ 16 ≤ (s.slot k).arg 0 4 → exec (.seal k) s = .next (s.cmdEnd s k 0x0008 []))
  ∧ (∀ (k : Fin 16) (a : A40) (s : State), s.runsNow k (inGroup 9) = true → s.is OTP_STAT.SEALED = true → exec (.regReadCmd k a) s = .next (s.cmdEnd s k 0x0006 []))
  ∧ (∀ (k : Fin 16) (a : A40) (u : State) (c : Nat) (bs : List Byte) (s : State), s.runsNow k (inGroup 9) = true → s.is OTP_STAT.SEALED = false → s.readResponse (s.fabricRead .host a.toNat) = (u, c, bs) → exec (.regReadCmd k a) s = .next (s.cmdEnd u k c (if c = 0 then bs else [])))
  ∧ (∀ (k : Fin 16) (a : A40) (v : Word) (s : State), s.runsNow k (inGroup 9) = true → s.is OTP_STAT.SEALED = true → exec (.regWriteCmd k a v) s = .next (s.cmdEnd s k 0x0006 []))
  ∧ (∀ (k : Fin 16) (a : A40) (v : Word) (u : State) (c : Nat) (bs : List Byte) (s : State), s.runsNow k (inGroup 9) = true → s.is OTP_STAT.SEALED = false → s.writeResponse (if a.toNat % 4 = 0 then regAt 0 a.toNat else none) v (s.fabricWrite .host a.toNat v) = (u, c, bs) → exec (.regWriteCmd k a v) s = .next (s.cmdEnd u k c (if c = 0 then bs else [])))

/-- For a slot that runs such a command now (runsNow); its result is kept for MB_DONE (cmdEnd). A placement command of a task operation, but create, with the unit idle writes STK_DESC_CMD with task and operation; its code is that of RES then shown (stackCode), its data for a read the descriptor; create stages the descriptor first. Of a buffer operation likewise with STK_BUF_CMD. With the unit busy each sets CMD_REFUSED and gives code 7; operation 0 gives code 8. A rebalance command writes STK_CTRL with EN kept and has the write's code. A schedule part within 32 KiB is written, code 0, or refused by the node, code 7; beyond, code 8. A Chain control command writes CH_CTRL; a Clasp map command writes CP_MAP while the Clasp is disabled, else code 7. A Kiln post of a task that is no Kiln request gives code 8; of one that may not be released so or with Stack disabled code 7; else it is released as by the host. A Kiln result of at most 2,048 bytes within the result answers them from the context's visible half, zeros when none is published; beyond, code 8. (Drawn from R335, R337, R343, R355, R459, R515, R526.) (10_stack_scheduling_and_placement.md, 14_chain_bus.md, 16_hearth_host_interface.md) -/
def Obligations.BlockCommandsComplete : Prop :=
  (∀ (k : Fin 16) (n : Fin 4096) (op : Fin 6) (d : List Word) (s : State), s.runsNow k (inGroup 8) = true → (2 ≤ op.val ∧ op.val ≠ 3) → s.is STK_STAT.DESC_BUSY = false → ∃ t, exec (.placementTaskCmd k n op d) s = .next t ∧ (t.slot k).out = some (stackCode ((s.busWrite .host STK_DESC_CMD (BitVec.ofNat 32 (n.val + op.val * 2 ^ 12))).get STK_DESC_CMD.RES), []) ∧ t.stk = (s.busWrite .host STK_DESC_CMD (BitVec.ofNat 32 (n.val + op.val * 2 ^ 12))).stk)
  ∧ (∀ (k : Fin 16) (n : Fin 4096) (d : List Word) (s : State), s.runsNow k (inGroup 8) = true → s.is STK_STAT.DESC_BUSY = false → ∃ t, exec (.placementTaskCmd k n 1 d) s = .next t ∧ (t.slot k).out = some (stackCode ((((finList 16).foldl (fun (s : State) i => s.wr (STK_DESC_STAGE i) (d.getD i.val 0)) s).busWrite .host STK_DESC_CMD (BitVec.ofNat 32 (n.val + 4096))).get STK_DESC_CMD.RES), []) ∧ t.stk = (((finList 16).foldl (fun (s : State) i => s.wr (STK_DESC_STAGE i) (d.getD i.val 0)) s).busWrite .host STK_DESC_CMD (BitVec.ofNat 32 (n.val + 4096))).stk)
  ∧ (∀ (k : Fin 16) (n : Fin 4096) (d : List Word) (u : State) (s : State), s.runsNow k (inGroup 8) = true → s.is STK_STAT.DESC_BUSY = false → u = s.busWrite .host STK_DESC_CMD (BitVec.ofNat 32 (n.val + 3 * 2 ^ 12)) → exec (.placementTaskCmd k n 3 d) s = .next (s.cmdEnd u k (stackCode (u.get STK_DESC_CMD.RES)) (if stackCode (u.get STK_DESC_CMD.RES) = 0 then (u.taskRec n).desc.flatMap (fun w => leBytes 4 w.toNat) else [])))
  ∧ (∀ (k : Fin 16) (n : Fin 4096) (op : Fin 6) (d : List Word) (s : State), s.runsNow k (inGroup 8) = true → op ≠ 0 → s.is STK_STAT.DESC_BUSY = true → exec (.placementTaskCmd k n op d) s = .next (s.cmdEnd (s.flag STK_STAT.CMD_REFUSED) k 0x0007 []))
  ∧ (∀ (k : Fin 16) (n : Fin 4096) (d : List Word) (s : State), s.runsNow k (inGroup 8) = true → exec (.placementTaskCmd k n 0 d) s = .next (s.cmdEnd s k 0x0008 []))
  ∧ (∀ (k : Fin 16) (h : Fin 8192) (d : List Word) (s : State), s.runsNow k (inGroup 8) = true → s.is STK_STAT.BUF_BUSY = false → ∃ t, exec (.placementBufferCmd k h 2 d) s = .next t ∧ (t.slot k).out = some (stackCode ((s.busWrite .host STK_BUF_CMD (BitVec.ofNat 32 (h.val + 2 * 2 ^ 13))).get STK_BUF_CMD.RES), []) ∧ t.stk = (s.busWrite .host STK_BUF_CMD (BitVec.ofNat 32 (h.val + 2 * 2 ^ 13))).stk)
  ∧ (∀ (k : Fin 16) (h : Fin 8192) (d : List Word) (u : State) (s : State), s.runsNow k (inGroup 8) = true → s.is STK_STAT.BUF_BUSY = false → u = s.busWrite .host STK_BUF_CMD (BitVec.ofNat 32 (h.val + 3 * 2 ^ 13)) → exec (.placementBufferCmd k h 3 d) s = .next (s.cmdEnd u k (stackCode (u.get STK_BUF_CMD.RES)) (if stackCode (u.get STK_BUF_CMD.RES) = 0 then (u.bufRec h).desc.flatMap (fun w => leBytes 4 w.toNat) else [])))
  ∧ (∀ (k : Fin 16) (h : Fin 8192) (d : List Word) (u : State) (s : State), s.runsNow k (inGroup 8) = true → s.is STK_STAT.BUF_BUSY = false → u = ((finList 4).foldl (fun (s : State) i => s.wr (STK_BUF_STAGE i) (d.getD i.val 0)) s).busWrite .host STK_BUF_CMD (BitVec.ofNat 32 (h.val + 1 * 2 ^ 13)) → exec (.placementBufferCmd k h 1 d) s = .next (s.cmdEnd u k (stackCode (u.get STK_BUF_CMD.RES)) []))
  ∧ (∀ (k : Fin 16) (h : Fin 8192) (op : Fin 4) (d : List Word) (s : State), s.runsNow k (inGroup 8) = true → op ≠ 0 → s.is STK_STAT.BUF_BUSY = true → exec (.placementBufferCmd k h op d) s = .next (s.cmdEnd (s.flag STK_STAT.CMD_REFUSED) k 0x0007 []))
  ∧ (∀ (k : Fin 16) (h : Fin 8192) (d : List Word) (s : State), s.runsNow k (inGroup 8) = true → exec (.placementBufferCmd k h 0 d) s = .next (s.cmdEnd s k 0x0008 []))
  ∧ (∀ (k : Fin 16) (rebal freeze : Bool) (u : State) (c : Nat) (s : State), s.runsNow k (inGroup 8) = true → s.cmdWrite STK_CTRL (BitVec.ofNat 32 ((s.rd STK_CTRL).toNat % 2 + (if rebal then 2 else 0) + (if freeze then 4 else 0))) = (u, c) → exec (.placementRebalCmd k rebal freeze) s = .next (s.cmdEnd u k c []))
  ∧ (∀ (k : Fin 16) (o : Nat) (bs : List Byte) (u : State) (refused : Bool) (s : State), s.runsNow k (inGroup 10) = true → o + bs.length ≤ 0x8000 → s.watch [CH_STAT.CFG_REFUSED] (fun v => v.schedWrite o bs) = (u, refused) → exec (.chainScheduleCmd k o bs) s = .next (s.cmdEnd u k (if refused then 0x0007 else 0) []))
  ∧ (∀ (k : Fin 16) (o : Nat) (bs : List Byte) (s : State), s.runsNow k (inGroup 10) = true → 0x8000 < o + bs.length → exec (.chainScheduleCmd k o bs) s = .next (s.cmdEnd s k 0x0008 []))
  ∧ (∀ (k : Fin 16) (v : Word) (u : State) (c : Nat) (s : State), s.runsNow k (inGroup 10) = true → s.cmdWrite CH_CTRL v = (u, c) → exec (.chainCtrlCmd k v) s = .next (s.cmdEnd u k c []))
  ∧ (∀ (k : Fin 16) (x : Fin 2) (v : Word) (u : State) (c : Nat) (s : State), s.runsNow k (inGroup 10) = true → s.is (CP_CTRL.EN x) = false → s.cmdWrite (CP_MAP x) v = (u, c) → exec (.claspMapCmd k x v) s = .next (s.cmdEnd u k c []))
  ∧ (∀ (k : Fin 16) (x : Fin 2) (v : Word) (s : State), s.runsNow k (inGroup 10) = true → s.is (CP_CTRL.EN x) = true → exec (.claspMapCmd k x v) s = .next (s.cmdEnd s k 0x0007 []))
  ∧ (∀ (k : Fin 16) (n : Fin 4096) (s : State), s.runsNow k (inGroup 11) = true → (s.taskRec n).kind = 4 → s.releasable n = true → s.is STK_CTRL.EN = true → exec (.kilnPostCmd k n) s = .next (s.cmdEnd (s.stkRelease .host (BitVec.ofNat 32 n.val)).1 k 0 []))
  ∧ (∀ (k : Fin 16) (n : Fin 4096) (s : State), s.runsNow k (inGroup 11) = true → (s.taskRec n).kind = 4 → (s.releasable n = false ∨ s.is STK_CTRL.EN = false) → exec (.kilnPostCmd k n) s = .next (s.cmdEnd s k 0x0007 []))
  ∧ (∀ (k : Fin 16) (n : Fin 4096) (s : State), s.runsNow k (inGroup 11) = true → (s.taskRec n).kind ≠ 4 → exec (.kilnPostCmd k n) s = .next (s.cmdEnd s k 0x0008 []))
  ∧ (∀ (k c : Fin 16) (o n : Nat) (r : KResult) (s : State), s.runsNow k (inGroup 11) = true → (s.kctx s.activePlane c).pub = some r → n ≤ 2048 → o + n ≤ 64 + 8 * r.x.length → exec (.kilnResultCmd k c o n) s = .next (s.cmdEnd s k 0 (s.mread (r.res + halfOfs r.x.length (s.kctx s.activePlane c).half + o) n)))
  ∧ (∀ (k c : Fin 16) (o n : Nat) (s : State), s.runsNow k (inGroup 11) = true → (s.kctx s.activePlane c).pub = none → n ≤ 2048 → o + n ≤ 64 + 8 * (s.kctx s.activePlane c).len → exec (.kilnResultCmd k c o n) s = .next (s.cmdEnd s k 0 (leBytes n 0)))
  ∧ (∀ (k c : Fin 16) (o n : Nat) (s : State), s.runsNow k (inGroup 11) = true → (2048 < n ∨ (match (s.kctx s.activePlane c).pub with | some r => decide (64 + 8 * r.x.length < o + n) | none => decide (64 + 8 * (s.kctx s.activePlane c).len < o + n)) = true) → exec (.kilnResultCmd k c o n) s = .next (s.cmdEnd s k 0x0008 []))

/-- QSPI_READ while the port is enabled carries out the word reads from its address on (hqWords, modulo 65,536) and answers their words; QSPI_WRITE the word writes likewise (hqWrite); while disabled both change nothing. HCI1_POST of slot 15 EMPTY while HCI-1 owns it: POSTED by the port with tag 0, last in the order of posts; of one not EMPTY, or while HCI-1 does not own it, it only sets POST_REFUSED. HCI1_FREE of slot 15 finished while HCI-1 owns it: EMPTY, its command area as it was; POSTED or BUSY, or while HCI-1 does not own it, it only sets FREE_REFUSED. With slot 15 BUSY by the port, unanswered, first of its group and Hearth serving: identity answers the identity words; an absolute or relative move has what mxMove answers; stop aborts the port's arm as ARM_ABORT; status answers the arm's status words; read time the stamp and TB_STAT. (Drawn from R514, R529, R530, R531.) (16_hearth_host_interface.md) -/
def Obligations.HciCommandsComplete : Prop :=
  (∀ (w : BitVec 16) (n : Nat) (u : State) (l : List Word) (s : State), s.is HM_STAT.QSPI_EN = true → s.hqWords ((List.range n).map (fun i => (w.toNat + i) % 65536)) = (u, l) → exec (.qspiRead w n) s = .next (u.answer l))
  ∧ (∀ (w : BitVec 16) (n : Nat) (s : State), s.is HM_STAT.QSPI_EN = false → exec (.qspiRead w n) s = .next (s))
  ∧ (∀ (w : BitVec 16) (vs : List (BitVec 16)) (s : State), s.is HM_STAT.QSPI_EN = true → exec (.qspiWrite w vs) s = .next (vs.zipIdx.foldl (fun (t : State) (q : BitVec 16 × Nat) => t.hqWrite ((w.toNat + q.2) % 65536) q.1) s))
  ∧ (∀ (w : BitVec 16) (vs : List (BitVec 16)) (s : State), s.is HM_STAT.QSPI_EN = false → exec (.qspiWrite w vs) s = .next (s))
  ∧ (∀ (s : State), s.is HM_STAT.QSPI_EN = true → (s.slot 15).state = 0 → ∃ t, exec (.hci1Post) s = .next t ∧ (t.slot 15).state = 1 ∧ (t.slot 15).qspi = true ∧ (t.slot 15).tag = 0 ∧ t.mb.posted = s.mb.posted ++ [15] ∧ (∀ j, j ≠ 15 → t.slot j = s.slot j))
  ∧ (∀ (s : State), (s.is HM_STAT.QSPI_EN = false ∨ (s.slot 15).state ≠ 0) → exec (.hci1Post) s = .next (s.flag HM_DB_STAT.POST_REFUSED))
  ∧ (∀ (s : State), s.is HM_STAT.QSPI_EN = true → 3 ≤ (s.slot 15).state → ∃ t, exec (.hci1Free) s = .next t ∧ (t.slot 15).state = 0 ∧ (t.slot 15).cmd = (s.slot 15).cmd ∧ (∀ j, j ≠ 15 → t.slot j = s.slot j))
  ∧ (∀ (s : State), (s.is HM_STAT.QSPI_EN = false ∨ (s.slot 15).state = 1 ∨ (s.slot 15).state = 2) → exec (.hci1Free) s = .next (s.flag HM_DB_STAT.FREE_REFUSED))
  ∧ (∀ (s : State), (s.slot 15).state = 2 → (s.slot 15).out = none → (s.slot 15).qspi = true → (s.slot 15).mxOp = 0x01 → s.firstOfGroup 15 = true → s.serves = true → exec (.hci1Identity) s = .next (s.setOut 15 0 (s.identity false)))
  ∧ (∀ (u : State) (c : Nat) (r : List Byte) (s : State), (s.slot 15).state = 2 → (s.slot 15).out = none → (s.slot 15).qspi = true → (s.slot 15).mxOp = 0x10 → s.firstOfGroup 15 = true → s.serves = true → s.mxMove (s.slot 15) 0 = (u, c, r) → exec (.hci1AbsMove) s = .next (u.setOut 15 c (if c = 0 then r else [])))
  ∧ (∀ (u : State) (c : Nat) (r : List Byte) (s : State), (s.slot 15).state = 2 → (s.slot 15).out = none → (s.slot 15).qspi = true → (s.slot 15).mxOp = 0x11 → s.firstOfGroup 15 = true → s.serves = true → s.mxMove (s.slot 15) 1 = (u, c, r) → exec (.hci1RelMove) s = .next (u.setOut 15 c (if c = 0 then r else [])))
  ∧ (∀ (u : State) (s : State), (s.slot 15).state = 2 → (s.slot 15).out = none → (s.slot 15).qspi = true → (s.slot 15).mxOp = 0x12 → s.firstOfGroup 15 = true → s.serves = true → exec (.armAbort s.hciArm) s = .next u → exec (.hci1Stop) s = .next (u.setOut 15 0 []))
  ∧ (∀ (u : State) (c : Nat) (bs : List Byte) (s : State), (s.slot 15).state = 2 → (s.slot 15).out = none → (s.slot 15).qspi = true → (s.slot 15).mxOp = 0x13 → s.firstOfGroup 15 = true → s.serves = true → s.armStatus s.hciArm = (u, c, bs) → exec (.hci1Status) s = .next (u.setOut 15 c (if c = 0 then bs else [])))
  ∧ (∀ (u : State) (c : Nat) (bs : List Byte) (s : State), (s.slot 15).state = 2 → (s.slot 15).out = none → (s.slot 15).qspi = true → (s.slot 15).mxOp = 0x20 → s.firstOfGroup 15 = true → s.serves = true → s.timeGet = (u, c, bs) → exec (.hci1ReadTime) s = .next (u.setOut 15 c (if c = 0 then bs else [])))

/-- For a slot that runs such a command now (runsNow); its result is kept for MB_DONE (cmdEnd). Begin of component 1 to 6, reserved bytes 0, length 1 to 2 MiB, none open: phase 1, the component's other slot LOADED; operands out of range code 8, an open update code 9. Data in phase 1, no check under way: the next bytes within the image go into the flash of the new slot; others code 8; in another phase or during a check code 7. Verify of a whole image in phase 1 or 2: the check is under way, else code 7. Activate in phase 2 when the component may be: the activation starts (startActivation), or for Hearth, outside recovery, the slot is DONE, Hearth restarts in the new slot and its window starts; else code 7. Status answers phase, component and window time left. Abort in phase 1 or 2: phase 0, no check, else code 7. IMAGE_VERIFIED at the end of a check: if its slot still waits, phase 2 with version and flags, or the code of the fault found. UPD_PROVING_DONE of a proving run: with a mishap the update fails (updFails); else, not of planes, phase 5 with the new slot confirmed; of the first plane, stage 3, and the other plane reloaded in the new slot. UPD_FAILURE of a proving run: the update fails, at the window's end for the window. Without a proving run both change nothing. SAFETY_CHANNEL_RESTART_DONE: the set in force is loaded anew, no snapshot is open, and ISTATE shows dead, running or no set. (Drawn from R525, R568, R570, R573, R575, R576.) (16_hearth_host_interface.md, 18_boot_otp_and_updates.md) -/
def Obligations.UpdateCommandsComplete : Prop :=
  (∀ (k : Fin 16) (c n : Nat) (s : State), s.runsNow k (fun o => o == 0x0701) = true → c = (s.slot k).arg 0 1 → n = (s.slot k).arg 4 4 → (1 ≤ c ∧ c ≤ 6) → (s.slot k).arg 1 3 = 0 → (1 ≤ n ∧ n ≤ 0x200000) → s.updOpen = false → ∃ t, exec (.updBegin k) s = .next t ∧ t.boot.upd = { comp := c, len := n, phase := 1 } ∧ (t.dir t.updComp).2 = 1 ∧ (t.slot k).out = some (0, []) ∧ t.boot.flash = s.boot.flash)
  ∧ (∀ (k : Fin 16) (s : State), s.runsNow k (fun o => o == 0x0701) = true → (s.slot k).arg 0 1 = 0 ∨ 6 < (s.slot k).arg 0 1 ∨ (s.slot k).arg 1 3 ≠ 0 ∨ (s.slot k).arg 4 4 = 0 ∨ 0x200000 < (s.slot k).arg 4 4 → exec (.updBegin k) s = .next (s.cmdEnd s k 0x0008 []))
  ∧ (∀ (k : Fin 16) (s : State), s.runsNow k (fun o => o == 0x0701) = true → (1 ≤ (s.slot k).arg 0 1 ∧ (s.slot k).arg 0 1 ≤ 6) → (s.slot k).arg 1 3 = 0 → (1 ≤ (s.slot k).arg 4 4 ∧ (s.slot k).arg 4 4 ≤ 0x200000) → s.updOpen = true → exec (.updBegin k) s = .next (s.cmdEnd s k 0x0009 []))
  ∧ (∀ (k : Fin 16) (o n : Nat) (s : State), s.runsNow k (fun o => o == 0x0702) = true → o = (s.slot k).arg 0 4 → n = (s.slot k).plen - 4 → s.boot.upd.phase = 1 → s.boot.upd.checking = none → o = s.boot.upd.got → o + n ≤ s.updTotal → exec (.updData k) s = .next (s.cmdEnd ((s.updBoot (fun b => { b with flash := memWriteN b.flash (flashSlot s.updComp s.newSlot + o) ((s.slot k).payload 4 n) })).updUpd (fun x => { x with got := o + n })) k 0 []))
  ∧ (∀ (k : Fin 16) (s : State), s.runsNow k (fun o => o == 0x0702) = true → s.boot.upd.phase = 1 → s.boot.upd.checking = none → (s.slot k).arg 0 4 ≠ s.boot.upd.got ∨ s.updTotal < (s.slot k).arg 0 4 + ((s.slot k).plen - 4) → exec (.updData k) s = .next (s.cmdEnd s k 0x0008 []))
  ∧ (∀ (k : Fin 16) (s : State), s.runsNow k (fun o => o == 0x0702) = true → (s.boot.upd.phase ≠ 1 ∨ s.boot.upd.checking.isSome = true) → exec (.updData k) s = .next (s.cmdEnd s k 0x0007 []))
  ∧ (∀ (k : Fin 16) (s : State), s.runsNow k (fun o => o == 0x0703) = true → (s.boot.upd.phase = 1 ∨ s.boot.upd.phase = 2) → s.boot.upd.got = s.updTotal → s.boot.upd.checking = none → exec (.updVerify k) s = .next (s.updUpd (fun x => { x with checking := some (k, s.now) })))
  ∧ (∀ (k : Fin 16) (s : State), s.runsNow k (fun o => o == 0x0703) = true → (s.boot.upd.phase ≠ 1 ∧ s.boot.upd.phase ≠ 2) ∨ s.boot.upd.got ≠ s.updTotal → exec (.updVerify k) s = .next (s.setOut k 0x0007 []))
  ∧ (∀ (k : Fin 16) (at_ : Time) (u : State) (s : State), s.boot.upd.checking = some (k, at_) → u = (s.advance (at_ + s.verifyCycles s.updComp s.newSlot * nsUnits)).updUpd (fun x => { x with checking := none }) → (u.slot k).state = 2 → exec (.imageVerified) s = .next (if u.updCode = 0 then (u.setPhase 2 s.newSlot).setOut k 0 ((u.setPhase 2 s.newSlot).slotBytes s.updComp s.newSlot 8 4 ++ leBytes 4 ((u.setPhase 2 s.newSlot).mf s.updComp s.newSlot 7 1)) else u.setOut k u.updCode []))
  ∧ (∀ (k : Fin 16) (at_ : Time) (u : State) (s : State), s.boot.upd.checking = some (k, at_) → u = (s.advance (at_ + s.verifyCycles s.updComp s.newSlot * nsUnits)).updUpd (fun x => { x with checking := none }) → (u.slot k).state ≠ 2 → exec (.imageVerified) s = .next (u))
  ∧ (∀ (k : Fin 16) (s : State), s.runsNow k (fun o => o == 0x0704) = true → s.boot.upd.phase = 2 → s.mayActivate = true → s.boot.upd.comp ≠ 1 → exec (.updActivate k) s = .next (s.startActivation.setOut k 0 []))
  ∧ (∀ (k : Fin 16) (u : State) (s : State), s.runsNow k (fun o => o == 0x0704) = true → s.boot.upd.phase = 2 → s.boot.upd.comp = 1 → s.boot.recovery = false → u = (((s.endSlot k 3 0 []).setDir 0 ((s.dir 0).1, 2)).setPhase 3 s.newSlot).hearthRestart → exec (.updActivate k) s = .next (((u.setRunsAll 0 s.newSlot).showZver s.newSlot).startWindow))
  ∧ (∀ (k : Fin 16) (s : State), s.runsNow k (fun o => o == 0x0704) = true → (s.boot.upd.phase ≠ 2 ∨ s.mayActivate = false) → exec (.updActivate k) s = .next (s.setOut k 0x0007 []))
  ∧ (∀ (k : Fin 16) (s : State), s.runsNow k (fun o => o == 0x0705) = true → exec (.updStatus k) s = .next (s.cmdEnd s k 0 (leBytes 1 s.boot.upd.phase ++ leBytes 1 s.boot.upd.comp ++ leBytes 2 0 ++ leBytes 4 s.windowLeft)))
  ∧ (∀ (k : Fin 16) (s : State), s.runsNow k (fun o => o == 0x0706) = true → (s.boot.upd.phase = 1 ∨ s.boot.upd.phase = 2) → ∃ t, exec (.updAbort k) s = .next t ∧ t.boot.upd = { s.boot.upd with phase := 0, checking := none } ∧ (t.slot k).out = some (0, []) ∧ t.boot.flash = s.boot.flash)
  ∧ (∀ (k : Fin 16) (s : State), s.runsNow k (fun o => o == 0x0706) = true → (s.boot.upd.phase ≠ 1 ∧ s.boot.upd.phase ≠ 2) → exec (.updAbort k) s = .next (s.cmdEnd s k 0x0007 []))
  ∧ (∀ (s : State), s.proving = true → s.boot.upd.mishap = false → s.updatesPlanes = false → ∃ t, exec (.updProvingDone) s = .next t ∧ t.boot.upd.phase = 5 ∧ t.boot.upd.stage = 0 ∧ t.dir s.updComp = (s.newSlot, 0))
  ∧ (∀ (s : State), s.proving = true → s.boot.upd.mishap = true → exec (.updProvingDone) s = .next (s.updFails))
  ∧ (∀ (s : State), s.proving = true → s.boot.upd.mishap = false → s.updatesPlanes = true → s.boot.upd.stage = 2 → ∃ t, exec (.updProvingDone) s = .next t ∧ t.boot.upd.stage = 3 ∧ t.dir s.updComp = (s.newSlot, 0) ∧ t.runs (1 - s.boot.upd.plane) s.updComp = some s.newSlot)
  ∧ (∀ (w : Bool) (s : State), s.proving = true → exec (.updFailure w) s = .next ((if w then s.advanceOp s.boot.upd.windowAt else s).updFails))
  ∧ (∀ (w : Bool) (s : State), s.proving = false → exec (.updFailure w) s = .next (s))
  ∧ (∀ (s : State), s.proving = false → exec (.updProvingDone) s = .next (s))
  ∧ (∀ (s : State), s.si.restarting = true → ∃ t, exec (.safetyChannelRestartDone) s = .next t ∧ t.si.restarting = false ∧ t.si.set = s.si.slot.bind s.loadSet ∧ t.si.snap = none ∧ (t.get SI_STAT.ISTATE = (if s.si.dead then 3 else if (s.si.slot.bind s.loadSet).isSome then 2 else 1)))

/-- BOOT of a device not booted, powered, out of reset and power fail: the settings and Locket start, it has booted, and without a settings generation it recovers; with one, no Hearth update in its first stage, Hearth starts from the slot that boots and the rest follows (bootRest), or it recovers when none boots. OTP_PROGRAM by Hearth, the OTP at rest, sets BUSY with address, word and start, the OTP unchanged; else only CMD_REFUSED. OTP_PROGRAM_DONE, 20 us after the start: the word is its old value or the programmed bits that took, no other word changes, BUSY is 0. A pin release sets its bit of PIN_REL when it may (canRelease), else only REL_REFUSED. KEEPALIVE_TICK samples RST_N a tick later. POR of an unpowered device: powered, keep-alive validity and power fail as given. BROWNOUT outside the power-fail hold, RST_N_LOW of a pin low twice and not ignored: the device is in reset with cause 2 or 3; OTP, flash and the Locket ring stay, every gate and safe output is off. In power fail RST_N_LOW only notes a deferred reset. RST_N_HIGH of a pin high twice during its reset, and RESET_STUCK at the limit of a qualified hold: the reset ends (supplies and PFAIL_N permitting) and the hold is recorded, and stuck it is ignored until RST_N_REHONOUR. PFAIL_ASSERT outside reset: every gate and safe output is off, each port disarmed, a flush runs, Locket is closed. PF_RESTART after the hold, the pin not holding: no power fail, cause 4, no reset. (Drawn from R550, R560, R586, R588, R589, R592, R593, R594, R596, R597, R599, R601.) (18_boot_otp_and_updates.md, 19_power_reset_and_pin_states.md) -/
def Obligations.PowerBootAndPinsComplete : Prop :=
  (∀ (u : State) (s : State), s.boot.booted = false → s.pwr.reset = false → s.pwr.supplies = true → s.pwr.pfail = false → u = (s.bootSettings.bootLocket).updBoot (fun b => { b with booted := true }) → u.boot.gen = none → exec (.boot) s = .next (u.recover))
  ∧ (∀ (u : State) (s : State), s.boot.booted = false → s.pwr.reset = false → s.pwr.supplies = true → s.pwr.pfail = false → u = (s.bootSettings.bootLocket).updBoot (fun b => { b with booted := true }) → u.boot.gen.isSome = true → (u.boot.upd.comp ≠ 1 ∨ u.boot.upd.stage ≠ 1) → exec (.boot) s = .next (match u.bootUpdate.bootSlot 0 with | some k => (u.bootUpdate.startHearth k).bootRest | none => u.bootUpdate.recover))
  ∧ (∀ (s : State), s.otpRefuses = false → s.is OTP_STAT.BUSY = false → ∃ t, exec (.otpProgram .hearth) s = .next t ∧ t.is OTP_STAT.BUSY = true ∧ t.boot.prog = some (getBits (s.rd OTP_ADDR) 0 11, s.rd OTP_DATA, s.now) ∧ t.boot.otp = s.boot.otp)
  ∧ (∀ (who : Who) (s : State), (who ≠ .hearth ∨ s.otpRefuses = true ∨ s.is OTP_STAT.BUSY = true) → exec (.otpProgram who) s = .next (s.flag OTP_STAT.CMD_REFUSED))
  ∧ (∀ (took v : Word) (a : Nat) (at_ : Time) (s : State), s.boot.prog = some (a, v, at_) → ∃ t, exec (.otpProgramDone took) s = .next t ∧ t.now = max s.now (at_ + 20000 * nsUnits) ∧ t.boot.prog = none ∧ t.is OTP_STAT.BUSY = false ∧ t.otpWord a = s.otpWord a ||| (v &&& took) ∧ (∀ b, b ≠ a → t.otpWord b = s.otpWord b))
  ∧ (∀ (s : State), s.canRelease 0 = true → exec (.pinRelTime) s = .next (s.put ⟨PIN_REL, 0, 1⟩ 1))
  ∧ (∀ (s : State), s.canRelease 0 = false → exec (.pinRelTime) s = .next (s.flag PIN_STAT.REL_REFUSED))
  ∧ (∀ (s : State), s.canRelease 1 = true → exec (.pinRelSdclk) s = .next (s.put ⟨PIN_REL, 1, 1⟩ 1))
  ∧ (∀ (s : State), s.canRelease 1 = false → exec (.pinRelSdclk) s = .next (s.flag PIN_STAT.REL_REFUSED))
  ∧ (∀ (s : State), s.canRelease 2 = true → exec (.pinRelFbo) s = .next (s.put ⟨PIN_REL, 2, 1⟩ 1))
  ∧ (∀ (s : State), s.canRelease 2 = false → exec (.pinRelFbo) s = .next (s.flag PIN_STAT.REL_REFUSED))
  ∧ (∀ (s : State), s.canRelease 3 = true → exec (.pinRelStep) s = .next (s.put ⟨PIN_REL, 3, 1⟩ 1))
  ∧ (∀ (s : State), s.canRelease 3 = false → exec (.pinRelStep) s = .next (s.flag PIN_STAT.REL_REFUSED))
  ∧ (∀ (s : State), s.canRelease 4 = true → exec (.pinRelGate) s = .next (s.put ⟨PIN_REL, 4, 1⟩ 1))
  ∧ (∀ (s : State), s.canRelease 4 = false → exec (.pinRelGate) s = .next (s.flag PIN_STAT.REL_REFUSED))
  ∧ (∀ (high core : Bool) (s : State), ∃ t, exec (.keepaliveTick high core) s = .next t ∧ t.now = max s.now (s.pwr.tickAt + tickUnits) ∧ t.pwr = s.pwr.sample high core ∧ s.sameBut [.now, .pwr] t)
  ∧ (∀ (at_ : Nat) (kept vddKa pf : Bool) (s : State), s.pwr.supplies = false → ∃ t, exec (.por at_ kept vddKa pf) s = .next t ∧ t.now = max s.now at_ ∧ t.pwr.supplies = true ∧ t.pwr.pfail = pf ∧ t.pwr.kaValid = kept ∧ t.boot.otp = s.boot.otp)
  ∧ (∀ (at_ : Nat) (s : State), s.pwr.supplies = true → s.pwr.pfHold = false → ∃ t, exec (.brownout at_) s = .next t ∧ t.now = max s.now at_ ∧ t.pwr.supplies = false ∧ t.pwr.reset = true ∧ t.pwr.cause = 2 ∧ t.boot.otp = s.boot.otp ∧ t.boot.flash = s.boot.flash ∧ t.lk.ring = s.lk.ring ∧ (∀ n, t.gatesOff n) ∧ t.outputsOff)
  ∧ (∀ (s : State), 2 ≤ s.pwr.rstLow → s.pwr.rstIsLow = false → s.pwr.stuck = false → s.pwr.reset = false → s.pwr.pfHold = false → s.pwr.pfail = false → ∃ t, exec (.rstNLow) s = .next t ∧ t.now = s.now ∧ t.pwr.rstIsLow = true ∧ t.pwr.reset = true ∧ t.pwr.cause = 3 ∧ t.boot.otp = s.boot.otp ∧ t.boot.flash = s.boot.flash ∧ t.lk.ring = s.lk.ring ∧ (∀ n, t.gatesOff n) ∧ t.outputsOff)
  ∧ (∀ (s : State), 2 ≤ s.pwr.rstLow → s.pwr.rstIsLow = false → s.pwr.stuck = false → s.pwr.reset = false → s.pwr.pfHold = false → s.pwr.pfail = true → ∃ t, exec (.rstNLow) s = .next t ∧ t.pwr = { s.pwr with rstIsLow := true, rstDeferred := true } ∧ s.sameBut [.pwr] t)
  ∧ (∀ (s : State), 2 ≤ s.pwr.rstHigh → s.pwr.rstIsLow = true → s.pwr.stuck = false → s.pwr.reset = true → s.pwr.cause = 3 → s.pwr.supplies = true → s.pwr.pfail = false → ∃ t, exec (.rstNHigh) s = .next t ∧ t.pwr.rstIsLow = false ∧ t.pwr.reset = false ∧ t.pwr.heldMs = heldMs (s.pwr.held + 1 - s.pwr.rstHigh) ∧ t.pwr.record = some (0x0006, t.pwr.heldMs) ∧ s.sameBut [.pwr] t)
  ∧ (∀ (s : State), s.pwr.reset = true → s.pwr.cause = 3 → s.pwr.pinHolds = true → s.pwr.pulseQual = true → s.pwr.maxHold * 32768 ≤ s.pwr.held → s.pwr.supplies = true → s.pwr.pfail = false → ∃ t, exec (.resetStuck) s = .next t ∧ t.pwr.stuck = true ∧ t.pwr.reset = false ∧ t.pwr.record = some (0x0007, s.pwr.maxHold) ∧ s.sameBut [.pwr] t)
  ∧ (∀ (s : State), s.pwr.stuck = true → 3277 ≤ s.pwr.highRun → ∃ t, exec (.rstNRehonour) s = .next t ∧ t.pwr = { s.pwr with stuck := false } ∧ s.sameBut [.pwr] t)
  ∧ (∀ (at_ : Nat) (s : State), s.pwr.pfail = false → s.pwr.supplies = true → s.pwr.reset = false → ∃ t, exec (.pfailAssert at_) s = .next t ∧ t.now = max s.now at_ ∧ t.pwr.pfail = true ∧ t.lk.closed = true ∧ t.lk.flush.isSome = true ∧ (∀ n, t.gatesOff n) ∧ t.outputsOff ∧ (∀ n, t.get (PWM_STAT.STATE n) = 0))
  ∧ (∀ (at_ : Nat) (s : State), s.pwr.pfHold = true → s.pwr.supplies = true → s.pwr.pinHolds = false → ∃ t, exec (.pfRestart at_) s = .next t ∧ t.now = max s.now at_ ∧ t.pwr.pfail = false ∧ t.pwr.cause = 4 ∧ t.pwr.reset = false)
end

