-- ==== Sys2Proof/Laws/Memory.lean ====
section
/-! SUPPORT. Memory: what a write does to every byte, and that every operation keeps the one form (log 7). -/

namespace Sys2Proof.Machine

open Sys2Proof

theorem memRead_memWrite_same (m : List Host.Cell) (h : Memory.wf m) (a : Nat) (b : Byte) : memRead (memWrite m a b) a = b := by
  induction m with
  | nil => by_cases hb : b = 0#8 <;> simp [memWrite, memRead, hb]
  | cons q r ih =>
    obtain ⟨c, d⟩ := q
    have hr : Memory.wf r := ⟨(List.pairwise_cons.mp h.1).2, fun x hx => h.2 x (List.mem_cons_of_mem _ hx)⟩
    have hlt : ∀ x ∈ r, c < x.1 := fun x hx => (List.pairwise_cons.mp h.1).1 x hx
    have absent : ∀ (l : List Host.Cell), (∀ x ∈ l, a < x.1) → memRead l a = 0 := by
      intro l hl
      induction l with
      | nil => rfl
      | cons x l ih' =>
        have h1 := hl x (List.mem_cons_self ..)
        have h2 : ¬ x.1 = a := by omega
        simp only [memRead, h2, if_false]
        exact ih' (fun y hy => hl y (List.mem_cons_of_mem _ hy))
    unfold memWrite
    by_cases h1 : c = a
    · subst h1
      by_cases hb : b = 0#8
      · subst hb; simpa using absent r hlt
      · simp [hb, memRead]
    · by_cases h2 : a < c
      · by_cases hb : b = 0#8
        · subst hb
          simp only [h1, h2, BitVec.ofNat_eq_ofNat, if_true, if_false]
          exact absent _ (by
            intro x hx
            rcases List.mem_cons.mp hx with rfl | hx
            · exact h2
            · exact lt_trans h2 (hlt x hx))
        · simp [h1, h2, hb, memRead]
      · simp [h1, h2, memRead, ih hr]

theorem memRead_memWrite_ne (m : List Host.Cell) {a c : Nat} (b : Byte) (h : c ≠ a) : memRead (memWrite m a b) c = memRead m c := by
  induction m with
  | nil => by_cases hb : b = 0#8 <;> simp [memWrite, memRead, hb, Ne.symm h]
  | cons q r ih =>
    obtain ⟨x, d⟩ := q
    unfold memWrite
    by_cases h1 : x = a
    · subst h1
      by_cases hb : b = 0#8 <;> simp [hb, memRead, Ne.symm h]
    · by_cases h2 : a < x
      · by_cases hb : b = 0#8 <;> simp [h1, h2, hb, memRead, Ne.symm h]
      · simp only [h1, h2, if_false, memRead, ih]

theorem memRead_memWriteN_out (m : List Host.Cell) (bs : List Byte) : ∀ (a c : Nat), (c < a ∨ a + bs.length ≤ c) →
    memRead (memWriteN m a bs) c = memRead m c := by
  induction bs generalizing m with
  | nil => intro a c _; rfl
  | cons b t ih =>
    intro a c h
    simp only [memWriteN]
    rw [ih _ (a + 1) c (by simp only [List.length_cons] at h; omega)]
    exact memRead_memWrite_ne m b (by simp only [List.length_cons] at h; omega)

/-- Addresses of a memory after a write of one byte: those before, or the one written. -/
theorem mem_memWrite (m : List Host.Cell) (a : Nat) (b : Byte) : ∀ x ∈ memWrite m a b, x ∈ m ∨ (x.1 = a ∧ x.2 = b ∧ b ≠ 0) := by
  induction m with
  | nil =>
    intro x hx
    by_cases hb : b = 0
    · simp [memWrite, hb] at hx
    · simp only [memWrite, hb, if_false, List.mem_singleton] at hx
      subst hx; exact Or.inr ⟨rfl, rfl, hb⟩
  | cons q r ih =>
    obtain ⟨c, d⟩ := q
    intro x hx
    unfold memWrite at hx
    by_cases h1 : c = a
    · by_cases hb : b = 0
      · simp only [h1, hb, if_true] at hx
        exact Or.inl (List.mem_cons_of_mem _ hx)
      · simp only [h1, hb, if_true, if_false] at hx
        rcases List.mem_cons.mp hx with rfl | hx
        · exact Or.inr ⟨rfl, rfl, hb⟩
        · exact Or.inl (List.mem_cons_of_mem _ hx)
    · by_cases h2 : a < c
      · by_cases hb : b = 0
        · simp only [h1, h2, hb, if_true, if_false] at hx
          exact Or.inl hx
        · simp only [h1, h2, hb, if_true, if_false] at hx
          rcases List.mem_cons.mp hx with rfl | hx
          · exact Or.inr ⟨rfl, rfl, hb⟩
          · exact Or.inl hx
      · simp only [h1, h2, if_false] at hx
        rcases List.mem_cons.mp hx with rfl | hx
        · exact Or.inl (List.mem_cons_self ..)
        · rcases ih x hx with h | h
          · exact Or.inl (List.mem_cons_of_mem _ h)
          · exact Or.inr h

theorem memWrite_wf (m : List Host.Cell) (a : Nat) (b : Byte) (h : Memory.wf m) : Memory.wf (memWrite m a b) := by
  refine ⟨?_, fun x hx => ?_⟩
  · induction m with
    | nil => by_cases hb : b = 0#8 <;> simp [memWrite, hb]
    | cons q r ih =>
      obtain ⟨c, d⟩ := q
      have hp := List.pairwise_cons.mp h.1
      have hr : Memory.wf r := ⟨hp.2, fun x hx => h.2 x (List.mem_cons_of_mem _ hx)⟩
      unfold memWrite
      by_cases h1 : c = a
      · subst h1
        by_cases hb : b = 0
        · simpa only [hb, if_true] using hp.2
        · simp only [hb, if_true, if_false]
          exact List.pairwise_cons.mpr ⟨hp.1, hp.2⟩
      · by_cases h2 : a < c
        · by_cases hb : b = 0
          · simpa only [h1, h2, hb, if_true, if_false] using h.1
          · simp only [h1, h2, hb, if_true, if_false]
            refine List.pairwise_cons.mpr ⟨fun x hx => ?_, h.1⟩
            rcases List.mem_cons.mp hx with rfl | hx
            · exact h2
            · exact lt_trans h2 (hp.1 x hx)
        · simp only [h1, h2, if_false]
          refine List.pairwise_cons.mpr ⟨fun x hx => ?_, ih hr⟩
          rcases mem_memWrite r a b x hx with h3 | h3
          · exact hp.1 x h3
          · show c < x.1
            omega
  · rcases mem_memWrite m a b x hx with h3 | h3
    · exact h.2 x h3
    · rw [h3.2.1]; exact h3.2.2

theorem memWriteN_wf (bs : List Byte) : ∀ (m : List Host.Cell) (a : Nat), Memory.wf m → Memory.wf (memWriteN m a bs) := by
  induction bs with
  | nil => intro m a h; exact h
  | cons b t ih => intro m a h; exact ih _ _ (memWrite_wf m a b h)

theorem filter_wf (m : List Host.Cell) (p : Host.Cell → Bool) (h : Memory.wf m) : Memory.wf (m.filter p) :=
  ⟨h.1.filter _, fun q hq => h.2 q (List.mem_of_mem_filter hq)⟩

theorem copyRange_wf (m : List Host.Cell) (src dst n : Nat) (h : Memory.wf m) : Memory.wf (copyRange m src dst n) := by
  have key : ∀ (l : List Host.Cell) (acc : List Host.Cell), Memory.wf acc →
      Memory.wf (l.foldl (fun m (q : Host.Cell) => memWrite m (dst + (q.1 - src)) q.2) acc) := by
    intro l
    induction l with
    | nil => intro acc hacc; exact hacc
    | cons q t ih => intro acc hacc; exact ih _ (memWrite_wf acc _ _ hacc)
  exact key _ _ (filter_wf m _ h)

theorem Part.same_trans {p : Part} {s t u : State} (h : p.same s t) (i : p.same t u) : p.same s u := by
  cases p with
  | reg g => exact fun r e => (h r e).trans (i r e)
  | _ => exact Eq.trans h i

end Sys2Proof.Machine
end

