-- ==== Sys2Proof/Laws/State.lean ====
section
/-! SUPPORT. Tables, registers and fields: what a write leaves to every read, and one lemma for each field of the state under each
update. -/

namespace Sys2Proof.Machine

open Sys2Proof

theorem tget_tset_same {K V : Type} [DecidableEq K] (t : List (K × V)) (k : K) (v d : V) : tget (tset t k v) k d = v := by
  induction t with
  | nil => simp [tset, tget]
  | cons q r ih =>
    obtain ⟨a, b⟩ := q
    by_cases h : a = k <;> simp [tset, tget, h, ih]

theorem tget_tset_ne {K V : Type} [DecidableEq K] (t : List (K × V)) {k j : K} (v d : V) (h : j ≠ k) : tget (tset t k v) j d = tget t j d := by
  induction t with
  | nil => simp [tset, tget, Ne.symm h]
  | cons q r ih =>
    obtain ⟨a, b⟩ := q
    by_cases h1 : a = k
    · subst h1; simp [tset, tget, Ne.symm h]
    · by_cases h2 : a = j
      · subst h2; simp [tset, tget, h1]
      · simp [tset, tget, h1, h2, ih]

@[simp] theorem State.rd_wr_same (s : State) (r : Reg) (v : Word) : (s.wr r v).rd r = v := tget_tset_same _ _ _ _

theorem State.rd_wr_ne (s : State) {r q : Reg} (v : Word) (h : q ≠ r) : (s.wr r v).rd q = s.rd q := tget_tset_ne _ _ _ h

theorem getBits_putBits_same (w : Word) {lo n : Nat} (v : Nat) (h : lo + n ≤ 32) : getBits (putBits w lo n v) lo n = v % 2 ^ n := by
  have hp : 2 ^ n ≤ 2 ^ 32 := Nat.pow_le_pow_right (by omega) (by omega)
  have hv : v % 2 ^ n < 2 ^ 32 := lt_of_lt_of_le (Nat.mod_lt _ (Nat.two_pow_pos n)) hp
  unfold getBits putBits
  apply Nat.eq_of_testBit_eq
  intro i
  rw [BitVec.testBit_toNat, BitVec.getLsbD_extractLsb', Nat.testBit_mod_two_pow]
  by_cases hi : i < n
  · have h1 : ¬ lo + i < lo := by omega
    have h2 : lo + i < 32 := by omega
    have h3 : i < 32 := by omega
    have h4 : (2 ^ n - 1).testBit i = true := by simp [Nat.testBit_two_pow_sub_one, hi]
    have h5 : lo + i - lo = i := by omega
    simp only [hi, h1, h2, h3, h4, h5, BitVec.getLsbD_or, BitVec.getLsbD_and, BitVec.getLsbD_not, BitVec.getLsbD_shiftLeft, BitVec.getLsbD_ofNat,
      Nat.testBit_mod_two_pow]
    simp
  · simp [hi]

theorem getBits_putBits_ne (w : Word) {lo n lo' n' : Nat} (v : Nat) (h : lo' + n' ≤ lo ∨ lo + n ≤ lo') :
    getBits (putBits w lo n v) lo' n' = getBits w lo' n' := by
  unfold getBits putBits
  apply Nat.eq_of_testBit_eq
  intro i
  rw [BitVec.testBit_toNat, BitVec.testBit_toNat, BitVec.getLsbD_extractLsb', BitVec.getLsbD_extractLsb']
  by_cases hi : i < n'
  · rcases h with h | h
    · have h1 : lo' + i < lo := by omega
      simp only [hi, BitVec.getLsbD_or, BitVec.getLsbD_and, BitVec.getLsbD_not, BitVec.getLsbD_shiftLeft, BitVec.getLsbD_ofNat, h1]
      by_cases h2 : lo' + i < 32
      · simp [h2]
      · simp [h2, BitVec.getLsbD_of_ge w _ (Nat.le_of_not_lt h2)]
    · have h1 : ¬ lo' + i < lo := by omega
      have h3 : ¬ lo' + i - lo < n := by omega
      have h4 : (2 ^ n - 1).testBit (lo' + i - lo) = false := by simp [Nat.testBit_two_pow_sub_one, h3]
      have h5 : (v % 2 ^ n).testBit (lo' + i - lo) = false := by simp [Nat.testBit_mod_two_pow, h3]
      simp only [hi, BitVec.getLsbD_or, BitVec.getLsbD_and, BitVec.getLsbD_not, BitVec.getLsbD_shiftLeft, BitVec.getLsbD_ofNat, h1, h4, h5]
      by_cases h2 : lo' + i < 32
      · simp [h2]
      · simp [h2, BitVec.getLsbD_of_ge w _ (Nat.le_of_not_lt h2)]
  · simp [hi]

/-- Two states with the same registers give every field the same value. -/
theorem State.get_of_regs {s t : State} (h : s.regs = t.regs) (g : Field) : s.get g = t.get g := by
  unfold State.get State.rd
  rw [h]

theorem State.rd_of_regs {s t : State} (h : s.regs = t.regs) (r : Reg) : s.rd r = t.rd r := by
  unfold State.rd
  rw [h]

theorem State.get_put_same (s : State) (g : Field) (v : Nat) (h : g.lo + g.width ≤ 32) : (s.put g v).get g = v % 2 ^ g.width := by
  unfold State.get State.put
  rw [State.rd_wr_same, getBits_putBits_same _ _ h]

theorem State.get_put_reg (s : State) {g j : Field} (v : Nat) (h : j.reg ≠ g.reg) : (s.put g v).get j = s.get j := by
  unfold State.get State.put
  rw [State.rd_wr_ne _ _ h]

theorem State.get_put_field (s : State) {g j : Field} (v : Nat) (h : j.lo + j.width ≤ g.lo ∨ g.lo + g.width ≤ j.lo) : (s.put g v).get j = s.get j := by
  by_cases hr : j.reg = g.reg
  · unfold State.get State.put
    rw [hr, State.rd_wr_same, getBits_putBits_ne _ _ h]
  · exact State.get_put_reg s v hr

theorem State.rd_put_ne (s : State) {g : Field} {r : Reg} (v : Nat) (h : r ≠ g.reg) : (s.put g v).rd r = s.rd r := State.rd_wr_ne _ _ h

theorem State.get_wr_ne (s : State) {r : Reg} {j : Field} (v : Word) (h : j.reg ≠ r) : (s.wr r v).get j = s.get j := by
  unfold State.get
  rw [State.rd_wr_ne _ _ h]

theorem State.get_wr_same (s : State) (g : Field) (v : Word) : (s.wr g.reg v).get g = getBits v g.lo g.width := by
  unfold State.get
  rw [State.rd_wr_same]

theorem State.is_put (s : State) (g : Field) (v : Nat) (h : g.lo + g.width ≤ 32) : (s.put g v).is g = decide (v % 2 ^ g.width = 1) := by
  unfold State.is
  rw [State.get_put_same _ _ _ h]
  by_cases hv : v % 2 ^ g.width = 1 <;> simp [hv]

theorem State.is_flag (s : State) (g : Field) (h : g.lo + g.width ≤ 32) (hw : 0 < g.width) : (s.flag g).is g = true := by
  unfold State.flag
  rw [State.is_put _ _ _ h]
  have : 1 < 2 ^ g.width := Nat.one_lt_two_pow (by omega)
  simp [Nat.mod_eq_of_lt this]

theorem State.is_putB (s : State) (g : Field) (b : Bool) (h : g.lo + g.width ≤ 32) (hw : 0 < g.width) : (s.putB g b).is g = b := by
  unfold State.putB
  rw [State.is_put _ _ _ h]
  have : 1 < 2 ^ g.width := Nat.one_lt_two_pow (by omega)
  cases b <;> simp [Nat.mod_eq_of_lt this]

theorem State.rd_bump (s : State) (r : Reg) : (s.bump r).rd r = satInc (s.rd r) := State.rd_wr_same _ _ _

theorem State.rd_count (s : State) (r : Reg) : (s.count r).rd r = s.rd r + 1 := State.rd_wr_same _ _ _

@[simp] theorem State.wr_pending (s : State) (r : Reg) (v : Word) : (s.wr r v).pending = s.pending := rfl
@[simp] theorem State.wr_now (s : State) (r : Reg) (v : Word) : (s.wr r v).now = s.now := rfl
@[simp] theorem State.wr_regs (s : State) (r : Reg) (v : Word) : (s.wr r v).regs = tset s.regs r v := rfl
@[simp] theorem State.wr_mem (s : State) (r : Reg) (v : Word) : (s.wr r v).mem = s.mem := rfl
@[simp] theorem State.wr_fresh (s : State) (r : Reg) (v : Word) : (s.wr r v).fresh = s.fresh := rfl
@[simp] theorem State.wr_rdata (s : State) (r : Reg) (v : Word) : (s.wr r v).rdata = s.rdata := rfl
@[simp] theorem State.wr_ident (s : State) (r : Reg) (v : Word) : (s.wr r v).ident = s.ident := rfl
@[simp] theorem State.wr_seq (s : State) (r : Reg) (v : Word) : (s.wr r v).seq = s.seq := rfl
@[simp] theorem State.wr_time (s : State) (r : Reg) (v : Word) : (s.wr r v).time = s.time := rfl
@[simp] theorem State.wr_caps (s : State) (r : Reg) (v : Word) : (s.wr r v).caps = s.caps := rfl
@[simp] theorem State.wr_pulses (s : State) (r : Reg) (v : Word) : (s.wr r v).pulses = s.pulses := rfl
@[simp] theorem State.wr_lk (s : State) (r : Reg) (v : Word) : (s.wr r v).lk = s.lk := rfl
@[simp] theorem State.wr_evts (s : State) (r : Reg) (v : Word) : (s.wr r v).evts = s.evts := rfl
@[simp] theorem State.wr_pwr (s : State) (r : Reg) (v : Word) : (s.wr r v).pwr = s.pwr := rfl
@[simp] theorem State.wr_ports (s : State) (r : Reg) (v : Word) : (s.wr r v).ports = s.ports := rfl
@[simp] theorem State.wr_axes (s : State) (r : Reg) (v : Word) : (s.wr r v).axes = s.axes := rfl
@[simp] theorem State.wr_sdclk (s : State) (r : Reg) (v : Word) : (s.wr r v).sdclk = s.sdclk := rfl
@[simp] theorem State.wr_filters (s : State) (r : Reg) (v : Word) : (s.wr r v).filters = s.filters := rfl
@[simp] theorem State.wr_fbs (s : State) (r : Reg) (v : Word) : (s.wr r v).fbs = s.fbs := rfl
@[simp] theorem State.wr_loops (s : State) (r : Reg) (v : Word) : (s.wr r v).loops = s.loops := rfl
@[simp] theorem State.wr_arms (s : State) (r : Reg) (v : Word) : (s.wr r v).arms = s.arms := rfl
@[simp] theorem State.wr_kiln (s : State) (r : Reg) (v : Word) : (s.wr r v).kiln = s.kiln := rfl
@[simp] theorem State.wr_plannerRan (s : State) (r : Reg) (v : Word) : (s.wr r v).plannerRan = s.plannerRan := rfl
@[simp] theorem State.wr_planDue (s : State) (r : Reg) (v : Word) : (s.wr r v).planDue = s.planDue := rfl
@[simp] theorem State.wr_tiles (s : State) (r : Reg) (v : Word) : (s.wr r v).tiles = s.tiles := rfl
@[simp] theorem State.wr_stk (s : State) (r : Reg) (v : Word) : (s.wr r v).stk = s.stk := rfl
@[simp] theorem State.wr_pc (s : State) (r : Reg) (v : Word) : (s.wr r v).pc = s.pc := rfl
@[simp] theorem State.wr_ic (s : State) (r : Reg) (v : Word) : (s.wr r v).ic = s.ic := rfl
@[simp] theorem State.wr_si (s : State) (r : Reg) (v : Word) : (s.wr r v).si = s.si := rfl
@[simp] theorem State.wr_eth (s : State) (r : Reg) (v : Word) : (s.wr r v).eth = s.eth := rfl
@[simp] theorem State.wr_chain (s : State) (r : Reg) (v : Word) : (s.wr r v).chain = s.chain := rfl
@[simp] theorem State.wr_claspA (s : State) (r : Reg) (v : Word) : (s.wr r v).claspA = s.claspA := rfl
@[simp] theorem State.wr_claspB (s : State) (r : Reg) (v : Word) : (s.wr r v).claspB = s.claspB := rfl
@[simp] theorem State.wr_mb (s : State) (r : Reg) (v : Word) : (s.wr r v).mb = s.mb := rfl
@[simp] theorem State.wr_boot (s : State) (r : Reg) (v : Word) : (s.wr r v).boot = s.boot := rfl

@[simp] theorem State.put_pending (s : State) (g : Field) (v : Nat) : (s.put g v).pending = s.pending := rfl
@[simp] theorem State.put_now (s : State) (g : Field) (v : Nat) : (s.put g v).now = s.now := rfl
@[simp] theorem State.put_mem (s : State) (g : Field) (v : Nat) : (s.put g v).mem = s.mem := rfl
@[simp] theorem State.put_fresh (s : State) (g : Field) (v : Nat) : (s.put g v).fresh = s.fresh := rfl
@[simp] theorem State.put_rdata (s : State) (g : Field) (v : Nat) : (s.put g v).rdata = s.rdata := rfl
@[simp] theorem State.put_ident (s : State) (g : Field) (v : Nat) : (s.put g v).ident = s.ident := rfl
@[simp] theorem State.put_seq (s : State) (g : Field) (v : Nat) : (s.put g v).seq = s.seq := rfl
@[simp] theorem State.put_time (s : State) (g : Field) (v : Nat) : (s.put g v).time = s.time := rfl
@[simp] theorem State.put_caps (s : State) (g : Field) (v : Nat) : (s.put g v).caps = s.caps := rfl
@[simp] theorem State.put_pulses (s : State) (g : Field) (v : Nat) : (s.put g v).pulses = s.pulses := rfl
@[simp] theorem State.put_lk (s : State) (g : Field) (v : Nat) : (s.put g v).lk = s.lk := rfl
@[simp] theorem State.put_evts (s : State) (g : Field) (v : Nat) : (s.put g v).evts = s.evts := rfl
@[simp] theorem State.put_pwr (s : State) (g : Field) (v : Nat) : (s.put g v).pwr = s.pwr := rfl
@[simp] theorem State.put_ports (s : State) (g : Field) (v : Nat) : (s.put g v).ports = s.ports := rfl
@[simp] theorem State.put_axes (s : State) (g : Field) (v : Nat) : (s.put g v).axes = s.axes := rfl
@[simp] theorem State.put_sdclk (s : State) (g : Field) (v : Nat) : (s.put g v).sdclk = s.sdclk := rfl
@[simp] theorem State.put_filters (s : State) (g : Field) (v : Nat) : (s.put g v).filters = s.filters := rfl
@[simp] theorem State.put_fbs (s : State) (g : Field) (v : Nat) : (s.put g v).fbs = s.fbs := rfl
@[simp] theorem State.put_loops (s : State) (g : Field) (v : Nat) : (s.put g v).loops = s.loops := rfl
@[simp] theorem State.put_arms (s : State) (g : Field) (v : Nat) : (s.put g v).arms = s.arms := rfl
@[simp] theorem State.put_kiln (s : State) (g : Field) (v : Nat) : (s.put g v).kiln = s.kiln := rfl
@[simp] theorem State.put_plannerRan (s : State) (g : Field) (v : Nat) : (s.put g v).plannerRan = s.plannerRan := rfl
@[simp] theorem State.put_planDue (s : State) (g : Field) (v : Nat) : (s.put g v).planDue = s.planDue := rfl
@[simp] theorem State.put_tiles (s : State) (g : Field) (v : Nat) : (s.put g v).tiles = s.tiles := rfl
@[simp] theorem State.put_stk (s : State) (g : Field) (v : Nat) : (s.put g v).stk = s.stk := rfl
@[simp] theorem State.put_pc (s : State) (g : Field) (v : Nat) : (s.put g v).pc = s.pc := rfl
@[simp] theorem State.put_ic (s : State) (g : Field) (v : Nat) : (s.put g v).ic = s.ic := rfl
@[simp] theorem State.put_si (s : State) (g : Field) (v : Nat) : (s.put g v).si = s.si := rfl
@[simp] theorem State.put_eth (s : State) (g : Field) (v : Nat) : (s.put g v).eth = s.eth := rfl
@[simp] theorem State.put_chain (s : State) (g : Field) (v : Nat) : (s.put g v).chain = s.chain := rfl
@[simp] theorem State.put_claspA (s : State) (g : Field) (v : Nat) : (s.put g v).claspA = s.claspA := rfl
@[simp] theorem State.put_claspB (s : State) (g : Field) (v : Nat) : (s.put g v).claspB = s.claspB := rfl
@[simp] theorem State.put_mb (s : State) (g : Field) (v : Nat) : (s.put g v).mb = s.mb := rfl
@[simp] theorem State.put_boot (s : State) (g : Field) (v : Nat) : (s.put g v).boot = s.boot := rfl

@[simp] theorem State.putB_pending (s : State) (g : Field) (v : Bool) : (s.putB g v).pending = s.pending := rfl
@[simp] theorem State.putB_now (s : State) (g : Field) (v : Bool) : (s.putB g v).now = s.now := rfl
@[simp] theorem State.putB_mem (s : State) (g : Field) (v : Bool) : (s.putB g v).mem = s.mem := rfl
@[simp] theorem State.putB_fresh (s : State) (g : Field) (v : Bool) : (s.putB g v).fresh = s.fresh := rfl
@[simp] theorem State.putB_rdata (s : State) (g : Field) (v : Bool) : (s.putB g v).rdata = s.rdata := rfl
@[simp] theorem State.putB_ident (s : State) (g : Field) (v : Bool) : (s.putB g v).ident = s.ident := rfl
@[simp] theorem State.putB_seq (s : State) (g : Field) (v : Bool) : (s.putB g v).seq = s.seq := rfl
@[simp] theorem State.putB_time (s : State) (g : Field) (v : Bool) : (s.putB g v).time = s.time := rfl
@[simp] theorem State.putB_caps (s : State) (g : Field) (v : Bool) : (s.putB g v).caps = s.caps := rfl
@[simp] theorem State.putB_pulses (s : State) (g : Field) (v : Bool) : (s.putB g v).pulses = s.pulses := rfl
@[simp] theorem State.putB_lk (s : State) (g : Field) (v : Bool) : (s.putB g v).lk = s.lk := rfl
@[simp] theorem State.putB_evts (s : State) (g : Field) (v : Bool) : (s.putB g v).evts = s.evts := rfl
@[simp] theorem State.putB_pwr (s : State) (g : Field) (v : Bool) : (s.putB g v).pwr = s.pwr := rfl
@[simp] theorem State.putB_ports (s : State) (g : Field) (v : Bool) : (s.putB g v).ports = s.ports := rfl
@[simp] theorem State.putB_axes (s : State) (g : Field) (v : Bool) : (s.putB g v).axes = s.axes := rfl
@[simp] theorem State.putB_sdclk (s : State) (g : Field) (v : Bool) : (s.putB g v).sdclk = s.sdclk := rfl
@[simp] theorem State.putB_filters (s : State) (g : Field) (v : Bool) : (s.putB g v).filters = s.filters := rfl
@[simp] theorem State.putB_fbs (s : State) (g : Field) (v : Bool) : (s.putB g v).fbs = s.fbs := rfl
@[simp] theorem State.putB_loops (s : State) (g : Field) (v : Bool) : (s.putB g v).loops = s.loops := rfl
@[simp] theorem State.putB_arms (s : State) (g : Field) (v : Bool) : (s.putB g v).arms = s.arms := rfl
@[simp] theorem State.putB_kiln (s : State) (g : Field) (v : Bool) : (s.putB g v).kiln = s.kiln := rfl
@[simp] theorem State.putB_plannerRan (s : State) (g : Field) (v : Bool) : (s.putB g v).plannerRan = s.plannerRan := rfl
@[simp] theorem State.putB_planDue (s : State) (g : Field) (v : Bool) : (s.putB g v).planDue = s.planDue := rfl
@[simp] theorem State.putB_tiles (s : State) (g : Field) (v : Bool) : (s.putB g v).tiles = s.tiles := rfl
@[simp] theorem State.putB_stk (s : State) (g : Field) (v : Bool) : (s.putB g v).stk = s.stk := rfl
@[simp] theorem State.putB_pc (s : State) (g : Field) (v : Bool) : (s.putB g v).pc = s.pc := rfl
@[simp] theorem State.putB_ic (s : State) (g : Field) (v : Bool) : (s.putB g v).ic = s.ic := rfl
@[simp] theorem State.putB_si (s : State) (g : Field) (v : Bool) : (s.putB g v).si = s.si := rfl
@[simp] theorem State.putB_eth (s : State) (g : Field) (v : Bool) : (s.putB g v).eth = s.eth := rfl
@[simp] theorem State.putB_chain (s : State) (g : Field) (v : Bool) : (s.putB g v).chain = s.chain := rfl
@[simp] theorem State.putB_claspA (s : State) (g : Field) (v : Bool) : (s.putB g v).claspA = s.claspA := rfl
@[simp] theorem State.putB_claspB (s : State) (g : Field) (v : Bool) : (s.putB g v).claspB = s.claspB := rfl
@[simp] theorem State.putB_mb (s : State) (g : Field) (v : Bool) : (s.putB g v).mb = s.mb := rfl
@[simp] theorem State.putB_boot (s : State) (g : Field) (v : Bool) : (s.putB g v).boot = s.boot := rfl

@[simp] theorem State.flag_pending (s : State) (g : Field) : (s.flag g).pending = s.pending := rfl
@[simp] theorem State.flag_now (s : State) (g : Field) : (s.flag g).now = s.now := rfl
@[simp] theorem State.flag_mem (s : State) (g : Field) : (s.flag g).mem = s.mem := rfl
@[simp] theorem State.flag_fresh (s : State) (g : Field) : (s.flag g).fresh = s.fresh := rfl
@[simp] theorem State.flag_rdata (s : State) (g : Field) : (s.flag g).rdata = s.rdata := rfl
@[simp] theorem State.flag_ident (s : State) (g : Field) : (s.flag g).ident = s.ident := rfl
@[simp] theorem State.flag_seq (s : State) (g : Field) : (s.flag g).seq = s.seq := rfl
@[simp] theorem State.flag_time (s : State) (g : Field) : (s.flag g).time = s.time := rfl
@[simp] theorem State.flag_caps (s : State) (g : Field) : (s.flag g).caps = s.caps := rfl
@[simp] theorem State.flag_pulses (s : State) (g : Field) : (s.flag g).pulses = s.pulses := rfl
@[simp] theorem State.flag_lk (s : State) (g : Field) : (s.flag g).lk = s.lk := rfl
@[simp] theorem State.flag_evts (s : State) (g : Field) : (s.flag g).evts = s.evts := rfl
@[simp] theorem State.flag_pwr (s : State) (g : Field) : (s.flag g).pwr = s.pwr := rfl
@[simp] theorem State.flag_ports (s : State) (g : Field) : (s.flag g).ports = s.ports := rfl
@[simp] theorem State.flag_axes (s : State) (g : Field) : (s.flag g).axes = s.axes := rfl
@[simp] theorem State.flag_sdclk (s : State) (g : Field) : (s.flag g).sdclk = s.sdclk := rfl
@[simp] theorem State.flag_filters (s : State) (g : Field) : (s.flag g).filters = s.filters := rfl
@[simp] theorem State.flag_fbs (s : State) (g : Field) : (s.flag g).fbs = s.fbs := rfl
@[simp] theorem State.flag_loops (s : State) (g : Field) : (s.flag g).loops = s.loops := rfl
@[simp] theorem State.flag_arms (s : State) (g : Field) : (s.flag g).arms = s.arms := rfl
@[simp] theorem State.flag_kiln (s : State) (g : Field) : (s.flag g).kiln = s.kiln := rfl
@[simp] theorem State.flag_plannerRan (s : State) (g : Field) : (s.flag g).plannerRan = s.plannerRan := rfl
@[simp] theorem State.flag_planDue (s : State) (g : Field) : (s.flag g).planDue = s.planDue := rfl
@[simp] theorem State.flag_tiles (s : State) (g : Field) : (s.flag g).tiles = s.tiles := rfl
@[simp] theorem State.flag_stk (s : State) (g : Field) : (s.flag g).stk = s.stk := rfl
@[simp] theorem State.flag_pc (s : State) (g : Field) : (s.flag g).pc = s.pc := rfl
@[simp] theorem State.flag_ic (s : State) (g : Field) : (s.flag g).ic = s.ic := rfl
@[simp] theorem State.flag_si (s : State) (g : Field) : (s.flag g).si = s.si := rfl
@[simp] theorem State.flag_eth (s : State) (g : Field) : (s.flag g).eth = s.eth := rfl
@[simp] theorem State.flag_chain (s : State) (g : Field) : (s.flag g).chain = s.chain := rfl
@[simp] theorem State.flag_claspA (s : State) (g : Field) : (s.flag g).claspA = s.claspA := rfl
@[simp] theorem State.flag_claspB (s : State) (g : Field) : (s.flag g).claspB = s.claspB := rfl
@[simp] theorem State.flag_mb (s : State) (g : Field) : (s.flag g).mb = s.mb := rfl
@[simp] theorem State.flag_boot (s : State) (g : Field) : (s.flag g).boot = s.boot := rfl

@[simp] theorem State.bump_pending (s : State) (r : Reg) : (s.bump r).pending = s.pending := rfl
@[simp] theorem State.bump_now (s : State) (r : Reg) : (s.bump r).now = s.now := rfl
@[simp] theorem State.bump_mem (s : State) (r : Reg) : (s.bump r).mem = s.mem := rfl
@[simp] theorem State.bump_fresh (s : State) (r : Reg) : (s.bump r).fresh = s.fresh := rfl
@[simp] theorem State.bump_rdata (s : State) (r : Reg) : (s.bump r).rdata = s.rdata := rfl
@[simp] theorem State.bump_ident (s : State) (r : Reg) : (s.bump r).ident = s.ident := rfl
@[simp] theorem State.bump_seq (s : State) (r : Reg) : (s.bump r).seq = s.seq := rfl
@[simp] theorem State.bump_time (s : State) (r : Reg) : (s.bump r).time = s.time := rfl
@[simp] theorem State.bump_caps (s : State) (r : Reg) : (s.bump r).caps = s.caps := rfl
@[simp] theorem State.bump_pulses (s : State) (r : Reg) : (s.bump r).pulses = s.pulses := rfl
@[simp] theorem State.bump_lk (s : State) (r : Reg) : (s.bump r).lk = s.lk := rfl
@[simp] theorem State.bump_evts (s : State) (r : Reg) : (s.bump r).evts = s.evts := rfl
@[simp] theorem State.bump_pwr (s : State) (r : Reg) : (s.bump r).pwr = s.pwr := rfl
@[simp] theorem State.bump_ports (s : State) (r : Reg) : (s.bump r).ports = s.ports := rfl
@[simp] theorem State.bump_axes (s : State) (r : Reg) : (s.bump r).axes = s.axes := rfl
@[simp] theorem State.bump_sdclk (s : State) (r : Reg) : (s.bump r).sdclk = s.sdclk := rfl
@[simp] theorem State.bump_filters (s : State) (r : Reg) : (s.bump r).filters = s.filters := rfl
@[simp] theorem State.bump_fbs (s : State) (r : Reg) : (s.bump r).fbs = s.fbs := rfl
@[simp] theorem State.bump_loops (s : State) (r : Reg) : (s.bump r).loops = s.loops := rfl
@[simp] theorem State.bump_arms (s : State) (r : Reg) : (s.bump r).arms = s.arms := rfl
@[simp] theorem State.bump_kiln (s : State) (r : Reg) : (s.bump r).kiln = s.kiln := rfl
@[simp] theorem State.bump_plannerRan (s : State) (r : Reg) : (s.bump r).plannerRan = s.plannerRan := rfl
@[simp] theorem State.bump_planDue (s : State) (r : Reg) : (s.bump r).planDue = s.planDue := rfl
@[simp] theorem State.bump_tiles (s : State) (r : Reg) : (s.bump r).tiles = s.tiles := rfl
@[simp] theorem State.bump_stk (s : State) (r : Reg) : (s.bump r).stk = s.stk := rfl
@[simp] theorem State.bump_pc (s : State) (r : Reg) : (s.bump r).pc = s.pc := rfl
@[simp] theorem State.bump_ic (s : State) (r : Reg) : (s.bump r).ic = s.ic := rfl
@[simp] theorem State.bump_si (s : State) (r : Reg) : (s.bump r).si = s.si := rfl
@[simp] theorem State.bump_eth (s : State) (r : Reg) : (s.bump r).eth = s.eth := rfl
@[simp] theorem State.bump_chain (s : State) (r : Reg) : (s.bump r).chain = s.chain := rfl
@[simp] theorem State.bump_claspA (s : State) (r : Reg) : (s.bump r).claspA = s.claspA := rfl
@[simp] theorem State.bump_claspB (s : State) (r : Reg) : (s.bump r).claspB = s.claspB := rfl
@[simp] theorem State.bump_mb (s : State) (r : Reg) : (s.bump r).mb = s.mb := rfl
@[simp] theorem State.bump_boot (s : State) (r : Reg) : (s.bump r).boot = s.boot := rfl

@[simp] theorem State.count_pending (s : State) (r : Reg) : (s.count r).pending = s.pending := rfl
@[simp] theorem State.count_now (s : State) (r : Reg) : (s.count r).now = s.now := rfl
@[simp] theorem State.count_mem (s : State) (r : Reg) : (s.count r).mem = s.mem := rfl
@[simp] theorem State.count_fresh (s : State) (r : Reg) : (s.count r).fresh = s.fresh := rfl
@[simp] theorem State.count_rdata (s : State) (r : Reg) : (s.count r).rdata = s.rdata := rfl
@[simp] theorem State.count_ident (s : State) (r : Reg) : (s.count r).ident = s.ident := rfl
@[simp] theorem State.count_seq (s : State) (r : Reg) : (s.count r).seq = s.seq := rfl
@[simp] theorem State.count_time (s : State) (r : Reg) : (s.count r).time = s.time := rfl
@[simp] theorem State.count_caps (s : State) (r : Reg) : (s.count r).caps = s.caps := rfl
@[simp] theorem State.count_pulses (s : State) (r : Reg) : (s.count r).pulses = s.pulses := rfl
@[simp] theorem State.count_lk (s : State) (r : Reg) : (s.count r).lk = s.lk := rfl
@[simp] theorem State.count_evts (s : State) (r : Reg) : (s.count r).evts = s.evts := rfl
@[simp] theorem State.count_pwr (s : State) (r : Reg) : (s.count r).pwr = s.pwr := rfl
@[simp] theorem State.count_ports (s : State) (r : Reg) : (s.count r).ports = s.ports := rfl
@[simp] theorem State.count_axes (s : State) (r : Reg) : (s.count r).axes = s.axes := rfl
@[simp] theorem State.count_sdclk (s : State) (r : Reg) : (s.count r).sdclk = s.sdclk := rfl
@[simp] theorem State.count_filters (s : State) (r : Reg) : (s.count r).filters = s.filters := rfl
@[simp] theorem State.count_fbs (s : State) (r : Reg) : (s.count r).fbs = s.fbs := rfl
@[simp] theorem State.count_loops (s : State) (r : Reg) : (s.count r).loops = s.loops := rfl
@[simp] theorem State.count_arms (s : State) (r : Reg) : (s.count r).arms = s.arms := rfl
@[simp] theorem State.count_kiln (s : State) (r : Reg) : (s.count r).kiln = s.kiln := rfl
@[simp] theorem State.count_plannerRan (s : State) (r : Reg) : (s.count r).plannerRan = s.plannerRan := rfl
@[simp] theorem State.count_planDue (s : State) (r : Reg) : (s.count r).planDue = s.planDue := rfl
@[simp] theorem State.count_tiles (s : State) (r : Reg) : (s.count r).tiles = s.tiles := rfl
@[simp] theorem State.count_stk (s : State) (r : Reg) : (s.count r).stk = s.stk := rfl
@[simp] theorem State.count_pc (s : State) (r : Reg) : (s.count r).pc = s.pc := rfl
@[simp] theorem State.count_ic (s : State) (r : Reg) : (s.count r).ic = s.ic := rfl
@[simp] theorem State.count_si (s : State) (r : Reg) : (s.count r).si = s.si := rfl
@[simp] theorem State.count_eth (s : State) (r : Reg) : (s.count r).eth = s.eth := rfl
@[simp] theorem State.count_chain (s : State) (r : Reg) : (s.count r).chain = s.chain := rfl
@[simp] theorem State.count_claspA (s : State) (r : Reg) : (s.count r).claspA = s.claspA := rfl
@[simp] theorem State.count_claspB (s : State) (r : Reg) : (s.count r).claspB = s.claspB := rfl
@[simp] theorem State.count_mb (s : State) (r : Reg) : (s.count r).mb = s.mb := rfl
@[simp] theorem State.count_boot (s : State) (r : Reg) : (s.count r).boot = s.boot := rfl

@[simp] theorem State.bumpField_pending (s : State) (g : Field) : (s.bumpField g).pending = s.pending := rfl
@[simp] theorem State.bumpField_now (s : State) (g : Field) : (s.bumpField g).now = s.now := rfl
@[simp] theorem State.bumpField_mem (s : State) (g : Field) : (s.bumpField g).mem = s.mem := rfl
@[simp] theorem State.bumpField_fresh (s : State) (g : Field) : (s.bumpField g).fresh = s.fresh := rfl
@[simp] theorem State.bumpField_rdata (s : State) (g : Field) : (s.bumpField g).rdata = s.rdata := rfl
@[simp] theorem State.bumpField_ident (s : State) (g : Field) : (s.bumpField g).ident = s.ident := rfl
@[simp] theorem State.bumpField_seq (s : State) (g : Field) : (s.bumpField g).seq = s.seq := rfl
@[simp] theorem State.bumpField_time (s : State) (g : Field) : (s.bumpField g).time = s.time := rfl
@[simp] theorem State.bumpField_caps (s : State) (g : Field) : (s.bumpField g).caps = s.caps := rfl
@[simp] theorem State.bumpField_pulses (s : State) (g : Field) : (s.bumpField g).pulses = s.pulses := rfl
@[simp] theorem State.bumpField_lk (s : State) (g : Field) : (s.bumpField g).lk = s.lk := rfl
@[simp] theorem State.bumpField_evts (s : State) (g : Field) : (s.bumpField g).evts = s.evts := rfl
@[simp] theorem State.bumpField_pwr (s : State) (g : Field) : (s.bumpField g).pwr = s.pwr := rfl
@[simp] theorem State.bumpField_ports (s : State) (g : Field) : (s.bumpField g).ports = s.ports := rfl
@[simp] theorem State.bumpField_axes (s : State) (g : Field) : (s.bumpField g).axes = s.axes := rfl
@[simp] theorem State.bumpField_sdclk (s : State) (g : Field) : (s.bumpField g).sdclk = s.sdclk := rfl
@[simp] theorem State.bumpField_filters (s : State) (g : Field) : (s.bumpField g).filters = s.filters := rfl
@[simp] theorem State.bumpField_fbs (s : State) (g : Field) : (s.bumpField g).fbs = s.fbs := rfl
@[simp] theorem State.bumpField_loops (s : State) (g : Field) : (s.bumpField g).loops = s.loops := rfl
@[simp] theorem State.bumpField_arms (s : State) (g : Field) : (s.bumpField g).arms = s.arms := rfl
@[simp] theorem State.bumpField_kiln (s : State) (g : Field) : (s.bumpField g).kiln = s.kiln := rfl
@[simp] theorem State.bumpField_plannerRan (s : State) (g : Field) : (s.bumpField g).plannerRan = s.plannerRan := rfl
@[simp] theorem State.bumpField_planDue (s : State) (g : Field) : (s.bumpField g).planDue = s.planDue := rfl
@[simp] theorem State.bumpField_tiles (s : State) (g : Field) : (s.bumpField g).tiles = s.tiles := rfl
@[simp] theorem State.bumpField_stk (s : State) (g : Field) : (s.bumpField g).stk = s.stk := rfl
@[simp] theorem State.bumpField_pc (s : State) (g : Field) : (s.bumpField g).pc = s.pc := rfl
@[simp] theorem State.bumpField_ic (s : State) (g : Field) : (s.bumpField g).ic = s.ic := rfl
@[simp] theorem State.bumpField_si (s : State) (g : Field) : (s.bumpField g).si = s.si := rfl
@[simp] theorem State.bumpField_eth (s : State) (g : Field) : (s.bumpField g).eth = s.eth := rfl
@[simp] theorem State.bumpField_chain (s : State) (g : Field) : (s.bumpField g).chain = s.chain := rfl
@[simp] theorem State.bumpField_claspA (s : State) (g : Field) : (s.bumpField g).claspA = s.claspA := rfl
@[simp] theorem State.bumpField_claspB (s : State) (g : Field) : (s.bumpField g).claspB = s.claspB := rfl
@[simp] theorem State.bumpField_mb (s : State) (g : Field) : (s.bumpField g).mb = s.mb := rfl
@[simp] theorem State.bumpField_boot (s : State) (g : Field) : (s.bumpField g).boot = s.boot := rfl

@[simp] theorem State.wr48_pending (s : State) (lo hi : Reg) (x : Int) : (s.wr48 lo hi x).pending = s.pending := rfl
@[simp] theorem State.wr48_now (s : State) (lo hi : Reg) (x : Int) : (s.wr48 lo hi x).now = s.now := rfl
@[simp] theorem State.wr48_mem (s : State) (lo hi : Reg) (x : Int) : (s.wr48 lo hi x).mem = s.mem := rfl
@[simp] theorem State.wr48_fresh (s : State) (lo hi : Reg) (x : Int) : (s.wr48 lo hi x).fresh = s.fresh := rfl
@[simp] theorem State.wr48_rdata (s : State) (lo hi : Reg) (x : Int) : (s.wr48 lo hi x).rdata = s.rdata := rfl
@[simp] theorem State.wr48_ident (s : State) (lo hi : Reg) (x : Int) : (s.wr48 lo hi x).ident = s.ident := rfl
@[simp] theorem State.wr48_seq (s : State) (lo hi : Reg) (x : Int) : (s.wr48 lo hi x).seq = s.seq := rfl
@[simp] theorem State.wr48_time (s : State) (lo hi : Reg) (x : Int) : (s.wr48 lo hi x).time = s.time := rfl
@[simp] theorem State.wr48_caps (s : State) (lo hi : Reg) (x : Int) : (s.wr48 lo hi x).caps = s.caps := rfl
@[simp] theorem State.wr48_pulses (s : State) (lo hi : Reg) (x : Int) : (s.wr48 lo hi x).pulses = s.pulses := rfl
@[simp] theorem State.wr48_lk (s : State) (lo hi : Reg) (x : Int) : (s.wr48 lo hi x).lk = s.lk := rfl
@[simp] theorem State.wr48_evts (s : State) (lo hi : Reg) (x : Int) : (s.wr48 lo hi x).evts = s.evts := rfl
@[simp] theorem State.wr48_pwr (s : State) (lo hi : Reg) (x : Int) : (s.wr48 lo hi x).pwr = s.pwr := rfl
@[simp] theorem State.wr48_ports (s : State) (lo hi : Reg) (x : Int) : (s.wr48 lo hi x).ports = s.ports := rfl
@[simp] theorem State.wr48_axes (s : State) (lo hi : Reg) (x : Int) : (s.wr48 lo hi x).axes = s.axes := rfl
@[simp] theorem State.wr48_sdclk (s : State) (lo hi : Reg) (x : Int) : (s.wr48 lo hi x).sdclk = s.sdclk := rfl
@[simp] theorem State.wr48_filters (s : State) (lo hi : Reg) (x : Int) : (s.wr48 lo hi x).filters = s.filters := rfl
@[simp] theorem State.wr48_fbs (s : State) (lo hi : Reg) (x : Int) : (s.wr48 lo hi x).fbs = s.fbs := rfl
@[simp] theorem State.wr48_loops (s : State) (lo hi : Reg) (x : Int) : (s.wr48 lo hi x).loops = s.loops := rfl
@[simp] theorem State.wr48_arms (s : State) (lo hi : Reg) (x : Int) : (s.wr48 lo hi x).arms = s.arms := rfl
@[simp] theorem State.wr48_kiln (s : State) (lo hi : Reg) (x : Int) : (s.wr48 lo hi x).kiln = s.kiln := rfl
@[simp] theorem State.wr48_plannerRan (s : State) (lo hi : Reg) (x : Int) : (s.wr48 lo hi x).plannerRan = s.plannerRan := rfl
@[simp] theorem State.wr48_planDue (s : State) (lo hi : Reg) (x : Int) : (s.wr48 lo hi x).planDue = s.planDue := rfl
@[simp] theorem State.wr48_tiles (s : State) (lo hi : Reg) (x : Int) : (s.wr48 lo hi x).tiles = s.tiles := rfl
@[simp] theorem State.wr48_stk (s : State) (lo hi : Reg) (x : Int) : (s.wr48 lo hi x).stk = s.stk := rfl
@[simp] theorem State.wr48_pc (s : State) (lo hi : Reg) (x : Int) : (s.wr48 lo hi x).pc = s.pc := rfl
@[simp] theorem State.wr48_ic (s : State) (lo hi : Reg) (x : Int) : (s.wr48 lo hi x).ic = s.ic := rfl
@[simp] theorem State.wr48_si (s : State) (lo hi : Reg) (x : Int) : (s.wr48 lo hi x).si = s.si := rfl
@[simp] theorem State.wr48_eth (s : State) (lo hi : Reg) (x : Int) : (s.wr48 lo hi x).eth = s.eth := rfl
@[simp] theorem State.wr48_chain (s : State) (lo hi : Reg) (x : Int) : (s.wr48 lo hi x).chain = s.chain := rfl
@[simp] theorem State.wr48_claspA (s : State) (lo hi : Reg) (x : Int) : (s.wr48 lo hi x).claspA = s.claspA := rfl
@[simp] theorem State.wr48_claspB (s : State) (lo hi : Reg) (x : Int) : (s.wr48 lo hi x).claspB = s.claspB := rfl
@[simp] theorem State.wr48_mb (s : State) (lo hi : Reg) (x : Int) : (s.wr48 lo hi x).mb = s.mb := rfl
@[simp] theorem State.wr48_boot (s : State) (lo hi : Reg) (x : Int) : (s.wr48 lo hi x).boot = s.boot := rfl

@[simp] theorem State.useFresh_pending (s : State) : (s.useFresh).pending = s.pending := rfl
@[simp] theorem State.useFresh_now (s : State) : (s.useFresh).now = s.now := rfl
@[simp] theorem State.useFresh_regs (s : State) : (s.useFresh).regs = s.regs := rfl
@[simp] theorem State.useFresh_mem (s : State) : (s.useFresh).mem = s.mem := rfl
@[simp] theorem State.useFresh_fresh (s : State) : (s.useFresh).fresh = s.fresh + 1 := rfl
@[simp] theorem State.useFresh_rdata (s : State) : (s.useFresh).rdata = s.rdata := rfl
@[simp] theorem State.useFresh_ident (s : State) : (s.useFresh).ident = s.ident := rfl
@[simp] theorem State.useFresh_seq (s : State) : (s.useFresh).seq = s.seq := rfl
@[simp] theorem State.useFresh_time (s : State) : (s.useFresh).time = s.time := rfl
@[simp] theorem State.useFresh_caps (s : State) : (s.useFresh).caps = s.caps := rfl
@[simp] theorem State.useFresh_pulses (s : State) : (s.useFresh).pulses = s.pulses := rfl
@[simp] theorem State.useFresh_lk (s : State) : (s.useFresh).lk = s.lk := rfl
@[simp] theorem State.useFresh_evts (s : State) : (s.useFresh).evts = s.evts := rfl
@[simp] theorem State.useFresh_pwr (s : State) : (s.useFresh).pwr = s.pwr := rfl
@[simp] theorem State.useFresh_ports (s : State) : (s.useFresh).ports = s.ports := rfl
@[simp] theorem State.useFresh_axes (s : State) : (s.useFresh).axes = s.axes := rfl
@[simp] theorem State.useFresh_sdclk (s : State) : (s.useFresh).sdclk = s.sdclk := rfl
@[simp] theorem State.useFresh_filters (s : State) : (s.useFresh).filters = s.filters := rfl
@[simp] theorem State.useFresh_fbs (s : State) : (s.useFresh).fbs = s.fbs := rfl
@[simp] theorem State.useFresh_loops (s : State) : (s.useFresh).loops = s.loops := rfl
@[simp] theorem State.useFresh_arms (s : State) : (s.useFresh).arms = s.arms := rfl
@[simp] theorem State.useFresh_kiln (s : State) : (s.useFresh).kiln = s.kiln := rfl
@[simp] theorem State.useFresh_plannerRan (s : State) : (s.useFresh).plannerRan = s.plannerRan := rfl
@[simp] theorem State.useFresh_planDue (s : State) : (s.useFresh).planDue = s.planDue := rfl
@[simp] theorem State.useFresh_tiles (s : State) : (s.useFresh).tiles = s.tiles := rfl
@[simp] theorem State.useFresh_stk (s : State) : (s.useFresh).stk = s.stk := rfl
@[simp] theorem State.useFresh_pc (s : State) : (s.useFresh).pc = s.pc := rfl
@[simp] theorem State.useFresh_ic (s : State) : (s.useFresh).ic = s.ic := rfl
@[simp] theorem State.useFresh_si (s : State) : (s.useFresh).si = s.si := rfl
@[simp] theorem State.useFresh_eth (s : State) : (s.useFresh).eth = s.eth := rfl
@[simp] theorem State.useFresh_chain (s : State) : (s.useFresh).chain = s.chain := rfl
@[simp] theorem State.useFresh_claspA (s : State) : (s.useFresh).claspA = s.claspA := rfl
@[simp] theorem State.useFresh_claspB (s : State) : (s.useFresh).claspB = s.claspB := rfl
@[simp] theorem State.useFresh_mb (s : State) : (s.useFresh).mb = s.mb := rfl
@[simp] theorem State.useFresh_boot (s : State) : (s.useFresh).boot = s.boot := rfl
@[simp] theorem State.useFresh_rd (s : State) (j : Reg) : (s.useFresh).rd j = s.rd j := rfl
@[simp] theorem State.useFresh_get (s : State) (j : Field) : (s.useFresh).get j = s.get j := rfl
@[simp] theorem State.useFresh_is (s : State) (j : Field) : (s.useFresh).is j = s.is j := rfl

@[simp] theorem State.answer_pending (s : State) (ws : List Word) : (s.answer ws).pending = s.pending := rfl
@[simp] theorem State.answer_now (s : State) (ws : List Word) : (s.answer ws).now = s.now := rfl
@[simp] theorem State.answer_regs (s : State) (ws : List Word) : (s.answer ws).regs = s.regs := rfl
@[simp] theorem State.answer_mem (s : State) (ws : List Word) : (s.answer ws).mem = s.mem := rfl
@[simp] theorem State.answer_fresh (s : State) (ws : List Word) : (s.answer ws).fresh = s.fresh := rfl
@[simp] theorem State.answer_rdata (s : State) (ws : List Word) : (s.answer ws).rdata = ws := rfl
@[simp] theorem State.answer_ident (s : State) (ws : List Word) : (s.answer ws).ident = s.ident := rfl
@[simp] theorem State.answer_seq (s : State) (ws : List Word) : (s.answer ws).seq = s.seq := rfl
@[simp] theorem State.answer_time (s : State) (ws : List Word) : (s.answer ws).time = s.time := rfl
@[simp] theorem State.answer_caps (s : State) (ws : List Word) : (s.answer ws).caps = s.caps := rfl
@[simp] theorem State.answer_pulses (s : State) (ws : List Word) : (s.answer ws).pulses = s.pulses := rfl
@[simp] theorem State.answer_lk (s : State) (ws : List Word) : (s.answer ws).lk = s.lk := rfl
@[simp] theorem State.answer_evts (s : State) (ws : List Word) : (s.answer ws).evts = s.evts := rfl
@[simp] theorem State.answer_pwr (s : State) (ws : List Word) : (s.answer ws).pwr = s.pwr := rfl
@[simp] theorem State.answer_ports (s : State) (ws : List Word) : (s.answer ws).ports = s.ports := rfl
@[simp] theorem State.answer_axes (s : State) (ws : List Word) : (s.answer ws).axes = s.axes := rfl
@[simp] theorem State.answer_sdclk (s : State) (ws : List Word) : (s.answer ws).sdclk = s.sdclk := rfl
@[simp] theorem State.answer_filters (s : State) (ws : List Word) : (s.answer ws).filters = s.filters := rfl
@[simp] theorem State.answer_fbs (s : State) (ws : List Word) : (s.answer ws).fbs = s.fbs := rfl
@[simp] theorem State.answer_loops (s : State) (ws : List Word) : (s.answer ws).loops = s.loops := rfl
@[simp] theorem State.answer_arms (s : State) (ws : List Word) : (s.answer ws).arms = s.arms := rfl
@[simp] theorem State.answer_kiln (s : State) (ws : List Word) : (s.answer ws).kiln = s.kiln := rfl
@[simp] theorem State.answer_plannerRan (s : State) (ws : List Word) : (s.answer ws).plannerRan = s.plannerRan := rfl
@[simp] theorem State.answer_planDue (s : State) (ws : List Word) : (s.answer ws).planDue = s.planDue := rfl
@[simp] theorem State.answer_tiles (s : State) (ws : List Word) : (s.answer ws).tiles = s.tiles := rfl
@[simp] theorem State.answer_stk (s : State) (ws : List Word) : (s.answer ws).stk = s.stk := rfl
@[simp] theorem State.answer_pc (s : State) (ws : List Word) : (s.answer ws).pc = s.pc := rfl
@[simp] theorem State.answer_ic (s : State) (ws : List Word) : (s.answer ws).ic = s.ic := rfl
@[simp] theorem State.answer_si (s : State) (ws : List Word) : (s.answer ws).si = s.si := rfl
@[simp] theorem State.answer_eth (s : State) (ws : List Word) : (s.answer ws).eth = s.eth := rfl
@[simp] theorem State.answer_chain (s : State) (ws : List Word) : (s.answer ws).chain = s.chain := rfl
@[simp] theorem State.answer_claspA (s : State) (ws : List Word) : (s.answer ws).claspA = s.claspA := rfl
@[simp] theorem State.answer_claspB (s : State) (ws : List Word) : (s.answer ws).claspB = s.claspB := rfl
@[simp] theorem State.answer_mb (s : State) (ws : List Word) : (s.answer ws).mb = s.mb := rfl
@[simp] theorem State.answer_boot (s : State) (ws : List Word) : (s.answer ws).boot = s.boot := rfl
@[simp] theorem State.answer_rd (s : State) (ws : List Word) (j : Reg) : (s.answer ws).rd j = s.rd j := rfl
@[simp] theorem State.answer_get (s : State) (ws : List Word) (j : Field) : (s.answer ws).get j = s.get j := rfl
@[simp] theorem State.answer_is (s : State) (ws : List Word) (j : Field) : (s.answer ws).is j = s.is j := rfl

@[simp] theorem State.advance_pending (s : State) (t : Time) : (s.advance t).pending = s.pending := rfl
@[simp] theorem State.advance_now (s : State) (t : Time) : (s.advance t).now = max s.now t := rfl
@[simp] theorem State.advance_regs (s : State) (t : Time) : (s.advance t).regs = s.regs := rfl
@[simp] theorem State.advance_mem (s : State) (t : Time) : (s.advance t).mem = s.mem := rfl
@[simp] theorem State.advance_fresh (s : State) (t : Time) : (s.advance t).fresh = s.fresh := rfl
@[simp] theorem State.advance_rdata (s : State) (t : Time) : (s.advance t).rdata = s.rdata := rfl
@[simp] theorem State.advance_ident (s : State) (t : Time) : (s.advance t).ident = s.ident := rfl
@[simp] theorem State.advance_seq (s : State) (t : Time) : (s.advance t).seq = s.seq := rfl
@[simp] theorem State.advance_time (s : State) (t : Time) : (s.advance t).time = s.time := rfl
@[simp] theorem State.advance_caps (s : State) (t : Time) : (s.advance t).caps = s.caps := rfl
@[simp] theorem State.advance_pulses (s : State) (t : Time) : (s.advance t).pulses = s.pulses := rfl
@[simp] theorem State.advance_lk (s : State) (t : Time) : (s.advance t).lk = s.lk := rfl
@[simp] theorem State.advance_evts (s : State) (t : Time) : (s.advance t).evts = s.evts := rfl
@[simp] theorem State.advance_pwr (s : State) (t : Time) : (s.advance t).pwr = s.pwr := rfl
@[simp] theorem State.advance_ports (s : State) (t : Time) : (s.advance t).ports = s.ports := rfl
@[simp] theorem State.advance_axes (s : State) (t : Time) : (s.advance t).axes = s.axes := rfl
@[simp] theorem State.advance_sdclk (s : State) (t : Time) : (s.advance t).sdclk = s.sdclk := rfl
@[simp] theorem State.advance_filters (s : State) (t : Time) : (s.advance t).filters = s.filters := rfl
@[simp] theorem State.advance_fbs (s : State) (t : Time) : (s.advance t).fbs = s.fbs := rfl
@[simp] theorem State.advance_loops (s : State) (t : Time) : (s.advance t).loops = s.loops := rfl
@[simp] theorem State.advance_arms (s : State) (t : Time) : (s.advance t).arms = s.arms := rfl
@[simp] theorem State.advance_kiln (s : State) (t : Time) : (s.advance t).kiln = s.kiln := rfl
@[simp] theorem State.advance_plannerRan (s : State) (t : Time) : (s.advance t).plannerRan = s.plannerRan := rfl
@[simp] theorem State.advance_planDue (s : State) (t : Time) : (s.advance t).planDue = s.planDue := rfl
@[simp] theorem State.advance_tiles (s : State) (t : Time) : (s.advance t).tiles = s.tiles := rfl
@[simp] theorem State.advance_stk (s : State) (t : Time) : (s.advance t).stk = s.stk := rfl
@[simp] theorem State.advance_pc (s : State) (t : Time) : (s.advance t).pc = s.pc := rfl
@[simp] theorem State.advance_ic (s : State) (t : Time) : (s.advance t).ic = s.ic := rfl
@[simp] theorem State.advance_si (s : State) (t : Time) : (s.advance t).si = s.si := rfl
@[simp] theorem State.advance_eth (s : State) (t : Time) : (s.advance t).eth = s.eth := rfl
@[simp] theorem State.advance_chain (s : State) (t : Time) : (s.advance t).chain = s.chain := rfl
@[simp] theorem State.advance_claspA (s : State) (t : Time) : (s.advance t).claspA = s.claspA := rfl
@[simp] theorem State.advance_claspB (s : State) (t : Time) : (s.advance t).claspB = s.claspB := rfl
@[simp] theorem State.advance_mb (s : State) (t : Time) : (s.advance t).mb = s.mb := rfl
@[simp] theorem State.advance_boot (s : State) (t : Time) : (s.advance t).boot = s.boot := rfl
@[simp] theorem State.advance_rd (s : State) (t : Time) (j : Reg) : (s.advance t).rd j = s.rd j := rfl
@[simp] theorem State.advance_get (s : State) (t : Time) (j : Field) : (s.advance t).get j = s.get j := rfl
@[simp] theorem State.advance_is (s : State) (t : Time) (j : Field) : (s.advance t).is j = s.is j := rfl

@[simp] theorem State.mwrite_pending (s : State) (a : Nat) (bs : List Byte) : (s.mwrite a bs).pending = s.pending := rfl
@[simp] theorem State.mwrite_now (s : State) (a : Nat) (bs : List Byte) : (s.mwrite a bs).now = s.now := rfl
@[simp] theorem State.mwrite_regs (s : State) (a : Nat) (bs : List Byte) : (s.mwrite a bs).regs = s.regs := rfl
@[simp] theorem State.mwrite_mem (s : State) (a : Nat) (bs : List Byte) : (s.mwrite a bs).mem = memWriteN s.mem a bs := rfl
@[simp] theorem State.mwrite_fresh (s : State) (a : Nat) (bs : List Byte) : (s.mwrite a bs).fresh = s.fresh := rfl
@[simp] theorem State.mwrite_rdata (s : State) (a : Nat) (bs : List Byte) : (s.mwrite a bs).rdata = s.rdata := rfl
@[simp] theorem State.mwrite_ident (s : State) (a : Nat) (bs : List Byte) : (s.mwrite a bs).ident = s.ident := rfl
@[simp] theorem State.mwrite_seq (s : State) (a : Nat) (bs : List Byte) : (s.mwrite a bs).seq = s.seq := rfl
@[simp] theorem State.mwrite_time (s : State) (a : Nat) (bs : List Byte) : (s.mwrite a bs).time = s.time := rfl
@[simp] theorem State.mwrite_caps (s : State) (a : Nat) (bs : List Byte) : (s.mwrite a bs).caps = s.caps := rfl
@[simp] theorem State.mwrite_pulses (s : State) (a : Nat) (bs : List Byte) : (s.mwrite a bs).pulses = s.pulses := rfl
@[simp] theorem State.mwrite_lk (s : State) (a : Nat) (bs : List Byte) : (s.mwrite a bs).lk = s.lk := rfl
@[simp] theorem State.mwrite_evts (s : State) (a : Nat) (bs : List Byte) : (s.mwrite a bs).evts = s.evts := rfl
@[simp] theorem State.mwrite_pwr (s : State) (a : Nat) (bs : List Byte) : (s.mwrite a bs).pwr = s.pwr := rfl
@[simp] theorem State.mwrite_ports (s : State) (a : Nat) (bs : List Byte) : (s.mwrite a bs).ports = s.ports := rfl
@[simp] theorem State.mwrite_axes (s : State) (a : Nat) (bs : List Byte) : (s.mwrite a bs).axes = s.axes := rfl
@[simp] theorem State.mwrite_sdclk (s : State) (a : Nat) (bs : List Byte) : (s.mwrite a bs).sdclk = s.sdclk := rfl
@[simp] theorem State.mwrite_filters (s : State) (a : Nat) (bs : List Byte) : (s.mwrite a bs).filters = s.filters := rfl
@[simp] theorem State.mwrite_fbs (s : State) (a : Nat) (bs : List Byte) : (s.mwrite a bs).fbs = s.fbs := rfl
@[simp] theorem State.mwrite_loops (s : State) (a : Nat) (bs : List Byte) : (s.mwrite a bs).loops = s.loops := rfl
@[simp] theorem State.mwrite_arms (s : State) (a : Nat) (bs : List Byte) : (s.mwrite a bs).arms = s.arms := rfl
@[simp] theorem State.mwrite_kiln (s : State) (a : Nat) (bs : List Byte) : (s.mwrite a bs).kiln = s.kiln := rfl
@[simp] theorem State.mwrite_plannerRan (s : State) (a : Nat) (bs : List Byte) : (s.mwrite a bs).plannerRan = s.plannerRan := rfl
@[simp] theorem State.mwrite_planDue (s : State) (a : Nat) (bs : List Byte) : (s.mwrite a bs).planDue = s.planDue := rfl
@[simp] theorem State.mwrite_tiles (s : State) (a : Nat) (bs : List Byte) : (s.mwrite a bs).tiles = s.tiles := rfl
@[simp] theorem State.mwrite_stk (s : State) (a : Nat) (bs : List Byte) : (s.mwrite a bs).stk = s.stk := rfl
@[simp] theorem State.mwrite_pc (s : State) (a : Nat) (bs : List Byte) : (s.mwrite a bs).pc = s.pc := rfl
@[simp] theorem State.mwrite_ic (s : State) (a : Nat) (bs : List Byte) : (s.mwrite a bs).ic = s.ic := rfl
@[simp] theorem State.mwrite_si (s : State) (a : Nat) (bs : List Byte) : (s.mwrite a bs).si = s.si := rfl
@[simp] theorem State.mwrite_eth (s : State) (a : Nat) (bs : List Byte) : (s.mwrite a bs).eth = s.eth := rfl
@[simp] theorem State.mwrite_chain (s : State) (a : Nat) (bs : List Byte) : (s.mwrite a bs).chain = s.chain := rfl
@[simp] theorem State.mwrite_claspA (s : State) (a : Nat) (bs : List Byte) : (s.mwrite a bs).claspA = s.claspA := rfl
@[simp] theorem State.mwrite_claspB (s : State) (a : Nat) (bs : List Byte) : (s.mwrite a bs).claspB = s.claspB := rfl
@[simp] theorem State.mwrite_mb (s : State) (a : Nat) (bs : List Byte) : (s.mwrite a bs).mb = s.mb := rfl
@[simp] theorem State.mwrite_boot (s : State) (a : Nat) (bs : List Byte) : (s.mwrite a bs).boot = s.boot := rfl
@[simp] theorem State.mwrite_rd (s : State) (a : Nat) (bs : List Byte) (j : Reg) : (s.mwrite a bs).rd j = s.rd j := rfl
@[simp] theorem State.mwrite_get (s : State) (a : Nat) (bs : List Byte) (j : Field) : (s.mwrite a bs).get j = s.get j := rfl
@[simp] theorem State.mwrite_is (s : State) (a : Nat) (bs : List Byte) (j : Field) : (s.mwrite a bs).is j = s.is j := rfl

@[simp] theorem State.mput_pending (s : State) (a : Nat) (w : Word) : (s.mput a w).pending = s.pending := rfl
@[simp] theorem State.mput_now (s : State) (a : Nat) (w : Word) : (s.mput a w).now = s.now := rfl
@[simp] theorem State.mput_regs (s : State) (a : Nat) (w : Word) : (s.mput a w).regs = s.regs := rfl
@[simp] theorem State.mput_mem (s : State) (a : Nat) (w : Word) : (s.mput a w).mem = memWriteN s.mem a (leBytes 4 w.toNat) := rfl
@[simp] theorem State.mput_fresh (s : State) (a : Nat) (w : Word) : (s.mput a w).fresh = s.fresh := rfl
@[simp] theorem State.mput_rdata (s : State) (a : Nat) (w : Word) : (s.mput a w).rdata = s.rdata := rfl
@[simp] theorem State.mput_ident (s : State) (a : Nat) (w : Word) : (s.mput a w).ident = s.ident := rfl
@[simp] theorem State.mput_seq (s : State) (a : Nat) (w : Word) : (s.mput a w).seq = s.seq := rfl
@[simp] theorem State.mput_time (s : State) (a : Nat) (w : Word) : (s.mput a w).time = s.time := rfl
@[simp] theorem State.mput_caps (s : State) (a : Nat) (w : Word) : (s.mput a w).caps = s.caps := rfl
@[simp] theorem State.mput_pulses (s : State) (a : Nat) (w : Word) : (s.mput a w).pulses = s.pulses := rfl
@[simp] theorem State.mput_lk (s : State) (a : Nat) (w : Word) : (s.mput a w).lk = s.lk := rfl
@[simp] theorem State.mput_evts (s : State) (a : Nat) (w : Word) : (s.mput a w).evts = s.evts := rfl
@[simp] theorem State.mput_pwr (s : State) (a : Nat) (w : Word) : (s.mput a w).pwr = s.pwr := rfl
@[simp] theorem State.mput_ports (s : State) (a : Nat) (w : Word) : (s.mput a w).ports = s.ports := rfl
@[simp] theorem State.mput_axes (s : State) (a : Nat) (w : Word) : (s.mput a w).axes = s.axes := rfl
@[simp] theorem State.mput_sdclk (s : State) (a : Nat) (w : Word) : (s.mput a w).sdclk = s.sdclk := rfl
@[simp] theorem State.mput_filters (s : State) (a : Nat) (w : Word) : (s.mput a w).filters = s.filters := rfl
@[simp] theorem State.mput_fbs (s : State) (a : Nat) (w : Word) : (s.mput a w).fbs = s.fbs := rfl
@[simp] theorem State.mput_loops (s : State) (a : Nat) (w : Word) : (s.mput a w).loops = s.loops := rfl
@[simp] theorem State.mput_arms (s : State) (a : Nat) (w : Word) : (s.mput a w).arms = s.arms := rfl
@[simp] theorem State.mput_kiln (s : State) (a : Nat) (w : Word) : (s.mput a w).kiln = s.kiln := rfl
@[simp] theorem State.mput_plannerRan (s : State) (a : Nat) (w : Word) : (s.mput a w).plannerRan = s.plannerRan := rfl
@[simp] theorem State.mput_planDue (s : State) (a : Nat) (w : Word) : (s.mput a w).planDue = s.planDue := rfl
@[simp] theorem State.mput_tiles (s : State) (a : Nat) (w : Word) : (s.mput a w).tiles = s.tiles := rfl
@[simp] theorem State.mput_stk (s : State) (a : Nat) (w : Word) : (s.mput a w).stk = s.stk := rfl
@[simp] theorem State.mput_pc (s : State) (a : Nat) (w : Word) : (s.mput a w).pc = s.pc := rfl
@[simp] theorem State.mput_ic (s : State) (a : Nat) (w : Word) : (s.mput a w).ic = s.ic := rfl
@[simp] theorem State.mput_si (s : State) (a : Nat) (w : Word) : (s.mput a w).si = s.si := rfl
@[simp] theorem State.mput_eth (s : State) (a : Nat) (w : Word) : (s.mput a w).eth = s.eth := rfl
@[simp] theorem State.mput_chain (s : State) (a : Nat) (w : Word) : (s.mput a w).chain = s.chain := rfl
@[simp] theorem State.mput_claspA (s : State) (a : Nat) (w : Word) : (s.mput a w).claspA = s.claspA := rfl
@[simp] theorem State.mput_claspB (s : State) (a : Nat) (w : Word) : (s.mput a w).claspB = s.claspB := rfl
@[simp] theorem State.mput_mb (s : State) (a : Nat) (w : Word) : (s.mput a w).mb = s.mb := rfl
@[simp] theorem State.mput_boot (s : State) (a : Nat) (w : Word) : (s.mput a w).boot = s.boot := rfl
@[simp] theorem State.mput_rd (s : State) (a : Nat) (w : Word) (j : Reg) : (s.mput a w).rd j = s.rd j := rfl
@[simp] theorem State.mput_get (s : State) (a : Nat) (w : Word) (j : Field) : (s.mput a w).get j = s.get j := rfl
@[simp] theorem State.mput_is (s : State) (a : Nat) (w : Word) (j : Field) : (s.mput a w).is j = s.is j := rfl

@[simp] theorem State.setTile_pending (s : State) (t : Fin 32) (x : Tile) : (s.setTile t x).pending = s.pending := rfl
@[simp] theorem State.setTile_now (s : State) (t : Fin 32) (x : Tile) : (s.setTile t x).now = s.now := rfl
@[simp] theorem State.setTile_regs (s : State) (t : Fin 32) (x : Tile) : (s.setTile t x).regs = s.regs := rfl
@[simp] theorem State.setTile_mem (s : State) (t : Fin 32) (x : Tile) : (s.setTile t x).mem = s.mem := rfl
@[simp] theorem State.setTile_fresh (s : State) (t : Fin 32) (x : Tile) : (s.setTile t x).fresh = s.fresh := rfl
@[simp] theorem State.setTile_rdata (s : State) (t : Fin 32) (x : Tile) : (s.setTile t x).rdata = s.rdata := rfl
@[simp] theorem State.setTile_ident (s : State) (t : Fin 32) (x : Tile) : (s.setTile t x).ident = s.ident := rfl
@[simp] theorem State.setTile_seq (s : State) (t : Fin 32) (x : Tile) : (s.setTile t x).seq = s.seq := rfl
@[simp] theorem State.setTile_time (s : State) (t : Fin 32) (x : Tile) : (s.setTile t x).time = s.time := rfl
@[simp] theorem State.setTile_caps (s : State) (t : Fin 32) (x : Tile) : (s.setTile t x).caps = s.caps := rfl
@[simp] theorem State.setTile_pulses (s : State) (t : Fin 32) (x : Tile) : (s.setTile t x).pulses = s.pulses := rfl
@[simp] theorem State.setTile_lk (s : State) (t : Fin 32) (x : Tile) : (s.setTile t x).lk = s.lk := rfl
@[simp] theorem State.setTile_evts (s : State) (t : Fin 32) (x : Tile) : (s.setTile t x).evts = s.evts := rfl
@[simp] theorem State.setTile_pwr (s : State) (t : Fin 32) (x : Tile) : (s.setTile t x).pwr = s.pwr := rfl
@[simp] theorem State.setTile_ports (s : State) (t : Fin 32) (x : Tile) : (s.setTile t x).ports = s.ports := rfl
@[simp] theorem State.setTile_axes (s : State) (t : Fin 32) (x : Tile) : (s.setTile t x).axes = s.axes := rfl
@[simp] theorem State.setTile_sdclk (s : State) (t : Fin 32) (x : Tile) : (s.setTile t x).sdclk = s.sdclk := rfl
@[simp] theorem State.setTile_filters (s : State) (t : Fin 32) (x : Tile) : (s.setTile t x).filters = s.filters := rfl
@[simp] theorem State.setTile_fbs (s : State) (t : Fin 32) (x : Tile) : (s.setTile t x).fbs = s.fbs := rfl
@[simp] theorem State.setTile_loops (s : State) (t : Fin 32) (x : Tile) : (s.setTile t x).loops = s.loops := rfl
@[simp] theorem State.setTile_arms (s : State) (t : Fin 32) (x : Tile) : (s.setTile t x).arms = s.arms := rfl
@[simp] theorem State.setTile_kiln (s : State) (t : Fin 32) (x : Tile) : (s.setTile t x).kiln = s.kiln := rfl
@[simp] theorem State.setTile_plannerRan (s : State) (t : Fin 32) (x : Tile) : (s.setTile t x).plannerRan = s.plannerRan := rfl
@[simp] theorem State.setTile_planDue (s : State) (t : Fin 32) (x : Tile) : (s.setTile t x).planDue = s.planDue := rfl
@[simp] theorem State.setTile_tiles (s : State) (t : Fin 32) (x : Tile) : (s.setTile t x).tiles = tset s.tiles t x := rfl
@[simp] theorem State.setTile_stk (s : State) (t : Fin 32) (x : Tile) : (s.setTile t x).stk = s.stk := rfl
@[simp] theorem State.setTile_pc (s : State) (t : Fin 32) (x : Tile) : (s.setTile t x).pc = s.pc := rfl
@[simp] theorem State.setTile_ic (s : State) (t : Fin 32) (x : Tile) : (s.setTile t x).ic = s.ic := rfl
@[simp] theorem State.setTile_si (s : State) (t : Fin 32) (x : Tile) : (s.setTile t x).si = s.si := rfl
@[simp] theorem State.setTile_eth (s : State) (t : Fin 32) (x : Tile) : (s.setTile t x).eth = s.eth := rfl
@[simp] theorem State.setTile_chain (s : State) (t : Fin 32) (x : Tile) : (s.setTile t x).chain = s.chain := rfl
@[simp] theorem State.setTile_claspA (s : State) (t : Fin 32) (x : Tile) : (s.setTile t x).claspA = s.claspA := rfl
@[simp] theorem State.setTile_claspB (s : State) (t : Fin 32) (x : Tile) : (s.setTile t x).claspB = s.claspB := rfl
@[simp] theorem State.setTile_mb (s : State) (t : Fin 32) (x : Tile) : (s.setTile t x).mb = s.mb := rfl
@[simp] theorem State.setTile_boot (s : State) (t : Fin 32) (x : Tile) : (s.setTile t x).boot = s.boot := rfl
@[simp] theorem State.setTile_rd (s : State) (t : Fin 32) (x : Tile) (j : Reg) : (s.setTile t x).rd j = s.rd j := rfl
@[simp] theorem State.setTile_get (s : State) (t : Fin 32) (x : Tile) (j : Field) : (s.setTile t x).get j = s.get j := rfl
@[simp] theorem State.setTile_is (s : State) (t : Fin 32) (x : Tile) (j : Field) : (s.setTile t x).is j = s.is j := rfl

@[simp] theorem State.setPort_pending (s : State) (n : Fin 64) (p : Port) : (s.setPort n p).pending = s.pending := rfl
@[simp] theorem State.setPort_now (s : State) (n : Fin 64) (p : Port) : (s.setPort n p).now = s.now := rfl
@[simp] theorem State.setPort_regs (s : State) (n : Fin 64) (p : Port) : (s.setPort n p).regs = s.regs := rfl
@[simp] theorem State.setPort_mem (s : State) (n : Fin 64) (p : Port) : (s.setPort n p).mem = s.mem := rfl
@[simp] theorem State.setPort_fresh (s : State) (n : Fin 64) (p : Port) : (s.setPort n p).fresh = s.fresh := rfl
@[simp] theorem State.setPort_rdata (s : State) (n : Fin 64) (p : Port) : (s.setPort n p).rdata = s.rdata := rfl
@[simp] theorem State.setPort_ident (s : State) (n : Fin 64) (p : Port) : (s.setPort n p).ident = s.ident := rfl
@[simp] theorem State.setPort_seq (s : State) (n : Fin 64) (p : Port) : (s.setPort n p).seq = s.seq := rfl
@[simp] theorem State.setPort_time (s : State) (n : Fin 64) (p : Port) : (s.setPort n p).time = s.time := rfl
@[simp] theorem State.setPort_caps (s : State) (n : Fin 64) (p : Port) : (s.setPort n p).caps = s.caps := rfl
@[simp] theorem State.setPort_pulses (s : State) (n : Fin 64) (p : Port) : (s.setPort n p).pulses = s.pulses := rfl
@[simp] theorem State.setPort_lk (s : State) (n : Fin 64) (p : Port) : (s.setPort n p).lk = s.lk := rfl
@[simp] theorem State.setPort_evts (s : State) (n : Fin 64) (p : Port) : (s.setPort n p).evts = s.evts := rfl
@[simp] theorem State.setPort_pwr (s : State) (n : Fin 64) (p : Port) : (s.setPort n p).pwr = s.pwr := rfl
@[simp] theorem State.setPort_ports (s : State) (n : Fin 64) (p : Port) : (s.setPort n p).ports = tset s.ports n p := rfl
@[simp] theorem State.setPort_axes (s : State) (n : Fin 64) (p : Port) : (s.setPort n p).axes = s.axes := rfl
@[simp] theorem State.setPort_sdclk (s : State) (n : Fin 64) (p : Port) : (s.setPort n p).sdclk = s.sdclk := rfl
@[simp] theorem State.setPort_filters (s : State) (n : Fin 64) (p : Port) : (s.setPort n p).filters = s.filters := rfl
@[simp] theorem State.setPort_fbs (s : State) (n : Fin 64) (p : Port) : (s.setPort n p).fbs = s.fbs := rfl
@[simp] theorem State.setPort_loops (s : State) (n : Fin 64) (p : Port) : (s.setPort n p).loops = s.loops := rfl
@[simp] theorem State.setPort_arms (s : State) (n : Fin 64) (p : Port) : (s.setPort n p).arms = s.arms := rfl
@[simp] theorem State.setPort_kiln (s : State) (n : Fin 64) (p : Port) : (s.setPort n p).kiln = s.kiln := rfl
@[simp] theorem State.setPort_plannerRan (s : State) (n : Fin 64) (p : Port) : (s.setPort n p).plannerRan = s.plannerRan := rfl
@[simp] theorem State.setPort_planDue (s : State) (n : Fin 64) (p : Port) : (s.setPort n p).planDue = s.planDue := rfl
@[simp] theorem State.setPort_tiles (s : State) (n : Fin 64) (p : Port) : (s.setPort n p).tiles = s.tiles := rfl
@[simp] theorem State.setPort_stk (s : State) (n : Fin 64) (p : Port) : (s.setPort n p).stk = s.stk := rfl
@[simp] theorem State.setPort_pc (s : State) (n : Fin 64) (p : Port) : (s.setPort n p).pc = s.pc := rfl
@[simp] theorem State.setPort_ic (s : State) (n : Fin 64) (p : Port) : (s.setPort n p).ic = s.ic := rfl
@[simp] theorem State.setPort_si (s : State) (n : Fin 64) (p : Port) : (s.setPort n p).si = s.si := rfl
@[simp] theorem State.setPort_eth (s : State) (n : Fin 64) (p : Port) : (s.setPort n p).eth = s.eth := rfl
@[simp] theorem State.setPort_chain (s : State) (n : Fin 64) (p : Port) : (s.setPort n p).chain = s.chain := rfl
@[simp] theorem State.setPort_claspA (s : State) (n : Fin 64) (p : Port) : (s.setPort n p).claspA = s.claspA := rfl
@[simp] theorem State.setPort_claspB (s : State) (n : Fin 64) (p : Port) : (s.setPort n p).claspB = s.claspB := rfl
@[simp] theorem State.setPort_mb (s : State) (n : Fin 64) (p : Port) : (s.setPort n p).mb = s.mb := rfl
@[simp] theorem State.setPort_boot (s : State) (n : Fin 64) (p : Port) : (s.setPort n p).boot = s.boot := rfl
@[simp] theorem State.setPort_rd (s : State) (n : Fin 64) (p : Port) (j : Reg) : (s.setPort n p).rd j = s.rd j := rfl
@[simp] theorem State.setPort_get (s : State) (n : Fin 64) (p : Port) (j : Field) : (s.setPort n p).get j = s.get j := rfl
@[simp] theorem State.setPort_is (s : State) (n : Fin 64) (p : Port) (j : Field) : (s.setPort n p).is j = s.is j := rfl

@[simp] theorem State.setAxis_pending (s : State) (i : Fin 16) (a : StepAxis) : (s.setAxis i a).pending = s.pending := rfl
@[simp] theorem State.setAxis_now (s : State) (i : Fin 16) (a : StepAxis) : (s.setAxis i a).now = s.now := rfl
@[simp] theorem State.setAxis_regs (s : State) (i : Fin 16) (a : StepAxis) : (s.setAxis i a).regs = s.regs := rfl
@[simp] theorem State.setAxis_mem (s : State) (i : Fin 16) (a : StepAxis) : (s.setAxis i a).mem = s.mem := rfl
@[simp] theorem State.setAxis_fresh (s : State) (i : Fin 16) (a : StepAxis) : (s.setAxis i a).fresh = s.fresh := rfl
@[simp] theorem State.setAxis_rdata (s : State) (i : Fin 16) (a : StepAxis) : (s.setAxis i a).rdata = s.rdata := rfl
@[simp] theorem State.setAxis_ident (s : State) (i : Fin 16) (a : StepAxis) : (s.setAxis i a).ident = s.ident := rfl
@[simp] theorem State.setAxis_seq (s : State) (i : Fin 16) (a : StepAxis) : (s.setAxis i a).seq = s.seq := rfl
@[simp] theorem State.setAxis_time (s : State) (i : Fin 16) (a : StepAxis) : (s.setAxis i a).time = s.time := rfl
@[simp] theorem State.setAxis_caps (s : State) (i : Fin 16) (a : StepAxis) : (s.setAxis i a).caps = s.caps := rfl
@[simp] theorem State.setAxis_pulses (s : State) (i : Fin 16) (a : StepAxis) : (s.setAxis i a).pulses = s.pulses := rfl
@[simp] theorem State.setAxis_lk (s : State) (i : Fin 16) (a : StepAxis) : (s.setAxis i a).lk = s.lk := rfl
@[simp] theorem State.setAxis_evts (s : State) (i : Fin 16) (a : StepAxis) : (s.setAxis i a).evts = s.evts := rfl
@[simp] theorem State.setAxis_pwr (s : State) (i : Fin 16) (a : StepAxis) : (s.setAxis i a).pwr = s.pwr := rfl
@[simp] theorem State.setAxis_ports (s : State) (i : Fin 16) (a : StepAxis) : (s.setAxis i a).ports = s.ports := rfl
@[simp] theorem State.setAxis_axes (s : State) (i : Fin 16) (a : StepAxis) : (s.setAxis i a).axes = tset s.axes i a := rfl
@[simp] theorem State.setAxis_sdclk (s : State) (i : Fin 16) (a : StepAxis) : (s.setAxis i a).sdclk = s.sdclk := rfl
@[simp] theorem State.setAxis_filters (s : State) (i : Fin 16) (a : StepAxis) : (s.setAxis i a).filters = s.filters := rfl
@[simp] theorem State.setAxis_fbs (s : State) (i : Fin 16) (a : StepAxis) : (s.setAxis i a).fbs = s.fbs := rfl
@[simp] theorem State.setAxis_loops (s : State) (i : Fin 16) (a : StepAxis) : (s.setAxis i a).loops = s.loops := rfl
@[simp] theorem State.setAxis_arms (s : State) (i : Fin 16) (a : StepAxis) : (s.setAxis i a).arms = s.arms := rfl
@[simp] theorem State.setAxis_kiln (s : State) (i : Fin 16) (a : StepAxis) : (s.setAxis i a).kiln = s.kiln := rfl
@[simp] theorem State.setAxis_plannerRan (s : State) (i : Fin 16) (a : StepAxis) : (s.setAxis i a).plannerRan = s.plannerRan := rfl
@[simp] theorem State.setAxis_planDue (s : State) (i : Fin 16) (a : StepAxis) : (s.setAxis i a).planDue = s.planDue := rfl
@[simp] theorem State.setAxis_tiles (s : State) (i : Fin 16) (a : StepAxis) : (s.setAxis i a).tiles = s.tiles := rfl
@[simp] theorem State.setAxis_stk (s : State) (i : Fin 16) (a : StepAxis) : (s.setAxis i a).stk = s.stk := rfl
@[simp] theorem State.setAxis_pc (s : State) (i : Fin 16) (a : StepAxis) : (s.setAxis i a).pc = s.pc := rfl
@[simp] theorem State.setAxis_ic (s : State) (i : Fin 16) (a : StepAxis) : (s.setAxis i a).ic = s.ic := rfl
@[simp] theorem State.setAxis_si (s : State) (i : Fin 16) (a : StepAxis) : (s.setAxis i a).si = s.si := rfl
@[simp] theorem State.setAxis_eth (s : State) (i : Fin 16) (a : StepAxis) : (s.setAxis i a).eth = s.eth := rfl
@[simp] theorem State.setAxis_chain (s : State) (i : Fin 16) (a : StepAxis) : (s.setAxis i a).chain = s.chain := rfl
@[simp] theorem State.setAxis_claspA (s : State) (i : Fin 16) (a : StepAxis) : (s.setAxis i a).claspA = s.claspA := rfl
@[simp] theorem State.setAxis_claspB (s : State) (i : Fin 16) (a : StepAxis) : (s.setAxis i a).claspB = s.claspB := rfl
@[simp] theorem State.setAxis_mb (s : State) (i : Fin 16) (a : StepAxis) : (s.setAxis i a).mb = s.mb := rfl
@[simp] theorem State.setAxis_boot (s : State) (i : Fin 16) (a : StepAxis) : (s.setAxis i a).boot = s.boot := rfl
@[simp] theorem State.setAxis_rd (s : State) (i : Fin 16) (a : StepAxis) (j : Reg) : (s.setAxis i a).rd j = s.rd j := rfl
@[simp] theorem State.setAxis_get (s : State) (i : Fin 16) (a : StepAxis) (j : Field) : (s.setAxis i a).get j = s.get j := rfl
@[simp] theorem State.setAxis_is (s : State) (i : Fin 16) (a : StepAxis) (j : Field) : (s.setAxis i a).is j = s.is j := rfl

@[simp] theorem State.setFilter_pending (s : State) (n : Fin 80) (x : Filter) : (s.setFilter n x).pending = s.pending := rfl
@[simp] theorem State.setFilter_now (s : State) (n : Fin 80) (x : Filter) : (s.setFilter n x).now = s.now := rfl
@[simp] theorem State.setFilter_regs (s : State) (n : Fin 80) (x : Filter) : (s.setFilter n x).regs = s.regs := rfl
@[simp] theorem State.setFilter_mem (s : State) (n : Fin 80) (x : Filter) : (s.setFilter n x).mem = s.mem := rfl
@[simp] theorem State.setFilter_fresh (s : State) (n : Fin 80) (x : Filter) : (s.setFilter n x).fresh = s.fresh := rfl
@[simp] theorem State.setFilter_rdata (s : State) (n : Fin 80) (x : Filter) : (s.setFilter n x).rdata = s.rdata := rfl
@[simp] theorem State.setFilter_ident (s : State) (n : Fin 80) (x : Filter) : (s.setFilter n x).ident = s.ident := rfl
@[simp] theorem State.setFilter_seq (s : State) (n : Fin 80) (x : Filter) : (s.setFilter n x).seq = s.seq := rfl
@[simp] theorem State.setFilter_time (s : State) (n : Fin 80) (x : Filter) : (s.setFilter n x).time = s.time := rfl
@[simp] theorem State.setFilter_caps (s : State) (n : Fin 80) (x : Filter) : (s.setFilter n x).caps = s.caps := rfl
@[simp] theorem State.setFilter_pulses (s : State) (n : Fin 80) (x : Filter) : (s.setFilter n x).pulses = s.pulses := rfl
@[simp] theorem State.setFilter_lk (s : State) (n : Fin 80) (x : Filter) : (s.setFilter n x).lk = s.lk := rfl
@[simp] theorem State.setFilter_evts (s : State) (n : Fin 80) (x : Filter) : (s.setFilter n x).evts = s.evts := rfl
@[simp] theorem State.setFilter_pwr (s : State) (n : Fin 80) (x : Filter) : (s.setFilter n x).pwr = s.pwr := rfl
@[simp] theorem State.setFilter_ports (s : State) (n : Fin 80) (x : Filter) : (s.setFilter n x).ports = s.ports := rfl
@[simp] theorem State.setFilter_axes (s : State) (n : Fin 80) (x : Filter) : (s.setFilter n x).axes = s.axes := rfl
@[simp] theorem State.setFilter_sdclk (s : State) (n : Fin 80) (x : Filter) : (s.setFilter n x).sdclk = s.sdclk := rfl
@[simp] theorem State.setFilter_filters (s : State) (n : Fin 80) (x : Filter) : (s.setFilter n x).filters = tset s.filters n x := rfl
@[simp] theorem State.setFilter_fbs (s : State) (n : Fin 80) (x : Filter) : (s.setFilter n x).fbs = s.fbs := rfl
@[simp] theorem State.setFilter_loops (s : State) (n : Fin 80) (x : Filter) : (s.setFilter n x).loops = s.loops := rfl
@[simp] theorem State.setFilter_arms (s : State) (n : Fin 80) (x : Filter) : (s.setFilter n x).arms = s.arms := rfl
@[simp] theorem State.setFilter_kiln (s : State) (n : Fin 80) (x : Filter) : (s.setFilter n x).kiln = s.kiln := rfl
@[simp] theorem State.setFilter_plannerRan (s : State) (n : Fin 80) (x : Filter) : (s.setFilter n x).plannerRan = s.plannerRan := rfl
@[simp] theorem State.setFilter_planDue (s : State) (n : Fin 80) (x : Filter) : (s.setFilter n x).planDue = s.planDue := rfl
@[simp] theorem State.setFilter_tiles (s : State) (n : Fin 80) (x : Filter) : (s.setFilter n x).tiles = s.tiles := rfl
@[simp] theorem State.setFilter_stk (s : State) (n : Fin 80) (x : Filter) : (s.setFilter n x).stk = s.stk := rfl
@[simp] theorem State.setFilter_pc (s : State) (n : Fin 80) (x : Filter) : (s.setFilter n x).pc = s.pc := rfl
@[simp] theorem State.setFilter_ic (s : State) (n : Fin 80) (x : Filter) : (s.setFilter n x).ic = s.ic := rfl
@[simp] theorem State.setFilter_si (s : State) (n : Fin 80) (x : Filter) : (s.setFilter n x).si = s.si := rfl
@[simp] theorem State.setFilter_eth (s : State) (n : Fin 80) (x : Filter) : (s.setFilter n x).eth = s.eth := rfl
@[simp] theorem State.setFilter_chain (s : State) (n : Fin 80) (x : Filter) : (s.setFilter n x).chain = s.chain := rfl
@[simp] theorem State.setFilter_claspA (s : State) (n : Fin 80) (x : Filter) : (s.setFilter n x).claspA = s.claspA := rfl
@[simp] theorem State.setFilter_claspB (s : State) (n : Fin 80) (x : Filter) : (s.setFilter n x).claspB = s.claspB := rfl
@[simp] theorem State.setFilter_mb (s : State) (n : Fin 80) (x : Filter) : (s.setFilter n x).mb = s.mb := rfl
@[simp] theorem State.setFilter_boot (s : State) (n : Fin 80) (x : Filter) : (s.setFilter n x).boot = s.boot := rfl
@[simp] theorem State.setFilter_rd (s : State) (n : Fin 80) (x : Filter) (j : Reg) : (s.setFilter n x).rd j = s.rd j := rfl
@[simp] theorem State.setFilter_get (s : State) (n : Fin 80) (x : Filter) (j : Field) : (s.setFilter n x).get j = s.get j := rfl
@[simp] theorem State.setFilter_is (s : State) (n : Fin 80) (x : Filter) (j : Field) : (s.setFilter n x).is j = s.is j := rfl

@[simp] theorem State.setFb_pending (s : State) (n : Fin 64) (u : FbUnit) : (s.setFb n u).pending = s.pending := rfl
@[simp] theorem State.setFb_now (s : State) (n : Fin 64) (u : FbUnit) : (s.setFb n u).now = s.now := rfl
@[simp] theorem State.setFb_regs (s : State) (n : Fin 64) (u : FbUnit) : (s.setFb n u).regs = s.regs := rfl
@[simp] theorem State.setFb_mem (s : State) (n : Fin 64) (u : FbUnit) : (s.setFb n u).mem = s.mem := rfl
@[simp] theorem State.setFb_fresh (s : State) (n : Fin 64) (u : FbUnit) : (s.setFb n u).fresh = s.fresh := rfl
@[simp] theorem State.setFb_rdata (s : State) (n : Fin 64) (u : FbUnit) : (s.setFb n u).rdata = s.rdata := rfl
@[simp] theorem State.setFb_ident (s : State) (n : Fin 64) (u : FbUnit) : (s.setFb n u).ident = s.ident := rfl
@[simp] theorem State.setFb_seq (s : State) (n : Fin 64) (u : FbUnit) : (s.setFb n u).seq = s.seq := rfl
@[simp] theorem State.setFb_time (s : State) (n : Fin 64) (u : FbUnit) : (s.setFb n u).time = s.time := rfl
@[simp] theorem State.setFb_caps (s : State) (n : Fin 64) (u : FbUnit) : (s.setFb n u).caps = s.caps := rfl
@[simp] theorem State.setFb_pulses (s : State) (n : Fin 64) (u : FbUnit) : (s.setFb n u).pulses = s.pulses := rfl
@[simp] theorem State.setFb_lk (s : State) (n : Fin 64) (u : FbUnit) : (s.setFb n u).lk = s.lk := rfl
@[simp] theorem State.setFb_evts (s : State) (n : Fin 64) (u : FbUnit) : (s.setFb n u).evts = s.evts := rfl
@[simp] theorem State.setFb_pwr (s : State) (n : Fin 64) (u : FbUnit) : (s.setFb n u).pwr = s.pwr := rfl
@[simp] theorem State.setFb_ports (s : State) (n : Fin 64) (u : FbUnit) : (s.setFb n u).ports = s.ports := rfl
@[simp] theorem State.setFb_axes (s : State) (n : Fin 64) (u : FbUnit) : (s.setFb n u).axes = s.axes := rfl
@[simp] theorem State.setFb_sdclk (s : State) (n : Fin 64) (u : FbUnit) : (s.setFb n u).sdclk = s.sdclk := rfl
@[simp] theorem State.setFb_filters (s : State) (n : Fin 64) (u : FbUnit) : (s.setFb n u).filters = s.filters := rfl
@[simp] theorem State.setFb_fbs (s : State) (n : Fin 64) (u : FbUnit) : (s.setFb n u).fbs = tset s.fbs n u := rfl
@[simp] theorem State.setFb_loops (s : State) (n : Fin 64) (u : FbUnit) : (s.setFb n u).loops = s.loops := rfl
@[simp] theorem State.setFb_arms (s : State) (n : Fin 64) (u : FbUnit) : (s.setFb n u).arms = s.arms := rfl
@[simp] theorem State.setFb_kiln (s : State) (n : Fin 64) (u : FbUnit) : (s.setFb n u).kiln = s.kiln := rfl
@[simp] theorem State.setFb_plannerRan (s : State) (n : Fin 64) (u : FbUnit) : (s.setFb n u).plannerRan = s.plannerRan := rfl
@[simp] theorem State.setFb_planDue (s : State) (n : Fin 64) (u : FbUnit) : (s.setFb n u).planDue = s.planDue := rfl
@[simp] theorem State.setFb_tiles (s : State) (n : Fin 64) (u : FbUnit) : (s.setFb n u).tiles = s.tiles := rfl
@[simp] theorem State.setFb_stk (s : State) (n : Fin 64) (u : FbUnit) : (s.setFb n u).stk = s.stk := rfl
@[simp] theorem State.setFb_pc (s : State) (n : Fin 64) (u : FbUnit) : (s.setFb n u).pc = s.pc := rfl
@[simp] theorem State.setFb_ic (s : State) (n : Fin 64) (u : FbUnit) : (s.setFb n u).ic = s.ic := rfl
@[simp] theorem State.setFb_si (s : State) (n : Fin 64) (u : FbUnit) : (s.setFb n u).si = s.si := rfl
@[simp] theorem State.setFb_eth (s : State) (n : Fin 64) (u : FbUnit) : (s.setFb n u).eth = s.eth := rfl
@[simp] theorem State.setFb_chain (s : State) (n : Fin 64) (u : FbUnit) : (s.setFb n u).chain = s.chain := rfl
@[simp] theorem State.setFb_claspA (s : State) (n : Fin 64) (u : FbUnit) : (s.setFb n u).claspA = s.claspA := rfl
@[simp] theorem State.setFb_claspB (s : State) (n : Fin 64) (u : FbUnit) : (s.setFb n u).claspB = s.claspB := rfl
@[simp] theorem State.setFb_mb (s : State) (n : Fin 64) (u : FbUnit) : (s.setFb n u).mb = s.mb := rfl
@[simp] theorem State.setFb_boot (s : State) (n : Fin 64) (u : FbUnit) : (s.setFb n u).boot = s.boot := rfl
@[simp] theorem State.setFb_rd (s : State) (n : Fin 64) (u : FbUnit) (j : Reg) : (s.setFb n u).rd j = s.rd j := rfl
@[simp] theorem State.setFb_get (s : State) (n : Fin 64) (u : FbUnit) (j : Field) : (s.setFb n u).get j = s.get j := rfl
@[simp] theorem State.setFb_is (s : State) (n : Fin 64) (u : FbUnit) (j : Field) : (s.setFb n u).is j = s.is j := rfl

@[simp] theorem State.setLoop_pending (s : State) (n : Fin 256) (l : LoopState) : (s.setLoop n l).pending = s.pending := rfl
@[simp] theorem State.setLoop_now (s : State) (n : Fin 256) (l : LoopState) : (s.setLoop n l).now = s.now := rfl
@[simp] theorem State.setLoop_regs (s : State) (n : Fin 256) (l : LoopState) : (s.setLoop n l).regs = s.regs := rfl
@[simp] theorem State.setLoop_mem (s : State) (n : Fin 256) (l : LoopState) : (s.setLoop n l).mem = s.mem := rfl
@[simp] theorem State.setLoop_fresh (s : State) (n : Fin 256) (l : LoopState) : (s.setLoop n l).fresh = s.fresh := rfl
@[simp] theorem State.setLoop_rdata (s : State) (n : Fin 256) (l : LoopState) : (s.setLoop n l).rdata = s.rdata := rfl
@[simp] theorem State.setLoop_ident (s : State) (n : Fin 256) (l : LoopState) : (s.setLoop n l).ident = s.ident := rfl
@[simp] theorem State.setLoop_seq (s : State) (n : Fin 256) (l : LoopState) : (s.setLoop n l).seq = s.seq := rfl
@[simp] theorem State.setLoop_time (s : State) (n : Fin 256) (l : LoopState) : (s.setLoop n l).time = s.time := rfl
@[simp] theorem State.setLoop_caps (s : State) (n : Fin 256) (l : LoopState) : (s.setLoop n l).caps = s.caps := rfl
@[simp] theorem State.setLoop_pulses (s : State) (n : Fin 256) (l : LoopState) : (s.setLoop n l).pulses = s.pulses := rfl
@[simp] theorem State.setLoop_lk (s : State) (n : Fin 256) (l : LoopState) : (s.setLoop n l).lk = s.lk := rfl
@[simp] theorem State.setLoop_evts (s : State) (n : Fin 256) (l : LoopState) : (s.setLoop n l).evts = s.evts := rfl
@[simp] theorem State.setLoop_pwr (s : State) (n : Fin 256) (l : LoopState) : (s.setLoop n l).pwr = s.pwr := rfl
@[simp] theorem State.setLoop_ports (s : State) (n : Fin 256) (l : LoopState) : (s.setLoop n l).ports = s.ports := rfl
@[simp] theorem State.setLoop_axes (s : State) (n : Fin 256) (l : LoopState) : (s.setLoop n l).axes = s.axes := rfl
@[simp] theorem State.setLoop_sdclk (s : State) (n : Fin 256) (l : LoopState) : (s.setLoop n l).sdclk = s.sdclk := rfl
@[simp] theorem State.setLoop_filters (s : State) (n : Fin 256) (l : LoopState) : (s.setLoop n l).filters = s.filters := rfl
@[simp] theorem State.setLoop_fbs (s : State) (n : Fin 256) (l : LoopState) : (s.setLoop n l).fbs = s.fbs := rfl
@[simp] theorem State.setLoop_loops (s : State) (n : Fin 256) (l : LoopState) : (s.setLoop n l).loops = tset s.loops n l := rfl
@[simp] theorem State.setLoop_arms (s : State) (n : Fin 256) (l : LoopState) : (s.setLoop n l).arms = s.arms := rfl
@[simp] theorem State.setLoop_kiln (s : State) (n : Fin 256) (l : LoopState) : (s.setLoop n l).kiln = s.kiln := rfl
@[simp] theorem State.setLoop_plannerRan (s : State) (n : Fin 256) (l : LoopState) : (s.setLoop n l).plannerRan = s.plannerRan := rfl
@[simp] theorem State.setLoop_planDue (s : State) (n : Fin 256) (l : LoopState) : (s.setLoop n l).planDue = s.planDue := rfl
@[simp] theorem State.setLoop_tiles (s : State) (n : Fin 256) (l : LoopState) : (s.setLoop n l).tiles = s.tiles := rfl
@[simp] theorem State.setLoop_stk (s : State) (n : Fin 256) (l : LoopState) : (s.setLoop n l).stk = s.stk := rfl
@[simp] theorem State.setLoop_pc (s : State) (n : Fin 256) (l : LoopState) : (s.setLoop n l).pc = s.pc := rfl
@[simp] theorem State.setLoop_ic (s : State) (n : Fin 256) (l : LoopState) : (s.setLoop n l).ic = s.ic := rfl
@[simp] theorem State.setLoop_si (s : State) (n : Fin 256) (l : LoopState) : (s.setLoop n l).si = s.si := rfl
@[simp] theorem State.setLoop_eth (s : State) (n : Fin 256) (l : LoopState) : (s.setLoop n l).eth = s.eth := rfl
@[simp] theorem State.setLoop_chain (s : State) (n : Fin 256) (l : LoopState) : (s.setLoop n l).chain = s.chain := rfl
@[simp] theorem State.setLoop_claspA (s : State) (n : Fin 256) (l : LoopState) : (s.setLoop n l).claspA = s.claspA := rfl
@[simp] theorem State.setLoop_claspB (s : State) (n : Fin 256) (l : LoopState) : (s.setLoop n l).claspB = s.claspB := rfl
@[simp] theorem State.setLoop_mb (s : State) (n : Fin 256) (l : LoopState) : (s.setLoop n l).mb = s.mb := rfl
@[simp] theorem State.setLoop_boot (s : State) (n : Fin 256) (l : LoopState) : (s.setLoop n l).boot = s.boot := rfl
@[simp] theorem State.setLoop_rd (s : State) (n : Fin 256) (l : LoopState) (j : Reg) : (s.setLoop n l).rd j = s.rd j := rfl
@[simp] theorem State.setLoop_get (s : State) (n : Fin 256) (l : LoopState) (j : Field) : (s.setLoop n l).get j = s.get j := rfl
@[simp] theorem State.setLoop_is (s : State) (n : Fin 256) (l : LoopState) (j : Field) : (s.setLoop n l).is j = s.is j := rfl

@[simp] theorem State.setArm_pending (s : State) (a : Fin 8) (x : ArmState) : (s.setArm a x).pending = s.pending := rfl
@[simp] theorem State.setArm_now (s : State) (a : Fin 8) (x : ArmState) : (s.setArm a x).now = s.now := rfl
@[simp] theorem State.setArm_regs (s : State) (a : Fin 8) (x : ArmState) : (s.setArm a x).regs = s.regs := rfl
@[simp] theorem State.setArm_mem (s : State) (a : Fin 8) (x : ArmState) : (s.setArm a x).mem = s.mem := rfl
@[simp] theorem State.setArm_fresh (s : State) (a : Fin 8) (x : ArmState) : (s.setArm a x).fresh = s.fresh := rfl
@[simp] theorem State.setArm_rdata (s : State) (a : Fin 8) (x : ArmState) : (s.setArm a x).rdata = s.rdata := rfl
@[simp] theorem State.setArm_ident (s : State) (a : Fin 8) (x : ArmState) : (s.setArm a x).ident = s.ident := rfl
@[simp] theorem State.setArm_seq (s : State) (a : Fin 8) (x : ArmState) : (s.setArm a x).seq = s.seq := rfl
@[simp] theorem State.setArm_time (s : State) (a : Fin 8) (x : ArmState) : (s.setArm a x).time = s.time := rfl
@[simp] theorem State.setArm_caps (s : State) (a : Fin 8) (x : ArmState) : (s.setArm a x).caps = s.caps := rfl
@[simp] theorem State.setArm_pulses (s : State) (a : Fin 8) (x : ArmState) : (s.setArm a x).pulses = s.pulses := rfl
@[simp] theorem State.setArm_lk (s : State) (a : Fin 8) (x : ArmState) : (s.setArm a x).lk = s.lk := rfl
@[simp] theorem State.setArm_evts (s : State) (a : Fin 8) (x : ArmState) : (s.setArm a x).evts = s.evts := rfl
@[simp] theorem State.setArm_pwr (s : State) (a : Fin 8) (x : ArmState) : (s.setArm a x).pwr = s.pwr := rfl
@[simp] theorem State.setArm_ports (s : State) (a : Fin 8) (x : ArmState) : (s.setArm a x).ports = s.ports := rfl
@[simp] theorem State.setArm_axes (s : State) (a : Fin 8) (x : ArmState) : (s.setArm a x).axes = s.axes := rfl
@[simp] theorem State.setArm_sdclk (s : State) (a : Fin 8) (x : ArmState) : (s.setArm a x).sdclk = s.sdclk := rfl
@[simp] theorem State.setArm_filters (s : State) (a : Fin 8) (x : ArmState) : (s.setArm a x).filters = s.filters := rfl
@[simp] theorem State.setArm_fbs (s : State) (a : Fin 8) (x : ArmState) : (s.setArm a x).fbs = s.fbs := rfl
@[simp] theorem State.setArm_loops (s : State) (a : Fin 8) (x : ArmState) : (s.setArm a x).loops = s.loops := rfl
@[simp] theorem State.setArm_arms (s : State) (a : Fin 8) (x : ArmState) : (s.setArm a x).arms = tset s.arms a x := rfl
@[simp] theorem State.setArm_kiln (s : State) (a : Fin 8) (x : ArmState) : (s.setArm a x).kiln = s.kiln := rfl
@[simp] theorem State.setArm_plannerRan (s : State) (a : Fin 8) (x : ArmState) : (s.setArm a x).plannerRan = s.plannerRan := rfl
@[simp] theorem State.setArm_planDue (s : State) (a : Fin 8) (x : ArmState) : (s.setArm a x).planDue = s.planDue := rfl
@[simp] theorem State.setArm_tiles (s : State) (a : Fin 8) (x : ArmState) : (s.setArm a x).tiles = s.tiles := rfl
@[simp] theorem State.setArm_stk (s : State) (a : Fin 8) (x : ArmState) : (s.setArm a x).stk = s.stk := rfl
@[simp] theorem State.setArm_pc (s : State) (a : Fin 8) (x : ArmState) : (s.setArm a x).pc = s.pc := rfl
@[simp] theorem State.setArm_ic (s : State) (a : Fin 8) (x : ArmState) : (s.setArm a x).ic = s.ic := rfl
@[simp] theorem State.setArm_si (s : State) (a : Fin 8) (x : ArmState) : (s.setArm a x).si = s.si := rfl
@[simp] theorem State.setArm_eth (s : State) (a : Fin 8) (x : ArmState) : (s.setArm a x).eth = s.eth := rfl
@[simp] theorem State.setArm_chain (s : State) (a : Fin 8) (x : ArmState) : (s.setArm a x).chain = s.chain := rfl
@[simp] theorem State.setArm_claspA (s : State) (a : Fin 8) (x : ArmState) : (s.setArm a x).claspA = s.claspA := rfl
@[simp] theorem State.setArm_claspB (s : State) (a : Fin 8) (x : ArmState) : (s.setArm a x).claspB = s.claspB := rfl
@[simp] theorem State.setArm_mb (s : State) (a : Fin 8) (x : ArmState) : (s.setArm a x).mb = s.mb := rfl
@[simp] theorem State.setArm_boot (s : State) (a : Fin 8) (x : ArmState) : (s.setArm a x).boot = s.boot := rfl
@[simp] theorem State.setArm_rd (s : State) (a : Fin 8) (x : ArmState) (j : Reg) : (s.setArm a x).rd j = s.rd j := rfl
@[simp] theorem State.setArm_get (s : State) (a : Fin 8) (x : ArmState) (j : Field) : (s.setArm a x).get j = s.get j := rfl
@[simp] theorem State.setArm_is (s : State) (a : Fin 8) (x : ArmState) (j : Field) : (s.setArm a x).is j = s.is j := rfl

@[simp] theorem State.setKctx_pending (s : State) (k : Fin 2) (c : Fin 16) (x : KContext) : (s.setKctx k c x).pending = s.pending := rfl
@[simp] theorem State.setKctx_now (s : State) (k : Fin 2) (c : Fin 16) (x : KContext) : (s.setKctx k c x).now = s.now := rfl
@[simp] theorem State.setKctx_regs (s : State) (k : Fin 2) (c : Fin 16) (x : KContext) : (s.setKctx k c x).regs = s.regs := rfl
@[simp] theorem State.setKctx_mem (s : State) (k : Fin 2) (c : Fin 16) (x : KContext) : (s.setKctx k c x).mem = s.mem := rfl
@[simp] theorem State.setKctx_fresh (s : State) (k : Fin 2) (c : Fin 16) (x : KContext) : (s.setKctx k c x).fresh = s.fresh := rfl
@[simp] theorem State.setKctx_rdata (s : State) (k : Fin 2) (c : Fin 16) (x : KContext) : (s.setKctx k c x).rdata = s.rdata := rfl
@[simp] theorem State.setKctx_ident (s : State) (k : Fin 2) (c : Fin 16) (x : KContext) : (s.setKctx k c x).ident = s.ident := rfl
@[simp] theorem State.setKctx_seq (s : State) (k : Fin 2) (c : Fin 16) (x : KContext) : (s.setKctx k c x).seq = s.seq := rfl
@[simp] theorem State.setKctx_time (s : State) (k : Fin 2) (c : Fin 16) (x : KContext) : (s.setKctx k c x).time = s.time := rfl
@[simp] theorem State.setKctx_caps (s : State) (k : Fin 2) (c : Fin 16) (x : KContext) : (s.setKctx k c x).caps = s.caps := rfl
@[simp] theorem State.setKctx_pulses (s : State) (k : Fin 2) (c : Fin 16) (x : KContext) : (s.setKctx k c x).pulses = s.pulses := rfl
@[simp] theorem State.setKctx_lk (s : State) (k : Fin 2) (c : Fin 16) (x : KContext) : (s.setKctx k c x).lk = s.lk := rfl
@[simp] theorem State.setKctx_evts (s : State) (k : Fin 2) (c : Fin 16) (x : KContext) : (s.setKctx k c x).evts = s.evts := rfl
@[simp] theorem State.setKctx_pwr (s : State) (k : Fin 2) (c : Fin 16) (x : KContext) : (s.setKctx k c x).pwr = s.pwr := rfl
@[simp] theorem State.setKctx_ports (s : State) (k : Fin 2) (c : Fin 16) (x : KContext) : (s.setKctx k c x).ports = s.ports := rfl
@[simp] theorem State.setKctx_axes (s : State) (k : Fin 2) (c : Fin 16) (x : KContext) : (s.setKctx k c x).axes = s.axes := rfl
@[simp] theorem State.setKctx_sdclk (s : State) (k : Fin 2) (c : Fin 16) (x : KContext) : (s.setKctx k c x).sdclk = s.sdclk := rfl
@[simp] theorem State.setKctx_filters (s : State) (k : Fin 2) (c : Fin 16) (x : KContext) : (s.setKctx k c x).filters = s.filters := rfl
@[simp] theorem State.setKctx_fbs (s : State) (k : Fin 2) (c : Fin 16) (x : KContext) : (s.setKctx k c x).fbs = s.fbs := rfl
@[simp] theorem State.setKctx_loops (s : State) (k : Fin 2) (c : Fin 16) (x : KContext) : (s.setKctx k c x).loops = s.loops := rfl
@[simp] theorem State.setKctx_arms (s : State) (k : Fin 2) (c : Fin 16) (x : KContext) : (s.setKctx k c x).arms = s.arms := rfl
@[simp] theorem State.setKctx_kiln (s : State) (k : Fin 2) (c : Fin 16) (x : KContext) : (s.setKctx k c x).kiln = tset s.kiln (k, c) x := rfl
@[simp] theorem State.setKctx_plannerRan (s : State) (k : Fin 2) (c : Fin 16) (x : KContext) : (s.setKctx k c x).plannerRan = s.plannerRan := rfl
@[simp] theorem State.setKctx_planDue (s : State) (k : Fin 2) (c : Fin 16) (x : KContext) : (s.setKctx k c x).planDue = s.planDue := rfl
@[simp] theorem State.setKctx_tiles (s : State) (k : Fin 2) (c : Fin 16) (x : KContext) : (s.setKctx k c x).tiles = s.tiles := rfl
@[simp] theorem State.setKctx_stk (s : State) (k : Fin 2) (c : Fin 16) (x : KContext) : (s.setKctx k c x).stk = s.stk := rfl
@[simp] theorem State.setKctx_pc (s : State) (k : Fin 2) (c : Fin 16) (x : KContext) : (s.setKctx k c x).pc = s.pc := rfl
@[simp] theorem State.setKctx_ic (s : State) (k : Fin 2) (c : Fin 16) (x : KContext) : (s.setKctx k c x).ic = s.ic := rfl
@[simp] theorem State.setKctx_si (s : State) (k : Fin 2) (c : Fin 16) (x : KContext) : (s.setKctx k c x).si = s.si := rfl
@[simp] theorem State.setKctx_eth (s : State) (k : Fin 2) (c : Fin 16) (x : KContext) : (s.setKctx k c x).eth = s.eth := rfl
@[simp] theorem State.setKctx_chain (s : State) (k : Fin 2) (c : Fin 16) (x : KContext) : (s.setKctx k c x).chain = s.chain := rfl
@[simp] theorem State.setKctx_claspA (s : State) (k : Fin 2) (c : Fin 16) (x : KContext) : (s.setKctx k c x).claspA = s.claspA := rfl
@[simp] theorem State.setKctx_claspB (s : State) (k : Fin 2) (c : Fin 16) (x : KContext) : (s.setKctx k c x).claspB = s.claspB := rfl
@[simp] theorem State.setKctx_mb (s : State) (k : Fin 2) (c : Fin 16) (x : KContext) : (s.setKctx k c x).mb = s.mb := rfl
@[simp] theorem State.setKctx_boot (s : State) (k : Fin 2) (c : Fin 16) (x : KContext) : (s.setKctx k c x).boot = s.boot := rfl
@[simp] theorem State.setKctx_rd (s : State) (k : Fin 2) (c : Fin 16) (x : KContext) (j : Reg) : (s.setKctx k c x).rd j = s.rd j := rfl
@[simp] theorem State.setKctx_get (s : State) (k : Fin 2) (c : Fin 16) (x : KContext) (j : Field) : (s.setKctx k c x).get j = s.get j := rfl
@[simp] theorem State.setKctx_is (s : State) (k : Fin 2) (c : Fin 16) (x : KContext) (j : Field) : (s.setKctx k c x).is j = s.is j := rfl

@[simp] theorem State.setTask_pending (s : State) (n : Fin 4096) (r : TaskRec) : (s.setTask n r).pending = s.pending := rfl
@[simp] theorem State.setTask_now (s : State) (n : Fin 4096) (r : TaskRec) : (s.setTask n r).now = s.now := rfl
@[simp] theorem State.setTask_regs (s : State) (n : Fin 4096) (r : TaskRec) : (s.setTask n r).regs = s.regs := rfl
@[simp] theorem State.setTask_mem (s : State) (n : Fin 4096) (r : TaskRec) : (s.setTask n r).mem = s.mem := rfl
@[simp] theorem State.setTask_fresh (s : State) (n : Fin 4096) (r : TaskRec) : (s.setTask n r).fresh = s.fresh := rfl
@[simp] theorem State.setTask_rdata (s : State) (n : Fin 4096) (r : TaskRec) : (s.setTask n r).rdata = s.rdata := rfl
@[simp] theorem State.setTask_ident (s : State) (n : Fin 4096) (r : TaskRec) : (s.setTask n r).ident = s.ident := rfl
@[simp] theorem State.setTask_seq (s : State) (n : Fin 4096) (r : TaskRec) : (s.setTask n r).seq = s.seq := rfl
@[simp] theorem State.setTask_time (s : State) (n : Fin 4096) (r : TaskRec) : (s.setTask n r).time = s.time := rfl
@[simp] theorem State.setTask_caps (s : State) (n : Fin 4096) (r : TaskRec) : (s.setTask n r).caps = s.caps := rfl
@[simp] theorem State.setTask_pulses (s : State) (n : Fin 4096) (r : TaskRec) : (s.setTask n r).pulses = s.pulses := rfl
@[simp] theorem State.setTask_lk (s : State) (n : Fin 4096) (r : TaskRec) : (s.setTask n r).lk = s.lk := rfl
@[simp] theorem State.setTask_evts (s : State) (n : Fin 4096) (r : TaskRec) : (s.setTask n r).evts = s.evts := rfl
@[simp] theorem State.setTask_pwr (s : State) (n : Fin 4096) (r : TaskRec) : (s.setTask n r).pwr = s.pwr := rfl
@[simp] theorem State.setTask_ports (s : State) (n : Fin 4096) (r : TaskRec) : (s.setTask n r).ports = s.ports := rfl
@[simp] theorem State.setTask_axes (s : State) (n : Fin 4096) (r : TaskRec) : (s.setTask n r).axes = s.axes := rfl
@[simp] theorem State.setTask_sdclk (s : State) (n : Fin 4096) (r : TaskRec) : (s.setTask n r).sdclk = s.sdclk := rfl
@[simp] theorem State.setTask_filters (s : State) (n : Fin 4096) (r : TaskRec) : (s.setTask n r).filters = s.filters := rfl
@[simp] theorem State.setTask_fbs (s : State) (n : Fin 4096) (r : TaskRec) : (s.setTask n r).fbs = s.fbs := rfl
@[simp] theorem State.setTask_loops (s : State) (n : Fin 4096) (r : TaskRec) : (s.setTask n r).loops = s.loops := rfl
@[simp] theorem State.setTask_arms (s : State) (n : Fin 4096) (r : TaskRec) : (s.setTask n r).arms = s.arms := rfl
@[simp] theorem State.setTask_kiln (s : State) (n : Fin 4096) (r : TaskRec) : (s.setTask n r).kiln = s.kiln := rfl
@[simp] theorem State.setTask_plannerRan (s : State) (n : Fin 4096) (r : TaskRec) : (s.setTask n r).plannerRan = s.plannerRan := rfl
@[simp] theorem State.setTask_planDue (s : State) (n : Fin 4096) (r : TaskRec) : (s.setTask n r).planDue = s.planDue := rfl
@[simp] theorem State.setTask_tiles (s : State) (n : Fin 4096) (r : TaskRec) : (s.setTask n r).tiles = s.tiles := rfl
@[simp] theorem State.setTask_pc (s : State) (n : Fin 4096) (r : TaskRec) : (s.setTask n r).pc = s.pc := rfl
@[simp] theorem State.setTask_ic (s : State) (n : Fin 4096) (r : TaskRec) : (s.setTask n r).ic = s.ic := rfl
@[simp] theorem State.setTask_si (s : State) (n : Fin 4096) (r : TaskRec) : (s.setTask n r).si = s.si := rfl
@[simp] theorem State.setTask_eth (s : State) (n : Fin 4096) (r : TaskRec) : (s.setTask n r).eth = s.eth := rfl
@[simp] theorem State.setTask_chain (s : State) (n : Fin 4096) (r : TaskRec) : (s.setTask n r).chain = s.chain := rfl
@[simp] theorem State.setTask_claspA (s : State) (n : Fin 4096) (r : TaskRec) : (s.setTask n r).claspA = s.claspA := rfl
@[simp] theorem State.setTask_claspB (s : State) (n : Fin 4096) (r : TaskRec) : (s.setTask n r).claspB = s.claspB := rfl
@[simp] theorem State.setTask_mb (s : State) (n : Fin 4096) (r : TaskRec) : (s.setTask n r).mb = s.mb := rfl
@[simp] theorem State.setTask_boot (s : State) (n : Fin 4096) (r : TaskRec) : (s.setTask n r).boot = s.boot := rfl
@[simp] theorem State.setTask_rd (s : State) (n : Fin 4096) (r : TaskRec) (j : Reg) : (s.setTask n r).rd j = s.rd j := rfl
@[simp] theorem State.setTask_get (s : State) (n : Fin 4096) (r : TaskRec) (j : Field) : (s.setTask n r).get j = s.get j := rfl
@[simp] theorem State.setTask_is (s : State) (n : Fin 4096) (r : TaskRec) (j : Field) : (s.setTask n r).is j = s.is j := rfl

@[simp] theorem State.setBuf_pending (s : State) (h : Fin 8192) (r : BufRec) : (s.setBuf h r).pending = s.pending := rfl
@[simp] theorem State.setBuf_now (s : State) (h : Fin 8192) (r : BufRec) : (s.setBuf h r).now = s.now := rfl
@[simp] theorem State.setBuf_regs (s : State) (h : Fin 8192) (r : BufRec) : (s.setBuf h r).regs = s.regs := rfl
@[simp] theorem State.setBuf_mem (s : State) (h : Fin 8192) (r : BufRec) : (s.setBuf h r).mem = s.mem := rfl
@[simp] theorem State.setBuf_fresh (s : State) (h : Fin 8192) (r : BufRec) : (s.setBuf h r).fresh = s.fresh := rfl
@[simp] theorem State.setBuf_rdata (s : State) (h : Fin 8192) (r : BufRec) : (s.setBuf h r).rdata = s.rdata := rfl
@[simp] theorem State.setBuf_ident (s : State) (h : Fin 8192) (r : BufRec) : (s.setBuf h r).ident = s.ident := rfl
@[simp] theorem State.setBuf_seq (s : State) (h : Fin 8192) (r : BufRec) : (s.setBuf h r).seq = s.seq := rfl
@[simp] theorem State.setBuf_time (s : State) (h : Fin 8192) (r : BufRec) : (s.setBuf h r).time = s.time := rfl
@[simp] theorem State.setBuf_caps (s : State) (h : Fin 8192) (r : BufRec) : (s.setBuf h r).caps = s.caps := rfl
@[simp] theorem State.setBuf_pulses (s : State) (h : Fin 8192) (r : BufRec) : (s.setBuf h r).pulses = s.pulses := rfl
@[simp] theorem State.setBuf_lk (s : State) (h : Fin 8192) (r : BufRec) : (s.setBuf h r).lk = s.lk := rfl
@[simp] theorem State.setBuf_evts (s : State) (h : Fin 8192) (r : BufRec) : (s.setBuf h r).evts = s.evts := rfl
@[simp] theorem State.setBuf_pwr (s : State) (h : Fin 8192) (r : BufRec) : (s.setBuf h r).pwr = s.pwr := rfl
@[simp] theorem State.setBuf_ports (s : State) (h : Fin 8192) (r : BufRec) : (s.setBuf h r).ports = s.ports := rfl
@[simp] theorem State.setBuf_axes (s : State) (h : Fin 8192) (r : BufRec) : (s.setBuf h r).axes = s.axes := rfl
@[simp] theorem State.setBuf_sdclk (s : State) (h : Fin 8192) (r : BufRec) : (s.setBuf h r).sdclk = s.sdclk := rfl
@[simp] theorem State.setBuf_filters (s : State) (h : Fin 8192) (r : BufRec) : (s.setBuf h r).filters = s.filters := rfl
@[simp] theorem State.setBuf_fbs (s : State) (h : Fin 8192) (r : BufRec) : (s.setBuf h r).fbs = s.fbs := rfl
@[simp] theorem State.setBuf_loops (s : State) (h : Fin 8192) (r : BufRec) : (s.setBuf h r).loops = s.loops := rfl
@[simp] theorem State.setBuf_arms (s : State) (h : Fin 8192) (r : BufRec) : (s.setBuf h r).arms = s.arms := rfl
@[simp] theorem State.setBuf_kiln (s : State) (h : Fin 8192) (r : BufRec) : (s.setBuf h r).kiln = s.kiln := rfl
@[simp] theorem State.setBuf_plannerRan (s : State) (h : Fin 8192) (r : BufRec) : (s.setBuf h r).plannerRan = s.plannerRan := rfl
@[simp] theorem State.setBuf_planDue (s : State) (h : Fin 8192) (r : BufRec) : (s.setBuf h r).planDue = s.planDue := rfl
@[simp] theorem State.setBuf_tiles (s : State) (h : Fin 8192) (r : BufRec) : (s.setBuf h r).tiles = s.tiles := rfl
@[simp] theorem State.setBuf_pc (s : State) (h : Fin 8192) (r : BufRec) : (s.setBuf h r).pc = s.pc := rfl
@[simp] theorem State.setBuf_ic (s : State) (h : Fin 8192) (r : BufRec) : (s.setBuf h r).ic = s.ic := rfl
@[simp] theorem State.setBuf_si (s : State) (h : Fin 8192) (r : BufRec) : (s.setBuf h r).si = s.si := rfl
@[simp] theorem State.setBuf_eth (s : State) (h : Fin 8192) (r : BufRec) : (s.setBuf h r).eth = s.eth := rfl
@[simp] theorem State.setBuf_chain (s : State) (h : Fin 8192) (r : BufRec) : (s.setBuf h r).chain = s.chain := rfl
@[simp] theorem State.setBuf_claspA (s : State) (h : Fin 8192) (r : BufRec) : (s.setBuf h r).claspA = s.claspA := rfl
@[simp] theorem State.setBuf_claspB (s : State) (h : Fin 8192) (r : BufRec) : (s.setBuf h r).claspB = s.claspB := rfl
@[simp] theorem State.setBuf_mb (s : State) (h : Fin 8192) (r : BufRec) : (s.setBuf h r).mb = s.mb := rfl
@[simp] theorem State.setBuf_boot (s : State) (h : Fin 8192) (r : BufRec) : (s.setBuf h r).boot = s.boot := rfl
@[simp] theorem State.setBuf_rd (s : State) (h : Fin 8192) (r : BufRec) (j : Reg) : (s.setBuf h r).rd j = s.rd j := rfl
@[simp] theorem State.setBuf_get (s : State) (h : Fin 8192) (r : BufRec) (j : Field) : (s.setBuf h r).get j = s.get j := rfl
@[simp] theorem State.setBuf_is (s : State) (h : Fin 8192) (r : BufRec) (j : Field) : (s.setBuf h r).is j = s.is j := rfl

@[simp] theorem State.setSarm_pending (s : State) (a : Fin 8) (x : SafeArm) : (s.setSarm a x).pending = s.pending := rfl
@[simp] theorem State.setSarm_now (s : State) (a : Fin 8) (x : SafeArm) : (s.setSarm a x).now = s.now := rfl
@[simp] theorem State.setSarm_regs (s : State) (a : Fin 8) (x : SafeArm) : (s.setSarm a x).regs = s.regs := rfl
@[simp] theorem State.setSarm_mem (s : State) (a : Fin 8) (x : SafeArm) : (s.setSarm a x).mem = s.mem := rfl
@[simp] theorem State.setSarm_fresh (s : State) (a : Fin 8) (x : SafeArm) : (s.setSarm a x).fresh = s.fresh := rfl
@[simp] theorem State.setSarm_rdata (s : State) (a : Fin 8) (x : SafeArm) : (s.setSarm a x).rdata = s.rdata := rfl
@[simp] theorem State.setSarm_ident (s : State) (a : Fin 8) (x : SafeArm) : (s.setSarm a x).ident = s.ident := rfl
@[simp] theorem State.setSarm_seq (s : State) (a : Fin 8) (x : SafeArm) : (s.setSarm a x).seq = s.seq := rfl
@[simp] theorem State.setSarm_time (s : State) (a : Fin 8) (x : SafeArm) : (s.setSarm a x).time = s.time := rfl
@[simp] theorem State.setSarm_caps (s : State) (a : Fin 8) (x : SafeArm) : (s.setSarm a x).caps = s.caps := rfl
@[simp] theorem State.setSarm_pulses (s : State) (a : Fin 8) (x : SafeArm) : (s.setSarm a x).pulses = s.pulses := rfl
@[simp] theorem State.setSarm_lk (s : State) (a : Fin 8) (x : SafeArm) : (s.setSarm a x).lk = s.lk := rfl
@[simp] theorem State.setSarm_evts (s : State) (a : Fin 8) (x : SafeArm) : (s.setSarm a x).evts = s.evts := rfl
@[simp] theorem State.setSarm_pwr (s : State) (a : Fin 8) (x : SafeArm) : (s.setSarm a x).pwr = s.pwr := rfl
@[simp] theorem State.setSarm_ports (s : State) (a : Fin 8) (x : SafeArm) : (s.setSarm a x).ports = s.ports := rfl
@[simp] theorem State.setSarm_axes (s : State) (a : Fin 8) (x : SafeArm) : (s.setSarm a x).axes = s.axes := rfl
@[simp] theorem State.setSarm_sdclk (s : State) (a : Fin 8) (x : SafeArm) : (s.setSarm a x).sdclk = s.sdclk := rfl
@[simp] theorem State.setSarm_filters (s : State) (a : Fin 8) (x : SafeArm) : (s.setSarm a x).filters = s.filters := rfl
@[simp] theorem State.setSarm_fbs (s : State) (a : Fin 8) (x : SafeArm) : (s.setSarm a x).fbs = s.fbs := rfl
@[simp] theorem State.setSarm_loops (s : State) (a : Fin 8) (x : SafeArm) : (s.setSarm a x).loops = s.loops := rfl
@[simp] theorem State.setSarm_arms (s : State) (a : Fin 8) (x : SafeArm) : (s.setSarm a x).arms = s.arms := rfl
@[simp] theorem State.setSarm_kiln (s : State) (a : Fin 8) (x : SafeArm) : (s.setSarm a x).kiln = s.kiln := rfl
@[simp] theorem State.setSarm_plannerRan (s : State) (a : Fin 8) (x : SafeArm) : (s.setSarm a x).plannerRan = s.plannerRan := rfl
@[simp] theorem State.setSarm_planDue (s : State) (a : Fin 8) (x : SafeArm) : (s.setSarm a x).planDue = s.planDue := rfl
@[simp] theorem State.setSarm_tiles (s : State) (a : Fin 8) (x : SafeArm) : (s.setSarm a x).tiles = s.tiles := rfl
@[simp] theorem State.setSarm_stk (s : State) (a : Fin 8) (x : SafeArm) : (s.setSarm a x).stk = s.stk := rfl
@[simp] theorem State.setSarm_pc (s : State) (a : Fin 8) (x : SafeArm) : (s.setSarm a x).pc = s.pc := rfl
@[simp] theorem State.setSarm_ic (s : State) (a : Fin 8) (x : SafeArm) : (s.setSarm a x).ic = s.ic := rfl
@[simp] theorem State.setSarm_eth (s : State) (a : Fin 8) (x : SafeArm) : (s.setSarm a x).eth = s.eth := rfl
@[simp] theorem State.setSarm_chain (s : State) (a : Fin 8) (x : SafeArm) : (s.setSarm a x).chain = s.chain := rfl
@[simp] theorem State.setSarm_claspA (s : State) (a : Fin 8) (x : SafeArm) : (s.setSarm a x).claspA = s.claspA := rfl
@[simp] theorem State.setSarm_claspB (s : State) (a : Fin 8) (x : SafeArm) : (s.setSarm a x).claspB = s.claspB := rfl
@[simp] theorem State.setSarm_mb (s : State) (a : Fin 8) (x : SafeArm) : (s.setSarm a x).mb = s.mb := rfl
@[simp] theorem State.setSarm_boot (s : State) (a : Fin 8) (x : SafeArm) : (s.setSarm a x).boot = s.boot := rfl
@[simp] theorem State.setSarm_rd (s : State) (a : Fin 8) (x : SafeArm) (j : Reg) : (s.setSarm a x).rd j = s.rd j := rfl
@[simp] theorem State.setSarm_get (s : State) (a : Fin 8) (x : SafeArm) (j : Field) : (s.setSarm a x).get j = s.get j := rfl
@[simp] theorem State.setSarm_is (s : State) (a : Fin 8) (x : SafeArm) (j : Field) : (s.setSarm a x).is j = s.is j := rfl

@[simp] theorem State.setSin_pending (s : State) (k : Fin 16) (x : InputState) : (s.setSin k x).pending = s.pending := rfl
@[simp] theorem State.setSin_now (s : State) (k : Fin 16) (x : InputState) : (s.setSin k x).now = s.now := rfl
@[simp] theorem State.setSin_regs (s : State) (k : Fin 16) (x : InputState) : (s.setSin k x).regs = s.regs := rfl
@[simp] theorem State.setSin_mem (s : State) (k : Fin 16) (x : InputState) : (s.setSin k x).mem = s.mem := rfl
@[simp] theorem State.setSin_fresh (s : State) (k : Fin 16) (x : InputState) : (s.setSin k x).fresh = s.fresh := rfl
@[simp] theorem State.setSin_rdata (s : State) (k : Fin 16) (x : InputState) : (s.setSin k x).rdata = s.rdata := rfl
@[simp] theorem State.setSin_ident (s : State) (k : Fin 16) (x : InputState) : (s.setSin k x).ident = s.ident := rfl
@[simp] theorem State.setSin_seq (s : State) (k : Fin 16) (x : InputState) : (s.setSin k x).seq = s.seq := rfl
@[simp] theorem State.setSin_time (s : State) (k : Fin 16) (x : InputState) : (s.setSin k x).time = s.time := rfl
@[simp] theorem State.setSin_caps (s : State) (k : Fin 16) (x : InputState) : (s.setSin k x).caps = s.caps := rfl
@[simp] theorem State.setSin_pulses (s : State) (k : Fin 16) (x : InputState) : (s.setSin k x).pulses = s.pulses := rfl
@[simp] theorem State.setSin_lk (s : State) (k : Fin 16) (x : InputState) : (s.setSin k x).lk = s.lk := rfl
@[simp] theorem State.setSin_evts (s : State) (k : Fin 16) (x : InputState) : (s.setSin k x).evts = s.evts := rfl
@[simp] theorem State.setSin_pwr (s : State) (k : Fin 16) (x : InputState) : (s.setSin k x).pwr = s.pwr := rfl
@[simp] theorem State.setSin_ports (s : State) (k : Fin 16) (x : InputState) : (s.setSin k x).ports = s.ports := rfl
@[simp] theorem State.setSin_axes (s : State) (k : Fin 16) (x : InputState) : (s.setSin k x).axes = s.axes := rfl
@[simp] theorem State.setSin_sdclk (s : State) (k : Fin 16) (x : InputState) : (s.setSin k x).sdclk = s.sdclk := rfl
@[simp] theorem State.setSin_filters (s : State) (k : Fin 16) (x : InputState) : (s.setSin k x).filters = s.filters := rfl
@[simp] theorem State.setSin_fbs (s : State) (k : Fin 16) (x : InputState) : (s.setSin k x).fbs = s.fbs := rfl
@[simp] theorem State.setSin_loops (s : State) (k : Fin 16) (x : InputState) : (s.setSin k x).loops = s.loops := rfl
@[simp] theorem State.setSin_arms (s : State) (k : Fin 16) (x : InputState) : (s.setSin k x).arms = s.arms := rfl
@[simp] theorem State.setSin_kiln (s : State) (k : Fin 16) (x : InputState) : (s.setSin k x).kiln = s.kiln := rfl
@[simp] theorem State.setSin_plannerRan (s : State) (k : Fin 16) (x : InputState) : (s.setSin k x).plannerRan = s.plannerRan := rfl
@[simp] theorem State.setSin_planDue (s : State) (k : Fin 16) (x : InputState) : (s.setSin k x).planDue = s.planDue := rfl
@[simp] theorem State.setSin_tiles (s : State) (k : Fin 16) (x : InputState) : (s.setSin k x).tiles = s.tiles := rfl
@[simp] theorem State.setSin_stk (s : State) (k : Fin 16) (x : InputState) : (s.setSin k x).stk = s.stk := rfl
@[simp] theorem State.setSin_pc (s : State) (k : Fin 16) (x : InputState) : (s.setSin k x).pc = s.pc := rfl
@[simp] theorem State.setSin_ic (s : State) (k : Fin 16) (x : InputState) : (s.setSin k x).ic = s.ic := rfl
@[simp] theorem State.setSin_eth (s : State) (k : Fin 16) (x : InputState) : (s.setSin k x).eth = s.eth := rfl
@[simp] theorem State.setSin_chain (s : State) (k : Fin 16) (x : InputState) : (s.setSin k x).chain = s.chain := rfl
@[simp] theorem State.setSin_claspA (s : State) (k : Fin 16) (x : InputState) : (s.setSin k x).claspA = s.claspA := rfl
@[simp] theorem State.setSin_claspB (s : State) (k : Fin 16) (x : InputState) : (s.setSin k x).claspB = s.claspB := rfl
@[simp] theorem State.setSin_mb (s : State) (k : Fin 16) (x : InputState) : (s.setSin k x).mb = s.mb := rfl
@[simp] theorem State.setSin_boot (s : State) (k : Fin 16) (x : InputState) : (s.setSin k x).boot = s.boot := rfl
@[simp] theorem State.setSin_rd (s : State) (k : Fin 16) (x : InputState) (j : Reg) : (s.setSin k x).rd j = s.rd j := rfl
@[simp] theorem State.setSin_get (s : State) (k : Fin 16) (x : InputState) (j : Field) : (s.setSin k x).get j = s.get j := rfl
@[simp] theorem State.setSin_is (s : State) (k : Fin 16) (x : InputState) (j : Field) : (s.setSin k x).is j = s.is j := rfl

@[simp] theorem State.setSout_pending (s : State) (k : Fin 12) (x : OutputState) : (s.setSout k x).pending = s.pending := rfl
@[simp] theorem State.setSout_now (s : State) (k : Fin 12) (x : OutputState) : (s.setSout k x).now = s.now := rfl
@[simp] theorem State.setSout_regs (s : State) (k : Fin 12) (x : OutputState) : (s.setSout k x).regs = s.regs := rfl
@[simp] theorem State.setSout_mem (s : State) (k : Fin 12) (x : OutputState) : (s.setSout k x).mem = s.mem := rfl
@[simp] theorem State.setSout_fresh (s : State) (k : Fin 12) (x : OutputState) : (s.setSout k x).fresh = s.fresh := rfl
@[simp] theorem State.setSout_rdata (s : State) (k : Fin 12) (x : OutputState) : (s.setSout k x).rdata = s.rdata := rfl
@[simp] theorem State.setSout_ident (s : State) (k : Fin 12) (x : OutputState) : (s.setSout k x).ident = s.ident := rfl
@[simp] theorem State.setSout_seq (s : State) (k : Fin 12) (x : OutputState) : (s.setSout k x).seq = s.seq := rfl
@[simp] theorem State.setSout_time (s : State) (k : Fin 12) (x : OutputState) : (s.setSout k x).time = s.time := rfl
@[simp] theorem State.setSout_caps (s : State) (k : Fin 12) (x : OutputState) : (s.setSout k x).caps = s.caps := rfl
@[simp] theorem State.setSout_pulses (s : State) (k : Fin 12) (x : OutputState) : (s.setSout k x).pulses = s.pulses := rfl
@[simp] theorem State.setSout_lk (s : State) (k : Fin 12) (x : OutputState) : (s.setSout k x).lk = s.lk := rfl
@[simp] theorem State.setSout_evts (s : State) (k : Fin 12) (x : OutputState) : (s.setSout k x).evts = s.evts := rfl
@[simp] theorem State.setSout_pwr (s : State) (k : Fin 12) (x : OutputState) : (s.setSout k x).pwr = s.pwr := rfl
@[simp] theorem State.setSout_ports (s : State) (k : Fin 12) (x : OutputState) : (s.setSout k x).ports = s.ports := rfl
@[simp] theorem State.setSout_axes (s : State) (k : Fin 12) (x : OutputState) : (s.setSout k x).axes = s.axes := rfl
@[simp] theorem State.setSout_sdclk (s : State) (k : Fin 12) (x : OutputState) : (s.setSout k x).sdclk = s.sdclk := rfl
@[simp] theorem State.setSout_filters (s : State) (k : Fin 12) (x : OutputState) : (s.setSout k x).filters = s.filters := rfl
@[simp] theorem State.setSout_fbs (s : State) (k : Fin 12) (x : OutputState) : (s.setSout k x).fbs = s.fbs := rfl
@[simp] theorem State.setSout_loops (s : State) (k : Fin 12) (x : OutputState) : (s.setSout k x).loops = s.loops := rfl
@[simp] theorem State.setSout_arms (s : State) (k : Fin 12) (x : OutputState) : (s.setSout k x).arms = s.arms := rfl
@[simp] theorem State.setSout_kiln (s : State) (k : Fin 12) (x : OutputState) : (s.setSout k x).kiln = s.kiln := rfl
@[simp] theorem State.setSout_plannerRan (s : State) (k : Fin 12) (x : OutputState) : (s.setSout k x).plannerRan = s.plannerRan := rfl
@[simp] theorem State.setSout_planDue (s : State) (k : Fin 12) (x : OutputState) : (s.setSout k x).planDue = s.planDue := rfl
@[simp] theorem State.setSout_tiles (s : State) (k : Fin 12) (x : OutputState) : (s.setSout k x).tiles = s.tiles := rfl
@[simp] theorem State.setSout_stk (s : State) (k : Fin 12) (x : OutputState) : (s.setSout k x).stk = s.stk := rfl
@[simp] theorem State.setSout_pc (s : State) (k : Fin 12) (x : OutputState) : (s.setSout k x).pc = s.pc := rfl
@[simp] theorem State.setSout_ic (s : State) (k : Fin 12) (x : OutputState) : (s.setSout k x).ic = s.ic := rfl
@[simp] theorem State.setSout_eth (s : State) (k : Fin 12) (x : OutputState) : (s.setSout k x).eth = s.eth := rfl
@[simp] theorem State.setSout_chain (s : State) (k : Fin 12) (x : OutputState) : (s.setSout k x).chain = s.chain := rfl
@[simp] theorem State.setSout_claspA (s : State) (k : Fin 12) (x : OutputState) : (s.setSout k x).claspA = s.claspA := rfl
@[simp] theorem State.setSout_claspB (s : State) (k : Fin 12) (x : OutputState) : (s.setSout k x).claspB = s.claspB := rfl
@[simp] theorem State.setSout_mb (s : State) (k : Fin 12) (x : OutputState) : (s.setSout k x).mb = s.mb := rfl
@[simp] theorem State.setSout_boot (s : State) (k : Fin 12) (x : OutputState) : (s.setSout k x).boot = s.boot := rfl
@[simp] theorem State.setSout_rd (s : State) (k : Fin 12) (x : OutputState) (j : Reg) : (s.setSout k x).rd j = s.rd j := rfl
@[simp] theorem State.setSout_get (s : State) (k : Fin 12) (x : OutputState) (j : Field) : (s.setSout k x).get j = s.get j := rfl
@[simp] theorem State.setSout_is (s : State) (k : Fin 12) (x : OutputState) (j : Field) : (s.setSout k x).is j = s.is j := rfl

@[simp] theorem State.setConn_pending (s : State) (c : Fin 64) (x : SignetConn) : (s.setConn c x).pending = s.pending := rfl
@[simp] theorem State.setConn_now (s : State) (c : Fin 64) (x : SignetConn) : (s.setConn c x).now = s.now := rfl
@[simp] theorem State.setConn_regs (s : State) (c : Fin 64) (x : SignetConn) : (s.setConn c x).regs = s.regs := rfl
@[simp] theorem State.setConn_mem (s : State) (c : Fin 64) (x : SignetConn) : (s.setConn c x).mem = s.mem := rfl
@[simp] theorem State.setConn_fresh (s : State) (c : Fin 64) (x : SignetConn) : (s.setConn c x).fresh = s.fresh := rfl
@[simp] theorem State.setConn_rdata (s : State) (c : Fin 64) (x : SignetConn) : (s.setConn c x).rdata = s.rdata := rfl
@[simp] theorem State.setConn_ident (s : State) (c : Fin 64) (x : SignetConn) : (s.setConn c x).ident = s.ident := rfl
@[simp] theorem State.setConn_seq (s : State) (c : Fin 64) (x : SignetConn) : (s.setConn c x).seq = s.seq := rfl
@[simp] theorem State.setConn_time (s : State) (c : Fin 64) (x : SignetConn) : (s.setConn c x).time = s.time := rfl
@[simp] theorem State.setConn_caps (s : State) (c : Fin 64) (x : SignetConn) : (s.setConn c x).caps = s.caps := rfl
@[simp] theorem State.setConn_pulses (s : State) (c : Fin 64) (x : SignetConn) : (s.setConn c x).pulses = s.pulses := rfl
@[simp] theorem State.setConn_lk (s : State) (c : Fin 64) (x : SignetConn) : (s.setConn c x).lk = s.lk := rfl
@[simp] theorem State.setConn_evts (s : State) (c : Fin 64) (x : SignetConn) : (s.setConn c x).evts = s.evts := rfl
@[simp] theorem State.setConn_pwr (s : State) (c : Fin 64) (x : SignetConn) : (s.setConn c x).pwr = s.pwr := rfl
@[simp] theorem State.setConn_ports (s : State) (c : Fin 64) (x : SignetConn) : (s.setConn c x).ports = s.ports := rfl
@[simp] theorem State.setConn_axes (s : State) (c : Fin 64) (x : SignetConn) : (s.setConn c x).axes = s.axes := rfl
@[simp] theorem State.setConn_sdclk (s : State) (c : Fin 64) (x : SignetConn) : (s.setConn c x).sdclk = s.sdclk := rfl
@[simp] theorem State.setConn_filters (s : State) (c : Fin 64) (x : SignetConn) : (s.setConn c x).filters = s.filters := rfl
@[simp] theorem State.setConn_fbs (s : State) (c : Fin 64) (x : SignetConn) : (s.setConn c x).fbs = s.fbs := rfl
@[simp] theorem State.setConn_loops (s : State) (c : Fin 64) (x : SignetConn) : (s.setConn c x).loops = s.loops := rfl
@[simp] theorem State.setConn_arms (s : State) (c : Fin 64) (x : SignetConn) : (s.setConn c x).arms = s.arms := rfl
@[simp] theorem State.setConn_kiln (s : State) (c : Fin 64) (x : SignetConn) : (s.setConn c x).kiln = s.kiln := rfl
@[simp] theorem State.setConn_plannerRan (s : State) (c : Fin 64) (x : SignetConn) : (s.setConn c x).plannerRan = s.plannerRan := rfl
@[simp] theorem State.setConn_planDue (s : State) (c : Fin 64) (x : SignetConn) : (s.setConn c x).planDue = s.planDue := rfl
@[simp] theorem State.setConn_tiles (s : State) (c : Fin 64) (x : SignetConn) : (s.setConn c x).tiles = s.tiles := rfl
@[simp] theorem State.setConn_stk (s : State) (c : Fin 64) (x : SignetConn) : (s.setConn c x).stk = s.stk := rfl
@[simp] theorem State.setConn_pc (s : State) (c : Fin 64) (x : SignetConn) : (s.setConn c x).pc = s.pc := rfl
@[simp] theorem State.setConn_ic (s : State) (c : Fin 64) (x : SignetConn) : (s.setConn c x).ic = s.ic := rfl
@[simp] theorem State.setConn_eth (s : State) (c : Fin 64) (x : SignetConn) : (s.setConn c x).eth = s.eth := rfl
@[simp] theorem State.setConn_chain (s : State) (c : Fin 64) (x : SignetConn) : (s.setConn c x).chain = s.chain := rfl
@[simp] theorem State.setConn_claspA (s : State) (c : Fin 64) (x : SignetConn) : (s.setConn c x).claspA = s.claspA := rfl
@[simp] theorem State.setConn_claspB (s : State) (c : Fin 64) (x : SignetConn) : (s.setConn c x).claspB = s.claspB := rfl
@[simp] theorem State.setConn_mb (s : State) (c : Fin 64) (x : SignetConn) : (s.setConn c x).mb = s.mb := rfl
@[simp] theorem State.setConn_boot (s : State) (c : Fin 64) (x : SignetConn) : (s.setConn c x).boot = s.boot := rfl
@[simp] theorem State.setConn_rd (s : State) (c : Fin 64) (x : SignetConn) (j : Reg) : (s.setConn c x).rd j = s.rd j := rfl
@[simp] theorem State.setConn_get (s : State) (c : Fin 64) (x : SignetConn) (j : Field) : (s.setConn c x).get j = s.get j := rfl
@[simp] theorem State.setConn_is (s : State) (c : Fin 64) (x : SignetConn) (j : Field) : (s.setConn c x).is j = s.is j := rfl

@[simp] theorem State.updMail_pending (s : State) (f : Mail → Mail) : (s.updMail f).pending = s.pending := rfl
@[simp] theorem State.updMail_now (s : State) (f : Mail → Mail) : (s.updMail f).now = s.now := rfl
@[simp] theorem State.updMail_regs (s : State) (f : Mail → Mail) : (s.updMail f).regs = s.regs := rfl
@[simp] theorem State.updMail_mem (s : State) (f : Mail → Mail) : (s.updMail f).mem = s.mem := rfl
@[simp] theorem State.updMail_fresh (s : State) (f : Mail → Mail) : (s.updMail f).fresh = s.fresh := rfl
@[simp] theorem State.updMail_rdata (s : State) (f : Mail → Mail) : (s.updMail f).rdata = s.rdata := rfl
@[simp] theorem State.updMail_ident (s : State) (f : Mail → Mail) : (s.updMail f).ident = s.ident := rfl
@[simp] theorem State.updMail_seq (s : State) (f : Mail → Mail) : (s.updMail f).seq = s.seq := rfl
@[simp] theorem State.updMail_time (s : State) (f : Mail → Mail) : (s.updMail f).time = s.time := rfl
@[simp] theorem State.updMail_caps (s : State) (f : Mail → Mail) : (s.updMail f).caps = s.caps := rfl
@[simp] theorem State.updMail_pulses (s : State) (f : Mail → Mail) : (s.updMail f).pulses = s.pulses := rfl
@[simp] theorem State.updMail_lk (s : State) (f : Mail → Mail) : (s.updMail f).lk = s.lk := rfl
@[simp] theorem State.updMail_evts (s : State) (f : Mail → Mail) : (s.updMail f).evts = s.evts := rfl
@[simp] theorem State.updMail_pwr (s : State) (f : Mail → Mail) : (s.updMail f).pwr = s.pwr := rfl
@[simp] theorem State.updMail_ports (s : State) (f : Mail → Mail) : (s.updMail f).ports = s.ports := rfl
@[simp] theorem State.updMail_axes (s : State) (f : Mail → Mail) : (s.updMail f).axes = s.axes := rfl
@[simp] theorem State.updMail_sdclk (s : State) (f : Mail → Mail) : (s.updMail f).sdclk = s.sdclk := rfl
@[simp] theorem State.updMail_filters (s : State) (f : Mail → Mail) : (s.updMail f).filters = s.filters := rfl
@[simp] theorem State.updMail_fbs (s : State) (f : Mail → Mail) : (s.updMail f).fbs = s.fbs := rfl
@[simp] theorem State.updMail_loops (s : State) (f : Mail → Mail) : (s.updMail f).loops = s.loops := rfl
@[simp] theorem State.updMail_arms (s : State) (f : Mail → Mail) : (s.updMail f).arms = s.arms := rfl
@[simp] theorem State.updMail_kiln (s : State) (f : Mail → Mail) : (s.updMail f).kiln = s.kiln := rfl
@[simp] theorem State.updMail_plannerRan (s : State) (f : Mail → Mail) : (s.updMail f).plannerRan = s.plannerRan := rfl
@[simp] theorem State.updMail_planDue (s : State) (f : Mail → Mail) : (s.updMail f).planDue = s.planDue := rfl
@[simp] theorem State.updMail_tiles (s : State) (f : Mail → Mail) : (s.updMail f).tiles = s.tiles := rfl
@[simp] theorem State.updMail_stk (s : State) (f : Mail → Mail) : (s.updMail f).stk = s.stk := rfl
@[simp] theorem State.updMail_pc (s : State) (f : Mail → Mail) : (s.updMail f).pc = s.pc := rfl
@[simp] theorem State.updMail_ic (s : State) (f : Mail → Mail) : (s.updMail f).ic = s.ic := rfl
@[simp] theorem State.updMail_si (s : State) (f : Mail → Mail) : (s.updMail f).si = s.si := rfl
@[simp] theorem State.updMail_eth (s : State) (f : Mail → Mail) : (s.updMail f).eth = s.eth := rfl
@[simp] theorem State.updMail_chain (s : State) (f : Mail → Mail) : (s.updMail f).chain = s.chain := rfl
@[simp] theorem State.updMail_claspA (s : State) (f : Mail → Mail) : (s.updMail f).claspA = s.claspA := rfl
@[simp] theorem State.updMail_claspB (s : State) (f : Mail → Mail) : (s.updMail f).claspB = s.claspB := rfl
@[simp] theorem State.updMail_mb (s : State) (f : Mail → Mail) : (s.updMail f).mb = f s.mb := rfl
@[simp] theorem State.updMail_boot (s : State) (f : Mail → Mail) : (s.updMail f).boot = s.boot := rfl
@[simp] theorem State.updMail_rd (s : State) (f : Mail → Mail) (j : Reg) : (s.updMail f).rd j = s.rd j := rfl
@[simp] theorem State.updMail_get (s : State) (f : Mail → Mail) (j : Field) : (s.updMail f).get j = s.get j := rfl
@[simp] theorem State.updMail_is (s : State) (f : Mail → Mail) (j : Field) : (s.updMail f).is j = s.is j := rfl

@[simp] theorem State.setSlot_pending (s : State) (k : Fin 16) (x : MbSlot) : (s.setSlot k x).pending = s.pending := rfl
@[simp] theorem State.setSlot_now (s : State) (k : Fin 16) (x : MbSlot) : (s.setSlot k x).now = s.now := rfl
@[simp] theorem State.setSlot_regs (s : State) (k : Fin 16) (x : MbSlot) : (s.setSlot k x).regs = s.regs := rfl
@[simp] theorem State.setSlot_mem (s : State) (k : Fin 16) (x : MbSlot) : (s.setSlot k x).mem = s.mem := rfl
@[simp] theorem State.setSlot_fresh (s : State) (k : Fin 16) (x : MbSlot) : (s.setSlot k x).fresh = s.fresh := rfl
@[simp] theorem State.setSlot_rdata (s : State) (k : Fin 16) (x : MbSlot) : (s.setSlot k x).rdata = s.rdata := rfl
@[simp] theorem State.setSlot_ident (s : State) (k : Fin 16) (x : MbSlot) : (s.setSlot k x).ident = s.ident := rfl
@[simp] theorem State.setSlot_seq (s : State) (k : Fin 16) (x : MbSlot) : (s.setSlot k x).seq = s.seq := rfl
@[simp] theorem State.setSlot_time (s : State) (k : Fin 16) (x : MbSlot) : (s.setSlot k x).time = s.time := rfl
@[simp] theorem State.setSlot_caps (s : State) (k : Fin 16) (x : MbSlot) : (s.setSlot k x).caps = s.caps := rfl
@[simp] theorem State.setSlot_pulses (s : State) (k : Fin 16) (x : MbSlot) : (s.setSlot k x).pulses = s.pulses := rfl
@[simp] theorem State.setSlot_lk (s : State) (k : Fin 16) (x : MbSlot) : (s.setSlot k x).lk = s.lk := rfl
@[simp] theorem State.setSlot_evts (s : State) (k : Fin 16) (x : MbSlot) : (s.setSlot k x).evts = s.evts := rfl
@[simp] theorem State.setSlot_pwr (s : State) (k : Fin 16) (x : MbSlot) : (s.setSlot k x).pwr = s.pwr := rfl
@[simp] theorem State.setSlot_ports (s : State) (k : Fin 16) (x : MbSlot) : (s.setSlot k x).ports = s.ports := rfl
@[simp] theorem State.setSlot_axes (s : State) (k : Fin 16) (x : MbSlot) : (s.setSlot k x).axes = s.axes := rfl
@[simp] theorem State.setSlot_sdclk (s : State) (k : Fin 16) (x : MbSlot) : (s.setSlot k x).sdclk = s.sdclk := rfl
@[simp] theorem State.setSlot_filters (s : State) (k : Fin 16) (x : MbSlot) : (s.setSlot k x).filters = s.filters := rfl
@[simp] theorem State.setSlot_fbs (s : State) (k : Fin 16) (x : MbSlot) : (s.setSlot k x).fbs = s.fbs := rfl
@[simp] theorem State.setSlot_loops (s : State) (k : Fin 16) (x : MbSlot) : (s.setSlot k x).loops = s.loops := rfl
@[simp] theorem State.setSlot_arms (s : State) (k : Fin 16) (x : MbSlot) : (s.setSlot k x).arms = s.arms := rfl
@[simp] theorem State.setSlot_kiln (s : State) (k : Fin 16) (x : MbSlot) : (s.setSlot k x).kiln = s.kiln := rfl
@[simp] theorem State.setSlot_plannerRan (s : State) (k : Fin 16) (x : MbSlot) : (s.setSlot k x).plannerRan = s.plannerRan := rfl
@[simp] theorem State.setSlot_planDue (s : State) (k : Fin 16) (x : MbSlot) : (s.setSlot k x).planDue = s.planDue := rfl
@[simp] theorem State.setSlot_tiles (s : State) (k : Fin 16) (x : MbSlot) : (s.setSlot k x).tiles = s.tiles := rfl
@[simp] theorem State.setSlot_stk (s : State) (k : Fin 16) (x : MbSlot) : (s.setSlot k x).stk = s.stk := rfl
@[simp] theorem State.setSlot_pc (s : State) (k : Fin 16) (x : MbSlot) : (s.setSlot k x).pc = s.pc := rfl
@[simp] theorem State.setSlot_ic (s : State) (k : Fin 16) (x : MbSlot) : (s.setSlot k x).ic = s.ic := rfl
@[simp] theorem State.setSlot_si (s : State) (k : Fin 16) (x : MbSlot) : (s.setSlot k x).si = s.si := rfl
@[simp] theorem State.setSlot_eth (s : State) (k : Fin 16) (x : MbSlot) : (s.setSlot k x).eth = s.eth := rfl
@[simp] theorem State.setSlot_chain (s : State) (k : Fin 16) (x : MbSlot) : (s.setSlot k x).chain = s.chain := rfl
@[simp] theorem State.setSlot_claspA (s : State) (k : Fin 16) (x : MbSlot) : (s.setSlot k x).claspA = s.claspA := rfl
@[simp] theorem State.setSlot_claspB (s : State) (k : Fin 16) (x : MbSlot) : (s.setSlot k x).claspB = s.claspB := rfl
@[simp] theorem State.setSlot_boot (s : State) (k : Fin 16) (x : MbSlot) : (s.setSlot k x).boot = s.boot := rfl
@[simp] theorem State.setSlot_rd (s : State) (k : Fin 16) (x : MbSlot) (j : Reg) : (s.setSlot k x).rd j = s.rd j := rfl
@[simp] theorem State.setSlot_get (s : State) (k : Fin 16) (x : MbSlot) (j : Field) : (s.setSlot k x).get j = s.get j := rfl
@[simp] theorem State.setSlot_is (s : State) (k : Fin 16) (x : MbSlot) (j : Field) : (s.setSlot k x).is j = s.is j := rfl

@[simp] theorem State.updPc_pending (s : State) (f : PlaneCtl → PlaneCtl) : (s.updPc f).pending = s.pending := rfl
@[simp] theorem State.updPc_now (s : State) (f : PlaneCtl → PlaneCtl) : (s.updPc f).now = s.now := rfl
@[simp] theorem State.updPc_regs (s : State) (f : PlaneCtl → PlaneCtl) : (s.updPc f).regs = s.regs := rfl
@[simp] theorem State.updPc_mem (s : State) (f : PlaneCtl → PlaneCtl) : (s.updPc f).mem = s.mem := rfl
@[simp] theorem State.updPc_fresh (s : State) (f : PlaneCtl → PlaneCtl) : (s.updPc f).fresh = s.fresh := rfl
@[simp] theorem State.updPc_rdata (s : State) (f : PlaneCtl → PlaneCtl) : (s.updPc f).rdata = s.rdata := rfl
@[simp] theorem State.updPc_ident (s : State) (f : PlaneCtl → PlaneCtl) : (s.updPc f).ident = s.ident := rfl
@[simp] theorem State.updPc_seq (s : State) (f : PlaneCtl → PlaneCtl) : (s.updPc f).seq = s.seq := rfl
@[simp] theorem State.updPc_time (s : State) (f : PlaneCtl → PlaneCtl) : (s.updPc f).time = s.time := rfl
@[simp] theorem State.updPc_caps (s : State) (f : PlaneCtl → PlaneCtl) : (s.updPc f).caps = s.caps := rfl
@[simp] theorem State.updPc_pulses (s : State) (f : PlaneCtl → PlaneCtl) : (s.updPc f).pulses = s.pulses := rfl
@[simp] theorem State.updPc_lk (s : State) (f : PlaneCtl → PlaneCtl) : (s.updPc f).lk = s.lk := rfl
@[simp] theorem State.updPc_evts (s : State) (f : PlaneCtl → PlaneCtl) : (s.updPc f).evts = s.evts := rfl
@[simp] theorem State.updPc_pwr (s : State) (f : PlaneCtl → PlaneCtl) : (s.updPc f).pwr = s.pwr := rfl
@[simp] theorem State.updPc_ports (s : State) (f : PlaneCtl → PlaneCtl) : (s.updPc f).ports = s.ports := rfl
@[simp] theorem State.updPc_axes (s : State) (f : PlaneCtl → PlaneCtl) : (s.updPc f).axes = s.axes := rfl
@[simp] theorem State.updPc_sdclk (s : State) (f : PlaneCtl → PlaneCtl) : (s.updPc f).sdclk = s.sdclk := rfl
@[simp] theorem State.updPc_filters (s : State) (f : PlaneCtl → PlaneCtl) : (s.updPc f).filters = s.filters := rfl
@[simp] theorem State.updPc_fbs (s : State) (f : PlaneCtl → PlaneCtl) : (s.updPc f).fbs = s.fbs := rfl
@[simp] theorem State.updPc_loops (s : State) (f : PlaneCtl → PlaneCtl) : (s.updPc f).loops = s.loops := rfl
@[simp] theorem State.updPc_arms (s : State) (f : PlaneCtl → PlaneCtl) : (s.updPc f).arms = s.arms := rfl
@[simp] theorem State.updPc_kiln (s : State) (f : PlaneCtl → PlaneCtl) : (s.updPc f).kiln = s.kiln := rfl
@[simp] theorem State.updPc_plannerRan (s : State) (f : PlaneCtl → PlaneCtl) : (s.updPc f).plannerRan = s.plannerRan := rfl
@[simp] theorem State.updPc_planDue (s : State) (f : PlaneCtl → PlaneCtl) : (s.updPc f).planDue = s.planDue := rfl
@[simp] theorem State.updPc_tiles (s : State) (f : PlaneCtl → PlaneCtl) : (s.updPc f).tiles = s.tiles := rfl
@[simp] theorem State.updPc_stk (s : State) (f : PlaneCtl → PlaneCtl) : (s.updPc f).stk = s.stk := rfl
@[simp] theorem State.updPc_pc (s : State) (f : PlaneCtl → PlaneCtl) : (s.updPc f).pc = f s.pc := rfl
@[simp] theorem State.updPc_ic (s : State) (f : PlaneCtl → PlaneCtl) : (s.updPc f).ic = s.ic := rfl
@[simp] theorem State.updPc_si (s : State) (f : PlaneCtl → PlaneCtl) : (s.updPc f).si = s.si := rfl
@[simp] theorem State.updPc_eth (s : State) (f : PlaneCtl → PlaneCtl) : (s.updPc f).eth = s.eth := rfl
@[simp] theorem State.updPc_chain (s : State) (f : PlaneCtl → PlaneCtl) : (s.updPc f).chain = s.chain := rfl
@[simp] theorem State.updPc_claspA (s : State) (f : PlaneCtl → PlaneCtl) : (s.updPc f).claspA = s.claspA := rfl
@[simp] theorem State.updPc_claspB (s : State) (f : PlaneCtl → PlaneCtl) : (s.updPc f).claspB = s.claspB := rfl
@[simp] theorem State.updPc_mb (s : State) (f : PlaneCtl → PlaneCtl) : (s.updPc f).mb = s.mb := rfl
@[simp] theorem State.updPc_boot (s : State) (f : PlaneCtl → PlaneCtl) : (s.updPc f).boot = s.boot := rfl
@[simp] theorem State.updPc_rd (s : State) (f : PlaneCtl → PlaneCtl) (j : Reg) : (s.updPc f).rd j = s.rd j := rfl
@[simp] theorem State.updPc_get (s : State) (f : PlaneCtl → PlaneCtl) (j : Field) : (s.updPc f).get j = s.get j := rfl
@[simp] theorem State.updPc_is (s : State) (f : PlaneCtl → PlaneCtl) (j : Field) : (s.updPc f).is j = s.is j := rfl

@[simp] theorem State.updBoot_pending (s : State) (f : BootState → BootState) : (s.updBoot f).pending = s.pending := rfl
@[simp] theorem State.updBoot_now (s : State) (f : BootState → BootState) : (s.updBoot f).now = s.now := rfl
@[simp] theorem State.updBoot_regs (s : State) (f : BootState → BootState) : (s.updBoot f).regs = s.regs := rfl
@[simp] theorem State.updBoot_mem (s : State) (f : BootState → BootState) : (s.updBoot f).mem = s.mem := rfl
@[simp] theorem State.updBoot_fresh (s : State) (f : BootState → BootState) : (s.updBoot f).fresh = s.fresh := rfl
@[simp] theorem State.updBoot_rdata (s : State) (f : BootState → BootState) : (s.updBoot f).rdata = s.rdata := rfl
@[simp] theorem State.updBoot_ident (s : State) (f : BootState → BootState) : (s.updBoot f).ident = s.ident := rfl
@[simp] theorem State.updBoot_seq (s : State) (f : BootState → BootState) : (s.updBoot f).seq = s.seq := rfl
@[simp] theorem State.updBoot_time (s : State) (f : BootState → BootState) : (s.updBoot f).time = s.time := rfl
@[simp] theorem State.updBoot_caps (s : State) (f : BootState → BootState) : (s.updBoot f).caps = s.caps := rfl
@[simp] theorem State.updBoot_pulses (s : State) (f : BootState → BootState) : (s.updBoot f).pulses = s.pulses := rfl
@[simp] theorem State.updBoot_lk (s : State) (f : BootState → BootState) : (s.updBoot f).lk = s.lk := rfl
@[simp] theorem State.updBoot_evts (s : State) (f : BootState → BootState) : (s.updBoot f).evts = s.evts := rfl
@[simp] theorem State.updBoot_pwr (s : State) (f : BootState → BootState) : (s.updBoot f).pwr = s.pwr := rfl
@[simp] theorem State.updBoot_ports (s : State) (f : BootState → BootState) : (s.updBoot f).ports = s.ports := rfl
@[simp] theorem State.updBoot_axes (s : State) (f : BootState → BootState) : (s.updBoot f).axes = s.axes := rfl
@[simp] theorem State.updBoot_sdclk (s : State) (f : BootState → BootState) : (s.updBoot f).sdclk = s.sdclk := rfl
@[simp] theorem State.updBoot_filters (s : State) (f : BootState → BootState) : (s.updBoot f).filters = s.filters := rfl
@[simp] theorem State.updBoot_fbs (s : State) (f : BootState → BootState) : (s.updBoot f).fbs = s.fbs := rfl
@[simp] theorem State.updBoot_loops (s : State) (f : BootState → BootState) : (s.updBoot f).loops = s.loops := rfl
@[simp] theorem State.updBoot_arms (s : State) (f : BootState → BootState) : (s.updBoot f).arms = s.arms := rfl
@[simp] theorem State.updBoot_kiln (s : State) (f : BootState → BootState) : (s.updBoot f).kiln = s.kiln := rfl
@[simp] theorem State.updBoot_plannerRan (s : State) (f : BootState → BootState) : (s.updBoot f).plannerRan = s.plannerRan := rfl
@[simp] theorem State.updBoot_planDue (s : State) (f : BootState → BootState) : (s.updBoot f).planDue = s.planDue := rfl
@[simp] theorem State.updBoot_tiles (s : State) (f : BootState → BootState) : (s.updBoot f).tiles = s.tiles := rfl
@[simp] theorem State.updBoot_stk (s : State) (f : BootState → BootState) : (s.updBoot f).stk = s.stk := rfl
@[simp] theorem State.updBoot_pc (s : State) (f : BootState → BootState) : (s.updBoot f).pc = s.pc := rfl
@[simp] theorem State.updBoot_ic (s : State) (f : BootState → BootState) : (s.updBoot f).ic = s.ic := rfl
@[simp] theorem State.updBoot_si (s : State) (f : BootState → BootState) : (s.updBoot f).si = s.si := rfl
@[simp] theorem State.updBoot_eth (s : State) (f : BootState → BootState) : (s.updBoot f).eth = s.eth := rfl
@[simp] theorem State.updBoot_chain (s : State) (f : BootState → BootState) : (s.updBoot f).chain = s.chain := rfl
@[simp] theorem State.updBoot_claspA (s : State) (f : BootState → BootState) : (s.updBoot f).claspA = s.claspA := rfl
@[simp] theorem State.updBoot_claspB (s : State) (f : BootState → BootState) : (s.updBoot f).claspB = s.claspB := rfl
@[simp] theorem State.updBoot_mb (s : State) (f : BootState → BootState) : (s.updBoot f).mb = s.mb := rfl
@[simp] theorem State.updBoot_boot (s : State) (f : BootState → BootState) : (s.updBoot f).boot = f s.boot := rfl
@[simp] theorem State.updBoot_rd (s : State) (f : BootState → BootState) (j : Reg) : (s.updBoot f).rd j = s.rd j := rfl
@[simp] theorem State.updBoot_get (s : State) (f : BootState → BootState) (j : Field) : (s.updBoot f).get j = s.get j := rfl
@[simp] theorem State.updBoot_is (s : State) (f : BootState → BootState) (j : Field) : (s.updBoot f).is j = s.is j := rfl

@[simp] theorem State.updUpd_pending (s : State) (f : Update → Update) : (s.updUpd f).pending = s.pending := rfl
@[simp] theorem State.updUpd_now (s : State) (f : Update → Update) : (s.updUpd f).now = s.now := rfl
@[simp] theorem State.updUpd_regs (s : State) (f : Update → Update) : (s.updUpd f).regs = s.regs := rfl
@[simp] theorem State.updUpd_mem (s : State) (f : Update → Update) : (s.updUpd f).mem = s.mem := rfl
@[simp] theorem State.updUpd_fresh (s : State) (f : Update → Update) : (s.updUpd f).fresh = s.fresh := rfl
@[simp] theorem State.updUpd_rdata (s : State) (f : Update → Update) : (s.updUpd f).rdata = s.rdata := rfl
@[simp] theorem State.updUpd_ident (s : State) (f : Update → Update) : (s.updUpd f).ident = s.ident := rfl
@[simp] theorem State.updUpd_seq (s : State) (f : Update → Update) : (s.updUpd f).seq = s.seq := rfl
@[simp] theorem State.updUpd_time (s : State) (f : Update → Update) : (s.updUpd f).time = s.time := rfl
@[simp] theorem State.updUpd_caps (s : State) (f : Update → Update) : (s.updUpd f).caps = s.caps := rfl
@[simp] theorem State.updUpd_pulses (s : State) (f : Update → Update) : (s.updUpd f).pulses = s.pulses := rfl
@[simp] theorem State.updUpd_lk (s : State) (f : Update → Update) : (s.updUpd f).lk = s.lk := rfl
@[simp] theorem State.updUpd_evts (s : State) (f : Update → Update) : (s.updUpd f).evts = s.evts := rfl
@[simp] theorem State.updUpd_pwr (s : State) (f : Update → Update) : (s.updUpd f).pwr = s.pwr := rfl
@[simp] theorem State.updUpd_ports (s : State) (f : Update → Update) : (s.updUpd f).ports = s.ports := rfl
@[simp] theorem State.updUpd_axes (s : State) (f : Update → Update) : (s.updUpd f).axes = s.axes := rfl
@[simp] theorem State.updUpd_sdclk (s : State) (f : Update → Update) : (s.updUpd f).sdclk = s.sdclk := rfl
@[simp] theorem State.updUpd_filters (s : State) (f : Update → Update) : (s.updUpd f).filters = s.filters := rfl
@[simp] theorem State.updUpd_fbs (s : State) (f : Update → Update) : (s.updUpd f).fbs = s.fbs := rfl
@[simp] theorem State.updUpd_loops (s : State) (f : Update → Update) : (s.updUpd f).loops = s.loops := rfl
@[simp] theorem State.updUpd_arms (s : State) (f : Update → Update) : (s.updUpd f).arms = s.arms := rfl
@[simp] theorem State.updUpd_kiln (s : State) (f : Update → Update) : (s.updUpd f).kiln = s.kiln := rfl
@[simp] theorem State.updUpd_plannerRan (s : State) (f : Update → Update) : (s.updUpd f).plannerRan = s.plannerRan := rfl
@[simp] theorem State.updUpd_planDue (s : State) (f : Update → Update) : (s.updUpd f).planDue = s.planDue := rfl
@[simp] theorem State.updUpd_tiles (s : State) (f : Update → Update) : (s.updUpd f).tiles = s.tiles := rfl
@[simp] theorem State.updUpd_stk (s : State) (f : Update → Update) : (s.updUpd f).stk = s.stk := rfl
@[simp] theorem State.updUpd_pc (s : State) (f : Update → Update) : (s.updUpd f).pc = s.pc := rfl
@[simp] theorem State.updUpd_ic (s : State) (f : Update → Update) : (s.updUpd f).ic = s.ic := rfl
@[simp] theorem State.updUpd_si (s : State) (f : Update → Update) : (s.updUpd f).si = s.si := rfl
@[simp] theorem State.updUpd_eth (s : State) (f : Update → Update) : (s.updUpd f).eth = s.eth := rfl
@[simp] theorem State.updUpd_chain (s : State) (f : Update → Update) : (s.updUpd f).chain = s.chain := rfl
@[simp] theorem State.updUpd_claspA (s : State) (f : Update → Update) : (s.updUpd f).claspA = s.claspA := rfl
@[simp] theorem State.updUpd_claspB (s : State) (f : Update → Update) : (s.updUpd f).claspB = s.claspB := rfl
@[simp] theorem State.updUpd_mb (s : State) (f : Update → Update) : (s.updUpd f).mb = s.mb := rfl
@[simp] theorem State.updUpd_rd (s : State) (f : Update → Update) (j : Reg) : (s.updUpd f).rd j = s.rd j := rfl
@[simp] theorem State.updUpd_get (s : State) (f : Update → Update) (j : Field) : (s.updUpd f).get j = s.get j := rfl
@[simp] theorem State.updUpd_is (s : State) (f : Update → Update) (j : Field) : (s.updUpd f).is j = s.is j := rfl

@[simp] theorem State.updPwr_pending (s : State) (f : Power → Power) : (s.updPwr f).pending = s.pending := rfl
@[simp] theorem State.updPwr_now (s : State) (f : Power → Power) : (s.updPwr f).now = s.now := rfl
@[simp] theorem State.updPwr_regs (s : State) (f : Power → Power) : (s.updPwr f).regs = s.regs := rfl
@[simp] theorem State.updPwr_mem (s : State) (f : Power → Power) : (s.updPwr f).mem = s.mem := rfl
@[simp] theorem State.updPwr_fresh (s : State) (f : Power → Power) : (s.updPwr f).fresh = s.fresh := rfl
@[simp] theorem State.updPwr_rdata (s : State) (f : Power → Power) : (s.updPwr f).rdata = s.rdata := rfl
@[simp] theorem State.updPwr_ident (s : State) (f : Power → Power) : (s.updPwr f).ident = s.ident := rfl
@[simp] theorem State.updPwr_seq (s : State) (f : Power → Power) : (s.updPwr f).seq = s.seq := rfl
@[simp] theorem State.updPwr_time (s : State) (f : Power → Power) : (s.updPwr f).time = s.time := rfl
@[simp] theorem State.updPwr_caps (s : State) (f : Power → Power) : (s.updPwr f).caps = s.caps := rfl
@[simp] theorem State.updPwr_pulses (s : State) (f : Power → Power) : (s.updPwr f).pulses = s.pulses := rfl
@[simp] theorem State.updPwr_lk (s : State) (f : Power → Power) : (s.updPwr f).lk = s.lk := rfl
@[simp] theorem State.updPwr_evts (s : State) (f : Power → Power) : (s.updPwr f).evts = s.evts := rfl
@[simp] theorem State.updPwr_pwr (s : State) (f : Power → Power) : (s.updPwr f).pwr = f s.pwr := rfl
@[simp] theorem State.updPwr_ports (s : State) (f : Power → Power) : (s.updPwr f).ports = s.ports := rfl
@[simp] theorem State.updPwr_axes (s : State) (f : Power → Power) : (s.updPwr f).axes = s.axes := rfl
@[simp] theorem State.updPwr_sdclk (s : State) (f : Power → Power) : (s.updPwr f).sdclk = s.sdclk := rfl
@[simp] theorem State.updPwr_filters (s : State) (f : Power → Power) : (s.updPwr f).filters = s.filters := rfl
@[simp] theorem State.updPwr_fbs (s : State) (f : Power → Power) : (s.updPwr f).fbs = s.fbs := rfl
@[simp] theorem State.updPwr_loops (s : State) (f : Power → Power) : (s.updPwr f).loops = s.loops := rfl
@[simp] theorem State.updPwr_arms (s : State) (f : Power → Power) : (s.updPwr f).arms = s.arms := rfl
@[simp] theorem State.updPwr_kiln (s : State) (f : Power → Power) : (s.updPwr f).kiln = s.kiln := rfl
@[simp] theorem State.updPwr_plannerRan (s : State) (f : Power → Power) : (s.updPwr f).plannerRan = s.plannerRan := rfl
@[simp] theorem State.updPwr_planDue (s : State) (f : Power → Power) : (s.updPwr f).planDue = s.planDue := rfl
@[simp] theorem State.updPwr_tiles (s : State) (f : Power → Power) : (s.updPwr f).tiles = s.tiles := rfl
@[simp] theorem State.updPwr_stk (s : State) (f : Power → Power) : (s.updPwr f).stk = s.stk := rfl
@[simp] theorem State.updPwr_pc (s : State) (f : Power → Power) : (s.updPwr f).pc = s.pc := rfl
@[simp] theorem State.updPwr_ic (s : State) (f : Power → Power) : (s.updPwr f).ic = s.ic := rfl
@[simp] theorem State.updPwr_si (s : State) (f : Power → Power) : (s.updPwr f).si = s.si := rfl
@[simp] theorem State.updPwr_eth (s : State) (f : Power → Power) : (s.updPwr f).eth = s.eth := rfl
@[simp] theorem State.updPwr_chain (s : State) (f : Power → Power) : (s.updPwr f).chain = s.chain := rfl
@[simp] theorem State.updPwr_claspA (s : State) (f : Power → Power) : (s.updPwr f).claspA = s.claspA := rfl
@[simp] theorem State.updPwr_claspB (s : State) (f : Power → Power) : (s.updPwr f).claspB = s.claspB := rfl
@[simp] theorem State.updPwr_mb (s : State) (f : Power → Power) : (s.updPwr f).mb = s.mb := rfl
@[simp] theorem State.updPwr_boot (s : State) (f : Power → Power) : (s.updPwr f).boot = s.boot := rfl
@[simp] theorem State.updPwr_rd (s : State) (f : Power → Power) (j : Reg) : (s.updPwr f).rd j = s.rd j := rfl
@[simp] theorem State.updPwr_get (s : State) (f : Power → Power) (j : Field) : (s.updPwr f).get j = s.get j := rfl
@[simp] theorem State.updPwr_is (s : State) (f : Power → Power) (j : Field) : (s.updPwr f).is j = s.is j := rfl

@[simp] theorem State.withPending_pending (s : State) (q : List Instr) : (s.withPending q).pending = q := rfl
@[simp] theorem State.withPending_now (s : State) (q : List Instr) : (s.withPending q).now = s.now := rfl
@[simp] theorem State.withPending_regs (s : State) (q : List Instr) : (s.withPending q).regs = s.regs := rfl
@[simp] theorem State.withPending_mem (s : State) (q : List Instr) : (s.withPending q).mem = s.mem := rfl
@[simp] theorem State.withPending_fresh (s : State) (q : List Instr) : (s.withPending q).fresh = s.fresh := rfl
@[simp] theorem State.withPending_rdata (s : State) (q : List Instr) : (s.withPending q).rdata = s.rdata := rfl
@[simp] theorem State.withPending_ident (s : State) (q : List Instr) : (s.withPending q).ident = s.ident := rfl
@[simp] theorem State.withPending_seq (s : State) (q : List Instr) : (s.withPending q).seq = s.seq := rfl
@[simp] theorem State.withPending_time (s : State) (q : List Instr) : (s.withPending q).time = s.time := rfl
@[simp] theorem State.withPending_caps (s : State) (q : List Instr) : (s.withPending q).caps = s.caps := rfl
@[simp] theorem State.withPending_pulses (s : State) (q : List Instr) : (s.withPending q).pulses = s.pulses := rfl
@[simp] theorem State.withPending_lk (s : State) (q : List Instr) : (s.withPending q).lk = s.lk := rfl
@[simp] theorem State.withPending_evts (s : State) (q : List Instr) : (s.withPending q).evts = s.evts := rfl
@[simp] theorem State.withPending_pwr (s : State) (q : List Instr) : (s.withPending q).pwr = s.pwr := rfl
@[simp] theorem State.withPending_ports (s : State) (q : List Instr) : (s.withPending q).ports = s.ports := rfl
@[simp] theorem State.withPending_axes (s : State) (q : List Instr) : (s.withPending q).axes = s.axes := rfl
@[simp] theorem State.withPending_sdclk (s : State) (q : List Instr) : (s.withPending q).sdclk = s.sdclk := rfl
@[simp] theorem State.withPending_filters (s : State) (q : List Instr) : (s.withPending q).filters = s.filters := rfl
@[simp] theorem State.withPending_fbs (s : State) (q : List Instr) : (s.withPending q).fbs = s.fbs := rfl
@[simp] theorem State.withPending_loops (s : State) (q : List Instr) : (s.withPending q).loops = s.loops := rfl
@[simp] theorem State.withPending_arms (s : State) (q : List Instr) : (s.withPending q).arms = s.arms := rfl
@[simp] theorem State.withPending_kiln (s : State) (q : List Instr) : (s.withPending q).kiln = s.kiln := rfl
@[simp] theorem State.withPending_plannerRan (s : State) (q : List Instr) : (s.withPending q).plannerRan = s.plannerRan := rfl
@[simp] theorem State.withPending_planDue (s : State) (q : List Instr) : (s.withPending q).planDue = s.planDue := rfl
@[simp] theorem State.withPending_tiles (s : State) (q : List Instr) : (s.withPending q).tiles = s.tiles := rfl
@[simp] theorem State.withPending_stk (s : State) (q : List Instr) : (s.withPending q).stk = s.stk := rfl
@[simp] theorem State.withPending_pc (s : State) (q : List Instr) : (s.withPending q).pc = s.pc := rfl
@[simp] theorem State.withPending_ic (s : State) (q : List Instr) : (s.withPending q).ic = s.ic := rfl
@[simp] theorem State.withPending_si (s : State) (q : List Instr) : (s.withPending q).si = s.si := rfl
@[simp] theorem State.withPending_eth (s : State) (q : List Instr) : (s.withPending q).eth = s.eth := rfl
@[simp] theorem State.withPending_chain (s : State) (q : List Instr) : (s.withPending q).chain = s.chain := rfl
@[simp] theorem State.withPending_claspA (s : State) (q : List Instr) : (s.withPending q).claspA = s.claspA := rfl
@[simp] theorem State.withPending_claspB (s : State) (q : List Instr) : (s.withPending q).claspB = s.claspB := rfl
@[simp] theorem State.withPending_mb (s : State) (q : List Instr) : (s.withPending q).mb = s.mb := rfl
@[simp] theorem State.withPending_boot (s : State) (q : List Instr) : (s.withPending q).boot = s.boot := rfl
@[simp] theorem State.withPending_rd (s : State) (q : List Instr) (j : Reg) : (s.withPending q).rd j = s.rd j := rfl
@[simp] theorem State.withPending_get (s : State) (q : List Instr) (j : Field) : (s.withPending q).get j = s.get j := rfl
@[simp] theorem State.withPending_is (s : State) (q : List Instr) (j : Field) : (s.withPending q).is j = s.is j := rfl

end Sys2Proof.Machine
end

