-- ==== Sys2Proof/Laws/Issue.lean ====
section
/-! SUPPORT. What issuing an instruction does: the gate lets it through, and its effect, the program counter and the pipeline are all that
moves. One lemma for instructions that change their tile alone, one for memory operands, one for stores. -/

namespace Sys2Proof.Machine

open Sys2Proof

@[simp] theorem State.tile_setTile (s : State) (t : Fin 32) (x : Tile) : (s.setTile t x).tile t = x := tget_tset_same _ _ _ _

theorem State.tile_setTile_ne (s : State) {t i : Fin 32} (x : Tile) (h : i ≠ t) : (s.setTile t x).tile i = s.tile i := tget_tset_ne _ _ _ h

theorem tset_tset {K V : Type} [DecidableEq K] (t : List (K × V)) (k : K) (v w : V) : tset (tset t k v) k w = tset t k w := by
  induction t with
  | nil => simp [tset]
  | cons q r ih =>
    obtain ⟨a, b⟩ := q
    by_cases h : a = k <;> simp [tset, h, ih]

@[simp] theorem State.setTile_setTile (s : State) (t : Fin 32) (x y : Tile) : (s.setTile t x).setTile t y = s.setTile t y := by
  unfold State.setTile
  dsimp only
  rw [tset_tset]

theorem State.setTile_same (s : State) (t : Fin 32) (x : Tile) : s.sameBut [.tiles] (s.setTile t x) := by
  intro p hp
  cases p with
  | tiles => exact absurd (List.mem_singleton.mpr rfl) hp
  | reg g => exact fun _ _ => rfl
  | _ => rfl

theorem State.sameBut_trans {l : List Part} {s t u : State} (h : s.sameBut l t) (i : t.sameBut l u) : s.sameBut l u := fun p hp =>
  Part.same_trans (h p hp) (i p hp)

theorem State.canIssue.rep {s : State} {t : Fin 32} {mx : Bool} {size : Nat} (hc : s.canIssue t mx size) :
    s.setTile t { s.tile t with rep := none } = s.setTile t (s.tile t) := by
  have h : ({ s.tile t with rep := none } : Tile) = s.tile t := by rw [← hc.2.2.2.2.2]
  rw [h]

theorem State.gate_of {s : State} {t : Fin 32} {mx forb : Bool} {size : Nat} {k : State → State} (hc : s.canIssue t mx size) :
    s.gate t mx forb size k = k s := by
  obtain ⟨c1, c2, c3, c4, c6, c7⟩ := hc
  obtain ⟨n, hn⟩ := Option.isSome_iff_exists.mp c1
  unfold State.gate
  simp only [hn, c2, c4, if_false, c3, ne_eq, not_true, c6, c7, Option.isSome_none, Bool.or_self, Bool.and_false, Bool.false_eq_true]

/-- An instruction that may issue and leaves its tile running and unfrozen: its effect, then the program counter, then the pipeline. -/
theorem State.issue_of {s v : State} {t : Fin 32} {mx forb : Bool} {size cycles : Nat} {f : State → State} (hc : s.canIssue t mx size)
    (hf : f (s.setTile t (s.tile t)) = v) (h1 : (v.tile t).task.isSome = true) (h2 : (v.tile t).wait = none) :
    s.issue t mx forb size cycles f = (v.setTile t { v.tile t with pc := (v.tile t).pc + size }).ticks t cycles := by
  unfold State.issue
  rw [State.gate_of hc, hc.2.2.2.2.1, hc.2.2.2.2.2]
  simp only [Option.getD_none, Nat.sub_self, State.runN]
  rw [hc.rep, hf]
  have e1 : (v.tile t).task.isNone = false := by simpa [Option.isNone_eq_false_iff] using h1
  simp only [e1, Bool.false_eq_true, if_false, State.advanceTile, State.tile_setTile, h2, Option.isSome_none]

/-- An instruction whose effect is on its tile alone. -/
theorem State.issued_of {s : State} {t : Fin 32} {mx forb : Bool} {size cycles : Nat} {f : State → State} {g : Tile → Tile} (hc : s.canIssue t mx size)
    (hf : f (s.setTile t (s.tile t)) = (s.setTile t (s.tile t)).setTile t (g (s.tile t)))
    (h1 : (g (s.tile t)).task = (s.tile t).task) (h2 : (g (s.tile t)).wait = (s.tile t).wait) (h3 : (g (s.tile t)).pc = (s.tile t).pc) :
    s.issued (s.issue t mx forb size cycles f) t size cycles g := by
  rw [State.issue_of hc hf (by rw [State.tile_setTile, h1]; exact hc.1) (by rw [State.tile_setTile, h2]; exact hc.2.1)]
  refine ⟨?_, ?_, ?_⟩
  · simp only [State.ticks, State.tile_setTile, h3]
  · intro i hi
    simp only [State.ticks, State.tile_setTile_ne _ _ hi]
  · exact State.sameBut_trans (State.sameBut_trans (State.sameBut_trans (State.setTile_same _ _ _) (State.setTile_same _ _ _))
      (State.setTile_same _ _ _)) (State.setTile_same _ _ _)

theorem State.opnd_of {s : State} {t : Fin 32} {a : Addr} {n : Nat} {read : Bool} (h : s.reaches t a n read) : s.opnd t a n = .words (s.operand t a n) := by
  have hp : ¬ 0x10000000 ≤ a.at_.toNat := Nat.not_le.mpr h.2
  unfold State.opnd State.operand
  rw [if_neg hp]

/-- A read of one operand in the tile's own memory. -/
theorem State.access_of {s : State} {t : Fin 32} {lat : Nat} {act : MemAct} {a : Addr} {n : Nat} (h : s.reaches t a n true) :
    s.access t lat act a n none = (s.queue t a.writes).queue t (act.writes (s.tile t) lat (s.operand t a n) []) := by
  unfold State.access
  simp only [h.1, State.opnd_of h, List.append_nil]

/-- A read of two operands in the tile's own memory. -/
theorem State.access_two {s : State} {t : Fin 32} {lat : Nat} {act : MemAct} {a c : Addr} {n m : Nat} (h : s.reaches t a n true) (k : s.reaches t c m true) :
    s.access t lat act a n (some (c, m)) = (s.queue t (a.writes ++ c.writes)).queue t (act.writes (s.tile t) lat (s.operand t a n) (s.operand t c m)) := by
  unfold State.access
  simp only [h.1, k.1, State.opnd_of h, State.opnd_of k]

theorem State.reaches_setTile {s : State} {t : Fin 32} {a : Addr} {n : Nat} {read : Bool} (h : s.reaches t a n read) :
    (s.setTile t (s.tile t)).reaches t a n read := by
  unfold State.reaches
  rw [State.tile_setTile]
  exact h

theorem State.operand_setTile (s : State) (t : Fin 32) (a : Addr) (n : Nat) : (s.setTile t (s.tile t)).operand t a n = s.operand t a n := by
  unfold State.operand
  rw [State.tile_setTile]
  rfl

theorem leBytes_length (n x : Nat) : (leBytes n x).length = n := by
  induction n generalizing x with
  | zero => rfl
  | succ n ih => simp [leBytes, ih]

theorem ofLeBytes_leBytes (n x : Nat) : ofLeBytes (leBytes n x) = x % 256 ^ n := by
  induction n generalizing x with
  | zero => simp [leBytes, ofLeBytes, Nat.mod_one]
  | succ n ih =>
    have e : x % 256 ^ (n + 1) = x % 256 + 256 * (x / 256 % 256 ^ n) := by rw [Nat.pow_succ', Nat.mod_mul]
    simp only [leBytes, ofLeBytes, ih, BitVec.toNat_ofNat, e]

theorem memReadN_memWriteN (bs : List Byte) : ∀ (m : List Host.Cell) (a : Nat), Memory.wf m → memReadN (memWriteN m a bs) a bs.length = bs := by
  induction bs with
  | nil => intro m a _; rfl
  | cons b r ih =>
    intro m a h
    simp only [memWriteN, List.length_cons, memReadN]
    rw [ih _ _ (memWrite_wf m a b h), memRead_memWriteN_out _ _ _ _ (.inl (Nat.lt_succ_self a)), memRead_memWrite_same m h]

theorem memReadN_congr {m k : List Host.Cell} (n : Nat) : ∀ (a : Nat), (∀ c, a ≤ c → c < a + n → memRead m c = memRead k c) → memReadN m a n = memReadN k a n := by
  induction n with
  | zero => intro a _; rfl
  | succ n ih =>
    intro a h
    simp only [memReadN]
    rw [h a (Nat.le_refl a) (by omega), ih (a + 1) (fun c h1 h2 => h c (by omega) (by omega))]

/-- A memory with words written at addresses above a base. -/
def storeMem (base : Nat) (m : List Host.Cell) (l : List (Nat × Word)) : List Host.Cell :=
  l.foldl (fun m q => memWriteN m (base + q.1) (leBytes 4 q.2.toNat)) m

theorem storeMem_wf (base : Nat) (l : List (Nat × Word)) : ∀ m, Memory.wf m → Memory.wf (storeMem base m l) := by
  induction l with
  | nil => intro m h; exact h
  | cons q r ih => intro m h; exact ih _ (memWriteN_wf _ _ _ h)

theorem storeMem_out (base : Nat) (l : List (Nat × Word)) : ∀ (m : List Host.Cell) (b : Nat), (∀ q ∈ l, b < base + q.1 ∨ base + q.1 + 4 ≤ b) →
    memRead (storeMem base m l) b = memRead m b := by
  induction l with
  | nil => intro m b _; rfl
  | cons q r ih =>
    intro m b h
    show memRead (storeMem base (memWriteN m (base + q.1) (leBytes 4 q.2.toNat)) r) b = _
    rw [ih _ _ (fun x hx => h x (List.mem_cons_of_mem _ hx)),
      memRead_memWriteN_out _ _ _ _ (by rw [leBytes_length]; exact h q List.mem_cons_self)]

theorem storeMem_in (base : Nat) (l : List (Nat × Word)) : ∀ (m : List Host.Cell), Memory.wf m → (l.map Prod.fst).Pairwise (fun p q => p + 4 ≤ q ∨ q + 4 ≤ p) →
    ∀ q ∈ l, memReadN (storeMem base m l) (base + q.1) 4 = leBytes 4 q.2.toNat := by
  induction l with
  | nil => intro m _ _ q hq; cases hq
  | cons x r ih =>
    intro m h hp q hq
    rw [List.map_cons, List.pairwise_cons] at hp
    rcases List.mem_cons.mp hq with e | e
    · subst e
      show memReadN (storeMem base (memWriteN m (base + q.1) (leBytes 4 q.2.toNat)) r) (base + q.1) 4 = _
      rw [memReadN_congr 4 _ (k := memWriteN m (base + q.1) (leBytes 4 q.2.toNat))]
      · have := memReadN_memWriteN (leBytes 4 q.2.toNat) m (base + q.1) h
        rwa [leBytes_length] at this
      · intro c h1 h2
        refine storeMem_out base r _ c (fun y hy => ?_)
        have := hp.1 y.1 (List.mem_map_of_mem hy)
        omega
    · exact ih _ (memWriteN_wf _ _ _ h) hp.2 q e

theorem foldl_mput (base : Nat) (l : List (Nat × Word)) : ∀ s : State,
    l.foldl (fun (s : State) (q : Nat × Word) => s.mput (base + q.1) q.2) s = { s with mem := storeMem base s.mem l } := by
  induction l with
  | nil => intro s; rfl
  | cons q r ih => intro s; exact ih _

theorem tileBase_apart {i j : Fin 32} (h : i ≠ j) : tileBase i + 2 ^ 19 ≤ tileBase j ∨ tileBase j + 2 ^ 19 ≤ tileBase i := by
  have : i.val ≠ j.val := fun e => h (Fin.ext e)
  unfold tileBase
  omega

theorem otherTile_ne (t : Fin 32) : tileOf (1 - planeOf t) (tileNo t) ≠ t := by
  revert t
  decide

/-- Tile t given a state, and the errors of stored words cleared in the other tile that a store reaches. -/
def State.storeClears (s : State) (t : Fin 32) (qs : List Nat) (x : Tile) : State :=
  let u := tileOf (1 - planeOf t) (tileNo t)
  if s.mirrored (planeOf t) then (s.setTile t x).setTile u { s.tile u with bad := (s.tile u).bad.filter (fun q => decide (q ∉ qs)) } else s.setTile t x

@[simp] theorem State.storeClears_tile (s : State) (t : Fin 32) (qs : List Nat) (x : Tile) : (s.storeClears t qs x).tile t = x := by
  unfold State.storeClears
  dsimp only
  split
  · rw [State.tile_setTile_ne _ _ (Ne.symm (otherTile_ne t)), State.tile_setTile]
  · rw [State.tile_setTile]

theorem State.storeClears_tile_ne (s : State) {t i : Fin 32} (qs : List Nat) (x : Tile) (h : i ≠ t) : (s.storeClears t qs x).tile i =
    if i ∈ s.storeTiles t then { s.tile i with bad := (s.tile i).bad.filter (fun q => decide (q ∉ qs)) } else s.tile i := by
  unfold State.storeClears State.storeTiles
  dsimp only
  split
  · by_cases e : i = tileOf (1 - planeOf t) (tileNo t)
    · subst e
      simp
    · rw [State.tile_setTile_ne _ _ e, State.tile_setTile_ne _ _ h]
      simp [h, e]
  · rw [State.tile_setTile_ne _ _ h]
    simp [h]

theorem State.storeClears_same (s : State) (t : Fin 32) (qs : List Nat) (x : Tile) : s.sameBut [.tiles] (s.storeClears t qs x) := by
  unfold State.storeClears
  dsimp only
  split
  · exact State.sameBut_trans (State.setTile_same _ _ _) (State.setTile_same _ _ _)
  · exact State.setTile_same _ _ _

/-- The tile and the memory after a store in the tile's own memory. -/
theorem State.storeWords_of {s : State} {t : Fin 32} {a : Addr} {ws : List Word} (h : s.reaches t a ws.length false) :
    s.storeWords t a ws =
      { s.storeClears t ((s.tile t).wordAddrs a ws.length) { (s.tile t).queue a.writes with
          bad := (s.tile t).bad.filter (fun q => decide (q ∉ (s.tile t).wordAddrs a ws.length)) } with
        mem := (s.storeTiles t).foldl (fun m i => storeMem (tileBase i) m (((s.tile t).wordAddrs a ws.length).zip ws)) s.mem } := by
  have hp : ¬ 0x10000000 ≤ a.at_.toNat := Nat.not_le.mpr h.2
  have hq : ∀ x : Tile, (x.queue a.writes).wordAddrs a ws.length = x.wordAddrs a ws.length := fun _ => rfl
  unfold State.storeWords
  simp only [h.1, if_neg hp, State.queue, State.tile_setTile, State.setTile_setTile, hq, foldl_mput]
  unfold State.storeTiles State.storeClears
  have hm : ∀ (x : Tile) (m : List Host.Cell), State.mirrored { s.setTile t x with mem := m } (planeOf t) = s.mirrored (planeOf t) := fun _ _ => rfl
  rw [hm]
  cases s.mirrored (planeOf t)
  · rfl
  · have ht : ∀ (x : Tile) (m : List Host.Cell), State.tile { s.setTile t x with mem := m } (tileOf (1 - planeOf t) (tileNo t)) = s.tile (tileOf (1 - planeOf t) (tileNo t)) :=
      fun x m => State.tile_setTile_ne s x (otherTile_ne t)
    simp only [if_true, ht]
    rfl

theorem Tile.wordAddrs_length (x : Tile) (a : Addr) (n : Nat) : (x.wordAddrs a n).length = n := by
  simp [Tile.wordAddrs]

theorem State.reaches.lt {s : State} {t : Fin 32} {a : Addr} {n : Nat} {read : Bool} (h : s.reaches t a n read) :
    ∀ q ∈ (s.tile t).wordAddrs a n, q < 0x40000 := by
  intro q hq
  have h1 := h.1
  unfold Tile.accessFault at h1
  have hp : ¬ 0x10000000 ≤ a.at_.toNat := Nat.not_le.mpr h.2
  by_contra hc
  have hw : ((s.tile t).wordAddrs a n).any (fun q => decide (0x40000 ≤ q)) = true :=
    List.any_eq_true.mpr ⟨q, hq, decide_eq_true (Nat.le_of_not_lt hc)⟩
  simp only [hw, if_neg hp, if_true] at h1
  split at h1 <;> cases h1

/-- The words stored by a list of tiles, each at its own base, read back; every other byte is as before. -/
theorem storeTiles_mem (s : State) (t : Fin 32) (qs : List Nat) (ws : List Word) (hl : qs.length = ws.length) (hlt : ∀ q ∈ qs, q < 0x40000) :
    (Memory.wf s.mem → qs.Pairwise (fun p q => p + 4 ≤ q ∨ q + 4 ≤ p) → ∀ i ∈ s.storeTiles t, ∀ p ∈ qs.zip ws,
      memReadN ((s.storeTiles t).foldl (fun m i => storeMem (tileBase i) m (qs.zip ws)) s.mem) (tileBase i + p.1) 4 = leBytes 4 p.2.toNat)
    ∧ ∀ b, (∀ i ∈ s.storeTiles t, ∀ q ∈ qs, b < tileBase i + q ∨ tileBase i + q + 4 ≤ b) →
      memRead ((s.storeTiles t).foldl (fun m i => storeMem (tileBase i) m (qs.zip ws)) s.mem) b = memRead s.mem b := by
  have hz : (qs.zip ws).map Prod.fst = qs := List.map_fst_zip (Nat.le_of_eq hl)
  have hmem : ∀ p ∈ qs.zip ws, p.1 ∈ qs := fun p hp => by rw [← hz]; exact List.mem_map_of_mem hp
  unfold State.storeTiles
  cases hmi : s.mirrored (planeOf t)
  · simp only [Bool.false_eq_true, if_false, List.foldl, List.mem_singleton, forall_eq]
    exact ⟨fun hw hp p hpz => storeMem_in _ _ _ hw (by rw [hz]; exact hp) p hpz, fun b hb => storeMem_out _ _ _ _ (fun q hq => hb _ (hmem q hq))⟩
  · simp only [if_true, List.foldl]
    have hne := otherTile_ne t
    generalize tileOf (1 - planeOf t) (tileNo t) = o at hne ⊢
    refine ⟨fun hw hp i hi p hpz => ?_, fun b hb => ?_⟩
    · rcases List.mem_cons.mp hi with e | e
      · subst e
        show memReadN (storeMem (tileBase o) (storeMem (tileBase i) s.mem (qs.zip ws)) (qs.zip ws)) _ 4 = _
        rw [memReadN_congr 4 _ (k := storeMem (tileBase i) s.mem (qs.zip ws))]
        · exact storeMem_in _ _ _ hw (by rw [hz]; exact hp) p hpz
        · intro c h1 h2
          refine storeMem_out _ _ _ _ (fun x hx => ?_)
          have h3 := hlt _ (hmem x hx)
          have h4 := hlt _ (hmem p hpz)
          have h5 := tileBase_apart hne
          omega
      · rw [List.mem_singleton] at e
        subst e
        exact storeMem_in _ _ _ (storeMem_wf _ _ _ hw) (by rw [hz]; exact hp) p hpz
    · show memRead (storeMem (tileBase o) (storeMem (tileBase t) s.mem (qs.zip ws)) (qs.zip ws)) b = _
      rw [storeMem_out _ _ _ _ (fun x hx => hb o (List.mem_cons_of_mem _ (List.mem_singleton.mpr rfl)) _ (hmem x hx)),
        storeMem_out _ _ _ _ (fun x hx => hb t List.mem_cons_self _ (hmem x hx))]

/-- A store instruction in the tile's own memory. -/
theorem State.issuedStore_of {s : State} {t : Fin 32} {mx forb : Bool} {size cycles : Nat} {f : State → State} {a : Addr} {ws : List Word}
    (hc : s.canIssue t mx size) (h : s.reaches t a ws.length false) (hf : f (s.setTile t (s.tile t)) = (s.setTile t (s.tile t)).storeWords t a ws) :
    s.issuedStore (s.issue t mx forb size cycles f) t size cycles a ws := by
  rw [State.storeWords_of (State.reaches_setTile h)] at hf
  rw [State.issue_of hc hf (by
      show (State.tile (State.storeClears _ t _ _) t).task.isSome = true
      simp only [State.storeClears_tile, State.tile_setTile]; exact hc.1) (by
      show (State.tile (State.storeClears _ t _ _) t).wait = none
      simp only [State.storeClears_tile, State.tile_setTile]; exact hc.2.1)]
  have hst : (s.setTile t (s.tile t)).storeTiles t = s.storeTiles t := rfl
  have hm := storeTiles_mem s t ((s.tile t).wordAddrs a ws.length) ws (Tile.wordAddrs_length _ _ _) h.lt
  simp only [State.tile_setTile, hst] at hm ⊢
  refine ⟨?_, ?_, ?_, ?_, ?_⟩
  · simp only [State.ticks, State.tile_setTile]
    show iter Tile.tick cycles { (State.tile (State.storeClears _ t _ _) t) with pc := (State.tile (State.storeClears _ t _ _) t).pc + size } = _
    simp only [State.storeClears_tile]
    rfl
  · intro i hi
    simp only [State.ticks, State.tile_setTile_ne _ _ hi]
    show State.tile (State.storeClears _ t _ _) i = _
    rw [State.storeClears_tile_ne _ _ _ hi, State.tile_setTile_ne _ _ hi]
    rfl
  · intro hw hp i hi p hpz
    have := hm.1 hw hp i hi p hpz
    show BitVec.ofNat 32 (ofLeBytes (memReadN ((s.storeTiles t).foldl (fun m i => storeMem (tileBase i) m (((s.tile t).wordAddrs a ws.length).zip ws)) s.mem)
      (tileBase i + p.1) 4)) = p.2
    rw [this, ofLeBytes_leBytes]
    apply BitVec.eq_of_toNat_eq
    rw [BitVec.toNat_ofNat]
    have := p.2.isLt
    omega
  · exact hm.2
  · intro p hp
    have hs := State.storeClears_same (s.setTile t (s.tile t)) t ((s.tile t).wordAddrs a ws.length)
      { (s.tile t).queue a.writes with bad := (s.tile t).bad.filter (fun q => decide (q ∉ (s.tile t).wordAddrs a ws.length)) } p
    cases p with
    | tiles => exact absurd List.mem_cons_self hp
    | mem => exact absurd (List.mem_cons_of_mem _ (List.mem_singleton.mpr rfl)) hp
    | reg g => exact hs (fun h => nomatch List.mem_singleton.mp h)
    | _ => exact hs (fun h => nomatch List.mem_singleton.mp h)

end Sys2Proof.Machine
end

