-- ==== Sys2Proof/Laws/Stored.lean ====
section
/-! SUPPORT. What every operation leaves of the parts of the state that outlast it: the queue as it was, memory and flash in their one form,
every OTP bit that was set, device time and the count of free values. `Stored` is kept by each shared operation; the other files of this folder prove it for all of them. -/

namespace Sys2Proof.Machine

open Sys2Proof

/-- What must outlast an operation: bits of the OTP, an instant that has come, a number of free values used, and the parts of a state
that are kept. -/
structure Kept where
  /-- Bits that stay set, by OTP word. -/
  otp : Nat → Word
  /-- An instant that device time has reached. -/
  now : Time
  /-- A number of free values that have been used. -/
  fresh : Nat
  /-- The state whose parts are kept. -/
  ref : State
  /-- The parts kept. -/
  keep : Part → Bool

/-- None of the parts listed is kept, so that an operation may change them. -/
def Kept.free (b : Kept) (l : List Part) : Prop := ∀ p, p ∈ l → b.keep p = false

theorem Kept.free.get {b : Kept} {l : List Part} (k : b.free l) {p : Part} (h : l.contains p = true) : b.keep p = false :=
  k p (by simpa using h)

theorem Kept.free.sub {b : Kept} {l m : List Part} (k : b.free l) (h : m.all l.contains = true) : b.free m := fun p hp =>
  k.get (List.all_eq_true.mp h p hp)

theorem Kept.free.no {b : Kept} {l : List Part} {p : Part} (k : b.free l) (hp : b.keep p = true) (h : l.contains p = true) : False := by
  rw [k.get h] at hp
  cases hp

theorem Kept.free.getReg {b : Kept} {l : List Part} (k : b.free l) {g : RegGroup} (h : regParts.all l.contains = true) : b.keep (.reg g) = false :=
  (k.sub h).get (by cases g <;> rfl)

/-- The queue is q, memory and flash are in their one form, every bit of b is set in the OTP, the instant and the number of free
values of b are reached, and the parts that b keeps are those of its state. -/
def State.Stored (q : List Instr) (b : Kept) (s : State) : Prop :=
  s.pending = q ∧ Memory.wf s.mem ∧ Memory.wf s.boot.flash ∧ (∀ a, b.otp a &&& s.otpWord a = b.otp a) ∧ b.now ≤ s.now ∧ b.fresh ≤ s.fresh ∧
    ∀ p, b.keep p = true → p.same b.ref s

theorem keep_iff {k : Bool} {v w : Prop} (h : k = false ∨ v = w) : (k = true → v) ↔ (k = true → w) := by
  rcases h with h | h
  · simp [h]
  · rw [h]

theorem stored_mk {q : List Instr} {b : Kept} {t : State} {v_rdata v_ident v_seq v_time v_caps v_pulses v_lk v_evts v_pwr v_ports v_axes v_sdclk v_filters v_fbs v_loops v_arms v_kiln v_plannerRan v_planDue v_tiles v_stk v_pc v_ic v_si v_eth v_chain v_claspA v_claspB v_mb}
    (h_rdata : b.keep .rdata = false ∨ v_rdata = t.rdata)
    (h_ident : b.keep .ident = false ∨ v_ident = t.ident)
    (h_seq : b.keep .seq = false ∨ v_seq = t.seq)
    (h_time : b.keep .time = false ∨ v_time = t.time)
    (h_caps : b.keep .caps = false ∨ v_caps = t.caps)
    (h_pulses : b.keep .pulses = false ∨ v_pulses = t.pulses)
    (h_lk : b.keep .lk = false ∨ v_lk = t.lk)
    (h_evts : b.keep .evts = false ∨ v_evts = t.evts)
    (h_pwr : b.keep .pwr = false ∨ v_pwr = t.pwr)
    (h_ports : b.keep .ports = false ∨ v_ports = t.ports)
    (h_axes : b.keep .axes = false ∨ v_axes = t.axes)
    (h_sdclk : b.keep .sdclk = false ∨ v_sdclk = t.sdclk)
    (h_filters : b.keep .filters = false ∨ v_filters = t.filters)
    (h_fbs : b.keep .fbs = false ∨ v_fbs = t.fbs)
    (h_loops : b.keep .loops = false ∨ v_loops = t.loops)
    (h_arms : b.keep .arms = false ∨ v_arms = t.arms)
    (h_kiln : b.keep .kiln = false ∨ v_kiln = t.kiln)
    (h_plannerRan : b.keep .plannerRan = false ∨ v_plannerRan = t.plannerRan)
    (h_planDue : b.keep .planDue = false ∨ v_planDue = t.planDue)
    (h_tiles : b.keep .tiles = false ∨ v_tiles = t.tiles)
    (h_stk : b.keep .stk = false ∨ v_stk = t.stk)
    (h_pc : b.keep .pc = false ∨ v_pc = t.pc)
    (h_ic : b.keep .ic = false ∨ v_ic = t.ic)
    (h_si : b.keep .si = false ∨ v_si = t.si)
    (h_eth : b.keep .eth = false ∨ v_eth = t.eth)
    (h_chain : b.keep .chain = false ∨ v_chain = t.chain)
    (h_claspA : b.keep .claspA = false ∨ v_claspA = t.claspA)
    (h_claspB : b.keep .claspB = false ∨ v_claspB = t.claspB)
    (h_mb : b.keep .mb = false ∨ v_mb = t.mb) :
    State.Stored q b (State.mk t.pending t.now t.regs t.mem t.fresh v_rdata v_ident v_seq v_time v_caps v_pulses v_lk v_evts v_pwr v_ports v_axes v_sdclk v_filters v_fbs v_loops v_arms v_kiln v_plannerRan v_planDue v_tiles v_stk v_pc v_ic v_si v_eth v_chain v_claspA v_claspB v_mb t.boot) = t.Stored q b := by
  unfold State.Stored
  refine propext (and_congr_right' (and_congr_right' (and_congr_right' (and_congr_right' (and_congr_right' (and_congr_right' ?_))))))
  refine forall_congr' fun p => ?_
  cases p with
  | rdata => exact keep_iff (h_rdata.imp_right fun e => congrArg (b.ref.rdata = ·) e)
  | ident => exact keep_iff (h_ident.imp_right fun e => congrArg (b.ref.ident = ·) e)
  | seq => exact keep_iff (h_seq.imp_right fun e => congrArg (b.ref.seq = ·) e)
  | time => exact keep_iff (h_time.imp_right fun e => congrArg (b.ref.time = ·) e)
  | caps => exact keep_iff (h_caps.imp_right fun e => congrArg (b.ref.caps = ·) e)
  | pulses => exact keep_iff (h_pulses.imp_right fun e => congrArg (b.ref.pulses = ·) e)
  | lk => exact keep_iff (h_lk.imp_right fun e => congrArg (b.ref.lk = ·) e)
  | evts => exact keep_iff (h_evts.imp_right fun e => congrArg (b.ref.evts = ·) e)
  | pwr => exact keep_iff (h_pwr.imp_right fun e => congrArg (b.ref.pwr = ·) e)
  | ports => exact keep_iff (h_ports.imp_right fun e => congrArg (b.ref.ports = ·) e)
  | axes => exact keep_iff (h_axes.imp_right fun e => congrArg (b.ref.axes = ·) e)
  | sdclk => exact keep_iff (h_sdclk.imp_right fun e => congrArg (b.ref.sdclk = ·) e)
  | filters => exact keep_iff (h_filters.imp_right fun e => congrArg (b.ref.filters = ·) e)
  | fbs => exact keep_iff (h_fbs.imp_right fun e => congrArg (b.ref.fbs = ·) e)
  | loops => exact keep_iff (h_loops.imp_right fun e => congrArg (b.ref.loops = ·) e)
  | arms => exact keep_iff (h_arms.imp_right fun e => congrArg (b.ref.arms = ·) e)
  | kiln => exact keep_iff (h_kiln.imp_right fun e => congrArg (b.ref.kiln = ·) e)
  | plannerRan => exact keep_iff (h_plannerRan.imp_right fun e => congrArg (b.ref.plannerRan = ·) e)
  | planDue => exact keep_iff (h_planDue.imp_right fun e => congrArg (b.ref.planDue = ·) e)
  | tiles => exact keep_iff (h_tiles.imp_right fun e => congrArg (b.ref.tiles = ·) e)
  | stk => exact keep_iff (h_stk.imp_right fun e => congrArg (b.ref.stk = ·) e)
  | pc => exact keep_iff (h_pc.imp_right fun e => congrArg (b.ref.pc = ·) e)
  | ic => exact keep_iff (h_ic.imp_right fun e => congrArg (b.ref.ic = ·) e)
  | si => exact keep_iff (h_si.imp_right fun e => congrArg (b.ref.si = ·) e)
  | eth => exact keep_iff (h_eth.imp_right fun e => congrArg (b.ref.eth = ·) e)
  | chain => exact keep_iff (h_chain.imp_right fun e => congrArg (b.ref.chain = ·) e)
  | claspA => exact keep_iff (h_claspA.imp_right fun e => congrArg (b.ref.claspA = ·) e)
  | claspB => exact keep_iff (h_claspB.imp_right fun e => congrArg (b.ref.claspB = ·) e)
  | mb => exact keep_iff (h_mb.imp_right fun e => congrArg (b.ref.mb = ·) e)
  | _ => exact Iff.rfl

theorem stored_ite {q : List Instr} {b : Kept} {c : Prop} {inst : Decidable c} {t u : State} (ht : t.Stored q b) (hu : u.Stored q b) :
    State.Stored q b (if c then t else u) := by
  split
  · exact ht
  · exact hu

theorem stored_foldl {q : List Instr} {b : Kept} {α : Type} {f : State → α → State} {l : List α} {s : State}
    (hf : ∀ s x, s.Stored q b → (f s x).Stored q b) (h : s.Stored q b) : (l.foldl f s).Stored q b := by
  induction l generalizing s with
  | nil => exact h
  | cons x r ih => exact ih (hf s x h)

theorem stored_foldl_fst {q : List Instr} {b : Kept} {α β : Type} {f : State × β → α → State × β} {l : List α} {p : State × β}
    (hf : ∀ p x, p.1.Stored q b → (f p x).1.Stored q b) (h : p.1.Stored q b) : (l.foldl f p).1.Stored q b := by
  induction l generalizing p with
  | nil => exact h
  | cons x r ih => exact ih (hf p x h)

theorem stored_of_pair {q : List Instr} {b : Kept} {α : Type} {p : State × α} {t : State} {x : α} (e : p = (t, x))
    (h : p.1.Stored q b) : t.Stored q b := by rw [e] at h; exact h

theorem answers_next {s : State} {p : State → Prop} (h : p s) : answers (.next s) p := h

theorem answers_ite {p : State → Prop} {c : Prop} {inst : Decidable c} {o r : Host.Outcome State Fault Refusal} (ho : answers o p) (hr : answers r p) :
    answers (if c then o else r) p := by
  split
  · exact ho
  · exact hr

theorem opt_none {α : Type} {p : α → Prop} : ∀ t, (none : Option α) = some t → p t := by
  intro t e
  cases e

theorem opt_some {α : Type} {p : α → Prop} {a : α} (h : p a) : ∀ t, some a = some t → p t := by
  intro t e
  cases e
  exact h

theorem opt_ite {α : Type} {p : α → Prop} {c : Prop} {inst : Decidable c} {o r : Option α} (ho : ∀ t, o = some t → p t) (hr : ∀ t, r = some t → p t) :
    ∀ t, (if c then o else r) = some t → p t := by
  split
  · exact ho
  · exact hr

theorem opt_map {α β : Type} {p : β → Prop} {o : Option α} {f : α → β} (h : ∀ t, o = some t → p (f t)) : ∀ t, o.map f = some t → p t := by
  intro t e
  rw [Option.map_eq_some_iff] at e
  obtain ⟨u, hu, rfl⟩ := e
  exact h u hu

theorem opt_foldl {α β : Type} {p : β → Prop} {f : Option β → α → Option β} {l : List α} {o : Option β}
    (hf : ∀ o x, (∀ t, o = some t → p t) → ∀ t, f o x = some t → p t) (h : ∀ t, o = some t → p t) : ∀ t, l.foldl f o = some t → p t := by
  induction l generalizing o with
  | nil => exact h
  | cons x r ih => exact ih (hf o x h)

theorem opt_guard {α : Type} {p : α → Prop} {o : Option α} (h : ∀ t, o = some t → p t) : ∀ t, o = some t → p t := h

theorem opt_imp {α : Type} {p r : α → Prop} {o : Option α} (h : ∀ t, o = some t → p t) (hi : ∀ t, p t → r t) : ∀ t, o = some t → r t :=
  fun t e => hi t (h t e)

theorem stored_of_some {q : List Instr} {b : Kept} {o : Option State} {t : State} (e : o = some t)
    (h : ∀ t, o = some t → t.Stored q b) : t.Stored q b := h t e

theorem stored_of_some_pair {q : List Instr} {b : Kept} {α : Type} {o : Option (State × α)} {t : State} {x : α} (e : o = some (t, x))
    (h : ∀ t, o = some t → t.1.Stored q b) : t.Stored q b := h _ e

theorem stored_getD {q : List Instr} {b : Kept} {o : Option State} {s : State} (h : ∀ t, o = some t → t.Stored q b) (hs : s.Stored q b) :
    (o.getD s).Stored q b := by
  cases o with
  | none => exact hs
  | some t => exact h t rfl

theorem stored_id {q : List Instr} {b : Kept} {s : State} (h : s.Stored q b) : State.Stored q b (id s) := h

theorem kept_but {b : Kept} {s t : State} {x : Part} (h : ∀ p, b.keep p = true → p.same b.ref s) (k : b.keep x = false)
    (e : ∀ p, p ≠ x → p.same s t) : ∀ p, b.keep p = true → p.same b.ref t := by
  intro p hp
  have hx : p ≠ x := by
    rintro rfl
    rw [k] at hp
    cases hp
  exact Part.same_trans (h p hp) (e p hx)

theorem stored_put_mem {q : List Instr} {b : Kept} {s : State} {m : List Host.Cell} (h : s.Stored q b) (hm : Memory.wf m) (k : b.keep .mem = false) :
    State.Stored q b { s with mem := m } :=
  ⟨h.1, hm, h.2.2.1, h.2.2.2.1, h.2.2.2.2.1, h.2.2.2.2.2.1, kept_but h.2.2.2.2.2.2 k fun p hp => by
    cases p with
    | mem => exact absurd rfl hp
    | reg g => exact fun _ _ => rfl
    | _ => rfl⟩

theorem portCfgReg_group (n : Fin 64) (r : PortCfg) : (portCfgReg n r).group = .port := by cases r <;> rfl

theorem ldCfgReg_group (n : Fin 256) (r : LdCfg) : (ldCfgReg n r).group = .ld := by cases r <;> rfl

theorem healthReg_group (pl : Fin 2) : (healthReg pl).group = .pc := by
  unfold healthReg
  split <;> rfl

theorem planeField_group (pl : Fin 2) : (planeField pl).reg.group = .pc := by
  unfold planeField
  split <;> rfl

end Sys2Proof.Machine
end

