-- ==== Sys2Proof/Laws/StoredCore.lean ====
section
/-! SUPPORT. One lemma per operation: the registers, memory, Locket, the ports and the tiles keep what `State.Stored`
says: the queue, canonical memory and flash, OTP bits, time, and every part of the state that the operation does not name. -/

namespace Sys2Proof.Machine

open Sys2Proof

variable {q : List Instr} {b : Kept}

theorem State.wr_stored {s : State} {r : Reg} {v : Word} (hs : State.Stored q b s) (kf : b.keep (.reg r.group) = false) :
    State.Stored q b (s.wr r v) :=
  ⟨hs.1, hs.2.1, hs.2.2.1, hs.2.2.2.1, hs.2.2.2.2.1, hs.2.2.2.2.2.1, kept_but hs.2.2.2.2.2.2 kf fun p hp => by
    cases p with
    | reg g =>
      intro j hj
      refine (State.rd_wr_ne s v ?_).symm
      rintro rfl
      exact hp (congrArg Part.reg hj.symm)
    | _ => rfl⟩

theorem State.put_stored {s : State} {f : Field} {v : Nat} (hs : State.Stored q b s) (kf : b.keep (.reg f.reg.group) = false) :
    State.Stored q b (State.put s f v) := by
  unfold State.put
  with_reducible apply State.wr_stored
  with_reducible assumption
  with_reducible assumption

theorem State.putB_stored {s : State} {f : Field} {b_ : Bool} (hs : State.Stored q b s) (kf : b.keep (.reg f.reg.group) = false) :
    State.Stored q b (State.putB s f b_) := by
  unfold State.putB
  with_reducible apply State.put_stored
  with_reducible assumption
  with_reducible assumption

theorem State.flag_stored {s : State} {f : Field} (hs : State.Stored q b s) (kf : b.keep (.reg f.reg.group) = false) :
    State.Stored q b (State.flag s f) := by
  unfold State.flag
  with_reducible apply State.put_stored
  with_reducible assumption
  with_reducible assumption

theorem State.bump_stored {s : State} {r : Reg} (hs : State.Stored q b s) (kf : b.keep (.reg r.group) = false) :
    State.Stored q b (State.bump s r) := by
  unfold State.bump
  with_reducible apply State.wr_stored
  with_reducible assumption
  with_reducible assumption

theorem State.count_stored {s : State} {r : Reg} (hs : State.Stored q b s) (kf : b.keep (.reg r.group) = false) :
    State.Stored q b (State.count s r) := by
  unfold State.count
  with_reducible apply State.wr_stored
  with_reducible assumption
  with_reducible assumption

theorem State.bumpField_stored {s : State} {f : Field} (hs : State.Stored q b s) (kf : b.keep (.reg f.reg.group) = false) :
    State.Stored q b (State.bumpField s f) := by
  unfold State.bumpField
  with_reducible apply State.put_stored
  with_reducible assumption
  with_reducible assumption

theorem State.wr48_stored {s : State} {lo : Reg} {hi : Reg} {x : Int} (hs : State.Stored q b s) (kf : b.keep (.reg lo.group) = false) (kf1 : b.keep (.reg hi.group) = false) :
    State.Stored q b (State.wr48 s lo hi x) := by
  unfold State.wr48
  with_reducible apply State.wr_stored
  with_reducible apply State.wr_stored
  with_reducible assumption
  with_reducible assumption
  with_reducible assumption

theorem State.useFresh_stored {s : State} (hs : State.Stored q b s) (kf : b.free [Part.fresh]) : State.Stored q b s.useFresh :=
  ⟨hs.1, hs.2.1, hs.2.2.1, hs.2.2.2.1, hs.2.2.2.2.1, Nat.le_succ_of_le hs.2.2.2.2.2.1, kept_but hs.2.2.2.2.2.2 (kf.get rfl) fun p hp => by
    cases p with
    | fresh => exact absurd rfl hp
    | reg g => exact fun _ _ => rfl
    | _ => rfl⟩

theorem State.answer_stored {s : State} {ws : List Word} (hs : State.Stored q b s) (kf : b.free [Part.rdata]) :
    State.Stored q b (State.answer s ws) := by
  have k_rdata : b.keep .rdata = false := kf.get rfl
  unfold State.answer
  simp -zeta only [stored_mk, k_rdata, or_true, true_or]
  with_reducible assumption

theorem State.advance_stored {s : State} {t_ : Time} (hs : State.Stored q b s) (kf : b.free [Part.now]) : State.Stored q b (s.advance t_) :=
  ⟨hs.1, hs.2.1, hs.2.2.1, hs.2.2.2.1, le_trans hs.2.2.2.2.1 (le_max_left _ _), hs.2.2.2.2.2.1, kept_but hs.2.2.2.2.2.2 (kf.get rfl) fun p hp => by
    cases p with
    | now => exact absurd rfl hp
    | reg g => exact fun _ _ => rfl
    | _ => rfl⟩

theorem State.mwrite_stored {s : State} {a : Nat} {bs : List Byte} (hs : State.Stored q b s) (kf : b.free [Part.mem]) :
    State.Stored q b (s.mwrite a bs) :=
  stored_put_mem hs (memWriteN_wf _ _ _ hs.2.1) (kf.get rfl)

theorem State.mput_stored {s : State} {a : Nat} {w : Word} (hs : State.Stored q b s) (kf : b.free [Part.mem]) :
    State.Stored q b (State.mput s a w) := by
  unfold State.mput
  with_reducible apply State.mwrite_stored
  with_reducible assumption
  exact kf.sub rfl

theorem State.mishap_stored {s : State} {comps : List Nat} (hs : State.Stored q b s) (kf : b.free [Part.boot]) :
    State.Stored q b (s.mishap comps) := by
  unfold State.mishap
  split
  · exact ⟨hs.1, hs.2.1, hs.2.2.1, hs.2.2.2.1, hs.2.2.2.2.1, hs.2.2.2.2.2.1, kept_but hs.2.2.2.2.2.2 (kf.get rfl) fun p hp => by
      cases p with
      | boot => exact absurd rfl hp
      | reg g => exact fun _ _ => rfl
      | _ => rfl⟩
  · exact hs

theorem stored_updBoot {s : State} {f : BootState → BootState} (hs : State.Stored q b s) (hf : Memory.wf (f s.boot).flash)
  (ho : ∀ a, b.otp a &&& tget s.boot.otp a 0 = b.otp a → b.otp a &&& tget (f s.boot).otp a 0 = b.otp a) (kf : b.free [Part.boot]) :
    State.Stored q b (s.updBoot f) :=
  ⟨hs.1, hs.2.1, hf, fun a => ho a (hs.2.2.2.1 a), hs.2.2.2.2.1, hs.2.2.2.2.2.1, kept_but hs.2.2.2.2.2.2 (kf.get rfl) fun p hp => by
    cases p with
    | boot => exact absurd rfl hp
    | reg g => exact fun _ _ => rfl
    | _ => rfl⟩

theorem State.updBoot_stored {s : State} {f : BootState → BootState} (hs : State.Stored q b s) (h1 : (f s.boot).flash = s.boot.flash)
    (h2 : (f s.boot).otp = s.boot.otp) (kf : b.free [Part.boot]) : State.Stored q b (s.updBoot f) :=
  stored_updBoot hs (by rw [h1]; exact hs.2.2.1) (fun a e => by rw [h2]; exact e) kf

theorem State.showOtp_stored {s : State} (hs : State.Stored q b s) (kf : b.free [Part.reg RegGroup.hm, Part.reg RegGroup.otp]) :
    State.Stored q b (State.showOtp s) := by
  unfold State.showOtp
  extract_lets +onlyGivenNames x; clear_value x
  extract_lets +onlyGivenNames x; clear_value x
  extract_lets +onlyGivenNames x; refine (fun (hx : State.Stored q b x) => ?_) ?_ <;> [(try clear_value x); subst x]
  extract_lets +onlyGivenNames x; refine (fun (hx : State.Stored q b x) => ?_) ?_ <;> [(try clear_value x); subst x]
  extract_lets +onlyGivenNames x; refine (fun (hx : State.Stored q b x) => ?_) ?_ <;> [(try clear_value x); subst x]
  with_reducible apply State.putB_stored
  with_reducible apply State.wr_stored
  with_reducible assumption
  exact kf.get rfl
  exact kf.get rfl
  with_reducible apply stored_foldl
  intro _ _ _
  with_reducible apply State.wr_stored
  with_reducible assumption
  exact kf.get rfl
  with_reducible assumption
  with_reducible apply State.put_stored
  with_reducible apply State.put_stored
  with_reducible assumption
  exact kf.get rfl
  exact kf.get rfl
  with_reducible apply State.putB_stored
  with_reducible apply State.putB_stored
  with_reducible apply State.putB_stored
  with_reducible apply State.putB_stored
  with_reducible assumption
  exact kf.get rfl
  exact kf.get rfl
  exact kf.get rfl
  exact kf.get rfl

theorem State.otpBurn_stored {s : State} {a : Nat} {v took : Word} (hs : State.Stored q b s) (kf :
    b.free [Part.reg RegGroup.hm, Part.reg RegGroup.otp, Part.boot]) :
  State.Stored q b (s.otpBurn a v took) := by
  have key : State.Stored q b (s.updBoot (fun x => { x with otp := tset x.otp a (s.otpWord a ||| (v &&& took)) })) := by
    refine stored_updBoot hs hs.2.2.1 (fun j h => ?_) (kf.sub rfl)
    show b.otp j &&& tget (tset s.boot.otp a (s.otpWord a ||| (v &&& took))) j 0 = b.otp j
    by_cases hj : j = a
    · subst hj
      rw [tget_tset_same]
      change b.otp j &&& s.otpWord j = b.otp j at h
      generalize s.otpWord j = w at h ⊢
      rw [BitVec.and_or_distrib_left, h]
      apply BitVec.eq_of_getLsbD_eq
      intro i hi
      simp only [BitVec.getLsbD_or, BitVec.getLsbD_and]
      cases (b.otp j).getLsbD i <;> simp
    · rw [tget_tset_ne _ _ _ hj]
      exact h
  unfold State.otpBurn
  dsimp only
  split
  · exact State.showOtp_stored key (kf.sub rfl)
  · exact State.flag_stored (State.showOtp_stored key (kf.sub rfl)) (kf.get rfl)

theorem State.otpProgram_stored {s : State} {who : Who} (hs : State.Stored q b s) (kf : b.free [Part.reg RegGroup.otp, Part.boot]) :
    State.Stored q b (State.otpProgram s who) := by
  unfold State.otpProgram
  with_reducible apply stored_ite
  with_reducible apply State.flag_stored
  with_reducible assumption
  exact kf.get rfl
  with_reducible apply State.updBoot_stored
  with_reducible apply State.put_stored
  with_reducible assumption
  exact kf.get rfl
  rfl
  rfl
  exact kf.sub rfl

theorem execOtpProgram_stored {who : Who} {s : State} (hs : State.Stored q b s) (kf : b.free [Part.reg RegGroup.otp, Part.boot]) :
    answers (execOtpProgram who s) (State.Stored q b) := by
  unfold execOtpProgram
  with_reducible apply answers_next
  with_reducible apply State.otpProgram_stored
  with_reducible assumption
  exact kf.sub rfl

theorem execOtpProgramDone_stored {took : Word} {s : State} (hs : State.Stored q b s) (kf : b.free [Part.reg RegGroup.hm, Part.reg RegGroup.otp, Part.now, Part.boot]) :
    answers (execOtpProgramDone took s) (State.Stored q b) := by
  unfold execOtpProgramDone
  split
  with_reducible apply answers_next
  with_reducible assumption
  with_reducible apply answers_next
  with_reducible apply State.otpBurn_stored
  with_reducible apply State.put_stored
  with_reducible apply State.updBoot_stored
  with_reducible apply State.advance_stored
  with_reducible assumption
  exact kf.sub rfl
  rfl
  rfl
  exact kf.sub rfl
  exact kf.get rfl
  exact kf.sub rfl

theorem State.showEvts_stored {s : State} (hs : State.Stored q b s) (kf : b.free [Part.reg RegGroup.ic]) :
    State.Stored q b (State.showEvts s) := by
  unfold State.showEvts
  with_reducible apply State.putB_stored
  with_reducible assumption
  exact kf.get rfl

theorem State.offerEvent_stored {s : State} {r : Rec} (hs : State.Stored q b s) (kf : b.free [Part.reg RegGroup.ic, Part.reg RegGroup.hm, Part.evts]) :
    State.Stored q b (State.offerEvent s r) := by
  have k_evts : b.keep .evts = false := kf.get rfl
  unfold State.offerEvent
  with_reducible apply stored_ite
  with_reducible apply stored_ite
  with_reducible apply State.showEvts_stored
  simp -zeta only [stored_mk, k_evts, or_true, true_or]
  with_reducible assumption
  exact kf.sub rfl
  with_reducible apply State.bump_stored
  with_reducible assumption
  exact kf.get rfl
  with_reducible assumption

theorem State.appendRec_stored {s : State} {r : Rec} (hs : State.Stored q b s) (kf : b.free (postParts)) :
    State.Stored q b (State.appendRec s r) := by
  have k_lk : b.keep .lk = false := kf.get rfl
  unfold State.appendRec
  extract_lets +onlyGivenNames x; clear_value x
  extract_lets +onlyGivenNames x; refine (fun (hx : State.Stored q b x) => ?_) ?_ <;> [(try clear_value x); subst x]
  extract_lets +onlyGivenNames x; refine (fun (hx : State.Stored q b x) => ?_) ?_ <;> [(try clear_value x); subst x]
  with_reducible apply stored_ite
  with_reducible apply State.flag_stored
  with_reducible assumption
  exact kf.get rfl
  with_reducible assumption
  with_reducible apply State.offerEvent_stored
  with_reducible assumption
  exact kf.sub rfl
  simp -zeta only [stored_mk, k_lk, or_true, true_or]
  with_reducible assumption

theorem State.startFlush_stored {s : State} (hs : State.Stored q b s) (kf : b.free [Part.reg RegGroup.lk, Part.lk]) :
    State.Stored q b (State.startFlush s) := by
  have k_lk : b.keep .lk = false := kf.get rfl
  unfold State.startFlush
  extract_lets +onlyGivenNames x; clear_value x
  split
  simp -zeta only [stored_mk, k_lk, or_true, true_or]
  with_reducible assumption
  with_reducible apply State.put_stored
  simp -zeta only [stored_mk, k_lk, or_true, true_or]
  with_reducible assumption
  exact kf.get rfl

theorem State.reportLost_stored {s : State} (hs : State.Stored q b s) (kf : b.free (postParts)) : State.Stored q b (State.reportLost s) := by
  have k_lk : b.keep .lk = false := kf.get rfl
  unfold State.reportLost
  extract_lets +onlyGivenNames x; clear_value x
  extract_lets +onlyGivenNames x; clear_value x
  extract_lets +onlyGivenNames x; clear_value x
  with_reducible apply stored_ite
  with_reducible assumption
  with_reducible apply State.appendRec_stored
  simp -zeta only [stored_mk, k_lk, or_true, true_or]
  with_reducible assumption
  exact kf.sub rfl

theorem State.acceptRec_stored {s : State} {r : Rec} (hs : State.Stored q b s) (kf : b.free (postParts)) :
    State.Stored q b (State.acceptRec s r) := by
  have k_lk : b.keep .lk = false := kf.get rfl
  unfold State.acceptRec
  extract_lets +onlyGivenNames x; clear_value x
  extract_lets +onlyGivenNames x; refine (fun (hx : State.Stored q b x) => ?_) ?_ <;> [(try clear_value x); subst x]
  extract_lets +onlyGivenNames x; clear_value x
  extract_lets +onlyGivenNames x; refine (fun (hx : State.Stored q b x) => ?_) ?_ <;> [(try clear_value x); subst x]
  split
  simp -zeta only [stored_mk, k_lk, or_true, true_or]
  with_reducible assumption
  with_reducible apply stored_ite
  with_reducible apply State.flag_stored
  with_reducible apply State.bump_stored
  simp -zeta only [stored_mk, k_lk, or_true, true_or]
  with_reducible assumption
  exact kf.get rfl
  exact kf.get rfl
  with_reducible apply stored_ite
  with_reducible apply State.startFlush_stored
  with_reducible assumption
  exact kf.sub rfl
  with_reducible assumption
  with_reducible apply State.appendRec_stored
  with_reducible assumption
  exact kf.sub rfl
  with_reducible apply State.reportLost_stored
  simp -zeta only [stored_mk, k_lk, or_true, true_or]
  with_reducible assumption
  exact kf.sub rfl

theorem State.postAt_stored {s : State} {type : Nat} {sev : Nat} {addr : Word} {payload : List Byte} {cell : Nat} (hs : State.Stored q b s) (kf : b.free (postParts)) :
    State.Stored q b (State.postAt s type sev addr payload cell) := by
  have k_lk : b.keep .lk = false := kf.get rfl
  unfold State.postAt
  extract_lets +onlyGivenNames x; clear_value x
  with_reducible apply stored_ite
  simp -zeta only [stored_mk, k_lk, or_true, true_or]
  with_reducible assumption
  with_reducible apply stored_ite
  with_reducible apply State.acceptRec_stored
  with_reducible assumption
  exact kf.sub rfl
  with_reducible apply State.acceptRec_stored
  with_reducible assumption
  exact kf.sub rfl

theorem State.post_stored {s : State} {type : Nat} {sev : Nat} {addr : Word} {payload : List Byte} (hs : State.Stored q b s) (kf : b.free (postParts)) :
    State.Stored q b (State.post s type sev addr payload) := by
  unfold State.post
  with_reducible apply State.postAt_stored
  with_reducible assumption
  exact kf.sub rfl

theorem execLocketPost_stored {type : Nat} {sev : Fin 4} {addr : Word} {payload : List Byte} {cell : Nat} {s : State} (hs : State.Stored q b s) (kf : b.free (postParts)) :
    answers (execLocketPost type sev addr payload cell s) (State.Stored q b) := by
  unfold execLocketPost
  with_reducible apply answers_next
  with_reducible apply State.postAt_stored
  with_reducible assumption
  exact kf.sub rfl

theorem execLocketFlush_stored {bad : Option Nat} {s : State} (hs : State.Stored q b s) (kf : b.free (postParts)) :
    answers (execLocketFlush bad s) (State.Stored q b) := by
  have k_lk : b.keep .lk = false := kf.get rfl
  unfold execLocketFlush
  extract_lets +onlyGivenNames x; refine (fun (hx : State.Stored q b x) => ?_) ?_ <;> [(try clear_value x); subst x]
  extract_lets +onlyGivenNames x; clear_value x
  split
  with_reducible apply answers_next
  with_reducible assumption
  extract_lets +onlyGivenNames x; refine (fun (hx : State.Stored q b x) => ?_) ?_ <;> [(try clear_value x); subst x]
  extract_lets +onlyGivenNames x; refine (fun (hx : State.Stored q b x) => ?_) ?_ <;> [(try clear_value x); subst x]
  with_reducible apply answers_ite
  with_reducible apply answers_next
  with_reducible apply State.post_stored
  with_reducible assumption
  exact kf.sub rfl
  with_reducible apply answers_next
  with_reducible assumption
  with_reducible apply State.flag_stored
  with_reducible apply State.bump_stored
  with_reducible assumption
  exact kf.get rfl
  exact kf.get rfl
  simp -zeta only [stored_mk, k_lk, or_true, true_or]
  with_reducible assumption
  with_reducible apply State.startFlush_stored
  with_reducible assumption
  exact kf.sub rfl

theorem State.endFlush_stored {s : State} {f : Flush} (hs : State.Stored q b s) (kf : b.free (postParts)) :
    State.Stored q b (State.endFlush s f) := by
  have k_lk : b.keep .lk = false := kf.get rfl
  unfold State.endFlush
  extract_lets +onlyGivenNames x; refine (fun (hx : State.Stored q b x) => ?_) ?_ <;> [(try clear_value x); subst x]
  extract_lets +onlyGivenNames x; clear_value x
  extract_lets +onlyGivenNames x; refine (fun (hx : State.Stored q b x) => ?_) ?_ <;> [(try clear_value x); subst x]
  with_reducible apply State.reportLost_stored
  with_reducible apply State.count_stored
  with_reducible apply State.put_stored
  with_reducible assumption
  exact kf.get rfl
  exact kf.get rfl
  exact kf.sub rfl
  simp -zeta only [stored_mk, k_lk, or_true, true_or]
  with_reducible assumption
  with_reducible apply State.reportLost_stored
  with_reducible assumption
  exact kf.sub rfl

theorem execLocketFlushDone_stored {s : State} (hs : State.Stored q b s) (kf : b.free (postParts ++ [Part.now])) :
    answers (execLocketFlushDone s) (State.Stored q b) := by
  unfold execLocketFlushDone
  split
  with_reducible apply answers_next
  with_reducible assumption
  with_reducible apply answers_next
  with_reducible apply State.endFlush_stored
  with_reducible apply State.advance_stored
  with_reducible assumption
  exact kf.sub rfl
  exact kf.sub rfl

theorem execLocketPeriodExpiry_stored {s : State} (hs : State.Stored q b s) (kf : b.free [Part.reg RegGroup.lk, Part.now, Part.lk]) :
    answers (execLocketPeriodExpiry s) (State.Stored q b) := by
  unfold execLocketPeriodExpiry
  with_reducible apply answers_ite
  with_reducible apply answers_next
  with_reducible assumption
  with_reducible apply answers_next
  with_reducible apply State.startFlush_stored
  with_reducible apply State.advance_stored
  with_reducible assumption
  exact kf.sub rfl
  exact kf.sub rfl

theorem execLkFlushWrite_stored {s : State} (hs : State.Stored q b s) (kf : b.free [Part.reg RegGroup.lk, Part.lk]) :
    answers (execLkFlushWrite s) (State.Stored q b) := by
  unfold execLkFlushWrite
  with_reducible apply answers_next
  with_reducible apply State.startFlush_stored
  with_reducible assumption
  exact kf.sub rfl

theorem execLkIndexLoRead_stored {which : LkIndex} {s : State} (hs : State.Stored q b s) (kf :
    b.free [Part.reg RegGroup.lk, Part.rdata]) :
  answers (execLkIndexLoRead which s) (State.Stored q b) := by
  unfold execLkIndexLoRead
  cases which <;> exact answers_next (State.answer_stored (State.wr_stored hs (kf.get rfl)) (kf.sub rfl))

theorem State.setAxis_stored {s : State} {i : Fin 16} {a : StepAxis} (hs : State.Stored q b s) (kf : b.free [Part.axes]) :
    State.Stored q b (State.setAxis s i a) := by
  have k_axes : b.keep .axes = false := kf.get rfl
  unfold State.setAxis
  simp -zeta only [stored_mk, k_axes, or_true, true_or]
  with_reducible assumption

theorem Stp.shown_stored {s : State} {i : Fin 16} (hs : State.Stored q b s) (kf : b.free [Part.reg RegGroup.stp]) :
    State.Stored q b (Stp.shown s i) := by
  unfold Stp.shown
  extract_lets +onlyGivenNames x; clear_value x
  extract_lets +onlyGivenNames x; refine (fun (hx : State.Stored q b x) => ?_) ?_ <;> [(try clear_value x); subst x]
  extract_lets +onlyGivenNames x; refine (fun (hx : State.Stored q b x) => ?_) ?_ <;> [(try clear_value x); subst x]
  split
  with_reducible apply State.put_stored
  with_reducible apply State.wr48_stored
  with_reducible assumption
  exact kf.get rfl
  exact kf.get rfl
  exact kf.get rfl
  with_reducible assumption
  with_reducible apply State.putB_stored
  with_reducible assumption
  exact kf.get rfl
  with_reducible apply State.wr_stored
  with_reducible assumption
  exact kf.get rfl

theorem Stp.begin__stored {s : State} {i : Fin 16} {t_ : Nat} (hs : State.Stored q b s) (kf : b.free [Part.reg RegGroup.stp, Part.axes]) :
    State.Stored q b (Stp.begin_ s i t_) := by
  unfold Stp.begin_
  extract_lets +onlyGivenNames x; clear_value x
  extract_lets +onlyGivenNames x; clear_value x
  split
  with_reducible assumption
  extract_lets +onlyGivenNames x; clear_value x
  extract_lets +onlyGivenNames x; clear_value x
  with_reducible apply Stp.shown_stored
  with_reducible apply State.put_stored
  with_reducible apply State.setAxis_stored
  with_reducible assumption
  exact kf.sub rfl
  exact kf.get rfl
  exact kf.sub rfl

theorem Stp.orient_stored {s : State} {i : Fin 16} {t_ : Nat} (hs : State.Stored q b s) (kf : b.free [Part.reg RegGroup.stp, Part.axes]) :
    State.Stored q b (Stp.orient s i t_) := by
  unfold Stp.orient
  extract_lets +onlyGivenNames x; clear_value x
  extract_lets +onlyGivenNames x; clear_value x
  split
  with_reducible assumption
  extract_lets +onlyGivenNames x; clear_value x
  with_reducible apply stored_ite
  with_reducible apply stored_ite
  with_reducible apply Stp.shown_stored
  with_reducible assumption
  exact kf.sub rfl
  with_reducible apply Stp.begin__stored
  with_reducible assumption
  exact kf.sub rfl
  with_reducible apply stored_ite
  with_reducible apply Stp.shown_stored
  with_reducible assumption
  exact kf.sub rfl
  with_reducible apply Stp.shown_stored
  with_reducible apply State.setAxis_stored
  with_reducible assumption
  exact kf.sub rfl
  exact kf.sub rfl

theorem Stp.finish_stored {s : State} {i : Fin 16} {m : StepMove} (hs : State.Stored q b s) (kf : b.free [Part.reg RegGroup.stp]) :
    State.Stored q b (Stp.finish s i m) := by
  unfold Stp.finish
  with_reducible apply State.wr_stored
  with_reducible assumption
  exact kf.get rfl

theorem Stp.reversal_stored {s : State} {i : Fin 16} {p0 : Int} (hs : State.Stored q b s) (kf : b.free (postParts ++ [Part.reg RegGroup.stp])) :
    State.Stored q b (Stp.reversal s i p0) := by
  unfold Stp.reversal
  extract_lets +onlyGivenNames x; clear_value x
  with_reducible apply State.post_stored
  with_reducible apply State.flag_stored
  with_reducible apply State.wr_stored
  with_reducible assumption
  exact kf.get rfl
  exact kf.get rfl
  exact kf.sub rfl

theorem Stp.startNext_stored {i : Fin 16} {t : Nat} {l : List StepMove} {s : State} (hs : State.Stored q b s) (kf :
    b.free [Part.reg RegGroup.stp, Part.axes]) :
  State.Stored q b (Stp.startNext i t l s) := by
  induction l generalizing s with
  | nil => exact Stp.shown_stored (State.put_stored (State.put_stored (State.setAxis_stored hs (kf.sub rfl)) (kf.get rfl)) (kf.get rfl)) (kf.sub rfl)
  | cons m r ih =>
    unfold Stp.startNext
    dsimp only
    split
    · exact Stp.shown_stored (State.put_stored (State.put_stored (State.setAxis_stored hs (kf.sub rfl)) (kf.get rfl)) (kf.get rfl)) (kf.sub rfl)
    · split
      · exact ih (Stp.finish_stored hs (kf.sub rfl))
      · exact Stp.orient_stored (State.put_stored (State.put_stored (State.setAxis_stored hs (kf.sub rfl)) (kf.get rfl)) (kf.get rfl)) (kf.sub rfl)

theorem Stp.toRest_stored {s : State} {i : Fin 16} {t_ : Nat} (hs : State.Stored q b s) (kf : b.free (postParts ++ [Part.reg RegGroup.stp, Part.axes])) :
    State.Stored q b (Stp.toRest s i t_) := by
  unfold Stp.toRest
  extract_lets +onlyGivenNames x; clear_value x
  extract_lets +onlyGivenNames x; refine (fun (hx : State.Stored q b x) => ?_) ?_ <;> [(try clear_value x); subst x]
  with_reducible apply Stp.startNext_stored
  with_reducible apply State.wr_stored
  with_reducible apply State.setAxis_stored
  with_reducible assumption
  exact kf.sub rfl
  exact kf.get rfl
  exact kf.sub rfl
  split
  with_reducible apply Stp.reversal_stored
  with_reducible assumption
  exact kf.sub rfl
  with_reducible assumption

theorem State.eachMember_stored {s : State} {master : Fin 16} {f : State → Fin 16 → State} (hs : State.Stored q b s)
  (hf : ∀ t x, State.Stored q b t → State.Stored q b (f t x)) :
    State.Stored q b (State.eachMember s master f) := by
  unfold State.eachMember
  apply stored_foldl
  · intro t x ht
    try dsimp only
    split
    · exact stored_ite (hf t x ht) ht
    · exact ht
  · exact hs

theorem State.stopGroup_stored {s : State} {g : GroupRun} {atOnce : Bool} (hs : State.Stored q b s) (kf : b.free (postParts ++ [Part.reg RegGroup.stp, Part.axes])) :
    State.Stored q b (State.stopGroup s g atOnce) := by
  unfold State.stopGroup
  extract_lets +onlyGivenNames x; clear_value x
  with_reducible apply stored_ite
  with_reducible apply State.eachMember_stored
  with_reducible assumption
  intro _ _ _
  with_reducible apply Stp.toRest_stored
  with_reducible assumption
  exact kf.sub rfl
  split
  with_reducible apply State.eachMember_stored
  with_reducible apply State.setAxis_stored
  with_reducible assumption
  exact kf.sub rfl
  intro _ _ _
  with_reducible apply State.put_stored
  with_reducible assumption
  exact kf.get rfl
  with_reducible assumption

theorem State.groupRest_stored {s : State} {g : GroupRun} (hs : State.Stored q b s) (kf : b.free (postParts ++ [Part.reg RegGroup.stp, Part.axes])) :
    State.Stored q b (State.groupRest s g) := by
  unfold State.groupRest
  with_reducible apply State.eachMember_stored
  with_reducible assumption
  intro _ _ _
  extract_lets +onlyGivenNames x; clear_value x
  with_reducible apply stored_ite
  with_reducible apply State.setAxis_stored
  with_reducible assumption
  exact kf.sub rfl
  with_reducible apply Stp.toRest_stored
  with_reducible assumption
  exact kf.sub rfl

theorem State.safeHalt_stored {s : State} {i : Fin 16} (hs : State.Stored q b s) (kf : b.free (postParts ++ [Part.reg RegGroup.stp, Part.axes])) :
    State.Stored q b (State.safeHalt s i) := by
  unfold State.safeHalt
  extract_lets +onlyGivenNames x; clear_value x
  extract_lets +onlyGivenNames x; clear_value x
  extract_lets +onlyGivenNames x; refine (fun (hx : State.Stored q b x) => ?_) ?_ <;> [(try clear_value x); subst x]
  extract_lets +onlyGivenNames x; refine (fun (hx : State.Stored q b x) => ?_) ?_ <;> [(try clear_value x); subst x]
  extract_lets +onlyGivenNames x; refine (fun (hx : State.Stored q b x) => ?_) ?_ <;> [(try clear_value x); subst x]
  with_reducible apply stored_ite
  with_reducible apply stored_ite
  with_reducible apply State.flag_stored
  with_reducible assumption
  exact kf.get rfl
  with_reducible assumption
  with_reducible assumption
  with_reducible apply Stp.shown_stored
  with_reducible apply State.wr_stored
  with_reducible apply State.put_stored
  with_reducible apply State.flag_stored
  with_reducible apply State.put_stored
  with_reducible assumption
  exact kf.get rfl
  exact kf.get rfl
  exact kf.get rfl
  exact kf.get rfl
  exact kf.sub rfl
  split
  with_reducible apply State.stopGroup_stored
  with_reducible assumption
  exact kf.sub rfl
  with_reducible assumption
  with_reducible apply State.setAxis_stored
  with_reducible assumption
  exact kf.sub rfl

theorem State.haltPort_stored {s : State} {n : Fin 64} (hs : State.Stored q b s) (kf : b.free (postParts ++ [Part.reg RegGroup.stp, Part.axes])) :
    State.Stored q b (State.haltPort s n) := by
  unfold State.haltPort
  with_reducible apply stored_foldl
  intro _ _ _
  with_reducible apply stored_ite
  with_reducible apply State.safeHalt_stored
  with_reducible assumption
  exact kf.sub rfl
  with_reducible assumption
  with_reducible assumption

theorem State.haltArm_stored {s : State} {a : Fin 8} (hs : State.Stored q b s) (kf : b.free (postParts ++ [Part.reg RegGroup.stp, Part.axes])) :
    State.Stored q b (State.haltArm s a) := by
  unfold State.haltArm
  with_reducible apply stored_foldl
  intro _ _ _
  with_reducible apply stored_ite
  with_reducible apply State.safeHalt_stored
  with_reducible assumption
  exact kf.sub rfl
  with_reducible assumption
  with_reducible assumption

theorem State.updUpd_stored {s : State} {f : Update → Update} (hs : State.Stored q b s) (kf : b.free [Part.boot]) :
    State.Stored q b (State.updUpd s f) := by
  unfold State.updUpd
  with_reducible apply State.updBoot_stored
  with_reducible assumption
  rfl
  rfl
  exact kf.sub rfl

theorem State.setDir_stored {s : State} {c : Fin 6} {d : Fin 2 × Nat} (hs : State.Stored q b s) (kf : b.free [Part.boot]) :
    State.Stored q b (State.setDir s c d) := by
  unfold State.setDir
  with_reducible apply State.updBoot_stored
  with_reducible assumption
  rfl
  rfl
  exact kf.sub rfl

theorem State.setRuns_stored {s : State} {pl : Fin 2} {c : Fin 6} {k : Fin 2} (hs : State.Stored q b s) (kf : b.free [Part.boot]) :
    State.Stored q b (State.setRuns s pl c k) := by
  unfold State.setRuns
  with_reducible apply State.updBoot_stored
  with_reducible assumption
  rfl
  rfl
  exact kf.sub rfl

theorem State.setRunsAll_stored {s : State} {c : Fin 6} {k : Fin 2} (hs : State.Stored q b s) (kf : b.free [Part.boot]) :
    State.Stored q b (State.setRunsAll s c k) := by
  unfold State.setRunsAll
  with_reducible apply State.setRuns_stored
  with_reducible apply State.setRuns_stored
  with_reducible assumption
  exact kf.sub rfl
  exact kf.sub rfl

theorem State.setPhase_stored {s : State} {ph : Nat} {k : Fin 2} (hs : State.Stored q b s) (kf : b.free (postParts ++ [Part.boot])) :
    State.Stored q b (State.setPhase s ph k) := by
  unfold State.setPhase
  extract_lets +onlyGivenNames x; refine (fun (hx : State.Stored q b x) => ?_) ?_ <;> [(try clear_value x); subst x]
  with_reducible apply State.post_stored
  with_reducible assumption
  exact kf.sub rfl
  with_reducible apply State.updUpd_stored
  with_reducible assumption
  exact kf.sub rfl

theorem State.startWindow_stored {s : State} (hs : State.Stored q b s) (kf : b.free (postParts ++ [Part.boot])) :
    State.Stored q b (State.startWindow s) := by
  unfold State.startWindow
  extract_lets +onlyGivenNames x; clear_value x
  extract_lets +onlyGivenNames x; clear_value x
  with_reducible apply State.setPhase_stored
  with_reducible apply State.updUpd_stored
  with_reducible assumption
  exact kf.sub rfl
  exact kf.sub rfl

theorem State.updArmed_stored {s : State} (hs : State.Stored q b s) (kf : b.free (postParts ++ [Part.boot])) :
    State.Stored q b (State.updArmed s) := by
  unfold State.updArmed
  with_reducible apply stored_ite
  with_reducible apply State.startWindow_stored
  with_reducible assumption
  exact kf.sub rfl
  with_reducible assumption

theorem State.setPort_stored {s : State} {n : Fin 64} {p : Port} (hs : State.Stored q b s) (kf : b.free [Part.ports]) :
    State.Stored q b (State.setPort s n p) := by
  have k_ports : b.keep .ports = false := kf.get rfl
  unfold State.setPort
  simp -zeta only [stored_mk, k_ports, or_true, true_or]
  with_reducible assumption

theorem State.showLive_stored {s : State} {n : Fin 64} (hs : State.Stored q b s) (kf : b.free [Part.reg RegGroup.port]) :
    State.Stored q b (State.showLive s n) := by
  unfold State.showLive
  extract_lets +onlyGivenNames x; clear_value x
  with_reducible apply State.put_stored
  with_reducible apply State.put_stored
  with_reducible apply State.put_stored
  with_reducible apply State.put_stored
  with_reducible assumption
  exact kf.get rfl
  exact kf.get rfl
  exact kf.get rfl
  exact kf.get rfl

theorem State.updPort_stored {s : State} {n : Fin 64} {p : Port} (hs : State.Stored q b s) (kf : b.free [Part.reg RegGroup.port, Part.ports]) :
    State.Stored q b (State.updPort s n p) := by
  unfold State.updPort
  with_reducible apply State.showLive_stored
  with_reducible apply State.setPort_stored
  with_reducible assumption
  exact kf.sub rfl
  exact kf.sub rfl

theorem State.finding_stored {s : State} {kind : Nat} {place : Nat} (hs : State.Stored q b s) (kf : b.free [Part.pc]) :
    State.Stored q b (State.finding s kind place) := by
  have k_pc : b.keep .pc = false := kf.get rfl
  unfold State.finding
  extract_lets +onlyGivenNames x; clear_value x
  extract_lets +onlyGivenNames x; clear_value x
  simp -zeta only [stored_mk, k_pc, or_true, true_or]
  with_reducible assumption

theorem State.foldSig_stored {s : State} {pl : Fin 2} {pos : Fin 17} {a : Nat} {bs : List Byte} (hs : State.Stored q b s) (kf : b.free [Part.pc]) :
    State.Stored q b (State.foldSig s pl pos a bs) := by
  have k_pc : b.keep .pc = false := kf.get rfl
  unfold State.foldSig
  extract_lets +onlyGivenNames x; clear_value x
  extract_lets +onlyGivenNames x; clear_value x
  extract_lets +onlyGivenNames x; clear_value x
  simp -zeta only [stored_mk, k_pc, or_true, true_or]
  with_reducible assumption

theorem State.showStill_stored {s : State} {n : Fin 64} (hs : State.Stored q b s) (kf : b.free [Part.reg RegGroup.port]) :
    State.Stored q b (State.showStill s n) := by
  unfold State.showStill
  with_reducible apply State.putB_stored
  with_reducible assumption
  exact kf.get rfl

theorem State.showStillArm_stored {s : State} {a : Fin 8} (hs : State.Stored q b s) (kf : b.free [Part.reg RegGroup.port]) :
    State.Stored q b (State.showStillArm s a) := by
  unfold State.showStillArm
  with_reducible apply stored_foldl
  intro _ _ _
  with_reducible apply stored_ite
  with_reducible apply State.showStill_stored
  with_reducible assumption
  exact kf.sub rfl
  with_reducible assumption
  with_reducible assumption

theorem State.trip_stored {s : State} {n : Fin 64} {src : Nat} (hs : State.Stored q b s) (kf : b.free (postParts ++ [Part.reg RegGroup.port, Part.reg RegGroup.stp, Part.ports, Part.axes])) :
    State.Stored q b (State.trip s n src) := by
  unfold State.trip
  extract_lets +onlyGivenNames x; clear_value x
  extract_lets +onlyGivenNames x; clear_value x
  extract_lets +onlyGivenNames x; clear_value x
  extract_lets +onlyGivenNames x; clear_value x
  extract_lets +onlyGivenNames x; refine (fun (hx : State.Stored q b x) => ?_) ?_ <;> [(try clear_value x); subst x]
  extract_lets +onlyGivenNames x; refine (fun (hx : State.Stored q b x) => ?_) ?_ <;> [(try clear_value x); subst x]
  extract_lets +onlyGivenNames x; refine (fun (hx : State.Stored q b x) => ?_) ?_ <;> [(try clear_value x); subst x]
  with_reducible apply State.haltPort_stored
  with_reducible assumption
  exact kf.sub rfl
  with_reducible apply State.post_stored
  with_reducible assumption
  exact kf.sub rfl
  with_reducible apply State.showLive_stored
  with_reducible apply State.bump_stored
  with_reducible apply State.put_stored
  with_reducible apply State.put_stored
  with_reducible assumption
  exact kf.get rfl
  exact kf.get rfl
  exact kf.get rfl
  exact kf.sub rfl
  with_reducible apply State.setPort_stored
  with_reducible apply State.put_stored
  with_reducible assumption
  exact kf.get rfl
  exact kf.sub rfl

theorem State.judgeTrip_stored {s : State} {n : Fin 64} (hs : State.Stored q b s) (kf : b.free (postParts ++ [Part.reg RegGroup.port, Part.reg RegGroup.stp, Part.ports, Part.axes])) :
    State.Stored q b (State.judgeTrip s n) := by
  unfold State.judgeTrip
  extract_lets +onlyGivenNames x; clear_value x
  extract_lets +onlyGivenNames x; refine (fun (hx : State.Stored q b x) => ?_) ?_ <;> [(try clear_value x); subst x]
  extract_lets +onlyGivenNames x; refine (fun (hx : State.Stored q b x) => ?_) ?_ <;> [(try clear_value x); subst x]
  extract_lets +onlyGivenNames x; clear_value x
  with_reducible apply stored_ite
  with_reducible assumption
  with_reducible apply stored_ite
  with_reducible apply stored_ite
  with_reducible apply State.updPort_stored
  with_reducible assumption
  exact kf.sub rfl
  with_reducible assumption
  with_reducible apply stored_ite
  with_reducible assumption
  with_reducible apply State.trip_stored
  with_reducible assumption
  exact kf.sub rfl
  with_reducible apply State.put_stored
  with_reducible assumption
  exact kf.get rfl
  with_reducible apply State.showStill_stored
  with_reducible assumption
  exact kf.sub rfl

theorem State.judgeArm_stored {s : State} {a : Fin 8} (hs : State.Stored q b s) (kf : b.free (postParts ++ [Part.reg RegGroup.port, Part.reg RegGroup.stp, Part.ports, Part.axes])) :
    State.Stored q b (State.judgeArm s a) := by
  unfold State.judgeArm
  with_reducible apply stored_foldl
  intro _ _ _
  with_reducible apply stored_ite
  with_reducible apply State.judgeTrip_stored
  with_reducible assumption
  exact kf.sub rfl
  with_reducible assumption
  with_reducible assumption

theorem State.showPin_stored {s : State} {n : Fin 64} (hs : State.Stored q b s) (kf : b.free [Part.reg RegGroup.port]) :
    State.Stored q b (State.showPin s n) := by
  unfold State.showPin
  with_reducible apply State.putB_stored
  with_reducible assumption
  exact kf.get rfl

theorem State.setPin_stored {s : State} {n : Fin 64} {active : Bool} (hs : State.Stored q b s) (kf : b.free [Part.reg RegGroup.port, Part.ports]) :
    State.Stored q b (State.setPin s n active) := by
  unfold State.setPin
  extract_lets +onlyGivenNames x; clear_value x
  with_reducible apply State.showPin_stored
  with_reducible apply State.setPort_stored
  with_reducible assumption
  exact kf.sub rfl
  exact kf.sub rfl

theorem State.shortPulse_stored {s : State} {t_ : Nat} {samples : Nat} (hs : State.Stored q b s) (kf : b.free [Part.now]) :
    State.Stored q b (State.shortPulse s t_ samples) := by
  unfold State.shortPulse
  with_reducible apply State.advance_stored
  with_reducible assumption
  exact kf.sub rfl

theorem execTripPinAssert_stored {n : Fin 64} {t_ : Nat} {samples : Nat} {s : State} (hs : State.Stored q b s) (kf : b.free (postParts ++ [Part.reg RegGroup.port, Part.reg RegGroup.stp, Part.now, Part.ports, Part.axes])) :
    answers (execTripPinAssert n t_ samples s) (State.Stored q b) := by
  unfold execTripPinAssert
  extract_lets +onlyGivenNames x; clear_value x
  extract_lets +onlyGivenNames x; refine (fun (hx : State.Stored q b x) => ?_) ?_ <;> [(try clear_value x); subst x]
  extract_lets +onlyGivenNames x; clear_value x
  extract_lets +onlyGivenNames x; refine (fun (hx : State.Stored q b x) => ?_) ?_ <;> [(try clear_value x); subst x]
  with_reducible apply answers_ite
  with_reducible apply answers_next
  with_reducible apply State.shortPulse_stored
  with_reducible assumption
  exact kf.sub rfl
  with_reducible apply answers_next
  with_reducible apply State.judgeArm_stored
  with_reducible apply stored_ite
  with_reducible apply State.advance_stored
  with_reducible assumption
  exact kf.sub rfl
  with_reducible assumption
  exact kf.sub rfl
  with_reducible apply State.judgeTrip_stored
  with_reducible apply State.setPort_stored
  with_reducible assumption
  exact kf.sub rfl
  exact kf.sub rfl
  with_reducible apply State.advance_stored
  with_reducible apply State.setPin_stored
  with_reducible assumption
  exact kf.sub rfl
  exact kf.sub rfl

theorem execTripPinRelease_stored {n : Fin 64} {t_ : Nat} {samples : Nat} {s : State} (hs : State.Stored q b s) (kf : b.free (postParts ++ [Part.reg RegGroup.port, Part.reg RegGroup.stp, Part.now, Part.ports, Part.axes])) :
    answers (execTripPinRelease n t_ samples s) (State.Stored q b) := by
  unfold execTripPinRelease
  extract_lets +onlyGivenNames x; clear_value x
  extract_lets +onlyGivenNames x; refine (fun (hx : State.Stored q b x) => ?_) ?_ <;> [(try clear_value x); subst x]
  extract_lets +onlyGivenNames x; clear_value x
  with_reducible apply answers_ite
  with_reducible apply answers_next
  with_reducible apply State.shortPulse_stored
  with_reducible assumption
  exact kf.sub rfl
  with_reducible apply answers_next
  with_reducible apply State.judgeArm_stored
  with_reducible apply State.setPort_stored
  with_reducible assumption
  exact kf.sub rfl
  exact kf.sub rfl
  with_reducible apply State.advance_stored
  with_reducible apply State.setPin_stored
  with_reducible assumption
  exact kf.sub rfl
  exact kf.sub rfl

theorem State.forceTrip_stored {s : State} {n : Fin 64} (hs : State.Stored q b s) (kf : b.free (postParts ++ [Part.reg RegGroup.port, Part.reg RegGroup.stp, Part.ports, Part.axes])) :
    State.Stored q b (State.forceTrip s n) := by
  unfold State.forceTrip
  with_reducible apply State.judgeTrip_stored
  with_reducible apply State.put_stored
  with_reducible assumption
  exact kf.get rfl
  exact kf.sub rfl

theorem execForceTripSet_stored {n : Fin 64} {s : State} (hs : State.Stored q b s) (kf : b.free (postParts ++ [Part.reg RegGroup.port, Part.reg RegGroup.stp, Part.ports, Part.axes])) :
    answers (execForceTripSet n s) (State.Stored q b) := by
  unfold execForceTripSet
  with_reducible apply answers_next
  with_reducible apply State.forceTrip_stored
  with_reducible assumption
  exact kf.sub rfl

theorem execForceTripClear_stored {n : Fin 64} {s : State} (hs : State.Stored q b s) (kf : b.free [Part.reg RegGroup.port]) :
    answers (execForceTripClear n s) (State.Stored q b) := by
  unfold execForceTripClear
  with_reducible apply answers_next
  with_reducible apply State.showStill_stored
  with_reducible apply State.put_stored
  with_reducible assumption
  exact kf.get rfl
  exact kf.sub rfl

theorem execClrTrip_stored {n : Fin 64} {s : State} (hs : State.Stored q b s) (kf : b.free (postParts ++ [Part.reg RegGroup.port, Part.ports])) :
    answers (execClrTrip n s) (State.Stored q b) := by
  unfold execClrTrip
  extract_lets +onlyGivenNames x; refine (fun (hx : State.Stored q b x) => ?_) ?_ <;> [(try clear_value x); subst x]
  extract_lets +onlyGivenNames x; refine (fun (hx : State.Stored q b x) => ?_) ?_ <;> [(try clear_value x); subst x]
  extract_lets +onlyGivenNames x; refine (fun (hx : State.Stored q b x) => ?_) ?_ <;> [(try clear_value x); subst x]
  extract_lets +onlyGivenNames x; clear_value x
  with_reducible apply answers_ite
  with_reducible apply answers_next
  with_reducible apply State.post_stored
  with_reducible assumption
  exact kf.sub rfl
  with_reducible apply answers_ite
  with_reducible apply answers_next
  with_reducible apply State.updPort_stored
  with_reducible assumption
  exact kf.sub rfl
  with_reducible apply answers_next
  with_reducible assumption
  with_reducible apply State.put_stored
  with_reducible assumption
  exact kf.get rfl
  with_reducible apply State.showStill_stored
  with_reducible apply State.put_stored
  with_reducible apply State.put_stored
  with_reducible assumption
  exact kf.get rfl
  exact kf.get rfl
  exact kf.sub rfl
  with_reducible apply State.showStill_stored
  with_reducible apply State.flag_stored
  with_reducible assumption
  exact kf.get rfl
  exact kf.sub rfl

theorem execActiveShort_stored {n : Fin 64} {s : State} (hs : State.Stored q b s) (kf : b.free [Part.reg RegGroup.port, Part.now, Part.ports]) :
    answers (execActiveShort n s) (State.Stored q b) := by
  unfold execActiveShort
  split
  with_reducible apply answers_next
  with_reducible assumption
  extract_lets +onlyGivenNames x; refine (fun (hx : State.Stored q b x) => ?_) ?_ <;> [(try clear_value x); subst x]
  extract_lets +onlyGivenNames x; clear_value x
  extract_lets +onlyGivenNames x; clear_value x
  extract_lets +onlyGivenNames x; subst x
  extract_lets +onlyGivenNames x; clear_value x
  with_reducible apply answers_ite
  with_reducible apply answers_next
  with_reducible apply State.updPort_stored
  with_reducible assumption
  exact kf.sub rfl
  with_reducible apply answers_next
  with_reducible apply State.setPort_stored
  with_reducible assumption
  exact kf.sub rfl
  with_reducible apply State.advance_stored
  with_reducible assumption
  exact kf.sub rfl

theorem State.armPort_stored {s : State} {n : Fin 64} (hs : State.Stored q b s) (kf : b.free (postParts ++ [Part.reg RegGroup.port, Part.ports, Part.boot])) :
    State.Stored q b (State.armPort s n) := by
  unfold State.armPort
  extract_lets +onlyGivenNames x; clear_value x
  with_reducible apply stored_ite
  with_reducible assumption
  with_reducible apply stored_ite
  with_reducible apply State.updArmed_stored
  with_reducible apply State.updPort_stored
  with_reducible apply State.put_stored
  with_reducible apply State.put_stored
  with_reducible assumption
  exact kf.get rfl
  exact kf.get rfl
  exact kf.sub rfl
  exact kf.sub rfl
  with_reducible apply State.flag_stored
  with_reducible assumption
  exact kf.get rfl

theorem execPwmArm_stored {n : Fin 64} {s : State} (hs : State.Stored q b s) (kf : b.free (postParts ++ [Part.reg RegGroup.port, Part.ports, Part.boot])) :
    answers (execPwmArm n s) (State.Stored q b) := by
  unfold execPwmArm
  with_reducible apply answers_next
  with_reducible apply State.armPort_stored
  with_reducible assumption
  exact kf.sub rfl

theorem State.disarmPort_stored {s : State} {n : Fin 64} (hs : State.Stored q b s) (kf : b.free [Part.reg RegGroup.port, Part.ports]) :
    State.Stored q b (State.disarmPort s n) := by
  unfold State.disarmPort
  extract_lets +onlyGivenNames x; clear_value x
  with_reducible apply State.showStillArm_stored
  with_reducible apply State.updPort_stored
  with_reducible apply State.put_stored
  with_reducible apply State.put_stored
  with_reducible assumption
  exact kf.get rfl
  exact kf.get rfl
  exact kf.sub rfl
  exact kf.sub rfl

theorem execPwmDisarm_stored {n : Fin 64} {s : State} (hs : State.Stored q b s) (kf : b.free [Part.reg RegGroup.port, Part.ports]) :
    answers (execPwmDisarm n s) (State.Stored q b) := by
  unfold execPwmDisarm
  with_reducible apply answers_next
  with_reducible apply State.disarmPort_stored
  with_reducible assumption
  exact kf.sub rfl

theorem execPwmRunSet_stored {n : Fin 64} {s : State} (hs : State.Stored q b s) (kf : b.free [Part.reg RegGroup.port]) :
    answers (execPwmRunSet n s) (State.Stored q b) := by
  unfold execPwmRunSet
  with_reducible apply answers_next
  with_reducible apply State.put_stored
  with_reducible assumption
  exact kf.get rfl

theorem execPwmRunClear_stored {n : Fin 64} {s : State} (hs : State.Stored q b s) (kf : b.free [Part.reg RegGroup.port, Part.ports]) :
    answers (execPwmRunClear n s) (State.Stored q b) := by
  unfold execPwmRunClear
  extract_lets +onlyGivenNames x; clear_value x
  with_reducible apply answers_next
  with_reducible apply State.setPort_stored
  with_reducible apply State.put_stored
  with_reducible assumption
  exact kf.get rfl
  exact kf.sub rfl

theorem State.setWritable_stored {s : State} {r : Reg} {v : Word} (hs : State.Stored q b s) (kf : b.keep (.reg r.group) = false) :
    State.Stored q b (s.setWritable r v) :=
  State.wr_stored hs kf

theorem execPwmConfigWrite_stored {n : Fin 64} {r : PortCfg} {v : Word} {s : State} (hs : State.Stored q b s) (kf : b.free (postParts ++ [Part.reg RegGroup.port, Part.reg RegGroup.stp, Part.ports, Part.axes])) :
    answers (execPwmConfigWrite n r v s) (State.Stored q b) := by
  unfold execPwmConfigWrite
  with_reducible apply answers_ite
  with_reducible apply answers_next
  with_reducible apply State.judgeArm_stored
  with_reducible apply State.showPin_stored
  with_reducible apply State.setWritable_stored
  with_reducible assumption
  (with_reducible rw [portCfgReg_group]); exact kf.get rfl
  exact kf.sub rfl
  exact kf.sub rfl
  with_reducible apply answers_next
  with_reducible apply State.flag_stored
  with_reducible assumption
  exact kf.get rfl

theorem State.takePost_stored {s : State} {n : Fin 64} {pl : Fin 2} {words : List (Nat × Nat)} (hs : State.Stored q b s) (kf : b.free [Part.ports]) :
    State.Stored q b (State.takePost s n pl words) := by
  unfold State.takePost
  extract_lets +onlyGivenNames x; clear_value x
  extract_lets +onlyGivenNames x; clear_value x
  extract_lets +onlyGivenNames x; clear_value x
  with_reducible apply State.setPort_stored
  with_reducible assumption
  exact kf.sub rfl

theorem State.commitEw_stored {s : State} {n : Fin 64} {planes : List (Fin 2)} {c : Nat} (hs : State.Stored q b s) (kf : b.free [Part.reg RegGroup.port, Part.ports]) :
    State.Stored q b (State.commitEw s n planes c) := by
  unfold State.commitEw
  extract_lets +onlyGivenNames x; subst x
  with_reducible apply stored_ite
  with_reducible apply stored_ite
  with_reducible apply stored_foldl
  intro _ _ _
  with_reducible apply State.takePost_stored
  with_reducible assumption
  exact kf.sub rfl
  with_reducible assumption
  with_reducible assumption
  with_reducible apply stored_ite
  with_reducible assumption
  with_reducible apply State.flag_stored
  with_reducible assumption
  exact kf.get rfl

theorem execEwCommit_stored {n : Fin 64} {by_ : Agent} {c : BitVec 16} {s : State} (hs : State.Stored q b s) (kf : b.free [Part.reg RegGroup.port, Part.ports]) :
    answers (execEwCommit n by_ c s) (State.Stored q b) := by
  unfold execEwCommit
  with_reducible apply answers_next
  with_reducible apply State.commitEw_stored
  with_reducible assumption
  exact kf.sub rfl

theorem State.evalLeg_stored {s : State} {n : Fin 64} {first : Bool} {words : List (Nat × Nat)} {l : Fin 4} {acc : State × List (Fin 4 × LegPlan)} (hs : State.Stored q b s) (hacc : State.Stored q b acc.1) (kf : b.free [Part.reg RegGroup.port, Part.ports]) :
    State.Stored q b (State.evalLeg s n first words l acc).1 := by
  unfold State.evalLeg
  extract_lets +onlyGivenNames x; refine (fun (hx : State.Stored q b x) => ?_) ?_ <;> [(try clear_value x); subst x]
  extract_lets +onlyGivenNames x; clear_value x
  extract_lets +onlyGivenNames x; clear_value x
  extract_lets +onlyGivenNames x; clear_value x
  extract_lets +onlyGivenNames x; clear_value x
  simp -zeta only
  extract_lets +onlyGivenNames x; refine (fun (hx : State.Stored q b x) => ?_) ?_ <;> [(try clear_value x); subst x]
  extract_lets +onlyGivenNames x; refine (fun (hx : State.Stored q b x) => ?_) ?_ <;> [(try clear_value x); subst x]
  extract_lets +onlyGivenNames x; clear_value x
  extract_lets +onlyGivenNames x; refine (fun (hx : State.Stored q b x) => ?_) ?_ <;> [(try clear_value x); subst x]
  split
  split
  simp -zeta only
  with_reducible apply State.setPort_stored
  with_reducible assumption
  exact kf.sub rfl
  simp -zeta only
  with_reducible apply State.setPort_stored
  with_reducible assumption
  exact kf.sub rfl
  simp -zeta only
  with_reducible apply State.setPort_stored
  with_reducible assumption
  exact kf.sub rfl
  with_reducible apply State.flag_stored
  with_reducible apply stored_ite
  with_reducible apply State.flag_stored
  with_reducible assumption
  exact kf.get rfl
  with_reducible assumption
  exact kf.get rfl
  with_reducible apply stored_ite
  with_reducible apply State.bump_stored
  with_reducible apply State.flag_stored
  with_reducible assumption
  exact kf.get rfl
  exact kf.get rfl
  with_reducible assumption
  with_reducible apply stored_ite
  with_reducible apply State.flag_stored
  with_reducible assumption
  exact kf.get rfl
  with_reducible assumption
  with_reducible assumption

theorem State.evalFrame_stored {s : State} {n : Fin 64} {first : Bool} {words : List (Nat × Nat)} (hs : State.Stored q b s) (kf : b.free [Part.reg RegGroup.port, Part.ports]) :
    State.Stored q b (State.evalFrame s n first words).1 := by
  unfold State.evalFrame
  with_reducible apply stored_foldl_fst
  intro _ _ _
  with_reducible apply State.evalLeg_stored
  with_reducible assumption
  with_reducible assumption
  exact kf.sub rfl
  simp -zeta only
  with_reducible assumption

theorem State.choose_stored {s : State} {n : Fin 64} {w : Option Post} {fresh : Bool} (hs : State.Stored q b s) (kf : b.free [Part.reg RegGroup.port, Part.ports]) :
    State.Stored q b (State.choose s n w fresh) := by
  unfold State.choose
  extract_lets +onlyGivenNames x; clear_value x
  extract_lets +onlyGivenNames x; clear_value x
  extract_lets +onlyGivenNames x; clear_value x
  simp -zeta only
  split
  with_reducible apply State.setPort_stored
  with_reducible assumption
  exact kf.sub rfl
  extract_lets +onlyGivenNames x; clear_value x
  with_reducible apply stored_ite
  with_reducible apply State.setPort_stored
  with_reducible apply State.evalFrame_stored
  with_reducible assumption
  exact kf.sub rfl
  exact kf.sub rfl
  with_reducible apply State.setPort_stored
  with_reducible assumption
  exact kf.sub rfl

theorem State.comparePosts_stored {s : State} {n : Fin 64} (hs : State.Stored q b s) (kf : b.free [Part.pc]) :
    State.Stored q b (State.comparePosts s n) := by
  unfold State.comparePosts
  extract_lets +onlyGivenNames x; clear_value x
  with_reducible apply stored_ite
  with_reducible apply State.finding_stored
  with_reducible assumption
  exact kf.sub rfl
  with_reducible assumption

theorem execCutOffEdge_stored {n : Fin 64} {s : State} (hs : State.Stored q b s) (kf : b.free [Part.reg RegGroup.port, Part.now, Part.ports, Part.pc, Part.boot]) :
    answers (execCutOffEdge n s) (State.Stored q b) := by
  unfold execCutOffEdge
  extract_lets +onlyGivenNames x; refine (fun (hx : State.Stored q b x) => ?_) ?_ <;> [(try clear_value x); subst x]
  extract_lets +onlyGivenNames x; clear_value x
  extract_lets +onlyGivenNames x; refine (fun (hx : State.Stored q b x) => ?_) ?_ <;> [(try clear_value x); subst x]
  with_reducible apply answers_ite
  with_reducible apply answers_next
  with_reducible assumption
  split
  extract_lets +onlyGivenNames x; refine (fun (hx : State.Stored q b x) => ?_) ?_ <;> [(try clear_value x); subst x]
  with_reducible apply answers_ite
  with_reducible apply answers_next
  with_reducible apply State.choose_stored
  with_reducible assumption
  exact kf.sub rfl
  with_reducible apply answers_next
  with_reducible apply State.choose_stored
  with_reducible assumption
  exact kf.sub rfl
  with_reducible apply stored_ite
  with_reducible apply State.flag_stored
  with_reducible assumption
  exact kf.get rfl
  with_reducible assumption
  with_reducible apply answers_next
  with_reducible apply State.choose_stored
  with_reducible assumption
  exact kf.sub rfl
  with_reducible apply stored_ite
  with_reducible apply State.mishap_stored
  with_reducible apply State.bump_stored
  with_reducible apply State.flag_stored
  with_reducible assumption
  exact kf.get rfl
  exact kf.get rfl
  exact kf.sub rfl
  with_reducible assumption
  with_reducible apply State.comparePosts_stored
  with_reducible apply State.advance_stored
  with_reducible assumption
  exact kf.sub rfl
  exact kf.sub rfl

theorem State.loadFrame_stored {s : State} {n : Fin 64} {c : Cand} {frame : Time} (hs : State.Stored q b s) (kf : b.free [Part.reg RegGroup.port, Part.ports]) :
    State.Stored q b (State.loadFrame s n c frame) := by
  unfold State.loadFrame
  extract_lets +onlyGivenNames x; clear_value x
  extract_lets +onlyGivenNames x; clear_value x
  extract_lets +onlyGivenNames x; refine (fun (hx : State.Stored q b x) => ?_) ?_ <;> [(try clear_value x); subst x]
  with_reducible apply stored_foldl
  intro _ _ _
  with_reducible apply State.wr_stored
  with_reducible apply State.wr_stored
  with_reducible assumption
  exact kf.get rfl
  exact kf.get rfl
  with_reducible assumption
  with_reducible apply State.setPort_stored
  with_reducible assumption
  exact kf.sub rfl

theorem execLoadEdge_stored {n : Fin 64} {s : State} (hs : State.Stored q b s) (kf : b.free [Part.reg RegGroup.port, Part.now, Part.ports]) :
    answers (execLoadEdge n s) (State.Stored q b) := by
  unfold execLoadEdge
  extract_lets +onlyGivenNames x; clear_value x
  extract_lets +onlyGivenNames x; refine (fun (hx : State.Stored q b x) => ?_) ?_ <;> [(try clear_value x); subst x]
  extract_lets +onlyGivenNames x; clear_value x
  extract_lets +onlyGivenNames x; clear_value x
  simp -zeta only
  split
  with_reducible apply answers_next
  with_reducible assumption
  extract_lets +onlyGivenNames x; refine (fun (hx : State.Stored q b x) => ?_) ?_ <;> [(try clear_value x); subst x]
  extract_lets +onlyGivenNames x; refine (fun (hx : State.Stored q b x) => ?_) ?_ <;> [(try clear_value x); subst x]
  extract_lets +onlyGivenNames x; refine (fun (hx : State.Stored q b x) => ?_) ?_ <;> [(try clear_value x); subst x]
  extract_lets +onlyGivenNames x; clear_value x
  with_reducible apply answers_ite
  with_reducible apply answers_ite
  with_reducible apply answers_next
  with_reducible apply State.setPort_stored
  with_reducible apply State.put_stored
  with_reducible assumption
  exact kf.get rfl
  exact kf.sub rfl
  with_reducible apply answers_next
  with_reducible apply State.loadFrame_stored
  with_reducible assumption
  exact kf.sub rfl
  split
  extract_lets +onlyGivenNames x; clear_value x
  extract_lets +onlyGivenNames x; refine (fun (hx : State.Stored q b x) => ?_) ?_ <;> [(try clear_value x); subst x]
  with_reducible apply answers_next
  with_reducible apply State.loadFrame_stored
  with_reducible assumption
  exact kf.sub rfl
  with_reducible apply State.setPort_stored
  with_reducible apply State.put_stored
  split
  with_reducible apply State.evalFrame_stored
  with_reducible assumption
  exact kf.sub rfl
  simp -zeta only
  with_reducible assumption
  exact kf.get rfl
  exact kf.sub rfl
  with_reducible apply answers_next
  with_reducible assumption
  with_reducible apply State.putB_stored
  with_reducible assumption
  exact kf.get rfl
  split
  with_reducible apply State.put_stored
  with_reducible apply State.put_stored
  with_reducible assumption
  exact kf.get rfl
  exact kf.get rfl
  with_reducible assumption
  with_reducible apply State.setPort_stored
  with_reducible assumption
  exact kf.sub rfl
  with_reducible apply State.advance_stored
  with_reducible assumption
  exact kf.sub rfl

theorem State.launchTap_stored {s : State} {n : Fin 64} {l : Fin 4} {high : Bool} {t_ : Time} (hs : State.Stored q b s) (kf : b.free [Part.ports]) :
    State.Stored q b (State.launchTap s n l high t_) := by
  unfold State.launchTap
  extract_lets +onlyGivenNames x; clear_value x
  extract_lets +onlyGivenNames x; clear_value x
  extract_lets +onlyGivenNames x; clear_value x
  with_reducible apply State.setPort_stored
  with_reducible assumption
  exact kf.sub rfl

theorem State.moveLeg_stored {s : State} {n : Fin 64} {l : Fin 4} {t_ : Time} {g : Leg} (hs : State.Stored q b s) (kf : b.free [Part.reg RegGroup.port, Part.ports]) :
    State.Stored q b (State.moveLeg s n l t_ g) := by
  unfold State.moveLeg
  extract_lets +onlyGivenNames x; clear_value x
  extract_lets +onlyGivenNames x; refine (fun (hx : State.Stored q b x) => ?_) ?_ <;> [(try clear_value x); subst x]
  extract_lets +onlyGivenNames x; refine (fun (hx : State.Stored q b x) => ?_) ?_ <;> [(try clear_value x); subst x]
  with_reducible apply State.updPort_stored
  with_reducible assumption
  exact kf.sub rfl
  with_reducible apply stored_ite
  with_reducible assumption
  with_reducible apply State.launchTap_stored
  with_reducible assumption
  exact kf.sub rfl
  with_reducible apply stored_ite
  with_reducible assumption
  with_reducible apply State.launchTap_stored
  with_reducible assumption
  exact kf.sub rfl

theorem execLegEdge_stored {n : Fin 64} {l : Fin 4} {s : State} (hs : State.Stored q b s) (kf : b.free [Part.reg RegGroup.port, Part.now, Part.ports]) :
    answers (execLegEdge n l s) (State.Stored q b) := by
  unfold execLegEdge
  extract_lets +onlyGivenNames x; clear_value x
  split
  with_reducible apply answers_next
  with_reducible assumption
  extract_lets +onlyGivenNames x; refine (fun (hx : State.Stored q b x) => ?_) ?_ <;> [(try clear_value x); subst x]
  with_reducible apply answers_next
  with_reducible apply State.moveLeg_stored
  with_reducible assumption
  exact kf.sub rfl
  with_reducible apply State.advance_stored
  with_reducible assumption
  exact kf.sub rfl

theorem execDeadTimeExpiry_stored {n : Fin 64} {l : Fin 4} {high : Bool} {s : State} (hs : State.Stored q b s) (kf : b.free [Part.reg RegGroup.port, Part.now, Part.ports]) :
    answers (execDeadTimeExpiry n l high s) (State.Stored q b) := by
  unfold execDeadTimeExpiry
  extract_lets +onlyGivenNames x; clear_value x
  split
  with_reducible apply answers_next
  with_reducible assumption
  extract_lets +onlyGivenNames x; refine (fun (hx : State.Stored q b x) => ?_) ?_ <;> [(try clear_value x); subst x]
  with_reducible apply answers_next
  with_reducible apply State.moveLeg_stored
  with_reducible assumption
  exact kf.sub rfl
  with_reducible apply State.advance_stored
  with_reducible assumption
  exact kf.sub rfl

theorem State.showMaxTap_stored {s : State} {n : Fin 64} (hs : State.Stored q b s) (kf : b.free [Part.reg RegGroup.port]) :
    State.Stored q b (State.showMaxTap s n) := by
  unfold State.showMaxTap
  with_reducible apply State.put_stored
  with_reducible assumption
  exact kf.get rfl

theorem execCalRoundDone_stored {n : Fin 64} {line : Fin 6} {hist : List Nat} {s : State} (hs : State.Stored q b s) (kf : b.free (postParts ++ [Part.reg RegGroup.port, Part.ports])) :
    answers (execCalRoundDone n line hist s) (State.Stored q b) := by
  unfold execCalRoundDone
  extract_lets +onlyGivenNames x; clear_value x
  extract_lets +onlyGivenNames x; clear_value x
  extract_lets +onlyGivenNames x; clear_value x
  extract_lets +onlyGivenNames x; clear_value x
  extract_lets +onlyGivenNames x; clear_value x
  extract_lets +onlyGivenNames x; refine (fun (hx : State.Stored q b x) => ?_) ?_ <;> [(try clear_value x); subst x]
  extract_lets +onlyGivenNames x; refine (fun (hx : State.Stored q b x) => ?_) ?_ <;> [(try clear_value x); subst x]
  extract_lets +onlyGivenNames x; refine (fun (hx : State.Stored q b x) => ?_) ?_ <;> [(try clear_value x); subst x]
  with_reducible apply answers_ite
  with_reducible apply answers_next
  with_reducible apply State.post_stored
  with_reducible assumption
  exact kf.sub rfl
  with_reducible apply answers_next
  with_reducible apply State.showMaxTap_stored
  with_reducible apply State.setPort_stored
  with_reducible assumption
  exact kf.sub rfl
  exact kf.sub rfl
  with_reducible apply State.flag_stored
  with_reducible assumption
  exact kf.get rfl
  with_reducible apply State.showMaxTap_stored
  with_reducible apply State.setPort_stored
  with_reducible assumption
  exact kf.sub rfl
  exact kf.sub rfl
  with_reducible apply State.put_stored
  with_reducible assumption
  exact kf.get rfl

theorem execCalMapInstall_stored {n : Fin 64} {line : Fin 6} {s : State} (hs : State.Stored q b s) (kf : b.free [Part.reg RegGroup.port, Part.ports]) :
    answers (execCalMapInstall n line s) (State.Stored q b) := by
  unfold execCalMapInstall
  extract_lets +onlyGivenNames x; clear_value x
  extract_lets +onlyGivenNames x; clear_value x
  split
  with_reducible apply answers_next
  with_reducible assumption
  extract_lets +onlyGivenNames x; clear_value x
  extract_lets +onlyGivenNames x; refine (fun (hx : State.Stored q b x) => ?_) ?_ <;> [(try clear_value x); subst x]
  with_reducible apply answers_next
  with_reducible apply State.putB_stored
  with_reducible assumption
  exact kf.get rfl
  with_reducible apply State.setPort_stored
  with_reducible assumption
  exact kf.sub rfl

theorem State.releasePins_stored {s : State} {k : Fin 5} (hs : State.Stored q b s) (kf : b.free [Part.reg RegGroup.clk]) :
    State.Stored q b (State.releasePins s k) := by
  unfold State.releasePins
  with_reducible apply stored_ite
  with_reducible apply State.put_stored
  with_reducible assumption
  exact kf.get rfl
  with_reducible apply State.flag_stored
  with_reducible assumption
  exact kf.get rfl

theorem execPinRelTime_stored {s : State} (hs : State.Stored q b s) (kf : b.free [Part.reg RegGroup.clk]) :
    answers (execPinRelTime s) (State.Stored q b) := by
  unfold execPinRelTime
  with_reducible apply answers_next
  with_reducible apply State.releasePins_stored
  with_reducible assumption
  exact kf.sub rfl

theorem execPinRelSdclk_stored {s : State} (hs : State.Stored q b s) (kf : b.free [Part.reg RegGroup.clk]) :
    answers (execPinRelSdclk s) (State.Stored q b) := by
  unfold execPinRelSdclk
  with_reducible apply answers_next
  with_reducible apply State.releasePins_stored
  with_reducible assumption
  exact kf.sub rfl

theorem execPinRelFbo_stored {s : State} (hs : State.Stored q b s) (kf : b.free [Part.reg RegGroup.clk]) :
    answers (execPinRelFbo s) (State.Stored q b) := by
  unfold execPinRelFbo
  with_reducible apply answers_next
  with_reducible apply State.releasePins_stored
  with_reducible assumption
  exact kf.sub rfl

theorem execPinRelStep_stored {s : State} (hs : State.Stored q b s) (kf : b.free [Part.reg RegGroup.clk]) :
    answers (execPinRelStep s) (State.Stored q b) := by
  unfold execPinRelStep
  with_reducible apply answers_next
  with_reducible apply State.releasePins_stored
  with_reducible assumption
  exact kf.sub rfl

theorem execPinRelGate_stored {s : State} (hs : State.Stored q b s) (kf : b.free [Part.reg RegGroup.clk]) :
    answers (execPinRelGate s) (State.Stored q b) := by
  unfold execPinRelGate
  with_reducible apply answers_next
  with_reducible apply State.releasePins_stored
  with_reducible assumption
  exact kf.sub rfl

theorem execIslClkWrite_stored {v : Word} {s : State} (hs : State.Stored q b s) (kf : b.free [Part.reg RegGroup.clk]) :
    answers (execIslClkWrite v s) (State.Stored q b) := by
  unfold execIslClkWrite
  extract_lets +onlyGivenNames x; clear_value x
  extract_lets +onlyGivenNames x; clear_value x
  with_reducible apply answers_ite
  with_reducible apply answers_next
  with_reducible apply State.flag_stored
  with_reducible assumption
  exact kf.get rfl
  with_reducible apply answers_next
  with_reducible apply State.put_stored
  with_reducible apply State.put_stored
  with_reducible assumption
  exact kf.get rfl
  exact kf.get rfl

theorem execPeriodSelWrite_stored {long : Bool} {s : State} (hs : State.Stored q b s) (kf : b.free [Part.reg RegGroup.clk, Part.seq]) :
    answers (execPeriodSelWrite long s) (State.Stored q b) := by
  have k_seq : b.keep .seq = false := kf.get rfl
  unfold execPeriodSelWrite
  extract_lets +onlyGivenNames x; refine (fun (hx : State.Stored q b x) => ?_) ?_ <;> [(try clear_value x); subst x]
  extract_lets +onlyGivenNames x; clear_value x
  with_reducible apply answers_ite
  with_reducible apply answers_next
  with_reducible apply State.flag_stored
  with_reducible assumption
  exact kf.get rfl
  with_reducible apply answers_ite
  with_reducible apply answers_next
  simp -zeta only [stored_mk, k_seq, or_true, true_or]
  with_reducible assumption
  with_reducible apply answers_next
  with_reducible assumption
  with_reducible apply State.putB_stored
  with_reducible assumption
  exact kf.get rfl

theorem State.toHoldover_stored {s : State} (hs : State.Stored q b s) (kf : b.free [Part.reg RegGroup.tb, Part.time, Part.chain]) :
    State.Stored q b (State.toHoldover s) := by
  have k_chain : b.keep .chain = false := kf.get rfl
  have k_time : b.keep .time = false := kf.get rfl
  unfold State.toHoldover
  extract_lets +onlyGivenNames x; refine (fun (hx : State.Stored q b x) => ?_) ?_ <;> [(try clear_value x); subst x]
  extract_lets +onlyGivenNames x; clear_value x
  extract_lets +onlyGivenNames x; clear_value x
  with_reducible apply stored_ite
  simp -zeta only [stored_mk, k_chain, k_time, or_true, true_or]
  with_reducible assumption
  with_reducible assumption
  with_reducible apply State.put_stored
  with_reducible assumption
  exact kf.get rfl

theorem execRefLoss_stored {s : State} (hs : State.Stored q b s) (kf : b.free (postParts ++ [Part.reg RegGroup.clk, Part.reg RegGroup.tb, Part.time, Part.chain])) :
    answers (execRefLoss s) (State.Stored q b) := by
  have k_time : b.keep .time = false := kf.get rfl
  unfold execRefLoss
  extract_lets +onlyGivenNames x; refine (fun (hx : State.Stored q b x) => ?_) ?_ <;> [(try clear_value x); subst x]
  extract_lets +onlyGivenNames x; clear_value x
  extract_lets +onlyGivenNames x; refine (fun (hx : State.Stored q b x) => ?_) ?_ <;> [(try clear_value x); subst x]
  with_reducible apply answers_next
  with_reducible apply State.toHoldover_stored
  with_reducible apply State.post_stored
  with_reducible assumption
  exact kf.sub rfl
  exact kf.sub rfl
  simp -zeta only [stored_mk, k_time, or_true, true_or]
  with_reducible assumption
  with_reducible apply State.flag_stored
  with_reducible apply State.flag_stored
  with_reducible assumption
  exact kf.get rfl
  exact kf.get rfl

theorem State.reacquire_stored {s : State} (hs : State.Stored q b s) (kf : b.free [Part.reg RegGroup.tb, Part.time, Part.chain]) :
    State.Stored q b (State.reacquire s) := by
  have k_chain : b.keep .chain = false := kf.get rfl
  have k_time : b.keep .time = false := kf.get rfl
  unfold State.reacquire
  extract_lets +onlyGivenNames x; refine (fun (hx : State.Stored q b x) => ?_) ?_ <;> [(try clear_value x); subst x]
  extract_lets +onlyGivenNames x; clear_value x
  extract_lets +onlyGivenNames x; clear_value x
  with_reducible apply stored_ite
  simp -zeta only [stored_mk, k_chain, k_time, or_true, true_or]
  with_reducible assumption
  with_reducible assumption
  with_reducible apply State.put_stored
  with_reducible assumption
  exact kf.get rfl

theorem State.timeResume_stored {s : State} (hs : State.Stored q b s) (kf : b.free [Part.reg RegGroup.tb, Part.time, Part.chain]) :
    State.Stored q b (State.timeResume s) := by
  unfold State.timeResume
  with_reducible apply stored_ite
  with_reducible apply State.toHoldover_stored
  with_reducible assumption
  exact kf.sub rfl
  with_reducible apply State.reacquire_stored
  with_reducible assumption
  exact kf.sub rfl

theorem execPllRelock_stored {s : State} (hs : State.Stored q b s) (kf : b.free [Part.reg RegGroup.clk, Part.reg RegGroup.tb, Part.time, Part.chain]) :
    answers (execPllRelock s) (State.Stored q b) := by
  have k_time : b.keep .time = false := kf.get rfl
  unfold execPllRelock
  extract_lets +onlyGivenNames x; refine (fun (hx : State.Stored q b x) => ?_) ?_ <;> [(try clear_value x); subst x]
  extract_lets +onlyGivenNames x; clear_value x
  with_reducible apply answers_next
  with_reducible apply State.reacquire_stored
  simp -zeta only [stored_mk, k_time, or_true, true_or]
  with_reducible assumption
  exact kf.sub rfl
  with_reducible apply State.put_stored
  with_reducible assumption
  exact kf.get rfl

theorem execPllFirstLock_stored {s : State} (hs : State.Stored q b s) (kf : b.free [Part.reg RegGroup.clk]) :
    answers (execPllFirstLock s) (State.Stored q b) := by
  unfold execPllFirstLock
  with_reducible apply answers_ite
  with_reducible apply answers_next
  with_reducible assumption
  with_reducible apply answers_next
  with_reducible apply State.flag_stored
  with_reducible assumption
  exact kf.get rfl

theorem execTimeBaseStart_stored {s : State} (hs : State.Stored q b s) (kf : b.free [Part.reg RegGroup.clk, Part.now, Part.seq, Part.time]) :
    answers (execTimeBaseStart s) (State.Stored q b) := by
  have k_seq : b.keep .seq = false := kf.get rfl
  have k_time : b.keep .time = false := kf.get rfl
  unfold execTimeBaseStart
  extract_lets +onlyGivenNames x; refine (fun (hx : State.Stored q b x) => ?_) ?_ <;> [(try clear_value x); subst x]
  extract_lets +onlyGivenNames x; refine (fun (hx : State.Stored q b x) => ?_) ?_ <;> [(try clear_value x); subst x]
  extract_lets +onlyGivenNames x; clear_value x
  extract_lets +onlyGivenNames x; clear_value x
  with_reducible apply answers_ite
  with_reducible apply answers_next
  simp -zeta only [stored_mk, k_seq, k_time, or_true, true_or]
  with_reducible assumption
  with_reducible apply answers_next
  with_reducible assumption
  with_reducible apply State.wr_stored
  with_reducible assumption
  exact kf.get rfl
  with_reducible apply State.advance_stored
  with_reducible assumption
  exact kf.sub rfl

theorem State.setTile_stored {s : State} {t_ : Fin 32} {x : Tile} (hs : State.Stored q b s) (kf : b.free [Part.tiles]) :
    State.Stored q b (State.setTile s t_ x) := by
  have k_tiles : b.keep .tiles = false := kf.get rfl
  unfold State.setTile
  simp -zeta only [stored_mk, k_tiles, or_true, true_or]
  with_reducible assumption

theorem State.raise_stored {s : State} {n : Nat} (hs : State.Stored q b s) (kf : b.free [Part.ic]) : State.Stored q b (State.raise s n) := by
  have k_ic : b.keep .ic = false := kf.get rfl
  unfold State.raise
  extract_lets +onlyGivenNames x; clear_value x
  extract_lets +onlyGivenNames x; clear_value x
  with_reducible apply stored_ite
  with_reducible assumption
  simp -zeta only [stored_mk, k_ic, or_true, true_or]
  with_reducible assumption

theorem State.icRefresh_stored {s : State} {n : Fin 512} (hs : State.Stored q b s) (kf : b.free [Part.reg RegGroup.ic]) :
    State.Stored q b (State.icRefresh s n) := by
  unfold State.icRefresh
  with_reducible apply stored_ite
  with_reducible apply State.put_stored
  with_reducible assumption
  exact kf.get rfl
  with_reducible apply stored_ite
  with_reducible assumption
  with_reducible apply State.putB_stored
  with_reducible assumption
  exact kf.get rfl

theorem State.icTimers_stored {s : State} (hs : State.Stored q b s) (kf : b.free [Part.ic]) : State.Stored q b (State.icTimers s) := by
  have k_ic : b.keep .ic = false := kf.get rfl
  unfold State.icTimers
  extract_lets +onlyGivenNames x; clear_value x
  simp -zeta only [stored_mk, k_ic, or_true, true_or]
  with_reducible assumption

theorem State.noteIc_stored {s : State} {t_ : Fin 32} {done : Bool} {src : Nat} (hs : State.Stored q b s) (kf : b.free [Part.ic]) :
    State.Stored q b (State.noteIc s t_ done src) := by
  have k_ic : b.keep .ic = false := kf.get rfl
  unfold State.noteIc
  extract_lets +onlyGivenNames x; clear_value x
  extract_lets +onlyGivenNames x; clear_value x
  extract_lets +onlyGivenNames x; clear_value x
  with_reducible apply stored_ite
  split
  with_reducible apply stored_ite
  simp -zeta only [stored_mk, k_ic, or_true, true_or]
  with_reducible assumption
  simp -zeta only [stored_mk, k_ic, or_true, true_or]
  with_reducible assumption
  simp -zeta only [stored_mk, k_ic, or_true, true_or]
  with_reducible assumption
  with_reducible assumption

theorem State.icUnmark_stored {s : State} (hs : State.Stored q b s) (kf : b.free [Part.ic]) : State.Stored q b (State.icUnmark s) := by
  have k_ic : b.keep .ic = false := kf.get rfl
  unfold State.icUnmark
  extract_lets +onlyGivenNames x; clear_value x
  simp -zeta only [stored_mk, k_ic, or_true, true_or]
  with_reducible assumption

theorem State.icFree_stored {s : State} {t_ : Fin 64} (hs : State.Stored q b s) (kf : b.free [Part.reg RegGroup.ic, Part.ic]) :
    State.Stored q b (State.icFree s t_) := by
  unfold State.icFree
  extract_lets +onlyGivenNames x; clear_value x
  with_reducible apply State.icTimers_stored
  with_reducible apply State.icRefresh_stored
  with_reducible apply State.put_stored
  with_reducible apply State.put_stored
  with_reducible apply State.wr_stored
  with_reducible assumption
  exact kf.get rfl
  exact kf.get rfl
  exact kf.get rfl
  exact kf.sub rfl
  exact kf.sub rfl

theorem State.icTakeUp_stored {s : State} {t_ : Fin 64} (hs : State.Stored q b s) (kf : b.free [Part.reg RegGroup.ic]) :
    State.Stored q b (State.icTakeUp s t_) := by
  unfold State.icTakeUp
  extract_lets +onlyGivenNames x; clear_value x
  extract_lets +onlyGivenNames x; clear_value x
  extract_lets +onlyGivenNames x; refine (fun (hx : State.Stored q b x) => ?_) ?_ <;> [(try clear_value x); subst x]
  with_reducible apply stored_ite
  with_reducible assumption
  with_reducible apply State.bump_stored
  with_reducible assumption
  exact kf.get rfl
  with_reducible apply State.putB_stored
  with_reducible apply State.put_stored
  with_reducible assumption
  exact kf.get rfl
  exact kf.get rfl

theorem State.queue_stored {s : State} {t_ : Fin 32} {ws : List (Nat × EWrite)} (hs : State.Stored q b s) (kf : b.free [Part.tiles]) :
    State.Stored q b (State.queue s t_ ws) := by
  unfold State.queue
  with_reducible apply State.setTile_stored
  with_reducible assumption
  exact kf.sub rfl

theorem State.returnDelivery_stored {s : State} {t_ : Fin 32} (hs : State.Stored q b s) (kf : b.free [Part.reg RegGroup.ic, Part.tiles, Part.ic]) :
    State.Stored q b (State.returnDelivery s t_) := by
  unfold State.returnDelivery
  extract_lets +onlyGivenNames x; clear_value x
  extract_lets +onlyGivenNames x; refine (fun (hx : State.Stored q b x) => ?_) ?_ <;> [(try clear_value x); subst x]
  split
  with_reducible assumption
  with_reducible apply stored_ite
  with_reducible apply State.icFree_stored
  with_reducible assumption
  exact kf.sub rfl
  with_reducible assumption
  with_reducible apply State.setTile_stored
  with_reducible assumption
  exact kf.sub rfl

theorem State.endRun_stored {s : State} {t_ : Fin 32} {k : EndKind} (hs : State.Stored q b s) (kf : b.free [Part.reg RegGroup.ic, Part.tiles, Part.ic]) :
    State.Stored q b (State.endRun s t_ k) := by
  unfold State.endRun
  extract_lets +onlyGivenNames x; clear_value x
  extract_lets +onlyGivenNames x; clear_value x
  split
  with_reducible assumption
  with_reducible apply State.setTile_stored
  with_reducible assumption
  exact kf.sub rfl
  with_reducible apply State.returnDelivery_stored
  with_reducible apply State.setTile_stored
  with_reducible assumption
  exact kf.sub rfl
  exact kf.sub rfl

theorem State.tileFault_stored {s : State} {t_ : Fin 32} {code : Nat} {addr : Nat} (hs : State.Stored q b s) (kf : b.free [Part.reg RegGroup.ic, Part.tiles, Part.ic]) :
    State.Stored q b (State.tileFault s t_ code addr) := by
  unfold State.tileFault
  with_reducible apply State.endRun_stored
  with_reducible assumption
  exact kf.sub rfl

theorem State.gate_stored {s : State} {t_ : Fin 32} {mx : Bool} {forb : Bool} {size : Nat} {k : State → State} (hs : State.Stored q b s) (hk : ∀ s, State.Stored q b s → State.Stored q b (k s)) (kf : b.free [Part.reg RegGroup.ic, Part.tiles, Part.ic]) :
    State.Stored q b (State.gate s t_ mx forb size k) := by
  unfold State.gate
  extract_lets +onlyGivenNames x; clear_value x
  split
  split
  with_reducible apply State.tileFault_stored
  with_reducible assumption
  exact kf.sub rfl
  with_reducible apply stored_ite
  with_reducible apply State.tileFault_stored
  with_reducible assumption
  exact kf.sub rfl
  with_reducible apply stored_ite
  with_reducible apply State.tileFault_stored
  with_reducible assumption
  exact kf.sub rfl
  with_reducible apply hk
  with_reducible assumption
  with_reducible assumption

theorem State.land_stored {s : State} {t_ : Fin 32} {b_ : Branch} {after : Nat} (hs : State.Stored q b s) (kf : b.free [Part.reg RegGroup.ic, Part.tiles, Part.ic]) :
    State.Stored q b (State.land s t_ b_ after) := by
  unfold State.land
  extract_lets +onlyGivenNames x; clear_value x
  extract_lets +onlyGivenNames x; clear_value x
  extract_lets +onlyGivenNames x; clear_value x
  extract_lets +onlyGivenNames x; clear_value x
  split
  with_reducible apply State.setTile_stored
  with_reducible assumption
  exact kf.sub rfl
  extract_lets +onlyGivenNames x; refine (fun (hx : State.Stored q b x) => ?_) ?_ <;> [(try clear_value x); subst x]
  split
  with_reducible apply State.tileFault_stored
  with_reducible assumption
  exact kf.sub rfl
  with_reducible assumption
  with_reducible apply State.setTile_stored
  with_reducible assumption
  exact kf.sub rfl

theorem State.advanceTile_stored {s : State} {t_ : Fin 32} {size : Nat} {br : Option Branch} (hs : State.Stored q b s) (kf : b.free [Part.reg RegGroup.ic, Part.tiles, Part.ic]) :
    State.Stored q b (State.advanceTile s t_ size br) := by
  unfold State.advanceTile
  extract_lets +onlyGivenNames x; clear_value x
  split
  with_reducible apply State.setTile_stored
  with_reducible assumption
  exact kf.sub rfl
  with_reducible apply stored_ite
  with_reducible apply State.land_stored
  with_reducible assumption
  exact kf.sub rfl
  with_reducible apply State.setTile_stored
  with_reducible assumption
  exact kf.sub rfl

theorem State.ticks_stored {s : State} {t_ : Fin 32} {n : Nat} (hs : State.Stored q b s) (kf : b.free [Part.tiles]) :
    State.Stored q b (State.ticks s t_ n) := by
  unfold State.ticks
  with_reducible apply State.setTile_stored
  with_reducible assumption
  exact kf.sub rfl

theorem State.runN_stored {t : Fin 32} {size cycles : Nat} {br : Option Branch} {f : State → State}
  (hf : ∀ s, State.Stored q b s → State.Stored q b (f s)) {n : Nat} {s : State} (hs : State.Stored q b s) (kf :
    b.free [Part.reg RegGroup.ic, Part.tiles, Part.ic]) :
  State.Stored q b (State.runN t size cycles br f n s) := by
  induction n generalizing s with
  | zero =>
    have h := hf _ (State.setTile_stored (t_ := t) (x := { s.tile t with rep := none }) hs (kf.sub rfl))
    unfold State.runN
    dsimp only
    split
    · exact h
    · split
      · exact State.advanceTile_stored h (kf.sub rfl)
      · exact State.ticks_stored (State.advanceTile_stored h (kf.sub rfl)) (kf.sub rfl)
  | succ n ih =>
    have h := hf _ (State.setTile_stored (t_ := t) (x := { s.tile t with rep := some (n + 1) }) hs (kf.sub rfl))
    unfold State.runN
    dsimp only
    split
    · exact h
    · exact ih (State.ticks_stored h (kf.sub rfl))

theorem State.issue_stored {s : State} {t_ : Fin 32} {mx : Bool} {forb : Bool} {size : Nat} {cycles : Nat} {f : State → State} (hs : State.Stored q b s) (hf : ∀ s, State.Stored q b s → State.Stored q b (f s)) (kf : b.free [Part.reg RegGroup.ic, Part.tiles, Part.ic]) :
    State.Stored q b (State.issue s t_ mx forb size cycles f) := by
  unfold State.issue
  with_reducible apply State.gate_stored
  with_reducible assumption
  intro _ _
  with_reducible apply State.runN_stored
  intro _ _
  with_reducible apply hf
  with_reducible assumption
  with_reducible assumption
  exact kf.sub rfl
  exact kf.sub rfl

theorem State.native_stored {s : State} {t_ : Fin 32} {size : Nat} {ws : Tile → List (Nat × EWrite)} (hs : State.Stored q b s) (kf : b.free [Part.reg RegGroup.ic, Part.tiles, Part.ic]) :
    State.Stored q b (State.native s t_ size ws) := by
  unfold State.native
  with_reducible apply State.issue_stored
  with_reducible assumption
  intro _ _
  with_reducible apply State.queue_stored
  with_reducible assumption
  exact kf.sub rfl
  exact kf.sub rfl

theorem State.nativeCtl_stored {s : State} {t_ : Fin 32} {f : Tile → Tile} (hs : State.Stored q b s) (kf : b.free [Part.reg RegGroup.ic, Part.tiles, Part.ic]) :
    State.Stored q b (State.nativeCtl s t_ f) := by
  unfold State.nativeCtl
  with_reducible apply State.issue_stored
  with_reducible assumption
  intro _ _
  with_reducible apply State.setTile_stored
  with_reducible assumption
  exact kf.sub rfl
  exact kf.sub rfl

theorem State.illegalIf_stored {bad : Bool} {t_ : Fin 32} {f : State → State} {s : State} (hs : State.Stored q b s) (hf : ∀ s, State.Stored q b s → State.Stored q b (f s)) (kf : b.free [Part.reg RegGroup.ic, Part.tiles, Part.ic]) :
    State.Stored q b (State.illegalIf bad t_ f s) := by
  unfold State.illegalIf
  with_reducible apply stored_ite
  with_reducible apply State.tileFault_stored
  with_reducible assumption
  exact kf.sub rfl
  with_reducible apply hf
  with_reducible assumption

theorem State.access_stored {s : State} {t_ : Fin 32} {lat : Nat} {act : MemAct} {x : Addr} {nx : Nat} {y : Option (Addr × Nat)} (hs : State.Stored q b s) (kf : b.free [Part.reg RegGroup.ic, Part.tiles, Part.ic]) :
    State.Stored q b (State.access s t_ lat act x nx y) := by
  unfold State.access
  extract_lets +onlyGivenNames x; clear_value x
  extract_lets +onlyGivenNames x; clear_value x
  extract_lets +onlyGivenNames x; clear_value x
  extract_lets +onlyGivenNames x; clear_value x
  extract_lets +onlyGivenNames x; clear_value x
  extract_lets +onlyGivenNames x; clear_value x
  extract_lets +onlyGivenNames x; refine (fun (hx : State.Stored q b x) => ?_) ?_ <;> [(try clear_value x); subst x]
  extract_lets +onlyGivenNames x; clear_value x
  split
  with_reducible apply State.tileFault_stored
  with_reducible assumption
  exact kf.sub rfl
  with_reducible apply State.tileFault_stored
  with_reducible assumption
  exact kf.sub rfl
  split
  with_reducible apply State.queue_stored
  with_reducible assumption
  exact kf.sub rfl
  with_reducible apply State.setTile_stored
  with_reducible assumption
  exact kf.sub rfl
  with_reducible apply State.queue_stored
  with_reducible assumption
  exact kf.sub rfl

theorem State.storeWords_stored {s : State} {t_ : Fin 32} {a : Addr} {ws : List Word} (hs : State.Stored q b s) (kf : b.free [Part.reg RegGroup.ic, Part.mem, Part.tiles, Part.ic]) :
    State.Stored q b (State.storeWords s t_ a ws) := by
  unfold State.storeWords
  extract_lets +onlyGivenNames x; clear_value x
  extract_lets +onlyGivenNames x; refine (fun (hx : State.Stored q b x) => ?_) ?_ <;> [(try clear_value x); subst x]
  extract_lets +onlyGivenNames x; clear_value x
  extract_lets +onlyGivenNames x; clear_value x
  extract_lets +onlyGivenNames x; clear_value x
  extract_lets +onlyGivenNames x; refine (fun (hx : State.Stored q b x) => ?_) ?_ <;> [(try clear_value x); subst x]
  extract_lets +onlyGivenNames x; refine (fun (hx4 : ∀ y z, State.Stored q b y → State.Stored q b (x y z)) => ?_) ?_ <;> [(try clear_value x); subst x]
  extract_lets +onlyGivenNames x; refine (fun (hx : State.Stored q b x) => ?_) ?_ <;> [(try clear_value x); subst x]
  extract_lets +onlyGivenNames x; clear_value x
  extract_lets +onlyGivenNames x; clear_value x
  split
  with_reducible apply State.tileFault_stored
  with_reducible assumption
  exact kf.sub rfl
  with_reducible apply stored_ite
  with_reducible apply stored_ite
  with_reducible apply State.setTile_stored
  with_reducible assumption
  exact kf.sub rfl
  with_reducible apply State.setTile_stored
  with_reducible assumption
  exact kf.sub rfl
  with_reducible apply stored_ite
  with_reducible apply hx4
  with_reducible apply State.setTile_stored
  with_reducible assumption
  exact kf.sub rfl
  with_reducible assumption
  with_reducible apply hx4
  with_reducible assumption
  intro _ _ _
  simp -zeta only
  with_reducible apply stored_foldl
  intro _ _ _
  with_reducible apply State.mput_stored
  with_reducible assumption
  exact kf.sub rfl
  with_reducible assumption
  with_reducible apply State.setTile_stored
  with_reducible assumption
  exact kf.sub rfl
  with_reducible apply State.queue_stored
  with_reducible assumption
  exact kf.sub rfl

theorem State.resume_stored {s : State} {t_ : Fin 32} {cycles : Nat} (hs : State.Stored q b s) (kf : b.free [Part.reg RegGroup.ic, Part.tiles, Part.ic]) :
    State.Stored q b (State.resume s t_ cycles) := by
  unfold State.resume
  extract_lets +onlyGivenNames x; clear_value x
  extract_lets +onlyGivenNames x; refine (fun (hx : State.Stored q b x) => ?_) ?_ <;> [(try clear_value x); subst x]
  extract_lets +onlyGivenNames x; clear_value x
  split
  with_reducible apply State.endRun_stored
  with_reducible apply State.setTile_stored
  with_reducible assumption
  exact kf.sub rfl
  exact kf.sub rfl
  with_reducible assumption
  with_reducible apply State.ticks_stored
  with_reducible apply State.setTile_stored
  with_reducible assumption
  exact kf.sub rfl
  exact kf.sub rfl

theorem State.takeStore_stored {s : State} {t_ : Fin 32} {cycles : Nat} (hs : State.Stored q b s) (kf : b.free [Part.reg RegGroup.ic, Part.tiles, Part.ic]) :
    State.Stored q b (State.takeStore s t_ cycles) := by
  unfold State.takeStore
  extract_lets +onlyGivenNames x; clear_value x
  split
  with_reducible apply State.resume_stored
  with_reducible apply State.setTile_stored
  with_reducible assumption
  exact kf.sub rfl
  exact kf.sub rfl
  with_reducible assumption

end Sys2Proof.Machine
end

