-- ==== Sys2Proof/Laws/StoredMotion.lean ====
section
/-! SUPPORT. One lemma per operation: sampling, feedback, the loops, the planner, the Kilns and the step axes keep what `State.Stored`
says: the queue, canonical memory and flash, OTP bits, time, and every part of the state that the operation does not name. -/

namespace Sys2Proof.Machine

open Sys2Proof

variable {q : List Instr} {b : Kept}

theorem State.setFilter_stored {s : State} {n : Fin 80} {f : Filter} (hs : State.Stored q b s) (kf : b.free [Part.filters]) :
    State.Stored q b (State.setFilter s n f) := by
  have k_filters : b.keep .filters = false := kf.get rfl
  unfold State.setFilter
  simp -zeta only [stored_mk, k_filters, or_true, true_or]
  with_reducible assumption

theorem execSdcArmWrite_stored {arm : BitVec 9} {s : State} (hs : State.Stored q b s) (kf :
    b.free [Part.reg RegGroup.sdc, Part.sdclk]) :
  answers (execSdcArmWrite arm s) (State.Stored q b) := by
  have k1 : b.keep .sdclk = false := kf.get rfl
  unfold execSdcArmWrite
  extract_lets old keep new src t
  have h : State.Stored q b t := by
    dsimp only [t]
    simp only [stored_mk, k1, or_true, true_or]
    exact hs
  exact answers_ite (answers_next (State.put_stored h (kf.get rfl))) (answers_next (State.flag_stored (State.put_stored h (kf.get rfl)) (kf.get rfl)))

theorem execSdcFreqWrite_stored {slow : Bool} {s : State} (hs : State.Stored q b s) (kf : b.free [Part.reg RegGroup.sdc]) :
    answers (execSdcFreqWrite slow s) (State.Stored q b) := by
  unfold execSdcFreqWrite
  with_reducible apply answers_ite
  with_reducible apply answers_next
  with_reducible apply State.flag_stored
  with_reducible assumption
  exact kf.get rfl
  with_reducible apply answers_next
  with_reducible apply State.putB_stored
  with_reducible assumption
  exact kf.get rfl

theorem execSdcDlyWrite_stored {g : Fin 9} {v : BitVec 7} {s : State} (hs : State.Stored q b s) (kf : b.free [Part.reg RegGroup.sdc]) :
    answers (execSdcDlyWrite g v s) (State.Stored q b) := by
  unfold execSdcDlyWrite
  with_reducible apply answers_ite
  with_reducible apply answers_next
  with_reducible apply State.flag_stored
  with_reducible assumption
  exact kf.get rfl
  with_reducible apply answers_next
  with_reducible apply State.wr_stored
  with_reducible assumption
  exact kf.get rfl

theorem State.applyClocks_stored {s : State} {w : Time} (hs : State.Stored q b s) (kf : b.free [Part.sdclk]) :
    State.Stored q b (State.applyClocks s w) := by
  have k_sdclk : b.keep .sdclk = false := kf.get rfl
  unfold State.applyClocks
  extract_lets +onlyGivenNames x; clear_value x
  extract_lets +onlyGivenNames x; clear_value x
  extract_lets +onlyGivenNames x; clear_value x
  simp -zeta only [stored_mk, k_sdclk, or_true, true_or]
  with_reducible assumption

theorem State.applyFilter_stored {s : State} {n : Fin 80} (hs : State.Stored q b s) (kf : b.free [Part.reg RegGroup.sdf, Part.filters]) :
    State.Stored q b (State.applyFilter s n) := by
  unfold State.applyFilter
  extract_lets +onlyGivenNames x; clear_value x
  extract_lets +onlyGivenNames x; clear_value x
  extract_lets +onlyGivenNames x; clear_value x
  extract_lets +onlyGivenNames x; clear_value x
  extract_lets +onlyGivenNames x; clear_value x
  with_reducible apply State.putB_stored
  with_reducible apply State.setFilter_stored
  with_reducible assumption
  exact kf.sub rfl
  exact kf.get rfl

theorem execSdfCfgWrite_stored {n : Fin 80} {v : Word} {s : State} (hs : State.Stored q b s) (kf : b.free [Part.reg RegGroup.sdf]) :
    answers (execSdfCfgWrite n v s) (State.Stored q b) := by
  unfold execSdfCfgWrite
  extract_lets +onlyGivenNames x; clear_value x
  extract_lets +onlyGivenNames x; clear_value x
  extract_lets +onlyGivenNames x; clear_value x
  with_reducible apply answers_ite
  with_reducible apply answers_next
  with_reducible apply State.wr_stored
  with_reducible assumption
  exact kf.get rfl
  with_reducible apply answers_next
  with_reducible apply State.flag_stored
  with_reducible assumption
  exact kf.get rfl

theorem execSdfGainWrite_stored {n : Fin 80} {inB ofs : Bool} {v : BitVec 24} {s : State} (hs : State.Stored q b s) (kf :
    b.free [Part.reg RegGroup.sdf]) :
  answers (execSdfGainWrite n inB ofs v s) (State.Stored q b) := by
  unfold execSdfGainWrite
  cases inB <;> cases ofs <;> exact answers_ite (answers_next hs) (answers_next (State.wr_stored hs (kf.get rfl)))

theorem State.deliverInput_stored {s : State} {n : Fin 80} {b_ : Bool} {bits : List Bool} {w : Time} (hs : State.Stored q b s) (kf : b.free [Part.reg RegGroup.sdf]) :
    State.Stored q b (State.deliverInput s n b_ bits w) := by
  unfold State.deliverInput
  simp -zeta only
  extract_lets +onlyGivenNames x; refine (fun (hx : State.Stored q b x) => ?_) ?_ <;> [(try clear_value x); subst x]
  extract_lets +onlyGivenNames x; refine (fun (hx : State.Stored q b x) => ?_) ?_ <;> [(try clear_value x); subst x]
  with_reducible apply stored_ite
  with_reducible apply State.bump_stored
  with_reducible assumption
  exact kf.get rfl
  with_reducible assumption
  with_reducible apply stored_ite
  with_reducible apply State.bump_stored
  with_reducible apply State.flag_stored
  with_reducible assumption
  split
  exact kf.get rfl
  exact kf.get rfl
  exact kf.get rfl
  with_reducible assumption
  with_reducible apply State.wr_stored
  with_reducible assumption
  split
  exact kf.get rfl
  exact kf.get rfl

theorem State.deliverFilters_stored {s : State} {bits : List ((Fin 80 × Bool) × List Bool)} {w : Time} (hs : State.Stored q b s) (kf : b.free [Part.reg RegGroup.sdf]) :
    State.Stored q b (State.deliverFilters s bits w) := by
  unfold State.deliverFilters
  with_reducible apply stored_foldl
  intro _ _ _
  extract_lets +onlyGivenNames x; refine (fun (hx : State.Stored q b x) => ?_) ?_ <;> [(try clear_value x); subst x]
  extract_lets +onlyGivenNames x; refine (fun (hx : State.Stored q b x) => ?_) ?_ <;> [(try clear_value x); subst x]
  with_reducible apply State.wr_stored
  with_reducible assumption
  exact kf.get rfl
  with_reducible apply stored_ite
  with_reducible apply State.deliverInput_stored
  with_reducible assumption
  exact kf.sub rfl
  with_reducible assumption
  with_reducible apply State.deliverInput_stored
  with_reducible assumption
  exact kf.sub rfl
  with_reducible assumption

theorem execSdfStuckRun_stored {n : Fin 80} {inB : Bool} {t_ : Nat} {s : State} (hs : State.Stored q b s) (kf : b.free (postParts ++ [Part.reg RegGroup.sdf, Part.now, Part.filters])) :
    answers (execSdfStuckRun n inB t_ s) (State.Stored q b) := by
  unfold execSdfStuckRun
  extract_lets +onlyGivenNames x; refine (fun (hx : State.Stored q b x) => ?_) ?_ <;> [(try clear_value x); subst x]
  extract_lets +onlyGivenNames x; clear_value x
  extract_lets +onlyGivenNames x; clear_value x
  extract_lets +onlyGivenNames x; refine (fun (hx : State.Stored q b x) => ?_) ?_ <;> [(try clear_value x); subst x]
  extract_lets +onlyGivenNames x; clear_value x
  with_reducible apply answers_ite
  with_reducible apply answers_next
  with_reducible apply State.post_stored
  with_reducible assumption
  exact kf.sub rfl
  with_reducible apply answers_next
  with_reducible assumption
  with_reducible apply State.flag_stored
  with_reducible apply State.setFilter_stored
  with_reducible assumption
  exact kf.sub rfl
  split
  exact kf.get rfl
  exact kf.get rfl
  with_reducible apply State.advance_stored
  with_reducible assumption
  exact kf.sub rfl

theorem execSdfStuckRunEnd_stored {n : Fin 80} {inB : Bool} {t_ : Nat} {s : State} (hs : State.Stored q b s) (kf : b.free [Part.reg RegGroup.sdf, Part.now, Part.filters]) :
    answers (execSdfStuckRunEnd n inB t_ s) (State.Stored q b) := by
  unfold execSdfStuckRunEnd
  extract_lets +onlyGivenNames x; refine (fun (hx : State.Stored q b x) => ?_) ?_ <;> [(try clear_value x); subst x]
  extract_lets +onlyGivenNames x; clear_value x
  extract_lets +onlyGivenNames x; clear_value x
  split
  with_reducible apply answers_next
  with_reducible apply State.put_stored
  with_reducible apply State.setFilter_stored
  with_reducible assumption
  exact kf.sub rfl
  split
  exact kf.get rfl
  exact kf.get rfl
  with_reducible apply answers_next
  with_reducible assumption
  with_reducible apply State.advance_stored
  with_reducible assumption
  exact kf.sub rfl

theorem State.setFb_stored {s : State} {n : Fin 64} {u : FbUnit} (hs : State.Stored q b s) (kf : b.free [Part.fbs]) :
    State.Stored q b (State.setFb s n u) := by
  have k_fbs : b.keep .fbs = false := kf.get rfl
  unfold State.setFb
  simp -zeta only [stored_mk, k_fbs, or_true, true_or]
  with_reducible assumption

theorem State.showFb_stored {s : State} {n : Fin 64} (hs : State.Stored q b s) (kf : b.free [Part.reg RegGroup.fb]) :
    State.Stored q b (State.showFb s n) := by
  unfold State.showFb
  extract_lets +onlyGivenNames x; clear_value x
  with_reducible apply State.putB_stored
  with_reducible apply State.putB_stored
  with_reducible apply State.putB_stored
  with_reducible apply State.putB_stored
  with_reducible apply State.putB_stored
  with_reducible assumption
  exact kf.get rfl
  exact kf.get rfl
  exact kf.get rfl
  exact kf.get rfl
  exact kf.get rfl

theorem State.updFb_stored {s : State} {n : Fin 64} {u : FbUnit} (hs : State.Stored q b s) (kf : b.free [Part.reg RegGroup.fb, Part.fbs]) :
    State.Stored q b (State.updFb s n u) := by
  unfold State.updFb
  with_reducible apply State.showFb_stored
  with_reducible apply State.setFb_stored
  with_reducible assumption
  exact kf.sub rfl
  exact kf.sub rfl

theorem State.fbError_stored {s : State} {n : Fin 64} (hs : State.Stored q b s) (kf : b.free [Part.reg RegGroup.fb, Part.fbs]) :
    State.Stored q b (State.fbError s n) := by
  unfold State.fbError
  extract_lets +onlyGivenNames x; clear_value x
  with_reducible apply State.setFb_stored
  with_reducible apply State.bump_stored
  with_reducible assumption
  exact kf.get rfl
  exact kf.sub rfl

theorem State.moveTo_stored {s : State} {n : Fin 64} {x : Int} (hs : State.Stored q b s) (kf : b.free (postParts ++ [Part.reg RegGroup.fb, Part.fbs])) :
    State.Stored q b (State.moveTo s n x) := by
  unfold State.moveTo
  extract_lets +onlyGivenNames x; clear_value x
  extract_lets +onlyGivenNames x; clear_value x
  extract_lets +onlyGivenNames x; clear_value x
  extract_lets +onlyGivenNames x; refine (fun (hx : State.Stored q b x) => ?_) ?_ <;> [(try clear_value x); subst x]
  with_reducible apply stored_ite
  with_reducible apply State.updFb_stored
  with_reducible assumption
  exact kf.sub rfl
  with_reducible apply stored_ite
  with_reducible assumption
  with_reducible apply State.post_stored
  with_reducible assumption
  exact kf.sub rfl
  with_reducible apply State.flag_stored
  with_reducible apply State.updFb_stored
  with_reducible assumption
  exact kf.sub rfl
  exact kf.get rfl

theorem State.cmpHit_stored {s : State} {n : Fin 64} {t_ : Time} {shown : Time} (hs : State.Stored q b s) (kf : b.free (postParts ++ [Part.reg RegGroup.fb, Part.fbs])) :
    State.Stored q b (State.cmpHit s n t_ shown).1 := by
  unfold State.cmpHit
  extract_lets +onlyGivenNames x; clear_value x
  extract_lets +onlyGivenNames x; clear_value x
  extract_lets +onlyGivenNames x; clear_value x
  extract_lets +onlyGivenNames x; clear_value x
  extract_lets +onlyGivenNames x; clear_value x
  extract_lets +onlyGivenNames x; clear_value x
  extract_lets +onlyGivenNames x; clear_value x
  extract_lets +onlyGivenNames x; clear_value x
  extract_lets +onlyGivenNames x; clear_value x
  extract_lets +onlyGivenNames x; subst x
  extract_lets +onlyGivenNames x; refine (fun (hx : State.Stored q b x) => ?_) ?_ <;> [(try clear_value x); subst x]
  extract_lets +onlyGivenNames x; refine (fun (hx : State.Stored q b x) => ?_) ?_ <;> [(try clear_value x); subst x]
  extract_lets +onlyGivenNames x; clear_value x
  extract_lets +onlyGivenNames x; refine (fun (hx : State.Stored q b x) => ?_) ?_ <;> [(try clear_value x); subst x]
  split
  simp -zeta only
  with_reducible apply State.setFb_stored
  with_reducible assumption
  exact kf.sub rfl
  simp -zeta only
  with_reducible apply State.wr_stored
  with_reducible assumption
  exact kf.get rfl
  with_reducible apply State.wr48_stored
  with_reducible apply State.setFb_stored
  with_reducible assumption
  exact kf.sub rfl
  exact kf.get rfl
  exact kf.get rfl
  with_reducible apply stored_ite
  with_reducible apply State.postAt_stored
  with_reducible assumption
  exact kf.sub rfl
  with_reducible assumption
  with_reducible apply State.wr_stored
  with_reducible apply State.count_stored
  with_reducible assumption
  exact kf.get rfl
  exact kf.get rfl

theorem State.cmpMotion_stored {s : State} {n : Fin 64} {old : Int} {t_ : Time} {shown : Time} (hs : State.Stored q b s) (kf : b.free (postParts ++ [Part.reg RegGroup.fb, Part.fbs])) :
    State.Stored q b (State.cmpMotion s n old t_ shown) := by
  unfold State.cmpMotion
  extract_lets +onlyGivenNames x; clear_value x
  extract_lets +onlyGivenNames x; clear_value x
  simp -zeta only
  with_reducible apply stored_ite
  with_reducible apply stored_ite
  with_reducible apply State.flag_stored
  with_reducible apply State.cmpHit_stored
  with_reducible assumption
  exact kf.sub rfl
  exact kf.get rfl
  with_reducible apply State.cmpHit_stored
  with_reducible assumption
  exact kf.sub rfl
  with_reducible assumption

theorem State.cmpLate_stored {s : State} {n : Fin 64} (hs : State.Stored q b s) (kf : b.free (postParts ++ [Part.reg RegGroup.fb, Part.fbs])) :
    State.Stored q b (State.cmpLate s n) := by
  unfold State.cmpLate
  extract_lets +onlyGivenNames x; clear_value x
  extract_lets +onlyGivenNames x; clear_value x
  with_reducible apply stored_ite
  with_reducible apply State.flag_stored
  with_reducible apply State.cmpHit_stored
  with_reducible assumption
  exact kf.sub rfl
  exact kf.get rfl
  with_reducible assumption

theorem State.fbCount_stored {s : State} {n : Fin 64} {rev : Bool} {t_ : Time} (hs : State.Stored q b s) (kf : b.free (postParts ++ [Part.reg RegGroup.fb, Part.fbs])) :
    State.Stored q b (State.fbCount s n rev t_) := by
  unfold State.fbCount
  extract_lets +onlyGivenNames x; clear_value x
  extract_lets +onlyGivenNames x; clear_value x
  extract_lets +onlyGivenNames x; clear_value x
  with_reducible apply State.cmpMotion_stored
  with_reducible apply State.moveTo_stored
  with_reducible apply State.setFb_stored
  with_reducible assumption
  exact kf.sub rfl
  exact kf.sub rfl
  exact kf.sub rfl

theorem State.fbIllegal_stored {s : State} {n : Fin 64} (hs : State.Stored q b s) (kf : b.free [Part.reg RegGroup.fb, Part.fbs]) :
    State.Stored q b (State.fbIllegal s n) := by
  unfold State.fbIllegal
  extract_lets +onlyGivenNames x; refine (fun (hx : State.Stored q b x) => ?_) ?_ <;> [(try clear_value x); subst x]
  extract_lets +onlyGivenNames x; clear_value x
  with_reducible apply State.updFb_stored
  with_reducible assumption
  exact kf.sub rfl
  with_reducible apply State.fbError_stored
  with_reducible assumption
  exact kf.sub rfl

theorem State.quadSample_stored {s : State} {n : Fin 64} {old : BitVec 3} {new : BitVec 3} {t_ : Time} (hs : State.Stored q b s) (kf : b.free (postParts ++ [Part.reg RegGroup.fb, Part.fbs])) :
    State.Stored q b (State.quadSample s n old new t_) := by
  unfold State.quadSample
  extract_lets +onlyGivenNames x; clear_value x
  extract_lets +onlyGivenNames x; clear_value x
  extract_lets +onlyGivenNames x; refine (fun (hx : State.Stored q b x) => ?_) ?_ <;> [(try clear_value x); subst x]
  extract_lets +onlyGivenNames x; clear_value x
  with_reducible apply stored_ite
  with_reducible apply State.flag_stored
  with_reducible apply State.wr48_stored
  with_reducible apply State.setFb_stored
  with_reducible assumption
  exact kf.sub rfl
  exact kf.get rfl
  exact kf.get rfl
  exact kf.get rfl
  with_reducible assumption
  with_reducible apply stored_ite
  with_reducible assumption
  with_reducible apply stored_ite
  with_reducible apply State.fbIllegal_stored
  with_reducible assumption
  exact kf.sub rfl
  with_reducible apply State.fbCount_stored
  with_reducible assumption
  exact kf.sub rfl

theorem State.hallSample_stored {s : State} {n : Fin 64} {new : BitVec 3} {t_ : Time} (hs : State.Stored q b s) (kf : b.free (postParts ++ [Part.reg RegGroup.fb, Part.fbs])) :
    State.Stored q b (State.hallSample s n new t_) := by
  unfold State.hallSample
  extract_lets +onlyGivenNames x; clear_value x
  extract_lets +onlyGivenNames x; refine (fun (hx : State.Stored q b x) => ?_) ?_ <;> [(try clear_value x); subst x]
  split
  with_reducible apply State.fbIllegal_stored
  with_reducible assumption
  exact kf.sub rfl
  split
  with_reducible apply State.put_stored
  with_reducible assumption
  exact kf.get rfl
  with_reducible apply stored_ite
  with_reducible assumption
  with_reducible apply stored_ite
  with_reducible apply State.fbCount_stored
  with_reducible assumption
  exact kf.sub rfl
  with_reducible apply stored_ite
  with_reducible apply State.fbCount_stored
  with_reducible assumption
  exact kf.sub rfl
  with_reducible apply State.fbIllegal_stored
  with_reducible assumption
  exact kf.sub rfl
  with_reducible apply State.setFb_stored
  with_reducible assumption
  exact kf.sub rfl

theorem execFbLineChange_stored {n : Fin 64} {lines : BitVec 3} {t_ : Nat} {s : State} (hs : State.Stored q b s) (kf : b.free (postParts ++ [Part.reg RegGroup.fb, Part.now, Part.fbs])) :
    answers (execFbLineChange n lines t_ s) (State.Stored q b) := by
  unfold execFbLineChange
  extract_lets +onlyGivenNames x; refine (fun (hx : State.Stored q b x) => ?_) ?_ <;> [(try clear_value x); subst x]
  extract_lets +onlyGivenNames x; clear_value x
  extract_lets +onlyGivenNames x; clear_value x
  extract_lets +onlyGivenNames x; refine (fun (hx : State.Stored q b x) => ?_) ?_ <;> [(try clear_value x); subst x]
  with_reducible apply answers_ite
  with_reducible apply answers_next
  with_reducible assumption
  with_reducible apply answers_ite
  with_reducible apply answers_next
  with_reducible apply State.quadSample_stored
  with_reducible assumption
  exact kf.sub rfl
  with_reducible apply answers_ite
  with_reducible apply answers_next
  with_reducible apply State.hallSample_stored
  with_reducible assumption
  exact kf.sub rfl
  with_reducible apply answers_next
  with_reducible assumption
  with_reducible apply State.setFb_stored
  with_reducible assumption
  exact kf.sub rfl
  with_reducible apply State.advance_stored
  with_reducible assumption
  exact kf.sub rfl

theorem execFbReadingStart_stored {n : Fin 64} {s : State} (hs : State.Stored q b s) (kf : b.free [Part.now, Part.fbs]) :
    answers (execFbReadingStart n s) (State.Stored q b) := by
  unfold execFbReadingStart
  extract_lets +onlyGivenNames x; clear_value x
  extract_lets +onlyGivenNames x; clear_value x
  extract_lets +onlyGivenNames x; subst x
  extract_lets +onlyGivenNames x; clear_value x
  with_reducible apply answers_ite
  with_reducible apply answers_next
  with_reducible apply State.setFb_stored
  with_reducible apply State.advance_stored
  with_reducible assumption
  exact kf.sub rfl
  exact kf.sub rfl
  with_reducible apply answers_next
  with_reducible assumption

theorem State.readingOut_stored {s : State} {n : Fin 64} {o : Option (Nat × Int)} (hs : State.Stored q b s) (kf : b.free [Part.fbs]) :
    State.Stored q b (State.readingOut s n o) := by
  unfold State.readingOut
  extract_lets +onlyGivenNames x; clear_value x
  with_reducible apply State.setFb_stored
  with_reducible assumption
  exact kf.sub rfl

theorem State.readingFailed_stored {s : State} {n : Fin 64} (hs : State.Stored q b s) (kf : b.free [Part.reg RegGroup.fb, Part.fbs]) :
    State.Stored q b (State.readingFailed s n) := by
  unfold State.readingFailed
  with_reducible apply State.readingOut_stored
  with_reducible apply State.fbError_stored
  with_reducible assumption
  exact kf.sub rfl
  exact kf.sub rfl

theorem State.readingTimeout_stored {s : State} {n : Fin 64} (hs : State.Stored q b s) (kf : b.free [Part.reg RegGroup.fb, Part.fbs]) :
    State.Stored q b (State.readingTimeout s n) := by
  unfold State.readingTimeout
  with_reducible apply State.flag_stored
  with_reducible apply State.readingFailed_stored
  with_reducible assumption
  exact kf.sub rfl
  exact kf.get rfl

theorem execFbReadingTimeout_stored {n : Fin 64} {s : State} (hs : State.Stored q b s) (kf : b.free [Part.reg RegGroup.fb, Part.fbs]) :
    answers (execFbReadingTimeout n s) (State.Stored q b) := by
  unfold execFbReadingTimeout
  split
  with_reducible apply answers_next
  with_reducible assumption
  with_reducible apply answers_next
  with_reducible apply State.readingTimeout_stored
  with_reducible assumption
  exact kf.sub rfl

theorem State.firstReading_stored {s : State} {n : Fin 64} {r : Reading} {a : Nat} {value : Int} (hs : State.Stored q b s) (kf : b.free (postParts ++ [Part.reg RegGroup.fb, Part.fbs])) :
    State.Stored q b (State.firstReading s n r a value) := by
  unfold State.firstReading
  extract_lets +onlyGivenNames x; clear_value x
  extract_lets +onlyGivenNames x; refine (fun (hx : State.Stored q b x) => ?_) ?_ <;> [(try clear_value x); subst x]
  with_reducible apply State.put_stored
  with_reducible apply State.moveTo_stored
  with_reducible assumption
  exact kf.sub rfl
  exact kf.get rfl
  with_reducible apply State.setFb_stored
  with_reducible assumption
  exact kf.sub rfl

theorem State.nextReading_stored {s : State} {n : Fin 64} {r : Reading} {a : Nat} {d : Int} {since : Time} (hs : State.Stored q b s) (kf : b.free (postParts ++ [Part.reg RegGroup.fb, Part.fbs])) :
    State.Stored q b (State.nextReading s n r a d since) := by
  unfold State.nextReading
  extract_lets +onlyGivenNames x; clear_value x
  extract_lets +onlyGivenNames x; clear_value x
  extract_lets +onlyGivenNames x; clear_value x
  with_reducible apply State.cmpMotion_stored
  with_reducible apply State.moveTo_stored
  with_reducible apply State.setFb_stored
  with_reducible assumption
  exact kf.sub rfl
  exact kf.sub rfl
  exact kf.sub rfl

theorem State.deliverReading_stored {s : State} {n : Fin 64} {k : Nat} (hs : State.Stored q b s) (kf : b.free (postParts ++ [Part.reg RegGroup.fb, Part.fbs])) :
    State.Stored q b (State.deliverReading s n k) := by
  unfold State.deliverReading
  split
  with_reducible assumption
  extract_lets +onlyGivenNames x; refine (fun (hx : State.Stored q b x) => ?_) ?_ <;> [(try clear_value x); subst x]
  extract_lets +onlyGivenNames x; clear_value x
  extract_lets +onlyGivenNames x; refine (fun (hx : State.Stored q b x) => ?_) ?_ <;> [(try clear_value x); subst x]
  extract_lets +onlyGivenNames x; clear_value x
  with_reducible apply stored_ite
  with_reducible assumption
  split
  with_reducible apply State.firstReading_stored
  with_reducible assumption
  exact kf.sub rfl
  with_reducible apply State.nextReading_stored
  with_reducible assumption
  exact kf.sub rfl
  with_reducible apply State.updFb_stored
  with_reducible assumption
  exact kf.sub rfl
  with_reducible apply State.setFb_stored
  with_reducible assumption
  exact kf.sub rfl
  with_reducible apply stored_ite
  with_reducible apply State.readingTimeout_stored
  with_reducible assumption
  exact kf.sub rfl
  with_reducible assumption

theorem State.validReading_stored {s : State} {n : Fin 64} {turnBits : Nat} {turns : Nat} {pos : Nat} (hs : State.Stored q b s) (kf : b.free [Part.reg RegGroup.fb, Part.fbs]) :
    State.Stored q b (State.validReading s n turnBits turns pos) := by
  unfold State.validReading
  extract_lets +onlyGivenNames x; clear_value x
  extract_lets +onlyGivenNames x; clear_value x
  extract_lets +onlyGivenNames x; clear_value x
  split
  with_reducible apply State.readingOut_stored
  with_reducible assumption
  exact kf.sub rfl
  extract_lets +onlyGivenNames x; clear_value x
  with_reducible apply stored_ite
  with_reducible apply State.flag_stored
  with_reducible apply State.readingFailed_stored
  with_reducible assumption
  exact kf.sub rfl
  exact kf.get rfl
  with_reducible apply State.readingOut_stored
  with_reducible assumption
  exact kf.sub rfl

theorem execSsiReadingDone_stored {n : Fin 64} {idleHigh : Bool} {data : BitVec 48} {extra : Bool} {s : State} (hs : State.Stored q b s) (kf : b.free [Part.reg RegGroup.fb, Part.now, Part.fbs]) :
    answers (execSsiReadingDone n idleHigh data extra s) (State.Stored q b) := by
  unfold execSsiReadingDone
  split
  with_reducible apply answers_next
  with_reducible assumption
  extract_lets +onlyGivenNames x; refine (fun (hx : State.Stored q b x) => ?_) ?_ <;> [(try clear_value x); subst x]
  extract_lets +onlyGivenNames x; clear_value x
  extract_lets +onlyGivenNames x; clear_value x
  extract_lets +onlyGivenNames x; clear_value x
  extract_lets +onlyGivenNames x; subst x
  extract_lets +onlyGivenNames x; clear_value x
  extract_lets +onlyGivenNames x; clear_value x
  extract_lets +onlyGivenNames x; refine (fun (hx : State.Stored q b x) => ?_) ?_ <;> [(try clear_value x); subst x]
  with_reducible apply answers_ite
  with_reducible apply answers_next
  with_reducible assumption
  with_reducible apply answers_ite
  with_reducible apply answers_next
  with_reducible apply State.readingTimeout_stored
  with_reducible assumption
  exact kf.sub rfl
  with_reducible apply answers_ite
  with_reducible apply answers_next
  with_reducible apply State.flag_stored
  with_reducible apply State.readingFailed_stored
  with_reducible assumption
  exact kf.sub rfl
  exact kf.get rfl
  with_reducible apply answers_next
  with_reducible apply State.validReading_stored
  with_reducible assumption
  exact kf.sub rfl
  with_reducible apply stored_ite
  with_reducible apply State.flag_stored
  with_reducible assumption
  exact kf.get rfl
  with_reducible assumption
  with_reducible apply State.advance_stored
  with_reducible assumption
  exact kf.sub rfl

theorem execFiligreeResponse_stored {n : Fin 64} {data : BitVec 72} {stop : Bool} {t_ : Nat} {s : State} (hs : State.Stored q b s) (kf : b.free [Part.reg RegGroup.fb, Part.now, Part.fbs]) :
    answers (execFiligreeResponse n data stop t_ s) (State.Stored q b) := by
  unfold execFiligreeResponse
  extract_lets +onlyGivenNames x; subst x
  extract_lets +onlyGivenNames x; clear_value x
  extract_lets +onlyGivenNames x; clear_value x
  extract_lets +onlyGivenNames x; subst x
  extract_lets +onlyGivenNames x; clear_value x
  extract_lets +onlyGivenNames x; refine (fun (hx : State.Stored q b x) => ?_) ?_ <;> [(try clear_value x); subst x]
  extract_lets +onlyGivenNames x; clear_value x
  extract_lets +onlyGivenNames x; clear_value x
  extract_lets +onlyGivenNames x; clear_value x
  extract_lets +onlyGivenNames x; clear_value x
  extract_lets +onlyGivenNames x; refine (fun (hx : State.Stored q b x) => ?_) ?_ <;> [(try clear_value x); subst x]
  extract_lets +onlyGivenNames x; refine (fun (hx : State.Stored q b x) => ?_) ?_ <;> [(try clear_value x); subst x]
  extract_lets +onlyGivenNames x; refine (fun (hx : State.Stored q b x) => ?_) ?_ <;> [(try clear_value x); subst x]
  split
  with_reducible apply answers_next
  with_reducible apply State.advance_stored
  with_reducible assumption
  exact kf.sub rfl
  split
  with_reducible apply answers_ite
  with_reducible apply answers_next
  with_reducible assumption
  with_reducible apply answers_ite
  with_reducible apply answers_next
  with_reducible apply State.readingTimeout_stored
  with_reducible assumption
  exact kf.sub rfl
  with_reducible apply answers_ite
  with_reducible apply answers_next
  with_reducible apply State.flag_stored
  with_reducible apply State.readingFailed_stored
  with_reducible assumption
  exact kf.sub rfl
  exact kf.get rfl
  with_reducible apply answers_ite
  with_reducible apply answers_next
  with_reducible apply State.flag_stored
  with_reducible apply State.readingFailed_stored
  with_reducible assumption
  exact kf.sub rfl
  exact kf.get rfl
  with_reducible apply answers_ite
  with_reducible apply answers_next
  with_reducible apply State.readingFailed_stored
  with_reducible assumption
  exact kf.sub rfl
  with_reducible apply answers_next
  with_reducible apply State.validReading_stored
  with_reducible assumption
  exact kf.sub rfl
  with_reducible apply answers_ite
  with_reducible apply answers_next
  with_reducible assumption
  with_reducible apply answers_ite
  with_reducible apply answers_next
  with_reducible apply State.readingTimeout_stored
  with_reducible assumption
  exact kf.sub rfl
  with_reducible apply answers_ite
  with_reducible apply answers_next
  with_reducible apply State.flag_stored
  with_reducible apply State.readingFailed_stored
  with_reducible assumption
  exact kf.sub rfl
  exact kf.get rfl
  with_reducible apply answers_ite
  with_reducible apply answers_next
  with_reducible apply State.flag_stored
  with_reducible apply State.readingFailed_stored
  with_reducible assumption
  exact kf.sub rfl
  exact kf.get rfl
  with_reducible apply answers_ite
  with_reducible apply answers_next
  with_reducible apply State.readingFailed_stored
  with_reducible assumption
  exact kf.sub rfl
  with_reducible apply answers_next
  with_reducible apply State.validReading_stored
  with_reducible assumption
  exact kf.sub rfl
  with_reducible apply stored_ite
  with_reducible apply State.flag_stored
  with_reducible assumption
  exact kf.get rfl
  with_reducible assumption
  with_reducible apply State.wr_stored
  with_reducible assumption
  exact kf.get rfl
  with_reducible apply stored_ite
  with_reducible apply State.setFb_stored
  with_reducible assumption
  exact kf.sub rfl
  with_reducible assumption
  with_reducible apply State.advance_stored
  with_reducible assumption
  exact kf.sub rfl

theorem State.speedReport_stored {s : State} {n : Fin 64} {w : Time} (hs : State.Stored q b s) (kf : b.free [Part.reg RegGroup.fb, Part.fbs]) :
    State.Stored q b (State.speedReport s n w) := by
  unfold State.speedReport
  extract_lets +onlyGivenNames x; clear_value x
  extract_lets +onlyGivenNames x; clear_value x
  extract_lets +onlyGivenNames x; clear_value x
  extract_lets +onlyGivenNames x; clear_value x
  extract_lets +onlyGivenNames x; clear_value x
  extract_lets +onlyGivenNames x; clear_value x
  extract_lets +onlyGivenNames x; refine (fun (hx : State.Stored q b x) => ?_) ?_ <;> [(try clear_value x); subst x]
  extract_lets +onlyGivenNames x; clear_value x
  with_reducible apply State.setFb_stored
  with_reducible assumption
  exact kf.sub rfl
  with_reducible apply State.updFb_stored
  with_reducible assumption
  exact kf.sub rfl

theorem execFbStandstillTimeout_stored {n : Fin 64} {s : State} (hs : State.Stored q b s) (kf : b.free [Part.reg RegGroup.fb, Part.fbs]) :
    answers (execFbStandstillTimeout n s) (State.Stored q b) := by
  unfold execFbStandstillTimeout
  with_reducible apply answers_next
  with_reducible apply stored_ite
  with_reducible apply State.speedReport_stored
  with_reducible assumption
  exact kf.sub rfl
  with_reducible assumption

theorem State.deliverFb_stored {s : State} {n : Fin 64} (hs : State.Stored q b s) (kf : b.free [Part.reg RegGroup.fb]) :
    State.Stored q b (State.deliverFb s n) := by
  unfold State.deliverFb
  simp -zeta only
  with_reducible apply stored_ite
  with_reducible apply State.wr_stored
  with_reducible apply State.wr48_stored
  with_reducible apply State.wr48_stored
  with_reducible assumption
  exact kf.get rfl
  exact kf.get rfl
  exact kf.get rfl
  exact kf.get rfl
  exact kf.get rfl
  with_reducible assumption

theorem execFbErrLimit_stored {n : Fin 64} {s : State} (hs : State.Stored q b s) (kf : b.free (postParts ++ [Part.reg RegGroup.fb, Part.fbs])) :
    answers (execFbErrLimit n s) (State.Stored q b) := by
  unfold execFbErrLimit
  extract_lets +onlyGivenNames x; clear_value x
  extract_lets +onlyGivenNames x; clear_value x
  extract_lets +onlyGivenNames x; refine (fun (hx : State.Stored q b x) => ?_) ?_ <;> [(try clear_value x); subst x]
  with_reducible apply answers_ite
  with_reducible apply answers_next
  with_reducible apply State.post_stored
  with_reducible assumption
  exact kf.sub rfl
  with_reducible apply answers_next
  with_reducible assumption
  with_reducible apply State.flag_stored
  with_reducible apply State.setFb_stored
  with_reducible assumption
  exact kf.sub rfl
  exact kf.get rfl

theorem execFbLimitWrite_stored {n : Fin 64} {upper : Bool} {hi : BitVec 16} {s : State} (hs : State.Stored q b s) (kf : b.free (postParts ++ [Part.reg RegGroup.fb, Part.fbs])) :
    answers (execFbLimitWrite n upper hi s) (State.Stored q b) := by
  unfold execFbLimitWrite
  extract_lets +onlyGivenNames x; subst x
  extract_lets +onlyGivenNames x; subst x
  extract_lets +onlyGivenNames x; subst x
  extract_lets +onlyGivenNames x; refine (fun (hx : State.Stored q b x) => ?_) ?_ <;> [(try clear_value x); subst x]
  extract_lets +onlyGivenNames x; subst x
  with_reducible apply answers_ite
  with_reducible apply answers_next
  with_reducible apply State.flag_stored
  with_reducible assumption
  exact kf.get rfl
  with_reducible apply answers_next
  with_reducible apply State.moveTo_stored
  with_reducible apply State.setFb_stored
  with_reducible assumption
  exact kf.sub rfl
  exact kf.sub rfl
  with_reducible apply State.wr_stored
  with_reducible assumption
  split
  exact kf.get rfl
  exact kf.get rfl

theorem execFbSetWrite_stored {n : Fin 64} {hi : BitVec 16} {s : State} (hs : State.Stored q b s) (kf : b.free (postParts ++ [Part.reg RegGroup.fb, Part.fbs])) :
    answers (execFbSetWrite n hi s) (State.Stored q b) := by
  unfold execFbSetWrite
  extract_lets +onlyGivenNames x; clear_value x
  extract_lets +onlyGivenNames x; refine (fun (hx : State.Stored q b x) => ?_) ?_ <;> [(try clear_value x); subst x]
  with_reducible apply answers_next
  with_reducible apply State.cmpLate_stored
  with_reducible apply State.moveTo_stored
  with_reducible assumption
  exact kf.sub rfl
  exact kf.sub rfl
  with_reducible apply State.setFb_stored
  with_reducible apply State.wr_stored
  with_reducible assumption
  exact kf.get rfl
  exact kf.sub rfl

theorem execFbPosLoRead_stored {n : Fin 64} {s : State} (hs : State.Stored q b s) (kf : b.free [Part.reg RegGroup.fb, Part.rdata]) :
    answers (execFbPosLoRead n s) (State.Stored q b) := by
  unfold execFbPosLoRead
  extract_lets +onlyGivenNames x; clear_value x
  with_reducible apply answers_next
  with_reducible apply State.answer_stored
  with_reducible apply State.wr48_stored
  with_reducible assumption
  exact kf.get rfl
  exact kf.get rfl
  exact kf.sub rfl

theorem execCmpHitNsRead_stored {n : Fin 64} {s : State} (hs : State.Stored q b s) (kf : b.free [Part.reg RegGroup.fb, Part.rdata]) :
    answers (execCmpHitNsRead n s) (State.Stored q b) := by
  unfold execCmpHitNsRead
  extract_lets +onlyGivenNames x; clear_value x
  extract_lets +onlyGivenNames x; refine (fun (hx : State.Stored q b x) => ?_) ?_ <;> [(try clear_value x); subst x]
  with_reducible apply answers_next
  with_reducible apply State.answer_stored
  with_reducible assumption
  exact kf.sub rfl
  with_reducible apply State.wr_stored
  with_reducible apply State.wr_stored
  with_reducible assumption
  exact kf.get rfl
  exact kf.get rfl

theorem execFbEnWrite_stored {n : Fin 64} {on : Bool} {s : State} (hs : State.Stored q b s) (kf : b.free [Part.reg RegGroup.fb, Part.fbs]) :
    answers (execFbEnWrite n on s) (State.Stored q b) := by
  unfold execFbEnWrite
  extract_lets +onlyGivenNames x; clear_value x
  extract_lets +onlyGivenNames x; clear_value x
  extract_lets +onlyGivenNames x; clear_value x
  extract_lets +onlyGivenNames x; refine (fun (hx : State.Stored q b x) => ?_) ?_ <;> [(try clear_value x); subst x]
  with_reducible apply answers_ite
  with_reducible apply answers_next
  with_reducible apply State.setFb_stored
  with_reducible apply State.put_stored
  with_reducible apply State.put_stored
  with_reducible assumption
  exact kf.get rfl
  exact kf.get rfl
  exact kf.sub rfl
  with_reducible apply answers_ite
  with_reducible apply answers_next
  with_reducible assumption
  with_reducible apply answers_ite
  with_reducible apply answers_next
  with_reducible apply State.flag_stored
  with_reducible assumption
  exact kf.get rfl
  with_reducible apply answers_next
  with_reducible apply State.updFb_stored
  with_reducible assumption
  exact kf.sub rfl
  with_reducible apply State.putB_stored
  with_reducible apply State.put_stored
  with_reducible assumption
  exact kf.get rfl
  exact kf.get rfl

theorem execFbOutEnWrite_stored {n : Fin 64} {on : Bool} {s : State} (hs : State.Stored q b s) (kf : b.free [Part.reg RegGroup.fb]) :
    answers (execFbOutEnWrite n on s) (State.Stored q b) := by
  unfold execFbOutEnWrite
  with_reducible apply answers_ite
  with_reducible apply answers_next
  with_reducible apply State.flag_stored
  with_reducible assumption
  exact kf.get rfl
  with_reducible apply answers_next
  with_reducible apply State.putB_stored
  with_reducible assumption
  exact kf.get rfl

theorem execEncClr_stored {n : Fin 64} {s : State} (hs : State.Stored q b s) (kf : b.free [Part.fbs]) :
    answers (execEncClr n s) (State.Stored q b) := by
  unfold execEncClr
  extract_lets +onlyGivenNames x; clear_value x
  with_reducible apply answers_next
  with_reducible apply State.setFb_stored
  with_reducible assumption
  exact kf.sub rfl

theorem execFbCfgWrite_stored {n : Fin 64} {ser : Bool} {v : Word} {s : State} (hs : State.Stored q b s) (kf : b.free [Part.reg RegGroup.fb]) :
    answers (execFbCfgWrite n ser v s) (State.Stored q b) := by
  unfold execFbCfgWrite
  extract_lets +onlyGivenNames x; clear_value x
  extract_lets +onlyGivenNames x; clear_value x
  with_reducible apply answers_ite
  with_reducible apply answers_next
  with_reducible apply State.flag_stored
  with_reducible assumption
  exact kf.get rfl
  with_reducible apply answers_next
  with_reducible apply stored_ite
  with_reducible apply State.wr_stored
  with_reducible assumption
  exact kf.get rfl
  with_reducible apply State.wr_stored
  with_reducible assumption
  exact kf.get rfl

theorem State.cmpArm_stored {s : State} {n : Fin 64} (hs : State.Stored q b s) (kf : b.free (postParts ++ [Part.reg RegGroup.fb, Part.fbs])) :
    State.Stored q b (State.cmpArm s n) := by
  unfold State.cmpArm
  extract_lets +onlyGivenNames x; clear_value x
  extract_lets +onlyGivenNames x; clear_value x
  with_reducible apply State.cmpLate_stored
  with_reducible apply State.wr48_stored
  with_reducible apply State.setFb_stored
  with_reducible assumption
  exact kf.sub rfl
  exact kf.get rfl
  exact kf.get rfl
  exact kf.sub rfl

theorem execCmpArmWrite_stored {n : Fin 64} {hi : BitVec 16} {s : State} (hs : State.Stored q b s) (kf : b.free (postParts ++ [Part.reg RegGroup.fb, Part.fbs])) :
    answers (execCmpArmWrite n hi s) (State.Stored q b) := by
  unfold execCmpArmWrite
  extract_lets +onlyGivenNames x; refine (fun (hx : State.Stored q b x) => ?_) ?_ <;> [(try clear_value x); subst x]
  with_reducible apply answers_next
  with_reducible apply stored_ite
  with_reducible apply State.cmpArm_stored
  with_reducible assumption
  exact kf.sub rfl
  with_reducible assumption
  with_reducible apply State.wr_stored
  with_reducible assumption
  exact kf.get rfl

theorem execCmpEnWrite_stored {n : Fin 64} {on : Bool} {s : State} (hs : State.Stored q b s) (kf : b.free (postParts ++ [Part.reg RegGroup.fb, Part.fbs])) :
    answers (execCmpEnWrite n on s) (State.Stored q b) := by
  unfold execCmpEnWrite
  extract_lets +onlyGivenNames x; clear_value x
  extract_lets +onlyGivenNames x; refine (fun (hx : State.Stored q b x) => ?_) ?_ <;> [(try clear_value x); subst x]
  extract_lets +onlyGivenNames x; clear_value x
  with_reducible apply answers_ite
  with_reducible apply answers_next
  with_reducible apply State.setFb_stored
  with_reducible assumption
  exact kf.sub rfl
  with_reducible apply answers_ite
  with_reducible apply answers_next
  with_reducible assumption
  with_reducible apply answers_next
  with_reducible apply State.cmpArm_stored
  with_reducible assumption
  exact kf.sub rfl
  with_reducible apply State.putB_stored
  with_reducible assumption
  exact kf.get rfl

theorem execCmpPulseEnd_stored {n : Fin 64} {s : State} (hs : State.Stored q b s) (kf : b.free [Part.now, Part.fbs]) :
    answers (execCmpPulseEnd n s) (State.Stored q b) := by
  unfold execCmpPulseEnd
  extract_lets +onlyGivenNames x; clear_value x
  split
  with_reducible apply answers_next
  with_reducible assumption
  with_reducible apply answers_next
  with_reducible apply State.setFb_stored
  with_reducible apply State.advance_stored
  with_reducible assumption
  exact kf.sub rfl
  exact kf.sub rfl

theorem execCmpIrqLevelEnd_stored {n : Fin 64} {s : State} (hs : State.Stored q b s) (kf : b.free [Part.now, Part.fbs]) :
    answers (execCmpIrqLevelEnd n s) (State.Stored q b) := by
  unfold execCmpIrqLevelEnd
  extract_lets +onlyGivenNames x; clear_value x
  split
  with_reducible apply answers_next
  with_reducible assumption
  with_reducible apply answers_next
  with_reducible apply State.setFb_stored
  with_reducible apply State.advance_stored
  with_reducible assumption
  exact kf.sub rfl
  exact kf.sub rfl

theorem State.setLoop_stored {s : State} {n : Fin 256} {l : LoopState} (hs : State.Stored q b s) (kf : b.free [Part.loops]) :
    State.Stored q b (State.setLoop s n l) := by
  have k_loops : b.keep .loops = false := kf.get rfl
  unfold State.setLoop
  simp -zeta only [stored_mk, k_loops, or_true, true_or]
  with_reducible assumption

theorem State.loopDin_stored {s : State} {n : Fin 256} (hs : State.Stored q b s) (kf : b.free [Part.reg RegGroup.ld]) :
    State.Stored q b (State.loopDin s n) := by
  unfold State.loopDin
  extract_lets +onlyGivenNames x; clear_value x
  extract_lets +onlyGivenNames x; clear_value x
  extract_lets +onlyGivenNames x; clear_value x
  extract_lets +onlyGivenNames x; clear_value x
  with_reducible apply State.wr_stored
  with_reducible assumption
  exact kf.get rfl

theorem State.loopDelays_stored {s : State} {n : Fin 256} (hs : State.Stored q b s) (kf : b.free [Part.reg RegGroup.ld]) :
    State.Stored q b (State.loopDelays s n) := by
  unfold State.loopDelays
  with_reducible apply State.wr_stored
  with_reducible apply State.loopDin_stored
  with_reducible assumption
  exact kf.sub rfl
  exact kf.get rfl

theorem execLoopEnable_stored {n : Fin 256} {s : State} (hs : State.Stored q b s) (kf : b.free [Part.reg RegGroup.ld]) :
    answers (execLoopEnable n s) (State.Stored q b) := by
  unfold execLoopEnable
  with_reducible apply answers_ite
  with_reducible apply answers_next
  with_reducible assumption
  with_reducible apply answers_ite
  with_reducible apply answers_next
  with_reducible apply State.flag_stored
  with_reducible assumption
  exact kf.get rfl
  with_reducible apply answers_next
  with_reducible apply State.loopDelays_stored
  with_reducible apply State.put_stored
  with_reducible assumption
  exact kf.get rfl
  exact kf.sub rfl

theorem execLoopDisable_stored {n : Fin 256} {s : State} (hs : State.Stored q b s) (kf : b.free [Part.reg RegGroup.ld, Part.loops]) :
    answers (execLoopDisable n s) (State.Stored q b) := by
  unfold execLoopDisable
  extract_lets +onlyGivenNames x; refine (fun (hx : State.Stored q b x) => ?_) ?_ <;> [(try clear_value x); subst x]
  extract_lets +onlyGivenNames x; clear_value x
  with_reducible apply answers_next
  with_reducible apply State.setLoop_stored
  with_reducible assumption
  exact kf.sub rfl
  with_reducible apply State.put_stored
  with_reducible assumption
  exact kf.get rfl

theorem execLoopClrFault_stored {n : Fin 256} {s : State} (hs : State.Stored q b s) (kf : b.free [Part.reg RegGroup.ld, Part.loops]) :
    answers (execLoopClrFault n s) (State.Stored q b) := by
  unfold execLoopClrFault
  extract_lets +onlyGivenNames x; clear_value x
  with_reducible apply answers_ite
  with_reducible apply answers_next
  with_reducible assumption
  with_reducible apply answers_ite
  with_reducible apply answers_next
  with_reducible apply State.flag_stored
  with_reducible assumption
  exact kf.get rfl
  with_reducible apply answers_ite
  with_reducible apply answers_next
  with_reducible apply State.setLoop_stored
  with_reducible apply State.put_stored
  with_reducible assumption
  exact kf.get rfl
  exact kf.sub rfl
  with_reducible apply answers_next
  with_reducible assumption

theorem execLdConfigWrite_stored {n : Fin 256} {r : LdCfg} {v : Word} {s : State} (hs : State.Stored q b s) (kf : b.free [Part.reg RegGroup.ld]) :
    answers (execLdConfigWrite n r v s) (State.Stored q b) := by
  unfold execLdConfigWrite
  extract_lets +onlyGivenNames x; clear_value x
  extract_lets +onlyGivenNames x; clear_value x
  extract_lets +onlyGivenNames x; clear_value x
  with_reducible apply answers_ite
  with_reducible apply answers_next
  with_reducible apply State.wr_stored
  with_reducible assumption
  (with_reducible rw [ldCfgReg_group]); exact kf.get rfl
  with_reducible apply answers_ite
  with_reducible apply answers_next
  with_reducible assumption
  with_reducible apply answers_next
  with_reducible apply State.flag_stored
  with_reducible assumption
  exact kf.get rfl

theorem State.postEdges_stored {s : State} {n : Fin 64} {c : Nat} {words : List (Nat × Nat)} (hs : State.Stored q b s) (kf : b.free [Part.reg RegGroup.port, Part.ports]) :
    State.Stored q b (State.postEdges s n c words) := by
  unfold State.postEdges
  with_reducible apply stored_foldl
  intro _ _ _
  extract_lets +onlyGivenNames x; refine (fun (hx : State.Stored q b x) => ?_) ?_ <;> [(try clear_value x); subst x]
  with_reducible apply State.commitEw_stored
  with_reducible assumption
  exact kf.sub rfl
  with_reducible apply stored_foldl
  intro _ _ _
  with_reducible apply State.wr_stored
  with_reducible apply State.wr_stored
  with_reducible assumption
  exact kf.get rfl
  exact kf.get rfl
  with_reducible assumption
  with_reducible assumption

theorem State.toTile_stored {s : State} {n : Fin 256} {area : Nat} {k : Nat} {ws : List Word} (hs : State.Stored q b s) (kf : b.free [Part.mem]) :
    State.Stored q b (State.toTile s n area k ws) := by
  unfold State.toTile
  split
  with_reducible assumption
  with_reducible apply stored_foldl
  intro _ _ _
  with_reducible apply stored_foldl
  intro _ _ _
  with_reducible apply State.mput_stored
  with_reducible assumption
  exact kf.sub rfl
  with_reducible assumption
  with_reducible assumption

theorem State.banksToTile_stored {s : State} {n : Fin 256} (hs : State.Stored q b s) (kf : b.free [Part.mem]) :
    State.Stored q b (State.banksToTile s n) := by
  unfold State.banksToTile
  with_reducible apply stored_foldl
  intro _ _ _
  with_reducible apply State.toTile_stored
  with_reducible assumption
  exact kf.sub rfl
  with_reducible assumption

theorem State.showLaw_stored {s : State} {n : Fin 256} {vals : List Rat} (hs : State.Stored q b s) (kf : b.free [Part.reg RegGroup.ld]) :
    State.Stored q b (State.showLaw s n vals) := by
  unfold State.showLaw
  extract_lets +onlyGivenNames x; refine (fun (hx : State.Stored q b x) => ?_) ?_ <;> [(try clear_value x); subst x]
  with_reducible apply State.wr_stored
  with_reducible assumption
  exact kf.get rfl
  with_reducible apply stored_foldl
  intro _ _ _
  with_reducible apply State.wr_stored
  with_reducible assumption
  exact kf.get rfl
  with_reducible assumption

theorem State.lawDone_stored {s : State} {n : Fin 256} {r : LawRun} {cycles : Nat} (hs : State.Stored q b s) (kf : b.free [Part.reg RegGroup.ld, Part.loops]) :
    State.Stored q b (State.lawDone s n r cycles).1 := by
  unfold State.lawDone
  extract_lets +onlyGivenNames x; clear_value x
  extract_lets +onlyGivenNames x; clear_value x
  extract_lets +onlyGivenNames x; clear_value x
  simp -zeta only
  extract_lets +onlyGivenNames x; clear_value x
  extract_lets +onlyGivenNames x; clear_value x
  extract_lets +onlyGivenNames x; clear_value x
  extract_lets +onlyGivenNames x; clear_value x
  extract_lets +onlyGivenNames x; refine (fun (hx : State.Stored q b x) => ?_) ?_ <;> [(try clear_value x); subst x]
  extract_lets +onlyGivenNames x; refine (fun (hx : State.Stored q b x) => ?_) ?_ <;> [(try clear_value x); subst x]
  extract_lets +onlyGivenNames x; refine (fun (hx : State.Stored q b x) => ?_) ?_ <;> [(try clear_value x); subst x]
  extract_lets +onlyGivenNames x; refine (fun (hx : State.Stored q b x) => ?_) ?_ <;> [(try clear_value x); subst x]
  simp -zeta only
  with_reducible assumption
  split
  with_reducible apply State.wr_stored
  with_reducible assumption
  exact kf.get rfl
  with_reducible assumption
  with_reducible apply stored_ite
  with_reducible apply State.bump_stored
  with_reducible assumption
  exact kf.get rfl
  with_reducible assumption
  with_reducible apply State.wr_stored
  with_reducible apply State.count_stored
  with_reducible assumption
  exact kf.get rfl
  exact kf.get rfl
  with_reducible apply State.showLaw_stored
  with_reducible apply State.put_stored
  with_reducible apply State.setLoop_stored
  with_reducible assumption
  exact kf.sub rfl
  exact kf.get rfl
  exact kf.sub rfl

theorem execCurrentLawRun_stored {n : Fin 64} {s : State} (hs : State.Stored q b s) (kf : b.free [Part.reg RegGroup.port, Part.reg RegGroup.ld, Part.ports, Part.loops]) :
    answers (execCurrentLawRun n s) (State.Stored q b) := by
  unfold execCurrentLawRun
  extract_lets +onlyGivenNames x; clear_value x
  extract_lets +onlyGivenNames x; clear_value x
  extract_lets +onlyGivenNames x; clear_value x
  simp -zeta only
  with_reducible apply answers_ite
  with_reducible apply answers_next
  with_reducible apply State.postEdges_stored
  with_reducible apply State.lawDone_stored
  with_reducible assumption
  exact kf.sub rfl
  exact kf.sub rfl
  with_reducible apply answers_next
  with_reducible assumption

theorem State.refCommit_stored {s : State} {n : Fin 64} {src : Option (Fin 256)} {c : Nat} (hs : State.Stored q b s) (kf : b.free [Part.reg RegGroup.ld, Part.loops]) :
    State.Stored q b (State.refCommit s n src c) := by
  unfold State.refCommit
  extract_lets +onlyGivenNames x; clear_value x
  extract_lets +onlyGivenNames x; clear_value x
  extract_lets +onlyGivenNames x; clear_value x
  split
  with_reducible apply State.flag_stored
  with_reducible assumption
  exact kf.get rfl
  with_reducible apply stored_ite
  with_reducible apply State.flag_stored
  with_reducible assumption
  exact kf.get rfl
  with_reducible apply State.setLoop_stored
  with_reducible assumption
  exact kf.sub rfl
  extract_lets +onlyGivenNames x; clear_value x
  with_reducible apply stored_ite
  with_reducible assumption
  with_reducible apply State.setLoop_stored
  with_reducible assumption
  exact kf.sub rfl

theorem execLdRefCommit_stored {n : Fin 64} {src : Option (Fin 256)} {c : BitVec 16} {s : State} (hs : State.Stored q b s) (kf : b.free [Part.reg RegGroup.ld, Part.loops]) :
    answers (execLdRefCommit n src c s) (State.Stored q b) := by
  unfold execLdRefCommit
  with_reducible apply answers_next
  with_reducible apply State.refCommit_stored
  with_reducible assumption
  exact kf.sub rfl

theorem State.updOther_stored {s : State} {n : Fin 256} {f : PlanePosts → PlanePosts} (hs : State.Stored q b s) (kf : b.free [Part.pc]) :
    State.Stored q b (State.updOther s n f) := by
  have k_pc : b.keep .pc = false := kf.get rfl
  unfold State.updOther
  extract_lets +onlyGivenNames x; clear_value x
  with_reducible apply stored_ite
  simp -zeta only [stored_mk, k_pc, or_true, true_or]
  with_reducible assumption
  with_reducible assumption

theorem State.otherRef_stored {s : State} {n : Fin 256} {m : Fin 256} {c : Nat} (hs : State.Stored q b s) (kf : b.free [Part.pc]) :
    State.Stored q b (State.otherRef s n m c) := by
  unfold State.otherRef
  split
  with_reducible assumption
  extract_lets +onlyGivenNames x; clear_value x
  with_reducible apply stored_ite
  with_reducible assumption
  with_reducible apply State.updOther_stored
  with_reducible assumption
  exact kf.sub rfl

theorem State.postRef_stored {s : State} {m : Fin 256} {d : Nat} {q_ : Nat} (hs : State.Stored q b s) (kf : b.free [Part.reg RegGroup.ld, Part.loops, Part.pc]) :
    State.Stored q b (State.postRef s m d q_) := by
  unfold State.postRef
  extract_lets +onlyGivenNames x; clear_value x
  extract_lets +onlyGivenNames x; clear_value x
  extract_lets +onlyGivenNames x; refine (fun (hx : State.Stored q b x) => ?_) ?_ <;> [(try clear_value x); subst x]
  with_reducible apply stored_ite
  with_reducible assumption
  with_reducible apply State.refCommit_stored
  with_reducible apply State.wr_stored
  with_reducible apply State.wr_stored
  with_reducible assumption
  exact kf.get rfl
  exact kf.get rfl
  exact kf.sub rfl
  with_reducible apply State.otherRef_stored
  with_reducible apply State.updOther_stored
  with_reducible assumption
  exact kf.sub rfl
  exact kf.sub rfl

theorem execMotionLawRun_stored {n : Fin 64} {s : State} (hs : State.Stored q b s) (kf : b.free [Part.reg RegGroup.ld, Part.loops, Part.pc]) :
    answers (execMotionLawRun n s) (State.Stored q b) := by
  unfold execMotionLawRun
  extract_lets +onlyGivenNames x; clear_value x
  extract_lets +onlyGivenNames x; clear_value x
  extract_lets +onlyGivenNames x; clear_value x
  simp -zeta only
  with_reducible apply answers_ite
  with_reducible apply answers_next
  with_reducible apply stored_ite
  with_reducible apply State.postRef_stored
  with_reducible apply State.lawDone_stored
  with_reducible assumption
  exact kf.sub rfl
  exact kf.sub rfl
  with_reducible apply State.postRef_stored
  with_reducible apply State.lawDone_stored
  with_reducible assumption
  exact kf.sub rfl
  exact kf.sub rfl
  with_reducible apply answers_next
  with_reducible assumption

theorem execCustomLawRun_stored {n : Fin 256} {post : LawPost} {cycles : Nat} {s : State} (hs : State.Stored q b s) (kf : b.free [Part.reg RegGroup.port, Part.reg RegGroup.ld, Part.ports, Part.loops, Part.pc]) :
    answers (execCustomLawRun n post cycles s) (State.Stored q b) := by
  unfold execCustomLawRun
  extract_lets +onlyGivenNames x; clear_value x
  extract_lets +onlyGivenNames x; refine (fun (hx : State.Stored q b x) => ?_) ?_ <;> [(try clear_value x); subst x]
  extract_lets +onlyGivenNames x; refine (fun (hx : State.Stored q b x) => ?_) ?_ <;> [(try clear_value x); subst x]
  extract_lets +onlyGivenNames x; refine (fun (hx : State.Stored q b x) => ?_) ?_ <;> [(try clear_value x); subst x]
  with_reducible apply answers_ite
  split
  with_reducible apply answers_next
  with_reducible apply stored_ite
  with_reducible apply State.postEdges_stored
  with_reducible assumption
  exact kf.sub rfl
  with_reducible assumption
  with_reducible apply answers_next
  with_reducible apply stored_ite
  with_reducible apply State.postRef_stored
  with_reducible assumption
  exact kf.sub rfl
  with_reducible assumption
  with_reducible apply answers_next
  with_reducible assumption
  with_reducible apply answers_next
  with_reducible assumption
  with_reducible apply State.wr_stored
  with_reducible apply State.count_stored
  with_reducible assumption
  exact kf.get rfl
  exact kf.get rfl
  with_reducible apply State.put_stored
  with_reducible assumption
  exact kf.get rfl
  with_reducible apply State.setLoop_stored
  with_reducible assumption
  exact kf.sub rfl

theorem execLdSpCommit_stored {n : Fin 256} {c : BitVec 16} {s : State} (hs : State.Stored q b s) (kf : b.free [Part.reg RegGroup.ld, Part.loops]) :
    answers (execLdSpCommit n c s) (State.Stored q b) := by
  unfold execLdSpCommit
  extract_lets +onlyGivenNames x; clear_value x
  extract_lets +onlyGivenNames x; clear_value x
  with_reducible apply answers_ite
  with_reducible apply answers_next
  with_reducible assumption
  with_reducible apply answers_ite
  with_reducible apply answers_next
  with_reducible apply State.setLoop_stored
  with_reducible assumption
  exact kf.sub rfl
  with_reducible apply answers_ite
  with_reducible apply answers_next
  with_reducible assumption
  with_reducible apply answers_next
  with_reducible apply State.flag_stored
  with_reducible assumption
  exact kf.get rfl

theorem execLdSwapReq_stored {n : Fin 256} {s : State} (hs : State.Stored q b s) (kf : b.free [Part.reg RegGroup.ld]) :
    answers (execLdSwapReq n s) (State.Stored q b) := by
  unfold execLdSwapReq
  with_reducible apply answers_next
  with_reducible apply stored_ite
  with_reducible apply State.flag_stored
  with_reducible assumption
  exact kf.get rfl
  with_reducible apply State.put_stored
  with_reducible assumption
  exact kf.get rfl

theorem State.bankPut_stored {s : State} {n : Fin 256} {b_ : Fin 2} {k : Fin 64} {v : Word} (hs : State.Stored q b s) (kf : b.free [Part.reg RegGroup.ld, Part.mem]) :
    State.Stored q b (State.bankPut s n b_ k v) := by
  unfold State.bankPut
  with_reducible apply State.toTile_stored
  with_reducible apply State.wr_stored
  with_reducible assumption
  exact kf.get rfl
  exact kf.sub rfl

theorem execLdBankWrite_stored {n : Fin 256} {b_ : Fin 2} {k : Fin 64} {v : Word} {s : State} (hs : State.Stored q b s) (kf : b.free [Part.reg RegGroup.ld, Part.mem]) :
    answers (execLdBankWrite n b_ k v s) (State.Stored q b) := by
  unfold execLdBankWrite
  extract_lets +onlyGivenNames x; clear_value x
  extract_lets +onlyGivenNames x; clear_value x
  extract_lets +onlyGivenNames x; clear_value x
  extract_lets +onlyGivenNames x; clear_value x
  extract_lets +onlyGivenNames x; refine (fun (hx : State.Stored q b x) => ?_) ?_ <;> [(try clear_value x); subst x]
  with_reducible apply answers_ite
  with_reducible apply answers_next
  with_reducible apply State.flag_stored
  with_reducible assumption
  exact kf.get rfl
  with_reducible apply answers_ite
  with_reducible apply answers_next
  with_reducible assumption
  with_reducible apply answers_ite
  split
  with_reducible apply answers_next
  with_reducible apply State.bankPut_stored
  with_reducible assumption
  exact kf.sub rfl
  with_reducible apply answers_next
  with_reducible apply State.bankPut_stored
  with_reducible assumption
  exact kf.sub rfl
  with_reducible apply answers_next
  with_reducible apply State.bankPut_stored
  with_reducible assumption
  exact kf.sub rfl
  with_reducible apply answers_next
  with_reducible assumption
  with_reducible apply answers_next
  with_reducible apply State.bankPut_stored
  with_reducible assumption
  exact kf.sub rfl
  with_reducible apply stored_ite
  with_reducible apply State.flag_stored
  with_reducible assumption
  exact kf.get rfl
  with_reducible assumption

theorem execLoopSupWarn_stored {n : Fin 256} {s : State} (hs : State.Stored q b s) (kf : b.free [Part.reg RegGroup.ld, Part.loops]) :
    answers (execLoopSupWarn n s) (State.Stored q b) := by
  unfold execLoopSupWarn
  extract_lets +onlyGivenNames x; clear_value x
  with_reducible apply answers_next
  with_reducible apply stored_ite
  with_reducible apply State.flag_stored
  with_reducible apply State.setLoop_stored
  with_reducible assumption
  exact kf.sub rfl
  exact kf.get rfl
  with_reducible assumption

theorem State.declareFault_stored {s : State} {n : Fin 256} {cause : Nat} (hs : State.Stored q b s) (kf : b.free (postParts ++ [Part.reg RegGroup.ld])) :
    State.Stored q b (State.declareFault s n cause) := by
  unfold State.declareFault
  extract_lets +onlyGivenNames x; refine (fun (hx : State.Stored q b x) => ?_) ?_ <;> [(try clear_value x); subst x]
  with_reducible apply State.post_stored
  with_reducible assumption
  exact kf.sub rfl
  with_reducible apply State.bump_stored
  with_reducible apply State.put_stored
  with_reducible apply State.flag_stored
  with_reducible assumption
  exact kf.get rfl
  exact kf.get rfl
  exact kf.get rfl

theorem State.reactFault_stored {s : State} {n : Fin 256} {cause : Nat} (hs : State.Stored q b s) (kf : b.free (postParts ++ [Part.reg RegGroup.ld])) :
    State.Stored q b (State.reactFault s n cause) := by
  unfold State.reactFault
  extract_lets +onlyGivenNames x; refine (fun (hx : State.Stored q b x) => ?_) ?_ <;> [(try clear_value x); subst x]
  extract_lets +onlyGivenNames x; refine (fun (hx : State.Stored q b x) => ?_) ?_ <;> [(try clear_value x); subst x]
  extract_lets +onlyGivenNames x; clear_value x
  with_reducible apply stored_ite
  with_reducible assumption
  with_reducible apply stored_ite
  with_reducible apply State.put_stored
  with_reducible apply State.declareFault_stored
  with_reducible assumption
  exact kf.sub rfl
  exact kf.get rfl
  with_reducible assumption
  with_reducible apply State.put_stored
  with_reducible assumption
  exact kf.get rfl
  with_reducible apply State.declareFault_stored
  with_reducible assumption
  exact kf.sub rfl

theorem State.dueFault_stored {s : State} {n : Fin 256} {causes : List Nat} (hs : State.Stored q b s) (kf : b.free (postParts ++ [Part.reg RegGroup.ld, Part.loops])) :
    State.Stored q b (State.dueFault s n causes) := by
  unfold State.dueFault
  extract_lets +onlyGivenNames x; clear_value x
  split
  with_reducible assumption
  with_reducible apply stored_ite
  with_reducible apply State.reactFault_stored
  with_reducible apply State.setLoop_stored
  with_reducible assumption
  exact kf.sub rfl
  exact kf.sub rfl
  with_reducible assumption

theorem execLoopSupFault_stored {n : Fin 256} {s : State} (hs : State.Stored q b s) (kf : b.free (postParts ++ [Part.reg RegGroup.ld, Part.loops])) :
    answers (execLoopSupFault n s) (State.Stored q b) := by
  unfold execLoopSupFault
  with_reducible apply answers_next
  with_reducible apply State.dueFault_stored
  with_reducible assumption
  exact kf.sub rfl

theorem execLoopBadLimit_stored {n : Fin 256} {s : State} (hs : State.Stored q b s) (kf : b.free (postParts ++ [Part.reg RegGroup.ld, Part.loops])) :
    answers (execLoopBadLimit n s) (State.Stored q b) := by
  unfold execLoopBadLimit
  with_reducible apply answers_next
  with_reducible apply State.dueFault_stored
  with_reducible assumption
  exact kf.sub rfl

theorem State.posted_stored {s : State} {pl : Fin 2} {x : List Nat} (hs : State.Stored q b s) (kf : b.free [Part.pc]) :
    State.Stored q b (State.posted s pl x) := by
  have k_pc : b.keep .pc = false := kf.get rfl
  unfold State.posted
  extract_lets +onlyGivenNames x; clear_value x
  extract_lets +onlyGivenNames x; clear_value x
  simp -zeta only [stored_mk, k_pc, or_true, true_or]
  with_reducible assumption

theorem State.actOnWord_stored {s : State} {n : Fin 256} (hs : State.Stored q b s) (kf : b.free (postParts ++ [Part.reg RegGroup.port, Part.reg RegGroup.stp, Part.ports, Part.axes, Part.loops])) :
    State.Stored q b (State.actOnWord s n) := by
  unfold State.actOnWord
  extract_lets +onlyGivenNames x; clear_value x
  with_reducible apply State.forceTrip_stored
  with_reducible apply State.setLoop_stored
  with_reducible assumption
  exact kf.sub rfl
  exact kf.sub rfl

theorem execLoopFaultWord_stored {n : Fin 256} {plane : Fin 2} {s : State} (hs : State.Stored q b s) (kf : b.free (postParts ++ [Part.reg RegGroup.port, Part.reg RegGroup.stp, Part.ports, Part.axes, Part.loops, Part.pc])) :
    answers (execLoopFaultWord n plane s) (State.Stored q b) := by
  unfold execLoopFaultWord
  extract_lets +onlyGivenNames x; refine (fun (hx : State.Stored q b x) => ?_) ?_ <;> [(try clear_value x); subst x]
  extract_lets +onlyGivenNames x; clear_value x
  with_reducible apply answers_ite
  with_reducible apply answers_next
  with_reducible assumption
  with_reducible apply answers_ite
  with_reducible apply answers_next
  with_reducible apply State.actOnWord_stored
  with_reducible assumption
  exact kf.sub rfl
  with_reducible apply answers_next
  with_reducible apply State.setLoop_stored
  with_reducible assumption
  exact kf.sub rfl
  with_reducible apply State.posted_stored
  with_reducible assumption
  exact kf.sub rfl

theorem State.loopTableOf_stored {s : State} {p : Fin 2} (hs : State.Stored q b s) (kf : b.free (postParts ++ [Part.reg RegGroup.port, Part.reg RegGroup.ld, Part.reg RegGroup.stp, Part.ports, Part.axes, Part.loops, Part.pc])) :
    State.Stored q b (State.loopTableOf s p) := by
  have k_pc : b.keep .pc = false := kf.get rfl
  unfold State.loopTableOf
  extract_lets +onlyGivenNames x; clear_value x
  extract_lets +onlyGivenNames x; clear_value x
  with_reducible apply stored_foldl
  intro _ _ _
  extract_lets +onlyGivenNames x; clear_value x
  extract_lets +onlyGivenNames x; clear_value x
  extract_lets +onlyGivenNames x; clear_value x
  extract_lets +onlyGivenNames x; clear_value x
  extract_lets +onlyGivenNames x; clear_value x
  extract_lets +onlyGivenNames x; refine (fun (hx : State.Stored q b x) => ?_) ?_ <;> [(try clear_value x); subst x]
  extract_lets +onlyGivenNames x; refine (fun (hx : State.Stored q b x) => ?_) ?_ <;> [(try clear_value x); subst x]
  extract_lets +onlyGivenNames x; refine (fun (hx : State.Stored q b x) => ?_) ?_ <;> [(try clear_value x); subst x]
  with_reducible apply stored_ite
  with_reducible apply State.actOnWord_stored
  with_reducible assumption
  exact kf.sub rfl
  with_reducible assumption
  with_reducible apply State.setLoop_stored
  with_reducible assumption
  exact kf.sub rfl
  with_reducible apply stored_ite
  with_reducible apply State.wr_stored
  with_reducible apply State.wr_stored
  with_reducible apply State.wr_stored
  with_reducible apply State.wr_stored
  with_reducible apply State.wr_stored
  with_reducible apply State.wr_stored
  with_reducible assumption
  exact kf.get rfl
  exact kf.get rfl
  exact kf.get rfl
  exact kf.get rfl
  exact kf.get rfl
  exact kf.get rfl
  with_reducible assumption
  simp -zeta only [stored_mk, k_pc, or_true, true_or]
  with_reducible assumption
  with_reducible assumption

theorem execLawWcetExceed_stored {n : Fin 256} {cycles : Nat} {s : State} (hs : State.Stored q b s) (kf : b.free (postParts ++ [Part.reg RegGroup.ld, Part.boot])) :
    answers (execLawWcetExceed n cycles s) (State.Stored q b) := by
  unfold execLawWcetExceed
  with_reducible apply answers_ite
  with_reducible apply answers_next
  with_reducible apply State.post_stored
  with_reducible apply State.mishap_stored
  with_reducible apply State.flag_stored
  with_reducible assumption
  exact kf.get rfl
  exact kf.sub rfl
  exact kf.sub rfl
  with_reducible apply answers_next
  with_reducible assumption

theorem State.selectRef_stored {s : State} {n : Fin 64} {k : Nat} (hs : State.Stored q b s) (kf : b.free [Part.reg RegGroup.ld, Part.loops, Part.boot]) :
    State.Stored q b (State.selectRef s n k) := by
  unfold State.selectRef
  extract_lets +onlyGivenNames x; clear_value x
  extract_lets +onlyGivenNames x; clear_value x
  extract_lets +onlyGivenNames x; clear_value x
  extract_lets +onlyGivenNames x; clear_value x
  split
  with_reducible apply State.setLoop_stored
  with_reducible assumption
  exact kf.sub rfl
  with_reducible apply State.setLoop_stored
  with_reducible assumption
  exact kf.sub rfl
  with_reducible apply State.mishap_stored
  with_reducible apply State.bump_stored
  with_reducible apply State.flag_stored
  with_reducible apply State.setLoop_stored
  with_reducible assumption
  exact kf.sub rfl
  exact kf.get rfl
  exact kf.get rfl
  exact kf.sub rfl

theorem State.deliverSp_stored {s : State} {n : Fin 256} {k : Nat} (hs : State.Stored q b s) (kf : b.free [Part.reg RegGroup.ld, Part.loops, Part.boot]) :
    State.Stored q b (State.deliverSp s n k) := by
  unfold State.deliverSp
  extract_lets +onlyGivenNames x; clear_value x
  extract_lets +onlyGivenNames x; clear_value x
  extract_lets +onlyGivenNames x; clear_value x
  extract_lets +onlyGivenNames x; clear_value x
  simp -zeta only
  extract_lets +onlyGivenNames x; clear_value x
  extract_lets +onlyGivenNames x; refine (fun (hx : State.Stored q b x) => ?_) ?_ <;> [(try clear_value x); subst x]
  split
  with_reducible apply State.setLoop_stored
  with_reducible assumption
  exact kf.sub rfl
  with_reducible apply State.mishap_stored
  with_reducible apply State.bump_stored
  with_reducible apply State.flag_stored
  with_reducible assumption
  exact kf.get rfl
  exact kf.get rfl
  exact kf.sub rfl
  with_reducible apply State.setLoop_stored
  with_reducible assumption
  exact kf.sub rfl

theorem State.swapBank_stored {s : State} {n : Fin 256} (hs : State.Stored q b s) (kf : b.free [Part.reg RegGroup.ld]) :
    State.Stored q b (State.swapBank s n) := by
  unfold State.swapBank
  with_reducible apply stored_ite
  with_reducible apply State.put_stored
  with_reducible apply State.put_stored
  with_reducible assumption
  exact kf.get rfl
  exact kf.get rfl
  with_reducible assumption

theorem State.loopEdge_stored {s : State} {n : Fin 256} {k : Nat} (hs : State.Stored q b s) (kf : b.free [Part.reg RegGroup.ld, Part.loops, Part.boot]) :
    State.Stored q b (State.loopEdge s n k) := by
  unfold State.loopEdge
  extract_lets +onlyGivenNames x; refine (fun (hx : State.Stored q b x) => ?_) ?_ <;> [(try clear_value x); subst x]
  extract_lets +onlyGivenNames x; refine (fun (hx : State.Stored q b x) => ?_) ?_ <;> [(try clear_value x); subst x]
  extract_lets +onlyGivenNames x; refine (fun (hx : State.Stored q b x) => ?_) ?_ <;> [(try clear_value x); subst x]
  extract_lets +onlyGivenNames x; clear_value x
  extract_lets +onlyGivenNames x; refine (fun (hx : State.Stored q b x) => ?_) ?_ <;> [(try clear_value x); subst x]
  extract_lets +onlyGivenNames x; clear_value x
  extract_lets +onlyGivenNames x; clear_value x
  with_reducible apply stored_ite
  with_reducible apply stored_ite
  with_reducible apply State.setLoop_stored
  with_reducible assumption
  exact kf.sub rfl
  with_reducible assumption
  with_reducible assumption
  with_reducible apply State.setLoop_stored
  with_reducible assumption
  exact kf.sub rfl
  with_reducible apply stored_ite
  with_reducible apply State.deliverSp_stored
  with_reducible assumption
  exact kf.sub rfl
  with_reducible assumption
  with_reducible apply State.swapBank_stored
  with_reducible assumption
  exact kf.sub rfl
  with_reducible apply stored_ite
  with_reducible apply State.loopDin_stored
  with_reducible assumption
  exact kf.sub rfl
  with_reducible assumption

theorem State.deliverBlocks_stored {s : State} (hs : State.Stored q b s) (kf : b.free [Part.mem, Part.loops]) :
    State.Stored q b (State.deliverBlocks s) := by
  unfold State.deliverBlocks
  with_reducible apply stored_foldl
  intro _ _ _
  extract_lets +onlyGivenNames x; clear_value x
  extract_lets +onlyGivenNames x; clear_value x
  with_reducible apply stored_ite
  with_reducible apply State.toTile_stored
  with_reducible apply State.setLoop_stored
  with_reducible assumption
  exact kf.sub rfl
  exact kf.sub rfl
  with_reducible assumption
  with_reducible assumption

theorem execSampleDelivery_stored {bits : List ((Fin 80 × Bool) × List Bool)} {s : State} (hs : State.Stored q b s) (kf : b.free [Part.reg RegGroup.sdf, Part.reg RegGroup.fb, Part.now, Part.mem, Part.loops]) :
    answers (execSampleDelivery bits s) (State.Stored q b) := by
  unfold execSampleDelivery
  extract_lets +onlyGivenNames x; clear_value x
  extract_lets +onlyGivenNames x; refine (fun (hx : State.Stored q b x) => ?_) ?_ <;> [(try clear_value x); subst x]
  with_reducible apply answers_next
  with_reducible apply State.deliverBlocks_stored
  with_reducible apply stored_foldl
  intro _ _ _
  with_reducible apply State.deliverFb_stored
  with_reducible assumption
  exact kf.sub rfl
  with_reducible assumption
  exact kf.sub rfl
  with_reducible apply State.deliverFilters_stored
  with_reducible apply State.advance_stored
  with_reducible assumption
  exact kf.sub rfl
  exact kf.sub rfl

theorem State.loopTableEdge_stored {s : State} {k : Nat} (hs : State.Stored q b s) (kf : b.free [Part.reg RegGroup.ld, Part.loops, Part.boot]) :
    State.Stored q b (State.loopTableEdge s k) := by
  unfold State.loopTableEdge
  with_reducible apply stored_foldl
  intro _ _ _
  with_reducible apply State.loopEdge_stored
  with_reducible assumption
  exact kf.sub rfl
  with_reducible apply stored_foldl
  intro _ _ _
  with_reducible apply State.selectRef_stored
  with_reducible assumption
  exact kf.sub rfl
  with_reducible assumption

theorem State.loopsRestart_stored {s : State} (hs : State.Stored q b s) (kf : b.free [Part.loops, Part.pc]) :
    State.Stored q b (State.loopsRestart s) := by
  have k_loops : b.keep .loops = false := kf.get rfl
  have k_pc : b.keep .pc = false := kf.get rfl
  unfold State.loopsRestart
  extract_lets +onlyGivenNames x; clear_value x
  simp -zeta only [stored_mk, k_loops, k_pc, or_true, true_or]
  with_reducible assumption

theorem State.setTask_stored {s : State} {n : Fin 4096} {r : TaskRec} (hs : State.Stored q b s) (kf : b.free [Part.stk]) :
    State.Stored q b (State.setTask s n r) := by
  have k_stk : b.keep .stk = false := kf.get rfl
  unfold State.setTask
  extract_lets +onlyGivenNames x; clear_value x
  simp -zeta only [stored_mk, k_stk, or_true, true_or]
  with_reducible assumption

theorem State.setBuf_stored {s : State} {h : Fin 8192} {r : BufRec} (hs : State.Stored q b s) (kf : b.free [Part.stk]) :
    State.Stored q b (State.setBuf s h r) := by
  have k_stk : b.keep .stk = false := kf.get rfl
  unfold State.setBuf
  extract_lets +onlyGivenNames x; clear_value x
  simp -zeta only [stored_mk, k_stk, or_true, true_or]
  with_reducible assumption

theorem State.recordWait_stored {s : State} {n : Fin 4096} (hs : State.Stored q b s) (kf : b.free [Part.reg RegGroup.stk]) :
    State.Stored q b (State.recordWait s n) := by
  unfold State.recordWait
  extract_lets +onlyGivenNames x; clear_value x
  extract_lets +onlyGivenNames x; clear_value x
  extract_lets +onlyGivenNames x; clear_value x
  extract_lets +onlyGivenNames x; clear_value x
  extract_lets +onlyGivenNames x; refine (fun (hx : State.Stored q b x) => ?_) ?_ <;> [(try clear_value x); subst x]
  with_reducible apply stored_ite
  with_reducible assumption
  with_reducible apply State.wr_stored
  with_reducible assumption
  exact kf.get rfl
  with_reducible apply State.wr_stored
  with_reducible assumption
  exact kf.get rfl

theorem State.startSlot_stored {s : State} {t_ : Fin 32} (hs : State.Stored q b s) (kf : b.free [Part.reg RegGroup.stk, Part.tiles, Part.stk, Part.ic]) :
    State.Stored q b (State.startSlot s t_) := by
  unfold State.startSlot
  extract_lets +onlyGivenNames x; clear_value x
  split
  with_reducible assumption
  extract_lets +onlyGivenNames x; clear_value x
  extract_lets +onlyGivenNames x; clear_value x
  extract_lets +onlyGivenNames x; refine (fun (hx : State.Stored q b x) => ?_) ?_ <;> [(try clear_value x); subst x]
  extract_lets +onlyGivenNames x; clear_value x
  with_reducible apply stored_ite
  with_reducible apply State.icTimers_stored
  with_reducible apply State.recordWait_stored
  with_reducible apply State.setTask_stored
  with_reducible apply State.put_stored
  with_reducible assumption
  exact kf.get rfl
  exact kf.sub rfl
  exact kf.sub rfl
  exact kf.sub rfl
  with_reducible assumption
  with_reducible apply State.setTile_stored
  with_reducible assumption
  exact kf.sub rfl

theorem State.queueUp_stored {s : State} {q_ : Fin 64} (hs : State.Stored q b s) (kf : b.free [Part.reg RegGroup.stk]) :
    State.Stored q b (State.queueUp s q_) := by
  unfold State.queueUp
  extract_lets +onlyGivenNames x; clear_value x
  with_reducible apply State.put_stored
  with_reducible apply State.put_stored
  with_reducible assumption
  exact kf.get rfl
  exact kf.get rfl

theorem State.queueDown_stored {s : State} {q_ : Fin 64} (hs : State.Stored q b s) (kf : b.free [Part.reg RegGroup.stk]) :
    State.Stored q b (State.queueDown s q_) := by
  unfold State.queueDown
  with_reducible apply State.put_stored
  with_reducible assumption
  exact kf.get rfl

theorem State.placeChanged_stored {s : State} (hs : State.Stored q b s) (kf : b.free [Part.stk]) : State.Stored q b (State.placeChanged s) := by
  have k_stk : b.keep .stk = false := kf.get rfl
  unfold State.placeChanged
  extract_lets +onlyGivenNames x; clear_value x
  simp -zeta only [stored_mk, k_stk, or_true, true_or]
  with_reducible assumption

theorem State.toRest_stored {s : State} {n : Fin 4096} {last : Nat} (hs : State.Stored q b s) (kf : b.free [Part.reg RegGroup.stk, Part.stk, Part.ic]) :
    State.Stored q b (State.toRest s n last) := by
  unfold State.toRest
  extract_lets +onlyGivenNames x; clear_value x
  extract_lets +onlyGivenNames x; clear_value x
  extract_lets +onlyGivenNames x; refine (fun (hx : State.Stored q b x) => ?_) ?_ <;> [(try clear_value x); subst x]
  extract_lets +onlyGivenNames x; refine (fun (hx : State.Stored q b x) => ?_) ?_ <;> [(try clear_value x); subst x]
  with_reducible apply State.icTimers_stored
  with_reducible apply stored_ite
  with_reducible apply State.placeChanged_stored
  with_reducible apply State.put_stored
  with_reducible assumption
  exact kf.get rfl
  exact kf.sub rfl
  with_reducible assumption
  exact kf.sub rfl
  with_reducible apply State.put_stored
  with_reducible apply State.put_stored
  with_reducible assumption
  exact kf.get rfl
  exact kf.get rfl
  with_reducible apply State.setTask_stored
  with_reducible assumption
  exact kf.sub rfl

theorem State.kilnHanded_stored {s : State} {n : Fin 4096} (hs : State.Stored q b s) (kf : b.free [Part.reg RegGroup.stk]) :
    State.Stored q b (State.kilnHanded s n) := by
  unfold State.kilnHanded
  with_reducible apply State.put_stored
  with_reducible apply State.queueDown_stored
  with_reducible assumption
  exact kf.sub rfl
  exact kf.get rfl

theorem State.kilnDone_stored {s : State} {k : Fin 2} {task : Option (Fin 4096)} {last : Nat} (hs : State.Stored q b s) (kf : b.free [Part.reg RegGroup.stk, Part.stk, Part.ic]) :
    State.Stored q b (State.kilnDone s k task last) := by
  unfold State.kilnDone
  split
  with_reducible apply stored_ite
  with_reducible apply State.toRest_stored
  with_reducible assumption
  exact kf.sub rfl
  with_reducible assumption
  with_reducible assumption

theorem State.setKctx_stored {s : State} {k : Fin 2} {c : Fin 16} {x : KContext} (hs : State.Stored q b s) (kf : b.free [Part.kiln]) :
    State.Stored q b (State.setKctx s k c x) := by
  have k_kiln : b.keep .kiln = false := kf.get rfl
  unfold State.setKctx
  simp -zeta only [stored_mk, k_kiln, or_true, true_or]
  with_reducible assumption

theorem State.showPhase_stored {s : State} {k : Fin 2} {c : Fin 16} (hs : State.Stored q b s) (kf : b.free [Part.reg RegGroup.kn]) :
    State.Stored q b (State.showPhase s k c) := by
  unfold State.showPhase
  extract_lets +onlyGivenNames x; clear_value x
  extract_lets +onlyGivenNames x; refine (fun (hx : State.Stored q b x) => ?_) ?_ <;> [(try clear_value x); subst x]
  with_reducible apply State.putB_stored
  with_reducible assumption
  exact kf.get rfl
  with_reducible apply State.put_stored
  with_reducible assumption
  exact kf.get rfl

theorem State.kWrite_stored {s : State} {k : Fin 2} {base : Nat} {base' : Nat} {o : Nat} {bs : List Byte} (hs : State.Stored q b s) (kf : b.free [Part.mem, Part.pc]) :
    State.Stored q b (State.kWrite s k base base' o bs) := by
  unfold State.kWrite
  extract_lets +onlyGivenNames x; refine (fun (hx : State.Stored q b x) => ?_) ?_ <;> [(try clear_value x); subst x]
  extract_lets +onlyGivenNames x; refine (fun (hx : State.Stored q b x) => ?_) ?_ <;> [(try clear_value x); subst x]
  with_reducible apply State.foldSig_stored
  with_reducible assumption
  exact kf.sub rfl
  with_reducible apply stored_ite
  with_reducible apply State.mwrite_stored
  with_reducible assumption
  exact kf.sub rfl
  with_reducible assumption
  with_reducible apply State.mwrite_stored
  with_reducible assumption
  exact kf.sub rfl

theorem State.kWriteAll_stored {s : State} {k : Fin 2} {c : Fin 16} {res : Nat} {o : Nat} {bs : List Byte} (hs : State.Stored q b s) (kf : b.free [Part.mem, Part.pc]) :
    State.Stored q b (State.kWriteAll s k c res o bs) := by
  unfold State.kWriteAll
  with_reducible apply stored_foldl
  intro _ _ _
  with_reducible apply State.kWrite_stored
  with_reducible assumption
  exact kf.sub rfl
  with_reducible assumption

theorem State.publish_stored {s : State} {k : Fin 2} {c : Fin 16} {r : KResult} {written : optParam Bool false} (hs : State.Stored q b s) (kf : b.free [Part.reg RegGroup.kn, Part.mem, Part.kiln, Part.pc]) :
    State.Stored q b (State.publish s k c r written) := by
  unfold State.publish
  extract_lets +onlyGivenNames x; clear_value x
  extract_lets +onlyGivenNames x; clear_value x
  extract_lets +onlyGivenNames x; clear_value x
  extract_lets +onlyGivenNames x; refine (fun (hx : State.Stored q b x) => ?_) ?_ <;> [(try clear_value x); subst x]
  extract_lets +onlyGivenNames x; refine (fun (hx : State.Stored q b x) => ?_) ?_ <;> [(try clear_value x); subst x]
  extract_lets +onlyGivenNames x; refine (fun (hx : State.Stored q b x) => ?_) ?_ <;> [(try clear_value x); subst x]
  with_reducible apply stored_ite
  with_reducible apply State.bump_stored
  with_reducible apply State.flag_stored
  with_reducible assumption
  exact kf.get rfl
  exact kf.get rfl
  with_reducible apply State.put_stored
  with_reducible assumption
  exact kf.get rfl
  with_reducible apply State.putB_stored
  with_reducible apply State.wr_stored
  with_reducible assumption
  exact kf.get rfl
  exact kf.get rfl
  with_reducible apply State.setKctx_stored
  with_reducible assumption
  exact kf.sub rfl
  with_reducible apply State.kWriteAll_stored
  with_reducible assumption
  exact kf.sub rfl

theorem State.deliver_stored {s : State} {k : Fin 2} {c : Fin 16} {r : KResult} (hs : State.Stored q b s) (kf : b.free [Part.reg RegGroup.kn, Part.mem, Part.kiln, Part.pc]) :
    State.Stored q b (State.deliver s k c r) := by
  unfold State.deliver
  extract_lets +onlyGivenNames x; clear_value x
  with_reducible apply stored_ite
  with_reducible apply State.showPhase_stored
  with_reducible apply State.setKctx_stored
  with_reducible apply State.kWriteAll_stored
  with_reducible assumption
  exact kf.sub rfl
  exact kf.sub rfl
  exact kf.sub rfl
  with_reducible apply State.showPhase_stored
  with_reducible apply State.publish_stored
  with_reducible assumption
  exact kf.sub rfl
  exact kf.sub rfl

theorem State.kAccept_stored {s : State} {k : Fin 2} {c : Fin 16} {p : Option KProblem} {res : Nat} {task : Option (Fin 4096)} (hs : State.Stored q b s) (kf : b.free [Part.reg RegGroup.kn, Part.reg RegGroup.stk, Part.mem, Part.kiln, Part.stk, Part.pc, Part.ic]) :
    State.Stored q b (State.kAccept s k c p res task) := by
  unfold State.kAccept
  extract_lets +onlyGivenNames x; clear_value x
  extract_lets +onlyGivenNames x; refine (fun (hx : State.Stored q b x) => ?_) ?_ <;> [(try clear_value x); subst x]
  split
  with_reducible apply State.kilnDone_stored
  with_reducible apply State.flag_stored
  with_reducible assumption
  exact kf.get rfl
  exact kf.sub rfl
  extract_lets +onlyGivenNames x; clear_value x
  extract_lets +onlyGivenNames x; clear_value x
  extract_lets +onlyGivenNames x; clear_value x
  extract_lets +onlyGivenNames x; clear_value x
  extract_lets +onlyGivenNames x; refine (fun (hx : State.Stored q b x) => ?_) ?_ <;> [(try clear_value x); subst x]
  extract_lets +onlyGivenNames x; refine (fun (hx : State.Stored q b x) => ?_) ?_ <;> [(try clear_value x); subst x]
  extract_lets +onlyGivenNames x; refine (fun (hx : State.Stored q b x) => ?_) ?_ <;> [(try clear_value x); subst x]
  with_reducible apply stored_ite
  with_reducible apply State.kilnDone_stored
  with_reducible apply State.flag_stored
  with_reducible assumption
  exact kf.get rfl
  exact kf.sub rfl
  with_reducible apply State.showPhase_stored
  with_reducible assumption
  exact kf.sub rfl
  with_reducible apply stored_ite
  split
  with_reducible apply State.put_stored
  with_reducible apply State.kWriteAll_stored
  with_reducible assumption
  exact kf.sub rfl
  exact kf.get rfl
  with_reducible apply State.put_stored
  with_reducible assumption
  exact kf.get rfl
  with_reducible assumption
  with_reducible apply State.putB_stored
  with_reducible apply State.wr_stored
  with_reducible assumption
  exact kf.get rfl
  exact kf.get rfl
  with_reducible apply State.setKctx_stored
  with_reducible assumption
  exact kf.sub rfl
  split
  with_reducible apply State.kilnDone_stored
  with_reducible apply State.bump_stored
  with_reducible assumption
  exact kf.get rfl
  exact kf.sub rfl
  with_reducible assumption

theorem execKilnRequest_stored {n : Fin 4096} {s : State} (hs : State.Stored q b s) (kf : b.free [Part.reg RegGroup.kn, Part.reg RegGroup.stk, Part.mem, Part.kiln, Part.stk, Part.pc, Part.ic]) :
    answers (execKilnRequest n s) (State.Stored q b) := by
  unfold execKilnRequest
  extract_lets +onlyGivenNames x; clear_value x
  extract_lets +onlyGivenNames x; clear_value x
  with_reducible apply answers_ite
  with_reducible apply answers_next
  with_reducible assumption
  with_reducible apply answers_next
  with_reducible apply stored_foldl
  intro _ _ _
  with_reducible apply State.kAccept_stored
  with_reducible assumption
  exact kf.sub rfl
  with_reducible apply State.kilnHanded_stored
  with_reducible assumption
  exact kf.sub rfl

theorem State.kStart_stored {s : State} {k : Fin 2} {c : Fin 16} (hs : State.Stored q b s) (kf : b.free [Part.reg RegGroup.kn, Part.kiln]) :
    State.Stored q b (State.kStart s k c) := by
  unfold State.kStart
  extract_lets +onlyGivenNames x; clear_value x
  extract_lets +onlyGivenNames x; refine (fun (hx : State.Stored q b x) => ?_) ?_ <;> [(try clear_value x); subst x]
  split
  with_reducible assumption
  extract_lets +onlyGivenNames x; clear_value x
  extract_lets +onlyGivenNames x; clear_value x
  extract_lets +onlyGivenNames x; clear_value x
  extract_lets +onlyGivenNames x; clear_value x
  extract_lets +onlyGivenNames x; refine (fun (hx : State.Stored q b x) => ?_) ?_ <;> [(try clear_value x); subst x]
  extract_lets +onlyGivenNames x; refine (fun (hx : State.Stored q b x) => ?_) ?_ <;> [(try clear_value x); subst x]
  extract_lets +onlyGivenNames x; refine (fun (hx : State.Stored q b x) => ?_) ?_ <;> [(try clear_value x); subst x]
  extract_lets +onlyGivenNames x; refine (fun (hx : State.Stored q b x) => ?_) ?_ <;> [(try clear_value x); subst x]
  with_reducible apply State.showPhase_stored
  with_reducible apply State.count_stored
  with_reducible apply State.put_stored
  with_reducible assumption
  exact kf.get rfl
  exact kf.get rfl
  exact kf.sub rfl
  with_reducible apply State.wr_stored
  with_reducible apply State.wr_stored
  with_reducible assumption
  exact kf.get rfl
  exact kf.get rfl
  with_reducible apply State.put_stored
  with_reducible apply State.put_stored
  with_reducible apply State.put_stored
  with_reducible apply State.put_stored
  with_reducible assumption
  exact kf.get rfl
  exact kf.get rfl
  exact kf.get rfl
  exact kf.get rfl
  with_reducible apply State.setKctx_stored
  with_reducible assumption
  exact kf.sub rfl
  with_reducible apply stored_ite
  with_reducible apply State.bump_stored
  with_reducible apply State.flag_stored
  with_reducible assumption
  exact kf.get rfl
  exact kf.get rfl
  with_reducible assumption
  with_reducible apply State.wr_stored
  with_reducible assumption
  exact kf.get rfl

theorem execKilnSolveStart_stored {k : Fin 2} {s : State} (hs : State.Stored q b s) (kf : b.free [Part.reg RegGroup.kn, Part.kiln]) :
    answers (execKilnSolveStart k s) (State.Stored q b) := by
  unfold execKilnSolveStart
  extract_lets +onlyGivenNames x; clear_value x
  with_reducible apply answers_ite
  with_reducible apply answers_next
  with_reducible assumption
  split
  with_reducible apply answers_next
  with_reducible apply stored_ite
  with_reducible assumption
  with_reducible apply State.kStart_stored
  with_reducible assumption
  exact kf.sub rfl
  with_reducible apply answers_next
  with_reducible assumption

theorem State.busyUp_stored {s : State} {k : Fin 2} (hs : State.Stored q b s) (kf : b.free [Part.reg RegGroup.kn, Part.kiln]) :
    State.Stored q b (State.busyUp s k) := by
  unfold State.busyUp
  split
  with_reducible assumption
  extract_lets +onlyGivenNames x; clear_value x
  split
  with_reducible assumption
  extract_lets +onlyGivenNames x; clear_value x
  with_reducible apply State.setKctx_stored
  with_reducible apply State.wr_stored
  with_reducible assumption
  exact kf.get rfl
  exact kf.sub rfl

theorem State.kEnd_stored {s : State} {k : Fin 2} {c : Fin 16} (hs : State.Stored q b s) (kf : b.free [Part.reg RegGroup.kn, Part.reg RegGroup.stk, Part.mem, Part.kiln, Part.stk, Part.pc, Part.ic]) :
    State.Stored q b (State.kEnd s k c) := by
  unfold State.kEnd
  extract_lets +onlyGivenNames x; clear_value x
  split
  with_reducible assumption
  extract_lets +onlyGivenNames x; clear_value x
  extract_lets +onlyGivenNames x; clear_value x
  extract_lets +onlyGivenNames x; clear_value x
  extract_lets +onlyGivenNames x; clear_value x
  extract_lets +onlyGivenNames x; clear_value x
  extract_lets +onlyGivenNames x; refine (fun (hx : State.Stored q b x) => ?_) ?_ <;> [(try clear_value x); subst x]
  extract_lets +onlyGivenNames x; refine (fun (hx : State.Stored q b x) => ?_) ?_ <;> [(try clear_value x); subst x]
  extract_lets +onlyGivenNames x; refine (fun (hx : State.Stored q b x) => ?_) ?_ <;> [(try clear_value x); subst x]
  extract_lets +onlyGivenNames x; refine (fun (hx : State.Stored q b x) => ?_) ?_ <;> [(try clear_value x); subst x]
  extract_lets +onlyGivenNames x; refine (fun (hx : State.Stored q b x) => ?_) ?_ <;> [(try clear_value x); subst x]
  extract_lets +onlyGivenNames x; refine (fun (hx : State.Stored q b x) => ?_) ?_ <;> [(try clear_value x); subst x]
  extract_lets +onlyGivenNames x; refine (fun (hx : State.Stored q b x) => ?_) ?_ <;> [(try clear_value x); subst x]
  extract_lets +onlyGivenNames x; refine (fun (hx : State.Stored q b x) => ?_) ?_ <;> [(try clear_value x); subst x]
  extract_lets +onlyGivenNames x; clear_value x
  extract_lets +onlyGivenNames x; clear_value x
  with_reducible apply State.kilnDone_stored
  with_reducible apply State.deliver_stored
  with_reducible assumption
  exact kf.sub rfl
  exact kf.sub rfl
  with_reducible apply State.setKctx_stored
  with_reducible assumption
  exact kf.sub rfl
  with_reducible apply stored_ite
  with_reducible apply State.flag_stored
  with_reducible assumption
  exact kf.get rfl
  with_reducible assumption
  with_reducible apply stored_ite
  with_reducible apply State.flag_stored
  with_reducible assumption
  exact kf.get rfl
  with_reducible assumption
  with_reducible apply stored_ite
  with_reducible apply State.flag_stored
  with_reducible assumption
  exact kf.get rfl
  with_reducible assumption
  with_reducible apply stored_ite
  with_reducible apply State.flag_stored
  with_reducible assumption
  exact kf.get rfl
  with_reducible assumption
  with_reducible apply State.wr_stored
  with_reducible assumption
  exact kf.get rfl
  with_reducible apply State.put_stored
  with_reducible apply State.put_stored
  with_reducible assumption
  exact kf.get rfl
  exact kf.get rfl
  with_reducible apply State.wr_stored
  with_reducible apply State.wr_stored
  with_reducible assumption
  exact kf.get rfl
  exact kf.get rfl

theorem State.kLateDone_stored {s : State} {k : Fin 2} {c : Fin 16} {l : KLate} (hs : State.Stored q b s) (kf : b.free [Part.reg RegGroup.kn, Part.reg RegGroup.stk, Part.now, Part.mem, Part.kiln, Part.stk, Part.pc, Part.ic]) :
    State.Stored q b (State.kLateDone s k c l) := by
  unfold State.kLateDone
  extract_lets +onlyGivenNames x; refine (fun (hx : State.Stored q b x) => ?_) ?_ <;> [(try clear_value x); subst x]
  extract_lets +onlyGivenNames x; clear_value x
  with_reducible apply State.kilnDone_stored
  with_reducible apply State.deliver_stored
  with_reducible apply State.setKctx_stored
  with_reducible assumption
  exact kf.sub rfl
  exact kf.sub rfl
  exact kf.sub rfl
  with_reducible apply State.advance_stored
  with_reducible assumption
  exact kf.sub rfl

theorem execKilnSolveDone_stored {k : Fin 2} {s : State} (hs : State.Stored q b s) (kf : b.free [Part.reg RegGroup.kn, Part.reg RegGroup.stk, Part.now, Part.mem, Part.kiln, Part.stk, Part.pc, Part.ic]) :
    answers (execKilnSolveDone k s) (State.Stored q b) := by
  unfold execKilnSolveDone
  extract_lets +onlyGivenNames x; clear_value x
  split
  with_reducible apply answers_next
  with_reducible apply stored_ite
  with_reducible apply State.kLateDone_stored
  with_reducible assumption
  exact kf.sub rfl
  with_reducible apply State.kEnd_stored
  with_reducible apply State.advance_stored
  with_reducible assumption
  exact kf.sub rfl
  exact kf.sub rfl
  with_reducible apply answers_next
  with_reducible apply State.kEnd_stored
  with_reducible apply State.advance_stored
  with_reducible assumption
  exact kf.sub rfl
  exact kf.sub rfl
  with_reducible apply answers_next
  with_reducible apply State.kLateDone_stored
  with_reducible assumption
  exact kf.sub rfl
  with_reducible apply answers_next
  with_reducible assumption

theorem State.kExpire_stored {s : State} {k : Fin 2} {c : Fin 16} {r : KRequest} (hs : State.Stored q b s) (kf : b.free [Part.reg RegGroup.kn, Part.now, Part.kiln]) :
    State.Stored q b (State.kExpire s k c r) := by
  unfold State.kExpire
  extract_lets +onlyGivenNames x; refine (fun (hx : State.Stored q b x) => ?_) ?_ <;> [(try clear_value x); subst x]
  extract_lets +onlyGivenNames x; clear_value x
  extract_lets +onlyGivenNames x; clear_value x
  simp -zeta only
  extract_lets +onlyGivenNames x; clear_value x
  extract_lets +onlyGivenNames x; refine (fun (hx : State.Stored q b x) => ?_) ?_ <;> [(try clear_value x); subst x]
  with_reducible apply State.showPhase_stored
  with_reducible apply State.flag_stored
  with_reducible assumption
  exact kf.get rfl
  exact kf.sub rfl
  with_reducible apply State.setKctx_stored
  with_reducible assumption
  exact kf.sub rfl
  with_reducible apply State.advance_stored
  with_reducible assumption
  exact kf.sub rfl

theorem State.kStop_stored {s : State} {k : Fin 2} {c : Fin 16} {r : KRun} (hs : State.Stored q b s) (kf : b.free [Part.reg RegGroup.kn, Part.now, Part.kiln]) :
    State.Stored q b (State.kStop s k c r) := by
  unfold State.kStop
  extract_lets +onlyGivenNames x; refine (fun (hx : State.Stored q b x) => ?_) ?_ <;> [(try clear_value x); subst x]
  extract_lets +onlyGivenNames x; clear_value x
  extract_lets +onlyGivenNames x; clear_value x
  with_reducible apply State.flag_stored
  with_reducible apply State.setKctx_stored
  with_reducible assumption
  exact kf.sub rfl
  exact kf.get rfl
  with_reducible apply State.advance_stored
  with_reducible assumption
  exact kf.sub rfl

theorem execKilnDeadline_stored {k : Fin 2} {c : Fin 16} {s : State} (hs : State.Stored q b s) (kf : b.free [Part.reg RegGroup.kn, Part.now, Part.kiln]) :
    answers (execKilnDeadline k c s) (State.Stored q b) := by
  unfold execKilnDeadline
  extract_lets +onlyGivenNames x; clear_value x
  extract_lets +onlyGivenNames x; clear_value x
  split
  extract_lets +onlyGivenNames x; clear_value x
  extract_lets +onlyGivenNames x; clear_value x
  split
  with_reducible apply answers_next
  with_reducible apply stored_ite
  with_reducible apply State.kExpire_stored
  with_reducible assumption
  exact kf.sub rfl
  with_reducible apply State.kStop_stored
  with_reducible assumption
  exact kf.sub rfl
  with_reducible apply answers_next
  with_reducible apply stored_ite
  with_reducible assumption
  with_reducible apply State.kStop_stored
  with_reducible assumption
  exact kf.sub rfl
  with_reducible apply answers_next
  with_reducible apply State.kExpire_stored
  with_reducible assumption
  exact kf.sub rfl
  with_reducible apply answers_next
  with_reducible assumption

theorem execKilnEnWrite_stored {k : Fin 2} {on : Bool} {s : State} (hs : State.Stored q b s) (kf : b.free [Part.reg RegGroup.kn, Part.reg RegGroup.stk, Part.kiln, Part.stk, Part.ic]) :
    answers (execKilnEnWrite k on s) (State.Stored q b) := by
  unfold execKilnEnWrite
  extract_lets +onlyGivenNames x; refine (fun (hx : State.Stored q b x) => ?_) ?_ <;> [(try clear_value x); subst x]
  with_reducible apply answers_ite
  with_reducible apply answers_next
  with_reducible assumption
  with_reducible apply answers_next
  with_reducible apply stored_foldl
  intro _ _ _
  extract_lets +onlyGivenNames x; clear_value x
  extract_lets +onlyGivenNames x; clear_value x
  extract_lets +onlyGivenNames x; refine (fun (hx : State.Stored q b x) => ?_) ?_ <;> [(try clear_value x); subst x]
  with_reducible apply State.kilnDone_stored
  with_reducible apply State.kilnDone_stored
  with_reducible apply State.kilnDone_stored
  with_reducible assumption
  exact kf.sub rfl
  exact kf.sub rfl
  exact kf.sub rfl
  with_reducible apply State.showPhase_stored
  with_reducible apply State.setKctx_stored
  with_reducible assumption
  exact kf.sub rfl
  exact kf.sub rfl
  with_reducible assumption
  with_reducible apply State.putB_stored
  with_reducible apply stored_ite
  with_reducible assumption
  with_reducible apply State.busyUp_stored
  with_reducible assumption
  exact kf.sub rfl
  exact kf.get rfl

theorem execKilnFlush_stored {k : Fin 2} {s : State} (hs : State.Stored q b s) (kf : b.free [Part.reg RegGroup.kn, Part.kiln]) :
    answers (execKilnFlush k s) (State.Stored q b) := by
  unfold execKilnFlush
  with_reducible apply answers_next
  with_reducible apply stored_foldl
  intro _ _ _
  extract_lets +onlyGivenNames x; clear_value x
  with_reducible apply State.showPhase_stored
  with_reducible apply State.setKctx_stored
  with_reducible assumption
  exact kf.sub rfl
  exact kf.sub rfl
  with_reducible assumption

theorem State.kilnTick_stored {s : State} {k : Fin 2} {j : Nat} (hs : State.Stored q b s) (kf : b.free [Part.reg RegGroup.kn, Part.mem, Part.kiln, Part.pc]) :
    State.Stored q b (State.kilnTick s k j) := by
  unfold State.kilnTick
  extract_lets +onlyGivenNames x; clear_value x
  extract_lets +onlyGivenNames x; refine (fun (hx : State.Stored q b x) => ?_) ?_ <;> [(try clear_value x); subst x]
  extract_lets +onlyGivenNames x; clear_value x
  with_reducible apply stored_ite
  with_reducible assumption
  split
  with_reducible apply State.showPhase_stored
  with_reducible assumption
  exact kf.sub rfl
  with_reducible apply stored_ite
  with_reducible apply State.kStart_stored
  with_reducible apply State.setKctx_stored
  with_reducible assumption
  exact kf.sub rfl
  exact kf.sub rfl
  with_reducible apply stored_ite
  with_reducible apply State.showPhase_stored
  with_reducible apply State.setKctx_stored
  with_reducible assumption
  exact kf.sub rfl
  exact kf.sub rfl
  with_reducible apply State.showPhase_stored
  with_reducible assumption
  exact kf.sub rfl
  split
  with_reducible apply State.publish_stored
  with_reducible apply State.setKctx_stored
  with_reducible assumption
  exact kf.sub rfl
  exact kf.sub rfl
  with_reducible apply stored_ite
  with_reducible apply State.publish_stored
  with_reducible assumption
  exact kf.sub rfl
  with_reducible assumption

theorem Stp.turned_stored {s : State} {i : Fin 16} {p0 : Int} {t_ : Nat} (hs : State.Stored q b s) (kf : b.free (postParts ++ [Part.reg RegGroup.stp, Part.axes])) :
    State.Stored q b (Stp.turned s i p0 t_) := by
  unfold Stp.turned
  extract_lets +onlyGivenNames x; clear_value x
  extract_lets +onlyGivenNames x; refine (fun (hx : State.Stored q b x) => ?_) ?_ <;> [(try clear_value x); subst x]
  extract_lets +onlyGivenNames x; refine (fun (hx : State.Stored q b x) => ?_) ?_ <;> [(try clear_value x); subst x]
  split
  with_reducible apply stored_ite
  with_reducible apply Stp.toRest_stored
  with_reducible apply Stp.finish_stored
  with_reducible assumption
  exact kf.sub rfl
  exact kf.sub rfl
  with_reducible apply Stp.orient_stored
  with_reducible assumption
  exact kf.sub rfl
  with_reducible apply Stp.toRest_stored
  with_reducible assumption
  exact kf.sub rfl
  with_reducible apply State.setAxis_stored
  with_reducible assumption
  exact kf.sub rfl
  with_reducible apply State.wr_stored
  with_reducible apply Stp.reversal_stored
  with_reducible assumption
  exact kf.sub rfl
  exact kf.get rfl

theorem Stp.accChange_stored {s : State} {i : Fin 16} {a2 : Nat} (hs : State.Stored q b s) (kf : b.free (postParts ++ [Part.reg RegGroup.stp, Part.axes])) :
    State.Stored q b (Stp.accChange s i a2) := by
  unfold Stp.accChange
  extract_lets +onlyGivenNames x; clear_value x
  with_reducible apply stored_ite
  with_reducible apply stored_ite
  with_reducible apply State.post_stored
  with_reducible apply State.flag_stored
  with_reducible apply State.setAxis_stored
  with_reducible assumption
  exact kf.sub rfl
  exact kf.get rfl
  exact kf.sub rfl
  with_reducible apply stored_ite
  with_reducible apply State.setAxis_stored
  with_reducible assumption
  exact kf.sub rfl
  with_reducible apply State.setAxis_stored
  with_reducible assumption
  exact kf.sub rfl
  with_reducible apply State.setAxis_stored
  with_reducible assumption
  exact kf.sub rfl

theorem Stp.placeMembers_stored {s : State} {i : Fin 16} {n : Nat} {t_ : Nat} {iv : Nat} (hs : State.Stored q b s) (kf : b.free [Part.axes]) :
    State.Stored q b (Stp.placeMembers s i n t_ iv) := by
  unfold Stp.placeMembers
  extract_lets +onlyGivenNames x; clear_value x
  with_reducible apply stored_foldl
  intro _ _ _
  extract_lets +onlyGivenNames x; clear_value x
  split
  extract_lets +onlyGivenNames x; clear_value x
  extract_lets +onlyGivenNames x; clear_value x
  extract_lets +onlyGivenNames x; refine (fun (hx : State.Stored q b x) => ?_) ?_ <;> [(try clear_value x); subst x]
  with_reducible apply stored_ite
  with_reducible apply stored_ite
  with_reducible apply State.setAxis_stored
  with_reducible assumption
  exact kf.sub rfl
  with_reducible assumption
  with_reducible assumption
  with_reducible apply State.setAxis_stored
  with_reducible assumption
  exact kf.sub rfl
  with_reducible assumption
  with_reducible assumption

theorem Stp.next_stored {s : State} {i : Fin 16} {t_ : Nat} (hs : State.Stored q b s) (kf : b.free (postParts ++ [Part.reg RegGroup.stp, Part.axes])) :
    State.Stored q b (Stp.next s i t_) := by
  unfold Stp.next
  extract_lets +onlyGivenNames x; clear_value x
  extract_lets +onlyGivenNames x; clear_value x
  extract_lets +onlyGivenNames x; clear_value x
  simp -zeta only
  extract_lets +onlyGivenNames x; clear_value x
  extract_lets +onlyGivenNames x; refine (fun (hx : State.Stored q b x) => ?_) ?_ <;> [(try clear_value x); subst x]
  split
  split
  simp -zeta only
  with_reducible assumption
  extract_lets +onlyGivenNames x; clear_value x
  extract_lets +onlyGivenNames x; clear_value x
  simp -zeta only
  with_reducible apply State.put_stored
  with_reducible apply State.setAxis_stored
  with_reducible assumption
  exact kf.sub rfl
  exact kf.get rfl
  extract_lets +onlyGivenNames x; clear_value x
  with_reducible apply stored_ite
  with_reducible apply stored_ite
  split
  with_reducible apply Stp.turned_stored
  split
  simp -zeta only
  with_reducible assumption
  extract_lets +onlyGivenNames x; clear_value x
  extract_lets +onlyGivenNames x; clear_value x
  simp -zeta only
  with_reducible apply State.put_stored
  with_reducible apply State.setAxis_stored
  with_reducible assumption
  exact kf.sub rfl
  exact kf.get rfl
  exact kf.sub rfl
  with_reducible apply Stp.toRest_stored
  split
  simp -zeta only
  with_reducible assumption
  extract_lets +onlyGivenNames x; clear_value x
  extract_lets +onlyGivenNames x; clear_value x
  simp -zeta only
  with_reducible apply State.put_stored
  with_reducible apply State.setAxis_stored
  with_reducible assumption
  exact kf.sub rfl
  exact kf.get rfl
  exact kf.sub rfl
  with_reducible apply Stp.shown_stored
  with_reducible apply State.setAxis_stored
  split
  simp -zeta only
  with_reducible assumption
  extract_lets +onlyGivenNames x; clear_value x
  extract_lets +onlyGivenNames x; clear_value x
  simp -zeta only
  with_reducible apply State.put_stored
  with_reducible apply State.setAxis_stored
  with_reducible assumption
  exact kf.sub rfl
  exact kf.get rfl
  exact kf.sub rfl
  exact kf.sub rfl
  with_reducible apply stored_ite
  with_reducible apply Stp.begin__stored
  split
  simp -zeta only
  with_reducible assumption
  extract_lets +onlyGivenNames x; clear_value x
  extract_lets +onlyGivenNames x; clear_value x
  simp -zeta only
  with_reducible apply State.put_stored
  with_reducible apply State.setAxis_stored
  with_reducible assumption
  exact kf.sub rfl
  exact kf.get rfl
  exact kf.sub rfl
  with_reducible apply Stp.shown_stored
  with_reducible apply State.setAxis_stored
  with_reducible assumption
  exact kf.sub rfl
  exact kf.sub rfl
  with_reducible apply Stp.accChange_stored
  with_reducible apply State.setAxis_stored
  split
  simp -zeta only
  with_reducible assumption
  extract_lets +onlyGivenNames x; clear_value x
  extract_lets +onlyGivenNames x; clear_value x
  simp -zeta only
  with_reducible apply State.put_stored
  with_reducible apply State.setAxis_stored
  with_reducible assumption
  exact kf.sub rfl
  exact kf.get rfl
  exact kf.sub rfl
  exact kf.sub rfl

theorem Stp.arrived_stored {s : State} {i : Fin 16} {m : StepMove} {t_ : Nat} (hs : State.Stored q b s) (kf : b.free (postParts ++ [Part.reg RegGroup.stp, Part.axes])) :
    State.Stored q b (Stp.arrived s i m t_) := by
  unfold Stp.arrived
  extract_lets +onlyGivenNames x; refine (fun (hx : State.Stored q b x) => ?_) ?_ <;> [(try clear_value x); subst x]
  extract_lets +onlyGivenNames x; clear_value x
  extract_lets +onlyGivenNames x; clear_value x
  with_reducible apply stored_ite
  with_reducible apply Stp.next_stored
  with_reducible assumption
  exact kf.sub rfl
  split
  extract_lets +onlyGivenNames x; subst x
  with_reducible apply stored_ite
  with_reducible apply Stp.next_stored
  with_reducible apply State.setAxis_stored
  with_reducible assumption
  exact kf.sub rfl
  exact kf.sub rfl
  with_reducible apply Stp.toRest_stored
  with_reducible apply stored_ite
  with_reducible apply Stp.reversal_stored
  with_reducible assumption
  exact kf.sub rfl
  with_reducible assumption
  exact kf.sub rfl
  with_reducible apply Stp.toRest_stored
  with_reducible assumption
  exact kf.sub rfl
  with_reducible apply Stp.finish_stored
  with_reducible assumption
  exact kf.sub rfl

theorem Stp.due_stored {s : State} {i : Fin 16} {x : Nat} (hs : State.Stored q b s) (kf : b.free (postParts ++ [Part.reg RegGroup.stp, Part.now, Part.axes])) :
    State.Stored q b (Stp.due s i x) := by
  unfold Stp.due
  extract_lets +onlyGivenNames x; refine (fun (hx : State.Stored q b x) => ?_) ?_ <;> [(try clear_value x); subst x]
  extract_lets +onlyGivenNames x; clear_value x
  extract_lets +onlyGivenNames x; clear_value x
  extract_lets +onlyGivenNames x; refine (fun (hx : State.Stored q b x) => ?_) ?_ <;> [(try clear_value x); subst x]
  extract_lets +onlyGivenNames x; clear_value x
  extract_lets +onlyGivenNames x; refine (fun (hx : State.Stored q b x) => ?_) ?_ <;> [(try clear_value x); subst x]
  split
  with_reducible apply State.setAxis_stored
  with_reducible assumption
  exact kf.sub rfl
  extract_lets +onlyGivenNames x; refine (fun (hx : State.Stored q b x) => ?_) ?_ <;> [(try clear_value x); subst x]
  extract_lets +onlyGivenNames x; refine (fun (hx : State.Stored q b x) => ?_) ?_ <;> [(try clear_value x); subst x]
  extract_lets +onlyGivenNames x; clear_value x
  extract_lets +onlyGivenNames x; refine (fun (hx : State.Stored q b x) => ?_) ?_ <;> [(try clear_value x); subst x]
  with_reducible apply stored_ite
  with_reducible apply stored_ite
  with_reducible apply Stp.arrived_stored
  with_reducible assumption
  exact kf.sub rfl
  with_reducible apply stored_ite
  with_reducible apply State.groupRest_stored
  with_reducible assumption
  exact kf.sub rfl
  with_reducible assumption
  with_reducible apply stored_ite
  with_reducible apply Stp.toRest_stored
  with_reducible apply Stp.finish_stored
  with_reducible assumption
  exact kf.sub rfl
  exact kf.sub rfl
  with_reducible apply stored_ite
  with_reducible apply Stp.toRest_stored
  with_reducible assumption
  exact kf.sub rfl
  with_reducible assumption
  with_reducible apply Stp.placeMembers_stored
  with_reducible assumption
  exact kf.sub rfl
  with_reducible apply stored_ite
  with_reducible assumption
  with_reducible apply Stp.next_stored
  with_reducible assumption
  exact kf.sub rfl
  with_reducible apply State.setAxis_stored
  with_reducible assumption
  exact kf.sub rfl
  with_reducible apply stored_ite
  with_reducible apply Stp.arrived_stored
  with_reducible assumption
  exact kf.sub rfl
  with_reducible apply Stp.next_stored
  with_reducible assumption
  exact kf.sub rfl
  with_reducible apply State.setAxis_stored
  with_reducible assumption
  exact kf.sub rfl
  with_reducible apply State.wr_stored
  with_reducible apply State.count_stored
  with_reducible apply State.wr48_stored
  with_reducible assumption
  exact kf.get rfl
  exact kf.get rfl
  exact kf.get rfl
  exact kf.get rfl
  with_reducible apply State.advance_stored
  with_reducible assumption
  exact kf.sub rfl

theorem execStpEn_stored {i : Fin 16} {on : Bool} {s : State} (hs : State.Stored q b s) (kf : b.free (postParts ++ [Part.reg RegGroup.stp, Part.axes])) :
    answers (execStpEn i on s) (State.Stored q b) := by
  unfold execStpEn
  extract_lets +onlyGivenNames x; clear_value x
  extract_lets +onlyGivenNames x; clear_value x
  extract_lets +onlyGivenNames x; refine (fun (hx : State.Stored q b x) => ?_) ?_ <;> [(try clear_value x); subst x]
  extract_lets +onlyGivenNames x; clear_value x
  extract_lets +onlyGivenNames x; refine (fun (hx : State.Stored q b x) => ?_) ?_ <;> [(try clear_value x); subst x]
  extract_lets +onlyGivenNames x; refine (fun (hx : State.Stored q b x) => ?_) ?_ <;> [(try clear_value x); subst x]
  with_reducible apply answers_ite
  with_reducible apply answers_ite
  with_reducible apply answers_next
  with_reducible assumption
  with_reducible apply answers_ite
  with_reducible apply answers_next
  with_reducible apply stored_ite
  with_reducible apply State.safeHalt_stored
  with_reducible assumption
  exact kf.sub rfl
  with_reducible apply stored_ite
  with_reducible assumption
  with_reducible apply Stp.startNext_stored
  with_reducible assumption
  exact kf.sub rfl
  with_reducible apply answers_next
  with_reducible apply State.flag_stored
  with_reducible assumption
  exact kf.get rfl
  with_reducible apply answers_next
  with_reducible apply Stp.shown_stored
  with_reducible apply State.put_stored
  with_reducible apply State.wr_stored
  with_reducible apply State.put_stored
  with_reducible apply State.put_stored
  with_reducible assumption
  exact kf.get rfl
  exact kf.get rfl
  exact kf.get rfl
  exact kf.get rfl
  exact kf.sub rfl
  split
  with_reducible apply State.stopGroup_stored
  with_reducible assumption
  exact kf.sub rfl
  with_reducible assumption
  with_reducible apply State.setAxis_stored
  with_reducible assumption
  exact kf.sub rfl
  with_reducible apply State.put_stored
  with_reducible assumption
  exact kf.get rfl

theorem execStpPinArm_stored {i : Fin 16} {on : Bool} {s : State} (hs : State.Stored q b s) (kf : b.free [Part.reg RegGroup.stp]) :
    answers (execStpPinArm i on s) (State.Stored q b) := by
  unfold execStpPinArm
  with_reducible apply answers_ite
  with_reducible apply answers_next
  with_reducible apply State.flag_stored
  with_reducible assumption
  exact kf.get rfl
  with_reducible apply answers_next
  with_reducible apply State.putB_stored
  with_reducible assumption
  exact kf.get rfl

theorem execStpStop_stored {i : Fin 16} {s : State} (hs : State.Stored q b s) (kf : b.free (postParts ++ [Part.reg RegGroup.stp, Part.axes])) :
    answers (execStpStop i s) (State.Stored q b) := by
  unfold execStpStop
  extract_lets +onlyGivenNames x; clear_value x
  extract_lets +onlyGivenNames x; clear_value x
  extract_lets +onlyGivenNames x; refine (fun (hx : State.Stored q b x) => ?_) ?_ <;> [(try clear_value x); subst x]
  with_reducible apply answers_ite
  with_reducible apply answers_next
  with_reducible apply Stp.shown_stored
  with_reducible apply State.setAxis_stored
  with_reducible assumption
  exact kf.sub rfl
  exact kf.sub rfl
  split
  with_reducible apply answers_next
  with_reducible apply Stp.shown_stored
  with_reducible apply State.stopGroup_stored
  with_reducible apply State.setAxis_stored
  with_reducible assumption
  exact kf.sub rfl
  exact kf.sub rfl
  exact kf.sub rfl
  with_reducible apply answers_ite
  with_reducible apply answers_next
  with_reducible apply Stp.toRest_stored
  with_reducible apply State.setAxis_stored
  with_reducible assumption
  exact kf.sub rfl
  exact kf.sub rfl
  with_reducible apply answers_next
  with_reducible apply Stp.shown_stored
  with_reducible apply State.put_stored
  with_reducible apply State.setAxis_stored
  with_reducible assumption
  exact kf.sub rfl
  exact kf.get rfl
  exact kf.sub rfl
  with_reducible apply State.put_stored
  with_reducible assumption
  exact kf.get rfl

theorem execStpAbort_stored {i : Fin 16} {s : State} (hs : State.Stored q b s) (kf : b.free (postParts ++ [Part.reg RegGroup.stp, Part.axes])) :
    answers (execStpAbort i s) (State.Stored q b) := by
  unfold execStpAbort
  extract_lets +onlyGivenNames x; clear_value x
  extract_lets +onlyGivenNames x; subst x
  extract_lets +onlyGivenNames x; clear_value x
  extract_lets +onlyGivenNames x; refine (fun (hx : State.Stored q b x) => ?_) ?_ <;> [(try clear_value x); subst x]
  extract_lets +onlyGivenNames x; refine (fun (hx : State.Stored q b x) => ?_) ?_ <;> [(try clear_value x); subst x]
  with_reducible apply answers_next
  with_reducible apply Stp.shown_stored
  with_reducible apply State.put_stored
  with_reducible apply State.wr_stored
  with_reducible assumption
  exact kf.get rfl
  exact kf.get rfl
  exact kf.sub rfl
  split
  with_reducible apply State.stopGroup_stored
  with_reducible assumption
  exact kf.sub rfl
  with_reducible assumption
  with_reducible apply State.put_stored
  with_reducible apply State.setAxis_stored
  with_reducible assumption
  exact kf.sub rfl
  exact kf.get rfl

theorem execStpClr_stored {i : Fin 16} {s : State} (hs : State.Stored q b s) (kf : b.free [Part.reg RegGroup.stp, Part.axes]) :
    answers (execStpClr i s) (State.Stored q b) := by
  unfold execStpClr
  extract_lets +onlyGivenNames x; refine (fun (hx : State.Stored q b x) => ?_) ?_ <;> [(try clear_value x); subst x]
  with_reducible apply answers_ite
  with_reducible apply answers_next
  with_reducible apply stored_ite
  with_reducible apply Stp.startNext_stored
  with_reducible assumption
  exact kf.sub rfl
  with_reducible assumption
  with_reducible apply answers_next
  with_reducible assumption
  with_reducible apply State.put_stored
  with_reducible apply State.put_stored
  with_reducible assumption
  exact kf.get rfl
  exact kf.get rfl

theorem execStepMovePush_stored {i : Fin 16} {v : Word} {s : State} (hs : State.Stored q b s) (kf : b.free (postParts ++ [Part.reg RegGroup.stp, Part.axes])) :
    answers (execStepMovePush i v s) (State.Stored q b) := by
  unfold execStepMovePush
  extract_lets +onlyGivenNames x; clear_value x
  extract_lets +onlyGivenNames x; clear_value x
  extract_lets +onlyGivenNames x; clear_value x
  extract_lets +onlyGivenNames x; clear_value x
  extract_lets +onlyGivenNames x; clear_value x
  extract_lets +onlyGivenNames x; clear_value x
  extract_lets +onlyGivenNames x; clear_value x
  extract_lets +onlyGivenNames x; clear_value x
  extract_lets +onlyGivenNames x; clear_value x
  extract_lets +onlyGivenNames x; clear_value x
  extract_lets +onlyGivenNames x; clear_value x
  with_reducible apply answers_ite
  with_reducible apply answers_next
  with_reducible assumption
  with_reducible apply answers_ite
  with_reducible apply answers_next
  with_reducible apply State.flag_stored
  with_reducible assumption
  exact kf.get rfl
  with_reducible apply answers_ite
  with_reducible apply answers_next
  with_reducible apply stored_ite
  with_reducible apply State.safeHalt_stored
  with_reducible apply State.setAxis_stored
  with_reducible assumption
  exact kf.sub rfl
  exact kf.sub rfl
  with_reducible apply Stp.startNext_stored
  with_reducible assumption
  exact kf.sub rfl
  with_reducible apply answers_ite
  split
  with_reducible apply answers_next
  with_reducible apply Stp.shown_stored
  with_reducible apply State.stopGroup_stored
  with_reducible apply State.setAxis_stored
  with_reducible assumption
  exact kf.sub rfl
  exact kf.sub rfl
  exact kf.sub rfl
  with_reducible apply answers_ite
  with_reducible apply answers_next
  with_reducible apply Stp.shown_stored
  with_reducible apply State.put_stored
  with_reducible apply State.setAxis_stored
  with_reducible assumption
  exact kf.sub rfl
  exact kf.get rfl
  exact kf.sub rfl
  with_reducible apply answers_next
  with_reducible apply Stp.shown_stored
  with_reducible apply State.setAxis_stored
  with_reducible assumption
  exact kf.sub rfl
  exact kf.sub rfl
  with_reducible apply answers_ite
  with_reducible apply answers_next
  with_reducible apply Stp.startNext_stored
  with_reducible apply State.setAxis_stored
  with_reducible assumption
  exact kf.sub rfl
  exact kf.sub rfl
  with_reducible apply answers_next
  with_reducible apply Stp.shown_stored
  with_reducible apply State.put_stored
  with_reducible apply State.setAxis_stored
  with_reducible assumption
  exact kf.sub rfl
  exact kf.get rfl
  exact kf.sub rfl
  split
  extract_lets +onlyGivenNames x; clear_value x
  with_reducible apply answers_next
  with_reducible apply Stp.shown_stored
  with_reducible apply State.setAxis_stored
  with_reducible assumption
  exact kf.sub rfl
  exact kf.sub rfl
  extract_lets +onlyGivenNames x; clear_value x
  extract_lets +onlyGivenNames x; clear_value x
  with_reducible apply answers_next
  with_reducible apply Stp.shown_stored
  with_reducible apply State.setAxis_stored
  with_reducible assumption
  exact kf.sub rfl
  exact kf.sub rfl
  with_reducible apply answers_next
  with_reducible apply Stp.shown_stored
  with_reducible apply State.setAxis_stored
  with_reducible assumption
  exact kf.sub rfl
  exact kf.sub rfl

theorem execStepPreset_stored {i : Fin 16} {hi : BitVec 16} {s : State} (hs : State.Stored q b s) (kf : b.free [Part.reg RegGroup.stp]) :
    answers (execStepPreset i hi s) (State.Stored q b) := by
  unfold execStepPreset
  extract_lets +onlyGivenNames x; refine (fun (hx : State.Stored q b x) => ?_) ?_ <;> [(try clear_value x); subst x]
  with_reducible apply answers_ite
  with_reducible apply answers_next
  with_reducible apply State.wr48_stored
  with_reducible assumption
  exact kf.get rfl
  exact kf.get rfl
  with_reducible apply answers_next
  with_reducible assumption
  with_reducible apply State.wr_stored
  with_reducible assumption
  exact kf.get rfl

theorem execStepAccWrite_stored {i : Fin 16} {v : Word} {s : State} (hs : State.Stored q b s) (kf : b.free [Part.reg RegGroup.stp]) :
    answers (execStepAccWrite i v s) (State.Stored q b) := by
  unfold execStepAccWrite
  with_reducible apply answers_next
  with_reducible apply State.wr_stored
  with_reducible assumption
  exact kf.get rfl

theorem execStepCfgWrite_stored {i : Fin 16} {r : StpCfg} {v : Word} {s : State} (hs : State.Stored q b s) (kf : b.free [Part.reg RegGroup.stp, Part.reg RegGroup.ust]) :
    answers (execStepCfgWrite i r v s) (State.Stored q b) := by
  unfold execStepCfgWrite
  with_reducible apply answers_ite
  with_reducible apply answers_next
  with_reducible apply State.flag_stored
  with_reducible assumption
  exact kf.get rfl
  split
  with_reducible apply answers_next
  with_reducible apply State.wr_stored
  with_reducible assumption
  exact kf.get rfl
  with_reducible apply answers_next
  with_reducible apply stored_ite
  with_reducible apply State.flag_stored
  with_reducible assumption
  exact kf.get rfl
  with_reducible apply State.wr_stored
  with_reducible assumption
  exact kf.get rfl
  with_reducible apply answers_next
  with_reducible apply State.wr_stored
  with_reducible assumption
  exact kf.get rfl

theorem execStepDue_stored {i : Fin 16} {s : State} (hs : State.Stored q b s) (kf : b.free (postParts ++ [Part.reg RegGroup.stp, Part.now, Part.axes])) :
    answers (execStepDue i s) (State.Stored q b) := by
  unfold execStepDue
  split
  with_reducible apply answers_next
  with_reducible assumption
  with_reducible apply answers_next
  with_reducible apply Stp.due_stored
  with_reducible assumption
  exact kf.sub rfl

theorem execStepPulseEnd_stored {i : Fin 16} {s : State} (hs : State.Stored q b s) (kf : b.free [Part.reg RegGroup.stp, Part.now, Part.axes]) :
    answers (execStepPulseEnd i s) (State.Stored q b) := by
  unfold execStepPulseEnd
  split
  with_reducible apply answers_next
  with_reducible assumption
  extract_lets +onlyGivenNames x; refine (fun (hx : State.Stored q b x) => ?_) ?_ <;> [(try clear_value x); subst x]
  extract_lets +onlyGivenNames x; clear_value x
  extract_lets +onlyGivenNames x; clear_value x
  extract_lets +onlyGivenNames x; refine (fun (hx : State.Stored q b x) => ?_) ?_ <;> [(try clear_value x); subst x]
  with_reducible apply answers_next
  with_reducible apply stored_ite
  with_reducible apply Stp.orient_stored
  with_reducible assumption
  exact kf.sub rfl
  with_reducible assumption
  with_reducible apply State.setAxis_stored
  with_reducible assumption
  exact kf.sub rfl
  with_reducible apply State.advance_stored
  with_reducible assumption
  exact kf.sub rfl

theorem execStepDsetupExpiry_stored {i : Fin 16} {s : State} (hs : State.Stored q b s) (kf : b.free [Part.reg RegGroup.stp, Part.now, Part.axes]) :
    answers (execStepDsetupExpiry i s) (State.Stored q b) := by
  unfold execStepDsetupExpiry
  split
  with_reducible apply answers_next
  with_reducible assumption
  extract_lets +onlyGivenNames x; refine (fun (hx : State.Stored q b x) => ?_) ?_ <;> [(try clear_value x); subst x]
  extract_lets +onlyGivenNames x; clear_value x
  with_reducible apply answers_next
  with_reducible apply Stp.orient_stored
  with_reducible apply State.setAxis_stored
  with_reducible assumption
  exact kf.sub rfl
  exact kf.sub rfl
  with_reducible apply State.advance_stored
  with_reducible assumption
  exact kf.sub rfl

theorem execStepGroupStart_stored {g : Fin 8} {s : State} (hs : State.Stored q b s) (kf : b.free [Part.reg RegGroup.stp, Part.axes]) :
    answers (execStepGroupStart g s) (State.Stored q b) := by
  unfold execStepGroupStart
  extract_lets +onlyGivenNames x; clear_value x
  extract_lets +onlyGivenNames x; clear_value x
  extract_lets +onlyGivenNames x; clear_value x
  extract_lets +onlyGivenNames x; clear_value x
  simp -zeta only
  extract_lets +onlyGivenNames x; clear_value x
  extract_lets +onlyGivenNames x; refine (fun (hx : State.Stored q b x) => ?_) ?_ <;> [(try clear_value x); subst x]
  extract_lets +onlyGivenNames x; clear_value x
  extract_lets +onlyGivenNames x; refine (fun (hx : State.Stored q b x) => ?_) ?_ <;> [(try clear_value x); subst x]
  extract_lets +onlyGivenNames x; clear_value x
  extract_lets +onlyGivenNames x; refine (fun (hx : State.Stored q b x) => ?_) ?_ <;> [(try clear_value x); subst x]
  extract_lets +onlyGivenNames x; clear_value x
  with_reducible apply answers_ite
  with_reducible apply answers_next
  with_reducible assumption
  with_reducible apply answers_ite
  with_reducible apply answers_next
  with_reducible apply stored_foldl
  intro _ _ _
  with_reducible apply Stp.startNext_stored
  with_reducible apply State.put_stored
  with_reducible apply Stp.finish_stored
  with_reducible assumption
  exact kf.sub rfl
  exact kf.get rfl
  exact kf.sub rfl
  with_reducible assumption
  with_reducible apply answers_next
  with_reducible apply Stp.placeMembers_stored
  with_reducible assumption
  exact kf.sub rfl
  with_reducible apply Stp.begin__stored
  with_reducible assumption
  exact kf.sub rfl
  with_reducible apply stored_foldl
  intro _ _ _
  extract_lets +onlyGivenNames x; clear_value x
  with_reducible apply State.setAxis_stored
  with_reducible assumption
  exact kf.sub rfl
  with_reducible assumption
  with_reducible apply stored_foldl
  intro _ _ _
  extract_lets +onlyGivenNames x; clear_value x
  extract_lets +onlyGivenNames x; refine (fun (hx : State.Stored q b x) => ?_) ?_ <;> [(try clear_value x); subst x]
  extract_lets +onlyGivenNames x; clear_value x
  extract_lets +onlyGivenNames x; clear_value x
  with_reducible apply stored_ite
  with_reducible apply Stp.startNext_stored
  with_reducible apply Stp.finish_stored
  with_reducible assumption
  exact kf.sub rfl
  exact kf.sub rfl
  with_reducible apply Stp.shown_stored
  with_reducible apply State.put_stored
  with_reducible apply State.setAxis_stored
  with_reducible assumption
  exact kf.sub rfl
  exact kf.get rfl
  exact kf.sub rfl
  with_reducible apply State.put_stored
  with_reducible assumption
  exact kf.get rfl
  with_reducible assumption

theorem execStepperDriveRun_stored {i : Fin 16} {s : State} (hs : State.Stored q b s) (kf :
    b.free (postParts ++ [Part.reg RegGroup.port, Part.reg RegGroup.stp, Part.now, Part.ports, Part.axes])) :
  answers (execStepperDriveRun i s) (State.Stored q b) := by
  unfold execStepperDriveRun
  split
  · exact hs
  · refine answers_ite hs ?_
    extract_lets a spd rel num m c cA cB frameEnd first s1 unsignedQ irun kappa mode was strong s2 p80 wa wb wv vdc good s3 w kp ki quiet xa xb s4 x
    have h1 : State.Stored q b s1 := stored_ite (State.put_stored hs (kf.get rfl)) hs
    have h2 : State.Stored q b s2 := State.putB_stored h1 (kf.get rfl)
    have h3 : State.Stored q b s3 := State.setAxis_stored (State.bump_stored (r := STP_BAD i) h2 (kf.get rfl)) (kf.sub rfl)
    have h4 : State.Stored q b s4 := State.setAxis_stored h2 (kf.sub rfl)
    clear_value x w s3 s4 good
    refine answers_ite ?_ ?_
    · refine answers_next (stored_foldl (fun s pl h => ?_) h3)
      exact State.commitEw_stored (stored_foldl (fun s x h => State.wr_stored (State.wr_stored h (kf.get rfl)) (kf.get rfl)) h) (kf.sub rfl)
    · refine answers_next (stored_foldl (fun s pl h => ?_) h4)
      exact State.commitEw_stored (stored_foldl (fun s x h => State.wr_stored (State.wr_stored h (kf.get rfl)) (kf.get rfl)) h) (kf.sub rfl)

theorem execStepHoldCurrent_stored {i : Fin 16} {s : State} (hs : State.Stored q b s) (kf : b.free [Part.reg RegGroup.stp, Part.now]) :
    answers (execStepHoldCurrent i s) (State.Stored q b) := by
  unfold execStepHoldCurrent
  extract_lets +onlyGivenNames x; clear_value x
  with_reducible apply answers_ite
  with_reducible apply answers_next
  with_reducible apply State.put_stored
  with_reducible apply State.advance_stored
  with_reducible assumption
  exact kf.sub rfl
  exact kf.get rfl
  with_reducible apply answers_next
  with_reducible assumption

theorem State.setArm_stored {s : State} {a : Fin 8} {x : ArmState} (hs : State.Stored q b s) (kf : b.free [Part.arms]) :
    State.Stored q b (State.setArm s a x) := by
  have k_arms : b.keep .arms = false := kf.get rfl
  unfold State.setArm
  simp -zeta only [stored_mk, k_arms, or_true, true_or]
  with_reducible assumption

theorem State.appendMove_stored {s : State} {a : Fin 8} {m : Move} {full : Bool} (hs : State.Stored q b s) (kf : b.free [Part.arms]) :
    State.Stored q b (State.appendMove s a m full) := by
  unfold State.appendMove
  extract_lets +onlyGivenNames x; clear_value x
  extract_lets +onlyGivenNames x; clear_value x
  extract_lets +onlyGivenNames x; clear_value x
  extract_lets +onlyGivenNames x; clear_value x
  with_reducible apply State.setArm_stored
  with_reducible assumption
  exact kf.sub rfl

theorem State.extendPath_stored {a : Fin 8} {n : Nat} {s : State} (hs : State.Stored q b s) (kf :
    b.free [Part.arms]) :
  State.Stored q b (State.extendPath s a n) := by
  induction n generalizing s with
  | zero => exact hs
  | succ n ih =>
    unfold State.extendPath
    split
    · split
      · exact hs
      · exact ih (State.appendMove_stored (State.setArm_stored hs (kf.sub rfl)) (kf.sub rfl))
    · exact hs

theorem State.replaceMove_stored {s : State} {a : Fin 8} {m : Move} (hs : State.Stored q b s) (kf : b.free (postParts ++ [Part.reg RegGroup.arm, Part.arms])) :
    State.Stored q b (State.replaceMove s a m) := by
  unfold State.replaceMove
  extract_lets +onlyGivenNames x; clear_value x
  extract_lets +onlyGivenNames x; clear_value x
  extract_lets +onlyGivenNames x; clear_value x
  simp -zeta only
  extract_lets +onlyGivenNames x; clear_value x
  extract_lets +onlyGivenNames x; clear_value x
  extract_lets +onlyGivenNames x; clear_value x
  extract_lets +onlyGivenNames x; refine (fun (hx : State.Stored q b x) => ?_) ?_ <;> [(try clear_value x); subst x]
  extract_lets +onlyGivenNames x; refine (fun (hx : State.Stored q b x) => ?_) ?_ <;> [(try clear_value x); subst x]
  extract_lets +onlyGivenNames x; clear_value x
  extract_lets +onlyGivenNames x; clear_value x
  extract_lets +onlyGivenNames x; refine (fun (hx : State.Stored q b x) => ?_) ?_ <;> [(try clear_value x); subst x]
  with_reducible apply stored_ite
  with_reducible apply State.post_stored
  with_reducible apply State.flag_stored
  with_reducible assumption
  exact kf.get rfl
  exact kf.sub rfl
  with_reducible assumption
  with_reducible apply stored_ite
  with_reducible apply State.setArm_stored
  with_reducible assumption
  exact kf.sub rfl
  with_reducible apply State.appendMove_stored
  with_reducible assumption
  exact kf.sub rfl
  with_reducible apply stored_foldl
  intro _ _ _
  with_reducible apply State.wr48_stored
  with_reducible assumption
  exact kf.get rfl
  exact kf.get rfl
  with_reducible assumption
  with_reducible apply State.setArm_stored
  with_reducible assumption
  exact kf.sub rfl

theorem State.install_stored {s : State} {a : Fin 8} {ms : List Move} (hs : State.Stored q b s) (kf : b.free (postParts ++ [Part.reg RegGroup.arm, Part.arms])) :
    State.Stored q b (State.install s a ms) := by
  unfold State.install
  extract_lets +onlyGivenNames x; refine (fun (hx : State.Stored q b x) => ?_) ?_ <;> [(try clear_value x); subst x]
  with_reducible apply State.extendPath_stored
  with_reducible assumption
  exact kf.sub rfl
  with_reducible apply stored_foldl
  intro _ _ _
  extract_lets +onlyGivenNames x; clear_value x
  with_reducible apply stored_ite
  with_reducible apply State.replaceMove_stored
  with_reducible assumption
  exact kf.sub rfl
  with_reducible apply State.setArm_stored
  with_reducible assumption
  exact kf.sub rfl
  with_reducible assumption

theorem State.showDepth_stored {s : State} {a : Fin 8} (hs : State.Stored q b s) (kf : b.free [Part.reg RegGroup.arm]) :
    State.Stored q b (State.showDepth s a) := by
  unfold State.showDepth
  with_reducible apply State.wr_stored
  with_reducible assumption
  exact kf.get rfl

theorem State.flushArm_stored {s : State} {a : Fin 8} (hs : State.Stored q b s) (kf : b.free [Part.reg RegGroup.arm, Part.arms]) :
    State.Stored q b (State.flushArm s a) := by
  unfold State.flushArm
  extract_lets +onlyGivenNames x; clear_value x
  with_reducible apply State.showDepth_stored
  with_reducible apply State.setArm_stored
  with_reducible assumption
  exact kf.sub rfl
  exact kf.sub rfl

theorem execArmCtrlEn_stored {a : Fin 8} {on : Bool} {s : State} (hs : State.Stored q b s) (kf : b.free [Part.reg RegGroup.ld, Part.reg RegGroup.arm, Part.loops, Part.arms, Part.pc]) :
    answers (execArmCtrlEn a on s) (State.Stored q b) := by
  unfold execArmCtrlEn
  extract_lets +onlyGivenNames x; clear_value x
  extract_lets +onlyGivenNames x; clear_value x
  extract_lets +onlyGivenNames x; clear_value x
  extract_lets +onlyGivenNames x; clear_value x
  extract_lets +onlyGivenNames x; clear_value x
  extract_lets +onlyGivenNames x; refine (fun (hx : State.Stored q b x) => ?_) ?_ <;> [(try clear_value x); subst x]
  extract_lets +onlyGivenNames x; refine (fun (hx : State.Stored q b x) => ?_) ?_ <;> [(try clear_value x); subst x]
  with_reducible apply answers_ite
  with_reducible apply answers_ite
  with_reducible apply answers_next
  with_reducible assumption
  with_reducible apply answers_ite
  with_reducible apply answers_next
  with_reducible apply State.flag_stored
  with_reducible assumption
  exact kf.get rfl
  with_reducible apply answers_next
  with_reducible apply State.showDepth_stored
  with_reducible assumption
  exact kf.sub rfl
  with_reducible apply answers_next
  with_reducible apply State.flushArm_stored
  with_reducible apply State.put_stored
  with_reducible apply State.put_stored
  with_reducible assumption
  exact kf.get rfl
  exact kf.get rfl
  exact kf.sub rfl
  with_reducible apply stored_foldl
  intro _ _ _
  extract_lets +onlyGivenNames x; clear_value x
  extract_lets +onlyGivenNames x; refine (fun (hx : State.Stored q b x) => ?_) ?_ <;> [(try clear_value x); subst x]
  extract_lets +onlyGivenNames x; refine (fun (hx : State.Stored q b x) => ?_) ?_ <;> [(try clear_value x); subst x]
  extract_lets +onlyGivenNames x; clear_value x
  with_reducible apply State.setLoop_stored
  with_reducible apply State.wr_stored
  with_reducible assumption
  exact kf.get rfl
  exact kf.sub rfl
  with_reducible apply State.updOther_stored
  with_reducible assumption
  exact kf.sub rfl
  with_reducible apply State.wr_stored
  with_reducible apply State.wr48_stored
  with_reducible assumption
  exact kf.get rfl
  exact kf.get rfl
  exact kf.get rfl
  with_reducible assumption
  with_reducible apply State.setArm_stored
  with_reducible apply State.put_stored
  with_reducible apply State.put_stored
  with_reducible assumption
  exact kf.get rfl
  exact kf.get rfl
  exact kf.sub rfl

theorem State.armCmd_stored {s : State} {a : Fin 8} {c : Nat} (hs : State.Stored q b s) (kf : b.free [Part.arms]) :
    State.Stored q b (State.armCmd s a c) := by
  unfold State.armCmd
  extract_lets +onlyGivenNames x; clear_value x
  with_reducible apply State.setArm_stored
  with_reducible assumption
  exact kf.sub rfl

theorem execArmPause_stored {a : Fin 8} {s : State} (hs : State.Stored q b s) (kf : b.free [Part.arms]) :
    answers (execArmPause a s) (State.Stored q b) := by
  unfold execArmPause
  with_reducible apply answers_next
  with_reducible apply State.armCmd_stored
  with_reducible assumption
  exact kf.sub rfl

theorem execArmResume_stored {a : Fin 8} {s : State} (hs : State.Stored q b s) (kf : b.free [Part.arms]) :
    answers (execArmResume a s) (State.Stored q b) := by
  unfold execArmResume
  with_reducible apply answers_next
  with_reducible apply State.armCmd_stored
  with_reducible assumption
  exact kf.sub rfl

theorem execArmAbort_stored {a : Fin 8} {s : State} (hs : State.Stored q b s) (kf : b.free [Part.arms]) :
    answers (execArmAbort a s) (State.Stored q b) := by
  unfold execArmAbort
  with_reducible apply answers_next
  with_reducible apply State.armCmd_stored
  with_reducible assumption
  exact kf.sub rfl

theorem execArmClr_stored {a : Fin 8} {s : State} (hs : State.Stored q b s) (kf : b.free [Part.arms]) :
    answers (execArmClr a s) (State.Stored q b) := by
  unfold execArmClr
  with_reducible apply answers_next
  with_reducible apply State.armCmd_stored
  with_reducible assumption
  exact kf.sub rfl

theorem State.offerMove_stored {s : State} {a : Fin 8} {m : Move} {reserved : Bool} (hs : State.Stored q b s) (kf : b.free [Part.reg RegGroup.arm, Part.arms]) :
    State.Stored q b (State.offerMove s a m reserved).1 := by
  unfold State.offerMove
  extract_lets +onlyGivenNames x; clear_value x
  extract_lets +onlyGivenNames x; clear_value x
  split
  simp -zeta only
  with_reducible apply State.showDepth_stored
  with_reducible apply State.setArm_stored
  with_reducible assumption
  exact kf.sub rfl
  exact kf.sub rfl
  split
  simp -zeta only
  with_reducible apply State.flag_stored
  with_reducible assumption
  exact kf.get rfl
  simp -zeta only
  with_reducible assumption

theorem execPlannerRun_stored {s : State} (hs : State.Stored q b s) (kf : b.free (postParts ++ [Part.reg RegGroup.arm, Part.reg RegGroup.kn, Part.reg RegGroup.stk, Part.mem, Part.fresh, Part.arms, Part.kiln, Part.plannerRan, Part.stk, Part.pc, Part.ic])) :
    answers (execPlannerRun s) (State.Stored q b) := by
  have k_plannerRan : b.keep .plannerRan = false := kf.get rfl
  unfold execPlannerRun
  extract_lets +onlyGivenNames x; clear_value x
  extract_lets +onlyGivenNames x; clear_value x
  extract_lets +onlyGivenNames x; refine (fun (hx : State.Stored q b x) => ?_) ?_ <;> [(try clear_value x); subst x]
  extract_lets +onlyGivenNames x; refine (fun (hx : State.Stored q b x) => ?_) ?_ <;> [(try clear_value x); subst x]
  extract_lets +onlyGivenNames x; refine (fun (hx : State.Stored q b x) => ?_) ?_ <;> [(try clear_value x); subst x]
  extract_lets +onlyGivenNames x; clear_value x
  with_reducible apply answers_ite
  with_reducible apply answers_next
  with_reducible assumption
  with_reducible apply answers_next
  with_reducible apply stored_foldl
  intro _ _ _
  with_reducible apply State.kAccept_stored
  with_reducible assumption
  exact kf.sub rfl
  with_reducible assumption
  simp -zeta only [stored_mk, k_plannerRan, or_true, true_or]
  with_reducible assumption
  with_reducible apply State.useFresh_stored
  with_reducible assumption
  exact kf.sub rfl
  with_reducible apply stored_foldl
  intro _ _ _
  extract_lets +onlyGivenNames x; clear_value x
  with_reducible apply State.setArm_stored
  with_reducible assumption
  exact kf.sub rfl
  with_reducible assumption

theorem State.takeKnots_stored {s : State} (hs : State.Stored q b s) (kf : b.free [Part.arms]) : State.Stored q b (State.takeKnots s) := by
  unfold State.takeKnots
  split
  with_reducible assumption
  with_reducible apply stored_foldl
  intro _ _ _
  with_reducible apply stored_foldl
  intro _ _ _
  extract_lets +onlyGivenNames x; clear_value x
  extract_lets +onlyGivenNames x; clear_value x
  with_reducible apply State.setArm_stored
  with_reducible assumption
  exact kf.sub rfl
  with_reducible assumption
  with_reducible assumption

theorem State.countReuse_stored {s : State} (hs : State.Stored q b s) (kf : b.free [Part.reg RegGroup.pln]) :
    State.Stored q b (State.countReuse s) := by
  unfold State.countReuse
  split
  with_reducible assumption
  with_reducible apply stored_ite
  with_reducible apply State.bumpField_stored
  with_reducible apply State.flag_stored
  with_reducible apply State.bump_stored
  with_reducible assumption
  exact kf.get rfl
  exact kf.get rfl
  exact kf.get rfl
  with_reducible apply State.put_stored
  with_reducible assumption
  exact kf.get rfl

theorem execPlanningTick_stored {s : State} (hs : State.Stored q b s) (kf : b.free (postParts ++ [Part.reg RegGroup.pln, Part.reg RegGroup.arm, Part.reg RegGroup.kn, Part.now, Part.mem, Part.fbs, Part.arms, Part.kiln, Part.plannerRan, Part.planDue, Part.pc])) :
    answers (execPlanningTick s) (State.Stored q b) := by
  have k_fbs : b.keep .fbs = false := kf.get rfl
  have k_planDue : b.keep .planDue = false := kf.get rfl
  have k_plannerRan : b.keep .plannerRan = false := kf.get rfl
  unfold execPlanningTick
  extract_lets +onlyGivenNames x; refine (fun (hx : State.Stored q b x) => ?_) ?_ <;> [(try clear_value x); subst x]
  extract_lets +onlyGivenNames x; clear_value x
  extract_lets +onlyGivenNames x; clear_value x
  extract_lets +onlyGivenNames x; refine (fun (hx : State.Stored q b x) => ?_) ?_ <;> [(try clear_value x); subst x]
  extract_lets +onlyGivenNames x; refine (fun (hx : State.Stored q b x) => ?_) ?_ <;> [(try clear_value x); subst x]
  extract_lets +onlyGivenNames x; refine (fun (hx : State.Stored q b x) => ?_) ?_ <;> [(try clear_value x); subst x]
  extract_lets +onlyGivenNames x; refine (fun (hx : State.Stored q b x) => ?_) ?_ <;> [(try clear_value x); subst x]
  extract_lets +onlyGivenNames x; refine (fun (hx : State.Stored q b x) => ?_) ?_ <;> [(try clear_value x); subst x]
  extract_lets +onlyGivenNames x; refine (fun (hx : State.Stored q b x) => ?_) ?_ <;> [(try clear_value x); subst x]
  with_reducible apply answers_next
  simp -zeta only [stored_mk, k_fbs, k_planDue, k_plannerRan, or_true, true_or]
  with_reducible assumption
  with_reducible apply stored_foldl
  intro _ _ _
  extract_lets +onlyGivenNames x; clear_value x
  extract_lets +onlyGivenNames x; clear_value x
  extract_lets +onlyGivenNames x; refine (fun (hx : State.Stored q b x) => ?_) ?_ <;> [(try clear_value x); subst x]
  with_reducible apply State.showDepth_stored
  with_reducible apply State.install_stored
  with_reducible assumption
  exact kf.sub rfl
  exact kf.sub rfl
  with_reducible apply State.setArm_stored
  with_reducible assumption
  exact kf.sub rfl
  with_reducible assumption
  with_reducible apply stored_ite
  with_reducible apply State.countReuse_stored
  with_reducible apply State.takeKnots_stored
  with_reducible assumption
  exact kf.sub rfl
  exact kf.sub rfl
  with_reducible assumption
  with_reducible apply State.kilnTick_stored
  with_reducible apply State.kilnTick_stored
  with_reducible assumption
  exact kf.sub rfl
  exact kf.sub rfl
  simp -zeta only [stored_mk, k_fbs, k_planDue, k_plannerRan, or_true, true_or]
  with_reducible assumption
  with_reducible apply State.count_stored
  with_reducible assumption
  exact kf.get rfl
  with_reducible apply stored_ite
  with_reducible apply State.flag_stored
  with_reducible assumption
  exact kf.get rfl
  with_reducible assumption
  with_reducible apply State.advance_stored
  with_reducible assumption
  exact kf.sub rfl

theorem execPlannerKilnStop_stored {s : State} (hs : State.Stored q b s) (kf : b.free [Part.reg RegGroup.pln, Part.arms]) :
    answers (execPlannerKilnStop s) (State.Stored q b) := by
  unfold execPlannerKilnStop
  extract_lets +onlyGivenNames x; clear_value x
  with_reducible apply answers_ite
  with_reducible apply answers_next
  with_reducible apply State.flag_stored
  with_reducible apply stored_foldl
  intro _ _ _
  with_reducible apply State.armCmd_stored
  with_reducible assumption
  exact kf.sub rfl
  with_reducible assumption
  exact kf.get rfl
  with_reducible apply answers_next
  with_reducible assumption

theorem execTimedMoveStart_stored {a : Fin 8} {s : State} (hs : State.Stored q b s) (kf : b.free (postParts ++ [Part.reg RegGroup.arm, Part.now, Part.arms])) :
    answers (execTimedMoveStart a s) (State.Stored q b) := by
  unfold execTimedMoveStart
  extract_lets +onlyGivenNames x; clear_value x
  split
  split
  with_reducible apply answers_next
  with_reducible assumption
  extract_lets +onlyGivenNames x; refine (fun (hx : State.Stored q b x) => ?_) ?_ <;> [(try clear_value x); subst x]
  extract_lets +onlyGivenNames x; clear_value x
  extract_lets +onlyGivenNames x; clear_value x
  extract_lets +onlyGivenNames x; refine (fun (hx : State.Stored q b x) => ?_) ?_ <;> [(try clear_value x); subst x]
  extract_lets +onlyGivenNames x; clear_value x
  extract_lets +onlyGivenNames x; refine (fun (hx : State.Stored q b x) => ?_) ?_ <;> [(try clear_value x); subst x]
  extract_lets +onlyGivenNames x; refine (fun (hx : State.Stored q b x) => ?_) ?_ <;> [(try clear_value x); subst x]
  with_reducible apply answers_ite
  with_reducible apply answers_next
  with_reducible assumption
  with_reducible apply answers_ite
  with_reducible apply answers_next
  with_reducible apply State.post_stored
  with_reducible apply State.flag_stored
  with_reducible assumption
  exact kf.get rfl
  exact kf.sub rfl
  with_reducible apply answers_next
  with_reducible assumption
  with_reducible apply State.showDepth_stored
  with_reducible apply State.extendPath_stored
  with_reducible assumption
  exact kf.sub rfl
  exact kf.sub rfl
  with_reducible apply State.setArm_stored
  with_reducible assumption
  exact kf.sub rfl
  with_reducible apply State.appendMove_stored
  with_reducible apply State.setArm_stored
  with_reducible assumption
  exact kf.sub rfl
  exact kf.sub rfl
  with_reducible apply State.advance_stored
  with_reducible assumption
  exact kf.sub rfl
  with_reducible apply answers_next
  with_reducible assumption

theorem State.applyArmCmd_stored {s : State} {a : Fin 8} {c : Nat} (hs : State.Stored q b s) (kf : b.free [Part.reg RegGroup.arm, Part.arms]) :
    State.Stored q b (State.applyArmCmd s a c) := by
  unfold State.applyArmCmd
  extract_lets +onlyGivenNames x; clear_value x
  extract_lets +onlyGivenNames x; clear_value x
  extract_lets +onlyGivenNames x; refine (fun (hx6 : ∀ y, State.Stored q b (x y)) => ?_) ?_ <;> [(try clear_value x); subst x]
  split
  with_reducible apply stored_ite
  with_reducible apply hx6
  with_reducible assumption
  with_reducible apply stored_ite
  with_reducible apply hx6
  with_reducible assumption
  with_reducible apply stored_ite
  with_reducible apply hx6
  with_reducible assumption
  with_reducible apply stored_ite
  with_reducible assumption
  with_reducible apply stored_ite
  with_reducible apply State.flushArm_stored
  with_reducible apply State.put_stored
  with_reducible assumption
  exact kf.get rfl
  exact kf.sub rfl
  with_reducible apply State.flag_stored
  with_reducible assumption
  exact kf.get rfl
  intro _
  simp -zeta only
  with_reducible apply State.put_stored
  with_reducible assumption
  exact kf.get rfl

theorem State.armEvents_stored {s : State} {a : Fin 8} (hs : State.Stored q b s) (kf : b.free [Part.reg RegGroup.arm, Part.arms]) :
    State.Stored q b (State.armEvents s a) := by
  unfold State.armEvents
  extract_lets +onlyGivenNames x; clear_value x
  extract_lets +onlyGivenNames x; clear_value x
  extract_lets +onlyGivenNames x; clear_value x
  extract_lets +onlyGivenNames x; refine (fun (hx : State.Stored q b x) => ?_) ?_ <;> [(try clear_value x); subst x]
  extract_lets +onlyGivenNames x; refine (fun (hx : State.Stored q b x) => ?_) ?_ <;> [(try clear_value x); subst x]
  extract_lets +onlyGivenNames x; clear_value x
  extract_lets +onlyGivenNames x; refine (fun (hx : State.Stored q b x) => ?_) ?_ <;> [(try clear_value x); subst x]
  extract_lets +onlyGivenNames x; clear_value x
  with_reducible apply stored_ite
  with_reducible apply State.put_stored
  with_reducible assumption
  exact kf.get rfl
  with_reducible assumption
  with_reducible apply stored_ite
  with_reducible apply State.flushArm_stored
  with_reducible apply State.put_stored
  with_reducible assumption
  exact kf.get rfl
  exact kf.sub rfl
  with_reducible apply stored_ite
  with_reducible apply State.put_stored
  with_reducible assumption
  exact kf.get rfl
  with_reducible assumption
  with_reducible apply stored_foldl
  intro _ _ _
  with_reducible apply State.applyArmCmd_stored
  with_reducible assumption
  exact kf.sub rfl
  with_reducible assumption
  with_reducible apply State.setArm_stored
  with_reducible assumption
  exact kf.sub rfl

theorem State.writeSp_stored {s : State} {a : Fin 8} {j : Fin 8} {q_ : Rat} {qd : Rat} {qdd : Rat} {k : Nat} (hs : State.Stored q b s) (kf : b.free [Part.reg RegGroup.ld, Part.loops, Part.pc]) :
    State.Stored q b (State.writeSp s a j q_ qd qdd k) := by
  unfold State.writeSp
  extract_lets +onlyGivenNames x; clear_value x
  extract_lets +onlyGivenNames x; clear_value x
  extract_lets +onlyGivenNames x; clear_value x
  extract_lets +onlyGivenNames x; clear_value x
  extract_lets +onlyGivenNames x; clear_value x
  extract_lets +onlyGivenNames x; clear_value x
  extract_lets +onlyGivenNames x; refine (fun (hx : State.Stored q b x) => ?_) ?_ <;> [(try clear_value x); subst x]
  extract_lets +onlyGivenNames x; clear_value x
  extract_lets +onlyGivenNames x; refine (fun (hx : State.Stored q b x) => ?_) ?_ <;> [(try clear_value x); subst x]
  extract_lets +onlyGivenNames x; clear_value x
  with_reducible apply State.setLoop_stored
  with_reducible assumption
  exact kf.sub rfl
  with_reducible apply State.updOther_stored
  with_reducible assumption
  exact kf.sub rfl
  with_reducible apply State.wr_stored
  with_reducible apply State.wr_stored
  with_reducible apply State.wr48_stored
  with_reducible assumption
  exact kf.get rfl
  exact kf.get rfl
  exact kf.get rfl
  exact kf.get rfl

theorem State.armSettle_stored {s : State} {a : Fin 8} (hs : State.Stored q b s) (kf : b.free [Part.reg RegGroup.arm, Part.arms]) :
    State.Stored q b (s.armSettle a) := by
  unfold State.armSettle
  extract_lets x done s1 s2 x2 s3 st
  have h1 : State.Stored q b s1 := by
    dsimp only [s1]
    split
    · exact State.wr_stored hs (kf.get rfl)
    · exact hs
  have h2 : State.Stored q b s2 := by
    dsimp only [s2]
    split
    · exact State.put_stored h1 (kf.get rfl)
    · exact h1
  have h3 : State.Stored q b s3 := State.showDepth_stored (State.setArm_stored h2 (kf.sub rfl)) (kf.sub rfl)
  exact stored_ite (State.put_stored h3 (kf.get rfl)) (stored_ite (State.put_stored h3 (kf.get rfl)) (stored_ite (State.flushArm_stored (State.put_stored h3 (kf.get rfl)) (kf.sub rfl)) h3))

theorem execInterpolatorRun_stored {a : Fin 8} {s : State} (hs : State.Stored q b s) (kf : b.free [Part.reg RegGroup.ld, Part.reg RegGroup.arm, Part.loops, Part.arms, Part.pc]) :
    answers (execInterpolatorRun a s) (State.Stored q b) := by
  unfold execInterpolatorRun
  extract_lets +onlyGivenNames x; refine (fun (hx : State.Stored q b x) => ?_) ?_ <;> [(try clear_value x); subst x]
  extract_lets +onlyGivenNames x; clear_value x
  extract_lets +onlyGivenNames x; clear_value x
  simp -zeta only
  with_reducible apply answers_ite
  with_reducible apply answers_next
  with_reducible assumption
  split
  with_reducible apply answers_next
  with_reducible apply State.armSettle_stored
  with_reducible assumption
  exact kf.sub rfl
  extract_lets +onlyGivenNames x; clear_value x
  extract_lets +onlyGivenNames x; clear_value x
  extract_lets +onlyGivenNames x; clear_value x
  extract_lets +onlyGivenNames x; clear_value x
  extract_lets +onlyGivenNames x; clear_value x
  extract_lets +onlyGivenNames x; clear_value x
  extract_lets +onlyGivenNames x; clear_value x
  extract_lets +onlyGivenNames x; refine (fun (hx : State.Stored q b x) => ?_) ?_ <;> [(try clear_value x); subst x]
  extract_lets +onlyGivenNames x; refine (fun (hx : State.Stored q b x) => ?_) ?_ <;> [(try clear_value x); subst x]
  extract_lets +onlyGivenNames x; refine (fun (hx : State.Stored q b x) => ?_) ?_ <;> [(try clear_value x); subst x]
  extract_lets +onlyGivenNames x; refine (fun (hx : State.Stored q b x) => ?_) ?_ <;> [(try clear_value x); subst x]
  extract_lets +onlyGivenNames x; clear_value x
  extract_lets +onlyGivenNames x; refine (fun (hx : State.Stored q b x) => ?_) ?_ <;> [(try clear_value x); subst x]
  with_reducible apply answers_next
  with_reducible apply State.armSettle_stored
  with_reducible assumption
  exact kf.sub rfl
  with_reducible apply State.wr_stored
  with_reducible apply State.wr_stored
  with_reducible assumption
  exact kf.get rfl
  exact kf.get rfl
  with_reducible apply State.wr_stored
  with_reducible apply State.wr_stored
  with_reducible assumption
  exact kf.get rfl
  exact kf.get rfl
  with_reducible apply stored_foldl
  intro _ _ _
  extract_lets +onlyGivenNames x; clear_value x
  with_reducible apply State.writeSp_stored
  with_reducible assumption
  exact kf.sub rfl
  with_reducible assumption
  with_reducible apply State.setArm_stored
  with_reducible assumption
  exact kf.sub rfl
  with_reducible apply stored_ite
  with_reducible apply State.flag_stored
  with_reducible assumption
  exact kf.get rfl
  with_reducible assumption
  with_reducible apply State.armEvents_stored
  with_reducible assumption
  exact kf.sub rfl

end Sys2Proof.Machine
end

