-- ==== Sys2Proof/Laws/StoredStack.lean ====
section
/-! SUPPORT. One lemma per operation: Stack and the time service keep what `State.Stored`
says: the queue, canonical memory and flash, OTP bits, time, and every part of the state that the operation does not name. -/

namespace Sys2Proof.Machine

open Sys2Proof

variable {q : List Instr} {b : Kept}

theorem State.showTiles_stored {s : State} (hs : State.Stored q b s) (kf : b.free [Part.reg RegGroup.stk]) :
    State.Stored q b (State.showTiles s) := by
  unfold State.showTiles
  extract_lets +onlyGivenNames x; clear_value x
  with_reducible apply stored_foldl
  intro _ _ _
  extract_lets +onlyGivenNames x; clear_value x
  extract_lets +onlyGivenNames x; clear_value x
  extract_lets +onlyGivenNames x; refine (fun (hx : State.Stored q b x) => ?_) ?_ <;> [(try clear_value x); subst x]
  extract_lets +onlyGivenNames x; refine (fun (hx : State.Stored q b x) => ?_) ?_ <;> [(try clear_value x); subst x]
  extract_lets +onlyGivenNames x; refine (fun (hx : State.Stored q b x) => ?_) ?_ <;> [(try clear_value x); subst x]
  extract_lets +onlyGivenNames x; refine (fun (hx : State.Stored q b x) => ?_) ?_ <;> [(try clear_value x); subst x]
  with_reducible apply State.wr_stored
  with_reducible assumption
  exact kf.get rfl
  with_reducible apply State.put_stored
  with_reducible assumption
  exact kf.get rfl
  with_reducible apply State.put_stored
  with_reducible assumption
  exact kf.get rfl
  with_reducible apply State.wr_stored
  with_reducible assumption
  exact kf.get rfl
  with_reducible apply State.put_stored
  with_reducible assumption
  exact kf.get rfl
  with_reducible assumption

theorem State.taskRecord_stored {s : State} {n : Fin 4096} {type : Nat} {sev : Nat} {more : List Byte} (hs : State.Stored q b s) (kf : b.free (postParts)) :
    State.Stored q b (State.taskRecord s n type sev more) := by
  unfold State.taskRecord
  with_reducible apply State.post_stored
  with_reducible assumption
  exact kf.sub rfl

theorem State.miss_stored {s : State} {n : Fin 4096} (hs : State.Stored q b s) (kf : b.free [Part.reg RegGroup.stk]) :
    State.Stored q b (State.miss s n) := by
  unfold State.miss
  with_reducible apply State.bumpField_stored
  with_reducible assumption
  exact kf.get rfl

theorem State.overrun_stored {s : State} {n : Fin 4096} (hs : State.Stored q b s) (kf : b.free (postParts ++ [Part.reg RegGroup.stk, Part.stk])) :
    State.Stored q b (State.overrun s n) := by
  unfold State.overrun
  extract_lets +onlyGivenNames x; clear_value x
  extract_lets +onlyGivenNames x; refine (fun (hx : State.Stored q b x) => ?_) ?_ <;> [(try clear_value x); subst x]
  with_reducible apply stored_ite
  with_reducible assumption
  with_reducible apply State.taskRecord_stored
  with_reducible apply State.setTask_stored
  with_reducible assumption
  exact kf.sub rfl
  exact kf.sub rfl
  with_reducible apply State.flag_stored
  with_reducible apply State.miss_stored
  with_reducible assumption
  exact kf.sub rfl
  exact kf.get rfl

theorem State.releaseNow_stored {s : State} {n : Fin 4096} (hs : State.Stored q b s) (kf : b.free [Part.reg RegGroup.stk, Part.stk]) :
    State.Stored q b (State.releaseNow s n).1 := by
  unfold State.releaseNow
  extract_lets +onlyGivenNames x; clear_value x
  extract_lets +onlyGivenNames x; clear_value x
  extract_lets +onlyGivenNames x; clear_value x
  split
  simp -zeta only
  with_reducible assumption
  simp -zeta only
  with_reducible apply State.queueUp_stored
  with_reducible apply State.put_stored
  with_reducible apply State.setTask_stored
  with_reducible assumption
  exact kf.sub rfl
  exact kf.get rfl
  exact kf.sub rfl

theorem State.releaseTask_stored {s : State} {n : Fin 4096} {delay : Option (Fin 4 × Nat)} (hs : State.Stored q b s) (kf : b.free (postParts ++ [Part.reg RegGroup.stk, Part.stk])) :
    State.Stored q b (State.releaseTask s n delay).1 := by
  unfold State.releaseTask
  extract_lets +onlyGivenNames x; clear_value x
  extract_lets +onlyGivenNames x; clear_value x
  extract_lets +onlyGivenNames x; clear_value x
  split
  simp -zeta only
  with_reducible assumption
  split
  simp -zeta only
  with_reducible apply State.overrun_stored
  with_reducible assumption
  exact kf.sub rfl
  split
  simp -zeta only
  with_reducible assumption
  split
  simp -zeta only
  with_reducible apply State.overrun_stored
  extract_lets +onlyGivenNames x; subst x
  with_reducible assumption
  exact kf.sub rfl
  split
  with_reducible apply State.releaseNow_stored
  with_reducible assumption
  exact kf.sub rfl
  with_reducible apply State.releaseNow_stored
  with_reducible assumption
  exact kf.sub rfl
  extract_lets +onlyGivenNames x; clear_value x
  extract_lets +onlyGivenNames x; clear_value x
  simp -zeta only
  with_reducible apply State.put_stored
  with_reducible apply State.setTask_stored
  with_reducible assumption
  exact kf.sub rfl
  exact kf.get rfl

theorem State.releaseOrDrop_stored {s : State} {n : Fin 4096} (hs : State.Stored q b s) (kf : b.free (postParts ++ [Part.reg RegGroup.stk, Part.stk])) :
    State.Stored q b (State.releaseOrDrop s n) := by
  unfold State.releaseOrDrop
  split
  with_reducible refine stored_of_pair (by with_reducible assumption) ?_
  with_reducible apply State.releaseTask_stored
  with_reducible assumption
  exact kf.sub rfl
  with_reducible apply State.overrun_stored
  with_reducible refine stored_of_pair (by with_reducible assumption) ?_
  with_reducible apply State.releaseTask_stored
  with_reducible assumption
  exact kf.sub rfl
  exact kf.sub rfl

theorem State.hold_stored {s : State} {h : Held} (hs : State.Stored q b s) (kf : b.free [Part.stk]) : State.Stored q b (State.hold s h) := by
  have k_stk : b.keep .stk = false := kf.get rfl
  unfold State.hold
  extract_lets +onlyGivenNames x; clear_value x
  with_reducible apply stored_ite
  with_reducible assumption
  simp -zeta only [stored_mk, k_stk, or_true, true_or]
  with_reducible assumption

theorem State.stkRelease_stored {s : State} {who : Who} {v : Word} (hs : State.Stored q b s) (kf : b.free (postParts ++ [Part.reg RegGroup.stk, Part.stk])) :
    State.Stored q b (State.stkRelease s who v).1 := by
  unfold State.stkRelease
  extract_lets +onlyGivenNames x; clear_value x
  extract_lets +onlyGivenNames x; clear_value x
  extract_lets +onlyGivenNames x; clear_value x
  split
  split
  simp -zeta only
  with_reducible refine stored_of_pair (by with_reducible assumption) ?_
  with_reducible apply State.releaseTask_stored
  with_reducible assumption
  exact kf.sub rfl
  simp -zeta only
  with_reducible apply State.hold_stored
  with_reducible refine stored_of_pair (by with_reducible assumption) ?_
  with_reducible apply State.releaseTask_stored
  with_reducible assumption
  exact kf.sub rfl
  exact kf.sub rfl
  simp -zeta only
  with_reducible assumption

theorem execStkRelease_stored {who : Who} {v : Word} {s : State} (hs : State.Stored q b s) (kf : b.free (postParts ++ [Part.reg RegGroup.stk, Part.stk])) :
    answers (execStkRelease who v s) (State.Stored q b) := by
  unfold execStkRelease
  with_reducible apply answers_next
  with_reducible apply State.stkRelease_stored
  with_reducible assumption
  exact kf.sub rfl

theorem State.eventRelease_stored {s : State} {src : Fin 512} (hs : State.Stored q b s) (kf : b.free (postParts ++ [Part.reg RegGroup.stk, Part.stk])) :
    State.Stored q b (State.eventRelease s src) := by
  unfold State.eventRelease
  extract_lets +onlyGivenNames x; clear_value x
  with_reducible apply stored_foldl
  intro _ _ _
  split
  with_reducible refine stored_of_pair (by with_reducible assumption) ?_
  with_reducible apply State.releaseTask_stored
  with_reducible assumption
  exact kf.sub rfl
  with_reducible apply State.hold_stored
  with_reducible refine stored_of_pair (by with_reducible assumption) ?_
  with_reducible apply State.releaseTask_stored
  with_reducible assumption
  exact kf.sub rfl
  exact kf.sub rfl
  with_reducible assumption

theorem State.wakeOf_stored {s : State} {n : Fin 4096} (hs : State.Stored q b s) (kf : b.free (postParts ++ [Part.reg RegGroup.stk, Part.stk])) :
    State.Stored q b (State.wakeOf s n) := by
  unfold State.wakeOf
  with_reducible apply stored_ite
  split
  with_reducible refine stored_of_pair (by with_reducible assumption) ?_
  with_reducible apply State.releaseTask_stored
  with_reducible assumption
  exact kf.sub rfl
  with_reducible apply State.hold_stored
  with_reducible refine stored_of_pair (by with_reducible assumption) ?_
  with_reducible apply State.releaseTask_stored
  with_reducible assumption
  exact kf.sub rfl
  exact kf.sub rfl
  with_reducible assumption

theorem State.wakeNext_stored {s : State} {n : Fin 4096} (hs : State.Stored q b s) (kf : b.free (postParts ++ [Part.reg RegGroup.stk, Part.now, Part.stk])) :
    State.Stored q b (State.wakeNext s n) := by
  unfold State.wakeNext
  with_reducible apply stored_ite
  with_reducible apply State.wakeOf_stored
  with_reducible apply State.advance_stored
  with_reducible assumption
  exact kf.sub rfl
  exact kf.sub rfl
  with_reducible assumption

theorem execDelayListExpiry_stored {k : Fin 4} {s : State} (hs : State.Stored q b s) (kf : b.free [Part.reg RegGroup.stk, Part.now, Part.stk]) :
    answers (execDelayListExpiry k s) (State.Stored q b) := by
  unfold execDelayListExpiry
  extract_lets +onlyGivenNames x; clear_value x
  extract_lets +onlyGivenNames x; clear_value x
  split
  with_reducible apply answers_next
  with_reducible assumption
  extract_lets +onlyGivenNames x; refine (fun (hx : State.Stored q b x) => ?_) ?_ <;> [(try clear_value x); subst x]
  with_reducible apply answers_next
  with_reducible apply stored_foldl
  intro _ _ _
  split
  with_reducible refine stored_of_pair (by with_reducible assumption) ?_
  with_reducible apply State.releaseNow_stored
  with_reducible assumption
  exact kf.sub rfl
  with_reducible apply State.hold_stored
  with_reducible refine stored_of_pair (by with_reducible assumption) ?_
  with_reducible apply State.releaseNow_stored
  with_reducible assumption
  exact kf.sub rfl
  exact kf.sub rfl
  with_reducible assumption
  with_reducible apply State.advance_stored
  with_reducible assumption
  exact kf.sub rfl

theorem State.dropSlot_stored {s : State} {n : Fin 4096} (hs : State.Stored q b s) (kf : b.free [Part.tiles]) :
    State.Stored q b (State.dropSlot s n) := by
  unfold State.dropSlot
  with_reducible apply stored_foldl
  intro _ _ _
  extract_lets +onlyGivenNames x; clear_value x
  split
  with_reducible apply stored_ite
  with_reducible apply State.setTile_stored
  with_reducible assumption
  exact kf.sub rfl
  with_reducible assumption
  with_reducible assumption
  with_reducible assumption

theorem State.unhold_stored {s : State} {n : Fin 4096} (hs : State.Stored q b s) (kf : b.free [Part.stk]) :
    State.Stored q b (State.unhold s n) := by
  have k_stk : b.keep .stk = false := kf.get rfl
  unfold State.unhold
  extract_lets +onlyGivenNames x; clear_value x
  simp -zeta only [stored_mk, k_stk, or_true, true_or]
  with_reducible assumption

theorem State.stkCancel_stored {s : State} {who : Who} {n : Fin 4096} (hs : State.Stored q b s) (kf : b.free (postParts ++ [Part.reg RegGroup.stk, Part.now, Part.stk, Part.ic])) :
    State.Stored q b (State.stkCancel s who n) := by
  unfold State.stkCancel
  extract_lets +onlyGivenNames x; clear_value x
  extract_lets +onlyGivenNames x; clear_value x
  extract_lets +onlyGivenNames x; clear_value x
  extract_lets +onlyGivenNames x; refine (fun (hx : State.Stored q b x) => ?_) ?_ <;> [(try clear_value x); subst x]
  extract_lets +onlyGivenNames x; clear_value x
  with_reducible apply stored_ite
  with_reducible assumption
  with_reducible apply stored_ite
  with_reducible apply State.wakeNext_stored
  with_reducible apply State.toRest_stored
  with_reducible apply State.unhold_stored
  with_reducible assumption
  exact kf.sub rfl
  exact kf.sub rfl
  exact kf.sub rfl
  with_reducible apply stored_ite
  with_reducible apply State.wakeNext_stored
  with_reducible apply State.toRest_stored
  with_reducible apply State.queueDown_stored
  with_reducible assumption
  exact kf.sub rfl
  exact kf.sub rfl
  exact kf.sub rfl
  with_reducible apply stored_ite
  with_reducible apply State.setTask_stored
  with_reducible assumption
  exact kf.sub rfl
  with_reducible assumption
  with_reducible apply State.setTask_stored
  with_reducible assumption
  exact kf.sub rfl

theorem execStkCancel_stored {who : Who} {n : Fin 4096} {s : State} (hs : State.Stored q b s) (kf : b.free (postParts ++ [Part.reg RegGroup.stk, Part.now, Part.stk, Part.ic])) :
    answers (execStkCancel who n s) (State.Stored q b) := by
  unfold execStkCancel
  with_reducible apply answers_next
  with_reducible apply State.stkCancel_stored
  with_reducible assumption
  exact kf.sub rfl

theorem execSlotInvalidate_stored {n : Fin 4096} {s : State} (hs : State.Stored q b s) (kf : b.free (postParts ++ [Part.reg RegGroup.stk, Part.now, Part.tiles, Part.stk, Part.ic])) :
    answers (execSlotInvalidate n s) (State.Stored q b) := by
  unfold execSlotInvalidate
  with_reducible apply answers_ite
  with_reducible apply answers_next
  with_reducible apply State.wakeNext_stored
  with_reducible apply State.toRest_stored
  with_reducible apply State.dropSlot_stored
  with_reducible assumption
  exact kf.sub rfl
  exact kf.sub rfl
  exact kf.sub rfl
  with_reducible apply answers_next
  with_reducible assumption

theorem State.heldStoreOut_stored {s : State} {v : Word} {i : Fin 32} (hs : State.Stored q b s) (kf : b.free [Part.reg RegGroup.ic, Part.tiles, Part.ic]) :
    State.Stored q b (State.heldStoreOut s v i) := by
  unfold State.heldStoreOut
  extract_lets +onlyGivenNames x; clear_value x
  split
  with_reducible apply stored_ite
  with_reducible apply State.takeStore_stored
  with_reducible apply State.setTile_stored
  with_reducible assumption
  exact kf.sub rfl
  exact kf.sub rfl
  with_reducible assumption
  with_reducible assumption

theorem State.tryHeld_stored {s : State} {h : Held} (hs : State.Stored q b s) (kf :
    b.free (postParts ++ [Part.reg RegGroup.stk, Part.tiles, Part.stk, Part.ic])) :
  ∀ t, State.tryHeld s h = some t → State.Stored q b t := by
  have now : ∀ n t, (if s.taskState n ≠ 3 then some s else match s.releaseNow n with | (t, false) => some t | (_, true) => none) = some t →
      State.Stored q b t := by
    intro n t e
    by_cases c : s.taskState n ≠ 3
    · rw [if_pos c] at e; cases e; exact hs
    rw [if_neg c] at e
    have k := State.releaseNow_stored (n := n) hs (kf.sub rfl)
    split at e
    · rename_i e'; cases e; rw [e'] at k; exact k
    · cases e
  have task : ∀ n d t, (match s.releaseTask n d with | (t, false) => some t | (_, true) => none) = some t → State.Stored q b t := by
    intro n d t e
    have k := State.releaseTask_stored (n := n) (delay := d) hs (kf.sub rfl)
    split at e
    · rename_i e'; cases e; rw [e'] at k; exact k
    · cases e
  intro t e
  unfold State.tryHeld at e
  dsimp only at e
  split at e
  · exact task _ _ _ e
  · exact task _ _ _ e
  · rw [Option.map_eq_some_iff] at e
    obtain ⟨u, hu, rfl⟩ := e
    apply stored_foldl
    · intro s i hs
      exact State.heldStoreOut_stored hs (kf.sub rfl)
    · exact task _ _ _ hu
  · exact now _ _ e

theorem execHeldReleaseAccept_stored {s : State} (hs : State.Stored q b s) (kf :
    b.free (postParts ++ [Part.reg RegGroup.stk, Part.tiles, Part.stk, Part.ic])) :
  answers (execHeldReleaseAccept s) (State.Stored q b) := by
  unfold execHeldReleaseAccept
  split
  · exact hs
  · rename_i h _
    extract_lets src x
    have k1 : b.keep .stk = false := kf.get rfl
    have hx : State.Stored q b x := by
      dsimp only [x]
      simp only [stored_mk, k1, or_true, true_or]
      exact hs
    refine answers_next ?_
    cases e : x.tryHeld h with
    | none => exact hx
    | some t => exact State.tryHeld_stored hx (kf.sub rfl) _ e

theorem State.fillSlot_stored {s : State} {t_ : Fin 16} {n : Fin 4096} {waits : Bool} (hs : State.Stored q b s) (kf : b.free [Part.reg RegGroup.stk, Part.tiles, Part.stk]) :
    State.Stored q b (State.fillSlot s t_ n waits) := by
  have k_stk : b.keep .stk = false := kf.get rfl
  unfold State.fillSlot
  extract_lets +onlyGivenNames x; clear_value x
  extract_lets +onlyGivenNames x; clear_value x
  extract_lets +onlyGivenNames x; refine (fun (hx : State.Stored q b x) => ?_) ?_ <;> [(try clear_value x); subst x]
  with_reducible apply State.put_stored
  with_reducible apply stored_foldl
  intro _ _ _
  extract_lets +onlyGivenNames x; clear_value x
  with_reducible apply State.setTile_stored
  with_reducible assumption
  exact kf.sub rfl
  with_reducible assumption
  exact kf.get rfl
  simp -zeta only [stored_mk, k_stk, or_true, true_or]
  with_reducible assumption

theorem execSlotFill_stored {t_ : Fin 16} {s : State} (hs : State.Stored q b s) (kf : b.free [Part.reg RegGroup.stk, Part.tiles, Part.stk]) :
    answers (execSlotFill t_ s) (State.Stored q b) := by
  unfold execSlotFill
  with_reducible apply answers_ite
  with_reducible apply answers_next
  with_reducible assumption
  split
  with_reducible apply answers_next
  with_reducible apply State.fillSlot_stored
  with_reducible assumption
  exact kf.sub rfl
  split
  with_reducible apply answers_next
  with_reducible apply State.fillSlot_stored
  with_reducible apply State.queueDown_stored
  with_reducible assumption
  exact kf.sub rfl
  exact kf.sub rfl
  with_reducible apply answers_next
  with_reducible assumption

theorem execTaskReleaseStart_stored {t_ : Fin 16} {s : State} (hs : State.Stored q b s) (kf : b.free [Part.reg RegGroup.stk, Part.now, Part.tiles, Part.stk, Part.ic]) :
    answers (execTaskReleaseStart t_ s) (State.Stored q b) := by
  unfold execTaskReleaseStart
  extract_lets +onlyGivenNames x; clear_value x
  extract_lets +onlyGivenNames x; clear_value x
  extract_lets +onlyGivenNames x; refine (fun (hx : State.Stored q b x) => ?_) ?_ <;> [(try clear_value x); subst x]
  with_reducible apply answers_ite
  with_reducible apply answers_next
  with_reducible apply stored_foldl
  intro _ _ _
  with_reducible apply State.startSlot_stored
  with_reducible assumption
  exact kf.sub rfl
  with_reducible assumption
  with_reducible apply answers_next
  with_reducible assumption
  with_reducible apply stored_ite
  with_reducible apply State.advance_stored
  with_reducible assumption
  exact kf.sub rfl
  with_reducible assumption

theorem execBudgetStop_stored {t_ : Fin 16} {s : State} (hs : State.Stored q b s) (kf : b.free (postParts ++ [Part.reg RegGroup.stk, Part.tiles, Part.stk, Part.ic])) :
    answers (execBudgetStop t_ s) (State.Stored q b) := by
  unfold execBudgetStop
  extract_lets +onlyGivenNames x; clear_value x
  split
  with_reducible apply answers_next
  with_reducible assumption
  extract_lets +onlyGivenNames x; refine (fun (hx : State.Stored q b x) => ?_) ?_ <;> [(try clear_value x); subst x]
  with_reducible apply answers_ite
  with_reducible apply answers_next
  with_reducible apply State.wakeOf_stored
  with_reducible apply State.toRest_stored
  with_reducible apply State.taskRecord_stored
  with_reducible apply State.flag_stored
  with_reducible assumption
  exact kf.get rfl
  exact kf.sub rfl
  exact kf.sub rfl
  exact kf.sub rfl
  with_reducible apply answers_next
  with_reducible assumption
  with_reducible apply stored_foldl
  intro _ _ _
  extract_lets +onlyGivenNames x; subst x
  with_reducible apply stored_ite
  with_reducible apply State.endRun_stored
  with_reducible assumption
  exact kf.sub rfl
  with_reducible assumption
  with_reducible assumption

theorem execTaskDeadlineMiss_stored {n : Fin 4096} {s : State} (hs : State.Stored q b s) (kf : b.free (postParts ++ [Part.reg RegGroup.stk, Part.now, Part.stk])) :
    answers (execTaskDeadlineMiss n s) (State.Stored q b) := by
  unfold execTaskDeadlineMiss
  extract_lets +onlyGivenNames x; clear_value x
  extract_lets +onlyGivenNames x; clear_value x
  with_reducible apply answers_ite
  with_reducible apply answers_next
  with_reducible apply State.taskRecord_stored
  with_reducible apply State.miss_stored
  with_reducible apply State.setTask_stored
  with_reducible apply State.advance_stored
  with_reducible assumption
  exact kf.sub rfl
  exact kf.sub rfl
  exact kf.sub rfl
  exact kf.sub rfl
  with_reducible apply answers_next
  with_reducible assumption

theorem State.copyMem_stored {s : State} {src : Nat} {dst : Nat} {n : Nat} (hs : State.Stored q b s) (kf : b.free [Part.mem]) :
    State.Stored q b (State.copyMem s src dst n) := by
  unfold State.copyMem
  with_reducible apply State.mwrite_stored
  with_reducible assumption
  exact kf.sub rfl

theorem State.copyBoth_stored {s : State} {src : Fin 2 → Nat} {dst : Fin 2 → Nat} {n : Nat} (hs : State.Stored q b s) (kf : b.free [Part.mem]) :
    State.Stored q b (State.copyBoth s src dst n) := by
  unfold State.copyBoth
  extract_lets +onlyGivenNames x; clear_value x
  with_reducible apply stored_foldl
  intro _ _ _
  with_reducible apply State.mwrite_stored
  with_reducible assumption
  exact kf.sub rfl
  with_reducible assumption

theorem State.replicate_stored {s : State} {n : Fin 4096} (hs : State.Stored q b s) (kf : b.free [Part.mem]) :
    State.Stored q b (State.replicate s n) := by
  unfold State.replicate
  extract_lets +onlyGivenNames x; clear_value x
  with_reducible apply stored_foldl
  intro _ _ _
  with_reducible apply stored_foldl
  intro _ _ _
  with_reducible apply stored_ite
  with_reducible assumption
  with_reducible apply State.copyBoth_stored
  with_reducible assumption
  exact kf.sub rfl
  with_reducible assumption
  with_reducible assumption

theorem State.finishRun_stored {s : State} {n : Fin 4096} (hs : State.Stored q b s) (kf : b.free (postParts ++ [Part.reg RegGroup.stk, Part.mem, Part.stk, Part.ic])) :
    State.Stored q b (State.finishRun s n) := by
  unfold State.finishRun
  extract_lets +onlyGivenNames x; clear_value x
  extract_lets +onlyGivenNames x; refine (fun (hx : State.Stored q b x) => ?_) ?_ <;> [(try clear_value x); subst x]
  with_reducible apply stored_ite
  split
  with_reducible apply State.releaseOrDrop_stored
  with_reducible assumption
  exact kf.sub rfl
  with_reducible assumption
  with_reducible assumption
  with_reducible apply State.wakeOf_stored
  with_reducible apply State.toRest_stored
  with_reducible apply State.replicate_stored
  with_reducible assumption
  exact kf.sub rfl
  exact kf.sub rfl
  exact kf.sub rfl

theorem State.popEnd_stored {s : State} {i : Fin 32} (hs : State.Stored q b s) (kf : b.free [Part.tiles]) :
    State.Stored q b (State.popEnd s i) := by
  unfold State.popEnd
  extract_lets +onlyGivenNames x; clear_value x
  with_reducible apply State.setTile_stored
  with_reducible assumption
  exact kf.sub rfl

theorem execTaskEndReport_stored {t_ : Fin 16} {s : State} (hs : State.Stored q b s) (kf : b.free (postParts ++ [Part.reg RegGroup.stk, Part.mem, Part.tiles, Part.stk, Part.ic])) :
    answers (execTaskEndReport t_ s) (State.Stored q b) := by
  unfold execTaskEndReport
  with_reducible apply answers_next
  with_reducible apply stored_foldl
  intro _ _ _
  split
  extract_lets +onlyGivenNames x; refine (fun (hx : State.Stored q b x) => ?_) ?_ <;> [(try clear_value x); subst x]
  with_reducible apply stored_ite
  with_reducible apply State.finishRun_stored
  with_reducible assumption
  exact kf.sub rfl
  with_reducible assumption
  with_reducible apply State.setTask_stored
  with_reducible apply State.popEnd_stored
  with_reducible assumption
  exact kf.sub rfl
  exact kf.sub rfl
  with_reducible assumption
  with_reducible assumption

theorem State.judgeRun_stored {s : State} {t_ : Fin 16} (hs : State.Stored q b s) (kf : b.free [Part.pc]) :
    State.Stored q b (State.judgeRun s t_) := by
  have k_pc : b.keep .pc = false := kf.get rfl
  unfold State.judgeRun
  extract_lets +onlyGivenNames x; clear_value x
  extract_lets +onlyGivenNames x; clear_value x
  extract_lets +onlyGivenNames x; refine (fun (hx : State.Stored q b x) => ?_) ?_ <;> [(try clear_value x); subst x]
  with_reducible apply stored_ite
  with_reducible apply State.finding_stored
  with_reducible assumption
  exact kf.sub rfl
  with_reducible assumption
  simp -zeta only [stored_mk, k_pc, or_true, true_or]
  with_reducible assumption

theorem execUntimedRunEnd_stored {n : Fin 4096} {skew : Nat} {s : State} (hs : State.Stored q b s) (kf : b.free (postParts ++ [Part.reg RegGroup.stk, Part.mem, Part.stk, Part.pc, Part.ic])) :
    answers (execUntimedRunEnd n skew s) (State.Stored q b) := by
  unfold execUntimedRunEnd
  extract_lets +onlyGivenNames x; refine (fun (hx : State.Stored q b x) => ?_) ?_ <;> [(try clear_value x); subst x]
  with_reducible apply answers_ite
  with_reducible apply answers_next
  with_reducible apply State.finishRun_stored
  with_reducible apply State.judgeRun_stored
  with_reducible assumption
  exact kf.sub rfl
  exact kf.sub rfl
  with_reducible apply answers_next
  with_reducible assumption
  with_reducible apply stored_ite
  with_reducible apply State.finding_stored
  with_reducible apply State.flag_stored
  with_reducible assumption
  exact kf.get rfl
  exact kf.sub rfl
  with_reducible assumption

theorem execTaskCopyDone_stored {n : Fin 4096} {s : State} (hs : State.Stored q b s) (kf : b.free [Part.stk]) :
    answers (execTaskCopyDone n s) (State.Stored q b) := by
  unfold execTaskCopyDone
  extract_lets +onlyGivenNames x; clear_value x
  with_reducible apply answers_ite
  with_reducible apply answers_next
  with_reducible apply State.setTask_stored
  with_reducible assumption
  exact kf.sub rfl
  with_reducible apply answers_next
  with_reducible assumption

theorem execBufferCopyDone_stored {h : Fin 8192} {s : State} (hs : State.Stored q b s) (kf : b.free [Part.stk]) :
    answers (execBufferCopyDone h s) (State.Stored q b) := by
  unfold execBufferCopyDone
  extract_lets +onlyGivenNames x; clear_value x
  extract_lets +onlyGivenNames x; clear_value x
  with_reducible apply answers_ite
  with_reducible apply answers_next
  with_reducible assumption
  with_reducible apply answers_next
  with_reducible apply State.setBuf_stored
  with_reducible assumption
  exact kf.sub rfl

theorem State.showQueued_stored {s : State} (hs : State.Stored q b s) (kf : b.free [Part.reg RegGroup.stk, Part.tiles]) :
    State.Stored q b (State.showQueued s) := by
  unfold State.showQueued
  with_reducible apply stored_foldl
  intro _ _ _
  extract_lets +onlyGivenNames x; clear_value x
  extract_lets +onlyGivenNames x; refine (fun (hx : State.Stored q b x) => ?_) ?_ <;> [(try clear_value x); subst x]
  with_reducible apply stored_foldl
  intro _ _ _
  extract_lets +onlyGivenNames x; clear_value x
  with_reducible apply State.setTile_stored
  with_reducible assumption
  exact kf.sub rfl
  with_reducible assumption
  with_reducible apply State.put_stored
  with_reducible assumption
  exact kf.get rfl
  with_reducible assumption

theorem execTierMeasurement_stored {acc : List (Fin 8192 × Nat)} {s : State} (hs : State.Stored q b s) (kf : b.free [Part.reg RegGroup.stk, Part.now, Part.tiles, Part.stk]) :
    answers (execTierMeasurement acc s) (State.Stored q b) := by
  have k_stk : b.keep .stk = false := kf.get rfl
  unfold execTierMeasurement
  extract_lets +onlyGivenNames x; clear_value x
  extract_lets +onlyGivenNames x; refine (fun (hx : State.Stored q b x) => ?_) ?_ <;> [(try clear_value x); subst x]
  extract_lets +onlyGivenNames x; clear_value x
  extract_lets +onlyGivenNames x; refine (fun (hx : State.Stored q b x) => ?_) ?_ <;> [(try clear_value x); subst x]
  with_reducible apply answers_ite
  with_reducible apply answers_next
  with_reducible apply stored_foldl
  intro _ _ _
  extract_lets +onlyGivenNames x; clear_value x
  extract_lets +onlyGivenNames x; clear_value x
  with_reducible apply stored_ite
  with_reducible apply State.setBuf_stored
  with_reducible assumption
  exact kf.sub rfl
  with_reducible assumption
  with_reducible assumption
  with_reducible apply answers_next
  with_reducible assumption
  with_reducible apply State.showQueued_stored
  simp -zeta only [stored_mk, k_stk, or_true, true_or]
  with_reducible assumption
  exact kf.sub rfl
  with_reducible apply State.advance_stored
  with_reducible assumption
  exact kf.sub rfl

theorem execStkRebalance_stored {s : State} (hs : State.Stored q b s) (kf : b.free [Part.stk]) :
    answers (execStkRebalance s) (State.Stored q b) := by
  have k_stk : b.keep .stk = false := kf.get rfl
  unfold execStkRebalance
  extract_lets +onlyGivenNames x; clear_value x
  with_reducible apply answers_next
  simp -zeta only [stored_mk, k_stk, or_true, true_or]
  with_reducible assumption

theorem State.descCmd_stored {s : State} {n : Fin 4096} {op : Nat} {res : Nat} {f : State → State} (hs : State.Stored q b s) (hf : ∀ s, State.Stored q b s → State.Stored q b (f s)) (kf : b.free [Part.reg RegGroup.stk, Part.stk]) :
    State.Stored q b (State.descCmd s n op res f) := by
  have k_stk : b.keep .stk = false := kf.get rfl
  unfold State.descCmd
  extract_lets +onlyGivenNames x; refine (fun (hx : State.Stored q b x) => ?_) ?_ <;> [(try clear_value x); subst x]
  extract_lets +onlyGivenNames x; refine (fun (hx : State.Stored q b x) => ?_) ?_ <;> [(try clear_value x); subst x]
  extract_lets +onlyGivenNames x; clear_value x
  with_reducible apply stored_ite
  with_reducible apply State.flag_stored
  with_reducible assumption
  exact kf.get rfl
  with_reducible apply stored_ite
  with_reducible apply State.put_stored
  with_reducible assumption
  exact kf.get rfl
  simp -zeta only [stored_mk, k_stk, or_true, true_or]
  with_reducible assumption
  with_reducible apply State.put_stored
  with_reducible apply hf
  with_reducible apply State.put_stored
  with_reducible assumption
  exact kf.get rfl
  exact kf.get rfl
  with_reducible apply State.put_stored
  with_reducible assumption
  exact kf.get rfl

theorem execStkCreate_stored {n : Fin 4096} {s : State} (hs : State.Stored q b s) (kf : b.free [Part.reg RegGroup.stk, Part.stk]) :
    answers (execStkCreate n s) (State.Stored q b) := by
  unfold execStkCreate
  extract_lets +onlyGivenNames x; clear_value x
  with_reducible apply answers_next
  with_reducible apply State.descCmd_stored
  with_reducible assumption
  intro _ _
  with_reducible apply State.put_stored
  with_reducible apply State.setTask_stored
  with_reducible assumption
  exact kf.sub rfl
  exact kf.get rfl
  exact kf.sub rfl

theorem execStkDelete_stored {n : Fin 4096} {s : State} (hs : State.Stored q b s) (kf : b.free [Part.reg RegGroup.stk, Part.stk]) :
    answers (execStkDelete n s) (State.Stored q b) := by
  unfold execStkDelete
  with_reducible apply answers_next
  with_reducible apply State.descCmd_stored
  with_reducible assumption
  intro _ _
  with_reducible apply stored_id
  with_reducible assumption
  exact kf.sub rfl

theorem execStkReadDesc_stored {n : Fin 4096} {s : State} (hs : State.Stored q b s) (kf : b.free [Part.reg RegGroup.stk, Part.stk]) :
    answers (execStkReadDesc n s) (State.Stored q b) := by
  unfold execStkReadDesc
  with_reducible apply answers_next
  with_reducible apply State.descCmd_stored
  with_reducible assumption
  intro _ _
  with_reducible apply stored_id
  with_reducible assumption
  exact kf.sub rfl

theorem execStkEnable_stored {n : Fin 4096} {s : State} (hs : State.Stored q b s) (kf : b.free [Part.reg RegGroup.stk, Part.stk]) :
    answers (execStkEnable n s) (State.Stored q b) := by
  unfold execStkEnable
  with_reducible apply answers_next
  with_reducible apply State.descCmd_stored
  with_reducible assumption
  intro _ _
  with_reducible apply stored_id
  with_reducible assumption
  exact kf.sub rfl

theorem execStkDisable_stored {n : Fin 4096} {s : State} (hs : State.Stored q b s) (kf : b.free [Part.reg RegGroup.stk, Part.stk]) :
    answers (execStkDisable n s) (State.Stored q b) := by
  unfold execStkDisable
  with_reducible apply answers_next
  with_reducible apply State.descCmd_stored
  with_reducible assumption
  intro _ _
  with_reducible apply stored_id
  with_reducible assumption
  exact kf.sub rfl

theorem State.bufCmd_stored {s : State} {h : Fin 8192} {op : Nat} {res : Nat} (hs : State.Stored q b s) (kf : b.free [Part.reg RegGroup.stk, Part.stk]) :
    State.Stored q b (State.bufCmd s h op res) := by
  have k_stk : b.keep .stk = false := kf.get rfl
  unfold State.bufCmd
  extract_lets +onlyGivenNames x; refine (fun (hx : State.Stored q b x) => ?_) ?_ <;> [(try clear_value x); subst x]
  extract_lets +onlyGivenNames x; refine (fun (hx : State.Stored q b x) => ?_) ?_ <;> [(try clear_value x); subst x]
  extract_lets +onlyGivenNames x; clear_value x
  with_reducible apply stored_ite
  with_reducible apply State.flag_stored
  with_reducible assumption
  exact kf.get rfl
  with_reducible apply stored_ite
  with_reducible apply State.put_stored
  with_reducible assumption
  exact kf.get rfl
  simp -zeta only [stored_mk, k_stk, or_true, true_or]
  with_reducible assumption
  with_reducible apply State.put_stored
  with_reducible apply State.put_stored
  with_reducible assumption
  exact kf.get rfl
  exact kf.get rfl
  with_reducible apply State.put_stored
  with_reducible assumption
  exact kf.get rfl

theorem execBufCreate_stored {h : Fin 8192} {s : State} (hs : State.Stored q b s) (kf : b.free [Part.reg RegGroup.stk, Part.stk]) :
    answers (execBufCreate h s) (State.Stored q b) := by
  unfold execBufCreate
  extract_lets +onlyGivenNames x; clear_value x
  extract_lets +onlyGivenNames x; clear_value x
  extract_lets +onlyGivenNames x; refine (fun (hx : State.Stored q b x) => ?_) ?_ <;> [(try clear_value x); subst x]
  extract_lets +onlyGivenNames x; clear_value x
  with_reducible apply answers_next
  with_reducible apply stored_ite
  with_reducible apply State.setBuf_stored
  with_reducible assumption
  exact kf.sub rfl
  with_reducible assumption
  with_reducible apply State.bufCmd_stored
  with_reducible assumption
  exact kf.sub rfl

theorem execBufDelete_stored {h : Fin 8192} {s : State} (hs : State.Stored q b s) (kf : b.free [Part.reg RegGroup.stk, Part.stk]) :
    answers (execBufDelete h s) (State.Stored q b) := by
  unfold execBufDelete
  with_reducible apply answers_next
  with_reducible apply State.bufCmd_stored
  with_reducible assumption
  exact kf.sub rfl

theorem execBufRead_stored {h : Fin 8192} {s : State} (hs : State.Stored q b s) (kf : b.free [Part.reg RegGroup.stk, Part.stk]) :
    answers (execBufRead h s) (State.Stored q b) := by
  unfold execBufRead
  with_reducible apply answers_next
  with_reducible apply State.bufCmd_stored
  with_reducible assumption
  exact kf.sub rfl

theorem State.bufOpDone_stored {s : State} (hs : State.Stored q b s) (kf : b.free [Part.reg RegGroup.stk, Part.stk]) :
    State.Stored q b (State.bufOpDone s) := by
  have k_stk : b.keep .stk = false := kf.get rfl
  unfold State.bufOpDone
  split
  with_reducible assumption
  extract_lets +onlyGivenNames x; refine (fun (hx : State.Stored q b x) => ?_) ?_ <;> [(try clear_value x); subst x]
  extract_lets +onlyGivenNames x; refine (fun (hx : State.Stored q b x) => ?_) ?_ <;> [(try clear_value x); subst x]
  extract_lets +onlyGivenNames x; clear_value x
  simp -zeta only [stored_mk, k_stk, or_true, true_or]
  with_reducible assumption
  with_reducible apply State.put_stored
  with_reducible apply State.put_stored
  with_reducible assumption
  exact kf.get rfl
  exact kf.get rfl
  with_reducible apply stored_ite
  with_reducible apply State.setBuf_stored
  with_reducible assumption
  exact kf.sub rfl
  with_reducible apply stored_ite
  with_reducible apply stored_foldl
  intro _ _ _
  with_reducible apply State.wr_stored
  with_reducible assumption
  exact kf.get rfl
  with_reducible assumption
  with_reducible assumption

theorem State.descOpEnd_stored {s : State} {res : Nat} (hs : State.Stored q b s) (kf : b.free [Part.reg RegGroup.stk, Part.stk]) :
    State.Stored q b (State.descOpEnd s res) := by
  have k_stk : b.keep .stk = false := kf.get rfl
  unfold State.descOpEnd
  extract_lets +onlyGivenNames x; refine (fun (hx : State.Stored q b x) => ?_) ?_ <;> [(try clear_value x); subst x]
  extract_lets +onlyGivenNames x; clear_value x
  simp -zeta only [stored_mk, k_stk, or_true, true_or]
  with_reducible assumption
  with_reducible apply State.put_stored
  with_reducible apply State.put_stored
  with_reducible assumption
  exact kf.get rfl
  exact kf.get rfl

theorem State.disableTask_stored {s : State} {n : Fin 4096} (hs : State.Stored q b s) (kf : b.free [Part.reg RegGroup.stk, Part.tiles, Part.stk]) :
    State.Stored q b (State.disableTask s n) := by
  unfold State.disableTask
  extract_lets +onlyGivenNames x; clear_value x
  extract_lets +onlyGivenNames x; clear_value x
  extract_lets +onlyGivenNames x; refine (fun (hx : State.Stored q b x) => ?_) ?_ <;> [(try clear_value x); subst x]
  extract_lets +onlyGivenNames x; refine (fun (hx : State.Stored q b x) => ?_) ?_ <;> [(try clear_value x); subst x]
  extract_lets +onlyGivenNames x; clear_value x
  extract_lets +onlyGivenNames x; refine (fun (hx : State.Stored q b x) => ?_) ?_ <;> [(try clear_value x); subst x]
  with_reducible apply stored_ite
  with_reducible apply State.setTask_stored
  with_reducible assumption
  exact kf.sub rfl
  with_reducible apply State.put_stored
  with_reducible apply State.put_stored
  with_reducible assumption
  exact kf.get rfl
  exact kf.get rfl
  with_reducible apply State.setTask_stored
  with_reducible assumption
  exact kf.sub rfl
  with_reducible apply State.unhold_stored
  with_reducible apply State.dropSlot_stored
  with_reducible apply stored_ite
  with_reducible apply State.placeChanged_stored
  with_reducible assumption
  exact kf.sub rfl
  with_reducible assumption
  exact kf.sub rfl
  exact kf.sub rfl
  with_reducible apply stored_ite
  with_reducible apply State.queueDown_stored
  with_reducible assumption
  exact kf.sub rfl
  with_reducible assumption

theorem State.descOpDone_stored {s : State} (hs : State.Stored q b s) (kf : b.free [Part.reg RegGroup.stk, Part.tiles, Part.stk]) :
    State.Stored q b (State.descOpDone s) := by
  unfold State.descOpDone
  split
  with_reducible assumption
  with_reducible apply stored_ite
  with_reducible apply State.descOpEnd_stored
  with_reducible assumption
  exact kf.sub rfl
  with_reducible apply stored_ite
  with_reducible apply State.descOpEnd_stored
  with_reducible apply State.wr_stored
  with_reducible apply State.setTask_stored
  with_reducible assumption
  exact kf.sub rfl
  exact kf.get rfl
  exact kf.sub rfl
  with_reducible apply stored_ite
  with_reducible apply State.descOpEnd_stored
  with_reducible apply stored_foldl
  intro _ _ _
  with_reducible apply State.wr_stored
  with_reducible assumption
  exact kf.get rfl
  with_reducible assumption
  exact kf.sub rfl
  with_reducible apply stored_ite
  with_reducible apply State.descOpEnd_stored
  with_reducible apply State.disableTask_stored
  with_reducible assumption
  exact kf.sub rfl
  exact kf.sub rfl
  with_reducible apply stored_ite
  with_reducible apply State.descOpEnd_stored
  with_reducible apply State.put_stored
  with_reducible apply State.put_stored
  with_reducible assumption
  exact kf.get rfl
  exact kf.get rfl
  exact kf.sub rfl
  with_reducible assumption

theorem State.imageTo_stored {s : State} {n : Fin 4096} {t_ : Fin 16} (hs : State.Stored q b s) (kf : b.free [Part.mem, Part.tiles]) :
    State.Stored q b (State.imageTo s n t_) := by
  unfold State.imageTo
  extract_lets +onlyGivenNames x; clear_value x
  extract_lets +onlyGivenNames x; clear_value x
  with_reducible apply stored_foldl
  intro _ _ _
  extract_lets +onlyGivenNames x; clear_value x
  extract_lets +onlyGivenNames x; clear_value x
  with_reducible apply State.setTile_stored
  with_reducible apply State.mwrite_stored
  with_reducible assumption
  exact kf.sub rfl
  exact kf.sub rfl
  with_reducible assumption

theorem State.replicasTo_stored {s : State} {n : Fin 4096} {t_ : Fin 16} (hs : State.Stored q b s) (kf : b.free [Part.mem]) :
    State.Stored q b (State.replicasTo s n t_) := by
  unfold State.replicasTo
  with_reducible apply stored_foldl
  intro _ _ _
  extract_lets +onlyGivenNames x; clear_value x
  extract_lets +onlyGivenNames x; clear_value x
  split
  with_reducible assumption
  with_reducible apply stored_ite
  with_reducible assumption
  with_reducible apply State.copyBoth_stored
  with_reducible assumption
  exact kf.sub rfl
  with_reducible assumption

theorem State.placeTask_stored {s : State} {n : Fin 4096} {t_ : Fin 16} {k : Nat} (hs : State.Stored q b s) (kf : b.free [Part.reg RegGroup.ld, Part.reg RegGroup.stk, Part.mem, Part.loops, Part.tiles, Part.stk]) :
    State.Stored q b (State.placeTask s n t_ k) := by
  unfold State.placeTask
  extract_lets +onlyGivenNames x; clear_value x
  extract_lets +onlyGivenNames x; refine (fun (hx : State.Stored q b x) => ?_) ?_ <;> [(try clear_value x); subst x]
  extract_lets +onlyGivenNames x; refine (fun (hx : State.Stored q b x) => ?_) ?_ <;> [(try clear_value x); subst x]
  extract_lets +onlyGivenNames x; clear_value x
  extract_lets +onlyGivenNames x; refine (fun (hx : State.Stored q b x) => ?_) ?_ <;> [(try clear_value x); subst x]
  extract_lets +onlyGivenNames x; clear_value x
  extract_lets +onlyGivenNames x; clear_value x
  extract_lets +onlyGivenNames x; refine (fun (hx : State.Stored q b x) => ?_) ?_ <;> [(try clear_value x); subst x]
  with_reducible apply stored_ite
  with_reducible apply State.banksToTile_stored
  with_reducible apply State.put_stored
  with_reducible assumption
  exact kf.get rfl
  exact kf.sub rfl
  with_reducible assumption
  with_reducible apply State.setLoop_stored
  with_reducible assumption
  exact kf.sub rfl
  with_reducible apply State.imageTo_stored
  with_reducible apply State.setTask_stored
  with_reducible assumption
  exact kf.sub rfl
  exact kf.sub rfl
  with_reducible apply State.put_stored
  with_reducible apply State.put_stored
  with_reducible apply State.put_stored
  with_reducible apply State.put_stored
  with_reducible assumption
  exact kf.get rfl
  exact kf.get rfl
  exact kf.get rfl
  exact kf.get rfl
  with_reducible apply State.replicasTo_stored
  with_reducible assumption
  exact kf.sub rfl

theorem State.placeFail_stored {s : State} {n : Fin 4096} (hs : State.Stored q b s) (kf : b.free [Part.reg RegGroup.ld, Part.reg RegGroup.stk, Part.stk]) :
    State.Stored q b (State.placeFail s n) := by
  unfold State.placeFail
  extract_lets +onlyGivenNames x; clear_value x
  extract_lets +onlyGivenNames x; refine (fun (hx : State.Stored q b x) => ?_) ?_ <;> [(try clear_value x); subst x]
  extract_lets +onlyGivenNames x; clear_value x
  extract_lets +onlyGivenNames x; refine (fun (hx : State.Stored q b x) => ?_) ?_ <;> [(try clear_value x); subst x]
  with_reducible apply stored_ite
  with_reducible apply State.flag_stored
  with_reducible apply State.put_stored
  with_reducible assumption
  exact kf.get rfl
  exact kf.get rfl
  split
  with_reducible apply stored_ite
  with_reducible apply State.descOpEnd_stored
  with_reducible assumption
  exact kf.sub rfl
  with_reducible assumption
  with_reducible assumption
  with_reducible apply State.setTask_stored
  with_reducible assumption
  exact kf.sub rfl
  with_reducible apply State.put_stored
  with_reducible apply State.put_stored
  with_reducible apply State.flag_stored
  with_reducible assumption
  exact kf.get rfl
  exact kf.get rfl
  exact kf.get rfl

theorem State.retire_stored {s : State} (hs : State.Stored q b s) (kf : b.free [Part.reg RegGroup.stk, Part.tiles, Part.stk]) :
    State.Stored q b (State.retire s) := by
  unfold State.retire
  extract_lets +onlyGivenNames x; clear_value x
  with_reducible apply stored_foldl
  intro _ _ _
  extract_lets +onlyGivenNames x; clear_value x
  extract_lets +onlyGivenNames x; clear_value x
  extract_lets +onlyGivenNames x; refine (fun (hx : State.Stored q b x) => ?_) ?_ <;> [(try clear_value x); subst x]
  extract_lets +onlyGivenNames x; refine (fun (hx : State.Stored q b x) => ?_) ?_ <;> [(try clear_value x); subst x]
  with_reducible apply stored_ite
  with_reducible apply State.setTask_stored
  with_reducible assumption
  exact kf.sub rfl
  with_reducible apply State.setTask_stored
  with_reducible apply State.wr_stored
  with_reducible apply State.unhold_stored
  with_reducible apply State.dropSlot_stored
  with_reducible assumption
  exact kf.sub rfl
  exact kf.sub rfl
  exact kf.get rfl
  exact kf.sub rfl
  with_reducible apply stored_ite
  with_reducible apply State.placeChanged_stored
  with_reducible assumption
  exact kf.sub rfl
  with_reducible assumption
  with_reducible apply stored_ite
  with_reducible apply State.queueDown_stored
  with_reducible assumption
  exact kf.sub rfl
  with_reducible assumption
  with_reducible assumption

theorem State.switchMoves_stored {s : State} (hs : State.Stored q b s) (kf : b.free [Part.reg RegGroup.stk, Part.mem, Part.loops, Part.tiles, Part.stk]) :
    State.Stored q b (State.switchMoves s) := by
  unfold State.switchMoves
  with_reducible apply stored_foldl
  intro _ _ _
  extract_lets +onlyGivenNames x; clear_value x
  extract_lets +onlyGivenNames x; clear_value x
  extract_lets +onlyGivenNames x; clear_value x
  extract_lets +onlyGivenNames x; clear_value x
  extract_lets +onlyGivenNames x; clear_value x
  extract_lets +onlyGivenNames x; clear_value x
  split
  extract_lets +onlyGivenNames x; refine (fun (hx : State.Stored q b x) => ?_) ?_ <;> [(try clear_value x); subst x]
  extract_lets +onlyGivenNames x; refine (fun (hx : State.Stored q b x) => ?_) ?_ <;> [(try clear_value x); subst x]
  extract_lets +onlyGivenNames x; clear_value x
  extract_lets +onlyGivenNames x; refine (fun (hx : State.Stored q b x) => ?_) ?_ <;> [(try clear_value x); subst x]
  extract_lets +onlyGivenNames x; clear_value x
  with_reducible apply stored_ite
  with_reducible apply State.setTask_stored
  with_reducible assumption
  exact kf.sub rfl
  with_reducible apply stored_ite
  with_reducible apply State.setLoop_stored
  with_reducible assumption
  exact kf.sub rfl
  with_reducible assumption
  with_reducible apply State.imageTo_stored
  with_reducible apply State.setTask_stored
  with_reducible apply State.put_stored
  with_reducible assumption
  exact kf.get rfl
  exact kf.sub rfl
  exact kf.sub rfl
  with_reducible apply stored_foldl
  intro _ _ _
  with_reducible apply State.copyBoth_stored
  with_reducible assumption
  exact kf.sub rfl
  with_reducible assumption
  with_reducible apply stored_foldl
  intro _ _ _
  with_reducible apply stored_foldl
  intro _ _ _
  with_reducible apply State.copyMem_stored
  with_reducible assumption
  exact kf.sub rfl
  with_reducible assumption
  with_reducible assumption
  with_reducible assumption
  with_reducible assumption

theorem State.reslot_stored {s : State} {h : Fin 8192} (hs : State.Stored q b s) (kf : b.free [Part.tiles]) :
    State.Stored q b (State.reslot s h) := by
  unfold State.reslot
  with_reducible apply stored_foldl
  intro _ _ _
  extract_lets +onlyGivenNames x; clear_value x
  split
  with_reducible apply stored_ite
  with_reducible apply State.setTile_stored
  with_reducible assumption
  exact kf.sub rfl
  with_reducible assumption
  with_reducible assumption
  with_reducible assumption

theorem State.switchBufs_stored {s : State} (hs : State.Stored q b s) (kf : b.free [Part.mem, Part.tiles, Part.stk]) :
    State.Stored q b (State.switchBufs s) := by
  unfold State.switchBufs
  with_reducible apply stored_foldl
  intro _ _ _
  extract_lets +onlyGivenNames x; clear_value x
  extract_lets +onlyGivenNames x; clear_value x
  extract_lets +onlyGivenNames x; clear_value x
  split
  extract_lets +onlyGivenNames x; refine (fun (hx : State.Stored q b x) => ?_) ?_ <;> [(try clear_value x); subst x]
  with_reducible apply stored_ite
  with_reducible assumption
  with_reducible apply State.reslot_stored
  with_reducible apply State.setBuf_stored
  with_reducible assumption
  exact kf.sub rfl
  exact kf.sub rfl
  with_reducible apply stored_foldl
  intro _ _ _
  with_reducible apply State.copyBoth_stored
  with_reducible assumption
  exact kf.sub rfl
  with_reducible assumption
  with_reducible assumption
  with_reducible assumption

theorem State.bumpGen_stored {s : State} (hs : State.Stored q b s) (kf : b.free [Part.reg RegGroup.stk]) :
    State.Stored q b (State.bumpGen s) := by
  unfold State.bumpGen
  with_reducible apply State.put_stored
  with_reducible assumption
  exact kf.get rfl

theorem State.rebalance_stored {s : State} (hs : State.Stored q b s) (kf : b.free [Part.reg RegGroup.stk, Part.fresh, Part.stk]) :
    State.Stored q b (State.rebalance s) := by
  have k_stk : b.keep .stk = false := kf.get rfl
  unfold State.rebalance
  extract_lets +onlyGivenNames x; clear_value x
  extract_lets +onlyGivenNames x; refine (fun (hx : State.Stored q b x) => ?_) ?_ <;> [(try clear_value x); subst x]
  extract_lets +onlyGivenNames x; refine (fun (hx : State.Stored q b x) => ?_) ?_ <;> [(try clear_value x); subst x]
  extract_lets +onlyGivenNames x; clear_value x
  with_reducible apply stored_ite
  split
  with_reducible apply State.flag_stored
  with_reducible assumption
  exact kf.get rfl
  extract_lets +onlyGivenNames x; clear_value x
  extract_lets +onlyGivenNames x; refine (fun (hx : State.Stored q b x) => ?_) ?_ <;> [(try clear_value x); subst x]
  with_reducible apply stored_ite
  with_reducible assumption
  with_reducible apply State.bumpGen_stored
  with_reducible assumption
  exact kf.sub rfl
  simp -zeta only [stored_mk, k_stk, or_true, true_or]
  with_reducible assumption
  with_reducible assumption
  with_reducible apply State.useFresh_stored
  with_reducible assumption
  exact kf.sub rfl
  simp -zeta only [stored_mk, k_stk, or_true, true_or]
  with_reducible assumption

theorem State.startMoves_stored {s : State} (hs : State.Stored q b s) (kf : b.free [Part.stk]) : State.Stored q b (State.startMoves s) := by
  have k_stk : b.keep .stk = false := kf.get rfl
  unfold State.startMoves
  extract_lets +onlyGivenNames x; clear_value x
  extract_lets +onlyGivenNames x; refine (fun (hx : State.Stored q b x) => ?_) ?_ <;> [(try clear_value x); subst x]
  extract_lets +onlyGivenNames x; clear_value x
  with_reducible apply stored_ite
  with_reducible assumption
  simp -zeta only [stored_mk, k_stk, or_true, true_or]
  with_reducible assumption
  with_reducible apply stored_foldl
  intro _ _ _
  extract_lets +onlyGivenNames x; clear_value x
  with_reducible apply State.setTask_stored
  with_reducible assumption
  exact kf.sub rfl
  with_reducible assumption

theorem State.closeEnable_stored {s : State} {n : Fin 4096} (hs : State.Stored q b s) (kf : b.free (postParts ++ [Part.reg RegGroup.stk, Part.stk])) :
    State.Stored q b (State.closeEnable s n) := by
  unfold State.closeEnable
  split
  with_reducible apply stored_ite
  with_reducible apply State.wakeOf_stored
  with_reducible apply State.descOpEnd_stored
  with_reducible assumption
  exact kf.sub rfl
  exact kf.sub rfl
  with_reducible assumption
  with_reducible assumption

theorem State.failOrWait_stored {s : State} {bad : List (Fin 4096)} (hs : State.Stored q b s) (kf : b.free [Part.reg RegGroup.ld, Part.reg RegGroup.stk, Part.stk]) :
    State.Stored q b (State.failOrWait s bad) := by
  unfold State.failOrWait
  extract_lets +onlyGivenNames x; clear_value x
  extract_lets +onlyGivenNames x; clear_value x
  extract_lets +onlyGivenNames x; refine (fun (hx : State.Stored q b x) => ?_) ?_ <;> [(try clear_value x); subst x]
  with_reducible apply stored_foldl
  intro _ _ _
  with_reducible apply State.placeFail_stored
  with_reducible assumption
  exact kf.sub rfl
  with_reducible assumption
  with_reducible apply stored_ite
  with_reducible apply stored_foldl
  intro _ _ _
  extract_lets +onlyGivenNames x; subst x
  with_reducible apply stored_ite
  with_reducible assumption
  with_reducible apply State.setBuf_stored
  with_reducible assumption
  exact kf.sub rfl
  with_reducible assumption
  with_reducible assumption

theorem State.placeNew_stored {s : State} {k : Nat} (hs : State.Stored q b s) (kf : b.free (postParts ++ [Part.reg RegGroup.ld, Part.reg RegGroup.stk, Part.mem, Part.loops, Part.tiles, Part.stk])) :
    State.Stored q b (State.placeNew s k) := by
  unfold State.placeNew
  extract_lets +onlyGivenNames x; clear_value x
  extract_lets +onlyGivenNames x; clear_value x
  extract_lets +onlyGivenNames x; clear_value x
  extract_lets +onlyGivenNames x; refine (fun (hx : State.Stored q b x) => ?_) ?_ <;> [(try clear_value x); subst x]
  extract_lets +onlyGivenNames x; clear_value x
  simp -zeta only
  extract_lets +onlyGivenNames x; refine (fun (hx4 : ∀ y z, State.Stored q b y → State.Stored q b (x y z)) => ?_) ?_ <;> [(try clear_value x); subst x]
  extract_lets +onlyGivenNames x; refine (fun (hx : State.Stored q b x) => ?_) ?_ <;> [(try clear_value x); subst x]
  extract_lets +onlyGivenNames x; refine (fun (hx : State.Stored q b x) => ?_) ?_ <;> [(try clear_value x); subst x]
  extract_lets +onlyGivenNames x; clear_value x
  extract_lets +onlyGivenNames x; clear_value x
  extract_lets +onlyGivenNames x; refine (fun (hx : State.Stored q b x) => ?_) ?_ <;> [(try clear_value x); subst x]
  split
  with_reducible assumption
  split
  with_reducible assumption
  with_reducible apply stored_ite
  with_reducible apply State.placeChanged_stored
  with_reducible apply State.bumpGen_stored
  with_reducible apply stored_foldl
  intro _ _ _
  extract_lets +onlyGivenNames x; clear_value x
  with_reducible apply stored_ite
  with_reducible apply State.setTask_stored
  with_reducible assumption
  exact kf.sub rfl
  with_reducible assumption
  with_reducible assumption
  exact kf.sub rfl
  exact kf.sub rfl
  with_reducible apply State.failOrWait_stored
  with_reducible assumption
  exact kf.sub rfl
  with_reducible apply stored_ite
  with_reducible apply State.flag_stored
  with_reducible assumption
  exact kf.get rfl
  with_reducible assumption
  with_reducible apply stored_ite
  with_reducible apply State.flag_stored
  with_reducible assumption
  exact kf.get rfl
  with_reducible assumption
  with_reducible apply stored_ite
  with_reducible assumption
  with_reducible apply State.placeChanged_stored
  with_reducible apply State.bumpGen_stored
  with_reducible apply hx4
  with_reducible assumption
  exact kf.sub rfl
  exact kf.sub rfl
  intro _ _ _
  simp -zeta only
  with_reducible apply stored_foldl
  intro _ _ _
  with_reducible apply stored_ite
  with_reducible apply State.closeEnable_stored
  with_reducible apply State.placeTask_stored
  with_reducible assumption
  exact kf.sub rfl
  exact kf.sub rfl
  with_reducible assumption
  with_reducible assumption
  with_reducible apply stored_ite
  with_reducible assumption
  with_reducible apply stored_foldl
  intro _ _ _
  split
  with_reducible apply State.closeEnable_stored
  with_reducible apply State.placeTask_stored
  with_reducible assumption
  exact kf.sub rfl
  exact kf.sub rfl
  with_reducible assumption
  with_reducible assumption

theorem State.bistTasks_stored {s : State} (hs : State.Stored q b s) (kf : b.free [Part.reg RegGroup.stk, Part.mem, Part.tiles]) :
    State.Stored q b (State.bistTasks s) := by
  unfold State.bistTasks
  with_reducible apply stored_ite
  with_reducible apply stored_foldl
  intro _ _ _
  extract_lets +onlyGivenNames x; clear_value x
  with_reducible apply stored_ite
  with_reducible apply State.imageTo_stored
  with_reducible apply State.put_stored
  with_reducible apply State.put_stored
  with_reducible apply State.put_stored
  with_reducible apply State.put_stored
  with_reducible assumption
  exact kf.get rfl
  exact kf.get rfl
  exact kf.get rfl
  exact kf.get rfl
  exact kf.sub rfl
  with_reducible assumption
  with_reducible assumption
  with_reducible assumption

theorem State.tableOverruns_stored {s : State} {k : Nat} (hs : State.Stored q b s) (kf : b.free (postParts ++ [Part.reg RegGroup.stk, Part.stk])) :
    State.Stored q b (State.tableOverruns s k) := by
  unfold State.tableOverruns
  extract_lets +onlyGivenNames x; clear_value x
  with_reducible apply stored_foldl
  intro _ _ _
  with_reducible apply stored_foldl
  intro _ _ _
  extract_lets +onlyGivenNames x; clear_value x
  with_reducible apply stored_ite
  with_reducible apply State.setTask_stored
  with_reducible apply State.overrun_stored
  with_reducible assumption
  exact kf.sub rfl
  exact kf.sub rfl
  with_reducible assumption
  with_reducible assumption
  with_reducible assumption

theorem State.periodicReleases_stored {s : State} {k : Nat} (hs : State.Stored q b s) (kf : b.free (postParts ++ [Part.reg RegGroup.stk, Part.stk])) :
    State.Stored q b (State.periodicReleases s k) := by
  unfold State.periodicReleases
  extract_lets +onlyGivenNames x; clear_value x
  extract_lets +onlyGivenNames x; clear_value x
  with_reducible apply stored_foldl
  intro _ _ _
  with_reducible apply State.releaseOrDrop_stored
  with_reducible assumption
  exact kf.sub rfl
  with_reducible assumption

theorem State.stackEdge_stored {s : State} {k : Nat} (hs : State.Stored q b s) (kf : b.free (postParts ++ [Part.reg RegGroup.ld, Part.reg RegGroup.stk, Part.mem, Part.fresh, Part.loops, Part.tiles, Part.stk, Part.ic])) :
    State.Stored q b (State.stackEdge s k) := by
  have k_stk : b.keep .stk = false := kf.get rfl
  unfold State.stackEdge
  extract_lets +onlyGivenNames x; clear_value x
  extract_lets +onlyGivenNames x; refine (fun (hx : State.Stored q b x) => ?_) ?_ <;> [(try clear_value x); subst x]
  extract_lets +onlyGivenNames x; refine (fun (hx : State.Stored q b x) => ?_) ?_ <;> [(try clear_value x); subst x]
  extract_lets +onlyGivenNames x; refine (fun (hx : State.Stored q b x) => ?_) ?_ <;> [(try clear_value x); subst x]
  extract_lets +onlyGivenNames x; clear_value x
  extract_lets +onlyGivenNames x; refine (fun (hx : State.Stored q b x) => ?_) ?_ <;> [(try clear_value x); subst x]
  with_reducible apply State.icTimers_stored
  with_reducible apply State.periodicReleases_stored
  with_reducible apply State.tableOverruns_stored
  with_reducible apply State.showTiles_stored
  with_reducible assumption
  exact kf.sub rfl
  exact kf.sub rfl
  exact kf.sub rfl
  exact kf.sub rfl
  simp -zeta only [stored_mk, k_stk, or_true, true_or]
  with_reducible assumption
  with_reducible apply State.startMoves_stored
  with_reducible apply State.rebalance_stored
  with_reducible apply State.placeNew_stored
  with_reducible assumption
  exact kf.sub rfl
  exact kf.sub rfl
  exact kf.sub rfl
  with_reducible apply State.bistTasks_stored
  with_reducible apply State.retire_stored
  with_reducible apply State.descOpDone_stored
  with_reducible apply State.bufOpDone_stored
  with_reducible apply State.switchBufs_stored
  with_reducible apply State.switchMoves_stored
  with_reducible assumption
  exact kf.sub rfl
  exact kf.sub rfl
  exact kf.sub rfl
  exact kf.sub rfl
  exact kf.sub rfl
  exact kf.sub rfl
  simp -zeta only [stored_mk, k_stk, or_true, true_or]
  with_reducible assumption

theorem State.stackRestart_stored {s : State} (hs : State.Stored q b s) (kf : b.free [Part.stk]) : State.Stored q b (State.stackRestart s) := by
  have k_stk : b.keep .stk = false := kf.get rfl
  unfold State.stackRestart
  extract_lets +onlyGivenNames x; clear_value x
  simp -zeta only [stored_mk, k_stk, or_true, true_or]
  with_reducible assumption

theorem State.showSlew_stored {s : State} (hs : State.Stored q b s) (kf : b.free [Part.reg RegGroup.tb]) :
    State.Stored q b (State.showSlew s) := by
  unfold State.showSlew
  with_reducible apply State.putB_stored
  with_reducible assumption
  exact kf.get rfl

theorem State.requestRate_stored {s : State} {x : Int} (hs : State.Stored q b s) (kf : b.free [Part.reg RegGroup.tb, Part.time]) :
    State.Stored q b (State.requestRate s x) := by
  have k_time : b.keep .time = false := kf.get rfl
  unfold State.requestRate
  extract_lets +onlyGivenNames x; clear_value x
  extract_lets +onlyGivenNames x; refine (fun (hx : State.Stored q b x) => ?_) ?_ <;> [(try clear_value x); subst x]
  extract_lets +onlyGivenNames x; clear_value x
  with_reducible apply State.showSlew_stored
  simp -zeta only [stored_mk, k_time, or_true, true_or]
  with_reducible assumption
  exact kf.sub rfl
  with_reducible apply stored_ite
  with_reducible assumption
  with_reducible apply State.flag_stored
  with_reducible assumption
  exact kf.get rfl

theorem State.slewTo_stored {s : State} {x : Int} (hs : State.Stored q b s) (kf : b.free [Part.reg RegGroup.tb]) :
    State.Stored q b (State.slewTo s x) := by
  unfold State.slewTo
  extract_lets +onlyGivenNames x; clear_value x
  with_reducible apply State.wr_stored
  with_reducible assumption
  exact kf.get rfl

theorem State.rateStep_stored {s : State} (hs : State.Stored q b s) (kf : b.free [Part.reg RegGroup.tb, Part.fresh, Part.time]) :
    State.Stored q b (State.rateStep s) := by
  have k_time : b.keep .time = false := kf.get rfl
  unfold State.rateStep
  extract_lets +onlyGivenNames x; refine (fun (hx : State.Stored q b x) => ?_) ?_ <;> [(try clear_value x); subst x]
  extract_lets +onlyGivenNames x; clear_value x
  extract_lets +onlyGivenNames x; clear_value x
  with_reducible apply stored_ite
  with_reducible apply State.showSlew_stored
  with_reducible assumption
  exact kf.sub rfl
  with_reducible apply stored_ite
  with_reducible apply State.showSlew_stored
  simp -zeta only [stored_mk, k_time, or_true, true_or]
  with_reducible assumption
  exact kf.sub rfl
  with_reducible apply State.showSlew_stored
  with_reducible apply State.slewTo_stored
  with_reducible assumption
  exact kf.sub rfl
  exact kf.sub rfl
  with_reducible apply State.useFresh_stored
  with_reducible apply State.slewTo_stored
  with_reducible assumption
  exact kf.sub rfl
  exact kf.sub rfl

theorem State.stepKnown_stored {s : State} {x : Int} {at_ : Time} {next : Nat} (hs : State.Stored q b s) (kf : b.free [Part.time]) :
    State.Stored q b (State.stepKnown s x at_ next) := by
  have k_time : b.keep .time = false := kf.get rfl
  unfold State.stepKnown
  extract_lets +onlyGivenNames x; clear_value x
  extract_lets +onlyGivenNames x; clear_value x
  simp -zeta only [stored_mk, k_time, or_true, true_or]
  with_reducible assumption

theorem State.stopPulse_stored {s : State} {n : Fin 8} (hs : State.Stored q b s) (kf : b.free [Part.reg RegGroup.tpo, Part.pulses]) :
    State.Stored q b (State.stopPulse s n) := by
  have k_pulses : b.keep .pulses = false := kf.get rfl
  unfold State.stopPulse
  split
  with_reducible assumption
  with_reducible apply State.flag_stored
  with_reducible apply State.put_stored
  simp -zeta only [stored_mk, k_pulses, or_true, true_or]
  with_reducible assumption
  exact kf.get rfl
  exact kf.get rfl

theorem execTimeStep_stored {s : State} (hs : State.Stored q b s) (kf : b.free (postParts ++ [Part.reg RegGroup.tb, Part.reg RegGroup.tpo, Part.now, Part.time, Part.pulses])) :
    answers (execTimeStep s) (State.Stored q b) := by
  have k_time : b.keep .time = false := kf.get rfl
  unfold execTimeStep
  split
  with_reducible apply answers_next
  with_reducible assumption
  extract_lets +onlyGivenNames x; refine (fun (hx : State.Stored q b x) => ?_) ?_ <;> [(try clear_value x); subst x]
  extract_lets +onlyGivenNames x; clear_value x
  extract_lets +onlyGivenNames x; refine (fun (hx : State.Stored q b x) => ?_) ?_ <;> [(try clear_value x); subst x]
  extract_lets +onlyGivenNames x; refine (fun (hx : State.Stored q b x) => ?_) ?_ <;> [(try clear_value x); subst x]
  extract_lets +onlyGivenNames x; refine (fun (hx : State.Stored q b x) => ?_) ?_ <;> [(try clear_value x); subst x]
  with_reducible apply answers_ite
  with_reducible apply answers_next
  with_reducible assumption
  with_reducible apply answers_next
  with_reducible apply State.post_stored
  with_reducible assumption
  exact kf.sub rfl
  with_reducible apply State.put_stored
  with_reducible assumption
  exact kf.get rfl
  with_reducible apply stored_foldl
  intro _ _ _
  with_reducible apply State.stopPulse_stored
  with_reducible assumption
  exact kf.sub rfl
  with_reducible assumption
  simp -zeta only [stored_mk, k_time, or_true, true_or]
  with_reducible assumption
  with_reducible apply State.advance_stored
  with_reducible assumption
  exact kf.sub rfl

theorem execTimeSetAccept_stored {s : State} (hs : State.Stored q b s) (kf :
    b.free [Part.reg RegGroup.tb, Part.time]) :
  answers (execTimeSetAccept s) (State.Stored q b) := by
  unfold execTimeSetAccept
  split
  · exact hs
  · extract_lets src t
    have k1 : b.keep .time = false := kf.get rfl
    have h : State.Stored q b t := by
      dsimp only [t]
      simp only [stored_mk, k1, or_true, true_or]
      exact hs
    exact answers_ite (answers_next (State.stepKnown_stored h (kf.sub rfl))) (answers_next (State.flag_stored h (kf.get rfl)))

theorem State.writeRate_stored {s : State} {v : Word} (hs : State.Stored q b s) (kf : b.free [Part.reg RegGroup.tb, Part.time]) :
    State.Stored q b (State.writeRate s v) := by
  unfold State.writeRate
  with_reducible apply stored_ite
  with_reducible apply State.requestRate_stored
  with_reducible apply State.wr_stored
  with_reducible assumption
  exact kf.get rfl
  exact kf.sub rfl
  with_reducible apply State.flag_stored
  with_reducible assumption
  exact kf.get rfl

theorem execTbRateWrite_stored {v : Word} {s : State} (hs : State.Stored q b s) (kf : b.free [Part.reg RegGroup.tb, Part.time]) :
    answers (execTbRateWrite v s) (State.Stored q b) := by
  unfold execTbRateWrite
  with_reducible apply answers_next
  with_reducible apply State.writeRate_stored
  with_reducible assumption
  exact kf.sub rfl

theorem State.writeSource_stored {s : State} {src : Nat} (hs : State.Stored q b s) (kf : b.free [Part.reg RegGroup.tb, Part.time, Part.chain]) :
    State.Stored q b (State.writeSource s src) := by
  unfold State.writeSource
  with_reducible apply stored_ite
  with_reducible assumption
  with_reducible apply State.reacquire_stored
  with_reducible apply State.put_stored
  with_reducible assumption
  exact kf.get rfl
  exact kf.sub rfl

theorem execTbSourceWrite_stored {src : Fin 4} {s : State} (hs : State.Stored q b s) (kf : b.free [Part.reg RegGroup.tb, Part.time, Part.chain]) :
    answers (execTbSourceWrite src s) (State.Stored q b) := by
  unfold execTbSourceWrite
  with_reducible apply answers_next
  with_reducible apply State.writeSource_stored
  with_reducible assumption
  exact kf.sub rfl

theorem State.offsetMeasured_stored {s : State} {o : Int} (hs : State.Stored q b s) (kf : b.free [Part.reg RegGroup.tb, Part.time, Part.chain]) :
    State.Stored q b (State.offsetMeasured s o) := by
  have k_time : b.keep .time = false := kf.get rfl
  unfold State.offsetMeasured
  extract_lets +onlyGivenNames x; refine (fun (hx : State.Stored q b x) => ?_) ?_ <;> [(try clear_value x); subst x]
  extract_lets +onlyGivenNames x; clear_value x
  extract_lets +onlyGivenNames x; clear_value x
  extract_lets +onlyGivenNames x; refine (fun (hx : State.Stored q b x) => ?_) ?_ <;> [(try clear_value x); subst x]
  with_reducible apply stored_ite
  with_reducible assumption
  with_reducible apply stored_ite
  with_reducible apply stored_ite
  with_reducible apply State.stepKnown_stored
  with_reducible assumption
  exact kf.sub rfl
  with_reducible assumption
  with_reducible apply stored_ite
  with_reducible apply stored_ite
  with_reducible apply State.put_stored
  with_reducible assumption
  exact kf.get rfl
  with_reducible assumption
  with_reducible apply State.reacquire_stored
  with_reducible assumption
  exact kf.sub rfl
  simp -zeta only [stored_mk, k_time, or_true, true_or]
  with_reducible assumption
  with_reducible apply State.wr_stored
  with_reducible assumption
  exact kf.get rfl

theorem State.servo_stored {s : State} {o : Int} (hs : State.Stored q b s) (kf : b.free [Part.reg RegGroup.tb, Part.fresh, Part.time]) :
    State.Stored q b (State.servo s o) := by
  unfold State.servo
  with_reducible apply stored_ite
  with_reducible apply State.useFresh_stored
  with_reducible apply State.requestRate_stored
  with_reducible assumption
  exact kf.sub rfl
  exact kf.sub rfl
  with_reducible assumption

theorem State.ethSendAll_stored {s : State} {p : Fin 4} {xs : List EthSent} (hs : State.Stored q b s) (kf : b.free [Part.reg RegGroup.eth, Part.eth]) :
    State.Stored q b (State.ethSendAll s p xs) := by
  have k_eth : b.keep .eth = false := kf.get rfl
  unfold State.ethSendAll
  extract_lets +onlyGivenNames x; clear_value x
  with_reducible apply stored_foldl
  intro _ _ _
  with_reducible apply State.count_stored
  with_reducible assumption
  exact kf.get rfl
  simp -zeta only [stored_mk, k_eth, or_true, true_or]
  with_reducible assumption

theorem State.ptpOffset_stored {s : State} {p : Fin 4} (hs : State.Stored q b s) (kf : b.free [Part.reg RegGroup.tb, Part.fresh, Part.time, Part.chain]) :
    State.Stored q b (s.ptpOffset p) := by
  have k1 : b.keep .time = false := kf.get rfl
  unfold State.ptpOffset
  extract_lets x src u
  split
  · extract_lets o
    have h : State.Stored q b u := by
      dsimp only [u]
      simp only [stored_mk, k1, or_true, true_or]
      exact hs
    exact stored_ite (State.servo_stored (State.offsetMeasured_stored h (kf.sub rfl)) (kf.sub rfl)) h
  · exact hs

theorem State.setPtp_stored {s : State} {p : Fin 4} {q_ : PtpPort} (hs : State.Stored q b s) (kf : b.free [Part.time]) :
    State.Stored q b (State.setPtp s p q_) := by
  have k_time : b.keep .time = false := kf.get rfl
  unfold State.setPtp
  extract_lets +onlyGivenNames x; clear_value x
  simp -zeta only [stored_mk, k_time, or_true, true_or]
  with_reducible assumption

theorem State.syncDone_stored {s : State} {p : Fin 4} {t1 : Int} {t2 : Int} (hs : State.Stored q b s) (kf : b.free [Part.reg RegGroup.tb, Part.fresh, Part.time, Part.chain]) :
    State.Stored q b (State.syncDone s p t1 t2) := by
  unfold State.syncDone
  extract_lets +onlyGivenNames x; clear_value x
  with_reducible apply State.ptpOffset_stored
  with_reducible apply State.setPtp_stored
  with_reducible assumption
  exact kf.sub rfl
  exact kf.sub rfl

theorem State.ptpAnnounce_stored {s : State} {p : Fin 4} {h : PtpHdr} {rank : Nat} {utc : Nat} {valid : Bool} {l61 : Bool} {l59 : Bool} (hs : State.Stored q b s) (kf : b.free [Part.reg RegGroup.tb, Part.time]) :
    State.Stored q b (State.ptpAnnounce s p h rank utc valid l61 l59) := by
  have k_time : b.keep .time = false := kf.get rfl
  unfold State.ptpAnnounce
  extract_lets +onlyGivenNames x; clear_value x
  extract_lets +onlyGivenNames x; clear_value x
  extract_lets +onlyGivenNames x; refine (fun (hx : State.Stored q b x) => ?_) ?_ <;> [(try clear_value x); subst x]
  with_reducible apply stored_ite
  with_reducible apply State.putB_stored
  with_reducible apply State.putB_stored
  with_reducible apply State.putB_stored
  with_reducible apply State.put_stored
  with_reducible assumption
  exact kf.get rfl
  exact kf.get rfl
  exact kf.get rfl
  exact kf.get rfl
  with_reducible assumption
  with_reducible apply stored_ite
  with_reducible assumption
  simp -zeta only [stored_mk, k_time, or_true, true_or]
  with_reducible assumption

theorem State.ptpRx_stored {s : State} {p : Fin 4} {h : PtpHdr} {m : PtpMsg} {stamp : Int} (hs : State.Stored q b s) (kf : b.free [Part.reg RegGroup.tb, Part.reg RegGroup.eth, Part.fresh, Part.time, Part.eth, Part.chain]) :
    State.Stored q b (State.ptpRx s p h m stamp) := by
  unfold State.ptpRx
  extract_lets +onlyGivenNames x; clear_value x
  extract_lets +onlyGivenNames x; refine (fun (hx4 : ∀ y z, State.Stored q b y → State.Stored q b (x y z)) => ?_) ?_ <;> [(try clear_value x); subst x]
  with_reducible apply stored_ite
  with_reducible assumption
  split
  with_reducible apply stored_ite
  with_reducible assumption
  split
  with_reducible apply State.syncDone_stored
  with_reducible assumption
  exact kf.sub rfl
  with_reducible apply State.setPtp_stored
  with_reducible assumption
  exact kf.sub rfl
  split
  with_reducible apply stored_ite
  with_reducible apply State.syncDone_stored
  with_reducible assumption
  exact kf.sub rfl
  with_reducible assumption
  with_reducible assumption
  with_reducible apply stored_ite
  with_reducible apply hx4
  with_reducible apply State.setPtp_stored
  with_reducible assumption
  exact kf.sub rfl
  with_reducible assumption
  split
  with_reducible apply State.ptpOffset_stored
  with_reducible apply State.setPtp_stored
  with_reducible assumption
  exact kf.sub rfl
  exact kf.sub rfl
  with_reducible assumption
  with_reducible apply hx4
  with_reducible assumption
  split
  with_reducible apply State.ptpOffset_stored
  with_reducible apply State.setPtp_stored
  with_reducible assumption
  exact kf.sub rfl
  exact kf.sub rfl
  with_reducible assumption
  with_reducible apply stored_ite
  with_reducible apply State.ptpAnnounce_stored
  with_reducible assumption
  exact kf.sub rfl
  with_reducible assumption
  with_reducible apply hx4
  with_reducible assumption
  with_reducible assumption
  intro _ _ _
  simp -zeta only
  with_reducible apply State.ethSendAll_stored
  with_reducible assumption
  exact kf.sub rfl

theorem execPtpSourceLost_stored {s : State} (hs : State.Stored q b s) (kf :
    b.free [Part.reg RegGroup.tb, Part.time, Part.chain]) :
  answers (execPtpSourceLost s) (State.Stored q b) := by
  unfold execPtpSourceLost
  extract_lets lost src t
  have k1 : b.keep .time = false := kf.get rfl
  have h : State.Stored q b t := by
    dsimp only [t]
    simp only [stored_mk, k1, or_true, true_or]
    exact hs
  exact answers_ite (answers_next (State.toHoldover_stored h (kf.sub rfl))) (answers_next h)

theorem execPtpSyncTx_stored {p : Fin 4} {s : State} (hs : State.Stored q b s) (kf : b.free [Part.reg RegGroup.eth, Part.time, Part.eth]) :
    answers (execPtpSyncTx p s) (State.Stored q b) := by
  unfold execPtpSyncTx
  extract_lets +onlyGivenNames x; clear_value x
  extract_lets +onlyGivenNames x; clear_value x
  extract_lets +onlyGivenNames x; refine (fun (hx : State.Stored q b x) => ?_) ?_ <;> [(try clear_value x); subst x]
  extract_lets +onlyGivenNames x; clear_value x
  with_reducible apply answers_ite
  with_reducible apply answers_next
  with_reducible apply State.ethSendAll_stored
  with_reducible assumption
  exact kf.sub rfl
  with_reducible apply answers_next
  with_reducible assumption
  with_reducible apply State.setPtp_stored
  with_reducible assumption
  exact kf.sub rfl

theorem execPtpDelayReqTx_stored {p : Fin 4} {peer : Bool} {s : State} (hs : State.Stored q b s) (kf : b.free [Part.reg RegGroup.eth, Part.time, Part.eth]) :
    answers (execPtpDelayReqTx p peer s) (State.Stored q b) := by
  unfold execPtpDelayReqTx
  extract_lets +onlyGivenNames x; clear_value x
  extract_lets +onlyGivenNames x; clear_value x
  extract_lets +onlyGivenNames x; refine (fun (hx : State.Stored q b x) => ?_) ?_ <;> [(try clear_value x); subst x]
  with_reducible apply answers_ite
  with_reducible apply answers_next
  with_reducible apply State.ethSendAll_stored
  with_reducible assumption
  exact kf.sub rfl
  with_reducible apply answers_next
  with_reducible assumption
  with_reducible apply State.setPtp_stored
  with_reducible assumption
  exact kf.sub rfl

theorem execTcapEdge_stored {n : Fin 8} {rise : Bool} {t_ : Nat} {s : State} (hs : State.Stored q b s) (kf : b.free (postParts ++ [Part.reg RegGroup.tcap, Part.now, Part.caps])) :
    answers (execTcapEdge n rise t_ s) (State.Stored q b) := by
  have k_caps : b.keep .caps = false := kf.get rfl
  unfold execTcapEdge
  extract_lets +onlyGivenNames x; refine (fun (hx : State.Stored q b x) => ?_) ?_ <;> [(try clear_value x); subst x]
  extract_lets +onlyGivenNames x; clear_value x
  extract_lets +onlyGivenNames x; clear_value x
  extract_lets +onlyGivenNames x; clear_value x
  extract_lets +onlyGivenNames x; refine (fun (hx : State.Stored q b x) => ?_) ?_ <;> [(try clear_value x); subst x]
  with_reducible apply answers_ite
  with_reducible apply answers_ite
  with_reducible apply answers_next
  with_reducible apply State.postAt_stored
  with_reducible assumption
  exact kf.sub rfl
  with_reducible apply answers_next
  with_reducible assumption
  with_reducible apply answers_next
  with_reducible assumption
  with_reducible apply stored_ite
  with_reducible apply State.bump_stored
  with_reducible assumption
  exact kf.get rfl
  simp -zeta only [stored_mk, k_caps, or_true, true_or]
  with_reducible assumption
  with_reducible apply State.advance_stored
  with_reducible assumption
  exact kf.sub rfl

theorem State.capRead_stored {s : State} {n : Fin 8} (hs : State.Stored q b s) (kf : b.free [Part.reg RegGroup.tcap, Part.rdata, Part.caps]) :
    State.Stored q b (State.capRead s n) := by
  have k_caps : b.keep .caps = false := kf.get rfl
  unfold State.capRead
  split
  with_reducible apply State.answer_stored
  with_reducible apply State.wr_stored
  with_reducible assumption
  exact kf.get rfl
  exact kf.sub rfl
  extract_lets +onlyGivenNames x; refine (fun (hx : State.Stored q b x) => ?_) ?_ <;> [(try clear_value x); subst x]
  extract_lets +onlyGivenNames x; refine (fun (hx : State.Stored q b x) => ?_) ?_ <;> [(try clear_value x); subst x]
  extract_lets +onlyGivenNames x; refine (fun (hx : State.Stored q b x) => ?_) ?_ <;> [(try clear_value x); subst x]
  extract_lets +onlyGivenNames x; refine (fun (hx : State.Stored q b x) => ?_) ?_ <;> [(try clear_value x); subst x]
  with_reducible apply State.answer_stored
  with_reducible assumption
  exact kf.sub rfl
  with_reducible apply State.wr_stored
  with_reducible assumption
  exact kf.get rfl
  with_reducible apply State.wr_stored
  with_reducible assumption
  exact kf.get rfl
  with_reducible apply State.wr_stored
  with_reducible apply State.wr_stored
  with_reducible assumption
  exact kf.get rfl
  exact kf.get rfl
  simp -zeta only [stored_mk, k_caps, or_true, true_or]
  with_reducible assumption

theorem execTcapHeadRead_stored {n : Fin 8} {s : State} (hs : State.Stored q b s) (kf : b.free [Part.reg RegGroup.tcap, Part.rdata, Part.caps]) :
    answers (execTcapHeadRead n s) (State.Stored q b) := by
  unfold execTcapHeadRead
  with_reducible apply answers_next
  with_reducible apply State.capRead_stored
  with_reducible assumption
  exact kf.sub rfl

theorem execTbNowRead_stored {s : State} (hs : State.Stored q b s) (kf : b.free [Part.reg RegGroup.tb, Part.rdata]) :
    answers (execTbNowRead s) (State.Stored q b) := by
  unfold execTbNowRead
  extract_lets +onlyGivenNames x; clear_value x
  with_reducible apply answers_next
  with_reducible apply State.answer_stored
  with_reducible apply State.wr_stored
  with_reducible apply State.wr_stored
  with_reducible apply State.wr_stored
  with_reducible assumption
  exact kf.get rfl
  exact kf.get rfl
  exact kf.get rfl
  exact kf.sub rfl

theorem State.tpoArm_stored {s : State} {n : Fin 8} {on : Bool} (hs : State.Stored q b s) (kf : b.free [Part.reg RegGroup.tpo, Part.pulses]) :
    State.Stored q b (State.tpoArm s n on) := by
  have k_pulses : b.keep .pulses = false := kf.get rfl
  unfold State.tpoArm
  with_reducible apply stored_ite
  with_reducible apply stored_ite
  with_reducible apply State.put_stored
  with_reducible assumption
  exact kf.get rfl
  with_reducible apply State.flag_stored
  with_reducible assumption
  exact kf.get rfl
  with_reducible apply State.put_stored
  with_reducible apply State.put_stored
  simp -zeta only [stored_mk, k_pulses, or_true, true_or]
  with_reducible assumption
  exact kf.get rfl
  exact kf.get rfl

theorem execTpoArmWrite_stored {n : Fin 8} {on : Bool} {s : State} (hs : State.Stored q b s) (kf : b.free [Part.reg RegGroup.tpo, Part.pulses]) :
    answers (execTpoArmWrite n on s) (State.Stored q b) := by
  unfold execTpoArmWrite
  with_reducible apply answers_next
  with_reducible apply State.tpoArm_stored
  with_reducible assumption
  exact kf.sub rfl

theorem State.tpoCommit_stored {s : State} {n : Fin 8} {p : Pulse} {c : Nat} (hs : State.Stored q b s) (kf : b.free (postParts ++ [Part.reg RegGroup.tpo, Part.pulses])) :
    State.Stored q b (State.tpoCommit s n p c) := by
  have k_pulses : b.keep .pulses = false := kf.get rfl
  unfold State.tpoCommit
  extract_lets +onlyGivenNames x; refine (fun (hx : State.Stored q b x) => ?_) ?_ <;> [(try clear_value x); subst x]
  extract_lets +onlyGivenNames x; clear_value x
  extract_lets +onlyGivenNames x; refine (fun (hx5 : ∀ y z, State.Stored q b z → State.Stored q b (x y z)) => ?_) ?_ <;> [(try clear_value x); subst x]
  extract_lets +onlyGivenNames x; refine (fun (hx3 : ∀ y, State.Stored q b y → State.Stored q b (x y)) => ?_) ?_ <;> [(try clear_value x); subst x]
  extract_lets +onlyGivenNames x; clear_value x
  extract_lets +onlyGivenNames x; refine (fun (hx : State.Stored q b x) => ?_) ?_ <;> [(try clear_value x); subst x]
  with_reducible apply stored_ite
  with_reducible apply hx5
  with_reducible assumption
  with_reducible apply stored_ite
  with_reducible apply stored_ite
  with_reducible apply hx3
  with_reducible assumption
  with_reducible apply hx5
  with_reducible assumption
  with_reducible apply State.post_stored
  with_reducible apply State.flag_stored
  with_reducible apply hx3
  with_reducible assumption
  exact kf.get rfl
  exact kf.sub rfl
  with_reducible apply State.flag_stored
  with_reducible assumption
  exact kf.get rfl
  intro _ _
  simp -zeta only
  with_reducible apply State.put_stored
  simp -zeta only [stored_mk, k_pulses, or_true, true_or]
  with_reducible assumption
  exact kf.get rfl
  intro _ _ _
  simp -zeta only
  with_reducible apply State.put_stored
  simp -zeta only [stored_mk, k_pulses, or_true, true_or]
  with_reducible assumption
  exact kf.get rfl
  with_reducible apply State.wr_stored
  with_reducible assumption
  exact kf.get rfl

theorem State.tpoGo_stored {s : State} {n : Fin 8} (hs : State.Stored q b s) (kf : b.free (postParts ++ [Part.reg RegGroup.tpo, Part.pulses])) :
    State.Stored q b (State.tpoGo s n) := by
  have k_pulses : b.keep .pulses = false := kf.get rfl
  unfold State.tpoGo
  extract_lets +onlyGivenNames x; clear_value x
  extract_lets +onlyGivenNames x; clear_value x
  with_reducible apply stored_ite
  with_reducible apply stored_ite
  with_reducible apply stored_ite
  simp -zeta only [stored_mk, k_pulses, or_true, true_or]
  with_reducible assumption
  with_reducible apply State.tpoCommit_stored
  with_reducible assumption
  exact kf.sub rfl
  with_reducible apply State.flag_stored
  with_reducible assumption
  exact kf.get rfl
  with_reducible assumption

theorem execTpoGo_stored {n : Fin 8} {s : State} (hs : State.Stored q b s) (kf : b.free (postParts ++ [Part.reg RegGroup.tpo, Part.pulses])) :
    answers (execTpoGo n s) (State.Stored q b) := by
  unfold execTpoGo
  with_reducible apply answers_next
  with_reducible apply State.tpoGo_stored
  with_reducible assumption
  exact kf.sub rfl

theorem execTpoEdge_stored {n : Fin 8} {s : State} (hs : State.Stored q b s) (kf : b.free (postParts ++ [Part.reg RegGroup.tpo, Part.now, Part.pulses])) :
    answers (execTpoEdge n s) (State.Stored q b) := by
  have k_pulses : b.keep .pulses = false := kf.get rfl
  unfold execTpoEdge
  extract_lets +onlyGivenNames x; clear_value x
  split
  with_reducible apply answers_next
  with_reducible assumption
  extract_lets +onlyGivenNames x; refine (fun (hx : State.Stored q b x) => ?_) ?_ <;> [(try clear_value x); subst x]
  extract_lets +onlyGivenNames x; refine (fun (hx : State.Stored q b x) => ?_) ?_ <;> [(try clear_value x); subst x]
  extract_lets +onlyGivenNames x; refine (fun (hx : State.Stored q b x) => ?_) ?_ <;> [(try clear_value x); subst x]
  with_reducible apply answers_ite
  split
  with_reducible apply answers_next
  with_reducible apply State.tpoCommit_stored
  simp -zeta only [stored_mk, k_pulses, or_true, true_or]
  with_reducible assumption
  exact kf.sub rfl
  with_reducible apply answers_ite
  with_reducible apply answers_next
  with_reducible apply State.flag_stored
  with_reducible apply State.put_stored
  simp -zeta only [stored_mk, k_pulses, or_true, true_or]
  with_reducible assumption
  exact kf.get rfl
  exact kf.get rfl
  with_reducible apply answers_next
  simp -zeta only [stored_mk, k_pulses, or_true, true_or]
  with_reducible assumption
  with_reducible apply answers_next
  simp -zeta only [stored_mk, k_pulses, or_true, true_or]
  with_reducible assumption
  with_reducible apply State.advance_stored
  with_reducible assumption
  exact kf.sub rfl
  with_reducible apply State.count_stored
  with_reducible assumption
  exact kf.get rfl
  with_reducible apply State.advance_stored
  with_reducible assumption
  exact kf.sub rfl

end Sys2Proof.Machine
end

