-- ==== Sys2Proof/Laws/StoredNet.lean ====
section
/-! SUPPORT. One lemma per operation: Signet, Ethernet, the safety island, the Chain and Clasp keep what `State.Stored`
says: the queue, canonical memory and flash, OTP bits, time, and every part of the state that the operation does not name. -/

namespace Sys2Proof.Machine

open Sys2Proof

variable {q : List Instr} {b : Kept}

theorem State.setConn_stored {s : State} {c : Fin 64} {x : SignetConn} (hs : State.Stored q b s) (kf : b.free [Part.si]) :
    State.Stored q b (State.setConn s c x) := by
  have k_si : b.keep .si = false := kf.get rfl
  unfold State.setConn
  extract_lets +onlyGivenNames x; clear_value x
  simp -zeta only [stored_mk, k_si, or_true, true_or]
  with_reducible assumption

theorem State.signetCopy_stored {s : State} {x : TelegramCopy} (hs : State.Stored q b s) (kf : b.free [Part.si]) :
    State.Stored q b (State.signetCopy s x) := by
  have k_si : b.keep .si = false := kf.get rfl
  unfold State.signetCopy
  extract_lets +onlyGivenNames x; clear_value x
  extract_lets +onlyGivenNames x; clear_value x
  with_reducible apply stored_ite
  simp -zeta only [stored_mk, k_si, or_true, true_or]
  with_reducible assumption
  simp -zeta only [stored_mk, k_si, or_true, true_or]
  with_reducible assumption

theorem execSignetTelegramRx_stored {t_ : Nat} {s : State} (hs : State.Stored q b s) (kf : b.free (postParts ++ [Part.now, Part.si])) :
    answers (execSignetTelegramRx t_ s) (State.Stored q b) := by
  have k_si : b.keep .si = false := kf.get rfl
  unfold execSignetTelegramRx
  extract_lets +onlyGivenNames x; clear_value x
  simp -zeta only
  split
  with_reducible apply answers_next
  with_reducible assumption
  extract_lets +onlyGivenNames x; refine (fun (hx : State.Stored q b x) => ?_) ?_ <;> [(try clear_value x); subst x]
  extract_lets +onlyGivenNames x; clear_value x
  split
  with_reducible apply answers_next
  simp -zeta only [stored_mk, k_si, or_true, true_or]
  with_reducible assumption
  extract_lets +onlyGivenNames x; clear_value x
  split
  with_reducible apply answers_next
  with_reducible assumption
  extract_lets +onlyGivenNames x; refine (fun (hx : State.Stored q b x) => ?_) ?_ <;> [(try clear_value x); subst x]
  split
  with_reducible apply answers_next
  with_reducible apply State.post_stored
  with_reducible assumption
  exact kf.sub rfl
  with_reducible apply answers_next
  with_reducible assumption
  with_reducible apply State.setConn_stored
  with_reducible assumption
  exact kf.sub rfl
  with_reducible apply State.advance_stored
  simp -zeta only [stored_mk, k_si, or_true, true_or]
  with_reducible assumption
  exact kf.sub rfl

theorem State.rejudge_stored {s : State} {c : Fin 64} {f : SignetRec → SignetConn → SignetConn} (hs : State.Stored q b s) (kf : b.free [Part.si]) :
    State.Stored q b (State.rejudge s c f) := by
  have k_si : b.keep .si = false := kf.get rfl
  unfold State.rejudge
  split
  with_reducible assumption
  extract_lets +onlyGivenNames x; refine (fun (hx : State.Stored q b x) => ?_) ?_ <;> [(try clear_value x); subst x]
  extract_lets +onlyGivenNames x; clear_value x
  split
  simp -zeta only [stored_mk, k_si, or_true, true_or]
  with_reducible assumption
  with_reducible assumption
  with_reducible apply State.setConn_stored
  with_reducible assumption
  exact kf.sub rfl

theorem execSignetWatchdogExpiry_stored {c : Fin 64} {s : State} (hs : State.Stored q b s) (kf : b.free [Part.si]) :
    answers (execSignetWatchdogExpiry c s) (State.Stored q b) := by
  unfold execSignetWatchdogExpiry
  split
  with_reducible apply answers_next
  with_reducible apply State.rejudge_stored
  with_reducible assumption
  exact kf.sub rfl
  with_reducible apply answers_next
  with_reducible assumption

theorem execSignetDegradedExpiry_stored {c : Fin 64} {s : State} (hs : State.Stored q b s) (kf : b.free [Part.si]) :
    answers (execSignetDegradedExpiry c s) (State.Stored q b) := by
  unfold execSignetDegradedExpiry
  split
  with_reducible apply answers_next
  with_reducible apply State.rejudge_stored
  with_reducible assumption
  exact kf.sub rfl
  with_reducible apply answers_next
  with_reducible assumption

theorem State.bufWrite_stored {s : State} {h : Fin 8192} {o : Nat} {bs : List Byte} (hs : State.Stored q b s) (kf : b.free [Part.mem]) :
    State.Stored q b (State.bufWrite s h o bs) := by
  unfold State.bufWrite
  with_reducible apply stored_foldl
  intro _ _ _
  with_reducible apply State.mwrite_stored
  with_reducible assumption
  exact kf.sub rfl
  with_reducible assumption

theorem State.ringRx_stored {s : State} {p : Fin 4} {f : EthFrame} {stamp : Int} (hs : State.Stored q b s) (kf : b.free [Part.reg RegGroup.eth, Part.mem]) :
    State.Stored q b (State.ringRx s p f stamp) := by
  unfold State.ringRx
  extract_lets +onlyGivenNames x; clear_value x
  extract_lets +onlyGivenNames x; clear_value x
  extract_lets +onlyGivenNames x; clear_value x
  extract_lets +onlyGivenNames x; clear_value x
  extract_lets +onlyGivenNames x; clear_value x
  extract_lets +onlyGivenNames x; refine (fun (hx : State.Stored q b x) => ?_) ?_ <;> [(try clear_value x); subst x]
  with_reducible apply stored_ite
  with_reducible apply State.bump_stored
  with_reducible apply State.flag_stored
  with_reducible assumption
  exact kf.get rfl
  exact kf.get rfl
  with_reducible apply State.wr_stored
  with_reducible assumption
  exact kf.get rfl
  with_reducible apply State.bufWrite_stored
  with_reducible assumption
  exact kf.sub rfl

theorem State.plantRx_stored {s : State} {p : Fin 4} {f : EthFrame} {stamp : Int} (hs : State.Stored q b s) (kf : b.free [Part.reg RegGroup.eth, Part.mem]) :
    State.Stored q b (State.plantRx s p f stamp) := by
  unfold State.plantRx
  with_reducible apply stored_ite
  with_reducible apply State.ringRx_stored
  with_reducible assumption
  exact kf.sub rfl
  with_reducible apply State.bump_stored
  with_reducible assumption
  exact kf.get rfl

theorem State.ethDeliver_stored {s : State} {p : Fin 4} {f : EthFrame} {stamp : Int} (hs : State.Stored q b s) (kf : b.free [Part.reg RegGroup.tb, Part.reg RegGroup.eth, Part.mem, Part.fresh, Part.time, Part.si, Part.eth, Part.chain]) :
    State.Stored q b (State.ethDeliver s p f stamp) := by
  unfold State.ethDeliver
  split
  with_reducible apply stored_ite
  with_reducible apply State.ethSendAll_stored
  with_reducible assumption
  exact kf.sub rfl
  with_reducible apply State.plantRx_stored
  with_reducible assumption
  exact kf.sub rfl
  with_reducible apply stored_ite
  with_reducible apply State.ethSendAll_stored
  with_reducible assumption
  exact kf.sub rfl
  with_reducible apply State.plantRx_stored
  with_reducible assumption
  exact kf.sub rfl
  with_reducible apply stored_ite
  with_reducible apply State.ptpRx_stored
  with_reducible assumption
  exact kf.sub rfl
  with_reducible apply State.plantRx_stored
  with_reducible assumption
  exact kf.sub rfl
  extract_lets +onlyGivenNames x; clear_value x
  split
  with_reducible apply State.plantRx_stored
  with_reducible assumption
  exact kf.sub rfl
  with_reducible apply stored_ite
  with_reducible apply State.plantRx_stored
  with_reducible assumption
  exact kf.sub rfl
  with_reducible apply stored_ite
  with_reducible apply State.signetCopy_stored
  with_reducible assumption
  exact kf.sub rfl
  with_reducible assumption
  with_reducible assumption
  with_reducible apply State.plantRx_stored
  with_reducible assumption
  exact kf.sub rfl

theorem execEthFrameRx_stored {p : Fin 4} {f : EthFrame} {t_ : Nat} {s : State} (hs : State.Stored q b s) (kf : b.free [Part.reg RegGroup.tb, Part.reg RegGroup.eth, Part.now, Part.mem, Part.fresh, Part.time, Part.si, Part.eth, Part.chain]) :
    answers (execEthFrameRx p f t_ s) (State.Stored q b) := by
  unfold execEthFrameRx
  extract_lets +onlyGivenNames x; refine (fun (hx : State.Stored q b x) => ?_) ?_ <;> [(try clear_value x); subst x]
  with_reducible apply answers_ite
  with_reducible apply answers_ite
  with_reducible apply answers_next
  with_reducible apply State.ethDeliver_stored
  with_reducible apply State.count_stored
  with_reducible assumption
  exact kf.get rfl
  exact kf.sub rfl
  with_reducible apply answers_next
  with_reducible apply State.bump_stored
  with_reducible assumption
  exact kf.get rfl
  with_reducible apply answers_next
  with_reducible assumption
  with_reducible apply State.advance_stored
  with_reducible assumption
  exact kf.sub rfl

theorem execEthTxEntrySend_stored {p : Fin 4} {s : State} (hs : State.Stored q b s) (kf : b.free [Part.reg RegGroup.eth, Part.mem, Part.eth]) :
    answers (execEthTxEntrySend p s) (State.Stored q b) := by
  unfold execEthTxEntrySend
  extract_lets +onlyGivenNames x; clear_value x
  extract_lets +onlyGivenNames x; clear_value x
  extract_lets +onlyGivenNames x; clear_value x
  extract_lets +onlyGivenNames x; clear_value x
  extract_lets +onlyGivenNames x; clear_value x
  extract_lets +onlyGivenNames x; refine (fun (hx : State.Stored q b x) => ?_) ?_ <;> [(try clear_value x); subst x]
  with_reducible apply answers_ite
  with_reducible apply answers_ite
  with_reducible apply answers_next
  with_reducible apply State.flag_stored
  with_reducible assumption
  exact kf.get rfl
  with_reducible apply answers_next
  with_reducible apply State.ethSendAll_stored
  with_reducible assumption
  exact kf.sub rfl
  with_reducible apply answers_next
  with_reducible assumption
  with_reducible apply State.wr_stored
  with_reducible apply State.bufWrite_stored
  with_reducible assumption
  exact kf.sub rfl
  exact kf.get rfl

theorem execSignetEthTx_stored {c : Fin 64} {s : State} (hs : State.Stored q b s) (kf :
    b.free [Part.reg RegGroup.eth, Part.si, Part.eth]) :
  answers (execSignetEthTx c s) (State.Stored q b) := by
  have k1 : b.keep .si = false := kf.get rfl
  unfold execSignetEthTx
  split
  · exact hs
  · split
    extract_lets p src t send
    have h : State.Stored q b t := by
      dsimp only [t]
      simp only [stored_mk, k1, or_true, true_or]
      exact hs
    have h2 : ∀ d v i, State.Stored q b (send d v i) := fun _ _ _ => State.ethSendAll_stored h (kf.sub rfl)
    refine answers_ite ?_ hs
    split
    · exact h2 _ _ _
    · exact answers_ite (h2 _ _ _) (h2 _ _ _)

theorem State.showSpeed_stored {s : State} {p : Fin 4} (hs : State.Stored q b s) (kf : b.free [Part.reg RegGroup.eth]) :
    State.Stored q b (State.showSpeed s p) := by
  unfold State.showSpeed
  with_reducible apply State.putB_stored
  with_reducible assumption
  exact kf.get rfl

theorem execEthLinkChange_stored {p : Fin 4} {up : Bool} {fast : Bool} {s : State} (hs : State.Stored q b s) (kf : b.free [Part.reg RegGroup.eth, Part.eth]) :
    answers (execEthLinkChange p up fast s) (State.Stored q b) := by
  have k_eth : b.keep .eth = false := kf.get rfl
  unfold execEthLinkChange
  extract_lets +onlyGivenNames x; clear_value x
  extract_lets +onlyGivenNames x; refine (fun (hx : State.Stored q b x) => ?_) ?_ <;> [(try clear_value x); subst x]
  with_reducible apply answers_next
  with_reducible apply State.showSpeed_stored
  with_reducible apply State.flag_stored
  with_reducible apply State.putB_stored
  with_reducible assumption
  exact kf.get rfl
  exact kf.get rfl
  exact kf.sub rfl
  simp -zeta only [stored_mk, k_eth, or_true, true_or]
  with_reducible assumption

theorem State.ethCtrl_stored {s : State} {p : Fin 4} {v : Word} (hs : State.Stored q b s) (kf : b.free [Part.reg RegGroup.eth]) :
    State.Stored q b (s.ethCtrl p v) := by
  unfold State.ethCtrl
  extract_lets on others bit t u
  have ht : State.Stored q b t := State.put_stored (State.put_stored hs (kf.get rfl)) (kf.get rfl)
  have hu : State.Stored q b u :=
    stored_ite (stored_ite (State.flag_stored ht (kf.get rfl)) ht) (State.showSpeed_stored
      (State.put_stored (State.put_stored (State.put_stored ht (kf.get rfl)) (kf.get rfl)) (kf.get rfl)) (kf.sub rfl))
  exact stored_ite (State.put_stored hu (kf.get rfl)) (stored_ite hu (stored_ite (State.put_stored hu (kf.get rfl)) (State.flag_stored hu (kf.get rfl))))

theorem State.ethWrite_stored {s : State} {p : Fin 4} {r : EthCfg} {v : Word} (hs : State.Stored q b s) (kf : b.free [Part.reg RegGroup.eth]) :
    State.Stored q b (State.ethWrite s p r v) := by
  unfold State.ethWrite
  split
  with_reducible apply State.ethCtrl_stored
  with_reducible assumption
  exact kf.sub rfl
  with_reducible apply stored_ite
  with_reducible apply State.flag_stored
  with_reducible assumption
  exact kf.get rfl
  with_reducible apply State.setWritable_stored
  with_reducible assumption
  exact kf.get rfl
  with_reducible apply stored_ite
  with_reducible apply State.flag_stored
  with_reducible assumption
  exact kf.get rfl
  with_reducible apply State.setWritable_stored
  with_reducible assumption
  exact kf.get rfl
  with_reducible apply stored_ite
  with_reducible apply State.flag_stored
  with_reducible assumption
  exact kf.get rfl
  with_reducible apply State.setWritable_stored
  with_reducible assumption
  exact kf.get rfl
  with_reducible apply stored_ite
  with_reducible apply State.flag_stored
  with_reducible assumption
  exact kf.get rfl
  with_reducible apply State.setWritable_stored
  with_reducible assumption
  exact kf.get rfl
  with_reducible apply stored_ite
  with_reducible apply State.flag_stored
  with_reducible assumption
  exact kf.get rfl
  with_reducible apply State.setWritable_stored
  with_reducible assumption
  exact kf.get rfl
  with_reducible apply stored_ite
  with_reducible apply State.flag_stored
  with_reducible assumption
  exact kf.get rfl
  with_reducible apply State.setWritable_stored
  with_reducible assumption
  exact kf.get rfl
  with_reducible apply stored_ite
  with_reducible apply State.flag_stored
  with_reducible assumption
  exact kf.get rfl
  with_reducible apply State.setWritable_stored
  with_reducible assumption
  exact kf.get rfl

theorem execEthCtrlWrite_stored {p : Fin 4} {r : EthCfg} {v : Word} {s : State} (hs : State.Stored q b s) (kf : b.free [Part.reg RegGroup.eth]) :
    answers (execEthCtrlWrite p r v s) (State.Stored q b) := by
  unfold execEthCtrlWrite
  with_reducible apply answers_next
  with_reducible apply State.ethWrite_stored
  with_reducible assumption
  exact kf.sub rfl

theorem State.mdioStart_stored {s : State} {rd : Bool} {phy : Fin 32} {reg : Fin 32} {data : BitVec 16} (hs : State.Stored q b s) (kf : b.free [Part.reg RegGroup.mdio, Part.eth]) :
    State.Stored q b (State.mdioStart s rd phy reg data) := by
  have k_eth : b.keep .eth = false := kf.get rfl
  unfold State.mdioStart
  extract_lets +onlyGivenNames x; clear_value x
  with_reducible apply stored_ite
  with_reducible apply State.flag_stored
  with_reducible assumption
  exact kf.get rfl
  with_reducible apply State.put_stored
  simp -zeta only [stored_mk, k_eth, or_true, true_or]
  with_reducible assumption
  exact kf.get rfl

theorem State.mdioWrite_stored {s : State} {v : Word} (hs : State.Stored q b s) (kf : b.free [Part.reg RegGroup.mdio, Part.eth]) :
    State.Stored q b (State.mdioWrite s v) := by
  unfold State.mdioWrite
  extract_lets +onlyGivenNames x; clear_value x
  extract_lets +onlyGivenNames x; clear_value x
  with_reducible apply stored_ite
  with_reducible apply State.flag_stored
  with_reducible assumption
  exact kf.get rfl
  split
  with_reducible apply State.mdioStart_stored
  with_reducible assumption
  exact kf.sub rfl
  with_reducible apply State.mdioStart_stored
  with_reducible assumption
  exact kf.sub rfl
  with_reducible assumption

theorem execMdioWrite_stored {phy : Fin 32} {reg : Fin 32} {data : BitVec 16} {s : State} (hs : State.Stored q b s) (kf : b.free [Part.reg RegGroup.mdio, Part.eth]) :
    answers (execMdioWrite phy reg data s) (State.Stored q b) := by
  unfold execMdioWrite
  with_reducible apply answers_next
  with_reducible apply State.mdioStart_stored
  with_reducible assumption
  exact kf.sub rfl

theorem execMdioRead_stored {phy : Fin 32} {reg : Fin 32} {s : State} (hs : State.Stored q b s) (kf : b.free [Part.reg RegGroup.mdio, Part.eth]) :
    answers (execMdioRead phy reg s) (State.Stored q b) := by
  unfold execMdioRead
  with_reducible apply answers_next
  with_reducible apply State.mdioStart_stored
  with_reducible assumption
  exact kf.sub rfl

theorem execMdioDone_stored {data : BitVec 16} {s : State} (hs : State.Stored q b s) (kf : b.free [Part.reg RegGroup.mdio, Part.now, Part.eth]) :
    answers (execMdioDone data s) (State.Stored q b) := by
  have k_eth : b.keep .eth = false := kf.get rfl
  unfold execMdioDone
  extract_lets +onlyGivenNames x; clear_value x
  split
  with_reducible apply answers_next
  with_reducible assumption
  extract_lets +onlyGivenNames x; refine (fun (hx : State.Stored q b x) => ?_) ?_ <;> [(try clear_value x); subst x]
  extract_lets +onlyGivenNames x; refine (fun (hx : State.Stored q b x) => ?_) ?_ <;> [(try clear_value x); subst x]
  with_reducible apply answers_next
  with_reducible apply stored_ite
  with_reducible apply State.put_stored
  with_reducible assumption
  exact kf.get rfl
  with_reducible assumption
  with_reducible apply State.put_stored
  simp -zeta only [stored_mk, k_eth, or_true, true_or]
  with_reducible assumption
  exact kf.get rfl
  with_reducible apply State.advance_stored
  with_reducible assumption
  exact kf.sub rfl

theorem State.setSarm_stored {s : State} {a : Fin 8} {x : SafeArm} (hs : State.Stored q b s) (kf : b.free [Part.si]) :
    State.Stored q b (State.setSarm s a x) := by
  have k_si : b.keep .si = false := kf.get rfl
  unfold State.setSarm
  extract_lets +onlyGivenNames x; clear_value x
  simp -zeta only [stored_mk, k_si, or_true, true_or]
  with_reducible assumption

theorem State.setSin_stored {s : State} {k : Fin 16} {x : InputState} (hs : State.Stored q b s) (kf : b.free [Part.si]) :
    State.Stored q b (State.setSin s k x) := by
  have k_si : b.keep .si = false := kf.get rfl
  unfold State.setSin
  extract_lets +onlyGivenNames x; clear_value x
  simp -zeta only [stored_mk, k_si, or_true, true_or]
  with_reducible assumption

theorem State.setSout_stored {s : State} {k : Fin 12} {x : OutputState} (hs : State.Stored q b s) (kf : b.free [Part.si]) :
    State.Stored q b (State.setSout s k x) := by
  have k_si : b.keep .si = false := kf.get rfl
  unfold State.setSout
  extract_lets +onlyGivenNames x; clear_value x
  simp -zeta only [stored_mk, k_si, or_true, true_or]
  with_reducible assumption

theorem State.siRecord_stored {s : State} {type : Nat} {payload : List Byte} (hs : State.Stored q b s) (kf : b.free (postParts)) :
    State.Stored q b (State.siRecord s type payload) := by
  unfold State.siRecord
  with_reducible apply State.post_stored
  with_reducible assumption
  exact kf.sub rfl

theorem State.judgeInput_stored {s : State} {k : Fin 16} (hs : State.Stored q b s) (kf : b.free [Part.si]) :
    State.Stored q b (State.judgeInput s k) := by
  unfold State.judgeInput
  extract_lets +onlyGivenNames x; clear_value x
  simp -zeta only
  extract_lets +onlyGivenNames x; clear_value x
  extract_lets +onlyGivenNames x; clear_value x
  extract_lets +onlyGivenNames x; clear_value x
  with_reducible apply State.setSin_stored
  with_reducible assumption
  exact kf.sub rfl

theorem State.timeInputs_stored {s : State} (hs : State.Stored q b s) (kf : b.free [Part.si]) : State.Stored q b (State.timeInputs s) := by
  unfold State.timeInputs
  with_reducible apply stored_foldl
  intro _ _ _
  extract_lets +onlyGivenNames x; clear_value x
  with_reducible apply State.judgeInput_stored
  with_reducible apply State.setSin_stored
  with_reducible assumption
  exact kf.sub rfl
  exact kf.sub rfl
  with_reducible assumption

theorem execSafeInputChange_stored {k : Fin 16} {one : Bool} {level : Bool} {t_ : Nat} {held : Nat} {s : State} (hs : State.Stored q b s) (kf : b.free [Part.now, Part.si]) :
    answers (execSafeInputChange k one level t_ held s) (State.Stored q b) := by
  unfold execSafeInputChange
  extract_lets +onlyGivenNames x; clear_value x
  extract_lets +onlyGivenNames x; clear_value x
  extract_lets +onlyGivenNames x; clear_value x
  extract_lets +onlyGivenNames x; refine (fun (hx : State.Stored q b x) => ?_) ?_ <;> [(try clear_value x); subst x]
  extract_lets +onlyGivenNames x; refine (fun (hx : State.Stored q b x) => ?_) ?_ <;> [(try clear_value x); subst x]
  extract_lets +onlyGivenNames x; clear_value x
  with_reducible apply answers_ite
  with_reducible apply answers_next
  with_reducible apply State.advance_stored
  with_reducible assumption
  exact kf.sub rfl
  with_reducible apply answers_next
  with_reducible apply State.judgeInput_stored
  with_reducible apply State.setSin_stored
  with_reducible assumption
  exact kf.sub rfl
  exact kf.sub rfl
  with_reducible apply State.advance_stored
  with_reducible assumption
  exact kf.sub rfl
  with_reducible apply stored_ite
  with_reducible assumption
  with_reducible apply State.setSin_stored
  with_reducible assumption
  exact kf.sub rfl

theorem State.inputFault_stored {s : State} {k : Fin 16} {kind : Nat} (hs : State.Stored q b s) (kf : b.free (postParts ++ [Part.reg RegGroup.si, Part.si])) :
    State.Stored q b (State.inputFault s k kind) := by
  unfold State.inputFault
  extract_lets +onlyGivenNames x; clear_value x
  with_reducible apply stored_ite
  with_reducible assumption
  with_reducible apply State.siRecord_stored
  with_reducible apply State.flag_stored
  with_reducible apply State.setSin_stored
  with_reducible assumption
  exact kf.sub rfl
  exact kf.get rfl
  exact kf.sub rfl

theorem execSafeInputDiscrepancy_stored {k : Fin 16} {t_ : Nat} {s : State} (hs : State.Stored q b s) (kf : b.free (postParts ++ [Part.reg RegGroup.si, Part.now, Part.si])) :
    answers (execSafeInputDiscrepancy k t_ s) (State.Stored q b) := by
  unfold execSafeInputDiscrepancy
  split
  with_reducible apply answers_ite
  with_reducible apply answers_next
  with_reducible apply State.inputFault_stored
  with_reducible apply State.advance_stored
  with_reducible assumption
  exact kf.sub rfl
  exact kf.sub rfl
  with_reducible apply answers_next
  with_reducible assumption
  with_reducible apply answers_next
  with_reducible assumption

theorem execTestPulseStart_stored {n : Fin 4} {s : State} (hs : State.Stored q b s) (kf : b.free [Part.now, Part.si]) :
    answers (execTestPulseStart n s) (State.Stored q b) := by
  have k_si : b.keep .si = false := kf.get rfl
  unfold execTestPulseStart
  split
  extract_lets +onlyGivenNames x; clear_value x
  extract_lets +onlyGivenNames x; refine (fun (hx : State.Stored q b x) => ?_) ?_ <;> [(try clear_value x); subst x]
  extract_lets +onlyGivenNames x; clear_value x
  extract_lets +onlyGivenNames x; refine (fun (hx : State.Stored q b x) => ?_) ?_ <;> [(try clear_value x); subst x]
  extract_lets +onlyGivenNames x; clear_value x
  with_reducible apply answers_ite
  with_reducible apply answers_next
  with_reducible apply stored_foldl
  intro _ _ _
  extract_lets +onlyGivenNames x; clear_value x
  with_reducible apply stored_ite
  with_reducible assumption
  with_reducible apply State.setSin_stored
  with_reducible assumption
  exact kf.sub rfl
  with_reducible assumption
  with_reducible apply answers_next
  with_reducible assumption
  simp -zeta only [stored_mk, k_si, or_true, true_or]
  with_reducible assumption
  with_reducible apply State.advance_stored
  with_reducible assumption
  exact kf.sub rfl
  with_reducible apply answers_next
  with_reducible assumption

theorem execTestPulseEnd_stored {n : Fin 4} {s : State} (hs : State.Stored q b s) (kf : b.free (postParts ++ [Part.reg RegGroup.si, Part.now, Part.si])) :
    answers (execTestPulseEnd n s) (State.Stored q b) := by
  have k_si : b.keep .si = false := kf.get rfl
  unfold execTestPulseEnd
  extract_lets +onlyGivenNames x; clear_value x
  split
  extract_lets +onlyGivenNames x; clear_value x
  extract_lets +onlyGivenNames x; refine (fun (hx : State.Stored q b x) => ?_) ?_ <;> [(try clear_value x); subst x]
  extract_lets +onlyGivenNames x; clear_value x
  extract_lets +onlyGivenNames x; refine (fun (hx : State.Stored q b x) => ?_) ?_ <;> [(try clear_value x); subst x]
  extract_lets +onlyGivenNames x; clear_value x
  with_reducible apply answers_next
  with_reducible apply stored_ite
  with_reducible assumption
  with_reducible apply stored_foldl
  intro _ _ _
  with_reducible apply State.inputFault_stored
  with_reducible assumption
  exact kf.sub rfl
  with_reducible apply State.advance_stored
  with_reducible assumption
  exact kf.sub rfl
  simp -zeta only [stored_mk, k_si, or_true, true_or]
  with_reducible assumption
  with_reducible apply State.advance_stored
  with_reducible assumption
  exact kf.sub rfl
  with_reducible apply answers_next
  with_reducible assumption

theorem State.outputFault_stored {s : State} {k : Fin 12} {one : Bool} (hs : State.Stored q b s) (kf : b.free (postParts ++ [Part.reg RegGroup.si, Part.si])) :
    State.Stored q b (State.outputFault s k one) := by
  unfold State.outputFault
  extract_lets +onlyGivenNames x; clear_value x
  with_reducible apply stored_ite
  with_reducible assumption
  with_reducible apply State.siRecord_stored
  with_reducible apply State.flag_stored
  with_reducible apply State.setSout_stored
  with_reducible assumption
  exact kf.sub rfl
  exact kf.get rfl
  exact kf.sub rfl

theorem execSafeOutputReadbackFault_stored {k : Fin 12} {one : Bool} {s : State} (hs : State.Stored q b s) (kf : b.free (postParts ++ [Part.reg RegGroup.si, Part.si])) :
    answers (execSafeOutputReadbackFault k one s) (State.Stored q b) := by
  unfold execSafeOutputReadbackFault
  with_reducible apply answers_next
  with_reducible apply State.outputFault_stored
  with_reducible assumption
  exact kf.sub rfl

theorem execOutputTestStart_stored {k : Fin 12} {one : Bool} {s : State} (hs : State.Stored q b s) (kf : b.free [Part.now, Part.si]) :
    answers (execOutputTestStart k one s) (State.Stored q b) := by
  unfold execOutputTestStart
  extract_lets +onlyGivenNames x; clear_value x
  extract_lets +onlyGivenNames x; clear_value x
  extract_lets +onlyGivenNames x; refine (fun (hx : State.Stored q b x) => ?_) ?_ <;> [(try clear_value x); subst x]
  extract_lets +onlyGivenNames x; clear_value x
  split
  with_reducible apply answers_next
  with_reducible assumption
  with_reducible apply answers_ite
  with_reducible apply answers_next
  with_reducible assumption
  with_reducible apply answers_ite
  with_reducible apply answers_next
  with_reducible apply State.setSout_stored
  with_reducible assumption
  exact kf.sub rfl
  with_reducible apply answers_next
  with_reducible apply State.setSout_stored
  with_reducible assumption
  exact kf.sub rfl
  with_reducible apply State.advance_stored
  with_reducible assumption
  exact kf.sub rfl

theorem execOutputTestEnd_stored {k : Fin 12} {one : Bool} {low : Option Nat} {high : Option Nat} {s : State} (hs : State.Stored q b s) (kf : b.free (postParts ++ [Part.reg RegGroup.si, Part.now, Part.si])) :
    answers (execOutputTestEnd k one low high s) (State.Stored q b) := by
  unfold execOutputTestEnd
  extract_lets +onlyGivenNames x; clear_value x
  extract_lets +onlyGivenNames x; clear_value x
  split
  extract_lets +onlyGivenNames x; clear_value x
  extract_lets +onlyGivenNames x; refine (fun (hx : State.Stored q b x) => ?_) ?_ <;> [(try clear_value x); subst x]
  with_reducible apply answers_next
  with_reducible apply stored_ite
  with_reducible assumption
  with_reducible apply State.outputFault_stored
  with_reducible apply State.advance_stored
  with_reducible assumption
  exact kf.sub rfl
  exact kf.sub rfl
  with_reducible apply State.setSout_stored
  with_reducible apply State.advance_stored
  with_reducible assumption
  exact kf.sub rfl
  exact kf.sub rfl
  with_reducible apply answers_next
  with_reducible assumption

theorem State.outOn_stored {s : State} {k : Fin 12} (hs : State.Stored q b s) (kf : b.free [Part.si]) : State.Stored q b (State.outOn s k) := by
  unfold State.outOn
  extract_lets +onlyGivenNames x; clear_value x
  extract_lets +onlyGivenNames x; clear_value x
  extract_lets +onlyGivenNames x; clear_value x
  split
  with_reducible apply State.setSout_stored
  with_reducible assumption
  exact kf.sub rfl
  with_reducible apply State.setSout_stored
  with_reducible assumption
  exact kf.sub rfl

theorem State.outOff_stored {s : State} {k : Fin 12} (hs : State.Stored q b s) (kf : b.free [Part.si]) :
    State.Stored q b (State.outOff s k) := by
  unfold State.outOff
  extract_lets +onlyGivenNames x; clear_value x
  with_reducible apply State.setSout_stored
  with_reducible assumption
  exact kf.sub rfl

theorem State.showOutputs_stored {s : State} (hs : State.Stored q b s) (kf : b.free [Part.reg RegGroup.si]) :
    State.Stored q b (State.showOutputs s) := by
  unfold State.showOutputs
  extract_lets +onlyGivenNames x; clear_value x
  with_reducible apply State.put_stored
  with_reducible apply State.put_stored
  with_reducible assumption
  exact kf.get rfl
  exact kf.get rfl

theorem execBrakeDelayExpiry_stored {k : Fin 12} {s : State} (hs : State.Stored q b s) (kf : b.free [Part.reg RegGroup.si, Part.now, Part.si]) :
    answers (execBrakeDelayExpiry k s) (State.Stored q b) := by
  unfold execBrakeDelayExpiry
  split
  with_reducible apply answers_next
  with_reducible apply State.showOutputs_stored
  with_reducible apply State.outOff_stored
  with_reducible apply State.advance_stored
  with_reducible assumption
  exact kf.sub rfl
  exact kf.sub rfl
  exact kf.sub rfl
  with_reducible apply answers_next
  with_reducible assumption

theorem State.siRequest_stored {s : State} {arms : BitVec 8} {op : Nat} (hs : State.Stored q b s) (kf : b.free [Part.si]) :
    State.Stored q b (State.siRequest s arms op) := by
  have k_si : b.keep .si = false := kf.get rfl
  unfold State.siRequest
  extract_lets +onlyGivenNames x; clear_value x
  simp -zeta only [stored_mk, k_si, or_true, true_or]
  with_reducible assumption

theorem execSiReqSto_stored {arms : BitVec 8} {s : State} (hs : State.Stored q b s) (kf : b.free [Part.si]) :
    answers (execSiReqSto arms s) (State.Stored q b) := by
  unfold execSiReqSto
  with_reducible apply answers_next
  with_reducible apply State.siRequest_stored
  with_reducible assumption
  exact kf.sub rfl

theorem execSiReqSs1_stored {arms : BitVec 8} {s : State} (hs : State.Stored q b s) (kf : b.free [Part.si]) :
    answers (execSiReqSs1 arms s) (State.Stored q b) := by
  unfold execSiReqSs1
  with_reducible apply answers_next
  with_reducible apply State.siRequest_stored
  with_reducible assumption
  exact kf.sub rfl

theorem execSiReqSs2_stored {arms : BitVec 8} {s : State} (hs : State.Stored q b s) (kf : b.free [Part.si]) :
    answers (execSiReqSs2 arms s) (State.Stored q b) := by
  unfold execSiReqSs2
  with_reducible apply answers_next
  with_reducible apply State.siRequest_stored
  with_reducible assumption
  exact kf.sub rfl

theorem execSiReqRelease_stored {arms : BitVec 8} {s : State} (hs : State.Stored q b s) (kf : b.free [Part.si]) :
    answers (execSiReqRelease arms s) (State.Stored q b) := by
  unfold execSiReqRelease
  with_reducible apply answers_next
  with_reducible apply State.siRequest_stored
  with_reducible assumption
  exact kf.sub rfl

theorem State.siToken_stored {s : State} {v : Word} (hs : State.Stored q b s) (kf : b.free [Part.si]) :
    State.Stored q b (State.siToken s v) := by
  have k_si : b.keep .si = false := kf.get rfl
  unfold State.siToken
  extract_lets +onlyGivenNames x; clear_value x
  simp -zeta only [stored_mk, k_si, or_true, true_or]
  with_reducible assumption

theorem execSiToken_stored {v : Word} {s : State} (hs : State.Stored q b s) (kf : b.free [Part.si]) :
    answers (execSiToken v s) (State.Stored q b) := by
  unfold execSiToken
  with_reducible apply answers_next
  with_reducible apply State.siToken_stored
  with_reducible assumption
  exact kf.sub rfl

theorem State.setSack_stored {s : State} {one : Bool} {x : Sack} (hs : State.Stored q b s) (kf : b.free [Part.si]) :
    State.Stored q b (State.setSack s one x) := by
  have k_si : b.keep .si = false := kf.get rfl
  unfold State.setSack
  extract_lets +onlyGivenNames x; clear_value x
  with_reducible apply stored_ite
  simp -zeta only [stored_mk, k_si, or_true, true_or]
  with_reducible assumption
  simp -zeta only [stored_mk, k_si, or_true, true_or]
  with_reducible assumption

theorem execSackChange_stored {one : Bool} {level : Bool} {t_ : Nat} {held : Nat} {s : State} (hs : State.Stored q b s) (kf : b.free [Part.now, Part.si]) :
    answers (execSackChange one level t_ held s) (State.Stored q b) := by
  unfold execSackChange
  extract_lets +onlyGivenNames x; clear_value x
  with_reducible apply answers_ite
  with_reducible apply answers_next
  with_reducible apply State.advance_stored
  with_reducible assumption
  exact kf.sub rfl
  with_reducible apply answers_next
  with_reducible apply State.setSack_stored
  with_reducible apply State.advance_stored
  with_reducible assumption
  exact kf.sub rfl
  exact kf.sub rfl

theorem execSackHoldTimeout_stored {one : Bool} {t_ : Nat} {s : State} (hs : State.Stored q b s) (kf : b.free [Part.now, Part.si]) :
    answers (execSackHoldTimeout one t_ s) (State.Stored q b) := by
  unfold execSackHoldTimeout
  extract_lets +onlyGivenNames x; clear_value x
  split
  with_reducible apply answers_ite
  with_reducible apply answers_next
  with_reducible apply State.setSack_stored
  with_reducible apply State.advance_stored
  with_reducible assumption
  exact kf.sub rfl
  exact kf.sub rfl
  with_reducible apply answers_next
  with_reducible assumption
  with_reducible apply answers_next
  with_reducible assumption

theorem execTokenExpiry_stored {t_ : Nat} {s : State} (hs : State.Stored q b s) (kf : b.free [Part.now, Part.si]) :
    answers (execTokenExpiry t_ s) (State.Stored q b) := by
  have k_si : b.keep .si = false := kf.get rfl
  unfold execTokenExpiry
  extract_lets +onlyGivenNames x; refine (fun (hx : State.Stored q b x) => ?_) ?_ <;> [(try clear_value x); subst x]
  extract_lets +onlyGivenNames x; clear_value x
  split
  with_reducible apply answers_ite
  with_reducible apply answers_next
  simp -zeta only [stored_mk, k_si, or_true, true_or]
  with_reducible assumption
  with_reducible apply answers_next
  with_reducible assumption
  with_reducible apply answers_next
  with_reducible assumption
  with_reducible apply State.advance_stored
  with_reducible assumption
  exact kf.sub rfl

theorem State.ackRefused_stored {s : State} {cond : Nat} (hs : State.Stored q b s) (kf : b.free (postParts ++ [Part.reg RegGroup.si])) :
    State.Stored q b (State.ackRefused s cond) := by
  unfold State.ackRefused
  with_reducible apply State.siRecord_stored
  with_reducible apply State.flag_stored
  with_reducible assumption
  exact kf.get rfl
  exact kf.sub rfl

theorem State.judgeEnd_stored {s : State} {fails : Option Nat} {token : Option (Time × BitVec 8 × Bool)} (hs : State.Stored q b s) (kf : b.free (postParts ++ [Part.reg RegGroup.si, Part.si])) :
    State.Stored q b (State.judgeEnd s fails token).1 := by
  have k_si : b.keep .si = false := kf.get rfl
  unfold State.judgeEnd
  extract_lets +onlyGivenNames x; clear_value x
  split
  extract_lets +onlyGivenNames x; refine (fun (hx : State.Stored q b x) => ?_) ?_ <;> [(try clear_value x); subst x]
  simp -zeta only
  with_reducible assumption
  with_reducible apply State.siRecord_stored
  with_reducible apply State.flag_stored
  simp -zeta only [stored_mk, k_si, or_true, true_or]
  with_reducible assumption
  exact kf.get rfl
  exact kf.sub rfl
  simp -zeta only
  with_reducible apply State.ackRefused_stored
  with_reducible assumption
  exact kf.sub rfl

theorem State.judgeLines_stored {s : State} {one : Time × Time} {two : Time × Time} (hs : State.Stored q b s) (kf : b.free (postParts ++ [Part.reg RegGroup.si, Part.si])) :
    State.Stored q b (State.judgeLines s one two).1 := by
  unfold State.judgeLines
  extract_lets +onlyGivenNames x; clear_value x
  extract_lets +onlyGivenNames x; clear_value x
  extract_lets +onlyGivenNames x; refine (fun (hx : State.Stored q b x) => ?_) ?_ <;> [(try clear_value x); subst x]
  with_reducible apply State.judgeEnd_stored
  with_reducible assumption
  exact kf.sub rfl
  with_reducible apply State.setSack_stored
  with_reducible apply State.setSack_stored
  with_reducible assumption
  exact kf.sub rfl
  exact kf.sub rfl

theorem State.judgeReset_stored {s : State} (hs : State.Stored q b s) (kf : b.free (postParts ++ [Part.reg RegGroup.si, Part.si])) :
    State.Stored q b (State.judgeReset s).1 := by
  unfold State.judgeReset
  extract_lets +onlyGivenNames x; clear_value x
  extract_lets +onlyGivenNames x; clear_value x
  split
  with_reducible apply State.judgeLines_stored
  with_reducible assumption
  exact kf.sub rfl
  split
  simp -zeta only
  with_reducible apply State.ackRefused_stored
  with_reducible apply State.setSack_stored
  with_reducible assumption
  exact kf.sub rfl
  exact kf.sub rfl
  split
  simp -zeta only
  with_reducible apply State.ackRefused_stored
  with_reducible apply State.setSack_stored
  with_reducible assumption
  exact kf.sub rfl
  exact kf.sub rfl
  simp -zeta only
  with_reducible assumption

theorem State.captureTokens_stored {s : State} (hs : State.Stored q b s) (kf : b.free (postParts ++ [Part.reg RegGroup.si, Part.si])) :
    State.Stored q b (State.captureTokens s) := by
  have k_si : b.keep .si = false := kf.get rfl
  unfold State.captureTokens
  extract_lets +onlyGivenNames x; clear_value x
  with_reducible apply stored_foldl
  intro _ _ _
  extract_lets +onlyGivenNames x; clear_value x
  with_reducible apply stored_ite
  simp -zeta only [stored_mk, k_si, or_true, true_or]
  with_reducible assumption
  with_reducible apply State.ackRefused_stored
  with_reducible assumption
  exact kf.sub rfl
  simp -zeta only [stored_mk, k_si, or_true, true_or]
  with_reducible assumption

theorem State.islandFault_stored {s : State} {kind : Nat} (hs : State.Stored q b s) (kf : b.free [Part.si, Part.boot]) :
    State.Stored q b (State.islandFault s kind) := by
  have k_si : b.keep .si = false := kf.get rfl
  unfold State.islandFault
  extract_lets +onlyGivenNames x; clear_value x
  with_reducible apply State.mishap_stored
  simp -zeta only [stored_mk, k_si, or_true, true_or]
  with_reducible assumption
  exact kf.sub rfl

theorem execPsetCrcSweep_stored {_one : Bool} {ok : Bool} {s : State} (hs : State.Stored q b s) (kf : b.free [Part.si, Part.boot]) :
    answers (execPsetCrcSweep _one ok s) (State.Stored q b) := by
  unfold execPsetCrcSweep
  with_reducible apply answers_next
  with_reducible apply stored_ite
  with_reducible assumption
  with_reducible apply State.islandFault_stored
  with_reducible assumption
  exact kf.sub rfl

theorem execCoreSupplyWindowFault_stored {s : State} (hs : State.Stored q b s) (kf :
    b.free [Part.si, Part.boot]) :
  answers (execCoreSupplyWindowFault s) (State.Stored q b) := by
  refine answers_next (State.islandFault_stored ?_ (kf.sub rfl))
  exact ⟨hs.1, hs.2.1, hs.2.2.1, hs.2.2.2.1, hs.2.2.2.2.1, hs.2.2.2.2.2.1, kept_but hs.2.2.2.2.2.2 (kf.get rfl) fun p hp => by
    cases p with
    | boot => exact absurd rfl hp
    | reg g => exact fun _ _ => rfl
    | _ => rfl⟩

theorem State.setChan_stored {s : State} {one : Bool} {c : SafeChannel} (hs : State.Stored q b s) (kf : b.free [Part.si]) :
    State.Stored q b (State.setChan s one c) := by
  have k_si : b.keep .si = false := kf.get rfl
  unfold State.setChan
  extract_lets +onlyGivenNames x; clear_value x
  with_reducible apply stored_ite
  simp -zeta only [stored_mk, k_si, or_true, true_or]
  with_reducible assumption
  simp -zeta only [stored_mk, k_si, or_true, true_or]
  with_reducible assumption

theorem execSeparationCapture_stored {s : State} (hs : State.Stored q b s) (kf : b.free (postParts ++ [Part.reg RegGroup.si, Part.now, Part.si])) :
    answers (execSeparationCapture s) (State.Stored q b) := by
  have k_si : b.keep .si = false := kf.get rfl
  unfold execSeparationCapture
  extract_lets +onlyGivenNames x; clear_value x
  extract_lets +onlyGivenNames x; refine (fun (hx : State.Stored q b x) => ?_) ?_ <;> [(try clear_value x); subst x]
  simp -zeta only
  extract_lets +onlyGivenNames x; refine (fun (hx : State.Stored q b x) => ?_) ?_ <;> [(try clear_value x); subst x]
  extract_lets +onlyGivenNames x; clear_value x
  extract_lets +onlyGivenNames x; clear_value x
  extract_lets +onlyGivenNames x; clear_value x
  extract_lets +onlyGivenNames x; clear_value x
  extract_lets +onlyGivenNames x; clear_value x
  with_reducible apply answers_ite
  with_reducible apply answers_next
  with_reducible assumption
  with_reducible apply answers_next
  simp -zeta only [stored_mk, k_si, or_true, true_or]
  with_reducible assumption
  with_reducible apply State.captureTokens_stored
  with_reducible apply State.judgeReset_stored
  with_reducible assumption
  exact kf.sub rfl
  exact kf.sub rfl
  with_reducible apply State.advance_stored
  with_reducible assumption
  exact kf.sub rfl

theorem execChannelResultPosted_stored {one : Bool} {s : State} (hs : State.Stored q b s) (kf : b.free [Part.si]) :
    answers (execChannelResultPosted one s) (State.Stored q b) := by
  unfold execChannelResultPosted
  extract_lets +onlyGivenNames x; clear_value x
  split
  with_reducible apply answers_next
  with_reducible assumption
  extract_lets +onlyGivenNames x; clear_value x
  extract_lets +onlyGivenNames x; clear_value x
  extract_lets +onlyGivenNames x; clear_value x
  extract_lets +onlyGivenNames x; clear_value x
  extract_lets +onlyGivenNames x; subst x
  with_reducible apply answers_ite
  with_reducible apply answers_next
  with_reducible assumption
  with_reducible apply answers_next
  with_reducible apply State.setChan_stored
  with_reducible assumption
  exact kf.sub rfl

theorem execChannelResultArrival_stored {one : Bool} {s : State} (hs : State.Stored q b s) (kf : b.free [Part.si]) :
    answers (execChannelResultArrival one s) (State.Stored q b) := by
  unfold execChannelResultArrival
  extract_lets +onlyGivenNames x; clear_value x
  split
  with_reducible apply answers_next
  with_reducible apply State.setChan_stored
  with_reducible assumption
  exact kf.sub rfl
  with_reducible apply answers_next
  with_reducible assumption

theorem State.endWindow_stored {s : State} {one : Bool} (hs : State.Stored q b s) (kf : b.free [Part.si, Part.boot]) :
    State.Stored q b (State.endWindow s one) := by
  unfold State.endWindow
  extract_lets +onlyGivenNames x; clear_value x
  extract_lets +onlyGivenNames x; refine (fun (hx : State.Stored q b x) => ?_) ?_ <;> [(try clear_value x); subst x]
  extract_lets +onlyGivenNames x; clear_value x
  with_reducible apply stored_ite
  with_reducible assumption
  split
  extract_lets +onlyGivenNames x; clear_value x
  extract_lets +onlyGivenNames x; clear_value x
  extract_lets +onlyGivenNames x; refine (fun (hx : State.Stored q b x) => ?_) ?_ <;> [(try clear_value x); subst x]
  with_reducible apply stored_ite
  with_reducible apply State.islandFault_stored
  with_reducible assumption
  exact kf.sub rfl
  with_reducible assumption
  with_reducible apply State.setChan_stored
  with_reducible assumption
  exact kf.sub rfl
  with_reducible apply State.islandFault_stored
  with_reducible assumption
  exact kf.sub rfl
  with_reducible apply State.islandFault_stored
  with_reducible assumption
  exact kf.sub rfl
  with_reducible apply State.setChan_stored
  with_reducible assumption
  exact kf.sub rfl

theorem execExchangeWindowEnd_stored {one : Bool} {cycles : Nat} {s : State} (hs : State.Stored q b s) (kf : b.free [Part.si, Part.boot]) :
    answers (execExchangeWindowEnd one cycles s) (State.Stored q b) := by
  unfold execExchangeWindowEnd
  extract_lets +onlyGivenNames x; refine (fun (hx : State.Stored q b x) => ?_) ?_ <;> [(try clear_value x); subst x]
  with_reducible apply answers_next
  with_reducible apply stored_ite
  with_reducible apply State.islandFault_stored
  with_reducible assumption
  exact kf.sub rfl
  with_reducible assumption
  with_reducible apply State.endWindow_stored
  with_reducible assumption
  exact kf.sub rfl

theorem State.stoGroup_stored {s : State} {a : Fin 8} {on : Bool} (hs : State.Stored q b s) (kf : b.free (postParts ++ [Part.reg RegGroup.port, Part.reg RegGroup.stp, Part.ports, Part.axes])) :
    State.Stored q b (State.stoGroup s a on) := by
  unfold State.stoGroup
  extract_lets +onlyGivenNames x; refine (fun (hx : State.Stored q b x) => ?_) ?_ <;> [(try clear_value x); subst x]
  extract_lets +onlyGivenNames x; refine (fun (hx : State.Stored q b x) => ?_) ?_ <;> [(try clear_value x); subst x]
  with_reducible apply stored_ite
  with_reducible assumption
  with_reducible apply State.haltArm_stored
  with_reducible assumption
  exact kf.sub rfl
  with_reducible apply State.judgeArm_stored
  with_reducible assumption
  exact kf.sub rfl
  with_reducible apply stored_foldl
  intro _ _ _
  extract_lets +onlyGivenNames x; clear_value x
  with_reducible apply stored_ite
  with_reducible apply State.setPort_stored
  with_reducible assumption
  exact kf.sub rfl
  with_reducible assumption
  with_reducible assumption

theorem State.commitOutput_stored {s : State} {k : Fin 12} (hs : State.Stored q b s) (kf : b.free (postParts ++ [Part.reg RegGroup.port, Part.reg RegGroup.stp, Part.ports, Part.axes, Part.si])) :
    State.Stored q b (State.commitOutput s k) := by
  unfold State.commitOutput
  extract_lets +onlyGivenNames x; clear_value x
  extract_lets +onlyGivenNames x; clear_value x
  extract_lets +onlyGivenNames x; refine (fun (hx : State.Stored q b x) => ?_) ?_ <;> [(try clear_value x); subst x]
  with_reducible apply stored_ite
  with_reducible apply State.stoGroup_stored
  with_reducible assumption
  exact kf.sub rfl
  with_reducible assumption
  with_reducible apply stored_ite
  with_reducible apply State.outOff_stored
  with_reducible assumption
  exact kf.sub rfl
  with_reducible apply stored_ite
  with_reducible apply stored_ite
  with_reducible apply State.outOn_stored
  with_reducible assumption
  exact kf.sub rfl
  with_reducible apply State.outOff_stored
  with_reducible assumption
  exact kf.sub rfl
  with_reducible apply stored_ite
  with_reducible apply stored_ite
  with_reducible apply State.outOn_stored
  with_reducible assumption
  exact kf.sub rfl
  with_reducible apply stored_ite
  with_reducible apply stored_ite
  with_reducible apply State.outOff_stored
  with_reducible assumption
  exact kf.sub rfl
  with_reducible apply State.setSout_stored
  with_reducible assumption
  exact kf.sub rfl
  with_reducible assumption
  with_reducible apply stored_ite
  with_reducible apply State.outOn_stored
  with_reducible assumption
  exact kf.sub rfl
  with_reducible apply State.outOff_stored
  with_reducible assumption
  exact kf.sub rfl

theorem State.newNonce_stored {s : State} (hs : State.Stored q b s) (kf : b.free [Part.reg RegGroup.si, Part.fresh]) :
    State.Stored q b (State.newNonce s) := by
  unfold State.newNonce
  with_reducible apply State.useFresh_stored
  with_reducible apply State.put_stored
  with_reducible assumption
  exact kf.get rfl
  exact kf.sub rfl

theorem State.recordCauses_stored {s : State} {a : Fin 8} {now : List Nat} (hs : State.Stored q b s) (kf : b.free (postParts)) :
    State.Stored q b (State.recordCauses s a now) := by
  unfold State.recordCauses
  extract_lets +onlyGivenNames x; clear_value x
  extract_lets +onlyGivenNames x; refine (fun (hx : State.Stored q b x) => ?_) ?_ <;> [(try clear_value x); subst x]
  with_reducible apply stored_foldl
  intro _ _ _
  with_reducible apply State.post_stored
  with_reducible assumption
  exact kf.sub rfl
  with_reducible assumption
  with_reducible apply stored_foldl
  intro _ _ _
  with_reducible apply State.post_stored
  with_reducible assumption
  exact kf.sub rfl
  with_reducible assumption

theorem State.moveArm_stored {s : State} {a : Fin 8} {to_ : Nat} {cause : Nat} (hs : State.Stored q b s) (kf : b.free (postParts ++ [Part.reg RegGroup.si, Part.si])) :
    State.Stored q b (State.moveArm s a to_ cause) := by
  unfold State.moveArm
  extract_lets +onlyGivenNames x; clear_value x
  extract_lets +onlyGivenNames x; clear_value x
  extract_lets +onlyGivenNames x; subst x
  extract_lets +onlyGivenNames x; refine (fun (hx : State.Stored q b x) => ?_) ?_ <;> [(try clear_value x); subst x]
  with_reducible apply stored_ite
  with_reducible assumption
  with_reducible apply State.put_stored
  with_reducible apply State.post_stored
  with_reducible assumption
  exact kf.sub rfl
  exact kf.get rfl
  with_reducible apply State.setSarm_stored
  with_reducible assumption
  exact kf.sub rfl

theorem State.commitArm_stored {s : State} {a : Fin 8} {es : List SafeEvent} {active : List Nat} {n : SafeSnap} (hs : State.Stored q b s) (kf : b.free (postParts ++ [Part.reg RegGroup.si, Part.fresh, Part.si])) :
    State.Stored q b (State.commitArm s a es active n) := by
  unfold State.commitArm
  extract_lets +onlyGivenNames x; clear_value x
  extract_lets +onlyGivenNames x; clear_value x
  extract_lets +onlyGivenNames x; refine (fun (hx : State.Stored q b x) => ?_) ?_ <;> [(try clear_value x); subst x]
  extract_lets +onlyGivenNames x; refine (fun (hx : State.Stored q b x) => ?_) ?_ <;> [(try clear_value x); subst x]
  extract_lets +onlyGivenNames x; refine (fun (hx : State.Stored q b x) => ?_) ?_ <;> [(try clear_value x); subst x]
  extract_lets +onlyGivenNames x; clear_value x
  extract_lets +onlyGivenNames x; refine (fun (hx : State.Stored q b x) => ?_) ?_ <;> [(try clear_value x); subst x]
  extract_lets +onlyGivenNames x; clear_value x
  extract_lets +onlyGivenNames x; clear_value x
  extract_lets +onlyGivenNames x; clear_value x
  with_reducible apply stored_ite
  with_reducible apply State.useFresh_stored
  with_reducible apply State.moveArm_stored
  with_reducible assumption
  exact kf.sub rfl
  exact kf.sub rfl
  with_reducible apply stored_ite
  with_reducible apply State.moveArm_stored
  with_reducible assumption
  exact kf.sub rfl
  with_reducible apply stored_ite
  with_reducible apply stored_ite
  with_reducible apply State.moveArm_stored
  with_reducible assumption
  exact kf.sub rfl
  with_reducible apply State.put_stored
  with_reducible assumption
  exact kf.get rfl
  with_reducible assumption
  with_reducible apply State.setSarm_stored
  with_reducible assumption
  exact kf.sub rfl
  with_reducible apply State.recordCauses_stored
  with_reducible assumption
  exact kf.sub rfl
  with_reducible apply stored_ite
  with_reducible apply State.post_stored
  with_reducible assumption
  exact kf.sub rfl
  with_reducible assumption
  with_reducible apply stored_ite
  with_reducible apply State.put_stored
  with_reducible assumption
  exact kf.get rfl
  with_reducible assumption

theorem State.showArm_stored {s : State} {n : SafeSnap} {a : Fin 8} (hs : State.Stored q b s) (kf : b.free [Part.reg RegGroup.si]) :
    State.Stored q b (State.showArm s n a) := by
  unfold State.showArm
  extract_lets +onlyGivenNames x; clear_value x
  with_reducible apply State.put_stored
  with_reducible apply State.putB_stored
  with_reducible apply State.putB_stored
  with_reducible apply State.putB_stored
  with_reducible apply State.put_stored
  with_reducible assumption
  exact kf.get rfl
  exact kf.get rfl
  exact kf.get rfl
  exact kf.get rfl
  exact kf.get rfl

theorem State.publishAll_stored {s : State} {n : SafeSnap} {rs : List ChanResult} (hs : State.Stored q b s) (kf : b.free [Part.reg RegGroup.si]) :
    State.Stored q b (State.publishAll s n rs) := by
  unfold State.publishAll
  extract_lets +onlyGivenNames x; clear_value x
  extract_lets +onlyGivenNames x; refine (fun (hx : State.Stored q b x) => ?_) ?_ <;> [(try clear_value x); subst x]
  extract_lets +onlyGivenNames x; refine (fun (hx : State.Stored q b x) => ?_) ?_ <;> [(try clear_value x); subst x]
  with_reducible apply stored_foldl
  intro _ _ _
  with_reducible apply State.wr_stored
  with_reducible assumption
  exact kf.get rfl
  with_reducible assumption
  with_reducible apply stored_foldl
  intro _ _ _
  with_reducible apply stored_ite
  with_reducible apply State.wr_stored
  with_reducible assumption
  exact kf.get rfl
  with_reducible assumption
  with_reducible assumption
  with_reducible apply stored_foldl
  intro _ _ _
  extract_lets +onlyGivenNames x; clear_value x
  extract_lets +onlyGivenNames x; clear_value x
  with_reducible apply State.wr_stored
  with_reducible apply State.wr_stored
  with_reducible apply State.wr_stored
  with_reducible assumption
  exact kf.get rfl
  exact kf.get rfl
  exact kf.get rfl
  with_reducible assumption

theorem State.showConn_stored {s : State} {n : SafeSnap} {c : Fin 64} (hs : State.Stored q b s) (kf : b.free (postParts ++ [Part.reg RegGroup.si])) :
    State.Stored q b (State.showConn s n c) := by
  unfold State.showConn
  extract_lets +onlyGivenNames x; clear_value x
  extract_lets +onlyGivenNames x; clear_value x
  extract_lets +onlyGivenNames x; clear_value x
  split
  with_reducible assumption
  extract_lets +onlyGivenNames x; refine (fun (hx : State.Stored q b x) => ?_) ?_ <;> [(try clear_value x); subst x]
  extract_lets +onlyGivenNames x; refine (fun (hx : State.Stored q b x) => ?_) ?_ <;> [(try clear_value x); subst x]
  extract_lets +onlyGivenNames x; refine (fun (hx : State.Stored q b x) => ?_) ?_ <;> [(try clear_value x); subst x]
  with_reducible apply stored_ite
  with_reducible assumption
  with_reducible apply State.post_stored
  with_reducible apply State.flag_stored
  with_reducible assumption
  exact kf.get rfl
  exact kf.sub rfl
  with_reducible apply State.wr_stored
  with_reducible assumption
  exact kf.get rfl
  with_reducible apply State.wr_stored
  with_reducible apply State.wr_stored
  with_reducible assumption
  exact kf.get rfl
  exact kf.get rfl
  with_reducible apply State.put_stored
  with_reducible apply State.put_stored
  with_reducible apply State.putB_stored
  with_reducible apply State.put_stored
  with_reducible assumption
  exact kf.get rfl
  exact kf.get rfl
  exact kf.get rfl
  exact kf.get rfl

theorem State.returnTelegram_stored {s : State} {n : SafeSnap} {c : Fin 64} {r1 : ChanResult} {r2 : ChanResult} (hs : State.Stored q b s) (kf : b.free [Part.si]) :
    State.Stored q b (State.returnTelegram s n c r1 r2) := by
  have k_si : b.keep .si = false := kf.get rfl
  unfold State.returnTelegram
  extract_lets +onlyGivenNames x; clear_value x
  extract_lets +onlyGivenNames x; clear_value x
  split
  with_reducible apply stored_ite
  with_reducible assumption
  split
  extract_lets +onlyGivenNames x; clear_value x
  extract_lets +onlyGivenNames x; clear_value x
  extract_lets +onlyGivenNames x; clear_value x
  extract_lets +onlyGivenNames x; clear_value x
  extract_lets +onlyGivenNames x; clear_value x
  extract_lets +onlyGivenNames x; clear_value x
  extract_lets +onlyGivenNames x; clear_value x
  extract_lets +onlyGivenNames x; clear_value x
  with_reducible apply stored_ite
  simp -zeta only [stored_mk, k_si, or_true, true_or]
  with_reducible assumption
  simp -zeta only [stored_mk, k_si, or_true, true_or]
  with_reducible assumption
  with_reducible assumption
  with_reducible assumption

theorem State.closeConn_stored {s : State} {c : Fin 64} (hs : State.Stored q b s) (kf : b.free (postParts ++ [Part.reg RegGroup.si])) :
    State.Stored q b (State.closeConn s c) := by
  unfold State.closeConn
  extract_lets +onlyGivenNames x; clear_value x
  extract_lets +onlyGivenNames x; refine (fun (hx : State.Stored q b x) => ?_) ?_ <;> [(try clear_value x); subst x]
  split
  with_reducible assumption
  with_reducible apply stored_ite
  with_reducible assumption
  with_reducible apply State.post_stored
  with_reducible apply State.flag_stored
  with_reducible assumption
  exact kf.get rfl
  exact kf.sub rfl
  with_reducible apply State.wr_stored
  with_reducible apply State.wr_stored
  with_reducible apply State.wr_stored
  with_reducible apply State.wr_stored
  with_reducible assumption
  exact kf.get rfl
  exact kf.get rfl
  exact kf.get rfl
  exact kf.get rfl

theorem State.openConn_stored {s : State} {c : Fin 64} (hs : State.Stored q b s) (kf : b.free (postParts ++ [Part.reg RegGroup.si])) :
    State.Stored q b (State.openConn s c) := by
  unfold State.openConn
  split
  with_reducible assumption
  with_reducible apply State.post_stored
  with_reducible apply State.flag_stored
  with_reducible apply State.put_stored
  with_reducible assumption
  exact kf.get rfl
  exact kf.get rfl
  exact kf.sub rfl

theorem State.useSet_stored {s : State} {p : Option PSet} {k : Option (Fin 2)} (hs : State.Stored q b s) (kf : b.free (postParts ++ [Part.reg RegGroup.si, Part.si])) :
    State.Stored q b (State.useSet s p k) := by
  have k_si : b.keep .si = false := kf.get rfl
  unfold State.useSet
  extract_lets +onlyGivenNames x; clear_value x
  extract_lets +onlyGivenNames x; refine (fun (hx : State.Stored q b x) => ?_) ?_ <;> [(try clear_value x); subst x]
  extract_lets +onlyGivenNames x; clear_value x
  extract_lets +onlyGivenNames x; clear_value x
  extract_lets +onlyGivenNames x; refine (fun (hx : State.Stored q b x) => ?_) ?_ <;> [(try clear_value x); subst x]
  extract_lets +onlyGivenNames x; refine (fun (hx : State.Stored q b x) => ?_) ?_ <;> [(try clear_value x); subst x]
  with_reducible apply State.put_stored
  with_reducible apply State.wr_stored
  with_reducible apply State.wr_stored
  with_reducible assumption
  exact kf.get rfl
  exact kf.get rfl
  exact kf.get rfl
  with_reducible apply State.timeInputs_stored
  with_reducible apply stored_foldl
  intro _ _ _
  with_reducible apply State.openConn_stored
  with_reducible assumption
  exact kf.sub rfl
  with_reducible assumption
  exact kf.sub rfl
  simp -zeta only [stored_mk, k_si, or_true, true_or]
  with_reducible assumption
  with_reducible apply stored_foldl
  intro _ _ _
  with_reducible apply State.closeConn_stored
  with_reducible assumption
  exact kf.sub rfl
  with_reducible assumption

theorem State.activate_stored {s : State} (hs : State.Stored q b s) (kf : b.free (postParts ++ [Part.reg RegGroup.si, Part.si])) :
    State.Stored q b (State.activate s) := by
  have k_si : b.keep .si = false := kf.get rfl
  unfold State.activate
  split
  with_reducible assumption
  with_reducible apply stored_ite
  split
  with_reducible apply State.siRecord_stored
  with_reducible apply State.flag_stored
  with_reducible assumption
  exact kf.get rfl
  exact kf.sub rfl
  extract_lets +onlyGivenNames x; refine (fun (hx : State.Stored q b x) => ?_) ?_ <;> [(try clear_value x); subst x]
  extract_lets +onlyGivenNames x; clear_value x
  extract_lets +onlyGivenNames x; refine (fun (hx : State.Stored q b x) => ?_) ?_ <;> [(try clear_value x); subst x]
  extract_lets +onlyGivenNames x; refine (fun (hx : State.Stored q b x) => ?_) ?_ <;> [(try clear_value x); subst x]
  extract_lets +onlyGivenNames x; refine (fun (hx : State.Stored q b x) => ?_) ?_ <;> [(try clear_value x); subst x]
  with_reducible apply State.siRecord_stored
  with_reducible apply State.flag_stored
  with_reducible assumption
  exact kf.get rfl
  exact kf.sub rfl
  with_reducible apply stored_foldl
  intro _ _ _
  extract_lets +onlyGivenNames x; clear_value x
  with_reducible apply State.setSarm_stored
  with_reducible assumption
  exact kf.sub rfl
  with_reducible assumption
  with_reducible apply stored_foldl
  intro _ _ _
  extract_lets +onlyGivenNames x; clear_value x
  with_reducible apply State.moveArm_stored
  with_reducible apply State.setSarm_stored
  with_reducible assumption
  exact kf.sub rfl
  exact kf.sub rfl
  with_reducible assumption
  with_reducible apply State.put_stored
  simp -zeta only [stored_mk, k_si, or_true, true_or]
  with_reducible assumption
  exact kf.get rfl
  with_reducible apply State.useSet_stored
  with_reducible assumption
  exact kf.sub rfl
  with_reducible assumption

theorem State.commitFaults_stored {s : State} (hs : State.Stored q b s) (kf : b.free (postParts ++ [Part.reg RegGroup.si, Part.si])) :
    State.Stored q b (State.commitFaults s) := by
  have k_si : b.keep .si = false := kf.get rfl
  unfold State.commitFaults
  with_reducible apply stored_foldl
  intro _ _ _
  extract_lets +onlyGivenNames x; refine (fun (hx : State.Stored q b x) => ?_) ?_ <;> [(try clear_value x); subst x]
  extract_lets +onlyGivenNames x; clear_value x
  with_reducible apply stored_ite
  with_reducible assumption
  with_reducible apply State.put_stored
  simp -zeta only [stored_mk, k_si, or_true, true_or]
  with_reducible assumption
  exact kf.get rfl
  with_reducible apply State.siRecord_stored
  with_reducible apply State.flag_stored
  with_reducible assumption
  split
  exact kf.get rfl
  exact kf.get rfl
  exact kf.sub rfl
  with_reducible assumption

theorem State.clearOutputs_stored {s : State} {m : BitVec 8} (hs : State.Stored q b s) (kf : b.free [Part.si]) :
    State.Stored q b (State.clearOutputs s m) := by
  unfold State.clearOutputs
  with_reducible apply stored_foldl
  intro _ _ _
  extract_lets +onlyGivenNames x; clear_value x
  with_reducible apply stored_ite
  with_reducible apply State.setSout_stored
  with_reducible assumption
  exact kf.sub rfl
  with_reducible assumption
  with_reducible assumption

theorem State.updCommit_stored {s : State} (hs : State.Stored q b s) (kf : b.free (postParts ++ [Part.reg RegGroup.si, Part.si, Part.boot])) :
    State.Stored q b (State.updCommit s) := by
  have k_si : b.keep .si = false := kf.get rfl
  unfold State.updCommit
  extract_lets +onlyGivenNames x; clear_value x
  extract_lets +onlyGivenNames x; clear_value x
  extract_lets +onlyGivenNames x; refine (fun (hx : State.Stored q b x) => ?_) ?_ <;> [(try clear_value x); subst x]
  extract_lets +onlyGivenNames x; clear_value x
  extract_lets +onlyGivenNames x; refine (fun (hx : State.Stored q b x) => ?_) ?_ <;> [(try clear_value x); subst x]
  split
  with_reducible apply State.updUpd_stored
  with_reducible apply State.setRunsAll_stored
  simp -zeta only [stored_mk, k_si, or_true, true_or]
  with_reducible assumption
  exact kf.sub rfl
  exact kf.sub rfl
  with_reducible apply stored_ite
  with_reducible apply State.startWindow_stored
  with_reducible apply State.updUpd_stored
  with_reducible assumption
  exact kf.sub rfl
  exact kf.sub rfl
  with_reducible assumption
  with_reducible apply State.setRunsAll_stored
  simp -zeta only [stored_mk, k_si, or_true, true_or]
  with_reducible assumption
  exact kf.sub rfl
  with_reducible apply stored_foldl
  intro _ _ _
  with_reducible apply stored_ite
  with_reducible apply State.moveArm_stored
  with_reducible assumption
  exact kf.sub rfl
  with_reducible assumption
  with_reducible assumption

theorem State.commitBegin_stored {s : State} {n : SafeSnap} (hs : State.Stored q b s) (kf : b.free (postParts ++ [Part.reg RegGroup.si, Part.si])) :
    State.Stored q b (State.commitBegin s n) := by
  unfold State.commitBegin
  extract_lets +onlyGivenNames x; refine (fun (hx : State.Stored q b x) => ?_) ?_ <;> [(try clear_value x); subst x]
  extract_lets +onlyGivenNames x; refine (fun (hx : State.Stored q b x) => ?_) ?_ <;> [(try clear_value x); subst x]
  extract_lets +onlyGivenNames x; refine (fun (hx : State.Stored q b x) => ?_) ?_ <;> [(try clear_value x); subst x]
  split
  with_reducible apply State.clearOutputs_stored
  with_reducible assumption
  exact kf.sub rfl
  with_reducible assumption
  with_reducible apply State.commitFaults_stored
  with_reducible assumption
  exact kf.sub rfl
  with_reducible apply stored_foldl
  intro _ _ _
  with_reducible apply State.showConn_stored
  with_reducible assumption
  exact kf.sub rfl
  with_reducible assumption
  with_reducible apply stored_foldl
  intro _ _ _
  split
  with_reducible apply State.setConn_stored
  with_reducible assumption
  exact kf.sub rfl
  with_reducible assumption
  with_reducible assumption

theorem State.commitArms_stored {s0 : State} {n : SafeSnap} {rs : List ChanResult} (hs0 : State.Stored q b s0) (kf : b.free (postParts ++ [Part.reg RegGroup.si, Part.fresh, Part.si, Part.boot])) :
    State.Stored q b (State.commitArms s0 n rs) := by
  have k_si : b.keep .si = false := kf.get rfl
  unfold State.commitArms
  extract_lets +onlyGivenNames x; refine (fun (hx : State.Stored q b x) => ?_) ?_ <;> [(try clear_value x); subst x]
  extract_lets +onlyGivenNames x; refine (fun (hx : State.Stored q b x) => ?_) ?_ <;> [(try clear_value x); subst x]
  extract_lets +onlyGivenNames x; refine (fun (hx : State.Stored q b x) => ?_) ?_ <;> [(try clear_value x); subst x]
  extract_lets +onlyGivenNames x; clear_value x
  extract_lets +onlyGivenNames x; refine (fun (hx : State.Stored q b x) => ?_) ?_ <;> [(try clear_value x); subst x]
  extract_lets +onlyGivenNames x; clear_value x
  with_reducible apply State.updCommit_stored
  simp -zeta only [stored_mk, k_si, or_true, true_or]
  with_reducible assumption
  exact kf.sub rfl
  with_reducible apply stored_ite
  with_reducible apply State.newNonce_stored
  with_reducible assumption
  exact kf.sub rfl
  with_reducible assumption
  split
  with_reducible apply State.activate_stored
  with_reducible assumption
  exact kf.sub rfl
  with_reducible assumption
  with_reducible apply stored_foldl
  intro _ _ _
  extract_lets +onlyGivenNames x; clear_value x
  extract_lets +onlyGivenNames x; clear_value x
  extract_lets +onlyGivenNames x; clear_value x
  with_reducible apply State.commitArm_stored
  with_reducible assumption
  exact kf.sub rfl
  with_reducible assumption
  with_reducible assumption

theorem State.commitShow_stored {s : State} {n : SafeSnap} {rs : List ChanResult} (hs : State.Stored q b s) (kf : b.free (postParts ++ [Part.reg RegGroup.port, Part.reg RegGroup.stp, Part.reg RegGroup.si, Part.ports, Part.axes, Part.si])) :
    State.Stored q b (State.commitShow s n rs) := by
  unfold State.commitShow
  extract_lets +onlyGivenNames x; refine (fun (hx : State.Stored q b x) => ?_) ?_ <;> [(try clear_value x); subst x]
  extract_lets +onlyGivenNames x; refine (fun (hx : State.Stored q b x) => ?_) ?_ <;> [(try clear_value x); subst x]
  extract_lets +onlyGivenNames x; refine (fun (hx : State.Stored q b x) => ?_) ?_ <;> [(try clear_value x); subst x]
  extract_lets +onlyGivenNames x; refine (fun (hx : State.Stored q b x) => ?_) ?_ <;> [(try clear_value x); subst x]
  split
  with_reducible apply stored_foldl
  intro _ _ _
  with_reducible apply State.returnTelegram_stored
  with_reducible assumption
  exact kf.sub rfl
  with_reducible assumption
  with_reducible assumption
  with_reducible apply State.showOutputs_stored
  with_reducible assumption
  exact kf.sub rfl
  with_reducible apply stored_foldl
  intro _ _ _
  with_reducible apply State.commitOutput_stored
  with_reducible assumption
  exact kf.sub rfl
  with_reducible assumption
  with_reducible apply State.publishAll_stored
  with_reducible assumption
  exact kf.sub rfl
  with_reducible apply stored_foldl
  intro _ _ _
  with_reducible apply State.showArm_stored
  with_reducible assumption
  exact kf.sub rfl
  with_reducible assumption

theorem State.commitEnd_stored {s : State} {n : SafeSnap} {rs : List ChanResult} (hs : State.Stored q b s) (kf : b.free [Part.reg RegGroup.si, Part.si]) :
    State.Stored q b (State.commitEnd s n rs) := by
  have k_si : b.keep .si = false := kf.get rfl
  unfold State.commitEnd
  extract_lets +onlyGivenNames x; clear_value x
  extract_lets +onlyGivenNames x; refine (fun (hx : State.Stored q b x) => ?_) ?_ <;> [(try clear_value x); subst x]
  extract_lets +onlyGivenNames x; refine (fun (hx : State.Stored q b x) => ?_) ?_ <;> [(try clear_value x); subst x]
  extract_lets +onlyGivenNames x; refine (fun (hx : State.Stored q b x) => ?_) ?_ <;> [(try clear_value x); subst x]
  extract_lets +onlyGivenNames x; refine (fun (hx : State.Stored q b x) => ?_) ?_ <;> [(try clear_value x); subst x]
  extract_lets +onlyGivenNames x; refine (fun (hx : State.Stored q b x) => ?_) ?_ <;> [(try clear_value x); subst x]
  extract_lets +onlyGivenNames x; clear_value x
  extract_lets +onlyGivenNames x; clear_value x
  with_reducible apply State.count_stored
  simp -zeta only [stored_mk, k_si, or_true, true_or]
  with_reducible assumption
  exact kf.get rfl
  with_reducible apply stored_foldl
  intro _ _ _
  with_reducible apply State.wr_stored
  with_reducible assumption
  exact kf.get rfl
  with_reducible assumption
  with_reducible apply State.wr_stored
  with_reducible assumption
  exact kf.get rfl
  with_reducible apply State.put_stored
  with_reducible assumption
  exact kf.get rfl
  with_reducible apply stored_ite
  with_reducible apply State.flag_stored
  with_reducible assumption
  exact kf.get rfl
  with_reducible assumption
  with_reducible apply State.put_stored
  with_reducible apply State.put_stored
  with_reducible assumption
  exact kf.get rfl
  exact kf.get rfl

theorem execSeparationCommit_stored {s : State} (hs : State.Stored q b s) (kf : b.free (postParts ++ [Part.reg RegGroup.port, Part.reg RegGroup.stp, Part.reg RegGroup.si, Part.now, Part.fresh, Part.ports, Part.axes, Part.si, Part.boot])) :
    answers (execSeparationCommit s) (State.Stored q b) := by
  unfold execSeparationCommit
  split
  with_reducible apply answers_next
  with_reducible assumption
  extract_lets +onlyGivenNames x; refine (fun (hx : State.Stored q b x) => ?_) ?_ <;> [(try clear_value x); subst x]
  extract_lets +onlyGivenNames x; clear_value x
  extract_lets +onlyGivenNames x; refine (fun (hx : State.Stored q b x) => ?_) ?_ <;> [(try clear_value x); subst x]
  extract_lets +onlyGivenNames x; clear_value x
  with_reducible apply answers_next
  with_reducible apply State.commitEnd_stored
  with_reducible apply State.commitShow_stored
  with_reducible apply State.commitArms_stored
  with_reducible assumption
  exact kf.sub rfl
  exact kf.sub rfl
  exact kf.sub rfl
  with_reducible apply State.commitBegin_stored
  with_reducible assumption
  exact kf.sub rfl
  with_reducible apply State.advance_stored
  with_reducible apply State.endWindow_stored
  with_reducible apply State.endWindow_stored
  with_reducible assumption
  exact kf.sub rfl
  exact kf.sub rfl
  exact kf.sub rfl

theorem State.safeClockFault_stored {s : State} (hs : State.Stored q b s) (kf : b.free (postParts ++ [Part.reg RegGroup.port, Part.reg RegGroup.stp, Part.reg RegGroup.si, Part.ports, Part.axes, Part.si, Part.boot])) :
    State.Stored q b (State.safeClockFault s) := by
  have k_si : b.keep .si = false := kf.get rfl
  unfold State.safeClockFault
  extract_lets +onlyGivenNames x; clear_value x
  extract_lets +onlyGivenNames x; refine (fun (hx : State.Stored q b x) => ?_) ?_ <;> [(try clear_value x); subst x]
  extract_lets +onlyGivenNames x; refine (fun (hx : State.Stored q b x) => ?_) ?_ <;> [(try clear_value x); subst x]
  with_reducible apply stored_foldl
  intro _ _ _
  with_reducible apply State.stoGroup_stored
  with_reducible assumption
  exact kf.sub rfl
  with_reducible apply State.showOutputs_stored
  with_reducible assumption
  exact kf.sub rfl
  with_reducible apply stored_foldl
  intro _ _ _
  with_reducible apply State.outOff_stored
  with_reducible assumption
  exact kf.sub rfl
  with_reducible assumption
  with_reducible apply State.mishap_stored
  simp -zeta only [stored_mk, k_si, or_true, true_or]
  with_reducible assumption
  exact kf.sub rfl

theorem State.chainState_stored {s : State} {st : Nat} (hs : State.Stored q b s) (kf : b.free (postParts ++ [Part.reg RegGroup.ch, Part.ic, Part.boot])) :
    State.Stored q b (State.chainState s st) := by
  unfold State.chainState
  extract_lets +onlyGivenNames x; clear_value x
  with_reducible apply stored_ite
  with_reducible assumption
  with_reducible apply State.post_stored
  with_reducible apply State.raise_stored
  with_reducible apply State.put_stored
  with_reducible apply stored_ite
  with_reducible apply State.mishap_stored
  with_reducible assumption
  exact kf.sub rfl
  with_reducible assumption
  exact kf.get rfl
  exact kf.sub rfl
  exact kf.sub rfl

theorem State.chainLost_stored {s : State} (hs : State.Stored q b s) (kf : b.free [Part.reg RegGroup.tb, Part.time, Part.ic, Part.chain]) :
    State.Stored q b s.chainLost := by
  have k1 : b.keep .time = false := kf.get rfl
  have h : State.Stored q b { s with time := { s.time with chainValid := false } } := by
    simp only [stored_mk, k1, or_true, true_or]
    exact hs
  exact stored_ite (State.toHoldover_stored (State.raise_stored h (kf.sub rfl)) (kf.sub rfl)) h

theorem State.toListen_stored {s : State} (hs : State.Stored q b s) (kf : b.free (postParts ++ [Part.reg RegGroup.tb, Part.reg RegGroup.ch, Part.time, Part.ic, Part.chain, Part.boot])) :
    State.Stored q b (State.toListen s) := by
  have k_chain : b.keep .chain = false := kf.get rfl
  unfold State.toListen
  extract_lets +onlyGivenNames x; refine (fun (hx : State.Stored q b x) => ?_) ?_ <;> [(try clear_value x); subst x]
  extract_lets +onlyGivenNames x; clear_value x
  with_reducible apply State.chainState_stored
  simp -zeta only [stored_mk, k_chain, or_true, true_or]
  with_reducible assumption
  exact kf.sub rfl
  with_reducible apply stored_ite
  with_reducible apply State.chainLost_stored
  with_reducible assumption
  exact kf.sub rfl
  with_reducible assumption

theorem State.claspModes_stored {s : State} {window : Bool} (hs : State.Stored q b s) (kf : b.free [Part.reg RegGroup.cp]) :
    State.Stored q b (State.claspModes s window) := by
  unfold State.claspModes
  with_reducible apply stored_foldl
  intro _ _ _
  with_reducible apply stored_ite
  with_reducible apply State.putB_stored
  with_reducible assumption
  exact kf.get rfl
  with_reducible assumption
  with_reducible assumption

theorem State.chainOff_stored {s : State} (hs : State.Stored q b s) (kf : b.free (postParts ++ [Part.reg RegGroup.tb, Part.reg RegGroup.ch, Part.reg RegGroup.cp, Part.time, Part.ic, Part.chain, Part.boot])) :
    State.Stored q b (State.chainOff s) := by
  have k_chain : b.keep .chain = false := kf.get rfl
  unfold State.chainOff
  extract_lets +onlyGivenNames x; refine (fun (hx : State.Stored q b x) => ?_) ?_ <;> [(try clear_value x); subst x]
  extract_lets +onlyGivenNames x; clear_value x
  with_reducible apply State.chainState_stored
  with_reducible apply State.put_stored
  with_reducible apply State.claspModes_stored
  simp -zeta only [stored_mk, k_chain, or_true, true_or]
  with_reducible assumption
  exact kf.sub rfl
  exact kf.get rfl
  exact kf.sub rfl
  with_reducible apply stored_ite
  with_reducible apply State.chainLost_stored
  with_reducible assumption
  exact kf.sub rfl
  with_reducible assumption

theorem State.chainCtrl_stored {s : State} {v : Word} (hs : State.Stored q b s) (kf : b.free (postParts ++ [Part.reg RegGroup.tb, Part.reg RegGroup.ch, Part.reg RegGroup.cp, Part.time, Part.ic, Part.chain, Part.boot])) :
    State.Stored q b (State.chainCtrl s v) := by
  have k_chain : b.keep .chain = false := kf.get rfl
  unfold State.chainCtrl
  extract_lets +onlyGivenNames x; refine (fun (hx : State.Stored q b x) => ?_) ?_ <;> [(try clear_value x); subst x]
  extract_lets +onlyGivenNames x; clear_value x
  extract_lets +onlyGivenNames x; clear_value x
  extract_lets +onlyGivenNames x; clear_value x
  with_reducible apply stored_ite
  with_reducible assumption
  with_reducible apply stored_ite
  with_reducible apply State.chainOff_stored
  with_reducible apply State.put_stored
  with_reducible assumption
  exact kf.get rfl
  exact kf.sub rfl
  with_reducible apply stored_ite
  with_reducible apply State.toListen_stored
  with_reducible apply State.wr_stored
  with_reducible apply State.put_stored
  simp -zeta only [stored_mk, k_chain, or_true, true_or]
  with_reducible assumption
  exact kf.get rfl
  exact kf.get rfl
  exact kf.sub rfl
  with_reducible apply State.flag_stored
  with_reducible assumption
  exact kf.get rfl
  with_reducible apply State.putB_stored
  with_reducible assumption
  exact kf.get rfl

theorem execChainEnWrite_stored {v : Word} {s : State} (hs : State.Stored q b s) (kf : b.free (postParts ++ [Part.reg RegGroup.tb, Part.reg RegGroup.ch, Part.reg RegGroup.cp, Part.time, Part.ic, Part.chain, Part.boot])) :
    answers (execChainEnWrite v s) (State.Stored q b) := by
  unfold execChainEnWrite
  with_reducible apply answers_next
  with_reducible apply State.chainCtrl_stored
  with_reducible assumption
  exact kf.sub rfl

theorem State.schedWrite_stored {s : State} {o : Nat} {bs : List Byte} (hs : State.Stored q b s) (kf : b.free [Part.reg RegGroup.ch, Part.mem]) :
    State.Stored q b (State.schedWrite s o bs) := by
  unfold State.schedWrite
  with_reducible apply stored_ite
  with_reducible apply State.flag_stored
  with_reducible assumption
  exact kf.get rfl
  with_reducible apply State.mwrite_stored
  with_reducible assumption
  exact kf.sub rfl

theorem execChainScheduleWrite_stored {o : Nat} {bytes : List Byte} {s : State} (hs : State.Stored q b s) (kf : b.free [Part.reg RegGroup.ch, Part.mem]) :
    answers (execChainScheduleWrite o bytes s) (State.Stored q b) := by
  unfold execChainScheduleWrite
  with_reducible apply answers_next
  with_reducible apply State.schedWrite_stored
  with_reducible assumption
  exact kf.sub rfl

theorem State.slotStat_stored {s : State} {k : Nat} {b_ : Bool} {x : Nat} (hs : State.Stored q b s) (kf : b.free [Part.reg RegGroup.ch]) :
    State.Stored q b (State.slotStat s k b_ x) := by
  unfold State.slotStat
  extract_lets +onlyGivenNames x; clear_value x
  with_reducible apply State.put_stored
  with_reducible assumption
  split
  exact kf.get rfl
  exact kf.get rfl

theorem State.toWindow_stored {s : State} (hs : State.Stored q b s) (kf : b.free [Part.reg RegGroup.cp]) :
    State.Stored q b (State.toWindow s) := by
  unfold State.toWindow
  with_reducible apply State.claspModes_stored
  with_reducible assumption
  exact kf.sub rfl

theorem State.syncStep_stored {s : State} {f : Frame} {own : Time} (hs : State.Stored q b s) (kf : b.free [Part.time]) :
    State.Stored q b (State.syncStep s f own) := by
  unfold State.syncStep
  split
  with_reducible apply stored_ite
  with_reducible apply State.stepKnown_stored
  with_reducible assumption
  exact kf.sub rfl
  with_reducible assumption
  with_reducible assumption

theorem State.seeGateway_stored {s : State} {f : Frame} (hs : State.Stored q b s) (kf : b.free (postParts ++ [Part.reg RegGroup.tb, Part.reg RegGroup.ch, Part.time, Part.chain])) :
    State.Stored q b (State.seeGateway s f) := by
  have k_chain : b.keep .chain = false := kf.get rfl
  have k_time : b.keep .time = false := kf.get rfl
  unfold State.seeGateway
  extract_lets +onlyGivenNames x; clear_value x
  extract_lets +onlyGivenNames x; clear_value x
  extract_lets +onlyGivenNames x; refine (fun (hx : State.Stored q b x) => ?_) ?_ <;> [(try clear_value x); subst x]
  with_reducible apply stored_ite
  with_reducible assumption
  with_reducible apply stored_ite
  with_reducible apply State.post_stored
  with_reducible apply State.put_stored
  with_reducible apply State.flag_stored
  with_reducible assumption
  exact kf.get rfl
  exact kf.get rfl
  exact kf.sub rfl
  with_reducible assumption
  with_reducible apply stored_ite
  with_reducible apply State.reacquire_stored
  with_reducible apply State.put_stored
  simp -zeta only [stored_mk, k_chain, k_time, or_true, true_or]
  with_reducible assumption
  exact kf.get rfl
  exact kf.sub rfl
  with_reducible assumption

theorem State.adopt_stored {s : State} {c : Sched} {f : Frame} {st : Int} (hs : State.Stored q b s) (kf : b.free (postParts ++ [Part.reg RegGroup.tb, Part.reg RegGroup.ch, Part.reg RegGroup.cp, Part.seq, Part.time, Part.ic, Part.chain, Part.boot])) :
    State.Stored q b (State.adopt s c f st) := by
  have k_chain : b.keep .chain = false := kf.get rfl
  have k_seq : b.keep .seq = false := kf.get rfl
  unfold State.adopt
  extract_lets +onlyGivenNames x; clear_value x
  extract_lets +onlyGivenNames x; subst x
  extract_lets +onlyGivenNames x; clear_value x
  extract_lets +onlyGivenNames x; clear_value x
  extract_lets +onlyGivenNames x; clear_value x
  extract_lets +onlyGivenNames x; refine (fun (hx : State.Stored q b x) => ?_) ?_ <;> [(try clear_value x); subst x]
  extract_lets +onlyGivenNames x; clear_value x
  extract_lets +onlyGivenNames x; refine (fun (hx : State.Stored q b x) => ?_) ?_ <;> [(try clear_value x); subst x]
  extract_lets +onlyGivenNames x; refine (fun (hx : State.Stored q b x) => ?_) ?_ <;> [(try clear_value x); subst x]
  extract_lets +onlyGivenNames x; clear_value x
  extract_lets +onlyGivenNames x; refine (fun (hx : State.Stored q b x) => ?_) ?_ <;> [(try clear_value x); subst x]
  with_reducible apply State.chainState_stored
  with_reducible apply State.toWindow_stored
  with_reducible assumption
  exact kf.sub rfl
  exact kf.sub rfl
  simp -zeta only [stored_mk, k_chain, k_seq, or_true, true_or]
  with_reducible assumption
  with_reducible apply State.seeGateway_stored
  with_reducible apply State.syncStep_stored
  with_reducible assumption
  exact kf.sub rfl
  exact kf.sub rfl
  with_reducible apply State.wr_stored
  simp -zeta only [stored_mk, k_chain, k_seq, or_true, true_or]
  with_reducible assumption
  exact kf.get rfl
  with_reducible apply stored_ite
  simp -zeta only [stored_mk, k_chain, k_seq, or_true, true_or]
  with_reducible assumption
  with_reducible assumption

theorem State.listenTo_stored {s : State} {c : Sched} {f : Frame} {st : Int} (hs : State.Stored q b s) (kf : b.free (postParts ++ [Part.reg RegGroup.tb, Part.reg RegGroup.ch, Part.reg RegGroup.cp, Part.seq, Part.time, Part.ic, Part.chain, Part.boot])) :
    State.Stored q b (State.listenTo s c f st) := by
  have k_chain : b.keep .chain = false := kf.get rfl
  unfold State.listenTo
  extract_lets +onlyGivenNames x; clear_value x
  extract_lets +onlyGivenNames x; refine (fun (hx : State.Stored q b x) => ?_) ?_ <;> [(try clear_value x); subst x]
  with_reducible apply stored_ite
  with_reducible apply stored_ite
  with_reducible apply State.adopt_stored
  with_reducible assumption
  exact kf.sub rfl
  with_reducible apply State.flag_stored
  with_reducible assumption
  exact kf.get rfl
  with_reducible assumption
  simp -zeta only [stored_mk, k_chain, or_true, true_or]
  with_reducible assumption

theorem State.contention_stored {s : State} {c : Sched} (hs : State.Stored q b s) (kf : b.free (postParts ++ [Part.reg RegGroup.tb, Part.reg RegGroup.ch, Part.time, Part.ic, Part.chain, Part.boot])) :
    State.Stored q b (State.contention s c) := by
  have k_chain : b.keep .chain = false := kf.get rfl
  unfold State.contention
  extract_lets +onlyGivenNames x; clear_value x
  extract_lets +onlyGivenNames x; clear_value x
  extract_lets +onlyGivenNames x; refine (fun (hx : State.Stored q b x) => ?_) ?_ <;> [(try clear_value x); subst x]
  with_reducible apply State.toListen_stored
  with_reducible apply State.put_stored
  with_reducible apply State.flag_stored
  with_reducible assumption
  exact kf.get rfl
  exact kf.get rfl
  exact kf.sub rfl
  simp -zeta only [stored_mk, k_chain, or_true, true_or]
  with_reducible assumption

theorem State.invalidFrame_stored {s : State} {k : Nat} {b_ : Bool} (hs : State.Stored q b s) (kf : b.free [Part.reg RegGroup.ch, Part.chain]) :
    State.Stored q b (State.invalidFrame s k b_) := by
  have k_chain : b.keep .chain = false := kf.get rfl
  unfold State.invalidFrame
  extract_lets +onlyGivenNames x; refine (fun (hx : State.Stored q b x) => ?_) ?_ <;> [(try clear_value x); subst x]
  extract_lets +onlyGivenNames x; clear_value x
  with_reducible apply stored_ite
  with_reducible assumption
  with_reducible apply State.slotStat_stored
  simp -zeta only [stored_mk, k_chain, or_true, true_or]
  with_reducible assumption
  exact kf.sub rfl
  with_reducible apply State.bump_stored
  with_reducible assumption
  exact kf.get rfl

theorem State.invalidAt_stored {s : State} {c : Sched} {b_ : Bool} {t_ : Time} (hs : State.Stored q b s) (kf : b.free [Part.reg RegGroup.ch, Part.chain]) :
    State.Stored q b (State.invalidAt s c b_ t_) := by
  unfold State.invalidAt
  split
  with_reducible apply State.invalidFrame_stored
  with_reducible assumption
  exact kf.sub rfl
  with_reducible apply State.bump_stored
  with_reducible assumption
  exact kf.get rfl

theorem State.takeSync_stored {s : State} {f : Frame} {b_ : Bool} {dev : Int} (hs : State.Stored q b s) (kf : b.free [Part.chain]) :
    State.Stored q b (State.takeSync s f b_ dev) := by
  have k_chain : b.keep .chain = false := kf.get rfl
  unfold State.takeSync
  extract_lets +onlyGivenNames x; clear_value x
  extract_lets +onlyGivenNames x; clear_value x
  simp -zeta only [stored_mk, k_chain, or_true, true_or]
  with_reducible assumption

theorem State.takeStream_stored {s : State} {q_ : ChainStream} {b_ : Bool} {x : List Byte} (hs : State.Stored q b s) (kf : b.free [Part.reg RegGroup.ch, Part.mem, Part.chain]) :
    State.Stored q b (State.takeStream s q_ b_ x) := by
  have k_chain : b.keep .chain = false := kf.get rfl
  unfold State.takeStream
  extract_lets +onlyGivenNames x; clear_value x
  extract_lets +onlyGivenNames x; refine (fun (hx3 : ∀ y, State.Stored q b y → State.Stored q b (x y)) => ?_) ?_ <;> [(try clear_value x); subst x]
  extract_lets +onlyGivenNames x; refine (fun (hx : State.Stored q b x) => ?_) ?_ <;> [(try clear_value x); subst x]
  split
  with_reducible apply hx3
  with_reducible assumption
  with_reducible apply stored_ite
  with_reducible assumption
  with_reducible apply stored_ite
  with_reducible assumption
  with_reducible apply hx3
  with_reducible assumption
  with_reducible apply State.bump_stored
  with_reducible assumption
  exact kf.get rfl
  intro _ _
  simp -zeta only
  extract_lets +onlyGivenNames x; clear_value x
  with_reducible apply State.bufWrite_stored
  simp -zeta only [stored_mk, k_chain, or_true, true_or]
  with_reducible assumption
  exact kf.sub rfl

theorem State.takeContents_stored {s : State} {c : Sched} {k : Nat} {b_ : Bool} {l : List (Nat × Nat × List Byte)} {stamp : Int} (hs : State.Stored q b s) (kf : b.free [Part.reg RegGroup.ch, Part.mem, Part.si, Part.chain]) :
    State.Stored q b (State.takeContents s c k b_ l stamp) := by
  have k_chain : b.keep .chain = false := kf.get rfl
  unfold State.takeContents
  extract_lets +onlyGivenNames x; refine (fun (hx : State.Stored q b x) => ?_) ?_ <;> [(try clear_value x); subst x]
  with_reducible apply stored_foldl
  intro _ _ _
  extract_lets +onlyGivenNames x; clear_value x
  with_reducible apply stored_ite
  with_reducible assumption
  with_reducible apply State.signetCopy_stored
  simp -zeta only [stored_mk, k_chain, or_true, true_or]
  with_reducible assumption
  exact kf.sub rfl
  with_reducible assumption
  with_reducible apply stored_foldl
  intro _ _ _
  with_reducible apply stored_ite
  split
  with_reducible apply State.takeStream_stored
  with_reducible assumption
  exact kf.sub rfl
  with_reducible assumption
  with_reducible assumption
  with_reducible assumption

theorem State.chainFrame_stored {s : State} {c : Sched} {f : Frame} {b_ : Bool} {t_ : Time} (hs : State.Stored q b s) (kf : b.free (postParts ++ [Part.reg RegGroup.tb, Part.reg RegGroup.ch, Part.mem, Part.time, Part.si, Part.chain])) :
    State.Stored q b (State.chainFrame s c f b_ t_) := by
  have k_chain : b.keep .chain = false := kf.get rfl
  unfold State.chainFrame
  extract_lets +onlyGivenNames x; refine (fun (hx : State.Stored q b x) => ?_) ?_ <;> [(try clear_value x); subst x]
  extract_lets +onlyGivenNames x; clear_value x
  extract_lets +onlyGivenNames x; refine (fun (hx : State.Stored q b x) => ?_) ?_ <;> [(try clear_value x); subst x]
  extract_lets +onlyGivenNames x; refine (fun (hx : State.Stored q b x) => ?_) ?_ <;> [(try clear_value x); subst x]
  split
  extract_lets +onlyGivenNames x; clear_value x
  extract_lets +onlyGivenNames x; refine (fun (hx : State.Stored q b x) => ?_) ?_ <;> [(try clear_value x); subst x]
  split
  with_reducible apply stored_ite
  with_reducible apply State.takeContents_stored
  with_reducible assumption
  exact kf.sub rfl
  with_reducible apply State.invalidFrame_stored
  with_reducible assumption
  exact kf.sub rfl
  with_reducible apply State.invalidFrame_stored
  with_reducible assumption
  exact kf.sub rfl
  with_reducible apply stored_ite
  with_reducible apply State.syncStep_stored
  with_reducible apply State.takeSync_stored
  with_reducible assumption
  exact kf.sub rfl
  exact kf.sub rfl
  with_reducible assumption
  with_reducible apply State.invalidAt_stored
  with_reducible assumption
  exact kf.sub rfl
  with_reducible apply stored_ite
  with_reducible apply State.seeGateway_stored
  with_reducible assumption
  exact kf.sub rfl
  with_reducible assumption
  simp -zeta only [stored_mk, k_chain, or_true, true_or]
  with_reducible assumption
  with_reducible apply State.putB_stored
  with_reducible apply State.slotStat_stored
  with_reducible assumption
  exact kf.sub rfl
  exact kf.get rfl

theorem State.chainReport_stored {s : State} (hs : State.Stored q b s) (kf : b.free (postParts ++ [Part.reg RegGroup.tb, Part.reg RegGroup.ch, Part.time, Part.ic, Part.chain, Part.boot])) :
    State.Stored q b s.chainReport := by
  have k1 : b.keep .chain = false := kf.get rfl
  unfold State.chainReport
  extract_lets n s0 s1 src s2
  have h0 : State.Stored q b s0 := stored_ite (State.mishap_stored hs (kf.sub rfl)) hs
  have h1 : State.Stored q b s1 := State.bump_stored (State.put_stored (State.flag_stored h0 (kf.get rfl)) (kf.get rfl)) (kf.get rfl)
  have h2 : State.Stored q b s2 := by
    dsimp only [s2]
    simp only [stored_mk, k1, or_true, true_or]
    exact h1
  exact stored_ite (State.bump_stored (State.toListen_stored h2 (kf.sub rfl)) (kf.get rfl)) h2

theorem State.onLane_stored {s : State} {c : Sched} {bytes : List Byte} {t_ : Time} (hs : State.Stored q b s) (kf : b.free [Part.chain]) :
    State.Stored q b (State.onLane s c bytes t_) := by
  have k_chain : b.keep .chain = false := kf.get rfl
  unfold State.onLane
  extract_lets +onlyGivenNames x; clear_value x
  simp -zeta only [stored_mk, k_chain, or_true, true_or]
  with_reducible assumption

theorem execChainFrameRx_stored {b_ : Bool} {x : ChainRx} {t_ : Nat} {s : State} (hs : State.Stored q b s) (kf :
    b.free (postParts ++ [Part.reg RegGroup.tb, Part.reg RegGroup.ch, Part.reg RegGroup.cp, Part.now, Part.mem, Part.seq, Part.time, Part.ic, Part.si, Part.chain, Part.boot])) :
  answers (execChainFrameRx b_ x t_ s) (State.Stored q b) := by
  have k1 : b.keep .chain = false := kf.get rfl
  unfold execChainFrameRx
  extract_lets u
  have hu : State.Stored q b u := State.advance_stored hs (kf.sub rfl)
  clear_value u
  have hc : ∀ {v : State} (c : Sched), State.Stored q b v → State.Stored q b (v.contention c) := fun c h => State.contention_stored h (kf.sub rfl)
  have hl : ∀ {v : State} (c : Sched) (f : Frame) w, State.Stored q b v → State.Stored q b (v.listenTo c f w) := fun c f w h => State.listenTo_stored h (kf.sub rfl)
  have hf : ∀ {v : State} (c : Sched) (f : Frame), State.Stored q b v → State.Stored q b (v.chainFrame c f b_ t_) := fun c f h => State.chainFrame_stored h (kf.sub rfl)
  have hr := State.chainReport_stored hu (kf.sub rfl)
  split
  · exact hu
  · rename_i c _
    refine answers_ite hu ?_
    split
    · refine answers_next ?_
      simp only [stored_mk, k1, or_true, true_or]
      exact hu
    · extract_lets l
      refine answers_next (State.wr_stored ?_ ?_)
      · simp only [stored_mk, k1, or_true, true_or]
        exact hu
      · split <;> exact kf.get rfl
    · exact answers_ite (hc c hr) hr
    · rename_i bytes _
      have ho : ∀ {v : State}, State.Stored q b v → State.Stored q b (v.onLane c bytes t_) := fun h => State.onLane_stored h (kf.sub rfl)
      split
      · extract_lets v w
        have hw : State.Stored q b w := stored_ite (State.bump_stored (ho hu) (kf.get rfl)) (State.invalidAt_stored (ho hu) (kf.sub rfl))
        exact answers_ite (hc c hw) hw
      · rename_i f _
        extract_lets v other w
        have hv : State.Stored q b v := stored_ite (State.flag_stored hu (kf.get rfl)) hu
        have hw : State.Stored q b w := stored_ite (ho hv) hv
        clear_value v w
        refine answers_ite (answers_ite ?_ (hf c f hw)) (answers_ite ?_ (hf c f hw))
        · have hx : State.Stored q b (w.contention c) := hc c hw
          split
          · exact answers_next (stored_ite hx (hl c f _ hx))
          · exact hx
        · split
          · exact answers_next (stored_ite (State.bump_stored hw (kf.get rfl)) (stored_ite (hl c f _ hw) hw))
          · exact answers_next (State.bump_stored hw (kf.get rfl))

theorem State.chainStep_stored {s : State} {d : Int} (hs : State.Stored q b s) (kf : b.free (postParts ++ [Part.reg RegGroup.tb, Part.reg RegGroup.tpo, Part.time, Part.pulses])) :
    State.Stored q b (State.chainStep s d) := by
  have k_time : b.keep .time = false := kf.get rfl
  unfold State.chainStep
  extract_lets +onlyGivenNames x; clear_value x
  extract_lets +onlyGivenNames x; refine (fun (hx : State.Stored q b x) => ?_) ?_ <;> [(try clear_value x); subst x]
  extract_lets +onlyGivenNames x; refine (fun (hx : State.Stored q b x) => ?_) ?_ <;> [(try clear_value x); subst x]
  extract_lets +onlyGivenNames x; refine (fun (hx : State.Stored q b x) => ?_) ?_ <;> [(try clear_value x); subst x]
  with_reducible apply State.post_stored
  with_reducible assumption
  exact kf.sub rfl
  with_reducible apply stored_ite
  with_reducible apply State.put_stored
  with_reducible assumption
  exact kf.get rfl
  with_reducible assumption
  with_reducible apply stored_foldl
  intro _ _ _
  with_reducible apply State.stopPulse_stored
  with_reducible assumption
  exact kf.sub rfl
  with_reducible assumption
  simp -zeta only [stored_mk, k_time, or_true, true_or]
  with_reducible assumption

theorem State.closeCycle_stored {s : State} {c : Sched} (hs : State.Stored q b s) (kf : b.free [Part.reg RegGroup.ch, Part.chain]) :
    State.Stored q b (State.closeCycle s c) := by
  have k_chain : b.keep .chain = false := kf.get rfl
  unfold State.closeCycle
  extract_lets +onlyGivenNames x; clear_value x
  extract_lets +onlyGivenNames x; clear_value x
  extract_lets +onlyGivenNames x; clear_value x
  extract_lets +onlyGivenNames x; refine (fun (hx : State.Stored q b x) => ?_) ?_ <;> [(try clear_value x); subst x]
  extract_lets +onlyGivenNames x; clear_value x
  extract_lets +onlyGivenNames x; clear_value x
  extract_lets +onlyGivenNames x; clear_value x
  extract_lets +onlyGivenNames x; clear_value x
  extract_lets +onlyGivenNames x; clear_value x
  extract_lets +onlyGivenNames x; clear_value x
  extract_lets +onlyGivenNames x; refine (fun (hx : State.Stored q b x) => ?_) ?_ <;> [(try clear_value x); subst x]
  extract_lets +onlyGivenNames x; clear_value x
  extract_lets +onlyGivenNames x; clear_value x
  with_reducible apply State.putB_stored
  simp -zeta only [stored_mk, k_chain, or_true, true_or]
  with_reducible assumption
  exact kf.get rfl
  with_reducible apply State.putB_stored
  with_reducible assumption
  exact kf.get rfl
  with_reducible apply stored_foldl
  intro _ _ _
  with_reducible apply stored_foldl
  intro _ _ _
  extract_lets +onlyGivenNames x; refine (fun (hx : State.Stored q b x) => ?_) ?_ <;> [(try clear_value x); subst x]
  with_reducible apply stored_ite
  with_reducible assumption
  with_reducible apply State.slotStat_stored
  with_reducible assumption
  exact kf.sub rfl
  with_reducible apply State.bump_stored
  with_reducible assumption
  exact kf.get rfl
  with_reducible assumption
  with_reducible assumption

theorem State.cycleChecks_stored {s : State} {c : Sched} {synced : Bool} (hs : State.Stored q b s) (kf : b.free (postParts ++ [Part.reg RegGroup.tb, Part.reg RegGroup.ch, Part.time, Part.ic, Part.chain, Part.boot])) :
    State.Stored q b (State.cycleChecks s c synced) := by
  have k_chain : b.keep .chain = false := kf.get rfl
  unfold State.cycleChecks
  extract_lets +onlyGivenNames x; clear_value x
  extract_lets +onlyGivenNames x; clear_value x
  extract_lets +onlyGivenNames x; refine (fun (hx : State.Stored q b x) => ?_) ?_ <;> [(try clear_value x); subst x]
  with_reducible apply stored_ite
  with_reducible apply State.chainState_stored
  simp -zeta only [stored_mk, k_chain, or_true, true_or]
  with_reducible assumption
  exact kf.sub rfl
  with_reducible apply stored_ite
  with_reducible apply stored_ite
  simp -zeta only [stored_mk, k_chain, or_true, true_or]
  with_reducible assumption
  with_reducible apply stored_ite
  with_reducible apply State.toListen_stored
  with_reducible assumption
  exact kf.sub rfl
  with_reducible apply stored_ite
  with_reducible apply State.chainState_stored
  with_reducible assumption
  exact kf.sub rfl
  with_reducible assumption
  with_reducible assumption
  simp -zeta only [stored_mk, k_chain, or_true, true_or]
  with_reducible assumption

theorem execChainCycleStart_stored {s : State} (hs : State.Stored q b s) (kf : b.free (postParts ++ [Part.reg RegGroup.tb, Part.reg RegGroup.tpo, Part.reg RegGroup.ch, Part.now, Part.time, Part.pulses, Part.ic, Part.chain, Part.boot])) :
    answers (execChainCycleStart s) (State.Stored q b) := by
  have k_chain : b.keep .chain = false := kf.get rfl
  have k_time : b.keep .time = false := kf.get rfl
  unfold execChainCycleStart
  split
  extract_lets +onlyGivenNames x; clear_value x
  extract_lets +onlyGivenNames x; refine (fun (hx : State.Stored q b x) => ?_) ?_ <;> [(try clear_value x); subst x]
  extract_lets +onlyGivenNames x; clear_value x
  extract_lets +onlyGivenNames x; refine (fun (hx : State.Stored q b x) => ?_) ?_ <;> [(try clear_value x); subst x]
  extract_lets +onlyGivenNames x; clear_value x
  extract_lets +onlyGivenNames x; clear_value x
  extract_lets +onlyGivenNames x; refine (fun (hx : State.Stored q b x) => ?_) ?_ <;> [(try clear_value x); subst x]
  extract_lets +onlyGivenNames x; refine (fun (hx : State.Stored q b x) => ?_) ?_ <;> [(try clear_value x); subst x]
  extract_lets +onlyGivenNames x; clear_value x
  extract_lets +onlyGivenNames x; refine (fun (hx : State.Stored q b x) => ?_) ?_ <;> [(try clear_value x); subst x]
  extract_lets +onlyGivenNames x; clear_value x
  extract_lets +onlyGivenNames x; clear_value x
  extract_lets +onlyGivenNames x; refine (fun (hx : State.Stored q b x) => ?_) ?_ <;> [(try clear_value x); subst x]
  with_reducible apply answers_ite
  with_reducible apply answers_next
  with_reducible assumption
  with_reducible apply answers_next
  with_reducible assumption
  split
  simp -zeta only [stored_mk, k_chain, k_time, or_true, true_or]
  with_reducible assumption
  with_reducible assumption
  split
  with_reducible apply stored_ite
  with_reducible apply State.chainStep_stored
  simp -zeta only [stored_mk, k_chain, k_time, or_true, true_or]
  with_reducible assumption
  exact kf.sub rfl
  with_reducible assumption
  with_reducible assumption
  with_reducible apply State.cycleChecks_stored
  with_reducible assumption
  exact kf.sub rfl
  with_reducible apply State.wr_stored
  simp -zeta only [stored_mk, k_chain, k_time, or_true, true_or]
  with_reducible assumption
  exact kf.get rfl
  with_reducible apply State.closeCycle_stored
  with_reducible assumption
  exact kf.sub rfl
  with_reducible apply State.advance_stored
  with_reducible assumption
  exact kf.sub rfl
  with_reducible apply answers_next
  with_reducible assumption

theorem execChainBuildPoint_stored {k : Fin 64} {s : State} (hs : State.Stored q b s) (kf : b.free [Part.reg RegGroup.ch, Part.now, Part.si, Part.chain]) :
    answers (execChainBuildPoint k s) (State.Stored q b) := by
  have k_chain : b.keep .chain = false := kf.get rfl
  have k_si : b.keep .si = false := kf.get rfl
  unfold execChainBuildPoint
  split
  with_reducible apply answers_next
  with_reducible assumption
  split
  with_reducible apply answers_next
  with_reducible assumption
  extract_lets +onlyGivenNames x; refine (fun (hx : State.Stored q b x) => ?_) ?_ <;> [(try clear_value x); subst x]
  extract_lets +onlyGivenNames x; clear_value x
  extract_lets +onlyGivenNames x; clear_value x
  extract_lets +onlyGivenNames x; clear_value x
  extract_lets +onlyGivenNames x; clear_value x
  extract_lets +onlyGivenNames x; refine (fun (hx : State.Stored q b x) => ?_) ?_ <;> [(try clear_value x); subst x]
  extract_lets +onlyGivenNames x; clear_value x
  with_reducible apply answers_ite
  with_reducible apply answers_next
  with_reducible assumption
  with_reducible apply answers_next
  with_reducible apply State.putB_stored
  simp -zeta only [stored_mk, k_chain, k_si, or_true, true_or]
  with_reducible assumption
  exact kf.get rfl
  with_reducible apply stored_foldl
  intro _ _ _
  extract_lets +onlyGivenNames x; clear_value x
  simp -zeta only [stored_mk, k_chain, k_si, or_true, true_or]
  with_reducible assumption
  with_reducible assumption
  split
  with_reducible apply State.advance_stored
  with_reducible assumption
  exact kf.sub rfl
  with_reducible assumption

theorem State.launch_stored {s : State} {c : Sched} {k : Nat} {q_ : ChainSlot} {start : Time} {cs : Bool} (hs : State.Stored q b s) (kf : b.free (postParts ++ [Part.reg RegGroup.tb, Part.reg RegGroup.ch, Part.now, Part.time, Part.ic, Part.chain, Part.boot])) :
    State.Stored q b (State.launch s c k q_ start cs) := by
  have k_chain : b.keep .chain = false := kf.get rfl
  unfold State.launch
  extract_lets +onlyGivenNames x; refine (fun (hx : State.Stored q b x) => ?_) ?_ <;> [(try clear_value x); subst x]
  extract_lets +onlyGivenNames x; clear_value x
  extract_lets +onlyGivenNames x; clear_value x
  extract_lets +onlyGivenNames x; clear_value x
  extract_lets +onlyGivenNames x; refine (fun (hx : State.Stored q b x) => ?_) ?_ <;> [(try clear_value x); subst x]
  extract_lets +onlyGivenNames x; clear_value x
  simp -zeta only
  extract_lets +onlyGivenNames x; clear_value x
  extract_lets +onlyGivenNames x; refine (fun (hx : State.Stored q b x) => ?_) ?_ <;> [(try clear_value x); subst x]
  with_reducible apply stored_ite
  with_reducible apply State.contention_stored
  with_reducible assumption
  exact kf.sub rfl
  with_reducible assumption
  simp -zeta only [stored_mk, k_chain, or_true, true_or]
  with_reducible assumption
  with_reducible apply State.put_stored
  with_reducible assumption
  exact kf.get rfl
  with_reducible apply State.advance_stored
  with_reducible assumption
  exact kf.sub rfl

theorem execChainFrameLaunch_stored {k : Fin 64} {s : State} (hs : State.Stored q b s) (kf : b.free (postParts ++ [Part.reg RegGroup.tb, Part.reg RegGroup.ch, Part.now, Part.time, Part.ic, Part.chain, Part.boot])) :
    answers (execChainFrameLaunch k s) (State.Stored q b) := by
  unfold execChainFrameLaunch
  extract_lets +onlyGivenNames x; clear_value x
  split
  split
  with_reducible apply answers_ite
  with_reducible apply answers_next
  with_reducible apply State.launch_stored
  with_reducible assumption
  exact kf.sub rfl
  with_reducible apply answers_next
  with_reducible assumption
  with_reducible apply answers_next
  with_reducible assumption
  with_reducible apply answers_next
  with_reducible assumption

theorem execChainRateRequest_stored {s : State} (hs : State.Stored q b s) (kf : b.free [Part.reg RegGroup.tb, Part.reg RegGroup.ch, Part.now, Part.time, Part.chain]) :
    answers (execChainRateRequest s) (State.Stored q b) := by
  have k_chain : b.keep .chain = false := kf.get rfl
  unfold execChainRateRequest
  extract_lets +onlyGivenNames x; clear_value x
  simp -zeta only
  split
  with_reducible apply answers_next
  with_reducible assumption
  extract_lets +onlyGivenNames x; refine (fun (hx : State.Stored q b x) => ?_) ?_ <;> [(try clear_value x); subst x]
  extract_lets +onlyGivenNames x; clear_value x
  extract_lets +onlyGivenNames x; clear_value x
  extract_lets +onlyGivenNames x; clear_value x
  extract_lets +onlyGivenNames x; clear_value x
  extract_lets +onlyGivenNames x; refine (fun (hx : State.Stored q b x) => ?_) ?_ <;> [(try clear_value x); subst x]
  extract_lets +onlyGivenNames x; refine (fun (hx : State.Stored q b x) => ?_) ?_ <;> [(try clear_value x); subst x]
  extract_lets +onlyGivenNames x; clear_value x
  extract_lets +onlyGivenNames x; clear_value x
  extract_lets +onlyGivenNames x; clear_value x
  extract_lets +onlyGivenNames x; refine (fun (hx : State.Stored q b x) => ?_) ?_ <;> [(try clear_value x); subst x]
  extract_lets +onlyGivenNames x; refine (fun (hx : State.Stored q b x) => ?_) ?_ <;> [(try clear_value x); subst x]
  with_reducible apply answers_ite
  with_reducible apply answers_next
  with_reducible assumption
  with_reducible apply answers_ite
  with_reducible apply answers_next
  with_reducible assumption
  split
  extract_lets +onlyGivenNames x; clear_value x
  with_reducible apply answers_next
  with_reducible apply State.requestRate_stored
  with_reducible assumption
  exact kf.sub rfl
  with_reducible apply answers_next
  with_reducible apply State.requestRate_stored
  with_reducible assumption
  exact kf.sub rfl
  with_reducible apply stored_ite
  with_reducible apply State.wr_stored
  with_reducible assumption
  exact kf.get rfl
  with_reducible apply State.offsetMeasured_stored
  with_reducible assumption
  exact kf.sub rfl
  simp -zeta only [stored_mk, k_chain, or_true, true_or]
  with_reducible assumption
  with_reducible apply State.wr_stored
  with_reducible assumption
  exact kf.get rfl
  with_reducible apply State.wr_stored
  simp -zeta only [stored_mk, k_chain, or_true, true_or]
  with_reducible assumption
  exact kf.get rfl
  split
  with_reducible apply State.advance_stored
  with_reducible assumption
  exact kf.sub rfl
  with_reducible assumption

theorem execLinkDelayAnswer_stored {b_ : Bool} {s : State} (hs : State.Stored q b s) (kf : b.free [Part.now, Part.chain]) :
    answers (execLinkDelayAnswer b_ s) (State.Stored q b) := by
  have k_chain : b.keep .chain = false := kf.get rfl
  unfold execLinkDelayAnswer
  split
  with_reducible apply answers_next
  with_reducible assumption
  extract_lets +onlyGivenNames x; refine (fun (hx : State.Stored q b x) => ?_) ?_ <;> [(try clear_value x); subst x]
  extract_lets +onlyGivenNames x; clear_value x
  extract_lets +onlyGivenNames x; clear_value x
  with_reducible apply answers_next
  simp -zeta only [stored_mk, k_chain, or_true, true_or]
  with_reducible assumption
  with_reducible apply State.advance_stored
  with_reducible assumption
  exact kf.sub rfl

theorem execChainListenTimeout_stored {s : State} (hs : State.Stored q b s) (kf : b.free (postParts ++ [Part.reg RegGroup.ch, Part.now, Part.ic, Part.chain, Part.boot])) :
    answers (execChainListenTimeout s) (State.Stored q b) := by
  have k_chain : b.keep .chain = false := kf.get rfl
  unfold execChainListenTimeout
  extract_lets +onlyGivenNames x; clear_value x
  split
  with_reducible apply answers_next
  with_reducible assumption
  extract_lets +onlyGivenNames x; refine (fun (hx : State.Stored q b x) => ?_) ?_ <;> [(try clear_value x); subst x]
  with_reducible apply answers_ite
  with_reducible apply answers_next
  with_reducible apply State.chainState_stored
  with_reducible apply State.bump_stored
  simp -zeta only [stored_mk, k_chain, or_true, true_or]
  with_reducible assumption
  exact kf.get rfl
  exact kf.sub rfl
  with_reducible apply answers_next
  with_reducible assumption
  with_reducible apply State.advance_stored
  with_reducible assumption
  exact kf.sub rfl

theorem execChainColdstartClaim_stored {s : State} (hs : State.Stored q b s) (kf : b.free (postParts ++ [Part.reg RegGroup.tb, Part.reg RegGroup.ch, Part.reg RegGroup.cp, Part.now, Part.time, Part.ic, Part.chain, Part.boot])) :
    answers (execChainColdstartClaim s) (State.Stored q b) := by
  have k_chain : b.keep .chain = false := kf.get rfl
  unfold execChainColdstartClaim
  extract_lets +onlyGivenNames x; clear_value x
  split
  with_reducible apply answers_next
  with_reducible assumption
  split
  with_reducible apply answers_next
  with_reducible assumption
  extract_lets +onlyGivenNames x; clear_value x
  extract_lets +onlyGivenNames x; clear_value x
  extract_lets +onlyGivenNames x; refine (fun (hx : State.Stored q b x) => ?_) ?_ <;> [(try clear_value x); subst x]
  with_reducible apply answers_ite
  with_reducible apply answers_next
  with_reducible apply State.launch_stored
  with_reducible apply State.toWindow_stored
  with_reducible assumption
  exact kf.sub rfl
  exact kf.sub rfl
  with_reducible apply answers_next
  with_reducible assumption
  with_reducible apply State.wr_stored
  simp -zeta only [stored_mk, k_chain, or_true, true_or]
  with_reducible assumption
  exact kf.get rfl

theorem execChainBackoffExpiry_stored {s : State} (hs : State.Stored q b s) (kf : b.free [Part.reg RegGroup.ch, Part.now, Part.chain]) :
    answers (execChainBackoffExpiry s) (State.Stored q b) := by
  have k_chain : b.keep .chain = false := kf.get rfl
  unfold execChainBackoffExpiry
  extract_lets +onlyGivenNames x; clear_value x
  split
  extract_lets +onlyGivenNames x; refine (fun (hx : State.Stored q b x) => ?_) ?_ <;> [(try clear_value x); subst x]
  with_reducible apply answers_next
  with_reducible apply State.put_stored
  simp -zeta only [stored_mk, k_chain, or_true, true_or]
  with_reducible assumption
  exact kf.get rfl
  with_reducible apply State.advance_stored
  with_reducible assumption
  exact kf.sub rfl
  with_reducible apply answers_next
  with_reducible assumption

theorem execChainSourceLost_stored {s : State} (hs : State.Stored q b s) (kf : b.free [Part.reg RegGroup.tb, Part.time, Part.ic, Part.chain]) :
    answers (execChainSourceLost s) (State.Stored q b) := by
  unfold execChainSourceLost
  with_reducible apply answers_next
  with_reducible apply stored_ite
  with_reducible apply State.chainLost_stored
  with_reducible assumption
  exact kf.sub rfl
  with_reducible assumption

theorem execChainLinkChange_stored {lane : Fin 16} {up : Bool} {s : State} (hs : State.Stored q b s) (kf : b.free [Part.reg RegGroup.ch, Part.reg RegGroup.cp]) :
    answers (execChainLinkChange lane up s) (State.Stored q b) := by
  unfold execChainLinkChange
  extract_lets +onlyGivenNames x; clear_value x
  extract_lets +onlyGivenNames x; clear_value x
  extract_lets +onlyGivenNames x; clear_value x
  with_reducible apply answers_next
  with_reducible apply stored_ite
  with_reducible apply stored_ite
  with_reducible assumption
  with_reducible apply State.putB_stored
  with_reducible assumption
  split
  exact kf.get rfl
  exact kf.get rfl
  with_reducible apply stored_ite
  with_reducible apply State.putB_stored
  with_reducible assumption
  exact kf.get rfl
  with_reducible assumption

theorem State.setClasp_stored {s : State} {x : Fin 2} {c : Clasp} (hs : State.Stored q b s) (kf : b.free [Part.claspA, Part.claspB]) :
    State.Stored q b (State.setClasp s x c) := by
  have k_claspA : b.keep .claspA = false := kf.get rfl
  have k_claspB : b.keep .claspB = false := kf.get rfl
  unfold State.setClasp
  with_reducible apply stored_ite
  simp -zeta only [stored_mk, k_claspA, k_claspB, or_true, true_or]
  with_reducible assumption
  simp -zeta only [stored_mk, k_claspA, k_claspB, or_true, true_or]
  with_reducible assumption

theorem State.forward_stored {s : State} {x : Fin 2} {p : Fin 8} {bs : List Byte} {cut : Bool} (hs : State.Stored q b s) (kf : b.free [Part.reg RegGroup.cp, Part.fresh, Part.claspA, Part.claspB]) :
    State.Stored q b (State.forward s x p bs cut) := by
  unfold State.forward
  extract_lets +onlyGivenNames x; clear_value x
  extract_lets +onlyGivenNames x; refine (fun (hx : State.Stored q b x) => ?_) ?_ <;> [(try clear_value x); subst x]
  extract_lets +onlyGivenNames x; clear_value x
  extract_lets +onlyGivenNames x; clear_value x
  extract_lets +onlyGivenNames x; clear_value x
  simp -zeta only
  with_reducible apply State.wr_stored
  with_reducible apply State.setClasp_stored
  with_reducible assumption
  exact kf.sub rfl
  exact kf.get rfl
  with_reducible apply State.useFresh_stored
  with_reducible assumption
  exact kf.sub rfl

theorem State.violation_stored {s : State} {x : Fin 2} {p : Fin 8} {off : Int} {slot : Nat} (hs : State.Stored q b s) (kf : b.free [Part.reg RegGroup.cp, Part.ic, Part.claspA, Part.claspB]) :
    State.Stored q b (State.violation s x p off slot) := by
  unfold State.violation
  extract_lets +onlyGivenNames x; clear_value x
  with_reducible apply State.raise_stored
  with_reducible apply State.bump_stored
  with_reducible apply State.setClasp_stored
  with_reducible assumption
  exact kf.sub rfl
  exact kf.get rfl
  exact kf.sub rfl

theorem State.blockSlot_stored {s : State} {x : Fin 2} {k : Nat} (hs : State.Stored q b s) (kf : b.free [Part.reg RegGroup.ch, Part.chain]) :
    State.Stored q b (State.blockSlot s x k) := by
  have k_chain : b.keep .chain = false := kf.get rfl
  unfold State.blockSlot
  extract_lets +onlyGivenNames x; clear_value x
  with_reducible apply stored_ite
  with_reducible assumption
  with_reducible apply State.slotStat_stored
  simp -zeta only [stored_mk, k_chain, or_true, true_or]
  with_reducible assumption
  exact kf.sub rfl

theorem State.windowFrame_stored {s : State} {x : Fin 2} {p : Fin 8} {bs : List Byte} {t_ : Time} (hs : State.Stored q b s) (kf : b.free [Part.reg RegGroup.ch, Part.reg RegGroup.cp, Part.fresh, Part.ic, Part.chain, Part.claspA, Part.claspB]) :
    State.Stored q b (State.windowFrame s x p bs t_) := by
  unfold State.windowFrame
  extract_lets +onlyGivenNames x; clear_value x
  split
  extract_lets +onlyGivenNames x; clear_value x
  split
  with_reducible apply State.violation_stored
  with_reducible assumption
  exact kf.sub rfl
  extract_lets +onlyGivenNames x; clear_value x
  extract_lets +onlyGivenNames x; subst x
  extract_lets +onlyGivenNames x; subst x
  extract_lets +onlyGivenNames x; refine (fun (hx : State.Stored q b x) => ?_) ?_ <;> [(try clear_value x); subst x]
  with_reducible apply stored_ite
  with_reducible apply State.blockSlot_stored
  with_reducible apply State.violation_stored
  with_reducible assumption
  exact kf.sub rfl
  exact kf.sub rfl
  with_reducible apply stored_ite
  with_reducible assumption
  with_reducible apply State.forward_stored
  with_reducible assumption
  exact kf.sub rfl
  with_reducible apply stored_ite
  with_reducible apply State.bump_stored
  with_reducible assumption
  exact kf.get rfl
  with_reducible assumption
  with_reducible assumption

theorem execClaspFrameArrival_stored {x : Fin 2} {p : Fin 8} {f : ClaspRx} {t_ : Nat} {s : State} (hs : State.Stored q b s) (kf : b.free [Part.reg RegGroup.ch, Part.reg RegGroup.cp, Part.now, Part.fresh, Part.ic, Part.chain, Part.claspA, Part.claspB]) :
    answers (execClaspFrameArrival x p f t_ s) (State.Stored q b) := by
  unfold execClaspFrameArrival
  extract_lets +onlyGivenNames x; refine (fun (hx : State.Stored q b x) => ?_) ?_ <;> [(try clear_value x); subst x]
  extract_lets +onlyGivenNames x; clear_value x
  with_reducible apply answers_ite
  with_reducible apply answers_next
  with_reducible assumption
  split
  split
  with_reducible apply answers_next
  with_reducible assumption
  extract_lets +onlyGivenNames x; clear_value x
  extract_lets +onlyGivenNames x; clear_value x
  with_reducible apply answers_next
  with_reducible apply State.wr_stored
  with_reducible apply State.setClasp_stored
  with_reducible assumption
  exact kf.sub rfl
  exact kf.get rfl
  with_reducible apply answers_ite
  with_reducible apply answers_next
  with_reducible apply State.windowFrame_stored
  with_reducible assumption
  exact kf.sub rfl
  with_reducible apply answers_ite
  with_reducible apply answers_next
  with_reducible apply State.bump_stored
  with_reducible assumption
  exact kf.get rfl
  split
  with_reducible apply answers_next
  with_reducible apply State.setClasp_stored
  with_reducible assumption
  exact kf.sub rfl
  with_reducible apply answers_ite
  with_reducible apply answers_next
  with_reducible apply State.setClasp_stored
  with_reducible assumption
  exact kf.sub rfl
  with_reducible apply answers_next
  with_reducible apply State.bump_stored
  with_reducible assumption
  exact kf.get rfl
  with_reducible apply State.advance_stored
  with_reducible assumption
  exact kf.sub rfl

theorem execClaspTieWindow_stored {x : Fin 2} {s : State} (hs : State.Stored q b s) (kf : b.free [Part.reg RegGroup.cp, Part.now, Part.fresh, Part.claspA, Part.claspB]) :
    answers (execClaspTieWindow x s) (State.Stored q b) := by
  unfold execClaspTieWindow
  extract_lets +onlyGivenNames x; clear_value x
  split
  extract_lets +onlyGivenNames x; refine (fun (hx : State.Stored q b x) => ?_) ?_ <;> [(try clear_value x); subst x]
  extract_lets +onlyGivenNames x; refine (fun (hx : State.Stored q b x) => ?_) ?_ <;> [(try clear_value x); subst x]
  extract_lets +onlyGivenNames x; refine (fun (hx : State.Stored q b x) => ?_) ?_ <;> [(try clear_value x); subst x]
  with_reducible apply answers_next
  with_reducible apply State.forward_stored
  with_reducible assumption
  exact kf.sub rfl
  with_reducible apply stored_foldl
  intro _ _ _
  with_reducible apply State.bump_stored
  with_reducible assumption
  exact kf.get rfl
  with_reducible assumption
  with_reducible apply State.setClasp_stored
  with_reducible assumption
  exact kf.sub rfl
  with_reducible apply State.advance_stored
  with_reducible assumption
  exact kf.sub rfl
  with_reducible apply answers_next
  with_reducible assumption

theorem execClaspArbitrateReturn_stored {x : Fin 2} {s : State} (hs : State.Stored q b s) (kf : b.free [Part.reg RegGroup.cp, Part.now]) :
    answers (execClaspArbitrateReturn x s) (State.Stored q b) := by
  unfold execClaspArbitrateReturn
  split
  with_reducible apply answers_ite
  with_reducible apply answers_next
  with_reducible apply State.put_stored
  with_reducible apply State.advance_stored
  with_reducible assumption
  exact kf.sub rfl
  exact kf.get rfl
  with_reducible apply answers_next
  with_reducible assumption
  with_reducible apply answers_next
  with_reducible assumption

theorem execClaspLinkDelayRequest_stored {x : Fin 2} {s : State} (hs : State.Stored q b s) (kf : b.free [Part.now, Part.claspA, Part.claspB]) :
    answers (execClaspLinkDelayRequest x s) (State.Stored q b) := by
  unfold execClaspLinkDelayRequest
  extract_lets +onlyGivenNames x; refine (fun (hx : State.Stored q b x) => ?_) ?_ <;> [(try clear_value x); subst x]
  extract_lets +onlyGivenNames x; clear_value x
  extract_lets +onlyGivenNames x; clear_value x
  extract_lets +onlyGivenNames x; clear_value x
  with_reducible apply answers_ite
  with_reducible apply answers_next
  with_reducible apply State.setClasp_stored
  with_reducible assumption
  exact kf.sub rfl
  with_reducible apply answers_next
  with_reducible assumption
  split
  with_reducible apply State.advance_stored
  with_reducible assumption
  exact kf.sub rfl
  with_reducible assumption

theorem State.claspMap_stored {s : State} {x : Fin 2} {v : Word} (hs : State.Stored q b s) (kf : b.free [Part.reg RegGroup.cp]) :
    State.Stored q b (State.claspMap s x v) := by
  unfold State.claspMap
  with_reducible apply stored_ite
  with_reducible assumption
  with_reducible apply State.put_stored
  with_reducible assumption
  exact kf.get rfl

end Sys2Proof.Machine
end

