-- ==== Sys2Proof/Laws/StoredBus.lean ====
section
/-! SUPPORT. One lemma per operation: the interrupt controller, the planes, the registers on the fabric, the mail and the mailbox keep what `State.Stored`
says: the queue, canonical memory and flash, OTP bits, time, and every part of the state that the operation does not name. -/

namespace Sys2Proof.Machine

open Sys2Proof

variable {q : List Instr} {b : Kept}

theorem State.icWake_stored {s : State} {n : Fin 512} (hs : State.Stored q b s) (kf : b.free (postParts ++ [Part.reg RegGroup.stk, Part.stk, Part.ic])) :
    State.Stored q b (State.icWake s n) := by
  have k_ic : b.keep .ic = false := kf.get rfl
  unfold State.icWake
  extract_lets +onlyGivenNames x; clear_value x
  with_reducible apply stored_ite
  split
  simp -zeta only [stored_mk, k_ic, or_true, true_or]
  with_reducible assumption
  with_reducible apply State.wakeOf_stored
  with_reducible assumption
  exact kf.sub rfl
  with_reducible assumption
  with_reducible assumption

theorem State.icWakeAll_stored {s : State} (hs : State.Stored q b s) (kf : b.free (postParts ++ [Part.reg RegGroup.stk, Part.stk, Part.ic])) :
    State.Stored q b (State.icWakeAll s) := by
  unfold State.icWakeAll
  with_reducible apply State.icTimers_stored
  with_reducible apply stored_foldl
  intro _ _ _
  with_reducible apply State.icWake_stored
  with_reducible assumption
  exact kf.sub rfl
  with_reducible assumption
  exact kf.sub rfl

theorem State.hearthRest_stored {s : State} (hs : State.Stored q b s) (kf : b.free (postParts ++ [Part.reg RegGroup.stk, Part.fresh, Part.stk, Part.ic])) :
    State.Stored q b (State.hearthRest s) := by
  have k_ic : b.keep .ic = false := kf.get rfl
  unfold State.hearthRest
  extract_lets +onlyGivenNames x; refine (fun (hx : State.Stored q b x) => ?_) ?_ <;> [(try clear_value x); subst x]
  extract_lets +onlyGivenNames x; clear_value x
  with_reducible apply State.icWakeAll_stored
  simp -zeta only [stored_mk, k_ic, or_true, true_or]
  with_reducible assumption
  exact kf.sub rfl
  with_reducible apply State.useFresh_stored
  with_reducible assumption
  exact kf.sub rfl

theorem execIcFilterChange_stored {n : Fin 512} {level : Bool} {t_ : Time} {samples : Nat} {s : State} (hs : State.Stored q b s) (kf : b.free (postParts ++ [Part.reg RegGroup.stk, Part.now, Part.stk, Part.ic])) :
    answers (execIcFilterChange n level t_ samples s) (State.Stored q b) := by
  have k_ic : b.keep .ic = false := kf.get rfl
  unfold execIcFilterChange
  extract_lets +onlyGivenNames x; clear_value x
  extract_lets +onlyGivenNames x; clear_value x
  extract_lets +onlyGivenNames x; refine (fun (hx : State.Stored q b x) => ?_) ?_ <;> [(try clear_value x); subst x]
  extract_lets +onlyGivenNames x; clear_value x
  extract_lets +onlyGivenNames x; refine (fun (hx : State.Stored q b x) => ?_) ?_ <;> [(try clear_value x); subst x]
  extract_lets +onlyGivenNames x; refine (fun (hx : State.Stored q b x) => ?_) ?_ <;> [(try clear_value x); subst x]
  extract_lets +onlyGivenNames x; refine (fun (hx : State.Stored q b x) => ?_) ?_ <;> [(try clear_value x); subst x]
  with_reducible apply answers_ite
  with_reducible apply answers_next
  with_reducible apply State.advance_stored
  with_reducible assumption
  exact kf.sub rfl
  with_reducible apply answers_ite
  with_reducible apply answers_next
  with_reducible assumption
  with_reducible apply answers_next
  with_reducible apply State.icTimers_stored
  with_reducible apply State.icWake_stored
  with_reducible apply stored_ite
  with_reducible apply State.eventRelease_stored
  with_reducible assumption
  exact kf.sub rfl
  with_reducible assumption
  exact kf.sub rfl
  exact kf.sub rfl
  with_reducible apply stored_ite
  with_reducible apply State.put_stored
  with_reducible assumption
  exact kf.get rfl
  with_reducible apply State.icRefresh_stored
  with_reducible assumption
  exact kf.sub rfl
  with_reducible apply State.putB_stored
  with_reducible assumption
  exact kf.get rfl
  with_reducible apply stored_ite
  simp -zeta only [stored_mk, k_ic, or_true, true_or]
  with_reducible assumption
  with_reducible assumption
  with_reducible apply State.advance_stored
  with_reducible assumption
  exact kf.sub rfl

theorem State.icClaim_stored {s : State} {t_ : Fin 64} {n : Fin 512} {redirected : Bool} (hs : State.Stored q b s) (kf : b.free [Part.reg RegGroup.ic, Part.ic]) :
    State.Stored q b (State.icClaim s t_ n redirected) := by
  have k_ic : b.keep .ic = false := kf.get rfl
  unfold State.icClaim
  extract_lets +onlyGivenNames x; refine (fun (hx : State.Stored q b x) => ?_) ?_ <;> [(try clear_value x); subst x]
  extract_lets +onlyGivenNames x; refine (fun (hx : State.Stored q b x) => ?_) ?_ <;> [(try clear_value x); subst x]
  extract_lets +onlyGivenNames x; clear_value x
  extract_lets +onlyGivenNames x; clear_value x
  extract_lets +onlyGivenNames x; refine (fun (hx : State.Stored q b x) => ?_) ?_ <;> [(try clear_value x); subst x]
  extract_lets +onlyGivenNames x; clear_value x
  with_reducible apply State.icTimers_stored
  with_reducible apply stored_ite
  with_reducible assumption
  simp -zeta only [stored_mk, k_ic, or_true, true_or]
  with_reducible assumption
  exact kf.sub rfl
  with_reducible apply State.put_stored
  with_reducible assumption
  exact kf.get rfl
  with_reducible apply State.put_stored
  with_reducible apply State.put_stored
  with_reducible apply State.put_stored
  with_reducible assumption
  exact kf.get rfl
  exact kf.get rfl
  exact kf.get rfl
  with_reducible apply State.wr_stored
  with_reducible assumption
  exact kf.get rfl

theorem State.msiSend_stored {s : State} {v : Nat} (hs : State.Stored q b s) (kf : b.free [Part.ic]) : State.Stored q b (State.msiSend s v) := by
  have k_ic : b.keep .ic = false := kf.get rfl
  unfold State.msiSend
  extract_lets +onlyGivenNames x; clear_value x
  extract_lets +onlyGivenNames x; clear_value x
  simp -zeta only [stored_mk, k_ic, or_true, true_or]
  with_reducible assumption

theorem execIcDelivery_stored {t : Fin 64} {s : State} (hs : State.Stored q b s) (kf :
    b.free [Part.reg RegGroup.ic, Part.now, Part.tiles, Part.ic]) :
  answers (execIcDelivery t s) (State.Stored q b) := by
  unfold execIcDelivery
  split
  · exact hs
  · split
    · exact hs
    · extract_lets x
      have h : State.Stored q b x := State.icClaim_stored (State.advance_stored hs (kf.sub rfl)) (kf.sub rfl)
      clear_value x
      exact answers_next (stored_ite (stored_foldl (fun s pl h => State.setTile_stored h (kf.sub rfl)) h) (stored_ite (State.msiSend_stored h (kf.sub rfl)) h))

theorem execIcClaimRead_stored {t_ : Fin 64} {s : State} (hs : State.Stored q b s) (kf : b.free [Part.reg RegGroup.ic, Part.rdata]) :
    answers (execIcClaimRead t_ s) (State.Stored q b) := by
  unfold execIcClaimRead
  extract_lets +onlyGivenNames x; refine (fun (hx3 : ∀ y, State.Stored q b y → State.Stored q b (x y)) => ?_) ?_ <;> [(try clear_value x); subst x]
  with_reducible apply answers_ite
  with_reducible apply answers_next
  with_reducible apply hx3
  with_reducible apply State.icTakeUp_stored
  with_reducible assumption
  exact kf.sub rfl
  with_reducible apply answers_next
  with_reducible apply hx3
  with_reducible assumption
  intro _ _
  simp -zeta only
  with_reducible apply State.answer_stored
  with_reducible assumption
  exact kf.sub rfl

theorem State.noteWrite_stored {s : State} {who : Who} {v : Word} (hs : State.Stored q b s) (kf : b.free [Part.ic]) :
    State.Stored q b (State.noteWrite s who v) := by
  unfold State.noteWrite
  split
  with_reducible apply State.noteIc_stored
  with_reducible assumption
  exact kf.sub rfl
  with_reducible assumption
  with_reducible assumption
  with_reducible assumption

theorem State.icComplete_stored {s : State} {who : Who} {v : Word} (hs : State.Stored q b s) (kf : b.free (postParts ++ [Part.reg RegGroup.stk, Part.fresh, Part.stk, Part.ic])) :
    State.Stored q b (State.icComplete s who v) := by
  unfold State.icComplete
  extract_lets +onlyGivenNames x; clear_value x
  extract_lets +onlyGivenNames x; clear_value x
  extract_lets +onlyGivenNames x; refine (fun (hx : State.Stored q b x) => ?_) ?_ <;> [(try clear_value x); subst x]
  with_reducible apply stored_ite
  with_reducible assumption
  with_reducible apply stored_ite
  with_reducible apply stored_ite
  with_reducible apply State.hearthRest_stored
  with_reducible assumption
  exact kf.sub rfl
  with_reducible assumption
  with_reducible apply State.flag_stored
  with_reducible assumption
  exact kf.get rfl
  with_reducible apply State.icWakeAll_stored
  with_reducible apply State.icFree_stored
  with_reducible assumption
  exact kf.sub rfl
  exact kf.sub rfl

theorem execIcComplete_stored {who : Who} {v : Word} {s : State} (hs : State.Stored q b s) (kf : b.free (postParts ++ [Part.reg RegGroup.stk, Part.fresh, Part.stk, Part.ic])) :
    answers (execIcComplete who v s) (State.Stored q b) := by
  unfold execIcComplete
  with_reducible apply answers_next
  with_reducible apply State.icComplete_stored
  with_reducible apply State.noteWrite_stored
  with_reducible assumption
  exact kf.sub rfl
  exact kf.sub rfl

theorem execIcHoldoffExpiry_stored {g : Fin 16} {s : State} (hs : State.Stored q b s) (kf : b.free [Part.reg RegGroup.ic, Part.now, Part.ic]) :
    answers (execIcHoldoffExpiry g s) (State.Stored q b) := by
  have k_ic : b.keep .ic = false := kf.get rfl
  unfold execIcHoldoffExpiry
  extract_lets +onlyGivenNames x; refine (fun (hx : State.Stored q b x) => ?_) ?_ <;> [(try clear_value x); subst x]
  extract_lets +onlyGivenNames x; refine (fun (hx : State.Stored q b x) => ?_) ?_ <;> [(try clear_value x); subst x]
  extract_lets +onlyGivenNames x; clear_value x
  with_reducible apply answers_ite
  with_reducible apply answers_next
  with_reducible apply State.icTimers_stored
  simp -zeta only [stored_mk, k_ic, or_true, true_or]
  with_reducible assumption
  exact kf.sub rfl
  with_reducible apply answers_next
  with_reducible assumption
  with_reducible apply State.put_stored
  with_reducible assumption
  exact kf.get rfl
  with_reducible apply State.advance_stored
  with_reducible assumption
  exact kf.sub rfl

theorem execIcRedirect_stored {n : Fin 512} {s : State} (hs : State.Stored q b s) (kf : b.free (postParts ++ [Part.now, Part.ic])) :
    answers (execIcRedirect n s) (State.Stored q b) := by
  unfold execIcRedirect
  split
  with_reducible apply answers_next
  with_reducible assumption
  extract_lets +onlyGivenNames x; refine (fun (hx : State.Stored q b x) => ?_) ?_ <;> [(try clear_value x); subst x]
  with_reducible apply answers_ite
  with_reducible apply answers_next
  with_reducible assumption
  with_reducible apply answers_next
  with_reducible apply State.post_stored
  with_reducible apply State.bump_stored
  with_reducible apply State.icClaim_stored
  with_reducible assumption
  exact kf.sub rfl
  exact kf.get rfl
  exact kf.sub rfl
  with_reducible apply State.advance_stored
  with_reducible assumption
  exact kf.sub rfl

theorem execIcSwSet_stored {who : Who} {k : Fin 2} {v : Word} {s : State} (hs : State.Stored q b s) (kf : b.free [Part.reg RegGroup.ic]) :
    answers (execIcSwSet who k v s) (State.Stored q b) := by
  unfold execIcSwSet
  with_reducible apply answers_next
  with_reducible apply stored_ite
  with_reducible apply State.wr_stored
  with_reducible assumption
  exact kf.get rfl
  with_reducible assumption

theorem execIcSwClr_stored {who : Who} {k : Fin 2} {v : Word} {same : Word} {s : State} (hs : State.Stored q b s) (kf : b.free [Part.reg RegGroup.ic]) :
    answers (execIcSwClr who k v same s) (State.Stored q b) := by
  unfold execIcSwClr
  with_reducible apply answers_next
  with_reducible apply stored_ite
  with_reducible apply State.wr_stored
  with_reducible assumption
  exact kf.get rfl
  with_reducible assumption

theorem State.icSrcCfg_stored {s : State} {n : Fin 512} {v : Word} (hs : State.Stored q b s) (kf : b.free (postParts ++ [Part.reg RegGroup.stk, Part.stk, Part.ic])) :
    State.Stored q b (State.icSrcCfg s n v) := by
  unfold State.icSrcCfg
  extract_lets +onlyGivenNames x; clear_value x
  extract_lets +onlyGivenNames x; clear_value x
  extract_lets +onlyGivenNames x; clear_value x
  extract_lets +onlyGivenNames x; clear_value x
  extract_lets +onlyGivenNames x; clear_value x
  extract_lets +onlyGivenNames x; refine (fun (hx : State.Stored q b x) => ?_) ?_ <;> [(try clear_value x); subst x]
  extract_lets +onlyGivenNames x; refine (fun (hx : State.Stored q b x) => ?_) ?_ <;> [(try clear_value x); subst x]
  extract_lets +onlyGivenNames x; refine (fun (hx : State.Stored q b x) => ?_) ?_ <;> [(try clear_value x); subst x]
  with_reducible apply stored_ite
  with_reducible apply State.flag_stored
  with_reducible assumption
  exact kf.get rfl
  with_reducible apply State.icTimers_stored
  with_reducible apply State.icWake_stored
  with_reducible apply State.icRefresh_stored
  with_reducible assumption
  exact kf.sub rfl
  exact kf.sub rfl
  exact kf.sub rfl
  with_reducible apply stored_ite
  with_reducible apply State.put_stored
  with_reducible assumption
  exact kf.get rfl
  with_reducible assumption
  with_reducible apply State.wr_stored
  with_reducible assumption
  exact kf.get rfl
  with_reducible apply stored_ite
  with_reducible apply State.flag_stored
  with_reducible assumption
  exact kf.get rfl
  with_reducible assumption

theorem execIcSrcCfgWrite_stored {n : Fin 512} {v : Word} {s : State} (hs : State.Stored q b s) (kf : b.free (postParts ++ [Part.reg RegGroup.stk, Part.stk, Part.ic])) :
    answers (execIcSrcCfgWrite n v s) (State.Stored q b) := by
  unfold execIcSrcCfgWrite
  with_reducible apply answers_next
  with_reducible apply State.icSrcCfg_stored
  with_reducible assumption
  exact kf.sub rfl

theorem State.icTell_stored {s : State} {pl : Fin 2} {t_ : Fin 16} {stays : Bool} (hs : State.Stored q b s) (kf : b.free [Part.ic]) :
    State.Stored q b (State.icTell s pl t_ stays) := by
  have k_ic : b.keep .ic = false := kf.get rfl
  unfold State.icTell
  extract_lets +onlyGivenNames x; clear_value x
  extract_lets +onlyGivenNames x; clear_value x
  extract_lets +onlyGivenNames x; clear_value x
  extract_lets +onlyGivenNames x; clear_value x
  simp -zeta only [stored_mk, k_ic, or_true, true_or]
  with_reducible assumption

theorem execIcPlaneFinding_stored {t_ : Fin 16} {s : State} (hs : State.Stored q b s) (kf : b.free [Part.now, Part.pc, Part.ic]) :
    answers (execIcPlaneFinding t_ s) (State.Stored q b) := by
  unfold execIcPlaneFinding
  split
  with_reducible apply answers_next
  with_reducible assumption
  with_reducible apply answers_next
  with_reducible apply State.finding_stored
  with_reducible apply State.icTell_stored
  with_reducible apply State.icTell_stored
  with_reducible assumption
  exact kf.sub rfl
  exact kf.sub rfl
  exact kf.sub rfl
  with_reducible apply answers_next
  with_reducible apply State.finding_stored
  with_reducible apply State.icTell_stored
  with_reducible apply State.advance_stored
  with_reducible assumption
  exact kf.sub rfl
  exact kf.sub rfl
  exact kf.sub rfl
  with_reducible apply answers_next
  with_reducible apply State.finding_stored
  with_reducible apply State.icTell_stored
  with_reducible apply State.advance_stored
  with_reducible assumption
  exact kf.sub rfl
  exact kf.sub rfl
  exact kf.sub rfl

theorem State.updMail_stored {s : State} {f : Mail → Mail} (hs : State.Stored q b s) (kf : b.free [Part.mb]) :
    State.Stored q b (State.updMail s f) := by
  have k_mb : b.keep .mb = false := kf.get rfl
  unfold State.updMail
  simp -zeta only [stored_mk, k_mb, or_true, true_or]
  with_reducible assumption

theorem State.setSlot_stored {s : State} {k : Fin 16} {x : MbSlot} (hs : State.Stored q b s) (kf : b.free [Part.mb]) :
    State.Stored q b (State.setSlot s k x) := by
  unfold State.setSlot
  with_reducible apply State.updMail_stored
  with_reducible assumption
  exact kf.sub rfl

theorem State.slotWrite_stored {s : State} {k : Fin 16} {o : Nat} {bs : List Byte} (hs : State.Stored q b s) (kf : b.free [Part.reg RegGroup.hm, Part.mb]) :
    State.Stored q b (State.slotWrite s k o bs) := by
  unfold State.slotWrite
  extract_lets +onlyGivenNames x; clear_value x
  extract_lets +onlyGivenNames x; clear_value x
  with_reducible apply stored_ite
  with_reducible assumption
  with_reducible apply stored_ite
  with_reducible apply State.flag_stored
  with_reducible assumption
  exact kf.get rfl
  with_reducible apply State.setSlot_stored
  with_reducible assumption
  exact kf.sub rfl

theorem execMbCommandWrite_stored {k : Fin 16} {o : Nat} {bytes : List Byte} {s : State} (hs : State.Stored q b s) (kf : b.free [Part.reg RegGroup.hm, Part.mb]) :
    answers (execMbCommandWrite k o bytes s) (State.Stored q b) := by
  unfold execMbCommandWrite
  with_reducible apply answers_next
  with_reducible apply State.slotWrite_stored
  with_reducible assumption
  exact kf.sub rfl

theorem State.postSlot_stored {s : State} {k : Fin 16} {qspi : Bool} (hs : State.Stored q b s) (kf : b.free [Part.reg RegGroup.hm, Part.mb]) :
    State.Stored q b (State.postSlot s k qspi) := by
  unfold State.postSlot
  extract_lets +onlyGivenNames x; clear_value x
  with_reducible apply stored_ite
  with_reducible apply State.flag_stored
  with_reducible assumption
  exact kf.get rfl
  with_reducible apply State.updMail_stored
  with_reducible apply State.setSlot_stored
  with_reducible assumption
  exact kf.sub rfl
  exact kf.sub rfl

theorem execMbPost_stored {v : BitVec 16} {s : State} (hs : State.Stored q b s) (kf : b.free [Part.reg RegGroup.hm, Part.mb]) :
    answers (execMbPost v s) (State.Stored q b) := by
  unfold execMbPost
  with_reducible apply answers_next
  with_reducible apply stored_foldl
  intro _ _ _
  with_reducible apply State.postSlot_stored
  with_reducible assumption
  exact kf.sub rfl
  with_reducible assumption

theorem State.emptySlot_stored {s : State} {k : Fin 16} (hs : State.Stored q b s) (kf : b.free [Part.reg RegGroup.ic, Part.mb]) :
    State.Stored q b (State.emptySlot s k) := by
  unfold State.emptySlot
  with_reducible apply State.put_stored
  with_reducible apply State.setSlot_stored
  with_reducible assumption
  exact kf.sub rfl
  exact kf.get rfl

theorem State.freeSlot_stored {s : State} {k : Fin 16} {qspi : Bool} (hs : State.Stored q b s) (kf : b.free [Part.reg RegGroup.ic, Part.reg RegGroup.hm, Part.mb]) :
    State.Stored q b (State.freeSlot s k qspi) := by
  unfold State.freeSlot
  extract_lets +onlyGivenNames x; clear_value x
  with_reducible apply stored_ite
  with_reducible apply State.flag_stored
  with_reducible assumption
  exact kf.get rfl
  with_reducible apply stored_ite
  with_reducible assumption
  with_reducible apply State.emptySlot_stored
  with_reducible assumption
  exact kf.sub rfl

theorem execMbFree_stored {v : BitVec 16} {s : State} (hs : State.Stored q b s) (kf : b.free [Part.reg RegGroup.ic, Part.reg RegGroup.hm, Part.mb]) :
    answers (execMbFree v s) (State.Stored q b) := by
  unfold execMbFree
  with_reducible apply answers_next
  with_reducible apply stored_foldl
  intro _ _ _
  with_reducible apply State.freeSlot_stored
  with_reducible assumption
  exact kf.sub rfl
  with_reducible assumption

theorem State.endSlot_stored {s : State} {k : Fin 16} {st : Nat} {code : Nat} {res : List Byte} (hs : State.Stored q b s) (kf : b.free [Part.reg RegGroup.ic, Part.mb]) :
    State.Stored q b (State.endSlot s k st code res) := by
  unfold State.endSlot
  extract_lets +onlyGivenNames x; clear_value x
  extract_lets +onlyGivenNames x; refine (fun (hx : State.Stored q b x) => ?_) ?_ <;> [(try clear_value x); subst x]
  extract_lets +onlyGivenNames x; refine (fun (hx : State.Stored q b x) => ?_) ?_ <;> [(try clear_value x); subst x]
  with_reducible apply stored_ite
  with_reducible apply State.emptySlot_stored
  with_reducible assumption
  exact kf.sub rfl
  with_reducible apply stored_ite
  with_reducible apply State.put_stored
  with_reducible assumption
  exact kf.get rfl
  with_reducible assumption
  with_reducible apply State.setSlot_stored
  with_reducible assumption
  exact kf.sub rfl
  with_reducible apply State.updMail_stored
  with_reducible assumption
  exact kf.sub rfl

theorem State.statRead_stored {s : State} {k : Fin 16} (hs : State.Stored q b s) (kf : b.free [Part.reg RegGroup.ic, Part.rdata, Part.mb]) :
    State.Stored q b (State.statRead s k) := by
  unfold State.statRead
  extract_lets +onlyGivenNames x; clear_value x
  extract_lets +onlyGivenNames x; refine (fun (hx : State.Stored q b x) => ?_) ?_ <;> [(try clear_value x); subst x]
  with_reducible apply stored_ite
  with_reducible apply State.put_stored
  with_reducible apply State.setSlot_stored
  with_reducible assumption
  exact kf.sub rfl
  exact kf.get rfl
  with_reducible apply stored_ite
  with_reducible apply State.put_stored
  with_reducible apply State.setSlot_stored
  with_reducible assumption
  exact kf.sub rfl
  exact kf.get rfl
  with_reducible assumption
  with_reducible apply State.answer_stored
  with_reducible assumption
  exact kf.sub rfl

theorem execMbStatRead_stored {k : Fin 16} {s : State} (hs : State.Stored q b s) (kf : b.free [Part.reg RegGroup.ic, Part.rdata, Part.mb]) :
    answers (execMbStatRead k s) (State.Stored q b) := by
  unfold execMbStatRead
  with_reducible apply answers_next
  with_reducible apply State.statRead_stored
  with_reducible assumption
  exact kf.sub rfl

theorem State.hearthRestart_stored {s : State} (hs : State.Stored q b s) (kf : b.free [Part.reg RegGroup.ic, Part.reg RegGroup.hm, Part.mb]) :
    State.Stored q b (State.hearthRestart s) := by
  unfold State.hearthRestart
  extract_lets +onlyGivenNames x; refine (fun (hx : State.Stored q b x) => ?_) ?_ <;> [(try clear_value x); subst x]
  with_reducible apply State.bumpField_stored
  with_reducible apply State.put_stored
  with_reducible apply State.updMail_stored
  with_reducible assumption
  exact kf.sub rfl
  exact kf.get rfl
  exact kf.get rfl
  with_reducible apply stored_foldl
  intro _ _ _
  with_reducible apply State.endSlot_stored
  with_reducible assumption
  exact kf.sub rfl
  with_reducible assumption

theorem execHearthUp_stored {s : State} (hs : State.Stored q b s) (kf : b.free (postParts ++ [Part.reg RegGroup.tb, Part.reg RegGroup.stk, Part.fresh, Part.time, Part.stk, Part.ic, Part.chain, Part.mb])) :
    answers (execHearthUp s) (State.Stored q b) := by
  unfold execHearthUp
  with_reducible apply answers_next
  with_reducible apply stored_ite
  with_reducible apply State.hearthRest_stored
  with_reducible apply State.timeResume_stored
  with_reducible apply State.put_stored
  with_reducible apply State.updMail_stored
  with_reducible assumption
  exact kf.sub rfl
  exact kf.get rfl
  exact kf.sub rfl
  exact kf.sub rfl
  with_reducible assumption

theorem State.eventRead_stored {s : State} (hs : State.Stored q b s) (kf : b.free [Part.reg RegGroup.ic, Part.reg RegGroup.hm, Part.rdata, Part.evts, Part.mb]) :
    State.Stored q b (State.eventRead s) := by
  have k_evts : b.keep .evts = false := kf.get rfl
  unfold State.eventRead
  extract_lets +onlyGivenNames x; clear_value x
  extract_lets +onlyGivenNames x; refine (fun (hx : State.Stored q b x) => ?_) ?_ <;> [(try clear_value x); subst x]
  extract_lets +onlyGivenNames x; refine (fun (hx : State.Stored q b x) => ?_) ?_ <;> [(try clear_value x); subst x]
  with_reducible apply State.answer_stored
  with_reducible apply State.updMail_stored
  with_reducible assumption
  exact kf.sub rfl
  exact kf.sub rfl
  with_reducible apply stored_foldl
  intro _ _ _
  with_reducible apply State.wr_stored
  with_reducible assumption
  exact kf.get rfl
  with_reducible assumption
  with_reducible apply State.showEvts_stored
  simp -zeta only [stored_mk, k_evts, or_true, true_or]
  with_reducible assumption
  exact kf.sub rfl

theorem execHmEvtHeadRead_stored {s : State} (hs : State.Stored q b s) (kf : b.free [Part.reg RegGroup.ic, Part.reg RegGroup.hm, Part.rdata, Part.evts, Part.mb]) :
    answers (execHmEvtHeadRead s) (State.Stored q b) := by
  unfold execHmEvtHeadRead
  with_reducible apply answers_next
  with_reducible apply State.eventRead_stored
  with_reducible assumption
  exact kf.sub rfl

theorem execWindowTWrite_stored {_o : Nat} {_v : Word} {s : State} (hs : State.Stored q b s) (kf : b.free [Part.reg RegGroup.hm]) :
    answers (execWindowTWrite _o _v s) (State.Stored q b) := by
  unfold execWindowTWrite
  with_reducible apply answers_next
  with_reducible apply State.flag_stored
  with_reducible assumption
  exact kf.get rfl

theorem execPcieReset_stored {up : Bool} {s : State} (hs : State.Stored q b s) (kf : b.free [Part.reg RegGroup.ic, Part.reg RegGroup.hm, Part.ic, Part.mb]) :
    answers (execPcieReset up s) (State.Stored q b) := by
  have k_ic : b.keep .ic = false := kf.get rfl
  unfold execPcieReset
  extract_lets +onlyGivenNames x; refine (fun (hx : State.Stored q b x) => ?_) ?_ <;> [(try clear_value x); subst x]
  extract_lets +onlyGivenNames x; clear_value x
  extract_lets +onlyGivenNames x; refine (fun (hx : State.Stored q b x) => ?_) ?_ <;> [(try clear_value x); subst x]
  extract_lets +onlyGivenNames x; refine (fun (hx : State.Stored q b x) => ?_) ?_ <;> [(try clear_value x); subst x]
  with_reducible apply answers_next
  with_reducible apply stored_foldl
  intro _ _ _
  extract_lets +onlyGivenNames x; clear_value x
  with_reducible apply stored_ite
  with_reducible assumption
  with_reducible apply stored_ite
  with_reducible apply State.setSlot_stored
  with_reducible assumption
  exact kf.sub rfl
  with_reducible apply stored_ite
  with_reducible assumption
  with_reducible apply State.emptySlot_stored
  with_reducible assumption
  exact kf.sub rfl
  with_reducible assumption
  with_reducible apply State.icTimers_stored
  with_reducible apply State.wr_stored
  with_reducible apply State.wr_stored
  with_reducible assumption
  exact kf.get rfl
  exact kf.get rfl
  exact kf.sub rfl
  simp -zeta only [stored_mk, k_ic, or_true, true_or]
  with_reducible assumption
  with_reducible apply stored_foldl
  intro _ _ _
  with_reducible apply State.wr_stored
  with_reducible assumption
  exact kf.get rfl
  with_reducible assumption

theorem State.updPc_stored {s : State} {f : PlaneCtl → PlaneCtl} (hs : State.Stored q b s) (kf : b.free [Part.pc]) :
    State.Stored q b (State.updPc s f) := by
  have k_pc : b.keep .pc = false := kf.get rfl
  unfold State.updPc
  simp -zeta only [stored_mk, k_pc, or_true, true_or]
  with_reducible assumption

theorem State.showOk_stored {s : State} {pl : Fin 2} (hs : State.Stored q b s) (kf : b.free [Part.reg RegGroup.pc]) :
    State.Stored q b (State.showOk s pl) := by
  unfold State.showOk
  extract_lets +onlyGivenNames x; clear_value x
  with_reducible apply State.wr_stored
  with_reducible assumption
  (with_reducible rw [healthReg_group]); exact kf.get rfl

theorem State.setPlane_stored {s : State} {pl : Fin 2} {st : Nat} (hs : State.Stored q b s) (kf : b.free [Part.reg RegGroup.pc, Part.ic]) :
    State.Stored q b (State.setPlane s pl st) := by
  unfold State.setPlane
  with_reducible apply State.showOk_stored
  with_reducible apply stored_ite
  with_reducible assumption
  with_reducible apply State.raise_stored
  with_reducible apply State.put_stored
  with_reducible assumption
  (with_reducible rw [planeField_group]); exact kf.get rfl
  exact kf.sub rfl
  exact kf.sub rfl

theorem State.setHealth_stored {s : State} {pl : Fin 2} {k : PlaneFault} {tile : Option (Fin 16)} (hs : State.Stored q b s) (kf : b.free [Part.reg RegGroup.pc]) :
    State.Stored q b (State.setHealth s pl k tile) := by
  unfold State.setHealth
  extract_lets +onlyGivenNames x; clear_value x
  extract_lets +onlyGivenNames x; clear_value x
  with_reducible apply State.showOk_stored
  with_reducible apply State.wr_stored
  with_reducible assumption
  (with_reducible rw [healthReg_group]); exact kf.get rfl
  exact kf.sub rfl

theorem State.stopTiles_stored {s : State} {pl : Fin 2} (hs : State.Stored q b s) (kf : b.free [Part.tiles]) :
    State.Stored q b (State.stopTiles s pl) := by
  unfold State.stopTiles
  with_reducible apply stored_foldl
  intro _ _ _
  extract_lets +onlyGivenNames x; clear_value x
  extract_lets +onlyGivenNames x; clear_value x
  with_reducible apply State.setTile_stored
  with_reducible assumption
  exact kf.sub rfl
  with_reducible assumption

theorem State.planeDown_stored {s : State} {pl : Fin 2} (hs : State.Stored q b s) (kf : b.free [Part.reg RegGroup.pc, Part.tiles, Part.pc, Part.ic]) :
    State.Stored q b (State.planeDown s pl) := by
  unfold State.planeDown
  with_reducible apply State.updPc_stored
  with_reducible apply State.icUnmark_stored
  with_reducible apply State.setPlane_stored
  with_reducible apply State.stopTiles_stored
  with_reducible assumption
  exact kf.sub rfl
  exact kf.sub rfl
  exact kf.sub rfl
  exact kf.sub rfl

theorem State.planeTest_stored {s : State} {pl : Fin 2} (hs : State.Stored q b s) (kf : b.free [Part.reg RegGroup.pc, Part.ic]) :
    State.Stored q b (State.planeTest s pl) := by
  unfold State.planeTest
  with_reducible apply State.setPlane_stored
  with_reducible apply State.wr_stored
  with_reducible assumption
  (with_reducible rw [healthReg_group]); exact kf.get rfl
  exact kf.sub rfl

theorem State.lbistStart_stored {s : State} {pl : Fin 2} (hs : State.Stored q b s) (kf : b.free [Part.pc]) :
    State.Stored q b (State.lbistStart s pl) := by
  unfold State.lbistStart
  with_reducible apply State.updPc_stored
  with_reducible assumption
  exact kf.sub rfl

theorem State.noPlane_stored {s : State} (hs : State.Stored q b s) (kf : b.free (postParts ++ [Part.reg RegGroup.port, Part.reg RegGroup.stp, Part.reg RegGroup.pc, Part.now, Part.ports, Part.axes])) :
    State.Stored q b (State.noPlane s) := by
  unfold State.noPlane
  extract_lets +onlyGivenNames x; refine (fun (hx : State.Stored q b x) => ?_) ?_ <;> [(try clear_value x); subst x]
  extract_lets +onlyGivenNames x; refine (fun (hx : State.Stored q b x) => ?_) ?_ <;> [(try clear_value x); subst x]
  with_reducible apply State.post_stored
  with_reducible assumption
  exact kf.sub rfl
  with_reducible apply stored_foldl
  intro _ _ _
  with_reducible apply State.forceTrip_stored
  with_reducible assumption
  exact kf.sub rfl
  with_reducible assumption
  with_reducible apply State.advance_stored
  with_reducible apply State.put_stored
  with_reducible assumption
  exact kf.get rfl
  exact kf.sub rfl

theorem State.bootPlanes_stored {s : State} (hs : State.Stored q b s) (kf : b.free (postParts ++ [Part.reg RegGroup.port, Part.reg RegGroup.stp, Part.reg RegGroup.pc, Part.now, Part.ports, Part.axes, Part.pc, Part.ic])) :
    State.Stored q b (State.bootPlanes s) := by
  unfold State.bootPlanes
  extract_lets +onlyGivenNames x; subst x
  extract_lets +onlyGivenNames x; clear_value x
  extract_lets +onlyGivenNames x; refine (fun (hx : State.Stored q b x) => ?_) ?_ <;> [(try clear_value x); subst x]
  simp -zeta only
  with_reducible apply stored_ite
  with_reducible assumption
  split
  with_reducible apply State.noPlane_stored
  with_reducible assumption
  exact kf.sub rfl
  with_reducible apply State.put_stored
  with_reducible apply State.lbistStart_stored
  with_reducible apply State.setPlane_stored
  with_reducible assumption
  exact kf.sub rfl
  exact kf.sub rfl
  exact kf.get rfl
  with_reducible apply State.wr_stored
  with_reducible apply State.lbistStart_stored
  with_reducible apply State.setPlane_stored
  with_reducible apply State.put_stored
  with_reducible apply State.lbistStart_stored
  with_reducible apply State.setPlane_stored
  with_reducible assumption
  exact kf.sub rfl
  exact kf.sub rfl
  exact kf.get rfl
  exact kf.sub rfl
  exact kf.sub rfl
  exact kf.get rfl
  with_reducible apply State.updPc_stored
  with_reducible assumption
  exact kf.sub rfl

theorem execPlaneTestDone_stored {pl : Fin 2} {k : Option PlaneFault} {tile : Option (Fin 16)} {s : State} (hs : State.Stored q b s) (kf : b.free (postParts ++ [Part.reg RegGroup.port, Part.reg RegGroup.stp, Part.reg RegGroup.pc, Part.now, Part.ports, Part.axes, Part.tiles, Part.pc, Part.ic])) :
    answers (execPlaneTestDone pl k tile s) (State.Stored q b) := by
  unfold execPlaneTestDone
  with_reducible apply answers_ite
  with_reducible apply answers_next
  with_reducible assumption
  split
  with_reducible apply answers_next
  with_reducible apply State.bootPlanes_stored
  with_reducible apply State.planeDown_stored
  with_reducible apply State.setHealth_stored
  with_reducible assumption
  exact kf.sub rfl
  exact kf.sub rfl
  exact kf.sub rfl
  with_reducible apply answers_ite
  with_reducible apply answers_next
  with_reducible apply State.bootPlanes_stored
  with_reducible apply State.updPc_stored
  with_reducible assumption
  exact kf.sub rfl
  exact kf.sub rfl
  with_reducible apply answers_next
  with_reducible apply State.updPc_stored
  with_reducible apply State.setPlane_stored
  with_reducible assumption
  exact kf.sub rfl
  exact kf.sub rfl

theorem execPcReturn_stored {pl : Fin 2} {s : State} (hs : State.Stored q b s) (kf : b.free [Part.reg RegGroup.pc, Part.ic]) :
    answers (execPcReturn pl s) (State.Stored q b) := by
  unfold execPcReturn
  with_reducible apply answers_next
  with_reducible apply stored_ite
  with_reducible apply State.planeTest_stored
  with_reducible assumption
  exact kf.sub rfl
  with_reducible apply State.flag_stored
  with_reducible assumption
  exact kf.get rfl

theorem execPcHandover_stored {s : State} (hs : State.Stored q b s) (kf : b.free [Part.reg RegGroup.pc, Part.pc]) :
    answers (execPcHandover s) (State.Stored q b) := by
  unfold execPcHandover
  extract_lets +onlyGivenNames x; clear_value x
  with_reducible apply answers_next
  with_reducible apply stored_ite
  with_reducible apply State.updPc_stored
  with_reducible assumption
  exact kf.sub rfl
  with_reducible apply State.flag_stored
  with_reducible assumption
  exact kf.get rfl

theorem execPcTakeDown_stored {pl : Fin 2} {s : State} (hs : State.Stored q b s) (kf : b.free [Part.reg RegGroup.pc, Part.tiles, Part.pc, Part.ic]) :
    answers (execPcTakeDown pl s) (State.Stored q b) := by
  unfold execPcTakeDown
  with_reducible apply answers_next
  with_reducible apply stored_ite
  with_reducible apply State.planeDown_stored
  with_reducible assumption
  exact kf.sub rfl
  with_reducible apply State.flag_stored
  with_reducible assumption
  exact kf.get rfl

theorem State.extTest_stored {s : State} (hs : State.Stored q b s) (kf : b.free [Part.reg RegGroup.pc]) :
    State.Stored q b (State.extTest s) := by
  unfold State.extTest
  with_reducible apply State.put_stored
  with_reducible assumption
  exact kf.get rfl

theorem execPcExtTest_stored {s : State} (hs : State.Stored q b s) (kf : b.free [Part.reg RegGroup.pc]) :
    answers (execPcExtTest s) (State.Stored q b) := by
  unfold execPcExtTest
  with_reducible apply answers_next
  with_reducible apply State.extTest_stored
  with_reducible assumption
  exact kf.sub rfl

theorem execPlaneComparison_stored {s : State} (hs : State.Stored q b s) (kf : b.free (postParts ++ [Part.reg RegGroup.pc, Part.now, Part.pc, Part.ic])) :
    answers (execPlaneComparison s) (State.Stored q b) := by
  unfold execPlaneComparison
  extract_lets +onlyGivenNames x; clear_value x
  extract_lets +onlyGivenNames x; refine (fun (hx : State.Stored q b x) => ?_) ?_ <;> [(try clear_value x); subst x]
  extract_lets +onlyGivenNames x; subst x
  extract_lets +onlyGivenNames x; refine (fun (hx : State.Stored q b x) => ?_) ?_ <;> [(try clear_value x); subst x]
  extract_lets +onlyGivenNames x; refine (fun (hx : State.Stored q b x) => ?_) ?_ <;> [(try clear_value x); subst x]
  split
  with_reducible apply answers_next
  with_reducible assumption
  with_reducible apply answers_ite
  with_reducible apply answers_next
  with_reducible assumption
  split
  with_reducible apply answers_next
  with_reducible apply stored_ite
  with_reducible apply State.wr_stored
  with_reducible assumption
  exact kf.get rfl
  with_reducible assumption
  extract_lets +onlyGivenNames x; refine (fun (hx : State.Stored q b x) => ?_) ?_ <;> [(try clear_value x); subst x]
  extract_lets +onlyGivenNames x; refine (fun (hx : State.Stored q b x) => ?_) ?_ <;> [(try clear_value x); subst x]
  extract_lets +onlyGivenNames x; refine (fun (hx : State.Stored q b x) => ?_) ?_ <;> [(try clear_value x); subst x]
  extract_lets +onlyGivenNames x; refine (fun (hx : State.Stored q b x) => ?_) ?_ <;> [(try clear_value x); subst x]
  with_reducible apply answers_next
  with_reducible apply stored_ite
  with_reducible apply State.extTest_stored
  with_reducible assumption
  exact kf.sub rfl
  with_reducible assumption
  with_reducible apply stored_ite
  with_reducible apply State.updPc_stored
  with_reducible apply State.wr_stored
  with_reducible assumption
  exact kf.get rfl
  exact kf.sub rfl
  with_reducible assumption
  with_reducible apply State.updPc_stored
  with_reducible apply State.bumpField_stored
  with_reducible assumption
  exact kf.get rfl
  exact kf.sub rfl
  with_reducible apply stored_ite
  with_reducible apply State.post_stored
  with_reducible apply State.raise_stored
  with_reducible assumption
  exact kf.sub rfl
  exact kf.sub rfl
  with_reducible assumption
  with_reducible apply State.put_stored
  with_reducible apply State.put_stored
  with_reducible apply State.put_stored
  with_reducible assumption
  exact kf.get rfl
  exact kf.get rfl
  exact kf.get rfl
  with_reducible apply State.bump_stored
  with_reducible apply State.bump_stored
  with_reducible assumption
  exact kf.get rfl
  exact kf.get rfl
  with_reducible apply State.updPc_stored
  with_reducible apply State.put_stored
  with_reducible assumption
  exact kf.get rfl
  exact kf.sub rfl
  with_reducible apply State.updPc_stored
  with_reducible apply State.advance_stored
  with_reducible assumption
  exact kf.sub rfl
  exact kf.sub rfl

theorem execPlaneConfirmed_stored {s : State} (hs : State.Stored q b s) (kf : b.free [Part.reg RegGroup.pc, Part.pc, Part.ic]) :
    answers (execPlaneConfirmed s) (State.Stored q b) := by
  unfold execPlaneConfirmed
  extract_lets +onlyGivenNames x; refine (fun (hx : State.Stored q b x) => ?_) ?_ <;> [(try clear_value x); subst x]
  extract_lets +onlyGivenNames x; clear_value x
  with_reducible apply answers_ite
  with_reducible apply answers_next
  with_reducible assumption
  with_reducible apply answers_ite
  with_reducible apply answers_next
  with_reducible apply stored_ite
  with_reducible apply State.updPc_stored
  with_reducible assumption
  exact kf.sub rfl
  with_reducible apply State.setPlane_stored
  with_reducible assumption
  exact kf.sub rfl
  with_reducible apply answers_ite
  with_reducible apply answers_next
  with_reducible apply stored_ite
  with_reducible apply State.updPc_stored
  with_reducible assumption
  exact kf.sub rfl
  with_reducible apply stored_ite
  with_reducible apply State.updPc_stored
  with_reducible assumption
  exact kf.sub rfl
  with_reducible assumption
  with_reducible apply answers_next
  with_reducible assumption
  with_reducible apply State.setPlane_stored
  with_reducible assumption
  exact kf.sub rfl

theorem State.copyPlane_stored {s : State} {dst : Fin 2} (hs : State.Stored q b s) (kf :
    b.free [Part.reg RegGroup.kn, Part.mem, Part.kiln, Part.tiles]) :
  State.Stored q b (s.copyPlane dst) := by
  unfold State.copyPlane
  extract_lets src go m x y
  refine stored_ite hs ?_
  have h : State.Stored q b x := stored_put_mem hs (copyRange_wf _ _ _ _ (copyRange_wf _ _ _ _ (copyRange_wf _ _ _ _ hs.2.1))) (kf.get rfl)
  clear_value x
  have hy : State.Stored q b y := stored_foldl (fun s c h => State.setTile_stored h (kf.sub rfl)) h
  clear_value y
  exact stored_foldl (fun s c h => State.showPhase_stored (State.setKctx_stored h (kf.sub rfl)) (kf.sub rfl)) hy

theorem execTransferSweepDone_stored {pl : Fin 2} {s : State} (hs : State.Stored q b s) (kf : b.free [Part.reg RegGroup.kn, Part.reg RegGroup.pc, Part.mem, Part.kiln, Part.tiles, Part.pc]) :
    answers (execTransferSweepDone pl s) (State.Stored q b) := by
  unfold execTransferSweepDone
  with_reducible apply answers_ite
  with_reducible apply answers_next
  with_reducible apply State.updPc_stored
  with_reducible apply State.wr_stored
  with_reducible apply State.copyPlane_stored
  with_reducible assumption
  exact kf.sub rfl
  exact kf.get rfl
  exact kf.sub rfl
  with_reducible apply answers_next
  with_reducible assumption

theorem execLbistSlice_stored {t_ : Fin 16} {s : State} (hs : State.Stored q b s) (kf : b.free [Part.fresh, Part.tiles, Part.pc]) :
    answers (execLbistSlice t_ s) (State.Stored q b) := by
  unfold execLbistSlice
  simp -zeta only
  with_reducible apply answers_next
  with_reducible apply stored_foldl
  intro _ _ _
  extract_lets +onlyGivenNames x; clear_value x
  with_reducible apply State.updPc_stored
  with_reducible apply State.setTile_stored
  with_reducible apply State.useFresh_stored
  with_reducible assumption
  exact kf.sub rfl
  exact kf.sub rfl
  exact kf.sub rfl
  with_reducible assumption

theorem execLbistStarved_stored {pl : Fin 2} {t_ : Fin 16} {s : State} (hs : State.Stored q b s) (kf : b.free [Part.reg RegGroup.pc, Part.now]) :
    answers (execLbistStarved pl t_ s) (State.Stored q b) := by
  unfold execLbistStarved
  extract_lets +onlyGivenNames x; clear_value x
  with_reducible apply answers_ite
  with_reducible apply answers_next
  with_reducible apply State.wr_stored
  with_reducible apply State.advance_stored
  with_reducible assumption
  exact kf.sub rfl
  (with_reducible rw [healthReg_group]); exact kf.get rfl
  with_reducible apply answers_next
  with_reducible assumption

theorem State.via_stored {s : State} {f : State → Host.Outcome State Fault Refusal}
  (hs : State.Stored q b s) (hf : ∀ s, State.Stored q b s → answers (f s) (State.Stored q b)) :
    State.Stored q b (s.via f) := by
  replace hf := hf s hs
  unfold State.via
  split
  · rename_i t e
    rw [e] at hf
    exact hf
  · exact hs

theorem State.onChange_stored {s : State} {f : Field} {v : Word} {g : Bool → State → Host.Outcome State Fault Refusal} (hs : State.Stored q b s) (hg : ∀ y0 s, State.Stored q b s → answers (g y0 s) (State.Stored q b)) :
    State.Stored q b (State.onChange s f v g) := by
  unfold State.onChange
  with_reducible apply stored_ite
  with_reducible assumption
  with_reducible apply State.via_stored
  with_reducible assumption
  intro _ _
  with_reducible apply hg
  with_reducible assumption

theorem State.onOne_stored {s : State} {f : Field} {v : Word} {g : State → Host.Outcome State Fault Refusal} (hs : State.Stored q b s) (hg : ∀ s, State.Stored q b s → answers (g s) (State.Stored q b)) :
    State.Stored q b (State.onOne s f v g) := by
  unfold State.onOne
  with_reducible apply stored_ite
  with_reducible apply State.via_stored
  with_reducible assumption
  intro _ _
  with_reducible apply hg
  with_reducible assumption
  with_reducible assumption

theorem State.plainWrite_stored {s : State} {who : Who} {r : Reg} {v : Word} (hs : State.Stored q b s) (kf : b.free (regParts)) :
    State.Stored q b (State.plainWrite s who r v) := by
  unfold State.plainWrite
  extract_lets +onlyGivenNames x; refine (fun (hx : State.Stored q b x) => ?_) ?_ <;> [(try clear_value x); subst x]
  with_reducible apply stored_ite
  with_reducible apply State.flag_stored
  with_reducible assumption
  exact kf.get rfl
  with_reducible assumption
  with_reducible apply State.wr_stored
  with_reducible assumption
  exact kf.getReg rfl

theorem State.pwmCtrl_stored {s : State} {n : Fin 64} {v : Word} (hs : State.Stored q b s) (kf : b.free (postParts ++ [Part.reg RegGroup.port, Part.reg RegGroup.stp, Part.ports, Part.axes, Part.boot])) :
    State.Stored q b (State.pwmCtrl s n v) := by
  unfold State.pwmCtrl
  extract_lets +onlyGivenNames x; refine (fun (hx : State.Stored q b x) => ?_) ?_ <;> [(try clear_value x); subst x]
  extract_lets +onlyGivenNames x; refine (fun (hx : State.Stored q b x) => ?_) ?_ <;> [(try clear_value x); subst x]
  extract_lets +onlyGivenNames x; refine (fun (hx : State.Stored q b x) => ?_) ?_ <;> [(try clear_value x); subst x]
  with_reducible apply State.onOne_stored
  with_reducible assumption
  intro _ _
  with_reducible apply execClrTrip_stored
  with_reducible assumption
  exact kf.sub rfl
  with_reducible apply State.onChange_stored
  with_reducible assumption
  intro _ _ _
  split
  with_reducible apply execPwmArm_stored
  with_reducible assumption
  exact kf.sub rfl
  with_reducible apply execPwmDisarm_stored
  with_reducible assumption
  exact kf.sub rfl
  with_reducible apply State.onChange_stored
  with_reducible assumption
  intro _ _ _
  split
  with_reducible apply execPwmRunSet_stored
  with_reducible assumption
  exact kf.sub rfl
  with_reducible apply execPwmRunClear_stored
  with_reducible assumption
  exact kf.sub rfl
  with_reducible apply State.onChange_stored
  with_reducible assumption
  intro _ _ _
  split
  with_reducible apply execForceTripSet_stored
  with_reducible assumption
  exact kf.sub rfl
  with_reducible apply execForceTripClear_stored
  with_reducible assumption
  exact kf.sub rfl

theorem State.ldCtrl_stored {s : State} {n : Fin 256} {v : Word} (hs : State.Stored q b s) (kf : b.free [Part.reg RegGroup.ld, Part.loops]) :
    State.Stored q b (State.ldCtrl s n v) := by
  unfold State.ldCtrl
  extract_lets +onlyGivenNames x; refine (fun (hx : State.Stored q b x) => ?_) ?_ <;> [(try clear_value x); subst x]
  extract_lets +onlyGivenNames x; refine (fun (hx : State.Stored q b x) => ?_) ?_ <;> [(try clear_value x); subst x]
  with_reducible apply State.onOne_stored
  with_reducible assumption
  intro _ _
  with_reducible apply execLoopClrFault_stored
  with_reducible assumption
  exact kf.sub rfl
  with_reducible apply State.onChange_stored
  with_reducible assumption
  intro _ _ _
  split
  with_reducible apply execLoopEnable_stored
  with_reducible assumption
  exact kf.sub rfl
  with_reducible apply execLoopDisable_stored
  with_reducible assumption
  exact kf.sub rfl
  with_reducible apply State.via_stored
  with_reducible assumption
  intro _ _
  with_reducible apply execLdConfigWrite_stored
  with_reducible assumption
  exact kf.sub rfl

theorem State.stpCtrl_stored {s : State} {i : Fin 16} {v : Word} (hs : State.Stored q b s) (kf : b.free (postParts ++ [Part.reg RegGroup.stp, Part.axes])) :
    State.Stored q b (State.stpCtrl s i v) := by
  unfold State.stpCtrl
  extract_lets +onlyGivenNames x; refine (fun (hx : State.Stored q b x) => ?_) ?_ <;> [(try clear_value x); subst x]
  extract_lets +onlyGivenNames x; refine (fun (hx : State.Stored q b x) => ?_) ?_ <;> [(try clear_value x); subst x]
  with_reducible apply State.onOne_stored
  with_reducible apply State.onOne_stored
  with_reducible apply State.onOne_stored
  with_reducible assumption
  intro _ _
  with_reducible apply execStpStop_stored
  with_reducible assumption
  exact kf.sub rfl
  intro _ _
  with_reducible apply execStpAbort_stored
  with_reducible assumption
  exact kf.sub rfl
  intro _ _
  with_reducible apply execStpClr_stored
  with_reducible assumption
  exact kf.sub rfl
  with_reducible apply State.onChange_stored
  with_reducible assumption
  intro _ _ _
  with_reducible apply execStpPinArm_stored
  with_reducible assumption
  exact kf.sub rfl
  with_reducible apply State.onChange_stored
  with_reducible assumption
  intro _ _ _
  with_reducible apply execStpEn_stored
  with_reducible assumption
  exact kf.sub rfl

theorem State.armCtrl_stored {s : State} {who : Who} {a : Fin 8} {v : Word} (hs : State.Stored q b s) (kf : b.free (regParts ++ [Part.loops, Part.arms, Part.pc])) :
    State.Stored q b (State.armCtrl s who a v) := by
  unfold State.armCtrl
  extract_lets +onlyGivenNames x; refine (fun (hx : State.Stored q b x) => ?_) ?_ <;> [(try clear_value x); subst x]
  extract_lets +onlyGivenNames x; refine (fun (hx : State.Stored q b x) => ?_) ?_ <;> [(try clear_value x); subst x]
  with_reducible apply State.onOne_stored
  with_reducible apply State.onOne_stored
  with_reducible assumption
  intro _ _
  with_reducible apply execArmAbort_stored
  with_reducible assumption
  exact kf.sub rfl
  intro _ _
  with_reducible apply execArmClr_stored
  with_reducible assumption
  exact kf.sub rfl
  with_reducible apply State.onOne_stored
  with_reducible apply State.onOne_stored
  with_reducible assumption
  intro _ _
  with_reducible apply execArmPause_stored
  with_reducible assumption
  exact kf.sub rfl
  intro _ _
  with_reducible apply execArmResume_stored
  with_reducible assumption
  exact kf.sub rfl
  with_reducible apply State.onChange_stored
  with_reducible apply State.plainWrite_stored
  with_reducible assumption
  exact kf.sub rfl
  intro _ _ _
  with_reducible apply execArmCtrlEn_stored
  with_reducible assumption
  exact kf.sub rfl

theorem State.pcCtrl_stored {s : State} {who : Who} {v : Word} (hs : State.Stored q b s) (kf : b.free (regParts ++ [Part.tiles, Part.pc, Part.ic])) :
    State.Stored q b (State.pcCtrl s who v) := by
  unfold State.pcCtrl
  extract_lets +onlyGivenNames x; refine (fun (hx : State.Stored q b x) => ?_) ?_ <;> [(try clear_value x); subst x]
  extract_lets +onlyGivenNames x; refine (fun (hx : State.Stored q b x) => ?_) ?_ <;> [(try clear_value x); subst x]
  extract_lets +onlyGivenNames x; refine (fun (hx : State.Stored q b x) => ?_) ?_ <;> [(try clear_value x); subst x]
  with_reducible apply State.onOne_stored
  with_reducible apply State.onOne_stored
  with_reducible assumption
  intro _ _
  with_reducible apply execPcTakeDown_stored
  with_reducible assumption
  exact kf.sub rfl
  intro _ _
  with_reducible apply execPcExtTest_stored
  with_reducible assumption
  exact kf.sub rfl
  with_reducible apply State.onOne_stored
  with_reducible apply State.onOne_stored
  with_reducible assumption
  intro _ _
  with_reducible apply execPcHandover_stored
  with_reducible assumption
  exact kf.sub rfl
  intro _ _
  with_reducible apply execPcTakeDown_stored
  with_reducible assumption
  exact kf.sub rfl
  with_reducible apply State.onOne_stored
  with_reducible apply State.onOne_stored
  with_reducible assumption
  intro _ _
  with_reducible apply execPcReturn_stored
  with_reducible assumption
  exact kf.sub rfl
  intro _ _
  with_reducible apply execPcReturn_stored
  with_reducible assumption
  exact kf.sub rfl
  with_reducible apply State.plainWrite_stored
  with_reducible assumption
  exact kf.sub rfl

theorem State.descWrite_stored {s : State} {v : Word} (hs : State.Stored q b s) (kf : b.free [Part.reg RegGroup.stk, Part.stk]) :
    State.Stored q b (State.descWrite s v) := by
  unfold State.descWrite
  extract_lets +onlyGivenNames x; clear_value x
  split
  with_reducible apply State.via_stored
  with_reducible assumption
  intro _ _
  with_reducible apply execStkCreate_stored
  with_reducible assumption
  exact kf.sub rfl
  with_reducible apply State.via_stored
  with_reducible assumption
  intro _ _
  with_reducible apply execStkDelete_stored
  with_reducible assumption
  exact kf.sub rfl
  with_reducible apply State.via_stored
  with_reducible assumption
  intro _ _
  with_reducible apply execStkReadDesc_stored
  with_reducible assumption
  exact kf.sub rfl
  with_reducible apply State.via_stored
  with_reducible assumption
  intro _ _
  with_reducible apply execStkEnable_stored
  with_reducible assumption
  exact kf.sub rfl
  with_reducible apply State.via_stored
  with_reducible assumption
  intro _ _
  with_reducible apply execStkDisable_stored
  with_reducible assumption
  exact kf.sub rfl
  with_reducible apply stored_ite
  with_reducible apply State.flag_stored
  with_reducible assumption
  exact kf.get rfl
  with_reducible apply State.put_stored
  with_reducible assumption
  exact kf.get rfl

theorem State.bufWriteCmd_stored {s : State} {v : Word} (hs : State.Stored q b s) (kf : b.free [Part.reg RegGroup.stk, Part.stk]) :
    State.Stored q b (State.bufWriteCmd s v) := by
  unfold State.bufWriteCmd
  extract_lets +onlyGivenNames x; clear_value x
  split
  with_reducible apply State.via_stored
  with_reducible assumption
  intro _ _
  with_reducible apply execBufCreate_stored
  with_reducible assumption
  exact kf.sub rfl
  with_reducible apply State.via_stored
  with_reducible assumption
  intro _ _
  with_reducible apply execBufDelete_stored
  with_reducible assumption
  exact kf.sub rfl
  with_reducible apply State.via_stored
  with_reducible assumption
  intro _ _
  with_reducible apply execBufRead_stored
  with_reducible assumption
  exact kf.sub rfl
  with_reducible apply stored_ite
  with_reducible apply State.flag_stored
  with_reducible assumption
  exact kf.get rfl
  with_reducible apply State.put_stored
  with_reducible assumption
  exact kf.get rfl

theorem State.siReqWrite_stored {s : State} {v : Word} (hs : State.Stored q b s) (kf : b.free [Part.si]) :
    State.Stored q b (State.siReqWrite s v) := by
  unfold State.siReqWrite
  extract_lets +onlyGivenNames x; clear_value x
  split
  with_reducible apply State.via_stored
  with_reducible assumption
  intro _ _
  with_reducible apply execSiReqSto_stored
  with_reducible assumption
  exact kf.sub rfl
  with_reducible apply State.via_stored
  with_reducible assumption
  intro _ _
  with_reducible apply execSiReqSs1_stored
  with_reducible assumption
  exact kf.sub rfl
  with_reducible apply State.via_stored
  with_reducible assumption
  intro _ _
  with_reducible apply execSiReqSs2_stored
  with_reducible assumption
  exact kf.sub rfl
  with_reducible apply State.via_stored
  with_reducible assumption
  intro _ _
  with_reducible apply execSiReqRelease_stored
  with_reducible assumption
  exact kf.sub rfl
  with_reducible assumption

theorem State.timeWrite_stored {s : State} {who : Who} {r : Reg} {v : Word} (hs : State.Stored q b s) (kf : b.free (regParts ++ [Part.seq, Part.time, Part.pulses, Part.lk, Part.evts, Part.eth, Part.chain])) :
    State.Stored q b (State.timeWrite s who r v) := by
  unfold State.timeWrite
  split
  with_reducible apply State.via_stored
  with_reducible assumption
  intro _ _
  with_reducible apply execIslClkWrite_stored
  with_reducible assumption
  exact kf.sub rfl
  with_reducible apply State.via_stored
  with_reducible assumption
  intro _ _
  with_reducible apply execPeriodSelWrite_stored
  with_reducible assumption
  exact kf.sub rfl
  with_reducible apply stored_foldl
  intro _ _ _
  with_reducible apply State.releasePins_stored
  with_reducible assumption
  exact kf.sub rfl
  with_reducible assumption
  with_reducible apply State.writeSource_stored
  with_reducible apply State.plainWrite_stored
  with_reducible assumption
  exact kf.sub rfl
  exact kf.sub rfl
  with_reducible apply State.writeRate_stored
  with_reducible assumption
  exact kf.sub rfl
  extract_lets +onlyGivenNames x; refine (fun (hx : State.Stored q b x) => ?_) ?_ <;> [(try clear_value x); subst x]
  with_reducible apply State.onOne_stored
  with_reducible assumption
  intro _ _
  with_reducible apply execTpoGo_stored
  with_reducible assumption
  exact kf.sub rfl
  with_reducible apply State.onChange_stored
  with_reducible apply State.plainWrite_stored
  with_reducible assumption
  exact kf.sub rfl
  intro _ _ _
  with_reducible apply execTpoArmWrite_stored
  with_reducible assumption
  exact kf.sub rfl
  with_reducible apply stored_ite
  with_reducible apply State.flag_stored
  with_reducible assumption
  exact kf.get rfl
  with_reducible apply State.plainWrite_stored
  with_reducible assumption
  exact kf.sub rfl
  with_reducible apply State.ethWrite_stored
  with_reducible assumption
  exact kf.sub rfl
  with_reducible apply State.ethWrite_stored
  with_reducible assumption
  exact kf.sub rfl
  with_reducible apply State.ethWrite_stored
  with_reducible assumption
  exact kf.sub rfl
  with_reducible apply State.ethWrite_stored
  with_reducible assumption
  exact kf.sub rfl
  with_reducible apply State.ethWrite_stored
  with_reducible assumption
  exact kf.sub rfl
  with_reducible apply State.ethWrite_stored
  with_reducible assumption
  exact kf.sub rfl
  with_reducible apply State.ethWrite_stored
  with_reducible assumption
  exact kf.sub rfl
  with_reducible apply State.ethWrite_stored
  with_reducible assumption
  exact kf.sub rfl
  with_reducible apply State.mdioWrite_stored
  with_reducible assumption
  exact kf.sub rfl
  with_reducible apply State.plainWrite_stored
  with_reducible assumption
  exact kf.sub rfl

theorem State.portWrite_stored {s : State} {who : Who} {r : Reg} {v : Word} (hs : State.Stored q b s) (kf : b.free (regParts ++ [Part.lk, Part.evts, Part.ports, Part.axes, Part.sdclk, Part.fbs, Part.boot])) :
    State.Stored q b (State.portWrite s who r v) := by
  unfold State.portWrite
  split
  with_reducible apply State.pwmCtrl_stored
  with_reducible assumption
  exact kf.sub rfl
  with_reducible apply State.via_stored
  with_reducible assumption
  intro _ _
  with_reducible apply execPwmConfigWrite_stored
  with_reducible assumption
  exact kf.sub rfl
  with_reducible apply State.via_stored
  with_reducible assumption
  intro _ _
  with_reducible apply execPwmConfigWrite_stored
  with_reducible assumption
  exact kf.sub rfl
  with_reducible apply State.via_stored
  with_reducible assumption
  intro _ _
  with_reducible apply execPwmConfigWrite_stored
  with_reducible assumption
  exact kf.sub rfl
  with_reducible apply State.via_stored
  with_reducible assumption
  intro _ _
  with_reducible apply execPwmConfigWrite_stored
  with_reducible assumption
  exact kf.sub rfl
  with_reducible apply State.via_stored
  with_reducible assumption
  intro _ _
  with_reducible apply execPwmConfigWrite_stored
  with_reducible assumption
  exact kf.sub rfl
  with_reducible apply stored_foldl
  intro _ _ _
  with_reducible apply State.plainWrite_stored
  with_reducible assumption
  exact kf.sub rfl
  with_reducible assumption
  with_reducible apply stored_foldl
  intro _ _ _
  with_reducible apply State.plainWrite_stored
  with_reducible assumption
  exact kf.sub rfl
  with_reducible assumption
  with_reducible apply State.via_stored
  with_reducible assumption
  intro _ _
  with_reducible apply execEwCommit_stored
  with_reducible assumption
  exact kf.sub rfl
  with_reducible apply State.via_stored
  with_reducible assumption
  intro _ _
  with_reducible apply execSdfCfgWrite_stored
  with_reducible assumption
  exact kf.sub rfl
  with_reducible apply State.via_stored
  with_reducible assumption
  intro _ _
  with_reducible apply execSdfGainWrite_stored
  with_reducible assumption
  exact kf.sub rfl
  with_reducible apply State.via_stored
  with_reducible assumption
  intro _ _
  with_reducible apply execSdfGainWrite_stored
  with_reducible assumption
  exact kf.sub rfl
  with_reducible apply State.via_stored
  with_reducible assumption
  intro _ _
  with_reducible apply execSdfGainWrite_stored
  with_reducible assumption
  exact kf.sub rfl
  with_reducible apply State.via_stored
  with_reducible assumption
  intro _ _
  with_reducible apply execSdfGainWrite_stored
  with_reducible assumption
  exact kf.sub rfl
  with_reducible apply State.onChange_stored
  with_reducible apply State.via_stored
  with_reducible assumption
  intro _ _
  with_reducible apply execSdcArmWrite_stored
  with_reducible assumption
  exact kf.sub rfl
  intro _ _ _
  with_reducible apply execSdcFreqWrite_stored
  with_reducible assumption
  exact kf.sub rfl
  with_reducible apply State.via_stored
  with_reducible assumption
  intro _ _
  with_reducible apply execSdcDlyWrite_stored
  with_reducible assumption
  exact kf.sub rfl
  extract_lets +onlyGivenNames x; refine (fun (hx : State.Stored q b x) => ?_) ?_ <;> [(try clear_value x); subst x]
  with_reducible apply State.onOne_stored
  with_reducible apply State.onChange_stored
  with_reducible assumption
  intro _ _ _
  with_reducible apply execFbOutEnWrite_stored
  with_reducible assumption
  exact kf.sub rfl
  intro _ _
  with_reducible apply execEncClr_stored
  with_reducible assumption
  exact kf.sub rfl
  with_reducible apply State.onChange_stored
  with_reducible assumption
  intro _ _ _
  with_reducible apply execFbEnWrite_stored
  with_reducible assumption
  exact kf.sub rfl
  with_reducible apply State.via_stored
  with_reducible assumption
  intro _ _
  with_reducible apply execFbCfgWrite_stored
  with_reducible assumption
  exact kf.sub rfl
  with_reducible apply State.via_stored
  with_reducible assumption
  intro _ _
  with_reducible apply execFbCfgWrite_stored
  with_reducible assumption
  exact kf.sub rfl
  with_reducible apply State.via_stored
  with_reducible assumption
  intro _ _
  with_reducible apply execFbLimitWrite_stored
  with_reducible assumption
  exact kf.sub rfl
  with_reducible apply State.via_stored
  with_reducible assumption
  intro _ _
  with_reducible apply execFbLimitWrite_stored
  with_reducible assumption
  exact kf.sub rfl
  with_reducible apply State.via_stored
  with_reducible assumption
  intro _ _
  with_reducible apply execFbSetWrite_stored
  with_reducible assumption
  exact kf.sub rfl
  with_reducible apply State.via_stored
  with_reducible assumption
  intro _ _
  with_reducible apply execCmpArmWrite_stored
  with_reducible assumption
  exact kf.sub rfl
  with_reducible apply State.onChange_stored
  with_reducible apply State.plainWrite_stored
  with_reducible assumption
  exact kf.sub rfl
  intro _ _ _
  with_reducible apply execCmpEnWrite_stored
  with_reducible assumption
  exact kf.sub rfl
  with_reducible apply State.plainWrite_stored
  with_reducible assumption
  exact kf.sub rfl

theorem State.loopWrite_stored {s : State} {who : Who} {n : Fin 256} {r : Reg} {v : Word} (hs : State.Stored q b s) (kf : b.free (regParts ++ [Part.mem, Part.loops])) :
    State.Stored q b (State.loopWrite s who n r v) := by
  unfold State.loopWrite
  extract_lets +onlyGivenNames x; clear_value x
  extract_lets +onlyGivenNames x; refine (fun (hx3 : ∀ y, State.Stored q b y → State.Stored q b (x y)) => ?_) ?_ <;> [(try clear_value x); subst x]
  split
  with_reducible apply State.ldCtrl_stored
  with_reducible assumption
  exact kf.sub rfl
  with_reducible apply State.via_stored
  with_reducible assumption
  intro _ _
  with_reducible apply execLdConfigWrite_stored
  with_reducible assumption
  exact kf.sub rfl
  with_reducible apply State.via_stored
  with_reducible assumption
  intro _ _
  with_reducible apply execLdConfigWrite_stored
  with_reducible assumption
  exact kf.sub rfl
  with_reducible apply State.via_stored
  with_reducible assumption
  intro _ _
  with_reducible apply execLdConfigWrite_stored
  with_reducible assumption
  exact kf.sub rfl
  with_reducible apply State.via_stored
  with_reducible assumption
  intro _ _
  with_reducible apply execLdConfigWrite_stored
  with_reducible assumption
  exact kf.sub rfl
  with_reducible apply State.via_stored
  with_reducible assumption
  intro _ _
  with_reducible apply execLdConfigWrite_stored
  with_reducible assumption
  exact kf.sub rfl
  with_reducible apply State.via_stored
  with_reducible assumption
  intro _ _
  with_reducible apply execLdConfigWrite_stored
  with_reducible assumption
  exact kf.sub rfl
  with_reducible apply State.via_stored
  with_reducible assumption
  intro _ _
  with_reducible apply execLdConfigWrite_stored
  with_reducible assumption
  exact kf.sub rfl
  with_reducible apply State.via_stored
  with_reducible assumption
  intro _ _
  with_reducible apply execLdConfigWrite_stored
  with_reducible assumption
  exact kf.sub rfl
  with_reducible apply State.via_stored
  with_reducible assumption
  intro _ _
  with_reducible apply execLdConfigWrite_stored
  with_reducible assumption
  exact kf.sub rfl
  with_reducible apply State.via_stored
  with_reducible assumption
  intro _ _
  with_reducible apply execLdConfigWrite_stored
  with_reducible assumption
  exact kf.sub rfl
  with_reducible apply State.via_stored
  with_reducible assumption
  intro _ _
  with_reducible apply execLdConfigWrite_stored
  with_reducible assumption
  exact kf.sub rfl
  with_reducible apply stored_ite
  with_reducible apply State.via_stored
  with_reducible assumption
  intro _ _
  with_reducible apply execLdSwapReq_stored
  with_reducible assumption
  exact kf.sub rfl
  with_reducible assumption
  with_reducible apply State.via_stored
  with_reducible assumption
  intro _ _
  with_reducible apply execLdBankWrite_stored
  with_reducible assumption
  exact kf.sub rfl
  with_reducible apply hx3
  with_reducible assumption
  with_reducible apply hx3
  with_reducible assumption
  with_reducible apply stored_ite
  with_reducible apply State.via_stored
  with_reducible assumption
  intro _ _
  with_reducible apply execLdRefCommit_stored
  with_reducible assumption
  exact kf.sub rfl
  with_reducible assumption
  with_reducible apply State.via_stored
  with_reducible assumption
  intro _ _
  with_reducible apply execLdSpCommit_stored
  with_reducible assumption
  exact kf.sub rfl
  with_reducible apply State.plainWrite_stored
  with_reducible assumption
  exact kf.sub rfl
  intro _ _
  simp -zeta only
  with_reducible apply stored_ite
  with_reducible apply State.flag_stored
  with_reducible assumption
  exact kf.get rfl
  with_reducible apply State.plainWrite_stored
  with_reducible assumption
  exact kf.sub rfl

theorem State.motionWrite_stored {s : State} {who : Who} {r : Reg} {v : Word} (hs : State.Stored q b s) (kf : b.free (regParts ++ [Part.lk, Part.evts, Part.axes, Part.loops, Part.arms, Part.kiln, Part.stk, Part.pc, Part.ic])) :
    State.Stored q b (State.motionWrite s who r v) := by
  unfold State.motionWrite
  split
  with_reducible apply State.armCtrl_stored
  with_reducible assumption
  exact kf.sub rfl
  with_reducible apply stored_ite
  with_reducible apply State.flag_stored
  with_reducible assumption
  exact kf.get rfl
  with_reducible apply State.plainWrite_stored
  with_reducible assumption
  exact kf.sub rfl
  with_reducible apply stored_ite
  with_reducible apply State.flag_stored
  with_reducible assumption
  exact kf.get rfl
  with_reducible apply State.plainWrite_stored
  with_reducible assumption
  exact kf.sub rfl
  with_reducible apply stored_ite
  with_reducible apply State.flag_stored
  with_reducible assumption
  exact kf.get rfl
  with_reducible apply State.plainWrite_stored
  with_reducible assumption
  exact kf.sub rfl
  with_reducible apply stored_ite
  with_reducible apply State.flag_stored
  with_reducible assumption
  exact kf.get rfl
  with_reducible apply State.plainWrite_stored
  with_reducible assumption
  exact kf.sub rfl
  with_reducible apply State.stpCtrl_stored
  with_reducible assumption
  exact kf.sub rfl
  with_reducible apply State.via_stored
  with_reducible assumption
  intro _ _
  with_reducible apply execStepCfgWrite_stored
  with_reducible assumption
  exact kf.sub rfl
  with_reducible apply State.via_stored
  with_reducible assumption
  intro _ _
  with_reducible apply execStepCfgWrite_stored
  with_reducible assumption
  exact kf.sub rfl
  with_reducible apply State.via_stored
  with_reducible assumption
  intro _ _
  with_reducible apply execStepAccWrite_stored
  with_reducible assumption
  exact kf.sub rfl
  with_reducible apply State.via_stored
  with_reducible assumption
  intro _ _
  with_reducible apply execStepMovePush_stored
  with_reducible assumption
  exact kf.sub rfl
  with_reducible apply State.via_stored
  with_reducible assumption
  intro _ _
  with_reducible apply execStepPreset_stored
  with_reducible assumption
  exact kf.sub rfl
  with_reducible apply stored_ite
  with_reducible apply State.flag_stored
  with_reducible assumption
  exact kf.get rfl
  with_reducible apply State.plainWrite_stored
  with_reducible assumption
  exact kf.sub rfl
  with_reducible apply stored_ite
  with_reducible apply State.flag_stored
  with_reducible assumption
  exact kf.get rfl
  with_reducible apply State.plainWrite_stored
  with_reducible assumption
  exact kf.sub rfl
  with_reducible apply State.via_stored
  with_reducible assumption
  intro _ _
  with_reducible apply execStepCfgWrite_stored
  with_reducible assumption
  exact kf.sub rfl
  with_reducible apply State.onOne_stored
  with_reducible apply State.onChange_stored
  with_reducible assumption
  intro _ _ _
  with_reducible apply execKilnEnWrite_stored
  with_reducible assumption
  exact kf.sub rfl
  intro _ _
  with_reducible apply execKilnFlush_stored
  with_reducible assumption
  exact kf.sub rfl
  with_reducible apply State.plainWrite_stored
  with_reducible assumption
  exact kf.sub rfl

theorem State.stkRegWrite_stored {s : State} {who : Who} {r : StkReg} {v : Word} (hs : State.Stored q b s) (kf : b.free (regParts ++ [Part.now, Part.lk, Part.evts, Part.stk, Part.ic])) :
    State.Stored q b (State.stkRegWrite s who r v) := by
  unfold State.stkRegWrite
  extract_lets +onlyGivenNames x; refine (fun (hx : State.Stored q b x) => ?_) ?_ <;> [(try clear_value x); subst x]
  extract_lets +onlyGivenNames x; refine (fun (hx10 : ∀ y z, State.Stored q b (x y z)) => ?_) ?_ <;> [(try clear_value x); subst x]
  extract_lets +onlyGivenNames x; clear_value x
  extract_lets +onlyGivenNames x; refine (fun (hx : State.Stored q b x) => ?_) ?_ <;> [(try clear_value x); subst x]
  split
  with_reducible apply stored_ite
  with_reducible apply State.icWakeAll_stored
  with_reducible assumption
  exact kf.sub rfl
  with_reducible assumption
  with_reducible apply stored_ite
  with_reducible apply State.flag_stored
  with_reducible assumption
  exact kf.get rfl
  with_reducible assumption
  with_reducible apply stored_ite
  with_reducible apply State.flag_stored
  with_reducible assumption
  exact kf.get rfl
  with_reducible assumption
  with_reducible apply hx10
  with_reducible apply hx10
  with_reducible apply hx10
  with_reducible apply hx10
  with_reducible apply State.stkRelease_stored
  with_reducible assumption
  exact kf.sub rfl
  with_reducible apply State.stkCancel_stored
  with_reducible assumption
  exact kf.sub rfl
  with_reducible apply State.descWrite_stored
  with_reducible assumption
  exact kf.sub rfl
  with_reducible apply State.bufWriteCmd_stored
  with_reducible assumption
  exact kf.sub rfl
  with_reducible assumption
  with_reducible apply State.onOne_stored
  with_reducible assumption
  intro _ _
  with_reducible apply execStkRebalance_stored
  with_reducible assumption
  exact kf.sub rfl
  intro _ _
  simp -zeta only
  with_reducible apply stored_ite
  with_reducible apply State.flag_stored
  with_reducible assumption
  exact kf.get rfl
  with_reducible assumption
  with_reducible apply State.plainWrite_stored
  with_reducible assumption
  exact kf.sub rfl

theorem State.icRegWrite_stored {s : State} {who : Who} {r : IcReg} {v : Word} (hs : State.Stored q b s) (kf :
    b.free (regParts ++ [Part.fresh, Part.lk, Part.evts, Part.stk, Part.ic])) :
  State.Stored q b (s.icRegWrite who r v) := by
  cases r with
  | IC_SRC_CFG n => exact State.icSrcCfg_stored hs (kf.sub rfl)
  | IC_SW_SET k => exact State.via_stored hs (fun s h => execIcSwSet_stored h (kf.sub rfl))
  | IC_SW_CLR k => exact State.via_stored hs (fun s h => execIcSwClr_stored h (kf.sub rfl))
  | IC_COMPLETE => exact State.icComplete_stored hs (kf.sub rfl)
  | _ => exact State.plainWrite_stored hs (kf.sub rfl)

theorem State.stackWrite_stored {s : State} {who : Who} {r : Reg} {v : Word} (hs : State.Stored q b s) (kf : b.free (regParts ++ [Part.now, Part.fresh, Part.lk, Part.evts, Part.stk, Part.ic])) :
    State.Stored q b (State.stackWrite s who r v) := by
  unfold State.stackWrite
  split
  with_reducible apply State.stkRegWrite_stored
  with_reducible assumption
  exact kf.sub rfl
  with_reducible apply State.icRegWrite_stored
  with_reducible assumption
  exact kf.sub rfl
  with_reducible apply State.plainWrite_stored
  with_reducible assumption
  exact kf.sub rfl

theorem State.systemWrite_stored {s : State} {who : Who} {r : Reg} {v : Word} (hs : State.Stored q b s) (kf : b.free (regParts ++ [Part.time, Part.lk, Part.evts, Part.tiles, Part.pc, Part.ic, Part.si, Part.chain, Part.mb, Part.boot])) :
    State.Stored q b (State.systemWrite s who r v) := by
  unfold State.systemWrite
  split
  with_reducible apply State.siReqWrite_stored
  with_reducible assumption
  exact kf.sub rfl
  with_reducible apply State.siToken_stored
  with_reducible assumption
  exact kf.sub rfl
  with_reducible apply State.chainCtrl_stored
  with_reducible assumption
  exact kf.sub rfl
  with_reducible apply State.claspMap_stored
  with_reducible assumption
  exact kf.sub rfl
  with_reducible apply State.pcCtrl_stored
  with_reducible assumption
  exact kf.sub rfl
  with_reducible apply stored_ite
  with_reducible assumption
  with_reducible apply State.plainWrite_stored
  with_reducible assumption
  exact kf.sub rfl
  with_reducible apply stored_ite
  with_reducible assumption
  with_reducible apply State.plainWrite_stored
  with_reducible assumption
  exact kf.sub rfl
  with_reducible apply stored_ite
  with_reducible apply State.startFlush_stored
  with_reducible assumption
  exact kf.sub rfl
  with_reducible assumption
  with_reducible apply stored_ite
  with_reducible apply State.flag_stored
  with_reducible assumption
  exact kf.get rfl
  with_reducible apply State.plainWrite_stored
  with_reducible assumption
  exact kf.sub rfl
  with_reducible apply stored_ite
  with_reducible apply State.otpProgram_stored
  with_reducible assumption
  exact kf.sub rfl
  with_reducible assumption
  with_reducible apply stored_ite
  with_reducible apply State.icTimers_stored
  with_reducible apply State.plainWrite_stored
  with_reducible assumption
  exact kf.sub rfl
  exact kf.sub rfl
  with_reducible assumption
  with_reducible apply stored_ite
  with_reducible apply State.icTimers_stored
  with_reducible apply State.plainWrite_stored
  with_reducible assumption
  exact kf.sub rfl
  exact kf.sub rfl
  with_reducible assumption
  with_reducible apply State.icTimers_stored
  with_reducible apply State.plainWrite_stored
  with_reducible assumption
  exact kf.sub rfl
  exact kf.sub rfl
  with_reducible apply State.via_stored
  with_reducible assumption
  intro _ _
  with_reducible apply execMbPost_stored
  with_reducible assumption
  exact kf.sub rfl
  with_reducible apply State.via_stored
  with_reducible assumption
  intro _ _
  with_reducible apply execMbFree_stored
  with_reducible assumption
  exact kf.sub rfl
  with_reducible apply State.plainWrite_stored
  with_reducible assumption
  exact kf.sub rfl

theorem State.busWrite_stored {s : State} {who : Who} {r : Reg} {v : Word} (hs : State.Stored q b s) (kf : b.free (regParts ++ [Part.now, Part.mem, Part.fresh, Part.seq, Part.time, Part.pulses, Part.lk, Part.evts, Part.ports, Part.axes, Part.sdclk, Part.fbs, Part.loops, Part.arms, Part.kiln, Part.tiles, Part.stk, Part.pc, Part.ic, Part.si, Part.eth, Part.chain, Part.mb, Part.boot])) :
    State.Stored q b (State.busWrite s who r v) := by
  unfold State.busWrite
  extract_lets +onlyGivenNames x; refine (fun (hx : State.Stored q b x) => ?_) ?_ <;> [(try clear_value x); subst x]
  with_reducible apply stored_ite
  split
  with_reducible apply State.timeWrite_stored
  with_reducible assumption
  exact kf.sub rfl
  with_reducible apply State.timeWrite_stored
  with_reducible assumption
  exact kf.sub rfl
  with_reducible apply State.timeWrite_stored
  with_reducible assumption
  exact kf.sub rfl
  with_reducible apply State.timeWrite_stored
  with_reducible assumption
  exact kf.sub rfl
  with_reducible apply State.timeWrite_stored
  with_reducible assumption
  exact kf.sub rfl
  with_reducible apply State.timeWrite_stored
  with_reducible assumption
  exact kf.sub rfl
  with_reducible apply State.timeWrite_stored
  with_reducible assumption
  exact kf.sub rfl
  with_reducible apply State.portWrite_stored
  with_reducible assumption
  exact kf.sub rfl
  with_reducible apply State.portWrite_stored
  with_reducible assumption
  exact kf.sub rfl
  with_reducible apply State.portWrite_stored
  with_reducible assumption
  exact kf.sub rfl
  with_reducible apply State.portWrite_stored
  with_reducible assumption
  exact kf.sub rfl
  with_reducible apply State.loopWrite_stored
  with_reducible assumption
  exact kf.sub rfl
  with_reducible apply State.motionWrite_stored
  with_reducible assumption
  exact kf.sub rfl
  with_reducible apply State.motionWrite_stored
  with_reducible assumption
  exact kf.sub rfl
  with_reducible apply State.motionWrite_stored
  with_reducible assumption
  exact kf.sub rfl
  with_reducible apply State.motionWrite_stored
  with_reducible assumption
  exact kf.sub rfl
  with_reducible apply State.motionWrite_stored
  with_reducible assumption
  exact kf.sub rfl
  with_reducible apply State.stackWrite_stored
  with_reducible assumption
  exact kf.sub rfl
  with_reducible apply State.stackWrite_stored
  with_reducible assumption
  exact kf.sub rfl
  with_reducible apply State.systemWrite_stored
  with_reducible assumption
  exact kf.sub rfl
  with_reducible apply State.systemWrite_stored
  with_reducible assumption
  exact kf.sub rfl
  with_reducible apply State.systemWrite_stored
  with_reducible assumption
  exact kf.sub rfl
  with_reducible apply State.systemWrite_stored
  with_reducible assumption
  exact kf.sub rfl
  with_reducible apply State.systemWrite_stored
  with_reducible assumption
  exact kf.sub rfl
  with_reducible apply State.systemWrite_stored
  with_reducible assumption
  exact kf.sub rfl
  with_reducible apply State.systemWrite_stored
  with_reducible assumption
  exact kf.sub rfl
  with_reducible assumption
  with_reducible apply stored_ite
  with_reducible apply State.noteWrite_stored
  with_reducible assumption
  exact kf.sub rfl
  with_reducible assumption

theorem State.keepSet_stored {s : State} {r : Reg} {w : Word} (hs : State.Stored q b s) (kf : b.free (regParts)) :
    State.Stored q b (State.keepSet s r w) := by
  unfold State.keepSet
  with_reducible apply stored_ite
  with_reducible assumption
  with_reducible apply State.wr_stored
  with_reducible assumption
  exact kf.getReg rfl

theorem execRegisterWrite_stored {who : Who} {r : Reg} {v : Word} {same : Word} {s : State} (hs : State.Stored q b s) (kf : b.free (regParts ++ [Part.now, Part.mem, Part.fresh, Part.seq, Part.time, Part.pulses, Part.lk, Part.evts, Part.ports, Part.axes, Part.sdclk, Part.fbs, Part.loops, Part.arms, Part.kiln, Part.tiles, Part.stk, Part.pc, Part.ic, Part.si, Part.eth, Part.chain, Part.mb, Part.boot])) :
    answers (execRegisterWrite who r v same s) (State.Stored q b) := by
  unfold execRegisterWrite
  with_reducible apply answers_ite
  with_reducible apply answers_next
  with_reducible apply State.flag_stored
  with_reducible assumption
  exact kf.get rfl
  split
  with_reducible apply execIcSwClr_stored
  with_reducible assumption
  exact kf.sub rfl
  with_reducible apply answers_next
  with_reducible apply State.keepSet_stored
  with_reducible apply State.busWrite_stored
  with_reducible assumption
  exact kf.sub rfl
  exact kf.sub rfl

theorem State.busRead_stored {s : State} {who : Who} {r : Reg} (hs : State.Stored q b s) (kf : b.free (regParts ++ [Part.fresh, Part.rdata, Part.caps, Part.evts, Part.kiln, Part.mb])) :
    State.Stored q b (State.busRead s who r) := by
  unfold State.busRead
  extract_lets +onlyGivenNames x; refine (fun (hx3 : ∀ y, State.Stored q b y → State.Stored q b (x y)) => ?_) ?_ <;> [(try clear_value x); subst x]
  with_reducible apply stored_ite
  split
  with_reducible apply State.via_stored
  with_reducible assumption
  intro _ _
  with_reducible apply execTbNowRead_stored
  with_reducible assumption
  exact kf.sub rfl
  with_reducible apply State.via_stored
  with_reducible assumption
  intro _ _
  with_reducible apply execTcapHeadRead_stored
  with_reducible assumption
  exact kf.sub rfl
  with_reducible apply State.via_stored
  with_reducible assumption
  intro _ _
  with_reducible apply execFbPosLoRead_stored
  with_reducible assumption
  exact kf.sub rfl
  with_reducible apply State.via_stored
  with_reducible assumption
  intro _ _
  with_reducible apply execCmpHitNsRead_stored
  with_reducible assumption
  exact kf.sub rfl
  with_reducible apply stored_ite
  with_reducible apply State.via_stored
  with_reducible assumption
  intro _ _
  with_reducible apply execIcClaimRead_stored
  with_reducible assumption
  exact kf.sub rfl
  with_reducible apply hx3
  with_reducible assumption
  with_reducible apply State.via_stored
  with_reducible assumption
  intro _ _
  with_reducible apply execLkIndexLoRead_stored
  with_reducible assumption
  exact kf.sub rfl
  with_reducible apply State.via_stored
  with_reducible assumption
  intro _ _
  with_reducible apply execLkIndexLoRead_stored
  with_reducible assumption
  exact kf.sub rfl
  with_reducible apply State.via_stored
  with_reducible assumption
  intro _ _
  with_reducible apply execLkIndexLoRead_stored
  with_reducible assumption
  exact kf.sub rfl
  with_reducible apply State.eventRead_stored
  with_reducible assumption
  exact kf.sub rfl
  with_reducible apply hx3
  with_reducible assumption
  with_reducible apply State.answer_stored
  with_reducible assumption
  exact kf.sub rfl
  intro _ _
  simp -zeta only
  extract_lets +onlyGivenNames x; clear_value x
  extract_lets +onlyGivenNames x; refine (fun (hx : State.Stored q b x) => ?_) ?_ <;> [(try clear_value x); subst x]
  with_reducible apply State.answer_stored
  with_reducible apply stored_ite
  with_reducible assumption
  with_reducible apply State.wr_stored
  with_reducible assumption
  exact kf.getReg rfl
  exact kf.sub rfl
  split
  with_reducible apply State.useFresh_stored
  with_reducible assumption
  exact kf.sub rfl
  with_reducible apply State.busyUp_stored
  with_reducible assumption
  exact kf.sub rfl
  with_reducible assumption

theorem State.viewRead_stored {s : State} {who : Who} {r : Reg} (hs : State.Stored q b s) (kf : b.free (regParts ++ [Part.fresh, Part.rdata, Part.caps, Part.evts, Part.kiln, Part.mb])) :
    State.Stored q b (State.viewRead s who r) := by
  unfold State.viewRead
  with_reducible apply stored_ite
  with_reducible apply State.answer_stored
  with_reducible assumption
  exact kf.sub rfl
  with_reducible apply State.busRead_stored
  with_reducible assumption
  exact kf.sub rfl

theorem State.readSame_stored {s : State} {r : Reg} {before : Word} (hs : State.Stored q b s) (kf : b.free (regParts ++ [Part.rdata, Part.kiln])) :
    State.Stored q b (State.readSame s r before) := by
  have k_rdata : b.keep .rdata = false := kf.get rfl
  unfold State.readSame
  extract_lets +onlyGivenNames x; clear_value x
  extract_lets +onlyGivenNames x; clear_value x
  extract_lets +onlyGivenNames x; clear_value x
  with_reducible apply State.answer_stored
  with_reducible apply State.wr_stored
  with_reducible assumption
  exact kf.getReg rfl
  exact kf.sub rfl

theorem execReadClear_stored {who : Who} {r : Reg} {before : Option Word} {s : State} (hs : State.Stored q b s) (kf : b.free (regParts ++ [Part.fresh, Part.rdata, Part.caps, Part.evts, Part.kiln, Part.mb])) :
    answers (execReadClear who r before s) (State.Stored q b) := by
  unfold execReadClear
  with_reducible apply answers_next
  split
  with_reducible apply stored_ite
  with_reducible apply State.readSame_stored
  with_reducible assumption
  exact kf.sub rfl
  with_reducible apply State.viewRead_stored
  with_reducible assumption
  exact kf.sub rfl
  with_reducible apply State.viewRead_stored
  with_reducible assumption
  exact kf.sub rfl

theorem State.fabricRead_stored {s : State} {who : Who} {a : Nat} (hs : State.Stored q b s) (kf : b.free (regParts ++ [Part.fresh, Part.rdata, Part.caps, Part.evts, Part.kiln, Part.mb])) :
    ∀ t, (State.fabricRead s who a) = some t → State.Stored q b t := by
  unfold State.fabricRead
  with_reducible refine opt_ite ?_ ?_
  with_reducible exact opt_none
  with_reducible refine opt_ite ?_ ?_
  with_reducible refine opt_some ?_
  with_reducible apply State.answer_stored
  with_reducible assumption
  exact kf.sub rfl
  with_reducible refine opt_ite ?_ ?_
  with_reducible refine opt_some ?_
  with_reducible apply State.answer_stored
  with_reducible assumption
  exact kf.sub rfl
  with_reducible refine opt_ite ?_ ?_
  with_reducible refine opt_some ?_
  with_reducible apply State.useFresh_stored
  with_reducible apply State.answer_stored
  with_reducible assumption
  exact kf.sub rfl
  exact kf.sub rfl
  with_reducible refine opt_guard ?_; split
  with_reducible refine opt_some ?_
  with_reducible apply State.busRead_stored
  with_reducible assumption
  exact kf.sub rfl
  with_reducible exact opt_none

theorem State.fabricWrite_stored {s : State} {who : Who} {a : Nat} {v : Word} (hs : State.Stored q b s) (kf : b.free (regParts ++ [Part.now, Part.mem, Part.fresh, Part.seq, Part.time, Part.pulses, Part.lk, Part.evts, Part.ports, Part.axes, Part.sdclk, Part.fbs, Part.loops, Part.arms, Part.kiln, Part.tiles, Part.stk, Part.pc, Part.ic, Part.si, Part.eth, Part.chain, Part.mb, Part.boot])) :
    ∀ t, (State.fabricWrite s who a v) = some t → State.Stored q b t := by
  unfold State.fabricWrite
  with_reducible refine opt_ite ?_ ?_
  with_reducible exact opt_none
  with_reducible refine opt_ite ?_ ?_
  with_reducible refine opt_some ?_
  with_reducible apply stored_ite
  with_reducible apply State.schedWrite_stored
  with_reducible assumption
  exact kf.sub rfl
  with_reducible assumption
  with_reducible refine opt_ite ?_ ?_
  with_reducible refine opt_guard ?_; split
  with_reducible refine opt_ite ?_ ?_
  with_reducible refine opt_some ?_
  with_reducible apply stored_ite
  with_reducible apply State.mput_stored
  with_reducible assumption
  exact kf.sub rfl
  with_reducible assumption
  with_reducible refine opt_some ?_
  with_reducible apply State.mput_stored
  with_reducible assumption
  exact kf.sub rfl
  with_reducible refine opt_some ?_
  with_reducible apply State.mput_stored
  with_reducible assumption
  exact kf.sub rfl
  with_reducible refine opt_ite ?_ ?_
  with_reducible refine opt_some ?_
  with_reducible assumption
  with_reducible refine opt_guard ?_; split
  with_reducible refine opt_some ?_
  with_reducible apply State.busWrite_stored
  with_reducible assumption
  exact kf.sub rfl
  with_reducible exact opt_none

theorem State.takeSlot_stored {s : State} {k : Fin 16} (hs : State.Stored q b s) (kf : b.free [Part.reg RegGroup.ic, Part.fresh, Part.mb]) :
    State.Stored q b (State.takeSlot s k) := by
  unfold State.takeSlot
  extract_lets +onlyGivenNames x; clear_value x
  extract_lets +onlyGivenNames x; clear_value x
  extract_lets +onlyGivenNames x; clear_value x
  split
  with_reducible apply State.updMail_stored
  with_reducible apply State.setSlot_stored
  with_reducible assumption
  exact kf.sub rfl
  exact kf.sub rfl
  with_reducible apply State.endSlot_stored
  with_reducible assumption
  exact kf.sub rfl
  with_reducible apply State.useFresh_stored
  with_reducible apply State.endSlot_stored
  with_reducible assumption
  exact kf.sub rfl
  exact kf.sub rfl

theorem execMbTake_stored {s : State} (hs : State.Stored q b s) (kf : b.free [Part.reg RegGroup.ic, Part.fresh, Part.ic, Part.mb]) :
    answers (execMbTake s) (State.Stored q b) := by
  have k_ic : b.keep .ic = false := kf.get rfl
  unfold execMbTake
  extract_lets +onlyGivenNames x; clear_value x
  split
  with_reducible apply answers_next
  with_reducible assumption
  with_reducible apply answers_next
  with_reducible apply stored_ite
  with_reducible apply State.takeSlot_stored
  simp -zeta only [stored_mk, k_ic, or_true, true_or]
  with_reducible assumption
  exact kf.sub rfl
  with_reducible assumption

theorem execMbDone_stored {k : Fin 16} {s : State} (hs : State.Stored q b s) (kf : b.free [Part.reg RegGroup.ic, Part.mb]) :
    answers (execMbDone k s) (State.Stored q b) := by
  unfold execMbDone
  extract_lets +onlyGivenNames x; clear_value x
  split
  with_reducible apply answers_next
  with_reducible apply stored_ite
  with_reducible apply State.endSlot_stored
  with_reducible assumption
  exact kf.sub rfl
  with_reducible assumption
  with_reducible apply answers_next
  with_reducible assumption

theorem State.setOut_stored {s : State} {k : Fin 16} {c : Nat} {r : List Byte} (hs : State.Stored q b s) (kf : b.free [Part.mb]) :
    State.Stored q b (State.setOut s k c r) := by
  unfold State.setOut
  extract_lets +onlyGivenNames x; clear_value x
  with_reducible apply State.setSlot_stored
  with_reducible assumption
  exact kf.sub rfl

theorem State.cmdEnd_stored {s : State} {t_ : State} {k : Fin 16} {c : Nat} {r : List Byte} (hs : State.Stored q b s) (ht_ : State.Stored q b t_) (kf : b.free [Part.mb]) :
    State.Stored q b (State.cmdEnd s t_ k c r) := by
  unfold State.cmdEnd
  extract_lets +onlyGivenNames x; refine (fun (hx : State.Stored q b x) => ?_) ?_ <;> [(try clear_value x); subst x]
  extract_lets +onlyGivenNames x; clear_value x
  with_reducible apply State.setSlot_stored
  with_reducible assumption
  exact kf.sub rfl
  with_reducible apply State.setOut_stored
  with_reducible assumption
  exact kf.sub rfl

theorem State.runCmd_stored {s : State} {k : Fin 16} {op : Nat → Bool} {f : State → MbSlot → State × Nat × List Byte} (hs : State.Stored q b s) (hf : ∀ s y0, State.Stored q b s → State.Stored q b (f s y0).1) (kf : b.free [Part.mb]) :
    State.Stored q b (State.runCmd s k op f) := by
  unfold State.runCmd
  simp -zeta only
  with_reducible apply stored_ite
  with_reducible apply State.cmdEnd_stored
  with_reducible assumption
  with_reducible apply hf
  with_reducible assumption
  exact kf.sub rfl
  with_reducible assumption

theorem State.watch_stored {s : State} {fs : List Field} {f : State → State} (hs : State.Stored q b s) (hf : ∀ s, State.Stored q b s → State.Stored q b (f s)) (kf : b.free (regParts)) :
    State.Stored q b (State.watch s fs f).1 := by
  unfold State.watch
  extract_lets +onlyGivenNames x; clear_value x
  extract_lets +onlyGivenNames x; refine (fun (hx : State.Stored q b x) => ?_) ?_ <;> [(try clear_value x); subst x]
  simp -zeta only
  with_reducible apply stored_foldl
  intro _ _ _
  with_reducible apply State.put_stored
  with_reducible assumption
  exact kf.getReg rfl
  with_reducible assumption
  with_reducible apply hf
  with_reducible apply stored_foldl
  intro _ _ _
  with_reducible apply State.put_stored
  with_reducible assumption
  exact kf.getReg rfl
  with_reducible assumption

theorem State.rawWriteAs_stored {s : State} {r : Reg} {v : Word} {code : Nat} (hs : State.Stored q b s) (kf : b.free (regParts ++ [Part.now, Part.mem, Part.fresh, Part.seq, Part.time, Part.pulses, Part.lk, Part.evts, Part.ports, Part.axes, Part.sdclk, Part.fbs, Part.loops, Part.arms, Part.kiln, Part.tiles, Part.stk, Part.pc, Part.ic, Part.si, Part.eth, Part.chain, Part.mb, Part.boot])) :
    State.Stored q b (State.rawWriteAs s r v code).1 := by
  unfold State.rawWriteAs
  split
  simp -zeta only
  with_reducible assumption
  split
  simp -zeta only
  with_reducible refine stored_of_pair (by with_reducible assumption) ?_
  with_reducible apply State.watch_stored
  with_reducible assumption
  intro _ _
  with_reducible apply State.busWrite_stored
  with_reducible assumption
  exact kf.sub rfl
  exact kf.sub rfl
  simp -zeta only
  with_reducible refine stored_of_pair (by with_reducible assumption) ?_
  with_reducible apply State.watch_stored
  with_reducible assumption
  intro _ _
  with_reducible apply State.busWrite_stored
  with_reducible assumption
  exact kf.sub rfl
  exact kf.sub rfl

theorem State.cmdWriteAs_stored {s : State} {r : Reg} {v : Word} {code : Nat} (hs : State.Stored q b s) (kf : b.free (regParts ++ [Part.now, Part.mem, Part.fresh, Part.seq, Part.time, Part.pulses, Part.lk, Part.evts, Part.ports, Part.axes, Part.sdclk, Part.fbs, Part.loops, Part.arms, Part.kiln, Part.tiles, Part.stk, Part.pc, Part.ic, Part.si, Part.eth, Part.chain, Part.mb, Part.boot])) :
    State.Stored q b (State.cmdWriteAs s r v code).1 := by
  unfold State.cmdWriteAs
  split
  simp -zeta only
  with_reducible assumption
  with_reducible apply State.rawWriteAs_stored
  with_reducible assumption
  exact kf.sub rfl

theorem State.rawWrite_stored {s : State} {r : Reg} {v : Word} (hs : State.Stored q b s) (kf : b.free (regParts ++ [Part.now, Part.mem, Part.fresh, Part.seq, Part.time, Part.pulses, Part.lk, Part.evts, Part.ports, Part.axes, Part.sdclk, Part.fbs, Part.loops, Part.arms, Part.kiln, Part.tiles, Part.stk, Part.pc, Part.ic, Part.si, Part.eth, Part.chain, Part.mb, Part.boot])) :
    State.Stored q b (State.rawWrite s r v).1 := by
  unfold State.rawWrite
  with_reducible apply State.rawWriteAs_stored
  with_reducible apply State.useFresh_stored
  with_reducible assumption
  exact kf.sub rfl
  exact kf.sub rfl

theorem State.rawWrites_stored {s : State} {l : List (Reg × Word)} (hs : State.Stored q b s) (kf :
    b.free (regParts ++ [Part.now, Part.mem, Part.fresh, Part.seq, Part.time, Part.pulses, Part.lk, Part.evts, Part.ports, Part.axes, Part.sdclk, Part.fbs, Part.loops, Part.arms, Part.kiln, Part.tiles, Part.stk, Part.pc, Part.ic, Part.si, Part.eth, Part.chain, Part.mb, Part.boot])) :
  State.Stored q b (State.rawWrites s l).1 := by
  induction l generalizing s with
  | nil => exact hs
  | cons x l ih =>
    have h := State.rawWrite_stored (r := x.1) (v := x.2) hs (kf.sub rfl)
    unfold State.rawWrites
    split
    · rename_i e
      rw [e] at h
      exact ih h
    · rename_i e
      rw [e] at h
      exact h

theorem State.cmdWrite_stored {s : State} {r : Reg} {v : Word} (hs : State.Stored q b s) (kf : b.free (regParts ++ [Part.now, Part.mem, Part.fresh, Part.seq, Part.time, Part.pulses, Part.lk, Part.evts, Part.ports, Part.axes, Part.sdclk, Part.fbs, Part.loops, Part.arms, Part.kiln, Part.tiles, Part.stk, Part.pc, Part.ic, Part.si, Part.eth, Part.chain, Part.mb, Part.boot])) :
    State.Stored q b (State.cmdWrite s r v).1 := by
  unfold State.cmdWrite
  with_reducible apply State.cmdWriteAs_stored
  with_reducible apply State.useFresh_stored
  with_reducible assumption
  exact kf.sub rfl
  exact kf.sub rfl

theorem State.cmdWrites_stored {s : State} {l : List (Reg × Word)} (hs : State.Stored q b s) (kf :
    b.free (regParts ++ [Part.now, Part.mem, Part.fresh, Part.seq, Part.time, Part.pulses, Part.lk, Part.evts, Part.ports, Part.axes, Part.sdclk, Part.fbs, Part.loops, Part.arms, Part.kiln, Part.tiles, Part.stk, Part.pc, Part.ic, Part.si, Part.eth, Part.chain, Part.mb, Part.boot])) :
  State.Stored q b (State.cmdWrites s l).1 := by
  induction l generalizing s with
  | nil => exact hs
  | cons x l ih =>
    have h := State.cmdWrite_stored (r := x.1) (v := x.2) hs (kf.sub rfl)
    unfold State.cmdWrites
    split
    · rename_i e
      rw [e] at h
      exact ih h
    · rename_i e
      rw [e] at h
      exact h

theorem State.cmdReads_stored {s : State} {rs : List Reg} (hs : State.Stored q b s) (kf : b.free (regParts ++ [Part.fresh, Part.rdata, Part.caps, Part.evts, Part.kiln, Part.mb])) :
    State.Stored q b (State.cmdReads s rs).1 := by
  unfold State.cmdReads
  simp -zeta only
  with_reducible apply State.answer_stored
  with_reducible apply stored_foldl_fst
  intro _ _ _
  extract_lets +onlyGivenNames x; refine (fun (hx : State.Stored q b x) => ?_) ?_ <;> [(try clear_value x); subst x]
  simp -zeta only
  with_reducible assumption
  with_reducible apply State.busRead_stored
  with_reducible assumption
  exact kf.sub rfl
  simp -zeta only
  with_reducible assumption
  exact kf.sub rfl

theorem plain_stored {q_ : State × Nat} (hq_ : State.Stored q b q_.1) : State.Stored q b (plain q_).1 := by
  unfold plain
  simp -zeta only
  with_reducible assumption

end Sys2Proof.Machine
end

