-- ==== Sys2Proof/Laws/StoredEmber.lean ====
section
/-! SUPPORT. One lemma per operation: the instructions of the tiles and their outside accesses keep what `State.Stored`
says: the queue, canonical memory and flash, OTP bits, time, and every part of the state that the operation does not name. -/

namespace Sys2Proof.Machine

open Sys2Proof

variable {q : List Instr} {b : Kept}

theorem State.dataOp_stored {s : State} {t_ : Fin 32} {size : Nat} {sat : Bool} {dd : Fin 16} {f : Tile → Res 24} (hs : State.Stored q b s) (kf : b.free [Part.reg RegGroup.ic, Part.tiles, Part.ic]) :
    State.Stored q b (State.dataOp s t_ size sat dd f) := by
  unfold State.dataOp
  with_reducible apply State.native_stored
  with_reducible assumption
  exact kf.sub rfl

theorem State.accOp_stored {s : State} {t_ : Fin 32} {sat : Bool} {ad : Fin 4} {f : Tile → Res 56} (hs : State.Stored q b s) (kf : b.free [Part.reg RegGroup.ic, Part.tiles, Part.ic]) :
    State.Stored q b (State.accOp s t_ sat ad f) := by
  unfold State.accOp
  with_reducible apply State.native_stored
  with_reducible assumption
  exact kf.sub rfl

theorem State.mulRegs_stored {s : State} {t_ : Fin 32} {op : MulOp} {sat : Bool} {lanes : List (Fin 4 × Nat × Bool)} {xs : Tile → List Word} {y : Fin 16} (hs : State.Stored q b s) (kf : b.free [Part.reg RegGroup.ic, Part.tiles, Part.ic]) :
    State.Stored q b (State.mulRegs s t_ op sat lanes xs y) := by
  unfold State.mulRegs
  with_reducible apply State.native_stored
  with_reducible assumption
  exact kf.sub rfl

theorem State.mulMem_stored {s : State} {t_ : Fin 32} {op : MulOp} {sat : Bool} {lanes : List (Fin 4 × Nat × Bool)} {y : EShort} {x : EShort} {nx : Nat} (hs : State.Stored q b s) (kf : b.free [Part.reg RegGroup.ic, Part.tiles, Part.ic]) :
    State.Stored q b (State.mulMem s t_ op sat lanes y x nx) := by
  unfold State.mulMem
  with_reducible apply State.issue_stored
  with_reducible assumption
  intro _ _
  with_reducible apply State.access_stored
  with_reducible assumption
  exact kf.sub rfl
  exact kf.sub rfl

theorem State.taskEnd_stored {s : State} {t_ : Fin 32} (hs : State.Stored q b s) (kf : b.free [Part.reg RegGroup.stk, Part.reg RegGroup.ic, Part.tiles, Part.stk, Part.ic]) :
    State.Stored q b (State.taskEnd s t_) := by
  unfold State.taskEnd
  extract_lets +onlyGivenNames x; clear_value x
  extract_lets +onlyGivenNames x; refine (fun (hx : State.Stored q b x) => ?_) ?_ <;> [(try clear_value x); subst x]
  split
  with_reducible apply stored_ite
  with_reducible apply State.startSlot_stored
  with_reducible assumption
  exact kf.sub rfl
  with_reducible assumption
  with_reducible assumption
  with_reducible apply State.endRun_stored
  with_reducible apply State.ticks_stored
  with_reducible assumption
  exact kf.sub rfl
  exact kf.sub rfl

theorem execNop_stored {t_ : Fin 32} {s : State} (hs : State.Stored q b s) (kf : b.free [Part.reg RegGroup.ic, Part.tiles, Part.ic]) :
    answers (execNop t_ s) (State.Stored q b) := by
  unfold execNop
  with_reducible apply answers_next
  with_reducible apply State.native_stored
  with_reducible assumption
  exact kf.sub rfl

theorem execTend_stored {t_ : Fin 32} {s : State} (hs : State.Stored q b s) (kf : b.free [Part.reg RegGroup.stk, Part.reg RegGroup.ic, Part.tiles, Part.stk, Part.ic]) :
    answers (execTend t_ s) (State.Stored q b) := by
  unfold execTend
  with_reducible apply answers_next
  with_reducible apply State.gate_stored
  with_reducible assumption
  intro _ _
  with_reducible apply State.taskEnd_stored
  with_reducible assumption
  exact kf.sub rfl
  exact kf.sub rfl

theorem execReti_stored {t_ : Fin 32} {s : State} (hs : State.Stored q b s) (kf : b.free [Part.reg RegGroup.ic, Part.tiles, Part.ic]) :
    answers (execReti t_ s) (State.Stored q b) := by
  unfold execReti
  with_reducible apply answers_next
  with_reducible apply State.nativeCtl_stored
  with_reducible assumption
  exact kf.sub rfl

theorem execRptImm_stored {t_ : Fin 32} {n : Fin 4096} {s : State} (hs : State.Stored q b s) (kf : b.free [Part.reg RegGroup.ic, Part.tiles, Part.ic]) :
    answers (execRptImm t_ n s) (State.Stored q b) := by
  unfold execRptImm
  with_reducible apply answers_next
  with_reducible apply State.nativeCtl_stored
  with_reducible assumption
  exact kf.sub rfl

theorem execRptReg_stored {t_ : Fin 32} {dn : Fin 16} {s : State} (hs : State.Stored q b s) (kf : b.free [Part.reg RegGroup.ic, Part.tiles, Part.ic]) :
    answers (execRptReg t_ dn s) (State.Stored q b) := by
  unfold execRptReg
  with_reducible apply answers_next
  with_reducible apply State.nativeCtl_stored
  with_reducible assumption
  exact kf.sub rfl

theorem execEi_stored {t_ : Fin 32} {s : State} (hs : State.Stored q b s) (kf : b.free [Part.reg RegGroup.ic, Part.tiles, Part.ic]) :
    answers (execEi t_ s) (State.Stored q b) := by
  unfold execEi
  with_reducible apply answers_next
  with_reducible apply State.nativeCtl_stored
  with_reducible assumption
  exact kf.sub rfl

theorem execDi_stored {t_ : Fin 32} {s : State} (hs : State.Stored q b s) (kf : b.free [Part.reg RegGroup.ic, Part.tiles, Part.ic]) :
    answers (execDi t_ s) (State.Stored q b) := by
  unfold execDi
  with_reducible apply answers_next
  with_reducible apply State.nativeCtl_stored
  with_reducible assumption
  exact kf.sub rfl

theorem execClrst_stored {t_ : Fin 32} {s : State} (hs : State.Stored q b s) (kf : b.free [Part.reg RegGroup.ic, Part.tiles, Part.ic]) :
    answers (execClrst t_ s) (State.Stored q b) := by
  unfold execClrst
  with_reducible apply answers_next
  with_reducible apply State.nativeCtl_stored
  with_reducible assumption
  exact kf.sub rfl

theorem execSetrnd_stored {t_ : Fin 32} {k : Fin 4} {s : State} (hs : State.Stored q b s) (kf : b.free [Part.reg RegGroup.ic, Part.tiles, Part.ic]) :
    answers (execSetrnd t_ k s) (State.Stored q b) := by
  unfold execSetrnd
  with_reducible apply answers_next
  with_reducible apply State.nativeCtl_stored
  with_reducible assumption
  exact kf.sub rfl

theorem execBCc_stored {t_ : Fin 32} {cc : Fin 16} {off : BitVec 16} {s : State} (hs : State.Stored q b s) (kf : b.free [Part.reg RegGroup.ic, Part.tiles, Part.ic]) :
    answers (execBCc t_ cc off s) (State.Stored q b) := by
  unfold execBCc
  with_reducible apply answers_next
  with_reducible apply State.issue_stored
  with_reducible assumption
  intro _ _
  with_reducible apply State.illegalIf_stored
  with_reducible assumption
  intro _ _
  extract_lets +onlyGivenNames x; clear_value x
  with_reducible apply State.setTile_stored
  with_reducible assumption
  exact kf.sub rfl
  exact kf.sub rfl
  exact kf.sub rfl

theorem execCall_stored {t_ : Fin 32} {off : BitVec 16} {s : State} (hs : State.Stored q b s) (kf : b.free [Part.reg RegGroup.ic, Part.tiles, Part.ic]) :
    answers (execCall t_ off s) (State.Stored q b) := by
  unfold execCall
  with_reducible apply answers_next
  with_reducible apply State.nativeCtl_stored
  with_reducible assumption
  exact kf.sub rfl

theorem execJmp_stored {t_ : Fin 32} {pn : Fin 8} {s : State} (hs : State.Stored q b s) (kf : b.free [Part.reg RegGroup.ic, Part.tiles, Part.ic]) :
    answers (execJmp t_ pn s) (State.Stored q b) := by
  unfold execJmp
  with_reducible apply answers_next
  with_reducible apply State.nativeCtl_stored
  with_reducible assumption
  exact kf.sub rfl

theorem execCallr_stored {t_ : Fin 32} {pn : Fin 8} {s : State} (hs : State.Stored q b s) (kf : b.free [Part.reg RegGroup.ic, Part.tiles, Part.ic]) :
    answers (execCallr t_ pn s) (State.Stored q b) := by
  unfold execCallr
  with_reducible apply answers_next
  with_reducible apply State.nativeCtl_stored
  with_reducible assumption
  exact kf.sub rfl

theorem execRet_stored {t_ : Fin 32} {s : State} (hs : State.Stored q b s) (kf : b.free [Part.reg RegGroup.ic, Part.tiles, Part.ic]) :
    answers (execRet t_ s) (State.Stored q b) := by
  unfold execRet
  with_reducible apply answers_next
  with_reducible apply State.nativeCtl_stored
  with_reducible assumption
  exact kf.sub rfl

theorem execDbnz_stored {t_ : Fin 32} {dn : Fin 16} {off : BitVec 16} {s : State} (hs : State.Stored q b s) (kf : b.free [Part.reg RegGroup.ic, Part.tiles, Part.ic]) :
    answers (execDbnz t_ dn off s) (State.Stored q b) := by
  unfold execDbnz
  with_reducible apply answers_next
  with_reducible apply State.nativeCtl_stored
  with_reducible assumption
  exact kf.sub rfl

theorem execMxcall_stored {t_ : Fin 32} {off : BitVec 16} {s : State} (hs : State.Stored q b s) (kf : b.free [Part.reg RegGroup.ic, Part.tiles, Part.ic]) :
    answers (execMxcall t_ off s) (State.Stored q b) := by
  unfold execMxcall
  with_reducible apply answers_next
  with_reducible apply State.nativeCtl_stored
  with_reducible assumption
  exact kf.sub rfl

theorem execLd_stored {t_ : Fin 32} {dn : Fin 16} {m : EMem} {s : State} (hs : State.Stored q b s) (kf : b.free [Part.reg RegGroup.ic, Part.tiles, Part.ic]) :
    answers (execLd t_ dn m s) (State.Stored q b) := by
  unfold execLd
  with_reducible apply answers_next
  with_reducible apply State.issue_stored
  with_reducible assumption
  intro _ _
  with_reducible apply State.access_stored
  with_reducible assumption
  exact kf.sub rfl
  exact kf.sub rfl

theorem execSt_stored {t_ : Fin 32} {dn : Fin 16} {m : EMem} {s : State} (hs : State.Stored q b s) (kf : b.free [Part.reg RegGroup.ic, Part.mem, Part.tiles, Part.ic]) :
    answers (execSt t_ dn m s) (State.Stored q b) := by
  unfold execSt
  with_reducible apply answers_next
  with_reducible apply State.issue_stored
  with_reducible assumption
  intro _ _
  extract_lets +onlyGivenNames x; clear_value x
  with_reducible apply State.storeWords_stored
  with_reducible assumption
  exact kf.sub rfl
  exact kf.sub rfl

theorem execLddA_stored {t_ : Fin 32} {an : Fin 4} {m : EMem} {s : State} (hs : State.Stored q b s) (kf : b.free [Part.reg RegGroup.ic, Part.tiles, Part.ic]) :
    answers (execLddA t_ an m s) (State.Stored q b) := by
  unfold execLddA
  with_reducible apply answers_next
  with_reducible apply State.issue_stored
  with_reducible assumption
  intro _ _
  with_reducible apply State.access_stored
  with_reducible assumption
  exact kf.sub rfl
  exact kf.sub rfl

theorem execStdA_stored {t_ : Fin 32} {an : Fin 4} {m : EMem} {s : State} (hs : State.Stored q b s) (kf : b.free [Part.reg RegGroup.ic, Part.mem, Part.tiles, Part.ic]) :
    answers (execStdA t_ an m s) (State.Stored q b) := by
  unfold execStdA
  with_reducible apply answers_next
  with_reducible apply State.issue_stored
  with_reducible assumption
  intro _ _
  extract_lets +onlyGivenNames x; clear_value x
  with_reducible apply State.storeWords_stored
  with_reducible assumption
  exact kf.sub rfl
  exact kf.sub rfl

theorem execLdq_stored {t_ : Fin 32} {g : Fin 4} {m : EMem} {s : State} (hs : State.Stored q b s) (kf : b.free [Part.reg RegGroup.ic, Part.tiles, Part.ic]) :
    answers (execLdq t_ g m s) (State.Stored q b) := by
  unfold execLdq
  with_reducible apply answers_next
  with_reducible apply State.issue_stored
  with_reducible assumption
  intro _ _
  with_reducible apply State.access_stored
  with_reducible assumption
  exact kf.sub rfl
  exact kf.sub rfl

theorem execStq_stored {t_ : Fin 32} {g : Fin 4} {m : EMem} {s : State} (hs : State.Stored q b s) (kf : b.free [Part.reg RegGroup.ic, Part.mem, Part.tiles, Part.ic]) :
    answers (execStq t_ g m s) (State.Stored q b) := by
  unfold execStq
  with_reducible apply answers_next
  with_reducible apply State.issue_stored
  with_reducible assumption
  intro _ _
  extract_lets +onlyGivenNames x; clear_value x
  with_reducible apply State.storeWords_stored
  with_reducible assumption
  exact kf.sub rfl
  exact kf.sub rfl

theorem execLddP_stored {t_ : Fin 32} {pn : Fin 8} {m : EMem} {s : State} (hs : State.Stored q b s) (kf : b.free [Part.reg RegGroup.ic, Part.tiles, Part.ic]) :
    answers (execLddP t_ pn m s) (State.Stored q b) := by
  unfold execLddP
  with_reducible apply answers_next
  with_reducible apply State.issue_stored
  with_reducible assumption
  intro _ _
  with_reducible apply State.access_stored
  with_reducible assumption
  exact kf.sub rfl
  exact kf.sub rfl

theorem execStdP_stored {t_ : Fin 32} {pn : Fin 8} {m : EMem} {s : State} (hs : State.Stored q b s) (kf : b.free [Part.reg RegGroup.ic, Part.mem, Part.tiles, Part.ic]) :
    answers (execStdP t_ pn m s) (State.Stored q b) := by
  unfold execStdP
  with_reducible apply answers_next
  with_reducible apply State.issue_stored
  with_reducible assumption
  intro _ _
  extract_lets +onlyGivenNames x; clear_value x
  with_reducible apply State.storeWords_stored
  with_reducible assumption
  exact kf.sub rfl
  exact kf.sub rfl

theorem execLddB_stored {t_ : Fin 32} {bn : Fin 8} {m : EMem} {s : State} (hs : State.Stored q b s) (kf : b.free [Part.reg RegGroup.ic, Part.tiles, Part.ic]) :
    answers (execLddB t_ bn m s) (State.Stored q b) := by
  unfold execLddB
  with_reducible apply answers_next
  with_reducible apply State.issue_stored
  with_reducible assumption
  intro _ _
  with_reducible apply State.access_stored
  with_reducible assumption
  exact kf.sub rfl
  exact kf.sub rfl

theorem execStdB_stored {t_ : Fin 32} {bn : Fin 8} {m : EMem} {s : State} (hs : State.Stored q b s) (kf : b.free [Part.reg RegGroup.ic, Part.mem, Part.tiles, Part.ic]) :
    answers (execStdB t_ bn m s) (State.Stored q b) := by
  unfold execStdB
  with_reducible apply answers_next
  with_reducible apply State.issue_stored
  with_reducible assumption
  intro _ _
  extract_lets +onlyGivenNames x; clear_value x
  with_reducible apply State.storeWords_stored
  with_reducible assumption
  exact kf.sub rfl
  exact kf.sub rfl

theorem execLdL_stored {t_ : Fin 32} {ln : Fin 8} {m : EMem} {s : State} (hs : State.Stored q b s) (kf : b.free [Part.reg RegGroup.ic, Part.tiles, Part.ic]) :
    answers (execLdL t_ ln m s) (State.Stored q b) := by
  unfold execLdL
  with_reducible apply answers_next
  with_reducible apply State.issue_stored
  with_reducible assumption
  intro _ _
  with_reducible apply State.access_stored
  with_reducible assumption
  exact kf.sub rfl
  exact kf.sub rfl

theorem execStL_stored {t_ : Fin 32} {ln : Fin 8} {m : EMem} {s : State} (hs : State.Stored q b s) (kf : b.free [Part.reg RegGroup.ic, Part.mem, Part.tiles, Part.ic]) :
    answers (execStL t_ ln m s) (State.Stored q b) := by
  unfold execStL
  with_reducible apply answers_next
  with_reducible apply State.issue_stored
  with_reducible assumption
  intro _ _
  extract_lets +onlyGivenNames x; clear_value x
  with_reducible apply State.storeWords_stored
  with_reducible assumption
  exact kf.sub rfl
  exact kf.sub rfl

theorem execLdM_stored {t_ : Fin 32} {mn : Fin 8} {m : EMem} {s : State} (hs : State.Stored q b s) (kf : b.free [Part.reg RegGroup.ic, Part.tiles, Part.ic]) :
    answers (execLdM t_ mn m s) (State.Stored q b) := by
  unfold execLdM
  with_reducible apply answers_next
  with_reducible apply State.issue_stored
  with_reducible assumption
  intro _ _
  with_reducible apply State.access_stored
  with_reducible assumption
  exact kf.sub rfl
  exact kf.sub rfl

theorem execStM_stored {t_ : Fin 32} {mn : Fin 8} {m : EMem} {s : State} (hs : State.Stored q b s) (kf : b.free [Part.reg RegGroup.ic, Part.mem, Part.tiles, Part.ic]) :
    answers (execStM t_ mn m s) (State.Stored q b) := by
  unfold execStM
  with_reducible apply answers_next
  with_reducible apply State.issue_stored
  with_reducible assumption
  intro _ _
  extract_lets +onlyGivenNames x; clear_value x
  with_reducible apply State.storeWords_stored
  with_reducible assumption
  exact kf.sub rfl
  exact kf.sub rfl

theorem execLea_stored {t_ : Fin 32} {pn : Fin 8} {m : EMem} {s : State} (hs : State.Stored q b s) (kf : b.free [Part.reg RegGroup.ic, Part.tiles, Part.ic]) :
    answers (execLea t_ pn m s) (State.Stored q b) := by
  unfold execLea
  with_reducible apply answers_next
  with_reducible apply State.native_stored
  with_reducible assumption
  exact kf.sub rfl

theorem execLd2_stored {t_ : Fin 32} {k : Fin 8} {x : EShort} {y : EShort} {s : State} (hs : State.Stored q b s) (kf : b.free [Part.reg RegGroup.ic, Part.tiles, Part.ic]) :
    answers (execLd2 t_ k x y s) (State.Stored q b) := by
  unfold execLd2
  with_reducible apply answers_next
  with_reducible apply State.issue_stored
  with_reducible assumption
  intro _ _
  with_reducible apply State.access_stored
  with_reducible assumption
  exact kf.sub rfl
  exact kf.sub rfl

theorem execLdiD_stored {t_ : Fin 32} {dn : Fin 16} {imm : EImm} {s : State} (hs : State.Stored q b s) (kf : b.free [Part.reg RegGroup.ic, Part.tiles, Part.ic]) :
    answers (execLdiD t_ dn imm s) (State.Stored q b) := by
  unfold execLdiD
  with_reducible apply answers_next
  with_reducible apply State.native_stored
  with_reducible assumption
  exact kf.sub rfl

theorem execLdiA_stored {t_ : Fin 32} {an : Fin 4} {imm : BitVec 24} {s : State} (hs : State.Stored q b s) (kf : b.free [Part.reg RegGroup.ic, Part.tiles, Part.ic]) :
    answers (execLdiA t_ an imm s) (State.Stored q b) := by
  unfold execLdiA
  with_reducible apply answers_next
  with_reducible apply State.native_stored
  with_reducible assumption
  exact kf.sub rfl

theorem execLdiP_stored {t_ : Fin 32} {pn : Fin 8} {imm : BitVec 40} {s : State} (hs : State.Stored q b s) (kf : b.free [Part.reg RegGroup.ic, Part.tiles, Part.ic]) :
    answers (execLdiP t_ pn imm s) (State.Stored q b) := by
  unfold execLdiP
  with_reducible apply answers_next
  with_reducible apply State.native_stored
  with_reducible assumption
  exact kf.sub rfl

theorem execLdiB_stored {t_ : Fin 32} {bn : Fin 8} {imm : BitVec 40} {s : State} (hs : State.Stored q b s) (kf : b.free [Part.reg RegGroup.ic, Part.tiles, Part.ic]) :
    answers (execLdiB t_ bn imm s) (State.Stored q b) := by
  unfold execLdiB
  with_reducible apply answers_next
  with_reducible apply State.native_stored
  with_reducible assumption
  exact kf.sub rfl

theorem execLdiL_stored {t_ : Fin 32} {ln : Fin 8} {imm : BitVec 18} {s : State} (hs : State.Stored q b s) (kf : b.free [Part.reg RegGroup.ic, Part.tiles, Part.ic]) :
    answers (execLdiL t_ ln imm s) (State.Stored q b) := by
  unfold execLdiL
  with_reducible apply answers_next
  with_reducible apply State.native_stored
  with_reducible assumption
  exact kf.sub rfl

theorem execLdiM_stored {t_ : Fin 32} {mn : Fin 8} {imm : BitVec 24} {s : State} (hs : State.Stored q b s) (kf : b.free [Part.reg RegGroup.ic, Part.tiles, Part.ic]) :
    answers (execLdiM t_ mn imm s) (State.Stored q b) := by
  unfold execLdiM
  with_reducible apply answers_next
  with_reducible apply State.native_stored
  with_reducible assumption
  exact kf.sub rfl

theorem execMov_stored {t_ : Fin 32} {rd : EReg} {rs : EReg} {s : State} (hs : State.Stored q b s) (kf : b.free [Part.reg RegGroup.ic, Part.tiles, Part.ic]) :
    answers (execMov t_ rd rs s) (State.Stored q b) := by
  unfold execMov
  with_reducible apply answers_next
  with_reducible apply State.issue_stored
  with_reducible assumption
  intro _ _
  with_reducible apply State.illegalIf_stored
  with_reducible assumption
  intro _ _
  with_reducible apply State.queue_stored
  with_reducible assumption
  exact kf.sub rfl
  exact kf.sub rfl
  exact kf.sub rfl

theorem execAdd_stored {t_ : Fin 32} {sat : Bool} {dd : Fin 16} {ds : Fin 16} {dt : Fin 16} {s : State} (hs : State.Stored q b s) (kf : b.free [Part.reg RegGroup.ic, Part.tiles, Part.ic]) :
    answers (execAdd t_ sat dd ds dt s) (State.Stored q b) := by
  unfold execAdd
  with_reducible apply answers_next
  with_reducible apply State.dataOp_stored
  with_reducible assumption
  exact kf.sub rfl

theorem execSub_stored {t_ : Fin 32} {sat : Bool} {dd : Fin 16} {ds : Fin 16} {dt : Fin 16} {s : State} (hs : State.Stored q b s) (kf : b.free [Part.reg RegGroup.ic, Part.tiles, Part.ic]) :
    answers (execSub t_ sat dd ds dt s) (State.Stored q b) := by
  unfold execSub
  with_reducible apply answers_next
  with_reducible apply State.dataOp_stored
  with_reducible assumption
  exact kf.sub rfl

theorem execCmp_stored {t_ : Fin 32} {sat : Bool} {ds : Fin 16} {dt : Fin 16} {s : State} (hs : State.Stored q b s) (kf : b.free [Part.reg RegGroup.ic, Part.tiles, Part.ic]) :
    answers (execCmp t_ sat ds dt s) (State.Stored q b) := by
  unfold execCmp
  with_reducible apply answers_next
  with_reducible apply State.dataOp_stored
  with_reducible assumption
  exact kf.sub rfl

theorem execNeg_stored {t_ : Fin 32} {sat : Bool} {dd : Fin 16} {ds : Fin 16} {s : State} (hs : State.Stored q b s) (kf : b.free [Part.reg RegGroup.ic, Part.tiles, Part.ic]) :
    answers (execNeg t_ sat dd ds s) (State.Stored q b) := by
  unfold execNeg
  with_reducible apply answers_next
  with_reducible apply State.dataOp_stored
  with_reducible assumption
  exact kf.sub rfl

theorem execAbs_stored {t_ : Fin 32} {sat : Bool} {dd : Fin 16} {ds : Fin 16} {s : State} (hs : State.Stored q b s) (kf : b.free [Part.reg RegGroup.ic, Part.tiles, Part.ic]) :
    answers (execAbs t_ sat dd ds s) (State.Stored q b) := by
  unfold execAbs
  with_reducible apply answers_next
  with_reducible apply State.dataOp_stored
  with_reducible assumption
  exact kf.sub rfl

theorem execMin_stored {t_ : Fin 32} {dd : Fin 16} {ds : Fin 16} {dt : Fin 16} {s : State} (hs : State.Stored q b s) (kf : b.free [Part.reg RegGroup.ic, Part.tiles, Part.ic]) :
    answers (execMin t_ dd ds dt s) (State.Stored q b) := by
  unfold execMin
  with_reducible apply answers_next
  with_reducible apply State.dataOp_stored
  with_reducible assumption
  exact kf.sub rfl

theorem execMax_stored {t_ : Fin 32} {dd : Fin 16} {ds : Fin 16} {dt : Fin 16} {s : State} (hs : State.Stored q b s) (kf : b.free [Part.reg RegGroup.ic, Part.tiles, Part.ic]) :
    answers (execMax t_ dd ds dt s) (State.Stored q b) := by
  unfold execMax
  with_reducible apply answers_next
  with_reducible apply State.dataOp_stored
  with_reducible assumption
  exact kf.sub rfl

theorem execAnd_stored {t_ : Fin 32} {dd : Fin 16} {ds : Fin 16} {dt : Fin 16} {s : State} (hs : State.Stored q b s) (kf : b.free [Part.reg RegGroup.ic, Part.tiles, Part.ic]) :
    answers (execAnd t_ dd ds dt s) (State.Stored q b) := by
  unfold execAnd
  with_reducible apply answers_next
  with_reducible apply State.dataOp_stored
  with_reducible assumption
  exact kf.sub rfl

theorem execOr_stored {t_ : Fin 32} {dd : Fin 16} {ds : Fin 16} {dt : Fin 16} {s : State} (hs : State.Stored q b s) (kf : b.free [Part.reg RegGroup.ic, Part.tiles, Part.ic]) :
    answers (execOr t_ dd ds dt s) (State.Stored q b) := by
  unfold execOr
  with_reducible apply answers_next
  with_reducible apply State.dataOp_stored
  with_reducible assumption
  exact kf.sub rfl

theorem execXor_stored {t_ : Fin 32} {dd : Fin 16} {ds : Fin 16} {dt : Fin 16} {s : State} (hs : State.Stored q b s) (kf : b.free [Part.reg RegGroup.ic, Part.tiles, Part.ic]) :
    answers (execXor t_ dd ds dt s) (State.Stored q b) := by
  unfold execXor
  with_reducible apply answers_next
  with_reducible apply State.dataOp_stored
  with_reducible assumption
  exact kf.sub rfl

theorem execNot_stored {t_ : Fin 32} {dd : Fin 16} {ds : Fin 16} {s : State} (hs : State.Stored q b s) (kf : b.free [Part.reg RegGroup.ic, Part.tiles, Part.ic]) :
    answers (execNot t_ dd ds s) (State.Stored q b) := by
  unfold execNot
  with_reducible apply answers_next
  with_reducible apply State.dataOp_stored
  with_reducible assumption
  exact kf.sub rfl

theorem execAsl_stored {t_ : Fin 32} {sat : Bool} {dd : Fin 16} {ds : Fin 16} {dt : Fin 16} {s : State} (hs : State.Stored q b s) (kf : b.free [Part.reg RegGroup.ic, Part.tiles, Part.ic]) :
    answers (execAsl t_ sat dd ds dt s) (State.Stored q b) := by
  unfold execAsl
  with_reducible apply answers_next
  with_reducible apply State.dataOp_stored
  with_reducible assumption
  exact kf.sub rfl

theorem execAsr_stored {t_ : Fin 32} {dd : Fin 16} {ds : Fin 16} {dt : Fin 16} {s : State} (hs : State.Stored q b s) (kf : b.free [Part.reg RegGroup.ic, Part.tiles, Part.ic]) :
    answers (execAsr t_ dd ds dt s) (State.Stored q b) := by
  unfold execAsr
  with_reducible apply answers_next
  with_reducible apply State.dataOp_stored
  with_reducible assumption
  exact kf.sub rfl

theorem execLsr_stored {t_ : Fin 32} {dd : Fin 16} {ds : Fin 16} {dt : Fin 16} {s : State} (hs : State.Stored q b s) (kf : b.free [Part.reg RegGroup.ic, Part.tiles, Part.ic]) :
    answers (execLsr t_ dd ds dt s) (State.Stored q b) := by
  unfold execLsr
  with_reducible apply answers_next
  with_reducible apply State.dataOp_stored
  with_reducible assumption
  exact kf.sub rfl

theorem execAddc_stored {t_ : Fin 32} {sat : Bool} {dd : Fin 16} {ds : Fin 16} {dt : Fin 16} {s : State} (hs : State.Stored q b s) (kf : b.free [Part.reg RegGroup.ic, Part.tiles, Part.ic]) :
    answers (execAddc t_ sat dd ds dt s) (State.Stored q b) := by
  unfold execAddc
  with_reducible apply answers_next
  with_reducible apply State.dataOp_stored
  with_reducible assumption
  exact kf.sub rfl

theorem execSubc_stored {t_ : Fin 32} {sat : Bool} {dd : Fin 16} {ds : Fin 16} {dt : Fin 16} {s : State} (hs : State.Stored q b s) (kf : b.free [Part.reg RegGroup.ic, Part.tiles, Part.ic]) :
    answers (execSubc t_ sat dd ds dt s) (State.Stored q b) := by
  unfold execSubc
  with_reducible apply answers_next
  with_reducible apply State.dataOp_stored
  with_reducible assumption
  exact kf.sub rfl

theorem execAddi_stored {t_ : Fin 32} {sat : Bool} {dd : Fin 16} {imm : EImm} {s : State} (hs : State.Stored q b s) (kf : b.free [Part.reg RegGroup.ic, Part.tiles, Part.ic]) :
    answers (execAddi t_ sat dd imm s) (State.Stored q b) := by
  unfold execAddi
  with_reducible apply answers_next
  with_reducible apply State.dataOp_stored
  with_reducible assumption
  exact kf.sub rfl

theorem execCmpi_stored {t_ : Fin 32} {sat : Bool} {dd : Fin 16} {imm : EImm} {s : State} (hs : State.Stored q b s) (kf : b.free [Part.reg RegGroup.ic, Part.tiles, Part.ic]) :
    answers (execCmpi t_ sat dd imm s) (State.Stored q b) := by
  unfold execCmpi
  with_reducible apply answers_next
  with_reducible apply State.dataOp_stored
  with_reducible assumption
  exact kf.sub rfl

theorem execAndi_stored {t_ : Fin 32} {dd : Fin 16} {imm : EImm} {s : State} (hs : State.Stored q b s) (kf : b.free [Part.reg RegGroup.ic, Part.tiles, Part.ic]) :
    answers (execAndi t_ dd imm s) (State.Stored q b) := by
  unfold execAndi
  with_reducible apply answers_next
  with_reducible apply State.dataOp_stored
  with_reducible assumption
  exact kf.sub rfl

theorem execOri_stored {t_ : Fin 32} {dd : Fin 16} {imm : EImm} {s : State} (hs : State.Stored q b s) (kf : b.free [Part.reg RegGroup.ic, Part.tiles, Part.ic]) :
    answers (execOri t_ dd imm s) (State.Stored q b) := by
  unfold execOri
  with_reducible apply answers_next
  with_reducible apply State.dataOp_stored
  with_reducible assumption
  exact kf.sub rfl

theorem execXori_stored {t_ : Fin 32} {dd : Fin 16} {imm : EImm} {s : State} (hs : State.Stored q b s) (kf : b.free [Part.reg RegGroup.ic, Part.tiles, Part.ic]) :
    answers (execXori t_ dd imm s) (State.Stored q b) := by
  unfold execXori
  with_reducible apply answers_next
  with_reducible apply State.dataOp_stored
  with_reducible assumption
  exact kf.sub rfl

theorem execAsli_stored {t_ : Fin 32} {sat : Bool} {dd : Fin 16} {x : Bool} {k : Fin 32} {s : State} (hs : State.Stored q b s) (kf : b.free [Part.reg RegGroup.ic, Part.tiles, Part.ic]) :
    answers (execAsli t_ sat dd x k s) (State.Stored q b) := by
  unfold execAsli
  with_reducible apply answers_next
  with_reducible apply State.dataOp_stored
  with_reducible assumption
  exact kf.sub rfl

theorem execAsri_stored {t_ : Fin 32} {dd : Fin 16} {x : Bool} {k : Fin 32} {s : State} (hs : State.Stored q b s) (kf : b.free [Part.reg RegGroup.ic, Part.tiles, Part.ic]) :
    answers (execAsri t_ dd x k s) (State.Stored q b) := by
  unfold execAsri
  with_reducible apply answers_next
  with_reducible apply State.dataOp_stored
  with_reducible assumption
  exact kf.sub rfl

theorem execLsri_stored {t_ : Fin 32} {dd : Fin 16} {x : Bool} {k : Fin 32} {s : State} (hs : State.Stored q b s) (kf : b.free [Part.reg RegGroup.ic, Part.tiles, Part.ic]) :
    answers (execLsri t_ dd x k s) (State.Stored q b) := by
  unfold execLsri
  with_reducible apply answers_next
  with_reducible apply State.dataOp_stored
  with_reducible assumption
  exact kf.sub rfl

theorem execAdda_stored {t_ : Fin 32} {sat : Bool} {ad : Fin 4} {as_ : Fin 4} {s : State} (hs : State.Stored q b s) (kf : b.free [Part.reg RegGroup.ic, Part.tiles, Part.ic]) :
    answers (execAdda t_ sat ad as_ s) (State.Stored q b) := by
  unfold execAdda
  with_reducible apply answers_next
  with_reducible apply State.accOp_stored
  with_reducible assumption
  exact kf.sub rfl

theorem execSuba_stored {t_ : Fin 32} {sat : Bool} {ad : Fin 4} {as_ : Fin 4} {s : State} (hs : State.Stored q b s) (kf : b.free [Part.reg RegGroup.ic, Part.tiles, Part.ic]) :
    answers (execSuba t_ sat ad as_ s) (State.Stored q b) := by
  unfold execSuba
  with_reducible apply answers_next
  with_reducible apply State.accOp_stored
  with_reducible assumption
  exact kf.sub rfl

theorem execNega_stored {t_ : Fin 32} {sat : Bool} {ad : Fin 4} {as_ : Fin 4} {s : State} (hs : State.Stored q b s) (kf : b.free [Part.reg RegGroup.ic, Part.tiles, Part.ic]) :
    answers (execNega t_ sat ad as_ s) (State.Stored q b) := by
  unfold execNega
  with_reducible apply answers_next
  with_reducible apply State.accOp_stored
  with_reducible assumption
  exact kf.sub rfl

theorem execAbsa_stored {t_ : Fin 32} {sat : Bool} {ad : Fin 4} {as_ : Fin 4} {s : State} (hs : State.Stored q b s) (kf : b.free [Part.reg RegGroup.ic, Part.tiles, Part.ic]) :
    answers (execAbsa t_ sat ad as_ s) (State.Stored q b) := by
  unfold execAbsa
  with_reducible apply answers_next
  with_reducible apply State.accOp_stored
  with_reducible assumption
  exact kf.sub rfl

theorem execClr_stored {t_ : Fin 32} {mask : BitVec 4} {s : State} (hs : State.Stored q b s) (kf : b.free [Part.reg RegGroup.ic, Part.tiles, Part.ic]) :
    answers (execClr t_ mask s) (State.Stored q b) := by
  unfold execClr
  with_reducible apply answers_next
  with_reducible apply State.native_stored
  with_reducible assumption
  exact kf.sub rfl

theorem execMva_stored {t_ : Fin 32} {ad : Fin 4} {dn : Fin 16} {s : State} (hs : State.Stored q b s) (kf : b.free [Part.reg RegGroup.ic, Part.tiles, Part.ic]) :
    answers (execMva t_ ad dn s) (State.Stored q b) := by
  unfold execMva
  with_reducible apply answers_next
  with_reducible apply State.native_stored
  with_reducible assumption
  exact kf.sub rfl

theorem execMvr_stored {t_ : Fin 32} {sat : Bool} {dn : Fin 16} {as_ : Fin 4} {s : State} (hs : State.Stored q b s) (kf : b.free [Part.reg RegGroup.ic, Part.tiles, Part.ic]) :
    answers (execMvr t_ sat dn as_ s) (State.Stored q b) := by
  unfold execMvr
  with_reducible apply answers_next
  with_reducible apply State.dataOp_stored
  with_reducible assumption
  exact kf.sub rfl

theorem execAsla_stored {t_ : Fin 32} {sat : Bool} {ad : Fin 4} {as_ : Fin 4} {k : Fin 64} {s : State} (hs : State.Stored q b s) (kf : b.free [Part.reg RegGroup.ic, Part.tiles, Part.ic]) :
    answers (execAsla t_ sat ad as_ k s) (State.Stored q b) := by
  unfold execAsla
  with_reducible apply answers_next
  with_reducible apply State.issue_stored
  with_reducible assumption
  intro _ _
  with_reducible apply State.illegalIf_stored
  with_reducible assumption
  intro _ _
  with_reducible apply State.queue_stored
  with_reducible assumption
  exact kf.sub rfl
  exact kf.sub rfl
  exact kf.sub rfl

theorem execAsra_stored {t_ : Fin 32} {ad : Fin 4} {as_ : Fin 4} {k : Fin 64} {s : State} (hs : State.Stored q b s) (kf : b.free [Part.reg RegGroup.ic, Part.tiles, Part.ic]) :
    answers (execAsra t_ ad as_ k s) (State.Stored q b) := by
  unfold execAsra
  with_reducible apply answers_next
  with_reducible apply State.issue_stored
  with_reducible assumption
  intro _ _
  with_reducible apply State.illegalIf_stored
  with_reducible assumption
  intro _ _
  with_reducible apply State.queue_stored
  with_reducible assumption
  exact kf.sub rfl
  exact kf.sub rfl
  exact kf.sub rfl

theorem execCmpa_stored {t_ : Fin 32} {sat : Bool} {ad : Fin 4} {as_ : Fin 4} {s : State} (hs : State.Stored q b s) (kf : b.free [Part.reg RegGroup.ic, Part.tiles, Part.ic]) :
    answers (execCmpa t_ sat ad as_ s) (State.Stored q b) := by
  unfold execCmpa
  with_reducible apply answers_next
  with_reducible apply State.accOp_stored
  with_reducible assumption
  exact kf.sub rfl

theorem execMova_stored {t_ : Fin 32} {ad : Fin 4} {as_ : Fin 4} {s : State} (hs : State.Stored q b s) (kf : b.free [Part.reg RegGroup.ic, Part.tiles, Part.ic]) :
    answers (execMova t_ ad as_ s) (State.Stored q b) := by
  unfold execMova
  with_reducible apply answers_next
  with_reducible apply State.native_stored
  with_reducible assumption
  exact kf.sub rfl

theorem execRnda_stored {t_ : Fin 32} {sat : Bool} {ad : Fin 4} {as_ : Fin 4} {s : State} (hs : State.Stored q b s) (kf : b.free [Part.reg RegGroup.ic, Part.tiles, Part.ic]) :
    answers (execRnda t_ sat ad as_ s) (State.Stored q b) := by
  unfold execRnda
  with_reducible apply answers_next
  with_reducible apply State.accOp_stored
  with_reducible assumption
  exact kf.sub rfl

theorem execMpy_stored {t_ : Fin 32} {sat : Bool} {ad : Fin 4} {ds : Fin 16} {dt : Fin 16} {s : State} (hs : State.Stored q b s) (kf : b.free [Part.reg RegGroup.ic, Part.tiles, Part.ic]) :
    answers (execMpy t_ sat ad ds dt s) (State.Stored q b) := by
  unfold execMpy
  with_reducible apply answers_next
  with_reducible apply State.mulRegs_stored
  with_reducible assumption
  exact kf.sub rfl

theorem execMac_stored {t_ : Fin 32} {sat : Bool} {ad : Fin 4} {ds : Fin 16} {dt : Fin 16} {s : State} (hs : State.Stored q b s) (kf : b.free [Part.reg RegGroup.ic, Part.tiles, Part.ic]) :
    answers (execMac t_ sat ad ds dt s) (State.Stored q b) := by
  unfold execMac
  with_reducible apply answers_next
  with_reducible apply State.mulRegs_stored
  with_reducible assumption
  exact kf.sub rfl

theorem execMsu_stored {t_ : Fin 32} {sat : Bool} {ad : Fin 4} {ds : Fin 16} {dt : Fin 16} {s : State} (hs : State.Stored q b s) (kf : b.free [Part.reg RegGroup.ic, Part.tiles, Part.ic]) :
    answers (execMsu t_ sat ad ds dt s) (State.Stored q b) := by
  unfold execMsu
  with_reducible apply answers_next
  with_reducible apply State.mulRegs_stored
  with_reducible assumption
  exact kf.sub rfl

theorem execMpyMem_stored {t_ : Fin 32} {sat : Bool} {ad : Fin 4} {y : EShort} {x : EShort} {s : State} (hs : State.Stored q b s) (kf : b.free [Part.reg RegGroup.ic, Part.tiles, Part.ic]) :
    answers (execMpyMem t_ sat ad y x s) (State.Stored q b) := by
  unfold execMpyMem
  with_reducible apply answers_next
  with_reducible apply State.mulMem_stored
  with_reducible assumption
  exact kf.sub rfl

theorem execMacMem_stored {t_ : Fin 32} {sat : Bool} {ad : Fin 4} {y : EShort} {x : EShort} {s : State} (hs : State.Stored q b s) (kf : b.free [Part.reg RegGroup.ic, Part.tiles, Part.ic]) :
    answers (execMacMem t_ sat ad y x s) (State.Stored q b) := by
  unfold execMacMem
  with_reducible apply answers_next
  with_reducible apply State.mulMem_stored
  with_reducible assumption
  exact kf.sub rfl

theorem execMsuMem_stored {t_ : Fin 32} {sat : Bool} {ad : Fin 4} {y : EShort} {x : EShort} {s : State} (hs : State.Stored q b s) (kf : b.free [Part.reg RegGroup.ic, Part.tiles, Part.ic]) :
    answers (execMsuMem t_ sat ad y x s) (State.Stored q b) := by
  unfold execMsuMem
  with_reducible apply answers_next
  with_reducible apply State.mulMem_stored
  with_reducible assumption
  exact kf.sub rfl

theorem execMpyr_stored {t_ : Fin 32} {sat : Bool} {dd : Fin 16} {ds : Fin 16} {dt : Fin 16} {s : State} (hs : State.Stored q b s) (kf : b.free [Part.reg RegGroup.ic, Part.tiles, Part.ic]) :
    answers (execMpyr t_ sat dd ds dt s) (State.Stored q b) := by
  unfold execMpyr
  with_reducible apply answers_next
  with_reducible apply State.native_stored
  with_reducible assumption
  exact kf.sub rfl

theorem execDmacMem_stored {t_ : Fin 32} {sat : Bool} {p : Bool} {sw : Bool} {neg1 : Bool} {neg0 : Bool} {y : EShort} {x : EShort} {s : State} (hs : State.Stored q b s) (kf : b.free [Part.reg RegGroup.ic, Part.tiles, Part.ic]) :
    answers (execDmacMem t_ sat p sw neg1 neg0 y x s) (State.Stored q b) := by
  unfold execDmacMem
  with_reducible apply answers_next
  with_reducible apply State.mulMem_stored
  with_reducible assumption
  exact kf.sub rfl

theorem execDmacReg_stored {t_ : Fin 32} {sat : Bool} {p : Bool} {sw : Bool} {neg1 : Bool} {neg0 : Bool} {ds : Fin 16} {dt : Fin 16} {s : State} (hs : State.Stored q b s) (kf : b.free [Part.reg RegGroup.ic, Part.tiles, Part.ic]) :
    answers (execDmacReg t_ sat p sw neg1 neg0 ds dt s) (State.Stored q b) := by
  unfold execDmacReg
  with_reducible apply answers_next
  with_reducible apply State.issue_stored
  with_reducible assumption
  intro _ _
  with_reducible apply State.illegalIf_stored
  with_reducible assumption
  intro _ _
  extract_lets +onlyGivenNames x; clear_value x
  with_reducible apply State.queue_stored
  with_reducible assumption
  exact kf.sub rfl
  exact kf.sub rfl
  exact kf.sub rfl

theorem execDmacMulMem_stored {t_ : Fin 32} {sat : Bool} {p : Bool} {sw : Bool} {neg1 : Bool} {neg0 : Bool} {y : EShort} {x : EShort} {s : State} (hs : State.Stored q b s) (kf : b.free [Part.reg RegGroup.ic, Part.tiles, Part.ic]) :
    answers (execDmacMulMem t_ sat p sw neg1 neg0 y x s) (State.Stored q b) := by
  unfold execDmacMulMem
  with_reducible apply answers_next
  with_reducible apply State.mulMem_stored
  with_reducible assumption
  exact kf.sub rfl

theorem execDmacMulReg_stored {t_ : Fin 32} {sat : Bool} {p : Bool} {sw : Bool} {neg1 : Bool} {neg0 : Bool} {ds : Fin 16} {dt : Fin 16} {s : State} (hs : State.Stored q b s) (kf : b.free [Part.reg RegGroup.ic, Part.tiles, Part.ic]) :
    answers (execDmacMulReg t_ sat p sw neg1 neg0 ds dt s) (State.Stored q b) := by
  unfold execDmacMulReg
  with_reducible apply answers_next
  with_reducible apply State.issue_stored
  with_reducible assumption
  intro _ _
  with_reducible apply State.illegalIf_stored
  with_reducible assumption
  intro _ _
  extract_lets +onlyGivenNames x; clear_value x
  with_reducible apply State.queue_stored
  with_reducible assumption
  exact kf.sub rfl
  exact kf.sub rfl
  exact kf.sub rfl

theorem execQmacMem_stored {t_ : Fin 32} {sat : Bool} {neg : BitVec 4} {y : EShort} {x : EShort} {s : State} (hs : State.Stored q b s) (kf : b.free [Part.reg RegGroup.ic, Part.tiles, Part.ic]) :
    answers (execQmacMem t_ sat neg y x s) (State.Stored q b) := by
  unfold execQmacMem
  with_reducible apply answers_next
  with_reducible apply State.mulMem_stored
  with_reducible assumption
  exact kf.sub rfl

theorem execQmacReg_stored {t_ : Fin 32} {sat : Bool} {neg : BitVec 4} {g : Fin 4} {dt : Fin 16} {s : State} (hs : State.Stored q b s) (kf : b.free [Part.reg RegGroup.ic, Part.tiles, Part.ic]) :
    answers (execQmacReg t_ sat neg g dt s) (State.Stored q b) := by
  unfold execQmacReg
  with_reducible apply answers_next
  with_reducible apply State.mulRegs_stored
  with_reducible assumption
  exact kf.sub rfl

theorem execQmacMulMem_stored {t_ : Fin 32} {sat : Bool} {neg : BitVec 4} {y : EShort} {x : EShort} {s : State} (hs : State.Stored q b s) (kf : b.free [Part.reg RegGroup.ic, Part.tiles, Part.ic]) :
    answers (execQmacMulMem t_ sat neg y x s) (State.Stored q b) := by
  unfold execQmacMulMem
  with_reducible apply answers_next
  with_reducible apply State.mulMem_stored
  with_reducible assumption
  exact kf.sub rfl

theorem execQmacMulReg_stored {t_ : Fin 32} {sat : Bool} {neg : BitVec 4} {g : Fin 4} {dt : Fin 16} {s : State} (hs : State.Stored q b s) (kf : b.free [Part.reg RegGroup.ic, Part.tiles, Part.ic]) :
    answers (execQmacMulReg t_ sat neg g dt s) (State.Stored q b) := by
  unfold execQmacMulReg
  with_reducible apply answers_next
  with_reducible apply State.mulRegs_stored
  with_reducible assumption
  exact kf.sub rfl

theorem execAcs_stored {t_ : Fin 32} {sat : Bool} {dd : Fin 16} {ds : Fin 16} {dt : Fin 16} {du : Fin 16} {s : State} (hs : State.Stored q b s) (kf : b.free [Part.reg RegGroup.ic, Part.tiles, Part.ic]) :
    answers (execAcs t_ sat dd ds dt du s) (State.Stored q b) := by
  unfold execAcs
  with_reducible apply answers_next
  with_reducible apply State.native_stored
  with_reducible assumption
  exact kf.sub rfl

theorem execAcsn_stored {t_ : Fin 32} {sat : Bool} {dd : Fin 16} {ds : Fin 16} {dt : Fin 16} {du : Fin 16} {s : State} (hs : State.Stored q b s) (kf : b.free [Part.reg RegGroup.ic, Part.tiles, Part.ic]) :
    answers (execAcsn t_ sat dd ds dt du s) (State.Stored q b) := by
  unfold execAcsn
  with_reducible apply answers_next
  with_reducible apply State.native_stored
  with_reducible assumption
  exact kf.sub rfl

theorem execAcs2_stored {t_ : Fin 32} {sat : Bool} {dd : Fin 16} {ds : Fin 16} {dt : Fin 16} {du : Fin 16} {s : State} (hs : State.Stored q b s) (kf : b.free [Part.reg RegGroup.ic, Part.tiles, Part.ic]) :
    answers (execAcs2 t_ sat dd ds dt du s) (State.Stored q b) := by
  unfold execAcs2
  with_reducible apply answers_next
  with_reducible apply State.issue_stored
  with_reducible assumption
  intro _ _
  with_reducible apply State.illegalIf_stored
  with_reducible assumption
  intro _ _
  with_reducible apply State.queue_stored
  with_reducible assumption
  exact kf.sub rfl
  exact kf.sub rfl
  exact kf.sub rfl

theorem execAcs2n_stored {t_ : Fin 32} {sat : Bool} {dd : Fin 16} {ds : Fin 16} {dt : Fin 16} {du : Fin 16} {s : State} (hs : State.Stored q b s) (kf : b.free [Part.reg RegGroup.ic, Part.tiles, Part.ic]) :
    answers (execAcs2n t_ sat dd ds dt du s) (State.Stored q b) := by
  unfold execAcs2n
  with_reducible apply answers_next
  with_reducible apply State.issue_stored
  with_reducible assumption
  intro _ _
  with_reducible apply State.illegalIf_stored
  with_reducible assumption
  intro _ _
  with_reducible apply State.queue_stored
  with_reducible assumption
  exact kf.sub rfl
  exact kf.sub rfl
  exact kf.sub rfl

theorem execPadd_stored {t_ : Fin 32} {pn : Fin 8} {imm : EImm} {s : State} (hs : State.Stored q b s) (kf : b.free [Part.reg RegGroup.ic, Part.tiles, Part.ic]) :
    answers (execPadd t_ pn imm s) (State.Stored q b) := by
  unfold execPadd
  with_reducible apply answers_next
  with_reducible apply State.native_stored
  with_reducible assumption
  exact kf.sub rfl

theorem execPaddm_stored {t_ : Fin 32} {pn : Fin 8} {s : State} (hs : State.Stored q b s) (kf : b.free [Part.reg RegGroup.ic, Part.tiles, Part.ic]) :
    answers (execPaddm t_ pn s) (State.Stored q b) := by
  unfold execPaddm
  with_reducible apply answers_next
  with_reducible apply State.native_stored
  with_reducible assumption
  exact kf.sub rfl

theorem execPaddl_stored {t_ : Fin 32} {pn : Fin 8} {imm : EImm} {s : State} (hs : State.Stored q b s) (kf : b.free [Part.reg RegGroup.ic, Part.tiles, Part.ic]) :
    answers (execPaddl t_ pn imm s) (State.Stored q b) := by
  unfold execPaddl
  with_reducible apply answers_next
  with_reducible apply State.native_stored
  with_reducible assumption
  exact kf.sub rfl

theorem execInterruptAccept_stored {t_ : Fin 32} {s : State} (hs : State.Stored q b s) (kf : b.free [Part.reg RegGroup.ic, Part.tiles, Part.ic]) :
    answers (execInterruptAccept t_ s) (State.Stored q b) := by
  unfold execInterruptAccept
  extract_lets +onlyGivenNames x; clear_value x
  extract_lets +onlyGivenNames x; clear_value x
  split
  extract_lets +onlyGivenNames x; clear_value x
  extract_lets +onlyGivenNames x; refine (fun (hx : State.Stored q b x) => ?_) ?_ <;> [(try clear_value x); subst x]
  extract_lets +onlyGivenNames x; refine (fun (hx : State.Stored q b x) => ?_) ?_ <;> [(try clear_value x); subst x]
  with_reducible apply answers_ite
  with_reducible apply answers_next
  with_reducible apply stored_ite
  with_reducible apply State.icTakeUp_stored
  with_reducible assumption
  exact kf.sub rfl
  with_reducible assumption
  with_reducible apply answers_next
  with_reducible assumption
  with_reducible apply State.noteIc_stored
  with_reducible assumption
  exact kf.sub rfl
  with_reducible apply State.setTile_stored
  with_reducible assumption
  exact kf.sub rfl
  with_reducible apply answers_next
  with_reducible assumption

theorem execIllegalInstruction_stored {t_ : Fin 32} {s : State} (hs : State.Stored q b s) (kf : b.free [Part.reg RegGroup.ic, Part.tiles, Part.ic]) :
    answers (execIllegalInstruction t_ s) (State.Stored q b) := by
  unfold execIllegalInstruction
  extract_lets +onlyGivenNames x; clear_value x
  split
  with_reducible apply answers_next
  with_reducible apply State.tileFault_stored
  with_reducible assumption
  exact kf.sub rfl
  with_reducible apply answers_next
  with_reducible assumption

theorem State.outsideWords_stored {s : State} {t_ : Fin 32} {x : Opnd} (hs : State.Stored q b s) (kf :
    b.free (regParts ++ [Part.fresh, Part.rdata, Part.caps, Part.evts, Part.kiln, Part.mb])) :
  ∀ t, s.outsideWords t_ x = some t → State.Stored q b t.1 := by
  cases x with
  | words ws => exact opt_some (p := fun (t : State × List Word) => State.Stored q b t.1) hs
  | outside a n =>
    refine opt_foldl (p := fun (t : State × List Word) => State.Stored q b t.1) ?_ (opt_some hs)
    intro o x h
    cases o with
    | none => exact opt_none
    | some u =>
      refine opt_map (opt_imp (State.fabricRead_stored (h u rfl) (kf.sub rfl)) ?_)
      intro v hv
      exact hv

theorem execOutsideLoadReturn_stored {t_ : Fin 32} {cycles : Nat} {error : Bool} {s : State} (hs : State.Stored q b s) (kf : b.free (regParts ++ [Part.fresh, Part.rdata, Part.caps, Part.evts, Part.kiln, Part.tiles, Part.ic, Part.mb])) :
    answers (execOutsideLoadReturn t_ cycles error s) (State.Stored q b) := by
  unfold execOutsideLoadReturn
  split
  extract_lets +onlyGivenNames x; refine (fun (hx2 : ∀ t, x = some t → State.Stored q b t.1) => ?_) ?_ <;> [(try clear_value x); subst x]
  with_reducible apply answers_ite
  split
  with_reducible apply answers_next
  with_reducible apply State.tileFault_stored
  with_reducible apply State.resume_stored
  with_reducible assumption
  exact kf.sub rfl
  exact kf.sub rfl
  with_reducible apply answers_next
  with_reducible apply State.resume_stored
  with_reducible apply State.queue_stored
  with_reducible exact stored_of_some_pair rfl (by with_reducible assumption)
  exact kf.sub rfl
  exact kf.sub rfl
  with_reducible apply answers_next
  with_reducible assumption
  with_reducible refine opt_ite ?_ ?_
  with_reducible exact opt_none
  with_reducible refine opt_guard ?_; split
  with_reducible exact opt_none
  with_reducible refine opt_map ?_
  with_reducible refine opt_guard ?_; with_reducible apply State.outsideWords_stored
  with_reducible refine stored_of_some_pair (by with_reducible assumption) ?_
  with_reducible refine opt_guard ?_; with_reducible apply State.outsideWords_stored
  with_reducible assumption
  exact kf.sub rfl
  exact kf.sub rfl
  with_reducible apply answers_next
  with_reducible assumption

theorem State.signStore_stored {s : State} {t_ : Fin 32} {q_ : OutStore} (hs : State.Stored q b s) (kf : b.free [Part.pc]) :
    State.Stored q b (State.signStore s t_ q_) := by
  unfold State.signStore
  extract_lets +onlyGivenNames x; clear_value x
  extract_lets +onlyGivenNames x; clear_value x
  extract_lets +onlyGivenNames x; clear_value x
  with_reducible apply stored_ite
  with_reducible apply State.updPc_stored
  with_reducible assumption
  exact kf.sub rfl
  with_reducible apply State.foldSig_stored
  with_reducible assumption
  exact kf.sub rfl

theorem State.noteLoop_stored {s : State} {t_ : Fin 32} {q_ : OutStore} (hs : State.Stored q b s) (kf : b.free [Part.pc]) :
    State.Stored q b (State.noteLoop s t_ q_) := by
  unfold State.noteLoop
  with_reducible apply stored_ite
  with_reducible assumption
  with_reducible apply stored_foldl
  intro _ _ _
  extract_lets +onlyGivenNames x; clear_value x
  split
  with_reducible apply State.updOther_stored
  with_reducible assumption
  exact kf.sub rfl
  with_reducible apply State.updOther_stored
  with_reducible assumption
  exact kf.sub rfl
  with_reducible apply State.updOther_stored
  with_reducible assumption
  exact kf.sub rfl
  with_reducible apply State.updOther_stored
  with_reducible assumption
  exact kf.sub rfl
  with_reducible apply State.updOther_stored
  with_reducible assumption
  exact kf.sub rfl
  with_reducible apply State.updOther_stored
  with_reducible assumption
  exact kf.sub rfl
  split
  with_reducible apply State.otherRef_stored
  with_reducible assumption
  exact kf.sub rfl
  with_reducible assumption
  extract_lets +onlyGivenNames x; clear_value x
  with_reducible apply stored_ite
  with_reducible apply State.updOther_stored
  with_reducible assumption
  exact kf.sub rfl
  with_reducible assumption
  with_reducible assumption
  with_reducible assumption

theorem State.noteOutput_stored {s : State} {t_ : Fin 32} {q_ : OutStore} (hs : State.Stored q b s) (kf : b.free [Part.pc]) :
    State.Stored q b (State.noteOutput s t_ q_) := by
  unfold State.noteOutput
  extract_lets +onlyGivenNames x; clear_value x
  extract_lets +onlyGivenNames x; clear_value x
  with_reducible apply stored_ite
  with_reducible apply State.updPc_stored
  with_reducible assumption
  exact kf.sub rfl
  with_reducible assumption

theorem State.notePost_stored {s : State} {t_ : Fin 32} {q_ : OutStore} (hs : State.Stored q b s) (kf : b.free [Part.pc]) :
    State.Stored q b (State.notePost s t_ q_) := by
  unfold State.notePost
  split
  with_reducible apply State.posted_stored
  with_reducible assumption
  exact kf.sub rfl
  with_reducible apply State.posted_stored
  with_reducible assumption
  exact kf.sub rfl
  with_reducible apply State.posted_stored
  with_reducible assumption
  exact kf.sub rfl
  with_reducible apply State.posted_stored
  with_reducible assumption
  exact kf.sub rfl
  with_reducible apply State.posted_stored
  with_reducible assumption
  exact kf.sub rfl
  with_reducible apply State.posted_stored
  with_reducible assumption
  exact kf.sub rfl
  with_reducible apply State.posted_stored
  with_reducible assumption
  exact kf.sub rfl
  with_reducible apply State.posted_stored
  with_reducible assumption
  exact kf.sub rfl
  with_reducible assumption

theorem State.storeOut_stored {s : State} {t_ : Fin 32} {a : Nat} {ws : List Word} (hs : State.Stored q b s) (kf :
    b.free (regParts ++ [Part.now, Part.mem, Part.fresh, Part.seq, Part.time, Part.pulses, Part.lk, Part.evts, Part.ports, Part.axes, Part.sdclk, Part.fbs, Part.loops, Part.arms, Part.kiln, Part.tiles, Part.stk, Part.pc, Part.ic, Part.si, Part.eth, Part.chain, Part.mb, Part.boot])) :
  ∀ t, s.storeOut t_ a ws = some t → State.Stored q b t := by
  unfold State.storeOut
  refine opt_foldl ?_ (opt_some hs)
  intro o x h
  cases o with
  | none => exact opt_none
  | some u =>
    refine opt_map (opt_imp (State.fabricWrite_stored (h u rfl) (kf.sub rfl)) ?_)
    intro v hv
    exact stored_ite (State.mput_stored hv (kf.sub rfl)) hv

theorem State.drainStore_stored {s : State} {t_ : Fin 32} {q_ : OutStore} {rest : List OutStore} {cycles : Nat} {error : Bool}
  (hs : State.Stored q b s) (kf : b.free (regParts ++ [Part.now, Part.mem, Part.fresh, Part.seq, Part.time, Part.pulses, Part.lk, Part.evts, Part.ports, Part.axes, Part.sdclk, Part.fbs, Part.loops, Part.arms, Part.kiln, Part.tiles, Part.stk, Part.pc, Part.ic, Part.si, Part.eth, Part.chain, Part.mb, Part.boot])) :
    State.Stored q b (s.drainStore t_ q_ rest cycles error) := by
  unfold State.drainStore
  extract_lets src s1 s2
  have h : State.Stored q b s2 := State.noteLoop_stored (State.notePost_stored (State.noteOutput_stored (State.signStore_stored (State.setTile_stored hs (kf.sub rfl)) (kf.sub rfl)) (kf.sub rfl)) (kf.sub rfl)) (kf.sub rfl)
  have h3 : ∀ u, (if error then none else s2.storeOut t_ q_.addr q_.words) = some u → State.Stored q b u := opt_ite opt_none (State.storeOut_stored h (kf.sub rfl))
  clear_value s2 s1
  split
  · rename_i u e
    exact State.takeStore_stored (h3 u e) (kf.sub rfl)
  · exact State.takeStore_stored (State.tileFault_stored h (kf.sub rfl)) (kf.sub rfl)

theorem execOutsideStoreDrain_stored {t_ : Fin 32} {cycles : Nat} {error : Bool} {s : State} (hs : State.Stored q b s) (kf : b.free (regParts ++ [Part.now, Part.mem, Part.fresh, Part.seq, Part.time, Part.pulses, Part.lk, Part.evts, Part.ports, Part.axes, Part.sdclk, Part.fbs, Part.loops, Part.arms, Part.kiln, Part.tiles, Part.stk, Part.pc, Part.ic, Part.si, Part.eth, Part.chain, Part.mb, Part.boot])) :
    answers (execOutsideStoreDrain t_ cycles error s) (State.Stored q b) := by
  unfold execOutsideStoreDrain
  split
  with_reducible apply answers_next
  with_reducible assumption
  extract_lets +onlyGivenNames x; clear_value x
  extract_lets +onlyGivenNames x; clear_value x
  with_reducible apply answers_ite
  with_reducible apply answers_next
  with_reducible assumption
  with_reducible apply answers_ite
  with_reducible apply answers_next
  with_reducible apply State.stkRelease_stored
  with_reducible assumption
  exact kf.sub rfl
  with_reducible apply answers_next
  with_reducible apply State.drainStore_stored
  with_reducible assumption
  exact kf.sub rfl

end Sys2Proof.Machine
end

