-- ==== Sys2Proof/Laws/StoredSystem.lean ====
section
/-! SUPPORT. One lemma per operation: plane switches, updates, power, boot and the mailbox commands keep what `State.Stored`
says: the queue, canonical memory and flash, OTP bits, time, and every part of the state that the operation does not name. -/

namespace Sys2Proof.Machine

open Sys2Proof

variable {q : List Instr} {b : Kept}

theorem State.actOnPending_stored {s : State} {p : Fin 2} (hs : State.Stored q b s) (kf : b.free (regParts ++ [Part.now, Part.mem, Part.fresh, Part.seq, Part.time, Part.pulses, Part.lk, Part.evts, Part.ports, Part.axes, Part.sdclk, Part.fbs, Part.loops, Part.arms, Part.kiln, Part.tiles, Part.stk, Part.pc, Part.ic, Part.si, Part.eth, Part.chain, Part.mb, Part.boot])) :
    State.Stored q b (s.actOnPending p) := by
  unfold State.actOnPending
  extract_lets mine s1 s2 ended s3
  have h1 : State.Stored q b s1 := State.updPc_stored hs (kf.sub rfl)
  have h2 : State.Stored q b s2 := stored_foldl (fun s e h => stored_getD (State.storeOut_stored h (kf.sub rfl)) h) h1
  have h3 : State.Stored q b s3 := stored_foldl (fun s x h => State.finishRun_stored h (kf.sub rfl)) h2
  exact stored_foldl (fun s t h => stored_ite (State.icTakeUp_stored h (kf.sub rfl)) h) h3

theorem State.switchTo_stored {s : State} {p : Fin 2} {cause : Nat} {unconf : Bool} (hs : State.Stored q b s) (kf : b.free (regParts ++ [Part.now, Part.mem, Part.fresh, Part.seq, Part.time, Part.pulses, Part.lk, Part.evts, Part.ports, Part.axes, Part.sdclk, Part.fbs, Part.loops, Part.arms, Part.kiln, Part.tiles, Part.stk, Part.pc, Part.ic, Part.si, Part.eth, Part.chain, Part.mb, Part.boot])) :
    State.Stored q b (State.switchTo s p cause unconf) := by
  unfold State.switchTo
  extract_lets +onlyGivenNames x; refine (fun (hx : State.Stored q b x) => ?_) ?_ <;> [(try clear_value x); subst x]
  extract_lets +onlyGivenNames x; refine (fun (hx : State.Stored q b x) => ?_) ?_ <;> [(try clear_value x); subst x]
  extract_lets +onlyGivenNames x; refine (fun (hx : State.Stored q b x) => ?_) ?_ <;> [(try clear_value x); subst x]
  extract_lets +onlyGivenNames x; refine (fun (hx : State.Stored q b x) => ?_) ?_ <;> [(try clear_value x); subst x]
  with_reducible apply State.icUnmark_stored
  with_reducible apply State.actOnPending_stored
  with_reducible apply State.loopTableOf_stored
  with_reducible apply State.updPc_stored
  with_reducible assumption
  exact kf.sub rfl
  exact kf.sub rfl
  exact kf.sub rfl
  exact kf.sub rfl
  with_reducible apply State.putB_stored
  with_reducible assumption
  exact kf.get rfl
  with_reducible apply State.put_stored
  with_reducible apply State.put_stored
  with_reducible apply State.put_stored
  with_reducible assumption
  exact kf.get rfl
  exact kf.get rfl
  exact kf.get rfl
  with_reducible apply State.bump_stored
  with_reducible assumption
  exact kf.get rfl
  with_reducible apply State.put_stored
  with_reducible apply State.setPlane_stored
  with_reducible assumption
  exact kf.sub rfl
  exact kf.get rfl

theorem State.reloadPlane_stored {s : State} {p : Fin 2} {k : Fin 2} (hs : State.Stored q b s) (kf : b.free [Part.reg RegGroup.pc, Part.tiles, Part.pc, Part.ic, Part.boot]) :
    State.Stored q b (State.reloadPlane s p k) := by
  unfold State.reloadPlane
  with_reducible apply State.planeTest_stored
  with_reducible apply State.setRuns_stored
  with_reducible apply State.planeDown_stored
  with_reducible assumption
  exact kf.sub rfl
  exact kf.sub rfl
  exact kf.sub rfl

theorem State.updSwitched_stored {s : State} {p : Fin 2} (hs : State.Stored q b s) (kf : b.free (postParts ++ [Part.reg RegGroup.pc, Part.tiles, Part.pc, Part.ic, Part.boot])) :
    State.Stored q b (State.updSwitched s p) := by
  unfold State.updSwitched
  extract_lets +onlyGivenNames x; clear_value x
  extract_lets +onlyGivenNames x; clear_value x
  extract_lets +onlyGivenNames x; clear_value x
  with_reducible apply stored_ite
  with_reducible assumption
  with_reducible apply stored_ite
  with_reducible apply State.startWindow_stored
  with_reducible apply State.updUpd_stored
  with_reducible assumption
  exact kf.sub rfl
  exact kf.sub rfl
  with_reducible apply stored_ite
  with_reducible apply State.setPhase_stored
  with_reducible apply State.updUpd_stored
  with_reducible assumption
  exact kf.sub rfl
  exact kf.sub rfl
  with_reducible apply stored_ite
  with_reducible apply State.setPhase_stored
  with_reducible apply State.updUpd_stored
  with_reducible apply State.setDir_stored
  with_reducible apply State.reloadPlane_stored
  with_reducible assumption
  exact kf.sub rfl
  exact kf.sub rfl
  exact kf.sub rfl
  exact kf.sub rfl
  with_reducible assumption

theorem State.updReturn_stored {s : State} (hs : State.Stored q b s) (kf : b.free [Part.boot]) : State.Stored q b (State.updReturn s) := by
  unfold State.updReturn
  with_reducible apply stored_ite
  with_reducible apply State.updUpd_stored
  with_reducible assumption
  exact kf.sub rfl
  with_reducible assumption

theorem State.updDropped_stored {s : State} (hs : State.Stored q b s) (kf : b.free (postParts ++ [Part.boot])) :
    State.Stored q b (State.updDropped s) := by
  unfold State.updDropped
  extract_lets +onlyGivenNames x; clear_value x
  extract_lets +onlyGivenNames x; clear_value x
  with_reducible apply State.setPhase_stored
  with_reducible apply State.updUpd_stored
  with_reducible apply State.setDir_stored
  with_reducible apply State.setRuns_stored
  with_reducible assumption
  exact kf.sub rfl
  exact kf.sub rfl
  exact kf.sub rfl
  exact kf.sub rfl

theorem State.plannedHandover_stored {s : State} (hs : State.Stored q b s) (kf : b.free (regParts ++ [Part.now, Part.mem, Part.fresh, Part.seq, Part.time, Part.pulses, Part.lk, Part.evts, Part.ports, Part.axes, Part.sdclk, Part.fbs, Part.loops, Part.arms, Part.kiln, Part.tiles, Part.stk, Part.pc, Part.ic, Part.si, Part.eth, Part.chain, Part.mb, Part.boot])) :
    State.Stored q b (State.plannedHandover s) := by
  unfold State.plannedHandover
  extract_lets +onlyGivenNames x; clear_value x
  split
  with_reducible assumption
  extract_lets +onlyGivenNames x; subst x
  extract_lets +onlyGivenNames x; refine (fun (hx : State.Stored q b x) => ?_) ?_ <;> [(try clear_value x); subst x]
  with_reducible apply stored_ite
  with_reducible apply State.updSwitched_stored
  with_reducible apply State.updPc_stored
  with_reducible assumption
  exact kf.sub rfl
  exact kf.sub rfl
  with_reducible assumption
  with_reducible apply State.switchTo_stored
  with_reducible apply State.setPlane_stored
  with_reducible assumption
  exact kf.sub rfl
  exact kf.sub rfl

theorem State.planeGivesUp_stored {s : State} {p : Fin 2} (hs : State.Stored q b s) (kf : b.free (postParts ++ [Part.reg RegGroup.pc, Part.tiles, Part.pc, Part.ic, Part.boot])) :
    State.Stored q b (State.planeGivesUp s p) := by
  unfold State.planeGivesUp
  extract_lets +onlyGivenNames x; clear_value x
  extract_lets +onlyGivenNames x; refine (fun (hx : State.Stored q b x) => ?_) ?_ <;> [(try clear_value x); subst x]
  extract_lets +onlyGivenNames x; refine (fun (hx : State.Stored q b x) => ?_) ?_ <;> [(try clear_value x); subst x]
  extract_lets +onlyGivenNames x; refine (fun (hx : State.Stored q b x) => ?_) ?_ <;> [(try clear_value x); subst x]
  with_reducible apply stored_ite
  with_reducible apply stored_ite
  with_reducible apply State.updDropped_stored
  with_reducible assumption
  exact kf.sub rfl
  with_reducible apply State.updReturn_stored
  with_reducible assumption
  exact kf.sub rfl
  with_reducible assumption
  with_reducible apply State.updPc_stored
  with_reducible apply State.planeDown_stored
  with_reducible assumption
  exact kf.sub rfl
  exact kf.sub rfl
  with_reducible apply State.post_stored
  with_reducible assumption
  exact kf.sub rfl
  with_reducible apply State.wr_stored
  with_reducible assumption
  (with_reducible rw [healthReg_group]); exact kf.get rfl

theorem State.giveUps_stored {s : State} {ps : List (Fin 2)} (hs : State.Stored q b s) (kf : b.free (regParts ++ [Part.now, Part.mem, Part.fresh, Part.seq, Part.time, Part.pulses, Part.lk, Part.evts, Part.ports, Part.axes, Part.sdclk, Part.fbs, Part.loops, Part.arms, Part.kiln, Part.tiles, Part.stk, Part.pc, Part.ic, Part.si, Part.eth, Part.chain, Part.mb, Part.boot])) :
    State.Stored q b (State.giveUps s ps) := by
  unfold State.giveUps
  extract_lets +onlyGivenNames x; refine (fun (hx : State.Stored q b x) => ?_) ?_ <;> [(try clear_value x); subst x]
  extract_lets +onlyGivenNames x; clear_value x
  extract_lets +onlyGivenNames x; clear_value x
  extract_lets +onlyGivenNames x; clear_value x
  extract_lets +onlyGivenNames x; refine (fun (hx : State.Stored q b x) => ?_) ?_ <;> [(try clear_value x); subst x]
  extract_lets +onlyGivenNames x; clear_value x
  extract_lets +onlyGivenNames x; clear_value x
  extract_lets +onlyGivenNames x; refine (fun (hx : State.Stored q b x) => ?_) ?_ <;> [(try clear_value x); subst x]
  extract_lets +onlyGivenNames x; refine (fun (hx : State.Stored q b x) => ?_) ?_ <;> [(try clear_value x); subst x]
  with_reducible apply stored_foldl
  intro _ _ _
  with_reducible apply stored_ite
  with_reducible apply State.planeTest_stored
  with_reducible assumption
  exact kf.sub rfl
  with_reducible assumption
  with_reducible assumption
  with_reducible apply stored_ite
  with_reducible apply stored_ite
  with_reducible apply State.updSwitched_stored
  with_reducible apply State.switchTo_stored
  with_reducible assumption
  exact kf.sub rfl
  exact kf.sub rfl
  with_reducible apply State.noPlane_stored
  with_reducible assumption
  exact kf.sub rfl
  with_reducible assumption
  with_reducible apply State.updPc_stored
  with_reducible assumption
  exact kf.sub rfl
  with_reducible apply stored_foldl
  intro _ _ _
  with_reducible apply State.planeGivesUp_stored
  with_reducible assumption
  exact kf.sub rfl
  with_reducible assumption
  with_reducible apply State.advance_stored
  with_reducible assumption
  exact kf.sub rfl

theorem execTaskFaultReport_stored {t_ : Fin 16} {s : State} (hs : State.Stored q b s) (kf : b.free (regParts ++ [Part.now, Part.mem, Part.fresh, Part.seq, Part.time, Part.pulses, Part.lk, Part.evts, Part.ports, Part.axes, Part.sdclk, Part.fbs, Part.loops, Part.arms, Part.kiln, Part.tiles, Part.stk, Part.pc, Part.ic, Part.si, Part.eth, Part.chain, Part.mb, Part.boot])) :
    answers (execTaskFaultReport t_ s) (State.Stored q b) := by
  unfold execTaskFaultReport
  extract_lets +onlyGivenNames x; clear_value x
  extract_lets +onlyGivenNames x; clear_value x
  extract_lets +onlyGivenNames x; refine (fun (hx : State.Stored q b x) => ?_) ?_ <;> [(try clear_value x); subst x]
  split
  with_reducible apply answers_next
  with_reducible assumption
  with_reducible apply answers_ite
  with_reducible apply answers_next
  with_reducible assumption
  with_reducible apply answers_ite
  with_reducible apply answers_next
  with_reducible apply State.wakeOf_stored
  with_reducible apply State.toRest_stored
  with_reducible apply State.taskRecord_stored
  with_reducible apply State.flag_stored
  with_reducible assumption
  exact kf.get rfl
  exact kf.sub rfl
  exact kf.sub rfl
  exact kf.sub rfl
  with_reducible apply answers_next
  with_reducible apply State.giveUps_stored
  with_reducible apply State.setHealth_stored
  with_reducible apply State.setTask_stored
  with_reducible assumption
  exact kf.sub rfl
  exact kf.sub rfl
  exact kf.sub rfl
  with_reducible apply stored_foldl
  intro _ _ _
  extract_lets +onlyGivenNames x; clear_value x
  with_reducible apply State.mishap_stored
  with_reducible apply State.setTask_stored
  with_reducible apply State.popEnd_stored
  with_reducible assumption
  exact kf.sub rfl
  exact kf.sub rfl
  exact kf.sub rfl
  with_reducible assumption

theorem State.eccError_stored {s : State} {u : Fin 32} {words : List Nat} (hs : State.Stored q b s) (kf : b.free [Part.reg RegGroup.ic, Part.tiles, Part.stk, Part.ic]) :
    State.Stored q b (State.eccError s u words) := by
  unfold State.eccError
  extract_lets +onlyGivenNames x; clear_value x
  extract_lets +onlyGivenNames x; refine (fun (hx : State.Stored q b x) => ?_) ?_ <;> [(try clear_value x); subst x]
  split
  extract_lets +onlyGivenNames x; clear_value x
  with_reducible apply State.setTask_stored
  with_reducible apply State.tileFault_stored
  with_reducible assumption
  exact kf.sub rfl
  exact kf.sub rfl
  with_reducible assumption
  with_reducible apply State.setTile_stored
  with_reducible assumption
  exact kf.sub rfl

theorem execPlaneSelfFault_stored {pl : Fin 2} {k : PlaneFault} {tile : Option (Fin 16)} {words : List Nat} {other : Option PlaneFault} {t_ : Nat} {s : State} (hs : State.Stored q b s) (kf : b.free (regParts ++ [Part.now, Part.mem, Part.fresh, Part.seq, Part.time, Part.pulses, Part.lk, Part.evts, Part.ports, Part.axes, Part.sdclk, Part.fbs, Part.loops, Part.arms, Part.kiln, Part.tiles, Part.stk, Part.pc, Part.ic, Part.si, Part.eth, Part.chain, Part.mb, Part.boot])) :
    answers (execPlaneSelfFault pl k tile words other t_ s) (State.Stored q b) := by
  unfold execPlaneSelfFault
  extract_lets +onlyGivenNames x; refine (fun (hx : State.Stored q b x) => ?_) ?_ <;> [(try clear_value x); subst x]
  extract_lets +onlyGivenNames x; refine (fun (hx : State.Stored q b x) => ?_) ?_ <;> [(try clear_value x); subst x]
  extract_lets +onlyGivenNames x; clear_value x
  extract_lets +onlyGivenNames x; clear_value x
  extract_lets +onlyGivenNames x; clear_value x
  extract_lets +onlyGivenNames x; clear_value x
  extract_lets +onlyGivenNames x; refine (fun (hx : State.Stored q b x) => ?_) ?_ <;> [(try clear_value x); subst x]
  extract_lets +onlyGivenNames x; refine (fun (hx : State.Stored q b x) => ?_) ?_ <;> [(try clear_value x); subst x]
  with_reducible apply answers_next
  with_reducible apply stored_ite
  with_reducible assumption
  with_reducible apply State.giveUps_stored
  with_reducible assumption
  exact kf.sub rfl
  with_reducible apply stored_foldl
  intro _ _ _
  with_reducible apply State.bootPlanes_stored
  with_reducible apply State.planeDown_stored
  with_reducible assumption
  exact kf.sub rfl
  exact kf.sub rfl
  with_reducible assumption
  with_reducible apply stored_foldl
  intro _ _ _
  with_reducible apply State.setHealth_stored
  with_reducible assumption
  exact kf.sub rfl
  with_reducible assumption
  split
  with_reducible apply State.eccError_stored
  extract_lets +onlyGivenNames x; refine (fun (hx : State.Stored q b x) => ?_) ?_ <;> [(try clear_value x); subst x]
  with_reducible assumption
  with_reducible assumption
  exact kf.sub rfl
  with_reducible assumption
  with_reducible apply State.advance_stored
  with_reducible assumption
  exact kf.sub rfl

theorem execPlaneGiveupAtPort_stored {n : Fin 64} {s : State} (hs : State.Stored q b s) (kf : b.free [Part.reg RegGroup.pc, Part.now, Part.ports, Part.pc]) :
    answers (execPlaneGiveupAtPort n s) (State.Stored q b) := by
  unfold execPlaneGiveupAtPort
  extract_lets +onlyGivenNames x; clear_value x
  extract_lets +onlyGivenNames x; refine (fun (hx : State.Stored q b x) => ?_) ?_ <;> [(try clear_value x); subst x]
  extract_lets +onlyGivenNames x; clear_value x
  extract_lets +onlyGivenNames x; clear_value x
  with_reducible apply answers_ite
  split
  with_reducible apply answers_next
  with_reducible apply State.setPort_stored
  with_reducible assumption
  exact kf.sub rfl
  extract_lets +onlyGivenNames x; refine (fun (hx : State.Stored q b x) => ?_) ?_ <;> [(try clear_value x); subst x]
  with_reducible apply answers_next
  with_reducible apply stored_ite
  with_reducible apply State.put_stored
  with_reducible apply State.bump_stored
  with_reducible assumption
  exact kf.get rfl
  exact kf.get rfl
  with_reducible assumption
  with_reducible apply State.setPort_stored
  with_reducible assumption
  exact kf.sub rfl
  with_reducible apply answers_next
  with_reducible assumption
  with_reducible apply State.updPc_stored
  with_reducible apply State.advance_stored
  with_reducible assumption
  exact kf.sub rfl
  exact kf.sub rfl

theorem execTransferTimeout_stored {pl : Fin 2} {s : State} (hs : State.Stored q b s) (kf : b.free (regParts ++ [Part.now, Part.mem, Part.fresh, Part.seq, Part.time, Part.pulses, Part.lk, Part.evts, Part.ports, Part.axes, Part.sdclk, Part.fbs, Part.loops, Part.arms, Part.kiln, Part.tiles, Part.stk, Part.pc, Part.ic, Part.si, Part.eth, Part.chain, Part.mb, Part.boot])) :
    answers (execTransferTimeout pl s) (State.Stored q b) := by
  unfold execTransferTimeout
  with_reducible apply answers_ite
  with_reducible apply answers_next
  with_reducible apply State.giveUps_stored
  with_reducible apply State.setHealth_stored
  with_reducible apply State.advance_stored
  with_reducible assumption
  exact kf.sub rfl
  exact kf.sub rfl
  exact kf.sub rfl
  with_reducible apply answers_next
  with_reducible assumption

theorem execExtTestDone_stored {a : Option PlaneFault} {b_ : Option PlaneFault} {s : State} (hs : State.Stored q b s) (kf : b.free (regParts ++ [Part.now, Part.mem, Part.fresh, Part.seq, Part.time, Part.pulses, Part.lk, Part.evts, Part.ports, Part.axes, Part.sdclk, Part.fbs, Part.loops, Part.arms, Part.kiln, Part.tiles, Part.stk, Part.pc, Part.ic, Part.si, Part.eth, Part.chain, Part.mb, Part.boot])) :
    answers (execExtTestDone a b_ s) (State.Stored q b) := by
  unfold execExtTestDone
  extract_lets +onlyGivenNames x; refine (fun (hx : State.Stored q b x) => ?_) ?_ <;> [(try clear_value x); subst x]
  with_reducible apply answers_ite
  split
  with_reducible apply answers_next
  with_reducible apply State.put_stored
  with_reducible apply State.post_stored
  with_reducible apply State.flag_stored
  with_reducible assumption
  exact kf.get rfl
  exact kf.sub rfl
  exact kf.get rfl
  with_reducible apply execPlaneSelfFault_stored
  with_reducible assumption
  exact kf.sub rfl
  with_reducible apply execPlaneSelfFault_stored
  with_reducible assumption
  exact kf.sub rfl
  with_reducible apply execPlaneSelfFault_stored
  with_reducible assumption
  exact kf.sub rfl
  with_reducible apply answers_next
  with_reducible assumption
  with_reducible apply State.put_stored
  with_reducible assumption
  exact kf.get rfl

theorem State.transferJoin_stored {s : State} {k : Nat} {pl : Fin 2} (hs : State.Stored q b s) (kf : b.free (regParts ++ [Part.now, Part.mem, Part.fresh, Part.seq, Part.time, Part.pulses, Part.lk, Part.evts, Part.ports, Part.axes, Part.sdclk, Part.fbs, Part.loops, Part.arms, Part.kiln, Part.tiles, Part.stk, Part.pc, Part.ic, Part.si, Part.eth, Part.chain, Part.mb, Part.boot])) :
    State.Stored q b (State.transferJoin s k pl) := by
  unfold State.transferJoin
  extract_lets +onlyGivenNames x; refine (fun (hx : State.Stored q b x) => ?_) ?_ <;> [(try clear_value x); subst x]
  extract_lets +onlyGivenNames x; refine (fun (hx : State.Stored q b x) => ?_) ?_ <;> [(try clear_value x); subst x]
  extract_lets +onlyGivenNames x; refine (fun (hx : State.Stored q b x) => ?_) ?_ <;> [(try clear_value x); subst x]
  extract_lets +onlyGivenNames x; refine (fun (hx : State.Stored q b x) => ?_) ?_ <;> [(try clear_value x); subst x]
  with_reducible apply stored_ite
  with_reducible apply stored_ite
  with_reducible apply State.switchTo_stored
  with_reducible apply State.put_stored
  with_reducible assumption
  exact kf.get rfl
  exact kf.sub rfl
  with_reducible assumption
  with_reducible assumption
  with_reducible apply State.updPc_stored
  with_reducible apply State.wr_stored
  with_reducible apply State.lbistStart_stored
  with_reducible apply State.setPlane_stored
  with_reducible assumption
  exact kf.sub rfl
  exact kf.sub rfl
  exact kf.get rfl
  exact kf.sub rfl
  with_reducible apply stored_foldl
  intro _ _ _
  split
  with_reducible apply State.setTask_stored
  with_reducible assumption
  exact kf.sub rfl
  with_reducible assumption
  with_reducible assumption
  with_reducible apply stored_foldl
  intro _ _ _
  extract_lets +onlyGivenNames x; clear_value x
  with_reducible apply State.setTile_stored
  with_reducible assumption
  exact kf.sub rfl
  with_reducible assumption
  with_reducible apply State.copyPlane_stored
  with_reducible assumption
  exact kf.sub rfl

theorem execUpdBegin_stored {k : Fin 16} {s : State} (hs : State.Stored q b s) (kf : b.free (postParts ++ [Part.mb, Part.boot])) :
    answers (execUpdBegin k s) (State.Stored q b) := by
  unfold execUpdBegin
  with_reducible apply answers_next
  with_reducible apply State.runCmd_stored
  with_reducible assumption
  intro _ _ _
  extract_lets +onlyGivenNames x; clear_value x
  extract_lets +onlyGivenNames x; clear_value x
  extract_lets +onlyGivenNames x; refine (fun (hx : State.Stored q b x) => ?_) ?_ <;> [(try clear_value x); subst x]
  extract_lets +onlyGivenNames x; refine (fun (hx : State.Stored q b x) => ?_) ?_ <;> [(try clear_value x); subst x]
  split
  simp -zeta only
  with_reducible assumption
  split
  simp -zeta only
  with_reducible assumption
  simp -zeta only
  with_reducible apply State.setPhase_stored
  with_reducible assumption
  exact kf.sub rfl
  with_reducible apply State.setDir_stored
  with_reducible assumption
  exact kf.sub rfl
  with_reducible apply State.updUpd_stored
  with_reducible assumption
  exact kf.sub rfl
  exact kf.sub rfl

theorem execUpdData_stored {k : Fin 16} {s : State} (hs : State.Stored q b s) (kf :
    b.free [Part.mb, Part.boot]) :
  answers (execUpdData k s) (State.Stored q b) := by
  unfold execUpdData
  refine answers_next (State.runCmd_stored hs ?_ (kf.sub rfl))
  intro s x h
  dsimp only
  split
  · exact h
  · split
    · exact h
    · exact State.updUpd_stored (stored_updBoot h (memWriteN_wf _ _ _ h.2.2.1) (fun _ e => e) (kf.sub rfl)) (kf.sub rfl)

theorem execUpdVerify_stored {k : Fin 16} {s : State} (hs : State.Stored q b s) (kf : b.free [Part.mb, Part.boot]) :
    answers (execUpdVerify k s) (State.Stored q b) := by
  unfold execUpdVerify
  extract_lets +onlyGivenNames x; clear_value x
  with_reducible apply answers_ite
  with_reducible apply answers_ite
  with_reducible apply answers_next
  with_reducible apply stored_ite
  with_reducible assumption
  with_reducible apply State.updUpd_stored
  with_reducible assumption
  exact kf.sub rfl
  with_reducible apply answers_next
  with_reducible apply State.setOut_stored
  with_reducible assumption
  exact kf.sub rfl
  with_reducible apply answers_next
  with_reducible assumption

theorem execImageVerified_stored {s : State} (hs : State.Stored q b s) (kf : b.free (postParts ++ [Part.now, Part.mb, Part.boot])) :
    answers (execImageVerified s) (State.Stored q b) := by
  unfold execImageVerified
  extract_lets +onlyGivenNames x; clear_value x
  extract_lets +onlyGivenNames x; clear_value x
  split
  with_reducible apply answers_next
  with_reducible assumption
  extract_lets +onlyGivenNames x; refine (fun (hx : State.Stored q b x) => ?_) ?_ <;> [(try clear_value x); subst x]
  with_reducible apply answers_ite
  with_reducible apply answers_next
  with_reducible assumption
  with_reducible apply answers_ite
  with_reducible apply answers_next
  with_reducible apply State.setOut_stored
  with_reducible apply State.setPhase_stored
  with_reducible assumption
  exact kf.sub rfl
  exact kf.sub rfl
  with_reducible apply answers_next
  with_reducible apply State.setOut_stored
  with_reducible assumption
  exact kf.sub rfl
  with_reducible apply State.updUpd_stored
  with_reducible apply State.advance_stored
  with_reducible assumption
  exact kf.sub rfl
  exact kf.sub rfl

theorem State.showZver_stored {s : State} {k : Fin 2} (hs : State.Stored q b s) (kf : b.free [Part.reg RegGroup.hm]) :
    State.Stored q b (State.showZver s k) := by
  unfold State.showZver
  with_reducible apply State.wr_stored
  with_reducible assumption
  exact kf.get rfl

theorem State.reloadBoth_stored {s : State} {k : Fin 2} (hs : State.Stored q b s) (kf : b.free [Part.reg RegGroup.pc, Part.tiles, Part.pc, Part.ic, Part.boot]) :
    State.Stored q b (State.reloadBoth s k) := by
  unfold State.reloadBoth
  with_reducible apply State.updPc_stored
  with_reducible apply State.reloadPlane_stored
  with_reducible apply State.reloadPlane_stored
  with_reducible assumption
  exact kf.sub rfl
  exact kf.sub rfl
  exact kf.sub rfl

theorem State.startActivation_stored {s : State} (hs : State.Stored q b s) (kf : b.free (postParts ++ [Part.reg RegGroup.tb, Part.reg RegGroup.ch, Part.reg RegGroup.pc, Part.time, Part.tiles, Part.pc, Part.ic, Part.chain, Part.boot])) :
    State.Stored q b (State.startActivation s) := by
  unfold State.startActivation
  extract_lets +onlyGivenNames x; clear_value x
  extract_lets +onlyGivenNames x; clear_value x
  extract_lets +onlyGivenNames x; refine (fun (hx : State.Stored q b x) => ?_) ?_ <;> [(try clear_value x); subst x]
  extract_lets +onlyGivenNames x; clear_value x
  split
  with_reducible apply stored_ite
  with_reducible apply State.reloadPlane_stored
  with_reducible apply State.updUpd_stored
  with_reducible assumption
  exact kf.sub rfl
  exact kf.sub rfl
  with_reducible apply State.reloadBoth_stored
  with_reducible apply State.updUpd_stored
  with_reducible assumption
  exact kf.sub rfl
  exact kf.sub rfl
  with_reducible apply stored_ite
  with_reducible apply State.reloadPlane_stored
  with_reducible apply State.updUpd_stored
  with_reducible assumption
  exact kf.sub rfl
  exact kf.sub rfl
  with_reducible apply State.reloadBoth_stored
  with_reducible apply State.updUpd_stored
  with_reducible assumption
  exact kf.sub rfl
  exact kf.sub rfl
  with_reducible apply State.startWindow_stored
  with_reducible apply State.setRunsAll_stored
  with_reducible apply stored_ite
  with_reducible apply State.toListen_stored
  with_reducible assumption
  exact kf.sub rfl
  with_reducible assumption
  exact kf.sub rfl
  exact kf.sub rfl
  with_reducible apply State.updUpd_stored
  with_reducible assumption
  exact kf.sub rfl
  with_reducible apply State.setPhase_stored
  with_reducible apply State.setDir_stored
  with_reducible assumption
  exact kf.sub rfl
  exact kf.sub rfl

theorem execUpdActivate_stored {k : Fin 16} {s : State} (hs : State.Stored q b s) (kf : b.free (postParts ++ [Part.reg RegGroup.tb, Part.reg RegGroup.ch, Part.reg RegGroup.pc, Part.time, Part.tiles, Part.pc, Part.ic, Part.chain, Part.mb, Part.boot])) :
    answers (execUpdActivate k s) (State.Stored q b) := by
  unfold execUpdActivate
  extract_lets +onlyGivenNames x; clear_value x
  extract_lets +onlyGivenNames x; refine (fun (hx : State.Stored q b x) => ?_) ?_ <;> [(try clear_value x); subst x]
  with_reducible apply answers_ite
  with_reducible apply answers_ite
  with_reducible apply answers_next
  with_reducible apply State.setOut_stored
  with_reducible assumption
  exact kf.sub rfl
  with_reducible apply answers_ite
  with_reducible apply answers_ite
  with_reducible apply answers_next
  with_reducible apply State.updBoot_stored
  with_reducible apply State.updUpd_stored
  with_reducible assumption
  exact kf.sub rfl
  rfl
  rfl
  exact kf.sub rfl
  with_reducible apply answers_next
  with_reducible apply State.startWindow_stored
  with_reducible apply State.showZver_stored
  with_reducible apply State.setRunsAll_stored
  with_reducible assumption
  exact kf.sub rfl
  exact kf.sub rfl
  exact kf.sub rfl
  with_reducible apply answers_next
  with_reducible apply State.setOut_stored
  with_reducible apply State.startActivation_stored
  with_reducible assumption
  exact kf.sub rfl
  exact kf.sub rfl
  with_reducible apply answers_next
  with_reducible assumption
  with_reducible apply State.hearthRestart_stored
  with_reducible apply State.setPhase_stored
  with_reducible apply State.setDir_stored
  with_reducible apply State.endSlot_stored
  with_reducible assumption
  exact kf.sub rfl
  exact kf.sub rfl
  exact kf.sub rfl
  exact kf.sub rfl

theorem execUpdStatus_stored {k : Fin 16} {s : State} (hs : State.Stored q b s) (kf : b.free [Part.mb]) :
    answers (execUpdStatus k s) (State.Stored q b) := by
  unfold execUpdStatus
  with_reducible apply answers_next
  with_reducible apply State.runCmd_stored
  with_reducible assumption
  intro _ _ _
  simp -zeta only
  with_reducible assumption
  exact kf.sub rfl

theorem execUpdAbort_stored {k : Fin 16} {s : State} (hs : State.Stored q b s) (kf : b.free (postParts ++ [Part.mb, Part.boot])) :
    answers (execUpdAbort k s) (State.Stored q b) := by
  unfold execUpdAbort
  with_reducible apply answers_next
  with_reducible apply State.runCmd_stored
  with_reducible assumption
  intro _ _ _
  extract_lets +onlyGivenNames x; clear_value x
  extract_lets +onlyGivenNames x; refine (fun (hx : State.Stored q b x) => ?_) ?_ <;> [(try clear_value x); subst x]
  split
  simp -zeta only
  with_reducible apply State.setPhase_stored
  with_reducible assumption
  exact kf.sub rfl
  simp -zeta only
  with_reducible assumption
  with_reducible apply State.updUpd_stored
  with_reducible apply State.setDir_stored
  with_reducible assumption
  exact kf.sub rfl
  exact kf.sub rfl
  exact kf.sub rfl

theorem State.advanceOp_stored {s : State} {t_ : Nat} (hs : State.Stored q b s) (kf : b.free [Part.now]) :
    State.Stored q b (State.advanceOp s t_) := by
  unfold State.advanceOp
  with_reducible apply State.advance_stored
  with_reducible assumption
  exact kf.sub rfl

theorem State.burnRollback_stored {s : State} {c : Fin 6} {n : Nat} (hs : State.Stored q b s) (kf : b.free [Part.reg RegGroup.hm, Part.reg RegGroup.otp, Part.boot]) :
    State.Stored q b (State.burnRollback s c n) := by
  unfold State.burnRollback
  with_reducible apply stored_foldl
  intro _ _ _
  with_reducible apply State.otpBurn_stored
  with_reducible assumption
  exact kf.sub rfl
  with_reducible assumption

theorem State.fallenBack_stored {s : State} (hs : State.Stored q b s) (kf : b.free (postParts ++ [Part.boot])) :
    State.Stored q b (State.fallenBack s) := by
  unfold State.fallenBack
  extract_lets +onlyGivenNames x; clear_value x
  extract_lets +onlyGivenNames x; clear_value x
  with_reducible apply State.setPhase_stored
  with_reducible apply State.updUpd_stored
  with_reducible apply State.setDir_stored
  with_reducible assumption
  exact kf.sub rfl
  exact kf.sub rfl
  exact kf.sub rfl

theorem State.recover_stored {s : State} (hs : State.Stored q b s) (kf : b.free [Part.reg RegGroup.hm, Part.fresh, Part.boot]) :
    State.Stored q b (State.recover s) := by
  unfold State.recover
  with_reducible apply stored_ite
  with_reducible apply State.useFresh_stored
  with_reducible apply State.wr_stored
  with_reducible apply State.updBoot_stored
  with_reducible assumption
  rfl
  rfl
  exact kf.sub rfl
  exact kf.get rfl
  exact kf.sub rfl
  with_reducible apply State.updBoot_stored
  with_reducible assumption
  rfl
  rfl
  exact kf.sub rfl

theorem State.restartHearth_stored {s : State} (hs : State.Stored q b s) (kf : b.free [Part.reg RegGroup.ic, Part.reg RegGroup.hm, Part.fresh, Part.mb, Part.boot]) :
    State.Stored q b (State.restartHearth s) := by
  unfold State.restartHearth
  split
  with_reducible apply State.hearthRestart_stored
  with_reducible apply State.showZver_stored
  with_reducible apply State.setRunsAll_stored
  with_reducible assumption
  exact kf.sub rfl
  exact kf.sub rfl
  exact kf.sub rfl
  with_reducible apply State.recover_stored
  with_reducible apply State.hearthRestart_stored
  with_reducible assumption
  exact kf.sub rfl
  exact kf.sub rfl

theorem State.updFails_stored {s : State} (hs : State.Stored q b s) (kf : b.free (postParts ++ [Part.reg RegGroup.tb, Part.reg RegGroup.ch, Part.fresh, Part.time, Part.ic, Part.si, Part.chain, Part.mb, Part.boot])) :
    State.Stored q b (State.updFails s) := by
  have k_si : b.keep .si = false := kf.get rfl
  unfold State.updFails
  extract_lets +onlyGivenNames x; clear_value x
  extract_lets +onlyGivenNames x; clear_value x
  extract_lets +onlyGivenNames x; refine (fun (hx : State.Stored q b x) => ?_) ?_ <;> [(try clear_value x); subst x]
  extract_lets +onlyGivenNames x; clear_value x
  split
  with_reducible apply State.restartHearth_stored
  with_reducible apply State.fallenBack_stored
  with_reducible assumption
  exact kf.sub rfl
  exact kf.sub rfl
  with_reducible apply stored_ite
  with_reducible apply State.updReturn_stored
  with_reducible assumption
  exact kf.sub rfl
  with_reducible apply State.fallenBack_stored
  with_reducible assumption
  exact kf.sub rfl
  with_reducible apply stored_ite
  with_reducible apply State.updReturn_stored
  with_reducible assumption
  exact kf.sub rfl
  with_reducible apply State.fallenBack_stored
  with_reducible assumption
  exact kf.sub rfl
  with_reducible apply State.setRunsAll_stored
  with_reducible apply State.fallenBack_stored
  with_reducible apply stored_ite
  with_reducible apply State.toListen_stored
  with_reducible assumption
  exact kf.sub rfl
  with_reducible assumption
  exact kf.sub rfl
  exact kf.sub rfl
  simp -zeta only [stored_mk, k_si, or_true, true_or]
  with_reducible assumption
  with_reducible apply State.fallenBack_stored
  with_reducible assumption
  exact kf.sub rfl

theorem execUpdFailure_stored {window : Bool} {s : State} (hs : State.Stored q b s) (kf : b.free (postParts ++ [Part.reg RegGroup.tb, Part.reg RegGroup.ch, Part.now, Part.fresh, Part.time, Part.ic, Part.si, Part.chain, Part.mb, Part.boot])) :
    answers (execUpdFailure window s) (State.Stored q b) := by
  unfold execUpdFailure
  with_reducible apply answers_next
  with_reducible apply stored_ite
  with_reducible apply State.updFails_stored
  with_reducible apply stored_ite
  with_reducible apply State.advanceOp_stored
  with_reducible assumption
  exact kf.sub rfl
  with_reducible assumption
  exact kf.sub rfl
  with_reducible assumption

theorem execUpdProvingDone_stored {s : State} (hs : State.Stored q b s) (kf : b.free (postParts ++ [Part.reg RegGroup.tb, Part.reg RegGroup.ch, Part.reg RegGroup.pc, Part.reg RegGroup.otp, Part.now, Part.fresh, Part.time, Part.tiles, Part.pc, Part.ic, Part.si, Part.chain, Part.mb, Part.boot])) :
    answers (execUpdProvingDone s) (State.Stored q b) := by
  unfold execUpdProvingDone
  extract_lets +onlyGivenNames x; clear_value x
  extract_lets +onlyGivenNames x; clear_value x
  extract_lets +onlyGivenNames x; refine (fun (hx : State.Stored q b x) => ?_) ?_ <;> [(try clear_value x); subst x]
  extract_lets +onlyGivenNames x; refine (fun (hx : State.Stored q b x) => ?_) ?_ <;> [(try clear_value x); subst x]
  extract_lets +onlyGivenNames x; clear_value x
  with_reducible apply answers_ite
  with_reducible apply answers_next
  with_reducible assumption
  with_reducible apply answers_ite
  with_reducible apply answers_next
  with_reducible apply State.updFails_stored
  with_reducible assumption
  exact kf.sub rfl
  with_reducible apply answers_ite
  with_reducible apply answers_next
  with_reducible apply State.reloadPlane_stored
  with_reducible apply State.setPhase_stored
  with_reducible apply State.updUpd_stored
  with_reducible assumption
  exact kf.sub rfl
  exact kf.sub rfl
  exact kf.sub rfl
  with_reducible apply answers_next
  with_reducible apply State.setPhase_stored
  with_reducible apply State.updUpd_stored
  with_reducible assumption
  exact kf.sub rfl
  exact kf.sub rfl
  with_reducible apply State.setDir_stored
  with_reducible apply State.burnRollback_stored
  with_reducible assumption
  exact kf.sub rfl
  exact kf.sub rfl
  with_reducible apply State.advanceOp_stored
  with_reducible assumption
  exact kf.sub rfl

theorem execHearthRestart_stored {s : State} (hs : State.Stored q b s) (kf : b.free (postParts ++ [Part.reg RegGroup.tb, Part.reg RegGroup.ch, Part.fresh, Part.time, Part.ic, Part.si, Part.chain, Part.mb, Part.boot])) :
    answers (execHearthRestart s) (State.Stored q b) := by
  unfold execHearthRestart
  with_reducible apply answers_next
  with_reducible apply stored_ite
  with_reducible apply State.updFails_stored
  with_reducible assumption
  exact kf.sub rfl
  with_reducible apply State.hearthRestart_stored
  with_reducible assumption
  exact kf.sub rfl

theorem execSafetyChannelRestartDone_stored {s : State} (hs : State.Stored q b s) (kf : b.free [Part.reg RegGroup.si, Part.si, Part.boot]) :
    answers (execSafetyChannelRestartDone s) (State.Stored q b) := by
  have k_si : b.keep .si = false := kf.get rfl
  unfold execSafetyChannelRestartDone
  extract_lets +onlyGivenNames x; clear_value x
  extract_lets +onlyGivenNames x; clear_value x
  extract_lets +onlyGivenNames x; refine (fun (hx : State.Stored q b x) => ?_) ?_ <;> [(try clear_value x); subst x]
  extract_lets +onlyGivenNames x; refine (fun (hx : State.Stored q b x) => ?_) ?_ <;> [(try clear_value x); subst x]
  with_reducible apply answers_ite
  with_reducible apply answers_next
  with_reducible apply State.updUpd_stored
  with_reducible assumption
  exact kf.sub rfl
  with_reducible apply answers_next
  with_reducible assumption
  with_reducible apply State.put_stored
  with_reducible apply State.timeInputs_stored
  with_reducible assumption
  exact kf.sub rfl
  exact kf.get rfl
  simp -zeta only [stored_mk, k_si, or_true, true_or]
  with_reducible assumption

theorem State.updPwr_stored {s : State} {f : Power → Power} (hs : State.Stored q b s) (kf : b.free [Part.pwr]) :
    State.Stored q b (State.updPwr s f) := by
  have k_pwr : b.keep .pwr = false := kf.get rfl
  unfold State.updPwr
  simp -zeta only [stored_mk, k_pwr, or_true, true_or]
  with_reducible assumption

theorem execKeepaliveTick_stored {high : Bool} {core : Bool} {s : State} (hs : State.Stored q b s) (kf : b.free [Part.now, Part.pwr]) :
    answers (execKeepaliveTick high core s) (State.Stored q b) := by
  unfold execKeepaliveTick
  with_reducible apply answers_next
  with_reducible apply State.updPwr_stored
  with_reducible apply State.advance_stored
  with_reducible assumption
  exact kf.sub rfl
  exact kf.sub rfl

theorem State.kept_stored {s : State} (hs : State.Stored q b s) (kf : b.free (regParts ++ [Part.now, Part.mem, Part.fresh, Part.rdata, Part.ident, Part.seq, Part.time, Part.caps, Part.pulses, Part.lk, Part.evts, Part.pwr, Part.ports, Part.axes, Part.sdclk, Part.filters, Part.fbs, Part.loops, Part.arms, Part.kiln, Part.plannerRan, Part.planDue, Part.tiles, Part.stk, Part.pc, Part.ic, Part.si, Part.eth, Part.chain, Part.claspA, Part.claspB, Part.mb, Part.boot])) :
    State.Stored q b s.kept := by
  refine ⟨hs.1, filter_wf _ _ hs.2.1, hs.2.2.1, hs.2.2.2.1, hs.2.2.2.2.1, hs.2.2.2.2.2.1, fun p hp => ?_⟩
  refine Part.same_trans (hs.2.2.2.2.2.2 p hp) ?_
  cases p with
  | now | fresh | rdata | pwr => rfl
  | reg g => exact (Kept.free.no (p := .reg g) kf hp (by cases g <;> rfl)).elim
  | _ => exact (kf.no hp rfl).elim

theorem State.enterReset_stored {s : State} {cause : Nat} (hs : State.Stored q b s) (kf : b.free (regParts ++ [Part.now, Part.mem, Part.fresh, Part.rdata, Part.ident, Part.seq, Part.time, Part.caps, Part.pulses, Part.lk, Part.evts, Part.pwr, Part.ports, Part.axes, Part.sdclk, Part.filters, Part.fbs, Part.loops, Part.arms, Part.kiln, Part.plannerRan, Part.planDue, Part.tiles, Part.stk, Part.pc, Part.ic, Part.si, Part.eth, Part.chain, Part.claspA, Part.claspB, Part.mb, Part.boot])) :
    State.Stored q b (State.enterReset s cause) := by
  unfold State.enterReset
  with_reducible apply State.showOtp_stored
  with_reducible apply State.updPwr_stored
  with_reducible apply State.kept_stored
  with_reducible assumption
  exact kf.sub rfl
  exact kf.sub rfl
  exact kf.sub rfl

theorem State.endReset_stored {s : State} (hs : State.Stored q b s) (kf : b.free [Part.pwr]) : State.Stored q b (State.endReset s) := by
  unfold State.endReset
  with_reducible apply State.updPwr_stored
  with_reducible assumption
  exact kf.sub rfl

theorem execPor_stored {t_ : Nat} {kaKept : Bool} {vddKa : Bool} {pfail : Bool} {s : State} (hs : State.Stored q b s) (kf : b.free [Part.now, Part.pwr]) :
    answers (execPor t_ kaKept vddKa pfail s) (State.Stored q b) := by
  unfold execPor
  extract_lets +onlyGivenNames x; refine (fun (hx : State.Stored q b x) => ?_) ?_ <;> [(try clear_value x); subst x]
  with_reducible apply answers_ite
  with_reducible apply answers_next
  with_reducible assumption
  with_reducible apply answers_next
  with_reducible apply stored_ite
  with_reducible apply State.updPwr_stored
  with_reducible assumption
  exact kf.sub rfl
  with_reducible apply State.endReset_stored
  with_reducible assumption
  exact kf.sub rfl
  with_reducible apply State.updPwr_stored
  with_reducible apply State.advance_stored
  with_reducible assumption
  exact kf.sub rfl
  exact kf.sub rfl

theorem execBrownout_stored {t_ : Nat} {s : State} (hs : State.Stored q b s) (kf : b.free (regParts ++ [Part.now, Part.mem, Part.fresh, Part.rdata, Part.ident, Part.seq, Part.time, Part.caps, Part.pulses, Part.lk, Part.evts, Part.pwr, Part.ports, Part.axes, Part.sdclk, Part.filters, Part.fbs, Part.loops, Part.arms, Part.kiln, Part.plannerRan, Part.planDue, Part.tiles, Part.stk, Part.pc, Part.ic, Part.si, Part.eth, Part.chain, Part.claspA, Part.claspB, Part.mb, Part.boot])) :
    answers (execBrownout t_ s) (State.Stored q b) := by
  have k_lk : b.keep .lk = false := kf.get rfl
  unfold execBrownout
  extract_lets +onlyGivenNames x; clear_value x
  extract_lets +onlyGivenNames x; refine (fun (hx : State.Stored q b x) => ?_) ?_ <;> [(try clear_value x); subst x]
  extract_lets +onlyGivenNames x; clear_value x
  extract_lets +onlyGivenNames x; refine (fun (hx : State.Stored q b x) => ?_) ?_ <;> [(try clear_value x); subst x]
  with_reducible apply answers_ite
  with_reducible apply answers_next
  with_reducible assumption
  with_reducible apply answers_next
  with_reducible apply State.enterReset_stored
  with_reducible assumption
  exact kf.sub rfl
  with_reducible apply stored_ite
  with_reducible assumption
  simp -zeta only [stored_mk, k_lk, or_true, true_or]
  with_reducible assumption
  with_reducible apply State.updPwr_stored
  with_reducible apply State.advance_stored
  with_reducible assumption
  exact kf.sub rfl
  exact kf.sub rfl

theorem execRstNLow_stored {s : State} (hs : State.Stored q b s) (kf : b.free (regParts ++ [Part.now, Part.mem, Part.fresh, Part.rdata, Part.ident, Part.seq, Part.time, Part.caps, Part.pulses, Part.lk, Part.evts, Part.pwr, Part.ports, Part.axes, Part.sdclk, Part.filters, Part.fbs, Part.loops, Part.arms, Part.kiln, Part.plannerRan, Part.planDue, Part.tiles, Part.stk, Part.pc, Part.ic, Part.si, Part.eth, Part.chain, Part.claspA, Part.claspB, Part.mb, Part.boot])) :
    answers (execRstNLow s) (State.Stored q b) := by
  unfold execRstNLow
  extract_lets +onlyGivenNames x; refine (fun (hx : State.Stored q b x) => ?_) ?_ <;> [(try clear_value x); subst x]
  with_reducible apply answers_ite
  with_reducible apply answers_next
  with_reducible assumption
  with_reducible apply answers_ite
  with_reducible apply answers_next
  with_reducible assumption
  with_reducible apply answers_ite
  with_reducible apply answers_next
  with_reducible apply State.updPwr_stored
  with_reducible assumption
  exact kf.sub rfl
  with_reducible apply answers_next
  with_reducible apply State.enterReset_stored
  with_reducible assumption
  exact kf.sub rfl
  with_reducible apply State.updPwr_stored
  with_reducible assumption
  exact kf.sub rfl

theorem execRstNHigh_stored {s : State} (hs : State.Stored q b s) (kf : b.free [Part.pwr]) : answers (execRstNHigh s) (State.Stored q b) := by
  unfold execRstNHigh
  extract_lets +onlyGivenNames x; clear_value x
  extract_lets +onlyGivenNames x; refine (fun (hx : State.Stored q b x) => ?_) ?_ <;> [(try clear_value x); subst x]
  extract_lets +onlyGivenNames x; clear_value x
  extract_lets +onlyGivenNames x; refine (fun (hx : State.Stored q b x) => ?_) ?_ <;> [(try clear_value x); subst x]
  with_reducible apply answers_ite
  with_reducible apply answers_next
  with_reducible assumption
  with_reducible apply answers_ite
  with_reducible apply answers_next
  with_reducible apply stored_ite
  with_reducible apply State.endReset_stored
  with_reducible assumption
  exact kf.sub rfl
  with_reducible assumption
  with_reducible apply answers_next
  with_reducible assumption
  with_reducible apply State.updPwr_stored
  with_reducible assumption
  exact kf.sub rfl
  with_reducible apply State.updPwr_stored
  with_reducible assumption
  exact kf.sub rfl

theorem execResetStuck_stored {s : State} (hs : State.Stored q b s) (kf : b.free [Part.pwr]) :
    answers (execResetStuck s) (State.Stored q b) := by
  unfold execResetStuck
  extract_lets +onlyGivenNames x; clear_value x
  with_reducible apply answers_ite
  with_reducible apply answers_next
  with_reducible apply State.endReset_stored
  with_reducible apply State.updPwr_stored
  with_reducible assumption
  exact kf.sub rfl
  exact kf.sub rfl
  with_reducible apply answers_next
  with_reducible assumption

theorem execRstNRehonour_stored {s : State} (hs : State.Stored q b s) (kf : b.free [Part.pwr]) :
    answers (execRstNRehonour s) (State.Stored q b) := by
  unfold execRstNRehonour
  with_reducible apply answers_next
  with_reducible apply stored_ite
  with_reducible apply State.updPwr_stored
  with_reducible assumption
  exact kf.sub rfl
  with_reducible assumption

theorem State.disarmAll_stored {s : State} (hs : State.Stored q b s) (kf : b.free [Part.reg RegGroup.tpo, Part.reg RegGroup.port, Part.reg RegGroup.sdc, Part.reg RegGroup.fb, Part.reg RegGroup.stp, Part.reg RegGroup.si, Part.pulses, Part.ports, Part.sdclk, Part.fbs, Part.si]) :
    State.Stored q b (State.disarmAll s) := by
  have k_sdclk : b.keep .sdclk = false := kf.get rfl
  have k_si : b.keep .si = false := kf.get rfl
  unfold State.disarmAll
  extract_lets +onlyGivenNames x; refine (fun (hx : State.Stored q b x) => ?_) ?_ <;> [(try clear_value x); subst x]
  extract_lets +onlyGivenNames x; refine (fun (hx : State.Stored q b x) => ?_) ?_ <;> [(try clear_value x); subst x]
  extract_lets +onlyGivenNames x; refine (fun (hx : State.Stored q b x) => ?_) ?_ <;> [(try clear_value x); subst x]
  extract_lets +onlyGivenNames x; refine (fun (hx : State.Stored q b x) => ?_) ?_ <;> [(try clear_value x); subst x]
  extract_lets +onlyGivenNames x; clear_value x
  extract_lets +onlyGivenNames x; refine (fun (hx : State.Stored q b x) => ?_) ?_ <;> [(try clear_value x); subst x]
  extract_lets +onlyGivenNames x; refine (fun (hx : State.Stored q b x) => ?_) ?_ <;> [(try clear_value x); subst x]
  extract_lets +onlyGivenNames x; refine (fun (hx : State.Stored q b x) => ?_) ?_ <;> [(try clear_value x); subst x]
  extract_lets +onlyGivenNames x; clear_value x
  simp -zeta only [stored_mk, k_sdclk, k_si, or_true, true_or]
  with_reducible assumption
  with_reducible apply State.showOutputs_stored
  with_reducible apply stored_foldl
  intro _ _ _
  with_reducible apply State.outOff_stored
  with_reducible assumption
  exact kf.sub rfl
  with_reducible assumption
  exact kf.sub rfl
  with_reducible apply stored_foldl
  intro _ _ _
  with_reducible apply State.tpoArm_stored
  with_reducible assumption
  exact kf.sub rfl
  with_reducible assumption
  simp -zeta only [stored_mk, k_sdclk, k_si, or_true, true_or]
  with_reducible assumption
  with_reducible apply State.put_stored
  with_reducible assumption
  exact kf.get rfl
  with_reducible apply stored_foldl
  intro _ _ _
  extract_lets +onlyGivenNames x; refine (fun (hx : State.Stored q b x) => ?_) ?_ <;> [(try clear_value x); subst x]
  extract_lets +onlyGivenNames x; clear_value x
  with_reducible apply stored_ite
  with_reducible apply State.setFb_stored
  with_reducible apply State.put_stored
  with_reducible apply State.put_stored
  with_reducible assumption
  exact kf.get rfl
  exact kf.get rfl
  exact kf.sub rfl
  with_reducible assumption
  with_reducible apply State.put_stored
  with_reducible assumption
  exact kf.get rfl
  with_reducible assumption
  with_reducible apply stored_foldl
  intro _ _ _
  with_reducible apply State.put_stored
  with_reducible assumption
  exact kf.get rfl
  with_reducible assumption
  with_reducible apply stored_foldl
  intro _ _ _
  with_reducible apply State.disarmPort_stored
  with_reducible assumption
  exact kf.sub rfl
  with_reducible assumption

theorem execPfailAssert_stored {t_ : Nat} {s : State} (hs : State.Stored q b s) (kf : b.free (postParts ++ [Part.reg RegGroup.tb, Part.reg RegGroup.tpo, Part.reg RegGroup.port, Part.reg RegGroup.sdc, Part.reg RegGroup.fb, Part.reg RegGroup.stp, Part.reg RegGroup.si, Part.reg RegGroup.ch, Part.reg RegGroup.cp, Part.now, Part.time, Part.pulses, Part.pwr, Part.ports, Part.sdclk, Part.fbs, Part.ic, Part.si, Part.chain, Part.boot])) :
    answers (execPfailAssert t_ s) (State.Stored q b) := by
  have k_lk : b.keep .lk = false := kf.get rfl
  unfold execPfailAssert
  extract_lets +onlyGivenNames x; refine (fun (hx : State.Stored q b x) => ?_) ?_ <;> [(try clear_value x); subst x]
  extract_lets +onlyGivenNames x; refine (fun (hx : State.Stored q b x) => ?_) ?_ <;> [(try clear_value x); subst x]
  extract_lets +onlyGivenNames x; refine (fun (hx : State.Stored q b x) => ?_) ?_ <;> [(try clear_value x); subst x]
  extract_lets +onlyGivenNames x; refine (fun (hx : State.Stored q b x) => ?_) ?_ <;> [(try clear_value x); subst x]
  extract_lets +onlyGivenNames x; clear_value x
  with_reducible apply answers_ite
  with_reducible apply answers_next
  with_reducible assumption
  with_reducible apply answers_ite
  with_reducible apply answers_next
  with_reducible assumption
  with_reducible apply answers_next
  simp -zeta only [stored_mk, k_lk, or_true, true_or]
  with_reducible assumption
  with_reducible apply State.startFlush_stored
  with_reducible assumption
  exact kf.sub rfl
  with_reducible apply State.appendRec_stored
  with_reducible assumption
  exact kf.sub rfl
  with_reducible apply State.chainOff_stored
  with_reducible apply State.disarmAll_stored
  with_reducible assumption
  exact kf.sub rfl
  exact kf.sub rfl
  with_reducible apply State.updPwr_stored
  with_reducible apply State.advance_stored
  with_reducible assumption
  exact kf.sub rfl
  exact kf.sub rfl

theorem State.writeMirror_stored {s : State} (hs : State.Stored q b s) (kf : b.free [Part.lk]) : State.Stored q b (State.writeMirror s) := by
  have k_lk : b.keep .lk = false := kf.get rfl
  unfold State.writeMirror
  extract_lets +onlyGivenNames x; clear_value x
  simp -zeta only [stored_mk, k_lk, or_true, true_or]
  with_reducible assumption

theorem execPfFlushDone_stored {s : State} (hs : State.Stored q b s) (kf : b.free (regParts ++ [Part.now, Part.mem, Part.fresh, Part.rdata, Part.ident, Part.seq, Part.time, Part.caps, Part.pulses, Part.lk, Part.evts, Part.pwr, Part.ports, Part.axes, Part.sdclk, Part.filters, Part.fbs, Part.loops, Part.arms, Part.kiln, Part.plannerRan, Part.planDue, Part.tiles, Part.stk, Part.pc, Part.ic, Part.si, Part.eth, Part.chain, Part.claspA, Part.claspB, Part.mb, Part.boot])) :
    answers (execPfFlushDone s) (State.Stored q b) := by
  have k_kiln : b.keep .kiln = false := kf.get rfl
  have k_lk : b.keep .lk = false := kf.get rfl
  have k_seq : b.keep .seq = false := kf.get rfl
  have k_si : b.keep .si = false := kf.get rfl
  unfold execPfFlushDone
  extract_lets +onlyGivenNames x; refine (fun (hx : State.Stored q b x) => ?_) ?_ <;> [(try clear_value x); subst x]
  extract_lets +onlyGivenNames x; refine (fun (hx : State.Stored q b x) => ?_) ?_ <;> [(try clear_value x); subst x]
  extract_lets +onlyGivenNames x; refine (fun (hx : State.Stored q b x) => ?_) ?_ <;> [(try clear_value x); subst x]
  extract_lets +onlyGivenNames x; clear_value x
  extract_lets +onlyGivenNames x; refine (fun (hx : State.Stored q b x) => ?_) ?_ <;> [(try clear_value x); subst x]
  extract_lets +onlyGivenNames x; refine (fun (hx : State.Stored q b x) => ?_) ?_ <;> [(try clear_value x); subst x]
  extract_lets +onlyGivenNames x; refine (fun (hx : State.Stored q b x) => ?_) ?_ <;> [(try clear_value x); subst x]
  extract_lets +onlyGivenNames x; refine (fun (hx : State.Stored q b x) => ?_) ?_ <;> [(try clear_value x); subst x]
  extract_lets +onlyGivenNames x; clear_value x
  extract_lets +onlyGivenNames x; clear_value x
  extract_lets +onlyGivenNames x; refine (fun (hx : State.Stored q b x) => ?_) ?_ <;> [(try clear_value x); subst x]
  extract_lets +onlyGivenNames x; refine (fun (hx : State.Stored q b x) => ?_) ?_ <;> [(try clear_value x); subst x]
  with_reducible apply answers_ite
  with_reducible apply answers_next
  with_reducible assumption
  with_reducible apply answers_next
  with_reducible apply stored_ite
  with_reducible apply State.enterReset_stored
  with_reducible assumption
  exact kf.sub rfl
  with_reducible assumption
  with_reducible apply State.updPwr_stored
  with_reducible assumption
  exact kf.sub rfl
  simp -zeta only [stored_mk, k_kiln, k_lk, k_seq, k_si, or_true, true_or]
  with_reducible assumption
  simp -zeta only [stored_mk, k_kiln, k_lk, k_seq, k_si, or_true, true_or]
  with_reducible assumption
  with_reducible apply State.busyUp_stored
  with_reducible apply State.busyUp_stored
  with_reducible assumption
  exact kf.sub rfl
  exact kf.sub rfl
  with_reducible apply State.put_stored
  with_reducible apply State.stopTiles_stored
  with_reducible apply State.stopTiles_stored
  with_reducible assumption
  exact kf.sub rfl
  exact kf.sub rfl
  exact kf.get rfl
  simp -zeta only [stored_mk, k_kiln, k_lk, k_seq, k_si, or_true, true_or]
  with_reducible assumption
  with_reducible apply State.put_stored
  with_reducible assumption
  exact kf.get rfl
  with_reducible apply State.writeMirror_stored
  with_reducible apply State.advance_stored
  with_reducible assumption
  exact kf.sub rfl
  exact kf.sub rfl
  split
  with_reducible apply State.endFlush_stored
  with_reducible apply State.advance_stored
  with_reducible assumption
  exact kf.sub rfl
  exact kf.sub rfl
  with_reducible assumption

theorem execMirrorWrite_stored {s : State} (hs : State.Stored q b s) (kf : b.free [Part.lk]) :
    answers (execMirrorWrite s) (State.Stored q b) := by
  unfold execMirrorWrite
  with_reducible apply answers_next
  with_reducible apply stored_ite
  with_reducible apply State.writeMirror_stored
  with_reducible assumption
  exact kf.sub rfl
  with_reducible assumption

theorem execPfRestart_stored {t_ : Nat} {s : State} (hs : State.Stored q b s) (kf : b.free (regParts ++ [Part.now, Part.mem, Part.fresh, Part.rdata, Part.ident, Part.seq, Part.time, Part.caps, Part.pulses, Part.lk, Part.evts, Part.pwr, Part.ports, Part.axes, Part.sdclk, Part.filters, Part.fbs, Part.loops, Part.arms, Part.kiln, Part.plannerRan, Part.planDue, Part.tiles, Part.stk, Part.pc, Part.ic, Part.si, Part.eth, Part.chain, Part.claspA, Part.claspB, Part.mb, Part.boot])) :
    answers (execPfRestart t_ s) (State.Stored q b) := by
  unfold execPfRestart
  extract_lets +onlyGivenNames x; refine (fun (hx : State.Stored q b x) => ?_) ?_ <;> [(try clear_value x); subst x]
  extract_lets +onlyGivenNames x; refine (fun (hx : State.Stored q b x) => ?_) ?_ <;> [(try clear_value x); subst x]
  with_reducible apply answers_ite
  with_reducible apply answers_next
  with_reducible apply stored_ite
  with_reducible apply State.updPwr_stored
  with_reducible assumption
  exact kf.sub rfl
  with_reducible apply State.endReset_stored
  with_reducible assumption
  exact kf.sub rfl
  with_reducible apply answers_ite
  with_reducible apply answers_next
  with_reducible apply stored_ite
  with_reducible assumption
  with_reducible apply State.endReset_stored
  with_reducible assumption
  exact kf.sub rfl
  with_reducible apply answers_next
  with_reducible assumption
  with_reducible apply State.updPwr_stored
  with_reducible apply State.advance_stored
  with_reducible assumption
  exact kf.sub rfl
  exact kf.sub rfl
  with_reducible apply State.enterReset_stored
  with_reducible apply State.updPwr_stored
  with_reducible apply State.advance_stored
  with_reducible assumption
  exact kf.sub rfl
  exact kf.sub rfl
  exact kf.sub rfl

theorem execClockFault_stored {t_ : Nat} {s : State} (hs : State.Stored q b s) (kf : b.free (postParts ++ [Part.reg RegGroup.clk, Part.reg RegGroup.port, Part.reg RegGroup.stp, Part.reg RegGroup.si, Part.now, Part.time, Part.ports, Part.axes, Part.si, Part.boot])) :
    answers (execClockFault t_ s) (State.Stored q b) := by
  have k_time : b.keep .time = false := kf.get rfl
  unfold execClockFault
  extract_lets +onlyGivenNames x; refine (fun (hx : State.Stored q b x) => ?_) ?_ <;> [(try clear_value x); subst x]
  extract_lets +onlyGivenNames x; clear_value x
  with_reducible apply answers_next
  with_reducible apply State.safeClockFault_stored
  simp -zeta only [stored_mk, k_time, or_true, true_or]
  with_reducible assumption
  exact kf.sub rfl
  with_reducible apply State.put_stored
  with_reducible apply State.advance_stored
  with_reducible assumption
  exact kf.sub rfl
  exact kf.get rfl

theorem State.offerMoves_stored {s : State} {a : Fin 8} {addr : Nat} {l : List (List Byte)} {n : Nat}
  (hs : State.Stored q b s) (kf : b.free [Part.reg RegGroup.arm, Part.arms]) :
    State.Stored q b (State.offerMoves s a addr l n).1 := by
  induction l generalizing s n with
  | nil => exact hs
  | cons x l ih =>
    have h := State.offerMove_stored (a := a) (m := (moveOfBytes x).1) (reserved := (moveOfBytes x).2) hs (kf.sub rfl)
    unfold State.offerMoves
    dsimp only
    split
    · exact hs
    · split
      · rename_i e
        rw [e] at h
        exact ih h
      · rename_i e
        rw [e] at h
        exact h

theorem execMovePush_stored {k : Fin 16} {s : State} (hs : State.Stored q b s) (kf : b.free [Part.reg RegGroup.arm, Part.arms, Part.mb]) :
    answers (execMovePush k s) (State.Stored q b) := by
  unfold execMovePush
  simp -zeta only
  with_reducible apply answers_next
  with_reducible apply State.runCmd_stored
  with_reducible assumption
  intro _ _ _
  extract_lets +onlyGivenNames x; clear_value x
  split
  simp -zeta only
  with_reducible assumption
  simp -zeta only
  with_reducible apply State.offerMoves_stored
  with_reducible assumption
  exact kf.sub rfl
  exact kf.sub rfl

theorem execArmCmd_stored {k : Fin 16} {s : State} (hs : State.Stored q b s) (kf : b.free (regParts ++ [Part.now, Part.mem, Part.fresh, Part.seq, Part.time, Part.pulses, Part.lk, Part.evts, Part.ports, Part.axes, Part.sdclk, Part.fbs, Part.loops, Part.arms, Part.kiln, Part.tiles, Part.stk, Part.pc, Part.ic, Part.si, Part.eth, Part.chain, Part.mb, Part.boot])) :
    answers (execArmCmd k s) (State.Stored q b) := by
  unfold execArmCmd
  with_reducible apply answers_next
  with_reducible apply State.runCmd_stored
  with_reducible assumption
  intro _ _ _
  extract_lets +onlyGivenNames x; clear_value x
  split
  simp -zeta only
  with_reducible assumption
  with_reducible apply plain_stored
  with_reducible apply State.cmdWriteAs_stored
  with_reducible assumption
  exact kf.sub rfl
  exact kf.sub rfl

theorem execArmEnable_stored {k : Fin 16} {s : State} (hs : State.Stored q b s) (kf : b.free (regParts ++ [Part.now, Part.mem, Part.fresh, Part.seq, Part.time, Part.pulses, Part.lk, Part.evts, Part.ports, Part.axes, Part.sdclk, Part.fbs, Part.loops, Part.arms, Part.kiln, Part.tiles, Part.stk, Part.pc, Part.ic, Part.si, Part.eth, Part.chain, Part.mb, Part.boot])) :
    answers (execArmEnable k s) (State.Stored q b) := by
  unfold execArmEnable
  with_reducible apply answers_next
  with_reducible apply State.runCmd_stored
  with_reducible assumption
  intro _ _ _
  extract_lets +onlyGivenNames x; clear_value x
  split
  simp -zeta only
  with_reducible assumption
  with_reducible apply plain_stored
  with_reducible apply State.cmdWriteAs_stored
  with_reducible assumption
  exact kf.sub rfl
  exact kf.sub rfl

theorem State.armStatus_stored {s : State} {a : Fin 8} (hs : State.Stored q b s) (kf : b.free (regParts ++ [Part.fresh, Part.rdata, Part.caps, Part.evts, Part.kiln, Part.mb])) :
    State.Stored q b (State.armStatus s a).1 := by
  unfold State.armStatus
  simp -zeta only
  with_reducible apply State.cmdReads_stored
  with_reducible assumption
  exact kf.sub rfl

theorem execArmStatus_stored {k : Fin 16} {s : State} (hs : State.Stored q b s) (kf : b.free (regParts ++ [Part.fresh, Part.rdata, Part.caps, Part.evts, Part.kiln, Part.mb])) :
    answers (execArmStatus k s) (State.Stored q b) := by
  unfold execArmStatus
  with_reducible apply answers_next
  with_reducible apply State.runCmd_stored
  with_reducible assumption
  intro _ _ _
  with_reducible apply State.armStatus_stored
  with_reducible assumption
  exact kf.sub rfl
  exact kf.sub rfl

theorem execArmOverride_stored {k : Fin 16} {s : State} (hs : State.Stored q b s) (kf : b.free (regParts ++ [Part.now, Part.mem, Part.fresh, Part.seq, Part.time, Part.pulses, Part.lk, Part.evts, Part.ports, Part.axes, Part.sdclk, Part.fbs, Part.loops, Part.arms, Part.kiln, Part.tiles, Part.stk, Part.pc, Part.ic, Part.si, Part.eth, Part.chain, Part.mb, Part.boot])) :
    answers (execArmOverride k s) (State.Stored q b) := by
  unfold execArmOverride
  with_reducible apply answers_next
  with_reducible apply State.runCmd_stored
  with_reducible assumption
  intro _ _ _
  with_reducible apply plain_stored
  with_reducible apply State.cmdWrite_stored
  with_reducible assumption
  exact kf.sub rfl
  exact kf.sub rfl

theorem execStepMove_stored {k : Fin 16} {s : State} (hs : State.Stored q b s) (kf : b.free (regParts ++ [Part.now, Part.mem, Part.fresh, Part.rdata, Part.seq, Part.time, Part.caps, Part.pulses, Part.lk, Part.evts, Part.ports, Part.axes, Part.sdclk, Part.fbs, Part.loops, Part.arms, Part.kiln, Part.tiles, Part.stk, Part.pc, Part.ic, Part.si, Part.eth, Part.chain, Part.mb, Part.boot])) :
    answers (execStepMove k s) (State.Stored q b) := by
  unfold execStepMove
  simp -zeta only
  with_reducible apply answers_next
  with_reducible apply State.runCmd_stored
  with_reducible assumption
  intro _ _ _
  extract_lets +onlyGivenNames x; clear_value x
  split
  simp -zeta only
  with_reducible assumption
  split
  simp -zeta only
  with_reducible assumption
  split
  split
  simp -zeta only
  with_reducible apply State.cmdReads_stored
  with_reducible refine stored_of_pair (by with_reducible assumption) ?_
  with_reducible apply State.cmdWriteAs_stored
  with_reducible refine stored_of_pair (by with_reducible assumption) ?_
  with_reducible apply State.cmdWrites_stored
  with_reducible assumption
  exact kf.sub rfl
  exact kf.sub rfl
  exact kf.sub rfl
  simp -zeta only
  with_reducible refine stored_of_pair (by with_reducible assumption) ?_
  with_reducible apply State.cmdWriteAs_stored
  with_reducible refine stored_of_pair (by with_reducible assumption) ?_
  with_reducible apply State.cmdWrites_stored
  with_reducible assumption
  exact kf.sub rfl
  exact kf.sub rfl
  simp -zeta only
  with_reducible refine stored_of_pair (by with_reducible assumption) ?_
  with_reducible apply State.cmdWrites_stored
  with_reducible assumption
  exact kf.sub rfl
  exact kf.sub rfl

theorem execStepCmd_stored {k : Fin 16} {s : State} (hs : State.Stored q b s) (kf : b.free (regParts ++ [Part.now, Part.mem, Part.fresh, Part.seq, Part.time, Part.pulses, Part.lk, Part.evts, Part.ports, Part.axes, Part.sdclk, Part.fbs, Part.loops, Part.arms, Part.kiln, Part.tiles, Part.stk, Part.pc, Part.ic, Part.si, Part.eth, Part.chain, Part.mb, Part.boot])) :
    answers (execStepCmd k s) (State.Stored q b) := by
  unfold execStepCmd
  with_reducible apply answers_next
  with_reducible apply State.runCmd_stored
  with_reducible assumption
  intro _ _ _
  split
  simp -zeta only
  with_reducible assumption
  split
  simp -zeta only
  with_reducible assumption
  with_reducible apply plain_stored
  with_reducible apply State.cmdWriteAs_stored
  with_reducible assumption
  exact kf.sub rfl
  exact kf.sub rfl

theorem execTorqueRef_stored {k : Fin 16} {s : State} (hs : State.Stored q b s) (kf : b.free (regParts ++ [Part.now, Part.mem, Part.fresh, Part.seq, Part.time, Part.pulses, Part.lk, Part.evts, Part.ports, Part.axes, Part.sdclk, Part.fbs, Part.loops, Part.arms, Part.kiln, Part.tiles, Part.stk, Part.pc, Part.ic, Part.si, Part.eth, Part.chain, Part.mb, Part.boot])) :
    answers (execTorqueRef k s) (State.Stored q b) := by
  unfold execTorqueRef
  with_reducible apply answers_next
  with_reducible apply State.runCmd_stored
  with_reducible assumption
  intro _ _ _
  extract_lets +onlyGivenNames x; clear_value x
  extract_lets +onlyGivenNames x; clear_value x
  split
  simp -zeta only
  with_reducible assumption
  split
  simp -zeta only
  with_reducible refine stored_of_pair (by with_reducible assumption) ?_
  with_reducible apply State.watch_stored
  with_reducible assumption
  intro _ _
  with_reducible apply stored_foldl
  intro _ _ _
  with_reducible apply State.busWrite_stored
  with_reducible assumption
  exact kf.sub rfl
  with_reducible assumption
  exact kf.sub rfl
  simp -zeta only
  with_reducible refine stored_of_pair (by with_reducible assumption) ?_
  with_reducible apply State.watch_stored
  with_reducible assumption
  intro _ _
  with_reducible apply stored_foldl
  intro _ _ _
  with_reducible apply State.busWrite_stored
  with_reducible assumption
  exact kf.sub rfl
  with_reducible assumption
  exact kf.sub rfl
  exact kf.sub rfl

theorem execSafeReq_stored {k : Fin 16} {s : State} (hs : State.Stored q b s) (kf : b.free (regParts ++ [Part.now, Part.mem, Part.fresh, Part.seq, Part.time, Part.pulses, Part.lk, Part.evts, Part.ports, Part.axes, Part.sdclk, Part.fbs, Part.loops, Part.arms, Part.kiln, Part.tiles, Part.stk, Part.pc, Part.ic, Part.si, Part.eth, Part.chain, Part.mb, Part.boot])) :
    answers (execSafeReq k s) (State.Stored q b) := by
  unfold execSafeReq
  with_reducible apply answers_next
  with_reducible apply State.runCmd_stored
  with_reducible assumption
  intro _ _ _
  with_reducible apply plain_stored
  with_reducible apply State.cmdWrite_stored
  with_reducible assumption
  exact kf.sub rfl
  exact kf.sub rfl

theorem execSafeToken_stored {k : Fin 16} {s : State} (hs : State.Stored q b s) (kf : b.free (regParts ++ [Part.now, Part.mem, Part.fresh, Part.seq, Part.time, Part.pulses, Part.lk, Part.evts, Part.ports, Part.axes, Part.sdclk, Part.fbs, Part.loops, Part.arms, Part.kiln, Part.tiles, Part.stk, Part.pc, Part.ic, Part.si, Part.eth, Part.chain, Part.mb, Part.boot])) :
    answers (execSafeToken k s) (State.Stored q b) := by
  unfold execSafeToken
  with_reducible apply answers_next
  with_reducible apply State.runCmd_stored
  with_reducible assumption
  intro _ _ _
  with_reducible apply plain_stored
  with_reducible apply State.cmdWrite_stored
  with_reducible assumption
  exact kf.sub rfl
  exact kf.sub rfl

theorem execSafeStatus_stored {k : Fin 16} {s : State} (hs : State.Stored q b s) (kf : b.free (regParts ++ [Part.fresh, Part.rdata, Part.caps, Part.evts, Part.kiln, Part.mb])) :
    answers (execSafeStatus k s) (State.Stored q b) := by
  unfold execSafeStatus
  simp -zeta only
  with_reducible apply answers_next
  with_reducible apply State.runCmd_stored
  with_reducible assumption
  intro _ _ _
  simp -zeta only
  with_reducible apply State.cmdReads_stored
  with_reducible assumption
  exact kf.sub rfl
  exact kf.sub rfl

theorem State.verifySet_stored {s : State} {k : Fin 2} {n : Nat} (hs : State.Stored q b s) (kf : b.free (postParts ++ [Part.reg RegGroup.si, Part.si])) :
    State.Stored q b (State.verifySet s k n).1 := by
  have k_si : b.keep .si = false := kf.get rfl
  unfold State.verifySet
  extract_lets +onlyGivenNames x; subst x
  extract_lets +onlyGivenNames x; subst x
  extract_lets +onlyGivenNames x; subst x
  extract_lets +onlyGivenNames x; clear_value x
  extract_lets +onlyGivenNames x; refine (fun (hx : State.Stored q b x) => ?_) ?_ <;> [(try clear_value x); subst x]
  simp -zeta only
  with_reducible apply State.siRecord_stored
  with_reducible apply State.flag_stored
  with_reducible assumption
  exact kf.get rfl
  exact kf.sub rfl
  with_reducible apply stored_ite
  with_reducible apply State.put_stored
  simp -zeta only [stored_mk, k_si, or_true, true_or]
  with_reducible assumption
  exact kf.get rfl
  with_reducible assumption

theorem execPsetStage_stored {k : Fin 16} {s : State} (hs : State.Stored q b s) (kf : b.free (postParts ++ [Part.reg RegGroup.si, Part.mem, Part.si, Part.mb])) :
    answers (execPsetStage k s) (State.Stored q b) := by
  have k_si : b.keep .si = false := kf.get rfl
  unfold execPsetStage
  simp -zeta only
  with_reducible apply answers_next
  with_reducible apply State.runCmd_stored
  with_reducible assumption
  intro _ _ _
  extract_lets +onlyGivenNames x; clear_value x
  extract_lets +onlyGivenNames x; clear_value x
  extract_lets +onlyGivenNames x; clear_value x
  extract_lets +onlyGivenNames x; subst x
  extract_lets +onlyGivenNames x; clear_value x
  extract_lets +onlyGivenNames x; clear_value x
  extract_lets +onlyGivenNames x; refine (fun (hx : State.Stored q b x) => ?_) ?_ <;> [(try clear_value x); subst x]
  extract_lets +onlyGivenNames x; refine (fun (hx : State.Stored q b x) => ?_) ?_ <;> [(try clear_value x); subst x]
  split
  simp -zeta only
  with_reducible assumption
  split
  simp -zeta only
  with_reducible apply State.updMail_stored
  with_reducible assumption
  exact kf.sub rfl
  simp -zeta only
  with_reducible apply State.verifySet_stored
  with_reducible apply State.updMail_stored
  with_reducible assumption
  exact kf.sub rfl
  exact kf.sub rfl
  with_reducible apply State.mwrite_stored
  with_reducible assumption
  exact kf.sub rfl
  with_reducible apply stored_ite
  with_reducible apply State.put_stored
  simp -zeta only [stored_mk, k_si, or_true, true_or]
  with_reducible assumption
  exact kf.get rfl
  with_reducible assumption
  exact kf.sub rfl

theorem execPsetInfo_stored {k : Fin 16} {s : State} (hs : State.Stored q b s) (kf : b.free [Part.mb]) :
    answers (execPsetInfo k s) (State.Stored q b) := by
  unfold execPsetInfo
  with_reducible apply answers_next
  with_reducible apply State.runCmd_stored
  with_reducible assumption
  intro _ _ _
  extract_lets +onlyGivenNames x; clear_value x
  simp -zeta only
  with_reducible assumption
  exact kf.sub rfl

theorem State.bootSettings_stored {s : State} (hs : State.Stored q b s) (kf : b.free [Part.reg RegGroup.clk, Part.reg RegGroup.tb, Part.reg RegGroup.ch, Part.reg RegGroup.hm, Part.reg RegGroup.otp, Part.ident, Part.pwr, Part.boot]) :
    State.Stored q b (State.bootSettings s) := by
  have k_ident : b.keep .ident = false := kf.get rfl
  unfold State.bootSettings
  extract_lets +onlyGivenNames x; clear_value x
  extract_lets +onlyGivenNames x; refine (fun (hx : State.Stored q b x) => ?_) ?_ <;> [(try clear_value x); subst x]
  extract_lets +onlyGivenNames x; clear_value x
  extract_lets +onlyGivenNames x; clear_value x
  split
  with_reducible apply State.put_stored
  with_reducible apply State.put_stored
  with_reducible apply State.put_stored
  with_reducible assumption
  exact kf.get rfl
  exact kf.get rfl
  exact kf.get rfl
  extract_lets +onlyGivenNames x; refine (fun (hx : State.Stored q b x) => ?_) ?_ <;> [(try clear_value x); subst x]
  extract_lets +onlyGivenNames x; refine (fun (hx : State.Stored q b x) => ?_) ?_ <;> [(try clear_value x); subst x]
  extract_lets +onlyGivenNames x; refine (fun (hx : State.Stored q b x) => ?_) ?_ <;> [(try clear_value x); subst x]
  extract_lets +onlyGivenNames x; refine (fun (hx : State.Stored q b x) => ?_) ?_ <;> [(try clear_value x); subst x]
  with_reducible apply State.putB_stored
  with_reducible apply State.putB_stored
  with_reducible apply State.put_stored
  with_reducible assumption
  exact kf.get rfl
  exact kf.get rfl
  exact kf.get rfl
  with_reducible apply State.putB_stored
  with_reducible apply State.putB_stored
  with_reducible apply State.putB_stored
  with_reducible assumption
  exact kf.get rfl
  exact kf.get rfl
  exact kf.get rfl
  with_reducible apply State.updPwr_stored
  with_reducible assumption
  exact kf.sub rfl
  simp -zeta only [stored_mk, k_ident, or_true, true_or]
  with_reducible assumption
  with_reducible apply State.put_stored
  with_reducible assumption
  exact kf.get rfl
  with_reducible apply State.updBoot_stored
  with_reducible apply State.showOtp_stored
  with_reducible assumption
  exact kf.sub rfl
  rfl
  rfl
  exact kf.sub rfl

theorem State.bootLocket_stored {s : State} (hs : State.Stored q b s) (kf : b.free (postParts ++ [Part.pwr])) :
    State.Stored q b (State.bootLocket s) := by
  unfold State.bootLocket
  extract_lets +onlyGivenNames x; clear_value x
  extract_lets +onlyGivenNames x; refine (fun (hx : State.Stored q b x) => ?_) ?_ <;> [(try clear_value x); subst x]
  extract_lets +onlyGivenNames x; refine (fun (hx : State.Stored q b x) => ?_) ?_ <;> [(try clear_value x); subst x]
  extract_lets +onlyGivenNames x; refine (fun (hx : State.Stored q b x) => ?_) ?_ <;> [(try clear_value x); subst x]
  extract_lets +onlyGivenNames x; refine (fun (hx : State.Stored q b x) => ?_) ?_ <;> [(try clear_value x); subst x]
  extract_lets +onlyGivenNames x; refine (fun (hx : State.Stored q b x) => ?_) ?_ <;> [(try clear_value x); subst x]
  with_reducible apply State.updPwr_stored
  with_reducible assumption
  exact kf.sub rfl
  split
  with_reducible apply State.post_stored
  with_reducible assumption
  exact kf.sub rfl
  with_reducible apply State.post_stored
  with_reducible assumption
  exact kf.sub rfl
  with_reducible assumption
  with_reducible apply stored_ite
  with_reducible apply stored_ite
  with_reducible assumption
  with_reducible apply State.flag_stored
  with_reducible assumption
  exact kf.get rfl
  with_reducible assumption
  with_reducible apply State.post_stored
  with_reducible assumption
  exact kf.sub rfl
  with_reducible apply State.wr_stored
  with_reducible assumption
  exact kf.get rfl
  with_reducible apply stored_ite
  with_reducible apply State.updPwr_stored
  with_reducible assumption
  exact kf.sub rfl
  with_reducible assumption

theorem State.bootUpdate_stored {s : State} (hs : State.Stored q b s) (kf : b.free (postParts ++ [Part.boot])) :
    State.Stored q b (State.bootUpdate s) := by
  unfold State.bootUpdate
  with_reducible apply stored_ite
  with_reducible assumption
  with_reducible apply stored_ite
  with_reducible apply State.fallenBack_stored
  with_reducible assumption
  exact kf.sub rfl
  with_reducible apply stored_ite
  with_reducible apply State.setPhase_stored
  with_reducible apply State.updUpd_stored
  with_reducible assumption
  exact kf.sub rfl
  exact kf.sub rfl
  with_reducible assumption

theorem State.startHearth_stored {s : State} {k : Fin 2} (hs : State.Stored q b s) (kf : b.free [Part.reg RegGroup.hm, Part.mb, Part.boot]) :
    State.Stored q b (State.startHearth s k) := by
  unfold State.startHearth
  with_reducible apply State.put_stored
  with_reducible apply State.updMail_stored
  with_reducible apply State.showZver_stored
  with_reducible apply State.setRunsAll_stored
  with_reducible assumption
  exact kf.sub rfl
  exact kf.sub rfl
  exact kf.sub rfl
  exact kf.get rfl

theorem State.bootCalibration_stored {s : State} (hs : State.Stored q b s) (kf : b.free [Part.reg RegGroup.sdf, Part.reg RegGroup.ld, Part.filters]) :
    State.Stored q b (State.bootCalibration s) := by
  unfold State.bootCalibration
  extract_lets +onlyGivenNames x; clear_value x
  extract_lets +onlyGivenNames x; clear_value x
  extract_lets +onlyGivenNames x; refine (fun (hx : State.Stored q b x) => ?_) ?_ <;> [(try clear_value x); subst x]
  with_reducible apply stored_foldl
  intro _ _ _
  with_reducible apply stored_ite
  with_reducible apply State.wr_stored
  with_reducible assumption
  exact kf.get rfl
  with_reducible assumption
  with_reducible assumption
  with_reducible apply stored_foldl
  intro _ _ _
  extract_lets +onlyGivenNames x; clear_value x
  extract_lets +onlyGivenNames x; clear_value x
  extract_lets +onlyGivenNames x; clear_value x
  extract_lets +onlyGivenNames x; clear_value x
  extract_lets +onlyGivenNames x; refine (fun (hx : State.Stored q b x) => ?_) ?_ <;> [(try clear_value x); subst x]
  extract_lets +onlyGivenNames x; refine (fun (hx : State.Stored q b x) => ?_) ?_ <;> [(try clear_value x); subst x]
  extract_lets +onlyGivenNames x; clear_value x
  extract_lets +onlyGivenNames x; clear_value x
  with_reducible apply stored_ite
  with_reducible apply State.setFilter_stored
  with_reducible assumption
  exact kf.sub rfl
  with_reducible assumption
  with_reducible apply stored_ite
  with_reducible apply State.wr_stored
  with_reducible apply State.wr_stored
  with_reducible assumption
  exact kf.get rfl
  exact kf.get rfl
  with_reducible assumption
  with_reducible apply State.wr_stored
  with_reducible apply State.wr_stored
  with_reducible assumption
  exact kf.get rfl
  exact kf.get rfl
  with_reducible assumption

theorem State.bootSafety_stored {s : State} (hs : State.Stored q b s) (kf : b.free (postParts ++ [Part.reg RegGroup.port, Part.reg RegGroup.stp, Part.reg RegGroup.si, Part.ports, Part.axes, Part.si])) :
    State.Stored q b (State.bootSafety s) := by
  unfold State.bootSafety
  extract_lets +onlyGivenNames x; clear_value x
  extract_lets +onlyGivenNames x; subst x
  extract_lets +onlyGivenNames x; clear_value x
  extract_lets +onlyGivenNames x; refine (fun (hx : State.Stored q b x) => ?_) ?_ <;> [(try clear_value x); subst x]
  extract_lets +onlyGivenNames x; refine (fun (hx : State.Stored q b x) => ?_) ?_ <;> [(try clear_value x); subst x]
  with_reducible apply stored_foldl
  intro _ _ _
  with_reducible apply State.stoGroup_stored
  with_reducible assumption
  exact kf.sub rfl
  with_reducible assumption
  with_reducible apply stored_ite
  with_reducible apply State.siRecord_stored
  with_reducible apply State.flag_stored
  with_reducible assumption
  exact kf.get rfl
  exact kf.sub rfl
  with_reducible assumption
  with_reducible apply State.putB_stored
  with_reducible apply State.useSet_stored
  with_reducible assumption
  exact kf.sub rfl
  exact kf.get rfl

theorem State.routeHost_stored {s : State} {src : Fin 512} {v : Nat} (hs : State.Stored q b s) (kf : b.free [Part.reg RegGroup.ic]) :
    State.Stored q b (State.routeHost s src v) := by
  unfold State.routeHost
  with_reducible apply State.put_stored
  with_reducible apply State.put_stored
  with_reducible apply State.put_stored
  with_reducible assumption
  exact kf.get rfl
  exact kf.get rfl
  exact kf.get rfl

theorem State.bootRoutes_stored {s : State} (hs : State.Stored q b s) (kf : b.free [Part.reg RegGroup.ic]) :
    State.Stored q b (State.bootRoutes s) := by
  unfold State.bootRoutes
  with_reducible apply State.routeHost_stored
  with_reducible apply stored_foldl
  intro _ _ _
  with_reducible apply State.routeHost_stored
  with_reducible assumption
  exact kf.sub rfl
  with_reducible assumption
  exact kf.sub rfl

theorem State.bootEth_stored {s : State} (hs : State.Stored q b s) (kf : b.free [Part.reg RegGroup.eth]) :
    State.Stored q b (State.bootEth s) := by
  unfold State.bootEth
  extract_lets +onlyGivenNames x; clear_value x
  with_reducible apply stored_foldl
  intro _ _ _
  extract_lets +onlyGivenNames x; clear_value x
  extract_lets +onlyGivenNames x; clear_value x
  extract_lets +onlyGivenNames x; refine (fun (hx : State.Stored q b x) => ?_) ?_ <;> [(try clear_value x); subst x]
  with_reducible apply stored_foldl
  intro _ _ _
  with_reducible apply State.wr_stored
  with_reducible assumption
  exact kf.get rfl
  with_reducible assumption
  with_reducible apply State.wr_stored
  with_reducible apply State.wr_stored
  with_reducible apply State.wr_stored
  with_reducible assumption
  exact kf.get rfl
  exact kf.get rfl
  exact kf.get rfl
  with_reducible assumption

theorem State.bootRest_stored {s : State} (hs : State.Stored q b s) (kf : b.free (postParts ++ [Part.reg RegGroup.eth, Part.reg RegGroup.port, Part.reg RegGroup.sdf, Part.reg RegGroup.ld, Part.reg RegGroup.stp, Part.reg RegGroup.stk, Part.reg RegGroup.si, Part.ports, Part.axes, Part.filters, Part.si, Part.boot])) :
    State.Stored q b (State.bootRest s) := by
  unfold State.bootRest
  extract_lets +onlyGivenNames x; refine (fun (hx : State.Stored q b x) => ?_) ?_ <;> [(try clear_value x); subst x]
  with_reducible apply State.put_stored
  with_reducible apply State.bootEth_stored
  with_reducible apply State.bootRoutes_stored
  with_reducible apply State.bootSafety_stored
  with_reducible apply State.bootCalibration_stored
  with_reducible assumption
  exact kf.sub rfl
  exact kf.sub rfl
  exact kf.sub rfl
  exact kf.sub rfl
  exact kf.get rfl
  with_reducible apply stored_foldl
  intro _ _ _
  split
  with_reducible apply State.setRunsAll_stored
  with_reducible assumption
  exact kf.sub rfl
  with_reducible assumption
  with_reducible assumption

theorem execBoot_stored {s : State} (hs : State.Stored q b s) (kf : b.free (postParts ++ [Part.reg RegGroup.clk, Part.reg RegGroup.tb, Part.reg RegGroup.eth, Part.reg RegGroup.port, Part.reg RegGroup.sdf, Part.reg RegGroup.ld, Part.reg RegGroup.stp, Part.reg RegGroup.stk, Part.reg RegGroup.si, Part.reg RegGroup.ch, Part.reg RegGroup.otp, Part.fresh, Part.ident, Part.pwr, Part.ports, Part.axes, Part.filters, Part.si, Part.mb, Part.boot])) :
    answers (execBoot s) (State.Stored q b) := by
  unfold execBoot
  extract_lets +onlyGivenNames x; refine (fun (hx : State.Stored q b x) => ?_) ?_ <;> [(try clear_value x); subst x]
  extract_lets +onlyGivenNames x; refine (fun (hx : State.Stored q b x) => ?_) ?_ <;> [(try clear_value x); subst x]
  with_reducible apply answers_ite
  with_reducible apply answers_next
  with_reducible assumption
  with_reducible apply answers_ite
  with_reducible apply answers_next
  with_reducible apply State.recover_stored
  with_reducible assumption
  exact kf.sub rfl
  with_reducible apply answers_ite
  with_reducible apply answers_next
  with_reducible apply State.bootRest_stored
  with_reducible apply State.startWindow_stored
  with_reducible apply State.startHearth_stored
  with_reducible apply State.updUpd_stored
  with_reducible assumption
  exact kf.sub rfl
  exact kf.sub rfl
  exact kf.sub rfl
  exact kf.sub rfl
  split
  with_reducible apply answers_next
  with_reducible apply State.recover_stored
  with_reducible assumption
  exact kf.sub rfl
  with_reducible apply answers_next
  with_reducible apply State.bootRest_stored
  with_reducible apply State.startHearth_stored
  with_reducible assumption
  exact kf.sub rfl
  exact kf.sub rfl
  with_reducible apply State.bootUpdate_stored
  with_reducible assumption
  exact kf.sub rfl
  with_reducible apply State.updBoot_stored
  with_reducible apply State.bootLocket_stored
  with_reducible apply State.bootSettings_stored
  with_reducible assumption
  exact kf.sub rfl
  exact kf.sub rfl
  simp -zeta only
  simp -zeta only
  exact kf.sub rfl

theorem execIdentityCmd_stored {k : Fin 16} {aelilan : Bool} {s : State} (hs : State.Stored q b s) (kf : b.free [Part.mb]) :
    answers (execIdentityCmd k aelilan s) (State.Stored q b) := by
  unfold execIdentityCmd
  with_reducible apply answers_next
  with_reducible apply State.runCmd_stored
  with_reducible assumption
  intro _ _ _
  simp -zeta only
  with_reducible assumption
  exact kf.sub rfl

theorem execAttestationReport_stored {k : Fin 16} {nonce : List Byte} {s : State} (hs : State.Stored q b s) (kf : b.free [Part.mb]) :
    answers (execAttestationReport k nonce s) (State.Stored q b) := by
  unfold execAttestationReport
  with_reducible apply answers_next
  with_reducible apply State.runCmd_stored
  with_reducible assumption
  intro _ _ _
  extract_lets +onlyGivenNames x; clear_value x
  split
  simp -zeta only
  with_reducible assumption
  simp -zeta only
  with_reducible assumption
  exact kf.sub rfl

theorem execConfigWriteCmd_stored {k : Fin 16} {ws : List (Reg × Word)} {s : State} (hs : State.Stored q b s) (kf : b.free (regParts ++ [Part.now, Part.mem, Part.fresh, Part.seq, Part.time, Part.pulses, Part.lk, Part.evts, Part.ports, Part.axes, Part.sdclk, Part.fbs, Part.loops, Part.arms, Part.kiln, Part.tiles, Part.stk, Part.pc, Part.ic, Part.si, Part.eth, Part.chain, Part.mb, Part.boot])) :
    answers (execConfigWriteCmd k ws s) (State.Stored q b) := by
  unfold execConfigWriteCmd
  with_reducible apply answers_next
  with_reducible apply State.runCmd_stored
  with_reducible assumption
  intro _ _ _
  split
  with_reducible apply plain_stored
  with_reducible apply State.rawWrites_stored
  with_reducible assumption
  exact kf.sub rfl
  simp -zeta only
  with_reducible assumption
  exact kf.sub rfl

theorem execConfigReadCmd_stored {k : Fin 16} {rs : List Reg} {s : State} (hs : State.Stored q b s) (kf : b.free (regParts ++ [Part.fresh, Part.rdata, Part.caps, Part.evts, Part.kiln, Part.mb])) :
    answers (execConfigReadCmd k rs s) (State.Stored q b) := by
  unfold execConfigReadCmd
  simp -zeta only
  with_reducible apply answers_next
  with_reducible apply State.runCmd_stored
  with_reducible assumption
  intro _ _ _
  split
  simp -zeta only
  with_reducible apply State.cmdReads_stored
  with_reducible assumption
  exact kf.sub rfl
  simp -zeta only
  with_reducible assumption
  exact kf.sub rfl

theorem execSetInfo_stored {k : Fin 16} {s : State} (hs : State.Stored q b s) (kf : b.free (regParts ++ [Part.fresh, Part.rdata, Part.caps, Part.evts, Part.kiln, Part.mb])) :
    answers (execSetInfo k s) (State.Stored q b) := by
  unfold execSetInfo
  simp -zeta only
  with_reducible apply answers_next
  with_reducible apply State.runCmd_stored
  with_reducible assumption
  intro _ _ _
  simp -zeta only
  with_reducible apply State.cmdReads_stored
  with_reducible assumption
  exact kf.sub rfl
  exact kf.sub rfl

theorem execSetRead_stored {k : Fin 16} {s : State} (hs : State.Stored q b s) (kf : b.free [Part.mb]) :
    answers (execSetRead k s) (State.Stored q b) := by
  unfold execSetRead
  with_reducible apply answers_next
  with_reducible apply State.runCmd_stored
  with_reducible assumption
  intro _ _ _
  extract_lets +onlyGivenNames x; clear_value x
  split
  simp -zeta only
  with_reducible assumption
  split
  split
  simp -zeta only
  with_reducible assumption
  simp -zeta only
  with_reducible assumption
  simp -zeta only
  with_reducible assumption
  exact kf.sub rfl

theorem State.programGen_stored {s : State} {g : Fin 4} {ws : List Word} {bad : Option (Fin 448 × Word)} (hs : State.Stored q b s) (kf : b.free [Part.reg RegGroup.hm, Part.reg RegGroup.otp, Part.boot]) :
    State.Stored q b (State.programGen s g ws bad) := by
  unfold State.programGen
  with_reducible apply stored_foldl
  intro _ _ _
  with_reducible apply State.otpBurn_stored
  with_reducible assumption
  exact kf.sub rfl
  with_reducible assumption

theorem execSetWrite_stored {k : Fin 16} {bad : Option (Fin 448 × Word)} {s : State} (hs : State.Stored q b s) (kf : b.free [Part.reg RegGroup.hm, Part.reg RegGroup.otp, Part.mb, Part.boot]) :
    answers (execSetWrite k bad s) (State.Stored q b) := by
  unfold execSetWrite
  simp -zeta only
  with_reducible apply answers_next
  with_reducible apply State.runCmd_stored
  with_reducible assumption
  intro _ _ _
  extract_lets +onlyGivenNames x; clear_value x
  split
  simp -zeta only
  with_reducible assumption
  extract_lets +onlyGivenNames x; refine (fun (hx : State.Stored q b x) => ?_) ?_ <;> [(try clear_value x); subst x]
  extract_lets +onlyGivenNames x; clear_value x
  split
  simp -zeta only
  with_reducible assumption
  split
  simp -zeta only
  with_reducible assumption
  split
  simp -zeta only
  with_reducible assumption
  simp -zeta only
  with_reducible assumption
  with_reducible apply State.programGen_stored
  with_reducible assumption
  exact kf.sub rfl
  exact kf.sub rfl

theorem State.burnAll_stored {s : State} {a : Nat} {ws : List Word} (hs : State.Stored q b s) (kf : b.free [Part.reg RegGroup.hm, Part.reg RegGroup.otp, Part.boot]) :
    State.Stored q b (State.burnAll s a ws) := by
  unfold State.burnAll
  with_reducible apply stored_foldl
  intro _ _ _
  with_reducible apply State.otpBurn_stored
  with_reducible assumption
  exact kf.sub rfl
  with_reducible assumption

theorem State.burnBits_stored {s : State} {a : Nat} {w : Word} (hs : State.Stored q b s) (kf : b.free [Part.reg RegGroup.hm, Part.reg RegGroup.otp, Part.boot]) :
    State.Stored q b (State.burnBits s a w) := by
  unfold State.burnBits
  with_reducible apply State.burnAll_stored
  with_reducible assumption
  exact kf.sub rfl

theorem execKeyProgram_stored {k : Fin 16} {slot : Fin 4} {key : List Byte} {s : State} (hs : State.Stored q b s) (kf : b.free [Part.reg RegGroup.hm, Part.reg RegGroup.otp, Part.mb, Part.boot]) :
    answers (execKeyProgram k slot key s) (State.Stored q b) := by
  unfold execKeyProgram
  extract_lets +onlyGivenNames x; clear_value x
  extract_lets +onlyGivenNames x; clear_value x
  with_reducible apply answers_next
  with_reducible apply State.runCmd_stored
  with_reducible assumption
  intro _ _ _
  split
  simp -zeta only
  with_reducible assumption
  split
  simp -zeta only
  with_reducible assumption
  split
  simp -zeta only
  with_reducible assumption
  simp -zeta only
  with_reducible apply State.burnBits_stored
  with_reducible apply State.burnAll_stored
  with_reducible assumption
  exact kf.sub rfl
  exact kf.sub rfl
  exact kf.sub rfl

theorem execKeyRevoke_stored {k : Fin 16} {vendor : Bool} {slot : Fin 4} {signer : Fin 4} {sig : List Byte} {s : State} (hs : State.Stored q b s) (kf : b.free [Part.reg RegGroup.hm, Part.reg RegGroup.otp, Part.mb, Part.boot]) :
    answers (execKeyRevoke k vendor slot signer sig s) (State.Stored q b) := by
  unfold execKeyRevoke
  with_reducible apply answers_next
  with_reducible apply State.runCmd_stored
  with_reducible assumption
  intro _ _ _
  extract_lets +onlyGivenNames x; clear_value x
  extract_lets +onlyGivenNames x; clear_value x
  extract_lets +onlyGivenNames x; refine (fun (hx : State.Stored q b x) => ?_) ?_ <;> [(try clear_value x); subst x]
  extract_lets +onlyGivenNames x; clear_value x
  split
  simp -zeta only
  with_reducible assumption
  split
  simp -zeta only
  with_reducible assumption
  split
  simp -zeta only
  with_reducible assumption
  split
  simp -zeta only
  with_reducible assumption
  simp -zeta only
  with_reducible assumption
  with_reducible apply State.burnBits_stored
  with_reducible assumption
  exact kf.sub rfl
  exact kf.sub rfl

theorem execSeal_stored {k : Fin 16} {s : State} (hs : State.Stored q b s) (kf : b.free [Part.reg RegGroup.hm, Part.reg RegGroup.otp, Part.mb, Part.boot]) :
    answers (execSeal k s) (State.Stored q b) := by
  unfold execSeal
  with_reducible apply answers_next
  with_reducible apply State.runCmd_stored
  with_reducible assumption
  intro _ _ _
  split
  simp -zeta only
  with_reducible assumption
  split
  simp -zeta only
  with_reducible assumption
  simp -zeta only
  with_reducible apply State.burnBits_stored
  with_reducible assumption
  exact kf.sub rfl
  exact kf.sub rfl

theorem execPlacementTaskCmd_stored {k : Fin 16} {n : Fin 4096} {op : Fin 6} {d : List Word} {s : State} (hs : State.Stored q b s) (kf : b.free (regParts ++ [Part.now, Part.mem, Part.fresh, Part.seq, Part.time, Part.pulses, Part.lk, Part.evts, Part.ports, Part.axes, Part.sdclk, Part.fbs, Part.loops, Part.arms, Part.kiln, Part.tiles, Part.stk, Part.pc, Part.ic, Part.si, Part.eth, Part.chain, Part.mb, Part.boot])) :
    answers (execPlacementTaskCmd k n op d s) (State.Stored q b) := by
  unfold execPlacementTaskCmd
  with_reducible apply answers_next
  with_reducible apply State.runCmd_stored
  with_reducible assumption
  intro _ _ _
  extract_lets +onlyGivenNames x; refine (fun (hx : State.Stored q b x) => ?_) ?_ <;> [(try clear_value x); subst x]
  extract_lets +onlyGivenNames x; refine (fun (hx : State.Stored q b x) => ?_) ?_ <;> [(try clear_value x); subst x]
  split
  simp -zeta only
  with_reducible assumption
  split
  simp -zeta only
  with_reducible apply State.flag_stored
  with_reducible assumption
  exact kf.get rfl
  simp -zeta only
  with_reducible assumption
  with_reducible apply State.busWrite_stored
  with_reducible assumption
  exact kf.sub rfl
  with_reducible apply stored_ite
  with_reducible apply stored_foldl
  intro _ _ _
  with_reducible apply State.wr_stored
  with_reducible assumption
  exact kf.get rfl
  with_reducible assumption
  with_reducible assumption
  exact kf.sub rfl

theorem execPlacementBufferCmd_stored {k : Fin 16} {h : Fin 8192} {op : Fin 4} {d : List Word} {s : State} (hs : State.Stored q b s) (kf : b.free (regParts ++ [Part.now, Part.mem, Part.fresh, Part.seq, Part.time, Part.pulses, Part.lk, Part.evts, Part.ports, Part.axes, Part.sdclk, Part.fbs, Part.loops, Part.arms, Part.kiln, Part.tiles, Part.stk, Part.pc, Part.ic, Part.si, Part.eth, Part.chain, Part.mb, Part.boot])) :
    answers (execPlacementBufferCmd k h op d s) (State.Stored q b) := by
  unfold execPlacementBufferCmd
  with_reducible apply answers_next
  with_reducible apply State.runCmd_stored
  with_reducible assumption
  intro _ _ _
  extract_lets +onlyGivenNames x; refine (fun (hx : State.Stored q b x) => ?_) ?_ <;> [(try clear_value x); subst x]
  extract_lets +onlyGivenNames x; refine (fun (hx : State.Stored q b x) => ?_) ?_ <;> [(try clear_value x); subst x]
  split
  simp -zeta only
  with_reducible assumption
  split
  simp -zeta only
  with_reducible apply State.flag_stored
  with_reducible assumption
  exact kf.get rfl
  simp -zeta only
  with_reducible assumption
  with_reducible apply State.busWrite_stored
  with_reducible assumption
  exact kf.sub rfl
  with_reducible apply stored_ite
  with_reducible apply stored_foldl
  intro _ _ _
  with_reducible apply State.wr_stored
  with_reducible assumption
  exact kf.get rfl
  with_reducible assumption
  with_reducible assumption
  exact kf.sub rfl

theorem execPlacementRebalCmd_stored {k : Fin 16} {rebal : Bool} {freeze : Bool} {s : State} (hs : State.Stored q b s) (kf : b.free (regParts ++ [Part.now, Part.mem, Part.fresh, Part.seq, Part.time, Part.pulses, Part.lk, Part.evts, Part.ports, Part.axes, Part.sdclk, Part.fbs, Part.loops, Part.arms, Part.kiln, Part.tiles, Part.stk, Part.pc, Part.ic, Part.si, Part.eth, Part.chain, Part.mb, Part.boot])) :
    answers (execPlacementRebalCmd k rebal freeze s) (State.Stored q b) := by
  unfold execPlacementRebalCmd
  with_reducible apply answers_next
  with_reducible apply State.runCmd_stored
  with_reducible assumption
  intro _ _ _
  with_reducible apply plain_stored
  with_reducible apply State.cmdWrite_stored
  with_reducible assumption
  exact kf.sub rfl
  exact kf.sub rfl

theorem State.readResponse_stored {s : State} {o : Option State} (hs : State.Stored q b s) (kf : b.free [Part.rdata])
  (ho : ∀ t, o = some t → State.Stored q b t) :
    State.Stored q b (s.readResponse o).1 := by
  cases o with
  | none => exact hs
  | some t => exact State.answer_stored (ho t rfl) (kf.sub rfl)

theorem State.writeResponse_stored {s : State} {r : Option Reg} {v : Word} {o : Option State} (hs : State.Stored q b s) (kf : b.free (regParts ++ [Part.now, Part.mem, Part.fresh, Part.seq, Part.time, Part.pulses, Part.lk, Part.evts, Part.ports, Part.axes, Part.sdclk, Part.fbs, Part.loops, Part.arms, Part.kiln, Part.tiles, Part.stk, Part.pc, Part.ic, Part.si, Part.eth, Part.chain, Part.mb, Part.boot]))
  (ho : ∀ t, o = some t → State.Stored q b t) :
    State.Stored q b (s.writeResponse r v o).1 := by
  cases r with
  | some r => exact plain_stored (State.rawWrite_stored hs (kf.sub rfl))
  | none =>
    cases o with
    | none => exact hs
    | some t => exact ho t rfl

theorem execRegReadCmd_stored {k : Fin 16} {a : A40} {s : State} (hs : State.Stored q b s) (kf : b.free (regParts ++ [Part.fresh, Part.rdata, Part.caps, Part.evts, Part.kiln, Part.mb])) :
    answers (execRegReadCmd k a s) (State.Stored q b) := by
  unfold execRegReadCmd
  with_reducible apply answers_next
  with_reducible apply State.runCmd_stored
  with_reducible assumption
  intro _ _ _
  split
  simp -zeta only
  with_reducible assumption
  with_reducible apply State.readResponse_stored
  with_reducible assumption
  exact kf.sub rfl
  with_reducible refine opt_guard ?_; with_reducible apply State.fabricRead_stored
  with_reducible assumption
  exact kf.sub rfl
  exact kf.sub rfl

theorem execRegWriteCmd_stored {k : Fin 16} {a : A40} {v : Word} {s : State} (hs : State.Stored q b s) (kf : b.free (regParts ++ [Part.now, Part.mem, Part.fresh, Part.seq, Part.time, Part.pulses, Part.lk, Part.evts, Part.ports, Part.axes, Part.sdclk, Part.fbs, Part.loops, Part.arms, Part.kiln, Part.tiles, Part.stk, Part.pc, Part.ic, Part.si, Part.eth, Part.chain, Part.mb, Part.boot])) :
    answers (execRegWriteCmd k a v s) (State.Stored q b) := by
  unfold execRegWriteCmd
  with_reducible apply answers_next
  with_reducible apply State.runCmd_stored
  with_reducible assumption
  intro _ _ _
  split
  simp -zeta only
  with_reducible assumption
  with_reducible apply State.writeResponse_stored
  with_reducible assumption
  exact kf.sub rfl
  with_reducible refine opt_guard ?_; with_reducible apply State.fabricWrite_stored
  with_reducible assumption
  exact kf.sub rfl
  exact kf.sub rfl

theorem execChainScheduleCmd_stored {k : Fin 16} {o : Nat} {bytes : List Byte} {s : State} (hs : State.Stored q b s) (kf : b.free (regParts ++ [Part.mem, Part.mb])) :
    answers (execChainScheduleCmd k o bytes s) (State.Stored q b) := by
  unfold execChainScheduleCmd
  with_reducible apply answers_next
  with_reducible apply State.runCmd_stored
  with_reducible assumption
  intro _ _ _
  split
  simp -zeta only
  with_reducible assumption
  split
  simp -zeta only
  with_reducible refine stored_of_pair (by with_reducible assumption) ?_
  with_reducible apply State.watch_stored
  with_reducible assumption
  intro _ _
  with_reducible apply State.schedWrite_stored
  with_reducible assumption
  exact kf.sub rfl
  exact kf.sub rfl
  simp -zeta only
  with_reducible refine stored_of_pair (by with_reducible assumption) ?_
  with_reducible apply State.watch_stored
  with_reducible assumption
  intro _ _
  with_reducible apply State.schedWrite_stored
  with_reducible assumption
  exact kf.sub rfl
  exact kf.sub rfl
  exact kf.sub rfl

theorem execChainCtrlCmd_stored {k : Fin 16} {v : Word} {s : State} (hs : State.Stored q b s) (kf : b.free (regParts ++ [Part.now, Part.mem, Part.fresh, Part.seq, Part.time, Part.pulses, Part.lk, Part.evts, Part.ports, Part.axes, Part.sdclk, Part.fbs, Part.loops, Part.arms, Part.kiln, Part.tiles, Part.stk, Part.pc, Part.ic, Part.si, Part.eth, Part.chain, Part.mb, Part.boot])) :
    answers (execChainCtrlCmd k v s) (State.Stored q b) := by
  unfold execChainCtrlCmd
  with_reducible apply answers_next
  with_reducible apply State.runCmd_stored
  with_reducible assumption
  intro _ _ _
  with_reducible apply plain_stored
  with_reducible apply State.cmdWrite_stored
  with_reducible assumption
  exact kf.sub rfl
  exact kf.sub rfl

theorem execClaspMapCmd_stored {k : Fin 16} {x : Fin 2} {v : Word} {s : State} (hs : State.Stored q b s) (kf : b.free (regParts ++ [Part.now, Part.mem, Part.fresh, Part.seq, Part.time, Part.pulses, Part.lk, Part.evts, Part.ports, Part.axes, Part.sdclk, Part.fbs, Part.loops, Part.arms, Part.kiln, Part.tiles, Part.stk, Part.pc, Part.ic, Part.si, Part.eth, Part.chain, Part.mb, Part.boot])) :
    answers (execClaspMapCmd k x v s) (State.Stored q b) := by
  unfold execClaspMapCmd
  with_reducible apply answers_next
  with_reducible apply State.runCmd_stored
  with_reducible assumption
  intro _ _ _
  split
  simp -zeta only
  with_reducible assumption
  with_reducible apply plain_stored
  with_reducible apply State.cmdWrite_stored
  with_reducible assumption
  exact kf.sub rfl
  exact kf.sub rfl

theorem execKilnPostCmd_stored {k : Fin 16} {n : Fin 4096} {s : State} (hs : State.Stored q b s) (kf : b.free (postParts ++ [Part.reg RegGroup.stk, Part.stk, Part.mb])) :
    answers (execKilnPostCmd k n s) (State.Stored q b) := by
  unfold execKilnPostCmd
  with_reducible apply answers_next
  with_reducible apply State.runCmd_stored
  with_reducible assumption
  intro _ _ _
  split
  simp -zeta only
  with_reducible assumption
  split
  simp -zeta only
  with_reducible assumption
  simp -zeta only
  with_reducible apply State.stkRelease_stored
  with_reducible assumption
  exact kf.sub rfl
  exact kf.sub rfl

theorem execKilnResultCmd_stored {k : Fin 16} {c : Fin 16} {o : Nat} {n : Nat} {s : State} (hs : State.Stored q b s) (kf : b.free [Part.mb]) :
    answers (execKilnResultCmd k c o n s) (State.Stored q b) := by
  unfold execKilnResultCmd
  with_reducible apply answers_next
  with_reducible apply State.runCmd_stored
  with_reducible assumption
  intro _ _ _
  extract_lets +onlyGivenNames x; clear_value x
  split
  split
  simp -zeta only
  with_reducible assumption
  simp -zeta only
  with_reducible assumption
  extract_lets +onlyGivenNames x; clear_value x
  split
  simp -zeta only
  with_reducible assumption
  simp -zeta only
  with_reducible assumption
  exact kf.sub rfl

theorem State.timeGet_stored {s : State} (hs : State.Stored q b s) (kf : b.free (regParts ++ [Part.fresh, Part.rdata, Part.caps, Part.evts, Part.kiln, Part.mb])) :
    State.Stored q b (State.timeGet s).1 := by
  unfold State.timeGet
  simp -zeta only
  with_reducible apply State.cmdReads_stored
  with_reducible assumption
  exact kf.sub rfl

theorem execTimeGet_stored {k : Fin 16} {s : State} (hs : State.Stored q b s) (kf : b.free (regParts ++ [Part.fresh, Part.rdata, Part.caps, Part.evts, Part.kiln, Part.mb])) :
    answers (execTimeGet k s) (State.Stored q b) := by
  unfold execTimeGet
  with_reducible apply answers_next
  with_reducible apply State.runCmd_stored
  with_reducible assumption
  intro _ _ _
  with_reducible apply State.timeGet_stored
  with_reducible assumption
  exact kf.sub rfl
  exact kf.sub rfl

theorem execTimeSet_stored {k : Fin 16} {s : State} (hs : State.Stored q b s) (kf : b.free [Part.reg RegGroup.tb, Part.time, Part.mb]) :
    answers (execTimeSet k s) (State.Stored q b) := by
  have k_time : b.keep .time = false := kf.get rfl
  unfold execTimeSet
  with_reducible apply answers_next
  with_reducible apply State.runCmd_stored
  with_reducible assumption
  intro _ _ _
  extract_lets +onlyGivenNames x; clear_value x
  split
  simp -zeta only
  with_reducible assumption
  split
  simp -zeta only [stored_mk, k_time, or_true, true_or]
  with_reducible assumption
  simp -zeta only
  with_reducible apply State.flag_stored
  with_reducible assumption
  exact kf.get rfl
  exact kf.sub rfl

theorem execTimeSource_stored {k : Fin 16} {s : State} (hs : State.Stored q b s) (kf : b.free (regParts ++ [Part.now, Part.mem, Part.fresh, Part.seq, Part.time, Part.pulses, Part.lk, Part.evts, Part.ports, Part.axes, Part.sdclk, Part.fbs, Part.loops, Part.arms, Part.kiln, Part.tiles, Part.stk, Part.pc, Part.ic, Part.si, Part.eth, Part.chain, Part.mb, Part.boot])) :
    answers (execTimeSource k s) (State.Stored q b) := by
  unfold execTimeSource
  with_reducible apply answers_next
  with_reducible apply State.runCmd_stored
  with_reducible assumption
  intro _ _ _
  with_reducible apply plain_stored
  with_reducible apply State.cmdWrite_stored
  with_reducible assumption
  exact kf.sub rfl
  exact kf.sub rfl

theorem execTimeRestart_stored {k : Fin 16} {s : State} (hs : State.Stored q b s) (kf : b.free (postParts ++ [Part.reg RegGroup.tb, Part.time, Part.chain, Part.mb])) :
    answers (execTimeRestart k s) (State.Stored q b) := by
  have k_chain : b.keep .chain = false := kf.get rfl
  have k_time : b.keep .time = false := kf.get rfl
  unfold execTimeRestart
  with_reducible apply answers_next
  with_reducible apply State.runCmd_stored
  with_reducible assumption
  intro _ _ _
  extract_lets +onlyGivenNames x; clear_value x
  extract_lets +onlyGivenNames x; refine (fun (hx : State.Stored q b x) => ?_) ?_ <;> [(try clear_value x); subst x]
  extract_lets +onlyGivenNames x; refine (fun (hx : State.Stored q b x) => ?_) ?_ <;> [(try clear_value x); subst x]
  extract_lets +onlyGivenNames x; clear_value x
  extract_lets +onlyGivenNames x; refine (fun (hx : State.Stored q b x) => ?_) ?_ <;> [(try clear_value x); subst x]
  split
  simp -zeta only
  with_reducible apply State.flag_stored
  with_reducible assumption
  exact kf.get rfl
  simp -zeta only
  with_reducible apply State.post_stored
  with_reducible assumption
  exact kf.sub rfl
  simp -zeta only [stored_mk, k_chain, k_time, or_true, true_or]
  with_reducible assumption
  with_reducible apply State.bumpField_stored
  with_reducible apply State.put_stored
  with_reducible assumption
  exact kf.get rfl
  exact kf.get rfl
  simp -zeta only [stored_mk, k_chain, k_time, or_true, true_or]
  with_reducible assumption
  exact kf.sub rfl

theorem execTimeRate_stored {k : Fin 16} {s : State} (hs : State.Stored q b s) (kf : b.free (regParts ++ [Part.now, Part.mem, Part.fresh, Part.seq, Part.time, Part.pulses, Part.lk, Part.evts, Part.ports, Part.axes, Part.sdclk, Part.fbs, Part.loops, Part.arms, Part.kiln, Part.tiles, Part.stk, Part.pc, Part.ic, Part.si, Part.eth, Part.chain, Part.mb, Part.boot])) :
    answers (execTimeRate k s) (State.Stored q b) := by
  unfold execTimeRate
  with_reducible apply answers_next
  with_reducible apply State.runCmd_stored
  with_reducible assumption
  intro _ _ _
  with_reducible apply plain_stored
  with_reducible apply State.cmdWriteAs_stored
  with_reducible assumption
  exact kf.sub rfl
  exact kf.sub rfl

theorem execPortComp_stored {k : Fin 16} {s : State} (hs : State.Stored q b s) (kf : b.free (regParts ++ [Part.now, Part.mem, Part.fresh, Part.seq, Part.time, Part.pulses, Part.lk, Part.evts, Part.ports, Part.axes, Part.sdclk, Part.fbs, Part.loops, Part.arms, Part.kiln, Part.tiles, Part.stk, Part.pc, Part.ic, Part.si, Part.eth, Part.chain, Part.mb, Part.boot])) :
    answers (execPortComp k s) (State.Stored q b) := by
  unfold execPortComp
  with_reducible apply answers_next
  with_reducible apply State.runCmd_stored
  with_reducible assumption
  intro _ _ _
  extract_lets +onlyGivenNames x; clear_value x
  split
  simp -zeta only
  with_reducible assumption
  with_reducible apply plain_stored
  with_reducible apply State.cmdWrites_stored
  with_reducible assumption
  exact kf.sub rfl
  exact kf.sub rfl

theorem execPulseSched_stored {k : Fin 16} {s : State} (hs : State.Stored q b s) (kf : b.free (regParts ++ [Part.now, Part.mem, Part.fresh, Part.rdata, Part.seq, Part.time, Part.caps, Part.pulses, Part.lk, Part.evts, Part.ports, Part.axes, Part.sdclk, Part.fbs, Part.loops, Part.arms, Part.kiln, Part.tiles, Part.stk, Part.pc, Part.ic, Part.si, Part.eth, Part.chain, Part.mb, Part.boot])) :
    answers (execPulseSched k s) (State.Stored q b) := by
  unfold execPulseSched
  simp -zeta only
  with_reducible apply answers_next
  with_reducible apply State.runCmd_stored
  with_reducible assumption
  intro _ _ _
  extract_lets +onlyGivenNames x; clear_value x
  extract_lets +onlyGivenNames x; clear_value x
  split
  simp -zeta only
  with_reducible assumption
  split
  split
  simp -zeta only
  with_reducible refine stored_of_pair (by with_reducible assumption) ?_
  with_reducible apply State.watch_stored
  with_reducible refine stored_of_pair (by with_reducible assumption) ?_
  with_reducible apply State.cmdWrites_stored
  with_reducible assumption
  exact kf.sub rfl
  intro _ _
  with_reducible apply State.busWrite_stored
  with_reducible assumption
  exact kf.sub rfl
  exact kf.sub rfl
  split
  simp -zeta only
  with_reducible refine stored_of_pair (by with_reducible assumption) ?_
  with_reducible apply State.watch_stored
  with_reducible refine stored_of_pair (by with_reducible assumption) ?_
  with_reducible apply State.watch_stored
  with_reducible refine stored_of_pair (by with_reducible assumption) ?_
  with_reducible apply State.cmdWrites_stored
  with_reducible assumption
  exact kf.sub rfl
  intro _ _
  with_reducible apply State.busWrite_stored
  with_reducible assumption
  exact kf.sub rfl
  exact kf.sub rfl
  intro _ _
  with_reducible apply State.busWrite_stored
  with_reducible assumption
  exact kf.sub rfl
  exact kf.sub rfl
  simp -zeta only
  with_reducible apply State.cmdReads_stored
  with_reducible refine stored_of_pair (by with_reducible assumption) ?_
  with_reducible apply State.watch_stored
  with_reducible refine stored_of_pair (by with_reducible assumption) ?_
  with_reducible apply State.watch_stored
  with_reducible refine stored_of_pair (by with_reducible assumption) ?_
  with_reducible apply State.cmdWrites_stored
  with_reducible assumption
  exact kf.sub rfl
  intro _ _
  with_reducible apply State.busWrite_stored
  with_reducible assumption
  exact kf.sub rfl
  exact kf.sub rfl
  intro _ _
  with_reducible apply State.busWrite_stored
  with_reducible assumption
  exact kf.sub rfl
  exact kf.sub rfl
  exact kf.sub rfl
  simp -zeta only
  with_reducible refine stored_of_pair (by with_reducible assumption) ?_
  with_reducible apply State.cmdWrites_stored
  with_reducible assumption
  exact kf.sub rfl
  exact kf.sub rfl

theorem execCaptureCfg_stored {k : Fin 16} {s : State} (hs : State.Stored q b s) (kf : b.free (regParts ++ [Part.now, Part.mem, Part.fresh, Part.seq, Part.time, Part.pulses, Part.lk, Part.evts, Part.ports, Part.axes, Part.sdclk, Part.fbs, Part.loops, Part.arms, Part.kiln, Part.tiles, Part.stk, Part.pc, Part.ic, Part.si, Part.eth, Part.chain, Part.mb, Part.boot])) :
    answers (execCaptureCfg k s) (State.Stored q b) := by
  unfold execCaptureCfg
  with_reducible apply answers_next
  with_reducible apply State.runCmd_stored
  with_reducible assumption
  intro _ _ _
  split
  simp -zeta only
  with_reducible assumption
  with_reducible apply plain_stored
  with_reducible apply State.cmdWrite_stored
  with_reducible assumption
  exact kf.sub rfl
  exact kf.sub rfl

theorem execCaptureRead_stored {k : Fin 16} {s : State} (hs : State.Stored q b s) (kf : b.free [Part.caps, Part.mb]) :
    answers (execCaptureRead k s) (State.Stored q b) := by
  have k_caps : b.keep .caps = false := kf.get rfl
  unfold execCaptureRead
  with_reducible apply answers_next
  with_reducible apply State.runCmd_stored
  with_reducible assumption
  intro _ _ _
  extract_lets +onlyGivenNames x; clear_value x
  extract_lets +onlyGivenNames x; clear_value x
  extract_lets +onlyGivenNames x; clear_value x
  split
  simp -zeta only
  with_reducible assumption
  simp -zeta only [stored_mk, k_caps, or_true, true_or]
  with_reducible assumption
  exact kf.sub rfl

theorem execLktRead_stored {k : Fin 16} {s : State} (hs : State.Stored q b s) (kf : b.free [Part.mb]) :
    answers (execLktRead k s) (State.Stored q b) := by
  unfold execLktRead
  with_reducible apply answers_next
  with_reducible apply State.runCmd_stored
  with_reducible assumption
  intro _ _ _
  extract_lets +onlyGivenNames x; clear_value x
  extract_lets +onlyGivenNames x; clear_value x
  extract_lets +onlyGivenNames x; clear_value x
  split
  simp -zeta only
  with_reducible assumption
  simp -zeta only
  with_reducible assumption
  exact kf.sub rfl

theorem execLktInfo_stored {k : Fin 16} {s : State} (hs : State.Stored q b s) (kf : b.free [Part.mb]) :
    answers (execLktInfo k s) (State.Stored q b) := by
  unfold execLktInfo
  with_reducible apply answers_next
  with_reducible apply State.runCmd_stored
  with_reducible assumption
  intro _ _ _
  simp -zeta only
  with_reducible assumption
  exact kf.sub rfl

theorem execLktFlush_stored {k : Fin 16} {s : State} (hs : State.Stored q b s) (kf : b.free [Part.reg RegGroup.lk, Part.lk, Part.mb]) :
    answers (execLktFlush k s) (State.Stored q b) := by
  unfold execLktFlush
  with_reducible apply answers_next
  with_reducible apply State.runCmd_stored
  with_reducible assumption
  intro _ _ _
  simp -zeta only
  with_reducible apply State.startFlush_stored
  with_reducible assumption
  exact kf.sub rfl
  exact kf.sub rfl

theorem execLktFilter_stored {k : Fin 16} {s : State} (hs : State.Stored q b s) (kf : b.free [Part.lk, Part.mb]) :
    answers (execLktFilter k s) (State.Stored q b) := by
  have k_lk : b.keep .lk = false := kf.get rfl
  unfold execLktFilter
  with_reducible apply answers_next
  with_reducible apply State.runCmd_stored
  with_reducible assumption
  intro _ _ _
  extract_lets +onlyGivenNames x; clear_value x
  extract_lets +onlyGivenNames x; clear_value x
  split
  simp -zeta only
  with_reducible assumption
  simp -zeta only [stored_mk, k_lk, or_true, true_or]
  with_reducible assumption
  exact kf.sub rfl

theorem execLktMark_stored {k : Fin 16} {s : State} (hs : State.Stored q b s) (kf : b.free (postParts ++ [Part.fresh, Part.mb])) :
    answers (execLktMark k s) (State.Stored q b) := by
  unfold execLktMark
  with_reducible apply answers_next
  with_reducible apply State.runCmd_stored
  with_reducible assumption
  intro _ _ _
  extract_lets +onlyGivenNames x; refine (fun (hx : State.Stored q b x) => ?_) ?_ <;> [(try clear_value x); subst x]
  extract_lets +onlyGivenNames x; clear_value x
  split
  simp -zeta only
  with_reducible apply State.useFresh_stored
  extract_lets +onlyGivenNames x; subst x
  with_reducible assumption
  exact kf.sub rfl
  simp -zeta only
  with_reducible assumption
  with_reducible apply State.post_stored
  with_reducible assumption
  exact kf.sub rfl
  exact kf.sub rfl

theorem execHci1Post_stored {s : State} (hs : State.Stored q b s) (kf : b.free [Part.reg RegGroup.hm, Part.mb]) :
    answers (execHci1Post s) (State.Stored q b) := by
  unfold execHci1Post
  with_reducible apply answers_next
  with_reducible apply State.postSlot_stored
  with_reducible assumption
  exact kf.sub rfl

theorem execHci1Free_stored {s : State} (hs : State.Stored q b s) (kf : b.free [Part.reg RegGroup.ic, Part.reg RegGroup.hm, Part.mb]) :
    answers (execHci1Free s) (State.Stored q b) := by
  unfold execHci1Free
  with_reducible apply answers_next
  with_reducible apply State.freeSlot_stored
  with_reducible assumption
  exact kf.sub rfl

theorem State.hqWord_stored {s : State} {w : Nat} (hs : State.Stored q b s) (kf : b.free [Part.reg RegGroup.ic, Part.reg RegGroup.hm, Part.rdata, Part.evts, Part.mb]) :
    State.Stored q b (State.hqWord s w).1 := by
  unfold State.hqWord
  extract_lets +onlyGivenNames x; refine (fun (hx : State.Stored q b x) => ?_) ?_ <;> [(try clear_value x); subst x]
  extract_lets +onlyGivenNames x; clear_value x
  extract_lets +onlyGivenNames x; clear_value x
  split
  simp -zeta only
  with_reducible assumption
  split
  simp -zeta only
  with_reducible assumption
  split
  simp -zeta only
  with_reducible assumption
  split
  simp -zeta only
  with_reducible assumption
  split
  simp -zeta only
  with_reducible apply stored_ite
  with_reducible apply State.statRead_stored
  with_reducible assumption
  exact kf.sub rfl
  with_reducible assumption
  simp -zeta only
  with_reducible assumption
  with_reducible apply State.eventRead_stored
  with_reducible assumption
  exact kf.sub rfl

theorem State.hqWords_stored {s : State} {l : List Nat} (hs : State.Stored q b s) (kf :
    b.free [Part.reg RegGroup.ic, Part.reg RegGroup.hm, Part.rdata, Part.evts, Part.mb]) :
  State.Stored q b (State.hqWords s l).1 := by
  induction l generalizing s with
  | nil => exact hs
  | cons w l ih => exact ih (State.hqWord_stored hs (kf.sub rfl))

theorem execQspiRead_stored {w : BitVec 16} {n : Nat} {s : State} (hs : State.Stored q b s) (kf : b.free [Part.reg RegGroup.ic, Part.reg RegGroup.hm, Part.rdata, Part.evts, Part.mb]) :
    answers (execQspiRead w n s) (State.Stored q b) := by
  unfold execQspiRead
  simp -zeta only
  with_reducible apply answers_ite
  with_reducible apply answers_next
  with_reducible apply State.answer_stored
  with_reducible apply State.hqWords_stored
  with_reducible assumption
  exact kf.sub rfl
  exact kf.sub rfl
  with_reducible apply answers_next
  with_reducible assumption

theorem State.hqWrite_stored {s : State} {w : Nat} {v : BitVec 16} (hs : State.Stored q b s) (kf : b.free [Part.reg RegGroup.ic, Part.reg RegGroup.hm, Part.mb]) :
    State.Stored q b (State.hqWrite s w v) := by
  unfold State.hqWrite
  with_reducible apply stored_ite
  with_reducible apply stored_ite
  with_reducible apply State.postSlot_stored
  with_reducible assumption
  exact kf.sub rfl
  with_reducible apply stored_ite
  with_reducible apply State.freeSlot_stored
  with_reducible assumption
  exact kf.sub rfl
  with_reducible assumption
  with_reducible apply stored_ite
  with_reducible apply State.slotWrite_stored
  with_reducible assumption
  exact kf.sub rfl
  with_reducible assumption

theorem execQspiWrite_stored {w : BitVec 16} {ws : List (BitVec 16)} {s : State} (hs : State.Stored q b s) (kf : b.free [Part.reg RegGroup.ic, Part.reg RegGroup.hm, Part.mb]) :
    answers (execQspiWrite w ws s) (State.Stored q b) := by
  unfold execQspiWrite
  with_reducible apply answers_next
  with_reducible apply stored_ite
  with_reducible apply stored_foldl
  intro _ _ _
  with_reducible apply State.hqWrite_stored
  with_reducible assumption
  exact kf.sub rfl
  with_reducible assumption
  with_reducible assumption

theorem State.runMx_stored {s : State} {op : Nat} {f : State → MbSlot → State × Nat × List Byte} (hs : State.Stored q b s) (hf : ∀ s y0, State.Stored q b s → State.Stored q b (f s y0).1) (kf : b.free [Part.mb]) :
    State.Stored q b (State.runMx s op f) := by
  unfold State.runMx
  extract_lets +onlyGivenNames x; clear_value x
  simp -zeta only
  with_reducible apply stored_ite
  with_reducible apply State.setOut_stored
  with_reducible apply hf
  with_reducible assumption
  exact kf.sub rfl
  with_reducible assumption

theorem execHci1Identity_stored {s : State} (hs : State.Stored q b s) (kf : b.free [Part.mb]) :
    answers (execHci1Identity s) (State.Stored q b) := by
  unfold execHci1Identity
  with_reducible apply answers_next
  with_reducible apply State.runMx_stored
  with_reducible assumption
  intro _ _ _
  simp -zeta only
  with_reducible assumption
  exact kf.sub rfl

theorem State.mxMove_stored {s : State} {x : MbSlot} {kind : Nat} (hs : State.Stored q b s) (kf : b.free [Part.reg RegGroup.arm, Part.arms]) :
    State.Stored q b (State.mxMove s x kind).1 := by
  unfold State.mxMove
  extract_lets +onlyGivenNames x; clear_value x
  simp -zeta only
  with_reducible apply State.offerMove_stored
  with_reducible assumption
  exact kf.sub rfl

theorem execHci1AbsMove_stored {s : State} (hs : State.Stored q b s) (kf : b.free [Part.reg RegGroup.arm, Part.arms, Part.mb]) :
    answers (execHci1AbsMove s) (State.Stored q b) := by
  unfold execHci1AbsMove
  with_reducible apply answers_next
  with_reducible apply State.runMx_stored
  with_reducible assumption
  intro _ _ _
  with_reducible apply State.mxMove_stored
  with_reducible assumption
  exact kf.sub rfl
  exact kf.sub rfl

theorem execHci1RelMove_stored {s : State} (hs : State.Stored q b s) (kf : b.free [Part.reg RegGroup.arm, Part.arms, Part.mb]) :
    answers (execHci1RelMove s) (State.Stored q b) := by
  unfold execHci1RelMove
  with_reducible apply answers_next
  with_reducible apply State.runMx_stored
  with_reducible assumption
  intro _ _ _
  with_reducible apply State.mxMove_stored
  with_reducible assumption
  exact kf.sub rfl
  exact kf.sub rfl

theorem execHci1Stop_stored {s : State} (hs : State.Stored q b s) (kf : b.free [Part.arms, Part.mb]) :
    answers (execHci1Stop s) (State.Stored q b) := by
  unfold execHci1Stop
  with_reducible apply answers_next
  with_reducible apply State.runMx_stored
  with_reducible assumption
  intro _ _ _
  simp -zeta only
  with_reducible apply State.via_stored
  with_reducible assumption
  intro _ _
  with_reducible apply execArmAbort_stored
  with_reducible assumption
  exact kf.sub rfl
  exact kf.sub rfl

theorem execHci1Status_stored {s : State} (hs : State.Stored q b s) (kf : b.free (regParts ++ [Part.fresh, Part.rdata, Part.caps, Part.evts, Part.kiln, Part.mb])) :
    answers (execHci1Status s) (State.Stored q b) := by
  unfold execHci1Status
  with_reducible apply answers_next
  with_reducible apply State.runMx_stored
  with_reducible assumption
  intro _ _ _
  with_reducible apply State.armStatus_stored
  with_reducible assumption
  exact kf.sub rfl
  exact kf.sub rfl

theorem execHci1ReadTime_stored {s : State} (hs : State.Stored q b s) (kf : b.free (regParts ++ [Part.fresh, Part.rdata, Part.caps, Part.evts, Part.kiln, Part.mb])) :
    answers (execHci1ReadTime s) (State.Stored q b) := by
  unfold execHci1ReadTime
  with_reducible apply answers_next
  with_reducible apply State.runMx_stored
  with_reducible assumption
  intro _ _ _
  with_reducible apply State.timeGet_stored
  with_reducible assumption
  exact kf.sub rfl
  exact kf.sub rfl

end Sys2Proof.Machine
end

