-- ==== Sys2Proof/Laws/StoredMx.lean ====
section
/-! SUPPORT. One lemma per operation: the MX-16 instructions and the window edge keep what `State.Stored`
says: the queue, canonical memory and flash, OTP bits, time, and every part of the state that the operation does not name. -/

namespace Sys2Proof.Machine

open Sys2Proof

variable {q : List Instr} {b : Kept}

theorem State.mx_stored {s : State} {t_ : Fin 32} {size : Nat} {cycles : Nat} {ws : Tile → List (Nat × EWrite)} (hs : State.Stored q b s) (kf : b.free [Part.reg RegGroup.ic, Part.tiles, Part.ic]) :
    State.Stored q b (State.mx s t_ size cycles ws) := by
  unfold State.mx
  with_reducible apply State.issue_stored
  with_reducible assumption
  intro _ _
  with_reducible apply State.queue_stored
  with_reducible assumption
  exact kf.sub rfl
  exact kf.sub rfl

theorem State.mxCtl_stored {s : State} {t_ : Fin 32} {size : Nat} {cycles : Nat} {f : Tile → Tile} (hs : State.Stored q b s) (kf : b.free [Part.reg RegGroup.ic, Part.tiles, Part.ic]) :
    State.Stored q b (State.mxCtl s t_ size cycles f) := by
  unfold State.mxCtl
  with_reducible apply State.issue_stored
  with_reducible assumption
  intro _ _
  with_reducible apply State.setTile_stored
  with_reducible assumption
  exact kf.sub rfl
  exact kf.sub rfl

theorem execMxNop_stored {t_ : Fin 32} {s : State} (hs : State.Stored q b s) (kf : b.free [Part.reg RegGroup.ic, Part.tiles, Part.ic]) :
    answers (execMxNop t_ s) (State.Stored q b) := by
  unfold execMxNop
  with_reducible apply answers_next
  with_reducible apply State.mx_stored
  with_reducible assumption
  exact kf.sub rfl

theorem execMxHalt_stored {t_ : Fin 32} {s : State} (hs : State.Stored q b s) (kf : b.free [Part.reg RegGroup.stk, Part.reg RegGroup.ic, Part.tiles, Part.stk, Part.ic]) :
    answers (execMxHalt t_ s) (State.Stored q b) := by
  unfold execMxHalt
  with_reducible apply answers_next
  with_reducible apply State.gate_stored
  with_reducible assumption
  intro _ _
  with_reducible apply State.taskEnd_stored
  with_reducible assumption
  exact kf.sub rfl
  exact kf.sub rfl

theorem execMxRet_stored {t_ : Fin 32} {s : State} (hs : State.Stored q b s) (kf : b.free [Part.reg RegGroup.ic, Part.tiles, Part.ic]) :
    answers (execMxRet t_ s) (State.Stored q b) := by
  unfold execMxRet
  with_reducible apply answers_next
  with_reducible apply State.mxCtl_stored
  with_reducible assumption
  exact kf.sub rfl

theorem execMxRptImm_stored {t_ : Fin 32} {n : Fin 256} {s : State} (hs : State.Stored q b s) (kf : b.free [Part.reg RegGroup.ic, Part.tiles, Part.ic]) :
    answers (execMxRptImm t_ n s) (State.Stored q b) := by
  unfold execMxRptImm
  with_reducible apply answers_next
  with_reducible apply State.mxCtl_stored
  with_reducible assumption
  exact kf.sub rfl

theorem execMxRptReg_stored {t_ : Fin 32} {r : Fin 8} {s : State} (hs : State.Stored q b s) (kf : b.free [Part.reg RegGroup.ic, Part.tiles, Part.ic]) :
    answers (execMxRptReg t_ r s) (State.Stored q b) := by
  unfold execMxRptReg
  with_reducible apply answers_next
  with_reducible apply State.mxCtl_stored
  with_reducible assumption
  exact kf.sub rfl

theorem execMxEi_stored {t_ : Fin 32} {s : State} (hs : State.Stored q b s) (kf : b.free [Part.reg RegGroup.ic, Part.tiles, Part.ic]) :
    answers (execMxEi t_ s) (State.Stored q b) := by
  unfold execMxEi
  with_reducible apply answers_next
  with_reducible apply State.mxCtl_stored
  with_reducible assumption
  exact kf.sub rfl

theorem execMxDi_stored {t_ : Fin 32} {s : State} (hs : State.Stored q b s) (kf : b.free [Part.reg RegGroup.ic, Part.tiles, Part.ic]) :
    answers (execMxDi t_ s) (State.Stored q b) := by
  unfold execMxDi
  with_reducible apply answers_next
  with_reducible apply State.mxCtl_stored
  with_reducible assumption
  exact kf.sub rfl

theorem execMxClampon_stored {t_ : Fin 32} {s : State} (hs : State.Stored q b s) (kf : b.free [Part.reg RegGroup.ic, Part.tiles, Part.ic]) :
    answers (execMxClampon t_ s) (State.Stored q b) := by
  unfold execMxClampon
  with_reducible apply answers_next
  with_reducible apply State.mxCtl_stored
  with_reducible assumption
  exact kf.sub rfl

theorem execMxClampoff_stored {t_ : Fin 32} {s : State} (hs : State.Stored q b s) (kf : b.free [Part.reg RegGroup.ic, Part.tiles, Part.ic]) :
    answers (execMxClampoff t_ s) (State.Stored q b) := by
  unfold execMxClampoff
  with_reducible apply answers_next
  with_reducible apply State.mxCtl_stored
  with_reducible assumption
  exact kf.sub rfl

theorem execMxClrs_stored {t_ : Fin 32} {s : State} (hs : State.Stored q b s) (kf : b.free [Part.reg RegGroup.ic, Part.tiles, Part.ic]) :
    answers (execMxClrs t_ s) (State.Stored q b) := by
  unfold execMxClrs
  with_reducible apply answers_next
  with_reducible apply State.mxCtl_stored
  with_reducible assumption
  exact kf.sub rfl

theorem execMxBranch_stored {t_ : Fin 32} {cc : Fin 16} {off : BitVec 8} {s : State} (hs : State.Stored q b s) (kf : b.free [Part.reg RegGroup.ic, Part.tiles, Part.ic]) :
    answers (execMxBranch t_ cc off s) (State.Stored q b) := by
  unfold execMxBranch
  with_reducible apply answers_next
  with_reducible apply State.issue_stored
  with_reducible assumption
  intro _ _
  with_reducible apply State.illegalIf_stored
  with_reducible assumption
  intro _ _
  extract_lets +onlyGivenNames x; clear_value x
  with_reducible apply State.setTile_stored
  with_reducible assumption
  exact kf.sub rfl
  exact kf.sub rfl
  exact kf.sub rfl

theorem execMxLongBranch_stored {t_ : Fin 32} {w : BitVec 16} {s : State} (hs : State.Stored q b s) (kf : b.free [Part.reg RegGroup.ic, Part.tiles, Part.ic]) :
    answers (execMxLongBranch t_ w s) (State.Stored q b) := by
  unfold execMxLongBranch
  with_reducible apply answers_next
  with_reducible apply State.mxCtl_stored
  with_reducible assumption
  exact kf.sub rfl

theorem execMxCall_stored {t_ : Fin 32} {w : BitVec 16} {s : State} (hs : State.Stored q b s) (kf : b.free [Part.reg RegGroup.ic, Part.tiles, Part.ic]) :
    answers (execMxCall t_ w s) (State.Stored q b) := by
  unfold execMxCall
  with_reducible apply answers_next
  with_reducible apply State.mxCtl_stored
  with_reducible assumption
  exact kf.sub rfl

theorem execMxLoadDirect_stored {t_ : Fin 32} {r : Fin 8} {w : BitVec 16} {s : State} (hs : State.Stored q b s) (kf : b.free [Part.reg RegGroup.ic, Part.tiles, Part.ic]) :
    answers (execMxLoadDirect t_ r w s) (State.Stored q b) := by
  unfold execMxLoadDirect
  with_reducible apply answers_next
  with_reducible apply State.issue_stored
  with_reducible assumption
  intro _ _
  with_reducible apply State.access_stored
  with_reducible assumption
  exact kf.sub rfl
  exact kf.sub rfl

theorem execMxStoreDirect_stored {t_ : Fin 32} {r : Fin 8} {w : BitVec 16} {s : State} (hs : State.Stored q b s) (kf : b.free [Part.reg RegGroup.ic, Part.mem, Part.tiles, Part.ic]) :
    answers (execMxStoreDirect t_ r w s) (State.Stored q b) := by
  unfold execMxStoreDirect
  with_reducible apply answers_next
  with_reducible apply State.issue_stored
  with_reducible assumption
  intro _ _
  with_reducible apply State.storeWords_stored
  with_reducible assumption
  exact kf.sub rfl
  exact kf.sub rfl

theorem execMxLoadIndirect_stored {t_ : Fin 32} {r : Fin 8} {m : MxMem} {s : State} (hs : State.Stored q b s) (kf : b.free [Part.reg RegGroup.ic, Part.tiles, Part.ic]) :
    answers (execMxLoadIndirect t_ r m s) (State.Stored q b) := by
  unfold execMxLoadIndirect
  with_reducible apply answers_next
  with_reducible apply State.issue_stored
  with_reducible assumption
  intro _ _
  with_reducible apply State.access_stored
  with_reducible assumption
  exact kf.sub rfl
  exact kf.sub rfl

theorem execMxStoreIndirect_stored {t_ : Fin 32} {r : Fin 8} {m : MxMem} {s : State} (hs : State.Stored q b s) (kf : b.free [Part.reg RegGroup.ic, Part.mem, Part.tiles, Part.ic]) :
    answers (execMxStoreIndirect t_ r m s) (State.Stored q b) := by
  unfold execMxStoreIndirect
  with_reducible apply answers_next
  with_reducible apply State.issue_stored
  with_reducible assumption
  intro _ _
  with_reducible apply State.storeWords_stored
  with_reducible assumption
  exact kf.sub rfl
  exact kf.sub rfl

theorem execMxAluReg_stored {t_ : Fin 32} {op : Fin 16} {rd : Fin 8} {rs : Fin 8} {s : State} (hs : State.Stored q b s) (kf : b.free [Part.reg RegGroup.ic, Part.tiles, Part.ic]) :
    answers (execMxAluReg t_ op rd rs s) (State.Stored q b) := by
  unfold execMxAluReg
  with_reducible apply answers_next
  with_reducible apply State.mx_stored
  with_reducible assumption
  exact kf.sub rfl

theorem execMxAluImm_stored {t_ : Fin 32} {op : MxImmOp} {rd : Fin 8} {imm : BitVec 16} {s : State} (hs : State.Stored q b s) (kf : b.free [Part.reg RegGroup.ic, Part.tiles, Part.ic]) :
    answers (execMxAluImm t_ op rd imm s) (State.Stored q b) := by
  unfold execMxAluImm
  with_reducible apply answers_next
  with_reducible apply State.mx_stored
  with_reducible assumption
  exact kf.sub rfl

theorem execMxMpy_stored {t_ : Fin 32} {ac : Fin 2} {rs : Fin 8} {rt : Fin 8} {s : State} (hs : State.Stored q b s) (kf : b.free [Part.reg RegGroup.ic, Part.tiles, Part.ic]) :
    answers (execMxMpy t_ ac rs rt s) (State.Stored q b) := by
  unfold execMxMpy
  with_reducible apply answers_next
  with_reducible apply State.mx_stored
  with_reducible assumption
  exact kf.sub rfl

theorem execMxMac_stored {t_ : Fin 32} {ac : Fin 2} {rs : Fin 8} {rt : Fin 8} {s : State} (hs : State.Stored q b s) (kf : b.free [Part.reg RegGroup.ic, Part.tiles, Part.ic]) :
    answers (execMxMac t_ ac rs rt s) (State.Stored q b) := by
  unfold execMxMac
  with_reducible apply answers_next
  with_reducible apply State.mx_stored
  with_reducible assumption
  exact kf.sub rfl

theorem execMxMsu_stored {t_ : Fin 32} {ac : Fin 2} {rs : Fin 8} {rt : Fin 8} {s : State} (hs : State.Stored q b s) (kf : b.free [Part.reg RegGroup.ic, Part.tiles, Part.ic]) :
    answers (execMxMsu t_ ac rs rt s) (State.Stored q b) := by
  unfold execMxMsu
  with_reducible apply answers_next
  with_reducible apply State.mx_stored
  with_reducible assumption
  exact kf.sub rfl

theorem execMxMpyr_stored {t_ : Fin 32} {rd : Fin 8} {rs : Fin 8} {rt : Fin 8} {s : State} (hs : State.Stored q b s) (kf : b.free [Part.reg RegGroup.ic, Part.tiles, Part.ic]) :
    answers (execMxMpyr t_ rd rs rt s) (State.Stored q b) := by
  unfold execMxMpyr
  with_reducible apply answers_next
  with_reducible apply State.mx_stored
  with_reducible assumption
  exact kf.sub rfl

theorem execMxMacMem_stored {t_ : Fin 32} {ac : Fin 2} {x : Fin 2} {y : Fin 2} {sx : MxStep} {sy : MxStep} {s : State} (hs : State.Stored q b s) (kf : b.free [Part.reg RegGroup.ic, Part.tiles, Part.ic]) :
    answers (execMxMacMem t_ ac x y sx sy s) (State.Stored q b) := by
  unfold execMxMacMem
  with_reducible apply answers_next
  with_reducible apply State.issue_stored
  with_reducible assumption
  intro _ _
  extract_lets +onlyGivenNames x; clear_value x
  with_reducible apply State.access_stored
  with_reducible assumption
  exact kf.sub rfl
  exact kf.sub rfl

theorem execMxMsuMem_stored {t_ : Fin 32} {ac : Fin 2} {x : Fin 2} {y : Fin 2} {sx : MxStep} {sy : MxStep} {s : State} (hs : State.Stored q b s) (kf : b.free [Part.reg RegGroup.ic, Part.tiles, Part.ic]) :
    answers (execMxMsuMem t_ ac x y sx sy s) (State.Stored q b) := by
  unfold execMxMsuMem
  with_reducible apply answers_next
  with_reducible apply State.issue_stored
  with_reducible assumption
  intro _ _
  extract_lets +onlyGivenNames x; clear_value x
  with_reducible apply State.access_stored
  with_reducible assumption
  exact kf.sub rfl
  exact kf.sub rfl

theorem execMxAccClr_stored {t_ : Fin 32} {ac : Fin 2} {s : State} (hs : State.Stored q b s) (kf : b.free [Part.reg RegGroup.ic, Part.tiles, Part.ic]) :
    answers (execMxAccClr t_ ac s) (State.Stored q b) := by
  unfold execMxAccClr
  with_reducible apply answers_next
  with_reducible apply State.mx_stored
  with_reducible assumption
  exact kf.sub rfl

theorem execMxAccAdd_stored {t_ : Fin 32} {ac : Fin 2} {s : State} (hs : State.Stored q b s) (kf : b.free [Part.reg RegGroup.ic, Part.tiles, Part.ic]) :
    answers (execMxAccAdd t_ ac s) (State.Stored q b) := by
  unfold execMxAccAdd
  with_reducible apply answers_next
  with_reducible apply State.mx_stored
  with_reducible assumption
  exact kf.sub rfl

theorem execMxAccSub_stored {t_ : Fin 32} {ac : Fin 2} {s : State} (hs : State.Stored q b s) (kf : b.free [Part.reg RegGroup.ic, Part.tiles, Part.ic]) :
    answers (execMxAccSub t_ ac s) (State.Stored q b) := by
  unfold execMxAccSub
  with_reducible apply answers_next
  with_reducible apply State.mx_stored
  with_reducible assumption
  exact kf.sub rfl

theorem execMxAccNeg_stored {t_ : Fin 32} {ac : Fin 2} {s : State} (hs : State.Stored q b s) (kf : b.free [Part.reg RegGroup.ic, Part.tiles, Part.ic]) :
    answers (execMxAccNeg t_ ac s) (State.Stored q b) := by
  unfold execMxAccNeg
  with_reducible apply answers_next
  with_reducible apply State.mx_stored
  with_reducible assumption
  exact kf.sub rfl

theorem execMxAccAbs_stored {t_ : Fin 32} {ac : Fin 2} {s : State} (hs : State.Stored q b s) (kf : b.free [Part.reg RegGroup.ic, Part.tiles, Part.ic]) :
    answers (execMxAccAbs t_ ac s) (State.Stored q b) := by
  unfold execMxAccAbs
  with_reducible apply answers_next
  with_reducible apply State.mx_stored
  with_reducible assumption
  exact kf.sub rfl

theorem execMxAccShl_stored {t_ : Fin 32} {ac : Fin 2} {k : Fin 32} {s : State} (hs : State.Stored q b s) (kf : b.free [Part.reg RegGroup.ic, Part.tiles, Part.ic]) :
    answers (execMxAccShl t_ ac k s) (State.Stored q b) := by
  unfold execMxAccShl
  with_reducible apply answers_next
  with_reducible apply State.mx_stored
  with_reducible assumption
  exact kf.sub rfl

theorem execMxAccShr_stored {t_ : Fin 32} {ac : Fin 2} {k : Fin 32} {s : State} (hs : State.Stored q b s) (kf : b.free [Part.reg RegGroup.ic, Part.tiles, Part.ic]) :
    answers (execMxAccShr t_ ac k s) (State.Stored q b) := by
  unfold execMxAccShr
  with_reducible apply answers_next
  with_reducible apply State.mx_stored
  with_reducible assumption
  exact kf.sub rfl

theorem execMxAccRound_stored {t_ : Fin 32} {ac : Fin 2} {r : Fin 8} {s : State} (hs : State.Stored q b s) (kf : b.free [Part.reg RegGroup.ic, Part.tiles, Part.ic]) :
    answers (execMxAccRound t_ ac r s) (State.Stored q b) := by
  unfold execMxAccRound
  with_reducible apply answers_next
  with_reducible apply State.mx_stored
  with_reducible assumption
  exact kf.sub rfl

theorem execMxAccLoad_stored {t_ : Fin 32} {ac : Fin 2} {r : Fin 8} {s : State} (hs : State.Stored q b s) (kf : b.free [Part.reg RegGroup.ic, Part.tiles, Part.ic]) :
    answers (execMxAccLoad t_ ac r s) (State.Stored q b) := by
  unfold execMxAccLoad
  with_reducible apply answers_next
  with_reducible apply State.mx_stored
  with_reducible assumption
  exact kf.sub rfl

theorem execMxIxLoad_stored {t_ : Fin 32} {x : Fin 4} {w : BitVec 16} {s : State} (hs : State.Stored q b s) (kf : b.free [Part.reg RegGroup.ic, Part.tiles, Part.ic]) :
    answers (execMxIxLoad t_ x w s) (State.Stored q b) := by
  unfold execMxIxLoad
  with_reducible apply answers_next
  with_reducible apply State.mx_stored
  with_reducible assumption
  exact kf.sub rfl

theorem execMxIxAdd_stored {t_ : Fin 32} {x : Fin 4} {o : BitVec 8} {s : State} (hs : State.Stored q b s) (kf : b.free [Part.reg RegGroup.ic, Part.tiles, Part.ic]) :
    answers (execMxIxAdd t_ x o s) (State.Stored q b) := by
  unfold execMxIxAdd
  with_reducible apply answers_next
  with_reducible apply State.mx_stored
  with_reducible assumption
  exact kf.sub rfl

theorem execMxIxToR_stored {t_ : Fin 32} {x : Fin 4} {r : Fin 8} {s : State} (hs : State.Stored q b s) (kf : b.free [Part.reg RegGroup.ic, Part.tiles, Part.ic]) :
    answers (execMxIxToR t_ x r s) (State.Stored q b) := by
  unfold execMxIxToR
  with_reducible apply answers_next
  with_reducible apply State.mx_stored
  with_reducible assumption
  exact kf.sub rfl

theorem execMxRToIx_stored {t_ : Fin 32} {x : Fin 4} {r : Fin 8} {s : State} (hs : State.Stored q b s) (kf : b.free [Part.reg RegGroup.ic, Part.tiles, Part.ic]) :
    answers (execMxRToIx t_ x r s) (State.Stored q b) := by
  unfold execMxRToIx
  with_reducible apply answers_next
  with_reducible apply State.mx_stored
  with_reducible assumption
  exact kf.sub rfl

theorem execMxIn_stored {t_ : Fin 32} {r : Fin 8} {k : BitVec 8} {s : State} (hs : State.Stored q b s) (kf : b.free [Part.reg RegGroup.ic, Part.tiles, Part.ic]) :
    answers (execMxIn t_ r k s) (State.Stored q b) := by
  unfold execMxIn
  with_reducible apply answers_next
  with_reducible apply State.issue_stored
  with_reducible assumption
  intro _ _
  with_reducible apply State.access_stored
  with_reducible assumption
  exact kf.sub rfl
  exact kf.sub rfl

theorem execMxOut_stored {t_ : Fin 32} {r : Fin 8} {k : BitVec 8} {s : State} (hs : State.Stored q b s) (kf : b.free [Part.reg RegGroup.ic, Part.mem, Part.tiles, Part.ic]) :
    answers (execMxOut t_ r k s) (State.Stored q b) := by
  unfold execMxOut
  with_reducible apply answers_next
  with_reducible apply State.issue_stored
  with_reducible assumption
  intro _ _
  with_reducible apply State.storeWords_stored
  with_reducible assumption
  exact kf.sub rfl
  exact kf.sub rfl

theorem execMxStatusRead_stored {t_ : Fin 32} {r : Fin 8} {s : State} (hs : State.Stored q b s) (kf : b.free [Part.reg RegGroup.ic, Part.tiles, Part.ic]) :
    answers (execMxStatusRead t_ r s) (State.Stored q b) := by
  unfold execMxStatusRead
  with_reducible apply answers_next
  with_reducible apply State.mx_stored
  with_reducible assumption
  exact kf.sub rfl

theorem execMxStatusWrite_stored {t_ : Fin 32} {r : Fin 8} {s : State} (hs : State.Stored q b s) (kf : b.free [Part.reg RegGroup.ic, Part.tiles, Part.ic]) :
    answers (execMxStatusWrite t_ r s) (State.Stored q b) := by
  unfold execMxStatusWrite
  with_reducible apply answers_next
  with_reducible apply State.mxCtl_stored
  with_reducible assumption
  exact kf.sub rfl

theorem State.nextPeriod_stored {s : State} (hs : State.Stored q b s) (kf : b.free [Part.pc]) : State.Stored q b (State.nextPeriod s) := by
  unfold State.nextPeriod
  with_reducible apply State.updPc_stored
  with_reducible assumption
  exact kf.sub rfl

theorem State.senseEdge_stored {s : State} {w : Time} (hs : State.Stored q b s) (kf : b.free (postParts ++ [Part.reg RegGroup.sdf, Part.reg RegGroup.fb, Part.sdclk, Part.filters, Part.fbs])) :
    State.Stored q b (State.senseEdge s w) := by
  unfold State.senseEdge
  extract_lets +onlyGivenNames x; refine (fun (hx : State.Stored q b x) => ?_) ?_ <;> [(try clear_value x); subst x]
  with_reducible apply stored_foldl
  intro _ _ _
  with_reducible apply stored_ite
  with_reducible apply State.speedReport_stored
  with_reducible apply State.deliverReading_stored
  with_reducible assumption
  exact kf.sub rfl
  exact kf.sub rfl
  with_reducible assumption
  with_reducible assumption
  with_reducible apply stored_foldl
  intro _ _ _
  with_reducible apply State.applyFilter_stored
  with_reducible assumption
  exact kf.sub rfl
  with_reducible apply State.applyClocks_stored
  with_reducible assumption
  exact kf.sub rfl

theorem execWindowEdge_stored {s : State} (hs : State.Stored q b s) (kf : b.free (regParts ++ [Part.now, Part.mem, Part.fresh, Part.seq, Part.time, Part.pulses, Part.lk, Part.evts, Part.ports, Part.axes, Part.sdclk, Part.filters, Part.fbs, Part.loops, Part.arms, Part.kiln, Part.tiles, Part.stk, Part.pc, Part.ic, Part.si, Part.eth, Part.chain, Part.mb, Part.boot])) :
    answers (execWindowEdge s) (State.Stored q b) := by
  have k_seq : b.keep .seq = false := kf.get rfl
  unfold execWindowEdge
  extract_lets +onlyGivenNames x; clear_value x
  extract_lets +onlyGivenNames x; clear_value x
  extract_lets +onlyGivenNames x; refine (fun (hx : State.Stored q b x) => ?_) ?_ <;> [(try clear_value x); subst x]
  extract_lets +onlyGivenNames x; clear_value x
  extract_lets +onlyGivenNames x; refine (fun (hx : State.Stored q b x) => ?_) ?_ <;> [(try clear_value x); subst x]
  extract_lets +onlyGivenNames x; refine (fun (hx : State.Stored q b x) => ?_) ?_ <;> [(try clear_value x); subst x]
  with_reducible apply answers_ite
  with_reducible apply answers_next
  with_reducible assumption
  with_reducible apply answers_next
  with_reducible apply State.loopTableEdge_stored
  with_reducible apply State.stackEdge_stored
  with_reducible apply State.senseEdge_stored
  with_reducible assumption
  exact kf.sub rfl
  exact kf.sub rfl
  exact kf.sub rfl
  with_reducible apply State.transferJoin_stored
  with_reducible apply State.transferJoin_stored
  with_reducible apply State.plannedHandover_stored
  with_reducible apply State.nextPeriod_stored
  with_reducible assumption
  exact kf.sub rfl
  exact kf.sub rfl
  exact kf.sub rfl
  exact kf.sub rfl
  with_reducible apply State.rateStep_stored
  with_reducible apply State.wr_stored
  simp -zeta only [stored_mk, k_seq, or_true, true_or]
  with_reducible assumption
  exact kf.get rfl
  exact kf.sub rfl
  with_reducible apply State.advance_stored
  with_reducible assumption
  exact kf.sub rfl

theorem State.kilnRestart_stored {s : State} (hs : State.Stored q b s) (kf : b.free [Part.reg RegGroup.kn, Part.kiln]) :
    State.Stored q b (State.kilnRestart s) := by
  unfold State.kilnRestart
  with_reducible apply stored_foldl
  intro _ _ _
  with_reducible apply State.showPhase_stored
  with_reducible apply State.setKctx_stored
  with_reducible assumption
  exact kf.sub rfl
  exact kf.sub rfl
  with_reducible assumption

theorem execPeriodRestart_stored {s : State} (hs : State.Stored q b s) (kf : b.free [Part.reg RegGroup.clk, Part.reg RegGroup.kn, Part.now, Part.seq, Part.ports, Part.fbs, Part.loops, Part.kiln, Part.planDue, Part.stk, Part.pc, Part.si, Part.chain]) :
    answers (execPeriodRestart s) (State.Stored q b) := by
  have k_chain : b.keep .chain = false := kf.get rfl
  have k_fbs : b.keep .fbs = false := kf.get rfl
  have k_planDue : b.keep .planDue = false := kf.get rfl
  have k_ports : b.keep .ports = false := kf.get rfl
  have k_seq : b.keep .seq = false := kf.get rfl
  have k_si : b.keep .si = false := kf.get rfl
  unfold execPeriodRestart
  extract_lets +onlyGivenNames x; clear_value x
  extract_lets +onlyGivenNames x; clear_value x
  split
  with_reducible apply answers_next
  with_reducible assumption
  extract_lets +onlyGivenNames x; subst x
  extract_lets +onlyGivenNames x; refine (fun (hx : State.Stored q b x) => ?_) ?_ <;> [(try clear_value x); subst x]
  extract_lets +onlyGivenNames x; clear_value x
  extract_lets +onlyGivenNames x; refine (fun (hx : State.Stored q b x) => ?_) ?_ <;> [(try clear_value x); subst x]
  extract_lets +onlyGivenNames x; refine (fun (hx : State.Stored q b x) => ?_) ?_ <;> [(try clear_value x); subst x]
  extract_lets +onlyGivenNames x; refine (fun (hx : State.Stored q b x) => ?_) ?_ <;> [(try clear_value x); subst x]
  extract_lets +onlyGivenNames x; clear_value x
  with_reducible apply answers_next
  with_reducible apply State.wr_stored
  simp -zeta only [stored_mk, k_chain, k_fbs, k_planDue, k_ports, k_seq, k_si, or_true, true_or]
  with_reducible assumption
  exact kf.get rfl
  with_reducible apply State.updPc_stored
  with_reducible assumption
  exact kf.sub rfl
  simp -zeta only [stored_mk, k_chain, k_fbs, k_planDue, k_ports, k_seq, k_si, or_true, true_or]
  with_reducible assumption
  with_reducible apply stored_ite
  simp -zeta only [stored_mk, k_chain, k_fbs, k_planDue, k_ports, k_seq, k_si, or_true, true_or]
  with_reducible assumption
  with_reducible assumption
  with_reducible apply State.kilnRestart_stored
  with_reducible apply State.loopsRestart_stored
  with_reducible apply State.stackRestart_stored
  with_reducible apply State.advance_stored
  with_reducible assumption
  exact kf.sub rfl
  exact kf.sub rfl
  exact kf.sub rfl
  exact kf.sub rfl

end Sys2Proof.Machine
end

