-- ==== Sys2Proof/Laws/StoredAll.lean ====
section
/-! SUPPORT. What any command leaves: one lemma over all of them, of which the frames and the invariants of a step are cases. -/

namespace Sys2Proof.Machine

open Sys2Proof

theorem exec_stored {q : List Instr} {b : Kept} {s : State} (c : Instr) (hs : State.Stored q b s) (kf : b.free (touches c)) :
    answers (exec c s) (State.Stored q b) := by
  match c, kf with
  | .nop .., kf => exact execNop_stored hs kf
  | .tend .., kf => exact execTend_stored hs kf
  | .reti .., kf => exact execReti_stored hs kf
  | .rptImm .., kf => exact execRptImm_stored hs kf
  | .rptReg .., kf => exact execRptReg_stored hs kf
  | .ei .., kf => exact execEi_stored hs kf
  | .di .., kf => exact execDi_stored hs kf
  | .clrst .., kf => exact execClrst_stored hs kf
  | .setrnd .., kf => exact execSetrnd_stored hs kf
  | .bCc .., kf => exact execBCc_stored hs kf
  | .call .., kf => exact execCall_stored hs kf
  | .jmp .., kf => exact execJmp_stored hs kf
  | .callr .., kf => exact execCallr_stored hs kf
  | .ret .., kf => exact execRet_stored hs kf
  | .dbnz .., kf => exact execDbnz_stored hs kf
  | .mxcall .., kf => exact execMxcall_stored hs kf
  | .ld .., kf => exact execLd_stored hs kf
  | .st .., kf => exact execSt_stored hs kf
  | .lddA .., kf => exact execLddA_stored hs kf
  | .stdA .., kf => exact execStdA_stored hs kf
  | .ldq .., kf => exact execLdq_stored hs kf
  | .stq .., kf => exact execStq_stored hs kf
  | .lddP .., kf => exact execLddP_stored hs kf
  | .stdP .., kf => exact execStdP_stored hs kf
  | .lddB .., kf => exact execLddB_stored hs kf
  | .stdB .., kf => exact execStdB_stored hs kf
  | .ldL .., kf => exact execLdL_stored hs kf
  | .stL .., kf => exact execStL_stored hs kf
  | .ldM .., kf => exact execLdM_stored hs kf
  | .stM .., kf => exact execStM_stored hs kf
  | .lea .., kf => exact execLea_stored hs kf
  | .ld2 .., kf => exact execLd2_stored hs kf
  | .ldiD .., kf => exact execLdiD_stored hs kf
  | .ldiA .., kf => exact execLdiA_stored hs kf
  | .ldiP .., kf => exact execLdiP_stored hs kf
  | .ldiB .., kf => exact execLdiB_stored hs kf
  | .ldiL .., kf => exact execLdiL_stored hs kf
  | .ldiM .., kf => exact execLdiM_stored hs kf
  | .mov .., kf => exact execMov_stored hs kf
  | .add .., kf => exact execAdd_stored hs kf
  | .sub .., kf => exact execSub_stored hs kf
  | .cmp .., kf => exact execCmp_stored hs kf
  | .neg .., kf => exact execNeg_stored hs kf
  | .abs .., kf => exact execAbs_stored hs kf
  | .min .., kf => exact execMin_stored hs kf
  | .max .., kf => exact execMax_stored hs kf
  | .and .., kf => exact execAnd_stored hs kf
  | .or .., kf => exact execOr_stored hs kf
  | .xor .., kf => exact execXor_stored hs kf
  | .not .., kf => exact execNot_stored hs kf
  | .asl .., kf => exact execAsl_stored hs kf
  | .asr .., kf => exact execAsr_stored hs kf
  | .lsr .., kf => exact execLsr_stored hs kf
  | .addc .., kf => exact execAddc_stored hs kf
  | .subc .., kf => exact execSubc_stored hs kf
  | .addi .., kf => exact execAddi_stored hs kf
  | .cmpi .., kf => exact execCmpi_stored hs kf
  | .andi .., kf => exact execAndi_stored hs kf
  | .ori .., kf => exact execOri_stored hs kf
  | .xori .., kf => exact execXori_stored hs kf
  | .asli .., kf => exact execAsli_stored hs kf
  | .asri .., kf => exact execAsri_stored hs kf
  | .lsri .., kf => exact execLsri_stored hs kf
  | .adda .., kf => exact execAdda_stored hs kf
  | .suba .., kf => exact execSuba_stored hs kf
  | .nega .., kf => exact execNega_stored hs kf
  | .absa .., kf => exact execAbsa_stored hs kf
  | .clr .., kf => exact execClr_stored hs kf
  | .mva .., kf => exact execMva_stored hs kf
  | .mvr .., kf => exact execMvr_stored hs kf
  | .asla .., kf => exact execAsla_stored hs kf
  | .asra .., kf => exact execAsra_stored hs kf
  | .cmpa .., kf => exact execCmpa_stored hs kf
  | .mova .., kf => exact execMova_stored hs kf
  | .rnda .., kf => exact execRnda_stored hs kf
  | .mpy .., kf => exact execMpy_stored hs kf
  | .mac .., kf => exact execMac_stored hs kf
  | .msu .., kf => exact execMsu_stored hs kf
  | .mpyMem .., kf => exact execMpyMem_stored hs kf
  | .macMem .., kf => exact execMacMem_stored hs kf
  | .msuMem .., kf => exact execMsuMem_stored hs kf
  | .mpyr .., kf => exact execMpyr_stored hs kf
  | .dmacMem .., kf => exact execDmacMem_stored hs kf
  | .dmacReg .., kf => exact execDmacReg_stored hs kf
  | .dmacMulMem .., kf => exact execDmacMulMem_stored hs kf
  | .dmacMulReg .., kf => exact execDmacMulReg_stored hs kf
  | .qmacMem .., kf => exact execQmacMem_stored hs kf
  | .qmacReg .., kf => exact execQmacReg_stored hs kf
  | .qmacMulMem .., kf => exact execQmacMulMem_stored hs kf
  | .qmacMulReg .., kf => exact execQmacMulReg_stored hs kf
  | .acs .., kf => exact execAcs_stored hs kf
  | .acsn .., kf => exact execAcsn_stored hs kf
  | .acs2 .., kf => exact execAcs2_stored hs kf
  | .acs2n .., kf => exact execAcs2n_stored hs kf
  | .padd .., kf => exact execPadd_stored hs kf
  | .paddm .., kf => exact execPaddm_stored hs kf
  | .paddl .., kf => exact execPaddl_stored hs kf
  | .mxNop .., kf => exact execMxNop_stored hs kf
  | .mxHalt .., kf => exact execMxHalt_stored hs kf
  | .mxRet .., kf => exact execMxRet_stored hs kf
  | .mxRptImm .., kf => exact execMxRptImm_stored hs kf
  | .mxRptReg .., kf => exact execMxRptReg_stored hs kf
  | .mxEi .., kf => exact execMxEi_stored hs kf
  | .mxDi .., kf => exact execMxDi_stored hs kf
  | .mxClampon .., kf => exact execMxClampon_stored hs kf
  | .mxClampoff .., kf => exact execMxClampoff_stored hs kf
  | .mxClrs .., kf => exact execMxClrs_stored hs kf
  | .mxBranch .., kf => exact execMxBranch_stored hs kf
  | .mxLongBranch .., kf => exact execMxLongBranch_stored hs kf
  | .mxCall .., kf => exact execMxCall_stored hs kf
  | .mxLoadDirect .., kf => exact execMxLoadDirect_stored hs kf
  | .mxStoreDirect .., kf => exact execMxStoreDirect_stored hs kf
  | .mxLoadIndirect .., kf => exact execMxLoadIndirect_stored hs kf
  | .mxStoreIndirect .., kf => exact execMxStoreIndirect_stored hs kf
  | .mxAluReg .., kf => exact execMxAluReg_stored hs kf
  | .mxAluImm .., kf => exact execMxAluImm_stored hs kf
  | .mxMpy .., kf => exact execMxMpy_stored hs kf
  | .mxMac .., kf => exact execMxMac_stored hs kf
  | .mxMsu .., kf => exact execMxMsu_stored hs kf
  | .mxMpyr .., kf => exact execMxMpyr_stored hs kf
  | .mxMacMem .., kf => exact execMxMacMem_stored hs kf
  | .mxMsuMem .., kf => exact execMxMsuMem_stored hs kf
  | .mxAccClr .., kf => exact execMxAccClr_stored hs kf
  | .mxAccAdd .., kf => exact execMxAccAdd_stored hs kf
  | .mxAccSub .., kf => exact execMxAccSub_stored hs kf
  | .mxAccNeg .., kf => exact execMxAccNeg_stored hs kf
  | .mxAccAbs .., kf => exact execMxAccAbs_stored hs kf
  | .mxAccShl .., kf => exact execMxAccShl_stored hs kf
  | .mxAccShr .., kf => exact execMxAccShr_stored hs kf
  | .mxAccRound .., kf => exact execMxAccRound_stored hs kf
  | .mxAccLoad .., kf => exact execMxAccLoad_stored hs kf
  | .mxIxLoad .., kf => exact execMxIxLoad_stored hs kf
  | .mxIxAdd .., kf => exact execMxIxAdd_stored hs kf
  | .mxIxToR .., kf => exact execMxIxToR_stored hs kf
  | .mxRToIx .., kf => exact execMxRToIx_stored hs kf
  | .mxIn .., kf => exact execMxIn_stored hs kf
  | .mxOut .., kf => exact execMxOut_stored hs kf
  | .mxStatusRead .., kf => exact execMxStatusRead_stored hs kf
  | .mxStatusWrite .., kf => exact execMxStatusWrite_stored hs kf
  | .outsideLoadReturn .., kf => exact execOutsideLoadReturn_stored hs kf
  | .outsideStoreDrain .., kf => exact execOutsideStoreDrain_stored hs kf
  | .interruptAccept .., kf => exact execInterruptAccept_stored hs kf
  | .illegalInstruction .., kf => exact execIllegalInstruction_stored hs kf
  | .registerWrite .., kf => exact execRegisterWrite_stored hs kf
  | .readClear .., kf => exact execReadClear_stored hs kf
  | .islClkWrite .., kf => exact execIslClkWrite_stored hs kf
  | .periodSelWrite .., kf => exact execPeriodSelWrite_stored hs kf
  | .periodRestart, kf => exact execPeriodRestart_stored hs kf
  | .windowEdge, kf => exact execWindowEdge_stored hs kf
  | .cutOffEdge .., kf => exact execCutOffEdge_stored hs kf
  | .loadEdge .., kf => exact execLoadEdge_stored hs kf
  | .legEdge .., kf => exact execLegEdge_stored hs kf
  | .deadTimeExpiry .., kf => exact execDeadTimeExpiry_stored hs kf
  | .activeShort .., kf => exact execActiveShort_stored hs kf
  | .refLoss, kf => exact execRefLoss_stored hs kf
  | .pllRelock, kf => exact execPllRelock_stored hs kf
  | .clockFault .., kf => exact execClockFault_stored hs kf
  | .pllFirstLock, kf => exact execPllFirstLock_stored hs kf
  | .timeBaseStart, kf => exact execTimeBaseStart_stored hs kf
  | .timeStep, kf => exact execTimeStep_stored hs kf
  | .timeSetAccept, kf => exact execTimeSetAccept_stored hs kf
  | .tbRateWrite .., kf => exact execTbRateWrite_stored hs kf
  | .tbSourceWrite .., kf => exact execTbSourceWrite_stored hs kf
  | .ptpSourceLost, kf => exact execPtpSourceLost_stored hs kf
  | .ptpSyncTx .., kf => exact execPtpSyncTx_stored hs kf
  | .tcapEdge .., kf => exact execTcapEdge_stored hs kf
  | .tcapHeadRead .., kf => exact execTcapHeadRead_stored hs kf
  | .tbNowRead, kf => exact execTbNowRead_stored hs kf
  | .tpoArmWrite .., kf => exact execTpoArmWrite_stored hs kf
  | .tpoGo .., kf => exact execTpoGo_stored hs kf
  | .tpoEdge .., kf => exact execTpoEdge_stored hs kf
  | .ethFrameRx .., kf => exact execEthFrameRx_stored hs kf
  | .ethTxEntrySend .., kf => exact execEthTxEntrySend_stored hs kf
  | .signetEthTx .., kf => exact execSignetEthTx_stored hs kf
  | .ethLinkChange .., kf => exact execEthLinkChange_stored hs kf
  | .ethCtrlWrite .., kf => exact execEthCtrlWrite_stored hs kf
  | .mdioWrite .., kf => exact execMdioWrite_stored hs kf
  | .mdioRead .., kf => exact execMdioRead_stored hs kf
  | .mdioDone .., kf => exact execMdioDone_stored hs kf
  | .pwmArm .., kf => exact execPwmArm_stored hs kf
  | .pwmDisarm .., kf => exact execPwmDisarm_stored hs kf
  | .pwmRunSet .., kf => exact execPwmRunSet_stored hs kf
  | .pwmRunClear .., kf => exact execPwmRunClear_stored hs kf
  | .forceTripSet .., kf => exact execForceTripSet_stored hs kf
  | .forceTripClear .., kf => exact execForceTripClear_stored hs kf
  | .clrTrip .., kf => exact execClrTrip_stored hs kf
  | .pwmConfigWrite .., kf => exact execPwmConfigWrite_stored hs kf
  | .ewCommit .., kf => exact execEwCommit_stored hs kf
  | .tripPinAssert .., kf => exact execTripPinAssert_stored hs kf
  | .tripPinRelease .., kf => exact execTripPinRelease_stored hs kf
  | .calRoundDone .., kf => exact execCalRoundDone_stored hs kf
  | .calMapInstall .., kf => exact execCalMapInstall_stored hs kf
  | .sdcArmWrite .., kf => exact execSdcArmWrite_stored hs kf
  | .sdcFreqWrite .., kf => exact execSdcFreqWrite_stored hs kf
  | .sdcDlyWrite .., kf => exact execSdcDlyWrite_stored hs kf
  | .sampleDelivery .., kf => exact execSampleDelivery_stored hs kf
  | .sdfStuckRun .., kf => exact execSdfStuckRun_stored hs kf
  | .sdfCfgWrite .., kf => exact execSdfCfgWrite_stored hs kf
  | .sdfGainWrite .., kf => exact execSdfGainWrite_stored hs kf
  | .fbLineChange .., kf => exact execFbLineChange_stored hs kf
  | .fbReadingStart .., kf => exact execFbReadingStart_stored hs kf
  | .ssiReadingDone .., kf => exact execSsiReadingDone_stored hs kf
  | .filigreeResponse .., kf => exact execFiligreeResponse_stored hs kf
  | .fbReadingTimeout .., kf => exact execFbReadingTimeout_stored hs kf
  | .fbStandstillTimeout .., kf => exact execFbStandstillTimeout_stored hs kf
  | .fbErrLimit .., kf => exact execFbErrLimit_stored hs kf
  | .fbLimitWrite .., kf => exact execFbLimitWrite_stored hs kf
  | .fbSetWrite .., kf => exact execFbSetWrite_stored hs kf
  | .fbPosLoRead .., kf => exact execFbPosLoRead_stored hs kf
  | .cmpHitNsRead .., kf => exact execCmpHitNsRead_stored hs kf
  | .fbEnWrite .., kf => exact execFbEnWrite_stored hs kf
  | .fbOutEnWrite .., kf => exact execFbOutEnWrite_stored hs kf
  | .encClr .., kf => exact execEncClr_stored hs kf
  | .fbCfgWrite .., kf => exact execFbCfgWrite_stored hs kf
  | .cmpArmWrite .., kf => exact execCmpArmWrite_stored hs kf
  | .cmpEnWrite .., kf => exact execCmpEnWrite_stored hs kf
  | .cmpPulseEnd .., kf => exact execCmpPulseEnd_stored hs kf
  | .loopEnable .., kf => exact execLoopEnable_stored hs kf
  | .loopDisable .., kf => exact execLoopDisable_stored hs kf
  | .loopClrFault .., kf => exact execLoopClrFault_stored hs kf
  | .ldConfigWrite .., kf => exact execLdConfigWrite_stored hs kf
  | .currentLawRun .., kf => exact execCurrentLawRun_stored hs kf
  | .motionLawRun .., kf => exact execMotionLawRun_stored hs kf
  | .customLawRun .., kf => exact execCustomLawRun_stored hs kf
  | .ldRefCommit .., kf => exact execLdRefCommit_stored hs kf
  | .ldSpCommit .., kf => exact execLdSpCommit_stored hs kf
  | .ldSwapReq .., kf => exact execLdSwapReq_stored hs kf
  | .ldBankWrite .., kf => exact execLdBankWrite_stored hs kf
  | .loopSupWarn .., kf => exact execLoopSupWarn_stored hs kf
  | .loopSupFault .., kf => exact execLoopSupFault_stored hs kf
  | .loopBadLimit .., kf => exact execLoopBadLimit_stored hs kf
  | .loopFaultWord .., kf => exact execLoopFaultWord_stored hs kf
  | .lawWcetExceed .., kf => exact execLawWcetExceed_stored hs kf
  | .armCtrlEn .., kf => exact execArmCtrlEn_stored hs kf
  | .armPause .., kf => exact execArmPause_stored hs kf
  | .armResume .., kf => exact execArmResume_stored hs kf
  | .armAbort .., kf => exact execArmAbort_stored hs kf
  | .armClr .., kf => exact execArmClr_stored hs kf
  | .planningTick, kf => exact execPlanningTick_stored hs kf
  | .plannerRun, kf => exact execPlannerRun_stored hs kf
  | .timedMoveStart .., kf => exact execTimedMoveStart_stored hs kf
  | .interpolatorRun .., kf => exact execInterpolatorRun_stored hs kf
  | .plannerKilnStop, kf => exact execPlannerKilnStop_stored hs kf
  | .stpEn .., kf => exact execStpEn_stored hs kf
  | .stpPinArm .., kf => exact execStpPinArm_stored hs kf
  | .stpStop .., kf => exact execStpStop_stored hs kf
  | .stpAbort .., kf => exact execStpAbort_stored hs kf
  | .stpClr .., kf => exact execStpClr_stored hs kf
  | .stepMovePush .., kf => exact execStepMovePush_stored hs kf
  | .stepPreset .., kf => exact execStepPreset_stored hs kf
  | .stepAccWrite .., kf => exact execStepAccWrite_stored hs kf
  | .stepCfgWrite .., kf => exact execStepCfgWrite_stored hs kf
  | .stepDue .., kf => exact execStepDue_stored hs kf
  | .stepPulseEnd .., kf => exact execStepPulseEnd_stored hs kf
  | .stepDsetupExpiry .., kf => exact execStepDsetupExpiry_stored hs kf
  | .stepGroupStart .., kf => exact execStepGroupStart_stored hs kf
  | .stepperDriveRun .., kf => exact execStepperDriveRun_stored hs kf
  | .stepHoldCurrent .., kf => exact execStepHoldCurrent_stored hs kf
  | .kilnRequest .., kf => exact execKilnRequest_stored hs kf
  | .kilnSolveStart .., kf => exact execKilnSolveStart_stored hs kf
  | .kilnSolveDone .., kf => exact execKilnSolveDone_stored hs kf
  | .kilnDeadline .., kf => exact execKilnDeadline_stored hs kf
  | .kilnEnWrite .., kf => exact execKilnEnWrite_stored hs kf
  | .kilnFlush .., kf => exact execKilnFlush_stored hs kf
  | .stkCreate .., kf => exact execStkCreate_stored hs kf
  | .stkDelete .., kf => exact execStkDelete_stored hs kf
  | .stkReadDesc .., kf => exact execStkReadDesc_stored hs kf
  | .stkEnable .., kf => exact execStkEnable_stored hs kf
  | .stkDisable .., kf => exact execStkDisable_stored hs kf
  | .bufCreate .., kf => exact execBufCreate_stored hs kf
  | .bufDelete .., kf => exact execBufDelete_stored hs kf
  | .bufRead .., kf => exact execBufRead_stored hs kf
  | .stkRelease .., kf => exact execStkRelease_stored hs kf
  | .delayListExpiry .., kf => exact execDelayListExpiry_stored hs kf
  | .stkCancel .., kf => exact execStkCancel_stored hs kf
  | .slotInvalidate .., kf => exact execSlotInvalidate_stored hs kf
  | .heldReleaseAccept, kf => exact execHeldReleaseAccept_stored hs kf
  | .slotFill .., kf => exact execSlotFill_stored hs kf
  | .taskReleaseStart .., kf => exact execTaskReleaseStart_stored hs kf
  | .budgetStop .., kf => exact execBudgetStop_stored hs kf
  | .taskDeadlineMiss .., kf => exact execTaskDeadlineMiss_stored hs kf
  | .taskEndReport .., kf => exact execTaskEndReport_stored hs kf
  | .untimedRunEnd .., kf => exact execUntimedRunEnd_stored hs kf
  | .taskFaultReport .., kf => exact execTaskFaultReport_stored hs kf
  | .taskCopyDone .., kf => exact execTaskCopyDone_stored hs kf
  | .tierMeasurement .., kf => exact execTierMeasurement_stored hs kf
  | .bufferCopyDone .., kf => exact execBufferCopyDone_stored hs kf
  | .stkRebalance, kf => exact execStkRebalance_stored hs kf
  | .icFilterChange .., kf => exact execIcFilterChange_stored hs kf
  | .icDelivery t, kf => exact (show answers (execIcDelivery t s) _ from execIcDelivery_stored hs kf)
  | .icClaimRead .., kf => exact execIcClaimRead_stored hs kf
  | .icComplete .., kf => exact execIcComplete_stored hs kf
  | .icHoldoffExpiry .., kf => exact execIcHoldoffExpiry_stored hs kf
  | .icRedirect .., kf => exact execIcRedirect_stored hs kf
  | .icSwSet .., kf => exact execIcSwSet_stored hs kf
  | .icSwClr .., kf => exact execIcSwClr_stored hs kf
  | .icSrcCfgWrite .., kf => exact execIcSrcCfgWrite_stored hs kf
  | .cmpIrqLevelEnd .., kf => exact execCmpIrqLevelEnd_stored hs kf
  | .icPlaneFinding .., kf => exact execIcPlaneFinding_stored hs kf
  | .separationCapture, kf => exact execSeparationCapture_stored hs kf
  | .channelResultPosted .., kf => exact execChannelResultPosted_stored hs kf
  | .channelResultArrival .., kf => exact execChannelResultArrival_stored hs kf
  | .exchangeWindowEnd .., kf => exact execExchangeWindowEnd_stored hs kf
  | .separationCommit, kf => exact execSeparationCommit_stored hs kf
  | .safeInputChange .., kf => exact execSafeInputChange_stored hs kf
  | .safeInputDiscrepancy .., kf => exact execSafeInputDiscrepancy_stored hs kf
  | .testPulseStart .., kf => exact execTestPulseStart_stored hs kf
  | .testPulseEnd .., kf => exact execTestPulseEnd_stored hs kf
  | .safeOutputReadbackFault .., kf => exact execSafeOutputReadbackFault_stored hs kf
  | .outputTestStart .., kf => exact execOutputTestStart_stored hs kf
  | .outputTestEnd .., kf => exact execOutputTestEnd_stored hs kf
  | .brakeDelayExpiry .., kf => exact execBrakeDelayExpiry_stored hs kf
  | .siReqSto .., kf => exact execSiReqSto_stored hs kf
  | .siReqSs1 .., kf => exact execSiReqSs1_stored hs kf
  | .siReqSs2 .., kf => exact execSiReqSs2_stored hs kf
  | .siReqRelease .., kf => exact execSiReqRelease_stored hs kf
  | .siToken .., kf => exact execSiToken_stored hs kf
  | .sackChange .., kf => exact execSackChange_stored hs kf
  | .sackHoldTimeout .., kf => exact execSackHoldTimeout_stored hs kf
  | .tokenExpiry .., kf => exact execTokenExpiry_stored hs kf
  | .psetCrcSweep x _, kf => exact execPsetCrcSweep_stored (_one := x) hs kf
  | .signetTelegramRx .., kf => exact execSignetTelegramRx_stored hs kf
  | .signetWatchdogExpiry .., kf => exact execSignetWatchdogExpiry_stored hs kf
  | .signetDegradedExpiry .., kf => exact execSignetDegradedExpiry_stored hs kf
  | .chainEnWrite .., kf => exact execChainEnWrite_stored hs kf
  | .chainScheduleWrite .., kf => exact execChainScheduleWrite_stored hs kf
  | .chainCycleStart, kf => exact execChainCycleStart_stored hs kf
  | .chainBuildPoint .., kf => exact execChainBuildPoint_stored hs kf
  | .chainFrameLaunch .., kf => exact execChainFrameLaunch_stored hs kf
  | .chainFrameRx .., kf => exact execChainFrameRx_stored hs kf
  | .chainRateRequest, kf => exact execChainRateRequest_stored hs kf
  | .claspLinkDelayRequest .., kf => exact execClaspLinkDelayRequest_stored hs kf
  | .linkDelayAnswer .., kf => exact execLinkDelayAnswer_stored hs kf
  | .chainListenTimeout, kf => exact execChainListenTimeout_stored hs kf
  | .chainColdstartClaim, kf => exact execChainColdstartClaim_stored hs kf
  | .chainBackoffExpiry, kf => exact execChainBackoffExpiry_stored hs kf
  | .chainSourceLost, kf => exact execChainSourceLost_stored hs kf
  | .chainLinkChange .., kf => exact execChainLinkChange_stored hs kf
  | .claspFrameArrival .., kf => exact execClaspFrameArrival_stored hs kf
  | .claspTieWindow .., kf => exact execClaspTieWindow_stored hs kf
  | .claspArbitrateReturn .., kf => exact execClaspArbitrateReturn_stored hs kf
  | .planeComparison, kf => exact execPlaneComparison_stored hs kf
  | .planeSelfFault .., kf => exact execPlaneSelfFault_stored hs kf
  | .planeGiveupAtPort .., kf => exact execPlaneGiveupAtPort_stored hs kf
  | .pcReturn .., kf => exact execPcReturn_stored hs kf
  | .pcHandover, kf => exact execPcHandover_stored hs kf
  | .pcTakeDown .., kf => exact execPcTakeDown_stored hs kf
  | .pcExtTest, kf => exact execPcExtTest_stored hs kf
  | .planeTestDone .., kf => exact execPlaneTestDone_stored hs kf
  | .transferSweepDone .., kf => exact execTransferSweepDone_stored hs kf
  | .transferTimeout .., kf => exact execTransferTimeout_stored hs kf
  | .planeConfirmed, kf => exact execPlaneConfirmed_stored hs kf
  | .extTestDone .., kf => exact execExtTestDone_stored hs kf
  | .lbistSlice .., kf => exact execLbistSlice_stored hs kf
  | .lbistStarved .., kf => exact execLbistStarved_stored hs kf
  | .mbCommandWrite .., kf => exact execMbCommandWrite_stored hs kf
  | .mbPost .., kf => exact execMbPost_stored hs kf
  | .mbFree .., kf => exact execMbFree_stored hs kf
  | .mbTake, kf => exact execMbTake_stored hs kf
  | .mbDone .., kf => exact execMbDone_stored hs kf
  | .mbStatRead .., kf => exact execMbStatRead_stored hs kf
  | .hearthRestart, kf => exact execHearthRestart_stored hs kf
  | .hearthUp, kf => exact execHearthUp_stored hs kf
  | .hmEvtHeadRead, kf => exact execHmEvtHeadRead_stored hs kf
  | .windowTWrite x y, kf => exact execWindowTWrite_stored (_o := x) (_v := y) hs kf
  | .pcieReset .., kf => exact execPcieReset_stored hs kf
  | .movePush .., kf => exact execMovePush_stored hs kf
  | .armCmd .., kf => exact execArmCmd_stored hs kf
  | .armEnable .., kf => exact execArmEnable_stored hs kf
  | .armStatus .., kf => exact execArmStatus_stored hs kf
  | .armOverride .., kf => exact execArmOverride_stored hs kf
  | .stepMove .., kf => exact execStepMove_stored hs kf
  | .stepCmd .., kf => exact execStepCmd_stored hs kf
  | .torqueRef .., kf => exact execTorqueRef_stored hs kf
  | .safeReq .., kf => exact execSafeReq_stored hs kf
  | .safeToken .., kf => exact execSafeToken_stored hs kf
  | .safeStatus .., kf => exact execSafeStatus_stored hs kf
  | .psetStage .., kf => exact execPsetStage_stored hs kf
  | .psetInfo .., kf => exact execPsetInfo_stored hs kf
  | .timeGet .., kf => exact execTimeGet_stored hs kf
  | .timeSet .., kf => exact execTimeSet_stored hs kf
  | .timeSource .., kf => exact execTimeSource_stored hs kf
  | .timeRestart .., kf => exact execTimeRestart_stored hs kf
  | .timeRate .., kf => exact execTimeRate_stored hs kf
  | .portComp .., kf => exact execPortComp_stored hs kf
  | .pulseSched .., kf => exact execPulseSched_stored hs kf
  | .captureCfg .., kf => exact execCaptureCfg_stored hs kf
  | .captureRead .., kf => exact execCaptureRead_stored hs kf
  | .lktRead .., kf => exact execLktRead_stored hs kf
  | .lktInfo .., kf => exact execLktInfo_stored hs kf
  | .lktFlush .., kf => exact execLktFlush_stored hs kf
  | .lktFilter .., kf => exact execLktFilter_stored hs kf
  | .lktMark .., kf => exact execLktMark_stored hs kf
  | .updBegin .., kf => exact execUpdBegin_stored hs kf
  | .updData .., kf => exact execUpdData_stored hs kf
  | .updVerify .., kf => exact execUpdVerify_stored hs kf
  | .updActivate .., kf => exact execUpdActivate_stored hs kf
  | .updStatus .., kf => exact execUpdStatus_stored hs kf
  | .updAbort .., kf => exact execUpdAbort_stored hs kf
  | .updProvingDone, kf => exact execUpdProvingDone_stored hs kf
  | .updFailure .., kf => exact execUpdFailure_stored hs kf
  | .safetyChannelRestartDone, kf => exact execSafetyChannelRestartDone_stored hs kf
  | .identityCmd .., kf => exact execIdentityCmd_stored hs kf
  | .attestationReport .., kf => exact execAttestationReport_stored hs kf
  | .configWriteCmd .., kf => exact execConfigWriteCmd_stored hs kf
  | .configReadCmd .., kf => exact execConfigReadCmd_stored hs kf
  | .setInfo .., kf => exact execSetInfo_stored hs kf
  | .setRead .., kf => exact execSetRead_stored hs kf
  | .setWrite .., kf => exact execSetWrite_stored hs kf
  | .keyProgram .., kf => exact execKeyProgram_stored hs kf
  | .keyRevoke .., kf => exact execKeyRevoke_stored hs kf
  | .seal .., kf => exact execSeal_stored hs kf
  | .placementTaskCmd .., kf => exact execPlacementTaskCmd_stored hs kf
  | .placementBufferCmd .., kf => exact execPlacementBufferCmd_stored hs kf
  | .placementRebalCmd .., kf => exact execPlacementRebalCmd_stored hs kf
  | .regReadCmd .., kf => exact execRegReadCmd_stored hs kf
  | .regWriteCmd .., kf => exact execRegWriteCmd_stored hs kf
  | .chainScheduleCmd .., kf => exact execChainScheduleCmd_stored hs kf
  | .chainCtrlCmd .., kf => exact execChainCtrlCmd_stored hs kf
  | .claspMapCmd .., kf => exact execClaspMapCmd_stored hs kf
  | .kilnPostCmd .., kf => exact execKilnPostCmd_stored hs kf
  | .kilnResultCmd .., kf => exact execKilnResultCmd_stored hs kf
  | .qspiRead .., kf => exact execQspiRead_stored hs kf
  | .qspiWrite .., kf => exact execQspiWrite_stored hs kf
  | .hci1Post, kf => exact execHci1Post_stored hs kf
  | .hci1Free, kf => exact execHci1Free_stored hs kf
  | .hci1Identity, kf => exact execHci1Identity_stored hs kf
  | .hci1AbsMove, kf => exact execHci1AbsMove_stored hs kf
  | .hci1RelMove, kf => exact execHci1RelMove_stored hs kf
  | .hci1Stop, kf => exact execHci1Stop_stored hs kf
  | .hci1Status, kf => exact execHci1Status_stored hs kf
  | .hci1ReadTime, kf => exact execHci1ReadTime_stored hs kf
  | .locketPost .., kf => exact execLocketPost_stored hs kf
  | .locketFlush .., kf => exact execLocketFlush_stored hs kf
  | .locketFlushDone, kf => exact execLocketFlushDone_stored hs kf
  | .locketPeriodExpiry, kf => exact execLocketPeriodExpiry_stored hs kf
  | .lkFlushWrite, kf => exact execLkFlushWrite_stored hs kf
  | .lkIndexLoRead .., kf => exact execLkIndexLoRead_stored hs kf
  | .pfFlushDone, kf => exact execPfFlushDone_stored hs kf
  | .mirrorWrite, kf => exact execMirrorWrite_stored hs kf
  | .keepaliveTick .., kf => exact execKeepaliveTick_stored hs kf
  | .boot, kf => exact execBoot_stored hs kf
  | .imageVerified, kf => exact execImageVerified_stored hs kf
  | .otpProgram .., kf => exact execOtpProgram_stored hs kf
  | .otpProgramDone .., kf => exact execOtpProgramDone_stored hs kf
  | .pinRelTime, kf => exact execPinRelTime_stored hs kf
  | .pinRelSdclk, kf => exact execPinRelSdclk_stored hs kf
  | .pinRelFbo, kf => exact execPinRelFbo_stored hs kf
  | .pinRelStep, kf => exact execPinRelStep_stored hs kf
  | .pinRelGate, kf => exact execPinRelGate_stored hs kf
  | .por .., kf => exact execPor_stored hs kf
  | .brownout .., kf => exact execBrownout_stored hs kf
  | .rstNLow, kf => exact execRstNLow_stored hs kf
  | .rstNHigh, kf => exact execRstNHigh_stored hs kf
  | .resetStuck, kf => exact execResetStuck_stored hs kf
  | .rstNRehonour, kf => exact execRstNRehonour_stored hs kf
  | .pfailAssert .., kf => exact execPfailAssert_stored hs kf
  | .pfRestart .., kf => exact execPfRestart_stored hs kf
  | .sdfStuckRunEnd .., kf => exact execSdfStuckRunEnd_stored hs kf
  | .ptpDelayReqTx .., kf => exact execPtpDelayReqTx_stored hs kf
  | .coreSupplyWindowFault, kf => exact execCoreSupplyWindowFault_stored hs kf

end Sys2Proof.Machine
end

