-- ==== Sys2Proof/WellFormed.lean ====
section
/-! DEFINITION. What a well-formed command is: the lengths and ranges that the spec gives an operand which Lean's type leaves
wider. `exec` is total: it gives an ill-formed command a meaning too; a claim that needs the range says so. -/

namespace Sys2Proof

/-- The octets of a frame on a wire: 64 to 1,518, or 1,522 with a tag, among which 18 of header and FCS are not in `bytes` (02 R83,
R84). -/
def EthFrame.wf (f : EthFrame) : Bool := decide (f.bytes.length ≤ f.len)

/-- A command whose operands are as the rule of its row allows. -/
def Instr.wf : Instr → Bool
  | .ethFrameRx _ f _ => f.wf
  | .calRoundDone _ _ hist => decide (hist.length = 64 ∧ hist.sum = 65536)
  | .customLawRun _ (.edges ws) _ => decide (ws.length ≤ 4)
  | .chainScheduleWrite o bytes => decide (o + bytes.length ≤ 32768)
  | .chainScheduleCmd _ o bytes => decide (o + bytes.length ≤ 32768)
  | .mbCommandWrite _ o bytes => decide (o + bytes.length ≤ 4096)
  | .windowTWrite o _ => decide (o % 4 = 0)
  | .attestationReport _ nonce => decide (nonce.length = 32)
  | .keyProgram _ _ key => decide (key.length = 64)
  | .keyRevoke _ _ _ _ sig => decide (sig.length = 64)
  | .placementTaskCmd _ _ _ d => decide (d.length = 16)
  | .placementBufferCmd _ _ _ d => decide (d.length = 4)
  | .locketPost type _ _ payload _ => decide (type < 65536 ∧ payload.length ≤ 6)
  | _ => true

end Sys2Proof
end

