-- ==== Sys2Proof/Tests/Slice0.lean ====
section
/-! SUPPORT. Tests on fixed values: the checks of Instr.wf, words of instructions, worked examples, single commands, and for each statement
that has hypotheses states and operands that meet them, clause by clause. -/

namespace Sys2Proof.Tests

open Sys2Proof Sys2Proof.Machine

set_option maxRecDepth 20000
set_option Elab.async false

/-- Tile 0 runs a task in native mode. -/
def nativeTile : State := State.reset.setTile 0 { State.reset.tile 0 with task := some 600, pc := 0x40000 }
/-- Tile 0 runs a task in MX-16 mode. -/
def mxTile : State := State.reset.setTile 0 { State.reset.tile 0 with task := some 600, pc := 0x40000, sr := 0x80 }

/-! Well-formedness: one ill-formed command per check of `Instr.wf`. -/

theorem test_wf_frame : Instr.wf (.ethFrameRx 0 { fcsOk := true, len := 1, vid := none, dst := 0, src := 0, content := .other, bytes := [0, 0] } 0) = false := by decide +kernel
theorem test_wf_histogram : Instr.wf (.calRoundDone 0 0 [65536]) = false := by decide +kernel
theorem test_wf_edges : Instr.wf (.customLawRun 0 (.edges [(0, 0), (0, 0), (0, 0), (0, 0), (0, 0)]) 0) = false := by decide +kernel
theorem test_wf_schedule : Instr.wf (.chainScheduleWrite 32768 [0]) = false := by decide +kernel
theorem test_wf_schedule_cmd : Instr.wf (.chainScheduleCmd 0 32768 [0]) = false := by decide +kernel
theorem test_wf_mailbox : Instr.wf (.mbCommandWrite 0 4096 [0]) = false := by decide +kernel
theorem test_wf_window : Instr.wf (.windowTWrite 2 0) = false := by decide +kernel
theorem test_wf_nonce : Instr.wf (.attestationReport 0 []) = false := by decide +kernel
theorem test_wf_key : Instr.wf (.keyProgram 0 0 []) = false := by decide +kernel
theorem test_wf_signature : Instr.wf (.keyRevoke 0 false 0 0 []) = false := by decide +kernel
theorem test_wf_task : Instr.wf (.placementTaskCmd 0 0 0 []) = false := by decide +kernel
theorem test_wf_buffer : Instr.wf (.placementBufferCmd 0 0 0 []) = false := by decide +kernel
theorem test_wf_record : Instr.wf (.locketPost 0 0 0 [0, 0, 0, 0, 0, 0, 0] 0) = false := by decide +kernel

/-! Words of instructions: the filter pass and `acs2` as the spec encodes them (09, the worked examples), and one word written out from
the tables for every other class (R308 to R331) and every group of MX-16 (R332). -/

theorem test_word_clr : decodeNative 0 0x5040003C 0 = some (.clr 0 0xF) := rfl
theorem test_word_rpt : decodeNative 0 0x0030001F 0 = some (.rptImm 0 31) := rfl
theorem test_word_qmac : decodeNative 0 0x72000C78 0 = some (.qmacMem 0 true 0 (.postImm 0 1) (.postImm 0 7)) := rfl
theorem test_word_nop : decodeNative 0 0x00000000 0 = some (.nop 0) := rfl
theorem test_word_mvr : decodeNative 0 0x52615000 0 = some (.mvr 0 true 5 1) := rfl
theorem test_word_stq : decodeNative 0 0x10540095 0 = some (.stq 0 1 (.postImm 5 (.imm5 4))) := rfl
theorem test_word_acs2 : decodeNative 0 0x78282340 0 = some (.acs2 0 false 8 2 3 4) := rfl
theorem test_word_acs2_s : decodeNative 0 0x7A282340 0 = some (.acs2 0 true 8 2 3 4) := rfl
theorem test_word_erased : decodeNative 0 0xFFFFFFFF 0 = none := rfl
theorem test_word_branch : decodeNative 0 0x08010004 0 = some (.bCc 0 1 4) := rfl
theorem test_word_ld : decodeNative 0 0x10030052 0 = some (.ld 0 3 (.postImm 2 (.imm5 2))) := rfl
theorem test_word_ld2 : decodeNative 0 0x180A0082 0 = some (.ld2 0 5 (.plain 2) (.plain 1)) := rfl
theorem test_word_ldi : decodeNative 0 0x24050000 0x00ABCDEF = some (.ldiD 0 5 (.long 0xABCDEF)) := rfl
theorem test_word_mov : decodeNative 0 0x28010640 0 = some (.mov 0 (.d 1) (.p 3)) := rfl
theorem test_word_add : decodeNative 0 0x42012300 0 = some (.add 0 true 1 2 3) := rfl
theorem test_word_addi : decodeNative 0 0x4801FFFF 0 = some (.addi 0 false 1 (.short 0xFFFF)) := rfl
theorem test_word_mpy : decodeNative 0 0x60084500 0 = some (.mpy 0 false 2 4 5) := rfl
theorem test_word_dmac : decodeNative 0 0x68166700 0 = some (.dmacReg 0 false false true true false 6 7) := rfl
theorem test_word_padd : decodeNative 0 0x80030008 0 = some (.padd 0 3 (.short 8)) := rfl
theorem test_mx_nop : decodeMx 0 0x0000 0 = some (.mxNop 0) := rfl
theorem test_mx_branch : decodeMx 0 0x12FF 0 = some (.mxBranch 0 2 0xFF) := rfl
theorem test_mx_call : decodeMx 0 0x2100 0x0123 = some (.mxCall 0 0x0123) := rfl
theorem test_mx_load : decodeMx 0 0x3300 0x0040 = some (.mxLoadDirect 0 3 0x0040) := rfl
theorem test_mx_store : decodeMx 0 0x4A53 0 = some (.mxStoreIndirect 0 2 (.offset 1 3)) := rfl
theorem test_mx_sub : decodeMx 0 0x5170 0 = some (.mxAluReg 0 1 3 4) := rfl
theorem test_mx_addi : decodeMx 0 0x6040 7 = some (.mxAluImm 0 .add 2 7) := rfl
theorem test_mx_mpyr : decodeMx 0 0x7C55 0 = some (.mxMpyr 0 5 1 2) := rfl
theorem test_mx_mac : decodeMx 0 0x8770 0 = some (.mxMacMem 0 1 1 1 .up .byM) := rfl
theorem test_mx_shl : decodeMx 0 0x9584 0 = some (.mxAccShl 0 1 4) := rfl
theorem test_mx_ix : decodeMx 0 0xA605 0 = some (.mxIxAdd 0 2 5) := rfl
theorem test_mx_in : decodeMx 0 0xB109 0 = some (.mxIn 0 1 9) := rfl
theorem test_mx_status : decodeMx 0 0xCE00 0 = some (.mxStatusWrite 0 6) := rfl
theorem test_mx_erased : decodeMx 0 0xFFFF 0 = none := rfl

/-! The spec's worked examples, and the published check values of its codes over the nine characters 1 to 9. -/

/-- The bytes 0x31 to 0x39. -/
def digits : List Byte := [0x31, 0x32, 0x33, 0x34, 0x35, 0x36, 0x37, 0x38, 0x39]
theorem test_crc32c : crc32c digits = 0xE3069283 := by decide +kernel
theorem test_crc32 : crc32 digits = 0xCBF43926 := by decide +kernel
theorem test_crc24 : crc24 digits = 0x21CF02 := by decide +kernel
/-- 02, after R55. -/
theorem test_stamp : stampBytes 1767225637 250000123 128 0 false
    = [0x25, 0xB9, 0x55, 0x69, 0, 0, 0, 0, 0xFB, 0xB2, 0xE6, 0x0E, 0x80, 0, 0, 0] := by decide +kernel
/-- 00, after R16: the arm and a leg's item of the example are addresses, the arm with a low field that is not all ones is none. -/
theorem test_address : addrOk 0x0314B3FB = true ∧ addrOk 0x0314B107 = true ∧ addrOk 0x0314B37B = false := by decide +kernel
/-- 05 R175: d = 0.4 at 31.25 us is a rise at 9,375 ns and a fall at 21,875 ns. -/
theorem test_duty : dutyWords 8000000 (2 / 5) = (9375 * 256, 21875 * 256) := by decide +kernel
/-- 08, after R293. -/
theorem test_circular : circ (0x10FC + 4) 0x1000 0x100 = 0x1000 ∧ circ (0x1004 - 8) 0x1000 0x100 = 0x10FC := by decide +kernel
/-- 09, after R330. -/
theorem test_acs2 : acs2Writes { d := [(2, 0x200000), (3, 0x300000), (4, 0x100000)], tr := 5 }
    true false 8 2 3 4 = [(3, .d 8 0x300000), (3, .d 9 0x400000), (3, .ctl 1 0x15)] := by decide +kernel
/-- 07, after R260: the factorisation counts one zero pivot, and the solution is (1.5, 0, 1). -/
theorem test_ldlt : (triSolve false 3 (factorise false false 3 20 24 3 [[4, 2, 2], [2, 1, 1], [2, 1, 3]]) [8, 4, 6]).1 = [3 / 2, 0, 1]
    ∧ (factorise false false 3 20 24 3 [[4, 2, 2], [2, 1, 1], [2, 1, 3]]).zero = 1 := by decide +kernel

/-! Single commands from a small state. -/

/-- The next state of a command. -/
def after (c : Instr) (s : State) : State := match exec c s with | .next t => t | _ => s
theorem test_clock_refused : (after (.islClkWrite 3) State.reset).is ISL_STAT.SEL_REFUSED = true := by decide +kernel
theorem test_rate_clamped : (after (.tbRateWrite 0x7FFFFFFF) State.reset).rd TB_RATE = 137438953 := by decide +kernel
theorem test_w1c : (after (.registerWrite .host ISL_STAT 4 0) (State.reset.wr ISL_STAT 12)).rd ISL_STAT = 8 := by decide +kernel
theorem test_rc : (after (.readClear .host (OVR_CNT 3) none) (State.reset.wr (OVR_CNT 3) 9)).rdata = [9] := by decide +kernel
theorem test_capture : (after (.tcapEdge 2 true 1003) (State.reset.put (TCAP_CTRL.EN 2) 1)).rd (TCAP_OVF 2) = 0 := by decide +kernel
theorem test_pulse_range : (after (.tpoGo 1) (State.reset.put (TPO_CTRL.ARM 1) 1)).is (TPO_STAT.BADCFG 1) = true := by decide +kernel
theorem test_link : (after (.ethLinkChange 1 true true) State.reset).is (ETH_STAT.LINK_CHG 1) = true := by decide +kernel
theorem test_nop_pc : ((after (.nop 0) nativeTile).tile 0).pc = 0x40004 := by decide +kernel
theorem test_store : (after (.st 0 5 (.plain 0)) (State.reset.setTile 0 { nativeTile.tile 0 with d := [(5, 0xFFFFFE)] })).tword 0 0 = 0xFFFFFFFE := by
  decide +kernel
theorem test_front : (match step (State.reset.withPending [.refLoss, .nop 0]) with | .next t => t.pending.length | _ => 9) = 1 := by decide +kernel

/-! States and operands that meet the hypotheses of each statement, one part for each clause that has some. -/

theorem pair_rfl {α β : Type} {p : α × β} : p = (p.1, p.2) := rfl
theorem triple_rfl {α β γ : Type} {p : α × β × γ} : p = (p.1, p.2.1, p.2.2) := rfl
theorem pair_eq {α β : Type} {p : α × β} {b : β} (h : p.2 = b) : p = (p.1, b) := by cases h; rfl

/-- An Ethernet port with a link and an owned entry of 64 bytes at the head of its transmit ring. -/
def stSend : State := { (((State.reset.put (ETH_CTRL.EN 0) 1).put (ETH_STAT.LINK 0) 1).wr (ETH_TX_TAIL 0) 1) with
  stk := { State.reset.stk with bufs := [(0, { tier := 2 })] }, mem := memWriteN [] (bufHome 0 2 0 0) (leBytes 4 0x80000040) }
theorem stSend_entry : stSend.entryWord (ETH_TX_BUF 0) 0 = 0x80000040 := by
  have h : stSend.entryWord (ETH_TX_BUF 0) 0
      = ofLeBytes (memReadN (memWriteN [] (bufHome 0 2 0 0) (leBytes 4 0x80000040)) (bufHome 0 2 0 0) (leBytes 4 0x80000040).length) := rfl
  rw [h, memReadN_memWriteN _ _ _ (by decide)]; rfl

/-- A state with a command waiting, a byte in memory and an OTP bit programmed. -/
def stCore : State := { State.reset with pending := [.pllFirstLock], mem := [(5, 7)], boot := { State.reset.boot with otp := [(3, 1)] } }
theorem witness_StepRunsFront : ∃ s : State, s.pending = [] := ⟨State.reset, rfl⟩
theorem witness_StepKeepsMemoryCanonical : ∃ s t : State, s.memoryWf ∧ step s = .next t := ⟨stCore, _, by decide +kernel, rfl⟩
theorem witness_StepKeepsOtpBits : ∃ (s t : State) (a i : Nat), step s = .next t ∧ (s.otpWord a).getLsbD i = true := ⟨stCore, _, 3, 0, rfl, by decide +kernel⟩
theorem witness_StepTakesFront : ∃ s t : State, step s = .next t := ⟨stCore, _, rfl⟩
theorem witness_TimeAndFreeValuesGoForward : ∃ s t : State, step s = .next t := ⟨stCore, _, rfl⟩
theorem witness_InstructionWordsRoundTrip : (∃ (i : Instr) (t : Fin 32) (b e : Word), encodeNative i = some (t, b, e))
    ∧ (∃ (i : Instr) (t : Fin 32) (f g : BitVec 16), encodeMx i = some (t, f, g))
    ∧ (∃ (i : Instr) (t : Fin 32) (b e : Word), decodeNative t b e = some i ∧ b.getLsbD 26 = true)
    ∧ (∃ (i : Instr) (t : Fin 32) (f g : BitVec 16), decodeMx t f g = some i) :=
  ⟨⟨.add 7 true 1 2 3, _, _, _, rfl⟩, ⟨.mxAluImm 7 .add 2 7, _, _, _, rfl⟩, ⟨_, 0, 0x24050000, 0x00ABCDEF, test_word_ldi, by decide +kernel⟩, ⟨_, 0, _, _, test_mx_mac⟩⟩
theorem witness_ReservedWordsRefused : (∃ (i : Instr) (t : Fin 32) (b e : Word), decodeNative t b e = some i) ∧ (∃ (i : Instr) (t : Fin 32) (f g : BitVec 16), decodeMx t f g = some i) :=
  ⟨⟨_, 0, _, _, test_word_add⟩, ⟨_, 0, _, _, test_mx_status⟩⟩

theorem witness_ClockAndPeriodCommandsComplete :
    (∃ (v : Word) (s : State), s.anyArmed = false ∧ getBits v 0 2 ≠ 3 ∧ getBits v 4 2 ≠ 3)
    ∧ (∃ (s : State), s.anyArmed = false)
    ∧ (∃ (s : State), s.time.clockFault = false)
    ∧ (∃ (s : State), s.time.start = none ∧ s.is ISL_STAT.PLL_LOCK = true)
    ∧ (∃ (s : State), s.seq.running = true ∧ s.seq.restartDue (s.boundary s.seq.next) = false)
    ∧ (∃ (r : Time) (s : State), s.seq.restart = some r) :=
  ⟨⟨0, (State.reset), (by decide +kernel)⟩,
   ⟨(State.reset), (by decide +kernel)⟩,
   ⟨(State.reset), (by decide +kernel)⟩,
   ⟨((State.reset.put (ISL_STAT.PLL_LOCK) 1)), (by decide +kernel)⟩,
   ⟨(({ State.reset with seq := { State.reset.seq with running := true } } : State)), (by decide +kernel)⟩,
   ⟨320000, (({ State.reset with seq := { State.reset.seq with running := true, restart := some 320000 } } : State)), (by decide +kernel)⟩⟩

theorem witness_ClockSelectRule :
    (∃ (v : Word) (s : State), s.anyArmed = false ∧ getBits v 0 2 ≠ 3 ∧ getBits v 4 2 ≠ 3)
    ∧ (∃ (v : Word) (s : State), (s.anyArmed = true ∨ getBits v 0 2 = 3 ∨ getBits v 4 2 = 3)) :=
  ⟨⟨0, (State.reset), (by decide +kernel)⟩,
   ⟨3, (State.reset), (by decide +kernel)⟩⟩

theorem witness_RegisterAccessComplete :
    (∃ (who : Who) (s : State), s.acts who = true)
    ∧ (∃ (who : Who) (r : Reg) (s : State), who ≠ .windowT ∧ s.writes who r = false ∧ ((∀ k, r ≠ .ic (.IC_SW_CLR k))))
    ∧ (∃ (who : Who), who ≠ .windowT) :=
  ⟨⟨.hearth, (State.reset), (by decide +kernel)⟩,
   ⟨(.tile 31), PERIOD_CNT, (State.reset), (by decide +kernel)⟩,
   ⟨.hearth, (by decide +kernel)⟩⟩

theorem witness_SameCycleRule :
    (∃ (who : Who) (r : Reg), who ≠ .windowT ∧ ((∀ k, r ≠ .ic (.IC_SW_CLR k))))
    ∧ (∃ (who : Who) (r : Reg) (s : State), s.acts who = true ∧ r.rcMask ≠ 0) :=
  ⟨⟨.hearth, ISL_STAT, (by decide +kernel)⟩,
   ⟨.hearth, (OVR_CNT 0), ((State.reset.wr (OVR_CNT 0) 5)), (by decide +kernel)⟩⟩

theorem witness_TimeServiceComplete :
    (∃ (d : Int) (at_ : Nat) (nx : Nat) (s : State), s.time.step = some (d, at_, nx) ∧ s.chain.announce = false)
    ∧ (∃ (sec : Nat) (ns : Nat) (s : State), s.time.setCross = some (sec, ns) ∧ s.get TB_STAT.STATE = 0 ∧ s.time.step = none ∧ s.get TB_CTRL.SOURCE = 0)
    ∧ (∃ (s : State), s.get TB_CTRL.SOURCE = 0)
    ∧ (∃ (src : Fin 4), src ≠ 3)
    ∧ (∃ (s : State), s.get TB_CTRL.SOURCE = 2)
    ∧ (∃ (p : Fin 4) (s : State), s.masterPort p = true ∧ s.ethSends p = true)
    ∧ (∃ (p : Fin 4) (s : State), s.gwPort p = true ∧ s.ethSends p = true) :=
  ⟨⟨5120, 10240, 1, (({ State.reset with time := { State.reset.time with step := some (5120, 10240, 1) } } : State)), (by decide +kernel)⟩,
   ⟨7, 33, (({ State.reset with time := { State.reset.time with setCross := some (7, 33) } } : State)), (by decide +kernel)⟩,
   ⟨(State.reset), (by decide +kernel)⟩,
   ⟨0, (by decide +kernel)⟩,
   ⟨((State.reset.put (TB_CTRL.SOURCE) 2)), (by decide +kernel)⟩,
   ⟨0, ((((State.reset.put (TB_CTRL.MASTER_PORTS) 1).put (ETH_CTRL.EN 0) 1).put (ETH_STAT.LINK 0) 1)), (by decide +kernel)⟩,
   ⟨0, ((((State.reset.put (TB_CTRL.GW_PORTS) 1).put (ETH_CTRL.EN 0) 1).put (ETH_STAT.LINK 0) 1)), (by decide +kernel)⟩⟩

theorem witness_RateWriteRule :
    (∃ (v : Word) (s : State), s.get TB_CTRL.SOURCE = 0 ∧ -137438953 ≤ v.toInt ∧ v.toInt ≤ 137438953)
    ∧ (∃ (v : Word) (s : State), s.get TB_CTRL.SOURCE = 0 ∧ (v.toInt < -137438953 ∨ 137438953 < v.toInt))
    ∧ (∃ (s : State), s.get TB_CTRL.SOURCE ≠ 0) :=
  ⟨⟨0, (State.reset), (by decide +kernel)⟩,
   ⟨0x80000000, (State.reset), (by decide +kernel)⟩,
   ⟨((State.reset.put (TB_CTRL.SOURCE) 1)), (by decide +kernel)⟩⟩

theorem witness_PulsesAndCapturesComplete :
    (∃ (n : Fin 8) (rise : Bool) (s : State), s.is (TCAP_CTRL.EN n) = true ∧ s.capSelects n rise = true ∧ (tget s.caps n []).length < 16 ∧ s.is (TCAP_CTRL.LOCKET n) = false)
    ∧ (∃ (n : Fin 8) (rise : Bool) (s : State), s.is (TCAP_CTRL.EN n) = true ∧ s.capSelects n rise = true ∧ 16 ≤ (tget s.caps n []).length ∧ s.is (TCAP_CTRL.LOCKET n) = false)
    ∧ (∃ (n : Fin 8) (e : CapEntry) (r : List CapEntry) (s : State), tget s.caps n [] = e :: r)
    ∧ (∃ (s : State), s.is PIN_REL.TIME = true)
    ∧ (∃ (n : Fin 8) (s : State), s.is (TPO_CTRL.ARM n) = true ∧ 1000 * nsUnits ≤ (s.tpoProgram n).period ∧ 8 * nsUnits ≤ (s.tpoProgram n).width ∧ (s.tpoProgram n).width + 8 * nsUnits ≤ (s.tpoProgram n).period ∧ (tget s.pulses n {}).high = false)
    ∧ (∃ (n : Fin 8) (p : Pulse) (s : State), (tget s.pulses n {}).cur = some p ∧ (tget s.pulses n {}).high = false)
    ∧ (∃ (n : Fin 8) (p : Pulse) (s : State), (tget s.pulses n {}).cur = some p ∧ (tget s.pulses n {}).high = true ∧ (tget s.pulses n {}).next = none ∧ p.total = some (p.k + 1)) :=
  ⟨⟨0, true, ((State.reset.put (TCAP_CTRL.EN 0) 1)), (by decide +kernel)⟩,
   ⟨0, true, ({ (State.reset.put (TCAP_CTRL.EN 0) 1) with caps := tset [] 0 (List.replicate 16 { sec := 5, ns := 7, frac := 16, rise := true, state := 0 }) }), (by decide +kernel)⟩,
   ⟨0, ({ sec := 5, ns := 7, frac := 16, rise := true, state := 0 }), ([]), ({ State.reset with caps := tset [] 0 [{ sec := 5, ns := 7, frac := 16, rise := true, state := 0 }] }), (by decide +kernel)⟩,
   ⟨((State.reset.put (PIN_REL.TIME) 1)), (by decide +kernel)⟩,
   ⟨0, (((((State.reset.put (TPO_CTRL.ARM 0) 1).wr (TPO_PERIOD_NS 0) 2000).wr (TPO_WIDTH_NS 0) 100).wr (TPO_START_NS 0) 50000)), (by decide +kernel)⟩,
   ⟨0, ({ start := 400000, period := 300000, width := 5000, periodic := true, count := 3, k := 2 }), ({ State.reset with pulses := tset [] 0 { cur := some { start := 400000, period := 300000, width := 5000, periodic := true, count := 3, k := 2 } } }), (by decide +kernel)⟩,
   ⟨0, ({ start := 400000, period := 300000, width := 5000, periodic := true, count := 3, k := 2 }), ({ State.reset with pulses := tset [] 0 { cur := some { start := 400000, period := 300000, width := 5000, periodic := true, count := 3, k := 2 }, high := true } }), (by decide +kernel)⟩⟩

theorem witness_PulseRangeRule :
    (∃ (n : Fin 8) (s : State), s.is (TPO_CTRL.ARM n) = true ∧ ((s.tpoProgram n).period < 1000 * 256 ∨ (s.tpoProgram n).width < 8 * 256 ∨ (s.tpoProgram n).period < (s.tpoProgram n).width + 8 * 256))
    ∧ (∃ (n : Fin 8) (s : State), s.is (TPO_CTRL.ARM n) = true ∧ 1000 * 256 ≤ (s.tpoProgram n).period ∧ 8 * 256 ≤ (s.tpoProgram n).width ∧ (s.tpoProgram n).width + 8 * 256 ≤ (s.tpoProgram n).period ∧ (tget s.pulses n {}).high = false) :=
  ⟨⟨0, (((((State.reset.put (TPO_CTRL.ARM 0) 1).wr (TPO_PERIOD_NS 0) 2000).wr (TPO_WIDTH_NS 0) 1993).wr (TPO_START_NS 0) 50000)), (by decide +kernel)⟩,
   ⟨0, (((((State.reset.put (TPO_CTRL.ARM 0) 1).wr (TPO_PERIOD_NS 0) 2000).wr (TPO_WIDTH_NS 0) 1992).wr (TPO_START_NS 0) 50000)), (by decide +kernel)⟩⟩

theorem witness_EthernetCommandsComplete :
    (∃ (p : Fin 4) (f : EthFrame) (at_ : Nat) (s : State), (s.advance at_).is (ETH_CTRL.EN p) = true ∧ (s.advance at_).is (ETH_STAT.LINK p) = true ∧ (s.advance at_).ethFrameOk p f = true)
    ∧ (∃ (p : Fin 4) (f : EthFrame) (at_ : Nat) (s : State), (s.advance at_).is (ETH_CTRL.EN p) = true ∧ (s.advance at_).is (ETH_STAT.LINK p) = true ∧ (s.advance at_).ethFrameOk p f = false)
    ∧ (∃ (p : Fin 4) (k : Nat) (w : Nat) (n : Nat) (s : State), k = getBits (s.rd (ETH_TX_HEAD p)) 0 10 ∧ w = s.entryWord (ETH_TX_BUF p) k ∧ n = w % 2 ^ 14 ∧ s.ethSends p = true ∧ k ≠ getBits (s.rd (ETH_TX_TAIL p)) 0 10 ∧ w.testBit 31 = true ∧ s.signetWaits p = false ∧ 14 ≤ n ∧ n ≤ 1518)
    ∧ (∃ (c : Fin 64) (o : SafeObject) (n : Nat) (tel : List Byte) (p : Fin 4) (s : State), s.object c = some o ∧ tget s.si.tx c (0, []) = (n, tel) ∧ o.conn.txId ≠ 0 ∧ o.conn.txPort = p.val ∧ tel ≠ [] ∧ s.ethSends p = true ∧ (s.conn c).sender = none ∧ s.is (ETH_CTRL.IP6_TX p) = true)
    ∧ (∃ (p : Fin 4) (s : State), s.is (ETH_CTRL.EN p) = false)
    ∧ (∃ (s : State), s.is ETH_MDIO_STAT.BUSY = false)
    ∧ (∃ (x : MdioOp) (s : State), s.eth.mdio = some x ∧ x.rd = true) :=
  ⟨⟨0, ({ fcsOk := true, len := 64, vid := none, dst := 0xFFFFFFFFFFFF, src := 0x020000000001, content := .other, bytes := [] }), 0, (((State.reset.put (ETH_CTRL.EN 0) 1).put (ETH_STAT.LINK 0) 1)), (by decide +kernel)⟩,
   ⟨0, ({ fcsOk := false, len := 64, vid := none, dst := 0xFFFFFFFFFFFF, src := 0x020000000001, content := .other, bytes := [] }), 0, (((State.reset.put (ETH_CTRL.EN 0) 1).put (ETH_STAT.LINK 0) 1)), (by decide +kernel)⟩,
   ⟨0, 0, 0x80000040, 64, stSend, by decide +kernel, stSend_entry.symm, by decide +kernel⟩,
   ⟨0, ({ (default : SafeObject) with conn := { (default : SignetRec) with txId := 5, txUdp := 7 } }), 1, ([0]), 0, (({ (((State.reset.put (ETH_CTRL.EN 0) 1).put (ETH_STAT.LINK 0) 1).put (ETH_CTRL.IP6_TX 0) 1) with si := { (((State.reset.put (ETH_CTRL.EN 0) 1).put (ETH_STAT.LINK 0) 1).put (ETH_CTRL.IP6_TX 0) 1).si with set := some { objects := [{ (default : SafeObject) with conn := { (default : SignetRec) with txId := 5, txUdp := 7 } }] }, tx := tset [] 0 (1, [0]) } } : State)), (by decide +kernel)⟩,
   ⟨0, (State.reset), (by decide +kernel)⟩,
   ⟨(State.reset), (by decide +kernel)⟩,
   ⟨({ rd := true, phy := 1, reg := 2, since := 100 }), (({ State.reset with eth := { State.reset.eth with mdio := some { rd := true, phy := 1, reg := 2, since := 100 } } } : State)), (by decide +kernel)⟩⟩

theorem witness_PortStatesComplete :
    (∃ (n : Fin 64) (s : State), s.get (PWM_STAT.STATE n) = 0 ∧ s.canArm n = true ∧ (¬ (s.boot.upd.stage = 4 ∧ s.boot.upd.phase = 3 ∧ s.updatesPlanes = true)))
    ∧ (∃ (n : Fin 64) (s : State), s.get (PWM_STAT.STATE n) = 0 ∧ s.canArm n = false)
    ∧ (∃ (n : Fin 64) (s : State), (s.get (PWM_STAT.STATE n) = 1 ∨ s.get (PWM_STAT.STATE n) = 2) ∧ s.is (TRIP_STAT.TRIPPED n) = false)
    ∧ (∃ (n : Fin 64) (s : State), s.tripSources n = 0 ∧ s.get (PWM_STAT.STATE n) = 3)
    ∧ (∃ (n : Fin 64) (s : State), s.tripSources n ≠ 0)
    ∧ (∃ (n : Fin 64) (samples : Nat) (s : State), s.get (TRIP_CFG.FLT n) < samples)
    ∧ (∃ (n : Fin 64) (samples : Nat) (s : State), s.get (TRIP_CFG.FLT n) < samples ∧ (s.get (PWM_STAT.STATE n) = 1 ∨ s.get (PWM_STAT.STATE n) = 2) ∧ s.is (TRIP_STAT.TRIPPED n) = false)
    ∧ (∃ (n : Fin 64) (samples : Nat) (s : State), samples ≤ s.get (TRIP_CFG.FLT n)) :=
  ⟨⟨0, ((((State.reset.put (ISL_STAT.PLL_LOCK) 1).put (PIN_REL.GATE) 1).put (PWM_MODE.EDGE_MODE 0) 1)), (by decide +kernel)⟩,
   ⟨0, (State.reset), (by decide +kernel)⟩,
   ⟨0, ((State.reset.put (PWM_STAT.STATE 0) 2)), (by decide +kernel)⟩,
   ⟨0, ((((State.reset.put (PWM_STAT.STATE 0) 3).put (TRIP_STAT.TRIPPED 0) 1).put (TRIP_STAT.SRC 0) 2)), (by decide +kernel)⟩,
   ⟨0, ((State.reset.put (PWM_CTRL.FORCE_TRIP 0) 1)), (by decide +kernel)⟩,
   ⟨0, 99, (State.reset), (by decide +kernel)⟩,
   ⟨0, 99, ((State.reset.put (PWM_STAT.STATE 0) 2)), (by decide +kernel)⟩,
   ⟨0, 0, (State.reset), (by decide +kernel)⟩⟩

theorem witness_PortConfigWriteRule :
    (∃ (n : Fin 64) (s : State), s.get (PWM_STAT.STATE n) = 0)
    ∧ (∃ (n : Fin 64) (s : State), s.get (PWM_STAT.STATE n) ≠ 0) :=
  ⟨⟨0, (State.reset), (by decide +kernel)⟩,
   ⟨0, ((State.reset.put (PWM_STAT.STATE 0) 1)), (by decide +kernel)⟩⟩

theorem witness_PortFramesComplete :
    (∃ (n : Fin 64) (c : BitVec 16) (s : State), c.toNat = (s.rd PERIOD_CNT).toNat % 2 ^ 16 ∧ s.now ≤ s.cutOff n)
    ∧ (∃ (c : BitVec 16) (s : State), 0 < ((s.rd PERIOD_CNT).toNat % 2 ^ 16 + 2 ^ 16 - c.toNat) % 2 ^ 16 ∧ ((s.rd PERIOD_CNT).toNat % 2 ^ 16 + 2 ^ 16 - c.toNat) % 2 ^ 16 < 32768)
    ∧ (∃ (c : BitVec 16) (s : State), 32768 ≤ ((s.rd PERIOD_CNT).toNat % 2 ^ 16 + 2 ^ 16 - c.toNat) % 2 ^ 16)
    ∧ (∃ (n : Fin 64) (q : Fin 2 × Post) (s : State), s.seq.running = true ∧ ((((s.advance (s.cutOff n)).comparePosts n).port n).posts.find? (fun q => q.1 == ((s.advance (s.cutOff n)).comparePosts n).portPlane n) = some q) ∧ q.2.period = ((s.advance (s.cutOff n)).comparePosts n).periodNo ∧ q.2.count ≤ 1)
    ∧ (∃ (n : Fin 64) (s : State), s.seq.running = true ∧ ((((s.advance (s.cutOff n)).comparePosts n).port n).posts.find? (fun q => q.1 == ((s.advance (s.cutOff n)).comparePosts n).portPlane n) = none) ∧ ((s.advance (s.cutOff n)).comparePosts n).get (PWM_STAT.STATE n) = 2)
    ∧ (∃ (n : Fin 64) (c : Cand) (s : State), (s.port n).cand = some c)
    ∧ (∃ (n : Fin 64) (c : Cand) (w : Post) (s : State), (s.port n).cand = some c ∧ c.words = some w ∧ s.get (PWM_STAT.STATE n) = 1 ∧ s.is (PWM_CTRL.RUN n) = true ∧ c.repeated = false ∧ c.legs ≠ [])
    ∧ (∃ (n : Fin 64) (l : Fin 4) (at_ : Time) (lv : Lvl) (r : List (Time × Lvl)) (s : State), ((s.port n).leg l).sched = (at_, lv) :: r)
    ∧ (∃ (n : Fin 64) (l : Fin 4) (at_ : Time) (s : State), ((s.port n).leg l).ghDue = some at_)
    ∧ (∃ (n : Fin 64) (at_ : Time) (s : State), (s.port n).ascDue = some at_ ∧ s.get (PWM_STAT.STATE n) = 3 ∧ (s.port n).safe = false)
    ∧ (∃ (hist : List Nat), 4000 * hist.foldl max 0 ≤ 100 * 65536)
    ∧ (∃ (n : Fin 64) (line : Fin 6) (m : List Nat) (s : State), (tget (s.port n).lines line {}).newMap = some m) :=
  ⟨⟨0, 0, (State.reset), (by decide +kernel)⟩,
   ⟨0xFFFF, (State.reset), (by decide +kernel)⟩,
   ⟨1, (State.reset), (by decide +kernel)⟩,
   ⟨0, ((0, { period := 0, words := [], count := 1, plane := 0 })), ((({ State.reset with seq := { State.reset.seq with running := true } } : State).setPort 0 { State.reset.port 0 with posts := [(0, { period := 0, words := [], count := 1, plane := 0 })] })), (by decide +kernel)⟩,
   ⟨0, (({ (State.reset.put (PWM_STAT.STATE 0) 2) with seq := { (State.reset.put (PWM_STAT.STATE 0) 2).seq with running := true } } : State)), (by decide +kernel)⟩,
   ⟨0, ({ period := 0, words := some { period := 0, words := [], count := 1, plane := 0 }, repeated := true, legs := [] }), ((State.reset.setPort 0 { State.reset.port 0 with cand := some { period := 0, words := some { period := 0, words := [], count := 1, plane := 0 }, repeated := true, legs := [] } })), (by decide +kernel)⟩,
   ⟨0, ({ period := 0, words := some { period := 0, words := [], count := 1, plane := 0 }, repeated := false, legs := [(0, { changes := [], actRise := 0, actFall := 0 })] }), ({ period := 0, words := [], count := 1, plane := 0 }), ((((State.reset.put (PWM_STAT.STATE 0) 1).put (PWM_CTRL.RUN 0) 1).setPort 0 { State.reset.port 0 with cand := some { period := 0, words := some { period := 0, words := [], count := 1, plane := 0 }, repeated := false, legs := [(0, { changes := [], actRise := 0, actFall := 0 })] } })), (by decide +kernel)⟩,
   ⟨0, 0, 5000, .high, ([]), ((State.reset.setPort 0 ((State.reset.port 0).setLeg 0 { (State.reset.port 0).leg 0 with sched := [(5000, .high)] }))), (by decide +kernel)⟩,
   ⟨0, 0, 5000, ((State.reset.setPort 0 ((State.reset.port 0).setLeg 0 { (State.reset.port 0).leg 0 with ghDue := some 5000 }))), (by decide +kernel)⟩,
   ⟨0, 5000, ((((State.reset.put (PWM_STAT.STATE 0) 3).put (TRIP_CFG.ASC 0) 1).setPort 0 { State.reset.port 0 with ascDue := some 5000 })), (by decide +kernel)⟩,
   ⟨(List.replicate 64 1024), (by decide +kernel)⟩,
   ⟨0, 0, ([1, 2]), ((State.reset.setPort 0 { State.reset.port 0 with lines := tset [] 0 { newMap := some [1, 2] } })), (by decide +kernel)⟩⟩

theorem witness_CurrentSensingComplete :
    (∃ (s : State), s.is PIN_REL.SDCLK = true)
    ∧ (∃ (arm : BitVec 9) (s : State), s.is PIN_REL.SDCLK = false ∧ s.get SDC_CTRL.ARM &&& arm.toNat ≠ arm.toNat)
    ∧ (∃ (s : State), s.anyArmed = false)
    ∧ (∃ (s : State), s.anyArmed = true)
    ∧ (∃ (v : BitVec 7) (s : State), s.anyArmed = false ∧ v.toNat ≤ 90)
    ∧ (∃ (v : BitVec 7) (s : State), (s.anyArmed = true ∨ 90 < v.toNat))
    ∧ (∃ (n : Fin 80) (s : State), s.is (SDF_CFG.EN_A n) = true ∧ s.get (SDF_CFG.STUCK n) ≠ 0 ∧ ((s.filter n).input false).run = none)
    ∧ (∃ (n : Fin 80) (inB : Bool) (r : Time) (s : State), ((s.filter n).input inB).run = some r)
    ∧ (∃ (n : Fin 80) (v : Word) (s : State), n.val < 64 ∧ s.get (PWM_STAT.STATE (fin 64 n.val)) = 0 ∧ 8 ≤ getBits v 0 9 ∧ getBits v 0 9 ≤ s.maxDec)
    ∧ (∃ (v : Word) (s : State), (getBits v 0 9 < 8 ∨ s.maxDec < getBits v 0 9))
    ∧ (∃ (n : Fin 80), n.val < 64) :=
  ⟨⟨((State.reset.put (PIN_REL.SDCLK) 1)), (by decide +kernel)⟩,
   ⟨3, ((State.reset.put (SDC_CTRL.ARM) 1)), (by decide +kernel)⟩,
   ⟨(State.reset), (by decide +kernel)⟩,
   ⟨((State.reset.put (PWM_CTRL.ARM 5) 1)), (by decide +kernel)⟩,
   ⟨90, (State.reset), (by decide +kernel)⟩,
   ⟨91, (State.reset), (by decide +kernel)⟩,
   ⟨0, (((State.reset.put (SDF_CFG.EN_A 0) 1).put (SDF_CFG.STUCK 0) 1)), (by decide +kernel)⟩,
   ⟨0, false, 100, ((State.reset.setFilter 0 ((State.reset.filter 0).setInput false { (State.reset.filter 0).input false with run := some 100 }))), (by decide +kernel)⟩,
   ⟨0, 8, (State.reset), (by decide +kernel)⟩,
   ⟨0, (State.reset), (by decide +kernel)⟩,
   ⟨0, (by decide +kernel)⟩⟩

theorem witness_FeedbackReadingsComplete :
    (∃ (n : Fin 64) (lines : BitVec 3) (s : State), (s.fb n).lines ≠ lines ∧ s.is (FB_CTRL.EN n) = true ∧ s.get (FB_CFG.MODE n) = 1)
    ∧ (∃ (n : Fin 64) (lines : BitVec 3) (s : State), (s.fb n).lines ≠ lines ∧ s.is (FB_CTRL.EN n) = true ∧ s.get (FB_CFG.MODE n) = 2)
    ∧ (∃ (n : Fin 64) (s : State), s.is (FB_CTRL.EN n) = false)
    ∧ (∃ (n : Fin 64) (s : State), s.serialOn n = true ∧ (s.fb n).reading = none ∧ s.readingDue n = true)
    ∧ (∃ (n : Fin 64) (r : Reading) (s : State), (s.fb n).open_ = some r ∧ s.serialOn n = true ∧ s.ssiDone n r ≤ s.readingLimit r ∧ s.get (FB_SER.EBIT n) = 0 ∧ s.is (FB_SER.GRAY n) = false)
    ∧ (∃ (n : Fin 64) (r : Reading) (s : State), (s.fb n).open_ = some r ∧ s.serialOn n = true ∧ s.ssiDone n r ≤ s.readingLimit r ∧ s.get (FB_SER.EBIT n) = 0)
    ∧ (∃ (n : Fin 64) (r : Reading) (s : State), (s.fb n).open_ = some r ∧ s.serialOn n = true ∧ s.readingLimit r < s.ssiDone n r)
    ∧ (∃ (n : Fin 64) (data : BitVec 72) (at_ : Nat) (st : Nat) (r : Reading) (s : State), (s.fb n).open_ = some r ∧ s.serialOn n = true ∧ s.get (FB_CFG.MODE n) = 4 ∧ at_ ≤ r.start + 10 * s.filBit n + 6000 * nsUnits ∧ at_ + 42 * s.filBit n ≤ s.readingLimit r ∧ lineCrc 8 0x1D 0 32 data.toNat = data.toNat / 2 ^ 32 % 2 ^ 8 ∧ st = data.toNat / 2 ^ 24 % 256 ∧ st.testBit 0 = false ∧ st.testBit 2 = false ∧ st.testBit 3 = false)
    ∧ (∃ (n : Fin 64) (r : Reading) (s : State), (s.fb n).open_ = some r)
    ∧ (∃ (n : Fin 64) (s : State), s.is (FB_CTRL.EN n) = true)
    ∧ (∃ (n : Fin 64) (s : State), (s.rd (FB_ERR_LIM n)).toNat ≠ 0 ∧ (s.rd (FB_ERR_LIM n)).toNat ≤ (s.fb n).errs ∧ (s.fb n).errHit = false) :=
  ⟨⟨0, 1, (((State.reset.put (FB_CTRL.EN 0) 1).put (FB_CFG.MODE 0) 1)), (by decide +kernel)⟩,
   ⟨0, 1, (((State.reset.put (FB_CTRL.EN 0) 1).put (FB_CFG.MODE 0) 2)), (by decide +kernel)⟩,
   ⟨0, (State.reset), (by decide +kernel)⟩,
   ⟨0, (((State.reset.put (FB_CTRL.EN 0) 1).put (FB_CFG.MODE 0) 4)), (by decide +kernel)⟩,
   ⟨0, ({ start := 0, period := 1, cmd := 0xE1 }), ((((State.reset.put (FB_CTRL.EN 0) 1).put (FB_CFG.MODE 0) 3).setFb 0 { State.reset.fb 0 with reading := some { start := 0, period := 1, cmd := 0xE1 } })), (by decide +kernel)⟩,
   ⟨0, ({ start := 0, period := 1, cmd := 0xE1 }), ((((State.reset.put (FB_CTRL.EN 0) 1).put (FB_CFG.MODE 0) 3).setFb 0 { State.reset.fb 0 with reading := some { start := 0, period := 1, cmd := 0xE1 } })), (by decide +kernel)⟩,
   ⟨0, ({ start := 0, period := 1, cmd := 0xE1 }), (((((State.reset.put (FB_CTRL.EN 0) 1).put (FB_CFG.MODE 0) 3).setFb 0 { State.reset.fb 0 with reading := some { start := 0, period := 1, cmd := 0xE1 } }).wr (FB_SER 0) 0x0000FC00)), (by decide +kernel)⟩,
   ⟨0, 0, 0, 0, ({ start := 0, period := 1, cmd := 0xE1 }), (((((State.reset.put (FB_CTRL.EN 0) 1).put (FB_CFG.MODE 0) 3).setFb 0 { State.reset.fb 0 with reading := some { start := 0, period := 1, cmd := 0xE1 } }).put (FB_CFG.MODE 0) 4)), (by decide +kernel)⟩,
   ⟨0, ({ start := 0, period := 1, cmd := 0xE1 }), ((((State.reset.put (FB_CTRL.EN 0) 1).put (FB_CFG.MODE 0) 3).setFb 0 { State.reset.fb 0 with reading := some { start := 0, period := 1, cmd := 0xE1 } })), (by decide +kernel)⟩,
   ⟨0, ((State.reset.put (FB_CTRL.EN 0) 1)), (by decide +kernel)⟩,
   ⟨0, (((State.reset.wr (FB_ERR_LIM 0) 3).setFb 0 { State.reset.fb 0 with errs := 4 })), (by decide +kernel)⟩⟩

theorem witness_FeedbackCommandsComplete :
    (∃ (n : Fin 64) (s : State), s.is (FB_CTRL.EN n) = false ∧ (s.get (FB_CFG.MODE n) < 3 ∨ s.is PIN_REL.FBO = true))
    ∧ (∃ (n : Fin 64) (s : State), s.is (FB_CTRL.EN n) = false ∧ 3 ≤ s.get (FB_CFG.MODE n) ∧ s.is PIN_REL.FBO = false)
    ∧ (∃ (on : Bool) (s : State), (s.is PIN_REL.FBO = true ∨ on = false))
    ∧ (∃ (n : Fin 64) (v : Word) (s : State), s.is (FB_CTRL.EN n) = false ∧ fbCfgOk v (s.rd (FB_SER n)) = true)
    ∧ (∃ (n : Fin 64) (v : Word) (s : State), s.is (FB_CTRL.EN n) = false ∧ fbCfgOk (s.rd (FB_CFG n)) v = true)
    ∧ (∃ (n : Fin 64) (s : State), s.is (FB_CTRL.EN n) = true)
    ∧ (∃ (n : Fin 64) (hi : BitVec 16) (v : Int) (s : State), v = pair48 (s.rd (FB_ULIM_LO n)) (hi.setWidth 32) ∧ (s.fb n).lo ≤ v)
    ∧ (∃ (n : Fin 64) (hi : BitVec 16) (s : State), (s.fb n).hi < pair48 (s.rd (FB_LLIM_LO n)) (hi.setWidth 32))
    ∧ (∃ (n : Fin 64) (s : State), s.is (CMP_CTRL.EN n) = true)
    ∧ (∃ (n : Fin 64) (s : State), s.is (CMP_CTRL.EN n) = false)
    ∧ (∃ (n : Fin 64) (a : Time) (at_ : Time) (l : List (Time × Time)) (s : State), (s.fb n).pulses = (a, at_) :: l)
    ∧ (∃ (n : Fin 64) (a : Time) (b : Time) (rest : List (Time × Time)) (s : State), (s.fb n).levels = (a, b) :: rest) :=
  ⟨⟨0, ((State.reset.put (FB_CFG.MODE 0) 1)), (by decide +kernel)⟩,
   ⟨0, ((State.reset.put (FB_CFG.MODE 0) 3)), (by decide +kernel)⟩,
   ⟨true, ((State.reset.put (PIN_REL.FBO) 1)), (by decide +kernel)⟩,
   ⟨0, 1, ((State.reset.wr (FB_SER 0) 0x2000)), (by decide +kernel)⟩,
   ⟨0, 0x2000, (State.reset), (by decide +kernel)⟩,
   ⟨0, ((State.reset.put (FB_CTRL.EN 0) 1)), (by decide +kernel)⟩,
   ⟨0, 0, 0, ((State.reset.wr (FB_ULIM_LO 0) 0)), (by decide +kernel)⟩,
   ⟨0, 1, ((State.reset.setFb 0 { State.reset.fb 0 with hi := 5 })), (by decide +kernel)⟩,
   ⟨0, ((State.reset.put (CMP_CTRL.EN 0) 1)), (by decide +kernel)⟩,
   ⟨0, (State.reset), (by decide +kernel)⟩,
   ⟨0, 7, 9, ([]), ((State.reset.setFb 0 { State.reset.fb 0 with pulses := [(7, 9)] })), (by decide +kernel)⟩,
   ⟨0, 9, 17, ([(30, 40)]), ((State.reset.setFb 0 { State.reset.fb 0 with levels := [(9, 17), (30, 40)] })), (by decide +kernel)⟩⟩

theorem witness_LoopCommandsComplete :
    (∃ (n : Fin 256) (s : State), s.is (LD_CTRL.EN n) = false ∧ s.get (LD_STAT.STATE n) = 0 ∧ s.loopCfgOk n = true)
    ∧ (∃ (n : Fin 256) (s : State), s.is (LD_CTRL.EN n) = false ∧ s.loopCfgOk n = false)
    ∧ (∃ (n : Fin 256) (s : State), s.standard n = true ∧ s.get (LD_STAT.STATE n) = 5 ∧ s.blockClean n = true)
    ∧ (∃ (n : Fin 256) (s : State), s.standard n = true ∧ s.blockClean n = false)
    ∧ (∃ (n : Fin 256) (s : State), s.get (LD_STAT.STATE n) = 0)
    ∧ (∃ (n : Fin 256) (r : LdCfg) (v : Word) (s : State), s.get (LD_STAT.STATE n) ≠ 0 ∧ (s.rd (ldCfgReg n r) &&& ~~~ldCfgMask n r) ||| (v &&& ldCfgMask n r) ≠ s.rd (ldCfgReg n r))
    ∧ (∃ (n : Fin 256) (r : LdCfg) (v : Word) (s : State), s.get (LD_STAT.STATE n) ≠ 0 ∧ (s.rd (ldCfgReg n r) &&& ~~~ldCfgMask n r) ||| (v &&& ldCfgMask n r) = s.rd (ldCfgReg n r))
    ∧ (∃ (n : Fin 256) (b : Fin 2) (s : State), (s.get (LD_STAT.STATE n) = 0 ∨ s.get (LD_STAT.BANK n) ≠ b.val) ∧ s.standard n = false)
    ∧ (∃ (n : Fin 256) (b : Fin 2) (k : Fin 64) (v : Word) (s : State), (s.get (LD_STAT.STATE n) = 0 ∨ s.get (LD_STAT.BANK n) ≠ b.val) ∧ s.standard n = true ∧ coefKind (decide (n.val < 64)) k.val = .scaled ∧ 23 < getBits v 24 5)
    ∧ (∃ (n : Fin 256) (s : State), s.is (LD_STAT.SWAP_PEND n) = false)
    ∧ (∃ (n : Fin 256) (s : State), s.is (LD_STAT.SWAP_PEND n) = true) :=
  ⟨⟨0, ((State.reset.put (LD_CTRL.REL 0) 16)), (by decide +kernel)⟩,
   ⟨0, ((State.reset.put (LD_CTRL.REL 0) 1)), (by decide +kernel)⟩,
   ⟨0, ((State.reset.put (LD_STAT.STATE 0) 5)), (by decide +kernel)⟩,
   ⟨0, ((State.reset.setLoop 0 { State.reset.loop 0 with blk := List.replicate 9 0 })), (by decide +kernel)⟩,
   ⟨0, (State.reset), (by decide +kernel)⟩,
   ⟨0, .ramp, 5, ((State.reset.put (LD_STAT.STATE 0) 1)), (by decide +kernel)⟩,
   ⟨0, .ramp, 16, ((State.reset.put (LD_STAT.STATE 0) 1)), (by decide +kernel)⟩,
   ⟨200, 0, ((State.reset.put (LD_CTRL.LAW 200) 1)), (by decide +kernel)⟩,
   ⟨0, 0, 0, 0x18000000, (State.reset), (by decide +kernel)⟩,
   ⟨0, (State.reset), (by decide +kernel)⟩,
   ⟨0, ((State.reset.put (LD_STAT.SWAP_PEND 0) 1)), (by decide +kernel)⟩⟩

theorem witness_BankWriteRule :
    (∃ (n : Fin 256) (b : Fin 2) (k : Fin 64) (v : Word) (s : State), (s.get (LD_STAT.STATE n) = 0 ∨ s.get (LD_STAT.BANK n) ≠ b.val) ∧ s.standard n = true ∧ coefKind (decide (n.val < 64)) k.val = .scaled ∧ getBits v 24 5 ≤ 23)
    ∧ (∃ (n : Fin 256) (b : Fin 2) (s : State), (s.get (LD_STAT.STATE n) = 0 ∨ s.get (LD_STAT.BANK n) ≠ b.val) ∧ s.standard n = false)
    ∧ (∃ (n : Fin 256) (b : Fin 2) (s : State), s.get (LD_STAT.STATE n) ≠ 0 ∧ s.get (LD_STAT.BANK n) = b.val) :=
  ⟨⟨0, 0, 0, 0x17000001, (State.reset), (by decide +kernel)⟩,
   ⟨200, 0, ((State.reset.put (LD_CTRL.LAW 200) 1)), (by decide +kernel)⟩,
   ⟨0, 0, ((State.reset.put (LD_STAT.STATE 0) 3)), (by decide +kernel)⟩⟩

def stLawRunsComplete1 : State := (State.reset.setLoop 0 { State.reset.loop 0 with tile := some 0 })
def stLawRunsComplete2 : State := (State.reset.setLoop 64 { State.reset.loop 64 with tile := some 0 })
theorem witness_LawRunsComplete :
    (∃ (n : Fin 64) (r : LawRun) (s : State), s.placed (curLoop n) = true ∧ s.standard (curLoop n) = true ∧ r = currentLaw (s.lawIn (curLoop n)) (s.loop (curLoop n)).law)
    ∧ (∃ (n : Fin 64) (r : LawRun) (s : State), s.placed (motLoop n) = true ∧ s.standard (motLoop n) = true ∧ r = motionLaw (s.lawIn (motLoop n)) (s.loop (motLoop n)).law)
    ∧ (∃ (n : Fin 256) (cycles : Nat) (s : State), s.placed n = true ∧ s.standard n = false ∧ (s.loop n).final = false ∧ cycles < 2 ^ 32)
    ∧ (∃ (n : Fin 256) (s : State), s.placed n = true ∧ s.standard n = false ∧ (s.loop n).final = true)
    ∧ (∃ (m : Fin 256) (c : BitVec 16) (b : Nat) (s : State), s.behind c.toNat = some b ∧ s.periodNo < s.periodNo - b + s.loopK m)
    ∧ (∃ (n : Fin 64) (c : BitVec 16) (b : Nat) (s : State), s.behind c.toNat = some b ∧ s.refOwner n = false)
    ∧ (∃ (c : BitVec 16) (s : State), s.behind c.toNat = none)
    ∧ (∃ (n : Fin 256) (c : BitVec 16) (s : State), 64 ≤ n.val ∧ n.val < 128 ∧ c.toNat = s.nextStart n % 65536)
    ∧ (∃ (n : Fin 256) (s : State), (s.loop n).warnDue = true)
    ∧ (∃ (n : Fin 256) (c : Nat) (s : State), (s.loop n).causeDue = some c ∧ (c = 1 ∨ c = 3))
    ∧ (∃ (n : Fin 256) (c : Nat) (s : State), (s.loop n).causeDue = some c ∧ (c = 2 ∨ c = 4))
    ∧ (∃ (n : Fin 256) (s : State), (s.loop n).tripWord = true)
    ∧ (∃ (n : Fin 256) (cycles : Nat) (s : State), s.standard n = false ∧ (s.rd (LD_WCET n)).toNat < cycles) :=
  ⟨⟨0, _, stLawRunsComplete1, (by decide +kernel), (by decide +kernel), rfl⟩,
   ⟨0, _, stLawRunsComplete2, (by decide +kernel), (by decide +kernel), rfl⟩,
   ⟨200, 77, (((State.reset.put (LD_CTRL.LAW 200) 1).setLoop 200 { State.reset.loop 200 with tile := some 0 })), (by decide +kernel)⟩,
   ⟨200, (((State.reset.put (LD_CTRL.LAW 200) 1).setLoop 200 { State.reset.loop 200 with tile := some 0, final := true })), (by decide +kernel)⟩,
   ⟨0, 0, 0, (State.reset), (by decide +kernel)⟩,
   ⟨0, 0, 0, (State.reset), (by decide +kernel)⟩,
   ⟨1, (State.reset), (by decide +kernel)⟩,
   ⟨64, (BitVec.ofNat 16 (State.reset.nextStart 64)), (State.reset), (by decide +kernel)⟩,
   ⟨0, ((State.reset.setLoop 0 { State.reset.loop 0 with warnDue := true })), (by decide +kernel)⟩,
   ⟨0, 3, ((State.reset.setLoop 0 { State.reset.loop 0 with causeDue := some 3 })), (by decide +kernel)⟩,
   ⟨0, 2, ((State.reset.setLoop 0 { State.reset.loop 0 with causeDue := some 2 })), (by decide +kernel)⟩,
   ⟨0, ((State.reset.setLoop 0 { State.reset.loop 0 with tripWord := true })), (by decide +kernel)⟩,
   ⟨200, 99999, ((State.reset.put (LD_CTRL.LAW 200) 1)), (by decide +kernel)⟩⟩

theorem witness_ArmPlanningComplete :
    (∃ (a : Fin 8) (s : State), s.is (ARM_CTRL.EN a) = false ∧ s.joints a ≠ [] ∧ ((finList 16).any (fun i => (s.joints a).any (fun j => s.axisJoint i == portOf a j)) = false))
    ∧ (∃ (a : Fin 8) (s : State), s.is (ARM_CTRL.EN a) = false ∧ s.joints a = [])
    ∧ (∃ (a : Fin 8) (m : Move) (r : List Move) (st : Nat) (s : State), (s.arm a).queue = m :: r ∧ m.start = some st ∧ (s.arm a).going = false)
    ∧ (∃ (a : Fin 8) (s : State), s.joints a ≠ [] ∧ s.is (ARM_CTRL.EN a) = true)
    ∧ (∃ (s : State), s.get PLN_CFG.MISS_LIM ≠ 0 ∧ s.get PLN_CFG.MISS_LIM ≤ s.get PLN_STAT.MISS_RUN) :=
  ⟨⟨2, (((State.reset.put (LD_CTRL.EN 80) 1).put (LD_STAT.STATE 80) 3)), (by decide +kernel)⟩,
   ⟨0, (State.reset), (by decide +kernel)⟩,
   ⟨0, ({ id := 4, kind := 0, start := some 256000, tgt := [] }), ([]), 256000, ((State.reset.setArm 0 { State.reset.arm 0 with queue := [{ id := 4, kind := 0, start := some 256000, tgt := [] }] })), (by decide +kernel)⟩,
   ⟨0, ((((State.reset.put (ARM_CTRL.EN 0) 1).put (LD_CTRL.EN 64) 1).put (LD_STAT.STATE 64) 3)), (by decide +kernel)⟩,
   ⟨((((State.reset.put (PLN_CFG.MISS_LIM) 2).put (PLN_STAT.MISS_RUN) 2).put (ARM_CTRL.EN 3) 1)), (by decide +kernel)⟩⟩

theorem witness_StepAxesComplete :
    (∃ (i : Fin 16) (s : State), s.is (STP_CTRL.EN i) = false ∧ s.get (STP_STAT.STATE i) ≠ 4 ∧ Stp.cfgOk s i = true ∧ Stp.haltCause (s.put (STP_CTRL.EN i) 1) i = false)
    ∧ (∃ (on : Bool) (s : State), (s.is PIN_REL.STEP = true ∨ on = false))
    ∧ (∃ (i : Fin 16) (x : Nat) (s : State), (s.axis i).cur.isSome = true ∧ (s.axis i).group = none ∧ (s.axis i).due = some x)
    ∧ (∃ (i : Fin 16) (s : State), (s.axis i).group = none)
    ∧ (∃ (i : Fin 16) (s : State), s.get (STP_STAT.STATE i) = 4 ∧ Stp.haltCause s i = false ∧ s.is (STP_CTRL.EN i) = true)
    ∧ (∃ (i : Fin 16) (v : Word) (s : State), v.getLsbD 0 = true ∧ v.getLsbD 3 = false ∧ (s.axis i).queue.length < 16 ∧ (s.axis i).cur.isSome = true ∧ (s.axis i).repl = none)
    ∧ (∃ (i : Fin 16) (v : Word) (s : State), v.getLsbD 0 = true ∧ v.getLsbD 3 = false ∧ 16 ≤ (s.axis i).queue.length)
    ∧ (∃ (i : Fin 16) (s : State), s.get (STP_STAT.STATE i) = 0)
    ∧ (∃ (i : Fin 16) (s : State), s.get (STP_STAT.STATE i) ≠ 0)
    ∧ (∃ (i : Fin 16) (s : State), s.is (STP_CTRL.EN i) = false)
    ∧ (∃ (i : Fin 16) (v : Word) (s : State), s.is (STP_CTRL.EN i) = false ∧ 2 ≤ getBits v 0 16)
    ∧ (∃ (i : Fin 16) (s : State), s.is (STP_CTRL.EN i) = true)
    ∧ (∃ (i : Fin 16) (x : Nat) (s : State), (s.axis i).due = some x)
    ∧ (∃ (i : Fin 16) (at_ : Time) (s : State), (s.axis i).pulse = some at_ ∧ (s.axis i).due.isSome = true)
    ∧ (∃ (i : Fin 16) (at_ : Time) (s : State), (s.axis i).dsetup = some at_)
    ∧ (∃ (g : Fin 8) (i : Fin 16) (m : StepMove) (r : List StepMove) (s : State), s.groupMembers g = [i] ∧ (s.axis i).queue = m :: r ∧ (s.axis i).cur = none ∧ (s.axis i).pulse = none ∧ s.get (STP_STAT.STATE i) = 0 ∧ m.grp = true ∧ m.target ≠ Stp.pos s i)
    ∧ (∃ (i : Fin 16) (n : Fin 64) (s : State), s.axisPort i = some n ∧ s.is (STP_CTRL.EN i) = true ∧ s.get (STP_CFG.MODE i) = 1 ∧ (sampleOk (s.rd (SDF_SAMPLE_A (fin 80 (64 + n.val / 8)))) && decide (0 < ofQ (getBits (s.rd (SDF_SAMPLE_A (fin 80 (64 + n.val / 8)))) 0 24))) = true)
    ∧ (∃ (i : Fin 16) (s : State), s.is (STP_CTRL.EN i) = true ∧ (s.axis i).run = false) :=
  ⟨⟨0, (((State.reset.wr (STP_TIMING 0) 0x00010002).wr (STP_ACC 0) 100)), (by decide +kernel)⟩,
   ⟨true, ((State.reset.put (PIN_REL.STEP) 1)), (by decide +kernel)⟩,
   ⟨0, 999, ((State.reset.setAxis 0 { State.reset.axis 0 with cur := some { target := 100, v := 5, blend := false, grp := false, id := 3 }, due := some 999 })), (by decide +kernel)⟩,
   ⟨0, (State.reset), (by decide +kernel)⟩,
   ⟨0, (((State.reset.put (STP_STAT.STATE 0) 4).put (STP_CTRL.EN 0) 1)), (by decide +kernel)⟩,
   ⟨0, 0x00070003, (((((State.reset.wr (STP_MV_TGT_LO 0) 50).wr (STP_MV_V 0) 9).wr (STP_VLIM 0) 7).setAxis 0 { State.reset.axis 0 with cur := some { target := 100, v := 5, blend := false, grp := false, id := 3 }, queue := [{ target := 100, v := 5, blend := false, grp := false, id := 3 }], due := some 999 })), (by decide +kernel)⟩,
   ⟨0, 1, ((State.reset.setAxis 0 { State.reset.axis 0 with queue := List.replicate 16 { target := 100, v := 5, blend := false, grp := false, id := 3 } })), (by decide +kernel)⟩,
   ⟨0, (State.reset), (by decide +kernel)⟩,
   ⟨0, ((State.reset.put (STP_STAT.STATE 0) 1)), (by decide +kernel)⟩,
   ⟨0, (State.reset), (by decide +kernel)⟩,
   ⟨0, 2, (State.reset), (by decide +kernel)⟩,
   ⟨0, ((State.reset.put (STP_CTRL.EN 0) 1)), (by decide +kernel)⟩,
   ⟨0, 999, ((State.reset.setAxis 0 { State.reset.axis 0 with cur := some { target := 100, v := 5, blend := false, grp := false, id := 3 }, due := some 999 })), (by decide +kernel)⟩,
   ⟨0, 77, ((State.reset.setAxis 0 { State.reset.axis 0 with pulse := some 77, due := some 999 })), (by decide +kernel)⟩,
   ⟨0, 77, ((State.reset.setAxis 0 { State.reset.axis 0 with dsetup := some 77 })), (by decide +kernel)⟩,
   ⟨0, 0, ({ target := 100, v := 5, blend := false, grp := true, id := 3 }), ([]), (((((State.reset.put (STP_CTRL.EN 0) 1).put (STP_CFG.GRP_EN 0) 1).wr (STP_ACC 0) 100).setAxis 0 { State.reset.axis 0 with queue := [{ target := 100, v := 5, blend := false, grp := true, id := 3 }] })), (by decide +kernel)⟩,
   ⟨0, 3, ((((((State.reset.put (STP_CTRL.EN 0) 1).put (STP_CFG.MODE 0) 1).put (STP_CFG.OUT 0) 2).put (STP_CFG.PORT 0) 3).wr (SDF_SAMPLE_A 64) 0x00400000)), (by decide +kernel)⟩,
   ⟨0, ((State.reset.put (STP_CTRL.EN 0) 1)), (by decide +kernel)⟩⟩

theorem witness_KilnCommandsComplete :
    (∃ (n : Fin 4096) (s : State), (s.taskRec n).kind = 4 ∧ s.taskState n = 4 ∧ s.is (KN_CTRL.EN s.activePlane) = true)
    ∧ (∃ (k : Fin 2) (c : Fin 16) (r : KRequest) (s : State), s.is (KN_CTRL.EN k) = true ∧ s.kBusy k = false ∧ (s.planActive = false ∨ s.now + s.kcBound k c * nsUnits < s.nextTick) ∧ c ≠ 0 ∧ (∀ d : Fin 16, d < c → d ≠ 0 → (s.kctx k d).queued = none) ∧ (s.kctx k c).queued = some r ∧ s.now < r.deadline)
    ∧ (∃ (k : Fin 2) (c : Fin 16) (r : KRun) (at_ : Time) (s : State), s.kRunning k = some c ∧ (s.kctx k c).running = some r ∧ s.kDoneAt k c r = some at_ ∧ s.kLate k = none)
    ∧ (∃ (k : Fin 2) (c : Fin 16) (l : KLate) (s : State), s.kRunning k = none ∧ s.kLate k = some (c, l))
    ∧ (∃ (k : Fin 2) (c : Fin 16) (r : KRun) (s : State), (s.kctx k c).running = some r ∧ ((s.kctx k c).queued = none ∨ c = 0) ∧ r.stopped = none ∧ s.kInTime k c r = false)
    ∧ (∃ (k : Fin 2) (c : Fin 16) (r : KRequest) (s : State), c ≠ 0 ∧ (s.kctx k c).running = none ∧ (s.kctx k c).queued = some r) :=
  ⟨⟨600, ((((State.reset.put (KN_CTRL.EN 0) 1).put (STK_TS0.STATE 600) 4).setTask 600 { State.reset.taskRec 600 with desc := [0, 4] })), (by decide +kernel)⟩,
   ⟨0, 2, ({ prob := { kind := 1, n := 1, tau := 20, delta := 20, tol := 20, seq := 3, bytes := 80, h := [1], c := [1] }, res := 0, task := none, accepted := 0, deadline := 900000, boundOver := false }), (((State.reset.put (KN_CTRL.EN 0) 1).setKctx 0 2 { State.reset.kctx 0 2 with queued := some { prob := { kind := 1, n := 1, tau := 20, delta := 20, tol := 20, seq := 3, bytes := 80, h := [1], c := [1] }, res := 0, task := none, accepted := 0, deadline := 900000, boundOver := false } })), (by decide +kernel)⟩,
   ⟨0, 2, ({ req := { prob := { kind := 1, n := 1, tau := 20, delta := 20, tol := 20, seq := 3, bytes := 80, h := [1], c := [1] }, res := 0, task := none, accepted := 0, deadline := 900000, boundOver := false }, warm := false, disc := false, start := 0 }), (((State.reset.setKctx 0 2 { State.reset.kctx 0 2 with running := some { req := { prob := { kind := 1, n := 1, tau := 20, delta := 20, tol := 20, seq := 3, bytes := 80, h := [1], c := [1] }, res := 0, task := none, accepted := 0, deadline := 900000, boundOver := false }, warm := false, disc := false, start := 0 } }).kDoneAt 0 2 { req := { prob := { kind := 1, n := 1, tau := 20, delta := 20, tol := 20, seq := 3, bytes := 80, h := [1], c := [1] }, res := 0, task := none, accepted := 0, deadline := 900000, boundOver := false }, warm := false, disc := false, start := 0 }).getD 0), ((State.reset.setKctx 0 2 { State.reset.kctx 0 2 with running := some { req := { prob := { kind := 1, n := 1, tau := 20, delta := 20, tol := 20, seq := 3, bytes := 80, h := [1], c := [1] }, res := 0, task := none, accepted := 0, deadline := 900000, boundOver := false }, warm := false, disc := false, start := 0 } })), (by decide +kernel)⟩,
   ⟨0, 2, ({ at_ := 900, result := ({} : KContext).reuse 1 3 256 0 0 0, task := none }), ((State.reset.setKctx 0 2 { State.reset.kctx 0 2 with late := some { at_ := 900, result := ({} : KContext).reuse 1 3 256 0 0 0, task := none } })), (by decide +kernel)⟩,
   ⟨0, 2, ({ req := { prob := { kind := 1, n := 1, tau := 20, delta := 20, tol := 20, seq := 3, bytes := 80, h := [1], c := [1] }, res := 0, task := none, accepted := 0, deadline := 9, boundOver := false }, warm := false, disc := false, start := 0 }), ((State.reset.setKctx 0 2 { State.reset.kctx 0 2 with running := some { req := { prob := { kind := 1, n := 1, tau := 20, delta := 20, tol := 20, seq := 3, bytes := 80, h := [1], c := [1] }, res := 0, task := none, accepted := 0, deadline := 9, boundOver := false }, warm := false, disc := false, start := 0 } })), (by decide +kernel)⟩,
   ⟨0, 2, ({ prob := { kind := 1, n := 1, tau := 20, delta := 20, tol := 20, seq := 3, bytes := 80, h := [1], c := [1] }, res := 0, task := none, accepted := 0, deadline := 900000, boundOver := false }), ((State.reset.setKctx 0 2 { State.reset.kctx 0 2 with queued := some { prob := { kind := 1, n := 1, tau := 20, delta := 20, tol := 20, seq := 3, bytes := 80, h := [1], c := [1] }, res := 0, task := none, accepted := 0, deadline := 900000, boundOver := false } })), (by decide +kernel)⟩⟩

def stTaskEndsAndTileEventsComplete5 : State := (State.reset.setTile 0 { State.reset.tile 0 with task := some 600, pc := 0x40000, wait := some (.load 0x40000 1 (.load (.d 0)) (.words []) (.words [])) })
theorem witness_TaskEndsAndTileEventsComplete :
    (∃ (i : Fin 32) (n : Fin 4096) (s : State), s.canIssue i false 4 ∧ (s.tile i).task = some n ∧ (s.tile i).slot = none)
    ∧ (∃ (i : Fin 32) (n : Fin 4096) (s : State), s.canIssue i true 2 ∧ (s.tile i).task = some n ∧ (s.tile i).slot = none)
    ∧ (∃ (i : Fin 32) (n : Fin 512) (s : State), (s.tile i).req = some n ∧ (s.tile i).task.isSome = true ∧ (s.tile i).sr.getLsbD 6 = true ∧ (s.tile i).br = none ∧ (s.tile i).rep = none ∧ (s.tile i).wait = none)
    ∧ (∃ (i : Fin 32) (n : Fin 4096) (s : State), (s.tile i).task = some n ∧ (s.tile i).wait = none)
    ∧ (∃ (i : Fin 32) (pc : Nat) (lat : Nat) (act : MemAct) (x : Opnd) (y : Opnd) (u : State) (v : State) (xs : List Word) (ys : List Word) (s : State), (s.tile i).wait = some (.load pc lat act x y) ∧ (s.tile i).stores = [] ∧ s.outsideWords i x = some (u, xs) ∧ u.outsideWords i y = some (v, ys))
    ∧ (∃ (i : Fin 32) (pc : Nat) (lat : Nat) (act : MemAct) (x : Opnd) (y : Opnd) (s : State), (s.tile i).wait = some (.load pc lat act x y) ∧ (s.tile i).stores = [])
    ∧ (∃ (i : Fin 32) (q : OutStore) (r : List OutStore) (s : State), (s.tile i).stores = q :: r ∧ q.addr ≠ (STK_RELEASE).addr) :=
  ⟨⟨0, 600, ((State.reset.setTile 0 { State.reset.tile 0 with task := some 600, pc := 0x40000 })), (by simp only [State.canIssue]; decide +kernel), (by decide +kernel)⟩,
   ⟨0, 600, ((State.reset.setTile 0 { State.reset.tile 0 with task := some 600, pc := 0x40000, sr := 0x80 })), (by simp only [State.canIssue]; decide +kernel), (by decide +kernel)⟩,
   ⟨0, 7, ((State.reset.setTile 0 { State.reset.tile 0 with task := some 600, pc := 0x40000, sr := 0x40, req := some 7 })), (by decide +kernel)⟩,
   ⟨0, 600, ((State.reset.setTile 0 { State.reset.tile 0 with task := some 600, pc := 0x40000 })), (by decide +kernel)⟩,
   ⟨0, 0x40000, 1, (.load (.d 0)), (.words []), (.words []), stTaskEndsAndTileEventsComplete5, stTaskEndsAndTileEventsComplete5, ([]), ([]), stTaskEndsAndTileEventsComplete5, (by decide +kernel)⟩,
   ⟨0, 0x40000, 1, (.load (.d 0)), (.words []), (.words []), ((State.reset.setTile 0 { State.reset.tile 0 with task := some 600, pc := 0x40000, wait := some (.load 0x40000 1 (.load (.d 0)) (.words []) (.words [])) })), (by decide +kernel)⟩,
   ⟨0, ({ pc := 0x40000, task := some 600, addr := 0x30020000, words := [7] }), ([]), ((State.reset.setTile 0 { State.reset.tile 0 with task := some 600, pc := 0x40000, stores := [{ pc := 0x40000, task := some 600, addr := 0x30020000, words := [7] }] })), (by decide +kernel)⟩⟩

theorem witness_EmberMovesAndControlComplete :
    (∃ (t : Fin 32) (s : State), s.canIssue t false 4)
    ∧ (∃ (t : Fin 32) (m : EMem) (s : State), s.canIssue t false (memSize m))
    ∧ (∃ (t : Fin 32) (imm : EImm) (s : State), s.canIssue t false (immSize imm))
    ∧ (∃ (t : Fin 32) (s : State), s.canIssue t false 8)
    ∧ (∃ (t : Fin 32) (rd : EReg) (rs : EReg) (s : State), s.canIssue t false 4 ∧ movIllegal rd rs = false)
    ∧ (∃ (t : Fin 32) (cc : Fin 16) (s : State), s.canIssue t false 4 ∧ ¬(13 ≤ cc.val)) :=
  ⟨⟨0, nativeTile, (by simp only [State.canIssue]; decide +kernel)⟩,
   ⟨0, (.plain 0), nativeTile, (by simp only [State.canIssue]; decide +kernel)⟩,
   ⟨0, (.short 0), nativeTile, (by simp only [State.canIssue]; decide +kernel)⟩,
   ⟨0, nativeTile, (by simp only [State.canIssue]; decide +kernel)⟩,
   ⟨0, (.d 0), (.d 0), nativeTile, (by simp only [State.canIssue]; decide +kernel), (by decide +kernel)⟩,
   ⟨0, 0, nativeTile, (by simp only [State.canIssue]; decide +kernel), (by decide +kernel)⟩⟩

theorem witness_EmberAluComplete :
    (∃ (t : Fin 32) (s : State), s.canIssue t false 4)
    ∧ (∃ (t : Fin 32) (imm : EImm) (s : State), s.canIssue t false (immSize imm))
    ∧ (∃ (t : Fin 32) (xo : Bool) (s : State), (s.canIssue t false (if xo then 8 else 4)))
    ∧ (∃ (t : Fin 32) (dd : Fin 16) (s : State), s.canIssue t false 4 ∧ ¬(dd.val % 2 = 1)) :=
  ⟨⟨0, nativeTile, (by simp only [State.canIssue]; decide +kernel)⟩,
   ⟨0, (.short 0), nativeTile, (by simp only [State.canIssue]; decide +kernel)⟩,
   ⟨0, true, nativeTile, (by simp only [State.canIssue]; decide +kernel)⟩,
   ⟨0, 0, nativeTile, (by simp only [State.canIssue]; decide +kernel), (by decide +kernel)⟩⟩

theorem witness_EmberAccumulatorAndMultiplyComplete :
    (∃ (t : Fin 32) (s : State), s.canIssue t false 4)
    ∧ (∃ (t : Fin 32) (k : Fin 64) (s : State), s.canIssue t false 4 ∧ ¬(56 ≤ k.val))
    ∧ (∃ (t : Fin 32) (ds : Fin 16) (s : State), s.canIssue t false 4 ∧ ¬(ds.val % 2 = 1)) :=
  ⟨⟨0, nativeTile, (by simp only [State.canIssue]; decide +kernel)⟩,
   ⟨0, 0, nativeTile, (by simp only [State.canIssue]; decide +kernel), (by decide +kernel)⟩,
   ⟨0, 0, nativeTile, (by simp only [State.canIssue]; decide +kernel), (by decide +kernel)⟩⟩

theorem witness_EmberMemoryReadsComplete :
    (∃ (t : Fin 32) (y : EShort) (xo : EShort) (s : State), s.canIssue t false 4 ∧ s.reaches t ((s.tile t).saddr false xo) 1 true ∧ s.reaches t ((s.tile t).saddr true y) 1 true)
    ∧ (∃ (t : Fin 32) (y : EShort) (xo : EShort) (s : State), s.canIssue t false 4 ∧ s.reaches t ((s.tile t).saddr false xo) 2 true ∧ s.reaches t ((s.tile t).saddr true y) 1 true)
    ∧ (∃ (t : Fin 32) (y : EShort) (xo : EShort) (s : State), s.canIssue t false 4 ∧ s.reaches t ((s.tile t).saddr false xo) 4 true ∧ s.reaches t ((s.tile t).saddr true y) 1 true)
    ∧ (∃ (t : Fin 32) (m : EMem) (s : State), s.canIssue t false (memSize m) ∧ s.reaches t ((s.tile t).eaddr m) 1 true)
    ∧ (∃ (t : Fin 32) (m : EMem) (s : State), s.canIssue t false (memSize m) ∧ s.reaches t ((s.tile t).eaddr m) 2 true)
    ∧ (∃ (t : Fin 32) (m : EMem) (s : State), s.canIssue t false (memSize m) ∧ s.reaches t ((s.tile t).eaddr m) 4 true)
    ∧ (∃ (t : Fin 32) (xo : EShort) (y : EShort) (s : State), s.canIssue t false 4 ∧ s.reaches t ((s.tile t).saddr false xo) 1 true ∧ s.reaches t ((s.tile t).saddr true y) 1 true) :=
  ⟨⟨0, (.plain 0), (.plain 0), nativeTile, (by simp only [State.canIssue]; decide +kernel), (by simp only [State.reaches]; decide +kernel), (by simp only [State.reaches]; decide +kernel)⟩,
   ⟨0, (.plain 0), (.plain 0), nativeTile, (by simp only [State.canIssue]; decide +kernel), (by simp only [State.reaches]; decide +kernel), (by simp only [State.reaches]; decide +kernel)⟩,
   ⟨0, (.plain 0), (.plain 0), nativeTile, (by simp only [State.canIssue]; decide +kernel), (by simp only [State.reaches]; decide +kernel), (by simp only [State.reaches]; decide +kernel)⟩,
   ⟨0, (.plain 0), nativeTile, (by simp only [State.canIssue]; decide +kernel), (by simp only [State.reaches]; decide +kernel)⟩,
   ⟨0, (.plain 0), nativeTile, (by simp only [State.canIssue]; decide +kernel), (by simp only [State.reaches]; decide +kernel)⟩,
   ⟨0, (.plain 0), nativeTile, (by simp only [State.canIssue]; decide +kernel), (by simp only [State.reaches]; decide +kernel)⟩,
   ⟨0, (.plain 0), (.plain 0), nativeTile, (by simp only [State.canIssue]; decide +kernel), (by simp only [State.reaches]; decide +kernel), (by simp only [State.reaches]; decide +kernel)⟩⟩

theorem witness_EmberStoresComplete :
    (∃ (t : Fin 32) (dn : Fin 16) (m : EMem) (s : State), s.canIssue t false (memSize m) ∧ s.reaches t ((s.tile t).eaddr m) (List.length ([wordOfD ((s.tile t).rd dn)])) false)
    ∧ (∃ (t : Fin 32) (an : Fin 4) (m : EMem) (s : State), s.canIssue t false (memSize m) ∧ s.reaches t ((s.tile t).eaddr m) (List.length (wordsOfA ((s.tile t).ra an))) false)
    ∧ (∃ (t : Fin 32) (g : Fin 4) (m : EMem) (s : State), s.canIssue t false (memSize m) ∧ s.reaches t ((s.tile t).eaddr m) (List.length ((s.tile t).quad g)) false)
    ∧ (∃ (t : Fin 32) (pn : Fin 8) (m : EMem) (s : State), s.canIssue t false (memSize m) ∧ s.reaches t ((s.tile t).eaddr m) (List.length (wordsOfP ((s.tile t).rp pn))) false)
    ∧ (∃ (t : Fin 32) (bn : Fin 8) (m : EMem) (s : State), s.canIssue t false (memSize m) ∧ s.reaches t ((s.tile t).eaddr m) (List.length (wordsOfP ((s.tile t).rb bn))) false)
    ∧ (∃ (t : Fin 32) (ln : Fin 8) (m : EMem) (s : State), s.canIssue t false (memSize m) ∧ s.reaches t ((s.tile t).eaddr m) (List.length ([((s.tile t).rl ln).setWidth 32])) false)
    ∧ (∃ (t : Fin 32) (mn : Fin 8) (m : EMem) (s : State), s.canIssue t false (memSize m) ∧ s.reaches t ((s.tile t).eaddr m) (List.length ([wordOfD ((s.tile t).rm mn)])) false) :=
  ⟨⟨0, 0, (.plain 0), nativeTile, (by simp only [State.canIssue]; decide +kernel), (by simp only [State.reaches]; decide +kernel)⟩,
   ⟨0, 0, (.plain 0), nativeTile, (by simp only [State.canIssue]; decide +kernel), (by simp only [State.reaches]; decide +kernel)⟩,
   ⟨0, 0, (.plain 0), nativeTile, (by simp only [State.canIssue]; decide +kernel), (by simp only [State.reaches]; decide +kernel)⟩,
   ⟨0, 0, (.plain 0), nativeTile, (by simp only [State.canIssue]; decide +kernel), (by simp only [State.reaches]; decide +kernel)⟩,
   ⟨0, 0, (.plain 0), nativeTile, (by simp only [State.canIssue]; decide +kernel), (by simp only [State.reaches]; decide +kernel)⟩,
   ⟨0, 0, (.plain 0), nativeTile, (by simp only [State.canIssue]; decide +kernel), (by simp only [State.reaches]; decide +kernel)⟩,
   ⟨0, 0, (.plain 0), nativeTile, (by simp only [State.canIssue]; decide +kernel), (by simp only [State.reaches]; decide +kernel)⟩⟩

theorem witness_MxControlComplete :
    (∃ (t : Fin 32) (s : State), s.canIssue t true 2)
    ∧ (∃ (t : Fin 32) (cc : Fin 16) (s : State), s.canIssue t true 2 ∧ ¬(13 ≤ cc.val))
    ∧ (∃ (t : Fin 32) (s : State), s.canIssue t true 4) :=
  ⟨⟨0, mxTile, (by simp only [State.canIssue]; decide +kernel)⟩,
   ⟨0, 0, mxTile, (by simp only [State.canIssue]; decide +kernel), (by decide +kernel)⟩,
   ⟨0, mxTile, (by simp only [State.canIssue]; decide +kernel)⟩⟩

theorem witness_MxAluComplete :
    (∃ (t : Fin 32) (s : State), s.canIssue t true 2)
    ∧ (∃ (t : Fin 32) (s : State), s.canIssue t true 4) :=
  ⟨⟨0, mxTile, (by simp only [State.canIssue]; decide +kernel)⟩,
   ⟨0, mxTile, (by simp only [State.canIssue]; decide +kernel)⟩⟩

theorem witness_MxMemoryComplete :
    (∃ (t : Fin 32) (w : BitVec 16) (s : State), s.canIssue t true 4 ∧ s.reaches t (fixedAddr (4 * w.toNat)) 1 true)
    ∧ (∃ (t : Fin 32) (r : Fin 8) (w : BitVec 16) (s : State), s.canIssue t true 4 ∧ s.reaches t (fixedAddr (4 * w.toNat)) (List.length ((s.tile t).mxStored r)) false)
    ∧ (∃ (t : Fin 32) (m : MxMem) (s : State), s.canIssue t true 2 ∧ s.reaches t ((s.tile t).xaddr m) 1 true)
    ∧ (∃ (t : Fin 32) (r : Fin 8) (m : MxMem) (s : State), s.canIssue t true 2 ∧ s.reaches t ((s.tile t).xaddr m) (List.length ((s.tile t).mxStored r)) false)
    ∧ (∃ (t : Fin 32) (xo : Fin 2) (y : Fin 2) (sx : MxStep) (sy : MxStep) (s : State), s.canIssue t true 2 ∧ s.reaches t ((s.tile t).maddr (fin 8 xo.val) sx) 1 true ∧ s.reaches t ((s.tile t).maddr (fin 8 (2 + y.val)) sy) 1 true)
    ∧ (∃ (t : Fin 32) (k : BitVec 8) (s : State), s.canIssue t true 2 ∧ s.reaches t ((s.tile t).ioAddr k) 1 true)
    ∧ (∃ (t : Fin 32) (r : Fin 8) (k : BitVec 8) (s : State), s.canIssue t true 2 ∧ s.reaches t ((s.tile t).ioAddr k) (List.length ((s.tile t).mxStored r)) false) :=
  ⟨⟨0, 0, mxTile, (by simp only [State.canIssue]; decide +kernel), (by simp only [State.reaches]; decide +kernel)⟩,
   ⟨0, 0, 0, mxTile, (by simp only [State.canIssue]; decide +kernel), (by simp only [State.reaches]; decide +kernel)⟩,
   ⟨0, (.plain 0), mxTile, (by simp only [State.canIssue]; decide +kernel), (by simp only [State.reaches]; decide +kernel)⟩,
   ⟨0, 0, (.plain 0), mxTile, (by simp only [State.canIssue]; decide +kernel), (by simp only [State.reaches]; decide +kernel)⟩,
   ⟨0, 0, 0, .none, .none, mxTile, (by simp only [State.canIssue]; decide +kernel), (by simp only [State.reaches]; decide +kernel), (by simp only [State.reaches]; decide +kernel)⟩,
   ⟨0, 0, mxTile, (by simp only [State.canIssue]; decide +kernel), (by simp only [State.reaches]; decide +kernel)⟩,
   ⟨0, 0, 0, mxTile, (by simp only [State.canIssue]; decide +kernel), (by simp only [State.reaches]; decide +kernel)⟩⟩

theorem witness_DelaySlotsAndRepeats :
    (∃ (i : Fin 32) (b : Branch) (s : State), (s.tile i).task.isSome = true ∧ (s.tile i).wait = none ∧ (s.tile i).mxMode = false ∧ (s.tile i).fetchFault 4 = none ∧ (s.tile i).rep = none ∧ (s.tile i).br = some b ∧ b.left = 2)
    ∧ (∃ (i : Fin 32) (n : Nat) (s : State), (s.tile i).task.isSome = true ∧ (s.tile i).wait = none ∧ (s.tile i).mxMode = false ∧ (s.tile i).fetchFault 4 = none ∧ (s.tile i).br = none ∧ (s.tile i).rep = some n ∧ 1 ≤ n)
    ∧ (∃ (i : Fin 32) (s : State), (s.tile i).task.isSome = true ∧ (s.tile i).wait = none ∧ (s.tile i).mxMode = false ∧ (s.tile i).fetchFault 4 = none ∧ ((s.tile i).br.isSome = true ∨ (s.tile i).rep.isSome = true)) :=
  ⟨⟨0, ({ left := 2 }), ((State.reset.setTile 0 { State.reset.tile 0 with task := some 600, pc := 0x40000, br := some { left := 2 } })), (by decide +kernel)⟩,
   ⟨0, 3, ((State.reset.setTile 0 { State.reset.tile 0 with task := some 600, pc := 0x40000, rep := some 3 })), (by decide +kernel)⟩,
   ⟨0, ((State.reset.setTile 0 { State.reset.tile 0 with task := some 600, pc := 0x40000, rep := some 3 })), (by decide +kernel)⟩⟩

theorem witness_StackCommandsComplete :
    (∃ (n : Fin 4096) (s : State), s.is STK_STAT.DESC_BUSY = false ∧ (s.createResult n (buildList (fun k => s.rd (STK_DESC_STAGE (fin 16 k))) 16) = 0))
    ∧ (∃ (n : Fin 4096) (s : State), s.is STK_STAT.DESC_BUSY = false ∧ (s.createResult n (buildList (fun k => s.rd (STK_DESC_STAGE (fin 16 k))) 16) ≠ 0))
    ∧ (∃ (s : State), s.is STK_STAT.DESC_BUSY = true)
    ∧ (∃ (n : Fin 4096) (s : State), s.is STK_STAT.DESC_BUSY = false ∧ 512 ≤ n.val ∧ s.taskState n = 1)
    ∧ (∃ (n : Fin 4096) (s : State), s.is STK_STAT.DESC_BUSY = false ∧ n.val < 512)
    ∧ (∃ (n : Fin 4096) (s : State), s.is STK_STAT.DESC_BUSY = false ∧ 512 ≤ n.val ∧ s.taskState n ≠ 1)
    ∧ (∃ (n : Fin 4096) (s : State), s.is STK_STAT.DESC_BUSY = false ∧ 512 ≤ n.val ∧ s.taskState n ≠ 0)
    ∧ (∃ (n : Fin 4096) (s : State), s.is STK_STAT.DESC_BUSY = false ∧ 512 ≤ n.val ∧ s.taskState n = 0)
    ∧ (∃ (n : Fin 4096) (s : State), s.is STK_STAT.DESC_BUSY = false ∧ 512 ≤ n.val ∧ 2 ≤ s.taskState n)
    ∧ (∃ (n : Fin 4096) (s : State), s.is STK_STAT.DESC_BUSY = false ∧ 512 ≤ n.val ∧ s.taskState n < 2)
    ∧ (∃ (h : Fin 8192) (s : State), s.is STK_STAT.BUF_BUSY = false ∧ (s.bufResult h (buildList (fun k => s.rd (STK_BUF_STAGE (fin 4 k))) 4) = 0))
    ∧ (∃ (h : Fin 8192) (s : State), s.is STK_STAT.BUF_BUSY = false ∧ (s.bufResult h (buildList (fun k => s.rd (STK_BUF_STAGE (fin 4 k))) 4) ≠ 0))
    ∧ (∃ (s : State), s.is STK_STAT.BUF_BUSY = true)
    ∧ (∃ (h : Fin 8192) (s : State), s.is STK_STAT.BUF_BUSY = false ∧ 1024 ≤ h.val ∧ (s.bufRec h).defined = true)
    ∧ (∃ (h : Fin 8192) (s : State), s.is STK_STAT.BUF_BUSY = false ∧ h.val < 1024)
    ∧ (∃ (h : Fin 8192) (s : State), s.is STK_STAT.BUF_BUSY = false ∧ 1024 ≤ h.val ∧ (s.bufRec h).defined = false)
    ∧ (∃ (h : Fin 8192) (s : State), s.is STK_STAT.BUF_BUSY = false ∧ (s.bufRec h).defined = true)
    ∧ (∃ (h : Fin 8192) (s : State), s.is STK_STAT.BUF_BUSY = false ∧ (s.bufRec h).defined = false)
    ∧ (∃ (who : Who) (v : Word) (s : State), (who = .hearth ∨ who = .host) ∧ s.releasable (fin 4096 (getBits v 0 12)) = true ∧ (s.releaseTask (fin 4096 (getBits v 0 12)) (some (fin 4 (getBits v 12 2), getBits v 14 16))).2 = false)
    ∧ (∃ (who : Who) (v : Word) (s : State), (who = .hearth ∨ who = .host) ∧ s.releasable (fin 4096 (getBits v 0 12)) = true ∧ (s.releaseTask (fin 4096 (getBits v 0 12)) (some (fin 4 (getBits v 12 2), getBits v 14 16))).2 = true)
    ∧ (∃ (who : Who) (v : Word) (n : Fin 4096) (s : State), (who = .hearth ∨ who = .host) ∧ n = fin 4096 (getBits v 0 12) ∧ getBits v 14 16 = 0 ∧ s.releasable n = true ∧ s.is STK_CTRL.EN = true ∧ (s.taskRec n).cancelAt ≠ some (s.now / nsUnits) ∧ s.taskState n = 2 ∧ ((s.taskRec n).cls = 1 → ∀ p, (s.taskRec n).lastRel = some p → p + (s.taskRec n).period ≤ s.periodNo) ∧ s.get (STK_QSTAT.DEPTH (s.taskQueue n)) < s.get ⟨STK_QCFG (s.taskQueue n), 0, 12⟩)
    ∧ (∃ (v : Word) (s : State), s.releasable (fin 4096 (getBits v 0 12)) = false)
    ∧ (∃ (n : Fin 4096) (s : State), State.loopOrInterp n = false ∧ s.taskState n = 3)
    ∧ (∃ (n : Fin 4096) (s : State), State.loopOrInterp n = false ∧ s.taskState n = 4)
    ∧ (∃ (n : Fin 4096) (s : State), State.loopOrInterp n = false ∧ s.taskState n = 5)
    ∧ (∃ (n : Fin 4096) (s : State), State.loopOrInterp n = false ∧ (s.taskState n ≠ 3 ∧ s.taskState n ≠ 4 ∧ s.taskState n ≠ 5))
    ∧ (∃ (n : Fin 4096), State.loopOrInterp n = true) :=
  ⟨⟨600, (((((State.reset.wr (STK_DESC_STAGE 1) 0x100203).wr (STK_DESC_STAGE 3) 1000).wr (STK_DESC_STAGE 4) 1).wr (STK_DESC_STAGE 15) 213447168)), (by decide +kernel)⟩,
   ⟨600, (State.reset), (by decide +kernel)⟩,
   ⟨((State.reset.put (STK_STAT.DESC_BUSY) 1)), (by decide +kernel)⟩,
   ⟨600, ((State.reset.put (STK_TS0.STATE 600) 1)), (by decide +kernel)⟩,
   ⟨5, (State.reset), (by decide +kernel)⟩,
   ⟨600, (State.reset), (by decide +kernel)⟩,
   ⟨600, ((State.reset.put (STK_TS0.STATE 600) 2)), (by decide +kernel)⟩,
   ⟨600, (State.reset), (by decide +kernel)⟩,
   ⟨600, ((State.reset.put (STK_TS0.STATE 600) 4)), (by decide +kernel)⟩,
   ⟨600, ((State.reset.put (STK_TS0.STATE 600) 1)), (by decide +kernel)⟩,
   ⟨2000, ((((State.reset.wr (STK_BUF_STAGE 0) 64).wr (STK_BUF_STAGE 1) 0xFFFF0000).wr (STK_BUF_STAGE 3) 1578407310)), (by decide +kernel)⟩,
   ⟨5, (State.reset), (by decide +kernel)⟩,
   ⟨((State.reset.put (STK_STAT.BUF_BUSY) 1)), (by decide +kernel)⟩,
   ⟨2000, ((State.reset.setBuf 2000 { desc := [64, 0xFFFF0000, 0, 0] })), (by decide +kernel)⟩,
   ⟨5, (State.reset), (by decide +kernel)⟩,
   ⟨2000, (State.reset), (by decide +kernel)⟩,
   ⟨2000, ((State.reset.setBuf 2000 { desc := [64, 0xFFFF0000, 0, 0] })), (by decide +kernel)⟩,
   ⟨2000, (State.reset), (by decide +kernel)⟩,
   ⟨.hearth, 600, ((State.reset.setTask 600 { State.reset.taskRec 600 with desc := [0, 0x100103, 0, 1000, 1] })), (by decide +kernel)⟩,
   ⟨.hearth, 600, (((((State.reset.setTask 600 { State.reset.taskRec 600 with desc := [0, 0x100103, 0, 1000, 1] }).put (STK_TS0.STATE 600) 2).put (STK_CTRL.EN) 1).wr (STK_QCFG 0) 0)), (by decide +kernel)⟩,
   ⟨.hearth, 600, 600, (((((State.reset.setTask 600 { State.reset.taskRec 600 with desc := [0, 0x100103, 0, 1000, 1] }).put (STK_TS0.STATE 600) 2).put (STK_CTRL.EN) 1).wr (STK_QCFG 0) 5)), (by decide +kernel)⟩,
   ⟨600, (State.reset), (by decide +kernel)⟩,
   ⟨600, ((State.reset.put (STK_TS0.STATE 600) 3)), (by decide +kernel)⟩,
   ⟨256, ((State.reset.put (STK_TS0.STATE 256) 4)), (by decide +kernel)⟩,
   ⟨600, ((State.reset.put (STK_TS0.STATE 600) 5)), (by decide +kernel)⟩,
   ⟨600, ((State.reset.put (STK_TS0.STATE 600) 6)), (by decide +kernel)⟩,
   ⟨5, (by decide +kernel)⟩⟩

theorem witness_StackEventsComplete :
    (∃ (k : Fin 4) (n : Fin 4096) (r : TaskRec) (d : Nat) (s : State), s.stk.tasks = [(n, r)] ∧ r.delay = some (k, d) ∧ s.taskState n = 3 ∧ Held.delayed n ∉ s.stk.held ∧ s.get (STK_QSTAT.DEPTH (s.taskQueue n)) < s.get ⟨STK_QCFG (s.taskQueue n), 0, 12⟩ ∧ s.seq.base = 0 ∧ 0 < s.dlyTick k)
    ∧ (∃ (n : Fin 4096) (s : State), (s.taskRec n).inval = true ∧ s.taskState n = 5)
    ∧ (∃ (h : Held) (s : State), (s.stk.held.find? (fun x => (s.tryHeld x).isSome) = some h))
    ∧ (∃ (i : Fin 16) (n : Fin 4096) (w : Bool) (s : State), s.is STK_CTRL.EN = true ∧ (s.runPlanes.any (fun pl => (s.tile (tileOf pl i)).slot.isSome) = false) ∧ s.nextTable i = some (n, w))
    ∧ (∃ (i : Fin 16) (n : Fin 4096) (r : List (Fin 4096)) (s : State), s.is STK_CTRL.EN = true ∧ (s.runPlanes.any (fun pl => (s.tile (tileOf pl i)).slot.isSome) = false) ∧ s.nextTable i = none ∧ s.readyOn i = n :: r)
    ∧ (∃ (i : Fin 16) (pl : Fin 2) (q : Slot) (s : State), s.runPlanes = [pl] ∧ (s.tile (tileOf pl i)).task = none ∧ (s.tile (tileOf pl i)).slot = some q ∧ q.waits = false)
    ∧ (∃ (i : Fin 16) (n : Fin 4096) (s : State), (s.tile (tileOf s.activePlane i)).task = some n ∧ (s.tile (tileOf s.activePlane i)).wait = none ∧ 512 ≤ n.val ∧ s.tableOf s.placement i ≠ [] ∧ (s.taskRec n).wcet ≤ (s.tile (tileOf s.activePlane i)).tcyc.toNat ∧ s.runPlanes = [s.activePlane] ∧ (∀ k, (s.is (IC_SRC_CFG.WAKE k) && s.get (IC_SRC_CFG.TKIND k) == 3 && s.get (IC_SRC_CFG.TARGET k) == n.val) = false))
    ∧ (∃ (n : Fin 4096) (s : State), 512 ≤ n.val ∧ (4 ≤ s.taskState n ∧ s.taskState n ≤ 6) ∧ (s.taskRec n).missed = false)
    ∧ (∃ (i : Fin 16) (n : Fin 4096) (s : State), s.runPlanes = [s.activePlane] ∧ s.headEnd (tileOf s.activePlane i) = some (n, .tend) ∧ s.untimed n = true)
    ∧ (∃ (n : Fin 4096) (skew : Nat) (s : State), s.untimed n = true ∧ s.taskState n = 6 ∧ (s.runPlanes.all (fun pl => (s.taskRec n).endOf pl) = true) ∧ skew ≤ getBits (s.rd STK_SKEW_LIM) 0 16)
    ∧ (∃ (i : Fin 16) (n : Fin 4096) (c : Nat) (at_ : Nat) (s : State), s.runPlanes = [s.activePlane] ∧ s.headEnd (tileOf s.activePlane i) = some (n, .fault c at_))
    ∧ (∃ (n : Fin 4096) (s : State), (s.taskRec n).want.isSome = true ∧ (s.taskState n ≠ 5 ∧ s.taskState n ≠ 6))
    ∧ (∃ (h : Fin 8192) (s : State), (s.bufRec h).want.isSome = true ∧ (s.bufRec h).spoiled = false ∧ ((s.bufUsers h).all (fun n => s.taskState n != 5 && s.taskState n != 6) = true))
    ∧ (∃ (h : Fin 8192) (acc : Nat) (s : State), s.stk.cfg.getLsbD 4 = true ∧ s.is STK_CTRL.FREEZE = false ∧ (s.bufRec h).defined = true ∧ 1024 ≤ h.val ∧ s.tierFor h acc ≠ (s.bufRec h).tier)
    ∧ (∃ (k : Nat) (s : State), k = s.stk.measAt + getBits s.stk.cfg 16 16 ∧ (s.stk.cfg.getLsbD 4 = false ∨ s.is STK_CTRL.FREEZE = true)) :=
  ⟨⟨0, 600, ({ delay := some (0, 2) }), 2, (((((State.reset.setTask 600 { delay := some (0, 2) }).put (STK_TS0.STATE 600) 3).put (STK_TS0.QUEUE 600) 16).wr (STK_DLY_TICK 0) 1)), (by decide +kernel)⟩,
   ⟨600, (((State.reset.setTask 600 { State.reset.taskRec 600 with inval := true }).put (STK_TS0.STATE 600) 5)), (by decide +kernel)⟩,
   ⟨(.event 600), (({ State.reset with stk := { State.reset.stk with held := [.event 600] } } : State)), (by decide +kernel)⟩,
   ⟨0, 257, false, (((((State.reset.put (STK_CTRL.EN) 1).put (STK_TS0.STATE 257) 2).put (STK_TS0.PLACED 257) 1).put (PC_STAT.STATE_A) 3)), (by decide +kernel)⟩,
   ⟨0, 600, ([]), ((((((State.reset.put (STK_CTRL.EN) 1).put (STK_TS0.STATE 600) 4).put (STK_TS0.PLACED 600) 1).put (STK_TS0.QUEUE 600) 16).put (PC_STAT.STATE_A) 3)), (by decide +kernel)⟩,
   ⟨0, 0, ({ task := 600, entry := 0x40000, mx := false, args := [], top := 0 }), (((State.reset.put (PC_STAT.STATE_A) 3).setTile 0 { State.reset.tile 0 with slot := some { task := 600, entry := 0x40000, mx := false, args := [], top := 0 } })), (by decide +kernel)⟩,
   ⟨0, 600, ((((State.reset.setTile 0 { State.reset.tile 0 with task := some 600 }).put (STK_TS0.PLACED 257) 1).put (PC_STAT.STATE_A) 3)), (by decide +kernel)⟩,
   ⟨600, ((State.reset.put (STK_TS0.STATE 600) 6)), (by decide +kernel)⟩,
   ⟨0, 600, (((((State.reset.put (PC_STAT.STATE_A) 3).setTile 0 { State.reset.tile 0 with ends := [(600, .tend)] }).setTask 600 { desc := [0, 0x100103, 0, 1000, 1, 0, 0, 0, 0x800007D0] }).setBuf 2000 { desc := [64, 8, 0, 0] })), (by decide +kernel)⟩,
   ⟨600, 0, ((((State.reset.setTask 600 { desc := [0, 0x100103, 0, 1000, 1, 0, 0, 0, 0x800007D0] }).setBuf 2000 { desc := [64, 8, 0, 0] }).put (STK_TS0.STATE 600) 6)), (by decide +kernel)⟩,
   ⟨0, 600, 4, 64, (((State.reset.put (PC_STAT.STATE_A) 3).setTile 0 { State.reset.tile 0 with ends := [(600, .fault 4 64)] })), (by decide +kernel)⟩,
   ⟨600, ((State.reset.setTask 600 { State.reset.taskRec 600 with want := some 3 })), (by decide +kernel)⟩,
   ⟨2000, ((State.reset.setBuf 2000 { desc := [64], want := some 1 })), (by decide +kernel)⟩,
   ⟨2000, 0, (({ (State.reset.setBuf 2000 { desc := [1024, 8], tier := 1 }) with stk := { (State.reset.setBuf 2000 { desc := [1024, 8], tier := 1 }).stk with cfg := 16 } } : State)), (by decide +kernel)⟩,
   ⟨3, (({ State.reset with stk := { State.reset.stk with cfg := 0x30000 } } : State)), (by decide +kernel)⟩⟩

theorem witness_InterruptControllerComplete :
    (∃ (n : Fin 512) (samples : Nat) (s : State), samples ≤ s.get (IC_SRC_CFG.FLT n))
    ∧ (∃ (n : Fin 512) (samples : Nat) (s : State), s.get (IC_SRC_CFG.FLT n) < samples ∧ (n.val < 430 ∨ 448 ≤ n.val) ∧ s.srcLevel n = none ∧ s.is (icLive n) = false)
    ∧ (∃ (n : Fin 512) (samples : Nat) (s : State), s.get (IC_SRC_CFG.FLT n) < samples ∧ (n.val < 430 ∨ 448 ≤ n.val) ∧ s.srcLevel n = none ∧ s.is (icLive n) = true)
    ∧ (∃ (i : Fin 64) (n : Fin 512) (s : State), s.is (IC_CLAIM.VALID i) = false ∧ ((finList 512).find? (fun m => s.icTarget m == some i && s.icWaits m && s.icReady m) = some n))
    ∧ (∃ (k : Fin 16) (i : Fin 64) (n : Fin 512) (s : State), i.val = k.val ∧ s.is (IC_CLAIM.VALID i) = false ∧ ((finList 512).find? (fun m => s.icTarget m == some i && s.icWaits m && s.icReady m) = some n))
    ∧ (∃ (i : Fin 64) (s : State), (i.val = 16 ∨ 32 ≤ i.val) ∧ s.is (IC_CLAIM.VALID i) = true ∧ s.is (IC_CLAIM.TAKEN i) = false)
    ∧ (∃ (i : Fin 64) (s : State), ((i.val ≠ 16 ∧ i.val < 32) ∨ s.is (IC_CLAIM.VALID i) = false ∨ s.is (IC_CLAIM.TAKEN i) = true))
    ∧ (∃ (who : Who) (v : Word) (i : Fin 64) (s : State), ((who = .hearth ∧ i = 16) ∨ (who = .host ∧ i.val = 32 + getBits v 16 5) ∨ (∃ k : Fin 32, who = .tile k ∧ planeOf k = s.activePlane ∧ i.val = (tileNo k).val)) ∧ s.is (IC_CLAIM.VALID i) = true ∧ s.get (IC_CLAIM.SRC i) = getBits v 0 9)
    ∧ (∃ (who : Who) (v : Word) (i : Fin 64) (s : State), ((who = .hearth ∧ i = 16) ∨ (who = .host ∧ i.val = 32 + getBits v 16 5) ∨ (∃ k : Fin 32, who = .tile k ∧ planeOf k = s.activePlane ∧ i.val = (tileNo k).val)) ∧ (s.is (IC_CLAIM.VALID i) = false ∨ s.get (IC_CLAIM.SRC i) ≠ getBits v 0 9))
    ∧ (∃ (k : Fin 32) (s : State), planeOf k ≠ s.activePlane)
    ∧ (∃ (g : Fin 16) (s : State), s.is (IC_GRP_HOLD.RUNNING g) = true)
    ∧ (∃ (n : Fin 512) (i : Fin 64) (due : Time) (s : State), s.redirectAt n = some (i, due) ∧ s.is (IC_CLAIM.VALID 16) = false ∧ s.is HM_STAT.HEARTH_UP = true)
    ∧ (∃ (v : Word) (s : State), s.wakeRefused (v &&& 0x1FFFFFFF) = true)
    ∧ (∃ (n : Fin 512) (v : Word) (s : State), s.wakeRefused (v &&& 0x1FFFFFFF) = false ∧ (s.is (IC_SRC_CFG.EN n) = false ∨ (s.rd (IC_SRC_CFG n) ^^^ v) &&& 0x3FFE = 0))
    ∧ (∃ (n : Fin 512) (v : Word) (s : State), s.wakeRefused (v &&& 0x1FFFFFFF) = false ∧ s.is (IC_SRC_CFG.EN n) = true ∧ (s.rd (IC_SRC_CFG n) ^^^ v) &&& 0x3FFE ≠ 0)
    ∧ (∃ (i : Fin 16) (m : IcMark) (w : IcMark) (s : State), s.icAlone 0 i = some m ∧ s.icAlone 1 i = some w)
    ∧ (∃ (i : Fin 16) (pl : Fin 2) (m : IcMark) (s : State), s.icAlone pl i = some m ∧ s.icAlone (1 - pl) i = none)
    ∧ (∃ (who : Who) (s : State), s.acts who = false) :=
  ⟨⟨0, 0, (State.reset), (by decide +kernel)⟩,
   ⟨409, 1, (State.reset), (by decide +kernel)⟩,
   ⟨409, 1, ((State.reset.put (icLive 409) 1)), (by decide +kernel)⟩,
   ⟨16, 0, ((((State.reset.put (IC_SRC_CFG.EN 0) 1).put (icPend 0) 1).put (HM_STAT.HEARTH_UP) 1)), (by decide +kernel)⟩,
   ⟨0, 0, 0, (((((((State.reset.setTile 0 { State.reset.tile 0 with task := some 600, sr := 0x40 }).put (IC_SRC_CFG.EN 0) 1).put (icPend 0) 1).put (IC_SRC_CFG.TKIND 0) 3).put (IC_SRC_CFG.TARGET 0) 600).put (PC_STAT.STATE_A) 3)), (by decide +kernel)⟩,
   ⟨16, ((State.reset.put (IC_CLAIM.VALID 16) 1)), (by decide +kernel)⟩,
   ⟨0, (State.reset), (by decide +kernel)⟩,
   ⟨.hearth, 5, 16, (((State.reset.put (IC_CLAIM.VALID 16) 1).put (IC_CLAIM.SRC 16) 5)), (by decide +kernel)⟩,
   ⟨.hearth, 5, 16, (State.reset), (by decide +kernel)⟩,
   ⟨16, (State.reset), (by decide +kernel)⟩,
   ⟨0, ((State.reset.put (IC_GRP_HOLD.RUNNING 0) 1)), (by decide +kernel)⟩,
   ⟨0, 0, 256000, (((((((State.reset.put (IC_SRC_CFG.EN 0) 1).put (icPend 0) 1).put (IC_SRC_CFG.TKIND 0) 3).put (IC_SRC_CFG.TARGET 0) 600).put (IC_TGT.REDIR 0) 1).put (HM_STAT.HEARTH_UP) 1)), (by decide +kernel)⟩,
   ⟨0x1258C001, (State.reset), (by decide +kernel)⟩,
   ⟨0, 1, (State.reset), (by decide +kernel)⟩,
   ⟨0, 2, ((State.reset.put (IC_SRC_CFG.EN 0) 1)), (by decide +kernel)⟩,
   ⟨0, (⟨true, 5, 9, false⟩), (⟨true, 6, 9, false⟩), (({ State.reset with ic := { State.reset.ic with marks := [((0, 0), [⟨true, 5, 9, false⟩]), ((1, 0), [⟨true, 6, 9, false⟩])] } } : State)), (by decide +kernel)⟩,
   ⟨0, 1, (⟨true, 6, 9, false⟩), (({ State.reset with ic := { State.reset.ic with marks := [((1, 0), [⟨true, 6, 9, false⟩])] } } : State)), (by decide +kernel)⟩,
   ⟨.windowT, (State.reset), (by decide +kernel)⟩⟩

theorem witness_SoftwareSourceRule :
    ∃ (who : Who) (s : State), s.acts who = true :=
  ⟨.hearth, (State.reset), (by decide +kernel)⟩

def stSafetyAndSignetCyclesComplete9 : State := ({ State.reset with si := { State.reset.si with snap := some { at_ := 0 } } } : State)
theorem witness_SafetyAndSignetCyclesComplete :
    (∃ (s : State), s.get SI_STAT.ISTATE ≠ 0 ∧ s.si.snap = none ∧ s.periodNo % s.sepPeriods = 0)
    ∧ (∃ (n : SafeSnap) (s : State), s.si.snap = some n ∧ s.si.restarting = false)
    ∧ (∃ (one : Bool) (r : ChanResult) (s : State), (s.chan one).result = some r)
    ∧ (∃ (one : Bool) (cycles : Nat) (r : ChanResult) (q : ChanResult) (s : State), s.si.snap.isSome = true ∧ (s.chan one).window = none ∧ s.si.restarting = false ∧ (one = false ∨ (23750 ≤ cycles ∧ cycles ≤ 26250)) ∧ (s.chan one).result = some r ∧ (s.chan one).held = some q ∧ s.differences r q = 0)
    ∧ (∃ (one : Bool) (cycles : Nat) (r : ChanResult) (q : ChanResult) (s : State), s.si.snap.isSome = true ∧ (s.chan one).window = none ∧ s.si.restarting = false ∧ (one = false ∨ (23750 ≤ cycles ∧ cycles ≤ 26250)) ∧ (s.chan one).result = some r ∧ (s.chan one).held = some q ∧ s.differences r q ≠ 0)
    ∧ (∃ (one : Bool) (cycles : Nat) (r : ChanResult) (s : State), s.si.snap.isSome = true ∧ (s.chan one).window = none ∧ s.si.restarting = false ∧ (one = false ∨ (23750 ≤ cycles ∧ cycles ≤ 26250)) ∧ (s.chan one).result = some r ∧ (s.chan one).held = none)
    ∧ (∃ (one : Bool) (cycles : Nat) (s : State), s.si.snap.isSome = true ∧ (s.chan one).window = none ∧ s.si.restarting = false ∧ (one = false ∨ (23750 ≤ cycles ∧ cycles ≤ 26250)) ∧ (s.chan one).result = none)
    ∧ (∃ (cycles : Nat) (r : ChanResult) (q : ChanResult) (s : State), s.si.snap.isSome = true ∧ s.si.ch1.window = none ∧ s.si.restarting = false ∧ s.si.ch1.result = some r ∧ s.si.ch1.held = some q ∧ s.differences r q = 0 ∧ (cycles < 23750 ∨ 26250 < cycles))
    ∧ (∃ (n : SafeSnap) (u : State) (v : State) (s : State), s.si.snap = some n ∧ u = ((s.endWindow true).endWindow false).advance n.commitAt ∧ v = u.commitBegin (u.snapAtCommit n))
    ∧ (∃ (s : State), s.si.set.isSome = true)
    ∧ (∃ (ok : Bool) (s : State), (ok = true ∨ s.si.set = none))
    ∧ (∃ (q : TelegramCopy) (r : List TelegramCopy) (s : State), s.si.queue = q :: r ∧ s.matchConn q.port q.udp q.bytes = none)
    ∧ (∃ (q : TelegramCopy) (r : List TelegramCopy) (c : Fin 64) (o : SafeObject) (s : State), s.si.queue = q :: r ∧ s.matchConn q.port q.udp q.bytes = some c ∧ s.object c = some o)
    ∧ (∃ (c : Fin 64) (n : SafeSnap) (o : SafeObject) (s : State), s.si.snap = some n ∧ s.object c = some o) :=
  ⟨⟨((State.reset.put (SI_STAT.ISTATE) 1)), (by decide +kernel)⟩,
   ⟨({ at_ := 0 }), (({ State.reset with si := { State.reset.si with snap := some { at_ := 0 } } } : State)), (by decide +kernel)⟩,
   ⟨true, ({}), (({ State.reset with si := { State.reset.si with ch1 := { result := some {} } } } : State)), (by decide +kernel)⟩,
   ⟨true, 25000, ({}), ({}), (({ State.reset with si := { State.reset.si with snap := some { at_ := 0 }, ch1 := { result := some {}, held := some {} } } } : State)), (by decide +kernel)⟩,
   ⟨true, 25000, ({ dists := [9] }), ({}), (({ State.reset with si := { State.reset.si with snap := some { at_ := 0 }, ch1 := { result := some { dists := [9] }, held := some {} } } } : State)), (by decide +kernel)⟩,
   ⟨true, 26250, ({}), (({ State.reset with si := { State.reset.si with snap := some { at_ := 0 }, ch1 := { result := some {} } } } : State)), (by decide +kernel)⟩,
   ⟨true, 23750, (({ State.reset with si := { State.reset.si with snap := some { at_ := 0 } } } : State)), (by decide +kernel)⟩,
   ⟨26251, ({}), ({}), (({ State.reset with si := { State.reset.si with snap := some { at_ := 0 }, ch1 := { result := some {}, held := some {} } } } : State)), (by decide +kernel)⟩,
   ⟨({ at_ := 0 }), _, _, stSafetyAndSignetCyclesComplete9, (by decide +kernel), rfl, rfl⟩,
   ⟨(({ State.reset with si := { State.reset.si with set := some {} } } : State)), (by decide +kernel)⟩,
   ⟨true, (State.reset), (by decide +kernel)⟩,
   ⟨({ port := 0, udp := 0, bytes := [], tin := 0 }), ([]), (({ State.reset with si := { State.reset.si with queue := [{ port := 0, udp := 0, bytes := [], tin := 0 }] } } : State)), (by decide +kernel)⟩,
   ⟨({ port := 0, udp := 0, bytes := [], tin := 0 }), ([]), 0, ({ conn := { connId := 0, src := 0, ver := 1, continuity := false, arms := 1, port := 0, udp := 0, wd := 100, maxAge := 100, skew := 0, seqWin := 1, errLim := 1, lock := false, degWin := 10, txId := 0, txCap := 0, txPort := 0, txUdp := 0, txYaw := 0, txMove := {} }, person := false, vh := 0, c := 0 }), (({ State.reset with si := { State.reset.si with queue := [{ port := 0, udp := 0, bytes := [], tin := 0 }], set := some { objects := [{ conn := { connId := 0, src := 0, ver := 1, continuity := false, arms := 1, port := 0, udp := 0, wd := 100, maxAge := 100, skew := 0, seqWin := 1, errLim := 1, lock := false, degWin := 10, txId := 0, txCap := 0, txPort := 0, txUdp := 0, txYaw := 0, txMove := {} }, person := false, vh := 0, c := 0 }] } } } : State)), (by decide +kernel)⟩,
   ⟨0, ({ at_ := 0 }), ({ conn := { connId := 0, src := 0, ver := 1, continuity := false, arms := 1, port := 0, udp := 0, wd := 100, maxAge := 100, skew := 0, seqWin := 1, errLim := 1, lock := false, degWin := 10, txId := 0, txCap := 0, txPort := 0, txUdp := 0, txYaw := 0, txMove := {} }, person := false, vh := 0, c := 0 }), (({ State.reset with si := { State.reset.si with snap := some { at_ := 0 }, set := some { objects := [{ conn := { connId := 0, src := 0, ver := 1, continuity := false, arms := 1, port := 0, udp := 0, wd := 100, maxAge := 100, skew := 0, seqWin := 1, errLim := 1, lock := false, degWin := 10, txId := 0, txCap := 0, txPort := 0, txUdp := 0, txYaw := 0, txMove := {} }, person := false, vh := 0, c := 0 }] } } } : State)), (by decide +kernel)⟩⟩

theorem witness_SafetyCommandsComplete :
    (∃ (k : Fin 16) (t0 : Nat) (held : Nat) (s : State), (t0 + held * 1000 * nsUnits) < t0 + (s.inCfg k).filterTime)
    ∧ (∃ (k : Fin 16) (one : Bool) (t0 : Nat) (held : Nat) (s : State), (t0 + held * 1000 * nsUnits) < s.lowFrom k one t0 + (s.inCfg k).filterTime)
    ∧ (∃ (k : Fin 16) (one : Bool) (level : Bool) (t0 : Nat) (held : Nat) (s : State), (((if level then t0 else s.lowFrom k one t0) + (s.inCfg k).filterTime) ≤ (t0 + held * 1000 * nsUnits)))
    ∧ (∃ (k : Fin 16) (at_ : Nat) (u : Nat) (s : State), (s.sin k).since = some u ∧ s.inUsed k = true ∧ u + (s.inCfg k).disc * 1000000 * nsUnits < at_ ∧ (s.sin k).fault = false)
    ∧ (∃ (n : Fin 4) (b : Time) (s : State), s.si.tpsBase = some b ∧ n ∈ s.pset.sourcesInUse ∧ (s.si.tpsLow.all (fun (q : Fin 4 × Time) => q.1 != n) = true))
    ∧ (∃ (n : Fin 4) (u : Time) (s : State), (s.si.tpsLow.find? (fun (q : Fin 4 × Time) => q.1 == n) = some (n, u)) ∧ (∀ (k : Fin 16) (one : Bool), s.inUsed k = true → s.lineFails k one n u (u + (s.pset.pulse n).width * 1000 * nsUnits) ((s.pset.pulse n).tpDly * 1000 * nsUnits) = false))
    ∧ (∃ (n : Fin 4) (u : Time) (k : Fin 16) (one : Bool) (s : State), (s.si.tpsLow.find? (fun (q : Fin 4 × Time) => q.1 == n) = some (n, u)) ∧ s.inUsed k = true ∧ s.lineFails k one n u (u + (s.pset.pulse n).width * 1000 * nsUnits) ((s.pset.pulse n).tpDly * 1000 * nsUnits) = true)
    ∧ (∃ (k : Fin 12) (s : State), (s.sout k).fault = false)
    ∧ (∃ (k : Fin 12) (s : State), (s.sout k).fault = true)
    ∧ (∃ (k : Fin 12) (one : Bool) (u : Nat) (s : State), (s.sout k).on = some u ∧ ((if one then (s.sout k).t1 else (s.sout k).t2) = none) ∧ ((if one then (s.sout k).p2 else (s.sout k).p1) = true) ∧ (u + (s.outCfg k).fbDly * 1000 * nsUnits ≤ (max s.now (if one then (s.sout k).n1 else (s.sout k).n2))))
    ∧ (∃ (k : Fin 12) (one : Bool) (u : Nat) (s : State), (s.sout k).on = some u ∧ ((if one then (s.sout k).t1 else (s.sout k).t2) = none) ∧ ((if one then (s.sout k).p2 else (s.sout k).p1) = false ∨ (max s.now (if one then (s.sout k).n1 else (s.sout k).n2)) < u + (s.outCfg k).fbDly * 1000 * nsUnits))
    ∧ (∃ (k : Fin 12) (one : Bool) (low : Option Nat) (high : Option Nat) (u : Nat) (s : State), ((if one then (s.sout k).t1 else (s.sout k).t2) = some u) ∧ testPasses u (u + (s.outCfg k).testWidth * 1000 * nsUnits) ((s.outCfg k).fbDly * 1000 * nsUnits) low high = true)
    ∧ (∃ (k : Fin 12) (one : Bool) (low : Option Nat) (high : Option Nat) (u : Nat) (s : State), ((if one then (s.sout k).t1 else (s.sout k).t2) = some u) ∧ testPasses u (u + (s.outCfg k).testWidth * 1000 * nsUnits) ((s.outCfg k).fbDly * 1000 * nsUnits) low high = false)
    ∧ (∃ (k : Fin 12) (at_ : Time) (s : State), (s.sout k).brk = some at_)
    ∧ (∃ (held : Nat), held < 1000)
    ∧ (∃ (held : Nat), 1000 ≤ held)
    ∧ (∃ (one : Bool) (at_ : Nat) (r : Nat) (s : State), (s.sack one).level = true ∧ (s.sack one).rise = some r ∧ r + 3 * secUnits < at_)
    ∧ (∃ (at_ : Nat) (u : Nat) (arms : BitVec 8) (b : Bool) (s : State), s.si.token = some (u, arms, b) ∧ u + 5 * secUnits ≤ at_) :=
  ⟨⟨0, 0, 0, (({ State.reset with si := { State.reset.si with set := some { inputs := [{ filter := 1 }] } } } : State)), (by decide +kernel)⟩,
   ⟨0, true, 0, 0, (({ State.reset with si := { State.reset.si with set := some { inputs := [{ filter := 1 }] } } } : State)), (by decide +kernel)⟩,
   ⟨0, true, true, 0, 99999, (State.reset), (by decide +kernel)⟩,
   ⟨0, 256000001, 0, (({ State.reset with si := { State.reset.si with set := some { inputs := [{}] }, inputs := [(0, { since := some 0 })] } } : State)), (by decide +kernel)⟩,
   ⟨0, 0, (({ State.reset with si := { State.reset.si with set := some { inputs := [{ tps1 := some 0 }] }, tpsBase := some 0 } } : State)), (by decide +kernel)⟩,
   ⟨0, 0, (({ State.reset with si := { State.reset.si with tpsLow := [(0, 0)] } } : State)), (by decide +kernel)⟩,
   ⟨0, 0, 0, true, (({ State.reset with si := { State.reset.si with set := some { inputs := [{ tps1 := some 0 }] }, tpsLow := [(0, 0)], inputs := [(0, { l1 := true })] } } : State)), (by decide +kernel)⟩,
   ⟨0, (State.reset), (by decide +kernel)⟩,
   ⟨0, (({ State.reset with si := { State.reset.si with outputs := [(0, { fault := true })] } } : State)), (by decide +kernel)⟩,
   ⟨0, true, 0, (({ State.reset with si := { State.reset.si with outputs := [(0, { on := some 0, p1 := true, p2 := true, n1 := 9000000 })] } } : State)), (by decide +kernel)⟩,
   ⟨0, true, 0, (({ State.reset with si := { State.reset.si with outputs := [(0, { on := some 0, p1 := true, p2 := true, n1 := 900 })] } } : State)), (by decide +kernel)⟩,
   ⟨0, true, (some 0), (some ((State.reset.outCfg 0).testWidth * 1000 * nsUnits)), 0, (({ State.reset with si := { State.reset.si with outputs := [(0, { t1 := some 0 })] } } : State)), (by decide +kernel)⟩,
   ⟨0, true, none, none, 0, (({ State.reset with si := { State.reset.si with outputs := [(0, { t1 := some 0 })] } } : State)), (by decide +kernel)⟩,
   ⟨0, 0, (({ State.reset with si := { State.reset.si with outputs := [(0, { brk := some 0 })] } } : State)), (by decide +kernel)⟩,
   ⟨0, (by decide +kernel)⟩,
   ⟨1000, (by decide +kernel)⟩,
   ⟨true, 768000000001, 0, (({ State.reset with si := { State.reset.si with sack1 := { level := true, rise := some 0 } } } : State)), (by decide +kernel)⟩,
   ⟨1280000000000, 0, 0, true, (({ State.reset with si := { State.reset.si with token := some (0, 0, true) } } : State)), (by decide +kernel)⟩⟩

theorem witness_ChainControlComplete :
    (∃ (v : Word) (s : State), v.getLsbD 0 = true ∧ s.is CH_CTRL.EN = false ∧ (s.putB CH_CTRL.CS_EN (v.getLsbD 1)).schedOk = true)
    ∧ (∃ (v : Word) (s : State), v.getLsbD 0 = true ∧ s.is CH_CTRL.EN = false ∧ (s.putB CH_CTRL.CS_EN (v.getLsbD 1)).schedOk = false)
    ∧ (∃ (v : Word) (s : State), v.getLsbD 0 = false ∧ s.is CH_CTRL.EN = true)
    ∧ (∃ (v : Word) (s : State), v.getLsbD 0 = s.is CH_CTRL.EN)
    ∧ (∃ (s : State), s.is CH_CTRL.EN = false)
    ∧ (∃ (s : State), s.is CH_CTRL.EN = true)
    ∧ (∃ (c : Sched) (s : State), s.chain.sched = some c ∧ s.get CH_STAT.STATE = 1 ∧ s.is CH_CTRL.CS_EN = true ∧ s.chain.backoff = none)
    ∧ (∃ (c : Sched) (q : ChainSlot) (k : Nat) (s : State), s.chain.sched = some c ∧ (c.slots.zipIdx.find? (fun p => p.1.owner == s.ownCell && p.1.cs) = some (q, k)) ∧ s.get CH_STAT.STATE = 2 ∧ s.chain.claimed = false ∧ s.seq.running = true)
    ∧ (∃ (at_ : Time) (s : State), s.chain.backoff = some at_)
    ∧ (∃ (s : State), 8 < s.chain.gwAge)
    ∧ (∃ (s : State), s.chain.gwAge ≤ 8)
    ∧ (∃ (lane : Fin 16) (b : Bool) (s : State), (lane.val = (if b then 8 else 0)) ∧ s.hosts b = false)
    ∧ (∃ (lane : Fin 16) (b : Bool) (s : State), (lane.val = (if b then 8 else 0)) ∧ s.hosts b = true)
    ∧ (∃ (lane : Fin 16) (x : Fin 2) (s : State), lane.val / 8 = x.val ∧ lane.val % 8 ≠ 0 ∧ s.hosts (decide (8 ≤ lane.val)) = true)
    ∧ (∃ (lane : Fin 16) (s : State), lane.val % 8 ≠ 0 ∧ s.hosts (decide (8 ≤ lane.val)) = false)
    ∧ (∃ (c : Sched) (s : State), s.chain.sched = some c ∧ (s.get CH_STAT.STATE = 3 ∨ s.get CH_STAT.STATE = 4)) :=
  ⟨⟨1, ((State.reset.mwrite schedAddr [67, 72, 73, 78, 2, 1, 0, 0, 72, 232, 1, 0, 217, 47, 80, 87, 64, 0, 32, 0, 100, 0, 10, 0, 144, 208, 3, 0, 0, 0, 0, 0, 0, 0, 0, 0, 232, 3, 0, 3, 0, 0, 0, 0, 0, 0, 0, 0])), (by decide +kernel)⟩,
   ⟨1, (State.reset), (by decide +kernel)⟩,
   ⟨0, ((State.reset.put (CH_CTRL.EN) 1)), (by decide +kernel)⟩,
   ⟨0, (State.reset), (by decide +kernel)⟩,
   ⟨(State.reset), (by decide +kernel)⟩,
   ⟨((State.reset.put (CH_CTRL.EN) 1)), (by decide +kernel)⟩,
   ⟨({ ver := 2, cycleNs := 125000, id := 7, launch := 64, guard := 32, prec := 100, intWin := 10, listen := 250000, slots := [{ start := 0, len8 := 1000, owner := 0, sync := true, cs := true, payA := 0, payB := 0, payFb := 0, sig := 0 }], streams := [] }), (({ ((State.reset.put (CH_STAT.STATE) 1).put (CH_CTRL.CS_EN) 1) with chain := { ((State.reset.put (CH_STAT.STATE) 1).put (CH_CTRL.CS_EN) 1).chain with sched := some { ver := 2, cycleNs := 125000, id := 7, launch := 64, guard := 32, prec := 100, intWin := 10, listen := 250000, slots := [{ start := 0, len8 := 1000, owner := 0, sync := true, cs := true, payA := 0, payB := 0, payFb := 0, sig := 0 }], streams := [] } } } : State)), (by decide +kernel)⟩,
   ⟨({ ver := 2, cycleNs := 125000, id := 7, launch := 64, guard := 32, prec := 100, intWin := 10, listen := 250000, slots := [{ start := 0, len8 := 1000, owner := 0, sync := true, cs := true, payA := 0, payB := 0, payFb := 0, sig := 0 }], streams := [] }), ({ start := 0, len8 := 1000, owner := 0, sync := true, cs := true, payA := 0, payB := 0, payFb := 0, sig := 0 }), 0, (({ ({ ((State.reset.put (CH_STAT.STATE) 2).put (CH_ROLE.STAR_A) 1) with chain := { ((State.reset.put (CH_STAT.STATE) 2).put (CH_ROLE.STAR_A) 1).chain with sched := some { ver := 2, cycleNs := 125000, id := 7, launch := 64, guard := 32, prec := 100, intWin := 10, listen := 250000, slots := [{ start := 0, len8 := 1000, owner := 0, sync := true, cs := true, payA := 0, payB := 0, payFb := 0, sig := 0 }], streams := [] } } } : State) with seq := { ({ ((State.reset.put (CH_STAT.STATE) 2).put (CH_ROLE.STAR_A) 1) with chain := { ((State.reset.put (CH_STAT.STATE) 2).put (CH_ROLE.STAR_A) 1).chain with sched := some { ver := 2, cycleNs := 125000, id := 7, launch := 64, guard := 32, prec := 100, intWin := 10, listen := 250000, slots := [{ start := 0, len8 := 1000, owner := 0, sync := true, cs := true, payA := 0, payB := 0, payFb := 0, sig := 0 }], streams := [] } } } : State).seq with running := true } } : State)), (by decide +kernel)⟩,
   ⟨0, (({ State.reset with chain := { State.reset.chain with backoff := some 0 } } : State)), (by decide +kernel)⟩,
   ⟨(({ State.reset with chain := { State.reset.chain with gwAge := 9 } } : State)), (by decide +kernel)⟩,
   ⟨(State.reset), (by decide +kernel)⟩,
   ⟨8, true, (State.reset), (by decide +kernel)⟩,
   ⟨8, true, ((State.reset.put (CH_ROLE.STAR_B) 1)), (by decide +kernel)⟩,
   ⟨9, 1, ((State.reset.put (CH_ROLE.STAR_B) 1)), (by decide +kernel)⟩,
   ⟨9, (State.reset), (by decide +kernel)⟩,
   ⟨({ ver := 2, cycleNs := 125000, id := 7, launch := 64, guard := 32, prec := 100, intWin := 10, listen := 250000, slots := [{ start := 0, len8 := 1000, owner := 0, sync := true, cs := true, payA := 0, payB := 0, payFb := 0, sig := 0 }], streams := [] }), (({ ((State.reset.put (CH_STAT.STATE) 4).put (TB_CTRL.SOURCE) 1) with chain := { ((State.reset.put (CH_STAT.STATE) 4).put (TB_CTRL.SOURCE) 1).chain with sched := some { ver := 2, cycleNs := 125000, id := 7, launch := 64, guard := 32, prec := 100, intWin := 10, listen := 250000, slots := [{ start := 0, len8 := 1000, owner := 0, sync := true, cs := true, payA := 0, payB := 0, payFb := 0, sig := 0 }], streams := [] } } } : State)), (by decide +kernel)⟩⟩

theorem witness_ChainCyclesComplete :
    (∃ (c : Sched) (own : Time) (s : State), s.chain.sched = some c ∧ s.chain.start = some own ∧ s.get CH_STAT.STATE = 4 ∧ s.chain.step = none ∧ s.chain.announce = false)
    ∧ (∃ (k : Fin 64) (c : Sched) (q : ChainSlot) (own : Time) (s : State), s.chain.sched = some c ∧ s.chain.start = some own ∧ c.slot (k.val + 1) = some q ∧ q.owner = s.ownCell ∧ s.get CH_STAT.STATE = 4)
    ∧ (∃ (k : Fin 64) (c : Sched) (q : ChainSlot) (own : Time) (s : State), s.chain.sched = some c ∧ s.chain.start = some own ∧ c.slot (k.val + 1) = some q ∧ q.owner = s.ownCell ∧ s.get CH_STAT.STATE = 4)
    ∧ (∃ (at_ : Nat) (c : Sched) (s : State), s.chain.sched = some c ∧ s.get CH_STAT.STATE = 4 ∧ (s.advance at_).violRun < 2)
    ∧ (∃ (at_ : Nat) (c : Sched) (s : State), s.chain.sched = some c ∧ s.get CH_STAT.STATE = 4 ∧ 2 ≤ (s.advance at_).violRun)
    ∧ (∃ (bad : Bool) (c : Sched) (bs : List Byte) (s : State), s.chain.sched = some c ∧ s.get CH_STAT.STATE = 4 ∧ (bad = true ∨ Frame.ofBytes c.ver bs = none))
    ∧ (∃ (c : Sched) (bs : List Byte) (f : Frame) (s : State), s.chain.sched = some c ∧ s.get CH_STAT.STATE = 4 ∧ Frame.ofBytes c.ver bs = some f ∧ (c.ver = 1 ∨ f.sched = some c.id))
    ∧ (∃ (c : Sched) (s : State), s.chain.sched = some c ∧ s.get CH_STAT.STATE = 4)
    ∧ (∃ (b : Bool) (t2 : Int) (s : State), (s.chain.request.find? (fun q => q.1 = b) = some (b, t2))) :=
  ⟨⟨({ ver := 2, cycleNs := 125000, id := 7, launch := 64, guard := 32, prec := 100, intWin := 10, listen := 250000, slots := [{ start := 0, len8 := 1000, owner := 0, sync := true, cs := true, payA := 0, payB := 0, payFb := 0, sig := 0 }], streams := [] }), 0, (({ (State.reset.put (CH_STAT.STATE) 4) with chain := { (State.reset.put (CH_STAT.STATE) 4).chain with sched := some { ver := 2, cycleNs := 125000, id := 7, launch := 64, guard := 32, prec := 100, intWin := 10, listen := 250000, slots := [{ start := 0, len8 := 1000, owner := 0, sync := true, cs := true, payA := 0, payB := 0, payFb := 0, sig := 0 }], streams := [] }, start := some 0 } } : State)), (by decide +kernel)⟩,
   ⟨0, ({ ver := 2, cycleNs := 125000, id := 7, launch := 64, guard := 32, prec := 100, intWin := 10, listen := 250000, slots := [{ start := 0, len8 := 1000, owner := 0, sync := true, cs := true, payA := 0, payB := 0, payFb := 0, sig := 0 }], streams := [] }), ({ start := 0, len8 := 1000, owner := 0, sync := true, cs := true, payA := 0, payB := 0, payFb := 0, sig := 0 }), 0, (({ (State.reset.put (CH_STAT.STATE) 4) with chain := { (State.reset.put (CH_STAT.STATE) 4).chain with sched := some { ver := 2, cycleNs := 125000, id := 7, launch := 64, guard := 32, prec := 100, intWin := 10, listen := 250000, slots := [{ start := 0, len8 := 1000, owner := 0, sync := true, cs := true, payA := 0, payB := 0, payFb := 0, sig := 0 }], streams := [] }, start := some 0 } } : State)), (by decide +kernel)⟩,
   ⟨0, ({ ver := 2, cycleNs := 125000, id := 7, launch := 64, guard := 32, prec := 100, intWin := 10, listen := 250000, slots := [{ start := 0, len8 := 1000, owner := 0, sync := true, cs := true, payA := 0, payB := 0, payFb := 0, sig := 0 }], streams := [] }), ({ start := 0, len8 := 1000, owner := 0, sync := true, cs := true, payA := 0, payB := 0, payFb := 0, sig := 0 }), 0, (({ (State.reset.put (CH_STAT.STATE) 4) with chain := { (State.reset.put (CH_STAT.STATE) 4).chain with sched := some { ver := 2, cycleNs := 125000, id := 7, launch := 64, guard := 32, prec := 100, intWin := 10, listen := 250000, slots := [{ start := 0, len8 := 1000, owner := 0, sync := true, cs := true, payA := 0, payB := 0, payFb := 0, sig := 0 }], streams := [] }, start := some 0, built := [(1, (false, ([], []))), (2, (false, ([], [])))] } } : State)), (by decide +kernel)⟩,
   ⟨0, ({ ver := 2, cycleNs := 125000, id := 7, launch := 64, guard := 32, prec := 100, intWin := 10, listen := 250000, slots := [{ start := 0, len8 := 1000, owner := 0, sync := true, cs := true, payA := 0, payB := 0, payFb := 0, sig := 0 }], streams := [] }), (({ (State.reset.put (CH_STAT.STATE) 4) with chain := { (State.reset.put (CH_STAT.STATE) 4).chain with sched := some { ver := 2, cycleNs := 125000, id := 7, launch := 64, guard := 32, prec := 100, intWin := 10, listen := 250000, slots := [{ start := 0, len8 := 1000, owner := 0, sync := true, cs := true, payA := 0, payB := 0, payFb := 0, sig := 0 }], streams := [] } } } : State)), (by decide +kernel)⟩,
   ⟨0, ({ ver := 2, cycleNs := 125000, id := 7, launch := 64, guard := 32, prec := 100, intWin := 10, listen := 250000, slots := [{ start := 0, len8 := 1000, owner := 0, sync := true, cs := true, payA := 0, payB := 0, payFb := 0, sig := 0 }], streams := [] }), (({ ((State.reset.put (CH_STAT.STATE) 4).put (CH_STAT.VIOL_RUN) 2) with chain := { ((State.reset.put (CH_STAT.STATE) 4).put (CH_STAT.VIOL_RUN) 2).chain with sched := some { ver := 2, cycleNs := 125000, id := 7, launch := 64, guard := 32, prec := 100, intWin := 10, listen := 250000, slots := [{ start := 0, len8 := 1000, owner := 0, sync := true, cs := true, payA := 0, payB := 0, payFb := 0, sig := 0 }], streams := [] } } } : State)), (by decide +kernel)⟩,
   ⟨true, ({ ver := 2, cycleNs := 125000, id := 7, launch := 64, guard := 32, prec := 100, intWin := 10, listen := 250000, slots := [{ start := 0, len8 := 1000, owner := 0, sync := true, cs := true, payA := 0, payB := 0, payFb := 0, sig := 0 }], streams := [] }), ([]), (({ (State.reset.put (CH_STAT.STATE) 4) with chain := { (State.reset.put (CH_STAT.STATE) 4).chain with sched := some { ver := 2, cycleNs := 125000, id := 7, launch := 64, guard := 32, prec := 100, intWin := 10, listen := 250000, slots := [{ start := 0, len8 := 1000, owner := 0, sync := true, cs := true, payA := 0, payB := 0, payFb := 0, sig := 0 }], streams := [] } } } : State)), (by decide +kernel)⟩,
   ⟨({ ver := 1, cycleNs := 125000, id := 7, launch := 64, guard := 32, prec := 100, intWin := 10, listen := 250000, slots := [{ start := 0, len8 := 1000, owner := 1, sync := true, cs := true, payA := 0, payB := 0, payFb := 0, sig := 0 }], streams := [] }), ([253, 255, 3, 0, 1, 1, 0, 0, 0, 0, 14, 249, 174, 21]), ({ addr := 0x3FFFD, fb := false, sync := false, cs := false, slot := 1, cycle := 0, sched := none, gw := false, tstate := 0, corr := 0, ct := none, stepCyc := 0, step := 0, payload := [] }), (({ (State.reset.put (CH_STAT.STATE) 4) with chain := { (State.reset.put (CH_STAT.STATE) 4).chain with sched := some { ver := 1, cycleNs := 125000, id := 7, launch := 64, guard := 32, prec := 100, intWin := 10, listen := 250000, slots := [{ start := 0, len8 := 1000, owner := 1, sync := true, cs := true, payA := 0, payB := 0, payFb := 0, sig := 0 }], streams := [] }, start := some 0 } } : State)), (by decide +kernel)⟩,
   ⟨({ ver := 2, cycleNs := 125000, id := 7, launch := 64, guard := 32, prec := 100, intWin := 10, listen := 250000, slots := [{ start := 0, len8 := 1000, owner := 0, sync := true, cs := true, payA := 0, payB := 0, payFb := 0, sig := 0 }], streams := [] }), (({ (State.reset.put (CH_STAT.STATE) 4) with chain := { (State.reset.put (CH_STAT.STATE) 4).chain with sched := some { ver := 2, cycleNs := 125000, id := 7, launch := 64, guard := 32, prec := 100, intWin := 10, listen := 250000, slots := [{ start := 0, len8 := 1000, owner := 0, sync := true, cs := true, payA := 0, payB := 0, payFb := 0, sig := 0 }], streams := [] } } } : State)), (by decide +kernel)⟩,
   ⟨true, 5, (({ State.reset with chain := { State.reset.chain with request := [(true, 5)] } } : State)), (by decide +kernel)⟩⟩

theorem witness_ClaspCommandsComplete :
    (∃ (x : Fin 2) (s : State), s.claspOn x = true ∧ s.is (CP_STAT.MODE x) = true ∧ s.chain.cycle % 2 = x.val)
    ∧ (∃ (x : Fin 2) (p : Fin 8) (t1 : Int) (s : State), s.claspOn x = true ∧ s.portOn x p = true ∧ ((s.clasp x).requests.find? (fun q => q.1 = p) = some (p, t1)))
    ∧ (∃ (x : Fin 2) (p : Fin 8) (s : State), s.claspOn x = true ∧ s.portOn x p = true ∧ s.is (CP_STAT.MODE x) = true)
    ∧ (∃ (x : Fin 2) (p : Fin 8) (at_ : Nat) (s : State), s.claspOn x = true ∧ s.portOn x p = true ∧ s.is (CP_STAT.MODE x) = false ∧ at_ < (s.clasp x).busy)
    ∧ (∃ (x : Fin 2) (p : Fin 8) (at_ : Nat) (s : State), s.claspOn x = true ∧ s.portOn x p = true ∧ s.is (CP_STAT.MODE x) = false ∧ (s.clasp x).busy ≤ at_ ∧ (s.clasp x).tie = [])
    ∧ (∃ (x : Fin 2) (p : Fin 8) (q : Fin 8) (cs : List Byte) (at_ : Nat) (t0 : Nat) (r : List (Fin 8 × Time × List Byte)) (s : State), s.claspOn x = true ∧ s.portOn x p = true ∧ s.is (CP_STAT.MODE x) = false ∧ (s.clasp x).busy ≤ at_ ∧ (s.clasp x).tie = (q, t0, cs) :: r ∧ at_ ≤ t0 + 10 * nsUnits)
    ∧ (∃ (x : Fin 2) (p : Fin 8) (q : Fin 8) (cs : List Byte) (at_ : Nat) (t0 : Nat) (r : List (Fin 8 × Time × List Byte)) (s : State), s.claspOn x = true ∧ s.portOn x p = true ∧ s.is (CP_STAT.MODE x) = false ∧ (s.clasp x).busy ≤ at_ ∧ (s.clasp x).tie = (q, t0, cs) :: r ∧ t0 + 10 * nsUnits < at_)
    ∧ (∃ (x : Fin 2) (p : Fin 8) (s : State), (s.claspOn x = false ∨ s.portOn x p = false))
    ∧ (∃ (x : Fin 2) (p : Fin 8) (q : Fin 8) (bs : List Byte) (cs : List Byte) (t0 : Time) (at_ : Time) (r : List (Fin 8 × Time × List Byte)) (s : State), lowestPort (s.clasp x).tie = some (p, at_, bs) ∧ (s.clasp x).tie = (q, t0, cs) :: r)
    ∧ (∃ (x : Fin 2) (c : Sched) (s : State), s.chain.sched = some c ∧ (s.get CH_STAT.STATE = 1 ∨ s.get CH_STAT.STATE = 2 ∧ s.chain.claimed = false) ∧ s.is (CP_STAT.MODE x) = true) :=
  ⟨⟨0, (((((State.reset.put (CH_ROLE.STAR_A) 1).put (CP_CTRL.EN 0) 1).put (CP_CTRL.PORT_EN 0) 0xFF).put (CP_STAT.MODE 0) 1)), (by decide +kernel)⟩,
   ⟨0, 1, 0, (((((State.reset.put (CH_ROLE.STAR_A) 1).put (CP_CTRL.EN 0) 1).put (CP_CTRL.PORT_EN 0) 0xFF).setClasp 0 { State.reset.clasp 0 with requests := [(1, 0)] })), (by decide +kernel)⟩,
   ⟨0, 1, (((((State.reset.put (CH_ROLE.STAR_A) 1).put (CP_CTRL.EN 0) 1).put (CP_CTRL.PORT_EN 0) 0xFF).put (CP_STAT.MODE 0) 1)), (by decide +kernel)⟩,
   ⟨0, 0, 0, (((((State.reset.put (CH_ROLE.STAR_A) 1).put (CP_CTRL.EN 0) 1).put (CP_CTRL.PORT_EN 0) 0xFF).setClasp 0 { State.reset.clasp 0 with busy := 1 })), (by decide +kernel)⟩,
   ⟨0, 0, 0, ((((State.reset.put (CH_ROLE.STAR_A) 1).put (CP_CTRL.EN 0) 1).put (CP_CTRL.PORT_EN 0) 0xFF)), (by decide +kernel)⟩,
   ⟨0, 0, 0, ([]), 0, 0, ([]), (((((State.reset.put (CH_ROLE.STAR_A) 1).put (CP_CTRL.EN 0) 1).put (CP_CTRL.PORT_EN 0) 0xFF).setClasp 0 { State.reset.clasp 0 with tie := [(0, 0, [])] })), (by decide +kernel)⟩,
   ⟨0, 0, 0, ([]), 2561, 0, ([]), (((((State.reset.put (CH_ROLE.STAR_A) 1).put (CP_CTRL.EN 0) 1).put (CP_CTRL.PORT_EN 0) 0xFF).setClasp 0 { State.reset.clasp 0 with tie := [(0, 0, [])] })), (by decide +kernel)⟩,
   ⟨0, 0, (State.reset), (by decide +kernel)⟩,
   ⟨0, 0, 0, ([]), ([]), 0, 0, ([]), (((((State.reset.put (CH_ROLE.STAR_A) 1).put (CP_CTRL.EN 0) 1).put (CP_CTRL.PORT_EN 0) 0xFF).setClasp 0 { State.reset.clasp 0 with tie := [(0, 0, [])] })), (by decide +kernel)⟩,
   ⟨0, ({ ver := 2, cycleNs := 125000, id := 7, launch := 64, guard := 32, prec := 100, intWin := 10, listen := 250000, slots := [{ start := 0, len8 := 1000, owner := 0, sync := true, cs := true, payA := 0, payB := 0, payFb := 0, sig := 0 }], streams := [] }), (({ ((State.reset.put (CH_STAT.STATE) 1).put (CP_STAT.MODE 0) 1) with chain := { ((State.reset.put (CH_STAT.STATE) 1).put (CP_STAT.MODE 0) 1).chain with sched := some { ver := 2, cycleNs := 125000, id := 7, launch := 64, guard := 32, prec := 100, intWin := 10, listen := 250000, slots := [{ start := 0, len8 := 1000, owner := 0, sync := true, cs := true, payA := 0, payB := 0, payFb := 0, sig := 0 }], streams := [] } } } : State)), (by decide +kernel)⟩⟩

def stPlaneCommandsComplete24 : State := (((State.reset.put (PC_STAT.STATE_A) 5).put (PC_STAT.STATE_B) 4).put (PC_STAT.EXT_RUN) 1)
theorem witness_PlaneCommandsComplete :
    (∃ (c : PeriodCmp) (s : State), s.pc.prev = some c ∧ s.runPlanes.length = 2 ∧ s.pc.since ≤ s.periodNo - 1 ∧ s.sameImages = true ∧ c.diff = none)
    ∧ (∃ (c : PeriodCmp) (d : Nat × Nat) (s : State), s.pc.prev = some c ∧ s.runPlanes.length = 2 ∧ s.pc.since ≤ s.periodNo - 1 ∧ s.sameImages = true ∧ c.diff = some d)
    ∧ (∃ (pl : Fin 2) (k : PlaneFault) (tile : Option (Fin 16)) (s : State), 2 ≤ s.planeState pl ∧ (k ≠ .eccUe ∨ tile = none))
    ∧ (∃ (pl : Fin 2) (s : State), 2 ≤ s.planeState pl)
    ∧ (∃ (pl : Fin 2) (k : PlaneFault) (tile : Option (Fin 16)) (s : State), 2 ≤ s.planeState pl ∧ 2 ≤ s.planeState (1 - pl) ∧ (k ≠ .eccUe ∨ tile = none))
    ∧ (∃ (pl : Fin 2) (k : PlaneFault) (tile : Option (Fin 16)) (s : State), s.planeState pl = 1 ∧ (k ≠ .eccUe ∨ tile = none))
    ∧ (∃ (pl : Fin 2) (k : PlaneFault) (tile : Option (Fin 16)) (s : State), s.planeState pl = 0 ∧ (k ≠ .eccUe ∨ tile = none))
    ∧ (∃ (n : Fin 64) (s : State), n ∈ s.pc.crossing)
    ∧ (∃ (pl : Fin 2) (s : State), s.planeState pl = 0)
    ∧ (∃ (pl : Fin 2) (s : State), s.planeState pl ≠ 0)
    ∧ (∃ (s : State), s.planeState s.activePlane = 5 ∧ s.planeState (1 - s.activePlane) = 4)
    ∧ (∃ (s : State), (s.planeState s.activePlane ≠ 5 ∨ s.planeState (1 - s.activePlane) ≠ 4))
    ∧ (∃ (pl : Fin 2) (s : State), 2 ≤ s.planeState pl ∧ s.planeState pl ≤ 4)
    ∧ (∃ (pl : Fin 2) (s : State), (s.planeState pl < 2 ∨ 4 < s.planeState pl))
    ∧ (∃ (pl : Fin 2) (s : State), s.planeState pl = 1)
    ∧ (∃ (pl : Fin 2) (s : State), s.planeState pl = 1 ∧ s.pc.boot = false)
    ∧ (∃ (pl : Fin 2) (s : State), s.planeState pl = 1 ∧ s.pc.boot = true)
    ∧ (∃ (pl : Fin 2) (s : State), s.planeState pl = 2)
    ∧ (∃ (pl : Fin 2) (s : State), s.planeState pl = 2 ∧ pl ∉ s.pc.swept)
    ∧ (∃ (s : State), (s.rd PC_CONFIRM).toNat ≤ (s.rd PC_CONF_CNT).toNat ∧ s.planeState 0 = 3 ∧ s.planeState 1 ≠ 5)
    ∧ (∃ (s : State), (s.rd PC_CONFIRM).toNat ≤ (s.rd PC_CONF_CNT).toNat ∧ s.planeState 0 = 3 ∧ s.planeState 1 = 5)
    ∧ (∃ (s : State), (s.rd PC_CONFIRM).toNat ≤ (s.rd PC_CONF_CNT).toNat ∧ s.planeState 0 ≠ 3 ∧ s.planeState 1 = 3)
    ∧ (∃ (s : State), s.is PC_STAT.EXT_RUN = true)
    ∧ (∃ (u : State) (s : State), s.is PC_STAT.EXT_RUN = true ∧ u = s.put PC_STAT.EXT_RUN 0 ∧ 2 ≤ u.planeState 0)
    ∧ (∃ (pl : Fin 2) (s : State), pl ∈ s.runPlanes) :=
  ⟨⟨({}), (({ ((State.reset.put (PC_STAT.STATE_A) 5).put (PC_STAT.STATE_B) 4) with pc := { ((State.reset.put (PC_STAT.STATE_A) 5).put (PC_STAT.STATE_B) 4).pc with prev := some {} } } : State)), (by decide +kernel)⟩,
   ⟨({ findings := [(5, 3)] }), ((5, 3)), (({ ((State.reset.put (PC_STAT.STATE_A) 5).put (PC_STAT.STATE_B) 4) with pc := { ((State.reset.put (PC_STAT.STATE_A) 5).put (PC_STAT.STATE_B) 4).pc with prev := some { findings := [(5, 3)] } } } : State)), (by decide +kernel)⟩,
   ⟨0, .xfer, none, (((State.reset.put (PC_STAT.STATE_A) 5).put (PC_STAT.STATE_B) 4)), (by decide +kernel)⟩,
   ⟨0, (((State.reset.put (PC_STAT.STATE_A) 5).put (PC_STAT.STATE_B) 4)), (by decide +kernel)⟩,
   ⟨0, .xfer, none, (((State.reset.put (PC_STAT.STATE_A) 5).put (PC_STAT.STATE_B) 4)), (by decide +kernel)⟩,
   ⟨0, .xfer, none, ((State.reset.put (PC_STAT.STATE_A) 1)), (by decide +kernel)⟩,
   ⟨0, .xfer, none, ((State.reset.put (PC_STAT.STATE_A) 0)), (by decide +kernel)⟩,
   ⟨0, (({ State.reset with pc := { State.reset.pc with crossing := [0] } } : State)), (by decide +kernel)⟩,
   ⟨0, ((State.reset.put (PC_STAT.STATE_A) 0)), (by decide +kernel)⟩,
   ⟨0, (((State.reset.put (PC_STAT.STATE_A) 5).put (PC_STAT.STATE_B) 4)), (by decide +kernel)⟩,
   ⟨(((State.reset.put (PC_STAT.STATE_A) 5).put (PC_STAT.STATE_B) 4)), (by decide +kernel)⟩,
   ⟨(State.reset), (by decide +kernel)⟩,
   ⟨1, (((State.reset.put (PC_STAT.STATE_A) 5).put (PC_STAT.STATE_B) 4)), (by decide +kernel)⟩,
   ⟨0, (((State.reset.put (PC_STAT.STATE_A) 5).put (PC_STAT.STATE_B) 4)), (by decide +kernel)⟩,
   ⟨0, ((State.reset.put (PC_STAT.STATE_A) 1)), (by decide +kernel)⟩,
   ⟨0, (({ (State.reset.put (PC_STAT.STATE_A) 1) with pc := { (State.reset.put (PC_STAT.STATE_A) 1).pc with boot := false } } : State)), (by decide +kernel)⟩,
   ⟨0, (({ (State.reset.put (PC_STAT.STATE_A) 1) with pc := { (State.reset.put (PC_STAT.STATE_A) 1).pc with boot := true } } : State)), (by decide +kernel)⟩,
   ⟨0, (((State.reset.put (PC_STAT.STATE_A) 2).put (PC_STAT.STATE_B) 5)), (by decide +kernel)⟩,
   ⟨0, (((State.reset.put (PC_STAT.STATE_A) 2).put (PC_STAT.STATE_B) 5)), (by decide +kernel)⟩,
   ⟨(((State.reset.put (PC_STAT.STATE_A) 3).wr (PC_CONFIRM) 0)), (by decide +kernel)⟩,
   ⟨((((State.reset.put (PC_STAT.STATE_A) 3).put (PC_STAT.STATE_B) 5).wr (PC_CONFIRM) 0)), (by decide +kernel)⟩,
   ⟨((((State.reset.put (PC_STAT.STATE_A) 5).put (PC_STAT.STATE_B) 3).wr (PC_CONFIRM) 0)), (by decide +kernel)⟩,
   ⟨((State.reset.put (PC_STAT.EXT_RUN) 1)), (by decide +kernel)⟩,
   ⟨_, stPlaneCommandsComplete24, (by decide +kernel), rfl, (by decide +kernel)⟩,
   ⟨0, (((State.reset.put (PC_STAT.STATE_A) 5).put (PC_STAT.STATE_B) 4)), (by decide +kernel)⟩⟩

theorem witness_MailboxCommandsComplete :
    (∃ (k : Fin 16) (o : Nat) (s : State), (s.slot k).state = 0 ∧ 0x10 ≤ o ∧ o < 0x800)
    ∧ (∃ (k : Fin 16) (s : State), (s.slot k).state = 0 ∧ s.hciOwns k = false)
    ∧ (∃ (k : Fin 16) (s : State), s.hciOwns k = false ∧ 3 ≤ (s.slot k).state)
    ∧ (∃ (k : Fin 16) (s : State), ((s.slot k).state = 1 ∨ (s.slot k).state = 2))
    ∧ (∃ (k : Fin 16) (r : List (Fin 16)) (s : State), s.mb.posted = k :: r ∧ s.serves = true ∧ (s.slot k).qspi = false ∧ (s.slot k).headerCodes = [] ∧ (s.slot k).addressOk = true ∧ s.boot.recovery = false)
    ∧ (∃ (k : Fin 16) (r : List (Fin 16)) (c : Nat) (s : State), s.mb.posted = k :: r ∧ s.serves = true ∧ (s.slot k).qspi = false ∧ (s.slot k).headerCodes = [c] ∧ (s.slot k).drop = false)
    ∧ (∃ (k : Fin 16) (c : Nat) (r : List Byte) (s : State), (s.slot k).out = some (c, r) ∧ (s.slot k).state = 2 ∧ s.firstOfGroup k = true ∧ s.resultWaits k = false ∧ (s.slot k).drop = false)
    ∧ (∃ (k : Fin 16) (c : Nat) (r : List Byte) (s : State), (s.slot k).out = some (c, r) ∧ (s.slot k).state = 2 ∧ s.firstOfGroup k = true ∧ s.resultWaits k = false ∧ (s.slot k).drop = true)
    ∧ (∃ (k : Fin 16) (s : State), (s.slot k).state = 3)
    ∧ (∃ (k : Fin 16) (s : State), (s.slot k).state < 3)
    ∧ (∃ (s : State), (s.boot.upd.comp ≠ 1 ∨ s.proving = false))
    ∧ (∃ (s : State), s.boot.upd.comp = 1 ∧ s.proving = true)
    ∧ (∃ (s : State), s.mb.restarting = true ∧ s.boot.recovery = false ∧ s.boot.stopped = false)
    ∧ (∃ (e : List Word) (r : List (List Word)) (s : State), s.evts = e :: r) :=
  ⟨⟨0, 16, (State.reset), (by decide +kernel)⟩,
   ⟨0, (State.reset), (by decide +kernel)⟩,
   ⟨0, ((State.reset.setSlot 0 { state := 3 })), (by decide +kernel)⟩,
   ⟨0, ((State.reset.setSlot 0 { state := 2 })), (by decide +kernel)⟩,
   ⟨0, ([]), (({ ({ ((State.reset.put (HM_STAT.HEARTH_UP) 1).setSlot 0 { state := 1, cmd := [(16, 2), (17, 6), (18, 1), (20, 253), (21, 255), (22, 1), (26, 2), (44, 215), (45, 199), (46, 182), (47, 52)] }) with mb := { ((State.reset.put (HM_STAT.HEARTH_UP) 1).setSlot 0 { state := 1, cmd := [(16, 2), (17, 6), (18, 1), (20, 253), (21, 255), (22, 1), (26, 2), (44, 215), (45, 199), (46, 182), (47, 52)] }).mb with posted := [0] } } : State) with boot := { ({ ((State.reset.put (HM_STAT.HEARTH_UP) 1).setSlot 0 { state := 1, cmd := [(16, 2), (17, 6), (18, 1), (20, 253), (21, 255), (22, 1), (26, 2), (44, 215), (45, 199), (46, 182), (47, 52)] }) with mb := { ((State.reset.put (HM_STAT.HEARTH_UP) 1).setSlot 0 { state := 1, cmd := [(16, 2), (17, 6), (18, 1), (20, 253), (21, 255), (22, 1), (26, 2), (44, 215), (45, 199), (46, 182), (47, 52)] }).mb with posted := [0] } } : State).boot with recovery := false } } : State)), (by decide +kernel)⟩,
   ⟨0, ([]), 2, (({ ({ ((State.reset.put (HM_STAT.HEARTH_UP) 1).setSlot 0 { state := 1, cmd := [(16, 2), (17, 6), (18, 1), (20, 253), (21, 255), (22, 1), (26, 2)] }) with mb := { ((State.reset.put (HM_STAT.HEARTH_UP) 1).setSlot 0 { state := 1, cmd := [(16, 2), (17, 6), (18, 1), (20, 253), (21, 255), (22, 1), (26, 2)] }).mb with posted := [0] } } : State) with boot := { ({ ((State.reset.put (HM_STAT.HEARTH_UP) 1).setSlot 0 { state := 1, cmd := [(16, 2), (17, 6), (18, 1), (20, 253), (21, 255), (22, 1), (26, 2)] }) with mb := { ((State.reset.put (HM_STAT.HEARTH_UP) 1).setSlot 0 { state := 1, cmd := [(16, 2), (17, 6), (18, 1), (20, 253), (21, 255), (22, 1), (26, 2)] }).mb with posted := [0] } } : State).boot with recovery := false } } : State)), (by decide +kernel)⟩,
   ⟨0, 0, ([]), (({ (State.reset.setSlot 0 { state := 2, out := some (0, []) }) with mb := { (State.reset.setSlot 0 { state := 2, out := some (0, []) }).mb with taken := [0] } } : State)), (by decide +kernel)⟩,
   ⟨0, 0, ([]), (({ (State.reset.setSlot 0 { state := 2, drop := true, out := some (0, []) }) with mb := { (State.reset.setSlot 0 { state := 2, drop := true, out := some (0, []) }).mb with taken := [0] } } : State)), (by decide +kernel)⟩,
   ⟨0, ((State.reset.setSlot 0 { state := 3 })), (by decide +kernel)⟩,
   ⟨0, (State.reset), (by decide +kernel)⟩,
   ⟨(({ (State.reset.setSlot 0 { state := 2 }) with mb := { (State.reset.setSlot 0 { state := 2 }).mb with taken := [0] } } : State)), (by decide +kernel)⟩,
   ⟨(({ State.reset with boot := { State.reset.boot with upd := { comp := 1, phase := 4 } } } : State)), (by decide +kernel)⟩,
   ⟨(({ ({ State.reset with mb := { State.reset.mb with restarting := true } } : State) with boot := { ({ State.reset with mb := { State.reset.mb with restarting := true } } : State).boot with recovery := false, stopped := false } } : State)), (by decide +kernel)⟩,
   ⟨([1, 2, 3, 4, 5]), ([]), (({ State.reset with evts := [[1, 2, 3, 4, 5]] } : State)), (by decide +kernel)⟩⟩

theorem witness_SlotRefusalRule :
    ∃ (k : Fin 16) (o : Nat) (bs : List Byte) (s : State), (s.slot k).state ≠ 0 ∧ (∃ j < bs.length, 0x10 ≤ o + j ∧ o + j < 0x800) :=
  ⟨0, 16, ([1]), ((State.reset.setSlot 0 { state := 1 })), (by decide +kernel)⟩

def stMotionCommandsComplete1 : State := ({ ({ ((State.reset.put (HM_STAT.HEARTH_UP) 1).setSlot 0 { state := 2, cmd := [(16, 1), (17, 3), (18, 1), (20, 253), (21, 255), (22, 1), (24, 108), (26, 2), (48, 1)] }) with mb := { ((State.reset.put (HM_STAT.HEARTH_UP) 1).setSlot 0 { state := 2, cmd := [(16, 1), (17, 3), (18, 1), (20, 253), (21, 255), (22, 1), (24, 108), (26, 2), (48, 1)] }).mb with taken := [0] } } : State) with boot := { ({ ((State.reset.put (HM_STAT.HEARTH_UP) 1).setSlot 0 { state := 2, cmd := [(16, 1), (17, 3), (18, 1), (20, 253), (21, 255), (22, 1), (24, 108), (26, 2), (48, 1)] }) with mb := { ((State.reset.put (HM_STAT.HEARTH_UP) 1).setSlot 0 { state := 2, cmd := [(16, 1), (17, 3), (18, 1), (20, 253), (21, 255), (22, 1), (24, 108), (26, 2), (48, 1)] }).mb with taken := [0] } } : State).boot with recovery := false } } : State)
def stMotionCommandsComplete3 : State := ({ ({ ((State.reset.put (HM_STAT.HEARTH_UP) 1).setSlot 0 { state := 2, cmd := [(16, 2), (17, 3), (18, 1), (20, 253), (21, 255), (22, 1), (24, 4), (26, 2), (48, 1)] }) with mb := { ((State.reset.put (HM_STAT.HEARTH_UP) 1).setSlot 0 { state := 2, cmd := [(16, 2), (17, 3), (18, 1), (20, 253), (21, 255), (22, 1), (24, 4), (26, 2), (48, 1)] }).mb with taken := [0] } } : State) with boot := { ({ ((State.reset.put (HM_STAT.HEARTH_UP) 1).setSlot 0 { state := 2, cmd := [(16, 2), (17, 3), (18, 1), (20, 253), (21, 255), (22, 1), (24, 4), (26, 2), (48, 1)] }) with mb := { ((State.reset.put (HM_STAT.HEARTH_UP) 1).setSlot 0 { state := 2, cmd := [(16, 2), (17, 3), (18, 1), (20, 253), (21, 255), (22, 1), (24, 4), (26, 2), (48, 1)] }).mb with taken := [0] } } : State).boot with recovery := false } } : State)
def stMotionCommandsComplete5 : State := ({ ({ ((State.reset.put (HM_STAT.HEARTH_UP) 1).setSlot 0 { state := 2, cmd := [(16, 3), (17, 3), (18, 1), (20, 253), (21, 255), (22, 1), (24, 4), (26, 2), (48, 1)] }) with mb := { ((State.reset.put (HM_STAT.HEARTH_UP) 1).setSlot 0 { state := 2, cmd := [(16, 3), (17, 3), (18, 1), (20, 253), (21, 255), (22, 1), (24, 4), (26, 2), (48, 1)] }).mb with taken := [0] } } : State) with boot := { ({ ((State.reset.put (HM_STAT.HEARTH_UP) 1).setSlot 0 { state := 2, cmd := [(16, 3), (17, 3), (18, 1), (20, 253), (21, 255), (22, 1), (24, 4), (26, 2), (48, 1)] }) with mb := { ((State.reset.put (HM_STAT.HEARTH_UP) 1).setSlot 0 { state := 2, cmd := [(16, 3), (17, 3), (18, 1), (20, 253), (21, 255), (22, 1), (24, 4), (26, 2), (48, 1)] }).mb with taken := [0] } } : State).boot with recovery := false } } : State)
def stMotionCommandsComplete7 : State := ({ ({ ((State.reset.put (HM_STAT.HEARTH_UP) 1).setSlot 0 { state := 2, cmd := [(16, 4), (17, 3), (18, 1), (20, 253), (21, 255), (22, 1), (26, 2)] }) with mb := { ((State.reset.put (HM_STAT.HEARTH_UP) 1).setSlot 0 { state := 2, cmd := [(16, 4), (17, 3), (18, 1), (20, 253), (21, 255), (22, 1), (26, 2)] }).mb with taken := [0] } } : State) with boot := { ({ ((State.reset.put (HM_STAT.HEARTH_UP) 1).setSlot 0 { state := 2, cmd := [(16, 4), (17, 3), (18, 1), (20, 253), (21, 255), (22, 1), (26, 2)] }) with mb := { ((State.reset.put (HM_STAT.HEARTH_UP) 1).setSlot 0 { state := 2, cmd := [(16, 4), (17, 3), (18, 1), (20, 253), (21, 255), (22, 1), (26, 2)] }).mb with taken := [0] } } : State).boot with recovery := false } } : State)
def stMotionCommandsComplete8 : State := ({ ({ ((State.reset.put (HM_STAT.HEARTH_UP) 1).setSlot 0 { state := 2, cmd := [(16, 5), (17, 3), (18, 1), (20, 253), (21, 255), (22, 1), (24, 4), (26, 2)] }) with mb := { ((State.reset.put (HM_STAT.HEARTH_UP) 1).setSlot 0 { state := 2, cmd := [(16, 5), (17, 3), (18, 1), (20, 253), (21, 255), (22, 1), (24, 4), (26, 2)] }).mb with taken := [0] } } : State) with boot := { ({ ((State.reset.put (HM_STAT.HEARTH_UP) 1).setSlot 0 { state := 2, cmd := [(16, 5), (17, 3), (18, 1), (20, 253), (21, 255), (22, 1), (24, 4), (26, 2)] }) with mb := { ((State.reset.put (HM_STAT.HEARTH_UP) 1).setSlot 0 { state := 2, cmd := [(16, 5), (17, 3), (18, 1), (20, 253), (21, 255), (22, 1), (24, 4), (26, 2)] }).mb with taken := [0] } } : State).boot with recovery := false } } : State)
def stMotionCommandsComplete9 : State := ({ ({ ((State.reset.put (HM_STAT.HEARTH_UP) 1).setSlot 0 { state := 2, cmd := [(16, 16), (17, 3), (18, 1), (20, 26), (21, 224), (22, 1), (24, 20), (26, 2), (62, 1)] }) with mb := { ((State.reset.put (HM_STAT.HEARTH_UP) 1).setSlot 0 { state := 2, cmd := [(16, 16), (17, 3), (18, 1), (20, 26), (21, 224), (22, 1), (24, 20), (26, 2), (62, 1)] }).mb with taken := [0] } } : State) with boot := { ({ ((State.reset.put (HM_STAT.HEARTH_UP) 1).setSlot 0 { state := 2, cmd := [(16, 16), (17, 3), (18, 1), (20, 26), (21, 224), (22, 1), (24, 20), (26, 2), (62, 1)] }) with mb := { ((State.reset.put (HM_STAT.HEARTH_UP) 1).setSlot 0 { state := 2, cmd := [(16, 16), (17, 3), (18, 1), (20, 26), (21, 224), (22, 1), (24, 20), (26, 2), (62, 1)] }).mb with taken := [0] } } : State).boot with recovery := false } } : State)
def stMotionCommandsComplete13 : State := ({ ({ ((State.reset.put (HM_STAT.HEARTH_UP) 1).setSlot 0 { state := 2, cmd := [(16, 17), (17, 3), (18, 1), (20, 26), (21, 224), (22, 1), (24, 2), (26, 2), (49, 1)] }) with mb := { ((State.reset.put (HM_STAT.HEARTH_UP) 1).setSlot 0 { state := 2, cmd := [(16, 17), (17, 3), (18, 1), (20, 26), (21, 224), (22, 1), (24, 2), (26, 2), (49, 1)] }).mb with taken := [0] } } : State) with boot := { ({ ((State.reset.put (HM_STAT.HEARTH_UP) 1).setSlot 0 { state := 2, cmd := [(16, 17), (17, 3), (18, 1), (20, 26), (21, 224), (22, 1), (24, 2), (26, 2), (49, 1)] }) with mb := { ((State.reset.put (HM_STAT.HEARTH_UP) 1).setSlot 0 { state := 2, cmd := [(16, 17), (17, 3), (18, 1), (20, 26), (21, 224), (22, 1), (24, 2), (26, 2), (49, 1)] }).mb with taken := [0] } } : State).boot with recovery := false } } : State)
def stMotionCommandsComplete17 : State := ({ ({ ((State.reset.put (HM_STAT.HEARTH_UP) 1).setSlot 0 { state := 2, cmd := [(16, 32), (17, 3), (18, 1), (20, 26), (21, 224), (22, 1), (24, 8), (26, 2)] }) with mb := { ((State.reset.put (HM_STAT.HEARTH_UP) 1).setSlot 0 { state := 2, cmd := [(16, 32), (17, 3), (18, 1), (20, 26), (21, 224), (22, 1), (24, 8), (26, 2)] }).mb with taken := [0] } } : State) with boot := { ({ ((State.reset.put (HM_STAT.HEARTH_UP) 1).setSlot 0 { state := 2, cmd := [(16, 32), (17, 3), (18, 1), (20, 26), (21, 224), (22, 1), (24, 8), (26, 2)] }) with mb := { ((State.reset.put (HM_STAT.HEARTH_UP) 1).setSlot 0 { state := 2, cmd := [(16, 32), (17, 3), (18, 1), (20, 26), (21, 224), (22, 1), (24, 8), (26, 2)] }).mb with taken := [0] } } : State).boot with recovery := false } } : State)
def stMotionCommandsComplete19 : State := ({ ({ ((State.reset.put (HM_STAT.HEARTH_UP) 1).setSlot 0 { state := 2, cmd := [(16, 1), (17, 4), (18, 1), (20, 253), (21, 255), (22, 1), (24, 4), (26, 2)] }) with mb := { ((State.reset.put (HM_STAT.HEARTH_UP) 1).setSlot 0 { state := 2, cmd := [(16, 1), (17, 4), (18, 1), (20, 253), (21, 255), (22, 1), (24, 4), (26, 2)] }).mb with taken := [0] } } : State) with boot := { ({ ((State.reset.put (HM_STAT.HEARTH_UP) 1).setSlot 0 { state := 2, cmd := [(16, 1), (17, 4), (18, 1), (20, 253), (21, 255), (22, 1), (24, 4), (26, 2)] }) with mb := { ((State.reset.put (HM_STAT.HEARTH_UP) 1).setSlot 0 { state := 2, cmd := [(16, 1), (17, 4), (18, 1), (20, 253), (21, 255), (22, 1), (24, 4), (26, 2)] }).mb with taken := [0] } } : State).boot with recovery := false } } : State)
def stMotionCommandsComplete20 : State := ({ ({ ((State.reset.put (HM_STAT.HEARTH_UP) 1).setSlot 0 { state := 2, cmd := [(16, 2), (17, 4), (18, 1), (20, 253), (21, 255), (22, 1), (24, 4), (26, 2)] }) with mb := { ((State.reset.put (HM_STAT.HEARTH_UP) 1).setSlot 0 { state := 2, cmd := [(16, 2), (17, 4), (18, 1), (20, 253), (21, 255), (22, 1), (24, 4), (26, 2)] }).mb with taken := [0] } } : State) with boot := { ({ ((State.reset.put (HM_STAT.HEARTH_UP) 1).setSlot 0 { state := 2, cmd := [(16, 2), (17, 4), (18, 1), (20, 253), (21, 255), (22, 1), (24, 4), (26, 2)] }) with mb := { ((State.reset.put (HM_STAT.HEARTH_UP) 1).setSlot 0 { state := 2, cmd := [(16, 2), (17, 4), (18, 1), (20, 253), (21, 255), (22, 1), (24, 4), (26, 2)] }).mb with taken := [0] } } : State).boot with recovery := false } } : State)
def stMotionCommandsComplete21 : State := ({ ({ ((State.reset.put (HM_STAT.HEARTH_UP) 1).setSlot 0 { state := 2, cmd := [(16, 3), (17, 4), (18, 1), (20, 253), (21, 255), (22, 1), (26, 2)] }) with mb := { ((State.reset.put (HM_STAT.HEARTH_UP) 1).setSlot 0 { state := 2, cmd := [(16, 3), (17, 4), (18, 1), (20, 253), (21, 255), (22, 1), (26, 2)] }).mb with taken := [0] } } : State) with boot := { ({ ((State.reset.put (HM_STAT.HEARTH_UP) 1).setSlot 0 { state := 2, cmd := [(16, 3), (17, 4), (18, 1), (20, 253), (21, 255), (22, 1), (26, 2)] }) with mb := { ((State.reset.put (HM_STAT.HEARTH_UP) 1).setSlot 0 { state := 2, cmd := [(16, 3), (17, 4), (18, 1), (20, 253), (21, 255), (22, 1), (26, 2)] }).mb with taken := [0] } } : State).boot with recovery := false } } : State)
def stMotionCommandsComplete23 : State := ({ ({ ({ ((State.reset.put (HM_STAT.HEARTH_UP) 1).setSlot 0 { state := 2, cmd := [(16, 4), (17, 4), (18, 1), (20, 253), (21, 255), (22, 1), (24, 9), (26, 2), (48, 1), (52, 2), (56, 7)] }) with mb := { ((State.reset.put (HM_STAT.HEARTH_UP) 1).setSlot 0 { state := 2, cmd := [(16, 4), (17, 4), (18, 1), (20, 253), (21, 255), (22, 1), (24, 9), (26, 2), (48, 1), (52, 2), (56, 7)] }).mb with taken := [0] } } : State) with boot := { ({ ((State.reset.put (HM_STAT.HEARTH_UP) 1).setSlot 0 { state := 2, cmd := [(16, 4), (17, 4), (18, 1), (20, 253), (21, 255), (22, 1), (24, 9), (26, 2), (48, 1), (52, 2), (56, 7)] }) with mb := { ((State.reset.put (HM_STAT.HEARTH_UP) 1).setSlot 0 { state := 2, cmd := [(16, 4), (17, 4), (18, 1), (20, 253), (21, 255), (22, 1), (24, 9), (26, 2), (48, 1), (52, 2), (56, 7)] }).mb with taken := [0] } } : State).boot with recovery := false } } : State) with mb := { ({ ({ ((State.reset.put (HM_STAT.HEARTH_UP) 1).setSlot 0 { state := 2, cmd := [(16, 4), (17, 4), (18, 1), (20, 253), (21, 255), (22, 1), (24, 9), (26, 2), (48, 1), (52, 2), (56, 7)] }) with mb := { ((State.reset.put (HM_STAT.HEARTH_UP) 1).setSlot 0 { state := 2, cmd := [(16, 4), (17, 4), (18, 1), (20, 253), (21, 255), (22, 1), (24, 9), (26, 2), (48, 1), (52, 2), (56, 7)] }).mb with taken := [0] } } : State) with boot := { ({ ((State.reset.put (HM_STAT.HEARTH_UP) 1).setSlot 0 { state := 2, cmd := [(16, 4), (17, 4), (18, 1), (20, 253), (21, 255), (22, 1), (24, 9), (26, 2), (48, 1), (52, 2), (56, 7)] }) with mb := { ((State.reset.put (HM_STAT.HEARTH_UP) 1).setSlot 0 { state := 2, cmd := [(16, 4), (17, 4), (18, 1), (20, 253), (21, 255), (22, 1), (24, 9), (26, 2), (48, 1), (52, 2), (56, 7)] }).mb with taken := [0] } } : State).boot with recovery := false } } : State).mb with staging := some (2, 1) } } : State)
theorem witness_MotionCommandsComplete :
    (∃ (k : Fin 16) (acc : Nat) (c : Nat) (u : State) (s : State), (s.runsNow k (fun o => o == 0x0301) = true) ∧ (1 ≤ (s.slot k).arg 0 4 ∧ (s.slot k).arg 0 4 ≤ 16) ∧ (s.offerMoves (s.slot k).armNo (s.slot k).addr.toNat ((List.range ((s.slot k).arg 0 4)).map (fun i => (s.slot k).payload (4 + 104 * i) 104)) 0 = (u, acc, c)))
    ∧ (∃ (k : Fin 16) (s : State), (s.runsNow k (fun o => o == 0x0301) = true) ∧ ((s.slot k).arg 0 4 = 0 ∨ 16 < (s.slot k).arg 0 4))
    ∧ (∃ (k : Fin 16) (u : State) (c : Nat) (s : State), (s.runsNow k (fun o => o == 0x0302) = true) ∧ (1 ≤ (s.slot k).arg 0 4 ∧ (s.slot k).arg 0 4 ≤ 4) ∧ s.cmdWriteAs (ARM_CTRL (s.slot k).armNo) (BitVec.ofNat 32 (2 ^ ((s.slot k).arg 0 4)) ||| (s.rd (ARM_CTRL (s.slot k).armNo) &&& 0x1E1)) 0x0007 = (u, c))
    ∧ (∃ (k : Fin 16) (s : State), (s.runsNow k (fun o => o == 0x0302) = true) ∧ ((s.slot k).arg 0 4 = 0 ∨ 4 < (s.slot k).arg 0 4))
    ∧ (∃ (k : Fin 16) (u : State) (c : Nat) (s : State), (s.runsNow k (fun o => o == 0x0303) = true) ∧ (s.slot k).arg 0 4 < 32 ∧ s.cmdWriteAs (ARM_CTRL (s.slot k).armNo) (BitVec.ofNat 32 ((s.slot k).arg 0 4 % 2 + (s.slot k).arg 0 4 / 2 % 8 * 32 + (s.slot k).arg 0 4 / 16 * 256)) 0x0007 = (u, c))
    ∧ (∃ (k : Fin 16) (s : State), (s.runsNow k (fun o => o == 0x0303) = true) ∧ 32 ≤ (s.slot k).arg 0 4)
    ∧ (∃ (k : Fin 16) (u : State) (c : Nat) (bs : List Byte) (s : State), (s.runsNow k (fun o => o == 0x0304) = true) ∧ s.armStatus (s.slot k).armNo = (u, c, bs))
    ∧ (∃ (k : Fin 16) (u : State) (c : Nat) (s : State), (s.runsNow k (fun o => o == 0x0305) = true) ∧ s.cmdWrite (ARM_OVR (s.slot k).armNo) ((s.slot k).word 0) = (u, c))
    ∧ (∃ (k : Fin 16) (i : Fin 16) (u : State) (v : State) (w : State) (bs : List Byte) (s : State), (s.runsNow k (fun o => o == 0x0310) = true) ∧ s.stepAxisOf (s.slot k) = some i ∧ (s.slot k).arg 1 3 = 0 ∧ (s.slot k).arg 4 8 = unsignedOf 64 (signed 48 ((s.slot k).arg 4 6)) ∧ s.cmdWrites [(STP_MV_TGT_LO i, lo48 (signed 48 ((s.slot k).arg 4 6))), (STP_MV_TGT_HI i, hi48 (signed 48 ((s.slot k).arg 4 6))), (STP_MV_V i, (s.slot k).word 12)] = (u, 0) ∧ u.cmdWriteAs (STP_MV_CMD i) ((s.slot k).word 16 ||| 1) 0x000A = (v, 0) ∧ v.cmdReads [STP_STAT i] = (w, bs))
    ∧ (∃ (k : Fin 16) (s : State), (s.runsNow k (fun o => o == 0x0310) = true) ∧ s.stepAxisOf (s.slot k) = none ∧ (s.slot k).arg 0 1 < 16)
    ∧ (∃ (k : Fin 16) (s : State), (s.runsNow k (fun o => o == 0x0310) = true) ∧ 16 ≤ (s.slot k).arg 0 1)
    ∧ (∃ (k : Fin 16) (i : Fin 16) (s : State), (s.runsNow k (fun o => o == 0x0310) = true) ∧ s.stepAxisOf (s.slot k) = some i ∧ ((s.slot k).arg 1 3 ≠ 0 ∨ (s.slot k).arg 4 8 ≠ unsignedOf 64 (signed 48 ((s.slot k).arg 4 6))))
    ∧ (∃ (k : Fin 16) (i : Fin 16) (u : State) (c : Nat) (s : State), (s.runsNow k (fun o => o == 0x0311) = true) ∧ s.stepAxisOf (s.slot k) = some i ∧ (s.slot k).arg 1 1 < 8 ∧ s.cmdWriteAs (STP_CTRL i) (BitVec.ofNat 32 ((s.slot k).arg 1 1 * 4) ||| (s.rd (STP_CTRL i) &&& 3)) 0x0007 = (u, c))
    ∧ (∃ (k : Fin 16) (s : State), (s.runsNow k (fun o => o == 0x0311) = true) ∧ s.stepAxisOf (s.slot k) = none ∧ (s.slot k).arg 0 1 < 16)
    ∧ (∃ (k : Fin 16) (s : State), (s.runsNow k (fun o => o == 0x0311) = true) ∧ 16 ≤ (s.slot k).arg 0 1)
    ∧ (∃ (k : Fin 16) (i : Fin 16) (s : State), (s.runsNow k (fun o => o == 0x0311) = true) ∧ s.stepAxisOf (s.slot k) = some i ∧ 8 ≤ (s.slot k).arg 1 1)
    ∧ (∃ (k : Fin 16) (d : Fin 256) (u : State) (refused : Bool) (s : State), (s.runsNow k (fun o => o == 0x0320) = true) ∧ d = curLoop (s.slot k).portNo ∧ ((s.slot k).arg 0 4 < 2 ^ 24 ∧ (s.slot k).arg 4 4 < 2 ^ 24) ∧ (s.watch [LD_STAT.CFG_REFUSED d] (fun v => ((v.busWrite .host (LD_REF_D d) ((s.slot k).word 0)).busWrite .host (LD_REF_Q d) ((s.slot k).word 4)).busWrite .host (LD_REF_COMMIT d) (BitVec.ofNat 32 ((s.rd PERIOD_CNT).toNat % 2 ^ 16))) = (u, refused)))
    ∧ (∃ (k : Fin 16) (s : State), (s.runsNow k (fun o => o == 0x0320) = true) ∧ (2 ^ 24 ≤ (s.slot k).arg 0 4 ∨ 2 ^ 24 ≤ (s.slot k).arg 4 4))
    ∧ (∃ (k : Fin 16) (u : State) (c : Nat) (s : State), (s.runsNow k (fun o => o == 0x0401) = true) ∧ s.cmdWrite SI_REQ ((s.slot k).word 0) = (u, c))
    ∧ (∃ (k : Fin 16) (u : State) (c : Nat) (s : State), (s.runsNow k (fun o => o == 0x0402) = true) ∧ s.cmdWrite SI_TOKEN ((s.slot k).word 0) = (u, c))
    ∧ (∃ (k : Fin 16) (u : State) (bs : List Byte) (s : State), (s.runsNow k (fun o => o == 0x0403) = true) ∧ (s.cmdReads ([SI_STAT, SI_LOCK, SI_INPUTS, SI_OUTPUTS] ++ (finList 8).map (fun a => SI_ARM_STAT a)) = (u, bs)))
    ∧ (∃ (k : Fin 16) (o : Nat) (total : Nat) (n : Nat) (s : State), (s.runsNow k (fun o => o == 0x0404) = true) ∧ o = (s.slot k).arg 0 4 ∧ total = (s.slot k).arg 4 4 ∧ n = (s.slot k).plen - 8 ∧ s.mb.staging = some (total, o) ∧ 0 < o ∧ total ≤ 524288 ∧ o + n < total)
    ∧ (∃ (k : Fin 16) (o : Nat) (total : Nat) (n : Nat) (c : Nat) (u : State) (s : State), (s.runsNow k (fun o => o == 0x0404) = true) ∧ o = (s.slot k).arg 0 4 ∧ total = (s.slot k).arg 4 4 ∧ n = (s.slot k).plen - 8 ∧ s.mb.staging = some (total, o) ∧ 0 < o ∧ total ≤ 524288 ∧ o + n = total ∧ (((s.mwrite (slotAddr s.stageSlot + (s.slot k).arg 0 4) ((s.slot k).payload 8 ((s.slot k).plen - 8))).updMail (fun m => { m with staging := none })).verifySet s.stageSlot ((s.slot k).arg 4 4) = (u, c)))
    ∧ (∃ (k : Fin 16) (s : State), (s.runsNow k (fun o => o == 0x0404) = true) ∧ (((s.slot k).arg 0 4 ≠ 0 ∧ s.mb.staging ≠ some ((s.slot k).arg 4 4, (s.slot k).arg 0 4)) ∨ 524288 < (s.slot k).arg 4 4 ∨ (s.slot k).arg 4 4 < (s.slot k).arg 0 4 + ((s.slot k).plen - 8)))
    ∧ (∃ (k : Fin 16) (bs : List Byte) (s : State), (s.runsNow k (fun o => o == 0x0405) = true) ∧ bs = (match s.si.staged with | some j => s.mread (slotAddr j + 16) 8 | none => leBytes 8 0)) :=
  ⟨⟨0, 0, 5, _, stMotionCommandsComplete1, (by decide +kernel), (by decide +kernel), pair_eq (by decide +kernel)⟩,
   ⟨0, (({ ({ ((State.reset.put (HM_STAT.HEARTH_UP) 1).setSlot 0 { state := 2, cmd := [(16, 1), (17, 3), (18, 1), (20, 253), (21, 255), (22, 1), (24, 4), (26, 2)] }) with mb := { ((State.reset.put (HM_STAT.HEARTH_UP) 1).setSlot 0 { state := 2, cmd := [(16, 1), (17, 3), (18, 1), (20, 253), (21, 255), (22, 1), (24, 4), (26, 2)] }).mb with taken := [0] } } : State) with boot := { ({ ((State.reset.put (HM_STAT.HEARTH_UP) 1).setSlot 0 { state := 2, cmd := [(16, 1), (17, 3), (18, 1), (20, 253), (21, 255), (22, 1), (24, 4), (26, 2)] }) with mb := { ((State.reset.put (HM_STAT.HEARTH_UP) 1).setSlot 0 { state := 2, cmd := [(16, 1), (17, 3), (18, 1), (20, 253), (21, 255), (22, 1), (24, 4), (26, 2)] }).mb with taken := [0] } } : State).boot with recovery := false } } : State)), (by decide +kernel)⟩,
   ⟨0, _, _, stMotionCommandsComplete3, (by decide +kernel), (by decide +kernel), pair_rfl⟩,
   ⟨0, (({ ({ ((State.reset.put (HM_STAT.HEARTH_UP) 1).setSlot 0 { state := 2, cmd := [(16, 2), (17, 3), (18, 1), (20, 253), (21, 255), (22, 1), (24, 4), (26, 2)] }) with mb := { ((State.reset.put (HM_STAT.HEARTH_UP) 1).setSlot 0 { state := 2, cmd := [(16, 2), (17, 3), (18, 1), (20, 253), (21, 255), (22, 1), (24, 4), (26, 2)] }).mb with taken := [0] } } : State) with boot := { ({ ((State.reset.put (HM_STAT.HEARTH_UP) 1).setSlot 0 { state := 2, cmd := [(16, 2), (17, 3), (18, 1), (20, 253), (21, 255), (22, 1), (24, 4), (26, 2)] }) with mb := { ((State.reset.put (HM_STAT.HEARTH_UP) 1).setSlot 0 { state := 2, cmd := [(16, 2), (17, 3), (18, 1), (20, 253), (21, 255), (22, 1), (24, 4), (26, 2)] }).mb with taken := [0] } } : State).boot with recovery := false } } : State)), (by decide +kernel)⟩,
   ⟨0, _, _, stMotionCommandsComplete5, (by decide +kernel), (by decide +kernel), pair_rfl⟩,
   ⟨0, (({ ({ ((State.reset.put (HM_STAT.HEARTH_UP) 1).setSlot 0 { state := 2, cmd := [(16, 3), (17, 3), (18, 1), (20, 253), (21, 255), (22, 1), (24, 4), (26, 2), (48, 32)] }) with mb := { ((State.reset.put (HM_STAT.HEARTH_UP) 1).setSlot 0 { state := 2, cmd := [(16, 3), (17, 3), (18, 1), (20, 253), (21, 255), (22, 1), (24, 4), (26, 2), (48, 32)] }).mb with taken := [0] } } : State) with boot := { ({ ((State.reset.put (HM_STAT.HEARTH_UP) 1).setSlot 0 { state := 2, cmd := [(16, 3), (17, 3), (18, 1), (20, 253), (21, 255), (22, 1), (24, 4), (26, 2), (48, 32)] }) with mb := { ((State.reset.put (HM_STAT.HEARTH_UP) 1).setSlot 0 { state := 2, cmd := [(16, 3), (17, 3), (18, 1), (20, 253), (21, 255), (22, 1), (24, 4), (26, 2), (48, 32)] }).mb with taken := [0] } } : State).boot with recovery := false } } : State)), (by decide +kernel)⟩,
   ⟨0, _, _, _, stMotionCommandsComplete7, (by decide +kernel), triple_rfl⟩,
   ⟨0, _, _, stMotionCommandsComplete8, (by decide +kernel), pair_rfl⟩,
   ⟨0, 0, _, _, _, _, stMotionCommandsComplete9, (by decide +kernel), (by decide +kernel), (by decide +kernel), (by decide +kernel), pair_eq (by decide +kernel), pair_eq (by decide +kernel), pair_rfl⟩,
   ⟨0, (({ ({ ((State.reset.put (HM_STAT.HEARTH_UP) 1).setSlot 0 { state := 2, cmd := [(16, 16), (17, 3), (18, 1), (20, 253), (21, 255), (22, 1), (24, 20), (26, 2)] }) with mb := { ((State.reset.put (HM_STAT.HEARTH_UP) 1).setSlot 0 { state := 2, cmd := [(16, 16), (17, 3), (18, 1), (20, 253), (21, 255), (22, 1), (24, 20), (26, 2)] }).mb with taken := [0] } } : State) with boot := { ({ ((State.reset.put (HM_STAT.HEARTH_UP) 1).setSlot 0 { state := 2, cmd := [(16, 16), (17, 3), (18, 1), (20, 253), (21, 255), (22, 1), (24, 20), (26, 2)] }) with mb := { ((State.reset.put (HM_STAT.HEARTH_UP) 1).setSlot 0 { state := 2, cmd := [(16, 16), (17, 3), (18, 1), (20, 253), (21, 255), (22, 1), (24, 20), (26, 2)] }).mb with taken := [0] } } : State).boot with recovery := false } } : State)), (by decide +kernel)⟩,
   ⟨0, (({ ({ ((State.reset.put (HM_STAT.HEARTH_UP) 1).setSlot 0 { state := 2, cmd := [(16, 16), (17, 3), (18, 1), (20, 253), (21, 255), (22, 1), (24, 20), (26, 2), (48, 16)] }) with mb := { ((State.reset.put (HM_STAT.HEARTH_UP) 1).setSlot 0 { state := 2, cmd := [(16, 16), (17, 3), (18, 1), (20, 253), (21, 255), (22, 1), (24, 20), (26, 2), (48, 16)] }).mb with taken := [0] } } : State) with boot := { ({ ((State.reset.put (HM_STAT.HEARTH_UP) 1).setSlot 0 { state := 2, cmd := [(16, 16), (17, 3), (18, 1), (20, 253), (21, 255), (22, 1), (24, 20), (26, 2), (48, 16)] }) with mb := { ((State.reset.put (HM_STAT.HEARTH_UP) 1).setSlot 0 { state := 2, cmd := [(16, 16), (17, 3), (18, 1), (20, 253), (21, 255), (22, 1), (24, 20), (26, 2), (48, 16)] }).mb with taken := [0] } } : State).boot with recovery := false } } : State)), (by decide +kernel)⟩,
   ⟨0, 0, (({ ({ ((State.reset.put (HM_STAT.HEARTH_UP) 1).setSlot 0 { state := 2, cmd := [(16, 16), (17, 3), (18, 1), (20, 26), (21, 224), (22, 1), (24, 20), (26, 2), (49, 1)] }) with mb := { ((State.reset.put (HM_STAT.HEARTH_UP) 1).setSlot 0 { state := 2, cmd := [(16, 16), (17, 3), (18, 1), (20, 26), (21, 224), (22, 1), (24, 20), (26, 2), (49, 1)] }).mb with taken := [0] } } : State) with boot := { ({ ((State.reset.put (HM_STAT.HEARTH_UP) 1).setSlot 0 { state := 2, cmd := [(16, 16), (17, 3), (18, 1), (20, 26), (21, 224), (22, 1), (24, 20), (26, 2), (49, 1)] }) with mb := { ((State.reset.put (HM_STAT.HEARTH_UP) 1).setSlot 0 { state := 2, cmd := [(16, 16), (17, 3), (18, 1), (20, 26), (21, 224), (22, 1), (24, 20), (26, 2), (49, 1)] }).mb with taken := [0] } } : State).boot with recovery := false } } : State)), (by decide +kernel)⟩,
   ⟨0, 0, _, _, stMotionCommandsComplete13, (by decide +kernel), (by decide +kernel), (by decide +kernel), pair_rfl⟩,
   ⟨0, (({ ({ ((State.reset.put (HM_STAT.HEARTH_UP) 1).setSlot 0 { state := 2, cmd := [(16, 17), (17, 3), (18, 1), (20, 253), (21, 255), (22, 1), (24, 2), (26, 2), (49, 1)] }) with mb := { ((State.reset.put (HM_STAT.HEARTH_UP) 1).setSlot 0 { state := 2, cmd := [(16, 17), (17, 3), (18, 1), (20, 253), (21, 255), (22, 1), (24, 2), (26, 2), (49, 1)] }).mb with taken := [0] } } : State) with boot := { ({ ((State.reset.put (HM_STAT.HEARTH_UP) 1).setSlot 0 { state := 2, cmd := [(16, 17), (17, 3), (18, 1), (20, 253), (21, 255), (22, 1), (24, 2), (26, 2), (49, 1)] }) with mb := { ((State.reset.put (HM_STAT.HEARTH_UP) 1).setSlot 0 { state := 2, cmd := [(16, 17), (17, 3), (18, 1), (20, 253), (21, 255), (22, 1), (24, 2), (26, 2), (49, 1)] }).mb with taken := [0] } } : State).boot with recovery := false } } : State)), (by decide +kernel)⟩,
   ⟨0, (({ ({ ((State.reset.put (HM_STAT.HEARTH_UP) 1).setSlot 0 { state := 2, cmd := [(16, 17), (17, 3), (18, 1), (20, 253), (21, 255), (22, 1), (24, 2), (26, 2), (48, 16), (49, 1)] }) with mb := { ((State.reset.put (HM_STAT.HEARTH_UP) 1).setSlot 0 { state := 2, cmd := [(16, 17), (17, 3), (18, 1), (20, 253), (21, 255), (22, 1), (24, 2), (26, 2), (48, 16), (49, 1)] }).mb with taken := [0] } } : State) with boot := { ({ ((State.reset.put (HM_STAT.HEARTH_UP) 1).setSlot 0 { state := 2, cmd := [(16, 17), (17, 3), (18, 1), (20, 253), (21, 255), (22, 1), (24, 2), (26, 2), (48, 16), (49, 1)] }) with mb := { ((State.reset.put (HM_STAT.HEARTH_UP) 1).setSlot 0 { state := 2, cmd := [(16, 17), (17, 3), (18, 1), (20, 253), (21, 255), (22, 1), (24, 2), (26, 2), (48, 16), (49, 1)] }).mb with taken := [0] } } : State).boot with recovery := false } } : State)), (by decide +kernel)⟩,
   ⟨0, 0, (({ ({ ((State.reset.put (HM_STAT.HEARTH_UP) 1).setSlot 0 { state := 2, cmd := [(16, 17), (17, 3), (18, 1), (20, 26), (21, 224), (22, 1), (24, 2), (26, 2), (49, 8)] }) with mb := { ((State.reset.put (HM_STAT.HEARTH_UP) 1).setSlot 0 { state := 2, cmd := [(16, 17), (17, 3), (18, 1), (20, 26), (21, 224), (22, 1), (24, 2), (26, 2), (49, 8)] }).mb with taken := [0] } } : State) with boot := { ({ ((State.reset.put (HM_STAT.HEARTH_UP) 1).setSlot 0 { state := 2, cmd := [(16, 17), (17, 3), (18, 1), (20, 26), (21, 224), (22, 1), (24, 2), (26, 2), (49, 8)] }) with mb := { ((State.reset.put (HM_STAT.HEARTH_UP) 1).setSlot 0 { state := 2, cmd := [(16, 17), (17, 3), (18, 1), (20, 26), (21, 224), (22, 1), (24, 2), (26, 2), (49, 8)] }).mb with taken := [0] } } : State).boot with recovery := false } } : State)), (by decide +kernel)⟩,
   ⟨0, _, _, _, stMotionCommandsComplete17, (by decide +kernel), rfl, (by decide +kernel), pair_rfl⟩,
   ⟨0, (({ ({ ((State.reset.put (HM_STAT.HEARTH_UP) 1).setSlot 0 { state := 2, cmd := [(16, 32), (17, 3), (18, 1), (20, 253), (21, 255), (22, 1), (24, 8), (26, 2), (51, 1)] }) with mb := { ((State.reset.put (HM_STAT.HEARTH_UP) 1).setSlot 0 { state := 2, cmd := [(16, 32), (17, 3), (18, 1), (20, 253), (21, 255), (22, 1), (24, 8), (26, 2), (51, 1)] }).mb with taken := [0] } } : State) with boot := { ({ ((State.reset.put (HM_STAT.HEARTH_UP) 1).setSlot 0 { state := 2, cmd := [(16, 32), (17, 3), (18, 1), (20, 253), (21, 255), (22, 1), (24, 8), (26, 2), (51, 1)] }) with mb := { ((State.reset.put (HM_STAT.HEARTH_UP) 1).setSlot 0 { state := 2, cmd := [(16, 32), (17, 3), (18, 1), (20, 253), (21, 255), (22, 1), (24, 8), (26, 2), (51, 1)] }).mb with taken := [0] } } : State).boot with recovery := false } } : State)), (by decide +kernel)⟩,
   ⟨0, _, _, stMotionCommandsComplete19, (by decide +kernel), pair_rfl⟩,
   ⟨0, _, _, stMotionCommandsComplete20, (by decide +kernel), pair_rfl⟩,
   ⟨0, _, _, stMotionCommandsComplete21, (by decide +kernel), pair_rfl⟩,
   ⟨0, 1, 9, 1, (({ ({ ({ ((State.reset.put (HM_STAT.HEARTH_UP) 1).setSlot 0 { state := 2, cmd := [(16, 4), (17, 4), (18, 1), (20, 253), (21, 255), (22, 1), (24, 9), (26, 2), (48, 1), (52, 9), (56, 7)] }) with mb := { ((State.reset.put (HM_STAT.HEARTH_UP) 1).setSlot 0 { state := 2, cmd := [(16, 4), (17, 4), (18, 1), (20, 253), (21, 255), (22, 1), (24, 9), (26, 2), (48, 1), (52, 9), (56, 7)] }).mb with taken := [0] } } : State) with boot := { ({ ((State.reset.put (HM_STAT.HEARTH_UP) 1).setSlot 0 { state := 2, cmd := [(16, 4), (17, 4), (18, 1), (20, 253), (21, 255), (22, 1), (24, 9), (26, 2), (48, 1), (52, 9), (56, 7)] }) with mb := { ((State.reset.put (HM_STAT.HEARTH_UP) 1).setSlot 0 { state := 2, cmd := [(16, 4), (17, 4), (18, 1), (20, 253), (21, 255), (22, 1), (24, 9), (26, 2), (48, 1), (52, 9), (56, 7)] }).mb with taken := [0] } } : State).boot with recovery := false } } : State) with mb := { ({ ({ ((State.reset.put (HM_STAT.HEARTH_UP) 1).setSlot 0 { state := 2, cmd := [(16, 4), (17, 4), (18, 1), (20, 253), (21, 255), (22, 1), (24, 9), (26, 2), (48, 1), (52, 9), (56, 7)] }) with mb := { ((State.reset.put (HM_STAT.HEARTH_UP) 1).setSlot 0 { state := 2, cmd := [(16, 4), (17, 4), (18, 1), (20, 253), (21, 255), (22, 1), (24, 9), (26, 2), (48, 1), (52, 9), (56, 7)] }).mb with taken := [0] } } : State) with boot := { ({ ((State.reset.put (HM_STAT.HEARTH_UP) 1).setSlot 0 { state := 2, cmd := [(16, 4), (17, 4), (18, 1), (20, 253), (21, 255), (22, 1), (24, 9), (26, 2), (48, 1), (52, 9), (56, 7)] }) with mb := { ((State.reset.put (HM_STAT.HEARTH_UP) 1).setSlot 0 { state := 2, cmd := [(16, 4), (17, 4), (18, 1), (20, 253), (21, 255), (22, 1), (24, 9), (26, 2), (48, 1), (52, 9), (56, 7)] }).mb with taken := [0] } } : State).boot with recovery := false } } : State).mb with staging := some (9, 1) } } : State)), (by decide +kernel)⟩,
   ⟨0, 1, 2, 1, _, _, stMotionCommandsComplete23, (by decide +kernel), (by decide +kernel), (by decide +kernel), (by decide +kernel), (by decide +kernel), (by decide +kernel), (by decide +kernel), (by decide +kernel), pair_rfl⟩,
   ⟨0, (({ ({ ((State.reset.put (HM_STAT.HEARTH_UP) 1).setSlot 0 { state := 2, cmd := [(16, 4), (17, 4), (18, 1), (20, 253), (21, 255), (22, 1), (24, 9), (26, 2), (48, 1), (52, 9), (56, 7)] }) with mb := { ((State.reset.put (HM_STAT.HEARTH_UP) 1).setSlot 0 { state := 2, cmd := [(16, 4), (17, 4), (18, 1), (20, 253), (21, 255), (22, 1), (24, 9), (26, 2), (48, 1), (52, 9), (56, 7)] }).mb with taken := [0] } } : State) with boot := { ({ ((State.reset.put (HM_STAT.HEARTH_UP) 1).setSlot 0 { state := 2, cmd := [(16, 4), (17, 4), (18, 1), (20, 253), (21, 255), (22, 1), (24, 9), (26, 2), (48, 1), (52, 9), (56, 7)] }) with mb := { ((State.reset.put (HM_STAT.HEARTH_UP) 1).setSlot 0 { state := 2, cmd := [(16, 4), (17, 4), (18, 1), (20, 253), (21, 255), (22, 1), (24, 9), (26, 2), (48, 1), (52, 9), (56, 7)] }).mb with taken := [0] } } : State).boot with recovery := false } } : State)), (by decide +kernel)⟩,
   ⟨0, (leBytes 8 0), (({ ({ ((State.reset.put (HM_STAT.HEARTH_UP) 1).setSlot 0 { state := 2, cmd := [(16, 5), (17, 4), (18, 1), (20, 253), (21, 255), (22, 1), (26, 2)] }) with mb := { ((State.reset.put (HM_STAT.HEARTH_UP) 1).setSlot 0 { state := 2, cmd := [(16, 5), (17, 4), (18, 1), (20, 253), (21, 255), (22, 1), (26, 2)] }).mb with taken := [0] } } : State) with boot := { ({ ((State.reset.put (HM_STAT.HEARTH_UP) 1).setSlot 0 { state := 2, cmd := [(16, 5), (17, 4), (18, 1), (20, 253), (21, 255), (22, 1), (26, 2)] }) with mb := { ((State.reset.put (HM_STAT.HEARTH_UP) 1).setSlot 0 { state := 2, cmd := [(16, 5), (17, 4), (18, 1), (20, 253), (21, 255), (22, 1), (26, 2)] }).mb with taken := [0] } } : State).boot with recovery := false } } : State)), (by decide +kernel)⟩⟩

def stTimeCommandsComplete1 : State := ({ ({ ((State.reset.put (HM_STAT.HEARTH_UP) 1).setSlot 0 { state := 2, cmd := [(16, 1), (17, 5), (18, 1), (20, 253), (21, 255), (22, 1), (26, 2)] }) with mb := { ((State.reset.put (HM_STAT.HEARTH_UP) 1).setSlot 0 { state := 2, cmd := [(16, 1), (17, 5), (18, 1), (20, 253), (21, 255), (22, 1), (26, 2)] }).mb with taken := [0] } } : State) with boot := { ({ ((State.reset.put (HM_STAT.HEARTH_UP) 1).setSlot 0 { state := 2, cmd := [(16, 1), (17, 5), (18, 1), (20, 253), (21, 255), (22, 1), (26, 2)] }) with mb := { ((State.reset.put (HM_STAT.HEARTH_UP) 1).setSlot 0 { state := 2, cmd := [(16, 1), (17, 5), (18, 1), (20, 253), (21, 255), (22, 1), (26, 2)] }).mb with taken := [0] } } : State).boot with recovery := false } } : State)
def stTimeCommandsComplete5 : State := ({ ({ ((State.reset.put (HM_STAT.HEARTH_UP) 1).setSlot 0 { state := 2, cmd := [(16, 3), (17, 5), (18, 1), (20, 253), (21, 255), (22, 1), (24, 4), (26, 2)] }) with mb := { ((State.reset.put (HM_STAT.HEARTH_UP) 1).setSlot 0 { state := 2, cmd := [(16, 3), (17, 5), (18, 1), (20, 253), (21, 255), (22, 1), (24, 4), (26, 2)] }).mb with taken := [0] } } : State) with boot := { ({ ((State.reset.put (HM_STAT.HEARTH_UP) 1).setSlot 0 { state := 2, cmd := [(16, 3), (17, 5), (18, 1), (20, 253), (21, 255), (22, 1), (24, 4), (26, 2)] }) with mb := { ((State.reset.put (HM_STAT.HEARTH_UP) 1).setSlot 0 { state := 2, cmd := [(16, 3), (17, 5), (18, 1), (20, 253), (21, 255), (22, 1), (24, 4), (26, 2)] }).mb with taken := [0] } } : State).boot with recovery := false } } : State)
def stTimeCommandsComplete8 : State := ({ ({ ((State.reset.put (HM_STAT.HEARTH_UP) 1).setSlot 0 { state := 2, cmd := [(16, 5), (17, 5), (18, 1), (20, 253), (21, 255), (22, 1), (24, 4), (26, 2)] }) with mb := { ((State.reset.put (HM_STAT.HEARTH_UP) 1).setSlot 0 { state := 2, cmd := [(16, 5), (17, 5), (18, 1), (20, 253), (21, 255), (22, 1), (24, 4), (26, 2)] }).mb with taken := [0] } } : State) with boot := { ({ ((State.reset.put (HM_STAT.HEARTH_UP) 1).setSlot 0 { state := 2, cmd := [(16, 5), (17, 5), (18, 1), (20, 253), (21, 255), (22, 1), (24, 4), (26, 2)] }) with mb := { ((State.reset.put (HM_STAT.HEARTH_UP) 1).setSlot 0 { state := 2, cmd := [(16, 5), (17, 5), (18, 1), (20, 253), (21, 255), (22, 1), (24, 4), (26, 2)] }).mb with taken := [0] } } : State).boot with recovery := false } } : State)
def stTimeCommandsComplete9 : State := ({ ({ ((State.reset.put (HM_STAT.HEARTH_UP) 1).setSlot 0 { state := 2, cmd := [(16, 6), (17, 5), (18, 1), (20, 253), (21, 255), (22, 1), (24, 16), (26, 2)] }) with mb := { ((State.reset.put (HM_STAT.HEARTH_UP) 1).setSlot 0 { state := 2, cmd := [(16, 6), (17, 5), (18, 1), (20, 253), (21, 255), (22, 1), (24, 16), (26, 2)] }).mb with taken := [0] } } : State) with boot := { ({ ((State.reset.put (HM_STAT.HEARTH_UP) 1).setSlot 0 { state := 2, cmd := [(16, 6), (17, 5), (18, 1), (20, 253), (21, 255), (22, 1), (24, 16), (26, 2)] }) with mb := { ((State.reset.put (HM_STAT.HEARTH_UP) 1).setSlot 0 { state := 2, cmd := [(16, 6), (17, 5), (18, 1), (20, 253), (21, 255), (22, 1), (24, 16), (26, 2)] }).mb with taken := [0] } } : State).boot with recovery := false } } : State)
def stTimeCommandsComplete11 : State := ({ ({ (((State.reset.put (HM_STAT.HEARTH_UP) 1).put (PIN_REL.TIME) 1).setSlot 0 { state := 2, cmd := [(16, 16), (17, 5), (18, 1), (20, 253), (21, 255), (22, 1), (24, 36), (26, 2), (52, 1), (68, 64), (69, 66), (70, 15), (76, 100), (80, 1)] }) with mb := { (((State.reset.put (HM_STAT.HEARTH_UP) 1).put (PIN_REL.TIME) 1).setSlot 0 { state := 2, cmd := [(16, 16), (17, 5), (18, 1), (20, 253), (21, 255), (22, 1), (24, 36), (26, 2), (52, 1), (68, 64), (69, 66), (70, 15), (76, 100), (80, 1)] }).mb with taken := [0] } } : State) with boot := { ({ (((State.reset.put (HM_STAT.HEARTH_UP) 1).put (PIN_REL.TIME) 1).setSlot 0 { state := 2, cmd := [(16, 16), (17, 5), (18, 1), (20, 253), (21, 255), (22, 1), (24, 36), (26, 2), (52, 1), (68, 64), (69, 66), (70, 15), (76, 100), (80, 1)] }) with mb := { (((State.reset.put (HM_STAT.HEARTH_UP) 1).put (PIN_REL.TIME) 1).setSlot 0 { state := 2, cmd := [(16, 16), (17, 5), (18, 1), (20, 253), (21, 255), (22, 1), (24, 36), (26, 2), (52, 1), (68, 64), (69, 66), (70, 15), (76, 100), (80, 1)] }).mb with taken := [0] } } : State).boot with recovery := false } } : State)
def stTimeCommandsComplete13 : State := ({ ({ ((State.reset.put (HM_STAT.HEARTH_UP) 1).setSlot 0 { state := 2, cmd := [(16, 17), (17, 5), (18, 1), (20, 253), (21, 255), (22, 1), (24, 8), (26, 2)] }) with mb := { ((State.reset.put (HM_STAT.HEARTH_UP) 1).setSlot 0 { state := 2, cmd := [(16, 17), (17, 5), (18, 1), (20, 253), (21, 255), (22, 1), (24, 8), (26, 2)] }).mb with taken := [0] } } : State) with boot := { ({ ((State.reset.put (HM_STAT.HEARTH_UP) 1).setSlot 0 { state := 2, cmd := [(16, 17), (17, 5), (18, 1), (20, 253), (21, 255), (22, 1), (24, 8), (26, 2)] }) with mb := { ((State.reset.put (HM_STAT.HEARTH_UP) 1).setSlot 0 { state := 2, cmd := [(16, 17), (17, 5), (18, 1), (20, 253), (21, 255), (22, 1), (24, 8), (26, 2)] }).mb with taken := [0] } } : State).boot with recovery := false } } : State)
theorem witness_TimeCommandsComplete :
    (∃ (k : Fin 16) (u : State) (c : Nat) (bs : List Byte) (s : State), (s.runsNow k (fun o => o == 0x0501) = true) ∧ s.timeGet = (u, c, bs))
    ∧ (∃ (k : Fin 16) (s : State), (s.runsNow k (fun o => o == 0x0502) = true) ∧ (s.slot k).arg 8 4 < 1000000000 ∧ s.get TB_STAT.STATE = 0 ∧ s.get TB_CTRL.SOURCE = 0)
    ∧ (∃ (k : Fin 16) (s : State), (s.runsNow k (fun o => o == 0x0502) = true) ∧ (s.slot k).arg 8 4 < 1000000000 ∧ (s.get TB_STAT.STATE ≠ 0 ∨ s.get TB_CTRL.SOURCE ≠ 0))
    ∧ (∃ (k : Fin 16) (s : State), (s.runsNow k (fun o => o == 0x0502) = true) ∧ 1000000000 ≤ (s.slot k).arg 8 4)
    ∧ (∃ (k : Fin 16) (u : State) (c : Nat) (s : State), (s.runsNow k (fun o => o == 0x0503) = true) ∧ s.cmdWrite TB_CTRL ((s.slot k).word 0) = (u, c))
    ∧ (∃ (k : Fin 16) (s : State), (s.runsNow k (fun o => o == 0x0504) = true) ∧ s.get TB_STAT.STATE ≠ 0 ∧ s.signetOpen = false)
    ∧ (∃ (k : Fin 16) (s : State), (s.runsNow k (fun o => o == 0x0504) = true) ∧ (s.get TB_STAT.STATE = 0 ∨ s.signetOpen = true))
    ∧ (∃ (k : Fin 16) (u : State) (c : Nat) (s : State), (s.runsNow k (fun o => o == 0x0505) = true) ∧ s.cmdWriteAs TB_RATE ((s.slot k).word 0) 0x0010 = (u, c))
    ∧ (∃ (k : Fin 16) (p : Fin 20) (u : State) (c : Nat) (s : State), (s.runsNow k (fun o => o == 0x0506) = true) ∧ p.val = (s.slot k).arg 0 1 ∧ (s.slot k).arg 1 3 = 0 ∧ s.cmdWrites [(TSP_INGRESS p, (s.slot k).word 4), (TSP_EGRESS p, (s.slot k).word 8), (TSP_ASYM p, (s.slot k).word 12)] = (u, c))
    ∧ (∃ (k : Fin 16) (s : State), (s.runsNow k (fun o => o == 0x0506) = true) ∧ (20 ≤ (s.slot k).arg 0 1 ∨ (s.slot k).arg 1 3 ≠ 0))
    ∧ (∃ (k : Fin 16) (n : Fin 8) (m : Nat) (u : State) (v : State) (w : State) (x : State) (bs : List Byte) (s : State), (s.runsNow k (fun o => o == 0x0510) = true) ∧ n.val = (s.slot k).arg 0 1 ∧ m = (s.slot k).arg 1 1 ∧ m < 4 ∧ ((s.slot k).arg 2 2 = 0 ∧ (s.slot k).arg 18 2 = 0 ∧ (s.slot k).arg 25 3 = 0) ∧ s.cmdWrites [(TPO_START_SEC_LO n, (s.slot k).word 4), (TPO_START_SEC_HI n, (s.slot k).word 8), (TPO_START_NS n, (s.slot k).word 12), (TPO_START_FRAC n, BitVec.ofNat 32 ((s.slot k).arg 16 1)), (TPO_PERIOD_NS n, (s.slot k).word 20), (TPO_PERIOD_FRAC n, BitVec.ofNat 32 ((s.slot k).arg 24 1)), (TPO_WIDTH_NS n, (s.slot k).word 28), (TPO_WIDTH_FRAC n, BitVec.ofNat 32 ((s.slot k).arg 17 1)), (TPO_COUNT n, (s.slot k).word 32)] = (u, 0) ∧ (u.watch [TPO_STAT.ARM_REFUSED n] (fun y => y.busWrite .host (TPO_CTRL n) (BitVec.ofNat 32 (1 + m * 2))) = (v, false)) ∧ (v.watch [TPO_STAT.BADCFG n] (fun y => y.busWrite .host (TPO_CTRL n) (BitVec.ofNat 32 (1 + m * 2 + 8))) = (w, false)) ∧ w.cmdReads [TPO_STAT n] = (x, bs))
    ∧ (∃ (k : Fin 16) (s : State), (s.runsNow k (fun o => o == 0x0510) = true) ∧ (8 ≤ (s.slot k).arg 0 1 ∨ 4 ≤ (s.slot k).arg 1 1 ∨ (s.slot k).arg 2 2 ≠ 0 ∨ (s.slot k).arg 18 2 ≠ 0 ∨ (s.slot k).arg 25 3 ≠ 0))
    ∧ (∃ (k : Fin 16) (n : Fin 8) (u : State) (c : Nat) (s : State), (s.runsNow k (fun o => o == 0x0511) = true) ∧ n.val = (s.slot k).arg 0 1 ∧ (s.slot k).arg 1 3 = 0 ∧ s.cmdWrite (TCAP_CTRL n) ((s.slot k).word 4) = (u, c))
    ∧ (∃ (k : Fin 16) (s : State), (s.runsNow k (fun o => o == 0x0511) = true) ∧ (8 ≤ (s.slot k).arg 0 1 ∨ (s.slot k).arg 1 3 ≠ 0))
    ∧ (∃ (k : Fin 16) (n : Fin 8) (m : Nat) (s : State), (s.runsNow k (fun o => o == 0x0512) = true) ∧ n.val = (s.slot k).arg 0 1 ∧ m = (s.slot k).arg 1 1 ∧ (1 ≤ m ∧ m ≤ 16))
    ∧ (∃ (k : Fin 16) (s : State), (s.runsNow k (fun o => o == 0x0512) = true) ∧ (8 ≤ (s.slot k).arg 0 1 ∨ (s.slot k).arg 1 1 = 0 ∨ 16 < (s.slot k).arg 1 1)) :=
  ⟨⟨0, _, _, _, stTimeCommandsComplete1, (by decide +kernel), triple_rfl⟩,
   ⟨0, (({ ({ ((((State.reset.put (HM_STAT.HEARTH_UP) 1).put (TB_CTRL.SOURCE) 0).put (TB_STAT.STATE) 0).setSlot 0 { state := 2, cmd := [(16, 2), (17, 5), (18, 1), (20, 253), (21, 255), (22, 1), (24, 12), (26, 2)] }) with mb := { ((((State.reset.put (HM_STAT.HEARTH_UP) 1).put (TB_CTRL.SOURCE) 0).put (TB_STAT.STATE) 0).setSlot 0 { state := 2, cmd := [(16, 2), (17, 5), (18, 1), (20, 253), (21, 255), (22, 1), (24, 12), (26, 2)] }).mb with taken := [0] } } : State) with boot := { ({ ((((State.reset.put (HM_STAT.HEARTH_UP) 1).put (TB_CTRL.SOURCE) 0).put (TB_STAT.STATE) 0).setSlot 0 { state := 2, cmd := [(16, 2), (17, 5), (18, 1), (20, 253), (21, 255), (22, 1), (24, 12), (26, 2)] }) with mb := { ((((State.reset.put (HM_STAT.HEARTH_UP) 1).put (TB_CTRL.SOURCE) 0).put (TB_STAT.STATE) 0).setSlot 0 { state := 2, cmd := [(16, 2), (17, 5), (18, 1), (20, 253), (21, 255), (22, 1), (24, 12), (26, 2)] }).mb with taken := [0] } } : State).boot with recovery := false } } : State)), (by decide +kernel)⟩,
   ⟨0, (({ ({ (((State.reset.put (HM_STAT.HEARTH_UP) 1).put (TB_STAT.STATE) 2).setSlot 0 { state := 2, cmd := [(16, 2), (17, 5), (18, 1), (20, 253), (21, 255), (22, 1), (24, 12), (26, 2)] }) with mb := { (((State.reset.put (HM_STAT.HEARTH_UP) 1).put (TB_STAT.STATE) 2).setSlot 0 { state := 2, cmd := [(16, 2), (17, 5), (18, 1), (20, 253), (21, 255), (22, 1), (24, 12), (26, 2)] }).mb with taken := [0] } } : State) with boot := { ({ (((State.reset.put (HM_STAT.HEARTH_UP) 1).put (TB_STAT.STATE) 2).setSlot 0 { state := 2, cmd := [(16, 2), (17, 5), (18, 1), (20, 253), (21, 255), (22, 1), (24, 12), (26, 2)] }) with mb := { (((State.reset.put (HM_STAT.HEARTH_UP) 1).put (TB_STAT.STATE) 2).setSlot 0 { state := 2, cmd := [(16, 2), (17, 5), (18, 1), (20, 253), (21, 255), (22, 1), (24, 12), (26, 2)] }).mb with taken := [0] } } : State).boot with recovery := false } } : State)), (by decide +kernel)⟩,
   ⟨0, (({ ({ ((State.reset.put (HM_STAT.HEARTH_UP) 1).setSlot 0 { state := 2, cmd := [(16, 2), (17, 5), (18, 1), (20, 253), (21, 255), (22, 1), (24, 12), (26, 2), (59, 255)] }) with mb := { ((State.reset.put (HM_STAT.HEARTH_UP) 1).setSlot 0 { state := 2, cmd := [(16, 2), (17, 5), (18, 1), (20, 253), (21, 255), (22, 1), (24, 12), (26, 2), (59, 255)] }).mb with taken := [0] } } : State) with boot := { ({ ((State.reset.put (HM_STAT.HEARTH_UP) 1).setSlot 0 { state := 2, cmd := [(16, 2), (17, 5), (18, 1), (20, 253), (21, 255), (22, 1), (24, 12), (26, 2), (59, 255)] }) with mb := { ((State.reset.put (HM_STAT.HEARTH_UP) 1).setSlot 0 { state := 2, cmd := [(16, 2), (17, 5), (18, 1), (20, 253), (21, 255), (22, 1), (24, 12), (26, 2), (59, 255)] }).mb with taken := [0] } } : State).boot with recovery := false } } : State)), (by decide +kernel)⟩,
   ⟨0, _, _, stTimeCommandsComplete5, (by decide +kernel), pair_rfl⟩,
   ⟨0, (({ ({ (((State.reset.put (HM_STAT.HEARTH_UP) 1).put (TB_STAT.STATE) 2).setSlot 0 { state := 2, cmd := [(16, 4), (17, 5), (18, 1), (20, 253), (21, 255), (22, 1), (26, 2)] }) with mb := { (((State.reset.put (HM_STAT.HEARTH_UP) 1).put (TB_STAT.STATE) 2).setSlot 0 { state := 2, cmd := [(16, 4), (17, 5), (18, 1), (20, 253), (21, 255), (22, 1), (26, 2)] }).mb with taken := [0] } } : State) with boot := { ({ (((State.reset.put (HM_STAT.HEARTH_UP) 1).put (TB_STAT.STATE) 2).setSlot 0 { state := 2, cmd := [(16, 4), (17, 5), (18, 1), (20, 253), (21, 255), (22, 1), (26, 2)] }) with mb := { (((State.reset.put (HM_STAT.HEARTH_UP) 1).put (TB_STAT.STATE) 2).setSlot 0 { state := 2, cmd := [(16, 4), (17, 5), (18, 1), (20, 253), (21, 255), (22, 1), (26, 2)] }).mb with taken := [0] } } : State).boot with recovery := false } } : State)), (by decide +kernel)⟩,
   ⟨0, (({ ({ ((State.reset.put (HM_STAT.HEARTH_UP) 1).setSlot 0 { state := 2, cmd := [(16, 4), (17, 5), (18, 1), (20, 253), (21, 255), (22, 1), (26, 2)] }) with mb := { ((State.reset.put (HM_STAT.HEARTH_UP) 1).setSlot 0 { state := 2, cmd := [(16, 4), (17, 5), (18, 1), (20, 253), (21, 255), (22, 1), (26, 2)] }).mb with taken := [0] } } : State) with boot := { ({ ((State.reset.put (HM_STAT.HEARTH_UP) 1).setSlot 0 { state := 2, cmd := [(16, 4), (17, 5), (18, 1), (20, 253), (21, 255), (22, 1), (26, 2)] }) with mb := { ((State.reset.put (HM_STAT.HEARTH_UP) 1).setSlot 0 { state := 2, cmd := [(16, 4), (17, 5), (18, 1), (20, 253), (21, 255), (22, 1), (26, 2)] }).mb with taken := [0] } } : State).boot with recovery := false } } : State)), (by decide +kernel)⟩,
   ⟨0, _, _, stTimeCommandsComplete8, (by decide +kernel), pair_rfl⟩,
   ⟨0, 0, _, _, stTimeCommandsComplete9, (by decide +kernel), (by decide +kernel), (by decide +kernel), pair_rfl⟩,
   ⟨0, (({ ({ ((State.reset.put (HM_STAT.HEARTH_UP) 1).setSlot 0 { state := 2, cmd := [(16, 6), (17, 5), (18, 1), (20, 253), (21, 255), (22, 1), (24, 16), (26, 2), (48, 20)] }) with mb := { ((State.reset.put (HM_STAT.HEARTH_UP) 1).setSlot 0 { state := 2, cmd := [(16, 6), (17, 5), (18, 1), (20, 253), (21, 255), (22, 1), (24, 16), (26, 2), (48, 20)] }).mb with taken := [0] } } : State) with boot := { ({ ((State.reset.put (HM_STAT.HEARTH_UP) 1).setSlot 0 { state := 2, cmd := [(16, 6), (17, 5), (18, 1), (20, 253), (21, 255), (22, 1), (24, 16), (26, 2), (48, 20)] }) with mb := { ((State.reset.put (HM_STAT.HEARTH_UP) 1).setSlot 0 { state := 2, cmd := [(16, 6), (17, 5), (18, 1), (20, 253), (21, 255), (22, 1), (24, 16), (26, 2), (48, 20)] }).mb with taken := [0] } } : State).boot with recovery := false } } : State)), (by decide +kernel)⟩,
   ⟨0, 0, 0, _, _, _, _, _, stTimeCommandsComplete11, (by decide +kernel), (by decide +kernel), (by decide +kernel), (by decide +kernel), (by decide +kernel), pair_eq (by decide +kernel), pair_eq (by decide +kernel), pair_eq (by decide +kernel), pair_rfl⟩,
   ⟨0, (({ ({ ((State.reset.put (HM_STAT.HEARTH_UP) 1).setSlot 0 { state := 2, cmd := [(16, 16), (17, 5), (18, 1), (20, 253), (21, 255), (22, 1), (24, 36), (26, 2), (48, 8)] }) with mb := { ((State.reset.put (HM_STAT.HEARTH_UP) 1).setSlot 0 { state := 2, cmd := [(16, 16), (17, 5), (18, 1), (20, 253), (21, 255), (22, 1), (24, 36), (26, 2), (48, 8)] }).mb with taken := [0] } } : State) with boot := { ({ ((State.reset.put (HM_STAT.HEARTH_UP) 1).setSlot 0 { state := 2, cmd := [(16, 16), (17, 5), (18, 1), (20, 253), (21, 255), (22, 1), (24, 36), (26, 2), (48, 8)] }) with mb := { ((State.reset.put (HM_STAT.HEARTH_UP) 1).setSlot 0 { state := 2, cmd := [(16, 16), (17, 5), (18, 1), (20, 253), (21, 255), (22, 1), (24, 36), (26, 2), (48, 8)] }).mb with taken := [0] } } : State).boot with recovery := false } } : State)), (by decide +kernel)⟩,
   ⟨0, 0, _, _, stTimeCommandsComplete13, (by decide +kernel), (by decide +kernel), (by decide +kernel), pair_rfl⟩,
   ⟨0, (({ ({ ((State.reset.put (HM_STAT.HEARTH_UP) 1).setSlot 0 { state := 2, cmd := [(16, 17), (17, 5), (18, 1), (20, 253), (21, 255), (22, 1), (24, 8), (26, 2), (48, 8)] }) with mb := { ((State.reset.put (HM_STAT.HEARTH_UP) 1).setSlot 0 { state := 2, cmd := [(16, 17), (17, 5), (18, 1), (20, 253), (21, 255), (22, 1), (24, 8), (26, 2), (48, 8)] }).mb with taken := [0] } } : State) with boot := { ({ ((State.reset.put (HM_STAT.HEARTH_UP) 1).setSlot 0 { state := 2, cmd := [(16, 17), (17, 5), (18, 1), (20, 253), (21, 255), (22, 1), (24, 8), (26, 2), (48, 8)] }) with mb := { ((State.reset.put (HM_STAT.HEARTH_UP) 1).setSlot 0 { state := 2, cmd := [(16, 17), (17, 5), (18, 1), (20, 253), (21, 255), (22, 1), (24, 8), (26, 2), (48, 8)] }).mb with taken := [0] } } : State).boot with recovery := false } } : State)), (by decide +kernel)⟩,
   ⟨0, 0, 1, (({ ({ ((State.reset.put (HM_STAT.HEARTH_UP) 1).setSlot 0 { state := 2, cmd := [(16, 18), (17, 5), (18, 1), (20, 253), (21, 255), (22, 1), (24, 2), (26, 2), (49, 1)] }) with mb := { ((State.reset.put (HM_STAT.HEARTH_UP) 1).setSlot 0 { state := 2, cmd := [(16, 18), (17, 5), (18, 1), (20, 253), (21, 255), (22, 1), (24, 2), (26, 2), (49, 1)] }).mb with taken := [0] } } : State) with boot := { ({ ((State.reset.put (HM_STAT.HEARTH_UP) 1).setSlot 0 { state := 2, cmd := [(16, 18), (17, 5), (18, 1), (20, 253), (21, 255), (22, 1), (24, 2), (26, 2), (49, 1)] }) with mb := { ((State.reset.put (HM_STAT.HEARTH_UP) 1).setSlot 0 { state := 2, cmd := [(16, 18), (17, 5), (18, 1), (20, 253), (21, 255), (22, 1), (24, 2), (26, 2), (49, 1)] }).mb with taken := [0] } } : State).boot with recovery := false } } : State)), (by decide +kernel)⟩,
   ⟨0, (({ ({ ((State.reset.put (HM_STAT.HEARTH_UP) 1).setSlot 0 { state := 2, cmd := [(16, 18), (17, 5), (18, 1), (20, 253), (21, 255), (22, 1), (24, 2), (26, 2), (48, 8), (49, 1)] }) with mb := { ((State.reset.put (HM_STAT.HEARTH_UP) 1).setSlot 0 { state := 2, cmd := [(16, 18), (17, 5), (18, 1), (20, 253), (21, 255), (22, 1), (24, 2), (26, 2), (48, 8), (49, 1)] }).mb with taken := [0] } } : State) with boot := { ({ ((State.reset.put (HM_STAT.HEARTH_UP) 1).setSlot 0 { state := 2, cmd := [(16, 18), (17, 5), (18, 1), (20, 253), (21, 255), (22, 1), (24, 2), (26, 2), (48, 8), (49, 1)] }) with mb := { ((State.reset.put (HM_STAT.HEARTH_UP) 1).setSlot 0 { state := 2, cmd := [(16, 18), (17, 5), (18, 1), (20, 253), (21, 255), (22, 1), (24, 2), (26, 2), (48, 8), (49, 1)] }).mb with taken := [0] } } : State).boot with recovery := false } } : State)), (by decide +kernel)⟩⟩

def stLocketCommandsComplete7 : State := ({ ({ ((State.reset.put (HM_STAT.HEARTH_UP) 1).setSlot 0 { state := 2, cmd := [(16, 5), (17, 6), (18, 1), (20, 253), (21, 255), (22, 1), (24, 6), (26, 2), (48, 1), (49, 2), (50, 3), (51, 4), (52, 5), (53, 6)] }) with mb := { ((State.reset.put (HM_STAT.HEARTH_UP) 1).setSlot 0 { state := 2, cmd := [(16, 5), (17, 6), (18, 1), (20, 253), (21, 255), (22, 1), (24, 6), (26, 2), (48, 1), (49, 2), (50, 3), (51, 4), (52, 5), (53, 6)] }).mb with taken := [0] } } : State) with boot := { ({ ((State.reset.put (HM_STAT.HEARTH_UP) 1).setSlot 0 { state := 2, cmd := [(16, 5), (17, 6), (18, 1), (20, 253), (21, 255), (22, 1), (24, 6), (26, 2), (48, 1), (49, 2), (50, 3), (51, 4), (52, 5), (53, 6)] }) with mb := { ((State.reset.put (HM_STAT.HEARTH_UP) 1).setSlot 0 { state := 2, cmd := [(16, 5), (17, 6), (18, 1), (20, 253), (21, 255), (22, 1), (24, 6), (26, 2), (48, 1), (49, 2), (50, 3), (51, 4), (52, 5), (53, 6)] }).mb with taken := [0] } } : State).boot with recovery := false } } : State)
def stLocketCommandsComplete8 : State := ({ ({ ({ ((State.reset.put (HM_STAT.HEARTH_UP) 1).setSlot 0 { state := 2, cmd := [(16, 5), (17, 6), (18, 1), (20, 253), (21, 255), (22, 1), (24, 6), (26, 2), (48, 1), (49, 2), (50, 3), (51, 4), (52, 5), (53, 6)] }) with mb := { ((State.reset.put (HM_STAT.HEARTH_UP) 1).setSlot 0 { state := 2, cmd := [(16, 5), (17, 6), (18, 1), (20, 253), (21, 255), (22, 1), (24, 6), (26, 2), (48, 1), (49, 2), (50, 3), (51, 4), (52, 5), (53, 6)] }).mb with taken := [0] } } : State) with boot := { ({ ((State.reset.put (HM_STAT.HEARTH_UP) 1).setSlot 0 { state := 2, cmd := [(16, 5), (17, 6), (18, 1), (20, 253), (21, 255), (22, 1), (24, 6), (26, 2), (48, 1), (49, 2), (50, 3), (51, 4), (52, 5), (53, 6)] }) with mb := { ((State.reset.put (HM_STAT.HEARTH_UP) 1).setSlot 0 { state := 2, cmd := [(16, 5), (17, 6), (18, 1), (20, 253), (21, 255), (22, 1), (24, 6), (26, 2), (48, 1), (49, 2), (50, 3), (51, 4), (52, 5), (53, 6)] }).mb with taken := [0] } } : State).boot with recovery := false } } : State) with lk := { ({ ({ ((State.reset.put (HM_STAT.HEARTH_UP) 1).setSlot 0 { state := 2, cmd := [(16, 5), (17, 6), (18, 1), (20, 253), (21, 255), (22, 1), (24, 6), (26, 2), (48, 1), (49, 2), (50, 3), (51, 4), (52, 5), (53, 6)] }) with mb := { ((State.reset.put (HM_STAT.HEARTH_UP) 1).setSlot 0 { state := 2, cmd := [(16, 5), (17, 6), (18, 1), (20, 253), (21, 255), (22, 1), (24, 6), (26, 2), (48, 1), (49, 2), (50, 3), (51, 4), (52, 5), (53, 6)] }).mb with taken := [0] } } : State) with boot := { ({ ((State.reset.put (HM_STAT.HEARTH_UP) 1).setSlot 0 { state := 2, cmd := [(16, 5), (17, 6), (18, 1), (20, 253), (21, 255), (22, 1), (24, 6), (26, 2), (48, 1), (49, 2), (50, 3), (51, 4), (52, 5), (53, 6)] }) with mb := { ((State.reset.put (HM_STAT.HEARTH_UP) 1).setSlot 0 { state := 2, cmd := [(16, 5), (17, 6), (18, 1), (20, 253), (21, 255), (22, 1), (24, 6), (26, 2), (48, 1), (49, 2), (50, 3), (51, 4), (52, 5), (53, 6)] }).mb with taken := [0] } } : State).boot with recovery := false } } : State).lk with closed := true } } : State)
theorem witness_LocketCommandsComplete :
    (∃ (k : Fin 16) (m : Nat) (i : Nat) (n : Nat) (s : State), (s.runsNow k (fun o => o == 0x0601) = true) ∧ m = (s.slot k).arg 8 1 ∧ (1 ≤ m ∧ m ≤ 42) ∧ i = max ((s.slot k).arg 0 8) s.lkOldest ∧ n = min m (s.lk.next - i))
    ∧ (∃ (k : Fin 16) (s : State), (s.runsNow k (fun o => o == 0x0601) = true) ∧ ((s.slot k).arg 8 1 = 0 ∨ 42 < (s.slot k).arg 8 1))
    ∧ (∃ (k : Fin 16) (s : State), (s.runsNow k (fun o => o == 0x0602) = true))
    ∧ (∃ (k : Fin 16) (s : State), (s.runsNow k (fun o => o == 0x0603) = true))
    ∧ (∃ (k : Fin 16) (n : Fin 8) (s : State), (s.runsNow k (fun o => o == 0x0604) = true) ∧ n.val = (s.slot k).arg 0 1 ∧ (s.slot k).arg 1 1 < 2 ∧ (s.slot k).arg 2 2 = 0)
    ∧ (∃ (k : Fin 16) (s : State), (s.runsNow k (fun o => o == 0x0604) = true) ∧ (8 ≤ (s.slot k).arg 0 1 ∨ 2 ≤ (s.slot k).arg 1 1 ∨ (s.slot k).arg 2 2 ≠ 0))
    ∧ (∃ (k : Fin 16) (u : State) (s : State), (s.runsNow k (fun o => o == 0x0605) = true) ∧ u = s.post 0x0005 0 s.cellAddr ((s.slot k).payload 0 6) ∧ s.lk.closed = false ∧ (u.lk.lost = 0 ∨ (u.lk.lost = s.lk.lost ∧ u.lk.next = s.lk.next)))
    ∧ (∃ (k : Fin 16) (u : State) (s : State), (s.runsNow k (fun o => o == 0x0605) = true) ∧ u = s.post 0x0005 0 s.cellAddr ((s.slot k).payload 0 6) ∧ (s.lk.closed = true ∨ (u.lk.lost ≠ 0 ∧ (u.lk.lost ≠ s.lk.lost ∨ u.lk.next ≠ s.lk.next))))
    ∧ (∃ (s : State), s.lk.closed = true)
    ∧ (∃ (a : Word) (s : State), s.lk.closed = false ∧ addrOk a = true)
    ∧ (∃ (s : State), s.lk.flush = none)
    ∧ (∃ (i : Nat) (s : State), s.lk.flush = none ∧ (s.lk.flushed ≤ i ∧ i < s.lk.next))
    ∧ (∃ (f : Flush) (s : State), s.lk.flush = some f ∧ s.lk.lost = 0)
    ∧ (∃ (s : State), s.unflushed ≠ 0 ∧ s.lk.flush = none)
    ∧ (∃ (s : State), s.pwr.pfail = true ∧ s.pwr.pfHold = false ∧ s.pwr.reset = false ∧ s.pwr.rstDeferred = false)
    ∧ (∃ (s : State), s.is HM_STAT.HEARTH_UP = true ∧ s.pwr.pfail = false) :=
  ⟨⟨0, 1, 0, 0, (({ ({ ((State.reset.put (HM_STAT.HEARTH_UP) 1).setSlot 0 { state := 2, cmd := [(16, 1), (17, 6), (18, 1), (20, 253), (21, 255), (22, 1), (24, 9), (26, 2), (56, 1)] }) with mb := { ((State.reset.put (HM_STAT.HEARTH_UP) 1).setSlot 0 { state := 2, cmd := [(16, 1), (17, 6), (18, 1), (20, 253), (21, 255), (22, 1), (24, 9), (26, 2), (56, 1)] }).mb with taken := [0] } } : State) with boot := { ({ ((State.reset.put (HM_STAT.HEARTH_UP) 1).setSlot 0 { state := 2, cmd := [(16, 1), (17, 6), (18, 1), (20, 253), (21, 255), (22, 1), (24, 9), (26, 2), (56, 1)] }) with mb := { ((State.reset.put (HM_STAT.HEARTH_UP) 1).setSlot 0 { state := 2, cmd := [(16, 1), (17, 6), (18, 1), (20, 253), (21, 255), (22, 1), (24, 9), (26, 2), (56, 1)] }).mb with taken := [0] } } : State).boot with recovery := false } } : State)), (by decide +kernel)⟩,
   ⟨0, (({ ({ ((State.reset.put (HM_STAT.HEARTH_UP) 1).setSlot 0 { state := 2, cmd := [(16, 1), (17, 6), (18, 1), (20, 253), (21, 255), (22, 1), (24, 9), (26, 2)] }) with mb := { ((State.reset.put (HM_STAT.HEARTH_UP) 1).setSlot 0 { state := 2, cmd := [(16, 1), (17, 6), (18, 1), (20, 253), (21, 255), (22, 1), (24, 9), (26, 2)] }).mb with taken := [0] } } : State) with boot := { ({ ((State.reset.put (HM_STAT.HEARTH_UP) 1).setSlot 0 { state := 2, cmd := [(16, 1), (17, 6), (18, 1), (20, 253), (21, 255), (22, 1), (24, 9), (26, 2)] }) with mb := { ((State.reset.put (HM_STAT.HEARTH_UP) 1).setSlot 0 { state := 2, cmd := [(16, 1), (17, 6), (18, 1), (20, 253), (21, 255), (22, 1), (24, 9), (26, 2)] }).mb with taken := [0] } } : State).boot with recovery := false } } : State)), (by decide +kernel)⟩,
   ⟨0, (({ ({ ((State.reset.put (HM_STAT.HEARTH_UP) 1).setSlot 0 { state := 2, cmd := [(16, 2), (17, 6), (18, 1), (20, 253), (21, 255), (22, 1), (26, 2)] }) with mb := { ((State.reset.put (HM_STAT.HEARTH_UP) 1).setSlot 0 { state := 2, cmd := [(16, 2), (17, 6), (18, 1), (20, 253), (21, 255), (22, 1), (26, 2)] }).mb with taken := [0] } } : State) with boot := { ({ ((State.reset.put (HM_STAT.HEARTH_UP) 1).setSlot 0 { state := 2, cmd := [(16, 2), (17, 6), (18, 1), (20, 253), (21, 255), (22, 1), (26, 2)] }) with mb := { ((State.reset.put (HM_STAT.HEARTH_UP) 1).setSlot 0 { state := 2, cmd := [(16, 2), (17, 6), (18, 1), (20, 253), (21, 255), (22, 1), (26, 2)] }).mb with taken := [0] } } : State).boot with recovery := false } } : State)), (by decide +kernel)⟩,
   ⟨0, (({ ({ ((State.reset.put (HM_STAT.HEARTH_UP) 1).setSlot 0 { state := 2, cmd := [(16, 3), (17, 6), (18, 1), (20, 253), (21, 255), (22, 1), (26, 2)] }) with mb := { ((State.reset.put (HM_STAT.HEARTH_UP) 1).setSlot 0 { state := 2, cmd := [(16, 3), (17, 6), (18, 1), (20, 253), (21, 255), (22, 1), (26, 2)] }).mb with taken := [0] } } : State) with boot := { ({ ((State.reset.put (HM_STAT.HEARTH_UP) 1).setSlot 0 { state := 2, cmd := [(16, 3), (17, 6), (18, 1), (20, 253), (21, 255), (22, 1), (26, 2)] }) with mb := { ((State.reset.put (HM_STAT.HEARTH_UP) 1).setSlot 0 { state := 2, cmd := [(16, 3), (17, 6), (18, 1), (20, 253), (21, 255), (22, 1), (26, 2)] }).mb with taken := [0] } } : State).boot with recovery := false } } : State)), (by decide +kernel)⟩,
   ⟨0, 0, (({ ({ ((State.reset.put (HM_STAT.HEARTH_UP) 1).setSlot 0 { state := 2, cmd := [(16, 4), (17, 6), (18, 1), (20, 253), (21, 255), (22, 1), (24, 16), (26, 2), (49, 1)] }) with mb := { ((State.reset.put (HM_STAT.HEARTH_UP) 1).setSlot 0 { state := 2, cmd := [(16, 4), (17, 6), (18, 1), (20, 253), (21, 255), (22, 1), (24, 16), (26, 2), (49, 1)] }).mb with taken := [0] } } : State) with boot := { ({ ((State.reset.put (HM_STAT.HEARTH_UP) 1).setSlot 0 { state := 2, cmd := [(16, 4), (17, 6), (18, 1), (20, 253), (21, 255), (22, 1), (24, 16), (26, 2), (49, 1)] }) with mb := { ((State.reset.put (HM_STAT.HEARTH_UP) 1).setSlot 0 { state := 2, cmd := [(16, 4), (17, 6), (18, 1), (20, 253), (21, 255), (22, 1), (24, 16), (26, 2), (49, 1)] }).mb with taken := [0] } } : State).boot with recovery := false } } : State)), (by decide +kernel)⟩,
   ⟨0, (({ ({ ((State.reset.put (HM_STAT.HEARTH_UP) 1).setSlot 0 { state := 2, cmd := [(16, 4), (17, 6), (18, 1), (20, 253), (21, 255), (22, 1), (24, 16), (26, 2), (48, 8)] }) with mb := { ((State.reset.put (HM_STAT.HEARTH_UP) 1).setSlot 0 { state := 2, cmd := [(16, 4), (17, 6), (18, 1), (20, 253), (21, 255), (22, 1), (24, 16), (26, 2), (48, 8)] }).mb with taken := [0] } } : State) with boot := { ({ ((State.reset.put (HM_STAT.HEARTH_UP) 1).setSlot 0 { state := 2, cmd := [(16, 4), (17, 6), (18, 1), (20, 253), (21, 255), (22, 1), (24, 16), (26, 2), (48, 8)] }) with mb := { ((State.reset.put (HM_STAT.HEARTH_UP) 1).setSlot 0 { state := 2, cmd := [(16, 4), (17, 6), (18, 1), (20, 253), (21, 255), (22, 1), (24, 16), (26, 2), (48, 8)] }).mb with taken := [0] } } : State).boot with recovery := false } } : State)), (by decide +kernel)⟩,
   ⟨0, _, stLocketCommandsComplete7, (by decide +kernel), rfl, (by decide +kernel)⟩,
   ⟨0, _, stLocketCommandsComplete8, (by decide +kernel), rfl, (by decide +kernel)⟩,
   ⟨(({ State.reset with lk := { State.reset.lk with closed := true } } : State)), (by decide +kernel)⟩,
   ⟨0xFFFFFFFF, (State.reset), (by decide +kernel)⟩,
   ⟨(State.reset), (by decide +kernel)⟩,
   ⟨0, (({ State.reset with lk := { State.reset.lk with next := 1 } } : State)), (by decide +kernel)⟩,
   ⟨({ start := 0, first := 0, until_ := 0 }), (({ State.reset with lk := { State.reset.lk with flush := some { start := 0, first := 0, until_ := 0 } } } : State)), (by decide +kernel)⟩,
   ⟨(({ State.reset with lk := { State.reset.lk with next := 1 } } : State)), (by decide +kernel)⟩,
   ⟨(({ State.reset with pwr := { State.reset.pwr with pfail := true, reset := false } } : State)), (by decide +kernel)⟩,
   ⟨((State.reset.put (HM_STAT.HEARTH_UP) 1)), (by decide +kernel)⟩⟩

def stSystemCommandsComplete4 : State := ({ ({ ((State.reset.put (HM_STAT.HEARTH_UP) 1).setSlot 0 { state := 2, cmd := [(16, 16), (17, 2), (18, 1), (20, 253), (21, 255), (22, 1), (26, 2)] }) with mb := { ((State.reset.put (HM_STAT.HEARTH_UP) 1).setSlot 0 { state := 2, cmd := [(16, 16), (17, 2), (18, 1), (20, 253), (21, 255), (22, 1), (26, 2)] }).mb with taken := [0] } } : State) with boot := { ({ ((State.reset.put (HM_STAT.HEARTH_UP) 1).setSlot 0 { state := 2, cmd := [(16, 16), (17, 2), (18, 1), (20, 253), (21, 255), (22, 1), (26, 2)] }) with mb := { ((State.reset.put (HM_STAT.HEARTH_UP) 1).setSlot 0 { state := 2, cmd := [(16, 16), (17, 2), (18, 1), (20, 253), (21, 255), (22, 1), (26, 2)] }).mb with taken := [0] } } : State).boot with recovery := false } } : State)
def stSystemCommandsComplete6 : State := ({ ({ ((State.reset.put (HM_STAT.HEARTH_UP) 1).setSlot 0 { state := 2, cmd := [(16, 16), (17, 2), (18, 1), (20, 253), (21, 255), (22, 1), (26, 2)] }) with mb := { ((State.reset.put (HM_STAT.HEARTH_UP) 1).setSlot 0 { state := 2, cmd := [(16, 16), (17, 2), (18, 1), (20, 253), (21, 255), (22, 1), (26, 2)] }).mb with taken := [0] } } : State) with boot := { ({ ((State.reset.put (HM_STAT.HEARTH_UP) 1).setSlot 0 { state := 2, cmd := [(16, 16), (17, 2), (18, 1), (20, 253), (21, 255), (22, 1), (26, 2)] }) with mb := { ((State.reset.put (HM_STAT.HEARTH_UP) 1).setSlot 0 { state := 2, cmd := [(16, 16), (17, 2), (18, 1), (20, 253), (21, 255), (22, 1), (26, 2)] }).mb with taken := [0] } } : State).boot with recovery := false } } : State)
def stSystemCommandsComplete8 : State := ({ ({ ((State.reset.put (HM_STAT.HEARTH_UP) 1).setSlot 0 { state := 2, cmd := [(16, 32), (17, 2), (18, 1), (20, 253), (21, 255), (22, 1), (26, 2)] }) with mb := { ((State.reset.put (HM_STAT.HEARTH_UP) 1).setSlot 0 { state := 2, cmd := [(16, 32), (17, 2), (18, 1), (20, 253), (21, 255), (22, 1), (26, 2)] }).mb with taken := [0] } } : State) with boot := { ({ ((State.reset.put (HM_STAT.HEARTH_UP) 1).setSlot 0 { state := 2, cmd := [(16, 32), (17, 2), (18, 1), (20, 253), (21, 255), (22, 1), (26, 2)] }) with mb := { ((State.reset.put (HM_STAT.HEARTH_UP) 1).setSlot 0 { state := 2, cmd := [(16, 32), (17, 2), (18, 1), (20, 253), (21, 255), (22, 1), (26, 2)] }).mb with taken := [0] } } : State).boot with recovery := false } } : State)
def stSystemCommandsComplete10 : State := ({ ({ (({ ({ (State.reset.put (HM_STAT.HEARTH_UP) 1) with pwr := { (State.reset.put (HM_STAT.HEARTH_UP) 1).pwr with supplies := true } } : State) with boot := { ({ (State.reset.put (HM_STAT.HEARTH_UP) 1) with pwr := { (State.reset.put (HM_STAT.HEARTH_UP) 1).pwr with supplies := true } } : State).boot with coreOut := false } } : State).setSlot 0 { state := 2, cmd := [(16, 34), (17, 2), (18, 1), (20, 253), (21, 255), (22, 1), (25, 7), (26, 2), (48, 83), (49, 69), (50, 84), (51, 84), (53, 1), (60, 2), (68, 253), (69, 255), (70, 1), (1832, 178), (1833, 81), (1834, 246), (1835, 5), (1836, 195), (1837, 165), (1838, 90), (1839, 60)] }) with mb := { (({ ({ (State.reset.put (HM_STAT.HEARTH_UP) 1) with pwr := { (State.reset.put (HM_STAT.HEARTH_UP) 1).pwr with supplies := true } } : State) with boot := { ({ (State.reset.put (HM_STAT.HEARTH_UP) 1) with pwr := { (State.reset.put (HM_STAT.HEARTH_UP) 1).pwr with supplies := true } } : State).boot with coreOut := false } } : State).setSlot 0 { state := 2, cmd := [(16, 34), (17, 2), (18, 1), (20, 253), (21, 255), (22, 1), (25, 7), (26, 2), (48, 83), (49, 69), (50, 84), (51, 84), (53, 1), (60, 2), (68, 253), (69, 255), (70, 1), (1832, 178), (1833, 81), (1834, 246), (1835, 5), (1836, 195), (1837, 165), (1838, 90), (1839, 60)] }).mb with taken := [0] } } : State) with boot := { ({ (({ ({ (State.reset.put (HM_STAT.HEARTH_UP) 1) with pwr := { (State.reset.put (HM_STAT.HEARTH_UP) 1).pwr with supplies := true } } : State) with boot := { ({ (State.reset.put (HM_STAT.HEARTH_UP) 1) with pwr := { (State.reset.put (HM_STAT.HEARTH_UP) 1).pwr with supplies := true } } : State).boot with coreOut := false } } : State).setSlot 0 { state := 2, cmd := [(16, 34), (17, 2), (18, 1), (20, 253), (21, 255), (22, 1), (25, 7), (26, 2), (48, 83), (49, 69), (50, 84), (51, 84), (53, 1), (60, 2), (68, 253), (69, 255), (70, 1), (1832, 178), (1833, 81), (1834, 246), (1835, 5), (1836, 195), (1837, 165), (1838, 90), (1839, 60)] }) with mb := { (({ ({ (State.reset.put (HM_STAT.HEARTH_UP) 1) with pwr := { (State.reset.put (HM_STAT.HEARTH_UP) 1).pwr with supplies := true } } : State) with boot := { ({ (State.reset.put (HM_STAT.HEARTH_UP) 1) with pwr := { (State.reset.put (HM_STAT.HEARTH_UP) 1).pwr with supplies := true } } : State).boot with coreOut := false } } : State).setSlot 0 { state := 2, cmd := [(16, 34), (17, 2), (18, 1), (20, 253), (21, 255), (22, 1), (25, 7), (26, 2), (48, 83), (49, 69), (50, 84), (51, 84), (53, 1), (60, 2), (68, 253), (69, 255), (70, 1), (1832, 178), (1833, 81), (1834, 246), (1835, 5), (1836, 195), (1837, 165), (1838, 90), (1839, 60)] }).mb with taken := [0] } } : State).boot with recovery := false } } : State)
def stSystemCommandsComplete16 : State := ({ ({ (({ ({ (State.reset.put (HM_STAT.HEARTH_UP) 1) with pwr := { (State.reset.put (HM_STAT.HEARTH_UP) 1).pwr with supplies := true } } : State) with boot := { ({ (State.reset.put (HM_STAT.HEARTH_UP) 1) with pwr := { (State.reset.put (HM_STAT.HEARTH_UP) 1).pwr with supplies := true } } : State).boot with coreOut := false } } : State).setSlot 0 { state := 2, cmd := [(16, 36), (17, 2), (18, 1), (20, 253), (21, 255), (22, 1), (26, 2)] }) with mb := { (({ ({ (State.reset.put (HM_STAT.HEARTH_UP) 1) with pwr := { (State.reset.put (HM_STAT.HEARTH_UP) 1).pwr with supplies := true } } : State) with boot := { ({ (State.reset.put (HM_STAT.HEARTH_UP) 1) with pwr := { (State.reset.put (HM_STAT.HEARTH_UP) 1).pwr with supplies := true } } : State).boot with coreOut := false } } : State).setSlot 0 { state := 2, cmd := [(16, 36), (17, 2), (18, 1), (20, 253), (21, 255), (22, 1), (26, 2)] }).mb with taken := [0] } } : State) with boot := { ({ (({ ({ (State.reset.put (HM_STAT.HEARTH_UP) 1) with pwr := { (State.reset.put (HM_STAT.HEARTH_UP) 1).pwr with supplies := true } } : State) with boot := { ({ (State.reset.put (HM_STAT.HEARTH_UP) 1) with pwr := { (State.reset.put (HM_STAT.HEARTH_UP) 1).pwr with supplies := true } } : State).boot with coreOut := false } } : State).setSlot 0 { state := 2, cmd := [(16, 36), (17, 2), (18, 1), (20, 253), (21, 255), (22, 1), (26, 2)] }) with mb := { (({ ({ (State.reset.put (HM_STAT.HEARTH_UP) 1) with pwr := { (State.reset.put (HM_STAT.HEARTH_UP) 1).pwr with supplies := true } } : State) with boot := { ({ (State.reset.put (HM_STAT.HEARTH_UP) 1) with pwr := { (State.reset.put (HM_STAT.HEARTH_UP) 1).pwr with supplies := true } } : State).boot with coreOut := false } } : State).setSlot 0 { state := 2, cmd := [(16, 36), (17, 2), (18, 1), (20, 253), (21, 255), (22, 1), (26, 2)] }).mb with taken := [0] } } : State).boot with recovery := false } } : State)
def stSystemCommandsComplete22 : State := ({ ({ ((State.reset.put (HM_STAT.HEARTH_UP) 1).setSlot 0 { state := 2, cmd := [(16, 1), (17, 9), (18, 1), (20, 253), (21, 255), (22, 1), (26, 2)] }) with mb := { ((State.reset.put (HM_STAT.HEARTH_UP) 1).setSlot 0 { state := 2, cmd := [(16, 1), (17, 9), (18, 1), (20, 253), (21, 255), (22, 1), (26, 2)] }).mb with taken := [0] } } : State) with boot := { ({ ((State.reset.put (HM_STAT.HEARTH_UP) 1).setSlot 0 { state := 2, cmd := [(16, 1), (17, 9), (18, 1), (20, 253), (21, 255), (22, 1), (26, 2)] }) with mb := { ((State.reset.put (HM_STAT.HEARTH_UP) 1).setSlot 0 { state := 2, cmd := [(16, 1), (17, 9), (18, 1), (20, 253), (21, 255), (22, 1), (26, 2)] }).mb with taken := [0] } } : State).boot with recovery := false } } : State)
def stSystemCommandsComplete23 : State := ({ ({ ((State.reset.put (HM_STAT.HEARTH_UP) 1).setSlot 0 { state := 2, cmd := [(16, 1), (17, 9), (18, 1), (20, 253), (21, 255), (22, 1), (26, 2)] }) with mb := { ((State.reset.put (HM_STAT.HEARTH_UP) 1).setSlot 0 { state := 2, cmd := [(16, 1), (17, 9), (18, 1), (20, 253), (21, 255), (22, 1), (26, 2)] }).mb with taken := [0] } } : State) with boot := { ({ ((State.reset.put (HM_STAT.HEARTH_UP) 1).setSlot 0 { state := 2, cmd := [(16, 1), (17, 9), (18, 1), (20, 253), (21, 255), (22, 1), (26, 2)] }) with mb := { ((State.reset.put (HM_STAT.HEARTH_UP) 1).setSlot 0 { state := 2, cmd := [(16, 1), (17, 9), (18, 1), (20, 253), (21, 255), (22, 1), (26, 2)] }).mb with taken := [0] } } : State).boot with recovery := false } } : State)
theorem witness_SystemCommandsComplete :
    (∃ (k : Fin 16) (s : State), s.runsNow k (inGroup 1) = true)
    ∧ (∃ (k : Fin 16) (nonce : List Byte) (s : State), s.runsNow k (inGroup 1) = true ∧ nonce.length = 32)
    ∧ (∃ (k : Fin 16) (nonce : List Byte) (s : State), s.runsNow k (inGroup 1) = true ∧ nonce.length ≠ 32)
    ∧ (∃ (k : Fin 16) (ws : List (Reg × Word)) (u : State) (c : Nat) (s : State), s.runsNow k configOp = true ∧ (ws.all (fun q => configReg q.1) = true) ∧ s.rawWrites ws = (u, c))
    ∧ (∃ (k : Fin 16) (ws : List (Reg × Word)) (s : State), s.runsNow k configOp = true ∧ (ws.all (fun q => configReg q.1) = false))
    ∧ (∃ (k : Fin 16) (rs : List Reg) (u : State) (bs : List Byte) (s : State), s.runsNow k configOp = true ∧ rs.all configReg = true ∧ rs.length ≤ 512 ∧ s.cmdReads rs = (u, bs))
    ∧ (∃ (k : Fin 16) (rs : List Reg) (s : State), s.runsNow k configOp = true ∧ (rs.all configReg = false ∨ 512 < rs.length))
    ∧ (∃ (k : Fin 16) (u : State) (bs : List Byte) (s : State), (s.runsNow k (fun o => o == 0x0220) = true) ∧ s.cmdReads [OTP_STAT] = (u, bs))
    ∧ (∃ (k : Fin 16) (g : Fin 4) (s : State), (s.runsNow k (fun o => o == 0x0221) = true) ∧ (s.slot k).arg 0 1 = g.val)
    ∧ (∃ (k : Fin 16) (bad : Option (Fin 448 × Word)) (g : Fin 4) (ws : List Word) (u : State) (s : State), (s.runsNow k (fun o => o == 0x0222) = true) ∧ (ws = (List.range 448).map (fun i => (s.slot k).word (4 * i))) ∧ s.is OTP_STAT.SETTINGS_LOCKED = false ∧ s.nextGen = some g ∧ genOk g.val ws = true ∧ settingsOk ws = true ∧ s.otpRefuses = false ∧ s.is OTP_STAT.BUSY = false ∧ u = s.programGen g ws bad)
    ∧ (∃ (k : Fin 16) (s : State), (s.runsNow k (fun o => o == 0x0222) = true) ∧ (s.is OTP_STAT.SETTINGS_LOCKED = true ∨ s.nextGen = none))
    ∧ (∃ (k : Fin 16) (j : Fin 4) (key : List Byte) (s : State), (s.runsNow k (fun o => o == 0x0223) = true) ∧ key.length = 64 ∧ s.is OTP_STAT.KEYS_LOCKED = false ∧ s.keyStatus.getLsbD (4 + j.val) = false ∧ (s.keyHash false j.val).any (· != 0) = false ∧ s.otpRefuses = false ∧ s.is OTP_STAT.BUSY = false)
    ∧ (∃ (k : Fin 16) (j : Fin 4) (key : List Byte) (s : State), (s.runsNow k (fun o => o == 0x0223) = true) ∧ key.length = 64 ∧ s.is OTP_STAT.KEYS_LOCKED = false ∧ s.keyStatus.getLsbD (4 + j.val) = false ∧ (s.keyHash false j.val).any (· != 0) = false ∧ (s.otpRefuses = true ∨ s.is OTP_STAT.BUSY = true))
    ∧ (∃ (k : Fin 16) (j : Fin 4) (key : List Byte) (s : State), (s.runsNow k (fun o => o == 0x0223) = true) ∧ key.length = 64 ∧ (s.is OTP_STAT.KEYS_LOCKED = true ∨ s.keyStatus.getLsbD (4 + j.val) = true ∨ (s.keyHash false j.val).any (· != 0) = true))
    ∧ (∃ (k : Fin 16) (key : List Byte) (s : State), (s.runsNow k (fun o => o == 0x0223) = true) ∧ key.length ≠ 64)
    ∧ (∃ (k : Fin 16) (vendor : Bool) (j : Fin 4) (signer : Fin 4) (u : State) (s : State), (s.runsNow k (fun o => o == 0x0224) = true) ∧ (vendor = false ∨ j.val < 2) ∧ ((vendor && s.keyStatus.getLsbD (revokedBit true (if j = 0 then 1 else 0))) = false) ∧ signer ≠ j ∧ s.otpRefuses = false ∧ s.is OTP_STAT.BUSY = false ∧ u = s.burnBits 0x70 (BitVec.ofNat 32 (2 ^ revokedBit vendor j)))
    ∧ (∃ (k : Fin 16) (vendor : Bool) (j : Fin 4) (s : State), (s.runsNow k (fun o => o == 0x0224) = true) ∧ (vendor = false ∨ j.val < 2) ∧ ((vendor && s.keyStatus.getLsbD (revokedBit true (if j = 0 then 1 else 0))) = false))
    ∧ (∃ (k : Fin 16) (s : State), (s.runsNow k (fun o => o == 0x0225) = true) ∧ (s.slot k).arg 4 4 = 0x5EA10C4D ∧ (s.slot k).arg 0 4 < 16 ∧ s.otpRefuses = false ∧ s.is OTP_STAT.BUSY = false)
    ∧ (∃ (k : Fin 16) (s : State), (s.runsNow k (fun o => o == 0x0225) = true) ∧ (s.slot k).arg 4 4 = 0x5EA10C4D ∧ (s.slot k).arg 0 4 < 16 ∧ (s.otpRefuses = true ∨ s.is OTP_STAT.BUSY = true))
    ∧ (∃ (k : Fin 16) (s : State), (s.runsNow k (fun o => o == 0x0225) = true) ∧ ((s.slot k).arg 4 4 ≠ 0x5EA10C4D ∨ 16 ≤ (s.slot k).arg 0 4))
    ∧ (∃ (k : Fin 16) (s : State), s.runsNow k (inGroup 9) = true ∧ s.is OTP_STAT.SEALED = true)
    ∧ (∃ (k : Fin 16) (a : A40) (u : State) (c : Nat) (bs : List Byte) (s : State), s.runsNow k (inGroup 9) = true ∧ s.is OTP_STAT.SEALED = false ∧ s.readResponse (s.fabricRead .host a.toNat) = (u, c, bs))
    ∧ (∃ (k : Fin 16) (a : A40) (v : Word) (u : State) (c : Nat) (bs : List Byte) (s : State), s.runsNow k (inGroup 9) = true ∧ s.is OTP_STAT.SEALED = false ∧ (s.writeResponse (if a.toNat % 4 = 0 then regAt 0 a.toNat else none) v (s.fabricWrite .host a.toNat v) = (u, c, bs))) :=
  ⟨⟨0, (({ ({ ((State.reset.put (HM_STAT.HEARTH_UP) 1).setSlot 0 { state := 2, cmd := [(16, 1), (17, 1), (18, 1), (20, 253), (21, 255), (22, 1), (26, 2)] }) with mb := { ((State.reset.put (HM_STAT.HEARTH_UP) 1).setSlot 0 { state := 2, cmd := [(16, 1), (17, 1), (18, 1), (20, 253), (21, 255), (22, 1), (26, 2)] }).mb with taken := [0] } } : State) with boot := { ({ ((State.reset.put (HM_STAT.HEARTH_UP) 1).setSlot 0 { state := 2, cmd := [(16, 1), (17, 1), (18, 1), (20, 253), (21, 255), (22, 1), (26, 2)] }) with mb := { ((State.reset.put (HM_STAT.HEARTH_UP) 1).setSlot 0 { state := 2, cmd := [(16, 1), (17, 1), (18, 1), (20, 253), (21, 255), (22, 1), (26, 2)] }).mb with taken := [0] } } : State).boot with recovery := false } } : State)), (by decide +kernel)⟩,
   ⟨0, (List.replicate 32 0), (({ ({ ((State.reset.put (HM_STAT.HEARTH_UP) 1).setSlot 0 { state := 2, cmd := [(16, 1), (17, 1), (18, 1), (20, 253), (21, 255), (22, 1), (26, 2)] }) with mb := { ((State.reset.put (HM_STAT.HEARTH_UP) 1).setSlot 0 { state := 2, cmd := [(16, 1), (17, 1), (18, 1), (20, 253), (21, 255), (22, 1), (26, 2)] }).mb with taken := [0] } } : State) with boot := { ({ ((State.reset.put (HM_STAT.HEARTH_UP) 1).setSlot 0 { state := 2, cmd := [(16, 1), (17, 1), (18, 1), (20, 253), (21, 255), (22, 1), (26, 2)] }) with mb := { ((State.reset.put (HM_STAT.HEARTH_UP) 1).setSlot 0 { state := 2, cmd := [(16, 1), (17, 1), (18, 1), (20, 253), (21, 255), (22, 1), (26, 2)] }).mb with taken := [0] } } : State).boot with recovery := false } } : State)), (by decide +kernel)⟩,
   ⟨0, ([]), (({ ({ ((State.reset.put (HM_STAT.HEARTH_UP) 1).setSlot 0 { state := 2, cmd := [(16, 1), (17, 1), (18, 1), (20, 253), (21, 255), (22, 1), (26, 2)] }) with mb := { ((State.reset.put (HM_STAT.HEARTH_UP) 1).setSlot 0 { state := 2, cmd := [(16, 1), (17, 1), (18, 1), (20, 253), (21, 255), (22, 1), (26, 2)] }).mb with taken := [0] } } : State) with boot := { ({ ((State.reset.put (HM_STAT.HEARTH_UP) 1).setSlot 0 { state := 2, cmd := [(16, 1), (17, 1), (18, 1), (20, 253), (21, 255), (22, 1), (26, 2)] }) with mb := { ((State.reset.put (HM_STAT.HEARTH_UP) 1).setSlot 0 { state := 2, cmd := [(16, 1), (17, 1), (18, 1), (20, 253), (21, 255), (22, 1), (26, 2)] }).mb with taken := [0] } } : State).boot with recovery := false } } : State)), (by decide +kernel)⟩,
   ⟨0, ([]), _, _, stSystemCommandsComplete4, (by decide +kernel), (by decide +kernel), pair_rfl⟩,
   ⟨0, ([(PERIOD_CNT, 0)]), (({ ({ ((State.reset.put (HM_STAT.HEARTH_UP) 1).setSlot 0 { state := 2, cmd := [(16, 16), (17, 2), (18, 1), (20, 253), (21, 255), (22, 1), (26, 2)] }) with mb := { ((State.reset.put (HM_STAT.HEARTH_UP) 1).setSlot 0 { state := 2, cmd := [(16, 16), (17, 2), (18, 1), (20, 253), (21, 255), (22, 1), (26, 2)] }).mb with taken := [0] } } : State) with boot := { ({ ((State.reset.put (HM_STAT.HEARTH_UP) 1).setSlot 0 { state := 2, cmd := [(16, 16), (17, 2), (18, 1), (20, 253), (21, 255), (22, 1), (26, 2)] }) with mb := { ((State.reset.put (HM_STAT.HEARTH_UP) 1).setSlot 0 { state := 2, cmd := [(16, 16), (17, 2), (18, 1), (20, 253), (21, 255), (22, 1), (26, 2)] }).mb with taken := [0] } } : State).boot with recovery := false } } : State)), (by decide +kernel)⟩,
   ⟨0, ([]), _, _, stSystemCommandsComplete6, (by decide +kernel), (by decide +kernel), (by decide +kernel), pair_rfl⟩,
   ⟨0, ([PERIOD_CNT]), (({ ({ ((State.reset.put (HM_STAT.HEARTH_UP) 1).setSlot 0 { state := 2, cmd := [(16, 16), (17, 2), (18, 1), (20, 253), (21, 255), (22, 1), (26, 2)] }) with mb := { ((State.reset.put (HM_STAT.HEARTH_UP) 1).setSlot 0 { state := 2, cmd := [(16, 16), (17, 2), (18, 1), (20, 253), (21, 255), (22, 1), (26, 2)] }).mb with taken := [0] } } : State) with boot := { ({ ((State.reset.put (HM_STAT.HEARTH_UP) 1).setSlot 0 { state := 2, cmd := [(16, 16), (17, 2), (18, 1), (20, 253), (21, 255), (22, 1), (26, 2)] }) with mb := { ((State.reset.put (HM_STAT.HEARTH_UP) 1).setSlot 0 { state := 2, cmd := [(16, 16), (17, 2), (18, 1), (20, 253), (21, 255), (22, 1), (26, 2)] }).mb with taken := [0] } } : State).boot with recovery := false } } : State)), (by decide +kernel)⟩,
   ⟨0, _, _, stSystemCommandsComplete8, (by decide +kernel), pair_rfl⟩,
   ⟨0, 0, (({ ({ ((State.reset.put (HM_STAT.HEARTH_UP) 1).setSlot 0 { state := 2, cmd := [(16, 33), (17, 2), (18, 1), (20, 253), (21, 255), (22, 1), (24, 1), (26, 2)] }) with mb := { ((State.reset.put (HM_STAT.HEARTH_UP) 1).setSlot 0 { state := 2, cmd := [(16, 33), (17, 2), (18, 1), (20, 253), (21, 255), (22, 1), (24, 1), (26, 2)] }).mb with taken := [0] } } : State) with boot := { ({ ((State.reset.put (HM_STAT.HEARTH_UP) 1).setSlot 0 { state := 2, cmd := [(16, 33), (17, 2), (18, 1), (20, 253), (21, 255), (22, 1), (24, 1), (26, 2)] }) with mb := { ((State.reset.put (HM_STAT.HEARTH_UP) 1).setSlot 0 { state := 2, cmd := [(16, 33), (17, 2), (18, 1), (20, 253), (21, 255), (22, 1), (24, 1), (26, 2)] }).mb with taken := [0] } } : State).boot with recovery := false } } : State)), (by decide +kernel)⟩,
   ⟨0, none, 0, ((List.range 448).map (fun i => (stSystemCommandsComplete10.slot 0).word (4 * i))), _, stSystemCommandsComplete10, (by decide +kernel), (by decide +kernel), (by decide +kernel), (by decide +kernel), (by decide +kernel), (by decide +kernel), (by decide +kernel), (by decide +kernel), rfl⟩,
   ⟨0, (({ ({ (((State.reset.put (HM_STAT.HEARTH_UP) 1).put (OTP_STAT.SETTINGS_LOCKED) 1).setSlot 0 { state := 2, cmd := [(16, 34), (17, 2), (18, 1), (20, 253), (21, 255), (22, 1), (24, 4), (26, 2)] }) with mb := { (((State.reset.put (HM_STAT.HEARTH_UP) 1).put (OTP_STAT.SETTINGS_LOCKED) 1).setSlot 0 { state := 2, cmd := [(16, 34), (17, 2), (18, 1), (20, 253), (21, 255), (22, 1), (24, 4), (26, 2)] }).mb with taken := [0] } } : State) with boot := { ({ (((State.reset.put (HM_STAT.HEARTH_UP) 1).put (OTP_STAT.SETTINGS_LOCKED) 1).setSlot 0 { state := 2, cmd := [(16, 34), (17, 2), (18, 1), (20, 253), (21, 255), (22, 1), (24, 4), (26, 2)] }) with mb := { (((State.reset.put (HM_STAT.HEARTH_UP) 1).put (OTP_STAT.SETTINGS_LOCKED) 1).setSlot 0 { state := 2, cmd := [(16, 34), (17, 2), (18, 1), (20, 253), (21, 255), (22, 1), (24, 4), (26, 2)] }).mb with taken := [0] } } : State).boot with recovery := false } } : State)), (by decide +kernel)⟩,
   ⟨0, 0, (List.replicate 64 1), (({ ({ (({ ({ (State.reset.put (HM_STAT.HEARTH_UP) 1) with pwr := { (State.reset.put (HM_STAT.HEARTH_UP) 1).pwr with supplies := true } } : State) with boot := { ({ (State.reset.put (HM_STAT.HEARTH_UP) 1) with pwr := { (State.reset.put (HM_STAT.HEARTH_UP) 1).pwr with supplies := true } } : State).boot with coreOut := false } } : State).setSlot 0 { state := 2, cmd := [(16, 35), (17, 2), (18, 1), (20, 253), (21, 255), (22, 1), (26, 2)] }) with mb := { (({ ({ (State.reset.put (HM_STAT.HEARTH_UP) 1) with pwr := { (State.reset.put (HM_STAT.HEARTH_UP) 1).pwr with supplies := true } } : State) with boot := { ({ (State.reset.put (HM_STAT.HEARTH_UP) 1) with pwr := { (State.reset.put (HM_STAT.HEARTH_UP) 1).pwr with supplies := true } } : State).boot with coreOut := false } } : State).setSlot 0 { state := 2, cmd := [(16, 35), (17, 2), (18, 1), (20, 253), (21, 255), (22, 1), (26, 2)] }).mb with taken := [0] } } : State) with boot := { ({ (({ ({ (State.reset.put (HM_STAT.HEARTH_UP) 1) with pwr := { (State.reset.put (HM_STAT.HEARTH_UP) 1).pwr with supplies := true } } : State) with boot := { ({ (State.reset.put (HM_STAT.HEARTH_UP) 1) with pwr := { (State.reset.put (HM_STAT.HEARTH_UP) 1).pwr with supplies := true } } : State).boot with coreOut := false } } : State).setSlot 0 { state := 2, cmd := [(16, 35), (17, 2), (18, 1), (20, 253), (21, 255), (22, 1), (26, 2)] }) with mb := { (({ ({ (State.reset.put (HM_STAT.HEARTH_UP) 1) with pwr := { (State.reset.put (HM_STAT.HEARTH_UP) 1).pwr with supplies := true } } : State) with boot := { ({ (State.reset.put (HM_STAT.HEARTH_UP) 1) with pwr := { (State.reset.put (HM_STAT.HEARTH_UP) 1).pwr with supplies := true } } : State).boot with coreOut := false } } : State).setSlot 0 { state := 2, cmd := [(16, 35), (17, 2), (18, 1), (20, 253), (21, 255), (22, 1), (26, 2)] }).mb with taken := [0] } } : State).boot with recovery := false } } : State)), (by decide +kernel)⟩,
   ⟨0, 0, (List.replicate 64 1), (({ ({ ((({ ({ (State.reset.put (HM_STAT.HEARTH_UP) 1) with pwr := { (State.reset.put (HM_STAT.HEARTH_UP) 1).pwr with supplies := true } } : State) with boot := { ({ (State.reset.put (HM_STAT.HEARTH_UP) 1) with pwr := { (State.reset.put (HM_STAT.HEARTH_UP) 1).pwr with supplies := true } } : State).boot with coreOut := false } } : State).put (OTP_STAT.BUSY) 1).setSlot 0 { state := 2, cmd := [(16, 35), (17, 2), (18, 1), (20, 253), (21, 255), (22, 1), (26, 2)] }) with mb := { ((({ ({ (State.reset.put (HM_STAT.HEARTH_UP) 1) with pwr := { (State.reset.put (HM_STAT.HEARTH_UP) 1).pwr with supplies := true } } : State) with boot := { ({ (State.reset.put (HM_STAT.HEARTH_UP) 1) with pwr := { (State.reset.put (HM_STAT.HEARTH_UP) 1).pwr with supplies := true } } : State).boot with coreOut := false } } : State).put (OTP_STAT.BUSY) 1).setSlot 0 { state := 2, cmd := [(16, 35), (17, 2), (18, 1), (20, 253), (21, 255), (22, 1), (26, 2)] }).mb with taken := [0] } } : State) with boot := { ({ ((({ ({ (State.reset.put (HM_STAT.HEARTH_UP) 1) with pwr := { (State.reset.put (HM_STAT.HEARTH_UP) 1).pwr with supplies := true } } : State) with boot := { ({ (State.reset.put (HM_STAT.HEARTH_UP) 1) with pwr := { (State.reset.put (HM_STAT.HEARTH_UP) 1).pwr with supplies := true } } : State).boot with coreOut := false } } : State).put (OTP_STAT.BUSY) 1).setSlot 0 { state := 2, cmd := [(16, 35), (17, 2), (18, 1), (20, 253), (21, 255), (22, 1), (26, 2)] }) with mb := { ((({ ({ (State.reset.put (HM_STAT.HEARTH_UP) 1) with pwr := { (State.reset.put (HM_STAT.HEARTH_UP) 1).pwr with supplies := true } } : State) with boot := { ({ (State.reset.put (HM_STAT.HEARTH_UP) 1) with pwr := { (State.reset.put (HM_STAT.HEARTH_UP) 1).pwr with supplies := true } } : State).boot with coreOut := false } } : State).put (OTP_STAT.BUSY) 1).setSlot 0 { state := 2, cmd := [(16, 35), (17, 2), (18, 1), (20, 253), (21, 255), (22, 1), (26, 2)] }).mb with taken := [0] } } : State).boot with recovery := false } } : State)), (by decide +kernel)⟩,
   ⟨0, 0, (List.replicate 64 1), (({ ({ ((({ ({ (State.reset.put (HM_STAT.HEARTH_UP) 1) with pwr := { (State.reset.put (HM_STAT.HEARTH_UP) 1).pwr with supplies := true } } : State) with boot := { ({ (State.reset.put (HM_STAT.HEARTH_UP) 1) with pwr := { (State.reset.put (HM_STAT.HEARTH_UP) 1).pwr with supplies := true } } : State).boot with coreOut := false } } : State).put (OTP_STAT.KEYS_LOCKED) 1).setSlot 0 { state := 2, cmd := [(16, 35), (17, 2), (18, 1), (20, 253), (21, 255), (22, 1), (26, 2)] }) with mb := { ((({ ({ (State.reset.put (HM_STAT.HEARTH_UP) 1) with pwr := { (State.reset.put (HM_STAT.HEARTH_UP) 1).pwr with supplies := true } } : State) with boot := { ({ (State.reset.put (HM_STAT.HEARTH_UP) 1) with pwr := { (State.reset.put (HM_STAT.HEARTH_UP) 1).pwr with supplies := true } } : State).boot with coreOut := false } } : State).put (OTP_STAT.KEYS_LOCKED) 1).setSlot 0 { state := 2, cmd := [(16, 35), (17, 2), (18, 1), (20, 253), (21, 255), (22, 1), (26, 2)] }).mb with taken := [0] } } : State) with boot := { ({ ((({ ({ (State.reset.put (HM_STAT.HEARTH_UP) 1) with pwr := { (State.reset.put (HM_STAT.HEARTH_UP) 1).pwr with supplies := true } } : State) with boot := { ({ (State.reset.put (HM_STAT.HEARTH_UP) 1) with pwr := { (State.reset.put (HM_STAT.HEARTH_UP) 1).pwr with supplies := true } } : State).boot with coreOut := false } } : State).put (OTP_STAT.KEYS_LOCKED) 1).setSlot 0 { state := 2, cmd := [(16, 35), (17, 2), (18, 1), (20, 253), (21, 255), (22, 1), (26, 2)] }) with mb := { ((({ ({ (State.reset.put (HM_STAT.HEARTH_UP) 1) with pwr := { (State.reset.put (HM_STAT.HEARTH_UP) 1).pwr with supplies := true } } : State) with boot := { ({ (State.reset.put (HM_STAT.HEARTH_UP) 1) with pwr := { (State.reset.put (HM_STAT.HEARTH_UP) 1).pwr with supplies := true } } : State).boot with coreOut := false } } : State).put (OTP_STAT.KEYS_LOCKED) 1).setSlot 0 { state := 2, cmd := [(16, 35), (17, 2), (18, 1), (20, 253), (21, 255), (22, 1), (26, 2)] }).mb with taken := [0] } } : State).boot with recovery := false } } : State)), (by decide +kernel)⟩,
   ⟨0, ([]), (({ ({ ((State.reset.put (HM_STAT.HEARTH_UP) 1).setSlot 0 { state := 2, cmd := [(16, 35), (17, 2), (18, 1), (20, 253), (21, 255), (22, 1), (26, 2)] }) with mb := { ((State.reset.put (HM_STAT.HEARTH_UP) 1).setSlot 0 { state := 2, cmd := [(16, 35), (17, 2), (18, 1), (20, 253), (21, 255), (22, 1), (26, 2)] }).mb with taken := [0] } } : State) with boot := { ({ ((State.reset.put (HM_STAT.HEARTH_UP) 1).setSlot 0 { state := 2, cmd := [(16, 35), (17, 2), (18, 1), (20, 253), (21, 255), (22, 1), (26, 2)] }) with mb := { ((State.reset.put (HM_STAT.HEARTH_UP) 1).setSlot 0 { state := 2, cmd := [(16, 35), (17, 2), (18, 1), (20, 253), (21, 255), (22, 1), (26, 2)] }).mb with taken := [0] } } : State).boot with recovery := false } } : State)), (by decide +kernel)⟩,
   ⟨0, false, 0, 1, _, stSystemCommandsComplete16, (by decide +kernel), (by decide +kernel), (by decide +kernel), (by decide +kernel), (by decide +kernel), (by decide +kernel), rfl⟩,
   ⟨0, false, 0, (({ ({ (({ ({ (State.reset.put (HM_STAT.HEARTH_UP) 1) with pwr := { (State.reset.put (HM_STAT.HEARTH_UP) 1).pwr with supplies := true } } : State) with boot := { ({ (State.reset.put (HM_STAT.HEARTH_UP) 1) with pwr := { (State.reset.put (HM_STAT.HEARTH_UP) 1).pwr with supplies := true } } : State).boot with coreOut := false } } : State).setSlot 0 { state := 2, cmd := [(16, 36), (17, 2), (18, 1), (20, 253), (21, 255), (22, 1), (26, 2)] }) with mb := { (({ ({ (State.reset.put (HM_STAT.HEARTH_UP) 1) with pwr := { (State.reset.put (HM_STAT.HEARTH_UP) 1).pwr with supplies := true } } : State) with boot := { ({ (State.reset.put (HM_STAT.HEARTH_UP) 1) with pwr := { (State.reset.put (HM_STAT.HEARTH_UP) 1).pwr with supplies := true } } : State).boot with coreOut := false } } : State).setSlot 0 { state := 2, cmd := [(16, 36), (17, 2), (18, 1), (20, 253), (21, 255), (22, 1), (26, 2)] }).mb with taken := [0] } } : State) with boot := { ({ (({ ({ (State.reset.put (HM_STAT.HEARTH_UP) 1) with pwr := { (State.reset.put (HM_STAT.HEARTH_UP) 1).pwr with supplies := true } } : State) with boot := { ({ (State.reset.put (HM_STAT.HEARTH_UP) 1) with pwr := { (State.reset.put (HM_STAT.HEARTH_UP) 1).pwr with supplies := true } } : State).boot with coreOut := false } } : State).setSlot 0 { state := 2, cmd := [(16, 36), (17, 2), (18, 1), (20, 253), (21, 255), (22, 1), (26, 2)] }) with mb := { (({ ({ (State.reset.put (HM_STAT.HEARTH_UP) 1) with pwr := { (State.reset.put (HM_STAT.HEARTH_UP) 1).pwr with supplies := true } } : State) with boot := { ({ (State.reset.put (HM_STAT.HEARTH_UP) 1) with pwr := { (State.reset.put (HM_STAT.HEARTH_UP) 1).pwr with supplies := true } } : State).boot with coreOut := false } } : State).setSlot 0 { state := 2, cmd := [(16, 36), (17, 2), (18, 1), (20, 253), (21, 255), (22, 1), (26, 2)] }).mb with taken := [0] } } : State).boot with recovery := false } } : State)), (by decide +kernel)⟩,
   ⟨0, (({ ({ (({ ({ (State.reset.put (HM_STAT.HEARTH_UP) 1) with pwr := { (State.reset.put (HM_STAT.HEARTH_UP) 1).pwr with supplies := true } } : State) with boot := { ({ (State.reset.put (HM_STAT.HEARTH_UP) 1) with pwr := { (State.reset.put (HM_STAT.HEARTH_UP) 1).pwr with supplies := true } } : State).boot with coreOut := false } } : State).setSlot 0 { state := 2, cmd := [(16, 37), (17, 2), (18, 1), (20, 253), (21, 255), (22, 1), (24, 8), (26, 2), (48, 1), (52, 77), (53, 12), (54, 161), (55, 94)] }) with mb := { (({ ({ (State.reset.put (HM_STAT.HEARTH_UP) 1) with pwr := { (State.reset.put (HM_STAT.HEARTH_UP) 1).pwr with supplies := true } } : State) with boot := { ({ (State.reset.put (HM_STAT.HEARTH_UP) 1) with pwr := { (State.reset.put (HM_STAT.HEARTH_UP) 1).pwr with supplies := true } } : State).boot with coreOut := false } } : State).setSlot 0 { state := 2, cmd := [(16, 37), (17, 2), (18, 1), (20, 253), (21, 255), (22, 1), (24, 8), (26, 2), (48, 1), (52, 77), (53, 12), (54, 161), (55, 94)] }).mb with taken := [0] } } : State) with boot := { ({ (({ ({ (State.reset.put (HM_STAT.HEARTH_UP) 1) with pwr := { (State.reset.put (HM_STAT.HEARTH_UP) 1).pwr with supplies := true } } : State) with boot := { ({ (State.reset.put (HM_STAT.HEARTH_UP) 1) with pwr := { (State.reset.put (HM_STAT.HEARTH_UP) 1).pwr with supplies := true } } : State).boot with coreOut := false } } : State).setSlot 0 { state := 2, cmd := [(16, 37), (17, 2), (18, 1), (20, 253), (21, 255), (22, 1), (24, 8), (26, 2), (48, 1), (52, 77), (53, 12), (54, 161), (55, 94)] }) with mb := { (({ ({ (State.reset.put (HM_STAT.HEARTH_UP) 1) with pwr := { (State.reset.put (HM_STAT.HEARTH_UP) 1).pwr with supplies := true } } : State) with boot := { ({ (State.reset.put (HM_STAT.HEARTH_UP) 1) with pwr := { (State.reset.put (HM_STAT.HEARTH_UP) 1).pwr with supplies := true } } : State).boot with coreOut := false } } : State).setSlot 0 { state := 2, cmd := [(16, 37), (17, 2), (18, 1), (20, 253), (21, 255), (22, 1), (24, 8), (26, 2), (48, 1), (52, 77), (53, 12), (54, 161), (55, 94)] }).mb with taken := [0] } } : State).boot with recovery := false } } : State)), (by decide +kernel)⟩,
   ⟨0, (({ ({ ((({ ({ (State.reset.put (HM_STAT.HEARTH_UP) 1) with pwr := { (State.reset.put (HM_STAT.HEARTH_UP) 1).pwr with supplies := true } } : State) with boot := { ({ (State.reset.put (HM_STAT.HEARTH_UP) 1) with pwr := { (State.reset.put (HM_STAT.HEARTH_UP) 1).pwr with supplies := true } } : State).boot with coreOut := false } } : State).put (OTP_STAT.BUSY) 1).setSlot 0 { state := 2, cmd := [(16, 37), (17, 2), (18, 1), (20, 253), (21, 255), (22, 1), (24, 8), (26, 2), (48, 1), (52, 77), (53, 12), (54, 161), (55, 94)] }) with mb := { ((({ ({ (State.reset.put (HM_STAT.HEARTH_UP) 1) with pwr := { (State.reset.put (HM_STAT.HEARTH_UP) 1).pwr with supplies := true } } : State) with boot := { ({ (State.reset.put (HM_STAT.HEARTH_UP) 1) with pwr := { (State.reset.put (HM_STAT.HEARTH_UP) 1).pwr with supplies := true } } : State).boot with coreOut := false } } : State).put (OTP_STAT.BUSY) 1).setSlot 0 { state := 2, cmd := [(16, 37), (17, 2), (18, 1), (20, 253), (21, 255), (22, 1), (24, 8), (26, 2), (48, 1), (52, 77), (53, 12), (54, 161), (55, 94)] }).mb with taken := [0] } } : State) with boot := { ({ ((({ ({ (State.reset.put (HM_STAT.HEARTH_UP) 1) with pwr := { (State.reset.put (HM_STAT.HEARTH_UP) 1).pwr with supplies := true } } : State) with boot := { ({ (State.reset.put (HM_STAT.HEARTH_UP) 1) with pwr := { (State.reset.put (HM_STAT.HEARTH_UP) 1).pwr with supplies := true } } : State).boot with coreOut := false } } : State).put (OTP_STAT.BUSY) 1).setSlot 0 { state := 2, cmd := [(16, 37), (17, 2), (18, 1), (20, 253), (21, 255), (22, 1), (24, 8), (26, 2), (48, 1), (52, 77), (53, 12), (54, 161), (55, 94)] }) with mb := { ((({ ({ (State.reset.put (HM_STAT.HEARTH_UP) 1) with pwr := { (State.reset.put (HM_STAT.HEARTH_UP) 1).pwr with supplies := true } } : State) with boot := { ({ (State.reset.put (HM_STAT.HEARTH_UP) 1) with pwr := { (State.reset.put (HM_STAT.HEARTH_UP) 1).pwr with supplies := true } } : State).boot with coreOut := false } } : State).put (OTP_STAT.BUSY) 1).setSlot 0 { state := 2, cmd := [(16, 37), (17, 2), (18, 1), (20, 253), (21, 255), (22, 1), (24, 8), (26, 2), (48, 1), (52, 77), (53, 12), (54, 161), (55, 94)] }).mb with taken := [0] } } : State).boot with recovery := false } } : State)), (by decide +kernel)⟩,
   ⟨0, (({ ({ ((State.reset.put (HM_STAT.HEARTH_UP) 1).setSlot 0 { state := 2, cmd := [(16, 37), (17, 2), (18, 1), (20, 253), (21, 255), (22, 1), (24, 8), (26, 2), (48, 1)] }) with mb := { ((State.reset.put (HM_STAT.HEARTH_UP) 1).setSlot 0 { state := 2, cmd := [(16, 37), (17, 2), (18, 1), (20, 253), (21, 255), (22, 1), (24, 8), (26, 2), (48, 1)] }).mb with taken := [0] } } : State) with boot := { ({ ((State.reset.put (HM_STAT.HEARTH_UP) 1).setSlot 0 { state := 2, cmd := [(16, 37), (17, 2), (18, 1), (20, 253), (21, 255), (22, 1), (24, 8), (26, 2), (48, 1)] }) with mb := { ((State.reset.put (HM_STAT.HEARTH_UP) 1).setSlot 0 { state := 2, cmd := [(16, 37), (17, 2), (18, 1), (20, 253), (21, 255), (22, 1), (24, 8), (26, 2), (48, 1)] }).mb with taken := [0] } } : State).boot with recovery := false } } : State)), (by decide +kernel)⟩,
   ⟨0, (({ ({ (((State.reset.put (HM_STAT.HEARTH_UP) 1).put (OTP_STAT.SEALED) 1).setSlot 0 { state := 2, cmd := [(16, 1), (17, 9), (18, 1), (20, 253), (21, 255), (22, 1), (26, 2)] }) with mb := { (((State.reset.put (HM_STAT.HEARTH_UP) 1).put (OTP_STAT.SEALED) 1).setSlot 0 { state := 2, cmd := [(16, 1), (17, 9), (18, 1), (20, 253), (21, 255), (22, 1), (26, 2)] }).mb with taken := [0] } } : State) with boot := { ({ (((State.reset.put (HM_STAT.HEARTH_UP) 1).put (OTP_STAT.SEALED) 1).setSlot 0 { state := 2, cmd := [(16, 1), (17, 9), (18, 1), (20, 253), (21, 255), (22, 1), (26, 2)] }) with mb := { (((State.reset.put (HM_STAT.HEARTH_UP) 1).put (OTP_STAT.SEALED) 1).setSlot 0 { state := 2, cmd := [(16, 1), (17, 9), (18, 1), (20, 253), (21, 255), (22, 1), (26, 2)] }).mb with taken := [0] } } : State).boot with recovery := false } } : State)), (by decide +kernel)⟩,
   ⟨0, 0, _, _, _, stSystemCommandsComplete22, (by decide +kernel), (by decide +kernel), triple_rfl⟩,
   ⟨0, 0, 0, _, _, _, stSystemCommandsComplete23, (by decide +kernel), (by decide +kernel), triple_rfl⟩⟩

def stBlockCommandsComplete3 : State := ({ ({ ((State.reset.put (HM_STAT.HEARTH_UP) 1).setSlot 0 { state := 2, cmd := [(16, 1), (17, 8), (18, 1), (20, 253), (21, 255), (22, 1), (26, 2)] }) with mb := { ((State.reset.put (HM_STAT.HEARTH_UP) 1).setSlot 0 { state := 2, cmd := [(16, 1), (17, 8), (18, 1), (20, 253), (21, 255), (22, 1), (26, 2)] }).mb with taken := [0] } } : State) with boot := { ({ ((State.reset.put (HM_STAT.HEARTH_UP) 1).setSlot 0 { state := 2, cmd := [(16, 1), (17, 8), (18, 1), (20, 253), (21, 255), (22, 1), (26, 2)] }) with mb := { ((State.reset.put (HM_STAT.HEARTH_UP) 1).setSlot 0 { state := 2, cmd := [(16, 1), (17, 8), (18, 1), (20, 253), (21, 255), (22, 1), (26, 2)] }).mb with taken := [0] } } : State).boot with recovery := false } } : State)
def stBlockCommandsComplete7 : State := ({ ({ ((State.reset.put (HM_STAT.HEARTH_UP) 1).setSlot 0 { state := 2, cmd := [(16, 1), (17, 8), (18, 1), (20, 253), (21, 255), (22, 1), (26, 2)] }) with mb := { ((State.reset.put (HM_STAT.HEARTH_UP) 1).setSlot 0 { state := 2, cmd := [(16, 1), (17, 8), (18, 1), (20, 253), (21, 255), (22, 1), (26, 2)] }).mb with taken := [0] } } : State) with boot := { ({ ((State.reset.put (HM_STAT.HEARTH_UP) 1).setSlot 0 { state := 2, cmd := [(16, 1), (17, 8), (18, 1), (20, 253), (21, 255), (22, 1), (26, 2)] }) with mb := { ((State.reset.put (HM_STAT.HEARTH_UP) 1).setSlot 0 { state := 2, cmd := [(16, 1), (17, 8), (18, 1), (20, 253), (21, 255), (22, 1), (26, 2)] }).mb with taken := [0] } } : State).boot with recovery := false } } : State)
def stBlockCommandsComplete8 : State := ({ ({ ((State.reset.put (HM_STAT.HEARTH_UP) 1).setSlot 0 { state := 2, cmd := [(16, 1), (17, 8), (18, 1), (20, 253), (21, 255), (22, 1), (26, 2)] }) with mb := { ((State.reset.put (HM_STAT.HEARTH_UP) 1).setSlot 0 { state := 2, cmd := [(16, 1), (17, 8), (18, 1), (20, 253), (21, 255), (22, 1), (26, 2)] }).mb with taken := [0] } } : State) with boot := { ({ ((State.reset.put (HM_STAT.HEARTH_UP) 1).setSlot 0 { state := 2, cmd := [(16, 1), (17, 8), (18, 1), (20, 253), (21, 255), (22, 1), (26, 2)] }) with mb := { ((State.reset.put (HM_STAT.HEARTH_UP) 1).setSlot 0 { state := 2, cmd := [(16, 1), (17, 8), (18, 1), (20, 253), (21, 255), (22, 1), (26, 2)] }).mb with taken := [0] } } : State).boot with recovery := false } } : State)
def stBlockCommandsComplete10 : State := ({ ({ ((State.reset.put (HM_STAT.HEARTH_UP) 1).setSlot 0 { state := 2, cmd := [(16, 1), (17, 8), (18, 1), (20, 253), (21, 255), (22, 1), (26, 2)] }) with mb := { ((State.reset.put (HM_STAT.HEARTH_UP) 1).setSlot 0 { state := 2, cmd := [(16, 1), (17, 8), (18, 1), (20, 253), (21, 255), (22, 1), (26, 2)] }).mb with taken := [0] } } : State) with boot := { ({ ((State.reset.put (HM_STAT.HEARTH_UP) 1).setSlot 0 { state := 2, cmd := [(16, 1), (17, 8), (18, 1), (20, 253), (21, 255), (22, 1), (26, 2)] }) with mb := { ((State.reset.put (HM_STAT.HEARTH_UP) 1).setSlot 0 { state := 2, cmd := [(16, 1), (17, 8), (18, 1), (20, 253), (21, 255), (22, 1), (26, 2)] }).mb with taken := [0] } } : State).boot with recovery := false } } : State)
def stBlockCommandsComplete11 : State := ({ ({ ((State.reset.put (HM_STAT.HEARTH_UP) 1).setSlot 0 { state := 2, cmd := [(16, 1), (17, 10), (18, 1), (20, 253), (21, 255), (22, 1), (26, 2)] }) with mb := { ((State.reset.put (HM_STAT.HEARTH_UP) 1).setSlot 0 { state := 2, cmd := [(16, 1), (17, 10), (18, 1), (20, 253), (21, 255), (22, 1), (26, 2)] }).mb with taken := [0] } } : State) with boot := { ({ ((State.reset.put (HM_STAT.HEARTH_UP) 1).setSlot 0 { state := 2, cmd := [(16, 1), (17, 10), (18, 1), (20, 253), (21, 255), (22, 1), (26, 2)] }) with mb := { ((State.reset.put (HM_STAT.HEARTH_UP) 1).setSlot 0 { state := 2, cmd := [(16, 1), (17, 10), (18, 1), (20, 253), (21, 255), (22, 1), (26, 2)] }).mb with taken := [0] } } : State).boot with recovery := false } } : State)
def stBlockCommandsComplete13 : State := ({ ({ ((State.reset.put (HM_STAT.HEARTH_UP) 1).setSlot 0 { state := 2, cmd := [(16, 1), (17, 10), (18, 1), (20, 253), (21, 255), (22, 1), (26, 2)] }) with mb := { ((State.reset.put (HM_STAT.HEARTH_UP) 1).setSlot 0 { state := 2, cmd := [(16, 1), (17, 10), (18, 1), (20, 253), (21, 255), (22, 1), (26, 2)] }).mb with taken := [0] } } : State) with boot := { ({ ((State.reset.put (HM_STAT.HEARTH_UP) 1).setSlot 0 { state := 2, cmd := [(16, 1), (17, 10), (18, 1), (20, 253), (21, 255), (22, 1), (26, 2)] }) with mb := { ((State.reset.put (HM_STAT.HEARTH_UP) 1).setSlot 0 { state := 2, cmd := [(16, 1), (17, 10), (18, 1), (20, 253), (21, 255), (22, 1), (26, 2)] }).mb with taken := [0] } } : State).boot with recovery := false } } : State)
def stBlockCommandsComplete14 : State := ({ ({ ((State.reset.put (HM_STAT.HEARTH_UP) 1).setSlot 0 { state := 2, cmd := [(16, 1), (17, 10), (18, 1), (20, 253), (21, 255), (22, 1), (26, 2)] }) with mb := { ((State.reset.put (HM_STAT.HEARTH_UP) 1).setSlot 0 { state := 2, cmd := [(16, 1), (17, 10), (18, 1), (20, 253), (21, 255), (22, 1), (26, 2)] }).mb with taken := [0] } } : State) with boot := { ({ ((State.reset.put (HM_STAT.HEARTH_UP) 1).setSlot 0 { state := 2, cmd := [(16, 1), (17, 10), (18, 1), (20, 253), (21, 255), (22, 1), (26, 2)] }) with mb := { ((State.reset.put (HM_STAT.HEARTH_UP) 1).setSlot 0 { state := 2, cmd := [(16, 1), (17, 10), (18, 1), (20, 253), (21, 255), (22, 1), (26, 2)] }).mb with taken := [0] } } : State).boot with recovery := false } } : State)
theorem witness_BlockCommandsComplete :
    (∃ (k : Fin 16) (op : Fin 6) (s : State), s.runsNow k (inGroup 8) = true ∧ (2 ≤ op.val ∧ op.val ≠ 3) ∧ s.is STK_STAT.DESC_BUSY = false)
    ∧ (∃ (k : Fin 16) (s : State), s.runsNow k (inGroup 8) = true ∧ s.is STK_STAT.DESC_BUSY = false)
    ∧ (∃ (k : Fin 16) (n : Fin 4096) (u : State) (s : State), s.runsNow k (inGroup 8) = true ∧ s.is STK_STAT.DESC_BUSY = false ∧ u = s.busWrite .host STK_DESC_CMD (BitVec.ofNat 32 (n.val + 3 * 2 ^ 12)))
    ∧ (∃ (k : Fin 16) (op : Fin 6) (s : State), s.runsNow k (inGroup 8) = true ∧ op ≠ 0 ∧ s.is STK_STAT.DESC_BUSY = true)
    ∧ (∃ (k : Fin 16) (s : State), s.runsNow k (inGroup 8) = true)
    ∧ (∃ (k : Fin 16) (s : State), s.runsNow k (inGroup 8) = true ∧ s.is STK_STAT.BUF_BUSY = false)
    ∧ (∃ (k : Fin 16) (h : Fin 8192) (u : State) (s : State), s.runsNow k (inGroup 8) = true ∧ s.is STK_STAT.BUF_BUSY = false ∧ u = s.busWrite .host STK_BUF_CMD (BitVec.ofNat 32 (h.val + 3 * 2 ^ 13)))
    ∧ (∃ (k : Fin 16) (h : Fin 8192) (d : List Word) (u : State) (s : State), s.runsNow k (inGroup 8) = true ∧ s.is STK_STAT.BUF_BUSY = false ∧ (u = ((finList 4).foldl (fun (s : State) i => s.wr (STK_BUF_STAGE i) (d.getD i.val 0)) s).busWrite .host STK_BUF_CMD (BitVec.ofNat 32 (h.val + 1 * 2 ^ 13))))
    ∧ (∃ (k : Fin 16) (op : Fin 4) (s : State), s.runsNow k (inGroup 8) = true ∧ op ≠ 0 ∧ s.is STK_STAT.BUF_BUSY = true)
    ∧ (∃ (k : Fin 16) (rebal : Bool) (freeze : Bool) (u : State) (c : Nat) (s : State), s.runsNow k (inGroup 8) = true ∧ (s.cmdWrite STK_CTRL (BitVec.ofNat 32 ((s.rd STK_CTRL).toNat % 2 + (if rebal then 2 else 0) + (if freeze then 4 else 0))) = (u, c)))
    ∧ (∃ (k : Fin 16) (o : Nat) (bs : List Byte) (u : State) (refused : Bool) (s : State), s.runsNow k (inGroup 10) = true ∧ o + bs.length ≤ 0x8000 ∧ (s.watch [CH_STAT.CFG_REFUSED] (fun v => v.schedWrite o bs) = (u, refused)))
    ∧ (∃ (k : Fin 16) (o : Nat) (bs : List Byte) (s : State), s.runsNow k (inGroup 10) = true ∧ 0x8000 < o + bs.length)
    ∧ (∃ (k : Fin 16) (v : Word) (u : State) (c : Nat) (s : State), s.runsNow k (inGroup 10) = true ∧ s.cmdWrite CH_CTRL v = (u, c))
    ∧ (∃ (k : Fin 16) (x : Fin 2) (v : Word) (u : State) (c : Nat) (s : State), s.runsNow k (inGroup 10) = true ∧ s.is (CP_CTRL.EN x) = false ∧ s.cmdWrite (CP_MAP x) v = (u, c))
    ∧ (∃ (k : Fin 16) (x : Fin 2) (s : State), s.runsNow k (inGroup 10) = true ∧ s.is (CP_CTRL.EN x) = true)
    ∧ (∃ (k : Fin 16) (n : Fin 4096) (s : State), s.runsNow k (inGroup 11) = true ∧ (s.taskRec n).kind = 4 ∧ s.releasable n = true ∧ s.is STK_CTRL.EN = true)
    ∧ (∃ (k : Fin 16) (n : Fin 4096) (s : State), s.runsNow k (inGroup 11) = true ∧ (s.taskRec n).kind = 4 ∧ (s.releasable n = false ∨ s.is STK_CTRL.EN = false))
    ∧ (∃ (k : Fin 16) (n : Fin 4096) (s : State), s.runsNow k (inGroup 11) = true ∧ (s.taskRec n).kind ≠ 4)
    ∧ (∃ (k : Fin 16) (c : Fin 16) (o : Nat) (n : Nat) (r : KResult) (s : State), s.runsNow k (inGroup 11) = true ∧ (s.kctx s.activePlane c).pub = some r ∧ n ≤ 2048 ∧ o + n ≤ 64 + 8 * r.x.length)
    ∧ (∃ (k : Fin 16) (c : Fin 16) (o : Nat) (n : Nat) (s : State), s.runsNow k (inGroup 11) = true ∧ (s.kctx s.activePlane c).pub = none ∧ n ≤ 2048 ∧ o + n ≤ 64 + 8 * (s.kctx s.activePlane c).len)
    ∧ (∃ (k : Fin 16) (c : Fin 16) (o : Nat) (n : Nat) (s : State), s.runsNow k (inGroup 11) = true ∧ (2048 < n ∨ (match (s.kctx s.activePlane c).pub with | some r => decide (64 + 8 * r.x.length < o + n) | none => decide (64 + 8 * (s.kctx s.activePlane c).len < o + n)) = true)) :=
  ⟨⟨0, 4, (({ ({ ((State.reset.put (HM_STAT.HEARTH_UP) 1).setSlot 0 { state := 2, cmd := [(16, 1), (17, 8), (18, 1), (20, 253), (21, 255), (22, 1), (26, 2)] }) with mb := { ((State.reset.put (HM_STAT.HEARTH_UP) 1).setSlot 0 { state := 2, cmd := [(16, 1), (17, 8), (18, 1), (20, 253), (21, 255), (22, 1), (26, 2)] }).mb with taken := [0] } } : State) with boot := { ({ ((State.reset.put (HM_STAT.HEARTH_UP) 1).setSlot 0 { state := 2, cmd := [(16, 1), (17, 8), (18, 1), (20, 253), (21, 255), (22, 1), (26, 2)] }) with mb := { ((State.reset.put (HM_STAT.HEARTH_UP) 1).setSlot 0 { state := 2, cmd := [(16, 1), (17, 8), (18, 1), (20, 253), (21, 255), (22, 1), (26, 2)] }).mb with taken := [0] } } : State).boot with recovery := false } } : State)), (by decide +kernel)⟩,
   ⟨0, (({ ({ ((State.reset.put (HM_STAT.HEARTH_UP) 1).setSlot 0 { state := 2, cmd := [(16, 1), (17, 8), (18, 1), (20, 253), (21, 255), (22, 1), (26, 2)] }) with mb := { ((State.reset.put (HM_STAT.HEARTH_UP) 1).setSlot 0 { state := 2, cmd := [(16, 1), (17, 8), (18, 1), (20, 253), (21, 255), (22, 1), (26, 2)] }).mb with taken := [0] } } : State) with boot := { ({ ((State.reset.put (HM_STAT.HEARTH_UP) 1).setSlot 0 { state := 2, cmd := [(16, 1), (17, 8), (18, 1), (20, 253), (21, 255), (22, 1), (26, 2)] }) with mb := { ((State.reset.put (HM_STAT.HEARTH_UP) 1).setSlot 0 { state := 2, cmd := [(16, 1), (17, 8), (18, 1), (20, 253), (21, 255), (22, 1), (26, 2)] }).mb with taken := [0] } } : State).boot with recovery := false } } : State)), (by decide +kernel)⟩,
   ⟨0, 600, _, stBlockCommandsComplete3, (by decide +kernel), (by decide +kernel), rfl⟩,
   ⟨0, 2, (({ ({ (((State.reset.put (HM_STAT.HEARTH_UP) 1).put (STK_STAT.DESC_BUSY) 1).setSlot 0 { state := 2, cmd := [(16, 1), (17, 8), (18, 1), (20, 253), (21, 255), (22, 1), (26, 2)] }) with mb := { (((State.reset.put (HM_STAT.HEARTH_UP) 1).put (STK_STAT.DESC_BUSY) 1).setSlot 0 { state := 2, cmd := [(16, 1), (17, 8), (18, 1), (20, 253), (21, 255), (22, 1), (26, 2)] }).mb with taken := [0] } } : State) with boot := { ({ (((State.reset.put (HM_STAT.HEARTH_UP) 1).put (STK_STAT.DESC_BUSY) 1).setSlot 0 { state := 2, cmd := [(16, 1), (17, 8), (18, 1), (20, 253), (21, 255), (22, 1), (26, 2)] }) with mb := { (((State.reset.put (HM_STAT.HEARTH_UP) 1).put (STK_STAT.DESC_BUSY) 1).setSlot 0 { state := 2, cmd := [(16, 1), (17, 8), (18, 1), (20, 253), (21, 255), (22, 1), (26, 2)] }).mb with taken := [0] } } : State).boot with recovery := false } } : State)), (by decide +kernel)⟩,
   ⟨0, (({ ({ ((State.reset.put (HM_STAT.HEARTH_UP) 1).setSlot 0 { state := 2, cmd := [(16, 1), (17, 8), (18, 1), (20, 253), (21, 255), (22, 1), (26, 2)] }) with mb := { ((State.reset.put (HM_STAT.HEARTH_UP) 1).setSlot 0 { state := 2, cmd := [(16, 1), (17, 8), (18, 1), (20, 253), (21, 255), (22, 1), (26, 2)] }).mb with taken := [0] } } : State) with boot := { ({ ((State.reset.put (HM_STAT.HEARTH_UP) 1).setSlot 0 { state := 2, cmd := [(16, 1), (17, 8), (18, 1), (20, 253), (21, 255), (22, 1), (26, 2)] }) with mb := { ((State.reset.put (HM_STAT.HEARTH_UP) 1).setSlot 0 { state := 2, cmd := [(16, 1), (17, 8), (18, 1), (20, 253), (21, 255), (22, 1), (26, 2)] }).mb with taken := [0] } } : State).boot with recovery := false } } : State)), (by decide +kernel)⟩,
   ⟨0, (({ ({ ((State.reset.put (HM_STAT.HEARTH_UP) 1).setSlot 0 { state := 2, cmd := [(16, 1), (17, 8), (18, 1), (20, 253), (21, 255), (22, 1), (26, 2)] }) with mb := { ((State.reset.put (HM_STAT.HEARTH_UP) 1).setSlot 0 { state := 2, cmd := [(16, 1), (17, 8), (18, 1), (20, 253), (21, 255), (22, 1), (26, 2)] }).mb with taken := [0] } } : State) with boot := { ({ ((State.reset.put (HM_STAT.HEARTH_UP) 1).setSlot 0 { state := 2, cmd := [(16, 1), (17, 8), (18, 1), (20, 253), (21, 255), (22, 1), (26, 2)] }) with mb := { ((State.reset.put (HM_STAT.HEARTH_UP) 1).setSlot 0 { state := 2, cmd := [(16, 1), (17, 8), (18, 1), (20, 253), (21, 255), (22, 1), (26, 2)] }).mb with taken := [0] } } : State).boot with recovery := false } } : State)), (by decide +kernel)⟩,
   ⟨0, 2000, _, stBlockCommandsComplete7, (by decide +kernel), (by decide +kernel), rfl⟩,
   ⟨0, 2000, ([]), _, stBlockCommandsComplete8, (by decide +kernel), (by decide +kernel), rfl⟩,
   ⟨0, 2, (({ ({ (((State.reset.put (HM_STAT.HEARTH_UP) 1).put (STK_STAT.BUF_BUSY) 1).setSlot 0 { state := 2, cmd := [(16, 1), (17, 8), (18, 1), (20, 253), (21, 255), (22, 1), (26, 2)] }) with mb := { (((State.reset.put (HM_STAT.HEARTH_UP) 1).put (STK_STAT.BUF_BUSY) 1).setSlot 0 { state := 2, cmd := [(16, 1), (17, 8), (18, 1), (20, 253), (21, 255), (22, 1), (26, 2)] }).mb with taken := [0] } } : State) with boot := { ({ (((State.reset.put (HM_STAT.HEARTH_UP) 1).put (STK_STAT.BUF_BUSY) 1).setSlot 0 { state := 2, cmd := [(16, 1), (17, 8), (18, 1), (20, 253), (21, 255), (22, 1), (26, 2)] }) with mb := { (((State.reset.put (HM_STAT.HEARTH_UP) 1).put (STK_STAT.BUF_BUSY) 1).setSlot 0 { state := 2, cmd := [(16, 1), (17, 8), (18, 1), (20, 253), (21, 255), (22, 1), (26, 2)] }).mb with taken := [0] } } : State).boot with recovery := false } } : State)), (by decide +kernel)⟩,
   ⟨0, true, true, _, _, stBlockCommandsComplete10, (by decide +kernel), pair_rfl⟩,
   ⟨0, 0, ([]), _, ((stBlockCommandsComplete11.watch [CH_STAT.CFG_REFUSED] (fun v => v.schedWrite 0 [])).2), stBlockCommandsComplete11, (by decide +kernel), (by decide +kernel), pair_eq (by decide +kernel)⟩,
   ⟨0, 32769, ([]), (({ ({ ((State.reset.put (HM_STAT.HEARTH_UP) 1).setSlot 0 { state := 2, cmd := [(16, 1), (17, 10), (18, 1), (20, 253), (21, 255), (22, 1), (26, 2)] }) with mb := { ((State.reset.put (HM_STAT.HEARTH_UP) 1).setSlot 0 { state := 2, cmd := [(16, 1), (17, 10), (18, 1), (20, 253), (21, 255), (22, 1), (26, 2)] }).mb with taken := [0] } } : State) with boot := { ({ ((State.reset.put (HM_STAT.HEARTH_UP) 1).setSlot 0 { state := 2, cmd := [(16, 1), (17, 10), (18, 1), (20, 253), (21, 255), (22, 1), (26, 2)] }) with mb := { ((State.reset.put (HM_STAT.HEARTH_UP) 1).setSlot 0 { state := 2, cmd := [(16, 1), (17, 10), (18, 1), (20, 253), (21, 255), (22, 1), (26, 2)] }).mb with taken := [0] } } : State).boot with recovery := false } } : State)), (by decide +kernel)⟩,
   ⟨0, 0, _, _, stBlockCommandsComplete13, (by decide +kernel), pair_rfl⟩,
   ⟨0, 0, 0, _, _, stBlockCommandsComplete14, (by decide +kernel), (by decide +kernel), pair_rfl⟩,
   ⟨0, 0, (({ ({ (((State.reset.put (HM_STAT.HEARTH_UP) 1).put (CP_CTRL.EN 0) 1).setSlot 0 { state := 2, cmd := [(16, 1), (17, 10), (18, 1), (20, 253), (21, 255), (22, 1), (26, 2)] }) with mb := { (((State.reset.put (HM_STAT.HEARTH_UP) 1).put (CP_CTRL.EN 0) 1).setSlot 0 { state := 2, cmd := [(16, 1), (17, 10), (18, 1), (20, 253), (21, 255), (22, 1), (26, 2)] }).mb with taken := [0] } } : State) with boot := { ({ (((State.reset.put (HM_STAT.HEARTH_UP) 1).put (CP_CTRL.EN 0) 1).setSlot 0 { state := 2, cmd := [(16, 1), (17, 10), (18, 1), (20, 253), (21, 255), (22, 1), (26, 2)] }) with mb := { (((State.reset.put (HM_STAT.HEARTH_UP) 1).put (CP_CTRL.EN 0) 1).setSlot 0 { state := 2, cmd := [(16, 1), (17, 10), (18, 1), (20, 253), (21, 255), (22, 1), (26, 2)] }).mb with taken := [0] } } : State).boot with recovery := false } } : State)), (by decide +kernel)⟩,
   ⟨0, 600, (({ ({ ((((State.reset.put (HM_STAT.HEARTH_UP) 1).setTask 600 { State.reset.taskRec 600 with desc := [0, 0x10104] }).put (STK_CTRL.EN) 1).setSlot 0 { state := 2, cmd := [(16, 1), (17, 11), (18, 1), (20, 253), (21, 255), (22, 1), (26, 2)] }) with mb := { ((((State.reset.put (HM_STAT.HEARTH_UP) 1).setTask 600 { State.reset.taskRec 600 with desc := [0, 0x10104] }).put (STK_CTRL.EN) 1).setSlot 0 { state := 2, cmd := [(16, 1), (17, 11), (18, 1), (20, 253), (21, 255), (22, 1), (26, 2)] }).mb with taken := [0] } } : State) with boot := { ({ ((((State.reset.put (HM_STAT.HEARTH_UP) 1).setTask 600 { State.reset.taskRec 600 with desc := [0, 0x10104] }).put (STK_CTRL.EN) 1).setSlot 0 { state := 2, cmd := [(16, 1), (17, 11), (18, 1), (20, 253), (21, 255), (22, 1), (26, 2)] }) with mb := { ((((State.reset.put (HM_STAT.HEARTH_UP) 1).setTask 600 { State.reset.taskRec 600 with desc := [0, 0x10104] }).put (STK_CTRL.EN) 1).setSlot 0 { state := 2, cmd := [(16, 1), (17, 11), (18, 1), (20, 253), (21, 255), (22, 1), (26, 2)] }).mb with taken := [0] } } : State).boot with recovery := false } } : State)), (by decide +kernel)⟩,
   ⟨0, 600, (({ ({ (((State.reset.put (HM_STAT.HEARTH_UP) 1).setTask 600 { State.reset.taskRec 600 with desc := [0, 0x10104] }).setSlot 0 { state := 2, cmd := [(16, 1), (17, 11), (18, 1), (20, 253), (21, 255), (22, 1), (26, 2)] }) with mb := { (((State.reset.put (HM_STAT.HEARTH_UP) 1).setTask 600 { State.reset.taskRec 600 with desc := [0, 0x10104] }).setSlot 0 { state := 2, cmd := [(16, 1), (17, 11), (18, 1), (20, 253), (21, 255), (22, 1), (26, 2)] }).mb with taken := [0] } } : State) with boot := { ({ (((State.reset.put (HM_STAT.HEARTH_UP) 1).setTask 600 { State.reset.taskRec 600 with desc := [0, 0x10104] }).setSlot 0 { state := 2, cmd := [(16, 1), (17, 11), (18, 1), (20, 253), (21, 255), (22, 1), (26, 2)] }) with mb := { (((State.reset.put (HM_STAT.HEARTH_UP) 1).setTask 600 { State.reset.taskRec 600 with desc := [0, 0x10104] }).setSlot 0 { state := 2, cmd := [(16, 1), (17, 11), (18, 1), (20, 253), (21, 255), (22, 1), (26, 2)] }).mb with taken := [0] } } : State).boot with recovery := false } } : State)), (by decide +kernel)⟩,
   ⟨0, 600, (({ ({ ((State.reset.put (HM_STAT.HEARTH_UP) 1).setSlot 0 { state := 2, cmd := [(16, 1), (17, 11), (18, 1), (20, 253), (21, 255), (22, 1), (26, 2)] }) with mb := { ((State.reset.put (HM_STAT.HEARTH_UP) 1).setSlot 0 { state := 2, cmd := [(16, 1), (17, 11), (18, 1), (20, 253), (21, 255), (22, 1), (26, 2)] }).mb with taken := [0] } } : State) with boot := { ({ ((State.reset.put (HM_STAT.HEARTH_UP) 1).setSlot 0 { state := 2, cmd := [(16, 1), (17, 11), (18, 1), (20, 253), (21, 255), (22, 1), (26, 2)] }) with mb := { ((State.reset.put (HM_STAT.HEARTH_UP) 1).setSlot 0 { state := 2, cmd := [(16, 1), (17, 11), (18, 1), (20, 253), (21, 255), (22, 1), (26, 2)] }).mb with taken := [0] } } : State).boot with recovery := false } } : State)), (by decide +kernel)⟩,
   ⟨0, 0, 0, 0, ({ seq := 1, x := [] }), ((({ ({ ((State.reset.put (HM_STAT.HEARTH_UP) 1).setSlot 0 { state := 2, cmd := [(16, 1), (17, 11), (18, 1), (20, 253), (21, 255), (22, 1), (26, 2)] }) with mb := { ((State.reset.put (HM_STAT.HEARTH_UP) 1).setSlot 0 { state := 2, cmd := [(16, 1), (17, 11), (18, 1), (20, 253), (21, 255), (22, 1), (26, 2)] }).mb with taken := [0] } } : State) with boot := { ({ ((State.reset.put (HM_STAT.HEARTH_UP) 1).setSlot 0 { state := 2, cmd := [(16, 1), (17, 11), (18, 1), (20, 253), (21, 255), (22, 1), (26, 2)] }) with mb := { ((State.reset.put (HM_STAT.HEARTH_UP) 1).setSlot 0 { state := 2, cmd := [(16, 1), (17, 11), (18, 1), (20, 253), (21, 255), (22, 1), (26, 2)] }).mb with taken := [0] } } : State).boot with recovery := false } } : State).setKctx 0 0 { State.reset.kctx 0 0 with pub := some { seq := 1, x := [] } })), (by decide +kernel)⟩,
   ⟨0, 0, 0, 0, (({ ({ ((State.reset.put (HM_STAT.HEARTH_UP) 1).setSlot 0 { state := 2, cmd := [(16, 1), (17, 11), (18, 1), (20, 253), (21, 255), (22, 1), (26, 2)] }) with mb := { ((State.reset.put (HM_STAT.HEARTH_UP) 1).setSlot 0 { state := 2, cmd := [(16, 1), (17, 11), (18, 1), (20, 253), (21, 255), (22, 1), (26, 2)] }).mb with taken := [0] } } : State) with boot := { ({ ((State.reset.put (HM_STAT.HEARTH_UP) 1).setSlot 0 { state := 2, cmd := [(16, 1), (17, 11), (18, 1), (20, 253), (21, 255), (22, 1), (26, 2)] }) with mb := { ((State.reset.put (HM_STAT.HEARTH_UP) 1).setSlot 0 { state := 2, cmd := [(16, 1), (17, 11), (18, 1), (20, 253), (21, 255), (22, 1), (26, 2)] }).mb with taken := [0] } } : State).boot with recovery := false } } : State)), (by decide +kernel)⟩,
   ⟨0, 0, 0, 2049, (({ ({ ((State.reset.put (HM_STAT.HEARTH_UP) 1).setSlot 0 { state := 2, cmd := [(16, 1), (17, 11), (18, 1), (20, 253), (21, 255), (22, 1), (26, 2)] }) with mb := { ((State.reset.put (HM_STAT.HEARTH_UP) 1).setSlot 0 { state := 2, cmd := [(16, 1), (17, 11), (18, 1), (20, 253), (21, 255), (22, 1), (26, 2)] }).mb with taken := [0] } } : State) with boot := { ({ ((State.reset.put (HM_STAT.HEARTH_UP) 1).setSlot 0 { state := 2, cmd := [(16, 1), (17, 11), (18, 1), (20, 253), (21, 255), (22, 1), (26, 2)] }) with mb := { ((State.reset.put (HM_STAT.HEARTH_UP) 1).setSlot 0 { state := 2, cmd := [(16, 1), (17, 11), (18, 1), (20, 253), (21, 255), (22, 1), (26, 2)] }).mb with taken := [0] } } : State).boot with recovery := false } } : State)), (by decide +kernel)⟩⟩

def stHciCommandsComplete1 : State := (State.reset.put (HM_STAT.QSPI_EN) 1)
def stHciCommandsComplete9 : State := ({ ((State.reset.put (HM_STAT.HEARTH_UP) 1).setSlot 15 { state := 2, qspi := true, cmd := [(16, 16), (18, 0)] }) with mb := { ((State.reset.put (HM_STAT.HEARTH_UP) 1).setSlot 15 { state := 2, qspi := true, cmd := [(16, 16), (18, 0)] }).mb with taken := [15] } } : State)
def stHciCommandsComplete10 : State := ({ ((State.reset.put (HM_STAT.HEARTH_UP) 1).setSlot 15 { state := 2, qspi := true, cmd := [(16, 17), (18, 0)] }) with mb := { ((State.reset.put (HM_STAT.HEARTH_UP) 1).setSlot 15 { state := 2, qspi := true, cmd := [(16, 17), (18, 0)] }).mb with taken := [15] } } : State)
def stHciCommandsComplete11 : State := ({ ((State.reset.put (HM_STAT.HEARTH_UP) 1).setSlot 15 { state := 2, qspi := true, cmd := [(16, 18), (18, 0)] }) with mb := { ((State.reset.put (HM_STAT.HEARTH_UP) 1).setSlot 15 { state := 2, qspi := true, cmd := [(16, 18), (18, 0)] }).mb with taken := [15] } } : State)
def stHciCommandsComplete12 : State := ({ ((State.reset.put (HM_STAT.HEARTH_UP) 1).setSlot 15 { state := 2, qspi := true, cmd := [(16, 19), (18, 0)] }) with mb := { ((State.reset.put (HM_STAT.HEARTH_UP) 1).setSlot 15 { state := 2, qspi := true, cmd := [(16, 19), (18, 0)] }).mb with taken := [15] } } : State)
def stHciCommandsComplete13 : State := ({ ((State.reset.put (HM_STAT.HEARTH_UP) 1).setSlot 15 { state := 2, qspi := true, cmd := [(16, 32), (18, 0)] }) with mb := { ((State.reset.put (HM_STAT.HEARTH_UP) 1).setSlot 15 { state := 2, qspi := true, cmd := [(16, 32), (18, 0)] }).mb with taken := [15] } } : State)
theorem witness_HciCommandsComplete :
    (∃ (w : BitVec 16) (n : Nat) (u : State) (l : List Word) (s : State), s.is HM_STAT.QSPI_EN = true ∧ (s.hqWords ((List.range n).map (fun i => (w.toNat + i) % 65536)) = (u, l)))
    ∧ (∃ (s : State), s.is HM_STAT.QSPI_EN = false)
    ∧ (∃ (s : State), s.is HM_STAT.QSPI_EN = true)
    ∧ (∃ (s : State), s.is HM_STAT.QSPI_EN = true ∧ (s.slot 15).state = 0)
    ∧ (∃ (s : State), (s.is HM_STAT.QSPI_EN = false ∨ (s.slot 15).state ≠ 0))
    ∧ (∃ (s : State), s.is HM_STAT.QSPI_EN = true ∧ 3 ≤ (s.slot 15).state)
    ∧ (∃ (s : State), (s.is HM_STAT.QSPI_EN = false ∨ (s.slot 15).state = 1 ∨ (s.slot 15).state = 2))
    ∧ (∃ (s : State), (s.slot 15).state = 2 ∧ (s.slot 15).out = none ∧ (s.slot 15).qspi = true ∧ (s.slot 15).mxOp = 0x01 ∧ s.firstOfGroup 15 = true ∧ s.serves = true)
    ∧ (∃ (u : State) (c : Nat) (r : List Byte) (s : State), (s.slot 15).state = 2 ∧ (s.slot 15).out = none ∧ (s.slot 15).qspi = true ∧ (s.slot 15).mxOp = 0x10 ∧ s.firstOfGroup 15 = true ∧ s.serves = true ∧ s.mxMove (s.slot 15) 0 = (u, c, r))
    ∧ (∃ (u : State) (c : Nat) (r : List Byte) (s : State), (s.slot 15).state = 2 ∧ (s.slot 15).out = none ∧ (s.slot 15).qspi = true ∧ (s.slot 15).mxOp = 0x11 ∧ s.firstOfGroup 15 = true ∧ s.serves = true ∧ s.mxMove (s.slot 15) 1 = (u, c, r))
    ∧ (∃ (u : State) (s : State), (s.slot 15).state = 2 ∧ (s.slot 15).out = none ∧ (s.slot 15).qspi = true ∧ (s.slot 15).mxOp = 0x12 ∧ s.firstOfGroup 15 = true ∧ s.serves = true ∧ exec (.armAbort s.hciArm) s = .next u)
    ∧ (∃ (u : State) (c : Nat) (bs : List Byte) (s : State), (s.slot 15).state = 2 ∧ (s.slot 15).out = none ∧ (s.slot 15).qspi = true ∧ (s.slot 15).mxOp = 0x13 ∧ s.firstOfGroup 15 = true ∧ s.serves = true ∧ s.armStatus s.hciArm = (u, c, bs))
    ∧ (∃ (u : State) (c : Nat) (bs : List Byte) (s : State), (s.slot 15).state = 2 ∧ (s.slot 15).out = none ∧ (s.slot 15).qspi = true ∧ (s.slot 15).mxOp = 0x20 ∧ s.firstOfGroup 15 = true ∧ s.serves = true ∧ s.timeGet = (u, c, bs)) :=
  ⟨⟨0, 0, _, ([]), stHciCommandsComplete1, (by decide +kernel), pair_eq (by decide +kernel)⟩,
   ⟨(State.reset), (by decide +kernel)⟩,
   ⟨((State.reset.put (HM_STAT.QSPI_EN) 1)), (by decide +kernel)⟩,
   ⟨((State.reset.put (HM_STAT.QSPI_EN) 1)), (by decide +kernel)⟩,
   ⟨(State.reset), (by decide +kernel)⟩,
   ⟨(((State.reset.put (HM_STAT.QSPI_EN) 1).setSlot 15 { state := 3 })), (by decide +kernel)⟩,
   ⟨(State.reset), (by decide +kernel)⟩,
   ⟨(({ ((State.reset.put (HM_STAT.HEARTH_UP) 1).setSlot 15 { state := 2, qspi := true, cmd := [(16, 1), (18, 0)] }) with mb := { ((State.reset.put (HM_STAT.HEARTH_UP) 1).setSlot 15 { state := 2, qspi := true, cmd := [(16, 1), (18, 0)] }).mb with taken := [15] } } : State)), (by decide +kernel)⟩,
   ⟨_, ((stHciCommandsComplete9.mxMove (stHciCommandsComplete9.slot 15) 0).2.1), ((stHciCommandsComplete9.mxMove (stHciCommandsComplete9.slot 15) 0).2.2), stHciCommandsComplete9, (by decide +kernel), (by decide +kernel), (by decide +kernel), (by decide +kernel), (by decide +kernel), (by decide +kernel), pair_eq (by decide +kernel)⟩,
   ⟨_, ((stHciCommandsComplete10.mxMove (stHciCommandsComplete10.slot 15) 1).2.1), ((stHciCommandsComplete10.mxMove (stHciCommandsComplete10.slot 15) 1).2.2), stHciCommandsComplete10, (by decide +kernel), (by decide +kernel), (by decide +kernel), (by decide +kernel), (by decide +kernel), (by decide +kernel), pair_eq (by decide +kernel)⟩,
   ⟨((stHciCommandsComplete11.via (execArmAbort stHciCommandsComplete11.hciArm))), stHciCommandsComplete11, (by decide +kernel), (by decide +kernel), (by decide +kernel), (by decide +kernel), (by decide +kernel), (by decide +kernel), rfl⟩,
   ⟨_, ((stHciCommandsComplete12.armStatus stHciCommandsComplete12.hciArm).2.1), ((stHciCommandsComplete12.armStatus stHciCommandsComplete12.hciArm).2.2), stHciCommandsComplete12, (by decide +kernel), (by decide +kernel), (by decide +kernel), (by decide +kernel), (by decide +kernel), (by decide +kernel), pair_eq (by decide +kernel)⟩,
   ⟨_, ((stHciCommandsComplete13.timeGet).2.1), ((stHciCommandsComplete13.timeGet).2.2), stHciCommandsComplete13, (by decide +kernel), (by decide +kernel), (by decide +kernel), (by decide +kernel), (by decide +kernel), (by decide +kernel), pair_eq (by decide +kernel)⟩⟩

def stUpdateCommandsComplete9 : State := ({ ((State.reset.put (HM_STAT.HEARTH_UP) 1).setSlot 0 { state := 2 }) with boot := { ((State.reset.put (HM_STAT.HEARTH_UP) 1).setSlot 0 { state := 2 }).boot with upd := { comp := 4, phase := 1, checking := some (0, 0) } } } : State)
def stUpdateCommandsComplete10 : State := ({ (State.reset.put (HM_STAT.HEARTH_UP) 1) with boot := { (State.reset.put (HM_STAT.HEARTH_UP) 1).boot with upd := { comp := 4, phase := 1, checking := some (0, 0) }, recovery := false } } : State)
def stUpdateCommandsComplete12 : State := ({ ({ (({ (State.reset.put (HM_STAT.HEARTH_UP) 1) with boot := { (State.reset.put (HM_STAT.HEARTH_UP) 1).boot with upd := { comp := 1, phase := 2 }, recovery := false } } : State).setSlot 0 { state := 2, cmd := [(16, 4), (17, 7), (18, 1), (20, 253), (21, 255), (22, 1), (26, 2)] }) with mb := { (({ (State.reset.put (HM_STAT.HEARTH_UP) 1) with boot := { (State.reset.put (HM_STAT.HEARTH_UP) 1).boot with upd := { comp := 1, phase := 2 }, recovery := false } } : State).setSlot 0 { state := 2, cmd := [(16, 4), (17, 7), (18, 1), (20, 253), (21, 255), (22, 1), (26, 2)] }).mb with taken := [0] } } : State) with boot := { ({ (({ (State.reset.put (HM_STAT.HEARTH_UP) 1) with boot := { (State.reset.put (HM_STAT.HEARTH_UP) 1).boot with upd := { comp := 1, phase := 2 }, recovery := false } } : State).setSlot 0 { state := 2, cmd := [(16, 4), (17, 7), (18, 1), (20, 253), (21, 255), (22, 1), (26, 2)] }) with mb := { (({ (State.reset.put (HM_STAT.HEARTH_UP) 1) with boot := { (State.reset.put (HM_STAT.HEARTH_UP) 1).boot with upd := { comp := 1, phase := 2 }, recovery := false } } : State).setSlot 0 { state := 2, cmd := [(16, 4), (17, 7), (18, 1), (20, 253), (21, 255), (22, 1), (26, 2)] }).mb with taken := [0] } } : State).boot with recovery := false } } : State)
theorem witness_UpdateCommandsComplete :
    (∃ (k : Fin 16) (c : Nat) (n : Nat) (s : State), (s.runsNow k (fun o => o == 0x0701) = true) ∧ c = (s.slot k).arg 0 1 ∧ n = (s.slot k).arg 4 4 ∧ (1 ≤ c ∧ c ≤ 6) ∧ (s.slot k).arg 1 3 = 0 ∧ (1 ≤ n ∧ n ≤ 0x200000) ∧ s.updOpen = false)
    ∧ (∃ (k : Fin 16) (s : State), (s.runsNow k (fun o => o == 0x0701) = true) ∧ ((s.slot k).arg 0 1 = 0 ∨ 6 < (s.slot k).arg 0 1 ∨ (s.slot k).arg 1 3 ≠ 0 ∨ (s.slot k).arg 4 4 = 0 ∨ 0x200000 < (s.slot k).arg 4 4))
    ∧ (∃ (k : Fin 16) (s : State), (s.runsNow k (fun o => o == 0x0701) = true) ∧ (1 ≤ (s.slot k).arg 0 1 ∧ (s.slot k).arg 0 1 ≤ 6) ∧ (s.slot k).arg 1 3 = 0 ∧ (1 ≤ (s.slot k).arg 4 4 ∧ (s.slot k).arg 4 4 ≤ 0x200000) ∧ s.updOpen = true)
    ∧ (∃ (k : Fin 16) (o : Nat) (n : Nat) (s : State), (s.runsNow k (fun o => o == 0x0702) = true) ∧ o = (s.slot k).arg 0 4 ∧ n = (s.slot k).plen - 4 ∧ s.boot.upd.phase = 1 ∧ s.boot.upd.checking = none ∧ o = s.boot.upd.got ∧ o + n ≤ s.updTotal)
    ∧ (∃ (k : Fin 16) (s : State), (s.runsNow k (fun o => o == 0x0702) = true) ∧ s.boot.upd.phase = 1 ∧ s.boot.upd.checking = none ∧ ((s.slot k).arg 0 4 ≠ s.boot.upd.got ∨ s.updTotal < (s.slot k).arg 0 4 + ((s.slot k).plen - 4)))
    ∧ (∃ (k : Fin 16) (s : State), (s.runsNow k (fun o => o == 0x0702) = true) ∧ (s.boot.upd.phase ≠ 1 ∨ s.boot.upd.checking.isSome = true))
    ∧ (∃ (k : Fin 16) (s : State), (s.runsNow k (fun o => o == 0x0703) = true) ∧ (s.boot.upd.phase = 1 ∨ s.boot.upd.phase = 2) ∧ s.boot.upd.got = s.updTotal ∧ s.boot.upd.checking = none)
    ∧ (∃ (k : Fin 16) (s : State), (s.runsNow k (fun o => o == 0x0703) = true) ∧ ((s.boot.upd.phase ≠ 1 ∧ s.boot.upd.phase ≠ 2) ∨ s.boot.upd.got ≠ s.updTotal))
    ∧ (∃ (k : Fin 16) (at_ : Time) (u : State) (s : State), s.boot.upd.checking = some (k, at_) ∧ (u = (s.advance (at_ + s.verifyCycles s.updComp s.newSlot * nsUnits)).updUpd (fun x => { x with checking := none })) ∧ (u.slot k).state = 2)
    ∧ (∃ (k : Fin 16) (at_ : Time) (u : State) (s : State), s.boot.upd.checking = some (k, at_) ∧ (u = (s.advance (at_ + s.verifyCycles s.updComp s.newSlot * nsUnits)).updUpd (fun x => { x with checking := none })) ∧ (u.slot k).state ≠ 2)
    ∧ (∃ (k : Fin 16) (s : State), (s.runsNow k (fun o => o == 0x0704) = true) ∧ s.boot.upd.phase = 2 ∧ s.mayActivate = true ∧ s.boot.upd.comp ≠ 1)
    ∧ (∃ (k : Fin 16) (u : State) (s : State), (s.runsNow k (fun o => o == 0x0704) = true) ∧ s.boot.upd.phase = 2 ∧ s.boot.upd.comp = 1 ∧ s.boot.recovery = false ∧ u = (((s.endSlot k 3 0 []).setDir 0 ((s.dir 0).1, 2)).setPhase 3 s.newSlot).hearthRestart)
    ∧ (∃ (k : Fin 16) (s : State), (s.runsNow k (fun o => o == 0x0704) = true) ∧ (s.boot.upd.phase ≠ 2 ∨ s.mayActivate = false))
    ∧ (∃ (k : Fin 16) (s : State), (s.runsNow k (fun o => o == 0x0705) = true))
    ∧ (∃ (k : Fin 16) (s : State), (s.runsNow k (fun o => o == 0x0706) = true) ∧ (s.boot.upd.phase = 1 ∨ s.boot.upd.phase = 2))
    ∧ (∃ (k : Fin 16) (s : State), (s.runsNow k (fun o => o == 0x0706) = true) ∧ (s.boot.upd.phase ≠ 1 ∧ s.boot.upd.phase ≠ 2))
    ∧ (∃ (s : State), s.proving = true ∧ s.boot.upd.mishap = false ∧ s.updatesPlanes = false)
    ∧ (∃ (s : State), s.proving = true ∧ s.boot.upd.mishap = true)
    ∧ (∃ (s : State), s.proving = true ∧ s.boot.upd.mishap = false ∧ s.updatesPlanes = true ∧ s.boot.upd.stage = 2)
    ∧ (∃ (s : State), s.proving = true)
    ∧ (∃ (s : State), s.proving = false)
    ∧ (∃ (s : State), s.si.restarting = true) :=
  ⟨⟨0, 1, 1, (({ ({ ((State.reset.put (HM_STAT.HEARTH_UP) 1).setSlot 0 { state := 2, cmd := [(16, 1), (17, 7), (18, 1), (20, 253), (21, 255), (22, 1), (24, 8), (26, 2), (48, 1), (52, 1)] }) with mb := { ((State.reset.put (HM_STAT.HEARTH_UP) 1).setSlot 0 { state := 2, cmd := [(16, 1), (17, 7), (18, 1), (20, 253), (21, 255), (22, 1), (24, 8), (26, 2), (48, 1), (52, 1)] }).mb with taken := [0] } } : State) with boot := { ({ ((State.reset.put (HM_STAT.HEARTH_UP) 1).setSlot 0 { state := 2, cmd := [(16, 1), (17, 7), (18, 1), (20, 253), (21, 255), (22, 1), (24, 8), (26, 2), (48, 1), (52, 1)] }) with mb := { ((State.reset.put (HM_STAT.HEARTH_UP) 1).setSlot 0 { state := 2, cmd := [(16, 1), (17, 7), (18, 1), (20, 253), (21, 255), (22, 1), (24, 8), (26, 2), (48, 1), (52, 1)] }).mb with taken := [0] } } : State).boot with recovery := false } } : State)), (by decide +kernel)⟩,
   ⟨0, (({ ({ ((State.reset.put (HM_STAT.HEARTH_UP) 1).setSlot 0 { state := 2, cmd := [(16, 1), (17, 7), (18, 1), (20, 253), (21, 255), (22, 1), (24, 8), (26, 2)] }) with mb := { ((State.reset.put (HM_STAT.HEARTH_UP) 1).setSlot 0 { state := 2, cmd := [(16, 1), (17, 7), (18, 1), (20, 253), (21, 255), (22, 1), (24, 8), (26, 2)] }).mb with taken := [0] } } : State) with boot := { ({ ((State.reset.put (HM_STAT.HEARTH_UP) 1).setSlot 0 { state := 2, cmd := [(16, 1), (17, 7), (18, 1), (20, 253), (21, 255), (22, 1), (24, 8), (26, 2)] }) with mb := { ((State.reset.put (HM_STAT.HEARTH_UP) 1).setSlot 0 { state := 2, cmd := [(16, 1), (17, 7), (18, 1), (20, 253), (21, 255), (22, 1), (24, 8), (26, 2)] }).mb with taken := [0] } } : State).boot with recovery := false } } : State)), (by decide +kernel)⟩,
   ⟨0, (({ ({ (({ (State.reset.put (HM_STAT.HEARTH_UP) 1) with boot := { (State.reset.put (HM_STAT.HEARTH_UP) 1).boot with upd := { phase := 1 }, recovery := false } } : State).setSlot 0 { state := 2, cmd := [(16, 1), (17, 7), (18, 1), (20, 253), (21, 255), (22, 1), (24, 8), (26, 2), (48, 1), (52, 1)] }) with mb := { (({ (State.reset.put (HM_STAT.HEARTH_UP) 1) with boot := { (State.reset.put (HM_STAT.HEARTH_UP) 1).boot with upd := { phase := 1 }, recovery := false } } : State).setSlot 0 { state := 2, cmd := [(16, 1), (17, 7), (18, 1), (20, 253), (21, 255), (22, 1), (24, 8), (26, 2), (48, 1), (52, 1)] }).mb with taken := [0] } } : State) with boot := { ({ (({ (State.reset.put (HM_STAT.HEARTH_UP) 1) with boot := { (State.reset.put (HM_STAT.HEARTH_UP) 1).boot with upd := { phase := 1 }, recovery := false } } : State).setSlot 0 { state := 2, cmd := [(16, 1), (17, 7), (18, 1), (20, 253), (21, 255), (22, 1), (24, 8), (26, 2), (48, 1), (52, 1)] }) with mb := { (({ (State.reset.put (HM_STAT.HEARTH_UP) 1) with boot := { (State.reset.put (HM_STAT.HEARTH_UP) 1).boot with upd := { phase := 1 }, recovery := false } } : State).setSlot 0 { state := 2, cmd := [(16, 1), (17, 7), (18, 1), (20, 253), (21, 255), (22, 1), (24, 8), (26, 2), (48, 1), (52, 1)] }).mb with taken := [0] } } : State).boot with recovery := false } } : State)), (by decide +kernel)⟩,
   ⟨0, 0, 1, (({ ({ (({ (State.reset.put (HM_STAT.HEARTH_UP) 1) with boot := { (State.reset.put (HM_STAT.HEARTH_UP) 1).boot with upd := { comp := 4, phase := 1 }, recovery := false } } : State).setSlot 0 { state := 2, cmd := [(16, 2), (17, 7), (18, 1), (20, 253), (21, 255), (22, 1), (24, 5), (26, 2), (52, 7)] }) with mb := { (({ (State.reset.put (HM_STAT.HEARTH_UP) 1) with boot := { (State.reset.put (HM_STAT.HEARTH_UP) 1).boot with upd := { comp := 4, phase := 1 }, recovery := false } } : State).setSlot 0 { state := 2, cmd := [(16, 2), (17, 7), (18, 1), (20, 253), (21, 255), (22, 1), (24, 5), (26, 2), (52, 7)] }).mb with taken := [0] } } : State) with boot := { ({ (({ (State.reset.put (HM_STAT.HEARTH_UP) 1) with boot := { (State.reset.put (HM_STAT.HEARTH_UP) 1).boot with upd := { comp := 4, phase := 1 }, recovery := false } } : State).setSlot 0 { state := 2, cmd := [(16, 2), (17, 7), (18, 1), (20, 253), (21, 255), (22, 1), (24, 5), (26, 2), (52, 7)] }) with mb := { (({ (State.reset.put (HM_STAT.HEARTH_UP) 1) with boot := { (State.reset.put (HM_STAT.HEARTH_UP) 1).boot with upd := { comp := 4, phase := 1 }, recovery := false } } : State).setSlot 0 { state := 2, cmd := [(16, 2), (17, 7), (18, 1), (20, 253), (21, 255), (22, 1), (24, 5), (26, 2), (52, 7)] }).mb with taken := [0] } } : State).boot with recovery := false } } : State)), (by decide +kernel)⟩,
   ⟨0, (({ ({ (({ (State.reset.put (HM_STAT.HEARTH_UP) 1) with boot := { (State.reset.put (HM_STAT.HEARTH_UP) 1).boot with upd := { comp := 4, phase := 1 }, recovery := false } } : State).setSlot 0 { state := 2, cmd := [(16, 2), (17, 7), (18, 1), (20, 253), (21, 255), (22, 1), (24, 5), (26, 2), (48, 1), (52, 7)] }) with mb := { (({ (State.reset.put (HM_STAT.HEARTH_UP) 1) with boot := { (State.reset.put (HM_STAT.HEARTH_UP) 1).boot with upd := { comp := 4, phase := 1 }, recovery := false } } : State).setSlot 0 { state := 2, cmd := [(16, 2), (17, 7), (18, 1), (20, 253), (21, 255), (22, 1), (24, 5), (26, 2), (48, 1), (52, 7)] }).mb with taken := [0] } } : State) with boot := { ({ (({ (State.reset.put (HM_STAT.HEARTH_UP) 1) with boot := { (State.reset.put (HM_STAT.HEARTH_UP) 1).boot with upd := { comp := 4, phase := 1 }, recovery := false } } : State).setSlot 0 { state := 2, cmd := [(16, 2), (17, 7), (18, 1), (20, 253), (21, 255), (22, 1), (24, 5), (26, 2), (48, 1), (52, 7)] }) with mb := { (({ (State.reset.put (HM_STAT.HEARTH_UP) 1) with boot := { (State.reset.put (HM_STAT.HEARTH_UP) 1).boot with upd := { comp := 4, phase := 1 }, recovery := false } } : State).setSlot 0 { state := 2, cmd := [(16, 2), (17, 7), (18, 1), (20, 253), (21, 255), (22, 1), (24, 5), (26, 2), (48, 1), (52, 7)] }).mb with taken := [0] } } : State).boot with recovery := false } } : State)), (by decide +kernel)⟩,
   ⟨0, (({ ({ ((State.reset.put (HM_STAT.HEARTH_UP) 1).setSlot 0 { state := 2, cmd := [(16, 2), (17, 7), (18, 1), (20, 253), (21, 255), (22, 1), (24, 5), (26, 2), (52, 7)] }) with mb := { ((State.reset.put (HM_STAT.HEARTH_UP) 1).setSlot 0 { state := 2, cmd := [(16, 2), (17, 7), (18, 1), (20, 253), (21, 255), (22, 1), (24, 5), (26, 2), (52, 7)] }).mb with taken := [0] } } : State) with boot := { ({ ((State.reset.put (HM_STAT.HEARTH_UP) 1).setSlot 0 { state := 2, cmd := [(16, 2), (17, 7), (18, 1), (20, 253), (21, 255), (22, 1), (24, 5), (26, 2), (52, 7)] }) with mb := { ((State.reset.put (HM_STAT.HEARTH_UP) 1).setSlot 0 { state := 2, cmd := [(16, 2), (17, 7), (18, 1), (20, 253), (21, 255), (22, 1), (24, 5), (26, 2), (52, 7)] }).mb with taken := [0] } } : State).boot with recovery := false } } : State)), (by decide +kernel)⟩,
   ⟨0, (({ ({ (({ (State.reset.put (HM_STAT.HEARTH_UP) 1) with boot := { (State.reset.put (HM_STAT.HEARTH_UP) 1).boot with upd := { comp := 4, phase := 1, got := 256 }, recovery := false } } : State).setSlot 0 { state := 2, cmd := [(16, 3), (17, 7), (18, 1), (20, 253), (21, 255), (22, 1), (26, 2)] }) with mb := { (({ (State.reset.put (HM_STAT.HEARTH_UP) 1) with boot := { (State.reset.put (HM_STAT.HEARTH_UP) 1).boot with upd := { comp := 4, phase := 1, got := 256 }, recovery := false } } : State).setSlot 0 { state := 2, cmd := [(16, 3), (17, 7), (18, 1), (20, 253), (21, 255), (22, 1), (26, 2)] }).mb with taken := [0] } } : State) with boot := { ({ (({ (State.reset.put (HM_STAT.HEARTH_UP) 1) with boot := { (State.reset.put (HM_STAT.HEARTH_UP) 1).boot with upd := { comp := 4, phase := 1, got := 256 }, recovery := false } } : State).setSlot 0 { state := 2, cmd := [(16, 3), (17, 7), (18, 1), (20, 253), (21, 255), (22, 1), (26, 2)] }) with mb := { (({ (State.reset.put (HM_STAT.HEARTH_UP) 1) with boot := { (State.reset.put (HM_STAT.HEARTH_UP) 1).boot with upd := { comp := 4, phase := 1, got := 256 }, recovery := false } } : State).setSlot 0 { state := 2, cmd := [(16, 3), (17, 7), (18, 1), (20, 253), (21, 255), (22, 1), (26, 2)] }).mb with taken := [0] } } : State).boot with recovery := false } } : State)), (by decide +kernel)⟩,
   ⟨0, (({ ({ ((State.reset.put (HM_STAT.HEARTH_UP) 1).setSlot 0 { state := 2, cmd := [(16, 3), (17, 7), (18, 1), (20, 253), (21, 255), (22, 1), (26, 2)] }) with mb := { ((State.reset.put (HM_STAT.HEARTH_UP) 1).setSlot 0 { state := 2, cmd := [(16, 3), (17, 7), (18, 1), (20, 253), (21, 255), (22, 1), (26, 2)] }).mb with taken := [0] } } : State) with boot := { ({ ((State.reset.put (HM_STAT.HEARTH_UP) 1).setSlot 0 { state := 2, cmd := [(16, 3), (17, 7), (18, 1), (20, 253), (21, 255), (22, 1), (26, 2)] }) with mb := { ((State.reset.put (HM_STAT.HEARTH_UP) 1).setSlot 0 { state := 2, cmd := [(16, 3), (17, 7), (18, 1), (20, 253), (21, 255), (22, 1), (26, 2)] }).mb with taken := [0] } } : State).boot with recovery := false } } : State)), (by decide +kernel)⟩,
   ⟨0, 0, _, stUpdateCommandsComplete9, (by decide +kernel), rfl, (by decide +kernel)⟩,
   ⟨0, 0, _, stUpdateCommandsComplete10, (by decide +kernel), rfl, (by decide +kernel)⟩,
   ⟨0, (({ ({ (({ (State.reset.put (HM_STAT.HEARTH_UP) 1) with boot := { (State.reset.put (HM_STAT.HEARTH_UP) 1).boot with upd := { comp := 4, phase := 2 }, recovery := false } } : State).setSlot 0 { state := 2, cmd := [(16, 4), (17, 7), (18, 1), (20, 253), (21, 255), (22, 1), (26, 2)] }) with mb := { (({ (State.reset.put (HM_STAT.HEARTH_UP) 1) with boot := { (State.reset.put (HM_STAT.HEARTH_UP) 1).boot with upd := { comp := 4, phase := 2 }, recovery := false } } : State).setSlot 0 { state := 2, cmd := [(16, 4), (17, 7), (18, 1), (20, 253), (21, 255), (22, 1), (26, 2)] }).mb with taken := [0] } } : State) with boot := { ({ (({ (State.reset.put (HM_STAT.HEARTH_UP) 1) with boot := { (State.reset.put (HM_STAT.HEARTH_UP) 1).boot with upd := { comp := 4, phase := 2 }, recovery := false } } : State).setSlot 0 { state := 2, cmd := [(16, 4), (17, 7), (18, 1), (20, 253), (21, 255), (22, 1), (26, 2)] }) with mb := { (({ (State.reset.put (HM_STAT.HEARTH_UP) 1) with boot := { (State.reset.put (HM_STAT.HEARTH_UP) 1).boot with upd := { comp := 4, phase := 2 }, recovery := false } } : State).setSlot 0 { state := 2, cmd := [(16, 4), (17, 7), (18, 1), (20, 253), (21, 255), (22, 1), (26, 2)] }).mb with taken := [0] } } : State).boot with recovery := false } } : State)), (by decide +kernel)⟩,
   ⟨0, _, stUpdateCommandsComplete12, (by decide +kernel), (by decide +kernel), (by decide +kernel), (by decide +kernel), rfl⟩,
   ⟨0, (({ ({ ((State.reset.put (HM_STAT.HEARTH_UP) 1).setSlot 0 { state := 2, cmd := [(16, 4), (17, 7), (18, 1), (20, 253), (21, 255), (22, 1), (26, 2)] }) with mb := { ((State.reset.put (HM_STAT.HEARTH_UP) 1).setSlot 0 { state := 2, cmd := [(16, 4), (17, 7), (18, 1), (20, 253), (21, 255), (22, 1), (26, 2)] }).mb with taken := [0] } } : State) with boot := { ({ ((State.reset.put (HM_STAT.HEARTH_UP) 1).setSlot 0 { state := 2, cmd := [(16, 4), (17, 7), (18, 1), (20, 253), (21, 255), (22, 1), (26, 2)] }) with mb := { ((State.reset.put (HM_STAT.HEARTH_UP) 1).setSlot 0 { state := 2, cmd := [(16, 4), (17, 7), (18, 1), (20, 253), (21, 255), (22, 1), (26, 2)] }).mb with taken := [0] } } : State).boot with recovery := false } } : State)), (by decide +kernel)⟩,
   ⟨0, (({ ({ ((State.reset.put (HM_STAT.HEARTH_UP) 1).setSlot 0 { state := 2, cmd := [(16, 5), (17, 7), (18, 1), (20, 253), (21, 255), (22, 1), (26, 2)] }) with mb := { ((State.reset.put (HM_STAT.HEARTH_UP) 1).setSlot 0 { state := 2, cmd := [(16, 5), (17, 7), (18, 1), (20, 253), (21, 255), (22, 1), (26, 2)] }).mb with taken := [0] } } : State) with boot := { ({ ((State.reset.put (HM_STAT.HEARTH_UP) 1).setSlot 0 { state := 2, cmd := [(16, 5), (17, 7), (18, 1), (20, 253), (21, 255), (22, 1), (26, 2)] }) with mb := { ((State.reset.put (HM_STAT.HEARTH_UP) 1).setSlot 0 { state := 2, cmd := [(16, 5), (17, 7), (18, 1), (20, 253), (21, 255), (22, 1), (26, 2)] }).mb with taken := [0] } } : State).boot with recovery := false } } : State)), (by decide +kernel)⟩,
   ⟨0, (({ ({ (({ (State.reset.put (HM_STAT.HEARTH_UP) 1) with boot := { (State.reset.put (HM_STAT.HEARTH_UP) 1).boot with upd := { comp := 4, phase := 1 }, recovery := false } } : State).setSlot 0 { state := 2, cmd := [(16, 6), (17, 7), (18, 1), (20, 253), (21, 255), (22, 1), (26, 2)] }) with mb := { (({ (State.reset.put (HM_STAT.HEARTH_UP) 1) with boot := { (State.reset.put (HM_STAT.HEARTH_UP) 1).boot with upd := { comp := 4, phase := 1 }, recovery := false } } : State).setSlot 0 { state := 2, cmd := [(16, 6), (17, 7), (18, 1), (20, 253), (21, 255), (22, 1), (26, 2)] }).mb with taken := [0] } } : State) with boot := { ({ (({ (State.reset.put (HM_STAT.HEARTH_UP) 1) with boot := { (State.reset.put (HM_STAT.HEARTH_UP) 1).boot with upd := { comp := 4, phase := 1 }, recovery := false } } : State).setSlot 0 { state := 2, cmd := [(16, 6), (17, 7), (18, 1), (20, 253), (21, 255), (22, 1), (26, 2)] }) with mb := { (({ (State.reset.put (HM_STAT.HEARTH_UP) 1) with boot := { (State.reset.put (HM_STAT.HEARTH_UP) 1).boot with upd := { comp := 4, phase := 1 }, recovery := false } } : State).setSlot 0 { state := 2, cmd := [(16, 6), (17, 7), (18, 1), (20, 253), (21, 255), (22, 1), (26, 2)] }).mb with taken := [0] } } : State).boot with recovery := false } } : State)), (by decide +kernel)⟩,
   ⟨0, (({ ({ ((State.reset.put (HM_STAT.HEARTH_UP) 1).setSlot 0 { state := 2, cmd := [(16, 6), (17, 7), (18, 1), (20, 253), (21, 255), (22, 1), (26, 2)] }) with mb := { ((State.reset.put (HM_STAT.HEARTH_UP) 1).setSlot 0 { state := 2, cmd := [(16, 6), (17, 7), (18, 1), (20, 253), (21, 255), (22, 1), (26, 2)] }).mb with taken := [0] } } : State) with boot := { ({ ((State.reset.put (HM_STAT.HEARTH_UP) 1).setSlot 0 { state := 2, cmd := [(16, 6), (17, 7), (18, 1), (20, 253), (21, 255), (22, 1), (26, 2)] }) with mb := { ((State.reset.put (HM_STAT.HEARTH_UP) 1).setSlot 0 { state := 2, cmd := [(16, 6), (17, 7), (18, 1), (20, 253), (21, 255), (22, 1), (26, 2)] }).mb with taken := [0] } } : State).boot with recovery := false } } : State)), (by decide +kernel)⟩,
   ⟨(({ (State.reset.put (HM_STAT.HEARTH_UP) 1) with boot := { (State.reset.put (HM_STAT.HEARTH_UP) 1).boot with upd := { comp := 4, phase := 4 }, recovery := false } } : State)), (by decide +kernel)⟩,
   ⟨(({ (State.reset.put (HM_STAT.HEARTH_UP) 1) with boot := { (State.reset.put (HM_STAT.HEARTH_UP) 1).boot with upd := { comp := 4, phase := 4, mishap := true }, recovery := false } } : State)), (by decide +kernel)⟩,
   ⟨(({ (State.reset.put (HM_STAT.HEARTH_UP) 1) with boot := { (State.reset.put (HM_STAT.HEARTH_UP) 1).boot with upd := { comp := 2, phase := 4, stage := 2 }, recovery := false } } : State)), (by decide +kernel)⟩,
   ⟨(({ (State.reset.put (HM_STAT.HEARTH_UP) 1) with boot := { (State.reset.put (HM_STAT.HEARTH_UP) 1).boot with upd := { comp := 4, phase := 4 }, recovery := false } } : State)), (by decide +kernel)⟩,
   ⟨(State.reset), (by decide +kernel)⟩,
   ⟨(({ State.reset with si := { State.reset.si with restarting := true } } : State)), (by decide +kernel)⟩⟩

def stPowerBootAndPinsComplete1 : State := State.reset
def stPowerBootAndPinsComplete2 : State := ({ State.reset with boot := { State.reset.boot with otp := [(genAddr 0 + 0, 1414808915), (genAddr 0 + 1, 256), (genAddr 0 + 3, 2), (genAddr 0 + 5, 131069), (genAddr 0 + 446, 100028850), (genAddr 0 + 447, 1012573635)] } } : State)
theorem witness_PowerBootAndPinsComplete :
    (∃ (u : State) (s : State), s.boot.booted = false ∧ s.pwr.reset = false ∧ s.pwr.supplies = true ∧ s.pwr.pfail = false ∧ (u = (s.bootSettings.bootLocket).updBoot (fun b => { b with booted := true })) ∧ u.boot.gen = none)
    ∧ (∃ (u : State) (s : State), s.boot.booted = false ∧ s.pwr.reset = false ∧ s.pwr.supplies = true ∧ s.pwr.pfail = false ∧ (u = (s.bootSettings.bootLocket).updBoot (fun b => { b with booted := true })) ∧ u.boot.gen.isSome = true ∧ (u.boot.upd.comp ≠ 1 ∨ u.boot.upd.stage ≠ 1))
    ∧ (∃ (s : State), s.otpRefuses = false ∧ s.is OTP_STAT.BUSY = false)
    ∧ (∃ (who : Who) (s : State), (who ≠ .hearth ∨ s.otpRefuses = true ∨ s.is OTP_STAT.BUSY = true))
    ∧ (∃ (v : Word) (a : Nat) (at_ : Time) (s : State), s.boot.prog = some (a, v, at_))
    ∧ (∃ (s : State), s.canRelease 0 = true)
    ∧ (∃ (s : State), s.canRelease 0 = false)
    ∧ (∃ (s : State), s.canRelease 1 = true)
    ∧ (∃ (s : State), s.canRelease 1 = false)
    ∧ (∃ (s : State), s.canRelease 2 = true)
    ∧ (∃ (s : State), s.canRelease 2 = false)
    ∧ (∃ (s : State), s.canRelease 3 = true)
    ∧ (∃ (s : State), s.canRelease 3 = false)
    ∧ (∃ (s : State), s.canRelease 4 = true)
    ∧ (∃ (s : State), s.canRelease 4 = false)
    ∧ (∃ (s : State), s.pwr.supplies = false)
    ∧ (∃ (s : State), s.pwr.supplies = true ∧ s.pwr.pfHold = false)
    ∧ (∃ (s : State), 2 ≤ s.pwr.rstLow ∧ s.pwr.rstIsLow = false ∧ s.pwr.stuck = false ∧ s.pwr.reset = false ∧ s.pwr.pfHold = false ∧ s.pwr.pfail = false)
    ∧ (∃ (s : State), 2 ≤ s.pwr.rstLow ∧ s.pwr.rstIsLow = false ∧ s.pwr.stuck = false ∧ s.pwr.reset = false ∧ s.pwr.pfHold = false ∧ s.pwr.pfail = true)
    ∧ (∃ (s : State), 2 ≤ s.pwr.rstHigh ∧ s.pwr.rstIsLow = true ∧ s.pwr.stuck = false ∧ s.pwr.reset = true ∧ s.pwr.cause = 3 ∧ s.pwr.supplies = true ∧ s.pwr.pfail = false)
    ∧ (∃ (s : State), s.pwr.reset = true ∧ s.pwr.cause = 3 ∧ s.pwr.pinHolds = true ∧ s.pwr.pulseQual = true ∧ s.pwr.maxHold * 32768 ≤ s.pwr.held ∧ s.pwr.supplies = true ∧ s.pwr.pfail = false)
    ∧ (∃ (s : State), s.pwr.stuck = true ∧ 3277 ≤ s.pwr.highRun)
    ∧ (∃ (s : State), s.pwr.pfail = false ∧ s.pwr.supplies = true ∧ s.pwr.reset = false)
    ∧ (∃ (s : State), s.pwr.pfHold = true ∧ s.pwr.supplies = true ∧ s.pwr.pinHolds = false) :=
  ⟨⟨_, stPowerBootAndPinsComplete1, (by decide +kernel), (by decide +kernel), (by decide +kernel), (by decide +kernel), rfl, (by decide +kernel)⟩,
   ⟨_, stPowerBootAndPinsComplete2, (by decide +kernel), (by decide +kernel), (by decide +kernel), (by decide +kernel), rfl, (by decide +kernel)⟩,
   ⟨(State.reset), (by decide +kernel)⟩,
   ⟨.host, (State.reset), (by decide +kernel)⟩,
   ⟨5, 3, 0, (({ State.reset with boot := { State.reset.boot with prog := some (3, 5, 0) } } : State)), (by decide +kernel)⟩,
   ⟨(((((State.reset.put (ISL_STAT.PLL_LOCK) 1).put (SI_STAT.ISTATE) 1).put (PC_STAT.STATE_A) 5).put (OTP_STAT.NO_SETTINGS) 0)), (by decide +kernel)⟩,
   ⟨((State.reset.put (OTP_STAT.NO_SETTINGS) 1)), (by decide +kernel)⟩,
   ⟨(((((State.reset.put (ISL_STAT.PLL_LOCK) 1).put (SI_STAT.ISTATE) 1).put (PC_STAT.STATE_A) 5).put (OTP_STAT.NO_SETTINGS) 0)), (by decide +kernel)⟩,
   ⟨((State.reset.put (OTP_STAT.NO_SETTINGS) 1)), (by decide +kernel)⟩,
   ⟨(((((State.reset.put (ISL_STAT.PLL_LOCK) 1).put (SI_STAT.ISTATE) 1).put (PC_STAT.STATE_A) 5).put (OTP_STAT.NO_SETTINGS) 0)), (by decide +kernel)⟩,
   ⟨((State.reset.put (OTP_STAT.NO_SETTINGS) 1)), (by decide +kernel)⟩,
   ⟨(((((State.reset.put (ISL_STAT.PLL_LOCK) 1).put (SI_STAT.ISTATE) 1).put (PC_STAT.STATE_A) 5).put (OTP_STAT.NO_SETTINGS) 0)), (by decide +kernel)⟩,
   ⟨((State.reset.put (OTP_STAT.NO_SETTINGS) 1)), (by decide +kernel)⟩,
   ⟨(((((State.reset.put (ISL_STAT.PLL_LOCK) 1).put (SI_STAT.ISTATE) 1).put (PC_STAT.STATE_A) 5).put (OTP_STAT.NO_SETTINGS) 0)), (by decide +kernel)⟩,
   ⟨((State.reset.put (OTP_STAT.NO_SETTINGS) 1)), (by decide +kernel)⟩,
   ⟨(({ State.reset with pwr := { State.reset.pwr with supplies := false, reset := true } } : State)), (by decide +kernel)⟩,
   ⟨(State.reset), (by decide +kernel)⟩,
   ⟨(({ State.reset with pwr := { State.reset.pwr with rstLow := 2 } } : State)), (by decide +kernel)⟩,
   ⟨(({ State.reset with pwr := { State.reset.pwr with rstLow := 2, pfail := true } } : State)), (by decide +kernel)⟩,
   ⟨(({ State.reset with pwr := { State.reset.pwr with rstHigh := 2, rstIsLow := true, reset := true, cause := 3 } } : State)), (by decide +kernel)⟩,
   ⟨(({ State.reset with pwr := { State.reset.pwr with rstIsLow := true, reset := true, cause := 3, pulseQual := true, maxHold := 1, held := 32768 } } : State)), (by decide +kernel)⟩,
   ⟨(({ State.reset with pwr := { State.reset.pwr with stuck := true, highRun := 3277 } } : State)), (by decide +kernel)⟩,
   ⟨(State.reset), (by decide +kernel)⟩,
   ⟨(({ State.reset with pwr := { State.reset.pwr with pfHold := true, pfail := true } } : State)), (by decide +kernel)⟩⟩

end Sys2Proof.Tests
end

/-! The same-cycle rules of R8, for a write that clears w1c bits and for a read that clears rc bits. -/

namespace Sys2Proof.Machine

/-- R8: bits that the device sets in the cycle of a write stand in the register afterwards. -/
theorem State.rd_keepSet (s : State) (r : Reg) (w : Word) : (s.keepSet r w).rd r = s.rd r ||| w := by
  unfold State.keepSet
  split
  next h => simp [h]
  next => exact State.rd_wr_same ..

/-- Absorption: the bits joined to a word are all found in it. -/
theorem Word.or_and_right (a b : Word) : (a ||| b) &&& b = b := by
  ext i
  simp +contextual

/-- Under a mask only the joined word is seen, when the word it joins is clear there. -/
theorem Word.clear_or_and (a b m : Word) : ((a &&& ~~~m) ||| b) &&& m = b &&& m := by
  ext i
  cases hm : m[i] <;> simp [hm]

/-- Every REGISTER_WRITE but one through Window T or of IC_SW_CLR is the write on the bus, with the w1c bits that the device sets in its cycle kept. -/
theorem execRegisterWrite_eq_keepSet {who : Who} {r : Reg} (v same : Word) (s : State) (hw : who ≠ .windowT) (hr : ∀ k, r ≠ .ic (.IC_SW_CLR k)) :
    execRegisterWrite who r v same s = .next ((s.busWrite who r v).keepSet r (s.rd r &&& same &&& r.w1cMask)) := by
  unfold execRegisterWrite
  rw [if_neg hw]
  split
  next k => exact absurd rfl (hr k)
  next => rfl

/-- The rc registers that count, and do not keep a largest value, are rc in all their bits. -/
theorem rcMask_of_not_isMaxReg {r : Reg} (h : r.rcMask ≠ 0) (hc : isMaxReg r = false) : r.rcMask = 0xFFFFFFFF := by
  have kinds : (r.rcMask == 0 || isMaxReg r || r.rcMask == 0xFFFFFFFF) = true := by
    cases r
    all_goals rename_i x; cases x <;> rfl
  exact Or.resolve_left (by simpa [hc] using kinds) h

/-- The update that an rc field keeps over a read in its own cycle (R8), from the word before the update. -/
def keptUpdate (r : Reg) (w before : Word) : Word :=
  if isMaxReg r then w &&& r.rcMask else if before &&& r.rcMask = r.rcMask then 1 else ((w &&& r.rcMask) - (before &&& r.rcMask)) &&& r.rcMask

/-- The update kept lies within the rc bits. -/
theorem keptUpdate_and_rcMask {r : Reg} (h : r.rcMask ≠ 0) (w before : Word) : keptUpdate r w before &&& r.rcMask = keptUpdate r w before := by
  unfold keptUpdate
  split
  next => simp [BitVec.and_assoc]
  next hc =>
    split
    next => rw [rcMask_of_not_isMaxReg h (Bool.eq_false_iff.mpr hc)]; rfl
    next => simp [BitVec.and_assoc]

/-- The answer and the register that a read in the cycle of an update leaves (R8). -/
theorem State.readSame_eq (s : State) (r : Reg) (before : Word) :
    s.readSame r before = (s.wr r ((s.rd r &&& ~~~r.rcMask) ||| keptUpdate r (s.rd r) before)).answer [(s.peek r &&& ~~~r.rcMask) ||| (before &&& r.rcMask)] := rfl

/-- R8: of a read in the cycle of an update, what was kept of the update stands in the rc bits afterwards. -/
theorem State.rd_readSame_and_rcMask (s : State) {r : Reg} (before : Word) (h : r.rcMask ≠ 0) :
    (s.readSame r before).rd r &&& r.rcMask = keptUpdate r (s.rd r) before := by
  rw [State.readSame_eq, State.answer_rd, State.rd_wr_same, Word.clear_or_and, keptUpdate_and_rcMask h]

/-- A master whose accesses act, reading rc bits in the cycle of their update, reads by the rule of R8. -/
theorem execReadClear_some {who : Who} {r : Reg} (before : Word) {s : State} (ha : s.acts who = true) (h : r.rcMask ≠ 0) :
    execReadClear who r (some before) s = .next (s.readSame r before) :=
  congrArg Host.Outcome.next (if_pos ⟨ha, h⟩)

/-- Settles O11: a write keeps the set bits by `State.keepSet`, and a read of rc bits is `State.readSame`, whose kept update lies within them. -/
theorem sameCycleRule : Obligations.SameCycleRule := by
  refine ⟨fun who r v same s hw hr => ⟨_, execRegisterWrite_eq_keepSet v same s hw hr, ?_⟩,
    fun who r before s ha h => ⟨_, execReadClear_some before ha h, rfl, State.rd_readSame_and_rcMask s before h⟩⟩
  rw [State.rd_keepSet]
  exact Word.or_and_right _ _

end Sys2Proof.Machine

/-! The rule of R24 for ISL_CLK: one equation for the write that is applied, one for the write that is ignored. -/

namespace Sys2Proof.Machine

/-- ISL_CLK_WRITE means `execIslClkWrite`. -/
theorem exec_islClkWrite (v : Word) (s : State) : exec (.islClkWrite v) s = execIslClkWrite v s := rfl

/-- R24: while no joint port is armed, a word without the reserved code gives both selections. -/
theorem execIslClkWrite_applied {v : Word} {s : State} (ha : s.anyArmed = false) (he : getBits v 0 2 ≠ 3) (hk : getBits v 4 2 ≠ 3) :
    execIslClkWrite v s = .next ((s.put ISL_CLK.EMBER_SEL (getBits v 0 2)).put ISL_CLK.KILN_SEL (getBits v 4 2)) :=
  if_neg (by simp [ha, he, hk])

/-- R24: an armed joint port, or the reserved code in one field, refuses the word as a whole. -/
theorem execIslClkWrite_refused {v : Word} {s : State} (h : s.anyArmed = true ∨ getBits v 0 2 = 3 ∨ getBits v 4 2 = 3) :
    execIslClkWrite v s = .next (s.flag ISL_STAT.SEL_REFUSED) :=
  if_pos h

/-- Settles O9: the write is applied (`execIslClkWrite_applied`) or refused as a whole (`execIslClkWrite_refused`). -/
theorem clockSelectRule : Obligations.ClockSelectRule :=
  ⟨fun v s ha he hk => (exec_islClkWrite v s).trans (execIslClkWrite_applied ha he hk),
    fun v s h => (exec_islClkWrite v s).trans (execIslClkWrite_refused h)⟩

end Sys2Proof.Machine

/-! The rule of R63 for TB_RATE: what a rate request leaves in the registers and in the request. -/

namespace Sys2Proof.Machine

/-- A number within the range is not clamped. -/
theorem clampInt_of_within {lo hi x : Int} (hlo : lo ≤ x) (hhi : x ≤ hi) : clampInt lo hi x = x :=
  (if_neg (Int.not_lt.mpr hlo)).trans (if_neg (Int.not_lt.mpr hhi))

/-- A number beyond a symmetric range is clamped to the limit on its side. -/
theorem clampInt_of_beyond {l x : Int} (hl : 0 ≤ l) (h : x < -l ∨ l < x) : clampInt (-l) l x = if x < 0 then -l else l := by
  unfold clampInt
  rcases h with below | above
  · have neg : x < 0 := by omega
    rw [if_pos below, if_pos neg]
  · have notBelow : ¬ x < -l := by omega
    have nonneg : ¬ x < 0 := by omega
    rw [if_neg notBelow, if_pos above, if_neg nonneg]

/-- A clamp to a symmetric range changes every number beyond it. -/
theorem clampInt_ne_of_beyond {l x : Int} (hl : 0 ≤ l) (h : x < -l ∨ l < x) : clampInt (-l) l x ≠ x := by
  rw [clampInt_of_beyond hl h]
  split <;> omega

/-- The word of the clamped request reads back as the clamped request: the limit of R58 fits a signed word. -/
theorem toInt_wordOf_clampRate (x : Int) : (wordOf (clampInt (-rateLimit) rateLimit x)).toInt = clampInt (-rateLimit) rateLimit x := by
  have bounds : -137438953 ≤ clampInt (-rateLimit) rateLimit x ∧ clampInt (-rateLimit) rateLimit x ≤ 137438953 := by
    unfold clampInt rateLimit
    split
    next => omega
    next => split <;> omega
  exact BitVec.toInt_ofInt_eq_self (by decide) (by omega) (by omega)

/-- Of the registers, showing the slew touches TB_STAT alone. -/
theorem State.showSlew_rd_ne (s : State) {r : Reg} (h : r ≠ .tb .TB_STAT) : s.showSlew.rd r = s.rd r := State.rd_put_ne s _ h

/-- Showing the slew keeps RATE_CLAMPED, another field of TB_STAT. -/
theorem State.showSlew_is_rateClamped (s : State) : s.showSlew.is TB_STAT.RATE_CLAMPED = s.is TB_STAT.RATE_CLAMPED :=
  congrArg (· == 1) (State.get_put_field s _ (by decide))

/-- R58: the request kept is the clamped one. -/
theorem State.requestRate_rateReq (s : State) (x : Int) : (s.requestRate x).time.rateReq = clampInt (-rateLimit) rateLimit x := rfl

/-- A rate request touches no register but TB_STAT. -/
theorem State.requestRate_rd_ne (s : State) (x : Int) {r : Reg} (h : r ≠ .tb .TB_STAT) : (s.requestRate x).rd r = s.rd r := by
  unfold State.requestRate
  rw [State.showSlew_rd_ne _ h]
  split
  next => rfl
  next => exact State.rd_put_ne s _ h

/-- A request that the clamp leaves alone keeps RATE_CLAMPED. -/
theorem State.requestRate_is_rateClamped_of_eq (s : State) {x : Int} (h : clampInt (-rateLimit) rateLimit x = x) :
    (s.requestRate x).is TB_STAT.RATE_CLAMPED = s.is TB_STAT.RATE_CLAMPED := by
  unfold State.requestRate
  rw [State.showSlew_is_rateClamped, if_pos h]
  rfl

/-- A request that the clamp changes sets RATE_CLAMPED. -/
theorem State.requestRate_is_rateClamped_of_ne (s : State) {x : Int} (h : clampInt (-rateLimit) rateLimit x ≠ x) :
    (s.requestRate x).is TB_STAT.RATE_CLAMPED = true := by
  unfold State.requestRate
  rw [State.showSlew_is_rateClamped, if_neg h]
  exact State.is_flag s _ (by decide) (by decide)

/-- R63: with source none, a write of TB_RATE stores the clamped value and requests the word written. -/
theorem exec_tbRateWrite_applied (v : Word) {s : State} (h : s.get TB_CTRL.SOURCE = 0) :
    exec (.tbRateWrite v) s = .next ((s.wr TB_RATE (wordOf (clampInt (-rateLimit) rateLimit v.toInt))).requestRate v.toInt) :=
  congrArg Host.Outcome.next (if_pos h)

/-- R63: with any other source, a write of TB_RATE is ignored and sets RATE_REFUSED. -/
theorem exec_tbRateWrite_refused (v : Word) {s : State} (h : s.get TB_CTRL.SOURCE ≠ 0) :
    exec (.tbRateWrite v) s = .next (s.flag TB_STAT.RATE_REFUSED) :=
  congrArg Host.Outcome.next (if_neg h)

/-- After an applied write, TB_RATE holds the word stored: the request touches TB_STAT alone. -/
theorem State.rd_tbRate_wr_requestRate (s : State) (w : Word) (x : Int) : ((s.wr TB_RATE w).requestRate x).rd TB_RATE = w := by
  rw [State.requestRate_rd_ne _ _ (by decide), State.rd_wr_same]

/-- Settles O13: a write within the limit is not clamped (`clampInt_of_within`), one beyond it is clamped to the limit on its side (`clampInt_of_beyond`), and one under a source is refused. -/
theorem rateWriteRule : Obligations.RateWriteRule := by
  refine ⟨fun v s hs hlo hhi => ⟨_, exec_tbRateWrite_applied v hs, ?_⟩,
    fun v s hs h => ⟨_, exec_tbRateWrite_applied v hs, ?_⟩, fun v s hs => exec_tbRateWrite_refused v hs⟩
  · have within : clampInt (-rateLimit) rateLimit v.toInt = v.toInt := clampInt_of_within hlo hhi
    refine ⟨?_, (State.requestRate_rateReq _ _).trans within, ?_⟩
    · rw [State.rd_tbRate_wr_requestRate, within]
      exact BitVec.ofInt_toInt
    · rw [State.requestRate_is_rateClamped_of_eq _ within]
      exact congrArg (· == 1) (State.get_wr_ne s _ (by decide))
  · have clamped : clampInt (-rateLimit) rateLimit v.toInt = if v.toInt < 0 then -137438953 else 137438953 :=
      clampInt_of_beyond (by decide) h
    refine ⟨?_, (State.requestRate_rateReq _ _).trans clamped,
      State.requestRate_is_rateClamped_of_ne _ (clampInt_ne_of_beyond (by decide) h)⟩
    rw [State.rd_tbRate_wr_requestRate, toInt_wordOf_clampRate, clamped]

end Sys2Proof.Machine

/-! The rule of R74 for TPO_GO: the ranges of the programmed schedule, and what an armed output does within and outside them. -/

namespace Sys2Proof.Machine

/-- The ranges of R74: a period of at least 1,000 ns, and a width from 8 ns to the period less 8 ns. -/
def Pulse.InRange (p : Pulse) : Prop :=
  1000 * nsUnits ≤ p.period ∧ 8 * nsUnits ≤ p.width ∧ p.width + 8 * nsUnits ≤ p.period

/-- A schedule is outside the ranges when one of the three bounds is broken. -/
theorem Pulse.not_inRange_iff {p : Pulse} :
    ¬ p.InRange ↔ p.period < 1000 * 256 ∨ p.width < 8 * 256 ∨ p.period < p.width + 8 * 256 := by
  unfold Pulse.InRange nsUnits
  omega

/-- R74: GO of an armed output whose schedule is outside the ranges only sets BADCFG. -/
theorem exec_tpoGo_badcfg {n : Fin 8} {s : State} (ha : s.is (TPO_CTRL.ARM n) = true) (h : ¬ (s.tpoProgram n).InRange) :
    exec (.tpoGo n) s = .next (s.flag (TPO_STAT.BADCFG n)) :=
  congrArg Host.Outcome.next ((if_pos ha).trans (if_neg h))

/-- R73, R81: GO of an armed output that is not in a pulse commits a schedule within the ranges at the present cell time. -/
theorem exec_tpoGo_commit {n : Fin 8} {s : State} (ha : s.is (TPO_CTRL.ARM n) = true) (h : (s.tpoProgram n).InRange)
    (low : (tget s.pulses n {}).high = false) :
    exec (.tpoGo n) s = .next (s.tpoCommit n (s.tpoProgram n) s.cell) :=
  congrArg Host.Outcome.next ((if_pos ha).trans ((if_pos h).trans (if_neg (Bool.eq_false_iff.mp low))))

/-- Settles O15: outside the ranges GO is refused (`exec_tpoGo_badcfg`), within them it commits (`exec_tpoGo_commit`), and the programmed period and width are read from their registers. -/
theorem pulseRangeRule : Obligations.PulseRangeRule :=
  ⟨fun _ _ ha h => exec_tpoGo_badcfg ha (Pulse.not_inRange_iff.mpr h),
    fun _ _ ha hperiod hwidth hfall low => exec_tpoGo_commit ha ⟨hperiod, hwidth, hfall⟩ low,
    fun _ _ => ⟨rfl, rfl⟩⟩

end Sys2Proof.Machine

/-! The rule of R117 for the five configuration registers of a joint port: what a write does in DISARMED, and in every other state. -/

namespace Sys2Proof.Machine

/-- PWM_CONFIG_WRITE means `execPwmConfigWrite`. -/
theorem exec_pwmConfigWrite (n : Fin 64) (r : PortCfg) (v : Word) (s : State) :
    exec (.pwmConfigWrite n r v) s = execPwmConfigWrite n r v s := rfl

/-- R117: in DISARMED the write is applied, and the pin level and the trip sources of the arm are judged with it. -/
theorem execPwmConfigWrite_applied {n : Fin 64} (r : PortCfg) (v : Word) {s : State} (disarmed : s.get (PWM_STAT.STATE n) = 0) :
    execPwmConfigWrite n r v s = .next (((s.setWritable (portCfgReg n r) v).showPin n).judgeArm (armOf n)) :=
  if_pos disarmed

/-- R117: in every other state the write is ignored and only sets CFG_REFUSED. -/
theorem execPwmConfigWrite_refused {n : Fin 64} (r : PortCfg) (v : Word) {s : State} (h : s.get (PWM_STAT.STATE n) ≠ 0) :
    execPwmConfigWrite n r v s = .next (s.flag (PWM_FLAGS.CFG_REFUSED n)) :=
  if_neg h

/-- Settles O18: the write is applied in DISARMED (`execPwmConfigWrite_applied`) and refused in every other state (`execPwmConfigWrite_refused`), and each of the five names stands for its register. -/
theorem portConfigWriteRule : Obligations.PortConfigWriteRule :=
  ⟨fun n r v s disarmed => (exec_pwmConfigWrite n r v s).trans (execPwmConfigWrite_applied r v disarmed),
    fun n r v s h => (exec_pwmConfigWrite n r v s).trans (execPwmConfigWrite_refused r v h),
    fun _ => ⟨rfl, rfl, rfl, rfl, rfl⟩⟩

end Sys2Proof.Machine

/-! The rule of R185 for the coefficient banks: what a bank write does when it is accepted, and when the bank is the active one. -/

namespace Sys2Proof.Machine

/-- LD_BANK_WRITE means `execLdBankWrite`. -/
theorem exec_ldBankWrite (n : Fin 256) (b : Fin 2) (k : Fin 64) (v : Word) (s : State) :
    exec (.ldBankWrite n b k v) s = execLdBankWrite n b k v s := rfl

/-- Words put into the memory of a loop's tile touch no register. -/
@[simp] theorem State.toTile_rd (s : State) (n : Fin 256) (area k : Nat) (ws : List Word) (r : Reg) :
    (s.toTile n area k ws).rd r = s.rd r := by
  unfold State.toTile
  split
  next => rfl
  next =>
    refine List.foldlRecOn (motive := fun u : State => u.rd r = s.rd r) _ _ rfl fun u hu _ _ => ?_
    exact List.foldlRecOn (motive := fun w : State => w.rd r = s.rd r) _ _ hu
      fun w hw _ _ => (State.mput_rd w _ _ r).trans hw

/-- R187: the copy in the tile's memory leaves the bank's word as it was stored. -/
theorem State.bankPut_rd_same (s : State) (n : Fin 256) (b : Fin 2) (k : Fin 64) (v : Word) :
    (s.bankPut n b k v).rd (LD_BANK n b k) = v := by
  unfold State.bankPut
  rw [State.toTile_rd, State.rd_wr_same]

/-- R185: a bank is writable while the loop is DISABLED, and when LD_STAT.BANK does not show it. -/
def State.BankWritable (s : State) (n : Fin 256) (b : Fin 2) : Prop :=
  s.get (LD_STAT.STATE n) = 0 ∨ s.get (LD_STAT.BANK n) ≠ b.val

/-- A bank is not writable exactly when it is the active bank of a loop that is not DISABLED. -/
theorem State.not_bankWritable_iff {s : State} {n : Fin 256} {b : Fin 2} :
    ¬ s.BankWritable n b ↔ s.get (LD_STAT.STATE n) ≠ 0 ∧ s.get (LD_STAT.BANK n) = b.val := by
  unfold State.BankWritable
  rw [not_or, not_not]

/-- The test that `execLdBankWrite` makes for a held bank fails for a writable one. -/
theorem State.BankWritable.not_held {s : State} {n : Fin 256} {b : Fin 2} (writable : s.BankWritable n b) :
    decide (s.get (LD_STAT.STATE n) ≠ 0 ∧ s.get (LD_STAT.BANK n) = b.val) = false :=
  decide_eq_false fun held => State.not_bankWritable_iff.mpr held writable

/-- R185: a writable bank of a custom loop takes the whole word. -/
theorem execLdBankWrite_custom {n : Fin 256} {b : Fin 2} (k : Fin 64) (v : Word) {s : State} (writable : s.BankWritable n b)
    (custom : s.standard n = false) : execLdBankWrite n b k v s = .next (s.bankPut n b k v) := by
  simp only [execLdBankWrite, writable.not_held, custom, Bool.false_and, Bool.false_eq_true, if_false]

/-- R185, R206: a writable bank of a standard loop takes a scaled coefficient with a legal exponent, without its reserved bits. -/
theorem execLdBankWrite_scaled {n : Fin 256} {b : Fin 2} {k : Fin 64} {v : Word} {s : State} (writable : s.BankWritable n b)
    (std : s.standard n = true) (scaled : coefKind (decide (n.val < 64)) k.val = .scaled) (legal : getBits v 24 5 ≤ 23) :
    execLdBankWrite n b k v s = .next (s.bankPut n b k (v &&& 0x1FFFFFFF)) := by
  have notAbove : decide (23 < getBits v 24 5) = false := decide_eq_false (Nat.not_lt.mpr legal)
  simp only [execLdBankWrite, writable.not_held, notAbove, std, scaled, Bool.and_false, Bool.false_eq_true, if_false, if_true]

/-- R185: a write to a bank that is not writable only sets BANK_REFUSED, with CFG_REFUSED when its exponent is not legal either. -/
theorem execLdBankWrite_refused {n : Fin 256} {b : Fin 2} (k : Fin 64) (v : Word) {s : State} (held : ¬ s.BankWritable n b) :
    ∃ u, (u = s ∨ u = s.flag (LD_STAT.CFG_REFUSED n)) ∧ execLdBankWrite n b k v s = .next (u.flag (LD_STAT.BANK_REFUSED n)) := by
  have active := decide_eq_true (State.not_bankWritable_iff.mp held)
  refine ⟨_, ?_, if_pos active⟩
  split
  next => exact .inr rfl
  next => exact .inl rfl

/-- Setting a flag of LD_STAT leaves every bank word. -/
theorem State.flag_rd_ldBank (s : State) {g : Field} {n : Fin 256} (hg : g.reg = .ld n .LD_STAT) (b : Fin 2) (k : Fin 64) :
    (s.flag g).rd (LD_BANK n b k) = s.rd (LD_BANK n b k) :=
  State.rd_put_ne s 1 (by simp [hg])

/-- Settles O24: a writable bank takes the word (`execLdBankWrite_scaled`, `execLdBankWrite_custom`), and a write to any other sets flags of LD_STAT alone (`execLdBankWrite_refused`). -/
theorem bankWriteRule : Obligations.BankWriteRule := by
  refine ⟨fun n b k v s writable std scaled legal =>
      ⟨_, (exec_ldBankWrite n b k v s).trans (execLdBankWrite_scaled writable std scaled legal), State.bankPut_rd_same s n b k _⟩,
    fun n b k v s writable custom =>
      ⟨_, (exec_ldBankWrite n b k v s).trans (execLdBankWrite_custom k v writable custom), State.bankPut_rd_same s n b k v⟩,
    fun n b k v s running active => ?_⟩
  obtain ⟨u, flagged, runs⟩ := execLdBankWrite_refused k v (State.not_bankWritable_iff.mpr ⟨running, active⟩)
  have kept : u.rd (LD_BANK n b k) = s.rd (LD_BANK n b k) := by
    rcases flagged with rfl | rfl
    · rfl
    · exact State.flag_rd_ldBank s rfl b k
  exact ⟨_, (exec_ldBankWrite n b k v s).trans runs, State.is_flag u _ (by simp) (by simp),
    (State.flag_rd_ldBank u rfl b k).trans kept⟩

end Sys2Proof.Machine

/-! The rule of R365 for the software sources: where their level is read, and what a set and a clear leave in IC_SW. -/

namespace Sys2Proof.Machine

/-- R365: a source from 448 on presents a bit of IC_SW, 32 to a word. -/
theorem State.srcLevel_software (s : State) {n : Fin 512} (h : 448 ≤ n.val) :
    s.srcLevel n = some ((s.rd (IC_SW (fin 2 ((n.val - 448) / 32)))).getLsbD ((n.val - 448) % 32)) := by
  have past : ∀ m, m ≤ 448 → ¬ n.val < m := fun m _ => by omega
  have other : ∀ m, m < 448 → n.val ≠ m := fun m _ => by omega
  simp [State.srcLevel, h, past, other]

/-- The number of software source 32 k + j: its source is 448 on from it. -/
theorem softwareSource_val (k : Fin 2) (j : Fin 32) : (fin 512 (448 + 32 * k.val + j.val)).val = 448 + (32 * k.val + j.val) := by
  simp only [fin, Fin.val_ofNat]
  omega

/-- R365: source 448 + 32 k + j presents bit j of IC_SW[k]. -/
theorem State.srcLevel_softwareSource (s : State) (k : Fin 2) (j : Fin 32) :
    s.srcLevel (fin 512 (448 + 32 * k.val + j.val)) = some ((s.rd (IC_SW k)).getLsbD j.val) := by
  have number := softwareSource_val k j
  have word : fin 2 ((32 * k.val + j.val) / 32) = k := Fin.ext (by simp only [fin, Fin.val_ofNat]; omega)
  have bit : (32 * k.val + j.val) % 32 = j.val := by omega
  rw [s.srcLevel_software (by omega), number, Nat.add_sub_cancel_left, word, bit]

/-- R365: a set by a master whose accesses act joins the word to IC_SW. -/
theorem exec_icSwSet_acts {who : Who} (k : Fin 2) (v : Word) {s : State} (h : s.acts who = true) :
    exec (.icSwSet who k v) s = .next (s.wr (IC_SW k) (s.rd (IC_SW k) ||| v)) :=
  congrArg Host.Outcome.next (if_pos h)

/-- R365: a clear by a master whose accesses act takes from IC_SW the word's bits that no set of the same cycle has. -/
theorem exec_icSwClr_acts {who : Who} (k : Fin 2) (v same : Word) {s : State} (h : s.acts who = true) :
    exec (.icSwClr who k v same) s = .next (s.wr (IC_SW k) (s.rd (IC_SW k) &&& ~~~(v &&& ~~~same))) :=
  congrArg Host.Outcome.next (if_pos h)

/-- A bit outlasts a clear when the clear's word has it not, or a set of the same cycle has it. -/
theorem Word.getLsbD_clear (w v same : Word) (j : Fin 32) :
    (w &&& ~~~(v &&& ~~~same)).getLsbD j.val = (w.getLsbD j.val && (!v.getLsbD j.val || same.getLsbD j.val)) := by
  simp [Bool.not_and]

/-- Settles O44: the level is a bit of IC_SW (`State.srcLevel_softwareSource`), a set joins the word (`exec_icSwSet_acts`), and a clear keeps what the same cycle sets (`exec_icSwClr_acts`, `Word.getLsbD_clear`). -/
theorem softwareSourceRule : Obligations.SoftwareSourceRule := by
  refine ⟨State.srcLevel_softwareSource, fun who k v s acts => ?_, fun who k v same s acts => ?_⟩
  · refine ⟨_, exec_icSwSet_acts k v acts, fun j => ?_⟩
    rw [State.rd_wr_same, BitVec.getLsbD_or]
  · refine ⟨_, exec_icSwClr_acts k v same acts, fun j => ?_⟩
    rw [State.rd_wr_same, Word.getLsbD_clear]

end Sys2Proof.Machine

/-! The slot rule of R514: a write to the command area of a slot that is not EMPTY, and a post of any set of slots. -/

namespace Sys2Proof.Machine

/-- A write that reaches the command area of a slot that is not EMPTY only sets WRITE_REFUSED. -/
theorem State.slotWrite_refused {s : State} {k : Fin 16} {o : Nat} {bs : List Byte} (full : (s.slot k).state ≠ 0)
    (reaches : ∃ j < bs.length, 0x10 ≤ o + j ∧ o + j < 0x800) : s.slotWrite k o bs = s.flag HM_DB_STAT.WRITE_REFUSED := by
  obtain ⟨j, hj, inArea⟩ := reaches
  have cell : (bs[j], j) ∈ bs.zipIdx.filter (fun q => decide (0x10 ≤ o + q.2 ∧ o + q.2 < 0x800)) :=
    List.mem_filter.mpr ⟨by simp [List.mem_zipIdx_iff_getElem?, hj], decide_eq_true inArea⟩
  have nonempty : ¬ (bs.zipIdx.filter (fun q => decide (0x10 ≤ o + q.2 ∧ o + q.2 < 0x800))).isEmpty = true :=
    fun empty => List.ne_nil_of_mem cell (List.isEmpty_iff.mp empty)
  exact (if_neg nonempty).trans (if_pos full)

@[simp] theorem State.flag_slot (s : State) (g : Field) (j : Fin 16) : (s.flag g).slot j = s.slot j := rfl

theorem State.slot_setSlot_same (s : State) (k : Fin 16) (x : MbSlot) : (s.setSlot k x).slot k = x := tget_tset_same _ _ _ _

theorem State.slot_setSlot_ne (s : State) {k j : Fin 16} (x : MbSlot) (h : j ≠ k) : (s.setSlot k x).slot j = s.slot j :=
  tget_tset_ne _ _ _ h

/-- A flag of HM_DB_STAT leaves the owner of every slot: the port's enable stands in HM_STAT. -/
theorem State.flag_hciOwns (s : State) {g : Field} (hg : g.reg = .hm .HM_DB_STAT) (j : Fin 16) : (s.flag g).hciOwns j = s.hciOwns j := by
  have enable : (s.flag g).get HM_STAT.QSPI_EN = s.get HM_STAT.QSPI_EN := State.get_put_reg s 1 (by simp [hg])
  simp only [State.hciOwns, State.is, enable]

/-- R514: whether a post through PCIe takes a slot, that is, it is EMPTY and HCI-1 does not own it. -/
def State.takesPost (s : State) (k : Fin 16) : Bool := (s.slot k).state == 0 && !s.hciOwns k

theorem State.takesPost_iff {s : State} {k : Fin 16} : s.takesPost k = true ↔ (s.slot k).state = 0 ∧ s.hciOwns k = false := by
  simp [State.takesPost]

theorem State.not_takesPost_iff {s : State} {k : Fin 16} : s.takesPost k = false ↔ (s.slot k).state ≠ 0 ∨ s.hciOwns k = true := by
  simp [State.takesPost, imp_iff_not_or]

/-- The slot as a post through PCIe leaves it (R512). -/
def MbSlot.posted (x : MbSlot) : MbSlot :=
  { x with state := 1, tag := x.hdr 2 2 % 2 ^ 12, code := 0, qspi := false, out := none, drop := false }

/-- The post of a slot that does not take it only sets POST_REFUSED. -/
theorem State.postSlot_refused {s : State} {k : Fin 16} (h : s.takesPost k = false) :
    s.postSlot k false = s.flag HM_DB_STAT.POST_REFUSED :=
  if_pos (by simpa using State.not_takesPost_iff.mp h)

/-- The post of a slot that takes it makes it POSTED, last in the order of posts. -/
theorem State.postSlot_taken {s : State} {k : Fin 16} (h : s.takesPost k = true) :
    s.postSlot k false = (s.setSlot k (s.slot k).posted).updMail (fun m => { m with posted := m.posted ++ [k] }) :=
  if_neg (by simpa using State.takesPost_iff.mp h)

theorem State.postSlot_hciOwns (s : State) (k j : Fin 16) : (s.postSlot k false).hciOwns j = s.hciOwns j := by
  cases h : s.takesPost k with
  | false => rw [State.postSlot_refused h, State.flag_hciOwns s rfl]
  | true => rw [State.postSlot_taken h]; rfl

/-- A post leaves every other slot, and a slot that does not take it. -/
theorem State.postSlot_slot_kept {s : State} {k j : Fin 16} (h : j ≠ k ∨ s.takesPost j = false) :
    (s.postSlot k false).slot j = s.slot j := by
  cases taken : s.takesPost k with
  | false => rw [State.postSlot_refused taken, State.flag_slot]
  | true =>
    have other : j ≠ k := h.elim id fun refused same => by simp [same, taken] at refused
    rw [State.postSlot_taken taken]
    exact State.slot_setSlot_ne s _ other

theorem State.postSlot_state {s : State} {k : Fin 16} (h : s.takesPost k = true) : ((s.postSlot k false).slot k).state = 1 := by
  rw [State.postSlot_taken h]
  exact congrArg MbSlot.state (State.slot_setSlot_same s k _)

/-- A post changes for no other slot, nor for one that does not take it, whether it takes one. -/
theorem State.postSlot_takesPost {s : State} {k j : Fin 16} (h : j ≠ k ∨ s.takesPost j = false) :
    (s.postSlot k false).takesPost j = s.takesPost j := by
  rw [State.takesPost, State.takesPost, State.postSlot_slot_kept h, State.postSlot_hciOwns]

/-- A post puts the slot last in the order of posts if it takes it. -/
theorem State.postSlot_posted (s : State) (k : Fin 16) : (s.postSlot k false).mb.posted = s.mb.posted ++ [k].filter s.takesPost := by
  cases h : s.takesPost k with
  | false => simp [State.postSlot_refused h, h]
  | true => simp [State.postSlot_taken h, State.setSlot, h]

theorem State.postSlot_postRefused {s : State} {k : Fin 16} (h : s.takesPost k = false) :
    (s.postSlot k false).is HM_DB_STAT.POST_REFUSED = true := by
  rw [State.postSlot_refused h]
  exact State.is_flag s _ (by simp) (by simp)

theorem State.postSlot_postRefused_kept {s : State} (k : Fin 16) (h : s.is HM_DB_STAT.POST_REFUSED = true) :
    (s.postSlot k false).is HM_DB_STAT.POST_REFUSED = true := by
  cases taken : s.takesPost k with
  | false => exact State.postSlot_postRefused taken
  | true => rwa [State.postSlot_taken taken, State.updMail_is, State.setSlot_is]

/-- The posts of several slots through PCIe, one after the other. -/
def State.postSlots (s : State) (ks : List (Fin 16)) : State := ks.foldl (fun s k => s.postSlot k false) s

@[simp] theorem State.postSlots_nil (s : State) : s.postSlots [] = s := rfl

@[simp] theorem State.postSlots_cons (s : State) (k : Fin 16) (ks : List (Fin 16)) :
    s.postSlots (k :: ks) = (s.postSlot k false).postSlots ks := rfl

/-- The slots that a word of HM_DB_POST names, in ascending order. -/
def namedSlots (v : BitVec 16) : List (Fin 16) := (finList 16).filter (fun k => v.getLsbD k.val)

theorem mem_namedSlots {v : BitVec 16} {k : Fin 16} : k ∈ namedSlots v ↔ v.getLsbD k.val = true := by
  simp [namedSlots, finList]

theorem nodup_namedSlots (v : BitVec 16) : (namedSlots v).Nodup := (List.nodup_finRange 16).filter _

/-- R514: MB_POST posts the slots named, lowest first. -/
theorem exec_mbPost (v : BitVec 16) (s : State) : exec (.mbPost v) s = .next (s.postSlots (namedSlots v)) := rfl

theorem exec_mbCommandWrite (k : Fin 16) (o : Nat) (bs : List Byte) (s : State) :
    exec (.mbCommandWrite k o bs) s = .next (s.slotWrite k o bs) := rfl

/-- Posts leave a slot that does not take them. -/
theorem State.postSlots_slot_refused {s : State} {k : Fin 16} (ks : List (Fin 16)) (h : s.takesPost k = false) :
    (s.postSlots ks).slot k = s.slot k := by
  induction ks generalizing s with
  | nil => rfl
  | cons j ks ih => rw [State.postSlots_cons, ih ((State.postSlot_takesPost (.inr h)).trans h), State.postSlot_slot_kept (.inr h)]

theorem State.postSlots_postRefused_kept {s : State} (ks : List (Fin 16)) (h : s.is HM_DB_STAT.POST_REFUSED = true) :
    (s.postSlots ks).is HM_DB_STAT.POST_REFUSED = true := by
  induction ks generalizing s with
  | nil => exact h
  | cons j ks ih => exact ih (State.postSlot_postRefused_kept j h)

/-- Posts of which a slot does not take one set POST_REFUSED. -/
theorem State.postSlots_postRefused {s : State} {k : Fin 16} {ks : List (Fin 16)} (named : k ∈ ks) (h : s.takesPost k = false) :
    (s.postSlots ks).is HM_DB_STAT.POST_REFUSED = true := by
  induction named generalizing s with
  | head ks => exact State.postSlots_postRefused_kept ks (State.postSlot_postRefused h)
  | tail j _ ih => exact ih ((State.postSlot_takesPost (.inr h)).trans h)

/-- A slot that takes its post is POSTED after all of them: a later post of it finds it not EMPTY. -/
theorem State.postSlots_state {s : State} {k : Fin 16} {ks : List (Fin 16)} (named : k ∈ ks) (h : s.takesPost k = true) :
    ((s.postSlots ks).slot k).state = 1 := by
  induction ks generalizing s with
  | nil => cases named
  | cons j ks ih =>
    by_cases same : k = j
    · subst same
      have now : ((s.postSlot k false).slot k).state = 1 := State.postSlot_state h
      have full : (s.postSlot k false).takesPost k = false := State.not_takesPost_iff.mpr (.inl (by simp [now]))
      rw [State.postSlots_cons, State.postSlots_slot_refused ks full, now]
    · exact ih ((List.mem_cons.mp named).resolve_left same) ((State.postSlot_takesPost (.inl same)).trans h)

/-- The slots that take their post stand behind the former ones, in the order in which they are named. -/
theorem State.postSlots_posted {s : State} {ks : List (Fin 16)} (once : ks.Nodup) :
    (s.postSlots ks).mb.posted = s.mb.posted ++ ks.filter s.takesPost := by
  induction ks generalizing s with
  | nil => simp
  | cons k ks ih =>
    obtain ⟨absent, rest⟩ := List.nodup_cons.mp once
    have same : ks.filter (s.postSlot k false).takesPost = ks.filter s.takesPost :=
      List.filter_congr fun j hj => State.postSlot_takesPost (.inl (ne_of_mem_of_not_mem hj absent))
    calc (s.postSlots (k :: ks)).mb.posted
        = (s.postSlot k false).mb.posted ++ ks.filter (s.postSlot k false).takesPost := ih rest
      _ = s.mb.posted ++ ([k].filter s.takesPost ++ ks.filter s.takesPost) := by
          rw [same, State.postSlot_posted, List.append_assoc]
      _ = s.mb.posted ++ (k :: ks).filter s.takesPost := by rw [← List.filter_append, List.singleton_append]

/-- Settles O52: the write is refused by `State.slotWrite_refused`; along the posts a slot that does not take its post is kept and flagged (`State.postSlots_slot_refused`, `State.postSlots_postRefused`), one that takes it is POSTED (`State.postSlots_state`), and the order is that of `State.postSlots_posted`. -/
theorem slotRefusalRule : Obligations.SlotRefusalRule := by
  refine ⟨fun k o bs s full reaches => ?_, fun v s => ⟨_, exec_mbPost v s, fun k named refused => ?_, fun k named empty free => ?_, ?_⟩⟩
  · rw [exec_mbCommandWrite, State.slotWrite_refused full reaches]
  · have refuses := State.not_takesPost_iff.mpr refused
    exact ⟨State.postSlots_slot_refused _ refuses, State.postSlots_postRefused (mem_namedSlots.mpr named) refuses⟩
  · exact State.postSlots_state (mem_namedSlots.mpr named) (State.takesPost_iff.mpr ⟨empty, free⟩)
  · rw [State.postSlots_posted (nodup_namedSlots v), namedSlots, List.filter_filter]
    simp only [State.takesPost, Bool.and_comm, Bool.and_left_comm]

end Sys2Proof.Machine

/-! What every step keeps of the memories: the one form, a case of `exec_stored`. -/

namespace Sys2Proof.Machine

open Sys2Proof

/-- What must outlast a command at a state: its OTP bits, its time, its count of free values, and every part but those listed. -/
def State.keptBut (s : State) (l : List Part) : Kept :=
  { otp := s.otpWord, now := s.now, fresh := s.fresh, ref := s, keep := fun p => decide (p ∉ l) }

theorem State.keptBut_free (s : State) (l : List Part) : (s.keptBut l).free l := fun _ hp => decide_eq_false (not_not_intro hp)

theorem Part.same_refl (p : Part) (s : State) : p.same s s := by
  cases p with
  | reg g => exact fun _ _ => rfl
  | _ => rfl

/-- A state with its memory and flash in their one form is stored as it stands. -/
theorem State.stored_keptBut {s : State} (l : List Part) (h : s.memoryWf) : s.Stored s.pending (s.keptBut l) :=
  ⟨rfl, h.1, h.2, fun _ => BitVec.and_self, le_refl _, le_refl _, fun p _ => p.same_refl s⟩

theorem memoryWf_of_stored {q : List Instr} {b : Kept} {s : State} (h : s.Stored q b) : s.memoryWf := ⟨h.2.1, h.2.2.1⟩

/-- A command at a state in the one form leaves one in it. -/
theorem exec_memoryWf {c : Instr} {s t : State} (h : s.memoryWf) (e : exec c s = .next t) : t.memoryWf := by
  have stored := exec_stored c (State.stored_keptBut (touches c) h) (s.keptBut_free _)
  rw [e] at stored
  exact memoryWf_of_stored stored

/-- With no command waiting a step only lets one fabric cycle pass. -/
theorem step_idle {s : State} (h : s.pending = []) : step s = .next (s.advance (s.now + nsUnits)) := by
  unfold step
  rw [h]

/-- A step with a command in front of the queue is that command with the rest of the queue waiting. -/
theorem step_front {s : State} {c : Instr} {q : List Instr} (h : s.pending = c :: q) : step s = exec c (s.withPending q) := by
  unfold step
  rw [h]

/-- Settles O1: the two branches of `step` (`step_front`, `step_idle`). -/
theorem stepRunsFront : Obligations.StepRunsFront :=
  ⟨fun _ _ _ => step_front rfl, fun _ h => step_idle h⟩

/-- Settles O3: the idle step leaves both memories, and a command keeps their form (`exec_memoryWf`). -/
theorem stepKeepsMemoryCanonical : Obligations.StepKeepsMemoryCanonical := by
  intro s t wf e
  cases waiting : s.pending with
  | nil =>
    rw [step_idle waiting] at e
    cases e
    exact wf
  | cons c q =>
    rw [step_front waiting] at e
    exact exec_memoryWf (s := s.withPending q) wf e

/-- Settles O2: the tables, the memories and the queues of `State.reset` are empty, and an empty table reads as its default. -/
theorem resetState : Obligations.ResetState :=
  ⟨⟨rfl, fun _ => rfl, rfl, rfl, rfl, fun _ => rfl, fun _ => rfl, fun _ _ => ⟨rfl, rfl⟩, fun _ => ⟨rfl, rfl, rfl⟩⟩,
    ⟨List.Pairwise.nil, fun _ h => nomatch h⟩, ⟨List.Pairwise.nil, fun _ h => nomatch h⟩⟩

end Sys2Proof.Machine

/-! What every operation leaves, in a state of any memory, of the parts that outlast it: the queue as it was, every OTP bit that was set, device time, the
count of free values, and the parts that the operation does not name. This is `State.Stored` without the one form of memory and flash, and the files
below prove it by the same lemma per operation, so that the frames hold of states whose memory has not that form. -/

namespace Sys2Proof.Machine

open Sys2Proof

/-- The queue is q, every bit of b is set in the OTP, the instant and the number of free
values of b are reached, and the parts that b keeps are those of its state. -/
def State.Framed (q : List Instr) (b : Kept) (s : State) : Prop :=
  s.pending = q ∧ (∀ a, b.otp a &&& s.otpWord a = b.otp a) ∧ b.now ≤ s.now ∧ b.fresh ≤ s.fresh ∧
    ∀ p, b.keep p = true → p.same b.ref s

theorem framed_mk {q : List Instr} {b : Kept} {t : State} {v_rdata v_ident v_seq v_time v_caps v_pulses v_lk v_evts v_pwr v_ports v_axes v_sdclk v_filters v_fbs v_loops v_arms v_kiln v_plannerRan v_planDue v_tiles v_stk v_pc v_ic v_si v_eth v_chain v_claspA v_claspB v_mb}
    (h_rdata : b.keep .rdata = false ∨ v_rdata = t.rdata)
    (h_ident : b.keep .ident = false ∨ v_ident = t.ident)
    (h_seq : b.keep .seq = false ∨ v_seq = t.seq)
    (h_time : b.keep .time = false ∨ v_time = t.time)
    (h_caps : b.keep .caps = false ∨ v_caps = t.caps)
    (h_pulses : b.keep .pulses = false ∨ v_pulses = t.pulses)
    (h_lk : b.keep .lk = false ∨ v_lk = t.lk)
    (h_evts : b.keep .evts = false ∨ v_evts = t.evts)
    (h_pwr : b.keep .pwr = false ∨ v_pwr = t.pwr)
    (h_ports : b.keep .ports = false ∨ v_ports = t.ports)
    (h_axes : b.keep .axes = false ∨ v_axes = t.axes)
    (h_sdclk : b.keep .sdclk = false ∨ v_sdclk = t.sdclk)
    (h_filters : b.keep .filters = false ∨ v_filters = t.filters)
    (h_fbs : b.keep .fbs = false ∨ v_fbs = t.fbs)
    (h_loops : b.keep .loops = false ∨ v_loops = t.loops)
    (h_arms : b.keep .arms = false ∨ v_arms = t.arms)
    (h_kiln : b.keep .kiln = false ∨ v_kiln = t.kiln)
    (h_plannerRan : b.keep .plannerRan = false ∨ v_plannerRan = t.plannerRan)
    (h_planDue : b.keep .planDue = false ∨ v_planDue = t.planDue)
    (h_tiles : b.keep .tiles = false ∨ v_tiles = t.tiles)
    (h_stk : b.keep .stk = false ∨ v_stk = t.stk)
    (h_pc : b.keep .pc = false ∨ v_pc = t.pc)
    (h_ic : b.keep .ic = false ∨ v_ic = t.ic)
    (h_si : b.keep .si = false ∨ v_si = t.si)
    (h_eth : b.keep .eth = false ∨ v_eth = t.eth)
    (h_chain : b.keep .chain = false ∨ v_chain = t.chain)
    (h_claspA : b.keep .claspA = false ∨ v_claspA = t.claspA)
    (h_claspB : b.keep .claspB = false ∨ v_claspB = t.claspB)
    (h_mb : b.keep .mb = false ∨ v_mb = t.mb) :
    State.Framed q b (State.mk t.pending t.now t.regs t.mem t.fresh v_rdata v_ident v_seq v_time v_caps v_pulses v_lk v_evts v_pwr v_ports v_axes v_sdclk v_filters v_fbs v_loops v_arms v_kiln v_plannerRan v_planDue v_tiles v_stk v_pc v_ic v_si v_eth v_chain v_claspA v_claspB v_mb t.boot) = t.Framed q b := by
  unfold State.Framed
  refine propext (and_congr_right' (and_congr_right' (and_congr_right' (and_congr_right' ?_))))
  refine forall_congr' fun p => ?_
  cases p with
  | rdata => exact keep_iff (h_rdata.imp_right fun e => congrArg (b.ref.rdata = ·) e)
  | ident => exact keep_iff (h_ident.imp_right fun e => congrArg (b.ref.ident = ·) e)
  | seq => exact keep_iff (h_seq.imp_right fun e => congrArg (b.ref.seq = ·) e)
  | time => exact keep_iff (h_time.imp_right fun e => congrArg (b.ref.time = ·) e)
  | caps => exact keep_iff (h_caps.imp_right fun e => congrArg (b.ref.caps = ·) e)
  | pulses => exact keep_iff (h_pulses.imp_right fun e => congrArg (b.ref.pulses = ·) e)
  | lk => exact keep_iff (h_lk.imp_right fun e => congrArg (b.ref.lk = ·) e)
  | evts => exact keep_iff (h_evts.imp_right fun e => congrArg (b.ref.evts = ·) e)
  | pwr => exact keep_iff (h_pwr.imp_right fun e => congrArg (b.ref.pwr = ·) e)
  | ports => exact keep_iff (h_ports.imp_right fun e => congrArg (b.ref.ports = ·) e)
  | axes => exact keep_iff (h_axes.imp_right fun e => congrArg (b.ref.axes = ·) e)
  | sdclk => exact keep_iff (h_sdclk.imp_right fun e => congrArg (b.ref.sdclk = ·) e)
  | filters => exact keep_iff (h_filters.imp_right fun e => congrArg (b.ref.filters = ·) e)
  | fbs => exact keep_iff (h_fbs.imp_right fun e => congrArg (b.ref.fbs = ·) e)
  | loops => exact keep_iff (h_loops.imp_right fun e => congrArg (b.ref.loops = ·) e)
  | arms => exact keep_iff (h_arms.imp_right fun e => congrArg (b.ref.arms = ·) e)
  | kiln => exact keep_iff (h_kiln.imp_right fun e => congrArg (b.ref.kiln = ·) e)
  | plannerRan => exact keep_iff (h_plannerRan.imp_right fun e => congrArg (b.ref.plannerRan = ·) e)
  | planDue => exact keep_iff (h_planDue.imp_right fun e => congrArg (b.ref.planDue = ·) e)
  | tiles => exact keep_iff (h_tiles.imp_right fun e => congrArg (b.ref.tiles = ·) e)
  | stk => exact keep_iff (h_stk.imp_right fun e => congrArg (b.ref.stk = ·) e)
  | pc => exact keep_iff (h_pc.imp_right fun e => congrArg (b.ref.pc = ·) e)
  | ic => exact keep_iff (h_ic.imp_right fun e => congrArg (b.ref.ic = ·) e)
  | si => exact keep_iff (h_si.imp_right fun e => congrArg (b.ref.si = ·) e)
  | eth => exact keep_iff (h_eth.imp_right fun e => congrArg (b.ref.eth = ·) e)
  | chain => exact keep_iff (h_chain.imp_right fun e => congrArg (b.ref.chain = ·) e)
  | claspA => exact keep_iff (h_claspA.imp_right fun e => congrArg (b.ref.claspA = ·) e)
  | claspB => exact keep_iff (h_claspB.imp_right fun e => congrArg (b.ref.claspB = ·) e)
  | mb => exact keep_iff (h_mb.imp_right fun e => congrArg (b.ref.mb = ·) e)
  | _ => exact Iff.rfl

theorem framed_ite {q : List Instr} {b : Kept} {c : Prop} {inst : Decidable c} {t u : State} (ht : t.Framed q b) (hu : u.Framed q b) :
    State.Framed q b (if c then t else u) := by
  split
  · exact ht
  · exact hu

theorem framed_foldl {q : List Instr} {b : Kept} {α : Type} {f : State → α → State} {l : List α} {s : State}
    (hf : ∀ s x, s.Framed q b → (f s x).Framed q b) (h : s.Framed q b) : (l.foldl f s).Framed q b := by
  induction l generalizing s with
  | nil => exact h
  | cons x r ih => exact ih (hf s x h)

theorem framed_foldl_fst {q : List Instr} {b : Kept} {α β : Type} {f : State × β → α → State × β} {l : List α} {p : State × β}
    (hf : ∀ p x, p.1.Framed q b → (f p x).1.Framed q b) (h : p.1.Framed q b) : (l.foldl f p).1.Framed q b := by
  induction l generalizing p with
  | nil => exact h
  | cons x r ih => exact ih (hf p x h)

theorem framed_of_pair {q : List Instr} {b : Kept} {α : Type} {p : State × α} {t : State} {x : α} (e : p = (t, x))
    (h : p.1.Framed q b) : t.Framed q b := by rw [e] at h; exact h

theorem framed_of_some_pair {q : List Instr} {b : Kept} {α : Type} {o : Option (State × α)} {t : State} {x : α} (e : o = some (t, x))
    (h : ∀ t, o = some t → t.1.Framed q b) : t.Framed q b := h _ e

theorem framed_getD {q : List Instr} {b : Kept} {o : Option State} {s : State} (h : ∀ t, o = some t → t.Framed q b) (hs : s.Framed q b) :
    (o.getD s).Framed q b := by
  cases o with
  | none => exact hs
  | some t => exact h t rfl

theorem framed_id {q : List Instr} {b : Kept} {s : State} (h : s.Framed q b) : State.Framed q b (id s) := h

theorem framed_put_mem {q : List Instr} {b : Kept} {s : State} {m : List Host.Cell} (h : s.Framed q b) (k : b.keep .mem = false) :
    State.Framed q b { s with mem := m } :=
  ⟨h.1, h.2.1, h.2.2.1, h.2.2.2.1, kept_but h.2.2.2.2 k fun p hp => by
    cases p with
    | mem => exact absurd rfl hp
    | reg g => exact fun _ _ => rfl
    | _ => rfl⟩

end Sys2Proof.Machine

/-! The registers, memory, Locket, the ports and the tiles keep what `State.Framed` says: one lemma per operation. -/

namespace Sys2Proof.Machine

open Sys2Proof

variable {q : List Instr} {b : Kept}

theorem State.wr_framed {s : State} {r : Reg} {v : Word} (hs : State.Framed q b s) (kf : b.keep (.reg r.group) = false) :
    State.Framed q b (s.wr r v) :=
  ⟨hs.1, hs.2.1, hs.2.2.1, hs.2.2.2.1, kept_but hs.2.2.2.2 kf fun p hp => by
    cases p with
    | reg g =>
      intro j hj
      refine (State.rd_wr_ne s v ?_).symm
      rintro rfl
      exact hp (congrArg Part.reg hj.symm)
    | _ => rfl⟩

theorem State.put_framed {s : State} {f : Field} {v : Nat} (hs : State.Framed q b s) (kf : b.keep (.reg f.reg.group) = false) :
    State.Framed q b (State.put s f v) := by
  unfold State.put
  with_reducible apply State.wr_framed
  with_reducible assumption
  with_reducible assumption

theorem State.putB_framed {s : State} {f : Field} {b_ : Bool} (hs : State.Framed q b s) (kf : b.keep (.reg f.reg.group) = false) :
    State.Framed q b (State.putB s f b_) := by
  unfold State.putB
  with_reducible apply State.put_framed
  with_reducible assumption
  with_reducible assumption

theorem State.flag_framed {s : State} {f : Field} (hs : State.Framed q b s) (kf : b.keep (.reg f.reg.group) = false) :
    State.Framed q b (State.flag s f) := by
  unfold State.flag
  with_reducible apply State.put_framed
  with_reducible assumption
  with_reducible assumption

theorem State.bump_framed {s : State} {r : Reg} (hs : State.Framed q b s) (kf : b.keep (.reg r.group) = false) :
    State.Framed q b (State.bump s r) := by
  unfold State.bump
  with_reducible apply State.wr_framed
  with_reducible assumption
  with_reducible assumption

theorem State.count_framed {s : State} {r : Reg} (hs : State.Framed q b s) (kf : b.keep (.reg r.group) = false) :
    State.Framed q b (State.count s r) := by
  unfold State.count
  with_reducible apply State.wr_framed
  with_reducible assumption
  with_reducible assumption

theorem State.bumpField_framed {s : State} {f : Field} (hs : State.Framed q b s) (kf : b.keep (.reg f.reg.group) = false) :
    State.Framed q b (State.bumpField s f) := by
  unfold State.bumpField
  with_reducible apply State.put_framed
  with_reducible assumption
  with_reducible assumption

theorem State.wr48_framed {s : State} {lo : Reg} {hi : Reg} {x : Int} (hs : State.Framed q b s) (kf : b.keep (.reg lo.group) = false) (kf1 : b.keep (.reg hi.group) = false) :
    State.Framed q b (State.wr48 s lo hi x) := by
  unfold State.wr48
  with_reducible apply State.wr_framed
  with_reducible apply State.wr_framed
  with_reducible assumption
  with_reducible assumption
  with_reducible assumption

theorem State.useFresh_framed {s : State} (hs : State.Framed q b s) (kf : b.free [Part.fresh]) : State.Framed q b s.useFresh :=
  ⟨hs.1, hs.2.1, hs.2.2.1, Nat.le_succ_of_le hs.2.2.2.1, kept_but hs.2.2.2.2 (kf.get rfl) fun p hp => by
    cases p with
    | fresh => exact absurd rfl hp
    | reg g => exact fun _ _ => rfl
    | _ => rfl⟩

theorem State.answer_framed {s : State} {ws : List Word} (hs : State.Framed q b s) (kf : b.free [Part.rdata]) :
    State.Framed q b (State.answer s ws) := by
  have k_rdata : b.keep .rdata = false := kf.get rfl
  unfold State.answer
  simp -zeta only [framed_mk, k_rdata, or_true, true_or]
  with_reducible assumption

theorem State.advance_framed {s : State} {t_ : Time} (hs : State.Framed q b s) (kf : b.free [Part.now]) : State.Framed q b (s.advance t_) :=
  ⟨hs.1, hs.2.1, le_trans hs.2.2.1 (le_max_left _ _), hs.2.2.2.1, kept_but hs.2.2.2.2 (kf.get rfl) fun p hp => by
    cases p with
    | now => exact absurd rfl hp
    | reg g => exact fun _ _ => rfl
    | _ => rfl⟩

theorem State.mwrite_framed {s : State} {a : Nat} {bs : List Byte} (hs : State.Framed q b s) (kf : b.free [Part.mem]) :
    State.Framed q b (s.mwrite a bs) :=
  framed_put_mem hs (kf.get rfl)

theorem State.mput_framed {s : State} {a : Nat} {w : Word} (hs : State.Framed q b s) (kf : b.free [Part.mem]) :
    State.Framed q b (State.mput s a w) := by
  unfold State.mput
  with_reducible apply State.mwrite_framed
  with_reducible assumption
  exact kf.sub rfl

theorem State.mishap_framed {s : State} {comps : List Nat} (hs : State.Framed q b s) (kf : b.free [Part.boot]) :
    State.Framed q b (s.mishap comps) := by
  unfold State.mishap
  split
  · exact ⟨hs.1, hs.2.1, hs.2.2.1, hs.2.2.2.1, kept_but hs.2.2.2.2 (kf.get rfl) fun p hp => by
      cases p with
      | boot => exact absurd rfl hp
      | reg g => exact fun _ _ => rfl
      | _ => rfl⟩
  · exact hs

theorem framed_updBoot {s : State} {f : BootState → BootState} (hs : State.Framed q b s)
  (ho : ∀ a, b.otp a &&& tget s.boot.otp a 0 = b.otp a → b.otp a &&& tget (f s.boot).otp a 0 = b.otp a) (kf : b.free [Part.boot]) :
    State.Framed q b (s.updBoot f) :=
  ⟨hs.1, fun a => ho a (hs.2.1 a), hs.2.2.1, hs.2.2.2.1, kept_but hs.2.2.2.2 (kf.get rfl) fun p hp => by
    cases p with
    | boot => exact absurd rfl hp
    | reg g => exact fun _ _ => rfl
    | _ => rfl⟩

theorem State.updBoot_framed {s : State} {f : BootState → BootState} (hs : State.Framed q b s)
    (h : (f s.boot).otp = s.boot.otp) (kf : b.free [Part.boot]) : State.Framed q b (s.updBoot f) :=
  framed_updBoot hs (fun a e => by rw [h]; exact e) kf

theorem State.showOtp_framed {s : State} (hs : State.Framed q b s) (kf : b.free [Part.reg RegGroup.hm, Part.reg RegGroup.otp]) :
    State.Framed q b (State.showOtp s) := by
  unfold State.showOtp
  extract_lets +onlyGivenNames x; clear_value x
  extract_lets +onlyGivenNames x; clear_value x
  extract_lets +onlyGivenNames x; refine (fun (hx : State.Framed q b x) => ?_) ?_ <;> [(try clear_value x); subst x]
  extract_lets +onlyGivenNames x; refine (fun (hx : State.Framed q b x) => ?_) ?_ <;> [(try clear_value x); subst x]
  extract_lets +onlyGivenNames x; refine (fun (hx : State.Framed q b x) => ?_) ?_ <;> [(try clear_value x); subst x]
  with_reducible apply State.putB_framed
  with_reducible apply State.wr_framed
  with_reducible assumption
  exact kf.get rfl
  exact kf.get rfl
  with_reducible apply framed_foldl
  intro _ _ _
  with_reducible apply State.wr_framed
  with_reducible assumption
  exact kf.get rfl
  with_reducible assumption
  with_reducible apply State.put_framed
  with_reducible apply State.put_framed
  with_reducible assumption
  exact kf.get rfl
  exact kf.get rfl
  with_reducible apply State.putB_framed
  with_reducible apply State.putB_framed
  with_reducible apply State.putB_framed
  with_reducible apply State.putB_framed
  with_reducible assumption
  exact kf.get rfl
  exact kf.get rfl
  exact kf.get rfl
  exact kf.get rfl

theorem State.otpBurn_framed {s : State} {a : Nat} {v took : Word} (hs : State.Framed q b s) (kf :
    b.free [Part.reg RegGroup.hm, Part.reg RegGroup.otp, Part.boot]) :
  State.Framed q b (s.otpBurn a v took) := by
  have key : State.Framed q b (s.updBoot (fun x => { x with otp := tset x.otp a (s.otpWord a ||| (v &&& took)) })) := by
    refine framed_updBoot hs (fun j h => ?_) (kf.sub rfl)
    show b.otp j &&& tget (tset s.boot.otp a (s.otpWord a ||| (v &&& took))) j 0 = b.otp j
    by_cases hj : j = a
    · subst hj
      rw [tget_tset_same]
      change b.otp j &&& s.otpWord j = b.otp j at h
      generalize s.otpWord j = w at h ⊢
      rw [BitVec.and_or_distrib_left, h]
      apply BitVec.eq_of_getLsbD_eq
      intro i hi
      simp only [BitVec.getLsbD_or, BitVec.getLsbD_and]
      cases (b.otp j).getLsbD i <;> simp
    · rw [tget_tset_ne _ _ _ hj]
      exact h
  unfold State.otpBurn
  dsimp only
  split
  · exact State.showOtp_framed key (kf.sub rfl)
  · exact State.flag_framed (State.showOtp_framed key (kf.sub rfl)) (kf.get rfl)

theorem State.otpProgram_framed {s : State} {who : Who} (hs : State.Framed q b s) (kf : b.free [Part.reg RegGroup.otp, Part.boot]) :
    State.Framed q b (State.otpProgram s who) := by
  unfold State.otpProgram
  with_reducible apply framed_ite
  with_reducible apply State.flag_framed
  with_reducible assumption
  exact kf.get rfl
  with_reducible apply State.updBoot_framed
  with_reducible apply State.put_framed
  with_reducible assumption
  exact kf.get rfl
  rfl
  exact kf.sub rfl

theorem execOtpProgram_framed {who : Who} {s : State} (hs : State.Framed q b s) (kf : b.free [Part.reg RegGroup.otp, Part.boot]) :
    answers (execOtpProgram who s) (State.Framed q b) := by
  unfold execOtpProgram
  with_reducible apply answers_next
  with_reducible apply State.otpProgram_framed
  with_reducible assumption
  exact kf.sub rfl

theorem execOtpProgramDone_framed {took : Word} {s : State} (hs : State.Framed q b s) (kf : b.free [Part.reg RegGroup.hm, Part.reg RegGroup.otp, Part.now, Part.boot]) :
    answers (execOtpProgramDone took s) (State.Framed q b) := by
  unfold execOtpProgramDone
  split
  with_reducible apply answers_next
  with_reducible assumption
  with_reducible apply answers_next
  with_reducible apply State.otpBurn_framed
  with_reducible apply State.put_framed
  with_reducible apply State.updBoot_framed
  with_reducible apply State.advance_framed
  with_reducible assumption
  exact kf.sub rfl
  rfl
  exact kf.sub rfl
  exact kf.get rfl
  exact kf.sub rfl

theorem State.showEvts_framed {s : State} (hs : State.Framed q b s) (kf : b.free [Part.reg RegGroup.ic]) :
    State.Framed q b (State.showEvts s) := by
  unfold State.showEvts
  with_reducible apply State.putB_framed
  with_reducible assumption
  exact kf.get rfl

theorem State.offerEvent_framed {s : State} {r : Rec} (hs : State.Framed q b s) (kf : b.free [Part.reg RegGroup.ic, Part.reg RegGroup.hm, Part.evts]) :
    State.Framed q b (State.offerEvent s r) := by
  have k_evts : b.keep .evts = false := kf.get rfl
  unfold State.offerEvent
  with_reducible apply framed_ite
  with_reducible apply framed_ite
  with_reducible apply State.showEvts_framed
  simp -zeta only [framed_mk, k_evts, or_true, true_or]
  with_reducible assumption
  exact kf.sub rfl
  with_reducible apply State.bump_framed
  with_reducible assumption
  exact kf.get rfl
  with_reducible assumption

theorem State.appendRec_framed {s : State} {r : Rec} (hs : State.Framed q b s) (kf : b.free (postParts)) :
    State.Framed q b (State.appendRec s r) := by
  have k_lk : b.keep .lk = false := kf.get rfl
  unfold State.appendRec
  extract_lets +onlyGivenNames x; clear_value x
  extract_lets +onlyGivenNames x; refine (fun (hx : State.Framed q b x) => ?_) ?_ <;> [(try clear_value x); subst x]
  extract_lets +onlyGivenNames x; refine (fun (hx : State.Framed q b x) => ?_) ?_ <;> [(try clear_value x); subst x]
  with_reducible apply framed_ite
  with_reducible apply State.flag_framed
  with_reducible assumption
  exact kf.get rfl
  with_reducible assumption
  with_reducible apply State.offerEvent_framed
  with_reducible assumption
  exact kf.sub rfl
  simp -zeta only [framed_mk, k_lk, or_true, true_or]
  with_reducible assumption

theorem State.startFlush_framed {s : State} (hs : State.Framed q b s) (kf : b.free [Part.reg RegGroup.lk, Part.lk]) :
    State.Framed q b (State.startFlush s) := by
  have k_lk : b.keep .lk = false := kf.get rfl
  unfold State.startFlush
  extract_lets +onlyGivenNames x; clear_value x
  split
  simp -zeta only [framed_mk, k_lk, or_true, true_or]
  with_reducible assumption
  with_reducible apply State.put_framed
  simp -zeta only [framed_mk, k_lk, or_true, true_or]
  with_reducible assumption
  exact kf.get rfl

theorem State.reportLost_framed {s : State} (hs : State.Framed q b s) (kf : b.free (postParts)) : State.Framed q b (State.reportLost s) := by
  have k_lk : b.keep .lk = false := kf.get rfl
  unfold State.reportLost
  extract_lets +onlyGivenNames x; clear_value x
  extract_lets +onlyGivenNames x; clear_value x
  extract_lets +onlyGivenNames x; clear_value x
  with_reducible apply framed_ite
  with_reducible assumption
  with_reducible apply State.appendRec_framed
  simp -zeta only [framed_mk, k_lk, or_true, true_or]
  with_reducible assumption
  exact kf.sub rfl

theorem State.acceptRec_framed {s : State} {r : Rec} (hs : State.Framed q b s) (kf : b.free (postParts)) :
    State.Framed q b (State.acceptRec s r) := by
  have k_lk : b.keep .lk = false := kf.get rfl
  unfold State.acceptRec
  extract_lets +onlyGivenNames x; clear_value x
  extract_lets +onlyGivenNames x; refine (fun (hx : State.Framed q b x) => ?_) ?_ <;> [(try clear_value x); subst x]
  extract_lets +onlyGivenNames x; clear_value x
  extract_lets +onlyGivenNames x; refine (fun (hx : State.Framed q b x) => ?_) ?_ <;> [(try clear_value x); subst x]
  split
  simp -zeta only [framed_mk, k_lk, or_true, true_or]
  with_reducible assumption
  with_reducible apply framed_ite
  with_reducible apply State.flag_framed
  with_reducible apply State.bump_framed
  simp -zeta only [framed_mk, k_lk, or_true, true_or]
  with_reducible assumption
  exact kf.get rfl
  exact kf.get rfl
  with_reducible apply framed_ite
  with_reducible apply State.startFlush_framed
  with_reducible assumption
  exact kf.sub rfl
  with_reducible assumption
  with_reducible apply State.appendRec_framed
  with_reducible assumption
  exact kf.sub rfl
  with_reducible apply State.reportLost_framed
  simp -zeta only [framed_mk, k_lk, or_true, true_or]
  with_reducible assumption
  exact kf.sub rfl

theorem State.postAt_framed {s : State} {type : Nat} {sev : Nat} {addr : Word} {payload : List Byte} {cell : Nat} (hs : State.Framed q b s) (kf : b.free (postParts)) :
    State.Framed q b (State.postAt s type sev addr payload cell) := by
  have k_lk : b.keep .lk = false := kf.get rfl
  unfold State.postAt
  extract_lets +onlyGivenNames x; clear_value x
  with_reducible apply framed_ite
  simp -zeta only [framed_mk, k_lk, or_true, true_or]
  with_reducible assumption
  with_reducible apply framed_ite
  with_reducible apply State.acceptRec_framed
  with_reducible assumption
  exact kf.sub rfl
  with_reducible apply State.acceptRec_framed
  with_reducible assumption
  exact kf.sub rfl

theorem State.post_framed {s : State} {type : Nat} {sev : Nat} {addr : Word} {payload : List Byte} (hs : State.Framed q b s) (kf : b.free (postParts)) :
    State.Framed q b (State.post s type sev addr payload) := by
  unfold State.post
  with_reducible apply State.postAt_framed
  with_reducible assumption
  exact kf.sub rfl

theorem execLocketPost_framed {type : Nat} {sev : Fin 4} {addr : Word} {payload : List Byte} {cell : Nat} {s : State} (hs : State.Framed q b s) (kf : b.free (postParts)) :
    answers (execLocketPost type sev addr payload cell s) (State.Framed q b) := by
  unfold execLocketPost
  with_reducible apply answers_next
  with_reducible apply State.postAt_framed
  with_reducible assumption
  exact kf.sub rfl

theorem execLocketFlush_framed {bad : Option Nat} {s : State} (hs : State.Framed q b s) (kf : b.free (postParts)) :
    answers (execLocketFlush bad s) (State.Framed q b) := by
  have k_lk : b.keep .lk = false := kf.get rfl
  unfold execLocketFlush
  extract_lets +onlyGivenNames x; refine (fun (hx : State.Framed q b x) => ?_) ?_ <;> [(try clear_value x); subst x]
  extract_lets +onlyGivenNames x; clear_value x
  split
  with_reducible apply answers_next
  with_reducible assumption
  extract_lets +onlyGivenNames x; refine (fun (hx : State.Framed q b x) => ?_) ?_ <;> [(try clear_value x); subst x]
  extract_lets +onlyGivenNames x; refine (fun (hx : State.Framed q b x) => ?_) ?_ <;> [(try clear_value x); subst x]
  with_reducible apply answers_ite
  with_reducible apply answers_next
  with_reducible apply State.post_framed
  with_reducible assumption
  exact kf.sub rfl
  with_reducible apply answers_next
  with_reducible assumption
  with_reducible apply State.flag_framed
  with_reducible apply State.bump_framed
  with_reducible assumption
  exact kf.get rfl
  exact kf.get rfl
  simp -zeta only [framed_mk, k_lk, or_true, true_or]
  with_reducible assumption
  with_reducible apply State.startFlush_framed
  with_reducible assumption
  exact kf.sub rfl

theorem State.endFlush_framed {s : State} {f : Flush} (hs : State.Framed q b s) (kf : b.free (postParts)) :
    State.Framed q b (State.endFlush s f) := by
  have k_lk : b.keep .lk = false := kf.get rfl
  unfold State.endFlush
  extract_lets +onlyGivenNames x; refine (fun (hx : State.Framed q b x) => ?_) ?_ <;> [(try clear_value x); subst x]
  extract_lets +onlyGivenNames x; clear_value x
  extract_lets +onlyGivenNames x; refine (fun (hx : State.Framed q b x) => ?_) ?_ <;> [(try clear_value x); subst x]
  with_reducible apply State.reportLost_framed
  with_reducible apply State.count_framed
  with_reducible apply State.put_framed
  with_reducible assumption
  exact kf.get rfl
  exact kf.get rfl
  exact kf.sub rfl
  simp -zeta only [framed_mk, k_lk, or_true, true_or]
  with_reducible assumption
  with_reducible apply State.reportLost_framed
  with_reducible assumption
  exact kf.sub rfl

theorem execLocketFlushDone_framed {s : State} (hs : State.Framed q b s) (kf : b.free (postParts ++ [Part.now])) :
    answers (execLocketFlushDone s) (State.Framed q b) := by
  unfold execLocketFlushDone
  split
  with_reducible apply answers_next
  with_reducible assumption
  with_reducible apply answers_next
  with_reducible apply State.endFlush_framed
  with_reducible apply State.advance_framed
  with_reducible assumption
  exact kf.sub rfl
  exact kf.sub rfl

theorem execLocketPeriodExpiry_framed {s : State} (hs : State.Framed q b s) (kf : b.free [Part.reg RegGroup.lk, Part.now, Part.lk]) :
    answers (execLocketPeriodExpiry s) (State.Framed q b) := by
  unfold execLocketPeriodExpiry
  with_reducible apply answers_ite
  with_reducible apply answers_next
  with_reducible assumption
  with_reducible apply answers_next
  with_reducible apply State.startFlush_framed
  with_reducible apply State.advance_framed
  with_reducible assumption
  exact kf.sub rfl
  exact kf.sub rfl

theorem execLkFlushWrite_framed {s : State} (hs : State.Framed q b s) (kf : b.free [Part.reg RegGroup.lk, Part.lk]) :
    answers (execLkFlushWrite s) (State.Framed q b) := by
  unfold execLkFlushWrite
  with_reducible apply answers_next
  with_reducible apply State.startFlush_framed
  with_reducible assumption
  exact kf.sub rfl

theorem execLkIndexLoRead_framed {which : LkIndex} {s : State} (hs : State.Framed q b s) (kf :
    b.free [Part.reg RegGroup.lk, Part.rdata]) :
  answers (execLkIndexLoRead which s) (State.Framed q b) := by
  unfold execLkIndexLoRead
  cases which <;> exact answers_next (State.answer_framed (State.wr_framed hs (kf.get rfl)) (kf.sub rfl))

theorem State.setAxis_framed {s : State} {i : Fin 16} {a : StepAxis} (hs : State.Framed q b s) (kf : b.free [Part.axes]) :
    State.Framed q b (State.setAxis s i a) := by
  have k_axes : b.keep .axes = false := kf.get rfl
  unfold State.setAxis
  simp -zeta only [framed_mk, k_axes, or_true, true_or]
  with_reducible assumption

theorem Stp.shown_framed {s : State} {i : Fin 16} (hs : State.Framed q b s) (kf : b.free [Part.reg RegGroup.stp]) :
    State.Framed q b (Stp.shown s i) := by
  unfold Stp.shown
  extract_lets +onlyGivenNames x; clear_value x
  extract_lets +onlyGivenNames x; refine (fun (hx : State.Framed q b x) => ?_) ?_ <;> [(try clear_value x); subst x]
  extract_lets +onlyGivenNames x; refine (fun (hx : State.Framed q b x) => ?_) ?_ <;> [(try clear_value x); subst x]
  split
  with_reducible apply State.put_framed
  with_reducible apply State.wr48_framed
  with_reducible assumption
  exact kf.get rfl
  exact kf.get rfl
  exact kf.get rfl
  with_reducible assumption
  with_reducible apply State.putB_framed
  with_reducible assumption
  exact kf.get rfl
  with_reducible apply State.wr_framed
  with_reducible assumption
  exact kf.get rfl

theorem Stp.begin__framed {s : State} {i : Fin 16} {t_ : Nat} (hs : State.Framed q b s) (kf : b.free [Part.reg RegGroup.stp, Part.axes]) :
    State.Framed q b (Stp.begin_ s i t_) := by
  unfold Stp.begin_
  extract_lets +onlyGivenNames x; clear_value x
  extract_lets +onlyGivenNames x; clear_value x
  split
  with_reducible assumption
  extract_lets +onlyGivenNames x; clear_value x
  extract_lets +onlyGivenNames x; clear_value x
  with_reducible apply Stp.shown_framed
  with_reducible apply State.put_framed
  with_reducible apply State.setAxis_framed
  with_reducible assumption
  exact kf.sub rfl
  exact kf.get rfl
  exact kf.sub rfl

theorem Stp.orient_framed {s : State} {i : Fin 16} {t_ : Nat} (hs : State.Framed q b s) (kf : b.free [Part.reg RegGroup.stp, Part.axes]) :
    State.Framed q b (Stp.orient s i t_) := by
  unfold Stp.orient
  extract_lets +onlyGivenNames x; clear_value x
  extract_lets +onlyGivenNames x; clear_value x
  split
  with_reducible assumption
  extract_lets +onlyGivenNames x; clear_value x
  with_reducible apply framed_ite
  with_reducible apply framed_ite
  with_reducible apply Stp.shown_framed
  with_reducible assumption
  exact kf.sub rfl
  with_reducible apply Stp.begin__framed
  with_reducible assumption
  exact kf.sub rfl
  with_reducible apply framed_ite
  with_reducible apply Stp.shown_framed
  with_reducible assumption
  exact kf.sub rfl
  with_reducible apply Stp.shown_framed
  with_reducible apply State.setAxis_framed
  with_reducible assumption
  exact kf.sub rfl
  exact kf.sub rfl

theorem Stp.finish_framed {s : State} {i : Fin 16} {m : StepMove} (hs : State.Framed q b s) (kf : b.free [Part.reg RegGroup.stp]) :
    State.Framed q b (Stp.finish s i m) := by
  unfold Stp.finish
  with_reducible apply State.wr_framed
  with_reducible assumption
  exact kf.get rfl

theorem Stp.reversal_framed {s : State} {i : Fin 16} {p0 : Int} (hs : State.Framed q b s) (kf : b.free (postParts ++ [Part.reg RegGroup.stp])) :
    State.Framed q b (Stp.reversal s i p0) := by
  unfold Stp.reversal
  extract_lets +onlyGivenNames x; clear_value x
  with_reducible apply State.post_framed
  with_reducible apply State.flag_framed
  with_reducible apply State.wr_framed
  with_reducible assumption
  exact kf.get rfl
  exact kf.get rfl
  exact kf.sub rfl

theorem Stp.startNext_framed {i : Fin 16} {t : Nat} {l : List StepMove} {s : State} (hs : State.Framed q b s) (kf :
    b.free [Part.reg RegGroup.stp, Part.axes]) :
  State.Framed q b (Stp.startNext i t l s) := by
  induction l generalizing s with
  | nil => exact Stp.shown_framed (State.put_framed (State.put_framed (State.setAxis_framed hs (kf.sub rfl)) (kf.get rfl)) (kf.get rfl)) (kf.sub rfl)
  | cons m r ih =>
    unfold Stp.startNext
    dsimp only
    split
    · exact Stp.shown_framed (State.put_framed (State.put_framed (State.setAxis_framed hs (kf.sub rfl)) (kf.get rfl)) (kf.get rfl)) (kf.sub rfl)
    · split
      · exact ih (Stp.finish_framed hs (kf.sub rfl))
      · exact Stp.orient_framed (State.put_framed (State.put_framed (State.setAxis_framed hs (kf.sub rfl)) (kf.get rfl)) (kf.get rfl)) (kf.sub rfl)

theorem Stp.toRest_framed {s : State} {i : Fin 16} {t_ : Nat} (hs : State.Framed q b s) (kf : b.free (postParts ++ [Part.reg RegGroup.stp, Part.axes])) :
    State.Framed q b (Stp.toRest s i t_) := by
  unfold Stp.toRest
  extract_lets +onlyGivenNames x; clear_value x
  extract_lets +onlyGivenNames x; refine (fun (hx : State.Framed q b x) => ?_) ?_ <;> [(try clear_value x); subst x]
  with_reducible apply Stp.startNext_framed
  with_reducible apply State.wr_framed
  with_reducible apply State.setAxis_framed
  with_reducible assumption
  exact kf.sub rfl
  exact kf.get rfl
  exact kf.sub rfl
  split
  with_reducible apply Stp.reversal_framed
  with_reducible assumption
  exact kf.sub rfl
  with_reducible assumption

theorem State.eachMember_framed {s : State} {master : Fin 16} {f : State → Fin 16 → State} (hs : State.Framed q b s)
  (hf : ∀ t x, State.Framed q b t → State.Framed q b (f t x)) :
    State.Framed q b (State.eachMember s master f) := by
  unfold State.eachMember
  apply framed_foldl
  · intro t x ht
    try dsimp only
    split
    · exact framed_ite (hf t x ht) ht
    · exact ht
  · exact hs

theorem State.stopGroup_framed {s : State} {g : GroupRun} {atOnce : Bool} (hs : State.Framed q b s) (kf : b.free (postParts ++ [Part.reg RegGroup.stp, Part.axes])) :
    State.Framed q b (State.stopGroup s g atOnce) := by
  unfold State.stopGroup
  extract_lets +onlyGivenNames x; clear_value x
  with_reducible apply framed_ite
  with_reducible apply State.eachMember_framed
  with_reducible assumption
  intro _ _ _
  with_reducible apply Stp.toRest_framed
  with_reducible assumption
  exact kf.sub rfl
  split
  with_reducible apply State.eachMember_framed
  with_reducible apply State.setAxis_framed
  with_reducible assumption
  exact kf.sub rfl
  intro _ _ _
  with_reducible apply State.put_framed
  with_reducible assumption
  exact kf.get rfl
  with_reducible assumption

theorem State.groupRest_framed {s : State} {g : GroupRun} (hs : State.Framed q b s) (kf : b.free (postParts ++ [Part.reg RegGroup.stp, Part.axes])) :
    State.Framed q b (State.groupRest s g) := by
  unfold State.groupRest
  with_reducible apply State.eachMember_framed
  with_reducible assumption
  intro _ _ _
  extract_lets +onlyGivenNames x; clear_value x
  with_reducible apply framed_ite
  with_reducible apply State.setAxis_framed
  with_reducible assumption
  exact kf.sub rfl
  with_reducible apply Stp.toRest_framed
  with_reducible assumption
  exact kf.sub rfl

theorem State.safeHalt_framed {s : State} {i : Fin 16} (hs : State.Framed q b s) (kf : b.free (postParts ++ [Part.reg RegGroup.stp, Part.axes])) :
    State.Framed q b (State.safeHalt s i) := by
  unfold State.safeHalt
  extract_lets +onlyGivenNames x; clear_value x
  extract_lets +onlyGivenNames x; clear_value x
  extract_lets +onlyGivenNames x; refine (fun (hx : State.Framed q b x) => ?_) ?_ <;> [(try clear_value x); subst x]
  extract_lets +onlyGivenNames x; refine (fun (hx : State.Framed q b x) => ?_) ?_ <;> [(try clear_value x); subst x]
  extract_lets +onlyGivenNames x; refine (fun (hx : State.Framed q b x) => ?_) ?_ <;> [(try clear_value x); subst x]
  with_reducible apply framed_ite
  with_reducible apply framed_ite
  with_reducible apply State.flag_framed
  with_reducible assumption
  exact kf.get rfl
  with_reducible assumption
  with_reducible assumption
  with_reducible apply Stp.shown_framed
  with_reducible apply State.wr_framed
  with_reducible apply State.put_framed
  with_reducible apply State.flag_framed
  with_reducible apply State.put_framed
  with_reducible assumption
  exact kf.get rfl
  exact kf.get rfl
  exact kf.get rfl
  exact kf.get rfl
  exact kf.sub rfl
  split
  with_reducible apply State.stopGroup_framed
  with_reducible assumption
  exact kf.sub rfl
  with_reducible assumption
  with_reducible apply State.setAxis_framed
  with_reducible assumption
  exact kf.sub rfl

theorem State.haltPort_framed {s : State} {n : Fin 64} (hs : State.Framed q b s) (kf : b.free (postParts ++ [Part.reg RegGroup.stp, Part.axes])) :
    State.Framed q b (State.haltPort s n) := by
  unfold State.haltPort
  with_reducible apply framed_foldl
  intro _ _ _
  with_reducible apply framed_ite
  with_reducible apply State.safeHalt_framed
  with_reducible assumption
  exact kf.sub rfl
  with_reducible assumption
  with_reducible assumption

theorem State.haltArm_framed {s : State} {a : Fin 8} (hs : State.Framed q b s) (kf : b.free (postParts ++ [Part.reg RegGroup.stp, Part.axes])) :
    State.Framed q b (State.haltArm s a) := by
  unfold State.haltArm
  with_reducible apply framed_foldl
  intro _ _ _
  with_reducible apply framed_ite
  with_reducible apply State.safeHalt_framed
  with_reducible assumption
  exact kf.sub rfl
  with_reducible assumption
  with_reducible assumption

theorem State.updUpd_framed {s : State} {f : Update → Update} (hs : State.Framed q b s) (kf : b.free [Part.boot]) :
    State.Framed q b (State.updUpd s f) := by
  unfold State.updUpd
  with_reducible apply State.updBoot_framed
  with_reducible assumption
  rfl
  exact kf.sub rfl

theorem State.setDir_framed {s : State} {c : Fin 6} {d : Fin 2 × Nat} (hs : State.Framed q b s) (kf : b.free [Part.boot]) :
    State.Framed q b (State.setDir s c d) := by
  unfold State.setDir
  with_reducible apply State.updBoot_framed
  with_reducible assumption
  rfl
  exact kf.sub rfl

theorem State.setRuns_framed {s : State} {pl : Fin 2} {c : Fin 6} {k : Fin 2} (hs : State.Framed q b s) (kf : b.free [Part.boot]) :
    State.Framed q b (State.setRuns s pl c k) := by
  unfold State.setRuns
  with_reducible apply State.updBoot_framed
  with_reducible assumption
  rfl
  exact kf.sub rfl

theorem State.setRunsAll_framed {s : State} {c : Fin 6} {k : Fin 2} (hs : State.Framed q b s) (kf : b.free [Part.boot]) :
    State.Framed q b (State.setRunsAll s c k) := by
  unfold State.setRunsAll
  with_reducible apply State.setRuns_framed
  with_reducible apply State.setRuns_framed
  with_reducible assumption
  exact kf.sub rfl
  exact kf.sub rfl

theorem State.setPhase_framed {s : State} {ph : Nat} {k : Fin 2} (hs : State.Framed q b s) (kf : b.free (postParts ++ [Part.boot])) :
    State.Framed q b (State.setPhase s ph k) := by
  unfold State.setPhase
  extract_lets +onlyGivenNames x; refine (fun (hx : State.Framed q b x) => ?_) ?_ <;> [(try clear_value x); subst x]
  with_reducible apply State.post_framed
  with_reducible assumption
  exact kf.sub rfl
  with_reducible apply State.updUpd_framed
  with_reducible assumption
  exact kf.sub rfl

theorem State.startWindow_framed {s : State} (hs : State.Framed q b s) (kf : b.free (postParts ++ [Part.boot])) :
    State.Framed q b (State.startWindow s) := by
  unfold State.startWindow
  extract_lets +onlyGivenNames x; clear_value x
  extract_lets +onlyGivenNames x; clear_value x
  with_reducible apply State.setPhase_framed
  with_reducible apply State.updUpd_framed
  with_reducible assumption
  exact kf.sub rfl
  exact kf.sub rfl

theorem State.updArmed_framed {s : State} (hs : State.Framed q b s) (kf : b.free (postParts ++ [Part.boot])) :
    State.Framed q b (State.updArmed s) := by
  unfold State.updArmed
  with_reducible apply framed_ite
  with_reducible apply State.startWindow_framed
  with_reducible assumption
  exact kf.sub rfl
  with_reducible assumption

theorem State.setPort_framed {s : State} {n : Fin 64} {p : Port} (hs : State.Framed q b s) (kf : b.free [Part.ports]) :
    State.Framed q b (State.setPort s n p) := by
  have k_ports : b.keep .ports = false := kf.get rfl
  unfold State.setPort
  simp -zeta only [framed_mk, k_ports, or_true, true_or]
  with_reducible assumption

theorem State.showLive_framed {s : State} {n : Fin 64} (hs : State.Framed q b s) (kf : b.free [Part.reg RegGroup.port]) :
    State.Framed q b (State.showLive s n) := by
  unfold State.showLive
  extract_lets +onlyGivenNames x; clear_value x
  with_reducible apply State.put_framed
  with_reducible apply State.put_framed
  with_reducible apply State.put_framed
  with_reducible apply State.put_framed
  with_reducible assumption
  exact kf.get rfl
  exact kf.get rfl
  exact kf.get rfl
  exact kf.get rfl

theorem State.updPort_framed {s : State} {n : Fin 64} {p : Port} (hs : State.Framed q b s) (kf : b.free [Part.reg RegGroup.port, Part.ports]) :
    State.Framed q b (State.updPort s n p) := by
  unfold State.updPort
  with_reducible apply State.showLive_framed
  with_reducible apply State.setPort_framed
  with_reducible assumption
  exact kf.sub rfl
  exact kf.sub rfl

theorem State.finding_framed {s : State} {kind : Nat} {place : Nat} (hs : State.Framed q b s) (kf : b.free [Part.pc]) :
    State.Framed q b (State.finding s kind place) := by
  have k_pc : b.keep .pc = false := kf.get rfl
  unfold State.finding
  extract_lets +onlyGivenNames x; clear_value x
  extract_lets +onlyGivenNames x; clear_value x
  simp -zeta only [framed_mk, k_pc, or_true, true_or]
  with_reducible assumption

theorem State.foldSig_framed {s : State} {pl : Fin 2} {pos : Fin 17} {a : Nat} {bs : List Byte} (hs : State.Framed q b s) (kf : b.free [Part.pc]) :
    State.Framed q b (State.foldSig s pl pos a bs) := by
  have k_pc : b.keep .pc = false := kf.get rfl
  unfold State.foldSig
  extract_lets +onlyGivenNames x; clear_value x
  extract_lets +onlyGivenNames x; clear_value x
  extract_lets +onlyGivenNames x; clear_value x
  simp -zeta only [framed_mk, k_pc, or_true, true_or]
  with_reducible assumption

theorem State.showStill_framed {s : State} {n : Fin 64} (hs : State.Framed q b s) (kf : b.free [Part.reg RegGroup.port]) :
    State.Framed q b (State.showStill s n) := by
  unfold State.showStill
  with_reducible apply State.putB_framed
  with_reducible assumption
  exact kf.get rfl

theorem State.showStillArm_framed {s : State} {a : Fin 8} (hs : State.Framed q b s) (kf : b.free [Part.reg RegGroup.port]) :
    State.Framed q b (State.showStillArm s a) := by
  unfold State.showStillArm
  with_reducible apply framed_foldl
  intro _ _ _
  with_reducible apply framed_ite
  with_reducible apply State.showStill_framed
  with_reducible assumption
  exact kf.sub rfl
  with_reducible assumption
  with_reducible assumption

theorem State.trip_framed {s : State} {n : Fin 64} {src : Nat} (hs : State.Framed q b s) (kf : b.free (postParts ++ [Part.reg RegGroup.port, Part.reg RegGroup.stp, Part.ports, Part.axes])) :
    State.Framed q b (State.trip s n src) := by
  unfold State.trip
  extract_lets +onlyGivenNames x; clear_value x
  extract_lets +onlyGivenNames x; clear_value x
  extract_lets +onlyGivenNames x; clear_value x
  extract_lets +onlyGivenNames x; clear_value x
  extract_lets +onlyGivenNames x; refine (fun (hx : State.Framed q b x) => ?_) ?_ <;> [(try clear_value x); subst x]
  extract_lets +onlyGivenNames x; refine (fun (hx : State.Framed q b x) => ?_) ?_ <;> [(try clear_value x); subst x]
  extract_lets +onlyGivenNames x; refine (fun (hx : State.Framed q b x) => ?_) ?_ <;> [(try clear_value x); subst x]
  with_reducible apply State.haltPort_framed
  with_reducible assumption
  exact kf.sub rfl
  with_reducible apply State.post_framed
  with_reducible assumption
  exact kf.sub rfl
  with_reducible apply State.showLive_framed
  with_reducible apply State.bump_framed
  with_reducible apply State.put_framed
  with_reducible apply State.put_framed
  with_reducible assumption
  exact kf.get rfl
  exact kf.get rfl
  exact kf.get rfl
  exact kf.sub rfl
  with_reducible apply State.setPort_framed
  with_reducible apply State.put_framed
  with_reducible assumption
  exact kf.get rfl
  exact kf.sub rfl

theorem State.judgeTrip_framed {s : State} {n : Fin 64} (hs : State.Framed q b s) (kf : b.free (postParts ++ [Part.reg RegGroup.port, Part.reg RegGroup.stp, Part.ports, Part.axes])) :
    State.Framed q b (State.judgeTrip s n) := by
  unfold State.judgeTrip
  extract_lets +onlyGivenNames x; clear_value x
  extract_lets +onlyGivenNames x; refine (fun (hx : State.Framed q b x) => ?_) ?_ <;> [(try clear_value x); subst x]
  extract_lets +onlyGivenNames x; refine (fun (hx : State.Framed q b x) => ?_) ?_ <;> [(try clear_value x); subst x]
  extract_lets +onlyGivenNames x; clear_value x
  with_reducible apply framed_ite
  with_reducible assumption
  with_reducible apply framed_ite
  with_reducible apply framed_ite
  with_reducible apply State.updPort_framed
  with_reducible assumption
  exact kf.sub rfl
  with_reducible assumption
  with_reducible apply framed_ite
  with_reducible assumption
  with_reducible apply State.trip_framed
  with_reducible assumption
  exact kf.sub rfl
  with_reducible apply State.put_framed
  with_reducible assumption
  exact kf.get rfl
  with_reducible apply State.showStill_framed
  with_reducible assumption
  exact kf.sub rfl

theorem State.judgeArm_framed {s : State} {a : Fin 8} (hs : State.Framed q b s) (kf : b.free (postParts ++ [Part.reg RegGroup.port, Part.reg RegGroup.stp, Part.ports, Part.axes])) :
    State.Framed q b (State.judgeArm s a) := by
  unfold State.judgeArm
  with_reducible apply framed_foldl
  intro _ _ _
  with_reducible apply framed_ite
  with_reducible apply State.judgeTrip_framed
  with_reducible assumption
  exact kf.sub rfl
  with_reducible assumption
  with_reducible assumption

theorem State.showPin_framed {s : State} {n : Fin 64} (hs : State.Framed q b s) (kf : b.free [Part.reg RegGroup.port]) :
    State.Framed q b (State.showPin s n) := by
  unfold State.showPin
  with_reducible apply State.putB_framed
  with_reducible assumption
  exact kf.get rfl

theorem State.setPin_framed {s : State} {n : Fin 64} {active : Bool} (hs : State.Framed q b s) (kf : b.free [Part.reg RegGroup.port, Part.ports]) :
    State.Framed q b (State.setPin s n active) := by
  unfold State.setPin
  extract_lets +onlyGivenNames x; clear_value x
  with_reducible apply State.showPin_framed
  with_reducible apply State.setPort_framed
  with_reducible assumption
  exact kf.sub rfl
  exact kf.sub rfl

theorem State.shortPulse_framed {s : State} {t_ : Nat} {samples : Nat} (hs : State.Framed q b s) (kf : b.free [Part.now]) :
    State.Framed q b (State.shortPulse s t_ samples) := by
  unfold State.shortPulse
  with_reducible apply State.advance_framed
  with_reducible assumption
  exact kf.sub rfl

theorem execTripPinAssert_framed {n : Fin 64} {t_ : Nat} {samples : Nat} {s : State} (hs : State.Framed q b s) (kf : b.free (postParts ++ [Part.reg RegGroup.port, Part.reg RegGroup.stp, Part.now, Part.ports, Part.axes])) :
    answers (execTripPinAssert n t_ samples s) (State.Framed q b) := by
  unfold execTripPinAssert
  extract_lets +onlyGivenNames x; clear_value x
  extract_lets +onlyGivenNames x; refine (fun (hx : State.Framed q b x) => ?_) ?_ <;> [(try clear_value x); subst x]
  extract_lets +onlyGivenNames x; clear_value x
  extract_lets +onlyGivenNames x; refine (fun (hx : State.Framed q b x) => ?_) ?_ <;> [(try clear_value x); subst x]
  with_reducible apply answers_ite
  with_reducible apply answers_next
  with_reducible apply State.shortPulse_framed
  with_reducible assumption
  exact kf.sub rfl
  with_reducible apply answers_next
  with_reducible apply State.judgeArm_framed
  with_reducible apply framed_ite
  with_reducible apply State.advance_framed
  with_reducible assumption
  exact kf.sub rfl
  with_reducible assumption
  exact kf.sub rfl
  with_reducible apply State.judgeTrip_framed
  with_reducible apply State.setPort_framed
  with_reducible assumption
  exact kf.sub rfl
  exact kf.sub rfl
  with_reducible apply State.advance_framed
  with_reducible apply State.setPin_framed
  with_reducible assumption
  exact kf.sub rfl
  exact kf.sub rfl

theorem execTripPinRelease_framed {n : Fin 64} {t_ : Nat} {samples : Nat} {s : State} (hs : State.Framed q b s) (kf : b.free (postParts ++ [Part.reg RegGroup.port, Part.reg RegGroup.stp, Part.now, Part.ports, Part.axes])) :
    answers (execTripPinRelease n t_ samples s) (State.Framed q b) := by
  unfold execTripPinRelease
  extract_lets +onlyGivenNames x; clear_value x
  extract_lets +onlyGivenNames x; refine (fun (hx : State.Framed q b x) => ?_) ?_ <;> [(try clear_value x); subst x]
  extract_lets +onlyGivenNames x; clear_value x
  with_reducible apply answers_ite
  with_reducible apply answers_next
  with_reducible apply State.shortPulse_framed
  with_reducible assumption
  exact kf.sub rfl
  with_reducible apply answers_next
  with_reducible apply State.judgeArm_framed
  with_reducible apply State.setPort_framed
  with_reducible assumption
  exact kf.sub rfl
  exact kf.sub rfl
  with_reducible apply State.advance_framed
  with_reducible apply State.setPin_framed
  with_reducible assumption
  exact kf.sub rfl
  exact kf.sub rfl

theorem State.forceTrip_framed {s : State} {n : Fin 64} (hs : State.Framed q b s) (kf : b.free (postParts ++ [Part.reg RegGroup.port, Part.reg RegGroup.stp, Part.ports, Part.axes])) :
    State.Framed q b (State.forceTrip s n) := by
  unfold State.forceTrip
  with_reducible apply State.judgeTrip_framed
  with_reducible apply State.put_framed
  with_reducible assumption
  exact kf.get rfl
  exact kf.sub rfl

theorem execForceTripSet_framed {n : Fin 64} {s : State} (hs : State.Framed q b s) (kf : b.free (postParts ++ [Part.reg RegGroup.port, Part.reg RegGroup.stp, Part.ports, Part.axes])) :
    answers (execForceTripSet n s) (State.Framed q b) := by
  unfold execForceTripSet
  with_reducible apply answers_next
  with_reducible apply State.forceTrip_framed
  with_reducible assumption
  exact kf.sub rfl

theorem execForceTripClear_framed {n : Fin 64} {s : State} (hs : State.Framed q b s) (kf : b.free [Part.reg RegGroup.port]) :
    answers (execForceTripClear n s) (State.Framed q b) := by
  unfold execForceTripClear
  with_reducible apply answers_next
  with_reducible apply State.showStill_framed
  with_reducible apply State.put_framed
  with_reducible assumption
  exact kf.get rfl
  exact kf.sub rfl

theorem execClrTrip_framed {n : Fin 64} {s : State} (hs : State.Framed q b s) (kf : b.free (postParts ++ [Part.reg RegGroup.port, Part.ports])) :
    answers (execClrTrip n s) (State.Framed q b) := by
  unfold execClrTrip
  extract_lets +onlyGivenNames x; refine (fun (hx : State.Framed q b x) => ?_) ?_ <;> [(try clear_value x); subst x]
  extract_lets +onlyGivenNames x; refine (fun (hx : State.Framed q b x) => ?_) ?_ <;> [(try clear_value x); subst x]
  extract_lets +onlyGivenNames x; refine (fun (hx : State.Framed q b x) => ?_) ?_ <;> [(try clear_value x); subst x]
  extract_lets +onlyGivenNames x; clear_value x
  with_reducible apply answers_ite
  with_reducible apply answers_next
  with_reducible apply State.post_framed
  with_reducible assumption
  exact kf.sub rfl
  with_reducible apply answers_ite
  with_reducible apply answers_next
  with_reducible apply State.updPort_framed
  with_reducible assumption
  exact kf.sub rfl
  with_reducible apply answers_next
  with_reducible assumption
  with_reducible apply State.put_framed
  with_reducible assumption
  exact kf.get rfl
  with_reducible apply State.showStill_framed
  with_reducible apply State.put_framed
  with_reducible apply State.put_framed
  with_reducible assumption
  exact kf.get rfl
  exact kf.get rfl
  exact kf.sub rfl
  with_reducible apply State.showStill_framed
  with_reducible apply State.flag_framed
  with_reducible assumption
  exact kf.get rfl
  exact kf.sub rfl

theorem execActiveShort_framed {n : Fin 64} {s : State} (hs : State.Framed q b s) (kf : b.free [Part.reg RegGroup.port, Part.now, Part.ports]) :
    answers (execActiveShort n s) (State.Framed q b) := by
  unfold execActiveShort
  split
  with_reducible apply answers_next
  with_reducible assumption
  extract_lets +onlyGivenNames x; refine (fun (hx : State.Framed q b x) => ?_) ?_ <;> [(try clear_value x); subst x]
  extract_lets +onlyGivenNames x; clear_value x
  extract_lets +onlyGivenNames x; clear_value x
  extract_lets +onlyGivenNames x; subst x
  extract_lets +onlyGivenNames x; clear_value x
  with_reducible apply answers_ite
  with_reducible apply answers_next
  with_reducible apply State.updPort_framed
  with_reducible assumption
  exact kf.sub rfl
  with_reducible apply answers_next
  with_reducible apply State.setPort_framed
  with_reducible assumption
  exact kf.sub rfl
  with_reducible apply State.advance_framed
  with_reducible assumption
  exact kf.sub rfl

theorem State.armPort_framed {s : State} {n : Fin 64} (hs : State.Framed q b s) (kf : b.free (postParts ++ [Part.reg RegGroup.port, Part.ports, Part.boot])) :
    State.Framed q b (State.armPort s n) := by
  unfold State.armPort
  extract_lets +onlyGivenNames x; clear_value x
  with_reducible apply framed_ite
  with_reducible assumption
  with_reducible apply framed_ite
  with_reducible apply State.updArmed_framed
  with_reducible apply State.updPort_framed
  with_reducible apply State.put_framed
  with_reducible apply State.put_framed
  with_reducible assumption
  exact kf.get rfl
  exact kf.get rfl
  exact kf.sub rfl
  exact kf.sub rfl
  with_reducible apply State.flag_framed
  with_reducible assumption
  exact kf.get rfl

theorem execPwmArm_framed {n : Fin 64} {s : State} (hs : State.Framed q b s) (kf : b.free (postParts ++ [Part.reg RegGroup.port, Part.ports, Part.boot])) :
    answers (execPwmArm n s) (State.Framed q b) := by
  unfold execPwmArm
  with_reducible apply answers_next
  with_reducible apply State.armPort_framed
  with_reducible assumption
  exact kf.sub rfl

theorem State.disarmPort_framed {s : State} {n : Fin 64} (hs : State.Framed q b s) (kf : b.free [Part.reg RegGroup.port, Part.ports]) :
    State.Framed q b (State.disarmPort s n) := by
  unfold State.disarmPort
  extract_lets +onlyGivenNames x; clear_value x
  with_reducible apply State.showStillArm_framed
  with_reducible apply State.updPort_framed
  with_reducible apply State.put_framed
  with_reducible apply State.put_framed
  with_reducible assumption
  exact kf.get rfl
  exact kf.get rfl
  exact kf.sub rfl
  exact kf.sub rfl

theorem execPwmDisarm_framed {n : Fin 64} {s : State} (hs : State.Framed q b s) (kf : b.free [Part.reg RegGroup.port, Part.ports]) :
    answers (execPwmDisarm n s) (State.Framed q b) := by
  unfold execPwmDisarm
  with_reducible apply answers_next
  with_reducible apply State.disarmPort_framed
  with_reducible assumption
  exact kf.sub rfl

theorem execPwmRunSet_framed {n : Fin 64} {s : State} (hs : State.Framed q b s) (kf : b.free [Part.reg RegGroup.port]) :
    answers (execPwmRunSet n s) (State.Framed q b) := by
  unfold execPwmRunSet
  with_reducible apply answers_next
  with_reducible apply State.put_framed
  with_reducible assumption
  exact kf.get rfl

theorem execPwmRunClear_framed {n : Fin 64} {s : State} (hs : State.Framed q b s) (kf : b.free [Part.reg RegGroup.port, Part.ports]) :
    answers (execPwmRunClear n s) (State.Framed q b) := by
  unfold execPwmRunClear
  extract_lets +onlyGivenNames x; clear_value x
  with_reducible apply answers_next
  with_reducible apply State.setPort_framed
  with_reducible apply State.put_framed
  with_reducible assumption
  exact kf.get rfl
  exact kf.sub rfl

theorem State.setWritable_framed {s : State} {r : Reg} {v : Word} (hs : State.Framed q b s) (kf : b.keep (.reg r.group) = false) :
    State.Framed q b (s.setWritable r v) :=
  State.wr_framed hs kf

theorem execPwmConfigWrite_framed {n : Fin 64} {r : PortCfg} {v : Word} {s : State} (hs : State.Framed q b s) (kf : b.free (postParts ++ [Part.reg RegGroup.port, Part.reg RegGroup.stp, Part.ports, Part.axes])) :
    answers (execPwmConfigWrite n r v s) (State.Framed q b) := by
  unfold execPwmConfigWrite
  with_reducible apply answers_ite
  with_reducible apply answers_next
  with_reducible apply State.judgeArm_framed
  with_reducible apply State.showPin_framed
  with_reducible apply State.setWritable_framed
  with_reducible assumption
  (with_reducible rw [portCfgReg_group]); exact kf.get rfl
  exact kf.sub rfl
  exact kf.sub rfl
  with_reducible apply answers_next
  with_reducible apply State.flag_framed
  with_reducible assumption
  exact kf.get rfl

theorem State.takePost_framed {s : State} {n : Fin 64} {pl : Fin 2} {words : List (Nat × Nat)} (hs : State.Framed q b s) (kf : b.free [Part.ports]) :
    State.Framed q b (State.takePost s n pl words) := by
  unfold State.takePost
  extract_lets +onlyGivenNames x; clear_value x
  extract_lets +onlyGivenNames x; clear_value x
  extract_lets +onlyGivenNames x; clear_value x
  with_reducible apply State.setPort_framed
  with_reducible assumption
  exact kf.sub rfl

theorem State.commitEw_framed {s : State} {n : Fin 64} {planes : List (Fin 2)} {c : Nat} (hs : State.Framed q b s) (kf : b.free [Part.reg RegGroup.port, Part.ports]) :
    State.Framed q b (State.commitEw s n planes c) := by
  unfold State.commitEw
  extract_lets +onlyGivenNames x; subst x
  with_reducible apply framed_ite
  with_reducible apply framed_ite
  with_reducible apply framed_foldl
  intro _ _ _
  with_reducible apply State.takePost_framed
  with_reducible assumption
  exact kf.sub rfl
  with_reducible assumption
  with_reducible assumption
  with_reducible apply framed_ite
  with_reducible assumption
  with_reducible apply State.flag_framed
  with_reducible assumption
  exact kf.get rfl

theorem execEwCommit_framed {n : Fin 64} {by_ : Agent} {c : BitVec 16} {s : State} (hs : State.Framed q b s) (kf : b.free [Part.reg RegGroup.port, Part.ports]) :
    answers (execEwCommit n by_ c s) (State.Framed q b) := by
  unfold execEwCommit
  with_reducible apply answers_next
  with_reducible apply State.commitEw_framed
  with_reducible assumption
  exact kf.sub rfl

theorem State.evalLeg_framed {s : State} {n : Fin 64} {first : Bool} {words : List (Nat × Nat)} {l : Fin 4} {acc : State × List (Fin 4 × LegPlan)} (hs : State.Framed q b s) (hacc : State.Framed q b acc.1) (kf : b.free [Part.reg RegGroup.port, Part.ports]) :
    State.Framed q b (State.evalLeg s n first words l acc).1 := by
  unfold State.evalLeg
  extract_lets +onlyGivenNames x; refine (fun (hx : State.Framed q b x) => ?_) ?_ <;> [(try clear_value x); subst x]
  extract_lets +onlyGivenNames x; clear_value x
  extract_lets +onlyGivenNames x; clear_value x
  extract_lets +onlyGivenNames x; clear_value x
  extract_lets +onlyGivenNames x; clear_value x
  simp -zeta only
  extract_lets +onlyGivenNames x; refine (fun (hx : State.Framed q b x) => ?_) ?_ <;> [(try clear_value x); subst x]
  extract_lets +onlyGivenNames x; refine (fun (hx : State.Framed q b x) => ?_) ?_ <;> [(try clear_value x); subst x]
  extract_lets +onlyGivenNames x; clear_value x
  extract_lets +onlyGivenNames x; refine (fun (hx : State.Framed q b x) => ?_) ?_ <;> [(try clear_value x); subst x]
  split
  split
  simp -zeta only
  with_reducible apply State.setPort_framed
  with_reducible assumption
  exact kf.sub rfl
  simp -zeta only
  with_reducible apply State.setPort_framed
  with_reducible assumption
  exact kf.sub rfl
  simp -zeta only
  with_reducible apply State.setPort_framed
  with_reducible assumption
  exact kf.sub rfl
  with_reducible apply State.flag_framed
  with_reducible apply framed_ite
  with_reducible apply State.flag_framed
  with_reducible assumption
  exact kf.get rfl
  with_reducible assumption
  exact kf.get rfl
  with_reducible apply framed_ite
  with_reducible apply State.bump_framed
  with_reducible apply State.flag_framed
  with_reducible assumption
  exact kf.get rfl
  exact kf.get rfl
  with_reducible assumption
  with_reducible apply framed_ite
  with_reducible apply State.flag_framed
  with_reducible assumption
  exact kf.get rfl
  with_reducible assumption
  with_reducible assumption

theorem State.evalFrame_framed {s : State} {n : Fin 64} {first : Bool} {words : List (Nat × Nat)} (hs : State.Framed q b s) (kf : b.free [Part.reg RegGroup.port, Part.ports]) :
    State.Framed q b (State.evalFrame s n first words).1 := by
  unfold State.evalFrame
  with_reducible apply framed_foldl_fst
  intro _ _ _
  with_reducible apply State.evalLeg_framed
  with_reducible assumption
  with_reducible assumption
  exact kf.sub rfl
  simp -zeta only
  with_reducible assumption

theorem State.choose_framed {s : State} {n : Fin 64} {w : Option Post} {fresh : Bool} (hs : State.Framed q b s) (kf : b.free [Part.reg RegGroup.port, Part.ports]) :
    State.Framed q b (State.choose s n w fresh) := by
  unfold State.choose
  extract_lets +onlyGivenNames x; clear_value x
  extract_lets +onlyGivenNames x; clear_value x
  extract_lets +onlyGivenNames x; clear_value x
  simp -zeta only
  split
  with_reducible apply State.setPort_framed
  with_reducible assumption
  exact kf.sub rfl
  extract_lets +onlyGivenNames x; clear_value x
  with_reducible apply framed_ite
  with_reducible apply State.setPort_framed
  with_reducible apply State.evalFrame_framed
  with_reducible assumption
  exact kf.sub rfl
  exact kf.sub rfl
  with_reducible apply State.setPort_framed
  with_reducible assumption
  exact kf.sub rfl

theorem State.comparePosts_framed {s : State} {n : Fin 64} (hs : State.Framed q b s) (kf : b.free [Part.pc]) :
    State.Framed q b (State.comparePosts s n) := by
  unfold State.comparePosts
  extract_lets +onlyGivenNames x; clear_value x
  with_reducible apply framed_ite
  with_reducible apply State.finding_framed
  with_reducible assumption
  exact kf.sub rfl
  with_reducible assumption

theorem execCutOffEdge_framed {n : Fin 64} {s : State} (hs : State.Framed q b s) (kf : b.free [Part.reg RegGroup.port, Part.now, Part.ports, Part.pc, Part.boot]) :
    answers (execCutOffEdge n s) (State.Framed q b) := by
  unfold execCutOffEdge
  extract_lets +onlyGivenNames x; refine (fun (hx : State.Framed q b x) => ?_) ?_ <;> [(try clear_value x); subst x]
  extract_lets +onlyGivenNames x; clear_value x
  extract_lets +onlyGivenNames x; refine (fun (hx : State.Framed q b x) => ?_) ?_ <;> [(try clear_value x); subst x]
  with_reducible apply answers_ite
  with_reducible apply answers_next
  with_reducible assumption
  split
  extract_lets +onlyGivenNames x; refine (fun (hx : State.Framed q b x) => ?_) ?_ <;> [(try clear_value x); subst x]
  with_reducible apply answers_ite
  with_reducible apply answers_next
  with_reducible apply State.choose_framed
  with_reducible assumption
  exact kf.sub rfl
  with_reducible apply answers_next
  with_reducible apply State.choose_framed
  with_reducible assumption
  exact kf.sub rfl
  with_reducible apply framed_ite
  with_reducible apply State.flag_framed
  with_reducible assumption
  exact kf.get rfl
  with_reducible assumption
  with_reducible apply answers_next
  with_reducible apply State.choose_framed
  with_reducible assumption
  exact kf.sub rfl
  with_reducible apply framed_ite
  with_reducible apply State.mishap_framed
  with_reducible apply State.bump_framed
  with_reducible apply State.flag_framed
  with_reducible assumption
  exact kf.get rfl
  exact kf.get rfl
  exact kf.sub rfl
  with_reducible assumption
  with_reducible apply State.comparePosts_framed
  with_reducible apply State.advance_framed
  with_reducible assumption
  exact kf.sub rfl
  exact kf.sub rfl

theorem State.loadFrame_framed {s : State} {n : Fin 64} {c : Cand} {frame : Time} (hs : State.Framed q b s) (kf : b.free [Part.reg RegGroup.port, Part.ports]) :
    State.Framed q b (State.loadFrame s n c frame) := by
  unfold State.loadFrame
  extract_lets +onlyGivenNames x; clear_value x
  extract_lets +onlyGivenNames x; clear_value x
  extract_lets +onlyGivenNames x; refine (fun (hx : State.Framed q b x) => ?_) ?_ <;> [(try clear_value x); subst x]
  with_reducible apply framed_foldl
  intro _ _ _
  with_reducible apply State.wr_framed
  with_reducible apply State.wr_framed
  with_reducible assumption
  exact kf.get rfl
  exact kf.get rfl
  with_reducible assumption
  with_reducible apply State.setPort_framed
  with_reducible assumption
  exact kf.sub rfl

theorem execLoadEdge_framed {n : Fin 64} {s : State} (hs : State.Framed q b s) (kf : b.free [Part.reg RegGroup.port, Part.now, Part.ports]) :
    answers (execLoadEdge n s) (State.Framed q b) := by
  unfold execLoadEdge
  extract_lets +onlyGivenNames x; clear_value x
  extract_lets +onlyGivenNames x; refine (fun (hx : State.Framed q b x) => ?_) ?_ <;> [(try clear_value x); subst x]
  extract_lets +onlyGivenNames x; clear_value x
  extract_lets +onlyGivenNames x; clear_value x
  simp -zeta only
  split
  with_reducible apply answers_next
  with_reducible assumption
  extract_lets +onlyGivenNames x; refine (fun (hx : State.Framed q b x) => ?_) ?_ <;> [(try clear_value x); subst x]
  extract_lets +onlyGivenNames x; refine (fun (hx : State.Framed q b x) => ?_) ?_ <;> [(try clear_value x); subst x]
  extract_lets +onlyGivenNames x; refine (fun (hx : State.Framed q b x) => ?_) ?_ <;> [(try clear_value x); subst x]
  extract_lets +onlyGivenNames x; clear_value x
  with_reducible apply answers_ite
  with_reducible apply answers_ite
  with_reducible apply answers_next
  with_reducible apply State.setPort_framed
  with_reducible apply State.put_framed
  with_reducible assumption
  exact kf.get rfl
  exact kf.sub rfl
  with_reducible apply answers_next
  with_reducible apply State.loadFrame_framed
  with_reducible assumption
  exact kf.sub rfl
  split
  extract_lets +onlyGivenNames x; clear_value x
  extract_lets +onlyGivenNames x; refine (fun (hx : State.Framed q b x) => ?_) ?_ <;> [(try clear_value x); subst x]
  with_reducible apply answers_next
  with_reducible apply State.loadFrame_framed
  with_reducible assumption
  exact kf.sub rfl
  with_reducible apply State.setPort_framed
  with_reducible apply State.put_framed
  split
  with_reducible apply State.evalFrame_framed
  with_reducible assumption
  exact kf.sub rfl
  simp -zeta only
  with_reducible assumption
  exact kf.get rfl
  exact kf.sub rfl
  with_reducible apply answers_next
  with_reducible assumption
  with_reducible apply State.putB_framed
  with_reducible assumption
  exact kf.get rfl
  split
  with_reducible apply State.put_framed
  with_reducible apply State.put_framed
  with_reducible assumption
  exact kf.get rfl
  exact kf.get rfl
  with_reducible assumption
  with_reducible apply State.setPort_framed
  with_reducible assumption
  exact kf.sub rfl
  with_reducible apply State.advance_framed
  with_reducible assumption
  exact kf.sub rfl

theorem State.launchTap_framed {s : State} {n : Fin 64} {l : Fin 4} {high : Bool} {t_ : Time} (hs : State.Framed q b s) (kf : b.free [Part.ports]) :
    State.Framed q b (State.launchTap s n l high t_) := by
  unfold State.launchTap
  extract_lets +onlyGivenNames x; clear_value x
  extract_lets +onlyGivenNames x; clear_value x
  extract_lets +onlyGivenNames x; clear_value x
  with_reducible apply State.setPort_framed
  with_reducible assumption
  exact kf.sub rfl

theorem State.moveLeg_framed {s : State} {n : Fin 64} {l : Fin 4} {t_ : Time} {g : Leg} (hs : State.Framed q b s) (kf : b.free [Part.reg RegGroup.port, Part.ports]) :
    State.Framed q b (State.moveLeg s n l t_ g) := by
  unfold State.moveLeg
  extract_lets +onlyGivenNames x; clear_value x
  extract_lets +onlyGivenNames x; refine (fun (hx : State.Framed q b x) => ?_) ?_ <;> [(try clear_value x); subst x]
  extract_lets +onlyGivenNames x; refine (fun (hx : State.Framed q b x) => ?_) ?_ <;> [(try clear_value x); subst x]
  with_reducible apply State.updPort_framed
  with_reducible assumption
  exact kf.sub rfl
  with_reducible apply framed_ite
  with_reducible assumption
  with_reducible apply State.launchTap_framed
  with_reducible assumption
  exact kf.sub rfl
  with_reducible apply framed_ite
  with_reducible assumption
  with_reducible apply State.launchTap_framed
  with_reducible assumption
  exact kf.sub rfl

theorem execLegEdge_framed {n : Fin 64} {l : Fin 4} {s : State} (hs : State.Framed q b s) (kf : b.free [Part.reg RegGroup.port, Part.now, Part.ports]) :
    answers (execLegEdge n l s) (State.Framed q b) := by
  unfold execLegEdge
  extract_lets +onlyGivenNames x; clear_value x
  split
  with_reducible apply answers_next
  with_reducible assumption
  extract_lets +onlyGivenNames x; refine (fun (hx : State.Framed q b x) => ?_) ?_ <;> [(try clear_value x); subst x]
  with_reducible apply answers_next
  with_reducible apply State.moveLeg_framed
  with_reducible assumption
  exact kf.sub rfl
  with_reducible apply State.advance_framed
  with_reducible assumption
  exact kf.sub rfl

theorem execDeadTimeExpiry_framed {n : Fin 64} {l : Fin 4} {high : Bool} {s : State} (hs : State.Framed q b s) (kf : b.free [Part.reg RegGroup.port, Part.now, Part.ports]) :
    answers (execDeadTimeExpiry n l high s) (State.Framed q b) := by
  unfold execDeadTimeExpiry
  extract_lets +onlyGivenNames x; clear_value x
  split
  with_reducible apply answers_next
  with_reducible assumption
  extract_lets +onlyGivenNames x; refine (fun (hx : State.Framed q b x) => ?_) ?_ <;> [(try clear_value x); subst x]
  with_reducible apply answers_next
  with_reducible apply State.moveLeg_framed
  with_reducible assumption
  exact kf.sub rfl
  with_reducible apply State.advance_framed
  with_reducible assumption
  exact kf.sub rfl

theorem State.showMaxTap_framed {s : State} {n : Fin 64} (hs : State.Framed q b s) (kf : b.free [Part.reg RegGroup.port]) :
    State.Framed q b (State.showMaxTap s n) := by
  unfold State.showMaxTap
  with_reducible apply State.put_framed
  with_reducible assumption
  exact kf.get rfl

theorem execCalRoundDone_framed {n : Fin 64} {line : Fin 6} {hist : List Nat} {s : State} (hs : State.Framed q b s) (kf : b.free (postParts ++ [Part.reg RegGroup.port, Part.ports])) :
    answers (execCalRoundDone n line hist s) (State.Framed q b) := by
  unfold execCalRoundDone
  extract_lets +onlyGivenNames x; clear_value x
  extract_lets +onlyGivenNames x; clear_value x
  extract_lets +onlyGivenNames x; clear_value x
  extract_lets +onlyGivenNames x; clear_value x
  extract_lets +onlyGivenNames x; clear_value x
  extract_lets +onlyGivenNames x; refine (fun (hx : State.Framed q b x) => ?_) ?_ <;> [(try clear_value x); subst x]
  extract_lets +onlyGivenNames x; refine (fun (hx : State.Framed q b x) => ?_) ?_ <;> [(try clear_value x); subst x]
  extract_lets +onlyGivenNames x; refine (fun (hx : State.Framed q b x) => ?_) ?_ <;> [(try clear_value x); subst x]
  with_reducible apply answers_ite
  with_reducible apply answers_next
  with_reducible apply State.post_framed
  with_reducible assumption
  exact kf.sub rfl
  with_reducible apply answers_next
  with_reducible apply State.showMaxTap_framed
  with_reducible apply State.setPort_framed
  with_reducible assumption
  exact kf.sub rfl
  exact kf.sub rfl
  with_reducible apply State.flag_framed
  with_reducible assumption
  exact kf.get rfl
  with_reducible apply State.showMaxTap_framed
  with_reducible apply State.setPort_framed
  with_reducible assumption
  exact kf.sub rfl
  exact kf.sub rfl
  with_reducible apply State.put_framed
  with_reducible assumption
  exact kf.get rfl

theorem execCalMapInstall_framed {n : Fin 64} {line : Fin 6} {s : State} (hs : State.Framed q b s) (kf : b.free [Part.reg RegGroup.port, Part.ports]) :
    answers (execCalMapInstall n line s) (State.Framed q b) := by
  unfold execCalMapInstall
  extract_lets +onlyGivenNames x; clear_value x
  extract_lets +onlyGivenNames x; clear_value x
  split
  with_reducible apply answers_next
  with_reducible assumption
  extract_lets +onlyGivenNames x; clear_value x
  extract_lets +onlyGivenNames x; refine (fun (hx : State.Framed q b x) => ?_) ?_ <;> [(try clear_value x); subst x]
  with_reducible apply answers_next
  with_reducible apply State.putB_framed
  with_reducible assumption
  exact kf.get rfl
  with_reducible apply State.setPort_framed
  with_reducible assumption
  exact kf.sub rfl

theorem State.releasePins_framed {s : State} {k : Fin 5} (hs : State.Framed q b s) (kf : b.free [Part.reg RegGroup.clk]) :
    State.Framed q b (State.releasePins s k) := by
  unfold State.releasePins
  with_reducible apply framed_ite
  with_reducible apply State.put_framed
  with_reducible assumption
  exact kf.get rfl
  with_reducible apply State.flag_framed
  with_reducible assumption
  exact kf.get rfl

theorem execPinRelTime_framed {s : State} (hs : State.Framed q b s) (kf : b.free [Part.reg RegGroup.clk]) :
    answers (execPinRelTime s) (State.Framed q b) := by
  unfold execPinRelTime
  with_reducible apply answers_next
  with_reducible apply State.releasePins_framed
  with_reducible assumption
  exact kf.sub rfl

theorem execPinRelSdclk_framed {s : State} (hs : State.Framed q b s) (kf : b.free [Part.reg RegGroup.clk]) :
    answers (execPinRelSdclk s) (State.Framed q b) := by
  unfold execPinRelSdclk
  with_reducible apply answers_next
  with_reducible apply State.releasePins_framed
  with_reducible assumption
  exact kf.sub rfl

theorem execPinRelFbo_framed {s : State} (hs : State.Framed q b s) (kf : b.free [Part.reg RegGroup.clk]) :
    answers (execPinRelFbo s) (State.Framed q b) := by
  unfold execPinRelFbo
  with_reducible apply answers_next
  with_reducible apply State.releasePins_framed
  with_reducible assumption
  exact kf.sub rfl

theorem execPinRelStep_framed {s : State} (hs : State.Framed q b s) (kf : b.free [Part.reg RegGroup.clk]) :
    answers (execPinRelStep s) (State.Framed q b) := by
  unfold execPinRelStep
  with_reducible apply answers_next
  with_reducible apply State.releasePins_framed
  with_reducible assumption
  exact kf.sub rfl

theorem execPinRelGate_framed {s : State} (hs : State.Framed q b s) (kf : b.free [Part.reg RegGroup.clk]) :
    answers (execPinRelGate s) (State.Framed q b) := by
  unfold execPinRelGate
  with_reducible apply answers_next
  with_reducible apply State.releasePins_framed
  with_reducible assumption
  exact kf.sub rfl

theorem execIslClkWrite_framed {v : Word} {s : State} (hs : State.Framed q b s) (kf : b.free [Part.reg RegGroup.clk]) :
    answers (execIslClkWrite v s) (State.Framed q b) := by
  unfold execIslClkWrite
  extract_lets +onlyGivenNames x; clear_value x
  extract_lets +onlyGivenNames x; clear_value x
  with_reducible apply answers_ite
  with_reducible apply answers_next
  with_reducible apply State.flag_framed
  with_reducible assumption
  exact kf.get rfl
  with_reducible apply answers_next
  with_reducible apply State.put_framed
  with_reducible apply State.put_framed
  with_reducible assumption
  exact kf.get rfl
  exact kf.get rfl

theorem execPeriodSelWrite_framed {long : Bool} {s : State} (hs : State.Framed q b s) (kf : b.free [Part.reg RegGroup.clk, Part.seq]) :
    answers (execPeriodSelWrite long s) (State.Framed q b) := by
  have k_seq : b.keep .seq = false := kf.get rfl
  unfold execPeriodSelWrite
  extract_lets +onlyGivenNames x; refine (fun (hx : State.Framed q b x) => ?_) ?_ <;> [(try clear_value x); subst x]
  extract_lets +onlyGivenNames x; clear_value x
  with_reducible apply answers_ite
  with_reducible apply answers_next
  with_reducible apply State.flag_framed
  with_reducible assumption
  exact kf.get rfl
  with_reducible apply answers_ite
  with_reducible apply answers_next
  simp -zeta only [framed_mk, k_seq, or_true, true_or]
  with_reducible assumption
  with_reducible apply answers_next
  with_reducible assumption
  with_reducible apply State.putB_framed
  with_reducible assumption
  exact kf.get rfl

theorem State.toHoldover_framed {s : State} (hs : State.Framed q b s) (kf : b.free [Part.reg RegGroup.tb, Part.time, Part.chain]) :
    State.Framed q b (State.toHoldover s) := by
  have k_chain : b.keep .chain = false := kf.get rfl
  have k_time : b.keep .time = false := kf.get rfl
  unfold State.toHoldover
  extract_lets +onlyGivenNames x; refine (fun (hx : State.Framed q b x) => ?_) ?_ <;> [(try clear_value x); subst x]
  extract_lets +onlyGivenNames x; clear_value x
  extract_lets +onlyGivenNames x; clear_value x
  with_reducible apply framed_ite
  simp -zeta only [framed_mk, k_chain, k_time, or_true, true_or]
  with_reducible assumption
  with_reducible assumption
  with_reducible apply State.put_framed
  with_reducible assumption
  exact kf.get rfl

theorem execRefLoss_framed {s : State} (hs : State.Framed q b s) (kf : b.free (postParts ++ [Part.reg RegGroup.clk, Part.reg RegGroup.tb, Part.time, Part.chain])) :
    answers (execRefLoss s) (State.Framed q b) := by
  have k_time : b.keep .time = false := kf.get rfl
  unfold execRefLoss
  extract_lets +onlyGivenNames x; refine (fun (hx : State.Framed q b x) => ?_) ?_ <;> [(try clear_value x); subst x]
  extract_lets +onlyGivenNames x; clear_value x
  extract_lets +onlyGivenNames x; refine (fun (hx : State.Framed q b x) => ?_) ?_ <;> [(try clear_value x); subst x]
  with_reducible apply answers_next
  with_reducible apply State.toHoldover_framed
  with_reducible apply State.post_framed
  with_reducible assumption
  exact kf.sub rfl
  exact kf.sub rfl
  simp -zeta only [framed_mk, k_time, or_true, true_or]
  with_reducible assumption
  with_reducible apply State.flag_framed
  with_reducible apply State.flag_framed
  with_reducible assumption
  exact kf.get rfl
  exact kf.get rfl

theorem State.reacquire_framed {s : State} (hs : State.Framed q b s) (kf : b.free [Part.reg RegGroup.tb, Part.time, Part.chain]) :
    State.Framed q b (State.reacquire s) := by
  have k_chain : b.keep .chain = false := kf.get rfl
  have k_time : b.keep .time = false := kf.get rfl
  unfold State.reacquire
  extract_lets +onlyGivenNames x; refine (fun (hx : State.Framed q b x) => ?_) ?_ <;> [(try clear_value x); subst x]
  extract_lets +onlyGivenNames x; clear_value x
  extract_lets +onlyGivenNames x; clear_value x
  with_reducible apply framed_ite
  simp -zeta only [framed_mk, k_chain, k_time, or_true, true_or]
  with_reducible assumption
  with_reducible assumption
  with_reducible apply State.put_framed
  with_reducible assumption
  exact kf.get rfl

theorem State.timeResume_framed {s : State} (hs : State.Framed q b s) (kf : b.free [Part.reg RegGroup.tb, Part.time, Part.chain]) :
    State.Framed q b (State.timeResume s) := by
  unfold State.timeResume
  with_reducible apply framed_ite
  with_reducible apply State.toHoldover_framed
  with_reducible assumption
  exact kf.sub rfl
  with_reducible apply State.reacquire_framed
  with_reducible assumption
  exact kf.sub rfl

theorem execPllRelock_framed {s : State} (hs : State.Framed q b s) (kf : b.free [Part.reg RegGroup.clk, Part.reg RegGroup.tb, Part.time, Part.chain]) :
    answers (execPllRelock s) (State.Framed q b) := by
  have k_time : b.keep .time = false := kf.get rfl
  unfold execPllRelock
  extract_lets +onlyGivenNames x; refine (fun (hx : State.Framed q b x) => ?_) ?_ <;> [(try clear_value x); subst x]
  extract_lets +onlyGivenNames x; clear_value x
  with_reducible apply answers_next
  with_reducible apply State.reacquire_framed
  simp -zeta only [framed_mk, k_time, or_true, true_or]
  with_reducible assumption
  exact kf.sub rfl
  with_reducible apply State.put_framed
  with_reducible assumption
  exact kf.get rfl

theorem execPllFirstLock_framed {s : State} (hs : State.Framed q b s) (kf : b.free [Part.reg RegGroup.clk]) :
    answers (execPllFirstLock s) (State.Framed q b) := by
  unfold execPllFirstLock
  with_reducible apply answers_ite
  with_reducible apply answers_next
  with_reducible assumption
  with_reducible apply answers_next
  with_reducible apply State.flag_framed
  with_reducible assumption
  exact kf.get rfl

theorem execTimeBaseStart_framed {s : State} (hs : State.Framed q b s) (kf : b.free [Part.reg RegGroup.clk, Part.now, Part.seq, Part.time]) :
    answers (execTimeBaseStart s) (State.Framed q b) := by
  have k_seq : b.keep .seq = false := kf.get rfl
  have k_time : b.keep .time = false := kf.get rfl
  unfold execTimeBaseStart
  extract_lets +onlyGivenNames x; refine (fun (hx : State.Framed q b x) => ?_) ?_ <;> [(try clear_value x); subst x]
  extract_lets +onlyGivenNames x; refine (fun (hx : State.Framed q b x) => ?_) ?_ <;> [(try clear_value x); subst x]
  extract_lets +onlyGivenNames x; clear_value x
  extract_lets +onlyGivenNames x; clear_value x
  with_reducible apply answers_ite
  with_reducible apply answers_next
  simp -zeta only [framed_mk, k_seq, k_time, or_true, true_or]
  with_reducible assumption
  with_reducible apply answers_next
  with_reducible assumption
  with_reducible apply State.wr_framed
  with_reducible assumption
  exact kf.get rfl
  with_reducible apply State.advance_framed
  with_reducible assumption
  exact kf.sub rfl

theorem State.setTile_framed {s : State} {t_ : Fin 32} {x : Tile} (hs : State.Framed q b s) (kf : b.free [Part.tiles]) :
    State.Framed q b (State.setTile s t_ x) := by
  have k_tiles : b.keep .tiles = false := kf.get rfl
  unfold State.setTile
  simp -zeta only [framed_mk, k_tiles, or_true, true_or]
  with_reducible assumption

theorem State.raise_framed {s : State} {n : Nat} (hs : State.Framed q b s) (kf : b.free [Part.ic]) : State.Framed q b (State.raise s n) := by
  have k_ic : b.keep .ic = false := kf.get rfl
  unfold State.raise
  extract_lets +onlyGivenNames x; clear_value x
  extract_lets +onlyGivenNames x; clear_value x
  with_reducible apply framed_ite
  with_reducible assumption
  simp -zeta only [framed_mk, k_ic, or_true, true_or]
  with_reducible assumption

theorem State.icRefresh_framed {s : State} {n : Fin 512} (hs : State.Framed q b s) (kf : b.free [Part.reg RegGroup.ic]) :
    State.Framed q b (State.icRefresh s n) := by
  unfold State.icRefresh
  with_reducible apply framed_ite
  with_reducible apply State.put_framed
  with_reducible assumption
  exact kf.get rfl
  with_reducible apply framed_ite
  with_reducible assumption
  with_reducible apply State.putB_framed
  with_reducible assumption
  exact kf.get rfl

theorem State.icTimers_framed {s : State} (hs : State.Framed q b s) (kf : b.free [Part.ic]) : State.Framed q b (State.icTimers s) := by
  have k_ic : b.keep .ic = false := kf.get rfl
  unfold State.icTimers
  extract_lets +onlyGivenNames x; clear_value x
  simp -zeta only [framed_mk, k_ic, or_true, true_or]
  with_reducible assumption

theorem State.noteIc_framed {s : State} {t_ : Fin 32} {done : Bool} {src : Nat} (hs : State.Framed q b s) (kf : b.free [Part.ic]) :
    State.Framed q b (State.noteIc s t_ done src) := by
  have k_ic : b.keep .ic = false := kf.get rfl
  unfold State.noteIc
  extract_lets +onlyGivenNames x; clear_value x
  extract_lets +onlyGivenNames x; clear_value x
  extract_lets +onlyGivenNames x; clear_value x
  with_reducible apply framed_ite
  split
  with_reducible apply framed_ite
  simp -zeta only [framed_mk, k_ic, or_true, true_or]
  with_reducible assumption
  simp -zeta only [framed_mk, k_ic, or_true, true_or]
  with_reducible assumption
  simp -zeta only [framed_mk, k_ic, or_true, true_or]
  with_reducible assumption
  with_reducible assumption

theorem State.icUnmark_framed {s : State} (hs : State.Framed q b s) (kf : b.free [Part.ic]) : State.Framed q b (State.icUnmark s) := by
  have k_ic : b.keep .ic = false := kf.get rfl
  unfold State.icUnmark
  extract_lets +onlyGivenNames x; clear_value x
  simp -zeta only [framed_mk, k_ic, or_true, true_or]
  with_reducible assumption

theorem State.icFree_framed {s : State} {t_ : Fin 64} (hs : State.Framed q b s) (kf : b.free [Part.reg RegGroup.ic, Part.ic]) :
    State.Framed q b (State.icFree s t_) := by
  unfold State.icFree
  extract_lets +onlyGivenNames x; clear_value x
  with_reducible apply State.icTimers_framed
  with_reducible apply State.icRefresh_framed
  with_reducible apply State.put_framed
  with_reducible apply State.put_framed
  with_reducible apply State.wr_framed
  with_reducible assumption
  exact kf.get rfl
  exact kf.get rfl
  exact kf.get rfl
  exact kf.sub rfl
  exact kf.sub rfl

theorem State.icTakeUp_framed {s : State} {t_ : Fin 64} (hs : State.Framed q b s) (kf : b.free [Part.reg RegGroup.ic]) :
    State.Framed q b (State.icTakeUp s t_) := by
  unfold State.icTakeUp
  extract_lets +onlyGivenNames x; clear_value x
  extract_lets +onlyGivenNames x; clear_value x
  extract_lets +onlyGivenNames x; refine (fun (hx : State.Framed q b x) => ?_) ?_ <;> [(try clear_value x); subst x]
  with_reducible apply framed_ite
  with_reducible assumption
  with_reducible apply State.bump_framed
  with_reducible assumption
  exact kf.get rfl
  with_reducible apply State.putB_framed
  with_reducible apply State.put_framed
  with_reducible assumption
  exact kf.get rfl
  exact kf.get rfl

theorem State.queue_framed {s : State} {t_ : Fin 32} {ws : List (Nat × EWrite)} (hs : State.Framed q b s) (kf : b.free [Part.tiles]) :
    State.Framed q b (State.queue s t_ ws) := by
  unfold State.queue
  with_reducible apply State.setTile_framed
  with_reducible assumption
  exact kf.sub rfl

theorem State.returnDelivery_framed {s : State} {t_ : Fin 32} (hs : State.Framed q b s) (kf : b.free [Part.reg RegGroup.ic, Part.tiles, Part.ic]) :
    State.Framed q b (State.returnDelivery s t_) := by
  unfold State.returnDelivery
  extract_lets +onlyGivenNames x; clear_value x
  extract_lets +onlyGivenNames x; refine (fun (hx : State.Framed q b x) => ?_) ?_ <;> [(try clear_value x); subst x]
  split
  with_reducible assumption
  with_reducible apply framed_ite
  with_reducible apply State.icFree_framed
  with_reducible assumption
  exact kf.sub rfl
  with_reducible assumption
  with_reducible apply State.setTile_framed
  with_reducible assumption
  exact kf.sub rfl

theorem State.endRun_framed {s : State} {t_ : Fin 32} {k : EndKind} (hs : State.Framed q b s) (kf : b.free [Part.reg RegGroup.ic, Part.tiles, Part.ic]) :
    State.Framed q b (State.endRun s t_ k) := by
  unfold State.endRun
  extract_lets +onlyGivenNames x; clear_value x
  extract_lets +onlyGivenNames x; clear_value x
  split
  with_reducible assumption
  with_reducible apply State.setTile_framed
  with_reducible assumption
  exact kf.sub rfl
  with_reducible apply State.returnDelivery_framed
  with_reducible apply State.setTile_framed
  with_reducible assumption
  exact kf.sub rfl
  exact kf.sub rfl

theorem State.tileFault_framed {s : State} {t_ : Fin 32} {code : Nat} {addr : Nat} (hs : State.Framed q b s) (kf : b.free [Part.reg RegGroup.ic, Part.tiles, Part.ic]) :
    State.Framed q b (State.tileFault s t_ code addr) := by
  unfold State.tileFault
  with_reducible apply State.endRun_framed
  with_reducible assumption
  exact kf.sub rfl

theorem State.gate_framed {s : State} {t_ : Fin 32} {mx : Bool} {forb : Bool} {size : Nat} {k : State → State} (hs : State.Framed q b s) (hk : ∀ s, State.Framed q b s → State.Framed q b (k s)) (kf : b.free [Part.reg RegGroup.ic, Part.tiles, Part.ic]) :
    State.Framed q b (State.gate s t_ mx forb size k) := by
  unfold State.gate
  extract_lets +onlyGivenNames x; clear_value x
  split
  split
  with_reducible apply State.tileFault_framed
  with_reducible assumption
  exact kf.sub rfl
  with_reducible apply framed_ite
  with_reducible apply State.tileFault_framed
  with_reducible assumption
  exact kf.sub rfl
  with_reducible apply framed_ite
  with_reducible apply State.tileFault_framed
  with_reducible assumption
  exact kf.sub rfl
  with_reducible apply hk
  with_reducible assumption
  with_reducible assumption

theorem State.land_framed {s : State} {t_ : Fin 32} {b_ : Branch} {after : Nat} (hs : State.Framed q b s) (kf : b.free [Part.reg RegGroup.ic, Part.tiles, Part.ic]) :
    State.Framed q b (State.land s t_ b_ after) := by
  unfold State.land
  extract_lets +onlyGivenNames x; clear_value x
  extract_lets +onlyGivenNames x; clear_value x
  extract_lets +onlyGivenNames x; clear_value x
  extract_lets +onlyGivenNames x; clear_value x
  split
  with_reducible apply State.setTile_framed
  with_reducible assumption
  exact kf.sub rfl
  extract_lets +onlyGivenNames x; refine (fun (hx : State.Framed q b x) => ?_) ?_ <;> [(try clear_value x); subst x]
  split
  with_reducible apply State.tileFault_framed
  with_reducible assumption
  exact kf.sub rfl
  with_reducible assumption
  with_reducible apply State.setTile_framed
  with_reducible assumption
  exact kf.sub rfl

theorem State.advanceTile_framed {s : State} {t_ : Fin 32} {size : Nat} {br : Option Branch} (hs : State.Framed q b s) (kf : b.free [Part.reg RegGroup.ic, Part.tiles, Part.ic]) :
    State.Framed q b (State.advanceTile s t_ size br) := by
  unfold State.advanceTile
  extract_lets +onlyGivenNames x; clear_value x
  split
  with_reducible apply State.setTile_framed
  with_reducible assumption
  exact kf.sub rfl
  with_reducible apply framed_ite
  with_reducible apply State.land_framed
  with_reducible assumption
  exact kf.sub rfl
  with_reducible apply State.setTile_framed
  with_reducible assumption
  exact kf.sub rfl

theorem State.ticks_framed {s : State} {t_ : Fin 32} {n : Nat} (hs : State.Framed q b s) (kf : b.free [Part.tiles]) :
    State.Framed q b (State.ticks s t_ n) := by
  unfold State.ticks
  with_reducible apply State.setTile_framed
  with_reducible assumption
  exact kf.sub rfl

theorem State.runN_framed {t : Fin 32} {size cycles : Nat} {br : Option Branch} {f : State → State}
  (hf : ∀ s, State.Framed q b s → State.Framed q b (f s)) {n : Nat} {s : State} (hs : State.Framed q b s) (kf :
    b.free [Part.reg RegGroup.ic, Part.tiles, Part.ic]) :
  State.Framed q b (State.runN t size cycles br f n s) := by
  induction n generalizing s with
  | zero =>
    have h := hf _ (State.setTile_framed (t_ := t) (x := { s.tile t with rep := none }) hs (kf.sub rfl))
    unfold State.runN
    dsimp only
    split
    · exact h
    · split
      · exact State.advanceTile_framed h (kf.sub rfl)
      · exact State.ticks_framed (State.advanceTile_framed h (kf.sub rfl)) (kf.sub rfl)
  | succ n ih =>
    have h := hf _ (State.setTile_framed (t_ := t) (x := { s.tile t with rep := some (n + 1) }) hs (kf.sub rfl))
    unfold State.runN
    dsimp only
    split
    · exact h
    · exact ih (State.ticks_framed h (kf.sub rfl))

theorem State.issue_framed {s : State} {t_ : Fin 32} {mx : Bool} {forb : Bool} {size : Nat} {cycles : Nat} {f : State → State} (hs : State.Framed q b s) (hf : ∀ s, State.Framed q b s → State.Framed q b (f s)) (kf : b.free [Part.reg RegGroup.ic, Part.tiles, Part.ic]) :
    State.Framed q b (State.issue s t_ mx forb size cycles f) := by
  unfold State.issue
  with_reducible apply State.gate_framed
  with_reducible assumption
  intro _ _
  with_reducible apply State.runN_framed
  intro _ _
  with_reducible apply hf
  with_reducible assumption
  with_reducible assumption
  exact kf.sub rfl
  exact kf.sub rfl

theorem State.native_framed {s : State} {t_ : Fin 32} {size : Nat} {ws : Tile → List (Nat × EWrite)} (hs : State.Framed q b s) (kf : b.free [Part.reg RegGroup.ic, Part.tiles, Part.ic]) :
    State.Framed q b (State.native s t_ size ws) := by
  unfold State.native
  with_reducible apply State.issue_framed
  with_reducible assumption
  intro _ _
  with_reducible apply State.queue_framed
  with_reducible assumption
  exact kf.sub rfl
  exact kf.sub rfl

theorem State.nativeCtl_framed {s : State} {t_ : Fin 32} {f : Tile → Tile} (hs : State.Framed q b s) (kf : b.free [Part.reg RegGroup.ic, Part.tiles, Part.ic]) :
    State.Framed q b (State.nativeCtl s t_ f) := by
  unfold State.nativeCtl
  with_reducible apply State.issue_framed
  with_reducible assumption
  intro _ _
  with_reducible apply State.setTile_framed
  with_reducible assumption
  exact kf.sub rfl
  exact kf.sub rfl

theorem State.illegalIf_framed {bad : Bool} {t_ : Fin 32} {f : State → State} {s : State} (hs : State.Framed q b s) (hf : ∀ s, State.Framed q b s → State.Framed q b (f s)) (kf : b.free [Part.reg RegGroup.ic, Part.tiles, Part.ic]) :
    State.Framed q b (State.illegalIf bad t_ f s) := by
  unfold State.illegalIf
  with_reducible apply framed_ite
  with_reducible apply State.tileFault_framed
  with_reducible assumption
  exact kf.sub rfl
  with_reducible apply hf
  with_reducible assumption

theorem State.access_framed {s : State} {t_ : Fin 32} {lat : Nat} {act : MemAct} {x : Addr} {nx : Nat} {y : Option (Addr × Nat)} (hs : State.Framed q b s) (kf : b.free [Part.reg RegGroup.ic, Part.tiles, Part.ic]) :
    State.Framed q b (State.access s t_ lat act x nx y) := by
  unfold State.access
  extract_lets +onlyGivenNames x; clear_value x
  extract_lets +onlyGivenNames x; clear_value x
  extract_lets +onlyGivenNames x; clear_value x
  extract_lets +onlyGivenNames x; clear_value x
  extract_lets +onlyGivenNames x; clear_value x
  extract_lets +onlyGivenNames x; clear_value x
  extract_lets +onlyGivenNames x; refine (fun (hx : State.Framed q b x) => ?_) ?_ <;> [(try clear_value x); subst x]
  extract_lets +onlyGivenNames x; clear_value x
  split
  with_reducible apply State.tileFault_framed
  with_reducible assumption
  exact kf.sub rfl
  with_reducible apply State.tileFault_framed
  with_reducible assumption
  exact kf.sub rfl
  split
  with_reducible apply State.queue_framed
  with_reducible assumption
  exact kf.sub rfl
  with_reducible apply State.setTile_framed
  with_reducible assumption
  exact kf.sub rfl
  with_reducible apply State.queue_framed
  with_reducible assumption
  exact kf.sub rfl

theorem State.storeWords_framed {s : State} {t_ : Fin 32} {a : Addr} {ws : List Word} (hs : State.Framed q b s) (kf : b.free [Part.reg RegGroup.ic, Part.mem, Part.tiles, Part.ic]) :
    State.Framed q b (State.storeWords s t_ a ws) := by
  unfold State.storeWords
  extract_lets +onlyGivenNames x; clear_value x
  extract_lets +onlyGivenNames x; refine (fun (hx : State.Framed q b x) => ?_) ?_ <;> [(try clear_value x); subst x]
  extract_lets +onlyGivenNames x; clear_value x
  extract_lets +onlyGivenNames x; clear_value x
  extract_lets +onlyGivenNames x; clear_value x
  extract_lets +onlyGivenNames x; refine (fun (hx : State.Framed q b x) => ?_) ?_ <;> [(try clear_value x); subst x]
  extract_lets +onlyGivenNames x; refine (fun (hx4 : ∀ y z, State.Framed q b y → State.Framed q b (x y z)) => ?_) ?_ <;> [(try clear_value x); subst x]
  extract_lets +onlyGivenNames x; refine (fun (hx : State.Framed q b x) => ?_) ?_ <;> [(try clear_value x); subst x]
  extract_lets +onlyGivenNames x; clear_value x
  extract_lets +onlyGivenNames x; clear_value x
  split
  with_reducible apply State.tileFault_framed
  with_reducible assumption
  exact kf.sub rfl
  with_reducible apply framed_ite
  with_reducible apply framed_ite
  with_reducible apply State.setTile_framed
  with_reducible assumption
  exact kf.sub rfl
  with_reducible apply State.setTile_framed
  with_reducible assumption
  exact kf.sub rfl
  with_reducible apply framed_ite
  with_reducible apply hx4
  with_reducible apply State.setTile_framed
  with_reducible assumption
  exact kf.sub rfl
  with_reducible assumption
  with_reducible apply hx4
  with_reducible assumption
  intro _ _ _
  simp -zeta only
  with_reducible apply framed_foldl
  intro _ _ _
  with_reducible apply State.mput_framed
  with_reducible assumption
  exact kf.sub rfl
  with_reducible assumption
  with_reducible apply State.setTile_framed
  with_reducible assumption
  exact kf.sub rfl
  with_reducible apply State.queue_framed
  with_reducible assumption
  exact kf.sub rfl

theorem State.resume_framed {s : State} {t_ : Fin 32} {cycles : Nat} (hs : State.Framed q b s) (kf : b.free [Part.reg RegGroup.ic, Part.tiles, Part.ic]) :
    State.Framed q b (State.resume s t_ cycles) := by
  unfold State.resume
  extract_lets +onlyGivenNames x; clear_value x
  extract_lets +onlyGivenNames x; refine (fun (hx : State.Framed q b x) => ?_) ?_ <;> [(try clear_value x); subst x]
  extract_lets +onlyGivenNames x; clear_value x
  split
  with_reducible apply State.endRun_framed
  with_reducible apply State.setTile_framed
  with_reducible assumption
  exact kf.sub rfl
  exact kf.sub rfl
  with_reducible assumption
  with_reducible apply State.ticks_framed
  with_reducible apply State.setTile_framed
  with_reducible assumption
  exact kf.sub rfl
  exact kf.sub rfl

theorem State.takeStore_framed {s : State} {t_ : Fin 32} {cycles : Nat} (hs : State.Framed q b s) (kf : b.free [Part.reg RegGroup.ic, Part.tiles, Part.ic]) :
    State.Framed q b (State.takeStore s t_ cycles) := by
  unfold State.takeStore
  extract_lets +onlyGivenNames x; clear_value x
  split
  with_reducible apply State.resume_framed
  with_reducible apply State.setTile_framed
  with_reducible assumption
  exact kf.sub rfl
  exact kf.sub rfl
  with_reducible assumption

end Sys2Proof.Machine

/-! Sampling, feedback, the loops, the planner, the Kilns and the step axes keep what `State.Framed` says: one lemma per operation. -/

namespace Sys2Proof.Machine

open Sys2Proof

variable {q : List Instr} {b : Kept}

theorem State.setFilter_framed {s : State} {n : Fin 80} {f : Filter} (hs : State.Framed q b s) (kf : b.free [Part.filters]) :
    State.Framed q b (State.setFilter s n f) := by
  have k_filters : b.keep .filters = false := kf.get rfl
  unfold State.setFilter
  simp -zeta only [framed_mk, k_filters, or_true, true_or]
  with_reducible assumption

theorem execSdcArmWrite_framed {arm : BitVec 9} {s : State} (hs : State.Framed q b s) (kf :
    b.free [Part.reg RegGroup.sdc, Part.sdclk]) :
  answers (execSdcArmWrite arm s) (State.Framed q b) := by
  have k1 : b.keep .sdclk = false := kf.get rfl
  unfold execSdcArmWrite
  extract_lets old keep new src t
  have h : State.Framed q b t := by
    dsimp only [t]
    simp only [framed_mk, k1, or_true, true_or]
    exact hs
  exact answers_ite (answers_next (State.put_framed h (kf.get rfl))) (answers_next (State.flag_framed (State.put_framed h (kf.get rfl)) (kf.get rfl)))

theorem execSdcFreqWrite_framed {slow : Bool} {s : State} (hs : State.Framed q b s) (kf : b.free [Part.reg RegGroup.sdc]) :
    answers (execSdcFreqWrite slow s) (State.Framed q b) := by
  unfold execSdcFreqWrite
  with_reducible apply answers_ite
  with_reducible apply answers_next
  with_reducible apply State.flag_framed
  with_reducible assumption
  exact kf.get rfl
  with_reducible apply answers_next
  with_reducible apply State.putB_framed
  with_reducible assumption
  exact kf.get rfl

theorem execSdcDlyWrite_framed {g : Fin 9} {v : BitVec 7} {s : State} (hs : State.Framed q b s) (kf : b.free [Part.reg RegGroup.sdc]) :
    answers (execSdcDlyWrite g v s) (State.Framed q b) := by
  unfold execSdcDlyWrite
  with_reducible apply answers_ite
  with_reducible apply answers_next
  with_reducible apply State.flag_framed
  with_reducible assumption
  exact kf.get rfl
  with_reducible apply answers_next
  with_reducible apply State.wr_framed
  with_reducible assumption
  exact kf.get rfl

theorem State.applyClocks_framed {s : State} {w : Time} (hs : State.Framed q b s) (kf : b.free [Part.sdclk]) :
    State.Framed q b (State.applyClocks s w) := by
  have k_sdclk : b.keep .sdclk = false := kf.get rfl
  unfold State.applyClocks
  extract_lets +onlyGivenNames x; clear_value x
  extract_lets +onlyGivenNames x; clear_value x
  extract_lets +onlyGivenNames x; clear_value x
  simp -zeta only [framed_mk, k_sdclk, or_true, true_or]
  with_reducible assumption

theorem State.applyFilter_framed {s : State} {n : Fin 80} (hs : State.Framed q b s) (kf : b.free [Part.reg RegGroup.sdf, Part.filters]) :
    State.Framed q b (State.applyFilter s n) := by
  unfold State.applyFilter
  extract_lets +onlyGivenNames x; clear_value x
  extract_lets +onlyGivenNames x; clear_value x
  extract_lets +onlyGivenNames x; clear_value x
  extract_lets +onlyGivenNames x; clear_value x
  extract_lets +onlyGivenNames x; clear_value x
  with_reducible apply State.putB_framed
  with_reducible apply State.setFilter_framed
  with_reducible assumption
  exact kf.sub rfl
  exact kf.get rfl

theorem execSdfCfgWrite_framed {n : Fin 80} {v : Word} {s : State} (hs : State.Framed q b s) (kf : b.free [Part.reg RegGroup.sdf]) :
    answers (execSdfCfgWrite n v s) (State.Framed q b) := by
  unfold execSdfCfgWrite
  extract_lets +onlyGivenNames x; clear_value x
  extract_lets +onlyGivenNames x; clear_value x
  extract_lets +onlyGivenNames x; clear_value x
  with_reducible apply answers_ite
  with_reducible apply answers_next
  with_reducible apply State.wr_framed
  with_reducible assumption
  exact kf.get rfl
  with_reducible apply answers_next
  with_reducible apply State.flag_framed
  with_reducible assumption
  exact kf.get rfl

theorem execSdfGainWrite_framed {n : Fin 80} {inB ofs : Bool} {v : BitVec 24} {s : State} (hs : State.Framed q b s) (kf :
    b.free [Part.reg RegGroup.sdf]) :
  answers (execSdfGainWrite n inB ofs v s) (State.Framed q b) := by
  unfold execSdfGainWrite
  cases inB <;> cases ofs <;> exact answers_ite (answers_next hs) (answers_next (State.wr_framed hs (kf.get rfl)))

theorem State.deliverInput_framed {s : State} {n : Fin 80} {b_ : Bool} {bits : List Bool} {w : Time} (hs : State.Framed q b s) (kf : b.free [Part.reg RegGroup.sdf]) :
    State.Framed q b (State.deliverInput s n b_ bits w) := by
  unfold State.deliverInput
  simp -zeta only
  extract_lets +onlyGivenNames x; refine (fun (hx : State.Framed q b x) => ?_) ?_ <;> [(try clear_value x); subst x]
  extract_lets +onlyGivenNames x; refine (fun (hx : State.Framed q b x) => ?_) ?_ <;> [(try clear_value x); subst x]
  with_reducible apply framed_ite
  with_reducible apply State.bump_framed
  with_reducible assumption
  exact kf.get rfl
  with_reducible assumption
  with_reducible apply framed_ite
  with_reducible apply State.bump_framed
  with_reducible apply State.flag_framed
  with_reducible assumption
  split
  exact kf.get rfl
  exact kf.get rfl
  exact kf.get rfl
  with_reducible assumption
  with_reducible apply State.wr_framed
  with_reducible assumption
  split
  exact kf.get rfl
  exact kf.get rfl

theorem State.deliverFilters_framed {s : State} {bits : List ((Fin 80 × Bool) × List Bool)} {w : Time} (hs : State.Framed q b s) (kf : b.free [Part.reg RegGroup.sdf]) :
    State.Framed q b (State.deliverFilters s bits w) := by
  unfold State.deliverFilters
  with_reducible apply framed_foldl
  intro _ _ _
  extract_lets +onlyGivenNames x; refine (fun (hx : State.Framed q b x) => ?_) ?_ <;> [(try clear_value x); subst x]
  extract_lets +onlyGivenNames x; refine (fun (hx : State.Framed q b x) => ?_) ?_ <;> [(try clear_value x); subst x]
  with_reducible apply State.wr_framed
  with_reducible assumption
  exact kf.get rfl
  with_reducible apply framed_ite
  with_reducible apply State.deliverInput_framed
  with_reducible assumption
  exact kf.sub rfl
  with_reducible assumption
  with_reducible apply State.deliverInput_framed
  with_reducible assumption
  exact kf.sub rfl
  with_reducible assumption

theorem execSdfStuckRun_framed {n : Fin 80} {inB : Bool} {t_ : Nat} {s : State} (hs : State.Framed q b s) (kf : b.free (postParts ++ [Part.reg RegGroup.sdf, Part.now, Part.filters])) :
    answers (execSdfStuckRun n inB t_ s) (State.Framed q b) := by
  unfold execSdfStuckRun
  extract_lets +onlyGivenNames x; refine (fun (hx : State.Framed q b x) => ?_) ?_ <;> [(try clear_value x); subst x]
  extract_lets +onlyGivenNames x; clear_value x
  extract_lets +onlyGivenNames x; clear_value x
  extract_lets +onlyGivenNames x; refine (fun (hx : State.Framed q b x) => ?_) ?_ <;> [(try clear_value x); subst x]
  extract_lets +onlyGivenNames x; clear_value x
  with_reducible apply answers_ite
  with_reducible apply answers_next
  with_reducible apply State.post_framed
  with_reducible assumption
  exact kf.sub rfl
  with_reducible apply answers_next
  with_reducible assumption
  with_reducible apply State.flag_framed
  with_reducible apply State.setFilter_framed
  with_reducible assumption
  exact kf.sub rfl
  split
  exact kf.get rfl
  exact kf.get rfl
  with_reducible apply State.advance_framed
  with_reducible assumption
  exact kf.sub rfl

theorem execSdfStuckRunEnd_framed {n : Fin 80} {inB : Bool} {t_ : Nat} {s : State} (hs : State.Framed q b s) (kf : b.free [Part.reg RegGroup.sdf, Part.now, Part.filters]) :
    answers (execSdfStuckRunEnd n inB t_ s) (State.Framed q b) := by
  unfold execSdfStuckRunEnd
  extract_lets +onlyGivenNames x; refine (fun (hx : State.Framed q b x) => ?_) ?_ <;> [(try clear_value x); subst x]
  extract_lets +onlyGivenNames x; clear_value x
  extract_lets +onlyGivenNames x; clear_value x
  split
  with_reducible apply answers_next
  with_reducible apply State.put_framed
  with_reducible apply State.setFilter_framed
  with_reducible assumption
  exact kf.sub rfl
  split
  exact kf.get rfl
  exact kf.get rfl
  with_reducible apply answers_next
  with_reducible assumption
  with_reducible apply State.advance_framed
  with_reducible assumption
  exact kf.sub rfl

theorem State.setFb_framed {s : State} {n : Fin 64} {u : FbUnit} (hs : State.Framed q b s) (kf : b.free [Part.fbs]) :
    State.Framed q b (State.setFb s n u) := by
  have k_fbs : b.keep .fbs = false := kf.get rfl
  unfold State.setFb
  simp -zeta only [framed_mk, k_fbs, or_true, true_or]
  with_reducible assumption

theorem State.showFb_framed {s : State} {n : Fin 64} (hs : State.Framed q b s) (kf : b.free [Part.reg RegGroup.fb]) :
    State.Framed q b (State.showFb s n) := by
  unfold State.showFb
  extract_lets +onlyGivenNames x; clear_value x
  with_reducible apply State.putB_framed
  with_reducible apply State.putB_framed
  with_reducible apply State.putB_framed
  with_reducible apply State.putB_framed
  with_reducible apply State.putB_framed
  with_reducible assumption
  exact kf.get rfl
  exact kf.get rfl
  exact kf.get rfl
  exact kf.get rfl
  exact kf.get rfl

theorem State.updFb_framed {s : State} {n : Fin 64} {u : FbUnit} (hs : State.Framed q b s) (kf : b.free [Part.reg RegGroup.fb, Part.fbs]) :
    State.Framed q b (State.updFb s n u) := by
  unfold State.updFb
  with_reducible apply State.showFb_framed
  with_reducible apply State.setFb_framed
  with_reducible assumption
  exact kf.sub rfl
  exact kf.sub rfl

theorem State.fbError_framed {s : State} {n : Fin 64} (hs : State.Framed q b s) (kf : b.free [Part.reg RegGroup.fb, Part.fbs]) :
    State.Framed q b (State.fbError s n) := by
  unfold State.fbError
  extract_lets +onlyGivenNames x; clear_value x
  with_reducible apply State.setFb_framed
  with_reducible apply State.bump_framed
  with_reducible assumption
  exact kf.get rfl
  exact kf.sub rfl

theorem State.moveTo_framed {s : State} {n : Fin 64} {x : Int} (hs : State.Framed q b s) (kf : b.free (postParts ++ [Part.reg RegGroup.fb, Part.fbs])) :
    State.Framed q b (State.moveTo s n x) := by
  unfold State.moveTo
  extract_lets +onlyGivenNames x; clear_value x
  extract_lets +onlyGivenNames x; clear_value x
  extract_lets +onlyGivenNames x; clear_value x
  extract_lets +onlyGivenNames x; refine (fun (hx : State.Framed q b x) => ?_) ?_ <;> [(try clear_value x); subst x]
  with_reducible apply framed_ite
  with_reducible apply State.updFb_framed
  with_reducible assumption
  exact kf.sub rfl
  with_reducible apply framed_ite
  with_reducible assumption
  with_reducible apply State.post_framed
  with_reducible assumption
  exact kf.sub rfl
  with_reducible apply State.flag_framed
  with_reducible apply State.updFb_framed
  with_reducible assumption
  exact kf.sub rfl
  exact kf.get rfl

theorem State.cmpHit_framed {s : State} {n : Fin 64} {t_ : Time} {shown : Time} (hs : State.Framed q b s) (kf : b.free (postParts ++ [Part.reg RegGroup.fb, Part.fbs])) :
    State.Framed q b (State.cmpHit s n t_ shown).1 := by
  unfold State.cmpHit
  extract_lets +onlyGivenNames x; clear_value x
  extract_lets +onlyGivenNames x; clear_value x
  extract_lets +onlyGivenNames x; clear_value x
  extract_lets +onlyGivenNames x; clear_value x
  extract_lets +onlyGivenNames x; clear_value x
  extract_lets +onlyGivenNames x; clear_value x
  extract_lets +onlyGivenNames x; clear_value x
  extract_lets +onlyGivenNames x; clear_value x
  extract_lets +onlyGivenNames x; clear_value x
  extract_lets +onlyGivenNames x; subst x
  extract_lets +onlyGivenNames x; refine (fun (hx : State.Framed q b x) => ?_) ?_ <;> [(try clear_value x); subst x]
  extract_lets +onlyGivenNames x; refine (fun (hx : State.Framed q b x) => ?_) ?_ <;> [(try clear_value x); subst x]
  extract_lets +onlyGivenNames x; clear_value x
  extract_lets +onlyGivenNames x; refine (fun (hx : State.Framed q b x) => ?_) ?_ <;> [(try clear_value x); subst x]
  split
  simp -zeta only
  with_reducible apply State.setFb_framed
  with_reducible assumption
  exact kf.sub rfl
  simp -zeta only
  with_reducible apply State.wr_framed
  with_reducible assumption
  exact kf.get rfl
  with_reducible apply State.wr48_framed
  with_reducible apply State.setFb_framed
  with_reducible assumption
  exact kf.sub rfl
  exact kf.get rfl
  exact kf.get rfl
  with_reducible apply framed_ite
  with_reducible apply State.postAt_framed
  with_reducible assumption
  exact kf.sub rfl
  with_reducible assumption
  with_reducible apply State.wr_framed
  with_reducible apply State.count_framed
  with_reducible assumption
  exact kf.get rfl
  exact kf.get rfl

theorem State.cmpMotion_framed {s : State} {n : Fin 64} {old : Int} {t_ : Time} {shown : Time} (hs : State.Framed q b s) (kf : b.free (postParts ++ [Part.reg RegGroup.fb, Part.fbs])) :
    State.Framed q b (State.cmpMotion s n old t_ shown) := by
  unfold State.cmpMotion
  extract_lets +onlyGivenNames x; clear_value x
  extract_lets +onlyGivenNames x; clear_value x
  simp -zeta only
  with_reducible apply framed_ite
  with_reducible apply framed_ite
  with_reducible apply State.flag_framed
  with_reducible apply State.cmpHit_framed
  with_reducible assumption
  exact kf.sub rfl
  exact kf.get rfl
  with_reducible apply State.cmpHit_framed
  with_reducible assumption
  exact kf.sub rfl
  with_reducible assumption

theorem State.cmpLate_framed {s : State} {n : Fin 64} (hs : State.Framed q b s) (kf : b.free (postParts ++ [Part.reg RegGroup.fb, Part.fbs])) :
    State.Framed q b (State.cmpLate s n) := by
  unfold State.cmpLate
  extract_lets +onlyGivenNames x; clear_value x
  extract_lets +onlyGivenNames x; clear_value x
  with_reducible apply framed_ite
  with_reducible apply State.flag_framed
  with_reducible apply State.cmpHit_framed
  with_reducible assumption
  exact kf.sub rfl
  exact kf.get rfl
  with_reducible assumption

theorem State.fbCount_framed {s : State} {n : Fin 64} {rev : Bool} {t_ : Time} (hs : State.Framed q b s) (kf : b.free (postParts ++ [Part.reg RegGroup.fb, Part.fbs])) :
    State.Framed q b (State.fbCount s n rev t_) := by
  unfold State.fbCount
  extract_lets +onlyGivenNames x; clear_value x
  extract_lets +onlyGivenNames x; clear_value x
  extract_lets +onlyGivenNames x; clear_value x
  with_reducible apply State.cmpMotion_framed
  with_reducible apply State.moveTo_framed
  with_reducible apply State.setFb_framed
  with_reducible assumption
  exact kf.sub rfl
  exact kf.sub rfl
  exact kf.sub rfl

theorem State.fbIllegal_framed {s : State} {n : Fin 64} (hs : State.Framed q b s) (kf : b.free [Part.reg RegGroup.fb, Part.fbs]) :
    State.Framed q b (State.fbIllegal s n) := by
  unfold State.fbIllegal
  extract_lets +onlyGivenNames x; refine (fun (hx : State.Framed q b x) => ?_) ?_ <;> [(try clear_value x); subst x]
  extract_lets +onlyGivenNames x; clear_value x
  with_reducible apply State.updFb_framed
  with_reducible assumption
  exact kf.sub rfl
  with_reducible apply State.fbError_framed
  with_reducible assumption
  exact kf.sub rfl

theorem State.quadSample_framed {s : State} {n : Fin 64} {old : BitVec 3} {new : BitVec 3} {t_ : Time} (hs : State.Framed q b s) (kf : b.free (postParts ++ [Part.reg RegGroup.fb, Part.fbs])) :
    State.Framed q b (State.quadSample s n old new t_) := by
  unfold State.quadSample
  extract_lets +onlyGivenNames x; clear_value x
  extract_lets +onlyGivenNames x; clear_value x
  extract_lets +onlyGivenNames x; refine (fun (hx : State.Framed q b x) => ?_) ?_ <;> [(try clear_value x); subst x]
  extract_lets +onlyGivenNames x; clear_value x
  with_reducible apply framed_ite
  with_reducible apply State.flag_framed
  with_reducible apply State.wr48_framed
  with_reducible apply State.setFb_framed
  with_reducible assumption
  exact kf.sub rfl
  exact kf.get rfl
  exact kf.get rfl
  exact kf.get rfl
  with_reducible assumption
  with_reducible apply framed_ite
  with_reducible assumption
  with_reducible apply framed_ite
  with_reducible apply State.fbIllegal_framed
  with_reducible assumption
  exact kf.sub rfl
  with_reducible apply State.fbCount_framed
  with_reducible assumption
  exact kf.sub rfl

theorem State.hallSample_framed {s : State} {n : Fin 64} {new : BitVec 3} {t_ : Time} (hs : State.Framed q b s) (kf : b.free (postParts ++ [Part.reg RegGroup.fb, Part.fbs])) :
    State.Framed q b (State.hallSample s n new t_) := by
  unfold State.hallSample
  extract_lets +onlyGivenNames x; clear_value x
  extract_lets +onlyGivenNames x; refine (fun (hx : State.Framed q b x) => ?_) ?_ <;> [(try clear_value x); subst x]
  split
  with_reducible apply State.fbIllegal_framed
  with_reducible assumption
  exact kf.sub rfl
  split
  with_reducible apply State.put_framed
  with_reducible assumption
  exact kf.get rfl
  with_reducible apply framed_ite
  with_reducible assumption
  with_reducible apply framed_ite
  with_reducible apply State.fbCount_framed
  with_reducible assumption
  exact kf.sub rfl
  with_reducible apply framed_ite
  with_reducible apply State.fbCount_framed
  with_reducible assumption
  exact kf.sub rfl
  with_reducible apply State.fbIllegal_framed
  with_reducible assumption
  exact kf.sub rfl
  with_reducible apply State.setFb_framed
  with_reducible assumption
  exact kf.sub rfl

theorem execFbLineChange_framed {n : Fin 64} {lines : BitVec 3} {t_ : Nat} {s : State} (hs : State.Framed q b s) (kf : b.free (postParts ++ [Part.reg RegGroup.fb, Part.now, Part.fbs])) :
    answers (execFbLineChange n lines t_ s) (State.Framed q b) := by
  unfold execFbLineChange
  extract_lets +onlyGivenNames x; refine (fun (hx : State.Framed q b x) => ?_) ?_ <;> [(try clear_value x); subst x]
  extract_lets +onlyGivenNames x; clear_value x
  extract_lets +onlyGivenNames x; clear_value x
  extract_lets +onlyGivenNames x; refine (fun (hx : State.Framed q b x) => ?_) ?_ <;> [(try clear_value x); subst x]
  with_reducible apply answers_ite
  with_reducible apply answers_next
  with_reducible assumption
  with_reducible apply answers_ite
  with_reducible apply answers_next
  with_reducible apply State.quadSample_framed
  with_reducible assumption
  exact kf.sub rfl
  with_reducible apply answers_ite
  with_reducible apply answers_next
  with_reducible apply State.hallSample_framed
  with_reducible assumption
  exact kf.sub rfl
  with_reducible apply answers_next
  with_reducible assumption
  with_reducible apply State.setFb_framed
  with_reducible assumption
  exact kf.sub rfl
  with_reducible apply State.advance_framed
  with_reducible assumption
  exact kf.sub rfl

theorem execFbReadingStart_framed {n : Fin 64} {s : State} (hs : State.Framed q b s) (kf : b.free [Part.now, Part.fbs]) :
    answers (execFbReadingStart n s) (State.Framed q b) := by
  unfold execFbReadingStart
  extract_lets +onlyGivenNames x; clear_value x
  extract_lets +onlyGivenNames x; clear_value x
  extract_lets +onlyGivenNames x; subst x
  extract_lets +onlyGivenNames x; clear_value x
  with_reducible apply answers_ite
  with_reducible apply answers_next
  with_reducible apply State.setFb_framed
  with_reducible apply State.advance_framed
  with_reducible assumption
  exact kf.sub rfl
  exact kf.sub rfl
  with_reducible apply answers_next
  with_reducible assumption

theorem State.readingOut_framed {s : State} {n : Fin 64} {o : Option (Nat × Int)} (hs : State.Framed q b s) (kf : b.free [Part.fbs]) :
    State.Framed q b (State.readingOut s n o) := by
  unfold State.readingOut
  extract_lets +onlyGivenNames x; clear_value x
  with_reducible apply State.setFb_framed
  with_reducible assumption
  exact kf.sub rfl

theorem State.readingFailed_framed {s : State} {n : Fin 64} (hs : State.Framed q b s) (kf : b.free [Part.reg RegGroup.fb, Part.fbs]) :
    State.Framed q b (State.readingFailed s n) := by
  unfold State.readingFailed
  with_reducible apply State.readingOut_framed
  with_reducible apply State.fbError_framed
  with_reducible assumption
  exact kf.sub rfl
  exact kf.sub rfl

theorem State.readingTimeout_framed {s : State} {n : Fin 64} (hs : State.Framed q b s) (kf : b.free [Part.reg RegGroup.fb, Part.fbs]) :
    State.Framed q b (State.readingTimeout s n) := by
  unfold State.readingTimeout
  with_reducible apply State.flag_framed
  with_reducible apply State.readingFailed_framed
  with_reducible assumption
  exact kf.sub rfl
  exact kf.get rfl

theorem execFbReadingTimeout_framed {n : Fin 64} {s : State} (hs : State.Framed q b s) (kf : b.free [Part.reg RegGroup.fb, Part.fbs]) :
    answers (execFbReadingTimeout n s) (State.Framed q b) := by
  unfold execFbReadingTimeout
  split
  with_reducible apply answers_next
  with_reducible assumption
  with_reducible apply answers_next
  with_reducible apply State.readingTimeout_framed
  with_reducible assumption
  exact kf.sub rfl

theorem State.firstReading_framed {s : State} {n : Fin 64} {r : Reading} {a : Nat} {value : Int} (hs : State.Framed q b s) (kf : b.free (postParts ++ [Part.reg RegGroup.fb, Part.fbs])) :
    State.Framed q b (State.firstReading s n r a value) := by
  unfold State.firstReading
  extract_lets +onlyGivenNames x; clear_value x
  extract_lets +onlyGivenNames x; refine (fun (hx : State.Framed q b x) => ?_) ?_ <;> [(try clear_value x); subst x]
  with_reducible apply State.put_framed
  with_reducible apply State.moveTo_framed
  with_reducible assumption
  exact kf.sub rfl
  exact kf.get rfl
  with_reducible apply State.setFb_framed
  with_reducible assumption
  exact kf.sub rfl

theorem State.nextReading_framed {s : State} {n : Fin 64} {r : Reading} {a : Nat} {d : Int} {since : Time} (hs : State.Framed q b s) (kf : b.free (postParts ++ [Part.reg RegGroup.fb, Part.fbs])) :
    State.Framed q b (State.nextReading s n r a d since) := by
  unfold State.nextReading
  extract_lets +onlyGivenNames x; clear_value x
  extract_lets +onlyGivenNames x; clear_value x
  extract_lets +onlyGivenNames x; clear_value x
  with_reducible apply State.cmpMotion_framed
  with_reducible apply State.moveTo_framed
  with_reducible apply State.setFb_framed
  with_reducible assumption
  exact kf.sub rfl
  exact kf.sub rfl
  exact kf.sub rfl

theorem State.deliverReading_framed {s : State} {n : Fin 64} {k : Nat} (hs : State.Framed q b s) (kf : b.free (postParts ++ [Part.reg RegGroup.fb, Part.fbs])) :
    State.Framed q b (State.deliverReading s n k) := by
  unfold State.deliverReading
  split
  with_reducible assumption
  extract_lets +onlyGivenNames x; refine (fun (hx : State.Framed q b x) => ?_) ?_ <;> [(try clear_value x); subst x]
  extract_lets +onlyGivenNames x; clear_value x
  extract_lets +onlyGivenNames x; refine (fun (hx : State.Framed q b x) => ?_) ?_ <;> [(try clear_value x); subst x]
  extract_lets +onlyGivenNames x; clear_value x
  with_reducible apply framed_ite
  with_reducible assumption
  split
  with_reducible apply State.firstReading_framed
  with_reducible assumption
  exact kf.sub rfl
  with_reducible apply State.nextReading_framed
  with_reducible assumption
  exact kf.sub rfl
  with_reducible apply State.updFb_framed
  with_reducible assumption
  exact kf.sub rfl
  with_reducible apply State.setFb_framed
  with_reducible assumption
  exact kf.sub rfl
  with_reducible apply framed_ite
  with_reducible apply State.readingTimeout_framed
  with_reducible assumption
  exact kf.sub rfl
  with_reducible assumption

theorem State.validReading_framed {s : State} {n : Fin 64} {turnBits : Nat} {turns : Nat} {pos : Nat} (hs : State.Framed q b s) (kf : b.free [Part.reg RegGroup.fb, Part.fbs]) :
    State.Framed q b (State.validReading s n turnBits turns pos) := by
  unfold State.validReading
  extract_lets +onlyGivenNames x; clear_value x
  extract_lets +onlyGivenNames x; clear_value x
  extract_lets +onlyGivenNames x; clear_value x
  split
  with_reducible apply State.readingOut_framed
  with_reducible assumption
  exact kf.sub rfl
  extract_lets +onlyGivenNames x; clear_value x
  with_reducible apply framed_ite
  with_reducible apply State.flag_framed
  with_reducible apply State.readingFailed_framed
  with_reducible assumption
  exact kf.sub rfl
  exact kf.get rfl
  with_reducible apply State.readingOut_framed
  with_reducible assumption
  exact kf.sub rfl

theorem execSsiReadingDone_framed {n : Fin 64} {idleHigh : Bool} {data : BitVec 48} {extra : Bool} {s : State} (hs : State.Framed q b s) (kf : b.free [Part.reg RegGroup.fb, Part.now, Part.fbs]) :
    answers (execSsiReadingDone n idleHigh data extra s) (State.Framed q b) := by
  unfold execSsiReadingDone
  split
  with_reducible apply answers_next
  with_reducible assumption
  extract_lets +onlyGivenNames x; refine (fun (hx : State.Framed q b x) => ?_) ?_ <;> [(try clear_value x); subst x]
  extract_lets +onlyGivenNames x; clear_value x
  extract_lets +onlyGivenNames x; clear_value x
  extract_lets +onlyGivenNames x; clear_value x
  extract_lets +onlyGivenNames x; subst x
  extract_lets +onlyGivenNames x; clear_value x
  extract_lets +onlyGivenNames x; clear_value x
  extract_lets +onlyGivenNames x; refine (fun (hx : State.Framed q b x) => ?_) ?_ <;> [(try clear_value x); subst x]
  with_reducible apply answers_ite
  with_reducible apply answers_next
  with_reducible assumption
  with_reducible apply answers_ite
  with_reducible apply answers_next
  with_reducible apply State.readingTimeout_framed
  with_reducible assumption
  exact kf.sub rfl
  with_reducible apply answers_ite
  with_reducible apply answers_next
  with_reducible apply State.flag_framed
  with_reducible apply State.readingFailed_framed
  with_reducible assumption
  exact kf.sub rfl
  exact kf.get rfl
  with_reducible apply answers_next
  with_reducible apply State.validReading_framed
  with_reducible assumption
  exact kf.sub rfl
  with_reducible apply framed_ite
  with_reducible apply State.flag_framed
  with_reducible assumption
  exact kf.get rfl
  with_reducible assumption
  with_reducible apply State.advance_framed
  with_reducible assumption
  exact kf.sub rfl

theorem execFiligreeResponse_framed {n : Fin 64} {data : BitVec 72} {stop : Bool} {t_ : Nat} {s : State} (hs : State.Framed q b s) (kf : b.free [Part.reg RegGroup.fb, Part.now, Part.fbs]) :
    answers (execFiligreeResponse n data stop t_ s) (State.Framed q b) := by
  unfold execFiligreeResponse
  extract_lets +onlyGivenNames x; subst x
  extract_lets +onlyGivenNames x; clear_value x
  extract_lets +onlyGivenNames x; clear_value x
  extract_lets +onlyGivenNames x; subst x
  extract_lets +onlyGivenNames x; clear_value x
  extract_lets +onlyGivenNames x; refine (fun (hx : State.Framed q b x) => ?_) ?_ <;> [(try clear_value x); subst x]
  extract_lets +onlyGivenNames x; clear_value x
  extract_lets +onlyGivenNames x; clear_value x
  extract_lets +onlyGivenNames x; clear_value x
  extract_lets +onlyGivenNames x; clear_value x
  extract_lets +onlyGivenNames x; refine (fun (hx : State.Framed q b x) => ?_) ?_ <;> [(try clear_value x); subst x]
  extract_lets +onlyGivenNames x; refine (fun (hx : State.Framed q b x) => ?_) ?_ <;> [(try clear_value x); subst x]
  extract_lets +onlyGivenNames x; refine (fun (hx : State.Framed q b x) => ?_) ?_ <;> [(try clear_value x); subst x]
  split
  with_reducible apply answers_next
  with_reducible apply State.advance_framed
  with_reducible assumption
  exact kf.sub rfl
  split
  with_reducible apply answers_ite
  with_reducible apply answers_next
  with_reducible assumption
  with_reducible apply answers_ite
  with_reducible apply answers_next
  with_reducible apply State.readingTimeout_framed
  with_reducible assumption
  exact kf.sub rfl
  with_reducible apply answers_ite
  with_reducible apply answers_next
  with_reducible apply State.flag_framed
  with_reducible apply State.readingFailed_framed
  with_reducible assumption
  exact kf.sub rfl
  exact kf.get rfl
  with_reducible apply answers_ite
  with_reducible apply answers_next
  with_reducible apply State.flag_framed
  with_reducible apply State.readingFailed_framed
  with_reducible assumption
  exact kf.sub rfl
  exact kf.get rfl
  with_reducible apply answers_ite
  with_reducible apply answers_next
  with_reducible apply State.readingFailed_framed
  with_reducible assumption
  exact kf.sub rfl
  with_reducible apply answers_next
  with_reducible apply State.validReading_framed
  with_reducible assumption
  exact kf.sub rfl
  with_reducible apply answers_ite
  with_reducible apply answers_next
  with_reducible assumption
  with_reducible apply answers_ite
  with_reducible apply answers_next
  with_reducible apply State.readingTimeout_framed
  with_reducible assumption
  exact kf.sub rfl
  with_reducible apply answers_ite
  with_reducible apply answers_next
  with_reducible apply State.flag_framed
  with_reducible apply State.readingFailed_framed
  with_reducible assumption
  exact kf.sub rfl
  exact kf.get rfl
  with_reducible apply answers_ite
  with_reducible apply answers_next
  with_reducible apply State.flag_framed
  with_reducible apply State.readingFailed_framed
  with_reducible assumption
  exact kf.sub rfl
  exact kf.get rfl
  with_reducible apply answers_ite
  with_reducible apply answers_next
  with_reducible apply State.readingFailed_framed
  with_reducible assumption
  exact kf.sub rfl
  with_reducible apply answers_next
  with_reducible apply State.validReading_framed
  with_reducible assumption
  exact kf.sub rfl
  with_reducible apply framed_ite
  with_reducible apply State.flag_framed
  with_reducible assumption
  exact kf.get rfl
  with_reducible assumption
  with_reducible apply State.wr_framed
  with_reducible assumption
  exact kf.get rfl
  with_reducible apply framed_ite
  with_reducible apply State.setFb_framed
  with_reducible assumption
  exact kf.sub rfl
  with_reducible assumption
  with_reducible apply State.advance_framed
  with_reducible assumption
  exact kf.sub rfl

theorem State.speedReport_framed {s : State} {n : Fin 64} {w : Time} (hs : State.Framed q b s) (kf : b.free [Part.reg RegGroup.fb, Part.fbs]) :
    State.Framed q b (State.speedReport s n w) := by
  unfold State.speedReport
  extract_lets +onlyGivenNames x; clear_value x
  extract_lets +onlyGivenNames x; clear_value x
  extract_lets +onlyGivenNames x; clear_value x
  extract_lets +onlyGivenNames x; clear_value x
  extract_lets +onlyGivenNames x; clear_value x
  extract_lets +onlyGivenNames x; clear_value x
  extract_lets +onlyGivenNames x; refine (fun (hx : State.Framed q b x) => ?_) ?_ <;> [(try clear_value x); subst x]
  extract_lets +onlyGivenNames x; clear_value x
  with_reducible apply State.setFb_framed
  with_reducible assumption
  exact kf.sub rfl
  with_reducible apply State.updFb_framed
  with_reducible assumption
  exact kf.sub rfl

theorem execFbStandstillTimeout_framed {n : Fin 64} {s : State} (hs : State.Framed q b s) (kf : b.free [Part.reg RegGroup.fb, Part.fbs]) :
    answers (execFbStandstillTimeout n s) (State.Framed q b) := by
  unfold execFbStandstillTimeout
  with_reducible apply answers_next
  with_reducible apply framed_ite
  with_reducible apply State.speedReport_framed
  with_reducible assumption
  exact kf.sub rfl
  with_reducible assumption

theorem State.deliverFb_framed {s : State} {n : Fin 64} (hs : State.Framed q b s) (kf : b.free [Part.reg RegGroup.fb]) :
    State.Framed q b (State.deliverFb s n) := by
  unfold State.deliverFb
  simp -zeta only
  with_reducible apply framed_ite
  with_reducible apply State.wr_framed
  with_reducible apply State.wr48_framed
  with_reducible apply State.wr48_framed
  with_reducible assumption
  exact kf.get rfl
  exact kf.get rfl
  exact kf.get rfl
  exact kf.get rfl
  exact kf.get rfl
  with_reducible assumption

theorem execFbErrLimit_framed {n : Fin 64} {s : State} (hs : State.Framed q b s) (kf : b.free (postParts ++ [Part.reg RegGroup.fb, Part.fbs])) :
    answers (execFbErrLimit n s) (State.Framed q b) := by
  unfold execFbErrLimit
  extract_lets +onlyGivenNames x; clear_value x
  extract_lets +onlyGivenNames x; clear_value x
  extract_lets +onlyGivenNames x; refine (fun (hx : State.Framed q b x) => ?_) ?_ <;> [(try clear_value x); subst x]
  with_reducible apply answers_ite
  with_reducible apply answers_next
  with_reducible apply State.post_framed
  with_reducible assumption
  exact kf.sub rfl
  with_reducible apply answers_next
  with_reducible assumption
  with_reducible apply State.flag_framed
  with_reducible apply State.setFb_framed
  with_reducible assumption
  exact kf.sub rfl
  exact kf.get rfl

theorem execFbLimitWrite_framed {n : Fin 64} {upper : Bool} {hi : BitVec 16} {s : State} (hs : State.Framed q b s) (kf : b.free (postParts ++ [Part.reg RegGroup.fb, Part.fbs])) :
    answers (execFbLimitWrite n upper hi s) (State.Framed q b) := by
  unfold execFbLimitWrite
  extract_lets +onlyGivenNames x; subst x
  extract_lets +onlyGivenNames x; subst x
  extract_lets +onlyGivenNames x; subst x
  extract_lets +onlyGivenNames x; refine (fun (hx : State.Framed q b x) => ?_) ?_ <;> [(try clear_value x); subst x]
  extract_lets +onlyGivenNames x; subst x
  with_reducible apply answers_ite
  with_reducible apply answers_next
  with_reducible apply State.flag_framed
  with_reducible assumption
  exact kf.get rfl
  with_reducible apply answers_next
  with_reducible apply State.moveTo_framed
  with_reducible apply State.setFb_framed
  with_reducible assumption
  exact kf.sub rfl
  exact kf.sub rfl
  with_reducible apply State.wr_framed
  with_reducible assumption
  split
  exact kf.get rfl
  exact kf.get rfl

theorem execFbSetWrite_framed {n : Fin 64} {hi : BitVec 16} {s : State} (hs : State.Framed q b s) (kf : b.free (postParts ++ [Part.reg RegGroup.fb, Part.fbs])) :
    answers (execFbSetWrite n hi s) (State.Framed q b) := by
  unfold execFbSetWrite
  extract_lets +onlyGivenNames x; clear_value x
  extract_lets +onlyGivenNames x; refine (fun (hx : State.Framed q b x) => ?_) ?_ <;> [(try clear_value x); subst x]
  with_reducible apply answers_next
  with_reducible apply State.cmpLate_framed
  with_reducible apply State.moveTo_framed
  with_reducible assumption
  exact kf.sub rfl
  exact kf.sub rfl
  with_reducible apply State.setFb_framed
  with_reducible apply State.wr_framed
  with_reducible assumption
  exact kf.get rfl
  exact kf.sub rfl

theorem execFbPosLoRead_framed {n : Fin 64} {s : State} (hs : State.Framed q b s) (kf : b.free [Part.reg RegGroup.fb, Part.rdata]) :
    answers (execFbPosLoRead n s) (State.Framed q b) := by
  unfold execFbPosLoRead
  extract_lets +onlyGivenNames x; clear_value x
  with_reducible apply answers_next
  with_reducible apply State.answer_framed
  with_reducible apply State.wr48_framed
  with_reducible assumption
  exact kf.get rfl
  exact kf.get rfl
  exact kf.sub rfl

theorem execCmpHitNsRead_framed {n : Fin 64} {s : State} (hs : State.Framed q b s) (kf : b.free [Part.reg RegGroup.fb, Part.rdata]) :
    answers (execCmpHitNsRead n s) (State.Framed q b) := by
  unfold execCmpHitNsRead
  extract_lets +onlyGivenNames x; clear_value x
  extract_lets +onlyGivenNames x; refine (fun (hx : State.Framed q b x) => ?_) ?_ <;> [(try clear_value x); subst x]
  with_reducible apply answers_next
  with_reducible apply State.answer_framed
  with_reducible assumption
  exact kf.sub rfl
  with_reducible apply State.wr_framed
  with_reducible apply State.wr_framed
  with_reducible assumption
  exact kf.get rfl
  exact kf.get rfl

theorem execFbEnWrite_framed {n : Fin 64} {on : Bool} {s : State} (hs : State.Framed q b s) (kf : b.free [Part.reg RegGroup.fb, Part.fbs]) :
    answers (execFbEnWrite n on s) (State.Framed q b) := by
  unfold execFbEnWrite
  extract_lets +onlyGivenNames x; clear_value x
  extract_lets +onlyGivenNames x; clear_value x
  extract_lets +onlyGivenNames x; clear_value x
  extract_lets +onlyGivenNames x; refine (fun (hx : State.Framed q b x) => ?_) ?_ <;> [(try clear_value x); subst x]
  with_reducible apply answers_ite
  with_reducible apply answers_next
  with_reducible apply State.setFb_framed
  with_reducible apply State.put_framed
  with_reducible apply State.put_framed
  with_reducible assumption
  exact kf.get rfl
  exact kf.get rfl
  exact kf.sub rfl
  with_reducible apply answers_ite
  with_reducible apply answers_next
  with_reducible assumption
  with_reducible apply answers_ite
  with_reducible apply answers_next
  with_reducible apply State.flag_framed
  with_reducible assumption
  exact kf.get rfl
  with_reducible apply answers_next
  with_reducible apply State.updFb_framed
  with_reducible assumption
  exact kf.sub rfl
  with_reducible apply State.putB_framed
  with_reducible apply State.put_framed
  with_reducible assumption
  exact kf.get rfl
  exact kf.get rfl

theorem execFbOutEnWrite_framed {n : Fin 64} {on : Bool} {s : State} (hs : State.Framed q b s) (kf : b.free [Part.reg RegGroup.fb]) :
    answers (execFbOutEnWrite n on s) (State.Framed q b) := by
  unfold execFbOutEnWrite
  with_reducible apply answers_ite
  with_reducible apply answers_next
  with_reducible apply State.flag_framed
  with_reducible assumption
  exact kf.get rfl
  with_reducible apply answers_next
  with_reducible apply State.putB_framed
  with_reducible assumption
  exact kf.get rfl

theorem execEncClr_framed {n : Fin 64} {s : State} (hs : State.Framed q b s) (kf : b.free [Part.fbs]) :
    answers (execEncClr n s) (State.Framed q b) := by
  unfold execEncClr
  extract_lets +onlyGivenNames x; clear_value x
  with_reducible apply answers_next
  with_reducible apply State.setFb_framed
  with_reducible assumption
  exact kf.sub rfl

theorem execFbCfgWrite_framed {n : Fin 64} {ser : Bool} {v : Word} {s : State} (hs : State.Framed q b s) (kf : b.free [Part.reg RegGroup.fb]) :
    answers (execFbCfgWrite n ser v s) (State.Framed q b) := by
  unfold execFbCfgWrite
  extract_lets +onlyGivenNames x; clear_value x
  extract_lets +onlyGivenNames x; clear_value x
  with_reducible apply answers_ite
  with_reducible apply answers_next
  with_reducible apply State.flag_framed
  with_reducible assumption
  exact kf.get rfl
  with_reducible apply answers_next
  with_reducible apply framed_ite
  with_reducible apply State.wr_framed
  with_reducible assumption
  exact kf.get rfl
  with_reducible apply State.wr_framed
  with_reducible assumption
  exact kf.get rfl

theorem State.cmpArm_framed {s : State} {n : Fin 64} (hs : State.Framed q b s) (kf : b.free (postParts ++ [Part.reg RegGroup.fb, Part.fbs])) :
    State.Framed q b (State.cmpArm s n) := by
  unfold State.cmpArm
  extract_lets +onlyGivenNames x; clear_value x
  extract_lets +onlyGivenNames x; clear_value x
  with_reducible apply State.cmpLate_framed
  with_reducible apply State.wr48_framed
  with_reducible apply State.setFb_framed
  with_reducible assumption
  exact kf.sub rfl
  exact kf.get rfl
  exact kf.get rfl
  exact kf.sub rfl

theorem execCmpArmWrite_framed {n : Fin 64} {hi : BitVec 16} {s : State} (hs : State.Framed q b s) (kf : b.free (postParts ++ [Part.reg RegGroup.fb, Part.fbs])) :
    answers (execCmpArmWrite n hi s) (State.Framed q b) := by
  unfold execCmpArmWrite
  extract_lets +onlyGivenNames x; refine (fun (hx : State.Framed q b x) => ?_) ?_ <;> [(try clear_value x); subst x]
  with_reducible apply answers_next
  with_reducible apply framed_ite
  with_reducible apply State.cmpArm_framed
  with_reducible assumption
  exact kf.sub rfl
  with_reducible assumption
  with_reducible apply State.wr_framed
  with_reducible assumption
  exact kf.get rfl

theorem execCmpEnWrite_framed {n : Fin 64} {on : Bool} {s : State} (hs : State.Framed q b s) (kf : b.free (postParts ++ [Part.reg RegGroup.fb, Part.fbs])) :
    answers (execCmpEnWrite n on s) (State.Framed q b) := by
  unfold execCmpEnWrite
  extract_lets +onlyGivenNames x; clear_value x
  extract_lets +onlyGivenNames x; refine (fun (hx : State.Framed q b x) => ?_) ?_ <;> [(try clear_value x); subst x]
  extract_lets +onlyGivenNames x; clear_value x
  with_reducible apply answers_ite
  with_reducible apply answers_next
  with_reducible apply State.setFb_framed
  with_reducible assumption
  exact kf.sub rfl
  with_reducible apply answers_ite
  with_reducible apply answers_next
  with_reducible assumption
  with_reducible apply answers_next
  with_reducible apply State.cmpArm_framed
  with_reducible assumption
  exact kf.sub rfl
  with_reducible apply State.putB_framed
  with_reducible assumption
  exact kf.get rfl

theorem execCmpPulseEnd_framed {n : Fin 64} {s : State} (hs : State.Framed q b s) (kf : b.free [Part.now, Part.fbs]) :
    answers (execCmpPulseEnd n s) (State.Framed q b) := by
  unfold execCmpPulseEnd
  extract_lets +onlyGivenNames x; clear_value x
  split
  with_reducible apply answers_next
  with_reducible assumption
  with_reducible apply answers_next
  with_reducible apply State.setFb_framed
  with_reducible apply State.advance_framed
  with_reducible assumption
  exact kf.sub rfl
  exact kf.sub rfl

theorem execCmpIrqLevelEnd_framed {n : Fin 64} {s : State} (hs : State.Framed q b s) (kf : b.free [Part.now, Part.fbs]) :
    answers (execCmpIrqLevelEnd n s) (State.Framed q b) := by
  unfold execCmpIrqLevelEnd
  extract_lets +onlyGivenNames x; clear_value x
  split
  with_reducible apply answers_next
  with_reducible assumption
  with_reducible apply answers_next
  with_reducible apply State.setFb_framed
  with_reducible apply State.advance_framed
  with_reducible assumption
  exact kf.sub rfl
  exact kf.sub rfl

theorem State.setLoop_framed {s : State} {n : Fin 256} {l : LoopState} (hs : State.Framed q b s) (kf : b.free [Part.loops]) :
    State.Framed q b (State.setLoop s n l) := by
  have k_loops : b.keep .loops = false := kf.get rfl
  unfold State.setLoop
  simp -zeta only [framed_mk, k_loops, or_true, true_or]
  with_reducible assumption

theorem State.loopDin_framed {s : State} {n : Fin 256} (hs : State.Framed q b s) (kf : b.free [Part.reg RegGroup.ld]) :
    State.Framed q b (State.loopDin s n) := by
  unfold State.loopDin
  extract_lets +onlyGivenNames x; clear_value x
  extract_lets +onlyGivenNames x; clear_value x
  extract_lets +onlyGivenNames x; clear_value x
  extract_lets +onlyGivenNames x; clear_value x
  with_reducible apply State.wr_framed
  with_reducible assumption
  exact kf.get rfl

theorem State.loopDelays_framed {s : State} {n : Fin 256} (hs : State.Framed q b s) (kf : b.free [Part.reg RegGroup.ld]) :
    State.Framed q b (State.loopDelays s n) := by
  unfold State.loopDelays
  with_reducible apply State.wr_framed
  with_reducible apply State.loopDin_framed
  with_reducible assumption
  exact kf.sub rfl
  exact kf.get rfl

theorem execLoopEnable_framed {n : Fin 256} {s : State} (hs : State.Framed q b s) (kf : b.free [Part.reg RegGroup.ld]) :
    answers (execLoopEnable n s) (State.Framed q b) := by
  unfold execLoopEnable
  with_reducible apply answers_ite
  with_reducible apply answers_next
  with_reducible assumption
  with_reducible apply answers_ite
  with_reducible apply answers_next
  with_reducible apply State.flag_framed
  with_reducible assumption
  exact kf.get rfl
  with_reducible apply answers_next
  with_reducible apply State.loopDelays_framed
  with_reducible apply State.put_framed
  with_reducible assumption
  exact kf.get rfl
  exact kf.sub rfl

theorem execLoopDisable_framed {n : Fin 256} {s : State} (hs : State.Framed q b s) (kf : b.free [Part.reg RegGroup.ld, Part.loops]) :
    answers (execLoopDisable n s) (State.Framed q b) := by
  unfold execLoopDisable
  extract_lets +onlyGivenNames x; refine (fun (hx : State.Framed q b x) => ?_) ?_ <;> [(try clear_value x); subst x]
  extract_lets +onlyGivenNames x; clear_value x
  with_reducible apply answers_next
  with_reducible apply State.setLoop_framed
  with_reducible assumption
  exact kf.sub rfl
  with_reducible apply State.put_framed
  with_reducible assumption
  exact kf.get rfl

theorem execLoopClrFault_framed {n : Fin 256} {s : State} (hs : State.Framed q b s) (kf : b.free [Part.reg RegGroup.ld, Part.loops]) :
    answers (execLoopClrFault n s) (State.Framed q b) := by
  unfold execLoopClrFault
  extract_lets +onlyGivenNames x; clear_value x
  with_reducible apply answers_ite
  with_reducible apply answers_next
  with_reducible assumption
  with_reducible apply answers_ite
  with_reducible apply answers_next
  with_reducible apply State.flag_framed
  with_reducible assumption
  exact kf.get rfl
  with_reducible apply answers_ite
  with_reducible apply answers_next
  with_reducible apply State.setLoop_framed
  with_reducible apply State.put_framed
  with_reducible assumption
  exact kf.get rfl
  exact kf.sub rfl
  with_reducible apply answers_next
  with_reducible assumption

theorem execLdConfigWrite_framed {n : Fin 256} {r : LdCfg} {v : Word} {s : State} (hs : State.Framed q b s) (kf : b.free [Part.reg RegGroup.ld]) :
    answers (execLdConfigWrite n r v s) (State.Framed q b) := by
  unfold execLdConfigWrite
  extract_lets +onlyGivenNames x; clear_value x
  extract_lets +onlyGivenNames x; clear_value x
  extract_lets +onlyGivenNames x; clear_value x
  with_reducible apply answers_ite
  with_reducible apply answers_next
  with_reducible apply State.wr_framed
  with_reducible assumption
  (with_reducible rw [ldCfgReg_group]); exact kf.get rfl
  with_reducible apply answers_ite
  with_reducible apply answers_next
  with_reducible assumption
  with_reducible apply answers_next
  with_reducible apply State.flag_framed
  with_reducible assumption
  exact kf.get rfl

theorem State.postEdges_framed {s : State} {n : Fin 64} {c : Nat} {words : List (Nat × Nat)} (hs : State.Framed q b s) (kf : b.free [Part.reg RegGroup.port, Part.ports]) :
    State.Framed q b (State.postEdges s n c words) := by
  unfold State.postEdges
  with_reducible apply framed_foldl
  intro _ _ _
  extract_lets +onlyGivenNames x; refine (fun (hx : State.Framed q b x) => ?_) ?_ <;> [(try clear_value x); subst x]
  with_reducible apply State.commitEw_framed
  with_reducible assumption
  exact kf.sub rfl
  with_reducible apply framed_foldl
  intro _ _ _
  with_reducible apply State.wr_framed
  with_reducible apply State.wr_framed
  with_reducible assumption
  exact kf.get rfl
  exact kf.get rfl
  with_reducible assumption
  with_reducible assumption

theorem State.toTile_framed {s : State} {n : Fin 256} {area : Nat} {k : Nat} {ws : List Word} (hs : State.Framed q b s) (kf : b.free [Part.mem]) :
    State.Framed q b (State.toTile s n area k ws) := by
  unfold State.toTile
  split
  with_reducible assumption
  with_reducible apply framed_foldl
  intro _ _ _
  with_reducible apply framed_foldl
  intro _ _ _
  with_reducible apply State.mput_framed
  with_reducible assumption
  exact kf.sub rfl
  with_reducible assumption
  with_reducible assumption

theorem State.banksToTile_framed {s : State} {n : Fin 256} (hs : State.Framed q b s) (kf : b.free [Part.mem]) :
    State.Framed q b (State.banksToTile s n) := by
  unfold State.banksToTile
  with_reducible apply framed_foldl
  intro _ _ _
  with_reducible apply State.toTile_framed
  with_reducible assumption
  exact kf.sub rfl
  with_reducible assumption

theorem State.showLaw_framed {s : State} {n : Fin 256} {vals : List Rat} (hs : State.Framed q b s) (kf : b.free [Part.reg RegGroup.ld]) :
    State.Framed q b (State.showLaw s n vals) := by
  unfold State.showLaw
  extract_lets +onlyGivenNames x; refine (fun (hx : State.Framed q b x) => ?_) ?_ <;> [(try clear_value x); subst x]
  with_reducible apply State.wr_framed
  with_reducible assumption
  exact kf.get rfl
  with_reducible apply framed_foldl
  intro _ _ _
  with_reducible apply State.wr_framed
  with_reducible assumption
  exact kf.get rfl
  with_reducible assumption

theorem State.lawDone_framed {s : State} {n : Fin 256} {r : LawRun} {cycles : Nat} (hs : State.Framed q b s) (kf : b.free [Part.reg RegGroup.ld, Part.loops]) :
    State.Framed q b (State.lawDone s n r cycles).1 := by
  unfold State.lawDone
  extract_lets +onlyGivenNames x; clear_value x
  extract_lets +onlyGivenNames x; clear_value x
  extract_lets +onlyGivenNames x; clear_value x
  simp -zeta only
  extract_lets +onlyGivenNames x; clear_value x
  extract_lets +onlyGivenNames x; clear_value x
  extract_lets +onlyGivenNames x; clear_value x
  extract_lets +onlyGivenNames x; clear_value x
  extract_lets +onlyGivenNames x; refine (fun (hx : State.Framed q b x) => ?_) ?_ <;> [(try clear_value x); subst x]
  extract_lets +onlyGivenNames x; refine (fun (hx : State.Framed q b x) => ?_) ?_ <;> [(try clear_value x); subst x]
  extract_lets +onlyGivenNames x; refine (fun (hx : State.Framed q b x) => ?_) ?_ <;> [(try clear_value x); subst x]
  extract_lets +onlyGivenNames x; refine (fun (hx : State.Framed q b x) => ?_) ?_ <;> [(try clear_value x); subst x]
  simp -zeta only
  with_reducible assumption
  split
  with_reducible apply State.wr_framed
  with_reducible assumption
  exact kf.get rfl
  with_reducible assumption
  with_reducible apply framed_ite
  with_reducible apply State.bump_framed
  with_reducible assumption
  exact kf.get rfl
  with_reducible assumption
  with_reducible apply State.wr_framed
  with_reducible apply State.count_framed
  with_reducible assumption
  exact kf.get rfl
  exact kf.get rfl
  with_reducible apply State.showLaw_framed
  with_reducible apply State.put_framed
  with_reducible apply State.setLoop_framed
  with_reducible assumption
  exact kf.sub rfl
  exact kf.get rfl
  exact kf.sub rfl

theorem execCurrentLawRun_framed {n : Fin 64} {s : State} (hs : State.Framed q b s) (kf : b.free [Part.reg RegGroup.port, Part.reg RegGroup.ld, Part.ports, Part.loops]) :
    answers (execCurrentLawRun n s) (State.Framed q b) := by
  unfold execCurrentLawRun
  extract_lets +onlyGivenNames x; clear_value x
  extract_lets +onlyGivenNames x; clear_value x
  extract_lets +onlyGivenNames x; clear_value x
  simp -zeta only
  with_reducible apply answers_ite
  with_reducible apply answers_next
  with_reducible apply State.postEdges_framed
  with_reducible apply State.lawDone_framed
  with_reducible assumption
  exact kf.sub rfl
  exact kf.sub rfl
  with_reducible apply answers_next
  with_reducible assumption

theorem State.refCommit_framed {s : State} {n : Fin 64} {src : Option (Fin 256)} {c : Nat} (hs : State.Framed q b s) (kf : b.free [Part.reg RegGroup.ld, Part.loops]) :
    State.Framed q b (State.refCommit s n src c) := by
  unfold State.refCommit
  extract_lets +onlyGivenNames x; clear_value x
  extract_lets +onlyGivenNames x; clear_value x
  extract_lets +onlyGivenNames x; clear_value x
  split
  with_reducible apply State.flag_framed
  with_reducible assumption
  exact kf.get rfl
  with_reducible apply framed_ite
  with_reducible apply State.flag_framed
  with_reducible assumption
  exact kf.get rfl
  with_reducible apply State.setLoop_framed
  with_reducible assumption
  exact kf.sub rfl
  extract_lets +onlyGivenNames x; clear_value x
  with_reducible apply framed_ite
  with_reducible assumption
  with_reducible apply State.setLoop_framed
  with_reducible assumption
  exact kf.sub rfl

theorem execLdRefCommit_framed {n : Fin 64} {src : Option (Fin 256)} {c : BitVec 16} {s : State} (hs : State.Framed q b s) (kf : b.free [Part.reg RegGroup.ld, Part.loops]) :
    answers (execLdRefCommit n src c s) (State.Framed q b) := by
  unfold execLdRefCommit
  with_reducible apply answers_next
  with_reducible apply State.refCommit_framed
  with_reducible assumption
  exact kf.sub rfl

theorem State.updOther_framed {s : State} {n : Fin 256} {f : PlanePosts → PlanePosts} (hs : State.Framed q b s) (kf : b.free [Part.pc]) :
    State.Framed q b (State.updOther s n f) := by
  have k_pc : b.keep .pc = false := kf.get rfl
  unfold State.updOther
  extract_lets +onlyGivenNames x; clear_value x
  with_reducible apply framed_ite
  simp -zeta only [framed_mk, k_pc, or_true, true_or]
  with_reducible assumption
  with_reducible assumption

theorem State.otherRef_framed {s : State} {n : Fin 256} {m : Fin 256} {c : Nat} (hs : State.Framed q b s) (kf : b.free [Part.pc]) :
    State.Framed q b (State.otherRef s n m c) := by
  unfold State.otherRef
  split
  with_reducible assumption
  extract_lets +onlyGivenNames x; clear_value x
  with_reducible apply framed_ite
  with_reducible assumption
  with_reducible apply State.updOther_framed
  with_reducible assumption
  exact kf.sub rfl

theorem State.postRef_framed {s : State} {m : Fin 256} {d : Nat} {q_ : Nat} (hs : State.Framed q b s) (kf : b.free [Part.reg RegGroup.ld, Part.loops, Part.pc]) :
    State.Framed q b (State.postRef s m d q_) := by
  unfold State.postRef
  extract_lets +onlyGivenNames x; clear_value x
  extract_lets +onlyGivenNames x; clear_value x
  extract_lets +onlyGivenNames x; refine (fun (hx : State.Framed q b x) => ?_) ?_ <;> [(try clear_value x); subst x]
  with_reducible apply framed_ite
  with_reducible assumption
  with_reducible apply State.refCommit_framed
  with_reducible apply State.wr_framed
  with_reducible apply State.wr_framed
  with_reducible assumption
  exact kf.get rfl
  exact kf.get rfl
  exact kf.sub rfl
  with_reducible apply State.otherRef_framed
  with_reducible apply State.updOther_framed
  with_reducible assumption
  exact kf.sub rfl
  exact kf.sub rfl

theorem execMotionLawRun_framed {n : Fin 64} {s : State} (hs : State.Framed q b s) (kf : b.free [Part.reg RegGroup.ld, Part.loops, Part.pc]) :
    answers (execMotionLawRun n s) (State.Framed q b) := by
  unfold execMotionLawRun
  extract_lets +onlyGivenNames x; clear_value x
  extract_lets +onlyGivenNames x; clear_value x
  extract_lets +onlyGivenNames x; clear_value x
  simp -zeta only
  with_reducible apply answers_ite
  with_reducible apply answers_next
  with_reducible apply framed_ite
  with_reducible apply State.postRef_framed
  with_reducible apply State.lawDone_framed
  with_reducible assumption
  exact kf.sub rfl
  exact kf.sub rfl
  with_reducible apply State.postRef_framed
  with_reducible apply State.lawDone_framed
  with_reducible assumption
  exact kf.sub rfl
  exact kf.sub rfl
  with_reducible apply answers_next
  with_reducible assumption

theorem execCustomLawRun_framed {n : Fin 256} {post : LawPost} {cycles : Nat} {s : State} (hs : State.Framed q b s) (kf : b.free [Part.reg RegGroup.port, Part.reg RegGroup.ld, Part.ports, Part.loops, Part.pc]) :
    answers (execCustomLawRun n post cycles s) (State.Framed q b) := by
  unfold execCustomLawRun
  extract_lets +onlyGivenNames x; clear_value x
  extract_lets +onlyGivenNames x; refine (fun (hx : State.Framed q b x) => ?_) ?_ <;> [(try clear_value x); subst x]
  extract_lets +onlyGivenNames x; refine (fun (hx : State.Framed q b x) => ?_) ?_ <;> [(try clear_value x); subst x]
  extract_lets +onlyGivenNames x; refine (fun (hx : State.Framed q b x) => ?_) ?_ <;> [(try clear_value x); subst x]
  with_reducible apply answers_ite
  split
  with_reducible apply answers_next
  with_reducible apply framed_ite
  with_reducible apply State.postEdges_framed
  with_reducible assumption
  exact kf.sub rfl
  with_reducible assumption
  with_reducible apply answers_next
  with_reducible apply framed_ite
  with_reducible apply State.postRef_framed
  with_reducible assumption
  exact kf.sub rfl
  with_reducible assumption
  with_reducible apply answers_next
  with_reducible assumption
  with_reducible apply answers_next
  with_reducible assumption
  with_reducible apply State.wr_framed
  with_reducible apply State.count_framed
  with_reducible assumption
  exact kf.get rfl
  exact kf.get rfl
  with_reducible apply State.put_framed
  with_reducible assumption
  exact kf.get rfl
  with_reducible apply State.setLoop_framed
  with_reducible assumption
  exact kf.sub rfl

theorem execLdSpCommit_framed {n : Fin 256} {c : BitVec 16} {s : State} (hs : State.Framed q b s) (kf : b.free [Part.reg RegGroup.ld, Part.loops]) :
    answers (execLdSpCommit n c s) (State.Framed q b) := by
  unfold execLdSpCommit
  extract_lets +onlyGivenNames x; clear_value x
  extract_lets +onlyGivenNames x; clear_value x
  with_reducible apply answers_ite
  with_reducible apply answers_next
  with_reducible assumption
  with_reducible apply answers_ite
  with_reducible apply answers_next
  with_reducible apply State.setLoop_framed
  with_reducible assumption
  exact kf.sub rfl
  with_reducible apply answers_ite
  with_reducible apply answers_next
  with_reducible assumption
  with_reducible apply answers_next
  with_reducible apply State.flag_framed
  with_reducible assumption
  exact kf.get rfl

theorem execLdSwapReq_framed {n : Fin 256} {s : State} (hs : State.Framed q b s) (kf : b.free [Part.reg RegGroup.ld]) :
    answers (execLdSwapReq n s) (State.Framed q b) := by
  unfold execLdSwapReq
  with_reducible apply answers_next
  with_reducible apply framed_ite
  with_reducible apply State.flag_framed
  with_reducible assumption
  exact kf.get rfl
  with_reducible apply State.put_framed
  with_reducible assumption
  exact kf.get rfl

theorem State.bankPut_framed {s : State} {n : Fin 256} {b_ : Fin 2} {k : Fin 64} {v : Word} (hs : State.Framed q b s) (kf : b.free [Part.reg RegGroup.ld, Part.mem]) :
    State.Framed q b (State.bankPut s n b_ k v) := by
  unfold State.bankPut
  with_reducible apply State.toTile_framed
  with_reducible apply State.wr_framed
  with_reducible assumption
  exact kf.get rfl
  exact kf.sub rfl

theorem execLdBankWrite_framed {n : Fin 256} {b_ : Fin 2} {k : Fin 64} {v : Word} {s : State} (hs : State.Framed q b s) (kf : b.free [Part.reg RegGroup.ld, Part.mem]) :
    answers (execLdBankWrite n b_ k v s) (State.Framed q b) := by
  unfold execLdBankWrite
  extract_lets +onlyGivenNames x; clear_value x
  extract_lets +onlyGivenNames x; clear_value x
  extract_lets +onlyGivenNames x; clear_value x
  extract_lets +onlyGivenNames x; clear_value x
  extract_lets +onlyGivenNames x; refine (fun (hx : State.Framed q b x) => ?_) ?_ <;> [(try clear_value x); subst x]
  with_reducible apply answers_ite
  with_reducible apply answers_next
  with_reducible apply State.flag_framed
  with_reducible assumption
  exact kf.get rfl
  with_reducible apply answers_ite
  with_reducible apply answers_next
  with_reducible assumption
  with_reducible apply answers_ite
  split
  with_reducible apply answers_next
  with_reducible apply State.bankPut_framed
  with_reducible assumption
  exact kf.sub rfl
  with_reducible apply answers_next
  with_reducible apply State.bankPut_framed
  with_reducible assumption
  exact kf.sub rfl
  with_reducible apply answers_next
  with_reducible apply State.bankPut_framed
  with_reducible assumption
  exact kf.sub rfl
  with_reducible apply answers_next
  with_reducible assumption
  with_reducible apply answers_next
  with_reducible apply State.bankPut_framed
  with_reducible assumption
  exact kf.sub rfl
  with_reducible apply framed_ite
  with_reducible apply State.flag_framed
  with_reducible assumption
  exact kf.get rfl
  with_reducible assumption

theorem execLoopSupWarn_framed {n : Fin 256} {s : State} (hs : State.Framed q b s) (kf : b.free [Part.reg RegGroup.ld, Part.loops]) :
    answers (execLoopSupWarn n s) (State.Framed q b) := by
  unfold execLoopSupWarn
  extract_lets +onlyGivenNames x; clear_value x
  with_reducible apply answers_next
  with_reducible apply framed_ite
  with_reducible apply State.flag_framed
  with_reducible apply State.setLoop_framed
  with_reducible assumption
  exact kf.sub rfl
  exact kf.get rfl
  with_reducible assumption

theorem State.declareFault_framed {s : State} {n : Fin 256} {cause : Nat} (hs : State.Framed q b s) (kf : b.free (postParts ++ [Part.reg RegGroup.ld])) :
    State.Framed q b (State.declareFault s n cause) := by
  unfold State.declareFault
  extract_lets +onlyGivenNames x; refine (fun (hx : State.Framed q b x) => ?_) ?_ <;> [(try clear_value x); subst x]
  with_reducible apply State.post_framed
  with_reducible assumption
  exact kf.sub rfl
  with_reducible apply State.bump_framed
  with_reducible apply State.put_framed
  with_reducible apply State.flag_framed
  with_reducible assumption
  exact kf.get rfl
  exact kf.get rfl
  exact kf.get rfl

theorem State.reactFault_framed {s : State} {n : Fin 256} {cause : Nat} (hs : State.Framed q b s) (kf : b.free (postParts ++ [Part.reg RegGroup.ld])) :
    State.Framed q b (State.reactFault s n cause) := by
  unfold State.reactFault
  extract_lets +onlyGivenNames x; refine (fun (hx : State.Framed q b x) => ?_) ?_ <;> [(try clear_value x); subst x]
  extract_lets +onlyGivenNames x; refine (fun (hx : State.Framed q b x) => ?_) ?_ <;> [(try clear_value x); subst x]
  extract_lets +onlyGivenNames x; clear_value x
  with_reducible apply framed_ite
  with_reducible assumption
  with_reducible apply framed_ite
  with_reducible apply State.put_framed
  with_reducible apply State.declareFault_framed
  with_reducible assumption
  exact kf.sub rfl
  exact kf.get rfl
  with_reducible assumption
  with_reducible apply State.put_framed
  with_reducible assumption
  exact kf.get rfl
  with_reducible apply State.declareFault_framed
  with_reducible assumption
  exact kf.sub rfl

theorem State.dueFault_framed {s : State} {n : Fin 256} {causes : List Nat} (hs : State.Framed q b s) (kf : b.free (postParts ++ [Part.reg RegGroup.ld, Part.loops])) :
    State.Framed q b (State.dueFault s n causes) := by
  unfold State.dueFault
  extract_lets +onlyGivenNames x; clear_value x
  split
  with_reducible assumption
  with_reducible apply framed_ite
  with_reducible apply State.reactFault_framed
  with_reducible apply State.setLoop_framed
  with_reducible assumption
  exact kf.sub rfl
  exact kf.sub rfl
  with_reducible assumption

theorem execLoopSupFault_framed {n : Fin 256} {s : State} (hs : State.Framed q b s) (kf : b.free (postParts ++ [Part.reg RegGroup.ld, Part.loops])) :
    answers (execLoopSupFault n s) (State.Framed q b) := by
  unfold execLoopSupFault
  with_reducible apply answers_next
  with_reducible apply State.dueFault_framed
  with_reducible assumption
  exact kf.sub rfl

theorem execLoopBadLimit_framed {n : Fin 256} {s : State} (hs : State.Framed q b s) (kf : b.free (postParts ++ [Part.reg RegGroup.ld, Part.loops])) :
    answers (execLoopBadLimit n s) (State.Framed q b) := by
  unfold execLoopBadLimit
  with_reducible apply answers_next
  with_reducible apply State.dueFault_framed
  with_reducible assumption
  exact kf.sub rfl

theorem State.posted_framed {s : State} {pl : Fin 2} {x : List Nat} (hs : State.Framed q b s) (kf : b.free [Part.pc]) :
    State.Framed q b (State.posted s pl x) := by
  have k_pc : b.keep .pc = false := kf.get rfl
  unfold State.posted
  extract_lets +onlyGivenNames x; clear_value x
  extract_lets +onlyGivenNames x; clear_value x
  simp -zeta only [framed_mk, k_pc, or_true, true_or]
  with_reducible assumption

theorem State.actOnWord_framed {s : State} {n : Fin 256} (hs : State.Framed q b s) (kf : b.free (postParts ++ [Part.reg RegGroup.port, Part.reg RegGroup.stp, Part.ports, Part.axes, Part.loops])) :
    State.Framed q b (State.actOnWord s n) := by
  unfold State.actOnWord
  extract_lets +onlyGivenNames x; clear_value x
  with_reducible apply State.forceTrip_framed
  with_reducible apply State.setLoop_framed
  with_reducible assumption
  exact kf.sub rfl
  exact kf.sub rfl

theorem execLoopFaultWord_framed {n : Fin 256} {plane : Fin 2} {s : State} (hs : State.Framed q b s) (kf : b.free (postParts ++ [Part.reg RegGroup.port, Part.reg RegGroup.stp, Part.ports, Part.axes, Part.loops, Part.pc])) :
    answers (execLoopFaultWord n plane s) (State.Framed q b) := by
  unfold execLoopFaultWord
  extract_lets +onlyGivenNames x; refine (fun (hx : State.Framed q b x) => ?_) ?_ <;> [(try clear_value x); subst x]
  extract_lets +onlyGivenNames x; clear_value x
  with_reducible apply answers_ite
  with_reducible apply answers_next
  with_reducible assumption
  with_reducible apply answers_ite
  with_reducible apply answers_next
  with_reducible apply State.actOnWord_framed
  with_reducible assumption
  exact kf.sub rfl
  with_reducible apply answers_next
  with_reducible apply State.setLoop_framed
  with_reducible assumption
  exact kf.sub rfl
  with_reducible apply State.posted_framed
  with_reducible assumption
  exact kf.sub rfl

theorem State.loopTableOf_framed {s : State} {p : Fin 2} (hs : State.Framed q b s) (kf : b.free (postParts ++ [Part.reg RegGroup.port, Part.reg RegGroup.ld, Part.reg RegGroup.stp, Part.ports, Part.axes, Part.loops, Part.pc])) :
    State.Framed q b (State.loopTableOf s p) := by
  have k_pc : b.keep .pc = false := kf.get rfl
  unfold State.loopTableOf
  extract_lets +onlyGivenNames x; clear_value x
  extract_lets +onlyGivenNames x; clear_value x
  with_reducible apply framed_foldl
  intro _ _ _
  extract_lets +onlyGivenNames x; clear_value x
  extract_lets +onlyGivenNames x; clear_value x
  extract_lets +onlyGivenNames x; clear_value x
  extract_lets +onlyGivenNames x; clear_value x
  extract_lets +onlyGivenNames x; clear_value x
  extract_lets +onlyGivenNames x; refine (fun (hx : State.Framed q b x) => ?_) ?_ <;> [(try clear_value x); subst x]
  extract_lets +onlyGivenNames x; refine (fun (hx : State.Framed q b x) => ?_) ?_ <;> [(try clear_value x); subst x]
  extract_lets +onlyGivenNames x; refine (fun (hx : State.Framed q b x) => ?_) ?_ <;> [(try clear_value x); subst x]
  with_reducible apply framed_ite
  with_reducible apply State.actOnWord_framed
  with_reducible assumption
  exact kf.sub rfl
  with_reducible assumption
  with_reducible apply State.setLoop_framed
  with_reducible assumption
  exact kf.sub rfl
  with_reducible apply framed_ite
  with_reducible apply State.wr_framed
  with_reducible apply State.wr_framed
  with_reducible apply State.wr_framed
  with_reducible apply State.wr_framed
  with_reducible apply State.wr_framed
  with_reducible apply State.wr_framed
  with_reducible assumption
  exact kf.get rfl
  exact kf.get rfl
  exact kf.get rfl
  exact kf.get rfl
  exact kf.get rfl
  exact kf.get rfl
  with_reducible assumption
  simp -zeta only [framed_mk, k_pc, or_true, true_or]
  with_reducible assumption
  with_reducible assumption

theorem execLawWcetExceed_framed {n : Fin 256} {cycles : Nat} {s : State} (hs : State.Framed q b s) (kf : b.free (postParts ++ [Part.reg RegGroup.ld, Part.boot])) :
    answers (execLawWcetExceed n cycles s) (State.Framed q b) := by
  unfold execLawWcetExceed
  with_reducible apply answers_ite
  with_reducible apply answers_next
  with_reducible apply State.post_framed
  with_reducible apply State.mishap_framed
  with_reducible apply State.flag_framed
  with_reducible assumption
  exact kf.get rfl
  exact kf.sub rfl
  exact kf.sub rfl
  with_reducible apply answers_next
  with_reducible assumption

theorem State.selectRef_framed {s : State} {n : Fin 64} {k : Nat} (hs : State.Framed q b s) (kf : b.free [Part.reg RegGroup.ld, Part.loops, Part.boot]) :
    State.Framed q b (State.selectRef s n k) := by
  unfold State.selectRef
  extract_lets +onlyGivenNames x; clear_value x
  extract_lets +onlyGivenNames x; clear_value x
  extract_lets +onlyGivenNames x; clear_value x
  extract_lets +onlyGivenNames x; clear_value x
  split
  with_reducible apply State.setLoop_framed
  with_reducible assumption
  exact kf.sub rfl
  with_reducible apply State.setLoop_framed
  with_reducible assumption
  exact kf.sub rfl
  with_reducible apply State.mishap_framed
  with_reducible apply State.bump_framed
  with_reducible apply State.flag_framed
  with_reducible apply State.setLoop_framed
  with_reducible assumption
  exact kf.sub rfl
  exact kf.get rfl
  exact kf.get rfl
  exact kf.sub rfl

theorem State.deliverSp_framed {s : State} {n : Fin 256} {k : Nat} (hs : State.Framed q b s) (kf : b.free [Part.reg RegGroup.ld, Part.loops, Part.boot]) :
    State.Framed q b (State.deliverSp s n k) := by
  unfold State.deliverSp
  extract_lets +onlyGivenNames x; clear_value x
  extract_lets +onlyGivenNames x; clear_value x
  extract_lets +onlyGivenNames x; clear_value x
  extract_lets +onlyGivenNames x; clear_value x
  simp -zeta only
  extract_lets +onlyGivenNames x; clear_value x
  extract_lets +onlyGivenNames x; refine (fun (hx : State.Framed q b x) => ?_) ?_ <;> [(try clear_value x); subst x]
  split
  with_reducible apply State.setLoop_framed
  with_reducible assumption
  exact kf.sub rfl
  with_reducible apply State.mishap_framed
  with_reducible apply State.bump_framed
  with_reducible apply State.flag_framed
  with_reducible assumption
  exact kf.get rfl
  exact kf.get rfl
  exact kf.sub rfl
  with_reducible apply State.setLoop_framed
  with_reducible assumption
  exact kf.sub rfl

theorem State.swapBank_framed {s : State} {n : Fin 256} (hs : State.Framed q b s) (kf : b.free [Part.reg RegGroup.ld]) :
    State.Framed q b (State.swapBank s n) := by
  unfold State.swapBank
  with_reducible apply framed_ite
  with_reducible apply State.put_framed
  with_reducible apply State.put_framed
  with_reducible assumption
  exact kf.get rfl
  exact kf.get rfl
  with_reducible assumption

theorem State.loopEdge_framed {s : State} {n : Fin 256} {k : Nat} (hs : State.Framed q b s) (kf : b.free [Part.reg RegGroup.ld, Part.loops, Part.boot]) :
    State.Framed q b (State.loopEdge s n k) := by
  unfold State.loopEdge
  extract_lets +onlyGivenNames x; refine (fun (hx : State.Framed q b x) => ?_) ?_ <;> [(try clear_value x); subst x]
  extract_lets +onlyGivenNames x; refine (fun (hx : State.Framed q b x) => ?_) ?_ <;> [(try clear_value x); subst x]
  extract_lets +onlyGivenNames x; refine (fun (hx : State.Framed q b x) => ?_) ?_ <;> [(try clear_value x); subst x]
  extract_lets +onlyGivenNames x; clear_value x
  extract_lets +onlyGivenNames x; refine (fun (hx : State.Framed q b x) => ?_) ?_ <;> [(try clear_value x); subst x]
  extract_lets +onlyGivenNames x; clear_value x
  extract_lets +onlyGivenNames x; clear_value x
  with_reducible apply framed_ite
  with_reducible apply framed_ite
  with_reducible apply State.setLoop_framed
  with_reducible assumption
  exact kf.sub rfl
  with_reducible assumption
  with_reducible assumption
  with_reducible apply State.setLoop_framed
  with_reducible assumption
  exact kf.sub rfl
  with_reducible apply framed_ite
  with_reducible apply State.deliverSp_framed
  with_reducible assumption
  exact kf.sub rfl
  with_reducible assumption
  with_reducible apply State.swapBank_framed
  with_reducible assumption
  exact kf.sub rfl
  with_reducible apply framed_ite
  with_reducible apply State.loopDin_framed
  with_reducible assumption
  exact kf.sub rfl
  with_reducible assumption

theorem State.deliverBlocks_framed {s : State} (hs : State.Framed q b s) (kf : b.free [Part.mem, Part.loops]) :
    State.Framed q b (State.deliverBlocks s) := by
  unfold State.deliverBlocks
  with_reducible apply framed_foldl
  intro _ _ _
  extract_lets +onlyGivenNames x; clear_value x
  extract_lets +onlyGivenNames x; clear_value x
  with_reducible apply framed_ite
  with_reducible apply State.toTile_framed
  with_reducible apply State.setLoop_framed
  with_reducible assumption
  exact kf.sub rfl
  exact kf.sub rfl
  with_reducible assumption
  with_reducible assumption

theorem execSampleDelivery_framed {bits : List ((Fin 80 × Bool) × List Bool)} {s : State} (hs : State.Framed q b s) (kf : b.free [Part.reg RegGroup.sdf, Part.reg RegGroup.fb, Part.now, Part.mem, Part.loops]) :
    answers (execSampleDelivery bits s) (State.Framed q b) := by
  unfold execSampleDelivery
  extract_lets +onlyGivenNames x; clear_value x
  extract_lets +onlyGivenNames x; refine (fun (hx : State.Framed q b x) => ?_) ?_ <;> [(try clear_value x); subst x]
  with_reducible apply answers_next
  with_reducible apply State.deliverBlocks_framed
  with_reducible apply framed_foldl
  intro _ _ _
  with_reducible apply State.deliverFb_framed
  with_reducible assumption
  exact kf.sub rfl
  with_reducible assumption
  exact kf.sub rfl
  with_reducible apply State.deliverFilters_framed
  with_reducible apply State.advance_framed
  with_reducible assumption
  exact kf.sub rfl
  exact kf.sub rfl

theorem State.loopTableEdge_framed {s : State} {k : Nat} (hs : State.Framed q b s) (kf : b.free [Part.reg RegGroup.ld, Part.loops, Part.boot]) :
    State.Framed q b (State.loopTableEdge s k) := by
  unfold State.loopTableEdge
  with_reducible apply framed_foldl
  intro _ _ _
  with_reducible apply State.loopEdge_framed
  with_reducible assumption
  exact kf.sub rfl
  with_reducible apply framed_foldl
  intro _ _ _
  with_reducible apply State.selectRef_framed
  with_reducible assumption
  exact kf.sub rfl
  with_reducible assumption

theorem State.loopsRestart_framed {s : State} (hs : State.Framed q b s) (kf : b.free [Part.loops, Part.pc]) :
    State.Framed q b (State.loopsRestart s) := by
  have k_loops : b.keep .loops = false := kf.get rfl
  have k_pc : b.keep .pc = false := kf.get rfl
  unfold State.loopsRestart
  extract_lets +onlyGivenNames x; clear_value x
  simp -zeta only [framed_mk, k_loops, k_pc, or_true, true_or]
  with_reducible assumption

theorem State.setTask_framed {s : State} {n : Fin 4096} {r : TaskRec} (hs : State.Framed q b s) (kf : b.free [Part.stk]) :
    State.Framed q b (State.setTask s n r) := by
  have k_stk : b.keep .stk = false := kf.get rfl
  unfold State.setTask
  extract_lets +onlyGivenNames x; clear_value x
  simp -zeta only [framed_mk, k_stk, or_true, true_or]
  with_reducible assumption

theorem State.setBuf_framed {s : State} {h : Fin 8192} {r : BufRec} (hs : State.Framed q b s) (kf : b.free [Part.stk]) :
    State.Framed q b (State.setBuf s h r) := by
  have k_stk : b.keep .stk = false := kf.get rfl
  unfold State.setBuf
  extract_lets +onlyGivenNames x; clear_value x
  simp -zeta only [framed_mk, k_stk, or_true, true_or]
  with_reducible assumption

theorem State.recordWait_framed {s : State} {n : Fin 4096} (hs : State.Framed q b s) (kf : b.free [Part.reg RegGroup.stk]) :
    State.Framed q b (State.recordWait s n) := by
  unfold State.recordWait
  extract_lets +onlyGivenNames x; clear_value x
  extract_lets +onlyGivenNames x; clear_value x
  extract_lets +onlyGivenNames x; clear_value x
  extract_lets +onlyGivenNames x; clear_value x
  extract_lets +onlyGivenNames x; refine (fun (hx : State.Framed q b x) => ?_) ?_ <;> [(try clear_value x); subst x]
  with_reducible apply framed_ite
  with_reducible assumption
  with_reducible apply State.wr_framed
  with_reducible assumption
  exact kf.get rfl
  with_reducible apply State.wr_framed
  with_reducible assumption
  exact kf.get rfl

theorem State.startSlot_framed {s : State} {t_ : Fin 32} (hs : State.Framed q b s) (kf : b.free [Part.reg RegGroup.stk, Part.tiles, Part.stk, Part.ic]) :
    State.Framed q b (State.startSlot s t_) := by
  unfold State.startSlot
  extract_lets +onlyGivenNames x; clear_value x
  split
  with_reducible assumption
  extract_lets +onlyGivenNames x; clear_value x
  extract_lets +onlyGivenNames x; clear_value x
  extract_lets +onlyGivenNames x; refine (fun (hx : State.Framed q b x) => ?_) ?_ <;> [(try clear_value x); subst x]
  extract_lets +onlyGivenNames x; clear_value x
  with_reducible apply framed_ite
  with_reducible apply State.icTimers_framed
  with_reducible apply State.recordWait_framed
  with_reducible apply State.setTask_framed
  with_reducible apply State.put_framed
  with_reducible assumption
  exact kf.get rfl
  exact kf.sub rfl
  exact kf.sub rfl
  exact kf.sub rfl
  with_reducible assumption
  with_reducible apply State.setTile_framed
  with_reducible assumption
  exact kf.sub rfl

theorem State.queueUp_framed {s : State} {q_ : Fin 64} (hs : State.Framed q b s) (kf : b.free [Part.reg RegGroup.stk]) :
    State.Framed q b (State.queueUp s q_) := by
  unfold State.queueUp
  extract_lets +onlyGivenNames x; clear_value x
  with_reducible apply State.put_framed
  with_reducible apply State.put_framed
  with_reducible assumption
  exact kf.get rfl
  exact kf.get rfl

theorem State.queueDown_framed {s : State} {q_ : Fin 64} (hs : State.Framed q b s) (kf : b.free [Part.reg RegGroup.stk]) :
    State.Framed q b (State.queueDown s q_) := by
  unfold State.queueDown
  with_reducible apply State.put_framed
  with_reducible assumption
  exact kf.get rfl

theorem State.placeChanged_framed {s : State} (hs : State.Framed q b s) (kf : b.free [Part.stk]) : State.Framed q b (State.placeChanged s) := by
  have k_stk : b.keep .stk = false := kf.get rfl
  unfold State.placeChanged
  extract_lets +onlyGivenNames x; clear_value x
  simp -zeta only [framed_mk, k_stk, or_true, true_or]
  with_reducible assumption

theorem State.toRest_framed {s : State} {n : Fin 4096} {last : Nat} (hs : State.Framed q b s) (kf : b.free [Part.reg RegGroup.stk, Part.stk, Part.ic]) :
    State.Framed q b (State.toRest s n last) := by
  unfold State.toRest
  extract_lets +onlyGivenNames x; clear_value x
  extract_lets +onlyGivenNames x; clear_value x
  extract_lets +onlyGivenNames x; refine (fun (hx : State.Framed q b x) => ?_) ?_ <;> [(try clear_value x); subst x]
  extract_lets +onlyGivenNames x; refine (fun (hx : State.Framed q b x) => ?_) ?_ <;> [(try clear_value x); subst x]
  with_reducible apply State.icTimers_framed
  with_reducible apply framed_ite
  with_reducible apply State.placeChanged_framed
  with_reducible apply State.put_framed
  with_reducible assumption
  exact kf.get rfl
  exact kf.sub rfl
  with_reducible assumption
  exact kf.sub rfl
  with_reducible apply State.put_framed
  with_reducible apply State.put_framed
  with_reducible assumption
  exact kf.get rfl
  exact kf.get rfl
  with_reducible apply State.setTask_framed
  with_reducible assumption
  exact kf.sub rfl

theorem State.kilnHanded_framed {s : State} {n : Fin 4096} (hs : State.Framed q b s) (kf : b.free [Part.reg RegGroup.stk]) :
    State.Framed q b (State.kilnHanded s n) := by
  unfold State.kilnHanded
  with_reducible apply State.put_framed
  with_reducible apply State.queueDown_framed
  with_reducible assumption
  exact kf.sub rfl
  exact kf.get rfl

theorem State.kilnDone_framed {s : State} {k : Fin 2} {task : Option (Fin 4096)} {last : Nat} (hs : State.Framed q b s) (kf : b.free [Part.reg RegGroup.stk, Part.stk, Part.ic]) :
    State.Framed q b (State.kilnDone s k task last) := by
  unfold State.kilnDone
  split
  with_reducible apply framed_ite
  with_reducible apply State.toRest_framed
  with_reducible assumption
  exact kf.sub rfl
  with_reducible assumption
  with_reducible assumption

theorem State.setKctx_framed {s : State} {k : Fin 2} {c : Fin 16} {x : KContext} (hs : State.Framed q b s) (kf : b.free [Part.kiln]) :
    State.Framed q b (State.setKctx s k c x) := by
  have k_kiln : b.keep .kiln = false := kf.get rfl
  unfold State.setKctx
  simp -zeta only [framed_mk, k_kiln, or_true, true_or]
  with_reducible assumption

theorem State.showPhase_framed {s : State} {k : Fin 2} {c : Fin 16} (hs : State.Framed q b s) (kf : b.free [Part.reg RegGroup.kn]) :
    State.Framed q b (State.showPhase s k c) := by
  unfold State.showPhase
  extract_lets +onlyGivenNames x; clear_value x
  extract_lets +onlyGivenNames x; refine (fun (hx : State.Framed q b x) => ?_) ?_ <;> [(try clear_value x); subst x]
  with_reducible apply State.putB_framed
  with_reducible assumption
  exact kf.get rfl
  with_reducible apply State.put_framed
  with_reducible assumption
  exact kf.get rfl

theorem State.kWrite_framed {s : State} {k : Fin 2} {base : Nat} {base' : Nat} {o : Nat} {bs : List Byte} (hs : State.Framed q b s) (kf : b.free [Part.mem, Part.pc]) :
    State.Framed q b (State.kWrite s k base base' o bs) := by
  unfold State.kWrite
  extract_lets +onlyGivenNames x; refine (fun (hx : State.Framed q b x) => ?_) ?_ <;> [(try clear_value x); subst x]
  extract_lets +onlyGivenNames x; refine (fun (hx : State.Framed q b x) => ?_) ?_ <;> [(try clear_value x); subst x]
  with_reducible apply State.foldSig_framed
  with_reducible assumption
  exact kf.sub rfl
  with_reducible apply framed_ite
  with_reducible apply State.mwrite_framed
  with_reducible assumption
  exact kf.sub rfl
  with_reducible assumption
  with_reducible apply State.mwrite_framed
  with_reducible assumption
  exact kf.sub rfl

theorem State.kWriteAll_framed {s : State} {k : Fin 2} {c : Fin 16} {res : Nat} {o : Nat} {bs : List Byte} (hs : State.Framed q b s) (kf : b.free [Part.mem, Part.pc]) :
    State.Framed q b (State.kWriteAll s k c res o bs) := by
  unfold State.kWriteAll
  with_reducible apply framed_foldl
  intro _ _ _
  with_reducible apply State.kWrite_framed
  with_reducible assumption
  exact kf.sub rfl
  with_reducible assumption

theorem State.publish_framed {s : State} {k : Fin 2} {c : Fin 16} {r : KResult} {written : optParam Bool false} (hs : State.Framed q b s) (kf : b.free [Part.reg RegGroup.kn, Part.mem, Part.kiln, Part.pc]) :
    State.Framed q b (State.publish s k c r written) := by
  unfold State.publish
  extract_lets +onlyGivenNames x; clear_value x
  extract_lets +onlyGivenNames x; clear_value x
  extract_lets +onlyGivenNames x; clear_value x
  extract_lets +onlyGivenNames x; refine (fun (hx : State.Framed q b x) => ?_) ?_ <;> [(try clear_value x); subst x]
  extract_lets +onlyGivenNames x; refine (fun (hx : State.Framed q b x) => ?_) ?_ <;> [(try clear_value x); subst x]
  extract_lets +onlyGivenNames x; refine (fun (hx : State.Framed q b x) => ?_) ?_ <;> [(try clear_value x); subst x]
  with_reducible apply framed_ite
  with_reducible apply State.bump_framed
  with_reducible apply State.flag_framed
  with_reducible assumption
  exact kf.get rfl
  exact kf.get rfl
  with_reducible apply State.put_framed
  with_reducible assumption
  exact kf.get rfl
  with_reducible apply State.putB_framed
  with_reducible apply State.wr_framed
  with_reducible assumption
  exact kf.get rfl
  exact kf.get rfl
  with_reducible apply State.setKctx_framed
  with_reducible assumption
  exact kf.sub rfl
  with_reducible apply State.kWriteAll_framed
  with_reducible assumption
  exact kf.sub rfl

theorem State.deliver_framed {s : State} {k : Fin 2} {c : Fin 16} {r : KResult} (hs : State.Framed q b s) (kf : b.free [Part.reg RegGroup.kn, Part.mem, Part.kiln, Part.pc]) :
    State.Framed q b (State.deliver s k c r) := by
  unfold State.deliver
  extract_lets +onlyGivenNames x; clear_value x
  with_reducible apply framed_ite
  with_reducible apply State.showPhase_framed
  with_reducible apply State.setKctx_framed
  with_reducible apply State.kWriteAll_framed
  with_reducible assumption
  exact kf.sub rfl
  exact kf.sub rfl
  exact kf.sub rfl
  with_reducible apply State.showPhase_framed
  with_reducible apply State.publish_framed
  with_reducible assumption
  exact kf.sub rfl
  exact kf.sub rfl

theorem State.kAccept_framed {s : State} {k : Fin 2} {c : Fin 16} {p : Option KProblem} {res : Nat} {task : Option (Fin 4096)} (hs : State.Framed q b s) (kf : b.free [Part.reg RegGroup.kn, Part.reg RegGroup.stk, Part.mem, Part.kiln, Part.stk, Part.pc, Part.ic]) :
    State.Framed q b (State.kAccept s k c p res task) := by
  unfold State.kAccept
  extract_lets +onlyGivenNames x; clear_value x
  extract_lets +onlyGivenNames x; refine (fun (hx : State.Framed q b x) => ?_) ?_ <;> [(try clear_value x); subst x]
  split
  with_reducible apply State.kilnDone_framed
  with_reducible apply State.flag_framed
  with_reducible assumption
  exact kf.get rfl
  exact kf.sub rfl
  extract_lets +onlyGivenNames x; clear_value x
  extract_lets +onlyGivenNames x; clear_value x
  extract_lets +onlyGivenNames x; clear_value x
  extract_lets +onlyGivenNames x; clear_value x
  extract_lets +onlyGivenNames x; refine (fun (hx : State.Framed q b x) => ?_) ?_ <;> [(try clear_value x); subst x]
  extract_lets +onlyGivenNames x; refine (fun (hx : State.Framed q b x) => ?_) ?_ <;> [(try clear_value x); subst x]
  extract_lets +onlyGivenNames x; refine (fun (hx : State.Framed q b x) => ?_) ?_ <;> [(try clear_value x); subst x]
  with_reducible apply framed_ite
  with_reducible apply State.kilnDone_framed
  with_reducible apply State.flag_framed
  with_reducible assumption
  exact kf.get rfl
  exact kf.sub rfl
  with_reducible apply State.showPhase_framed
  with_reducible assumption
  exact kf.sub rfl
  with_reducible apply framed_ite
  split
  with_reducible apply State.put_framed
  with_reducible apply State.kWriteAll_framed
  with_reducible assumption
  exact kf.sub rfl
  exact kf.get rfl
  with_reducible apply State.put_framed
  with_reducible assumption
  exact kf.get rfl
  with_reducible assumption
  with_reducible apply State.putB_framed
  with_reducible apply State.wr_framed
  with_reducible assumption
  exact kf.get rfl
  exact kf.get rfl
  with_reducible apply State.setKctx_framed
  with_reducible assumption
  exact kf.sub rfl
  split
  with_reducible apply State.kilnDone_framed
  with_reducible apply State.bump_framed
  with_reducible assumption
  exact kf.get rfl
  exact kf.sub rfl
  with_reducible assumption

theorem execKilnRequest_framed {n : Fin 4096} {s : State} (hs : State.Framed q b s) (kf : b.free [Part.reg RegGroup.kn, Part.reg RegGroup.stk, Part.mem, Part.kiln, Part.stk, Part.pc, Part.ic]) :
    answers (execKilnRequest n s) (State.Framed q b) := by
  unfold execKilnRequest
  extract_lets +onlyGivenNames x; clear_value x
  extract_lets +onlyGivenNames x; clear_value x
  with_reducible apply answers_ite
  with_reducible apply answers_next
  with_reducible assumption
  with_reducible apply answers_next
  with_reducible apply framed_foldl
  intro _ _ _
  with_reducible apply State.kAccept_framed
  with_reducible assumption
  exact kf.sub rfl
  with_reducible apply State.kilnHanded_framed
  with_reducible assumption
  exact kf.sub rfl

theorem State.kStart_framed {s : State} {k : Fin 2} {c : Fin 16} (hs : State.Framed q b s) (kf : b.free [Part.reg RegGroup.kn, Part.kiln]) :
    State.Framed q b (State.kStart s k c) := by
  unfold State.kStart
  extract_lets +onlyGivenNames x; clear_value x
  extract_lets +onlyGivenNames x; refine (fun (hx : State.Framed q b x) => ?_) ?_ <;> [(try clear_value x); subst x]
  split
  with_reducible assumption
  extract_lets +onlyGivenNames x; clear_value x
  extract_lets +onlyGivenNames x; clear_value x
  extract_lets +onlyGivenNames x; clear_value x
  extract_lets +onlyGivenNames x; clear_value x
  extract_lets +onlyGivenNames x; refine (fun (hx : State.Framed q b x) => ?_) ?_ <;> [(try clear_value x); subst x]
  extract_lets +onlyGivenNames x; refine (fun (hx : State.Framed q b x) => ?_) ?_ <;> [(try clear_value x); subst x]
  extract_lets +onlyGivenNames x; refine (fun (hx : State.Framed q b x) => ?_) ?_ <;> [(try clear_value x); subst x]
  extract_lets +onlyGivenNames x; refine (fun (hx : State.Framed q b x) => ?_) ?_ <;> [(try clear_value x); subst x]
  with_reducible apply State.showPhase_framed
  with_reducible apply State.count_framed
  with_reducible apply State.put_framed
  with_reducible assumption
  exact kf.get rfl
  exact kf.get rfl
  exact kf.sub rfl
  with_reducible apply State.wr_framed
  with_reducible apply State.wr_framed
  with_reducible assumption
  exact kf.get rfl
  exact kf.get rfl
  with_reducible apply State.put_framed
  with_reducible apply State.put_framed
  with_reducible apply State.put_framed
  with_reducible apply State.put_framed
  with_reducible assumption
  exact kf.get rfl
  exact kf.get rfl
  exact kf.get rfl
  exact kf.get rfl
  with_reducible apply State.setKctx_framed
  with_reducible assumption
  exact kf.sub rfl
  with_reducible apply framed_ite
  with_reducible apply State.bump_framed
  with_reducible apply State.flag_framed
  with_reducible assumption
  exact kf.get rfl
  exact kf.get rfl
  with_reducible assumption
  with_reducible apply State.wr_framed
  with_reducible assumption
  exact kf.get rfl

theorem execKilnSolveStart_framed {k : Fin 2} {s : State} (hs : State.Framed q b s) (kf : b.free [Part.reg RegGroup.kn, Part.kiln]) :
    answers (execKilnSolveStart k s) (State.Framed q b) := by
  unfold execKilnSolveStart
  extract_lets +onlyGivenNames x; clear_value x
  with_reducible apply answers_ite
  with_reducible apply answers_next
  with_reducible assumption
  split
  with_reducible apply answers_next
  with_reducible apply framed_ite
  with_reducible assumption
  with_reducible apply State.kStart_framed
  with_reducible assumption
  exact kf.sub rfl
  with_reducible apply answers_next
  with_reducible assumption

theorem State.busyUp_framed {s : State} {k : Fin 2} (hs : State.Framed q b s) (kf : b.free [Part.reg RegGroup.kn, Part.kiln]) :
    State.Framed q b (State.busyUp s k) := by
  unfold State.busyUp
  split
  with_reducible assumption
  extract_lets +onlyGivenNames x; clear_value x
  split
  with_reducible assumption
  extract_lets +onlyGivenNames x; clear_value x
  with_reducible apply State.setKctx_framed
  with_reducible apply State.wr_framed
  with_reducible assumption
  exact kf.get rfl
  exact kf.sub rfl

theorem State.kEnd_framed {s : State} {k : Fin 2} {c : Fin 16} (hs : State.Framed q b s) (kf : b.free [Part.reg RegGroup.kn, Part.reg RegGroup.stk, Part.mem, Part.kiln, Part.stk, Part.pc, Part.ic]) :
    State.Framed q b (State.kEnd s k c) := by
  unfold State.kEnd
  extract_lets +onlyGivenNames x; clear_value x
  split
  with_reducible assumption
  extract_lets +onlyGivenNames x; clear_value x
  extract_lets +onlyGivenNames x; clear_value x
  extract_lets +onlyGivenNames x; clear_value x
  extract_lets +onlyGivenNames x; clear_value x
  extract_lets +onlyGivenNames x; clear_value x
  extract_lets +onlyGivenNames x; refine (fun (hx : State.Framed q b x) => ?_) ?_ <;> [(try clear_value x); subst x]
  extract_lets +onlyGivenNames x; refine (fun (hx : State.Framed q b x) => ?_) ?_ <;> [(try clear_value x); subst x]
  extract_lets +onlyGivenNames x; refine (fun (hx : State.Framed q b x) => ?_) ?_ <;> [(try clear_value x); subst x]
  extract_lets +onlyGivenNames x; refine (fun (hx : State.Framed q b x) => ?_) ?_ <;> [(try clear_value x); subst x]
  extract_lets +onlyGivenNames x; refine (fun (hx : State.Framed q b x) => ?_) ?_ <;> [(try clear_value x); subst x]
  extract_lets +onlyGivenNames x; refine (fun (hx : State.Framed q b x) => ?_) ?_ <;> [(try clear_value x); subst x]
  extract_lets +onlyGivenNames x; refine (fun (hx : State.Framed q b x) => ?_) ?_ <;> [(try clear_value x); subst x]
  extract_lets +onlyGivenNames x; refine (fun (hx : State.Framed q b x) => ?_) ?_ <;> [(try clear_value x); subst x]
  extract_lets +onlyGivenNames x; clear_value x
  extract_lets +onlyGivenNames x; clear_value x
  with_reducible apply State.kilnDone_framed
  with_reducible apply State.deliver_framed
  with_reducible assumption
  exact kf.sub rfl
  exact kf.sub rfl
  with_reducible apply State.setKctx_framed
  with_reducible assumption
  exact kf.sub rfl
  with_reducible apply framed_ite
  with_reducible apply State.flag_framed
  with_reducible assumption
  exact kf.get rfl
  with_reducible assumption
  with_reducible apply framed_ite
  with_reducible apply State.flag_framed
  with_reducible assumption
  exact kf.get rfl
  with_reducible assumption
  with_reducible apply framed_ite
  with_reducible apply State.flag_framed
  with_reducible assumption
  exact kf.get rfl
  with_reducible assumption
  with_reducible apply framed_ite
  with_reducible apply State.flag_framed
  with_reducible assumption
  exact kf.get rfl
  with_reducible assumption
  with_reducible apply State.wr_framed
  with_reducible assumption
  exact kf.get rfl
  with_reducible apply State.put_framed
  with_reducible apply State.put_framed
  with_reducible assumption
  exact kf.get rfl
  exact kf.get rfl
  with_reducible apply State.wr_framed
  with_reducible apply State.wr_framed
  with_reducible assumption
  exact kf.get rfl
  exact kf.get rfl

theorem State.kLateDone_framed {s : State} {k : Fin 2} {c : Fin 16} {l : KLate} (hs : State.Framed q b s) (kf : b.free [Part.reg RegGroup.kn, Part.reg RegGroup.stk, Part.now, Part.mem, Part.kiln, Part.stk, Part.pc, Part.ic]) :
    State.Framed q b (State.kLateDone s k c l) := by
  unfold State.kLateDone
  extract_lets +onlyGivenNames x; refine (fun (hx : State.Framed q b x) => ?_) ?_ <;> [(try clear_value x); subst x]
  extract_lets +onlyGivenNames x; clear_value x
  with_reducible apply State.kilnDone_framed
  with_reducible apply State.deliver_framed
  with_reducible apply State.setKctx_framed
  with_reducible assumption
  exact kf.sub rfl
  exact kf.sub rfl
  exact kf.sub rfl
  with_reducible apply State.advance_framed
  with_reducible assumption
  exact kf.sub rfl

theorem execKilnSolveDone_framed {k : Fin 2} {s : State} (hs : State.Framed q b s) (kf : b.free [Part.reg RegGroup.kn, Part.reg RegGroup.stk, Part.now, Part.mem, Part.kiln, Part.stk, Part.pc, Part.ic]) :
    answers (execKilnSolveDone k s) (State.Framed q b) := by
  unfold execKilnSolveDone
  extract_lets +onlyGivenNames x; clear_value x
  split
  with_reducible apply answers_next
  with_reducible apply framed_ite
  with_reducible apply State.kLateDone_framed
  with_reducible assumption
  exact kf.sub rfl
  with_reducible apply State.kEnd_framed
  with_reducible apply State.advance_framed
  with_reducible assumption
  exact kf.sub rfl
  exact kf.sub rfl
  with_reducible apply answers_next
  with_reducible apply State.kEnd_framed
  with_reducible apply State.advance_framed
  with_reducible assumption
  exact kf.sub rfl
  exact kf.sub rfl
  with_reducible apply answers_next
  with_reducible apply State.kLateDone_framed
  with_reducible assumption
  exact kf.sub rfl
  with_reducible apply answers_next
  with_reducible assumption

theorem State.kExpire_framed {s : State} {k : Fin 2} {c : Fin 16} {r : KRequest} (hs : State.Framed q b s) (kf : b.free [Part.reg RegGroup.kn, Part.now, Part.kiln]) :
    State.Framed q b (State.kExpire s k c r) := by
  unfold State.kExpire
  extract_lets +onlyGivenNames x; refine (fun (hx : State.Framed q b x) => ?_) ?_ <;> [(try clear_value x); subst x]
  extract_lets +onlyGivenNames x; clear_value x
  extract_lets +onlyGivenNames x; clear_value x
  simp -zeta only
  extract_lets +onlyGivenNames x; clear_value x
  extract_lets +onlyGivenNames x; refine (fun (hx : State.Framed q b x) => ?_) ?_ <;> [(try clear_value x); subst x]
  with_reducible apply State.showPhase_framed
  with_reducible apply State.flag_framed
  with_reducible assumption
  exact kf.get rfl
  exact kf.sub rfl
  with_reducible apply State.setKctx_framed
  with_reducible assumption
  exact kf.sub rfl
  with_reducible apply State.advance_framed
  with_reducible assumption
  exact kf.sub rfl

theorem State.kStop_framed {s : State} {k : Fin 2} {c : Fin 16} {r : KRun} (hs : State.Framed q b s) (kf : b.free [Part.reg RegGroup.kn, Part.now, Part.kiln]) :
    State.Framed q b (State.kStop s k c r) := by
  unfold State.kStop
  extract_lets +onlyGivenNames x; refine (fun (hx : State.Framed q b x) => ?_) ?_ <;> [(try clear_value x); subst x]
  extract_lets +onlyGivenNames x; clear_value x
  extract_lets +onlyGivenNames x; clear_value x
  with_reducible apply State.flag_framed
  with_reducible apply State.setKctx_framed
  with_reducible assumption
  exact kf.sub rfl
  exact kf.get rfl
  with_reducible apply State.advance_framed
  with_reducible assumption
  exact kf.sub rfl

theorem execKilnDeadline_framed {k : Fin 2} {c : Fin 16} {s : State} (hs : State.Framed q b s) (kf : b.free [Part.reg RegGroup.kn, Part.now, Part.kiln]) :
    answers (execKilnDeadline k c s) (State.Framed q b) := by
  unfold execKilnDeadline
  extract_lets +onlyGivenNames x; clear_value x
  extract_lets +onlyGivenNames x; clear_value x
  split
  extract_lets +onlyGivenNames x; clear_value x
  extract_lets +onlyGivenNames x; clear_value x
  split
  with_reducible apply answers_next
  with_reducible apply framed_ite
  with_reducible apply State.kExpire_framed
  with_reducible assumption
  exact kf.sub rfl
  with_reducible apply State.kStop_framed
  with_reducible assumption
  exact kf.sub rfl
  with_reducible apply answers_next
  with_reducible apply framed_ite
  with_reducible assumption
  with_reducible apply State.kStop_framed
  with_reducible assumption
  exact kf.sub rfl
  with_reducible apply answers_next
  with_reducible apply State.kExpire_framed
  with_reducible assumption
  exact kf.sub rfl
  with_reducible apply answers_next
  with_reducible assumption

theorem execKilnEnWrite_framed {k : Fin 2} {on : Bool} {s : State} (hs : State.Framed q b s) (kf : b.free [Part.reg RegGroup.kn, Part.reg RegGroup.stk, Part.kiln, Part.stk, Part.ic]) :
    answers (execKilnEnWrite k on s) (State.Framed q b) := by
  unfold execKilnEnWrite
  extract_lets +onlyGivenNames x; refine (fun (hx : State.Framed q b x) => ?_) ?_ <;> [(try clear_value x); subst x]
  with_reducible apply answers_ite
  with_reducible apply answers_next
  with_reducible assumption
  with_reducible apply answers_next
  with_reducible apply framed_foldl
  intro _ _ _
  extract_lets +onlyGivenNames x; clear_value x
  extract_lets +onlyGivenNames x; clear_value x
  extract_lets +onlyGivenNames x; refine (fun (hx : State.Framed q b x) => ?_) ?_ <;> [(try clear_value x); subst x]
  with_reducible apply State.kilnDone_framed
  with_reducible apply State.kilnDone_framed
  with_reducible apply State.kilnDone_framed
  with_reducible assumption
  exact kf.sub rfl
  exact kf.sub rfl
  exact kf.sub rfl
  with_reducible apply State.showPhase_framed
  with_reducible apply State.setKctx_framed
  with_reducible assumption
  exact kf.sub rfl
  exact kf.sub rfl
  with_reducible assumption
  with_reducible apply State.putB_framed
  with_reducible apply framed_ite
  with_reducible assumption
  with_reducible apply State.busyUp_framed
  with_reducible assumption
  exact kf.sub rfl
  exact kf.get rfl

theorem execKilnFlush_framed {k : Fin 2} {s : State} (hs : State.Framed q b s) (kf : b.free [Part.reg RegGroup.kn, Part.kiln]) :
    answers (execKilnFlush k s) (State.Framed q b) := by
  unfold execKilnFlush
  with_reducible apply answers_next
  with_reducible apply framed_foldl
  intro _ _ _
  extract_lets +onlyGivenNames x; clear_value x
  with_reducible apply State.showPhase_framed
  with_reducible apply State.setKctx_framed
  with_reducible assumption
  exact kf.sub rfl
  exact kf.sub rfl
  with_reducible assumption

theorem State.kilnTick_framed {s : State} {k : Fin 2} {j : Nat} (hs : State.Framed q b s) (kf : b.free [Part.reg RegGroup.kn, Part.mem, Part.kiln, Part.pc]) :
    State.Framed q b (State.kilnTick s k j) := by
  unfold State.kilnTick
  extract_lets +onlyGivenNames x; clear_value x
  extract_lets +onlyGivenNames x; refine (fun (hx : State.Framed q b x) => ?_) ?_ <;> [(try clear_value x); subst x]
  extract_lets +onlyGivenNames x; clear_value x
  with_reducible apply framed_ite
  with_reducible assumption
  split
  with_reducible apply State.showPhase_framed
  with_reducible assumption
  exact kf.sub rfl
  with_reducible apply framed_ite
  with_reducible apply State.kStart_framed
  with_reducible apply State.setKctx_framed
  with_reducible assumption
  exact kf.sub rfl
  exact kf.sub rfl
  with_reducible apply framed_ite
  with_reducible apply State.showPhase_framed
  with_reducible apply State.setKctx_framed
  with_reducible assumption
  exact kf.sub rfl
  exact kf.sub rfl
  with_reducible apply State.showPhase_framed
  with_reducible assumption
  exact kf.sub rfl
  split
  with_reducible apply State.publish_framed
  with_reducible apply State.setKctx_framed
  with_reducible assumption
  exact kf.sub rfl
  exact kf.sub rfl
  with_reducible apply framed_ite
  with_reducible apply State.publish_framed
  with_reducible assumption
  exact kf.sub rfl
  with_reducible assumption

theorem Stp.turned_framed {s : State} {i : Fin 16} {p0 : Int} {t_ : Nat} (hs : State.Framed q b s) (kf : b.free (postParts ++ [Part.reg RegGroup.stp, Part.axes])) :
    State.Framed q b (Stp.turned s i p0 t_) := by
  unfold Stp.turned
  extract_lets +onlyGivenNames x; clear_value x
  extract_lets +onlyGivenNames x; refine (fun (hx : State.Framed q b x) => ?_) ?_ <;> [(try clear_value x); subst x]
  extract_lets +onlyGivenNames x; refine (fun (hx : State.Framed q b x) => ?_) ?_ <;> [(try clear_value x); subst x]
  split
  with_reducible apply framed_ite
  with_reducible apply Stp.toRest_framed
  with_reducible apply Stp.finish_framed
  with_reducible assumption
  exact kf.sub rfl
  exact kf.sub rfl
  with_reducible apply Stp.orient_framed
  with_reducible assumption
  exact kf.sub rfl
  with_reducible apply Stp.toRest_framed
  with_reducible assumption
  exact kf.sub rfl
  with_reducible apply State.setAxis_framed
  with_reducible assumption
  exact kf.sub rfl
  with_reducible apply State.wr_framed
  with_reducible apply Stp.reversal_framed
  with_reducible assumption
  exact kf.sub rfl
  exact kf.get rfl

theorem Stp.accChange_framed {s : State} {i : Fin 16} {a2 : Nat} (hs : State.Framed q b s) (kf : b.free (postParts ++ [Part.reg RegGroup.stp, Part.axes])) :
    State.Framed q b (Stp.accChange s i a2) := by
  unfold Stp.accChange
  extract_lets +onlyGivenNames x; clear_value x
  with_reducible apply framed_ite
  with_reducible apply framed_ite
  with_reducible apply State.post_framed
  with_reducible apply State.flag_framed
  with_reducible apply State.setAxis_framed
  with_reducible assumption
  exact kf.sub rfl
  exact kf.get rfl
  exact kf.sub rfl
  with_reducible apply framed_ite
  with_reducible apply State.setAxis_framed
  with_reducible assumption
  exact kf.sub rfl
  with_reducible apply State.setAxis_framed
  with_reducible assumption
  exact kf.sub rfl
  with_reducible apply State.setAxis_framed
  with_reducible assumption
  exact kf.sub rfl

theorem Stp.placeMembers_framed {s : State} {i : Fin 16} {n : Nat} {t_ : Nat} {iv : Nat} (hs : State.Framed q b s) (kf : b.free [Part.axes]) :
    State.Framed q b (Stp.placeMembers s i n t_ iv) := by
  unfold Stp.placeMembers
  extract_lets +onlyGivenNames x; clear_value x
  with_reducible apply framed_foldl
  intro _ _ _
  extract_lets +onlyGivenNames x; clear_value x
  split
  extract_lets +onlyGivenNames x; clear_value x
  extract_lets +onlyGivenNames x; clear_value x
  extract_lets +onlyGivenNames x; refine (fun (hx : State.Framed q b x) => ?_) ?_ <;> [(try clear_value x); subst x]
  with_reducible apply framed_ite
  with_reducible apply framed_ite
  with_reducible apply State.setAxis_framed
  with_reducible assumption
  exact kf.sub rfl
  with_reducible assumption
  with_reducible assumption
  with_reducible apply State.setAxis_framed
  with_reducible assumption
  exact kf.sub rfl
  with_reducible assumption
  with_reducible assumption

theorem Stp.next_framed {s : State} {i : Fin 16} {t_ : Nat} (hs : State.Framed q b s) (kf : b.free (postParts ++ [Part.reg RegGroup.stp, Part.axes])) :
    State.Framed q b (Stp.next s i t_) := by
  unfold Stp.next
  extract_lets +onlyGivenNames x; clear_value x
  extract_lets +onlyGivenNames x; clear_value x
  extract_lets +onlyGivenNames x; clear_value x
  simp -zeta only
  extract_lets +onlyGivenNames x; clear_value x
  extract_lets +onlyGivenNames x; refine (fun (hx : State.Framed q b x) => ?_) ?_ <;> [(try clear_value x); subst x]
  split
  split
  simp -zeta only
  with_reducible assumption
  extract_lets +onlyGivenNames x; clear_value x
  extract_lets +onlyGivenNames x; clear_value x
  simp -zeta only
  with_reducible apply State.put_framed
  with_reducible apply State.setAxis_framed
  with_reducible assumption
  exact kf.sub rfl
  exact kf.get rfl
  extract_lets +onlyGivenNames x; clear_value x
  with_reducible apply framed_ite
  with_reducible apply framed_ite
  split
  with_reducible apply Stp.turned_framed
  split
  simp -zeta only
  with_reducible assumption
  extract_lets +onlyGivenNames x; clear_value x
  extract_lets +onlyGivenNames x; clear_value x
  simp -zeta only
  with_reducible apply State.put_framed
  with_reducible apply State.setAxis_framed
  with_reducible assumption
  exact kf.sub rfl
  exact kf.get rfl
  exact kf.sub rfl
  with_reducible apply Stp.toRest_framed
  split
  simp -zeta only
  with_reducible assumption
  extract_lets +onlyGivenNames x; clear_value x
  extract_lets +onlyGivenNames x; clear_value x
  simp -zeta only
  with_reducible apply State.put_framed
  with_reducible apply State.setAxis_framed
  with_reducible assumption
  exact kf.sub rfl
  exact kf.get rfl
  exact kf.sub rfl
  with_reducible apply Stp.shown_framed
  with_reducible apply State.setAxis_framed
  split
  simp -zeta only
  with_reducible assumption
  extract_lets +onlyGivenNames x; clear_value x
  extract_lets +onlyGivenNames x; clear_value x
  simp -zeta only
  with_reducible apply State.put_framed
  with_reducible apply State.setAxis_framed
  with_reducible assumption
  exact kf.sub rfl
  exact kf.get rfl
  exact kf.sub rfl
  exact kf.sub rfl
  with_reducible apply framed_ite
  with_reducible apply Stp.begin__framed
  split
  simp -zeta only
  with_reducible assumption
  extract_lets +onlyGivenNames x; clear_value x
  extract_lets +onlyGivenNames x; clear_value x
  simp -zeta only
  with_reducible apply State.put_framed
  with_reducible apply State.setAxis_framed
  with_reducible assumption
  exact kf.sub rfl
  exact kf.get rfl
  exact kf.sub rfl
  with_reducible apply Stp.shown_framed
  with_reducible apply State.setAxis_framed
  with_reducible assumption
  exact kf.sub rfl
  exact kf.sub rfl
  with_reducible apply Stp.accChange_framed
  with_reducible apply State.setAxis_framed
  split
  simp -zeta only
  with_reducible assumption
  extract_lets +onlyGivenNames x; clear_value x
  extract_lets +onlyGivenNames x; clear_value x
  simp -zeta only
  with_reducible apply State.put_framed
  with_reducible apply State.setAxis_framed
  with_reducible assumption
  exact kf.sub rfl
  exact kf.get rfl
  exact kf.sub rfl
  exact kf.sub rfl

theorem Stp.arrived_framed {s : State} {i : Fin 16} {m : StepMove} {t_ : Nat} (hs : State.Framed q b s) (kf : b.free (postParts ++ [Part.reg RegGroup.stp, Part.axes])) :
    State.Framed q b (Stp.arrived s i m t_) := by
  unfold Stp.arrived
  extract_lets +onlyGivenNames x; refine (fun (hx : State.Framed q b x) => ?_) ?_ <;> [(try clear_value x); subst x]
  extract_lets +onlyGivenNames x; clear_value x
  extract_lets +onlyGivenNames x; clear_value x
  with_reducible apply framed_ite
  with_reducible apply Stp.next_framed
  with_reducible assumption
  exact kf.sub rfl
  split
  extract_lets +onlyGivenNames x; subst x
  with_reducible apply framed_ite
  with_reducible apply Stp.next_framed
  with_reducible apply State.setAxis_framed
  with_reducible assumption
  exact kf.sub rfl
  exact kf.sub rfl
  with_reducible apply Stp.toRest_framed
  with_reducible apply framed_ite
  with_reducible apply Stp.reversal_framed
  with_reducible assumption
  exact kf.sub rfl
  with_reducible assumption
  exact kf.sub rfl
  with_reducible apply Stp.toRest_framed
  with_reducible assumption
  exact kf.sub rfl
  with_reducible apply Stp.finish_framed
  with_reducible assumption
  exact kf.sub rfl

theorem Stp.due_framed {s : State} {i : Fin 16} {x : Nat} (hs : State.Framed q b s) (kf : b.free (postParts ++ [Part.reg RegGroup.stp, Part.now, Part.axes])) :
    State.Framed q b (Stp.due s i x) := by
  unfold Stp.due
  extract_lets +onlyGivenNames x; refine (fun (hx : State.Framed q b x) => ?_) ?_ <;> [(try clear_value x); subst x]
  extract_lets +onlyGivenNames x; clear_value x
  extract_lets +onlyGivenNames x; clear_value x
  extract_lets +onlyGivenNames x; refine (fun (hx : State.Framed q b x) => ?_) ?_ <;> [(try clear_value x); subst x]
  extract_lets +onlyGivenNames x; clear_value x
  extract_lets +onlyGivenNames x; refine (fun (hx : State.Framed q b x) => ?_) ?_ <;> [(try clear_value x); subst x]
  split
  with_reducible apply State.setAxis_framed
  with_reducible assumption
  exact kf.sub rfl
  extract_lets +onlyGivenNames x; refine (fun (hx : State.Framed q b x) => ?_) ?_ <;> [(try clear_value x); subst x]
  extract_lets +onlyGivenNames x; refine (fun (hx : State.Framed q b x) => ?_) ?_ <;> [(try clear_value x); subst x]
  extract_lets +onlyGivenNames x; clear_value x
  extract_lets +onlyGivenNames x; refine (fun (hx : State.Framed q b x) => ?_) ?_ <;> [(try clear_value x); subst x]
  with_reducible apply framed_ite
  with_reducible apply framed_ite
  with_reducible apply Stp.arrived_framed
  with_reducible assumption
  exact kf.sub rfl
  with_reducible apply framed_ite
  with_reducible apply State.groupRest_framed
  with_reducible assumption
  exact kf.sub rfl
  with_reducible assumption
  with_reducible apply framed_ite
  with_reducible apply Stp.toRest_framed
  with_reducible apply Stp.finish_framed
  with_reducible assumption
  exact kf.sub rfl
  exact kf.sub rfl
  with_reducible apply framed_ite
  with_reducible apply Stp.toRest_framed
  with_reducible assumption
  exact kf.sub rfl
  with_reducible assumption
  with_reducible apply Stp.placeMembers_framed
  with_reducible assumption
  exact kf.sub rfl
  with_reducible apply framed_ite
  with_reducible assumption
  with_reducible apply Stp.next_framed
  with_reducible assumption
  exact kf.sub rfl
  with_reducible apply State.setAxis_framed
  with_reducible assumption
  exact kf.sub rfl
  with_reducible apply framed_ite
  with_reducible apply Stp.arrived_framed
  with_reducible assumption
  exact kf.sub rfl
  with_reducible apply Stp.next_framed
  with_reducible assumption
  exact kf.sub rfl
  with_reducible apply State.setAxis_framed
  with_reducible assumption
  exact kf.sub rfl
  with_reducible apply State.wr_framed
  with_reducible apply State.count_framed
  with_reducible apply State.wr48_framed
  with_reducible assumption
  exact kf.get rfl
  exact kf.get rfl
  exact kf.get rfl
  exact kf.get rfl
  with_reducible apply State.advance_framed
  with_reducible assumption
  exact kf.sub rfl

theorem execStpEn_framed {i : Fin 16} {on : Bool} {s : State} (hs : State.Framed q b s) (kf : b.free (postParts ++ [Part.reg RegGroup.stp, Part.axes])) :
    answers (execStpEn i on s) (State.Framed q b) := by
  unfold execStpEn
  extract_lets +onlyGivenNames x; clear_value x
  extract_lets +onlyGivenNames x; clear_value x
  extract_lets +onlyGivenNames x; refine (fun (hx : State.Framed q b x) => ?_) ?_ <;> [(try clear_value x); subst x]
  extract_lets +onlyGivenNames x; clear_value x
  extract_lets +onlyGivenNames x; refine (fun (hx : State.Framed q b x) => ?_) ?_ <;> [(try clear_value x); subst x]
  extract_lets +onlyGivenNames x; refine (fun (hx : State.Framed q b x) => ?_) ?_ <;> [(try clear_value x); subst x]
  with_reducible apply answers_ite
  with_reducible apply answers_ite
  with_reducible apply answers_next
  with_reducible assumption
  with_reducible apply answers_ite
  with_reducible apply answers_next
  with_reducible apply framed_ite
  with_reducible apply State.safeHalt_framed
  with_reducible assumption
  exact kf.sub rfl
  with_reducible apply framed_ite
  with_reducible assumption
  with_reducible apply Stp.startNext_framed
  with_reducible assumption
  exact kf.sub rfl
  with_reducible apply answers_next
  with_reducible apply State.flag_framed
  with_reducible assumption
  exact kf.get rfl
  with_reducible apply answers_next
  with_reducible apply Stp.shown_framed
  with_reducible apply State.put_framed
  with_reducible apply State.wr_framed
  with_reducible apply State.put_framed
  with_reducible apply State.put_framed
  with_reducible assumption
  exact kf.get rfl
  exact kf.get rfl
  exact kf.get rfl
  exact kf.get rfl
  exact kf.sub rfl
  split
  with_reducible apply State.stopGroup_framed
  with_reducible assumption
  exact kf.sub rfl
  with_reducible assumption
  with_reducible apply State.setAxis_framed
  with_reducible assumption
  exact kf.sub rfl
  with_reducible apply State.put_framed
  with_reducible assumption
  exact kf.get rfl

theorem execStpPinArm_framed {i : Fin 16} {on : Bool} {s : State} (hs : State.Framed q b s) (kf : b.free [Part.reg RegGroup.stp]) :
    answers (execStpPinArm i on s) (State.Framed q b) := by
  unfold execStpPinArm
  with_reducible apply answers_ite
  with_reducible apply answers_next
  with_reducible apply State.flag_framed
  with_reducible assumption
  exact kf.get rfl
  with_reducible apply answers_next
  with_reducible apply State.putB_framed
  with_reducible assumption
  exact kf.get rfl

theorem execStpStop_framed {i : Fin 16} {s : State} (hs : State.Framed q b s) (kf : b.free (postParts ++ [Part.reg RegGroup.stp, Part.axes])) :
    answers (execStpStop i s) (State.Framed q b) := by
  unfold execStpStop
  extract_lets +onlyGivenNames x; clear_value x
  extract_lets +onlyGivenNames x; clear_value x
  extract_lets +onlyGivenNames x; refine (fun (hx : State.Framed q b x) => ?_) ?_ <;> [(try clear_value x); subst x]
  with_reducible apply answers_ite
  with_reducible apply answers_next
  with_reducible apply Stp.shown_framed
  with_reducible apply State.setAxis_framed
  with_reducible assumption
  exact kf.sub rfl
  exact kf.sub rfl
  split
  with_reducible apply answers_next
  with_reducible apply Stp.shown_framed
  with_reducible apply State.stopGroup_framed
  with_reducible apply State.setAxis_framed
  with_reducible assumption
  exact kf.sub rfl
  exact kf.sub rfl
  exact kf.sub rfl
  with_reducible apply answers_ite
  with_reducible apply answers_next
  with_reducible apply Stp.toRest_framed
  with_reducible apply State.setAxis_framed
  with_reducible assumption
  exact kf.sub rfl
  exact kf.sub rfl
  with_reducible apply answers_next
  with_reducible apply Stp.shown_framed
  with_reducible apply State.put_framed
  with_reducible apply State.setAxis_framed
  with_reducible assumption
  exact kf.sub rfl
  exact kf.get rfl
  exact kf.sub rfl
  with_reducible apply State.put_framed
  with_reducible assumption
  exact kf.get rfl

theorem execStpAbort_framed {i : Fin 16} {s : State} (hs : State.Framed q b s) (kf : b.free (postParts ++ [Part.reg RegGroup.stp, Part.axes])) :
    answers (execStpAbort i s) (State.Framed q b) := by
  unfold execStpAbort
  extract_lets +onlyGivenNames x; clear_value x
  extract_lets +onlyGivenNames x; subst x
  extract_lets +onlyGivenNames x; clear_value x
  extract_lets +onlyGivenNames x; refine (fun (hx : State.Framed q b x) => ?_) ?_ <;> [(try clear_value x); subst x]
  extract_lets +onlyGivenNames x; refine (fun (hx : State.Framed q b x) => ?_) ?_ <;> [(try clear_value x); subst x]
  with_reducible apply answers_next
  with_reducible apply Stp.shown_framed
  with_reducible apply State.put_framed
  with_reducible apply State.wr_framed
  with_reducible assumption
  exact kf.get rfl
  exact kf.get rfl
  exact kf.sub rfl
  split
  with_reducible apply State.stopGroup_framed
  with_reducible assumption
  exact kf.sub rfl
  with_reducible assumption
  with_reducible apply State.put_framed
  with_reducible apply State.setAxis_framed
  with_reducible assumption
  exact kf.sub rfl
  exact kf.get rfl

theorem execStpClr_framed {i : Fin 16} {s : State} (hs : State.Framed q b s) (kf : b.free [Part.reg RegGroup.stp, Part.axes]) :
    answers (execStpClr i s) (State.Framed q b) := by
  unfold execStpClr
  extract_lets +onlyGivenNames x; refine (fun (hx : State.Framed q b x) => ?_) ?_ <;> [(try clear_value x); subst x]
  with_reducible apply answers_ite
  with_reducible apply answers_next
  with_reducible apply framed_ite
  with_reducible apply Stp.startNext_framed
  with_reducible assumption
  exact kf.sub rfl
  with_reducible assumption
  with_reducible apply answers_next
  with_reducible assumption
  with_reducible apply State.put_framed
  with_reducible apply State.put_framed
  with_reducible assumption
  exact kf.get rfl
  exact kf.get rfl

theorem execStepMovePush_framed {i : Fin 16} {v : Word} {s : State} (hs : State.Framed q b s) (kf : b.free (postParts ++ [Part.reg RegGroup.stp, Part.axes])) :
    answers (execStepMovePush i v s) (State.Framed q b) := by
  unfold execStepMovePush
  extract_lets +onlyGivenNames x; clear_value x
  extract_lets +onlyGivenNames x; clear_value x
  extract_lets +onlyGivenNames x; clear_value x
  extract_lets +onlyGivenNames x; clear_value x
  extract_lets +onlyGivenNames x; clear_value x
  extract_lets +onlyGivenNames x; clear_value x
  extract_lets +onlyGivenNames x; clear_value x
  extract_lets +onlyGivenNames x; clear_value x
  extract_lets +onlyGivenNames x; clear_value x
  extract_lets +onlyGivenNames x; clear_value x
  extract_lets +onlyGivenNames x; clear_value x
  with_reducible apply answers_ite
  with_reducible apply answers_next
  with_reducible assumption
  with_reducible apply answers_ite
  with_reducible apply answers_next
  with_reducible apply State.flag_framed
  with_reducible assumption
  exact kf.get rfl
  with_reducible apply answers_ite
  with_reducible apply answers_next
  with_reducible apply framed_ite
  with_reducible apply State.safeHalt_framed
  with_reducible apply State.setAxis_framed
  with_reducible assumption
  exact kf.sub rfl
  exact kf.sub rfl
  with_reducible apply Stp.startNext_framed
  with_reducible assumption
  exact kf.sub rfl
  with_reducible apply answers_ite
  split
  with_reducible apply answers_next
  with_reducible apply Stp.shown_framed
  with_reducible apply State.stopGroup_framed
  with_reducible apply State.setAxis_framed
  with_reducible assumption
  exact kf.sub rfl
  exact kf.sub rfl
  exact kf.sub rfl
  with_reducible apply answers_ite
  with_reducible apply answers_next
  with_reducible apply Stp.shown_framed
  with_reducible apply State.put_framed
  with_reducible apply State.setAxis_framed
  with_reducible assumption
  exact kf.sub rfl
  exact kf.get rfl
  exact kf.sub rfl
  with_reducible apply answers_next
  with_reducible apply Stp.shown_framed
  with_reducible apply State.setAxis_framed
  with_reducible assumption
  exact kf.sub rfl
  exact kf.sub rfl
  with_reducible apply answers_ite
  with_reducible apply answers_next
  with_reducible apply Stp.startNext_framed
  with_reducible apply State.setAxis_framed
  with_reducible assumption
  exact kf.sub rfl
  exact kf.sub rfl
  with_reducible apply answers_next
  with_reducible apply Stp.shown_framed
  with_reducible apply State.put_framed
  with_reducible apply State.setAxis_framed
  with_reducible assumption
  exact kf.sub rfl
  exact kf.get rfl
  exact kf.sub rfl
  split
  extract_lets +onlyGivenNames x; clear_value x
  with_reducible apply answers_next
  with_reducible apply Stp.shown_framed
  with_reducible apply State.setAxis_framed
  with_reducible assumption
  exact kf.sub rfl
  exact kf.sub rfl
  extract_lets +onlyGivenNames x; clear_value x
  extract_lets +onlyGivenNames x; clear_value x
  with_reducible apply answers_next
  with_reducible apply Stp.shown_framed
  with_reducible apply State.setAxis_framed
  with_reducible assumption
  exact kf.sub rfl
  exact kf.sub rfl
  with_reducible apply answers_next
  with_reducible apply Stp.shown_framed
  with_reducible apply State.setAxis_framed
  with_reducible assumption
  exact kf.sub rfl
  exact kf.sub rfl

theorem execStepPreset_framed {i : Fin 16} {hi : BitVec 16} {s : State} (hs : State.Framed q b s) (kf : b.free [Part.reg RegGroup.stp]) :
    answers (execStepPreset i hi s) (State.Framed q b) := by
  unfold execStepPreset
  extract_lets +onlyGivenNames x; refine (fun (hx : State.Framed q b x) => ?_) ?_ <;> [(try clear_value x); subst x]
  with_reducible apply answers_ite
  with_reducible apply answers_next
  with_reducible apply State.wr48_framed
  with_reducible assumption
  exact kf.get rfl
  exact kf.get rfl
  with_reducible apply answers_next
  with_reducible assumption
  with_reducible apply State.wr_framed
  with_reducible assumption
  exact kf.get rfl

theorem execStepAccWrite_framed {i : Fin 16} {v : Word} {s : State} (hs : State.Framed q b s) (kf : b.free [Part.reg RegGroup.stp]) :
    answers (execStepAccWrite i v s) (State.Framed q b) := by
  unfold execStepAccWrite
  with_reducible apply answers_next
  with_reducible apply State.wr_framed
  with_reducible assumption
  exact kf.get rfl

theorem execStepCfgWrite_framed {i : Fin 16} {r : StpCfg} {v : Word} {s : State} (hs : State.Framed q b s) (kf : b.free [Part.reg RegGroup.stp, Part.reg RegGroup.ust]) :
    answers (execStepCfgWrite i r v s) (State.Framed q b) := by
  unfold execStepCfgWrite
  with_reducible apply answers_ite
  with_reducible apply answers_next
  with_reducible apply State.flag_framed
  with_reducible assumption
  exact kf.get rfl
  split
  with_reducible apply answers_next
  with_reducible apply State.wr_framed
  with_reducible assumption
  exact kf.get rfl
  with_reducible apply answers_next
  with_reducible apply framed_ite
  with_reducible apply State.flag_framed
  with_reducible assumption
  exact kf.get rfl
  with_reducible apply State.wr_framed
  with_reducible assumption
  exact kf.get rfl
  with_reducible apply answers_next
  with_reducible apply State.wr_framed
  with_reducible assumption
  exact kf.get rfl

theorem execStepDue_framed {i : Fin 16} {s : State} (hs : State.Framed q b s) (kf : b.free (postParts ++ [Part.reg RegGroup.stp, Part.now, Part.axes])) :
    answers (execStepDue i s) (State.Framed q b) := by
  unfold execStepDue
  split
  with_reducible apply answers_next
  with_reducible assumption
  with_reducible apply answers_next
  with_reducible apply Stp.due_framed
  with_reducible assumption
  exact kf.sub rfl

theorem execStepPulseEnd_framed {i : Fin 16} {s : State} (hs : State.Framed q b s) (kf : b.free [Part.reg RegGroup.stp, Part.now, Part.axes]) :
    answers (execStepPulseEnd i s) (State.Framed q b) := by
  unfold execStepPulseEnd
  split
  with_reducible apply answers_next
  with_reducible assumption
  extract_lets +onlyGivenNames x; refine (fun (hx : State.Framed q b x) => ?_) ?_ <;> [(try clear_value x); subst x]
  extract_lets +onlyGivenNames x; clear_value x
  extract_lets +onlyGivenNames x; clear_value x
  extract_lets +onlyGivenNames x; refine (fun (hx : State.Framed q b x) => ?_) ?_ <;> [(try clear_value x); subst x]
  with_reducible apply answers_next
  with_reducible apply framed_ite
  with_reducible apply Stp.orient_framed
  with_reducible assumption
  exact kf.sub rfl
  with_reducible assumption
  with_reducible apply State.setAxis_framed
  with_reducible assumption
  exact kf.sub rfl
  with_reducible apply State.advance_framed
  with_reducible assumption
  exact kf.sub rfl

theorem execStepDsetupExpiry_framed {i : Fin 16} {s : State} (hs : State.Framed q b s) (kf : b.free [Part.reg RegGroup.stp, Part.now, Part.axes]) :
    answers (execStepDsetupExpiry i s) (State.Framed q b) := by
  unfold execStepDsetupExpiry
  split
  with_reducible apply answers_next
  with_reducible assumption
  extract_lets +onlyGivenNames x; refine (fun (hx : State.Framed q b x) => ?_) ?_ <;> [(try clear_value x); subst x]
  extract_lets +onlyGivenNames x; clear_value x
  with_reducible apply answers_next
  with_reducible apply Stp.orient_framed
  with_reducible apply State.setAxis_framed
  with_reducible assumption
  exact kf.sub rfl
  exact kf.sub rfl
  with_reducible apply State.advance_framed
  with_reducible assumption
  exact kf.sub rfl

theorem execStepGroupStart_framed {g : Fin 8} {s : State} (hs : State.Framed q b s) (kf : b.free [Part.reg RegGroup.stp, Part.axes]) :
    answers (execStepGroupStart g s) (State.Framed q b) := by
  unfold execStepGroupStart
  extract_lets +onlyGivenNames x; clear_value x
  extract_lets +onlyGivenNames x; clear_value x
  extract_lets +onlyGivenNames x; clear_value x
  extract_lets +onlyGivenNames x; clear_value x
  simp -zeta only
  extract_lets +onlyGivenNames x; clear_value x
  extract_lets +onlyGivenNames x; refine (fun (hx : State.Framed q b x) => ?_) ?_ <;> [(try clear_value x); subst x]
  extract_lets +onlyGivenNames x; clear_value x
  extract_lets +onlyGivenNames x; refine (fun (hx : State.Framed q b x) => ?_) ?_ <;> [(try clear_value x); subst x]
  extract_lets +onlyGivenNames x; clear_value x
  extract_lets +onlyGivenNames x; refine (fun (hx : State.Framed q b x) => ?_) ?_ <;> [(try clear_value x); subst x]
  extract_lets +onlyGivenNames x; clear_value x
  with_reducible apply answers_ite
  with_reducible apply answers_next
  with_reducible assumption
  with_reducible apply answers_ite
  with_reducible apply answers_next
  with_reducible apply framed_foldl
  intro _ _ _
  with_reducible apply Stp.startNext_framed
  with_reducible apply State.put_framed
  with_reducible apply Stp.finish_framed
  with_reducible assumption
  exact kf.sub rfl
  exact kf.get rfl
  exact kf.sub rfl
  with_reducible assumption
  with_reducible apply answers_next
  with_reducible apply Stp.placeMembers_framed
  with_reducible assumption
  exact kf.sub rfl
  with_reducible apply Stp.begin__framed
  with_reducible assumption
  exact kf.sub rfl
  with_reducible apply framed_foldl
  intro _ _ _
  extract_lets +onlyGivenNames x; clear_value x
  with_reducible apply State.setAxis_framed
  with_reducible assumption
  exact kf.sub rfl
  with_reducible assumption
  with_reducible apply framed_foldl
  intro _ _ _
  extract_lets +onlyGivenNames x; clear_value x
  extract_lets +onlyGivenNames x; refine (fun (hx : State.Framed q b x) => ?_) ?_ <;> [(try clear_value x); subst x]
  extract_lets +onlyGivenNames x; clear_value x
  extract_lets +onlyGivenNames x; clear_value x
  with_reducible apply framed_ite
  with_reducible apply Stp.startNext_framed
  with_reducible apply Stp.finish_framed
  with_reducible assumption
  exact kf.sub rfl
  exact kf.sub rfl
  with_reducible apply Stp.shown_framed
  with_reducible apply State.put_framed
  with_reducible apply State.setAxis_framed
  with_reducible assumption
  exact kf.sub rfl
  exact kf.get rfl
  exact kf.sub rfl
  with_reducible apply State.put_framed
  with_reducible assumption
  exact kf.get rfl
  with_reducible assumption

theorem execStepperDriveRun_framed {i : Fin 16} {s : State} (hs : State.Framed q b s) (kf :
    b.free (postParts ++ [Part.reg RegGroup.port, Part.reg RegGroup.stp, Part.now, Part.ports, Part.axes])) :
  answers (execStepperDriveRun i s) (State.Framed q b) := by
  unfold execStepperDriveRun
  split
  · exact hs
  · refine answers_ite hs ?_
    extract_lets a spd rel num m c cA cB frameEnd first s1 unsignedQ irun kappa mode was strong s2 p80 wa wb wv vdc good s3 w kp ki quiet xa xb s4 x
    have h1 : State.Framed q b s1 := framed_ite (State.put_framed hs (kf.get rfl)) hs
    have h2 : State.Framed q b s2 := State.putB_framed h1 (kf.get rfl)
    have h3 : State.Framed q b s3 := State.setAxis_framed (State.bump_framed (r := STP_BAD i) h2 (kf.get rfl)) (kf.sub rfl)
    have h4 : State.Framed q b s4 := State.setAxis_framed h2 (kf.sub rfl)
    clear_value x w s3 s4 good
    refine answers_ite ?_ ?_
    · refine answers_next (framed_foldl (fun s pl h => ?_) h3)
      exact State.commitEw_framed (framed_foldl (fun s x h => State.wr_framed (State.wr_framed h (kf.get rfl)) (kf.get rfl)) h) (kf.sub rfl)
    · refine answers_next (framed_foldl (fun s pl h => ?_) h4)
      exact State.commitEw_framed (framed_foldl (fun s x h => State.wr_framed (State.wr_framed h (kf.get rfl)) (kf.get rfl)) h) (kf.sub rfl)

theorem execStepHoldCurrent_framed {i : Fin 16} {s : State} (hs : State.Framed q b s) (kf : b.free [Part.reg RegGroup.stp, Part.now]) :
    answers (execStepHoldCurrent i s) (State.Framed q b) := by
  unfold execStepHoldCurrent
  extract_lets +onlyGivenNames x; clear_value x
  with_reducible apply answers_ite
  with_reducible apply answers_next
  with_reducible apply State.put_framed
  with_reducible apply State.advance_framed
  with_reducible assumption
  exact kf.sub rfl
  exact kf.get rfl
  with_reducible apply answers_next
  with_reducible assumption

theorem State.setArm_framed {s : State} {a : Fin 8} {x : ArmState} (hs : State.Framed q b s) (kf : b.free [Part.arms]) :
    State.Framed q b (State.setArm s a x) := by
  have k_arms : b.keep .arms = false := kf.get rfl
  unfold State.setArm
  simp -zeta only [framed_mk, k_arms, or_true, true_or]
  with_reducible assumption

theorem State.appendMove_framed {s : State} {a : Fin 8} {m : Move} {full : Bool} (hs : State.Framed q b s) (kf : b.free [Part.arms]) :
    State.Framed q b (State.appendMove s a m full) := by
  unfold State.appendMove
  extract_lets +onlyGivenNames x; clear_value x
  extract_lets +onlyGivenNames x; clear_value x
  extract_lets +onlyGivenNames x; clear_value x
  extract_lets +onlyGivenNames x; clear_value x
  with_reducible apply State.setArm_framed
  with_reducible assumption
  exact kf.sub rfl

theorem State.extendPath_framed {a : Fin 8} {n : Nat} {s : State} (hs : State.Framed q b s) (kf :
    b.free [Part.arms]) :
  State.Framed q b (State.extendPath s a n) := by
  induction n generalizing s with
  | zero => exact hs
  | succ n ih =>
    unfold State.extendPath
    split
    · split
      · exact hs
      · exact ih (State.appendMove_framed (State.setArm_framed hs (kf.sub rfl)) (kf.sub rfl))
    · exact hs

theorem State.replaceMove_framed {s : State} {a : Fin 8} {m : Move} (hs : State.Framed q b s) (kf : b.free (postParts ++ [Part.reg RegGroup.arm, Part.arms])) :
    State.Framed q b (State.replaceMove s a m) := by
  unfold State.replaceMove
  extract_lets +onlyGivenNames x; clear_value x
  extract_lets +onlyGivenNames x; clear_value x
  extract_lets +onlyGivenNames x; clear_value x
  simp -zeta only
  extract_lets +onlyGivenNames x; clear_value x
  extract_lets +onlyGivenNames x; clear_value x
  extract_lets +onlyGivenNames x; clear_value x
  extract_lets +onlyGivenNames x; refine (fun (hx : State.Framed q b x) => ?_) ?_ <;> [(try clear_value x); subst x]
  extract_lets +onlyGivenNames x; refine (fun (hx : State.Framed q b x) => ?_) ?_ <;> [(try clear_value x); subst x]
  extract_lets +onlyGivenNames x; clear_value x
  extract_lets +onlyGivenNames x; clear_value x
  extract_lets +onlyGivenNames x; refine (fun (hx : State.Framed q b x) => ?_) ?_ <;> [(try clear_value x); subst x]
  with_reducible apply framed_ite
  with_reducible apply State.post_framed
  with_reducible apply State.flag_framed
  with_reducible assumption
  exact kf.get rfl
  exact kf.sub rfl
  with_reducible assumption
  with_reducible apply framed_ite
  with_reducible apply State.setArm_framed
  with_reducible assumption
  exact kf.sub rfl
  with_reducible apply State.appendMove_framed
  with_reducible assumption
  exact kf.sub rfl
  with_reducible apply framed_foldl
  intro _ _ _
  with_reducible apply State.wr48_framed
  with_reducible assumption
  exact kf.get rfl
  exact kf.get rfl
  with_reducible assumption
  with_reducible apply State.setArm_framed
  with_reducible assumption
  exact kf.sub rfl

theorem State.install_framed {s : State} {a : Fin 8} {ms : List Move} (hs : State.Framed q b s) (kf : b.free (postParts ++ [Part.reg RegGroup.arm, Part.arms])) :
    State.Framed q b (State.install s a ms) := by
  unfold State.install
  extract_lets +onlyGivenNames x; refine (fun (hx : State.Framed q b x) => ?_) ?_ <;> [(try clear_value x); subst x]
  with_reducible apply State.extendPath_framed
  with_reducible assumption
  exact kf.sub rfl
  with_reducible apply framed_foldl
  intro _ _ _
  extract_lets +onlyGivenNames x; clear_value x
  with_reducible apply framed_ite
  with_reducible apply State.replaceMove_framed
  with_reducible assumption
  exact kf.sub rfl
  with_reducible apply State.setArm_framed
  with_reducible assumption
  exact kf.sub rfl
  with_reducible assumption

theorem State.showDepth_framed {s : State} {a : Fin 8} (hs : State.Framed q b s) (kf : b.free [Part.reg RegGroup.arm]) :
    State.Framed q b (State.showDepth s a) := by
  unfold State.showDepth
  with_reducible apply State.wr_framed
  with_reducible assumption
  exact kf.get rfl

theorem State.flushArm_framed {s : State} {a : Fin 8} (hs : State.Framed q b s) (kf : b.free [Part.reg RegGroup.arm, Part.arms]) :
    State.Framed q b (State.flushArm s a) := by
  unfold State.flushArm
  extract_lets +onlyGivenNames x; clear_value x
  with_reducible apply State.showDepth_framed
  with_reducible apply State.setArm_framed
  with_reducible assumption
  exact kf.sub rfl
  exact kf.sub rfl

theorem execArmCtrlEn_framed {a : Fin 8} {on : Bool} {s : State} (hs : State.Framed q b s) (kf : b.free [Part.reg RegGroup.ld, Part.reg RegGroup.arm, Part.loops, Part.arms, Part.pc]) :
    answers (execArmCtrlEn a on s) (State.Framed q b) := by
  unfold execArmCtrlEn
  extract_lets +onlyGivenNames x; clear_value x
  extract_lets +onlyGivenNames x; clear_value x
  extract_lets +onlyGivenNames x; clear_value x
  extract_lets +onlyGivenNames x; clear_value x
  extract_lets +onlyGivenNames x; clear_value x
  extract_lets +onlyGivenNames x; refine (fun (hx : State.Framed q b x) => ?_) ?_ <;> [(try clear_value x); subst x]
  extract_lets +onlyGivenNames x; refine (fun (hx : State.Framed q b x) => ?_) ?_ <;> [(try clear_value x); subst x]
  with_reducible apply answers_ite
  with_reducible apply answers_ite
  with_reducible apply answers_next
  with_reducible assumption
  with_reducible apply answers_ite
  with_reducible apply answers_next
  with_reducible apply State.flag_framed
  with_reducible assumption
  exact kf.get rfl
  with_reducible apply answers_next
  with_reducible apply State.showDepth_framed
  with_reducible assumption
  exact kf.sub rfl
  with_reducible apply answers_next
  with_reducible apply State.flushArm_framed
  with_reducible apply State.put_framed
  with_reducible apply State.put_framed
  with_reducible assumption
  exact kf.get rfl
  exact kf.get rfl
  exact kf.sub rfl
  with_reducible apply framed_foldl
  intro _ _ _
  extract_lets +onlyGivenNames x; clear_value x
  extract_lets +onlyGivenNames x; refine (fun (hx : State.Framed q b x) => ?_) ?_ <;> [(try clear_value x); subst x]
  extract_lets +onlyGivenNames x; refine (fun (hx : State.Framed q b x) => ?_) ?_ <;> [(try clear_value x); subst x]
  extract_lets +onlyGivenNames x; clear_value x
  with_reducible apply State.setLoop_framed
  with_reducible apply State.wr_framed
  with_reducible assumption
  exact kf.get rfl
  exact kf.sub rfl
  with_reducible apply State.updOther_framed
  with_reducible assumption
  exact kf.sub rfl
  with_reducible apply State.wr_framed
  with_reducible apply State.wr48_framed
  with_reducible assumption
  exact kf.get rfl
  exact kf.get rfl
  exact kf.get rfl
  with_reducible assumption
  with_reducible apply State.setArm_framed
  with_reducible apply State.put_framed
  with_reducible apply State.put_framed
  with_reducible assumption
  exact kf.get rfl
  exact kf.get rfl
  exact kf.sub rfl

theorem State.armCmd_framed {s : State} {a : Fin 8} {c : Nat} (hs : State.Framed q b s) (kf : b.free [Part.arms]) :
    State.Framed q b (State.armCmd s a c) := by
  unfold State.armCmd
  extract_lets +onlyGivenNames x; clear_value x
  with_reducible apply State.setArm_framed
  with_reducible assumption
  exact kf.sub rfl

theorem execArmPause_framed {a : Fin 8} {s : State} (hs : State.Framed q b s) (kf : b.free [Part.arms]) :
    answers (execArmPause a s) (State.Framed q b) := by
  unfold execArmPause
  with_reducible apply answers_next
  with_reducible apply State.armCmd_framed
  with_reducible assumption
  exact kf.sub rfl

theorem execArmResume_framed {a : Fin 8} {s : State} (hs : State.Framed q b s) (kf : b.free [Part.arms]) :
    answers (execArmResume a s) (State.Framed q b) := by
  unfold execArmResume
  with_reducible apply answers_next
  with_reducible apply State.armCmd_framed
  with_reducible assumption
  exact kf.sub rfl

theorem execArmAbort_framed {a : Fin 8} {s : State} (hs : State.Framed q b s) (kf : b.free [Part.arms]) :
    answers (execArmAbort a s) (State.Framed q b) := by
  unfold execArmAbort
  with_reducible apply answers_next
  with_reducible apply State.armCmd_framed
  with_reducible assumption
  exact kf.sub rfl

theorem execArmClr_framed {a : Fin 8} {s : State} (hs : State.Framed q b s) (kf : b.free [Part.arms]) :
    answers (execArmClr a s) (State.Framed q b) := by
  unfold execArmClr
  with_reducible apply answers_next
  with_reducible apply State.armCmd_framed
  with_reducible assumption
  exact kf.sub rfl

theorem State.offerMove_framed {s : State} {a : Fin 8} {m : Move} {reserved : Bool} (hs : State.Framed q b s) (kf : b.free [Part.reg RegGroup.arm, Part.arms]) :
    State.Framed q b (State.offerMove s a m reserved).1 := by
  unfold State.offerMove
  extract_lets +onlyGivenNames x; clear_value x
  extract_lets +onlyGivenNames x; clear_value x
  split
  simp -zeta only
  with_reducible apply State.showDepth_framed
  with_reducible apply State.setArm_framed
  with_reducible assumption
  exact kf.sub rfl
  exact kf.sub rfl
  split
  simp -zeta only
  with_reducible apply State.flag_framed
  with_reducible assumption
  exact kf.get rfl
  simp -zeta only
  with_reducible assumption

theorem execPlannerRun_framed {s : State} (hs : State.Framed q b s) (kf : b.free (postParts ++ [Part.reg RegGroup.arm, Part.reg RegGroup.kn, Part.reg RegGroup.stk, Part.mem, Part.fresh, Part.arms, Part.kiln, Part.plannerRan, Part.stk, Part.pc, Part.ic])) :
    answers (execPlannerRun s) (State.Framed q b) := by
  have k_plannerRan : b.keep .plannerRan = false := kf.get rfl
  unfold execPlannerRun
  extract_lets +onlyGivenNames x; clear_value x
  extract_lets +onlyGivenNames x; clear_value x
  extract_lets +onlyGivenNames x; refine (fun (hx : State.Framed q b x) => ?_) ?_ <;> [(try clear_value x); subst x]
  extract_lets +onlyGivenNames x; refine (fun (hx : State.Framed q b x) => ?_) ?_ <;> [(try clear_value x); subst x]
  extract_lets +onlyGivenNames x; refine (fun (hx : State.Framed q b x) => ?_) ?_ <;> [(try clear_value x); subst x]
  extract_lets +onlyGivenNames x; clear_value x
  with_reducible apply answers_ite
  with_reducible apply answers_next
  with_reducible assumption
  with_reducible apply answers_next
  with_reducible apply framed_foldl
  intro _ _ _
  with_reducible apply State.kAccept_framed
  with_reducible assumption
  exact kf.sub rfl
  with_reducible assumption
  simp -zeta only [framed_mk, k_plannerRan, or_true, true_or]
  with_reducible assumption
  with_reducible apply State.useFresh_framed
  with_reducible assumption
  exact kf.sub rfl
  with_reducible apply framed_foldl
  intro _ _ _
  extract_lets +onlyGivenNames x; clear_value x
  with_reducible apply State.setArm_framed
  with_reducible assumption
  exact kf.sub rfl
  with_reducible assumption

theorem State.takeKnots_framed {s : State} (hs : State.Framed q b s) (kf : b.free [Part.arms]) : State.Framed q b (State.takeKnots s) := by
  unfold State.takeKnots
  split
  with_reducible assumption
  with_reducible apply framed_foldl
  intro _ _ _
  with_reducible apply framed_foldl
  intro _ _ _
  extract_lets +onlyGivenNames x; clear_value x
  extract_lets +onlyGivenNames x; clear_value x
  with_reducible apply State.setArm_framed
  with_reducible assumption
  exact kf.sub rfl
  with_reducible assumption
  with_reducible assumption

theorem State.countReuse_framed {s : State} (hs : State.Framed q b s) (kf : b.free [Part.reg RegGroup.pln]) :
    State.Framed q b (State.countReuse s) := by
  unfold State.countReuse
  split
  with_reducible assumption
  with_reducible apply framed_ite
  with_reducible apply State.bumpField_framed
  with_reducible apply State.flag_framed
  with_reducible apply State.bump_framed
  with_reducible assumption
  exact kf.get rfl
  exact kf.get rfl
  exact kf.get rfl
  with_reducible apply State.put_framed
  with_reducible assumption
  exact kf.get rfl

theorem execPlanningTick_framed {s : State} (hs : State.Framed q b s) (kf : b.free (postParts ++ [Part.reg RegGroup.pln, Part.reg RegGroup.arm, Part.reg RegGroup.kn, Part.now, Part.mem, Part.fbs, Part.arms, Part.kiln, Part.plannerRan, Part.planDue, Part.pc])) :
    answers (execPlanningTick s) (State.Framed q b) := by
  have k_fbs : b.keep .fbs = false := kf.get rfl
  have k_planDue : b.keep .planDue = false := kf.get rfl
  have k_plannerRan : b.keep .plannerRan = false := kf.get rfl
  unfold execPlanningTick
  extract_lets +onlyGivenNames x; refine (fun (hx : State.Framed q b x) => ?_) ?_ <;> [(try clear_value x); subst x]
  extract_lets +onlyGivenNames x; clear_value x
  extract_lets +onlyGivenNames x; clear_value x
  extract_lets +onlyGivenNames x; refine (fun (hx : State.Framed q b x) => ?_) ?_ <;> [(try clear_value x); subst x]
  extract_lets +onlyGivenNames x; refine (fun (hx : State.Framed q b x) => ?_) ?_ <;> [(try clear_value x); subst x]
  extract_lets +onlyGivenNames x; refine (fun (hx : State.Framed q b x) => ?_) ?_ <;> [(try clear_value x); subst x]
  extract_lets +onlyGivenNames x; refine (fun (hx : State.Framed q b x) => ?_) ?_ <;> [(try clear_value x); subst x]
  extract_lets +onlyGivenNames x; refine (fun (hx : State.Framed q b x) => ?_) ?_ <;> [(try clear_value x); subst x]
  extract_lets +onlyGivenNames x; refine (fun (hx : State.Framed q b x) => ?_) ?_ <;> [(try clear_value x); subst x]
  with_reducible apply answers_next
  simp -zeta only [framed_mk, k_fbs, k_planDue, k_plannerRan, or_true, true_or]
  with_reducible assumption
  with_reducible apply framed_foldl
  intro _ _ _
  extract_lets +onlyGivenNames x; clear_value x
  extract_lets +onlyGivenNames x; clear_value x
  extract_lets +onlyGivenNames x; refine (fun (hx : State.Framed q b x) => ?_) ?_ <;> [(try clear_value x); subst x]
  with_reducible apply State.showDepth_framed
  with_reducible apply State.install_framed
  with_reducible assumption
  exact kf.sub rfl
  exact kf.sub rfl
  with_reducible apply State.setArm_framed
  with_reducible assumption
  exact kf.sub rfl
  with_reducible assumption
  with_reducible apply framed_ite
  with_reducible apply State.countReuse_framed
  with_reducible apply State.takeKnots_framed
  with_reducible assumption
  exact kf.sub rfl
  exact kf.sub rfl
  with_reducible assumption
  with_reducible apply State.kilnTick_framed
  with_reducible apply State.kilnTick_framed
  with_reducible assumption
  exact kf.sub rfl
  exact kf.sub rfl
  simp -zeta only [framed_mk, k_fbs, k_planDue, k_plannerRan, or_true, true_or]
  with_reducible assumption
  with_reducible apply State.count_framed
  with_reducible assumption
  exact kf.get rfl
  with_reducible apply framed_ite
  with_reducible apply State.flag_framed
  with_reducible assumption
  exact kf.get rfl
  with_reducible assumption
  with_reducible apply State.advance_framed
  with_reducible assumption
  exact kf.sub rfl

theorem execPlannerKilnStop_framed {s : State} (hs : State.Framed q b s) (kf : b.free [Part.reg RegGroup.pln, Part.arms]) :
    answers (execPlannerKilnStop s) (State.Framed q b) := by
  unfold execPlannerKilnStop
  extract_lets +onlyGivenNames x; clear_value x
  with_reducible apply answers_ite
  with_reducible apply answers_next
  with_reducible apply State.flag_framed
  with_reducible apply framed_foldl
  intro _ _ _
  with_reducible apply State.armCmd_framed
  with_reducible assumption
  exact kf.sub rfl
  with_reducible assumption
  exact kf.get rfl
  with_reducible apply answers_next
  with_reducible assumption

theorem execTimedMoveStart_framed {a : Fin 8} {s : State} (hs : State.Framed q b s) (kf : b.free (postParts ++ [Part.reg RegGroup.arm, Part.now, Part.arms])) :
    answers (execTimedMoveStart a s) (State.Framed q b) := by
  unfold execTimedMoveStart
  extract_lets +onlyGivenNames x; clear_value x
  split
  split
  with_reducible apply answers_next
  with_reducible assumption
  extract_lets +onlyGivenNames x; refine (fun (hx : State.Framed q b x) => ?_) ?_ <;> [(try clear_value x); subst x]
  extract_lets +onlyGivenNames x; clear_value x
  extract_lets +onlyGivenNames x; clear_value x
  extract_lets +onlyGivenNames x; refine (fun (hx : State.Framed q b x) => ?_) ?_ <;> [(try clear_value x); subst x]
  extract_lets +onlyGivenNames x; clear_value x
  extract_lets +onlyGivenNames x; refine (fun (hx : State.Framed q b x) => ?_) ?_ <;> [(try clear_value x); subst x]
  extract_lets +onlyGivenNames x; refine (fun (hx : State.Framed q b x) => ?_) ?_ <;> [(try clear_value x); subst x]
  with_reducible apply answers_ite
  with_reducible apply answers_next
  with_reducible assumption
  with_reducible apply answers_ite
  with_reducible apply answers_next
  with_reducible apply State.post_framed
  with_reducible apply State.flag_framed
  with_reducible assumption
  exact kf.get rfl
  exact kf.sub rfl
  with_reducible apply answers_next
  with_reducible assumption
  with_reducible apply State.showDepth_framed
  with_reducible apply State.extendPath_framed
  with_reducible assumption
  exact kf.sub rfl
  exact kf.sub rfl
  with_reducible apply State.setArm_framed
  with_reducible assumption
  exact kf.sub rfl
  with_reducible apply State.appendMove_framed
  with_reducible apply State.setArm_framed
  with_reducible assumption
  exact kf.sub rfl
  exact kf.sub rfl
  with_reducible apply State.advance_framed
  with_reducible assumption
  exact kf.sub rfl
  with_reducible apply answers_next
  with_reducible assumption

theorem State.applyArmCmd_framed {s : State} {a : Fin 8} {c : Nat} (hs : State.Framed q b s) (kf : b.free [Part.reg RegGroup.arm, Part.arms]) :
    State.Framed q b (State.applyArmCmd s a c) := by
  unfold State.applyArmCmd
  extract_lets +onlyGivenNames x; clear_value x
  extract_lets +onlyGivenNames x; clear_value x
  extract_lets +onlyGivenNames x; refine (fun (hx6 : ∀ y, State.Framed q b (x y)) => ?_) ?_ <;> [(try clear_value x); subst x]
  split
  with_reducible apply framed_ite
  with_reducible apply hx6
  with_reducible assumption
  with_reducible apply framed_ite
  with_reducible apply hx6
  with_reducible assumption
  with_reducible apply framed_ite
  with_reducible apply hx6
  with_reducible assumption
  with_reducible apply framed_ite
  with_reducible assumption
  with_reducible apply framed_ite
  with_reducible apply State.flushArm_framed
  with_reducible apply State.put_framed
  with_reducible assumption
  exact kf.get rfl
  exact kf.sub rfl
  with_reducible apply State.flag_framed
  with_reducible assumption
  exact kf.get rfl
  intro _
  simp -zeta only
  with_reducible apply State.put_framed
  with_reducible assumption
  exact kf.get rfl

theorem State.armEvents_framed {s : State} {a : Fin 8} (hs : State.Framed q b s) (kf : b.free [Part.reg RegGroup.arm, Part.arms]) :
    State.Framed q b (State.armEvents s a) := by
  unfold State.armEvents
  extract_lets +onlyGivenNames x; clear_value x
  extract_lets +onlyGivenNames x; clear_value x
  extract_lets +onlyGivenNames x; clear_value x
  extract_lets +onlyGivenNames x; refine (fun (hx : State.Framed q b x) => ?_) ?_ <;> [(try clear_value x); subst x]
  extract_lets +onlyGivenNames x; refine (fun (hx : State.Framed q b x) => ?_) ?_ <;> [(try clear_value x); subst x]
  extract_lets +onlyGivenNames x; clear_value x
  extract_lets +onlyGivenNames x; refine (fun (hx : State.Framed q b x) => ?_) ?_ <;> [(try clear_value x); subst x]
  extract_lets +onlyGivenNames x; clear_value x
  with_reducible apply framed_ite
  with_reducible apply State.put_framed
  with_reducible assumption
  exact kf.get rfl
  with_reducible assumption
  with_reducible apply framed_ite
  with_reducible apply State.flushArm_framed
  with_reducible apply State.put_framed
  with_reducible assumption
  exact kf.get rfl
  exact kf.sub rfl
  with_reducible apply framed_ite
  with_reducible apply State.put_framed
  with_reducible assumption
  exact kf.get rfl
  with_reducible assumption
  with_reducible apply framed_foldl
  intro _ _ _
  with_reducible apply State.applyArmCmd_framed
  with_reducible assumption
  exact kf.sub rfl
  with_reducible assumption
  with_reducible apply State.setArm_framed
  with_reducible assumption
  exact kf.sub rfl

theorem State.writeSp_framed {s : State} {a : Fin 8} {j : Fin 8} {q_ : Rat} {qd : Rat} {qdd : Rat} {k : Nat} (hs : State.Framed q b s) (kf : b.free [Part.reg RegGroup.ld, Part.loops, Part.pc]) :
    State.Framed q b (State.writeSp s a j q_ qd qdd k) := by
  unfold State.writeSp
  extract_lets +onlyGivenNames x; clear_value x
  extract_lets +onlyGivenNames x; clear_value x
  extract_lets +onlyGivenNames x; clear_value x
  extract_lets +onlyGivenNames x; clear_value x
  extract_lets +onlyGivenNames x; clear_value x
  extract_lets +onlyGivenNames x; clear_value x
  extract_lets +onlyGivenNames x; refine (fun (hx : State.Framed q b x) => ?_) ?_ <;> [(try clear_value x); subst x]
  extract_lets +onlyGivenNames x; clear_value x
  extract_lets +onlyGivenNames x; refine (fun (hx : State.Framed q b x) => ?_) ?_ <;> [(try clear_value x); subst x]
  extract_lets +onlyGivenNames x; clear_value x
  with_reducible apply State.setLoop_framed
  with_reducible assumption
  exact kf.sub rfl
  with_reducible apply State.updOther_framed
  with_reducible assumption
  exact kf.sub rfl
  with_reducible apply State.wr_framed
  with_reducible apply State.wr_framed
  with_reducible apply State.wr48_framed
  with_reducible assumption
  exact kf.get rfl
  exact kf.get rfl
  exact kf.get rfl
  exact kf.get rfl

theorem State.armSettle_framed {s : State} {a : Fin 8} (hs : State.Framed q b s) (kf : b.free [Part.reg RegGroup.arm, Part.arms]) :
    State.Framed q b (s.armSettle a) := by
  unfold State.armSettle
  extract_lets x done s1 s2 x2 s3 st
  have h1 : State.Framed q b s1 := by
    dsimp only [s1]
    split
    · exact State.wr_framed hs (kf.get rfl)
    · exact hs
  have h2 : State.Framed q b s2 := by
    dsimp only [s2]
    split
    · exact State.put_framed h1 (kf.get rfl)
    · exact h1
  have h3 : State.Framed q b s3 := State.showDepth_framed (State.setArm_framed h2 (kf.sub rfl)) (kf.sub rfl)
  exact framed_ite (State.put_framed h3 (kf.get rfl)) (framed_ite (State.put_framed h3 (kf.get rfl)) (framed_ite (State.flushArm_framed (State.put_framed h3 (kf.get rfl)) (kf.sub rfl)) h3))

theorem execInterpolatorRun_framed {a : Fin 8} {s : State} (hs : State.Framed q b s) (kf : b.free [Part.reg RegGroup.ld, Part.reg RegGroup.arm, Part.loops, Part.arms, Part.pc]) :
    answers (execInterpolatorRun a s) (State.Framed q b) := by
  unfold execInterpolatorRun
  extract_lets +onlyGivenNames x; refine (fun (hx : State.Framed q b x) => ?_) ?_ <;> [(try clear_value x); subst x]
  extract_lets +onlyGivenNames x; clear_value x
  extract_lets +onlyGivenNames x; clear_value x
  simp -zeta only
  with_reducible apply answers_ite
  with_reducible apply answers_next
  with_reducible assumption
  split
  with_reducible apply answers_next
  with_reducible apply State.armSettle_framed
  with_reducible assumption
  exact kf.sub rfl
  extract_lets +onlyGivenNames x; clear_value x
  extract_lets +onlyGivenNames x; clear_value x
  extract_lets +onlyGivenNames x; clear_value x
  extract_lets +onlyGivenNames x; clear_value x
  extract_lets +onlyGivenNames x; clear_value x
  extract_lets +onlyGivenNames x; clear_value x
  extract_lets +onlyGivenNames x; clear_value x
  extract_lets +onlyGivenNames x; refine (fun (hx : State.Framed q b x) => ?_) ?_ <;> [(try clear_value x); subst x]
  extract_lets +onlyGivenNames x; refine (fun (hx : State.Framed q b x) => ?_) ?_ <;> [(try clear_value x); subst x]
  extract_lets +onlyGivenNames x; refine (fun (hx : State.Framed q b x) => ?_) ?_ <;> [(try clear_value x); subst x]
  extract_lets +onlyGivenNames x; refine (fun (hx : State.Framed q b x) => ?_) ?_ <;> [(try clear_value x); subst x]
  extract_lets +onlyGivenNames x; clear_value x
  extract_lets +onlyGivenNames x; refine (fun (hx : State.Framed q b x) => ?_) ?_ <;> [(try clear_value x); subst x]
  with_reducible apply answers_next
  with_reducible apply State.armSettle_framed
  with_reducible assumption
  exact kf.sub rfl
  with_reducible apply State.wr_framed
  with_reducible apply State.wr_framed
  with_reducible assumption
  exact kf.get rfl
  exact kf.get rfl
  with_reducible apply State.wr_framed
  with_reducible apply State.wr_framed
  with_reducible assumption
  exact kf.get rfl
  exact kf.get rfl
  with_reducible apply framed_foldl
  intro _ _ _
  extract_lets +onlyGivenNames x; clear_value x
  with_reducible apply State.writeSp_framed
  with_reducible assumption
  exact kf.sub rfl
  with_reducible assumption
  with_reducible apply State.setArm_framed
  with_reducible assumption
  exact kf.sub rfl
  with_reducible apply framed_ite
  with_reducible apply State.flag_framed
  with_reducible assumption
  exact kf.get rfl
  with_reducible assumption
  with_reducible apply State.armEvents_framed
  with_reducible assumption
  exact kf.sub rfl

end Sys2Proof.Machine

/-! Stack and the time service keep what `State.Framed` says: one lemma per operation. -/

namespace Sys2Proof.Machine

open Sys2Proof

variable {q : List Instr} {b : Kept}

theorem State.showTiles_framed {s : State} (hs : State.Framed q b s) (kf : b.free [Part.reg RegGroup.stk]) :
    State.Framed q b (State.showTiles s) := by
  unfold State.showTiles
  extract_lets +onlyGivenNames x; clear_value x
  with_reducible apply framed_foldl
  intro _ _ _
  extract_lets +onlyGivenNames x; clear_value x
  extract_lets +onlyGivenNames x; clear_value x
  extract_lets +onlyGivenNames x; refine (fun (hx : State.Framed q b x) => ?_) ?_ <;> [(try clear_value x); subst x]
  extract_lets +onlyGivenNames x; refine (fun (hx : State.Framed q b x) => ?_) ?_ <;> [(try clear_value x); subst x]
  extract_lets +onlyGivenNames x; refine (fun (hx : State.Framed q b x) => ?_) ?_ <;> [(try clear_value x); subst x]
  extract_lets +onlyGivenNames x; refine (fun (hx : State.Framed q b x) => ?_) ?_ <;> [(try clear_value x); subst x]
  with_reducible apply State.wr_framed
  with_reducible assumption
  exact kf.get rfl
  with_reducible apply State.put_framed
  with_reducible assumption
  exact kf.get rfl
  with_reducible apply State.put_framed
  with_reducible assumption
  exact kf.get rfl
  with_reducible apply State.wr_framed
  with_reducible assumption
  exact kf.get rfl
  with_reducible apply State.put_framed
  with_reducible assumption
  exact kf.get rfl
  with_reducible assumption

theorem State.taskRecord_framed {s : State} {n : Fin 4096} {type : Nat} {sev : Nat} {more : List Byte} (hs : State.Framed q b s) (kf : b.free (postParts)) :
    State.Framed q b (State.taskRecord s n type sev more) := by
  unfold State.taskRecord
  with_reducible apply State.post_framed
  with_reducible assumption
  exact kf.sub rfl

theorem State.miss_framed {s : State} {n : Fin 4096} (hs : State.Framed q b s) (kf : b.free [Part.reg RegGroup.stk]) :
    State.Framed q b (State.miss s n) := by
  unfold State.miss
  with_reducible apply State.bumpField_framed
  with_reducible assumption
  exact kf.get rfl

theorem State.overrun_framed {s : State} {n : Fin 4096} (hs : State.Framed q b s) (kf : b.free (postParts ++ [Part.reg RegGroup.stk, Part.stk])) :
    State.Framed q b (State.overrun s n) := by
  unfold State.overrun
  extract_lets +onlyGivenNames x; clear_value x
  extract_lets +onlyGivenNames x; refine (fun (hx : State.Framed q b x) => ?_) ?_ <;> [(try clear_value x); subst x]
  with_reducible apply framed_ite
  with_reducible assumption
  with_reducible apply State.taskRecord_framed
  with_reducible apply State.setTask_framed
  with_reducible assumption
  exact kf.sub rfl
  exact kf.sub rfl
  with_reducible apply State.flag_framed
  with_reducible apply State.miss_framed
  with_reducible assumption
  exact kf.sub rfl
  exact kf.get rfl

theorem State.releaseNow_framed {s : State} {n : Fin 4096} (hs : State.Framed q b s) (kf : b.free [Part.reg RegGroup.stk, Part.stk]) :
    State.Framed q b (State.releaseNow s n).1 := by
  unfold State.releaseNow
  extract_lets +onlyGivenNames x; clear_value x
  extract_lets +onlyGivenNames x; clear_value x
  extract_lets +onlyGivenNames x; clear_value x
  split
  simp -zeta only
  with_reducible assumption
  simp -zeta only
  with_reducible apply State.queueUp_framed
  with_reducible apply State.put_framed
  with_reducible apply State.setTask_framed
  with_reducible assumption
  exact kf.sub rfl
  exact kf.get rfl
  exact kf.sub rfl

theorem State.releaseTask_framed {s : State} {n : Fin 4096} {delay : Option (Fin 4 × Nat)} (hs : State.Framed q b s) (kf : b.free (postParts ++ [Part.reg RegGroup.stk, Part.stk])) :
    State.Framed q b (State.releaseTask s n delay).1 := by
  unfold State.releaseTask
  extract_lets +onlyGivenNames x; clear_value x
  extract_lets +onlyGivenNames x; clear_value x
  extract_lets +onlyGivenNames x; clear_value x
  split
  simp -zeta only
  with_reducible assumption
  split
  simp -zeta only
  with_reducible apply State.overrun_framed
  with_reducible assumption
  exact kf.sub rfl
  split
  simp -zeta only
  with_reducible assumption
  split
  simp -zeta only
  with_reducible apply State.overrun_framed
  extract_lets +onlyGivenNames x; subst x
  with_reducible assumption
  exact kf.sub rfl
  split
  with_reducible apply State.releaseNow_framed
  with_reducible assumption
  exact kf.sub rfl
  with_reducible apply State.releaseNow_framed
  with_reducible assumption
  exact kf.sub rfl
  extract_lets +onlyGivenNames x; clear_value x
  extract_lets +onlyGivenNames x; clear_value x
  simp -zeta only
  with_reducible apply State.put_framed
  with_reducible apply State.setTask_framed
  with_reducible assumption
  exact kf.sub rfl
  exact kf.get rfl

theorem State.releaseOrDrop_framed {s : State} {n : Fin 4096} (hs : State.Framed q b s) (kf : b.free (postParts ++ [Part.reg RegGroup.stk, Part.stk])) :
    State.Framed q b (State.releaseOrDrop s n) := by
  unfold State.releaseOrDrop
  split
  with_reducible refine framed_of_pair (by with_reducible assumption) ?_
  with_reducible apply State.releaseTask_framed
  with_reducible assumption
  exact kf.sub rfl
  with_reducible apply State.overrun_framed
  with_reducible refine framed_of_pair (by with_reducible assumption) ?_
  with_reducible apply State.releaseTask_framed
  with_reducible assumption
  exact kf.sub rfl
  exact kf.sub rfl

theorem State.hold_framed {s : State} {h : Held} (hs : State.Framed q b s) (kf : b.free [Part.stk]) : State.Framed q b (State.hold s h) := by
  have k_stk : b.keep .stk = false := kf.get rfl
  unfold State.hold
  extract_lets +onlyGivenNames x; clear_value x
  with_reducible apply framed_ite
  with_reducible assumption
  simp -zeta only [framed_mk, k_stk, or_true, true_or]
  with_reducible assumption

theorem State.stkRelease_framed {s : State} {who : Who} {v : Word} (hs : State.Framed q b s) (kf : b.free (postParts ++ [Part.reg RegGroup.stk, Part.stk])) :
    State.Framed q b (State.stkRelease s who v).1 := by
  unfold State.stkRelease
  extract_lets +onlyGivenNames x; clear_value x
  extract_lets +onlyGivenNames x; clear_value x
  extract_lets +onlyGivenNames x; clear_value x
  split
  split
  simp -zeta only
  with_reducible refine framed_of_pair (by with_reducible assumption) ?_
  with_reducible apply State.releaseTask_framed
  with_reducible assumption
  exact kf.sub rfl
  simp -zeta only
  with_reducible apply State.hold_framed
  with_reducible refine framed_of_pair (by with_reducible assumption) ?_
  with_reducible apply State.releaseTask_framed
  with_reducible assumption
  exact kf.sub rfl
  exact kf.sub rfl
  simp -zeta only
  with_reducible assumption

theorem execStkRelease_framed {who : Who} {v : Word} {s : State} (hs : State.Framed q b s) (kf : b.free (postParts ++ [Part.reg RegGroup.stk, Part.stk])) :
    answers (execStkRelease who v s) (State.Framed q b) := by
  unfold execStkRelease
  with_reducible apply answers_next
  with_reducible apply State.stkRelease_framed
  with_reducible assumption
  exact kf.sub rfl

theorem State.eventRelease_framed {s : State} {src : Fin 512} (hs : State.Framed q b s) (kf : b.free (postParts ++ [Part.reg RegGroup.stk, Part.stk])) :
    State.Framed q b (State.eventRelease s src) := by
  unfold State.eventRelease
  extract_lets +onlyGivenNames x; clear_value x
  with_reducible apply framed_foldl
  intro _ _ _
  split
  with_reducible refine framed_of_pair (by with_reducible assumption) ?_
  with_reducible apply State.releaseTask_framed
  with_reducible assumption
  exact kf.sub rfl
  with_reducible apply State.hold_framed
  with_reducible refine framed_of_pair (by with_reducible assumption) ?_
  with_reducible apply State.releaseTask_framed
  with_reducible assumption
  exact kf.sub rfl
  exact kf.sub rfl
  with_reducible assumption

theorem State.wakeOf_framed {s : State} {n : Fin 4096} (hs : State.Framed q b s) (kf : b.free (postParts ++ [Part.reg RegGroup.stk, Part.stk])) :
    State.Framed q b (State.wakeOf s n) := by
  unfold State.wakeOf
  with_reducible apply framed_ite
  split
  with_reducible refine framed_of_pair (by with_reducible assumption) ?_
  with_reducible apply State.releaseTask_framed
  with_reducible assumption
  exact kf.sub rfl
  with_reducible apply State.hold_framed
  with_reducible refine framed_of_pair (by with_reducible assumption) ?_
  with_reducible apply State.releaseTask_framed
  with_reducible assumption
  exact kf.sub rfl
  exact kf.sub rfl
  with_reducible assumption

theorem State.wakeNext_framed {s : State} {n : Fin 4096} (hs : State.Framed q b s) (kf : b.free (postParts ++ [Part.reg RegGroup.stk, Part.now, Part.stk])) :
    State.Framed q b (State.wakeNext s n) := by
  unfold State.wakeNext
  with_reducible apply framed_ite
  with_reducible apply State.wakeOf_framed
  with_reducible apply State.advance_framed
  with_reducible assumption
  exact kf.sub rfl
  exact kf.sub rfl
  with_reducible assumption

theorem execDelayListExpiry_framed {k : Fin 4} {s : State} (hs : State.Framed q b s) (kf : b.free [Part.reg RegGroup.stk, Part.now, Part.stk]) :
    answers (execDelayListExpiry k s) (State.Framed q b) := by
  unfold execDelayListExpiry
  extract_lets +onlyGivenNames x; clear_value x
  extract_lets +onlyGivenNames x; clear_value x
  split
  with_reducible apply answers_next
  with_reducible assumption
  extract_lets +onlyGivenNames x; refine (fun (hx : State.Framed q b x) => ?_) ?_ <;> [(try clear_value x); subst x]
  with_reducible apply answers_next
  with_reducible apply framed_foldl
  intro _ _ _
  split
  with_reducible refine framed_of_pair (by with_reducible assumption) ?_
  with_reducible apply State.releaseNow_framed
  with_reducible assumption
  exact kf.sub rfl
  with_reducible apply State.hold_framed
  with_reducible refine framed_of_pair (by with_reducible assumption) ?_
  with_reducible apply State.releaseNow_framed
  with_reducible assumption
  exact kf.sub rfl
  exact kf.sub rfl
  with_reducible assumption
  with_reducible apply State.advance_framed
  with_reducible assumption
  exact kf.sub rfl

theorem State.dropSlot_framed {s : State} {n : Fin 4096} (hs : State.Framed q b s) (kf : b.free [Part.tiles]) :
    State.Framed q b (State.dropSlot s n) := by
  unfold State.dropSlot
  with_reducible apply framed_foldl
  intro _ _ _
  extract_lets +onlyGivenNames x; clear_value x
  split
  with_reducible apply framed_ite
  with_reducible apply State.setTile_framed
  with_reducible assumption
  exact kf.sub rfl
  with_reducible assumption
  with_reducible assumption
  with_reducible assumption

theorem State.unhold_framed {s : State} {n : Fin 4096} (hs : State.Framed q b s) (kf : b.free [Part.stk]) :
    State.Framed q b (State.unhold s n) := by
  have k_stk : b.keep .stk = false := kf.get rfl
  unfold State.unhold
  extract_lets +onlyGivenNames x; clear_value x
  simp -zeta only [framed_mk, k_stk, or_true, true_or]
  with_reducible assumption

theorem State.stkCancel_framed {s : State} {who : Who} {n : Fin 4096} (hs : State.Framed q b s) (kf : b.free (postParts ++ [Part.reg RegGroup.stk, Part.now, Part.stk, Part.ic])) :
    State.Framed q b (State.stkCancel s who n) := by
  unfold State.stkCancel
  extract_lets +onlyGivenNames x; clear_value x
  extract_lets +onlyGivenNames x; clear_value x
  extract_lets +onlyGivenNames x; clear_value x
  extract_lets +onlyGivenNames x; refine (fun (hx : State.Framed q b x) => ?_) ?_ <;> [(try clear_value x); subst x]
  extract_lets +onlyGivenNames x; clear_value x
  with_reducible apply framed_ite
  with_reducible assumption
  with_reducible apply framed_ite
  with_reducible apply State.wakeNext_framed
  with_reducible apply State.toRest_framed
  with_reducible apply State.unhold_framed
  with_reducible assumption
  exact kf.sub rfl
  exact kf.sub rfl
  exact kf.sub rfl
  with_reducible apply framed_ite
  with_reducible apply State.wakeNext_framed
  with_reducible apply State.toRest_framed
  with_reducible apply State.queueDown_framed
  with_reducible assumption
  exact kf.sub rfl
  exact kf.sub rfl
  exact kf.sub rfl
  with_reducible apply framed_ite
  with_reducible apply State.setTask_framed
  with_reducible assumption
  exact kf.sub rfl
  with_reducible assumption
  with_reducible apply State.setTask_framed
  with_reducible assumption
  exact kf.sub rfl

theorem execStkCancel_framed {who : Who} {n : Fin 4096} {s : State} (hs : State.Framed q b s) (kf : b.free (postParts ++ [Part.reg RegGroup.stk, Part.now, Part.stk, Part.ic])) :
    answers (execStkCancel who n s) (State.Framed q b) := by
  unfold execStkCancel
  with_reducible apply answers_next
  with_reducible apply State.stkCancel_framed
  with_reducible assumption
  exact kf.sub rfl

theorem execSlotInvalidate_framed {n : Fin 4096} {s : State} (hs : State.Framed q b s) (kf : b.free (postParts ++ [Part.reg RegGroup.stk, Part.now, Part.tiles, Part.stk, Part.ic])) :
    answers (execSlotInvalidate n s) (State.Framed q b) := by
  unfold execSlotInvalidate
  with_reducible apply answers_ite
  with_reducible apply answers_next
  with_reducible apply State.wakeNext_framed
  with_reducible apply State.toRest_framed
  with_reducible apply State.dropSlot_framed
  with_reducible assumption
  exact kf.sub rfl
  exact kf.sub rfl
  exact kf.sub rfl
  with_reducible apply answers_next
  with_reducible assumption

theorem State.heldStoreOut_framed {s : State} {v : Word} {i : Fin 32} (hs : State.Framed q b s) (kf : b.free [Part.reg RegGroup.ic, Part.tiles, Part.ic]) :
    State.Framed q b (State.heldStoreOut s v i) := by
  unfold State.heldStoreOut
  extract_lets +onlyGivenNames x; clear_value x
  split
  with_reducible apply framed_ite
  with_reducible apply State.takeStore_framed
  with_reducible apply State.setTile_framed
  with_reducible assumption
  exact kf.sub rfl
  exact kf.sub rfl
  with_reducible assumption
  with_reducible assumption

theorem State.tryHeld_framed {s : State} {h : Held} (hs : State.Framed q b s) (kf :
    b.free (postParts ++ [Part.reg RegGroup.stk, Part.tiles, Part.stk, Part.ic])) :
  ∀ t, State.tryHeld s h = some t → State.Framed q b t := by
  have now : ∀ n t, (if s.taskState n ≠ 3 then some s else match s.releaseNow n with | (t, false) => some t | (_, true) => none) = some t →
      State.Framed q b t := by
    intro n t e
    by_cases c : s.taskState n ≠ 3
    · rw [if_pos c] at e; cases e; exact hs
    rw [if_neg c] at e
    have k := State.releaseNow_framed (n := n) hs (kf.sub rfl)
    split at e
    · rename_i e'; cases e; rw [e'] at k; exact k
    · cases e
  have task : ∀ n d t, (match s.releaseTask n d with | (t, false) => some t | (_, true) => none) = some t → State.Framed q b t := by
    intro n d t e
    have k := State.releaseTask_framed (n := n) (delay := d) hs (kf.sub rfl)
    split at e
    · rename_i e'; cases e; rw [e'] at k; exact k
    · cases e
  intro t e
  unfold State.tryHeld at e
  dsimp only at e
  split at e
  · exact task _ _ _ e
  · exact task _ _ _ e
  · rw [Option.map_eq_some_iff] at e
    obtain ⟨u, hu, rfl⟩ := e
    apply framed_foldl
    · intro s i hs
      exact State.heldStoreOut_framed hs (kf.sub rfl)
    · exact task _ _ _ hu
  · exact now _ _ e

theorem execHeldReleaseAccept_framed {s : State} (hs : State.Framed q b s) (kf :
    b.free (postParts ++ [Part.reg RegGroup.stk, Part.tiles, Part.stk, Part.ic])) :
  answers (execHeldReleaseAccept s) (State.Framed q b) := by
  unfold execHeldReleaseAccept
  split
  · exact hs
  · rename_i h _
    extract_lets src x
    have k1 : b.keep .stk = false := kf.get rfl
    have hx : State.Framed q b x := by
      dsimp only [x]
      simp only [framed_mk, k1, or_true, true_or]
      exact hs
    refine answers_next ?_
    cases e : x.tryHeld h with
    | none => exact hx
    | some t => exact State.tryHeld_framed hx (kf.sub rfl) _ e

theorem State.fillSlot_framed {s : State} {t_ : Fin 16} {n : Fin 4096} {waits : Bool} (hs : State.Framed q b s) (kf : b.free [Part.reg RegGroup.stk, Part.tiles, Part.stk]) :
    State.Framed q b (State.fillSlot s t_ n waits) := by
  have k_stk : b.keep .stk = false := kf.get rfl
  unfold State.fillSlot
  extract_lets +onlyGivenNames x; clear_value x
  extract_lets +onlyGivenNames x; clear_value x
  extract_lets +onlyGivenNames x; refine (fun (hx : State.Framed q b x) => ?_) ?_ <;> [(try clear_value x); subst x]
  with_reducible apply State.put_framed
  with_reducible apply framed_foldl
  intro _ _ _
  extract_lets +onlyGivenNames x; clear_value x
  with_reducible apply State.setTile_framed
  with_reducible assumption
  exact kf.sub rfl
  with_reducible assumption
  exact kf.get rfl
  simp -zeta only [framed_mk, k_stk, or_true, true_or]
  with_reducible assumption

theorem execSlotFill_framed {t_ : Fin 16} {s : State} (hs : State.Framed q b s) (kf : b.free [Part.reg RegGroup.stk, Part.tiles, Part.stk]) :
    answers (execSlotFill t_ s) (State.Framed q b) := by
  unfold execSlotFill
  with_reducible apply answers_ite
  with_reducible apply answers_next
  with_reducible assumption
  split
  with_reducible apply answers_next
  with_reducible apply State.fillSlot_framed
  with_reducible assumption
  exact kf.sub rfl
  split
  with_reducible apply answers_next
  with_reducible apply State.fillSlot_framed
  with_reducible apply State.queueDown_framed
  with_reducible assumption
  exact kf.sub rfl
  exact kf.sub rfl
  with_reducible apply answers_next
  with_reducible assumption

theorem execTaskReleaseStart_framed {t_ : Fin 16} {s : State} (hs : State.Framed q b s) (kf : b.free [Part.reg RegGroup.stk, Part.now, Part.tiles, Part.stk, Part.ic]) :
    answers (execTaskReleaseStart t_ s) (State.Framed q b) := by
  unfold execTaskReleaseStart
  extract_lets +onlyGivenNames x; clear_value x
  extract_lets +onlyGivenNames x; clear_value x
  extract_lets +onlyGivenNames x; refine (fun (hx : State.Framed q b x) => ?_) ?_ <;> [(try clear_value x); subst x]
  with_reducible apply answers_ite
  with_reducible apply answers_next
  with_reducible apply framed_foldl
  intro _ _ _
  with_reducible apply State.startSlot_framed
  with_reducible assumption
  exact kf.sub rfl
  with_reducible assumption
  with_reducible apply answers_next
  with_reducible assumption
  with_reducible apply framed_ite
  with_reducible apply State.advance_framed
  with_reducible assumption
  exact kf.sub rfl
  with_reducible assumption

theorem execBudgetStop_framed {t_ : Fin 16} {s : State} (hs : State.Framed q b s) (kf : b.free (postParts ++ [Part.reg RegGroup.stk, Part.tiles, Part.stk, Part.ic])) :
    answers (execBudgetStop t_ s) (State.Framed q b) := by
  unfold execBudgetStop
  extract_lets +onlyGivenNames x; clear_value x
  split
  with_reducible apply answers_next
  with_reducible assumption
  extract_lets +onlyGivenNames x; refine (fun (hx : State.Framed q b x) => ?_) ?_ <;> [(try clear_value x); subst x]
  with_reducible apply answers_ite
  with_reducible apply answers_next
  with_reducible apply State.wakeOf_framed
  with_reducible apply State.toRest_framed
  with_reducible apply State.taskRecord_framed
  with_reducible apply State.flag_framed
  with_reducible assumption
  exact kf.get rfl
  exact kf.sub rfl
  exact kf.sub rfl
  exact kf.sub rfl
  with_reducible apply answers_next
  with_reducible assumption
  with_reducible apply framed_foldl
  intro _ _ _
  extract_lets +onlyGivenNames x; subst x
  with_reducible apply framed_ite
  with_reducible apply State.endRun_framed
  with_reducible assumption
  exact kf.sub rfl
  with_reducible assumption
  with_reducible assumption

theorem execTaskDeadlineMiss_framed {n : Fin 4096} {s : State} (hs : State.Framed q b s) (kf : b.free (postParts ++ [Part.reg RegGroup.stk, Part.now, Part.stk])) :
    answers (execTaskDeadlineMiss n s) (State.Framed q b) := by
  unfold execTaskDeadlineMiss
  extract_lets +onlyGivenNames x; clear_value x
  extract_lets +onlyGivenNames x; clear_value x
  with_reducible apply answers_ite
  with_reducible apply answers_next
  with_reducible apply State.taskRecord_framed
  with_reducible apply State.miss_framed
  with_reducible apply State.setTask_framed
  with_reducible apply State.advance_framed
  with_reducible assumption
  exact kf.sub rfl
  exact kf.sub rfl
  exact kf.sub rfl
  exact kf.sub rfl
  with_reducible apply answers_next
  with_reducible assumption

theorem State.copyMem_framed {s : State} {src : Nat} {dst : Nat} {n : Nat} (hs : State.Framed q b s) (kf : b.free [Part.mem]) :
    State.Framed q b (State.copyMem s src dst n) := by
  unfold State.copyMem
  with_reducible apply State.mwrite_framed
  with_reducible assumption
  exact kf.sub rfl

theorem State.copyBoth_framed {s : State} {src : Fin 2 → Nat} {dst : Fin 2 → Nat} {n : Nat} (hs : State.Framed q b s) (kf : b.free [Part.mem]) :
    State.Framed q b (State.copyBoth s src dst n) := by
  unfold State.copyBoth
  extract_lets +onlyGivenNames x; clear_value x
  with_reducible apply framed_foldl
  intro _ _ _
  with_reducible apply State.mwrite_framed
  with_reducible assumption
  exact kf.sub rfl
  with_reducible assumption

theorem State.replicate_framed {s : State} {n : Fin 4096} (hs : State.Framed q b s) (kf : b.free [Part.mem]) :
    State.Framed q b (State.replicate s n) := by
  unfold State.replicate
  extract_lets +onlyGivenNames x; clear_value x
  with_reducible apply framed_foldl
  intro _ _ _
  with_reducible apply framed_foldl
  intro _ _ _
  with_reducible apply framed_ite
  with_reducible assumption
  with_reducible apply State.copyBoth_framed
  with_reducible assumption
  exact kf.sub rfl
  with_reducible assumption
  with_reducible assumption

theorem State.finishRun_framed {s : State} {n : Fin 4096} (hs : State.Framed q b s) (kf : b.free (postParts ++ [Part.reg RegGroup.stk, Part.mem, Part.stk, Part.ic])) :
    State.Framed q b (State.finishRun s n) := by
  unfold State.finishRun
  extract_lets +onlyGivenNames x; clear_value x
  extract_lets +onlyGivenNames x; refine (fun (hx : State.Framed q b x) => ?_) ?_ <;> [(try clear_value x); subst x]
  with_reducible apply framed_ite
  split
  with_reducible apply State.releaseOrDrop_framed
  with_reducible assumption
  exact kf.sub rfl
  with_reducible assumption
  with_reducible assumption
  with_reducible apply State.wakeOf_framed
  with_reducible apply State.toRest_framed
  with_reducible apply State.replicate_framed
  with_reducible assumption
  exact kf.sub rfl
  exact kf.sub rfl
  exact kf.sub rfl

theorem State.popEnd_framed {s : State} {i : Fin 32} (hs : State.Framed q b s) (kf : b.free [Part.tiles]) :
    State.Framed q b (State.popEnd s i) := by
  unfold State.popEnd
  extract_lets +onlyGivenNames x; clear_value x
  with_reducible apply State.setTile_framed
  with_reducible assumption
  exact kf.sub rfl

theorem execTaskEndReport_framed {t_ : Fin 16} {s : State} (hs : State.Framed q b s) (kf : b.free (postParts ++ [Part.reg RegGroup.stk, Part.mem, Part.tiles, Part.stk, Part.ic])) :
    answers (execTaskEndReport t_ s) (State.Framed q b) := by
  unfold execTaskEndReport
  with_reducible apply answers_next
  with_reducible apply framed_foldl
  intro _ _ _
  split
  extract_lets +onlyGivenNames x; refine (fun (hx : State.Framed q b x) => ?_) ?_ <;> [(try clear_value x); subst x]
  with_reducible apply framed_ite
  with_reducible apply State.finishRun_framed
  with_reducible assumption
  exact kf.sub rfl
  with_reducible assumption
  with_reducible apply State.setTask_framed
  with_reducible apply State.popEnd_framed
  with_reducible assumption
  exact kf.sub rfl
  exact kf.sub rfl
  with_reducible assumption
  with_reducible assumption

theorem State.judgeRun_framed {s : State} {t_ : Fin 16} (hs : State.Framed q b s) (kf : b.free [Part.pc]) :
    State.Framed q b (State.judgeRun s t_) := by
  have k_pc : b.keep .pc = false := kf.get rfl
  unfold State.judgeRun
  extract_lets +onlyGivenNames x; clear_value x
  extract_lets +onlyGivenNames x; clear_value x
  extract_lets +onlyGivenNames x; refine (fun (hx : State.Framed q b x) => ?_) ?_ <;> [(try clear_value x); subst x]
  with_reducible apply framed_ite
  with_reducible apply State.finding_framed
  with_reducible assumption
  exact kf.sub rfl
  with_reducible assumption
  simp -zeta only [framed_mk, k_pc, or_true, true_or]
  with_reducible assumption

theorem execUntimedRunEnd_framed {n : Fin 4096} {skew : Nat} {s : State} (hs : State.Framed q b s) (kf : b.free (postParts ++ [Part.reg RegGroup.stk, Part.mem, Part.stk, Part.pc, Part.ic])) :
    answers (execUntimedRunEnd n skew s) (State.Framed q b) := by
  unfold execUntimedRunEnd
  extract_lets +onlyGivenNames x; refine (fun (hx : State.Framed q b x) => ?_) ?_ <;> [(try clear_value x); subst x]
  with_reducible apply answers_ite
  with_reducible apply answers_next
  with_reducible apply State.finishRun_framed
  with_reducible apply State.judgeRun_framed
  with_reducible assumption
  exact kf.sub rfl
  exact kf.sub rfl
  with_reducible apply answers_next
  with_reducible assumption
  with_reducible apply framed_ite
  with_reducible apply State.finding_framed
  with_reducible apply State.flag_framed
  with_reducible assumption
  exact kf.get rfl
  exact kf.sub rfl
  with_reducible assumption

theorem execTaskCopyDone_framed {n : Fin 4096} {s : State} (hs : State.Framed q b s) (kf : b.free [Part.stk]) :
    answers (execTaskCopyDone n s) (State.Framed q b) := by
  unfold execTaskCopyDone
  extract_lets +onlyGivenNames x; clear_value x
  with_reducible apply answers_ite
  with_reducible apply answers_next
  with_reducible apply State.setTask_framed
  with_reducible assumption
  exact kf.sub rfl
  with_reducible apply answers_next
  with_reducible assumption

theorem execBufferCopyDone_framed {h : Fin 8192} {s : State} (hs : State.Framed q b s) (kf : b.free [Part.stk]) :
    answers (execBufferCopyDone h s) (State.Framed q b) := by
  unfold execBufferCopyDone
  extract_lets +onlyGivenNames x; clear_value x
  extract_lets +onlyGivenNames x; clear_value x
  with_reducible apply answers_ite
  with_reducible apply answers_next
  with_reducible assumption
  with_reducible apply answers_next
  with_reducible apply State.setBuf_framed
  with_reducible assumption
  exact kf.sub rfl

theorem State.showQueued_framed {s : State} (hs : State.Framed q b s) (kf : b.free [Part.reg RegGroup.stk, Part.tiles]) :
    State.Framed q b (State.showQueued s) := by
  unfold State.showQueued
  with_reducible apply framed_foldl
  intro _ _ _
  extract_lets +onlyGivenNames x; clear_value x
  extract_lets +onlyGivenNames x; refine (fun (hx : State.Framed q b x) => ?_) ?_ <;> [(try clear_value x); subst x]
  with_reducible apply framed_foldl
  intro _ _ _
  extract_lets +onlyGivenNames x; clear_value x
  with_reducible apply State.setTile_framed
  with_reducible assumption
  exact kf.sub rfl
  with_reducible assumption
  with_reducible apply State.put_framed
  with_reducible assumption
  exact kf.get rfl
  with_reducible assumption

theorem execTierMeasurement_framed {acc : List (Fin 8192 × Nat)} {s : State} (hs : State.Framed q b s) (kf : b.free [Part.reg RegGroup.stk, Part.now, Part.tiles, Part.stk]) :
    answers (execTierMeasurement acc s) (State.Framed q b) := by
  have k_stk : b.keep .stk = false := kf.get rfl
  unfold execTierMeasurement
  extract_lets +onlyGivenNames x; clear_value x
  extract_lets +onlyGivenNames x; refine (fun (hx : State.Framed q b x) => ?_) ?_ <;> [(try clear_value x); subst x]
  extract_lets +onlyGivenNames x; clear_value x
  extract_lets +onlyGivenNames x; refine (fun (hx : State.Framed q b x) => ?_) ?_ <;> [(try clear_value x); subst x]
  with_reducible apply answers_ite
  with_reducible apply answers_next
  with_reducible apply framed_foldl
  intro _ _ _
  extract_lets +onlyGivenNames x; clear_value x
  extract_lets +onlyGivenNames x; clear_value x
  with_reducible apply framed_ite
  with_reducible apply State.setBuf_framed
  with_reducible assumption
  exact kf.sub rfl
  with_reducible assumption
  with_reducible assumption
  with_reducible apply answers_next
  with_reducible assumption
  with_reducible apply State.showQueued_framed
  simp -zeta only [framed_mk, k_stk, or_true, true_or]
  with_reducible assumption
  exact kf.sub rfl
  with_reducible apply State.advance_framed
  with_reducible assumption
  exact kf.sub rfl

theorem execStkRebalance_framed {s : State} (hs : State.Framed q b s) (kf : b.free [Part.stk]) :
    answers (execStkRebalance s) (State.Framed q b) := by
  have k_stk : b.keep .stk = false := kf.get rfl
  unfold execStkRebalance
  extract_lets +onlyGivenNames x; clear_value x
  with_reducible apply answers_next
  simp -zeta only [framed_mk, k_stk, or_true, true_or]
  with_reducible assumption

theorem State.descCmd_framed {s : State} {n : Fin 4096} {op : Nat} {res : Nat} {f : State → State} (hs : State.Framed q b s) (hf : ∀ s, State.Framed q b s → State.Framed q b (f s)) (kf : b.free [Part.reg RegGroup.stk, Part.stk]) :
    State.Framed q b (State.descCmd s n op res f) := by
  have k_stk : b.keep .stk = false := kf.get rfl
  unfold State.descCmd
  extract_lets +onlyGivenNames x; refine (fun (hx : State.Framed q b x) => ?_) ?_ <;> [(try clear_value x); subst x]
  extract_lets +onlyGivenNames x; refine (fun (hx : State.Framed q b x) => ?_) ?_ <;> [(try clear_value x); subst x]
  extract_lets +onlyGivenNames x; clear_value x
  with_reducible apply framed_ite
  with_reducible apply State.flag_framed
  with_reducible assumption
  exact kf.get rfl
  with_reducible apply framed_ite
  with_reducible apply State.put_framed
  with_reducible assumption
  exact kf.get rfl
  simp -zeta only [framed_mk, k_stk, or_true, true_or]
  with_reducible assumption
  with_reducible apply State.put_framed
  with_reducible apply hf
  with_reducible apply State.put_framed
  with_reducible assumption
  exact kf.get rfl
  exact kf.get rfl
  with_reducible apply State.put_framed
  with_reducible assumption
  exact kf.get rfl

theorem execStkCreate_framed {n : Fin 4096} {s : State} (hs : State.Framed q b s) (kf : b.free [Part.reg RegGroup.stk, Part.stk]) :
    answers (execStkCreate n s) (State.Framed q b) := by
  unfold execStkCreate
  extract_lets +onlyGivenNames x; clear_value x
  with_reducible apply answers_next
  with_reducible apply State.descCmd_framed
  with_reducible assumption
  intro _ _
  with_reducible apply State.put_framed
  with_reducible apply State.setTask_framed
  with_reducible assumption
  exact kf.sub rfl
  exact kf.get rfl
  exact kf.sub rfl

theorem execStkDelete_framed {n : Fin 4096} {s : State} (hs : State.Framed q b s) (kf : b.free [Part.reg RegGroup.stk, Part.stk]) :
    answers (execStkDelete n s) (State.Framed q b) := by
  unfold execStkDelete
  with_reducible apply answers_next
  with_reducible apply State.descCmd_framed
  with_reducible assumption
  intro _ _
  with_reducible apply framed_id
  with_reducible assumption
  exact kf.sub rfl

theorem execStkReadDesc_framed {n : Fin 4096} {s : State} (hs : State.Framed q b s) (kf : b.free [Part.reg RegGroup.stk, Part.stk]) :
    answers (execStkReadDesc n s) (State.Framed q b) := by
  unfold execStkReadDesc
  with_reducible apply answers_next
  with_reducible apply State.descCmd_framed
  with_reducible assumption
  intro _ _
  with_reducible apply framed_id
  with_reducible assumption
  exact kf.sub rfl

theorem execStkEnable_framed {n : Fin 4096} {s : State} (hs : State.Framed q b s) (kf : b.free [Part.reg RegGroup.stk, Part.stk]) :
    answers (execStkEnable n s) (State.Framed q b) := by
  unfold execStkEnable
  with_reducible apply answers_next
  with_reducible apply State.descCmd_framed
  with_reducible assumption
  intro _ _
  with_reducible apply framed_id
  with_reducible assumption
  exact kf.sub rfl

theorem execStkDisable_framed {n : Fin 4096} {s : State} (hs : State.Framed q b s) (kf : b.free [Part.reg RegGroup.stk, Part.stk]) :
    answers (execStkDisable n s) (State.Framed q b) := by
  unfold execStkDisable
  with_reducible apply answers_next
  with_reducible apply State.descCmd_framed
  with_reducible assumption
  intro _ _
  with_reducible apply framed_id
  with_reducible assumption
  exact kf.sub rfl

theorem State.bufCmd_framed {s : State} {h : Fin 8192} {op : Nat} {res : Nat} (hs : State.Framed q b s) (kf : b.free [Part.reg RegGroup.stk, Part.stk]) :
    State.Framed q b (State.bufCmd s h op res) := by
  have k_stk : b.keep .stk = false := kf.get rfl
  unfold State.bufCmd
  extract_lets +onlyGivenNames x; refine (fun (hx : State.Framed q b x) => ?_) ?_ <;> [(try clear_value x); subst x]
  extract_lets +onlyGivenNames x; refine (fun (hx : State.Framed q b x) => ?_) ?_ <;> [(try clear_value x); subst x]
  extract_lets +onlyGivenNames x; clear_value x
  with_reducible apply framed_ite
  with_reducible apply State.flag_framed
  with_reducible assumption
  exact kf.get rfl
  with_reducible apply framed_ite
  with_reducible apply State.put_framed
  with_reducible assumption
  exact kf.get rfl
  simp -zeta only [framed_mk, k_stk, or_true, true_or]
  with_reducible assumption
  with_reducible apply State.put_framed
  with_reducible apply State.put_framed
  with_reducible assumption
  exact kf.get rfl
  exact kf.get rfl
  with_reducible apply State.put_framed
  with_reducible assumption
  exact kf.get rfl

theorem execBufCreate_framed {h : Fin 8192} {s : State} (hs : State.Framed q b s) (kf : b.free [Part.reg RegGroup.stk, Part.stk]) :
    answers (execBufCreate h s) (State.Framed q b) := by
  unfold execBufCreate
  extract_lets +onlyGivenNames x; clear_value x
  extract_lets +onlyGivenNames x; clear_value x
  extract_lets +onlyGivenNames x; refine (fun (hx : State.Framed q b x) => ?_) ?_ <;> [(try clear_value x); subst x]
  extract_lets +onlyGivenNames x; clear_value x
  with_reducible apply answers_next
  with_reducible apply framed_ite
  with_reducible apply State.setBuf_framed
  with_reducible assumption
  exact kf.sub rfl
  with_reducible assumption
  with_reducible apply State.bufCmd_framed
  with_reducible assumption
  exact kf.sub rfl

theorem execBufDelete_framed {h : Fin 8192} {s : State} (hs : State.Framed q b s) (kf : b.free [Part.reg RegGroup.stk, Part.stk]) :
    answers (execBufDelete h s) (State.Framed q b) := by
  unfold execBufDelete
  with_reducible apply answers_next
  with_reducible apply State.bufCmd_framed
  with_reducible assumption
  exact kf.sub rfl

theorem execBufRead_framed {h : Fin 8192} {s : State} (hs : State.Framed q b s) (kf : b.free [Part.reg RegGroup.stk, Part.stk]) :
    answers (execBufRead h s) (State.Framed q b) := by
  unfold execBufRead
  with_reducible apply answers_next
  with_reducible apply State.bufCmd_framed
  with_reducible assumption
  exact kf.sub rfl

theorem State.bufOpDone_framed {s : State} (hs : State.Framed q b s) (kf : b.free [Part.reg RegGroup.stk, Part.stk]) :
    State.Framed q b (State.bufOpDone s) := by
  have k_stk : b.keep .stk = false := kf.get rfl
  unfold State.bufOpDone
  split
  with_reducible assumption
  extract_lets +onlyGivenNames x; refine (fun (hx : State.Framed q b x) => ?_) ?_ <;> [(try clear_value x); subst x]
  extract_lets +onlyGivenNames x; refine (fun (hx : State.Framed q b x) => ?_) ?_ <;> [(try clear_value x); subst x]
  extract_lets +onlyGivenNames x; clear_value x
  simp -zeta only [framed_mk, k_stk, or_true, true_or]
  with_reducible assumption
  with_reducible apply State.put_framed
  with_reducible apply State.put_framed
  with_reducible assumption
  exact kf.get rfl
  exact kf.get rfl
  with_reducible apply framed_ite
  with_reducible apply State.setBuf_framed
  with_reducible assumption
  exact kf.sub rfl
  with_reducible apply framed_ite
  with_reducible apply framed_foldl
  intro _ _ _
  with_reducible apply State.wr_framed
  with_reducible assumption
  exact kf.get rfl
  with_reducible assumption
  with_reducible assumption

theorem State.descOpEnd_framed {s : State} {res : Nat} (hs : State.Framed q b s) (kf : b.free [Part.reg RegGroup.stk, Part.stk]) :
    State.Framed q b (State.descOpEnd s res) := by
  have k_stk : b.keep .stk = false := kf.get rfl
  unfold State.descOpEnd
  extract_lets +onlyGivenNames x; refine (fun (hx : State.Framed q b x) => ?_) ?_ <;> [(try clear_value x); subst x]
  extract_lets +onlyGivenNames x; clear_value x
  simp -zeta only [framed_mk, k_stk, or_true, true_or]
  with_reducible assumption
  with_reducible apply State.put_framed
  with_reducible apply State.put_framed
  with_reducible assumption
  exact kf.get rfl
  exact kf.get rfl

theorem State.disableTask_framed {s : State} {n : Fin 4096} (hs : State.Framed q b s) (kf : b.free [Part.reg RegGroup.stk, Part.tiles, Part.stk]) :
    State.Framed q b (State.disableTask s n) := by
  unfold State.disableTask
  extract_lets +onlyGivenNames x; clear_value x
  extract_lets +onlyGivenNames x; clear_value x
  extract_lets +onlyGivenNames x; refine (fun (hx : State.Framed q b x) => ?_) ?_ <;> [(try clear_value x); subst x]
  extract_lets +onlyGivenNames x; refine (fun (hx : State.Framed q b x) => ?_) ?_ <;> [(try clear_value x); subst x]
  extract_lets +onlyGivenNames x; clear_value x
  extract_lets +onlyGivenNames x; refine (fun (hx : State.Framed q b x) => ?_) ?_ <;> [(try clear_value x); subst x]
  with_reducible apply framed_ite
  with_reducible apply State.setTask_framed
  with_reducible assumption
  exact kf.sub rfl
  with_reducible apply State.put_framed
  with_reducible apply State.put_framed
  with_reducible assumption
  exact kf.get rfl
  exact kf.get rfl
  with_reducible apply State.setTask_framed
  with_reducible assumption
  exact kf.sub rfl
  with_reducible apply State.unhold_framed
  with_reducible apply State.dropSlot_framed
  with_reducible apply framed_ite
  with_reducible apply State.placeChanged_framed
  with_reducible assumption
  exact kf.sub rfl
  with_reducible assumption
  exact kf.sub rfl
  exact kf.sub rfl
  with_reducible apply framed_ite
  with_reducible apply State.queueDown_framed
  with_reducible assumption
  exact kf.sub rfl
  with_reducible assumption

theorem State.descOpDone_framed {s : State} (hs : State.Framed q b s) (kf : b.free [Part.reg RegGroup.stk, Part.tiles, Part.stk]) :
    State.Framed q b (State.descOpDone s) := by
  unfold State.descOpDone
  split
  with_reducible assumption
  with_reducible apply framed_ite
  with_reducible apply State.descOpEnd_framed
  with_reducible assumption
  exact kf.sub rfl
  with_reducible apply framed_ite
  with_reducible apply State.descOpEnd_framed
  with_reducible apply State.wr_framed
  with_reducible apply State.setTask_framed
  with_reducible assumption
  exact kf.sub rfl
  exact kf.get rfl
  exact kf.sub rfl
  with_reducible apply framed_ite
  with_reducible apply State.descOpEnd_framed
  with_reducible apply framed_foldl
  intro _ _ _
  with_reducible apply State.wr_framed
  with_reducible assumption
  exact kf.get rfl
  with_reducible assumption
  exact kf.sub rfl
  with_reducible apply framed_ite
  with_reducible apply State.descOpEnd_framed
  with_reducible apply State.disableTask_framed
  with_reducible assumption
  exact kf.sub rfl
  exact kf.sub rfl
  with_reducible apply framed_ite
  with_reducible apply State.descOpEnd_framed
  with_reducible apply State.put_framed
  with_reducible apply State.put_framed
  with_reducible assumption
  exact kf.get rfl
  exact kf.get rfl
  exact kf.sub rfl
  with_reducible assumption

theorem State.imageTo_framed {s : State} {n : Fin 4096} {t_ : Fin 16} (hs : State.Framed q b s) (kf : b.free [Part.mem, Part.tiles]) :
    State.Framed q b (State.imageTo s n t_) := by
  unfold State.imageTo
  extract_lets +onlyGivenNames x; clear_value x
  extract_lets +onlyGivenNames x; clear_value x
  with_reducible apply framed_foldl
  intro _ _ _
  extract_lets +onlyGivenNames x; clear_value x
  extract_lets +onlyGivenNames x; clear_value x
  with_reducible apply State.setTile_framed
  with_reducible apply State.mwrite_framed
  with_reducible assumption
  exact kf.sub rfl
  exact kf.sub rfl
  with_reducible assumption

theorem State.replicasTo_framed {s : State} {n : Fin 4096} {t_ : Fin 16} (hs : State.Framed q b s) (kf : b.free [Part.mem]) :
    State.Framed q b (State.replicasTo s n t_) := by
  unfold State.replicasTo
  with_reducible apply framed_foldl
  intro _ _ _
  extract_lets +onlyGivenNames x; clear_value x
  extract_lets +onlyGivenNames x; clear_value x
  split
  with_reducible assumption
  with_reducible apply framed_ite
  with_reducible assumption
  with_reducible apply State.copyBoth_framed
  with_reducible assumption
  exact kf.sub rfl
  with_reducible assumption

theorem State.placeTask_framed {s : State} {n : Fin 4096} {t_ : Fin 16} {k : Nat} (hs : State.Framed q b s) (kf : b.free [Part.reg RegGroup.ld, Part.reg RegGroup.stk, Part.mem, Part.loops, Part.tiles, Part.stk]) :
    State.Framed q b (State.placeTask s n t_ k) := by
  unfold State.placeTask
  extract_lets +onlyGivenNames x; clear_value x
  extract_lets +onlyGivenNames x; refine (fun (hx : State.Framed q b x) => ?_) ?_ <;> [(try clear_value x); subst x]
  extract_lets +onlyGivenNames x; refine (fun (hx : State.Framed q b x) => ?_) ?_ <;> [(try clear_value x); subst x]
  extract_lets +onlyGivenNames x; clear_value x
  extract_lets +onlyGivenNames x; refine (fun (hx : State.Framed q b x) => ?_) ?_ <;> [(try clear_value x); subst x]
  extract_lets +onlyGivenNames x; clear_value x
  extract_lets +onlyGivenNames x; clear_value x
  extract_lets +onlyGivenNames x; refine (fun (hx : State.Framed q b x) => ?_) ?_ <;> [(try clear_value x); subst x]
  with_reducible apply framed_ite
  with_reducible apply State.banksToTile_framed
  with_reducible apply State.put_framed
  with_reducible assumption
  exact kf.get rfl
  exact kf.sub rfl
  with_reducible assumption
  with_reducible apply State.setLoop_framed
  with_reducible assumption
  exact kf.sub rfl
  with_reducible apply State.imageTo_framed
  with_reducible apply State.setTask_framed
  with_reducible assumption
  exact kf.sub rfl
  exact kf.sub rfl
  with_reducible apply State.put_framed
  with_reducible apply State.put_framed
  with_reducible apply State.put_framed
  with_reducible apply State.put_framed
  with_reducible assumption
  exact kf.get rfl
  exact kf.get rfl
  exact kf.get rfl
  exact kf.get rfl
  with_reducible apply State.replicasTo_framed
  with_reducible assumption
  exact kf.sub rfl

theorem State.placeFail_framed {s : State} {n : Fin 4096} (hs : State.Framed q b s) (kf : b.free [Part.reg RegGroup.ld, Part.reg RegGroup.stk, Part.stk]) :
    State.Framed q b (State.placeFail s n) := by
  unfold State.placeFail
  extract_lets +onlyGivenNames x; clear_value x
  extract_lets +onlyGivenNames x; refine (fun (hx : State.Framed q b x) => ?_) ?_ <;> [(try clear_value x); subst x]
  extract_lets +onlyGivenNames x; clear_value x
  extract_lets +onlyGivenNames x; refine (fun (hx : State.Framed q b x) => ?_) ?_ <;> [(try clear_value x); subst x]
  with_reducible apply framed_ite
  with_reducible apply State.flag_framed
  with_reducible apply State.put_framed
  with_reducible assumption
  exact kf.get rfl
  exact kf.get rfl
  split
  with_reducible apply framed_ite
  with_reducible apply State.descOpEnd_framed
  with_reducible assumption
  exact kf.sub rfl
  with_reducible assumption
  with_reducible assumption
  with_reducible apply State.setTask_framed
  with_reducible assumption
  exact kf.sub rfl
  with_reducible apply State.put_framed
  with_reducible apply State.put_framed
  with_reducible apply State.flag_framed
  with_reducible assumption
  exact kf.get rfl
  exact kf.get rfl
  exact kf.get rfl

theorem State.retire_framed {s : State} (hs : State.Framed q b s) (kf : b.free [Part.reg RegGroup.stk, Part.tiles, Part.stk]) :
    State.Framed q b (State.retire s) := by
  unfold State.retire
  extract_lets +onlyGivenNames x; clear_value x
  with_reducible apply framed_foldl
  intro _ _ _
  extract_lets +onlyGivenNames x; clear_value x
  extract_lets +onlyGivenNames x; clear_value x
  extract_lets +onlyGivenNames x; refine (fun (hx : State.Framed q b x) => ?_) ?_ <;> [(try clear_value x); subst x]
  extract_lets +onlyGivenNames x; refine (fun (hx : State.Framed q b x) => ?_) ?_ <;> [(try clear_value x); subst x]
  with_reducible apply framed_ite
  with_reducible apply State.setTask_framed
  with_reducible assumption
  exact kf.sub rfl
  with_reducible apply State.setTask_framed
  with_reducible apply State.wr_framed
  with_reducible apply State.unhold_framed
  with_reducible apply State.dropSlot_framed
  with_reducible assumption
  exact kf.sub rfl
  exact kf.sub rfl
  exact kf.get rfl
  exact kf.sub rfl
  with_reducible apply framed_ite
  with_reducible apply State.placeChanged_framed
  with_reducible assumption
  exact kf.sub rfl
  with_reducible assumption
  with_reducible apply framed_ite
  with_reducible apply State.queueDown_framed
  with_reducible assumption
  exact kf.sub rfl
  with_reducible assumption
  with_reducible assumption

theorem State.switchMoves_framed {s : State} (hs : State.Framed q b s) (kf : b.free [Part.reg RegGroup.stk, Part.mem, Part.loops, Part.tiles, Part.stk]) :
    State.Framed q b (State.switchMoves s) := by
  unfold State.switchMoves
  with_reducible apply framed_foldl
  intro _ _ _
  extract_lets +onlyGivenNames x; clear_value x
  extract_lets +onlyGivenNames x; clear_value x
  extract_lets +onlyGivenNames x; clear_value x
  extract_lets +onlyGivenNames x; clear_value x
  extract_lets +onlyGivenNames x; clear_value x
  extract_lets +onlyGivenNames x; clear_value x
  split
  extract_lets +onlyGivenNames x; refine (fun (hx : State.Framed q b x) => ?_) ?_ <;> [(try clear_value x); subst x]
  extract_lets +onlyGivenNames x; refine (fun (hx : State.Framed q b x) => ?_) ?_ <;> [(try clear_value x); subst x]
  extract_lets +onlyGivenNames x; clear_value x
  extract_lets +onlyGivenNames x; refine (fun (hx : State.Framed q b x) => ?_) ?_ <;> [(try clear_value x); subst x]
  extract_lets +onlyGivenNames x; clear_value x
  with_reducible apply framed_ite
  with_reducible apply State.setTask_framed
  with_reducible assumption
  exact kf.sub rfl
  with_reducible apply framed_ite
  with_reducible apply State.setLoop_framed
  with_reducible assumption
  exact kf.sub rfl
  with_reducible assumption
  with_reducible apply State.imageTo_framed
  with_reducible apply State.setTask_framed
  with_reducible apply State.put_framed
  with_reducible assumption
  exact kf.get rfl
  exact kf.sub rfl
  exact kf.sub rfl
  with_reducible apply framed_foldl
  intro _ _ _
  with_reducible apply State.copyBoth_framed
  with_reducible assumption
  exact kf.sub rfl
  with_reducible assumption
  with_reducible apply framed_foldl
  intro _ _ _
  with_reducible apply framed_foldl
  intro _ _ _
  with_reducible apply State.copyMem_framed
  with_reducible assumption
  exact kf.sub rfl
  with_reducible assumption
  with_reducible assumption
  with_reducible assumption
  with_reducible assumption

theorem State.reslot_framed {s : State} {h : Fin 8192} (hs : State.Framed q b s) (kf : b.free [Part.tiles]) :
    State.Framed q b (State.reslot s h) := by
  unfold State.reslot
  with_reducible apply framed_foldl
  intro _ _ _
  extract_lets +onlyGivenNames x; clear_value x
  split
  with_reducible apply framed_ite
  with_reducible apply State.setTile_framed
  with_reducible assumption
  exact kf.sub rfl
  with_reducible assumption
  with_reducible assumption
  with_reducible assumption

theorem State.switchBufs_framed {s : State} (hs : State.Framed q b s) (kf : b.free [Part.mem, Part.tiles, Part.stk]) :
    State.Framed q b (State.switchBufs s) := by
  unfold State.switchBufs
  with_reducible apply framed_foldl
  intro _ _ _
  extract_lets +onlyGivenNames x; clear_value x
  extract_lets +onlyGivenNames x; clear_value x
  extract_lets +onlyGivenNames x; clear_value x
  split
  extract_lets +onlyGivenNames x; refine (fun (hx : State.Framed q b x) => ?_) ?_ <;> [(try clear_value x); subst x]
  with_reducible apply framed_ite
  with_reducible assumption
  with_reducible apply State.reslot_framed
  with_reducible apply State.setBuf_framed
  with_reducible assumption
  exact kf.sub rfl
  exact kf.sub rfl
  with_reducible apply framed_foldl
  intro _ _ _
  with_reducible apply State.copyBoth_framed
  with_reducible assumption
  exact kf.sub rfl
  with_reducible assumption
  with_reducible assumption
  with_reducible assumption

theorem State.bumpGen_framed {s : State} (hs : State.Framed q b s) (kf : b.free [Part.reg RegGroup.stk]) :
    State.Framed q b (State.bumpGen s) := by
  unfold State.bumpGen
  with_reducible apply State.put_framed
  with_reducible assumption
  exact kf.get rfl

theorem State.rebalance_framed {s : State} (hs : State.Framed q b s) (kf : b.free [Part.reg RegGroup.stk, Part.fresh, Part.stk]) :
    State.Framed q b (State.rebalance s) := by
  have k_stk : b.keep .stk = false := kf.get rfl
  unfold State.rebalance
  extract_lets +onlyGivenNames x; clear_value x
  extract_lets +onlyGivenNames x; refine (fun (hx : State.Framed q b x) => ?_) ?_ <;> [(try clear_value x); subst x]
  extract_lets +onlyGivenNames x; refine (fun (hx : State.Framed q b x) => ?_) ?_ <;> [(try clear_value x); subst x]
  extract_lets +onlyGivenNames x; clear_value x
  with_reducible apply framed_ite
  split
  with_reducible apply State.flag_framed
  with_reducible assumption
  exact kf.get rfl
  extract_lets +onlyGivenNames x; clear_value x
  extract_lets +onlyGivenNames x; refine (fun (hx : State.Framed q b x) => ?_) ?_ <;> [(try clear_value x); subst x]
  with_reducible apply framed_ite
  with_reducible assumption
  with_reducible apply State.bumpGen_framed
  with_reducible assumption
  exact kf.sub rfl
  simp -zeta only [framed_mk, k_stk, or_true, true_or]
  with_reducible assumption
  with_reducible assumption
  with_reducible apply State.useFresh_framed
  with_reducible assumption
  exact kf.sub rfl
  simp -zeta only [framed_mk, k_stk, or_true, true_or]
  with_reducible assumption

theorem State.startMoves_framed {s : State} (hs : State.Framed q b s) (kf : b.free [Part.stk]) : State.Framed q b (State.startMoves s) := by
  have k_stk : b.keep .stk = false := kf.get rfl
  unfold State.startMoves
  extract_lets +onlyGivenNames x; clear_value x
  extract_lets +onlyGivenNames x; refine (fun (hx : State.Framed q b x) => ?_) ?_ <;> [(try clear_value x); subst x]
  extract_lets +onlyGivenNames x; clear_value x
  with_reducible apply framed_ite
  with_reducible assumption
  simp -zeta only [framed_mk, k_stk, or_true, true_or]
  with_reducible assumption
  with_reducible apply framed_foldl
  intro _ _ _
  extract_lets +onlyGivenNames x; clear_value x
  with_reducible apply State.setTask_framed
  with_reducible assumption
  exact kf.sub rfl
  with_reducible assumption

theorem State.closeEnable_framed {s : State} {n : Fin 4096} (hs : State.Framed q b s) (kf : b.free (postParts ++ [Part.reg RegGroup.stk, Part.stk])) :
    State.Framed q b (State.closeEnable s n) := by
  unfold State.closeEnable
  split
  with_reducible apply framed_ite
  with_reducible apply State.wakeOf_framed
  with_reducible apply State.descOpEnd_framed
  with_reducible assumption
  exact kf.sub rfl
  exact kf.sub rfl
  with_reducible assumption
  with_reducible assumption

theorem State.failOrWait_framed {s : State} {bad : List (Fin 4096)} (hs : State.Framed q b s) (kf : b.free [Part.reg RegGroup.ld, Part.reg RegGroup.stk, Part.stk]) :
    State.Framed q b (State.failOrWait s bad) := by
  unfold State.failOrWait
  extract_lets +onlyGivenNames x; clear_value x
  extract_lets +onlyGivenNames x; clear_value x
  extract_lets +onlyGivenNames x; refine (fun (hx : State.Framed q b x) => ?_) ?_ <;> [(try clear_value x); subst x]
  with_reducible apply framed_foldl
  intro _ _ _
  with_reducible apply State.placeFail_framed
  with_reducible assumption
  exact kf.sub rfl
  with_reducible assumption
  with_reducible apply framed_ite
  with_reducible apply framed_foldl
  intro _ _ _
  extract_lets +onlyGivenNames x; subst x
  with_reducible apply framed_ite
  with_reducible assumption
  with_reducible apply State.setBuf_framed
  with_reducible assumption
  exact kf.sub rfl
  with_reducible assumption
  with_reducible assumption

theorem State.placeNew_framed {s : State} {k : Nat} (hs : State.Framed q b s) (kf : b.free (postParts ++ [Part.reg RegGroup.ld, Part.reg RegGroup.stk, Part.mem, Part.loops, Part.tiles, Part.stk])) :
    State.Framed q b (State.placeNew s k) := by
  unfold State.placeNew
  extract_lets +onlyGivenNames x; clear_value x
  extract_lets +onlyGivenNames x; clear_value x
  extract_lets +onlyGivenNames x; clear_value x
  extract_lets +onlyGivenNames x; refine (fun (hx : State.Framed q b x) => ?_) ?_ <;> [(try clear_value x); subst x]
  extract_lets +onlyGivenNames x; clear_value x
  simp -zeta only
  extract_lets +onlyGivenNames x; refine (fun (hx4 : ∀ y z, State.Framed q b y → State.Framed q b (x y z)) => ?_) ?_ <;> [(try clear_value x); subst x]
  extract_lets +onlyGivenNames x; refine (fun (hx : State.Framed q b x) => ?_) ?_ <;> [(try clear_value x); subst x]
  extract_lets +onlyGivenNames x; refine (fun (hx : State.Framed q b x) => ?_) ?_ <;> [(try clear_value x); subst x]
  extract_lets +onlyGivenNames x; clear_value x
  extract_lets +onlyGivenNames x; clear_value x
  extract_lets +onlyGivenNames x; refine (fun (hx : State.Framed q b x) => ?_) ?_ <;> [(try clear_value x); subst x]
  split
  with_reducible assumption
  split
  with_reducible assumption
  with_reducible apply framed_ite
  with_reducible apply State.placeChanged_framed
  with_reducible apply State.bumpGen_framed
  with_reducible apply framed_foldl
  intro _ _ _
  extract_lets +onlyGivenNames x; clear_value x
  with_reducible apply framed_ite
  with_reducible apply State.setTask_framed
  with_reducible assumption
  exact kf.sub rfl
  with_reducible assumption
  with_reducible assumption
  exact kf.sub rfl
  exact kf.sub rfl
  with_reducible apply State.failOrWait_framed
  with_reducible assumption
  exact kf.sub rfl
  with_reducible apply framed_ite
  with_reducible apply State.flag_framed
  with_reducible assumption
  exact kf.get rfl
  with_reducible assumption
  with_reducible apply framed_ite
  with_reducible apply State.flag_framed
  with_reducible assumption
  exact kf.get rfl
  with_reducible assumption
  with_reducible apply framed_ite
  with_reducible assumption
  with_reducible apply State.placeChanged_framed
  with_reducible apply State.bumpGen_framed
  with_reducible apply hx4
  with_reducible assumption
  exact kf.sub rfl
  exact kf.sub rfl
  intro _ _ _
  simp -zeta only
  with_reducible apply framed_foldl
  intro _ _ _
  with_reducible apply framed_ite
  with_reducible apply State.closeEnable_framed
  with_reducible apply State.placeTask_framed
  with_reducible assumption
  exact kf.sub rfl
  exact kf.sub rfl
  with_reducible assumption
  with_reducible assumption
  with_reducible apply framed_ite
  with_reducible assumption
  with_reducible apply framed_foldl
  intro _ _ _
  split
  with_reducible apply State.closeEnable_framed
  with_reducible apply State.placeTask_framed
  with_reducible assumption
  exact kf.sub rfl
  exact kf.sub rfl
  with_reducible assumption
  with_reducible assumption

theorem State.bistTasks_framed {s : State} (hs : State.Framed q b s) (kf : b.free [Part.reg RegGroup.stk, Part.mem, Part.tiles]) :
    State.Framed q b (State.bistTasks s) := by
  unfold State.bistTasks
  with_reducible apply framed_ite
  with_reducible apply framed_foldl
  intro _ _ _
  extract_lets +onlyGivenNames x; clear_value x
  with_reducible apply framed_ite
  with_reducible apply State.imageTo_framed
  with_reducible apply State.put_framed
  with_reducible apply State.put_framed
  with_reducible apply State.put_framed
  with_reducible apply State.put_framed
  with_reducible assumption
  exact kf.get rfl
  exact kf.get rfl
  exact kf.get rfl
  exact kf.get rfl
  exact kf.sub rfl
  with_reducible assumption
  with_reducible assumption
  with_reducible assumption

theorem State.tableOverruns_framed {s : State} {k : Nat} (hs : State.Framed q b s) (kf : b.free (postParts ++ [Part.reg RegGroup.stk, Part.stk])) :
    State.Framed q b (State.tableOverruns s k) := by
  unfold State.tableOverruns
  extract_lets +onlyGivenNames x; clear_value x
  with_reducible apply framed_foldl
  intro _ _ _
  with_reducible apply framed_foldl
  intro _ _ _
  extract_lets +onlyGivenNames x; clear_value x
  with_reducible apply framed_ite
  with_reducible apply State.setTask_framed
  with_reducible apply State.overrun_framed
  with_reducible assumption
  exact kf.sub rfl
  exact kf.sub rfl
  with_reducible assumption
  with_reducible assumption
  with_reducible assumption

theorem State.periodicReleases_framed {s : State} {k : Nat} (hs : State.Framed q b s) (kf : b.free (postParts ++ [Part.reg RegGroup.stk, Part.stk])) :
    State.Framed q b (State.periodicReleases s k) := by
  unfold State.periodicReleases
  extract_lets +onlyGivenNames x; clear_value x
  extract_lets +onlyGivenNames x; clear_value x
  with_reducible apply framed_foldl
  intro _ _ _
  with_reducible apply State.releaseOrDrop_framed
  with_reducible assumption
  exact kf.sub rfl
  with_reducible assumption

theorem State.stackEdge_framed {s : State} {k : Nat} (hs : State.Framed q b s) (kf : b.free (postParts ++ [Part.reg RegGroup.ld, Part.reg RegGroup.stk, Part.mem, Part.fresh, Part.loops, Part.tiles, Part.stk, Part.ic])) :
    State.Framed q b (State.stackEdge s k) := by
  have k_stk : b.keep .stk = false := kf.get rfl
  unfold State.stackEdge
  extract_lets +onlyGivenNames x; clear_value x
  extract_lets +onlyGivenNames x; refine (fun (hx : State.Framed q b x) => ?_) ?_ <;> [(try clear_value x); subst x]
  extract_lets +onlyGivenNames x; refine (fun (hx : State.Framed q b x) => ?_) ?_ <;> [(try clear_value x); subst x]
  extract_lets +onlyGivenNames x; refine (fun (hx : State.Framed q b x) => ?_) ?_ <;> [(try clear_value x); subst x]
  extract_lets +onlyGivenNames x; clear_value x
  extract_lets +onlyGivenNames x; refine (fun (hx : State.Framed q b x) => ?_) ?_ <;> [(try clear_value x); subst x]
  with_reducible apply State.icTimers_framed
  with_reducible apply State.periodicReleases_framed
  with_reducible apply State.tableOverruns_framed
  with_reducible apply State.showTiles_framed
  with_reducible assumption
  exact kf.sub rfl
  exact kf.sub rfl
  exact kf.sub rfl
  exact kf.sub rfl
  simp -zeta only [framed_mk, k_stk, or_true, true_or]
  with_reducible assumption
  with_reducible apply State.startMoves_framed
  with_reducible apply State.rebalance_framed
  with_reducible apply State.placeNew_framed
  with_reducible assumption
  exact kf.sub rfl
  exact kf.sub rfl
  exact kf.sub rfl
  with_reducible apply State.bistTasks_framed
  with_reducible apply State.retire_framed
  with_reducible apply State.descOpDone_framed
  with_reducible apply State.bufOpDone_framed
  with_reducible apply State.switchBufs_framed
  with_reducible apply State.switchMoves_framed
  with_reducible assumption
  exact kf.sub rfl
  exact kf.sub rfl
  exact kf.sub rfl
  exact kf.sub rfl
  exact kf.sub rfl
  exact kf.sub rfl
  simp -zeta only [framed_mk, k_stk, or_true, true_or]
  with_reducible assumption

theorem State.stackRestart_framed {s : State} (hs : State.Framed q b s) (kf : b.free [Part.stk]) : State.Framed q b (State.stackRestart s) := by
  have k_stk : b.keep .stk = false := kf.get rfl
  unfold State.stackRestart
  extract_lets +onlyGivenNames x; clear_value x
  simp -zeta only [framed_mk, k_stk, or_true, true_or]
  with_reducible assumption

theorem State.showSlew_framed {s : State} (hs : State.Framed q b s) (kf : b.free [Part.reg RegGroup.tb]) :
    State.Framed q b (State.showSlew s) := by
  unfold State.showSlew
  with_reducible apply State.putB_framed
  with_reducible assumption
  exact kf.get rfl

theorem State.requestRate_framed {s : State} {x : Int} (hs : State.Framed q b s) (kf : b.free [Part.reg RegGroup.tb, Part.time]) :
    State.Framed q b (State.requestRate s x) := by
  have k_time : b.keep .time = false := kf.get rfl
  unfold State.requestRate
  extract_lets +onlyGivenNames x; clear_value x
  extract_lets +onlyGivenNames x; refine (fun (hx : State.Framed q b x) => ?_) ?_ <;> [(try clear_value x); subst x]
  extract_lets +onlyGivenNames x; clear_value x
  with_reducible apply State.showSlew_framed
  simp -zeta only [framed_mk, k_time, or_true, true_or]
  with_reducible assumption
  exact kf.sub rfl
  with_reducible apply framed_ite
  with_reducible assumption
  with_reducible apply State.flag_framed
  with_reducible assumption
  exact kf.get rfl

theorem State.slewTo_framed {s : State} {x : Int} (hs : State.Framed q b s) (kf : b.free [Part.reg RegGroup.tb]) :
    State.Framed q b (State.slewTo s x) := by
  unfold State.slewTo
  extract_lets +onlyGivenNames x; clear_value x
  with_reducible apply State.wr_framed
  with_reducible assumption
  exact kf.get rfl

theorem State.rateStep_framed {s : State} (hs : State.Framed q b s) (kf : b.free [Part.reg RegGroup.tb, Part.fresh, Part.time]) :
    State.Framed q b (State.rateStep s) := by
  have k_time : b.keep .time = false := kf.get rfl
  unfold State.rateStep
  extract_lets +onlyGivenNames x; refine (fun (hx : State.Framed q b x) => ?_) ?_ <;> [(try clear_value x); subst x]
  extract_lets +onlyGivenNames x; clear_value x
  extract_lets +onlyGivenNames x; clear_value x
  with_reducible apply framed_ite
  with_reducible apply State.showSlew_framed
  with_reducible assumption
  exact kf.sub rfl
  with_reducible apply framed_ite
  with_reducible apply State.showSlew_framed
  simp -zeta only [framed_mk, k_time, or_true, true_or]
  with_reducible assumption
  exact kf.sub rfl
  with_reducible apply State.showSlew_framed
  with_reducible apply State.slewTo_framed
  with_reducible assumption
  exact kf.sub rfl
  exact kf.sub rfl
  with_reducible apply State.useFresh_framed
  with_reducible apply State.slewTo_framed
  with_reducible assumption
  exact kf.sub rfl
  exact kf.sub rfl

theorem State.stepKnown_framed {s : State} {x : Int} {at_ : Time} {next : Nat} (hs : State.Framed q b s) (kf : b.free [Part.time]) :
    State.Framed q b (State.stepKnown s x at_ next) := by
  have k_time : b.keep .time = false := kf.get rfl
  unfold State.stepKnown
  extract_lets +onlyGivenNames x; clear_value x
  extract_lets +onlyGivenNames x; clear_value x
  simp -zeta only [framed_mk, k_time, or_true, true_or]
  with_reducible assumption

theorem State.stopPulse_framed {s : State} {n : Fin 8} (hs : State.Framed q b s) (kf : b.free [Part.reg RegGroup.tpo, Part.pulses]) :
    State.Framed q b (State.stopPulse s n) := by
  have k_pulses : b.keep .pulses = false := kf.get rfl
  unfold State.stopPulse
  split
  with_reducible assumption
  with_reducible apply State.flag_framed
  with_reducible apply State.put_framed
  simp -zeta only [framed_mk, k_pulses, or_true, true_or]
  with_reducible assumption
  exact kf.get rfl
  exact kf.get rfl

theorem execTimeStep_framed {s : State} (hs : State.Framed q b s) (kf : b.free (postParts ++ [Part.reg RegGroup.tb, Part.reg RegGroup.tpo, Part.now, Part.time, Part.pulses])) :
    answers (execTimeStep s) (State.Framed q b) := by
  have k_time : b.keep .time = false := kf.get rfl
  unfold execTimeStep
  split
  with_reducible apply answers_next
  with_reducible assumption
  extract_lets +onlyGivenNames x; refine (fun (hx : State.Framed q b x) => ?_) ?_ <;> [(try clear_value x); subst x]
  extract_lets +onlyGivenNames x; clear_value x
  extract_lets +onlyGivenNames x; refine (fun (hx : State.Framed q b x) => ?_) ?_ <;> [(try clear_value x); subst x]
  extract_lets +onlyGivenNames x; refine (fun (hx : State.Framed q b x) => ?_) ?_ <;> [(try clear_value x); subst x]
  extract_lets +onlyGivenNames x; refine (fun (hx : State.Framed q b x) => ?_) ?_ <;> [(try clear_value x); subst x]
  with_reducible apply answers_ite
  with_reducible apply answers_next
  with_reducible assumption
  with_reducible apply answers_next
  with_reducible apply State.post_framed
  with_reducible assumption
  exact kf.sub rfl
  with_reducible apply State.put_framed
  with_reducible assumption
  exact kf.get rfl
  with_reducible apply framed_foldl
  intro _ _ _
  with_reducible apply State.stopPulse_framed
  with_reducible assumption
  exact kf.sub rfl
  with_reducible assumption
  simp -zeta only [framed_mk, k_time, or_true, true_or]
  with_reducible assumption
  with_reducible apply State.advance_framed
  with_reducible assumption
  exact kf.sub rfl

theorem execTimeSetAccept_framed {s : State} (hs : State.Framed q b s) (kf :
    b.free [Part.reg RegGroup.tb, Part.time]) :
  answers (execTimeSetAccept s) (State.Framed q b) := by
  unfold execTimeSetAccept
  split
  · exact hs
  · extract_lets src t
    have k1 : b.keep .time = false := kf.get rfl
    have h : State.Framed q b t := by
      dsimp only [t]
      simp only [framed_mk, k1, or_true, true_or]
      exact hs
    exact answers_ite (answers_next (State.stepKnown_framed h (kf.sub rfl))) (answers_next (State.flag_framed h (kf.get rfl)))

theorem State.writeRate_framed {s : State} {v : Word} (hs : State.Framed q b s) (kf : b.free [Part.reg RegGroup.tb, Part.time]) :
    State.Framed q b (State.writeRate s v) := by
  unfold State.writeRate
  with_reducible apply framed_ite
  with_reducible apply State.requestRate_framed
  with_reducible apply State.wr_framed
  with_reducible assumption
  exact kf.get rfl
  exact kf.sub rfl
  with_reducible apply State.flag_framed
  with_reducible assumption
  exact kf.get rfl

theorem execTbRateWrite_framed {v : Word} {s : State} (hs : State.Framed q b s) (kf : b.free [Part.reg RegGroup.tb, Part.time]) :
    answers (execTbRateWrite v s) (State.Framed q b) := by
  unfold execTbRateWrite
  with_reducible apply answers_next
  with_reducible apply State.writeRate_framed
  with_reducible assumption
  exact kf.sub rfl

theorem State.writeSource_framed {s : State} {src : Nat} (hs : State.Framed q b s) (kf : b.free [Part.reg RegGroup.tb, Part.time, Part.chain]) :
    State.Framed q b (State.writeSource s src) := by
  unfold State.writeSource
  with_reducible apply framed_ite
  with_reducible assumption
  with_reducible apply State.reacquire_framed
  with_reducible apply State.put_framed
  with_reducible assumption
  exact kf.get rfl
  exact kf.sub rfl

theorem execTbSourceWrite_framed {src : Fin 4} {s : State} (hs : State.Framed q b s) (kf : b.free [Part.reg RegGroup.tb, Part.time, Part.chain]) :
    answers (execTbSourceWrite src s) (State.Framed q b) := by
  unfold execTbSourceWrite
  with_reducible apply answers_next
  with_reducible apply State.writeSource_framed
  with_reducible assumption
  exact kf.sub rfl

theorem State.offsetMeasured_framed {s : State} {o : Int} (hs : State.Framed q b s) (kf : b.free [Part.reg RegGroup.tb, Part.time, Part.chain]) :
    State.Framed q b (State.offsetMeasured s o) := by
  have k_time : b.keep .time = false := kf.get rfl
  unfold State.offsetMeasured
  extract_lets +onlyGivenNames x; refine (fun (hx : State.Framed q b x) => ?_) ?_ <;> [(try clear_value x); subst x]
  extract_lets +onlyGivenNames x; clear_value x
  extract_lets +onlyGivenNames x; clear_value x
  extract_lets +onlyGivenNames x; refine (fun (hx : State.Framed q b x) => ?_) ?_ <;> [(try clear_value x); subst x]
  with_reducible apply framed_ite
  with_reducible assumption
  with_reducible apply framed_ite
  with_reducible apply framed_ite
  with_reducible apply State.stepKnown_framed
  with_reducible assumption
  exact kf.sub rfl
  with_reducible assumption
  with_reducible apply framed_ite
  with_reducible apply framed_ite
  with_reducible apply State.put_framed
  with_reducible assumption
  exact kf.get rfl
  with_reducible assumption
  with_reducible apply State.reacquire_framed
  with_reducible assumption
  exact kf.sub rfl
  simp -zeta only [framed_mk, k_time, or_true, true_or]
  with_reducible assumption
  with_reducible apply State.wr_framed
  with_reducible assumption
  exact kf.get rfl

theorem State.servo_framed {s : State} {o : Int} (hs : State.Framed q b s) (kf : b.free [Part.reg RegGroup.tb, Part.fresh, Part.time]) :
    State.Framed q b (State.servo s o) := by
  unfold State.servo
  with_reducible apply framed_ite
  with_reducible apply State.useFresh_framed
  with_reducible apply State.requestRate_framed
  with_reducible assumption
  exact kf.sub rfl
  exact kf.sub rfl
  with_reducible assumption

theorem State.ethSendAll_framed {s : State} {p : Fin 4} {xs : List EthSent} (hs : State.Framed q b s) (kf : b.free [Part.reg RegGroup.eth, Part.eth]) :
    State.Framed q b (State.ethSendAll s p xs) := by
  have k_eth : b.keep .eth = false := kf.get rfl
  unfold State.ethSendAll
  extract_lets +onlyGivenNames x; clear_value x
  with_reducible apply framed_foldl
  intro _ _ _
  with_reducible apply State.count_framed
  with_reducible assumption
  exact kf.get rfl
  simp -zeta only [framed_mk, k_eth, or_true, true_or]
  with_reducible assumption

theorem State.ptpOffset_framed {s : State} {p : Fin 4} (hs : State.Framed q b s) (kf : b.free [Part.reg RegGroup.tb, Part.fresh, Part.time, Part.chain]) :
    State.Framed q b (s.ptpOffset p) := by
  have k1 : b.keep .time = false := kf.get rfl
  unfold State.ptpOffset
  extract_lets x src u
  split
  · extract_lets o
    have h : State.Framed q b u := by
      dsimp only [u]
      simp only [framed_mk, k1, or_true, true_or]
      exact hs
    exact framed_ite (State.servo_framed (State.offsetMeasured_framed h (kf.sub rfl)) (kf.sub rfl)) h
  · exact hs

theorem State.setPtp_framed {s : State} {p : Fin 4} {q_ : PtpPort} (hs : State.Framed q b s) (kf : b.free [Part.time]) :
    State.Framed q b (State.setPtp s p q_) := by
  have k_time : b.keep .time = false := kf.get rfl
  unfold State.setPtp
  extract_lets +onlyGivenNames x; clear_value x
  simp -zeta only [framed_mk, k_time, or_true, true_or]
  with_reducible assumption

theorem State.syncDone_framed {s : State} {p : Fin 4} {t1 : Int} {t2 : Int} (hs : State.Framed q b s) (kf : b.free [Part.reg RegGroup.tb, Part.fresh, Part.time, Part.chain]) :
    State.Framed q b (State.syncDone s p t1 t2) := by
  unfold State.syncDone
  extract_lets +onlyGivenNames x; clear_value x
  with_reducible apply State.ptpOffset_framed
  with_reducible apply State.setPtp_framed
  with_reducible assumption
  exact kf.sub rfl
  exact kf.sub rfl

theorem State.ptpAnnounce_framed {s : State} {p : Fin 4} {h : PtpHdr} {rank : Nat} {utc : Nat} {valid : Bool} {l61 : Bool} {l59 : Bool} (hs : State.Framed q b s) (kf : b.free [Part.reg RegGroup.tb, Part.time]) :
    State.Framed q b (State.ptpAnnounce s p h rank utc valid l61 l59) := by
  have k_time : b.keep .time = false := kf.get rfl
  unfold State.ptpAnnounce
  extract_lets +onlyGivenNames x; clear_value x
  extract_lets +onlyGivenNames x; clear_value x
  extract_lets +onlyGivenNames x; refine (fun (hx : State.Framed q b x) => ?_) ?_ <;> [(try clear_value x); subst x]
  with_reducible apply framed_ite
  with_reducible apply State.putB_framed
  with_reducible apply State.putB_framed
  with_reducible apply State.putB_framed
  with_reducible apply State.put_framed
  with_reducible assumption
  exact kf.get rfl
  exact kf.get rfl
  exact kf.get rfl
  exact kf.get rfl
  with_reducible assumption
  with_reducible apply framed_ite
  with_reducible assumption
  simp -zeta only [framed_mk, k_time, or_true, true_or]
  with_reducible assumption

theorem State.ptpRx_framed {s : State} {p : Fin 4} {h : PtpHdr} {m : PtpMsg} {stamp : Int} (hs : State.Framed q b s) (kf : b.free [Part.reg RegGroup.tb, Part.reg RegGroup.eth, Part.fresh, Part.time, Part.eth, Part.chain]) :
    State.Framed q b (State.ptpRx s p h m stamp) := by
  unfold State.ptpRx
  extract_lets +onlyGivenNames x; clear_value x
  extract_lets +onlyGivenNames x; refine (fun (hx4 : ∀ y z, State.Framed q b y → State.Framed q b (x y z)) => ?_) ?_ <;> [(try clear_value x); subst x]
  with_reducible apply framed_ite
  with_reducible assumption
  split
  with_reducible apply framed_ite
  with_reducible assumption
  split
  with_reducible apply State.syncDone_framed
  with_reducible assumption
  exact kf.sub rfl
  with_reducible apply State.setPtp_framed
  with_reducible assumption
  exact kf.sub rfl
  split
  with_reducible apply framed_ite
  with_reducible apply State.syncDone_framed
  with_reducible assumption
  exact kf.sub rfl
  with_reducible assumption
  with_reducible assumption
  with_reducible apply framed_ite
  with_reducible apply hx4
  with_reducible apply State.setPtp_framed
  with_reducible assumption
  exact kf.sub rfl
  with_reducible assumption
  split
  with_reducible apply State.ptpOffset_framed
  with_reducible apply State.setPtp_framed
  with_reducible assumption
  exact kf.sub rfl
  exact kf.sub rfl
  with_reducible assumption
  with_reducible apply hx4
  with_reducible assumption
  split
  with_reducible apply State.ptpOffset_framed
  with_reducible apply State.setPtp_framed
  with_reducible assumption
  exact kf.sub rfl
  exact kf.sub rfl
  with_reducible assumption
  with_reducible apply framed_ite
  with_reducible apply State.ptpAnnounce_framed
  with_reducible assumption
  exact kf.sub rfl
  with_reducible assumption
  with_reducible apply hx4
  with_reducible assumption
  with_reducible assumption
  intro _ _ _
  simp -zeta only
  with_reducible apply State.ethSendAll_framed
  with_reducible assumption
  exact kf.sub rfl

theorem execPtpSourceLost_framed {s : State} (hs : State.Framed q b s) (kf :
    b.free [Part.reg RegGroup.tb, Part.time, Part.chain]) :
  answers (execPtpSourceLost s) (State.Framed q b) := by
  unfold execPtpSourceLost
  extract_lets lost src t
  have k1 : b.keep .time = false := kf.get rfl
  have h : State.Framed q b t := by
    dsimp only [t]
    simp only [framed_mk, k1, or_true, true_or]
    exact hs
  exact answers_ite (answers_next (State.toHoldover_framed h (kf.sub rfl))) (answers_next h)

theorem execPtpSyncTx_framed {p : Fin 4} {s : State} (hs : State.Framed q b s) (kf : b.free [Part.reg RegGroup.eth, Part.time, Part.eth]) :
    answers (execPtpSyncTx p s) (State.Framed q b) := by
  unfold execPtpSyncTx
  extract_lets +onlyGivenNames x; clear_value x
  extract_lets +onlyGivenNames x; clear_value x
  extract_lets +onlyGivenNames x; refine (fun (hx : State.Framed q b x) => ?_) ?_ <;> [(try clear_value x); subst x]
  extract_lets +onlyGivenNames x; clear_value x
  with_reducible apply answers_ite
  with_reducible apply answers_next
  with_reducible apply State.ethSendAll_framed
  with_reducible assumption
  exact kf.sub rfl
  with_reducible apply answers_next
  with_reducible assumption
  with_reducible apply State.setPtp_framed
  with_reducible assumption
  exact kf.sub rfl

theorem execPtpDelayReqTx_framed {p : Fin 4} {peer : Bool} {s : State} (hs : State.Framed q b s) (kf : b.free [Part.reg RegGroup.eth, Part.time, Part.eth]) :
    answers (execPtpDelayReqTx p peer s) (State.Framed q b) := by
  unfold execPtpDelayReqTx
  extract_lets +onlyGivenNames x; clear_value x
  extract_lets +onlyGivenNames x; clear_value x
  extract_lets +onlyGivenNames x; refine (fun (hx : State.Framed q b x) => ?_) ?_ <;> [(try clear_value x); subst x]
  with_reducible apply answers_ite
  with_reducible apply answers_next
  with_reducible apply State.ethSendAll_framed
  with_reducible assumption
  exact kf.sub rfl
  with_reducible apply answers_next
  with_reducible assumption
  with_reducible apply State.setPtp_framed
  with_reducible assumption
  exact kf.sub rfl

theorem execTcapEdge_framed {n : Fin 8} {rise : Bool} {t_ : Nat} {s : State} (hs : State.Framed q b s) (kf : b.free (postParts ++ [Part.reg RegGroup.tcap, Part.now, Part.caps])) :
    answers (execTcapEdge n rise t_ s) (State.Framed q b) := by
  have k_caps : b.keep .caps = false := kf.get rfl
  unfold execTcapEdge
  extract_lets +onlyGivenNames x; refine (fun (hx : State.Framed q b x) => ?_) ?_ <;> [(try clear_value x); subst x]
  extract_lets +onlyGivenNames x; clear_value x
  extract_lets +onlyGivenNames x; clear_value x
  extract_lets +onlyGivenNames x; clear_value x
  extract_lets +onlyGivenNames x; refine (fun (hx : State.Framed q b x) => ?_) ?_ <;> [(try clear_value x); subst x]
  with_reducible apply answers_ite
  with_reducible apply answers_ite
  with_reducible apply answers_next
  with_reducible apply State.postAt_framed
  with_reducible assumption
  exact kf.sub rfl
  with_reducible apply answers_next
  with_reducible assumption
  with_reducible apply answers_next
  with_reducible assumption
  with_reducible apply framed_ite
  with_reducible apply State.bump_framed
  with_reducible assumption
  exact kf.get rfl
  simp -zeta only [framed_mk, k_caps, or_true, true_or]
  with_reducible assumption
  with_reducible apply State.advance_framed
  with_reducible assumption
  exact kf.sub rfl

theorem State.capRead_framed {s : State} {n : Fin 8} (hs : State.Framed q b s) (kf : b.free [Part.reg RegGroup.tcap, Part.rdata, Part.caps]) :
    State.Framed q b (State.capRead s n) := by
  have k_caps : b.keep .caps = false := kf.get rfl
  unfold State.capRead
  split
  with_reducible apply State.answer_framed
  with_reducible apply State.wr_framed
  with_reducible assumption
  exact kf.get rfl
  exact kf.sub rfl
  extract_lets +onlyGivenNames x; refine (fun (hx : State.Framed q b x) => ?_) ?_ <;> [(try clear_value x); subst x]
  extract_lets +onlyGivenNames x; refine (fun (hx : State.Framed q b x) => ?_) ?_ <;> [(try clear_value x); subst x]
  extract_lets +onlyGivenNames x; refine (fun (hx : State.Framed q b x) => ?_) ?_ <;> [(try clear_value x); subst x]
  extract_lets +onlyGivenNames x; refine (fun (hx : State.Framed q b x) => ?_) ?_ <;> [(try clear_value x); subst x]
  with_reducible apply State.answer_framed
  with_reducible assumption
  exact kf.sub rfl
  with_reducible apply State.wr_framed
  with_reducible assumption
  exact kf.get rfl
  with_reducible apply State.wr_framed
  with_reducible assumption
  exact kf.get rfl
  with_reducible apply State.wr_framed
  with_reducible apply State.wr_framed
  with_reducible assumption
  exact kf.get rfl
  exact kf.get rfl
  simp -zeta only [framed_mk, k_caps, or_true, true_or]
  with_reducible assumption

theorem execTcapHeadRead_framed {n : Fin 8} {s : State} (hs : State.Framed q b s) (kf : b.free [Part.reg RegGroup.tcap, Part.rdata, Part.caps]) :
    answers (execTcapHeadRead n s) (State.Framed q b) := by
  unfold execTcapHeadRead
  with_reducible apply answers_next
  with_reducible apply State.capRead_framed
  with_reducible assumption
  exact kf.sub rfl

theorem execTbNowRead_framed {s : State} (hs : State.Framed q b s) (kf : b.free [Part.reg RegGroup.tb, Part.rdata]) :
    answers (execTbNowRead s) (State.Framed q b) := by
  unfold execTbNowRead
  extract_lets +onlyGivenNames x; clear_value x
  with_reducible apply answers_next
  with_reducible apply State.answer_framed
  with_reducible apply State.wr_framed
  with_reducible apply State.wr_framed
  with_reducible apply State.wr_framed
  with_reducible assumption
  exact kf.get rfl
  exact kf.get rfl
  exact kf.get rfl
  exact kf.sub rfl

theorem State.tpoArm_framed {s : State} {n : Fin 8} {on : Bool} (hs : State.Framed q b s) (kf : b.free [Part.reg RegGroup.tpo, Part.pulses]) :
    State.Framed q b (State.tpoArm s n on) := by
  have k_pulses : b.keep .pulses = false := kf.get rfl
  unfold State.tpoArm
  with_reducible apply framed_ite
  with_reducible apply framed_ite
  with_reducible apply State.put_framed
  with_reducible assumption
  exact kf.get rfl
  with_reducible apply State.flag_framed
  with_reducible assumption
  exact kf.get rfl
  with_reducible apply State.put_framed
  with_reducible apply State.put_framed
  simp -zeta only [framed_mk, k_pulses, or_true, true_or]
  with_reducible assumption
  exact kf.get rfl
  exact kf.get rfl

theorem execTpoArmWrite_framed {n : Fin 8} {on : Bool} {s : State} (hs : State.Framed q b s) (kf : b.free [Part.reg RegGroup.tpo, Part.pulses]) :
    answers (execTpoArmWrite n on s) (State.Framed q b) := by
  unfold execTpoArmWrite
  with_reducible apply answers_next
  with_reducible apply State.tpoArm_framed
  with_reducible assumption
  exact kf.sub rfl

theorem State.tpoCommit_framed {s : State} {n : Fin 8} {p : Pulse} {c : Nat} (hs : State.Framed q b s) (kf : b.free (postParts ++ [Part.reg RegGroup.tpo, Part.pulses])) :
    State.Framed q b (State.tpoCommit s n p c) := by
  have k_pulses : b.keep .pulses = false := kf.get rfl
  unfold State.tpoCommit
  extract_lets +onlyGivenNames x; refine (fun (hx : State.Framed q b x) => ?_) ?_ <;> [(try clear_value x); subst x]
  extract_lets +onlyGivenNames x; clear_value x
  extract_lets +onlyGivenNames x; refine (fun (hx5 : ∀ y z, State.Framed q b z → State.Framed q b (x y z)) => ?_) ?_ <;> [(try clear_value x); subst x]
  extract_lets +onlyGivenNames x; refine (fun (hx3 : ∀ y, State.Framed q b y → State.Framed q b (x y)) => ?_) ?_ <;> [(try clear_value x); subst x]
  extract_lets +onlyGivenNames x; clear_value x
  extract_lets +onlyGivenNames x; refine (fun (hx : State.Framed q b x) => ?_) ?_ <;> [(try clear_value x); subst x]
  with_reducible apply framed_ite
  with_reducible apply hx5
  with_reducible assumption
  with_reducible apply framed_ite
  with_reducible apply framed_ite
  with_reducible apply hx3
  with_reducible assumption
  with_reducible apply hx5
  with_reducible assumption
  with_reducible apply State.post_framed
  with_reducible apply State.flag_framed
  with_reducible apply hx3
  with_reducible assumption
  exact kf.get rfl
  exact kf.sub rfl
  with_reducible apply State.flag_framed
  with_reducible assumption
  exact kf.get rfl
  intro _ _
  simp -zeta only
  with_reducible apply State.put_framed
  simp -zeta only [framed_mk, k_pulses, or_true, true_or]
  with_reducible assumption
  exact kf.get rfl
  intro _ _ _
  simp -zeta only
  with_reducible apply State.put_framed
  simp -zeta only [framed_mk, k_pulses, or_true, true_or]
  with_reducible assumption
  exact kf.get rfl
  with_reducible apply State.wr_framed
  with_reducible assumption
  exact kf.get rfl

theorem State.tpoGo_framed {s : State} {n : Fin 8} (hs : State.Framed q b s) (kf : b.free (postParts ++ [Part.reg RegGroup.tpo, Part.pulses])) :
    State.Framed q b (State.tpoGo s n) := by
  have k_pulses : b.keep .pulses = false := kf.get rfl
  unfold State.tpoGo
  extract_lets +onlyGivenNames x; clear_value x
  extract_lets +onlyGivenNames x; clear_value x
  with_reducible apply framed_ite
  with_reducible apply framed_ite
  with_reducible apply framed_ite
  simp -zeta only [framed_mk, k_pulses, or_true, true_or]
  with_reducible assumption
  with_reducible apply State.tpoCommit_framed
  with_reducible assumption
  exact kf.sub rfl
  with_reducible apply State.flag_framed
  with_reducible assumption
  exact kf.get rfl
  with_reducible assumption

theorem execTpoGo_framed {n : Fin 8} {s : State} (hs : State.Framed q b s) (kf : b.free (postParts ++ [Part.reg RegGroup.tpo, Part.pulses])) :
    answers (execTpoGo n s) (State.Framed q b) := by
  unfold execTpoGo
  with_reducible apply answers_next
  with_reducible apply State.tpoGo_framed
  with_reducible assumption
  exact kf.sub rfl

theorem execTpoEdge_framed {n : Fin 8} {s : State} (hs : State.Framed q b s) (kf : b.free (postParts ++ [Part.reg RegGroup.tpo, Part.now, Part.pulses])) :
    answers (execTpoEdge n s) (State.Framed q b) := by
  have k_pulses : b.keep .pulses = false := kf.get rfl
  unfold execTpoEdge
  extract_lets +onlyGivenNames x; clear_value x
  split
  with_reducible apply answers_next
  with_reducible assumption
  extract_lets +onlyGivenNames x; refine (fun (hx : State.Framed q b x) => ?_) ?_ <;> [(try clear_value x); subst x]
  extract_lets +onlyGivenNames x; refine (fun (hx : State.Framed q b x) => ?_) ?_ <;> [(try clear_value x); subst x]
  extract_lets +onlyGivenNames x; refine (fun (hx : State.Framed q b x) => ?_) ?_ <;> [(try clear_value x); subst x]
  with_reducible apply answers_ite
  split
  with_reducible apply answers_next
  with_reducible apply State.tpoCommit_framed
  simp -zeta only [framed_mk, k_pulses, or_true, true_or]
  with_reducible assumption
  exact kf.sub rfl
  with_reducible apply answers_ite
  with_reducible apply answers_next
  with_reducible apply State.flag_framed
  with_reducible apply State.put_framed
  simp -zeta only [framed_mk, k_pulses, or_true, true_or]
  with_reducible assumption
  exact kf.get rfl
  exact kf.get rfl
  with_reducible apply answers_next
  simp -zeta only [framed_mk, k_pulses, or_true, true_or]
  with_reducible assumption
  with_reducible apply answers_next
  simp -zeta only [framed_mk, k_pulses, or_true, true_or]
  with_reducible assumption
  with_reducible apply State.advance_framed
  with_reducible assumption
  exact kf.sub rfl
  with_reducible apply State.count_framed
  with_reducible assumption
  exact kf.get rfl
  with_reducible apply State.advance_framed
  with_reducible assumption
  exact kf.sub rfl

end Sys2Proof.Machine

/-! Signet, Ethernet, the safety island, the Chain and Clasp keep what `State.Framed` says: one lemma per operation. -/

namespace Sys2Proof.Machine

open Sys2Proof

variable {q : List Instr} {b : Kept}

theorem State.setConn_framed {s : State} {c : Fin 64} {x : SignetConn} (hs : State.Framed q b s) (kf : b.free [Part.si]) :
    State.Framed q b (State.setConn s c x) := by
  have k_si : b.keep .si = false := kf.get rfl
  unfold State.setConn
  extract_lets +onlyGivenNames x; clear_value x
  simp -zeta only [framed_mk, k_si, or_true, true_or]
  with_reducible assumption

theorem State.signetCopy_framed {s : State} {x : TelegramCopy} (hs : State.Framed q b s) (kf : b.free [Part.si]) :
    State.Framed q b (State.signetCopy s x) := by
  have k_si : b.keep .si = false := kf.get rfl
  unfold State.signetCopy
  extract_lets +onlyGivenNames x; clear_value x
  extract_lets +onlyGivenNames x; clear_value x
  with_reducible apply framed_ite
  simp -zeta only [framed_mk, k_si, or_true, true_or]
  with_reducible assumption
  simp -zeta only [framed_mk, k_si, or_true, true_or]
  with_reducible assumption

theorem execSignetTelegramRx_framed {t_ : Nat} {s : State} (hs : State.Framed q b s) (kf : b.free (postParts ++ [Part.now, Part.si])) :
    answers (execSignetTelegramRx t_ s) (State.Framed q b) := by
  have k_si : b.keep .si = false := kf.get rfl
  unfold execSignetTelegramRx
  extract_lets +onlyGivenNames x; clear_value x
  simp -zeta only
  split
  with_reducible apply answers_next
  with_reducible assumption
  extract_lets +onlyGivenNames x; refine (fun (hx : State.Framed q b x) => ?_) ?_ <;> [(try clear_value x); subst x]
  extract_lets +onlyGivenNames x; clear_value x
  split
  with_reducible apply answers_next
  simp -zeta only [framed_mk, k_si, or_true, true_or]
  with_reducible assumption
  extract_lets +onlyGivenNames x; clear_value x
  split
  with_reducible apply answers_next
  with_reducible assumption
  extract_lets +onlyGivenNames x; refine (fun (hx : State.Framed q b x) => ?_) ?_ <;> [(try clear_value x); subst x]
  split
  with_reducible apply answers_next
  with_reducible apply State.post_framed
  with_reducible assumption
  exact kf.sub rfl
  with_reducible apply answers_next
  with_reducible assumption
  with_reducible apply State.setConn_framed
  with_reducible assumption
  exact kf.sub rfl
  with_reducible apply State.advance_framed
  simp -zeta only [framed_mk, k_si, or_true, true_or]
  with_reducible assumption
  exact kf.sub rfl

theorem State.rejudge_framed {s : State} {c : Fin 64} {f : SignetRec → SignetConn → SignetConn} (hs : State.Framed q b s) (kf : b.free [Part.si]) :
    State.Framed q b (State.rejudge s c f) := by
  have k_si : b.keep .si = false := kf.get rfl
  unfold State.rejudge
  split
  with_reducible assumption
  extract_lets +onlyGivenNames x; refine (fun (hx : State.Framed q b x) => ?_) ?_ <;> [(try clear_value x); subst x]
  extract_lets +onlyGivenNames x; clear_value x
  split
  simp -zeta only [framed_mk, k_si, or_true, true_or]
  with_reducible assumption
  with_reducible assumption
  with_reducible apply State.setConn_framed
  with_reducible assumption
  exact kf.sub rfl

theorem execSignetWatchdogExpiry_framed {c : Fin 64} {s : State} (hs : State.Framed q b s) (kf : b.free [Part.si]) :
    answers (execSignetWatchdogExpiry c s) (State.Framed q b) := by
  unfold execSignetWatchdogExpiry
  split
  with_reducible apply answers_next
  with_reducible apply State.rejudge_framed
  with_reducible assumption
  exact kf.sub rfl
  with_reducible apply answers_next
  with_reducible assumption

theorem execSignetDegradedExpiry_framed {c : Fin 64} {s : State} (hs : State.Framed q b s) (kf : b.free [Part.si]) :
    answers (execSignetDegradedExpiry c s) (State.Framed q b) := by
  unfold execSignetDegradedExpiry
  split
  with_reducible apply answers_next
  with_reducible apply State.rejudge_framed
  with_reducible assumption
  exact kf.sub rfl
  with_reducible apply answers_next
  with_reducible assumption

theorem State.bufWrite_framed {s : State} {h : Fin 8192} {o : Nat} {bs : List Byte} (hs : State.Framed q b s) (kf : b.free [Part.mem]) :
    State.Framed q b (State.bufWrite s h o bs) := by
  unfold State.bufWrite
  with_reducible apply framed_foldl
  intro _ _ _
  with_reducible apply State.mwrite_framed
  with_reducible assumption
  exact kf.sub rfl
  with_reducible assumption

theorem State.ringRx_framed {s : State} {p : Fin 4} {f : EthFrame} {stamp : Int} (hs : State.Framed q b s) (kf : b.free [Part.reg RegGroup.eth, Part.mem]) :
    State.Framed q b (State.ringRx s p f stamp) := by
  unfold State.ringRx
  extract_lets +onlyGivenNames x; clear_value x
  extract_lets +onlyGivenNames x; clear_value x
  extract_lets +onlyGivenNames x; clear_value x
  extract_lets +onlyGivenNames x; clear_value x
  extract_lets +onlyGivenNames x; clear_value x
  extract_lets +onlyGivenNames x; refine (fun (hx : State.Framed q b x) => ?_) ?_ <;> [(try clear_value x); subst x]
  with_reducible apply framed_ite
  with_reducible apply State.bump_framed
  with_reducible apply State.flag_framed
  with_reducible assumption
  exact kf.get rfl
  exact kf.get rfl
  with_reducible apply State.wr_framed
  with_reducible assumption
  exact kf.get rfl
  with_reducible apply State.bufWrite_framed
  with_reducible assumption
  exact kf.sub rfl

theorem State.plantRx_framed {s : State} {p : Fin 4} {f : EthFrame} {stamp : Int} (hs : State.Framed q b s) (kf : b.free [Part.reg RegGroup.eth, Part.mem]) :
    State.Framed q b (State.plantRx s p f stamp) := by
  unfold State.plantRx
  with_reducible apply framed_ite
  with_reducible apply State.ringRx_framed
  with_reducible assumption
  exact kf.sub rfl
  with_reducible apply State.bump_framed
  with_reducible assumption
  exact kf.get rfl

theorem State.ethDeliver_framed {s : State} {p : Fin 4} {f : EthFrame} {stamp : Int} (hs : State.Framed q b s) (kf : b.free [Part.reg RegGroup.tb, Part.reg RegGroup.eth, Part.mem, Part.fresh, Part.time, Part.si, Part.eth, Part.chain]) :
    State.Framed q b (State.ethDeliver s p f stamp) := by
  unfold State.ethDeliver
  split
  with_reducible apply framed_ite
  with_reducible apply State.ethSendAll_framed
  with_reducible assumption
  exact kf.sub rfl
  with_reducible apply State.plantRx_framed
  with_reducible assumption
  exact kf.sub rfl
  with_reducible apply framed_ite
  with_reducible apply State.ethSendAll_framed
  with_reducible assumption
  exact kf.sub rfl
  with_reducible apply State.plantRx_framed
  with_reducible assumption
  exact kf.sub rfl
  with_reducible apply framed_ite
  with_reducible apply State.ptpRx_framed
  with_reducible assumption
  exact kf.sub rfl
  with_reducible apply State.plantRx_framed
  with_reducible assumption
  exact kf.sub rfl
  extract_lets +onlyGivenNames x; clear_value x
  split
  with_reducible apply State.plantRx_framed
  with_reducible assumption
  exact kf.sub rfl
  with_reducible apply framed_ite
  with_reducible apply State.plantRx_framed
  with_reducible assumption
  exact kf.sub rfl
  with_reducible apply framed_ite
  with_reducible apply State.signetCopy_framed
  with_reducible assumption
  exact kf.sub rfl
  with_reducible assumption
  with_reducible assumption
  with_reducible apply State.plantRx_framed
  with_reducible assumption
  exact kf.sub rfl

theorem execEthFrameRx_framed {p : Fin 4} {f : EthFrame} {t_ : Nat} {s : State} (hs : State.Framed q b s) (kf : b.free [Part.reg RegGroup.tb, Part.reg RegGroup.eth, Part.now, Part.mem, Part.fresh, Part.time, Part.si, Part.eth, Part.chain]) :
    answers (execEthFrameRx p f t_ s) (State.Framed q b) := by
  unfold execEthFrameRx
  extract_lets +onlyGivenNames x; refine (fun (hx : State.Framed q b x) => ?_) ?_ <;> [(try clear_value x); subst x]
  with_reducible apply answers_ite
  with_reducible apply answers_ite
  with_reducible apply answers_next
  with_reducible apply State.ethDeliver_framed
  with_reducible apply State.count_framed
  with_reducible assumption
  exact kf.get rfl
  exact kf.sub rfl
  with_reducible apply answers_next
  with_reducible apply State.bump_framed
  with_reducible assumption
  exact kf.get rfl
  with_reducible apply answers_next
  with_reducible assumption
  with_reducible apply State.advance_framed
  with_reducible assumption
  exact kf.sub rfl

theorem execEthTxEntrySend_framed {p : Fin 4} {s : State} (hs : State.Framed q b s) (kf : b.free [Part.reg RegGroup.eth, Part.mem, Part.eth]) :
    answers (execEthTxEntrySend p s) (State.Framed q b) := by
  unfold execEthTxEntrySend
  extract_lets +onlyGivenNames x; clear_value x
  extract_lets +onlyGivenNames x; clear_value x
  extract_lets +onlyGivenNames x; clear_value x
  extract_lets +onlyGivenNames x; clear_value x
  extract_lets +onlyGivenNames x; clear_value x
  extract_lets +onlyGivenNames x; refine (fun (hx : State.Framed q b x) => ?_) ?_ <;> [(try clear_value x); subst x]
  with_reducible apply answers_ite
  with_reducible apply answers_ite
  with_reducible apply answers_next
  with_reducible apply State.flag_framed
  with_reducible assumption
  exact kf.get rfl
  with_reducible apply answers_next
  with_reducible apply State.ethSendAll_framed
  with_reducible assumption
  exact kf.sub rfl
  with_reducible apply answers_next
  with_reducible assumption
  with_reducible apply State.wr_framed
  with_reducible apply State.bufWrite_framed
  with_reducible assumption
  exact kf.sub rfl
  exact kf.get rfl

theorem execSignetEthTx_framed {c : Fin 64} {s : State} (hs : State.Framed q b s) (kf :
    b.free [Part.reg RegGroup.eth, Part.si, Part.eth]) :
  answers (execSignetEthTx c s) (State.Framed q b) := by
  have k1 : b.keep .si = false := kf.get rfl
  unfold execSignetEthTx
  split
  · exact hs
  · split
    extract_lets p src t send
    have h : State.Framed q b t := by
      dsimp only [t]
      simp only [framed_mk, k1, or_true, true_or]
      exact hs
    have h2 : ∀ d v i, State.Framed q b (send d v i) := fun _ _ _ => State.ethSendAll_framed h (kf.sub rfl)
    refine answers_ite ?_ hs
    split
    · exact h2 _ _ _
    · exact answers_ite (h2 _ _ _) (h2 _ _ _)

theorem State.showSpeed_framed {s : State} {p : Fin 4} (hs : State.Framed q b s) (kf : b.free [Part.reg RegGroup.eth]) :
    State.Framed q b (State.showSpeed s p) := by
  unfold State.showSpeed
  with_reducible apply State.putB_framed
  with_reducible assumption
  exact kf.get rfl

theorem execEthLinkChange_framed {p : Fin 4} {up : Bool} {fast : Bool} {s : State} (hs : State.Framed q b s) (kf : b.free [Part.reg RegGroup.eth, Part.eth]) :
    answers (execEthLinkChange p up fast s) (State.Framed q b) := by
  have k_eth : b.keep .eth = false := kf.get rfl
  unfold execEthLinkChange
  extract_lets +onlyGivenNames x; clear_value x
  extract_lets +onlyGivenNames x; refine (fun (hx : State.Framed q b x) => ?_) ?_ <;> [(try clear_value x); subst x]
  with_reducible apply answers_next
  with_reducible apply State.showSpeed_framed
  with_reducible apply State.flag_framed
  with_reducible apply State.putB_framed
  with_reducible assumption
  exact kf.get rfl
  exact kf.get rfl
  exact kf.sub rfl
  simp -zeta only [framed_mk, k_eth, or_true, true_or]
  with_reducible assumption

theorem State.ethCtrl_framed {s : State} {p : Fin 4} {v : Word} (hs : State.Framed q b s) (kf : b.free [Part.reg RegGroup.eth]) :
    State.Framed q b (s.ethCtrl p v) := by
  unfold State.ethCtrl
  extract_lets on others bit t u
  have ht : State.Framed q b t := State.put_framed (State.put_framed hs (kf.get rfl)) (kf.get rfl)
  have hu : State.Framed q b u :=
    framed_ite (framed_ite (State.flag_framed ht (kf.get rfl)) ht) (State.showSpeed_framed
      (State.put_framed (State.put_framed (State.put_framed ht (kf.get rfl)) (kf.get rfl)) (kf.get rfl)) (kf.sub rfl))
  exact framed_ite (State.put_framed hu (kf.get rfl)) (framed_ite hu (framed_ite (State.put_framed hu (kf.get rfl)) (State.flag_framed hu (kf.get rfl))))

theorem State.ethWrite_framed {s : State} {p : Fin 4} {r : EthCfg} {v : Word} (hs : State.Framed q b s) (kf : b.free [Part.reg RegGroup.eth]) :
    State.Framed q b (State.ethWrite s p r v) := by
  unfold State.ethWrite
  split
  with_reducible apply State.ethCtrl_framed
  with_reducible assumption
  exact kf.sub rfl
  with_reducible apply framed_ite
  with_reducible apply State.flag_framed
  with_reducible assumption
  exact kf.get rfl
  with_reducible apply State.setWritable_framed
  with_reducible assumption
  exact kf.get rfl
  with_reducible apply framed_ite
  with_reducible apply State.flag_framed
  with_reducible assumption
  exact kf.get rfl
  with_reducible apply State.setWritable_framed
  with_reducible assumption
  exact kf.get rfl
  with_reducible apply framed_ite
  with_reducible apply State.flag_framed
  with_reducible assumption
  exact kf.get rfl
  with_reducible apply State.setWritable_framed
  with_reducible assumption
  exact kf.get rfl
  with_reducible apply framed_ite
  with_reducible apply State.flag_framed
  with_reducible assumption
  exact kf.get rfl
  with_reducible apply State.setWritable_framed
  with_reducible assumption
  exact kf.get rfl
  with_reducible apply framed_ite
  with_reducible apply State.flag_framed
  with_reducible assumption
  exact kf.get rfl
  with_reducible apply State.setWritable_framed
  with_reducible assumption
  exact kf.get rfl
  with_reducible apply framed_ite
  with_reducible apply State.flag_framed
  with_reducible assumption
  exact kf.get rfl
  with_reducible apply State.setWritable_framed
  with_reducible assumption
  exact kf.get rfl
  with_reducible apply framed_ite
  with_reducible apply State.flag_framed
  with_reducible assumption
  exact kf.get rfl
  with_reducible apply State.setWritable_framed
  with_reducible assumption
  exact kf.get rfl

theorem execEthCtrlWrite_framed {p : Fin 4} {r : EthCfg} {v : Word} {s : State} (hs : State.Framed q b s) (kf : b.free [Part.reg RegGroup.eth]) :
    answers (execEthCtrlWrite p r v s) (State.Framed q b) := by
  unfold execEthCtrlWrite
  with_reducible apply answers_next
  with_reducible apply State.ethWrite_framed
  with_reducible assumption
  exact kf.sub rfl

theorem State.mdioStart_framed {s : State} {rd : Bool} {phy : Fin 32} {reg : Fin 32} {data : BitVec 16} (hs : State.Framed q b s) (kf : b.free [Part.reg RegGroup.mdio, Part.eth]) :
    State.Framed q b (State.mdioStart s rd phy reg data) := by
  have k_eth : b.keep .eth = false := kf.get rfl
  unfold State.mdioStart
  extract_lets +onlyGivenNames x; clear_value x
  with_reducible apply framed_ite
  with_reducible apply State.flag_framed
  with_reducible assumption
  exact kf.get rfl
  with_reducible apply State.put_framed
  simp -zeta only [framed_mk, k_eth, or_true, true_or]
  with_reducible assumption
  exact kf.get rfl

theorem State.mdioWrite_framed {s : State} {v : Word} (hs : State.Framed q b s) (kf : b.free [Part.reg RegGroup.mdio, Part.eth]) :
    State.Framed q b (State.mdioWrite s v) := by
  unfold State.mdioWrite
  extract_lets +onlyGivenNames x; clear_value x
  extract_lets +onlyGivenNames x; clear_value x
  with_reducible apply framed_ite
  with_reducible apply State.flag_framed
  with_reducible assumption
  exact kf.get rfl
  split
  with_reducible apply State.mdioStart_framed
  with_reducible assumption
  exact kf.sub rfl
  with_reducible apply State.mdioStart_framed
  with_reducible assumption
  exact kf.sub rfl
  with_reducible assumption

theorem execMdioWrite_framed {phy : Fin 32} {reg : Fin 32} {data : BitVec 16} {s : State} (hs : State.Framed q b s) (kf : b.free [Part.reg RegGroup.mdio, Part.eth]) :
    answers (execMdioWrite phy reg data s) (State.Framed q b) := by
  unfold execMdioWrite
  with_reducible apply answers_next
  with_reducible apply State.mdioStart_framed
  with_reducible assumption
  exact kf.sub rfl

theorem execMdioRead_framed {phy : Fin 32} {reg : Fin 32} {s : State} (hs : State.Framed q b s) (kf : b.free [Part.reg RegGroup.mdio, Part.eth]) :
    answers (execMdioRead phy reg s) (State.Framed q b) := by
  unfold execMdioRead
  with_reducible apply answers_next
  with_reducible apply State.mdioStart_framed
  with_reducible assumption
  exact kf.sub rfl

theorem execMdioDone_framed {data : BitVec 16} {s : State} (hs : State.Framed q b s) (kf : b.free [Part.reg RegGroup.mdio, Part.now, Part.eth]) :
    answers (execMdioDone data s) (State.Framed q b) := by
  have k_eth : b.keep .eth = false := kf.get rfl
  unfold execMdioDone
  extract_lets +onlyGivenNames x; clear_value x
  split
  with_reducible apply answers_next
  with_reducible assumption
  extract_lets +onlyGivenNames x; refine (fun (hx : State.Framed q b x) => ?_) ?_ <;> [(try clear_value x); subst x]
  extract_lets +onlyGivenNames x; refine (fun (hx : State.Framed q b x) => ?_) ?_ <;> [(try clear_value x); subst x]
  with_reducible apply answers_next
  with_reducible apply framed_ite
  with_reducible apply State.put_framed
  with_reducible assumption
  exact kf.get rfl
  with_reducible assumption
  with_reducible apply State.put_framed
  simp -zeta only [framed_mk, k_eth, or_true, true_or]
  with_reducible assumption
  exact kf.get rfl
  with_reducible apply State.advance_framed
  with_reducible assumption
  exact kf.sub rfl

theorem State.setSarm_framed {s : State} {a : Fin 8} {x : SafeArm} (hs : State.Framed q b s) (kf : b.free [Part.si]) :
    State.Framed q b (State.setSarm s a x) := by
  have k_si : b.keep .si = false := kf.get rfl
  unfold State.setSarm
  extract_lets +onlyGivenNames x; clear_value x
  simp -zeta only [framed_mk, k_si, or_true, true_or]
  with_reducible assumption

theorem State.setSin_framed {s : State} {k : Fin 16} {x : InputState} (hs : State.Framed q b s) (kf : b.free [Part.si]) :
    State.Framed q b (State.setSin s k x) := by
  have k_si : b.keep .si = false := kf.get rfl
  unfold State.setSin
  extract_lets +onlyGivenNames x; clear_value x
  simp -zeta only [framed_mk, k_si, or_true, true_or]
  with_reducible assumption

theorem State.setSout_framed {s : State} {k : Fin 12} {x : OutputState} (hs : State.Framed q b s) (kf : b.free [Part.si]) :
    State.Framed q b (State.setSout s k x) := by
  have k_si : b.keep .si = false := kf.get rfl
  unfold State.setSout
  extract_lets +onlyGivenNames x; clear_value x
  simp -zeta only [framed_mk, k_si, or_true, true_or]
  with_reducible assumption

theorem State.siRecord_framed {s : State} {type : Nat} {payload : List Byte} (hs : State.Framed q b s) (kf : b.free (postParts)) :
    State.Framed q b (State.siRecord s type payload) := by
  unfold State.siRecord
  with_reducible apply State.post_framed
  with_reducible assumption
  exact kf.sub rfl

theorem State.judgeInput_framed {s : State} {k : Fin 16} (hs : State.Framed q b s) (kf : b.free [Part.si]) :
    State.Framed q b (State.judgeInput s k) := by
  unfold State.judgeInput
  extract_lets +onlyGivenNames x; clear_value x
  simp -zeta only
  extract_lets +onlyGivenNames x; clear_value x
  extract_lets +onlyGivenNames x; clear_value x
  extract_lets +onlyGivenNames x; clear_value x
  with_reducible apply State.setSin_framed
  with_reducible assumption
  exact kf.sub rfl

theorem State.timeInputs_framed {s : State} (hs : State.Framed q b s) (kf : b.free [Part.si]) : State.Framed q b (State.timeInputs s) := by
  unfold State.timeInputs
  with_reducible apply framed_foldl
  intro _ _ _
  extract_lets +onlyGivenNames x; clear_value x
  with_reducible apply State.judgeInput_framed
  with_reducible apply State.setSin_framed
  with_reducible assumption
  exact kf.sub rfl
  exact kf.sub rfl
  with_reducible assumption

theorem execSafeInputChange_framed {k : Fin 16} {one : Bool} {level : Bool} {t_ : Nat} {held : Nat} {s : State} (hs : State.Framed q b s) (kf : b.free [Part.now, Part.si]) :
    answers (execSafeInputChange k one level t_ held s) (State.Framed q b) := by
  unfold execSafeInputChange
  extract_lets +onlyGivenNames x; clear_value x
  extract_lets +onlyGivenNames x; clear_value x
  extract_lets +onlyGivenNames x; clear_value x
  extract_lets +onlyGivenNames x; refine (fun (hx : State.Framed q b x) => ?_) ?_ <;> [(try clear_value x); subst x]
  extract_lets +onlyGivenNames x; refine (fun (hx : State.Framed q b x) => ?_) ?_ <;> [(try clear_value x); subst x]
  extract_lets +onlyGivenNames x; clear_value x
  with_reducible apply answers_ite
  with_reducible apply answers_next
  with_reducible apply State.advance_framed
  with_reducible assumption
  exact kf.sub rfl
  with_reducible apply answers_next
  with_reducible apply State.judgeInput_framed
  with_reducible apply State.setSin_framed
  with_reducible assumption
  exact kf.sub rfl
  exact kf.sub rfl
  with_reducible apply State.advance_framed
  with_reducible assumption
  exact kf.sub rfl
  with_reducible apply framed_ite
  with_reducible assumption
  with_reducible apply State.setSin_framed
  with_reducible assumption
  exact kf.sub rfl

theorem State.inputFault_framed {s : State} {k : Fin 16} {kind : Nat} (hs : State.Framed q b s) (kf : b.free (postParts ++ [Part.reg RegGroup.si, Part.si])) :
    State.Framed q b (State.inputFault s k kind) := by
  unfold State.inputFault
  extract_lets +onlyGivenNames x; clear_value x
  with_reducible apply framed_ite
  with_reducible assumption
  with_reducible apply State.siRecord_framed
  with_reducible apply State.flag_framed
  with_reducible apply State.setSin_framed
  with_reducible assumption
  exact kf.sub rfl
  exact kf.get rfl
  exact kf.sub rfl

theorem execSafeInputDiscrepancy_framed {k : Fin 16} {t_ : Nat} {s : State} (hs : State.Framed q b s) (kf : b.free (postParts ++ [Part.reg RegGroup.si, Part.now, Part.si])) :
    answers (execSafeInputDiscrepancy k t_ s) (State.Framed q b) := by
  unfold execSafeInputDiscrepancy
  split
  with_reducible apply answers_ite
  with_reducible apply answers_next
  with_reducible apply State.inputFault_framed
  with_reducible apply State.advance_framed
  with_reducible assumption
  exact kf.sub rfl
  exact kf.sub rfl
  with_reducible apply answers_next
  with_reducible assumption
  with_reducible apply answers_next
  with_reducible assumption

theorem execTestPulseStart_framed {n : Fin 4} {s : State} (hs : State.Framed q b s) (kf : b.free [Part.now, Part.si]) :
    answers (execTestPulseStart n s) (State.Framed q b) := by
  have k_si : b.keep .si = false := kf.get rfl
  unfold execTestPulseStart
  split
  extract_lets +onlyGivenNames x; clear_value x
  extract_lets +onlyGivenNames x; refine (fun (hx : State.Framed q b x) => ?_) ?_ <;> [(try clear_value x); subst x]
  extract_lets +onlyGivenNames x; clear_value x
  extract_lets +onlyGivenNames x; refine (fun (hx : State.Framed q b x) => ?_) ?_ <;> [(try clear_value x); subst x]
  extract_lets +onlyGivenNames x; clear_value x
  with_reducible apply answers_ite
  with_reducible apply answers_next
  with_reducible apply framed_foldl
  intro _ _ _
  extract_lets +onlyGivenNames x; clear_value x
  with_reducible apply framed_ite
  with_reducible assumption
  with_reducible apply State.setSin_framed
  with_reducible assumption
  exact kf.sub rfl
  with_reducible assumption
  with_reducible apply answers_next
  with_reducible assumption
  simp -zeta only [framed_mk, k_si, or_true, true_or]
  with_reducible assumption
  with_reducible apply State.advance_framed
  with_reducible assumption
  exact kf.sub rfl
  with_reducible apply answers_next
  with_reducible assumption

theorem execTestPulseEnd_framed {n : Fin 4} {s : State} (hs : State.Framed q b s) (kf : b.free (postParts ++ [Part.reg RegGroup.si, Part.now, Part.si])) :
    answers (execTestPulseEnd n s) (State.Framed q b) := by
  have k_si : b.keep .si = false := kf.get rfl
  unfold execTestPulseEnd
  extract_lets +onlyGivenNames x; clear_value x
  split
  extract_lets +onlyGivenNames x; clear_value x
  extract_lets +onlyGivenNames x; refine (fun (hx : State.Framed q b x) => ?_) ?_ <;> [(try clear_value x); subst x]
  extract_lets +onlyGivenNames x; clear_value x
  extract_lets +onlyGivenNames x; refine (fun (hx : State.Framed q b x) => ?_) ?_ <;> [(try clear_value x); subst x]
  extract_lets +onlyGivenNames x; clear_value x
  with_reducible apply answers_next
  with_reducible apply framed_ite
  with_reducible assumption
  with_reducible apply framed_foldl
  intro _ _ _
  with_reducible apply State.inputFault_framed
  with_reducible assumption
  exact kf.sub rfl
  with_reducible apply State.advance_framed
  with_reducible assumption
  exact kf.sub rfl
  simp -zeta only [framed_mk, k_si, or_true, true_or]
  with_reducible assumption
  with_reducible apply State.advance_framed
  with_reducible assumption
  exact kf.sub rfl
  with_reducible apply answers_next
  with_reducible assumption

theorem State.outputFault_framed {s : State} {k : Fin 12} {one : Bool} (hs : State.Framed q b s) (kf : b.free (postParts ++ [Part.reg RegGroup.si, Part.si])) :
    State.Framed q b (State.outputFault s k one) := by
  unfold State.outputFault
  extract_lets +onlyGivenNames x; clear_value x
  with_reducible apply framed_ite
  with_reducible assumption
  with_reducible apply State.siRecord_framed
  with_reducible apply State.flag_framed
  with_reducible apply State.setSout_framed
  with_reducible assumption
  exact kf.sub rfl
  exact kf.get rfl
  exact kf.sub rfl

theorem execSafeOutputReadbackFault_framed {k : Fin 12} {one : Bool} {s : State} (hs : State.Framed q b s) (kf : b.free (postParts ++ [Part.reg RegGroup.si, Part.si])) :
    answers (execSafeOutputReadbackFault k one s) (State.Framed q b) := by
  unfold execSafeOutputReadbackFault
  with_reducible apply answers_next
  with_reducible apply State.outputFault_framed
  with_reducible assumption
  exact kf.sub rfl

theorem execOutputTestStart_framed {k : Fin 12} {one : Bool} {s : State} (hs : State.Framed q b s) (kf : b.free [Part.now, Part.si]) :
    answers (execOutputTestStart k one s) (State.Framed q b) := by
  unfold execOutputTestStart
  extract_lets +onlyGivenNames x; clear_value x
  extract_lets +onlyGivenNames x; clear_value x
  extract_lets +onlyGivenNames x; refine (fun (hx : State.Framed q b x) => ?_) ?_ <;> [(try clear_value x); subst x]
  extract_lets +onlyGivenNames x; clear_value x
  split
  with_reducible apply answers_next
  with_reducible assumption
  with_reducible apply answers_ite
  with_reducible apply answers_next
  with_reducible assumption
  with_reducible apply answers_ite
  with_reducible apply answers_next
  with_reducible apply State.setSout_framed
  with_reducible assumption
  exact kf.sub rfl
  with_reducible apply answers_next
  with_reducible apply State.setSout_framed
  with_reducible assumption
  exact kf.sub rfl
  with_reducible apply State.advance_framed
  with_reducible assumption
  exact kf.sub rfl

theorem execOutputTestEnd_framed {k : Fin 12} {one : Bool} {low : Option Nat} {high : Option Nat} {s : State} (hs : State.Framed q b s) (kf : b.free (postParts ++ [Part.reg RegGroup.si, Part.now, Part.si])) :
    answers (execOutputTestEnd k one low high s) (State.Framed q b) := by
  unfold execOutputTestEnd
  extract_lets +onlyGivenNames x; clear_value x
  extract_lets +onlyGivenNames x; clear_value x
  split
  extract_lets +onlyGivenNames x; clear_value x
  extract_lets +onlyGivenNames x; refine (fun (hx : State.Framed q b x) => ?_) ?_ <;> [(try clear_value x); subst x]
  with_reducible apply answers_next
  with_reducible apply framed_ite
  with_reducible assumption
  with_reducible apply State.outputFault_framed
  with_reducible apply State.advance_framed
  with_reducible assumption
  exact kf.sub rfl
  exact kf.sub rfl
  with_reducible apply State.setSout_framed
  with_reducible apply State.advance_framed
  with_reducible assumption
  exact kf.sub rfl
  exact kf.sub rfl
  with_reducible apply answers_next
  with_reducible assumption

theorem State.outOn_framed {s : State} {k : Fin 12} (hs : State.Framed q b s) (kf : b.free [Part.si]) : State.Framed q b (State.outOn s k) := by
  unfold State.outOn
  extract_lets +onlyGivenNames x; clear_value x
  extract_lets +onlyGivenNames x; clear_value x
  extract_lets +onlyGivenNames x; clear_value x
  split
  with_reducible apply State.setSout_framed
  with_reducible assumption
  exact kf.sub rfl
  with_reducible apply State.setSout_framed
  with_reducible assumption
  exact kf.sub rfl

theorem State.outOff_framed {s : State} {k : Fin 12} (hs : State.Framed q b s) (kf : b.free [Part.si]) :
    State.Framed q b (State.outOff s k) := by
  unfold State.outOff
  extract_lets +onlyGivenNames x; clear_value x
  with_reducible apply State.setSout_framed
  with_reducible assumption
  exact kf.sub rfl

theorem State.showOutputs_framed {s : State} (hs : State.Framed q b s) (kf : b.free [Part.reg RegGroup.si]) :
    State.Framed q b (State.showOutputs s) := by
  unfold State.showOutputs
  extract_lets +onlyGivenNames x; clear_value x
  with_reducible apply State.put_framed
  with_reducible apply State.put_framed
  with_reducible assumption
  exact kf.get rfl
  exact kf.get rfl

theorem execBrakeDelayExpiry_framed {k : Fin 12} {s : State} (hs : State.Framed q b s) (kf : b.free [Part.reg RegGroup.si, Part.now, Part.si]) :
    answers (execBrakeDelayExpiry k s) (State.Framed q b) := by
  unfold execBrakeDelayExpiry
  split
  with_reducible apply answers_next
  with_reducible apply State.showOutputs_framed
  with_reducible apply State.outOff_framed
  with_reducible apply State.advance_framed
  with_reducible assumption
  exact kf.sub rfl
  exact kf.sub rfl
  exact kf.sub rfl
  with_reducible apply answers_next
  with_reducible assumption

theorem State.siRequest_framed {s : State} {arms : BitVec 8} {op : Nat} (hs : State.Framed q b s) (kf : b.free [Part.si]) :
    State.Framed q b (State.siRequest s arms op) := by
  have k_si : b.keep .si = false := kf.get rfl
  unfold State.siRequest
  extract_lets +onlyGivenNames x; clear_value x
  simp -zeta only [framed_mk, k_si, or_true, true_or]
  with_reducible assumption

theorem execSiReqSto_framed {arms : BitVec 8} {s : State} (hs : State.Framed q b s) (kf : b.free [Part.si]) :
    answers (execSiReqSto arms s) (State.Framed q b) := by
  unfold execSiReqSto
  with_reducible apply answers_next
  with_reducible apply State.siRequest_framed
  with_reducible assumption
  exact kf.sub rfl

theorem execSiReqSs1_framed {arms : BitVec 8} {s : State} (hs : State.Framed q b s) (kf : b.free [Part.si]) :
    answers (execSiReqSs1 arms s) (State.Framed q b) := by
  unfold execSiReqSs1
  with_reducible apply answers_next
  with_reducible apply State.siRequest_framed
  with_reducible assumption
  exact kf.sub rfl

theorem execSiReqSs2_framed {arms : BitVec 8} {s : State} (hs : State.Framed q b s) (kf : b.free [Part.si]) :
    answers (execSiReqSs2 arms s) (State.Framed q b) := by
  unfold execSiReqSs2
  with_reducible apply answers_next
  with_reducible apply State.siRequest_framed
  with_reducible assumption
  exact kf.sub rfl

theorem execSiReqRelease_framed {arms : BitVec 8} {s : State} (hs : State.Framed q b s) (kf : b.free [Part.si]) :
    answers (execSiReqRelease arms s) (State.Framed q b) := by
  unfold execSiReqRelease
  with_reducible apply answers_next
  with_reducible apply State.siRequest_framed
  with_reducible assumption
  exact kf.sub rfl

theorem State.siToken_framed {s : State} {v : Word} (hs : State.Framed q b s) (kf : b.free [Part.si]) :
    State.Framed q b (State.siToken s v) := by
  have k_si : b.keep .si = false := kf.get rfl
  unfold State.siToken
  extract_lets +onlyGivenNames x; clear_value x
  simp -zeta only [framed_mk, k_si, or_true, true_or]
  with_reducible assumption

theorem execSiToken_framed {v : Word} {s : State} (hs : State.Framed q b s) (kf : b.free [Part.si]) :
    answers (execSiToken v s) (State.Framed q b) := by
  unfold execSiToken
  with_reducible apply answers_next
  with_reducible apply State.siToken_framed
  with_reducible assumption
  exact kf.sub rfl

theorem State.setSack_framed {s : State} {one : Bool} {x : Sack} (hs : State.Framed q b s) (kf : b.free [Part.si]) :
    State.Framed q b (State.setSack s one x) := by
  have k_si : b.keep .si = false := kf.get rfl
  unfold State.setSack
  extract_lets +onlyGivenNames x; clear_value x
  with_reducible apply framed_ite
  simp -zeta only [framed_mk, k_si, or_true, true_or]
  with_reducible assumption
  simp -zeta only [framed_mk, k_si, or_true, true_or]
  with_reducible assumption

theorem execSackChange_framed {one : Bool} {level : Bool} {t_ : Nat} {held : Nat} {s : State} (hs : State.Framed q b s) (kf : b.free [Part.now, Part.si]) :
    answers (execSackChange one level t_ held s) (State.Framed q b) := by
  unfold execSackChange
  extract_lets +onlyGivenNames x; clear_value x
  with_reducible apply answers_ite
  with_reducible apply answers_next
  with_reducible apply State.advance_framed
  with_reducible assumption
  exact kf.sub rfl
  with_reducible apply answers_next
  with_reducible apply State.setSack_framed
  with_reducible apply State.advance_framed
  with_reducible assumption
  exact kf.sub rfl
  exact kf.sub rfl

theorem execSackHoldTimeout_framed {one : Bool} {t_ : Nat} {s : State} (hs : State.Framed q b s) (kf : b.free [Part.now, Part.si]) :
    answers (execSackHoldTimeout one t_ s) (State.Framed q b) := by
  unfold execSackHoldTimeout
  extract_lets +onlyGivenNames x; clear_value x
  split
  with_reducible apply answers_ite
  with_reducible apply answers_next
  with_reducible apply State.setSack_framed
  with_reducible apply State.advance_framed
  with_reducible assumption
  exact kf.sub rfl
  exact kf.sub rfl
  with_reducible apply answers_next
  with_reducible assumption
  with_reducible apply answers_next
  with_reducible assumption

theorem execTokenExpiry_framed {t_ : Nat} {s : State} (hs : State.Framed q b s) (kf : b.free [Part.now, Part.si]) :
    answers (execTokenExpiry t_ s) (State.Framed q b) := by
  have k_si : b.keep .si = false := kf.get rfl
  unfold execTokenExpiry
  extract_lets +onlyGivenNames x; refine (fun (hx : State.Framed q b x) => ?_) ?_ <;> [(try clear_value x); subst x]
  extract_lets +onlyGivenNames x; clear_value x
  split
  with_reducible apply answers_ite
  with_reducible apply answers_next
  simp -zeta only [framed_mk, k_si, or_true, true_or]
  with_reducible assumption
  with_reducible apply answers_next
  with_reducible assumption
  with_reducible apply answers_next
  with_reducible assumption
  with_reducible apply State.advance_framed
  with_reducible assumption
  exact kf.sub rfl

theorem State.ackRefused_framed {s : State} {cond : Nat} (hs : State.Framed q b s) (kf : b.free (postParts ++ [Part.reg RegGroup.si])) :
    State.Framed q b (State.ackRefused s cond) := by
  unfold State.ackRefused
  with_reducible apply State.siRecord_framed
  with_reducible apply State.flag_framed
  with_reducible assumption
  exact kf.get rfl
  exact kf.sub rfl

theorem State.judgeEnd_framed {s : State} {fails : Option Nat} {token : Option (Time × BitVec 8 × Bool)} (hs : State.Framed q b s) (kf : b.free (postParts ++ [Part.reg RegGroup.si, Part.si])) :
    State.Framed q b (State.judgeEnd s fails token).1 := by
  have k_si : b.keep .si = false := kf.get rfl
  unfold State.judgeEnd
  extract_lets +onlyGivenNames x; clear_value x
  split
  extract_lets +onlyGivenNames x; refine (fun (hx : State.Framed q b x) => ?_) ?_ <;> [(try clear_value x); subst x]
  simp -zeta only
  with_reducible assumption
  with_reducible apply State.siRecord_framed
  with_reducible apply State.flag_framed
  simp -zeta only [framed_mk, k_si, or_true, true_or]
  with_reducible assumption
  exact kf.get rfl
  exact kf.sub rfl
  simp -zeta only
  with_reducible apply State.ackRefused_framed
  with_reducible assumption
  exact kf.sub rfl

theorem State.judgeLines_framed {s : State} {one : Time × Time} {two : Time × Time} (hs : State.Framed q b s) (kf : b.free (postParts ++ [Part.reg RegGroup.si, Part.si])) :
    State.Framed q b (State.judgeLines s one two).1 := by
  unfold State.judgeLines
  extract_lets +onlyGivenNames x; clear_value x
  extract_lets +onlyGivenNames x; clear_value x
  extract_lets +onlyGivenNames x; refine (fun (hx : State.Framed q b x) => ?_) ?_ <;> [(try clear_value x); subst x]
  with_reducible apply State.judgeEnd_framed
  with_reducible assumption
  exact kf.sub rfl
  with_reducible apply State.setSack_framed
  with_reducible apply State.setSack_framed
  with_reducible assumption
  exact kf.sub rfl
  exact kf.sub rfl

theorem State.judgeReset_framed {s : State} (hs : State.Framed q b s) (kf : b.free (postParts ++ [Part.reg RegGroup.si, Part.si])) :
    State.Framed q b (State.judgeReset s).1 := by
  unfold State.judgeReset
  extract_lets +onlyGivenNames x; clear_value x
  extract_lets +onlyGivenNames x; clear_value x
  split
  with_reducible apply State.judgeLines_framed
  with_reducible assumption
  exact kf.sub rfl
  split
  simp -zeta only
  with_reducible apply State.ackRefused_framed
  with_reducible apply State.setSack_framed
  with_reducible assumption
  exact kf.sub rfl
  exact kf.sub rfl
  split
  simp -zeta only
  with_reducible apply State.ackRefused_framed
  with_reducible apply State.setSack_framed
  with_reducible assumption
  exact kf.sub rfl
  exact kf.sub rfl
  simp -zeta only
  with_reducible assumption

theorem State.captureTokens_framed {s : State} (hs : State.Framed q b s) (kf : b.free (postParts ++ [Part.reg RegGroup.si, Part.si])) :
    State.Framed q b (State.captureTokens s) := by
  have k_si : b.keep .si = false := kf.get rfl
  unfold State.captureTokens
  extract_lets +onlyGivenNames x; clear_value x
  with_reducible apply framed_foldl
  intro _ _ _
  extract_lets +onlyGivenNames x; clear_value x
  with_reducible apply framed_ite
  simp -zeta only [framed_mk, k_si, or_true, true_or]
  with_reducible assumption
  with_reducible apply State.ackRefused_framed
  with_reducible assumption
  exact kf.sub rfl
  simp -zeta only [framed_mk, k_si, or_true, true_or]
  with_reducible assumption

theorem State.islandFault_framed {s : State} {kind : Nat} (hs : State.Framed q b s) (kf : b.free [Part.si, Part.boot]) :
    State.Framed q b (State.islandFault s kind) := by
  have k_si : b.keep .si = false := kf.get rfl
  unfold State.islandFault
  extract_lets +onlyGivenNames x; clear_value x
  with_reducible apply State.mishap_framed
  simp -zeta only [framed_mk, k_si, or_true, true_or]
  with_reducible assumption
  exact kf.sub rfl

theorem execPsetCrcSweep_framed {_one : Bool} {ok : Bool} {s : State} (hs : State.Framed q b s) (kf : b.free [Part.si, Part.boot]) :
    answers (execPsetCrcSweep _one ok s) (State.Framed q b) := by
  unfold execPsetCrcSweep
  with_reducible apply answers_next
  with_reducible apply framed_ite
  with_reducible assumption
  with_reducible apply State.islandFault_framed
  with_reducible assumption
  exact kf.sub rfl

theorem execCoreSupplyWindowFault_framed {s : State} (hs : State.Framed q b s) (kf :
    b.free [Part.si, Part.boot]) :
  answers (execCoreSupplyWindowFault s) (State.Framed q b) := by
  refine answers_next (State.islandFault_framed ?_ (kf.sub rfl))
  exact ⟨hs.1, hs.2.1, hs.2.2.1, hs.2.2.2.1, kept_but hs.2.2.2.2 (kf.get rfl) fun p hp => by
    cases p with
    | boot => exact absurd rfl hp
    | reg g => exact fun _ _ => rfl
    | _ => rfl⟩

theorem State.setChan_framed {s : State} {one : Bool} {c : SafeChannel} (hs : State.Framed q b s) (kf : b.free [Part.si]) :
    State.Framed q b (State.setChan s one c) := by
  have k_si : b.keep .si = false := kf.get rfl
  unfold State.setChan
  extract_lets +onlyGivenNames x; clear_value x
  with_reducible apply framed_ite
  simp -zeta only [framed_mk, k_si, or_true, true_or]
  with_reducible assumption
  simp -zeta only [framed_mk, k_si, or_true, true_or]
  with_reducible assumption

theorem execSeparationCapture_framed {s : State} (hs : State.Framed q b s) (kf : b.free (postParts ++ [Part.reg RegGroup.si, Part.now, Part.si])) :
    answers (execSeparationCapture s) (State.Framed q b) := by
  have k_si : b.keep .si = false := kf.get rfl
  unfold execSeparationCapture
  extract_lets +onlyGivenNames x; clear_value x
  extract_lets +onlyGivenNames x; refine (fun (hx : State.Framed q b x) => ?_) ?_ <;> [(try clear_value x); subst x]
  simp -zeta only
  extract_lets +onlyGivenNames x; refine (fun (hx : State.Framed q b x) => ?_) ?_ <;> [(try clear_value x); subst x]
  extract_lets +onlyGivenNames x; clear_value x
  extract_lets +onlyGivenNames x; clear_value x
  extract_lets +onlyGivenNames x; clear_value x
  extract_lets +onlyGivenNames x; clear_value x
  extract_lets +onlyGivenNames x; clear_value x
  with_reducible apply answers_ite
  with_reducible apply answers_next
  with_reducible assumption
  with_reducible apply answers_next
  simp -zeta only [framed_mk, k_si, or_true, true_or]
  with_reducible assumption
  with_reducible apply State.captureTokens_framed
  with_reducible apply State.judgeReset_framed
  with_reducible assumption
  exact kf.sub rfl
  exact kf.sub rfl
  with_reducible apply State.advance_framed
  with_reducible assumption
  exact kf.sub rfl

theorem execChannelResultPosted_framed {one : Bool} {s : State} (hs : State.Framed q b s) (kf : b.free [Part.si]) :
    answers (execChannelResultPosted one s) (State.Framed q b) := by
  unfold execChannelResultPosted
  extract_lets +onlyGivenNames x; clear_value x
  split
  with_reducible apply answers_next
  with_reducible assumption
  extract_lets +onlyGivenNames x; clear_value x
  extract_lets +onlyGivenNames x; clear_value x
  extract_lets +onlyGivenNames x; clear_value x
  extract_lets +onlyGivenNames x; clear_value x
  extract_lets +onlyGivenNames x; subst x
  with_reducible apply answers_ite
  with_reducible apply answers_next
  with_reducible assumption
  with_reducible apply answers_next
  with_reducible apply State.setChan_framed
  with_reducible assumption
  exact kf.sub rfl

theorem execChannelResultArrival_framed {one : Bool} {s : State} (hs : State.Framed q b s) (kf : b.free [Part.si]) :
    answers (execChannelResultArrival one s) (State.Framed q b) := by
  unfold execChannelResultArrival
  extract_lets +onlyGivenNames x; clear_value x
  split
  with_reducible apply answers_next
  with_reducible apply State.setChan_framed
  with_reducible assumption
  exact kf.sub rfl
  with_reducible apply answers_next
  with_reducible assumption

theorem State.endWindow_framed {s : State} {one : Bool} (hs : State.Framed q b s) (kf : b.free [Part.si, Part.boot]) :
    State.Framed q b (State.endWindow s one) := by
  unfold State.endWindow
  extract_lets +onlyGivenNames x; clear_value x
  extract_lets +onlyGivenNames x; refine (fun (hx : State.Framed q b x) => ?_) ?_ <;> [(try clear_value x); subst x]
  extract_lets +onlyGivenNames x; clear_value x
  with_reducible apply framed_ite
  with_reducible assumption
  split
  extract_lets +onlyGivenNames x; clear_value x
  extract_lets +onlyGivenNames x; clear_value x
  extract_lets +onlyGivenNames x; refine (fun (hx : State.Framed q b x) => ?_) ?_ <;> [(try clear_value x); subst x]
  with_reducible apply framed_ite
  with_reducible apply State.islandFault_framed
  with_reducible assumption
  exact kf.sub rfl
  with_reducible assumption
  with_reducible apply State.setChan_framed
  with_reducible assumption
  exact kf.sub rfl
  with_reducible apply State.islandFault_framed
  with_reducible assumption
  exact kf.sub rfl
  with_reducible apply State.islandFault_framed
  with_reducible assumption
  exact kf.sub rfl
  with_reducible apply State.setChan_framed
  with_reducible assumption
  exact kf.sub rfl

theorem execExchangeWindowEnd_framed {one : Bool} {cycles : Nat} {s : State} (hs : State.Framed q b s) (kf : b.free [Part.si, Part.boot]) :
    answers (execExchangeWindowEnd one cycles s) (State.Framed q b) := by
  unfold execExchangeWindowEnd
  extract_lets +onlyGivenNames x; refine (fun (hx : State.Framed q b x) => ?_) ?_ <;> [(try clear_value x); subst x]
  with_reducible apply answers_next
  with_reducible apply framed_ite
  with_reducible apply State.islandFault_framed
  with_reducible assumption
  exact kf.sub rfl
  with_reducible assumption
  with_reducible apply State.endWindow_framed
  with_reducible assumption
  exact kf.sub rfl

theorem State.stoGroup_framed {s : State} {a : Fin 8} {on : Bool} (hs : State.Framed q b s) (kf : b.free (postParts ++ [Part.reg RegGroup.port, Part.reg RegGroup.stp, Part.ports, Part.axes])) :
    State.Framed q b (State.stoGroup s a on) := by
  unfold State.stoGroup
  extract_lets +onlyGivenNames x; refine (fun (hx : State.Framed q b x) => ?_) ?_ <;> [(try clear_value x); subst x]
  extract_lets +onlyGivenNames x; refine (fun (hx : State.Framed q b x) => ?_) ?_ <;> [(try clear_value x); subst x]
  with_reducible apply framed_ite
  with_reducible assumption
  with_reducible apply State.haltArm_framed
  with_reducible assumption
  exact kf.sub rfl
  with_reducible apply State.judgeArm_framed
  with_reducible assumption
  exact kf.sub rfl
  with_reducible apply framed_foldl
  intro _ _ _
  extract_lets +onlyGivenNames x; clear_value x
  with_reducible apply framed_ite
  with_reducible apply State.setPort_framed
  with_reducible assumption
  exact kf.sub rfl
  with_reducible assumption
  with_reducible assumption

theorem State.commitOutput_framed {s : State} {k : Fin 12} (hs : State.Framed q b s) (kf : b.free (postParts ++ [Part.reg RegGroup.port, Part.reg RegGroup.stp, Part.ports, Part.axes, Part.si])) :
    State.Framed q b (State.commitOutput s k) := by
  unfold State.commitOutput
  extract_lets +onlyGivenNames x; clear_value x
  extract_lets +onlyGivenNames x; clear_value x
  extract_lets +onlyGivenNames x; refine (fun (hx : State.Framed q b x) => ?_) ?_ <;> [(try clear_value x); subst x]
  with_reducible apply framed_ite
  with_reducible apply State.stoGroup_framed
  with_reducible assumption
  exact kf.sub rfl
  with_reducible assumption
  with_reducible apply framed_ite
  with_reducible apply State.outOff_framed
  with_reducible assumption
  exact kf.sub rfl
  with_reducible apply framed_ite
  with_reducible apply framed_ite
  with_reducible apply State.outOn_framed
  with_reducible assumption
  exact kf.sub rfl
  with_reducible apply State.outOff_framed
  with_reducible assumption
  exact kf.sub rfl
  with_reducible apply framed_ite
  with_reducible apply framed_ite
  with_reducible apply State.outOn_framed
  with_reducible assumption
  exact kf.sub rfl
  with_reducible apply framed_ite
  with_reducible apply framed_ite
  with_reducible apply State.outOff_framed
  with_reducible assumption
  exact kf.sub rfl
  with_reducible apply State.setSout_framed
  with_reducible assumption
  exact kf.sub rfl
  with_reducible assumption
  with_reducible apply framed_ite
  with_reducible apply State.outOn_framed
  with_reducible assumption
  exact kf.sub rfl
  with_reducible apply State.outOff_framed
  with_reducible assumption
  exact kf.sub rfl

theorem State.newNonce_framed {s : State} (hs : State.Framed q b s) (kf : b.free [Part.reg RegGroup.si, Part.fresh]) :
    State.Framed q b (State.newNonce s) := by
  unfold State.newNonce
  with_reducible apply State.useFresh_framed
  with_reducible apply State.put_framed
  with_reducible assumption
  exact kf.get rfl
  exact kf.sub rfl

theorem State.recordCauses_framed {s : State} {a : Fin 8} {now : List Nat} (hs : State.Framed q b s) (kf : b.free (postParts)) :
    State.Framed q b (State.recordCauses s a now) := by
  unfold State.recordCauses
  extract_lets +onlyGivenNames x; clear_value x
  extract_lets +onlyGivenNames x; refine (fun (hx : State.Framed q b x) => ?_) ?_ <;> [(try clear_value x); subst x]
  with_reducible apply framed_foldl
  intro _ _ _
  with_reducible apply State.post_framed
  with_reducible assumption
  exact kf.sub rfl
  with_reducible assumption
  with_reducible apply framed_foldl
  intro _ _ _
  with_reducible apply State.post_framed
  with_reducible assumption
  exact kf.sub rfl
  with_reducible assumption

theorem State.moveArm_framed {s : State} {a : Fin 8} {to_ : Nat} {cause : Nat} (hs : State.Framed q b s) (kf : b.free (postParts ++ [Part.reg RegGroup.si, Part.si])) :
    State.Framed q b (State.moveArm s a to_ cause) := by
  unfold State.moveArm
  extract_lets +onlyGivenNames x; clear_value x
  extract_lets +onlyGivenNames x; clear_value x
  extract_lets +onlyGivenNames x; subst x
  extract_lets +onlyGivenNames x; refine (fun (hx : State.Framed q b x) => ?_) ?_ <;> [(try clear_value x); subst x]
  with_reducible apply framed_ite
  with_reducible assumption
  with_reducible apply State.put_framed
  with_reducible apply State.post_framed
  with_reducible assumption
  exact kf.sub rfl
  exact kf.get rfl
  with_reducible apply State.setSarm_framed
  with_reducible assumption
  exact kf.sub rfl

theorem State.commitArm_framed {s : State} {a : Fin 8} {es : List SafeEvent} {active : List Nat} {n : SafeSnap} (hs : State.Framed q b s) (kf : b.free (postParts ++ [Part.reg RegGroup.si, Part.fresh, Part.si])) :
    State.Framed q b (State.commitArm s a es active n) := by
  unfold State.commitArm
  extract_lets +onlyGivenNames x; clear_value x
  extract_lets +onlyGivenNames x; clear_value x
  extract_lets +onlyGivenNames x; refine (fun (hx : State.Framed q b x) => ?_) ?_ <;> [(try clear_value x); subst x]
  extract_lets +onlyGivenNames x; refine (fun (hx : State.Framed q b x) => ?_) ?_ <;> [(try clear_value x); subst x]
  extract_lets +onlyGivenNames x; refine (fun (hx : State.Framed q b x) => ?_) ?_ <;> [(try clear_value x); subst x]
  extract_lets +onlyGivenNames x; clear_value x
  extract_lets +onlyGivenNames x; refine (fun (hx : State.Framed q b x) => ?_) ?_ <;> [(try clear_value x); subst x]
  extract_lets +onlyGivenNames x; clear_value x
  extract_lets +onlyGivenNames x; clear_value x
  extract_lets +onlyGivenNames x; clear_value x
  with_reducible apply framed_ite
  with_reducible apply State.useFresh_framed
  with_reducible apply State.moveArm_framed
  with_reducible assumption
  exact kf.sub rfl
  exact kf.sub rfl
  with_reducible apply framed_ite
  with_reducible apply State.moveArm_framed
  with_reducible assumption
  exact kf.sub rfl
  with_reducible apply framed_ite
  with_reducible apply framed_ite
  with_reducible apply State.moveArm_framed
  with_reducible assumption
  exact kf.sub rfl
  with_reducible apply State.put_framed
  with_reducible assumption
  exact kf.get rfl
  with_reducible assumption
  with_reducible apply State.setSarm_framed
  with_reducible assumption
  exact kf.sub rfl
  with_reducible apply State.recordCauses_framed
  with_reducible assumption
  exact kf.sub rfl
  with_reducible apply framed_ite
  with_reducible apply State.post_framed
  with_reducible assumption
  exact kf.sub rfl
  with_reducible assumption
  with_reducible apply framed_ite
  with_reducible apply State.put_framed
  with_reducible assumption
  exact kf.get rfl
  with_reducible assumption

theorem State.showArm_framed {s : State} {n : SafeSnap} {a : Fin 8} (hs : State.Framed q b s) (kf : b.free [Part.reg RegGroup.si]) :
    State.Framed q b (State.showArm s n a) := by
  unfold State.showArm
  extract_lets +onlyGivenNames x; clear_value x
  with_reducible apply State.put_framed
  with_reducible apply State.putB_framed
  with_reducible apply State.putB_framed
  with_reducible apply State.putB_framed
  with_reducible apply State.put_framed
  with_reducible assumption
  exact kf.get rfl
  exact kf.get rfl
  exact kf.get rfl
  exact kf.get rfl
  exact kf.get rfl

theorem State.publishAll_framed {s : State} {n : SafeSnap} {rs : List ChanResult} (hs : State.Framed q b s) (kf : b.free [Part.reg RegGroup.si]) :
    State.Framed q b (State.publishAll s n rs) := by
  unfold State.publishAll
  extract_lets +onlyGivenNames x; clear_value x
  extract_lets +onlyGivenNames x; refine (fun (hx : State.Framed q b x) => ?_) ?_ <;> [(try clear_value x); subst x]
  extract_lets +onlyGivenNames x; refine (fun (hx : State.Framed q b x) => ?_) ?_ <;> [(try clear_value x); subst x]
  with_reducible apply framed_foldl
  intro _ _ _
  with_reducible apply State.wr_framed
  with_reducible assumption
  exact kf.get rfl
  with_reducible assumption
  with_reducible apply framed_foldl
  intro _ _ _
  with_reducible apply framed_ite
  with_reducible apply State.wr_framed
  with_reducible assumption
  exact kf.get rfl
  with_reducible assumption
  with_reducible assumption
  with_reducible apply framed_foldl
  intro _ _ _
  extract_lets +onlyGivenNames x; clear_value x
  extract_lets +onlyGivenNames x; clear_value x
  with_reducible apply State.wr_framed
  with_reducible apply State.wr_framed
  with_reducible apply State.wr_framed
  with_reducible assumption
  exact kf.get rfl
  exact kf.get rfl
  exact kf.get rfl
  with_reducible assumption

theorem State.showConn_framed {s : State} {n : SafeSnap} {c : Fin 64} (hs : State.Framed q b s) (kf : b.free (postParts ++ [Part.reg RegGroup.si])) :
    State.Framed q b (State.showConn s n c) := by
  unfold State.showConn
  extract_lets +onlyGivenNames x; clear_value x
  extract_lets +onlyGivenNames x; clear_value x
  extract_lets +onlyGivenNames x; clear_value x
  split
  with_reducible assumption
  extract_lets +onlyGivenNames x; refine (fun (hx : State.Framed q b x) => ?_) ?_ <;> [(try clear_value x); subst x]
  extract_lets +onlyGivenNames x; refine (fun (hx : State.Framed q b x) => ?_) ?_ <;> [(try clear_value x); subst x]
  extract_lets +onlyGivenNames x; refine (fun (hx : State.Framed q b x) => ?_) ?_ <;> [(try clear_value x); subst x]
  with_reducible apply framed_ite
  with_reducible assumption
  with_reducible apply State.post_framed
  with_reducible apply State.flag_framed
  with_reducible assumption
  exact kf.get rfl
  exact kf.sub rfl
  with_reducible apply State.wr_framed
  with_reducible assumption
  exact kf.get rfl
  with_reducible apply State.wr_framed
  with_reducible apply State.wr_framed
  with_reducible assumption
  exact kf.get rfl
  exact kf.get rfl
  with_reducible apply State.put_framed
  with_reducible apply State.put_framed
  with_reducible apply State.putB_framed
  with_reducible apply State.put_framed
  with_reducible assumption
  exact kf.get rfl
  exact kf.get rfl
  exact kf.get rfl
  exact kf.get rfl

theorem State.returnTelegram_framed {s : State} {n : SafeSnap} {c : Fin 64} {r1 : ChanResult} {r2 : ChanResult} (hs : State.Framed q b s) (kf : b.free [Part.si]) :
    State.Framed q b (State.returnTelegram s n c r1 r2) := by
  have k_si : b.keep .si = false := kf.get rfl
  unfold State.returnTelegram
  extract_lets +onlyGivenNames x; clear_value x
  extract_lets +onlyGivenNames x; clear_value x
  split
  with_reducible apply framed_ite
  with_reducible assumption
  split
  extract_lets +onlyGivenNames x; clear_value x
  extract_lets +onlyGivenNames x; clear_value x
  extract_lets +onlyGivenNames x; clear_value x
  extract_lets +onlyGivenNames x; clear_value x
  extract_lets +onlyGivenNames x; clear_value x
  extract_lets +onlyGivenNames x; clear_value x
  extract_lets +onlyGivenNames x; clear_value x
  extract_lets +onlyGivenNames x; clear_value x
  with_reducible apply framed_ite
  simp -zeta only [framed_mk, k_si, or_true, true_or]
  with_reducible assumption
  simp -zeta only [framed_mk, k_si, or_true, true_or]
  with_reducible assumption
  with_reducible assumption
  with_reducible assumption

theorem State.closeConn_framed {s : State} {c : Fin 64} (hs : State.Framed q b s) (kf : b.free (postParts ++ [Part.reg RegGroup.si])) :
    State.Framed q b (State.closeConn s c) := by
  unfold State.closeConn
  extract_lets +onlyGivenNames x; clear_value x
  extract_lets +onlyGivenNames x; refine (fun (hx : State.Framed q b x) => ?_) ?_ <;> [(try clear_value x); subst x]
  split
  with_reducible assumption
  with_reducible apply framed_ite
  with_reducible assumption
  with_reducible apply State.post_framed
  with_reducible apply State.flag_framed
  with_reducible assumption
  exact kf.get rfl
  exact kf.sub rfl
  with_reducible apply State.wr_framed
  with_reducible apply State.wr_framed
  with_reducible apply State.wr_framed
  with_reducible apply State.wr_framed
  with_reducible assumption
  exact kf.get rfl
  exact kf.get rfl
  exact kf.get rfl
  exact kf.get rfl

theorem State.openConn_framed {s : State} {c : Fin 64} (hs : State.Framed q b s) (kf : b.free (postParts ++ [Part.reg RegGroup.si])) :
    State.Framed q b (State.openConn s c) := by
  unfold State.openConn
  split
  with_reducible assumption
  with_reducible apply State.post_framed
  with_reducible apply State.flag_framed
  with_reducible apply State.put_framed
  with_reducible assumption
  exact kf.get rfl
  exact kf.get rfl
  exact kf.sub rfl

theorem State.useSet_framed {s : State} {p : Option PSet} {k : Option (Fin 2)} (hs : State.Framed q b s) (kf : b.free (postParts ++ [Part.reg RegGroup.si, Part.si])) :
    State.Framed q b (State.useSet s p k) := by
  have k_si : b.keep .si = false := kf.get rfl
  unfold State.useSet
  extract_lets +onlyGivenNames x; clear_value x
  extract_lets +onlyGivenNames x; refine (fun (hx : State.Framed q b x) => ?_) ?_ <;> [(try clear_value x); subst x]
  extract_lets +onlyGivenNames x; clear_value x
  extract_lets +onlyGivenNames x; clear_value x
  extract_lets +onlyGivenNames x; refine (fun (hx : State.Framed q b x) => ?_) ?_ <;> [(try clear_value x); subst x]
  extract_lets +onlyGivenNames x; refine (fun (hx : State.Framed q b x) => ?_) ?_ <;> [(try clear_value x); subst x]
  with_reducible apply State.put_framed
  with_reducible apply State.wr_framed
  with_reducible apply State.wr_framed
  with_reducible assumption
  exact kf.get rfl
  exact kf.get rfl
  exact kf.get rfl
  with_reducible apply State.timeInputs_framed
  with_reducible apply framed_foldl
  intro _ _ _
  with_reducible apply State.openConn_framed
  with_reducible assumption
  exact kf.sub rfl
  with_reducible assumption
  exact kf.sub rfl
  simp -zeta only [framed_mk, k_si, or_true, true_or]
  with_reducible assumption
  with_reducible apply framed_foldl
  intro _ _ _
  with_reducible apply State.closeConn_framed
  with_reducible assumption
  exact kf.sub rfl
  with_reducible assumption

theorem State.activate_framed {s : State} (hs : State.Framed q b s) (kf : b.free (postParts ++ [Part.reg RegGroup.si, Part.si])) :
    State.Framed q b (State.activate s) := by
  have k_si : b.keep .si = false := kf.get rfl
  unfold State.activate
  split
  with_reducible assumption
  with_reducible apply framed_ite
  split
  with_reducible apply State.siRecord_framed
  with_reducible apply State.flag_framed
  with_reducible assumption
  exact kf.get rfl
  exact kf.sub rfl
  extract_lets +onlyGivenNames x; refine (fun (hx : State.Framed q b x) => ?_) ?_ <;> [(try clear_value x); subst x]
  extract_lets +onlyGivenNames x; clear_value x
  extract_lets +onlyGivenNames x; refine (fun (hx : State.Framed q b x) => ?_) ?_ <;> [(try clear_value x); subst x]
  extract_lets +onlyGivenNames x; refine (fun (hx : State.Framed q b x) => ?_) ?_ <;> [(try clear_value x); subst x]
  extract_lets +onlyGivenNames x; refine (fun (hx : State.Framed q b x) => ?_) ?_ <;> [(try clear_value x); subst x]
  with_reducible apply State.siRecord_framed
  with_reducible apply State.flag_framed
  with_reducible assumption
  exact kf.get rfl
  exact kf.sub rfl
  with_reducible apply framed_foldl
  intro _ _ _
  extract_lets +onlyGivenNames x; clear_value x
  with_reducible apply State.setSarm_framed
  with_reducible assumption
  exact kf.sub rfl
  with_reducible assumption
  with_reducible apply framed_foldl
  intro _ _ _
  extract_lets +onlyGivenNames x; clear_value x
  with_reducible apply State.moveArm_framed
  with_reducible apply State.setSarm_framed
  with_reducible assumption
  exact kf.sub rfl
  exact kf.sub rfl
  with_reducible assumption
  with_reducible apply State.put_framed
  simp -zeta only [framed_mk, k_si, or_true, true_or]
  with_reducible assumption
  exact kf.get rfl
  with_reducible apply State.useSet_framed
  with_reducible assumption
  exact kf.sub rfl
  with_reducible assumption

theorem State.commitFaults_framed {s : State} (hs : State.Framed q b s) (kf : b.free (postParts ++ [Part.reg RegGroup.si, Part.si])) :
    State.Framed q b (State.commitFaults s) := by
  have k_si : b.keep .si = false := kf.get rfl
  unfold State.commitFaults
  with_reducible apply framed_foldl
  intro _ _ _
  extract_lets +onlyGivenNames x; refine (fun (hx : State.Framed q b x) => ?_) ?_ <;> [(try clear_value x); subst x]
  extract_lets +onlyGivenNames x; clear_value x
  with_reducible apply framed_ite
  with_reducible assumption
  with_reducible apply State.put_framed
  simp -zeta only [framed_mk, k_si, or_true, true_or]
  with_reducible assumption
  exact kf.get rfl
  with_reducible apply State.siRecord_framed
  with_reducible apply State.flag_framed
  with_reducible assumption
  split
  exact kf.get rfl
  exact kf.get rfl
  exact kf.sub rfl
  with_reducible assumption

theorem State.clearOutputs_framed {s : State} {m : BitVec 8} (hs : State.Framed q b s) (kf : b.free [Part.si]) :
    State.Framed q b (State.clearOutputs s m) := by
  unfold State.clearOutputs
  with_reducible apply framed_foldl
  intro _ _ _
  extract_lets +onlyGivenNames x; clear_value x
  with_reducible apply framed_ite
  with_reducible apply State.setSout_framed
  with_reducible assumption
  exact kf.sub rfl
  with_reducible assumption
  with_reducible assumption

theorem State.updCommit_framed {s : State} (hs : State.Framed q b s) (kf : b.free (postParts ++ [Part.reg RegGroup.si, Part.si, Part.boot])) :
    State.Framed q b (State.updCommit s) := by
  have k_si : b.keep .si = false := kf.get rfl
  unfold State.updCommit
  extract_lets +onlyGivenNames x; clear_value x
  extract_lets +onlyGivenNames x; clear_value x
  extract_lets +onlyGivenNames x; refine (fun (hx : State.Framed q b x) => ?_) ?_ <;> [(try clear_value x); subst x]
  extract_lets +onlyGivenNames x; clear_value x
  extract_lets +onlyGivenNames x; refine (fun (hx : State.Framed q b x) => ?_) ?_ <;> [(try clear_value x); subst x]
  split
  with_reducible apply State.updUpd_framed
  with_reducible apply State.setRunsAll_framed
  simp -zeta only [framed_mk, k_si, or_true, true_or]
  with_reducible assumption
  exact kf.sub rfl
  exact kf.sub rfl
  with_reducible apply framed_ite
  with_reducible apply State.startWindow_framed
  with_reducible apply State.updUpd_framed
  with_reducible assumption
  exact kf.sub rfl
  exact kf.sub rfl
  with_reducible assumption
  with_reducible apply State.setRunsAll_framed
  simp -zeta only [framed_mk, k_si, or_true, true_or]
  with_reducible assumption
  exact kf.sub rfl
  with_reducible apply framed_foldl
  intro _ _ _
  with_reducible apply framed_ite
  with_reducible apply State.moveArm_framed
  with_reducible assumption
  exact kf.sub rfl
  with_reducible assumption
  with_reducible assumption

theorem State.commitBegin_framed {s : State} {n : SafeSnap} (hs : State.Framed q b s) (kf : b.free (postParts ++ [Part.reg RegGroup.si, Part.si])) :
    State.Framed q b (State.commitBegin s n) := by
  unfold State.commitBegin
  extract_lets +onlyGivenNames x; refine (fun (hx : State.Framed q b x) => ?_) ?_ <;> [(try clear_value x); subst x]
  extract_lets +onlyGivenNames x; refine (fun (hx : State.Framed q b x) => ?_) ?_ <;> [(try clear_value x); subst x]
  extract_lets +onlyGivenNames x; refine (fun (hx : State.Framed q b x) => ?_) ?_ <;> [(try clear_value x); subst x]
  split
  with_reducible apply State.clearOutputs_framed
  with_reducible assumption
  exact kf.sub rfl
  with_reducible assumption
  with_reducible apply State.commitFaults_framed
  with_reducible assumption
  exact kf.sub rfl
  with_reducible apply framed_foldl
  intro _ _ _
  with_reducible apply State.showConn_framed
  with_reducible assumption
  exact kf.sub rfl
  with_reducible assumption
  with_reducible apply framed_foldl
  intro _ _ _
  split
  with_reducible apply State.setConn_framed
  with_reducible assumption
  exact kf.sub rfl
  with_reducible assumption
  with_reducible assumption

theorem State.commitArms_framed {s0 : State} {n : SafeSnap} {rs : List ChanResult} (hs0 : State.Framed q b s0) (kf : b.free (postParts ++ [Part.reg RegGroup.si, Part.fresh, Part.si, Part.boot])) :
    State.Framed q b (State.commitArms s0 n rs) := by
  have k_si : b.keep .si = false := kf.get rfl
  unfold State.commitArms
  extract_lets +onlyGivenNames x; refine (fun (hx : State.Framed q b x) => ?_) ?_ <;> [(try clear_value x); subst x]
  extract_lets +onlyGivenNames x; refine (fun (hx : State.Framed q b x) => ?_) ?_ <;> [(try clear_value x); subst x]
  extract_lets +onlyGivenNames x; refine (fun (hx : State.Framed q b x) => ?_) ?_ <;> [(try clear_value x); subst x]
  extract_lets +onlyGivenNames x; clear_value x
  extract_lets +onlyGivenNames x; refine (fun (hx : State.Framed q b x) => ?_) ?_ <;> [(try clear_value x); subst x]
  extract_lets +onlyGivenNames x; clear_value x
  with_reducible apply State.updCommit_framed
  simp -zeta only [framed_mk, k_si, or_true, true_or]
  with_reducible assumption
  exact kf.sub rfl
  with_reducible apply framed_ite
  with_reducible apply State.newNonce_framed
  with_reducible assumption
  exact kf.sub rfl
  with_reducible assumption
  split
  with_reducible apply State.activate_framed
  with_reducible assumption
  exact kf.sub rfl
  with_reducible assumption
  with_reducible apply framed_foldl
  intro _ _ _
  extract_lets +onlyGivenNames x; clear_value x
  extract_lets +onlyGivenNames x; clear_value x
  extract_lets +onlyGivenNames x; clear_value x
  with_reducible apply State.commitArm_framed
  with_reducible assumption
  exact kf.sub rfl
  with_reducible assumption
  with_reducible assumption

theorem State.commitShow_framed {s : State} {n : SafeSnap} {rs : List ChanResult} (hs : State.Framed q b s) (kf : b.free (postParts ++ [Part.reg RegGroup.port, Part.reg RegGroup.stp, Part.reg RegGroup.si, Part.ports, Part.axes, Part.si])) :
    State.Framed q b (State.commitShow s n rs) := by
  unfold State.commitShow
  extract_lets +onlyGivenNames x; refine (fun (hx : State.Framed q b x) => ?_) ?_ <;> [(try clear_value x); subst x]
  extract_lets +onlyGivenNames x; refine (fun (hx : State.Framed q b x) => ?_) ?_ <;> [(try clear_value x); subst x]
  extract_lets +onlyGivenNames x; refine (fun (hx : State.Framed q b x) => ?_) ?_ <;> [(try clear_value x); subst x]
  extract_lets +onlyGivenNames x; refine (fun (hx : State.Framed q b x) => ?_) ?_ <;> [(try clear_value x); subst x]
  split
  with_reducible apply framed_foldl
  intro _ _ _
  with_reducible apply State.returnTelegram_framed
  with_reducible assumption
  exact kf.sub rfl
  with_reducible assumption
  with_reducible assumption
  with_reducible apply State.showOutputs_framed
  with_reducible assumption
  exact kf.sub rfl
  with_reducible apply framed_foldl
  intro _ _ _
  with_reducible apply State.commitOutput_framed
  with_reducible assumption
  exact kf.sub rfl
  with_reducible assumption
  with_reducible apply State.publishAll_framed
  with_reducible assumption
  exact kf.sub rfl
  with_reducible apply framed_foldl
  intro _ _ _
  with_reducible apply State.showArm_framed
  with_reducible assumption
  exact kf.sub rfl
  with_reducible assumption

theorem State.commitEnd_framed {s : State} {n : SafeSnap} {rs : List ChanResult} (hs : State.Framed q b s) (kf : b.free [Part.reg RegGroup.si, Part.si]) :
    State.Framed q b (State.commitEnd s n rs) := by
  have k_si : b.keep .si = false := kf.get rfl
  unfold State.commitEnd
  extract_lets +onlyGivenNames x; clear_value x
  extract_lets +onlyGivenNames x; refine (fun (hx : State.Framed q b x) => ?_) ?_ <;> [(try clear_value x); subst x]
  extract_lets +onlyGivenNames x; refine (fun (hx : State.Framed q b x) => ?_) ?_ <;> [(try clear_value x); subst x]
  extract_lets +onlyGivenNames x; refine (fun (hx : State.Framed q b x) => ?_) ?_ <;> [(try clear_value x); subst x]
  extract_lets +onlyGivenNames x; refine (fun (hx : State.Framed q b x) => ?_) ?_ <;> [(try clear_value x); subst x]
  extract_lets +onlyGivenNames x; refine (fun (hx : State.Framed q b x) => ?_) ?_ <;> [(try clear_value x); subst x]
  extract_lets +onlyGivenNames x; clear_value x
  extract_lets +onlyGivenNames x; clear_value x
  with_reducible apply State.count_framed
  simp -zeta only [framed_mk, k_si, or_true, true_or]
  with_reducible assumption
  exact kf.get rfl
  with_reducible apply framed_foldl
  intro _ _ _
  with_reducible apply State.wr_framed
  with_reducible assumption
  exact kf.get rfl
  with_reducible assumption
  with_reducible apply State.wr_framed
  with_reducible assumption
  exact kf.get rfl
  with_reducible apply State.put_framed
  with_reducible assumption
  exact kf.get rfl
  with_reducible apply framed_ite
  with_reducible apply State.flag_framed
  with_reducible assumption
  exact kf.get rfl
  with_reducible assumption
  with_reducible apply State.put_framed
  with_reducible apply State.put_framed
  with_reducible assumption
  exact kf.get rfl
  exact kf.get rfl

theorem execSeparationCommit_framed {s : State} (hs : State.Framed q b s) (kf : b.free (postParts ++ [Part.reg RegGroup.port, Part.reg RegGroup.stp, Part.reg RegGroup.si, Part.now, Part.fresh, Part.ports, Part.axes, Part.si, Part.boot])) :
    answers (execSeparationCommit s) (State.Framed q b) := by
  unfold execSeparationCommit
  split
  with_reducible apply answers_next
  with_reducible assumption
  extract_lets +onlyGivenNames x; refine (fun (hx : State.Framed q b x) => ?_) ?_ <;> [(try clear_value x); subst x]
  extract_lets +onlyGivenNames x; clear_value x
  extract_lets +onlyGivenNames x; refine (fun (hx : State.Framed q b x) => ?_) ?_ <;> [(try clear_value x); subst x]
  extract_lets +onlyGivenNames x; clear_value x
  with_reducible apply answers_next
  with_reducible apply State.commitEnd_framed
  with_reducible apply State.commitShow_framed
  with_reducible apply State.commitArms_framed
  with_reducible assumption
  exact kf.sub rfl
  exact kf.sub rfl
  exact kf.sub rfl
  with_reducible apply State.commitBegin_framed
  with_reducible assumption
  exact kf.sub rfl
  with_reducible apply State.advance_framed
  with_reducible apply State.endWindow_framed
  with_reducible apply State.endWindow_framed
  with_reducible assumption
  exact kf.sub rfl
  exact kf.sub rfl
  exact kf.sub rfl

theorem State.safeClockFault_framed {s : State} (hs : State.Framed q b s) (kf : b.free (postParts ++ [Part.reg RegGroup.port, Part.reg RegGroup.stp, Part.reg RegGroup.si, Part.ports, Part.axes, Part.si, Part.boot])) :
    State.Framed q b (State.safeClockFault s) := by
  have k_si : b.keep .si = false := kf.get rfl
  unfold State.safeClockFault
  extract_lets +onlyGivenNames x; clear_value x
  extract_lets +onlyGivenNames x; refine (fun (hx : State.Framed q b x) => ?_) ?_ <;> [(try clear_value x); subst x]
  extract_lets +onlyGivenNames x; refine (fun (hx : State.Framed q b x) => ?_) ?_ <;> [(try clear_value x); subst x]
  with_reducible apply framed_foldl
  intro _ _ _
  with_reducible apply State.stoGroup_framed
  with_reducible assumption
  exact kf.sub rfl
  with_reducible apply State.showOutputs_framed
  with_reducible assumption
  exact kf.sub rfl
  with_reducible apply framed_foldl
  intro _ _ _
  with_reducible apply State.outOff_framed
  with_reducible assumption
  exact kf.sub rfl
  with_reducible assumption
  with_reducible apply State.mishap_framed
  simp -zeta only [framed_mk, k_si, or_true, true_or]
  with_reducible assumption
  exact kf.sub rfl

theorem State.chainState_framed {s : State} {st : Nat} (hs : State.Framed q b s) (kf : b.free (postParts ++ [Part.reg RegGroup.ch, Part.ic, Part.boot])) :
    State.Framed q b (State.chainState s st) := by
  unfold State.chainState
  extract_lets +onlyGivenNames x; clear_value x
  with_reducible apply framed_ite
  with_reducible assumption
  with_reducible apply State.post_framed
  with_reducible apply State.raise_framed
  with_reducible apply State.put_framed
  with_reducible apply framed_ite
  with_reducible apply State.mishap_framed
  with_reducible assumption
  exact kf.sub rfl
  with_reducible assumption
  exact kf.get rfl
  exact kf.sub rfl
  exact kf.sub rfl

theorem State.chainLost_framed {s : State} (hs : State.Framed q b s) (kf : b.free [Part.reg RegGroup.tb, Part.time, Part.ic, Part.chain]) :
    State.Framed q b s.chainLost := by
  have k1 : b.keep .time = false := kf.get rfl
  have h : State.Framed q b { s with time := { s.time with chainValid := false } } := by
    simp only [framed_mk, k1, or_true, true_or]
    exact hs
  exact framed_ite (State.toHoldover_framed (State.raise_framed h (kf.sub rfl)) (kf.sub rfl)) h

theorem State.toListen_framed {s : State} (hs : State.Framed q b s) (kf : b.free (postParts ++ [Part.reg RegGroup.tb, Part.reg RegGroup.ch, Part.time, Part.ic, Part.chain, Part.boot])) :
    State.Framed q b (State.toListen s) := by
  have k_chain : b.keep .chain = false := kf.get rfl
  unfold State.toListen
  extract_lets +onlyGivenNames x; refine (fun (hx : State.Framed q b x) => ?_) ?_ <;> [(try clear_value x); subst x]
  extract_lets +onlyGivenNames x; clear_value x
  with_reducible apply State.chainState_framed
  simp -zeta only [framed_mk, k_chain, or_true, true_or]
  with_reducible assumption
  exact kf.sub rfl
  with_reducible apply framed_ite
  with_reducible apply State.chainLost_framed
  with_reducible assumption
  exact kf.sub rfl
  with_reducible assumption

theorem State.claspModes_framed {s : State} {window : Bool} (hs : State.Framed q b s) (kf : b.free [Part.reg RegGroup.cp]) :
    State.Framed q b (State.claspModes s window) := by
  unfold State.claspModes
  with_reducible apply framed_foldl
  intro _ _ _
  with_reducible apply framed_ite
  with_reducible apply State.putB_framed
  with_reducible assumption
  exact kf.get rfl
  with_reducible assumption
  with_reducible assumption

theorem State.chainOff_framed {s : State} (hs : State.Framed q b s) (kf : b.free (postParts ++ [Part.reg RegGroup.tb, Part.reg RegGroup.ch, Part.reg RegGroup.cp, Part.time, Part.ic, Part.chain, Part.boot])) :
    State.Framed q b (State.chainOff s) := by
  have k_chain : b.keep .chain = false := kf.get rfl
  unfold State.chainOff
  extract_lets +onlyGivenNames x; refine (fun (hx : State.Framed q b x) => ?_) ?_ <;> [(try clear_value x); subst x]
  extract_lets +onlyGivenNames x; clear_value x
  with_reducible apply State.chainState_framed
  with_reducible apply State.put_framed
  with_reducible apply State.claspModes_framed
  simp -zeta only [framed_mk, k_chain, or_true, true_or]
  with_reducible assumption
  exact kf.sub rfl
  exact kf.get rfl
  exact kf.sub rfl
  with_reducible apply framed_ite
  with_reducible apply State.chainLost_framed
  with_reducible assumption
  exact kf.sub rfl
  with_reducible assumption

theorem State.chainCtrl_framed {s : State} {v : Word} (hs : State.Framed q b s) (kf : b.free (postParts ++ [Part.reg RegGroup.tb, Part.reg RegGroup.ch, Part.reg RegGroup.cp, Part.time, Part.ic, Part.chain, Part.boot])) :
    State.Framed q b (State.chainCtrl s v) := by
  have k_chain : b.keep .chain = false := kf.get rfl
  unfold State.chainCtrl
  extract_lets +onlyGivenNames x; refine (fun (hx : State.Framed q b x) => ?_) ?_ <;> [(try clear_value x); subst x]
  extract_lets +onlyGivenNames x; clear_value x
  extract_lets +onlyGivenNames x; clear_value x
  extract_lets +onlyGivenNames x; clear_value x
  with_reducible apply framed_ite
  with_reducible assumption
  with_reducible apply framed_ite
  with_reducible apply State.chainOff_framed
  with_reducible apply State.put_framed
  with_reducible assumption
  exact kf.get rfl
  exact kf.sub rfl
  with_reducible apply framed_ite
  with_reducible apply State.toListen_framed
  with_reducible apply State.wr_framed
  with_reducible apply State.put_framed
  simp -zeta only [framed_mk, k_chain, or_true, true_or]
  with_reducible assumption
  exact kf.get rfl
  exact kf.get rfl
  exact kf.sub rfl
  with_reducible apply State.flag_framed
  with_reducible assumption
  exact kf.get rfl
  with_reducible apply State.putB_framed
  with_reducible assumption
  exact kf.get rfl

theorem execChainEnWrite_framed {v : Word} {s : State} (hs : State.Framed q b s) (kf : b.free (postParts ++ [Part.reg RegGroup.tb, Part.reg RegGroup.ch, Part.reg RegGroup.cp, Part.time, Part.ic, Part.chain, Part.boot])) :
    answers (execChainEnWrite v s) (State.Framed q b) := by
  unfold execChainEnWrite
  with_reducible apply answers_next
  with_reducible apply State.chainCtrl_framed
  with_reducible assumption
  exact kf.sub rfl

theorem State.schedWrite_framed {s : State} {o : Nat} {bs : List Byte} (hs : State.Framed q b s) (kf : b.free [Part.reg RegGroup.ch, Part.mem]) :
    State.Framed q b (State.schedWrite s o bs) := by
  unfold State.schedWrite
  with_reducible apply framed_ite
  with_reducible apply State.flag_framed
  with_reducible assumption
  exact kf.get rfl
  with_reducible apply State.mwrite_framed
  with_reducible assumption
  exact kf.sub rfl

theorem execChainScheduleWrite_framed {o : Nat} {bytes : List Byte} {s : State} (hs : State.Framed q b s) (kf : b.free [Part.reg RegGroup.ch, Part.mem]) :
    answers (execChainScheduleWrite o bytes s) (State.Framed q b) := by
  unfold execChainScheduleWrite
  with_reducible apply answers_next
  with_reducible apply State.schedWrite_framed
  with_reducible assumption
  exact kf.sub rfl

theorem State.slotStat_framed {s : State} {k : Nat} {b_ : Bool} {x : Nat} (hs : State.Framed q b s) (kf : b.free [Part.reg RegGroup.ch]) :
    State.Framed q b (State.slotStat s k b_ x) := by
  unfold State.slotStat
  extract_lets +onlyGivenNames x; clear_value x
  with_reducible apply State.put_framed
  with_reducible assumption
  split
  exact kf.get rfl
  exact kf.get rfl

theorem State.toWindow_framed {s : State} (hs : State.Framed q b s) (kf : b.free [Part.reg RegGroup.cp]) :
    State.Framed q b (State.toWindow s) := by
  unfold State.toWindow
  with_reducible apply State.claspModes_framed
  with_reducible assumption
  exact kf.sub rfl

theorem State.syncStep_framed {s : State} {f : Frame} {own : Time} (hs : State.Framed q b s) (kf : b.free [Part.time]) :
    State.Framed q b (State.syncStep s f own) := by
  unfold State.syncStep
  split
  with_reducible apply framed_ite
  with_reducible apply State.stepKnown_framed
  with_reducible assumption
  exact kf.sub rfl
  with_reducible assumption
  with_reducible assumption

theorem State.seeGateway_framed {s : State} {f : Frame} (hs : State.Framed q b s) (kf : b.free (postParts ++ [Part.reg RegGroup.tb, Part.reg RegGroup.ch, Part.time, Part.chain])) :
    State.Framed q b (State.seeGateway s f) := by
  have k_chain : b.keep .chain = false := kf.get rfl
  have k_time : b.keep .time = false := kf.get rfl
  unfold State.seeGateway
  extract_lets +onlyGivenNames x; clear_value x
  extract_lets +onlyGivenNames x; clear_value x
  extract_lets +onlyGivenNames x; refine (fun (hx : State.Framed q b x) => ?_) ?_ <;> [(try clear_value x); subst x]
  with_reducible apply framed_ite
  with_reducible assumption
  with_reducible apply framed_ite
  with_reducible apply State.post_framed
  with_reducible apply State.put_framed
  with_reducible apply State.flag_framed
  with_reducible assumption
  exact kf.get rfl
  exact kf.get rfl
  exact kf.sub rfl
  with_reducible assumption
  with_reducible apply framed_ite
  with_reducible apply State.reacquire_framed
  with_reducible apply State.put_framed
  simp -zeta only [framed_mk, k_chain, k_time, or_true, true_or]
  with_reducible assumption
  exact kf.get rfl
  exact kf.sub rfl
  with_reducible assumption

theorem State.adopt_framed {s : State} {c : Sched} {f : Frame} {st : Int} (hs : State.Framed q b s) (kf : b.free (postParts ++ [Part.reg RegGroup.tb, Part.reg RegGroup.ch, Part.reg RegGroup.cp, Part.seq, Part.time, Part.ic, Part.chain, Part.boot])) :
    State.Framed q b (State.adopt s c f st) := by
  have k_chain : b.keep .chain = false := kf.get rfl
  have k_seq : b.keep .seq = false := kf.get rfl
  unfold State.adopt
  extract_lets +onlyGivenNames x; clear_value x
  extract_lets +onlyGivenNames x; subst x
  extract_lets +onlyGivenNames x; clear_value x
  extract_lets +onlyGivenNames x; clear_value x
  extract_lets +onlyGivenNames x; clear_value x
  extract_lets +onlyGivenNames x; refine (fun (hx : State.Framed q b x) => ?_) ?_ <;> [(try clear_value x); subst x]
  extract_lets +onlyGivenNames x; clear_value x
  extract_lets +onlyGivenNames x; refine (fun (hx : State.Framed q b x) => ?_) ?_ <;> [(try clear_value x); subst x]
  extract_lets +onlyGivenNames x; refine (fun (hx : State.Framed q b x) => ?_) ?_ <;> [(try clear_value x); subst x]
  extract_lets +onlyGivenNames x; clear_value x
  extract_lets +onlyGivenNames x; refine (fun (hx : State.Framed q b x) => ?_) ?_ <;> [(try clear_value x); subst x]
  with_reducible apply State.chainState_framed
  with_reducible apply State.toWindow_framed
  with_reducible assumption
  exact kf.sub rfl
  exact kf.sub rfl
  simp -zeta only [framed_mk, k_chain, k_seq, or_true, true_or]
  with_reducible assumption
  with_reducible apply State.seeGateway_framed
  with_reducible apply State.syncStep_framed
  with_reducible assumption
  exact kf.sub rfl
  exact kf.sub rfl
  with_reducible apply State.wr_framed
  simp -zeta only [framed_mk, k_chain, k_seq, or_true, true_or]
  with_reducible assumption
  exact kf.get rfl
  with_reducible apply framed_ite
  simp -zeta only [framed_mk, k_chain, k_seq, or_true, true_or]
  with_reducible assumption
  with_reducible assumption

theorem State.listenTo_framed {s : State} {c : Sched} {f : Frame} {st : Int} (hs : State.Framed q b s) (kf : b.free (postParts ++ [Part.reg RegGroup.tb, Part.reg RegGroup.ch, Part.reg RegGroup.cp, Part.seq, Part.time, Part.ic, Part.chain, Part.boot])) :
    State.Framed q b (State.listenTo s c f st) := by
  have k_chain : b.keep .chain = false := kf.get rfl
  unfold State.listenTo
  extract_lets +onlyGivenNames x; clear_value x
  extract_lets +onlyGivenNames x; refine (fun (hx : State.Framed q b x) => ?_) ?_ <;> [(try clear_value x); subst x]
  with_reducible apply framed_ite
  with_reducible apply framed_ite
  with_reducible apply State.adopt_framed
  with_reducible assumption
  exact kf.sub rfl
  with_reducible apply State.flag_framed
  with_reducible assumption
  exact kf.get rfl
  with_reducible assumption
  simp -zeta only [framed_mk, k_chain, or_true, true_or]
  with_reducible assumption

theorem State.contention_framed {s : State} {c : Sched} (hs : State.Framed q b s) (kf : b.free (postParts ++ [Part.reg RegGroup.tb, Part.reg RegGroup.ch, Part.time, Part.ic, Part.chain, Part.boot])) :
    State.Framed q b (State.contention s c) := by
  have k_chain : b.keep .chain = false := kf.get rfl
  unfold State.contention
  extract_lets +onlyGivenNames x; clear_value x
  extract_lets +onlyGivenNames x; clear_value x
  extract_lets +onlyGivenNames x; refine (fun (hx : State.Framed q b x) => ?_) ?_ <;> [(try clear_value x); subst x]
  with_reducible apply State.toListen_framed
  with_reducible apply State.put_framed
  with_reducible apply State.flag_framed
  with_reducible assumption
  exact kf.get rfl
  exact kf.get rfl
  exact kf.sub rfl
  simp -zeta only [framed_mk, k_chain, or_true, true_or]
  with_reducible assumption

theorem State.invalidFrame_framed {s : State} {k : Nat} {b_ : Bool} (hs : State.Framed q b s) (kf : b.free [Part.reg RegGroup.ch, Part.chain]) :
    State.Framed q b (State.invalidFrame s k b_) := by
  have k_chain : b.keep .chain = false := kf.get rfl
  unfold State.invalidFrame
  extract_lets +onlyGivenNames x; refine (fun (hx : State.Framed q b x) => ?_) ?_ <;> [(try clear_value x); subst x]
  extract_lets +onlyGivenNames x; clear_value x
  with_reducible apply framed_ite
  with_reducible assumption
  with_reducible apply State.slotStat_framed
  simp -zeta only [framed_mk, k_chain, or_true, true_or]
  with_reducible assumption
  exact kf.sub rfl
  with_reducible apply State.bump_framed
  with_reducible assumption
  exact kf.get rfl

theorem State.invalidAt_framed {s : State} {c : Sched} {b_ : Bool} {t_ : Time} (hs : State.Framed q b s) (kf : b.free [Part.reg RegGroup.ch, Part.chain]) :
    State.Framed q b (State.invalidAt s c b_ t_) := by
  unfold State.invalidAt
  split
  with_reducible apply State.invalidFrame_framed
  with_reducible assumption
  exact kf.sub rfl
  with_reducible apply State.bump_framed
  with_reducible assumption
  exact kf.get rfl

theorem State.takeSync_framed {s : State} {f : Frame} {b_ : Bool} {dev : Int} (hs : State.Framed q b s) (kf : b.free [Part.chain]) :
    State.Framed q b (State.takeSync s f b_ dev) := by
  have k_chain : b.keep .chain = false := kf.get rfl
  unfold State.takeSync
  extract_lets +onlyGivenNames x; clear_value x
  extract_lets +onlyGivenNames x; clear_value x
  simp -zeta only [framed_mk, k_chain, or_true, true_or]
  with_reducible assumption

theorem State.takeStream_framed {s : State} {q_ : ChainStream} {b_ : Bool} {x : List Byte} (hs : State.Framed q b s) (kf : b.free [Part.reg RegGroup.ch, Part.mem, Part.chain]) :
    State.Framed q b (State.takeStream s q_ b_ x) := by
  have k_chain : b.keep .chain = false := kf.get rfl
  unfold State.takeStream
  extract_lets +onlyGivenNames x; clear_value x
  extract_lets +onlyGivenNames x; refine (fun (hx3 : ∀ y, State.Framed q b y → State.Framed q b (x y)) => ?_) ?_ <;> [(try clear_value x); subst x]
  extract_lets +onlyGivenNames x; refine (fun (hx : State.Framed q b x) => ?_) ?_ <;> [(try clear_value x); subst x]
  split
  with_reducible apply hx3
  with_reducible assumption
  with_reducible apply framed_ite
  with_reducible assumption
  with_reducible apply framed_ite
  with_reducible assumption
  with_reducible apply hx3
  with_reducible assumption
  with_reducible apply State.bump_framed
  with_reducible assumption
  exact kf.get rfl
  intro _ _
  simp -zeta only
  extract_lets +onlyGivenNames x; clear_value x
  with_reducible apply State.bufWrite_framed
  simp -zeta only [framed_mk, k_chain, or_true, true_or]
  with_reducible assumption
  exact kf.sub rfl

theorem State.takeContents_framed {s : State} {c : Sched} {k : Nat} {b_ : Bool} {l : List (Nat × Nat × List Byte)} {stamp : Int} (hs : State.Framed q b s) (kf : b.free [Part.reg RegGroup.ch, Part.mem, Part.si, Part.chain]) :
    State.Framed q b (State.takeContents s c k b_ l stamp) := by
  have k_chain : b.keep .chain = false := kf.get rfl
  unfold State.takeContents
  extract_lets +onlyGivenNames x; refine (fun (hx : State.Framed q b x) => ?_) ?_ <;> [(try clear_value x); subst x]
  with_reducible apply framed_foldl
  intro _ _ _
  extract_lets +onlyGivenNames x; clear_value x
  with_reducible apply framed_ite
  with_reducible assumption
  with_reducible apply State.signetCopy_framed
  simp -zeta only [framed_mk, k_chain, or_true, true_or]
  with_reducible assumption
  exact kf.sub rfl
  with_reducible assumption
  with_reducible apply framed_foldl
  intro _ _ _
  with_reducible apply framed_ite
  split
  with_reducible apply State.takeStream_framed
  with_reducible assumption
  exact kf.sub rfl
  with_reducible assumption
  with_reducible assumption
  with_reducible assumption

theorem State.chainFrame_framed {s : State} {c : Sched} {f : Frame} {b_ : Bool} {t_ : Time} (hs : State.Framed q b s) (kf : b.free (postParts ++ [Part.reg RegGroup.tb, Part.reg RegGroup.ch, Part.mem, Part.time, Part.si, Part.chain])) :
    State.Framed q b (State.chainFrame s c f b_ t_) := by
  have k_chain : b.keep .chain = false := kf.get rfl
  unfold State.chainFrame
  extract_lets +onlyGivenNames x; refine (fun (hx : State.Framed q b x) => ?_) ?_ <;> [(try clear_value x); subst x]
  extract_lets +onlyGivenNames x; clear_value x
  extract_lets +onlyGivenNames x; refine (fun (hx : State.Framed q b x) => ?_) ?_ <;> [(try clear_value x); subst x]
  extract_lets +onlyGivenNames x; refine (fun (hx : State.Framed q b x) => ?_) ?_ <;> [(try clear_value x); subst x]
  split
  extract_lets +onlyGivenNames x; clear_value x
  extract_lets +onlyGivenNames x; refine (fun (hx : State.Framed q b x) => ?_) ?_ <;> [(try clear_value x); subst x]
  split
  with_reducible apply framed_ite
  with_reducible apply State.takeContents_framed
  with_reducible assumption
  exact kf.sub rfl
  with_reducible apply State.invalidFrame_framed
  with_reducible assumption
  exact kf.sub rfl
  with_reducible apply State.invalidFrame_framed
  with_reducible assumption
  exact kf.sub rfl
  with_reducible apply framed_ite
  with_reducible apply State.syncStep_framed
  with_reducible apply State.takeSync_framed
  with_reducible assumption
  exact kf.sub rfl
  exact kf.sub rfl
  with_reducible assumption
  with_reducible apply State.invalidAt_framed
  with_reducible assumption
  exact kf.sub rfl
  with_reducible apply framed_ite
  with_reducible apply State.seeGateway_framed
  with_reducible assumption
  exact kf.sub rfl
  with_reducible assumption
  simp -zeta only [framed_mk, k_chain, or_true, true_or]
  with_reducible assumption
  with_reducible apply State.putB_framed
  with_reducible apply State.slotStat_framed
  with_reducible assumption
  exact kf.sub rfl
  exact kf.get rfl

theorem State.chainReport_framed {s : State} (hs : State.Framed q b s) (kf : b.free (postParts ++ [Part.reg RegGroup.tb, Part.reg RegGroup.ch, Part.time, Part.ic, Part.chain, Part.boot])) :
    State.Framed q b s.chainReport := by
  have k1 : b.keep .chain = false := kf.get rfl
  unfold State.chainReport
  extract_lets n s0 s1 src s2
  have h0 : State.Framed q b s0 := framed_ite (State.mishap_framed hs (kf.sub rfl)) hs
  have h1 : State.Framed q b s1 := State.bump_framed (State.put_framed (State.flag_framed h0 (kf.get rfl)) (kf.get rfl)) (kf.get rfl)
  have h2 : State.Framed q b s2 := by
    dsimp only [s2]
    simp only [framed_mk, k1, or_true, true_or]
    exact h1
  exact framed_ite (State.bump_framed (State.toListen_framed h2 (kf.sub rfl)) (kf.get rfl)) h2

theorem State.onLane_framed {s : State} {c : Sched} {bytes : List Byte} {t_ : Time} (hs : State.Framed q b s) (kf : b.free [Part.chain]) :
    State.Framed q b (State.onLane s c bytes t_) := by
  have k_chain : b.keep .chain = false := kf.get rfl
  unfold State.onLane
  extract_lets +onlyGivenNames x; clear_value x
  simp -zeta only [framed_mk, k_chain, or_true, true_or]
  with_reducible assumption

theorem execChainFrameRx_framed {b_ : Bool} {x : ChainRx} {t_ : Nat} {s : State} (hs : State.Framed q b s) (kf :
    b.free (postParts ++ [Part.reg RegGroup.tb, Part.reg RegGroup.ch, Part.reg RegGroup.cp, Part.now, Part.mem, Part.seq, Part.time, Part.ic, Part.si, Part.chain, Part.boot])) :
  answers (execChainFrameRx b_ x t_ s) (State.Framed q b) := by
  have k1 : b.keep .chain = false := kf.get rfl
  unfold execChainFrameRx
  extract_lets u
  have hu : State.Framed q b u := State.advance_framed hs (kf.sub rfl)
  clear_value u
  have hc : ∀ {v : State} (c : Sched), State.Framed q b v → State.Framed q b (v.contention c) := fun c h => State.contention_framed h (kf.sub rfl)
  have hl : ∀ {v : State} (c : Sched) (f : Frame) w, State.Framed q b v → State.Framed q b (v.listenTo c f w) := fun c f w h => State.listenTo_framed h (kf.sub rfl)
  have hf : ∀ {v : State} (c : Sched) (f : Frame), State.Framed q b v → State.Framed q b (v.chainFrame c f b_ t_) := fun c f h => State.chainFrame_framed h (kf.sub rfl)
  have hr := State.chainReport_framed hu (kf.sub rfl)
  split
  · exact hu
  · rename_i c _
    refine answers_ite hu ?_
    split
    · refine answers_next ?_
      simp only [framed_mk, k1, or_true, true_or]
      exact hu
    · extract_lets l
      refine answers_next (State.wr_framed ?_ ?_)
      · simp only [framed_mk, k1, or_true, true_or]
        exact hu
      · split <;> exact kf.get rfl
    · exact answers_ite (hc c hr) hr
    · rename_i bytes _
      have ho : ∀ {v : State}, State.Framed q b v → State.Framed q b (v.onLane c bytes t_) := fun h => State.onLane_framed h (kf.sub rfl)
      split
      · extract_lets v w
        have hw : State.Framed q b w := framed_ite (State.bump_framed (ho hu) (kf.get rfl)) (State.invalidAt_framed (ho hu) (kf.sub rfl))
        exact answers_ite (hc c hw) hw
      · rename_i f _
        extract_lets v other w
        have hv : State.Framed q b v := framed_ite (State.flag_framed hu (kf.get rfl)) hu
        have hw : State.Framed q b w := framed_ite (ho hv) hv
        clear_value v w
        refine answers_ite (answers_ite ?_ (hf c f hw)) (answers_ite ?_ (hf c f hw))
        · have hx : State.Framed q b (w.contention c) := hc c hw
          split
          · exact answers_next (framed_ite hx (hl c f _ hx))
          · exact hx
        · split
          · exact answers_next (framed_ite (State.bump_framed hw (kf.get rfl)) (framed_ite (hl c f _ hw) hw))
          · exact answers_next (State.bump_framed hw (kf.get rfl))

theorem State.chainStep_framed {s : State} {d : Int} (hs : State.Framed q b s) (kf : b.free (postParts ++ [Part.reg RegGroup.tb, Part.reg RegGroup.tpo, Part.time, Part.pulses])) :
    State.Framed q b (State.chainStep s d) := by
  have k_time : b.keep .time = false := kf.get rfl
  unfold State.chainStep
  extract_lets +onlyGivenNames x; clear_value x
  extract_lets +onlyGivenNames x; refine (fun (hx : State.Framed q b x) => ?_) ?_ <;> [(try clear_value x); subst x]
  extract_lets +onlyGivenNames x; refine (fun (hx : State.Framed q b x) => ?_) ?_ <;> [(try clear_value x); subst x]
  extract_lets +onlyGivenNames x; refine (fun (hx : State.Framed q b x) => ?_) ?_ <;> [(try clear_value x); subst x]
  with_reducible apply State.post_framed
  with_reducible assumption
  exact kf.sub rfl
  with_reducible apply framed_ite
  with_reducible apply State.put_framed
  with_reducible assumption
  exact kf.get rfl
  with_reducible assumption
  with_reducible apply framed_foldl
  intro _ _ _
  with_reducible apply State.stopPulse_framed
  with_reducible assumption
  exact kf.sub rfl
  with_reducible assumption
  simp -zeta only [framed_mk, k_time, or_true, true_or]
  with_reducible assumption

theorem State.closeCycle_framed {s : State} {c : Sched} (hs : State.Framed q b s) (kf : b.free [Part.reg RegGroup.ch, Part.chain]) :
    State.Framed q b (State.closeCycle s c) := by
  have k_chain : b.keep .chain = false := kf.get rfl
  unfold State.closeCycle
  extract_lets +onlyGivenNames x; clear_value x
  extract_lets +onlyGivenNames x; clear_value x
  extract_lets +onlyGivenNames x; clear_value x
  extract_lets +onlyGivenNames x; refine (fun (hx : State.Framed q b x) => ?_) ?_ <;> [(try clear_value x); subst x]
  extract_lets +onlyGivenNames x; clear_value x
  extract_lets +onlyGivenNames x; clear_value x
  extract_lets +onlyGivenNames x; clear_value x
  extract_lets +onlyGivenNames x; clear_value x
  extract_lets +onlyGivenNames x; clear_value x
  extract_lets +onlyGivenNames x; clear_value x
  extract_lets +onlyGivenNames x; refine (fun (hx : State.Framed q b x) => ?_) ?_ <;> [(try clear_value x); subst x]
  extract_lets +onlyGivenNames x; clear_value x
  extract_lets +onlyGivenNames x; clear_value x
  with_reducible apply State.putB_framed
  simp -zeta only [framed_mk, k_chain, or_true, true_or]
  with_reducible assumption
  exact kf.get rfl
  with_reducible apply State.putB_framed
  with_reducible assumption
  exact kf.get rfl
  with_reducible apply framed_foldl
  intro _ _ _
  with_reducible apply framed_foldl
  intro _ _ _
  extract_lets +onlyGivenNames x; refine (fun (hx : State.Framed q b x) => ?_) ?_ <;> [(try clear_value x); subst x]
  with_reducible apply framed_ite
  with_reducible assumption
  with_reducible apply State.slotStat_framed
  with_reducible assumption
  exact kf.sub rfl
  with_reducible apply State.bump_framed
  with_reducible assumption
  exact kf.get rfl
  with_reducible assumption
  with_reducible assumption

theorem State.cycleChecks_framed {s : State} {c : Sched} {synced : Bool} (hs : State.Framed q b s) (kf : b.free (postParts ++ [Part.reg RegGroup.tb, Part.reg RegGroup.ch, Part.time, Part.ic, Part.chain, Part.boot])) :
    State.Framed q b (State.cycleChecks s c synced) := by
  have k_chain : b.keep .chain = false := kf.get rfl
  unfold State.cycleChecks
  extract_lets +onlyGivenNames x; clear_value x
  extract_lets +onlyGivenNames x; clear_value x
  extract_lets +onlyGivenNames x; refine (fun (hx : State.Framed q b x) => ?_) ?_ <;> [(try clear_value x); subst x]
  with_reducible apply framed_ite
  with_reducible apply State.chainState_framed
  simp -zeta only [framed_mk, k_chain, or_true, true_or]
  with_reducible assumption
  exact kf.sub rfl
  with_reducible apply framed_ite
  with_reducible apply framed_ite
  simp -zeta only [framed_mk, k_chain, or_true, true_or]
  with_reducible assumption
  with_reducible apply framed_ite
  with_reducible apply State.toListen_framed
  with_reducible assumption
  exact kf.sub rfl
  with_reducible apply framed_ite
  with_reducible apply State.chainState_framed
  with_reducible assumption
  exact kf.sub rfl
  with_reducible assumption
  with_reducible assumption
  simp -zeta only [framed_mk, k_chain, or_true, true_or]
  with_reducible assumption

theorem execChainCycleStart_framed {s : State} (hs : State.Framed q b s) (kf : b.free (postParts ++ [Part.reg RegGroup.tb, Part.reg RegGroup.tpo, Part.reg RegGroup.ch, Part.now, Part.time, Part.pulses, Part.ic, Part.chain, Part.boot])) :
    answers (execChainCycleStart s) (State.Framed q b) := by
  have k_chain : b.keep .chain = false := kf.get rfl
  have k_time : b.keep .time = false := kf.get rfl
  unfold execChainCycleStart
  split
  case h_2 => exact hs
  case h_1 =>
    refine answers_ite hs ?_
    extract_lets +onlyGivenNames start s1
    have h1 : State.Framed q b s1 := State.advance_framed hs (kf.sub rfl)
    clear_value start s1
    extract_lets +onlyGivenNames synced s2
    have h2 : State.Framed q b s2 := State.closeCycle_framed h1 (kf.sub rfl)
    clear_value synced s2
    extract_lets +onlyGivenNames cyc chain2 s3
    have h3 : State.Framed q b s3 := State.wr_framed (by simpa -zeta only [framed_mk, k_chain, or_true, true_or] using h2) (kf.get rfl)
    clear_value cyc s3
    extract_lets +onlyGivenNames s4
    have h4 : State.Framed q b s4 := State.cycleChecks_framed h3 (kf.sub rfl)
    clear_value s4
    extract_lets +onlyGivenNames chain4 s5
    have h5 : State.Framed q b s5 := by
      clear_value chain4
      unfold s5
      split
      case h_2 => exact h4
      case h_1 =>
        refine framed_ite (State.chainStep_framed ?_ (kf.sub rfl)) h4
        simpa -zeta only [framed_mk, k_chain, or_true, true_or] using h4
    clear_value s5
    extract_lets +onlyGivenNames time5 chain5 s6
    clear_value time5 chain5
    refine answers_next (s := s6) ?_
    unfold s6
    split
    case h_2 => exact h5
    case h_1 => simpa -zeta only [framed_mk, k_chain, k_time, or_true, true_or] using h5

theorem execChainBuildPoint_framed {k : Fin 64} {s : State} (hs : State.Framed q b s) (kf : b.free [Part.reg RegGroup.ch, Part.now, Part.si, Part.chain]) :
    answers (execChainBuildPoint k s) (State.Framed q b) := by
  have k_chain : b.keep .chain = false := kf.get rfl
  have k_si : b.keep .si = false := kf.get rfl
  unfold execChainBuildPoint
  split
  with_reducible apply answers_next
  with_reducible assumption
  split
  with_reducible apply answers_next
  with_reducible assumption
  extract_lets +onlyGivenNames x; refine (fun (hx : State.Framed q b x) => ?_) ?_ <;> [(try clear_value x); subst x]
  extract_lets +onlyGivenNames x; clear_value x
  extract_lets +onlyGivenNames x; clear_value x
  extract_lets +onlyGivenNames x; clear_value x
  extract_lets +onlyGivenNames x; clear_value x
  extract_lets +onlyGivenNames x; refine (fun (hx : State.Framed q b x) => ?_) ?_ <;> [(try clear_value x); subst x]
  extract_lets +onlyGivenNames x; clear_value x
  with_reducible apply answers_ite
  with_reducible apply answers_next
  with_reducible assumption
  with_reducible apply answers_next
  with_reducible apply State.putB_framed
  simp -zeta only [framed_mk, k_chain, k_si, or_true, true_or]
  with_reducible assumption
  exact kf.get rfl
  with_reducible apply framed_foldl
  intro _ _ _
  extract_lets +onlyGivenNames x; clear_value x
  simp -zeta only [framed_mk, k_chain, k_si, or_true, true_or]
  with_reducible assumption
  with_reducible assumption
  split
  with_reducible apply State.advance_framed
  with_reducible assumption
  exact kf.sub rfl
  with_reducible assumption

theorem State.launch_framed {s : State} {c : Sched} {k : Nat} {q_ : ChainSlot} {start : Time} {cs : Bool} (hs : State.Framed q b s) (kf : b.free (postParts ++ [Part.reg RegGroup.tb, Part.reg RegGroup.ch, Part.now, Part.time, Part.ic, Part.chain, Part.boot])) :
    State.Framed q b (State.launch s c k q_ start cs) := by
  have k_chain : b.keep .chain = false := kf.get rfl
  unfold State.launch
  extract_lets +onlyGivenNames x; refine (fun (hx : State.Framed q b x) => ?_) ?_ <;> [(try clear_value x); subst x]
  extract_lets +onlyGivenNames x; clear_value x
  extract_lets +onlyGivenNames x; clear_value x
  extract_lets +onlyGivenNames x; clear_value x
  extract_lets +onlyGivenNames x; refine (fun (hx : State.Framed q b x) => ?_) ?_ <;> [(try clear_value x); subst x]
  extract_lets +onlyGivenNames x; clear_value x
  simp -zeta only
  extract_lets +onlyGivenNames x; clear_value x
  extract_lets +onlyGivenNames x; refine (fun (hx : State.Framed q b x) => ?_) ?_ <;> [(try clear_value x); subst x]
  with_reducible apply framed_ite
  with_reducible apply State.contention_framed
  with_reducible assumption
  exact kf.sub rfl
  with_reducible assumption
  simp -zeta only [framed_mk, k_chain, or_true, true_or]
  with_reducible assumption
  with_reducible apply State.put_framed
  with_reducible assumption
  exact kf.get rfl
  with_reducible apply State.advance_framed
  with_reducible assumption
  exact kf.sub rfl

theorem execChainFrameLaunch_framed {k : Fin 64} {s : State} (hs : State.Framed q b s) (kf : b.free (postParts ++ [Part.reg RegGroup.tb, Part.reg RegGroup.ch, Part.now, Part.time, Part.ic, Part.chain, Part.boot])) :
    answers (execChainFrameLaunch k s) (State.Framed q b) := by
  unfold execChainFrameLaunch
  extract_lets +onlyGivenNames x; clear_value x
  split
  split
  with_reducible apply answers_ite
  with_reducible apply answers_next
  with_reducible apply State.launch_framed
  with_reducible assumption
  exact kf.sub rfl
  with_reducible apply answers_next
  with_reducible assumption
  with_reducible apply answers_next
  with_reducible assumption
  with_reducible apply answers_next
  with_reducible assumption

theorem execChainRateRequest_framed {s : State} (hs : State.Framed q b s) (kf : b.free [Part.reg RegGroup.tb, Part.reg RegGroup.ch, Part.now, Part.time, Part.chain]) :
    answers (execChainRateRequest s) (State.Framed q b) := by
  have k_chain : b.keep .chain = false := kf.get rfl
  unfold execChainRateRequest
  extract_lets +onlyGivenNames x; clear_value x
  simp -zeta only
  split
  with_reducible apply answers_next
  with_reducible assumption
  extract_lets +onlyGivenNames x; refine (fun (hx : State.Framed q b x) => ?_) ?_ <;> [(try clear_value x); subst x]
  extract_lets +onlyGivenNames x; clear_value x
  extract_lets +onlyGivenNames x; clear_value x
  extract_lets +onlyGivenNames x; clear_value x
  extract_lets +onlyGivenNames x; clear_value x
  extract_lets +onlyGivenNames x; refine (fun (hx : State.Framed q b x) => ?_) ?_ <;> [(try clear_value x); subst x]
  extract_lets +onlyGivenNames x; refine (fun (hx : State.Framed q b x) => ?_) ?_ <;> [(try clear_value x); subst x]
  extract_lets +onlyGivenNames x; clear_value x
  extract_lets +onlyGivenNames x; clear_value x
  extract_lets +onlyGivenNames x; clear_value x
  extract_lets +onlyGivenNames x; refine (fun (hx : State.Framed q b x) => ?_) ?_ <;> [(try clear_value x); subst x]
  extract_lets +onlyGivenNames x; refine (fun (hx : State.Framed q b x) => ?_) ?_ <;> [(try clear_value x); subst x]
  with_reducible apply answers_ite
  with_reducible apply answers_next
  with_reducible assumption
  with_reducible apply answers_ite
  with_reducible apply answers_next
  with_reducible assumption
  split
  extract_lets +onlyGivenNames x; clear_value x
  with_reducible apply answers_next
  with_reducible apply State.requestRate_framed
  with_reducible assumption
  exact kf.sub rfl
  with_reducible apply answers_next
  with_reducible apply State.requestRate_framed
  with_reducible assumption
  exact kf.sub rfl
  with_reducible apply framed_ite
  with_reducible apply State.wr_framed
  with_reducible assumption
  exact kf.get rfl
  with_reducible apply State.offsetMeasured_framed
  with_reducible assumption
  exact kf.sub rfl
  simp -zeta only [framed_mk, k_chain, or_true, true_or]
  with_reducible assumption
  with_reducible apply State.wr_framed
  with_reducible assumption
  exact kf.get rfl
  with_reducible apply State.wr_framed
  simp -zeta only [framed_mk, k_chain, or_true, true_or]
  with_reducible assumption
  exact kf.get rfl
  split
  with_reducible apply State.advance_framed
  with_reducible assumption
  exact kf.sub rfl
  with_reducible assumption

theorem execLinkDelayAnswer_framed {b_ : Bool} {s : State} (hs : State.Framed q b s) (kf : b.free [Part.now, Part.chain]) :
    answers (execLinkDelayAnswer b_ s) (State.Framed q b) := by
  have k_chain : b.keep .chain = false := kf.get rfl
  unfold execLinkDelayAnswer
  split
  with_reducible apply answers_next
  with_reducible assumption
  extract_lets +onlyGivenNames x; refine (fun (hx : State.Framed q b x) => ?_) ?_ <;> [(try clear_value x); subst x]
  extract_lets +onlyGivenNames x; clear_value x
  extract_lets +onlyGivenNames x; clear_value x
  with_reducible apply answers_next
  simp -zeta only [framed_mk, k_chain, or_true, true_or]
  with_reducible assumption
  with_reducible apply State.advance_framed
  with_reducible assumption
  exact kf.sub rfl

theorem execChainListenTimeout_framed {s : State} (hs : State.Framed q b s) (kf : b.free (postParts ++ [Part.reg RegGroup.ch, Part.now, Part.ic, Part.chain, Part.boot])) :
    answers (execChainListenTimeout s) (State.Framed q b) := by
  have k_chain : b.keep .chain = false := kf.get rfl
  unfold execChainListenTimeout
  extract_lets +onlyGivenNames x; clear_value x
  split
  with_reducible apply answers_next
  with_reducible assumption
  extract_lets +onlyGivenNames x; refine (fun (hx : State.Framed q b x) => ?_) ?_ <;> [(try clear_value x); subst x]
  with_reducible apply answers_ite
  with_reducible apply answers_next
  with_reducible apply State.chainState_framed
  with_reducible apply State.bump_framed
  simp -zeta only [framed_mk, k_chain, or_true, true_or]
  with_reducible assumption
  exact kf.get rfl
  exact kf.sub rfl
  with_reducible apply answers_next
  with_reducible assumption
  with_reducible apply State.advance_framed
  with_reducible assumption
  exact kf.sub rfl

theorem execChainColdstartClaim_framed {s : State} (hs : State.Framed q b s) (kf : b.free (postParts ++ [Part.reg RegGroup.tb, Part.reg RegGroup.ch, Part.reg RegGroup.cp, Part.now, Part.time, Part.ic, Part.chain, Part.boot])) :
    answers (execChainColdstartClaim s) (State.Framed q b) := by
  have k_chain : b.keep .chain = false := kf.get rfl
  unfold execChainColdstartClaim
  extract_lets +onlyGivenNames x; clear_value x
  split
  with_reducible apply answers_next
  with_reducible assumption
  split
  with_reducible apply answers_next
  with_reducible assumption
  extract_lets +onlyGivenNames x; clear_value x
  extract_lets +onlyGivenNames x; clear_value x
  extract_lets +onlyGivenNames x; refine (fun (hx : State.Framed q b x) => ?_) ?_ <;> [(try clear_value x); subst x]
  with_reducible apply answers_ite
  with_reducible apply answers_next
  with_reducible apply State.launch_framed
  with_reducible apply State.toWindow_framed
  with_reducible assumption
  exact kf.sub rfl
  exact kf.sub rfl
  with_reducible apply answers_next
  with_reducible assumption
  with_reducible apply State.wr_framed
  simp -zeta only [framed_mk, k_chain, or_true, true_or]
  with_reducible assumption
  exact kf.get rfl

theorem execChainBackoffExpiry_framed {s : State} (hs : State.Framed q b s) (kf : b.free [Part.reg RegGroup.ch, Part.now, Part.chain]) :
    answers (execChainBackoffExpiry s) (State.Framed q b) := by
  have k_chain : b.keep .chain = false := kf.get rfl
  unfold execChainBackoffExpiry
  extract_lets +onlyGivenNames x; clear_value x
  split
  extract_lets +onlyGivenNames x; refine (fun (hx : State.Framed q b x) => ?_) ?_ <;> [(try clear_value x); subst x]
  with_reducible apply answers_next
  with_reducible apply State.put_framed
  simp -zeta only [framed_mk, k_chain, or_true, true_or]
  with_reducible assumption
  exact kf.get rfl
  with_reducible apply State.advance_framed
  with_reducible assumption
  exact kf.sub rfl
  with_reducible apply answers_next
  with_reducible assumption

theorem execChainSourceLost_framed {s : State} (hs : State.Framed q b s) (kf : b.free [Part.reg RegGroup.tb, Part.time, Part.ic, Part.chain]) :
    answers (execChainSourceLost s) (State.Framed q b) := by
  unfold execChainSourceLost
  with_reducible apply answers_next
  with_reducible apply framed_ite
  with_reducible apply State.chainLost_framed
  with_reducible assumption
  exact kf.sub rfl
  with_reducible assumption

theorem execChainLinkChange_framed {lane : Fin 16} {up : Bool} {s : State} (hs : State.Framed q b s) (kf : b.free [Part.reg RegGroup.ch, Part.reg RegGroup.cp]) :
    answers (execChainLinkChange lane up s) (State.Framed q b) := by
  unfold execChainLinkChange
  extract_lets +onlyGivenNames x; clear_value x
  extract_lets +onlyGivenNames x; clear_value x
  extract_lets +onlyGivenNames x; clear_value x
  with_reducible apply answers_next
  with_reducible apply framed_ite
  with_reducible apply framed_ite
  with_reducible assumption
  with_reducible apply State.putB_framed
  with_reducible assumption
  split
  exact kf.get rfl
  exact kf.get rfl
  with_reducible apply framed_ite
  with_reducible apply State.putB_framed
  with_reducible assumption
  exact kf.get rfl
  with_reducible assumption

theorem State.setClasp_framed {s : State} {x : Fin 2} {c : Clasp} (hs : State.Framed q b s) (kf : b.free [Part.claspA, Part.claspB]) :
    State.Framed q b (State.setClasp s x c) := by
  have k_claspA : b.keep .claspA = false := kf.get rfl
  have k_claspB : b.keep .claspB = false := kf.get rfl
  unfold State.setClasp
  with_reducible apply framed_ite
  simp -zeta only [framed_mk, k_claspA, k_claspB, or_true, true_or]
  with_reducible assumption
  simp -zeta only [framed_mk, k_claspA, k_claspB, or_true, true_or]
  with_reducible assumption

theorem State.forward_framed {s : State} {x : Fin 2} {p : Fin 8} {bs : List Byte} {cut : Bool} (hs : State.Framed q b s) (kf : b.free [Part.reg RegGroup.cp, Part.fresh, Part.claspA, Part.claspB]) :
    State.Framed q b (State.forward s x p bs cut) := by
  unfold State.forward
  extract_lets +onlyGivenNames x; clear_value x
  extract_lets +onlyGivenNames x; refine (fun (hx : State.Framed q b x) => ?_) ?_ <;> [(try clear_value x); subst x]
  extract_lets +onlyGivenNames x; clear_value x
  extract_lets +onlyGivenNames x; clear_value x
  extract_lets +onlyGivenNames x; clear_value x
  simp -zeta only
  with_reducible apply State.wr_framed
  with_reducible apply State.setClasp_framed
  with_reducible assumption
  exact kf.sub rfl
  exact kf.get rfl
  with_reducible apply State.useFresh_framed
  with_reducible assumption
  exact kf.sub rfl

theorem State.violation_framed {s : State} {x : Fin 2} {p : Fin 8} {off : Int} {slot : Nat} (hs : State.Framed q b s) (kf : b.free [Part.reg RegGroup.cp, Part.ic, Part.claspA, Part.claspB]) :
    State.Framed q b (State.violation s x p off slot) := by
  unfold State.violation
  extract_lets +onlyGivenNames x; clear_value x
  with_reducible apply State.raise_framed
  with_reducible apply State.bump_framed
  with_reducible apply State.setClasp_framed
  with_reducible assumption
  exact kf.sub rfl
  exact kf.get rfl
  exact kf.sub rfl

theorem State.blockSlot_framed {s : State} {x : Fin 2} {k : Nat} (hs : State.Framed q b s) (kf : b.free [Part.reg RegGroup.ch, Part.chain]) :
    State.Framed q b (State.blockSlot s x k) := by
  have k_chain : b.keep .chain = false := kf.get rfl
  unfold State.blockSlot
  extract_lets +onlyGivenNames x; clear_value x
  with_reducible apply framed_ite
  with_reducible assumption
  with_reducible apply State.slotStat_framed
  simp -zeta only [framed_mk, k_chain, or_true, true_or]
  with_reducible assumption
  exact kf.sub rfl

theorem State.windowFrame_framed {s : State} {x : Fin 2} {p : Fin 8} {bs : List Byte} {t_ : Time} (hs : State.Framed q b s) (kf : b.free [Part.reg RegGroup.ch, Part.reg RegGroup.cp, Part.fresh, Part.ic, Part.chain, Part.claspA, Part.claspB]) :
    State.Framed q b (State.windowFrame s x p bs t_) := by
  unfold State.windowFrame
  extract_lets +onlyGivenNames x; clear_value x
  split
  extract_lets +onlyGivenNames x; clear_value x
  split
  with_reducible apply State.violation_framed
  with_reducible assumption
  exact kf.sub rfl
  extract_lets +onlyGivenNames x; clear_value x
  extract_lets +onlyGivenNames x; subst x
  extract_lets +onlyGivenNames x; subst x
  extract_lets +onlyGivenNames x; refine (fun (hx : State.Framed q b x) => ?_) ?_ <;> [(try clear_value x); subst x]
  with_reducible apply framed_ite
  with_reducible apply State.blockSlot_framed
  with_reducible apply State.violation_framed
  with_reducible assumption
  exact kf.sub rfl
  exact kf.sub rfl
  with_reducible apply framed_ite
  with_reducible assumption
  with_reducible apply State.forward_framed
  with_reducible assumption
  exact kf.sub rfl
  with_reducible apply framed_ite
  with_reducible apply State.bump_framed
  with_reducible assumption
  exact kf.get rfl
  with_reducible assumption
  with_reducible assumption

theorem execClaspFrameArrival_framed {x : Fin 2} {p : Fin 8} {f : ClaspRx} {t_ : Nat} {s : State} (hs : State.Framed q b s) (kf : b.free [Part.reg RegGroup.ch, Part.reg RegGroup.cp, Part.now, Part.fresh, Part.ic, Part.chain, Part.claspA, Part.claspB]) :
    answers (execClaspFrameArrival x p f t_ s) (State.Framed q b) := by
  unfold execClaspFrameArrival
  extract_lets +onlyGivenNames x; refine (fun (hx : State.Framed q b x) => ?_) ?_ <;> [(try clear_value x); subst x]
  extract_lets +onlyGivenNames x; clear_value x
  with_reducible apply answers_ite
  with_reducible apply answers_next
  with_reducible assumption
  split
  split
  with_reducible apply answers_next
  with_reducible assumption
  extract_lets +onlyGivenNames x; clear_value x
  extract_lets +onlyGivenNames x; clear_value x
  with_reducible apply answers_next
  with_reducible apply State.wr_framed
  with_reducible apply State.setClasp_framed
  with_reducible assumption
  exact kf.sub rfl
  exact kf.get rfl
  with_reducible apply answers_ite
  with_reducible apply answers_next
  with_reducible apply State.windowFrame_framed
  with_reducible assumption
  exact kf.sub rfl
  with_reducible apply answers_ite
  with_reducible apply answers_next
  with_reducible apply State.bump_framed
  with_reducible assumption
  exact kf.get rfl
  split
  with_reducible apply answers_next
  with_reducible apply State.setClasp_framed
  with_reducible assumption
  exact kf.sub rfl
  with_reducible apply answers_ite
  with_reducible apply answers_next
  with_reducible apply State.setClasp_framed
  with_reducible assumption
  exact kf.sub rfl
  with_reducible apply answers_next
  with_reducible apply State.bump_framed
  with_reducible assumption
  exact kf.get rfl
  with_reducible apply State.advance_framed
  with_reducible assumption
  exact kf.sub rfl

theorem execClaspTieWindow_framed {x : Fin 2} {s : State} (hs : State.Framed q b s) (kf : b.free [Part.reg RegGroup.cp, Part.now, Part.fresh, Part.claspA, Part.claspB]) :
    answers (execClaspTieWindow x s) (State.Framed q b) := by
  unfold execClaspTieWindow
  extract_lets +onlyGivenNames x; clear_value x
  split
  extract_lets +onlyGivenNames x; refine (fun (hx : State.Framed q b x) => ?_) ?_ <;> [(try clear_value x); subst x]
  extract_lets +onlyGivenNames x; refine (fun (hx : State.Framed q b x) => ?_) ?_ <;> [(try clear_value x); subst x]
  extract_lets +onlyGivenNames x; refine (fun (hx : State.Framed q b x) => ?_) ?_ <;> [(try clear_value x); subst x]
  with_reducible apply answers_next
  with_reducible apply State.forward_framed
  with_reducible assumption
  exact kf.sub rfl
  with_reducible apply framed_foldl
  intro _ _ _
  with_reducible apply State.bump_framed
  with_reducible assumption
  exact kf.get rfl
  with_reducible assumption
  with_reducible apply State.setClasp_framed
  with_reducible assumption
  exact kf.sub rfl
  with_reducible apply State.advance_framed
  with_reducible assumption
  exact kf.sub rfl
  with_reducible apply answers_next
  with_reducible assumption

theorem execClaspArbitrateReturn_framed {x : Fin 2} {s : State} (hs : State.Framed q b s) (kf : b.free [Part.reg RegGroup.cp, Part.now]) :
    answers (execClaspArbitrateReturn x s) (State.Framed q b) := by
  unfold execClaspArbitrateReturn
  split
  with_reducible apply answers_ite
  with_reducible apply answers_next
  with_reducible apply State.put_framed
  with_reducible apply State.advance_framed
  with_reducible assumption
  exact kf.sub rfl
  exact kf.get rfl
  with_reducible apply answers_next
  with_reducible assumption
  with_reducible apply answers_next
  with_reducible assumption

theorem execClaspLinkDelayRequest_framed {x : Fin 2} {s : State} (hs : State.Framed q b s) (kf : b.free [Part.now, Part.claspA, Part.claspB]) :
    answers (execClaspLinkDelayRequest x s) (State.Framed q b) := by
  unfold execClaspLinkDelayRequest
  extract_lets +onlyGivenNames x; refine (fun (hx : State.Framed q b x) => ?_) ?_ <;> [(try clear_value x); subst x]
  extract_lets +onlyGivenNames x; clear_value x
  extract_lets +onlyGivenNames x; clear_value x
  extract_lets +onlyGivenNames x; clear_value x
  with_reducible apply answers_ite
  with_reducible apply answers_next
  with_reducible apply State.setClasp_framed
  with_reducible assumption
  exact kf.sub rfl
  with_reducible apply answers_next
  with_reducible assumption
  split
  with_reducible apply State.advance_framed
  with_reducible assumption
  exact kf.sub rfl
  with_reducible assumption

theorem State.claspMap_framed {s : State} {x : Fin 2} {v : Word} (hs : State.Framed q b s) (kf : b.free [Part.reg RegGroup.cp]) :
    State.Framed q b (State.claspMap s x v) := by
  unfold State.claspMap
  with_reducible apply framed_ite
  with_reducible assumption
  with_reducible apply State.put_framed
  with_reducible assumption
  exact kf.get rfl

end Sys2Proof.Machine

/-! The interrupt controller, the planes, the registers on the fabric, the mail and the mailbox keep what `State.Framed` says: one lemma per operation. -/

namespace Sys2Proof.Machine

open Sys2Proof

variable {q : List Instr} {b : Kept}

theorem State.icWake_framed {s : State} {n : Fin 512} (hs : State.Framed q b s) (kf : b.free (postParts ++ [Part.reg RegGroup.stk, Part.stk, Part.ic])) :
    State.Framed q b (State.icWake s n) := by
  have k_ic : b.keep .ic = false := kf.get rfl
  unfold State.icWake
  extract_lets +onlyGivenNames x; clear_value x
  with_reducible apply framed_ite
  split
  simp -zeta only [framed_mk, k_ic, or_true, true_or]
  with_reducible assumption
  with_reducible apply State.wakeOf_framed
  with_reducible assumption
  exact kf.sub rfl
  with_reducible assumption
  with_reducible assumption

theorem State.icWakeAll_framed {s : State} (hs : State.Framed q b s) (kf : b.free (postParts ++ [Part.reg RegGroup.stk, Part.stk, Part.ic])) :
    State.Framed q b (State.icWakeAll s) := by
  unfold State.icWakeAll
  with_reducible apply State.icTimers_framed
  with_reducible apply framed_foldl
  intro _ _ _
  with_reducible apply State.icWake_framed
  with_reducible assumption
  exact kf.sub rfl
  with_reducible assumption
  exact kf.sub rfl

theorem State.hearthRest_framed {s : State} (hs : State.Framed q b s) (kf : b.free (postParts ++ [Part.reg RegGroup.stk, Part.fresh, Part.stk, Part.ic])) :
    State.Framed q b (State.hearthRest s) := by
  have k_ic : b.keep .ic = false := kf.get rfl
  unfold State.hearthRest
  extract_lets +onlyGivenNames x; refine (fun (hx : State.Framed q b x) => ?_) ?_ <;> [(try clear_value x); subst x]
  extract_lets +onlyGivenNames x; clear_value x
  with_reducible apply State.icWakeAll_framed
  simp -zeta only [framed_mk, k_ic, or_true, true_or]
  with_reducible assumption
  exact kf.sub rfl
  with_reducible apply State.useFresh_framed
  with_reducible assumption
  exact kf.sub rfl

theorem execIcFilterChange_framed {n : Fin 512} {level : Bool} {t_ : Time} {samples : Nat} {s : State} (hs : State.Framed q b s) (kf : b.free (postParts ++ [Part.reg RegGroup.stk, Part.now, Part.stk, Part.ic])) :
    answers (execIcFilterChange n level t_ samples s) (State.Framed q b) := by
  have k_ic : b.keep .ic = false := kf.get rfl
  unfold execIcFilterChange
  extract_lets +onlyGivenNames x; clear_value x
  extract_lets +onlyGivenNames x; clear_value x
  extract_lets +onlyGivenNames x; refine (fun (hx : State.Framed q b x) => ?_) ?_ <;> [(try clear_value x); subst x]
  extract_lets +onlyGivenNames x; clear_value x
  extract_lets +onlyGivenNames x; refine (fun (hx : State.Framed q b x) => ?_) ?_ <;> [(try clear_value x); subst x]
  extract_lets +onlyGivenNames x; refine (fun (hx : State.Framed q b x) => ?_) ?_ <;> [(try clear_value x); subst x]
  extract_lets +onlyGivenNames x; refine (fun (hx : State.Framed q b x) => ?_) ?_ <;> [(try clear_value x); subst x]
  with_reducible apply answers_ite
  with_reducible apply answers_next
  with_reducible apply State.advance_framed
  with_reducible assumption
  exact kf.sub rfl
  with_reducible apply answers_ite
  with_reducible apply answers_next
  with_reducible assumption
  with_reducible apply answers_next
  with_reducible apply State.icTimers_framed
  with_reducible apply State.icWake_framed
  with_reducible apply framed_ite
  with_reducible apply State.eventRelease_framed
  with_reducible assumption
  exact kf.sub rfl
  with_reducible assumption
  exact kf.sub rfl
  exact kf.sub rfl
  with_reducible apply framed_ite
  with_reducible apply State.put_framed
  with_reducible assumption
  exact kf.get rfl
  with_reducible apply State.icRefresh_framed
  with_reducible assumption
  exact kf.sub rfl
  with_reducible apply State.putB_framed
  with_reducible assumption
  exact kf.get rfl
  with_reducible apply framed_ite
  simp -zeta only [framed_mk, k_ic, or_true, true_or]
  with_reducible assumption
  with_reducible assumption
  with_reducible apply State.advance_framed
  with_reducible assumption
  exact kf.sub rfl

theorem State.icClaim_framed {s : State} {t_ : Fin 64} {n : Fin 512} {redirected : Bool} (hs : State.Framed q b s) (kf : b.free [Part.reg RegGroup.ic, Part.ic]) :
    State.Framed q b (State.icClaim s t_ n redirected) := by
  have k_ic : b.keep .ic = false := kf.get rfl
  unfold State.icClaim
  extract_lets +onlyGivenNames x; refine (fun (hx : State.Framed q b x) => ?_) ?_ <;> [(try clear_value x); subst x]
  extract_lets +onlyGivenNames x; refine (fun (hx : State.Framed q b x) => ?_) ?_ <;> [(try clear_value x); subst x]
  extract_lets +onlyGivenNames x; clear_value x
  extract_lets +onlyGivenNames x; clear_value x
  extract_lets +onlyGivenNames x; refine (fun (hx : State.Framed q b x) => ?_) ?_ <;> [(try clear_value x); subst x]
  extract_lets +onlyGivenNames x; clear_value x
  with_reducible apply State.icTimers_framed
  with_reducible apply framed_ite
  with_reducible assumption
  simp -zeta only [framed_mk, k_ic, or_true, true_or]
  with_reducible assumption
  exact kf.sub rfl
  with_reducible apply State.put_framed
  with_reducible assumption
  exact kf.get rfl
  with_reducible apply State.put_framed
  with_reducible apply State.put_framed
  with_reducible apply State.put_framed
  with_reducible assumption
  exact kf.get rfl
  exact kf.get rfl
  exact kf.get rfl
  with_reducible apply State.wr_framed
  with_reducible assumption
  exact kf.get rfl

theorem State.msiSend_framed {s : State} {v : Nat} (hs : State.Framed q b s) (kf : b.free [Part.ic]) : State.Framed q b (State.msiSend s v) := by
  have k_ic : b.keep .ic = false := kf.get rfl
  unfold State.msiSend
  extract_lets +onlyGivenNames x; clear_value x
  extract_lets +onlyGivenNames x; clear_value x
  simp -zeta only [framed_mk, k_ic, or_true, true_or]
  with_reducible assumption

theorem execIcDelivery_framed {t : Fin 64} {s : State} (hs : State.Framed q b s) (kf :
    b.free [Part.reg RegGroup.ic, Part.now, Part.tiles, Part.ic]) :
  answers (execIcDelivery t s) (State.Framed q b) := by
  unfold execIcDelivery
  split
  · exact hs
  · split
    · exact hs
    · extract_lets x
      have h : State.Framed q b x := State.icClaim_framed (State.advance_framed hs (kf.sub rfl)) (kf.sub rfl)
      clear_value x
      exact answers_next (framed_ite (framed_foldl (fun s pl h => State.setTile_framed h (kf.sub rfl)) h) (framed_ite (State.msiSend_framed h (kf.sub rfl)) h))

theorem execIcClaimRead_framed {t_ : Fin 64} {s : State} (hs : State.Framed q b s) (kf : b.free [Part.reg RegGroup.ic, Part.rdata]) :
    answers (execIcClaimRead t_ s) (State.Framed q b) := by
  unfold execIcClaimRead
  extract_lets +onlyGivenNames x; refine (fun (hx3 : ∀ y, State.Framed q b y → State.Framed q b (x y)) => ?_) ?_ <;> [(try clear_value x); subst x]
  with_reducible apply answers_ite
  with_reducible apply answers_next
  with_reducible apply hx3
  with_reducible apply State.icTakeUp_framed
  with_reducible assumption
  exact kf.sub rfl
  with_reducible apply answers_next
  with_reducible apply hx3
  with_reducible assumption
  intro _ _
  simp -zeta only
  with_reducible apply State.answer_framed
  with_reducible assumption
  exact kf.sub rfl

theorem State.noteWrite_framed {s : State} {who : Who} {v : Word} (hs : State.Framed q b s) (kf : b.free [Part.ic]) :
    State.Framed q b (State.noteWrite s who v) := by
  unfold State.noteWrite
  split
  with_reducible apply State.noteIc_framed
  with_reducible assumption
  exact kf.sub rfl
  with_reducible assumption
  with_reducible assumption
  with_reducible assumption

theorem State.icComplete_framed {s : State} {who : Who} {v : Word} (hs : State.Framed q b s) (kf : b.free (postParts ++ [Part.reg RegGroup.stk, Part.fresh, Part.stk, Part.ic])) :
    State.Framed q b (State.icComplete s who v) := by
  unfold State.icComplete
  extract_lets +onlyGivenNames x; clear_value x
  extract_lets +onlyGivenNames x; clear_value x
  extract_lets +onlyGivenNames x; refine (fun (hx : State.Framed q b x) => ?_) ?_ <;> [(try clear_value x); subst x]
  with_reducible apply framed_ite
  with_reducible assumption
  with_reducible apply framed_ite
  with_reducible apply framed_ite
  with_reducible apply State.hearthRest_framed
  with_reducible assumption
  exact kf.sub rfl
  with_reducible assumption
  with_reducible apply State.flag_framed
  with_reducible assumption
  exact kf.get rfl
  with_reducible apply State.icWakeAll_framed
  with_reducible apply State.icFree_framed
  with_reducible assumption
  exact kf.sub rfl
  exact kf.sub rfl

theorem execIcComplete_framed {who : Who} {v : Word} {s : State} (hs : State.Framed q b s) (kf : b.free (postParts ++ [Part.reg RegGroup.stk, Part.fresh, Part.stk, Part.ic])) :
    answers (execIcComplete who v s) (State.Framed q b) := by
  unfold execIcComplete
  with_reducible apply answers_next
  with_reducible apply State.icComplete_framed
  with_reducible apply State.noteWrite_framed
  with_reducible assumption
  exact kf.sub rfl
  exact kf.sub rfl

theorem execIcHoldoffExpiry_framed {g : Fin 16} {s : State} (hs : State.Framed q b s) (kf : b.free [Part.reg RegGroup.ic, Part.now, Part.ic]) :
    answers (execIcHoldoffExpiry g s) (State.Framed q b) := by
  have k_ic : b.keep .ic = false := kf.get rfl
  unfold execIcHoldoffExpiry
  extract_lets +onlyGivenNames x; refine (fun (hx : State.Framed q b x) => ?_) ?_ <;> [(try clear_value x); subst x]
  extract_lets +onlyGivenNames x; refine (fun (hx : State.Framed q b x) => ?_) ?_ <;> [(try clear_value x); subst x]
  extract_lets +onlyGivenNames x; clear_value x
  with_reducible apply answers_ite
  with_reducible apply answers_next
  with_reducible apply State.icTimers_framed
  simp -zeta only [framed_mk, k_ic, or_true, true_or]
  with_reducible assumption
  exact kf.sub rfl
  with_reducible apply answers_next
  with_reducible assumption
  with_reducible apply State.put_framed
  with_reducible assumption
  exact kf.get rfl
  with_reducible apply State.advance_framed
  with_reducible assumption
  exact kf.sub rfl

theorem execIcRedirect_framed {n : Fin 512} {s : State} (hs : State.Framed q b s) (kf : b.free (postParts ++ [Part.now, Part.ic])) :
    answers (execIcRedirect n s) (State.Framed q b) := by
  unfold execIcRedirect
  split
  with_reducible apply answers_next
  with_reducible assumption
  extract_lets +onlyGivenNames x; refine (fun (hx : State.Framed q b x) => ?_) ?_ <;> [(try clear_value x); subst x]
  with_reducible apply answers_ite
  with_reducible apply answers_next
  with_reducible assumption
  with_reducible apply answers_next
  with_reducible apply State.post_framed
  with_reducible apply State.bump_framed
  with_reducible apply State.icClaim_framed
  with_reducible assumption
  exact kf.sub rfl
  exact kf.get rfl
  exact kf.sub rfl
  with_reducible apply State.advance_framed
  with_reducible assumption
  exact kf.sub rfl

theorem execIcSwSet_framed {who : Who} {k : Fin 2} {v : Word} {s : State} (hs : State.Framed q b s) (kf : b.free [Part.reg RegGroup.ic]) :
    answers (execIcSwSet who k v s) (State.Framed q b) := by
  unfold execIcSwSet
  with_reducible apply answers_next
  with_reducible apply framed_ite
  with_reducible apply State.wr_framed
  with_reducible assumption
  exact kf.get rfl
  with_reducible assumption

theorem execIcSwClr_framed {who : Who} {k : Fin 2} {v : Word} {same : Word} {s : State} (hs : State.Framed q b s) (kf : b.free [Part.reg RegGroup.ic]) :
    answers (execIcSwClr who k v same s) (State.Framed q b) := by
  unfold execIcSwClr
  with_reducible apply answers_next
  with_reducible apply framed_ite
  with_reducible apply State.wr_framed
  with_reducible assumption
  exact kf.get rfl
  with_reducible assumption

theorem State.icSrcCfg_framed {s : State} {n : Fin 512} {v : Word} (hs : State.Framed q b s) (kf : b.free (postParts ++ [Part.reg RegGroup.stk, Part.stk, Part.ic])) :
    State.Framed q b (State.icSrcCfg s n v) := by
  unfold State.icSrcCfg
  extract_lets +onlyGivenNames x; clear_value x
  extract_lets +onlyGivenNames x; clear_value x
  extract_lets +onlyGivenNames x; clear_value x
  extract_lets +onlyGivenNames x; clear_value x
  extract_lets +onlyGivenNames x; clear_value x
  extract_lets +onlyGivenNames x; refine (fun (hx : State.Framed q b x) => ?_) ?_ <;> [(try clear_value x); subst x]
  extract_lets +onlyGivenNames x; refine (fun (hx : State.Framed q b x) => ?_) ?_ <;> [(try clear_value x); subst x]
  extract_lets +onlyGivenNames x; refine (fun (hx : State.Framed q b x) => ?_) ?_ <;> [(try clear_value x); subst x]
  with_reducible apply framed_ite
  with_reducible apply State.flag_framed
  with_reducible assumption
  exact kf.get rfl
  with_reducible apply State.icTimers_framed
  with_reducible apply State.icWake_framed
  with_reducible apply State.icRefresh_framed
  with_reducible assumption
  exact kf.sub rfl
  exact kf.sub rfl
  exact kf.sub rfl
  with_reducible apply framed_ite
  with_reducible apply State.put_framed
  with_reducible assumption
  exact kf.get rfl
  with_reducible assumption
  with_reducible apply State.wr_framed
  with_reducible assumption
  exact kf.get rfl
  with_reducible apply framed_ite
  with_reducible apply State.flag_framed
  with_reducible assumption
  exact kf.get rfl
  with_reducible assumption

theorem execIcSrcCfgWrite_framed {n : Fin 512} {v : Word} {s : State} (hs : State.Framed q b s) (kf : b.free (postParts ++ [Part.reg RegGroup.stk, Part.stk, Part.ic])) :
    answers (execIcSrcCfgWrite n v s) (State.Framed q b) := by
  unfold execIcSrcCfgWrite
  with_reducible apply answers_next
  with_reducible apply State.icSrcCfg_framed
  with_reducible assumption
  exact kf.sub rfl

theorem State.icTell_framed {s : State} {pl : Fin 2} {t_ : Fin 16} {stays : Bool} (hs : State.Framed q b s) (kf : b.free [Part.ic]) :
    State.Framed q b (State.icTell s pl t_ stays) := by
  have k_ic : b.keep .ic = false := kf.get rfl
  unfold State.icTell
  extract_lets +onlyGivenNames x; clear_value x
  extract_lets +onlyGivenNames x; clear_value x
  extract_lets +onlyGivenNames x; clear_value x
  extract_lets +onlyGivenNames x; clear_value x
  simp -zeta only [framed_mk, k_ic, or_true, true_or]
  with_reducible assumption

theorem execIcPlaneFinding_framed {t_ : Fin 16} {s : State} (hs : State.Framed q b s) (kf : b.free [Part.now, Part.pc, Part.ic]) :
    answers (execIcPlaneFinding t_ s) (State.Framed q b) := by
  unfold execIcPlaneFinding
  split
  with_reducible apply answers_next
  with_reducible assumption
  with_reducible apply answers_next
  with_reducible apply State.finding_framed
  with_reducible apply State.icTell_framed
  with_reducible apply State.icTell_framed
  with_reducible assumption
  exact kf.sub rfl
  exact kf.sub rfl
  exact kf.sub rfl
  with_reducible apply answers_next
  with_reducible apply State.finding_framed
  with_reducible apply State.icTell_framed
  with_reducible apply State.advance_framed
  with_reducible assumption
  exact kf.sub rfl
  exact kf.sub rfl
  exact kf.sub rfl
  with_reducible apply answers_next
  with_reducible apply State.finding_framed
  with_reducible apply State.icTell_framed
  with_reducible apply State.advance_framed
  with_reducible assumption
  exact kf.sub rfl
  exact kf.sub rfl
  exact kf.sub rfl

theorem State.updMail_framed {s : State} {f : Mail → Mail} (hs : State.Framed q b s) (kf : b.free [Part.mb]) :
    State.Framed q b (State.updMail s f) := by
  have k_mb : b.keep .mb = false := kf.get rfl
  unfold State.updMail
  simp -zeta only [framed_mk, k_mb, or_true, true_or]
  with_reducible assumption

theorem State.setSlot_framed {s : State} {k : Fin 16} {x : MbSlot} (hs : State.Framed q b s) (kf : b.free [Part.mb]) :
    State.Framed q b (State.setSlot s k x) := by
  unfold State.setSlot
  with_reducible apply State.updMail_framed
  with_reducible assumption
  exact kf.sub rfl

theorem State.slotWrite_framed {s : State} {k : Fin 16} {o : Nat} {bs : List Byte} (hs : State.Framed q b s) (kf : b.free [Part.reg RegGroup.hm, Part.mb]) :
    State.Framed q b (State.slotWrite s k o bs) := by
  unfold State.slotWrite
  extract_lets +onlyGivenNames x; clear_value x
  extract_lets +onlyGivenNames x; clear_value x
  with_reducible apply framed_ite
  with_reducible assumption
  with_reducible apply framed_ite
  with_reducible apply State.flag_framed
  with_reducible assumption
  exact kf.get rfl
  with_reducible apply State.setSlot_framed
  with_reducible assumption
  exact kf.sub rfl

theorem execMbCommandWrite_framed {k : Fin 16} {o : Nat} {bytes : List Byte} {s : State} (hs : State.Framed q b s) (kf : b.free [Part.reg RegGroup.hm, Part.mb]) :
    answers (execMbCommandWrite k o bytes s) (State.Framed q b) := by
  unfold execMbCommandWrite
  with_reducible apply answers_next
  with_reducible apply State.slotWrite_framed
  with_reducible assumption
  exact kf.sub rfl

theorem State.postSlot_framed {s : State} {k : Fin 16} {qspi : Bool} (hs : State.Framed q b s) (kf : b.free [Part.reg RegGroup.hm, Part.mb]) :
    State.Framed q b (State.postSlot s k qspi) := by
  unfold State.postSlot
  extract_lets +onlyGivenNames x; clear_value x
  with_reducible apply framed_ite
  with_reducible apply State.flag_framed
  with_reducible assumption
  exact kf.get rfl
  with_reducible apply State.updMail_framed
  with_reducible apply State.setSlot_framed
  with_reducible assumption
  exact kf.sub rfl
  exact kf.sub rfl

theorem execMbPost_framed {v : BitVec 16} {s : State} (hs : State.Framed q b s) (kf : b.free [Part.reg RegGroup.hm, Part.mb]) :
    answers (execMbPost v s) (State.Framed q b) := by
  unfold execMbPost
  with_reducible apply answers_next
  with_reducible apply framed_foldl
  intro _ _ _
  with_reducible apply State.postSlot_framed
  with_reducible assumption
  exact kf.sub rfl
  with_reducible assumption

theorem State.emptySlot_framed {s : State} {k : Fin 16} (hs : State.Framed q b s) (kf : b.free [Part.reg RegGroup.ic, Part.mb]) :
    State.Framed q b (State.emptySlot s k) := by
  unfold State.emptySlot
  with_reducible apply State.put_framed
  with_reducible apply State.setSlot_framed
  with_reducible assumption
  exact kf.sub rfl
  exact kf.get rfl

theorem State.freeSlot_framed {s : State} {k : Fin 16} {qspi : Bool} (hs : State.Framed q b s) (kf : b.free [Part.reg RegGroup.ic, Part.reg RegGroup.hm, Part.mb]) :
    State.Framed q b (State.freeSlot s k qspi) := by
  unfold State.freeSlot
  extract_lets +onlyGivenNames x; clear_value x
  with_reducible apply framed_ite
  with_reducible apply State.flag_framed
  with_reducible assumption
  exact kf.get rfl
  with_reducible apply framed_ite
  with_reducible assumption
  with_reducible apply State.emptySlot_framed
  with_reducible assumption
  exact kf.sub rfl

theorem execMbFree_framed {v : BitVec 16} {s : State} (hs : State.Framed q b s) (kf : b.free [Part.reg RegGroup.ic, Part.reg RegGroup.hm, Part.mb]) :
    answers (execMbFree v s) (State.Framed q b) := by
  unfold execMbFree
  with_reducible apply answers_next
  with_reducible apply framed_foldl
  intro _ _ _
  with_reducible apply State.freeSlot_framed
  with_reducible assumption
  exact kf.sub rfl
  with_reducible assumption

theorem State.endSlot_framed {s : State} {k : Fin 16} {st : Nat} {code : Nat} {res : List Byte} (hs : State.Framed q b s) (kf : b.free [Part.reg RegGroup.ic, Part.mb]) :
    State.Framed q b (State.endSlot s k st code res) := by
  unfold State.endSlot
  extract_lets +onlyGivenNames x; clear_value x
  extract_lets +onlyGivenNames x; refine (fun (hx : State.Framed q b x) => ?_) ?_ <;> [(try clear_value x); subst x]
  extract_lets +onlyGivenNames x; refine (fun (hx : State.Framed q b x) => ?_) ?_ <;> [(try clear_value x); subst x]
  with_reducible apply framed_ite
  with_reducible apply State.emptySlot_framed
  with_reducible assumption
  exact kf.sub rfl
  with_reducible apply framed_ite
  with_reducible apply State.put_framed
  with_reducible assumption
  exact kf.get rfl
  with_reducible assumption
  with_reducible apply State.setSlot_framed
  with_reducible assumption
  exact kf.sub rfl
  with_reducible apply State.updMail_framed
  with_reducible assumption
  exact kf.sub rfl

theorem State.statRead_framed {s : State} {k : Fin 16} (hs : State.Framed q b s) (kf : b.free [Part.reg RegGroup.ic, Part.rdata, Part.mb]) :
    State.Framed q b (State.statRead s k) := by
  unfold State.statRead
  extract_lets +onlyGivenNames x; clear_value x
  extract_lets +onlyGivenNames x; refine (fun (hx : State.Framed q b x) => ?_) ?_ <;> [(try clear_value x); subst x]
  with_reducible apply framed_ite
  with_reducible apply State.put_framed
  with_reducible apply State.setSlot_framed
  with_reducible assumption
  exact kf.sub rfl
  exact kf.get rfl
  with_reducible apply framed_ite
  with_reducible apply State.put_framed
  with_reducible apply State.setSlot_framed
  with_reducible assumption
  exact kf.sub rfl
  exact kf.get rfl
  with_reducible assumption
  with_reducible apply State.answer_framed
  with_reducible assumption
  exact kf.sub rfl

theorem execMbStatRead_framed {k : Fin 16} {s : State} (hs : State.Framed q b s) (kf : b.free [Part.reg RegGroup.ic, Part.rdata, Part.mb]) :
    answers (execMbStatRead k s) (State.Framed q b) := by
  unfold execMbStatRead
  with_reducible apply answers_next
  with_reducible apply State.statRead_framed
  with_reducible assumption
  exact kf.sub rfl

theorem State.hearthRestart_framed {s : State} (hs : State.Framed q b s) (kf : b.free [Part.reg RegGroup.ic, Part.reg RegGroup.hm, Part.mb]) :
    State.Framed q b (State.hearthRestart s) := by
  unfold State.hearthRestart
  extract_lets +onlyGivenNames x; refine (fun (hx : State.Framed q b x) => ?_) ?_ <;> [(try clear_value x); subst x]
  with_reducible apply State.bumpField_framed
  with_reducible apply State.put_framed
  with_reducible apply State.updMail_framed
  with_reducible assumption
  exact kf.sub rfl
  exact kf.get rfl
  exact kf.get rfl
  with_reducible apply framed_foldl
  intro _ _ _
  with_reducible apply State.endSlot_framed
  with_reducible assumption
  exact kf.sub rfl
  with_reducible assumption

theorem execHearthUp_framed {s : State} (hs : State.Framed q b s) (kf : b.free (postParts ++ [Part.reg RegGroup.tb, Part.reg RegGroup.stk, Part.fresh, Part.time, Part.stk, Part.ic, Part.chain, Part.mb])) :
    answers (execHearthUp s) (State.Framed q b) := by
  unfold execHearthUp
  with_reducible apply answers_next
  with_reducible apply framed_ite
  with_reducible apply State.hearthRest_framed
  with_reducible apply State.timeResume_framed
  with_reducible apply State.put_framed
  with_reducible apply State.updMail_framed
  with_reducible assumption
  exact kf.sub rfl
  exact kf.get rfl
  exact kf.sub rfl
  exact kf.sub rfl
  with_reducible assumption

theorem State.eventRead_framed {s : State} (hs : State.Framed q b s) (kf : b.free [Part.reg RegGroup.ic, Part.reg RegGroup.hm, Part.rdata, Part.evts, Part.mb]) :
    State.Framed q b (State.eventRead s) := by
  have k_evts : b.keep .evts = false := kf.get rfl
  unfold State.eventRead
  extract_lets +onlyGivenNames x; clear_value x
  extract_lets +onlyGivenNames x; refine (fun (hx : State.Framed q b x) => ?_) ?_ <;> [(try clear_value x); subst x]
  extract_lets +onlyGivenNames x; refine (fun (hx : State.Framed q b x) => ?_) ?_ <;> [(try clear_value x); subst x]
  with_reducible apply State.answer_framed
  with_reducible apply State.updMail_framed
  with_reducible assumption
  exact kf.sub rfl
  exact kf.sub rfl
  with_reducible apply framed_foldl
  intro _ _ _
  with_reducible apply State.wr_framed
  with_reducible assumption
  exact kf.get rfl
  with_reducible assumption
  with_reducible apply State.showEvts_framed
  simp -zeta only [framed_mk, k_evts, or_true, true_or]
  with_reducible assumption
  exact kf.sub rfl

theorem execHmEvtHeadRead_framed {s : State} (hs : State.Framed q b s) (kf : b.free [Part.reg RegGroup.ic, Part.reg RegGroup.hm, Part.rdata, Part.evts, Part.mb]) :
    answers (execHmEvtHeadRead s) (State.Framed q b) := by
  unfold execHmEvtHeadRead
  with_reducible apply answers_next
  with_reducible apply State.eventRead_framed
  with_reducible assumption
  exact kf.sub rfl

theorem execWindowTWrite_framed {_o : Nat} {_v : Word} {s : State} (hs : State.Framed q b s) (kf : b.free [Part.reg RegGroup.hm]) :
    answers (execWindowTWrite _o _v s) (State.Framed q b) := by
  unfold execWindowTWrite
  with_reducible apply answers_next
  with_reducible apply State.flag_framed
  with_reducible assumption
  exact kf.get rfl

theorem execPcieReset_framed {up : Bool} {s : State} (hs : State.Framed q b s) (kf : b.free [Part.reg RegGroup.ic, Part.reg RegGroup.hm, Part.ic, Part.mb]) :
    answers (execPcieReset up s) (State.Framed q b) := by
  have k_ic : b.keep .ic = false := kf.get rfl
  unfold execPcieReset
  extract_lets +onlyGivenNames x; refine (fun (hx : State.Framed q b x) => ?_) ?_ <;> [(try clear_value x); subst x]
  extract_lets +onlyGivenNames x; clear_value x
  extract_lets +onlyGivenNames x; refine (fun (hx : State.Framed q b x) => ?_) ?_ <;> [(try clear_value x); subst x]
  extract_lets +onlyGivenNames x; refine (fun (hx : State.Framed q b x) => ?_) ?_ <;> [(try clear_value x); subst x]
  with_reducible apply answers_next
  with_reducible apply framed_foldl
  intro _ _ _
  extract_lets +onlyGivenNames x; clear_value x
  with_reducible apply framed_ite
  with_reducible assumption
  with_reducible apply framed_ite
  with_reducible apply State.setSlot_framed
  with_reducible assumption
  exact kf.sub rfl
  with_reducible apply framed_ite
  with_reducible assumption
  with_reducible apply State.emptySlot_framed
  with_reducible assumption
  exact kf.sub rfl
  with_reducible assumption
  with_reducible apply State.icTimers_framed
  with_reducible apply State.wr_framed
  with_reducible apply State.wr_framed
  with_reducible assumption
  exact kf.get rfl
  exact kf.get rfl
  exact kf.sub rfl
  simp -zeta only [framed_mk, k_ic, or_true, true_or]
  with_reducible assumption
  with_reducible apply framed_foldl
  intro _ _ _
  with_reducible apply State.wr_framed
  with_reducible assumption
  exact kf.get rfl
  with_reducible assumption

theorem State.updPc_framed {s : State} {f : PlaneCtl → PlaneCtl} (hs : State.Framed q b s) (kf : b.free [Part.pc]) :
    State.Framed q b (State.updPc s f) := by
  have k_pc : b.keep .pc = false := kf.get rfl
  unfold State.updPc
  simp -zeta only [framed_mk, k_pc, or_true, true_or]
  with_reducible assumption

theorem State.showOk_framed {s : State} {pl : Fin 2} (hs : State.Framed q b s) (kf : b.free [Part.reg RegGroup.pc]) :
    State.Framed q b (State.showOk s pl) := by
  unfold State.showOk
  extract_lets +onlyGivenNames x; clear_value x
  with_reducible apply State.wr_framed
  with_reducible assumption
  (with_reducible rw [healthReg_group]); exact kf.get rfl

theorem State.setPlane_framed {s : State} {pl : Fin 2} {st : Nat} (hs : State.Framed q b s) (kf : b.free [Part.reg RegGroup.pc, Part.ic]) :
    State.Framed q b (State.setPlane s pl st) := by
  unfold State.setPlane
  with_reducible apply State.showOk_framed
  with_reducible apply framed_ite
  with_reducible assumption
  with_reducible apply State.raise_framed
  with_reducible apply State.put_framed
  with_reducible assumption
  (with_reducible rw [planeField_group]); exact kf.get rfl
  exact kf.sub rfl
  exact kf.sub rfl

theorem State.setHealth_framed {s : State} {pl : Fin 2} {k : PlaneFault} {tile : Option (Fin 16)} (hs : State.Framed q b s) (kf : b.free [Part.reg RegGroup.pc]) :
    State.Framed q b (State.setHealth s pl k tile) := by
  unfold State.setHealth
  extract_lets +onlyGivenNames x; clear_value x
  extract_lets +onlyGivenNames x; clear_value x
  with_reducible apply State.showOk_framed
  with_reducible apply State.wr_framed
  with_reducible assumption
  (with_reducible rw [healthReg_group]); exact kf.get rfl
  exact kf.sub rfl

theorem State.stopTiles_framed {s : State} {pl : Fin 2} (hs : State.Framed q b s) (kf : b.free [Part.tiles]) :
    State.Framed q b (State.stopTiles s pl) := by
  unfold State.stopTiles
  with_reducible apply framed_foldl
  intro _ _ _
  extract_lets +onlyGivenNames x; clear_value x
  extract_lets +onlyGivenNames x; clear_value x
  with_reducible apply State.setTile_framed
  with_reducible assumption
  exact kf.sub rfl
  with_reducible assumption

theorem State.planeDown_framed {s : State} {pl : Fin 2} (hs : State.Framed q b s) (kf : b.free [Part.reg RegGroup.pc, Part.tiles, Part.pc, Part.ic]) :
    State.Framed q b (State.planeDown s pl) := by
  unfold State.planeDown
  with_reducible apply State.updPc_framed
  with_reducible apply State.icUnmark_framed
  with_reducible apply State.setPlane_framed
  with_reducible apply State.stopTiles_framed
  with_reducible assumption
  exact kf.sub rfl
  exact kf.sub rfl
  exact kf.sub rfl
  exact kf.sub rfl

theorem State.planeTest_framed {s : State} {pl : Fin 2} (hs : State.Framed q b s) (kf : b.free [Part.reg RegGroup.pc, Part.ic]) :
    State.Framed q b (State.planeTest s pl) := by
  unfold State.planeTest
  with_reducible apply State.setPlane_framed
  with_reducible apply State.wr_framed
  with_reducible assumption
  (with_reducible rw [healthReg_group]); exact kf.get rfl
  exact kf.sub rfl

theorem State.lbistStart_framed {s : State} {pl : Fin 2} (hs : State.Framed q b s) (kf : b.free [Part.pc]) :
    State.Framed q b (State.lbistStart s pl) := by
  unfold State.lbistStart
  with_reducible apply State.updPc_framed
  with_reducible assumption
  exact kf.sub rfl

theorem State.noPlane_framed {s : State} (hs : State.Framed q b s) (kf : b.free (postParts ++ [Part.reg RegGroup.port, Part.reg RegGroup.stp, Part.reg RegGroup.pc, Part.now, Part.ports, Part.axes])) :
    State.Framed q b (State.noPlane s) := by
  unfold State.noPlane
  extract_lets +onlyGivenNames x; refine (fun (hx : State.Framed q b x) => ?_) ?_ <;> [(try clear_value x); subst x]
  extract_lets +onlyGivenNames x; refine (fun (hx : State.Framed q b x) => ?_) ?_ <;> [(try clear_value x); subst x]
  with_reducible apply State.post_framed
  with_reducible assumption
  exact kf.sub rfl
  with_reducible apply framed_foldl
  intro _ _ _
  with_reducible apply State.forceTrip_framed
  with_reducible assumption
  exact kf.sub rfl
  with_reducible assumption
  with_reducible apply State.advance_framed
  with_reducible apply State.put_framed
  with_reducible assumption
  exact kf.get rfl
  exact kf.sub rfl

theorem State.bootPlanes_framed {s : State} (hs : State.Framed q b s) (kf : b.free (postParts ++ [Part.reg RegGroup.port, Part.reg RegGroup.stp, Part.reg RegGroup.pc, Part.now, Part.ports, Part.axes, Part.pc, Part.ic])) :
    State.Framed q b (State.bootPlanes s) := by
  unfold State.bootPlanes
  extract_lets +onlyGivenNames x; subst x
  extract_lets +onlyGivenNames x; clear_value x
  extract_lets +onlyGivenNames x; refine (fun (hx : State.Framed q b x) => ?_) ?_ <;> [(try clear_value x); subst x]
  simp -zeta only
  with_reducible apply framed_ite
  with_reducible assumption
  split
  with_reducible apply State.noPlane_framed
  with_reducible assumption
  exact kf.sub rfl
  with_reducible apply State.put_framed
  with_reducible apply State.lbistStart_framed
  with_reducible apply State.setPlane_framed
  with_reducible assumption
  exact kf.sub rfl
  exact kf.sub rfl
  exact kf.get rfl
  with_reducible apply State.wr_framed
  with_reducible apply State.lbistStart_framed
  with_reducible apply State.setPlane_framed
  with_reducible apply State.put_framed
  with_reducible apply State.lbistStart_framed
  with_reducible apply State.setPlane_framed
  with_reducible assumption
  exact kf.sub rfl
  exact kf.sub rfl
  exact kf.get rfl
  exact kf.sub rfl
  exact kf.sub rfl
  exact kf.get rfl
  with_reducible apply State.updPc_framed
  with_reducible assumption
  exact kf.sub rfl

theorem execPlaneTestDone_framed {pl : Fin 2} {k : Option PlaneFault} {tile : Option (Fin 16)} {s : State} (hs : State.Framed q b s) (kf : b.free (postParts ++ [Part.reg RegGroup.port, Part.reg RegGroup.stp, Part.reg RegGroup.pc, Part.now, Part.ports, Part.axes, Part.tiles, Part.pc, Part.ic])) :
    answers (execPlaneTestDone pl k tile s) (State.Framed q b) := by
  unfold execPlaneTestDone
  with_reducible apply answers_ite
  with_reducible apply answers_next
  with_reducible assumption
  split
  with_reducible apply answers_next
  with_reducible apply State.bootPlanes_framed
  with_reducible apply State.planeDown_framed
  with_reducible apply State.setHealth_framed
  with_reducible assumption
  exact kf.sub rfl
  exact kf.sub rfl
  exact kf.sub rfl
  with_reducible apply answers_ite
  with_reducible apply answers_next
  with_reducible apply State.bootPlanes_framed
  with_reducible apply State.updPc_framed
  with_reducible assumption
  exact kf.sub rfl
  exact kf.sub rfl
  with_reducible apply answers_next
  with_reducible apply State.updPc_framed
  with_reducible apply State.setPlane_framed
  with_reducible assumption
  exact kf.sub rfl
  exact kf.sub rfl

theorem execPcReturn_framed {pl : Fin 2} {s : State} (hs : State.Framed q b s) (kf : b.free [Part.reg RegGroup.pc, Part.ic]) :
    answers (execPcReturn pl s) (State.Framed q b) := by
  unfold execPcReturn
  with_reducible apply answers_next
  with_reducible apply framed_ite
  with_reducible apply State.planeTest_framed
  with_reducible assumption
  exact kf.sub rfl
  with_reducible apply State.flag_framed
  with_reducible assumption
  exact kf.get rfl

theorem execPcHandover_framed {s : State} (hs : State.Framed q b s) (kf : b.free [Part.reg RegGroup.pc, Part.pc]) :
    answers (execPcHandover s) (State.Framed q b) := by
  unfold execPcHandover
  extract_lets +onlyGivenNames x; clear_value x
  with_reducible apply answers_next
  with_reducible apply framed_ite
  with_reducible apply State.updPc_framed
  with_reducible assumption
  exact kf.sub rfl
  with_reducible apply State.flag_framed
  with_reducible assumption
  exact kf.get rfl

theorem execPcTakeDown_framed {pl : Fin 2} {s : State} (hs : State.Framed q b s) (kf : b.free [Part.reg RegGroup.pc, Part.tiles, Part.pc, Part.ic]) :
    answers (execPcTakeDown pl s) (State.Framed q b) := by
  unfold execPcTakeDown
  with_reducible apply answers_next
  with_reducible apply framed_ite
  with_reducible apply State.planeDown_framed
  with_reducible assumption
  exact kf.sub rfl
  with_reducible apply State.flag_framed
  with_reducible assumption
  exact kf.get rfl

theorem State.extTest_framed {s : State} (hs : State.Framed q b s) (kf : b.free [Part.reg RegGroup.pc]) :
    State.Framed q b (State.extTest s) := by
  unfold State.extTest
  with_reducible apply State.put_framed
  with_reducible assumption
  exact kf.get rfl

theorem execPcExtTest_framed {s : State} (hs : State.Framed q b s) (kf : b.free [Part.reg RegGroup.pc]) :
    answers (execPcExtTest s) (State.Framed q b) := by
  unfold execPcExtTest
  with_reducible apply answers_next
  with_reducible apply State.extTest_framed
  with_reducible assumption
  exact kf.sub rfl

theorem execPlaneComparison_framed {s : State} (hs : State.Framed q b s) (kf : b.free (postParts ++ [Part.reg RegGroup.pc, Part.now, Part.pc, Part.ic])) :
    answers (execPlaneComparison s) (State.Framed q b) := by
  unfold execPlaneComparison
  extract_lets +onlyGivenNames x; clear_value x
  extract_lets +onlyGivenNames x; refine (fun (hx : State.Framed q b x) => ?_) ?_ <;> [(try clear_value x); subst x]
  extract_lets +onlyGivenNames x; subst x
  extract_lets +onlyGivenNames x; refine (fun (hx : State.Framed q b x) => ?_) ?_ <;> [(try clear_value x); subst x]
  extract_lets +onlyGivenNames x; refine (fun (hx : State.Framed q b x) => ?_) ?_ <;> [(try clear_value x); subst x]
  split
  with_reducible apply answers_next
  with_reducible assumption
  with_reducible apply answers_ite
  with_reducible apply answers_next
  with_reducible assumption
  split
  with_reducible apply answers_next
  with_reducible apply framed_ite
  with_reducible apply State.wr_framed
  with_reducible assumption
  exact kf.get rfl
  with_reducible assumption
  extract_lets +onlyGivenNames x; refine (fun (hx : State.Framed q b x) => ?_) ?_ <;> [(try clear_value x); subst x]
  extract_lets +onlyGivenNames x; refine (fun (hx : State.Framed q b x) => ?_) ?_ <;> [(try clear_value x); subst x]
  extract_lets +onlyGivenNames x; refine (fun (hx : State.Framed q b x) => ?_) ?_ <;> [(try clear_value x); subst x]
  extract_lets +onlyGivenNames x; refine (fun (hx : State.Framed q b x) => ?_) ?_ <;> [(try clear_value x); subst x]
  with_reducible apply answers_next
  with_reducible apply framed_ite
  with_reducible apply State.extTest_framed
  with_reducible assumption
  exact kf.sub rfl
  with_reducible assumption
  with_reducible apply framed_ite
  with_reducible apply State.updPc_framed
  with_reducible apply State.wr_framed
  with_reducible assumption
  exact kf.get rfl
  exact kf.sub rfl
  with_reducible assumption
  with_reducible apply State.updPc_framed
  with_reducible apply State.bumpField_framed
  with_reducible assumption
  exact kf.get rfl
  exact kf.sub rfl
  with_reducible apply framed_ite
  with_reducible apply State.post_framed
  with_reducible apply State.raise_framed
  with_reducible assumption
  exact kf.sub rfl
  exact kf.sub rfl
  with_reducible assumption
  with_reducible apply State.put_framed
  with_reducible apply State.put_framed
  with_reducible apply State.put_framed
  with_reducible assumption
  exact kf.get rfl
  exact kf.get rfl
  exact kf.get rfl
  with_reducible apply State.bump_framed
  with_reducible apply State.bump_framed
  with_reducible assumption
  exact kf.get rfl
  exact kf.get rfl
  with_reducible apply State.updPc_framed
  with_reducible apply State.put_framed
  with_reducible assumption
  exact kf.get rfl
  exact kf.sub rfl
  with_reducible apply State.updPc_framed
  with_reducible apply State.advance_framed
  with_reducible assumption
  exact kf.sub rfl
  exact kf.sub rfl

theorem execPlaneConfirmed_framed {s : State} (hs : State.Framed q b s) (kf : b.free [Part.reg RegGroup.pc, Part.pc, Part.ic]) :
    answers (execPlaneConfirmed s) (State.Framed q b) := by
  unfold execPlaneConfirmed
  extract_lets +onlyGivenNames x; refine (fun (hx : State.Framed q b x) => ?_) ?_ <;> [(try clear_value x); subst x]
  extract_lets +onlyGivenNames x; clear_value x
  with_reducible apply answers_ite
  with_reducible apply answers_next
  with_reducible assumption
  with_reducible apply answers_ite
  with_reducible apply answers_next
  with_reducible apply framed_ite
  with_reducible apply State.updPc_framed
  with_reducible assumption
  exact kf.sub rfl
  with_reducible apply State.setPlane_framed
  with_reducible assumption
  exact kf.sub rfl
  with_reducible apply answers_ite
  with_reducible apply answers_next
  with_reducible apply framed_ite
  with_reducible apply State.updPc_framed
  with_reducible assumption
  exact kf.sub rfl
  with_reducible apply framed_ite
  with_reducible apply State.updPc_framed
  with_reducible assumption
  exact kf.sub rfl
  with_reducible assumption
  with_reducible apply answers_next
  with_reducible assumption
  with_reducible apply State.setPlane_framed
  with_reducible assumption
  exact kf.sub rfl

theorem State.copyPlane_framed {s : State} {dst : Fin 2} (hs : State.Framed q b s) (kf :
    b.free [Part.reg RegGroup.kn, Part.mem, Part.kiln, Part.tiles]) :
  State.Framed q b (s.copyPlane dst) := by
  unfold State.copyPlane
  extract_lets src go m x y
  refine framed_ite hs ?_
  have h : State.Framed q b x := framed_put_mem hs (kf.get rfl)
  clear_value x
  have hy : State.Framed q b y := framed_foldl (fun s c h => State.setTile_framed h (kf.sub rfl)) h
  clear_value y
  exact framed_foldl (fun s c h => State.showPhase_framed (State.setKctx_framed h (kf.sub rfl)) (kf.sub rfl)) hy

theorem execTransferSweepDone_framed {pl : Fin 2} {s : State} (hs : State.Framed q b s) (kf : b.free [Part.reg RegGroup.kn, Part.reg RegGroup.pc, Part.mem, Part.kiln, Part.tiles, Part.pc]) :
    answers (execTransferSweepDone pl s) (State.Framed q b) := by
  unfold execTransferSweepDone
  with_reducible apply answers_ite
  with_reducible apply answers_next
  with_reducible apply State.updPc_framed
  with_reducible apply State.wr_framed
  with_reducible apply State.copyPlane_framed
  with_reducible assumption
  exact kf.sub rfl
  exact kf.get rfl
  exact kf.sub rfl
  with_reducible apply answers_next
  with_reducible assumption

theorem execLbistSlice_framed {t_ : Fin 16} {s : State} (hs : State.Framed q b s) (kf : b.free [Part.fresh, Part.tiles, Part.pc]) :
    answers (execLbistSlice t_ s) (State.Framed q b) := by
  unfold execLbistSlice
  simp -zeta only
  with_reducible apply answers_next
  with_reducible apply framed_foldl
  intro _ _ _
  extract_lets +onlyGivenNames x; clear_value x
  with_reducible apply State.updPc_framed
  with_reducible apply State.setTile_framed
  with_reducible apply State.useFresh_framed
  with_reducible assumption
  exact kf.sub rfl
  exact kf.sub rfl
  exact kf.sub rfl
  with_reducible assumption

theorem execLbistStarved_framed {pl : Fin 2} {t_ : Fin 16} {s : State} (hs : State.Framed q b s) (kf : b.free [Part.reg RegGroup.pc, Part.now]) :
    answers (execLbistStarved pl t_ s) (State.Framed q b) := by
  unfold execLbistStarved
  extract_lets +onlyGivenNames x; clear_value x
  with_reducible apply answers_ite
  with_reducible apply answers_next
  with_reducible apply State.wr_framed
  with_reducible apply State.advance_framed
  with_reducible assumption
  exact kf.sub rfl
  (with_reducible rw [healthReg_group]); exact kf.get rfl
  with_reducible apply answers_next
  with_reducible assumption

theorem State.via_framed {s : State} {f : State → Host.Outcome State Fault Refusal}
  (hs : State.Framed q b s) (hf : ∀ s, State.Framed q b s → answers (f s) (State.Framed q b)) :
    State.Framed q b (s.via f) := by
  replace hf := hf s hs
  unfold State.via
  split
  · rename_i t e
    rw [e] at hf
    exact hf
  · exact hs

theorem State.onChange_framed {s : State} {f : Field} {v : Word} {g : Bool → State → Host.Outcome State Fault Refusal} (hs : State.Framed q b s) (hg : ∀ y0 s, State.Framed q b s → answers (g y0 s) (State.Framed q b)) :
    State.Framed q b (State.onChange s f v g) := by
  unfold State.onChange
  with_reducible apply framed_ite
  with_reducible assumption
  with_reducible apply State.via_framed
  with_reducible assumption
  intro _ _
  with_reducible apply hg
  with_reducible assumption

theorem State.onOne_framed {s : State} {f : Field} {v : Word} {g : State → Host.Outcome State Fault Refusal} (hs : State.Framed q b s) (hg : ∀ s, State.Framed q b s → answers (g s) (State.Framed q b)) :
    State.Framed q b (State.onOne s f v g) := by
  unfold State.onOne
  with_reducible apply framed_ite
  with_reducible apply State.via_framed
  with_reducible assumption
  intro _ _
  with_reducible apply hg
  with_reducible assumption
  with_reducible assumption

theorem State.plainWrite_framed {s : State} {who : Who} {r : Reg} {v : Word} (hs : State.Framed q b s) (kf : b.free (regParts)) :
    State.Framed q b (State.plainWrite s who r v) := by
  unfold State.plainWrite
  extract_lets +onlyGivenNames x; refine (fun (hx : State.Framed q b x) => ?_) ?_ <;> [(try clear_value x); subst x]
  with_reducible apply framed_ite
  with_reducible apply State.flag_framed
  with_reducible assumption
  exact kf.get rfl
  with_reducible assumption
  with_reducible apply State.wr_framed
  with_reducible assumption
  exact kf.getReg rfl

theorem State.pwmCtrl_framed {s : State} {n : Fin 64} {v : Word} (hs : State.Framed q b s) (kf : b.free (postParts ++ [Part.reg RegGroup.port, Part.reg RegGroup.stp, Part.ports, Part.axes, Part.boot])) :
    State.Framed q b (State.pwmCtrl s n v) := by
  unfold State.pwmCtrl
  extract_lets +onlyGivenNames x; refine (fun (hx : State.Framed q b x) => ?_) ?_ <;> [(try clear_value x); subst x]
  extract_lets +onlyGivenNames x; refine (fun (hx : State.Framed q b x) => ?_) ?_ <;> [(try clear_value x); subst x]
  extract_lets +onlyGivenNames x; refine (fun (hx : State.Framed q b x) => ?_) ?_ <;> [(try clear_value x); subst x]
  with_reducible apply State.onOne_framed
  with_reducible assumption
  intro _ _
  with_reducible apply execClrTrip_framed
  with_reducible assumption
  exact kf.sub rfl
  with_reducible apply State.onChange_framed
  with_reducible assumption
  intro _ _ _
  split
  with_reducible apply execPwmArm_framed
  with_reducible assumption
  exact kf.sub rfl
  with_reducible apply execPwmDisarm_framed
  with_reducible assumption
  exact kf.sub rfl
  with_reducible apply State.onChange_framed
  with_reducible assumption
  intro _ _ _
  split
  with_reducible apply execPwmRunSet_framed
  with_reducible assumption
  exact kf.sub rfl
  with_reducible apply execPwmRunClear_framed
  with_reducible assumption
  exact kf.sub rfl
  with_reducible apply State.onChange_framed
  with_reducible assumption
  intro _ _ _
  split
  with_reducible apply execForceTripSet_framed
  with_reducible assumption
  exact kf.sub rfl
  with_reducible apply execForceTripClear_framed
  with_reducible assumption
  exact kf.sub rfl

theorem State.ldCtrl_framed {s : State} {n : Fin 256} {v : Word} (hs : State.Framed q b s) (kf : b.free [Part.reg RegGroup.ld, Part.loops]) :
    State.Framed q b (State.ldCtrl s n v) := by
  unfold State.ldCtrl
  extract_lets +onlyGivenNames x; refine (fun (hx : State.Framed q b x) => ?_) ?_ <;> [(try clear_value x); subst x]
  extract_lets +onlyGivenNames x; refine (fun (hx : State.Framed q b x) => ?_) ?_ <;> [(try clear_value x); subst x]
  with_reducible apply State.onOne_framed
  with_reducible assumption
  intro _ _
  with_reducible apply execLoopClrFault_framed
  with_reducible assumption
  exact kf.sub rfl
  with_reducible apply State.onChange_framed
  with_reducible assumption
  intro _ _ _
  split
  with_reducible apply execLoopEnable_framed
  with_reducible assumption
  exact kf.sub rfl
  with_reducible apply execLoopDisable_framed
  with_reducible assumption
  exact kf.sub rfl
  with_reducible apply State.via_framed
  with_reducible assumption
  intro _ _
  with_reducible apply execLdConfigWrite_framed
  with_reducible assumption
  exact kf.sub rfl

theorem State.stpCtrl_framed {s : State} {i : Fin 16} {v : Word} (hs : State.Framed q b s) (kf : b.free (postParts ++ [Part.reg RegGroup.stp, Part.axes])) :
    State.Framed q b (State.stpCtrl s i v) := by
  unfold State.stpCtrl
  extract_lets +onlyGivenNames x; refine (fun (hx : State.Framed q b x) => ?_) ?_ <;> [(try clear_value x); subst x]
  extract_lets +onlyGivenNames x; refine (fun (hx : State.Framed q b x) => ?_) ?_ <;> [(try clear_value x); subst x]
  with_reducible apply State.onOne_framed
  with_reducible apply State.onOne_framed
  with_reducible apply State.onOne_framed
  with_reducible assumption
  intro _ _
  with_reducible apply execStpStop_framed
  with_reducible assumption
  exact kf.sub rfl
  intro _ _
  with_reducible apply execStpAbort_framed
  with_reducible assumption
  exact kf.sub rfl
  intro _ _
  with_reducible apply execStpClr_framed
  with_reducible assumption
  exact kf.sub rfl
  with_reducible apply State.onChange_framed
  with_reducible assumption
  intro _ _ _
  with_reducible apply execStpPinArm_framed
  with_reducible assumption
  exact kf.sub rfl
  with_reducible apply State.onChange_framed
  with_reducible assumption
  intro _ _ _
  with_reducible apply execStpEn_framed
  with_reducible assumption
  exact kf.sub rfl

theorem State.armCtrl_framed {s : State} {who : Who} {a : Fin 8} {v : Word} (hs : State.Framed q b s) (kf : b.free (regParts ++ [Part.loops, Part.arms, Part.pc])) :
    State.Framed q b (State.armCtrl s who a v) := by
  unfold State.armCtrl
  extract_lets +onlyGivenNames x; refine (fun (hx : State.Framed q b x) => ?_) ?_ <;> [(try clear_value x); subst x]
  extract_lets +onlyGivenNames x; refine (fun (hx : State.Framed q b x) => ?_) ?_ <;> [(try clear_value x); subst x]
  with_reducible apply State.onOne_framed
  with_reducible apply State.onOne_framed
  with_reducible assumption
  intro _ _
  with_reducible apply execArmAbort_framed
  with_reducible assumption
  exact kf.sub rfl
  intro _ _
  with_reducible apply execArmClr_framed
  with_reducible assumption
  exact kf.sub rfl
  with_reducible apply State.onOne_framed
  with_reducible apply State.onOne_framed
  with_reducible assumption
  intro _ _
  with_reducible apply execArmPause_framed
  with_reducible assumption
  exact kf.sub rfl
  intro _ _
  with_reducible apply execArmResume_framed
  with_reducible assumption
  exact kf.sub rfl
  with_reducible apply State.onChange_framed
  with_reducible apply State.plainWrite_framed
  with_reducible assumption
  exact kf.sub rfl
  intro _ _ _
  with_reducible apply execArmCtrlEn_framed
  with_reducible assumption
  exact kf.sub rfl

theorem State.pcCtrl_framed {s : State} {who : Who} {v : Word} (hs : State.Framed q b s) (kf : b.free (regParts ++ [Part.tiles, Part.pc, Part.ic])) :
    State.Framed q b (State.pcCtrl s who v) := by
  unfold State.pcCtrl
  extract_lets +onlyGivenNames x; refine (fun (hx : State.Framed q b x) => ?_) ?_ <;> [(try clear_value x); subst x]
  extract_lets +onlyGivenNames x; refine (fun (hx : State.Framed q b x) => ?_) ?_ <;> [(try clear_value x); subst x]
  extract_lets +onlyGivenNames x; refine (fun (hx : State.Framed q b x) => ?_) ?_ <;> [(try clear_value x); subst x]
  with_reducible apply State.onOne_framed
  with_reducible apply State.onOne_framed
  with_reducible assumption
  intro _ _
  with_reducible apply execPcTakeDown_framed
  with_reducible assumption
  exact kf.sub rfl
  intro _ _
  with_reducible apply execPcExtTest_framed
  with_reducible assumption
  exact kf.sub rfl
  with_reducible apply State.onOne_framed
  with_reducible apply State.onOne_framed
  with_reducible assumption
  intro _ _
  with_reducible apply execPcHandover_framed
  with_reducible assumption
  exact kf.sub rfl
  intro _ _
  with_reducible apply execPcTakeDown_framed
  with_reducible assumption
  exact kf.sub rfl
  with_reducible apply State.onOne_framed
  with_reducible apply State.onOne_framed
  with_reducible assumption
  intro _ _
  with_reducible apply execPcReturn_framed
  with_reducible assumption
  exact kf.sub rfl
  intro _ _
  with_reducible apply execPcReturn_framed
  with_reducible assumption
  exact kf.sub rfl
  with_reducible apply State.plainWrite_framed
  with_reducible assumption
  exact kf.sub rfl

theorem State.descWrite_framed {s : State} {v : Word} (hs : State.Framed q b s) (kf : b.free [Part.reg RegGroup.stk, Part.stk]) :
    State.Framed q b (State.descWrite s v) := by
  unfold State.descWrite
  extract_lets +onlyGivenNames x; clear_value x
  split
  with_reducible apply State.via_framed
  with_reducible assumption
  intro _ _
  with_reducible apply execStkCreate_framed
  with_reducible assumption
  exact kf.sub rfl
  with_reducible apply State.via_framed
  with_reducible assumption
  intro _ _
  with_reducible apply execStkDelete_framed
  with_reducible assumption
  exact kf.sub rfl
  with_reducible apply State.via_framed
  with_reducible assumption
  intro _ _
  with_reducible apply execStkReadDesc_framed
  with_reducible assumption
  exact kf.sub rfl
  with_reducible apply State.via_framed
  with_reducible assumption
  intro _ _
  with_reducible apply execStkEnable_framed
  with_reducible assumption
  exact kf.sub rfl
  with_reducible apply State.via_framed
  with_reducible assumption
  intro _ _
  with_reducible apply execStkDisable_framed
  with_reducible assumption
  exact kf.sub rfl
  with_reducible apply framed_ite
  with_reducible apply State.flag_framed
  with_reducible assumption
  exact kf.get rfl
  with_reducible apply State.put_framed
  with_reducible assumption
  exact kf.get rfl

theorem State.bufWriteCmd_framed {s : State} {v : Word} (hs : State.Framed q b s) (kf : b.free [Part.reg RegGroup.stk, Part.stk]) :
    State.Framed q b (State.bufWriteCmd s v) := by
  unfold State.bufWriteCmd
  extract_lets +onlyGivenNames x; clear_value x
  split
  with_reducible apply State.via_framed
  with_reducible assumption
  intro _ _
  with_reducible apply execBufCreate_framed
  with_reducible assumption
  exact kf.sub rfl
  with_reducible apply State.via_framed
  with_reducible assumption
  intro _ _
  with_reducible apply execBufDelete_framed
  with_reducible assumption
  exact kf.sub rfl
  with_reducible apply State.via_framed
  with_reducible assumption
  intro _ _
  with_reducible apply execBufRead_framed
  with_reducible assumption
  exact kf.sub rfl
  with_reducible apply framed_ite
  with_reducible apply State.flag_framed
  with_reducible assumption
  exact kf.get rfl
  with_reducible apply State.put_framed
  with_reducible assumption
  exact kf.get rfl

theorem State.siReqWrite_framed {s : State} {v : Word} (hs : State.Framed q b s) (kf : b.free [Part.si]) :
    State.Framed q b (State.siReqWrite s v) := by
  unfold State.siReqWrite
  extract_lets +onlyGivenNames x; clear_value x
  split
  with_reducible apply State.via_framed
  with_reducible assumption
  intro _ _
  with_reducible apply execSiReqSto_framed
  with_reducible assumption
  exact kf.sub rfl
  with_reducible apply State.via_framed
  with_reducible assumption
  intro _ _
  with_reducible apply execSiReqSs1_framed
  with_reducible assumption
  exact kf.sub rfl
  with_reducible apply State.via_framed
  with_reducible assumption
  intro _ _
  with_reducible apply execSiReqSs2_framed
  with_reducible assumption
  exact kf.sub rfl
  with_reducible apply State.via_framed
  with_reducible assumption
  intro _ _
  with_reducible apply execSiReqRelease_framed
  with_reducible assumption
  exact kf.sub rfl
  with_reducible assumption

theorem State.timeWrite_framed {s : State} {who : Who} {r : Reg} {v : Word} (hs : State.Framed q b s) (kf : b.free (regParts ++ [Part.seq, Part.time, Part.pulses, Part.lk, Part.evts, Part.eth, Part.chain])) :
    State.Framed q b (State.timeWrite s who r v) := by
  unfold State.timeWrite
  split
  with_reducible apply State.via_framed
  with_reducible assumption
  intro _ _
  with_reducible apply execIslClkWrite_framed
  with_reducible assumption
  exact kf.sub rfl
  with_reducible apply State.via_framed
  with_reducible assumption
  intro _ _
  with_reducible apply execPeriodSelWrite_framed
  with_reducible assumption
  exact kf.sub rfl
  with_reducible apply framed_foldl
  intro _ _ _
  with_reducible apply State.releasePins_framed
  with_reducible assumption
  exact kf.sub rfl
  with_reducible assumption
  with_reducible apply State.writeSource_framed
  with_reducible apply State.plainWrite_framed
  with_reducible assumption
  exact kf.sub rfl
  exact kf.sub rfl
  with_reducible apply State.writeRate_framed
  with_reducible assumption
  exact kf.sub rfl
  extract_lets +onlyGivenNames x; refine (fun (hx : State.Framed q b x) => ?_) ?_ <;> [(try clear_value x); subst x]
  with_reducible apply State.onOne_framed
  with_reducible assumption
  intro _ _
  with_reducible apply execTpoGo_framed
  with_reducible assumption
  exact kf.sub rfl
  with_reducible apply State.onChange_framed
  with_reducible apply State.plainWrite_framed
  with_reducible assumption
  exact kf.sub rfl
  intro _ _ _
  with_reducible apply execTpoArmWrite_framed
  with_reducible assumption
  exact kf.sub rfl
  with_reducible apply framed_ite
  with_reducible apply State.flag_framed
  with_reducible assumption
  exact kf.get rfl
  with_reducible apply State.plainWrite_framed
  with_reducible assumption
  exact kf.sub rfl
  with_reducible apply State.ethWrite_framed
  with_reducible assumption
  exact kf.sub rfl
  with_reducible apply State.ethWrite_framed
  with_reducible assumption
  exact kf.sub rfl
  with_reducible apply State.ethWrite_framed
  with_reducible assumption
  exact kf.sub rfl
  with_reducible apply State.ethWrite_framed
  with_reducible assumption
  exact kf.sub rfl
  with_reducible apply State.ethWrite_framed
  with_reducible assumption
  exact kf.sub rfl
  with_reducible apply State.ethWrite_framed
  with_reducible assumption
  exact kf.sub rfl
  with_reducible apply State.ethWrite_framed
  with_reducible assumption
  exact kf.sub rfl
  with_reducible apply State.ethWrite_framed
  with_reducible assumption
  exact kf.sub rfl
  with_reducible apply State.mdioWrite_framed
  with_reducible assumption
  exact kf.sub rfl
  with_reducible apply State.plainWrite_framed
  with_reducible assumption
  exact kf.sub rfl

theorem State.portWrite_framed {s : State} {who : Who} {r : Reg} {v : Word} (hs : State.Framed q b s) (kf : b.free (regParts ++ [Part.lk, Part.evts, Part.ports, Part.axes, Part.sdclk, Part.fbs, Part.boot])) :
    State.Framed q b (State.portWrite s who r v) := by
  unfold State.portWrite
  split
  with_reducible apply State.pwmCtrl_framed
  with_reducible assumption
  exact kf.sub rfl
  with_reducible apply State.via_framed
  with_reducible assumption
  intro _ _
  with_reducible apply execPwmConfigWrite_framed
  with_reducible assumption
  exact kf.sub rfl
  with_reducible apply State.via_framed
  with_reducible assumption
  intro _ _
  with_reducible apply execPwmConfigWrite_framed
  with_reducible assumption
  exact kf.sub rfl
  with_reducible apply State.via_framed
  with_reducible assumption
  intro _ _
  with_reducible apply execPwmConfigWrite_framed
  with_reducible assumption
  exact kf.sub rfl
  with_reducible apply State.via_framed
  with_reducible assumption
  intro _ _
  with_reducible apply execPwmConfigWrite_framed
  with_reducible assumption
  exact kf.sub rfl
  with_reducible apply State.via_framed
  with_reducible assumption
  intro _ _
  with_reducible apply execPwmConfigWrite_framed
  with_reducible assumption
  exact kf.sub rfl
  with_reducible apply framed_foldl
  intro _ _ _
  with_reducible apply State.plainWrite_framed
  with_reducible assumption
  exact kf.sub rfl
  with_reducible assumption
  with_reducible apply framed_foldl
  intro _ _ _
  with_reducible apply State.plainWrite_framed
  with_reducible assumption
  exact kf.sub rfl
  with_reducible assumption
  with_reducible apply State.via_framed
  with_reducible assumption
  intro _ _
  with_reducible apply execEwCommit_framed
  with_reducible assumption
  exact kf.sub rfl
  with_reducible apply State.via_framed
  with_reducible assumption
  intro _ _
  with_reducible apply execSdfCfgWrite_framed
  with_reducible assumption
  exact kf.sub rfl
  with_reducible apply State.via_framed
  with_reducible assumption
  intro _ _
  with_reducible apply execSdfGainWrite_framed
  with_reducible assumption
  exact kf.sub rfl
  with_reducible apply State.via_framed
  with_reducible assumption
  intro _ _
  with_reducible apply execSdfGainWrite_framed
  with_reducible assumption
  exact kf.sub rfl
  with_reducible apply State.via_framed
  with_reducible assumption
  intro _ _
  with_reducible apply execSdfGainWrite_framed
  with_reducible assumption
  exact kf.sub rfl
  with_reducible apply State.via_framed
  with_reducible assumption
  intro _ _
  with_reducible apply execSdfGainWrite_framed
  with_reducible assumption
  exact kf.sub rfl
  with_reducible apply State.onChange_framed
  with_reducible apply State.via_framed
  with_reducible assumption
  intro _ _
  with_reducible apply execSdcArmWrite_framed
  with_reducible assumption
  exact kf.sub rfl
  intro _ _ _
  with_reducible apply execSdcFreqWrite_framed
  with_reducible assumption
  exact kf.sub rfl
  with_reducible apply State.via_framed
  with_reducible assumption
  intro _ _
  with_reducible apply execSdcDlyWrite_framed
  with_reducible assumption
  exact kf.sub rfl
  extract_lets +onlyGivenNames x; refine (fun (hx : State.Framed q b x) => ?_) ?_ <;> [(try clear_value x); subst x]
  with_reducible apply State.onOne_framed
  with_reducible apply State.onChange_framed
  with_reducible assumption
  intro _ _ _
  with_reducible apply execFbOutEnWrite_framed
  with_reducible assumption
  exact kf.sub rfl
  intro _ _
  with_reducible apply execEncClr_framed
  with_reducible assumption
  exact kf.sub rfl
  with_reducible apply State.onChange_framed
  with_reducible assumption
  intro _ _ _
  with_reducible apply execFbEnWrite_framed
  with_reducible assumption
  exact kf.sub rfl
  with_reducible apply State.via_framed
  with_reducible assumption
  intro _ _
  with_reducible apply execFbCfgWrite_framed
  with_reducible assumption
  exact kf.sub rfl
  with_reducible apply State.via_framed
  with_reducible assumption
  intro _ _
  with_reducible apply execFbCfgWrite_framed
  with_reducible assumption
  exact kf.sub rfl
  with_reducible apply State.via_framed
  with_reducible assumption
  intro _ _
  with_reducible apply execFbLimitWrite_framed
  with_reducible assumption
  exact kf.sub rfl
  with_reducible apply State.via_framed
  with_reducible assumption
  intro _ _
  with_reducible apply execFbLimitWrite_framed
  with_reducible assumption
  exact kf.sub rfl
  with_reducible apply State.via_framed
  with_reducible assumption
  intro _ _
  with_reducible apply execFbSetWrite_framed
  with_reducible assumption
  exact kf.sub rfl
  with_reducible apply State.via_framed
  with_reducible assumption
  intro _ _
  with_reducible apply execCmpArmWrite_framed
  with_reducible assumption
  exact kf.sub rfl
  with_reducible apply State.onChange_framed
  with_reducible apply State.plainWrite_framed
  with_reducible assumption
  exact kf.sub rfl
  intro _ _ _
  with_reducible apply execCmpEnWrite_framed
  with_reducible assumption
  exact kf.sub rfl
  with_reducible apply State.plainWrite_framed
  with_reducible assumption
  exact kf.sub rfl

theorem State.loopWrite_framed {s : State} {who : Who} {n : Fin 256} {r : Reg} {v : Word} (hs : State.Framed q b s) (kf : b.free (regParts ++ [Part.mem, Part.loops])) :
    State.Framed q b (State.loopWrite s who n r v) := by
  unfold State.loopWrite
  extract_lets +onlyGivenNames x; clear_value x
  extract_lets +onlyGivenNames x; refine (fun (hx3 : ∀ y, State.Framed q b y → State.Framed q b (x y)) => ?_) ?_ <;> [(try clear_value x); subst x]
  split
  with_reducible apply State.ldCtrl_framed
  with_reducible assumption
  exact kf.sub rfl
  with_reducible apply State.via_framed
  with_reducible assumption
  intro _ _
  with_reducible apply execLdConfigWrite_framed
  with_reducible assumption
  exact kf.sub rfl
  with_reducible apply State.via_framed
  with_reducible assumption
  intro _ _
  with_reducible apply execLdConfigWrite_framed
  with_reducible assumption
  exact kf.sub rfl
  with_reducible apply State.via_framed
  with_reducible assumption
  intro _ _
  with_reducible apply execLdConfigWrite_framed
  with_reducible assumption
  exact kf.sub rfl
  with_reducible apply State.via_framed
  with_reducible assumption
  intro _ _
  with_reducible apply execLdConfigWrite_framed
  with_reducible assumption
  exact kf.sub rfl
  with_reducible apply State.via_framed
  with_reducible assumption
  intro _ _
  with_reducible apply execLdConfigWrite_framed
  with_reducible assumption
  exact kf.sub rfl
  with_reducible apply State.via_framed
  with_reducible assumption
  intro _ _
  with_reducible apply execLdConfigWrite_framed
  with_reducible assumption
  exact kf.sub rfl
  with_reducible apply State.via_framed
  with_reducible assumption
  intro _ _
  with_reducible apply execLdConfigWrite_framed
  with_reducible assumption
  exact kf.sub rfl
  with_reducible apply State.via_framed
  with_reducible assumption
  intro _ _
  with_reducible apply execLdConfigWrite_framed
  with_reducible assumption
  exact kf.sub rfl
  with_reducible apply State.via_framed
  with_reducible assumption
  intro _ _
  with_reducible apply execLdConfigWrite_framed
  with_reducible assumption
  exact kf.sub rfl
  with_reducible apply State.via_framed
  with_reducible assumption
  intro _ _
  with_reducible apply execLdConfigWrite_framed
  with_reducible assumption
  exact kf.sub rfl
  with_reducible apply State.via_framed
  with_reducible assumption
  intro _ _
  with_reducible apply execLdConfigWrite_framed
  with_reducible assumption
  exact kf.sub rfl
  with_reducible apply framed_ite
  with_reducible apply State.via_framed
  with_reducible assumption
  intro _ _
  with_reducible apply execLdSwapReq_framed
  with_reducible assumption
  exact kf.sub rfl
  with_reducible assumption
  with_reducible apply State.via_framed
  with_reducible assumption
  intro _ _
  with_reducible apply execLdBankWrite_framed
  with_reducible assumption
  exact kf.sub rfl
  with_reducible apply hx3
  with_reducible assumption
  with_reducible apply hx3
  with_reducible assumption
  with_reducible apply framed_ite
  with_reducible apply State.via_framed
  with_reducible assumption
  intro _ _
  with_reducible apply execLdRefCommit_framed
  with_reducible assumption
  exact kf.sub rfl
  with_reducible assumption
  with_reducible apply State.via_framed
  with_reducible assumption
  intro _ _
  with_reducible apply execLdSpCommit_framed
  with_reducible assumption
  exact kf.sub rfl
  with_reducible apply State.plainWrite_framed
  with_reducible assumption
  exact kf.sub rfl
  intro _ _
  simp -zeta only
  with_reducible apply framed_ite
  with_reducible apply State.flag_framed
  with_reducible assumption
  exact kf.get rfl
  with_reducible apply State.plainWrite_framed
  with_reducible assumption
  exact kf.sub rfl

theorem State.motionWrite_framed {s : State} {who : Who} {r : Reg} {v : Word} (hs : State.Framed q b s) (kf : b.free (regParts ++ [Part.lk, Part.evts, Part.axes, Part.loops, Part.arms, Part.kiln, Part.stk, Part.pc, Part.ic])) :
    State.Framed q b (State.motionWrite s who r v) := by
  unfold State.motionWrite
  split
  with_reducible apply State.armCtrl_framed
  with_reducible assumption
  exact kf.sub rfl
  with_reducible apply framed_ite
  with_reducible apply State.flag_framed
  with_reducible assumption
  exact kf.get rfl
  with_reducible apply State.plainWrite_framed
  with_reducible assumption
  exact kf.sub rfl
  with_reducible apply framed_ite
  with_reducible apply State.flag_framed
  with_reducible assumption
  exact kf.get rfl
  with_reducible apply State.plainWrite_framed
  with_reducible assumption
  exact kf.sub rfl
  with_reducible apply framed_ite
  with_reducible apply State.flag_framed
  with_reducible assumption
  exact kf.get rfl
  with_reducible apply State.plainWrite_framed
  with_reducible assumption
  exact kf.sub rfl
  with_reducible apply framed_ite
  with_reducible apply State.flag_framed
  with_reducible assumption
  exact kf.get rfl
  with_reducible apply State.plainWrite_framed
  with_reducible assumption
  exact kf.sub rfl
  with_reducible apply State.stpCtrl_framed
  with_reducible assumption
  exact kf.sub rfl
  with_reducible apply State.via_framed
  with_reducible assumption
  intro _ _
  with_reducible apply execStepCfgWrite_framed
  with_reducible assumption
  exact kf.sub rfl
  with_reducible apply State.via_framed
  with_reducible assumption
  intro _ _
  with_reducible apply execStepCfgWrite_framed
  with_reducible assumption
  exact kf.sub rfl
  with_reducible apply State.via_framed
  with_reducible assumption
  intro _ _
  with_reducible apply execStepAccWrite_framed
  with_reducible assumption
  exact kf.sub rfl
  with_reducible apply State.via_framed
  with_reducible assumption
  intro _ _
  with_reducible apply execStepMovePush_framed
  with_reducible assumption
  exact kf.sub rfl
  with_reducible apply State.via_framed
  with_reducible assumption
  intro _ _
  with_reducible apply execStepPreset_framed
  with_reducible assumption
  exact kf.sub rfl
  with_reducible apply framed_ite
  with_reducible apply State.flag_framed
  with_reducible assumption
  exact kf.get rfl
  with_reducible apply State.plainWrite_framed
  with_reducible assumption
  exact kf.sub rfl
  with_reducible apply framed_ite
  with_reducible apply State.flag_framed
  with_reducible assumption
  exact kf.get rfl
  with_reducible apply State.plainWrite_framed
  with_reducible assumption
  exact kf.sub rfl
  with_reducible apply State.via_framed
  with_reducible assumption
  intro _ _
  with_reducible apply execStepCfgWrite_framed
  with_reducible assumption
  exact kf.sub rfl
  with_reducible apply State.onOne_framed
  with_reducible apply State.onChange_framed
  with_reducible assumption
  intro _ _ _
  with_reducible apply execKilnEnWrite_framed
  with_reducible assumption
  exact kf.sub rfl
  intro _ _
  with_reducible apply execKilnFlush_framed
  with_reducible assumption
  exact kf.sub rfl
  with_reducible apply State.plainWrite_framed
  with_reducible assumption
  exact kf.sub rfl

theorem State.stkRegWrite_framed {s : State} {who : Who} {r : StkReg} {v : Word} (hs : State.Framed q b s) (kf : b.free (regParts ++ [Part.now, Part.lk, Part.evts, Part.stk, Part.ic])) :
    State.Framed q b (State.stkRegWrite s who r v) := by
  unfold State.stkRegWrite
  extract_lets +onlyGivenNames x; refine (fun (hx : State.Framed q b x) => ?_) ?_ <;> [(try clear_value x); subst x]
  extract_lets +onlyGivenNames x; refine (fun (hx10 : ∀ y z, State.Framed q b (x y z)) => ?_) ?_ <;> [(try clear_value x); subst x]
  extract_lets +onlyGivenNames x; clear_value x
  extract_lets +onlyGivenNames x; refine (fun (hx : State.Framed q b x) => ?_) ?_ <;> [(try clear_value x); subst x]
  split
  with_reducible apply framed_ite
  with_reducible apply State.icWakeAll_framed
  with_reducible assumption
  exact kf.sub rfl
  with_reducible assumption
  with_reducible apply framed_ite
  with_reducible apply State.flag_framed
  with_reducible assumption
  exact kf.get rfl
  with_reducible assumption
  with_reducible apply framed_ite
  with_reducible apply State.flag_framed
  with_reducible assumption
  exact kf.get rfl
  with_reducible assumption
  with_reducible apply hx10
  with_reducible apply hx10
  with_reducible apply hx10
  with_reducible apply hx10
  with_reducible apply State.stkRelease_framed
  with_reducible assumption
  exact kf.sub rfl
  with_reducible apply State.stkCancel_framed
  with_reducible assumption
  exact kf.sub rfl
  with_reducible apply State.descWrite_framed
  with_reducible assumption
  exact kf.sub rfl
  with_reducible apply State.bufWriteCmd_framed
  with_reducible assumption
  exact kf.sub rfl
  with_reducible assumption
  with_reducible apply State.onOne_framed
  with_reducible assumption
  intro _ _
  with_reducible apply execStkRebalance_framed
  with_reducible assumption
  exact kf.sub rfl
  intro _ _
  simp -zeta only
  with_reducible apply framed_ite
  with_reducible apply State.flag_framed
  with_reducible assumption
  exact kf.get rfl
  with_reducible assumption
  with_reducible apply State.plainWrite_framed
  with_reducible assumption
  exact kf.sub rfl

theorem State.icRegWrite_framed {s : State} {who : Who} {r : IcReg} {v : Word} (hs : State.Framed q b s) (kf :
    b.free (regParts ++ [Part.fresh, Part.lk, Part.evts, Part.stk, Part.ic])) :
  State.Framed q b (s.icRegWrite who r v) := by
  cases r with
  | IC_SRC_CFG n => exact State.icSrcCfg_framed hs (kf.sub rfl)
  | IC_SW_SET k => exact State.via_framed hs (fun s h => execIcSwSet_framed h (kf.sub rfl))
  | IC_SW_CLR k => exact State.via_framed hs (fun s h => execIcSwClr_framed h (kf.sub rfl))
  | IC_COMPLETE => exact State.icComplete_framed hs (kf.sub rfl)
  | _ => exact State.plainWrite_framed hs (kf.sub rfl)

theorem State.stackWrite_framed {s : State} {who : Who} {r : Reg} {v : Word} (hs : State.Framed q b s) (kf : b.free (regParts ++ [Part.now, Part.fresh, Part.lk, Part.evts, Part.stk, Part.ic])) :
    State.Framed q b (State.stackWrite s who r v) := by
  unfold State.stackWrite
  split
  with_reducible apply State.stkRegWrite_framed
  with_reducible assumption
  exact kf.sub rfl
  with_reducible apply State.icRegWrite_framed
  with_reducible assumption
  exact kf.sub rfl
  with_reducible apply State.plainWrite_framed
  with_reducible assumption
  exact kf.sub rfl

theorem State.systemWrite_framed {s : State} {who : Who} {r : Reg} {v : Word} (hs : State.Framed q b s) (kf : b.free (regParts ++ [Part.time, Part.lk, Part.evts, Part.tiles, Part.pc, Part.ic, Part.si, Part.chain, Part.mb, Part.boot])) :
    State.Framed q b (State.systemWrite s who r v) := by
  unfold State.systemWrite
  split
  with_reducible apply State.siReqWrite_framed
  with_reducible assumption
  exact kf.sub rfl
  with_reducible apply State.siToken_framed
  with_reducible assumption
  exact kf.sub rfl
  with_reducible apply State.chainCtrl_framed
  with_reducible assumption
  exact kf.sub rfl
  with_reducible apply State.claspMap_framed
  with_reducible assumption
  exact kf.sub rfl
  with_reducible apply State.pcCtrl_framed
  with_reducible assumption
  exact kf.sub rfl
  with_reducible apply framed_ite
  with_reducible assumption
  with_reducible apply State.plainWrite_framed
  with_reducible assumption
  exact kf.sub rfl
  with_reducible apply framed_ite
  with_reducible assumption
  with_reducible apply State.plainWrite_framed
  with_reducible assumption
  exact kf.sub rfl
  with_reducible apply framed_ite
  with_reducible apply State.startFlush_framed
  with_reducible assumption
  exact kf.sub rfl
  with_reducible assumption
  with_reducible apply framed_ite
  with_reducible apply State.flag_framed
  with_reducible assumption
  exact kf.get rfl
  with_reducible apply State.plainWrite_framed
  with_reducible assumption
  exact kf.sub rfl
  with_reducible apply framed_ite
  with_reducible apply State.otpProgram_framed
  with_reducible assumption
  exact kf.sub rfl
  with_reducible assumption
  with_reducible apply framed_ite
  with_reducible apply State.icTimers_framed
  with_reducible apply State.plainWrite_framed
  with_reducible assumption
  exact kf.sub rfl
  exact kf.sub rfl
  with_reducible assumption
  with_reducible apply framed_ite
  with_reducible apply State.icTimers_framed
  with_reducible apply State.plainWrite_framed
  with_reducible assumption
  exact kf.sub rfl
  exact kf.sub rfl
  with_reducible assumption
  with_reducible apply State.icTimers_framed
  with_reducible apply State.plainWrite_framed
  with_reducible assumption
  exact kf.sub rfl
  exact kf.sub rfl
  with_reducible apply State.via_framed
  with_reducible assumption
  intro _ _
  with_reducible apply execMbPost_framed
  with_reducible assumption
  exact kf.sub rfl
  with_reducible apply State.via_framed
  with_reducible assumption
  intro _ _
  with_reducible apply execMbFree_framed
  with_reducible assumption
  exact kf.sub rfl
  with_reducible apply State.plainWrite_framed
  with_reducible assumption
  exact kf.sub rfl

theorem State.busWrite_framed {s : State} {who : Who} {r : Reg} {v : Word} (hs : State.Framed q b s) (kf : b.free (regParts ++ [Part.now, Part.mem, Part.fresh, Part.seq, Part.time, Part.pulses, Part.lk, Part.evts, Part.ports, Part.axes, Part.sdclk, Part.fbs, Part.loops, Part.arms, Part.kiln, Part.tiles, Part.stk, Part.pc, Part.ic, Part.si, Part.eth, Part.chain, Part.mb, Part.boot])) :
    State.Framed q b (State.busWrite s who r v) := by
  unfold State.busWrite
  extract_lets +onlyGivenNames x; refine (fun (hx : State.Framed q b x) => ?_) ?_ <;> [(try clear_value x); subst x]
  with_reducible apply framed_ite
  split
  with_reducible apply State.timeWrite_framed
  with_reducible assumption
  exact kf.sub rfl
  with_reducible apply State.timeWrite_framed
  with_reducible assumption
  exact kf.sub rfl
  with_reducible apply State.timeWrite_framed
  with_reducible assumption
  exact kf.sub rfl
  with_reducible apply State.timeWrite_framed
  with_reducible assumption
  exact kf.sub rfl
  with_reducible apply State.timeWrite_framed
  with_reducible assumption
  exact kf.sub rfl
  with_reducible apply State.timeWrite_framed
  with_reducible assumption
  exact kf.sub rfl
  with_reducible apply State.timeWrite_framed
  with_reducible assumption
  exact kf.sub rfl
  with_reducible apply State.portWrite_framed
  with_reducible assumption
  exact kf.sub rfl
  with_reducible apply State.portWrite_framed
  with_reducible assumption
  exact kf.sub rfl
  with_reducible apply State.portWrite_framed
  with_reducible assumption
  exact kf.sub rfl
  with_reducible apply State.portWrite_framed
  with_reducible assumption
  exact kf.sub rfl
  with_reducible apply State.loopWrite_framed
  with_reducible assumption
  exact kf.sub rfl
  with_reducible apply State.motionWrite_framed
  with_reducible assumption
  exact kf.sub rfl
  with_reducible apply State.motionWrite_framed
  with_reducible assumption
  exact kf.sub rfl
  with_reducible apply State.motionWrite_framed
  with_reducible assumption
  exact kf.sub rfl
  with_reducible apply State.motionWrite_framed
  with_reducible assumption
  exact kf.sub rfl
  with_reducible apply State.motionWrite_framed
  with_reducible assumption
  exact kf.sub rfl
  with_reducible apply State.stackWrite_framed
  with_reducible assumption
  exact kf.sub rfl
  with_reducible apply State.stackWrite_framed
  with_reducible assumption
  exact kf.sub rfl
  with_reducible apply State.systemWrite_framed
  with_reducible assumption
  exact kf.sub rfl
  with_reducible apply State.systemWrite_framed
  with_reducible assumption
  exact kf.sub rfl
  with_reducible apply State.systemWrite_framed
  with_reducible assumption
  exact kf.sub rfl
  with_reducible apply State.systemWrite_framed
  with_reducible assumption
  exact kf.sub rfl
  with_reducible apply State.systemWrite_framed
  with_reducible assumption
  exact kf.sub rfl
  with_reducible apply State.systemWrite_framed
  with_reducible assumption
  exact kf.sub rfl
  with_reducible apply State.systemWrite_framed
  with_reducible assumption
  exact kf.sub rfl
  with_reducible assumption
  with_reducible apply framed_ite
  with_reducible apply State.noteWrite_framed
  with_reducible assumption
  exact kf.sub rfl
  with_reducible assumption

theorem State.keepSet_framed {s : State} {r : Reg} {w : Word} (hs : State.Framed q b s) (kf : b.free (regParts)) :
    State.Framed q b (State.keepSet s r w) := by
  unfold State.keepSet
  with_reducible apply framed_ite
  with_reducible assumption
  with_reducible apply State.wr_framed
  with_reducible assumption
  exact kf.getReg rfl

theorem execRegisterWrite_framed {who : Who} {r : Reg} {v : Word} {same : Word} {s : State} (hs : State.Framed q b s) (kf : b.free (regParts ++ [Part.now, Part.mem, Part.fresh, Part.seq, Part.time, Part.pulses, Part.lk, Part.evts, Part.ports, Part.axes, Part.sdclk, Part.fbs, Part.loops, Part.arms, Part.kiln, Part.tiles, Part.stk, Part.pc, Part.ic, Part.si, Part.eth, Part.chain, Part.mb, Part.boot])) :
    answers (execRegisterWrite who r v same s) (State.Framed q b) := by
  unfold execRegisterWrite
  with_reducible apply answers_ite
  with_reducible apply answers_next
  with_reducible apply State.flag_framed
  with_reducible assumption
  exact kf.get rfl
  split
  with_reducible apply execIcSwClr_framed
  with_reducible assumption
  exact kf.sub rfl
  with_reducible apply answers_next
  with_reducible apply State.keepSet_framed
  with_reducible apply State.busWrite_framed
  with_reducible assumption
  exact kf.sub rfl
  exact kf.sub rfl

theorem State.busRead_framed {s : State} {who : Who} {r : Reg} (hs : State.Framed q b s) (kf : b.free (regParts ++ [Part.fresh, Part.rdata, Part.caps, Part.evts, Part.kiln, Part.mb])) :
    State.Framed q b (State.busRead s who r) := by
  unfold State.busRead
  extract_lets +onlyGivenNames x; refine (fun (hx3 : ∀ y, State.Framed q b y → State.Framed q b (x y)) => ?_) ?_ <;> [(try clear_value x); subst x]
  with_reducible apply framed_ite
  split
  with_reducible apply State.via_framed
  with_reducible assumption
  intro _ _
  with_reducible apply execTbNowRead_framed
  with_reducible assumption
  exact kf.sub rfl
  with_reducible apply State.via_framed
  with_reducible assumption
  intro _ _
  with_reducible apply execTcapHeadRead_framed
  with_reducible assumption
  exact kf.sub rfl
  with_reducible apply State.via_framed
  with_reducible assumption
  intro _ _
  with_reducible apply execFbPosLoRead_framed
  with_reducible assumption
  exact kf.sub rfl
  with_reducible apply State.via_framed
  with_reducible assumption
  intro _ _
  with_reducible apply execCmpHitNsRead_framed
  with_reducible assumption
  exact kf.sub rfl
  with_reducible apply framed_ite
  with_reducible apply State.via_framed
  with_reducible assumption
  intro _ _
  with_reducible apply execIcClaimRead_framed
  with_reducible assumption
  exact kf.sub rfl
  with_reducible apply hx3
  with_reducible assumption
  with_reducible apply State.via_framed
  with_reducible assumption
  intro _ _
  with_reducible apply execLkIndexLoRead_framed
  with_reducible assumption
  exact kf.sub rfl
  with_reducible apply State.via_framed
  with_reducible assumption
  intro _ _
  with_reducible apply execLkIndexLoRead_framed
  with_reducible assumption
  exact kf.sub rfl
  with_reducible apply State.via_framed
  with_reducible assumption
  intro _ _
  with_reducible apply execLkIndexLoRead_framed
  with_reducible assumption
  exact kf.sub rfl
  with_reducible apply State.eventRead_framed
  with_reducible assumption
  exact kf.sub rfl
  with_reducible apply hx3
  with_reducible assumption
  with_reducible apply State.answer_framed
  with_reducible assumption
  exact kf.sub rfl
  intro _ _
  simp -zeta only
  extract_lets +onlyGivenNames x; clear_value x
  extract_lets +onlyGivenNames x; refine (fun (hx : State.Framed q b x) => ?_) ?_ <;> [(try clear_value x); subst x]
  with_reducible apply State.answer_framed
  with_reducible apply framed_ite
  with_reducible assumption
  with_reducible apply State.wr_framed
  with_reducible assumption
  exact kf.getReg rfl
  exact kf.sub rfl
  split
  with_reducible apply State.useFresh_framed
  with_reducible assumption
  exact kf.sub rfl
  with_reducible apply State.busyUp_framed
  with_reducible assumption
  exact kf.sub rfl
  with_reducible assumption

theorem State.viewRead_framed {s : State} {who : Who} {r : Reg} (hs : State.Framed q b s) (kf : b.free (regParts ++ [Part.fresh, Part.rdata, Part.caps, Part.evts, Part.kiln, Part.mb])) :
    State.Framed q b (State.viewRead s who r) := by
  unfold State.viewRead
  with_reducible apply framed_ite
  with_reducible apply State.answer_framed
  with_reducible assumption
  exact kf.sub rfl
  with_reducible apply State.busRead_framed
  with_reducible assumption
  exact kf.sub rfl

theorem State.readSame_framed {s : State} {r : Reg} {before : Word} (hs : State.Framed q b s) (kf : b.free (regParts ++ [Part.rdata, Part.kiln])) :
    State.Framed q b (State.readSame s r before) := by
  have k_rdata : b.keep .rdata = false := kf.get rfl
  unfold State.readSame
  extract_lets +onlyGivenNames x; clear_value x
  extract_lets +onlyGivenNames x; clear_value x
  extract_lets +onlyGivenNames x; clear_value x
  with_reducible apply State.answer_framed
  with_reducible apply State.wr_framed
  with_reducible assumption
  exact kf.getReg rfl
  exact kf.sub rfl

theorem execReadClear_framed {who : Who} {r : Reg} {before : Option Word} {s : State} (hs : State.Framed q b s) (kf : b.free (regParts ++ [Part.fresh, Part.rdata, Part.caps, Part.evts, Part.kiln, Part.mb])) :
    answers (execReadClear who r before s) (State.Framed q b) := by
  unfold execReadClear
  with_reducible apply answers_next
  split
  with_reducible apply framed_ite
  with_reducible apply State.readSame_framed
  with_reducible assumption
  exact kf.sub rfl
  with_reducible apply State.viewRead_framed
  with_reducible assumption
  exact kf.sub rfl
  with_reducible apply State.viewRead_framed
  with_reducible assumption
  exact kf.sub rfl

theorem State.fabricRead_framed {s : State} {who : Who} {a : Nat} (hs : State.Framed q b s) (kf : b.free (regParts ++ [Part.fresh, Part.rdata, Part.caps, Part.evts, Part.kiln, Part.mb])) :
    ∀ t, (State.fabricRead s who a) = some t → State.Framed q b t := by
  unfold State.fabricRead
  with_reducible refine opt_ite ?_ ?_
  with_reducible exact opt_none
  with_reducible refine opt_ite ?_ ?_
  with_reducible refine opt_some ?_
  with_reducible apply State.answer_framed
  with_reducible assumption
  exact kf.sub rfl
  with_reducible refine opt_ite ?_ ?_
  with_reducible refine opt_some ?_
  with_reducible apply State.answer_framed
  with_reducible assumption
  exact kf.sub rfl
  with_reducible refine opt_ite ?_ ?_
  with_reducible refine opt_some ?_
  with_reducible apply State.useFresh_framed
  with_reducible apply State.answer_framed
  with_reducible assumption
  exact kf.sub rfl
  exact kf.sub rfl
  with_reducible refine opt_guard ?_; split
  with_reducible refine opt_some ?_
  with_reducible apply State.busRead_framed
  with_reducible assumption
  exact kf.sub rfl
  with_reducible exact opt_none

theorem State.fabricWrite_framed {s : State} {who : Who} {a : Nat} {v : Word} (hs : State.Framed q b s) (kf : b.free (regParts ++ [Part.now, Part.mem, Part.fresh, Part.seq, Part.time, Part.pulses, Part.lk, Part.evts, Part.ports, Part.axes, Part.sdclk, Part.fbs, Part.loops, Part.arms, Part.kiln, Part.tiles, Part.stk, Part.pc, Part.ic, Part.si, Part.eth, Part.chain, Part.mb, Part.boot])) :
    ∀ t, (State.fabricWrite s who a v) = some t → State.Framed q b t := by
  unfold State.fabricWrite
  with_reducible refine opt_ite ?_ ?_
  with_reducible exact opt_none
  with_reducible refine opt_ite ?_ ?_
  with_reducible refine opt_some ?_
  with_reducible apply framed_ite
  with_reducible apply State.schedWrite_framed
  with_reducible assumption
  exact kf.sub rfl
  with_reducible assumption
  with_reducible refine opt_ite ?_ ?_
  with_reducible refine opt_guard ?_; split
  with_reducible refine opt_ite ?_ ?_
  with_reducible refine opt_some ?_
  with_reducible apply framed_ite
  with_reducible apply State.mput_framed
  with_reducible assumption
  exact kf.sub rfl
  with_reducible assumption
  with_reducible refine opt_some ?_
  with_reducible apply State.mput_framed
  with_reducible assumption
  exact kf.sub rfl
  with_reducible refine opt_some ?_
  with_reducible apply State.mput_framed
  with_reducible assumption
  exact kf.sub rfl
  with_reducible refine opt_ite ?_ ?_
  with_reducible refine opt_some ?_
  with_reducible assumption
  with_reducible refine opt_guard ?_; split
  with_reducible refine opt_some ?_
  with_reducible apply State.busWrite_framed
  with_reducible assumption
  exact kf.sub rfl
  with_reducible exact opt_none

theorem State.takeSlot_framed {s : State} {k : Fin 16} (hs : State.Framed q b s) (kf : b.free [Part.reg RegGroup.ic, Part.fresh, Part.mb]) :
    State.Framed q b (State.takeSlot s k) := by
  unfold State.takeSlot
  extract_lets +onlyGivenNames x; clear_value x
  extract_lets +onlyGivenNames x; clear_value x
  extract_lets +onlyGivenNames x; clear_value x
  split
  with_reducible apply State.updMail_framed
  with_reducible apply State.setSlot_framed
  with_reducible assumption
  exact kf.sub rfl
  exact kf.sub rfl
  with_reducible apply State.endSlot_framed
  with_reducible assumption
  exact kf.sub rfl
  with_reducible apply State.useFresh_framed
  with_reducible apply State.endSlot_framed
  with_reducible assumption
  exact kf.sub rfl
  exact kf.sub rfl

theorem execMbTake_framed {s : State} (hs : State.Framed q b s) (kf : b.free [Part.reg RegGroup.ic, Part.fresh, Part.ic, Part.mb]) :
    answers (execMbTake s) (State.Framed q b) := by
  have k_ic : b.keep .ic = false := kf.get rfl
  unfold execMbTake
  extract_lets +onlyGivenNames x; clear_value x
  split
  with_reducible apply answers_next
  with_reducible assumption
  with_reducible apply answers_next
  with_reducible apply framed_ite
  with_reducible apply State.takeSlot_framed
  simp -zeta only [framed_mk, k_ic, or_true, true_or]
  with_reducible assumption
  exact kf.sub rfl
  with_reducible assumption

theorem execMbDone_framed {k : Fin 16} {s : State} (hs : State.Framed q b s) (kf : b.free [Part.reg RegGroup.ic, Part.mb]) :
    answers (execMbDone k s) (State.Framed q b) := by
  unfold execMbDone
  extract_lets +onlyGivenNames x; clear_value x
  split
  with_reducible apply answers_next
  with_reducible apply framed_ite
  with_reducible apply State.endSlot_framed
  with_reducible assumption
  exact kf.sub rfl
  with_reducible assumption
  with_reducible apply answers_next
  with_reducible assumption

theorem State.setOut_framed {s : State} {k : Fin 16} {c : Nat} {r : List Byte} (hs : State.Framed q b s) (kf : b.free [Part.mb]) :
    State.Framed q b (State.setOut s k c r) := by
  unfold State.setOut
  extract_lets +onlyGivenNames x; clear_value x
  with_reducible apply State.setSlot_framed
  with_reducible assumption
  exact kf.sub rfl

theorem State.cmdEnd_framed {s : State} {t_ : State} {k : Fin 16} {c : Nat} {r : List Byte} (hs : State.Framed q b s) (ht_ : State.Framed q b t_) (kf : b.free [Part.mb]) :
    State.Framed q b (State.cmdEnd s t_ k c r) := by
  unfold State.cmdEnd
  extract_lets +onlyGivenNames x; refine (fun (hx : State.Framed q b x) => ?_) ?_ <;> [(try clear_value x); subst x]
  extract_lets +onlyGivenNames x; clear_value x
  with_reducible apply State.setSlot_framed
  with_reducible assumption
  exact kf.sub rfl
  with_reducible apply State.setOut_framed
  with_reducible assumption
  exact kf.sub rfl

theorem State.runCmd_framed {s : State} {k : Fin 16} {op : Nat → Bool} {f : State → MbSlot → State × Nat × List Byte} (hs : State.Framed q b s) (hf : ∀ s y0, State.Framed q b s → State.Framed q b (f s y0).1) (kf : b.free [Part.mb]) :
    State.Framed q b (State.runCmd s k op f) := by
  unfold State.runCmd
  simp -zeta only
  with_reducible apply framed_ite
  with_reducible apply State.cmdEnd_framed
  with_reducible assumption
  with_reducible apply hf
  with_reducible assumption
  exact kf.sub rfl
  with_reducible assumption

theorem State.watch_framed {s : State} {fs : List Field} {f : State → State} (hs : State.Framed q b s) (hf : ∀ s, State.Framed q b s → State.Framed q b (f s)) (kf : b.free (regParts)) :
    State.Framed q b (State.watch s fs f).1 := by
  unfold State.watch
  extract_lets +onlyGivenNames x; clear_value x
  extract_lets +onlyGivenNames x; refine (fun (hx : State.Framed q b x) => ?_) ?_ <;> [(try clear_value x); subst x]
  simp -zeta only
  with_reducible apply framed_foldl
  intro _ _ _
  with_reducible apply State.put_framed
  with_reducible assumption
  exact kf.getReg rfl
  with_reducible assumption
  with_reducible apply hf
  with_reducible apply framed_foldl
  intro _ _ _
  with_reducible apply State.put_framed
  with_reducible assumption
  exact kf.getReg rfl
  with_reducible assumption

theorem State.rawWriteAs_framed {s : State} {r : Reg} {v : Word} {code : Nat} (hs : State.Framed q b s) (kf : b.free (regParts ++ [Part.now, Part.mem, Part.fresh, Part.seq, Part.time, Part.pulses, Part.lk, Part.evts, Part.ports, Part.axes, Part.sdclk, Part.fbs, Part.loops, Part.arms, Part.kiln, Part.tiles, Part.stk, Part.pc, Part.ic, Part.si, Part.eth, Part.chain, Part.mb, Part.boot])) :
    State.Framed q b (State.rawWriteAs s r v code).1 := by
  unfold State.rawWriteAs
  split
  simp -zeta only
  with_reducible assumption
  split
  simp -zeta only
  with_reducible refine framed_of_pair (by with_reducible assumption) ?_
  with_reducible apply State.watch_framed
  with_reducible assumption
  intro _ _
  with_reducible apply State.busWrite_framed
  with_reducible assumption
  exact kf.sub rfl
  exact kf.sub rfl
  simp -zeta only
  with_reducible refine framed_of_pair (by with_reducible assumption) ?_
  with_reducible apply State.watch_framed
  with_reducible assumption
  intro _ _
  with_reducible apply State.busWrite_framed
  with_reducible assumption
  exact kf.sub rfl
  exact kf.sub rfl

theorem State.cmdWriteAs_framed {s : State} {r : Reg} {v : Word} {code : Nat} (hs : State.Framed q b s) (kf : b.free (regParts ++ [Part.now, Part.mem, Part.fresh, Part.seq, Part.time, Part.pulses, Part.lk, Part.evts, Part.ports, Part.axes, Part.sdclk, Part.fbs, Part.loops, Part.arms, Part.kiln, Part.tiles, Part.stk, Part.pc, Part.ic, Part.si, Part.eth, Part.chain, Part.mb, Part.boot])) :
    State.Framed q b (State.cmdWriteAs s r v code).1 := by
  unfold State.cmdWriteAs
  split
  simp -zeta only
  with_reducible assumption
  with_reducible apply State.rawWriteAs_framed
  with_reducible assumption
  exact kf.sub rfl

theorem State.rawWrite_framed {s : State} {r : Reg} {v : Word} (hs : State.Framed q b s) (kf : b.free (regParts ++ [Part.now, Part.mem, Part.fresh, Part.seq, Part.time, Part.pulses, Part.lk, Part.evts, Part.ports, Part.axes, Part.sdclk, Part.fbs, Part.loops, Part.arms, Part.kiln, Part.tiles, Part.stk, Part.pc, Part.ic, Part.si, Part.eth, Part.chain, Part.mb, Part.boot])) :
    State.Framed q b (State.rawWrite s r v).1 := by
  unfold State.rawWrite
  with_reducible apply State.rawWriteAs_framed
  with_reducible apply State.useFresh_framed
  with_reducible assumption
  exact kf.sub rfl
  exact kf.sub rfl

theorem State.rawWrites_framed {s : State} {l : List (Reg × Word)} (hs : State.Framed q b s) (kf :
    b.free (regParts ++ [Part.now, Part.mem, Part.fresh, Part.seq, Part.time, Part.pulses, Part.lk, Part.evts, Part.ports, Part.axes, Part.sdclk, Part.fbs, Part.loops, Part.arms, Part.kiln, Part.tiles, Part.stk, Part.pc, Part.ic, Part.si, Part.eth, Part.chain, Part.mb, Part.boot])) :
  State.Framed q b (State.rawWrites s l).1 := by
  induction l generalizing s with
  | nil => exact hs
  | cons x l ih =>
    have h := State.rawWrite_framed (r := x.1) (v := x.2) hs (kf.sub rfl)
    unfold State.rawWrites
    split
    · rename_i e
      rw [e] at h
      exact ih h
    · rename_i e
      rw [e] at h
      exact h

theorem State.cmdWrite_framed {s : State} {r : Reg} {v : Word} (hs : State.Framed q b s) (kf : b.free (regParts ++ [Part.now, Part.mem, Part.fresh, Part.seq, Part.time, Part.pulses, Part.lk, Part.evts, Part.ports, Part.axes, Part.sdclk, Part.fbs, Part.loops, Part.arms, Part.kiln, Part.tiles, Part.stk, Part.pc, Part.ic, Part.si, Part.eth, Part.chain, Part.mb, Part.boot])) :
    State.Framed q b (State.cmdWrite s r v).1 := by
  unfold State.cmdWrite
  with_reducible apply State.cmdWriteAs_framed
  with_reducible apply State.useFresh_framed
  with_reducible assumption
  exact kf.sub rfl
  exact kf.sub rfl

theorem State.cmdWrites_framed {s : State} {l : List (Reg × Word)} (hs : State.Framed q b s) (kf :
    b.free (regParts ++ [Part.now, Part.mem, Part.fresh, Part.seq, Part.time, Part.pulses, Part.lk, Part.evts, Part.ports, Part.axes, Part.sdclk, Part.fbs, Part.loops, Part.arms, Part.kiln, Part.tiles, Part.stk, Part.pc, Part.ic, Part.si, Part.eth, Part.chain, Part.mb, Part.boot])) :
  State.Framed q b (State.cmdWrites s l).1 := by
  induction l generalizing s with
  | nil => exact hs
  | cons x l ih =>
    have h := State.cmdWrite_framed (r := x.1) (v := x.2) hs (kf.sub rfl)
    unfold State.cmdWrites
    split
    · rename_i e
      rw [e] at h
      exact ih h
    · rename_i e
      rw [e] at h
      exact h

theorem State.cmdReads_framed {s : State} {rs : List Reg} (hs : State.Framed q b s) (kf : b.free (regParts ++ [Part.fresh, Part.rdata, Part.caps, Part.evts, Part.kiln, Part.mb])) :
    State.Framed q b (State.cmdReads s rs).1 := by
  unfold State.cmdReads
  simp -zeta only
  with_reducible apply State.answer_framed
  with_reducible apply framed_foldl_fst
  intro _ _ _
  extract_lets +onlyGivenNames x; refine (fun (hx : State.Framed q b x) => ?_) ?_ <;> [(try clear_value x); subst x]
  simp -zeta only
  with_reducible assumption
  with_reducible apply State.busRead_framed
  with_reducible assumption
  exact kf.sub rfl
  simp -zeta only
  with_reducible assumption
  exact kf.sub rfl

theorem plain_framed {q_ : State × Nat} (hq_ : State.Framed q b q_.1) : State.Framed q b (plain q_).1 := by
  unfold plain
  simp -zeta only
  with_reducible assumption

end Sys2Proof.Machine

/-! The instructions of the tiles and their outside accesses keep what `State.Framed` says: one lemma per operation. -/

namespace Sys2Proof.Machine

open Sys2Proof

variable {q : List Instr} {b : Kept}

theorem State.dataOp_framed {s : State} {t_ : Fin 32} {size : Nat} {sat : Bool} {dd : Fin 16} {f : Tile → Res 24} (hs : State.Framed q b s) (kf : b.free [Part.reg RegGroup.ic, Part.tiles, Part.ic]) :
    State.Framed q b (State.dataOp s t_ size sat dd f) := by
  unfold State.dataOp
  with_reducible apply State.native_framed
  with_reducible assumption
  exact kf.sub rfl

theorem State.accOp_framed {s : State} {t_ : Fin 32} {sat : Bool} {ad : Fin 4} {f : Tile → Res 56} (hs : State.Framed q b s) (kf : b.free [Part.reg RegGroup.ic, Part.tiles, Part.ic]) :
    State.Framed q b (State.accOp s t_ sat ad f) := by
  unfold State.accOp
  with_reducible apply State.native_framed
  with_reducible assumption
  exact kf.sub rfl

theorem State.mulRegs_framed {s : State} {t_ : Fin 32} {op : MulOp} {sat : Bool} {lanes : List (Fin 4 × Nat × Bool)} {xs : Tile → List Word} {y : Fin 16} (hs : State.Framed q b s) (kf : b.free [Part.reg RegGroup.ic, Part.tiles, Part.ic]) :
    State.Framed q b (State.mulRegs s t_ op sat lanes xs y) := by
  unfold State.mulRegs
  with_reducible apply State.native_framed
  with_reducible assumption
  exact kf.sub rfl

theorem State.mulMem_framed {s : State} {t_ : Fin 32} {op : MulOp} {sat : Bool} {lanes : List (Fin 4 × Nat × Bool)} {y : EShort} {x : EShort} {nx : Nat} (hs : State.Framed q b s) (kf : b.free [Part.reg RegGroup.ic, Part.tiles, Part.ic]) :
    State.Framed q b (State.mulMem s t_ op sat lanes y x nx) := by
  unfold State.mulMem
  with_reducible apply State.issue_framed
  with_reducible assumption
  intro _ _
  with_reducible apply State.access_framed
  with_reducible assumption
  exact kf.sub rfl
  exact kf.sub rfl

theorem State.taskEnd_framed {s : State} {t_ : Fin 32} (hs : State.Framed q b s) (kf : b.free [Part.reg RegGroup.stk, Part.reg RegGroup.ic, Part.tiles, Part.stk, Part.ic]) :
    State.Framed q b (State.taskEnd s t_) := by
  unfold State.taskEnd
  extract_lets +onlyGivenNames x; clear_value x
  extract_lets +onlyGivenNames x; refine (fun (hx : State.Framed q b x) => ?_) ?_ <;> [(try clear_value x); subst x]
  split
  with_reducible apply framed_ite
  with_reducible apply State.startSlot_framed
  with_reducible assumption
  exact kf.sub rfl
  with_reducible assumption
  with_reducible assumption
  with_reducible apply State.endRun_framed
  with_reducible apply State.ticks_framed
  with_reducible assumption
  exact kf.sub rfl
  exact kf.sub rfl

theorem execNop_framed {t_ : Fin 32} {s : State} (hs : State.Framed q b s) (kf : b.free [Part.reg RegGroup.ic, Part.tiles, Part.ic]) :
    answers (execNop t_ s) (State.Framed q b) := by
  unfold execNop
  with_reducible apply answers_next
  with_reducible apply State.native_framed
  with_reducible assumption
  exact kf.sub rfl

theorem execTend_framed {t_ : Fin 32} {s : State} (hs : State.Framed q b s) (kf : b.free [Part.reg RegGroup.stk, Part.reg RegGroup.ic, Part.tiles, Part.stk, Part.ic]) :
    answers (execTend t_ s) (State.Framed q b) := by
  unfold execTend
  with_reducible apply answers_next
  with_reducible apply State.gate_framed
  with_reducible assumption
  intro _ _
  with_reducible apply State.taskEnd_framed
  with_reducible assumption
  exact kf.sub rfl
  exact kf.sub rfl

theorem execReti_framed {t_ : Fin 32} {s : State} (hs : State.Framed q b s) (kf : b.free [Part.reg RegGroup.ic, Part.tiles, Part.ic]) :
    answers (execReti t_ s) (State.Framed q b) := by
  unfold execReti
  with_reducible apply answers_next
  with_reducible apply State.nativeCtl_framed
  with_reducible assumption
  exact kf.sub rfl

theorem execRptImm_framed {t_ : Fin 32} {n : Fin 4096} {s : State} (hs : State.Framed q b s) (kf : b.free [Part.reg RegGroup.ic, Part.tiles, Part.ic]) :
    answers (execRptImm t_ n s) (State.Framed q b) := by
  unfold execRptImm
  with_reducible apply answers_next
  with_reducible apply State.nativeCtl_framed
  with_reducible assumption
  exact kf.sub rfl

theorem execRptReg_framed {t_ : Fin 32} {dn : Fin 16} {s : State} (hs : State.Framed q b s) (kf : b.free [Part.reg RegGroup.ic, Part.tiles, Part.ic]) :
    answers (execRptReg t_ dn s) (State.Framed q b) := by
  unfold execRptReg
  with_reducible apply answers_next
  with_reducible apply State.nativeCtl_framed
  with_reducible assumption
  exact kf.sub rfl

theorem execEi_framed {t_ : Fin 32} {s : State} (hs : State.Framed q b s) (kf : b.free [Part.reg RegGroup.ic, Part.tiles, Part.ic]) :
    answers (execEi t_ s) (State.Framed q b) := by
  unfold execEi
  with_reducible apply answers_next
  with_reducible apply State.nativeCtl_framed
  with_reducible assumption
  exact kf.sub rfl

theorem execDi_framed {t_ : Fin 32} {s : State} (hs : State.Framed q b s) (kf : b.free [Part.reg RegGroup.ic, Part.tiles, Part.ic]) :
    answers (execDi t_ s) (State.Framed q b) := by
  unfold execDi
  with_reducible apply answers_next
  with_reducible apply State.nativeCtl_framed
  with_reducible assumption
  exact kf.sub rfl

theorem execClrst_framed {t_ : Fin 32} {s : State} (hs : State.Framed q b s) (kf : b.free [Part.reg RegGroup.ic, Part.tiles, Part.ic]) :
    answers (execClrst t_ s) (State.Framed q b) := by
  unfold execClrst
  with_reducible apply answers_next
  with_reducible apply State.nativeCtl_framed
  with_reducible assumption
  exact kf.sub rfl

theorem execSetrnd_framed {t_ : Fin 32} {k : Fin 4} {s : State} (hs : State.Framed q b s) (kf : b.free [Part.reg RegGroup.ic, Part.tiles, Part.ic]) :
    answers (execSetrnd t_ k s) (State.Framed q b) := by
  unfold execSetrnd
  with_reducible apply answers_next
  with_reducible apply State.nativeCtl_framed
  with_reducible assumption
  exact kf.sub rfl

theorem execBCc_framed {t_ : Fin 32} {cc : Fin 16} {off : BitVec 16} {s : State} (hs : State.Framed q b s) (kf : b.free [Part.reg RegGroup.ic, Part.tiles, Part.ic]) :
    answers (execBCc t_ cc off s) (State.Framed q b) := by
  unfold execBCc
  with_reducible apply answers_next
  with_reducible apply State.issue_framed
  with_reducible assumption
  intro _ _
  with_reducible apply State.illegalIf_framed
  with_reducible assumption
  intro _ _
  extract_lets +onlyGivenNames x; clear_value x
  with_reducible apply State.setTile_framed
  with_reducible assumption
  exact kf.sub rfl
  exact kf.sub rfl
  exact kf.sub rfl

theorem execCall_framed {t_ : Fin 32} {off : BitVec 16} {s : State} (hs : State.Framed q b s) (kf : b.free [Part.reg RegGroup.ic, Part.tiles, Part.ic]) :
    answers (execCall t_ off s) (State.Framed q b) := by
  unfold execCall
  with_reducible apply answers_next
  with_reducible apply State.nativeCtl_framed
  with_reducible assumption
  exact kf.sub rfl

theorem execJmp_framed {t_ : Fin 32} {pn : Fin 8} {s : State} (hs : State.Framed q b s) (kf : b.free [Part.reg RegGroup.ic, Part.tiles, Part.ic]) :
    answers (execJmp t_ pn s) (State.Framed q b) := by
  unfold execJmp
  with_reducible apply answers_next
  with_reducible apply State.nativeCtl_framed
  with_reducible assumption
  exact kf.sub rfl

theorem execCallr_framed {t_ : Fin 32} {pn : Fin 8} {s : State} (hs : State.Framed q b s) (kf : b.free [Part.reg RegGroup.ic, Part.tiles, Part.ic]) :
    answers (execCallr t_ pn s) (State.Framed q b) := by
  unfold execCallr
  with_reducible apply answers_next
  with_reducible apply State.nativeCtl_framed
  with_reducible assumption
  exact kf.sub rfl

theorem execRet_framed {t_ : Fin 32} {s : State} (hs : State.Framed q b s) (kf : b.free [Part.reg RegGroup.ic, Part.tiles, Part.ic]) :
    answers (execRet t_ s) (State.Framed q b) := by
  unfold execRet
  with_reducible apply answers_next
  with_reducible apply State.nativeCtl_framed
  with_reducible assumption
  exact kf.sub rfl

theorem execDbnz_framed {t_ : Fin 32} {dn : Fin 16} {off : BitVec 16} {s : State} (hs : State.Framed q b s) (kf : b.free [Part.reg RegGroup.ic, Part.tiles, Part.ic]) :
    answers (execDbnz t_ dn off s) (State.Framed q b) := by
  unfold execDbnz
  with_reducible apply answers_next
  with_reducible apply State.nativeCtl_framed
  with_reducible assumption
  exact kf.sub rfl

theorem execMxcall_framed {t_ : Fin 32} {off : BitVec 16} {s : State} (hs : State.Framed q b s) (kf : b.free [Part.reg RegGroup.ic, Part.tiles, Part.ic]) :
    answers (execMxcall t_ off s) (State.Framed q b) := by
  unfold execMxcall
  with_reducible apply answers_next
  with_reducible apply State.nativeCtl_framed
  with_reducible assumption
  exact kf.sub rfl

theorem execLd_framed {t_ : Fin 32} {dn : Fin 16} {m : EMem} {s : State} (hs : State.Framed q b s) (kf : b.free [Part.reg RegGroup.ic, Part.tiles, Part.ic]) :
    answers (execLd t_ dn m s) (State.Framed q b) := by
  unfold execLd
  with_reducible apply answers_next
  with_reducible apply State.issue_framed
  with_reducible assumption
  intro _ _
  with_reducible apply State.access_framed
  with_reducible assumption
  exact kf.sub rfl
  exact kf.sub rfl

theorem execSt_framed {t_ : Fin 32} {dn : Fin 16} {m : EMem} {s : State} (hs : State.Framed q b s) (kf : b.free [Part.reg RegGroup.ic, Part.mem, Part.tiles, Part.ic]) :
    answers (execSt t_ dn m s) (State.Framed q b) := by
  unfold execSt
  with_reducible apply answers_next
  with_reducible apply State.issue_framed
  with_reducible assumption
  intro _ _
  extract_lets +onlyGivenNames x; clear_value x
  with_reducible apply State.storeWords_framed
  with_reducible assumption
  exact kf.sub rfl
  exact kf.sub rfl

theorem execLddA_framed {t_ : Fin 32} {an : Fin 4} {m : EMem} {s : State} (hs : State.Framed q b s) (kf : b.free [Part.reg RegGroup.ic, Part.tiles, Part.ic]) :
    answers (execLddA t_ an m s) (State.Framed q b) := by
  unfold execLddA
  with_reducible apply answers_next
  with_reducible apply State.issue_framed
  with_reducible assumption
  intro _ _
  with_reducible apply State.access_framed
  with_reducible assumption
  exact kf.sub rfl
  exact kf.sub rfl

theorem execStdA_framed {t_ : Fin 32} {an : Fin 4} {m : EMem} {s : State} (hs : State.Framed q b s) (kf : b.free [Part.reg RegGroup.ic, Part.mem, Part.tiles, Part.ic]) :
    answers (execStdA t_ an m s) (State.Framed q b) := by
  unfold execStdA
  with_reducible apply answers_next
  with_reducible apply State.issue_framed
  with_reducible assumption
  intro _ _
  extract_lets +onlyGivenNames x; clear_value x
  with_reducible apply State.storeWords_framed
  with_reducible assumption
  exact kf.sub rfl
  exact kf.sub rfl

theorem execLdq_framed {t_ : Fin 32} {g : Fin 4} {m : EMem} {s : State} (hs : State.Framed q b s) (kf : b.free [Part.reg RegGroup.ic, Part.tiles, Part.ic]) :
    answers (execLdq t_ g m s) (State.Framed q b) := by
  unfold execLdq
  with_reducible apply answers_next
  with_reducible apply State.issue_framed
  with_reducible assumption
  intro _ _
  with_reducible apply State.access_framed
  with_reducible assumption
  exact kf.sub rfl
  exact kf.sub rfl

theorem execStq_framed {t_ : Fin 32} {g : Fin 4} {m : EMem} {s : State} (hs : State.Framed q b s) (kf : b.free [Part.reg RegGroup.ic, Part.mem, Part.tiles, Part.ic]) :
    answers (execStq t_ g m s) (State.Framed q b) := by
  unfold execStq
  with_reducible apply answers_next
  with_reducible apply State.issue_framed
  with_reducible assumption
  intro _ _
  extract_lets +onlyGivenNames x; clear_value x
  with_reducible apply State.storeWords_framed
  with_reducible assumption
  exact kf.sub rfl
  exact kf.sub rfl

theorem execLddP_framed {t_ : Fin 32} {pn : Fin 8} {m : EMem} {s : State} (hs : State.Framed q b s) (kf : b.free [Part.reg RegGroup.ic, Part.tiles, Part.ic]) :
    answers (execLddP t_ pn m s) (State.Framed q b) := by
  unfold execLddP
  with_reducible apply answers_next
  with_reducible apply State.issue_framed
  with_reducible assumption
  intro _ _
  with_reducible apply State.access_framed
  with_reducible assumption
  exact kf.sub rfl
  exact kf.sub rfl

theorem execStdP_framed {t_ : Fin 32} {pn : Fin 8} {m : EMem} {s : State} (hs : State.Framed q b s) (kf : b.free [Part.reg RegGroup.ic, Part.mem, Part.tiles, Part.ic]) :
    answers (execStdP t_ pn m s) (State.Framed q b) := by
  unfold execStdP
  with_reducible apply answers_next
  with_reducible apply State.issue_framed
  with_reducible assumption
  intro _ _
  extract_lets +onlyGivenNames x; clear_value x
  with_reducible apply State.storeWords_framed
  with_reducible assumption
  exact kf.sub rfl
  exact kf.sub rfl

theorem execLddB_framed {t_ : Fin 32} {bn : Fin 8} {m : EMem} {s : State} (hs : State.Framed q b s) (kf : b.free [Part.reg RegGroup.ic, Part.tiles, Part.ic]) :
    answers (execLddB t_ bn m s) (State.Framed q b) := by
  unfold execLddB
  with_reducible apply answers_next
  with_reducible apply State.issue_framed
  with_reducible assumption
  intro _ _
  with_reducible apply State.access_framed
  with_reducible assumption
  exact kf.sub rfl
  exact kf.sub rfl

theorem execStdB_framed {t_ : Fin 32} {bn : Fin 8} {m : EMem} {s : State} (hs : State.Framed q b s) (kf : b.free [Part.reg RegGroup.ic, Part.mem, Part.tiles, Part.ic]) :
    answers (execStdB t_ bn m s) (State.Framed q b) := by
  unfold execStdB
  with_reducible apply answers_next
  with_reducible apply State.issue_framed
  with_reducible assumption
  intro _ _
  extract_lets +onlyGivenNames x; clear_value x
  with_reducible apply State.storeWords_framed
  with_reducible assumption
  exact kf.sub rfl
  exact kf.sub rfl

theorem execLdL_framed {t_ : Fin 32} {ln : Fin 8} {m : EMem} {s : State} (hs : State.Framed q b s) (kf : b.free [Part.reg RegGroup.ic, Part.tiles, Part.ic]) :
    answers (execLdL t_ ln m s) (State.Framed q b) := by
  unfold execLdL
  with_reducible apply answers_next
  with_reducible apply State.issue_framed
  with_reducible assumption
  intro _ _
  with_reducible apply State.access_framed
  with_reducible assumption
  exact kf.sub rfl
  exact kf.sub rfl

theorem execStL_framed {t_ : Fin 32} {ln : Fin 8} {m : EMem} {s : State} (hs : State.Framed q b s) (kf : b.free [Part.reg RegGroup.ic, Part.mem, Part.tiles, Part.ic]) :
    answers (execStL t_ ln m s) (State.Framed q b) := by
  unfold execStL
  with_reducible apply answers_next
  with_reducible apply State.issue_framed
  with_reducible assumption
  intro _ _
  extract_lets +onlyGivenNames x; clear_value x
  with_reducible apply State.storeWords_framed
  with_reducible assumption
  exact kf.sub rfl
  exact kf.sub rfl

theorem execLdM_framed {t_ : Fin 32} {mn : Fin 8} {m : EMem} {s : State} (hs : State.Framed q b s) (kf : b.free [Part.reg RegGroup.ic, Part.tiles, Part.ic]) :
    answers (execLdM t_ mn m s) (State.Framed q b) := by
  unfold execLdM
  with_reducible apply answers_next
  with_reducible apply State.issue_framed
  with_reducible assumption
  intro _ _
  with_reducible apply State.access_framed
  with_reducible assumption
  exact kf.sub rfl
  exact kf.sub rfl

theorem execStM_framed {t_ : Fin 32} {mn : Fin 8} {m : EMem} {s : State} (hs : State.Framed q b s) (kf : b.free [Part.reg RegGroup.ic, Part.mem, Part.tiles, Part.ic]) :
    answers (execStM t_ mn m s) (State.Framed q b) := by
  unfold execStM
  with_reducible apply answers_next
  with_reducible apply State.issue_framed
  with_reducible assumption
  intro _ _
  extract_lets +onlyGivenNames x; clear_value x
  with_reducible apply State.storeWords_framed
  with_reducible assumption
  exact kf.sub rfl
  exact kf.sub rfl

theorem execLea_framed {t_ : Fin 32} {pn : Fin 8} {m : EMem} {s : State} (hs : State.Framed q b s) (kf : b.free [Part.reg RegGroup.ic, Part.tiles, Part.ic]) :
    answers (execLea t_ pn m s) (State.Framed q b) := by
  unfold execLea
  with_reducible apply answers_next
  with_reducible apply State.native_framed
  with_reducible assumption
  exact kf.sub rfl

theorem execLd2_framed {t_ : Fin 32} {k : Fin 8} {x : EShort} {y : EShort} {s : State} (hs : State.Framed q b s) (kf : b.free [Part.reg RegGroup.ic, Part.tiles, Part.ic]) :
    answers (execLd2 t_ k x y s) (State.Framed q b) := by
  unfold execLd2
  with_reducible apply answers_next
  with_reducible apply State.issue_framed
  with_reducible assumption
  intro _ _
  with_reducible apply State.access_framed
  with_reducible assumption
  exact kf.sub rfl
  exact kf.sub rfl

theorem execLdiD_framed {t_ : Fin 32} {dn : Fin 16} {imm : EImm} {s : State} (hs : State.Framed q b s) (kf : b.free [Part.reg RegGroup.ic, Part.tiles, Part.ic]) :
    answers (execLdiD t_ dn imm s) (State.Framed q b) := by
  unfold execLdiD
  with_reducible apply answers_next
  with_reducible apply State.native_framed
  with_reducible assumption
  exact kf.sub rfl

theorem execLdiA_framed {t_ : Fin 32} {an : Fin 4} {imm : BitVec 24} {s : State} (hs : State.Framed q b s) (kf : b.free [Part.reg RegGroup.ic, Part.tiles, Part.ic]) :
    answers (execLdiA t_ an imm s) (State.Framed q b) := by
  unfold execLdiA
  with_reducible apply answers_next
  with_reducible apply State.native_framed
  with_reducible assumption
  exact kf.sub rfl

theorem execLdiP_framed {t_ : Fin 32} {pn : Fin 8} {imm : BitVec 40} {s : State} (hs : State.Framed q b s) (kf : b.free [Part.reg RegGroup.ic, Part.tiles, Part.ic]) :
    answers (execLdiP t_ pn imm s) (State.Framed q b) := by
  unfold execLdiP
  with_reducible apply answers_next
  with_reducible apply State.native_framed
  with_reducible assumption
  exact kf.sub rfl

theorem execLdiB_framed {t_ : Fin 32} {bn : Fin 8} {imm : BitVec 40} {s : State} (hs : State.Framed q b s) (kf : b.free [Part.reg RegGroup.ic, Part.tiles, Part.ic]) :
    answers (execLdiB t_ bn imm s) (State.Framed q b) := by
  unfold execLdiB
  with_reducible apply answers_next
  with_reducible apply State.native_framed
  with_reducible assumption
  exact kf.sub rfl

theorem execLdiL_framed {t_ : Fin 32} {ln : Fin 8} {imm : BitVec 18} {s : State} (hs : State.Framed q b s) (kf : b.free [Part.reg RegGroup.ic, Part.tiles, Part.ic]) :
    answers (execLdiL t_ ln imm s) (State.Framed q b) := by
  unfold execLdiL
  with_reducible apply answers_next
  with_reducible apply State.native_framed
  with_reducible assumption
  exact kf.sub rfl

theorem execLdiM_framed {t_ : Fin 32} {mn : Fin 8} {imm : BitVec 24} {s : State} (hs : State.Framed q b s) (kf : b.free [Part.reg RegGroup.ic, Part.tiles, Part.ic]) :
    answers (execLdiM t_ mn imm s) (State.Framed q b) := by
  unfold execLdiM
  with_reducible apply answers_next
  with_reducible apply State.native_framed
  with_reducible assumption
  exact kf.sub rfl

theorem execMov_framed {t_ : Fin 32} {rd : EReg} {rs : EReg} {s : State} (hs : State.Framed q b s) (kf : b.free [Part.reg RegGroup.ic, Part.tiles, Part.ic]) :
    answers (execMov t_ rd rs s) (State.Framed q b) := by
  unfold execMov
  with_reducible apply answers_next
  with_reducible apply State.issue_framed
  with_reducible assumption
  intro _ _
  with_reducible apply State.illegalIf_framed
  with_reducible assumption
  intro _ _
  with_reducible apply State.queue_framed
  with_reducible assumption
  exact kf.sub rfl
  exact kf.sub rfl
  exact kf.sub rfl

theorem execAdd_framed {t_ : Fin 32} {sat : Bool} {dd : Fin 16} {ds : Fin 16} {dt : Fin 16} {s : State} (hs : State.Framed q b s) (kf : b.free [Part.reg RegGroup.ic, Part.tiles, Part.ic]) :
    answers (execAdd t_ sat dd ds dt s) (State.Framed q b) := by
  unfold execAdd
  with_reducible apply answers_next
  with_reducible apply State.dataOp_framed
  with_reducible assumption
  exact kf.sub rfl

theorem execSub_framed {t_ : Fin 32} {sat : Bool} {dd : Fin 16} {ds : Fin 16} {dt : Fin 16} {s : State} (hs : State.Framed q b s) (kf : b.free [Part.reg RegGroup.ic, Part.tiles, Part.ic]) :
    answers (execSub t_ sat dd ds dt s) (State.Framed q b) := by
  unfold execSub
  with_reducible apply answers_next
  with_reducible apply State.dataOp_framed
  with_reducible assumption
  exact kf.sub rfl

theorem execCmp_framed {t_ : Fin 32} {sat : Bool} {ds : Fin 16} {dt : Fin 16} {s : State} (hs : State.Framed q b s) (kf : b.free [Part.reg RegGroup.ic, Part.tiles, Part.ic]) :
    answers (execCmp t_ sat ds dt s) (State.Framed q b) := by
  unfold execCmp
  with_reducible apply answers_next
  with_reducible apply State.dataOp_framed
  with_reducible assumption
  exact kf.sub rfl

theorem execNeg_framed {t_ : Fin 32} {sat : Bool} {dd : Fin 16} {ds : Fin 16} {s : State} (hs : State.Framed q b s) (kf : b.free [Part.reg RegGroup.ic, Part.tiles, Part.ic]) :
    answers (execNeg t_ sat dd ds s) (State.Framed q b) := by
  unfold execNeg
  with_reducible apply answers_next
  with_reducible apply State.dataOp_framed
  with_reducible assumption
  exact kf.sub rfl

theorem execAbs_framed {t_ : Fin 32} {sat : Bool} {dd : Fin 16} {ds : Fin 16} {s : State} (hs : State.Framed q b s) (kf : b.free [Part.reg RegGroup.ic, Part.tiles, Part.ic]) :
    answers (execAbs t_ sat dd ds s) (State.Framed q b) := by
  unfold execAbs
  with_reducible apply answers_next
  with_reducible apply State.dataOp_framed
  with_reducible assumption
  exact kf.sub rfl

theorem execMin_framed {t_ : Fin 32} {dd : Fin 16} {ds : Fin 16} {dt : Fin 16} {s : State} (hs : State.Framed q b s) (kf : b.free [Part.reg RegGroup.ic, Part.tiles, Part.ic]) :
    answers (execMin t_ dd ds dt s) (State.Framed q b) := by
  unfold execMin
  with_reducible apply answers_next
  with_reducible apply State.dataOp_framed
  with_reducible assumption
  exact kf.sub rfl

theorem execMax_framed {t_ : Fin 32} {dd : Fin 16} {ds : Fin 16} {dt : Fin 16} {s : State} (hs : State.Framed q b s) (kf : b.free [Part.reg RegGroup.ic, Part.tiles, Part.ic]) :
    answers (execMax t_ dd ds dt s) (State.Framed q b) := by
  unfold execMax
  with_reducible apply answers_next
  with_reducible apply State.dataOp_framed
  with_reducible assumption
  exact kf.sub rfl

theorem execAnd_framed {t_ : Fin 32} {dd : Fin 16} {ds : Fin 16} {dt : Fin 16} {s : State} (hs : State.Framed q b s) (kf : b.free [Part.reg RegGroup.ic, Part.tiles, Part.ic]) :
    answers (execAnd t_ dd ds dt s) (State.Framed q b) := by
  unfold execAnd
  with_reducible apply answers_next
  with_reducible apply State.dataOp_framed
  with_reducible assumption
  exact kf.sub rfl

theorem execOr_framed {t_ : Fin 32} {dd : Fin 16} {ds : Fin 16} {dt : Fin 16} {s : State} (hs : State.Framed q b s) (kf : b.free [Part.reg RegGroup.ic, Part.tiles, Part.ic]) :
    answers (execOr t_ dd ds dt s) (State.Framed q b) := by
  unfold execOr
  with_reducible apply answers_next
  with_reducible apply State.dataOp_framed
  with_reducible assumption
  exact kf.sub rfl

theorem execXor_framed {t_ : Fin 32} {dd : Fin 16} {ds : Fin 16} {dt : Fin 16} {s : State} (hs : State.Framed q b s) (kf : b.free [Part.reg RegGroup.ic, Part.tiles, Part.ic]) :
    answers (execXor t_ dd ds dt s) (State.Framed q b) := by
  unfold execXor
  with_reducible apply answers_next
  with_reducible apply State.dataOp_framed
  with_reducible assumption
  exact kf.sub rfl

theorem execNot_framed {t_ : Fin 32} {dd : Fin 16} {ds : Fin 16} {s : State} (hs : State.Framed q b s) (kf : b.free [Part.reg RegGroup.ic, Part.tiles, Part.ic]) :
    answers (execNot t_ dd ds s) (State.Framed q b) := by
  unfold execNot
  with_reducible apply answers_next
  with_reducible apply State.dataOp_framed
  with_reducible assumption
  exact kf.sub rfl

theorem execAsl_framed {t_ : Fin 32} {sat : Bool} {dd : Fin 16} {ds : Fin 16} {dt : Fin 16} {s : State} (hs : State.Framed q b s) (kf : b.free [Part.reg RegGroup.ic, Part.tiles, Part.ic]) :
    answers (execAsl t_ sat dd ds dt s) (State.Framed q b) := by
  unfold execAsl
  with_reducible apply answers_next
  with_reducible apply State.dataOp_framed
  with_reducible assumption
  exact kf.sub rfl

theorem execAsr_framed {t_ : Fin 32} {dd : Fin 16} {ds : Fin 16} {dt : Fin 16} {s : State} (hs : State.Framed q b s) (kf : b.free [Part.reg RegGroup.ic, Part.tiles, Part.ic]) :
    answers (execAsr t_ dd ds dt s) (State.Framed q b) := by
  unfold execAsr
  with_reducible apply answers_next
  with_reducible apply State.dataOp_framed
  with_reducible assumption
  exact kf.sub rfl

theorem execLsr_framed {t_ : Fin 32} {dd : Fin 16} {ds : Fin 16} {dt : Fin 16} {s : State} (hs : State.Framed q b s) (kf : b.free [Part.reg RegGroup.ic, Part.tiles, Part.ic]) :
    answers (execLsr t_ dd ds dt s) (State.Framed q b) := by
  unfold execLsr
  with_reducible apply answers_next
  with_reducible apply State.dataOp_framed
  with_reducible assumption
  exact kf.sub rfl

theorem execAddc_framed {t_ : Fin 32} {sat : Bool} {dd : Fin 16} {ds : Fin 16} {dt : Fin 16} {s : State} (hs : State.Framed q b s) (kf : b.free [Part.reg RegGroup.ic, Part.tiles, Part.ic]) :
    answers (execAddc t_ sat dd ds dt s) (State.Framed q b) := by
  unfold execAddc
  with_reducible apply answers_next
  with_reducible apply State.dataOp_framed
  with_reducible assumption
  exact kf.sub rfl

theorem execSubc_framed {t_ : Fin 32} {sat : Bool} {dd : Fin 16} {ds : Fin 16} {dt : Fin 16} {s : State} (hs : State.Framed q b s) (kf : b.free [Part.reg RegGroup.ic, Part.tiles, Part.ic]) :
    answers (execSubc t_ sat dd ds dt s) (State.Framed q b) := by
  unfold execSubc
  with_reducible apply answers_next
  with_reducible apply State.dataOp_framed
  with_reducible assumption
  exact kf.sub rfl

theorem execAddi_framed {t_ : Fin 32} {sat : Bool} {dd : Fin 16} {imm : EImm} {s : State} (hs : State.Framed q b s) (kf : b.free [Part.reg RegGroup.ic, Part.tiles, Part.ic]) :
    answers (execAddi t_ sat dd imm s) (State.Framed q b) := by
  unfold execAddi
  with_reducible apply answers_next
  with_reducible apply State.dataOp_framed
  with_reducible assumption
  exact kf.sub rfl

theorem execCmpi_framed {t_ : Fin 32} {sat : Bool} {dd : Fin 16} {imm : EImm} {s : State} (hs : State.Framed q b s) (kf : b.free [Part.reg RegGroup.ic, Part.tiles, Part.ic]) :
    answers (execCmpi t_ sat dd imm s) (State.Framed q b) := by
  unfold execCmpi
  with_reducible apply answers_next
  with_reducible apply State.dataOp_framed
  with_reducible assumption
  exact kf.sub rfl

theorem execAndi_framed {t_ : Fin 32} {dd : Fin 16} {imm : EImm} {s : State} (hs : State.Framed q b s) (kf : b.free [Part.reg RegGroup.ic, Part.tiles, Part.ic]) :
    answers (execAndi t_ dd imm s) (State.Framed q b) := by
  unfold execAndi
  with_reducible apply answers_next
  with_reducible apply State.dataOp_framed
  with_reducible assumption
  exact kf.sub rfl

theorem execOri_framed {t_ : Fin 32} {dd : Fin 16} {imm : EImm} {s : State} (hs : State.Framed q b s) (kf : b.free [Part.reg RegGroup.ic, Part.tiles, Part.ic]) :
    answers (execOri t_ dd imm s) (State.Framed q b) := by
  unfold execOri
  with_reducible apply answers_next
  with_reducible apply State.dataOp_framed
  with_reducible assumption
  exact kf.sub rfl

theorem execXori_framed {t_ : Fin 32} {dd : Fin 16} {imm : EImm} {s : State} (hs : State.Framed q b s) (kf : b.free [Part.reg RegGroup.ic, Part.tiles, Part.ic]) :
    answers (execXori t_ dd imm s) (State.Framed q b) := by
  unfold execXori
  with_reducible apply answers_next
  with_reducible apply State.dataOp_framed
  with_reducible assumption
  exact kf.sub rfl

theorem execAsli_framed {t_ : Fin 32} {sat : Bool} {dd : Fin 16} {x : Bool} {k : Fin 32} {s : State} (hs : State.Framed q b s) (kf : b.free [Part.reg RegGroup.ic, Part.tiles, Part.ic]) :
    answers (execAsli t_ sat dd x k s) (State.Framed q b) := by
  unfold execAsli
  with_reducible apply answers_next
  with_reducible apply State.dataOp_framed
  with_reducible assumption
  exact kf.sub rfl

theorem execAsri_framed {t_ : Fin 32} {dd : Fin 16} {x : Bool} {k : Fin 32} {s : State} (hs : State.Framed q b s) (kf : b.free [Part.reg RegGroup.ic, Part.tiles, Part.ic]) :
    answers (execAsri t_ dd x k s) (State.Framed q b) := by
  unfold execAsri
  with_reducible apply answers_next
  with_reducible apply State.dataOp_framed
  with_reducible assumption
  exact kf.sub rfl

theorem execLsri_framed {t_ : Fin 32} {dd : Fin 16} {x : Bool} {k : Fin 32} {s : State} (hs : State.Framed q b s) (kf : b.free [Part.reg RegGroup.ic, Part.tiles, Part.ic]) :
    answers (execLsri t_ dd x k s) (State.Framed q b) := by
  unfold execLsri
  with_reducible apply answers_next
  with_reducible apply State.dataOp_framed
  with_reducible assumption
  exact kf.sub rfl

theorem execAdda_framed {t_ : Fin 32} {sat : Bool} {ad : Fin 4} {as_ : Fin 4} {s : State} (hs : State.Framed q b s) (kf : b.free [Part.reg RegGroup.ic, Part.tiles, Part.ic]) :
    answers (execAdda t_ sat ad as_ s) (State.Framed q b) := by
  unfold execAdda
  with_reducible apply answers_next
  with_reducible apply State.accOp_framed
  with_reducible assumption
  exact kf.sub rfl

theorem execSuba_framed {t_ : Fin 32} {sat : Bool} {ad : Fin 4} {as_ : Fin 4} {s : State} (hs : State.Framed q b s) (kf : b.free [Part.reg RegGroup.ic, Part.tiles, Part.ic]) :
    answers (execSuba t_ sat ad as_ s) (State.Framed q b) := by
  unfold execSuba
  with_reducible apply answers_next
  with_reducible apply State.accOp_framed
  with_reducible assumption
  exact kf.sub rfl

theorem execNega_framed {t_ : Fin 32} {sat : Bool} {ad : Fin 4} {as_ : Fin 4} {s : State} (hs : State.Framed q b s) (kf : b.free [Part.reg RegGroup.ic, Part.tiles, Part.ic]) :
    answers (execNega t_ sat ad as_ s) (State.Framed q b) := by
  unfold execNega
  with_reducible apply answers_next
  with_reducible apply State.accOp_framed
  with_reducible assumption
  exact kf.sub rfl

theorem execAbsa_framed {t_ : Fin 32} {sat : Bool} {ad : Fin 4} {as_ : Fin 4} {s : State} (hs : State.Framed q b s) (kf : b.free [Part.reg RegGroup.ic, Part.tiles, Part.ic]) :
    answers (execAbsa t_ sat ad as_ s) (State.Framed q b) := by
  unfold execAbsa
  with_reducible apply answers_next
  with_reducible apply State.accOp_framed
  with_reducible assumption
  exact kf.sub rfl

theorem execClr_framed {t_ : Fin 32} {mask : BitVec 4} {s : State} (hs : State.Framed q b s) (kf : b.free [Part.reg RegGroup.ic, Part.tiles, Part.ic]) :
    answers (execClr t_ mask s) (State.Framed q b) := by
  unfold execClr
  with_reducible apply answers_next
  with_reducible apply State.native_framed
  with_reducible assumption
  exact kf.sub rfl

theorem execMva_framed {t_ : Fin 32} {ad : Fin 4} {dn : Fin 16} {s : State} (hs : State.Framed q b s) (kf : b.free [Part.reg RegGroup.ic, Part.tiles, Part.ic]) :
    answers (execMva t_ ad dn s) (State.Framed q b) := by
  unfold execMva
  with_reducible apply answers_next
  with_reducible apply State.native_framed
  with_reducible assumption
  exact kf.sub rfl

theorem execMvr_framed {t_ : Fin 32} {sat : Bool} {dn : Fin 16} {as_ : Fin 4} {s : State} (hs : State.Framed q b s) (kf : b.free [Part.reg RegGroup.ic, Part.tiles, Part.ic]) :
    answers (execMvr t_ sat dn as_ s) (State.Framed q b) := by
  unfold execMvr
  with_reducible apply answers_next
  with_reducible apply State.dataOp_framed
  with_reducible assumption
  exact kf.sub rfl

theorem execAsla_framed {t_ : Fin 32} {sat : Bool} {ad : Fin 4} {as_ : Fin 4} {k : Fin 64} {s : State} (hs : State.Framed q b s) (kf : b.free [Part.reg RegGroup.ic, Part.tiles, Part.ic]) :
    answers (execAsla t_ sat ad as_ k s) (State.Framed q b) := by
  unfold execAsla
  with_reducible apply answers_next
  with_reducible apply State.issue_framed
  with_reducible assumption
  intro _ _
  with_reducible apply State.illegalIf_framed
  with_reducible assumption
  intro _ _
  with_reducible apply State.queue_framed
  with_reducible assumption
  exact kf.sub rfl
  exact kf.sub rfl
  exact kf.sub rfl

theorem execAsra_framed {t_ : Fin 32} {ad : Fin 4} {as_ : Fin 4} {k : Fin 64} {s : State} (hs : State.Framed q b s) (kf : b.free [Part.reg RegGroup.ic, Part.tiles, Part.ic]) :
    answers (execAsra t_ ad as_ k s) (State.Framed q b) := by
  unfold execAsra
  with_reducible apply answers_next
  with_reducible apply State.issue_framed
  with_reducible assumption
  intro _ _
  with_reducible apply State.illegalIf_framed
  with_reducible assumption
  intro _ _
  with_reducible apply State.queue_framed
  with_reducible assumption
  exact kf.sub rfl
  exact kf.sub rfl
  exact kf.sub rfl

theorem execCmpa_framed {t_ : Fin 32} {sat : Bool} {ad : Fin 4} {as_ : Fin 4} {s : State} (hs : State.Framed q b s) (kf : b.free [Part.reg RegGroup.ic, Part.tiles, Part.ic]) :
    answers (execCmpa t_ sat ad as_ s) (State.Framed q b) := by
  unfold execCmpa
  with_reducible apply answers_next
  with_reducible apply State.accOp_framed
  with_reducible assumption
  exact kf.sub rfl

theorem execMova_framed {t_ : Fin 32} {ad : Fin 4} {as_ : Fin 4} {s : State} (hs : State.Framed q b s) (kf : b.free [Part.reg RegGroup.ic, Part.tiles, Part.ic]) :
    answers (execMova t_ ad as_ s) (State.Framed q b) := by
  unfold execMova
  with_reducible apply answers_next
  with_reducible apply State.native_framed
  with_reducible assumption
  exact kf.sub rfl

theorem execRnda_framed {t_ : Fin 32} {sat : Bool} {ad : Fin 4} {as_ : Fin 4} {s : State} (hs : State.Framed q b s) (kf : b.free [Part.reg RegGroup.ic, Part.tiles, Part.ic]) :
    answers (execRnda t_ sat ad as_ s) (State.Framed q b) := by
  unfold execRnda
  with_reducible apply answers_next
  with_reducible apply State.accOp_framed
  with_reducible assumption
  exact kf.sub rfl

theorem execMpy_framed {t_ : Fin 32} {sat : Bool} {ad : Fin 4} {ds : Fin 16} {dt : Fin 16} {s : State} (hs : State.Framed q b s) (kf : b.free [Part.reg RegGroup.ic, Part.tiles, Part.ic]) :
    answers (execMpy t_ sat ad ds dt s) (State.Framed q b) := by
  unfold execMpy
  with_reducible apply answers_next
  with_reducible apply State.mulRegs_framed
  with_reducible assumption
  exact kf.sub rfl

theorem execMac_framed {t_ : Fin 32} {sat : Bool} {ad : Fin 4} {ds : Fin 16} {dt : Fin 16} {s : State} (hs : State.Framed q b s) (kf : b.free [Part.reg RegGroup.ic, Part.tiles, Part.ic]) :
    answers (execMac t_ sat ad ds dt s) (State.Framed q b) := by
  unfold execMac
  with_reducible apply answers_next
  with_reducible apply State.mulRegs_framed
  with_reducible assumption
  exact kf.sub rfl

theorem execMsu_framed {t_ : Fin 32} {sat : Bool} {ad : Fin 4} {ds : Fin 16} {dt : Fin 16} {s : State} (hs : State.Framed q b s) (kf : b.free [Part.reg RegGroup.ic, Part.tiles, Part.ic]) :
    answers (execMsu t_ sat ad ds dt s) (State.Framed q b) := by
  unfold execMsu
  with_reducible apply answers_next
  with_reducible apply State.mulRegs_framed
  with_reducible assumption
  exact kf.sub rfl

theorem execMpyMem_framed {t_ : Fin 32} {sat : Bool} {ad : Fin 4} {y : EShort} {x : EShort} {s : State} (hs : State.Framed q b s) (kf : b.free [Part.reg RegGroup.ic, Part.tiles, Part.ic]) :
    answers (execMpyMem t_ sat ad y x s) (State.Framed q b) := by
  unfold execMpyMem
  with_reducible apply answers_next
  with_reducible apply State.mulMem_framed
  with_reducible assumption
  exact kf.sub rfl

theorem execMacMem_framed {t_ : Fin 32} {sat : Bool} {ad : Fin 4} {y : EShort} {x : EShort} {s : State} (hs : State.Framed q b s) (kf : b.free [Part.reg RegGroup.ic, Part.tiles, Part.ic]) :
    answers (execMacMem t_ sat ad y x s) (State.Framed q b) := by
  unfold execMacMem
  with_reducible apply answers_next
  with_reducible apply State.mulMem_framed
  with_reducible assumption
  exact kf.sub rfl

theorem execMsuMem_framed {t_ : Fin 32} {sat : Bool} {ad : Fin 4} {y : EShort} {x : EShort} {s : State} (hs : State.Framed q b s) (kf : b.free [Part.reg RegGroup.ic, Part.tiles, Part.ic]) :
    answers (execMsuMem t_ sat ad y x s) (State.Framed q b) := by
  unfold execMsuMem
  with_reducible apply answers_next
  with_reducible apply State.mulMem_framed
  with_reducible assumption
  exact kf.sub rfl

theorem execMpyr_framed {t_ : Fin 32} {sat : Bool} {dd : Fin 16} {ds : Fin 16} {dt : Fin 16} {s : State} (hs : State.Framed q b s) (kf : b.free [Part.reg RegGroup.ic, Part.tiles, Part.ic]) :
    answers (execMpyr t_ sat dd ds dt s) (State.Framed q b) := by
  unfold execMpyr
  with_reducible apply answers_next
  with_reducible apply State.native_framed
  with_reducible assumption
  exact kf.sub rfl

theorem execDmacMem_framed {t_ : Fin 32} {sat : Bool} {p : Bool} {sw : Bool} {neg1 : Bool} {neg0 : Bool} {y : EShort} {x : EShort} {s : State} (hs : State.Framed q b s) (kf : b.free [Part.reg RegGroup.ic, Part.tiles, Part.ic]) :
    answers (execDmacMem t_ sat p sw neg1 neg0 y x s) (State.Framed q b) := by
  unfold execDmacMem
  with_reducible apply answers_next
  with_reducible apply State.mulMem_framed
  with_reducible assumption
  exact kf.sub rfl

theorem execDmacReg_framed {t_ : Fin 32} {sat : Bool} {p : Bool} {sw : Bool} {neg1 : Bool} {neg0 : Bool} {ds : Fin 16} {dt : Fin 16} {s : State} (hs : State.Framed q b s) (kf : b.free [Part.reg RegGroup.ic, Part.tiles, Part.ic]) :
    answers (execDmacReg t_ sat p sw neg1 neg0 ds dt s) (State.Framed q b) := by
  unfold execDmacReg
  with_reducible apply answers_next
  with_reducible apply State.issue_framed
  with_reducible assumption
  intro _ _
  with_reducible apply State.illegalIf_framed
  with_reducible assumption
  intro _ _
  extract_lets +onlyGivenNames x; clear_value x
  with_reducible apply State.queue_framed
  with_reducible assumption
  exact kf.sub rfl
  exact kf.sub rfl
  exact kf.sub rfl

theorem execDmacMulMem_framed {t_ : Fin 32} {sat : Bool} {p : Bool} {sw : Bool} {neg1 : Bool} {neg0 : Bool} {y : EShort} {x : EShort} {s : State} (hs : State.Framed q b s) (kf : b.free [Part.reg RegGroup.ic, Part.tiles, Part.ic]) :
    answers (execDmacMulMem t_ sat p sw neg1 neg0 y x s) (State.Framed q b) := by
  unfold execDmacMulMem
  with_reducible apply answers_next
  with_reducible apply State.mulMem_framed
  with_reducible assumption
  exact kf.sub rfl

theorem execDmacMulReg_framed {t_ : Fin 32} {sat : Bool} {p : Bool} {sw : Bool} {neg1 : Bool} {neg0 : Bool} {ds : Fin 16} {dt : Fin 16} {s : State} (hs : State.Framed q b s) (kf : b.free [Part.reg RegGroup.ic, Part.tiles, Part.ic]) :
    answers (execDmacMulReg t_ sat p sw neg1 neg0 ds dt s) (State.Framed q b) := by
  unfold execDmacMulReg
  with_reducible apply answers_next
  with_reducible apply State.issue_framed
  with_reducible assumption
  intro _ _
  with_reducible apply State.illegalIf_framed
  with_reducible assumption
  intro _ _
  extract_lets +onlyGivenNames x; clear_value x
  with_reducible apply State.queue_framed
  with_reducible assumption
  exact kf.sub rfl
  exact kf.sub rfl
  exact kf.sub rfl

theorem execQmacMem_framed {t_ : Fin 32} {sat : Bool} {neg : BitVec 4} {y : EShort} {x : EShort} {s : State} (hs : State.Framed q b s) (kf : b.free [Part.reg RegGroup.ic, Part.tiles, Part.ic]) :
    answers (execQmacMem t_ sat neg y x s) (State.Framed q b) := by
  unfold execQmacMem
  with_reducible apply answers_next
  with_reducible apply State.mulMem_framed
  with_reducible assumption
  exact kf.sub rfl

theorem execQmacReg_framed {t_ : Fin 32} {sat : Bool} {neg : BitVec 4} {g : Fin 4} {dt : Fin 16} {s : State} (hs : State.Framed q b s) (kf : b.free [Part.reg RegGroup.ic, Part.tiles, Part.ic]) :
    answers (execQmacReg t_ sat neg g dt s) (State.Framed q b) := by
  unfold execQmacReg
  with_reducible apply answers_next
  with_reducible apply State.mulRegs_framed
  with_reducible assumption
  exact kf.sub rfl

theorem execQmacMulMem_framed {t_ : Fin 32} {sat : Bool} {neg : BitVec 4} {y : EShort} {x : EShort} {s : State} (hs : State.Framed q b s) (kf : b.free [Part.reg RegGroup.ic, Part.tiles, Part.ic]) :
    answers (execQmacMulMem t_ sat neg y x s) (State.Framed q b) := by
  unfold execQmacMulMem
  with_reducible apply answers_next
  with_reducible apply State.mulMem_framed
  with_reducible assumption
  exact kf.sub rfl

theorem execQmacMulReg_framed {t_ : Fin 32} {sat : Bool} {neg : BitVec 4} {g : Fin 4} {dt : Fin 16} {s : State} (hs : State.Framed q b s) (kf : b.free [Part.reg RegGroup.ic, Part.tiles, Part.ic]) :
    answers (execQmacMulReg t_ sat neg g dt s) (State.Framed q b) := by
  unfold execQmacMulReg
  with_reducible apply answers_next
  with_reducible apply State.mulRegs_framed
  with_reducible assumption
  exact kf.sub rfl

theorem execAcs_framed {t_ : Fin 32} {sat : Bool} {dd : Fin 16} {ds : Fin 16} {dt : Fin 16} {du : Fin 16} {s : State} (hs : State.Framed q b s) (kf : b.free [Part.reg RegGroup.ic, Part.tiles, Part.ic]) :
    answers (execAcs t_ sat dd ds dt du s) (State.Framed q b) := by
  unfold execAcs
  with_reducible apply answers_next
  with_reducible apply State.native_framed
  with_reducible assumption
  exact kf.sub rfl

theorem execAcsn_framed {t_ : Fin 32} {sat : Bool} {dd : Fin 16} {ds : Fin 16} {dt : Fin 16} {du : Fin 16} {s : State} (hs : State.Framed q b s) (kf : b.free [Part.reg RegGroup.ic, Part.tiles, Part.ic]) :
    answers (execAcsn t_ sat dd ds dt du s) (State.Framed q b) := by
  unfold execAcsn
  with_reducible apply answers_next
  with_reducible apply State.native_framed
  with_reducible assumption
  exact kf.sub rfl

theorem execAcs2_framed {t_ : Fin 32} {sat : Bool} {dd : Fin 16} {ds : Fin 16} {dt : Fin 16} {du : Fin 16} {s : State} (hs : State.Framed q b s) (kf : b.free [Part.reg RegGroup.ic, Part.tiles, Part.ic]) :
    answers (execAcs2 t_ sat dd ds dt du s) (State.Framed q b) := by
  unfold execAcs2
  with_reducible apply answers_next
  with_reducible apply State.issue_framed
  with_reducible assumption
  intro _ _
  with_reducible apply State.illegalIf_framed
  with_reducible assumption
  intro _ _
  with_reducible apply State.queue_framed
  with_reducible assumption
  exact kf.sub rfl
  exact kf.sub rfl
  exact kf.sub rfl

theorem execAcs2n_framed {t_ : Fin 32} {sat : Bool} {dd : Fin 16} {ds : Fin 16} {dt : Fin 16} {du : Fin 16} {s : State} (hs : State.Framed q b s) (kf : b.free [Part.reg RegGroup.ic, Part.tiles, Part.ic]) :
    answers (execAcs2n t_ sat dd ds dt du s) (State.Framed q b) := by
  unfold execAcs2n
  with_reducible apply answers_next
  with_reducible apply State.issue_framed
  with_reducible assumption
  intro _ _
  with_reducible apply State.illegalIf_framed
  with_reducible assumption
  intro _ _
  with_reducible apply State.queue_framed
  with_reducible assumption
  exact kf.sub rfl
  exact kf.sub rfl
  exact kf.sub rfl

theorem execPadd_framed {t_ : Fin 32} {pn : Fin 8} {imm : EImm} {s : State} (hs : State.Framed q b s) (kf : b.free [Part.reg RegGroup.ic, Part.tiles, Part.ic]) :
    answers (execPadd t_ pn imm s) (State.Framed q b) := by
  unfold execPadd
  with_reducible apply answers_next
  with_reducible apply State.native_framed
  with_reducible assumption
  exact kf.sub rfl

theorem execPaddm_framed {t_ : Fin 32} {pn : Fin 8} {s : State} (hs : State.Framed q b s) (kf : b.free [Part.reg RegGroup.ic, Part.tiles, Part.ic]) :
    answers (execPaddm t_ pn s) (State.Framed q b) := by
  unfold execPaddm
  with_reducible apply answers_next
  with_reducible apply State.native_framed
  with_reducible assumption
  exact kf.sub rfl

theorem execPaddl_framed {t_ : Fin 32} {pn : Fin 8} {imm : EImm} {s : State} (hs : State.Framed q b s) (kf : b.free [Part.reg RegGroup.ic, Part.tiles, Part.ic]) :
    answers (execPaddl t_ pn imm s) (State.Framed q b) := by
  unfold execPaddl
  with_reducible apply answers_next
  with_reducible apply State.native_framed
  with_reducible assumption
  exact kf.sub rfl

theorem execInterruptAccept_framed {t_ : Fin 32} {s : State} (hs : State.Framed q b s) (kf : b.free [Part.reg RegGroup.ic, Part.tiles, Part.ic]) :
    answers (execInterruptAccept t_ s) (State.Framed q b) := by
  unfold execInterruptAccept
  extract_lets +onlyGivenNames x; clear_value x
  extract_lets +onlyGivenNames x; clear_value x
  split
  extract_lets +onlyGivenNames x; clear_value x
  extract_lets +onlyGivenNames x; refine (fun (hx : State.Framed q b x) => ?_) ?_ <;> [(try clear_value x); subst x]
  extract_lets +onlyGivenNames x; refine (fun (hx : State.Framed q b x) => ?_) ?_ <;> [(try clear_value x); subst x]
  with_reducible apply answers_ite
  with_reducible apply answers_next
  with_reducible apply framed_ite
  with_reducible apply State.icTakeUp_framed
  with_reducible assumption
  exact kf.sub rfl
  with_reducible assumption
  with_reducible apply answers_next
  with_reducible assumption
  with_reducible apply State.noteIc_framed
  with_reducible assumption
  exact kf.sub rfl
  with_reducible apply State.setTile_framed
  with_reducible assumption
  exact kf.sub rfl
  with_reducible apply answers_next
  with_reducible assumption

theorem execIllegalInstruction_framed {t_ : Fin 32} {s : State} (hs : State.Framed q b s) (kf : b.free [Part.reg RegGroup.ic, Part.tiles, Part.ic]) :
    answers (execIllegalInstruction t_ s) (State.Framed q b) := by
  unfold execIllegalInstruction
  extract_lets +onlyGivenNames x; clear_value x
  split
  with_reducible apply answers_next
  with_reducible apply State.tileFault_framed
  with_reducible assumption
  exact kf.sub rfl
  with_reducible apply answers_next
  with_reducible assumption

theorem State.outsideWords_framed {s : State} {t_ : Fin 32} {x : Opnd} (hs : State.Framed q b s) (kf :
    b.free (regParts ++ [Part.fresh, Part.rdata, Part.caps, Part.evts, Part.kiln, Part.mb])) :
  ∀ t, s.outsideWords t_ x = some t → State.Framed q b t.1 := by
  cases x with
  | words ws => exact opt_some (p := fun (t : State × List Word) => State.Framed q b t.1) hs
  | outside a n =>
    refine opt_foldl (p := fun (t : State × List Word) => State.Framed q b t.1) ?_ (opt_some hs)
    intro o x h
    cases o with
    | none => exact opt_none
    | some u =>
      refine opt_map (opt_imp (State.fabricRead_framed (h u rfl) (kf.sub rfl)) ?_)
      intro v hv
      exact hv

theorem execOutsideLoadReturn_framed {t_ : Fin 32} {cycles : Nat} {error : Bool} {s : State} (hs : State.Framed q b s) (kf : b.free (regParts ++ [Part.fresh, Part.rdata, Part.caps, Part.evts, Part.kiln, Part.tiles, Part.ic, Part.mb])) :
    answers (execOutsideLoadReturn t_ cycles error s) (State.Framed q b) := by
  unfold execOutsideLoadReturn
  split
  extract_lets +onlyGivenNames x; refine (fun (hx2 : ∀ t, x = some t → State.Framed q b t.1) => ?_) ?_ <;> [(try clear_value x); subst x]
  with_reducible apply answers_ite
  split
  with_reducible apply answers_next
  with_reducible apply State.tileFault_framed
  with_reducible apply State.resume_framed
  with_reducible assumption
  exact kf.sub rfl
  exact kf.sub rfl
  with_reducible apply answers_next
  with_reducible apply State.resume_framed
  with_reducible apply State.queue_framed
  with_reducible exact framed_of_some_pair rfl (by with_reducible assumption)
  exact kf.sub rfl
  exact kf.sub rfl
  with_reducible apply answers_next
  with_reducible assumption
  with_reducible refine opt_ite ?_ ?_
  with_reducible exact opt_none
  with_reducible refine opt_guard ?_; split
  with_reducible exact opt_none
  with_reducible refine opt_map ?_
  with_reducible refine opt_guard ?_; with_reducible apply State.outsideWords_framed
  with_reducible refine framed_of_some_pair (by with_reducible assumption) ?_
  with_reducible refine opt_guard ?_; with_reducible apply State.outsideWords_framed
  with_reducible assumption
  exact kf.sub rfl
  exact kf.sub rfl
  with_reducible apply answers_next
  with_reducible assumption

theorem State.signStore_framed {s : State} {t_ : Fin 32} {q_ : OutStore} (hs : State.Framed q b s) (kf : b.free [Part.pc]) :
    State.Framed q b (State.signStore s t_ q_) := by
  unfold State.signStore
  extract_lets +onlyGivenNames x; clear_value x
  extract_lets +onlyGivenNames x; clear_value x
  extract_lets +onlyGivenNames x; clear_value x
  with_reducible apply framed_ite
  with_reducible apply State.updPc_framed
  with_reducible assumption
  exact kf.sub rfl
  with_reducible apply State.foldSig_framed
  with_reducible assumption
  exact kf.sub rfl

theorem State.noteLoop_framed {s : State} {t_ : Fin 32} {q_ : OutStore} (hs : State.Framed q b s) (kf : b.free [Part.pc]) :
    State.Framed q b (State.noteLoop s t_ q_) := by
  unfold State.noteLoop
  with_reducible apply framed_ite
  with_reducible assumption
  with_reducible apply framed_foldl
  intro _ _ _
  extract_lets +onlyGivenNames x; clear_value x
  split
  with_reducible apply State.updOther_framed
  with_reducible assumption
  exact kf.sub rfl
  with_reducible apply State.updOther_framed
  with_reducible assumption
  exact kf.sub rfl
  with_reducible apply State.updOther_framed
  with_reducible assumption
  exact kf.sub rfl
  with_reducible apply State.updOther_framed
  with_reducible assumption
  exact kf.sub rfl
  with_reducible apply State.updOther_framed
  with_reducible assumption
  exact kf.sub rfl
  with_reducible apply State.updOther_framed
  with_reducible assumption
  exact kf.sub rfl
  split
  with_reducible apply State.otherRef_framed
  with_reducible assumption
  exact kf.sub rfl
  with_reducible assumption
  extract_lets +onlyGivenNames x; clear_value x
  with_reducible apply framed_ite
  with_reducible apply State.updOther_framed
  with_reducible assumption
  exact kf.sub rfl
  with_reducible assumption
  with_reducible assumption
  with_reducible assumption

theorem State.noteOutput_framed {s : State} {t_ : Fin 32} {q_ : OutStore} (hs : State.Framed q b s) (kf : b.free [Part.pc]) :
    State.Framed q b (State.noteOutput s t_ q_) := by
  unfold State.noteOutput
  extract_lets +onlyGivenNames x; clear_value x
  extract_lets +onlyGivenNames x; clear_value x
  with_reducible apply framed_ite
  with_reducible apply State.updPc_framed
  with_reducible assumption
  exact kf.sub rfl
  with_reducible assumption

theorem State.notePost_framed {s : State} {t_ : Fin 32} {q_ : OutStore} (hs : State.Framed q b s) (kf : b.free [Part.pc]) :
    State.Framed q b (State.notePost s t_ q_) := by
  unfold State.notePost
  split
  with_reducible apply State.posted_framed
  with_reducible assumption
  exact kf.sub rfl
  with_reducible apply State.posted_framed
  with_reducible assumption
  exact kf.sub rfl
  with_reducible apply State.posted_framed
  with_reducible assumption
  exact kf.sub rfl
  with_reducible apply State.posted_framed
  with_reducible assumption
  exact kf.sub rfl
  with_reducible apply State.posted_framed
  with_reducible assumption
  exact kf.sub rfl
  with_reducible apply State.posted_framed
  with_reducible assumption
  exact kf.sub rfl
  with_reducible apply State.posted_framed
  with_reducible assumption
  exact kf.sub rfl
  with_reducible apply State.posted_framed
  with_reducible assumption
  exact kf.sub rfl
  with_reducible assumption

theorem State.storeOut_framed {s : State} {t_ : Fin 32} {a : Nat} {ws : List Word} (hs : State.Framed q b s) (kf :
    b.free (regParts ++ [Part.now, Part.mem, Part.fresh, Part.seq, Part.time, Part.pulses, Part.lk, Part.evts, Part.ports, Part.axes, Part.sdclk, Part.fbs, Part.loops, Part.arms, Part.kiln, Part.tiles, Part.stk, Part.pc, Part.ic, Part.si, Part.eth, Part.chain, Part.mb, Part.boot])) :
  ∀ t, s.storeOut t_ a ws = some t → State.Framed q b t := by
  unfold State.storeOut
  refine opt_foldl ?_ (opt_some hs)
  intro o x h
  cases o with
  | none => exact opt_none
  | some u =>
    refine opt_map (opt_imp (State.fabricWrite_framed (h u rfl) (kf.sub rfl)) ?_)
    intro v hv
    exact framed_ite (State.mput_framed hv (kf.sub rfl)) hv

theorem State.drainStore_framed {s : State} {t_ : Fin 32} {q_ : OutStore} {rest : List OutStore} {cycles : Nat} {error : Bool}
  (hs : State.Framed q b s) (kf : b.free (regParts ++ [Part.now, Part.mem, Part.fresh, Part.seq, Part.time, Part.pulses, Part.lk, Part.evts, Part.ports, Part.axes, Part.sdclk, Part.fbs, Part.loops, Part.arms, Part.kiln, Part.tiles, Part.stk, Part.pc, Part.ic, Part.si, Part.eth, Part.chain, Part.mb, Part.boot])) :
    State.Framed q b (s.drainStore t_ q_ rest cycles error) := by
  unfold State.drainStore
  extract_lets src s1 s2
  have h : State.Framed q b s2 := State.noteLoop_framed (State.notePost_framed (State.noteOutput_framed (State.signStore_framed (State.setTile_framed hs (kf.sub rfl)) (kf.sub rfl)) (kf.sub rfl)) (kf.sub rfl)) (kf.sub rfl)
  have h3 : ∀ u, (if error then none else s2.storeOut t_ q_.addr q_.words) = some u → State.Framed q b u := opt_ite opt_none (State.storeOut_framed h (kf.sub rfl))
  clear_value s2 s1
  split
  · rename_i u e
    exact State.takeStore_framed (h3 u e) (kf.sub rfl)
  · exact State.takeStore_framed (State.tileFault_framed h (kf.sub rfl)) (kf.sub rfl)

theorem execOutsideStoreDrain_framed {t_ : Fin 32} {cycles : Nat} {error : Bool} {s : State} (hs : State.Framed q b s) (kf : b.free (regParts ++ [Part.now, Part.mem, Part.fresh, Part.seq, Part.time, Part.pulses, Part.lk, Part.evts, Part.ports, Part.axes, Part.sdclk, Part.fbs, Part.loops, Part.arms, Part.kiln, Part.tiles, Part.stk, Part.pc, Part.ic, Part.si, Part.eth, Part.chain, Part.mb, Part.boot])) :
    answers (execOutsideStoreDrain t_ cycles error s) (State.Framed q b) := by
  unfold execOutsideStoreDrain
  split
  with_reducible apply answers_next
  with_reducible assumption
  extract_lets +onlyGivenNames x; clear_value x
  extract_lets +onlyGivenNames x; clear_value x
  with_reducible apply answers_ite
  with_reducible apply answers_next
  with_reducible assumption
  with_reducible apply answers_ite
  with_reducible apply answers_next
  with_reducible apply State.stkRelease_framed
  with_reducible assumption
  exact kf.sub rfl
  with_reducible apply answers_next
  with_reducible apply State.drainStore_framed
  with_reducible assumption
  exact kf.sub rfl

end Sys2Proof.Machine

/-! Plane switches, updates, power, boot and the mailbox commands keep what `State.Framed` says: one lemma per operation. -/

namespace Sys2Proof.Machine

open Sys2Proof

variable {q : List Instr} {b : Kept}

theorem State.actOnPending_framed {s : State} {p : Fin 2} (hs : State.Framed q b s) (kf : b.free (regParts ++ [Part.now, Part.mem, Part.fresh, Part.seq, Part.time, Part.pulses, Part.lk, Part.evts, Part.ports, Part.axes, Part.sdclk, Part.fbs, Part.loops, Part.arms, Part.kiln, Part.tiles, Part.stk, Part.pc, Part.ic, Part.si, Part.eth, Part.chain, Part.mb, Part.boot])) :
    State.Framed q b (s.actOnPending p) := by
  unfold State.actOnPending
  extract_lets mine s1 s2 ended s3
  have h1 : State.Framed q b s1 := State.updPc_framed hs (kf.sub rfl)
  have h2 : State.Framed q b s2 := framed_foldl (fun s e h => framed_getD (State.storeOut_framed h (kf.sub rfl)) h) h1
  have h3 : State.Framed q b s3 := framed_foldl (fun s x h => State.finishRun_framed h (kf.sub rfl)) h2
  exact framed_foldl (fun s t h => framed_ite (State.icTakeUp_framed h (kf.sub rfl)) h) h3

theorem State.switchTo_framed {s : State} {p : Fin 2} {cause : Nat} {unconf : Bool} (hs : State.Framed q b s) (kf : b.free (regParts ++ [Part.now, Part.mem, Part.fresh, Part.seq, Part.time, Part.pulses, Part.lk, Part.evts, Part.ports, Part.axes, Part.sdclk, Part.fbs, Part.loops, Part.arms, Part.kiln, Part.tiles, Part.stk, Part.pc, Part.ic, Part.si, Part.eth, Part.chain, Part.mb, Part.boot])) :
    State.Framed q b (State.switchTo s p cause unconf) := by
  unfold State.switchTo
  extract_lets +onlyGivenNames x; refine (fun (hx : State.Framed q b x) => ?_) ?_ <;> [(try clear_value x); subst x]
  extract_lets +onlyGivenNames x; refine (fun (hx : State.Framed q b x) => ?_) ?_ <;> [(try clear_value x); subst x]
  extract_lets +onlyGivenNames x; refine (fun (hx : State.Framed q b x) => ?_) ?_ <;> [(try clear_value x); subst x]
  extract_lets +onlyGivenNames x; refine (fun (hx : State.Framed q b x) => ?_) ?_ <;> [(try clear_value x); subst x]
  with_reducible apply State.icUnmark_framed
  with_reducible apply State.actOnPending_framed
  with_reducible apply State.loopTableOf_framed
  with_reducible apply State.updPc_framed
  with_reducible assumption
  exact kf.sub rfl
  exact kf.sub rfl
  exact kf.sub rfl
  exact kf.sub rfl
  with_reducible apply State.putB_framed
  with_reducible assumption
  exact kf.get rfl
  with_reducible apply State.put_framed
  with_reducible apply State.put_framed
  with_reducible apply State.put_framed
  with_reducible assumption
  exact kf.get rfl
  exact kf.get rfl
  exact kf.get rfl
  with_reducible apply State.bump_framed
  with_reducible assumption
  exact kf.get rfl
  with_reducible apply State.put_framed
  with_reducible apply State.setPlane_framed
  with_reducible assumption
  exact kf.sub rfl
  exact kf.get rfl

theorem State.reloadPlane_framed {s : State} {p : Fin 2} {k : Fin 2} (hs : State.Framed q b s) (kf : b.free [Part.reg RegGroup.pc, Part.tiles, Part.pc, Part.ic, Part.boot]) :
    State.Framed q b (State.reloadPlane s p k) := by
  unfold State.reloadPlane
  with_reducible apply State.planeTest_framed
  with_reducible apply State.setRuns_framed
  with_reducible apply State.planeDown_framed
  with_reducible assumption
  exact kf.sub rfl
  exact kf.sub rfl
  exact kf.sub rfl

theorem State.updSwitched_framed {s : State} {p : Fin 2} (hs : State.Framed q b s) (kf : b.free (postParts ++ [Part.reg RegGroup.pc, Part.tiles, Part.pc, Part.ic, Part.boot])) :
    State.Framed q b (State.updSwitched s p) := by
  unfold State.updSwitched
  extract_lets +onlyGivenNames x; clear_value x
  extract_lets +onlyGivenNames x; clear_value x
  extract_lets +onlyGivenNames x; clear_value x
  with_reducible apply framed_ite
  with_reducible assumption
  with_reducible apply framed_ite
  with_reducible apply State.startWindow_framed
  with_reducible apply State.updUpd_framed
  with_reducible assumption
  exact kf.sub rfl
  exact kf.sub rfl
  with_reducible apply framed_ite
  with_reducible apply State.setPhase_framed
  with_reducible apply State.updUpd_framed
  with_reducible assumption
  exact kf.sub rfl
  exact kf.sub rfl
  with_reducible apply framed_ite
  with_reducible apply State.setPhase_framed
  with_reducible apply State.updUpd_framed
  with_reducible apply State.setDir_framed
  with_reducible apply State.reloadPlane_framed
  with_reducible assumption
  exact kf.sub rfl
  exact kf.sub rfl
  exact kf.sub rfl
  exact kf.sub rfl
  with_reducible assumption

theorem State.updReturn_framed {s : State} (hs : State.Framed q b s) (kf : b.free [Part.boot]) : State.Framed q b (State.updReturn s) := by
  unfold State.updReturn
  with_reducible apply framed_ite
  with_reducible apply State.updUpd_framed
  with_reducible assumption
  exact kf.sub rfl
  with_reducible assumption

theorem State.updDropped_framed {s : State} (hs : State.Framed q b s) (kf : b.free (postParts ++ [Part.boot])) :
    State.Framed q b (State.updDropped s) := by
  unfold State.updDropped
  extract_lets +onlyGivenNames x; clear_value x
  extract_lets +onlyGivenNames x; clear_value x
  with_reducible apply State.setPhase_framed
  with_reducible apply State.updUpd_framed
  with_reducible apply State.setDir_framed
  with_reducible apply State.setRuns_framed
  with_reducible assumption
  exact kf.sub rfl
  exact kf.sub rfl
  exact kf.sub rfl
  exact kf.sub rfl

theorem State.plannedHandover_framed {s : State} (hs : State.Framed q b s) (kf : b.free (regParts ++ [Part.now, Part.mem, Part.fresh, Part.seq, Part.time, Part.pulses, Part.lk, Part.evts, Part.ports, Part.axes, Part.sdclk, Part.fbs, Part.loops, Part.arms, Part.kiln, Part.tiles, Part.stk, Part.pc, Part.ic, Part.si, Part.eth, Part.chain, Part.mb, Part.boot])) :
    State.Framed q b (State.plannedHandover s) := by
  unfold State.plannedHandover
  extract_lets +onlyGivenNames x; clear_value x
  split
  with_reducible assumption
  extract_lets +onlyGivenNames x; subst x
  extract_lets +onlyGivenNames x; refine (fun (hx : State.Framed q b x) => ?_) ?_ <;> [(try clear_value x); subst x]
  with_reducible apply framed_ite
  with_reducible apply State.updSwitched_framed
  with_reducible apply State.updPc_framed
  with_reducible assumption
  exact kf.sub rfl
  exact kf.sub rfl
  with_reducible assumption
  with_reducible apply State.switchTo_framed
  with_reducible apply State.setPlane_framed
  with_reducible assumption
  exact kf.sub rfl
  exact kf.sub rfl

theorem State.planeGivesUp_framed {s : State} {p : Fin 2} (hs : State.Framed q b s) (kf : b.free (postParts ++ [Part.reg RegGroup.pc, Part.tiles, Part.pc, Part.ic, Part.boot])) :
    State.Framed q b (State.planeGivesUp s p) := by
  unfold State.planeGivesUp
  extract_lets +onlyGivenNames x; clear_value x
  extract_lets +onlyGivenNames x; refine (fun (hx : State.Framed q b x) => ?_) ?_ <;> [(try clear_value x); subst x]
  extract_lets +onlyGivenNames x; refine (fun (hx : State.Framed q b x) => ?_) ?_ <;> [(try clear_value x); subst x]
  extract_lets +onlyGivenNames x; refine (fun (hx : State.Framed q b x) => ?_) ?_ <;> [(try clear_value x); subst x]
  with_reducible apply framed_ite
  with_reducible apply framed_ite
  with_reducible apply State.updDropped_framed
  with_reducible assumption
  exact kf.sub rfl
  with_reducible apply State.updReturn_framed
  with_reducible assumption
  exact kf.sub rfl
  with_reducible assumption
  with_reducible apply State.updPc_framed
  with_reducible apply State.planeDown_framed
  with_reducible assumption
  exact kf.sub rfl
  exact kf.sub rfl
  with_reducible apply State.post_framed
  with_reducible assumption
  exact kf.sub rfl
  with_reducible apply State.wr_framed
  with_reducible assumption
  (with_reducible rw [healthReg_group]); exact kf.get rfl

theorem State.giveUps_framed {s : State} {ps : List (Fin 2)} (hs : State.Framed q b s) (kf : b.free (regParts ++ [Part.now, Part.mem, Part.fresh, Part.seq, Part.time, Part.pulses, Part.lk, Part.evts, Part.ports, Part.axes, Part.sdclk, Part.fbs, Part.loops, Part.arms, Part.kiln, Part.tiles, Part.stk, Part.pc, Part.ic, Part.si, Part.eth, Part.chain, Part.mb, Part.boot])) :
    State.Framed q b (State.giveUps s ps) := by
  unfold State.giveUps
  extract_lets +onlyGivenNames x; refine (fun (hx : State.Framed q b x) => ?_) ?_ <;> [(try clear_value x); subst x]
  extract_lets +onlyGivenNames x; clear_value x
  extract_lets +onlyGivenNames x; clear_value x
  extract_lets +onlyGivenNames x; clear_value x
  extract_lets +onlyGivenNames x; refine (fun (hx : State.Framed q b x) => ?_) ?_ <;> [(try clear_value x); subst x]
  extract_lets +onlyGivenNames x; clear_value x
  extract_lets +onlyGivenNames x; clear_value x
  extract_lets +onlyGivenNames x; refine (fun (hx : State.Framed q b x) => ?_) ?_ <;> [(try clear_value x); subst x]
  extract_lets +onlyGivenNames x; refine (fun (hx : State.Framed q b x) => ?_) ?_ <;> [(try clear_value x); subst x]
  with_reducible apply framed_foldl
  intro _ _ _
  with_reducible apply framed_ite
  with_reducible apply State.planeTest_framed
  with_reducible assumption
  exact kf.sub rfl
  with_reducible assumption
  with_reducible assumption
  with_reducible apply framed_ite
  with_reducible apply framed_ite
  with_reducible apply State.updSwitched_framed
  with_reducible apply State.switchTo_framed
  with_reducible assumption
  exact kf.sub rfl
  exact kf.sub rfl
  with_reducible apply State.noPlane_framed
  with_reducible assumption
  exact kf.sub rfl
  with_reducible assumption
  with_reducible apply State.updPc_framed
  with_reducible assumption
  exact kf.sub rfl
  with_reducible apply framed_foldl
  intro _ _ _
  with_reducible apply State.planeGivesUp_framed
  with_reducible assumption
  exact kf.sub rfl
  with_reducible assumption
  with_reducible apply State.advance_framed
  with_reducible assumption
  exact kf.sub rfl

theorem execTaskFaultReport_framed {t_ : Fin 16} {s : State} (hs : State.Framed q b s) (kf : b.free (regParts ++ [Part.now, Part.mem, Part.fresh, Part.seq, Part.time, Part.pulses, Part.lk, Part.evts, Part.ports, Part.axes, Part.sdclk, Part.fbs, Part.loops, Part.arms, Part.kiln, Part.tiles, Part.stk, Part.pc, Part.ic, Part.si, Part.eth, Part.chain, Part.mb, Part.boot])) :
    answers (execTaskFaultReport t_ s) (State.Framed q b) := by
  unfold execTaskFaultReport
  extract_lets +onlyGivenNames x; clear_value x
  extract_lets +onlyGivenNames x; clear_value x
  extract_lets +onlyGivenNames x; refine (fun (hx : State.Framed q b x) => ?_) ?_ <;> [(try clear_value x); subst x]
  split
  with_reducible apply answers_next
  with_reducible assumption
  with_reducible apply answers_ite
  with_reducible apply answers_next
  with_reducible assumption
  with_reducible apply answers_ite
  with_reducible apply answers_next
  with_reducible apply State.wakeOf_framed
  with_reducible apply State.toRest_framed
  with_reducible apply State.taskRecord_framed
  with_reducible apply State.flag_framed
  with_reducible assumption
  exact kf.get rfl
  exact kf.sub rfl
  exact kf.sub rfl
  exact kf.sub rfl
  with_reducible apply answers_next
  with_reducible apply State.giveUps_framed
  with_reducible apply State.setHealth_framed
  with_reducible apply State.setTask_framed
  with_reducible assumption
  exact kf.sub rfl
  exact kf.sub rfl
  exact kf.sub rfl
  with_reducible apply framed_foldl
  intro _ _ _
  extract_lets +onlyGivenNames x; clear_value x
  with_reducible apply State.mishap_framed
  with_reducible apply State.setTask_framed
  with_reducible apply State.popEnd_framed
  with_reducible assumption
  exact kf.sub rfl
  exact kf.sub rfl
  exact kf.sub rfl
  with_reducible assumption

theorem State.eccError_framed {s : State} {u : Fin 32} {words : List Nat} (hs : State.Framed q b s) (kf : b.free [Part.reg RegGroup.ic, Part.tiles, Part.stk, Part.ic]) :
    State.Framed q b (State.eccError s u words) := by
  unfold State.eccError
  extract_lets +onlyGivenNames x; clear_value x
  extract_lets +onlyGivenNames x; refine (fun (hx : State.Framed q b x) => ?_) ?_ <;> [(try clear_value x); subst x]
  split
  extract_lets +onlyGivenNames x; clear_value x
  with_reducible apply State.setTask_framed
  with_reducible apply State.tileFault_framed
  with_reducible assumption
  exact kf.sub rfl
  exact kf.sub rfl
  with_reducible assumption
  with_reducible apply State.setTile_framed
  with_reducible assumption
  exact kf.sub rfl

theorem execPlaneSelfFault_framed {pl : Fin 2} {k : PlaneFault} {tile : Option (Fin 16)} {words : List Nat} {other : Option PlaneFault} {t_ : Nat} {s : State} (hs : State.Framed q b s) (kf : b.free (regParts ++ [Part.now, Part.mem, Part.fresh, Part.seq, Part.time, Part.pulses, Part.lk, Part.evts, Part.ports, Part.axes, Part.sdclk, Part.fbs, Part.loops, Part.arms, Part.kiln, Part.tiles, Part.stk, Part.pc, Part.ic, Part.si, Part.eth, Part.chain, Part.mb, Part.boot])) :
    answers (execPlaneSelfFault pl k tile words other t_ s) (State.Framed q b) := by
  unfold execPlaneSelfFault
  extract_lets +onlyGivenNames x; refine (fun (hx : State.Framed q b x) => ?_) ?_ <;> [(try clear_value x); subst x]
  extract_lets +onlyGivenNames x; refine (fun (hx : State.Framed q b x) => ?_) ?_ <;> [(try clear_value x); subst x]
  extract_lets +onlyGivenNames x; clear_value x
  extract_lets +onlyGivenNames x; clear_value x
  extract_lets +onlyGivenNames x; clear_value x
  extract_lets +onlyGivenNames x; clear_value x
  extract_lets +onlyGivenNames x; refine (fun (hx : State.Framed q b x) => ?_) ?_ <;> [(try clear_value x); subst x]
  extract_lets +onlyGivenNames x; refine (fun (hx : State.Framed q b x) => ?_) ?_ <;> [(try clear_value x); subst x]
  with_reducible apply answers_next
  with_reducible apply framed_ite
  with_reducible assumption
  with_reducible apply State.giveUps_framed
  with_reducible assumption
  exact kf.sub rfl
  with_reducible apply framed_foldl
  intro _ _ _
  with_reducible apply State.bootPlanes_framed
  with_reducible apply State.planeDown_framed
  with_reducible assumption
  exact kf.sub rfl
  exact kf.sub rfl
  with_reducible assumption
  with_reducible apply framed_foldl
  intro _ _ _
  with_reducible apply State.setHealth_framed
  with_reducible assumption
  exact kf.sub rfl
  with_reducible assumption
  split
  with_reducible apply State.eccError_framed
  extract_lets +onlyGivenNames x; refine (fun (hx : State.Framed q b x) => ?_) ?_ <;> [(try clear_value x); subst x]
  with_reducible assumption
  with_reducible assumption
  exact kf.sub rfl
  with_reducible assumption
  with_reducible apply State.advance_framed
  with_reducible assumption
  exact kf.sub rfl

theorem execPlaneGiveupAtPort_framed {n : Fin 64} {s : State} (hs : State.Framed q b s) (kf : b.free [Part.reg RegGroup.pc, Part.now, Part.ports, Part.pc]) :
    answers (execPlaneGiveupAtPort n s) (State.Framed q b) := by
  unfold execPlaneGiveupAtPort
  extract_lets +onlyGivenNames x; clear_value x
  extract_lets +onlyGivenNames x; refine (fun (hx : State.Framed q b x) => ?_) ?_ <;> [(try clear_value x); subst x]
  extract_lets +onlyGivenNames x; clear_value x
  extract_lets +onlyGivenNames x; clear_value x
  with_reducible apply answers_ite
  split
  with_reducible apply answers_next
  with_reducible apply State.setPort_framed
  with_reducible assumption
  exact kf.sub rfl
  extract_lets +onlyGivenNames x; refine (fun (hx : State.Framed q b x) => ?_) ?_ <;> [(try clear_value x); subst x]
  with_reducible apply answers_next
  with_reducible apply framed_ite
  with_reducible apply State.put_framed
  with_reducible apply State.bump_framed
  with_reducible assumption
  exact kf.get rfl
  exact kf.get rfl
  with_reducible assumption
  with_reducible apply State.setPort_framed
  with_reducible assumption
  exact kf.sub rfl
  with_reducible apply answers_next
  with_reducible assumption
  with_reducible apply State.updPc_framed
  with_reducible apply State.advance_framed
  with_reducible assumption
  exact kf.sub rfl
  exact kf.sub rfl

theorem execTransferTimeout_framed {pl : Fin 2} {s : State} (hs : State.Framed q b s) (kf : b.free (regParts ++ [Part.now, Part.mem, Part.fresh, Part.seq, Part.time, Part.pulses, Part.lk, Part.evts, Part.ports, Part.axes, Part.sdclk, Part.fbs, Part.loops, Part.arms, Part.kiln, Part.tiles, Part.stk, Part.pc, Part.ic, Part.si, Part.eth, Part.chain, Part.mb, Part.boot])) :
    answers (execTransferTimeout pl s) (State.Framed q b) := by
  unfold execTransferTimeout
  with_reducible apply answers_ite
  with_reducible apply answers_next
  with_reducible apply State.giveUps_framed
  with_reducible apply State.setHealth_framed
  with_reducible apply State.advance_framed
  with_reducible assumption
  exact kf.sub rfl
  exact kf.sub rfl
  exact kf.sub rfl
  with_reducible apply answers_next
  with_reducible assumption

theorem execExtTestDone_framed {a : Option PlaneFault} {b_ : Option PlaneFault} {s : State} (hs : State.Framed q b s) (kf : b.free (regParts ++ [Part.now, Part.mem, Part.fresh, Part.seq, Part.time, Part.pulses, Part.lk, Part.evts, Part.ports, Part.axes, Part.sdclk, Part.fbs, Part.loops, Part.arms, Part.kiln, Part.tiles, Part.stk, Part.pc, Part.ic, Part.si, Part.eth, Part.chain, Part.mb, Part.boot])) :
    answers (execExtTestDone a b_ s) (State.Framed q b) := by
  unfold execExtTestDone
  extract_lets +onlyGivenNames x; refine (fun (hx : State.Framed q b x) => ?_) ?_ <;> [(try clear_value x); subst x]
  with_reducible apply answers_ite
  split
  with_reducible apply answers_next
  with_reducible apply State.put_framed
  with_reducible apply State.post_framed
  with_reducible apply State.flag_framed
  with_reducible assumption
  exact kf.get rfl
  exact kf.sub rfl
  exact kf.get rfl
  with_reducible apply execPlaneSelfFault_framed
  with_reducible assumption
  exact kf.sub rfl
  with_reducible apply execPlaneSelfFault_framed
  with_reducible assumption
  exact kf.sub rfl
  with_reducible apply execPlaneSelfFault_framed
  with_reducible assumption
  exact kf.sub rfl
  with_reducible apply answers_next
  with_reducible assumption
  with_reducible apply State.put_framed
  with_reducible assumption
  exact kf.get rfl

theorem State.transferJoin_framed {s : State} {k : Nat} {pl : Fin 2} (hs : State.Framed q b s) (kf : b.free (regParts ++ [Part.now, Part.mem, Part.fresh, Part.seq, Part.time, Part.pulses, Part.lk, Part.evts, Part.ports, Part.axes, Part.sdclk, Part.fbs, Part.loops, Part.arms, Part.kiln, Part.tiles, Part.stk, Part.pc, Part.ic, Part.si, Part.eth, Part.chain, Part.mb, Part.boot])) :
    State.Framed q b (State.transferJoin s k pl) := by
  unfold State.transferJoin
  extract_lets +onlyGivenNames x; refine (fun (hx : State.Framed q b x) => ?_) ?_ <;> [(try clear_value x); subst x]
  extract_lets +onlyGivenNames x; refine (fun (hx : State.Framed q b x) => ?_) ?_ <;> [(try clear_value x); subst x]
  extract_lets +onlyGivenNames x; refine (fun (hx : State.Framed q b x) => ?_) ?_ <;> [(try clear_value x); subst x]
  extract_lets +onlyGivenNames x; refine (fun (hx : State.Framed q b x) => ?_) ?_ <;> [(try clear_value x); subst x]
  with_reducible apply framed_ite
  with_reducible apply framed_ite
  with_reducible apply State.switchTo_framed
  with_reducible apply State.put_framed
  with_reducible assumption
  exact kf.get rfl
  exact kf.sub rfl
  with_reducible assumption
  with_reducible assumption
  with_reducible apply State.updPc_framed
  with_reducible apply State.wr_framed
  with_reducible apply State.lbistStart_framed
  with_reducible apply State.setPlane_framed
  with_reducible assumption
  exact kf.sub rfl
  exact kf.sub rfl
  exact kf.get rfl
  exact kf.sub rfl
  with_reducible apply framed_foldl
  intro _ _ _
  split
  with_reducible apply State.setTask_framed
  with_reducible assumption
  exact kf.sub rfl
  with_reducible assumption
  with_reducible assumption
  with_reducible apply framed_foldl
  intro _ _ _
  extract_lets +onlyGivenNames x; clear_value x
  with_reducible apply State.setTile_framed
  with_reducible assumption
  exact kf.sub rfl
  with_reducible assumption
  with_reducible apply State.copyPlane_framed
  with_reducible assumption
  exact kf.sub rfl

theorem execUpdBegin_framed {k : Fin 16} {s : State} (hs : State.Framed q b s) (kf : b.free (postParts ++ [Part.mb, Part.boot])) :
    answers (execUpdBegin k s) (State.Framed q b) := by
  unfold execUpdBegin
  with_reducible apply answers_next
  with_reducible apply State.runCmd_framed
  with_reducible assumption
  intro _ _ _
  extract_lets +onlyGivenNames x; clear_value x
  extract_lets +onlyGivenNames x; clear_value x
  extract_lets +onlyGivenNames x; refine (fun (hx : State.Framed q b x) => ?_) ?_ <;> [(try clear_value x); subst x]
  extract_lets +onlyGivenNames x; refine (fun (hx : State.Framed q b x) => ?_) ?_ <;> [(try clear_value x); subst x]
  split
  simp -zeta only
  with_reducible assumption
  split
  simp -zeta only
  with_reducible assumption
  simp -zeta only
  with_reducible apply State.setPhase_framed
  with_reducible assumption
  exact kf.sub rfl
  with_reducible apply State.setDir_framed
  with_reducible assumption
  exact kf.sub rfl
  with_reducible apply State.updUpd_framed
  with_reducible assumption
  exact kf.sub rfl
  exact kf.sub rfl

theorem execUpdData_framed {k : Fin 16} {s : State} (hs : State.Framed q b s) (kf :
    b.free [Part.mb, Part.boot]) :
  answers (execUpdData k s) (State.Framed q b) := by
  unfold execUpdData
  refine answers_next (State.runCmd_framed hs ?_ (kf.sub rfl))
  intro s x h
  dsimp only
  split
  · exact h
  · split
    · exact h
    · exact State.updUpd_framed (framed_updBoot h (fun _ e => e) (kf.sub rfl)) (kf.sub rfl)

theorem execUpdVerify_framed {k : Fin 16} {s : State} (hs : State.Framed q b s) (kf : b.free [Part.mb, Part.boot]) :
    answers (execUpdVerify k s) (State.Framed q b) := by
  unfold execUpdVerify
  extract_lets +onlyGivenNames x; clear_value x
  with_reducible apply answers_ite
  with_reducible apply answers_ite
  with_reducible apply answers_next
  with_reducible apply framed_ite
  with_reducible assumption
  with_reducible apply State.updUpd_framed
  with_reducible assumption
  exact kf.sub rfl
  with_reducible apply answers_next
  with_reducible apply State.setOut_framed
  with_reducible assumption
  exact kf.sub rfl
  with_reducible apply answers_next
  with_reducible assumption

theorem execImageVerified_framed {s : State} (hs : State.Framed q b s) (kf : b.free (postParts ++ [Part.now, Part.mb, Part.boot])) :
    answers (execImageVerified s) (State.Framed q b) := by
  unfold execImageVerified
  extract_lets +onlyGivenNames x; clear_value x
  extract_lets +onlyGivenNames x; clear_value x
  split
  with_reducible apply answers_next
  with_reducible assumption
  extract_lets +onlyGivenNames x; refine (fun (hx : State.Framed q b x) => ?_) ?_ <;> [(try clear_value x); subst x]
  with_reducible apply answers_ite
  with_reducible apply answers_next
  with_reducible assumption
  with_reducible apply answers_ite
  with_reducible apply answers_next
  with_reducible apply State.setOut_framed
  with_reducible apply State.setPhase_framed
  with_reducible assumption
  exact kf.sub rfl
  exact kf.sub rfl
  with_reducible apply answers_next
  with_reducible apply State.setOut_framed
  with_reducible assumption
  exact kf.sub rfl
  with_reducible apply State.updUpd_framed
  with_reducible apply State.advance_framed
  with_reducible assumption
  exact kf.sub rfl
  exact kf.sub rfl

theorem State.showZver_framed {s : State} {k : Fin 2} (hs : State.Framed q b s) (kf : b.free [Part.reg RegGroup.hm]) :
    State.Framed q b (State.showZver s k) := by
  unfold State.showZver
  with_reducible apply State.wr_framed
  with_reducible assumption
  exact kf.get rfl

theorem State.reloadBoth_framed {s : State} {k : Fin 2} (hs : State.Framed q b s) (kf : b.free [Part.reg RegGroup.pc, Part.tiles, Part.pc, Part.ic, Part.boot]) :
    State.Framed q b (State.reloadBoth s k) := by
  unfold State.reloadBoth
  with_reducible apply State.updPc_framed
  with_reducible apply State.reloadPlane_framed
  with_reducible apply State.reloadPlane_framed
  with_reducible assumption
  exact kf.sub rfl
  exact kf.sub rfl
  exact kf.sub rfl

theorem State.startActivation_framed {s : State} (hs : State.Framed q b s) (kf : b.free (postParts ++ [Part.reg RegGroup.tb, Part.reg RegGroup.ch, Part.reg RegGroup.pc, Part.time, Part.tiles, Part.pc, Part.ic, Part.chain, Part.boot])) :
    State.Framed q b (State.startActivation s) := by
  unfold State.startActivation
  extract_lets +onlyGivenNames x; clear_value x
  extract_lets +onlyGivenNames x; clear_value x
  extract_lets +onlyGivenNames x; refine (fun (hx : State.Framed q b x) => ?_) ?_ <;> [(try clear_value x); subst x]
  extract_lets +onlyGivenNames x; clear_value x
  split
  with_reducible apply framed_ite
  with_reducible apply State.reloadPlane_framed
  with_reducible apply State.updUpd_framed
  with_reducible assumption
  exact kf.sub rfl
  exact kf.sub rfl
  with_reducible apply State.reloadBoth_framed
  with_reducible apply State.updUpd_framed
  with_reducible assumption
  exact kf.sub rfl
  exact kf.sub rfl
  with_reducible apply framed_ite
  with_reducible apply State.reloadPlane_framed
  with_reducible apply State.updUpd_framed
  with_reducible assumption
  exact kf.sub rfl
  exact kf.sub rfl
  with_reducible apply State.reloadBoth_framed
  with_reducible apply State.updUpd_framed
  with_reducible assumption
  exact kf.sub rfl
  exact kf.sub rfl
  with_reducible apply State.startWindow_framed
  with_reducible apply State.setRunsAll_framed
  with_reducible apply framed_ite
  with_reducible apply State.toListen_framed
  with_reducible assumption
  exact kf.sub rfl
  with_reducible assumption
  exact kf.sub rfl
  exact kf.sub rfl
  with_reducible apply State.updUpd_framed
  with_reducible assumption
  exact kf.sub rfl
  with_reducible apply State.setPhase_framed
  with_reducible apply State.setDir_framed
  with_reducible assumption
  exact kf.sub rfl
  exact kf.sub rfl

theorem execUpdActivate_framed {k : Fin 16} {s : State} (hs : State.Framed q b s) (kf : b.free (postParts ++ [Part.reg RegGroup.tb, Part.reg RegGroup.ch, Part.reg RegGroup.pc, Part.time, Part.tiles, Part.pc, Part.ic, Part.chain, Part.mb, Part.boot])) :
    answers (execUpdActivate k s) (State.Framed q b) := by
  unfold execUpdActivate
  extract_lets +onlyGivenNames x; clear_value x
  extract_lets +onlyGivenNames x; refine (fun (hx : State.Framed q b x) => ?_) ?_ <;> [(try clear_value x); subst x]
  with_reducible apply answers_ite
  with_reducible apply answers_ite
  with_reducible apply answers_next
  with_reducible apply State.setOut_framed
  with_reducible assumption
  exact kf.sub rfl
  with_reducible apply answers_ite
  with_reducible apply answers_ite
  with_reducible apply answers_next
  with_reducible apply State.updBoot_framed
  with_reducible apply State.updUpd_framed
  with_reducible assumption
  exact kf.sub rfl
  rfl
  exact kf.sub rfl
  with_reducible apply answers_next
  with_reducible apply State.startWindow_framed
  with_reducible apply State.showZver_framed
  with_reducible apply State.setRunsAll_framed
  with_reducible assumption
  exact kf.sub rfl
  exact kf.sub rfl
  exact kf.sub rfl
  with_reducible apply answers_next
  with_reducible apply State.setOut_framed
  with_reducible apply State.startActivation_framed
  with_reducible assumption
  exact kf.sub rfl
  exact kf.sub rfl
  with_reducible apply answers_next
  with_reducible assumption
  with_reducible apply State.hearthRestart_framed
  with_reducible apply State.setPhase_framed
  with_reducible apply State.setDir_framed
  with_reducible apply State.endSlot_framed
  with_reducible assumption
  exact kf.sub rfl
  exact kf.sub rfl
  exact kf.sub rfl
  exact kf.sub rfl

theorem execUpdStatus_framed {k : Fin 16} {s : State} (hs : State.Framed q b s) (kf : b.free [Part.mb]) :
    answers (execUpdStatus k s) (State.Framed q b) := by
  unfold execUpdStatus
  with_reducible apply answers_next
  with_reducible apply State.runCmd_framed
  with_reducible assumption
  intro _ _ _
  simp -zeta only
  with_reducible assumption
  exact kf.sub rfl

theorem execUpdAbort_framed {k : Fin 16} {s : State} (hs : State.Framed q b s) (kf : b.free (postParts ++ [Part.mb, Part.boot])) :
    answers (execUpdAbort k s) (State.Framed q b) := by
  unfold execUpdAbort
  with_reducible apply answers_next
  with_reducible apply State.runCmd_framed
  with_reducible assumption
  intro _ _ _
  extract_lets +onlyGivenNames x; clear_value x
  extract_lets +onlyGivenNames x; refine (fun (hx : State.Framed q b x) => ?_) ?_ <;> [(try clear_value x); subst x]
  split
  simp -zeta only
  with_reducible apply State.setPhase_framed
  with_reducible assumption
  exact kf.sub rfl
  simp -zeta only
  with_reducible assumption
  with_reducible apply State.updUpd_framed
  with_reducible apply State.setDir_framed
  with_reducible assumption
  exact kf.sub rfl
  exact kf.sub rfl
  exact kf.sub rfl

theorem State.advanceOp_framed {s : State} {t_ : Nat} (hs : State.Framed q b s) (kf : b.free [Part.now]) :
    State.Framed q b (State.advanceOp s t_) := by
  unfold State.advanceOp
  with_reducible apply State.advance_framed
  with_reducible assumption
  exact kf.sub rfl

theorem State.burnRollback_framed {s : State} {c : Fin 6} {n : Nat} (hs : State.Framed q b s) (kf : b.free [Part.reg RegGroup.hm, Part.reg RegGroup.otp, Part.boot]) :
    State.Framed q b (State.burnRollback s c n) := by
  unfold State.burnRollback
  with_reducible apply framed_foldl
  intro _ _ _
  with_reducible apply State.otpBurn_framed
  with_reducible assumption
  exact kf.sub rfl
  with_reducible assumption

theorem State.fallenBack_framed {s : State} (hs : State.Framed q b s) (kf : b.free (postParts ++ [Part.boot])) :
    State.Framed q b (State.fallenBack s) := by
  unfold State.fallenBack
  extract_lets +onlyGivenNames x; clear_value x
  extract_lets +onlyGivenNames x; clear_value x
  with_reducible apply State.setPhase_framed
  with_reducible apply State.updUpd_framed
  with_reducible apply State.setDir_framed
  with_reducible assumption
  exact kf.sub rfl
  exact kf.sub rfl
  exact kf.sub rfl

theorem State.recover_framed {s : State} (hs : State.Framed q b s) (kf : b.free [Part.reg RegGroup.hm, Part.fresh, Part.boot]) :
    State.Framed q b (State.recover s) := by
  unfold State.recover
  with_reducible apply framed_ite
  with_reducible apply State.useFresh_framed
  with_reducible apply State.wr_framed
  with_reducible apply State.updBoot_framed
  with_reducible assumption
  rfl
  exact kf.sub rfl
  exact kf.get rfl
  exact kf.sub rfl
  with_reducible apply State.updBoot_framed
  with_reducible assumption
  rfl
  exact kf.sub rfl

theorem State.restartHearth_framed {s : State} (hs : State.Framed q b s) (kf : b.free [Part.reg RegGroup.ic, Part.reg RegGroup.hm, Part.fresh, Part.mb, Part.boot]) :
    State.Framed q b (State.restartHearth s) := by
  unfold State.restartHearth
  split
  with_reducible apply State.hearthRestart_framed
  with_reducible apply State.showZver_framed
  with_reducible apply State.setRunsAll_framed
  with_reducible assumption
  exact kf.sub rfl
  exact kf.sub rfl
  exact kf.sub rfl
  with_reducible apply State.recover_framed
  with_reducible apply State.hearthRestart_framed
  with_reducible assumption
  exact kf.sub rfl
  exact kf.sub rfl

theorem State.updFails_framed {s : State} (hs : State.Framed q b s) (kf : b.free (postParts ++ [Part.reg RegGroup.tb, Part.reg RegGroup.ch, Part.fresh, Part.time, Part.ic, Part.si, Part.chain, Part.mb, Part.boot])) :
    State.Framed q b (State.updFails s) := by
  have k_si : b.keep .si = false := kf.get rfl
  unfold State.updFails
  extract_lets +onlyGivenNames x; clear_value x
  extract_lets +onlyGivenNames x; clear_value x
  extract_lets +onlyGivenNames x; refine (fun (hx : State.Framed q b x) => ?_) ?_ <;> [(try clear_value x); subst x]
  extract_lets +onlyGivenNames x; clear_value x
  split
  with_reducible apply State.restartHearth_framed
  with_reducible apply State.fallenBack_framed
  with_reducible assumption
  exact kf.sub rfl
  exact kf.sub rfl
  with_reducible apply framed_ite
  with_reducible apply State.updReturn_framed
  with_reducible assumption
  exact kf.sub rfl
  with_reducible apply State.fallenBack_framed
  with_reducible assumption
  exact kf.sub rfl
  with_reducible apply framed_ite
  with_reducible apply State.updReturn_framed
  with_reducible assumption
  exact kf.sub rfl
  with_reducible apply State.fallenBack_framed
  with_reducible assumption
  exact kf.sub rfl
  with_reducible apply State.setRunsAll_framed
  with_reducible apply State.fallenBack_framed
  with_reducible apply framed_ite
  with_reducible apply State.toListen_framed
  with_reducible assumption
  exact kf.sub rfl
  with_reducible assumption
  exact kf.sub rfl
  exact kf.sub rfl
  simp -zeta only [framed_mk, k_si, or_true, true_or]
  with_reducible assumption
  with_reducible apply State.fallenBack_framed
  with_reducible assumption
  exact kf.sub rfl

theorem execUpdFailure_framed {window : Bool} {s : State} (hs : State.Framed q b s) (kf : b.free (postParts ++ [Part.reg RegGroup.tb, Part.reg RegGroup.ch, Part.now, Part.fresh, Part.time, Part.ic, Part.si, Part.chain, Part.mb, Part.boot])) :
    answers (execUpdFailure window s) (State.Framed q b) := by
  unfold execUpdFailure
  with_reducible apply answers_next
  with_reducible apply framed_ite
  with_reducible apply State.updFails_framed
  with_reducible apply framed_ite
  with_reducible apply State.advanceOp_framed
  with_reducible assumption
  exact kf.sub rfl
  with_reducible assumption
  exact kf.sub rfl
  with_reducible assumption

theorem execUpdProvingDone_framed {s : State} (hs : State.Framed q b s) (kf : b.free (postParts ++ [Part.reg RegGroup.tb, Part.reg RegGroup.ch, Part.reg RegGroup.pc, Part.reg RegGroup.otp, Part.now, Part.fresh, Part.time, Part.tiles, Part.pc, Part.ic, Part.si, Part.chain, Part.mb, Part.boot])) :
    answers (execUpdProvingDone s) (State.Framed q b) := by
  unfold execUpdProvingDone
  extract_lets +onlyGivenNames x; clear_value x
  extract_lets +onlyGivenNames x; clear_value x
  extract_lets +onlyGivenNames x; refine (fun (hx : State.Framed q b x) => ?_) ?_ <;> [(try clear_value x); subst x]
  extract_lets +onlyGivenNames x; refine (fun (hx : State.Framed q b x) => ?_) ?_ <;> [(try clear_value x); subst x]
  extract_lets +onlyGivenNames x; clear_value x
  with_reducible apply answers_ite
  with_reducible apply answers_next
  with_reducible assumption
  with_reducible apply answers_ite
  with_reducible apply answers_next
  with_reducible apply State.updFails_framed
  with_reducible assumption
  exact kf.sub rfl
  with_reducible apply answers_ite
  with_reducible apply answers_next
  with_reducible apply State.reloadPlane_framed
  with_reducible apply State.setPhase_framed
  with_reducible apply State.updUpd_framed
  with_reducible assumption
  exact kf.sub rfl
  exact kf.sub rfl
  exact kf.sub rfl
  with_reducible apply answers_next
  with_reducible apply State.setPhase_framed
  with_reducible apply State.updUpd_framed
  with_reducible assumption
  exact kf.sub rfl
  exact kf.sub rfl
  with_reducible apply State.setDir_framed
  with_reducible apply State.burnRollback_framed
  with_reducible assumption
  exact kf.sub rfl
  exact kf.sub rfl
  with_reducible apply State.advanceOp_framed
  with_reducible assumption
  exact kf.sub rfl

theorem execHearthRestart_framed {s : State} (hs : State.Framed q b s) (kf : b.free (postParts ++ [Part.reg RegGroup.tb, Part.reg RegGroup.ch, Part.fresh, Part.time, Part.ic, Part.si, Part.chain, Part.mb, Part.boot])) :
    answers (execHearthRestart s) (State.Framed q b) := by
  unfold execHearthRestart
  with_reducible apply answers_next
  with_reducible apply framed_ite
  with_reducible apply State.updFails_framed
  with_reducible assumption
  exact kf.sub rfl
  with_reducible apply State.hearthRestart_framed
  with_reducible assumption
  exact kf.sub rfl

theorem execSafetyChannelRestartDone_framed {s : State} (hs : State.Framed q b s) (kf : b.free [Part.reg RegGroup.si, Part.si, Part.boot]) :
    answers (execSafetyChannelRestartDone s) (State.Framed q b) := by
  have k_si : b.keep .si = false := kf.get rfl
  unfold execSafetyChannelRestartDone
  extract_lets +onlyGivenNames x; clear_value x
  extract_lets +onlyGivenNames x; clear_value x
  extract_lets +onlyGivenNames x; refine (fun (hx : State.Framed q b x) => ?_) ?_ <;> [(try clear_value x); subst x]
  extract_lets +onlyGivenNames x; refine (fun (hx : State.Framed q b x) => ?_) ?_ <;> [(try clear_value x); subst x]
  with_reducible apply answers_ite
  with_reducible apply answers_next
  with_reducible apply State.updUpd_framed
  with_reducible assumption
  exact kf.sub rfl
  with_reducible apply answers_next
  with_reducible assumption
  with_reducible apply State.put_framed
  with_reducible apply State.timeInputs_framed
  with_reducible assumption
  exact kf.sub rfl
  exact kf.get rfl
  simp -zeta only [framed_mk, k_si, or_true, true_or]
  with_reducible assumption

theorem State.updPwr_framed {s : State} {f : Power → Power} (hs : State.Framed q b s) (kf : b.free [Part.pwr]) :
    State.Framed q b (State.updPwr s f) := by
  have k_pwr : b.keep .pwr = false := kf.get rfl
  unfold State.updPwr
  simp -zeta only [framed_mk, k_pwr, or_true, true_or]
  with_reducible assumption

theorem execKeepaliveTick_framed {high : Bool} {core : Bool} {s : State} (hs : State.Framed q b s) (kf : b.free [Part.now, Part.pwr]) :
    answers (execKeepaliveTick high core s) (State.Framed q b) := by
  unfold execKeepaliveTick
  with_reducible apply answers_next
  with_reducible apply State.updPwr_framed
  with_reducible apply State.advance_framed
  with_reducible assumption
  exact kf.sub rfl
  exact kf.sub rfl

theorem State.kept_framed {s : State} (hs : State.Framed q b s) (kf : b.free (regParts ++ [Part.now, Part.mem, Part.fresh, Part.rdata, Part.ident, Part.seq, Part.time, Part.caps, Part.pulses, Part.lk, Part.evts, Part.pwr, Part.ports, Part.axes, Part.sdclk, Part.filters, Part.fbs, Part.loops, Part.arms, Part.kiln, Part.plannerRan, Part.planDue, Part.tiles, Part.stk, Part.pc, Part.ic, Part.si, Part.eth, Part.chain, Part.claspA, Part.claspB, Part.mb, Part.boot])) :
    State.Framed q b s.kept := by
  refine ⟨hs.1, hs.2.1, hs.2.2.1, hs.2.2.2.1, fun p hp => ?_⟩
  refine Part.same_trans (hs.2.2.2.2 p hp) ?_
  cases p with
  | now | fresh | rdata | pwr => rfl
  | reg g => exact (Kept.free.no (p := .reg g) kf hp (by cases g <;> rfl)).elim
  | _ => exact (kf.no hp rfl).elim

theorem State.enterReset_framed {s : State} {cause : Nat} (hs : State.Framed q b s) (kf : b.free (regParts ++ [Part.now, Part.mem, Part.fresh, Part.rdata, Part.ident, Part.seq, Part.time, Part.caps, Part.pulses, Part.lk, Part.evts, Part.pwr, Part.ports, Part.axes, Part.sdclk, Part.filters, Part.fbs, Part.loops, Part.arms, Part.kiln, Part.plannerRan, Part.planDue, Part.tiles, Part.stk, Part.pc, Part.ic, Part.si, Part.eth, Part.chain, Part.claspA, Part.claspB, Part.mb, Part.boot])) :
    State.Framed q b (State.enterReset s cause) := by
  unfold State.enterReset
  with_reducible apply State.showOtp_framed
  with_reducible apply State.updPwr_framed
  with_reducible apply State.kept_framed
  with_reducible assumption
  exact kf.sub rfl
  exact kf.sub rfl
  exact kf.sub rfl

theorem State.endReset_framed {s : State} (hs : State.Framed q b s) (kf : b.free [Part.pwr]) : State.Framed q b (State.endReset s) := by
  unfold State.endReset
  with_reducible apply State.updPwr_framed
  with_reducible assumption
  exact kf.sub rfl

theorem execPor_framed {t_ : Nat} {kaKept : Bool} {vddKa : Bool} {pfail : Bool} {s : State} (hs : State.Framed q b s) (kf : b.free [Part.now, Part.pwr]) :
    answers (execPor t_ kaKept vddKa pfail s) (State.Framed q b) := by
  unfold execPor
  extract_lets +onlyGivenNames x; refine (fun (hx : State.Framed q b x) => ?_) ?_ <;> [(try clear_value x); subst x]
  with_reducible apply answers_ite
  with_reducible apply answers_next
  with_reducible assumption
  with_reducible apply answers_next
  with_reducible apply framed_ite
  with_reducible apply State.updPwr_framed
  with_reducible assumption
  exact kf.sub rfl
  with_reducible apply State.endReset_framed
  with_reducible assumption
  exact kf.sub rfl
  with_reducible apply State.updPwr_framed
  with_reducible apply State.advance_framed
  with_reducible assumption
  exact kf.sub rfl
  exact kf.sub rfl

theorem execBrownout_framed {t_ : Nat} {s : State} (hs : State.Framed q b s) (kf : b.free (regParts ++ [Part.now, Part.mem, Part.fresh, Part.rdata, Part.ident, Part.seq, Part.time, Part.caps, Part.pulses, Part.lk, Part.evts, Part.pwr, Part.ports, Part.axes, Part.sdclk, Part.filters, Part.fbs, Part.loops, Part.arms, Part.kiln, Part.plannerRan, Part.planDue, Part.tiles, Part.stk, Part.pc, Part.ic, Part.si, Part.eth, Part.chain, Part.claspA, Part.claspB, Part.mb, Part.boot])) :
    answers (execBrownout t_ s) (State.Framed q b) := by
  have k_lk : b.keep .lk = false := kf.get rfl
  unfold execBrownout
  extract_lets +onlyGivenNames x; clear_value x
  extract_lets +onlyGivenNames x; refine (fun (hx : State.Framed q b x) => ?_) ?_ <;> [(try clear_value x); subst x]
  extract_lets +onlyGivenNames x; clear_value x
  extract_lets +onlyGivenNames x; refine (fun (hx : State.Framed q b x) => ?_) ?_ <;> [(try clear_value x); subst x]
  with_reducible apply answers_ite
  with_reducible apply answers_next
  with_reducible assumption
  with_reducible apply answers_next
  with_reducible apply State.enterReset_framed
  with_reducible assumption
  exact kf.sub rfl
  with_reducible apply framed_ite
  with_reducible assumption
  simp -zeta only [framed_mk, k_lk, or_true, true_or]
  with_reducible assumption
  with_reducible apply State.updPwr_framed
  with_reducible apply State.advance_framed
  with_reducible assumption
  exact kf.sub rfl
  exact kf.sub rfl

theorem execRstNLow_framed {s : State} (hs : State.Framed q b s) (kf : b.free (regParts ++ [Part.now, Part.mem, Part.fresh, Part.rdata, Part.ident, Part.seq, Part.time, Part.caps, Part.pulses, Part.lk, Part.evts, Part.pwr, Part.ports, Part.axes, Part.sdclk, Part.filters, Part.fbs, Part.loops, Part.arms, Part.kiln, Part.plannerRan, Part.planDue, Part.tiles, Part.stk, Part.pc, Part.ic, Part.si, Part.eth, Part.chain, Part.claspA, Part.claspB, Part.mb, Part.boot])) :
    answers (execRstNLow s) (State.Framed q b) := by
  unfold execRstNLow
  extract_lets +onlyGivenNames x; refine (fun (hx : State.Framed q b x) => ?_) ?_ <;> [(try clear_value x); subst x]
  with_reducible apply answers_ite
  with_reducible apply answers_next
  with_reducible assumption
  with_reducible apply answers_ite
  with_reducible apply answers_next
  with_reducible assumption
  with_reducible apply answers_ite
  with_reducible apply answers_next
  with_reducible apply State.updPwr_framed
  with_reducible assumption
  exact kf.sub rfl
  with_reducible apply answers_next
  with_reducible apply State.enterReset_framed
  with_reducible assumption
  exact kf.sub rfl
  with_reducible apply State.updPwr_framed
  with_reducible assumption
  exact kf.sub rfl

theorem execRstNHigh_framed {s : State} (hs : State.Framed q b s) (kf : b.free [Part.pwr]) : answers (execRstNHigh s) (State.Framed q b) := by
  unfold execRstNHigh
  extract_lets +onlyGivenNames x; clear_value x
  extract_lets +onlyGivenNames x; refine (fun (hx : State.Framed q b x) => ?_) ?_ <;> [(try clear_value x); subst x]
  extract_lets +onlyGivenNames x; clear_value x
  extract_lets +onlyGivenNames x; refine (fun (hx : State.Framed q b x) => ?_) ?_ <;> [(try clear_value x); subst x]
  with_reducible apply answers_ite
  with_reducible apply answers_next
  with_reducible assumption
  with_reducible apply answers_ite
  with_reducible apply answers_next
  with_reducible apply framed_ite
  with_reducible apply State.endReset_framed
  with_reducible assumption
  exact kf.sub rfl
  with_reducible assumption
  with_reducible apply answers_next
  with_reducible assumption
  with_reducible apply State.updPwr_framed
  with_reducible assumption
  exact kf.sub rfl
  with_reducible apply State.updPwr_framed
  with_reducible assumption
  exact kf.sub rfl

theorem execResetStuck_framed {s : State} (hs : State.Framed q b s) (kf : b.free [Part.pwr]) :
    answers (execResetStuck s) (State.Framed q b) := by
  unfold execResetStuck
  extract_lets +onlyGivenNames x; clear_value x
  with_reducible apply answers_ite
  with_reducible apply answers_next
  with_reducible apply State.endReset_framed
  with_reducible apply State.updPwr_framed
  with_reducible assumption
  exact kf.sub rfl
  exact kf.sub rfl
  with_reducible apply answers_next
  with_reducible assumption

theorem execRstNRehonour_framed {s : State} (hs : State.Framed q b s) (kf : b.free [Part.pwr]) :
    answers (execRstNRehonour s) (State.Framed q b) := by
  unfold execRstNRehonour
  with_reducible apply answers_next
  with_reducible apply framed_ite
  with_reducible apply State.updPwr_framed
  with_reducible assumption
  exact kf.sub rfl
  with_reducible assumption

theorem State.disarmAll_framed {s : State} (hs : State.Framed q b s) (kf : b.free [Part.reg RegGroup.tpo, Part.reg RegGroup.port, Part.reg RegGroup.sdc, Part.reg RegGroup.fb, Part.reg RegGroup.stp, Part.reg RegGroup.si, Part.pulses, Part.ports, Part.sdclk, Part.fbs, Part.si]) :
    State.Framed q b (State.disarmAll s) := by
  have k_sdclk : b.keep .sdclk = false := kf.get rfl
  have k_si : b.keep .si = false := kf.get rfl
  unfold State.disarmAll
  extract_lets +onlyGivenNames x; refine (fun (hx : State.Framed q b x) => ?_) ?_ <;> [(try clear_value x); subst x]
  extract_lets +onlyGivenNames x; refine (fun (hx : State.Framed q b x) => ?_) ?_ <;> [(try clear_value x); subst x]
  extract_lets +onlyGivenNames x; refine (fun (hx : State.Framed q b x) => ?_) ?_ <;> [(try clear_value x); subst x]
  extract_lets +onlyGivenNames x; refine (fun (hx : State.Framed q b x) => ?_) ?_ <;> [(try clear_value x); subst x]
  extract_lets +onlyGivenNames x; clear_value x
  extract_lets +onlyGivenNames x; refine (fun (hx : State.Framed q b x) => ?_) ?_ <;> [(try clear_value x); subst x]
  extract_lets +onlyGivenNames x; refine (fun (hx : State.Framed q b x) => ?_) ?_ <;> [(try clear_value x); subst x]
  extract_lets +onlyGivenNames x; refine (fun (hx : State.Framed q b x) => ?_) ?_ <;> [(try clear_value x); subst x]
  extract_lets +onlyGivenNames x; clear_value x
  simp -zeta only [framed_mk, k_sdclk, k_si, or_true, true_or]
  with_reducible assumption
  with_reducible apply State.showOutputs_framed
  with_reducible apply framed_foldl
  intro _ _ _
  with_reducible apply State.outOff_framed
  with_reducible assumption
  exact kf.sub rfl
  with_reducible assumption
  exact kf.sub rfl
  with_reducible apply framed_foldl
  intro _ _ _
  with_reducible apply State.tpoArm_framed
  with_reducible assumption
  exact kf.sub rfl
  with_reducible assumption
  simp -zeta only [framed_mk, k_sdclk, k_si, or_true, true_or]
  with_reducible assumption
  with_reducible apply State.put_framed
  with_reducible assumption
  exact kf.get rfl
  with_reducible apply framed_foldl
  intro _ _ _
  extract_lets +onlyGivenNames x; refine (fun (hx : State.Framed q b x) => ?_) ?_ <;> [(try clear_value x); subst x]
  extract_lets +onlyGivenNames x; clear_value x
  with_reducible apply framed_ite
  with_reducible apply State.setFb_framed
  with_reducible apply State.put_framed
  with_reducible apply State.put_framed
  with_reducible assumption
  exact kf.get rfl
  exact kf.get rfl
  exact kf.sub rfl
  with_reducible assumption
  with_reducible apply State.put_framed
  with_reducible assumption
  exact kf.get rfl
  with_reducible assumption
  with_reducible apply framed_foldl
  intro _ _ _
  with_reducible apply State.put_framed
  with_reducible assumption
  exact kf.get rfl
  with_reducible assumption
  with_reducible apply framed_foldl
  intro _ _ _
  with_reducible apply State.disarmPort_framed
  with_reducible assumption
  exact kf.sub rfl
  with_reducible assumption

theorem execPfailAssert_framed {t_ : Nat} {s : State} (hs : State.Framed q b s) (kf : b.free (postParts ++ [Part.reg RegGroup.tb, Part.reg RegGroup.tpo, Part.reg RegGroup.port, Part.reg RegGroup.sdc, Part.reg RegGroup.fb, Part.reg RegGroup.stp, Part.reg RegGroup.si, Part.reg RegGroup.ch, Part.reg RegGroup.cp, Part.now, Part.time, Part.pulses, Part.pwr, Part.ports, Part.sdclk, Part.fbs, Part.ic, Part.si, Part.chain, Part.boot])) :
    answers (execPfailAssert t_ s) (State.Framed q b) := by
  have k_lk : b.keep .lk = false := kf.get rfl
  unfold execPfailAssert
  extract_lets +onlyGivenNames x; refine (fun (hx : State.Framed q b x) => ?_) ?_ <;> [(try clear_value x); subst x]
  extract_lets +onlyGivenNames x; refine (fun (hx : State.Framed q b x) => ?_) ?_ <;> [(try clear_value x); subst x]
  extract_lets +onlyGivenNames x; refine (fun (hx : State.Framed q b x) => ?_) ?_ <;> [(try clear_value x); subst x]
  extract_lets +onlyGivenNames x; refine (fun (hx : State.Framed q b x) => ?_) ?_ <;> [(try clear_value x); subst x]
  extract_lets +onlyGivenNames x; clear_value x
  with_reducible apply answers_ite
  with_reducible apply answers_next
  with_reducible assumption
  with_reducible apply answers_ite
  with_reducible apply answers_next
  with_reducible assumption
  with_reducible apply answers_next
  simp -zeta only [framed_mk, k_lk, or_true, true_or]
  with_reducible assumption
  with_reducible apply State.startFlush_framed
  with_reducible assumption
  exact kf.sub rfl
  with_reducible apply State.appendRec_framed
  with_reducible assumption
  exact kf.sub rfl
  with_reducible apply State.chainOff_framed
  with_reducible apply State.disarmAll_framed
  with_reducible assumption
  exact kf.sub rfl
  exact kf.sub rfl
  with_reducible apply State.updPwr_framed
  with_reducible apply State.advance_framed
  with_reducible assumption
  exact kf.sub rfl
  exact kf.sub rfl

theorem State.writeMirror_framed {s : State} (hs : State.Framed q b s) (kf : b.free [Part.lk]) : State.Framed q b (State.writeMirror s) := by
  have k_lk : b.keep .lk = false := kf.get rfl
  unfold State.writeMirror
  extract_lets +onlyGivenNames x; clear_value x
  simp -zeta only [framed_mk, k_lk, or_true, true_or]
  with_reducible assumption

theorem execPfFlushDone_framed {s : State} (hs : State.Framed q b s) (kf : b.free (regParts ++ [Part.now, Part.mem, Part.fresh, Part.rdata, Part.ident, Part.seq, Part.time, Part.caps, Part.pulses, Part.lk, Part.evts, Part.pwr, Part.ports, Part.axes, Part.sdclk, Part.filters, Part.fbs, Part.loops, Part.arms, Part.kiln, Part.plannerRan, Part.planDue, Part.tiles, Part.stk, Part.pc, Part.ic, Part.si, Part.eth, Part.chain, Part.claspA, Part.claspB, Part.mb, Part.boot])) :
    answers (execPfFlushDone s) (State.Framed q b) := by
  have k_kiln : b.keep .kiln = false := kf.get rfl
  have k_lk : b.keep .lk = false := kf.get rfl
  have k_seq : b.keep .seq = false := kf.get rfl
  have k_si : b.keep .si = false := kf.get rfl
  unfold execPfFlushDone
  extract_lets +onlyGivenNames x; refine (fun (hx : State.Framed q b x) => ?_) ?_ <;> [(try clear_value x); subst x]
  extract_lets +onlyGivenNames x; refine (fun (hx : State.Framed q b x) => ?_) ?_ <;> [(try clear_value x); subst x]
  extract_lets +onlyGivenNames x; refine (fun (hx : State.Framed q b x) => ?_) ?_ <;> [(try clear_value x); subst x]
  extract_lets +onlyGivenNames x; clear_value x
  extract_lets +onlyGivenNames x; refine (fun (hx : State.Framed q b x) => ?_) ?_ <;> [(try clear_value x); subst x]
  extract_lets +onlyGivenNames x; refine (fun (hx : State.Framed q b x) => ?_) ?_ <;> [(try clear_value x); subst x]
  extract_lets +onlyGivenNames x; refine (fun (hx : State.Framed q b x) => ?_) ?_ <;> [(try clear_value x); subst x]
  extract_lets +onlyGivenNames x; refine (fun (hx : State.Framed q b x) => ?_) ?_ <;> [(try clear_value x); subst x]
  extract_lets +onlyGivenNames x; clear_value x
  extract_lets +onlyGivenNames x; clear_value x
  extract_lets +onlyGivenNames x; refine (fun (hx : State.Framed q b x) => ?_) ?_ <;> [(try clear_value x); subst x]
  extract_lets +onlyGivenNames x; refine (fun (hx : State.Framed q b x) => ?_) ?_ <;> [(try clear_value x); subst x]
  with_reducible apply answers_ite
  with_reducible apply answers_next
  with_reducible assumption
  with_reducible apply answers_next
  with_reducible apply framed_ite
  with_reducible apply State.enterReset_framed
  with_reducible assumption
  exact kf.sub rfl
  with_reducible assumption
  with_reducible apply State.updPwr_framed
  with_reducible assumption
  exact kf.sub rfl
  simp -zeta only [framed_mk, k_kiln, k_lk, k_seq, k_si, or_true, true_or]
  with_reducible assumption
  simp -zeta only [framed_mk, k_kiln, k_lk, k_seq, k_si, or_true, true_or]
  with_reducible assumption
  with_reducible apply State.busyUp_framed
  with_reducible apply State.busyUp_framed
  with_reducible assumption
  exact kf.sub rfl
  exact kf.sub rfl
  with_reducible apply State.put_framed
  with_reducible apply State.stopTiles_framed
  with_reducible apply State.stopTiles_framed
  with_reducible assumption
  exact kf.sub rfl
  exact kf.sub rfl
  exact kf.get rfl
  simp -zeta only [framed_mk, k_kiln, k_lk, k_seq, k_si, or_true, true_or]
  with_reducible assumption
  with_reducible apply State.put_framed
  with_reducible assumption
  exact kf.get rfl
  with_reducible apply State.writeMirror_framed
  with_reducible apply State.advance_framed
  with_reducible assumption
  exact kf.sub rfl
  exact kf.sub rfl
  split
  with_reducible apply State.endFlush_framed
  with_reducible apply State.advance_framed
  with_reducible assumption
  exact kf.sub rfl
  exact kf.sub rfl
  with_reducible assumption

theorem execMirrorWrite_framed {s : State} (hs : State.Framed q b s) (kf : b.free [Part.lk]) :
    answers (execMirrorWrite s) (State.Framed q b) := by
  unfold execMirrorWrite
  with_reducible apply answers_next
  with_reducible apply framed_ite
  with_reducible apply State.writeMirror_framed
  with_reducible assumption
  exact kf.sub rfl
  with_reducible assumption

theorem execPfRestart_framed {t_ : Nat} {s : State} (hs : State.Framed q b s) (kf : b.free (regParts ++ [Part.now, Part.mem, Part.fresh, Part.rdata, Part.ident, Part.seq, Part.time, Part.caps, Part.pulses, Part.lk, Part.evts, Part.pwr, Part.ports, Part.axes, Part.sdclk, Part.filters, Part.fbs, Part.loops, Part.arms, Part.kiln, Part.plannerRan, Part.planDue, Part.tiles, Part.stk, Part.pc, Part.ic, Part.si, Part.eth, Part.chain, Part.claspA, Part.claspB, Part.mb, Part.boot])) :
    answers (execPfRestart t_ s) (State.Framed q b) := by
  unfold execPfRestart
  extract_lets +onlyGivenNames x; refine (fun (hx : State.Framed q b x) => ?_) ?_ <;> [(try clear_value x); subst x]
  extract_lets +onlyGivenNames x; refine (fun (hx : State.Framed q b x) => ?_) ?_ <;> [(try clear_value x); subst x]
  with_reducible apply answers_ite
  with_reducible apply answers_next
  with_reducible apply framed_ite
  with_reducible apply State.updPwr_framed
  with_reducible assumption
  exact kf.sub rfl
  with_reducible apply State.endReset_framed
  with_reducible assumption
  exact kf.sub rfl
  with_reducible apply answers_ite
  with_reducible apply answers_next
  with_reducible apply framed_ite
  with_reducible assumption
  with_reducible apply State.endReset_framed
  with_reducible assumption
  exact kf.sub rfl
  with_reducible apply answers_next
  with_reducible assumption
  with_reducible apply State.updPwr_framed
  with_reducible apply State.advance_framed
  with_reducible assumption
  exact kf.sub rfl
  exact kf.sub rfl
  with_reducible apply State.enterReset_framed
  with_reducible apply State.updPwr_framed
  with_reducible apply State.advance_framed
  with_reducible assumption
  exact kf.sub rfl
  exact kf.sub rfl
  exact kf.sub rfl

theorem execClockFault_framed {t_ : Nat} {s : State} (hs : State.Framed q b s) (kf : b.free (postParts ++ [Part.reg RegGroup.clk, Part.reg RegGroup.port, Part.reg RegGroup.stp, Part.reg RegGroup.si, Part.now, Part.time, Part.ports, Part.axes, Part.si, Part.boot])) :
    answers (execClockFault t_ s) (State.Framed q b) := by
  have k_time : b.keep .time = false := kf.get rfl
  unfold execClockFault
  extract_lets +onlyGivenNames x; refine (fun (hx : State.Framed q b x) => ?_) ?_ <;> [(try clear_value x); subst x]
  extract_lets +onlyGivenNames x; clear_value x
  with_reducible apply answers_next
  with_reducible apply State.safeClockFault_framed
  simp -zeta only [framed_mk, k_time, or_true, true_or]
  with_reducible assumption
  exact kf.sub rfl
  with_reducible apply State.put_framed
  with_reducible apply State.advance_framed
  with_reducible assumption
  exact kf.sub rfl
  exact kf.get rfl

theorem State.offerMoves_framed {s : State} {a : Fin 8} {addr : Nat} {l : List (List Byte)} {n : Nat}
  (hs : State.Framed q b s) (kf : b.free [Part.reg RegGroup.arm, Part.arms]) :
    State.Framed q b (State.offerMoves s a addr l n).1 := by
  induction l generalizing s n with
  | nil => exact hs
  | cons x l ih =>
    have h := State.offerMove_framed (a := a) (m := (moveOfBytes x).1) (reserved := (moveOfBytes x).2) hs (kf.sub rfl)
    unfold State.offerMoves
    dsimp only
    split
    · exact hs
    · split
      · rename_i e
        rw [e] at h
        exact ih h
      · rename_i e
        rw [e] at h
        exact h

theorem execMovePush_framed {k : Fin 16} {s : State} (hs : State.Framed q b s) (kf : b.free [Part.reg RegGroup.arm, Part.arms, Part.mb]) :
    answers (execMovePush k s) (State.Framed q b) := by
  unfold execMovePush
  simp -zeta only
  with_reducible apply answers_next
  with_reducible apply State.runCmd_framed
  with_reducible assumption
  intro _ _ _
  extract_lets +onlyGivenNames x; clear_value x
  split
  simp -zeta only
  with_reducible assumption
  simp -zeta only
  with_reducible apply State.offerMoves_framed
  with_reducible assumption
  exact kf.sub rfl
  exact kf.sub rfl

theorem execArmCmd_framed {k : Fin 16} {s : State} (hs : State.Framed q b s) (kf : b.free (regParts ++ [Part.now, Part.mem, Part.fresh, Part.seq, Part.time, Part.pulses, Part.lk, Part.evts, Part.ports, Part.axes, Part.sdclk, Part.fbs, Part.loops, Part.arms, Part.kiln, Part.tiles, Part.stk, Part.pc, Part.ic, Part.si, Part.eth, Part.chain, Part.mb, Part.boot])) :
    answers (execArmCmd k s) (State.Framed q b) := by
  unfold execArmCmd
  with_reducible apply answers_next
  with_reducible apply State.runCmd_framed
  with_reducible assumption
  intro _ _ _
  extract_lets +onlyGivenNames x; clear_value x
  split
  simp -zeta only
  with_reducible assumption
  with_reducible apply plain_framed
  with_reducible apply State.cmdWriteAs_framed
  with_reducible assumption
  exact kf.sub rfl
  exact kf.sub rfl

theorem execArmEnable_framed {k : Fin 16} {s : State} (hs : State.Framed q b s) (kf : b.free (regParts ++ [Part.now, Part.mem, Part.fresh, Part.seq, Part.time, Part.pulses, Part.lk, Part.evts, Part.ports, Part.axes, Part.sdclk, Part.fbs, Part.loops, Part.arms, Part.kiln, Part.tiles, Part.stk, Part.pc, Part.ic, Part.si, Part.eth, Part.chain, Part.mb, Part.boot])) :
    answers (execArmEnable k s) (State.Framed q b) := by
  unfold execArmEnable
  with_reducible apply answers_next
  with_reducible apply State.runCmd_framed
  with_reducible assumption
  intro _ _ _
  extract_lets +onlyGivenNames x; clear_value x
  split
  simp -zeta only
  with_reducible assumption
  with_reducible apply plain_framed
  with_reducible apply State.cmdWriteAs_framed
  with_reducible assumption
  exact kf.sub rfl
  exact kf.sub rfl

theorem State.armStatus_framed {s : State} {a : Fin 8} (hs : State.Framed q b s) (kf : b.free (regParts ++ [Part.fresh, Part.rdata, Part.caps, Part.evts, Part.kiln, Part.mb])) :
    State.Framed q b (State.armStatus s a).1 := by
  unfold State.armStatus
  simp -zeta only
  with_reducible apply State.cmdReads_framed
  with_reducible assumption
  exact kf.sub rfl

theorem execArmStatus_framed {k : Fin 16} {s : State} (hs : State.Framed q b s) (kf : b.free (regParts ++ [Part.fresh, Part.rdata, Part.caps, Part.evts, Part.kiln, Part.mb])) :
    answers (execArmStatus k s) (State.Framed q b) := by
  unfold execArmStatus
  with_reducible apply answers_next
  with_reducible apply State.runCmd_framed
  with_reducible assumption
  intro _ _ _
  with_reducible apply State.armStatus_framed
  with_reducible assumption
  exact kf.sub rfl
  exact kf.sub rfl

theorem execArmOverride_framed {k : Fin 16} {s : State} (hs : State.Framed q b s) (kf : b.free (regParts ++ [Part.now, Part.mem, Part.fresh, Part.seq, Part.time, Part.pulses, Part.lk, Part.evts, Part.ports, Part.axes, Part.sdclk, Part.fbs, Part.loops, Part.arms, Part.kiln, Part.tiles, Part.stk, Part.pc, Part.ic, Part.si, Part.eth, Part.chain, Part.mb, Part.boot])) :
    answers (execArmOverride k s) (State.Framed q b) := by
  unfold execArmOverride
  with_reducible apply answers_next
  with_reducible apply State.runCmd_framed
  with_reducible assumption
  intro _ _ _
  with_reducible apply plain_framed
  with_reducible apply State.cmdWrite_framed
  with_reducible assumption
  exact kf.sub rfl
  exact kf.sub rfl

theorem execStepMove_framed {k : Fin 16} {s : State} (hs : State.Framed q b s) (kf : b.free (regParts ++ [Part.now, Part.mem, Part.fresh, Part.rdata, Part.seq, Part.time, Part.caps, Part.pulses, Part.lk, Part.evts, Part.ports, Part.axes, Part.sdclk, Part.fbs, Part.loops, Part.arms, Part.kiln, Part.tiles, Part.stk, Part.pc, Part.ic, Part.si, Part.eth, Part.chain, Part.mb, Part.boot])) :
    answers (execStepMove k s) (State.Framed q b) := by
  unfold execStepMove
  simp -zeta only
  with_reducible apply answers_next
  with_reducible apply State.runCmd_framed
  with_reducible assumption
  intro _ _ _
  extract_lets +onlyGivenNames x; clear_value x
  split
  simp -zeta only
  with_reducible assumption
  split
  simp -zeta only
  with_reducible assumption
  split
  split
  simp -zeta only
  with_reducible apply State.cmdReads_framed
  with_reducible refine framed_of_pair (by with_reducible assumption) ?_
  with_reducible apply State.cmdWriteAs_framed
  with_reducible refine framed_of_pair (by with_reducible assumption) ?_
  with_reducible apply State.cmdWrites_framed
  with_reducible assumption
  exact kf.sub rfl
  exact kf.sub rfl
  exact kf.sub rfl
  simp -zeta only
  with_reducible refine framed_of_pair (by with_reducible assumption) ?_
  with_reducible apply State.cmdWriteAs_framed
  with_reducible refine framed_of_pair (by with_reducible assumption) ?_
  with_reducible apply State.cmdWrites_framed
  with_reducible assumption
  exact kf.sub rfl
  exact kf.sub rfl
  simp -zeta only
  with_reducible refine framed_of_pair (by with_reducible assumption) ?_
  with_reducible apply State.cmdWrites_framed
  with_reducible assumption
  exact kf.sub rfl
  exact kf.sub rfl

theorem execStepCmd_framed {k : Fin 16} {s : State} (hs : State.Framed q b s) (kf : b.free (regParts ++ [Part.now, Part.mem, Part.fresh, Part.seq, Part.time, Part.pulses, Part.lk, Part.evts, Part.ports, Part.axes, Part.sdclk, Part.fbs, Part.loops, Part.arms, Part.kiln, Part.tiles, Part.stk, Part.pc, Part.ic, Part.si, Part.eth, Part.chain, Part.mb, Part.boot])) :
    answers (execStepCmd k s) (State.Framed q b) := by
  unfold execStepCmd
  with_reducible apply answers_next
  with_reducible apply State.runCmd_framed
  with_reducible assumption
  intro _ _ _
  split
  simp -zeta only
  with_reducible assumption
  split
  simp -zeta only
  with_reducible assumption
  with_reducible apply plain_framed
  with_reducible apply State.cmdWriteAs_framed
  with_reducible assumption
  exact kf.sub rfl
  exact kf.sub rfl

theorem execTorqueRef_framed {k : Fin 16} {s : State} (hs : State.Framed q b s) (kf : b.free (regParts ++ [Part.now, Part.mem, Part.fresh, Part.seq, Part.time, Part.pulses, Part.lk, Part.evts, Part.ports, Part.axes, Part.sdclk, Part.fbs, Part.loops, Part.arms, Part.kiln, Part.tiles, Part.stk, Part.pc, Part.ic, Part.si, Part.eth, Part.chain, Part.mb, Part.boot])) :
    answers (execTorqueRef k s) (State.Framed q b) := by
  unfold execTorqueRef
  with_reducible apply answers_next
  with_reducible apply State.runCmd_framed
  with_reducible assumption
  intro _ _ _
  extract_lets +onlyGivenNames x; clear_value x
  extract_lets +onlyGivenNames x; clear_value x
  split
  simp -zeta only
  with_reducible assumption
  split
  simp -zeta only
  with_reducible refine framed_of_pair (by with_reducible assumption) ?_
  with_reducible apply State.watch_framed
  with_reducible assumption
  intro _ _
  with_reducible apply framed_foldl
  intro _ _ _
  with_reducible apply State.busWrite_framed
  with_reducible assumption
  exact kf.sub rfl
  with_reducible assumption
  exact kf.sub rfl
  simp -zeta only
  with_reducible refine framed_of_pair (by with_reducible assumption) ?_
  with_reducible apply State.watch_framed
  with_reducible assumption
  intro _ _
  with_reducible apply framed_foldl
  intro _ _ _
  with_reducible apply State.busWrite_framed
  with_reducible assumption
  exact kf.sub rfl
  with_reducible assumption
  exact kf.sub rfl
  exact kf.sub rfl

theorem execSafeReq_framed {k : Fin 16} {s : State} (hs : State.Framed q b s) (kf : b.free (regParts ++ [Part.now, Part.mem, Part.fresh, Part.seq, Part.time, Part.pulses, Part.lk, Part.evts, Part.ports, Part.axes, Part.sdclk, Part.fbs, Part.loops, Part.arms, Part.kiln, Part.tiles, Part.stk, Part.pc, Part.ic, Part.si, Part.eth, Part.chain, Part.mb, Part.boot])) :
    answers (execSafeReq k s) (State.Framed q b) := by
  unfold execSafeReq
  with_reducible apply answers_next
  with_reducible apply State.runCmd_framed
  with_reducible assumption
  intro _ _ _
  with_reducible apply plain_framed
  with_reducible apply State.cmdWrite_framed
  with_reducible assumption
  exact kf.sub rfl
  exact kf.sub rfl

theorem execSafeToken_framed {k : Fin 16} {s : State} (hs : State.Framed q b s) (kf : b.free (regParts ++ [Part.now, Part.mem, Part.fresh, Part.seq, Part.time, Part.pulses, Part.lk, Part.evts, Part.ports, Part.axes, Part.sdclk, Part.fbs, Part.loops, Part.arms, Part.kiln, Part.tiles, Part.stk, Part.pc, Part.ic, Part.si, Part.eth, Part.chain, Part.mb, Part.boot])) :
    answers (execSafeToken k s) (State.Framed q b) := by
  unfold execSafeToken
  with_reducible apply answers_next
  with_reducible apply State.runCmd_framed
  with_reducible assumption
  intro _ _ _
  with_reducible apply plain_framed
  with_reducible apply State.cmdWrite_framed
  with_reducible assumption
  exact kf.sub rfl
  exact kf.sub rfl

theorem execSafeStatus_framed {k : Fin 16} {s : State} (hs : State.Framed q b s) (kf : b.free (regParts ++ [Part.fresh, Part.rdata, Part.caps, Part.evts, Part.kiln, Part.mb])) :
    answers (execSafeStatus k s) (State.Framed q b) := by
  unfold execSafeStatus
  simp -zeta only
  with_reducible apply answers_next
  with_reducible apply State.runCmd_framed
  with_reducible assumption
  intro _ _ _
  simp -zeta only
  with_reducible apply State.cmdReads_framed
  with_reducible assumption
  exact kf.sub rfl
  exact kf.sub rfl

theorem State.verifySet_framed {s : State} {k : Fin 2} {n : Nat} (hs : State.Framed q b s) (kf : b.free (postParts ++ [Part.reg RegGroup.si, Part.si])) :
    State.Framed q b (State.verifySet s k n).1 := by
  have k_si : b.keep .si = false := kf.get rfl
  unfold State.verifySet
  extract_lets +onlyGivenNames x; subst x
  extract_lets +onlyGivenNames x; subst x
  extract_lets +onlyGivenNames x; subst x
  extract_lets +onlyGivenNames x; clear_value x
  extract_lets +onlyGivenNames x; refine (fun (hx : State.Framed q b x) => ?_) ?_ <;> [(try clear_value x); subst x]
  simp -zeta only
  with_reducible apply State.siRecord_framed
  with_reducible apply State.flag_framed
  with_reducible assumption
  exact kf.get rfl
  exact kf.sub rfl
  with_reducible apply framed_ite
  with_reducible apply State.put_framed
  simp -zeta only [framed_mk, k_si, or_true, true_or]
  with_reducible assumption
  exact kf.get rfl
  with_reducible assumption

theorem execPsetStage_framed {k : Fin 16} {s : State} (hs : State.Framed q b s) (kf : b.free (postParts ++ [Part.reg RegGroup.si, Part.mem, Part.si, Part.mb])) :
    answers (execPsetStage k s) (State.Framed q b) := by
  have k_si : b.keep .si = false := kf.get rfl
  unfold execPsetStage
  simp -zeta only
  with_reducible apply answers_next
  with_reducible apply State.runCmd_framed
  with_reducible assumption
  intro _ _ _
  extract_lets +onlyGivenNames x; clear_value x
  extract_lets +onlyGivenNames x; clear_value x
  extract_lets +onlyGivenNames x; clear_value x
  extract_lets +onlyGivenNames x; subst x
  extract_lets +onlyGivenNames x; clear_value x
  extract_lets +onlyGivenNames x; clear_value x
  extract_lets +onlyGivenNames x; refine (fun (hx : State.Framed q b x) => ?_) ?_ <;> [(try clear_value x); subst x]
  extract_lets +onlyGivenNames x; refine (fun (hx : State.Framed q b x) => ?_) ?_ <;> [(try clear_value x); subst x]
  split
  simp -zeta only
  with_reducible assumption
  split
  simp -zeta only
  with_reducible apply State.updMail_framed
  with_reducible assumption
  exact kf.sub rfl
  simp -zeta only
  with_reducible apply State.verifySet_framed
  with_reducible apply State.updMail_framed
  with_reducible assumption
  exact kf.sub rfl
  exact kf.sub rfl
  with_reducible apply State.mwrite_framed
  with_reducible assumption
  exact kf.sub rfl
  with_reducible apply framed_ite
  with_reducible apply State.put_framed
  simp -zeta only [framed_mk, k_si, or_true, true_or]
  with_reducible assumption
  exact kf.get rfl
  with_reducible assumption
  exact kf.sub rfl

theorem execPsetInfo_framed {k : Fin 16} {s : State} (hs : State.Framed q b s) (kf : b.free [Part.mb]) :
    answers (execPsetInfo k s) (State.Framed q b) := by
  unfold execPsetInfo
  with_reducible apply answers_next
  with_reducible apply State.runCmd_framed
  with_reducible assumption
  intro _ _ _
  extract_lets +onlyGivenNames x; clear_value x
  simp -zeta only
  with_reducible assumption
  exact kf.sub rfl

theorem State.bootSettings_framed {s : State} (hs : State.Framed q b s) (kf : b.free [Part.reg RegGroup.clk, Part.reg RegGroup.tb, Part.reg RegGroup.ch, Part.reg RegGroup.hm, Part.reg RegGroup.otp, Part.ident, Part.pwr, Part.boot]) :
    State.Framed q b (State.bootSettings s) := by
  have k_ident : b.keep .ident = false := kf.get rfl
  unfold State.bootSettings
  extract_lets +onlyGivenNames x; clear_value x
  extract_lets +onlyGivenNames x; refine (fun (hx : State.Framed q b x) => ?_) ?_ <;> [(try clear_value x); subst x]
  extract_lets +onlyGivenNames x; clear_value x
  extract_lets +onlyGivenNames x; clear_value x
  split
  with_reducible apply State.put_framed
  with_reducible apply State.put_framed
  with_reducible apply State.put_framed
  with_reducible assumption
  exact kf.get rfl
  exact kf.get rfl
  exact kf.get rfl
  extract_lets +onlyGivenNames x; refine (fun (hx : State.Framed q b x) => ?_) ?_ <;> [(try clear_value x); subst x]
  extract_lets +onlyGivenNames x; refine (fun (hx : State.Framed q b x) => ?_) ?_ <;> [(try clear_value x); subst x]
  extract_lets +onlyGivenNames x; refine (fun (hx : State.Framed q b x) => ?_) ?_ <;> [(try clear_value x); subst x]
  extract_lets +onlyGivenNames x; refine (fun (hx : State.Framed q b x) => ?_) ?_ <;> [(try clear_value x); subst x]
  with_reducible apply State.putB_framed
  with_reducible apply State.putB_framed
  with_reducible apply State.put_framed
  with_reducible assumption
  exact kf.get rfl
  exact kf.get rfl
  exact kf.get rfl
  with_reducible apply State.putB_framed
  with_reducible apply State.putB_framed
  with_reducible apply State.putB_framed
  with_reducible assumption
  exact kf.get rfl
  exact kf.get rfl
  exact kf.get rfl
  with_reducible apply State.updPwr_framed
  with_reducible assumption
  exact kf.sub rfl
  simp -zeta only [framed_mk, k_ident, or_true, true_or]
  with_reducible assumption
  with_reducible apply State.put_framed
  with_reducible assumption
  exact kf.get rfl
  with_reducible apply State.updBoot_framed
  with_reducible apply State.showOtp_framed
  with_reducible assumption
  exact kf.sub rfl
  rfl
  exact kf.sub rfl

theorem State.bootLocket_framed {s : State} (hs : State.Framed q b s) (kf : b.free (postParts ++ [Part.pwr])) :
    State.Framed q b (State.bootLocket s) := by
  unfold State.bootLocket
  extract_lets +onlyGivenNames x; clear_value x
  extract_lets +onlyGivenNames x; refine (fun (hx : State.Framed q b x) => ?_) ?_ <;> [(try clear_value x); subst x]
  extract_lets +onlyGivenNames x; refine (fun (hx : State.Framed q b x) => ?_) ?_ <;> [(try clear_value x); subst x]
  extract_lets +onlyGivenNames x; refine (fun (hx : State.Framed q b x) => ?_) ?_ <;> [(try clear_value x); subst x]
  extract_lets +onlyGivenNames x; refine (fun (hx : State.Framed q b x) => ?_) ?_ <;> [(try clear_value x); subst x]
  extract_lets +onlyGivenNames x; refine (fun (hx : State.Framed q b x) => ?_) ?_ <;> [(try clear_value x); subst x]
  with_reducible apply State.updPwr_framed
  with_reducible assumption
  exact kf.sub rfl
  split
  with_reducible apply State.post_framed
  with_reducible assumption
  exact kf.sub rfl
  with_reducible apply State.post_framed
  with_reducible assumption
  exact kf.sub rfl
  with_reducible assumption
  with_reducible apply framed_ite
  with_reducible apply framed_ite
  with_reducible assumption
  with_reducible apply State.flag_framed
  with_reducible assumption
  exact kf.get rfl
  with_reducible assumption
  with_reducible apply State.post_framed
  with_reducible assumption
  exact kf.sub rfl
  with_reducible apply State.wr_framed
  with_reducible assumption
  exact kf.get rfl
  with_reducible apply framed_ite
  with_reducible apply State.updPwr_framed
  with_reducible assumption
  exact kf.sub rfl
  with_reducible assumption

theorem State.bootUpdate_framed {s : State} (hs : State.Framed q b s) (kf : b.free (postParts ++ [Part.boot])) :
    State.Framed q b (State.bootUpdate s) := by
  unfold State.bootUpdate
  with_reducible apply framed_ite
  with_reducible assumption
  with_reducible apply framed_ite
  with_reducible apply State.fallenBack_framed
  with_reducible assumption
  exact kf.sub rfl
  with_reducible apply framed_ite
  with_reducible apply State.setPhase_framed
  with_reducible apply State.updUpd_framed
  with_reducible assumption
  exact kf.sub rfl
  exact kf.sub rfl
  with_reducible assumption

theorem State.startHearth_framed {s : State} {k : Fin 2} (hs : State.Framed q b s) (kf : b.free [Part.reg RegGroup.hm, Part.mb, Part.boot]) :
    State.Framed q b (State.startHearth s k) := by
  unfold State.startHearth
  with_reducible apply State.put_framed
  with_reducible apply State.updMail_framed
  with_reducible apply State.showZver_framed
  with_reducible apply State.setRunsAll_framed
  with_reducible assumption
  exact kf.sub rfl
  exact kf.sub rfl
  exact kf.sub rfl
  exact kf.get rfl

theorem State.bootCalibration_framed {s : State} (hs : State.Framed q b s) (kf : b.free [Part.reg RegGroup.sdf, Part.reg RegGroup.ld, Part.filters]) :
    State.Framed q b (State.bootCalibration s) := by
  unfold State.bootCalibration
  extract_lets +onlyGivenNames x; clear_value x
  extract_lets +onlyGivenNames x; clear_value x
  extract_lets +onlyGivenNames x; refine (fun (hx : State.Framed q b x) => ?_) ?_ <;> [(try clear_value x); subst x]
  with_reducible apply framed_foldl
  intro _ _ _
  with_reducible apply framed_ite
  with_reducible apply State.wr_framed
  with_reducible assumption
  exact kf.get rfl
  with_reducible assumption
  with_reducible assumption
  with_reducible apply framed_foldl
  intro _ _ _
  extract_lets +onlyGivenNames x; clear_value x
  extract_lets +onlyGivenNames x; clear_value x
  extract_lets +onlyGivenNames x; clear_value x
  extract_lets +onlyGivenNames x; clear_value x
  extract_lets +onlyGivenNames x; refine (fun (hx : State.Framed q b x) => ?_) ?_ <;> [(try clear_value x); subst x]
  extract_lets +onlyGivenNames x; refine (fun (hx : State.Framed q b x) => ?_) ?_ <;> [(try clear_value x); subst x]
  extract_lets +onlyGivenNames x; clear_value x
  extract_lets +onlyGivenNames x; clear_value x
  with_reducible apply framed_ite
  with_reducible apply State.setFilter_framed
  with_reducible assumption
  exact kf.sub rfl
  with_reducible assumption
  with_reducible apply framed_ite
  with_reducible apply State.wr_framed
  with_reducible apply State.wr_framed
  with_reducible assumption
  exact kf.get rfl
  exact kf.get rfl
  with_reducible assumption
  with_reducible apply State.wr_framed
  with_reducible apply State.wr_framed
  with_reducible assumption
  exact kf.get rfl
  exact kf.get rfl
  with_reducible assumption

theorem State.bootSafety_framed {s : State} (hs : State.Framed q b s) (kf : b.free (postParts ++ [Part.reg RegGroup.port, Part.reg RegGroup.stp, Part.reg RegGroup.si, Part.ports, Part.axes, Part.si])) :
    State.Framed q b (State.bootSafety s) := by
  unfold State.bootSafety
  extract_lets +onlyGivenNames x; clear_value x
  extract_lets +onlyGivenNames x; subst x
  extract_lets +onlyGivenNames x; clear_value x
  extract_lets +onlyGivenNames x; refine (fun (hx : State.Framed q b x) => ?_) ?_ <;> [(try clear_value x); subst x]
  extract_lets +onlyGivenNames x; refine (fun (hx : State.Framed q b x) => ?_) ?_ <;> [(try clear_value x); subst x]
  with_reducible apply framed_foldl
  intro _ _ _
  with_reducible apply State.stoGroup_framed
  with_reducible assumption
  exact kf.sub rfl
  with_reducible assumption
  with_reducible apply framed_ite
  with_reducible apply State.siRecord_framed
  with_reducible apply State.flag_framed
  with_reducible assumption
  exact kf.get rfl
  exact kf.sub rfl
  with_reducible assumption
  with_reducible apply State.putB_framed
  with_reducible apply State.useSet_framed
  with_reducible assumption
  exact kf.sub rfl
  exact kf.get rfl

theorem State.routeHost_framed {s : State} {src : Fin 512} {v : Nat} (hs : State.Framed q b s) (kf : b.free [Part.reg RegGroup.ic]) :
    State.Framed q b (State.routeHost s src v) := by
  unfold State.routeHost
  with_reducible apply State.put_framed
  with_reducible apply State.put_framed
  with_reducible apply State.put_framed
  with_reducible assumption
  exact kf.get rfl
  exact kf.get rfl
  exact kf.get rfl

theorem State.bootRoutes_framed {s : State} (hs : State.Framed q b s) (kf : b.free [Part.reg RegGroup.ic]) :
    State.Framed q b (State.bootRoutes s) := by
  unfold State.bootRoutes
  with_reducible apply State.routeHost_framed
  with_reducible apply framed_foldl
  intro _ _ _
  with_reducible apply State.routeHost_framed
  with_reducible assumption
  exact kf.sub rfl
  with_reducible assumption
  exact kf.sub rfl

theorem State.bootEth_framed {s : State} (hs : State.Framed q b s) (kf : b.free [Part.reg RegGroup.eth]) :
    State.Framed q b (State.bootEth s) := by
  unfold State.bootEth
  extract_lets +onlyGivenNames x; clear_value x
  with_reducible apply framed_foldl
  intro _ _ _
  extract_lets +onlyGivenNames x; clear_value x
  extract_lets +onlyGivenNames x; clear_value x
  extract_lets +onlyGivenNames x; refine (fun (hx : State.Framed q b x) => ?_) ?_ <;> [(try clear_value x); subst x]
  with_reducible apply framed_foldl
  intro _ _ _
  with_reducible apply State.wr_framed
  with_reducible assumption
  exact kf.get rfl
  with_reducible assumption
  with_reducible apply State.wr_framed
  with_reducible apply State.wr_framed
  with_reducible apply State.wr_framed
  with_reducible assumption
  exact kf.get rfl
  exact kf.get rfl
  exact kf.get rfl
  with_reducible assumption

theorem State.bootRest_framed {s : State} (hs : State.Framed q b s) (kf : b.free (postParts ++ [Part.reg RegGroup.eth, Part.reg RegGroup.port, Part.reg RegGroup.sdf, Part.reg RegGroup.ld, Part.reg RegGroup.stp, Part.reg RegGroup.stk, Part.reg RegGroup.si, Part.ports, Part.axes, Part.filters, Part.si, Part.boot])) :
    State.Framed q b (State.bootRest s) := by
  unfold State.bootRest
  extract_lets +onlyGivenNames x; refine (fun (hx : State.Framed q b x) => ?_) ?_ <;> [(try clear_value x); subst x]
  with_reducible apply State.put_framed
  with_reducible apply State.bootEth_framed
  with_reducible apply State.bootRoutes_framed
  with_reducible apply State.bootSafety_framed
  with_reducible apply State.bootCalibration_framed
  with_reducible assumption
  exact kf.sub rfl
  exact kf.sub rfl
  exact kf.sub rfl
  exact kf.sub rfl
  exact kf.get rfl
  with_reducible apply framed_foldl
  intro _ _ _
  split
  with_reducible apply State.setRunsAll_framed
  with_reducible assumption
  exact kf.sub rfl
  with_reducible assumption
  with_reducible assumption

theorem execBoot_framed {s : State} (hs : State.Framed q b s) (kf : b.free (postParts ++ [Part.reg RegGroup.clk, Part.reg RegGroup.tb, Part.reg RegGroup.eth, Part.reg RegGroup.port, Part.reg RegGroup.sdf, Part.reg RegGroup.ld, Part.reg RegGroup.stp, Part.reg RegGroup.stk, Part.reg RegGroup.si, Part.reg RegGroup.ch, Part.reg RegGroup.otp, Part.fresh, Part.ident, Part.pwr, Part.ports, Part.axes, Part.filters, Part.si, Part.mb, Part.boot])) :
    answers (execBoot s) (State.Framed q b) := by
  unfold execBoot
  extract_lets +onlyGivenNames x; refine (fun (hx : State.Framed q b x) => ?_) ?_ <;> [(try clear_value x); subst x]
  extract_lets +onlyGivenNames x; refine (fun (hx : State.Framed q b x) => ?_) ?_ <;> [(try clear_value x); subst x]
  with_reducible apply answers_ite
  with_reducible apply answers_next
  with_reducible assumption
  with_reducible apply answers_ite
  with_reducible apply answers_next
  with_reducible apply State.recover_framed
  with_reducible assumption
  exact kf.sub rfl
  with_reducible apply answers_ite
  with_reducible apply answers_next
  with_reducible apply State.bootRest_framed
  with_reducible apply State.startWindow_framed
  with_reducible apply State.startHearth_framed
  with_reducible apply State.updUpd_framed
  with_reducible assumption
  exact kf.sub rfl
  exact kf.sub rfl
  exact kf.sub rfl
  exact kf.sub rfl
  split
  with_reducible apply answers_next
  with_reducible apply State.recover_framed
  with_reducible assumption
  exact kf.sub rfl
  with_reducible apply answers_next
  with_reducible apply State.bootRest_framed
  with_reducible apply State.startHearth_framed
  with_reducible assumption
  exact kf.sub rfl
  exact kf.sub rfl
  with_reducible apply State.bootUpdate_framed
  with_reducible assumption
  exact kf.sub rfl
  with_reducible apply State.updBoot_framed
  with_reducible apply State.bootLocket_framed
  with_reducible apply State.bootSettings_framed
  with_reducible assumption
  exact kf.sub rfl
  exact kf.sub rfl
  simp -zeta only
  exact kf.sub rfl

theorem execIdentityCmd_framed {k : Fin 16} {aelilan : Bool} {s : State} (hs : State.Framed q b s) (kf : b.free [Part.mb]) :
    answers (execIdentityCmd k aelilan s) (State.Framed q b) := by
  unfold execIdentityCmd
  with_reducible apply answers_next
  with_reducible apply State.runCmd_framed
  with_reducible assumption
  intro _ _ _
  simp -zeta only
  with_reducible assumption
  exact kf.sub rfl

theorem execAttestationReport_framed {k : Fin 16} {nonce : List Byte} {s : State} (hs : State.Framed q b s) (kf : b.free [Part.mb]) :
    answers (execAttestationReport k nonce s) (State.Framed q b) := by
  unfold execAttestationReport
  with_reducible apply answers_next
  with_reducible apply State.runCmd_framed
  with_reducible assumption
  intro _ _ _
  extract_lets +onlyGivenNames x; clear_value x
  split
  simp -zeta only
  with_reducible assumption
  simp -zeta only
  with_reducible assumption
  exact kf.sub rfl

theorem execConfigWriteCmd_framed {k : Fin 16} {ws : List (Reg × Word)} {s : State} (hs : State.Framed q b s) (kf : b.free (regParts ++ [Part.now, Part.mem, Part.fresh, Part.seq, Part.time, Part.pulses, Part.lk, Part.evts, Part.ports, Part.axes, Part.sdclk, Part.fbs, Part.loops, Part.arms, Part.kiln, Part.tiles, Part.stk, Part.pc, Part.ic, Part.si, Part.eth, Part.chain, Part.mb, Part.boot])) :
    answers (execConfigWriteCmd k ws s) (State.Framed q b) := by
  unfold execConfigWriteCmd
  with_reducible apply answers_next
  with_reducible apply State.runCmd_framed
  with_reducible assumption
  intro _ _ _
  split
  with_reducible apply plain_framed
  with_reducible apply State.rawWrites_framed
  with_reducible assumption
  exact kf.sub rfl
  simp -zeta only
  with_reducible assumption
  exact kf.sub rfl

theorem execConfigReadCmd_framed {k : Fin 16} {rs : List Reg} {s : State} (hs : State.Framed q b s) (kf : b.free (regParts ++ [Part.fresh, Part.rdata, Part.caps, Part.evts, Part.kiln, Part.mb])) :
    answers (execConfigReadCmd k rs s) (State.Framed q b) := by
  unfold execConfigReadCmd
  simp -zeta only
  with_reducible apply answers_next
  with_reducible apply State.runCmd_framed
  with_reducible assumption
  intro _ _ _
  split
  simp -zeta only
  with_reducible apply State.cmdReads_framed
  with_reducible assumption
  exact kf.sub rfl
  simp -zeta only
  with_reducible assumption
  exact kf.sub rfl

theorem execSetInfo_framed {k : Fin 16} {s : State} (hs : State.Framed q b s) (kf : b.free (regParts ++ [Part.fresh, Part.rdata, Part.caps, Part.evts, Part.kiln, Part.mb])) :
    answers (execSetInfo k s) (State.Framed q b) := by
  unfold execSetInfo
  simp -zeta only
  with_reducible apply answers_next
  with_reducible apply State.runCmd_framed
  with_reducible assumption
  intro _ _ _
  simp -zeta only
  with_reducible apply State.cmdReads_framed
  with_reducible assumption
  exact kf.sub rfl
  exact kf.sub rfl

theorem execSetRead_framed {k : Fin 16} {s : State} (hs : State.Framed q b s) (kf : b.free [Part.mb]) :
    answers (execSetRead k s) (State.Framed q b) := by
  unfold execSetRead
  with_reducible apply answers_next
  with_reducible apply State.runCmd_framed
  with_reducible assumption
  intro _ _ _
  extract_lets +onlyGivenNames x; clear_value x
  split
  simp -zeta only
  with_reducible assumption
  split
  split
  simp -zeta only
  with_reducible assumption
  simp -zeta only
  with_reducible assumption
  simp -zeta only
  with_reducible assumption
  exact kf.sub rfl

theorem State.programGen_framed {s : State} {g : Fin 4} {ws : List Word} {bad : Option (Fin 448 × Word)} (hs : State.Framed q b s) (kf : b.free [Part.reg RegGroup.hm, Part.reg RegGroup.otp, Part.boot]) :
    State.Framed q b (State.programGen s g ws bad) := by
  unfold State.programGen
  with_reducible apply framed_foldl
  intro _ _ _
  with_reducible apply State.otpBurn_framed
  with_reducible assumption
  exact kf.sub rfl
  with_reducible assumption

theorem execSetWrite_framed {k : Fin 16} {bad : Option (Fin 448 × Word)} {s : State} (hs : State.Framed q b s) (kf : b.free [Part.reg RegGroup.hm, Part.reg RegGroup.otp, Part.mb, Part.boot]) :
    answers (execSetWrite k bad s) (State.Framed q b) := by
  unfold execSetWrite
  simp -zeta only
  with_reducible apply answers_next
  with_reducible apply State.runCmd_framed
  with_reducible assumption
  intro _ _ _
  extract_lets +onlyGivenNames x; clear_value x
  split
  simp -zeta only
  with_reducible assumption
  extract_lets +onlyGivenNames x; refine (fun (hx : State.Framed q b x) => ?_) ?_ <;> [(try clear_value x); subst x]
  extract_lets +onlyGivenNames x; clear_value x
  split
  simp -zeta only
  with_reducible assumption
  split
  simp -zeta only
  with_reducible assumption
  split
  simp -zeta only
  with_reducible assumption
  simp -zeta only
  with_reducible assumption
  with_reducible apply State.programGen_framed
  with_reducible assumption
  exact kf.sub rfl
  exact kf.sub rfl

theorem State.burnAll_framed {s : State} {a : Nat} {ws : List Word} (hs : State.Framed q b s) (kf : b.free [Part.reg RegGroup.hm, Part.reg RegGroup.otp, Part.boot]) :
    State.Framed q b (State.burnAll s a ws) := by
  unfold State.burnAll
  with_reducible apply framed_foldl
  intro _ _ _
  with_reducible apply State.otpBurn_framed
  with_reducible assumption
  exact kf.sub rfl
  with_reducible assumption

theorem State.burnBits_framed {s : State} {a : Nat} {w : Word} (hs : State.Framed q b s) (kf : b.free [Part.reg RegGroup.hm, Part.reg RegGroup.otp, Part.boot]) :
    State.Framed q b (State.burnBits s a w) := by
  unfold State.burnBits
  with_reducible apply State.burnAll_framed
  with_reducible assumption
  exact kf.sub rfl

theorem execKeyProgram_framed {k : Fin 16} {slot : Fin 4} {key : List Byte} {s : State} (hs : State.Framed q b s) (kf : b.free [Part.reg RegGroup.hm, Part.reg RegGroup.otp, Part.mb, Part.boot]) :
    answers (execKeyProgram k slot key s) (State.Framed q b) := by
  unfold execKeyProgram
  extract_lets +onlyGivenNames x; clear_value x
  extract_lets +onlyGivenNames x; clear_value x
  with_reducible apply answers_next
  with_reducible apply State.runCmd_framed
  with_reducible assumption
  intro _ _ _
  split
  simp -zeta only
  with_reducible assumption
  split
  simp -zeta only
  with_reducible assumption
  split
  simp -zeta only
  with_reducible assumption
  simp -zeta only
  with_reducible apply State.burnBits_framed
  with_reducible apply State.burnAll_framed
  with_reducible assumption
  exact kf.sub rfl
  exact kf.sub rfl
  exact kf.sub rfl

theorem execKeyRevoke_framed {k : Fin 16} {vendor : Bool} {slot : Fin 4} {signer : Fin 4} {sig : List Byte} {s : State} (hs : State.Framed q b s) (kf : b.free [Part.reg RegGroup.hm, Part.reg RegGroup.otp, Part.mb, Part.boot]) :
    answers (execKeyRevoke k vendor slot signer sig s) (State.Framed q b) := by
  unfold execKeyRevoke
  with_reducible apply answers_next
  with_reducible apply State.runCmd_framed
  with_reducible assumption
  intro _ _ _
  extract_lets +onlyGivenNames x; clear_value x
  extract_lets +onlyGivenNames x; clear_value x
  extract_lets +onlyGivenNames x; refine (fun (hx : State.Framed q b x) => ?_) ?_ <;> [(try clear_value x); subst x]
  extract_lets +onlyGivenNames x; clear_value x
  split
  simp -zeta only
  with_reducible assumption
  split
  simp -zeta only
  with_reducible assumption
  split
  simp -zeta only
  with_reducible assumption
  split
  simp -zeta only
  with_reducible assumption
  simp -zeta only
  with_reducible assumption
  with_reducible apply State.burnBits_framed
  with_reducible assumption
  exact kf.sub rfl
  exact kf.sub rfl

theorem execSeal_framed {k : Fin 16} {s : State} (hs : State.Framed q b s) (kf : b.free [Part.reg RegGroup.hm, Part.reg RegGroup.otp, Part.mb, Part.boot]) :
    answers (execSeal k s) (State.Framed q b) := by
  unfold execSeal
  with_reducible apply answers_next
  with_reducible apply State.runCmd_framed
  with_reducible assumption
  intro _ _ _
  split
  simp -zeta only
  with_reducible assumption
  split
  simp -zeta only
  with_reducible assumption
  simp -zeta only
  with_reducible apply State.burnBits_framed
  with_reducible assumption
  exact kf.sub rfl
  exact kf.sub rfl

theorem execPlacementTaskCmd_framed {k : Fin 16} {n : Fin 4096} {op : Fin 6} {d : List Word} {s : State} (hs : State.Framed q b s) (kf : b.free (regParts ++ [Part.now, Part.mem, Part.fresh, Part.seq, Part.time, Part.pulses, Part.lk, Part.evts, Part.ports, Part.axes, Part.sdclk, Part.fbs, Part.loops, Part.arms, Part.kiln, Part.tiles, Part.stk, Part.pc, Part.ic, Part.si, Part.eth, Part.chain, Part.mb, Part.boot])) :
    answers (execPlacementTaskCmd k n op d s) (State.Framed q b) := by
  unfold execPlacementTaskCmd
  with_reducible apply answers_next
  with_reducible apply State.runCmd_framed
  with_reducible assumption
  intro _ _ _
  extract_lets +onlyGivenNames x; refine (fun (hx : State.Framed q b x) => ?_) ?_ <;> [(try clear_value x); subst x]
  extract_lets +onlyGivenNames x; refine (fun (hx : State.Framed q b x) => ?_) ?_ <;> [(try clear_value x); subst x]
  split
  simp -zeta only
  with_reducible assumption
  split
  simp -zeta only
  with_reducible apply State.flag_framed
  with_reducible assumption
  exact kf.get rfl
  simp -zeta only
  with_reducible assumption
  with_reducible apply State.busWrite_framed
  with_reducible assumption
  exact kf.sub rfl
  with_reducible apply framed_ite
  with_reducible apply framed_foldl
  intro _ _ _
  with_reducible apply State.wr_framed
  with_reducible assumption
  exact kf.get rfl
  with_reducible assumption
  with_reducible assumption
  exact kf.sub rfl

theorem execPlacementBufferCmd_framed {k : Fin 16} {h : Fin 8192} {op : Fin 4} {d : List Word} {s : State} (hs : State.Framed q b s) (kf : b.free (regParts ++ [Part.now, Part.mem, Part.fresh, Part.seq, Part.time, Part.pulses, Part.lk, Part.evts, Part.ports, Part.axes, Part.sdclk, Part.fbs, Part.loops, Part.arms, Part.kiln, Part.tiles, Part.stk, Part.pc, Part.ic, Part.si, Part.eth, Part.chain, Part.mb, Part.boot])) :
    answers (execPlacementBufferCmd k h op d s) (State.Framed q b) := by
  unfold execPlacementBufferCmd
  with_reducible apply answers_next
  with_reducible apply State.runCmd_framed
  with_reducible assumption
  intro _ _ _
  extract_lets +onlyGivenNames x; refine (fun (hx : State.Framed q b x) => ?_) ?_ <;> [(try clear_value x); subst x]
  extract_lets +onlyGivenNames x; refine (fun (hx : State.Framed q b x) => ?_) ?_ <;> [(try clear_value x); subst x]
  split
  simp -zeta only
  with_reducible assumption
  split
  simp -zeta only
  with_reducible apply State.flag_framed
  with_reducible assumption
  exact kf.get rfl
  simp -zeta only
  with_reducible assumption
  with_reducible apply State.busWrite_framed
  with_reducible assumption
  exact kf.sub rfl
  with_reducible apply framed_ite
  with_reducible apply framed_foldl
  intro _ _ _
  with_reducible apply State.wr_framed
  with_reducible assumption
  exact kf.get rfl
  with_reducible assumption
  with_reducible assumption
  exact kf.sub rfl

theorem execPlacementRebalCmd_framed {k : Fin 16} {rebal : Bool} {freeze : Bool} {s : State} (hs : State.Framed q b s) (kf : b.free (regParts ++ [Part.now, Part.mem, Part.fresh, Part.seq, Part.time, Part.pulses, Part.lk, Part.evts, Part.ports, Part.axes, Part.sdclk, Part.fbs, Part.loops, Part.arms, Part.kiln, Part.tiles, Part.stk, Part.pc, Part.ic, Part.si, Part.eth, Part.chain, Part.mb, Part.boot])) :
    answers (execPlacementRebalCmd k rebal freeze s) (State.Framed q b) := by
  unfold execPlacementRebalCmd
  with_reducible apply answers_next
  with_reducible apply State.runCmd_framed
  with_reducible assumption
  intro _ _ _
  with_reducible apply plain_framed
  with_reducible apply State.cmdWrite_framed
  with_reducible assumption
  exact kf.sub rfl
  exact kf.sub rfl

theorem State.readResponse_framed {s : State} {o : Option State} (hs : State.Framed q b s) (kf : b.free [Part.rdata])
  (ho : ∀ t, o = some t → State.Framed q b t) :
    State.Framed q b (s.readResponse o).1 := by
  cases o with
  | none => exact hs
  | some t => exact State.answer_framed (ho t rfl) (kf.sub rfl)

theorem State.writeResponse_framed {s : State} {r : Option Reg} {v : Word} {o : Option State} (hs : State.Framed q b s) (kf : b.free (regParts ++ [Part.now, Part.mem, Part.fresh, Part.seq, Part.time, Part.pulses, Part.lk, Part.evts, Part.ports, Part.axes, Part.sdclk, Part.fbs, Part.loops, Part.arms, Part.kiln, Part.tiles, Part.stk, Part.pc, Part.ic, Part.si, Part.eth, Part.chain, Part.mb, Part.boot]))
  (ho : ∀ t, o = some t → State.Framed q b t) :
    State.Framed q b (s.writeResponse r v o).1 := by
  cases r with
  | some r => exact plain_framed (State.rawWrite_framed hs (kf.sub rfl))
  | none =>
    cases o with
    | none => exact hs
    | some t => exact ho t rfl

theorem execRegReadCmd_framed {k : Fin 16} {a : A40} {s : State} (hs : State.Framed q b s) (kf : b.free (regParts ++ [Part.fresh, Part.rdata, Part.caps, Part.evts, Part.kiln, Part.mb])) :
    answers (execRegReadCmd k a s) (State.Framed q b) := by
  unfold execRegReadCmd
  with_reducible apply answers_next
  with_reducible apply State.runCmd_framed
  with_reducible assumption
  intro _ _ _
  split
  simp -zeta only
  with_reducible assumption
  with_reducible apply State.readResponse_framed
  with_reducible assumption
  exact kf.sub rfl
  with_reducible refine opt_guard ?_; with_reducible apply State.fabricRead_framed
  with_reducible assumption
  exact kf.sub rfl
  exact kf.sub rfl

theorem execRegWriteCmd_framed {k : Fin 16} {a : A40} {v : Word} {s : State} (hs : State.Framed q b s) (kf : b.free (regParts ++ [Part.now, Part.mem, Part.fresh, Part.seq, Part.time, Part.pulses, Part.lk, Part.evts, Part.ports, Part.axes, Part.sdclk, Part.fbs, Part.loops, Part.arms, Part.kiln, Part.tiles, Part.stk, Part.pc, Part.ic, Part.si, Part.eth, Part.chain, Part.mb, Part.boot])) :
    answers (execRegWriteCmd k a v s) (State.Framed q b) := by
  unfold execRegWriteCmd
  with_reducible apply answers_next
  with_reducible apply State.runCmd_framed
  with_reducible assumption
  intro _ _ _
  split
  simp -zeta only
  with_reducible assumption
  with_reducible apply State.writeResponse_framed
  with_reducible assumption
  exact kf.sub rfl
  with_reducible refine opt_guard ?_; with_reducible apply State.fabricWrite_framed
  with_reducible assumption
  exact kf.sub rfl
  exact kf.sub rfl

theorem execChainScheduleCmd_framed {k : Fin 16} {o : Nat} {bytes : List Byte} {s : State} (hs : State.Framed q b s) (kf : b.free (regParts ++ [Part.mem, Part.mb])) :
    answers (execChainScheduleCmd k o bytes s) (State.Framed q b) := by
  unfold execChainScheduleCmd
  with_reducible apply answers_next
  with_reducible apply State.runCmd_framed
  with_reducible assumption
  intro _ _ _
  split
  simp -zeta only
  with_reducible assumption
  split
  simp -zeta only
  with_reducible refine framed_of_pair (by with_reducible assumption) ?_
  with_reducible apply State.watch_framed
  with_reducible assumption
  intro _ _
  with_reducible apply State.schedWrite_framed
  with_reducible assumption
  exact kf.sub rfl
  exact kf.sub rfl
  simp -zeta only
  with_reducible refine framed_of_pair (by with_reducible assumption) ?_
  with_reducible apply State.watch_framed
  with_reducible assumption
  intro _ _
  with_reducible apply State.schedWrite_framed
  with_reducible assumption
  exact kf.sub rfl
  exact kf.sub rfl
  exact kf.sub rfl

theorem execChainCtrlCmd_framed {k : Fin 16} {v : Word} {s : State} (hs : State.Framed q b s) (kf : b.free (regParts ++ [Part.now, Part.mem, Part.fresh, Part.seq, Part.time, Part.pulses, Part.lk, Part.evts, Part.ports, Part.axes, Part.sdclk, Part.fbs, Part.loops, Part.arms, Part.kiln, Part.tiles, Part.stk, Part.pc, Part.ic, Part.si, Part.eth, Part.chain, Part.mb, Part.boot])) :
    answers (execChainCtrlCmd k v s) (State.Framed q b) := by
  unfold execChainCtrlCmd
  with_reducible apply answers_next
  with_reducible apply State.runCmd_framed
  with_reducible assumption
  intro _ _ _
  with_reducible apply plain_framed
  with_reducible apply State.cmdWrite_framed
  with_reducible assumption
  exact kf.sub rfl
  exact kf.sub rfl

theorem execClaspMapCmd_framed {k : Fin 16} {x : Fin 2} {v : Word} {s : State} (hs : State.Framed q b s) (kf : b.free (regParts ++ [Part.now, Part.mem, Part.fresh, Part.seq, Part.time, Part.pulses, Part.lk, Part.evts, Part.ports, Part.axes, Part.sdclk, Part.fbs, Part.loops, Part.arms, Part.kiln, Part.tiles, Part.stk, Part.pc, Part.ic, Part.si, Part.eth, Part.chain, Part.mb, Part.boot])) :
    answers (execClaspMapCmd k x v s) (State.Framed q b) := by
  unfold execClaspMapCmd
  with_reducible apply answers_next
  with_reducible apply State.runCmd_framed
  with_reducible assumption
  intro _ _ _
  split
  simp -zeta only
  with_reducible assumption
  with_reducible apply plain_framed
  with_reducible apply State.cmdWrite_framed
  with_reducible assumption
  exact kf.sub rfl
  exact kf.sub rfl

theorem execKilnPostCmd_framed {k : Fin 16} {n : Fin 4096} {s : State} (hs : State.Framed q b s) (kf : b.free (postParts ++ [Part.reg RegGroup.stk, Part.stk, Part.mb])) :
    answers (execKilnPostCmd k n s) (State.Framed q b) := by
  unfold execKilnPostCmd
  with_reducible apply answers_next
  with_reducible apply State.runCmd_framed
  with_reducible assumption
  intro _ _ _
  split
  simp -zeta only
  with_reducible assumption
  split
  simp -zeta only
  with_reducible assumption
  simp -zeta only
  with_reducible apply State.stkRelease_framed
  with_reducible assumption
  exact kf.sub rfl
  exact kf.sub rfl

theorem execKilnResultCmd_framed {k : Fin 16} {c : Fin 16} {o : Nat} {n : Nat} {s : State} (hs : State.Framed q b s) (kf : b.free [Part.mb]) :
    answers (execKilnResultCmd k c o n s) (State.Framed q b) := by
  unfold execKilnResultCmd
  with_reducible apply answers_next
  with_reducible apply State.runCmd_framed
  with_reducible assumption
  intro _ _ _
  extract_lets +onlyGivenNames x; clear_value x
  split
  split
  simp -zeta only
  with_reducible assumption
  simp -zeta only
  with_reducible assumption
  extract_lets +onlyGivenNames x; clear_value x
  split
  simp -zeta only
  with_reducible assumption
  simp -zeta only
  with_reducible assumption
  exact kf.sub rfl

theorem State.timeGet_framed {s : State} (hs : State.Framed q b s) (kf : b.free (regParts ++ [Part.fresh, Part.rdata, Part.caps, Part.evts, Part.kiln, Part.mb])) :
    State.Framed q b (State.timeGet s).1 := by
  unfold State.timeGet
  simp -zeta only
  with_reducible apply State.cmdReads_framed
  with_reducible assumption
  exact kf.sub rfl

theorem execTimeGet_framed {k : Fin 16} {s : State} (hs : State.Framed q b s) (kf : b.free (regParts ++ [Part.fresh, Part.rdata, Part.caps, Part.evts, Part.kiln, Part.mb])) :
    answers (execTimeGet k s) (State.Framed q b) := by
  unfold execTimeGet
  with_reducible apply answers_next
  with_reducible apply State.runCmd_framed
  with_reducible assumption
  intro _ _ _
  with_reducible apply State.timeGet_framed
  with_reducible assumption
  exact kf.sub rfl
  exact kf.sub rfl

theorem execTimeSet_framed {k : Fin 16} {s : State} (hs : State.Framed q b s) (kf : b.free [Part.reg RegGroup.tb, Part.time, Part.mb]) :
    answers (execTimeSet k s) (State.Framed q b) := by
  have k_time : b.keep .time = false := kf.get rfl
  unfold execTimeSet
  with_reducible apply answers_next
  with_reducible apply State.runCmd_framed
  with_reducible assumption
  intro _ _ _
  extract_lets +onlyGivenNames x; clear_value x
  split
  simp -zeta only
  with_reducible assumption
  split
  simp -zeta only [framed_mk, k_time, or_true, true_or]
  with_reducible assumption
  simp -zeta only
  with_reducible apply State.flag_framed
  with_reducible assumption
  exact kf.get rfl
  exact kf.sub rfl

theorem execTimeSource_framed {k : Fin 16} {s : State} (hs : State.Framed q b s) (kf : b.free (regParts ++ [Part.now, Part.mem, Part.fresh, Part.seq, Part.time, Part.pulses, Part.lk, Part.evts, Part.ports, Part.axes, Part.sdclk, Part.fbs, Part.loops, Part.arms, Part.kiln, Part.tiles, Part.stk, Part.pc, Part.ic, Part.si, Part.eth, Part.chain, Part.mb, Part.boot])) :
    answers (execTimeSource k s) (State.Framed q b) := by
  unfold execTimeSource
  with_reducible apply answers_next
  with_reducible apply State.runCmd_framed
  with_reducible assumption
  intro _ _ _
  with_reducible apply plain_framed
  with_reducible apply State.cmdWrite_framed
  with_reducible assumption
  exact kf.sub rfl
  exact kf.sub rfl

theorem execTimeRestart_framed {k : Fin 16} {s : State} (hs : State.Framed q b s) (kf : b.free (postParts ++ [Part.reg RegGroup.tb, Part.time, Part.chain, Part.mb])) :
    answers (execTimeRestart k s) (State.Framed q b) := by
  have k_chain : b.keep .chain = false := kf.get rfl
  have k_time : b.keep .time = false := kf.get rfl
  unfold execTimeRestart
  with_reducible apply answers_next
  with_reducible apply State.runCmd_framed
  with_reducible assumption
  intro _ _ _
  extract_lets +onlyGivenNames x; clear_value x
  extract_lets +onlyGivenNames x; refine (fun (hx : State.Framed q b x) => ?_) ?_ <;> [(try clear_value x); subst x]
  extract_lets +onlyGivenNames x; refine (fun (hx : State.Framed q b x) => ?_) ?_ <;> [(try clear_value x); subst x]
  extract_lets +onlyGivenNames x; clear_value x
  extract_lets +onlyGivenNames x; refine (fun (hx : State.Framed q b x) => ?_) ?_ <;> [(try clear_value x); subst x]
  split
  simp -zeta only
  with_reducible apply State.flag_framed
  with_reducible assumption
  exact kf.get rfl
  simp -zeta only
  with_reducible apply State.post_framed
  with_reducible assumption
  exact kf.sub rfl
  simp -zeta only [framed_mk, k_chain, k_time, or_true, true_or]
  with_reducible assumption
  with_reducible apply State.bumpField_framed
  with_reducible apply State.put_framed
  with_reducible assumption
  exact kf.get rfl
  exact kf.get rfl
  simp -zeta only [framed_mk, k_chain, k_time, or_true, true_or]
  with_reducible assumption
  exact kf.sub rfl

theorem execTimeRate_framed {k : Fin 16} {s : State} (hs : State.Framed q b s) (kf : b.free (regParts ++ [Part.now, Part.mem, Part.fresh, Part.seq, Part.time, Part.pulses, Part.lk, Part.evts, Part.ports, Part.axes, Part.sdclk, Part.fbs, Part.loops, Part.arms, Part.kiln, Part.tiles, Part.stk, Part.pc, Part.ic, Part.si, Part.eth, Part.chain, Part.mb, Part.boot])) :
    answers (execTimeRate k s) (State.Framed q b) := by
  unfold execTimeRate
  with_reducible apply answers_next
  with_reducible apply State.runCmd_framed
  with_reducible assumption
  intro _ _ _
  with_reducible apply plain_framed
  with_reducible apply State.cmdWriteAs_framed
  with_reducible assumption
  exact kf.sub rfl
  exact kf.sub rfl

theorem execPortComp_framed {k : Fin 16} {s : State} (hs : State.Framed q b s) (kf : b.free (regParts ++ [Part.now, Part.mem, Part.fresh, Part.seq, Part.time, Part.pulses, Part.lk, Part.evts, Part.ports, Part.axes, Part.sdclk, Part.fbs, Part.loops, Part.arms, Part.kiln, Part.tiles, Part.stk, Part.pc, Part.ic, Part.si, Part.eth, Part.chain, Part.mb, Part.boot])) :
    answers (execPortComp k s) (State.Framed q b) := by
  unfold execPortComp
  with_reducible apply answers_next
  with_reducible apply State.runCmd_framed
  with_reducible assumption
  intro _ _ _
  extract_lets +onlyGivenNames x; clear_value x
  split
  simp -zeta only
  with_reducible assumption
  with_reducible apply plain_framed
  with_reducible apply State.cmdWrites_framed
  with_reducible assumption
  exact kf.sub rfl
  exact kf.sub rfl

theorem execPulseSched_framed {k : Fin 16} {s : State} (hs : State.Framed q b s) (kf : b.free (regParts ++ [Part.now, Part.mem, Part.fresh, Part.rdata, Part.seq, Part.time, Part.caps, Part.pulses, Part.lk, Part.evts, Part.ports, Part.axes, Part.sdclk, Part.fbs, Part.loops, Part.arms, Part.kiln, Part.tiles, Part.stk, Part.pc, Part.ic, Part.si, Part.eth, Part.chain, Part.mb, Part.boot])) :
    answers (execPulseSched k s) (State.Framed q b) := by
  unfold execPulseSched
  simp -zeta only
  with_reducible apply answers_next
  with_reducible apply State.runCmd_framed
  with_reducible assumption
  intro _ _ _
  extract_lets +onlyGivenNames x; clear_value x
  extract_lets +onlyGivenNames x; clear_value x
  split
  simp -zeta only
  with_reducible assumption
  split
  split
  simp -zeta only
  with_reducible refine framed_of_pair (by with_reducible assumption) ?_
  with_reducible apply State.watch_framed
  with_reducible refine framed_of_pair (by with_reducible assumption) ?_
  with_reducible apply State.cmdWrites_framed
  with_reducible assumption
  exact kf.sub rfl
  intro _ _
  with_reducible apply State.busWrite_framed
  with_reducible assumption
  exact kf.sub rfl
  exact kf.sub rfl
  split
  simp -zeta only
  with_reducible refine framed_of_pair (by with_reducible assumption) ?_
  with_reducible apply State.watch_framed
  with_reducible refine framed_of_pair (by with_reducible assumption) ?_
  with_reducible apply State.watch_framed
  with_reducible refine framed_of_pair (by with_reducible assumption) ?_
  with_reducible apply State.cmdWrites_framed
  with_reducible assumption
  exact kf.sub rfl
  intro _ _
  with_reducible apply State.busWrite_framed
  with_reducible assumption
  exact kf.sub rfl
  exact kf.sub rfl
  intro _ _
  with_reducible apply State.busWrite_framed
  with_reducible assumption
  exact kf.sub rfl
  exact kf.sub rfl
  simp -zeta only
  with_reducible apply State.cmdReads_framed
  with_reducible refine framed_of_pair (by with_reducible assumption) ?_
  with_reducible apply State.watch_framed
  with_reducible refine framed_of_pair (by with_reducible assumption) ?_
  with_reducible apply State.watch_framed
  with_reducible refine framed_of_pair (by with_reducible assumption) ?_
  with_reducible apply State.cmdWrites_framed
  with_reducible assumption
  exact kf.sub rfl
  intro _ _
  with_reducible apply State.busWrite_framed
  with_reducible assumption
  exact kf.sub rfl
  exact kf.sub rfl
  intro _ _
  with_reducible apply State.busWrite_framed
  with_reducible assumption
  exact kf.sub rfl
  exact kf.sub rfl
  exact kf.sub rfl
  simp -zeta only
  with_reducible refine framed_of_pair (by with_reducible assumption) ?_
  with_reducible apply State.cmdWrites_framed
  with_reducible assumption
  exact kf.sub rfl
  exact kf.sub rfl

theorem execCaptureCfg_framed {k : Fin 16} {s : State} (hs : State.Framed q b s) (kf : b.free (regParts ++ [Part.now, Part.mem, Part.fresh, Part.seq, Part.time, Part.pulses, Part.lk, Part.evts, Part.ports, Part.axes, Part.sdclk, Part.fbs, Part.loops, Part.arms, Part.kiln, Part.tiles, Part.stk, Part.pc, Part.ic, Part.si, Part.eth, Part.chain, Part.mb, Part.boot])) :
    answers (execCaptureCfg k s) (State.Framed q b) := by
  unfold execCaptureCfg
  with_reducible apply answers_next
  with_reducible apply State.runCmd_framed
  with_reducible assumption
  intro _ _ _
  split
  simp -zeta only
  with_reducible assumption
  with_reducible apply plain_framed
  with_reducible apply State.cmdWrite_framed
  with_reducible assumption
  exact kf.sub rfl
  exact kf.sub rfl

theorem execCaptureRead_framed {k : Fin 16} {s : State} (hs : State.Framed q b s) (kf : b.free [Part.caps, Part.mb]) :
    answers (execCaptureRead k s) (State.Framed q b) := by
  have k_caps : b.keep .caps = false := kf.get rfl
  unfold execCaptureRead
  with_reducible apply answers_next
  with_reducible apply State.runCmd_framed
  with_reducible assumption
  intro _ _ _
  extract_lets +onlyGivenNames x; clear_value x
  extract_lets +onlyGivenNames x; clear_value x
  extract_lets +onlyGivenNames x; clear_value x
  split
  simp -zeta only
  with_reducible assumption
  simp -zeta only [framed_mk, k_caps, or_true, true_or]
  with_reducible assumption
  exact kf.sub rfl

theorem execLktRead_framed {k : Fin 16} {s : State} (hs : State.Framed q b s) (kf : b.free [Part.mb]) :
    answers (execLktRead k s) (State.Framed q b) := by
  unfold execLktRead
  with_reducible apply answers_next
  with_reducible apply State.runCmd_framed
  with_reducible assumption
  intro _ _ _
  extract_lets +onlyGivenNames x; clear_value x
  extract_lets +onlyGivenNames x; clear_value x
  extract_lets +onlyGivenNames x; clear_value x
  split
  simp -zeta only
  with_reducible assumption
  simp -zeta only
  with_reducible assumption
  exact kf.sub rfl

theorem execLktInfo_framed {k : Fin 16} {s : State} (hs : State.Framed q b s) (kf : b.free [Part.mb]) :
    answers (execLktInfo k s) (State.Framed q b) := by
  unfold execLktInfo
  with_reducible apply answers_next
  with_reducible apply State.runCmd_framed
  with_reducible assumption
  intro _ _ _
  simp -zeta only
  with_reducible assumption
  exact kf.sub rfl

theorem execLktFlush_framed {k : Fin 16} {s : State} (hs : State.Framed q b s) (kf : b.free [Part.reg RegGroup.lk, Part.lk, Part.mb]) :
    answers (execLktFlush k s) (State.Framed q b) := by
  unfold execLktFlush
  with_reducible apply answers_next
  with_reducible apply State.runCmd_framed
  with_reducible assumption
  intro _ _ _
  simp -zeta only
  with_reducible apply State.startFlush_framed
  with_reducible assumption
  exact kf.sub rfl
  exact kf.sub rfl

theorem execLktFilter_framed {k : Fin 16} {s : State} (hs : State.Framed q b s) (kf : b.free [Part.lk, Part.mb]) :
    answers (execLktFilter k s) (State.Framed q b) := by
  have k_lk : b.keep .lk = false := kf.get rfl
  unfold execLktFilter
  with_reducible apply answers_next
  with_reducible apply State.runCmd_framed
  with_reducible assumption
  intro _ _ _
  extract_lets +onlyGivenNames x; clear_value x
  extract_lets +onlyGivenNames x; clear_value x
  split
  simp -zeta only
  with_reducible assumption
  simp -zeta only [framed_mk, k_lk, or_true, true_or]
  with_reducible assumption
  exact kf.sub rfl

theorem execLktMark_framed {k : Fin 16} {s : State} (hs : State.Framed q b s) (kf : b.free (postParts ++ [Part.fresh, Part.mb])) :
    answers (execLktMark k s) (State.Framed q b) := by
  unfold execLktMark
  with_reducible apply answers_next
  with_reducible apply State.runCmd_framed
  with_reducible assumption
  intro _ _ _
  extract_lets +onlyGivenNames x; refine (fun (hx : State.Framed q b x) => ?_) ?_ <;> [(try clear_value x); subst x]
  extract_lets +onlyGivenNames x; clear_value x
  split
  simp -zeta only
  with_reducible apply State.useFresh_framed
  extract_lets +onlyGivenNames x; subst x
  with_reducible assumption
  exact kf.sub rfl
  simp -zeta only
  with_reducible assumption
  with_reducible apply State.post_framed
  with_reducible assumption
  exact kf.sub rfl
  exact kf.sub rfl

theorem execHci1Post_framed {s : State} (hs : State.Framed q b s) (kf : b.free [Part.reg RegGroup.hm, Part.mb]) :
    answers (execHci1Post s) (State.Framed q b) := by
  unfold execHci1Post
  with_reducible apply answers_next
  with_reducible apply State.postSlot_framed
  with_reducible assumption
  exact kf.sub rfl

theorem execHci1Free_framed {s : State} (hs : State.Framed q b s) (kf : b.free [Part.reg RegGroup.ic, Part.reg RegGroup.hm, Part.mb]) :
    answers (execHci1Free s) (State.Framed q b) := by
  unfold execHci1Free
  with_reducible apply answers_next
  with_reducible apply State.freeSlot_framed
  with_reducible assumption
  exact kf.sub rfl

theorem State.hqWord_framed {s : State} {w : Nat} (hs : State.Framed q b s) (kf : b.free [Part.reg RegGroup.ic, Part.reg RegGroup.hm, Part.rdata, Part.evts, Part.mb]) :
    State.Framed q b (State.hqWord s w).1 := by
  unfold State.hqWord
  extract_lets +onlyGivenNames x; refine (fun (hx : State.Framed q b x) => ?_) ?_ <;> [(try clear_value x); subst x]
  extract_lets +onlyGivenNames x; clear_value x
  extract_lets +onlyGivenNames x; clear_value x
  split
  simp -zeta only
  with_reducible assumption
  split
  simp -zeta only
  with_reducible assumption
  split
  simp -zeta only
  with_reducible assumption
  split
  simp -zeta only
  with_reducible assumption
  split
  simp -zeta only
  with_reducible apply framed_ite
  with_reducible apply State.statRead_framed
  with_reducible assumption
  exact kf.sub rfl
  with_reducible assumption
  simp -zeta only
  with_reducible assumption
  with_reducible apply State.eventRead_framed
  with_reducible assumption
  exact kf.sub rfl

theorem State.hqWords_framed {s : State} {l : List Nat} (hs : State.Framed q b s) (kf :
    b.free [Part.reg RegGroup.ic, Part.reg RegGroup.hm, Part.rdata, Part.evts, Part.mb]) :
  State.Framed q b (State.hqWords s l).1 := by
  induction l generalizing s with
  | nil => exact hs
  | cons w l ih => exact ih (State.hqWord_framed hs (kf.sub rfl))

theorem execQspiRead_framed {w : BitVec 16} {n : Nat} {s : State} (hs : State.Framed q b s) (kf : b.free [Part.reg RegGroup.ic, Part.reg RegGroup.hm, Part.rdata, Part.evts, Part.mb]) :
    answers (execQspiRead w n s) (State.Framed q b) := by
  unfold execQspiRead
  simp -zeta only
  with_reducible apply answers_ite
  with_reducible apply answers_next
  with_reducible apply State.answer_framed
  with_reducible apply State.hqWords_framed
  with_reducible assumption
  exact kf.sub rfl
  exact kf.sub rfl
  with_reducible apply answers_next
  with_reducible assumption

theorem State.hqWrite_framed {s : State} {w : Nat} {v : BitVec 16} (hs : State.Framed q b s) (kf : b.free [Part.reg RegGroup.ic, Part.reg RegGroup.hm, Part.mb]) :
    State.Framed q b (State.hqWrite s w v) := by
  unfold State.hqWrite
  with_reducible apply framed_ite
  with_reducible apply framed_ite
  with_reducible apply State.postSlot_framed
  with_reducible assumption
  exact kf.sub rfl
  with_reducible apply framed_ite
  with_reducible apply State.freeSlot_framed
  with_reducible assumption
  exact kf.sub rfl
  with_reducible assumption
  with_reducible apply framed_ite
  with_reducible apply State.slotWrite_framed
  with_reducible assumption
  exact kf.sub rfl
  with_reducible assumption

theorem execQspiWrite_framed {w : BitVec 16} {ws : List (BitVec 16)} {s : State} (hs : State.Framed q b s) (kf : b.free [Part.reg RegGroup.ic, Part.reg RegGroup.hm, Part.mb]) :
    answers (execQspiWrite w ws s) (State.Framed q b) := by
  unfold execQspiWrite
  with_reducible apply answers_next
  with_reducible apply framed_ite
  with_reducible apply framed_foldl
  intro _ _ _
  with_reducible apply State.hqWrite_framed
  with_reducible assumption
  exact kf.sub rfl
  with_reducible assumption
  with_reducible assumption

theorem State.runMx_framed {s : State} {op : Nat} {f : State → MbSlot → State × Nat × List Byte} (hs : State.Framed q b s) (hf : ∀ s y0, State.Framed q b s → State.Framed q b (f s y0).1) (kf : b.free [Part.mb]) :
    State.Framed q b (State.runMx s op f) := by
  unfold State.runMx
  extract_lets +onlyGivenNames x; clear_value x
  simp -zeta only
  with_reducible apply framed_ite
  with_reducible apply State.setOut_framed
  with_reducible apply hf
  with_reducible assumption
  exact kf.sub rfl
  with_reducible assumption

theorem execHci1Identity_framed {s : State} (hs : State.Framed q b s) (kf : b.free [Part.mb]) :
    answers (execHci1Identity s) (State.Framed q b) := by
  unfold execHci1Identity
  with_reducible apply answers_next
  with_reducible apply State.runMx_framed
  with_reducible assumption
  intro _ _ _
  simp -zeta only
  with_reducible assumption
  exact kf.sub rfl

theorem State.mxMove_framed {s : State} {x : MbSlot} {kind : Nat} (hs : State.Framed q b s) (kf : b.free [Part.reg RegGroup.arm, Part.arms]) :
    State.Framed q b (State.mxMove s x kind).1 := by
  unfold State.mxMove
  extract_lets +onlyGivenNames x; clear_value x
  simp -zeta only
  with_reducible apply State.offerMove_framed
  with_reducible assumption
  exact kf.sub rfl

theorem execHci1AbsMove_framed {s : State} (hs : State.Framed q b s) (kf : b.free [Part.reg RegGroup.arm, Part.arms, Part.mb]) :
    answers (execHci1AbsMove s) (State.Framed q b) := by
  unfold execHci1AbsMove
  with_reducible apply answers_next
  with_reducible apply State.runMx_framed
  with_reducible assumption
  intro _ _ _
  with_reducible apply State.mxMove_framed
  with_reducible assumption
  exact kf.sub rfl
  exact kf.sub rfl

theorem execHci1RelMove_framed {s : State} (hs : State.Framed q b s) (kf : b.free [Part.reg RegGroup.arm, Part.arms, Part.mb]) :
    answers (execHci1RelMove s) (State.Framed q b) := by
  unfold execHci1RelMove
  with_reducible apply answers_next
  with_reducible apply State.runMx_framed
  with_reducible assumption
  intro _ _ _
  with_reducible apply State.mxMove_framed
  with_reducible assumption
  exact kf.sub rfl
  exact kf.sub rfl

theorem execHci1Stop_framed {s : State} (hs : State.Framed q b s) (kf : b.free [Part.arms, Part.mb]) :
    answers (execHci1Stop s) (State.Framed q b) := by
  unfold execHci1Stop
  with_reducible apply answers_next
  with_reducible apply State.runMx_framed
  with_reducible assumption
  intro _ _ _
  simp -zeta only
  with_reducible apply State.via_framed
  with_reducible assumption
  intro _ _
  with_reducible apply execArmAbort_framed
  with_reducible assumption
  exact kf.sub rfl
  exact kf.sub rfl

theorem execHci1Status_framed {s : State} (hs : State.Framed q b s) (kf : b.free (regParts ++ [Part.fresh, Part.rdata, Part.caps, Part.evts, Part.kiln, Part.mb])) :
    answers (execHci1Status s) (State.Framed q b) := by
  unfold execHci1Status
  with_reducible apply answers_next
  with_reducible apply State.runMx_framed
  with_reducible assumption
  intro _ _ _
  with_reducible apply State.armStatus_framed
  with_reducible assumption
  exact kf.sub rfl
  exact kf.sub rfl

theorem execHci1ReadTime_framed {s : State} (hs : State.Framed q b s) (kf : b.free (regParts ++ [Part.fresh, Part.rdata, Part.caps, Part.evts, Part.kiln, Part.mb])) :
    answers (execHci1ReadTime s) (State.Framed q b) := by
  unfold execHci1ReadTime
  with_reducible apply answers_next
  with_reducible apply State.runMx_framed
  with_reducible assumption
  intro _ _ _
  with_reducible apply State.timeGet_framed
  with_reducible assumption
  exact kf.sub rfl
  exact kf.sub rfl

end Sys2Proof.Machine

/-! The MX-16 instructions and the window edge keep what `State.Framed` says: one lemma per operation. -/

namespace Sys2Proof.Machine

open Sys2Proof

variable {q : List Instr} {b : Kept}

theorem State.mx_framed {s : State} {t_ : Fin 32} {size : Nat} {cycles : Nat} {ws : Tile → List (Nat × EWrite)} (hs : State.Framed q b s) (kf : b.free [Part.reg RegGroup.ic, Part.tiles, Part.ic]) :
    State.Framed q b (State.mx s t_ size cycles ws) := by
  unfold State.mx
  with_reducible apply State.issue_framed
  with_reducible assumption
  intro _ _
  with_reducible apply State.queue_framed
  with_reducible assumption
  exact kf.sub rfl
  exact kf.sub rfl

theorem State.mxCtl_framed {s : State} {t_ : Fin 32} {size : Nat} {cycles : Nat} {f : Tile → Tile} (hs : State.Framed q b s) (kf : b.free [Part.reg RegGroup.ic, Part.tiles, Part.ic]) :
    State.Framed q b (State.mxCtl s t_ size cycles f) := by
  unfold State.mxCtl
  with_reducible apply State.issue_framed
  with_reducible assumption
  intro _ _
  with_reducible apply State.setTile_framed
  with_reducible assumption
  exact kf.sub rfl
  exact kf.sub rfl

theorem execMxNop_framed {t_ : Fin 32} {s : State} (hs : State.Framed q b s) (kf : b.free [Part.reg RegGroup.ic, Part.tiles, Part.ic]) :
    answers (execMxNop t_ s) (State.Framed q b) := by
  unfold execMxNop
  with_reducible apply answers_next
  with_reducible apply State.mx_framed
  with_reducible assumption
  exact kf.sub rfl

theorem execMxHalt_framed {t_ : Fin 32} {s : State} (hs : State.Framed q b s) (kf : b.free [Part.reg RegGroup.stk, Part.reg RegGroup.ic, Part.tiles, Part.stk, Part.ic]) :
    answers (execMxHalt t_ s) (State.Framed q b) := by
  unfold execMxHalt
  with_reducible apply answers_next
  with_reducible apply State.gate_framed
  with_reducible assumption
  intro _ _
  with_reducible apply State.taskEnd_framed
  with_reducible assumption
  exact kf.sub rfl
  exact kf.sub rfl

theorem execMxRet_framed {t_ : Fin 32} {s : State} (hs : State.Framed q b s) (kf : b.free [Part.reg RegGroup.ic, Part.tiles, Part.ic]) :
    answers (execMxRet t_ s) (State.Framed q b) := by
  unfold execMxRet
  with_reducible apply answers_next
  with_reducible apply State.mxCtl_framed
  with_reducible assumption
  exact kf.sub rfl

theorem execMxRptImm_framed {t_ : Fin 32} {n : Fin 256} {s : State} (hs : State.Framed q b s) (kf : b.free [Part.reg RegGroup.ic, Part.tiles, Part.ic]) :
    answers (execMxRptImm t_ n s) (State.Framed q b) := by
  unfold execMxRptImm
  with_reducible apply answers_next
  with_reducible apply State.mxCtl_framed
  with_reducible assumption
  exact kf.sub rfl

theorem execMxRptReg_framed {t_ : Fin 32} {r : Fin 8} {s : State} (hs : State.Framed q b s) (kf : b.free [Part.reg RegGroup.ic, Part.tiles, Part.ic]) :
    answers (execMxRptReg t_ r s) (State.Framed q b) := by
  unfold execMxRptReg
  with_reducible apply answers_next
  with_reducible apply State.mxCtl_framed
  with_reducible assumption
  exact kf.sub rfl

theorem execMxEi_framed {t_ : Fin 32} {s : State} (hs : State.Framed q b s) (kf : b.free [Part.reg RegGroup.ic, Part.tiles, Part.ic]) :
    answers (execMxEi t_ s) (State.Framed q b) := by
  unfold execMxEi
  with_reducible apply answers_next
  with_reducible apply State.mxCtl_framed
  with_reducible assumption
  exact kf.sub rfl

theorem execMxDi_framed {t_ : Fin 32} {s : State} (hs : State.Framed q b s) (kf : b.free [Part.reg RegGroup.ic, Part.tiles, Part.ic]) :
    answers (execMxDi t_ s) (State.Framed q b) := by
  unfold execMxDi
  with_reducible apply answers_next
  with_reducible apply State.mxCtl_framed
  with_reducible assumption
  exact kf.sub rfl

theorem execMxClampon_framed {t_ : Fin 32} {s : State} (hs : State.Framed q b s) (kf : b.free [Part.reg RegGroup.ic, Part.tiles, Part.ic]) :
    answers (execMxClampon t_ s) (State.Framed q b) := by
  unfold execMxClampon
  with_reducible apply answers_next
  with_reducible apply State.mxCtl_framed
  with_reducible assumption
  exact kf.sub rfl

theorem execMxClampoff_framed {t_ : Fin 32} {s : State} (hs : State.Framed q b s) (kf : b.free [Part.reg RegGroup.ic, Part.tiles, Part.ic]) :
    answers (execMxClampoff t_ s) (State.Framed q b) := by
  unfold execMxClampoff
  with_reducible apply answers_next
  with_reducible apply State.mxCtl_framed
  with_reducible assumption
  exact kf.sub rfl

theorem execMxClrs_framed {t_ : Fin 32} {s : State} (hs : State.Framed q b s) (kf : b.free [Part.reg RegGroup.ic, Part.tiles, Part.ic]) :
    answers (execMxClrs t_ s) (State.Framed q b) := by
  unfold execMxClrs
  with_reducible apply answers_next
  with_reducible apply State.mxCtl_framed
  with_reducible assumption
  exact kf.sub rfl

theorem execMxBranch_framed {t_ : Fin 32} {cc : Fin 16} {off : BitVec 8} {s : State} (hs : State.Framed q b s) (kf : b.free [Part.reg RegGroup.ic, Part.tiles, Part.ic]) :
    answers (execMxBranch t_ cc off s) (State.Framed q b) := by
  unfold execMxBranch
  with_reducible apply answers_next
  with_reducible apply State.issue_framed
  with_reducible assumption
  intro _ _
  with_reducible apply State.illegalIf_framed
  with_reducible assumption
  intro _ _
  extract_lets +onlyGivenNames x; clear_value x
  with_reducible apply State.setTile_framed
  with_reducible assumption
  exact kf.sub rfl
  exact kf.sub rfl
  exact kf.sub rfl

theorem execMxLongBranch_framed {t_ : Fin 32} {w : BitVec 16} {s : State} (hs : State.Framed q b s) (kf : b.free [Part.reg RegGroup.ic, Part.tiles, Part.ic]) :
    answers (execMxLongBranch t_ w s) (State.Framed q b) := by
  unfold execMxLongBranch
  with_reducible apply answers_next
  with_reducible apply State.mxCtl_framed
  with_reducible assumption
  exact kf.sub rfl

theorem execMxCall_framed {t_ : Fin 32} {w : BitVec 16} {s : State} (hs : State.Framed q b s) (kf : b.free [Part.reg RegGroup.ic, Part.tiles, Part.ic]) :
    answers (execMxCall t_ w s) (State.Framed q b) := by
  unfold execMxCall
  with_reducible apply answers_next
  with_reducible apply State.mxCtl_framed
  with_reducible assumption
  exact kf.sub rfl

theorem execMxLoadDirect_framed {t_ : Fin 32} {r : Fin 8} {w : BitVec 16} {s : State} (hs : State.Framed q b s) (kf : b.free [Part.reg RegGroup.ic, Part.tiles, Part.ic]) :
    answers (execMxLoadDirect t_ r w s) (State.Framed q b) := by
  unfold execMxLoadDirect
  with_reducible apply answers_next
  with_reducible apply State.issue_framed
  with_reducible assumption
  intro _ _
  with_reducible apply State.access_framed
  with_reducible assumption
  exact kf.sub rfl
  exact kf.sub rfl

theorem execMxStoreDirect_framed {t_ : Fin 32} {r : Fin 8} {w : BitVec 16} {s : State} (hs : State.Framed q b s) (kf : b.free [Part.reg RegGroup.ic, Part.mem, Part.tiles, Part.ic]) :
    answers (execMxStoreDirect t_ r w s) (State.Framed q b) := by
  unfold execMxStoreDirect
  with_reducible apply answers_next
  with_reducible apply State.issue_framed
  with_reducible assumption
  intro _ _
  with_reducible apply State.storeWords_framed
  with_reducible assumption
  exact kf.sub rfl
  exact kf.sub rfl

theorem execMxLoadIndirect_framed {t_ : Fin 32} {r : Fin 8} {m : MxMem} {s : State} (hs : State.Framed q b s) (kf : b.free [Part.reg RegGroup.ic, Part.tiles, Part.ic]) :
    answers (execMxLoadIndirect t_ r m s) (State.Framed q b) := by
  unfold execMxLoadIndirect
  with_reducible apply answers_next
  with_reducible apply State.issue_framed
  with_reducible assumption
  intro _ _
  with_reducible apply State.access_framed
  with_reducible assumption
  exact kf.sub rfl
  exact kf.sub rfl

theorem execMxStoreIndirect_framed {t_ : Fin 32} {r : Fin 8} {m : MxMem} {s : State} (hs : State.Framed q b s) (kf : b.free [Part.reg RegGroup.ic, Part.mem, Part.tiles, Part.ic]) :
    answers (execMxStoreIndirect t_ r m s) (State.Framed q b) := by
  unfold execMxStoreIndirect
  with_reducible apply answers_next
  with_reducible apply State.issue_framed
  with_reducible assumption
  intro _ _
  with_reducible apply State.storeWords_framed
  with_reducible assumption
  exact kf.sub rfl
  exact kf.sub rfl

theorem execMxAluReg_framed {t_ : Fin 32} {op : Fin 16} {rd : Fin 8} {rs : Fin 8} {s : State} (hs : State.Framed q b s) (kf : b.free [Part.reg RegGroup.ic, Part.tiles, Part.ic]) :
    answers (execMxAluReg t_ op rd rs s) (State.Framed q b) := by
  unfold execMxAluReg
  with_reducible apply answers_next
  with_reducible apply State.mx_framed
  with_reducible assumption
  exact kf.sub rfl

theorem execMxAluImm_framed {t_ : Fin 32} {op : MxImmOp} {rd : Fin 8} {imm : BitVec 16} {s : State} (hs : State.Framed q b s) (kf : b.free [Part.reg RegGroup.ic, Part.tiles, Part.ic]) :
    answers (execMxAluImm t_ op rd imm s) (State.Framed q b) := by
  unfold execMxAluImm
  with_reducible apply answers_next
  with_reducible apply State.mx_framed
  with_reducible assumption
  exact kf.sub rfl

theorem execMxMpy_framed {t_ : Fin 32} {ac : Fin 2} {rs : Fin 8} {rt : Fin 8} {s : State} (hs : State.Framed q b s) (kf : b.free [Part.reg RegGroup.ic, Part.tiles, Part.ic]) :
    answers (execMxMpy t_ ac rs rt s) (State.Framed q b) := by
  unfold execMxMpy
  with_reducible apply answers_next
  with_reducible apply State.mx_framed
  with_reducible assumption
  exact kf.sub rfl

theorem execMxMac_framed {t_ : Fin 32} {ac : Fin 2} {rs : Fin 8} {rt : Fin 8} {s : State} (hs : State.Framed q b s) (kf : b.free [Part.reg RegGroup.ic, Part.tiles, Part.ic]) :
    answers (execMxMac t_ ac rs rt s) (State.Framed q b) := by
  unfold execMxMac
  with_reducible apply answers_next
  with_reducible apply State.mx_framed
  with_reducible assumption
  exact kf.sub rfl

theorem execMxMsu_framed {t_ : Fin 32} {ac : Fin 2} {rs : Fin 8} {rt : Fin 8} {s : State} (hs : State.Framed q b s) (kf : b.free [Part.reg RegGroup.ic, Part.tiles, Part.ic]) :
    answers (execMxMsu t_ ac rs rt s) (State.Framed q b) := by
  unfold execMxMsu
  with_reducible apply answers_next
  with_reducible apply State.mx_framed
  with_reducible assumption
  exact kf.sub rfl

theorem execMxMpyr_framed {t_ : Fin 32} {rd : Fin 8} {rs : Fin 8} {rt : Fin 8} {s : State} (hs : State.Framed q b s) (kf : b.free [Part.reg RegGroup.ic, Part.tiles, Part.ic]) :
    answers (execMxMpyr t_ rd rs rt s) (State.Framed q b) := by
  unfold execMxMpyr
  with_reducible apply answers_next
  with_reducible apply State.mx_framed
  with_reducible assumption
  exact kf.sub rfl

theorem execMxMacMem_framed {t_ : Fin 32} {ac : Fin 2} {x : Fin 2} {y : Fin 2} {sx : MxStep} {sy : MxStep} {s : State} (hs : State.Framed q b s) (kf : b.free [Part.reg RegGroup.ic, Part.tiles, Part.ic]) :
    answers (execMxMacMem t_ ac x y sx sy s) (State.Framed q b) := by
  unfold execMxMacMem
  with_reducible apply answers_next
  with_reducible apply State.issue_framed
  with_reducible assumption
  intro _ _
  extract_lets +onlyGivenNames x; clear_value x
  with_reducible apply State.access_framed
  with_reducible assumption
  exact kf.sub rfl
  exact kf.sub rfl

theorem execMxMsuMem_framed {t_ : Fin 32} {ac : Fin 2} {x : Fin 2} {y : Fin 2} {sx : MxStep} {sy : MxStep} {s : State} (hs : State.Framed q b s) (kf : b.free [Part.reg RegGroup.ic, Part.tiles, Part.ic]) :
    answers (execMxMsuMem t_ ac x y sx sy s) (State.Framed q b) := by
  unfold execMxMsuMem
  with_reducible apply answers_next
  with_reducible apply State.issue_framed
  with_reducible assumption
  intro _ _
  extract_lets +onlyGivenNames x; clear_value x
  with_reducible apply State.access_framed
  with_reducible assumption
  exact kf.sub rfl
  exact kf.sub rfl

theorem execMxAccClr_framed {t_ : Fin 32} {ac : Fin 2} {s : State} (hs : State.Framed q b s) (kf : b.free [Part.reg RegGroup.ic, Part.tiles, Part.ic]) :
    answers (execMxAccClr t_ ac s) (State.Framed q b) := by
  unfold execMxAccClr
  with_reducible apply answers_next
  with_reducible apply State.mx_framed
  with_reducible assumption
  exact kf.sub rfl

theorem execMxAccAdd_framed {t_ : Fin 32} {ac : Fin 2} {s : State} (hs : State.Framed q b s) (kf : b.free [Part.reg RegGroup.ic, Part.tiles, Part.ic]) :
    answers (execMxAccAdd t_ ac s) (State.Framed q b) := by
  unfold execMxAccAdd
  with_reducible apply answers_next
  with_reducible apply State.mx_framed
  with_reducible assumption
  exact kf.sub rfl

theorem execMxAccSub_framed {t_ : Fin 32} {ac : Fin 2} {s : State} (hs : State.Framed q b s) (kf : b.free [Part.reg RegGroup.ic, Part.tiles, Part.ic]) :
    answers (execMxAccSub t_ ac s) (State.Framed q b) := by
  unfold execMxAccSub
  with_reducible apply answers_next
  with_reducible apply State.mx_framed
  with_reducible assumption
  exact kf.sub rfl

theorem execMxAccNeg_framed {t_ : Fin 32} {ac : Fin 2} {s : State} (hs : State.Framed q b s) (kf : b.free [Part.reg RegGroup.ic, Part.tiles, Part.ic]) :
    answers (execMxAccNeg t_ ac s) (State.Framed q b) := by
  unfold execMxAccNeg
  with_reducible apply answers_next
  with_reducible apply State.mx_framed
  with_reducible assumption
  exact kf.sub rfl

theorem execMxAccAbs_framed {t_ : Fin 32} {ac : Fin 2} {s : State} (hs : State.Framed q b s) (kf : b.free [Part.reg RegGroup.ic, Part.tiles, Part.ic]) :
    answers (execMxAccAbs t_ ac s) (State.Framed q b) := by
  unfold execMxAccAbs
  with_reducible apply answers_next
  with_reducible apply State.mx_framed
  with_reducible assumption
  exact kf.sub rfl

theorem execMxAccShl_framed {t_ : Fin 32} {ac : Fin 2} {k : Fin 32} {s : State} (hs : State.Framed q b s) (kf : b.free [Part.reg RegGroup.ic, Part.tiles, Part.ic]) :
    answers (execMxAccShl t_ ac k s) (State.Framed q b) := by
  unfold execMxAccShl
  with_reducible apply answers_next
  with_reducible apply State.mx_framed
  with_reducible assumption
  exact kf.sub rfl

theorem execMxAccShr_framed {t_ : Fin 32} {ac : Fin 2} {k : Fin 32} {s : State} (hs : State.Framed q b s) (kf : b.free [Part.reg RegGroup.ic, Part.tiles, Part.ic]) :
    answers (execMxAccShr t_ ac k s) (State.Framed q b) := by
  unfold execMxAccShr
  with_reducible apply answers_next
  with_reducible apply State.mx_framed
  with_reducible assumption
  exact kf.sub rfl

theorem execMxAccRound_framed {t_ : Fin 32} {ac : Fin 2} {r : Fin 8} {s : State} (hs : State.Framed q b s) (kf : b.free [Part.reg RegGroup.ic, Part.tiles, Part.ic]) :
    answers (execMxAccRound t_ ac r s) (State.Framed q b) := by
  unfold execMxAccRound
  with_reducible apply answers_next
  with_reducible apply State.mx_framed
  with_reducible assumption
  exact kf.sub rfl

theorem execMxAccLoad_framed {t_ : Fin 32} {ac : Fin 2} {r : Fin 8} {s : State} (hs : State.Framed q b s) (kf : b.free [Part.reg RegGroup.ic, Part.tiles, Part.ic]) :
    answers (execMxAccLoad t_ ac r s) (State.Framed q b) := by
  unfold execMxAccLoad
  with_reducible apply answers_next
  with_reducible apply State.mx_framed
  with_reducible assumption
  exact kf.sub rfl

theorem execMxIxLoad_framed {t_ : Fin 32} {x : Fin 4} {w : BitVec 16} {s : State} (hs : State.Framed q b s) (kf : b.free [Part.reg RegGroup.ic, Part.tiles, Part.ic]) :
    answers (execMxIxLoad t_ x w s) (State.Framed q b) := by
  unfold execMxIxLoad
  with_reducible apply answers_next
  with_reducible apply State.mx_framed
  with_reducible assumption
  exact kf.sub rfl

theorem execMxIxAdd_framed {t_ : Fin 32} {x : Fin 4} {o : BitVec 8} {s : State} (hs : State.Framed q b s) (kf : b.free [Part.reg RegGroup.ic, Part.tiles, Part.ic]) :
    answers (execMxIxAdd t_ x o s) (State.Framed q b) := by
  unfold execMxIxAdd
  with_reducible apply answers_next
  with_reducible apply State.mx_framed
  with_reducible assumption
  exact kf.sub rfl

theorem execMxIxToR_framed {t_ : Fin 32} {x : Fin 4} {r : Fin 8} {s : State} (hs : State.Framed q b s) (kf : b.free [Part.reg RegGroup.ic, Part.tiles, Part.ic]) :
    answers (execMxIxToR t_ x r s) (State.Framed q b) := by
  unfold execMxIxToR
  with_reducible apply answers_next
  with_reducible apply State.mx_framed
  with_reducible assumption
  exact kf.sub rfl

theorem execMxRToIx_framed {t_ : Fin 32} {x : Fin 4} {r : Fin 8} {s : State} (hs : State.Framed q b s) (kf : b.free [Part.reg RegGroup.ic, Part.tiles, Part.ic]) :
    answers (execMxRToIx t_ x r s) (State.Framed q b) := by
  unfold execMxRToIx
  with_reducible apply answers_next
  with_reducible apply State.mx_framed
  with_reducible assumption
  exact kf.sub rfl

theorem execMxIn_framed {t_ : Fin 32} {r : Fin 8} {k : BitVec 8} {s : State} (hs : State.Framed q b s) (kf : b.free [Part.reg RegGroup.ic, Part.tiles, Part.ic]) :
    answers (execMxIn t_ r k s) (State.Framed q b) := by
  unfold execMxIn
  with_reducible apply answers_next
  with_reducible apply State.issue_framed
  with_reducible assumption
  intro _ _
  with_reducible apply State.access_framed
  with_reducible assumption
  exact kf.sub rfl
  exact kf.sub rfl

theorem execMxOut_framed {t_ : Fin 32} {r : Fin 8} {k : BitVec 8} {s : State} (hs : State.Framed q b s) (kf : b.free [Part.reg RegGroup.ic, Part.mem, Part.tiles, Part.ic]) :
    answers (execMxOut t_ r k s) (State.Framed q b) := by
  unfold execMxOut
  with_reducible apply answers_next
  with_reducible apply State.issue_framed
  with_reducible assumption
  intro _ _
  with_reducible apply State.storeWords_framed
  with_reducible assumption
  exact kf.sub rfl
  exact kf.sub rfl

theorem execMxStatusRead_framed {t_ : Fin 32} {r : Fin 8} {s : State} (hs : State.Framed q b s) (kf : b.free [Part.reg RegGroup.ic, Part.tiles, Part.ic]) :
    answers (execMxStatusRead t_ r s) (State.Framed q b) := by
  unfold execMxStatusRead
  with_reducible apply answers_next
  with_reducible apply State.mx_framed
  with_reducible assumption
  exact kf.sub rfl

theorem execMxStatusWrite_framed {t_ : Fin 32} {r : Fin 8} {s : State} (hs : State.Framed q b s) (kf : b.free [Part.reg RegGroup.ic, Part.tiles, Part.ic]) :
    answers (execMxStatusWrite t_ r s) (State.Framed q b) := by
  unfold execMxStatusWrite
  with_reducible apply answers_next
  with_reducible apply State.mxCtl_framed
  with_reducible assumption
  exact kf.sub rfl

theorem State.nextPeriod_framed {s : State} (hs : State.Framed q b s) (kf : b.free [Part.pc]) : State.Framed q b (State.nextPeriod s) := by
  unfold State.nextPeriod
  with_reducible apply State.updPc_framed
  with_reducible assumption
  exact kf.sub rfl

theorem State.senseEdge_framed {s : State} {w : Time} (hs : State.Framed q b s) (kf : b.free (postParts ++ [Part.reg RegGroup.sdf, Part.reg RegGroup.fb, Part.sdclk, Part.filters, Part.fbs])) :
    State.Framed q b (State.senseEdge s w) := by
  unfold State.senseEdge
  extract_lets +onlyGivenNames x; refine (fun (hx : State.Framed q b x) => ?_) ?_ <;> [(try clear_value x); subst x]
  with_reducible apply framed_foldl
  intro _ _ _
  with_reducible apply framed_ite
  with_reducible apply State.speedReport_framed
  with_reducible apply State.deliverReading_framed
  with_reducible assumption
  exact kf.sub rfl
  exact kf.sub rfl
  with_reducible assumption
  with_reducible assumption
  with_reducible apply framed_foldl
  intro _ _ _
  with_reducible apply State.applyFilter_framed
  with_reducible assumption
  exact kf.sub rfl
  with_reducible apply State.applyClocks_framed
  with_reducible assumption
  exact kf.sub rfl

theorem execWindowEdge_framed {s : State} (hs : State.Framed q b s) (kf : b.free (regParts ++ [Part.now, Part.mem, Part.fresh, Part.seq, Part.time, Part.pulses, Part.lk, Part.evts, Part.ports, Part.axes, Part.sdclk, Part.filters, Part.fbs, Part.loops, Part.arms, Part.kiln, Part.tiles, Part.stk, Part.pc, Part.ic, Part.si, Part.eth, Part.chain, Part.mb, Part.boot])) :
    answers (execWindowEdge s) (State.Framed q b) := by
  have k_seq : b.keep .seq = false := kf.get rfl
  unfold execWindowEdge
  extract_lets +onlyGivenNames x; clear_value x
  extract_lets +onlyGivenNames x; clear_value x
  extract_lets +onlyGivenNames x; refine (fun (hx : State.Framed q b x) => ?_) ?_ <;> [(try clear_value x); subst x]
  extract_lets +onlyGivenNames x; clear_value x
  extract_lets +onlyGivenNames x; refine (fun (hx : State.Framed q b x) => ?_) ?_ <;> [(try clear_value x); subst x]
  extract_lets +onlyGivenNames x; refine (fun (hx : State.Framed q b x) => ?_) ?_ <;> [(try clear_value x); subst x]
  with_reducible apply answers_ite
  with_reducible apply answers_next
  with_reducible assumption
  with_reducible apply answers_next
  with_reducible apply State.loopTableEdge_framed
  with_reducible apply State.stackEdge_framed
  with_reducible apply State.senseEdge_framed
  with_reducible assumption
  exact kf.sub rfl
  exact kf.sub rfl
  exact kf.sub rfl
  with_reducible apply State.transferJoin_framed
  with_reducible apply State.transferJoin_framed
  with_reducible apply State.plannedHandover_framed
  with_reducible apply State.nextPeriod_framed
  with_reducible assumption
  exact kf.sub rfl
  exact kf.sub rfl
  exact kf.sub rfl
  exact kf.sub rfl
  with_reducible apply State.rateStep_framed
  with_reducible apply State.wr_framed
  simp -zeta only [framed_mk, k_seq, or_true, true_or]
  with_reducible assumption
  exact kf.get rfl
  exact kf.sub rfl
  with_reducible apply State.advance_framed
  with_reducible assumption
  exact kf.sub rfl

theorem State.kilnRestart_framed {s : State} (hs : State.Framed q b s) (kf : b.free [Part.reg RegGroup.kn, Part.kiln]) :
    State.Framed q b (State.kilnRestart s) := by
  unfold State.kilnRestart
  with_reducible apply framed_foldl
  intro _ _ _
  with_reducible apply State.showPhase_framed
  with_reducible apply State.setKctx_framed
  with_reducible assumption
  exact kf.sub rfl
  exact kf.sub rfl
  with_reducible assumption

theorem execPeriodRestart_framed {s : State} (hs : State.Framed q b s) (kf : b.free [Part.reg RegGroup.clk, Part.reg RegGroup.kn, Part.now, Part.seq, Part.ports, Part.fbs, Part.loops, Part.kiln, Part.planDue, Part.stk, Part.pc, Part.si, Part.chain]) :
    answers (execPeriodRestart s) (State.Framed q b) := by
  have k_chain : b.keep .chain = false := kf.get rfl
  have k_fbs : b.keep .fbs = false := kf.get rfl
  have k_planDue : b.keep .planDue = false := kf.get rfl
  have k_ports : b.keep .ports = false := kf.get rfl
  have k_seq : b.keep .seq = false := kf.get rfl
  have k_si : b.keep .si = false := kf.get rfl
  unfold execPeriodRestart
  extract_lets +onlyGivenNames x; clear_value x
  extract_lets +onlyGivenNames x; clear_value x
  split
  with_reducible apply answers_next
  with_reducible assumption
  extract_lets +onlyGivenNames x; subst x
  extract_lets +onlyGivenNames x; refine (fun (hx : State.Framed q b x) => ?_) ?_ <;> [(try clear_value x); subst x]
  extract_lets +onlyGivenNames x; clear_value x
  extract_lets +onlyGivenNames x; refine (fun (hx : State.Framed q b x) => ?_) ?_ <;> [(try clear_value x); subst x]
  extract_lets +onlyGivenNames x; refine (fun (hx : State.Framed q b x) => ?_) ?_ <;> [(try clear_value x); subst x]
  extract_lets +onlyGivenNames x; refine (fun (hx : State.Framed q b x) => ?_) ?_ <;> [(try clear_value x); subst x]
  extract_lets +onlyGivenNames x; clear_value x
  with_reducible apply answers_next
  with_reducible apply State.wr_framed
  simp -zeta only [framed_mk, k_chain, k_fbs, k_planDue, k_ports, k_seq, k_si, or_true, true_or]
  with_reducible assumption
  exact kf.get rfl
  with_reducible apply State.updPc_framed
  with_reducible assumption
  exact kf.sub rfl
  simp -zeta only [framed_mk, k_chain, k_fbs, k_planDue, k_ports, k_seq, k_si, or_true, true_or]
  with_reducible assumption
  with_reducible apply framed_ite
  simp -zeta only [framed_mk, k_chain, k_fbs, k_planDue, k_ports, k_seq, k_si, or_true, true_or]
  with_reducible assumption
  with_reducible assumption
  with_reducible apply State.kilnRestart_framed
  with_reducible apply State.loopsRestart_framed
  with_reducible apply State.stackRestart_framed
  with_reducible apply State.advance_framed
  with_reducible assumption
  exact kf.sub rfl
  exact kf.sub rfl
  exact kf.sub rfl
  exact kf.sub rfl

end Sys2Proof.Machine

/-! What any command leaves of a state of any memory, and the invariants and frames that follow (O4, O5, O6, O8). -/

namespace Sys2Proof.Machine

open Sys2Proof

theorem exec_framed {q : List Instr} {b : Kept} {s : State} (c : Instr) (hs : State.Framed q b s) (kf : b.free (touches c)) :
    answers (exec c s) (State.Framed q b) := by
  match c, kf with
  | .nop .., kf => exact execNop_framed hs kf
  | .tend .., kf => exact execTend_framed hs kf
  | .reti .., kf => exact execReti_framed hs kf
  | .rptImm .., kf => exact execRptImm_framed hs kf
  | .rptReg .., kf => exact execRptReg_framed hs kf
  | .ei .., kf => exact execEi_framed hs kf
  | .di .., kf => exact execDi_framed hs kf
  | .clrst .., kf => exact execClrst_framed hs kf
  | .setrnd .., kf => exact execSetrnd_framed hs kf
  | .bCc .., kf => exact execBCc_framed hs kf
  | .call .., kf => exact execCall_framed hs kf
  | .jmp .., kf => exact execJmp_framed hs kf
  | .callr .., kf => exact execCallr_framed hs kf
  | .ret .., kf => exact execRet_framed hs kf
  | .dbnz .., kf => exact execDbnz_framed hs kf
  | .mxcall .., kf => exact execMxcall_framed hs kf
  | .ld .., kf => exact execLd_framed hs kf
  | .st .., kf => exact execSt_framed hs kf
  | .lddA .., kf => exact execLddA_framed hs kf
  | .stdA .., kf => exact execStdA_framed hs kf
  | .ldq .., kf => exact execLdq_framed hs kf
  | .stq .., kf => exact execStq_framed hs kf
  | .lddP .., kf => exact execLddP_framed hs kf
  | .stdP .., kf => exact execStdP_framed hs kf
  | .lddB .., kf => exact execLddB_framed hs kf
  | .stdB .., kf => exact execStdB_framed hs kf
  | .ldL .., kf => exact execLdL_framed hs kf
  | .stL .., kf => exact execStL_framed hs kf
  | .ldM .., kf => exact execLdM_framed hs kf
  | .stM .., kf => exact execStM_framed hs kf
  | .lea .., kf => exact execLea_framed hs kf
  | .ld2 .., kf => exact execLd2_framed hs kf
  | .ldiD .., kf => exact execLdiD_framed hs kf
  | .ldiA .., kf => exact execLdiA_framed hs kf
  | .ldiP .., kf => exact execLdiP_framed hs kf
  | .ldiB .., kf => exact execLdiB_framed hs kf
  | .ldiL .., kf => exact execLdiL_framed hs kf
  | .ldiM .., kf => exact execLdiM_framed hs kf
  | .mov .., kf => exact execMov_framed hs kf
  | .add .., kf => exact execAdd_framed hs kf
  | .sub .., kf => exact execSub_framed hs kf
  | .cmp .., kf => exact execCmp_framed hs kf
  | .neg .., kf => exact execNeg_framed hs kf
  | .abs .., kf => exact execAbs_framed hs kf
  | .min .., kf => exact execMin_framed hs kf
  | .max .., kf => exact execMax_framed hs kf
  | .and .., kf => exact execAnd_framed hs kf
  | .or .., kf => exact execOr_framed hs kf
  | .xor .., kf => exact execXor_framed hs kf
  | .not .., kf => exact execNot_framed hs kf
  | .asl .., kf => exact execAsl_framed hs kf
  | .asr .., kf => exact execAsr_framed hs kf
  | .lsr .., kf => exact execLsr_framed hs kf
  | .addc .., kf => exact execAddc_framed hs kf
  | .subc .., kf => exact execSubc_framed hs kf
  | .addi .., kf => exact execAddi_framed hs kf
  | .cmpi .., kf => exact execCmpi_framed hs kf
  | .andi .., kf => exact execAndi_framed hs kf
  | .ori .., kf => exact execOri_framed hs kf
  | .xori .., kf => exact execXori_framed hs kf
  | .asli .., kf => exact execAsli_framed hs kf
  | .asri .., kf => exact execAsri_framed hs kf
  | .lsri .., kf => exact execLsri_framed hs kf
  | .adda .., kf => exact execAdda_framed hs kf
  | .suba .., kf => exact execSuba_framed hs kf
  | .nega .., kf => exact execNega_framed hs kf
  | .absa .., kf => exact execAbsa_framed hs kf
  | .clr .., kf => exact execClr_framed hs kf
  | .mva .., kf => exact execMva_framed hs kf
  | .mvr .., kf => exact execMvr_framed hs kf
  | .asla .., kf => exact execAsla_framed hs kf
  | .asra .., kf => exact execAsra_framed hs kf
  | .cmpa .., kf => exact execCmpa_framed hs kf
  | .mova .., kf => exact execMova_framed hs kf
  | .rnda .., kf => exact execRnda_framed hs kf
  | .mpy .., kf => exact execMpy_framed hs kf
  | .mac .., kf => exact execMac_framed hs kf
  | .msu .., kf => exact execMsu_framed hs kf
  | .mpyMem .., kf => exact execMpyMem_framed hs kf
  | .macMem .., kf => exact execMacMem_framed hs kf
  | .msuMem .., kf => exact execMsuMem_framed hs kf
  | .mpyr .., kf => exact execMpyr_framed hs kf
  | .dmacMem .., kf => exact execDmacMem_framed hs kf
  | .dmacReg .., kf => exact execDmacReg_framed hs kf
  | .dmacMulMem .., kf => exact execDmacMulMem_framed hs kf
  | .dmacMulReg .., kf => exact execDmacMulReg_framed hs kf
  | .qmacMem .., kf => exact execQmacMem_framed hs kf
  | .qmacReg .., kf => exact execQmacReg_framed hs kf
  | .qmacMulMem .., kf => exact execQmacMulMem_framed hs kf
  | .qmacMulReg .., kf => exact execQmacMulReg_framed hs kf
  | .acs .., kf => exact execAcs_framed hs kf
  | .acsn .., kf => exact execAcsn_framed hs kf
  | .acs2 .., kf => exact execAcs2_framed hs kf
  | .acs2n .., kf => exact execAcs2n_framed hs kf
  | .padd .., kf => exact execPadd_framed hs kf
  | .paddm .., kf => exact execPaddm_framed hs kf
  | .paddl .., kf => exact execPaddl_framed hs kf
  | .mxNop .., kf => exact execMxNop_framed hs kf
  | .mxHalt .., kf => exact execMxHalt_framed hs kf
  | .mxRet .., kf => exact execMxRet_framed hs kf
  | .mxRptImm .., kf => exact execMxRptImm_framed hs kf
  | .mxRptReg .., kf => exact execMxRptReg_framed hs kf
  | .mxEi .., kf => exact execMxEi_framed hs kf
  | .mxDi .., kf => exact execMxDi_framed hs kf
  | .mxClampon .., kf => exact execMxClampon_framed hs kf
  | .mxClampoff .., kf => exact execMxClampoff_framed hs kf
  | .mxClrs .., kf => exact execMxClrs_framed hs kf
  | .mxBranch .., kf => exact execMxBranch_framed hs kf
  | .mxLongBranch .., kf => exact execMxLongBranch_framed hs kf
  | .mxCall .., kf => exact execMxCall_framed hs kf
  | .mxLoadDirect .., kf => exact execMxLoadDirect_framed hs kf
  | .mxStoreDirect .., kf => exact execMxStoreDirect_framed hs kf
  | .mxLoadIndirect .., kf => exact execMxLoadIndirect_framed hs kf
  | .mxStoreIndirect .., kf => exact execMxStoreIndirect_framed hs kf
  | .mxAluReg .., kf => exact execMxAluReg_framed hs kf
  | .mxAluImm .., kf => exact execMxAluImm_framed hs kf
  | .mxMpy .., kf => exact execMxMpy_framed hs kf
  | .mxMac .., kf => exact execMxMac_framed hs kf
  | .mxMsu .., kf => exact execMxMsu_framed hs kf
  | .mxMpyr .., kf => exact execMxMpyr_framed hs kf
  | .mxMacMem .., kf => exact execMxMacMem_framed hs kf
  | .mxMsuMem .., kf => exact execMxMsuMem_framed hs kf
  | .mxAccClr .., kf => exact execMxAccClr_framed hs kf
  | .mxAccAdd .., kf => exact execMxAccAdd_framed hs kf
  | .mxAccSub .., kf => exact execMxAccSub_framed hs kf
  | .mxAccNeg .., kf => exact execMxAccNeg_framed hs kf
  | .mxAccAbs .., kf => exact execMxAccAbs_framed hs kf
  | .mxAccShl .., kf => exact execMxAccShl_framed hs kf
  | .mxAccShr .., kf => exact execMxAccShr_framed hs kf
  | .mxAccRound .., kf => exact execMxAccRound_framed hs kf
  | .mxAccLoad .., kf => exact execMxAccLoad_framed hs kf
  | .mxIxLoad .., kf => exact execMxIxLoad_framed hs kf
  | .mxIxAdd .., kf => exact execMxIxAdd_framed hs kf
  | .mxIxToR .., kf => exact execMxIxToR_framed hs kf
  | .mxRToIx .., kf => exact execMxRToIx_framed hs kf
  | .mxIn .., kf => exact execMxIn_framed hs kf
  | .mxOut .., kf => exact execMxOut_framed hs kf
  | .mxStatusRead .., kf => exact execMxStatusRead_framed hs kf
  | .mxStatusWrite .., kf => exact execMxStatusWrite_framed hs kf
  | .outsideLoadReturn .., kf => exact execOutsideLoadReturn_framed hs kf
  | .outsideStoreDrain .., kf => exact execOutsideStoreDrain_framed hs kf
  | .interruptAccept .., kf => exact execInterruptAccept_framed hs kf
  | .illegalInstruction .., kf => exact execIllegalInstruction_framed hs kf
  | .registerWrite .., kf => exact execRegisterWrite_framed hs kf
  | .readClear .., kf => exact execReadClear_framed hs kf
  | .islClkWrite .., kf => exact execIslClkWrite_framed hs kf
  | .periodSelWrite .., kf => exact execPeriodSelWrite_framed hs kf
  | .periodRestart, kf => exact execPeriodRestart_framed hs kf
  | .windowEdge, kf => exact execWindowEdge_framed hs kf
  | .cutOffEdge .., kf => exact execCutOffEdge_framed hs kf
  | .loadEdge .., kf => exact execLoadEdge_framed hs kf
  | .legEdge .., kf => exact execLegEdge_framed hs kf
  | .deadTimeExpiry .., kf => exact execDeadTimeExpiry_framed hs kf
  | .activeShort .., kf => exact execActiveShort_framed hs kf
  | .refLoss, kf => exact execRefLoss_framed hs kf
  | .pllRelock, kf => exact execPllRelock_framed hs kf
  | .clockFault .., kf => exact execClockFault_framed hs kf
  | .pllFirstLock, kf => exact execPllFirstLock_framed hs kf
  | .timeBaseStart, kf => exact execTimeBaseStart_framed hs kf
  | .timeStep, kf => exact execTimeStep_framed hs kf
  | .timeSetAccept, kf => exact execTimeSetAccept_framed hs kf
  | .tbRateWrite .., kf => exact execTbRateWrite_framed hs kf
  | .tbSourceWrite .., kf => exact execTbSourceWrite_framed hs kf
  | .ptpSourceLost, kf => exact execPtpSourceLost_framed hs kf
  | .ptpSyncTx .., kf => exact execPtpSyncTx_framed hs kf
  | .tcapEdge .., kf => exact execTcapEdge_framed hs kf
  | .tcapHeadRead .., kf => exact execTcapHeadRead_framed hs kf
  | .tbNowRead, kf => exact execTbNowRead_framed hs kf
  | .tpoArmWrite .., kf => exact execTpoArmWrite_framed hs kf
  | .tpoGo .., kf => exact execTpoGo_framed hs kf
  | .tpoEdge .., kf => exact execTpoEdge_framed hs kf
  | .ethFrameRx .., kf => exact execEthFrameRx_framed hs kf
  | .ethTxEntrySend .., kf => exact execEthTxEntrySend_framed hs kf
  | .signetEthTx .., kf => exact execSignetEthTx_framed hs kf
  | .ethLinkChange .., kf => exact execEthLinkChange_framed hs kf
  | .ethCtrlWrite .., kf => exact execEthCtrlWrite_framed hs kf
  | .mdioWrite .., kf => exact execMdioWrite_framed hs kf
  | .mdioRead .., kf => exact execMdioRead_framed hs kf
  | .mdioDone .., kf => exact execMdioDone_framed hs kf
  | .pwmArm .., kf => exact execPwmArm_framed hs kf
  | .pwmDisarm .., kf => exact execPwmDisarm_framed hs kf
  | .pwmRunSet .., kf => exact execPwmRunSet_framed hs kf
  | .pwmRunClear .., kf => exact execPwmRunClear_framed hs kf
  | .forceTripSet .., kf => exact execForceTripSet_framed hs kf
  | .forceTripClear .., kf => exact execForceTripClear_framed hs kf
  | .clrTrip .., kf => exact execClrTrip_framed hs kf
  | .pwmConfigWrite .., kf => exact execPwmConfigWrite_framed hs kf
  | .ewCommit .., kf => exact execEwCommit_framed hs kf
  | .tripPinAssert .., kf => exact execTripPinAssert_framed hs kf
  | .tripPinRelease .., kf => exact execTripPinRelease_framed hs kf
  | .calRoundDone .., kf => exact execCalRoundDone_framed hs kf
  | .calMapInstall .., kf => exact execCalMapInstall_framed hs kf
  | .sdcArmWrite .., kf => exact execSdcArmWrite_framed hs kf
  | .sdcFreqWrite .., kf => exact execSdcFreqWrite_framed hs kf
  | .sdcDlyWrite .., kf => exact execSdcDlyWrite_framed hs kf
  | .sampleDelivery .., kf => exact execSampleDelivery_framed hs kf
  | .sdfStuckRun .., kf => exact execSdfStuckRun_framed hs kf
  | .sdfCfgWrite .., kf => exact execSdfCfgWrite_framed hs kf
  | .sdfGainWrite .., kf => exact execSdfGainWrite_framed hs kf
  | .fbLineChange .., kf => exact execFbLineChange_framed hs kf
  | .fbReadingStart .., kf => exact execFbReadingStart_framed hs kf
  | .ssiReadingDone .., kf => exact execSsiReadingDone_framed hs kf
  | .filigreeResponse .., kf => exact execFiligreeResponse_framed hs kf
  | .fbReadingTimeout .., kf => exact execFbReadingTimeout_framed hs kf
  | .fbStandstillTimeout .., kf => exact execFbStandstillTimeout_framed hs kf
  | .fbErrLimit .., kf => exact execFbErrLimit_framed hs kf
  | .fbLimitWrite .., kf => exact execFbLimitWrite_framed hs kf
  | .fbSetWrite .., kf => exact execFbSetWrite_framed hs kf
  | .fbPosLoRead .., kf => exact execFbPosLoRead_framed hs kf
  | .cmpHitNsRead .., kf => exact execCmpHitNsRead_framed hs kf
  | .fbEnWrite .., kf => exact execFbEnWrite_framed hs kf
  | .fbOutEnWrite .., kf => exact execFbOutEnWrite_framed hs kf
  | .encClr .., kf => exact execEncClr_framed hs kf
  | .fbCfgWrite .., kf => exact execFbCfgWrite_framed hs kf
  | .cmpArmWrite .., kf => exact execCmpArmWrite_framed hs kf
  | .cmpEnWrite .., kf => exact execCmpEnWrite_framed hs kf
  | .cmpPulseEnd .., kf => exact execCmpPulseEnd_framed hs kf
  | .loopEnable .., kf => exact execLoopEnable_framed hs kf
  | .loopDisable .., kf => exact execLoopDisable_framed hs kf
  | .loopClrFault .., kf => exact execLoopClrFault_framed hs kf
  | .ldConfigWrite .., kf => exact execLdConfigWrite_framed hs kf
  | .currentLawRun .., kf => exact execCurrentLawRun_framed hs kf
  | .motionLawRun .., kf => exact execMotionLawRun_framed hs kf
  | .customLawRun .., kf => exact execCustomLawRun_framed hs kf
  | .ldRefCommit .., kf => exact execLdRefCommit_framed hs kf
  | .ldSpCommit .., kf => exact execLdSpCommit_framed hs kf
  | .ldSwapReq .., kf => exact execLdSwapReq_framed hs kf
  | .ldBankWrite .., kf => exact execLdBankWrite_framed hs kf
  | .loopSupWarn .., kf => exact execLoopSupWarn_framed hs kf
  | .loopSupFault .., kf => exact execLoopSupFault_framed hs kf
  | .loopBadLimit .., kf => exact execLoopBadLimit_framed hs kf
  | .loopFaultWord .., kf => exact execLoopFaultWord_framed hs kf
  | .lawWcetExceed .., kf => exact execLawWcetExceed_framed hs kf
  | .armCtrlEn .., kf => exact execArmCtrlEn_framed hs kf
  | .armPause .., kf => exact execArmPause_framed hs kf
  | .armResume .., kf => exact execArmResume_framed hs kf
  | .armAbort .., kf => exact execArmAbort_framed hs kf
  | .armClr .., kf => exact execArmClr_framed hs kf
  | .planningTick, kf => exact execPlanningTick_framed hs kf
  | .plannerRun, kf => exact execPlannerRun_framed hs kf
  | .timedMoveStart .., kf => exact execTimedMoveStart_framed hs kf
  | .interpolatorRun .., kf => exact execInterpolatorRun_framed hs kf
  | .plannerKilnStop, kf => exact execPlannerKilnStop_framed hs kf
  | .stpEn .., kf => exact execStpEn_framed hs kf
  | .stpPinArm .., kf => exact execStpPinArm_framed hs kf
  | .stpStop .., kf => exact execStpStop_framed hs kf
  | .stpAbort .., kf => exact execStpAbort_framed hs kf
  | .stpClr .., kf => exact execStpClr_framed hs kf
  | .stepMovePush .., kf => exact execStepMovePush_framed hs kf
  | .stepPreset .., kf => exact execStepPreset_framed hs kf
  | .stepAccWrite .., kf => exact execStepAccWrite_framed hs kf
  | .stepCfgWrite .., kf => exact execStepCfgWrite_framed hs kf
  | .stepDue .., kf => exact execStepDue_framed hs kf
  | .stepPulseEnd .., kf => exact execStepPulseEnd_framed hs kf
  | .stepDsetupExpiry .., kf => exact execStepDsetupExpiry_framed hs kf
  | .stepGroupStart .., kf => exact execStepGroupStart_framed hs kf
  | .stepperDriveRun .., kf => exact execStepperDriveRun_framed hs kf
  | .stepHoldCurrent .., kf => exact execStepHoldCurrent_framed hs kf
  | .kilnRequest .., kf => exact execKilnRequest_framed hs kf
  | .kilnSolveStart .., kf => exact execKilnSolveStart_framed hs kf
  | .kilnSolveDone .., kf => exact execKilnSolveDone_framed hs kf
  | .kilnDeadline .., kf => exact execKilnDeadline_framed hs kf
  | .kilnEnWrite .., kf => exact execKilnEnWrite_framed hs kf
  | .kilnFlush .., kf => exact execKilnFlush_framed hs kf
  | .stkCreate .., kf => exact execStkCreate_framed hs kf
  | .stkDelete .., kf => exact execStkDelete_framed hs kf
  | .stkReadDesc .., kf => exact execStkReadDesc_framed hs kf
  | .stkEnable .., kf => exact execStkEnable_framed hs kf
  | .stkDisable .., kf => exact execStkDisable_framed hs kf
  | .bufCreate .., kf => exact execBufCreate_framed hs kf
  | .bufDelete .., kf => exact execBufDelete_framed hs kf
  | .bufRead .., kf => exact execBufRead_framed hs kf
  | .stkRelease .., kf => exact execStkRelease_framed hs kf
  | .delayListExpiry .., kf => exact execDelayListExpiry_framed hs kf
  | .stkCancel .., kf => exact execStkCancel_framed hs kf
  | .slotInvalidate .., kf => exact execSlotInvalidate_framed hs kf
  | .heldReleaseAccept, kf => exact execHeldReleaseAccept_framed hs kf
  | .slotFill .., kf => exact execSlotFill_framed hs kf
  | .taskReleaseStart .., kf => exact execTaskReleaseStart_framed hs kf
  | .budgetStop .., kf => exact execBudgetStop_framed hs kf
  | .taskDeadlineMiss .., kf => exact execTaskDeadlineMiss_framed hs kf
  | .taskEndReport .., kf => exact execTaskEndReport_framed hs kf
  | .untimedRunEnd .., kf => exact execUntimedRunEnd_framed hs kf
  | .taskFaultReport .., kf => exact execTaskFaultReport_framed hs kf
  | .taskCopyDone .., kf => exact execTaskCopyDone_framed hs kf
  | .tierMeasurement .., kf => exact execTierMeasurement_framed hs kf
  | .bufferCopyDone .., kf => exact execBufferCopyDone_framed hs kf
  | .stkRebalance, kf => exact execStkRebalance_framed hs kf
  | .icFilterChange .., kf => exact execIcFilterChange_framed hs kf
  | .icDelivery t, kf => exact (show answers (execIcDelivery t s) _ from execIcDelivery_framed hs kf)
  | .icClaimRead .., kf => exact execIcClaimRead_framed hs kf
  | .icComplete .., kf => exact execIcComplete_framed hs kf
  | .icHoldoffExpiry .., kf => exact execIcHoldoffExpiry_framed hs kf
  | .icRedirect .., kf => exact execIcRedirect_framed hs kf
  | .icSwSet .., kf => exact execIcSwSet_framed hs kf
  | .icSwClr .., kf => exact execIcSwClr_framed hs kf
  | .icSrcCfgWrite .., kf => exact execIcSrcCfgWrite_framed hs kf
  | .cmpIrqLevelEnd .., kf => exact execCmpIrqLevelEnd_framed hs kf
  | .icPlaneFinding .., kf => exact execIcPlaneFinding_framed hs kf
  | .separationCapture, kf => exact execSeparationCapture_framed hs kf
  | .channelResultPosted .., kf => exact execChannelResultPosted_framed hs kf
  | .channelResultArrival .., kf => exact execChannelResultArrival_framed hs kf
  | .exchangeWindowEnd .., kf => exact execExchangeWindowEnd_framed hs kf
  | .separationCommit, kf => exact execSeparationCommit_framed hs kf
  | .safeInputChange .., kf => exact execSafeInputChange_framed hs kf
  | .safeInputDiscrepancy .., kf => exact execSafeInputDiscrepancy_framed hs kf
  | .testPulseStart .., kf => exact execTestPulseStart_framed hs kf
  | .testPulseEnd .., kf => exact execTestPulseEnd_framed hs kf
  | .safeOutputReadbackFault .., kf => exact execSafeOutputReadbackFault_framed hs kf
  | .outputTestStart .., kf => exact execOutputTestStart_framed hs kf
  | .outputTestEnd .., kf => exact execOutputTestEnd_framed hs kf
  | .brakeDelayExpiry .., kf => exact execBrakeDelayExpiry_framed hs kf
  | .siReqSto .., kf => exact execSiReqSto_framed hs kf
  | .siReqSs1 .., kf => exact execSiReqSs1_framed hs kf
  | .siReqSs2 .., kf => exact execSiReqSs2_framed hs kf
  | .siReqRelease .., kf => exact execSiReqRelease_framed hs kf
  | .siToken .., kf => exact execSiToken_framed hs kf
  | .sackChange .., kf => exact execSackChange_framed hs kf
  | .sackHoldTimeout .., kf => exact execSackHoldTimeout_framed hs kf
  | .tokenExpiry .., kf => exact execTokenExpiry_framed hs kf
  | .psetCrcSweep x _, kf => exact execPsetCrcSweep_framed (_one := x) hs kf
  | .signetTelegramRx .., kf => exact execSignetTelegramRx_framed hs kf
  | .signetWatchdogExpiry .., kf => exact execSignetWatchdogExpiry_framed hs kf
  | .signetDegradedExpiry .., kf => exact execSignetDegradedExpiry_framed hs kf
  | .chainEnWrite .., kf => exact execChainEnWrite_framed hs kf
  | .chainScheduleWrite .., kf => exact execChainScheduleWrite_framed hs kf
  | .chainCycleStart, kf => exact execChainCycleStart_framed hs kf
  | .chainBuildPoint .., kf => exact execChainBuildPoint_framed hs kf
  | .chainFrameLaunch .., kf => exact execChainFrameLaunch_framed hs kf
  | .chainFrameRx .., kf => exact execChainFrameRx_framed hs kf
  | .chainRateRequest, kf => exact execChainRateRequest_framed hs kf
  | .claspLinkDelayRequest .., kf => exact execClaspLinkDelayRequest_framed hs kf
  | .linkDelayAnswer .., kf => exact execLinkDelayAnswer_framed hs kf
  | .chainListenTimeout, kf => exact execChainListenTimeout_framed hs kf
  | .chainColdstartClaim, kf => exact execChainColdstartClaim_framed hs kf
  | .chainBackoffExpiry, kf => exact execChainBackoffExpiry_framed hs kf
  | .chainSourceLost, kf => exact execChainSourceLost_framed hs kf
  | .chainLinkChange .., kf => exact execChainLinkChange_framed hs kf
  | .claspFrameArrival .., kf => exact execClaspFrameArrival_framed hs kf
  | .claspTieWindow .., kf => exact execClaspTieWindow_framed hs kf
  | .claspArbitrateReturn .., kf => exact execClaspArbitrateReturn_framed hs kf
  | .planeComparison, kf => exact execPlaneComparison_framed hs kf
  | .planeSelfFault .., kf => exact execPlaneSelfFault_framed hs kf
  | .planeGiveupAtPort .., kf => exact execPlaneGiveupAtPort_framed hs kf
  | .pcReturn .., kf => exact execPcReturn_framed hs kf
  | .pcHandover, kf => exact execPcHandover_framed hs kf
  | .pcTakeDown .., kf => exact execPcTakeDown_framed hs kf
  | .pcExtTest, kf => exact execPcExtTest_framed hs kf
  | .planeTestDone .., kf => exact execPlaneTestDone_framed hs kf
  | .transferSweepDone .., kf => exact execTransferSweepDone_framed hs kf
  | .transferTimeout .., kf => exact execTransferTimeout_framed hs kf
  | .planeConfirmed, kf => exact execPlaneConfirmed_framed hs kf
  | .extTestDone .., kf => exact execExtTestDone_framed hs kf
  | .lbistSlice .., kf => exact execLbistSlice_framed hs kf
  | .lbistStarved .., kf => exact execLbistStarved_framed hs kf
  | .mbCommandWrite .., kf => exact execMbCommandWrite_framed hs kf
  | .mbPost .., kf => exact execMbPost_framed hs kf
  | .mbFree .., kf => exact execMbFree_framed hs kf
  | .mbTake, kf => exact execMbTake_framed hs kf
  | .mbDone .., kf => exact execMbDone_framed hs kf
  | .mbStatRead .., kf => exact execMbStatRead_framed hs kf
  | .hearthRestart, kf => exact execHearthRestart_framed hs kf
  | .hearthUp, kf => exact execHearthUp_framed hs kf
  | .hmEvtHeadRead, kf => exact execHmEvtHeadRead_framed hs kf
  | .windowTWrite x y, kf => exact execWindowTWrite_framed (_o := x) (_v := y) hs kf
  | .pcieReset .., kf => exact execPcieReset_framed hs kf
  | .movePush .., kf => exact execMovePush_framed hs kf
  | .armCmd .., kf => exact execArmCmd_framed hs kf
  | .armEnable .., kf => exact execArmEnable_framed hs kf
  | .armStatus .., kf => exact execArmStatus_framed hs kf
  | .armOverride .., kf => exact execArmOverride_framed hs kf
  | .stepMove .., kf => exact execStepMove_framed hs kf
  | .stepCmd .., kf => exact execStepCmd_framed hs kf
  | .torqueRef .., kf => exact execTorqueRef_framed hs kf
  | .safeReq .., kf => exact execSafeReq_framed hs kf
  | .safeToken .., kf => exact execSafeToken_framed hs kf
  | .safeStatus .., kf => exact execSafeStatus_framed hs kf
  | .psetStage .., kf => exact execPsetStage_framed hs kf
  | .psetInfo .., kf => exact execPsetInfo_framed hs kf
  | .timeGet .., kf => exact execTimeGet_framed hs kf
  | .timeSet .., kf => exact execTimeSet_framed hs kf
  | .timeSource .., kf => exact execTimeSource_framed hs kf
  | .timeRestart .., kf => exact execTimeRestart_framed hs kf
  | .timeRate .., kf => exact execTimeRate_framed hs kf
  | .portComp .., kf => exact execPortComp_framed hs kf
  | .pulseSched .., kf => exact execPulseSched_framed hs kf
  | .captureCfg .., kf => exact execCaptureCfg_framed hs kf
  | .captureRead .., kf => exact execCaptureRead_framed hs kf
  | .lktRead .., kf => exact execLktRead_framed hs kf
  | .lktInfo .., kf => exact execLktInfo_framed hs kf
  | .lktFlush .., kf => exact execLktFlush_framed hs kf
  | .lktFilter .., kf => exact execLktFilter_framed hs kf
  | .lktMark .., kf => exact execLktMark_framed hs kf
  | .updBegin .., kf => exact execUpdBegin_framed hs kf
  | .updData .., kf => exact execUpdData_framed hs kf
  | .updVerify .., kf => exact execUpdVerify_framed hs kf
  | .updActivate .., kf => exact execUpdActivate_framed hs kf
  | .updStatus .., kf => exact execUpdStatus_framed hs kf
  | .updAbort .., kf => exact execUpdAbort_framed hs kf
  | .updProvingDone, kf => exact execUpdProvingDone_framed hs kf
  | .updFailure .., kf => exact execUpdFailure_framed hs kf
  | .safetyChannelRestartDone, kf => exact execSafetyChannelRestartDone_framed hs kf
  | .identityCmd .., kf => exact execIdentityCmd_framed hs kf
  | .attestationReport .., kf => exact execAttestationReport_framed hs kf
  | .configWriteCmd .., kf => exact execConfigWriteCmd_framed hs kf
  | .configReadCmd .., kf => exact execConfigReadCmd_framed hs kf
  | .setInfo .., kf => exact execSetInfo_framed hs kf
  | .setRead .., kf => exact execSetRead_framed hs kf
  | .setWrite .., kf => exact execSetWrite_framed hs kf
  | .keyProgram .., kf => exact execKeyProgram_framed hs kf
  | .keyRevoke .., kf => exact execKeyRevoke_framed hs kf
  | .seal .., kf => exact execSeal_framed hs kf
  | .placementTaskCmd .., kf => exact execPlacementTaskCmd_framed hs kf
  | .placementBufferCmd .., kf => exact execPlacementBufferCmd_framed hs kf
  | .placementRebalCmd .., kf => exact execPlacementRebalCmd_framed hs kf
  | .regReadCmd .., kf => exact execRegReadCmd_framed hs kf
  | .regWriteCmd .., kf => exact execRegWriteCmd_framed hs kf
  | .chainScheduleCmd .., kf => exact execChainScheduleCmd_framed hs kf
  | .chainCtrlCmd .., kf => exact execChainCtrlCmd_framed hs kf
  | .claspMapCmd .., kf => exact execClaspMapCmd_framed hs kf
  | .kilnPostCmd .., kf => exact execKilnPostCmd_framed hs kf
  | .kilnResultCmd .., kf => exact execKilnResultCmd_framed hs kf
  | .qspiRead .., kf => exact execQspiRead_framed hs kf
  | .qspiWrite .., kf => exact execQspiWrite_framed hs kf
  | .hci1Post, kf => exact execHci1Post_framed hs kf
  | .hci1Free, kf => exact execHci1Free_framed hs kf
  | .hci1Identity, kf => exact execHci1Identity_framed hs kf
  | .hci1AbsMove, kf => exact execHci1AbsMove_framed hs kf
  | .hci1RelMove, kf => exact execHci1RelMove_framed hs kf
  | .hci1Stop, kf => exact execHci1Stop_framed hs kf
  | .hci1Status, kf => exact execHci1Status_framed hs kf
  | .hci1ReadTime, kf => exact execHci1ReadTime_framed hs kf
  | .locketPost .., kf => exact execLocketPost_framed hs kf
  | .locketFlush .., kf => exact execLocketFlush_framed hs kf
  | .locketFlushDone, kf => exact execLocketFlushDone_framed hs kf
  | .locketPeriodExpiry, kf => exact execLocketPeriodExpiry_framed hs kf
  | .lkFlushWrite, kf => exact execLkFlushWrite_framed hs kf
  | .lkIndexLoRead .., kf => exact execLkIndexLoRead_framed hs kf
  | .pfFlushDone, kf => exact execPfFlushDone_framed hs kf
  | .mirrorWrite, kf => exact execMirrorWrite_framed hs kf
  | .keepaliveTick .., kf => exact execKeepaliveTick_framed hs kf
  | .boot, kf => exact execBoot_framed hs kf
  | .imageVerified, kf => exact execImageVerified_framed hs kf
  | .otpProgram .., kf => exact execOtpProgram_framed hs kf
  | .otpProgramDone .., kf => exact execOtpProgramDone_framed hs kf
  | .pinRelTime, kf => exact execPinRelTime_framed hs kf
  | .pinRelSdclk, kf => exact execPinRelSdclk_framed hs kf
  | .pinRelFbo, kf => exact execPinRelFbo_framed hs kf
  | .pinRelStep, kf => exact execPinRelStep_framed hs kf
  | .pinRelGate, kf => exact execPinRelGate_framed hs kf
  | .por .., kf => exact execPor_framed hs kf
  | .brownout .., kf => exact execBrownout_framed hs kf
  | .rstNLow, kf => exact execRstNLow_framed hs kf
  | .rstNHigh, kf => exact execRstNHigh_framed hs kf
  | .resetStuck, kf => exact execResetStuck_framed hs kf
  | .rstNRehonour, kf => exact execRstNRehonour_framed hs kf
  | .pfailAssert .., kf => exact execPfailAssert_framed hs kf
  | .pfRestart .., kf => exact execPfRestart_framed hs kf
  | .sdfStuckRunEnd .., kf => exact execSdfStuckRunEnd_framed hs kf
  | .ptpDelayReqTx .., kf => exact execPtpDelayReqTx_framed hs kf
  | .coreSupplyWindowFault, kf => exact execCoreSupplyWindowFault_framed hs kf

end Sys2Proof.Machine

/-! The invariants of a step and the frames of the commands, in every state: cases of `exec_framed`. -/

namespace Sys2Proof.Machine

open Sys2Proof

/-- A state keeps all that it has. -/
theorem State.framed_keptBut (s : State) (l : List Part) : s.Framed s.pending (s.keptBut l) :=
  ⟨rfl, fun _ => BitVec.and_self, le_refl _, le_refl _, fun p _ => p.same_refl s⟩

theorem sameBut_of_framed {q : List Instr} {s t : State} {l : List Part} (h : t.Framed q (s.keptBut l)) : s.sameBut l t :=
  fun p hp => h.2.2.2.2 p (decide_eq_true hp)

/-- An operation that keeps all but some parts, whatever must outlast it, leaves the others the same. -/
theorem State.sameBut_of_op {s t : State} {l : List Part} (h : ∀ q b, State.Framed q b s → b.free l → State.Framed q b t) : s.sameBut l t :=
  sameBut_of_framed (h _ _ (s.framed_keptBut l) (s.keptBut_free l))

/-- A register of a group outside the parts that changed reads as before. -/
theorem State.sameBut.rd {s t : State} {l : List Part} (h : s.sameBut l t) (r : Reg) (hr : .reg r.group ∉ l) : t.rd r = s.rd r :=
  (h (.reg r.group) hr r rfl).symm

theorem State.sameBut.get {s t : State} {l : List Part} (h : s.sameBut l t) (f : Field) (hr : .reg f.reg.group ∉ l) : t.get f = s.get f := by
  unfold State.get
  rw [h.rd f.reg hr]

theorem State.sameBut.is {s t : State} {l : List Part} (h : s.sameBut l t) (f : Field) (hr : .reg f.reg.group ∉ l) : t.is f = s.is f := by
  unfold State.is
  rw [h.get f hr]

/-- Every command answers a next state, which keeps all but the parts of the command. -/
theorem exec_next (c : Instr) (s : State) : ∃ t, exec c s = .next t ∧ t.Framed s.pending (s.keptBut (touches c)) := by
  have framed := exec_framed c (s.framed_keptBut (touches c)) (s.keptBut_free _)
  cases e : exec c s with
  | next t =>
    rw [e] at framed
    exact ⟨t, rfl, framed⟩
  | _ =>
    rw [e] at framed
    exact framed.elim

/-- The next state of a command keeps all but the parts of the command. -/
theorem framed_of_exec {c : Instr} {s t : State} (e : exec c s = .next t) : t.Framed s.pending (s.keptBut (touches c)) := by
  obtain ⟨u, hu, framed⟩ := exec_next c s
  rw [e] at hu
  cases hu
  exact framed

/-- The next state of a step: the queue without its front, every OTP bit set, device time and the count of free values no lower. -/
theorem step_keeps {s t : State} (e : step s = .next t) :
    t.pending = s.pending.drop 1 ∧ (∀ a, s.otpWord a &&& t.otpWord a = s.otpWord a) ∧ s.now ≤ t.now ∧ s.fresh ≤ t.fresh := by
  cases waiting : s.pending with
  | nil =>
    rw [step_idle waiting] at e
    cases e
    exact ⟨waiting, fun _ => BitVec.and_self, le_max_left _ _, le_refl _⟩
  | cons c q =>
    rw [step_front waiting] at e
    obtain ⟨pending, otp, now, fresh, -⟩ := framed_of_exec e
    exact ⟨pending, otp, now, fresh⟩

/-- Settles O4: a bit of a word that an `and` with the next one keeps is a bit of the next one. -/
theorem stepKeepsOtpBits : Obligations.StepKeepsOtpBits := by
  intro s t e a i bit
  have kept := (step_keeps e).2.1 a
  rw [← kept, BitVec.getLsbD_and, Bool.and_eq_true] at bit
  exact bit.2

/-- Settles O5. -/
theorem stepTakesFront : Obligations.StepTakesFront := fun _ _ e => (step_keeps e).1

/-- Settles O6. -/
theorem timeAndFreeValuesGoForward : Obligations.TimeAndFreeValuesGoForward :=
  ⟨fun _ _ e => (step_keeps e).2.2.1, fun _ _ e => (step_keeps e).2.2.2⟩

/-- Settles O8: each command keeps the queue and every part that `touches` does not list (`exec_next`). -/
theorem commandsChangeOnlyTheirParts : Obligations.CommandsChangeOnlyTheirParts := by
  refine ⟨fun c s => ?_, fun c s => ?_⟩
  · obtain ⟨t, e, framed⟩ := exec_next c s
    exact ⟨t, e, sameBut_of_framed framed, framed.1⟩
  · obtain ⟨t, e, -⟩ := exec_next c s
    exact ⟨t, e⟩

end Sys2Proof.Machine

/-! What a write leaves to the reads of other registers and fields. -/

namespace Sys2Proof.Machine

open Sys2Proof

/-- A field reads the same where its register does. -/
theorem State.get_of_rd {s t : State} {j : Field} (h : t.rd j.reg = s.rd j.reg) : t.get j = s.get j := by
  unfold State.get
  rw [h]

theorem State.is_of_rd {s t : State} {j : Field} (h : t.rd j.reg = s.rd j.reg) : t.is j = s.is j := by
  unfold State.is
  rw [State.get_of_rd h]

section apart
variable (s : State) {g j : Field} (h : j.reg ≠ g.reg ∨ j.lo + j.width ≤ g.lo ∨ g.lo + g.width ≤ j.lo)
include h

/-- Two fields that share no bit lie in different registers, or one below the other: a write of the one leaves the other. -/
@[simp] theorem State.get_put_ne (v : Nat) : (s.put g v).get j = s.get j := by
  obtain reg | bits := h
  · exact State.get_put_reg s v reg
  · exact State.get_put_field s v bits

@[simp] theorem State.is_put_ne (v : Nat) : (s.put g v).is j = s.is j := by
  unfold State.is
  rw [State.get_put_ne s h v]

@[simp] theorem State.is_putB_ne (b : Bool) : (s.putB g b).is j = s.is j := State.is_put_ne s h _

@[simp] theorem State.get_putB_ne (b : Bool) : (s.putB g b).get j = s.get j := State.get_put_ne s h _

@[simp] theorem State.is_flag_ne : (s.flag g).is j = s.is j := State.is_put_ne s h 1

@[simp] theorem State.get_flag_ne : (s.flag g).get j = s.get j := State.get_put_ne s h 1

end apart

section
variable (s : State) {g j : Field} {r q : Reg}

@[simp] theorem State.rd_flag_ne (h : r ≠ g.reg) : (s.flag g).rd r = s.rd r := State.rd_put_ne s 1 h

@[simp] theorem State.is_wr_ne (v : Word) (h : j.reg ≠ r) : (s.wr r v).is j = s.is j := by
  unfold State.is
  rw [State.get_wr_ne s v h]

@[simp] theorem State.rd_count_ne (h : q ≠ r) : (s.count r).rd q = s.rd q := State.rd_wr_ne s _ h

@[simp] theorem State.get_count_ne (h : j.reg ≠ r) : (s.count r).get j = s.get j := State.get_wr_ne s _ h

@[simp] theorem State.is_count_ne (h : j.reg ≠ r) : (s.count r).is j = s.is j := State.is_wr_ne s _ h

@[simp] theorem State.rd_bump_ne (h : q ≠ r) : (s.bump r).rd q = s.rd q := State.rd_wr_ne s _ h

@[simp] theorem State.get_bump_ne (h : j.reg ≠ r) : (s.bump r).get j = s.get j := State.get_wr_ne s _ h

@[simp] theorem State.is_bump_ne (h : j.reg ≠ r) : (s.bump r).is j = s.is j := State.is_wr_ne s _ h

/-- A field of one bit that is cleared is not set. -/
@[simp] theorem State.is_put_zero (h : g.lo + g.width ≤ 32) : (s.put g 0).is g = false := by
  rw [State.is_put s g 0 h, Nat.zero_mod]
  rfl

/-- A value that fits its field reads back. -/
@[simp] theorem State.get_put_of_lt {v : Nat} (h : g.lo + g.width ≤ 32) (hv : v < 2 ^ g.width) : (s.put g v).get g = v := by
  rw [State.get_put_same s g v h, Nat.mod_eq_of_lt hv]

/-- A register that a write sets whole reads what was written. -/
theorem State.rd_setWritable (s : State) {r : Reg} (v : Word) (whole : r.rwMask ||| r.rwlMask ||| r.woMask = BitVec.allOnes 32) :
    (s.setWritable r v).rd r = v := by
  refine (State.rd_wr_same _ _ _).trans ?_
  rw [whole, BitVec.not_allOnes, BitVec.and_zero, BitVec.zero_or, BitVec.and_allOnes]

end

theorem State.sameBut_refl (s : State) (l : List Part) : s.sameBut l s := fun p _ => p.same_refl s

/-- Parts listed in another order, or more of them, are still all but the rest. -/
theorem State.sameBut.mono {s t : State} {l k : List Part} (h : s.sameBut l t) (sub : l ⊆ k) : s.sameBut k t := fun p hp => h p fun hl => hp (sub hl)

theorem State.sameBut_foldl {α : Type} {l : List Part} {f : State → α → State} (h : ∀ (u : State) x, u.sameBut l (f u x)) (s : State) (xs : List α) :
    s.sameBut l (xs.foldl f s) :=
  List.foldlRecOn xs f (s.sameBut_refl l) fun u hu x _ => State.sameBut_trans hu (h u x)

/-- A posted record changes the recorder, the event queue and their registers. -/
theorem State.sameBut_post (s : State) (type sev : Nat) (a : Word) (payload : List Byte) : s.sameBut postParts (s.post type sev a payload) :=
  State.sameBut_of_op fun _ _ => State.post_framed

/-- What an exec that is known answers keeps all but the parts of its command. -/
theorem sameBut_of_exec {c : Instr} {s t : State} (e : exec c s = .next t) : s.sameBut (touches c) t := sameBut_of_framed (framed_of_exec e)

/-- An index, kept as a number, is that index again. -/
theorem fin_val {n : Nat} [NeZero n] (p : Fin n) : fin n p.val = p := Fin.ext (Nat.mod_eq_of_lt p.isLt)

end Sys2Proof.Machine

/-! The words of a native instruction are read as that instruction (R306 to R331). -/

namespace Sys2Proof

/-! The header of a native word, and the operand fields below it. -/

section Header
variable {c op k : Nat} {x sat : Bool}

theorem nativeWord_lt (hc : c < 32) (hop : op < 32) (hk : k < 2 ^ 20) : nativeWord c x sat op k < 2 ^ 32 := by
  unfold nativeWord
  have := Bool.toNat_lt x
  have := Bool.toNat_lt sat
  omega

theorem toNat_nativeWord (hc : c < 32) (hop : op < 32) (hk : k < 2 ^ 20) :
    (BitVec.ofNat 32 (nativeWord c x sat op k)).toNat = nativeWord c x sat op k := by
  rw [BitVec.toNat_ofNat, Nat.mod_eq_of_lt (nativeWord_lt hc hop hk)]

theorem field_nativeWord_class (hop : op < 32) (hk : k < 2 ^ 20) (hc : c < 32) : field (nativeWord c x sat op k) 27 5 = c := by
  unfold field nativeWord
  have := Bool.toNat_lt x
  have := Bool.toNat_lt sat
  omega

theorem bitAt_nativeWord_x (hop : op < 32) (hk : k < 2 ^ 20) : bitAt (nativeWord c x sat op k) 26 = x := by
  have := Bool.toNat_lt sat
  have : field (nativeWord c x sat op k) 26 1 = x.toNat := by
    unfold field nativeWord
    have := Bool.toNat_lt x
    omega
  rw [bitAt, this]
  cases x <;> rfl

theorem bitAt_nativeWord_sat (hop : op < 32) (hk : k < 2 ^ 20) : bitAt (nativeWord c x sat op k) 25 = sat := by
  have : field (nativeWord c x sat op k) 25 1 = sat.toNat := by
    unfold field nativeWord
    have := Bool.toNat_lt sat
    omega
  rw [bitAt, this]
  cases sat <;> rfl

theorem field_nativeWord_op (hop : op < 32) (hk : k < 2 ^ 20) : field (nativeWord c x sat op k) 20 5 = op := by
  unfold field nativeWord
  omega

/-- The header lies above the operands: a field of the low 20 bits is a field of the operands. -/
theorem field_nativeWord (lo n : Nat) (h : lo + n ≤ 20) : field (nativeWord c x sat op k) lo n = field k lo n := by
  have apart : nativeWord c x sat op k = k + 2 ^ (lo + n) * (2 ^ (20 - (lo + n)) * (c * 2 ^ 7 + x.toNat * 2 ^ 6 + sat.toNat * 2 ^ 5 + op)) := by
    rw [← mul_assoc, ← pow_add, Nat.add_sub_cancel' h]
    unfold nativeWord
    omega
  unfold field
  rw [← Nat.mod_mul_right_div_self, ← Nat.mod_mul_right_div_self, ← pow_add, apart, Nat.add_mul_mod_self_left]

theorem bitsAt_eq_field (n w lo : Nat) : bitsAt n w lo = BitVec.ofNat n (field w lo n) := by
  apply BitVec.eq_of_toNat_eq
  simp [bitsAt, field]

end Header

/-- The decoder of a class, as `decodeNative` chooses it (R307). -/
def decodeClass (t : Fin 32) (c w : Nat) (x sat : Bool) (e : Nat) : Option Instr :=
  match c with
  | 0 => decodeControl t w
  | 1 => decodeBranch t w
  | 2 => decodeMemory t w x e
  | 3 => decodeDual t w
  | 4 => decodeImmLoad t w x e
  | 5 => decodeMove t w
  | 8 => decodeData t w sat
  | 9 => decodeDataImm t w x sat e
  | 10 => decodeAcc t w sat
  | 12 => decodeMultiply t w sat
  | 13 => decodeDmac t w sat
  | 14 => decodeQmac t w sat
  | 15 => decodeSelect t w sat
  | 16 => decodeAddress t w x e
  | _ => none

theorem decodeNative_eq (t : Fin 32) (b e : Word) : decodeNative t b e =
    if (bitAt b.toNat 26 && !classX (field b.toNat 27 5)) || (bitAt b.toNat 25 && !classSat (field b.toNat 27 5)) then none
    else decodeClass t (field b.toNat 27 5) b.toNat (bitAt b.toNat 26) (bitAt b.toNat 25) e.toNat := rfl

/-- A native word is read by the decoder of its class, which sees its operation and the fields of its operands. -/
theorem decodeNative_nativeWord {t : Fin 32} {c op k : Nat} {x sat : Bool} {e : Word} {r : Option Instr} (hc : c < 32) (hop : op < 32) (hk : k < 2 ^ 20)
    (hx : (x && !classX c) = false) (hs : (sat && !classSat c) = false)
    (h : ∀ w, field w 20 5 = op → (∀ lo n, lo + n ≤ 20 → field w lo n = field k lo n) → decodeClass t c w x sat e.toNat = r) :
    decodeNative t (BitVec.ofNat 32 (nativeWord c x sat op k)) e = r := by
  rw [decodeNative_eq, toNat_nativeWord hc hop hk, field_nativeWord_class hop hk hc, bitAt_nativeWord_x hop hk, bitAt_nativeWord_sat hop hk, hx, hs]
  exact h _ (field_nativeWord_op hop hk) field_nativeWord

/-! The fields of a sum of operands, each at its own bit. -/

theorem field_top {a r lo n : Nat} (hr : r < 2 ^ lo) (ha : a < 2 ^ n) : field (a * 2 ^ lo + r) lo n = a := by
  rw [field, Nat.mul_comm, Nat.mul_add_div (Nat.two_pow_pos lo), Nat.div_eq_of_lt hr, Nat.add_zero, Nat.mod_eq_of_lt ha]

theorem field_below {a r hi lo n : Nat} (h : lo + n ≤ hi) : field (a * 2 ^ hi + r) lo n = field r lo n := by
  have apart : a * 2 ^ hi + r = r + 2 ^ (lo + n) * (a * 2 ^ (hi - (lo + n))) := by
    rw [Nat.mul_left_comm, ← pow_add, Nat.add_sub_cancel' h, Nat.add_comm]
  unfold field
  rw [← Nat.mod_mul_right_div_self, ← Nat.mod_mul_right_div_self, ← pow_add, apart, Nat.add_mul_mod_self_left]

theorem field_alone {a lo n : Nat} (ha : a < 2 ^ n) : field (a * 2 ^ lo) lo n = a := field_top (r := 0) (Nat.two_pow_pos lo) ha

theorem field_below_alone {a hi lo n : Nat} (h : lo + n ≤ hi) : field (a * 2 ^ hi) lo n = 0 := by
  have := field_below (a := a) (r := 0) h
  simpa [field] using this

theorem field_bit {r lo n : Nat} (hr : r < 2 ^ lo) (hn : 0 < n) : field (2 ^ lo + r) lo n = 1 := by
  have := field_top (a := 1) hr (Nat.one_lt_two_pow (Nat.ne_of_gt hn))
  rwa [Nat.one_mul] at this

theorem field_below_bit {r hi lo n : Nat} (h : lo + n ≤ hi) : field (2 ^ hi + r) lo n = field r lo n := by
  have := field_below (a := 1) (r := r) h
  rwa [Nat.one_mul] at this

theorem field_low {a n : Nat} (h : a < 2 ^ n) : field a 0 n = a := by
  rw [field, Nat.pow_zero, Nat.div_one, Nat.mod_eq_of_lt h]

theorem field_above {a lo n : Nat} (h : a < 2 ^ lo) : field a lo n = 0 := by
  rw [field, Nat.div_eq_of_lt h, Nat.zero_mod]

theorem numAt_eq (k w lo : Nat) : numAt k w lo = ⟨field w lo k, Nat.mod_lt _ (Nat.two_pow_pos k)⟩ := rfl

theorem bitAt_eq (w lo : Nat) : bitAt w lo = (field w lo 1 == 1) := rfl

/-- A field of a field is a field. -/
theorem field_field {w lo m j n : Nat} (h : j + n ≤ m) : field (field w lo m) j n = field w (lo + j) n := by
  unfold field
  have fits : 2 ^ j * 2 ^ n ∣ 2 ^ m := by
    rw [← pow_add]
    exact Nat.pow_dvd_pow 2 h
  rw [← Nat.mod_mul_right_div_self (w / 2 ^ lo % 2 ^ m), Nat.mod_mod_of_dvd _ fits, Nat.mod_mul_right_div_self, Nat.div_div_eq_div_mul, ← pow_add]

theorem shortBits_lt (m : EShort) : shortBits m < 2 ^ 7 := by
  cases m <;> simp only [shortBits] <;> omega

theorem memBits_lt (m : EMem) : (memBits m).1 < 2 ^ 10 := by
  match m with
  | .plain p | .postMod p | .offset p (.ext _) | .postImm p (.ext _) => simp only [memBits]; omega
  | .offset p (.imm5 v) | .postImm p (.imm5 v) => simp only [memBits]; omega

theorem memBits_ext_lt (m : EMem) : (memBits m).2.2 < 2 ^ 32 := by
  match m with
  | .plain p | .postMod p | .offset p (.imm5 _) | .postImm p (.imm5 _) => exact Nat.two_pow_pos 32
  | .offset p (.ext v) | .postImm p (.ext v) => exact v.isLt.trans (by decide)

/-- The short descriptor at a bit is the one that its 7 bits spell. -/
theorem shortOperand_of_field {w lo : Nat} {m : EShort} (h : field w lo 7 = shortBits m) : shortOperand w lo = some m := by
  have part : ∀ j n, j + n ≤ 7 → field w (lo + j) n = field (shortBits m) j n := fun j n hj => by rw [← h, field_field hj]
  have p0 := part 0 2 (by decide)
  rw [Nat.add_zero] at p0
  simp only [shortOperand, part 2 2 (by decide), part 4 3 (by decide), numAt_eq, bitsAt_eq_field, p0, zeros, List.all_cons, List.all_nil]
  cases m <;> simp (disch := omega) [-Nat.reducePow, shortBits, given, Nat.add_assoc, field_top, field_below, field_bit, field_below_bit, field_low, field_above]

/-- The words of a memory operand read as that operand. -/
theorem memOperand_of_field {w : Nat} {m : EMem} (h : field w 0 10 = (memBits m).1) : memOperand w (memBits m).2.1 (memBits m).2.2 = some m := by
  have part : ∀ j n, j + n ≤ 10 → field w j n = field (memBits m).1 j n := fun j n hj => by rw [← h, field_field hj, Nat.zero_add]
  simp only [memOperand, part 0 3 (by decide), part 3 2 (by decide), part 5 5 (by decide), numAt_eq, bitsAt_eq_field, zeros, List.all_cons, List.all_nil]
  match m with
  | .plain p | .postMod p | .offset p (.ext _) | .postImm p (.ext _) | .offset p (.imm5 v) | .postImm p (.imm5 v) =>
    simp (disch := omega) [-Nat.reducePow, memBits, given, Nat.add_assoc, field_top, field_below, field_bit, field_below_bit, field_low, field_above]

theorem pairBits_lt (y x : EShort) : pairBits y x < 2 ^ 14 := by
  have hy := shortBits_lt y
  have hx := shortBits_lt x
  unfold pairBits
  omega

/-- Two descriptors below other operands read as those descriptors. -/
theorem twoOperands_of_field {w : Nat} {y x : EShort} (h : field w 0 14 = pairBits y x) (f : EShort → EShort → Instr) : twoOperands w f = some (f y x) := by
  have hx := shortBits_lt x
  have part : ∀ j n, j + n ≤ 14 → field w j n = field (pairBits y x) j n := fun j n hj => by rw [← h, field_field hj, Nat.zero_add]
  have upper : field w 7 7 = shortBits y := by rw [part 7 7 (by decide), pairBits, field_top hx (shortBits_lt y)]
  have lower : field w 0 7 = shortBits x := by rw [part 0 7 (by decide), pairBits, field_below (by decide), field_low hx]
  rw [twoOperands, shortOperand_of_field upper, shortOperand_of_field lower]

theorem regBits_lt (r : EReg) : (regBits r).1 < 2 ^ 3 ∧ (regBits r).2 < 2 ^ 4 := by
  cases r <;> simp only [regBits] <;> omega

theorem regOperand_regBits (r : EReg) : regOperand (regBits r).1 (regBits r).2 = some r := by
  cases r <;> simp (disch := omega) [regOperand, regBits, given, Nat.mod_eq_of_lt]

theorem words_eq_some {t u : Fin 32} {n m : Nat} {b e : Word} (h : words t n m = some (u, b, e)) :
    t = u ∧ b = BitVec.ofNat 32 n ∧ e = BitVec.ofNat 32 m := by
  simp only [words, Option.some.injEq, Prod.mk.injEq] at h
  exact ⟨h.1, h.2.1.symm, h.2.2.symm⟩

/-- The words of an instruction are read as that instruction. -/
def RoundTrips (i : Instr) : Prop := ∀ (t : Fin 32) (b e : Word), encodeNative i = some (t, b, e) → decodeNative t b e = some i

theorem roundTrips_of_words {i : Instr} {t : Fin 32} {n m : Nat} (h : encodeNative i = words t n m)
    (d : decodeNative t (BitVec.ofNat 32 n) (BitVec.ofNat 32 m) = some i) : RoundTrips i := by
  intro u b e he
  obtain ⟨rfl, rfl, rfl⟩ := words_eq_some (h ▸ he)
  exact d

section Classes
variable (t : Fin 32)

theorem roundTrips_control : RoundTrips (.nop t) ∧ RoundTrips (.tend t) ∧ RoundTrips (.reti t) ∧ RoundTrips (.ei t) ∧ RoundTrips (.di t)
    ∧ RoundTrips (.clrst t) ∧ (∀ n, RoundTrips (.rptImm t n)) ∧ (∀ dn, RoundTrips (.rptReg t dn)) ∧ (∀ k, RoundTrips (.setrnd t k)) := by
  refine ⟨roundTrips_of_words rfl rfl, roundTrips_of_words rfl rfl, roundTrips_of_words rfl rfl, roundTrips_of_words rfl rfl, roundTrips_of_words rfl rfl,
    roundTrips_of_words rfl rfl, fun n => ?_, fun dn => ?_, fun k => ?_⟩
  all_goals
    refine roundTrips_of_words rfl (decodeNative_nativeWord (by decide) (by decide) (by omega) rfl rfl fun w op low => ?_)
    simp (disch := omega) [-Nat.reducePow, decodeClass, decodeControl, op, low, zeros, given, numAt_eq, field_alone, field_below_alone, field_low, field_above]

theorem roundTrips_branch : RoundTrips (.ret t) ∧ (∀ cc off, RoundTrips (.bCc t cc off)) ∧ (∀ off, RoundTrips (.call t off))
    ∧ (∀ pn, RoundTrips (.jmp t pn)) ∧ (∀ pn, RoundTrips (.callr t pn)) ∧ (∀ dn off, RoundTrips (.dbnz t dn off)) ∧ (∀ off, RoundTrips (.mxcall t off)) := by
  refine ⟨roundTrips_of_words rfl rfl, fun cc off => ?_, fun off => ?_, fun pn => ?_, fun pn => ?_, fun dn off => ?_, fun off => ?_⟩
  all_goals
    refine roundTrips_of_words rfl (decodeNative_nativeWord (by decide) (by decide) (by omega) rfl rfl fun w op low => ?_)
    simp (disch := omega) [-Nat.reducePow, decodeClass, decodeBranch, op, low, zeros, given, numAt_eq, bitsAt_eq_field, field_alone, field_below_alone,
      field_top, field_below, field_low, field_above]

/-- A load or store reads back its operation, register field and operand. -/
theorem roundTrips_memWords {t : Fin 32} {op r : Nat} {m : EMem} {i : Instr} (hi : encodeNative i = memWords t op r m) (hop : op < 32) (hr : r < 16)
    (h : ∀ w, field w 20 5 = op → (∀ j n, j + n ≤ 4 → field w (16 + j) n = field r j n) → zeros w [(10, 6)] = true →
      memOperand w (memBits m).2.1 (memBits m).2.2 = some m → decodeMemory t w (memBits m).2.1 (memBits m).2.2 = some i) : RoundTrips i := by
  have low := memBits_lt m
  have ext : (BitVec.ofNat 32 (memBits m).2.2).toNat = (memBits m).2.2 := by
    rw [BitVec.toNat_ofNat, Nat.mod_eq_of_lt (memBits_ext_lt m)]
  rw [memWords] at hi
  refine roundTrips_of_words hi (decodeNative_nativeWord (by decide) hop (by omega) (by simp [classX]) rfl fun w hw fields => ?_)
  rw [ext]
  refine h w hw (fun j n hj => ?_) ?_ (memOperand_of_field ?_)
  · rw [← field_field hj, fields _ _ (by decide), field_top (by omega) (by omega)]
  · simp (disch := omega) [-Nat.reducePow, zeros, fields, field_below, field_above]
  · rw [fields _ _ (by decide), field_below (by decide), field_low low]

theorem field_quad (g : Fin 4) : field (g.val * 4) 2 2 = g.val := field_alone (lo := 2) g.isLt

theorem field_quad_below (g : Fin 4) : field (g.val * 4) 0 2 = 0 := field_below_alone (hi := 2) (by decide)

theorem roundTrips_memory (m : EMem) : (∀ dn, RoundTrips (.ld t dn m)) ∧ (∀ dn, RoundTrips (.st t dn m)) ∧ (∀ an, RoundTrips (.lddA t an m))
    ∧ (∀ an, RoundTrips (.stdA t an m)) ∧ (∀ g, RoundTrips (.ldq t g m)) ∧ (∀ g, RoundTrips (.stq t g m)) ∧ (∀ pn, RoundTrips (.lddP t pn m))
    ∧ (∀ pn, RoundTrips (.stdP t pn m)) ∧ (∀ bn, RoundTrips (.lddB t bn m)) ∧ (∀ bn, RoundTrips (.stdB t bn m)) ∧ (∀ ln, RoundTrips (.ldL t ln m))
    ∧ (∀ ln, RoundTrips (.stL t ln m)) ∧ (∀ mn, RoundTrips (.ldM t mn m)) ∧ (∀ mn, RoundTrips (.stM t mn m)) ∧ (∀ pn, RoundTrips (.lea t pn m)) := by
  and_intros
  all_goals
    intro r
    refine roundTrips_memWords rfl (by decide) (by omega) fun w op part unused operand => ?_
    have all : field w 16 4 = _ := part 0 4 (by decide)
    have reg : field w 16 3 = _ := part 0 3 (by decide)
    have acc : field w 16 2 = _ := part 0 2 (by decide)
    have quad : field w 18 2 = _ := part 2 2 (by decide)
    have top : field w 19 1 = _ := part 3 1 (by decide)
    simp only [decodeMemory, op, unused, operand, given, if_true]
    simp (disch := omega) [-Nat.reducePow, zeros, numAt_eq, all, reg, acc, quad, top, field_quad, field_quad_below, field_low, field_above]

theorem roundTrips_dual : ∀ k x y, RoundTrips (.ld2 t k x y) := by
  intro k x y
  have short := pairBits_lt y x
  refine roundTrips_of_words rfl (decodeNative_nativeWord (by decide) (by decide) (by omega) rfl rfl fun w op low => ?_)
  have pair : field w 0 14 = pairBits y x := by rw [low _ _ (by decide), field_below (by decide), field_low short]
  simp (disch := omega) [-Nat.reducePow, decodeClass, decodeDual, op, low, twoOperands_of_field pair, zeros, numAt_eq, field_top, field_below, field_above]

theorem roundTrips_immLoad : (∀ dn imm, RoundTrips (.ldiD t dn imm)) ∧ (∀ an imm, RoundTrips (.ldiA t an imm)) ∧ (∀ pn imm, RoundTrips (.ldiP t pn imm))
    ∧ (∀ bn imm, RoundTrips (.ldiB t bn imm)) ∧ (∀ ln imm, RoundTrips (.ldiL t ln imm)) ∧ (∀ mn imm, RoundTrips (.ldiM t mn imm)) := by
  refine ⟨fun dn imm => ?_, fun an imm => ?_, fun pn imm => ?_, fun bn imm => ?_, fun ln imm => ?_, fun mn imm => ?_⟩
  case' refine_1 => cases imm
  all_goals
    refine roundTrips_of_words rfl (decodeNative_nativeWord (by decide) (by decide) (by omega) rfl rfl fun w op low => ?_)
    simp (disch := omega) [-Nat.reducePow, decodeClass, decodeImmLoad, op, low, zeros, given, numAt_eq, bitsAt_eq_field, Nat.mod_eq_of_lt, Nat.div_add_mod',
      field_top, field_below, field_alone, field_below_alone, field_low, field_above]

theorem roundTrips_move : ∀ rd rs, RoundTrips (.mov t rd rs) := by
  intro rd rs
  obtain ⟨hd1, hd2⟩ := regBits_lt rd
  obtain ⟨hs1, hs2⟩ := regBits_lt rs
  refine roundTrips_of_words rfl (decodeNative_nativeWord (by decide) (by decide) (by omega) rfl rfl fun w op low => ?_)
  simp (disch := omega) [-Nat.reducePow, decodeClass, decodeMove, op, low, zeros, Nat.add_assoc, field_top, field_below, field_alone, field_below_alone,
    regOperand_regBits]

theorem threeBits_lt (dd ds dt : Fin 16) : threeBits dd ds dt < 2 ^ 20 := by
  unfold threeBits
  omega

theorem roundTrips_data : (∀ sat dd ds dt, RoundTrips (.add t sat dd ds dt)) ∧ (∀ sat dd ds dt, RoundTrips (.sub t sat dd ds dt))
    ∧ (∀ sat ds dt, RoundTrips (.cmp t sat ds dt)) ∧ (∀ sat dd ds, RoundTrips (.neg t sat dd ds)) ∧ (∀ sat dd ds, RoundTrips (.abs t sat dd ds))
    ∧ (∀ dd ds dt, RoundTrips (.min t dd ds dt)) ∧ (∀ dd ds dt, RoundTrips (.max t dd ds dt)) ∧ (∀ dd ds dt, RoundTrips (.and t dd ds dt))
    ∧ (∀ dd ds dt, RoundTrips (.or t dd ds dt)) ∧ (∀ dd ds dt, RoundTrips (.xor t dd ds dt)) ∧ (∀ dd ds, RoundTrips (.not t dd ds))
    ∧ (∀ sat dd ds dt, RoundTrips (.asl t sat dd ds dt)) ∧ (∀ dd ds dt, RoundTrips (.asr t dd ds dt)) ∧ (∀ dd ds dt, RoundTrips (.lsr t dd ds dt))
    ∧ (∀ sat dd ds dt, RoundTrips (.addc t sat dd ds dt)) ∧ (∀ sat dd ds dt, RoundTrips (.subc t sat dd ds dt)) := by
  and_intros
  all_goals
    intros
    refine roundTrips_of_words rfl (decodeNative_nativeWord (by decide) (by decide) (threeBits_lt _ _ _) rfl (by simp [classSat]) fun w op low => ?_)
    simp (disch := omega) [-Nat.reducePow, decodeClass, decodeData, op, low, threeBits, zeros, given, numAt_eq, Nat.add_assoc, field_top, field_below,
      field_alone, field_below_alone, field_above]

theorem roundTrips_dataImm : (∀ sat dd imm, RoundTrips (.addi t sat dd imm)) ∧ (∀ sat dd imm, RoundTrips (.cmpi t sat dd imm))
    ∧ (∀ dd imm, RoundTrips (.andi t dd imm)) ∧ (∀ dd imm, RoundTrips (.ori t dd imm)) ∧ (∀ dd imm, RoundTrips (.xori t dd imm)) := by
  refine ⟨fun sat dd imm => ?_, fun sat dd imm => ?_, fun dd imm => ?_, fun dd imm => ?_, fun dd imm => ?_⟩
  all_goals
    cases imm
    all_goals
      refine roundTrips_of_words rfl (decodeNative_nativeWord (by decide) (by decide) (by omega) rfl (by simp [classSat]) fun w op low => ?_)
      simp (disch := omega) [-Nat.reducePow, decodeClass, decodeDataImm, immOperand, op, low, zeros, given, numAt_eq, bitsAt_eq_field, Nat.mod_eq_of_lt,
        field_top, field_below, field_alone, field_below_alone, field_low, field_above]

theorem roundTrips_count : (∀ sat dd x k, RoundTrips (.asli t sat dd x k)) ∧ (∀ dd x k, RoundTrips (.asri t dd x k)) ∧ (∀ dd x k, RoundTrips (.lsri t dd x k)) := by
  refine ⟨fun sat dd x k => ?_, fun dd x k => ?_, fun dd x k => ?_⟩
  all_goals
    cases x
    all_goals
      refine roundTrips_of_words rfl (decodeNative_nativeWord (by decide) (by decide) (by omega) rfl (by simp [classSat]) fun w op low => ?_)
      simp (disch := omega) [-Nat.reducePow, decodeClass, decodeDataImm, countOperand, op, low, zeros, given, numAt_eq, Nat.mod_eq_of_lt,
        field_top, field_below, field_alone, field_below_alone, field_low, field_above]

theorem roundTrips_acc : (∀ sat ad as_, RoundTrips (.adda t sat ad as_)) ∧ (∀ sat ad as_, RoundTrips (.suba t sat ad as_))
    ∧ (∀ sat ad as_, RoundTrips (.nega t sat ad as_)) ∧ (∀ sat ad as_, RoundTrips (.absa t sat ad as_)) ∧ (∀ mask, RoundTrips (.clr t mask))
    ∧ (∀ ad dn, RoundTrips (.mva t ad dn)) ∧ (∀ sat dn as_, RoundTrips (.mvr t sat dn as_)) ∧ (∀ sat ad as_ k, RoundTrips (.asla t sat ad as_ k))
    ∧ (∀ ad as_ k, RoundTrips (.asra t ad as_ k)) ∧ (∀ sat ad as_, RoundTrips (.cmpa t sat ad as_)) ∧ (∀ ad as_, RoundTrips (.mova t ad as_))
    ∧ (∀ sat ad as_, RoundTrips (.rnda t sat ad as_)) := by
  and_intros
  all_goals
    intros
    refine roundTrips_of_words rfl (decodeNative_nativeWord (by decide) (by decide) (by omega) rfl (by simp [classSat]) fun w op low => ?_)
    simp (disch := omega) [-Nat.reducePow, decodeClass, decodeAcc, op, low, zeros, given, numAt_eq, bitsAt_eq_field, Nat.add_assoc, field_top, field_below,
      field_alone, field_below_alone, field_above]

theorem roundTrips_multiply : (∀ sat ad ds dt, RoundTrips (.mpy t sat ad ds dt)) ∧ (∀ sat ad ds dt, RoundTrips (.mac t sat ad ds dt))
    ∧ (∀ sat ad ds dt, RoundTrips (.msu t sat ad ds dt)) ∧ (∀ sat dd ds dt, RoundTrips (.mpyr t sat dd ds dt)) := by
  and_intros
  all_goals
    intros
    refine roundTrips_of_words rfl (decodeNative_nativeWord (by decide) (by decide) (by simp only [threeBits]; omega) rfl (by simp [classSat]) fun w op low => ?_)
    simp (disch := omega) [-Nat.reducePow, decodeClass, decodeMultiply, op, low, threeBits, zeros, given, numAt_eq, Nat.add_assoc, field_top, field_below,
      field_alone, field_below_alone, field_above]

theorem roundTrips_multiplyMem (y x : EShort) : (∀ sat ad, RoundTrips (.mpyMem t sat ad y x)) ∧ (∀ sat ad, RoundTrips (.macMem t sat ad y x))
    ∧ (∀ sat ad, RoundTrips (.msuMem t sat ad y x)) := by
  have short := pairBits_lt y x
  and_intros
  all_goals
    intros
    refine roundTrips_of_words rfl (decodeNative_nativeWord (by decide) (by decide) (by omega) rfl (by simp [classSat]) fun w op low => ?_)
    have pair : field w 0 14 = pairBits y x := by rw [low _ _ (by decide), field_below (by decide), field_low short]
    simp (disch := omega) [-Nat.reducePow, decodeClass, decodeMultiply, op, low, twoOperands_of_field pair, zeros, numAt_eq, field_top, field_below, field_above]

theorem dmacBits_eq (p sw n1 n0 : Bool) : dmacBits p sw n1 n0 = (p.toNat * 2 ^ 3 + sw.toNat * 2 ^ 2 + n1.toNat * 2 + n0.toNat) * 2 ^ 16 := by
  unfold dmacBits
  omega

/-- The four flags of `dmac` are read back from their bits. -/
theorem bitAt_dmac {w k : Nat} {p sw n1 n0 : Bool} (hk : k < 2 ^ 16) (low : ∀ lo n, lo + n ≤ 20 → field w lo n = field (dmacBits p sw n1 n0 + k) lo n) :
    bitAt w 19 = p ∧ bitAt w 18 = sw ∧ bitAt w 17 = n1 ∧ bitAt w 16 = n0 := by
  have flags : field w 16 4 = p.toNat * 2 ^ 3 + sw.toNat * 2 ^ 2 + n1.toNat * 2 + n0.toNat := by
    rw [low _ _ (by decide), dmacBits_eq, field_top hk]
    cases p <;> cases sw <;> cases n1 <;> cases n0 <;> decide
  have part : ∀ j, j + 1 ≤ 4 → field w (16 + j) 1 = field (p.toNat * 2 ^ 3 + sw.toNat * 2 ^ 2 + n1.toNat * 2 + n0.toNat) j 1 := fun j hj => by
    rw [← flags, field_field hj]
  simp only [bitAt, part 3 (by decide), part 2 (by decide), part 1 (by decide), show field w 16 1 = _ from part 0 (by decide)]
  cases p <;> cases sw <;> cases n1 <;> cases n0 <;> decide

theorem dmacBits_lt (p sw n1 n0 : Bool) {k : Nat} (hk : k < 2 ^ 16) : dmacBits p sw n1 n0 + k < 2 ^ 20 := by
  have := Bool.toNat_lt p
  have := Bool.toNat_lt sw
  have := Bool.toNat_lt n1
  have := Bool.toNat_lt n0
  unfold dmacBits
  omega

theorem roundTrips_dmac : (∀ sat p sw n1 n0 ds dt, RoundTrips (.dmacReg t sat p sw n1 n0 ds dt))
    ∧ (∀ sat p sw n1 n0 ds dt, RoundTrips (.dmacMulReg t sat p sw n1 n0 ds dt)) := by
  and_intros
  all_goals
    intro sat p sw n1 n0 ds dt
    have regs : threeBits 0 ds dt < 2 ^ 16 := by simp only [threeBits, Fin.val_zero]; omega
    refine roundTrips_of_words rfl (decodeNative_nativeWord (by decide) (by decide) (dmacBits_lt p sw n1 n0 regs) rfl (by simp [classSat]) fun w op low => ?_)
    obtain ⟨hp, hsw, hn1, hn0⟩ := bitAt_dmac regs low
    simp (disch := omega) [-Nat.reducePow, decodeClass, decodeDmac, op, low, hp, hsw, hn1, hn0, dmacBits_eq, threeBits, zeros, given, numAt_eq,
      field_top, field_below, field_alone, field_below_alone]

theorem roundTrips_dmacMem (y x : EShort) : (∀ sat p sw n1 n0, RoundTrips (.dmacMem t sat p sw n1 n0 y x))
    ∧ (∀ sat p sw n1 n0, RoundTrips (.dmacMulMem t sat p sw n1 n0 y x)) := by
  have short := pairBits_lt y x
  and_intros
  all_goals
    intro sat p sw n1 n0
    refine roundTrips_of_words rfl (decodeNative_nativeWord (by decide) (by decide) (dmacBits_lt p sw n1 n0 (by omega)) rfl (by simp [classSat]) fun w op low => ?_)
    obtain ⟨hp, hsw, hn1, hn0⟩ := bitAt_dmac (by omega) low
    have pair : field w 0 14 = pairBits y x := by rw [low _ _ (by decide), dmacBits_eq, field_below (by decide), field_low short]
    simp (disch := omega) [-Nat.reducePow, decodeClass, decodeDmac, op, low, hp, hsw, hn1, hn0, twoOperands_of_field pair, dmacBits_eq, zeros, field_below, field_above]

theorem roundTrips_qmac : (∀ sat neg g dt, RoundTrips (.qmacReg t sat neg g dt)) ∧ (∀ sat neg g dt, RoundTrips (.qmacMulReg t sat neg g dt)) := by
  and_intros
  all_goals
    intros
    refine roundTrips_of_words rfl (decodeNative_nativeWord (by decide) (by decide) (by omega) rfl (by simp [classSat]) fun w op low => ?_)
    simp (disch := omega) [-Nat.reducePow, decodeClass, decodeQmac, op, low, zeros, given, numAt_eq, bitsAt_eq_field, Nat.add_assoc, field_top, field_below,
      field_alone, field_below_alone, field_above]

theorem roundTrips_qmacMem (y x : EShort) : (∀ sat neg, RoundTrips (.qmacMem t sat neg y x)) ∧ (∀ sat neg, RoundTrips (.qmacMulMem t sat neg y x)) := by
  have short := pairBits_lt y x
  and_intros
  all_goals
    intros
    refine roundTrips_of_words rfl (decodeNative_nativeWord (by decide) (by decide) (by omega) rfl (by simp [classSat]) fun w op low => ?_)
    have pair : field w 0 14 = pairBits y x := by rw [low _ _ (by decide), field_below (by decide), field_low short]
    simp (disch := omega) [-Nat.reducePow, decodeClass, decodeQmac, op, low, twoOperands_of_field pair, zeros, bitsAt_eq_field, field_top, field_below, field_above]

theorem roundTrips_select : (∀ sat dd ds dt du, RoundTrips (.acs t sat dd ds dt du)) ∧ (∀ sat dd ds dt du, RoundTrips (.acsn t sat dd ds dt du))
    ∧ (∀ sat dd ds dt du, RoundTrips (.acs2 t sat dd ds dt du)) ∧ (∀ sat dd ds dt du, RoundTrips (.acs2n t sat dd ds dt du)) := by
  and_intros
  all_goals
    intros
    refine roundTrips_of_words rfl (decodeNative_nativeWord (by decide) (by decide) (by simp only [threeBits]; omega) rfl (by simp [classSat]) fun w op low => ?_)
    simp (disch := omega) [-Nat.reducePow, decodeClass, decodeSelect, op, low, threeBits, zeros, given, numAt_eq, Nat.add_assoc, field_top, field_below,
      field_alone, field_below_alone]

theorem roundTrips_address : (∀ pn imm, RoundTrips (.padd t pn imm)) ∧ (∀ pn, RoundTrips (.paddm t pn)) ∧ (∀ pn imm, RoundTrips (.paddl t pn imm)) := by
  refine ⟨fun pn imm => ?_, fun pn => ?_, fun pn imm => ?_⟩
  case' refine_1 | refine_3 => cases imm
  all_goals
    refine roundTrips_of_words rfl (decodeNative_nativeWord (by decide) (by decide) (by omega) rfl rfl fun w op low => ?_)
    simp (disch := omega) [-Nat.reducePow, decodeClass, decodeAddress, immOperand, op, low, zeros, given, numAt_eq, bitsAt_eq_field, Nat.mod_eq_of_lt,
      field_top, field_below, field_alone, field_below_alone, field_low, field_above]

end Classes

/-- Every native instruction's words are read as that instruction. -/
theorem roundTrips_native (i : Instr) : RoundTrips i := by
  intro t b e h
  have spelled := h
  unfold encodeNative at h
  split at h
  rotate_right
  · exact nomatch h
  all_goals
    refine (?_ : RoundTrips _) t b e spelled
    simp only [roundTrips_control, roundTrips_branch, roundTrips_memory, roundTrips_dual, roundTrips_immLoad, roundTrips_move, roundTrips_data,
      roundTrips_dataImm, roundTrips_count, roundTrips_acc, roundTrips_multiply, roundTrips_multiplyMem, roundTrips_dmac, roundTrips_dmacMem,
      roundTrips_qmac, roundTrips_qmacMem, roundTrips_select, roundTrips_address]

end Sys2Proof

/-! What the native decoder reads has the words it was read from, but for an ignored SAT bit (R307). -/

namespace Sys2Proof

theorem given_eq_some {α : Type} {c : Bool} {r i : α} : given c r = some i ↔ c = true ∧ r = i := by
  cases c <;> simp [given]

theorem zeros_cons {w lo n : Nat} {fs : List (Nat × Nat)} : zeros w ((lo, n) :: fs) = true ↔ field w lo n = 0 ∧ zeros w fs = true := by
  simp [zeros]

theorem zeros_nil {w : Nat} : zeros w [] = true ↔ True := Iff.intro (fun _ => trivial) fun _ => rfl

/-- The words of an instruction that the decoder has read, from a word w of a class and the word e after it: the class, the operation and the low 20
bits of w, its SAT bit or 0, and e where X is 1. -/
def Spelled (t : Fin 32) (c w : Nat) (x sat : Bool) (e : Nat) (i : Instr) : Prop :=
  ∃ sat' e', (sat' = sat ∨ sat' = false) ∧ (x = true → e' % 2 ^ 32 = e) ∧ encodeNative i = words t (nativeWord c x sat' (field w 20 5) (field w 0 20)) e'

theorem spelled_of {t : Fin 32} {c w e op k e' : Nat} {x sat sat' : Bool} {i : Instr} (hop : field w 20 5 = op)
    (hi : encodeNative i = words t (nativeWord c x sat' op k) e') (hs : sat' = sat ∨ sat' = false) (he : x = true → e' % 2 ^ 32 = e) (hk : k = field w 0 20) :
    Spelled t c w x sat e i :=
  ⟨sat', e', hs, he, by rw [hi, hop, hk]⟩

section Classes
variable {t : Fin 32} {w e : Nat} {x sat : Bool} {i : Instr}

theorem spelled_control (h : decodeControl t w = some i) : Spelled t 0 w false false e i := by
  unfold decodeControl at h
  split at h
  rotate_right
  · exact nomatch h
  all_goals
    simp only [given_eq_some, zeros_cons, zeros_nil, and_true] at h
    obtain ⟨unused, rfl⟩ := h
  · exact spelled_of (op := 0) (k := 0) ‹_› rfl (.inl rfl) nofun unused.symm
  all_goals
    refine spelled_of ‹_› rfl (.inl rfl) nofun ?_
    simp only [numAt, field] at *
    omega

theorem spelled_branch (h : decodeBranch t w = some i) : Spelled t 1 w false false e i := by
  unfold decodeBranch at h
  split at h
  rotate_right
  · exact nomatch h
  all_goals
    simp only [given_eq_some, zeros_cons, zeros_nil, and_true, Option.some.injEq] at h
  case' h_2 | h_3 | h_4 | h_5 | h_7 => obtain ⟨unused, rfl⟩ := h
  case' h_1 | h_6 => subst h
  all_goals
    refine spelled_of ‹_› rfl (.inl rfl) nofun ?_
    simp only [numAt, bitsAt, BitVec.toNat_ofNat, field] at *
    omega

/-- The words of an operand that the decoder has read. -/
theorem memBits_of_memOperand {m : EMem} (he : e < 2 ^ 32) (h : memOperand w x e = some m) :
    (memBits m).2.1 = x ∧ (x = true → (memBits m).2.2 % 2 ^ 32 = e) ∧ (memBits m).1 = field w 0 10 := by
  cases x with
  | false =>
    simp only [memOperand, Bool.false_eq_true, if_false, Bool.not_false, Bool.true_and] at h
    split at h
    all_goals
      simp only [Option.map_some, given_eq_some, zeros_cons, zeros_nil, and_true, Option.some.injEq] at h
    case' h_1 | h_4 => obtain ⟨plain, rfl⟩ := h
    case' h_2 | h_3 => subst h
    all_goals
      refine ⟨rfl, nofun, ?_⟩
      simp only [memBits, numAt, bitsAt, BitVec.toNat_ofNat, field, Nat.reducePow, Nat.div_one, imp_false] at *
      omega
  | true =>
    simp only [memOperand, if_true, Bool.not_true, Bool.false_and] at h
    split at h
    case h_1 | h_4 => exact nomatch h
    all_goals
      simp only [Option.map_eq_some_iff, given_eq_some, Bool.and_eq_true, zeros_cons, zeros_nil, and_true] at h
      obtain ⟨_, ⟨⟨low, high⟩, rfl⟩, rfl⟩ := h
      simp only [memBits, numAt, bitsAt, BitVec.toNat_ofNat, field, Nat.reducePow, Nat.div_one, true_and, true_imp_iff] at *
      omega

theorem memWords_of_memOperand {m : EMem} {op r : Nat} (he : e < 2 ^ 32) (h : memOperand w x e = some m) (hop : field w 20 5 = op)
    (unused : field w 10 6 = 0) (hr : r = field w 16 4) (hi : encodeNative i = memWords t op r m) : Spelled t 2 w x false e i := by
  obtain ⟨hx, ext, low⟩ := memBits_of_memOperand he h
  rw [memWords, hx, low] at hi
  refine spelled_of hop hi (.inl rfl) ext ?_
  rw [hr]
  simp only [field] at *
  omega

theorem spelled_memory (he : e < 2 ^ 32) (h : decodeMemory t w x e = some i) : Spelled t 2 w x false e i := by
  unfold decodeMemory at h
  split at h
  case h_2 => exact nomatch h
  case h_1 m free operand =>
    simp only [given_eq_some, zeros_cons, zeros_nil, and_true] at free
    split at h
    case h_16 => exact nomatch h
    all_goals
      simp only [given_eq_some, zeros_cons, zeros_nil, and_true, Option.some.injEq] at h
    case h_1 | h_2 =>
      subst h
      exact memWords_of_memOperand he operand ‹_› free rfl rfl
    all_goals
      obtain ⟨unused, rfl⟩ := h
      refine memWords_of_memOperand he operand ‹_› free ?_ rfl
      simp only [numAt, field] at *
      omega

/-- The descriptor that the decoder has read. -/
theorem shortBits_of_shortOperand {m : EShort} {lo : Nat} (h : shortOperand w lo = some m) : shortBits m = field w lo 7 := by
  have part : ∀ j n, j + n ≤ 7 → field w (lo + j) n = field w lo 7 / 2 ^ j % 2 ^ n := fun j n hj => (field_field hj).symm
  have low : field w lo 2 = field w lo 7 % 4 := by
    have := part 0 2 (by decide)
    rwa [Nat.add_zero, Nat.pow_zero, Nat.div_one] at this
  have lt : field w lo 7 < 128 := Nat.mod_lt _ (by decide)
  simp only [shortOperand, numAt_eq, bitsAt_eq_field] at h
  split at h
  all_goals
    simp only [given_eq_some, zeros_cons, zeros_nil, and_true, Option.some.injEq] at h
  case' h_1 | h_4 => obtain ⟨plain, rfl⟩ := h
  case' h_2 | h_3 => subst h
  all_goals
    simp only [shortBits, BitVec.toNat_ofNat, low, part 2 2 (by decide), part 4 3 (by decide), Nat.reducePow, imp_false] at *
    omega

/-- The pair of descriptors that the decoder has read. -/
theorem pairBits_of_twoOperands {f : EShort → EShort → Instr} (h : twoOperands w f = some i) : ∃ y z, pairBits y z = field w 0 14 ∧ f y z = i := by
  unfold twoOperands at h
  split at h
  case h_2 => exact nomatch h
  case h_1 y z hy hz =>
    refine ⟨y, z, ?_, Option.some.inj h⟩
    rw [pairBits, shortBits_of_shortOperand hy, shortBits_of_shortOperand hz]
    unfold field
    omega

theorem spelled_dual (h : decodeDual t w = some i) : Spelled t 3 w false false e i := by
  unfold decodeDual at h
  split at h
  case isFalse => exact nomatch h
  case isTrue shape =>
    simp only [Bool.and_eq_true, beq_iff_eq, zeros_cons, zeros_nil, and_true] at shape
    obtain ⟨op, unused⟩ := shape
    obtain ⟨y, z, pair, rfl⟩ := pairBits_of_twoOperands h
    refine spelled_of op rfl (.inl rfl) nofun ?_
    rw [pair]
    simp only [numAt, field] at *
    omega

theorem spelled_immLoad (he : e < 2 ^ 32) (h : decodeImmLoad t w x e = some i) : Spelled t 4 w x false e i := by
  unfold decodeImmLoad at h
  split at h
  case h_8 => exact nomatch h
  all_goals
    simp only [given_eq_some, Bool.and_eq_true, zeros_cons, zeros_nil, and_true, Option.some.injEq] at h
  case' h_1 => subst h
  case' h_2 | h_3 | h_4 | h_5 | h_6 | h_7 => obtain ⟨unused, rfl⟩ := h
  all_goals
    refine spelled_of ‹_› rfl (.inl rfl) (fun _ => ?_) ?_
    all_goals
      simp only [numAt, bitsAt, BitVec.toNat_ofNat, field, Nat.reducePow, Nat.div_one, Bool.false_eq_true] at *
      try omega

/-- The file and the number that the decoder of a move has read. -/
theorem regBits_of_regOperand {f n : Nat} {r : EReg} (hf : f < 8) (hn : n < 16) (h : regOperand f n = some r) : regBits r = (f, n) := by
  unfold regOperand at h
  split at h
  case h_7 => exact nomatch h
  all_goals
    simp only [given_eq_some, decide_eq_true_eq, Option.some.injEq] at h
  case' h_1 | h_6 => subst h
  case' h_2 | h_3 | h_4 | h_5 => obtain ⟨low, rfl⟩ := h
  all_goals
    simp only [regBits, Prod.mk.injEq, true_and]
    omega

theorem spelled_move (h : decodeMove t w = some i) : Spelled t 5 w false false e i := by
  unfold decodeMove at h
  split at h
  case isFalse => exact nomatch h
  case isTrue shape =>
    simp only [Bool.and_eq_true, beq_iff_eq, zeros_cons, zeros_nil, and_true] at shape
    obtain ⟨op, unused⟩ := shape
    split at h
    case h_2 => exact nomatch h
    case h_1 rd rs hd hs =>
      obtain rfl := Option.some.inj h
      have d := regBits_of_regOperand (Nat.mod_lt _ (by decide)) (Nat.mod_lt _ (by decide)) hd
      have s := regBits_of_regOperand (Nat.mod_lt _ (by decide)) (Nat.mod_lt _ (by decide)) hs
      refine spelled_of op rfl (.inl rfl) nofun ?_
      rw [d, s]
      simp only [field] at *
      omega

theorem spelled_data (h : decodeData t w sat = some i) : Spelled t 8 w false sat e i := by
  unfold decodeData at h
  split at h
  case h_17 => exact nomatch h
  all_goals
    simp only [given_eq_some, Bool.and_eq_true, zeros_cons, zeros_nil, and_true] at h
    obtain ⟨unused, rfl⟩ := h
    refine spelled_of ‹_› rfl (by simp) nofun ?_
    simp only [threeBits, numAt, field, Fin.val_zero] at *
    omega

/-- The immediate that the decoder has read, with the words of an instruction that carries it. -/
theorem immWords_of_immOperand {c op r : Nat} {imm : EImm} {sat' : Bool} (he : e < 2 ^ 32) (h : immOperand w x e = some imm) (hop : field w 20 5 = op)
    (hs : sat' = sat ∨ sat' = false) (hr : r = field w 16 4) (hi : encodeNative i = immWords t c sat' op r imm) : Spelled t c w x sat e i := by
  cases x with
  | false =>
    obtain rfl := Option.some.inj h
    refine spelled_of hop hi hs nofun ?_
    simp only [bitsAt, BitVec.toNat_ofNat, field] at *
    omega
  | true =>
    simp only [immOperand, if_true, given_eq_some, Bool.and_eq_true, zeros_cons, zeros_nil, and_true] at h
    obtain ⟨⟨low, high⟩, rfl⟩ := h
    refine spelled_of hop hi hs (fun _ => ?_) ?_
    all_goals
      simp only [bitsAt, BitVec.toNat_ofNat, field, Nat.reducePow, Nat.div_one] at *
      omega

/-- The same for a shift count. -/
theorem countWords_of_countOperand {op : Nat} {dd : Fin 16} {k : Fin 32} {sat' : Bool} (he : e < 2 ^ 32) (h : countOperand w x e = some k)
    (hop : field w 20 5 = op) (hs : sat' = sat ∨ sat' = false) (hr : dd.val = field w 16 4) (hi : encodeNative i = countWords t sat' op dd x k) :
    Spelled t 9 w x sat e i := by
  cases x with
  | false =>
    simp only [countOperand, Bool.false_eq_true, if_false, given_eq_some, zeros_cons, zeros_nil, and_true] at h
    obtain ⟨low, rfl⟩ := h
    refine spelled_of hop hi hs nofun ?_
    simp only [numAt, field] at *
    omega
  | true =>
    simp only [countOperand, if_true, given_eq_some, Bool.and_eq_true, zeros_cons, zeros_nil, and_true] at h
    obtain ⟨⟨low, high⟩, rfl⟩ := h
    refine spelled_of hop hi hs (fun _ => ?_) ?_
    all_goals
      simp only [numAt, field, Nat.reducePow, Nat.div_one] at *
      omega

theorem spelled_dataImm (he : e < 2 ^ 32) (h : decodeDataImm t w x sat e = some i) : Spelled t 9 w x sat e i := by
  unfold decodeDataImm at h
  split at h
  case h_9 => exact nomatch h
  all_goals
    simp only [Option.map_eq_some_iff] at h
    obtain ⟨v, operand, rfl⟩ := h
  case h_1 | h_2 => exact immWords_of_immOperand he operand ‹_› (.inl rfl) rfl rfl
  case h_3 | h_4 | h_5 => exact immWords_of_immOperand he operand ‹_› (.inr rfl) rfl rfl
  case h_6 => exact countWords_of_countOperand he operand ‹_› (.inl rfl) rfl rfl
  case h_7 | h_8 => exact countWords_of_countOperand he operand ‹_› (.inr rfl) rfl rfl

theorem spelled_acc (h : decodeAcc t w sat = some i) : Spelled t 10 w false sat e i := by
  unfold decodeAcc at h
  split at h
  case h_13 => exact nomatch h
  all_goals
    simp only [given_eq_some, zeros_cons, zeros_nil, and_true] at h
    obtain ⟨unused, rfl⟩ := h
    refine spelled_of ‹_› rfl (by simp) nofun ?_
    simp only [numAt, bitsAt, BitVec.toNat_ofNat, field, Fin.val_zero] at *
    omega

theorem spelled_multiply (h : decodeMultiply t w sat = some i) : Spelled t 12 w false sat e i := by
  unfold decodeMultiply at h
  dsimp only at h
  split at h
  case h_8 => exact nomatch h
  case h_1 | h_2 | h_3 | h_4 =>
    simp only [given_eq_some, zeros_cons, zeros_nil, and_true] at h
    obtain ⟨unused, rfl⟩ := h
    refine spelled_of ‹_› rfl (.inl rfl) nofun ?_
    simp only [threeBits, numAt, field, Fin.val_zero] at *
    omega
  all_goals
    simp only [Option.ite_none_right_eq_some, zeros_cons, zeros_nil, and_true] at h
    obtain ⟨unused, operands⟩ := h
    obtain ⟨y, z, pair, rfl⟩ := pairBits_of_twoOperands operands
    refine spelled_of ‹_› rfl (.inl rfl) nofun ?_
    rw [pair]
    simp only [numAt, field] at *
    omega

theorem toNat_bitAt (w lo : Nat) : (bitAt w lo).toNat = field w lo 1 := by
  have lt : field w lo 1 < 2 := Nat.mod_lt _ (by decide)
  unfold bitAt
  interval_cases field w lo 1 <;> rfl

theorem dmacBits_bitAt (w : Nat) : dmacBits (bitAt w 19) (bitAt w 18) (bitAt w 17) (bitAt w 16) = field w 16 4 * 2 ^ 16 := by
  simp only [dmacBits, toNat_bitAt, field]
  omega

theorem spelled_dmac (h : decodeDmac t w sat = some i) : Spelled t 13 w false sat e i := by
  unfold decodeDmac at h
  dsimp only at h
  split at h
  case h_5 => exact nomatch h
  case h_2 | h_4 =>
    simp only [given_eq_some, zeros_cons, zeros_nil, and_true] at h
    obtain ⟨unused, rfl⟩ := h
    refine spelled_of ‹_› rfl (.inl rfl) nofun ?_
    rw [dmacBits_bitAt]
    simp only [threeBits, numAt, field, Fin.val_zero] at *
    omega
  all_goals
    simp only [Option.ite_none_right_eq_some, zeros_cons, zeros_nil, and_true] at h
    obtain ⟨unused, operands⟩ := h
    obtain ⟨y, z, pair, rfl⟩ := pairBits_of_twoOperands operands
    refine spelled_of ‹_› rfl (.inl rfl) nofun ?_
    rw [pair, dmacBits_bitAt]
    simp only [field] at *
    omega

theorem spelled_qmac (h : decodeQmac t w sat = some i) : Spelled t 14 w false sat e i := by
  unfold decodeQmac at h
  dsimp only at h
  split at h
  case h_5 => exact nomatch h
  case h_2 | h_4 =>
    simp only [given_eq_some, zeros_cons, zeros_nil, and_true] at h
    obtain ⟨unused, rfl⟩ := h
    refine spelled_of ‹_› rfl (.inl rfl) nofun ?_
    simp only [numAt, bitsAt, BitVec.toNat_ofNat, field] at *
    omega
  all_goals
    simp only [Option.ite_none_right_eq_some, zeros_cons, zeros_nil, and_true] at h
    obtain ⟨unused, operands⟩ := h
    obtain ⟨y, z, pair, rfl⟩ := pairBits_of_twoOperands operands
    refine spelled_of ‹_› rfl (.inl rfl) nofun ?_
    rw [pair]
    simp only [bitsAt, BitVec.toNat_ofNat, field] at *
    omega

theorem spelled_select (h : decodeSelect t w sat = some i) : Spelled t 15 w false sat e i := by
  unfold decodeSelect at h
  split at h
  case h_5 => exact nomatch h
  all_goals
    simp only [given_eq_some, zeros_cons, zeros_nil, and_true] at h
    obtain ⟨unused, rfl⟩ := h
    refine spelled_of ‹_› rfl (.inl rfl) nofun ?_
    simp only [threeBits, numAt, field] at *
    omega

theorem spelled_address (he : e < 2 ^ 32) (h : decodeAddress t w x e = some i) : Spelled t 16 w x false e i := by
  unfold decodeAddress at h
  split at h
  case isFalse => exact nomatch h
  case isTrue free =>
    simp only [zeros_cons, zeros_nil, and_true] at free
    have pointer : field w 16 3 = field w 16 4 := by
      simp only [field] at *
      omega
    split at h
    case h_4 => exact nomatch h
    case h_1 | h_3 =>
      simp only [Option.map_eq_some_iff] at h
      obtain ⟨v, operand, rfl⟩ := h
      exact immWords_of_immOperand he operand ‹_› (.inl rfl) pointer rfl
    case h_2 =>
      simp only [given_eq_some, Bool.and_eq_true, Bool.not_eq_true', zeros_cons, zeros_nil, and_true] at h
      obtain ⟨⟨rfl, unused⟩, rfl⟩ := h
      refine spelled_of ‹_› rfl (.inl rfl) nofun ?_
      simp only [numAt, field] at *
      omega

end Classes

/-- A word whose class decodes, with X and SAT only where the class permits them, is spelled by its instruction. -/
theorem spelled_class {t : Fin 32} {c w e : Nat} {x sat : Bool} {i : Instr} (he : e < 2 ^ 32) (hx : x = true → classX c = true)
    (hs : sat = true → classSat c = true) (h : decodeClass t c w x sat e = some i) : Spelled t c w x sat e i := by
  unfold decodeClass at h
  split at h
  case h_15 => exact nomatch h
  case h_1 | h_2 | h_4 | h_6 =>
    obtain rfl : x = false := by simpa [classX] using hx
    obtain rfl : sat = false := by simpa [classSat] using hs
    simp only [spelled_control, spelled_branch, spelled_dual, spelled_move, h]
  case h_3 | h_5 | h_14 =>
    obtain rfl : sat = false := by simpa [classSat] using hs
    simp only [spelled_memory, spelled_immLoad, spelled_address, he, h]
  case h_8 => exact spelled_dataImm he h
  all_goals
    obtain rfl : x = false := by simpa [classX] using hx
    simp only [spelled_data, spelled_acc, spelled_multiply, spelled_dmac, spelled_qmac, spelled_select, h]

theorem nativeWord_fields {w : Nat} (hw : w < 2 ^ 32) : nativeWord (field w 27 5) (bitAt w 26) (bitAt w 25) (field w 20 5) (field w 0 20) = w := by
  simp only [nativeWord, toNat_bitAt, field]
  omega

theorem and_add_and_not {n : Nat} (b m : BitVec n) : (b &&& m) + (b &&& ~~~m) = b := by
  rw [BitVec.add_eq_or_of_and_eq_zero]
  · ext j hj
    simp only [BitVec.getElem_or, BitVec.getElem_and, BitVec.getElem_not]
    cases b[j] <;> cases m[j] <;> rfl
  · ext j hj
    simp only [BitVec.getElem_and, BitVec.getElem_not, BitVec.getElem_zero]
    cases b[j] <;> cases m[j] <;> rfl

theorem bitAt_eq_getLsbD {n : Nat} (b : BitVec n) (j : Nat) : bitAt b.toNat j = b.getLsbD j := by
  rw [bitAt, field, BitVec.getLsbD, Nat.testBit_eq_decide_div_mod_eq]
  exact Bool.beq_eq_decide_eq ..

theorem nativeWord_sat (c op k : Nat) (x : Bool) : nativeWord c x true op k = nativeWord c x false op k + 2 ^ 25 := by
  simp only [nativeWord, Bool.toNat_true, Bool.toNat_false]
  omega

theorem ofNat_nativeWord_fields (b : Word) :
    BitVec.ofNat 32 (nativeWord (field b.toNat 27 5) (bitAt b.toNat 26) (bitAt b.toNat 25) (field b.toNat 20 5) (field b.toNat 0 20)) = b := by
  rw [nativeWord_fields b.isLt, BitVec.ofNat_toNat, BitVec.setWidth_eq]

/-- Without its SAT bit, which is bit 25. -/
theorem and_not_sat {b m : Word} (hm : ~~~m = BitVec.twoPow 32 25) : b &&& m
    = BitVec.ofNat 32 (nativeWord (field b.toNat 27 5) (bitAt b.toNat 26) false (field b.toNat 20 5) (field b.toNat 0 20)) := by
  have parts := and_add_and_not b m
  rw [hm, BitVec.and_twoPow, ← bitAt_eq_getLsbD] at parts
  have whole := ofNat_nativeWord_fields b
  cases sat : bitAt b.toNat 25 with
  | false =>
    rw [sat] at parts whole
    rw [if_neg Bool.false_ne_true, BitVec.add_zero] at parts
    rw [whole, parts]
  | true =>
    rw [sat] at parts whole
    rw [if_pos rfl] at parts
    rw [nativeWord_sat, BitVec.ofNat_add] at whole
    exact BitVec.add_left_inj _ |>.1 (parts.trans whole.symm)

/-- The words of what `decodeNative` reads are those it has read, but for an ignored SAT bit. -/
theorem words_of_decodeNative {t : Fin 32} {b e : Word} {i : Instr} (h : decodeNative t b e = some i) :
    ∃ b2 e2, encodeNative i = some (t, b2, e2) ∧ (b2 = b ∨ b2 = b &&& 0xFDFFFFFF) ∧ (b.getLsbD 26 = true → e2 = e) := by
  rw [decodeNative_eq] at h
  split at h
  case isTrue => exact nomatch h
  case isFalse permitted =>
    simp only [Bool.or_eq_true, Bool.and_eq_true, Bool.not_eq_true', not_or, not_and, Bool.not_eq_false] at permitted
    obtain ⟨sat', e', hs, he, spelled⟩ := spelled_class e.isLt permitted.1 permitted.2 h
    refine ⟨_, _, spelled, ?_, fun hx => ?_⟩
    · obtain rfl | rfl := hs
      · exact .inl (ofNat_nativeWord_fields b)
      · exact .inr (and_not_sat (by decide)).symm
    · apply BitVec.eq_of_toNat_eq
      rw [BitVec.toNat_ofNat, he (by rw [bitAt_eq_getLsbD, hx])]

end Sys2Proof

/-! The same of the MX-16 words (R332), and the round trip. -/

namespace Sys2Proof

/-- The decoder of an MX-16 group, as `decodeMx` chooses it (R332). -/
def decodeMxGroup (t : Fin 32) (group w : Nat) (second : BitVec 16) : Option Instr :=
  let r : Fin 8 := numAt 3 w 8
  let low := zeros w [(0, 8)]
  let high := bitAt w 11
  match group with
  | 0 => decodeMxControl t w
  | 1 => some (.mxBranch t (numAt 4 w 8) (bitsAt 8 w 0))
  | 2 =>
    match field w 8 4 with
    | 0 => given low (.mxLongBranch t second)
    | 1 => given low (.mxCall t second)
    | _ => none
  | 3 => given low (if high then .mxStoreDirect t r second else .mxLoadDirect t r second)
  | 4 => (mxOperand w).map (fun m => if high then .mxStoreIndirect t r m else .mxLoadIndirect t r m)
  | 5 => given (zeros w [(0, 2)]) (.mxAluReg t (numAt 4 w 8) (numAt 3 w 5) (numAt 3 w 2))
  | 6 => if zeros w [(0, 5)] then (mxImmOpAt (field w 8 4)).map (fun op => .mxAluImm t op (numAt 3 w 5) second) else none
  | 7 => decodeMxMultiply t w
  | 8 =>
    let f := if high then Instr.mxMsuMem t else Instr.mxMacMem t
    some (f (numAt 1 w 10) (numAt 1 w 9) (numAt 1 w 8) (mxStepAt w 6) (mxStepAt w 4))
  | 9 => decodeMxAcc t w
  | 10 => decodeMxAddress t w second
  | 11 => some (if high then .mxOut t r (bitsAt 8 w 0) else .mxIn t r (bitsAt 8 w 0))
  | 12 => given low (if high then .mxStatusWrite t r else .mxStatusRead t r)
  | _ => none

theorem decodeMx_eq (t : Fin 32) (f g : BitVec 16) : decodeMx t f g = decodeMxGroup t (field f.toNat 12 4) f.toNat g := rfl

/-- An MX-16 word is read by the decoder of its group, which sees the fields of its operands. -/
theorem decodeMx_word {t : Fin 32} {group k : Nat} {g : BitVec 16} {r : Option Instr} (hg : group < 16) (hk : k < 2 ^ 12)
    (h : ∀ w, (∀ lo n, lo + n ≤ 12 → field w lo n = field k lo n) → decodeMxGroup t group w g = r) :
    decodeMx t (BitVec.ofNat 16 (group * 2 ^ 12 + k)) g = r := by
  rw [decodeMx_eq, BitVec.toNat_ofNat, Nat.mod_eq_of_lt (by omega), field_top hk hg]
  exact h _ fun lo n h => field_below h

theorem field_bit_alone {lo n : Nat} (hn : 0 < n) : field (2 ^ lo) lo n = 1 := field_bit (r := 0) (Nat.two_pow_pos lo) hn

theorem field_below_bit_alone {hi lo n : Nat} (h : lo + n ≤ hi) : field (2 ^ hi) lo n = 0 := by
  have := field_below_alone (a := 1) h
  rwa [Nat.one_mul] at this

/-- The words of an MX-16 instruction are read as that instruction. -/
def MxRoundTrips (i : Instr) : Prop := ∀ (t : Fin 32) (f g : BitVec 16), encodeMx i = some (t, f, g) → decodeMx t f g = some i

theorem mxRoundTrips_of_words {i : Instr} {t : Fin 32} {group k : Nat} {second : BitVec 16} (h : encodeMx i = mxWords t group k second)
    (d : decodeMx t (BitVec.ofNat 16 (group * 2 ^ 12 + k)) second = some i) : MxRoundTrips i := by
  intro u f g he
  rw [h] at he
  obtain ⟨rfl, rfl, rfl⟩ := he
  exact d

theorem mxMemBits_lt (m : MxMem) : mxMemBits m < 2 ^ 8 := by
  cases m <;> simp only [mxMemBits] <;> omega

theorem mxOperand_of_field {w : Nat} {m : MxMem} (h : field w 0 8 = mxMemBits m) : mxOperand w = some m := by
  have part : ∀ j n, j + n ≤ 8 → field w j n = field (mxMemBits m) j n := fun j n hj => by rw [← h, field_field hj, Nat.zero_add]
  simp only [mxOperand, part 0 4 (by decide), part 4 2 (by decide), part 6 2 (by decide), numAt_eq, bitsAt_eq_field, zeros, List.all_cons, List.all_nil]
  cases m <;> simp (disch := omega) [-Nat.reducePow, mxMemBits, given, Nat.add_assoc, field_top, field_below, field_bit, field_below_bit, field_alone,
    field_below_alone, field_low]

theorem mxStepBits_lt (k : MxStep) : mxStepBits k < 4 := by cases k <;> decide

theorem mxStepAt_of_field {w lo : Nat} {k : MxStep} (h : field w lo 2 = mxStepBits k) : mxStepAt w lo = k := by
  rw [mxStepAt, h]
  cases k <;> rfl

theorem mxImmOpBits_lt (op : MxImmOp) : mxImmOpBits op < 16 := by cases op <;> decide

theorem mxImmOpAt_mxImmOpBits (op : MxImmOp) : mxImmOpAt (mxImmOpBits op) = some op := by cases op <;> rfl

section Groups
variable (t : Fin 32)

theorem mxRoundTrips_control : MxRoundTrips (.mxNop t) ∧ MxRoundTrips (.mxHalt t) ∧ MxRoundTrips (.mxRet t) ∧ (∀ n, MxRoundTrips (.mxRptImm t n))
    ∧ (∀ r, MxRoundTrips (.mxRptReg t r)) ∧ MxRoundTrips (.mxEi t) ∧ MxRoundTrips (.mxDi t) ∧ MxRoundTrips (.mxClampon t)
    ∧ MxRoundTrips (.mxClampoff t) ∧ MxRoundTrips (.mxClrs t) := by
  and_intros
  all_goals
    intros
    refine mxRoundTrips_of_words rfl (decodeMx_word (by decide) (by omega) fun w low => ?_)
    simp (disch := omega) [-Nat.reducePow, decodeMxGroup, decodeMxControl, low, zeros, given, numAt_eq, field_top, field_below, field_alone,
      field_below_alone, field_bit_alone, field_below_bit_alone, field_low, field_above]

theorem mxRoundTrips_branch : (∀ cc off, MxRoundTrips (.mxBranch t cc off)) ∧ (∀ v, MxRoundTrips (.mxLongBranch t v)) ∧ (∀ v, MxRoundTrips (.mxCall t v)) := by
  and_intros
  all_goals
    intros
    refine mxRoundTrips_of_words rfl (decodeMx_word (by decide) (by omega) fun w low => ?_)
    simp (disch := omega) [-Nat.reducePow, decodeMxGroup, low, zeros, given, numAt_eq, bitsAt_eq_field, field_top, field_below,
      field_bit_alone, field_below_bit_alone, field_low, field_above]

theorem mxRoundTrips_direct : (∀ r v, MxRoundTrips (.mxLoadDirect t r v)) ∧ (∀ r v, MxRoundTrips (.mxStoreDirect t r v))
    ∧ (∀ r v, MxRoundTrips (.mxIn t r v)) ∧ (∀ r v, MxRoundTrips (.mxOut t r v)) ∧ (∀ r, MxRoundTrips (.mxStatusRead t r))
    ∧ (∀ r, MxRoundTrips (.mxStatusWrite t r)) := by
  and_intros
  all_goals
    intros
    refine mxRoundTrips_of_words rfl (decodeMx_word (by decide) (by omega) fun w low => ?_)
    simp (disch := omega) [-Nat.reducePow, decodeMxGroup, low, zeros, given, numAt_eq, bitAt_eq, bitsAt_eq_field, Nat.add_assoc, field_top, field_below,
      field_alone, field_below_alone, field_bit, field_below_bit, field_low, field_above]

theorem mxRoundTrips_indirect : (∀ r m, MxRoundTrips (.mxLoadIndirect t r m)) ∧ (∀ r m, MxRoundTrips (.mxStoreIndirect t r m)) := by
  and_intros
  all_goals
    intro r m
    have lt := mxMemBits_lt m
    refine mxRoundTrips_of_words rfl (decodeMx_word (by decide) (by omega) fun w low => ?_)
    have operand : field w 0 8 = mxMemBits m := by
      simp (disch := omega) [-Nat.reducePow, low, Nat.add_assoc, field_below, field_below_bit, field_low]
    simp (disch := omega) [-Nat.reducePow, decodeMxGroup, low, mxOperand_of_field operand, numAt_eq, bitAt_eq, Nat.add_assoc, field_top,
      field_bit, field_below_bit, field_above]

theorem mxRoundTrips_alu : (∀ op rd rs, MxRoundTrips (.mxAluReg t op rd rs)) ∧ (∀ op rd v, MxRoundTrips (.mxAluImm t op rd v)) := by
  refine ⟨fun op rd rs => ?_, fun op rd v => ?_⟩
  · refine mxRoundTrips_of_words rfl (decodeMx_word (by decide) (by omega) fun w low => ?_)
    simp (disch := omega) [-Nat.reducePow, decodeMxGroup, low, zeros, given, numAt_eq, Nat.add_assoc, field_top, field_below, field_alone, field_below_alone]
  · have lt := mxImmOpBits_lt op
    refine mxRoundTrips_of_words rfl (decodeMx_word (by decide) (by omega) fun w low => ?_)
    simp (disch := omega) [-Nat.reducePow, decodeMxGroup, low, zeros, numAt_eq, mxImmOpAt_mxImmOpBits, field_top, field_below, field_alone, field_below_alone]

theorem mxRoundTrips_multiply : (∀ ac rs rt, MxRoundTrips (.mxMpy t ac rs rt)) ∧ (∀ ac rs rt, MxRoundTrips (.mxMac t ac rs rt))
    ∧ (∀ ac rs rt, MxRoundTrips (.mxMsu t ac rs rt)) ∧ (∀ rd rs rt, MxRoundTrips (.mxMpyr t rd rs rt)) := by
  and_intros
  all_goals
    intros
    refine mxRoundTrips_of_words rfl (decodeMx_word (by decide) (by omega) fun w low => ?_)
    simp (disch := omega) [-Nat.reducePow, decodeMxGroup, decodeMxMultiply, low, zeros, given, numAt_eq, Nat.add_assoc, field_top, field_below,
      field_alone, field_below_alone, field_bit, field_below_bit, field_low, field_above]

theorem mxRoundTrips_multiplyMem : (∀ ac x y sx sy, MxRoundTrips (.mxMacMem t ac x y sx sy)) ∧ (∀ ac x y sx sy, MxRoundTrips (.mxMsuMem t ac x y sx sy)) := by
  and_intros
  all_goals
    intro ac x y sx sy
    have ltx := mxStepBits_lt sx
    have lty := mxStepBits_lt sy
    refine mxRoundTrips_of_words rfl (decodeMx_word (by decide) (by omega) fun w low => ?_)
    have stepX : mxStepAt w 6 = sx := mxStepAt_of_field (by
      simp (disch := omega) [-Nat.reducePow, low, Nat.add_assoc, field_top, field_below, field_below_bit])
    have stepY : mxStepAt w 4 = sy := mxStepAt_of_field (by
      simp (disch := omega) [-Nat.reducePow, low, Nat.add_assoc, field_alone, field_below, field_below_bit])
    simp (disch := omega) [-Nat.reducePow, decodeMxGroup, low, stepX, stepY, numAt_eq, bitAt_eq, Nat.add_assoc, field_top, field_below, field_bit,
      field_below_bit, field_above]

theorem mxRoundTrips_acc : (∀ ac, MxRoundTrips (.mxAccClr t ac)) ∧ (∀ ac, MxRoundTrips (.mxAccAdd t ac)) ∧ (∀ ac, MxRoundTrips (.mxAccSub t ac))
    ∧ (∀ ac, MxRoundTrips (.mxAccNeg t ac)) ∧ (∀ ac, MxRoundTrips (.mxAccAbs t ac)) ∧ (∀ ac k, MxRoundTrips (.mxAccShl t ac k))
    ∧ (∀ ac k, MxRoundTrips (.mxAccShr t ac k)) ∧ (∀ ac r, MxRoundTrips (.mxAccRound t ac r)) ∧ (∀ ac r, MxRoundTrips (.mxAccLoad t ac r)) := by
  and_intros
  all_goals
    intros
    refine mxRoundTrips_of_words rfl (decodeMx_word (by decide) (by omega) fun w low => ?_)
    simp (disch := omega) [-Nat.reducePow, decodeMxGroup, decodeMxAcc, low, zeros, given, numAt_eq, Nat.add_assoc, field_top, field_below, field_alone,
      field_below_alone, field_bit, field_below_bit, field_low, field_above]

theorem mxRoundTrips_address : (∀ x v, MxRoundTrips (.mxIxLoad t x v)) ∧ (∀ x o, MxRoundTrips (.mxIxAdd t x o)) ∧ (∀ x r, MxRoundTrips (.mxIxToR t x r))
    ∧ (∀ x r, MxRoundTrips (.mxRToIx t x r)) := by
  and_intros
  all_goals
    intros
    refine mxRoundTrips_of_words rfl (decodeMx_word (by decide) (by omega) fun w low => ?_)
    simp (disch := omega) [-Nat.reducePow, decodeMxGroup, decodeMxAddress, low, zeros, given, numAt_eq, bitsAt_eq_field, Nat.add_assoc, field_top,
      field_below, field_alone, field_below_alone, field_bit, field_below_bit, field_low, field_above]

end Groups

/-- Every MX-16 instruction's words are read as that instruction. -/
theorem roundTrips_mx (i : Instr) : MxRoundTrips i := by
  intro t f g h
  have spelled := h
  unfold encodeMx at h
  split at h
  rotate_right
  · exact nomatch h
  all_goals
    refine (?_ : MxRoundTrips _) t f g spelled
    simp only [mxRoundTrips_control, mxRoundTrips_branch, mxRoundTrips_direct, mxRoundTrips_indirect, mxRoundTrips_alu, mxRoundTrips_multiply,
      mxRoundTrips_multiplyMem, mxRoundTrips_acc, mxRoundTrips_address]

/-- The words of an instruction that the MX-16 decoder has read, from a word w of a group and the word g after it: the group and the low 12 bits of w,
and g or nothing. A multiply from memory has no field for bits 3 to 0. -/
def MxSpelled (t : Fin 32) (group w : Nat) (g : BitVec 16) (i : Instr) : Prop :=
  ∃ k g2, (k = field w 0 12 ∨ (group = 8 ∧ k = field w 4 8 * 2 ^ 4)) ∧ (g2 = g ∨ g2 = 0) ∧ encodeMx i = mxWords t group k g2

theorem mxSpelled_of {t : Fin 32} {group w k : Nat} {g g2 : BitVec 16} {i : Instr} (hi : encodeMx i = mxWords t group k g2) (hg : g2 = g ∨ g2 = 0)
    (hk : k = field w 0 12) : MxSpelled t group w g i :=
  ⟨k, g2, .inl hk, hg, hi⟩

section Groups
variable {t : Fin 32} {w : Nat} {g : BitVec 16} {i : Instr}

theorem mxSpelled_control (h : decodeMxControl t w = some i) : MxSpelled t 0 w g i := by
  unfold decodeMxControl at h
  dsimp only at h
  split at h
  case h_11 => exact nomatch h
  case h_4 =>
    obtain rfl := Option.some.inj h
    refine mxSpelled_of rfl (.inr rfl) ?_
    simp only [numAt, field] at *
    omega
  all_goals
    simp only [given_eq_some, zeros_cons, zeros_nil, and_true] at h
    obtain ⟨unused, rfl⟩ := h
    refine mxSpelled_of rfl (.inr rfl) ?_
    simp only [numAt, field] at *
    omega

theorem mxMemBits_of_mxOperand {m : MxMem} (h : mxOperand w = some m) : mxMemBits m = field w 0 8 := by
  unfold mxOperand at h
  dsimp only at h
  split at h
  case' h_1 | h_4 =>
    simp only [given_eq_some, zeros_cons, zeros_nil, and_true] at h
    obtain ⟨unused, rfl⟩ := h
  case' h_2 | h_3 => obtain rfl := Option.some.inj h
  all_goals
    simp only [mxMemBits, numAt, bitsAt, BitVec.toNat_ofNat, field, Nat.reducePow, Nat.div_one, imp_false] at *
    omega

theorem mxImmOpBits_of_mxImmOpAt {n : Nat} {op : MxImmOp} (h : mxImmOpAt n = some op) : mxImmOpBits op = n := by
  unfold mxImmOpAt at h
  split at h
  case h_9 => exact nomatch h
  all_goals
    obtain rfl := Option.some.inj h
    rfl

theorem mxStepBits_mxStepAt (w lo : Nat) : mxStepBits (mxStepAt w lo) = field w lo 2 := by
  have lt : field w lo 2 < 4 := Nat.mod_lt _ (by decide)
  unfold mxStepAt
  interval_cases field w lo 2 <;> rfl

theorem mxSpelled_multiply (h : decodeMxMultiply t w = some i) : MxSpelled t 7 w g i := by
  unfold decodeMxMultiply at h
  dsimp only at h
  split at h
  all_goals
    simp only [given_eq_some, zeros_cons, zeros_nil, and_true] at h
    obtain ⟨unused, rfl⟩ := h
    refine mxSpelled_of rfl (.inr rfl) ?_
    simp only [numAt, field, Nat.reducePow, Nat.div_one, imp_false, Fin.val_zero] at *
    omega

theorem mxSpelled_acc (h : decodeMxAcc t w = some i) : MxSpelled t 9 w g i := by
  unfold decodeMxAcc at h
  dsimp only at h
  split at h
  case h_10 => exact nomatch h
  all_goals
    simp only [given_eq_some, zeros_cons, zeros_nil, and_true] at h
    obtain ⟨unused, rfl⟩ := h
    refine mxSpelled_of rfl (.inr rfl) ?_
    simp only [numAt, field] at *
    omega

theorem mxSpelled_address (h : decodeMxAddress t w g = some i) : MxSpelled t 10 w g i := by
  unfold decodeMxAddress at h
  dsimp only at h
  split at h
  case' h_1 | h_3 | h_4 =>
    simp only [given_eq_some, zeros_cons, zeros_nil, and_true] at h
    obtain ⟨unused, rfl⟩ := h
  case' h_2 => obtain rfl := Option.some.inj h
  all_goals
    refine mxSpelled_of rfl (by simp) ?_
    simp only [numAt, bitsAt, BitVec.toNat_ofNat, field, Nat.reducePow, Nat.div_one, imp_false] at *
    omega

/-- In the groups whose bit 11 chooses between two instructions, the word of the one that is read. -/
theorem mxSpelled_ite {group k : Nat} {a b : Instr} {g2 : BitVec 16} (hg : g2 = g ∨ g2 = 0) (ha : encodeMx a = mxWords t group (2 ^ 11 + k) g2)
    (hb : encodeMx b = mxWords t group k g2) (hk : k = field w 0 11) : MxSpelled t group w g (if bitAt w 11 then a else b) := by
  have high := toNat_bitAt w 11
  cases bit : bitAt w 11 with
  | true =>
    rw [bit] at high
    refine mxSpelled_of ha hg ?_
    simp only [field, Bool.toNat_true] at *
    omega
  | false =>
    rw [bit] at high
    refine mxSpelled_of hb hg ?_
    simp only [field, Bool.toNat_false] at *
    omega

theorem mxSpelled_multiplyMem : MxSpelled t 8 w g
    ((if bitAt w 11 then Instr.mxMsuMem t else Instr.mxMacMem t) (numAt 1 w 10) (numAt 1 w 9) (numAt 1 w 8) (mxStepAt w 6) (mxStepAt w 4)) := by
  have high := toNat_bitAt w 11
  refine ⟨_, 0, .inr ⟨rfl, rfl⟩, .inr rfl, ?_⟩
  cases bit : bitAt w 11 with
  | true | false =>
    refine congrArg (mxWords t 8 · 0) ?_
    rw [bit] at high
    rw [mxStepBits_mxStepAt, mxStepBits_mxStepAt]
    simp only [numAt, field, Bool.toNat_true, Bool.toNat_false] at *
    omega

theorem mxSpelled_group {group : Nat} (h : decodeMxGroup t group w g = some i) : MxSpelled t group w g i := by
  unfold decodeMxGroup at h
  dsimp only at h
  split at h
  case h_14 => exact nomatch h
  case h_1 => exact mxSpelled_control h
  case h_8 => exact mxSpelled_multiply h
  case h_10 => exact mxSpelled_acc h
  case h_11 => exact mxSpelled_address h
  case h_2 =>
    obtain rfl := Option.some.inj h
    refine mxSpelled_of rfl (.inr rfl) ?_
    simp only [numAt, bitsAt, BitVec.toNat_ofNat, field] at *
    omega
  case h_3 =>
    split at h
    case h_3 => exact nomatch h
    all_goals
      simp only [given_eq_some, zeros_cons, zeros_nil, and_true] at h
      obtain ⟨unused, rfl⟩ := h
      refine mxSpelled_of rfl (.inl rfl) ?_
      simp only [field] at *
      omega
  case h_4 | h_13 =>
    simp only [given_eq_some, zeros_cons, zeros_nil, and_true] at h
    obtain ⟨unused, rfl⟩ := h
    refine mxSpelled_ite (by simp) rfl rfl ?_
    simp only [numAt, field] at *
    omega
  case h_5 =>
    simp only [Option.map_eq_some_iff] at h
    obtain ⟨m, operand, rfl⟩ := h
    refine mxSpelled_ite (k := field w 8 3 * 2 ^ 8 + mxMemBits m) (.inr rfl) ?_ rfl ?_
    · rw [← Nat.add_assoc]
      rfl
    · rw [mxMemBits_of_mxOperand operand]
      simp only [field]
      omega
  case h_6 =>
    simp only [given_eq_some, zeros_cons, zeros_nil, and_true] at h
    obtain ⟨unused, rfl⟩ := h
    refine mxSpelled_of rfl (.inr rfl) ?_
    simp only [numAt, field] at *
    omega
  case h_7 =>
    simp only [Option.ite_none_right_eq_some, Option.map_eq_some_iff, zeros_cons, zeros_nil, and_true] at h
    obtain ⟨unused, op, operation, rfl⟩ := h
    refine mxSpelled_of rfl (.inl rfl) ?_
    rw [mxImmOpBits_of_mxImmOpAt operation]
    simp only [numAt, field] at *
    omega
  case h_9 =>
    obtain rfl := Option.some.inj h
    exact mxSpelled_multiplyMem
  case h_12 =>
    obtain rfl := Option.some.inj h
    refine mxSpelled_ite (k := field w 8 3 * 2 ^ 8 + (bitsAt 8 w 0).toNat) (.inr rfl) ?_ rfl ?_
    · rw [← Nat.add_assoc]
      rfl
    · simp only [bitsAt, BitVec.toNat_ofNat, field]
      omega

end Groups

theorem field_word (f : BitVec 16) : BitVec.ofNat 16 (field f.toNat 12 4 * 2 ^ 12 + field f.toNat 0 12) = f := by
  apply BitVec.eq_of_toNat_eq
  have := f.isLt
  simp only [BitVec.toNat_ofNat, field]
  omega

/-- A word without its lowest four bits. -/
theorem and_not_low {f m : BitVec 16} (hm : ~~~m = 15) : f &&& m = BitVec.ofNat 16 (field f.toNat 12 4 * 2 ^ 12 + field f.toNat 4 8 * 2 ^ 4) := by
  have low : (f &&& 15).toNat = f.toNat % 16 := by
    rw [BitVec.toNat_and]
    exact Nat.and_two_pow_sub_one_eq_mod f.toNat 4
  have parts := congrArg BitVec.toNat (and_add_and_not f m)
  rw [hm, BitVec.toNat_add, low] at parts
  apply BitVec.eq_of_toNat_eq
  have := f.isLt
  have := (f &&& m).isLt
  have := Nat.and_le_left (n := f.toNat) (m := m.toNat)
  rw [← BitVec.toNat_and] at this
  simp only [BitVec.toNat_ofNat, field]
  omega

/-- The words of what `decodeMx` reads are those it has read, but for the bits that a multiply from memory ignores, and with no second word where the
instruction has none. -/
theorem words_of_decodeMx {t : Fin 32} {f g : BitVec 16} {i : Instr} (h : decodeMx t f g = some i) :
    ∃ f2 g2, encodeMx i = some (t, f2, g2) ∧ (f2 = f ∨ (f.toNat / 4096 = 8 ∧ f2 = f &&& 0xFFF0)) ∧ (g2 = g ∨ g2 = 0) := by
  rw [decodeMx_eq] at h
  obtain ⟨k, g2, hk, hg, spelled⟩ := mxSpelled_group h
  refine ⟨_, _, spelled, ?_, hg⟩
  obtain rfl | ⟨group, rfl⟩ := hk
  · exact .inl (field_word f)
  · refine .inr ⟨?_, (and_not_low (by decide)).symm⟩
    have := f.isLt
    unfold field at group
    omega

/-- Settles O39, class by class and group by group: a field of a sum of operands is that operand, and the operands make up the fields they were read
from. -/
theorem instructionWordsRoundTrip : Obligations.InstructionWordsRoundTrip :=
  ⟨roundTrips_native, roundTrips_mx, fun _ _ _ _ => words_of_decodeNative, fun _ _ _ _ => words_of_decodeMx⟩

end Sys2Proof

/-! Reserved classes, groups and operations (R307, R332). -/

namespace Sys2Proof

section Operations
variable {t : Fin 32} {w e : Nat} {x sat : Bool} {i : Instr}

/-! A decoder of a class reads the operations of its table alone. -/

theorem op_lt_of_decodeControl (h : decodeControl t w = some i) : field w 20 5 < 9 := by
  unfold decodeControl at h
  split at h
  case h_10 => exact nomatch h
  all_goals omega

theorem op_lt_of_decodeBranch (h : decodeBranch t w = some i) : field w 20 5 < 7 := by
  unfold decodeBranch at h
  split at h
  case h_8 => exact nomatch h
  all_goals omega

theorem op_lt_of_decodeMemory (h : decodeMemory t w x e = some i) : field w 20 5 < 15 := by
  unfold decodeMemory at h
  split at h
  case h_2 => exact nomatch h
  case h_1 =>
    split at h
    case h_16 => exact nomatch h
    all_goals omega

theorem op_lt_of_decodeDual (h : decodeDual t w = some i) : field w 20 5 < 1 := by
  unfold decodeDual at h
  split at h
  case isFalse => exact nomatch h
  case isTrue shape =>
    simp only [Bool.and_eq_true, beq_iff_eq] at shape
    omega

theorem op_lt_of_decodeImmLoad (h : decodeImmLoad t w x e = some i) : field w 20 5 < 6 := by
  unfold decodeImmLoad at h
  split at h
  case h_8 => exact nomatch h
  all_goals omega

theorem op_lt_of_decodeMove (h : decodeMove t w = some i) : field w 20 5 < 1 := by
  unfold decodeMove at h
  split at h
  case isFalse => exact nomatch h
  case isTrue shape =>
    simp only [Bool.and_eq_true, beq_iff_eq] at shape
    omega

theorem op_lt_of_decodeData (h : decodeData t w sat = some i) : field w 20 5 < 16 := by
  unfold decodeData at h
  split at h
  case h_17 => exact nomatch h
  all_goals omega

theorem op_mem_of_decodeDataImm (h : decodeDataImm t w x sat e = some i) : field w 20 5 ∈ [0, 2, 7, 8, 9, 11, 12, 13] := by
  unfold decodeDataImm at h
  split at h
  case h_9 => exact nomatch h
  all_goals simp only [*, List.mem_cons, true_or, or_true]

theorem op_lt_of_decodeAcc (h : decodeAcc t w sat = some i) : field w 20 5 < 12 := by
  unfold decodeAcc at h
  split at h
  case h_13 => exact nomatch h
  all_goals omega

theorem op_lt_of_decodeMultiply (h : decodeMultiply t w sat = some i) : field w 20 5 < 7 := by
  unfold decodeMultiply at h
  dsimp only at h
  split at h
  case h_8 => exact nomatch h
  all_goals omega

theorem op_lt_of_decodeDmac (h : decodeDmac t w sat = some i) : field w 20 5 < 4 := by
  unfold decodeDmac at h
  dsimp only at h
  split at h
  case h_5 => exact nomatch h
  all_goals omega

theorem op_lt_of_decodeQmac (h : decodeQmac t w sat = some i) : field w 20 5 < 4 := by
  unfold decodeQmac at h
  dsimp only at h
  split at h
  case h_5 => exact nomatch h
  all_goals omega

theorem op_lt_of_decodeSelect (h : decodeSelect t w sat = some i) : field w 20 5 < 4 := by
  unfold decodeSelect at h
  split at h
  case h_5 => exact nomatch h
  all_goals omega

theorem op_lt_of_decodeAddress (h : decodeAddress t w x e = some i) : field w 20 5 < 3 := by
  unfold decodeAddress at h
  split at h
  case isFalse => exact nomatch h
  case isTrue =>
    split at h
    case h_4 => exact nomatch h
    all_goals omega

/-- The classes but 9, each with the number of its operations (R314 to R331). -/
def classOps : List (Nat × Nat) :=
  [(0, 9), (1, 7), (2, 15), (3, 1), (4, 6), (5, 1), (8, 16), (10, 12), (12, 7), (13, 4), (14, 4), (15, 4), (16, 3)]

theorem op_of_decodeClass {c : Nat} (h : decodeClass t c w x sat e = some i) :
    c = 9 ∧ field w 20 5 ∈ [0, 2, 7, 8, 9, 11, 12, 13] ∨ ∃ q ∈ classOps, c = q.1 ∧ field w 20 5 < q.2 := by
  unfold decodeClass at h
  split at h
  case h_15 => exact nomatch h
  case h_8 => exact .inl ⟨rfl, op_mem_of_decodeDataImm h⟩
  case h_1 => exact .inr ⟨(0, 9), by decide, rfl, op_lt_of_decodeControl h⟩
  case h_2 => exact .inr ⟨(1, 7), by decide, rfl, op_lt_of_decodeBranch h⟩
  case h_3 => exact .inr ⟨(2, 15), by decide, rfl, op_lt_of_decodeMemory h⟩
  case h_4 => exact .inr ⟨(3, 1), by decide, rfl, op_lt_of_decodeDual h⟩
  case h_5 => exact .inr ⟨(4, 6), by decide, rfl, op_lt_of_decodeImmLoad h⟩
  case h_6 => exact .inr ⟨(5, 1), by decide, rfl, op_lt_of_decodeMove h⟩
  case h_7 => exact .inr ⟨(8, 16), by decide, rfl, op_lt_of_decodeData h⟩
  case h_9 => exact .inr ⟨(10, 12), by decide, rfl, op_lt_of_decodeAcc h⟩
  case h_10 => exact .inr ⟨(12, 7), by decide, rfl, op_lt_of_decodeMultiply h⟩
  case h_11 => exact .inr ⟨(13, 4), by decide, rfl, op_lt_of_decodeDmac h⟩
  case h_12 => exact .inr ⟨(14, 4), by decide, rfl, op_lt_of_decodeQmac h⟩
  case h_13 => exact .inr ⟨(15, 4), by decide, rfl, op_lt_of_decodeSelect h⟩
  case h_14 => exact .inr ⟨(16, 3), by decide, rfl, op_lt_of_decodeAddress h⟩

end Operations

theorem classX_iff (c : Nat) : classX c = true ↔ c ∈ [2, 4, 9, 16] := by
  simp [classX, or_assoc]

theorem classSat_iff (c : Nat) : classSat c = true ↔ c ∈ [8, 9, 10, 12, 13, 14, 15] := by
  simp [classSat, or_assoc]

/-- X and SAT are set only in the classes that permit them, and the operation is one of its class. -/
theorem header_of_decodeNative {t : Fin 32} {b e : Word} {i : Instr} (h : decodeNative t b e = some i) :
    (b.getLsbD 26 = true → classX (field b.toNat 27 5) = true) ∧ (b.getLsbD 25 = true → classSat (field b.toNat 27 5) = true)
    ∧ (field b.toNat 27 5 = 9 ∧ field b.toNat 20 5 ∈ [0, 2, 7, 8, 9, 11, 12, 13] ∨ ∃ q ∈ classOps, field b.toNat 27 5 = q.1 ∧ field b.toNat 20 5 < q.2) := by
  rw [decodeNative_eq] at h
  split at h
  case isTrue => exact nomatch h
  case isFalse permitted =>
    simp only [Bool.or_eq_true, Bool.and_eq_true, Bool.not_eq_true', not_or, not_and, Bool.not_eq_false, bitAt_eq_getLsbD] at permitted
    exact ⟨permitted.1, permitted.2, op_of_decodeClass h⟩

theorem group_le_of_decodeMxGroup {t : Fin 32} {group w : Nat} {g : BitVec 16} {i : Instr} (h : decodeMxGroup t group w g = some i) : group ≤ 12 := by
  unfold decodeMxGroup at h
  dsimp only at h
  split at h
  case h_14 => exact nomatch h
  all_goals decide

/-- The class of a word is its highest five bits. -/
theorem field_class (b : Word) : field b.toNat 27 5 = b.toNat / 2 ^ 27 := by
  have := b.isLt
  unfold field
  omega

theorem field_group (f : BitVec 16) : field f.toNat 12 4 = f.toNat / 2 ^ 12 := by
  have := f.isLt
  unfold field
  omega

/-- Settles O40: what a class decoder reads bounds the operation, and a reserved class or group has no decoder. -/
theorem reservedWordsRefused : Obligations.ReservedWordsRefused := by
  refine ⟨fun i t b e h => ?_, fun t e => ⟨rfl, rfl⟩, fun i t f g h => ?_, fun t g => rfl⟩
  · have header := header_of_decodeNative h
    rwa [classX_iff, classSat_iff, field_class] at header
  · rw [decodeMx_eq, field_group] at h
    exact group_le_of_decodeMxGroup h

end Sys2Proof

/-! Instructions of an Ember tile: what each issues, by the four ways an instruction acts on its tile (R292 to R332). -/

namespace Sys2Proof.Machine

open Sys2Proof

section Issue
variable {s : State} {t : Fin 32} {c : Instr} {mx forb bad : Bool} {size cycles lat n m : Nat} {act : MemAct}

/-- An instruction that queues writes which depend on its tile. -/
theorem State.issued_queue {ws : Tile → List (Nat × EWrite)} (hc : s.canIssue t mx size)
    (he : exec c s = .next (s.issue t mx forb size cycles (fun s => s.queue t (ws (s.tile t))))) :
    ∃ u, exec c s = .next u ∧ s.issued u t size cycles (fun x => x.queue (ws x)) :=
  ⟨_, he, State.issued_of hc (by rw [State.queue, State.tile_setTile]) rfl rfl rfl⟩

/-- An instruction that changes its tile alone, and neither its task, its freeze nor its program counter. -/
theorem State.issued_tile {f : Tile → Tile} (hc : s.canIssue t mx size) (he : exec c s = .next (s.issue t mx forb size cycles (fun s => s.setTile t (f (s.tile t)))))
    (task : (f (s.tile t)).task = (s.tile t).task) (wait : (f (s.tile t)).wait = (s.tile t).wait) (pc : (f (s.tile t)).pc = (s.tile t).pc) :
    ∃ u, exec c s = .next u ∧ s.issued u t size cycles f :=
  ⟨_, he, State.issued_of hc (by rw [State.tile_setTile]) task wait pc⟩

/-- The same of an instruction with an operand that may be reserved, where it is not. -/
theorem State.issued_legal {f : Tile → Tile} (hc : s.canIssue t mx size) (legal : bad = false)
    (he : exec c s = .next (s.issue t mx forb size cycles (State.illegalIf bad t (fun s => s.setTile t (f (s.tile t))))))
    (task : (f (s.tile t)).task = (s.tile t).task) (wait : (f (s.tile t)).wait = (s.tile t).wait) (pc : (f (s.tile t)).pc = (s.tile t).pc) :
    ∃ u, exec c s = .next u ∧ s.issued u t size cycles f := by
  subst legal
  exact State.issued_tile hc he task wait pc

/-- A read of an operand in the tile's own memory. -/
theorem State.issued_read {a : Tile → Addr} (hc : s.canIssue t mx size) (ha : s.reaches t (a (s.tile t)) n true)
    (he : exec c s = .next (s.issue t mx forb size cycles (fun s => s.access t lat act (a (s.tile t)) n none))) :
    ∃ u, exec c s = .next u ∧ s.issued u t size cycles (fun x =>
      (x.queue (a (s.tile t)).writes).queue (act.writes x lat (s.operand t (a (s.tile t)) n) [])) := by
  refine ⟨_, he, State.issued_of hc ?_ rfl rfl rfl⟩
  rw [State.tile_setTile, State.access_of (State.reaches_setTile ha), State.operand_setTile]
  simp only [State.queue, State.tile_setTile, State.setTile_setTile]

/-- A read of an X and a Y operand in the tile's own memory. -/
theorem State.issued_readTwo {a b : Tile → Addr} (hc : s.canIssue t mx size) (ha : s.reaches t (a (s.tile t)) n true)
    (hb : s.reaches t (b (s.tile t)) m true)
    (he : exec c s = .next (s.issue t mx forb size cycles (fun s => s.access t lat act (a (s.tile t)) n (some (b (s.tile t), m))))) :
    ∃ u, exec c s = .next u ∧ s.issued u t size cycles (fun x =>
      (x.queue ((a (s.tile t)).writes ++ (b (s.tile t)).writes)).queue
        (act.writes x lat (s.operand t (a (s.tile t)) n) (s.operand t (b (s.tile t)) m))) := by
  refine ⟨_, he, State.issued_of hc ?_ rfl rfl rfl⟩
  rw [State.tile_setTile, State.access_two (State.reaches_setTile ha) (State.reaches_setTile hb), State.operand_setTile, State.operand_setTile]
  simp only [State.queue, State.tile_setTile, State.setTile_setTile]

/-- A store in the tile's own memory. -/
theorem State.issued_store {a : Tile → Addr} {ws : Tile → List Word} (hc : s.canIssue t mx size)
    (ha : s.reaches t (a (s.tile t)) (ws (s.tile t)).length false)
    (he : exec c s = .next (s.issue t mx forb size cycles (fun s => s.storeWords t (a (s.tile t)) (ws (s.tile t))))) :
    ∃ u, exec c s = .next u ∧ s.issuedStore u t size cycles (a (s.tile t)) (ws (s.tile t)) :=
  ⟨_, he, State.issuedStore_of hc ha (by rw [State.tile_setTile])⟩

end Issue

/-- Settles O30: each instruction queues its writes, or changes its tile's branch or repeat. -/
theorem emberMovesAndControlComplete : Obligations.EmberMovesAndControlComplete :=
  ⟨fun _ _ hc => State.issued_queue hc rfl,
   fun _ _ _ _ hc => State.issued_queue hc rfl,
   fun _ _ _ _ hc => State.issued_queue hc rfl,
   fun _ _ _ _ hc => State.issued_queue hc rfl,
   fun _ _ _ _ hc => State.issued_queue hc rfl,
   fun _ _ _ _ hc => State.issued_queue hc rfl,
   fun _ _ _ _ hc => State.issued_queue hc rfl,
   fun _ _ _ _ hc => State.issued_queue hc rfl,
   fun _ _ _ _ hc legal => State.issued_legal hc legal rfl rfl rfl rfl,
   fun _ _ _ hc => State.issued_queue hc rfl,
   fun _ _ _ _ hc => State.issued_queue hc rfl,
   fun _ _ _ _ hc => State.issued_queue hc rfl,
   fun _ _ _ _ hc => State.issued_queue hc rfl,
   fun _ _ _ hc => State.issued_queue hc rfl,
   fun _ _ _ _ hc => State.issued_queue hc rfl,
   fun _ _ hc => State.issued_tile hc rfl rfl rfl rfl,
   fun _ _ _ hc => State.issued_tile hc rfl rfl rfl rfl,
   fun _ _ _ hc => State.issued_tile hc rfl rfl rfl rfl,
   fun _ _ hc => State.issued_tile hc rfl rfl rfl rfl,
   fun _ _ hc => State.issued_tile hc rfl rfl rfl rfl,
   fun _ _ hc => State.issued_tile hc rfl rfl rfl rfl,
   fun _ _ _ hc => State.issued_tile hc rfl rfl rfl rfl,
   fun _ _ _ _ hc legal => State.issued_legal hc (decide_eq_false legal) rfl rfl rfl rfl,
   fun _ _ _ hc => State.issued_tile hc rfl rfl rfl rfl,
   fun _ _ _ hc => State.issued_tile hc rfl rfl rfl rfl,
   fun _ _ _ hc => State.issued_tile hc rfl rfl rfl rfl,
   fun _ _ hc => State.issued_tile hc rfl rfl rfl rfl,
   fun _ _ _ _ hc => State.issued_tile hc rfl rfl rfl rfl,
   fun _ _ _ hc => State.issued_tile hc rfl rfl rfl rfl⟩

/-- Settles O31: each operation queues its result and flags. -/
theorem emberAluComplete : Obligations.EmberAluComplete :=
  ⟨fun _ _ _ _ _ _ hc => State.issued_queue hc rfl,
   fun _ _ _ _ _ _ hc => State.issued_queue hc rfl,
   fun _ _ _ _ _ hc => State.issued_queue hc rfl,
   fun _ _ _ _ _ hc => State.issued_queue hc rfl,
   fun _ _ _ _ _ hc => State.issued_queue hc rfl,
   fun _ _ _ _ _ hc => State.issued_queue hc rfl,
   fun _ _ _ _ _ hc => State.issued_queue hc rfl,
   fun _ _ _ _ _ hc => State.issued_queue hc rfl,
   fun _ _ _ _ _ hc => State.issued_queue hc rfl,
   fun _ _ _ _ _ hc => State.issued_queue hc rfl,
   fun _ _ _ _ hc => State.issued_queue hc rfl,
   fun _ _ _ _ _ _ hc => State.issued_queue hc rfl,
   fun _ _ _ _ _ hc => State.issued_queue hc rfl,
   fun _ _ _ _ _ hc => State.issued_queue hc rfl,
   fun _ _ _ _ _ _ hc => State.issued_queue hc rfl,
   fun _ _ _ _ _ _ hc => State.issued_queue hc rfl,
   fun _ _ _ _ _ hc => State.issued_queue hc rfl,
   fun _ _ _ _ _ hc => State.issued_queue hc rfl,
   fun _ _ _ _ hc => State.issued_queue hc rfl,
   fun _ _ _ _ hc => State.issued_queue hc rfl,
   fun _ _ _ _ hc => State.issued_queue hc rfl,
   fun _ _ _ _ _ _ hc => State.issued_queue hc rfl,
   fun _ _ _ _ _ hc => State.issued_queue hc rfl,
   fun _ _ _ _ _ hc => State.issued_queue hc rfl,
   fun _ _ _ _ _ hc => State.issued_queue hc rfl,
   fun _ _ _ _ _ _ _ hc => State.issued_queue hc rfl,
   fun _ _ _ _ _ _ _ hc => State.issued_queue hc rfl,
   fun _ _ _ _ _ _ _ hc legal => State.issued_legal hc (decide_eq_false legal) rfl rfl rfl rfl,
   fun _ _ _ _ _ _ _ hc legal => State.issued_legal hc (decide_eq_false legal) rfl rfl rfl rfl⟩

/-- Settles O32: each operation queues its result and flags. -/
theorem emberAccumulatorAndMultiplyComplete : Obligations.EmberAccumulatorAndMultiplyComplete :=
  ⟨fun _ _ _ _ _ hc => State.issued_queue hc rfl,
   fun _ _ _ _ _ hc => State.issued_queue hc rfl,
   fun _ _ _ _ _ hc => State.issued_queue hc rfl,
   fun _ _ _ _ _ hc => State.issued_queue hc rfl,
   fun _ _ _ _ _ _ hc legal => State.issued_legal hc (decide_eq_false legal) rfl rfl rfl rfl,
   fun _ _ _ _ _ hc legal => State.issued_legal hc (decide_eq_false legal) rfl rfl rfl rfl,
   fun _ _ _ _ _ hc => State.issued_queue hc rfl,
   fun _ _ _ _ _ hc => State.issued_queue hc rfl,
   fun _ _ _ _ _ _ hc => State.issued_queue hc rfl,
   fun _ _ _ _ _ _ hc => State.issued_queue hc rfl,
   fun _ _ _ _ _ _ hc => State.issued_queue hc rfl,
   fun _ _ _ _ _ _ hc => State.issued_queue hc rfl,
   fun _ _ _ _ _ _ _ _ _ hc legal => State.issued_legal hc (decide_eq_false legal) rfl rfl rfl rfl,
   fun _ _ _ _ _ _ _ _ _ hc legal => State.issued_legal hc (decide_eq_false legal) rfl rfl rfl rfl,
   fun _ _ _ _ _ _ hc => State.issued_queue hc rfl,
   fun _ _ _ _ _ _ hc => State.issued_queue hc rfl⟩

/-- Settles O33: a load reads one operand, a multiply an X and a Y operand. -/
theorem emberMemoryReadsComplete : Obligations.EmberMemoryReadsComplete :=
  ⟨fun _ _ _ _ _ _ hc hx hy => State.issued_readTwo (a := fun x => x.saddr false _) (b := fun x => x.saddr true _) hc hx hy rfl,
   fun _ _ _ _ _ _ hc hx hy => State.issued_readTwo (a := fun x => x.saddr false _) (b := fun x => x.saddr true _) hc hx hy rfl,
   fun _ _ _ _ _ _ hc hx hy => State.issued_readTwo (a := fun x => x.saddr false _) (b := fun x => x.saddr true _) hc hx hy rfl,
   fun _ _ _ _ _ _ _ _ _ hc hx hy => State.issued_readTwo (a := fun x => x.saddr false _) (b := fun x => x.saddr true _) hc hx hy rfl,
   fun _ _ _ _ _ _ _ _ _ hc hx hy => State.issued_readTwo (a := fun x => x.saddr false _) (b := fun x => x.saddr true _) hc hx hy rfl,
   fun _ _ _ _ _ _ hc hx hy => State.issued_readTwo (a := fun x => x.saddr false _) (b := fun x => x.saddr true _) hc hx hy rfl,
   fun _ _ _ _ _ _ hc hx hy => State.issued_readTwo (a := fun x => x.saddr false _) (b := fun x => x.saddr true _) hc hx hy rfl,
   fun _ _ _ _ hc hx => State.issued_read (a := fun x => x.eaddr _) hc hx rfl,
   fun _ _ _ _ hc hx => State.issued_read (a := fun x => x.eaddr _) hc hx rfl,
   fun _ _ _ _ hc hx => State.issued_read (a := fun x => x.eaddr _) hc hx rfl,
   fun _ _ _ _ hc hx => State.issued_read (a := fun x => x.eaddr _) hc hx rfl,
   fun _ _ _ _ hc hx => State.issued_read (a := fun x => x.eaddr _) hc hx rfl,
   fun _ _ _ _ hc hx => State.issued_read (a := fun x => x.eaddr _) hc hx rfl,
   fun _ _ _ _ hc hx => State.issued_read (a := fun x => x.eaddr _) hc hx rfl,
   fun _ _ _ _ _ hc hx hy => State.issued_readTwo (a := fun x => x.saddr false _) (b := fun x => x.saddr true _) hc hx hy rfl⟩

/-- Settles O34: each instruction stores the words of its register. -/
theorem emberStoresComplete : Obligations.EmberStoresComplete :=
  ⟨fun _ _ _ _ hc ha => State.issued_store (a := fun x => x.eaddr _) (ws := fun x => [wordOfD (x.rd _)]) hc ha rfl,
   fun _ _ _ _ hc ha => State.issued_store (a := fun x => x.eaddr _) (ws := fun x => wordsOfA (x.ra _)) hc ha rfl,
   fun _ _ _ _ hc ha => State.issued_store (a := fun x => x.eaddr _) (ws := fun x => x.quad _) hc ha rfl,
   fun _ _ _ _ hc ha => State.issued_store (a := fun x => x.eaddr _) (ws := fun x => wordsOfP (x.rp _)) hc ha rfl,
   fun _ _ _ _ hc ha => State.issued_store (a := fun x => x.eaddr _) (ws := fun x => wordsOfP (x.rb _)) hc ha rfl,
   fun _ _ _ _ hc ha => State.issued_store (a := fun x => x.eaddr _) (ws := fun x => [(x.rl _).setWidth 32]) hc ha rfl,
   fun _ _ _ _ hc ha => State.issued_store (a := fun x => x.eaddr _) (ws := fun x => [wordOfD (x.rm _)]) hc ha rfl⟩

/-- Settles O35: each instruction changes its tile's branch or repeat, or queues a write of sr. -/
theorem mxControlComplete : Obligations.MxControlComplete :=
  ⟨fun _ _ hc => State.issued_queue hc rfl,
   fun _ _ hc => State.issued_tile hc rfl rfl rfl rfl,
   fun _ _ _ hc => State.issued_tile hc rfl rfl rfl rfl,
   fun _ _ _ hc => State.issued_tile hc rfl rfl rfl rfl,
   fun _ _ hc => State.issued_tile hc rfl rfl rfl rfl,
   fun _ _ hc => State.issued_tile hc rfl rfl rfl rfl,
   fun _ _ hc => State.issued_tile hc rfl rfl rfl rfl,
   fun _ _ hc => State.issued_tile hc rfl rfl rfl rfl,
   fun _ _ hc => State.issued_tile hc rfl rfl rfl rfl,
   fun _ _ _ _ hc legal => State.issued_legal hc (decide_eq_false legal) rfl rfl rfl rfl,
   fun _ _ _ hc => State.issued_tile hc rfl rfl rfl rfl,
   fun _ _ _ hc => State.issued_tile hc rfl rfl rfl rfl,
   fun _ _ _ hc => State.issued_tile hc rfl rfl rfl rfl⟩

/-- Settles O36: each instruction queues its result and flags. -/
theorem mxAluComplete : Obligations.MxAluComplete :=
  ⟨fun _ _ _ _ _ hc => State.issued_queue hc rfl,
   fun _ _ _ _ _ hc => State.issued_queue hc rfl,
   fun _ _ _ _ _ hc => State.issued_queue hc rfl,
   fun _ _ _ _ _ hc => State.issued_queue hc rfl,
   fun _ _ _ _ _ hc => State.issued_queue hc rfl,
   fun _ _ _ _ _ hc => State.issued_queue hc rfl,
   fun _ _ _ hc => State.issued_queue hc rfl,
   fun _ _ _ _ hc => State.issued_queue hc rfl,
   fun _ _ _ _ hc => State.issued_queue hc rfl,
   fun _ _ _ _ hc => State.issued_queue hc rfl,
   fun _ _ _ _ hc => State.issued_queue hc rfl,
   fun _ _ _ hc => State.issued_queue hc rfl,
   fun _ _ _ hc => State.issued_queue hc rfl,
   fun _ _ _ hc => State.issued_queue hc rfl,
   fun _ _ _ hc => State.issued_queue hc rfl,
   fun _ _ _ hc => State.issued_queue hc rfl,
   fun _ _ _ _ hc => State.issued_queue hc rfl,
   fun _ _ _ _ hc => State.issued_queue hc rfl,
   fun _ _ _ _ hc => State.issued_queue hc rfl,
   fun _ _ _ _ hc => State.issued_queue hc rfl⟩

/-- Settles O37: a read of one operand or two, or a store of the register's word. -/
theorem mxMemoryComplete : Obligations.MxMemoryComplete :=
  ⟨fun _ _ _ _ hc ha => State.issued_read (a := fun _ => fixedAddr _) hc ha rfl,
   fun _ _ _ _ hc ha => State.issued_store (a := fun _ => fixedAddr _) (ws := fun x => x.mxStored _) hc ha rfl,
   fun _ _ _ _ hc ha => State.issued_read (a := fun x => x.xaddr _) hc ha rfl,
   fun _ _ _ _ hc ha => State.issued_store (a := fun x => x.xaddr _) (ws := fun x => x.mxStored _) hc ha rfl,
   fun _ _ _ _ _ _ _ hc hx hy => State.issued_readTwo (a := fun x => x.maddr _ _) (b := fun x => x.maddr _ _) hc hx hy rfl,
   fun _ _ _ _ _ _ _ hc hx hy => State.issued_readTwo (a := fun x => x.maddr _ _) (b := fun x => x.maddr _ _) hc hx hy rfl,
   fun _ _ _ _ hc ha => State.issued_read (a := fun x => x.ioAddr _) hc ha rfl,
   fun _ _ _ _ hc ha => State.issued_store (a := fun x => x.ioAddr _) (ws := fun x => x.mxStored _) hc ha rfl⟩

end Sys2Proof.Machine

/-! The clocks and the periods (01 R24 to R51). -/

namespace Sys2Proof.Machine

open Sys2Proof

/-- Settles O7: each command takes one branch under its conditions; only a restart also passes through an operation of another block, the Kilns', which
leaves the device time and the selection. -/
theorem clockAndPeriodCommandsComplete : Obligations.ClockAndPeriodCommandsComplete := by
  refine ⟨fun v s disarmed ember kiln => ?_, fun long s disarmed => ?_, fun s => rfl, fun s => rfl, fun t s => rfl, fun s fault => ?_, fun s unstarted locked => ?_,
    fun s running due => ?_, fun r s due => ?_⟩
  · exact if_neg (by simp [disarmed, ember, kiln])
  · have lasts : ∀ t : State, t.regs = (s.putB PERIOD_CFG.PERIOD_SEL long).regs → t.is PERIOD_CFG.PERIOD_SEL = long := fun t h => by
      rw [State.is, State.get_of_regs h]
      exact State.is_putB s _ _ (by decide) (by decide)
    by_cases restarts : s.seq.running = true ∧ s.seq.restart = none ∧ long ≠ s.seq.long
    · exact ⟨_, (if_neg (by simp [disarmed])).trans (if_pos restarts), lasts _ rfl, fun _ _ _ => rfl⟩
    · exact ⟨_, (if_neg (by simp [disarmed])).trans (if_neg restarts), lasts _ rfl, fun running none_ differs => (restarts ⟨running, none_, differs⟩).elim⟩
  · exact if_neg (by simp [fault])
  · exact ⟨_, if_pos ⟨unstarted, locked⟩, rfl, rfl, rfl, State.rd_wr_same _ _ _, rfl, rfl, rfl⟩
  · exact if_neg (by simp [running, due])
  · have kiln : ∀ u : State, u.sameBut [.reg .kn, .kiln] u.kilnRestart := fun u => State.sameBut_of_op fun _ _ => State.kilnRestart_framed
    have selection := (kiln (s.advance r).stackRestart.loopsRestart).is PERIOD_CFG.PERIOD_SEL (by decide)
    have now := (kiln (s.advance r).stackRestart.loopsRestart) .now (by decide)
    unfold exec execPeriodRestart
    simp only [due]
    refine ⟨_, rfl, ?_, State.rd_wr_same _ _ _, rfl, rfl, rfl, ?_⟩
    · split
      all_goals exact now.symm
    · split
      all_goals exact selection
end Sys2Proof.Machine

/-! Register accesses (00 R6, R7; 11 R378). -/

namespace Sys2Proof.Machine

open Sys2Proof

/-- Both planes run, plane A the active one. -/
def bothPlanesRun : State := (State.reset.put PC_STAT.STATE_A 5).put PC_STAT.STATE_B 3

/-- A completion written by a tile of plane B is noted for the comparison of the planes. -/
theorem marks_of_completion : ((bothPlanesRun.busWrite (.tile 16) IC_COMPLETE 0).keepSet IC_COMPLETE 0).ic.marks = [((1, 0), [⟨true, 0, 0, false⟩])] := by
  decide +kernel

/-- Refutes O10: a tile of the plane that is not active writes IC_COMPLETE; the write does not act on the controller, and yet the state changes, because
the completion is noted for the comparison of the planes. -/
theorem not_registerAccessComplete : ¬ Obligations.RegisterAccessComplete := by
  rintro ⟨-, -, -, inactive, -⟩
  have unchanged := inactive (.tile 16) IC_COMPLETE 0 bothPlanesRun nofun (by decide +kernel) nofun
  have marks := congrArg (fun t : State => t.ic.marks) (Host.Outcome.next.inj unchanged)
  exact nomatch (marks_of_completion.symm.trans marks : _ = ([] : List ((Fin 2 × Fin 16) × List IcMark)))

end Sys2Proof.Machine

/-! The time service (02 R54 to R78). -/

namespace Sys2Proof.Machine

open Sys2Proof

/-- Settles O12. -/
theorem timeServiceComplete : Obligations.TimeServiceComplete := by
  refine ⟨fun d at_ nx s pending quiet => ?_, fun sec ns s crossed unset none_ free => ?_, fun v s free => ?_, fun src s legal => ?_, fun s ptp => ?_,
    fun p s master sends => ?_, fun p peer s gateway sends => ?_, fun s => ⟨_, rfl, rfl, ?_, ?_, ?_⟩⟩
  · unfold exec execTimeStep
    rw [pending]
    exact if_neg (by simp [quiet])
  · unfold exec execTimeSetAccept
    rw [crossed]
    exact ⟨_, if_pos ⟨unset, none_, free⟩, rfl, rfl⟩
  · exact exec_tbRateWrite_applied v free
  · exact congrArg Host.Outcome.next (if_neg (by omega))
  · exact if_pos ptp
  · refine ⟨_, if_pos ⟨master, sends⟩, congrArg PtpPort.syncSeq (tget_tset_same _ _ _ _), congrArg PtpPort.syncStamp (tget_tset_same _ _ _ _),
      tget_tset_same _ _ _ _, ?_⟩
    simp only [State.ethSendAll, List.foldl, State.rd_count]
    simp only [add_assoc]
    rfl
  · exact ⟨_, if_pos ⟨gateway, sends⟩, congrArg PtpPort.t3 (tget_tset_same _ _ _ _), congrArg PtpPort.peer (tget_tset_same _ _ _ _),
      tget_tset_same _ _ _ _⟩
  · exact (State.rd_wr_ne _ _ (by decide)).trans ((State.rd_wr_ne _ _ (by decide)).trans (State.rd_wr_same _ _ _))
  · exact (State.rd_wr_ne _ _ (by decide)).trans (State.rd_wr_same _ _ _)
  · exact State.rd_wr_same _ _ _

end Sys2Proof.Machine

/-! Timed captures and timed pulse outputs (02 R70 to R82). -/

namespace Sys2Proof.Machine

open Sys2Proof

/-- Settles O14. -/
theorem pulsesAndCapturesComplete : Obligations.PulsesAndCapturesComplete := by
  refine ⟨fun n rise at_ s enabled selected room quiet => ?_, fun n rise at_ s enabled selected full quiet => ?_, fun n e r s head => ?_, fun n s released => ?_,
    fun n s => ?_, fun n s armed period width gap low => ?_, fun n p s cur low => ?_, fun n p s cur high alone last => ?_⟩
  · unfold exec execTcapEdge
    have on : (s.advance at_).capSelects n rise = true := selected
    simp only [State.advance_is, State.advance_caps, enabled, on, and_self, if_true, Nat.not_le.mpr room, if_false]
    simp only [show ∀ c, State.is { s.advance at_ with caps := c } (TCAP_CTRL.LOCKET n) = false from fun _ => quiet, Bool.false_eq_true, if_false]
    exact ⟨_, rfl, rfl, tget_tset_same _ _ _ _⟩
  · unfold exec execTcapEdge
    have on : (s.advance at_).capSelects n rise = true := selected
    simp only [State.advance_is, State.advance_caps, enabled, on, and_self, if_true, full]
    rw [State.is_bump_ne _ (by nofun), State.advance_is, quiet]
    rfl
  · unfold exec execTcapHeadRead State.capRead
    simp only [head]
    refine ⟨_, rfl, tget_tset_same _ _ _ _, rfl, ?_, ?_, ?_⟩
    all_goals simp [State.rd_wr_ne]
  · unfold exec execTpoArmWrite State.tpoArm
    simp only [if_true, released]
  · refine ⟨_, rfl, tget_tset_same _ _ _ _, ?_, State.is_put_zero _ (by simp)⟩
    exact (State.is_put_ne _ (Or.inl (by simp)) _).trans (State.is_put_zero _ (by simp))
  · refine congrArg Host.Outcome.next ((if_pos armed).trans ((if_pos ⟨period, width, gap⟩).trans (if_neg ?_)))
    simp [low]
  · unfold exec execTpoEdge
    simp only [cur, low]
    exact ⟨_, rfl, congrArg PulseOut.high (tget_tset_same _ _ _ _), congrArg PulseOut.cur (tget_tset_same _ _ _ _), rfl⟩
  · unfold exec execTpoEdge
    simp only [cur, high, alone, last, if_true]
    refine ⟨_, rfl, tget_tset_same _ _ _ _, State.is_flag _ _ (by simp) (by simp), ?_, ?_⟩
    · exact (State.is_flag_ne _ (Or.inr (by simp))).trans (State.is_put_zero _ (by simp))
    · exact ((State.rd_flag_ne _ (by simp)).trans (State.rd_put_ne _ 0 (by simp))).trans (State.rd_count (s.advance _) _)

end Sys2Proof.Machine

/-! Ethernet ports (02 R83 to R90). -/

namespace Sys2Proof.Machine

open Sys2Proof

/-- One thing sent on a port is what the port sent, and counts one frame. -/
theorem State.ethSendAll_one (s : State) (p : Fin 4) (x : EthSent) :
    tget (s.ethSendAll p [x]).eth.sent p [] = [(s.ethTag p, x)] ∧ (s.ethSendAll p [x]).rd (ETH_TX_FRAMES p) = s.rd (ETH_TX_FRAMES p) + 1 :=
  ⟨tget_tset_same _ _ _ _, State.rd_count _ _⟩

/-- The tag of the frames of a port is read from its VLAN register. -/
theorem State.ethTag_of_rd {s t : State} {p : Fin 4} (h : t.rd (ETH_VLAN p) = s.rd (ETH_VLAN p)) : t.ethTag p = s.ethTag p := by
  unfold State.ethTag
  simp only [State.is_of_rd (j := ETH_VLAN.EN p) h, State.get_of_rd (j := ETH_VLAN.PCP p) h, State.get_of_rd (j := ETH_VLAN.VID p) h]

/-- Settles O16. -/
theorem ethernetCommandsComplete : Obligations.EthernetCommandsComplete := by
  refine ⟨fun p f at_ s enabled up ok => ?_, fun p f at_ s enabled up bad => ?_, fun p k w n s hk hw hn sends waiting owned signet low high => ?_,
    fun c o n tel p s object posted id port some_ sends unlearnt ip6 => ?_, fun p up fast s => ?_, fun p v s disabled => ?_,
    fun phy reg data s idle => ?_, fun phy reg s idle => ?_, fun data x s under rd => ?_⟩
  · unfold exec execEthFrameRx
    simp only [enabled, up, ok, and_self, if_true]
  · unfold exec execEthFrameRx
    simp only [enabled, up, bad, and_self, if_true, Bool.false_eq_true, if_false]
  · subst hk hw hn
    unfold exec execEthTxEntrySend
    simp only [sends, waiting, owned, signet, ne_eq, not_false_iff, and_self, if_true, Nat.not_lt.mpr low, Nat.not_lt.mpr high, or_self, if_false]
    generalize leBytes 4 _ = head
    have kept := State.sameBut_of_op fun _ _ hs kf => State.bufWrite_framed (s := s) (h := s.ringHandle (ETH_TX_BUF p)) (o := 2048 * getBits (s.rd (ETH_TX_HEAD p)) 0 10) (bs := head) hs kf
    refine ⟨_, rfl, ?_, ?_, ?_⟩
    · rw [(State.ethSendAll_one _ p _).1]
      refine congrArg (fun tag => [(tag, _)]) (State.ethTag_of_rd ?_)
      rw [State.rd_wr_ne _ _ (by simp), kept.rd _ (by simp [Reg.group])]
    · rw [(State.ethSendAll_one _ p _).2, State.rd_wr_ne _ _ (by simp), kept.rd _ (by simp [Reg.group])]
    · exact (State.rd_count_ne _ (by simp)).trans (State.rd_wr_same _ _ _)
  · unfold exec execSignetEthTx
    have fits : p.val ≤ 3 := by omega
    simp only [object, posted, port, fin_val]
    rw [if_pos ⟨id, by omega, some_, sends⟩]
    generalize fresh : ({ s with si := { s.si with tx := tset s.si.tx c (n, []) } } : State) = t
    have silent : (t.conn c).sender = none := fresh ▸ unlearnt
    have both : t.is (ETH_CTRL.IP6_TX p) = true := fresh ▸ ip6
    simp only [silent, both, true_or, if_true]
    refine ⟨_, rfl, ?_, ?_⟩
    · subst fresh
      exact (State.ethSendAll_one _ p _).1
    · subst fresh
      exact tget_tset_same _ _ _ _
  · unfold exec execEthLinkChange State.showSpeed
    refine ⟨_, rfl, ?_, ?_⟩
    · exact ((State.is_putB_ne _ (Or.inr (by simp)) _).trans (State.is_flag_ne _ (Or.inr (by simp)))).trans (State.is_putB _ _ _ (by simp) (by simp))
    · exact (State.is_putB_ne _ (Or.inr (by simp)) _).trans (State.is_flag _ _ (by simp) (by simp))
  · unfold exec execEthCtrlWrite State.ethWrite
    simp only [disabled, Bool.false_eq_true, if_false]
    exact ⟨_, rfl, State.rd_setWritable s v (show (0xFFFFFFFF : Word) ||| 0 ||| 0 = _ from rfl)⟩
  · unfold exec execMdioWrite State.mdioStart
    simp only [idle, Bool.false_eq_true, if_false]
    exact ⟨_, rfl, rfl, State.is_flag _ _ (by decide) (by decide)⟩
  · unfold exec execMdioRead State.mdioStart
    simp only [idle, Bool.false_eq_true, if_false]
    exact ⟨_, rfl, rfl, State.is_flag _ _ (by decide) (by decide)⟩
  · unfold exec execMdioDone
    simp only [under, rd, if_true]
    refine ⟨_, rfl, rfl, rfl, ?_, ?_⟩
    · exact (State.is_put_ne _ (Or.inr (by decide)) _).trans (State.is_put_zero _ (by decide))
    · exact State.get_put_of_lt _ (by decide) data.isLt

end Sys2Proof.Machine

/-! Joint ports: what a command of one port leaves of the others, and the states of a port (03 R108 to R123). -/

namespace Sys2Proof.Machine

open Sys2Proof

/-- Two states have the same port n: its record and every register of its bank. -/
def State.samePort (s t : State) (n : Fin 64) : Prop := t.port n = s.port n ∧ ∀ k, t.rd (.port n k) = s.rd (.port n k)

section
variable {s t u : State} {n m : Fin 64}

theorem State.samePort.refl (s : State) (n : Fin 64) : s.samePort s n := ⟨rfl, fun _ => rfl⟩

theorem State.samePort.trans (h : s.samePort t n) (k : t.samePort u n) : s.samePort u n :=
  ⟨k.1.trans h.1, fun r => (k.2 r).trans (h.2 r)⟩

theorem State.samePort.get (h : s.samePort t n) (f : Field) {k : PortReg} (hf : f.reg = .port n k) : t.get f = s.get f :=
  State.get_of_rd (hf ▸ h.2 k)

theorem State.samePort.is (h : s.samePort t n) (f : Field) {k : PortReg} (hf : f.reg = .port n k) : t.is f = s.is f :=
  State.is_of_rd (hf ▸ h.2 k)

/-- A write of a register of another bank leaves a port. -/
theorem State.samePort_wr {r : Reg} (v : Word) (h : ∀ k, .port n k ≠ r) : s.samePort (s.wr r v) n := ⟨rfl, fun k => State.rd_wr_ne s v (h k)⟩

theorem State.samePort_put {f : Field} (v : Nat) (h : ∀ k, .port n k ≠ f.reg) : s.samePort (s.put f v) n := State.samePort_wr _ h

theorem State.samePort_setPort (p : Port) (h : n ≠ m) : s.samePort (s.setPort m p) n := ⟨tget_tset_ne _ _ _ h, fun _ => rfl⟩

/-- What keeps the ports and their registers keeps each port. -/
theorem State.sameBut.samePort {l : List Part} (h : s.sameBut l t) (n : Fin 64) (hp : .ports ∉ l) (hr : .reg .port ∉ l) : s.samePort t n :=
  ⟨congrArg (fun ps : List (Fin 64 × Port) => tget ps n {}) (h .ports hp).symm, fun k => h.rd _ hr⟩

theorem State.samePort_post (type sev : Nat) (a : Word) (payload : List Byte) : s.samePort (s.post type sev a payload) n :=
  (s.sameBut_post type sev a payload).samePort n (by decide) (by decide)

theorem State.samePort_haltPort : s.samePort (s.haltPort m) n :=
  (State.sameBut_of_op fun _ _ hs kf => State.haltPort_framed (s := s) (n := m) hs kf).samePort n (by decide) (by decide)

section
variable (h : n ≠ m)
include h

theorem port_ne (k j : PortReg) : Reg.port n k ≠ Reg.port m j := fun e => h (Reg.port.inj e).1

theorem State.samePort_showLive : s.samePort (s.showLive m) n :=
  (((State.samePort_put (f := PWM_LIVE.CMD_HIGH m) _ fun _ => port_ne h _ _).trans
    (State.samePort_put (f := PWM_LIVE.GH_ON m) _ fun _ => port_ne h _ _)).trans
    (State.samePort_put (f := PWM_LIVE.GL_ON m) _ fun _ => port_ne h _ _)).trans (State.samePort_put (f := PWM_LIVE.FLOAT m) _ fun _ => port_ne h _ _)

theorem State.samePort_updPort (p : Port) : s.samePort (s.updPort m p) n := (State.samePort_setPort p h).trans (State.samePort_showLive h)

theorem State.samePort_showStill : s.samePort (s.showStill m) n := State.samePort_put (f := TRIP_STAT.STILL_ACTIVE m) _ fun _ => port_ne h _ _

theorem State.samePort_trip (src : Nat) : s.samePort (s.trip m src) n := by
  have parked := (State.samePort_put (s := s) (f := PWM_STAT.STATE m) 3 fun _ => port_ne h _ _)
  unfold State.trip
  dsimp only
  refine State.samePort.trans ?_ State.samePort_haltPort
  refine State.samePort.trans ?_ (State.samePort_post _ _ _ _)
  refine State.samePort.trans ?_ (State.samePort_showLive h)
  refine State.samePort.trans ?_ (State.samePort_wr _ fun _ => port_ne h _ _)
  refine State.samePort.trans ?_ (State.samePort_put _ fun _ => port_ne h _ _)
  refine State.samePort.trans ?_ (State.samePort_put _ fun _ => port_ne h _ _)
  exact parked.trans (State.samePort_setPort _ h)

/-- Judging the trip of one port leaves the others. -/
theorem State.samePort_judgeTrip : s.samePort (s.judgeTrip m) n := by
  have still : s.samePort (s.showStill m) n := State.samePort_showStill h
  unfold State.judgeTrip
  dsimp only
  split
  · exact still
  · split
    · have shown := still.trans (State.samePort_put (f := TRIP_STAT.SRC m) ((s.showStill m).get (TRIP_STAT.SRC m) ||| s.tripSources m) fun _ => port_ne h _ _)
      split
      · exact shown.trans (State.samePort_updPort h _)
      · exact shown
    · split
      · exact still
      · exact still.trans (State.samePort_trip h _)

end

/-- What a judgement of port n keeps, and what lies in port n alone, stands after the judgement of an arm. -/
theorem State.judgeArm_keeps {P : State → Prop} (alone : ∀ s t, s.samePort t n → P s → P t) (own : ∀ s, P s → P (s.judgeTrip n)) (a : Fin 8)
    (h : P s) : P (s.judgeArm a) := by
  unfold State.judgeArm
  refine List.foldlRecOn _ _ h fun u hu m _ => ?_
  split
  · by_cases e : n = m
    · exact e ▸ own u hu
    · exact alone _ _ (State.samePort_judgeTrip e) hu
  · exact hu

theorem State.showStillArm_keeps {P : State → Prop} (own : ∀ s m, P s → P (s.showStill m)) (a : Fin 8) (h : P s) : P (s.showStillArm a) := by
  unfold State.showStillArm
  refine List.foldlRecOn _ _ h fun u hu m _ => ?_
  split
  · exact own u m hu
  · exact hu

/-- A port turned off has no gate on. -/
theorem Port.off_leg (p : Port) (t : Time) (l : Fin 4) : (tget (p.off t).legs l {}).gh = false ∧ (tget (p.off t).legs l {}).gl = false := by
  unfold Port.off
  dsimp only
  induction p.legs with
  | nil => exact ⟨rfl, rfl⟩
  | cons q r ih =>
    obtain ⟨j, g⟩ := q
    by_cases e : j = l
    · simp [tget, e, Leg.off]
    · simpa [tget, e] using ih

/-- A port is tripped by source b: TRIPPED with the source latched, and every gate off (03 R113). -/
def State.tripped (s : State) (n : Fin 64) (b : Nat) : Prop :=
  s.get (PWM_STAT.STATE n) = 3 ∧ s.is (TRIP_STAT.TRIPPED n) = true ∧ (s.get (TRIP_STAT.SRC n)).testBit b = true ∧ s.gatesOff n

/-- The filter output of a port's trip pin, and what TRIP_STAT shows of the pin. -/
def State.pinShown (s : State) (n : Fin 64) (b : Bool) : Prop := (s.port n).pin = b ∧ s.is (TRIP_STAT.PIN_LIVE n) = b

theorem State.samePort.tripped {b : Nat} (h : s.samePort t n) (ht : s.tripped n b) : t.tripped n b := by
  obtain ⟨state, latch, src, off⟩ := ht
  refine ⟨(h.get (PWM_STAT.STATE n) rfl).trans state, (h.is (TRIP_STAT.TRIPPED n) rfl).trans latch,
    (congrArg (fun v => Nat.testBit v b) (h.get (TRIP_STAT.SRC n) rfl)).trans src, fun l => ?_⟩
  rw [h.1]
  exact off l

theorem State.samePort.pinShown {b : Bool} (h : s.samePort t n) (ht : s.pinShown n b) : t.pinShown n b :=
  ⟨(congrArg Port.pin h.1).trans ht.1, (h.is (TRIP_STAT.PIN_LIVE n) rfl).trans ht.2⟩

/-- The sources of a trip are four bits. -/
theorem State.tripSources_lt (s : State) (n : Fin 64) : s.tripSources n < 16 := by
  unfold State.tripSources
  dsimp only
  split_ifs <;> omega

theorem State.showLive_is (s : State) (n : Fin 64) {f : Field} (h : f.reg ≠ PWM_LIVE n) : (s.showLive n).is f = s.is f := by
  unfold State.showLive
  simp [h]

theorem State.showLive_get (s : State) (n : Fin 64) {f : Field} (h : f.reg ≠ PWM_LIVE n) : (s.showLive n).get f = s.get f := by
  unfold State.showLive
  simp [h]

theorem State.port_putB (s : State) (n : Fin 64) (f : Field) (b : Bool) : (s.putB f b).port n = s.port n := by
  unfold State.port
  rw [State.putB_ports]

theorem State.port_showStill (s : State) (n m : Fin 64) : (s.showStill m).port n = s.port n := State.port_putB _ _ _ _

theorem State.port_put (s : State) (n : Fin 64) (f : Field) (v : Nat) : (s.put f v).port n = s.port n := by
  unfold State.port
  rw [State.put_ports]

theorem State.port_updPort (s : State) (n : Fin 64) (p : Port) : (s.updPort n p).port n = p := tget_tset_same _ _ _ _

theorem State.updPort_rd (s : State) (n : Fin 64) (p : Port) {r : Reg} (h : r ≠ PWM_LIVE n) : (s.updPort n p).rd r = s.rd r := by
  unfold State.updPort State.showLive
  simp [State.rd_put_ne, h]

theorem State.updPort_get (s : State) (n : Fin 64) (p : Port) {f : Field} (h : f.reg ≠ PWM_LIVE n) : (s.updPort n p).get f = s.get f := by
  unfold State.updPort
  rw [State.showLive_get _ _ h, State.setPort_get]

theorem State.updPort_is (s : State) (n : Fin 64) (p : Port) {f : Field} (h : f.reg ≠ PWM_LIVE n) : (s.updPort n p).is f = s.is f := by
  unfold State.is
  rw [State.updPort_get s n p h]

theorem State.gatesOff_of_port {p : Port} {at_ : Time} (h : (t.port n).legs = (p.off at_).legs) : t.gatesOff n := fun l => by
  rw [h]
  exact p.off_leg at_ l

theorem State.gatesOff_updPort (s : State) (n : Fin 64) {p r : Port} {at_ : Time} (h : r.legs = (p.off at_).legs) : (s.updPort n r).gatesOff n :=
  State.gatesOff_of_port ((congrArg Port.legs (State.port_updPort s n r)).trans h)

theorem State.trip_port (s : State) (n : Fin 64) (src : Nat) : ((s.trip n src).port n).legs = ((s.port n).off s.now).legs ∧ ((s.trip n src).port n).pin = (s.port n).pin := by
  unfold State.trip
  dsimp only
  rw [State.samePort_haltPort.1, (State.samePort_post _ _ _ _).1]
  refine ⟨(congrArg Port.legs (tget_tset_same _ _ _ _)).trans rfl, (congrArg Port.pin (tget_tset_same _ _ _ _)).trans rfl⟩

/-- A trip leaves its port tripped by the sources given. -/
theorem State.trip_tripped (s : State) (n : Fin 64) {src b : Nat} (small : src < 16) (bit : src.testBit b = true) : (s.trip n src).tripped n b := by
  refine ⟨?_, ?_, ?_, State.gatesOff_of_port (s.trip_port n src).1⟩
  all_goals
    unfold State.trip
    dsimp only
  · rw [State.samePort_haltPort.get _ rfl, (State.samePort_post _ _ _ _).get _ rfl, State.showLive_get _ _ (by simp)]
    simp [State.get_put_same]
  · rw [State.samePort_haltPort.is _ rfl, (State.samePort_post _ _ _ _).is _ rfl, State.showLive_is _ _ (by simp)]
    simp [State.is_put]
  · rw [State.samePort_haltPort.get _ rfl, (State.samePort_post _ _ _ _).get _ rfl, State.showLive_get _ _ (by simp)]
    simp [State.get_put_same, Nat.mod_eq_of_lt small, bit]

theorem State.trip_pinLive (s : State) (n : Fin 64) (src : Nat) : (s.trip n src).is (TRIP_STAT.PIN_LIVE n) = s.is (TRIP_STAT.PIN_LIVE n) := by
  unfold State.trip
  dsimp only
  rw [State.samePort_haltPort.is _ rfl, (State.samePort_post _ _ _ _).is _ rfl, State.showLive_is _ _ (by simp)]
  simp

section
variable {b : Nat} {p : Bool}

theorem State.pinShown.showStill (h : s.pinShown n p) : (s.showStill n).pinShown n p :=
  ⟨(congrArg Port.pin (State.port_showStill _ _ _)).trans h.1, (State.is_putB_ne _ (Or.inr (by simp)) _).trans h.2⟩

theorem State.pinShown.putSrc (h : s.pinShown n p) (v : Nat) : (s.put (TRIP_STAT.SRC n) v).pinShown n p :=
  ⟨(congrArg Port.pin (State.port_put _ _ _ _)).trans h.1, (State.is_put_ne _ (Or.inr (by simp)) _).trans h.2⟩

theorem State.pinShown.updPort (h : s.pinShown n p) {r : Port} (hr : r.pin = (s.port n).pin) : (s.updPort n r).pinShown n p :=
  ⟨(congrArg Port.pin (State.port_updPort _ _ _)).trans (hr.trans h.1), (State.updPort_is _ _ _ (by simp)).trans h.2⟩

theorem State.pinShown.trip (h : s.pinShown n p) (src : Nat) : (s.trip n src).pinShown n p :=
  ⟨(State.trip_port _ _ _).2.trans h.1, (State.trip_pinLive _ _ _).trans h.2⟩

/-- A judgement leaves the pin as it is shown. -/
theorem State.pinShown.judgeTrip (h : s.pinShown n p) : (s.judgeTrip n).pinShown n p := by
  have still := h.showStill
  unfold State.judgeTrip
  dsimp only
  split
  · exact still
  · split
    · split
      · exact (still.putSrc _).updPort rfl
      · exact still.putSrc _
    · split
      · exact still
      · exact still.trip _

theorem State.tripped.showStill (h : s.tripped n b) : (s.showStill n).tripped n b := by
  obtain ⟨state, latch, src, off⟩ := h
  refine ⟨(State.get_putB_ne _ (Or.inl (by simp)) _).trans state, (State.is_putB_ne _ (Or.inr (by simp)) _).trans latch,
    (congrArg (fun v => Nat.testBit v b) (State.get_putB_ne _ (Or.inr (by simp)) _)).trans src, fun l => ?_⟩
  rw [State.port_showStill]
  exact off l

/-- More sources only add to a latched trip. -/
theorem State.tripped.addSrc (h : s.tripped n b) {v : Nat} (small : v < 16) : (s.put (TRIP_STAT.SRC n) (s.get (TRIP_STAT.SRC n) ||| v)).tripped n b := by
  obtain ⟨state, latch, src, off⟩ := h
  refine ⟨(State.get_put_ne _ (Or.inl (by simp)) _).trans state, (State.is_put_ne _ (Or.inr (by simp)) _).trans latch, ?_, fun l => ?_⟩
  · rw [State.get_put_of_lt _ (by simp) (Nat.or_lt_two_pow (n := 4) (Nat.mod_lt _ (by simp)) small), Nat.testBit_or, src, Bool.true_or]
  · rw [State.port_put]
    exact off l

theorem State.tripped.turnOff (h : s.tripped n b) {r q : Port} {at_ : Time} (hr : r.legs = (q.off at_).legs) : (s.updPort n r).tripped n b := by
  obtain ⟨state, latch, src, -⟩ := h
  exact ⟨(State.updPort_get _ _ _ (by simp)).trans state, (State.updPort_is _ _ _ (by simp)).trans latch,
    (congrArg (fun v => Nat.testBit v b) (State.updPort_get _ _ _ (by simp))).trans src, State.gatesOff_updPort s n hr⟩

/-- A judgement leaves a tripped port tripped. -/
theorem State.tripped.judgeTrip (h : s.tripped n b) : (s.judgeTrip n).tripped n b := by
  have still := h.showStill
  have latch := still.2.1
  have added := still.addSrc (s.tripSources_lt n)
  unfold State.judgeTrip
  dsimp only
  split
  · exact still
  · split
    · exact added.turnOff rfl
    · exact added

end

/-- An active source trips a port in PARKED or RUNNING without a latched trip. -/
theorem State.judgeTrip_trips {b : Nat} (bit : (s.tripSources n).testBit b = true) (free : s.is (TRIP_STAT.TRIPPED n) = false)
    (on : s.get (PWM_STAT.STATE n) ≠ 0) : (s.judgeTrip n).tripped n b := by
  have some_ : s.tripSources n ≠ 0 := fun e => by simp [e] at bit
  have latch : (s.showStill n).is (TRIP_STAT.TRIPPED n) = false := by
    unfold State.showStill
    simpa using free
  have state : (s.showStill n).get (PWM_STAT.STATE n) ≠ 0 := by
    unfold State.showStill
    simpa using on
  unfold State.judgeTrip
  simp only [some_, latch, state, if_false, Bool.false_eq_true]
  exact State.trip_tripped _ n (s.tripSources_lt n) bit

end

theorem State.advance_samePort (s : State) (t : Time) (n : Fin 64) : s.samePort (s.advance t) n := ⟨rfl, fun _ => rfl⟩

/-- The pin of a port follows the filter output, and shows it whatever the polarity. -/
theorem State.setPin_live (s : State) (n : Fin 64) (b : Bool) : (s.setPin n b).is (TRIP_STAT.PIN_LIVE n) = b := by
  unfold State.setPin State.showPin
  rw [State.is_putB _ _ _ (by simp) (by simp)]
  have level : ((s.setPort n { s.port n with pinLevel := b == s.is (TRIP_CFG.POL n) }).port n).pinLevel = (b == s.is (TRIP_CFG.POL n)) :=
    congrArg Port.pinLevel (tget_tset_same _ _ _ _)
  rw [level, State.setPort_is]
  cases b <;> cases s.is (TRIP_CFG.POL n) <;> rfl

theorem State.pinShown_setPin (s : State) (n : Fin 64) (b : Bool) (t : Time) :
    (((s.setPin n b).advance t).setPort n { ((s.setPin n b).advance t).port n with pin := b }).pinShown n b :=
  ⟨congrArg Port.pin (tget_tset_same _ _ _ _), s.setPin_live n b⟩

theorem State.judgeArm_now (s : State) (a : Fin 8) : (s.judgeArm a).now = s.now :=
  ((State.sameBut_of_op fun _ _ hs kf => State.judgeArm_framed (s := s) (a := a) hs kf) .now (by decide)).symm

theorem State.trip_rd (s : State) (n : Fin 64) (src : Nat) {k : PortReg} (h : k ≠ .PWM_STAT ∧ k ≠ .TRIP_STAT ∧ k ≠ .TRIP_CNT ∧ k ≠ .PWM_LIVE) :
    (s.trip n src).rd (.port n k) = s.rd (.port n k) := by
  obtain ⟨stat, latch, count, live⟩ := h
  unfold State.trip
  dsimp only
  rw [State.samePort_haltPort.2, (State.samePort_post _ _ _ _).2]
  unfold State.showLive
  simp [State.rd_put_ne, stat, latch, count, live]

theorem State.judgeTrip_rd (s : State) (n : Fin 64) {k : PortReg} (h : k ≠ .PWM_STAT ∧ k ≠ .TRIP_STAT ∧ k ≠ .TRIP_CNT ∧ k ≠ .PWM_LIVE) :
    (s.judgeTrip n).rd (.port n k) = s.rd (.port n k) := by
  have latch : Reg.port n k ≠ TRIP_STAT n := fun e => h.2.1 (Reg.port.inj e).2
  have live : Reg.port n k ≠ PWM_LIVE n := fun e => h.2.2.2 (Reg.port.inj e).2
  have still : (s.showStill n).rd (.port n k) = s.rd (.port n k) := State.rd_put_ne _ _ latch
  unfold State.judgeTrip
  dsimp only
  split
  · exact still
  · split
    · split
      · exact (State.updPort_rd _ _ _ live).trans ((State.rd_put_ne _ _ latch).trans still)
      · exact (State.rd_put_ne _ _ latch).trans still
    · split
      · exact still
      · exact (State.trip_rd _ _ _ h).trans still

section
variable {s : State} {n : Fin 64}

theorem State.judgeTrip_forced (h : s.is (PWM_CTRL.FORCE_TRIP n) = true) : (s.judgeTrip n).is (PWM_CTRL.FORCE_TRIP n) = true :=
  (State.is_of_rd (State.judgeTrip_rd s n (k := .PWM_CTRL) (by decide))).trans h

/-- Bit 1 of the sources of a trip is the forced trip, bit 0 the pin (03 R113). -/
theorem State.tripSources_force (h : s.is (PWM_CTRL.FORCE_TRIP n) = true) : (s.tripSources n).testBit 1 = true := by
  unfold State.tripSources
  simp only [h, if_true]
  split_ifs <;> rfl

theorem State.tripSources_pin (h : (s.port n).pin = true) : (s.tripSources n).testBit 0 = true := by
  unfold State.tripSources
  simp only [h, if_true]
  split_ifs <;> rfl

end

theorem State.advance_ite (s : State) (c : Prop) [Decidable c] (t : Time) : (if c then s.advance t else s) = s.advance (if c then t else s.now) := by
  split
  · rfl
  · unfold State.advance
    rw [max_self]

/-- Settles O17. -/
theorem portStatesComplete : Obligations.PortStatesComplete := by
  refine ⟨fun n s disarmed can quiet => ?_, fun n s disarmed cannot => ?_, fun n s => ?_, fun n s => ?_, fun n s => ?_, fun n s state free => ?_, fun n s => ?_,
    fun n s none_ state => ?_, fun n s some_ => ?_, fun n at_ samples s long => ?_, fun n at_ samples s long state free => ?_, fun n at_ samples s short => ?_,
    fun n at_ samples s long => ?_⟩
  · unfold exec execPwmArm State.armPort State.updArmed
    simp only [disarmed, can, if_true, ne_eq, not_true, if_false]
    generalize armed : { (s.port n).off s.now with cand := none, resume := false, parkDue := false } = p
    have legs : p.legs = ((s.port n).off s.now).legs := armed ▸ rfl
    have waits : ∀ t : State, t.boot = s.boot → ¬ (t.boot.upd.stage = 4 ∧ t.boot.upd.phase = 3 ∧ t.updatesPlanes = true) := fun t ht => by
      unfold State.updatesPlanes
      rw [ht]
      exact quiet
    refine ⟨_, congrArg Host.Outcome.next (if_neg (waits _ rfl)), ?_, ?_, ?_, fun m hm => ?_⟩
    · exact (State.updPort_get _ _ _ (by simp)).trans (State.get_put_of_lt _ (by simp) (by simp))
    · exact (State.updPort_is _ _ _ (by simp)).trans ((State.is_put_ne _ (Or.inl (by simp)) _).trans (State.is_flag _ _ (by simp) (by simp)))
    · exact State.gatesOff_updPort (at_ := s.now) (p := s.port n) _ _ legs
    · exact (State.samePort_updPort hm p).1.trans ((State.port_put _ _ _ _).trans (State.port_put _ _ _ _))
  · unfold exec execPwmArm State.armPort
    simp only [disarmed, cannot, ne_eq, not_true, if_false, Bool.false_eq_true]
  · unfold exec execPwmDisarm State.disarmPort
    dsimp only
    generalize armed : { (s.port n).off s.now with cand := none, resume := false, parkDue := false, ascDue := none } = p
    have legs : p.legs = ((s.port n).off s.now).legs := armed ▸ rfl
    generalize ht : ((s.put (PWM_CTRL.ARM n) 0).put (PWM_STAT.STATE n) 0).updPort n p = t
    have state : t.get (PWM_STAT.STATE n) = 0 := ht ▸ (State.updPort_get _ _ _ (by simp)).trans (State.get_put_of_lt _ (by simp) (by simp))
    have arm : t.is (PWM_CTRL.ARM n) = false :=
      ht ▸ (State.updPort_is _ _ _ (by simp)).trans ((State.is_put_ne _ (Or.inl (by simp)) _).trans (State.is_put_zero _ (by simp)))
    have off : t.gatesOff n := ht ▸ State.gatesOff_updPort (at_ := s.now) (p := s.port n) _ _ legs
    have others : ∀ m, m ≠ n → t.port m = s.port m := fun m hm =>
      ht ▸ (State.samePort_updPort hm p).1.trans ((State.port_put _ _ _ _).trans (State.port_put _ _ _ _))
    refine ⟨_, rfl, ?_, ?_, ?_, ?_⟩
    · exact State.showStillArm_keeps (P := fun u => u.get (PWM_STAT.STATE n) = 0) (fun u m hu => (State.get_putB_ne _ (Or.inl (by simp)) _).trans hu) _ state
    · exact State.showStillArm_keeps (P := fun u => u.is (PWM_CTRL.ARM n) = false) (fun u m hu => (State.is_putB_ne _ (Or.inl (by simp)) _).trans hu) _ arm
    · exact State.showStillArm_keeps (P := fun u => u.gatesOff n) (fun u m hu l => by rw [State.port_showStill]; exact hu l) _ off
    · exact State.showStillArm_keeps (P := fun u => ∀ m, m ≠ n → u.port m = s.port m) (fun u m hu j hj => (State.port_showStill _ _ _).trans (hu j hj)) _ others
  · rfl
  · refine ⟨_, rfl, State.is_put_zero _ (by simp), congrArg Port.resume (tget_tset_same _ _ _ _), fun running => ?_⟩
    refine (congrArg Port.parkDue (tget_tset_same _ _ _ _)).trans ?_
    simp [running]
  · unfold exec execForceTripSet State.forceTrip
    have forced : (s.put (PWM_CTRL.FORCE_TRIP n) 1).is (PWM_CTRL.FORCE_TRIP n) = true := State.is_flag _ _ (by simp) (by simp)
    have on : (s.put (PWM_CTRL.FORCE_TRIP n) 1).get (PWM_STAT.STATE n) ≠ 0 := by
      rw [State.get_put_ne _ (by simp)]
      omega
    have latch : (s.put (PWM_CTRL.FORCE_TRIP n) 1).is (TRIP_STAT.TRIPPED n) = false := (State.is_put_ne _ (by simp) _).trans free
    obtain ⟨run, live, src, off⟩ := State.judgeTrip_trips (State.tripSources_force forced) latch on
    exact ⟨_, rfl, State.judgeTrip_forced forced, run, live, src, off⟩
  · rfl
  · unfold exec execClrTrip
    dsimp only
    generalize ht : ((s.put (TRIP_STAT.TRIPPED n) 0).put (TRIP_STAT.SRC n) 0).showStill n = t
    have run : t.is (PWM_CTRL.RUN n) = s.is (PWM_CTRL.RUN n) := by
      rw [← ht]
      unfold State.showStill
      simp
    have tripped : t.get (PWM_STAT.STATE n) = 3 := by
      rw [← ht]
      unfold State.showStill
      simpa using state
    have latch : t.is (TRIP_STAT.TRIPPED n) = false := by
      rw [← ht]
      unfold State.showStill
      rw [State.is_putB_ne _ (by simp), State.is_put_ne _ (by simp), State.is_put_zero _ (by simp)]
    have src : t.get (TRIP_STAT.SRC n) = 0 := by
      rw [← ht]
      unfold State.showStill
      rw [State.get_putB_ne _ (by simp), State.get_put_of_lt _ (by simp) (by simp)]
    simp only [none_, ne_eq, not_true, if_false, tripped, if_true]
    refine ⟨_, rfl, ?_, ?_, ?_, State.gatesOff_updPort _ _ rfl, ?_⟩
    · rw [State.updPort_is _ _ _ (by simp), State.is_put_ne _ (by simp), latch]
    · rw [State.updPort_get _ _ _ (by simp), State.get_put_ne _ (by simp), src]
    · rw [State.updPort_get _ _ _ (by simp), State.get_put_of_lt _ (by simp) (by simp)]
    · rw [State.port_updPort, State.is_put_ne _ (by simp), run]
  · unfold exec execClrTrip
    simp only [some_, ne_eq, not_false_iff, if_true]
  · unfold exec execTripPinAssert
    simp only [Nat.not_le.mpr long, if_false]
    have shown := (s.pinShown_setPin n true (at_ + (s.get (TRIP_CFG.FLT n) + 3) * portUnits)).judgeTrip
    rw [State.advance_ite]
    exact ⟨_, rfl, State.judgeArm_keeps (P := fun u => u.pinShown n true) (fun u v h hu => h.pinShown hu) (fun u hu => hu.judgeTrip) (armOf n)
      ((State.advance_samePort _ _ n).pinShown shown)⟩
  · unfold exec execTripPinAssert
    simp only [Nat.not_le.mpr long, if_false]
    rw [State.advance_ite]
    have on : (s.setPin n true).get (PWM_STAT.STATE n) ≠ 0 := by
      unfold State.setPin State.showPin
      rw [State.get_putB_ne _ (by simp), State.setPort_get]
      omega
    have latch : (s.setPin n true).is (TRIP_STAT.TRIPPED n) = false := by
      unfold State.setPin State.showPin
      rw [State.is_putB_ne _ (by simp), State.setPort_is, free]
    have tripped := State.judgeTrip_trips (State.tripSources_pin (s.pinShown_setPin n true (at_ + (s.get (TRIP_CFG.FLT n) + 3) * portUnits)).1) latch on
    exact ⟨_, rfl, State.judgeArm_keeps (P := fun u => u.tripped n 0) (fun u v h hu => h.tripped hu) (fun u hu => hu.judgeTrip) (armOf n)
      ((State.advance_samePort _ _ n).tripped tripped)⟩
  · unfold exec execTripPinAssert State.shortPulse
    simp only [short, if_true]
  · unfold exec execTripPinRelease
    simp only [Nat.not_le.mpr long, if_false]
    have shown := State.judgeArm_keeps (P := fun u => u.pinShown n false) (fun u v h hu => h.pinShown hu) (fun u hu => hu.judgeTrip) (armOf n)
      (s.pinShown_setPin n false (at_ + (s.get (TRIP_CFG.FLT n) + 2) * portUnits))
    exact ⟨_, rfl, State.judgeArm_now _ _, shown.1, shown.2⟩

end Sys2Proof.Machine

/-! The gate edges of a four-leg port (03 R93, R111): its fourth leg uses gate lines of the next port. -/

namespace Sys2Proof.Machine

open Sys2Proof

/-- Port 0 drives four legs and waits for the dead time of the high side of leg 3, whose gate line is line 0 of port 1. -/
def fourthLegWaits : State :=
  { State.reset.put (PWM_MODE.TOPOLOGY 0) 1 with ports := [(0, { legs := [(3, { ghDue := some 32 })] }), (1, { lines := [(0, { map := [0, 7] })] })] }

theorem fourthLegWaits_port : fourthLegWaits.port 1 = { lines := [(0, { map := [0, 7] })] } := rfl

/-- The tap of the edge is launched on the line of port 1. -/
theorem fourthLegWaits_launches : (tget ((fourthLegWaits.advance 32).moveLeg 0 3 32 { gh := true } |>.port 1).lines 0 {}).tap = 7 := by
  decide

/-- Refutes O19: the high-side gate of leg 3 of port 0 turns on through gate line 0 of port 1, so that a dead time of port 0 changes port 1. -/
theorem not_portFramesComplete : ¬ Obligations.PortFramesComplete := by
  rintro ⟨-, -, -, -, -, -, -, -, expiry, -⟩
  obtain ⟨t, ht, -, -, others⟩ := expiry 0 3 32 fourthLegWaits rfl
  have moved : exec (.deadTimeExpiry 0 3 true) fourthLegWaits = .next ((fourthLegWaits.advance 32).moveLeg 0 3 32 { gh := true }) := rfl
  rw [moved] at ht
  cases ht
  have kept := fourthLegWaits_launches
  rw [others 1 (by decide), fourthLegWaits_port] at kept
  exact absurd kept (by decide)

end Sys2Proof.Machine

/-! Current sensing (04 R127 to R137). -/

namespace Sys2Proof.Machine

open Sys2Proof

/-- The clocks of a modulator whose bit is 0 have no start. -/
theorem tget_startsKept (l : List (Fin 9 × Option Time)) (arm : Nat) (g : Fin 9) (h : arm.testBit g.val = false) :
    tget (l.map (fun (q : Fin 9 × Option Time) => if arm.testBit q.1.val then q else (q.1, none))) g none = none := by
  induction l with
  | nil => rfl
  | cons q r ih =>
    obtain ⟨j, x⟩ := q
    by_cases e : j = g
    · subst e
      simp [tget, h]
    · rw [List.map_cons]
      cases hb : arm.testBit j.val <;> simp only [if_true, if_false, Bool.false_eq_true, tget, e] <;> exact ih

theorem State.filter_setFilter (s : State) (n : Fin 80) (f : Filter) : (s.setFilter n f).filter n = f := tget_tset_same _ _ _ _

theorem Filter.input_setInput (f : Filter) (b : Bool) (i : SdInput) : (f.setInput b i).input b = i := by cases b <;> rfl

/-- Settles O20. -/
theorem currentSensingComplete : Obligations.CurrentSensingComplete := by
  refine ⟨fun arm s released => ?_, fun arm s held more => ?_, fun slow s idle => ?_, fun slow s armed => ?_, fun g v s idle small => ?_, fun g v s refused => ?_,
    fun bits s => rfl, fun n at_ s enabled stuck open_ => ?_, fun n inB at_ r s under => ?_, fun n v s low idle least most => ?_, fun n v s outside => ?_,
    fun n ofs v s => ?_, fun n ofs v s low => ?_⟩
  · obtain ⟨t, ht, -⟩ := exec_next (.sdcArmWrite arm) s
    refine ⟨t, ht, ?_⟩
    have parts := sameBut_of_exec ht
    unfold exec execSdcArmWrite at ht
    dsimp only at ht
    rw [if_pos (Or.inl (by exact released))] at ht
    cases ht
    exact ⟨State.get_put_of_lt _ (by decide) arm.isLt, fun g hg => tget_startsKept _ _ g hg, parts⟩
  · unfold exec execSdcArmWrite
    have below : s.get SDC_CTRL.ARM &&& arm.toNat < arm.toNat := lt_of_le_of_ne Nat.and_le_right more
    dsimp only
    rw [if_neg (by rintro (h | h)
                   · exact absurd (held.symm.trans h) (by decide)
                   · omega)]
    refine ⟨_, rfl, ?_, State.is_flag _ _ (by decide) (by decide)⟩
    rw [State.get_flag_ne _ (by decide)]
    exact State.get_put_of_lt _ (by decide) (below.trans arm.isLt)
  · unfold exec execSdcFreqWrite
    simp only [idle, Bool.false_eq_true, if_false]
  · unfold exec execSdcFreqWrite
    simp only [armed, if_true]
  · unfold exec execSdcDlyWrite
    simp only [idle, Bool.false_eq_true, false_or, Nat.not_lt.mpr small, if_false]
  · unfold exec execSdcDlyWrite
    simp only [refused, if_true]
  · unfold exec execSdfStuckRun
    have none_ : ((s.advance at_).filter n).input false = (s.filter n).input false := rfl
    simp only [Bool.false_eq_true, if_false, State.advance_is, State.advance_get, enabled, stuck, none_, open_, ne_eq, not_false_iff, Option.isNone_none,
      false_and, and_self, if_true]
    generalize (if n.val < 64 then _ else _) = addr
    refine ⟨_, rfl, ?_, ?_, ?_⟩
    · exact ((State.sameBut_post _ _ _ _ _) .now (by decide)).symm
    · rw [State.filter, ← (State.sameBut_post _ _ _ _ _) .filters (by decide)]
      exact (congrArg (fun f => (Filter.input f false).run) (State.filter_setFilter _ n _)).trans (congrArg SdInput.run (Filter.input_setInput _ _ _))
    · rw [(State.sameBut_post _ _ _ _ _).is _ (by simp [postParts, Reg.group])]
      exact State.is_flag _ _ (by simp) (by simp)
  · unfold exec execSdfStuckRunEnd
    have run : (((s.advance at_).filter n).input inB).run = some r := under
    simp only [run]
    refine ⟨_, rfl, rfl, ?_, ?_, ?_⟩
    · exact (congrArg (fun f => (Filter.input f inB).run) (State.filter_setFilter _ n _)).trans (congrArg SdInput.run (Filter.input_setInput _ _ _))
    · exact (congrArg (fun f => (Filter.input f inB).lastRuns) (State.filter_setFilter _ n _)).trans (congrArg SdInput.lastRuns (Filter.input_setInput _ _ _))
    · cases inB
      · exact State.get_put_of_lt _ (by simp) (by simp)
      · exact State.get_put_of_lt _ (by simp) (by simp)
  · unfold exec execSdfCfgWrite
    simp [low, idle, least, most]
  · unfold exec execSdfCfgWrite
    have bad : ¬ (8 ≤ getBits v 0 9 ∧ getBits v 0 9 ≤ s.maxDec) := by omega
    simp [bad]
  · unfold exec execSdfGainWrite
    simp
  · unfold exec execSdfGainWrite
    simp [low]

end Sys2Proof.Machine

/-! Feedback units (04 R141 to R163). -/

namespace Sys2Proof.Machine

open Sys2Proof

theorem State.fb_setFb (s : State) (n : Fin 64) (u : FbUnit) : (s.setFb n u).fb n = u := tget_tset_same _ _ _ _

theorem State.fb_setFb_ne (s : State) {n m : Fin 64} (u : FbUnit) (h : m ≠ n) : (s.setFb n u).fb m = s.fb m := tget_tset_ne _ _ _ h

/-- Settles O21. -/
theorem feedbackReadingsComplete : Obligations.FeedbackReadingsComplete := by
  refine ⟨fun n lines at_ s new on mode => ?_, fun n lines at_ s new on mode => ?_, fun n lines at_ s off => ?_, fun n s serial idle due => ?_,
    fun n data r s under serial inTime ebit gray => ?_, fun n data extra r s under serial inTime ebit => ?_, fun n idle data extra r s under serial late => ?_,
    fun n data at_ st r s under serial mode started inTime crc hst alarm warn invalid => ?_, fun n r s under => ?_, fun n s on => ?_, fun n s limit reached first => ?_⟩
  · unfold exec execFbLineChange
    have old : ((s.advance at_).fb n).lines ≠ lines := new
    have en : ∀ u, ((s.advance at_).setFb n u).is (FB_CTRL.EN n) = true := fun u => on
    have quad : ∀ u, ((s.advance at_).setFb n u).get (FB_CFG.MODE n) = 1 := fun u => mode
    simp only [old, en, quad, false_or, Bool.true_eq_false, if_false, if_true]
    rfl
  · unfold exec execFbLineChange
    have old : ((s.advance at_).fb n).lines ≠ lines := new
    have en : ∀ u, ((s.advance at_).setFb n u).is (FB_CTRL.EN n) = true := fun u => on
    have hall : ∀ u, ((s.advance at_).setFb n u).get (FB_CFG.MODE n) = 2 := fun u => mode
    simp only [old, en, hall, false_or, Bool.true_eq_false, if_false, if_true, Nat.reduceEqDiff]
  · unfold exec execFbLineChange
    have en : ∀ u, ((s.advance at_).setFb n u).is (FB_CTRL.EN n) = false := fun u => off
    simp only [en, or_true, if_true]
  · obtain ⟨t, ht, -⟩ := exec_next (.fbReadingStart n) s
    have parts := sameBut_of_exec ht
    refine ⟨t, ht, ?_⟩
    unfold exec execFbReadingStart at ht
    simp only [serial, idle, due, Option.isNone_none, and_self, if_true] at ht
    cases ht
    exact ⟨rfl, congrArg FbUnit.reading (State.fb_setFb _ _ _), fun m hm => State.fb_setFb_ne _ _ hm, parts⟩
  · have on : (s.advance (s.ssiDone n r)).serialOn n = true := serial
    have done : ¬ (s.advance (s.ssiDone n r)).readingLimit r < (s.advance (s.ssiDone n r)).ssiDone n r := Nat.not_lt.mpr inTime
    unfold exec execSsiReadingDone
    simp only [under, on, done, State.advance_get, State.advance_is, ebit, gray, zero_ne_one, false_and, Bool.true_eq_false, Bool.false_eq_true, or_self,
      if_false, pow_zero, Nat.div_one]
  · have on : (s.advance (s.ssiDone n r)).serialOn n = true := serial
    have done : ¬ (s.advance (s.ssiDone n r)).readingLimit r < (s.advance (s.ssiDone n r)).ssiDone n r := Nat.not_lt.mpr inTime
    unfold exec execSsiReadingDone
    simp only [under, on, done, State.advance_get, ebit, zero_ne_one, false_and, Bool.true_eq_false, true_or, if_false, if_true]
  · have on : (s.advance (s.ssiDone n r)).serialOn n = true := serial
    have done : (s.advance (s.ssiDone n r)).readingLimit r < (s.advance (s.ssiDone n r)).ssiDone n r := late
    unfold exec execSsiReadingDone
    simp only [under, on, done, Bool.true_eq_false, if_false, if_true]
  · have on : ∀ t, (s.advance t).serialOn n = true := fun _ => serial
    have quick : ¬ r.start + 10 * s.filBit n + 6000 * nsUnits < at_ := Nat.not_lt.mpr started
    have done : ∀ t, ¬ (s.advance t).readingLimit r < at_ + 42 * s.filBit n := fun _ => Nat.not_lt.mpr inTime
    unfold exec execFiligreeResponse
    simp only [under, mode, on, quick, done, crc, ← hst, alarm, warn, invalid, OfNat.ofNat_eq_ofNat, Nat.reduceEqDiff, Bool.true_eq_false, Bool.false_eq_true,
      OfNat.ofNat_ne_zero, or_self, Bool.or_self, beq_self_eq_true, if_false]
  · unfold exec execFbReadingTimeout
    simp only [under]
  · unfold exec execFbStandstillTimeout
    simp only [on, if_true]
  · obtain ⟨t, ht, -⟩ := exec_next (.fbErrLimit n) s
    have parts := sameBut_of_exec ht
    refine ⟨t, ht, ?_⟩
    unfold exec execFbErrLimit at ht
    simp only [limit, reached, first, ne_eq, not_false_iff, and_self, if_true] at ht
    cases ht
    refine ⟨?_, ?_, parts.mono (show postParts ++ [Part.reg .fb, Part.fbs] ⊆ _ by decide)⟩
    · rw [(State.sameBut_post _ _ _ _ _).is _ (by simp [postParts, Reg.group])]
      exact State.is_flag _ _ (by simp) (by simp)
    · rw [State.fb, ← (State.sameBut_post _ _ _ _ _) .fbs (by decide)]
      exact congrArg FbUnit.errHit (State.fb_setFb _ n _)

theorem State.fb_put (s : State) (n : Fin 64) (f : Field) (v : Nat) : (s.put f v).fb n = s.fb n := by
  unfold State.fb
  rw [State.put_fbs]

theorem State.fb_updFb (s : State) (n : Fin 64) (u : FbUnit) : (s.updFb n u).fb n = u := State.fb_setFb s n u

theorem State.fb_post (s : State) (n : Fin 64) (type sev : Nat) (a : Word) (payload : List Byte) : (s.post type sev a payload).fb n = s.fb n := by
  unfold State.fb
  rw [← (s.sameBut_post type sev a payload) .fbs (by decide)]

/-- What a unit shows lies in its status register. -/
theorem State.updFb_rd (s : State) (n : Fin 64) (u : FbUnit) {r : Reg} (h : r ≠ FB_STAT n) : (s.updFb n u).rd r = s.rd r := by
  unfold State.updFb State.showFb
  simp only [State.putB, State.rd_put_ne _ _ (show r ≠ (FB_STAT.DIR n).reg from h), State.rd_put_ne _ _ (show r ≠ (FB_STAT.STANDSTILL n).reg from h),
    State.rd_put_ne _ _ (show r ≠ (FB_STAT.UNCERTAIN n).reg from h), State.rd_put_ne _ _ (show r ≠ (FB_STAT.AT_LLIM n).reg from h),
    State.rd_put_ne _ _ (show r ≠ (FB_STAT.AT_ULIM n).reg from h)]
  rfl

theorem State.moveTo_rd (s : State) (n : Fin 64) (x : Int) {r : Reg} (h : r ≠ FB_STAT n) (outside : r.group = .fb) : (s.moveTo n x).rd r = s.rd r := by
  unfold State.moveTo
  dsimp only
  generalize (if x < (s.fb n).lo then _ else _) = y
  split
  · exact State.updFb_rd s n _ h
  · split
    · exact (State.rd_put_ne _ _ h).trans (State.updFb_rd s n _ h)
    · rw [(State.sameBut_post _ _ _ _ _).rd r (by simp [outside, postParts])]
      exact (State.rd_put_ne _ _ h).trans (State.updFb_rd s n _ h)

/-- A unit that moves keeps its limits and stands at the position clamped between them (04 R156). -/
theorem State.fb_moveTo (s : State) (n : Fin 64) (x : Int) (limits : (s.fb n).lo ≤ (s.fb n).hi) :
    ((s.moveTo n x).fb n).lo = (s.fb n).lo ∧ ((s.moveTo n x).fb n).hi = (s.fb n).hi ∧ ((s.moveTo n x).fb n).pos = max (s.fb n).lo (min (s.fb n).hi x) := by
  have clamped : (if x < (s.fb n).lo then (s.fb n).lo else if (s.fb n).hi < x then (s.fb n).hi else x) = max (s.fb n).lo (min (s.fb n).hi x) := by
    split_ifs <;> omega
  unfold State.moveTo
  dsimp only
  rw [clamped]
  split
  · rw [State.fb_updFb]
    exact ⟨rfl, rfl, rfl⟩
  · generalize hu : State.updFb s n _ = t
    have moved := (congrArg (fun w => w.fb n) hu).symm.trans (State.fb_updFb _ _ _)
    have flagged : (t.flag (FB_STAT.SAT n)).fb n = t.fb n := t.fb_put n _ 1
    split
    · rw [flagged, moved]
      exact ⟨rfl, rfl, rfl⟩
    · rw [State.fb_post, flagged, moved]
      exact ⟨rfl, rfl, rfl⟩

/-- Settles O22. -/
theorem feedbackCommandsComplete : Obligations.FeedbackCommandsComplete := by
  refine ⟨fun n s off allowed => ?_, fun n s off serial held => ?_, fun n s => ?_, fun n on s allowed => ?_, fun n s => rfl, fun n v s off ok => ?_, fun n v s off ok => ?_,
    fun n ser v s on => ?_, fun n hi v s hv above => ?_, fun n hi s below => ?_, fun n hi s => ?_, fun n s => ?_, fun n s => ?_, fun n hi s on => ?_, fun n hi s off => ?_,
    fun n s off => ?_, fun n s => ?_, fun n a at_ l s pulses => ?_, fun n a b rest s levels => ?_⟩
  · unfold exec execFbEnWrite
    have serves : ¬ (3 ≤ s.get (FB_CFG.MODE n) ∧ s.is PIN_REL.FBO = false) := by
      rintro ⟨serial, held⟩
      rcases allowed with h | h
      · omega
      · exact absurd (h.symm.trans held) (by decide)
    simp only [off, serves, Bool.true_eq_false, Bool.false_eq_true, if_false]
    refine ⟨_, rfl, ?_, ?_, ?_, ?_, ?_⟩
    · rw [State.is_of_rd (State.updFb_rd _ n _ (by simp)), State.is_putB_ne _ (by simp)]
      exact State.is_flag _ _ (by simp) (by simp)
    all_goals simp only [State.fb_updFb, State.putB_now, State.put_now]
  · unfold exec execFbEnWrite
    simp only [off, serial, held, Bool.true_eq_false, Bool.false_eq_true, if_false, and_self, if_true]
  · refine ⟨_, rfl, ?_, ?_, State.fb_setFb _ n _,
      fun m hm => (State.fb_setFb_ne _ _ hm).trans ((State.fb_put _ _ _ _).trans (State.fb_put _ _ _ _)), sameBut_of_exec (c := .fbEnWrite n false) rfl⟩
    · rw [State.setFb_is, State.is_put_ne _ (by simp), State.is_put_zero _ (by simp)]
    · rw [State.setFb_is, State.is_put_zero _ (by simp)]
  · unfold exec execFbOutEnWrite
    have serves : ¬ (on = true ∧ s.is PIN_REL.FBO = false ∧ s.is (FB_CTRL.OUT_EN n) = false) := by
      rintro ⟨rfl, held, -⟩
      rcases allowed with h | h
      · exact absurd (h.symm.trans held) (by decide)
      · exact absurd h (by decide)
    simp only [serves, if_false]
  · unfold exec execFbCfgWrite
    simp only [off, ok, Bool.false_eq_true, Bool.true_eq_false, or_self, if_false]
  · unfold exec execFbCfgWrite
    simp only [off, ok, Bool.false_eq_true, Bool.true_eq_false, or_self, if_false, if_true]
  · unfold exec execFbCfgWrite
    simp only [on, true_or, if_true]
  · subst hv
    unfold exec execFbLimitWrite
    simp only [if_true, Int.not_lt.mpr above, if_false]
    generalize hw : State.setFb _ n _ = w
    have unit := (congrArg (fun w => w.fb n) hw).symm.trans (State.fb_setFb _ n _)
    obtain ⟨lo, hi', pos⟩ := w.fb_moveTo n (s.fb n).pos (by rw [unit]; exact above)
    rw [unit] at lo hi' pos
    refine ⟨_, rfl, hi', lo, pos, ?_⟩
    rw [State.moveTo_rd _ _ _ (by simp) rfl, ← hw]
    exact State.rd_wr_same _ _ _
  · unfold exec execFbLimitWrite
    simp only [below, Bool.false_eq_true, if_false, if_true]
  · refine congrArg (fun w : Word => Host.Outcome.next ((State.moveTo _ n (pair48 w _)).cmpLate n)) ?_
    exact State.rd_wr_ne s _ (by simp)
  · refine ⟨_, rfl, rfl, ?_, State.rd_wr_same _ _ _, sameBut_of_exec (c := .fbPosLoRead n) rfl⟩
    exact (State.rd_wr_ne _ _ (by simp)).trans (State.rd_wr_same _ _ _)
  · refine ⟨_, rfl, ?_, ?_, State.rd_wr_same _ _ _, sameBut_of_exec (c := .cmpHitNsRead n) rfl⟩
    · exact congrArg (fun w => [w]) ((State.rd_wr_ne _ _ (by simp)).trans (State.rd_wr_ne _ _ (by simp)))
    · exact (State.rd_wr_ne _ _ (by simp)).trans (State.rd_wr_same _ _ _)
  · unfold exec execCmpArmWrite
    simp only [State.is_wr_ne _ _ (show (CMP_CTRL.EN n).reg ≠ CMP_POS_HI n by simp), on, if_true]
  · unfold exec execCmpArmWrite
    simp only [State.is_wr_ne _ _ (show (CMP_CTRL.EN n).reg ≠ CMP_POS_HI n by simp), off, Bool.false_eq_true, if_false]
  · unfold exec execCmpEnWrite
    simp only [off, Bool.true_eq_false, Bool.false_eq_true, if_false]
  · rfl
  · unfold exec execCmpPulseEnd
    simp only [pulses]
  · unfold exec execCmpIrqLevelEnd
    simp only [levels]

end Sys2Proof.Machine

/-! Control loops: commands, and the runs of their laws (05 R166 to R206). -/

namespace Sys2Proof.Machine

open Sys2Proof

theorem State.loop_setLoop (s : State) (n : Fin 256) (l : LoopState) : (s.setLoop n l).loop n = l := tget_tset_same _ _ _ _

theorem State.loop_put (s : State) (n : Fin 256) (f : Field) (v : Nat) : (s.put f v).loop n = s.loop n := by
  unfold State.loop
  rw [State.put_loops]

/-- Settles O23. -/
theorem loopCommandsComplete : Obligations.LoopCommandsComplete := by
  refine ⟨fun n s off disabled valid => ?_, fun n s off invalid => ?_, fun n s => ?_, fun n s std fault clean => ?_, fun n s std dirty => ?_, fun n r v s disabled => ?_,
    fun n r v s on changes => ?_, fun n r v s on same => ?_, fun n b k v s free custom => ?_, fun n b k v s free std kind big => ?_, fun n s idle => ?_, fun n s pending => ?_⟩
  · unfold exec execLoopEnable
    simp only [off, disabled, valid, Bool.false_eq_true, Bool.true_eq_false, ne_eq, not_true, or_self, if_false]
  · unfold exec execLoopEnable
    simp only [off, invalid, Bool.false_eq_true, or_true, if_false, if_true]
  · unfold exec execLoopDisable
    dsimp only
    rw [State.get_put_ne _ (by simp), State.loop_put]
  · obtain ⟨t, ht, -⟩ := exec_next (.loopClrFault n) s
    have parts := sameBut_of_exec ht
    refine ⟨t, ht, ?_⟩
    unfold exec execLoopClrFault at ht
    simp only [std, clean, fault, Bool.true_eq_false, if_false, if_true] at ht
    cases ht
    rw [State.setLoop_get, State.get_put_of_lt _ (by simp) (by simp), State.loop_setLoop]
    exact ⟨rfl, rfl, rfl, rfl, rfl, rfl, rfl, rfl, parts⟩
  · unfold exec execLoopClrFault
    simp only [std, dirty, Bool.true_eq_false, if_false, if_true]
  · unfold exec execLdConfigWrite
    simp only [disabled, if_true]
  · unfold exec execLdConfigWrite
    simp only [on, changes, if_false]
  · unfold exec execLdConfigWrite
    simp only [on, same, if_false, if_true]
  · unfold exec execLdBankWrite
    have writable : ¬ (s.get (LD_STAT.STATE n) ≠ 0 ∧ s.get (LD_STAT.BANK n) = b.val) := by tauto
    simp only [custom, writable, Bool.false_and, decide_false, Bool.false_eq_true, if_false]
  · unfold exec execLdBankWrite
    have writable : ¬ (s.get (LD_STAT.STATE n) ≠ 0 ∧ s.get (LD_STAT.BANK n) = b.val) := by tauto
    simp only [std, kind, big, writable, beq_self_eq_true, decide_true, Bool.and_self, decide_false, Bool.false_eq_true, if_false, if_true]
  · unfold exec execLdSwapReq
    simp only [idle, Bool.false_eq_true, if_false]
  · unfold exec execLdSwapReq
    simp only [pending, if_true]

/-- The address of a loop is read from the identity of its cell or from its own register. -/
theorem State.loopAddr_of_rd {s t : State} {n : Fin 256} (ident : t.ident = s.ident) (h : t.rd (LD_ADDR n) = s.rd (LD_ADDR n)) : t.loopAddr n = s.loopAddr n := by
  unfold State.loopAddr State.jointAddr
  rw [ident, h]

theorem State.mishap_rd (s : State) (comps : List Nat) (r : Reg) : (s.mishap comps).rd r = s.rd r := by
  unfold State.mishap
  split <;> rfl

theorem State.mishap_ident (s : State) (comps : List Nat) : (s.mishap comps).ident = s.ident := by
  unfold State.mishap
  split <;> rfl

/-- Settles O25. -/
theorem lawRunsComplete : Obligations.LawRunsComplete := by
  refine ⟨fun n r s placed std hr => ?_, fun n r s placed std hr => ?_, fun n cycles s placed custom goes small => ?_, fun n cycles s placed custom final => ?_,
    fun n m c b s behind ahead => ?_, fun n c b s behind free => ?_, fun n src c s behind => ?_, fun n c s low high next_ => ?_, fun n s due => ?_, fun n c s due cause => ?_,
    fun n c s due cause => ?_, fun n s word => ?_, fun n cycles s custom excess => ?_⟩
  · subst hr
    unfold exec execCurrentLawRun
    simp only [placed, std, Bool.and_self, if_true]
  · subst hr
    unfold exec execMotionLawRun
    simp only [placed, std, Bool.and_self, if_true]
  · unfold exec execCustomLawRun
    simp only [placed, custom, goes, Bool.not_false, Bool.and_self, if_true, Bool.false_eq_true, if_false]
    refine ⟨_, rfl, ?_, ?_, ?_⟩
    · rw [State.get_wr_ne _ _ (by simp), State.get_count_ne _ (by simp), State.get_put_of_lt _ (by simp) (by simp)]
    · rw [State.rd_wr_ne _ _ (by simp), State.rd_count, State.rd_put_ne _ _ (by simp), State.setLoop_rd]
    · rw [State.rd_wr_same, State.rd_put_ne _ _ (by simp), State.setLoop_rd, BitVec.toNat_ofNat,
        Nat.mod_eq_of_lt (max_lt (BitVec.isLt _) small)]
  · unfold exec execCustomLawRun
    simp only [placed, custom, final, Bool.not_false, Bool.and_self, if_true]
    refine ⟨_, rfl, ?_, ?_, ?_, ?_⟩
    · rw [State.get_wr_ne _ _ (by simp), State.get_count_ne _ (by simp), State.get_put_of_lt _ (by simp) (by simp)]
    · exact congrArg LoopState.final (State.loop_setLoop s n _)
    · exact congrArg LoopState.tile (State.loop_setLoop s n _)
    · rw [State.rd_wr_ne _ _ (by simp), State.rd_count, State.rd_put_ne _ _ (by simp), State.setLoop_rd]
  · unfold exec execLdRefCommit State.refCommit
    simp only [behind, Nat.not_le.mpr ahead, if_false]
  · unfold exec execLdRefCommit State.refCommit
    simp only [behind, free, Bool.false_eq_true, if_false]
  · unfold exec execLdRefCommit State.refCommit
    simp only [behind]
  · unfold exec execLdSpCommit
    simp only [Nat.not_lt.mpr low, Nat.not_le.mpr high, next_, or_self, if_false, if_true]
  · unfold exec execLoopSupWarn
    simp only [due, if_true]
  · have listed : c ∈ [1, 3] := by simpa using cause
    unfold exec execLoopSupFault State.dueFault
    simp only [due, listed, if_true]
  · have listed : c ∈ [2, 4] := by simpa using cause
    unfold exec execLoopBadLimit State.dueFault
    simp only [due, listed, if_true]
  · unfold exec execLoopFaultWord State.actOnWord
    have held : ((s.posted s.activePlane [n.val, 0]).loop n).tripWord = true := word
    simp only [held, Bool.true_eq_false, if_false]
    exact if_pos rfl
  · unfold exec execLawWcetExceed
    simp only [custom, excess, and_self, if_true]
    have address : ((s.flag (LD_STAT.WCET_EXCEED n)).mishap [2, 3]).loopAddr n = s.loopAddr n :=
      State.loopAddr_of_rd (State.mishap_ident _ _) ((State.mishap_rd _ _ _).trans (State.rd_flag_ne _ (by simp)))
    rw [address]

end Sys2Proof.Machine

/-! Arms: planning, moves and the interpolator (06 R207 to R247). -/

namespace Sys2Proof.Machine

open Sys2Proof

section
variable {s t : State} {a : Fin 8}

theorem State.arm_setArm (s : State) (a : Fin 8) (x : ArmState) : (s.setArm a x).arm a = x := tget_tset_same _ _ _ _

theorem State.arm_of_arms (h : t.arms = s.arms) (a : Fin 8) : t.arm a = s.arm a := congrArg (fun l : List (Fin 8 × ArmState) => tget l a {}) h

theorem State.sameBut.arm {l : List Part} (h : s.sameBut l t) (out : .arms ∉ l) (a : Fin 8) : t.arm a = s.arm a := State.arm_of_arms (h .arms out).symm a

theorem State.arm_wr (s : State) (r : Reg) (v : Word) (a : Fin 8) : (s.wr r v).arm a = s.arm a := State.arm_of_arms (State.wr_arms s r v) a

theorem State.arm_put (s : State) (f : Field) (v : Nat) (a : Fin 8) : (s.put f v).arm a = s.arm a := State.arm_of_arms (State.put_arms s f v) a

theorem State.arm_flag (s : State) (f : Field) (a : Fin 8) : (s.flag f).arm a = s.arm a := s.arm_put f 1 a

theorem State.arm_showDepth (s : State) (b a : Fin 8) : (s.showDepth b).arm a = s.arm a := State.arm_wr _ _ _ a

theorem State.arm_post (s : State) (type sev : Nat) (w : Word) (payload : List Byte) (a : Fin 8) : (s.post type sev w payload).arm a = s.arm a :=
  (s.sameBut_post type sev w payload).arm (by decide) a

/-- A segment appended to a path leaves the start of the path where it was. -/
theorem State.appendMove_arm (s : State) (a : Fin 8) (m : Move) (full : Bool) :
    ((s.appendMove a m full).arm a).path ≠ [] ∧ ((s.appendMove a m full).arm a).base = (s.arm a).base := by
  unfold State.appendMove
  dsimp only
  rw [State.arm_setArm]
  exact ⟨by simp, rfl⟩

/-- Queued moves only lengthen a path. -/
theorem State.extendPath_arm (a : Fin 8) (n : Nat) (s : State) :
    ((s.arm a).path ≠ [] → ((s.extendPath a n).arm a).path ≠ []) ∧ ((s.extendPath a n).arm a).base = (s.arm a).base := by
  induction n generalizing s with
  | zero => exact ⟨id, rfl⟩
  | succ n ih =>
    unfold State.extendPath
    split
    · split
      · exact ⟨id, rfl⟩
      · rename_i m rest _ _
        have added := State.appendMove_arm (s.setArm a { s.arm a with queue := rest }) a m false
        obtain ⟨path, base⟩ := ih ((s.setArm a { s.arm a with queue := rest }).appendMove a m false)
        rw [State.arm_setArm] at added
        exact ⟨fun _ => path added.1, base.trans added.2⟩
    · exact ⟨id, rfl⟩

/-- A flush of an arm keeps its scale, its commands and the safe speed it shows. -/
theorem State.flushArm_keeps (s : State) (a : Fin 8) : ((s.flushArm a).arm a).lam = (s.arm a).lam ∧ ((s.flushArm a).arm a).cmds = (s.arm a).cmds ∧
    (s.flushArm a).rd (ARM_VSAFE a) = s.rd (ARM_VSAFE a) := by
  unfold State.flushArm
  dsimp only
  rw [State.arm_showDepth, State.arm_setArm]
  exact ⟨rfl, rfl, (State.rd_wr_ne _ _ (by simp)).trans (State.setArm_rd _ _ _ _)⟩

/-- No arm command of an interpolator run puts another one in front of the next run. -/
theorem State.applyArmCmd_cmds (s : State) (a : Fin 8) (c : Nat) : ((s.applyArmCmd a c).arm a).cmds = (s.arm a).cmds := by
  have put : ∀ v, ((s.put (ARM_STAT.STATE a) v).arm a).cmds = (s.arm a).cmds := fun v => congrArg ArmState.cmds (s.arm_put _ v a)
  unfold State.applyArmCmd
  dsimp only
  split
  · split
    · exact put 2
    · rfl
  · split
    · exact put 1
    · rfl
  · split
    · exact put 5
    · rfl
  · split
    · rfl
    · split
      · exact (State.flushArm_keeps _ a).2.1.trans (put 0)
      · exact congrArg ArmState.cmds (s.arm_flag _ a)

/-- After the events of an arm no command of it waits. -/
theorem State.armEvents_cmds (s : State) (a : Fin 8) : ((s.armEvents a).arm a).cmds = [] := by
  unfold State.armEvents
  extract_lets x runs lost s1 s2 st s3 y
  have none_ : (s2.arm a).cmds = [] := by
    refine List.foldlRecOn (motive := fun u : State => (u.arm a).cmds = []) _ _ ?_ fun u hu c _ => (u.applyArmCmd_cmds a c).trans hu
    exact congrArg ArmState.cmds (s.arm_setArm a _)
  have put : ∀ v, ((s2.put (ARM_STAT.STATE a) v).arm a).cmds = [] := fun v => (congrArg ArmState.cmds (s2.arm_put _ v a)).trans none_
  have still : (s3.arm a).cmds = [] := by
    unfold s3
    split
    · exact (State.flushArm_keeps _ a).2.1.trans (put 6)
    · split
      · exact put 4
      · exact none_
  split
  · exact (congrArg ArmState.cmds (s3.arm_put _ 1 a)).trans still
  · exact still

/-- Settling an arm after a run keeps its scale, its commands and the safe speed it shows. -/
theorem State.armSettle_keeps (s : State) (a : Fin 8) : ((s.armSettle a).arm a).lam = (s.arm a).lam ∧ ((s.armSettle a).arm a).cmds = (s.arm a).cmds ∧
    (s.armSettle a).rd (ARM_VSAFE a) = s.rd (ARM_VSAFE a) := by
  unfold State.armSettle
  extract_lets x done s1 s2 y s3 st
  have h1 : s1.rd (ARM_VSAFE a) = s.rd (ARM_VSAFE a) := by
    unfold s1
    split
    · exact State.rd_wr_ne _ _ (by simp)
    · rfl
  have h2 : s2.rd (ARM_VSAFE a) = s.rd (ARM_VSAFE a) := by
    unfold s2
    split
    · exact (State.rd_put_ne _ _ (by simp)).trans h1
    · exact h1
  have hy : y.lam = x.lam ∧ y.cmds = x.cmds := by
    unfold y
    split <;> exact ⟨rfl, rfl⟩
  have h3 : (s3.arm a).lam = x.lam ∧ (s3.arm a).cmds = x.cmds ∧ s3.rd (ARM_VSAFE a) = s.rd (ARM_VSAFE a) := by
    unfold s3
    rw [State.arm_showDepth, State.arm_setArm]
    exact ⟨hy.1, hy.2, (State.rd_wr_ne _ _ (by simp)).trans ((State.setArm_rd _ _ _ _).trans h2)⟩
  have put : ∀ v, ((s3.put (ARM_STAT.STATE a) v).arm a).lam = x.lam ∧ ((s3.put (ARM_STAT.STATE a) v).arm a).cmds = x.cmds ∧
      (s3.put (ARM_STAT.STATE a) v).rd (ARM_VSAFE a) = s.rd (ARM_VSAFE a) := fun v => by
    rw [State.arm_put, State.rd_put_ne _ _ (by simp)]
    exact h3
  split
  · exact put 0
  · split
    · exact put 3
    · split
      · obtain ⟨lam, cmds, vsafe⟩ := State.flushArm_keeps (s3.put (ARM_STAT.STATE a) 0) a
        exact ⟨lam.trans (put 0).1, cmds.trans (put 0).2.1, vsafe.trans (put 0).2.2⟩
      · exact h3

theorem State.sameBut.joints {l : List Part} (h : s.sameBut l t) (out : .reg .ld ∉ l) (a : Fin 8) : t.joints a = s.joints a := by
  unfold State.joints
  simp only [h.is (LD_CTRL.EN _) out]

theorem clampRat_mem {lo hi : Rat} (h : lo ≤ hi) (x : Rat) : lo ≤ clampRat lo hi x ∧ clampRat lo hi x ≤ hi := by
  unfold clampRat
  split
  · exact ⟨le_refl _, h⟩
  · split
    · exact ⟨h, le_refl _⟩
    · exact ⟨not_lt.mp ‹_›, not_lt.mp ‹_›⟩

/-- The scale of an arm lies from 0 to 1. -/
theorem State.armScale_bounds (s : State) (a : Fin 8) (t : Time) (T : Rat) : 0 ≤ (s.armScale a t T).1 ∧ (s.armScale a t T).1 ≤ 1 := by
  unfold State.armScale
  dsimp only
  exact clampRat_mem (by norm_num) _

end

/-- A planner run takes the records of an arm that are ready, for the tick j. -/
def takeReady (j : Nat) (s : State) (a : Fin 8) : State :=
  s.setArm a { s.arm a with ready := [], taken := if (s.arm a).ready.isEmpty then (s.arm a).taken else (s.arm a).taken ++ [(j, (s.arm a).ready)] }

/-- The records r are taken for the tick j, and none is ready. -/
def ArmState.took (x : ArmState) (j : Nat) (r : List Move) : Prop := x.ready = [] ∧ (r ≠ [] → (j, r) ∈ x.taken)

theorem takeReady_same (j : Nat) (s : State) (a : Fin 8) : ((takeReady j s a).arm a).took j (s.arm a).ready := by
  unfold takeReady
  rw [State.arm_setArm]
  refine ⟨rfl, fun some_ => ?_⟩
  simp [some_]

theorem takeReady_ne (j : Nat) (s : State) {a b : Fin 8} (h : a ≠ b) : (takeReady j s b).arm a = s.arm a := tget_tset_ne _ _ _ h

theorem takeReady_keeps {j : Nat} {s : State} {a : Fin 8} {r : List Move} (h : (s.arm a).took j r) (b : Fin 8) : ((takeReady j s b).arm a).took j r := by
  by_cases e : a = b
  · subst e
    unfold takeReady
    rw [State.arm_setArm]
    refine ⟨rfl, fun some_ => ?_⟩
    simp only [h.1, List.isEmpty_nil, if_true]
    exact h.2 some_
  · rw [takeReady_ne j s e]
    exact h

theorem takeReady_all (j : Nat) {a : Fin 8} (xs : List (Fin 8)) (s : State) (listed : a ∈ xs) : ((xs.foldl (takeReady j) s).arm a).took j (s.arm a).ready := by
  induction xs generalizing s with
  | nil => exact absurd listed List.not_mem_nil
  | cons b xs ih =>
    rw [List.foldl_cons]
    by_cases e : a = b
    · subst e
      exact List.foldlRecOn (motive := fun u : State => (u.arm a).took j (s.arm a).ready) xs _ (takeReady_same j s a) fun u hu c _ => takeReady_keeps hu c
    · have later := ih (takeReady j s b) ((List.mem_cons.mp listed).resolve_left e)
      rwa [takeReady_ne j s e] at later

/-- Counting the reuse of a result leaves the count of ticks. -/
theorem State.countReuse_ticks (s : State) : s.countReuse.rd PLN_TICKS = s.rd PLN_TICKS := by
  unfold State.countReuse
  split
  · rfl
  · split
    · unfold State.bumpField
      rw [State.rd_put_ne _ _ (by decide), State.rd_flag_ne _ (by decide), State.rd_bump_ne _ (by decide)]
    · exact State.rd_put_ne _ _ (by decide)

/-- A list over the eight joints holds each at its place. -/
theorem getD_jointList {α : Type} (f : Fin 8 → α) (j : Fin 8) (d : α) : (jointList.map f).getD j.val d = f j := by
  rw [List.getD_eq_getElem?_getD, List.getElem?_map]
  fin_cases j <;> rfl

/-- Settles O26. -/
theorem armPlanningComplete : Obligations.ArmPlanningComplete := by
  refine ⟨fun a s off some_ free => ?_, fun a s off none_ => ?_, fun a s => ?_, fun a s => rfl, fun a s => rfl, fun a s => rfl, fun a s => rfl, fun s => ?_, fun s => ?_,
    fun a m r st s queue start rest => ?_, fun a s joints on => ?_, fun s limit reached => ?_⟩
  · unfold exec execArmCtrlEn
    have some' : ¬ ((s.joints a).isEmpty = true ∨ (finList 16).any (fun i => (s.joints a).any (fun j => s.axisJoint i == portOf a j)) = true) := by
      simp [some_, free]
    simp only [off, some', Bool.false_eq_true, if_false, if_true]
    generalize hv : State.setArm _ a _ = v
    generalize hw : List.foldl _ v _ = w
    have kept : v.sameBut [.reg .ld, .loops, .pc] w := by
      rw [← hw]
      refine State.sameBut_foldl (fun u j => State.sameBut_of_op fun q b hu kf => ?_) _ _
      exact State.setLoop_framed (State.wr_framed (State.updOther_framed (State.wr_framed (State.wr48_framed hu (kf.get rfl) (kf.get rfl)) (kf.get rfl)) (kf.sub rfl))
        (kf.get rfl)) (kf.sub rfl)
    refine ⟨_, rfl, ?_, ?_, ?_⟩
    · unfold State.showDepth
      rw [State.is_wr_ne _ _ (by simp), kept.is _ (by simp [Reg.group]), ← hv, State.setArm_is, State.is_put_ne _ (by simp)]
      exact State.is_flag _ _ (by simp) (by simp)
    · unfold State.showDepth
      rw [State.get_wr_ne _ _ (by simp), kept.get _ (by simp [Reg.group]), ← hv, State.setArm_get, State.get_put_of_lt _ (by simp) (by simp)]
    · rw [State.arm_showDepth, kept.arm (by decide), ← hv, State.arm_setArm]
      refine ⟨rfl, rfl, rfl, fun j => ?_⟩
      dsimp only
      rw [getD_jointList]
  · unfold exec execArmCtrlEn
    simp only [off, none_, List.isEmpty_nil, true_or, Bool.false_eq_true, if_false, if_true]
  · rfl
  · obtain ⟨t, ht, -⟩ := exec_next .planningTick s
    refine ⟨t, ht, ?_⟩
    replace ht : execPlanningTick s = .next t := ht
    unfold execPlanningTick at ht
    extract_lets s1 j plan s2 s3 s4 s5 s6 s7 at ht
    have ticks2 : s2.rd PLN_TICKS = s.rd PLN_TICKS := by
      unfold s2
      split
      · exact State.rd_flag_ne _ (by decide)
      · rfl
    have now2 : s2.now = max s.now (s.boundary (s.periodNo / s.tickPeriods * s.tickPeriods)) := by
      unfold s2
      split <;> rfl
    have ticks4 : s4.rd PLN_TICKS = s.rd PLN_TICKS + 1 := by
      rw [← ticks2]
      exact State.rd_count s2 PLN_TICKS
    have ran4 : s4.plannerRan = false := rfl
    have now4 : s4.now = s2.now := rfl
    clear_value s4
    have kiln : s4.sameBut [.reg .kn, .mem, .kiln, .pc] s5 :=
      State.sameBut_of_op fun _ _ hs kf => State.kilnTick_framed (State.kilnTick_framed hs kf) kf
    clear_value s5
    have knots : s5.sameBut [.reg .pln, .arms] s6 ∧ s6.rd PLN_TICKS = s5.rd PLN_TICKS := by
      unfold s6
      split
      · exact ⟨State.sameBut_of_op fun _ _ hs kf => State.countReuse_framed (State.takeKnots_framed hs (kf.sub rfl)) (kf.sub rfl),
          (State.countReuse_ticks _).trans ((State.sameBut_of_op (l := [.arms]) fun _ _ hs kf => State.takeKnots_framed hs kf).rd _ (by decide))⟩
      · exact ⟨State.sameBut_refl _ _, rfl⟩
    clear_value s6
    have installed : s6.sameBut (postParts ++ [.reg .arm, .arms]) s7 :=
      State.sameBut_foldl (fun u a => State.sameBut_of_op fun _ _ hs kf =>
        State.showDepth_framed (State.install_framed (State.setArm_framed hs (kf.sub rfl)) kf) (kf.sub rfl)) _ _
    clear_value s7
    cases ht
    refine ⟨?_, ?_, ?_, ?_⟩
    · exact (installed.rd PLN_TICKS (by decide)).trans (knots.2.trans ((kiln.rd _ (by decide)).trans ticks4))
    · exact (installed .plannerRan (by decide)).symm.trans ((knots.1 .plannerRan (by decide)).symm.trans ((kiln .plannerRan (by decide)).symm.trans ran4))
    · exact (installed .now (by decide)).symm.trans ((knots.1 .now (by decide)).symm.trans ((kiln .now (by decide)).symm.trans (now4.trans now2)))
    · intro q hq
      obtain ⟨q', -, rfl⟩ := List.mem_map.mp hq
      exact ⟨rfl, rfl⟩
  · obtain ⟨t, ht, -⟩ := exec_next .plannerRun s
    refine ⟨t, ht, ?_⟩
    replace ht : execPlannerRun s = .next t := ht
    unfold execPlannerRun at ht
    extract_lets j key v src w at ht
    have arms : ∀ a ∈ s.armsOn, (w.arm a).took ((j + 2) % 2 ^ 32) (s.arm a).ready := fun a ha => takeReady_all ((j + 2) % 2 ^ 32) s.armsOn s ha
    have ran : w.plannerRan = true := rfl
    clear_value w
    split at ht
    · cases ht
      exact ⟨ran, arms⟩
    · cases ht
      have kept := State.sameBut_foldl (fun x k => State.sameBut_of_op fun _ _ => State.kAccept_framed (s := x) (k := k) (c := 0) (p := some (w.buildProblem key j))
        (res := planRes k) (task := none)) w w.kilnOn
      exact ⟨(kept .plannerRan (by decide)).symm.trans ran, fun a ha => kept.arm (by decide) a ▸ arms a ha⟩
  · obtain ⟨t, ht, -⟩ := exec_next (.timedMoveStart a) s
    refine ⟨t, ht, ?_⟩
    replace ht : execTimedMoveStart a s = .next t := ht
    unfold execTimedMoveStart at ht
    extract_lets x at ht
    have hq : x.queue = m :: r := queue
    have hg : x.going = false := rest
    have hx : x = s.arm a := rfl
    clear_value x
    simp -zeta only [hq, start, hg, Bool.false_eq_true, if_false] at ht
    extract_lets v late run w src y z at ht
    have added : (w.arm a).path ≠ [] ∧ (w.arm a).base = jointList.map (s.arm a).endPos := by
      obtain ⟨path, base⟩ := State.appendMove_arm (v.setArm a { x with queue := r, base := jointList.map x.endPos, path := [], tau := 0 }) a
        { m with start := some st, blend := false } false
      refine ⟨path, base.trans ?_⟩
      rw [State.arm_setArm, hx]
    have nowW : w.now = max s.now (s.deviceAt st) :=
      ((State.sameBut_of_op (l := [.arms]) fun _ _ hs kf => State.appendMove_framed (State.setArm_framed hs kf) kf : v.sameBut [.arms] w) .now (by decide)).symm
    clear_value w
    have yArm : (y.arm a).path = (w.arm a).path ∧ (y.arm a).base = (w.arm a).base := by
      unfold y
      rw [State.arm_setArm]
      exact ⟨rfl, rfl⟩
    have nowY : y.now = w.now := rfl
    clear_value y
    have path : (z.arm a).path ≠ [] := by
      unfold z
      rw [State.arm_showDepth]
      exact (State.extendPath_arm a 64 y).1 (yArm.1 ▸ added.1)
    have base : (z.arm a).base = jointList.map (s.arm a).endPos := by
      unfold z
      rw [State.arm_showDepth, (State.extendPath_arm a 64 y).2, yArm.2, added.2]
    have nowZ : z.now = max s.now (s.deviceAt st) :=
      (((State.sameBut_of_op (l := [.reg .arm, .arms]) fun _ _ hs kf => State.showDepth_framed (State.extendPath_framed hs (kf.sub rfl)) (kf.sub rfl) :
        y.sameBut [.reg .arm, .arms] z) .now (by decide)).symm.trans nowY).trans nowW
    clear_value z
    split at ht
    · cases ht
      refine ⟨?_, ?_, ?_, fun _ => ?_⟩
      · exact ((State.sameBut_post _ _ _ _ _) .now (by decide)).symm.trans nowZ
      · rw [State.arm_post, State.arm_flag]
        exact path
      · rw [State.arm_post, State.arm_flag]
        exact base
      · rw [(State.sameBut_post _ _ _ _ _).is _ (by simp [postParts, Reg.group])]
        exact State.is_flag _ _ (by simp) (by simp)
    · cases ht
      exact ⟨nowZ, path, base, fun late_ => absurd (Nat.sub_pos_of_lt late_) ‹_›⟩
  · unfold exec execInterpolatorRun
    have kept : s.sameBut [.reg .arm, .arms] (s.armEvents a) := State.sameBut_of_op fun _ _ => State.armEvents_framed
    have cmds := s.armEvents_cmds a
    obtain ⟨j, js, hj⟩ := List.exists_cons_of_ne_nil joints
    have events : (s.armEvents a).joints a = j :: js := (kept.joints (by decide) a).trans hj
    simp only [on, Bool.true_eq_false, if_false, events]
    have safe : (s.armEvents a).rd (SI_VSAFE a) = s.rd (SI_VSAFE a) := kept.rd _ (by simp [Reg.group])
    generalize s.armEvents a = u at *
    have bounds := u.armScale_bounds a (u.boundary (u.nextStart (motLoop (portOf a j))))
      (((u.period * u.loopEvery (motLoop (portOf a j)) : Nat) : Rat) / 256000000000)
    generalize u.armScale a _ _ = scale at *
    obtain ⟨lam, chase⟩ := scale
    dsimp only
    generalize hv : State.setArm _ a _ = v
    generalize hw : List.foldl _ v _ = w
    have spread : v.sameBut [.reg .ld, .loops, .pc] w := by
      rw [← hw]
      exact State.sameBut_foldl (fun x k => State.sameBut_of_op fun _ _ => State.writeSp_framed) _ _
    have arm : (w.arm a).lam = lam ∧ (w.arm a).cmds = [] := by
      rw [spread.arm (by decide), ← hv, State.arm_setArm]
      exact ⟨rfl, cmds⟩
    have shown : w.rd (SI_VSAFE a) = s.rd (SI_VSAFE a) := by
      rw [spread.rd _ (by simp [Reg.group]), ← hv, State.setArm_rd, ← safe]
      split
      · exact State.rd_flag_ne _ (by simp)
      · rfl
    refine ⟨_, rfl, ?_, ?_, ?_, ?_⟩
    · rw [(State.armSettle_keeps _ a).1, State.arm_wr, State.arm_wr, State.arm_wr, State.arm_wr, arm.1]
      exact bounds.1
    · rw [(State.armSettle_keeps _ a).1, State.arm_wr, State.arm_wr, State.arm_wr, State.arm_wr, arm.1]
      exact bounds.2
    · rw [(State.armSettle_keeps _ a).2.2, State.rd_wr_same, State.rd_wr_ne _ _ (by simp), State.rd_wr_ne _ _ (by simp), shown]
    · rw [(State.armSettle_keeps _ a).2.1, State.arm_wr, State.arm_wr, State.arm_wr, State.arm_wr, arm.2]
  · unfold exec execPlannerKilnStop
    simp only [limit, reached, ne_eq, not_false_iff, and_self, if_true]

end Sys2Proof.Machine

/-! Step axes: what one axis leaves of the others, and the commands of an axis (06 R229 to R250). -/

namespace Sys2Proof.Machine

open Sys2Proof

section
variable {s t : State} {i j : Fin 16}

theorem State.axis_setAxis (s : State) (i : Fin 16) (a : StepAxis) : (s.setAxis i a).axis i = a := tget_tset_same _ _ _ _

theorem State.axis_setAxis_ne (s : State) (a : StepAxis) (h : i ≠ j) : (s.setAxis j a).axis i = s.axis i := tget_tset_ne _ _ _ h

theorem State.axis_of_axes (h : t.axes = s.axes) (i : Fin 16) : t.axis i = s.axis i := congrArg (fun l : List (Fin 16 × StepAxis) => tget l i {}) h

theorem State.sameBut.axis {l : List Part} (h : s.sameBut l t) (out : .axes ∉ l) (i : Fin 16) : t.axis i = s.axis i := State.axis_of_axes (h .axes out).symm i

theorem State.axis_wr (s : State) (r : Reg) (v : Word) (i : Fin 16) : (s.wr r v).axis i = s.axis i := State.axis_of_axes (State.wr_axes s r v) i

theorem State.axis_put (s : State) (f : Field) (v : Nat) (i : Fin 16) : (s.put f v).axis i = s.axis i := State.axis_of_axes (State.put_axes s f v) i

namespace Stp

/-- What an axis shows lies in its registers of depth, target, direction and move. -/
theorem axis_shown (s : State) (j i : Fin 16) : (shown s j).axis i = s.axis i :=
  (State.sameBut_of_op (l := [.reg .stp]) fun _ _ => Stp.shown_framed).axis (by decide) i

theorem shown_rd (s : State) (i : Fin 16) {r : Reg} (h : r ≠ STP_QDEPTH i ∧ r ≠ STP_STAT i ∧ r ≠ STP_TGT_LO i ∧ r ≠ STP_TGT_HI i) : (shown s i).rd r = s.rd r := by
  obtain ⟨depth, stat, lo, hi⟩ := h
  have dir : ∀ b, (((s.wr (STP_QDEPTH i) b).putB (STP_STAT.DIR i) (s.axis i).dir)).rd r = s.rd r := fun b =>
    (State.rd_put_ne _ _ stat).trans (State.rd_wr_ne _ _ depth)
  unfold shown
  dsimp only
  split
  · exact (State.rd_put_ne _ _ stat).trans ((State.rd_wr_ne _ _ hi).trans ((State.rd_wr_ne _ _ lo).trans (dir _)))
  · exact dir _

theorem shown_get (s : State) (i : Fin 16) {lo w : Nat} (h : lo + w ≤ 3 ∨ 4 ≤ lo ∧ lo + w ≤ 16) : (shown s i).get ⟨STP_STAT i, lo, w⟩ = s.get ⟨STP_STAT i, lo, w⟩ := by
  have dir : ∀ b, (((s.wr (STP_QDEPTH i) b).putB (STP_STAT.DIR i) (s.axis i).dir)).get ⟨STP_STAT i, lo, w⟩ = s.get ⟨STP_STAT i, lo, w⟩ := fun b =>
    (State.get_putB_ne _ (Or.inr (by dsimp only; omega)) _).trans (State.get_wr_ne _ _ (by simp))
  unfold shown
  dsimp only
  split
  · exact (State.get_put_ne _ (Or.inr (by dsimp only; omega)) _).trans ((State.get_wr_ne _ _ (by simp)).trans ((State.get_wr_ne _ _ (by simp)).trans (dir _)))
  · exact dir _

theorem shown_is (s : State) (i : Fin 16) {lo w : Nat} (h : lo + w ≤ 3 ∨ 4 ≤ lo ∧ lo + w ≤ 16) : (shown s i).is ⟨STP_STAT i, lo, w⟩ = s.is ⟨STP_STAT i, lo, w⟩ := by
  unfold State.is
  rw [shown_get s i h]

section
variable (h : i ≠ j)
include h

theorem axis_begin (s : State) (t : Nat) : (begin_ s j t).axis i = s.axis i := by
  unfold begin_
  dsimp only
  split
  · rfl
  · rw [axis_shown, State.axis_put, State.axis_setAxis_ne _ _ h]

theorem axis_orient (s : State) (t : Nat) : (orient s j t).axis i = s.axis i := by
  unfold orient
  dsimp only
  split
  · rfl
  · split
    · split
      · exact axis_shown _ _ _
      · exact axis_begin h s t
    · split
      · exact axis_shown _ _ _
      · rw [axis_shown, State.axis_setAxis_ne _ _ h]

/-- Starting the queue of one axis leaves the others. -/
theorem axis_startNext (t : Nat) (l : List StepMove) (s : State) : (startNext j t l s).axis i = s.axis i := by
  induction l generalizing s with
  | nil =>
    unfold startNext
    rw [axis_shown, State.axis_put, State.axis_put, State.axis_setAxis_ne _ _ h]
  | cons m rest ih =>
    unfold startNext
    split
    · rw [axis_shown, State.axis_put, State.axis_put, State.axis_setAxis_ne _ _ h]
    · split
      · exact (ih _).trans (State.axis_wr _ _ _ i)
      · rw [axis_orient h, State.axis_put, State.axis_put, State.axis_setAxis_ne _ _ h]

theorem axis_toRest (s : State) (t : Nat) : (toRest s j t).axis i = s.axis i := by
  unfold toRest
  dsimp only
  rw [axis_startNext h, State.axis_wr, State.axis_setAxis_ne _ _ h]
  split
  · exact (State.sameBut_of_op (l := postParts ++ [.reg .stp]) fun _ _ => Stp.reversal_framed).axis (by decide) i
  · rfl

end

end Stp

/-- An axis in no group stands as it is when a group of another master ends, or its own members. -/
theorem State.axis_stopGroup (g : GroupRun) {atOnce : Bool} (alone : (s.axis i).group = none) (other : atOnce = false → g.master ≠ i) :
    (s.stopGroup g atOnce).axis i = s.axis i := by
  have each : ∀ (f : State → Fin 16 → State) (t : State), t.axis i = s.axis i → (∀ u j, i ≠ j → (f u j).axis i = u.axis i) →
      (t.eachMember g.master f).axis i = s.axis i := fun f t ht hf => by
    unfold State.eachMember
    refine List.foldlRecOn (motive := fun u : State => u.axis i = s.axis i) _ _ ht fun u hu j _ => ?_
    by_cases e : i = j
    · subst e
      rw [hu, alone]
      exact hu
    · split
      · split
        · exact (hf u j e).trans hu
        · exact hu
      · exact hu
  unfold State.stopGroup
  split
  · exact each _ s rfl fun u j hj => Stp.axis_toRest hj u _
  · next later =>
    dsimp only
    split
    · refine each _ _ ?_ fun u j _ => State.axis_put u _ _ i
      exact State.axis_setAxis_ne _ _ (other (by simpa using later)).symm
    · rfl

end

theorem map_withVe {α : Type} (f : StepMove → α) (hf : ∀ m ve, f { m with ve := ve } = f m) (a2 : Nat) (p : Int) (l : List StepMove) :
    (Stp.withVe a2 p l).map f = l.map f := by
  induction l generalizing p with
  | nil => rfl
  | cons m rest ih =>
    unfold Stp.withVe
    rw [List.map_cons, List.map_cons, hf, ih]

/-- The head of a group's member runs: m is under way before the moves r, and nothing waits for the group. -/
def State.launched (s : State) (i : Fin 16) (m : StepMove) (r : List StepMove) : Prop :=
  (s.axis i).cur = some m ∧ (s.axis i).queue = r ∧ s.get (STP_STAT.STATE i) = 1 ∧ s.is (STP_STAT.GRP_WAIT i) = false

section
variable {s : State} {i : Fin 16} {m : StepMove} {r : List StepMove}

theorem State.launched.setAxis (h : s.launched i m r) {a : StepAxis} (cur : a.cur = (s.axis i).cur) (queue : a.queue = (s.axis i).queue) :
    (s.setAxis i a).launched i m r := by
  obtain ⟨hcur, hqueue, state, wait⟩ := h
  unfold State.launched
  rw [State.axis_setAxis, State.setAxis_get, State.setAxis_is]
  exact ⟨cur.trans hcur, queue.trans hqueue, state, wait⟩

theorem State.launched.begin (h : s.launched i m r) (t : Nat) : (Stp.begin_ s i t).launched i m r := by
  obtain ⟨cur, queue, -, wait⟩ := h
  unfold Stp.begin_
  simp only [cur]
  refine ⟨?_, ?_, ?_, ?_⟩
  · rw [Stp.axis_shown, State.axis_put, State.axis_setAxis]
  · rw [Stp.axis_shown, State.axis_put, State.axis_setAxis, queue]
  · rw [Stp.shown_get _ i (by simp), State.get_put_of_lt _ (by simp) (by simp)]
  · rw [Stp.shown_is _ i (by simp), State.is_put_ne _ (by simp), State.setAxis_is, wait]

theorem State.launched.placeMembers (h : s.launched i m r) (n t iv : Nat) : (Stp.placeMembers s i n t iv).launched i m r := by
  unfold Stp.placeMembers
  refine List.foldlRecOn (motive := fun u : State => u.launched i m r) _ _ h fun u hu j _ => ?_
  have other : ∀ (v : State) a, j ≠ i → v.launched i m r → (v.setAxis j a).launched i m r := fun v a hj hv => by
    unfold State.launched
    rw [State.axis_setAxis_ne _ _ hj.symm, State.setAxis_get, State.setAxis_is]
    exact hv
  dsimp only
  split
  · split
    · next member =>
      split
      · exact other _ _ member.2.1 (other _ _ member.2.1 hu)
      · exact other _ _ member.2.1 hu
    · exact hu
  · exact hu

end

/-- A group of one waiting member starts it at its own speed. -/
theorem stepGroupStart_alone {g : Fin 8} {i : Fin 16} {m : StepMove} {r : List StepMove} {s : State} (alone : s.groupMembers g = [i])
    (queue : (s.axis i).queue = m :: r) (rest : (s.axis i).cur = none) (pulse : (s.axis i).pulse = none) (idle : s.get (STP_STAT.STATE i) = 0)
    (grp : m.grp = true) (apart : m.target ≠ Stp.pos s i) : ∃ t, exec (.stepGroupStart g) s = .next t ∧ t.launched i m r := by
  obtain ⟨t, ht, -⟩ := exec_next (.stepGroupStart g) s
  refine ⟨t, ht, ?_⟩
  replace ht : execStepGroupStart g s = .next t := ht
  have far : (m.target - Stp.pos s i).natAbs ≠ 0 := Int.natAbs_ne_zero.mpr (sub_ne_zero.mpr apart)
  unfold execStepGroupStart at ht
  extract_lets ms heads turns longest at ht
  have hms : ms = [i] := alone
  have hheads : heads = [(i, m, (m.target - Stp.pos s i).natAbs)] := by
    unfold heads
    rw [hms]
    simp [queue, rest, grp, idle]
  have hturns : heads.any (fun q => turns q && (s.axis q.1).pulse.isSome) = false := by
    rw [hheads]
    simp [pulse]
  have hlong : longest = (i, (m.target - Stp.pos s i).natAbs) := by
    unfold longest
    rw [hheads]
    simp only [List.foldl_cons, List.foldl_nil, Nat.pos_of_ne_zero far, if_true]
  have ready : ¬ (ms.isEmpty = true ∨ heads.length ≠ ms.length ∨ heads.any (fun q => turns q && (s.axis q.1).pulse.isSome) = true) := by
    rw [hturns, hms, hheads]
    simp
  rw [if_neg ready] at ht
  clear_value ms heads turns longest
  subst hms hheads hlong
  dsimp -zeta only at ht
  rw [if_neg far] at ht
  extract_lets v s1 start s2 w s3 iv at ht
  have one : s1.launched i m r := by
    unfold s1
    rw [List.foldl_cons, List.foldl_nil]
    dsimp only
    rw [if_neg far]
    refine ⟨?_, ?_, ?_, ?_⟩
    · rw [Stp.axis_shown, State.axis_put, State.axis_setAxis]
    · rw [Stp.axis_shown, State.axis_put, State.axis_setAxis]
      exact congrArg (List.drop 1) queue
    · rw [Stp.shown_get _ i (by simp), State.get_put_of_lt _ (by simp) (by simp)]
    · rw [Stp.shown_is _ i (by simp), State.is_put_ne _ (by simp), State.setAxis_is, State.is_put_zero _ (by simp)]
  have two : s2.launched i m r := by
    unfold s2
    rw [List.foldl_cons, List.foldl_nil]
    exact one.setAxis rfl rfl
  clear_value s1 s2 start v
  rw [← Host.Outcome.next.inj ht]
  exact (two.begin w).placeMembers 0 w iv

/-- A drive in quiet mode with a good bus sample is not strong and counts no bad sample. -/
theorem stepperDriveRun_quiet {i : Fin 16} {n : Fin 64} {s : State} (port : s.axisPort i = some n) (on : s.is (STP_CTRL.EN i) = true) (quiet : s.get (STP_CFG.MODE i) = 1)
    (ok : (sampleOk (s.rd (SDF_SAMPLE_A (fin 80 (64 + n.val / 8)))) && decide (0 < ofQ (getBits (s.rd (SDF_SAMPLE_A (fin 80 (64 + n.val / 8)))) 0 24))) = true) :
    ∃ t, exec (.stepperDriveRun i) s = .next t ∧ t.is (STP_STAT.STRONG i) = false ∧ t.rd (STP_BAD i) = s.rd (STP_BAD i) := by
  obtain ⟨t, ht, -⟩ := exec_next (.stepperDriveRun i) s
  refine ⟨t, ht, ?_⟩
  replace ht : execStepperDriveRun i s = .next t := ht
  unfold execStepperDriveRun at ht
  simp -zeta only [port, on, Bool.true_eq_false, if_false] at ht
  extract_lets a spd rel num m c cA cB frameEnd first s1 uq irun kappa mode was strong s2 p80 wa wb wv vdc good bad w0 kp ki duty xa xb s3 w at ht
  have calm : mode = 1 := by
    unfold mode s1
    split
    · exact (State.get_put_ne _ (by simp) _).trans quiet
    · exact quiet
  have weak : strong = false := if_pos calm
  have one : s1.rd (STP_BAD i) = s.rd (STP_BAD i) ∧ s1.rd (SDF_SAMPLE_A (fin 80 (64 + n.val / 8))) = s.rd (SDF_SAMPLE_A (fin 80 (64 + n.val / 8))) := by
    unfold s1
    split
    · exact ⟨State.rd_put_ne _ _ (by simp), State.rd_put_ne _ _ (by simp)⟩
    · exact ⟨rfl, rfl⟩
  have sample : wv = s.rd (SDF_SAMPLE_A (fin 80 (64 + n.val / 8))) := (State.rd_put_ne _ _ (by simp)).trans one.2
  have fine : good = true := by
    unfold good vdc
    rw [if_neg (by rw [weak]; decide), sample]
    exact ok
  rw [if_neg (by rw [fine]; decide)] at ht
  have drives : s3.is (STP_STAT.STRONG i) = false ∧ s3.rd (STP_BAD i) = s.rd (STP_BAD i) := by
    refine ⟨?_, (State.setAxis_rd _ _ _ _).trans ((State.rd_put_ne _ _ (by simp)).trans one.1)⟩
    unfold s3 s2
    rw [State.setAxis_is, State.is_putB _ _ _ (by simp) (by simp), weak]
  clear_value s3 w
  rw [← Host.Outcome.next.inj ht]
  generalize hv : List.foldl _ s3 _ = v
  have edges : s3.sameBut [.reg .port, .ports] v := by
    rw [← hv]
    refine State.sameBut_foldl (fun u pl => State.sameBut_of_op fun _ _ hu kf => State.commitEw_framed (framed_foldl (fun _ _ hx => ?_) hu) kf) _ _
    exact State.wr_framed (State.wr_framed hx (kf.get rfl)) (kf.get rfl)
  exact ⟨(edges.is _ (by simp [Reg.group])).trans drives.1, (edges.rd _ (by simp [Reg.group])).trans drives.2⟩

/-- Settles O27. -/
theorem stepAxesComplete : Obligations.StepAxesComplete := by
  refine ⟨fun i s off state ok fine => ?_, fun i s => ?_, fun i on s allowed => ?_, fun i x s moving free due => ?_, fun i s free => ?_, fun i s halted fine on => ?_,
    fun i v s push plain room moving none_ => ?_, fun i v s push plain full => ?_, fun i hi s idle => ?_, fun i hi s busy => ?_, fun i v s => rfl, fun i v s off => ?_,
    fun i v s off wide => ?_, fun i k v s off => ?_, fun i r v s on => ?_, fun i x s due => ?_, fun i at_ s pulse due => ?_, fun i at_ s wait => ?_,
    fun g i m r s alone queue rest pulse idle grp apart => ?_, fun i n s port on mode good => ?_, fun i s on rest => ?_⟩
  · unfold exec execStpEn
    simp only [off, ok, fine, state, beq_iff_eq, if_true, if_false, Bool.false_eq_true]
    rfl
  · obtain ⟨t, ht, -⟩ := exec_next (.stpEn i false) s
    refine ⟨t, ht, ?_⟩
    replace ht : execStpEn i false s = .next t := ht
    unfold execStpEn at ht
    extract_lets a halted w src u v at ht
    rw [if_neg (by decide)] at ht
    have still : u.axis i = { a.atRest s.now with queue := [] } := State.axis_setAxis _ _ _
    have stopped : v.axis i = { a.atRest s.now with queue := [] } := by
      unfold v
      split
      · rw [State.axis_stopGroup _ (congrArg StepAxis.group still) (by simp), still]
      · exact still
    clear_value u v
    cases ht
    refine ⟨?_, ?_, ?_, ?_⟩
    · rw [State.is_of_rd (Stp.shown_rd _ i (by simp)), State.is_put_ne _ (by simp), State.is_wr_ne _ _ (by simp), State.is_put_ne _ (by simp),
        State.is_put_zero _ (by simp)]
    · rw [Stp.shown_get _ i (by simp), State.get_put_ne _ (by simp), State.get_wr_ne _ _ (by simp), State.get_put_of_lt _ (by simp) (by split <;> simp)]
      simp only [halted, beq_iff_eq]
    · rw [Stp.shown_rd _ i (by simp), State.rd_put_ne _ _ (by simp), State.rd_wr_same]
    · rw [Stp.axis_shown, State.axis_put, State.axis_wr, State.axis_put, State.axis_put, stopped]
      exact ⟨rfl, rfl, rfl, rfl⟩
  · unfold exec execStpPinArm
    have serves : ¬ (on = true ∧ s.is PIN_REL.STEP = false ∧ s.is (STP_CTRL.PIN_ARM i) = false) := by
      rintro ⟨rfl, held, -⟩
      rcases allowed with h | h
      · exact absurd (h.symm.trans held) (by decide)
      · exact absurd h (by decide)
    simp only [serves, if_false]
  · obtain ⟨m, cur⟩ := Option.isSome_iff_exists.mp moving
    unfold exec execStpStop
    have late : (s.axis i).due.isNone = false := congrArg Option.isNone due
    have going : (s.axis i).cur.isNone = false := congrArg Option.isNone cur
    simp only [going, free, late, Bool.false_eq_true, if_false]
    refine ⟨_, rfl, ?_, ?_, ?_, ?_⟩
    · rw [Stp.axis_shown, State.axis_put, State.axis_setAxis]
    · rw [Stp.axis_shown, State.axis_put, State.axis_setAxis]
    · rw [Stp.axis_shown, State.axis_put, State.axis_setAxis]
      exact due
    · rw [Stp.shown_get _ i (by simp), State.get_put_of_lt _ (by simp) (by simp)]
  · unfold exec execStpAbort
    simp only [free]
    refine ⟨_, rfl, ?_, ?_, ?_, ?_, ?_⟩
    · rw [Stp.axis_shown, State.axis_put, State.axis_wr, State.axis_put, State.axis_setAxis]
    · rw [Stp.axis_shown, State.axis_put, State.axis_wr, State.axis_put, State.axis_setAxis]
      rfl
    · rw [Stp.axis_shown, State.axis_put, State.axis_wr, State.axis_put, State.axis_setAxis]
      rfl
    · rw [Stp.shown_rd _ i (by simp), State.rd_put_ne _ _ (by simp), State.rd_wr_same]
    · rw [Stp.shown_get _ i (by simp), State.get_put_of_lt _ (by simp) (by split <;> simp)]
  · unfold exec execStpClr
    have en : ((s.put (STP_STAT.STATE i) 0).put (STP_STAT.POS_DOUBT i) 0).is (STP_CTRL.EN i) = true := by
      rw [State.is_put_ne _ (by simp), State.is_put_ne _ (by simp), on]
    simp only [halted, fine, en, and_self, if_true, State.axis_put]
    rfl
  · obtain ⟨m, cur⟩ := Option.isSome_iff_exists.mp moving
    have going : (s.axis i).cur.isNone = false := congrArg Option.isNone cur
    unfold exec execStepMovePush
    simp only [push, plain, Nat.not_le.mpr room, none_, cur, Bool.true_eq_false, Bool.false_eq_true, not_false_iff, Option.isNone_some, and_false, Bool.and_false, if_false]
    refine ⟨_, rfl, ?_, ?_, ?_⟩
    · rw [Stp.axis_shown, State.axis_setAxis]
      dsimp only
      rw [List.map_tail, map_withVe _ fun _ _ => rfl, List.map_cons, List.tail_cons, List.map_append]
      rfl
    · rw [Stp.axis_shown, State.axis_setAxis]
    · rw [Stp.axis_shown, State.axis_setAxis]
  · unfold exec execStepMovePush
    simp only [push, plain, full, Bool.true_eq_false, Bool.false_eq_true, not_false_iff, and_self, if_false, if_true]
  · unfold exec execStepPreset
    simp only [State.get_wr_ne _ _ (show (STP_STAT.STATE i).reg ≠ STP_SET_HI i by simp), idle, if_true, State.rd_wr_ne _ _ (show STP_SET_LO i ≠ STP_SET_HI i by simp)]
  · unfold exec execStepPreset
    simp only [State.get_wr_ne _ _ (show (STP_STAT.STATE i).reg ≠ STP_SET_HI i by simp), busy, if_false]
  · unfold exec execStepCfgWrite
    simp only [off, Bool.false_eq_true, if_false]
  · unfold exec execStepCfgWrite
    simp only [off, Bool.false_eq_true, if_false, Nat.not_lt.mpr wide]
  · unfold exec execStepCfgWrite
    simp only [off, Bool.false_eq_true, if_false]
  · unfold exec execStepCfgWrite
    simp only [on, if_true]
  · unfold exec execStepDue
    simp only [due]
  · obtain ⟨x, hx⟩ := Option.isSome_iff_exists.mp due
    unfold exec execStepPulseEnd
    have ahead : ((s.advance at_).axis i).due.isNone = false := congrArg Option.isNone hx
    simp only [pulse, ahead, Bool.false_eq_true, and_false, if_false]
    refine ⟨_, rfl, rfl, State.axis_setAxis _ i _, ?_⟩
    exact State.sameBut_of_op fun _ _ hs kf => State.setAxis_framed (State.advance_framed hs (kf.sub rfl)) (kf.sub rfl)
  · unfold exec execStepDsetupExpiry
    simp only [wait]
    rfl
  · exact stepGroupStart_alone alone queue rest pulse idle grp apart
  · exact stepperDriveRun_quiet port on mode good
  · unfold exec execStepHoldCurrent
    simp only [on, rest, and_self, if_true]

end Sys2Proof.Machine

/-! Kilns: what a context keeps, and the commands of a Kiln (07 R251 to R275). -/

namespace Sys2Proof.Machine

open Sys2Proof

section
variable {s t : State} {k j : Fin 2} {c d : Fin 16}

theorem State.kctx_setKctx (s : State) (k : Fin 2) (c : Fin 16) (x : KContext) : (s.setKctx k c x).kctx k c = x := tget_tset_same _ _ _ _

theorem State.kctx_setKctx_ne (s : State) (x : KContext) (h : ¬ (k = j ∧ c = d)) : (s.setKctx j d x).kctx k c = s.kctx k c :=
  tget_tset_ne _ _ _ fun e => h ⟨congrArg Prod.fst e, congrArg Prod.snd e⟩

theorem State.kctx_of_kiln (h : t.kiln = s.kiln) (k : Fin 2) (c : Fin 16) : t.kctx k c = s.kctx k c :=
  congrArg (fun l : List ((Fin 2 × Fin 16) × KContext) => tget l (k, c) {}) h

theorem State.sameBut.kctx {l : List Part} (h : s.sameBut l t) (out : .kiln ∉ l) (k : Fin 2) (c : Fin 16) : t.kctx k c = s.kctx k c :=
  State.kctx_of_kiln (h .kiln out).symm k c

theorem State.kctx_put (s : State) (f : Field) (v : Nat) (k : Fin 2) (c : Fin 16) : (s.put f v).kctx k c = s.kctx k c :=
  State.kctx_of_kiln (State.put_kiln s f v) k c

theorem State.kctx_putB (s : State) (f : Field) (v : Bool) (k : Fin 2) (c : Fin 16) : (s.putB f v).kctx k c = s.kctx k c :=
  State.kctx_of_kiln (State.putB_kiln s f v) k c

theorem State.kctx_flag (s : State) (f : Field) (k : Fin 2) (c : Fin 16) : (s.flag f).kctx k c = s.kctx k c :=
  State.kctx_of_kiln (State.flag_kiln s f) k c

theorem State.showPhase_sameBut (s : State) (k : Fin 2) (c : Fin 16) : s.sameBut [.reg .kn] (s.showPhase k c) :=
  State.sameBut_of_op fun _ _ => State.showPhase_framed

theorem State.kilnDone_sameBut (s : State) (k : Fin 2) (task : Option (Fin 4096)) (last : Nat) : s.sameBut [.reg .stk, .stk, .ic] (s.kilnDone k task last) :=
  State.sameBut_of_op fun _ _ => State.kilnDone_framed

theorem State.kWriteAll_sameBut (s : State) (k : Fin 2) (c : Fin 16) (res o : Nat) (bs : List Byte) : s.sameBut [.mem, .pc] (s.kWriteAll k c res o bs) :=
  State.sameBut_of_op fun _ _ => State.kWriteAll_framed

theorem State.kctx_showPhase (s : State) (k : Fin 2) (c : Fin 16) (j : Fin 2) (d : Fin 16) : (s.showPhase k c).kctx j d = s.kctx j d :=
  (s.showPhase_sameBut k c).kctx (by decide) j d

theorem State.kctx_kilnDone (s : State) (k : Fin 2) (task : Option (Fin 4096)) (last : Nat) (j : Fin 2) (d : Fin 16) :
    (s.kilnDone k task last).kctx j d = s.kctx j d := (s.kilnDone_sameBut k task last).kctx (by decide) j d

theorem State.enabled_kilnDone (s : State) (k : Fin 2) (task : Option (Fin 4096)) (last : Nat) (j : Fin 2) :
    (s.kilnDone k task last).is (KN_CTRL.EN j) = s.is (KN_CTRL.EN j) := (s.kilnDone_sameBut k task last).is _ (by simp [Reg.group])

/-- The phase shown lies in KC_STAT alone. -/
theorem State.showPhase_rd {r : Reg} (s : State) (h : r ≠ KC_STAT k c) : (s.showPhase k c).rd r = s.rd r := by
  unfold State.showPhase
  exact (State.rd_put_ne _ _ h).trans (State.rd_put_ne _ _ h)

theorem State.showPhase_deadline (s : State) (k : Fin 2) (c : Fin 16) : (s.showPhase k c).is (KC_STAT.DEADLINE k c) = s.is (KC_STAT.DEADLINE k c) := by
  unfold State.showPhase
  rw [State.is_putB_ne _ (by simp), State.is_put_ne _ (by simp)]

/-- Handing a result over keeps device time, and of the context all but the result held or published. -/
theorem State.deliver_kept (s : State) (k : Fin 2) (c : Fin 16) (r : KResult) :
    (s.deliver k c r).now = s.now ∧ ((s.deliver k c r).kctx k c).running = (s.kctx k c).running
      ∧ (c = 0 → ((s.deliver k c r).kctx k c).held = some r) ∧ (c ≠ 0 → ((s.deliver k c r).kctx k c).pub = some r) := by
  unfold State.deliver
  split
  · next first =>
    dsimp only
    rw [← (State.showPhase_sameBut _ k c) .now (by decide), State.kctx_showPhase, State.kctx_setKctx]
    exact ⟨((s.kWriteAll_sameBut k c _ _ _) .now (by decide)).symm, rfl, fun _ => rfl, fun h => absurd first h⟩
  · next later =>
    rw [← (State.showPhase_sameBut _ k c) .now (by decide), State.kctx_showPhase]
    have published : ((s.publish k c r).kctx k c).running = (s.kctx k c).running ∧ ((s.publish k c r).kctx k c).pub = some r := by
      unfold State.publish
      extract_lets x h newer wrote set shown
      have ctx : shown.kctx k c = { x with pub := some r, half := h, pubAt := some wrote.now } :=
        (State.kctx_putB _ _ _ k c).trans ((State.kctx_of_kiln (State.wr_kiln _ _ _) k c).trans (State.kctx_setKctx _ k c _))
      split
      · rw [State.kctx_of_kiln (State.bump_kiln _ _), State.kctx_flag, ctx]
        exact ⟨rfl, rfl⟩
      · rw [State.kctx_put, ctx]
        exact ⟨rfl, rfl⟩
    exact ⟨((State.sameBut_of_op (l := [.reg .kn, .mem, .kiln, .pc]) fun _ _ => State.publish_framed) .now (by decide)).symm, published.1,
      fun h => absurd h later, fun _ => published.2⟩

theorem KContext.reuseFor_seq (x : KContext) (q : KRequest) (flags iter cycles : Nat) : (x.reuseFor q flags iter cycles).seq = q.prob.seq := by
  unfold KContext.reuseFor KContext.reuse
  split <;> rfl

/-- The end of a run: the context runs nothing, and its result has the request's number. -/
theorem State.kEnd_done (s : State) (k : Fin 2) (c : Fin 16) (r : KRun) (hr : (s.kctx k c).running = some r) :
    (s.kEnd k c).now = s.now ∧ ((s.kEnd k c).kctx k c).running = none
      ∧ (c = 0 → ((s.kEnd k c).kctx k c).held.map KResult.seq = some r.req.prob.seq)
      ∧ (c ≠ 0 → ((s.kEnd k c).kctx k c).pub.map KResult.seq = some r.req.prob.seq) := by
  unfold State.kEnd
  extract_lets x
  rw [show x.running = some r from hr]
  dsimp -zeta only
  extract_lets p o cyc valid fl s1 s2 s3 s4 s5 s6 s7 s8 res
  have ctx : (s8.kctx k c).running = none := by
    rw [State.kctx_setKctx]
  have now : s8.now = s.now := by
    have n3 : s3.now = s.now := rfl
    have n4 : s4.now = s3.now := by unfold s4; split <;> rfl
    have n5 : s5.now = s4.now := by unfold s5; split <;> rfl
    have n6 : s6.now = s5.now := by unfold s6; split <;> rfl
    have n7 : s7.now = s6.now := by unfold s7; split <;> rfl
    exact n7.trans (n6.trans (n5.trans (n4.trans n3)))
  have seq : (if valid then res else { x.reuseFor r.req fl o.it cyc with small := o.small, zero := o.zero }).seq = p.seq := by
    split
    · rfl
    · exact KContext.reuseFor_seq x r.req fl o.it cyc
  clear_value s8
  obtain ⟨time, runs, held, pub⟩ := s8.deliver_kept k c (if valid then res else { x.reuseFor r.req fl o.it cyc with small := o.small, zero := o.zero })
  rw [← (State.kilnDone_sameBut _ k _ 0) .now (by decide), State.kctx_kilnDone]
  exact ⟨time.trans now, runs.trans ctx, fun h => by rw [held h]; exact congrArg some seq, fun h => by rw [pub h]; exact congrArg some seq⟩

/-- Over the contexts of a Kiln, each written once: each has what it was given. -/
theorem State.kctx_foldl {P : KContext → KContext → Prop} {f : State → Fin 16 → State}
    (own : ∀ (u : State) (d : Fin 16), P (u.kctx k d) ((f u d).kctx k d))
    (other : ∀ (u : State) (d : Fin 16) (j : Fin 2) (c : Fin 16), ¬ (j = k ∧ c = d) → (f u d).kctx j c = u.kctx j c) (s : State) (l : List (Fin 16)) (nodup : l.Nodup) :
    (∀ c ∈ l, P (s.kctx k c) ((l.foldl f s).kctx k c)) ∧ (∀ j c, ¬ (j = k ∧ c ∈ l) → (l.foldl f s).kctx j c = s.kctx j c) := by
  induction l generalizing s with
  | nil => exact ⟨fun c h => absurd h List.not_mem_nil, fun _ _ _ => rfl⟩
  | cons d l ih =>
    obtain ⟨fresh, rest⟩ := List.nodup_cons.mp nodup
    obtain ⟨mine, kept⟩ := ih (f s d) rest
    refine ⟨fun c hc => ?_, fun j c hjc => ?_⟩
    · rcases List.mem_cons.mp hc with rfl | hc
      · rw [List.foldl_cons, kept k c fun h => fresh h.2]
        exact own s c
      · have ne : ¬ (k = k ∧ c = d) := fun h => fresh (h.2 ▸ hc)
        have := mine c hc
        rwa [other s d k c ne] at this
    · rw [List.foldl_cons, kept j c fun h => hjc ⟨h.1, List.mem_cons_of_mem _ h.2⟩]
      exact other s d j c fun h => hjc ⟨h.1, h.2 ▸ List.mem_cons_self⟩

end

theorem finList_nodup (n : Nat) : (finList n).Nodup := List.nodup_finRange n

theorem mem_finList {n : Nat} (c : Fin n) : c ∈ finList n := List.mem_finRange c

/-- The first of all numbers that meets a condition. -/
theorem find_finList {n : Nat} {p : Fin n → Bool} {c : Fin n} (hc : p c = true) (least : ∀ d, d < c → p d = false) : (finList n).find? p = some c := by
  rw [List.find?_eq_some_iff_getElem]
  refine ⟨hc, c.val, by simp [finList], by simp [finList], fun i hi => ?_⟩
  simp only [finList, List.getElem_finRange, Bool.not_eq_true']
  exact least _ hi

/-- The other of two. -/
theorem other_plane : ∀ k : Fin 2, 1 - k ≠ k := by decide

/-- Settles O28: the solve, its end and its deadline by the rules of their steps, enabling and flushing over the sixteen contexts. -/
theorem kilnCommandsComplete : Obligations.KilnCommandsComplete := by
  unfold Obligations.KilnCommandsComplete
  refine ⟨?_, ?_, ?_, ?_, ?_, ?_, ?_, ?_, ?_⟩
  · intro n s kind state enabled
    show execKilnRequest n s = _
    unfold execKilnRequest
    simp only [kind, state, enabled, ne_eq, not_true_eq_false, Bool.true_eq_false, or_self, if_false]
  · intro k c r s enabled idle room later least queued early
    show ∃ t, execKilnSolveStart k s = .next t ∧ _
    have starts : ¬ (s.planActive = true ∧ s.nextTick ≤ s.now + s.kcBound k c * nsUnits) := by
      rintro ⟨active, late⟩
      rcases room with h | h
      · simp [h] at active
      · exact Nat.not_lt.mpr late h
    refine ⟨s.kStart k c, ?_, ?_⟩
    · unfold execKilnSolveStart
      simp only [enabled, idle, Bool.true_eq_false, Bool.false_eq_true, or_self, if_false]
      rw [find_finList (c := c)]
      · exact congrArg Host.Outcome.next (if_neg starts)
      · simp [later, queued, early]
      · intro d hd
        by_cases h : d = 0
        · simp [h]
        · simp [least d hd h]
    · unfold State.kStart
      extract_lets x s1
      rw [show x.queued = some r from queued]
      dsimp -zeta only
      extract_lets p sg differs warm s2 s3 s4 s5
      have solves2 : s2.rd (KN_SOLVES k) = s.rd (KN_SOLVES k) := by
        have h1 : s1.rd (KN_SOLVES k) = s.rd (KN_SOLVES k) := State.rd_wr_ne _ _ (by simp)
        unfold s2
        split
        · exact (State.rd_bump_ne _ (by simp)).trans ((State.rd_flag_ne _ (by simp)).trans h1)
        · exact h1
      have solves5 : s5.rd (KN_SOLVES k) = s.rd (KN_SOLVES k) := by
        unfold s5 s4
        rw [State.rd_wr_ne _ _ (by simp), State.rd_wr_ne _ _ (by simp), State.rd_put_ne _ _ (by simp), State.rd_put_ne _ _ (by simp), State.rd_put_ne _ _ (by simp),
          State.rd_put_ne _ _ (by simp)]
        exact solves2
      have ctx5 : s5.kctx k c = s3.kctx k c := by
        unfold s5 s4
        rw [State.kctx_of_kiln (State.wr_kiln _ _ _), State.kctx_of_kiln (State.wr_kiln _ _ _), State.kctx_put, State.kctx_put, State.kctx_put, State.kctx_put]
      have ctx3 : s3.kctx k c = _ := State.kctx_setKctx _ k c _
      rw [State.kctx_showPhase, State.kctx_of_kiln (State.count_kiln _ _), State.kctx_put, ctx5, ctx3]
      refine ⟨?_, rfl, rfl, ?_⟩
      · rw [State.get_of_rd (State.showPhase_rd _ (by simp)), State.get_count_ne _ (by simp), State.get_put_of_lt _ (by simp) c.isLt]
      · rw [State.showPhase_rd _ (by simp), State.rd_count, State.rd_put_ne _ _ (by simp), solves5]
  · intro k c r at_ s running hr done late
    show ∃ t, execKilnSolveDone k s = .next t ∧ _
    refine ⟨(s.advance at_).kEnd k c, ?_, (s.advance at_).kEnd_done k c r hr⟩
    unfold execKilnSolveDone
    simp only [running, hr, done, late, Option.map_some]
  · intro k c l s running late
    show execKilnSolveDone k s = _
    unfold execKilnSolveDone
    simp only [running, late]
  · intro k c r s running queued first inTime
    show ∃ t, execKilnDeadline k c s = .next t ∧ _
    have none_ : (if c = 0 then none else (s.kctx k c).queued) = none := by
      rcases queued with h | h
      · rw [h, ite_self]
      · rw [if_pos h]
    refine ⟨s.kStop k c r, ?_, ?_⟩
    · unfold execKilnDeadline
      simp only [running, none_, first, inTime, Option.isSome_none, Bool.or_self, Bool.false_eq_true, if_false]
    · unfold State.kStop
      dsimp only
      rw [State.kctx_flag, State.kctx_setKctx]
      exact ⟨rfl, rfl, State.is_flag _ _ (by simp) (by simp)⟩
  · intro k c r s later running queued
    show ∃ t, execKilnDeadline k c s = .next t ∧ _
    refine ⟨s.kExpire k c r, ?_, ?_⟩
    · unfold execKilnDeadline
      simp only [running, if_neg later, queued]
    · unfold State.kExpire
      dsimp -zeta only
      extract_lets s1 x len n at_ s2
      rw [State.kctx_showPhase, State.kctx_flag, State.kctx_setKctx, State.showPhase_deadline, ← (State.showPhase_sameBut _ k c) .now (by decide)]
      exact ⟨rfl, rfl, rfl, congrArg some (KContext.reuseFor_seq _ _ _ _ _), State.is_flag _ _ (by simp) (by simp)⟩
  · intro k s
    rfl
  · intro k s
    show ∃ t, execKilnEnWrite k false s = .next t ∧ _
    unfold execKilnEnWrite
    simp only [Bool.false_eq_true, if_false]
    refine ⟨_, rfl, ?_, fun c => ?_⟩
    · refine List.foldlRecOn (motive := fun u : State => u.is (KN_CTRL.EN k) = false) _ _ (State.is_putB _ _ _ (by simp) (by simp)) fun u hu c _ => ?_
      rw [State.enabled_kilnDone, State.enabled_kilnDone, State.enabled_kilnDone, State.is_of_rd (State.showPhase_rd _ (by simp))]
      exact hu
    · refine (State.kctx_foldl (P := fun _ y => y.queued = none ∧ y.running = none ∧ y.held = none ∧ y.late = none) (fun u d => ?_) (fun u d j c h => ?_) _ _
        (finList_nodup 16)).1 c (mem_finList c)
      · rw [State.kctx_kilnDone, State.kctx_kilnDone, State.kctx_kilnDone, State.kctx_showPhase, State.kctx_setKctx]
        exact ⟨rfl, rfl, rfl, rfl⟩
      · rw [State.kctx_kilnDone, State.kctx_kilnDone, State.kctx_kilnDone, State.kctx_showPhase, State.kctx_setKctx_ne _ _ h]
  · intro k s
    show ∃ t, execKilnFlush k s = .next t ∧ _
    have each := State.kctx_foldl (k := k) (P := fun x y => y = { x with warm := false })
      (f := fun u d => (u.setKctx k d { u.kctx k d with warm := false }).showPhase k d)
      (fun u d => by rw [State.kctx_showPhase, State.kctx_setKctx]) (fun u d j c h => by rw [State.kctx_showPhase, State.kctx_setKctx_ne _ _ h]) s _ (finList_nodup 16)
    exact ⟨_, rfl, fun c => each.1 c (mem_finList c), fun c => each.2 (1 - k) c fun h => other_plane k h.1⟩

end Sys2Proof.Machine

/-! Tiles outside the plain issue of an instruction: task ends, interrupts, outside accesses, delay slots and repeats (R281 to R314). -/

namespace Sys2Proof.Machine

open Sys2Proof

section
variable {s : State} {i : Fin 32} {n : Fin 4096}

/-- A queued write reaches registers alone: not the place in the program, the repeat or the task. -/
theorem Tile.put_moved (x : Tile) (w : EWrite) (p : Nat) (r : Option Nat) :
    Tile.put { x with pc := p, rep := r } w = { x.put w with pc := p, rep := r } := by
  cases w
  case ctl m v =>
    dsimp only [Tile.put, Tile.putCtl]
    repeat' split
    all_goals rfl
  case acc m k sat =>
    by_cases h : (narrow 56 sat (BitVec.toInt (tget x.a m 0) + k)).2 = true
    · simp only [Tile.put, Tile.ra, h, if_true, Tile.srBit]
    · simp only [Tile.put, Tile.ra, h, Bool.false_eq_true, if_false]
  all_goals rfl

theorem Tile.put_kept (x : Tile) (w : EWrite) : (x.put w).task = x.task ∧ (x.put w).br = x.br ∧ (x.put w).wait = x.wait ∧ (x.put w).ends = x.ends
    ∧ (x.put w).slot = x.slot ∧ (x.put w).pc = x.pc := by
  cases w
  case ctl m v =>
    dsimp only [Tile.put, Tile.putCtl]
    repeat' split
    all_goals exact ⟨rfl, rfl, rfl, rfl, rfl, rfl⟩
  case acc m k sat =>
    dsimp only [Tile.put]
    split <;> exact ⟨rfl, rfl, rfl, rfl, rfl, rfl⟩
  all_goals exact ⟨rfl, rfl, rfl, rfl, rfl, rfl⟩

theorem Tile.apply_kept (x : Tile) (c : Nat) : (x.apply c).task = x.task ∧ (x.apply c).br = x.br ∧ (x.apply c).wait = x.wait ∧ (x.apply c).ends = x.ends
    ∧ (x.apply c).slot = x.slot ∧ (x.apply c).pc = x.pc := by
  unfold Tile.apply
  refine List.foldlRecOn (motive := fun y : Tile => y.task = x.task ∧ y.br = x.br ∧ y.wait = x.wait ∧ y.ends = x.ends ∧ y.slot = x.slot ∧ y.pc = x.pc) _ _
    ⟨rfl, rfl, rfl, rfl, rfl, rfl⟩ fun y ⟨task, br, wait, ends, slot, pc⟩ w _ => ?_
  obtain ⟨task', br', wait', ends', slot', pc'⟩ := y.put_kept w.2
  exact ⟨task'.trans task, br'.trans br, wait'.trans wait, ends'.trans ends, slot'.trans slot, pc'.trans pc⟩

theorem Tile.apply_moved (x : Tile) (c p : Nat) (r : Option Nat) : Tile.apply { x with pc := p, rep := r } c = { x.apply c with pc := p, rep := r } := by
  have each : ∀ (l : List (Nat × EWrite)) (y : Tile), l.foldl (fun x q => x.put q.2) { y with pc := p, rep := r }
      = { l.foldl (fun x q => x.put q.2) y with pc := p, rep := r } := fun l => by
    induction l with
    | nil => exact fun _ => rfl
    | cons q l ih =>
      intro y
      rw [List.foldl_cons, List.foldl_cons, Tile.put_moved]
      exact ih (y.put q.2)
  exact each _ { x with pend := x.pend.filter (fun q => c < q.1) }

/-- A cycle of the pipeline does not depend on the place in the program. -/
theorem Tile.tick_moved (x : Tile) (p : Nat) (r : Option Nat) : Tile.tick { x with pc := p, rep := r } = { x.tick with pc := p, rep := r } :=
  Tile.apply_moved { x with cyc := x.cyc + 1, tcyc := x.tcyc + 1 } (x.cyc + 1) p r

theorem Tile.tick_kept (x : Tile) : x.tick.task = x.task ∧ x.tick.br = x.br ∧ x.tick.wait = x.wait ∧ x.tick.ends = x.ends ∧ x.tick.slot = x.slot
    ∧ x.tick.pc = x.pc := Tile.apply_kept _ _

theorem Tile.flush_kept (x : Tile) : x.flush.task = x.task ∧ x.flush.br = x.br ∧ x.flush.ends = x.ends ∧ x.flush.slot = x.slot := by
  obtain ⟨task, br, -, ends, slot, -⟩ := x.apply_kept (x.cyc + 1)
  obtain ⟨task', br', -, ends', slot', -⟩ := (x.apply (x.cyc + 1)).apply_kept (x.cyc + 2)
  obtain ⟨task'', br'', -, ends'', slot'', -⟩ := ((x.apply (x.cyc + 1)).apply (x.cyc + 2)).apply_kept (x.cyc + 3)
  unfold Tile.flush
  dsimp only
  rw [task'', task', task, br'', br', br, ends'', ends', ends, slot'', slot', slot]
  exact ⟨rfl, rfl, rfl, rfl⟩

theorem State.tile_of_tiles {t : State} (h : t.tiles = s.tiles) (i : Fin 32) : t.tile i = s.tile i := by
  unfold State.tile
  rw [h]

theorem State.sameBut.tile {t : State} {l : List Part} (h : s.sameBut l t) (out : .tiles ∉ l) (i : Fin 32) : t.tile i = s.tile i :=
  State.tile_of_tiles (h .tiles out).symm i

/-- A delivery returned is taken from its tile, and changes nothing else of a tile. -/
theorem State.tile_returnDelivery (s : State) (i j : Fin 32) : (s.returnDelivery i).tile j = if j = i then { s.tile i with req := none } else s.tile j := by
  have none_ : (s.tile i).req = none → s.tile j = if j = i then { s.tile i with req := none } else s.tile j := fun h => by
    split
    · next e => rw [e, ← h]
    · rfl
  have some_ : ∀ u : State, u.tiles = (s.setTile i { s.tile i with req := none }).tiles → u.tile j = if j = i then { s.tile i with req := none } else s.tile j :=
    fun u hu => by
      rw [State.tile_of_tiles hu]
      split
      · next e => rw [e, State.tile_setTile]
      · next e => exact State.tile_setTile_ne _ _ e
  unfold State.returnDelivery
  split
  · next h => exact none_ h
  · dsimp only
    split
    · exact some_ _ ((State.sameBut_of_op (l := [.reg .ic, .ic]) fun _ _ => State.icFree_framed) .tiles (by decide)).symm
    · exact some_ _ rfl

/-- The link of a call under way is all that the end of a run adds. -/
theorem State.linked_kept (s : State) (i : Fin 32) (x : Tile) : (s.linked i x).task = x.task ∧ (s.linked i x).ends = x.ends ∧ (s.linked i x).slot = x.slot := by
  unfold State.linked
  repeat' split
  all_goals exact ⟨rfl, rfl, rfl⟩

/-- The end of the run of a task that no access holds. -/
theorem State.endRun_ends {k : EndKind} (task : (s.tile i).task = some n) (wait : (s.tile i).wait = none) (told : k ≠ .budget) :
    ((s.endRun i k).tile i).task = none ∧ ((s.endRun i k).tile i).ends = (s.tile i).flush.ends ++ [(n, k)] ∧ ((s.endRun i k).tile i).slot = (s.tile i).slot
      ∧ ∀ j, j ≠ i → (s.endRun i k).tile j = s.tile j := by
  obtain ⟨ftask, -, -, fslot⟩ := (s.tile i).flush_kept
  obtain ⟨ltask, lends, lslot⟩ := s.linked_kept i (s.tile i).flush
  unfold State.endRun
  dsimp only
  rw [ltask.trans (ftask.trans task), wait]
  dsimp only
  refine ⟨?_, ?_, ?_, fun j hj => ?_⟩
  · rw [State.tile_returnDelivery, if_pos rfl, State.tile_setTile]
  · rw [State.tile_returnDelivery, if_pos rfl, State.tile_setTile]
    dsimp only
    rw [if_neg told, lends]
  · rw [State.tile_returnDelivery, if_pos rfl, State.tile_setTile]
    exact lslot.trans fslot
  · rw [State.tile_returnDelivery, if_neg hj, State.tile_setTile_ne _ _ hj]

/-- The end of a task by its own instruction, where none is prefetched. -/
theorem State.taskEnd_ends (task : (s.tile i).task = some n) (wait : (s.tile i).wait = none) (slot : (s.tile i).slot = none) :
    ((s.taskEnd i).tile i).task = none ∧ ((s.taskEnd i).tile i).ends = (s.tile i).ends ++ [(n, .tend)] ∧ ∀ j, j ≠ i → (s.taskEnd i).tile j = s.tile j := by
  obtain ⟨ktask, -, kwait, kends, kslot, -⟩ := (s.tile i).tick_kept
  have tile : (s.ticks i 1).tile i = (s.tile i).tick := State.tile_setTile _ _ _
  obtain ⟨ended, told, left, others⟩ := State.endRun_ends (s := s.ticks i 1) (i := i) (n := n) (k := .tend) (by rw [tile, ktask, task]) (by rw [tile, kwait, wait])
    (by decide)
  have ends : (s.tile i).tick.flush.ends = (s.tile i).ends := (s.tile i).tick.flush_kept.2.2.1.trans kends
  have same : s.taskEnd i = (s.ticks i 1).endRun i .tend := by
    unfold State.taskEnd
    dsimp only
    rw [left, tile, kslot, slot]
  rw [same]
  refine ⟨ended, ?_, fun j hj => (others j hj).trans (State.tile_setTile_ne _ _ hj)⟩
  rw [told, tile, ends]

/-- An instruction with nothing against it passes its gate. -/
theorem State.gate_passes {mx forb : Bool} {size : Nat} (task : (s.tile i).task.isSome = true) (wait : (s.tile i).wait = none)
    (mode : (s.tile i).mxMode = mx) (fetch : (s.tile i).fetchFault size = none) (place : (forb && ((s.tile i).br.isSome || (s.tile i).rep.isSome)) = false)
    (f : State → State) : s.gate i mx forb size f = f s := by
  obtain ⟨n, hn⟩ := Option.isSome_iff_exists.mp task
  unfold State.gate
  simp only [hn, wait, fetch, mode, place, ne_eq, not_true_eq_false, if_false, Bool.false_eq_true]

theorem State.gate_of_canIssue {mx forb : Bool} {size : Nat} (h : s.canIssue i mx size) (f : State → State) : s.gate i mx forb size f = f s := by
  obtain ⟨task, wait, mode, fetch, br, rep⟩ := h
  exact State.gate_passes task wait mode fetch (by simp [br, rep]) f

end

/-- Settles O29: task ends and faults by the end of a run, the others by their own steps. -/
theorem taskEndsAndTileEventsComplete : Obligations.TaskEndsAndTileEventsComplete := by
  unfold Obligations.TaskEndsAndTileEventsComplete
  refine ⟨?_, ?_, ?_, ?_, ?_, ?_, ?_⟩
  · intro i n s ready task slot
    exact ⟨s.taskEnd i, congrArg Host.Outcome.next (State.gate_of_canIssue ready _), State.taskEnd_ends task ready.2.1 slot⟩
  · intro i n s ready task slot
    exact ⟨s.taskEnd i, congrArg Host.Outcome.next (State.gate_of_canIssue ready _), State.taskEnd_ends task ready.2.1 slot⟩
  · intro i n s request task enabled br rep wait
    obtain ⟨m, hm⟩ := Option.isSome_iff_exists.mp task
    show ∃ t, execInterruptAccept i s = .next t ∧ _
    unfold execInterruptAccept
    simp only [request, hm, enabled, br, rep, wait, Option.isNone_none, Bool.and_self, if_true]
    refine ⟨_, rfl, ?_⟩
    have tiles : ∀ (u : State) (j : Fin 32), (if planeOf i = u.activePlane then u.icTakeUp (fin 64 (tileNo i).val) else u).tile j = u.tile j := fun u j => by
      split
      · exact (State.sameBut_of_op (l := [.reg .ic]) fun _ _ => State.icTakeUp_framed).tile (by decide) j
      · rfl
    have noted : ∀ (u : State) (j : Fin 32), (u.noteIc i false n.val).tile j = u.tile j := fun u j =>
      (State.sameBut_of_op (l := [.ic]) fun _ _ => State.noteIc_framed).tile (by decide) j
    simp only [tiles, noted, State.tile_setTile]
    exact ⟨trivial, trivial, trivial, trivial, trivial, trivial, fun j hj => State.tile_setTile_ne _ _ hj⟩
  · intro i n s task wait
    obtain ⟨ended, told, -, -⟩ := State.endRun_ends (k := .fault (((s.tile i).fetchFault (if (s.tile i).mxMode then 2 else 4)).getD 1) (s.tile i).pc) task wait (by simp)
    refine ⟨_, ?_, ended, told⟩
    show execIllegalInstruction i s = _
    unfold execIllegalInstruction
    simp only [task, wait]
    rfl
  · intro i cycles pc lat act x y u v xs ys s wait stores outx outy
    show execOutsideLoadReturn i cycles false s = _
    unfold execOutsideLoadReturn
    simp only [wait, stores, List.isEmpty_nil, if_true, Bool.false_eq_true, if_false, outx, outy, Option.map_some]
  · intro i cycles pc lat act x y s wait stores
    show execOutsideLoadReturn i cycles true s = _
    unfold execOutsideLoadReturn
    simp only [wait, stores, List.isEmpty_nil, if_true]
  · intro i cycles error q r s stores address
    show execOutsideStoreDrain i cycles error s = _
    unfold execOutsideStoreDrain
    simp only [stores, address, decide_false, Bool.false_eq_true, false_and, if_false]

section
variable {s : State} {i : Fin 32}

theorem State.queue_setTile_nil (s : State) (i : Fin 32) (x : Tile) : (s.setTile i x).queue i [] = s.setTile i x := by
  rw [State.queue, State.tile_setTile, State.setTile_setTile, Tile.queue, List.map_nil, List.append_nil]

/-- A nop in the first of two delay slots: one is left. -/
theorem State.runN_slot {b : Branch} (task : (s.tile i).task.isSome = true) (wait : (s.tile i).wait = none) (left : b.left = 2) :
    (State.runN i 4 1 (some b) (fun s => s.queue i []) 0 s).tile i
      = Tile.tick { s.tile i with pc := (s.tile i).pc + 4, br := some { b with left := 1 }, rep := none } := by
  unfold State.runN State.advanceTile
  simp only [State.queue_setTile_nil, State.tile_setTile, Option.isNone_eq_false_iff.mpr task, left, wait, Option.isSome_none, Bool.false_eq_true, if_false, State.ticks,
    Nat.reduceLeDiff, Nat.reduceSub]
  rfl

/-- A nop under a repeat: the pipeline moves on by the repeats, and the place in the program once. -/
theorem State.runN_nop (m : Nat) : ∀ s : State, (s.tile i).task.isSome = true → (s.tile i).wait = none →
    (State.runN i 4 1 none (fun s => s.queue i []) m s).tile i = iter Tile.tick (m + 1) { s.tile i with pc := (s.tile i).pc + 4, rep := none } := by
  induction m with
  | zero =>
    intro s task wait
    unfold State.runN State.advanceTile
    simp only [State.queue_setTile_nil, State.tile_setTile, Option.isNone_eq_false_iff.mpr task, wait, Option.isSome_none, Bool.false_eq_true, if_false, State.ticks]
  | succ m ih =>
    intro s task wait
    obtain ⟨ktask, -, kwait, -, -, kpc⟩ := Tile.tick_kept { s.tile i with rep := some (m + 1) }
    have ticked : ((s.setTile i { s.tile i with rep := some (m + 1) }).ticks i 1).tile i = Tile.tick { s.tile i with rep := some (m + 1) } := by
      rw [State.ticks, State.tile_setTile, State.tile_setTile]
      rfl
    unfold State.runN
    simp only [State.queue_setTile_nil]
    rw [if_neg (by simp only [State.tile_setTile, Option.isNone_eq_false_iff.mpr task, wait, Option.isSome_none, Bool.or_self, Bool.false_eq_true, not_false_iff]),
      ih _ (by rw [ticked, ktask]; exact task) (by rw [ticked, kwait]; exact wait), ticked, kpc, ← Tile.tick_moved]
    rfl

end

/-- Settles O38: a nop in the first of two delay slots, a nop under a repeat, and ei where it may not stand. -/
theorem delaySlotsAndRepeats : Obligations.DelaySlotsAndRepeats := by
  unfold Obligations.DelaySlotsAndRepeats
  refine ⟨?_, ?_, ?_⟩
  · intro i b s task wait mode fetch rep br left
    refine ⟨_, rfl, ?_⟩
    unfold State.native State.issue
    rw [State.gate_passes task wait mode fetch (Bool.false_and _), rep, br]
    refine (State.runN_slot task wait left).trans ?_
    rw [← rep]
  · intro i n s task wait mode fetch br rep one
    refine ⟨_, rfl, ?_⟩
    unfold State.native State.issue
    rw [State.gate_passes task wait mode fetch (Bool.false_and _), rep, br]
    exact (State.runN_nop (n - 1) s task wait).trans (by rw [Nat.sub_add_cancel one])
  · intro i s task wait mode fetch place
    obtain ⟨n, hn⟩ := Option.isSome_iff_exists.mp task
    refine congrArg Host.Outcome.next ?_
    unfold State.nativeCtl State.issue State.gate
    simp only [hn, wait, fetch, mode, ne_eq, not_true_eq_false, if_false, Bool.true_and, Bool.or_eq_true, place, if_true]

end Sys2Proof.Machine

/-! Commands in a mailbox slot: what the answer of one leaves, for motion, safety, cell time, the system and the blocks (16 R515 to R526). -/

namespace Sys2Proof.Machine

open Sys2Proof

section
variable {s u : State} {k : Fin 16} {op : Nat → Bool} {i : Instr} {f : State → MbSlot → State × Nat × List Byte} {c : Nat} {r : List Byte}

/-- A command that its slot runs ends with what its function gives, the result kept where the code is 0. -/
theorem State.exec_runCmd (runs : s.runsNow k op = true) (e : exec i s = .next (s.runCmd k op f)) (h : f s (s.slot k) = (u, c, r)) :
    exec i s = .next (s.cmdEnd u k c (if c = 0 then r else [])) := by
  rw [e, State.runCmd, if_pos runs, h]

theorem State.exec_runCmd_ok (runs : s.runsNow k op = true) (e : exec i s = .next (s.runCmd k op f)) (h : f s (s.slot k) = (u, 0, r)) :
    exec i s = .next (s.cmdEnd u k 0 r) := State.exec_runCmd runs e h

theorem State.exec_runCmd_plain (runs : s.runsNow k op = true) (e : exec i s = .next (s.runCmd k op f)) (h : f s (s.slot k) = (u, c, [])) :
    exec i s = .next (s.cmdEnd u k c []) := by
  rw [State.exec_runCmd runs e h, ite_self]

/-- What the end of a command leaves: its slot has the answer, the other slots and the other parts are those of the command. -/
theorem State.cmdEnd_out (s u : State) (k : Fin 16) (c : Nat) (r : List Byte) : ((s.cmdEnd u k c r).slot k).out = some (c, r) := by
  unfold State.cmdEnd State.setOut
  dsimp only
  rw [State.slot_setSlot_same, State.slot_setSlot_same]

theorem State.cmdEnd_sameBut (s u : State) (k : Fin 16) (c : Nat) (r : List Byte) : u.sameBut [.mb] (s.cmdEnd u k c r) := by
  intro p hp
  cases p with
  | mb => exact absurd List.mem_cons_self hp
  | reg g => exact fun _ _ => rfl
  | _ => rfl

end

/-- Settles O53: each command by what its function gives of its operands. -/
theorem motionCommandsComplete : Obligations.MotionCommandsComplete := by
  unfold Obligations.MotionCommandsComplete
  refine ⟨?_, ?_, ?_, ?_, ?_, ?_, ?_, ?_, ?_, ?_, ?_, ?_, ?_, ?_, ?_, ?_, ?_, ?_, ?_, ?_, ?_, ?_, ?_, ?_, ?_⟩
  · intro k acc c u s runs count moves
    exact State.exec_runCmd_ok runs rfl (by simp only [show ¬ ((s.slot k).arg 0 4 = 0 ∨ 16 < (s.slot k).arg 0 4) by omega, if_false, moves])
  · intro k s runs count
    exact State.exec_runCmd_plain runs rfl (if_pos count)
  · intro k u c s runs code writes
    exact State.exec_runCmd_plain runs rfl (by simp only [show ¬ ((s.slot k).arg 0 4 = 0 ∨ 4 < (s.slot k).arg 0 4) by omega, if_false, writes, plain])
  · intro k s runs code
    exact State.exec_runCmd_plain runs rfl (if_pos code)
  · intro k u c s runs value writes
    exact State.exec_runCmd_plain runs rfl (by simp only [Nat.not_le.mpr value, if_false, writes, plain])
  · intro k s runs value
    exact State.exec_runCmd_plain runs rfl (if_pos value)
  · intro k u c bs s runs status
    exact State.exec_runCmd runs rfl status
  · intro k u c s runs writes
    exact State.exec_runCmd_plain runs rfl (by simp only [writes, plain])
  · intro k i u v w bs s runs axis padding target writes command reads
    exact State.exec_runCmd_ok runs rfl (by simp only [axis, padding, target, ne_eq, not_true_eq_false, or_self, if_false, writes, command, reads])
  · intro k s runs axis number
    exact State.exec_runCmd_plain runs rfl (by simp only [axis, number, if_true])
  · intro k s runs number
    have axis : s.stepAxisOf (s.slot k) = none := if_neg fun h => Nat.not_lt.mpr number h.1
    exact State.exec_runCmd_plain runs rfl (by simp only [axis, Nat.not_lt.mpr number, if_false])
  · intro k i s runs axis bad
    exact State.exec_runCmd_plain runs rfl (by simp only [axis, ne_eq, if_pos bad])
  · intro k i u c s runs axis code writes
    exact State.exec_runCmd_plain runs rfl (by simp only [axis, Nat.not_le.mpr code, if_false, writes, plain])
  · intro k s runs axis number
    exact State.exec_runCmd_plain runs rfl (by simp only [axis, number, if_true])
  · intro k s runs number
    have axis : s.stepAxisOf (s.slot k) = none := if_neg fun h => Nat.not_lt.mpr number h.1
    exact State.exec_runCmd_plain runs rfl (by simp only [axis, Nat.not_lt.mpr number, if_false])
  · intro k i s runs axis code
    exact State.exec_runCmd_plain runs rfl (by simp only [axis, code, if_true])
  · intro k d u refused s runs loop words commit
    subst loop
    have values : ¬ (2 ^ 24 ≤ (s.slot k).arg 0 4 ∨ 2 ^ 24 ≤ (s.slot k).arg 4 4) := by omega
    cases refused with
    | true => exact State.exec_runCmd_plain runs rfl (by simp only [values, if_false, List.foldl, commit, if_true])
    | false => exact State.exec_runCmd_ok runs rfl (by simp only [values, if_false, List.foldl, commit, Bool.false_eq_true])
  · intro k s runs words
    exact State.exec_runCmd_plain runs rfl (if_pos words)
  · intro k u c s runs writes
    exact State.exec_runCmd_plain runs rfl (by simp only [writes, plain])
  · intro k u c s runs writes
    exact State.exec_runCmd_plain runs rfl (by simp only [writes, plain])
  · intro k u bs s runs reads
    exact State.exec_runCmd_ok runs rfl (by simp only [reads])
  · intro k o total n s runs offset all count staged later size rest
    subst offset all count
    have order : ¬ (¬ ((s.slot k).arg 0 4 = 0 ∨ s.mb.staging = some ((s.slot k).arg 4 4, (s.slot k).arg 0 4)) ∨ 524288 < (s.slot k).arg 4 4
        ∨ (s.slot k).arg 4 4 < (s.slot k).arg 0 4 + ((s.slot k).plen - 8)) := by
      rintro (h | h | h)
      · exact h (Or.inr staged)
      · omega
      · omega
    refine ⟨_, State.exec_runCmd_ok runs rfl (by dsimp only; rw [if_neg order, if_neg (Nat.ne_of_gt later), if_pos rest]), ?_⟩
    exact ⟨rfl, rfl, State.cmdEnd_out _ _ _ _ _⟩
  · intro k o total n c u s runs offset all count staged later size rest verified
    subst offset all count
    have order : ¬ (¬ ((s.slot k).arg 0 4 = 0 ∨ s.mb.staging = some ((s.slot k).arg 4 4, (s.slot k).arg 0 4)) ∨ 524288 < (s.slot k).arg 4 4
        ∨ (s.slot k).arg 4 4 < (s.slot k).arg 0 4 + ((s.slot k).plen - 8)) := by
      rintro (h | h | h)
      · exact h (Or.inr staged)
      · omega
      · omega
    have last : ¬ (s.slot k).arg 0 4 + ((s.slot k).plen - 8) < (s.slot k).arg 4 4 := by omega
    exact State.exec_runCmd runs rfl (by dsimp only; rw [if_neg order, if_neg (Nat.ne_of_gt later), if_neg last, verified])
  · intro k s runs bad
    exact State.exec_runCmd_plain runs rfl (if_pos (bad.imp_left fun h e => e.elim h.1 h.2))
  · intro k bs s runs staged
    subst staged
    exact State.exec_runCmd_ok runs rfl rfl

/-- Settles O54: each command by what its function gives of its operands. -/
theorem timeCommandsComplete : Obligations.TimeCommandsComplete := by
  unfold Obligations.TimeCommandsComplete
  refine ⟨?_, ?_, ?_, ?_, ?_, ?_, ?_, ?_, ?_, ?_, ?_, ?_, ?_, ?_, ?_, ?_⟩
  · intro k u c bs s runs get
    exact State.exec_runCmd runs rfl get
  · intro k s runs ns free source
    exact State.exec_runCmd_ok runs rfl (by simp only [Nat.not_le.mpr ns, free, source, and_self, if_false, if_true])
  · intro k s runs ns set
    exact State.exec_runCmd_plain runs rfl (by simp only [Nat.not_le.mpr ns, if_false, if_neg (not_and_or.mpr set)])
  · intro k s runs ns
    exact State.exec_runCmd_plain runs rfl (if_pos ns)
  · intro k u c s runs writes
    exact State.exec_runCmd_plain runs rfl (by simp only [writes, plain])
  · intro k s runs state closed
    refine ⟨_, State.exec_runCmd_ok runs rfl (if_neg fun h => h.elim state (by simp [closed])), ?_⟩
    have kept {v : State} {a : Word} {p : List Byte} : (s.cmdEnd (v.post 0x0012 0 a p) k 0 []).time = v.time := ((State.sameBut_post v 0x0012 0 a p) .time (by decide)).symm
    refine ⟨?_, congrArg TimeSvc.stepped kept, congrArg TimeSvc.step kept, (congrArg TimeSvc.ofs kept).trans rfl, State.cmdEnd_out _ _ _ _ _⟩
    refine ((State.cmdEnd_sameBut _ _ _ _ _).get _ (by decide)).trans (((State.sameBut_post _ _ _ _ _).get _ (by decide)).trans ?_)
    exact (State.get_put_ne _ (by simp) _).trans (State.get_put_of_lt _ (by simp) (by simp))
  · intro k s runs state
    exact State.exec_runCmd_plain runs rfl (if_pos state)
  · intro k u c s runs writes
    exact State.exec_runCmd_plain runs rfl (by simp only [writes, plain])
  · intro k p u c s runs port padding writes
    have p' : fin 20 ((s.slot k).arg 0 1) = p := by rw [← port, fin_val]
    exact State.exec_runCmd_plain runs rfl
      (by simp only [padding, ne_eq, not_true_eq_false, or_false, Nat.not_le.mpr (port ▸ p.isLt), if_false, p', writes, plain])
  · intro k s runs bad
    exact State.exec_runCmd_plain runs rfl (if_pos bad)
  · intro k n m u v w x bs s runs output mode four padding writes arm start reads
    subst mode
    have n' : fin 8 ((s.slot k).arg 0 1) = n := by rw [← output, fin_val]
    obtain ⟨pad1, pad2, pad3⟩ := padding
    exact State.exec_runCmd_ok runs rfl
      (by simp only [pad1, pad2, pad3, ne_eq, not_true_eq_false, or_false, Nat.not_le.mpr (output ▸ n.isLt), Nat.not_le.mpr four, if_false, n', writes, arm, start, reads])
  · intro k s runs bad
    exact State.exec_runCmd_plain runs rfl (if_pos bad)
  · intro k n u c s runs input padding writes
    have n' : fin 8 ((s.slot k).arg 0 1) = n := by rw [← input, fin_val]
    exact State.exec_runCmd_plain runs rfl
      (by simp only [padding, ne_eq, not_true_eq_false, or_false, Nat.not_le.mpr (input ▸ n.isLt), if_false, n', writes, plain])
  · intro k s runs bad
    exact State.exec_runCmd_plain runs rfl (if_pos bad)
  · intro k n m s runs input count range
    subst count
    have n' : n = fin 8 ((s.slot k).arg 0 1) := by rw [← input, fin_val]
    have good : ¬ (8 ≤ (s.slot k).arg 0 1 ∨ (s.slot k).arg 1 1 = 0 ∨ 16 < (s.slot k).arg 1 1) := by
      have := n.isLt
      omega
    subst n'
    refine ⟨_, State.exec_runCmd_ok runs rfl (if_neg good), ?_⟩
    refine ⟨tget_tset_same _ _ _ _, State.cmdEnd_out _ _ _ _ _, ?_⟩
    intro p hp
    cases p with
    | caps => exact absurd List.mem_cons_self hp
    | mb => exact absurd (List.mem_cons_of_mem _ List.mem_cons_self) hp
    | reg g => exact fun _ _ => rfl
    | _ => rfl
  · intro k s runs bad
    exact State.exec_runCmd_plain runs rfl (if_pos bad)

end Sys2Proof.Machine

/-! Commands in a mailbox slot on identity, settings, keys, registers, placement, Chain and Kiln, and the quad-SPI port (16 R514, R526 to R531). -/

namespace Sys2Proof.Machine

open Sys2Proof

/-- Settles O56: each command by what its function gives of its operands. -/
theorem systemCommandsComplete : Obligations.SystemCommandsComplete := by
  unfold Obligations.SystemCommandsComplete
  refine ⟨?_, ?_, ?_, ?_, ?_, ?_, ?_, ?_, ?_, ?_, ?_, ?_, ?_, ?_, ?_, ?_, ?_, ?_, ?_, ?_, ?_, ?_, ?_, ?_⟩
  · intro k b s runs
    exact State.exec_runCmd_ok runs rfl rfl
  · intro k nonce s runs length
    exact State.exec_runCmd_ok runs rfl (if_neg (not_not.mpr length))
  · intro k nonce s runs length
    exact State.exec_runCmd_plain runs rfl (if_pos length)
  · intro k ws u c s runs listed writes
    exact State.exec_runCmd_plain runs rfl (by simp only [listed, if_true, writes, plain])
  · intro k ws s runs listed
    exact State.exec_runCmd_plain runs rfl (by simp only [listed, Bool.false_eq_true, if_false])
  · intro k rs u bs s runs listed size reads
    exact State.exec_runCmd_ok runs rfl (by simp only [listed, size, and_self, if_true, reads])
  · intro k rs s runs bad
    exact State.exec_runCmd_plain runs rfl (if_neg fun h => bad.elim (fun e => by simp [e] at h) (fun e => Nat.not_le.mpr e h.2))
  · intro k u bs s runs reads
    exact State.exec_runCmd_ok runs rfl (by simp only [reads])
  · intro k g s runs generation
    exact State.exec_runCmd_ok runs rfl (by simp only [generation, g.isLt, if_true, fin_val])
  · intro k bad g ws u s runs words unlocked free good settings otp idle programmed
    subst words programmed
    have ok : ¬ (genOk g.val ((List.range 448).map (fun i => (s.slot k).word (4 * i))) = false
        ∨ settingsOk ((List.range 448).map (fun i => (s.slot k).word (4 * i))) = false) := by simp [good, settings]
    have rest : ¬ (s.otpRefuses = true ∨ s.is OTP_STAT.BUSY = true) := by simp [otp, idle]
    split
    · next same =>
      exact State.exec_runCmd_ok runs rfl (by simp only [unlocked, Bool.false_eq_true, if_false, free, ok, rest, same, if_true] <;> rfl)
    · next differs =>
      exact State.exec_runCmd_plain runs rfl (by simp only [unlocked, Bool.false_eq_true, if_false, free, ok, rest, differs])
  · intro k bad s runs locked
    have none_ : (if s.is OTP_STAT.SETTINGS_LOCKED = true then none else s.nextGen) = none := by
      rcases locked with h | h
      · rw [if_pos h]
      · rw [h, ite_self]
    exact State.exec_runCmd_plain runs rfl (by simp only [none_])
  · intro k j key s runs length unlocked unmarked blank otp idle
    exact State.exec_runCmd_ok runs rfl
      (by simp only [length, ne_eq, not_true_eq_false, if_false, unlocked, unmarked, blank, otp, idle, Bool.false_eq_true, or_self])
  · intro k j key s runs length unlocked unmarked blank busy
    exact State.exec_runCmd_plain runs rfl
      (by simp only [length, ne_eq, not_true_eq_false, if_false, unlocked, unmarked, blank, Bool.false_eq_true, or_self, busy, if_true])
  · intro k j key s runs length locked
    exact State.exec_runCmd_plain runs rfl (by simp only [length, ne_eq, not_true_eq_false, if_false, locked, if_true])
  · intro k j key s runs length
    exact State.exec_runCmd_plain runs rfl (if_pos length)
  · intro k vendor j signer sig u s runs slot last other otp idle burnt
    subst burnt
    have slot' : ¬ (vendor = true ∧ 2 ≤ j.val) := fun h => slot.elim (fun e => by simp [e] at h) (fun e => Nat.not_le.mpr e h.2)
    have rest : ¬ (s.otpRefuses = true ∨ s.is OTP_STAT.BUSY = true) := by simp [otp, idle]
    split
    · next signed =>
      exact State.exec_runCmd_ok runs rfl (by simp only [slot', last, other, signed, Bool.true_eq_false, or_self, Bool.false_eq_true, if_false, rest])
    · next unsigned =>
      exact State.exec_runCmd_plain runs rfl
        (by simp only [slot', last, other, Bool.eq_false_of_not_eq_true unsigned, or_true, Bool.false_eq_true, if_false, if_true])
  · intro k vendor j sig s runs slot last
    have slot' : ¬ (vendor = true ∧ 2 ≤ j.val) := fun h => slot.elim (fun e => by simp [e] at h) (fun e => Nat.not_le.mpr e h.2)
    exact State.exec_runCmd_plain runs rfl (by simp only [slot', last, true_or, Bool.false_eq_true, if_false, if_true])
  · intro k s runs word bits otp idle
    exact State.exec_runCmd_ok runs rfl
      (by simp only [word, ne_eq, not_true_eq_false, Nat.not_le.mpr bits, or_self, otp, idle, Bool.false_eq_true, if_false])
  · intro k s runs word bits busy
    exact State.exec_runCmd_plain runs rfl (by simp only [word, ne_eq, not_true_eq_false, Nat.not_le.mpr bits, or_self, busy, if_false, if_true])
  · intro k s runs bad
    exact State.exec_runCmd_plain runs rfl (if_pos bad)
  · intro k a s runs sealed
    exact State.exec_runCmd_plain runs rfl (if_pos sealed)
  · intro k a u c bs s runs unsealed response
    exact State.exec_runCmd runs rfl (by simp only [unsealed, Bool.false_eq_true, if_false, response])
  · intro k a v s runs sealed
    exact State.exec_runCmd_plain runs rfl (if_pos sealed)
  · intro k a v u c bs s runs unsealed response
    exact State.exec_runCmd runs rfl (by simp only [unsealed, Bool.false_eq_true, if_false, response])

/-- Settles O57: each command by what its function gives of its operands. -/
theorem blockCommandsComplete : Obligations.BlockCommandsComplete := by
  unfold Obligations.BlockCommandsComplete
  refine ⟨?_, ?_, ?_, ?_, ?_, ?_, ?_, ?_, ?_, ?_, ?_, ?_, ?_, ?_, ?_, ?_, ?_, ?_, ?_, ?_, ?_, ?_⟩
  · intro k n op d s runs operation idle
    have zero : op ≠ 0 := fun e => by simp [e] at operation
    have one : op ≠ 1 := fun e => by simp [e] at operation
    have three : op ≠ 3 := fun e => by simp [e] at operation
    refine ⟨_, State.exec_runCmd_plain runs rfl (by simp only [zero, one, three, idle, Bool.false_eq_true, if_false]; rfl), ?_⟩
    exact ⟨State.cmdEnd_out _ _ _ _ _, ((State.cmdEnd_sameBut _ _ _ _ _) .stk (by decide)).symm⟩
  · intro k n d s runs idle
    refine ⟨_, State.exec_runCmd_plain runs rfl (by simp only [show (1 : Fin 6) ≠ 0 by decide, show (1 : Fin 6) ≠ 3 by decide, idle, Bool.false_eq_true, if_false, if_true]; rfl), ?_⟩
    exact ⟨State.cmdEnd_out _ _ _ _ _, ((State.cmdEnd_sameBut _ _ _ _ _) .stk (by decide)).symm⟩
  · intro k n d u s runs idle command
    subst command
    exact State.exec_runCmd runs rfl (by simp only [show (3 : Fin 6) ≠ 0 by decide, show (3 : Fin 6) ≠ 1 by decide, idle, Bool.false_eq_true, if_false, if_true]; rfl)
  · intro k n op d s runs operation busy
    exact State.exec_runCmd_plain runs rfl (by simp only [operation, busy, if_false, if_true])
  · intro k n d s runs
    exact State.exec_runCmd_plain runs rfl (if_pos rfl)
  · intro k h d s runs idle
    refine ⟨_, State.exec_runCmd_plain runs rfl
      (by simp only [show (2 : Fin 4) ≠ 0 by decide, show (2 : Fin 4) ≠ 1 by decide, show (2 : Fin 4) ≠ 3 by decide, idle, Bool.false_eq_true, if_false]; rfl), ?_⟩
    exact ⟨State.cmdEnd_out _ _ _ _ _, ((State.cmdEnd_sameBut _ _ _ _ _) .stk (by decide)).symm⟩
  · intro k h d u s runs idle command
    subst command
    exact State.exec_runCmd runs rfl (by simp only [show (3 : Fin 4) ≠ 0 by decide, show (3 : Fin 4) ≠ 1 by decide, idle, Bool.false_eq_true, if_false, if_true]; rfl)
  · intro k h d u s runs idle command
    subst command
    exact State.exec_runCmd_plain runs rfl (by simp only [show (1 : Fin 4) ≠ 0 by decide, show (1 : Fin 4) ≠ 3 by decide, idle, Bool.false_eq_true, if_false, if_true]; rfl)
  · intro k h op d s runs operation busy
    exact State.exec_runCmd_plain runs rfl (by simp only [operation, busy, if_false, if_true])
  · intro k h d s runs
    exact State.exec_runCmd_plain runs rfl (if_pos rfl)
  · intro k rebal freeze u c s runs writes
    exact State.exec_runCmd_plain runs rfl (by simp only [writes, plain])
  · intro k o bs u refused s runs inside written
    cases refused with
    | true => exact State.exec_runCmd_plain runs rfl (by simp only [Nat.not_lt.mpr inside, if_false, written, if_true])
    | false => exact State.exec_runCmd_plain runs rfl (by simp only [Nat.not_lt.mpr inside, if_false, written, Bool.false_eq_true])
  · intro k o bs s runs beyond
    exact State.exec_runCmd_plain runs rfl (if_pos beyond)
  · intro k v u c s runs writes
    exact State.exec_runCmd_plain runs rfl (by simp only [writes, plain])
  · intro k x v u c s runs off writes
    exact State.exec_runCmd_plain runs rfl (by simp only [off, Bool.false_eq_true, if_false, writes, plain])
  · intro k x v s runs on
    exact State.exec_runCmd_plain runs rfl (if_pos on)
  · intro k n s runs kind may enabled
    exact State.exec_runCmd_ok runs rfl (by simp only [kind, may, enabled, ne_eq, not_true_eq_false, Bool.true_eq_false, or_self, if_false])
  · intro k n s runs kind refused
    exact State.exec_runCmd_plain runs rfl (by simp only [kind, ne_eq, not_true_eq_false, if_false, refused, if_true])
  · intro k n s runs kind
    exact State.exec_runCmd_plain runs rfl (if_pos kind)
  · intro k c o n r s runs published size inside
    exact State.exec_runCmd_ok runs rfl (by simp only [published, size, inside, and_self, if_true])
  · intro k c o n s runs published size inside
    exact State.exec_runCmd_ok runs rfl (by simp only [published, size, inside, and_self, if_true])
  · intro k c o n s runs beyond
    cases published : (s.kctx s.activePlane c).pub with
    | none =>
      have outside : ¬ (n ≤ 2048 ∧ o + n ≤ 64 + 8 * (s.kctx s.activePlane c).len) := by
        simp only [published, decide_eq_true_eq] at beyond
        omega
      exact State.exec_runCmd_plain runs rfl (by simp only [published, outside, if_false])
    | some r =>
      have outside : ¬ (n ≤ 2048 ∧ o + n ≤ 64 + 8 * r.x.length) := by
        simp only [published, decide_eq_true_eq] at beyond
        omega
      exact State.exec_runCmd_plain runs rfl (by simp only [published, outside, if_false])

section
variable {s u : State} {i : Instr} {op : Nat} {f : State → MbSlot → State × Nat × List Byte} {c : Nat} {r : List Byte}

/-- An MX-16 command of the quad-SPI port that slot 15 runs. -/
theorem State.exec_runMx (busy : (s.slot 15).state = 2) (unanswered : (s.slot 15).out = none) (port : (s.slot 15).qspi = true) (command : (s.slot 15).mxOp = op)
    (first : s.firstOfGroup 15 = true) (serves : s.serves = true) (e : exec i s = .next (s.runMx op f)) (h : f s (s.slot 15) = (u, c, r)) :
    exec i s = .next (u.setOut 15 c (if c = 0 then r else [])) := by
  rw [e]
  unfold State.runMx
  simp only [busy, unanswered, port, command, first, serves, Option.isNone_none, beq_self_eq_true, Bool.and_self, if_true, h]

end

end Sys2Proof.Machine

/-! The mailbox: what a slot keeps, what a record posted leaves of the registers, and the commands on slots (16 R508 to R531). -/

namespace Sys2Proof.Machine

open Sys2Proof

/-- What a posted record leaves as it was: what stands whatever becomes of the lists of records and events, of four bits and of two counts. -/
structure PostKeeps (P : State → Prop) : Prop where
  lists : ∀ (u : State) (lk : Locket) (evts : List (List Word)), P u → P { u with lk := lk, evts := evts }
  lost : ∀ u : State, P u → P (u.bump HM_EVT_LOST)
  source : ∀ (u : State) (b : Bool), P u → P (u.putB ⟨IC_SW 1, 15, 1⟩ b)
  fault : ∀ u : State, P u → P (u.flag LK_STAT.FAULT_REC)
  count : ∀ u : State, P u → P (u.bump LK_DROPPED)
  dropped : ∀ u : State, P u → P (u.flag LK_STAT.DROPPED)
  flushing : ∀ u : State, P u → P (u.put LK_STAT.FLUSHING 1)

namespace PostKeeps

variable {P : State → Prop} (k : PostKeeps P) {s : State}
include k

theorem listed (h : P s) (lk : Locket) : P { s with lk := lk } := k.lists s lk s.evts h

theorem offerEvent (h : P s) (q : Rec) : P (s.offerEvent q) := by
  unfold State.offerEvent
  split
  · split
    · exact k.source _ _ (k.lists s s.lk _ h)
    · exact k.lost s h
  · exact h

theorem appendRec (h : P s) (q : Rec) : P (s.appendRec q) := by
  unfold State.appendRec
  dsimp only
  split
  · exact k.fault _ (k.offerEvent (k.listed h _) q)
  · exact k.offerEvent (k.listed h _) q

theorem reportLost (h : P s) : P s.reportLost := by
  unfold State.reportLost
  split
  · exact h
  · exact k.appendRec (k.listed h _) _

theorem startFlush (h : P s) : P s.startFlush := by
  unfold State.startFlush
  split
  · exact k.listed h _
  · exact k.flushing _ (k.listed h _)

theorem acceptRec (h : P s) (q : Rec) : P (s.acceptRec q) := by
  unfold State.acceptRec
  extract_lets lk u
  have reported : P u := k.reportLost (k.listed h _)
  clear_value u
  split
  · exact k.listed reported _
  · split
    · exact k.dropped _ (k.count _ (k.listed reported _))
    · split
      · exact k.startFlush (k.appendRec reported q)
      · exact k.appendRec reported q

theorem postAt (h : P s) (type sev : Nat) (a : Word) (payload : List Byte) (cell : Nat) : P (s.postAt type sev a payload cell) := by
  unfold State.postAt
  split
  · exact k.listed h _
  · split
    · exact k.acceptRec h _
    · exact k.acceptRec h _

theorem post (h : P s) (type sev : Nat) (a : Word) (payload : List Byte) : P (s.post type sev a payload) := k.postAt h _ _ _ _ _

end PostKeeps

section
variable {s t : State} {r : Reg}

/-- A register that a post does not write. -/
def Unposted (r : Reg) : Prop := r ≠ LK_STAT ∧ r ≠ LK_DROPPED ∧ r ≠ HM_EVT_LOST ∧ r ≠ IC_SW 1

theorem PostKeeps.rd (h : Unposted r) (v : Word) : PostKeeps (fun u => u.rd r = v) := by
  obtain ⟨stat, dropped, lost, source⟩ := h
  exact ⟨fun _ _ _ h => h, fun u h => (State.rd_bump_ne u lost).trans h, fun u b h => (State.rd_put_ne u _ source).trans h,
    fun u h => (State.rd_flag_ne u stat).trans h, fun u h => (State.rd_bump_ne u dropped).trans h, fun u h => (State.rd_flag_ne u stat).trans h,
    fun u h => (State.rd_put_ne u _ stat).trans h⟩

section
variable (free : Unposted r)
include free

theorem State.rd_post (s : State) (type sev : Nat) (a : Word) (payload : List Byte) : (s.post type sev a payload).rd r = s.rd r :=
  (PostKeeps.rd free (s.rd r)).post rfl _ _ _ _

/-- A missed release reaches Stack's registers and those of a posted record. -/
theorem State.rd_overrun (stack : r.group ≠ .stk) (s : State) (n : Fin 4096) : (s.overrun n).rd r = s.rd r := by
  have flag : r ≠ STK_STAT := fun e => stack (by rw [e]; rfl)
  have misses : r ≠ STK_TS0 n := fun e => stack (by rw [e]; rfl)
  unfold State.overrun
  dsimp only
  split
  · rw [State.rd_flag_ne _ flag, State.miss, State.bumpField, State.rd_put_ne _ _ misses]
  · rw [State.taskRecord, State.rd_post free, State.setTask_rd, State.rd_flag_ne _ flag, State.miss, State.bumpField, State.rd_put_ne _ _ misses]

theorem State.rd_releaseTask (stack : r.group ≠ .stk) (s : State) (n : Fin 4096) : (s.releaseTask n none).1.rd r = s.rd r := by
  have now_ : (s.releaseNow n).1.rd r = s.rd r :=
    State.sameBut.rd (l := [.reg .stk, .stk]) (State.sameBut_of_op fun _ _ => State.releaseNow_framed) r (by simpa using stack)
  have missed := State.rd_overrun free stack s n
  unfold State.releaseTask
  extract_lets st task early
  clear_value early
  split
  · rfl
  · split
    · exact missed
    · split
      · rfl
      · split
        · exact missed
        · exact now_

/-- A wake reaches Stack's registers and those of a posted record. -/
theorem State.rd_wakeOf (stack : r.group ≠ .stk) (s : State) (n : Fin 4096) : (s.wakeOf n).rd r = s.rd r := by
  have released := State.rd_releaseTask free stack s n
  unfold State.wakeOf
  split
  · split
    · next u e =>
      rw [e] at released
      exact released
    · next u e =>
      rw [e] at released
      unfold State.hold
      split
      · exact released
      · exact released
  · rfl

theorem State.rd_icWakeAll (stack : r.group ≠ .stk) (s : State) : s.icWakeAll.rd r = s.rd r := by
  unfold State.icWakeAll
  refine List.foldlRecOn (motive := fun u : State => u.rd r = s.rd r) _ _ rfl fun u hu n _ => ?_
  unfold State.icWake
  split
  · split
    · exact hu
    · exact (State.rd_wakeOf free stack u _).trans hu
    · exact hu
  · exact hu

end

theorem State.slot_of_mb (h : t.mb = s.mb) (k : Fin 16) : t.slot k = s.slot k := congrArg (fun m : Mail => tget m.slots k {}) h

theorem State.sameBut.slot {l : List Part} (h : s.sameBut l t) (out : .mb ∉ l) (k : Fin 16) : t.slot k = s.slot k := State.slot_of_mb (h .mb out).symm k

theorem State.slot_put (s : State) (f : Field) (v : Nat) (k : Fin 16) : (s.put f v).slot k = s.slot k := State.slot_of_mb (State.put_mb s f v) k

theorem State.slot_emptySlot (s : State) (k : Fin 16) : (s.emptySlot k).slot k = { cmd := (s.slot k).cmd } := by
  rw [State.emptySlot, State.slot_put, State.slot_setSlot_same]

theorem State.slot_emptySlot_ne (s : State) {k j : Fin 16} (h : j ≠ k) : (s.emptySlot k).slot j = s.slot j := by
  rw [State.emptySlot, State.slot_put, State.slot_setSlot_ne _ _ h]

theorem State.get_slotSource (s : State) (k : Fin 16) : (s.put (slotSource k) 0).get (slotSource k) = 0 :=
  State.get_put_of_lt _ (by dsimp only [slotSource]; omega) (Nat.two_pow_pos _)

/-- The end of a slot: finished with its result, or emptied where it is to be discarded. -/
theorem State.slot_endSlot (s : State) (k : Fin 16) (st code : Nat) (res : List Byte) :
    (s.endSlot k st code res).slot k = if (s.slot k).drop = true then { cmd := (s.slot k).cmd }
      else { s.slot k with state := st, code := code, res := res, out := none, unread := true } := by
  unfold State.endSlot
  dsimp only
  split
  · exact State.slot_emptySlot _ k
  · split
    · exact (State.slot_put _ _ _ k).trans (State.slot_setSlot_same _ _ _)
    · exact State.slot_setSlot_same _ _ _

theorem State.slot_endSlot_ne (s : State) {k j : Fin 16} (st code : Nat) (res : List Byte) (h : j ≠ k) : (s.endSlot k st code res).slot j = s.slot j := by
  unfold State.endSlot
  dsimp only
  split
  · exact State.slot_emptySlot_ne _ h
  · split
    · exact (State.slot_put _ _ _ j).trans (State.slot_setSlot_ne _ _ h)
    · exact State.slot_setSlot_ne _ _ h

/-- Its slot is neither posted nor taken any more. -/
theorem State.lists_endSlot (s : State) (k : Fin 16) (st code : Nat) (res : List Byte) :
    (s.endSlot k st code res).mb.taken = s.mb.taken.filter (· ≠ k) ∧ (s.endSlot k st code res).mb.posted = s.mb.posted.filter (· ≠ k) := by
  unfold State.endSlot
  dsimp only
  split
  · exact ⟨rfl, rfl⟩
  · split
    · exact ⟨rfl, rfl⟩
    · exact ⟨rfl, rfl⟩

theorem not_mem_filter_ne (l : List (Fin 16)) (k : Fin 16) : k ∉ l.filter (· ≠ k) := by simp

theorem filter_cons_ne (l : List (Fin 16)) (k : Fin 16) : (k :: l).filter (· ≠ k) = l.filter (· ≠ k) := by simp

/-- The word of one slot names that slot alone. -/
theorem slots_of_word : ∀ k : Fin 16, (finList 16).filter (fun j => (BitVec.ofNat 16 (2 ^ k.val)).getLsbD j.val) = [k] := by decide

end

/-- Settles O58: the port's words and slot 15 by the rules of a slot, its commands by what each gives. -/
theorem hciCommandsComplete : Obligations.HciCommandsComplete := by
  unfold Obligations.HciCommandsComplete
  refine ⟨?_, ?_, ?_, ?_, ?_, ?_, ?_, ?_, ?_, ?_, ?_, ?_, ?_, ?_⟩
  · intro w n u l s enabled words
    show execQspiRead w n s = _
    unfold execQspiRead
    simp only [enabled, if_true, words]
  · intro w n s disabled
    show execQspiRead w n s = _
    unfold execQspiRead
    simp only [disabled, Bool.false_eq_true, if_false]
  · intro w vs s enabled
    show execQspiWrite w vs s = _
    unfold execQspiWrite
    simp only [enabled, if_true]
  · intro w vs s disabled
    show execQspiWrite w vs s = _
    unfold execQspiWrite
    simp only [disabled, Bool.false_eq_true, if_false]
  · intro s enabled empty
    have owns : s.hciOwns 15 = true := by simp [State.hciOwns, enabled]
    refine ⟨s.postSlot 15 true, rfl, ?_⟩
    unfold State.postSlot
    dsimp only
    rw [if_neg (by simp [empty, owns])]
    have own : ∀ (u : State) (f : Mail → Mail) (j : Fin 16), (f u.mb).slots = u.mb.slots → (u.updMail f).slot j = u.slot j := fun u f j h =>
      congrArg (fun l : List (Fin 16 × MbSlot) => tget l j {}) h
    rw [own _ _ 15 rfl, State.slot_setSlot_same]
    exact ⟨rfl, rfl, rfl, rfl, fun j hj => (own _ _ j rfl).trans (State.slot_setSlot_ne _ _ hj)⟩
  · intro s refused
    show Host.Outcome.next (s.postSlot 15 true) = _
    unfold State.postSlot
    dsimp only
    rw [if_pos (refused.symm.imp_right fun h => by simp [State.hciOwns, h])]
  · intro s enabled done
    have owns : s.hciOwns 15 = true := by simp [State.hciOwns, enabled]
    refine ⟨s.freeSlot 15 true, rfl, ?_⟩
    unfold State.freeSlot
    dsimp only
    rw [if_neg (by simp only [owns, ne_eq, not_true_eq_false, false_or]; omega), if_neg (by omega), State.slot_emptySlot]
    exact ⟨rfl, rfl, fun j hj => State.slot_emptySlot_ne s hj⟩
  · intro s refused
    show Host.Outcome.next (s.freeSlot 15 true) = _
    unfold State.freeSlot
    dsimp only
    rw [if_pos (refused.imp_left fun h => by simp [State.hciOwns, h])]
  · intro s busy unanswered port command first serves
    exact State.exec_runMx busy unanswered port command first serves rfl rfl
  · intro u c r s busy unanswered port command first serves moved
    exact State.exec_runMx busy unanswered port command first serves rfl moved
  · intro u c r s busy unanswered port command first serves moved
    exact State.exec_runMx busy unanswered port command first serves rfl moved
  · intro u s busy unanswered port command first serves aborted
    have via : s.via (execArmAbort s.hciArm) = u := by
      have : execArmAbort s.hciArm s = .next u := aborted
      unfold State.via
      rw [this]
    exact State.exec_runMx (r := []) busy unanswered port command first serves rfl (by rw [via])
  · intro u c bs s busy unanswered port command first serves status
    exact State.exec_runMx busy unanswered port command first serves rfl status
  · intro u c bs s busy unanswered port command first serves get
    exact State.exec_runMx busy unanswered port command first serves rfl get

end Sys2Proof.Machine

/-! The commands on mailbox slots: writing, posting, freeing, taking and finishing, reads, and the restarts (16 R508 to R520). -/

namespace Sys2Proof.Machine

open Sys2Proof

section
variable {s : State}

/-- A slot that ended stays ended while others do, or it ends again. -/
theorem State.slot_stays_ended (l : List (Fin 16)) (s : State) {k : Fin 16} (keep : (s.slot k).drop = false) :
    (k ∈ l ∨ (s.slot k).state = 15 ∧ (s.slot k).code = 0x000F) →
      ((l.foldl (fun u j => u.endSlot j 15 0x000F []) s).slot k).state = 15 ∧ ((l.foldl (fun u j => u.endSlot j 15 0x000F []) s).slot k).code = 0x000F := by
  induction l generalizing s with
  | nil => exact fun h => h.resolve_left List.not_mem_nil
  | cons j l ih =>
    intro h
    by_cases e : k = j
    · subst e
      have now_ : (s.endSlot k 15 0x000F []).slot k = { s.slot k with state := 15, code := 0x000F, res := [], out := none, unread := true } := by
        rw [State.slot_endSlot, keep]
        rfl
      exact ih _ (by rw [now_]; exact keep) (Or.inr (by rw [now_]; exact ⟨rfl, rfl⟩))
    · have same := State.slot_endSlot_ne s 15 0x000F [] e
      exact ih _ (by rw [same]; exact keep) (by rw [same]; exact h.imp_left fun m => (List.mem_cons.mp m).resolve_left e)

/-- Registers of a bank written each with its own word: each has it. -/
theorem State.rd_foldl_wr {n : Nat} {reg : Fin n → Reg} (inj : ∀ a b, reg a = reg b → a = b) (word : Fin n → Word) (s : State) (l : List (Fin n)) (k : Fin n) (h : k ∈ l) :
    (l.foldl (fun u a => u.wr (reg a) (word a)) s).rd (reg k) = word k := by
  have later : ∀ (l : List (Fin n)) (u : State), u.rd (reg k) = word k → (l.foldl (fun u a => u.wr (reg a) (word a)) u).rd (reg k) = word k := fun l u hu =>
    List.foldlRecOn (motive := fun u : State => u.rd (reg k) = word k) l _ hu fun u hu a _ => by
      by_cases e : k = a
      · subst e
        exact State.rd_wr_same _ _ _
      · exact (State.rd_wr_ne _ _ fun h => e (inj _ _ h)).trans hu
  induction l generalizing s with
  | nil => exact absurd h List.not_mem_nil
  | cons a l ih =>
    rcases List.mem_cons.mp h with rfl | h
    · exact later l _ (State.rd_wr_same _ _ _)
    · exact ih _ h

/-- What PCIe's reset makes of one slot. -/
def State.resetSlot (s : State) (k : Fin 16) : State :=
  let x := s.slot k
  if x.qspi then s
  else if x.state = 1 ∨ x.state = 2 then s.setSlot k { x with drop := true }
  else if x.state = 0 then s
  else s.emptySlot k

theorem State.resetSlot_sameBut (s : State) (k : Fin 16) : s.sameBut [.mb, .reg .ic] (s.resetSlot k) := by
  unfold State.resetSlot
  dsimp only
  split
  · exact State.sameBut_refl _ _
  · split
    · exact State.sameBut.mono (l := [.mb]) (State.sameBut_of_op fun _ _ => State.setSlot_framed) (by decide)
    · split
      · exact State.sameBut_refl _ _
      · exact State.sameBut.mono (l := [.reg .ic, .mb]) (State.sameBut_of_op fun _ _ => State.emptySlot_framed) (by decide)

theorem State.slot_resetSlot_ne (s : State) {k j : Fin 16} (h : j ≠ k) : (s.resetSlot k).slot j = s.slot j := by
  unfold State.resetSlot
  dsimp only
  split
  · rfl
  · split
    · exact State.slot_setSlot_ne _ _ h
    · split
      · rfl
      · exact State.slot_emptySlot_ne _ h

/-- A slot after PCIe's reset. -/
def MbSlot.afterReset (x y : MbSlot) : Prop :=
  (x.qspi = false → 3 ≤ x.state → y.state = 0) ∧ (x.qspi = false → x.state = 1 ∨ x.state = 2 → y.drop = true ∧ y.state = x.state) ∧ (x.qspi = true → y = x)

theorem State.slot_resetSlot (s : State) (k : Fin 16) : (s.slot k).afterReset ((s.resetSlot k).slot k) := by
  unfold State.resetSlot MbSlot.afterReset
  dsimp only
  split
  · next port => exact ⟨fun h => absurd (port.symm.trans h) (by decide), fun h => absurd (port.symm.trans h) (by decide), fun _ => rfl⟩
  · next port =>
    split
    · next open_ =>
      rw [State.slot_setSlot_same]
      exact ⟨fun _ h => by omega, fun _ _ => ⟨rfl, rfl⟩, fun h => absurd h port⟩
    · next closed =>
      split
      · next empty => exact ⟨fun _ _ => empty, fun _ h => absurd h closed, fun h => absurd h port⟩
      · rw [State.slot_emptySlot]
        exact ⟨fun _ _ => rfl, fun _ h => absurd h closed, fun h => absurd h port⟩

theorem State.slot_resetSlots (l : List (Fin 16)) (nodup : l.Nodup) (s : State) (k : Fin 16) :
    (k ∈ l → (s.slot k).afterReset ((l.foldl State.resetSlot s).slot k)) ∧ (k ∉ l → (l.foldl State.resetSlot s).slot k = s.slot k) := by
  induction l generalizing s with
  | nil => exact ⟨fun h => absurd h List.not_mem_nil, fun _ => rfl⟩
  | cons j l ih =>
    obtain ⟨fresh, rest⟩ := List.nodup_cons.mp nodup
    obtain ⟨mine, kept⟩ := ih rest (s.resetSlot j)
    rw [List.foldl_cons]
    by_cases e : k = j
    · subst e
      rw [kept fresh]
      exact ⟨fun _ => State.slot_resetSlot s k, fun h => absurd List.mem_cons_self h⟩
    · rw [State.slot_resetSlot_ne s e] at mine kept
      exact ⟨fun h => mine ((List.mem_cons.mp h).resolve_left e), fun h => kept fun m => h (List.mem_cons_of_mem _ m)⟩

end

/-- The MSI-X table with its reset words. -/
def State.tableReset (s : State) : State := (finList 128).foldl (fun s k => s.wr (HM_MSIX_TABLE k) (HM_MSIX_TABLE k).resetWord) s

theorem State.tableReset_rd (s : State) (k : Fin 128) : s.tableReset.rd (HM_MSIX_TABLE k) = (HM_MSIX_TABLE k).resetWord :=
  State.rd_foldl_wr (fun x y h => by simpa using h) (fun k => (HM_MSIX_TABLE k).resetWord) s _ k (mem_finList k)

theorem State.tableReset_mb (s : State) : s.tableReset.mb = s.mb :=
  List.foldlRecOn (motive := fun v : State => v.mb = s.mb) _ _ rfl fun _ hv _ _ => hv

/-- The link state and the control words of a reset over PCIe. -/
def State.linkReset (s : State) (up : Bool) : State :=
  ((({ s with ic := { s.ic with linkUp := up } } : State).wr HM_PCI_CMD 0).wr HM_PCI_MSIX 0).icTimers

theorem State.linkReset_words (s : State) (up : Bool) : (s.linkReset up).rd HM_PCI_CMD = 0 ∧ (s.linkReset up).rd HM_PCI_MSIX = 0
    ∧ ∀ k, (s.linkReset up).rd (HM_MSIX_TABLE k) = s.rd (HM_MSIX_TABLE k) := by
  have timers : ∀ (u : State) (r : Reg), u.icTimers.rd r = u.rd r := fun _ _ => rfl
  unfold State.linkReset
  simp only [timers]
  refine ⟨?_, State.rd_wr_same _ _ _, fun k => ?_⟩
  · rw [State.rd_wr_ne _ _ (by simp), State.rd_wr_same]
  · rw [State.rd_wr_ne _ _ (by simp), State.rd_wr_ne _ _ (by simp)]
    rfl

theorem State.linkReset_kept (s : State) (up : Bool) : (s.linkReset up).mb = s.mb ∧ (s.linkReset up).ic.linkUp = up := ⟨rfl, rfl⟩

theorem execPcieReset_eq (up : Bool) (s : State) : execPcieReset up s = .next ((finList 16).foldl State.resetSlot (s.tableReset.linkReset up)) := rfl

/-- PCIe's reset: the table and the control words, and every slot. -/
theorem pcieReset_resets (up : Bool) (s : State) : ∃ t, exec (.pcieReset up) s = .next t ∧ t.ic.linkUp = up ∧ t.rd HM_PCI_CMD = 0 ∧ t.rd HM_PCI_MSIX = 0
    ∧ (∀ k : Fin 128, t.rd (HM_MSIX_TABLE k) = (HM_MSIX_TABLE k).resetWord) ∧ (∀ k, (s.slot k).qspi = false → 3 ≤ (s.slot k).state → (t.slot k).state = 0)
    ∧ (∀ k, (s.slot k).qspi = false → (s.slot k).state = 1 ∨ (s.slot k).state = 2 → (t.slot k).drop = true ∧ (t.slot k).state = (s.slot k).state)
    ∧ (∀ k, (s.slot k).qspi = true → t.slot k = s.slot k) := by
  refine ⟨_, execPcieReset_eq up s, ?_⟩
  obtain ⟨command, msix, table⟩ := s.tableReset.linkReset_words up
  have slot : ∀ k, (s.tableReset.linkReset up).slot k = s.slot k := State.slot_of_mb ((s.tableReset.linkReset_kept up).1.trans s.tableReset_mb)
  have kept := State.sameBut_foldl (l := [.mb, .reg .ic]) State.resetSlot_sameBut (s.tableReset.linkReset up) (finList 16)
  have each : ∀ k, (s.slot k).afterReset (((finList 16).foldl State.resetSlot (s.tableReset.linkReset up)).slot k) := fun k => by
    rw [← slot k]
    exact (State.slot_resetSlots _ (finList_nodup 16) _ k).1 (mem_finList k)
  rw [← kept .ic (by decide), kept.rd HM_PCI_CMD (by decide), kept.rd HM_PCI_MSIX (by decide)]
  exact ⟨(s.tableReset.linkReset_kept up).2, command, msix, fun k => (kept.rd _ (by simp [Reg.group])).trans ((table k).trans (s.tableReset_rd k)),
    fun k => (each k).1, fun k => (each k).2.1, fun k => (each k).2.2⟩

/-- Settles O51: each command by the rules of a slot. -/
theorem mailboxCommandsComplete : Obligations.MailboxCommandsComplete := by
  unfold Obligations.MailboxCommandsComplete
  refine ⟨?_, ?_, ?_, ?_, ?_, ?_, ?_, ?_, ?_, ?_, ?_, ?_, ?_, ?_, ?_, ?_⟩
  · intro k b o s empty low high
    refine ⟨s.slotWrite k o [b], rfl, ?_⟩
    have written : s.slotWrite k o [b] = s.setSlot k { s.slot k with cmd := memWrite (s.slot k).cmd o b } := by
      unfold State.slotWrite
      simp [low, high, empty]
    rw [written]
    exact ⟨State.slot_setSlot_same _ _ _, fun j hj => State.slot_setSlot_ne _ _ hj, State.sameBut_of_op fun _ _ => State.setSlot_framed⟩
  · intro k s empty owned
    refine ⟨s.postSlot k false, congrArg Host.Outcome.next (by rw [slots_of_word]; rfl), ?_⟩
    unfold State.postSlot
    dsimp only
    rw [if_neg (by simp [empty, owned])]
    have own : ∀ (u : State) (f : Mail → Mail) (j : Fin 16), (f u.mb).slots = u.mb.slots → (u.updMail f).slot j = u.slot j := fun u f j h =>
      congrArg (fun l : List (Fin 16 × MbSlot) => tget l j {}) h
    rw [own _ _ k rfl, State.slot_setSlot_same]
    exact ⟨rfl, rfl, rfl, fun j hj => (own _ _ j rfl).trans (State.slot_setSlot_ne _ _ hj)⟩
  · intro k s owned done
    refine ⟨s.freeSlot k false, congrArg Host.Outcome.next (by rw [slots_of_word]; rfl), ?_⟩
    unfold State.freeSlot
    dsimp only
    rw [if_neg (by simp only [owned, ne_eq, not_true_eq_false, false_or]; omega), if_neg (by omega), State.slot_emptySlot]
    exact ⟨rfl, rfl, State.get_slotSource _ k, fun j hj => State.slot_emptySlot_ne s hj⟩
  · intro k s open_
    refine ⟨s.freeSlot k false, congrArg Host.Outcome.next (by rw [slots_of_word]; rfl), ?_⟩
    unfold State.freeSlot
    exact if_pos (Or.inr open_)
  · intro k r s posted serves port header address recovery
    show ∃ t, execMbTake s = .next t ∧ _
    unfold execMbTake
    simp only [posted, serves, if_true]
    refine ⟨_, rfl, ?_⟩
    have slot : ∀ (b : Bool), ({ s with ic := { s.ic with hearthWaits := b } } : State).slot k = s.slot k := fun _ => rfl
    unfold State.takeSlot
    simp only [slot, port, header, address, recovery, Bool.false_eq_true, if_false, Bool.not_false, Bool.not_true, Bool.and_false, Bool.false_and]
    have own : ∀ (u : State) (f : Mail → Mail) (j : Fin 16), (f u.mb).slots = u.mb.slots → (u.updMail f).slot j = u.slot j := fun u f j h =>
      congrArg (fun l : List (Fin 16 × MbSlot) => tget l j {}) h
    rw [own _ _ k rfl, State.slot_setSlot_same]
    refine ⟨rfl, rfl, rfl, ?_⟩
    show s.mb.posted.filter (· ≠ k) = _
    rw [posted, filter_cons_ne]
  · intro k r c s posted serves port header keep
    show ∃ t, execMbTake s = .next t ∧ _
    unfold execMbTake
    simp only [posted, serves, if_true]
    refine ⟨_, rfl, ?_⟩
    have slot : ∀ (b : Bool), ({ s with ic := { s.ic with hearthWaits := b } } : State).slot k = s.slot k := fun _ => rfl
    unfold State.takeSlot
    simp only [slot, port, header, Bool.false_eq_true, if_false]
    rw [State.slot_endSlot, slot, keep, (State.lists_endSlot _ k _ _ _).2]
    refine ⟨rfl, rfl, ?_⟩
    show s.mb.posted.filter (· ≠ k) = _
    rw [posted, filter_cons_ne]
  · intro k c r s out busy first waits keep
    show ∃ t, execMbDone k s = .next t ∧ _
    unfold execMbDone
    simp only [out, busy, first, waits, and_self, if_true]
    refine ⟨_, rfl, ?_⟩
    rw [State.slot_endSlot, keep, (State.lists_endSlot _ k _ _ _).1]
    exact ⟨rfl, rfl, rfl, rfl, not_mem_filter_ne _ _⟩
  · intro k c r s out busy first waits keep
    show ∃ t, execMbDone k s = .next t ∧ _
    unfold execMbDone
    simp only [out, busy, first, waits, and_self, if_true]
    refine ⟨_, rfl, ?_⟩
    rw [State.slot_endSlot, keep, (State.lists_endSlot _ k _ _ _).1]
    exact ⟨rfl, rfl, not_mem_filter_ne _ _⟩
  · intro k s done
    refine ⟨s.statRead k, rfl, ?_⟩
    unfold State.statRead
    dsimp only
    rw [if_pos done, State.slot_put, State.slot_setSlot_same]
    exact ⟨rfl, rfl, rfl, State.get_slotSource _ k⟩
  · intro k s early
    show Host.Outcome.next (s.statRead k) = _
    unfold State.statRead
    dsimp only
    rw [if_neg (by omega), if_neg (fun h => by omega)]
  · intro s outside
    show ∃ t, execHearthRestart s = .next t ∧ _
    unfold execHearthRestart
    rw [if_neg (fun h => outside.elim (fun e => e h.1) (fun e => by simp [e] at h))]
    refine ⟨_, rfl, ?_⟩
    unfold State.hearthRestart State.bumpField
    dsimp only
    refine ⟨rfl, ?_, rfl, fun k taken keep => ?_⟩
    · rw [State.is_put_ne _ (by simp)]
      exact State.is_put_zero _ (by simp)
    · rw [State.slot_put, State.slot_put]
      exact State.slot_stays_ended s.mb.taken s keep (Or.inl taken)
  · intro s comp proving
    show execHearthRestart s = _
    unfold execHearthRestart
    rw [if_pos ⟨comp, proving⟩]
    unfold State.updFails
    rw [comp]
    rfl
  · intro s restarting recovery stopped
    show ∃ t, execHearthUp s = .next t ∧ _
    unfold execHearthUp
    rw [if_pos ⟨restarting, recovery, stopped⟩]
    refine ⟨_, rfl, ?_, ?_⟩
    · have kept : ∀ u : State, u.timeResume.hearthRest.mb = u.mb := fun u =>
        ((State.sameBut_of_op (l := postParts ++ [.reg .stk, .fresh, .stk, .ic]) fun _ _ => State.hearthRest_framed) .mb (by decide)).symm.trans
          ((State.sameBut_of_op (l := [.reg .tb, .time, .chain]) fun _ _ => State.timeResume_framed) .mb (by decide)).symm
      rw [kept]
      rfl
    · have kept : ∀ u : State, u.timeResume.hearthRest.rd HM_STAT = u.rd HM_STAT := fun u =>
        (State.rd_icWakeAll (by simp [Unposted]) (by simp [Reg.group]) _).trans
          ((State.sameBut_of_op (l := [.reg .tb, .time, .chain]) fun _ _ => State.timeResume_framed).rd HM_STAT (by decide))
      rw [State.is_of_rd (kept _)]
      exact State.is_putB _ HM_STAT.HEARTH_UP true (by simp) (by simp)
  · intro e r s waiting
    refine ⟨s.eventRead, rfl, ?_⟩
    unfold State.eventRead
    rw [waiting]
    extract_lets f u v
    have words : ∀ k, v.rd (HM_EVT_W k) = f.getD (k.val + 1) 0 := fun k =>
      State.rd_foldl_wr (fun a b h => by simpa using h) (fun k : Fin 4 => f.getD (k.val + 1) 0) _ _ k (mem_finList k)
    have evts : v.evts = u.evts := List.foldlRecOn (motive := fun v : State => v.evts = u.evts) _ _ rfl fun v hv _ _ => hv
    clear_value v
    exact ⟨evts, rfl, words⟩
  · intro o v s
    rfl
  · exact fun up s => pcieReset_resets up s

end Sys2Proof.Machine

/-! Locket and its mailbox commands: posts, flushes, filters, reads and marks (16 R524; 17 R534 to R547). -/

namespace Sys2Proof.Machine

open Sys2Proof

section
variable {s : State}

/-- A count of Locket that a post does not write. -/
theorem unposted_mramBad : Unposted LK_MRAM_BAD := by simp [Unposted]

/-- A bit of LK_STAT beside those a post writes. -/
theorem PostKeeps.mramErr : PostKeeps (fun u => u.is LK_STAT.MRAM_ERR = true) :=
  ⟨fun _ _ _ h => h, fun u h => (State.is_bump_ne u (by simp)).trans h, fun u _ h => (State.is_putB_ne u (Or.inl (by simp)) _).trans h,
    fun u h => (State.is_flag_ne u (Or.inr (by simp))).trans h, fun u h => (State.is_bump_ne u (by simp)).trans h,
    fun u h => (State.is_flag_ne u (Or.inr (by simp))).trans h, fun u h => (State.is_put_ne u (Or.inr (by simp)) _).trans h⟩

theorem State.startFlush_first (s : State) (idle : s.lk.flush = none) :
    s.startFlush = ({ s with lk := { s.lk with flush := some { start := s.now, first := s.lk.flushed, until_ := s.lk.next } } } : State).put LK_STAT.FLUSHING 1 := by
  unfold State.startFlush
  rw [idle]

theorem State.reportLost_none (none_ : s.lk.lost = 0) : s.reportLost = s := if_pos (Or.inl none_)

/-- A report of lost records does not touch the flush under way, nor the mark of a clean end. -/
theorem State.reportLost_flush (s : State) : s.reportLost.lk.flush = s.lk.flush := by
  have offered : ∀ (u : State) q, (u.offerEvent q).lk = u.lk := fun u q => by
    unfold State.offerEvent
    split
    · split
      · rfl
      · rfl
    · rfl
  have appended : ∀ (u : State) q, (u.appendRec q).lk.flush = u.lk.flush := fun u q => by
    unfold State.appendRec
    dsimp only
    split
    · exact (congrArg Locket.flush (offered _ q)).trans rfl
    · exact (congrArg Locket.flush (offered _ q)).trans rfl
  unfold State.reportLost
  split
  · rfl
  · exact appended _ _

theorem State.endFlush_flush (s : State) (f : Flush) : (s.endFlush f).lk.flush = none := by
  unfold State.endFlush
  rw [State.reportLost_flush]
  rfl

/-- The end of a flush with no record lost. -/
theorem State.endFlush_kept (s : State) (f : Flush) (none_ : s.lk.lost = 0) : (s.endFlush f).now = s.now ∧ (s.endFlush f).lk.flush = none
    ∧ (s.endFlush f).lk.flushed = f.until_ ∧ (s.endFlush f).lk.headerSeq = s.lk.headerSeq + 1 ∧ (s.endFlush f).is LK_STAT.FLUSHING = false
    ∧ (s.endFlush f).rd LK_FLUSHES = s.rd LK_FLUSHES + 1 := by
  unfold State.endFlush
  rw [State.reportLost_none none_]
  extract_lets v l u
  rw [State.reportLost_none (s := (u.put LK_STAT.FLUSHING 0).count LK_FLUSHES) none_]
  refine ⟨rfl, rfl, rfl, rfl, ?_, ?_⟩
  · rw [State.is_count_ne _ (by simp)]
    exact State.is_put_zero _ (by simp)
  · rw [State.rd_count, State.rd_put_ne _ _ (by simp)]
    rfl

theorem execPfFlushDone_marks (s : State) (power : s.pwr.pfail = true) (hold : s.pwr.pfHold = false) (reset : s.pwr.reset = false) (deferred : s.pwr.rstDeferred = false) :
    ∃ t, exec (.pfFlushDone) s = .next t ∧ t.is LK_STAT.PF_DONE = true ∧ t.lk.flush = none ∧ t.lk.clean = true ∧ t.is HM_STAT.HEARTH_UP = false := by
  obtain ⟨t, ht, -⟩ := exec_next .pfFlushDone s
  refine ⟨t, ht, ?_⟩
  replace ht : execPfFlushDone s = .next t := ht
  unfold execPfFlushDone at ht
  rw [if_neg (by simp [power, hold, reset])] at ht
  extract_lets a b c lk e f g h seq island u v at ht
  have ended : a.lk.flush = none ∧ a.pwr = s.pwr := by
    unfold a
    split
    · exact ⟨State.endFlush_flush _ _, ((State.sameBut_of_op (l := postParts) fun _ _ => State.endFlush_framed) .pwr (by decide)).symm⟩
    · next idle => exact ⟨idle, rfl⟩
  clear_value a
  have done : e.is LK_STAT.PF_DONE = true := State.is_putB b LK_STAT.PF_DONE true (by simp) (by simp)
  have flushed : e.lk.flush = none ∧ e.lk.clean = true := ⟨ended.1, rfl⟩
  have waits : e.pwr.rstDeferred = false := (congrArg Power.rstDeferred ended.2).trans deferred
  clear_value e
  have stopped : e.sameBut [.tiles] ((e.stopTiles 0).stopTiles 1) :=
    State.sameBut_of_op fun _ _ hs kf => State.stopTiles_framed (State.stopTiles_framed hs kf) kf
  have marks : f.is LK_STAT.PF_DONE = true ∧ f.is HM_STAT.HEARTH_UP = false :=
    ⟨(State.is_put_ne _ (by simp) _).trans ((stopped.is _ (by decide)).trans done), State.is_put_zero _ (by simp)⟩
  have fields : f.lk = e.lk ∧ f.pwr = e.pwr := ⟨(State.put_lk _ _ _).trans (stopped .lk (by decide)).symm, (State.put_pwr _ _ _).trans (stopped .pwr (by decide)).symm⟩
  clear_value f
  have busy : f.sameBut [.reg .kn, .kiln] g := State.sameBut_of_op fun _ _ hs kf => State.busyUp_framed (State.busyUp_framed hs kf) kf
  clear_value g
  have last : v.lk = g.lk ∧ v.pwr.rstDeferred = g.pwr.rstDeferred := ⟨rfl, rfl⟩
  have shown : v.is LK_STAT.PF_DONE = g.is LK_STAT.PF_DONE ∧ v.is HM_STAT.HEARTH_UP = g.is HM_STAT.HEARTH_UP := ⟨rfl, rfl⟩
  clear_value v
  rw [← busy .lk (by decide), fields.1] at last
  rw [← busy .pwr (by decide), fields.2, waits] at last
  rw [busy.is _ (by decide), busy.is _ (by decide), marks.1, marks.2] at shown
  rw [← Host.Outcome.next.inj ht, if_neg (by simp [last.2]), last.1]
  exact ⟨shown.1, flushed.1, flushed.2, shown.2⟩

end

/-- Settles O55: each command by what its function gives of its operands, the flushes by the rules of one. -/
theorem locketCommandsComplete : Obligations.LocketCommandsComplete := by
  unfold Obligations.LocketCommandsComplete
  refine ⟨?_, ?_, ?_, ?_, ?_, ?_, ?_, ?_, ?_, ?_, ?_, ?_, ?_, ?_, ?_, ?_, ?_, ?_, ?_, ?_⟩
  · intro k m i n s runs count range index number
    rw [count] at range number
    rw [index] at number
    have good : ¬ ((s.slot k).arg 8 1 = 0 ∨ 42 < (s.slot k).arg 8 1) := by omega
    refine ⟨_, State.exec_runCmd_ok runs rfl (by dsimp only; rw [if_neg good]), ?_⟩
    rw [number, index]
    exact ⟨State.cmdEnd_out _ _ _ _ _, State.cmdEnd_sameBut _ _ _ _ _⟩
  · intro k s runs range
    exact State.exec_runCmd_plain runs rfl (if_pos range)
  · intro k s runs
    exact State.exec_runCmd_ok runs rfl rfl
  · intro k s runs
    exact State.exec_runCmd_ok runs rfl rfl
  · intro k n s runs filter enable padding
    have n' : n = fin 8 ((s.slot k).arg 0 1) := by rw [← filter, fin_val]
    have good : ¬ (8 ≤ (s.slot k).arg 0 1 ∨ 2 ≤ (s.slot k).arg 1 1 ∨ (s.slot k).arg 2 2 ≠ 0) := by
      have := n.isLt
      omega
    subst n'
    refine ⟨_, State.exec_runCmd_ok runs rfl (if_neg good), ?_⟩
    refine ⟨tget_tset_same _ _ _ _, State.cmdEnd_out _ _ _ _ _, ?_⟩
    intro p hp
    cases p with
    | lk => exact absurd List.mem_cons_self hp
    | mb => exact absurd (List.mem_cons_of_mem _ List.mem_cons_self) hp
    | reg g => exact fun _ _ => rfl
    | _ => rfl
  · intro k s runs bad
    exact State.exec_runCmd_plain runs rfl (if_pos bad)
  · intro k u s runs posted open_ kept
    subst posted
    refine State.exec_runCmd_ok runs rfl (if_neg ?_)
    rcases kept with h | ⟨h, e⟩
    · simp [open_, h]
    · simp [open_, h, e]
  · intro k u s runs posted lost
    subst posted
    refine State.exec_runCmd_ok runs rfl (if_pos ?_)
    rcases lost with h | ⟨h, e⟩
    · simp [h]
    · simpa [h] using Or.inr e
  · intro ty sev a p c s closed
    exact congrArg Host.Outcome.next (if_pos closed)
  · intro ty sev a p c s open_ address
    show Host.Outcome.next (s.postAt ty sev.val a p c) = _
    unfold State.postAt
    simp only [open_, address, Bool.false_eq_true, if_false, if_true]
  · intro s idle
    refine ⟨s.startFlush, rfl, ?_⟩
    refine ⟨?_, ?_, State.sameBut.mono (l := [.reg .lk, .lk]) (State.sameBut_of_op fun _ _ => State.startFlush_framed) (by decide)⟩
    · rw [s.startFlush_first idle]
      rfl
    · rw [s.startFlush_first idle]
      exact State.is_putB _ LK_STAT.FLUSHING true (by simp) (by simp)
  · intro i s idle range
    show ∃ t, execLocketFlush (some i) s = .next t ∧ _
    unfold execLocketFlush
    rw [s.startFlush_first idle]
    dsimp only
    refine ⟨_, if_pos range, ?_, ?_⟩
    · rw [State.rd_post unposted_mramBad, State.rd_flag_ne _ (by simp), State.rd_bump]
      exact congrArg satInc (State.rd_put_ne _ _ (by simp))
    · exact PostKeeps.mramErr.post (State.is_flag _ _ (by simp) (by simp)) _ _ _ _
  · intro f s flushing none_
    show ∃ t, execLocketFlushDone s = .next t ∧ _
    unfold execLocketFlushDone
    rw [flushing]
    exact ⟨_, rfl, State.endFlush_kept (s.advance _) f none_⟩
  · intro s some_ idle
    show ∃ t, execLocketPeriodExpiry s = .next t ∧ _
    unfold execLocketPeriodExpiry
    rw [if_neg some_]
    refine ⟨_, rfl, ?_⟩
    rw [State.startFlush_first (s.advance _) idle]
    exact ⟨rfl, rfl⟩
  · intro s
    rfl
  · intro s
    exact ⟨_, rfl, rfl, (State.rd_wr_same s LK_NEXT_HI _), (sameBut_of_exec (c := .lkIndexLoRead .next) rfl).mono (by decide)⟩
  · intro s
    exact ⟨_, rfl, rfl, (State.rd_wr_same s LK_OLDEST_HI _), (sameBut_of_exec (c := .lkIndexLoRead .oldest) rfl).mono (by decide)⟩
  · intro s
    exact ⟨_, rfl, rfl, (State.rd_wr_same s LK_OPTIME_HI _), (sameBut_of_exec (c := .lkIndexLoRead .optime) rfl).mono (by decide)⟩
  · exact fun s => execPfFlushDone_marks s
  · intro s up power
    exact congrArg Host.Outcome.next (if_pos ⟨up, power⟩)

end Sys2Proof.Machine

/-! Updates: what each step leaves of the boot state, and the commands of an update (16 R525; 18 R568 to R576). -/

namespace Sys2Proof.Machine

open Sys2Proof

section
variable {s : State}

theorem State.setPhase_boot (s : State) (ph : Nat) (k : Fin 2) : (s.setPhase ph k).boot = { s.boot with upd := { s.boot.upd with phase := ph } } :=
  ((State.sameBut_post _ _ _ _ _) .boot (by decide)).symm

theorem State.showOtp_sameBut (s : State) : s.sameBut [.reg .hm, .reg .otp] s.showOtp := State.sameBut_of_op fun _ _ => State.showOtp_framed

/-- A word burnt into the OTP changes of the boot state the OTP alone. -/
theorem State.otpBurn_boot (s : State) (a : Nat) (v took : Word) :
    (s.otpBurn a v took).boot = { s.boot with otp := tset s.boot.otp a (s.otpWord a ||| (v &&& took)) } := by
  have shown : ∀ u : State, u.showOtp.boot = u.boot := fun u => (u.showOtp_sameBut .boot (by decide)).symm
  unfold State.otpBurn
  dsimp only
  split
  · exact shown _
  · exact (State.flag_boot _ _).trans (shown _)

theorem State.burnRollback_boot (s : State) (c : Fin 6) (n : Nat) : ∃ otp, (s.burnRollback c n).boot = { s.boot with otp := otp } := by
  unfold State.burnRollback
  refine List.foldlRecOn (motive := fun u : State => ∃ otp, u.boot = { s.boot with otp := otp }) _ _ ⟨s.boot.otp, rfl⟩ fun u hu i _ => ?_
  obtain ⟨otp, hu⟩ := hu
  exact ⟨_, (u.otpBurn_boot _ _ _).trans (by rw [hu])⟩

/-- A plane reloaded runs the image of its slot. -/
theorem State.reloadPlane_boot (s : State) (p k : Fin 2) :
    (s.reloadPlane p k).boot = { s.boot with running := tset s.boot.running (p, s.updComp) k } := by
  have tested : ∀ u : State, (u.planeTest p).boot = u.boot := fun u =>
    ((State.sameBut_of_op (l := [.reg .pc, .ic]) fun _ _ => State.planeTest_framed) .boot (by decide)).symm
  have down : (s.planeDown p).boot = s.boot := ((State.sameBut_of_op (l := [.reg .pc, .tiles, .pc, .ic]) fun _ _ => State.planeDown_framed) .boot (by decide)).symm
  unfold State.reloadPlane
  rw [tested]
  show { (s.planeDown p).boot with running := tset (s.planeDown p).boot.running (p, s.updComp) k } = _
  rw [down]

theorem runs_tset (l : List ((Fin 2 × Fin 6) × Fin 2)) (p : Fin 2 × Fin 6) (k : Fin 2) : (((tset l p k).find? fun q => decide (q.1 = p)).map fun q => q.2) = some k := by
  induction l with
  | nil => simp [tset]
  | cons q l ih =>
    unfold tset
    split
    · next e => simp [e]
    · next e => rw [List.find?_cons_of_neg (by simpa using e), ih]

/-- The inputs timed anew: of the island, the states of the inputs alone. -/
theorem State.timeInputs_si (s : State) : ∃ inputs, s.timeInputs.si = { s.si with inputs := inputs } := by
  unfold State.timeInputs
  refine List.foldlRecOn (motive := fun u : State => ∃ inputs, u.si = { s.si with inputs := inputs }) _ _ ⟨s.si.inputs, rfl⟩ fun u hu k _ => ?_
  obtain ⟨inputs, hu⟩ := hu
  have judged : ∀ v : State, ∃ inputs, (v.judgeInput k).si = { v.si with inputs := inputs } := fun v => ⟨_, rfl⟩
  obtain ⟨after, h⟩ := judged (u.setSin k { u.sin k with since := none })
  refine ⟨after, h.trans ?_⟩
  show { u.si with inputs := after } = _
  rw [hu]

/-- What a proving run that ends well leaves: the image confirmed, and the update's stage to be judged. -/
theorem updProvingDone_next (s : State) (proving : s.proving = true) (clean : s.boot.upd.mishap = false) :
    ∃ u : State, (∃ otp, u.boot = { s.boot with otp := otp, dir := tset s.boot.dir s.updComp (s.newSlot, 0) })
      ∧ exec .updProvingDone s = .next (if u.updatesPlanes = true ∧ u.boot.upd.stage = 2 then
          ((u.updUpd (fun x => { x with stage := 3 })).setPhase 4 s.newSlot).reloadPlane (1 - u.boot.upd.plane) s.newSlot
        else (u.updUpd (fun x => { x with stage := 0 })).setPhase 5 s.newSlot) := by
  obtain ⟨otp, burnt⟩ := (s.advanceOp s.boot.upd.proveAt).burnRollback_boot s.updComp ((s.advanceOp s.boot.upd.proveAt).mf s.updComp s.newSlot 16 1)
  refine ⟨((s.advanceOp s.boot.upd.proveAt).burnRollback s.updComp ((s.advanceOp s.boot.upd.proveAt).mf s.updComp s.newSlot 16 1)).setDir s.updComp (s.newSlot, 0),
    ⟨otp, ?_⟩, ?_⟩
  · unfold State.setDir State.updBoot
    dsimp only
    rw [burnt]
    rfl
  · show execUpdProvingDone s = _
    unfold execUpdProvingDone
    rw [if_neg (by simp [proving]), if_neg (by simp [clean])]
    dsimp only
    split
    · rfl
    · rfl

end

/-- Settles O59: each command by what it leaves of the boot state. -/
theorem updateCommandsComplete : Obligations.UpdateCommandsComplete := by
  unfold Obligations.UpdateCommandsComplete
  refine ⟨?_, ?_, ?_, ?_, ?_, ?_, ?_, ?_, ?_, ?_, ?_, ?_, ?_, ?_, ?_, ?_, ?_, ?_, ?_, ?_, ?_, ?_, ?_⟩
  · intro k c n s runs component length range padding size idle
    rw [component] at range
    rw [length] at size
    have good : ¬ ((s.slot k).arg 0 1 = 0 ∨ 6 < (s.slot k).arg 0 1 ∨ (s.slot k).arg 1 3 ≠ 0 ∨ (s.slot k).arg 4 4 = 0 ∨ 0x200000 < (s.slot k).arg 4 4) := by omega
    refine ⟨_, State.exec_runCmd_ok runs rfl (by dsimp only; rw [if_neg good, if_neg (by simp [idle])]), ?_⟩
    have boot : ∀ (u : State) (j : Fin 2), (s.cmdEnd (u.setPhase 1 j) k 0 []).boot = { u.boot with upd := { u.boot.upd with phase := 1 } } := fun u j => u.setPhase_boot 1 j
    refine ⟨?_, ?_, State.cmdEnd_out _ _ _ _ _, ?_⟩
    · rw [boot, component, length]
      rfl
    · unfold State.dir State.updComp
      rw [boot]
      exact congrArg Prod.snd (tget_tset_same _ _ _ _)
    · rw [boot]
      rfl
  · intro k s runs bad
    exact State.exec_runCmd_plain runs rfl (if_pos bad)
  · intro k s runs component padding length open_
    have good : ¬ ((s.slot k).arg 0 1 = 0 ∨ 6 < (s.slot k).arg 0 1 ∨ (s.slot k).arg 1 3 ≠ 0 ∨ (s.slot k).arg 4 4 = 0 ∨ 0x200000 < (s.slot k).arg 4 4) := by omega
    exact State.exec_runCmd_plain runs rfl (by dsimp only; rw [if_neg good, if_pos open_])
  · intro k o n s runs offset count phase checking next_ inside
    subst offset count
    exact State.exec_runCmd_ok runs rfl (by
      dsimp only
      rw [if_neg (by simp [phase, checking]), if_neg (by rw [not_or]; exact ⟨not_not.mpr next_, Nat.not_lt.mpr inside⟩)])
  · intro k s runs phase checking bad
    exact State.exec_runCmd_plain runs rfl (by dsimp only; rw [if_neg (by simp [phase, checking]), if_pos bad])
  · intro k s runs bad
    exact State.exec_runCmd_plain runs rfl (if_pos bad)
  · intro k s runs phase whole checking
    show execUpdVerify k s = _
    unfold execUpdVerify
    simp only [runs, if_true, phase, whole, and_self, checking, Option.isSome_none, Bool.false_eq_true, if_false]
  · intro k s runs bad
    show execUpdVerify k s = _
    unfold execUpdVerify
    have refused : ¬ ((s.boot.upd.phase = 1 ∨ s.boot.upd.phase = 2) ∧ s.boot.upd.got = s.updTotal) := fun h => bad.elim (fun e => h.1.elim e.1 e.2) (fun e => e h.2)
    simp only [runs, if_true, refused, if_false]
  · intro k at_ u s checking checked waits
    show execImageVerified s = _
    unfold execImageVerified
    rw [checking]
    dsimp only
    rw [← checked, if_neg (not_not.mpr waits)]
    have bytes : ∀ (j : Fin 2) (c : Fin 6) (i : Fin 2) (o n : Nat), (u.setPhase 2 j).slotBytes c i o n = u.slotBytes c i o n := fun j c i o n => by
      unfold State.slotBytes
      rw [State.setPhase_boot]
    have number : ∀ (j : Fin 2) (c : Fin 6) (i : Fin 2) (o n : Nat), (u.setPhase 2 j).mf c i o n = u.mf c i o n := fun j c i o n => congrArg ofLeBytes (bytes j c i o n)
    rw [bytes, number]
    split
    · rfl
    · rfl
  · intro k at_ u s checking checked waits
    show execImageVerified s = _
    unfold execImageVerified
    rw [checking]
    dsimp only
    rw [← checked, if_pos waits]
  · intro k s runs phase may component
    show execUpdActivate k s = _
    unfold execUpdActivate
    simp only [runs, if_true, phase, may, component, ne_eq, not_true_eq_false, Bool.true_eq_false, or_self, if_false]
  · intro k u s runs phase component recovery restarted
    subst restarted
    have may : s.mayActivate = true := by
      unfold State.mayActivate
      rw [component]
      rfl
    show execUpdActivate k s = _
    unfold execUpdActivate
    simp only [runs, if_true, phase, may, component, recovery, ne_eq, not_true_eq_false, Bool.true_eq_false, Bool.false_eq_true, or_self, if_false]
  · intro k s runs bad
    show execUpdActivate k s = _
    unfold execUpdActivate
    rw [if_pos runs, if_pos bad]
  · intro k s runs
    exact State.exec_runCmd_ok runs rfl rfl
  · intro k s runs phase
    refine ⟨_, State.exec_runCmd_ok runs rfl (by dsimp only; rw [if_pos phase]), ?_⟩
    have boot : ∀ (u : State) (j : Fin 2), (s.cmdEnd (u.setPhase 0 j) k 0 []).boot = { u.boot with upd := { u.boot.upd with phase := 0 } } := fun u j => u.setPhase_boot 0 j
    refine ⟨?_, State.cmdEnd_out _ _ _ _ _, ?_⟩
    · rw [boot]
      rfl
    · rw [boot]
      rfl
  · intro k s runs phase
    exact State.exec_runCmd_plain runs rfl (if_neg (not_or.mpr phase))
  · intro s proving clean other
    obtain ⟨u, ⟨otp, boot⟩, done⟩ := updProvingDone_next s proving clean
    rw [if_neg (by simp [State.updatesPlanes, boot] at other ⊢; simp [other])] at done
    refine ⟨_, done, ?_⟩
    unfold State.dir
    rw [State.setPhase_boot]
    exact ⟨rfl, rfl, (congrArg (fun b : BootState => tget b.dir s.updComp (0, 0)) boot).trans (tget_tset_same _ _ _ _)⟩
  · intro s proving mishap
    show execUpdProvingDone s = _
    unfold execUpdProvingDone
    rw [if_neg (by simp [proving]), if_pos mishap]
  · intro s proving clean planes stage
    obtain ⟨u, ⟨otp, boot⟩, done⟩ := updProvingDone_next s proving clean
    have both : u.updatesPlanes = true ∧ u.boot.upd.stage = 2 := by
      unfold State.updatesPlanes at planes ⊢
      rw [boot]
      exact ⟨planes, stage⟩
    rw [if_pos both] at done
    refine ⟨_, done, ?_⟩
    unfold State.dir State.runs State.updComp
    rw [State.reloadPlane_boot, State.setPhase_boot]
    refine ⟨rfl, (congrArg (fun b : BootState => tget b.dir s.updComp (0, 0)) boot).trans (tget_tset_same _ _ _ _), ?_⟩
    have comp : (((u.updUpd (fun x => { x with stage := 3 })).setPhase 4 s.newSlot).updComp) = s.updComp := by
      unfold State.updComp
      rw [State.setPhase_boot]
      exact (congrArg (fun b : BootState => (fin 6 (b.upd.comp - 1) : Fin 6)) boot).trans rfl
    rw [comp, show u.boot.upd.plane = s.boot.upd.plane from (congrArg (fun b : BootState => b.upd.plane) boot).trans rfl]
    exact runs_tset _ _ _
  · intro w s proving
    exact congrArg Host.Outcome.next (if_pos proving)
  · intro w s idle
    exact congrArg Host.Outcome.next (if_neg (by simp [idle]))
  · intro s idle
    exact if_pos idle
  · intro s restarting
    obtain ⟨t, ht, -⟩ := exec_next .safetyChannelRestartDone s
    refine ⟨t, ht, ?_⟩
    replace ht : execSafetyChannelRestartDone s = .next t := ht
    unfold execSafetyChannelRestartDone at ht
    rw [if_pos restarting] at ht
    extract_lets set old u v at ht
    obtain ⟨inputs, timed⟩ := u.timeInputs_si
    have island : v.si = { u.si with inputs := inputs } := timed
    have state : v.get SI_STAT.ISTATE = if s.si.dead then 3 else if set.isSome then 2 else 1 := by
      refine State.get_put_of_lt _ (by simp) ?_
      split
      · decide
      · split <;> decide
    clear_value v
    rw [← Host.Outcome.next.inj ht]
    refine ⟨?_, ?_, ?_, state⟩
    · exact (congrArg Island.restarting island).trans rfl
    · exact (congrArg Island.set island).trans rfl
    · exact (congrArg Island.snap island).trans rfl

end Sys2Proof.Machine

/-! Power fail: every joint port disarmed, every gate and every safe output off (19 R586 to R601). -/

namespace Sys2Proof.Machine

open Sys2Proof

section
variable {s t : State} {n m : Fin 64}

/-- What keeps the lists of the ports and of the registers keeps each port. -/
theorem State.samePort_of_fields (ports : t.ports = s.ports) (regs : t.regs = s.regs) (n : Fin 64) : s.samePort t n :=
  ⟨congrArg (fun l : List (Fin 64 × Port) => tget l n {}) ports, fun _ => State.rd_of_regs regs _⟩

/-- A joint port in DISARMED with no gate on. -/
def State.disarmed (s : State) (n : Fin 64) : Prop := s.gatesOff n ∧ s.get (PWM_STAT.STATE n) = 0

theorem State.samePort.disarmed (h : s.samePort t n) (d : s.disarmed n) : t.disarmed n :=
  ⟨fun l => by rw [h.1]; exact d.1 l, (h.get (PWM_STAT.STATE n) rfl).trans d.2⟩

theorem State.disarmed.showStill (d : s.disarmed n) (m : Fin 64) : (s.showStill m).disarmed n :=
  ⟨fun l => by rw [State.port_showStill]; exact d.1 l, (State.get_putB_ne _ (Or.inl (by simp)) _).trans d.2⟩

theorem State.disarmed_port (s : State) (n : Fin 64) : (s.disarmPort n).disarmed n := by
  unfold State.disarmPort
  refine State.showStillArm_keeps (P := fun u => u.disarmed n) (fun u m h => h.showStill m) _ ⟨State.gatesOff_updPort _ _ rfl, ?_⟩
  rw [State.updPort_get _ _ _ (by simp)]
  exact State.get_put_of_lt _ (by simp) (by simp)

theorem State.disarmed.port (d : s.disarmed n) (m : Fin 64) : (s.disarmPort m).disarmed n := by
  by_cases e : n = m
  · exact e ▸ s.disarmed_port n
  · unfold State.disarmPort
    refine State.showStillArm_keeps (P := fun u => u.disarmed n) (fun u m h => h.showStill m) _ ?_
    refine State.samePort.disarmed ?_ d
    exact ((State.samePort_put _ fun k => port_ne e k _).trans (State.samePort_put _ fun k => port_ne e k _)).trans (State.samePort_updPort e _)

/-- Every port of a list disarmed one after the other. -/
theorem State.disarmed_ports (l : List (Fin 64)) (s : State) (h : n ∈ l ∨ s.disarmed n) : (l.foldl State.disarmPort s).disarmed n := by
  induction l generalizing s with
  | nil => exact h.resolve_left List.not_mem_nil
  | cons m l ih =>
    refine ih _ ?_
    rcases h with h | h
    · rcases List.mem_cons.mp h with rfl | h
      · exact Or.inr (s.disarmed_port n)
      · exact Or.inl h
    · exact Or.inr (h.port m)

/-- One safe output de-energised. -/
def State.outputOff (s : State) (k : Fin 12) : Prop := (s.sout k).on = none ∧ (s.sout k).p1 = false ∧ (s.sout k).p2 = false

theorem State.sout_setSout (s : State) (k : Fin 12) (x : OutputState) : (s.setSout k x).sout k = x := tget_tset_same _ _ _ _

theorem State.sout_setSout_ne (s : State) {k j : Fin 12} (x : OutputState) (h : j ≠ k) : (s.setSout k x).sout j = s.sout j := tget_tset_ne _ _ _ h

theorem State.outputOff_outOff (s : State) (k : Fin 12) : (s.outOff k).outputOff k := by
  unfold State.outputOff State.outOff
  rw [State.sout_setSout]
  exact ⟨rfl, rfl, rfl⟩

theorem State.outputOff_outOffs (l : List (Fin 12)) (s : State) (k : Fin 12) (h : k ∈ l ∨ s.outputOff k) : (l.foldl State.outOff s).outputOff k := by
  induction l generalizing s with
  | nil => exact h.resolve_left List.not_mem_nil
  | cons j l ih =>
    refine ih _ ?_
    by_cases e : k = j
    · subst e
      exact Or.inr (s.outputOff_outOff k)
    · refine h.imp (fun h => (List.mem_cons.mp h).resolve_left e) fun h => ?_
      unfold State.outputOff State.outOff at *
      rw [State.sout_setSout_ne _ _ e]
      exact h

theorem State.outputsOff_of_si (h : t.si.outputs = s.si.outputs) (off : s.outputsOff) : t.outputsOff := fun k => by
  have same : t.sout k = s.sout k := congrArg (fun l : List (Fin 12 × OutputState) => tget l k {}) h
  rw [same]
  exact off k

/-- What power fail ends beside the joint ports. -/
def State.disarmOthers (s : State) : State :=
  let s := (finList 16).foldl (fun s i => s.put (STP_CTRL.PIN_ARM i) 0) s
  let s := (finList 64).foldl (fun s n =>
    let s := s.put (FB_CTRL.OUT_EN n) 0
    if s.serialOn n then ((s.put (FB_CTRL.EN n) 0).put (FB_STAT.VALID n) 0).setFb n { s.fb n with reading := none } else s) s
  let s := { s.put SDC_CTRL.ARM 0 with sdclk := { s.sdclk with start := [] } }
  let s := (finList 8).foldl (fun s n => s.tpoArm n false) s
  let s := ((finList 12).foldl State.outOff s).showOutputs
  { s with si := { s.si with tpsLow := (finList 4).map (fun n => (n, s.now)) } }

/-- None of it is a joint port. -/
theorem State.samePort_disarmOthers (s : State) (n : Fin 64) : s.samePort s.disarmOthers n := by
  unfold State.disarmOthers
  extract_lets a b drive clocks c d e island
  have pins : s.samePort a n := List.foldlRecOn (motive := fun u : State => s.samePort u n) _ _ (State.samePort.refl s n) fun u hu i _ =>
    hu.trans (State.samePort_put _ (by simp))
  have readings : a.samePort b n := List.foldlRecOn (motive := fun u : State => a.samePort u n) _ _ (State.samePort.refl a n) fun u hu m _ => by
    have out : a.samePort (u.put (FB_CTRL.OUT_EN m) 0) n := hu.trans (State.samePort_put _ (by simp))
    dsimp only
    split
    · exact ((out.trans (State.samePort_put _ (by simp))).trans (State.samePort_put _ (by simp))).trans (State.samePort_of_fields (State.setFb_ports _ _ _) (State.setFb_regs _ _ _) n)
    · exact out
  have modulators : b.samePort drive n := State.samePort_put (f := SDC_CTRL.ARM) 0 (by simp)
  clear_value drive
  have fields : c.ports = drive.ports ∧ c.regs = drive.regs := ⟨rfl, rfl⟩
  have stopped : drive.samePort c n := State.samePort_of_fields fields.1 fields.2 n
  have pulses : c.samePort d n :=
    (State.sameBut_foldl (l := [.reg .tpo, .pulses]) (fun u m => State.sameBut_of_op fun _ _ => State.tpoArm_framed) c _).samePort n (by decide) (by decide)
  have outputs : d.samePort e n :=
    ((State.sameBut_foldl (l := [.si]) (fun u k => State.sameBut_of_op fun _ _ => State.outOff_framed) d _).samePort n (by decide) (by decide)).trans
      ((State.sameBut_of_op (l := [.reg .si]) fun _ _ => State.showOutputs_framed).samePort n (by decide) (by decide))
  clear_value e
  exact ((((pins.trans readings).trans modulators).trans stopped).trans pulses).trans (outputs.trans (State.samePort_of_fields rfl rfl n))

theorem State.disarmOthers_outputsOff (s : State) : s.disarmOthers.outputsOff := by
  unfold State.disarmOthers
  extract_lets a b drive clocks c d e island
  have off : e.outputsOff :=
    State.outputsOff_of_si (congrArg Island.outputs ((State.sameBut_of_op (l := [.reg .si]) fun _ _ => State.showOutputs_framed) .si (by decide)).symm)
      fun k => State.outputOff_outOffs (finList 12) d k (Or.inl (mem_finList k))
  clear_value e
  exact State.outputsOff_of_si rfl off

/-- Power fail outside reset. -/
theorem pfailAssert_safe (at_ : Nat) (s : State) (power : s.pwr.pfail = false) (supplies : s.pwr.supplies = true) (reset : s.pwr.reset = false) :
    ∃ t, exec (.pfailAssert at_) s = .next t ∧ t.now = max s.now at_ ∧ t.pwr.pfail = true ∧ t.lk.closed = true ∧ t.lk.flush.isSome = true
      ∧ (∀ n, t.gatesOff n) ∧ t.outputsOff ∧ (∀ n, t.get (PWM_STAT.STATE n) = 0) := by
  obtain ⟨t, ht, -⟩ := exec_next (.pfailAssert at_) s
  refine ⟨t, ht, ?_⟩
  replace ht : execPfailAssert at_ s = .next t := ht
  unfold execPfailAssert at ht
  rw [if_neg (by simp [power, supplies])] at ht
  extract_lets a b c d locket at ht
  have running : ¬ a.pwr.reset = true := by
    show ¬ s.pwr.reset = true
    simp [reset]
  have time : a.now = max s.now at_ ∧ a.pwr.pfail = true := ⟨rfl, rfl⟩
  clear_value a
  have off : a.disarmAll.sameBut (postParts ++ [.reg .tb, .reg .ch, .reg .cp, .time, .ic, .chain, .boot]) b := State.sameBut_of_op fun _ _ => State.chainOff_framed
  have noted : b.sameBut postParts c := State.sameBut_of_op fun _ _ => State.appendRec_framed
  have flushed : c.sameBut [.reg .lk, .lk] d := State.sameBut_of_op fun _ _ => State.startFlush_framed
  have kept : a.disarmAll.sameBut (postParts ++ [.reg .tb, .reg .ch, .reg .cp, .time, .ic, .chain, .boot]) d :=
    State.sameBut_trans off (State.sameBut_trans (noted.mono (by decide)) (flushed.mono (by decide)))
  have down : a.sameBut [.reg .tpo, .reg .port, .reg .sdc, .reg .fb, .reg .stp, .reg .si, .pulses, .ports, .sdclk, .fbs, .si] a.disarmAll :=
    State.sameBut_of_op fun _ _ => State.disarmAll_framed
  have flush : d.lk.flush.isSome = true := by
    unfold d State.startFlush
    split <;> rfl
  clear_value d
  rw [if_neg running] at ht
  rw [← Host.Outcome.next.inj ht]
  have ports : ∀ n, d.disarmed n := fun n =>
    (kept.samePort n (by decide) (by decide)).disarmed ((State.samePort_disarmOthers _ n).disarmed (State.disarmed_ports _ a (Or.inl (mem_finList n))))
  refine ⟨?_, ?_, rfl, flush, fun n => (ports n).1, ?_, fun n => (ports n).2⟩
  · exact (kept .now (by decide)).symm.trans ((down .now (by decide)).symm.trans time.1)
  · exact (congrArg Power.pfail ((kept .pwr (by decide)).symm.trans (down .pwr (by decide)).symm)).trans time.2
  · exact State.outputsOff_of_si (congrArg Island.outputs (kept .si (by decide)).symm) (State.disarmOthers_outputsOff _)

end

end Sys2Proof.Machine

/-! Boot, OTP programming, pin release, supplies and the reset pin: the commands of power (18 R550; 19 R586 to R601). -/

namespace Sys2Proof.Machine

open Sys2Proof

section
variable {s : State}

/-- Through reset a port keeps the level of its trip pin alone. -/
theorem State.kept_legs (s : State) (n : Fin 64) : (s.kept.port n).legs = [] := by
  have each : ∀ l : List (Fin 64 × Port), (tget (l.map fun q => (q.1, ({ pinLevel := q.2.pinLevel } : Port))) n {}).legs = [] := fun l => by
    induction l with
    | nil => rfl
    | cons q l ih =>
      show (if q.1 = n then ({ pinLevel := q.2.pinLevel } : Port) else tget (l.map fun q => (q.1, ({ pinLevel := q.2.pinLevel } : Port))) n {}).legs = []
      split
      · rfl
      · exact ih
  exact each s.ports

theorem State.showOtp_busy (s : State) : s.showOtp.is OTP_STAT.BUSY = s.is OTP_STAT.BUSY := by
  unfold State.showOtp
  extract_lets bits w a b c
  have stat : a.is OTP_STAT.BUSY = s.is OTP_STAT.BUSY := by
    unfold a
    rw [State.is_putB_ne _ (by simp), State.is_putB_ne _ (by simp), State.is_putB_ne _ (by simp), State.is_putB_ne _ (by simp)]
  have valid : b.is OTP_STAT.BUSY = a.is OTP_STAT.BUSY := by
    unfold b
    rw [State.is_put_ne _ (by simp), State.is_put_ne _ (by simp)]
  have counts : c.is OTP_STAT.BUSY = b.is OTP_STAT.BUSY := List.foldlRecOn (motive := fun u : State => u.is OTP_STAT.BUSY = b.is OTP_STAT.BUSY) _ _ rfl
    fun u hu k _ => (State.is_wr_ne _ _ (by simp)).trans hu
  rw [State.is_putB_ne _ (by simp), State.is_wr_ne _ _ (by simp), counts, valid, stat]

theorem State.otpBurn_busy (s : State) (a : Nat) (v took : Word) : (s.otpBurn a v took).is OTP_STAT.BUSY = s.is OTP_STAT.BUSY := by
  unfold State.otpBurn
  dsimp only
  split
  · exact State.showOtp_busy _
  · exact (State.is_flag_ne _ (by simp)).trans (State.showOtp_busy _)

theorem State.otpBurn_now (s : State) (a : Nat) (v took : Word) : (s.otpBurn a v took).now = s.now :=
  ((State.sameBut_of_op (l := [.reg .hm, .reg .otp, .boot]) fun _ _ => State.otpBurn_framed) .now (by decide)).symm

/-- Entering reset: the causes and flags, and what is kept. -/
theorem State.enterReset_kept (s : State) (cause : Nat) : (s.enterReset cause).now = s.now
    ∧ (s.enterReset cause).pwr = { s.pwr with reset := true, cause := cause, pfDone := false, pfHold := false, rstDeferred := false }
    ∧ (s.enterReset cause).boot.otp = s.boot.otp ∧ (s.enterReset cause).boot.flash = s.boot.flash ∧ (s.enterReset cause).lk.ring = s.lk.ring
    ∧ (∀ n, (s.enterReset cause).gatesOff n) ∧ (s.enterReset cause).outputsOff := by
  have shown := State.showOtp_sameBut
  unfold State.enterReset
  refine ⟨(shown _ .now (by decide)).symm.trans rfl, (shown _ .pwr (by decide)).symm.trans rfl, (congrArg BootState.otp (shown _ .boot (by decide)).symm).trans rfl,
    (congrArg BootState.flash (shown _ .boot (by decide)).symm).trans rfl, (congrArg Locket.ring (shown _ .lk (by decide)).symm).trans rfl, fun n l => ?_, fun k => ?_⟩
  · have port : ∀ u : State, u.showOtp.port n = u.port n := fun u => congrArg (fun l : List (Fin 64 × Port) => tget l n {}) (shown u .ports (by decide)).symm
    have gates : ((s.kept.updPwr fun p => { p with reset := true, cause := cause, pfDone := false, pfHold := false, rstDeferred := false }).port n).legs = [] := s.kept_legs n
    rw [port, gates]
    exact ⟨rfl, rfl⟩
  · have out : ∀ u : State, u.showOtp.sout k = u.sout k := fun u => congrArg (fun i : Island => tget i.outputs k {}) (shown u .si (by decide)).symm
    rw [out]
    exact ⟨rfl, rfl, rfl⟩

theorem State.endReset_of_power (s : State) (supplies : s.pwr.supplies = true) (power : s.pwr.pfail = false) : s.endReset = s.updPwr fun p => { p with reset := false } :=
  congrArg (fun p : Power => { s with pwr := p }) (if_pos ⟨supplies, power⟩)

theorem State.endReset_pwr (s : State) (supplies : s.pwr.supplies = true) (power : s.pwr.pfail = false) : s.endReset.pwr = { s.pwr with reset := false } :=
  congrArg State.pwr (State.endReset_of_power s supplies power)

end

/-- Settles O60: boot by its branches, the OTP word by its burning, the supplies and the pin by the rules of reset. -/
theorem powerBootAndPinsComplete : Obligations.PowerBootAndPinsComplete := by
  have release : ∀ (s : State) (k : Fin 5), s.canRelease k = true → s.releasePins k = s.put ⟨PIN_REL, k.val, 1⟩ 1 := fun s k h => if_pos h
  have refuse : ∀ (s : State) (k : Fin 5), s.canRelease k = false → s.releasePins k = s.flag PIN_STAT.REL_REFUSED := fun s k h => if_neg (by simp [h])
  unfold Obligations.PowerBootAndPinsComplete
  refine ⟨?_, ?_, ?_, ?_, ?_, ?_, ?_, ?_, ?_, ?_, ?_, ?_, ?_, ?_, ?_, ?_, ?_, ?_, ?_, ?_, ?_, ?_, ?_, ?_, ?_⟩
  · intro u s booted reset supplies power started none_
    show execBoot s = _
    unfold execBoot
    rw [if_neg (by simp [booted, reset, supplies, power])]
    dsimp only
    rw [← started, if_pos (by simp [none_])]
  · intro u s booted reset supplies power started some_ other
    show execBoot s = _
    unfold execBoot
    rw [if_neg (by simp [booted, reset, supplies, power])]
    dsimp only
    rw [← started, if_neg (by rw [Option.isNone_eq_false_iff.mpr some_]; decide), if_neg (fun h => other.elim (fun e => e h.1) (fun e => e h.2.1))]
    split
    · next none_ => simp only [none_]
    · next k some_ => simp only [some_]
  · intro s refuses idle
    refine ⟨s.otpProgram .hearth, rfl, ?_⟩
    unfold State.otpProgram
    rw [if_neg (by simp [refuses, idle])]
    exact ⟨State.is_putB s OTP_STAT.BUSY true (by simp) (by simp), rfl, rfl⟩
  · intro who s refused
    exact congrArg Host.Outcome.next (if_pos refused)
  · intro took v a at_ s programming
    show ∃ t, execOtpProgramDone took s = .next t ∧ _
    unfold execOtpProgramDone
    rw [programming]
    refine ⟨_, rfl, ?_⟩
    unfold State.otpWord
    rw [State.otpBurn_now, State.otpBurn_busy, State.otpBurn_boot]
    exact ⟨rfl, rfl, State.is_put_zero _ (by simp), tget_tset_same _ _ _ _, fun b hb => tget_tset_ne _ _ _ hb⟩
  · intro s h
    exact congrArg Host.Outcome.next (release s 0 h)
  · intro s h
    exact congrArg Host.Outcome.next (refuse s 0 h)
  · intro s h
    exact congrArg Host.Outcome.next (release s 1 h)
  · intro s h
    exact congrArg Host.Outcome.next (refuse s 1 h)
  · intro s h
    exact congrArg Host.Outcome.next (release s 2 h)
  · intro s h
    exact congrArg Host.Outcome.next (refuse s 2 h)
  · intro s h
    exact congrArg Host.Outcome.next (release s 3 h)
  · intro s h
    exact congrArg Host.Outcome.next (refuse s 3 h)
  · intro s h
    exact congrArg Host.Outcome.next (release s 4 h)
  · intro s h
    exact congrArg Host.Outcome.next (refuse s 4 h)
  · intro high core s
    exact ⟨_, rfl, rfl, rfl, sameBut_of_exec (c := .keepaliveTick high core) rfl⟩
  · intro at_ kept vddKa pf s supplies
    show ∃ t, execPor at_ kept vddKa pf s = .next t ∧ _
    unfold execPor
    rw [if_neg (by simp [supplies])]
    refine ⟨_, rfl, ?_⟩
    split
    · exact ⟨rfl, rfl, rfl, rfl, rfl⟩
    · unfold State.endReset State.updPwr
      dsimp only
      split
      · exact ⟨rfl, rfl, rfl, rfl, rfl⟩
      · exact ⟨rfl, rfl, rfl, rfl, rfl⟩
  · intro at_ s supplies hold
    show ∃ t, execBrownout at_ s = .next t ∧ _
    unfold execBrownout
    simp only [supplies, hold, Bool.true_eq_false, Bool.false_eq_true, if_false]
    refine ⟨_, rfl, ?_⟩
    obtain ⟨now_, pwr, otp, flash, ring, gates, outputs⟩ := State.enterReset_kept
      ({ (s.advance at_).updPwr (fun p => { p.countCycle with supplies := false }) with lk := { s.lk with clean := false } } : State) 2
    exact ⟨now_, (congrArg Power.supplies pwr).trans rfl, (congrArg Power.reset pwr).trans rfl, (congrArg Power.cause pwr).trans rfl, otp, flash, ring, gates, outputs⟩
  · intro s low pin stuck reset hold power
    show ∃ t, execRstNLow s = .next t ∧ _
    unfold execRstNLow
    rw [if_neg (by simp [pin]; omega)]
    dsimp only [State.updPwr]
    simp only [stuck, reset, hold, power, Bool.false_eq_true, or_self, if_false]
    refine ⟨_, rfl, ?_⟩
    obtain ⟨now_, pwr, otp, flash, ring, gates, outputs⟩ := State.enterReset_kept (s.updPwr fun p => { p with rstIsLow := true }) 3
    exact ⟨now_, (congrArg Power.rstIsLow pwr).trans rfl, (congrArg Power.reset pwr).trans rfl, (congrArg Power.cause pwr).trans rfl, otp, flash, ring, gates, outputs⟩
  · intro s low pin stuck reset hold power
    show ∃ t, execRstNLow s = .next t ∧ _
    unfold execRstNLow
    rw [if_neg (by simp [pin]; omega)]
    refine ⟨_, (if_neg (by simp [State.updPwr, stuck, reset, hold])).trans (if_pos power), rfl, ?_⟩
    exact State.sameBut_of_op fun _ _ hs kf => State.updPwr_framed (State.updPwr_framed hs kf) kf
  · intro s high pin stuck reset cause supplies power
    show ∃ t, execRstNHigh s = .next t ∧ _
    unfold execRstNHigh
    dsimp only
    rw [if_neg (by simp [pin]; omega), if_pos ⟨stuck, Or.inl ⟨reset, cause⟩⟩, if_pos reset]
    refine ⟨_, congrArg Host.Outcome.next (State.endReset_of_power _ (by exact supplies) (by exact power)), rfl, rfl, rfl, rfl, State.sameBut_of_op fun _ _ hs kf => State.updPwr_framed (State.updPwr_framed (State.updPwr_framed hs kf) kf) kf⟩
  · intro s reset cause holds qualified held supplies power
    show ∃ t, execResetStuck s = .next t ∧ _
    unfold execResetStuck
    dsimp only
    rw [if_pos ⟨reset, cause, holds, qualified, held⟩]
    refine ⟨_, congrArg Host.Outcome.next (State.endReset_of_power _ (by exact supplies) (by exact power)), rfl, rfl, rfl, State.sameBut_of_op fun _ _ hs kf => State.updPwr_framed (State.updPwr_framed hs kf) kf⟩
  · intro s stuck high
    refine ⟨_, congrArg Host.Outcome.next (if_pos ⟨stuck, high⟩), rfl, ?_⟩
    exact State.sameBut_of_op fun _ _ => State.updPwr_framed
  · exact fun at_ s => pfailAssert_safe at_ s
  · intro at_ s hold supplies holds
    show ∃ t, execPfRestart at_ s = .next t ∧ _
    unfold execPfRestart
    rw [if_pos hold]
    refine ⟨_, rfl, ?_⟩
    obtain ⟨now_, pwr, -⟩ := State.enterReset_kept
      ((s.advance at_).updPwr fun p => { p.countCycle with pfail := false, powerUp := true, kaValid := true }) 4
    have pin : ¬ (((s.advance at_).updPwr fun p => { p.countCycle with pfail := false, powerUp := true, kaValid := true }).enterReset 4).pwr.pinHolds = true := by
      rw [pwr]
      exact Bool.eq_false_iff.mp holds
    rw [if_neg pin, State.endReset_pwr _ ((congrArg Power.supplies pwr).trans supplies) ((congrArg Power.pfail pwr).trans rfl), pwr]
    exact ⟨now_, rfl, rfl, rfl⟩

end Sys2Proof.Machine

/-! The interrupt controller: levels, claims and their ends, hold-off, redirection and setup. -/

namespace Sys2Proof.Machine

open Sys2Proof

section
variable {s : State} {r : Reg}

theorem State.rd_eventRelease (free : Unposted r) (stack : r.group ≠ .stk) (s : State) (n : Fin 512) : (s.eventRelease n).rd r = s.rd r := by
  unfold State.eventRelease
  refine List.foldlRecOn (motive := fun u : State => u.rd r = s.rd r) _ _ rfl fun u hu m _ => ?_
  have released := (State.rd_releaseTask free stack u m).trans hu
  split
  · next v e =>
    rw [e] at released
    exact released
  · next v e =>
    rw [e] at released
    unfold State.hold
    split
    · exact released
    · exact released

theorem State.rd_icWake (free : Unposted r) (stack : r.group ≠ .stk) (s : State) (n : Fin 512) : (s.icWake n).rd r = s.rd r := by
  unfold State.icWake
  split
  · split
    · rfl
    · exact State.rd_wakeOf free stack s _
    · rfl
  · rfl

theorem State.icTimers_rd (s : State) (r : Reg) : s.icTimers.rd r = s.rd r := rfl

theorem State.eventRelease_now (s : State) (n : Fin 512) : (s.eventRelease n).now = s.now :=
  (State.sameBut_of_op (l := postParts ++ [.reg .stk, .stk]) (fun _ _ => State.eventRelease_framed) .now (by decide)).symm

theorem State.icWake_now (s : State) (n : Fin 512) : (s.icWake n).now = s.now :=
  (State.sameBut_of_op (l := postParts ++ [.reg .stk, .stk, .ic]) (fun _ _ => State.icWake_framed) .now (by decide)).symm

theorem State.icRefresh_rd (s : State) {n : Fin 512} (h : r ≠ (icPend n).reg) : (s.icRefresh n).rd r = s.rd r := by
  unfold State.icRefresh
  split
  · exact State.rd_put_ne _ _ h
  · split
    · rfl
    · exact State.rd_put_ne _ _ h

theorem State.icRefresh_now (s : State) (n : Fin 512) : (s.icRefresh n).now = s.now := by
  unfold State.icRefresh
  split
  · rfl
  · split
    · rfl
    · rfl

theorem srcBit_fits (f : Fin 16 → Reg) (n : Fin 512) : (srcBit f n).lo + (srcBit f n).width ≤ 32 := by
  dsimp only [srcBit]
  omega

theorem icPend_fits (n : Fin 512) : (icPend n).lo + (icPend n).width ≤ 32 := srcBit_fits _ n

theorem icLive_fits (n : Fin 512) : (icLive n).lo + (icLive n).width ≤ 32 := srcBit_fits _ n

theorem icClaimed_fits (n : Fin 512) : (icClaimed n).lo + (icClaimed n).width ≤ 32 := srcBit_fits _ n

theorem icLive_one (n : Fin 512) : 0 < (icLive n).width := Nat.one_pos

/-- A level shown reads back. -/
theorem State.is_live (s : State) (n : Fin 512) (b : Bool) : (s.putB (icLive n) b).is (icLive n) = b := State.is_putB s _ b (icLive_fits n) (icLive_one n)

/-- A level source is pending exactly while its level stands and nobody has claimed it. -/
theorem State.icRefresh_level (s : State) {n : Fin 512} (open_ : n.val < 430 ∨ 448 ≤ n.val) (edge : s.is (IC_SRC_CFG.EDGE n) = false) :
    (s.icRefresh n).is (icPend n) = (s.is (icLive n) && !s.is (icClaimed n)) := by
  unfold State.icRefresh
  rw [if_neg (by omega), if_neg (by rw [edge]; decide)]
  exact State.is_putB _ _ _ (icPend_fits n) Nat.one_pos

/-- Whether a source has a derived level does not depend on the state. -/
theorem State.srcLevel_none {n : Fin 512} (h : s.srcLevel n = none) (u : State) : u.srcLevel n = none := by
  unfold State.srcLevel at h ⊢
  simp only [ite_eq_iff, reduceCtorEq, and_false, false_or, and_true] at h ⊢
  exact h

end

section
variable (s : State) (i : Fin 64) (n : Fin 512) (redirected : Bool)

/-- A claim: the claim word, the source claimed and no longer pending. -/
theorem State.icClaim_kept :
    (s.icClaim i n redirected).rd (IC_CLAIM i) = BitVec.ofNat 32 (n.val + 2 ^ 9 + if redirected then 2 ^ 12 else 0)
    ∧ (s.icClaim i n redirected).is (icClaimed n) = true ∧ (s.icClaim i n redirected).is (icPend n) = false ∧ (s.icClaim i n redirected).now = s.now
    ∧ (s.icClaim i n redirected).rd IC_REDIRECTS = s.rd IC_REDIRECTS := by
  unfold State.icClaim
  extract_lets a b g h
  have claim : b.rd (IC_CLAIM i) = BitVec.ofNat 32 (n.val + 2 ^ 9 + if redirected then 2 ^ 12 else 0) := by
    unfold b
    rw [State.rd_put_ne _ _ (by simp [icPend, srcBit]), State.rd_put_ne _ _ (by simp [icClaimed, srcBit]), State.rd_put_ne _ _ (by simp)]
    exact State.rd_wr_same _ _ _
  have claimed : b.is (icClaimed n) = true := by
    unfold b
    rw [State.is_put_ne _ (Or.inl (by simp [icPend, icClaimed, srcBit]))]
    exact State.is_flag _ _ (icClaimed_fits n) (by simp [icClaimed, srcBit])
  have pend : b.is (icPend n) = false := State.is_put_zero _ (icPend_fits n)
  have now_ : b.now = s.now := rfl
  have count : b.rd IC_REDIRECTS = s.rd IC_REDIRECTS := by
    unfold b
    rw [State.rd_put_ne _ _ (by simp [icPend, srcBit]), State.rd_put_ne _ _ (by simp [icClaimed, srcBit]), State.rd_put_ne _ _ (by simp)]
    exact State.rd_wr_ne _ _ (by simp)
  clear_value b
  split
  · exact ⟨claim, claimed, pend, now_, count⟩
  · refine ⟨?_, ?_, ?_, now_, (State.rd_put_ne _ _ (by simp)).trans count⟩
    · exact (State.rd_put_ne _ _ (by simp)).trans claim
    · exact (State.is_put_ne _ (Or.inl (by simp [icClaimed, srcBit])) _).trans claimed
    · exact (State.is_put_ne _ (Or.inl (by simp [icPend, srcBit])) _).trans pend

end

/-- The request of a tile pair reaches the tile of every plane of the list. -/
theorem State.req_foldl (k : Fin 16) (n : Fin 512) (l : List (Fin 2)) (s : State) : ∀ p ∈ l,
    ((l.foldl (fun s pl => let i := tileOf pl k; s.setTile i { s.tile i with req := some n }) s).tile (tileOf p k)).req = some n := by
  induction l using List.reverseRecOn with
  | nil => exact fun _ h => absurd h (List.not_mem_nil)
  | append_singleton l x ih =>
    intro p hp
    rw [List.foldl_append, List.foldl_cons, List.foldl_nil]
    by_cases e : tileOf p k = tileOf x k
    · rw [e, State.tile_setTile]
    · rw [State.tile_setTile_ne _ _ e]
      exact ih p ((List.mem_append.mp hp).resolve_right fun h => e (by rw [List.mem_singleton.mp h]))

theorem State.rd_reqs (k : Fin 16) (n : Fin 512) (l : List (Fin 2)) (s : State) (r : Reg) :
    (l.foldl (fun s pl => let i := tileOf pl k; s.setTile i { s.tile i with req := some n }) s).rd r = s.rd r ∧
    (l.foldl (fun s pl => let i := tileOf pl k; s.setTile i { s.tile i with req := some n }) s).now = s.now :=
  List.foldlRecOn (motive := fun u : State => u.rd r = s.rd r ∧ u.now = s.now) _ _ ⟨rfl, rfl⟩ fun _ h _ _ => h

/-- A delivery sends the claim on: to the tile pair, as a message, or nowhere. -/
theorem State.icSend_kept (s : State) (i : Fin 64) (n : Fin 512) (r : Reg) :
    let t := if i.val < 16 then s.runPlanes.foldl (fun s pl => let j := tileOf pl (fin 16 i.val); s.setTile j { s.tile j with req := some n }) s
      else if 32 ≤ i.val then s.msiSend (i.val - 32) else s
    t.rd r = s.rd r ∧ t.now = s.now := by
  dsimp only
  split
  · exact State.rd_reqs _ n _ s r
  · split
    · exact ⟨rfl, rfl⟩
    · exact ⟨rfl, rfl⟩

/-- The note of a tile's write is kept beside the registers. -/
theorem State.noteWrite_rd (s : State) (who : Who) (v : Word) (r : Reg) : (s.noteWrite who v).rd r = s.rd r := by
  cases who with
  | tile i =>
    show (s.noteIc i true (getBits v 0 9)).rd r = s.rd r
    unfold State.noteIc
    split
    · dsimp only
      split
      · split
        · rfl
        · rfl
      · rfl
    · rfl
  | hearth => rfl
  | host => rfl
  | windowT => rfl

theorem State.activePlane_of_rd {s t : State} (h : ∀ r, t.rd r = s.rd r) : t.activePlane = s.activePlane := by
  unfold State.activePlane
  simp only [State.is_of_rd (h _)]

/-- The target whose claim a writer may complete. -/
def completes (who : Who) (v : Word) (i : Fin 64) (active : Fin 2) : Prop :=
  (who = .hearth ∧ i = 16) ∨ (who = .host ∧ i.val = 32 + getBits v 16 5) ∨ (∃ k : Fin 32, who = .tile k ∧ planeOf k = active ∧ i.val = (tileNo k).val)

theorem State.icComplete_of {who : Who} {v : Word} {i : Fin 64} {s : State} (h : completes who v i s.activePlane) :
    s.icComplete who v = if s.is (IC_CLAIM.VALID i) ∧ s.get (IC_CLAIM.SRC i) = getBits v 0 9 then (if i = 16 then State.hearthRest else id) (s.icFree i).icWakeAll
      else s.flag IC_STAT.COMPL_BAD := by
  have own : ∀ u : State, (if i = 16 then u.hearthRest else u) = (if i = 16 then State.hearthRest else id) u := fun u => by
    split
    · rfl
    · rfl
  rw [← own]
  obtain ⟨rfl, rfl⟩ | ⟨rfl, e⟩ | ⟨k, rfl, plane, e⟩ := h
  · rfl
  · have target : fin 64 (32 + getBits v 16 5) = i := by rw [← e]; exact fin_val i
    unfold State.icComplete
    dsimp only
    rw [target]
    rfl
  · have target : fin 64 (tileNo k).val = i := by rw [← e]; exact fin_val i
    unfold State.icComplete
    dsimp only
    rw [target, plane, beq_self_eq_true]
    rfl

/-- The locked bits of a setup word lie among the bits that the register has. -/
theorem lockedBits_masked (old v : Word) : (old ^^^ (v &&& 0x1FFFFFFF)) &&& 0x3FFE = (old ^^^ v) &&& 0x3FFE := by
  ext i hi
  simp only [BitVec.getElem_and, BitVec.getElem_xor]
  interval_cases i <;> simp

theorem State.is_enabled_bit (s : State) (n : Fin 512) : s.is (IC_SRC_CFG.EN n) = (s.rd (IC_SRC_CFG n)).getLsbD 0 := by
  unfold State.is State.get getBits
  rw [BitVec.extractLsb'_toNat, BitVec.getLsbD, Nat.testBit_zero, Nat.shiftRight_zero, pow_one]
  rfl

/-- A setup that may wake: the word stored, its locked bits kept while the source is enabled, and the refusal shown. -/
theorem State.icSrcCfg_kept (s : State) (n : Fin 512) (v : Word) (wakes : s.wakeRefused (v &&& 0x1FFFFFFF) = false) :
    let old := s.rd (IC_SRC_CFG n)
    let keep := old.getLsbD 0 && ((old ^^^ (v &&& 0x1FFFFFFF)) &&& 0x3FFE != 0)
    (s.icSrcCfg n v).rd (IC_SRC_CFG n) = (if keep then ((v &&& 0x1FFFFFFF) &&& ~~~0x3FFE) ||| (old &&& 0x3FFE) else v &&& 0x1FFFFFFF)
    ∧ (keep = true → (s.icSrcCfg n v).is IC_STAT.CFG_REFUSED = true) := by
  intro old keep
  unfold State.icSrcCfg
  extract_lets w locked held new a b c
  rw [if_neg (by rw [wakes]; decide)]
  have word : c.rd (IC_SRC_CFG n) = new := by
    unfold c
    split
    · exact (State.rd_put_ne _ _ (by simp [icPend, srcBit])).trans (State.rd_wr_same _ _ _)
    · exact State.rd_wr_same _ _ _
  have flag : keep = true → c.is IC_STAT.CFG_REFUSED = true := fun k => by
    have shown : b.is IC_STAT.CFG_REFUSED = true := by
      unfold b a
      rw [if_pos k, State.is_wr_ne _ _ (by simp)]
      exact State.is_flag _ _ (by simp) (by simp)
    unfold c
    split
    · exact (State.is_put_ne _ (Or.inl (by simp [icPend, srcBit])) _).trans shown
    · exact shown
  clear_value c
  have kept : ∀ r, Unposted r → r.group ≠ .stk → r ≠ (icPend n).reg → (((c.icRefresh n).icWake n).icTimers).rd r = c.rd r := fun r free stack ne =>
    ((State.icTimers_rd _ _).trans (State.rd_icWake free stack _ _)).trans (State.icRefresh_rd _ ne)
  refine ⟨(kept _ (by simp [Unposted]) (by simp [Reg.group]) (by simp [icPend, srcBit])).trans word, fun k => ?_⟩
  exact (State.is_of_rd (kept _ (by simp [Unposted]) (by simp [Reg.group]) (by simp [icPend, srcBit]))).trans (flag k)

/-- A level that rises: shown, an edge source pending, and a level source unless it is claimed. -/
theorem icFilterChange_rises (n : Fin 512) (t0 : Time) (samples : Nat) (s : State) (more : s.get (IC_SRC_CFG.FLT n) < samples) (open_ : n.val < 430 ∨ 448 ≤ n.val)
    (derived : s.srcLevel n = none) (low : s.is (icLive n) = false) : ∃ t, exec (.icFilterChange n true t0 samples) s = .next t ∧ t.is (icLive n) = true
    ∧ (s.is (IC_SRC_CFG.EDGE n) = true ∨ s.is (icClaimed n) = false → t.is (icPend n) = true) ∧ t.now = max s.now (t0 + s.get (IC_SRC_CFG.FLT n) * portUnits + nsUnits) := by
  show ∃ t, execIcFilterChange n true t0 samples s = .next t ∧ _
  unfold execIcFilterChange
  extract_lets flt new u i w x y
  have rises : new = true := by
    unfold new
    rw [State.srcLevel_none derived]
    rfl
  clear_value new
  have kept : ∀ r, w.rd r = s.rd r := fun r => by
    unfold w
    split
    · rfl
    · rfl
  have now_ : w.now = max s.now (t0 + flt * portUnits + nsUnits) := by
    unfold w
    split
    · rfl
    · rfl
  clear_value w
  rw [if_neg (by omega), rises, if_neg (by rw [State.is_of_rd (kept _), low]; simp; omega)]
  have live : x.is (icLive n) = true := (State.is_live _ n _).trans rises
  have others : ∀ g : Field, g.reg ≠ (icLive n).reg → x.is g = s.is g := fun g h => (State.is_putB_ne _ (Or.inl h) _).trans (State.is_of_rd (kept _))
  have xnow : x.now = w.now := rfl
  have edge : x.is (IC_SRC_CFG.EDGE n) = s.is (IC_SRC_CFG.EDGE n) := others _ (by simp [icLive, srcBit])
  have claimed : x.is (icClaimed n) = s.is (icClaimed n) := others _ (by simp [icLive, icClaimed, srcBit])
  clear_value x
  have apart : (icLive n).reg ≠ (icPend n).reg := by simp [icLive, icPend, srcBit]
  have shown : y.is (icLive n) = true ∧ (s.is (IC_SRC_CFG.EDGE n) = true ∨ s.is (icClaimed n) = false → y.is (icPend n) = true) ∧ y.now = w.now := by
    unfold y
    rw [edge, rises]
    cases e : s.is (IC_SRC_CFG.EDGE n) with
    | true =>
      rw [if_pos (by rfl)]
      exact ⟨(State.is_put_ne _ (Or.inl apart) _).trans live, fun _ => State.is_flag _ _ (icPend_fits n) (by simp [icPend, srcBit]), xnow⟩
    | false =>
      rw [if_neg (by decide)]
      refine ⟨(State.is_of_rd (State.icRefresh_rd _ apart)).trans live, fun h => ?_, (State.icRefresh_now _ _).trans xnow⟩
      have free : s.is (icClaimed n) = false := h.resolve_left (by simp)
      rw [State.icRefresh_level _ open_ (edge.trans e), live, claimed, free]
      rfl
  clear_value y
  obtain ⟨level, pending, ynow⟩ := shown
  have out : ∀ f : Field, Unposted f.reg → f.reg.group ≠ .stk → (((if true then y.eventRelease n else y).icWake n).icTimers).is f = y.is f := fun f free stack =>
    State.is_of_rd (((State.icTimers_rd _ _).trans (State.rd_icWake free stack _ _)).trans (State.rd_eventRelease free stack _ _))
  refine ⟨_, rfl, ?_, fun h => ?_, ?_⟩
  · exact (out _ (by simp [Unposted, icLive, srcBit]) (by simp [icLive, srcBit, Reg.group])).trans level
  · exact (out _ (by simp [Unposted, icPend, srcBit]) (by simp [icPend, srcBit, Reg.group])).trans (pending h)
  · exact (((State.icWake_now _ _).trans (State.eventRelease_now _ _)).trans ynow).trans now_

/-- A level that falls: shown, and a level source no longer pending. -/
theorem icFilterChange_falls (n : Fin 512) (t0 : Time) (samples : Nat) (s : State) (more : s.get (IC_SRC_CFG.FLT n) < samples) (open_ : n.val < 430 ∨ 448 ≤ n.val)
    (derived : s.srcLevel n = none) (high : s.is (icLive n) = true) : ∃ t, exec (.icFilterChange n false t0 samples) s = .next t ∧ t.is (icLive n) = false
    ∧ (s.is (IC_SRC_CFG.EDGE n) = false → t.is (icPend n) = false) ∧ t.now = max s.now (t0 + s.get (IC_SRC_CFG.FLT n) * portUnits + nsUnits) := by
  show ∃ t, execIcFilterChange n false t0 samples s = .next t ∧ _
  unfold execIcFilterChange
  extract_lets flt new u i w x y
  have falls : new = false := by
    unfold new
    rw [State.srcLevel_none derived]
    rfl
  clear_value new
  have same : w = u := by
    unfold w
    rw [falls]
    rfl
  rw [if_neg (by omega), falls, same, if_neg (by rw [show u.is (icLive n) = true from high]; simp; omega)]
  have live : x.is (icLive n) = false := (State.is_live _ n _).trans falls
  have edge : x.is (IC_SRC_CFG.EDGE n) = s.is (IC_SRC_CFG.EDGE n) := by
    unfold x
    rw [same]
    exact State.is_putB_ne _ (Or.inl (by simp [icLive, srcBit])) _
  have xnow : x.now = max s.now (t0 + flt * portUnits + nsUnits) := by
    unfold x
    rw [same]
    rfl
  clear_value x
  have out : ∀ f : Field, Unposted f.reg → f.reg.group ≠ .stk → (((if false then y.eventRelease n else y).icWake n).icTimers).is f = y.is f := fun f free stack =>
    State.is_of_rd ((State.icTimers_rd _ _).trans (State.rd_icWake free stack _ _))
  have refreshed : y = x.icRefresh n := by
    unfold y
    rw [falls]
    rfl
  refine ⟨_, rfl, ?_, fun h => ?_, ?_⟩
  · rw [out _ (by simp [Unposted, icLive, srcBit]) (by simp [icLive, srcBit, Reg.group]), refreshed]
    exact (State.is_of_rd (State.icRefresh_rd _ (by simp [icLive, icPend, srcBit]))).trans live
  · rw [out _ (by simp [Unposted, icPend, srcBit]) (by simp [icPend, srcBit, Reg.group]), refreshed, State.icRefresh_level _ open_ (edge.trans h), live]
    rfl
  · refine (State.icWake_now _ _).trans ?_
    rw [if_neg (by decide), refreshed]
    exact (State.icRefresh_now _ _).trans xnow

/-- Settles O43: a claim by its words, a level by its refresh; what wakes and releases leaves the controller's registers. -/
theorem interruptControllerComplete : Obligations.InterruptControllerComplete := by
  unfold Obligations.InterruptControllerComplete
  refine ⟨?_, ?_, ?_, ?_, ?_, ?_, ?_, ?_, ?_, ?_, ?_, ?_, ?_, ?_, ?_, ?_, ?_, ?_, ?_⟩
  · exact fun n level t0 samples s h => if_pos h
  · exact icFilterChange_rises
  · exact icFilterChange_falls
  · intro i n s free found
    show ∃ t, execIcDelivery i s = .next t ∧ _
    unfold execIcDelivery
    rw [if_neg (by rw [free]; decide), found]
    obtain ⟨claim, claimed, pend, now_, -⟩ := State.icClaim_kept (s.advance (s.now + 2 * nsUnits)) i n false
    have sent := State.icSend_kept ((s.advance (s.now + 2 * nsUnits)).icClaim i n false) i n
    refine ⟨_, rfl, (sent _).1.trans claim, (State.is_of_rd (sent _).1).trans claimed, (State.is_of_rd (sent _).1).trans pend, ?_⟩
    rw [(sent IC_STAT).2, now_]
    exact Nat.max_eq_right (by omega)
  · intro k i n s e free found
    show ∃ t, execIcDelivery i s = .next t ∧ _
    unfold execIcDelivery
    rw [if_neg (by rw [free]; decide), found]
    have small : i.val < 16 := e ▸ k.isLt
    have tile_ : fin 16 i.val = k := by rw [e]; exact fin_val k
    dsimp only
    rw [if_pos small, tile_]
    have planes : ((s.advance (s.now + 2 * nsUnits)).icClaim i n false).runPlanes = s.runPlanes := by
      have same : s.sameBut [.now, .reg .ic, .ic] ((s.advance (s.now + 2 * nsUnits)).icClaim i n false) :=
        State.sameBut_of_op fun _ _ hs kf => State.icClaim_framed (State.advance_framed hs (kf.sub rfl)) (kf.sub rfl)
      unfold State.runPlanes
      rw [same.get PC_STAT.STATE_A (by decide), same.get PC_STAT.STATE_B (by decide)]
    rw [planes]
    exact ⟨_, rfl, State.req_foldl k n s.runPlanes _⟩
  · intro i s who valid taken
    exact if_pos ⟨who, valid, taken⟩
  · intro i s not_
    refine if_neg fun ⟨who, valid, taken⟩ => ?_
    rw [valid, taken] at not_
    simp only [Bool.true_eq_false, Bool.false_eq_true, or_false] at not_
    omega
  · intro who v i s target valid source
    have kept := State.noteWrite_rd s who v
    have done := State.icComplete_of (who := who) (v := v) (i := i) (s := s.noteWrite who v) (by rw [State.activePlane_of_rd kept]; exact target)
    rw [if_pos ⟨(State.is_of_rd (kept _)).trans valid, (State.get_of_rd (kept _)).trans source⟩] at done
    exact congrArg Host.Outcome.next done
  · intro who v i s target bad
    have kept := State.noteWrite_rd s who v
    have done := State.icComplete_of (who := who) (v := v) (i := i) (s := s.noteWrite who v) (by rw [State.activePlane_of_rd kept]; exact target)
    rw [State.is_of_rd (kept _), State.get_of_rd (kept _), if_neg fun h => bad.elim (fun e => by simp [e] at h) (fun e => e h.2)] at done
    exact congrArg Host.Outcome.next done
  · intro k v s other
    have kept := State.noteWrite_rd s (.tile k) v
    have away : (planeOf k == (s.noteWrite (.tile k) v).activePlane) = false := by
      rw [State.activePlane_of_rd kept]
      exact beq_false_of_ne other
    refine congrArg Host.Outcome.next (?_ : (s.noteWrite (.tile k) v).icComplete (.tile k) v = s.noteWrite (.tile k) v)
    unfold State.icComplete
    dsimp only
    rw [away]
    rfl
  · intro g s running
    refine ⟨_, if_pos running, rfl, ?_, fun q hq => ?_⟩
    · exact State.is_put_zero (s.advance (tget s.ic.holds g 0)) (by simp)
    · have kept := (List.mem_filter.mp hq).2
      simpa using kept
  · intro n i due s at_ free up
    show ∃ t, execIcRedirect n s = .next t ∧ _
    unfold execIcRedirect
    rw [at_]
    dsimp only
    rw [if_neg (by rw [show (s.advance due).is (IC_CLAIM.VALID 16) = false from free, show (s.advance due).is HM_STAT.HEARTH_UP = true from up]; decide)]
    obtain ⟨claim, claimed, pend, now_, count⟩ := State.icClaim_kept (s.advance due) 16 n true
    generalize (s.advance due).icClaim 16 n true = u at *
    generalize (s.advance due).cellAddr = a
    have posted : ∀ r, Unposted r → ((u.bump IC_REDIRECTS).post 0x0150 1 a (leBytes 2 n.val ++ [BitVec.ofNat 8 i.val])).rd r = (u.bump IC_REDIRECTS).rd r :=
      fun r free => State.rd_post free _ _ _ _ _
    have kept : ∀ f : Field, Unposted f.reg → f.reg ≠ IC_REDIRECTS → ((u.bump IC_REDIRECTS).post 0x0150 1 a (leBytes 2 n.val ++ [BitVec.ofNat 8 i.val])).is f = u.is f :=
      fun f free ne => State.is_of_rd ((posted _ free).trans (State.rd_bump_ne _ ne))
    refine ⟨_, rfl, ?_, ?_, ?_, ?_, ?_⟩
    · exact (State.sameBut_post _ _ _ _ _ .now (by decide)).symm.trans now_
    · exact ((posted _ (by simp [Unposted])).trans (State.rd_bump_ne _ (by simp))).trans claim
    · exact (kept _ (by simp [Unposted, icClaimed, srcBit]) (by simp [icClaimed, srcBit])).trans claimed
    · exact (kept _ (by simp [Unposted, icPend, srcBit]) (by simp [icPend, srcBit])).trans pend
    · rw [posted _ (by simp [Unposted]), State.rd_bump, count]
      rfl
  · intro n v s refused
    refine congrArg Host.Outcome.next (?_ : s.icSrcCfg n v = _)
    unfold State.icSrcCfg
    exact if_pos refused
  · intro n v s wakes plain
    have keep : ((s.rd (IC_SRC_CFG n)).getLsbD 0 && ((s.rd (IC_SRC_CFG n) ^^^ (v &&& 0x1FFFFFFF)) &&& 0x3FFE != 0)) = false := by
      rw [lockedBits_masked]
      obtain off | same := plain
      · rw [← State.is_enabled_bit, off, Bool.false_and]
      · rw [same]
        simp
    obtain ⟨word, -⟩ := State.icSrcCfg_kept s n v wakes
    refine ⟨_, rfl, word.trans ?_⟩
    rw [keep]
    rfl
  · intro n v s wakes enabled locked
    have keep : ((s.rd (IC_SRC_CFG n)).getLsbD 0 && ((s.rd (IC_SRC_CFG n) ^^^ (v &&& 0x1FFFFFFF)) &&& 0x3FFE != 0)) = true := by
      rw [lockedBits_masked, ← State.is_enabled_bit, enabled, Bool.true_and]
      simpa using locked
    obtain ⟨word, flag⟩ := State.icSrcCfg_kept s n v wakes
    refine ⟨_, rfl, word.trans ?_, flag keep⟩
    rw [keep, if_pos rfl, BitVec.and_assoc]
    rfl
  · intro i m w s a b
    show execIcPlaneFinding i s = _
    unfold execIcPlaneFinding
    rw [a, b]
  · intro i pl m s a b
    show execIcPlaneFinding i s = _
    unfold execIcPlaneFinding
    obtain rfl | rfl : pl = 0 ∨ pl = 1 := by omega
    · rw [a, show s.icAlone 1 i = none from b]
    · rw [a, show s.icAlone 0 i = none from b]
  · intro who k v s away
    exact congrArg Host.Outcome.next (if_neg (by rw [away]; decide))
  · intro who k v same s away
    exact congrArg Host.Outcome.next (if_neg (by rw [away]; decide))

end Sys2Proof.Machine

/-! Safe inputs and outputs, test pulses, requests, tokens and the acknowledgement. -/

namespace Sys2Proof.Machine

open Sys2Proof

theorem max_later (a e d : Nat) : max (max a e) (e + d) = max a (e + d) := by omega

section
variable (s : State)

theorem State.sin_setSin (k : Fin 16) (x : InputState) : (s.setSin k x).sin k = x := tget_tset_same _ _ _ _

theorem State.sin_setSin_ne {k j : Fin 16} (x : InputState) (h : j ≠ k) : (s.setSin k x).sin j = s.sin j := tget_tset_ne _ _ _ h

theorem State.sin_of_si {s t : State} (h : t.si = s.si) (k : Fin 16) : t.sin k = s.sin k := congrArg (fun i : Island => tget i.inputs k {}) h

theorem State.sout_of_si {s t : State} (h : t.si = s.si) (k : Fin 12) : t.sout k = s.sout k := congrArg (fun i : Island => tget i.outputs k {}) h

theorem State.siRecord_si (type : Nat) (payload : List Byte) : (s.siRecord type payload).si = s.si := (State.sameBut_post _ _ _ _ _ .si (by decide)).symm

theorem State.siRecord_now (type : Nat) (payload : List Byte) : (s.siRecord type payload).now = s.now := (State.sameBut_post _ _ _ _ _ .now (by decide)).symm

/-- The judgement of an input keeps its lines. -/
theorem State.sin_judgeInput (k : Fin 16) : ((s.judgeInput k).sin k).l1 = (s.sin k).l1 ∧ ((s.judgeInput k).sin k).l2 = (s.sin k).l2 := by
  unfold State.judgeInput
  dsimp only
  rw [State.sin_setSin]
  exact ⟨rfl, rfl⟩

theorem State.sin_judgeInput_ne {k j : Fin 16} (h : j ≠ k) : (s.judgeInput k).sin j = s.sin j := State.sin_setSin_ne s _ h

/-- An input fault: the input has it, and nothing takes a fault away. -/
theorem State.inputFault_fault (k : Fin 16) (kind : Nat) : ((s.inputFault k kind).sin k).fault = true
    ∧ (∀ j, (s.sin j).fault = true → ((s.inputFault k kind).sin j).fault = true)
    ∧ (s.inputFault k kind).si.tpsLow = s.si.tpsLow ∧ (s.inputFault k kind).now = s.now := by
  unfold State.inputFault
  extract_lets x
  by_cases had : x.fault = true
  · rw [if_pos had]
    exact ⟨had, fun j h => h, rfl, rfl⟩
  · rw [if_neg had]
    have si := State.siRecord_si ((s.setSin k { x with fault := true, seen := false }).flag SI_EVT.INPUT) 0x0202 [BitVec.ofNat 8 k.val, BitVec.ofNat 8 kind]
    refine ⟨?_, fun j h => ?_, (congrArg Island.tpsLow si).trans rfl, State.siRecord_now _ _ _⟩
    · rw [State.sin_of_si si]
      exact congrArg InputState.fault (State.sin_setSin s k _)
    · rw [State.sin_of_si si]
      refine (congrArg InputState.fault (State.sin_setSin_ne s _ fun e => had ?_)).trans h
      rw [e] at h
      exact h

/-- Faults of a list of inputs: each has one, the sources and the time stay. -/
theorem State.inputFaults (l : List (Fin 16)) (kind : Nat) (s : State) : (∀ k ∈ l, ((l.foldl (fun s k => s.inputFault k kind) s).sin k).fault = true)
    ∧ (l.foldl (fun s k => s.inputFault k kind) s).si.tpsLow = s.si.tpsLow ∧ (l.foldl (fun s k => s.inputFault k kind) s).now = s.now := by
  induction l using List.reverseRecOn with
  | nil => exact ⟨fun _ h => absurd h List.not_mem_nil, rfl, rfl⟩
  | append_singleton l x ih =>
    obtain ⟨faults, low, now_⟩ := ih
    rw [List.foldl_append, List.foldl_cons, List.foldl_nil]
    obtain ⟨own, kept, low', now'⟩ := State.inputFault_fault (l.foldl (fun s k => s.inputFault k kind) s) x kind
    refine ⟨fun k hk => ?_, low'.trans low, now'.trans now_⟩
    obtain hk | hk := List.mem_append.mp hk
    · exact kept k (faults k hk)
    · rw [List.mem_singleton.mp hk]
      exact own

/-- An output fault: the output has it beside what it was, the others stay. -/
theorem State.outputFault_fault (k : Fin 12) (one : Bool) : (s.outputFault k one).sout k = { s.sout k with fault := true }
    ∧ (∀ j, j ≠ k → (s.outputFault k one).sout j = s.sout j) ∧ (s.outputFault k one).now = s.now := by
  unfold State.outputFault
  extract_lets x
  by_cases had : x.fault = true
  · rw [if_pos had]
    refine ⟨?_, fun _ _ => rfl, rfl⟩
    show x = { x with fault := true }
    rw [← had]
  · rw [if_neg had]
    have si := State.siRecord_si ((s.setSout k { x with fault := true }).flag SI_EVT.OUTPUT) 0x0203 [BitVec.ofNat 8 k.val, if one then 1 else 2]
    refine ⟨?_, fun j h => ?_, State.siRecord_now _ _ _⟩
    · rw [State.sout_of_si si]
      exact State.sout_setSout s k _
    · rw [State.sout_of_si si]
      exact State.sout_setSout_ne s _ h

theorem State.island_sameBut (e : Time) (i : Island) : s.sameBut [.now, .si] { s.advance e with si := i } :=
  State.sameBut_of_op fun q b hs kf => by
    have k_si : b.keep .si = false := kf.get rfl
    simp only [framed_mk, k_si, or_true, true_or]
    exact State.advance_framed hs (kf.sub rfl)

theorem State.sack_setSack (one : Bool) (x : Sack) : (s.setSack one x).sack one = x ∧ (s.setSack one x).sack (!one) = s.sack (!one) ∧ (s.setSack one x).now = s.now := by
  cases one with
  | true => exact ⟨rfl, rfl, rfl⟩
  | false => exact ⟨rfl, rfl, rfl⟩

end

/-- Settles O46: each command by its branch; an input or an output by its own entry of the island. -/
theorem safetyCommandsComplete : Obligations.SafetyCommandsComplete := by
  unfold Obligations.SafetyCommandsComplete
  refine ⟨?_, ?_, ?_, ?_, ?_, ?_, ?_, ?_, ?_, ?_, ?_, ?_, ?_, ?_, ?_, ?_, ?_, ?_, ?_, ?_, ?_, ?_, ?_⟩
  · exact fun k one t0 held s h => if_pos h
  · exact fun k one t0 held s h => if_pos h
  · intro k one level t0 held s h
    obtain ⟨t, ht, -⟩ := exec_next (.safeInputChange k one level t0 held) s
    have same : s.sameBut [.now, .si] t := sameBut_of_exec ht
    refine ⟨t, ht, ?_⟩
    replace ht : execSafeInputChange k one level t0 held s = .next t := ht
    unfold execSafeInputChange at ht
    extract_lets f z start a b x at ht
    rw [if_neg (Nat.not_lt.mpr h)] at ht
    have lines : (b.sin k).l1 = (s.sin k).l1 ∧ (b.sin k).l2 = (s.sin k).l2 ∧ (∀ j, j ≠ k → b.sin j = s.sin j) ∧ b.now = max s.now (start + f) := by
      unfold b a
      cases level with
      | true => exact ⟨rfl, rfl, fun _ _ => rfl, rfl⟩
      | false =>
        refine ⟨?_, ?_, fun j h => State.sin_setSin_ne s _ h, rfl⟩
        · refine (congrArg InputState.l1 (State.sin_setSin s k _)).trans ?_
          cases one with
          | true => rfl
          | false => rfl
        · refine (congrArg InputState.l2 (State.sin_setSin s k _)).trans ?_
          cases one with
          | true => rfl
          | false => rfl
    have value : x = b.sin k := rfl
    clear_value x b
    obtain ⟨l1, l2, others, now_⟩ := lines
    obtain ⟨j1, j2⟩ := State.sin_judgeInput (b.setSin k (if one then { x with l1 := level } else { x with l2 := level })) k
    rw [State.sin_setSin] at j1 j2
    rw [← value] at l1 l2
    rw [← Host.Outcome.next.inj ht] at same ⊢
    refine ⟨now_, j1.trans ?_, j2.trans ?_, fun j h => ?_, same⟩
    · cases one with
      | true => rfl
      | false => exact l1
    · cases one with
      | true => exact l2
      | false => rfl
    · rw [State.sin_judgeInput_ne _ h, State.sin_setSin_ne _ _ h]
      exact others j h
  · intro k at_ u s since used past sound
    show ∃ t, execSafeInputDiscrepancy k at_ s = .next t ∧ _
    unfold execSafeInputDiscrepancy
    rw [since]
    dsimp only
    rw [if_pos ⟨used, past⟩, State.inputFault]
    rw [if_neg (by rw [show ((s.advance at_).sin k).fault = false from sound]; decide)]
    have si := State.siRecord_si (((s.advance at_).setSin k { (s.advance at_).sin k with fault := true, seen := false }).flag SI_EVT.INPUT) 0x0202 [BitVec.ofNat 8 k.val, BitVec.ofNat 8 0]
    have entry : (((s.advance at_).setSin k { (s.advance at_).sin k with fault := true, seen := false }).flag SI_EVT.INPUT).sin k = { s.sin k with fault := true, seen := false } :=
      State.sin_setSin (s.advance at_) k _
    refine ⟨_, rfl, ?_, ?_, ?_, ?_⟩
    · exact State.siRecord_now _ _ _
    · rw [State.sin_of_si si, entry]
    · rw [State.sin_of_si si, entry]
    · refine (State.is_of_rd (State.rd_post (by simp [Unposted]) _ _ _ _ _)).trans ?_
      exact State.is_flag _ _ (by simp) (by simp)
  · intro n b s base used high
    obtain ⟨t, ht, -⟩ := exec_next (.testPulseStart n) s
    have same : s.sameBut [.now, .si] t := sameBut_of_exec ht
    refine ⟨t, ht, ?_⟩
    replace ht : execTestPulseStart n s = .next t := ht
    unfold execTestPulseStart at ht
    rw [base] at ht
    dsimp only at ht
    rw [if_pos ⟨used, high⟩] at ht
    rw [← Host.Outcome.next.inj ht] at same ⊢
    refine ⟨?_, ?_, same⟩
    · refine List.foldlRecOn (motive := fun u : State => u.now = max s.now (s.pset.pulseAt n b s.now)) _ _ rfl fun u hu j _ => ?_
      split
      · exact hu
      · exact hu
    · refine List.foldlRecOn (motive := fun u : State => u.si.tpsLow = s.si.tpsLow ++ [(n, s.pset.pulseAt n b s.now)]) _ _ rfl fun u hu j _ => ?_
      split
      · exact hu
      · exact hu
  · intro n u s low passes
    show ∃ t, execTestPulseEnd n s = .next t ∧ _
    unfold execTestPulseEnd
    rw [low]
    dsimp -zeta only
    extract_lets e d a i z bad
    have none_ : bad.isEmpty = true := by
      rw [List.isEmpty_iff]
      refine List.filter_eq_nil_iff.mpr fun k _ hk => ?_
      obtain ⟨used, fails⟩ := Bool.and_eq_true_iff.mp hk
      have used' : s.inUsed k = true := used
      have p1 : z.lineFails k true n u e d = false := passes k true used'
      have p2 : z.lineFails k false n u e d = false := passes k false used'
      rw [p1, p2] at fails
      exact absurd fails (by decide)
    rw [if_pos none_]
    refine ⟨_, rfl, rfl, fun q hq => ?_, fun _ => rfl, State.island_sameBut s e _⟩
    have kept := (List.mem_filter.mp hq).2
    simpa using kept
  · intro n u k one s low used fails
    show ∃ t, execTestPulseEnd n s = .next t ∧ _
    unfold execTestPulseEnd
    rw [low]
    dsimp -zeta only
    extract_lets e d a i z bad
    have fails' : z.lineFails k one n u e d = true := fails
    have used' : z.inUsed k = true := used
    have among : k ∈ bad := by
      refine List.mem_filter.mpr ⟨mem_finList k, ?_⟩
      rw [used']
      cases one with
      | true => rw [fails']; rfl
      | false => rw [fails', Bool.or_true]; rfl
    rw [if_neg (by rw [List.isEmpty_iff]; exact List.ne_nil_of_mem among)]
    obtain ⟨faults, tps, now_⟩ := State.inputFaults bad 1 (z.advance (e + d))
    refine ⟨_, rfl, ?_, fun q hq => ?_, faults k among⟩
    · exact now_.trans (max_later _ _ _)
    · rw [tps] at hq
      have kept := (List.mem_filter.mp hq).2
      simpa using kept
  · intro k one s sound
    obtain ⟨own, others, -⟩ := State.outputFault_fault s k one
    refine ⟨_, rfl, congrArg OutputState.fault own, ?_, others⟩
    unfold State.outputFault
    dsimp only
    rw [if_neg (by rw [sound]; decide)]
    refine (State.is_of_rd (State.rd_post (by simp [Unposted]) _ _ _ _ _)).trans ?_
    exact State.is_flag _ _ (by simp) (by simp)
  · exact fun k one s fault => congrArg Host.Outcome.next (if_pos fault)
  · intro k one u s on idle high due
    show ∃ t, execOutputTestStart k one s = .next t ∧ _
    unfold execOutputTestStart
    dsimp only
    rw [on]
    dsimp only
    rw [if_neg (by rw [idle]; decide), if_neg (by
      rw [high]
      exact fun h => h.elim (by decide) (Nat.not_lt.mpr due))]
    exact ⟨_, rfl, rfl, State.sout_setSout _ _ _, fun j h => State.sout_setSout_ne _ _ h⟩
  · intro k one u s on idle early
    show ∃ t, execOutputTestStart k one s = .next t ∧ _
    unfold execOutputTestStart
    dsimp only
    rw [on]
    dsimp only
    rw [if_neg (by rw [idle]; decide)]
    exact ⟨_, if_pos early, rfl, State.sout_setSout _ _ _, fun j h => State.sout_setSout_ne _ _ h⟩
  · intro k one low high u s test passes
    show ∃ t, execOutputTestEnd k one low high s = .next t ∧ _
    unfold execOutputTestEnd
    dsimp only
    rw [test]
    dsimp only
    rw [if_pos passes]
    exact ⟨_, rfl, rfl, State.sout_setSout _ _ _⟩
  · intro k one low high u s test fails
    show ∃ t, execOutputTestEnd k one low high s = .next t ∧ _
    unfold execOutputTestEnd
    dsimp only
    rw [test]
    dsimp only
    rw [if_neg (by rw [fails]; decide)]
    obtain ⟨own, -, now_⟩ := State.outputFault_fault (((s.advance (u + (s.outCfg k).testWidth * 1000 * nsUnits)).setSout k ((s.sout k).test one none)).advance
      (u + (s.outCfg k).testWidth * 1000 * nsUnits + (s.outCfg k).fbDly * 1000 * nsUnits)) k one
    refine ⟨_, rfl, now_.trans (max_later _ _ _), own.trans ?_⟩
    exact congrArg (fun x : OutputState => { x with fault := true }) (State.sout_setSout (s.advance _) k _)
  · intro k at_ s brk
    show ∃ t, execBrakeDelayExpiry k s = .next t ∧ _
    unfold execBrakeDelayExpiry
    rw [brk]
    have entry : ((s.advance at_).outOff k).showOutputs.sout k = { s.sout k with on := none, p1 := false, p2 := false, t1 := none, t2 := none, disc2 := (s.sout k).disc2 || (s.sout k).t2.isSome, brk := none } :=
      State.sout_setSout (s.advance at_) k _
    refine ⟨_, rfl, rfl, ?_, ?_, ?_, ?_⟩
    · rw [entry]
    · rw [entry]
    · rw [entry]
    · rw [entry]
  · exact fun _ _ => rfl
  · exact fun _ _ => rfl
  · exact fun _ _ => rfl
  · exact fun _ _ => rfl
  · exact fun _ _ => rfl
  · exact fun one level t0 held s h => if_pos h
  · intro one level t0 held s h
    obtain ⟨own, other, now_⟩ := State.sack_setSack (s.advance (t0 + 1000000 * nsUnits)) one ((s.sack one).change level (t0 + 1000000 * nsUnits))
    have e : execSackChange one level t0 held s = .next ((s.advance (t0 + 1000000 * nsUnits)).setSack one ((s.sack one).change level (t0 + 1000000 * nsUnits))) :=
      if_neg (Nat.not_lt.mpr h)
    refine ⟨_, e, now_, own, other.trans ?_, sameBut_of_exec (c := .sackChange one level t0 held) e⟩
    cases one with
    | true => rfl
    | false => rfl
  · intro one at_ r s level rise past
    show ∃ t, execSackHoldTimeout one at_ s = .next t ∧ _
    unfold execSackHoldTimeout
    dsimp only
    rw [level, rise]
    dsimp only
    rw [if_pos past]
    exact ⟨_, rfl, (State.sack_setSack _ one _).2.2, (State.sack_setSack _ one _).1⟩
  · intro at_ u arms b s token past
    show ∃ t, execTokenExpiry at_ s = .next t ∧ _
    unfold execTokenExpiry
    rw [token]
    dsimp only
    rw [if_pos past]
    exact ⟨_, rfl, rfl⟩

end Sys2Proof.Machine

/-! Clasps: delay requests, arrivals in both modes, ties and the return to arbitration. -/

namespace Sys2Proof.Machine

open Sys2Proof

section
variable (s : State)

theorem State.clasp_setClasp (x : Fin 2) (c : Clasp) : (s.setClasp x c).clasp x = c ∧ (s.setClasp x c).clasp (1 - x) = s.clasp (1 - x) := by
  obtain rfl | rfl : x = 0 ∨ x = 1 := by omega
  · exact ⟨rfl, rfl⟩
  · exact ⟨rfl, rfl⟩

theorem State.clasp_wr (r : Reg) (v : Word) (x : Fin 2) : (s.wr r v).clasp x = s.clasp x := rfl

theorem State.setClasp_now (x : Fin 2) (c : Clasp) : (s.setClasp x c).now = s.now := by
  unfold State.setClasp
  split
  · rfl
  · rfl

theorem map_fst_tag {α β : Type} (l : List α) (f : α → β) : (l.map fun a => (a, f a)).map Prod.fst = l := by
  rw [List.map_map]
  exact List.map_id l

end

/-- Settles O49: a request by its ports, an arrival by its branch on the mode, the busy time and the tie. -/
theorem claspCommandsComplete : Obligations.ClaspCommandsComplete := by
  have arrives : ∀ (x : Fin 2) (p : Fin 8) (s : State), s.claspOn x = true → s.portOn x p = true → ¬ (s.claspOn x = false ∨ s.portOn x p = false) := fun x p s on port h =>
    h.elim (fun e => by rw [on] at e; cases e) (fun e => by rw [port] at e; cases e)
  unfold Obligations.ClaspCommandsComplete
  refine ⟨?_, ?_, ?_, ?_, ?_, ?_, ?_, ?_, ?_, ?_⟩
  · intro x s on mode turn
    show ∃ t, execClaspLinkDelayRequest x s = .next t ∧ _
    unfold execClaspLinkDelayRequest
    rw [if_pos ⟨on, mode, turn⟩]
    extract_lets u ps t1
    have kept : ∀ p, u.portOn x p = s.portOn x p := fun p => by
      unfold u
      split
      · rfl
      · rfl
    have other : u.clasp (1 - x) = s.clasp (1 - x) := by
      unfold u
      split
      · rfl
      · rfl
    have ports : ps = (finList 8).filter (fun p => p ≠ 0 && s.portOn x p) := by
      unfold ps
      simp only [kept]
    clear_value u t1
    obtain ⟨own, rest⟩ := State.clasp_setClasp u x { u.clasp x with requests := ps.map fun p => (p, t1 p) }
    refine ⟨_, rfl, ?_, rest.trans other⟩
    rw [own]
    exact (map_fst_tag ps t1).trans ports
  · intro x p t1 t2 t3 at_ s on port found
    show ∃ t, execClaspFrameArrival x p (.answer t2 t3) at_ s = .next t ∧ _
    unfold execClaspFrameArrival
    dsimp only
    rw [if_neg (arrives x p (s.advance at_) on port), show (s.advance at_).clasp x = s.clasp x from rfl, found]
    dsimp only
    rw [show (s.advance at_).claspIngress x p at_ = s.claspIngress x p at_ from rfl]
    generalize ((s.claspIngress x p at_ - t1 - (t3 - t2) : Int) : Rat) / 2 = d
    generalize joinDelay (tget (s.clasp x).delays p []) d = l
    obtain ⟨own, -⟩ := State.clasp_setClasp (s.advance at_) x
      { s.clasp x with requests := (s.clasp x).requests.filter (fun (q : Fin 8 × Int) => q.1 ≠ p), delays := tset (s.clasp x).delays p l, result := some (p, d) }
    have joined : tget (tset (s.clasp x).delays p l) p [] = l := tget_tset_same _ _ _ _
    refine ⟨_, rfl, State.setClasp_now _ x _, ?_, ?_, ?_, fun q hq => ?_⟩
    · rw [State.clasp_wr, own]
      exact joined
    · rw [State.clasp_wr, own]
    · rw [State.rd_wr_same, State.clasp_wr, own]
      exact congrArg delayMean joined.symm
    · rw [State.clasp_wr, own] at hq
      simpa using (List.mem_filter.mp hq).2
  · intro x p bs at_ s on port mode
    exact (if_neg (arrives x p (s.advance at_) on port)).trans (if_pos mode)
  · intro x p bs at_ s on port mode busy
    have arbitrated : ¬ (s.advance at_).is (CP_STAT.MODE x) = true := Bool.eq_false_iff.mp mode
    exact (if_neg (arrives x p (s.advance at_) on port)).trans ((if_neg arbitrated).trans (if_pos busy))
  · intro x p bs at_ s on port mode idle first
    have arbitrated : ¬ (s.advance at_).is (CP_STAT.MODE x) = true := Bool.eq_false_iff.mp mode
    refine (if_neg (arrives x p (s.advance at_) on port)).trans ((if_neg arbitrated).trans ((if_neg (Nat.not_lt.mpr idle)).trans ?_))
    rw [show (s.advance at_).clasp x = s.clasp x from rfl, first]
  · intro x p q bs cs at_ t0 r s on port mode idle tie soon
    have arbitrated : ¬ (s.advance at_).is (CP_STAT.MODE x) = true := Bool.eq_false_iff.mp mode
    refine (if_neg (arrives x p (s.advance at_) on port)).trans ((if_neg arbitrated).trans ((if_neg (Nat.not_lt.mpr idle)).trans ?_))
    rw [show (s.advance at_).clasp x = s.clasp x from rfl, tie]
    exact if_pos soon
  · intro x p q bs cs at_ t0 r s on port mode idle tie late
    have arbitrated : ¬ (s.advance at_).is (CP_STAT.MODE x) = true := Bool.eq_false_iff.mp mode
    refine (if_neg (arrives x p (s.advance at_) on port)).trans ((if_neg arbitrated).trans ((if_neg (Nat.not_lt.mpr idle)).trans ?_))
    rw [show (s.advance at_).clasp x = s.clasp x from rfl, tie]
    exact if_neg (Nat.not_le.mpr late)
  · exact fun x p f at_ s off => if_pos off
  · intro x p q bs cs t0 at_ r s lowest tie
    show execClaspTieWindow x s = _
    unfold execClaspTieWindow
    dsimp only
    rw [lowest]
    rw [tie]
    rfl
  · intro x c s sched state mode
    show execClaspArbitrateReturn x s = _
    unfold execClaspArbitrateReturn
    rw [sched]
    exact if_pos ⟨state, mode⟩

end Sys2Proof.Machine

/-! The cold-start claim of a Chain node whose lane is busy: contention takes the claim back. -/

namespace Sys2Proof.Machine

open Sys2Proof

theorem State.chainState_chain (s : State) (st : Nat) : (s.chainState st).chain = s.chain :=
  (State.sameBut_of_op (l := postParts ++ [.reg .ch, .ic, .boot]) (fun _ _ => State.chainState_framed) .chain (by decide)).symm

theorem State.toListen_claimed (s : State) : s.toListen.chain.claimed = false := by
  unfold State.toListen
  exact congrArg ChainNode.claimed (State.chainState_chain _ 1)

theorem State.toWindow_now (s : State) : s.toWindow.now = s.now := (State.sameBut_of_op (l := [.reg .cp]) (fun _ _ => State.toWindow_framed) .now (by decide)).symm

theorem State.toWindow_chain (s : State) : s.toWindow.chain = s.chain := (State.sameBut_of_op (l := [.reg .cp]) (fun _ _ => State.toWindow_framed) .chain (by decide)).symm

/-- A claim launched while a frame of another node occupies the lane is withdrawn (version 1). -/
theorem State.launch_contended (s : State) {c : Sched} (k : Nat) (q : ChainSlot) (start : Time) (first : c.ver = 1)
    (busy : max s.now (start + (q.start + c.launch) * nsUnits) < s.chain.rxEnd) : (s.launch c k q start true).chain.claimed = false := by
  unfold State.launch
  extract_lets u pad
  split
  extract_lets sync fa v n w
  rw [if_pos ⟨rfl, first, busy⟩]
  exact State.toListen_claimed _

/-- A cold-start slot of the node's own in a schedule of version 1. -/
def coldSlot : ChainSlot := { start := 0, len8 := 16, owner := 0, sync := true, cs := true, payA := 8, payB := 8, payFb := 8, sig := 0 }

def coldSched : Sched := { ver := 1, cycleNs := 31250, id := 0, launch := 0, guard := 100, prec := 100, intWin := 1000, listen := 62500, slots := [coldSlot], streams := [] }

/-- A node about to claim in COLDSTART, the lane occupied until after its launch. -/
def coldState : State :=
  ({ State.reset with chain := { sched := some coldSched, rxEnd := 1000 }, seq := { running := true } } : State).put CH_STAT.STATE 2

/-- Refutes O47: the claim of a node whose lane is busy at its launch meets contention (version 1), which takes the claim back. -/
theorem not_chainControlComplete : ¬ Obligations.ChainControlComplete := by
  unfold Obligations.ChainControlComplete
  rintro ⟨-, -, -, -, -, -, -, claims, -⟩
  have state : coldState.get CH_STAT.STATE = 2 := State.get_put_of_lt _ (by simp) (by simp)
  have own : coldSched.slots.zipIdx.find? (fun p => p.1.owner == coldState.ownCell && p.1.cs) = some (coldSlot, 0) := by decide
  obtain ⟨t, ran, claimed, -⟩ := claims coldSched coldSlot 0 coldState rfl own state rfl rfl
  replace ran : execChainColdstartClaim coldState = .next t := ran
  unfold execChainColdstartClaim at ran
  rw [show coldState.chain.sched = some coldSched from rfl] at ran
  dsimp only at ran
  rw [own] at ran
  dsimp only at ran
  rw [if_pos ⟨state, rfl, rfl⟩] at ran
  rw [← Host.Outcome.next.inj ran, State.launch_contended] at claimed
  · exact absurd claimed (by decide)
  · rfl
  · rw [State.toWindow_now, State.toWindow_chain]
    decide

end Sys2Proof.Machine

/-! Chain cycles: the start of a cycle, build point, launch, reception and the answers to link-delay requests. -/

namespace Sys2Proof.Machine

open Sys2Proof

section
variable (s : State)

theorem find_tset {α β : Type} [DecidableEq α] (l : List (α × β)) (k : α) (v : β) : (tset l k v).find? (fun x => x.1 = k) = some (k, v) := by
  induction l with
  | nil => simp [tset]
  | cons q l ih =>
    by_cases e : q.1 = k
    · simp [tset, e]
    · rw [tset, if_neg e, List.find?_cons_of_neg (by simpa using e), ih]

/-- What the end of a cycle leaves alone: the state of the node, its step and announcement; nothing has come yet for the next cycle. -/
theorem State.closeCycle_kept (c : Sched) : (s.closeCycle c).get CH_STAT.STATE = s.get CH_STAT.STATE ∧ (s.closeCycle c).chain.got = []
    ∧ (s.closeCycle c).chain.step = s.chain.step ∧ (s.closeCycle c).chain.announce = s.chain.announce ∧ (s.closeCycle c).chain.cycle = s.chain.cycle
    ∧ (s.closeCycle c).now = s.now := by
  unfold State.closeCycle
  extract_lets slots n miss u null any na nb both fb w age
  have counted : u.get CH_STAT.STATE = s.get CH_STAT.STATE ∧ u.chain = s.chain ∧ u.now = s.now :=
    List.foldlRecOn (motive := fun u : State => u.get CH_STAT.STATE = s.get CH_STAT.STATE ∧ u.chain = s.chain ∧ u.now = s.now) _ _ ⟨rfl, rfl, rfl⟩ fun u hu b _ =>
      List.foldlRecOn (motive := fun u : State => u.get CH_STAT.STATE = s.get CH_STAT.STATE ∧ u.chain = s.chain ∧ u.now = s.now) _ _ hu fun u hu k _ => by
        obtain ⟨state, chain, now_⟩ := hu
        have bumped : (u.bump CH_NULL_CNT).get CH_STAT.STATE = s.get CH_STAT.STATE := (State.get_bump_ne u (by simp)).trans state
        dsimp only
        split
        · exact ⟨bumped, chain, now_⟩
        · refine ⟨?_, chain, now_⟩
          unfold State.slotStat
          refine (State.get_put_ne _ (Or.inl ?_) _).trans bumped
          split
          · simp
          · simp
  clear_value u
  obtain ⟨state, chain, now_⟩ := counted
  refine ⟨?_, rfl, ?_, ?_, ?_, now_⟩
  · rw [State.get_putB_ne _ (Or.inr (by simp))]
    exact (State.get_putB_ne u (Or.inr (by simp)) _).trans state
  · exact (rfl : _ = u.chain.step).trans (congrArg ChainNode.step chain)
  · exact (rfl : _ = u.chain.announce).trans (congrArg ChainNode.announce chain)
  · exact (rfl : _ = u.chain.cycle).trans (congrArg ChainNode.cycle chain)

theorem State.cycleChecks_active (c : Sched) (synced : Bool) (active : s.get CH_STAT.STATE = 4) : s.cycleChecks c synced = s := by
  unfold State.cycleChecks
  simp [active]

theorem State.chainLost_rd {r : Reg} (tb : r.group ≠ .tb) : s.chainLost.rd r = s.rd r :=
  State.sameBut.rd (l := [.reg .tb, .time, .ic, .chain]) (State.sameBut_of_op fun _ _ => State.chainLost_framed) r (by simpa using tb)

theorem State.raise_rd (n : Nat) (r : Reg) : (s.raise n).rd r = s.rd r := by
  unfold State.raise
  dsimp only
  split
  · rfl
  · rfl

theorem State.chainState_get {f : Field} (unposted : Unposted f.reg) (apart : f.reg ≠ CH_STAT ∨ f.lo + f.width ≤ CH_STAT.STATE.lo ∨ CH_STAT.STATE.lo + CH_STAT.STATE.width ≤ f.lo)
    (st : Nat) : (s.chainState st).get f = s.get f := by
  unfold State.chainState
  extract_lets old
  split
  · rfl
  · rw [State.get_of_rd ((State.rd_post unposted _ _ _ _ _).trans (State.raise_rd _ _ _)), State.get_put_ne _ apart]
    split
    · exact State.get_of_rd (State.mishap_rd _ _ _)
    · rfl

theorem State.chainState_state {st : Nat} (fits : st < 8) : (s.chainState st).get CH_STAT.STATE = st := by
  unfold State.chainState
  extract_lets old
  split
  · next same => exact same
  · rw [State.get_of_rd ((State.rd_post (by simp [Unposted]) _ _ _ _ _).trans (State.raise_rd _ _ _))]
    exact State.get_put_of_lt _ (by simp) fits

theorem State.toListen_get {f : Field} (unposted : Unposted f.reg) (tb : f.reg.group ≠ .tb)
    (apart : f.reg ≠ CH_STAT ∨ f.lo + f.width ≤ CH_STAT.STATE.lo ∨ CH_STAT.STATE.lo + CH_STAT.STATE.width ≤ f.lo) : s.toListen.get f = s.get f := by
  unfold State.toListen
  extract_lets u n
  refine (State.chainState_get _ unposted apart 1).trans ?_
  show u.get f = s.get f
  unfold u
  split
  · exact State.get_of_rd (State.chainLost_rd s tb)
  · rfl

theorem State.toListen_state : s.toListen.get CH_STAT.STATE = 1 := State.chainState_state _ (by decide)

/-- A violation report: shown, the run one longer (3 at the most), the third one of a run ending ACTIVE. -/
theorem State.chainReport_shown (active : s.get CH_STAT.STATE = 4) : s.chainReport.is CH_STAT.WIN_VIOL = true ∧ s.chainReport.get CH_STAT.VIOL_RUN = min (s.violRun + 1) 3
    ∧ s.chainReport.get CH_STAT.STATE = if 3 ≤ s.violRun + 1 then 1 else 4 := by
  unfold State.chainReport
  extract_lets n a b chain c
  have state : c.get CH_STAT.STATE = 4 := by
    show ((((a.flag CH_STAT.WIN_VIOL).put CH_STAT.VIOL_RUN (min n 3)).bump CH_VIOL_CNT).get CH_STAT.STATE) = 4
    rw [State.get_bump_ne _ (by simp), State.get_put_ne _ (Or.inr (by simp)), State.get_flag_ne _ (Or.inr (by simp))]
    unfold a
    rw [if_pos active, State.get_of_rd (State.mishap_rd _ _ _), active]
  have shown : c.is CH_STAT.WIN_VIOL = true := by
    show ((((a.flag CH_STAT.WIN_VIOL).put CH_STAT.VIOL_RUN (min n 3)).bump CH_VIOL_CNT).is CH_STAT.WIN_VIOL) = true
    rw [State.is_bump_ne _ (by simp), State.is_put_ne _ (Or.inr (by simp))]
    exact State.is_flag _ _ (by simp) (by simp)
  have run : c.get CH_STAT.VIOL_RUN = min n 3 := by
    show ((((a.flag CH_STAT.WIN_VIOL).put CH_STAT.VIOL_RUN (min n 3)).bump CH_VIOL_CNT).get CH_STAT.VIOL_RUN) = min n 3
    rw [State.get_bump_ne _ (by simp)]
    exact State.get_put_of_lt _ (by simp) (Nat.lt_of_le_of_lt (Nat.min_le_right n 3) (by simp))
  by_cases third : 3 ≤ n
  · rw [if_pos ⟨third, state⟩, if_pos third, State.is_bump_ne _ (by simp), State.get_bump_ne _ (by simp), State.get_bump_ne _ (by simp)]
    refine ⟨?_, ?_, State.toListen_state c⟩
    · unfold State.is
      rw [State.toListen_get c (by simp [Unposted]) (by simp [Reg.group]) (Or.inr (by simp))]
      exact shown
    · rw [State.toListen_get c (by simp [Unposted]) (by simp [Reg.group]) (Or.inr (by simp))]
      exact run
  · rw [if_neg fun h => third h.1, if_neg third]
    exact ⟨shown, run, state⟩

/-- A launch outside the cold start meets no contention. -/
theorem State.launch_kept (c : Sched) (k : Nat) (q : ChainSlot) (start : Time) : (s.launch c k q start false).now = max s.now (start + (q.start + c.launch) * nsUnits)
    ∧ (s.launch c k q start false).chain.sent.isSome = true ∧ (s.launch c k q start false).chain.built = s.chain.built.filter fun x => x.1 ≠ k := by
  unfold State.launch
  extract_lets u pad
  split
  extract_lets sync fa v n w
  rw [if_neg fun h => absurd h.1 (by decide)]
  exact ⟨rfl, rfl, rfl⟩

end

/-- What an arrival leaves on the lane of a node in ACTIVE. -/
def State.received (s : State) (c : Sched) (b : Bool) (x : ChainRx) (t : Nat) : State :=
  match x with
  | .delayRequest => { s with chain := { s.chain with request := tset s.chain.request b (s.chainIngress b t) } }
  | .delayResult d =>
    let l := joinDelay (tget s.chain.delays b []) d
    { s with chain := { s.chain with delays := tset s.chain.delays b l } }.wr (if b then CH_LINKDLY_B else CH_LINKDLY_A) (delayMean l)
  | .report _ _ => s.chainReport
  | .frame bytes bad =>
    match (if bad then none else Frame.ofBytes c.ver bytes) with
    | none => (s.onLane c bytes t).invalidAt c b t
    | some f =>
      let s := if c.ver = 2 ∧ f.sched ≠ some c.id then s.flag CH_STAT.SCHED_MISMATCH else s
      (if cellOf f.addr ≠ s.ownCell then s.onLane c bytes t else s).chainFrame c f b t

theorem chainFrameRx_active {s : State} {c : Sched} (sched : s.chain.sched = some c) (active : s.get CH_STAT.STATE = 4) (b : Bool) (x : ChainRx) (t : Nat) :
    exec (.chainFrameRx b x t) s = .next ((s.advance t).received c b x t) := by
  show execChainFrameRx b x t s = _
  unfold execChainFrameRx
  extract_lets +onlyGivenNames u st
  have state : st = 4 := active
  rw [show u.chain.sched = some c from sched]
  change _ = Host.Outcome.next (u.received c b x t)
  clear_value st u
  subst state
  dsimp only
  rw [if_neg (by decide)]
  cases x with
  | delayRequest => rfl
  | delayResult d => rfl
  | report dev k => exact if_neg (by decide)
  | frame bytes bad =>
    unfold State.received
    dsimp only
    cases if bad then none else Frame.ofBytes c.ver bytes with
    | none => exact if_neg fun h => absurd h.1 (by decide)
    | some f =>
      dsimp only
      rw [if_neg (by decide), if_neg (by decide)]

/-- Settles O48: a cycle by its close, a build by its payload, a report by its run, and each other arrival by its branch. -/
theorem chainCyclesComplete : Obligations.ChainCyclesComplete := by
  unfold Obligations.ChainCyclesComplete
  refine ⟨?_, ?_, ?_, ?_, ?_, ?_, ?_, ?_, ?_, ?_⟩
  · intro c own s sched start active step announce
    show ∃ t, execChainCycleStart s = .next t ∧ _
    unfold execChainCycleStart
    rw [sched, start]
    dsimp -zeta only
    rw [if_neg (by rw [active]; decide)]
    extract_lets at_ u synced v cyc n w x _ y _ _ z
    obtain ⟨state, got, step', announce', cycle, now_⟩ := State.closeCycle_kept u c
    have checked : x = w := State.cycleChecks_active w c synced ((State.get_wr_ne _ _ (by simp)).trans (state.trans active))
    have plain : y = w := by
      unfold y
      rw [checked, show w.chain.step = none from step'.trans step]
    have same : z = w := by
      unfold z
      rw [plain, show w.chain.announce = false from announce'.trans announce]
    rw [same]
    refine ⟨w, rfl, now_, rfl, congrArg (fun k => (k + 1) % cycleMod c.ver) cycle, State.rd_wr_same _ _ _, got⟩
  · intro k c q own s sched start slot mine active
    show ∃ t, execChainBuildPoint k s = .next t ∧ _
    unfold execChainBuildPoint
    rw [sched]
    dsimp -zeta only
    rw [slot]
    dsimp -zeta only
    rw [if_neg fun h => h.elim (fun e => e mine) (fun e => e.1 active), start]
    extract_lets u fb a b sent v n
    have kept : v.now = u.now ∧ v.chain = u.chain :=
      List.foldlRecOn (motive := fun w : State => w.now = u.now ∧ w.chain = u.chain) _ _ ⟨rfl, rfl⟩ fun _ h _ _ => h
    refine ⟨_, rfl, kept.1, ?_, rfl, State.is_putB _ _ _ (by simp) (by simp)⟩
    exact find_tset _ _ _
  · intro k c q own s sched start slot mine active
    show ∃ t, execChainFrameLaunch k s = .next t ∧ _
    unfold execChainFrameLaunch
    rw [sched, start]
    dsimp only
    rw [slot]
    dsimp only
    rw [if_pos ⟨mine, Or.inl active⟩, active]
    exact ⟨_, rfl, State.launch_kept s c (k.val + 1) q own⟩
  · intro b dev k at_ c s sched active short
    obtain ⟨shown, run, state⟩ := State.chainReport_shown (s.advance at_) active
    refine ⟨_, chainFrameRx_active sched active _ _ _, shown, run.trans ?_, state.trans ?_⟩
    · omega
    · rw [if_neg (by omega)]
  · intro b dev k at_ c s sched active long
    obtain ⟨shown, run, state⟩ := State.chainReport_shown (s.advance at_) active
    refine ⟨_, chainFrameRx_active sched active _ _ _, shown, run.trans ?_, state.trans ?_⟩
    · omega
    · rw [if_pos (by omega)]
  · intro b bad at_ c bs s sched active invalid
    refine (chainFrameRx_active sched active _ _ _).trans ?_
    have unread : (if bad then none else Frame.ofBytes c.ver bs) = none := by
      obtain rfl | none_ := invalid
      · rfl
      · rw [none_, ite_self]
    show Host.Outcome.next (match (if bad then none else Frame.ofBytes c.ver bs) with | none => _ | some f => _) = _
    rw [unread]
  · intro b at_ c bs f s sched active read same
    refine (chainFrameRx_active sched active _ _ _).trans ?_
    have known : ¬ (c.ver = 2 ∧ f.sched ≠ some c.id) := fun h => same.elim (fun e => by rw [e] at h; cases h.1) (fun e => h.2 e)
    show Host.Outcome.next (match (if false then none else Frame.ofBytes c.ver bs) with | none => _ | some f => _) = _
    rw [if_neg (by decide), read]
    dsimp only
    rw [if_neg known]
    rfl
  · intro b at_ c s sched active
    exact ⟨_, chainFrameRx_active sched active _ _ _, rfl, tget_tset_same _ _ _ _⟩
  · intro b d at_ c s sched active
    refine ⟨_, chainFrameRx_active sched active _ _ _, rfl, tget_tset_same _ _ _ _, ?_⟩
    refine (State.rd_wr_same _ _ _).trans (congrArg delayMean ?_)
    exact (tget_tset_same _ _ _ _).symm
  · intro b t2 s found
    show ∃ t, execLinkDelayAnswer b s = .next t ∧ _
    unfold execLinkDelayAnswer
    rw [found]
    refine ⟨_, rfl, rfl, fun q hq => ?_, tget_tset_same _ _ _ _⟩
    simpa using (List.mem_filter.mp hq).2

end Sys2Proof.Machine

/-! The planes: comparison, faults found, tests, transfer, confirmation and the commands of their control. -/

namespace Sys2Proof.Machine

open Sys2Proof

section
variable (s : State)

theorem planeField_reg : ∀ pl : Fin 2, (planeField pl).reg = PC_STAT := by decide

theorem planeField_fits : ∀ pl : Fin 2, (planeField pl).lo + (planeField pl).width ≤ 32 ∧ (planeField pl).width = 3 := by decide

theorem healthReg_ne : ∀ pl : Fin 2, PC_STAT ≠ healthReg pl := by decide

theorem State.port_setPort (n : Fin 64) (x : Port) : (s.setPort n x).port n = x := tget_tset_same _ _ _ _

theorem State.planeState_of_stat {s t : State} (h : t.rd PC_STAT = s.rd PC_STAT) (pl : Fin 2) : t.planeState pl = s.planeState pl :=
  State.get_of_rd (by rw [planeField_reg]; exact h)

/-- A field of PC_STAT above the plane states leaves them. -/
theorem State.planeState_put {f : Field} (above : 6 ≤ f.lo) (v : Nat) (pl : Fin 2) : (s.put f v).planeState pl = s.planeState pl := by
  refine State.get_put_ne s (Or.inr (Or.inl ?_)) v
  obtain rfl | rfl : pl = 0 ∨ pl = 1 := by omega
  · exact le_trans (by decide) above
  · exact le_trans (by decide) above

theorem State.showOk_stat (pl : Fin 2) : (s.showOk pl).rd PC_STAT = s.rd PC_STAT := State.rd_wr_ne s _ (healthReg_ne pl)

theorem State.setPlane_state (pl : Fin 2) {st : Nat} (fits : st < 8) : (s.setPlane pl st).planeState pl = st := by
  obtain ⟨inside, width⟩ := planeField_fits pl
  unfold State.setPlane
  rw [State.planeState_of_stat (State.showOk_stat _ pl)]
  split
  · next same => exact same
  · rw [State.planeState_of_stat (State.raise_rd _ _ _)]
    exact State.get_put_of_lt _ inside (by rw [width]; exact fits)

theorem State.eccError_state (i : Fin 32) (words : List Nat) (q : Fin 2) : (s.eccError i words).planeState q = s.planeState q :=
  State.planeState_of_stat (State.sameBut.rd (l := [.reg .ic, .tiles, .stk, .ic]) (State.sameBut_of_op fun _ _ => State.eccError_framed) PC_STAT (by decide)) q

theorem State.post_state (type sev : Nat) (a : Word) (payload : List Byte) (q : Fin 2) : (s.post type sev a payload).planeState q = s.planeState q :=
  State.planeState_of_stat (State.rd_post (by simp [Unposted]) _ _ _ _ _) q

end

/-- What a plane's self-found fault does once its tile, where it names one, has its error: the planes concerned show it; those in TEST are down, the others give up. -/
def State.selfFound (s : State) (found : List (Fin 2 × PlaneFault × Option (Fin 16))) : State :=
  let found := found.filter (fun q => decide (s.planeState q.1 ≠ 0))
  let tests := found.filter (fun q => decide (s.planeState q.1 = 1))
  let runs := found.filter (fun q => decide (s.planeState q.1 ≠ 1))
  let s := found.foldl (fun s q => s.setHealth q.1 q.2.1 q.2.2) s
  let s := tests.foldl (fun s q => (s.planeDown q.1).bootPlanes) s
  if runs.isEmpty then s else s.giveUps (runs.map fun q => q.1)

section
variable {s : State} {pl : Fin 2} {k : PlaneFault} {tile : Option (Fin 16)}

theorem planeSelfFault_plain (words : List Nat) (other : Option PlaneFault) (t : Nat) (plain : k ≠ .eccUe ∨ tile = none) :
    execPlaneSelfFault pl k tile words other t s = .next ((s.advance t).selfFound ((pl, k, tile) :: (match other with | some f => [(1 - pl, f, none)] | none => []))) := by
  unfold execPlaneSelfFault
  extract_lets u v found
  have same : v = u := by
    unfold v
    split
    · exact plain.elim (fun e => absurd rfl e) (fun e => by cases e)
    · rfl
  change Host.Outcome.next (v.selfFound found) = Host.Outcome.next (u.selfFound found)
  rw [same]

theorem planeSelfFault_ecc (i : Fin 16) (words : List Nat) (t : Nat) :
    execPlaneSelfFault pl .eccUe (some i) words none t s = .next (((s.advance t).eccError (tileOf pl i) words).selfFound [(pl, .eccUe, some i)]) := rfl

theorem State.selfFound_running (up : 2 ≤ s.planeState pl) : s.selfFound [(pl, k, tile)] = (s.setHealth pl k tile).giveUps [pl] := by
  have there : decide (s.planeState pl ≠ 0) = true := decide_eq_true (by omega)
  have past : decide (s.planeState pl = 1) = false := decide_eq_false (by omega)
  have runs : decide (s.planeState pl ≠ 1) = true := decide_eq_true (by omega)
  unfold State.selfFound
  simp only [List.filter_cons, List.filter_nil, there, past, runs, if_true, Bool.false_eq_true, if_false, List.foldl_cons, List.foldl_nil, List.map_cons, List.map_nil, List.isEmpty_cons]

theorem State.selfFound_both {f : PlaneFault} (up : 2 ≤ s.planeState pl) (up' : 2 ≤ s.planeState (1 - pl)) :
    s.selfFound [(pl, k, tile), (1 - pl, f, none)] = ((s.setHealth pl k tile).setHealth (1 - pl) f none).giveUps [pl, 1 - pl] := by
  have there : decide (s.planeState pl ≠ 0) = true := decide_eq_true (by omega)
  have past : decide (s.planeState pl = 1) = false := decide_eq_false (by omega)
  have runs : decide (s.planeState pl ≠ 1) = true := decide_eq_true (by omega)
  have there' : decide (s.planeState (1 - pl) ≠ 0) = true := decide_eq_true (by omega)
  have past' : decide (s.planeState (1 - pl) = 1) = false := decide_eq_false (by omega)
  have runs' : decide (s.planeState (1 - pl) ≠ 1) = true := decide_eq_true (by omega)
  unfold State.selfFound
  simp only [List.filter_cons, List.filter_nil, there, past, runs, there', past', runs', if_true, Bool.false_eq_true, if_false, List.foldl_cons, List.foldl_nil, List.map_cons,
    List.map_nil, List.isEmpty_cons]

theorem State.selfFound_test (test : s.planeState pl = 1) : s.selfFound [(pl, k, tile)] = ((s.setHealth pl k tile).planeDown pl).bootPlanes := by
  have there : decide (s.planeState pl ≠ 0) = true := decide_eq_true (by omega)
  have past : decide (s.planeState pl = 1) = true := decide_eq_true test
  have runs : decide (s.planeState pl ≠ 1) = false := decide_eq_false (by omega)
  unfold State.selfFound
  simp only [List.filter_cons, List.filter_nil, there, past, runs, if_true, Bool.false_eq_true, if_false, List.foldl_cons, List.foldl_nil, List.isEmpty_nil]

theorem State.selfFound_down (down : s.planeState pl = 0) : s.selfFound [(pl, k, tile)] = s := by
  have gone : decide (s.planeState pl ≠ 0) = false := decide_eq_false (by omega)
  unfold State.selfFound
  simp only [List.filter_cons, List.filter_nil, gone, Bool.false_eq_true, if_false, List.foldl_nil, List.isEmpty_nil, if_true]

end

theorem tileNo_tileOf : ∀ (pl : Fin 2) (i : Fin 16), tileNo (tileOf pl i) = i := by decide

/-- A slice of the self-test of a tile on the planes of a list without repetition. -/
theorem State.lbist_foldl (i : Fin 16) (l : List (Fin 2)) (s : State) (once : l.Nodup) :
    let t := l.foldl (fun (s : State) pl => (s.useFresh.setTile (tileOf pl i) ((s.tile (tileOf pl i)).bisted s.fresh)).updPc fun c =>
      { c with lbist := tset c.lbist (pl, i) (if (tget c.lbist (pl, i) (0, 0)).1 + 1 = 256 then (0, s.now) else ((tget c.lbist (pl, i) (0, 0)).1 + 1, (tget c.lbist (pl, i) (0, 0)).2)) }) s
    (∀ pl ∈ l, tget t.pc.lbist (pl, i) (0, 0) = if (tget s.pc.lbist (pl, i) (0, 0)).1 + 1 = 256 then (0, s.now) else ((tget s.pc.lbist (pl, i) (0, 0)).1 + 1, (tget s.pc.lbist (pl, i) (0, 0)).2))
    ∧ (∀ pl ∉ l, tget t.pc.lbist (pl, i) (0, 0) = tget s.pc.lbist (pl, i) (0, 0)) ∧ (∀ j, tileNo j ≠ i → t.tile j = s.tile j) ∧ t.now = s.now := by
  induction l using List.reverseRecOn with
  | nil => exact ⟨fun _ h => absurd h List.not_mem_nil, fun _ _ => rfl, fun _ _ => rfl, rfl⟩
  | append_singleton l x ih =>
    obtain ⟨nodup, -, apart⟩ := List.nodup_append.mp once
    have new : x ∉ l := fun h => apart x h x (List.mem_singleton_self x) rfl
    obtain ⟨slices, rest, tiles, now_⟩ := ih nodup
    rw [List.foldl_append, List.foldl_cons, List.foldl_nil]
    generalize List.foldl _ s l = u at *
    refine ⟨fun pl hpl => ?_, fun pl hpl => ?_, fun j hj => ?_, now_⟩
    · by_cases e : pl = x
      · subst e
        refine (tget_tset_same _ _ _ _).trans ?_
        show (if (tget u.pc.lbist (pl, i) (0, 0)).1 + 1 = 256 then (0, u.now) else ((tget u.pc.lbist (pl, i) (0, 0)).1 + 1, (tget u.pc.lbist (pl, i) (0, 0)).2)) = _
        rw [rest pl new, now_]
      · refine (tget_tset_ne _ _ _ fun h => e (congrArg Prod.fst h)).trans ?_
        exact slices pl ((List.mem_append.mp hpl).resolve_right fun h => e (List.mem_singleton.mp h))
    · have out : pl ∉ l ∧ pl ≠ x := ⟨fun h => hpl (List.mem_append_left _ h), fun h => hpl (List.mem_append_right _ (List.mem_singleton.mpr h))⟩
      exact (tget_tset_ne _ _ _ fun h => out.2 (congrArg Prod.fst h)).trans (rest pl out.1)
    · have other : j ≠ tileOf x i := fun h => hj (h ▸ tileNo_tileOf x i)
      exact (State.tile_setTile_ne u.useFresh _ other).trans (tiles j hj)

/-- Settles O50: the comparison by its registers, a fault by the planes concerned, each command by its branch. -/
theorem planeCommandsComplete : Obligations.PlaneCommandsComplete := by
  unfold Obligations.PlaneCommandsComplete
  refine ⟨?_, ?_, ?_, ?_, ?_, ?_, ?_, ?_, ?_, ?_, ?_, ?_, ?_, ?_, ?_, ?_, ?_, ?_, ?_, ?_, ?_, ?_, ?_, ?_, ?_, ?_, ?_⟩
  · intro c s prev both since images same
    show ∃ t, execPlaneComparison s = .next t ∧ _
    unfold execPlaneComparison
    rw [prev]
    dsimp -zeta only
    extract_lets +onlyGivenNames k u shadow
    have open_ : ¬ (u.runPlanes.length ≠ 2 ∨ k < u.pc.since) := fun h => h.elim (fun e => e both) (Nat.not_lt.mpr since)
    rw [if_neg open_, show u.sameImages = true from images, if_pos rfl, same]
    dsimp -zeta only
    extract_lets v
    have count : v.rd PC_CONF_CNT = s.rd PC_CONF_CNT := State.rd_put_ne u _ (by simp)
    have run : v.get PC_STAT.MISM_RUN = 0 := State.get_put_of_lt u (by simp) (by simp)
    have a : v.rd PC_MISM_A = s.rd PC_MISM_A := State.rd_put_ne u _ (by simp)
    have b : v.rd PC_MISM_B = s.rd PC_MISM_B := State.rd_put_ne u _ (by simp)
    have now_ : v.now = max s.now (s.boundary s.periodNo + 24 * nsUnits) := rfl
    have shadowed : shadow ↔ (s.planeState 0 = 3 ∨ s.planeState 1 = 3) := Iff.rfl
    clear_value v
    refine ⟨_, rfl, ?_⟩
    by_cases h : shadow
    · rw [if_pos h, if_pos (shadowed.mp h), count]
      exact ⟨now_, (State.get_wr_ne v _ (by simp)).trans run, (State.rd_wr_ne v _ (by simp)).trans a, (State.rd_wr_ne v _ (by simp)).trans b, State.rd_wr_same _ _ _⟩
    · rw [if_neg h, if_neg fun e => h (shadowed.mpr e)]
      exact ⟨now_, run, a, b, count⟩
  · intro c d s prev both since images differs
    show ∃ t, execPlaneComparison s = .next t ∧ _
    unfold execPlaneComparison
    rw [prev]
    dsimp -zeta only
    extract_lets +onlyGivenNames k u shadow
    have open_ : ¬ (u.runPlanes.length ≠ 2 ∨ k < u.pc.since) := fun h => h.elim (fun e => e both) (Nat.not_lt.mpr since)
    rw [if_neg open_, show u.sameImages = true from images, if_pos rfl, differs]
    dsimp -zeta only
    extract_lets +onlyGivenNames v m w x y
    have reads : ∀ r, r ≠ PC_STAT → r ≠ PC_MISM_WHERE → r ≠ PC_CONF_CNT → Unposted r → y.rd r = v.rd r ∧ (y.extTest).rd r = v.rd r := fun r stat where_ count free => by
      have shown : w.rd r = v.rd r := by
        unfold w
        split
        · exact (State.rd_post free _ _ _ _ _).trans ((State.raise_rd _ _ _).trans (by rw [State.rd_put_ne _ _ where_, State.rd_put_ne _ _ where_, State.rd_put_ne _ _ where_]))
        · rfl
      have run : x.rd r = v.rd r := (State.rd_put_ne w _ stat).trans shown
      have last : y.rd r = v.rd r := by
        unfold y
        split
        · exact (State.rd_wr_ne x _ count).trans run
        · exact run
      exact ⟨last, (State.rd_put_ne y _ stat).trans last⟩
    have shown : w.now = v.now := by
      unfold w
      split
      · exact (State.sameBut_post _ _ _ _ _ .now (by decide)).symm.trans (State.sameBut_of_op (l := [.ic]) (fun _ _ => State.raise_framed) .now (by decide)).symm
      · rfl
    have now_ : y.now = max s.now (s.boundary s.periodNo + 24 * nsUnits) := by
      unfold y
      split
      · exact shown
      · exact shown
    have a : v.rd PC_MISM_A = satInc (s.rd PC_MISM_A) := (State.rd_bump_ne _ (by simp)).trans (State.rd_bump u _)
    have b : v.rd PC_MISM_B = satInc (s.rd PC_MISM_B) := (State.rd_bump _ _).trans (congrArg satInc (State.rd_bump_ne u (by simp)))
    obtain ⟨keptA, testA⟩ := reads PC_MISM_A (by simp) (by simp) (by simp) (by simp [Unposted])
    obtain ⟨keptB, testB⟩ := reads PC_MISM_B (by simp) (by simp) (by simp) (by simp [Unposted])
    clear_value y v
    refine ⟨_, rfl, ?_⟩
    split
    · exact ⟨now_, testA.trans a, testB.trans b⟩
    · exact ⟨now_, keptA.trans a, keptB.trans b⟩
  · intro pl k tile at_ s up plain
    exact (planeSelfFault_plain [] none at_ plain).trans (congrArg Host.Outcome.next (State.selfFound_running up))
  · intro pl i words at_ s up
    refine (planeSelfFault_ecc i words at_).trans (congrArg Host.Outcome.next (State.selfFound_running ?_))
    rw [State.eccError_state]
    exact up
  · intro pl k f tile at_ s up up' plain
    exact (planeSelfFault_plain [] (some f) at_ plain).trans (congrArg Host.Outcome.next (State.selfFound_both up up'))
  · intro pl k tile at_ s test plain
    exact (planeSelfFault_plain [] none at_ plain).trans (congrArg Host.Outcome.next (State.selfFound_test test))
  · intro pl k tile at_ s down plain
    exact (planeSelfFault_plain [] none at_ plain).trans (congrArg Host.Outcome.next (State.selfFound_down down))
  · intro n s crossing
    show ∃ t, execPlaneGiveupAtPort n s = .next t ∧ _
    unfold execPlaneGiveupAtPort
    rw [if_pos crossing]
    extract_lets old u p q
    have crossed : n ∉ u.pc.crossing := fun h => by simpa using (List.mem_filter.mp h).2
    have former : ∀ x ∈ q.posts, x.1 ≠ s.pc.former := fun x hx => by simpa using (List.mem_filter.mp hx).2
    have now_ : u.now = max s.now s.pc.crossAt := rfl
    clear_value q
    split
    · refine ⟨_, rfl, now_, crossed, fun x hx => former x ?_⟩
      rwa [State.port_setPort] at hx
    · next c _ =>
      generalize (if u.get (PWM_STAT.STATE n) = 2 then q.plan else []) = legs
      have posts : ∀ x ∈ ((u.setPort n { q with cand := some { c with words := q.used, repeated := true, legs := legs } }).port n).posts, x.1 ≠ s.pc.former := fun x hx => by
        rw [State.port_setPort] at hx
        exact former x hx
      refine ⟨_, rfl, ?_⟩
      split
      · exact ⟨now_, crossed, posts⟩
      · exact ⟨now_, crossed, posts⟩
  · exact fun pl s down => congrArg Host.Outcome.next (if_pos down)
  · exact fun pl s up => congrArg Host.Outcome.next (if_neg up)
  · intro s active standby
    exact ⟨_, congrArg Host.Outcome.next (if_pos ⟨active, standby⟩), rfl, State.sameBut_of_op fun _ _ => State.updPc_framed⟩
  · exact fun s other => congrArg Host.Outcome.next (if_neg fun h => other.elim (fun e => e h.1) (fun e => e h.2))
  · exact fun pl s low high => congrArg Host.Outcome.next (if_pos ⟨low, high⟩)
  · exact fun pl s out => congrArg Host.Outcome.next (if_neg fun h => by omega)
  · intro s
    exact ⟨_, rfl, State.is_flag _ _ (by simp) (by simp), State.sameBut_of_op fun _ _ => State.extTest_framed⟩
  · intro pl k tile s test
    exact if_neg (not_not.mpr test)
  · intro pl tile s test plain
    show ∃ t, execPlaneTestDone pl none tile s = .next t ∧ _
    unfold execPlaneTestDone
    rw [if_neg (not_not.mpr test)]
    dsimp only
    rw [if_neg (by rw [plain]; decide)]
    refine ⟨_, rfl, State.setPlane_state s pl (by decide), tget_tset_same _ _ _ _, fun h => ?_⟩
    simpa using (List.mem_filter.mp h).2
  · intro pl tile s test boot
    exact ⟨_, (if_neg (not_not.mpr test)).trans (if_pos boot), rfl⟩
  · intro pl s transfer
    exact ⟨_, if_pos transfer, rfl, rfl, State.rd_wr_same _ _ _, List.mem_cons_self⟩
  · exact fun pl s transfer open_ => if_pos ⟨transfer, open_⟩
  · intro s reached shadow other
    refine ⟨_, (if_neg (Nat.not_lt.mpr reached)).trans ((if_pos shadow).trans (congrArg Host.Outcome.next (if_neg other))), ?_⟩
    exact State.setPlane_state s 0 (by decide)
  · intro s reached shadow other
    refine ⟨_, (if_neg (Nat.not_lt.mpr reached)).trans ((if_pos shadow).trans (congrArg Host.Outcome.next (if_pos other))), rfl, ?_⟩
    exact State.sameBut_of_op fun _ _ => State.updPc_framed
  · intro s reached other shadow
    refine ⟨_, (if_neg (Nat.not_lt.mpr reached)).trans ((if_neg other).trans (if_pos shadow)), ?_⟩
    have standby := State.setPlane_state s 1 (st := 4) (by decide)
    split
    · exact standby
    · split
      · exact standby
      · exact standby
  · intro s running
    refine ⟨_, if_pos running, ?_, ?_, State.get_put_of_lt _ (by simp) (by simp), ?_, ?_⟩
    · rw [State.is_put_ne _ (Or.inr (by simp)), State.is_of_rd (State.rd_post (by simp [Unposted]) _ _ _ _ _), State.is_flag_ne _ (Or.inr (by simp))]
      exact State.is_put_zero _ (by simp)
    · rw [State.is_put_ne _ (Or.inr (by simp)), State.is_of_rd (State.rd_post (by simp [Unposted]) _ _ _ _ _)]
      exact State.is_flag _ _ (by simp) (by simp)
    · rw [State.planeState_put _ (by simp), State.post_state, State.flag, State.planeState_put _ (by simp), State.planeState_put _ (by simp)]
    · rw [State.planeState_put _ (by simp), State.post_state, State.flag, State.planeState_put _ (by simp), State.planeState_put _ (by simp)]
  · intro f u s running ended up
    refine (if_pos running).trans ?_
    rw [← ended]
    exact (planeSelfFault_plain [] none u.now (Or.inr rfl)).trans (congrArg Host.Outcome.next (State.selfFound_running up))
  · intro i s
    obtain ⟨slices, -, tiles, -⟩ := State.lbist_foldl i s.runPlanes s (by
      unfold State.runPlanes
      split
      · split
        · decide
        · decide
      · split
        · decide
        · decide)
    exact ⟨_, rfl, slices, tiles, (sameBut_of_exec (c := .lbistSlice i) (s := s) rfl).mono (show ([.fresh, .tiles, .pc] : List Part) ⊆ [.pc, .tiles, .fresh] by decide)⟩
  · intro pl i s runs
    have ran : exec (.lbistStarved pl i) s = .next ((s.advance ((tget s.pc.lbist (pl, i) (0, 0)).2 + (s.rd PC_LBIST_INT).toNat * 1000000 * nsUnits)).wr (healthReg pl)
      (putBits (s.rd (healthReg pl)) 7 1 1)) := if_pos runs
    refine ⟨_, ran, rfl, ?_, (sameBut_of_exec ran).mono (show ([.reg .pc, .now] : List Part) ⊆ [.now, .reg .pc] by decide)⟩
    rw [State.rd_wr_same, putBits, BitVec.getLsbD_or]
    exact Bool.or_eq_true_iff.mpr (Or.inr (by decide))

end Sys2Proof.Machine

/-! The safety cycle: capture, channel results, exchange windows, commit, island faults, and the telegrams of Signet. -/

namespace Sys2Proof.Machine

open Sys2Proof

section
variable (s : State)

theorem State.chan_setChan (one : Bool) (c : SafeChannel) : (s.setChan one c).chan one = c ∧ (s.setChan one c).chan (!one) = s.chan (!one)
    ∧ (s.setChan one c).si.faults = s.si.faults := by
  cases one with
  | true => exact ⟨rfl, rfl, rfl⟩
  | false => exact ⟨rfl, rfl, rfl⟩

theorem State.setChan_sameBut (one : Bool) (c : SafeChannel) : s.sameBut [.si] (s.setChan one c) := State.sameBut_of_op fun _ _ => State.setChan_framed

theorem State.mishap_si (l : List Nat) : (s.mishap l).si = s.si := by
  unfold State.mishap
  split
  · rfl
  · rfl

theorem State.islandFault_si (kind : Nat) : (s.islandFault kind).si = { s.si with faults := s.si.faults ++ [kind] } := State.mishap_si _ _

theorem State.chan_islandFault (kind : Nat) (one : Bool) : (s.islandFault kind).chan one = s.chan one := by
  unfold State.chan
  rw [State.islandFault_si]

theorem State.faults_islandFault (kind : Nat) : (s.islandFault kind).si.faults = s.si.faults ++ [kind] := congrArg Island.faults (State.islandFault_si s kind)

theorem State.pset_setChan (one : Bool) (c : SafeChannel) : (s.setChan one c).pset = s.pset := by
  cases one with
  | true => rfl
  | false => rfl

theorem State.differences_setChan (one : Bool) (c : SafeChannel) (r q : ChanResult) : (s.setChan one c).differences r q = s.differences r q := by
  cases one with
  | true => rfl
  | false => rfl

end

/-- The count of a channel's differences: kept for the commit, and an island fault once the run of differing cycles is as long as the set allows. -/
def State.compared (s : State) (one : Bool) (d run : Nat) : State :=
  let s := s.setChan one { s.chan one with xcRun := run, xcNew := d }
  if d ≠ 0 ∧ s.pset.xcN ≤ run then s.islandFault 0 else s

/-- A channel's window noted: whether its own result and the other's have come. -/
def State.noted (s : State) (one : Bool) : State :=
  s.setChan one { s.chan one with window := some ((s.chan one).result.isSome, (s.chan one).held.isSome) }

theorem State.endWindow_open (s : State) (one : Bool) (snap : s.si.snap.isSome = true) (window : (s.chan one).window = none) (on : s.si.restarting = false) :
    s.endWindow one = match (s.chan one).result, (s.chan one).held with
      | some r, some q => (s.noted one).compared one ((s.noted one).differences r q) (if (s.noted one).differences r q = 0 then 0 else (s.chan one).xcRun + 1)
      | some _, none => (s.noted one).islandFault 0
      | none, _ => (s.noted one).islandFault 1 := by
  refine (if_neg ?_).trans rfl
  rw [window, on, Option.isNone_eq_false_iff.mpr snap]
  decide

section
variable (s : State) (one : Bool)

theorem State.noted_kept : (s.noted one).chan one = { s.chan one with window := some ((s.chan one).result.isSome, (s.chan one).held.isSome) }
    ∧ (s.noted one).si.faults = s.si.faults ∧ (s.noted one).pset = s.pset ∧ ∀ r q, (s.noted one).differences r q = s.differences r q := by
  obtain ⟨own, -, faults⟩ := State.chan_setChan s one { s.chan one with window := some ((s.chan one).result.isSome, (s.chan one).held.isSome) }
  exact ⟨own, faults, State.pset_setChan s one _, State.differences_setChan s one _⟩

theorem State.compared_kept (d run : Nat) : ((s.compared one d run).chan one).window = (s.chan one).window ∧ ((s.compared one d run).chan one).xcRun = run
    ∧ ((s.compared one d run).chan one).xcNew = d ∧ (s.compared one d run).si.faults = if d ≠ 0 ∧ s.pset.xcN ≤ run then s.si.faults ++ [0] else s.si.faults := by
  obtain ⟨own, -, faults⟩ := State.chan_setChan s one { s.chan one with xcRun := run, xcNew := d }
  have limit := State.pset_setChan s one { s.chan one with xcRun := run, xcNew := d }
  unfold State.compared
  extract_lets c u
  rw [show u.pset = s.pset from limit]
  change u.chan one = _ at own
  change u.si.faults = _ at faults
  clear_value u
  split
  · rw [State.chan_islandFault, State.faults_islandFault, own, faults]
    exact ⟨rfl, rfl, rfl, rfl⟩
  · rw [own, faults]
    exact ⟨rfl, rfl, rfl, rfl⟩

variable {s one} (snap : s.si.snap.isSome = true) (window : (s.chan one).window = none) (on : s.si.restarting = false)
include snap window on

/-- An exchange window that ends with both results. -/
theorem State.endWindow_both {r q : ChanResult} (own : (s.chan one).result = some r) (other : (s.chan one).held = some q) :
    ((s.endWindow one).chan one).window = some (true, true)
    ∧ ((s.endWindow one).chan one).xcRun = (if s.differences r q = 0 then 0 else (s.chan one).xcRun + 1) ∧ ((s.endWindow one).chan one).xcNew = s.differences r q
    ∧ (s.endWindow one).si.faults =
      if s.differences r q ≠ 0 ∧ s.pset.xcN ≤ (if s.differences r q = 0 then 0 else (s.chan one).xcRun + 1) then s.si.faults ++ [0] else s.si.faults := by
  obtain ⟨noted, faults, limit, differ⟩ := State.noted_kept s one
  rw [State.endWindow_open s one snap window on, own, other]
  dsimp only
  rw [differ]
  obtain ⟨w, run, new, fault⟩ := State.compared_kept (s.noted one) one (s.differences r q) (if s.differences r q = 0 then 0 else (s.chan one).xcRun + 1)
  rw [limit, faults] at fault
  refine ⟨w.trans ?_, run, new, fault⟩
  rw [noted, own, other]
  rfl

theorem State.endWindow_missing (own : (s.chan one).result.isSome = true) (other : (s.chan one).held = none) :
    ((s.endWindow one).chan one).window = some (true, false) ∧ (s.endWindow one).si.faults = s.si.faults ++ [0] := by
  obtain ⟨noted, faults, -⟩ := State.noted_kept s one
  obtain ⟨r, own⟩ := Option.isSome_iff_exists.mp own
  rw [State.endWindow_open s one snap window on, own, other]
  dsimp only
  rw [State.chan_islandFault, State.faults_islandFault, noted, faults, own, other]
  exact ⟨rfl, rfl⟩

theorem State.endWindow_silent (own : (s.chan one).result = none) :
    ((s.endWindow one).chan one).window = some (false, (s.chan one).held.isSome) ∧ (s.endWindow one).si.faults = s.si.faults ++ [1] := by
  obtain ⟨noted, faults, -⟩ := State.noted_kept s one
  rw [State.endWindow_open s one snap window on, own]
  dsimp only
  rw [State.chan_islandFault, State.faults_islandFault, noted, faults, own]
  exact ⟨rfl, rfl⟩

end

/-- The end of a window whose cycle count is in order, or that is channel 2's. -/
theorem exchangeWindowEnd_inOrder {one : Bool} {cycles : Nat} (h : one = false ∨ (23750 ≤ cycles ∧ cycles ≤ 26250)) (s : State) :
    exec (.exchangeWindowEnd one cycles) s = .next (s.endWindow one) := by
  refine congrArg Host.Outcome.next (if_neg ?_)
  rintro ⟨ch1, -, -, off⟩
  obtain rfl | inside := h
  · exact absurd ch1 (by decide)
  · omega

/-- What the token and the acknowledgement do at a capture leaves the connections, the set, the requests, and the token words. -/
def State.sameCapture (s t : State) : Prop := t.si.conns = s.si.conns ∧ t.si.set = s.si.set ∧ t.si.reqs = s.si.reqs ∧ t.si.tokens = s.si.tokens

theorem State.sameCapture_of_si {s t : State} (h : t.si = s.si) : s.sameCapture t := by
  unfold State.sameCapture
  rw [h]
  exact ⟨rfl, rfl, rfl, rfl⟩

theorem State.sameCapture.trans {s t u : State} (h : s.sameCapture t) (k : t.sameCapture u) : s.sameCapture u :=
  ⟨k.1.trans h.1, k.2.1.trans h.2.1, k.2.2.1.trans h.2.2.1, k.2.2.2.trans h.2.2.2⟩

section
variable (s : State)

theorem State.ackRefused_si (cond : Nat) : (s.ackRefused cond).si = s.si := State.siRecord_si (s.flag SI_EVT.ACK) _ _

theorem State.setSack_sameCapture (one : Bool) (x : Sack) : s.sameCapture (s.setSack one x) := by
  cases one with
  | true => exact ⟨rfl, rfl, rfl, rfl⟩
  | false => exact ⟨rfl, rfl, rfl, rfl⟩

theorem State.judgeEnd_sameCapture (fails : Option Nat) (token : Option (Time × BitVec 8 × Bool)) : s.sameCapture (s.judgeEnd fails token).1 := by
  unfold State.judgeEnd
  split
  · next arms act =>
    have si := State.siRecord_si ({ s with si := { s.si with token := none } }.flag SI_EVT.ACK) 0x0204 [1, arms, 0]
    unfold State.sameCapture
    dsimp only
    rw [si]
    exact ⟨rfl, rfl, rfl, rfl⟩
  · exact State.sameCapture_of_si (State.ackRefused_si _ _)

theorem State.judgeReset_sameCapture : s.sameCapture s.judgeReset.1 := by
  unfold State.judgeReset
  split
  · exact ((State.setSack_sameCapture s true _).trans (State.setSack_sameCapture _ false _)).trans (State.judgeEnd_sameCapture _ _ _)
  · split
    · exact (State.setSack_sameCapture s true _).trans (State.sameCapture_of_si (State.ackRefused_si _ _))
    · split
      · exact (State.setSack_sameCapture s false _).trans (State.sameCapture_of_si (State.ackRefused_si _ _))
      · exact State.sameCapture_of_si rfl

theorem State.captureTokens_kept : s.captureTokens.si.conns = s.si.conns ∧ s.captureTokens.si.set = s.si.set ∧ s.captureTokens.si.reqs = s.si.reqs ∧ s.captureTokens.si.tokens = [] := by
  unfold State.captureTokens
  refine List.foldlRecOn (motive := fun u : State => u.si.conns = s.si.conns ∧ u.si.set = s.si.set ∧ u.si.reqs = s.si.reqs ∧ u.si.tokens = []) _ _ ⟨rfl, rfl, rfl, rfl⟩ fun u hu w _ => ?_
  split
  · exact hu
  · rw [State.ackRefused_si]
    exact hu

end

theorem tget_map {α β : Type} [DecidableEq α] (f : α → β) (l : List α) {c : α} (h : c ∈ l) (d : β) : tget (l.map fun x => (x, f x)) c d = f c := by
  induction l with
  | nil => exact absurd h List.not_mem_nil
  | cons x l ih =>
    show (if x = c then f x else tget (l.map fun x => (x, f x)) c d) = f c
    by_cases e : x = c
    · rw [if_pos e, e]
    · rw [if_neg e, ih ((List.mem_cons.mp h).resolve_left fun h => e h.symm)]

theorem State.conn_setConn (s : State) (c : Fin 64) (x : SignetConn) : (s.setConn c x).conn c = x := tget_tset_same _ _ _ _

theorem State.conn_setConn_ne (s : State) {c d : Fin 64} (x : SignetConn) (h : d ≠ c) : (s.setConn c x).conn d = s.conn d := tget_tset_ne _ _ _ h

/-- A judgement of a connection of the set, applied to it and to its copy in the snapshot. -/
theorem State.rejudge_kept {s : State} {c : Fin 64} {n : SafeSnap} {o : SafeObject} (snap : s.si.snap = some n) (object : s.object c = some o) (f : SignetRec → SignetConn → SignetConn) :
    (s.rejudge c f).conn c = f o.conn (s.conn c) ∧ ∃ m, (s.rejudge c f).si.snap = some m ∧ tget m.conns c {} = f o.conn (tget n.conns c {}) := by
  unfold State.rejudge
  rw [object]
  dsimp only
  rw [show (s.setConn c (f o.conn (s.conn c))).si.snap = some n from snap]
  exact ⟨State.conn_setConn s c _, _, rfl, tget_tset_same _ _ _ _⟩

/-- Settles O45: a capture by its connections, a window by what has come, a telegram and a judgement by the connection. -/
theorem safetyAndSignetCyclesComplete : Obligations.SafetyAndSignetCyclesComplete := by
  unfold Obligations.SafetyAndSignetCyclesComplete
  refine ⟨?_, ?_, ?_, ?_, ?_, ?_, ?_, ?_, ?_, ?_, ?_, ?_, ?_, ?_, ?_, ?_⟩
  · intro s state snap due
    show ∃ t, execSeparationCapture s = .next t ∧ _
    unfold execSeparationCapture
    rw [if_neg (by rw [snap]; exact fun h => h.elim state (fun h => h.elim (by decide) fun e => e due))]
    extract_lets w u
    have judged := State.judgeReset_sameCapture u
    have rest : u.sameBut (postParts ++ [.reg .si, .si]) u.judgeReset.1 := State.sameBut_of_op fun _ _ => State.judgeReset_framed
    have unow : u.now = max s.now w := rfl
    have same : s.sameCapture u := State.sameCapture_of_si rfl
    have utime : u.time = s.time := rfl
    generalize u.judgeReset = p at judged rest
    obtain ⟨a, reset⟩ := p
    dsimp -zeta only at judged rest ⊢
    extract_lets b conns ins snap base
    have tokens : a.sameBut (postParts ++ [.reg .si, .si]) b := State.sameBut_of_op fun _ _ => State.captureTokens_framed
    obtain ⟨connsB, setB, reqsB, tokensB⟩ := State.captureTokens_kept a
    obtain ⟨connsA, setA, reqsA, -⟩ := judged
    have bconns : b.si.conns = s.si.conns := connsB.trans connsA
    have bset : b.si.set = s.si.set := setB.trans setA
    have breqs : b.si.reqs = s.si.reqs := reqsB.trans reqsA
    have btokens : b.si.tokens = [] := tokensB
    have bnow : b.now = u.now := (tokens .now (by decide)).symm.trans (rest .now (by decide)).symm
    have btime : b.time = u.time := (tokens .time (by decide)).symm.trans (rest .time (by decide)).symm
    refine ⟨_, rfl, bnow.trans unow, rfl, btokens, ⟨snap, rfl, rfl, breqs⟩, fun c o listed object => ?_⟩
    have pset : b.pset = s.pset := congrArg (fun x : Option PSet => x.getD {}) bset
    have listed' : c ∈ b.connList := by
      unfold State.connList
      rw [pset]
      exact listed
    have object' : b.object c = some o := by
      unfold State.object
      rw [pset]
      exact object
    have conn : b.conn c = s.conn c := congrArg (fun l : List (Fin 64 × SignetConn) => tget l c {}) bconns
    have cell : b.cellAt w = (s.advance w).cellAt w := by
      unfold State.cellAt
      rw [btime]
    refine (tget_map _ _ listed' _).trans ?_
    rw [object']
    dsimp only
    rw [conn, cell]
  · intro one n s snap on
    show ∃ t, execChannelResultPosted one s = .next t ∧ _
    unfold execChannelResultPosted
    rw [snap]
    dsimp only
    rw [if_neg (by rw [on]; decide)]
    refine ⟨_, rfl, ?_, (State.chan_setChan s one _).2.1, State.setChan_sameBut s one _⟩
    exact congrArg SafeChannel.result (State.chan_setChan s one _).1
  · intro one r s result
    show ∃ t, execChannelResultArrival one s = .next t ∧ _
    unfold execChannelResultArrival
    rw [result]
    obtain ⟨own, other, -⟩ := State.chan_setChan s (!one) { s.chan (!one) with held := some r }
    rw [Bool.not_not] at other
    exact ⟨_, rfl, congrArg SafeChannel.held own, other, State.setChan_sameBut s _ _⟩
  · intro one cycles r q s snap window on count own held same
    obtain ⟨w, run, new, faults⟩ := State.endWindow_both snap window on own held
    rw [same, if_pos rfl] at run
    rw [same, if_neg fun h => h.1 rfl] at faults
    exact ⟨_, exchangeWindowEnd_inOrder count s, w, run, new.trans same, faults⟩
  · intro one cycles r q s snap window on count own held differ
    obtain ⟨w, run, new, faults⟩ := State.endWindow_both snap window on own held
    rw [if_neg differ] at run faults
    refine ⟨_, exchangeWindowEnd_inOrder count s, w, run, new, faults.trans ?_⟩
    simp only [differ, ne_eq, not_false_eq_true, true_and]
  · intro one cycles r s snap window on count own held
    exact ⟨_, exchangeWindowEnd_inOrder count s, State.endWindow_missing snap window on (by rw [own]; rfl) held⟩
  · intro one cycles s snap window on count own
    exact ⟨_, exchangeWindowEnd_inOrder count s, State.endWindow_silent snap window on own⟩
  · intro cycles r q s snap window on own held same off
    obtain ⟨w, run, new, faults⟩ := State.endWindow_both (one := true) snap window on own held
    rw [same, if_neg fun h => h.1 rfl] at faults
    have again : exec (.exchangeWindowEnd true cycles) s = .next ((s.endWindow true).islandFault 3) :=
      congrArg Host.Outcome.next (if_pos ⟨rfl, by rw [show (s.chan true).window = none from window]; rfl, by rw [w]; rfl, off⟩)
    refine ⟨_, again, ?_, ?_⟩
    · exact (congrArg SafeChannel.window (State.chan_islandFault _ 3 true)).trans w
    · rw [State.faults_islandFault, faults]
  · rintro n u v s snap rfl rfl
    show execSeparationCommit s = _
    unfold execSeparationCommit
    rw [snap]
  · intro one s set_
    have ran : exec (.psetCrcSweep one false) s = .next (s.islandFault 2) := congrArg Host.Outcome.next (if_neg fun h => h.elim (by decide) fun e => by
      rw [Option.isNone_eq_false_iff.mpr set_] at e
      exact absurd e (by decide))
    exact ⟨_, ran, State.faults_islandFault s 2, State.sameBut_of_op fun _ _ => State.islandFault_framed⟩
  · exact fun one ok s h => congrArg Host.Outcome.next (if_pos (h.imp id fun e => by rw [e]; rfl))
  · intro s
    refine ⟨_, rfl, State.faults_islandFault _ 4, ?_, sameBut_of_exec (c := .coreSupplyWindowFault) rfl⟩
    unfold State.islandFault State.mishap
    split
    · rfl
    · rfl
  · intro at_ q r s queue none_
    show ∃ t, execSignetTelegramRx at_ s = .next t ∧ _
    unfold execSignetTelegramRx
    rw [queue]
    dsimp only
    rw [show (({ s with si := { s.si with queue := r } } : State).advance at_).matchConn q.port q.udp q.bytes = none from none_]
    exact ⟨_, rfl, rfl⟩
  · intro at_ q r c o s queue found object
    show ∃ t, execSignetTelegramRx at_ s = .next t ∧ _
    unfold execSignetTelegramRx
    rw [queue]
    dsimp only
    rw [show (({ s with si := { s.si with queue := r } } : State).advance at_).matchConn q.port q.udp q.bytes = some c from found]
    dsimp only
    rw [show (({ s with si := { s.si with queue := r } } : State).advance at_).object c = some o from object]
    dsimp only
    generalize signetItem o.conn q at_ = item
    obtain ⟨x, err⟩ := item
    dsimp only
    generalize base : ({ s with si := { s.si with queue := r } } : State).advance at_ = u
    have conn : ∀ d, u.conn d = s.conn d := fun d => by rw [← base]; rfl
    have now_ : u.now = max s.now at_ := by rw [← base]; rfl
    have rest : u.si.queue = r := by rw [← base]; rfl
    have entry : (u.setConn c { u.conn c with inbox := (u.conn c).inbox ++ [x] }).conn c = { s.conn c with inbox := (s.conn c).inbox ++ [x] } := by
      rw [State.conn_setConn, conn]
    have others : ∀ d, d ≠ c → (u.setConn c { u.conn c with inbox := (u.conn c).inbox ++ [x] }).conn d = s.conn d := fun d h => (State.conn_setConn_ne u _ h).trans (conn d)
    cases err with
    | none => exact ⟨_, rfl, now_, rest, entry, others⟩
    | some k =>
      have posted := State.sameBut_post (u.setConn c { u.conn c with inbox := (u.conn c).inbox ++ [x] }) 0x0210 1 o.conn.src [BitVec.ofNat 8 c.val, BitVec.ofNat 8 k]
      have si := (posted .si (by decide)).symm
      refine ⟨_, rfl, (posted .now (by decide)).symm.trans now_, (congrArg Island.queue si).trans rest, ?_, fun d h => ?_⟩
      · exact (congrArg (fun i : Island => tget i.conns c {}) si).trans entry
      · exact (congrArg (fun i : Island => tget i.conns d {}) si).trans (others d h)
  · intro c n o s snap object
    show ∃ t, execSignetWatchdogExpiry c s = .next t ∧ _
    unfold execSignetWatchdogExpiry
    rw [snap]
    exact ⟨_, rfl, State.rejudge_kept snap object fun r x => x.watchdog r n.at_⟩
  · intro c n o s snap object
    show ∃ t, execSignetDegradedExpiry c s = .next t ∧ _
    unfold execSignetDegradedExpiry
    rw [snap]
    exact ⟨_, rfl, State.rejudge_kept snap object fun r x => x.expire r n.commitAt⟩

end Sys2Proof.Machine
